-- ==== Sys2Proof/Word.lean ====
section
/-! DEFINITION. The words of the package and of its commands: bytes, 64-bit register words, and the names a
command uses for functions, cores and engine queues. -/
namespace Sys2Proof

/-- A byte of memory. -/
abbrev Byte := BitVec 8

/-- A register of PF BAR0 (R548: every register is 64 bits wide). -/
abbrev Word := BitVec 64

/-- A 128-bit engine instruction or floating-point register (R159, R214). -/
abbrev Quad := BitVec 128

end Sys2Proof
end

