-- ==== Sys2Proof/Syntax.lean ====
section
/-! DEFINITION. The commands of the package: one constructor of `Instr` per row of spec/opcode_table.json.
The table gives no bits, so a command's operands are the things its rule names: the unit it falls on, the
values a write or a message carries, and, where a rule compares times, the package time `at` (in ns) at which
it falls. -/
namespace Sys2Proof

/-- A function of the host interface that writes registers (R450, R451), or the management path (R581). -/
inductive Fn where
  /-- PF0 to PF3. -/
  | pf (n : Nat)
  /-- A virtual function, 0 to 4,095. -/
  | vf (v : Nat)
  /-- A rack-manager message on VC6 or an MCTP message (R581). -/
  | mgmt
deriving DecidableEq, Repr

/-- A Jumbe core (R213): the control core of a T-core, or a P application core, by global index (R6, R16). -/
inductive CoreId where
  | tc (n : Nat)
  | pc (n : Nat)
deriving DecidableEq, Repr

/-- The three engine queues of a T-core. -/
inductive EngineQ where
  | me
  | ve
  | fe
deriving DecidableEq, Repr

/-- Which part of a register a write carries (R548): all 8 bytes, or one aligned 4 B half. -/
inductive WrSize where
  | whole
  | low
  | high
deriving DecidableEq, Repr

/-- Who moves data: a fetch engine, or a ring operation in flight by its slot (R284). -/
inductive Mover where
  | fe (core : Nat)
  | op (slot : Nat)
deriving DecidableEq, Repr

/-- Who makes a beacon access (R426, R430). -/
inductive Who where
  /-- The control core or an engine of a T-core. -/
  | tcore (n : Nat)
  /-- A P application core. -/
  | pcore (n : Nat)
  /-- A solver engine. -/
  | se (n : Nat)
  /-- A ring operation or context of a VF. -/
  | vf (v : Nat)
  /-- A host context of PF0 to PF3. -/
  | pf (n : Nat)
  /-- A core or host context of another package, through the beacon window under its key (R344). -/
  | peer (ldn unit tenant : Nat) (isPf : Bool)
deriving DecidableEq, Repr

/-- Errors of the VE's lanes in an instruction and in its re-execution (R184 to R186): elements and the bits of their
results that flip. -/
structure VeErrors where
  first : List (Nat × Nat)
  second : List (Nat × Nat)
deriving DecidableEq, Repr

/-- What a hardware error does to an exact value: it is off by units of the lowest weight, or it turns into a NaN. -/
inductive ErrVal where
  | units (n : Int)
  | nan
deriving DecidableEq, Repr

/-- A hardware error of the matrix engine (R172), with the physical column it strikes. -/
inductive MeError where
  /-- In a product, a band partial or a column sum: the contribution to output (row, column). -/
  | contribution (row col phys : Nat) (e : ErrVal)
  /-- A stationary register that has changed since its LOADS: element number and flipped bits. -/
  | stationary (elem flip phys : Nat)
  /-- In sigma, the lane's rho or its sum of a streamed row or K-vector. -/
  | lane (index : Nat) (e : ErrVal)
  /-- In a long accumulator or the accumulator file: the entry of output (row, column). -/
  | entry (row col phys : Nat) (e : ErrVal)
  /-- In a lane accumulator entry. -/
  | laneEntry (index : Nat) (e : ErrVal)
  /-- In the drain: bits of output (row, column) that flip in one of the two rounders. -/
  | rounder (row col phys flip : Nat)
deriving DecidableEq, Repr

/-- A master of a core's own that requests a bank of its scratchpad (R274). -/
inductive PadMaster where
  | me
  | ve
  | fe
  | core
deriving DecidableEq, Repr

/-- A request that one port of a scratchpad makes in an array cycle (R276). -/
inductive PortReq where
  | none
  | read
  | write (data : Word)
deriving DecidableEq, Repr

/-- What comes back for an element or row in flight (R287): its bytes, an acknowledged write, or a fault code
of R443. -/
inductive ElemResp where
  | data (bytes : List Byte)
  | ack
  | fault (status : Nat)
deriving DecidableEq, Repr

/-- A rack request as it reaches its home (R317, R325, R332, R344, R348). -/
structure RackReq where
  /-- Issuing package, and the unit of it (R430). -/
  src : Nat
  who : Who
  /-- Identifier the source gave the request. -/
  id : Nat
  /-- Descriptor and byte offset of the rack-global address (R318). -/
  desc : Nat
  off : Nat
  /-- Bytes asked for or carried. -/
  len : Nat
  /-- Key attached by the source (R345). -/
  key : Nat
  /-- Issuer's transit number (R332). -/
  transit : Nat
  /-- Marked as originated by a PF0 or PF2 context (R348). -/
  service : Bool
  /-- The request came over a link that passed authentication, or over the mesh (R348). -/
  authed : Bool
deriving DecidableEq, Repr

/-- A message inside a flit: its route header (R360) and its body in bytes. -/
structure Msg where
  msgType : Nat
  dst : Nat
  src : Nat
  hops : Nat
  len : Nat
  dstRack : Nat
  srcRack : Nat
  body : List Byte
deriving DecidableEq, Repr

/-- A flit that has passed the FEC and the CRC-64 (R358, R359). -/
structure Flit where
  ftype : Nat
  vc : Nat
  enc : Bool
  seq : Nat
  ackSeq : Nat
  ackValid : Bool
  gap : Bool
  keyPhase : Bool
  crVc : Nat
  crClass : Nat
  crCount : Nat
  used : Nat
  rsv : Nat
  txCount : Nat
  /-- The FEC corrected symbols of this flit (R359). -/
  corrected : Bool
  /-- The GCM tag verifies (R381); meaningless while `enc` is false. -/
  tagOk : Bool
  msgs : List Msg
  /-- The 22 credit counts of an ACK flit (R358). -/
  credits : List Nat
deriving DecidableEq, Repr

/-- The collective header of a VC3 DATA message (R400), with one packet's payload. -/
structure ColHdr where
  cst : Nat
  epoch : Nat
  seq : Nat
  srcIndex : Nat
  dstCluster : Nat
  lastPkt : Bool
  pkt : Nat
  msg : Nat
  exact : Bool
deriving DecidableEq, Repr

/-- The outcome of a NEGOTIATE exchange as the peer states it (R356, R387, R389). -/
structure PeerInfo where
  verLow : Nat
  verHigh : Nat
  rack : Nat
  slot : Nat
  port : Nat
  ldn : Nat
  serial : Word
  encEn : Bool
  delayNs : Nat
  /-- Receive-buffer allocation of the peer in units of 16 flits, VC0 to VC7 (R370). -/
  cred : List Nat
deriving DecidableEq, Repr

/-- Element-wise operations of the scalar, SV and LV arithmetic (R215, R216). -/
inductive AluOp where
  | add | sub | mul | fma | div | sqrt | min | max | minNum | maxNum | abs | neg
  | and | or | xor | shl | shr | sra
  | cmpEq | cmpNe | cmpUnord | cmpLt | cmpLe | cmpGt | cmpGe
  | cmpLtQ | cmpLeQ | cmpGtQ | cmpGeQ | totalOrd | select | move | convert
deriving DecidableEq, Repr

/-- Status registers of a Jumbe core (R221, R239). -/
inductive StatusReg where
  | fpsr | ffe | trapElem | trapAddr | cause | xaccTerms | meWidth
deriving DecidableEq, Repr

/-- Integer, logic and branch instructions of a Jumbe core, and the read of a status register (R221, R239, R584). -/
inductive IntOp where
  | add | sub | mul | and | or | xor | shl | shr | sra | slt | sltu | li
  | beq | bne | blt | bge | bltu | bgeu | jal | jalr
  | readStatus (r : StatusReg)
deriving DecidableEq, Repr

/-- A coherent transaction at a home directory (R294). -/
inductive CohReq where
  /-- A P core reads the line. -/
  | pRead (core : Nat)
  /-- A P core takes the line for writing. -/
  | pWrite (core : Nat)
  /-- A P core gives the line up, dirty or clean. -/
  | pEvict (core : Nat) (dirty : Bool)
  /-- A fetch engine reads the line without allocating. -/
  | feRead
  /-- A fetch engine writes the line. -/
  | feWrite
  /-- The directory entry is evicted. -/
  | dirEvict
deriving DecidableEq, Repr

/-- What training reads of a channel's devices (R299, R300). -/
structure ChanFit where
  /-- Training succeeded and both devices of a clamshell match. -/
  ok : Bool
  devices : Nat
  /-- 0 for 16 Gb, 1 for 24 Gb. -/
  density : Nat
  /-- 0 for 32 Gb/s, 1 for 28 Gb/s, 2 for 24 Gb/s. -/
  rate : Nat
deriving DecidableEq, Repr

/-- A unit that a recovery acts on (R492). -/
inductive Domain where
  | tcore (n : Nat)
  | pcore (n : Nat)
  | se (n : Nat)
  | cluster (n : Nat)
  | stack (n : Nat)
  | partition (n : Nat)
  | package
deriving DecidableEq, Repr

/-- One sample of a die's health at self-test (R470): unit kind and index of a failed unit. -/
inductive FailedUnit where
  | tcore (n : Nat)
  | column (core col : Nat)
  | pcore (n : Nat)
  | se (n : Nat)
  | llmUnit (n : Nat)
  | channel (n : Nat)
  | port (n : Nat)
  | die (n : Nat)
  /-- A die of R41's exceptions that cannot be brought up, with the cause code of GLB_BOOT.halt_code. -/
  | fatalDie (n code : Nat)
deriving DecidableEq, Repr

/-- What the members of a partitioned solve on other packages bring to a reduction (R264 to R267): the sum of their raw
entries, the hashes of their shared fields, the stop that one of them has decided (0 for none), and whether one is
lost. -/
structure SolveFar where
  entry : List Byte
  hashes : List (BitVec 32)
  stop : Nat
  lost : Bool
deriving DecidableEq, Repr

/-- The reference clock inputs of R36. -/
inductive RefClk where
  | mhz100
  | mhz156
  | mhz25
  | khz32
deriving DecidableEq, Repr


/-- The commands: one constructor per row of spec/opcode_table.json, in its order. -/
inductive Instr where
  /-- D2D_RETRY (R29). The die-to-die adapter detects a CRC error and retries the transfer at link level, with no loss and no duplication, and logs CORRECTED. -/
  | d2dRetry (a : Nat) (b : Nat)
  /-- MODULE_RETIRED (R30). A module of a multi-module mesh link fails training or is retired; the link runs on the remaining modules and the event is logged HARD. -/
  | moduleRetired (a : Nat) (b : Nat) (m : Nat)
  /-- LINK_LOST (R31). Every module of a mesh link, or a single-module link, is lost, which is PACKAGE_FATAL. -/
  | linkLost (a : Nat) (b : Nat)
  /-- MODULE_RETRAIN_DONE (R32). A mesh module retrain completes within 20 us, and traffic held in its class buffers resumes. -/
  | moduleRetrainDone (a : Nat) (b : Nat) (m : Nat)
  /-- SUBMIT (R557). PF0 or PF1 writes submit, which starts validation of the staging area as a partial image; while validation runs, submits and staging writes are discarded and busy_err is set. -/
  | submit (fn : Fn)
  /-- VALIDATION_DONE (R56). Validation of an image ends; the step code and offset are reported, and an accepted partial image reserves its resources. -/
  | validationDone
  /-- WITHDRAW (R63). Host software withdraws the pending image of wd_partition; its reservations are released and fetching resumes at the next transit. -/
  | withdraw (fn : Fn) (p : Nat)
  /-- RESTRUCTURE_WAIT_EXPIRY (R63). No quiet transit has occurred within restructure_wait transits, so the image is withdrawn with code WITHDRAWN. -/
  | restructureWaitExpiry (p : Nat)
  /-- APPLY_COMPLETE (R64). Application of a partial image completes: units are zeroed and the structure hash is updated, and fetching resumes at the next transit. -/
  | applyComplete (p : Nat)
  /-- CHANNEL_ZERO_DONE (R65). Zeroing of a released GDDR7 channel completes, and the channel becomes free. -/
  | channelZeroDone (ch : Nat)
  /-- IMAGE_LOADED (R60). Start-up validation of both boot-flash images ends, and the valid copy with the higher sequence is loaded, or no partitions are formed under R61. -/
  | imageLoaded
  /-- PERIOD_NEXT_WRITE (R68). A write of the pending period and its transit schedules the period change; a period out of range is ignored and period_err is set. -/
  | periodNextWrite (fn : Fn) (period : Word) (atTransit : Word)
  /-- CANDIDATE (R70). A CANDIDATE message arrives on VC0; it is relayed, and a candidate that hears a better one withdraws. -/
  | candidate (link : Nat) (hops : Nat) (prio : Nat) (phys : Nat) (number : Nat)
  /-- ELECTION_QUIET_EXPIRY (R71). A candidate that has heard no better candidate for 1 ms and has a quorum of acknowledgements becomes master. -/
  | electionQuietExpiry (now : Nat)
  /-- MASTER (R72). A MASTER message announces a new master and the first transit number, which continues from the highest transit held. -/
  | master (link : Nat) (hops : Nat) (phys : Nat) (ldn : Nat) (first : Nat)
  /-- MASTER_LOST_TIMEOUT (R73). No SCHEDULE has arrived by the nominal next transit plus max_stretch plus 10 us, so master_lost is set and an election starts. -/
  | masterLostTimeout (now : Nat)
  /-- SCHEDULE (R78). A SCHEDULE marker arrives; it is relayed once, rack time is corrected, and the fire time of the transit is set. -/
  | schedule (now : Nat) (link : Nat) (hops : Nat) (n : Nat) (fire : Nat) (period : Nat) (origin : Nat) (delay : Nat)
  /-- DARK (R90). A DARK message lists the (package, partition) pairs darkened for the step; each darkened package sets late. -/
  | dark (link : Nat) (hops : Nat) (n : Nat) (pairs : List (Nat × Nat)) (last : Bool)
  /-- SYNC_TIMER (R74). Every 100 us the master sends a SYNC message. -/
  | syncTimer (now : Nat)
  /-- SYNC (R75). A SYNC message arrives; it is relayed with the path delay added, and rack time is slewed, stepped or held under R76. -/
  | sync (now : Nat) (link : Nat) (hops : Nat) (origin : Nat) (delay : Nat)
  /-- LINK_DELAY_MEASURE (R75). At link bring-up and every 10 ms, the one-way link delay is measured by a timestamp exchange. -/
  | linkDelayMeasure (port : Nat) (roundTrip : Nat)
  /-- DONE_SEND (R88). Once every partition of the package is accounted done for the step, the package sends DONE to the master. -/
  | doneSend
  /-- DONE (R88). A DONE message from a member arrives at the master. -/
  | done (now : Nat) (link : Nat) (hops : Nat) (n : Nat) (ldn : Nat)
  /-- SCHEDULE_DECISION (R89). At lead before the nominal time the master schedules the next transit when it holds every DONE, or else applies STRETCH. -/
  | scheduleDecision (now : Nat)
  /-- STRETCH_LIMIT_EXPIRY (R89). The stretch reaches max_stretch minus lead, so the master sends SCHEDULE and darkens the pairs not accounted done. -/
  | stretchLimitExpiry (now : Nat)
  /-- TRANSIT_FIRE (R79). The local transit fires at its fire time: TRANSIT_OUT rises, the step bits clear, and everything that the manual places at a transit takes effect. -/
  | transitFire (now : Nat)
  /-- WINDOW_BOUNDARY (R81). A compute or exchange window of a partition ends; step_phase advances and the window beacon is added to when beacon_en is 1. -/
  | windowBoundary (now : Nat) (p : Nat)
  /-- WATCHDOG_WARN (R86). 90 % of a window has elapsed with its done bit clear, so warn is set, an entry is logged and PF1's watchdog vector is raised. -/
  | watchdogWarn (now : Nat) (p : Nat)
  /-- STEP_DONE_WRITE (R84). A write through TRN_PART_STEP, the step port or VF_STEP sets compute_done, exchange_done or step_done of the partition under the W1S rule. -/
  | stepDoneWrite (who : Who) (p : Nat) (value : Word)
  /-- WINDOW_WRITE (R82). A run-time write of a partition's windows takes effect at the next transit, or is ignored with win_err when it does not total 1,000. -/
  | windowWrite (fn : Fn) (p : Nat) (sz : WrSize) (value : Word)
  /-- DROOP_DETECT (R97). A droop detection halves every stretchable domain of the die within 2 cycles, or restarts the count of a stretch in progress. -/
  | droopDetect (now : Nat) (die : Nat)
  /-- DROOP_STRETCH_END (R97). After 64 half-speed reference cycles with no detection, the die's domains return to full frequency. -/
  | droopStretchEnd (now : Nat) (die : Nat)
  /-- OVER_MARGIN (R100). A partition's lost time in the step passes droop_margin, so over_margin_count increments and CORRECTED is logged. -/
  | overMargin (p : Nat)
  /-- QPUSH_ME (R163). The control core checks an engine instruction and writes it into the ME queue, or raises ILLEGAL. -/
  | qpushMe (u : CoreId) (fs1 : Nat)
  /-- LOADS (R150). The ME starts a LOADS, which fills the shadow set row by row under the set interlocks. -/
  | loads (c : Nat)
  /-- SWAP (R150). The ME starts a SWAP, which attaches to the next STREAM, or is refused with SWAP_PENDING. -/
  | swap (c : Nat)
  /-- STREAM (R151). The ME starts a STREAM, which multiplies the streamed operand against the active set and adds the exact products into the accumulator entries. -/
  | stream (c : Nat) (errs : List MeError)
  /-- DRAIN (R147). The ME starts a DRAIN, which checks, rounds and writes or hands on the entries of a tile and empties them. -/
  | drain (c : Nat) (errs : List MeError)
  /-- MODE (R162). The ME starts a MODE, which waits for idle ports, invalidates both sets and reconfigures the array, or is refused with UNDRAINED. -/
  | mode (c : Nat)
  /-- SCALE (R160). The ME starts a SCALE, which sets the output scale for later rounded drains. -/
  | scale (c : Nat)
  /-- WAITB (R160). An engine queue (ME, VE or FE) starts a WAITB and holds until the beacon reaches the threshold, or halts with BEACON. -/
  | waitb (c : Nat) (q : EngineQ)
  /-- FENCE (R160). An engine queue starts a FENCE and holds until every earlier instruction of that engine has completed and is visible. -/
  | fence (c : Nat) (q : EngineQ)
  /-- PX_RUN_COMPLETE (R174). A re-execution or isolation run of a parallax sequence completes, and the sequence decides on twinkle, bisection, retirement or CHECK_FAIL. -/
  | pxRunComplete (c : Nat) (errs : List MeError)
  /-- PX_CORE_RETIRE (R179). The last started instruction after a CHECK_FAIL completes, so a ring operation completes CHECK_FAIL and the T-core is retired. -/
  | pxCoreRetire (c : Nat)
  /-- EXCEPTION_RETURN (R179). A control core returns from its exception handler; after a parallax failure this retires the T-core. -/
  | exceptionReturn (u : CoreId)
  /-- PX_HANDLER_TIMEOUT (R179). 100 us after a parallax-fail exception has been taken, the T-core is retired. -/
  | pxHandlerTimeout (c : Nat)
  /-- PX_INJECT (R190). A write of inject adds one error to inject_col's contribution to the next streamed row. -/
  | pxInject (fn : Fn) (c : Nat) (col : Nat) (persist : Bool)
  /-- QUEUE_SKIP (R164). A write of skip to the ME, VE or FE control register discards the halted instruction and resumes the queue. -/
  | queueSkip (fn : Fn) (c : Nat) (q : EngineQ)
  /-- QUEUE_FLUSH (R164). A write of flush discards the halted instruction and every queued instruction, including an untaken to_ve stream. -/
  | queueFlush (fn : Fn) (c : Nat) (q : EngineQ)
  /-- QPUSH_VE (R200). The control core checks a VE instruction and writes it into the VE queue, or raises ILLEGAL. -/
  | qpushVe (u : CoreId) (fs1 : Nat)
  /-- VLD (R197). A VE load widens elements from the scratchpad into a vector register, or halts with POISON. -/
  | vld (c : Nat) (err : VeErrors)
  /-- VST (R197). A VE store rounds elements to the memory format and writes them to the scratchpad. -/
  | vst (c : Nat) (err : VeErrors)
  /-- VMOV (R197). A VE move copies elements without changing a bit. -/
  | vmov (c : Nat) (err : VeErrors)
  /-- VBCAST (R196). A VE broadcast writes the 64-bit immediate to n elements. -/
  | vbcast (c : Nat) (err : VeErrors)
  /-- VCVT (R197). A VE conversion converts elements under R124 and R125. -/
  | vcvt (c : Nat) (err : VeErrors)
  /-- VADD (R197). A VE element-wise add. -/
  | vadd (c : Nat) (err : VeErrors)
  /-- VSUB (R197). A VE element-wise subtract. -/
  | vsub (c : Nat) (err : VeErrors)
  /-- VMUL (R197). A VE element-wise multiply. -/
  | vmul (c : Nat) (err : VeErrors)
  /-- VFMA (R197). A VE fused multiply-add with one rounding. -/
  | vfma (c : Nat) (err : VeErrors)
  /-- VMIN (R197). A VE IEEE minimum. -/
  | vmin (c : Nat) (err : VeErrors)
  /-- VMAX (R197). A VE IEEE maximum. -/
  | vmax (c : Nat) (err : VeErrors)
  /-- VMINNUM (R197). A VE minimumNumber. -/
  | vminnum (c : Nat) (err : VeErrors)
  /-- VMAXNUM (R197). A VE maximumNumber. -/
  | vmaxnum (c : Nat) (err : VeErrors)
  /-- VABS (R197). A VE absolute value. -/
  | vabs (c : Nat) (err : VeErrors)
  /-- VNEG (R197). A VE negation. -/
  | vneg (c : Nat) (err : VeErrors)
  /-- VAND (R197). A VE bitwise AND. -/
  | vand (c : Nat) (err : VeErrors)
  /-- VOR (R197). A VE bitwise OR. -/
  | vor (c : Nat) (err : VeErrors)
  /-- VXOR (R197). A VE bitwise XOR. -/
  | vxor (c : Nat) (err : VeErrors)
  /-- VSHL (R197). A VE shift left. -/
  | vshl (c : Nat) (err : VeErrors)
  /-- VSHR (R197). A VE shift right. -/
  | vshr (c : Nat) (err : VeErrors)
  /-- VDIV (R197). A VE correctly rounded division. -/
  | vdiv (c : Nat) (err : VeErrors)
  /-- VSQRT (R197). A VE correctly rounded square root. -/
  | vsqrt (c : Nat) (err : VeErrors)
  /-- VCMP (R197). A VE compare writes a predicate register under the predicate code. -/
  | vcmp (c : Nat) (err : VeErrors)
  /-- VTOTORD (R197). A VE totalOrder compare writes a predicate register. -/
  | vtotord (c : Nat) (err : VeErrors)
  /-- VSEL (R197). A VE select chooses elements by predicate. -/
  | vsel (c : Nat) (err : VeErrors)
  /-- VTR (R201). A VE transcendental function, with subnormal inputs flushed. -/
  | vtr (c : Nat) (err : VeErrors)
  /-- VSEG (R199). A VE segmented condense of groups of g elements, summed in the pairwise tree. -/
  | vseg (c : Nat) (err : VeErrors)
  /-- VRECV (R202). A VE instruction takes n drained elements from the ME stream and applies one lane operation, or halts with FORMAT. -/
  | vrecv (c : Nat) (err : VeErrors)
  /-- VRGET (R209). A VE instruction reads a reduction slot into a vector register, rounding it. -/
  | vrget (c : Nat) (err : VeErrors)
  /-- MIRROR_MODE_APPLY (R185). A change of mirror_en takes effect once the VE queue is empty. -/
  | mirrorModeApply (c : Nat)
  /-- QPUSH_FE (R285). The control core checks an FE instruction and writes it into the FE queue, or raises ILLEGAL. -/
  | qpushFe (u : CoreId) (fs1 : Nat)
  /-- QSYNC (R233). The control core waits until the instructions pushed earlier into the named queues have completed, or ends on a halt. -/
  | qsync (u : CoreId) (mask : Nat)
  /-- QDEPTH (R233). The control core reads the depth of a queue into a register. -/
  | qdepth (u : CoreId) (xd : Nat) (func : Nat)
  /-- SRGET (R233). The control core reads the stochastic-rounding seed or counter. -/
  | srget (u : CoreId) (xd : Nat) (func : Nat)
  /-- SRPUT (R235). The control core writes the seed or counter once the instructions pushed earlier have issued. -/
  | srput (u : CoreId) (xs : Nat) (func : Nat)
  /-- XCLR (R230). Empties the exact accumulator. -/
  | xclr (u : CoreId)
  /-- XDOT (R230). Adds two exact FP64 products into the exact accumulator. -/
  | xdot (u : CoreId) (fs1 : Nat) (fs2 : Nat)
  /-- XADD (R230). Adds two FP64 elements exactly into the exact accumulator. -/
  | xadd (u : CoreId) (fs1 : Nat)
  /-- XRND (R230). Rounds the exact accumulator once to FP64. -/
  | xrnd (u : CoreId) (fd : Nat) (func : Nat)
  /-- XSAVE (R230). Stores the raw exact accumulator entry to memory. -/
  | xsave (u : CoreId) (fs1 : Nat)
  /-- XLOAD (R230). Loads a raw exact accumulator entry from memory and sets the term count. -/
  | xload (u : CoreId) (fs1 : Nat)
  /-- VECTOR_LOAD (R225). A unit-stride vector load, which traps precisely at the first faulting element. -/
  | vectorLoad (u : CoreId) (word : BitVec 32)
  /-- VECTOR_STORE (R225). A unit-stride vector store, which traps precisely at the first faulting element. -/
  | vectorStore (u : CoreId) (word : BitVec 32)
  /-- VLFF (R226). A first-fault vector load delivers elements up to the first fault and records it in JB_FFE. -/
  | vlff (u : CoreId) (word : BitVec 32)
  /-- VECTOR_ARITH (R216). An SV or LV arithmetic, comparison or selection instruction. -/
  | vectorArith (u : CoreId) (op : AluOp) (word : BitVec 32)
  /-- WIDENING_MULTIPLY (R228). An exact widening multiply into the wider element type. -/
  | wideningMultiply (u : CoreId) (word : BitVec 32)
  /-- DOT_PRODUCT (R229). A dot product into wider lanes, rounded once. -/
  | dotProduct (u : CoreId) (word : BitVec 32)
  /-- SCALAR_FP_OP (R215). A scalar floating-point instruction. -/
  | scalarFpOp (u : CoreId) (op : AluOp) (fmt : Nat) (fd : Nat) (fs1 : Nat) (fs2 : Nat)
  /-- INTEGER_OP (R584). An integer arithmetic, logic or branch instruction. -/
  | integerOp (u : CoreId) (op : IntOp) (xd : Nat) (xs1 : Nat) (xs2 : Nat) (imm : Word)
  /-- SCALAR_LOAD (R583). A control-core or P-core load, from its own scratchpad or over the mesh. -/
  | scalarLoad (u : CoreId) (xd : Nat) (xs1 : Nat) (imm : Word) (size : Nat) (signed : Bool)
  /-- SCALAR_STORE (R583). A store, posted when it goes outside the core's own scratchpad. -/
  | scalarStore (u : CoreId) (xs1 : Nat) (xs2 : Nat) (imm : Word) (size : Nat)
  /-- LOAD_DATA_RETURN (R583). Data for a load outside the scratchpad returns and fills its pending register: that of pending load `k`, oldest first. -/
  | loadDataReturn (u : CoreId) (k : Nat)
  /-- JUMBE_FENCE (R583). A Jumbe FENCE waits until every earlier store and atomic is acknowledged or has failed, and reports failures. -/
  | jumbeFence (u : CoreId)
  /-- FPSR_WRITE (R222). A JB_FPSR write takes effect in program order. -/
  | fpsrWrite (u : CoreId) (value : Word)
  /-- TRAP_ELEM_WRITE (R239). A trap handler writes JB_TRAP_ELEM to restart an access from a chosen element. -/
  | trapElemWrite (u : CoreId) (value : Nat)
  /-- EXCEPTION_TAKE (R238). A pending engine or memory exception is taken at the next instruction boundary, lowest code first. -/
  | exceptionTake (u : CoreId)
  /-- ASSEMBLE (R243). The ring operation ASSEMBLE starts on the front stage of the partition's P-die. -/
  | assemble (slot : Nat)
  /-- ASSEMBLE_DONE (R248). Assembly ends, writing the matrix object, or completes INTERNAL on a bad index or size. -/
  | assembleDone (slot : Nat)
  /-- SOLVE (R249). The ring operation SOLVE is validated, or completes INTERNAL with MALFORMED. -/
  | solve (slot : Nat)
  /-- SOLVE_START (R250). A solve starts once its SE or any SE of the partition is free. -/
  | solveStart (now : Nat) (slot : Nat) (se : Nat)
  /-- SOLVE_ITERATION (R259). An iteration boundary tests convergence, breakdown, the cap and the deadline, and may update x_best. -/
  | solveIteration (now : Nat) (se : Nat)
  /-- SOLVE_DEADLINE_CHECK (R260). At least every 1 us the SE compares rack time with D and abandons the current iteration once it is reached. -/
  | solveDeadlineCheck (now : Nat) (se : Nat)
  /-- CALLBACK_TIMEOUT (R258). A callback wait longer than 100 ms without a deadline ends the solve with FAULT_TIMEOUT. -/
  | callbackTimeout (now : Nat) (se : Nat)
  /-- SOLVE_REDUCTION (R265). The partials of a partitioned solve meet and are added exactly, and every member rounds the same total. -/
  | solveReduction (se : Nat) (far : SolveFar)
  /-- SOLVE_RETURN_DONE (R262). The copy of x_best and the recheck of the residual complete; a second mismatch ends in CHECK_FAIL and retires the SE. `first` and `second` are the errors of the two copies: element, flipped bits. -/
  | solveReturnDone (now : Nat) (se : Nat) (first : List (Nat × Word)) (second : List (Nat × Word)) (tookNs : Nat)
  /-- SOLVE_ABORT (R272). A write of abort stops the solve at the next boundary. -/
  | solveAbort (fn : Fn) (se : Nat)
  /-- MESH_SCRATCHPAD_ACCESS (R276). A mesh request reaches a scratchpad through port B or as an FE-ranked request, with same-word collisions resolved. -/
  | meshScratchpadAccess (c : Nat) (off : Nat) (who : PadMaster) (a : PortReq) (b : PortReq)
  /-- MOVE (R284). An FE or ring MOVE copies rows into or out of the scratchpad. -/
  | move (who : Mover)
  /-- GATHER (R284). An FE or ring indexed fetch into the scratchpad. -/
  | gather (who : Mover)
  /-- SCATTER (R284). An FE or ring indexed store out of the scratchpad. -/
  | scatter (who : Mover)
  /-- FE_ELEMENT_RESPONSE (R287). A response for an element in flight arrives, is reordered and committed in order, or faults. -/
  | feElementResponse (who : Mover) (e : Nat) (r : ElemResp)
  /-- FE_COMPLETE (R288). An FE instruction completes after its in-flight elements settle, recording first_bad and landed_mask on a fault. -/
  | feComplete (who : Mover)
  /-- SRAM_POISON (R281). A double-bit error poisons a scratchpad or staging word and is logged HARD. -/
  | sramPoison (pa : Nat) (bits : Nat)
  /-- COMPAT_WRITE (R280). A write of compat changes the banking mode when the engines are idle, or is ignored with mode_err. -/
  | compatWrite (fn : Fn) (c : Nat) (v : Bool)
  /-- COMPAT_ZERO_DONE (R280). Zeroing of the scratchpad after a mode change completes. -/
  | compatZeroDone (c : Nat)
  /-- DIRECTORY_TRANSACTION (R294). A home M-die directory handles one coherent transaction on a line. -/
  | directoryTransaction (line : Nat) (r : CohReq)
  /-- WCB_IDLE_DRAIN (R292). A write-combining entry idle for 1 us drains as a read-merge-write. -/
  | wcbIdleDrain (m : Nat) (line : Nat)
  /-- LLM_WRITEBACK (R297). A write of writeback writes back every dirty line of the slice's cache units. -/
  | llmWriteback (fn : Fn) (slice : Nat)
  /-- LLM_WRITEBACK_DONE (R297). The slice writeback completes and wb_busy clears. -/
  | llmWritebackDone (slice : Nat)
  /-- LLM_POISON (R289). A double-bit error poisons an LLM word and is logged LLM_POISON. -/
  | llmPoison (pa : Nat) (bits : Nat)
  /-- GDDR7_ACCESS (R309). A channel scheduler issues a read or write burst by class, row state and direction. -/
  | gddr7Access (ch : Nat)
  /-- CHANNEL_TRAIN_DONE (R299). Start-up training of a channel ends with the channel zeroed and ready, stepped down in rate, or retired. -/
  | channelTrainDone (ch : Nat) (fit : ChanFit)
  /-- CRC_ERROR (R303). A GDDR7 read or write CRC error reissues the transfer, and logs CORRECTED. -/
  | crcError (now : Nat) (ch : Nat)
  /-- RETRAIN_CMD (R316). A write of retrain to GDM_CH_CTL starts a retrain, or queues a second one after the running retrain. -/
  | retrainCmd (fn : Fn) (ch : Nat)
  /-- CHANNEL_RETRAIN_DONE (R304). A channel retrain completes or fails, and held requests resume. -/
  | channelRetrainDone (now : Nat) (ch : Nat) (ok : Bool)
  /-- GDDR7_POISON (R302). A double-bit error poisons a GDDR7 line and is logged POISON. -/
  | gddr7Poison (ch : Nat) (addr : Nat) (bits : Nat)
  /-- MAP_ENABLE_WRITE (R307). A write of enable validates a GDDR7 map entry, or leaves it disabled and sets map_err. -/
  | mapEnableWrite (fn : Fn) (r : Nat) (value : Word)
  /-- TEMP_POLL (R314). Every 32 us the controller polls device temperature. -/
  | tempPoll (now : Nat) (m : Nat) (temp : Int) (devHot : Nat)
  /-- HOT_EXIT (R314). After 10 ms below 90 C with no device hot, the hot state ends. -/
  | hotExit (now : Nat) (m : Nat)
  /-- RACK_LOAD (R325). A rack-global load reaches its home, where key and offset are checked and the load is served. -/
  | rackLoad (req : RackReq)
  /-- RACK_STORE (R325). A rack-global store or full-line write to a live region is applied at its home. -/
  | rackStore (req : RackReq) (data : List Byte)
  /-- EPOCH_WRITE (R330). An epoch write is merged into or allocates an entry of the epoch write table, and is acknowledged. -/
  | epochWrite (req : RackReq) (data : List Byte)
  /-- EPOCH_READ (R331). An epoch read is answered from the state published up to its transit. -/
  | epochRead (req : RackReq)
  /-- ADD (R326). The atomic ADD, in plain or fetch form. -/
  | add (req : RackReq) (op : Nat) (operand : Word) (compare : Word)
  /-- FADD32 (R326). The atomic FP32 add. -/
  | fadd32 (req : RackReq) (op : Nat) (operand : Word) (compare : Word)
  /-- FADD64 (R326). The atomic FP64 add. -/
  | fadd64 (req : RackReq) (op : Nat) (operand : Word) (compare : Word)
  /-- AND (R326). The atomic bitwise AND. -/
  | and (req : RackReq) (op : Nat) (operand : Word) (compare : Word)
  /-- OR (R326). The atomic bitwise OR. -/
  | or (req : RackReq) (op : Nat) (operand : Word) (compare : Word)
  /-- XOR (R326). The atomic bitwise XOR. -/
  | xor (req : RackReq) (op : Nat) (operand : Word) (compare : Word)
  /-- SWAP_ATOMIC (R326). The atomic SWAP. -/
  | swapAtomic (req : RackReq) (op : Nat) (operand : Word) (compare : Word)
  /-- CAS (R326). The atomic compare-and-swap. -/
  | cas (req : RackReq) (op : Nat) (operand : Word) (compare : Word)
  /-- MAX (R326). The atomic signed maximum. -/
  | max (req : RackReq) (op : Nat) (operand : Word) (compare : Word)
  /-- MIN (R326). The atomic signed minimum. -/
  | min (req : RackReq) (op : Nat) (operand : Word) (compare : Word)
  /-- MAX_UNSIGNED (R326). The atomic unsigned maximum. -/
  | maxUnsigned (req : RackReq) (op : Nat) (operand : Word) (compare : Word)
  /-- MIN_UNSIGNED (R326). The atomic unsigned minimum. -/
  | minUnsigned (req : RackReq) (op : Nat) (operand : Word) (compare : Word)
  /-- FMAX (R326). The atomic IEEE floating-point maximum. -/
  | fmax (req : RackReq) (op : Nat) (operand : Word) (compare : Word)
  /-- FMIN (R326). The atomic IEEE floating-point minimum. -/
  | fmin (req : RackReq) (op : Nat) (operand : Word) (compare : Word)
  /-- ATOMIC_PORT_ISSUE (R321). A store to offset 0x18 of a core's atomic port issues the command held there. -/
  | atomicPortIssue (u : CoreId) (compare : Word)
  /-- ATOMIC_PORT_RESULT (R321). A load from offset 0x20 of the atomic port waits for the command and returns the old value. -/
  | atomicPortResult (u : CoreId) (xd : Nat)
  /-- RACK_RESPONSE (R343). A response arrives at the source; one for a request that has already ended is discarded and counted. -/
  | rackResponse (id : Nat) (status : Nat) (data : List Byte) (transit : Option Nat)
  /-- REQUEST_TIMER_EXPIRY (R337). A rack request's timer expires, and a liveness query is sent to the target. -/
  | requestTimerExpiry (id : Nat)
  /-- LIVENESS_QUERY (R337). A target answers a liveness query ALIVE or STALLED. -/
  | livenessQuery (src : Nat) (id : Nat) (m : Nat) (d : Nat) (now : Nat)
  /-- LIVENESS_ANSWER (R337). ALIVE restarts the request timer; STALLED makes the request a dead-target request. -/
  | livenessAnswer (id : Nat) (alive : Bool)
  /-- LIVENESS_NO_ANSWER (R337). No answer within 4 us makes the request a dead-target request. -/
  | livenessNoAnswer (id : Nat)
  /-- REQUEST_TOTAL_TIMEOUT (R338). A request that has waited 64 times its timeout ends as FAULT_TIMEOUT. -/
  | requestTotalTimeout (id : Nat)
  /-- REGION_ENABLE_WRITE (R323). A write of enable validates a region descriptor, or sets rgn_err. -/
  | regionEnableWrite (fn : Fn) (d : Nat) (value : Word)
  /-- KEY_COMMIT (R346). A write of commit arms installation of the staged keys at the named transit, or is refused with commit_err. -/
  | keyCommit (fn : Fn) (cancel : Bool)
  /-- KEY_CANCEL (R349). A write of cancel withdraws a pending key commit. -/
  | keyCancel (fn : Fn)
  /-- RMM_TWILIGHT_ENTER (R347). A write of twilight_enter puts the package into twilight at the next transit. -/
  | rmmTwilightEnter (fn : Fn)
  /-- OKT_STORE (R349). A write of RMM_OKT_DATA1 stores the outbound key entry in every F-die. -/
  | oktStore (fn : Fn) (value : Word)
  /-- LASER_LOSS (R352). An F-die's laser input falls below threshold, and its eight ports fall to POLL. -/
  | laserLoss (f : Nat)
  /-- WAVELENGTH_LOSS (R353). A wavelength of an unsplit port is lost; the port retrains onto the other pair as DEGRADED, or goes dark. -/
  | wavelengthLoss (port : Nat) (lam : Nat)
  /-- PORT_ENABLE_WRITE (R356). A write of a port's enable moves the port between OFF and POLL. -/
  | portEnableWrite (fn : Fn) (port : Nat) (enable : Bool)
  /-- POLL_SAMPLE (R357). Every 100 ms a port in POLL samples for light, enters TRAIN when lit, and sends a training burst. -/
  | pollSample (port : Nat) (lit : Bool)
  /-- TRAIN_DONE (R356). Port equalisation ends and the port enters NEGOTIATE, or fails. -/
  | trainDone (port : Nat) (lambdas : Nat)
  /-- NEGOTIATE (R356). The NEGOTIATE exchange ends, setting the version, identity and credits, or leads to VERSION_FAIL or LDN_CONFLICT. -/
  | negotiate (port : Nat) (lam : Nat) (peer : PeerInfo)
  /-- AUTH_DONE (R379). SPDM mutual authentication of a link ends, bringing the port UP or DEGRADED, or AUTH_FAIL. -/
  | authDone (port : Nat) (lam : Nat) (pass : Bool)
  /-- DATA_FLIT (R362). A DATA flit arrives and is accepted, discarded or found malformed under the receiver window, and its acknowledgement and credits are processed. -/
  | dataFlit (now : Nat) (port : Nat) (lam : Nat) (flit : Flit)
  /-- ACK_FLIT (R363). An ACK flit arrives with a cumulative acknowledgement and full credit counts. -/
  | ackFlit (now : Nat) (port : Nat) (lam : Nat) (flit : Flit)
  /-- IDLE_FLIT (R363). An IDLE flit arrives, and its acknowledgement and credit fields are processed. -/
  | idleFlit (now : Nat) (port : Nat) (lam : Nat) (flit : Flit)
  /-- FLIT_TRANSMIT (R372). The transmitter sends the next flit by weighted round robin when it holds credit and window. -/
  | flitTransmit (port : Nat) (lam : Nat)
  /-- ACK_DUE (R364). An acknowledgement owed for 64 flits or 500 ns is sent as an ACK flit. -/
  | ackDue (port : Nat) (lam : Nat)
  /-- REPLAY_TIMER (R365). The replay timer expires, which starts a replay or, on the eighth, a retrain. -/
  | replayTimer (now : Nat) (port : Nat) (lam : Nat)
  /-- LINK_RETRAIN_DONE (R366). A link retrain completes and the link replays. -/
  | linkRetrainDone (now : Nat) (port : Nat) (lam : Nat)
  /-- LINK_RETRAIN_FAIL (R366). A link retrain fails; on the third failure, or after 16 retrains in 1 s, the link goes dark. -/
  | linkRetrainFail (now : Nat) (port : Nat) (lam : Nat)
  /-- PORT_RETRAIN (R394). A write of retrain retrains the port now. -/
  | portRetrain (fn : Fn) (port : Nat)
  /-- PORT_RELEASE (R386). A write of release leaves QUARANTINED and zeroes the malformed count. -/
  | portRelease (fn : Fn) (port : Nat)
  /-- PORT_QUARANTINE (R386). A write of quarantine puts the port into QUARANTINED now. -/
  | portQuarantine (fn : Fn) (port : Nat)
  /-- KEY_UPDATE (R382). Before tx_count advances 2^36 under one key, the direction updates its GCM key by SPDM KEY_UPDATE. -/
  | keyUpdate (port : Nat) (lam : Nat)
  /-- ROUTE_STORE (R395). A write of SCP_ROUTE_DATA1 stores the staged route entry. -/
  | routeStore (fn : Fn) (value : Word)
  /-- ROUTE_COMMIT (R393). A write of commit arms a route bank switch at the named transit, or is refused with route_err. -/
  | routeCommit (fn : Fn) (cancel : Bool)
  /-- ROUTE_CANCEL (R393). A write of cancel withdraws the route commit. -/
  | routeCancel (fn : Fn)
  /-- LDN_COMMIT (R390). A write of commit arms an LDN assignment at the named transit, or is refused with ldn_err. -/
  | ldnCommit (fn : Fn) (ldnNext : Nat) (cancel : Bool)
  /-- LDN_CANCEL (R393). A write of cancel withdraws a pending LDN commit. -/
  | ldnCancel (fn : Fn)
  /-- COL_COMMIT (R397). A write of commit arms the staged constellation changes at the named transit, or is refused with commit_err. -/
  | colCommit (fn : Fn) (cancel : Bool)
  /-- COL_CANCEL (R398). A write of cancel withdraws a pending constellation commit. -/
  | colCancel (fn : Fn)
  /-- COL_DATA (R408). A VC3 DATA message is matched by epoch: it lands, is parked or is discarded as stale. -/
  | colData (now : Nat) (src : Nat) (hdr : ColHdr) (payload : List Byte)
  /-- DELIVERED (R402). A DELIVERED message frees the sender's held message and acknowledges the window writes. -/
  | delivered (cst : Nat) (epoch : Nat) (seq : Nat) (msg : Nat) (src : Nat)
  /-- PARK_FULL (R410). A PARK_FULL message tells the sender to keep the message for a later resend. -/
  | parkFull (cst : Nat) (epoch : Nat) (seq : Nat) (msg : Nat) (src : Nat)
  /-- PARK_FREE (R410). A PARK_FREE message makes the sender resend the messages it holds for that cluster. -/
  | parkFree (cluster : Nat) (src : Nat)
  /-- RESEND (R402). A RESEND message makes the sender resend the message once. -/
  | resend (cst : Nat) (epoch : Nat) (seq : Nat) (msg : Nat) (src : Nat)
  /-- ABORT (R417). An ABORT message completes the named collectives as crossed or CHECK_FAIL, frees their parked data and records tombstones. -/
  | abort (reason : Nat) (pairs : List (Nat × Nat))
  /-- LOST (R420). A LOST message schedules the darkening of an LDN at the named transit. -/
  | lost (ldn : Nat) (t : Nat)
  /-- POST (R404). A write of state 1 posts a collective entry, binding it to the epoch in force, or completes it INTERNAL. -/
  | post (cluster : Nat) (i : Nat) (entry : List Byte)
  /-- SEND_SLOT_ARM (R407). A write arms or disarms a send slot. -/
  | sendSlotArm (cluster : Nat) (i : Nat) (slot : List Byte)
  /-- SEND_WINDOW_WRITE (R407). A write into a send window fills a message, which leaves when its last byte has been written. -/
  | sendWindowWrite (cluster : Nat) (i : Nat) (off : Nat) (data : List Byte)
  /-- PARK_RETRY_TIMER (R410). 10 us after PARK_FULL the sender resends the held message. -/
  | parkRetryTimer (cluster : Nat) (k : Nat)
  /-- CROSS_TIMEOUT (R416). A collective blocked for cross_us is declared crossed, and ABORT with reason 1 is sent. -/
  | crossTimeout (cluster : Nat) (i : Nat)
  /-- COL_DARK_DECLARE (R420). A write of declare in COL_DARK declares an LDN dark and sends LOST. -/
  | colDarkDeclare (fn : Fn) (ldn : Nat)
  /-- BEACON_READ (R427). A beacon-window read returns the beacon's value. -/
  | beaconRead (w : Who) (b : Nat)
  /-- BEACON_ADD (R429). An add to a COUNT, BARRIER or EVENT beacon, which releases waiters, advances barriers and raises events. -/
  | beaconAdd (w : Who) (b : Nat) (operand : Word)
  /-- BEACON_SET (R427). A set stores a value in a COUNT or EVENT beacon. -/
  | beaconSet (w : Who) (b : Nat) (operand : Word)
  /-- BEACON_CAS (R427). A compare-and-set on a COUNT or EVENT beacon. -/
  | beaconCas (w : Who) (b : Nat) (operand : Word) (compare : Word)
  /-- BEACON_WAIT (R432). A wait-until-at-least is answered at once or held in the waiter table. -/
  | beaconWait (w : Who) (b : Nat) (threshold : Word)
  /-- BEACON_ARM (R429). An arm sets a BARRIER target or arms an EVENT. -/
  | beaconArm (w : Who) (b : Nat) (operand : Word)
  /-- BEACON_ACQUIRE (R430). An acquire takes a LOCK at once or waits to be granted. -/
  | beaconAcquire (w : Who) (b : Nat) (prio : Nat)
  /-- BEACON_RELEASE (R430). A release by the holder grants the next waiter or clears held; any other release ends FAULT_ADDR. -/
  | beaconRelease (w : Who) (b : Nat)
  /-- BEACON_REPRIORITISE (R433). A reprioritise changes a waiter's priority for the next grant decision. -/
  | beaconReprioritise (w : Who) (b : Nat) (prio : Nat)
  /-- BEACON_CONFIG_WRITE (R434). A BCN_CFG write that changes mode or assignment answers every waiter and clears the beacon. -/
  | beaconConfigWrite (fn : Fn) (value : Word)
  /-- BEACON_VALUE_WRITE (R445). A host write of BCN_VALUE acts as a set; it is discarded in LOCK and BARRIER mode. -/
  | beaconValueWrite (fn : Fn) (value : Word)
  /-- ORPHAN_LDN (R431). A write of orphan_ldn orphans every lock held by that LDN and starts a scan. -/
  | orphanLdn (fn : Fn) (ldn : Nat)
  /-- ORPHAN_SCAN_VISIT (R431). The orphan scan visits one beacon per S0 cycle and grants an orphaned lock to its first waiter. -/
  | orphanScanVisit
  /-- WAIT_TIMEOUT (R432). A window wait or acquire held for 16 times timeout_us is removed and answered unsatisfied. -/
  | waitTimeout (k : Nat)
  /-- SQ_DOORBELL (R455). A submission doorbell write updates sq_tail, or is discarded, or stops the ring with DOORBELL. -/
  | sqDoorbell (v : Nat) (r : Nat) (tail : Nat)
  /-- CQ_HEAD_WRITE (R455). A completion-head write updates cq_head, or stops the ring with DOORBELL. -/
  | cqHeadWrite (v : Nat) (r : Nat) (head : Nat)
  /-- DESCRIPTOR_FETCH (R437). The device fetches the next descriptor of a ring by priority once space and an in-flight slot allow. -/
  | descriptorFetch (r : Nat) (host : List Byte)
  /-- NOP (R440). The ring operation NOP. -/
  | nop (slot : Nat)
  /-- MATMUL (R441). The ring operation MATMUL computes D from a matrix control block with progress tracked in 64 tiles. -/
  | matmul (slot : Nat) (tile : Nat) (errs : List MeError) (core : Nat)
  /-- COLLECTIVE (R440). The ring operation COLLECTIVE runs a library collective. -/
  | collective (slot : Nat) (status : Nat) (progress : Word) (witness : Word)
  /-- ATOMIC (R440). The ring operation ATOMIC issues the 32 B atomic command. -/
  | atomic (slot : Nat)
  /-- BEACON (R440). The ring operation BEACON performs the beacon operation named in its descriptor. -/
  | beacon (slot : Nat)
  /-- PROBE (R444). The ring operation PROBE snapshots the committed progress of a target operation. -/
  | probe (slot : Nat)
  /-- COMPLETION_RECORD_WRITE (R439). A completed operation's record is written once its result is visible, freeing its in-flight slot. -/
  | completionRecordWrite (slot : Nat) (refused : Bool)
  /-- RING_ENABLE_WRITE (R446). A write of a ring's enable validates the ring and zeroes its indices, or sets CONFIG. -/
  | ringEnableWrite (fn : Fn) (r : Nat) (value : Word)
  /-- FLR (R459). A Function Level Reset disables the VF's rings, discards its results, orphans its locks and masks its vectors. -/
  | flr (fn : Fn)
  /-- CONFIG_REQUEST (R449). A PCI Express configuration request is answered, or given retry status until ready. -/
  | configRequest (fn : Fn) (numVfs : Option Nat)
  /-- LINK_DOWNTRAIN (R449). The host link retrains at a lower width or rate; work continues and CORRECTED is logged. -/
  | linkDowntrain (width : Nat) (gt : Nat)
  /-- DMA_REFUSED (R452). A host refuses a DMA request, ending the operation FAULT_ADDR or stopping the ring. -/
  | dmaRefused (r : Nat) (slot : Option Nat) (what : Nat)
  /-- MSIX_UNMASK (R456). Unmasking a vector sends its pending message. -/
  | msixUnmask (fn : Fn) (vector : Nat)
  /-- COLD_RESET (R460). VDD_AON rises from below 90 %, which clears every register field. -/
  | coldReset
  /-- PERST_N_ASSERT (R461). PERST_N held low for 100 us causes a warm reset. -/
  | perstAssert (now : Nat)
  /-- PERST_N_RELEASE (R464). The release of PERST_N is the boot start; the boot ROM selects firmware. -/
  | perstRelease (now : Nat) (rack : Nat) (slot : Nat)
  /-- RAIL_FAIL (R461). A rail other than VDD_AON falls below 90 %, causing a warm reset. -/
  | railFail (rail : Nat)
  /-- RAIL_RESTORE_RESTART (R464). 100 ms after every rail is valid again the package restarts by itself. -/
  | railRestoreRestart (now : Nat)
  /-- INTERNAL_RESET_RELEASE (R464). 1 ms after an internal warm-reset cause S1 releases reset, which is the boot start. -/
  | internalResetRelease (now : Nat)
  /-- BOOT_WATCHDOG (R468). The 8 s boot watchdog for a trial copy expires, causing a warm reset. -/
  | bootWatchdog
  /-- FIRMWARE_STARTED (R466). Stage 1 is verified and runs; a stage 2 mismatch restarts the ROM with the copy excluded. -/
  | firmwareStarted
  /-- FUSES_APPLIED (R470). Fuse repairs and fused-off units are applied to every die. -/
  | fusesApplied
  /-- SELF_TEST_DONE (R470). Self-test ends and failed units are retired; ports start bring-up. -/
  | selfTestDone (failed : List FailedUnit)
  /-- COMPUTE_READY (R471). Partitions are formed and rings may be enabled. -/
  | computeReady
  /-- PLDM_FW_UPDATE (R478). A PLDM firmware update starts staging an image into the inactive copy. -/
  | pldmFwUpdate (component : Nat)
  /-- FW_STAGING_DONE (R478). Staging ends; pending is set if the image passes, else the update is refused. -/
  | fwStagingDone (image : List Byte)
  /-- PROGRAM_SLOT (R480). The Burolmuri command PROGRAM_SLOT stores an owner key and burns its digest. -/
  | programSlot (slot : Nat) (key : List Byte) (signedOk : Bool) (i3c : Bool) (complete : Bool)
  /-- REVOKE_SLOT (R480). The Burolmuri command REVOKE_SLOT revokes an owner key slot, unless none would be left. -/
  | revokeSlot (slot : Nat) (signedOk : Bool)
  /-- RAISE_FW_MIN (R479). The Burolmuri command RAISE_FW_MIN raises the firmware minimum in OTP. -/
  | raiseFwMin (v : Nat) (signedOk : Bool)
  /-- RAISE_IMAGE_MIN (R55). The Burolmuri command RAISE_IMAGE_MIN raises the Togus minimum in OTP. -/
  | raiseImageMin (v : Nat) (signedOk : Bool)
  /-- PACKAGE_RESET (R479). The Burolmuri command PACKAGE_RESET causes a warm reset. -/
  | packageReset (signedOk : Bool)
  /-- TWILIGHT_ENTER (R479). The Burolmuri command TWILIGHT_ENTER puts the package into twilight at the next transit. -/
  | twilightEnter (signedOk : Bool)
  /-- MCTP_CONTROL (R477). An MCTP control message for EID assignment or discovery. -/
  | mctpControl (cmd : Nat) (eid : Nat)
  /-- SPDM_REQUEST (R477). An SPDM request to S1 as responder returns identity or measurements. -/
  | spdmRequest (code : Nat)
  /-- PLDM_GET_SENSOR (R477). A PLDM monitoring request returns a Night Watch sensor reading. -/
  | pldmGetSensor (sensor : Nat)
  /-- LOG_TAKE (R489). S0 takes one queued report every 40 ns, coalescing it or writing a new entry, or dropping it when full. -/
  | logTake (now : Nat)
  /-- ERR_CONS_WRITE (R485). A write of cons frees log entries, or is discarded with cons_err. -/
  | errConsWrite (fn : Fn) (cons : Nat)
  /-- RECOVERY_START (R495). The sequencer starts a queued recovery in a free slot, resetting or retiring the domain and stopping overlapping maintenance. -/
  | recoveryStart
  /-- RECOVERY_COMPLETE (R492). A recovery completes within its bound, and lost work is reissued or ended. -/
  | recoveryComplete (i : Nat) (failed : List FailedUnit)
  /-- MNT_REQUEST (R562). A write of go requests a maintenance activity, which is granted or refused at once. -/
  | mntRequest (fn : Fn) (activity : Nat) (domain : Nat)
  /-- MNT_ABORT (R562). A write of abort stops an activity at its next boundary and frees its slot. -/
  | mntAbort (fn : Fn) (i : Nat)
  /-- MNT_ACTIVITY_DONE (R503). A maintenance activity completes and frees its slot. -/
  | mntActivityDone (i : Nat)
  /-- ALM_ARM (R507). A write of arm arms an almanac at the cut transit and takes the activity 6 slot, or is refused with err. -/
  | almArm (fn : Fn) (cancel : Bool) (drivesOk : Bool)
  /-- ALM_CANCEL (R507). A write of cancel withdraws the almanac before the cut, or ends capture with CANCELLED. -/
  | almCancel (fn : Fn)
  /-- QUIESCE_DONE (R509). The saved partitions have nothing in flight and their queues are empty, so capture begins. -/
  | quiesceDone
  /-- QUIESCE_TIMEOUT (R509). The quiesce has not completed within quiesce_us, so the almanac ends with QUIESCE. -/
  | quiesceTimeout
  /-- ALMANAC_IO_DONE (R518). An NVMe write or flush of the almanac sequence completes, and the next step of the write order proceeds. -/
  | almanacIoDone (buddy : Bool) (ok : Bool)
  /-- MIRROR_MESSAGE (R517). A VC7 mirror message arrives at the buddy and is written into the buddy slot, or resent on a CRC failure. -/
  | mirrorMessage (src : Nat) (slot : Nat) (shard : Nat) (off : Nat) (data : List Byte) (crcOk : Bool)
  /-- BUDDY_COMMIT (R518). The COMMIT message makes the buddy write its buddy pointer. -/
  | buddyCommit (src : Nat) (transit : Nat) (slot : Nat)
  /-- ALM_RESTORE (R522). A write of restore starts a data or state restore, which first verifies the manifest. -/
  | almRestore (fn : Fn) (manifest : List Byte) (signed : Bool) (before : Bool) (refused : Bool)
  /-- RESTORE_DONE (R523). A restore ends after hashing its bytes, or with DIGEST, STRUCTURE or another error. -/
  | restoreDone (data : List Byte)
  /-- SENSOR_SWEEP (R529). Night Watch samples every sensor once per millisecond and filters the samples. -/
  | sensorSweep (now : Nat) (samples : List Int)
  /-- THROTTLE_EXIT (R572). After 10 ms below 90 C a die's throttle ends. -/
  | throttleExit (die : Nat)
  /-- NIGHT_ENTER (R536). A write of night_enter requests the Night state, or is refused with night_err. -/
  | nightEnter (fn : Fn) (wakeAtEn : Bool)
  /-- NIGHT_ENTRY_DONE (R536). Night entry completes: the link is in L1, GDDR7 is in self-refresh, the dies are gated and the LDN is dropped. -/
  | nightEntryDone
  /-- WAKE_N (R538). WAKE_N low for 1 us wakes the package. -/
  | wakeN (ns : Nat)
  /-- HOST_MESSAGE_WAKE (R538). An MCTP message to the endpoint wakes the package. -/
  | hostMessageWake
  /-- LIGHT_WAKE (R538). Light on a link receiver wakes the package. -/
  | lightWake (port : Nat)
  /-- SCHEDULED_WAKE (R539). 500 ms before the projected fire time of NWT_WAKE_AT the package wakes. -/
  | scheduledWake (now : Nat)
  /-- WAKE_DONE (R540). Wake completes: the structure is restored from retention, GDDR7 retrains and COMPUTE_READY is set again. -/
  | wakeDone
  /-- ECLIPSE_N (R541). ECLIPSE_N held low for 100 ns triggers an Eclipse. -/
  | eclipseN (ns : Nat)
  /-- ECLIPSE_TRIGGER (R541). A write of trigger, or the PLDM effecter, triggers an Eclipse. -/
  | eclipseTrigger (fn : Fn)
  /-- SELF_REFRESH_DONE (R543). In an orderly Eclipse the last channel reaches self-refresh, and the package freezes. -/
  | selfRefreshDone
  /-- READOUT_DONE (R546). The read-out ends; the Eclipse ends in a warm reset or resumes. -/
  | readoutDone (ok : Bool)
  /-- REFCLK_LOSS (R575). A reference clock input is lost, with the outcome its table row gives. -/
  | refclkLoss (c : RefClk)
  /-- AVS_ACK (R569). The regulator acknowledges a set-point request, and the next may be sent. -/
  | avsAck (rail : Nat)
  /-- AVS_ACK_TIMEOUT (R569). No acknowledgement within 1 ms: the last set point is held and HARD is logged. -/
  | avsAckTimeout (rail : Nat)
  /-- REGISTER_WRITE (R551). A host write to a register with no row of its own acts under the access-type rules. -/
  | registerWrite (fn : Fn) (off : Nat) (size : Nat) (value : Word)
  /-- MGMT_WRITE (R581). A management message writes a register from the permitted list, or is refused as WRITE_REFUSED. -/
  | mgmtWrite (off : Nat) (size : Nat) (value : Word)
  /-- PORT_LIGHT_LOSS (R356). A port's receiver loses the light from its peer, which takes a port out of VERSION_FAIL, AUTH_FAIL or LDN_CONFLICT. -/
  | portLightLoss (port : Nat)
  /-- LASER_RETURN (R352). The laser input of an F-die rises back above threshold, and its eight ports come up again through bring-up. -/
  | laserReturn (f : Nat)
  /-- REFCLK_RESTORE (R575). A lost reference clock returns, and H0 and H1 retrain, or a held reset is released once every reference has been present for 1 ms. -/
  | refclkRestore (c : RefClk)
  /-- VDD_AON_LOSS (R462). VDD_AON falls away, so all state is lost; during an almanac write this counts as the power loss of R520. -/
  | vddAonLoss
  /-- UNCORRECTABLE_FLIT (R359). A flit arrives that the FEC cannot correct or whose CRC fails, and it is discarded whole with crc_fail incremented. -/
  | uncorrectableFlit (port : Nat) (lam : Nat)
  /-- PUT_GET_MESSAGE (R378). A VC5 put or get message from another rack domain arrives at its destination package and is delivered. -/
  | putGetMessage (m : Msg)
  /-- ELECTION_ACKNOWLEDGEMENT (R71). An acknowledgement of a candidate arrives and counts toward the quorum of more than half of TRN_RACK_SIZE. -/
  | electionAcknowledgement (phys : Nat) (number : Option Nat)
  /-- REFRESH (R312). A GDDR7 refresh falls due, per-bank or all-bank, at double rate in the hot state, and takes its share of slots. -/
  | refresh (ch : Nat)
  /-- REMOTE_SOURCE_READ (R522). A holder receives a VC7 restore read for its area and serves it under its own activity 6 slot, or refuses it, which ends the restore with MAINT. -/
  | remoteSourceRead (src : Nat) (buddyArea : Bool) (slot : Nat) (shard : Nat)
deriving DecidableEq, Repr

end Sys2Proof
end

