-- ==== Sys2Proof/Decode.lean ====
section
/-! DEFINITION. Reading a command from bits. The rows of spec/opcode_table.json give no bits: a command of this
package is an event or a write, not a word, so no word spells one. -/
namespace Sys2Proof

/-- The command that a word spells by the table's bits; no row has any. -/
def decodeTableWord (_nbits _w : Nat) : Option Instr := none

end Sys2Proof
end

