-- ==== Sys2Proof/Machine/Flags.lean ====
section
/-! DEFINITION. The arithmetic flags of R126: each an exception with a sticky bit. -/
namespace Sys2Proof.Machine

/-- The flags an operation raises (R126). -/
structure Flags where
  invalid : Bool
  divzero : Bool
  overflow : Bool
  underflow : Bool
  inexact : Bool
  saturate : Bool
  flushed : Bool
deriving DecidableEq, Repr

/-- No flag. -/
def Flags.zero : Flags :=
  { invalid := false, divzero := false, overflow := false, underflow := false, inexact := false,
    saturate := false, flushed := false }

/-- Flags accumulate by OR (R128). -/
def Flags.or (a b : Flags) : Flags :=
  { invalid := a.invalid || b.invalid, divzero := a.divzero || b.divzero, overflow := a.overflow || b.overflow,
    underflow := a.underflow || b.underflow, inexact := a.inexact || b.inexact,
    saturate := a.saturate || b.saturate, flushed := a.flushed || b.flushed }

/-- Only invalid. -/
def Flags.inv : Flags := { Flags.zero with invalid := true }

/-- Only divide-by-zero. -/
def Flags.dz : Flags := { Flags.zero with divzero := true }

/-- The flags as bits, in the order of TC_NUM_FLAGS (R135): bit 0 invalid to bit 6 flushed. -/
def Flags.bits (f : Flags) : Nat :=
  f.invalid.toNat + 2 * f.divzero.toNat + 4 * f.overflow.toNat + 8 * f.underflow.toNat + 16 * f.inexact.toNat +
    32 * f.saturate.toNat + 64 * f.flushed.toNat

end Sys2Proof.Machine
end

