-- ==== Sys2Proof/Machine/Numbers.lean ====
section
/-! DEFINITION. The number formats of R102 and the arithmetic of R112 to R134: decoding, exact values, rounding
once, delivery into a format with the flags of R126, the operations, comparisons, and the draw generator of
R119. -/
namespace Sys2Proof.Machine

/-- What the largest exponent field of a floating-point format means (R102, R103). -/
inductive Special where
  /-- Infinities and NaNs as IEEE 754 has them. -/
  | ieee
  /-- Only S.1111.111 is a NaN; no infinity (E4M3). -/
  | e4m3
  /-- Every pattern is a finite number (FP6, FP4). -/
  | none
deriving DecidableEq, Repr

/-- A floating-point format: exponent bits, significand bits, bias, special values. -/
structure FpFmt where
  eb : Nat
  mb : Nat
  bias : Nat
  special : Special
deriving DecidableEq, Repr

/-- The floating-point format of a code (R102). -/
def fpFmt (code : Nat) : Option FpFmt :=
  match code with
  | 0x00 => some ⟨11, 52, 1023, .ieee⟩
  | 0x01 => some ⟨8, 23, 127, .ieee⟩
  | 0x02 => some ⟨5, 10, 15, .ieee⟩
  | 0x03 => some ⟨8, 7, 127, .ieee⟩
  | 0x04 => some ⟨4, 3, 7, .e4m3⟩
  | 0x05 => some ⟨5, 2, 15, .ieee⟩
  | 0x06 => some ⟨3, 2, 3, .none⟩
  | 0x07 => some ⟨2, 3, 1, .none⟩
  | 0x08 => some ⟨2, 1, 1, .none⟩
  | _ => Option.none

/-- Bits of an integer format (R102). -/
def intBits (code : Nat) : Option Nat :=
  match code with
  | 0x10 => some 8
  | 0x11 => some 16
  | 0x12 => some 32
  | 0x13 => some 4
  | _ => none

/-- Bits one element of a format occupies; 0 for a reserved code. -/
def fmtBits (code : Nat) : Nat :=
  match fpFmt code with
  | some f => 1 + f.eb + f.mb
  | none => (intBits code).getD 0

/-- A code of R102. -/
def fmtKnown (code : Nat) : Bool := fmtBits code != 0

/-- Bytes that `n` packed elements of a format take (R104). FP6 packs four to 3 bytes, FP4 and INT4 two to a byte. -/
def packedBytes (code n : Nat) : Nat :=
  match fmtBits code with
  | 6 => (n + 3) / 4 * 3
  | b => (n * b + 7) / 8

/-- A number: a finite value (-1)^neg x mag x 2^exp with its sign kept on zero, an infinity, or a NaN with its
sign and whether it signals. -/
inductive FpNum where
  | fin (neg : Bool) (mag : Nat) (exp : Int)
  | inf (neg : Bool)
  | nan (neg signalling : Bool)
deriving DecidableEq, Repr

namespace FpNum

/-- The NaN an arithmetic operation gives (R132). -/
def qnan : FpNum := .nan false false

def isNaN (x : FpNum) : Bool := match x with | .nan _ _ => true | _ => false

def isSig (x : FpNum) : Bool := match x with | .nan _ s => s | _ => false

def isInf (x : FpNum) : Bool := match x with | .inf _ => true | _ => false

def sign (x : FpNum) : Bool := match x with | .fin n _ _ => n | .inf n => n | .nan n _ => n

def isZero (x : FpNum) : Bool := match x with | .fin _ m _ => m == 0 | _ => false

/-- A NaN that no longer signals. -/
def quiet (x : FpNum) : FpNum := match x with | .nan n _ => .nan n false | _ => x

/-- An integer as a number. -/
def ofInt (i : Int) : FpNum := .fin (decide (i < 0)) i.natAbs 0

end FpNum

/-- The number whose bits in a floating-point format are `bits` (R102, R103). -/
def decodeFp (f : FpFmt) (bits : Nat) : FpNum :=
  let neg := bits / 2 ^ (f.eb + f.mb) % 2 == 1
  let e := bits / 2 ^ f.mb % 2 ^ f.eb
  let m := bits % 2 ^ f.mb
  let finite : FpNum :=
    if e = 0 then .fin neg m (1 - (f.bias : Int) - f.mb) else .fin neg (2 ^ f.mb + m) ((e : Int) - f.bias - f.mb)
  if e + 1 = 2 ^ f.eb then
    match f.special with
    | .ieee => if m = 0 then .inf neg else .nan neg (m / 2 ^ (f.mb - 1) == 0)
    | .e4m3 => if m + 1 = 2 ^ f.mb then .nan neg false else finite
    | .none => finite
  else finite

/-- Two's complement value of the low `w` bits. -/
def signedOf (w bits : Nat) : Int :=
  let v := bits % 2 ^ w
  if 2 ^ (w - 1) ≤ v then (v : Int) - 2 ^ w else v

/-- The number an element of format `code` stands for; a reserved code reads as zero (no operation computes on
one: R121). -/
def decodeNum (code bits : Nat) : FpNum :=
  match fpFmt code with
  | some f => decodeFp f bits
  | none =>
    match intBits code with
    | some w => .ofInt (signedOf w bits)
    | none => .fin false 0 0

/-- Rounding modes (R117), stochastic rounding with its 24-bit draw (R118). -/
inductive RMode where
  | rne
  | rtz
  | rup
  | rdn
  | sr (draw : Nat)
deriving DecidableEq, Repr

/-- The rounding mode of a result control byte's round field (R117); a reserved code is refused before use. -/
def rmodeOf (round draw : Nat) : RMode :=
  match round with
  | 1 => .rtz
  | 2 => .rup
  | 3 => .rdn
  | 4 => .sr draw
  | _ => .rne

/-- Whether the magnitude moves one ulp away from zero: sign, integer part, remainder over 2^shift (R116,
R118). -/
def roundUp (mode : RMode) (neg : Bool) (q rem shift : Nat) : Bool :=
  match mode with
  | .rne => decide (2 ^ shift < 2 * rem) || (decide (2 * rem = 2 ^ shift) && q % 2 == 1)
  | .rtz => false
  | .rup => !neg && rem != 0
  | .rdn => neg && rem != 0
  | .sr d => decide (d < rem * 2 ^ 24 / 2 ^ shift)

/-- A magnitude mag x 2^exp in units of 2^u: the truncated count, whether it moves up, whether it is inexact. -/
def toUnits (mode : RMode) (neg : Bool) (mag : Nat) (exp u : Int) : Nat × Bool × Bool :=
  if u ≤ exp then (mag * 2 ^ (exp - u).toNat, false, false)
  else
    let sh := (u - exp).toNat
    let q := mag / 2 ^ sh
    let r := mag % 2 ^ sh
    (q, roundUp mode neg q r sh, r != 0)

namespace FpFmt

/-- Exponent of the smallest normal. -/
def emin (f : FpFmt) : Int := 1 - (f.bias : Int)

/-- Exponent of the largest finite number. -/
def emax (f : FpFmt) : Int :=
  match f.special with
  | .ieee => (2 ^ f.eb : Int) - 2 - f.bias
  | _ => (2 ^ f.eb : Int) - 1 - f.bias

/-- Significand of the largest finite number, in units of its ulp. -/
def maxSig (f : FpFmt) : Nat :=
  match f.special with
  | .e4m3 => 2 ^ (f.mb + 1) - 2
  | _ => 2 ^ (f.mb + 1) - 1

def signBit (f : FpFmt) (neg : Bool) : Nat := if neg then 2 ^ (f.eb + f.mb) else 0

/-- Bits of a finite magnitude q x 2^u, where u is its ulp's exponent. -/
def pack (f : FpFmt) (neg : Bool) (q : Nat) (u : Int) : Nat :=
  f.signBit neg + (u - (f.emin - f.mb)).toNat * 2 ^ f.mb + q

def maxBits (f : FpFmt) (neg : Bool) : Nat := f.pack neg f.maxSig (f.emax - f.mb)

def infBits (f : FpFmt) (neg : Bool) : Nat := f.signBit neg + (2 ^ f.eb - 1) * 2 ^ f.mb

/-- The NaN of a format with a given sign: the canonical one, or the largest finite where there is none. -/
def nanBits (f : FpFmt) (neg : Bool) : Nat :=
  match f.special with
  | .ieee => f.signBit neg + (2 ^ f.eb - 1) * 2 ^ f.mb + 2 ^ (f.mb - 1)
  | .e4m3 => f.signBit neg + 2 ^ (f.eb + f.mb) - 1
  | .none => f.maxBits neg

end FpFmt

/-- Delivery of an overflowed result (R123): `away` is the first column of the table. -/
def overflowTo (f : FpFmt) (e4m3nan neg away : Bool) : Nat × Flags :=
  let fl : Flags := { Flags.zero with overflow := true, inexact := true }
  if away then
    match f.special with
    | .ieee => (f.infBits neg, fl)
    | .e4m3 => if e4m3nan then (f.nanBits neg, fl) else (f.maxBits neg, { fl with saturate := true })
    | .none => (f.maxBits neg, { fl with saturate := true })
  else (f.maxBits neg, fl)

/-- Whether overflow falls in the first column of R123's table. -/
def overflowAway (mode : RMode) (neg moved : Bool) : Bool :=
  match mode with
  | .rne => true
  | .rtz => false
  | .rup => !neg
  | .rdn => neg
  | .sr _ => moved

/-- A finite exact value rounded once into a floating-point format (R116, R118, R123, R127). -/
def roundFp (f : FpFmt) (mode : RMode) (e4m3nan neg : Bool) (mag : Nat) (exp : Int) : Nat × Flags :=
  if mag = 0 then (f.signBit neg, .zero)
  else
    let e : Int := (mag.log2 : Int) + exp
    -- unbounded exponent range, at the destination's width
    let u' := e - f.mb
    let (q', up', ix') := toUnits mode neg mag exp u'
    let r' := q' + up'.toNat
    let tiny := decide (e < f.emin) && !(decide (e + 1 = f.emin) && decide (r' = 2 ^ (f.mb + 1)))
    if e < f.emin then
      let u := f.emin - f.mb
      let (q, up, ix) := toUnits mode neg mag exp u
      (f.pack neg (q + up.toNat) u, { Flags.zero with underflow := tiny && ix, inexact := ix })
    else if decide (f.emax < e) || (decide (e = f.emax) && decide (f.maxSig < r')) then
      overflowTo f e4m3nan neg (overflowAway mode neg up')
    else (f.pack neg r' u', { Flags.zero with inexact := ix' })

/-- A number delivered into a floating-point format, NaN and infinite sources under R124, R132 and R134. -/
def deliverFp (f : FpFmt) (mode : RMode) (e4m3nan keepSign : Bool) (x : FpNum) : Nat × Flags :=
  match x with
  | .fin neg mag exp => roundFp f mode e4m3nan neg mag exp
  | .inf neg =>
    (match f.special with
     | .ieee => (f.infBits neg, .zero)
     | .e4m3 => if e4m3nan then (f.nanBits neg, .zero) else (f.maxBits neg, { Flags.zero with saturate := true })
     | .none => (f.maxBits neg, { Flags.zero with saturate := true }))
  | .nan neg sig =>
    let fl : Flags := { Flags.zero with invalid := sig }
    (match f.special with
     | .none => (f.maxBits neg, { Flags.zero with invalid := true, saturate := true })
     | .e4m3 => (f.nanBits (keepSign && neg), fl)
     | .ieee => (f.nanBits (keepSign && neg && decide (f.eb = 5 ∧ f.mb = 2)), fl))

/-- A number delivered into an integer format of `w` bits (R123, R124). -/
def deliverInt (w : Nat) (mode : RMode) (x : FpNum) : Nat × Flags :=
  let top : Nat := 2 ^ (w - 1) - 1
  let bot : Nat := 2 ^ (w - 1)
  match x with
  | .fin neg mag exp =>
    let (q, up, ix) := toUnits mode neg mag exp 0
    let r := q + up.toNat
    if neg then
      if bot < r then (bot, { Flags.zero with invalid := true, inexact := true, saturate := true })
      else ((2 ^ w - r) % 2 ^ w, { Flags.zero with inexact := ix })
    else
      if top < r then (top, { Flags.zero with invalid := true, inexact := true, saturate := true })
      else (r, { Flags.zero with inexact := ix })
  | .inf neg => (if neg then bot else top, { Flags.zero with invalid := true, saturate := true })
  | .nan _ _ => (0, .inv)

/-- A number delivered into the format of a code. `keepSign` says the result is a conversion, which keeps a
NaN's sign in E4M3 and E5M2 (R124). -/
def deliver (code : Nat) (mode : RMode) (e4m3nan keepSign : Bool) (x : FpNum) : Nat × Flags :=
  match fpFmt code with
  | some f => deliverFp f mode e4m3nan keepSign x
  | none =>
    match intBits code with
    | some w => deliverInt w mode x
    | none => (0, .zero)

/-- Conversion between formats; a conversion within one format keeps every bit (R132). -/
def convertBits (src dst : Nat) (mode : RMode) (e4m3nan : Bool) (bits : Nat) : Nat × Flags :=
  deliver dst mode e4m3nan true (decodeNum src bits)

namespace FpNum

def neg (x : FpNum) : FpNum :=
  match x with
  | .fin n m e => .fin (!n) m e
  | .inf n => .inf (!n)
  | .nan n s => .nan (!n) s

/-- Exact product and its flags (R112, R114). -/
def mul (x y : FpNum) : FpNum × Flags :=
  match x, y with
  | .nan _ s, .nan _ t => (qnan, { Flags.zero with invalid := s || t })
  | .nan _ s, _ => (qnan, { Flags.zero with invalid := s })
  | _, .nan _ s => (qnan, { Flags.zero with invalid := s })
  | .inf a, .inf b => (.inf (a != b), .zero)
  | .inf a, .fin b m _ => if m = 0 then (qnan, .inv) else (.inf (a != b), .zero)
  | .fin a m _, .inf b => if m = 0 then (qnan, .inv) else (.inf (a != b), .zero)
  | .fin a m e, .fin b n g => (.fin (a != b) (m * n) (e + g), .zero)

/-- Signed count of units of 2^u in a finite value whose exponent is not below u. -/
def units (neg : Bool) (mag : Nat) (exp u : Int) : Int :=
  let v : Int := (mag * 2 ^ (exp - u).toNat : Nat)
  if neg then -v else v

/-- Exact sum and its flags; the sign of an exact zero follows R113 (`down` is RDN). -/
def add (down : Bool) (x y : FpNum) : FpNum × Flags :=
  match x, y with
  | .nan _ s, .nan _ t => (qnan, { Flags.zero with invalid := s || t })
  | .nan _ s, _ => (qnan, { Flags.zero with invalid := s })
  | _, .nan _ s => (qnan, { Flags.zero with invalid := s })
  | .inf a, .inf b => if a = b then (.inf a, .zero) else (qnan, .inv)
  | .inf a, .fin _ _ _ => (.inf a, .zero)
  | .fin _ _ _, .inf b => (.inf b, .zero)
  | .fin a m e, .fin b n g =>
    let u := if e ≤ g then e else g
    let v := units a m e u + units b n g u
    if v = 0 then (.fin (if m = 0 ∧ n = 0 ∧ a = b then a else down) 0 0, .zero)
    else (.fin (decide (v < 0)) v.natAbs u, .zero)

/-- Exact x * y + z. -/
def fma (down : Bool) (x y z : FpNum) : FpNum × Flags :=
  let (p, f) := mul x y
  let (r, g) := add down p z
  (r, f.or g)

/-- Quotient, exact but for a last bit that stands for any remainder (R116): at least 130 bits lie above it, so
rounding it once is rounding the exact quotient. -/
def div (x y : FpNum) : FpNum × Flags :=
  match x, y with
  | .nan _ s, .nan _ t => (qnan, { Flags.zero with invalid := s || t })
  | .nan _ s, _ => (qnan, { Flags.zero with invalid := s })
  | _, .nan _ s => (qnan, { Flags.zero with invalid := s })
  | .inf _, .inf _ => (qnan, .inv)
  | .inf a, .fin b _ _ => (.inf (a != b), .zero)
  | .fin a _ _, .inf b => (.fin (a != b) 0 0, .zero)
  | .fin a m e, .fin b n g =>
    if n = 0 then if m = 0 then (qnan, .inv) else (.inf (a != b), .dz)
    else
      let sh := 132 + n.log2
      let q := m * 2 ^ sh / n
      let r := m * 2 ^ sh % n
      (.fin (a != b) (2 * q + (if r = 0 then 0 else 1)) (e - g - sh - 1), .zero)

/-- Integer square root by bits: the largest r below 2^k with r^2 at most n. -/
def isqrtFrom (n : Nat) (k r : Nat) : Nat :=
  match k with
  | 0 => r
  | k + 1 =>
    let c := r + 2 ^ k
    isqrtFrom n k (if c * c ≤ n then c else r)

def isqrt (n : Nat) : Nat := isqrtFrom n (n.log2 / 2 + 1) 0

/-- Square root, with a last bit that stands for any remainder. -/
def sqrt (x : FpNum) : FpNum × Flags :=
  match x with
  | .nan _ s => (qnan, { Flags.zero with invalid := s })
  | .inf n => if n then (qnan, .inv) else (.inf false, .zero)
  | .fin n m e =>
    if m = 0 then (.fin n 0 0, .zero)
    else if n then (qnan, .inv)
    else
      let pad := 264 + (e % 2).toNat
      let v := m * 2 ^ pad
      let r := isqrt v
      (.fin false (2 * r + (if r * r = v then 0 else 1)) ((e - pad) / 2 - 1), .zero)

/-- Compare two numbers that are not NaN: -0 and +0 are equal. -/
def cmp (x y : FpNum) : Ordering :=
  match x, y with
  | .nan _ _, _ => .eq
  | _, .nan _ _ => .eq
  | .inf a, .inf b => if a = b then .eq else if a then .lt else .gt
  | .inf a, .fin _ _ _ => if a then .lt else .gt
  | .fin _ _ _, .inf b => if b then .gt else .lt
  | .fin a m e, .fin b n g =>
    let u := if e ≤ g then e else g
    compare (units a m e u) (units b n g u)

/-- Order with -0 below +0 (R115). -/
def below (x y : FpNum) : Bool :=
  match cmp x y with
  | .lt => true
  | .gt => false
  | .eq => x.sign && !y.sign

end FpNum

/-- The predicates of R115. -/
inductive Pred where
  | eq
  | ne
  | lt
  | le
  | gt
  | ge
  | unord
deriving DecidableEq, Repr

/-- A comparison and its flags (R115): `quiet` raises invalid only for a signalling NaN. -/
def compareNum (p : Pred) (quiet : Bool) (x y : FpNum) : Bool × Flags :=
  let nan := x.isNaN || y.isNaN
  let sig := x.isSig || y.isSig
  let ordered := match p with | .eq => false | .ne => false | .unord => false | _ => true
  let fl : Flags := { Flags.zero with invalid := if ordered && !quiet then nan else sig }
  let c := FpNum.cmp x y
  let r :=
    match p with
    | .eq => !nan && c == .eq
    | .ne => nan || c != .eq
    | .lt => !nan && c == .lt
    | .le => !nan && c != .gt
    | .gt => !nan && c == .gt
    | .ge => !nan && c != .lt
    | .unord => nan
  (r, fl)

/-- minimum and maximum (R115). -/
def minMax (isMax : Bool) (x y : FpNum) : FpNum × Flags :=
  let fl : Flags := { Flags.zero with invalid := x.isSig || y.isSig }
  if x.isNaN || y.isNaN then (FpNum.qnan, fl)
  else if (if isMax then FpNum.below x y else FpNum.below y x) then (y, fl) else (x, fl)

/-- minimumNumber and maximumNumber (R115). -/
def minMaxNum (isMax : Bool) (x y : FpNum) : FpNum × Flags :=
  let fl : Flags := { Flags.zero with invalid := x.isSig || y.isSig }
  match x.isNaN, y.isNaN with
  | true, true => (FpNum.qnan, fl)
  | true, false => (y, fl)
  | false, true => (x, fl)
  | false, false => if (if isMax then FpNum.below x y else FpNum.below y x) then (y, fl) else (x, fl)

/-- totalOrder of IEEE 754-2019 over bits of one format (R115): the patterns in order of their signed magnitude. -/
def totalOrderKey (f : FpFmt) (bits : Nat) : Int :=
  let m := bits % 2 ^ (f.eb + f.mb)
  if bits / 2 ^ (f.eb + f.mb) % 2 = 1 then -(m : Int) - 1 else m

def totalOrder (f : FpFmt) (a b : Nat) : Bool := decide (totalOrderKey f a ≤ totalOrderKey f b)

/-! Draws of stochastic rounding (R119): Philox4x32-10. -/

/-- Ten rounds of Philox4x32 on a counter of four words under a key of two (R119; round constants PRESUMED, from
the publication the rule names: log 12). -/
def philoxRounds (n : Nat) (c0 c1 c2 c3 k0 k1 : Nat) : Nat × Nat × Nat × Nat :=
  match n with
  | 0 => (c0, c1, c2, c3)
  | n + 1 =>
    let p0 := 0xD2511F53 * c0
    let p1 := 0xCD9E8D57 * c2
    philoxRounds n ((p1 / 2 ^ 32) ^^^ c1 ^^^ k0) (p1 % 2 ^ 32) ((p0 / 2 ^ 32) ^^^ c3 ^^^ k1) (p0 % 2 ^ 32)
      ((k0 + 0x9E3779B9) % 2 ^ 32) ((k1 + 0xBB67AE85) % 2 ^ 32)

/-- The 24-bit draw of output element `e` of an operation that read counter `c` (R119). -/
def srDraw (seedLo seedHi c : Nat) (e : Nat) : Nat :=
  let k := (c + e / 4) % 2 ^ 64
  let (x0, x1, x2, x3) :=
    philoxRounds 10 (k % 2 ^ 32) (k / 2 ^ 32) (seedHi % 2 ^ 32) (seedHi / 2 ^ 32) (seedLo % 2 ^ 32) (seedLo / 2 ^ 32)
  (match e % 4 with | 0 => x0 | 1 => x1 | 2 => x2 | _ => x3) / 2 ^ 8

/-- Destinations of stochastic rounding on a T-core (R118). -/
def srDest (code : Nat) : Bool := decide (3 ≤ code ∧ code ≤ 8)

/-- Formats that may carry a scale (R106). -/
def scalable (code : Nat) : Bool := decide (4 ≤ code ∧ code ≤ 8) || code == 0x10

/-- A scale control byte is well formed for its operand's format (R106, R107, R121). -/
def scaleOk (code ctl : Nat) : Bool :=
  if scalable code then
    decide (ctl / 64 = 0) && decide (ctl % 8 ≤ 5) && decide (ctl / 8 % 4 ≤ 2) &&
      (decide (ctl / 8 % 4 ≠ 2) || decide (ctl % 8 = 1 ∨ ctl % 8 = 2))
  else ctl == 0

/-- Elements of a block of scales; 0 means no scale (R106). -/
def scaleSize (ctl : Nat) : Nat := match ctl % 8 with | 0 => 0 | k => 2 ^ (k + 2)

/-- Divisors of a right operand's block grid: along K, along N (R108). -/
def rightDivs (ctl : Nat) : Nat × Nat :=
  match ctl / 8 % 4 with
  | 0 => (scaleSize ctl, 1)
  | 1 => (1, scaleSize ctl)
  | _ => (scaleSize ctl, scaleSize ctl)

/-- Divisors of a left operand's block grid: along M, along K (R108). -/
def leftDivs (ctl : Nat) : Nat × Nat :=
  match ctl / 8 % 4 with
  | 0 => (1, scaleSize ctl)
  | 1 => (scaleSize ctl, 1)
  | _ => (scaleSize ctl, scaleSize ctl)

/-- The number a scale byte stands for (R108). -/
def scaleNum (ctl b : Nat) : FpNum :=
  if ctl / 32 % 2 = 1 then decodeNum 4 b
  else if b = 255 then .nan false false else .fin false 1 ((b : Int) - 127)

/-- A scaled element: the exact product (R109). A zero scale makes an infinite element NaN; R114 raises invalid
for a term 0 x infinity. -/
def scaled (x : FpNum) (s : Option FpNum) : FpNum × Flags :=
  match s with
  | none => (x, .zero)
  | some k => FpNum.mul x k

/-- A result control byte is well formed (R117, R121). -/
def resultCtlOk (dst ctl : Nat) : Bool :=
  decide (ctl < 16) && decide (ctl % 8 ≤ 4) && (decide (ctl % 8 ≠ 4) || srDest dst)

/-- The pairing of two operand formats (R111). -/
def pairOk (a b : Nat) : Bool :=
  (decide (4 ≤ a ∧ a ≤ 8) && decide (4 ≤ b ∧ b ≤ 8)) || (a == 0x10 && b == 0x10) || (decide (a ≤ 3) && a == b)

end Sys2Proof.Machine
end

