-- ==== Sys2Proof/Machine/Assoc.lean ====
section
/-! DEFINITION. Sparse data by key in one canonical form: keys strictly rising, and no entry equal to what an
unlisted key reads as. Registers, memory, cores, ports, rings and beacons are all held so. -/
namespace Sys2Proof.Machine

/-- Sparse data: (key, value) pairs. -/
abbrev Assoc (α : Type) := List (Nat × α)

/-- The value at key `k`; an unlisted key reads as `d k`. -/
def assocGet {α : Type} (d : Nat → α) (m : Assoc α) (k : Nat) : α :=
  match m with
  | [] => d k
  | (k', v) :: rest => if k' = k then v else assocGet d rest k

/-- Remove key `k`. -/
def assocErase {α : Type} (m : Assoc α) (k : Nat) : Assoc α := m.filter (fun e => e.1 != k)

/-- Put `v` at key `k`, keeping the keys strictly rising. -/
def assocInsert {α : Type} (m : Assoc α) (k : Nat) (v : α) : Assoc α :=
  match m with
  | [] => [(k, v)]
  | (k', v') :: rest =>
    if k < k' then (k, v) :: (k', v') :: rest
    else if k = k' then (k, v) :: rest
    else (k', v') :: assocInsert rest k v

/-- Write `v` at key `k`: writing what an unlisted key reads as removes the entry. -/
def assocSet {α : Type} [DecidableEq α] (d : Nat → α) (m : Assoc α) (k : Nat) (v : α) : Assoc α :=
  if v = d k then assocErase m k else assocInsert m k v

/-- A key is above a lower bound. -/
def above (lo : Option Nat) (k : Nat) : Bool :=
  match lo with
  | none => true
  | some l => decide (l < k)

/-- Every key of `m` is above `lo`, the keys rise strictly, and no entry equals the unlisted value. -/
def assocWfFrom {α : Type} [DecidableEq α] (d : Nat → α) (lo : Option Nat) (m : Assoc α) : Bool :=
  match m with
  | [] => true
  | (k, v) :: rest =>
    above lo k && decide (v ≠ d k) && assocWfFrom d (some k) rest

/-- The canonical form. -/
def assocWf {α : Type} [DecidableEq α] (d : Nat → α) (m : Assoc α) : Bool := assocWfFrom d none m

end Sys2Proof.Machine
end

