-- ==== Sys2Proof/Machine/State.lean ====
section
/-! DEFINITION. The state of one FZ40 package as plain data, its reset value, and the reasons a command can
stop. Software-visible registers of PF BAR0 live in `regs` (one sparse map keyed by PF BAR0 offset, R554); what
the spec gives the package beyond its registers has a field of its own. -/
namespace Sys2Proof.Machine

/-- Class of an accumulator entry or of a number (R143). -/
inductive Cls where
  | finite
  | posInf
  | negInf
  | nan
deriving DecidableEq, Repr

/-- An accumulator entry (R143, R146): the value counts units of the entry's least weight. `pos` and `neg` say which
infinities are among its terms, which the class alone forgets beside a NaN (R114). -/
structure AccEntry where
  value : Int
  cls : Cls
  pos : Bool
  neg : Bool
  invalid : Bool
  zeroNeg : Bool
  nonempty : Bool
deriving DecidableEq, Repr

/-- An empty entry (R146). -/
def AccEntry.empty : AccEntry :=
  { value := 0, cls := .finite, pos := false, neg := false, invalid := false, zeroNeg := true, nonempty := false }

/-- A lane sum of the parallax lane (R168): the exact sum in units of the entry class's least weight, which kinds of
number it sums (bit 0 positive, 1 negative, 2 zero, 3 +infinity, 4 -infinity, 5 NaN), and whether one signalled. -/
structure LaneSum where
  value : Int
  kinds : Nat
  invalid : Bool
deriving DecidableEq, Repr

/-- A stationary set of the matrix engine (R137, R150): the element and scale bytes a LOADS read, with the
fields that say how they are laid out, and its lane sums. `vals` is row-major over `rows` x `cols`. -/
structure StatSet where
  valid : Bool
  fmt : Nat
  scaleCtl : Nat
  rows : Nat
  cols : Nat
  vals : List Nat
  scales : List Nat
  poisoned : Bool
  /-- sigma[k], formed as the LOADS filled the set (R168). -/
  sums : List LaneSum
deriving DecidableEq, Repr

def StatSet.none : StatSet :=
  { valid := false, fmt := 0, scaleCtl := 0, rows := 0, cols := 0, vals := [], scales := [], poisoned := false, sums := [] }

/-- What the array of a matrix engine holds of the tile in progress, and what a re-execution forms anew (R174). -/
structure MeArray where
  shadow : StatSet
  active : StatSet
  swapPending : Bool
  /-- A LOADS that waits for the swap before it to take effect (R151). -/
  deferred : Option StatSet
  /-- Accumulator file: key row x 4,096 + column. -/
  entries : Assoc AccEntry
  /-- Lane accumulator (R169): a lane entry for each output row (square) or column (horizon). -/
  lane : Assoc AccEntry
  /-- Class of the tile in progress: wide or narrow; none before its first STREAM. -/
  tileWide : Option Bool
  /-- Format of the tile's first STREAM (R164 code 0x09). -/
  tileFmt : Option Nat
  terms : Nat
  poisoned : Bool
deriving DecidableEq, Repr

def MeArray.reset : MeArray :=
  { shadow := .none, active := .none, swapPending := false, deferred := Option.none, entries := [], lane := [], tileWide := none,
    tileFmt := none, terms := 0, poisoned := false }

/-- A parallax sequence in progress (R174): the check that failed, where, the candidate columns left, the half
bypassed in the last run, whether every run of the search has passed, and the phase. -/
structure PxSeq where
  check : Nat
  index : Nat
  /-- 0 re-execution, 1 search, 2 single-candidate run, 3 final full-width run. -/
  phase : Nat
  cand : List Nat
  half : List Nat
  allPassed : Bool
  /-- The DRAIN's dst when a drain check started the sequence. -/
  dst : Option Nat
  /-- What the run that passed with the candidate bypassed left: of pushed work its array, of a ring tile its rows of
  elements and its flags. -/
  saved : Option MeArray
  savedTile : Option (List (List Nat) × Flags)
deriving DecidableEq, Repr

/-- A DRAIN with to_ve that has started (R202): the out_scale it started under, the draw counter it issued at once a VRECV
takes from it, and the outputs taken. -/
structure ToVe where
  q : Quad
  outScale : Nat
  ctr : Option Nat
  taken : Nat
deriving DecidableEq, Repr

/-- The matrix engine of a T-core beyond its registers. -/
structure MeState extends MeArray where
  queue : List Quad
  /-- Presented width that bounds extents since the LOADS that last began a tile (R158, R237). -/
  tileWidth : Option Nat
  /-- The array as the tile in progress began, where a re-execution starts (R174). -/
  start : MeArray
  /-- Instructions of the tile in progress kept for re-execution (R173), newest last. -/
  replay : List Quad
  replayLost : Bool
  px : Option PxSeq
  /-- Columns retired during the tile in progress (R175). -/
  tileRetired : Nat
  /-- CHECK_FAIL has ended the engine's work (R179). -/
  stopped : Bool
  /-- The ring operation and the progress tile of it that the sequence runs for, or that failed (R179). -/
  ring : Option (Nat × Nat)
  injectPending : Bool
  toVe : Option ToVe
deriving DecidableEq, Repr

def MeState.reset : MeState :=
  { MeArray.reset with
    queue := [], tileWidth := Option.none, start := .reset, replay := [], replayLost := false, px := none,
    tileRetired := 0, stopped := false, ring := Option.none, injectPending := false, toVe := Option.none }

/-- A reduction slot (R204 to R208). -/
structure RedSlot where
  nonempty : Bool
  /-- red_op of R196, format and mode of the tap that last fed the slot. -/
  op : Nat
  fmt : Nat
  exact : Bool
  /-- Which accumulation it holds, and whether taps of two kinds have met in it, for which R204 gives no value. -/
  kind : Nat
  mixed : Bool
  /-- Elements seen since the last reset (R205). -/
  count : Nat
  /-- Integer sum (R206). -/
  isum : Int
  /-- Exact sum (R207). -/
  entry : AccEntry
  /-- Fast-mode FP32 sum (R208). -/
  acc : Option Nat
  /-- The extremum so far: format and bits (R205). -/
  best : Option (Nat × Nat)
  /-- Index of the extremum (R205). -/
  index : Nat
deriving DecidableEq, Repr

def RedSlot.empty : RedSlot :=
  { nonempty := false, op := 0, fmt := 0, exact := false, kind := 0, mixed := false, count := 0, isum := 0, entry := .empty, acc := none,
    best := none, index := 0 }

/-- The vector engine beyond its registers. -/
structure VeState where
  queue : List Quad
  /-- v0 to v15: key register x 4,096 + 32-bit slot (R192). -/
  vregs : Assoc (BitVec 32)
  /-- p0 to p7: key register x 4,096 + bit (R192). -/
  preds : Assoc Bool
  slots : List RedSlot
  /-- Drained outputs not yet taken: (format, bits) (R202). -/
  stream : List (Nat × Nat)
  /-- A failure has ended the engine's work (R179, R186). -/
  stopped : Bool
deriving DecidableEq, Repr

def VeState.reset : VeState :=
  { queue := [], vregs := [], preds := [], slots := [.empty, .empty, .empty, .empty], stream := [], stopped := false }

/-- Where an element or row of a transfer stands (R287, R288). -/
inductive ElemSt where
  /-- Pieces (64 B lines) still out, and the bytes that have come. -/
  | waiting (left : Nat) (buf : List Byte)
  | arrived (bytes : List Byte)
  /-- Written and acknowledged: the bytes that went out. -/
  | acked (bytes : List Byte)
  | faulted (status : Nat)
deriving DecidableEq, Repr

/-- A MOVE, GATHER or SCATTER in progress (R284 to R288). -/
structure Xfer where
  /-- The 64 descriptor bytes. -/
  desc : List Byte
  /-- Scratchpad the transfer reads or writes. -/
  core : Nat
  total : Nat
  issued : Nat
  committed : Nat
  /-- Elements issued and not yet committed: (number, state). -/
  inFlight : List (Nat × ElemSt)
  /-- Running CRC-64 over the committed bytes, in the order of R181. -/
  crc : Nat
deriving DecidableEq, Repr

/-- The fetch engine beyond its registers. -/
structure FeState where
  queue : List Quad
  xfer : Option Xfer
  /-- Lines of LLM or GDDR7 written in part since the last FENCE (R292). -/
  lines : List Nat
deriving DecidableEq, Repr

def FeState.reset : FeState := { queue := [], xfer := none, lines := [] }

/-- A posted store or atomic of a core since its last FENCE (R583, R340): its address, the rack request or the window
message it waits for, how it ended, and the lines of LLM or GDDR7 it wrote in part (R292). -/
structure Posted where
  addr : Nat
  req : Option Nat
  status : Option Nat
  lines : List Nat
deriving DecidableEq, Repr

/-- One line of an access that reads: address, length, the rack request it went out as, and its status and bytes once
they are known (R223, R230, R583). -/
structure VPart where
  addr : Nat
  len : Nat
  req : Option Nat
  status : Option Nat
  bytes : List Byte
deriving DecidableEq, Repr

/-- Where the data of a load goes (R225, R226, R230, R583). -/
inductive LoadDst where
  /-- An integer register, from `size` bytes; register 0 where a later instruction has written it. -/
  | x (xd size : Nat) (signed : Bool)
  /-- Elements `e0` up to `n`, of `b` bits, of the group at `fd`, in those of its registers that no later instruction
  has written; `first` for a first-fault load. -/
  | elems (fd b e0 n : Nat) (live : List Nat) (first : Bool)
  /-- The exact accumulator, unless it has been cleared since. -/
  | acc (live : Bool)
deriving DecidableEq, Repr

/-- A load from outside the scratchpad whose data has not returned: its destination, its lines, and the pc it stands at
(R583). -/
structure PendLoad where
  dst : LoadDst
  parts : List VPart
  pc : Word
deriving DecidableEq, Repr

/-- A Jumbe core: the control core of a T-core or a P application core (R213 to R239, R583). -/
structure Jumbe where
  x : Assoc Word
  f : Assoc Quad
  fpsr : Word
  ffe : Nat
  trapElem : Nat
  trapAddr : Word
  causeCode : Nat
  causeQueue : Nat
  xaccTerms : Nat
  xacc : AccEntry
  /-- Pending exceptions: (code, engine queue number). -/
  pending : List (Nat × Nat)
  inHandler : Bool
  /-- A precise vector-access trap is pending (R239). -/
  trapPending : Bool
  posted : List Posted
  loads : List PendLoad
  pc : Word
  /-- Where a handler's return goes (R225, R238). -/
  epc : Word
  /-- Held at an instruction boundary by an almanac cut (R508). -/
  held : Bool
  retired : Bool
  /-- The command bytes 0x00 to 0x1F of the core's atomic port (R321). -/
  portCmd : List Byte
  portBusy : Bool
  portOld : Word
  portStatus : Word
deriving DecidableEq, Repr

def Jumbe.reset : Jumbe :=
  { x := [], f := [], fpsr := 0, ffe := 0, trapElem := 0, trapAddr := 0, causeCode := 0, causeQueue := 0,
    xaccTerms := 0, xacc := .empty, pending := [], inHandler := false, trapPending := false, posted := [],
    loads := [], pc := 0, epc := 0, held := false, retired := false, portCmd := List.replicate 32 0,
    portBusy := false, portOld := 0, portStatus := 0 }

/-- A T-core: three engines and a control core (R15). -/
structure TCore where
  me : MeState
  ve : VeState
  fe : FeState
  cc : Jumbe
  /-- Zeroing after a banking-mode change is running (R280). -/
  zeroing : Bool
  /-- Consecutive cycles in which a request has been refused: key bank (segment in compatibility mode) x 8 + requester
  (R274, R279). -/
  refused : Assoc Nat
deriving DecidableEq, Repr

def TCore.reset : TCore := { me := .reset, ve := .reset, fe := .reset, cc := .reset, zeroing := false, refused := [] }

/-- What a partitioned solve has received at a reduction or a barrier, or a callback has returned, since its last
boundary (R258, R265). -/
inductive SolveAns where
  /-- The sum over all members. -/
  | entry (e : AccEntry)
  /-- A whole vector read back. -/
  | vec (v : List Word)
deriving DecidableEq, Repr

/-- What a solve waits for (R258, R265). -/
inductive SolveNeed where
  /-- The other members' entries, beside its own. -/
  | entry (own : AccEntry)
  /-- The barrier after publishing its rows of a vector. -/
  | gather (own : List Word)
  /-- A callback on its rows of a vector: the n-th application since the start. -/
  | callback (own : List Word) (n : Nat)
deriving DecidableEq, Repr

/-- A solve in progress on an SE (R249 to R262). Its vectors, factors and x_best are in its workspace in memory (R251,
R255), as they stood at the last iteration boundary; this is what the engine holds beside them. -/
structure Solve where
  slot : Nat
  part : Nat
  /-- The solve control block as validated. -/
  block : List Byte
  /-- 0 starting, 1 iterating, 2 returning, 3 and 4 in the first and the second recheck. -/
  phase : Nat
  /-- The iterate, FP64 bits, one element per row this engine owns. -/
  x : List Word
  /-- Scalars the method carries from step to step, and whether its setup is due. -/
  scal : List Word
  fresh : Bool
  best : Word
  bestIter : Nat
  thr : Word
  bNorm : Word
  it : Nat
  /-- Preconditioner applications since the start (R258). -/
  applications : Nat
  firstBoost : Option Nat
  answers : List SolveAns
  need : Option SolveNeed
  /-- When the callback wait began. -/
  cbSince : Option Nat
  /-- The first reduction of the group has compared the shared fields (R264). -/
  hashed : Bool
  abortAsked : Bool
  /-- The stop this member has decided and carries in the next reduction (R266); 0 for none. -/
  ask : Nat
  /-- A member of its group is lost (R267). -/
  lost : Bool
  /-- Stop decided, with its rack time and transit number; 0 while none is (R268). -/
  stop : Nat
  stopTime : Nat
  stopTransit : Nat
  /-- Errors that the second copy of x_best would take. -/
  errs : List (Nat × Word)
  /-- Package time at the start, and when busy cycles were last counted. -/
  began : Nat
  counted : Nat
deriving DecidableEq, Repr

/-- A solver engine beyond its registers. -/
structure SeState where
  solve : Option Solve
  retired : Bool
deriving DecidableEq, Repr

def SeState.reset : SeState := { solve := none, retired := false }

/-- A mesh link between two dies (R24, R30): its modules lost. Traffic that meets a module's retrain waits, which
is back-pressure only (R32) and leaves nothing behind. -/
structure MeshLink where
  lost : List Nat
deriving DecidableEq, Repr

def MeshLink.reset : MeshLink := { lost := [] }

/-- A directory entry of a 64 B line (R294): the P-core owner of a modified copy, the P cores that share it, and
whether a cache-mode unit holds it, dirty or clean. -/
structure DirLine where
  owner : Option Nat
  sharers : List Nat
  cached : Bool
  dirty : Bool
deriving DecidableEq, Repr

def DirLine.none : DirLine := { owner := Option.none, sharers := [], cached := false, dirty := false }

/-- A write-combining entry (R292): line address, byte mask and data, oldest first in its list. -/
structure WcbEntry where
  line : Nat
  mask : List Bool
  data : List Byte
deriving DecidableEq, Repr

/-- A GDDR7 request in a channel queue (R309): channel-local line address and read class (0 normal,
1 latency-critical, 2 bulk). -/
structure GReq where
  line : Nat
  cls : Nat
deriving DecidableEq, Repr

/-- A GDDR7 channel beyond its registers. -/
structure Channel where
  rq : List GReq
  wq : List GReq
  writing : Bool
  /-- Transfers issued in the present direction. -/
  batch : Nat
  /-- Writes issued since a latency-critical read began to wait. -/
  sinceLat : Nat
  /-- Read slots since a normal or bulk read was served, and shared slots since a bulk read was served (R310). -/
  sinceLow : Nat
  sinceBulk : Nat
  /-- Failed attempts of the transfer in progress, and the times of the retries of the last millisecond (R303). -/
  attempts : Nat
  retries : List Nat
  /-- A second retrain follows the one that runs (R316). -/
  retrainQueued : Bool
  /-- Times at which retrains failed (R304). -/
  failTimes : List Nat
  /-- Zeroing after release (R65). -/
  zeroing : Bool
  selfRefresh : Bool
  refreshes : Nat
deriving DecidableEq, Repr

def Channel.reset : Channel :=
  { rq := [], wq := [], writing := false, batch := 0, sinceLat := 0, sinceLow := 0, sinceBulk := 0,
    attempts := 0, retries := [], retrainQueued := false, failTimes := [],
    zeroing := false, selfRefresh := false, refreshes := 0 }

/-- An entry of the epoch write table of a home M-die (R330): backing line, byte mask, data, transit tag. -/
structure EpochEntry where
  line : Nat
  mask : List Bool
  data : List Byte
  tag : Nat
deriving DecidableEq, Repr

/-- A rack request of this package that has not ended (R337): who waits for it and where it goes. -/
structure RackOut where
  dst : Nat
  desc : Nat
  off : Nat
  /-- 0 load, 1 store, 2 non-fetch atomic, 3 fetch atomic, 4 VC3 message (R420). -/
  kind : Nat
  len : Nat
  /-- Who issued it: a core, or a mover's element with the offset of its piece. -/
  core : Option CoreId
  mover : Option (Mover × Nat × Nat)
  /-- The package's route candidates as it left (R376). -/
  cands : List (Nat × Nat × Nat)
  epoch : Bool
  /-- Transit number at its issue (R87). -/
  issuedIn : Nat
  partition : Nat
  timeoutUs : Nat
  querying : Bool
deriving DecidableEq, Repr

/-- A flit kept in a replay buffer (R361). -/
structure TxFlit where
  seq : Nat
  vc : Nat
  cls : Nat
  msgs : List Msg
deriving DecidableEq, Repr

/-- States of the transmitter (R366). -/
inductive TxState where
  | idle
  | active
  | replaying
  | retrain
deriving DecidableEq, Repr

/-- A message that waits to be sent: virtual channel, hop class, and the ingress buffer it still holds: link key and
credit key (R370, R371). -/
structure SendItem where
  vc : Nat
  cls : Nat
  msg : Msg
  holds : Option (Nat × Nat)
deriving DecidableEq, Repr

/-- One link: a port, or a wavelength of a split port (R354, R361 to R371). -/
structure Link where
  tx : TxState
  nextSeq : Nat
  unacked : List TxFlit
  /-- Sequence numbers still to be resent in a replay. -/
  resend : List Nat
  replayRun : Nat
  txCount : Nat
  /-- tx_count at the last key update (R382). -/
  keyStart : Nat
  keyPhase : Bool
  expected : Nat
  gapFlag : Bool
  owed : Nat
  ackNow : Bool
  lastReplay : Option Nat
  /-- When the replay timer last started (R365). -/
  timerAt : Nat
  sendq : List SendItem
  /-- Credits held, key vc x 4 + class; credits owed to the peer and receive buffers in use likewise. -/
  credits : Assoc Nat
  owedCredits : Assoc Nat
  held : Assoc Nat
  /-- Where the rotation among the owed credits goes on (R371). -/
  crNext : Nat
  /-- Receive buffers of this end, in units of 16 flits (R370). -/
  alloc : List Nat
  rrVc : Nat
  rrLeft : Nat
  /-- SCP_PORT_VCW as the present round began (R372). -/
  rrWeights : Word
  retrainTimes : List Nat
  retrainQueued : Bool
  retrainFails : Nat
  authed : Bool
  /-- Either end asks for encryption (R381). -/
  enc : Bool
  /-- Authentication runs again after a retrain (R380). -/
  reauth : Bool
  /-- Protocol version it runs at (R387). -/
  version : Nat
deriving DecidableEq, Repr

def Link.reset : Link :=
  { tx := .idle, nextSeq := 0, unacked := [], resend := [], replayRun := 0, txCount := 0, keyStart := 0,
    keyPhase := false, expected := 0, gapFlag := false, owed := 0, ackNow := false,
    lastReplay := none, timerAt := 0, sendq := [], credits := [], owedCredits := [], held := [], crNext := 0, alloc := [],
    rrVc := 7, rrLeft := 0, rrWeights := 0,
    retrainTimes := [], retrainQueued := false, retrainFails := 0, authed := false, enc := false, reauth := false,
    version := 0 }

/-- A token bucket (R383, R384): what has been taken from it in units of 0.1 B and is not yet refilled, and when it
was last looked at. -/
structure Bucket where
  used : Nat
  at_ : Nat
deriving DecidableEq, Repr

def Bucket.reset : Bucket := { used := 0, at_ := 0 }

/-- Policing of one source LDN (R384): its bucket, and when the excess flits of the last millisecond came. -/
structure Police where
  bucket : Bucket
  excess : List Nat
deriving DecidableEq, Repr

def Police.reset : Police := { bucket := Bucket.reset, excess := [] }

/-- A write into a send window that waits for the DELIVERED of its message (R407): a store of a core, a piece of an
element of a transfer, or a write whose issuer the command does not name. -/
inductive WinWait where
  | store (u : CoreId) (addr : Nat)
  | elem (w : Mover) (e piece : Nat)
  | bare (cluster slot off : Nat)
deriving DecidableEq, Repr

/-- A collective message being received (R401): packets by number. -/
structure RxMsg where
  cst : Nat
  epoch : Nat
  seq : Nat
  srcLdn : Nat
  cluster : Nat
  msg : Nat
  exact : Bool
  pkts : List (Nat × List Byte)
  lastPkt : Option Nat
  /-- The CRC-32C failed once and a RESEND was returned (R402). -/
  retried : Bool
  /-- Decided at the first packet (R408): 0 lands, 1 parks, 2 stale, 3 parking full, 4 aborted or crossed. -/
  fate : Nat
deriving DecidableEq, Repr

/-- A complete collective message that waits in a parking slot (R409), oldest first; its payload is in the slot of the
staging buffer. -/
structure Parked where
  cst : Nat
  epoch : Nat
  seq : Nat
  srcLdn : Nat
  cluster : Nat
  msg : Nat
  exact : Bool
  retried : Bool
  place : Nat
  len : Nat
deriving DecidableEq, Repr

/-- A message a cluster sent and holds until DELIVERED (R402, R410), with the request that times it (R420). -/
structure OutMsg where
  cst : Nat
  epoch : Nat
  seq : Nat
  srcIndex : Nat
  dstLdn : Nat
  dstCluster : Nat
  msg : Nat
  bytes : List Byte
  exact : Bool
  resent : Bool
  parkWait : Bool
  req : Option Nat
  waits : List WinWait
deriving DecidableEq, Repr

/-- A post entry (R403): its 64 bytes, the epoch it bound, the messages landed, how many arrived, what it added to its
beacon, the payload length of its last message, and for XSUM the checksum accumulator and the messages seen of each
sender's partial: (sender LDN, count, total when known). -/
structure Post where
  bytes : List Byte
  epoch : Nat
  landedSet : List Nat
  landed : Nat
  added : Nat
  twinkle : Bool
  flags : Nat
  lastLen : Nat
  checksum : AccEntry
  partials : List (Nat × Nat × Option Nat)
deriving DecidableEq, Repr

def Post.free : Post :=
  { bytes := List.replicate 64 0, epoch := 0, landedSet := [], landed := 0, added := 0, twinkle := false, flags := 0,
    lastLen := 0, checksum := .empty, partials := [] }

/-- A send slot (R407): its 32 bytes, the next window offset expected, the bytes written of the message (kind 0) or
entry (kinds 1 and 2) in progress and the writes that wait, each with the entry its last byte lies in; of a partial, the
messages sent since the slot was
armed and of this partial, and of the message in progress its first element, element count and elements, with the
exact sum of the partial so far. -/
structure SendSlot where
  bytes : List Byte
  next : Nat
  buf : List Byte
  waits : List (Nat × WinWait)
  sent : Nat
  sentPart : Nat
  first : Nat
  count : Nat
  body : List Byte
  sum : AccEntry
deriving DecidableEq, Repr

def SendSlot.free : SendSlot :=
  { bytes := List.replicate 32 0, next := 0, buf := [], waits := [], sent := 0, sentPart := 0, first := 0, count := 0,
    body := [], sum := .empty }

/-- A tombstone of a crossed collective (R417). -/
structure Tomb where
  cst : Nat
  epoch : Nat
  seq : Nat
  /-- The other collective: constellation and seq. -/
  peer : Nat × Nat
deriving DecidableEq, Repr

/-- A beacon (R425 to R434). -/
structure Beacon where
  value : Word
  mode : Nat
  assigned : Bool
  partition : Nat
  oneTenant : Bool
  tenant : Nat
  vector : Nat
  armed : Bool
  target : Nat
deriving DecidableEq, Repr

def Beacon.reset : Beacon :=
  { value := 0, mode := 0, assigned := false, partition := 0, oneTenant := false, tenant := 0, vector := 0,
    armed := false, target := 0 }

/-- Who is to be answered when a wait or an acquire ends. -/
inductive Answer where
  | engine (core : Nat) (q : EngineQ)
  | se (n : Nat)
  | op (slot : Nat)
  | window (w : Who)
  /-- A request through a beacon window of the rack: source, identifier, whether the value goes back. -/
  | rack (src id : Nat) (fetch : Bool)
deriving DecidableEq, Repr

/-- A waiter of a beacon (R432, R433): a wait with its threshold, or an acquire. -/
structure Waiter where
  beacon : Nat
  who : Who
  ans : Answer
  prio : Nat
  /-- none for an acquire. -/
  threshold : Option Word
  /-- Occupies the waiter table; reserved waits do not (R432). -/
  tabled : Bool
  /-- Owner epoch of the requester when it arrived (R431). -/
  epoch : Nat
deriving DecidableEq, Repr

/-- A ring operation in flight (R438 to R442). -/
structure Op where
  ring : Nat
  /-- Order of fetch in its ring, and the transit number at the fetch (R92). -/
  order : Nat
  fetchedIn : Nat
  desc : List Byte
  started : Bool
  /-- Final status once the work has ended; the record is then due. -/
  status : Option Nat
  /-- Its place among the operations whose work has ended (R439). -/
  ended : Nat
  progress : Word
  witness : Word
  classFlags : Nat
  aux : Nat
  /-- Times lost work has been reissued (R499). -/
  reissues : Nat
  partition : Nat
  xfer : Option Xfer
  /-- MATMUL (R440, R441): the reads on their way for a tile, the stores still out of each tile, and the result of each
  tile as rows of elements. -/
  parts : List VPart
  partsTile : Option Nat
  stores : List (Nat × Nat)
  tiles : List (Nat × List (List Nat))
  /-- The matrix control block, as it was read at the start. -/
  ctrl : List Byte
  /-- The T-core that works on each progress tile that has started and is not committed (R499), how often each tile has been
  reissued, and the tiles that stay undone because their core was lost with auto-reissue off. -/
  work : List (Nat × Nat)
  again : Assoc Nat
  given : Nat
  /-- A parallax sequence of a tile has ended in CHECK_FAIL, and the record waits for the core's last instruction (R179). -/
  failed : Bool
  /-- FLR of its VF: the record and host writes are discarded (R459). -/
  discarded : Bool
  /-- Iterations of a solve whose engine was lost, from which a restart counts on (R270). -/
  resumeIt : Nat
deriving DecidableEq, Repr

/-- A report on its way to the error log (R482, R486 to R489). -/
structure Report where
  source : Nat
  code : Nat
  cls : Nat
  detail : Nat
  /-- Rack time, transit number, and ns since that transit's fire time, at the report (R486). -/
  time : Nat
  transit : Nat
  firstNs : Nat
deriving DecidableEq, Repr

/-- What the log keeps of an entry for coalescing (R488): source, code, class, count, first and last time. -/
structure LogMeta where
  index : Nat
  source : Nat
  code : Nat
  first : Nat
  last : Nat
deriving DecidableEq, Repr

/-- A recovery that runs or waits (R492, R495). -/
structure Recovery where
  domain : Domain
  /-- Sequencer slot 0 to 3 while it runs. -/
  slot : Nat
  start : Nat
  /-- Work of these operations is reissued at its end. -/
  retire : Bool
deriving DecidableEq, Repr

/-- Kinds of firmware boot outcome (R467, R469). -/
inductive BootStage where
  /-- Held in reset by PERST_N, a rail, or an internal reset. -/
  | inReset
  /-- The ROM has chosen a copy. -/
  | rom
  | running
  | recovery
  | halted
deriving DecidableEq, Repr

/-- What survives every reset: fuses, OTP, straps and the boot flash (R454, R465 to R470, R480). -/
structure NonVol where
  fusedDies : Nat
  fusedCores : List Nat
  fusedCols : Assoc Word
  fusedPcores : List Nat
  fusedSes : List Nat
  fusedLlm : List Nat
  fusedChannels : List Nat
  fusedPorts : List Nat
  stepping : Nat
  serial : Word
  vendorSlots : Nat
  /-- Digests of the vendor keys, held in fuses, and the public keys that firmware holds for the slots (R53, R54). -/
  vendorDigests : List (List Byte)
  vendorKeys : List (List Byte)
  /-- 2 bits per owner slot: 0 empty, 1 programmed, 2 revoked, 3 spoiled. -/
  ownerSlots : List Nat
  ownerDigests : List (List Byte)
  fwMin : Nat
  imageMin : Nat
  strapRack : Nat
  strapSlot : Nat
  /-- The boot flash (R465): both firmware copies, both activation records, both Togus images, the owner keys. -/
  fwA : List Byte
  fwB : List Byte
  rec0 : List Byte
  rec1 : List Byte
  togusA : List Byte
  togusB : List Byte
  ownerKeys : List (List Byte)
deriving DecidableEq, Repr

def NonVol.blank : NonVol :=
  { fusedDies := 0, fusedCores := [], fusedCols := [], fusedPcores := [], fusedSes := [], fusedLlm := [],
    fusedChannels := [], fusedPorts := [], stepping := 0, serial := 0, vendorSlots := 0,
    vendorDigests := [[], []], vendorKeys := [[], []],
    ownerSlots := [0, 0, 0, 0], ownerDigests := [[], [], [], []], fwMin := 0, imageMin := 0, strapRack := 0,
    strapSlot := 0, fwA := [], fwB := [], rec0 := [], rec1 := [], togusA := [], togusB := [],
    ownerKeys := [[], [], [], []] }

/-- The boot sequence (R464 to R473). -/
structure Boot where
  stage : BootStage
  /-- The copy being booted, 0 A, 1 B. -/
  copy : Nat
  onTrial : Bool
  watchdog : Bool
  start : Nat
  /-- Copies excluded by a stage 2 mismatch (R466). -/
  excluded : List Nat
  configReady : Bool
  /-- PLDM update in progress: component 0 firmware, 1 Togus image. -/
  staging : Option Nat
  eid : Nat
deriving DecidableEq, Repr

def Boot.reset : Boot :=
  { stage := .inReset, copy := 0, onTrial := false, watchdog := false, start := 0, excluded := [],
    configReady := false, staging := none, eid := 0 }

/-- A partial image that has been accepted (R62, R63): its bytes, the sections in force that it was validated against,
transits waited, whether application has begun. -/
structure PendingImg where
  partition : Nat
  bytes : List Byte
  base : List (List Byte)
  waited : Nat
  limit : Nat
  applying : Bool
  held : Bool
deriving DecidableEq, Repr

/-- The Togus structure (R42 to R66): the seven sections in force, in type order, and the images on their way. -/
structure Togus where
  sections : List (List Byte)
  pending : List PendingImg
  validating : Option (List Byte)
  /-- Partitions whose rings resume at the next transit. -/
  resume : List Nat
  releasedCh : Nat
deriving DecidableEq, Repr

def Togus.none : Togus := { sections := [], pending := [], validating := Option.none, resume := [], releasedCh := 0 }

/-- Transit state beyond the TRN registers. -/
structure Trn where
  /-- A transit number is held (R72). -/
  numbered : Bool
  /-- Rack time counts: the package has joined a rack epoch (R69, R72). -/
  started : Bool
  /-- A master's marker or MASTER message has been heard since the last election began (R474). -/
  adopted : Bool
  /-- Fire time of the step's first transit, rack ns. -/
  fireTime : Nat
  /-- The next transit's number, fire time and period once scheduled. -/
  sched : Option (Nat × Nat × Nat)
  /-- Number the master gives the next transit (R72). -/
  nextNo : Nat
  /-- Rack time is held until the master's time passes it (R76): (local time, master time) as last received. -/
  hold : Option (Nat × Nat)
  /-- Offset still to be slewed (R76). -/
  slew : Int
  /-- LDNs whose DONE for the step the master holds. -/
  dones : List Nat
  doneSent : Bool
  /-- Own partitions darkened for a step: (its transit, partition) (R90). -/
  darkNext : List (Nat × Nat)
  /-- A candidate, since when, and the packages that acknowledged it with the transit number each holds (R70, R71). -/
  cand : Bool
  candSince : Nat
  acks : List (Nat × Option Nat)
  /-- Best candidate of the election so far: priority and physical address. -/
  heard : Option (Nat × Nat)
  /-- Physical address of the master, and rack time at which its MASTER message came. -/
  masterPhys : Nat
  masterAt : Nat
  /-- An election starts at the next transit (R73). -/
  electNext : Bool
  /-- Messages heard or sent: type and contents without the path delay (R74). -/
  relayed : List (Nat × List Nat)
  /-- A late SCHEDULE marker keeps synced clear until the next SYNC (R78). -/
  lateSync : Bool
  /-- Transit at which the pending period applies, counted from the write (R68). -/
  perAt : Nat
  /-- Windows written for the next transit, by partition (R82). -/
  winNext : Assoc Word
  /-- The nominal time has passed and the transit is held back (R81, R89). -/
  stretching : Bool
  /-- When the first port reached UP (R474). -/
  firstUp : Option Nat
  /-- Partitions whose lost time has passed droop_margin in this step (R100). -/
  overCounted : List Nat
deriving DecidableEq, Repr

def Trn.reset : Trn :=
  { numbered := false, started := false, adopted := false, fireTime := 0, sched := none, nextNo := 0, hold := none,
    slew := 0, dones := [], doneSent := false, darkNext := [], cand := false, candSince := 0, acks := [],
    heard := none, masterPhys := 0, masterAt := 0, electNext := false, relayed := [], lateSync := false,
    perAt := 0, winNext := [],
    stretching := false, firstUp := none, overCounted := [] }

/-- Droop of a die (R97 to R99), in package time: when the present stretch was last counted, when it last began or
restarted, and stretched ns of the step so far. -/
structure Droop where
  since : Option Nat
  last : Nat
  stretched : Nat
deriving DecidableEq, Repr

def Droop.reset : Droop := { since := none, last := 0, stretched := 0 }

/-- A restore in progress (R522, R523): whether its source is this package's own drives, and of which area x 2 + slot;
the manifest that was verified. -/
structure Restore where
  own : Option Nat
  manifest : List Byte
deriving DecidableEq, Repr

/-- Almanac sequence (R507 to R524). -/
structure Alm where
  /-- Step of R518 reached, 0 before step 1. -/
  step : Nat
  /-- Slot being written, and the partitions and the transit of the cut. -/
  target : Nat
  parts : Nat
  cut : Nat
  /-- Cores and rings of the saved partitions are held (R508). -/
  held : Bool
  /-- The last shard byte has been read from memory (R511). -/
  readDone : Bool
  /-- Shards still to be written in step 2, the one under way first. -/
  todo : List Nat
  /-- What the step still waits for: the drives, the buddy. -/
  localWait : Bool
  buddyWait : Bool
  /-- The buddy has served every byte so far (R517). -/
  mirrorOk : Bool
  cancelAsked : Bool
  stateShard : List Byte
  /-- The manifest being written. -/
  manifest : List Byte
  rst : Option Restore
  /-- Activity 6 is held for another package's mirror. -/
  mirroring : Bool
  /-- Own pointer copies 0 and 1, buddy pointer copies 0 and 1: (valid, seq, slot, transit). -/
  ptrs : List (Bool × Nat × Nat × Nat)
  /-- Manifest regions of own slots 0 and 1 and buddy slots 0 and 1: bytes, empty when zeroed. -/
  manifests : List (List Byte)
  /-- Shards on the drives: (area x 2 + slot, shard id, its blocks with the trailer's). -/
  shards : List (Nat × Nat × List Byte)
deriving DecidableEq, Repr

def Alm.reset : Alm :=
  { step := 0, target := 0, parts := 0, cut := 0, held := false, readDone := false, todo := [], localWait := false,
    buddyWait := false, mirrorOk := false, cancelAsked := false, stateShard := [], manifest := [], rst := none,
    mirroring := false,
    ptrs := [(false, 0, 0, 0), (false, 0, 0, 0), (false, 0, 0, 0), (false, 0, 0, 0)],
    manifests := [[], [], [], []], shards := [] }

/-- Night Watch beyond its registers (R529 to R540). -/
structure Nwt where
  /-- Filters in units of 1/256: key sensor. -/
  filt : Assoc Int
  started : Bool
  hold : Assoc Nat
  /-- Consecutive samples at or above 105 C per die (R533). -/
  hot : Assoc Nat
  /-- A wake that arrived during entry (R538): its code and rule; 0 none. -/
  wakeSource : Nat
  wakeRule : Nat
  wakeAtNs : Option Nat
  /-- Issue limits in percent per die, and the time each die fell below 90 C (R572). -/
  limit : Assoc Nat
  coolSince : Assoc (Option Nat)
  /-- Since when an M-die has been below 90 C with no device hot (R314). -/
  mCool : Assoc (Option Nat)
  night : Bool
deriving DecidableEq, Repr

def Nwt.reset : Nwt :=
  { filt := [], started := false, hold := [], hot := [], wakeSource := 0, wakeRule := 0,
    wakeAtNs := none, limit := [], coolSince := [], mCool := [], night := false }

/-- Eclipse beyond its registers (R541 to R546): 0 none, 1 putting channels into self-refresh, 2 frozen and
reading out. -/
structure Ecl where
  phase : Nat
  fast : Bool
deriving DecidableEq, Repr

def Ecl.reset : Ecl := { phase := 0, fast := false }

/-- Pins, rails, reference clocks and the regulator bus (R461, R567 to R575). -/
structure Pins where
  perstN : Bool
  eclipseN : Bool
  wakeN : Bool
  /-- Rails below 90 % of nominal. -/
  railsBad : List Nat
  clocksLost : List RefClk
  laserLost : List Nat
  /-- A reset is held until every reference has been present (R575). -/
  heldByClock : Bool
  /-- Set points of VDD_T and VDD_P in mV: last acknowledged, requested. -/
  avsSet : List Nat
  avsAsked : List (Option Nat)
  linkWidth : Nat
  linkRate : Nat
deriving DecidableEq, Repr

def Pins.reset : Pins :=
  { perstN := false, eclipseN := true, wakeN := true, railsBad := [], clocksLost := [], laserLost := [],
    heldByClock := false, avsSet := [800, 800], avsAsked := [none, none], linkWidth := 16, linkRate := 64 }

/-- What leaves the package (the model's record of messages, interrupts, pins and bytes that others see). -/
inductive Out where
  /-- A VC0 control message of R74 on a link: port, wavelength, type, links it has crossed, this one counted, and its
  contents in the order of R74. -/
  | vc0 (port lam mtype hops : Nat) (fields : List Nat)
  /-- Acknowledgement of a candidate: its physical address, the sender's, the transit number held (R71). -/
  | electionAck (cand own : Nat) (number : Option Nat)
  /-- A liveness query or its answer (R337). -/
  | liveness (ldn id : Nat) (answer : Option Bool)
  /-- MSI-X message of a function's vector (R456, R563). -/
  | msix (fn : Fn) (vector : Nat)
  /-- PLDM event message (R491, R536, R538). -/
  | pldm (event : Nat) (detail : Nat)
  /-- Management response: protocol, code, bytes. -/
  | mgmtResp (proto code : Nat) (bytes : List Byte)
  /-- A rack response: source LDN, request id, status, bytes, flags of a floating-point atomic. -/
  | rackResp (ldn id status : Nat) (bytes : List Byte) (flags : Nat)
  /-- A rack request of this package leaving: id, destination, descriptor, offset, kind, key, bytes, and the link it
  takes, none over the mesh (R375, R319). -/
  | rackReq (id dst desc off kind key : Nat) (bytes : List Byte) (link : Option (Nat × Nat))
  /-- A VC3 control message: destination LDN, type, fields. -/
  | vc3 (ldn mtype : Nat) (fields : List Nat)
  /-- A whole collective message as DATA packets: destination LDN, its header, payload and trailer. -/
  | vc3Data (ldn : Nat) (hdr : ColHdr) (bytes : List Byte)
  /-- A write into a send window whose issuer is not named has ended with a status. -/
  | winEnd (cluster slot off status : Nat)
  /-- A flit on a link: port, wavelength, type, seq, the acknowledgement it carries, gap, key phase, credits returned
  (key vc x 4 + class, count), messages. -/
  | flit (port lam ftype seq ack : Nat) (gap phase : Bool) (credits : List (Nat × Nat)) (msgs : List Msg)
  /-- A message delivered to this package's owner of its virtual channel. -/
  | deliver (vc : Nat) (m : Msg)
  /-- The answer of a beacon access: who, beacon, satisfied, value, granted from orphaned. -/
  | beacon (w : Who) (b : Nat) (ok : Bool) (value : Word) (orphan : Bool)
  /-- The answer of an access that ended in a status of R443. -/
  | ended (w : Who) (status : Nat)
  /-- What the two ports of a scratchpad see (R276): port A data or BUSY, port B data or BUSY. -/
  | ports (core : Nat) (a : Option Word) (busyA : Bool) (b : Option Word) (busyB : Bool)
  /-- Bytes written to host memory by DMA: function, address, bytes. -/
  | dma (fn : Fn) (addr : Nat) (bytes : List Byte)
  /-- A read of host memory by DMA. -/
  | dmaRead (fn : Fn) (addr len : Nat)
  /-- TRANSIT_OUT rises for transit n (R79). -/
  | transitOut (n : Nat)
  /-- ALERT_N level (R491, R532): true drives it low. -/
  | alert (low : Bool)
  /-- An NVMe write of the almanac sequence: drive, first block, bytes (R515, R518). -/
  | nvme (drive block : Nat) (bytes : List Byte)
  /-- A flush of every drive (R518). -/
  | nvmeFlush
  /-- A VC7 message: destination, kind (0 mirror, 1 flush, 2 commit, 3 restore data), fields, bytes. -/
  | vc7 (ldn kind : Nat) (fields : List Nat) (bytes : List Byte)
  /-- An AVSBus request: rail, millivolts. -/
  | avs (rail mv : Nat)
  /-- PCI Express configuration answer: retry status or completion. -/
  | config (retry : Bool)
deriving DecidableEq, Repr

/-- The state of the package. -/
structure State where
  /-- Commands that wait, first in, first out. -/
  pending : List Instr
  /-- Package time in ns, the model's own. -/
  clock : Nat
  /-- Number of free values drawn so far, the model's own. -/
  free : Nat
  /-- What has left the package, newest first. -/
  out : List Out
  /-- Registers of PF BAR0 by offset. -/
  regs : Assoc Word
  /-- Bytes of every memory, by the keys of `Memory`. -/
  mem : List Host.Cell
  /-- Poisoned 8 B words by address, and words that hold a single-bit error (R281, R289, R302). -/
  poison : List Nat
  weak : List Nat
  /-- Recorded poisoned addresses, newest first, key scratchpad or staging buffer (R281). -/
  poisonRec : Assoc (List Nat)
  nv : NonVol
  boot : Boot
  togus : Togus
  trn : Trn
  droop : Assoc Droop
  mesh : Assoc MeshLink
  tcores : Assoc TCore
  pcores : Assoc Jumbe
  ses : Assoc SeState
  /-- Assembly in progress on each P-die: the operation's slot (R243). -/
  fronts : Assoc (Option Nat)
  dir : Assoc DirLine
  wcb : Assoc (List WcbEntry)
  chans : Assoc Channel
  ewt : Assoc (List EpochEntry)
  /-- Transit each home M-die counts as fired (R332), and package time at which it last applied an operation
  (R337). -/
  homeTransit : Assoc Nat
  homeLast : Assoc Nat
  okt : Assoc (BitVec 128)
  /-- Keys replaced at a commit and still accepted: descriptor, old key, last transit (R346). -/
  oldKeys : List (Nat × Nat × Nat)
  reqs : Assoc (Option RackOut)
  /-- 2-bit transit generation of reader caches, and the remote epoch lines cached with theirs (R333). -/
  gen : Nat
  epochCache : List (Nat × Nat × List Byte)
  twilightArm : Bool
  links : Assoc Link
  routes : Assoc (BitVec 128)
  police : Assoc Police
  /-- Shaping of the traffic to each destination LDN (R383). -/
  shape : Assoc Bucket
  posts : Assoc Post
  slots : Assoc SendSlot
  rx : List RxMsg
  parked : List Parked
  outbox : List (Nat × OutMsg)
  tombs : List Tomb
  /-- Crossed pairs that an ABORT has named in their present epoch: the next ABORT of one is a duplicate (R417). -/
  buried : List Tomb
  lostAt : List (Nat × Nat)
  /-- Clusters here that refused a message of an LDN for want of parking (R410). -/
  parkWaits : List (Nat × Nat)
  beacons : Assoc Beacon
  waiters : List Waiter
  epochs : Assoc Nat
  /-- Position of the orphan scan, and whether a second follows (R431). -/
  scan : Option Nat
  scanAgain : Bool
  /-- Priority of a holder's next acquire (R433). -/
  nextPrio : List (Who × Nat × Nat)
  ops : Assoc (Option Op)
  /-- Solves that a restore resumes, until each has an engine: partition, control block, iterations behind it (R270,
  R271). -/
  resumes : List (Nat × List Byte × Nat)
  /-- Descriptor fetch (R438): last ring served at each priority, last lower priority served, fetches since a ring of
  lower priority was served, and the tenant reservation in force (R446). -/
  rrRing : Assoc Nat
  rrPrio : Nat
  sinceLowPrio : Nat
  reserve : Nat
  /-- Operations of rings whose work has ended (R439). -/
  endCount : Nat
  numVfs : Nat
  /-- LLM units retired in the field: 8 x slice + unit (R41). -/
  llmRetired : List Nat
  /-- Optical ports that failed self-test (R41, R470). -/
  portsRetired : List Nat
  /-- MSI-X vectors: key function x 4,096 + vector; (masked, pending). -/
  msix : Assoc (Bool × Bool)
  reports : List Report
  fatals : List Report
  logMeta : List LogMeta
  recs : List Recovery
  recq : List Recovery
  alm : Alm
  nwt : Nwt
  ecl : Ecl
  pins : Pins
deriving DecidableEq, Repr

/-- Why the machine stops. No command of this block stops by a fault: every command that names something the
package does not have changes nothing. The one constructor is kept for an access outside the model's memory,
which no meaning makes (safe: nothing raises it). -/
inductive Fault where
  /-- No memory lies at the address. Raised by no command; safe. -/
  | noMemory (addr : Nat)
deriving DecidableEq, Repr

/-- Why a command has no meaning. -/
inductive Refusal where
  /-- The command's row has no meaning yet; raised by its arm of `exec`; safe, since it claims nothing. -/
  | notModelled (mnemonic : String)
deriving DecidableEq, Repr

/-- The package right after power-on, held in reset: every register at its reset value, memories with nothing
listed, fuses, OTP and boot flash blank (log 7), nothing in flight. -/
def State.reset : State :=
  { pending := [], clock := 0, free := 0, out := [], regs := [], mem := [], poison := [], weak := [],
    poisonRec := [], nv := .blank, boot := .reset, togus := .none, trn := .reset, droop := [], mesh := [],
    tcores := [], pcores := [], ses := [], fronts := [], dir := [], wcb := [], chans := [], ewt := [],
    homeTransit := [], homeLast := [], okt := [], oldKeys := [], reqs := [], gen := 0, epochCache := [], twilightArm := false,
    links := [], routes := [], police := [], shape := [], posts := [], slots := [], rx := [], parked := [],
    outbox := [], tombs := [], buried := [], lostAt := [], parkWaits := [], beacons := [], waiters := [], epochs := [], scan := none,
    scanAgain := false, nextPrio := [], ops := [], resumes := [], rrRing := [], rrPrio := 0, sinceLowPrio := 0, reserve := 8, endCount := 0, numVfs := 0, llmRetired := [], portsRetired := [], msix := [],
    reports := [], fatals := [], logMeta := [], recs := [], recq := [], alm := .reset, nwt := .reset,
    ecl := .reset, pins := .reset }

end Sys2Proof.Machine
end

