-- ==== Sys2Proof/Machine/RegMap.lean ====
section
/-! DEFINITION. The register map of PF BAR0 (R554 and the tables of R101, R135, R166, R190, R211, R272, R296,
R297, R316, R349, R394, R395, R424, R445, R446, R527, R547, R555 to R563): every register with its address,
fields, access types, reset values and ranges; named fields, and reading and writing one field of a register. -/
namespace Sys2Proof.Machine

/-- Access types of a field (R550). -/
inductive Acc where
  | ro
  | rw
  /-- Software writes it and hardware may write it too. -/
  | rwh
  | w1c
  | w1s
  /-- Self-clearing. -/
  | sc
  /-- RW and sticky. -/
  | rws
  /-- Counter that wraps. -/
  | cnt
  /-- Counter that stays at its largest value. -/
  | cntSat
deriving DecidableEq, Repr

/-- A field of a register: place, access, reset value (0 where the value comes from fuses, OTP, straps, the
image or a template: log 9), and the values software may write. -/
structure FieldSpec where
  lo : Nat
  width : Nat
  acc : Acc
  reset : Nat
  min : Nat
  max : Nat
deriving DecidableEq, Repr

/-- A register or an array of registers: base address, (count, stride) of each index, fields. -/
structure RegBlock where
  base : Nat
  dims : List (Nat × Nat)
  fields : List FieldSpec
deriving DecidableEq, Repr

/-- A named field of one register: address, lowest bit, width. -/
structure Fld where
  off : Nat
  lo : Nat
  width : Nat
deriving DecidableEq, Repr

/-- Registers of R556 (21_registers.md), part 1. -/
def regsR556a : List RegBlock :=
  [
   -- GLB_ID
   { base := 0x0, dims := [], fields := [⟨0, 32, .ro, 3904, 0, 4294967295⟩, ⟨32, 8, .ro, 0, 0, 255⟩] },
   -- GLB_FW
   { base := 0x8, dims := [], fields := [⟨0, 32, .ro, 0, 0, 4294967295⟩, ⟨32, 1, .ro, 0, 0, 1⟩, ⟨33, 2, .ro, 3, 0, 3⟩] },
   -- GLB_BOOT
   { base := 0x10, dims := [], fields := [⟨0, 11, .ro, 0, 0, 2047⟩, ⟨12, 3, .ro, 0, 0, 7⟩, ⟨16, 6, .ro, 0, 0, 63⟩, ⟨24, 8, .ro, 0, 0, 255⟩, ⟨32, 4, .ro, 0, 0, 15⟩] },
   -- GLB_SEC
   { base := 0x18, dims := [], fields := [⟨0, 32, .ro, 0, 0, 4294967295⟩, ⟨32, 32, .ro, 0, 0, 4294967295⟩] },
   -- GLB_SLOTS
   { base := 0x20, dims := [], fields := [⟨0, 8, .ro, 0, 0, 255⟩, ⟨8, 4, .ro, 0, 0, 15⟩] },
   -- GLB_DIE_FUSED
   { base := 0x28, dims := [], fields := [⟨0, 40, .ro, 0, 0, 1099511627775⟩] },
   -- GLB_DIE_RETIRED
   { base := 0x30, dims := [], fields := [⟨0, 40, .ro, 0, 0, 1099511627775⟩] },
   -- GLB_UNITS
   { base := 0x38, dims := [], fields := [⟨0, 10, .ro, 0, 0, 1023⟩, ⟨10, 8, .ro, 0, 0, 255⟩, ⟨18, 5, .ro, 0, 0, 31⟩, ⟨23, 7, .ro, 0, 0, 127⟩, ⟨30, 7, .ro, 0, 0, 127⟩, ⟨37, 4, .ro, 0, 0, 15⟩] }]

/-- Registers of R556 (21_registers.md), part 2. -/
def regsR556b : List RegBlock :=
  [
   -- GLB_TCORE_MAP
   { base := 0x40, dims := [(8, 0x8)], fields := [⟨0, 64, .ro, 0, 0, 18446744073709551615⟩] },
   -- GLB_PCORE_MAP
   { base := 0x80, dims := [(3, 0x8)], fields := [⟨0, 64, .ro, 0, 0, 18446744073709551615⟩] },
   -- GLB_SE_MAP
   { base := 0x98, dims := [], fields := [⟨0, 16, .ro, 0, 0, 65535⟩] },
   -- GLB_HASH
   { base := 0xA0, dims := [(6, 0x8)], fields := [⟨0, 64, .ro, 0, 0, 18446744073709551615⟩] }]

/-- Registers of R101 (03_transit.md), part 1. -/
def regsR101a : List RegBlock :=
  [
   -- TRN_CTL
   { base := 0x10000, dims := [], fields := [⟨0, 8, .rws, 0, 0, 255⟩, ⟨8, 1, .rw, 1, 0, 1⟩] },
   -- TRN_STATUS
   { base := 0x10008, dims := [], fields := [⟨0, 1, .ro, 0, 0, 1⟩, ⟨1, 1, .ro, 0, 0, 1⟩, ⟨2, 1, .ro, 0, 0, 1⟩, ⟨3, 1, .w1c, 0, 0, 1⟩, ⟨4, 1, .w1c, 0, 0, 1⟩, ⟨5, 1, .w1c, 0, 0, 1⟩, ⟨8, 8, .ro, 255, 0, 255⟩, ⟨16, 16, .ro, 0, 0, 65535⟩] },
   -- TRN_NUMBER
   { base := 0x10010, dims := [], fields := [⟨0, 64, .ro, 0, 0, 18446744073709551615⟩] },
   -- TRN_TIME
   { base := 0x10018, dims := [], fields := [⟨0, 64, .ro, 0, 0, 18446744073709551615⟩] },
   -- TRN_NEXT
   { base := 0x10020, dims := [], fields := [⟨0, 64, .ro, 0, 0, 18446744073709551615⟩] },
   -- TRN_PERIOD
   { base := 0x10028, dims := [], fields := [⟨0, 34, .ro, 0, 0, 17179869183⟩] },
   -- TRN_PERIOD_NEXT
   { base := 0x10030, dims := [], fields := [⟨0, 34, .rw, 0, 0, 17179869183⟩] },
   -- TRN_PERIOD_AT
   { base := 0x10038, dims := [], fields := [⟨0, 64, .rw, 0, 0, 18446744073709551615⟩] }]

/-- Registers of R101 (03_transit.md), part 2. -/
def regsR101b : List RegBlock :=
  [
   -- TRN_POLICY
   { base := 0x10040, dims := [], fields := [⟨0, 10, .rwh, 100, 0, 500⟩, ⟨16, 10, .rwh, 50, 0, 500⟩, ⟨32, 15, .rw, 2000, 1000, 20000⟩] },
   -- TRN_START
   { base := 0x10048, dims := [], fields := [⟨0, 64, .rws, 0, 0, 18446744073709551615⟩] },
   -- TRN_RACK_SIZE
   { base := 0x10050, dims := [], fields := [⟨0, 8, .rw, 1, 1, 144⟩] },
   -- TRN_STRETCH_CNT
   { base := 0x10058, dims := [], fields := [⟨0, 32, .cnt, 0, 0, 4294967295⟩, ⟨32, 32, .cnt, 0, 0, 4294967295⟩] },
   -- TRN_PART_CTL
   { base := 0x10100, dims := [(16, 0x20)], fields := [⟨0, 10, .rw, 0, 0, 1023⟩, ⟨16, 10, .rw, 0, 0, 1023⟩, ⟨32, 10, .rw, 0, 0, 1023⟩, ⟨48, 1, .rw, 0, 0, 1⟩, ⟨49, 1, .rw, 1, 0, 1⟩, ⟨50, 1, .rw, 0, 0, 1⟩] },
   -- TRN_PART_STEP
   { base := 0x10108, dims := [(16, 0x20)], fields := [⟨0, 1, .w1s, 0, 0, 1⟩, ⟨1, 1, .w1s, 0, 0, 1⟩, ⟨2, 1, .w1s, 0, 0, 1⟩, ⟨8, 2, .ro, 0, 0, 3⟩, ⟨16, 1, .ro, 0, 0, 1⟩, ⟨17, 1, .w1c, 0, 0, 1⟩, ⟨18, 1, .w1c, 0, 0, 1⟩, ⟨19, 1, .w1c, 0, 0, 1⟩] },
   -- TRN_PART_BCN
   { base := 0x10110, dims := [(16, 0x20)], fields := [⟨0, 14, .rw, 0, 0, 16383⟩] },
   -- TRN_PART_DROOP
   { base := 0x10118, dims := [(16, 0x20)], fields := [⟨0, 32, .ro, 0, 0, 4294967295⟩, ⟨32, 32, .cnt, 0, 0, 4294967295⟩] }]

/-- Registers of R557 (21_registers.md), part 1. -/
def regsR557a : List RegBlock :=
  [
   -- PRT_CMD
   { base := 0x20000, dims := [], fields := [⟨0, 1, .sc, 0, 0, 1⟩, ⟨1, 1, .sc, 0, 0, 1⟩, ⟨8, 4, .rw, 0, 0, 15⟩] },
   -- PRT_STAGE
   { base := 0x20008, dims := [], fields := [⟨0, 1, .ro, 0, 0, 1⟩, ⟨1, 1, .w1c, 0, 0, 1⟩, ⟨2, 1, .w1c, 0, 0, 1⟩, ⟨8, 8, .ro, 0, 0, 255⟩, ⟨16, 18, .ro, 0, 0, 262143⟩, ⟨36, 4, .ro, 0, 0, 15⟩] },
   -- PRT_BOOT
   { base := 0x20010, dims := [], fields := [⟨0, 2, .ro, 3, 0, 3⟩, ⟨8, 8, .ro, 0, 0, 255⟩, ⟨16, 8, .ro, 0, 0, 255⟩, ⟨24, 18, .ro, 0, 0, 262143⟩, ⟨42, 18, .ro, 0, 0, 262143⟩] },
   -- PRT_CTL
   { base := 0x21000, dims := [(16, 0x100)], fields := [⟨0, 1, .rw, 1, 0, 1⟩] },
   -- PRT_STATUS
   { base := 0x21008, dims := [(16, 0x100)], fields := [⟨0, 1, .ro, 0, 0, 1⟩, ⟨1, 2, .ro, 0, 0, 3⟩, ⟨3, 1, .ro, 0, 0, 1⟩, ⟨4, 1, .ro, 0, 0, 1⟩, ⟨8, 8, .ro, 0, 0, 255⟩] },
   -- PRT_RES
   { base := 0x21010, dims := [(16, 0x100)], fields := [⟨0, 10, .ro, 0, 0, 1023⟩, ⟨10, 8, .ro, 0, 0, 255⟩, ⟨18, 5, .ro, 0, 0, 31⟩, ⟨23, 7, .ro, 0, 0, 127⟩, ⟨30, 7, .ro, 0, 0, 127⟩, ⟨37, 7, .ro, 0, 0, 127⟩, ⟨44, 7, .ro, 0, 0, 127⟩] },
   -- PRT_CLUSTERS
   { base := 0x21018, dims := [(16, 0x100), (2, 0x8)], fields := [⟨0, 64, .ro, 0, 0, 18446744073709551615⟩] },
   -- PRT_PCORES
   { base := 0x21028, dims := [(16, 0x100), (3, 0x8)], fields := [⟨0, 64, .ro, 0, 0, 18446744073709551615⟩] }]

/-- Registers of R557 (21_registers.md), part 2. -/
def regsR557b : List RegBlock :=
  [
   -- PRT_MASKS
   { base := 0x21040, dims := [(16, 0x100)], fields := [⟨0, 16, .ro, 0, 0, 65535⟩] },
   -- PRT_CHAN
   { base := 0x21048, dims := [(16, 0x100)], fields := [⟨0, 64, .ro, 0, 0, 18446744073709551615⟩] },
   -- PRT_PORTS
   { base := 0x21050, dims := [(16, 0x100)], fields := [⟨0, 64, .ro, 0, 0, 18446744073709551615⟩] },
   -- PRT_CNT
   { base := 0x21058, dims := [(16, 0x100)], fields := [⟨0, 32, .cnt, 0, 0, 4294967295⟩, ⟨32, 16, .cntSat, 0, 0, 65535⟩] },
   -- PRT_LLM
   { base := 0x21060, dims := [(16, 0x100)], fields := [⟨0, 64, .ro, 0, 0, 18446744073709551615⟩] }]

/-- Registers of R559 (21_registers.md). -/
def regsR559 : List RegBlock :=
  [
   -- ERR_PROD
   { base := 0x30000, dims := [], fields := [⟨0, 32, .ro, 0, 0, 4294967295⟩] },
   -- ERR_CONS
   { base := 0x30008, dims := [], fields := [⟨0, 32, .rw, 0, 0, 4294967295⟩] },
   -- ERR_STATUS
   { base := 0x30010, dims := [], fields := [⟨0, 1, .w1c, 0, 0, 1⟩, ⟨1, 1, .ro, 0, 0, 1⟩, ⟨2, 1, .ro, 0, 0, 1⟩] },
   -- ERR_LOST0
   { base := 0x30018, dims := [], fields := [⟨0, 16, .cntSat, 0, 0, 65535⟩, ⟨16, 16, .cntSat, 0, 0, 65535⟩, ⟨32, 16, .cntSat, 0, 0, 65535⟩, ⟨48, 16, .cntSat, 0, 0, 65535⟩] },
   -- ERR_LOST1
   { base := 0x30020, dims := [], fields := [⟨0, 16, .cntSat, 0, 0, 65535⟩] },
   -- ERR_ENTRY
   { base := 0xC0000, dims := [(4096, 0x20), (4, 0x8)], fields := [⟨0, 64, .ro, 0, 0, 18446744073709551615⟩] }]

/-- Registers of R562 (21_registers.md). -/
def regsR562 : List RegBlock :=
  [
   -- MNT_REQ
   { base := 0x40000, dims := [], fields := [⟨0, 4, .rw, 0, 0, 15⟩, ⟨16, 7, .rw, 0, 0, 127⟩, ⟨31, 1, .sc, 0, 0, 1⟩] },
   -- MNT_RESULT
   { base := 0x40008, dims := [], fields := [⟨0, 1, .w1c, 0, 0, 1⟩, ⟨8, 8, .ro, 0, 0, 255⟩, ⟨16, 4, .ro, 0, 0, 15⟩, ⟨24, 8, .ro, 0, 0, 255⟩, ⟨32, 7, .ro, 0, 0, 127⟩] },
   -- MNT_SLOT
   { base := 0x40100, dims := [(16, 0x8)], fields := [⟨0, 1, .ro, 0, 0, 1⟩, ⟨1, 1, .sc, 0, 0, 1⟩, ⟨2, 2, .ro, 0, 0, 3⟩, ⟨4, 4, .ro, 0, 0, 15⟩, ⟨8, 7, .ro, 0, 0, 127⟩, ⟨16, 8, .ro, 0, 0, 255⟩, ⟨24, 8, .ro, 0, 0, 255⟩] }]

/-- Registers of R527 (19_almanac.md), part 1. -/
def regsR527a : List RegBlock :=
  [
   -- ALM_CTL
   { base := 0x50000, dims := [], fields := [⟨0, 1, .sc, 0, 0, 1⟩, ⟨1, 1, .sc, 0, 0, 1⟩, ⟨2, 1, .sc, 0, 0, 1⟩] },
   -- ALM_STATUS
   { base := 0x50008, dims := [], fields := [⟨0, 4, .ro, 0, 0, 15⟩, ⟨8, 8, .ro, 0, 0, 255⟩, ⟨16, 1, .w1c, 0, 0, 1⟩, ⟨17, 1, .w1c, 0, 0, 1⟩, ⟨18, 1, .ro, 0, 0, 1⟩] },
   -- ALM_CUT_AT
   { base := 0x50010, dims := [], fields := [⟨0, 64, .rw, 0, 0, 18446744073709551615⟩] },
   -- ALM_PLAN
   { base := 0x50018, dims := [], fields := [⟨0, 16, .rw, 0, 0, 65535⟩, ⟨16, 1, .rw, 0, 0, 1⟩, ⟨32, 20, .rw, 1000, 10, 1000000⟩] },
   -- ALM_NVME
   { base := 0x50020, dims := [], fields := [⟨0, 4, .rw, 0, 0, 15⟩, ⟨32, 32, .rw, 1, 0, 4294967295⟩] },
   -- ALM_AREA
   { base := 0x50028, dims := [], fields := [⟨0, 48, .rw, 0, 0, 281474976710655⟩] },
   -- ALM_AREA_LEN
   { base := 0x50030, dims := [], fields := [⟨0, 48, .rw, 0, 0, 281474976710655⟩] },
   -- ALM_BUDDY
   { base := 0x50038, dims := [], fields := [⟨0, 8, .rw, 255, 0, 143⟩, ⟨8, 1, .rw, 0, 0, 1⟩] }]

/-- Registers of R527 (19_almanac.md), part 2. -/
def regsR527b : List RegBlock :=
  [
   -- ALM_LAST
   { base := 0x50040, dims := [], fields := [⟨0, 64, .ro, 0, 0, 18446744073709551615⟩] },
   -- ALM_BYTES
   { base := 0x50048, dims := [], fields := [⟨0, 64, .cnt, 0, 0, 18446744073709551615⟩] },
   -- ALM_RST_SRC
   { base := 0x50060, dims := [], fields := [⟨0, 8, .rw, 255, 0, 255⟩, ⟨8, 1, .rw, 0, 0, 1⟩, ⟨9, 1, .rw, 0, 0, 1⟩, ⟨10, 1, .rw, 1, 0, 1⟩, ⟨11, 1, .rw, 0, 0, 1⟩, ⟨12, 8, .rw, 0, 0, 255⟩] },
   -- ALM_RST_DST
   { base := 0x50068, dims := [], fields := [⟨0, 48, .rw, 0, 0, 281474976710655⟩] },
   -- ALM_SHARD_BASE
   { base := 0x51000, dims := [(256, 0x10)], fields := [⟨0, 48, .rw, 0, 0, 281474976710655⟩] },
   -- ALM_SHARD_LEN
   { base := 0x51008, dims := [(256, 0x10)], fields := [⟨0, 41, .rw, 0, 0, 2199023255551⟩] },
   -- ALM_CURSOR
   { base := 0x58000, dims := [(4096, 0x8)], fields := [⟨0, 64, .rw, 0, 0, 18446744073709551615⟩] }]

/-- Registers of R547 (20_night_watch_and_eclipse.md), part 1. -/
def regsR547a : List RegBlock :=
  [
   -- NWT_CTL
   { base := 0x60000, dims := [], fields := [⟨0, 1, .sc, 0, 0, 1⟩, ⟨1, 1, .rw, 0, 0, 1⟩] },
   -- NWT_STATUS
   { base := 0x60008, dims := [], fields := [⟨0, 3, .ro, 0, 0, 7⟩, ⟨3, 1, .w1c, 0, 0, 1⟩, ⟨4, 4, .ro, 0, 0, 15⟩, ⟨8, 4, .ro, 0, 0, 15⟩, ⟨16, 16, .ro, 0, 0, 65535⟩, ⟨32, 1, .w1c, 0, 0, 1⟩, ⟨33, 6, .ro, 0, 0, 63⟩] },
   -- NWT_WAKE_AT
   { base := 0x60010, dims := [], fields := [⟨0, 64, .rw, 0, 0, 18446744073709551615⟩] },
   -- NWT_SENSOR
   { base := 0x60100, dims := [(64, 0x8)], fields := [⟨0, 16, .ro, 0, 0, 65535⟩, ⟨16, 16, .ro, 0, 0, 65535⟩] },
   -- NWT_RULE_CNT
   { base := 0x60400, dims := [(16, 0x8)], fields := [⟨0, 32, .cnt, 0, 0, 4294967295⟩] },
   -- ECL_CTL
   { base := 0x70000, dims := [], fields := [⟨0, 1, .sc, 0, 0, 1⟩, ⟨1, 1, .rws, 0, 0, 1⟩, ⟨2, 1, .rws, 1, 0, 1⟩, ⟨3, 1, .rws, 0, 0, 1⟩, ⟨4, 2, .rws, 0, 0, 3⟩, ⟨6, 1, .rws, 0, 0, 1⟩, ⟨7, 1, .rws, 0, 0, 1⟩, ⟨8, 1, .rws, 0, 0, 1⟩, ⟨9, 1, .rws, 1, 0, 1⟩, ⟨10, 1, .rws, 1, 0, 1⟩, ⟨11, 1, .rws, 0, 0, 1⟩] },
   -- ECL_AT
   { base := 0x70008, dims := [], fields := [⟨0, 64, .rws, 0, 0, 18446744073709551615⟩] },
   -- ECL_DUMP_LBA
   { base := 0x70010, dims := [], fields := [⟨0, 48, .rws, 0, 0, 281474976710655⟩] }]

/-- Registers of R547 (20_night_watch_and_eclipse.md), part 2. -/
def regsR547b : List RegBlock :=
  [
   -- ECL_STATUS
   { base := 0x70018, dims := [], fields := [⟨0, 1, .w1c, 0, 0, 1⟩, ⟨1, 3, .ro, 0, 0, 7⟩, ⟨4, 5, .ro, 0, 0, 31⟩, ⟨9, 1, .ro, 0, 0, 1⟩, ⟨10, 1, .ro, 0, 0, 1⟩, ⟨11, 1, .ro, 0, 0, 1⟩] },
   -- ECL_TIME
   { base := 0x70020, dims := [], fields := [⟨0, 64, .ro, 0, 0, 18446744073709551615⟩] },
   -- ECL_SR_MASK
   { base := 0x70028, dims := [], fields := [⟨0, 64, .ro, 0, 0, 18446744073709551615⟩] },
   -- ECL_CNT
   { base := 0x70030, dims := [], fields := [⟨0, 16, .cntSat, 0, 0, 65535⟩] }]

/-- Registers of R394 (13_scapel_links.md), part 1. -/
def regsR394a : List RegBlock :=
  [
   -- SCP_PORT_CTL
   { base := 0x100000, dims := [(64, 0x1000)], fields := [⟨0, 1, .rw, 1, 0, 1⟩, ⟨1, 1, .rw, 0, 0, 1⟩, ⟨2, 1, .rw, 0, 0, 1⟩, ⟨3, 1, .rw, 0, 0, 1⟩, ⟨4, 1, .sc, 0, 0, 1⟩, ⟨5, 1, .sc, 0, 0, 1⟩, ⟨6, 1, .sc, 0, 0, 1⟩, ⟨8, 16, .rw, 64, 0, 65535⟩] },
   -- SCP_PORT_STATUS
   { base := 0x100008, dims := [(64, 0x1000)], fields := [⟨0, 4, .ro, 1, 0, 15⟩, ⟨4, 4, .ro, 0, 0, 15⟩, ⟨8, 4, .ro, 0, 0, 15⟩, ⟨12, 1, .ro, 0, 0, 1⟩, ⟨13, 1, .ro, 0, 0, 1⟩, ⟨14, 1, .ro, 0, 0, 1⟩, ⟨15, 1, .ro, 0, 0, 1⟩, ⟨16, 2, .ro, 0, 0, 3⟩, ⟨18, 1, .w1c, 0, 0, 1⟩, ⟨32, 12, .ro, 0, 0, 4095⟩] },
   -- SCP_PORT_PEER
   { base := 0x100010, dims := [(64, 0x1000)], fields := [⟨0, 16, .ro, 0, 0, 65535⟩, ⟨16, 8, .ro, 0, 0, 255⟩, ⟨24, 6, .ro, 0, 0, 63⟩, ⟨32, 8, .ro, 255, 0, 255⟩] },
   -- SCP_PORT_PEER_SN
   { base := 0x100018, dims := [(64, 0x1000)], fields := [⟨0, 64, .ro, 0, 0, 18446744073709551615⟩] },
   -- SCP_PORT_VCW
   { base := 0x100020, dims := [(64, 0x1000)], fields := [⟨8, 8, .rw, 0, 1, 255⟩, ⟨16, 8, .rw, 0, 1, 255⟩, ⟨24, 8, .rw, 0, 1, 255⟩, ⟨32, 8, .rw, 0, 1, 255⟩, ⟨40, 8, .rw, 0, 1, 255⟩, ⟨48, 8, .rw, 0, 1, 255⟩, ⟨56, 8, .rw, 0, 1, 255⟩] },
   -- SCP_PORT_CRED
   { base := 0x100028, dims := [(64, 0x1000)], fields := [⟨0, 8, .ro, 4, 0, 255⟩, ⟨8, 8, .rw, 40, 1, 255⟩, ⟨16, 8, .rw, 64, 1, 255⟩, ⟨24, 8, .rw, 32, 1, 255⟩, ⟨32, 8, .rw, 64, 1, 255⟩, ⟨40, 8, .rw, 16, 1, 255⟩, ⟨48, 8, .rw, 4, 1, 255⟩, ⟨56, 8, .rw, 32, 1, 255⟩] },
   -- SCP_PORT_DELAY
   { base := 0x100030, dims := [(64, 0x1000)], fields := [⟨0, 32, .ro, 0, 0, 4294967295⟩] },
   -- SCP_PORT_ERR
   { base := 0x100038, dims := [(64, 0x1000)], fields := [⟨0, 32, .cnt, 0, 0, 4294967295⟩, ⟨32, 32, .cnt, 0, 0, 4294967295⟩] }]

/-- Registers of R394 (13_scapel_links.md), part 2. -/
def regsR394b : List RegBlock :=
  [
   -- SCP_PORT_REPLAY
   { base := 0x100040, dims := [(64, 0x1000)], fields := [⟨0, 32, .cnt, 0, 0, 4294967295⟩, ⟨32, 16, .cnt, 0, 0, 65535⟩, ⟨48, 16, .cntSat, 0, 0, 65535⟩] },
   -- SCP_PORT_MAL
   { base := 0x100048, dims := [(64, 0x1000)], fields := [⟨0, 32, .cnt, 0, 0, 4294967295⟩, ⟨32, 8, .ro, 0, 0, 255⟩] },
   -- SCP_PORT_SUB
   { base := 0x100050, dims := [(64, 0x1000)], fields := [⟨0, 4, .ro, 0, 0, 15⟩, ⟨4, 8, .ro, 255, 0, 255⟩, ⟨16, 4, .ro, 0, 0, 15⟩, ⟨20, 8, .ro, 255, 0, 255⟩, ⟨32, 4, .ro, 0, 0, 15⟩, ⟨36, 8, .ro, 255, 0, 255⟩, ⟨48, 4, .ro, 0, 0, 15⟩, ⟨52, 8, .ro, 255, 0, 255⟩] }]

/-- Registers of R395 (13_scapel_links.md), part 1. -/
def regsR395a : List RegBlock :=
  [
   -- SCP_ID
   { base := 0x170000, dims := [], fields := [⟨0, 16, .ro, 0, 0, 65535⟩, ⟨16, 8, .ro, 0, 0, 255⟩, ⟨24, 8, .ro, 255, 0, 255⟩, ⟨32, 4, .ro, 4, 0, 15⟩, ⟨36, 4, .ro, 3, 0, 15⟩] },
   -- SCP_SN
   { base := 0x170008, dims := [], fields := [⟨0, 64, .ro, 0, 0, 18446744073709551615⟩] },
   -- SCP_LDN_NEXT
   { base := 0x170010, dims := [], fields := [⟨0, 8, .rw, 255, 0, 143⟩, ⟨8, 1, .sc, 0, 0, 1⟩, ⟨9, 1, .sc, 0, 0, 1⟩, ⟨10, 1, .ro, 0, 0, 1⟩, ⟨11, 1, .w1c, 0, 0, 1⟩] },
   -- SCP_LDN_AT
   { base := 0x170018, dims := [], fields := [⟨0, 64, .rw, 0, 0, 18446744073709551615⟩] },
   -- SCP_ROUTE_ADDR
   { base := 0x170020, dims := [], fields := [⟨0, 8, .rw, 0, 0, 143⟩] },
   -- SCP_ROUTE_DATA0
   { base := 0x170028, dims := [], fields := [⟨0, 10, .rw, 0, 0, 1023⟩, ⟨16, 10, .rw, 0, 0, 1023⟩, ⟨32, 10, .rw, 0, 0, 1023⟩, ⟨48, 10, .rw, 0, 0, 1023⟩] },
   -- SCP_ROUTE_DATA1
   { base := 0x170030, dims := [], fields := [⟨0, 10, .rw, 0, 0, 1023⟩, ⟨16, 10, .rw, 0, 0, 1023⟩, ⟨32, 10, .rw, 0, 0, 1023⟩, ⟨48, 10, .rw, 0, 0, 1023⟩] },
   -- SCP_ROUTE_CMD
   { base := 0x170038, dims := [], fields := [⟨0, 1, .sc, 0, 0, 1⟩, ⟨1, 1, .sc, 0, 0, 1⟩, ⟨2, 1, .ro, 0, 0, 1⟩, ⟨3, 1, .w1c, 0, 0, 1⟩, ⟨4, 1, .ro, 0, 0, 1⟩] }]

/-- Registers of R395 (13_scapel_links.md), part 2. -/
def regsR395b : List RegBlock :=
  [
   -- SCP_ROUTE_AT
   { base := 0x170040, dims := [], fields := [⟨0, 64, .rw, 0, 0, 18446744073709551615⟩] },
   -- SCP_RATE
   { base := 0x170048, dims := [], fields := [⟨0, 16, .rw, 0, 0, 65535⟩, ⟨16, 16, .rw, 64, 0, 65535⟩, ⟨32, 16, .rw, 1024, 0, 65535⟩, ⟨48, 1, .rw, 1, 0, 1⟩] },
   -- SCP_BLOCK
   { base := 0x170050, dims := [(3, 0x8)], fields := [⟨0, 64, .w1c, 0, 0, 18446744073709551615⟩] },
   -- SCP_EXT_ROUTE
   { base := 0x170080, dims := [(16, 0x8)], fields := [⟨0, 16, .rw, 0, 0, 65535⟩, ⟨16, 8, .rw, 0, 0, 255⟩, ⟨24, 6, .rw, 0, 0, 63⟩, ⟨30, 1, .rw, 0, 0, 1⟩] }]

/-- Registers of R349 (12_rack_memory.md), part 1. -/
def regsR349a : List RegBlock :=
  [
   -- RMM_CTL
   { base := 0x140000, dims := [], fields := [⟨0, 1, .sc, 0, 0, 1⟩] },
   -- RMM_STATUS
   { base := 0x140008, dims := [], fields := [⟨0, 1, .ro, 1, 0, 1⟩, ⟨1, 1, .ro, 0, 0, 1⟩, ⟨2, 1, .ro, 0, 0, 1⟩, ⟨3, 1, .w1c, 0, 0, 1⟩] },
   -- RMM_KEY_CMD
   { base := 0x140010, dims := [], fields := [⟨0, 1, .sc, 0, 0, 1⟩, ⟨1, 1, .sc, 0, 0, 1⟩] },
   -- RMM_KEY_AT
   { base := 0x140018, dims := [], fields := [⟨0, 64, .rw, 0, 0, 18446744073709551615⟩] },
   -- RMM_OKT_ADDR
   { base := 0x140020, dims := [], fields := [⟨0, 8, .rw, 0, 0, 143⟩, ⟨8, 12, .rw, 0, 0, 4095⟩] },
   -- RMM_OKT_DATA0
   { base := 0x140028, dims := [], fields := [⟨0, 64, .rw, 0, 0, 18446744073709551615⟩] },
   -- RMM_OKT_DATA1
   { base := 0x140030, dims := [], fields := [⟨0, 27, .rw, 0, 0, 134217727⟩] },
   -- RMM_FAULT_CNT
   { base := 0x140038, dims := [], fields := [⟨0, 16, .cntSat, 0, 0, 65535⟩, ⟨16, 16, .cntSat, 0, 0, 65535⟩, ⟨32, 16, .cntSat, 0, 0, 65535⟩, ⟨48, 16, .cntSat, 0, 0, 65535⟩] }]

/-- Registers of R349 (12_rack_memory.md), part 2. -/
def regsR349b : List RegBlock :=
  [
   -- RMM_HOME_STATUS
   { base := 0x140100, dims := [(8, 0x10)], fields := [⟨0, 13, .ro, 0, 0, 8191⟩, ⟨16, 17, .ro, 0, 0, 131071⟩, ⟨33, 17, .ro, 0, 0, 131071⟩] },
   -- RMM_HOME_CNT
   { base := 0x140108, dims := [(8, 0x10)], fields := [⟨0, 32, .cnt, 0, 0, 4294967295⟩, ⟨32, 32, .cnt, 0, 0, 4294967295⟩] },
   -- RMM_APT
   { base := 0x140800, dims := [(256, 0x8)], fields := [⟨0, 1, .rw, 0, 0, 1⟩, ⟨1, 4, .rw, 0, 0, 15⟩, ⟨5, 17, .rw, 0, 0, 131071⟩, ⟨22, 8, .rw, 0, 0, 255⟩] },
   -- RMM_RGN_CFG
   { base := 0x148000, dims := [(4096, 0x20)], fields := [⟨0, 1, .rwh, 0, 0, 1⟩, ⟨1, 1, .rw, 0, 0, 1⟩, ⟨2, 2, .rw, 0, 0, 2⟩, ⟨4, 3, .ro, 0, 0, 7⟩, ⟨7, 1, .w1c, 0, 0, 1⟩, ⟨8, 4, .ro, 0, 0, 15⟩, ⟨12, 1, .rw, 0, 0, 1⟩, ⟨16, 9, .rw, 0, 2, 500⟩] },
   -- RMM_RGN_BASE
   { base := 0x148008, dims := [(4096, 0x20)], fields := [⟨0, 27, .rw, 0, 0, 134217727⟩, ⟨32, 18, .rw, 0, 1, 184320⟩] },
   -- RMM_RGN_KEY
   { base := 0x148010, dims := [(4096, 0x20)], fields := [⟨0, 32, .rw, 0, 0, 4294967295⟩, ⟨32, 32, .rw, 0, 0, 4294967295⟩] },
   -- RMM_RGN_CNT
   { base := 0x148018, dims := [(4096, 0x20)], fields := [⟨0, 32, .cnt, 0, 0, 4294967295⟩, ⟨32, 32, .cntSat, 0, 0, 4294967295⟩] }]

/-- Registers of R424 (14_constellations.md), part 1. -/
def regsR424a : List RegBlock :=
  [
   -- COL_CTL
   { base := 0x180000, dims := [], fields := [⟨0, 20, .rw, 2000, 100, 1000000⟩, ⟨20, 9, .rw, 20, 2, 500⟩] },
   -- COL_STATUS
   { base := 0x180008, dims := [], fields := [⟨0, 1, .ro, 0, 0, 1⟩, ⟨1, 1, .w1c, 0, 0, 1⟩] },
   -- COL_CMD
   { base := 0x180010, dims := [], fields := [⟨0, 1, .sc, 0, 0, 1⟩, ⟨1, 1, .sc, 0, 0, 1⟩] },
   -- COL_AT
   { base := 0x180018, dims := [], fields := [⟨0, 64, .rw, 0, 0, 18446744073709551615⟩] },
   -- COL_DARK
   { base := 0x180020, dims := [], fields := [⟨0, 8, .rw, 255, 0, 143⟩, ⟨8, 1, .sc, 0, 0, 1⟩] },
   -- COL_CNT0
   { base := 0x180028, dims := [], fields := [⟨0, 16, .cntSat, 0, 0, 65535⟩, ⟨16, 16, .cntSat, 0, 0, 65535⟩, ⟨32, 16, .cntSat, 0, 0, 65535⟩, ⟨48, 16, .cntSat, 0, 0, 65535⟩] },
   -- COL_CNT1
   { base := 0x180030, dims := [], fields := [⟨0, 16, .cntSat, 0, 0, 65535⟩, ⟨16, 16, .cntSat, 0, 0, 65535⟩] },
   -- COL_CST_CFG
   { base := 0x181000, dims := [(1024, 0x20)], fields := [⟨0, 1, .ro, 0, 0, 1⟩, ⟨1, 4, .ro, 0, 0, 15⟩, ⟨8, 14, .ro, 0, 0, 16383⟩, ⟨22, 8, .ro, 0, 0, 255⟩, ⟨32, 8, .ro, 0, 0, 255⟩, ⟨40, 8, .ro, 0, 0, 255⟩, ⟨48, 16, .ro, 0, 0, 65535⟩] }]

/-- Registers of R424 (14_constellations.md), part 2. -/
def regsR424b : List RegBlock :=
  [
   -- COL_CST_NEXT
   { base := 0x181008, dims := [(1024, 0x20)], fields := [⟨0, 1, .rw, 0, 0, 1⟩, ⟨1, 1, .rw, 0, 0, 1⟩, ⟨2, 4, .rw, 0, 0, 15⟩, ⟨8, 14, .rw, 0, 0, 16383⟩, ⟨22, 8, .rw, 0, 0, 255⟩] },
   -- COL_CST_STATUS
   { base := 0x181010, dims := [(1024, 0x20)], fields := [⟨0, 16, .ro, 0, 0, 65535⟩, ⟨16, 16, .ro, 0, 0, 65535⟩, ⟨32, 32, .cnt, 0, 0, 4294967295⟩] },
   -- COL_MEMBER
   { base := 0x1A0000, dims := [(16384, 0x8)], fields := [⟨0, 8, .rw, 0, 0, 143⟩, ⟨8, 4, .rw, 0, 0, 15⟩, ⟨12, 1, .ro, 0, 0, 1⟩] }]

/-- Registers of R445 (15_beacons_and_rings.md). -/
def regsR445 : List RegBlock :=
  [
   -- BCN_SEL
   { base := 0x1C0000, dims := [], fields := [⟨0, 14, .rw, 0, 0, 16383⟩] },
   -- BCN_CFG
   { base := 0x1C0008, dims := [], fields := [⟨0, 2, .rw, 0, 0, 3⟩, ⟨2, 1, .rw, 0, 0, 1⟩, ⟨3, 4, .rw, 0, 0, 15⟩, ⟨7, 1, .rw, 0, 0, 1⟩, ⟨8, 12, .rw, 0, 0, 4095⟩, ⟨20, 3, .rw, 0, 0, 7⟩, ⟨23, 1, .ro, 0, 0, 1⟩] },
   -- BCN_VALUE
   { base := 0x1C0010, dims := [], fields := [⟨0, 64, .rwh, 0, 0, 18446744073709551615⟩] },
   -- BCN_AUX
   { base := 0x1C0018, dims := [], fields := [⟨0, 32, .ro, 0, 0, 4294967295⟩, ⟨32, 17, .ro, 0, 0, 131071⟩] },
   -- BCN_ORPHAN
   { base := 0x1C0020, dims := [], fields := [⟨0, 8, .rw, 255, 0, 143⟩, ⟨8, 1, .sc, 0, 0, 1⟩] },
   -- BCN_STATUS
   { base := 0x1C0028, dims := [], fields := [⟨0, 17, .ro, 0, 0, 131071⟩, ⟨17, 1, .ro, 0, 0, 1⟩] },
   -- BCN_CNT
   { base := 0x1C0030, dims := [], fields := [⟨0, 32, .cnt, 0, 0, 4294967295⟩, ⟨32, 32, .cnt, 0, 0, 4294967295⟩] }]

/-- Registers of R316 (11_board_memory.md), part 1. -/
def regsR316a : List RegBlock :=
  [
   -- GDM_CH_CTL
   { base := 0x200000, dims := [(64, 0x800)], fields := [⟨0, 1, .rw, 0, 0, 1⟩, ⟨1, 1, .sc, 0, 0, 1⟩, ⟨8, 6, .rw, 48, 8, 63⟩, ⟨16, 6, .rw, 32, 1, 32⟩, ⟨24, 8, .rw, 16, 1, 255⟩] },
   -- GDM_CH_STATUS
   { base := 0x200008, dims := [(64, 0x800)], fields := [⟨0, 3, .ro, 0, 0, 7⟩, ⟨3, 2, .ro, 0, 0, 3⟩, ⟨5, 1, .ro, 0, 0, 1⟩, ⟨6, 2, .ro, 0, 0, 3⟩, ⟨8, 1, .ro, 0, 0, 1⟩, ⟨9, 1, .ro, 0, 0, 1⟩, ⟨16, 4, .ro, 0, 0, 15⟩, ⟨20, 1, .ro, 0, 0, 1⟩, ⟨32, 13, .ro, 0, 0, 8191⟩] },
   -- GDM_CH_RD_BYTES
   { base := 0x200010, dims := [(64, 0x800)], fields := [⟨0, 64, .cnt, 0, 0, 18446744073709551615⟩] },
   -- GDM_CH_WR_BYTES
   { base := 0x200018, dims := [(64, 0x800)], fields := [⟨0, 64, .cnt, 0, 0, 18446744073709551615⟩] },
   -- GDM_CH_CRC
   { base := 0x200020, dims := [(64, 0x800)], fields := [⟨0, 32, .cnt, 0, 0, 4294967295⟩, ⟨32, 16, .cnt, 0, 0, 65535⟩] },
   -- GDM_CH_ECC
   { base := 0x200028, dims := [(64, 0x800)], fields := [⟨0, 32, .cnt, 0, 0, 4294967295⟩, ⟨32, 32, .cnt, 0, 0, 4294967295⟩] },
   -- GDM_CH_TURN
   { base := 0x200030, dims := [(64, 0x800)], fields := [⟨0, 32, .cnt, 0, 0, 4294967295⟩, ⟨32, 32, .cnt, 0, 0, 4294967295⟩] },
   -- GDM_MAP_CTL
   { base := 0x220000, dims := [(64, 0x20)], fields := [⟨0, 1, .rwh, 0, 0, 1⟩, ⟨1, 2, .rw, 0, 0, 3⟩, ⟨3, 1, .w1c, 0, 0, 1⟩] }]

/-- Registers of R316 (11_board_memory.md), part 2. -/
def regsR316b : List RegBlock :=
  [
   -- GDM_MAP_BASE
   { base := 0x220008, dims := [(64, 0x20)], fields := [⟨0, 18, .rw, 0, 0, 184319⟩, ⟨32, 18, .rw, 0, 1, 184320⟩] },
   -- GDM_MAP_CHAN
   { base := 0x220010, dims := [(64, 0x20)], fields := [⟨0, 64, .rw, 0, 0, 18446744073709551615⟩] },
   -- GDM_MAP_CBASE
   { base := 0x220018, dims := [(64, 0x20)], fields := [⟨0, 12, .rw, 0, 0, 2879⟩] }]

/-- Registers of R297 (10_on_package_memory.md). -/
def regsR297 : List RegBlock :=
  [
   -- LLM_CTL
   { base := 0x300000, dims := [(8, 0x1000)], fields := [⟨0, 1, .sc, 0, 0, 1⟩] },
   -- LLM_STATUS
   { base := 0x300008, dims := [(8, 0x1000)], fields := [⟨0, 8, .ro, 0, 0, 255⟩, ⟨8, 8, .ro, 0, 0, 255⟩, ⟨16, 9, .ro, 0, 0, 511⟩, ⟨25, 1, .ro, 0, 0, 1⟩] },
   -- LLM_HITS
   { base := 0x300010, dims := [(8, 0x1000)], fields := [⟨0, 64, .cnt, 0, 0, 18446744073709551615⟩] },
   -- LLM_MISSES
   { base := 0x300018, dims := [(8, 0x1000)], fields := [⟨0, 64, .cnt, 0, 0, 18446744073709551615⟩] },
   -- LLM_WCB_CNT
   { base := 0x300020, dims := [(8, 0x1000)], fields := [⟨0, 32, .cnt, 0, 0, 4294967295⟩, ⟨32, 32, .cnt, 0, 0, 4294967295⟩] },
   -- LLM_ECC_CNT
   { base := 0x300028, dims := [(8, 0x1000)], fields := [⟨0, 32, .cnt, 0, 0, 4294967295⟩, ⟨32, 32, .cnt, 0, 0, 4294967295⟩] }]

/-- Registers of R272 (09_solver_engines.md), part 1. -/
def regsR272a : List RegBlock :=
  [
   -- SLV_CTL
   { base := 0x400000, dims := [(16, 0x10000)], fields := [⟨0, 1, .sc, 0, 0, 1⟩] },
   -- SLV_STATUS
   { base := 0x400008, dims := [(16, 0x10000)], fields := [⟨0, 4, .ro, 0, 0, 15⟩, ⟨4, 1, .ro, 0, 0, 1⟩, ⟨5, 1, .ro, 0, 0, 1⟩, ⟨6, 1, .ro, 0, 0, 1⟩, ⟨7, 1, .ro, 0, 0, 1⟩, ⟨8, 25, .ro, 0, 0, 33554431⟩, ⟨40, 24, .ro, 0, 0, 16777215⟩] },
   -- SLV_RES
   { base := 0x400010, dims := [(16, 0x10000)], fields := [⟨0, 64, .ro, 0, 0, 18446744073709551615⟩] },
   -- SLV_BEST
   { base := 0x400018, dims := [(16, 0x10000)], fields := [⟨0, 64, .ro, 0, 0, 18446744073709551615⟩] },
   -- SLV_DEADLINE
   { base := 0x400020, dims := [(16, 0x10000)], fields := [⟨0, 64, .ro, 0, 0, 18446744073709551615⟩] },
   -- SLV_RETURN_NS
   { base := 0x400028, dims := [(16, 0x10000)], fields := [⟨0, 32, .ro, 0, 0, 4294967295⟩] },
   -- SLV_TAG
   { base := 0x400030, dims := [(16, 0x10000)], fields := [⟨0, 16, .ro, 0, 0, 65535⟩, ⟨16, 12, .ro, 0, 0, 4095⟩, ⟨28, 1, .ro, 0, 0, 1⟩] },
   -- SLV_BUSY_CYC
   { base := 0x400038, dims := [(16, 0x10000)], fields := [⟨0, 64, .cnt, 0, 0, 18446744073709551615⟩] }]

/-- Registers of R272 (09_solver_engines.md), part 2. -/
def regsR272b : List RegBlock :=
  [
   -- SLV_PORT_BYTES
   { base := 0x400040, dims := [(16, 0x10000)], fields := [⟨0, 64, .cnt, 0, 0, 18446744073709551615⟩] }]

/-- Registers of R166 (05_matrix_engine.md). -/
def regsR166 : List RegBlock :=
  [
   -- TC_ME_CTL
   { base := 0x800000, dims := [(512, 0x4000)], fields := [⟨0, 1, .rw, 1, 0, 1⟩, ⟨1, 1, .sc, 0, 0, 1⟩, ⟨2, 1, .sc, 0, 0, 1⟩] },
   -- TC_ME_STATUS
   { base := 0x800008, dims := [(512, 0x4000)], fields := [⟨0, 2, .ro, 0, 0, 3⟩, ⟨2, 1, .ro, 0, 0, 1⟩, ⟨3, 1, .ro, 0, 0, 1⟩, ⟨4, 1, .ro, 0, 0, 1⟩, ⟨5, 1, .ro, 0, 0, 1⟩, ⟨6, 1, .ro, 0, 0, 1⟩, ⟨7, 1, .ro, 0, 0, 1⟩, ⟨8, 6, .ro, 0, 0, 63⟩, ⟨16, 7, .ro, 0, 0, 127⟩, ⟨24, 7, .ro, 0, 0, 127⟩, ⟨32, 8, .ro, 127, 0, 255⟩] },
   -- TC_ME_COLS
   { base := 0x800010, dims := [(512, 0x4000)], fields := [⟨0, 64, .ro, 0, 0, 18446744073709551615⟩] },
   -- TC_ME_FUSED
   { base := 0x800018, dims := [(512, 0x4000)], fields := [⟨0, 64, .ro, 0, 0, 18446744073709551615⟩] },
   -- TC_ME_ERR
   { base := 0x800020, dims := [(512, 0x4000)], fields := [⟨0, 1, .w1c, 0, 0, 1⟩, ⟨8, 8, .ro, 0, 0, 255⟩, ⟨16, 8, .ro, 0, 0, 255⟩] },
   -- TC_ME_STREAM_CYC
   { base := 0x800028, dims := [(512, 0x4000)], fields := [⟨0, 64, .cnt, 0, 0, 18446744073709551615⟩] },
   -- TC_ME_STALL_CYC
   { base := 0x800030, dims := [(512, 0x4000)], fields := [⟨0, 64, .cnt, 0, 0, 18446744073709551615⟩] }]

/-- Registers of R211 (07_vector_engine.md). -/
def regsR211 : List RegBlock :=
  [
   -- TC_VE_CTL
   { base := 0x800100, dims := [(512, 0x4000)], fields := [⟨0, 1, .sc, 0, 0, 1⟩, ⟨1, 1, .sc, 0, 0, 1⟩] },
   -- TC_VE_STATUS
   { base := 0x800108, dims := [(512, 0x4000)], fields := [⟨0, 1, .ro, 0, 0, 1⟩, ⟨1, 1, .ro, 0, 0, 1⟩, ⟨2, 1, .ro, 0, 0, 1⟩, ⟨3, 1, .ro, 0, 0, 1⟩, ⟨4, 4, .ro, 0, 0, 15⟩, ⟨8, 6, .ro, 0, 0, 63⟩, ⟨16, 8, .ro, 0, 0, 255⟩] },
   -- TC_VE_ACTIVE_CYC
   { base := 0x800110, dims := [(512, 0x4000)], fields := [⟨0, 64, .cnt, 0, 0, 18446744073709551615⟩] },
   -- TC_VE_STALL_CYC
   { base := 0x800118, dims := [(512, 0x4000)], fields := [⟨0, 64, .cnt, 0, 0, 18446744073709551615⟩] }]

/-- Registers of R296 (10_on_package_memory.md). -/
def regsR296 : List RegBlock :=
  [
   -- TC_FE_CTL
   { base := 0x800200, dims := [(512, 0x4000)], fields := [⟨0, 1, .sc, 0, 0, 1⟩, ⟨1, 1, .sc, 0, 0, 1⟩] },
   -- TC_FE_STATUS
   { base := 0x800208, dims := [(512, 0x4000)], fields := [⟨0, 1, .ro, 0, 0, 1⟩, ⟨1, 1, .ro, 0, 0, 1⟩, ⟨2, 5, .ro, 0, 0, 31⟩, ⟨7, 6, .ro, 0, 0, 63⟩, ⟨32, 32, .ro, 0, 0, 4294967295⟩] },
   -- TC_FE_ERR
   { base := 0x800210, dims := [(512, 0x4000)], fields := [⟨0, 1, .w1c, 0, 0, 1⟩, ⟨1, 3, .ro, 0, 0, 7⟩, ⟨16, 16, .ro, 0, 0, 65535⟩, ⟨32, 13, .ro, 0, 0, 8191⟩] },
   -- TC_SP_CTL
   { base := 0x800300, dims := [(512, 0x4000)], fields := [⟨0, 1, .rw, 0, 0, 1⟩] },
   -- TC_SP_STATUS
   { base := 0x800308, dims := [(512, 0x4000)], fields := [⟨0, 1, .w1c, 0, 0, 1⟩, ⟨1, 1, .w1c, 0, 0, 1⟩, ⟨16, 16, .cntSat, 0, 0, 65535⟩, ⟨32, 16, .cntSat, 0, 0, 65535⟩, ⟨48, 16, .cntSat, 0, 0, 65535⟩] }]

/-- Registers of R555 (21_registers.md). -/
def regsR555 : List RegBlock :=
  [
   -- TC_CC_STATUS
   { base := 0x800400, dims := [(512, 0x4000)], fields := [⟨0, 3, .ro, 0, 0, 7⟩, ⟨8, 8, .ro, 0, 0, 255⟩] },
   -- TC_CC_PC
   { base := 0x800408, dims := [(512, 0x4000)], fields := [⟨0, 64, .ro, 0, 0, 18446744073709551615⟩] }]

/-- Registers of R190 (06_parallax.md). -/
def regsR190 : List RegBlock :=
  [
   -- TC_PX_CTL
   { base := 0x803D00, dims := [(512, 0x4000)], fields := [⟨0, 1, .rw, 0, 0, 1⟩, ⟨1, 1, .rw, 0, 0, 1⟩, ⟨2, 1, .sc, 0, 0, 1⟩, ⟨3, 1, .rw, 0, 0, 1⟩, ⟨8, 6, .rw, 0, 0, 63⟩] },
   -- TC_PX_CNT
   { base := 0x803D08, dims := [(512, 0x4000)], fields := [⟨0, 16, .cnt, 0, 0, 65535⟩, ⟨16, 16, .cnt, 0, 0, 65535⟩, ⟨32, 16, .cnt, 0, 0, 65535⟩, ⟨48, 16, .cnt, 0, 0, 65535⟩] },
   -- TC_PX_FAIL
   { base := 0x803D10, dims := [(512, 0x4000)], fields := [⟨0, 1, .w1c, 0, 0, 1⟩, ⟨1, 3, .ro, 0, 0, 7⟩, ⟨8, 6, .ro, 0, 0, 63⟩, ⟨14, 1, .ro, 0, 0, 1⟩, ⟨16, 10, .ro, 0, 0, 1023⟩, ⟨32, 22, .ro, 0, 0, 4194303⟩, ⟨54, 1, .ro, 0, 0, 1⟩] },
   -- TC_PX_RETIRED
   { base := 0x803D18, dims := [(512, 0x4000)], fields := [⟨0, 64, .ro, 0, 0, 18446744073709551615⟩] }]

/-- Registers of R135 (04_number_formats.md). -/
def regsR135 : List RegBlock :=
  [
   -- TC_NUM_FLAGS
   { base := 0x803E00, dims := [(512, 0x4000)], fields := [⟨0, 1, .w1c, 0, 0, 1⟩, ⟨1, 1, .w1c, 0, 0, 1⟩, ⟨2, 1, .w1c, 0, 0, 1⟩, ⟨3, 1, .w1c, 0, 0, 1⟩, ⟨4, 1, .w1c, 0, 0, 1⟩, ⟨5, 1, .w1c, 0, 0, 1⟩, ⟨8, 1, .w1c, 0, 0, 1⟩, ⟨9, 1, .w1c, 0, 0, 1⟩, ⟨10, 1, .w1c, 0, 0, 1⟩, ⟨11, 1, .w1c, 0, 0, 1⟩, ⟨12, 1, .w1c, 0, 0, 1⟩, ⟨13, 1, .w1c, 0, 0, 1⟩, ⟨14, 1, .w1c, 0, 0, 1⟩] },
   -- TC_NUM_SEED_LO
   { base := 0x803E08, dims := [(512, 0x4000)], fields := [⟨0, 64, .rw, 0, 0, 18446744073709551615⟩] },
   -- TC_NUM_SEED_HI
   { base := 0x803E10, dims := [(512, 0x4000)], fields := [⟨0, 64, .rw, 0, 0, 18446744073709551615⟩] },
   -- TC_NUM_SR_CTR
   { base := 0x803E18, dims := [(512, 0x4000)], fields := [⟨0, 64, .rwh, 0, 0, 18446744073709551615⟩] }]

/-- Registers of R446 (15_beacons_and_rings.md). -/
def regsR446 : List RegBlock :=
  [
   -- QRG_CTL
   { base := 0x1000000, dims := [], fields := [⟨0, 5, .rw, 8, 0, 16⟩] },
   -- QRG_STATUS
   { base := 0x1000008, dims := [], fields := [⟨0, 17, .ro, 0, 0, 131071⟩, ⟨17, 17, .ro, 0, 0, 131071⟩] },
   -- QRG_RING_CFG
   { base := 0x1100000, dims := [(262144, 0x40)], fields := [⟨0, 1, .rwh, 0, 0, 1⟩, ⟨1, 1, .rw, 0, 0, 1⟩, ⟨2, 2, .rw, 2, 0, 3⟩, ⟨4, 5, .rw, 4, 4, 16⟩, ⟨9, 3, .rw, 0, 0, 7⟩, ⟨12, 1, .rw, 0, 0, 1⟩, ⟨13, 3, .rw, 0, 0, 7⟩] },
   -- QRG_RING_SQ
   { base := 0x1100008, dims := [(262144, 0x40)], fields := [⟨0, 64, .rw, 0, 0, 18446744073709551615⟩] },
   -- QRG_RING_CQ
   { base := 0x1100010, dims := [(262144, 0x40)], fields := [⟨0, 64, .rw, 0, 0, 18446744073709551615⟩] },
   -- QRG_RING_IDX
   { base := 0x1100018, dims := [(262144, 0x40)], fields := [⟨0, 32, .ro, 0, 0, 4294967295⟩, ⟨32, 32, .ro, 0, 0, 4294967295⟩] },
   -- QRG_RING_HOST
   { base := 0x1100020, dims := [(262144, 0x40)], fields := [⟨0, 32, .ro, 0, 0, 4294967295⟩, ⟨32, 32, .ro, 0, 0, 4294967295⟩] },
   -- QRG_RING_STATUS
   { base := 0x1100028, dims := [(262144, 0x40)], fields := [⟨0, 17, .ro, 0, 0, 131071⟩, ⟨17, 3, .ro, 0, 0, 7⟩, ⟨20, 1, .w1c, 0, 0, 1⟩] }]

/-- Every register of PF BAR0. -/
def regTable : List RegBlock :=
  regsR556a ++ regsR556b ++ regsR101a ++ regsR101b ++ regsR557a ++ regsR557b ++ regsR559 ++ regsR562 ++ regsR527a ++ regsR527b ++ regsR547a ++ regsR547b ++ regsR394a ++ regsR394b ++ regsR395a ++ regsR395b ++ regsR349a ++ regsR349b ++ regsR424a ++ regsR424b ++ regsR445 ++ regsR316a ++ regsR316b ++ regsR297 ++ regsR272a ++ regsR272b ++ regsR166 ++ regsR211 ++ regsR296 ++ regsR555 ++ regsR190 ++ regsR135 ++ regsR446

/-- Whether `d` bytes past a block's base is one of its registers. -/
def dimsHit (dims : List (Nat × Nat)) (d : Nat) : Bool :=
  match dims with
  | [] => d == 0
  | (n, st) :: rest => decide (d / st < n) && dimsHit rest (d % st)

def RegBlock.hits (b : RegBlock) (off : Nat) : Bool := decide (b.base ≤ off) && dimsHit b.dims (off - b.base)

/-- The fields of the register at `off`; none where no register lies (R553). -/
def regFields (off : Nat) : Option (List FieldSpec) :=
  (regTable.find? (fun b => b.hits off)).map RegBlock.fields

/-- A word's field. -/
def getField (w : Word) (lo width : Nat) : Nat := (w >>> lo).toNat % 2 ^ width

/-- The mask of a field. -/
def fieldMask (lo width : Nat) : Word := BitVec.ofNat 64 (2 ^ width - 1) <<< lo

/-- A word with one field replaced; a value too wide keeps its low bits. -/
def setField (w : Word) (lo width v : Nat) : Word :=
  (w &&& ~~~ (fieldMask lo width)) ||| (BitVec.ofNat 64 (v % 2 ^ width) <<< lo)

/-- The reset value of a register: its fields' reset values. -/
def resetOf (fs : List FieldSpec) : Word :=
  fs.foldl (fun w f => setField w f.lo f.width f.reset) 0

/-- What the register at `off` holds at reset. -/
def resetReg (off : Nat) : Word :=
  match regFields off with
  | some fs => resetOf fs
  | none => 0

/-- The stored word of a register. -/
def State.reg (s : State) (off : Nat) : Word := assocGet resetReg s.regs off

/-- Store a register's word. -/
def State.setReg (s : State) (off : Nat) (v : Word) : State := { s with regs := assocSet resetReg s.regs off v }

/-- The value of a field. -/
def State.fget (s : State) (f : Fld) : Nat := getField (s.reg f.off) f.lo f.width

/-- A one-bit field. -/
def State.fon (s : State) (f : Fld) : Bool := s.fget f != 0

/-- Write a field. -/
def State.fset (s : State) (f : Fld) (v : Nat) : State := s.setReg f.off (setField (s.reg f.off) f.lo f.width v)

/-- Set a one-bit field. -/
def State.fsetOn (s : State) (f : Fld) : State := s.fset f 1

/-- Clear a one-bit field. -/
def State.fclear (s : State) (f : Fld) : State := s.fset f 0

/-- Add to a counter that wraps. -/
def State.finc (s : State) (f : Fld) (n : Nat) : State := s.fset f ((s.fget f + n) % 2 ^ f.width)

/-- Add to a counter that stays at its largest value. -/
def State.fincSat (s : State) (f : Fld) (n : Nat) : State := s.fset f (Nat.min (s.fget f + n) (2 ^ f.width - 1))

end Sys2Proof.Machine
end

