-- ==== Sys2Proof/Machine/RegNames.lean ====
section
/-! DEFINITION. A name for every register (`A.<REGISTER>`, its address) and every field (`R.<REGISTER>.<field>`)
of PF BAR0, as the tables of spec/ name them. -/
namespace Sys2Proof.Machine

def A.GLB_ID : Nat := 0x0
def R.GLB_ID.part_id : Fld := ⟨A.GLB_ID, 0, 32⟩
def R.GLB_ID.stepping : Fld := ⟨A.GLB_ID, 32, 8⟩
def A.GLB_FW : Nat := 0x8
def R.GLB_FW.version : Fld := ⟨A.GLB_FW, 0, 32⟩
def R.GLB_FW.running_copy : Fld := ⟨A.GLB_FW, 32, 1⟩
def R.GLB_FW.pending : Fld := ⟨A.GLB_FW, 33, 2⟩
def A.GLB_BOOT : Nat := 0x10
def R.GLB_BOOT.milestones : Fld := ⟨A.GLB_BOOT, 0, 11⟩
def R.GLB_BOOT.boot_state : Fld := ⟨A.GLB_BOOT, 12, 3⟩
def R.GLB_BOOT.halt_die : Fld := ⟨A.GLB_BOOT, 16, 6⟩
def R.GLB_BOOT.halt_code : Fld := ⟨A.GLB_BOOT, 24, 8⟩
def R.GLB_BOOT.reset_cause : Fld := ⟨A.GLB_BOOT, 32, 4⟩
def A.GLB_SEC : Nat := 0x18
def R.GLB_SEC.fw_min : Fld := ⟨A.GLB_SEC, 0, 32⟩
def R.GLB_SEC.image_min : Fld := ⟨A.GLB_SEC, 32, 32⟩
def A.GLB_SLOTS : Nat := 0x20
def R.GLB_SLOTS.owner : Fld := ⟨A.GLB_SLOTS, 0, 8⟩
def R.GLB_SLOTS.vendor : Fld := ⟨A.GLB_SLOTS, 8, 4⟩
def A.GLB_DIE_FUSED : Nat := 0x28
def R.GLB_DIE_FUSED.dies : Fld := ⟨A.GLB_DIE_FUSED, 0, 40⟩
def A.GLB_DIE_RETIRED : Nat := 0x30
def R.GLB_DIE_RETIRED.dies : Fld := ⟨A.GLB_DIE_RETIRED, 0, 40⟩
def A.GLB_UNITS : Nat := 0x38
def R.GLB_UNITS.t_cores : Fld := ⟨A.GLB_UNITS, 0, 10⟩
def R.GLB_UNITS.p_cores : Fld := ⟨A.GLB_UNITS, 10, 8⟩
def R.GLB_UNITS.ses : Fld := ⟨A.GLB_UNITS, 18, 5⟩
def R.GLB_UNITS.channels : Fld := ⟨A.GLB_UNITS, 23, 7⟩
def R.GLB_UNITS.ports_up : Fld := ⟨A.GLB_UNITS, 30, 7⟩
def R.GLB_UNITS.llm_slices : Fld := ⟨A.GLB_UNITS, 37, 4⟩
def A.GLB_TCORE_MAP (k : Nat) : Nat := 0x40 + 0x8 * k
def R.GLB_TCORE_MAP.map (k : Nat) : Fld := ⟨A.GLB_TCORE_MAP k, 0, 64⟩
def A.GLB_PCORE_MAP (k : Nat) : Nat := 0x80 + 0x8 * k
def R.GLB_PCORE_MAP.map (k : Nat) : Fld := ⟨A.GLB_PCORE_MAP k, 0, 64⟩
def A.GLB_SE_MAP : Nat := 0x98
def R.GLB_SE_MAP.map : Fld := ⟨A.GLB_SE_MAP, 0, 16⟩
def A.GLB_HASH (k : Nat) : Nat := 0xA0 + 0x8 * k
def R.GLB_HASH.hash (k : Nat) : Fld := ⟨A.GLB_HASH k, 0, 64⟩
def A.TRN_CTL : Nat := 0x10000
def R.TRN_CTL.master_priority : Fld := ⟨A.TRN_CTL, 0, 8⟩
def R.TRN_CTL.tout_en : Fld := ⟨A.TRN_CTL, 8, 1⟩
def A.TRN_STATUS : Nat := 0x10008
def R.TRN_STATUS.synced : Fld := ⟨A.TRN_STATUS, 0, 1⟩
def R.TRN_STATUS.is_master : Fld := ⟨A.TRN_STATUS, 1, 1⟩
def R.TRN_STATUS.electing : Fld := ⟨A.TRN_STATUS, 2, 1⟩
def R.TRN_STATUS.master_lost : Fld := ⟨A.TRN_STATUS, 3, 1⟩
def R.TRN_STATUS.period_err : Fld := ⟨A.TRN_STATUS, 4, 1⟩
def R.TRN_STATUS.late_marker : Fld := ⟨A.TRN_STATUS, 5, 1⟩
def R.TRN_STATUS.master_ldn : Fld := ⟨A.TRN_STATUS, 8, 8⟩
def R.TRN_STATUS.offset_ns : Fld := ⟨A.TRN_STATUS, 16, 16⟩
def A.TRN_NUMBER : Nat := 0x10010
def R.TRN_NUMBER.transit : Fld := ⟨A.TRN_NUMBER, 0, 64⟩
def A.TRN_TIME : Nat := 0x10018
def R.TRN_TIME.time_ns : Fld := ⟨A.TRN_TIME, 0, 64⟩
def A.TRN_NEXT : Nat := 0x10020
def R.TRN_NEXT.next_ns : Fld := ⟨A.TRN_NEXT, 0, 64⟩
def A.TRN_PERIOD : Nat := 0x10028
def R.TRN_PERIOD.period_ns : Fld := ⟨A.TRN_PERIOD, 0, 34⟩
def A.TRN_PERIOD_NEXT : Nat := 0x10030
def R.TRN_PERIOD_NEXT.period_ns : Fld := ⟨A.TRN_PERIOD_NEXT, 0, 34⟩
def A.TRN_PERIOD_AT : Nat := 0x10038
def R.TRN_PERIOD_AT.at_transit : Fld := ⟨A.TRN_PERIOD_AT, 0, 64⟩
def A.TRN_POLICY : Nat := 0x10040
def R.TRN_POLICY.max_stretch : Fld := ⟨A.TRN_POLICY, 0, 10⟩
def R.TRN_POLICY.droop_margin : Fld := ⟨A.TRN_POLICY, 16, 10⟩
def R.TRN_POLICY.lead_ns : Fld := ⟨A.TRN_POLICY, 32, 15⟩
def A.TRN_START : Nat := 0x10048
def R.TRN_START.start : Fld := ⟨A.TRN_START, 0, 64⟩
def A.TRN_RACK_SIZE : Nat := 0x10050
def R.TRN_RACK_SIZE.rack_size : Fld := ⟨A.TRN_RACK_SIZE, 0, 8⟩
def A.TRN_STRETCH_CNT : Nat := 0x10058
def R.TRN_STRETCH_CNT.stretched : Fld := ⟨A.TRN_STRETCH_CNT, 0, 32⟩
def R.TRN_STRETCH_CNT.darkened : Fld := ⟨A.TRN_STRETCH_CNT, 32, 32⟩
def A.TRN_PART_CTL (p : Nat) : Nat := 0x10100 + 0x20 * p
def R.TRN_PART_CTL.compute (p : Nat) : Fld := ⟨A.TRN_PART_CTL p, 0, 10⟩
def R.TRN_PART_CTL.exchange (p : Nat) : Fld := ⟨A.TRN_PART_CTL p, 16, 10⟩
def R.TRN_PART_CTL.commit (p : Nat) : Fld := ⟨A.TRN_PART_CTL p, 32, 10⟩
def R.TRN_PART_CTL.policy (p : Nat) : Fld := ⟨A.TRN_PART_CTL p, 48, 1⟩
def R.TRN_PART_CTL.acct_en (p : Nat) : Fld := ⟨A.TRN_PART_CTL p, 49, 1⟩
def R.TRN_PART_CTL.beacon_en (p : Nat) : Fld := ⟨A.TRN_PART_CTL p, 50, 1⟩
def A.TRN_PART_STEP (p : Nat) : Nat := 0x10108 + 0x20 * p
def R.TRN_PART_STEP.compute_done (p : Nat) : Fld := ⟨A.TRN_PART_STEP p, 0, 1⟩
def R.TRN_PART_STEP.exchange_done (p : Nat) : Fld := ⟨A.TRN_PART_STEP p, 1, 1⟩
def R.TRN_PART_STEP.step_done (p : Nat) : Fld := ⟨A.TRN_PART_STEP p, 2, 1⟩
def R.TRN_PART_STEP.step_phase (p : Nat) : Fld := ⟨A.TRN_PART_STEP p, 8, 2⟩
def R.TRN_PART_STEP.late (p : Nat) : Fld := ⟨A.TRN_PART_STEP p, 16, 1⟩
def R.TRN_PART_STEP.warn (p : Nat) : Fld := ⟨A.TRN_PART_STEP p, 17, 1⟩
def R.TRN_PART_STEP.skipped (p : Nat) : Fld := ⟨A.TRN_PART_STEP p, 18, 1⟩
def R.TRN_PART_STEP.win_err (p : Nat) : Fld := ⟨A.TRN_PART_STEP p, 19, 1⟩
def A.TRN_PART_BCN (p : Nat) : Nat := 0x10110 + 0x20 * p
def R.TRN_PART_BCN.window_beacon (p : Nat) : Fld := ⟨A.TRN_PART_BCN p, 0, 14⟩
def A.TRN_PART_DROOP (p : Nat) : Nat := 0x10118 + 0x20 * p
def R.TRN_PART_DROOP.lost_ns (p : Nat) : Fld := ⟨A.TRN_PART_DROOP p, 0, 32⟩
def R.TRN_PART_DROOP.over_margin_count (p : Nat) : Fld := ⟨A.TRN_PART_DROOP p, 32, 32⟩
def A.PRT_CMD : Nat := 0x20000
def R.PRT_CMD.submit : Fld := ⟨A.PRT_CMD, 0, 1⟩
def R.PRT_CMD.withdraw : Fld := ⟨A.PRT_CMD, 1, 1⟩
def R.PRT_CMD.wd_partition : Fld := ⟨A.PRT_CMD, 8, 4⟩
def A.PRT_STAGE : Nat := 0x20008
def R.PRT_STAGE.validating : Fld := ⟨A.PRT_STAGE, 0, 1⟩
def R.PRT_STAGE.busy_err : Fld := ⟨A.PRT_STAGE, 1, 1⟩
def R.PRT_STAGE.done : Fld := ⟨A.PRT_STAGE, 2, 1⟩
def R.PRT_STAGE.code : Fld := ⟨A.PRT_STAGE, 8, 8⟩
def R.PRT_STAGE.offset : Fld := ⟨A.PRT_STAGE, 16, 18⟩
def R.PRT_STAGE.target : Fld := ⟨A.PRT_STAGE, 36, 4⟩
def A.PRT_BOOT : Nat := 0x20010
def R.PRT_BOOT.loaded : Fld := ⟨A.PRT_BOOT, 0, 2⟩
def R.PRT_BOOT.code_a : Fld := ⟨A.PRT_BOOT, 8, 8⟩
def R.PRT_BOOT.code_b : Fld := ⟨A.PRT_BOOT, 16, 8⟩
def R.PRT_BOOT.off_a : Fld := ⟨A.PRT_BOOT, 24, 18⟩
def R.PRT_BOOT.off_b : Fld := ⟨A.PRT_BOOT, 42, 18⟩
def A.PRT_CTL (p : Nat) : Nat := 0x21000 + 0x100 * p
def R.PRT_CTL.auto_reissue (p : Nat) : Fld := ⟨A.PRT_CTL p, 0, 1⟩
def A.PRT_STATUS (p : Nat) : Nat := 0x21008 + 0x100 * p
def R.PRT_STATUS.present (p : Nat) : Fld := ⟨A.PRT_STATUS p, 0, 1⟩
def R.PRT_STATUS.image (p : Nat) : Fld := ⟨A.PRT_STATUS p, 1, 2⟩
def R.PRT_STATUS.held (p : Nat) : Fld := ⟨A.PRT_STATUS p, 3, 1⟩
def R.PRT_STATUS.resetting (p : Nat) : Fld := ⟨A.PRT_STATUS p, 4, 1⟩
def R.PRT_STATUS.code (p : Nat) : Fld := ⟨A.PRT_STATUS p, 8, 8⟩
def A.PRT_RES (p : Nat) : Nat := 0x21010 + 0x100 * p
def R.PRT_RES.t_cores (p : Nat) : Fld := ⟨A.PRT_RES p, 0, 10⟩
def R.PRT_RES.p_cores (p : Nat) : Fld := ⟨A.PRT_RES p, 10, 8⟩
def R.PRT_RES.ses (p : Nat) : Fld := ⟨A.PRT_RES p, 18, 5⟩
def R.PRT_RES.channels (p : Nat) : Fld := ⟨A.PRT_RES p, 23, 7⟩
def R.PRT_RES.ports (p : Nat) : Fld := ⟨A.PRT_RES p, 30, 7⟩
def R.PRT_RES.llm_units (p : Nat) : Fld := ⟨A.PRT_RES p, 37, 7⟩
def R.PRT_RES.width (p : Nat) : Fld := ⟨A.PRT_RES p, 44, 7⟩
def A.PRT_CLUSTERS (p k : Nat) : Nat := 0x21018 + 0x100 * p + 0x8 * k
def R.PRT_CLUSTERS.map (p k : Nat) : Fld := ⟨A.PRT_CLUSTERS p k, 0, 64⟩
def A.PRT_PCORES (p k : Nat) : Nat := 0x21028 + 0x100 * p + 0x8 * k
def R.PRT_PCORES.map (p k : Nat) : Fld := ⟨A.PRT_PCORES p k, 0, 64⟩
def A.PRT_MASKS (p : Nat) : Nat := 0x21040 + 0x100 * p
def R.PRT_MASKS.se_mask (p : Nat) : Fld := ⟨A.PRT_MASKS p, 0, 16⟩
def A.PRT_CHAN (p : Nat) : Nat := 0x21048 + 0x100 * p
def R.PRT_CHAN.mask (p : Nat) : Fld := ⟨A.PRT_CHAN p, 0, 64⟩
def A.PRT_PORTS (p : Nat) : Nat := 0x21050 + 0x100 * p
def R.PRT_PORTS.mask (p : Nat) : Fld := ⟨A.PRT_PORTS p, 0, 64⟩
def A.PRT_CNT (p : Nat) : Nat := 0x21058 + 0x100 * p
def R.PRT_CNT.reissues (p : Nat) : Fld := ⟨A.PRT_CNT p, 0, 32⟩
def R.PRT_CNT.resets (p : Nat) : Fld := ⟨A.PRT_CNT p, 32, 16⟩
def A.PRT_LLM (p : Nat) : Nat := 0x21060 + 0x100 * p
def R.PRT_LLM.llm_mask (p : Nat) : Fld := ⟨A.PRT_LLM p, 0, 64⟩
def A.ERR_PROD : Nat := 0x30000
def R.ERR_PROD.prod : Fld := ⟨A.ERR_PROD, 0, 32⟩
def A.ERR_CONS : Nat := 0x30008
def R.ERR_CONS.cons : Fld := ⟨A.ERR_CONS, 0, 32⟩
def A.ERR_STATUS : Nat := 0x30010
def R.ERR_STATUS.cons_err : Fld := ⟨A.ERR_STATUS, 0, 1⟩
def R.ERR_STATUS.full : Fld := ⟨A.ERR_STATUS, 1, 1⟩
def R.ERR_STATUS.fatal_unread : Fld := ⟨A.ERR_STATUS, 2, 1⟩
def A.ERR_LOST0 : Nat := 0x30018
def R.ERR_LOST0.lost_corrected : Fld := ⟨A.ERR_LOST0, 0, 16⟩
def R.ERR_LOST0.lost_twinkle : Fld := ⟨A.ERR_LOST0, 16, 16⟩
def R.ERR_LOST0.lost_hard : Fld := ⟨A.ERR_LOST0, 32, 16⟩
def R.ERR_LOST0.lost_partition : Fld := ⟨A.ERR_LOST0, 48, 16⟩
def A.ERR_LOST1 : Nat := 0x30020
def R.ERR_LOST1.lost_package : Fld := ⟨A.ERR_LOST1, 0, 16⟩
def A.ERR_ENTRY (i w : Nat) : Nat := 0xC0000 + 0x20 * i + 0x8 * w
def R.ERR_ENTRY.word (i w : Nat) : Fld := ⟨A.ERR_ENTRY i w, 0, 64⟩
def A.MNT_REQ : Nat := 0x40000
def R.MNT_REQ.activity : Fld := ⟨A.MNT_REQ, 0, 4⟩
def R.MNT_REQ.domain : Fld := ⟨A.MNT_REQ, 16, 7⟩
def R.MNT_REQ.go : Fld := ⟨A.MNT_REQ, 31, 1⟩
def A.MNT_RESULT : Nat := 0x40008
def R.MNT_RESULT.done : Fld := ⟨A.MNT_RESULT, 0, 1⟩
def R.MNT_RESULT.status : Fld := ⟨A.MNT_RESULT, 8, 8⟩
def R.MNT_RESULT.slot : Fld := ⟨A.MNT_RESULT, 16, 4⟩
def R.MNT_RESULT.holder : Fld := ⟨A.MNT_RESULT, 24, 8⟩
def R.MNT_RESULT.holder_domain : Fld := ⟨A.MNT_RESULT, 32, 7⟩
def A.MNT_SLOT (i : Nat) : Nat := 0x40100 + 0x8 * i
def R.MNT_SLOT.busy (i : Nat) : Fld := ⟨A.MNT_SLOT i, 0, 1⟩
def R.MNT_SLOT.abort (i : Nat) : Fld := ⟨A.MNT_SLOT i, 1, 1⟩
def R.MNT_SLOT.requester (i : Nat) : Fld := ⟨A.MNT_SLOT i, 2, 2⟩
def R.MNT_SLOT.activity (i : Nat) : Fld := ⟨A.MNT_SLOT i, 4, 4⟩
def R.MNT_SLOT.domain (i : Nat) : Fld := ⟨A.MNT_SLOT i, 8, 7⟩
def R.MNT_SLOT.progress (i : Nat) : Fld := ⟨A.MNT_SLOT i, 16, 8⟩
def R.MNT_SLOT.last_status (i : Nat) : Fld := ⟨A.MNT_SLOT i, 24, 8⟩
def A.ALM_CTL : Nat := 0x50000
def R.ALM_CTL.arm : Fld := ⟨A.ALM_CTL, 0, 1⟩
def R.ALM_CTL.cancel : Fld := ⟨A.ALM_CTL, 1, 1⟩
def R.ALM_CTL.restore : Fld := ⟨A.ALM_CTL, 2, 1⟩
def A.ALM_STATUS : Nat := 0x50008
def R.ALM_STATUS.state : Fld := ⟨A.ALM_STATUS, 0, 4⟩
def R.ALM_STATUS.code : Fld := ⟨A.ALM_STATUS, 8, 8⟩
def R.ALM_STATUS.err : Fld := ⟨A.ALM_STATUS, 16, 1⟩
def R.ALM_STATUS.done : Fld := ⟨A.ALM_STATUS, 17, 1⟩
def R.ALM_STATUS.mirror_ok : Fld := ⟨A.ALM_STATUS, 18, 1⟩
def A.ALM_CUT_AT : Nat := 0x50010
def R.ALM_CUT_AT.at_transit : Fld := ⟨A.ALM_CUT_AT, 0, 64⟩
def A.ALM_PLAN : Nat := 0x50018
def R.ALM_PLAN.part_mask : Fld := ⟨A.ALM_PLAN, 0, 16⟩
def R.ALM_PLAN.solver : Fld := ⟨A.ALM_PLAN, 16, 1⟩
def R.ALM_PLAN.quiesce_us : Fld := ⟨A.ALM_PLAN, 32, 20⟩
def A.ALM_NVME : Nat := 0x50020
def R.ALM_NVME.drive_mask : Fld := ⟨A.ALM_NVME, 0, 4⟩
def R.ALM_NVME.nsid : Fld := ⟨A.ALM_NVME, 32, 32⟩
def A.ALM_AREA : Nat := 0x50028
def R.ALM_AREA.area_lba : Fld := ⟨A.ALM_AREA, 0, 48⟩
def A.ALM_AREA_LEN : Nat := 0x50030
def R.ALM_AREA_LEN.area_len : Fld := ⟨A.ALM_AREA_LEN, 0, 48⟩
def A.ALM_BUDDY : Nat := 0x50038
def R.ALM_BUDDY.buddy_ldn : Fld := ⟨A.ALM_BUDDY, 0, 8⟩
def R.ALM_BUDDY.mirror_en : Fld := ⟨A.ALM_BUDDY, 8, 1⟩
def A.ALM_LAST : Nat := 0x50040
def R.ALM_LAST.transit : Fld := ⟨A.ALM_LAST, 0, 64⟩
def A.ALM_BYTES : Nat := 0x50048
def R.ALM_BYTES.bytes : Fld := ⟨A.ALM_BYTES, 0, 64⟩
def A.ALM_RST_SRC : Nat := 0x50060
def R.ALM_RST_SRC.ldn : Fld := ⟨A.ALM_RST_SRC, 0, 8⟩
def R.ALM_RST_SRC.buddy_area : Fld := ⟨A.ALM_RST_SRC, 8, 1⟩
def R.ALM_RST_SRC.slot : Fld := ⟨A.ALM_RST_SRC, 9, 1⟩
def R.ALM_RST_SRC.use_pointer : Fld := ⟨A.ALM_RST_SRC, 10, 1⟩
def R.ALM_RST_SRC.state_restore : Fld := ⟨A.ALM_RST_SRC, 11, 1⟩
def R.ALM_RST_SRC.shard : Fld := ⟨A.ALM_RST_SRC, 12, 8⟩
def A.ALM_RST_DST : Nat := 0x50068
def R.ALM_RST_DST.dst : Fld := ⟨A.ALM_RST_DST, 0, 48⟩
def A.ALM_SHARD_BASE (i : Nat) : Nat := 0x51000 + 0x10 * i
def R.ALM_SHARD_BASE.base (i : Nat) : Fld := ⟨A.ALM_SHARD_BASE i, 0, 48⟩
def A.ALM_SHARD_LEN (i : Nat) : Nat := 0x51008 + 0x10 * i
def R.ALM_SHARD_LEN.length (i : Nat) : Fld := ⟨A.ALM_SHARD_LEN i, 0, 41⟩
def A.ALM_CURSOR (v : Nat) : Nat := 0x58000 + 0x8 * v
def R.ALM_CURSOR.cursor (v : Nat) : Fld := ⟨A.ALM_CURSOR v, 0, 64⟩
def A.NWT_CTL : Nat := 0x60000
def R.NWT_CTL.night_enter : Fld := ⟨A.NWT_CTL, 0, 1⟩
def R.NWT_CTL.wake_at_en : Fld := ⟨A.NWT_CTL, 1, 1⟩
def A.NWT_STATUS : Nat := 0x60008
def R.NWT_STATUS.pstate : Fld := ⟨A.NWT_STATUS, 0, 3⟩
def R.NWT_STATUS.night_err : Fld := ⟨A.NWT_STATUS, 3, 1⟩
def R.NWT_STATUS.last_wake : Fld := ⟨A.NWT_STATUS, 4, 4⟩
def R.NWT_STATUS.wake_rule : Fld := ⟨A.NWT_STATUS, 8, 4⟩
def R.NWT_STATUS.rules_true : Fld := ⟨A.NWT_STATUS, 16, 16⟩
def R.NWT_STATUS.tripped : Fld := ⟨A.NWT_STATUS, 32, 1⟩
def R.NWT_STATUS.trip_sensor : Fld := ⟨A.NWT_STATUS, 33, 6⟩
def A.NWT_WAKE_AT : Nat := 0x60010
def R.NWT_WAKE_AT.transit : Fld := ⟨A.NWT_WAKE_AT, 0, 64⟩
def A.NWT_SENSOR (s : Nat) : Nat := 0x60100 + 0x8 * s
def R.NWT_SENSOR.raw (s : Nat) : Fld := ⟨A.NWT_SENSOR s, 0, 16⟩
def R.NWT_SENSOR.filtered (s : Nat) : Fld := ⟨A.NWT_SENSOR s, 16, 16⟩
def A.NWT_RULE_CNT (r : Nat) : Nat := 0x60400 + 0x8 * r
def R.NWT_RULE_CNT.hits (r : Nat) : Fld := ⟨A.NWT_RULE_CNT r, 0, 32⟩
def A.ECL_CTL : Nat := 0x70000
def R.ECL_CTL.trigger : Fld := ⟨A.ECL_CTL, 0, 1⟩
def R.ECL_CTL.cmd_fast : Fld := ⟨A.ECL_CTL, 1, 1⟩
def R.ECL_CTL.pin_fast : Fld := ⟨A.ECL_CTL, 2, 1⟩
def R.ECL_CTL.fatal_fast : Fld := ⟨A.ECL_CTL, 3, 1⟩
def R.ECL_CTL.on_fatal : Fld := ⟨A.ECL_CTL, 4, 2⟩
def R.ECL_CTL.at_en : Fld := ⟨A.ECL_CTL, 6, 1⟩
def R.ECL_CTL.at_fast : Fld := ⟨A.ECL_CTL, 7, 1⟩
def R.ECL_CTL.resume : Fld := ⟨A.ECL_CTL, 8, 1⟩
def R.ECL_CTL.dump_regs : Fld := ⟨A.ECL_CTL, 9, 1⟩
def R.ECL_CTL.dump_sram : Fld := ⟨A.ECL_CTL, 10, 1⟩
def R.ECL_CTL.dump_staging : Fld := ⟨A.ECL_CTL, 11, 1⟩
def A.ECL_AT : Nat := 0x70008
def R.ECL_AT.transit : Fld := ⟨A.ECL_AT, 0, 64⟩
def A.ECL_DUMP_LBA : Nat := 0x70010
def R.ECL_DUMP_LBA.dump_lba : Fld := ⟨A.ECL_DUMP_LBA, 0, 48⟩
def A.ECL_STATUS : Nat := 0x70018
def R.ECL_STATUS.valid : Fld := ⟨A.ECL_STATUS, 0, 1⟩
def R.ECL_STATUS.cause : Fld := ⟨A.ECL_STATUS, 1, 3⟩
def R.ECL_STATUS.causes : Fld := ⟨A.ECL_STATUS, 4, 5⟩
def R.ECL_STATUS.fast : Fld := ⟨A.ECL_STATUS, 9, 1⟩
def R.ECL_STATUS.dump_ok : Fld := ⟨A.ECL_STATUS, 10, 1⟩
def R.ECL_STATUS.dump_err : Fld := ⟨A.ECL_STATUS, 11, 1⟩
def A.ECL_TIME : Nat := 0x70020
def R.ECL_TIME.time_ns : Fld := ⟨A.ECL_TIME, 0, 64⟩
def A.ECL_SR_MASK : Nat := 0x70028
def R.ECL_SR_MASK.sr_mask : Fld := ⟨A.ECL_SR_MASK, 0, 64⟩
def A.ECL_CNT : Nat := 0x70030
def R.ECL_CNT.ignored : Fld := ⟨A.ECL_CNT, 0, 16⟩
def A.SCP_PORT_CTL (n : Nat) : Nat := 0x100000 + 0x1000 * n
def R.SCP_PORT_CTL.enable (n : Nat) : Fld := ⟨A.SCP_PORT_CTL n, 0, 1⟩
def R.SCP_PORT_CTL.enc_en (n : Nat) : Fld := ⟨A.SCP_PORT_CTL n, 1, 1⟩
def R.SCP_PORT_CTL.split (n : Nat) : Fld := ⟨A.SCP_PORT_CTL n, 2, 1⟩
def R.SCP_PORT_CTL.ext (n : Nat) : Fld := ⟨A.SCP_PORT_CTL n, 3, 1⟩
def R.SCP_PORT_CTL.retrain (n : Nat) : Fld := ⟨A.SCP_PORT_CTL n, 4, 1⟩
def R.SCP_PORT_CTL.release (n : Nat) : Fld := ⟨A.SCP_PORT_CTL n, 5, 1⟩
def R.SCP_PORT_CTL.quarantine (n : Nat) : Fld := ⟨A.SCP_PORT_CTL n, 6, 1⟩
def R.SCP_PORT_CTL.quar_thr (n : Nat) : Fld := ⟨A.SCP_PORT_CTL n, 8, 16⟩
def A.SCP_PORT_STATUS (n : Nat) : Nat := 0x100008 + 0x1000 * n
def R.SCP_PORT_STATUS.state (n : Nat) : Fld := ⟨A.SCP_PORT_STATUS n, 0, 4⟩
def R.SCP_PORT_STATUS.lambda_up (n : Nat) : Fld := ⟨A.SCP_PORT_STATUS n, 4, 4⟩
def R.SCP_PORT_STATUS.version (n : Nat) : Fld := ⟨A.SCP_PORT_STATUS n, 8, 4⟩
def R.SCP_PORT_STATUS.encrypted (n : Nat) : Fld := ⟨A.SCP_PORT_STATUS n, 12, 1⟩
def R.SCP_PORT_STATUS.authenticated (n : Nat) : Fld := ⟨A.SCP_PORT_STATUS n, 13, 1⟩
def R.SCP_PORT_STATUS.light (n : Nat) : Fld := ⟨A.SCP_PORT_STATUS n, 14, 1⟩
def R.SCP_PORT_STATUS.key_phase (n : Nat) : Fld := ⟨A.SCP_PORT_STATUS n, 15, 1⟩
def R.SCP_PORT_STATUS.retrain_fails (n : Nat) : Fld := ⟨A.SCP_PORT_STATUS n, 16, 2⟩
def R.SCP_PORT_STATUS.cred_err (n : Nat) : Fld := ⟨A.SCP_PORT_STATUS n, 18, 1⟩
def R.SCP_PORT_STATUS.outstanding (n : Nat) : Fld := ⟨A.SCP_PORT_STATUS n, 32, 12⟩
def A.SCP_PORT_PEER (n : Nat) : Nat := 0x100010 + 0x1000 * n
def R.SCP_PORT_PEER.peer_rack (n : Nat) : Fld := ⟨A.SCP_PORT_PEER n, 0, 16⟩
def R.SCP_PORT_PEER.peer_slot (n : Nat) : Fld := ⟨A.SCP_PORT_PEER n, 16, 8⟩
def R.SCP_PORT_PEER.peer_port (n : Nat) : Fld := ⟨A.SCP_PORT_PEER n, 24, 6⟩
def R.SCP_PORT_PEER.peer_ldn (n : Nat) : Fld := ⟨A.SCP_PORT_PEER n, 32, 8⟩
def A.SCP_PORT_PEER_SN (n : Nat) : Nat := 0x100018 + 0x1000 * n
def R.SCP_PORT_PEER_SN.peer_sn (n : Nat) : Fld := ⟨A.SCP_PORT_PEER_SN n, 0, 64⟩
def A.SCP_PORT_VCW (n : Nat) : Nat := 0x100020 + 0x1000 * n
def R.SCP_PORT_VCW.w1 (n : Nat) : Fld := ⟨A.SCP_PORT_VCW n, 8, 8⟩
def R.SCP_PORT_VCW.w2 (n : Nat) : Fld := ⟨A.SCP_PORT_VCW n, 16, 8⟩
def R.SCP_PORT_VCW.w3 (n : Nat) : Fld := ⟨A.SCP_PORT_VCW n, 24, 8⟩
def R.SCP_PORT_VCW.w4 (n : Nat) : Fld := ⟨A.SCP_PORT_VCW n, 32, 8⟩
def R.SCP_PORT_VCW.w5 (n : Nat) : Fld := ⟨A.SCP_PORT_VCW n, 40, 8⟩
def R.SCP_PORT_VCW.w6 (n : Nat) : Fld := ⟨A.SCP_PORT_VCW n, 48, 8⟩
def R.SCP_PORT_VCW.w7 (n : Nat) : Fld := ⟨A.SCP_PORT_VCW n, 56, 8⟩
def A.SCP_PORT_CRED (n : Nat) : Nat := 0x100028 + 0x1000 * n
def R.SCP_PORT_CRED.vc0 (n : Nat) : Fld := ⟨A.SCP_PORT_CRED n, 0, 8⟩
def R.SCP_PORT_CRED.vc1 (n : Nat) : Fld := ⟨A.SCP_PORT_CRED n, 8, 8⟩
def R.SCP_PORT_CRED.vc2 (n : Nat) : Fld := ⟨A.SCP_PORT_CRED n, 16, 8⟩
def R.SCP_PORT_CRED.vc3 (n : Nat) : Fld := ⟨A.SCP_PORT_CRED n, 24, 8⟩
def R.SCP_PORT_CRED.vc4 (n : Nat) : Fld := ⟨A.SCP_PORT_CRED n, 32, 8⟩
def R.SCP_PORT_CRED.vc5 (n : Nat) : Fld := ⟨A.SCP_PORT_CRED n, 40, 8⟩
def R.SCP_PORT_CRED.vc6 (n : Nat) : Fld := ⟨A.SCP_PORT_CRED n, 48, 8⟩
def R.SCP_PORT_CRED.vc7 (n : Nat) : Fld := ⟨A.SCP_PORT_CRED n, 56, 8⟩
def A.SCP_PORT_DELAY (n : Nat) : Nat := 0x100030 + 0x1000 * n
def R.SCP_PORT_DELAY.delay_ns (n : Nat) : Fld := ⟨A.SCP_PORT_DELAY n, 0, 32⟩
def A.SCP_PORT_ERR (n : Nat) : Nat := 0x100038 + 0x1000 * n
def R.SCP_PORT_ERR.fec_corrected (n : Nat) : Fld := ⟨A.SCP_PORT_ERR n, 0, 32⟩
def R.SCP_PORT_ERR.crc_fail (n : Nat) : Fld := ⟨A.SCP_PORT_ERR n, 32, 32⟩
def A.SCP_PORT_REPLAY (n : Nat) : Nat := 0x100040 + 0x1000 * n
def R.SCP_PORT_REPLAY.replays (n : Nat) : Fld := ⟨A.SCP_PORT_REPLAY n, 0, 32⟩
def R.SCP_PORT_REPLAY.retrains (n : Nat) : Fld := ⟨A.SCP_PORT_REPLAY n, 32, 16⟩
def R.SCP_PORT_REPLAY.gaps (n : Nat) : Fld := ⟨A.SCP_PORT_REPLAY n, 48, 16⟩
def A.SCP_PORT_MAL (n : Nat) : Nat := 0x100048 + 0x1000 * n
def R.SCP_PORT_MAL.malformed (n : Nat) : Fld := ⟨A.SCP_PORT_MAL n, 0, 32⟩
def R.SCP_PORT_MAL.last_reason (n : Nat) : Fld := ⟨A.SCP_PORT_MAL n, 32, 8⟩
def A.SCP_PORT_SUB (n : Nat) : Nat := 0x100050 + 0x1000 * n
def R.SCP_PORT_SUB.sub_state0 (n : Nat) : Fld := ⟨A.SCP_PORT_SUB n, 0, 4⟩
def R.SCP_PORT_SUB.sub_peer_ldn0 (n : Nat) : Fld := ⟨A.SCP_PORT_SUB n, 4, 8⟩
def R.SCP_PORT_SUB.sub_state1 (n : Nat) : Fld := ⟨A.SCP_PORT_SUB n, 16, 4⟩
def R.SCP_PORT_SUB.sub_peer_ldn1 (n : Nat) : Fld := ⟨A.SCP_PORT_SUB n, 20, 8⟩
def R.SCP_PORT_SUB.sub_state2 (n : Nat) : Fld := ⟨A.SCP_PORT_SUB n, 32, 4⟩
def R.SCP_PORT_SUB.sub_peer_ldn2 (n : Nat) : Fld := ⟨A.SCP_PORT_SUB n, 36, 8⟩
def R.SCP_PORT_SUB.sub_state3 (n : Nat) : Fld := ⟨A.SCP_PORT_SUB n, 48, 4⟩
def R.SCP_PORT_SUB.sub_peer_ldn3 (n : Nat) : Fld := ⟨A.SCP_PORT_SUB n, 52, 8⟩
def A.SCP_ID : Nat := 0x170000
def R.SCP_ID.rack : Fld := ⟨A.SCP_ID, 0, 16⟩
def R.SCP_ID.slot : Fld := ⟨A.SCP_ID, 16, 8⟩
def R.SCP_ID.ldn : Fld := ⟨A.SCP_ID, 24, 8⟩
def R.SCP_ID.proto_version : Fld := ⟨A.SCP_ID, 32, 4⟩
def R.SCP_ID.proto_min : Fld := ⟨A.SCP_ID, 36, 4⟩
def A.SCP_SN : Nat := 0x170008
def R.SCP_SN.sn : Fld := ⟨A.SCP_SN, 0, 64⟩
def A.SCP_LDN_NEXT : Nat := 0x170010
def R.SCP_LDN_NEXT.ldn_next : Fld := ⟨A.SCP_LDN_NEXT, 0, 8⟩
def R.SCP_LDN_NEXT.commit : Fld := ⟨A.SCP_LDN_NEXT, 8, 1⟩
def R.SCP_LDN_NEXT.cancel : Fld := ⟨A.SCP_LDN_NEXT, 9, 1⟩
def R.SCP_LDN_NEXT.pending : Fld := ⟨A.SCP_LDN_NEXT, 10, 1⟩
def R.SCP_LDN_NEXT.ldn_err : Fld := ⟨A.SCP_LDN_NEXT, 11, 1⟩
def A.SCP_LDN_AT : Nat := 0x170018
def R.SCP_LDN_AT.at_transit : Fld := ⟨A.SCP_LDN_AT, 0, 64⟩
def A.SCP_ROUTE_ADDR : Nat := 0x170020
def R.SCP_ROUTE_ADDR.ldn : Fld := ⟨A.SCP_ROUTE_ADDR, 0, 8⟩
def A.SCP_ROUTE_DATA0 : Nat := 0x170028
def R.SCP_ROUTE_DATA0.cand : Fld := ⟨A.SCP_ROUTE_DATA0, 0, 64⟩
def A.SCP_ROUTE_DATA1 : Nat := 0x170030
def R.SCP_ROUTE_DATA1.cand : Fld := ⟨A.SCP_ROUTE_DATA1, 0, 64⟩
def A.SCP_ROUTE_CMD : Nat := 0x170038
def R.SCP_ROUTE_CMD.commit : Fld := ⟨A.SCP_ROUTE_CMD, 0, 1⟩
def R.SCP_ROUTE_CMD.cancel : Fld := ⟨A.SCP_ROUTE_CMD, 1, 1⟩
def R.SCP_ROUTE_CMD.pending : Fld := ⟨A.SCP_ROUTE_CMD, 2, 1⟩
def R.SCP_ROUTE_CMD.route_err : Fld := ⟨A.SCP_ROUTE_CMD, 3, 1⟩
def R.SCP_ROUTE_CMD.bank : Fld := ⟨A.SCP_ROUTE_CMD, 4, 1⟩
def A.SCP_ROUTE_AT : Nat := 0x170040
def R.SCP_ROUTE_AT.at_transit : Fld := ⟨A.SCP_ROUTE_AT, 0, 64⟩
def A.SCP_RATE : Nat := 0x170048
def R.SCP_RATE.rate_gbs : Fld := ⟨A.SCP_RATE, 0, 16⟩
def R.SCP_RATE.burst_kib : Fld := ⟨A.SCP_RATE, 16, 16⟩
def R.SCP_RATE.pol_thr : Fld := ⟨A.SCP_RATE, 32, 16⟩
def R.SCP_RATE.police_en : Fld := ⟨A.SCP_RATE, 48, 1⟩
def A.SCP_BLOCK (i : Nat) : Nat := 0x170050 + 0x8 * i
def R.SCP_BLOCK.blocked (i : Nat) : Fld := ⟨A.SCP_BLOCK i, 0, 64⟩
def A.SCP_EXT_ROUTE (i : Nat) : Nat := 0x170080 + 0x8 * i
def R.SCP_EXT_ROUTE.rack (i : Nat) : Fld := ⟨A.SCP_EXT_ROUTE i, 0, 16⟩
def R.SCP_EXT_ROUTE.gateway_ldn (i : Nat) : Fld := ⟨A.SCP_EXT_ROUTE i, 16, 8⟩
def R.SCP_EXT_ROUTE.port (i : Nat) : Fld := ⟨A.SCP_EXT_ROUTE i, 24, 6⟩
def R.SCP_EXT_ROUTE.valid (i : Nat) : Fld := ⟨A.SCP_EXT_ROUTE i, 30, 1⟩
def A.RMM_CTL : Nat := 0x140000
def R.RMM_CTL.twilight_enter : Fld := ⟨A.RMM_CTL, 0, 1⟩
def A.RMM_STATUS : Nat := 0x140008
def R.RMM_STATUS.twilight : Fld := ⟨A.RMM_STATUS, 0, 1⟩
def R.RMM_STATUS.keys_installed : Fld := ⟨A.RMM_STATUS, 1, 1⟩
def R.RMM_STATUS.commit_pending : Fld := ⟨A.RMM_STATUS, 2, 1⟩
def R.RMM_STATUS.commit_err : Fld := ⟨A.RMM_STATUS, 3, 1⟩
def A.RMM_KEY_CMD : Nat := 0x140010
def R.RMM_KEY_CMD.commit : Fld := ⟨A.RMM_KEY_CMD, 0, 1⟩
def R.RMM_KEY_CMD.cancel : Fld := ⟨A.RMM_KEY_CMD, 1, 1⟩
def A.RMM_KEY_AT : Nat := 0x140018
def R.RMM_KEY_AT.at_transit : Fld := ⟨A.RMM_KEY_AT, 0, 64⟩
def A.RMM_OKT_ADDR : Nat := 0x140020
def R.RMM_OKT_ADDR.ldn : Fld := ⟨A.RMM_OKT_ADDR, 0, 8⟩
def R.RMM_OKT_ADDR.desc : Fld := ⟨A.RMM_OKT_ADDR, 8, 12⟩
def A.RMM_OKT_DATA0 : Nat := 0x140028
def R.RMM_OKT_DATA0.lo : Fld := ⟨A.RMM_OKT_DATA0, 0, 64⟩
def A.RMM_OKT_DATA1 : Nat := 0x140030
def R.RMM_OKT_DATA1.hi : Fld := ⟨A.RMM_OKT_DATA1, 0, 64⟩
def A.RMM_FAULT_CNT : Nat := 0x140038
def R.RMM_FAULT_CNT.dead_target : Fld := ⟨A.RMM_FAULT_CNT, 0, 16⟩
def R.RMM_FAULT_CNT.timeouts : Fld := ⟨A.RMM_FAULT_CNT, 16, 16⟩
def R.RMM_FAULT_CNT.key_faults : Fld := ⟨A.RMM_FAULT_CNT, 32, 16⟩
def R.RMM_FAULT_CNT.late_responses : Fld := ⟨A.RMM_FAULT_CNT, 48, 16⟩
def A.RMM_HOME_STATUS (m : Nat) : Nat := 0x140100 + 0x10 * m
def R.RMM_HOME_STATUS.table_used (m : Nat) : Fld := ⟨A.RMM_HOME_STATUS m, 0, 13⟩
def R.RMM_HOME_STATUS.ewt_unpublished (m : Nat) : Fld := ⟨A.RMM_HOME_STATUS m, 16, 17⟩
def R.RMM_HOME_STATUS.ewt_published (m : Nat) : Fld := ⟨A.RMM_HOME_STATUS m, 33, 17⟩
def A.RMM_HOME_CNT (m : Nat) : Nat := 0x140108 + 0x10 * m
def R.RMM_HOME_CNT.pool_empty_us (m : Nat) : Fld := ⟨A.RMM_HOME_CNT m, 0, 32⟩
def R.RMM_HOME_CNT.ewt_full_us (m : Nat) : Fld := ⟨A.RMM_HOME_CNT m, 32, 32⟩
def A.RMM_APT (w : Nat) : Nat := 0x140800 + 0x8 * w
def R.RMM_APT.valid (w : Nat) : Fld := ⟨A.RMM_APT w, 0, 1⟩
def R.RMM_APT.partition (w : Nat) : Fld := ⟨A.RMM_APT w, 1, 4⟩
def R.RMM_APT.base_512g (w : Nat) : Fld := ⟨A.RMM_APT w, 5, 17⟩
def R.RMM_APT.ldn (w : Nat) : Fld := ⟨A.RMM_APT w, 22, 8⟩
def A.RMM_RGN_CFG (d : Nat) : Nat := 0x148000 + 0x20 * d
def R.RMM_RGN_CFG.enable (d : Nat) : Fld := ⟨A.RMM_RGN_CFG d, 0, 1⟩
def R.RMM_RGN_CFG.cls (d : Nat) : Fld := ⟨A.RMM_RGN_CFG d, 1, 1⟩
def R.RMM_RGN_CFG.backing (d : Nat) : Fld := ⟨A.RMM_RGN_CFG d, 2, 2⟩
def R.RMM_RGN_CFG.interleave (d : Nat) : Fld := ⟨A.RMM_RGN_CFG d, 4, 3⟩
def R.RMM_RGN_CFG.rgn_err (d : Nat) : Fld := ⟨A.RMM_RGN_CFG d, 7, 1⟩
def R.RMM_RGN_CFG.partition (d : Nat) : Fld := ⟨A.RMM_RGN_CFG d, 8, 4⟩
def R.RMM_RGN_CFG.next_valid (d : Nat) : Fld := ⟨A.RMM_RGN_CFG d, 12, 1⟩
def R.RMM_RGN_CFG.timeout_us (d : Nat) : Fld := ⟨A.RMM_RGN_CFG d, 16, 9⟩
def A.RMM_RGN_BASE (d : Nat) : Nat := 0x148008 + 0x20 * d
def R.RMM_RGN_BASE.base_2m (d : Nat) : Fld := ⟨A.RMM_RGN_BASE d, 0, 27⟩
def R.RMM_RGN_BASE.size_2m (d : Nat) : Fld := ⟨A.RMM_RGN_BASE d, 32, 18⟩
def A.RMM_RGN_KEY (d : Nat) : Nat := 0x148010 + 0x20 * d
def R.RMM_RGN_KEY.key (d : Nat) : Fld := ⟨A.RMM_RGN_KEY d, 0, 32⟩
def R.RMM_RGN_KEY.key_next (d : Nat) : Fld := ⟨A.RMM_RGN_KEY d, 32, 32⟩
def A.RMM_RGN_CNT (d : Nat) : Nat := 0x148018 + 0x20 * d
def R.RMM_RGN_CNT.key_faults (d : Nat) : Fld := ⟨A.RMM_RGN_CNT d, 0, 32⟩
def R.RMM_RGN_CNT.accesses (d : Nat) : Fld := ⟨A.RMM_RGN_CNT d, 32, 32⟩
def A.COL_CTL : Nat := 0x180000
def R.COL_CTL.cross_us : Fld := ⟨A.COL_CTL, 0, 20⟩
def R.COL_CTL.dead_us : Fld := ⟨A.COL_CTL, 20, 9⟩
def A.COL_STATUS : Nat := 0x180008
def R.COL_STATUS.commit_pending : Fld := ⟨A.COL_STATUS, 0, 1⟩
def R.COL_STATUS.commit_err : Fld := ⟨A.COL_STATUS, 1, 1⟩
def A.COL_CMD : Nat := 0x180010
def R.COL_CMD.commit : Fld := ⟨A.COL_CMD, 0, 1⟩
def R.COL_CMD.cancel : Fld := ⟨A.COL_CMD, 1, 1⟩
def A.COL_AT : Nat := 0x180018
def R.COL_AT.at_transit : Fld := ⟨A.COL_AT, 0, 64⟩
def A.COL_DARK : Nat := 0x180020
def R.COL_DARK.ldn : Fld := ⟨A.COL_DARK, 0, 8⟩
def R.COL_DARK.declare : Fld := ⟨A.COL_DARK, 8, 1⟩
def A.COL_CNT0 : Nat := 0x180028
def R.COL_CNT0.crossings : Fld := ⟨A.COL_CNT0, 0, 16⟩
def R.COL_CNT0.stale : Fld := ⟨A.COL_CNT0, 16, 16⟩
def R.COL_CNT0.resends : Fld := ⟨A.COL_CNT0, 32, 16⟩
def R.COL_CNT0.park_full : Fld := ⟨A.COL_CNT0, 48, 16⟩
def A.COL_CNT1 : Nat := 0x180030
def R.COL_CNT1.tomb_lost : Fld := ⟨A.COL_CNT1, 0, 16⟩
def R.COL_CNT1.late_lost : Fld := ⟨A.COL_CNT1, 16, 16⟩
def A.COL_CST_CFG (i : Nat) : Nat := 0x181000 + 0x20 * i
def R.COL_CST_CFG.valid (i : Nat) : Fld := ⟨A.COL_CST_CFG i, 0, 1⟩
def R.COL_CST_CFG.partition (i : Nat) : Fld := ⟨A.COL_CST_CFG i, 1, 4⟩
def R.COL_CST_CFG.member_base (i : Nat) : Fld := ⟨A.COL_CST_CFG i, 8, 14⟩
def R.COL_CST_CFG.member_count (i : Nat) : Fld := ⟨A.COL_CST_CFG i, 22, 8⟩
def R.COL_CST_CFG.self_index (i : Nat) : Fld := ⟨A.COL_CST_CFG i, 32, 8⟩
def R.COL_CST_CFG.live_count (i : Nat) : Fld := ⟨A.COL_CST_CFG i, 40, 8⟩
def R.COL_CST_CFG.epoch (i : Nat) : Fld := ⟨A.COL_CST_CFG i, 48, 16⟩
def A.COL_CST_NEXT (i : Nat) : Nat := 0x181008 + 0x20 * i
def R.COL_CST_NEXT.next_valid (i : Nat) : Fld := ⟨A.COL_CST_NEXT i, 0, 1⟩
def R.COL_CST_NEXT.change (i : Nat) : Fld := ⟨A.COL_CST_NEXT i, 1, 1⟩
def R.COL_CST_NEXT.partition (i : Nat) : Fld := ⟨A.COL_CST_NEXT i, 2, 4⟩
def R.COL_CST_NEXT.member_base (i : Nat) : Fld := ⟨A.COL_CST_NEXT i, 8, 14⟩
def R.COL_CST_NEXT.member_count (i : Nat) : Fld := ⟨A.COL_CST_NEXT i, 22, 8⟩
def A.COL_CST_STATUS (i : Nat) : Nat := 0x181010 + 0x20 * i
def R.COL_CST_STATUS.posted (i : Nat) : Fld := ⟨A.COL_CST_STATUS i, 0, 16⟩
def R.COL_CST_STATUS.parked (i : Nat) : Fld := ⟨A.COL_CST_STATUS i, 16, 16⟩
def R.COL_CST_STATUS.shrink_aborts (i : Nat) : Fld := ⟨A.COL_CST_STATUS i, 32, 32⟩
def A.COL_MEMBER (j : Nat) : Nat := 0x1A0000 + 0x8 * j
def R.COL_MEMBER.ldn (j : Nat) : Fld := ⟨A.COL_MEMBER j, 0, 8⟩
def R.COL_MEMBER.partition (j : Nat) : Fld := ⟨A.COL_MEMBER j, 8, 4⟩
def R.COL_MEMBER.dark (j : Nat) : Fld := ⟨A.COL_MEMBER j, 12, 1⟩
def A.BCN_SEL : Nat := 0x1C0000
def R.BCN_SEL.beacon : Fld := ⟨A.BCN_SEL, 0, 14⟩
def A.BCN_CFG : Nat := 0x1C0008
def R.BCN_CFG.mode : Fld := ⟨A.BCN_CFG, 0, 2⟩
def R.BCN_CFG.assigned : Fld := ⟨A.BCN_CFG, 2, 1⟩
def R.BCN_CFG.partition : Fld := ⟨A.BCN_CFG, 3, 4⟩
def R.BCN_CFG.one_tenant : Fld := ⟨A.BCN_CFG, 7, 1⟩
def R.BCN_CFG.tenant : Fld := ⟨A.BCN_CFG, 8, 12⟩
def R.BCN_CFG.vector : Fld := ⟨A.BCN_CFG, 20, 3⟩
def R.BCN_CFG.armed : Fld := ⟨A.BCN_CFG, 23, 1⟩
def A.BCN_VALUE : Nat := 0x1C0010
def R.BCN_VALUE.value : Fld := ⟨A.BCN_VALUE, 0, 64⟩
def A.BCN_AUX : Nat := 0x1C0018
def R.BCN_AUX.target : Fld := ⟨A.BCN_AUX, 0, 32⟩
def R.BCN_AUX.waiters : Fld := ⟨A.BCN_AUX, 32, 17⟩
def A.BCN_ORPHAN : Nat := 0x1C0020
def R.BCN_ORPHAN.ldn : Fld := ⟨A.BCN_ORPHAN, 0, 8⟩
def R.BCN_ORPHAN.orphan_ldn : Fld := ⟨A.BCN_ORPHAN, 8, 1⟩
def A.BCN_STATUS : Nat := 0x1C0028
def R.BCN_STATUS.table_used : Fld := ⟨A.BCN_STATUS, 0, 17⟩
def R.BCN_STATUS.scan_busy : Fld := ⟨A.BCN_STATUS, 17, 1⟩
def A.BCN_CNT : Nat := 0x1C0030
def R.BCN_CNT.wait_full : Fld := ⟨A.BCN_CNT, 0, 32⟩
def R.BCN_CNT.bad_ops : Fld := ⟨A.BCN_CNT, 32, 32⟩
def A.GDM_CH_CTL (n : Nat) : Nat := 0x200000 + 0x800 * n
def R.GDM_CH_CTL.refresh_mode (n : Nat) : Fld := ⟨A.GDM_CH_CTL n, 0, 1⟩
def R.GDM_CH_CTL.retrain (n : Nat) : Fld := ⟨A.GDM_CH_CTL n, 1, 1⟩
def R.GDM_CH_CTL.wr_hi_mark (n : Nat) : Fld := ⟨A.GDM_CH_CTL n, 8, 6⟩
def R.GDM_CH_CTL.batch_max (n : Nat) : Fld := ⟨A.GDM_CH_CTL n, 16, 6⟩
def R.GDM_CH_CTL.crc_retrain_thr (n : Nat) : Fld := ⟨A.GDM_CH_CTL n, 24, 8⟩
def A.GDM_CH_STATUS (n : Nat) : Nat := 0x200008 + 0x800 * n
def R.GDM_CH_STATUS.state (n : Nat) : Fld := ⟨A.GDM_CH_STATUS n, 0, 3⟩
def R.GDM_CH_STATUS.devices (n : Nat) : Fld := ⟨A.GDM_CH_STATUS n, 3, 2⟩
def R.GDM_CH_STATUS.density (n : Nat) : Fld := ⟨A.GDM_CH_STATUS n, 5, 1⟩
def R.GDM_CH_STATUS.rate (n : Nat) : Fld := ⟨A.GDM_CH_STATUS n, 6, 2⟩
def R.GDM_CH_STATUS.hot (n : Nat) : Fld := ⟨A.GDM_CH_STATUS n, 8, 1⟩
def R.GDM_CH_STATUS.dev_hot (n : Nat) : Fld := ⟨A.GDM_CH_STATUS n, 9, 1⟩
def R.GDM_CH_STATUS.partition (n : Nat) : Fld := ⟨A.GDM_CH_STATUS n, 16, 4⟩
def R.GDM_CH_STATUS.owned (n : Nat) : Fld := ⟨A.GDM_CH_STATUS n, 20, 1⟩
def R.GDM_CH_STATUS.usable_mib (n : Nat) : Fld := ⟨A.GDM_CH_STATUS n, 32, 13⟩
def A.GDM_CH_RD_BYTES (n : Nat) : Nat := 0x200010 + 0x800 * n
def R.GDM_CH_RD_BYTES.rd_bytes (n : Nat) : Fld := ⟨A.GDM_CH_RD_BYTES n, 0, 64⟩
def A.GDM_CH_WR_BYTES (n : Nat) : Nat := 0x200018 + 0x800 * n
def R.GDM_CH_WR_BYTES.wr_bytes (n : Nat) : Fld := ⟨A.GDM_CH_WR_BYTES n, 0, 64⟩
def A.GDM_CH_CRC (n : Nat) : Nat := 0x200020 + 0x800 * n
def R.GDM_CH_CRC.crc_retries (n : Nat) : Fld := ⟨A.GDM_CH_CRC n, 0, 32⟩
def R.GDM_CH_CRC.retrains (n : Nat) : Fld := ⟨A.GDM_CH_CRC n, 32, 16⟩
def A.GDM_CH_ECC (n : Nat) : Nat := 0x200028 + 0x800 * n
def R.GDM_CH_ECC.corrected (n : Nat) : Fld := ⟨A.GDM_CH_ECC n, 0, 32⟩
def R.GDM_CH_ECC.poisoned (n : Nat) : Fld := ⟨A.GDM_CH_ECC n, 32, 32⟩
def A.GDM_CH_TURN (n : Nat) : Nat := 0x200030 + 0x800 * n
def R.GDM_CH_TURN.rd_to_wr (n : Nat) : Fld := ⟨A.GDM_CH_TURN n, 0, 32⟩
def R.GDM_CH_TURN.wr_to_rd (n : Nat) : Fld := ⟨A.GDM_CH_TURN n, 32, 32⟩
def A.GDM_MAP_CTL (r : Nat) : Nat := 0x220000 + 0x20 * r
def R.GDM_MAP_CTL.enable (r : Nat) : Fld := ⟨A.GDM_MAP_CTL r, 0, 1⟩
def R.GDM_MAP_CTL.interleave (r : Nat) : Fld := ⟨A.GDM_MAP_CTL r, 1, 2⟩
def R.GDM_MAP_CTL.map_err (r : Nat) : Fld := ⟨A.GDM_MAP_CTL r, 3, 1⟩
def A.GDM_MAP_BASE (r : Nat) : Nat := 0x220008 + 0x20 * r
def R.GDM_MAP_BASE.base_2m (r : Nat) : Fld := ⟨A.GDM_MAP_BASE r, 0, 18⟩
def R.GDM_MAP_BASE.size_2m (r : Nat) : Fld := ⟨A.GDM_MAP_BASE r, 32, 18⟩
def A.GDM_MAP_CHAN (r : Nat) : Nat := 0x220010 + 0x20 * r
def R.GDM_MAP_CHAN.channel_mask (r : Nat) : Fld := ⟨A.GDM_MAP_CHAN r, 0, 64⟩
def A.GDM_MAP_CBASE (r : Nat) : Nat := 0x220018 + 0x20 * r
def R.GDM_MAP_CBASE.chan_base_2m (r : Nat) : Fld := ⟨A.GDM_MAP_CBASE r, 0, 12⟩
def A.LLM_CTL (s : Nat) : Nat := 0x300000 + 0x1000 * s
def R.LLM_CTL.writeback (s : Nat) : Fld := ⟨A.LLM_CTL s, 0, 1⟩
def A.LLM_STATUS (s : Nat) : Nat := 0x300008 + 0x1000 * s
def R.LLM_STATUS.cache_units (s : Nat) : Fld := ⟨A.LLM_STATUS s, 0, 8⟩
def R.LLM_STATUS.owned_units (s : Nat) : Fld := ⟨A.LLM_STATUS s, 8, 8⟩
def R.LLM_STATUS.wcb_used (s : Nat) : Fld := ⟨A.LLM_STATUS s, 16, 9⟩
def R.LLM_STATUS.wb_busy (s : Nat) : Fld := ⟨A.LLM_STATUS s, 25, 1⟩
def A.LLM_HITS (s : Nat) : Nat := 0x300010 + 0x1000 * s
def R.LLM_HITS.hits (s : Nat) : Fld := ⟨A.LLM_HITS s, 0, 64⟩
def A.LLM_MISSES (s : Nat) : Nat := 0x300018 + 0x1000 * s
def R.LLM_MISSES.misses (s : Nat) : Fld := ⟨A.LLM_MISSES s, 0, 64⟩
def A.LLM_WCB_CNT (s : Nat) : Nat := 0x300020 + 0x1000 * s
def R.LLM_WCB_CNT.drains (s : Nat) : Fld := ⟨A.LLM_WCB_CNT s, 0, 32⟩
def R.LLM_WCB_CNT.full_stalls (s : Nat) : Fld := ⟨A.LLM_WCB_CNT s, 32, 32⟩
def A.LLM_ECC_CNT (s : Nat) : Nat := 0x300028 + 0x1000 * s
def R.LLM_ECC_CNT.corrected (s : Nat) : Fld := ⟨A.LLM_ECC_CNT s, 0, 32⟩
def R.LLM_ECC_CNT.back_inval (s : Nat) : Fld := ⟨A.LLM_ECC_CNT s, 32, 32⟩
def A.SLV_CTL (n : Nat) : Nat := 0x400000 + 0x10000 * n
def R.SLV_CTL.abort (n : Nat) : Fld := ⟨A.SLV_CTL n, 0, 1⟩
def A.SLV_STATUS (n : Nat) : Nat := 0x400008 + 0x10000 * n
def R.SLV_STATUS.stop (n : Nat) : Fld := ⟨A.SLV_STATUS n, 0, 4⟩
def R.SLV_STATUS.pivot_boosted (n : Nat) : Fld := ⟨A.SLV_STATUS n, 4, 1⟩
def R.SLV_STATUS.invalid (n : Nat) : Fld := ⟨A.SLV_STATUS n, 5, 1⟩
def R.SLV_STATUS.overflow (n : Nat) : Fld := ⟨A.SLV_STATUS n, 6, 1⟩
def R.SLV_STATUS.recheck_twinkle (n : Nat) : Fld := ⟨A.SLV_STATUS n, 7, 1⟩
def R.SLV_STATUS.iterations (n : Nat) : Fld := ⟨A.SLV_STATUS n, 8, 25⟩
def R.SLV_STATUS.boost_count (n : Nat) : Fld := ⟨A.SLV_STATUS n, 40, 24⟩
def A.SLV_RES (n : Nat) : Nat := 0x400010 + 0x10000 * n
def R.SLV_RES.res (n : Nat) : Fld := ⟨A.SLV_RES n, 0, 64⟩
def A.SLV_BEST (n : Nat) : Nat := 0x400018 + 0x10000 * n
def R.SLV_BEST.best (n : Nat) : Fld := ⟨A.SLV_BEST n, 0, 64⟩
def A.SLV_DEADLINE (n : Nat) : Nat := 0x400020 + 0x10000 * n
def R.SLV_DEADLINE.deadline_ns (n : Nat) : Fld := ⟨A.SLV_DEADLINE n, 0, 64⟩
def A.SLV_RETURN_NS (n : Nat) : Nat := 0x400028 + 0x10000 * n
def R.SLV_RETURN_NS.return_ns (n : Nat) : Fld := ⟨A.SLV_RETURN_NS n, 0, 32⟩
def A.SLV_TAG (n : Nat) : Nat := 0x400030 + 0x10000 * n
def R.SLV_TAG.tag (n : Nat) : Fld := ⟨A.SLV_TAG n, 0, 16⟩
def R.SLV_TAG.vf (n : Nat) : Fld := ⟨A.SLV_TAG n, 16, 12⟩
def R.SLV_TAG.valid (n : Nat) : Fld := ⟨A.SLV_TAG n, 28, 1⟩
def A.SLV_BUSY_CYC (n : Nat) : Nat := 0x400038 + 0x10000 * n
def R.SLV_BUSY_CYC.busy_cycles (n : Nat) : Fld := ⟨A.SLV_BUSY_CYC n, 0, 64⟩
def A.SLV_PORT_BYTES (n : Nat) : Nat := 0x400040 + 0x10000 * n
def R.SLV_PORT_BYTES.port_bytes (n : Nat) : Fld := ⟨A.SLV_PORT_BYTES n, 0, 64⟩
def A.TC_ME_CTL (n : Nat) : Nat := 0x800000 + 0x4000 * n
def R.TC_ME_CTL.gate_en (n : Nat) : Fld := ⟨A.TC_ME_CTL n, 0, 1⟩
def R.TC_ME_CTL.skip (n : Nat) : Fld := ⟨A.TC_ME_CTL n, 1, 1⟩
def R.TC_ME_CTL.flush (n : Nat) : Fld := ⟨A.TC_ME_CTL n, 2, 1⟩
def A.TC_ME_STATUS (n : Nat) : Nat := 0x800008 + 0x4000 * n
def R.TC_ME_STATUS.mode (n : Nat) : Fld := ⟨A.TC_ME_STATUS n, 0, 2⟩
def R.TC_ME_STATUS.busy (n : Nat) : Fld := ⟨A.TC_ME_STATUS n, 2, 1⟩
def R.TC_ME_STATUS.halted (n : Nat) : Fld := ⟨A.TC_ME_STATUS n, 3, 1⟩
def R.TC_ME_STATUS.shadow_valid (n : Nat) : Fld := ⟨A.TC_ME_STATUS n, 4, 1⟩
def R.TC_ME_STATUS.active_valid (n : Nat) : Fld := ⟨A.TC_ME_STATUS n, 5, 1⟩
def R.TC_ME_STATUS.af_nonempty (n : Nat) : Fld := ⟨A.TC_ME_STATUS n, 6, 1⟩
def R.TC_ME_STATUS.wide_tile (n : Nat) : Fld := ⟨A.TC_ME_STATUS n, 7, 1⟩
def R.TC_ME_STATUS.queue_depth (n : Nat) : Fld := ⟨A.TC_ME_STATUS n, 8, 6⟩
def R.TC_ME_STATUS.width_presented (n : Nat) : Fld := ⟨A.TC_ME_STATUS n, 16, 7⟩
def R.TC_ME_STATUS.width_physical (n : Nat) : Fld := ⟨A.TC_ME_STATUS n, 24, 7⟩
def R.TC_ME_STATUS.out_scale (n : Nat) : Fld := ⟨A.TC_ME_STATUS n, 32, 8⟩
def A.TC_ME_COLS (n : Nat) : Nat := 0x800010 + 0x4000 * n
def R.TC_ME_COLS.in_use (n : Nat) : Fld := ⟨A.TC_ME_COLS n, 0, 64⟩
def A.TC_ME_FUSED (n : Nat) : Nat := 0x800018 + 0x4000 * n
def R.TC_ME_FUSED.fused (n : Nat) : Fld := ⟨A.TC_ME_FUSED n, 0, 64⟩
def A.TC_ME_ERR (n : Nat) : Nat := 0x800020 + 0x4000 * n
def R.TC_ME_ERR.refused (n : Nat) : Fld := ⟨A.TC_ME_ERR n, 0, 1⟩
def R.TC_ME_ERR.code (n : Nat) : Fld := ⟨A.TC_ME_ERR n, 8, 8⟩
def R.TC_ME_ERR.opcode (n : Nat) : Fld := ⟨A.TC_ME_ERR n, 16, 8⟩
def A.TC_ME_STREAM_CYC (n : Nat) : Nat := 0x800028 + 0x4000 * n
def R.TC_ME_STREAM_CYC.stream_cycles (n : Nat) : Fld := ⟨A.TC_ME_STREAM_CYC n, 0, 64⟩
def A.TC_ME_STALL_CYC (n : Nat) : Nat := 0x800030 + 0x4000 * n
def R.TC_ME_STALL_CYC.stall_cycles (n : Nat) : Fld := ⟨A.TC_ME_STALL_CYC n, 0, 64⟩
def A.TC_VE_CTL (n : Nat) : Nat := 0x800100 + 0x4000 * n
def R.TC_VE_CTL.skip (n : Nat) : Fld := ⟨A.TC_VE_CTL n, 0, 1⟩
def R.TC_VE_CTL.flush (n : Nat) : Fld := ⟨A.TC_VE_CTL n, 1, 1⟩
def A.TC_VE_STATUS (n : Nat) : Nat := 0x800108 + 0x4000 * n
def R.TC_VE_STATUS.busy (n : Nat) : Fld := ⟨A.TC_VE_STATUS n, 0, 1⟩
def R.TC_VE_STATUS.halted (n : Nat) : Fld := ⟨A.TC_VE_STATUS n, 1, 1⟩
def R.TC_VE_STATUS.recv_wait (n : Nat) : Fld := ⟨A.TC_VE_STATUS n, 2, 1⟩
def R.TC_VE_STATUS.mirror_active (n : Nat) : Fld := ⟨A.TC_VE_STATUS n, 3, 1⟩
def R.TC_VE_STATUS.slot_nonempty (n : Nat) : Fld := ⟨A.TC_VE_STATUS n, 4, 4⟩
def R.TC_VE_STATUS.queue_depth (n : Nat) : Fld := ⟨A.TC_VE_STATUS n, 8, 6⟩
def R.TC_VE_STATUS.halt_code (n : Nat) : Fld := ⟨A.TC_VE_STATUS n, 16, 8⟩
def A.TC_VE_ACTIVE_CYC (n : Nat) : Nat := 0x800110 + 0x4000 * n
def R.TC_VE_ACTIVE_CYC.active_cycles (n : Nat) : Fld := ⟨A.TC_VE_ACTIVE_CYC n, 0, 64⟩
def A.TC_VE_STALL_CYC (n : Nat) : Nat := 0x800118 + 0x4000 * n
def R.TC_VE_STALL_CYC.stall_cycles (n : Nat) : Fld := ⟨A.TC_VE_STALL_CYC n, 0, 64⟩
def A.TC_FE_CTL (n : Nat) : Nat := 0x800200 + 0x4000 * n
def R.TC_FE_CTL.skip (n : Nat) : Fld := ⟨A.TC_FE_CTL n, 0, 1⟩
def R.TC_FE_CTL.flush (n : Nat) : Fld := ⟨A.TC_FE_CTL n, 1, 1⟩
def A.TC_FE_STATUS (n : Nat) : Nat := 0x800208 + 0x4000 * n
def R.TC_FE_STATUS.busy (n : Nat) : Fld := ⟨A.TC_FE_STATUS n, 0, 1⟩
def R.TC_FE_STATUS.halted (n : Nat) : Fld := ⟨A.TC_FE_STATUS n, 1, 1⟩
def R.TC_FE_STATUS.in_flight (n : Nat) : Fld := ⟨A.TC_FE_STATUS n, 2, 5⟩
def R.TC_FE_STATUS.queue_depth (n : Nat) : Fld := ⟨A.TC_FE_STATUS n, 7, 6⟩
def R.TC_FE_STATUS.committed (n : Nat) : Fld := ⟨A.TC_FE_STATUS n, 32, 32⟩
def A.TC_FE_ERR (n : Nat) : Nat := 0x800210 + 0x4000 * n
def R.TC_FE_ERR.valid (n : Nat) : Fld := ⟨A.TC_FE_ERR n, 0, 1⟩
def R.TC_FE_ERR.code (n : Nat) : Fld := ⟨A.TC_FE_ERR n, 1, 3⟩
def R.TC_FE_ERR.landed_mask (n : Nat) : Fld := ⟨A.TC_FE_ERR n, 16, 16⟩
def R.TC_FE_ERR.first_bad (n : Nat) : Fld := ⟨A.TC_FE_ERR n, 32, 13⟩
def A.TC_SP_CTL (n : Nat) : Nat := 0x800300 + 0x4000 * n
def R.TC_SP_CTL.compat (n : Nat) : Fld := ⟨A.TC_SP_CTL n, 0, 1⟩
def A.TC_SP_STATUS (n : Nat) : Nat := 0x800308 + 0x4000 * n
def R.TC_SP_STATUS.mode_err (n : Nat) : Fld := ⟨A.TC_SP_STATUS n, 0, 1⟩
def R.TC_SP_STATUS.busy_a (n : Nat) : Fld := ⟨A.TC_SP_STATUS n, 1, 1⟩
def R.TC_SP_STATUS.busy_count (n : Nat) : Fld := ⟨A.TC_SP_STATUS n, 16, 16⟩
def R.TC_SP_STATUS.ecc_corrected (n : Nat) : Fld := ⟨A.TC_SP_STATUS n, 32, 16⟩
def R.TC_SP_STATUS.ecc_poisoned (n : Nat) : Fld := ⟨A.TC_SP_STATUS n, 48, 16⟩
def A.TC_CC_STATUS (n : Nat) : Nat := 0x800400 + 0x4000 * n
def R.TC_CC_STATUS.state (n : Nat) : Fld := ⟨A.TC_CC_STATUS n, 0, 3⟩
def R.TC_CC_STATUS.cause (n : Nat) : Fld := ⟨A.TC_CC_STATUS n, 8, 8⟩
def A.TC_CC_PC (n : Nat) : Nat := 0x800408 + 0x4000 * n
def R.TC_CC_PC.pc (n : Nat) : Fld := ⟨A.TC_CC_PC n, 0, 64⟩
def A.TC_PX_CTL (n : Nat) : Nat := 0x803D00 + 0x4000 * n
def R.TC_PX_CTL.mirror_en (n : Nat) : Fld := ⟨A.TC_PX_CTL n, 0, 1⟩
def R.TC_PX_CTL.replay_off (n : Nat) : Fld := ⟨A.TC_PX_CTL n, 1, 1⟩
def R.TC_PX_CTL.inject (n : Nat) : Fld := ⟨A.TC_PX_CTL n, 2, 1⟩
def R.TC_PX_CTL.inject_persist (n : Nat) : Fld := ⟨A.TC_PX_CTL n, 3, 1⟩
def R.TC_PX_CTL.inject_col (n : Nat) : Fld := ⟨A.TC_PX_CTL n, 8, 6⟩
def A.TC_PX_CNT (n : Nat) : Nat := 0x803D08 + 0x4000 * n
def R.TC_PX_CNT.me_twinkles (n : Nat) : Fld := ⟨A.TC_PX_CNT n, 0, 16⟩
def R.TC_PX_CNT.me_retired (n : Nat) : Fld := ⟨A.TC_PX_CNT n, 16, 16⟩
def R.TC_PX_CNT.check_fails (n : Nat) : Fld := ⟨A.TC_PX_CNT n, 32, 16⟩
def R.TC_PX_CNT.ve_twinkles (n : Nat) : Fld := ⟨A.TC_PX_CNT n, 48, 16⟩
def A.TC_PX_FAIL (n : Nat) : Nat := 0x803D10 + 0x4000 * n
def R.TC_PX_FAIL.valid (n : Nat) : Fld := ⟨A.TC_PX_FAIL n, 0, 1⟩
def R.TC_PX_FAIL.check (n : Nat) : Fld := ⟨A.TC_PX_FAIL n, 1, 3⟩
def R.TC_PX_FAIL.column (n : Nat) : Fld := ⟨A.TC_PX_FAIL n, 8, 6⟩
def R.TC_PX_FAIL.col_valid (n : Nat) : Fld := ⟨A.TC_PX_FAIL n, 14, 1⟩
def R.TC_PX_FAIL.index (n : Nat) : Fld := ⟨A.TC_PX_FAIL n, 16, 10⟩
def R.TC_PX_FAIL.dst (n : Nat) : Fld := ⟨A.TC_PX_FAIL n, 32, 22⟩
def R.TC_PX_FAIL.dst_valid (n : Nat) : Fld := ⟨A.TC_PX_FAIL n, 54, 1⟩
def A.TC_PX_RETIRED (n : Nat) : Nat := 0x803D18 + 0x4000 * n
def R.TC_PX_RETIRED.retired (n : Nat) : Fld := ⟨A.TC_PX_RETIRED n, 0, 64⟩
def A.TC_NUM_FLAGS (n : Nat) : Nat := 0x803E00 + 0x4000 * n
def R.TC_NUM_FLAGS.me_invalid (n : Nat) : Fld := ⟨A.TC_NUM_FLAGS n, 0, 1⟩
def R.TC_NUM_FLAGS.me_divzero (n : Nat) : Fld := ⟨A.TC_NUM_FLAGS n, 1, 1⟩
def R.TC_NUM_FLAGS.me_overflow (n : Nat) : Fld := ⟨A.TC_NUM_FLAGS n, 2, 1⟩
def R.TC_NUM_FLAGS.me_underflow (n : Nat) : Fld := ⟨A.TC_NUM_FLAGS n, 3, 1⟩
def R.TC_NUM_FLAGS.me_inexact (n : Nat) : Fld := ⟨A.TC_NUM_FLAGS n, 4, 1⟩
def R.TC_NUM_FLAGS.me_saturate (n : Nat) : Fld := ⟨A.TC_NUM_FLAGS n, 5, 1⟩
def R.TC_NUM_FLAGS.ve_invalid (n : Nat) : Fld := ⟨A.TC_NUM_FLAGS n, 8, 1⟩
def R.TC_NUM_FLAGS.ve_divzero (n : Nat) : Fld := ⟨A.TC_NUM_FLAGS n, 9, 1⟩
def R.TC_NUM_FLAGS.ve_overflow (n : Nat) : Fld := ⟨A.TC_NUM_FLAGS n, 10, 1⟩
def R.TC_NUM_FLAGS.ve_underflow (n : Nat) : Fld := ⟨A.TC_NUM_FLAGS n, 11, 1⟩
def R.TC_NUM_FLAGS.ve_inexact (n : Nat) : Fld := ⟨A.TC_NUM_FLAGS n, 12, 1⟩
def R.TC_NUM_FLAGS.ve_saturate (n : Nat) : Fld := ⟨A.TC_NUM_FLAGS n, 13, 1⟩
def R.TC_NUM_FLAGS.ve_flushed (n : Nat) : Fld := ⟨A.TC_NUM_FLAGS n, 14, 1⟩
def A.TC_NUM_SEED_LO (n : Nat) : Nat := 0x803E08 + 0x4000 * n
def R.TC_NUM_SEED_LO.seed_lo (n : Nat) : Fld := ⟨A.TC_NUM_SEED_LO n, 0, 64⟩
def A.TC_NUM_SEED_HI (n : Nat) : Nat := 0x803E10 + 0x4000 * n
def R.TC_NUM_SEED_HI.seed_hi (n : Nat) : Fld := ⟨A.TC_NUM_SEED_HI n, 0, 64⟩
def A.TC_NUM_SR_CTR (n : Nat) : Nat := 0x803E18 + 0x4000 * n
def R.TC_NUM_SR_CTR.sr_ctr (n : Nat) : Fld := ⟨A.TC_NUM_SR_CTR n, 0, 64⟩
def A.QRG_CTL : Nat := 0x1000000
def R.QRG_CTL.tenant_reserve : Fld := ⟨A.QRG_CTL, 0, 5⟩
def A.QRG_STATUS : Nat := 0x1000008
def R.QRG_STATUS.in_flight : Fld := ⟨A.QRG_STATUS, 0, 17⟩
def R.QRG_STATUS.pool_used : Fld := ⟨A.QRG_STATUS, 17, 17⟩
def A.QRG_RING_CFG (r : Nat) : Nat := 0x1100000 + 0x40 * r
def R.QRG_RING_CFG.enable (r : Nat) : Fld := ⟨A.QRG_RING_CFG r, 0, 1⟩
def R.QRG_RING_CFG.stop (r : Nat) : Fld := ⟨A.QRG_RING_CFG r, 1, 1⟩
def R.QRG_RING_CFG.space (r : Nat) : Fld := ⟨A.QRG_RING_CFG r, 2, 2⟩
def R.QRG_RING_CFG.depth_log2 (r : Nat) : Fld := ⟨A.QRG_RING_CFG r, 4, 5⟩
def R.QRG_RING_CFG.priority (r : Nat) : Fld := ⟨A.QRG_RING_CFG r, 9, 3⟩
def R.QRG_RING_CFG.irq_all (r : Nat) : Fld := ⟨A.QRG_RING_CFG r, 12, 1⟩
def R.QRG_RING_CFG.vector (r : Nat) : Fld := ⟨A.QRG_RING_CFG r, 13, 3⟩
def A.QRG_RING_SQ (r : Nat) : Nat := 0x1100008 + 0x40 * r
def R.QRG_RING_SQ.sq_base (r : Nat) : Fld := ⟨A.QRG_RING_SQ r, 0, 64⟩
def A.QRG_RING_CQ (r : Nat) : Nat := 0x1100010 + 0x40 * r
def R.QRG_RING_CQ.cq_base (r : Nat) : Fld := ⟨A.QRG_RING_CQ r, 0, 64⟩
def A.QRG_RING_IDX (r : Nat) : Nat := 0x1100018 + 0x40 * r
def R.QRG_RING_IDX.sq_head (r : Nat) : Fld := ⟨A.QRG_RING_IDX r, 0, 32⟩
def R.QRG_RING_IDX.cq_tail (r : Nat) : Fld := ⟨A.QRG_RING_IDX r, 32, 32⟩
def A.QRG_RING_HOST (r : Nat) : Nat := 0x1100020 + 0x40 * r
def R.QRG_RING_HOST.sq_tail (r : Nat) : Fld := ⟨A.QRG_RING_HOST r, 0, 32⟩
def R.QRG_RING_HOST.cq_head (r : Nat) : Fld := ⟨A.QRG_RING_HOST r, 32, 32⟩
def A.QRG_RING_STATUS (r : Nat) : Nat := 0x1100028 + 0x40 * r
def R.QRG_RING_STATUS.in_flight (r : Nat) : Fld := ⟨A.QRG_RING_STATUS r, 0, 17⟩
def R.QRG_RING_STATUS.err_code (r : Nat) : Fld := ⟨A.QRG_RING_STATUS r, 17, 3⟩
def R.QRG_RING_STATUS.err (r : Nat) : Fld := ⟨A.QRG_RING_STATUS r, 20, 1⟩

end Sys2Proof.Machine
end

