-- ==== Sys2Proof/Machine/Ops.lean ====
section
/-! DEFINITION. The named operations over State: reading and replacing one unit, memory bytes, free values, what
leaves the package, and the guard every meaning is written with. -/
namespace Sys2Proof.Machine

/-- What a meaning answers. -/
abbrev Res := Host.Outcome State Fault Refusal

/-- A command whose condition does not hold changes nothing (log 11). -/
def whenever (b : Bool) (t s : State) : Res := .next (if b then t else s)

/-- The clocks of the package's dies run: no Eclipse has frozen them, and they are not power-gated in NIGHT or SHUTDOWN
(R536, R542). -/
def State.clocked (s : State) : Bool := s.ecl.phase != 2 && !s.nwt.night

/-- T-core `k`. -/
def State.tcore (s : State) (k : Nat) : TCore := assocGet (fun _ => TCore.reset) s.tcores k
/-- Replace T-core `k`. -/
def State.setTcore (s : State) (k : Nat) (v : TCore) : State := { s with tcores := assocSet (fun _ => TCore.reset) s.tcores k v }

/-- P application core `k`. -/
def State.pcore (s : State) (k : Nat) : Jumbe := assocGet (fun _ => Jumbe.reset) s.pcores k
/-- Replace P application core `k`. -/
def State.setPcore (s : State) (k : Nat) (v : Jumbe) : State := { s with pcores := assocSet (fun _ => Jumbe.reset) s.pcores k v }

/-- Solver engine `k`. -/
def State.se (s : State) (k : Nat) : SeState := assocGet (fun _ => SeState.reset) s.ses k
/-- Replace solver engine `k`. -/
def State.setSe (s : State) (k : Nat) (v : SeState) : State := { s with ses := assocSet (fun _ => SeState.reset) s.ses k v }

/-- The assembly front stage of P-die `k`. -/
def State.front (s : State) (k : Nat) : Option Nat := assocGet (fun _ => none) s.fronts k
/-- Replace the assembly front stage of P-die `k`. -/
def State.setFront (s : State) (k : Nat) (v : Option Nat) : State := { s with fronts := assocSet (fun _ => none) s.fronts k v }

/-- The mesh link with key `k` (R487: lower die x 64 + higher die). -/
def State.meshLink (s : State) (k : Nat) : MeshLink := assocGet (fun _ => MeshLink.reset) s.mesh k
/-- Replace the mesh link with key `k` (R487: lower die x 64 + higher die). -/
def State.setMeshLink (s : State) (k : Nat) (v : MeshLink) : State := { s with mesh := assocSet (fun _ => MeshLink.reset) s.mesh k v }

/-- The droop state of die `k`. -/
def State.droopOf (s : State) (k : Nat) : Droop := assocGet (fun _ => Droop.reset) s.droop k
/-- Replace the droop state of die `k`. -/
def State.setDroopOf (s : State) (k : Nat) (v : Droop) : State := { s with droop := assocSet (fun _ => Droop.reset) s.droop k v }

/-- The directory entry of line `k`. -/
def State.dirLine (s : State) (k : Nat) : DirLine := assocGet (fun _ => DirLine.none) s.dir k
/-- Replace the directory entry of line `k`. -/
def State.setDirLine (s : State) (k : Nat) (v : DirLine) : State := { s with dir := assocSet (fun _ => DirLine.none) s.dir k v }

/-- The write-combining buffer of M-die `k`. -/
def State.wcbOf (s : State) (k : Nat) : List WcbEntry := assocGet (fun _ => []) s.wcb k
/-- Replace the write-combining buffer of M-die `k`. -/
def State.setWcbOf (s : State) (k : Nat) (v : List WcbEntry) : State := { s with wcb := assocSet (fun _ => []) s.wcb k v }

/-- Channel G`k`. -/
def State.chan (s : State) (k : Nat) : Channel := assocGet (fun _ => Channel.reset) s.chans k
/-- Replace channel G`k`. -/
def State.setChan (s : State) (k : Nat) (v : Channel) : State := { s with chans := assocSet (fun _ => Channel.reset) s.chans k v }

/-- The epoch write table of M-die `k`. -/
def State.ewtOf (s : State) (k : Nat) : List EpochEntry := assocGet (fun _ => []) s.ewt k
/-- Replace the epoch write table of M-die `k`. -/
def State.setEwtOf (s : State) (k : Nat) (v : List EpochEntry) : State := { s with ewt := assocSet (fun _ => []) s.ewt k v }

/-- The outbound-table entry with key LDN x 4,096 + descriptor. -/
def State.oktOf (s : State) (k : Nat) : BitVec 128 := assocGet (fun _ => 0) s.okt k
/-- Replace the outbound-table entry with key LDN x 4,096 + descriptor. -/
def State.setOktOf (s : State) (k : Nat) (v : BitVec 128) : State := { s with okt := assocSet (fun _ => 0) s.okt k v }

/-- The rack request with identifier `k`. -/
def State.req (s : State) (k : Nat) : Option RackOut := assocGet (fun _ => none) s.reqs k
/-- Replace the rack request with identifier `k`. -/
def State.setReq (s : State) (k : Nat) (v : Option RackOut) : State := { s with reqs := assocSet (fun _ => none) s.reqs k v }

/-- The link with key port x 4 + wavelength. -/
def State.link (s : State) (k : Nat) : Link := assocGet (fun _ => Link.reset) s.links k
/-- Replace the link with key port x 4 + wavelength. -/
def State.setLink (s : State) (k : Nat) (v : Link) : State := { s with links := assocSet (fun _ => Link.reset) s.links k v }

/-- The route of LDN `k` in a bank (key bank x 256 + LDN). -/
def State.route (s : State) (k : Nat) : BitVec 128 := assocGet (fun _ => 0) s.routes k
/-- Replace the route of LDN `k` in a bank (key bank x 256 + LDN). -/
def State.setRoute (s : State) (k : Nat) (v : BitVec 128) : State := { s with routes := assocSet (fun _ => 0) s.routes k v }

/-- The policing state of source LDN `k`. -/
def State.policeOf (s : State) (k : Nat) : Police := assocGet (fun _ => Police.reset) s.police k
/-- Replace the policing state of source LDN `k`. -/
def State.shapeOf (s : State) (k : Nat) : Bucket := assocGet (fun _ => Bucket.reset) s.shape k

def State.setShapeOf (s : State) (k : Nat) (v : Bucket) : State := { s with shape := assocSet (fun _ => Bucket.reset) s.shape k v }

def State.setPoliceOf (s : State) (k : Nat) (v : Police) : State := { s with police := assocSet (fun _ => Police.reset) s.police k v }

/-- The post entry with key cluster x 64 + entry. -/
def State.post (s : State) (k : Nat) : Post := assocGet (fun _ => Post.free) s.posts k
/-- Replace the post entry with key cluster x 64 + entry. -/
def State.setPost (s : State) (k : Nat) (v : Post) : State := { s with posts := assocSet (fun _ => Post.free) s.posts k v }

/-- The send slot with key cluster x 64 + slot. -/
def State.slot (s : State) (k : Nat) : SendSlot := assocGet (fun _ => SendSlot.free) s.slots k
/-- Replace the send slot with key cluster x 64 + slot. -/
def State.setSlot (s : State) (k : Nat) (v : SendSlot) : State := { s with slots := assocSet (fun _ => SendSlot.free) s.slots k v }

/-- Beacon B`k`. -/
def State.beacon (s : State) (k : Nat) : Beacon := assocGet (fun _ => Beacon.reset) s.beacons k
/-- Replace beacon B`k`. -/
def State.setBeacon (s : State) (k : Nat) (v : Beacon) : State := { s with beacons := assocSet (fun _ => Beacon.reset) s.beacons k v }

/-- The owner epoch of unit `k` (R431). -/
def State.ownerEpoch (s : State) (k : Nat) : Nat := assocGet (fun _ => 0) s.epochs k
/-- Replace the owner epoch of unit `k` (R431). -/
def State.setOwnerEpoch (s : State) (k : Nat) (v : Nat) : State := { s with epochs := assocSet (fun _ => 0) s.epochs k v }

/-- The ring operation in slot `k`. -/
def State.op (s : State) (k : Nat) : Option Op := assocGet (fun _ => none) s.ops k
/-- Replace the ring operation in slot `k`. -/
def State.setOp (s : State) (k : Nat) (v : Option Op) : State := { s with ops := assocSet (fun _ => none) s.ops k v }

/-- The MSI-X vector with key function x 4,096 + vector: (masked, pending). -/
def State.vec (s : State) (k : Nat) : Bool × Bool := assocGet (fun _ => (true, false)) s.msix k
/-- Replace the MSI-X vector with key function x 4,096 + vector: (masked, pending). -/
def State.setVec (s : State) (k : Nat) (v : Bool × Bool) : State := { s with msix := assocSet (fun _ => (true, false)) s.msix k v }

/-- The recorded poisoned words of scratchpad or staging buffer `k` (R281). -/
def State.recorded (s : State) (k : Nat) : List Nat := assocGet (fun _ => []) s.poisonRec k
/-- Replace the recorded poisoned words of scratchpad or staging buffer `k` (R281). -/
def State.setRecorded (s : State) (k : Nat) (v : List Nat) : State := { s with poisonRec := assocSet (fun _ => []) s.poisonRec k v }

/-! Bits and bytes. -/

/-- Bit `i` of a natural number. -/
def bit (n i : Nat) : Bool := n / 2 ^ i % 2 == 1

/-- Field [hi:lo] of a natural number, by lowest bit and width. -/
def fld (n lo width : Nat) : Nat := n / 2 ^ lo % 2 ^ width

/-- Set bits of a mask below `n`. -/
def bitsOf (n mask : Nat) : List Nat := (List.range n).filter (fun i => bit mask i)

/-- The mask with the listed bits set. -/
def maskOf (l : List Nat) : Nat := l.foldl (fun m i => m ||| 2 ^ i) 0

/-- Little-endian bytes of a natural number (R11). -/
def leBytes (n v : Nat) : List Byte :=
  match n with
  | 0 => []
  | n + 1 => BitVec.ofNat 8 (v % 256) :: leBytes n (v / 256)

/-- The natural number little-endian bytes spell. -/
def leNat (bs : List Byte) : Nat :=
  match bs with
  | [] => 0
  | b :: rest => b.toNat + 256 * leNat rest

/-- Bytes `off` to `off + n - 1` of a list as a number. -/
def leAt (bs : List Byte) (off n : Nat) : Nat := leNat ((bs.drop off).take n)

/-- Replace the bytes of `bs` from `off` by `v`, within its length. -/
def putBytes (bs : List Byte) (off : Nat) (v : List Byte) : List Byte :=
  (bs.take off ++ v ++ bs.drop (off + v.length)).take bs.length

/-- Replace element `i` of a list by a function of it. -/
def updateAt {α : Type} (l : List α) (i : Nat) (f : α → α) : List α :=
  match l, i with
  | [], _ => []
  | a :: rest, 0 => f a :: rest
  | a :: rest, i + 1 => a :: updateAt rest i f

/-- A word read as a signed number. -/
def sword (w : Word) : Int := w.toInt

/-- Insert into a strictly rising list of numbers. -/
def insertNat (l : List Nat) (n : Nat) : List Nat :=
  match l with
  | [] => [n]
  | a :: rest => if n < a then n :: a :: rest else if n = a then a :: rest else a :: insertNat rest n

/-- The largest of a list, 0 of none. -/
def maxOf (l : List Nat) : Nat := l.foldl Nat.max 0

/-! Memory. One list of (address, byte) holds every memory of the package and what the outside holds for it:
package physical addresses (R283), then one space of 2^64 for each function's host memory, above them the image
staging area. An unlisted byte reads as 0 (log 4). -/

/-- What an unlisted byte reads as (log 4). -/
def memDefault (_ : Nat) : Byte := 0

/-- The canonical form of memory: addresses strictly rising, no byte listed that an unlisted one reads as. -/
abbrev Memory.wf (m : List Host.Cell) : Bool := assocWf memDefault m

/-- One byte of memory. -/
def State.byte (s : State) (a : Nat) : Byte := assocGet memDefault s.mem a

/-- Bytes of memory from `a`. -/
def State.bytes (s : State) (a n : Nat) : List Byte := (List.range n).map (fun i => s.byte (a + i))

/-- Store bytes from address `a` on in a memory. -/
def Memory.store (m : List Host.Cell) (a : Nat) (bs : List Byte) : List Host.Cell :=
  match bs with
  | [] => m
  | b :: rest => Memory.store (assocSet memDefault m a b) (a + 1) rest

/-- Store bytes from address `a` on. -/
def State.write (s : State) (a : Nat) (bs : List Byte) : State := { s with mem := Memory.store s.mem a bs }

/-- Remove every byte of [a, a + n): those bytes read as 0. -/
def State.zero (s : State) (a n : Nat) : State :=
  { s with mem := s.mem.filter (fun c => !(decide (a ≤ c.1) && decide (c.1 < a + n))),
           poison := s.poison.filter (fun w => !(decide (a ≤ 8 * w) && decide (8 * w < a + n))),
           weak := s.weak.filter (fun w => !(decide (a ≤ 8 * w) && decide (8 * w < a + n))) }

/-- The word of 8 bytes at `a` (R283: little-endian). -/
def State.word (s : State) (a : Nat) : Word := BitVec.ofNat 64 (leNat (s.bytes a 8))

/-- The 256 KiB image staging area of the PRT block (R45). -/
def stagingBase : Nat := 5000 * 2 ^ 64

/-- Some 8 B word of [a, a + n) is poisoned (R281, R289, R302). -/
def State.poisonedIn (s : State) (a n : Nat) : Bool :=
  s.poison.any (fun w => decide (0 < n) && decide (a < 8 * w + 8) && decide (8 * w < a + n))

/-- Mark the 8 B word at `a` poisoned. -/
def State.setPoison (s : State) (a : Nat) : State := { s with poison := insertNat s.poison (a / 8) }

/-- A write of whole 8 B words ends their poison, and any single-bit error (R281). -/
def State.clearPoison (s : State) (a n : Nat) : State :=
  let whole := fun (w : Nat) => decide (a ≤ 8 * w) && decide (8 * w + 8 ≤ a + n)
  { s with poison := s.poison.filter (fun w => !whole w), weak := s.weak.filter (fun w => !whole w) }

/-! What leaves the package, free values. -/

/-- Record a message, interrupt or pin that others see. -/
def State.emit (s : State) (o : Out) : State := { s with out := o :: s.out }

/-- Count one free value as drawn. -/
def State.drawn (s : State) : State := { s with free := s.free + 1 }

/-! Engine queues, the T-cores. -/

/-- Change one T-core. -/
def State.onCore (s : State) (c : Nat) (f : TCore → TCore) : State := s.setTcore c (f (s.tcore c))

/-- Change the matrix engine of a T-core. -/
def State.onMe (s : State) (c : Nat) (f : MeState → MeState) : State :=
  s.setTcore c { s.tcore c with me := f (s.tcore c).me }

/-- Change the vector engine of a T-core. -/
def State.onVe (s : State) (c : Nat) (f : VeState → VeState) : State :=
  s.setTcore c { s.tcore c with ve := f (s.tcore c).ve }

/-- Change the fetch engine of a T-core. -/
def State.onFe (s : State) (c : Nat) (f : FeState → FeState) : State :=
  s.setTcore c { s.tcore c with fe := f (s.tcore c).fe }

/-- The Jumbe core of an identifier. -/
def State.jumbe (s : State) (u : CoreId) : Jumbe :=
  match u with
  | .tc n => (s.tcore n).cc
  | .pc n => s.pcore n

/-- Replace a Jumbe core. -/
def State.setJumbe (s : State) (u : CoreId) (j : Jumbe) : State :=
  match u with
  | .tc n => s.setTcore n { s.tcore n with cc := j }
  | .pc n => s.setPcore n j

/-- Change a Jumbe core. -/
def State.onJumbe (s : State) (u : CoreId) (f : Jumbe → Jumbe) : State := s.setJumbe u (f (s.jumbe u))

/-- The package has a core of that name (R6). -/
def coreExists (u : CoreId) : Bool :=
  match u with
  | .tc n => decide (n < 512)
  | .pc n => decide (n < 192)

end Sys2Proof.Machine
end

