-- ==== Sys2Proof/Machine/Digest.lean ====
section
/-! DEFINITION. Digests the spec names by their published standards: SHA-384 (R53, R59, R466), CRC-64/XZ of
R180, and CRC-32C of R401. -/
namespace Sys2Proof.Machine

/-- The first `n` primes from `c` on, by trial division, searching at most `fuel` numbers. -/
def primesFrom (fuel n c : Nat) : List Nat :=
  match fuel with
  | 0 => []
  | fuel + 1 =>
    if n = 0 then []
    else if (List.range 21).all (fun d => d < 2 || d == c || c % d != 0) then c :: primesFrom fuel (n - 1) (c + 1)
    else primesFrom fuel n (c + 1)

/-- The whole part of the `k`-th root of `x`, found bit by bit below bit `b`. -/
def wholeRoot (k x b r : Nat) : Nat :=
  match b with
  | 0 => r
  | b + 1 => wholeRoot k x b (if (r + 2 ^ b) ^ k ≤ x then r + 2 ^ b else r)

/-- First 64 bits of the fraction of the `k`-th root of `x`. -/
def rootFraction (k x : Nat) : Nat := wholeRoot k (x * 2 ^ (64 * k)) 69 0 % 2 ^ 64

/-- Round constants of SHA-384: the cube roots of the first 80 primes (PRESUMED, from the published standard: log 12). -/
def shaK : List Nat := (primesFrom 420 80 2).map (rootFraction 3)

/-- Initial hash value of SHA-384: the square roots of the ninth to sixteenth primes. -/
def shaH : List Nat := (primesFrom 60 8 23).map (rootFraction 2)

def rotr64 (x n : Nat) : Nat := (x / 2 ^ n ||| x * 2 ^ (64 - n)) % 2 ^ 64

/-- Extend the newest-first message schedule by `n` words. -/
def shaSchedule (n : Nat) (w : List Nat) : List Nat :=
  match n with
  | 0 => w
  | n + 1 =>
    let a := w.getD 14 0
    let b := w.getD 1 0
    let s0 := rotr64 a 1 ^^^ rotr64 a 8 ^^^ (a / 2 ^ 7)
    let s1 := rotr64 b 19 ^^^ rotr64 b 61 ^^^ (b / 2 ^ 6)
    shaSchedule n (((w.getD 15 0 + s0 + w.getD 6 0 + s1) % 2 ^ 64) :: w)

/-- The rounds of one block over paired constants and schedule words. -/
def shaRounds (kw : List (Nat × Nat)) (a b c d e f g h : Nat) : List Nat :=
  match kw with
  | [] => [a, b, c, d, e, f, g, h]
  | (k, w) :: rest =>
    let s1 := rotr64 e 14 ^^^ rotr64 e 18 ^^^ rotr64 e 41
    let ch := (e &&& f) ^^^ ((2 ^ 64 - 1 - e) &&& g)
    let t1 := (h + s1 + ch + k + w) % 2 ^ 64
    let s0 := rotr64 a 28 ^^^ rotr64 a 34 ^^^ rotr64 a 39
    let mj := (a &&& b) ^^^ (a &&& c) ^^^ (b &&& c)
    shaRounds rest ((t1 + s0 + mj) % 2 ^ 64) a b c ((d + t1) % 2 ^ 64) e f g

/-- A big-endian number of bytes. -/
def beNat (bs : List Byte) : Nat := bs.foldl (fun n b => 256 * n + b.toNat) 0

/-- One block of 128 bytes. -/
def shaBlock (h : List Nat) (bs : List Byte) : List Nat :=
  let w := (List.range 16).map (fun i => beNat ((bs.drop (8 * i)).take 8))
  let ws := (shaSchedule 64 w.reverse).reverse
  let r := shaRounds (shaK.zip ws) (h.getD 0 0) (h.getD 1 0) (h.getD 2 0) (h.getD 3 0) (h.getD 4 0) (h.getD 5 0)
    (h.getD 6 0) (h.getD 7 0)
  List.zipWith (fun x y => (x + y) % 2 ^ 64) h r

def shaBlocks (n : Nat) (h : List Nat) (bs : List Byte) : List Nat :=
  match n with
  | 0 => h
  | n + 1 => shaBlocks n (shaBlock h (bs.take 128)) (bs.drop 128)

/-- The message padded to whole blocks. -/
def shaPad (bs : List Byte) : List Byte :=
  let n := bs.length
  bs ++ [(0x80 : Byte)] ++ List.replicate ((239 - n % 128) % 128) 0 ++ (leBytes 16 (8 * n)).reverse

/-- SHA-384: 48 bytes. -/
def sha384 (bs : List Byte) : List Byte :=
  let p := shaPad bs
  ((shaBlocks (p.length / 128) shaH p).take 6).flatMap (fun x => (leBytes 8 x).reverse)

/-- One byte of a reflected CRC. -/
def crcBits (n poly c : Nat) : Nat :=
  match n with
  | 0 => c
  | n + 1 => crcBits n poly (if c % 2 = 1 then (c / 2) ^^^ poly else c / 2)

def crcStep (poly c : Nat) (b : Byte) : Nat := crcBits 8 poly (c ^^^ b.toNat)

/-- CRC-64 of R180 (reflected ECMA-182 polynomial, all ones in and out), from a running value. -/
def crc64From (c : Nat) (bs : List Byte) : Nat := bs.foldl (crcStep 0xC96C5795D7870F42) c

def crc64 (bs : List Byte) : Nat := crc64From (2 ^ 64 - 1) bs ^^^ (2 ^ 64 - 1)

/-- CRC-32C of R401. -/
def crc32c (bs : List Byte) : Nat := bs.foldl (crcStep 0x82F63B78) (2 ^ 32 - 1) ^^^ (2 ^ 32 - 1)

end Sys2Proof.Machine
end

