-- ==== Sys2Proof/Config.lean ====
section
/-! DEFINITION. The free values of the model: constants with no body, one for each value the spec leaves open.
Nothing can be proved about a value of theirs, so a claim holds whatever the hardware gives. -/
namespace Sys2Proof

/-- Nanoseconds by which a slew has moved rack time over an interval (R76 bounds it and says no more): draw
number. -/
opaque Config.slewNs : Nat → Nat

/-- Residence time in ns of a marker that a package forwards (R75 gives none): draw number. -/
opaque Config.residenceNs : Nat → Nat

/-- Partitions of a package whose DONE is missing that are not accounted done, as the master knows them (R90 does
not say from where): draw number, as a mask. -/
opaque Config.undone : Nat → Nat

/-- Per-code detail of a log entry where R486, R560 and R582 fix none: draw number. -/
opaque Config.logDetail : Nat → Nat

/-- Channels already in self-refresh when a fast trigger cuts an orderly Eclipse short (R544): draw number, as a mask
of the channels in service. -/
opaque Config.selfRefreshed : Nat → Nat

/-- Whether a line that a cache-mode unit held has been evicted by the time it is read again (R290 leaves the hash
and the replacement open): draw number. -/
opaque Config.evicted : Nat → Bool

/-- Page translation of a P application core (R213 names pages of 4 KiB and 2 MiB and gives no tables): draw number,
core, virtual 4 KiB page; the physical page, whether it may be written and whether it is uncached. -/
opaque Config.translate : Nat → Nat → Nat → Option (Nat × Bool × Bool)

/-- Address of the exception handler (R238 gives none): core, cause code. -/
opaque Config.handlerPc : Nat → Nat → BitVec 64

/-- Whether a right shift copies the sign bit (R197 and R216 name the shift only). -/
opaque Config.shiftSigned : Bool

/-- Result of a shift by the element width or more (R197, R216 leave it open): width, bits, count. -/
opaque Config.wideShift : Nat → Nat → Nat → Nat

/-- Which of the values within R201's bound a transcendental function gives: function, format, bits. -/
opaque Config.transcendental : Nat → Nat → Nat → Nat

/-- What a reduction slot reads as in which taps of two kinds have met (R204 gives no value): draw number. -/
opaque Config.mixedSlot : Nat → Nat

/-- What a Jumbe comparison writes for an element (R216 gives no encoding): result, element width. -/
opaque Config.compareBits : Bool → Nat → Nat

/-- Which source a Jumbe selection takes, from the old destination element (R216 gives no encoding): element width,
bits. -/
opaque Config.selects : Nat → Nat → Bool

/-- Quotient or square root of a Jumbe integer element (R216 names no result): operation, element width, operands. -/
opaque Config.integerQuotient : Nat → Nat → Nat → Nat → Nat

/-- The 32-bit hash of the fields that the members of a partitioned solve share (R264 names no function): their bytes. -/
opaque Config.solveHash : List Byte → BitVec 32

/-- Elements of an interrupted copy that were committed when a transit cut it off (R263): draw number. -/
opaque Config.committed : Nat → Nat

/-- Whether a waiting read is to an open row of its bank (R310; the spec gives no row geometry): draw number,
channel-local line. -/
opaque Config.rowOpen : Nat → Nat → Bool

/-- What a port-A read sees that a port-B write of the same word overtakes (R276): draw number. -/
opaque Config.portData : Nat → BitVec 64

/-- Whether a source takes a region of another package as an epoch region (R369 separates requests by the class of their
region; the spec gives the source no record of it): LDN, descriptor. -/
opaque Config.remoteEpoch : Nat → Nat → Bool

/-- Old value of an atomic that ended without one (R340): draw number. -/
opaque Config.unknownOld : Nat → BitVec 64

/-- Which T-core of the partition carries a transfer or a matrix product of a ring (R284, R440 leave it open): draw
number. -/
opaque Config.ringCore : Nat → Nat

/-- Leaf certificate of the package (R515, R516). -/
opaque Config.deviceCert : List Byte

/-- Signature by S1's device key over bytes (R516). -/
opaque Config.deviceSig : List Byte → List Byte

/-- What a restore whose digest failed has left in its target (R523): draw number, byte. -/
opaque Config.restoreByte : Nat → Nat → Byte

/-- Code of a log entry that a rule asks for and R560 names no code for (R569, R575): draw number. -/
opaque Config.logCode : Nat → Nat

/-- The set point adaptive scaling asks for next (R569 bounds it and says no more): draw number. -/
opaque Config.setPoint : Nat → Nat

/-- The fixed hash by which a forwarded request takes one of several paths (R375): source LDN, bytes of the message. -/
opaque Config.pathHash : Nat → List Byte → Nat

/-- The same hash at the source of a request (R375): source unit, line address. -/
opaque Config.unitHash : Nat → Nat → Nat

/-- Length of a request's message in units of 8 B (R360 bounds it; the spec lays no request body out): kind, bytes it
asks for or carries. -/
opaque Config.requestUnits : Nat → Nat → Nat

end Sys2Proof
end

