-- ==== Sys2Proof/Machine/Structure.lean ====
section
/-! DEFINITION. The structure in force (R47 to R52) as the units of a partition, the numbering of units (R6, R16,
R18, R487), and which units are in service. -/
namespace Sys2Proof.Machine

/-- Bytes of the section of type `t` in force. -/
def State.sect (s : State) (t : Nat) : List Byte := s.togus.sections.getD (t - 1) []

/-- A field of a partition entry (R47). -/
def State.partField (s : State) (p off n : Nat) : Nat := leAt (s.sect 1) (128 * p + off) n

def State.partPresent (s : State) (p : Nat) : Bool := decide (p < 16) && s.partField p 0 1 == 1

/-- width_policy is UNIFORM. -/
def State.partUniform (s : State) (p : Nat) : Bool := s.partField p 1 1 == 1

def State.partMinWidth (s : State) (p : Nat) : Nat := s.partField p 2 1

/-- A mask of a partition entry: the units of a partition that is present. -/
def State.partMask (s : State) (p off n : Nat) : Nat := if s.partPresent p then s.partField p off n else 0

def State.clusterMask (s : State) (p : Nat) : Nat := s.partMask p 0x08 16

def State.pcoreMask (s : State) (p : Nat) : Nat := s.partMask p 0x18 24

def State.seMask (s : State) (p : Nat) : Nat := s.partMask p 0x30 2

def State.llmMask (s : State) (p : Nat) : Nat := s.partMask p 0x38 8

def State.llmCacheMask (s : State) (p : Nat) : Nat := s.partMask p 0x40 8

def State.chanMask (s : State) (p : Nat) : Nat := s.partMask p 0x48 8

def State.portMask (s : State) (p : Nat) : Nat := s.partMask p 0x50 8

/-- The present partition whose entry satisfies `f`. -/
def State.findPart (s : State) (f : Nat → Bool) : Option Nat :=
  (List.range 16).find? (fun p => s.partPresent p && f p)

def State.partOfCluster (s : State) (k : Nat) : Option Nat := s.findPart (fun p => bit (s.clusterMask p) k)

def State.partOfTcore (s : State) (c : Nat) : Option Nat := s.partOfCluster (c / 4)

def State.partOfPcore (s : State) (c : Nat) : Option Nat := s.findPart (fun p => bit (s.pcoreMask p) c)

def State.partOfSe (s : State) (n : Nat) : Option Nat := s.findPart (fun p => bit (s.seMask p) n)

def State.partOfChan (s : State) (n : Nat) : Option Nat := s.findPart (fun p => bit (s.chanMask p) n)

def State.partOfPort (s : State) (n : Nat) : Option Nat := s.findPart (fun p => bit (s.portMask p) n)

/-- The partition that owns LLM unit 8 x slice + unit. -/
def State.partOfLlm (s : State) (u : Nat) : Option Nat := s.findPart (fun p => bit (s.llmMask p) u)

/-- An LLM unit works as cache (R47). -/
def State.llmCached (s : State) (u : Nat) : Bool :=
  match s.partOfLlm u with
  | some p => bit (s.llmCacheMask p) u
  | none => false

def State.partOfCoreId (s : State) (u : CoreId) : Option Nat :=
  match u with
  | .tc n => s.partOfTcore n
  | .pc n => s.partOfPcore n

/-- Array form of a T-core: 0 square, 1 horizon-16, 2 horizon-4 (R47). -/
def State.coreMode (s : State) (c : Nat) : Nat := fld (leAt (s.sect 2) (c / 4) 1) (2 * (c % 4)) 2

/-- Region descriptors of a partition's template entry (R51). -/
def State.descFirst (s : State) (p : Nat) : Nat := leAt (s.sect 3) (16 * p) 2

def State.descCount (s : State) (p : Nat) : Nat := leAt (s.sect 3) (16 * p + 2) 2

/-- The partition whose descriptor range holds region descriptor `d` (R51). -/
def State.partOfDesc (s : State) (d : Nat) : Option Nat :=
  s.findPart (fun p => decide (s.descFirst p ≤ d) && decide (d < s.descFirst p + s.descCount p))

/-- Partition a VF is mapped to (TENANTS, R47). -/
def State.tenantPart (s : State) (v : Nat) : Option Nat :=
  match (s.sect 5)[v]? with
  | some b => if b.toNat < 16 ∧ s.partPresent b.toNat then some b.toNat else none
  | none => none

/-! Die numbers of R487. -/

def dieT (n : Nat) : Nat := n
def dieM (n : Nat) : Nat := 16 + n
def dieP (n : Nat) : Nat := 24 + n
def dieF (n : Nat) : Nat := 28 + n
def dieH (n : Nat) : Nat := 36 + n
def dieS (n : Nat) : Nat := 38 + n

/-! Source identifiers of R487. -/

def srcTcore (c : Nat) : Nat := c
def srcCluster (k : Nat) : Nat := 0x1000 + k
def srcDie (d : Nat) : Nat := 0x2000 + d
def srcPcore (c : Nat) : Nat := 0x3000 + c
def srcSe (n : Nat) : Nat := 0x4000 + n
def srcPort (n : Nat) : Nat := 0x5000 + n
/-- A wavelength of a split port. -/
def srcSublink (n lam : Nat) : Nat := 0x5100 + n + 64 * lam
def srcChan (n : Nat) : Nat := 0x6000 + n
def srcSlice (n : Nat) : Nat := 0x7000 + n
def srcMeshLink (a b : Nat) : Nat := 0x8000 + 64 * Nat.min a b + Nat.max a b
def srcPart (p : Nat) : Nat := 0x9000 + p
def srcPackage : Nat := 0xA000
def srcSequencer : Nat := 0xB000
def srcArbiter : Nat := 0xB001

def srcOfCore (u : CoreId) : Nat := match u with | .tc n => srcTcore n | .pc n => srcPcore n

/-- Die a unit lies on. -/
def dieOfTcore (c : Nat) : Nat := dieT (c / 32)
def dieOfPcore (c : Nat) : Nat := dieP (c / 48)
def dieOfSe (n : Nat) : Nat := dieP (n / 4)
def dieOfChan (n : Nat) : Nat := dieM (n / 8)
def dieOfPort (n : Nat) : Nat := dieF (n / 8)
def dieOfCluster (k : Nat) : Nat := dieT (k / 8)
/-- Stack of a T-core (R18). -/
def stackOfTcore (c : Nat) : Nat := c / 64
def stackOfCluster (k : Nat) : Nat := k / 16

/-- A die fused off or retired. -/
def State.dieOut (s : State) (d : Nat) : Bool := bit (s.fget R.GLB_DIE_FUSED.dies) d || bit (s.fget R.GLB_DIE_RETIRED.dies) d

/-- An optical port that works: neither fused off nor failed, on a die in service (R41, R57). -/
def State.portWorks (s : State) (n : Nat) : Bool :=
  decide (n < 64) && !s.portsRetired.contains n && !s.nv.fusedPorts.contains n && !s.dieOut (28 + n / 8)

/-- A T-core that works: not fused off, not retired, its die in service. -/
def State.tcoreUp (s : State) (c : Nat) : Bool :=
  decide (c < 512) && !(s.tcore c).cc.retired && !s.nv.fusedCores.contains c && !s.dieOut (dieOfTcore c)

def State.pcoreUp (s : State) (c : Nat) : Bool :=
  decide (c < 192) && !(s.pcore c).retired && !s.nv.fusedPcores.contains c && !s.dieOut (dieOfPcore c)

def State.coreUp (s : State) (u : CoreId) : Bool := match u with | .tc n => s.tcoreUp n | .pc n => s.pcoreUp n

def State.seUp (s : State) (n : Nat) : Bool :=
  decide (n < 16) && !(s.se n).retired && !s.nv.fusedSes.contains n && !s.dieOut (dieOfSe n)

def State.llmUp (s : State) (u : Nat) : Bool :=
  decide (u < 64) && !s.llmRetired.contains u && !s.nv.fusedLlm.contains u && !s.dieOut (dieM (u / 8))

/-- Columns of a T-core's array that work: 64 less those fused off and those retired (R157). -/
def State.columnsIn (s : State) (c : Nat) : Nat := (s.reg (A.TC_ME_COLS c)).toNat

/-- T-cores in service in a partition. -/
def State.partTcores (s : State) (p : Nat) : List Nat :=
  ((bitsOf 128 (s.clusterMask p)).flatMap (fun k => [4 * k, 4 * k + 1, 4 * k + 2, 4 * k + 3])).filter s.tcoreUp

def State.partPcores (s : State) (p : Nat) : List Nat := (bitsOf 192 (s.pcoreMask p)).filter s.pcoreUp

def State.partSes (s : State) (p : Nat) : List Nat := (bitsOf 16 (s.seMask p)).filter s.seUp

/-- Ports of a partition that work. -/
def State.partPorts (s : State) (p : Nat) : List Nat := (bitsOf 64 (s.portMask p)).filter s.portWorks

def State.partLlm (s : State) (p : Nat) : List Nat := (bitsOf 64 (s.llmMask p)).filter s.llmUp

/-- A channel in service: ready or retraining (R316). -/
def State.chanTrained (s : State) (n : Nat) : Bool :=
  let st := s.fget (R.GDM_CH_STATUS.state n); st == 2 || st == 3

def State.partChans (s : State) (p : Nat) : List Nat := (bitsOf 64 (s.chanMask p)).filter s.chanTrained

end Sys2Proof.Machine
end

