-- ==== Sys2Proof/Machine/Log.lean ====
section
/-! DEFINITION. Reporting a fault to S0's queues (R482, R486 to R489), raising MSI-X vectors (R456, R563), and
the refusals that R549 and R121 log. -/
namespace Sys2Proof.Machine

/-- Number of a function in the vector table: VFs 0 to 4,095, then PF0 to PF3. -/
def fnIndex (fn : Fn) : Nat :=
  match fn with
  | .vf v => v
  | .pf n => 4096 + n
  | .mgmt => 4100

/-- Raise a vector: a masked one becomes pending, and one already pending coalesces (R456). -/
def State.raise (s : State) (fn : Fn) (vector : Nat) : State :=
  let key := fnIndex fn * 4096 + vector
  if (s.vec key).1 then s.setVec key (true, true) else s.emit (.msix fn vector)

/-- The lost counter of a class (R489, R559). -/
def lostFld (cls : Nat) : Fld :=
  match cls with
  | 0 => R.ERR_LOST0.lost_corrected
  | 1 => R.ERR_LOST0.lost_twinkle
  | 2 => R.ERR_LOST0.lost_hard
  | 3 => R.ERR_LOST0.lost_partition
  | _ => R.ERR_LOST1.lost_package

/-- A report is dropped: its class's lost counter counts it, and PF0 vector 1 is raised (R489, R563). -/
def State.dropReport (s : State) (cls : Nat) : State := (s.fincSat (lostFld cls) 1).raise (.pf 0) 1

/-- A report with its time fields (R486). -/
def State.mkReport (s : State) (source code cls detail : Nat) : Report :=
  let t := s.fget R.TRN_TIME.time_ns
  { source := source, code := code, cls := cls, detail := detail, time := t,
    transit := s.fget R.TRN_NUMBER.transit % 2 ^ 48, firstNs := Nat.min (t - s.trn.fireTime) (2 ^ 34 - 1) }

/-- A report comes from a core or engine that is already retired (R497). -/
def State.fromRetired (s : State) (source : Nat) : Bool :=
  let i := source % 4096
  match source / 4096 with
  | 0 => (s.tcore i).cc.retired
  | 3 => (s.pcore i).retired
  | 4 => (s.se i).retired
  | _ => false

/-- A report joins its queue, or is dropped where the queue is full: 64 reports, 8 fatal ones (R489). A report from a
unit already retired is discarded (R497). -/
def State.report (s : State) (source code cls detail : Nat) : State :=
  let r := s.mkReport source code cls detail
  if s.fromRetired source then s
  else if 3 ≤ cls then
    if s.fatals.length < 8 then { s with fatals := s.fatals ++ [r] } else s.dropReport cls
  else
    if s.reports.length < 64 then { s with reports := s.reports ++ [r] } else s.dropReport cls

/-- A report whose per-code detail the spec does not fix: the detail is a free value (log 5). -/
def State.reportOpen (s : State) (source code cls : Nat) : State :=
  { s with free := s.free + 1 }.report source code cls (Config.logDetail s.free % 2 ^ 88)

/-- A report whose code and detail no rule fixes: both are free values (log 5). -/
def State.reportFree (s : State) (source cls : Nat) : State :=
  { s with free := s.free + 1 }.reportOpen source (Config.logCode s.free % 2 ^ 16) cls

/-- Detail of a report about an operation (R486). -/
def opDetail (tag vf ring d : Nat) : Nat := tag % 2 ^ 16 + vf % 4096 * 2 ^ 16 + ring % 64 * 2 ^ 28 + d * 2 ^ 34

/-! Code groups of R560. -/

def codeD2dRetry : Nat := 0x0501
def codeModuleRetired : Nat := 0x0502
def codeLinkLost : Nat := 0x0503
def codeLlmCorrected : Nat := 0x0504
def codeLlmPoison : Nat := 0x0505
def codeMeTwinkle : Nat := 0x0101
def codeColumnRetired : Nat := 0x0102
def codePxCheckFail : Nat := 0x0103
def codeWidthBelowMin : Nat := 0x0104
def codeVeTwinkle : Nat := 0x0201
def codeVeFail : Nat := 0x0202
def codeSramCorrected : Nat := 0x0301
def codeSramPoison : Nat := 0x0302
def codeRepoison : Nat := 0x0303
def codeFeFault : Nat := 0x0304
def codeCoreRetired : Nat := 0x0401
def codeSeRetired : Nat := 0x0402
def codeRecheckTwinkle : Nat := 0x0403
def codeEccCorrected : Nat := 0x0601
def codePoison : Nat := 0x0602
def codeCrcRetry : Nat := 0x0603
def codeRetrain : Nat := 0x0604
def codeChannelRetired : Nat := 0x0605
def codeHotEnter : Nat := 0x0606
def codeHotExit : Nat := 0x0607
def codeDegraded : Nat := 0x0701
def codeDark : Nat := 0x0702
def codeQuarantined : Nat := 0x0703
def codeSourceBlocked : Nat := 0x0704
def codeLightLost : Nat := 0x0705
def codeAuthFail : Nat := 0x0706
def codeLateMarker : Nat := 0x0707
def codeDeadTarget : Nat := 0x0801
def codeKeyFault : Nat := 0x0802
def codeTimeout : Nat := 0x0803
def codeCrossed : Nat := 0x0901
def codeColCheckFail : Nat := 0x0902
def codeMemberDark : Nat := 0x0903
def codeFormatRefused : Nat := 0x0A01
def codeRingError : Nat := 0x0A02
def codeBeaconBadOp : Nat := 0x0A03
def codeWriteRefused : Nat := 0x0A04
def codeWatchdogWarn : Nat := 0x0B01
def codeMasterLost : Nat := 0x0B02
def codePeriodErr : Nat := 0x0B03
def codeDarkened : Nat := 0x0B04
def codeOverMargin : Nat := 0x0B05
def codeImageRefused : Nat := 0x0C01
def codePartitionReset : Nat := 0x0C02
def codeRecoveryReport : Nat := 0x0D01
def codeMaintRefused : Nat := 0x0D02
def codeEscalated : Nat := 0x0D03
def codeQueueFull : Nat := 0x0D04
def codeAlmanacError : Nat := 0x0E01
def codeRule : Nat := 0x0F01
def codeShutdown : Nat := 0x0F02
def codeEclipse : Nat := 0x0F03
def codeDowntrain : Nat := 0x1001
def codeSelfTestFail : Nat := 0x1101
def codeFwUnbootable : Nat := 0x1102
def codeSlotSpoiled : Nat := 0x1103

/-- Requester number of a WRITE_REFUSED report (R582). A VF's window never reaches PF BAR0 (R453). -/
def requesterOf (fn : Fn) : Nat :=
  match fn with
  | .pf n => n % 4
  | .mgmt => 4
  | .vf _ => 4

/-- WRITE_REFUSED (R549, R582): `rights` says the function may not make the write. -/
def State.refuseWrite (s : State) (fn : Fn) (off : Nat) (eight rights : Bool) : State :=
  s.report srcPackage codeWriteRefused 0
    (off % 2 ^ 26 + requesterOf fn * 2 ^ 26 + (if eight then 2 ^ 29 else 0) + (if rights then 2 ^ 30 else 0))

/-! Milestones (R471). -/

def State.milestone (s : State) (b : Nat) : Bool := bit (s.fget R.GLB_BOOT.milestones) b

def State.reach_ (s : State) (b : Nat) : State := s.fset R.GLB_BOOT.milestones (s.fget R.GLB_BOOT.milestones ||| 2 ^ b)

/-- State of wavelength `j` of a split port. -/
def subState (n j : Nat) : Fld := ⟨A.SCP_PORT_SUB n, 16 * j, 4⟩
def subPeer (n j : Nat) : Fld := ⟨A.SCP_PORT_SUB n, 16 * j + 4, 8⟩

/-- The state of a port changes: PF0 vector 32 + n and PF2 vector n (R563). -/
def State.putPortState (s : State) (n st : Nat) : State :=
  if s.fget (R.SCP_PORT_STATUS.state n) = st then s
  else ((s.fset (R.SCP_PORT_STATUS.state n) st).raise (.pf 0) (32 + n)).raise (.pf 2) n

/-! ALERT_N (R473, R491, R532). -/

/-- Rule `r` of the NIGHT_WATCH section carries the alert action (R530). -/
def State.ruleAlerts (s : State) (r : Nat) : Bool := bit (leAt (s.sect 7) (0x200 + 32 * r + 0x0A) 1) 1

/-- ALERT_N is held low: the wired OR of unread fatal entries, alerting rules and HALTED. -/
def State.alertLow (s : State) : Bool :=
  s.fon R.ERR_STATUS.fatal_unread || s.boot.stage == .halted ||
    (bitsOf 16 (s.fget R.NWT_STATUS.rules_true)).any s.ruleAlerts

/-- The pin follows its level after a change from `s` to `t`. -/
def State.showAlert (s t : State) : State := if s.alertLow = t.alertLow then t else t.emit (.alert t.alertLow)

end Sys2Proof.Machine
end

