-- ==== Sys2Proof/Machine/RingOps.lean ====
section
/-! DEFINITION. Completion statuses (R443), class flags (R442), and ending a ring operation in flight. -/
namespace Sys2Proof.Machine

def stDone : Nat := 0x00
def stRecovered : Nat := 0x01
def stReissued : Nat := 0x02
def stPartial : Nat := 0x10
def stFaultAddr : Nat := 0x11
def stKeyFault : Nat := 0x12
def stDeadTarget : Nat := 0x13
def stTimeout : Nat := 0x14
def stCheckFail : Nat := 0x20
def stDeadline : Nat := 0x21
def stLateTransit : Nat := 0x30
def stShrink : Nat := 0x31
def stMaintConflict : Nat := 0x40
def stCrossed : Nat := 0x41
def stInternal : Nat := 0x7F

def flagTwinkle : Nat := 1
def flagHard : Nat := 2
def flagReissued : Nat := 4
def flagCount : Nat := 8
def flagNotFound : Nat := 16
def flagOrphan : Nat := 32
def flagDupTag : Nat := 64

/-- The tag, VF and ring of an operation. -/
def Op.tag (o : Op) : Nat := leAt o.desc 0x3C 2
def Op.code (o : Op) : Nat := leAt o.desc 0 1
def Op.vf (o : Op) : Nat := o.ring / 64

/-- An operation still runs: fetched, its work not ended. -/
def Op.live (o : Op) : Bool := o.status.isNone

/-- Slots that hold an operation. -/
def State.opSlots (s : State) : List Nat := s.ops.map Prod.fst

/-- Slots whose operation runs and satisfies `f`. -/
def State.liveOps (s : State) (f : Op → Bool) : List Nat :=
  s.opSlots.filter (fun k => match s.op k with | some o => o.live && f o | none => false)

/-- Change the operation in a slot. -/
def State.onOp (s : State) (k : Nat) (f : Op → Op) : State :=
  match s.op k with
  | some o => s.setOp k (some (f o))
  | none => s

/-- Statuses whose witness covers nothing (R182). -/
def noWitness (status : Nat) : Bool :=
  status == stCheckFail || status == stMaintConflict || status == stCrossed || status == stInternal

/-- The work of an operation ends: it takes its place among those that have ended. One that has ended stays as it is. -/
def State.closeOp (s : State) (k : Nat) (f : Op → Op) : State :=
  match s.op k with
  | some o =>
    if o.status.isSome then s
    else { s.setOp k (some { f o with ended := s.endCount + 1 }) with endCount := s.endCount + 1 }
  | none => s

/-- The work of an operation ends with a status; the first status stands. The witness so far covers what its progress
reports as committed, which is what the status covers, or nothing (R182). -/
def State.endOp (s : State) (k status : Nat) : State :=
  s.closeOp k (fun o =>
    { o with status := some status, witness := if noWitness status then 0 else o.witness, parts := [], partsTile := none })

/-- OR class flags into an operation that runs. -/
def State.flagOp (s : State) (k flags : Nat) : State :=
  s.onOp k (fun o => { o with classFlags := o.classFlags ||| flags })

/-- An operation that may start (R439): it has not started, every earlier operation of its ring has, and where it
carries the fence flag every earlier one has completed. -/
def State.mayStartOp (s : State) (k code : Nat) : Option Op :=
  match s.op k with
  | none => none
  | some o =>
    let earlier := s.opSlots.filter (fun j => match s.op j with | some x => x.ring == o.ring && decide (x.order < o.order) | none => false)
    let fenced := bit (leAt o.desc 0x3E 1) 0
    let ok := s.clocked && o.live && !o.started && o.code == code &&
      earlier.all (fun j => match s.op j with | some x => x.started && !fenced | none => true)
    if ok then some o else none

/-- An operation has started. -/
def State.beginOp (s : State) (k : Nat) : State := s.onOp k (fun o => { o with started := true })

/-- End an operation whose result is one returned value (R442): the value is its progress, and the witness covers
its 8 bytes. -/
def State.endValue (s : State) (k status flags : Nat) (v : Word) : State :=
  s.closeOp k (fun o =>
      { o with status := some status, progress := v, witness := BitVec.ofNat 64 (crc64 (leBytes 8 v.toNat)),
               classFlags := o.classFlags ||| flagCount ||| flags })

/-- Every operation of a partition in flight ends with a status and flags. -/
def State.endPartOps (s : State) (p status flags : Nat) : State :=
  (s.liveOps (fun o => o.partition == p)).foldl (fun s k => (s.flagOp k flags).endOp k status) s

/-- Every operation in flight of a partition; none means the partition has drained (R63). -/
def State.partBusy (s : State) (p : Nat) : Bool :=
  s.opSlots.any (fun k => match s.op k with | some o => o.partition == p | none => false)

end Sys2Proof.Machine
end

