-- ==== Sys2Proof/Machine/Beacon.lean ====
section
/-! DEFINITION. Beacons (R425 to R434): assignment, the four modes, locks with owner epochs, waiters, the orphan
scan, and the meanings of the beacon commands. -/
namespace Sys2Proof.Machine

def modeCount : Nat := 0
def modeBarrier : Nat := 1
def modeLock : Nat := 2
def modeEvent : Nat := 3

/-- The package's LDN; 255 means none (R390). -/
def State.ldn (s : State) : Nat := s.fget R.SCP_ID.ldn

/-- Owner identity of a lock word (R430): LDN, unit, tenant, PF. A solver engine has no owner unit in R430; the
model gives it the host unit with tenant 0 (log 13). -/
def State.ownerOf (s : State) (w : Who) : Nat × Nat × Nat × Bool :=
  match w with
  | .tcore n => (s.ldn, n, 0, false)
  | .pcore n => (s.ldn, 512 + n, 0, false)
  | .se _ => (s.ldn, 0x3FF, 0, false)
  | .vf v => (s.ldn, 0x3FF, v, false)
  | .pf n => (s.ldn, 0x3FF, n, true)
  | .peer ldn unit tenant isPf => (ldn, unit, tenant, isPf)

/-- Index of a requester's owner epoch (R431); peers' epochs are kept by their own S0. -/
def epochIndex (w : Who) : Option Nat :=
  match w with
  | .tcore n => some n
  | .pcore n => some (512 + n)
  | .se n => some (1024 + n)
  | .vf v => some (2048 + v)
  | .pf n => some (8192 + n)
  | .peer _ _ _ _ => none

def State.epochOf (s : State) (w : Who) : Nat :=
  match epochIndex w with
  | some i => s.ownerEpoch i % 2 ^ 16
  | none => 0

/-- A lock word under its owner (R430). -/
def lockWord (held orphaned : Bool) (owner : Nat × Nat × Nat × Bool) (epoch grants : Nat) : Word :=
  BitVec.ofNat 64 (held.toNat + 2 * orphaned.toNat + owner.1 % 256 * 2 ^ 8 + owner.2.1 % 1024 * 2 ^ 16 +
    owner.2.2.1 % 4096 * 2 ^ 26 + owner.2.2.2.toNat * 2 ^ 38 + epoch % 2 ^ 16 * 2 ^ 40 + grants % 256 * 2 ^ 56)

def lockHeld (v : Word) : Bool := getField v 0 1 == 1
def lockOrphaned (v : Word) : Bool := getField v 1 1 == 1
def lockGrants (v : Word) : Nat := getField v 56 8
def lockOwner (v : Word) : Nat × Nat × Nat × Bool :=
  (getField v 8 8, getField v 16 10, getField v 26 12, getField v 38 1 == 1)
def lockEpoch (v : Word) : Nat := getField v 40 16

/-- Who may use a beacon (R426). -/
def State.mayUse (s : State) (w : Who) (b : Beacon) : Bool :=
  b.assigned &&
    match w with
    | .tcore n => s.partOfTcore n == some b.partition
    | .pcore n => s.partOfPcore n == some b.partition
    | .se n => s.partOfSe n == some b.partition
    | .vf v => if b.oneTenant then v == b.tenant else s.tenantPart v == some b.partition
    | .pf n => decide (n < 2)
    | .peer _ _ _ _ => true

/-- Remove the instruction at the head of an engine queue. -/
def State.popQueue (s : State) (c : Nat) (q : EngineQ) : State :=
  match q with
  | .me => s.onMe c (fun m => { m with queue := m.queue.drop 1 })
  | .ve => s.onVe c (fun v => { v with queue := v.queue.drop 1 })
  | .fe => s.onFe c (fun f => { f with queue := f.queue.drop 1 })

/-- Answer a beacon access: an engine's WAITB completes, a ring operation ends, a window access is answered. -/
def State.answer (s : State) (w : Who) (a : Answer) (b : Nat) (ok orphan : Bool) (v : Word) : State :=
  match a with
  | .engine c q => if ok then s.popQueue c q else s
  | .op k => s.endValue k stDone (if orphan then flagOrphan else 0) v
  | .se _ => s.emit (.beacon w b ok v orphan)
  | .window w' => s.emit (.beacon w' b ok v orphan)
  | .rack src id fetch => s.emit (.rackResp src id stDone (if fetch then leBytes 8 v.toNat else []) 0)

/-- An access ends as FAULT_ADDR. -/
def State.refuseAccess (s : State) (w : Who) (a : Answer) : State :=
  match a with
  | .op k => s.endValue k stFaultAddr 0 0
  | .rack src id _ => s.emit (.rackResp src id stFaultAddr [] 0)
  | _ => s.emit (.ended w stFaultAddr)

/-- A refused operation: FAULT_ADDR, nothing changed, counted in bad_ops (R426, R429). -/
def State.refuseBeacon (s : State) (w : Who) (a : Answer) : State :=
  (s.refuseAccess w a).finc R.BCN_CNT.bad_ops 1

/-- Raise the vector an EVENT beacon's assignment names (R429). -/
def State.raiseEvent (s : State) (b : Beacon) : State :=
  if b.oneTenant then s.raise (.vf b.tenant) b.vector else s.raise (.pf 1) (48 + b.vector)

/-- Take waiters off the table and answer them, in order. -/
def State.answerAll (s : State) (ws : List Waiter) (ok : Bool) (v : Word) : State :=
  ws.foldl (fun s w => s.answer w.who w.ans w.beacon ok false v) s

/-- Waiters in grant order: priority 7 first, earliest arrival first (R433). -/
def inOrder (ws : List Waiter) : List Waiter :=
  [7, 6, 5, 4, 3, 2, 1, 0].flatMap (fun p => ws.filter (fun w => w.prio == p))

/-- A wait on beacon `b` that value `v` satisfies (R429: unsigned). -/
def satisfied (b : Nat) (v : Word) (w : Waiter) : Bool :=
  w.beacon == b && match w.threshold with | some t => decide (t.toNat ≤ v.toNat) | none => false

/-- Store a value and answer every wait it satisfies; an armed EVENT beacon fires on a non-zero value (R429). -/
def State.putBeacon (s : State) (b : Nat) (v : Word) : State :=
  let bc := s.beacon b
  let fire := bc.mode == modeEvent && bc.armed && v != 0
  let s1 := s.setBeacon b { bc with value := v, armed := bc.armed && !fire }
  let s2 := if fire then s1.raiseEvent bc else s1
  let ready := inOrder (s2.waiters.filter (satisfied b v))
  { s2 with waiters := s2.waiters.filter (fun w => !satisfied b v w) }.answerAll ready true v

/-- The acquire to be granted next on a lock (R433). -/
def State.nextAcquire (s : State) (b : Nat) : Option Waiter :=
  (inOrder (s.waiters.filter (fun w => w.beacon == b && w.threshold.isNone))).head?

/-- Remove one waiter. -/
def dropWaiter (ws : List Waiter) (w : Waiter) : List Waiter := ws.erase w

/-- Grant a lock: the stored word has orphaned clear, the returned word shows whether it was (R430, R431). -/
def State.grantLock (s : State) (b : Nat) (w : Who) (a : Answer) : State :=
  let v := (s.beacon b).value
  let word := lockWord true false (s.ownerOf w) (s.epochOf w) (lockGrants v + 1)
  let orphan := lockOrphaned v
  let s1 := s.putBeacon b word
  s1.answer w a b true orphan (if orphan then word ||| 2 else word)

/-- Grant a lock to its next waiter, or clear held (R430, R433). -/
def State.passLock (s : State) (b : Nat) : State :=
  match s.nextAcquire b with
  | some w => { s with waiters := dropWaiter s.waiters w }.grantLock b w.who w.ans
  | none => s.putBeacon b ((s.beacon b).value &&& ~~~ 1)

/-- Waits and acquires that occupy the waiter table (R432). -/
def State.tableUsed (s : State) : Nat := (s.waiters.filter Waiter.tabled).length

/-- A wait or acquire joins the waiters, or is answered at once as unsatisfied where the table is full (R432). -/
def State.joinWaiters (s : State) (w : Who) (a : Answer) (b prio : Nat) (thr : Option Word) : State :=
  let tabled := match a with | .engine _ _ => false | .se _ => false | _ => true
  if tabled && decide (65536 ≤ s.tableUsed) then
    (s.answer w a b false false (s.beacon b).value).finc R.BCN_CNT.wait_full 1
  else
    { s with waiters := s.waiters ++ [{ beacon := b, who := w, ans := a, prio := prio, threshold := thr,
                                        tabled := tabled, epoch := s.epochOf w }] }

/-- The add of R429 on a beacon in a mode that allows it: new value, or none where it is refused. -/
def addValue (b : Beacon) (operand : Word) : Option Word :=
  if b.mode = modeBarrier then
    if b.target = 0 then none
    else
      let n := getField b.value 0 32 + operand.toNat
      if b.target ≤ n then some (BitVec.ofNat 64 ((getField b.value 32 32 + 1) % 2 ^ 32 * 2 ^ 32))
      else some (BitVec.ofNat 64 (getField b.value 32 32 * 2 ^ 32 + n))
  else if b.mode = modeLock then none
  else some (b.value + operand)

/-- An add of `n` that hardware directs at a beacon (R428): on a LOCK beacon it is discarded, counted and logged. -/
def State.hwAddN (s : State) (b unit n : Nat) : State :=
  let bc := s.beacon b
  if !bc.assigned then s.finc R.BCN_CNT.bad_ops 1
  else
    match addValue bc (BitVec.ofNat 64 n) with
    | some v => s.putBeacon b v
    | none =>
      if bc.mode = modeLock then
        (s.finc R.BCN_CNT.bad_ops 1).report srcPackage codeBeaconBadOp 0
          (b % 2 ^ 14 + 1 * 2 ^ 14 + bc.mode * 2 ^ 18 + unit % 2 ^ 10 * 2 ^ 20 + s.ldn * 2 ^ 30)
      else s.finc R.BCN_CNT.bad_ops 1

def State.hwAdd (s : State) (b unit : Nat) : State := s.hwAddN b unit 1

/-! The operations of R427, whoever makes them and however they are answered. -/

def State.bcnRead (s : State) (w : Who) (a : Answer) (b : Nat) : State :=
  let bc := s.beacon b
  if s.mayUse w bc then s.answer w a b true false bc.value else s.refuseBeacon w a

def State.bcnAdd (s : State) (w : Who) (a : Answer) (b : Nat) (operand : Word) : State :=
  let bc := s.beacon b
  if !s.mayUse w bc then s.refuseBeacon w a
  else
    match addValue bc operand with
    | some v => (s.putBeacon b v).answer w a b true false bc.value
    | none => s.refuseBeacon w a

/-- set: COUNT and EVENT only. -/
def State.bcnSet (s : State) (w : Who) (a : Answer) (b : Nat) (operand : Word) : State :=
  let bc := s.beacon b
  if s.mayUse w bc && (bc.mode == modeCount || bc.mode == modeEvent) then
    (s.putBeacon b operand).answer w a b true false bc.value
  else s.refuseBeacon w a

/-- compare-and-set: COUNT and EVENT only. -/
def State.bcnCas (s : State) (w : Who) (a : Answer) (b : Nat) (operand compare : Word) : State :=
  let bc := s.beacon b
  if s.mayUse w bc && (bc.mode == modeCount || bc.mode == modeEvent) then
    (if bc.value = compare then s.putBeacon b operand else s).answer w a b true false bc.value
  else s.refuseBeacon w a

def State.bcnWait (s : State) (w : Who) (a : Answer) (b prio : Nat) (thr : Word) : State :=
  let bc := s.beacon b
  if !s.mayUse w bc then s.refuseBeacon w a
  else if thr.toNat ≤ bc.value.toNat then s.answer w a b true false bc.value
  else s.joinWaiters w a b prio (some thr)

/-- arm: BARRIER sets its target, EVENT is armed or fires at once (R429). -/
def State.bcnArm (s : State) (w : Who) (a : Answer) (b : Nat) (operand : Word) : State :=
  let bc := s.beacon b
  if !s.mayUse w bc then s.refuseBeacon w a
  else if bc.mode = modeBarrier then
    if operand.toNat = 0 ∨ 2 ^ 32 - 1 < operand.toNat then s.refuseBeacon w a
    else
      (s.setBeacon b { bc with target := operand.toNat,
                               value := BitVec.ofNat 64 (getField bc.value 32 32 * 2 ^ 32) }).answer
        w a b true false bc.value
  else if bc.mode = modeEvent then
    if bc.value = 0 then (s.setBeacon b { bc with armed := true }).answer w a b true false bc.value
    else ((s.setBeacon b { bc with armed := false }).raiseEvent bc).answer w a b true false bc.value
  else s.refuseBeacon w a

/-- The priority of an acquire: one set by a reprioritise while the requester held the lock applies once (R433). -/
def State.acquirePrio (s : State) (w : Who) (b prio : Nat) : Nat :=
  match s.nextPrio.find? (fun e => e.1 == w && e.2.1 == b) with
  | some e => e.2.2
  | none => prio

def State.bcnAcquire (s : State) (w : Who) (a : Answer) (b prio : Nat) : State :=
  let bc := s.beacon b
  if !(s.mayUse w bc && bc.mode == modeLock) then s.refuseBeacon w a
  else
    let p := s.acquirePrio w b prio
    let s1 : State := { s with nextPrio := s.nextPrio.filter (fun e => !(e.1 == w && e.2.1 == b)) }
    if !lockHeld bc.value || (lockOrphaned bc.value && (s.nextAcquire b).isNone) then s1.grantLock b w a
    else s1.joinWaiters w a b p none

/-- release: only by the holder, by LDN, unit, tenant and epoch, and not of an orphaned lock (R430). -/
def State.bcnRelease (s : State) (w : Who) (a : Answer) (b : Nat) : State :=
  let bc := s.beacon b
  if s.mayUse w bc && bc.mode == modeLock && lockHeld bc.value && !lockOrphaned bc.value &&
      decide (lockOwner bc.value = s.ownerOf w) && decide (lockEpoch bc.value = s.epochOf w) then
    (s.passLock b).answer w a b true false bc.value
  else s.refuseBeacon w a

/-- reprioritise: a waiter's priority changes; a holder's change applies to its next acquire (R433). -/
def State.bcnReprio (s : State) (w : Who) (a : Answer) (b prio : Nat) : State :=
  let bc := s.beacon b
  if !s.mayUse w bc then s.refuseBeacon w a
  else
    let mine := fun (x : Waiter) => x.beacon == b && x.who == w
    let s1 : State :=
      if s.waiters.any mine then
        { s with waiters := s.waiters.map (fun x => if mine x then { x with prio := prio % 8 } else x) }
      else if bc.mode == modeLock && lockHeld bc.value && decide (lockOwner bc.value = s.ownerOf w) &&
          decide (lockEpoch bc.value = s.epochOf w) then
        { s with nextPrio := (w, b, prio % 8) :: s.nextPrio.filter (fun e => !(e.1 == w && e.2.1 == b)) }
      else s
    s1.answer w a b true false bc.value

/-! Owner epochs and orphans (R431). -/

/-- Start a scan, or have a second follow the one that runs. -/
def State.startScan (s : State) : State :=
  match s.scan with
  | none => { s with scan := some 0 }
  | some _ => { s with scanAgain := true }

/-- Every held lock whose word satisfies `f` becomes ORPHANED. -/
def State.markOrphans (s : State) (f : Word → Bool) : State :=
  (s.beacons.filter (fun e => e.2.mode == modeLock && lockHeld e.2.value && !lockOrphaned e.2.value && f e.2.value)).foldl
    (fun s e => s.setBeacon e.1 { e.2 with value := e.2.value ||| 2 }) s

/-- A scan follows a reset that orphaned a lock. -/
def State.scanAfter (s t : State) : State := if t.beacons = s.beacons then t else t.startScan

/-- The lock word names a requester of this package. -/
def State.ownedBy (s : State) (w : Who) (v : Word) : Bool := decide (lockOwner v = s.ownerOf w)

/-- A reset that covers a unit advances its owner epoch, removes its waits without an answer, and orphans its locks
(R431, R494). -/
def State.advanceEpoch (s : State) (w : Who) : State :=
  match epochIndex w with
  | none => s
  | some i =>
    let s1 := s.setOwnerEpoch i ((s.ownerEpoch i + 1) % 2 ^ 16)
    let s2 : State := { s1 with waiters := s1.waiters.filter (fun x => !(x.who == w)) }
    match w with
    | .se _ => s2
    | _ => s2.markOrphans (s2.ownedBy w)

/-- One reset covers the units: one scan follows it. -/
def State.advanceEpochs (s : State) (ws : List Who) : State := s.scanAfter (ws.foldl State.advanceEpoch s)

/-- Locks held by a package are orphaned, and a scan follows (R431, R445). -/
def State.orphanLdn (s : State) (ldn : Nat) : State := (s.markOrphans (fun v => (lockOwner v).1 == ldn)).startScan

/-! The commands. -/

/-- A beacon read by address (R427). -/
def execBeaconRead (w : Who) (b : Nat) (s : State) : Res :=
  whenever (decide (b < 16384)) (s.bcnRead w (.window w) b) s

def execBeaconAdd (w : Who) (b : Nat) (operand : Word) (s : State) : Res :=
  whenever (decide (b < 16384)) (s.bcnAdd w (.window w) b operand) s

def execBeaconSet (w : Who) (b : Nat) (operand : Word) (s : State) : Res :=
  whenever (decide (b < 16384)) (s.bcnSet w (.window w) b operand) s

def execBeaconCas (w : Who) (b : Nat) (operand compare : Word) (s : State) : Res :=
  whenever (decide (b < 16384)) (s.bcnCas w (.window w) b operand compare) s

/-- A wait by address; R427 gives it no priority, so it waits at priority 0 (log 13). -/
def execBeaconWait (w : Who) (b : Nat) (threshold : Word) (s : State) : Res :=
  whenever (decide (b < 16384)) (s.bcnWait w (.window w) b 0 threshold) s

def execBeaconArm (w : Who) (b : Nat) (operand : Word) (s : State) : Res :=
  whenever (decide (b < 16384)) (s.bcnArm w (.window w) b operand) s

def execBeaconAcquire (w : Who) (b prio : Nat) (s : State) : Res :=
  whenever (decide (b < 16384)) (s.bcnAcquire w (.window w) b (prio % 8)) s

def execBeaconRelease (w : Who) (b : Nat) (s : State) : Res :=
  whenever (decide (b < 16384)) (s.bcnRelease w (.window w) b) s

def execBeaconReprioritise (w : Who) (b prio : Nat) (s : State) : Res :=
  whenever (decide (b < 16384)) (s.bcnReprio w (.window w) b prio) s

/-- PF0 and PF1 write the BCN block (R445). -/
def bcnRights (fn : Fn) : Bool := match fn with | .pf n => decide (n < 2) | _ => false

/-- A write of BCN_CFG (R434). -/
def execBeaconConfigWrite (fn : Fn) (value : Word) (s : State) : Res :=
  if !bcnRights fn then .next (s.refuseWrite fn A.BCN_CFG true true)
  else
    let b := s.fget R.BCN_SEL.beacon
    let bc := s.beacon b
    let new : Beacon := { bc with mode := getField value 0 2, assigned := getField value 2 1 == 1,
                                  partition := getField value 3 4, oneTenant := getField value 7 1 == 1,
                                  tenant := getField value 8 12, vector := getField value 20 3 }
    if { new with vector := bc.vector } = bc then .next (s.setBeacon b new)
    else
      let ws := inOrder (s.waiters.filter (fun w => w.beacon == b))
      let s1 := { s with waiters := s.waiters.filter (fun w => w.beacon != b) }.answerAll ws false bc.value
      .next (s1.setBeacon b { new with value := 0, armed := false, target := 0 })

/-- A write of BCN_VALUE acts as set; in LOCK and BARRIER mode it is discarded (R445). -/
def execBeaconValueWrite (fn : Fn) (value : Word) (s : State) : Res :=
  if !bcnRights fn then .next (s.refuseWrite fn A.BCN_VALUE true true)
  else
    let b := s.fget R.BCN_SEL.beacon
    let bc := s.beacon b
    whenever (bc.assigned && (bc.mode == modeCount || bc.mode == modeEvent)) (s.putBeacon b value) s

/-- orphan_ldn: orphan every lock held by an LDN (R431, R445). -/
def execOrphanLdn (fn : Fn) (ldn : Nat) (s : State) : Res :=
  if !bcnRights fn then .next (s.refuseWrite fn A.BCN_ORPHAN true true)
  else if ldn < 144 then .next ((s.fset R.BCN_ORPHAN.ldn ldn).orphanLdn ldn)
  else .next (s.orphanLdn (s.fget R.BCN_ORPHAN.ldn))

/-- The scan visits one beacon: an orphaned lock with waiters is granted to the first of them (R431). -/
def execOrphanScanVisit (s : State) : Res :=
  match s.scan with
  | none => .next s
  | some b =>
    let v := (s.beacon b).value
    let s1 := if (s.beacon b).mode == modeLock && lockHeld v && lockOrphaned v && (s.nextAcquire b).isSome
      then s.passLock b else s
    .next (if b + 1 < 16384 then { s1 with scan := some (b + 1) }
      else if s1.scanAgain then { s1 with scan := some 0, scanAgain := false }
      else { s1 with scan := none })

/-- A wait or acquire that arrived through a window has waited its bound: it is removed and answered unsatisfied
with the current value (R432). -/
def execWaitTimeout (k : Nat) (s : State) : Res :=
  match s.waiters[k]? with
  | none => .next s
  | some w =>
    match w.ans with
    | .window _ =>
      .next ({ s with waiters := s.waiters.eraseIdx k }.answer w.who w.ans w.beacon false false (s.beacon w.beacon).value)
    | .rack _ _ _ =>
      .next ({ s with waiters := s.waiters.eraseIdx k }.answer w.who w.ans w.beacon false false (s.beacon w.beacon).value)
    | _ => .next s

end Sys2Proof.Machine
end

