-- ==== Sys2Proof/Machine/Counts.lean ====
section
/-! DEFINITION. Effective counts and maps of partitions and of the package (R41, R556 to R558), presented widths
(R50, R157), and loading the fields that come from the image (R553). -/
namespace Sys2Proof.Machine

/-- Number of set bits among the lowest 64. -/
def popCount (m : Nat) : Nat := (bitsOf 64 m).length

/-- Columns of a T-core in service: not fused off, not retired in the field (R157). -/
def State.colsUp (s : State) (c : Nat) : List Nat :=
  (List.range 64).filter (fun i =>
    !bit (s.fget (R.TC_ME_FUSED.fused c)) i && !bit (s.fget (R.TC_PX_RETIRED.retired c)) i)

/-- The width a core presents (R157): its physical width, or in a UNIFORM partition the smaller of that and the
partition's value. -/
def State.widthOf (s : State) (c : Nat) : Nat :=
  let phys := (s.colsUp c).length
  match s.partOfTcore c with
  | some p => if s.partUniform p then Nat.min (s.fget (R.PRT_RES.width p)) phys else phys
  | none => phys

/-- Write a core's widths and columns in use: its lowest presented columns (R157, R166). -/
def State.setWidth (s : State) (c : Nat) : State :=
  let up := s.colsUp c
  let w := s.widthOf c
  (((s.fset (R.TC_ME_STATUS.width_physical c) up.length).fset (R.TC_ME_STATUS.width_presented c) w).setReg
    (A.TC_ME_COLS c) (BitVec.ofNat 64 (maskOf (up.take w))))

/-- The partition's own width: the least physical width under UNIFORM, the least presented width under NATIVE
(R50, R557). -/
def State.partWidth (s : State) (p : Nat) : Nat :=
  match (s.partTcores p).map (fun c => (s.colsUp c).length) with
  | [] => 0
  | w :: ws => ws.foldl Nat.min w

/-- Clusters of a partition with a core in service. -/
def State.partClusters (s : State) (p : Nat) : List Nat :=
  (bitsOf 128 (s.clusterMask p)).filter (fun k => [4 * k, 4 * k + 1, 4 * k + 2, 4 * k + 3].any s.tcoreUp)

/-- The counts and masks of a partition's status block (R557), all but the width. -/
def State.recountPart (s : State) (p : Nat) : State :=
  let cl := maskOf (s.partClusters p)
  let pc := maskOf (s.partPcores p)
  ((((((((((((((s.fset (R.PRT_STATUS.present p) (s.partPresent p).toNat).fset (R.PRT_RES.t_cores p) (s.partTcores p).length).fset
    (R.PRT_RES.p_cores p) (s.partPcores p).length).fset (R.PRT_RES.ses p) (s.partSes p).length).fset
    (R.PRT_RES.channels p) (s.partChans p).length).fset (R.PRT_RES.ports p) (s.partPorts p).length).fset
    (R.PRT_RES.llm_units p) (s.partLlm p).length).setReg (A.PRT_CLUSTERS p 0) (BitVec.ofNat 64 cl)).setReg
    (A.PRT_CLUSTERS p 1) (BitVec.ofNat 64 (cl / 2 ^ 64))).setReg (A.PRT_PCORES p 0) (BitVec.ofNat 64 pc)).setReg
    (A.PRT_PCORES p 1) (BitVec.ofNat 64 (pc / 2 ^ 64))).setReg (A.PRT_PCORES p 2) (BitVec.ofNat 64 (pc / 2 ^ 128))).fset
    (R.PRT_MASKS.se_mask p) (maskOf (s.partSes p))).setReg (A.PRT_CHAN p) (BitVec.ofNat 64 (maskOf (s.partChans p)))).setReg
    (A.PRT_PORTS p) (BitVec.ofNat 64 (s.portMask p)) |>.setReg (A.PRT_LLM p) (BitVec.ofNat 64 (maskOf (s.partLlm p)))

/-- The width of a partition's status block, and under UNIFORM the widths its cores present (R50). -/
def State.rewidthPart (s : State) (p : Nat) : State :=
  let s1 := s.fset (R.PRT_RES.width p) (s.partWidth p)
  (s1.partTcores p).foldl State.setWidth s1

/-- The T-cores, P application cores and solver engines of the package in service. -/
def State.allTcores (s : State) : List Nat := (List.range 512).filter s.tcoreUp
def State.allPcores (s : State) : List Nat := (List.range 192).filter s.pcoreUp
def State.allSes (s : State) : List Nat := (List.range 16).filter s.seUp

/-- Port states in which a port is up: UP, DEGRADED, SPLIT (R356). -/
def portUpState (n : Nat) : Bool := n == 5 || n == 6 || n == 13

/-- A slice counts as in service while a unit of it works. -/
def State.sliceUp (s : State) (n : Nat) : Bool := (List.range 8).any (fun u => s.llmUp (8 * n + u))

/-- GLB_UNITS and the GLB maps (R556). -/
def State.recountPackage (s : State) : State :=
  let t := s.allTcores
  let p := s.allPcores
  let e := s.allSes
  let tm := maskOf t
  let pm := maskOf p
  let s1 :=
    ((((((s.fset R.GLB_UNITS.t_cores t.length).fset R.GLB_UNITS.p_cores p.length).fset R.GLB_UNITS.ses e.length).fset
      R.GLB_UNITS.channels ((List.range 64).filter s.chanTrained).length).fset R.GLB_UNITS.ports_up
      ((List.range 64).filter (fun n => portUpState (s.fget (R.SCP_PORT_STATUS.state n)))).length).fset
      R.GLB_UNITS.llm_slices ((List.range 8).filter s.sliceUp).length).fset R.GLB_SE_MAP.map (maskOf e)
  let s2 := (List.range 8).foldl (fun s k => s.setReg (A.GLB_TCORE_MAP k) (BitVec.ofNat 64 (tm / 2 ^ (64 * k)))) s1
  (List.range 3).foldl (fun s k => s.setReg (A.GLB_PCORE_MAP k) (BitVec.ofNat 64 (pm / 2 ^ (64 * k)))) s2

/-- A unit of partition `p`, or of none, left or entered service: every count changes together, and so does the width of
a NATIVE partition; a UNIFORM one's waits for the next transit (R50, R558). -/
def State.recount (s : State) (p : Option Nat) : State :=
  match p with
  | some p =>
    let t := if s.partUniform p then s else s.fset (R.PRT_RES.width p) (s.partWidth p)
    (t.recountPart p).recountPackage
  | none => s.recountPackage

/-! Fields loaded from the image (R553). -/

/-- Windows and policy of a partition (R52, R101). -/
def State.loadTransitPart (s : State) (p : Nat) : State :=
  let e := 16 + 8 * p
  (((s.fset (R.TRN_PART_CTL.compute p) (leAt (s.sect 6) e 2)).fset (R.TRN_PART_CTL.exchange p) (leAt (s.sect 6) (e + 2) 2)).fset
    (R.TRN_PART_CTL.commit p) (leAt (s.sect 6) (e + 4) 2)).fset (R.TRN_PART_CTL.policy p) (leAt (s.sect 6) (e + 6) 1)

def State.loadTransitHeader (s : State) : State :=
  (s.fset R.TRN_POLICY.max_stretch (leAt (s.sect 6) 0 2)).fset R.TRN_POLICY.droop_margin (leAt (s.sect 6) 2 2)

/-- Weights of VC1 to VC7 of a port (R47, R394). -/
def State.loadWeights (s : State) (n : Nat) : State :=
  ((((((s.fset (R.SCP_PORT_VCW.w1 n) (leAt (s.sect 4) (8 * n + 1) 1)).fset (R.SCP_PORT_VCW.w2 n) (leAt (s.sect 4) (8 * n + 2) 1)).fset
    (R.SCP_PORT_VCW.w3 n) (leAt (s.sect 4) (8 * n + 3) 1)).fset (R.SCP_PORT_VCW.w4 n) (leAt (s.sect 4) (8 * n + 4) 1)).fset
    (R.SCP_PORT_VCW.w5 n) (leAt (s.sect 4) (8 * n + 5) 1)).fset (R.SCP_PORT_VCW.w6 n) (leAt (s.sect 4) (8 * n + 6) 1)).fset
    (R.SCP_PORT_VCW.w7 n) (leAt (s.sect 4) (8 * n + 7) 1)

/-- Array form of a core (R162). -/
def State.loadMode (s : State) (c : Nat) : State := s.fset (R.TC_ME_STATUS.mode c) (s.coreMode c)

/-- Owner of a channel (R316). -/
def State.loadChan (s : State) (n : Nat) : State :=
  match s.partOfChan n with
  | some p => (s.fset (R.GDM_CH_STATUS.owned n) 1).fset (R.GDM_CH_STATUS.partition n) p
  | none => (s.fset (R.GDM_CH_STATUS.owned n) 0).fset (R.GDM_CH_STATUS.partition n) 0

/-- Units of a slice that are owned, and those that work as cache (R297). -/
def State.loadSlice (s : State) (n : Nat) : State :=
  let own := maskOf ((List.range 8).filter (fun u => (s.partOfLlm (8 * n + u)).isSome))
  let cache := maskOf ((List.range 8).filter (fun u => s.llmCached (8 * n + u)))
  (s.fset (R.LLM_STATUS.owned_units n) own).fset (R.LLM_STATUS.cache_units n) cache

/-- Owner, class and timeout of the descriptors that a present partition owns (R51, R349). -/
def State.loadRegions (s : State) (p : Nat) : State :=
  if s.partPresent p then
    (List.range (Nat.min (s.descCount p) (4096 - s.descFirst p))).foldl (fun t i =>
      ((t.fset (R.RMM_RGN_CFG.partition (s.descFirst p + i)) p).fset (R.RMM_RGN_CFG.cls (s.descFirst p + i)) (leAt (s.sect 3) (16 * p + 6) 1)).fset
        (R.RMM_RGN_CFG.timeout_us (s.descFirst p + i)) (leAt (s.sect 3) (16 * p + 4) 2)) s
  else s

/-- The fields of partition `p` that come from the sections an image carries, its counts and widths (R47, R553). -/
def State.loadPart (s : State) (has : Nat → Bool) (p : Nat) : State :=
  let s1 := if has 6 then s.loadTransitPart p else s
  let s2 := if has 3 then s1.loadRegions p else s1
  let s3 := if has 4 then (bitsOf 64 (s2.portMask p)).foldl State.loadWeights s2 else s2
  let s4 := if has 2 then (s3.partTcores p).foldl State.loadMode s3 else s3
  (s4.recountPart p).rewidthPart p

/-- The structure hash of the sections in force (R59). -/
def State.structHash (s : State) : List Byte := sha384 s.togus.sections.flatten

/-- GLB_HASH, all six registers together (R556). -/
def State.loadHash (s : State) : State :=
  (List.range 6).foldl (fun t k => t.setReg (A.GLB_HASH k) (BitVec.ofNat 64 (leAt s.structHash (8 * k) 8))) s

end Sys2Proof.Machine
end

