-- ==== Sys2Proof/Machine/Memory.lean ====
section
/-! DEFINITION. The package physical address space (R283, R306): where an address lies, who may reach it, its
bytes, and the state of the home M-die that an access passes (R290, R292, R293, R309). GDDR7 is kept by channel
and channel-local address, above the package physical addresses. -/
namespace Sys2Proof.Machine

/-- Where a package physical address lies. -/
inductive Loc where
  /-- Scratchpad of a T-core, offset. -/
  | pad (c off : Nat)
  /-- Staging buffer of a cluster, offset. -/
  | staging (k off : Nat)
  /-- LLM unit 8 x slice + unit, offset. -/
  | llm (u off : Nat)
  /-- Channel and channel-local address. -/
  | gddr (ch loc : Nat)
deriving DecidableEq, Repr

/-- Bases of R283. -/
def padBase (c : Nat) : Nat := 0x1000000000 + 0x400000 * c
def stagingBufBase (k : Nat) : Nat := 0x1100000000 + 0x100000 * k
def llmBase (u : Nat) : Nat := 0x1200000000 + 0x2000000 * u
def gddrBase : Nat := 0x10000000000

/-- Key of a channel's byte in memory. -/
def gddrKey (ch loc : Nat) : Nat := 2 ^ 48 + ch * 2 ^ 36 + loc

/-- Granule of a map entry's interleave (R306). -/
def granule (il : Nat) : Nat :=
  match il with
  | 0 => 256
  | 1 => 4096
  | _ => 0x200000

/-- Channel and local address of offset `o` in map entry `r` (R306). -/
def State.mapAt (s : State) (r o : Nat) : Nat × Nat :=
  let chs := bitsOf 64 (s.fget (R.GDM_MAP_CHAN.channel_mask r))
  let k := chs.length
  let g := granule (s.fget (R.GDM_MAP_CTL.interleave r))
  let n := o / g
  (chs.getD (n % k) 0, s.fget (R.GDM_MAP_CBASE.chan_base_2m r) * 0x200000 + n / k * g + o % g)

/-- Map entry `r` is enabled and covers package address `pa`. -/
def State.mapCovers (s : State) (pa r : Nat) : Bool :=
  let base := gddrBase + s.fget (R.GDM_MAP_BASE.base_2m r) * 0x200000
  s.fon (R.GDM_MAP_CTL.enable r) && decide (base ≤ pa) && decide (pa < base + s.fget (R.GDM_MAP_BASE.size_2m r) * 0x200000)

/-- Where a package physical address lies; none where it is unmapped (R283). -/
def State.locOf (s : State) (pa : Nat) : Option Loc :=
  if padBase 0 ≤ pa ∧ pa < padBase 512 then some (.pad ((pa - padBase 0) / 0x400000) ((pa - padBase 0) % 0x400000))
  else if stagingBufBase 0 ≤ pa ∧ pa < stagingBufBase 128 then
    some (.staging ((pa - stagingBufBase 0) / 0x100000) ((pa - stagingBufBase 0) % 0x100000))
  else if llmBase 0 ≤ pa ∧ pa < llmBase 64 then some (.llm ((pa - llmBase 0) / 0x2000000) ((pa - llmBase 0) % 0x2000000))
  else if gddrBase ≤ pa then
    match (List.range 64).find? (s.mapCovers pa) with
    | some r =>
      let m := s.mapAt r (pa - (gddrBase + s.fget (R.GDM_MAP_BASE.base_2m r) * 0x200000))
      some (.gddr m.1 m.2)
    | none => none
  else none

/-! Entries that hardware disables (R305, R308, R324). -/

/-- Descriptor `d` is backed by map entry `r`. -/
def State.backedBy (s : State) (d r : Nat) : Bool :=
  let base := s.fget (R.RMM_RGN_BASE.base_2m d) * 0x200000
  s.fget (R.RMM_RGN_CFG.backing d) == 0 && decide (gddrBase + s.fget (R.GDM_MAP_BASE.base_2m r) * 0x200000 ≤ base) &&
    decide (base < gddrBase + (s.fget (R.GDM_MAP_BASE.base_2m r) + s.fget (R.GDM_MAP_BASE.size_2m r)) * 0x200000)

/-- Hardware disables a map entry, and with it every descriptor it backs. -/
def State.disableMap (s : State) (r : Nat) : State :=
  if s.fon (R.GDM_MAP_CTL.enable r) then
    ((List.range 4096).filter (fun d => s.fon (R.RMM_RGN_CFG.enable d) && s.backedBy d r)).foldl
      (fun s d => s.fset (R.RMM_RGN_CFG.enable d) 0) (s.fset (R.GDM_MAP_CTL.enable r) 0)
  else s

/-- Every map entry that names a channel is disabled. -/
def State.disableMaps (s : State) (ch : Nat) : State :=
  ((List.range 64).filter (fun r => bit (s.fget (R.GDM_MAP_CHAN.channel_mask r)) ch)).foldl State.disableMap s

/-- Key in memory of a location. -/
def Loc.key (l : Loc) : Nat :=
  match l with
  | .pad c off => padBase c + off
  | .staging k off => stagingBufBase k + off
  | .llm u off => llmBase u + off
  | .gddr ch loc => gddrKey ch loc

/-- Partition that owns a location. -/
def State.locPart (s : State) (l : Loc) : Option Nat :=
  match l with
  | .pad c _ => s.partOfTcore c
  | .staging k _ => s.partOfCluster k
  | .llm u _ => s.partOfLlm u
  | .gddr ch _ => s.partOfChan ch

/-- The recovery that holds the unit of a location in reset: of its cluster, or of the partition that owns it (R492, R493,
R497). A stack in reset makes its requests wait instead (R26). -/
def State.heldBy (s : State) (l : Loc) : Option Recovery :=
  s.recs.find? (fun r =>
    match r.domain, l with
    | .cluster k, .pad c _ => c / 4 == k
    | .cluster k, .staging j _ => j == k
    | .partition _, .gddr _ _ => false
    | .partition p, l => s.locPart l == some p
    | _, _ => false)

/-- The unit of a location is in service and addressable (R283), and not held in reset. -/
def State.locUp (s : State) (l : Loc) : Bool :=
  (s.heldBy l).isNone && match l with
  | .pad c _ => s.tcoreUp c
  | .staging k _ => [4 * k, 4 * k + 1, 4 * k + 2, 4 * k + 3].any s.tcoreUp
  | .llm u _ => s.llmUp u && !s.llmCached u
  | .gddr ch _ => s.chanTrained ch

/-- A request ends FAULT_ADDR: where its target is held in reset, that is logged as CORRECTED with the sequencer's slot
(R497). -/
def State.reportHeld (s : State) (pa : Nat) : State :=
  match (s.locOf pa).bind s.heldBy with
  | some r => s.report srcSequencer codeRecoveryReport 0 r.slot
  | none => s

/-- An access of partition `p` reaches the location at `pa` (R283). -/
def State.reach (s : State) (p : Option Nat) (pa : Nat) : Option Loc :=
  match s.locOf pa with
  | some l => if s.locUp l && p.isSome && s.locPart l == p then some l else none
  | none => none

/-- Every 64 B line of [pa, pa + n) is reached. -/
def State.reachAll (s : State) (p : Option Nat) (pa n : Nat) : Bool :=
  (List.range (n / 64 + 2)).all (fun i =>
    let a := if i = 0 then pa else (pa / 64 + i) * 64
    decide (pa + n ≤ a) || (s.reach p a).isSome)

/-- Key in memory of a package physical address; addresses that lie nowhere have a key no memory uses. -/
def State.paKey (s : State) (pa : Nat) : Nat :=
  match s.locOf pa with
  | some l => l.key
  | none => 2 ^ 60 + pa

/-- Bytes at a package physical address. -/
def State.paBytes (s : State) (pa n : Nat) : List Byte := (List.range n).map (fun i => s.byte (s.paKey (pa + i)))

/-- Store bytes at a package physical address. -/
def State.paStore (s : State) (pa : Nat) (bs : List Byte) : State :=
  (List.range bs.length).foldl (fun t i => t.write (s.paKey (pa + i)) [bs.getD i 0]) s

/-- Home M-die of a location in LLM or GDDR7 (R294). -/
def Loc.home (l : Loc) : Option Nat :=
  match l with
  | .llm u _ => some (u / 8)
  | .gddr ch _ => some (ch / 8)
  | _ => none

/-! The home M-die: write-combining buffer, cache-mode hits, channel queues. -/

/-- A line is named by its key in memory, divided by 64. -/
def Loc.line (l : Loc) : Nat := l.key / 64

/-- Single-bit errors and poison of the copy of a GDDR7 word that a cache-mode unit holds are kept apart from those of
GDDR7 itself, under this key (R289, R302). -/
def copyKey (key : Nat) : Nat := 2 ^ 61 + key

/-- Key of the errors that a read of a location meets: those of the copy where a cache-mode unit holds the line. -/
def State.errKey (s : State) (l : Loc) : Nat :=
  match l with
  | .gddr _ _ => if (s.dirLine l.line).cached then copyKey l.key else l.key
  | _ => l.key

/-- Some word of a location's next `n` bytes, within its line, is poisoned. -/
def State.poisonAt (s : State) (l : Loc) (n : Nat) : Bool := s.poisonedIn (s.errKey l) n

/-- Pieces of [pa, pa + n) by line: (offset from pa, length). -/
def linePieces (fuel pa n off : Nat) : List (Nat × Nat) :=
  match fuel with
  | 0 => []
  | fuel + 1 =>
    if n = 0 then []
    else
      let k := Nat.min n (64 - pa % 64)
      (off, k) :: linePieces fuel (pa + k) (n - k) (off + k)

/-- Some word read at a package physical address is poisoned. -/
def State.paPoisoned (s : State) (pa n : Nat) : Bool :=
  (linePieces (n / 64 + 2) pa n 0).any (fun pc =>
    match s.locOf (pa + pc.1) with
    | some l => s.poisonAt l pc.2
    | none => false)

/-- Words of [a, a + n) that hold a single-bit error are corrected on read and written back, each logged once as
CORRECTED and counted (R281, R289, R302). -/
def State.correct (s : State) (a n src code : Nat) (cnt : Option Fld) : State :=
  let hit := fun (w : Nat) => decide (a < 8 * w + 8) && decide (8 * w < a + n)
  (s.weak.filter hit).foldl (fun s _ =>
      (match cnt with | some f => s.fincSat f 1 | none => s).reportOpen src code 0)
    { s with weak := s.weak.filter (fun w => !hit w) }

/-- A read of bytes at a location corrects its single-bit errors: those of an LLM copy count to the slice. -/
def State.correctAt (s : State) (l : Loc) (n : Nat) : State :=
  match l with
  | .pad c _ => s.correct l.key n (srcTcore c) codeSramCorrected (some (R.TC_SP_STATUS.ecc_corrected c))
  | .staging k _ => s.correct l.key n (srcCluster k) codeSramCorrected none
  | .llm u _ => s.correct l.key n (srcSlice (u / 8)) codeLlmCorrected (some (R.LLM_ECC_CNT.corrected (u / 8)))
  | .gddr ch _ =>
    if (s.dirLine l.line).cached then
      s.correct (copyKey l.key) n (srcSlice (ch / 8)) codeLlmCorrected (some (R.LLM_ECC_CNT.corrected (ch / 8)))
    else s.correct l.key n (srcChan ch) codeEccCorrected (some (R.GDM_CH_ECC.corrected ch))

/-- Slots of a partition's cache-mode units exist for a location in GDDR7 (R290). -/
def State.cacheable (s : State) (l : Loc) : Bool :=
  match l with
  | .gddr ch _ => (match s.partOfChan ch with | some p => s.llmCacheMask p != 0 | none => false)
  | _ => false

/-- Queue a read of a GDDR7 line, in its class (R309): 0 normal, 1 latency-critical, 2 bulk. A read of a line with a
queued write returns that data and never reaches the device (R311). -/
def State.queueRead (s : State) (ch loc cls : Nat) : State :=
  let c := s.chan ch
  if c.wq.any (fun q => q.line == loc / 64) then s
  else if c.rq.length < 64 then s.setChan ch { c with rq := c.rq ++ [{ line := loc / 64, cls := cls }] } else s

/-- Queue a write of a GDDR7 line. -/
def State.queueWrite (s : State) (ch loc : Nat) : State :=
  let c := s.chan ch
  if c.wq.length < 64 then s.setChan ch { c with wq := c.wq ++ [{ line := loc / 64, cls := 0 }] } else s

/-- Location of a line named by its key divided by 64. -/
def locOfLine (line : Nat) : Option Loc :=
  let k := 64 * line
  if gddrKey 0 0 ≤ k ∧ k < gddrKey 64 0 then some (.gddr ((k - gddrKey 0 0) / 2 ^ 36) ((k - gddrKey 0 0) % 2 ^ 36))
  else if llmBase 0 ≤ k ∧ k < llmBase 64 then some (.llm ((k - llmBase 0) / 0x2000000) ((k - llmBase 0) % 0x2000000))
  else none

/-- Home M-die of a line. -/
def lineHome (line : Nat) : Option Nat := (locOfLine line).bind Loc.home

/-- A dirty line of a cache-mode unit is written back to its channel (R290). The write of the whole line ends what errors
GDDR7 holds there (R302); of a line with a poisoned word GDDR7 takes a poisoned line (log 76). -/
def State.writeBack (s : State) (line : Nat) : State :=
  match locOfLine line with
  | some (.gddr ch loc) =>
    let k := 64 * line
    let bad := s.poisonedIn (copyKey k) 64
    let s1 := (s.correctAt (.gddr ch loc) 64).clearPoison k 64
    let s2 := if bad then (List.range 8).foldl (fun s i => s.setPoison (k + 8 * i)) s1 else s1
    s2.queueWrite ch loc
  | _ => s

/-- The cache-mode units give up a line: written back where dirty, and with it go the errors of the copy (R290). -/
def State.evictLine (s : State) (line : Nat) : State :=
  let d := s.dirLine line
  if d.cached then
    ((if d.dirty then s.writeBack line else s).clearPoison (copyKey (64 * line)) 64).setDirLine line
      { d with cached := false, dirty := false }
  else s

/-- The home takes a whole line: a cache-mode unit allocates it (R290), or its channel does. -/
def State.homeWrite (s : State) (l : Loc) : State :=
  match l with
  | .gddr ch loc =>
    if s.cacheable l then s.setDirLine l.line { s.dirLine l.line with cached := true, dirty := true } else s.queueWrite ch loc
  | _ => s

/-- A P core that owns a modified copy of a line gives it to the home and keeps it shared (R294: MESI). -/
def State.cleanOwner (s : State) (l : Loc) : State :=
  let d := s.dirLine l.line
  match d.owner with
  | some o => (s.setDirLine l.line { d with owner := none, sharers := insertNat d.sharers o }).homeWrite l
  | none => s

/-- A miss of the cache-mode units fills them from GDDR7: the read corrects the line's errors there, and poison comes
with the line (R289, R290, R302). -/
def State.fillLine (s : State) (l : Loc) (ch loc cls : Nat) : State :=
  let k := 64 * l.line
  let bad := s.poisonedIn k 64
  let s1 := (((s.finc (R.LLM_MISSES.misses (ch / 8)) 1).queueRead ch loc cls).correct k 64 (srcChan ch) codeEccCorrected
    (some (R.GDM_CH_ECC.corrected ch))).setDirLine l.line { s.dirLine l.line with cached := true, dirty := false }
  if bad then (List.range 8).foldl (fun s i => s.setPoison (copyKey k + 8 * i)) s1 else s1

/-- A read of one line at its home (R290, R294, R309): it meets the latest value; a hit of a cache-mode unit ends there; a
miss fills the cache from the channel. Which cached lines have been evicted by then the spec leaves open (log 5); an evicted
dirty line has been written back. -/
def State.readLine (s : State) (l : Loc) (cls : Nat) : State :=
  let s0 := s.cleanOwner l
  match l with
  | .gddr ch loc =>
    if s0.cacheable l then
      let s1 := if Config.evicted s0.free then s0.drawn.evictLine l.line else s0.drawn
      if (s1.dirLine l.line).cached then s1.finc (R.LLM_HITS.hits (ch / 8)) 1 else s1.fillLine l ch loc cls
    else s0.queueRead ch loc cls
  | _ => s0

/-- An entry of the write-combining buffer drains as a read-merge-write of its line (R292). -/
def State.drainWcb (s : State) (m : Nat) (e : WcbEntry) : State :=
  let s1 := (s.setWcbOf m ((s.wcbOf m).filter (fun x => x.line != e.line))).finc (R.LLM_WCB_CNT.drains m) 1
  match locOfLine e.line with
  | some l => ((s1.readLine l 0).correctAt l 64).homeWrite l
  | none => s1

/-- Merge a partial write into the write-combining buffer of its home (R292); with all 256 entries in use the oldest drains
first, so that no write is dropped or overtaken (R293). `off` is the offset in the line. An entry whose mask fills drains.
A read of the line returns the merged data: memory holds the latest bytes at once. -/
def State.combine (s : State) (m line off : Nat) (bs : List Byte) : State :=
  let es := s.wcbOf m
  let put := fun (e : WcbEntry) =>
    { e with data := putBytes e.data off bs, mask := (List.range 64).map (fun i => e.mask.getD i false || (decide (off ≤ i) && decide (i < off + bs.length))) }
  match es.find? (fun e => e.line == line) with
  | some e =>
    let s1 := s.setWcbOf m (es.map (fun x => if x.line = line then put x else x))
    if (put e).mask.all id then s1.drainWcb m (put e) else s1
  | none =>
    let new := put { line := line, mask := List.replicate 64 false, data := List.replicate 64 0 }
    match es with
    | oldest :: _ =>
      let s1 := if 256 ≤ es.length then s.drainWcb m oldest else s
      s1.setWcbOf m (s1.wcbOf m ++ [new])
    | [] => s.setWcbOf m [new]

/-- A pending entry of a line drains (R292). -/
def State.drainLine (s : State) (m line : Nat) : State :=
  match (s.wcbOf m).find? (fun e => e.line == line) with
  | some e => s.drainWcb m e
  | none => s

/-- A FENCE drains the lines its source wrote in part (R292). -/
def State.drainLines (s : State) (ls : List Nat) : State :=
  ls.foldl (fun s l => match lineHome l with | some m => s.drainLine m l | none => s) s

/-- A write of one line, or part of one, at its home: a partial write enters the write-combining buffer, a full
one replaces its entry (R292) and allocates its line in a cache-mode unit (R290) or goes to the channel. Other
copies of the line are invalidated (R294). -/
def State.writeLine (s : State) (l : Loc) (bs : List Byte) : State :=
  match l.home with
  | none => s
  | some m =>
    let off := l.key % 64
    if off = 0 ∧ bs.length = 64 then
      let s1 := s.setWcbOf m ((s.wcbOf m).filter (fun e => e.line != l.line))
      (s1.setDirLine l.line .none).homeWrite l
    else ((s.cleanOwner l).setDirLine l.line { (s.cleanOwner l).dirLine l.line with owner := none, sharers := [] }).combine m l.line off bs

/-- Every line that the cache-mode units of partition `p` hold is written back where dirty and given up (R64). Which unit
holds a line is a hash the spec does not give (log 16). -/
def State.writeBackPart (s : State) (p : Nat) : State :=
  ((s.dir.filter (fun e => e.2.cached && (match locOfLine e.1 with | some l => s.locPart l == some p | none => false))).map
    Prod.fst).foldl State.evictLine s

/-- A write ends the poison of what it covers whole: a GDDR7 line (R302), elsewhere a word (R281, R289); a line held in
a cache-mode unit counts by word. -/
def State.endPoison (s : State) (l : Loc) (n : Nat) : State :=
  match l with
  | .gddr _ _ =>
    if (s.dirLine l.line).cached then s.clearPoison (copyKey l.key) n
    else if l.key % 64 = 0 ∧ n = 64 then s.clearPoison l.key n
    else s
  | _ => s.clearPoison l.key n

/-- A store of bytes at package physical addresses, line by line: memory holds the latest value at once, and the
homes of the lines take the writes. -/
def State.storePa (s : State) (pa : Nat) (bs : List Byte) : State :=
  let s1 := (linePieces (bs.length / 64 + 2) pa bs.length 0).foldl (fun s pc =>
    match s.locOf (pa + pc.1) with
    | some l => (s.endPoison l pc.2).writeLine l ((bs.drop pc.1).take pc.2)
    | none => s) s
  s1.paStore pa bs

/-- A read of bytes at package physical addresses: the homes of the lines see it. -/
def State.touchPa (s : State) (pa n cls : Nat) : State :=
  (linePieces (n / 64 + 2) pa n 0).foldl (fun s pc =>
    match s.locOf (pa + pc.1) with
    | some l => (s.readLine l cls).correctAt l pc.2
    | none => s) s

/-- A store into a scratchpad by its own engines: whole words end their poison (R281). -/
def State.storePad (s : State) (c off : Nat) (bs : List Byte) : State :=
  (s.write (padBase c + off) bs).clearPoison (padBase c + off) bs.length

/-- A read of a scratchpad corrects its single-bit errors. -/
def State.readPad (s : State) (c off n : Nat) : State :=
  s.correctAt (.pad c off) n

/-- Bytes of a scratchpad. -/
def State.padBytes (s : State) (c off n : Nat) : List Byte := s.bytes (padBase c + off) n

end Sys2Proof.Machine
end

