-- ==== Sys2Proof/Machine/Reset.lean ====
section
/-! DEFINITION. The resets (R460 to R462, R492 to R494, R553) as operations on State: cold, warm, and the resets
of a T-core, cluster, stack and partition; retiring a unit (R498); and the recovery queue (R495, R496). -/
namespace Sys2Proof.Machine

/-- Registers that a warm reset keeps whole: Night Watch and Eclipse (R461, R546), the error log and its window
(R490), and the columns retired in the field (R177). -/
def warmKeeps (off : Nat) : Bool :=
  decide (0x60000 ≤ off ∧ off < 0x80000) || decide (0x30000 ≤ off ∧ off < 0x40000) || decide (0xC0000 ≤ off ∧ off < 0xE0000) ||
    (decide (0x800000 ≤ off ∧ off < 0x1000000) && off % 0x4000 == 0x3D18)

/-- A register's word with every field returned to reset but its RWS fields (R553). -/
def stickyWord (off : Nat) (w : Word) : Word :=
  match regFields off with
  | none => 0
  | some fs =>
    fs.foldl (fun r f => if f.acc = .rws then setField r f.lo f.width (getField w f.lo f.width) else r) (resetReg off)

/-- A status register of a channel. -/
def isChStatus (off : Nat) : Bool := decide (0x200000 ≤ off ∧ off < 0x220000) && off % 0x800 == 8

/-- A channel retired in service stays retired, and dies stay marked (R461: field retirements survive). -/
def warmWord (off : Nat) (w : Word) : Word :=
  if warmKeeps off || off == A.GLB_DIE_RETIRED then w
  else if isChStatus off && getField w 0 3 == 4 then setField (stickyWord off w) 0 3 4
  else stickyWord off w

/-- The registers after a reset that maps each listed word by `f`, in canonical form. -/
def resetRegs (f : Nat → Word → Word) (m : Assoc Word) : Assoc Word :=
  (m.map (fun e => (e.1, f e.1 e.2))).filter (fun e => decide (e.2 ≠ resetReg e.1))

/-- Retirement marks survive where the reset keeps field retirements. -/
def keepRetired (m : Assoc TCore) : Assoc TCore :=
  (m.filter (fun e => e.2.cc.retired)).map (fun e => (e.1, { TCore.reset with cc := { Jumbe.reset with retired := true } }))

def keepRetiredP (m : Assoc Jumbe) : Assoc Jumbe :=
  (m.filter (fun e => e.2.retired)).map (fun e => (e.1, { Jumbe.reset with retired := true }))

def keepRetiredSe (m : Assoc SeState) : Assoc SeState :=
  (m.filter (fun e => e.2.retired)).map (fun e => (e.1, { SeState.reset with retired := true }))

/-- What the drives hold for the almanac outlives every reset; the sequence does not (R462, R521). -/
def keepDrives (a : Alm) : Alm :=
  { Alm.reset with ptrs := a.ptrs, manifests := a.manifests, shards := a.shards }

/-- A cold reset (R460): every field and every retirement is cleared; fuses, OTP, flash, drives, pins and time stay. -/
def State.coldReset (s : State) : State :=
  { State.reset with
    pending := s.pending, clock := s.clock, free := s.free, out := s.out, nv := s.nv, alm := keepDrives s.alm,
    pins := s.pins }

/-- A warm reset for a cause of GLB_BOOT (R461): RWS fields, field retirements, the error log with its waiting
reports, Night Watch and Eclipse registers survive; memory, partial images and everything in flight are lost. The
package is then held in reset until its boot start (R464). -/
def State.warmReset (s : State) (cause : Nat) : State :=
  -- SHUTDOWN outlasts a reset: only its own exit ends it (R534)
  let shut := s.fget R.NWT_STATUS.pstate == 4
  let t : State :=
    { State.reset with
      pending := s.pending, clock := s.clock, free := s.free, out := s.out, nv := s.nv, alm := keepDrives s.alm,
      pins := s.pins, nwt := { s.nwt with night := shut, wakeSource := 0, wakeAtNs := none }, regs := resetRegs warmWord s.regs,
      tcores := keepRetired s.tcores, pcores := keepRetiredP s.pcores, ses := keepRetiredSe s.ses,
      llmRetired := s.llmRetired, portsRetired := s.portsRetired, reports := s.reports, fatals := s.fatals, logMeta := s.logMeta }
  let t1 := t.fset R.GLB_BOOT.reset_cause cause
  if shut then t1 else t1.fset R.NWT_STATUS.pstate 0

/-- on_fatal of ECL_CTL selects a class: the Eclipse then replaces the warm reset (R461, R541). -/
def State.eclipseSelects (s : State) (cls : Nat) : Bool :=
  match s.fget R.ECL_CTL.on_fatal with
  | 1 => cls == 4
  | 2 => cls == 3 || cls == 4
  | _ => false

/-- A PACKAGE_FATAL event is reported and causes a warm reset, unless an Eclipse is selected to replace it
(R461); the Eclipse starts when S0 takes the report. -/
def State.packageFatal (s : State) (source code : Nat) : State :=
  let s1 := s.reportOpen source code 4
  if s1.eclipseSelects 4 then s1 else s1.warmReset 2

/-! Per-core registers. -/

/-- Registers of one T-core: every field but its RWS fields returns to reset (R553); fused columns, retirements and
widths come back from the fuses and the record. -/
def coreWord (c : Nat) (off : Nat) (w : Word) : Word :=
  if 0x800000 + 0x4000 * c ≤ off ∧ off < 0x800000 + 0x4000 * (c + 1) then
    if off = A.TC_ME_FUSED c ∨ off = A.TC_PX_RETIRED c then w else stickyWord off w
  else w

/-- Reset one T-core: engines, control core, per-core registers, scratchpad. -/
def State.resetTcore (s : State) (c : Nat) : State :=
  let gone := (s.tcore c).cc.retired
  let s1 : State := { s with regs := resetRegs (coreWord c) s.regs }
  let s2 := s1.setTcore c { TCore.reset with cc := { Jumbe.reset with retired := gone } }
  ((s2.zero (0x1000000000 + 0x400000 * c) 0x400000).setRecorded c [] |>.loadMode c).setWidth c

/-- Posts and parked messages of a cluster are discarded (R493). -/
def State.clearCluster (s : State) (k : Nat) : State :=
  { s with
    posts := s.posts.filter (fun e => e.1 / 64 != k), slots := s.slots.filter (fun e => e.1 / 64 != k),
    parked := s.parked.filter (fun m => m.cluster != k), rx := s.rx.filter (fun m => m.cluster != k),
    outbox := s.outbox.filter (fun e => e.1 != k), tombs := s.tombs }.zero (stagingBufBase k) 0x100000
    |>.setRecorded (1024 + k) []

def coresOfCluster (k : Nat) : List Nat := [4 * k, 4 * k + 1, 4 * k + 2, 4 * k + 3]

/-- A cluster reset (R493, R494): its cores' private state, its staging buffer, posts and parked messages are lost;
owner epochs advance. -/
def State.resetCluster (s : State) (k : Nat) : State :=
  let s1 := (coresOfCluster k).foldl State.resetTcore s
  (s1.clearCluster k).advanceEpochs ((coresOfCluster k).map Who.tcore)

/-- A stack reset (R493): its clusters, the lines of its slice written back by then, scratchpad-mode units zeroed;
GDDR7 keeps its contents. -/
def State.resetStack (s : State) (n : Nat) : State :=
  let s1 := ((List.range 16).map (fun i => 16 * n + i)).foldl State.resetCluster s
  let s2 := (List.range 8).foldl (fun s u =>
    if s.llmCached (8 * n + u) then s else s.zero (llmBase (8 * n + u)) 0x2000000) s1
  { s2.setWcbOf n [] with dir := s2.dir.filter (fun e =>
      !(decide (llmBase (8 * n) ≤ 64 * e.1) && decide (64 * e.1 < llmBase (8 * n + 8)))) }

/-! Retirement (R498). -/

/-- A T-core is retired: its private state is lost, its epoch advances, and every count changes at once (R558). -/
def State.retireTcore (s : State) (c : Nat) : State :=
  let p := s.partOfTcore c
  let s1 := (s.reportOpen (srcTcore c) codeCoreRetired 2).resetTcore c
  let s2 := s1.onCore c (fun t => { t with cc := { t.cc with retired := true } })
  ((s2.fset (R.TC_CC_STATUS.state c) 4).advanceEpochs [.tcore c]).recount p

def State.retirePcore (s : State) (c : Nat) : State :=
  let p := s.partOfPcore c
  let s1 := (s.reportOpen (srcPcore c) codeCoreRetired 2).setPcore c { Jumbe.reset with retired := true }
  (s1.advanceEpochs [.pcore c]).recount p

/-- Change the solve of an engine. -/
def State.onSolve (s : State) (n : Nat) (f : Solve → Solve) : State :=
  s.setSe n { s.se n with solve := (s.se n).solve.map f }

/-- Count busy cycles at 1.6 GHz (R272). -/
def State.solveClock (s : State) (n : Nat) : State :=
  match (s.se n).solve with
  | none => s
  | some v =>
    let c := fun t => (t - v.began) * 8 / 5
    (s.onSolve n (fun v => { v with counted := s.clock })).finc (R.SLV_BUSY_CYC.busy_cycles n) (c s.clock - c v.counted)

/-- Members of partitioned solves that `f` picks have lost a member (R267). -/
def State.shrinkSolves (s : State) (f : Solve → Bool) : State :=
  (List.range 16).foldl (fun s n => s.onSolve n (fun v => if leAt v.block 0x86 2 ≠ 1 ∧ f v then { v with lost := true } else v)) s

/-- The solve of an engine that is lost (R267, R270, R271): a single-engine solve under auto-reissue waits for another engine,
to go on from x_best; any other ends as LOST with progress 0, its workspace header valid. -/
def State.loseSolve (s : State) (n : Nat) : State :=
  match (s.se n).solve with
  | none => s
  | some v =>
    let s1 := (((s.solveClock n).shrinkSolves (fun w => w.part == v.part && leAt w.block 0x88 8 == leAt v.block 0x88 8)).fset
      (R.SLV_TAG.valid n) 0).fset (R.SLV_STATUS.stop n) 11
    match s1.op v.slot with
    | none =>
      if leAt v.block 0x86 2 = 1 ∧ s1.fon (R.PRT_CTL.auto_reissue v.part) then { s1 with resumes := s1.resumes ++ [(v.part, v.block, v.it)] }
      else s1
    | some o =>
      if leAt v.block 0x86 2 = 1 ∧ s1.fon (R.PRT_CTL.auto_reissue o.partition) then
        let o1 : Op := { o with resumeIt := v.it, reissues := o.reissues + 1, aux := Nat.min (o.aux + leAt v.block 0x68 8) 65535 }
        (s1.setOp v.slot (some o1)).flagOp v.slot (flagReissued ||| flagHard)
      else ((s1.onOp v.slot (fun o => { o with progress := 0 })).flagOp v.slot (flagHard ||| flagCount)).endOp v.slot stPartial

/-- A solver engine is retired. -/
def State.retireSe (s : State) (n : Nat) : State :=
  let p := s.partOfSe n
  let s0 := s.loseSolve n
  let s1 := (s0.reportOpen (srcSe n) codeSeRetired 2).setSe n { SeState.reset with retired := true }
  (s1.advanceEpochs [.se n]).recount p

/-- Cores of a partition narrower than its min_width are retired when it is formed (R47). -/
def State.retireNarrow (s : State) (p : Nat) : State :=
  ((s.partTcores p).filter (fun c => decide ((s.colsUp c).length < s.partMinWidth p))).foldl
    (fun s c => (s.reportOpen (srcTcore c) codeWidthBelowMin 2).retireTcore c) s

/-- Partition `p` is formed from the sections in force: its fields from those that `has` names, its narrow cores
retired, its widths (R47, R50, R553). -/
def State.formPart (s : State) (has : Nat → Bool) (p : Nat) : State :=
  ((s.loadPart has p).retireNarrow p).rewidthPart p

/-- A partition reset under the structure in force (R493, R494, R553): operations end PARTIAL with the hard flag;
scratchpads, staging buffers and LLM units are zeroed; GDDR7 keeps its contents; per-core, SLV, TRN_PART and PRT
registers return to reset but for RWS fields; owner epochs advance. -/
def State.resetPartition (s : State) (p : Nat) : State :=
  let cl := bitsOf 128 (s.clusterMask p)
  let pcs := bitsOf 192 (s.pcoreMask p)
  let ses := bitsOf 16 (s.seMask p)
  let s1 := s.endPartOps p stPartial flagHard
  let s2 := cl.foldl State.resetCluster s1
  let s3 := pcs.foldl (fun s c => s.setPcore c { Jumbe.reset with retired := (s.pcore c).retired }) s2
  let s4 := ses.foldl (fun s n => s.setSe n { SeState.reset with retired := (s.se n).retired }) s3
  let s5 := (bitsOf 64 (s4.llmMask p)).foldl (fun s u => s.zero (llmBase u) 0x2000000) s4
  let s6 := s5.advanceEpochs (pcs.map Who.pcore ++ ses.map Who.se)
  let inBlock := fun off =>
    decide (A.TRN_PART_CTL p ≤ off ∧ off < A.TRN_PART_CTL p + 0x20) ||
      decide (A.PRT_CTL p ≤ off ∧ off < A.PRT_CTL p + 0x100) ||
      ses.any (fun n => decide (0x400000 + 0x10000 * n ≤ off ∧ off < 0x400000 + 0x10000 * (n + 1)))
  let resets := s6.fget (R.PRT_CNT.resets p)
  let s7 : State := { s6 with resumes := s6.resumes.filter (fun r => r.1 != p), regs := resetRegs (fun off w => if inBlock off then stickyWord off w else w) s6.regs }
  (s7.formPart (fun _ => true) p).fset (R.PRT_CNT.resets p) (Nat.min (resets + 1) 65535)

/-! The recovery sequencer (R492, R495, R496). -/

/-- Level of a domain: the order in which R492 escalates. -/
def domLevel (d : Domain) : Nat :=
  match d with
  | .tcore _ => 0
  | .pcore _ => 0
  | .se _ => 0
  | .cluster _ => 1
  | .stack _ => 2
  | .partition _ => 3
  | .package => 4

/-- T-clusters of a domain. -/
def State.domClusters (s : State) (d : Domain) : List Nat :=
  match d with
  | .tcore n => [n / 4]
  | .cluster k => [k]
  | .stack n => (List.range 16).map (fun i => 16 * n + i)
  | .partition p => bitsOf 128 (s.clusterMask p)
  | .package => List.range 128
  | _ => []

/-- Domain `d` lies inside `e`, or is `e` (R492: Contains). -/
def State.domIn (s : State) (d e : Domain) : Bool :=
  d == e ||
    match e with
    | .package => true
    | .tcore _ => false
    | .pcore _ => false
    | .se _ => false
    | .cluster k => (match d with | .tcore n => n / 4 == k | _ => false)
    | .stack n => (match d with | .tcore c => c / 64 == n | .cluster k => k / 16 == n | _ => false)
    | .partition p =>
      (match d with
       | .tcore c => s.partOfTcore c == some p
       | .pcore c => s.partOfPcore c == some p
       | .se n => s.partOfSe n == some p
       | .cluster k => s.partOfCluster k == some p
       | .stack n =>
         (List.range 16).all (fun i => s.partOfCluster (16 * n + i) == some p) &&
           (List.range 8).all (fun i => s.partOfChan (8 * n + i) == some p && s.partOfLlm (8 * n + i) == some p)
       | _ => false)

/-- Two domains share a unit. -/
def State.domMeets (s : State) (d e : Domain) : Bool :=
  s.domIn d e || s.domIn e d ||
    match d, e with
    | .stack n, .partition p => (List.range 16).any (fun i => s.partOfCluster (16 * n + i) == some p) ||
        (List.range 8).any (fun i => s.partOfChan (8 * n + i) == some p || s.partOfLlm (8 * n + i) == some p)
    | .partition p, .stack n => (List.range 16).any (fun i => s.partOfCluster (16 * n + i) == some p) ||
        (List.range 8).any (fun i => s.partOfChan (8 * n + i) == some p || s.partOfLlm (8 * n + i) == some p)
    | _, _ => false

/-- What a domain escalates to (R492). A core or solver engine of no partition, and a stack with no partition's
unit, escalate to the package (log 14). -/
def State.escalate (s : State) (d : Domain) : List Domain :=
  match d with
  | .tcore n => [.cluster (n / 4)]
  | .pcore c => (match s.partOfPcore c with | some p => [.partition p] | none => [.package])
  | .se n => (match s.partOfSe n with | some p => [.partition p] | none => [.package])
  | .cluster k => [.stack (k / 16)]
  | .stack n =>
    let ps := (List.range 16).filter (fun p => s.partPresent p && s.domMeets (.stack n) (.partition p))
    if ps.isEmpty then [.package] else ps.map Domain.partition
  | .partition _ => [.package]
  | .package => [.package]

/-- Source identifier a recovery reports against. -/
def domSource (d : Domain) : Nat :=
  match d with
  | .tcore n => srcTcore n
  | .pcore n => srcPcore n
  | .se n => srcSe n
  | .cluster k => srcCluster k
  | .stack n => srcDie (dieM n)
  | .partition p => srcPart p
  | .package => srcPackage

/-- A recovery request joins the queue, or finds it full, which is PACKAGE_FATAL (R495, R496). -/
def State.queueRecovery (s : State) (d : Domain) : State :=
  if d = .package then s.packageFatal srcPackage codeEscalated
  else if s.recq.length < 32 then
    { s with recq := s.recq ++ [{ domain := d, slot := 0, start := s.clock, retire := true }] }
  else s.packageFatal srcSequencer codeQueueFull

end Sys2Proof.Machine
end

