-- ==== Sys2Proof/Machine/Eclipse.lean ====
section
/-! DEFINITION. Eclipse (R541 to R546): triggers, the freeze, and the end of the read-out. -/
namespace Sys2Proof.Machine

/-- Channels in service as a mask. -/
def State.chansUp (s : State) : Nat := maskOf ((List.range 64).filter s.chanTrained)

/-- A channel's contents are lost. -/
def State.loseChan (s : State) (ch : Nat) : State := s.zero (gddrKey ch 0) (2 ^ 36)

/-- The freeze (R542, R543): channels of `sr` hold their contents in self-refresh, the others lose them. -/
def State.freeze (s : State) (sr : Nat) : State :=
  let s1 := ((List.range 64).filter (fun n => !bit sr n)).foldl State.loseChan s
  let s2 : State := { s1 with ecl := { s1.ecl with phase := 2 } }
  (s2.fset R.ECL_TIME.time_ns (s2.fget R.TRN_TIME.time_ns)).fset R.ECL_SR_MASK.sr_mask sr

/-- A trigger of R541 arrives (R544): it starts an Eclipse; a fast one cuts the self-refresh phase of an orderly
one short; any other, and any in NIGHT or SHUTDOWN, is ignored and counted. -/
def State.eclTrigger (s : State) (code : Nat) (fast : Bool) : State :=
  if s.ecl.phase = 0 ∧ ¬ (s.fget R.NWT_STATUS.pstate = 2 ∨ s.fget R.NWT_STATUS.pstate = 4) then
    let s1 := (((((s.fset R.ECL_STATUS.valid 1).fset R.ECL_STATUS.cause code).fset R.ECL_STATUS.causes (2 ^ code)).fset
      R.ECL_STATUS.fast fast.toNat).fset R.ECL_STATUS.dump_ok 0).fset R.ECL_STATUS.dump_err 0
    let s2 := ((s1.raise (.pf 0) 6).raise (.pf 3) 0).reportOpen srcPackage codeEclipse 0
    if fast then { s2 with ecl := { phase := 2, fast := true } }.freeze 0
    else { s2 with ecl := { phase := 1, fast := false } }
  else if s.ecl.phase = 1 ∧ fast then
    let s1 := (s.fset R.ECL_STATUS.causes (s.fget R.ECL_STATUS.causes ||| 2 ^ code)).fset R.ECL_STATUS.fast 1
    { s1 with ecl := { s1.ecl with fast := true }, free := s1.free + 1 }.freeze
      (Config.selfRefreshed s1.free &&& s1.chansUp)
  else s.fincSat R.ECL_CNT.ignored 1

/-- ECLIPSE_N held low; a trigger from 100 ns on (R541). -/
def execEclipseN (ns : Nat) (s : State) : Res :=
  whenever (decide (100 ≤ ns)) (s.eclTrigger 1 (s.fon R.ECL_CTL.pin_fast)) s

/-- trigger written by PF0 or PF3, or the PLDM state effecter set (R541). -/
def execEclipseTrigger (fn : Fn) (s : State) : Res :=
  if fn = .pf 0 ∨ fn = .pf 3 ∨ fn = .mgmt then .next (s.eclTrigger 2 (s.fon R.ECL_CTL.cmd_fast))
  else .next (s.refuseWrite fn A.ECL_CTL true true)

/-- Every channel is in self-refresh: an orderly Eclipse freezes (R543). -/
def execSelfRefreshDone (s : State) : Res :=
  if s.ecl.phase = 1 then
    let s1 := ((List.range 64).filter s.chanTrained).foldl (fun s n => s.setChan n { s.chan n with selfRefresh := true }) s
    .next (s1.freeze s1.chansUp)
  else .next s

/-- The end of the read-out (R545, R546): a fast Eclipse, and an orderly one with resume 0, end in a warm reset;
with resume 1 every clock restarts, GDDR7 leaves self-refresh and retrains, ports restart from TRAIN. -/
def execReadoutDone (ok : Bool) (s : State) : Res :=
  if s.ecl.phase = 2 then
    let s1 := if ok then s.fset R.ECL_STATUS.dump_ok 1 else s.fset R.ECL_STATUS.dump_err 1
    let s2 : State := { s1 with ecl := .reset }
    if s.ecl.fast || !s.fon R.ECL_CTL.resume then .next (s2.warmReset 7)
    else
      let s3 := ((List.range 64).filter s2.chanTrained).foldl (fun s n =>
        ((s.setChan n { s.chan n with selfRefresh := false }).fset (R.GDM_CH_STATUS.state n) 3).raise (.pf 0) (96 + n)) s2
      let s4 := ((List.range 64).filter (fun n => s3.fon (R.SCP_PORT_CTL.enable n))).foldl (fun s n =>
        if s.fget (R.SCP_PORT_STATUS.state n) = 13 then [0, 1, 2, 3].foldl (fun s j => s.fset (subState n j) 2) s
        else s.putPortState n 2) s3
      let s5 : State := { s4 with links := s4.links.map (fun e => (e.1, { Link.reset with sendq := e.2.sendq })) |>.filter (fun e => e.2 != Link.reset) }
      .next (s5.recountPackage.fset R.TRN_STATUS.synced 0)
  else .next s

end Sys2Proof.Machine
end

