-- ==== Sys2Proof/Machine/Arbiter.lean ====
section
/-! DEFINITION. S0's maintenance arbiter (R503 to R506): conditions, conflicts, slots. -/
namespace Sys2Proof.Machine

/-- Who asks for an activity: 0 PF0, 1 firmware, 2 PLDM (R562). -/
def reqPf0 : Nat := 0
def reqFirmware : Nat := 1
def reqPldm : Nat := 2

/-- A unit of a die belongs to a partition (R503, activity 8). -/
def State.dieOwned (s : State) (d : Nat) : Bool :=
  if d < 16 then (List.range 8).any (fun i => (s.partOfCluster (8 * d + i)).isSome)
  else if d < 24 then (List.range 8).any (fun i => (s.partOfChan (8 * (d - 16) + i)).isSome || (s.partOfLlm (8 * (d - 16) + i)).isSome)
  else if d < 28 then (List.range 48).any (fun i => (s.partOfPcore (48 * (d - 24) + i)).isSome) ||
    (List.range 4).any (fun i => (s.partOfSe (4 * (d - 24) + i)).isSome)
  else if d < 36 then (List.range 8).any (fun i => (s.partOfPort (8 * (d - 28) + i)).isSome)
  else false

/-- The condition of an activity (R503). Activities 5 and 6 are not requested here (R562). -/
def State.mntCondition (s : State) (act dom : Nat) : Bool :=
  match act with
  | 1 => decide (dom < 64) && s.chanTrained dom
  | 2 => decide (dom < 8)
  | 3 => decide (dom < 128) && (s.partOfCluster dom).isNone
  | 4 => decide (dom < 64) && s.fget (R.SCP_PORT_STATUS.state dom) == 5
  | 7 => dom == 0
  | 8 => decide (dom < 40) && !s.dieOwned dom
  | _ => false

/-- Two activities that R504 calls unsafe together, first by code and domain. -/
def State.mntClash1 (s : State) (a da b db : Nat) : Bool :=
  (a == b && da == db) ||
    match a, b with
    | 5, 6 => true
    | 1, 6 => (match s.partOfChan da with | some p => bit (s.fget R.ALM_PLAN.part_mask) p | none => false)
    | 1, 8 => dieOfChan da == db
    | 2, 8 => dieM da == db
    | 3, 8 => dieOfCluster da == db
    | 4, 7 => true
    | 7, 8 => true
    | _, _ => false

def State.mntClash (s : State) (a da b db : Nat) : Bool := s.mntClash1 a da b db || s.mntClash1 b db a da

/-- Slots that are held. -/
def State.mntHeld (s : State) : List Nat := (List.range 16).filter (fun i => s.fon (R.MNT_SLOT.busy i))

/-- The holder of a slot that conflicts with an activity. -/
def State.mntConflict (s : State) (act dom : Nat) : Option Nat :=
  s.mntHeld.find? (fun i => s.mntClash act dom (s.fget (R.MNT_SLOT.activity i)) (s.fget (R.MNT_SLOT.domain i)))

/-- A slot that is free. -/
def State.mntFree (s : State) : Option Nat := (List.range 16).find? (fun i => !s.fon (R.MNT_SLOT.busy i))

/-- Take a slot for an activity. -/
def State.mntTake (s : State) (i act dom who : Nat) : State :=
  ((((s.fset (R.MNT_SLOT.busy i) 1).fset (R.MNT_SLOT.requester i) who).fset (R.MNT_SLOT.activity i) act).fset
    (R.MNT_SLOT.domain i) dom).fset (R.MNT_SLOT.progress i) 0

/-- An activity ends: its slot is freed, its last status written, PF0 vector 2 raised (R562, R563). -/
def State.mntEnd (s : State) (i status progress : Nat) : State :=
  (((s.fset (R.MNT_SLOT.busy i) 0).fset (R.MNT_SLOT.last_status i) status).fset (R.MNT_SLOT.progress i) progress).raise (.pf 0) 2

/-- What a request is answered: status, slot, holder, holder's domain (R505). -/
def State.mntDecide (s : State) (act dom : Nat) (cond : Bool) : Nat × Nat × Nat × Nat :=
  if !cond then (stInternal, 0, 0, 0)
  else
    match s.mntConflict act dom with
    | some i => (stMaintConflict, 0, s.fget (R.MNT_SLOT.activity i), s.fget (R.MNT_SLOT.domain i))
    | none =>
      match s.mntFree with
      | none => (stMaintConflict, 0, 0xFF, 0)
      | some i => (stDone, i, 0, 0)

/-- A request for an activity is decided: its slot is taken, or the refusal is logged (R505). -/
def State.mntGrant (s : State) (act dom who : Nat) (cond : Bool) : State × Nat × Nat × Nat × Nat :=
  let r := s.mntDecide act dom cond
  (if r.1 = stDone then s.mntTake r.2.1 act dom who else s.reportOpen srcArbiter codeMaintRefused 0, r)

/-- The slot that holds an activity. -/
def State.mntSlotOf (s : State) (act : Nat) : Option Nat :=
  s.mntHeld.find? (fun i => s.fget (R.MNT_SLOT.activity i) == act)

/-- A recovery covers the domain of an activity (R506): for a stack, its M-die, T-dies, slice and channels. An
almanac write is stopped only by a recovery of the package. -/
def State.mntCovered (s : State) (d : Domain) (act dom : Nat) : Bool :=
  match d with
  | .package => true
  | .stack n =>
    (match act with
     | 1 => dom / 8 == n
     | 2 => dom == n
     | 3 => dom / 16 == n
     | 8 => dom == dieM n || dom == dieT (2 * n) || dom == dieT (2 * n + 1)
     | _ => false)
  | .cluster k => act == 3 && dom == k
  | .partition p =>
    (match act with
     | 1 => s.partOfChan dom == some p
     | 2 => (List.range 8).all (fun u => s.partOfLlm (8 * dom + u) == some p)
     | 3 => s.partOfCluster dom == some p
     | 4 => s.partOfPort dom == some p
     | _ => false)
  | _ => false

/-- A recovery stops the activities whose domain it covers with MAINT_CONFLICT, naming the sequencer (R506). -/
def State.mntStop (s : State) (d : Domain) : State :=
  (s.mntHeld.filter (fun i => s.mntCovered d (s.fget (R.MNT_SLOT.activity i)) (s.fget (R.MNT_SLOT.domain i)))).foldl
    (fun s i => (s.fset R.MNT_RESULT.holder 0xFE).mntEnd i stMaintConflict (s.fget (R.MNT_SLOT.progress i))) s

end Sys2Proof.Machine
end

