-- ==== Sys2Proof/Machine/AlmOps.lean ====
section
/-! DEFINITION. What an almanac's end does, and the pointers on the drives (R507, R515, R518, R519, R521). -/
namespace Sys2Proof.Machine

/-- State of ALM_STATUS. -/
def State.almState (s : State) : Nat := s.fget R.ALM_STATUS.state

/-- The winning copy of two pointer copies (R519): 0 or 1 and the record; copy 0 on a tie. -/
def ptrWinner (a b : Bool × Nat × Nat × Nat) : Option (Nat × Bool × Nat × Nat × Nat) :=
  match a.1, b.1 with
  | true, true => if a.2.1 < b.2.1 then some (1, b) else some (0, a)
  | true, false => some (0, a)
  | false, true => some (1, b)
  | false, false => none

/-- The winning pointer of the own (0) or the buddy (1) area. -/
def State.almPtr (s : State) (area : Nat) : Option (Nat × Bool × Nat × Nat × Nat) :=
  ptrWinner (s.alm.ptrs.getD (2 * area) (false, 0, 0, 0)) (s.alm.ptrs.getD (2 * area + 1) (false, 0, 0, 0))

/-- Slot the winning pointer of an area names. -/
def State.almSlot (s : State) (area : Nat) : Option Nat := (s.almPtr area).map (fun w => w.2.2.2.1)

/-- ALM_LAST: the transit of the winning own pointer (R527). -/
def State.readAlmLast (s : State) : State := s.fset R.ALM_LAST.transit (((s.almPtr 0).map (fun w => w.2.2.2.2)).getD 0)

/-! Places and blocks on the drives (R515). -/

/-- Drives in ascending port order. -/
def State.driveList (s : State) : List Nat := bitsOf 4 (s.fget R.ALM_NVME.drive_mask)

def State.almDrives (s : State) : Nat := s.driveList.length

/-- Blocks of one slot: a quarter of the slot space of all drives. -/
def State.slotBlocks (s : State) : Nat := s.almDrives * (s.fget R.ALM_AREA_LEN.area_len - 256) / 4

/-- Drive and logical block of block `b` of a slot (area x 2 + slot): units of 1 MiB go round the drives. -/
def State.slotBlock (s : State) (place b : Nat) : Nat × Nat :=
  let n := Nat.max 1 s.almDrives
  let k := place * s.slotBlocks + b
  (s.driveList.getD (k / 256 % n) 0, s.fget R.ALM_AREA.area_lba + 256 + k / 256 / n * 256 + k % 256)

/-- Drive and logical block of a pointer copy: copy 1 lies on the second drive, or behind copy 0 on the only one. -/
def State.ptrBlock (s : State) (area copy : Nat) : Nat × Nat :=
  let lba := s.fget R.ALM_AREA.area_lba
  if copy = 0 then (s.driveList.getD 0 0, lba + area)
  else if s.almDrives < 2 then (s.driveList.getD 0 0, lba + 2 + area)
  else (s.driveList.getD 1 0, lba + area)

/-- Bytes cut or padded with zeros to a fixed size. -/
def sized (n : Nat) (b : List Byte) : List Byte := (b ++ List.replicate n 0).take n

/-- Bytes followed by their CRC-64 of R180. -/
def withCrc64 (b : List Byte) : List Byte := b ++ leBytes 8 (crc64 b)

/-- The block of a pointer record. -/
def pointerBlock (seq slot transit : Nat) : List Byte :=
  sized 4096 (withCrc64 (sized 0x38 (leBytes 4 0x52545041 ++ leBytes 4 0 ++ leBytes 8 seq ++ leBytes 1 slot ++ List.replicate 7 0 ++ leBytes 8 transit)))

/-- The block of a shard trailer. -/
def trailerBlock (id transit : Nat) (b : List Byte) : List Byte :=
  sized 4096 (withCrc64 (sized 0x58 (leBytes 4 0x4C525453 ++ leBytes 2 id ++ leBytes 2 0 ++ leBytes 8 b.length ++ leBytes 8 transit ++ sha384 b)))

/-- Blocks of 4 KiB a shard takes with its trailer. -/
def shardBlocks (len : Nat) : Nat := (len + 4095) / 4096 + 1

/-- A shard as the drives hold it: padded to whole blocks, then its trailer. -/
def shardOnDrive (id transit : Nat) (b : List Byte) : List Byte :=
  sized (4096 * (shardBlocks b.length - 1)) b ++ trailerBlock id transit b

/-- Write the losing pointer copy of an area with seq + 1, then flush (R518). -/
def State.writePtr (s : State) (area slot transit : Nat) : State :=
  let w := s.almPtr area
  let i := match w with | some x => 1 - x.1 | none => 0
  let seq := (match w with | some x => x.2.2.1 + 1 | none => 1) % 2 ^ 64
  { s with alm := { s.alm with ptrs := updateAt s.alm.ptrs (2 * area + i) (fun _ => (true, seq, slot, transit)) } }

/-- The write of it on its way to the drives. -/
def State.sendPtr (s : State) (area slot transit : Nat) : State :=
  let w := s.almPtr area
  let at_ := s.ptrBlock area (match w with | some x => 1 - x.1 | none => 0)
  let seq := (match w with | some x => x.2.2.1 + 1 | none => 1) % 2 ^ 64
  (s.emit (.nvme at_.1 at_.2 (pointerBlock seq slot transit))).emit .nvmeFlush

/-- The sequence stops; what the drives hold, and what is still held until the next transit, stays. -/
def State.almIdle (s : State) : State :=
  ({ s with alm := { Alm.reset with
      ptrs := s.alm.ptrs, manifests := s.alm.manifests, shards := s.alm.shards, held := s.alm.held, parts := s.alm.parts,
      mirroring := s.alm.mirroring } }).fset R.ALM_STATUS.state 0

/-- err is set with its code, logged (R527, R560, R563). -/
def State.almErr (s : State) (code : Nat) : State :=
  (((s.fset R.ALM_STATUS.err 1).fset R.ALM_STATUS.code code).raise (.pf 0) 3).report srcPackage codeAlmanacError 0 code

/-- The slot of activity 6 is freed. -/
def State.almRelease (s : State) (status : Nat) : State :=
  match s.mntSlotOf 6 with
  | some i => s.mntEnd i status (if status = stDone then 100 else s.fget (R.MNT_SLOT.progress i))
  | none => s

/-- An almanac or a restore ends with an error (R507, R521). -/
def State.almFail (s : State) (code : Nat) : State := ((s.almRelease stInternal).almIdle).almErr code

/-- It ends well. -/
def State.almDone (s : State) : State := (((s.almRelease stDone).almIdle).fset R.ALM_STATUS.done 1).raise (.pf 0) 3

/-- A reset of a saved partition during capture ends the almanac with SOURCE_LOST (R521). -/
def State.almSourceLost (s : State) (p : Nat) : State :=
  if (s.almState = 2 ∨ s.almState = 3) ∧ bit s.alm.parts p then s.almFail 8 else s

end Sys2Proof.Machine
end

