-- ==== Sys2Proof/Machine/Recover.lean ====
section
/-! DEFINITION. What a recovery does to its domain when it starts or escalates, and what a new fault does to the
recoveries that run and wait (R492, R493, R495, R496, R506). -/
namespace Sys2Proof.Machine

/-- An image of the partition is being applied. -/
def State.applying (s : State) (p : Nat) : Bool := s.togus.pending.any (fun i => i.partition == p && i.applying)

/-- An image that was being applied when a fault struck its target is abandoned with APPLY_FAILED, its reservations
released (R66). -/
def State.abandonApply (s : State) (p : Nat) : State :=
  let s1 : State := { s with togus := { s.togus with pending := s.togus.pending.filter (fun i => i.partition != p) } }
  ((s1.fset (R.PRT_STATUS.image p) 0).fset (R.PRT_STATUS.code p) 0x0F).raise (.pf 1) (16 + p)

/-- COLLECTIVE operations with posts on a cluster that is reset end PARTIAL with progress 0 (R493). -/
def State.endCollectives (s : State) (k : Nat) : State :=
  if s.posts.any (fun e => e.1 / 64 == k) then
    let p := s.partOfCluster k
    (s.liveOps (fun o => o.code == 0x30 && some o.partition == p)).foldl (fun s j =>
      ((s.onOp j (fun o => { o with progress := 0 })).flagOp j flagHard).endOp j stPartial) s
  else s

/-- The channels in service of a stack go into self-refresh for its reset, or leave it (R493). -/
def State.stackRefresh (s : State) (n : Nat) (on : Bool) : State :=
  (((List.range 8).map (fun i => 8 * n + i)).filter s.chanTrained).foldl
    (fun s g => s.setChan g { s.chan g with selfRefresh := on }) s

/-- What the start of a recovery does to its domain (R492, R493, R498). -/
def State.recover (s : State) (d : Domain) : State :=
  match d with
  | .tcore c => if (s.tcore c).cc.retired then s else s.retireTcore c
  | .pcore c => if (s.pcore c).retired then s else s.retirePcore c
  | .se n => if (s.se n).retired then s else s.retireSe n
  | .cluster k => (s.endCollectives k).resetCluster k
  | .stack n =>
    ((((List.range 16).map (fun i => 16 * n + i)).foldl State.endCollectives s).resetStack n).stackRefresh n true
  | .partition p =>
    let s1 := (s.almSourceLost p).reportOpen (srcPart p) codePartitionReset 3
    let held := s.togus.pending.any (fun i => i.partition == p && i.held && !i.applying) || (s.alm.held && bit s.alm.parts p)
    let s2 := (s1.resetPartition p).fset (R.PRT_STATUS.held p) held.toNat
    -- a pending image outlives the reset; one that was being applied does not
    let s3 := if s.applying p then s2.abandonApply p
      else if s.togus.pending.any (fun i => i.partition == p) then s2.fset (R.PRT_STATUS.image p) 1 else s2
    ((s3.fset (R.PRT_STATUS.resetting p) 1).raise (.pf 0) (16 + p)).emit (.pldm 2 p)
  | .package => s

/-- The first of the domains replaces the running recovery in slot `i`, and its own recovery begins; the others join the
queue (R496). -/
def State.replaceRecovery (s : State) (i : Nat) (ds : List Domain) : State :=
  match ds with
  | [] => s
  | d :: rest =>
    if d = .package then s.packageFatal srcPackage codeEscalated
    else
      let inside := fun (r : Recovery) => r.slot != i && s.domIn r.domain d
      let s1 : State := { s with
        recs := (s.recs.filter (fun r => !inside r)).map (fun r => if r.slot = i then { r with domain := d, start := s.clock } else r),
        recq := s.recq.filter (fun r => !s.domIn r.domain d) }
      let s2 := ((s1.reportOpen (domSource d) codeEscalated 2).recover d).mntStop d
      rest.foldl State.queueRecovery s2

/-- A queued request takes the first of the domains, in its place in the queue, and with it every other request inside
that domain; further domains join the queue (R496). -/
def State.mergeQueued (s : State) (r : Recovery) (ds : List Domain) : State :=
  match ds with
  | [] => s
  | d :: rest =>
    if d = .package then s.packageFatal srcPackage codeEscalated
    else
      let q := (s.recq.filter (fun x => x.domain == r.domain || !s.domIn x.domain d)).map
        (fun x => if x.domain = r.domain then { x with domain := d } else x)
      rest.foldl State.queueRecovery { s with recq := q }

/-- A fault asks for the recovery of a domain (R495, R496): inside a running recovery it escalates that one; around
one it takes it over at the higher of the two levels; equal to, inside or containing a queued request it merges into
it; otherwise it waits in the queue until RECOVERY_START finds a slot and no shared unit. -/
def State.requestRecovery (s : State) (d : Domain) : State :=
  match s.recs.find? (fun r => s.domIn d r.domain) with
  | some r => s.replaceRecovery r.slot (s.escalate r.domain)
  | none =>
    match s.recs.find? (fun r => s.domIn r.domain d) with
    | some r =>
      let up := s.escalate r.domain
      let lvl := maxOf (up.map domLevel)
      s.replaceRecovery r.slot (if lvl ≤ domLevel d then [d] else up)
    | none =>
      match s.recq.find? (fun r => s.domIn d r.domain || s.domIn r.domain d) with
      | some r => s.mergeQueued r (if d = r.domain then s.escalate d else if s.domIn d r.domain then [r.domain] else [d])
      | none => s.queueRecovery d

end Sys2Proof.Machine
end

