-- ==== Sys2Proof/Machine/Time.lean ====
section
/-! DEFINITION. Package time and rack time (R69, R76): rack time counts with package time, is slewed by at most
100 ppm, and is held while it is ahead of the master's by more than 1 us. -/
namespace Sys2Proof.Machine

/-- Rack time of this package (R69). -/
def State.rackTime (s : State) : Nat := s.fget R.TRN_TIME.time_ns

/-- Rack time after `d` ns of package time, for a rack time that is held at `t` while the master's was `m`. -/
def heldTime (t m d : Nat) : Nat := if t < m + d then m + d else t

/-- How far a slew moves rack time in `d` ns: toward the master, at most 100 ppm and at most the offset left; how
much of that is free (R76). -/
def slewStep (slew : Int) (d draw : Nat) : Int :=
  let a := Nat.min (Nat.min slew.natAbs (d / 10000)) (Config.slewNs draw)
  if slew < 0 then -(a : Int) else a

/-- Let package time reach `now`. A command that names an earlier time falls at the present time (log 3). -/
def State.advance (s : State) (now : Nat) : State :=
  let d := now - s.clock
  if d = 0 then s
  else
    let s1 : State := { s with clock := now }
    -- before a rack epoch there is no rack time to count (R69, R72: log 26); frozen or asleep none counts (R542, R536)
    if s1.ecl.phase = 2 ∨ s1.nwt.night ∨ ¬ s1.trn.started then s1
    else
    match s1.trn.hold with
    | some (t, m) =>
      { s1.fset R.TRN_TIME.time_ns (heldTime t m d) with
        trn := { s1.trn with hold := if m + d < t then some (t, m + d) else none } }
    | none =>
      if s1.trn.slew = 0 then s1.fset R.TRN_TIME.time_ns (s1.rackTime + d)
      else
        let a := slewStep s1.trn.slew d s1.free
        let s2 := s1.fset R.TRN_TIME.time_ns ((s1.rackTime + d : Int) + a).toNat
        { s2 with trn := { s2.trn with slew := s2.trn.slew - a }, free := s2.free + 1 }

/-- A write of TRN_PERIOD_NEXT or TRN_PERIOD_AT fixes the transit at which the period applies: the one named, no earlier
than the current one plus 2 (R68). -/
def State.setPerAt (s : State) : State :=
  { s with trn := { s.trn with perAt := Nat.max (s.fget R.TRN_PERIOD_AT.at_transit) (s.fget R.TRN_NUMBER.transit + 2) } }

end Sys2Proof.Machine
end

