-- ==== Sys2Proof/Machine/Faults.lean ====
section
/-! DEFINITION. The meanings of the error log, the recovery sequencer and the maintenance arbiter (R482 to R506,
R559 to R562). -/
namespace Sys2Proof.Machine

/-- Entries between two free-running indices (R485). -/
def idxDiff (a b : Nat) : Nat := (a + 2 ^ 32 - b) % 2 ^ 32

/-- Unconsumed entries of the log. -/
def State.logUsed (s : State) : Nat := idxDiff (s.fget R.ERR_PROD.prod) (s.fget R.ERR_CONS.cons)

/-- Word `w` of the log entry at index `i` (R559). -/
def State.logWord (s : State) (i w : Nat) : Word := s.reg (A.ERR_ENTRY (i % 4096) w)

/-- The newest unconsumed entry, among the 256 written last, that a report coalesces into (R488). -/
def State.coalesceInto (s : State) (r : Report) : Option LogMeta :=
  s.logMeta.find? (fun m =>
    m.source == r.source && m.code == r.code && decide (r.time < m.last + 1000000) &&
      decide (idxDiff m.index (s.fget R.ERR_CONS.cons) < s.logUsed))

/-- A report raises an entry's count, last_us and class (R488). -/
def State.coalesce (s : State) (m : LogMeta) (r : Report) : State :=
  let w2 := s.logWord m.index 2
  let w1 := s.logWord m.index 1
  let n2 := setField (setField w2 24 16 (Nat.min (getField w2 24 16 + 1) 65535)) 16 3 (Nat.max (getField w2 16 3) r.cls)
  let n1 := setField w1 34 30 (Nat.min ((r.time - m.first) / 1000) (2 ^ 30 - 1))
  let s1 := (s.setReg (A.ERR_ENTRY (m.index % 4096) 2) n2).setReg (A.ERR_ENTRY (m.index % 4096) 1) n1
  { s1 with logMeta := s1.logMeta.map (fun x => if x.index = m.index then { x with last := r.time } else x) }

/-- The four words of a new entry (R486). -/
def entryWords (r : Report) : List Word :=
  [ BitVec.ofNat 64 (r.transit % 2 ^ 48 + r.source % 2 ^ 16 * 2 ^ 48),
    BitVec.ofNat 64 (r.firstNs % 2 ^ 34),
    BitVec.ofNat 64 (r.code % 2 ^ 16 + r.cls % 8 * 2 ^ 16 + 1 * 2 ^ 24 + r.detail % 2 ^ 24 * 2 ^ 40),
    BitVec.ofNat 64 (r.detail / 2 ^ 24) ]

/-- full and fatal_unread of ERR_STATUS (R485, R559). -/
def State.logStatus (s : State) : State :=
  let cons := s.fget R.ERR_CONS.cons
  let fatal := (List.range s.logUsed).any (fun i => decide (3 ≤ getField (s.logWord ((cons + i) % 2 ^ 32) 2) 16 3))
  (s.fset R.ERR_STATUS.full (decide (4032 ≤ s.logUsed)).toNat).fset R.ERR_STATUS.fatal_unread fatal.toNat

/-- A new entry, whole before prod advances (R485, R491, R559). -/
def State.newEntry (s : State) (r : Report) : State :=
  let p := s.fget R.ERR_PROD.prod
  let ws := entryWords r
  let s1 := (List.range 4).foldl (fun s w => s.setReg (A.ERR_ENTRY (p % 4096) w) (ws.getD w 0)) s
  let s2 := s1.fset R.ERR_PROD.prod ((p + 1) % 2 ^ 32)
  let s3 : State := { s2 with logMeta :=
    ({ index := p, source := r.source, code := r.code, first := r.time, last := r.time } :: s2.logMeta).take 256 }
  let s4 := s3.fset R.ERR_STATUS.full (decide (4032 ≤ s3.logUsed)).toNat
  let s5 := if 2 ≤ r.cls then (s4.raise (.pf 0) 0).emit (.pldm 1 r.code) else s4
  if 3 ≤ r.cls then s5.showAlert (s5.fset R.ERR_STATUS.fatal_unread 1) else s5

/-- S0 takes one report: it coalesces, writes a new entry, or is dropped where the log is full for its class (R488,
R489). A class selected by on_fatal then starts an Eclipse (R541). -/
def State.takeReport (s : State) (r : Report) : State :=
  let s1 :=
    match s.coalesceInto r with
    | some m => if 3 ≤ r.cls then s.showAlert ((s.coalesce m r).fset R.ERR_STATUS.fatal_unread 1) else s.coalesce m r
    | none => if (if 3 ≤ r.cls then 4096 else 4032) ≤ s.logUsed then s.dropReport r.cls else s.newEntry r
  if s.eclipseSelects r.cls then s1.eclTrigger 3 (s1.fon R.ECL_CTL.fatal_fast) else s1

/-- LOG_TAKE: the fatal queue first, then the other in arrival order (R489). -/
def execLogTake (now : Nat) (s : State) : Res :=
  let s0 := s.advance now
  match s0.fatals with
  | r :: rest => .next ({ s0 with fatals := rest }.takeReport r)
  | [] =>
    match s0.reports with
    | r :: rest => .next ({ s0 with reports := rest }.takeReport r)
    | [] => .next s0

/-- A write of cons is taken only when it moves cons forward by no more than prod - cons (R485); consuming the last
fatal entry releases ALERT_N (R491). -/
def execErrConsWrite (fn : Fn) (cons : Nat) (s : State) : Res :=
  if fn = .pf 0 then
    if idxDiff (cons % 2 ^ 32) (s.fget R.ERR_CONS.cons) ≤ s.logUsed then
      .next (s.showAlert (s.fset R.ERR_CONS.cons (cons % 2 ^ 32)).logStatus)
    else .next (s.fset R.ERR_STATUS.cons_err 1)
  else .next (s.refuseWrite fn A.ERR_CONS true true)

/-! Recovery. -/

/-- A slot of the sequencer that is free (R495: four). -/
def State.freeSlot (s : State) : Option Nat :=
  (List.range 4).find? (fun i => !(s.recs.any (fun r => r.slot == i)))

/-- The first queued recovery whose domain meets no running one (R495). -/
def State.nextRecovery (s : State) : Option Recovery :=
  s.recq.find? (fun r => !(s.recs.any (fun x => s.domMeets r.domain x.domain)))

/-- RECOVERY_START: the sequencer starts a queued recovery in a free slot and stops overlapping maintenance (R495,
R506). -/
def execRecoveryStart (s : State) : Res :=
  match s.freeSlot, s.nextRecovery with
  | some i, some r =>
    let s1 : State := { s with recq := s.recq.erase r, recs := s.recs ++ [{ r with slot := i, start := s.clock }] }
    .next ((s1.recover r.domain).mntStop r.domain)
  | _, _ => .next s

/-- Units of a kind remain in service for an operation's work (R499). -/
def State.canReissue (s : State) (o : Op) : Bool := !(s.partTcores o.partition).isEmpty

/-- The remainder of a transfer is reissued, `n` elements of it, or the operation ends PARTIAL (R499). -/
def State.reissue (s : State) (k n : Nat) : State :=
  match s.op k with
  | none => s
  | some o =>
    if o.status.isSome || n == 0 then s
    else if s.fon (R.PRT_CTL.auto_reissue o.partition) && decide (o.reissues < 2) && s.canReissue o then
      s.setOp k (some { o with reissues := o.reissues + 1, aux := Nat.min (o.aux + n) 65535,
                               classFlags := o.classFlags ||| flagReissued })
    else (s.flagOp k flagHard).endOp k stPartial

/-- The progress tiles a lost core worked on and had not committed go to other cores; with auto-reissue off they stay
undone and the survivors finish the rest; one reissued twice already, or with no core left, ends the operation PARTIAL
(R499). Their reads and stores still out are dropped. -/
def State.reissueTiles (s : State) (k : Nat) (ts : List Nat) : State :=
  match s.op k with
  | none => s
  | some o =>
    let o1 : Op :=
      { o with
        work := o.work.filter (fun w => !ts.contains w.1), stores := o.stores.filter (fun x => !ts.contains x.1),
        parts := if ts.any (fun t => o.partsTile == some t) then [] else o.parts,
        partsTile := if ts.any (fun t => o.partsTile == some t) then none else o.partsTile }
    if ts.isEmpty then s
    else if !s.fon (R.PRT_CTL.auto_reissue o.partition) then
      (s.setOp k (some { o1 with given := o1.given ||| maskOf ts })).flagOp k flagHard
    else if s.canReissue o && ts.all (fun t => decide (assocGet (fun _ => 0) o.again t < 2)) then
      s.setOp k (some { o1 with
        reissues := o.reissues + 1, aux := Nat.min (o.aux + ts.length) 65535, classFlags := o.classFlags ||| flagReissued,
        again := ts.foldl (fun a t => assocSet (fun _ => 0) a t (assocGet (fun _ => 0) a t + 1)) o.again })
    else ((s.setOp k (some o1)).flagOp k flagHard).endOp k stPartial

/-- A transfer of a ring operation restarts from its committed prefix on another core (R499). -/
def State.restartXfer (s : State) (k : Nat) : State :=
  s.onOp k (fun o =>
    match o.xfer with
    | some x => { o with xfer := some { x with issued := x.committed, inFlight := [], core := (s.partTcores o.partition).getD 0 x.core } }
    | none => o)

/-- Lost work of a T-core: transfers that used its scratchpad, and the progress tiles it worked on (R499). -/
def State.reissueCore (s : State) (c : Nat) : State :=
  let xs := s.liveOps (fun o => match o.xfer with | some x => x.core == c | none => false)
  let s1 := xs.foldl (fun s k =>
    match s.op k with
    | some o => (match o.xfer with | some x => (s.reissue k (x.total - x.committed)).restartXfer k | none => s)
    | none => s) s
  (s1.liveOps (fun o => o.work.any (fun w => w.2 == c))).foldl (fun s k =>
    match s.op k with
    | some o => s.reissueTiles k ((o.work.filter (fun w => w.2 == c)).map Prod.fst)
    | none => s) s1

/-- The T-cores whose state a recovery lost. -/
def lostCores (d : Domain) : List Nat :=
  match d with
  | .tcore c => [c]
  | .cluster k => coresOfCluster k
  | .stack n => (List.range 64).map (fun i => 64 * n + i)
  | _ => []

/-- A unit that fails the self-test of a recovery stays out (R492: return of the cores that pass). -/
def State.retireFailed (s : State) (u : FailedUnit) : State :=
  match u with
  | .tcore c => if s.tcoreUp c then s.retireTcore c else s
  | .pcore c => if s.pcoreUp c then s.retirePcore c else s
  | .se n => if s.seUp n then s.retireSe n else s
  | .port n => { s with portsRetired := insertNat s.portsRetired n }
  | .llmUnit u => { s with llmRetired := insertNat s.llmRetired u }.recount (s.partOfLlm u)
  | _ => s

/-- The channels of the stacks that no reset holds leave self-refresh, retrained by then (R493). -/
def State.wakeStacks (s : State) : State :=
  if s.ecl.phase != 0 || s.nwt.night then s
  else
    ((List.range 8).filter (fun n => !(s.recs.any (fun r => r.domain == .stack n)))).foldl (fun s n => s.stackRefresh n false) s

/-- RECOVERY_COMPLETE: lost work is reissued or ended (R499), a partition leaves reset and fetching resumes (R493). -/
def execRecoveryComplete (i : Nat) (failed : List FailedUnit) (s : State) : Res :=
  match s.recs.find? (fun r => r.slot == i) with
  | none => .next s
  | some r =>
    let s1 : State := { s with recs := s.recs.filter (fun x => x.slot != i) }
    let s2 := failed.foldl State.retireFailed s1
    let s3 := (lostCores r.domain).foldl State.reissueCore s2
    match r.domain with
    | .partition p => .next (((s3.fset (R.PRT_STATUS.resetting p) 0).raise (.pf 0) (16 + p)).wakeStacks)
    | .stack _ => .next s3.wakeStacks
    | _ => .next s3

/-! Maintenance. -/

/-- MNT_REQ with go, or a PLDM request (R503, R505, R562). -/
def execMntRequest (fn : Fn) (activity domain : Nat) (s : State) : Res :=
  if fn = .pf 0 ∨ fn = .mgmt then
    let s0 := if fn = .pf 0 then (s.fset R.MNT_REQ.activity activity).fset R.MNT_REQ.domain domain else s
    let g := s0.mntGrant (activity % 16) (domain % 128) (if fn = .mgmt then reqPldm else reqPf0) (s0.mntCondition (activity % 16) (domain % 128))
    let s1 := ((((g.1.fset R.MNT_RESULT.status g.2.1).fset R.MNT_RESULT.slot g.2.2.1).fset R.MNT_RESULT.holder g.2.2.2.1).fset
      R.MNT_RESULT.holder_domain g.2.2.2.2).fset R.MNT_RESULT.done 1
    let s2 := s1.raise (.pf 0) 2
    .next (if g.2.1 = stDone ∧ activity % 16 = 1 then
      (s2.fset (R.GDM_CH_STATUS.state (domain % 128)) 3).raise (.pf 0) (96 + domain % 128) else s2)
  else .next (s.refuseWrite fn A.MNT_REQ true true)

/-- abort of MNT_SLOT: accepted for codes 2, 3, 4 and 7 of a busy slot (R562). -/
def execMntAbort (fn : Fn) (i : Nat) (s : State) : Res :=
  if fn = .pf 0 then
    let a := s.fget (R.MNT_SLOT.activity i)
    whenever (decide (i < 16) && s.fon (R.MNT_SLOT.busy i) && (a == 2 || a == 3 || a == 4 || a == 7))
      (s.mntEnd i stDone (s.fget (R.MNT_SLOT.progress i))) s
  else .next (s.refuseWrite fn (A.MNT_SLOT i) true true)

/-- A scrub of LLM slice `n` reads every line of its units and copies and rewrites the corrected ones (R289, R503). -/
def State.scrub (s : State) (n : Nat) : State :=
  let fix := fun (s : State) (a len : Nat) => s.correct a len (srcSlice n) codeLlmCorrected (some (R.LLM_ECC_CNT.corrected n))
  fix (fix s (llmBase (8 * n)) (8 * 0x2000000)) (copyKey (gddrKey (8 * n) 0)) (8 * 2 ^ 36)

/-- An activity ends within its bound (R503): its slot is freed with last_status DONE; a retrained channel is ready
again, and a scrubbed slice holds no single-bit error. -/
def execMntActivityDone (i : Nat) (s : State) : Res :=
  let a := s.fget (R.MNT_SLOT.activity i)
  let d := s.fget (R.MNT_SLOT.domain i)
  if decide (i < 16) && s.fon (R.MNT_SLOT.busy i) then
    let s1 := s.mntEnd i stDone 100
    .next (if a = 1 ∧ s1.fget (R.GDM_CH_STATUS.state d) = 3 then
      ((s1.fset (R.GDM_CH_STATUS.state d) 2).finc (R.GDM_CH_CRC.retrains d) 1).raise (.pf 0) (96 + d)
      else if a = 2 then s1.scrub d else s1)
  else .next s

end Sys2Proof.Machine
end

