-- ==== Sys2Proof/Machine/Accum.lean ====
section
/-! DEFINITION. Exact accumulator entries (R143, R146, R147): adding a term, merging, the raw layout, and the drain.
The same entry serves the matrix engine, the exact reductions, the Jumbe accumulator and exact collectives. -/
namespace Sys2Proof.Machine

/-- Weight of an entry's least significant bit, as a power of two (R143). -/
def entryLsb (wide : Bool) : Int := if wide then -2152 else -300

/-- Bits of an entry's value field (R143). -/
def entryBits (wide : Bool) : Nat := if wide then 4344 else 632

/-- Bytes of a raw entry (R160). -/
def entryBytes (wide : Bool) : Nat := if wide then 544 else 80

/-- Two's complement in `bits` bits: a sum beyond the field wraps (R159). -/
def wrapTo (bits : Nat) (v : Int) : Int := signedOf bits (v % 2 ^ bits).toNat

/-- A class joins a class (R114). -/
def Cls.join (a b : Cls) : Cls :=
  match a, b with
  | .finite, c => c
  | c, .finite => c
  | .posInf, .posInf => .posInf
  | .negInf, .negInf => .negInf
  | _, _ => .nan

/-- Class of a number as a term of a sum. -/
def FpNum.cls (x : FpNum) : Cls :=
  match x with
  | .fin _ _ _ => .finite
  | .inf n => if n then .negInf else .posInf
  | .nan _ _ => .nan

/-- A finite number in units of 2^lsb, which every term of its class is a multiple of (R143). -/
def FpNum.scaledBy (x : FpNum) (lsb : Int) : Int :=
  match x with
  | .fin n m e =>
    let v : Int := if lsb ≤ e then (m * 2 ^ (e - lsb).toNat : Nat) else (m / 2 ^ (lsb - e).toNat : Nat)
    if n then -v else v
  | _ => 0

/-- Terms that hold infinities of the signs told join an entry's: with both among the terms the sum is invalid, in
whatever order they and a NaN came (R114). -/
def AccEntry.withTerms (e : AccEntry) (value : Int) (c : Cls) (pos neg invalid zeroNeg nonempty : Bool) : AccEntry :=
  let p := e.pos || pos
  let n := e.neg || neg
  { value := value, cls := Cls.join e.cls c, pos := p, neg := n, invalid := e.invalid || invalid || (p && n),
    zeroNeg := e.zeroNeg && zeroNeg, nonempty := e.nonempty || nonempty }

/-- Add one term with its invalid mark (R114, R146). -/
def AccEntry.add (wide : Bool) (e : AccEntry) (x : FpNum) (inv : Bool) : AccEntry :=
  e.withTerms (wrapTo (entryBits wide) (e.value + x.scaledBy (entryLsb wide))) x.cls (decide (x.cls = .posInf))
    (decide (x.cls = .negInf)) (inv || x.isSig) (x.isZero && x.sign) true

/-- Merge a raw entry into another (R159, R413): field by field, values added exactly. -/
def AccEntry.merge (wide : Bool) (e r : AccEntry) : AccEntry :=
  e.withTerms (wrapTo (entryBits wide) (e.value + r.value)) r.cls r.pos r.neg r.invalid r.zeroNeg r.nonempty

def clsCode (c : Cls) : Nat := match c with | .finite => 0 | .posInf => 1 | .negInf => 2 | .nan => 3

def clsOf (n : Nat) : Cls := match n with | 0 => .finite | 1 => .posInf | 2 => .negInf | _ => .nan

/-- The raw layout of R143 as bytes. -/
def AccEntry.raw (wide : Bool) (e : AccEntry) : List Byte :=
  let b := entryBits wide
  leBytes (entryBytes wide) ((e.value % 2 ^ b).toNat + clsCode e.cls * 2 ^ b + e.invalid.toNat * 2 ^ (b + 2) +
    e.zeroNeg.toNat * 2 ^ (b + 3) + e.nonempty.toNat * 2 ^ (b + 4))

/-- The entry that raw bytes spell. -/
def AccEntry.ofRaw (wide : Bool) (bs : List Byte) : AccEntry :=
  let b := entryBits wide
  let n := leNat (bs.take (entryBytes wide))
  let c := clsOf (fld n b 2)
  { value := signedOf b n, cls := c, pos := decide (c = .posInf), neg := decide (c = .negInf), invalid := bit n (b + 2), zeroNeg := bit n (b + 3),
    nonempty := bit n (b + 4) }

/-- The rounded drain of one entry (R147): output format, result control byte, draw, and the power of two of the
output scale. -/
def AccEntry.drain (wide : Bool) (e : AccEntry) (fmt ctl draw : Nat) (scale : Int) : Nat × Flags :=
  let mode := rmodeOf (ctl % 8) draw
  let nan := bit ctl 3
  let inv : Flags := { Flags.zero with invalid := e.invalid }
  let x : FpNum :=
    match e.cls with
    | .nan => FpNum.qnan
    | .posInf => .inf false
    | .negInf => .inf true
    | .finite =>
      if e.value = 0 then .fin (e.nonempty && (e.zeroNeg || ctl % 8 == 3)) 0 0
      else .fin (decide (e.value < 0)) e.value.natAbs (entryLsb wide + scale)
  let r := deliver fmt mode nan false x
  (r.1, r.2.or inv)

end Sys2Proof.Machine
end

