-- ==== Sys2Proof/Machine/Operands.lean ====
section
/-! DEFINITION. Engine instructions as operands: the fields of R159, R196 and R284, and the checks a QPUSH makes
(R163, R200, R285). Word 1 of an instruction is bits 127 to 64. -/
namespace Sys2Proof.Machine

/-- Opcode of an engine instruction. -/
def qOp (q : Quad) : Nat := fld q.toNat 0 8

/-- Field of word 0 by lowest bit and width. -/
def q0 (q : Quad) (lo w : Nat) : Nat := fld q.toNat lo w

/-- Field of word 1. -/
def q1 (q : Quad) (lo w : Nat) : Nat := fld q.toNat (64 + lo) w

/-- Every bit outside the listed (lowest bit, width) fields is zero. -/
def fieldsOnly (q : Quad) (fs : List (Nat × Nat)) : Bool :=
  decide (fs.foldl (fun a f => a + fld q.toNat f.1 f.2 * 2 ^ f.1) 0 = q.toNat)

/-! ME fields (R159). -/

def meFmt (q : Quad) : Nat := q0 q 8 5
def meScale (q : Quad) : Nat := q0 q 13 8
def meRows (q : Quad) : Nat := q0 q 21 13
def meCols (q : Quad) : Nat := q0 q 34 13
def meSrc (q : Quad) : Nat := q1 q 0 22
def meStride (q : Quad) : Nat := q1 q 22 16
def meScaleSrc (q : Quad) : Nat := q1 q 38 22
def meAccIn (q : Quad) : Bool := q0 q 21 1 == 1
def meCount (q : Quad) : Nat := q0 q 23 11
def meCSrc (q : Quad) : Nat := q0 q 34 22
def meCFmt (q : Quad) : Nat := q1 q 60 4
def meToVe (q : Quad) : Bool := q0 q 21 1 == 1
def meDiscard (q : Quad) : Bool := q0 q 22 1 == 1
def meDRows (q : Quad) : Nat := q0 q 23 7
def meDCols (q : Quad) : Nat := q0 q 30 13
def waitBeacon (q : Quad) : Nat := q0 q 8 14
def waitValue (q : Quad) : Word := BitVec.ofNat 64 (q1 q 0 64)

/-- Raw accumulator entries (R147, R159). -/
def fmtRaw : Nat := 0x1F

/-- Formats that pair with one another (R111, R163). -/
def meFmtOk (f : Nat) : Bool := decide (f ≤ 8) || f == 0x10

/-- scale_src is zero when unused and aligned otherwise (R163). -/
def scaleSrcOk (q : Quad) : Bool :=
  if meScale q = 0 then meScaleSrc q == 0 else meScaleSrc q % 32 == 0

/-- WAITB and FENCE, of any engine (R159). -/
def waitOk (q : Quad) : Bool := fieldsOnly q [(0, 8), (8, 14), (64, 64)]
def fenceOk (q : Quad) : Bool := fieldsOnly q [(0, 8)]

/-- A STREAM's initial values fit its tile's class (R159, R163). -/
def initOk (q : Quad) : Bool :=
  if meAccIn q then
    meCSrc q % 32 == 0 && (if meFmt q = 0 then meCFmt q == 3 || meCFmt q == 4 else decide (meCFmt q ≤ 2) || meCFmt q == 4)
  else meCSrc q == 0 && meCFmt q == 0

/-- The check of R163 passes. -/
def mePushOk (q : Quad) : Bool :=
  match qOp q with
  | 0x01 =>
    fieldsOnly q [(0, 8), (8, 5), (13, 8), (21, 13), (34, 13), (64, 22), (86, 16), (102, 22)] &&
      meFmtOk (meFmt q) && scaleOk (meFmt q) (meScale q) && decide (1 ≤ meRows q ∧ meRows q ≤ 4096) &&
      decide (1 ≤ meCols q ∧ meCols q ≤ 4096) && meSrc q % 32 == 0 && scaleSrcOk q
  | 0x02 => fieldsOnly q [(0, 8)]
  | 0x03 =>
    fieldsOnly q [(0, 8), (8, 5), (13, 8), (21, 1), (23, 11), (34, 22), (64, 22), (86, 16), (102, 22), (124, 4)] &&
      meFmtOk (meFmt q) && scaleOk (meFmt q) (meScale q) && decide (1 ≤ meCount q ∧ meCount q ≤ 1024) &&
      meSrc q % 32 == 0 && scaleSrcOk q && initOk q
  | 0x04 =>
    fieldsOnly q [(0, 8), (8, 5), (13, 8), (21, 1), (22, 1), (23, 7), (30, 13), (64, 22), (86, 16)] &&
      (meFmt q == fmtRaw || (fmtKnown (meFmt q) && meFmt q != 0x13 && resultCtlOk (meFmt q) (meScale q))) &&
      decide (1 ≤ meDRows q ∧ meDRows q ≤ 64) && decide (1 ≤ meDCols q ∧ meDCols q ≤ 4096) &&
      (if meToVe q || meDiscard q then meSrc q == 0 && meStride q == 0 else meSrc q % 32 == 0)
  | 0x05 => fieldsOnly q [(0, 8), (8, 2)] && q0 q 8 2 != 3
  | 0x06 => fieldsOnly q [(0, 8), (8, 8)] && q0 q 8 8 != 0xFF
  | 0x07 => waitOk q
  | 0x08 => fenceOk q
  | _ => false

/-! VE fields (R196). -/

def veFmt (q : Quad) : Nat := q0 q 8 5
def veCtl (q : Quad) : Nat := q0 q 13 8
def veVd (q : Quad) : Nat := q0 q 21 4
def veVs1 (q : Quad) : Nat := q0 q 25 4
def veVs2 (q : Quad) : Nat := q0 q 29 4
def veVs3 (q : Quad) : Nat := q0 q 33 4
def vePsel (q : Quad) : Nat := q0 q 37 3
def vePredEn (q : Quad) : Bool := q0 q 40 1 == 1
def vePredNeg (q : Quad) : Bool := q0 q 41 1 == 1
def veImm (q : Quad) : Bool := q0 q 42 1 == 1
def veCount (q : Quad) : Nat := q0 q 43 13
def veSub (q : Quad) : Nat := q0 q 56 8
def veImm32 (q : Quad) : Nat := q1 q 0 32
def veAddr (q : Quad) : Nat := q1 q 0 22
def veStride (q : Quad) : Nat := q1 q 22 16
def veMemFmt (q : Quad) : Nat := q1 q 38 5
def veRedOp (q : Quad) : Nat := q1 q 56 4
def veRedExact (q : Quad) : Bool := q1 q 60 1 == 1
def veRedReset (q : Quad) : Bool := q1 q 61 1 == 1
def veRedSlot (q : Quad) : Nat := q1 q 62 2

/-- Formats the VE operates on (R195). -/
def veFmtOk (f : Nat) : Bool := decide (f ≤ 5) || decide (0x10 ≤ f ∧ f ≤ 0x12)

/-- The element count is in the range of a format (R193). -/
def veCountOk (f n : Nat) : Bool := decide (1 ≤ n) && decide (n ≤ (if f = 0 then 2048 else 4096))

/-- The format a VE instruction's results have. -/
def veOutFmt (q : Quad) : Nat :=
  match qOp q with
  | 0x23 => veSub q
  | 0x58 => if veFmt q = 0 then 0 else if veFmt q ≤ 5 then 1 else 0x12
  | _ => veFmt q

/-- Which parts an instruction uses beside opcode, fmt and count: the result control byte, the registers, memory, and
whether it may carry a tap. -/
structure VeUse where
  ctl : Bool
  vd : Bool
  s1 : Bool
  s2 : Bool
  s3 : Bool
  mem : Bool
  tap : Bool
deriving DecidableEq, Repr

/-- The opcode, its sub codes, and what it uses (R197); none for a reserved opcode. VBCAST is opcode 0x22 with sub
1. -/
def veUse (q : Quad) : Option (Bool × VeUse) :=
  let arith := fun (s2 s3 : Bool) => some (veSub q == 0, (⟨true, true, true, s2, s3, false, true⟩ : VeUse))
  let plain := fun (sub s2 : Bool) => some (sub, (⟨false, true, true, s2, false, false, true⟩ : VeUse))
  match qOp q with
  | 0x20 => some (veSub q == 0, ⟨true, true, false, false, false, true, true⟩)
  | 0x21 => some (veSub q == 0, ⟨true, false, true, false, false, true, false⟩)
  | 0x22 => plain (veSub q == 0) false
  | 0x23 => some (veFmtOk (veSub q), ⟨true, true, true, false, false, false, true⟩)
  | 0x30 => arith true false
  | 0x31 => arith true false
  | 0x32 => arith true false
  | 0x33 => arith true true
  | 0x34 => plain (veSub q == 0) true
  | 0x35 => plain (veSub q == 0) true
  | 0x36 => plain (veSub q == 0) true
  | 0x37 => plain (veSub q == 0) true
  | 0x38 => plain (veSub q == 0) false
  | 0x39 => plain (veSub q == 0) false
  | 0x3A => plain (decide (veSub q ≤ 2)) true
  | 0x3B => plain (decide (veSub q ≤ 1)) true
  | 0x3C => arith true false
  | 0x3D => arith false false
  | 0x40 => some (decide (veSub q ≤ 10) && decide (veVs3 q < 8), ⟨false, false, true, true, true, false, false⟩)
  | 0x41 => some (veSub q == 0 && decide (veVs3 q < 8), ⟨false, false, true, true, true, false, false⟩)
  | 0x42 => plain (veSub q == 0) true
  | 0x50 => some (decide (veSub q ≤ 10) && (decide (1 ≤ veFmt q ∧ veFmt q ≤ 3)) && veCtl q % 8 == 0,
      ⟨true, true, true, false, false, false, true⟩)
  | 0x58 => some (decide (1 ≤ veSub q / 4 ∧ veSub q / 4 ≤ 6), ⟨true, true, true, false, false, false, true⟩)
  | 0x60 => some (decide (veSub q ≤ 3), ⟨veSub q == 1 || veSub q == 2, true, veSub q != 0, false, false, false, true⟩)
  | 0x61 => some (decide (veSub q ≤ 1), ⟨true, true, false, false, false, false, false⟩)
  | _ => none

/-- Memory operands of VLD and VST (R196, R200). -/
def veMemOk (q : Quad) : Bool :=
  let f := veMemFmt q
  let b := fmtBits f
  let unit := match b with | 6 => 3 | 4 => 1 | _ => b / 8
  fmtKnown f && (qOp q == 0x20 || f != 0x13) && decide (1 ≤ veStride q) && veAddr q % unit == 0 &&
    decide (8 * veAddr q + ((veCount q - 1) * veStride q + 1) * b ≤ 8 * 0x400000)

/-- Reduction tap fields (R196, R200). -/
def veTapOk (q : Quad) (may : Bool) : Bool :=
  if veRedOp q = 0 then !veRedExact q && !veRedReset q && (veRedSlot q == 0 || qOp q == 0x61)
  else may && decide (veRedOp q ≤ 6) && (veRedExact q || veOutFmt q != 0)

/-- The check of R200 passes. -/
def vePushOk (q : Quad) : Bool :=
  match qOp q with
  | 0x07 => waitOk q
  | 0x08 => fenceOk q
  | _ =>
    if qOp q = 0x22 ∧ veSub q = 1 then
      veFmtOk (veFmt q) && veCountOk (veFmt q) (veCount q) && veCtl q == 0 && veVs1 q == 0 && veVs2 q == 0 &&
        veVs3 q == 0 && !veImm q && (vePredEn q || (vePsel q == 0 && !vePredNeg q))
    else
    match veUse q with
    | none => false
    | some (sub, u) =>
      let imm := veImm q
      let sel := qOp q == 0x42
      sub && veFmtOk (veFmt q) && veCountOk (veFmt q) (veCount q) && veCountOk (veOutFmt q) (veCount q) &&
        (if u.ctl then
           resultCtlOk (if u.mem then (if qOp q = 0x20 then veFmt q else veMemFmt q) else veOutFmt q) (veCtl q) &&
             !(qOp q == 0x58 && veCtl q % 8 == 4)
         else veCtl q == 0) &&
        (u.vd || veVd q == 0) && (u.s1 || veVs1 q == 0) && ((u.s2 && !imm) || veVs2 q == 0) && (u.s3 || veVs3 q == 0) &&
        (sel || vePredEn q || (vePsel q == 0 && !vePredNeg q)) && (!imm || (u.s2 && veFmt q != 0)) &&
        (if u.mem then veMemOk q && fld q.toNat 107 13 == 0
         else fld q.toNat 96 24 == 0 && (imm || veImm32 q == 0)) &&
        (qOp q != 0x61 || veCount q == 1 || veCount q == 3) && veTapOk q u.tap

/-! FE instructions (R284). -/

/-- The check of R285 passes. -/
def fePushOk (q : Quad) : Bool :=
  match qOp q with
  | 0x10 => fieldsOnly q [(0, 8), (8, 22)] && q0 q 8 22 % 64 == 0
  | 0x07 => waitOk q
  | 0x08 => fenceOk q
  | _ => false

/-! The field that breaks R121, where one does: its byte offset in the instruction, for FORMAT_REFUSED (R582). -/

/-- The lowest set bit of a number below 2^128, from bit `i`. -/
def lowBit (fuel n i : Nat) : Nat :=
  match fuel with
  | 0 => i
  | fuel + 1 => if bit n i then i else lowBit fuel n (i + 1)

/-- Byte of the lowest bit outside the listed fields, where one is set. -/
def rsvByte (q : Quad) (fs : List (Nat × Nat)) : Option Nat :=
  if fieldsOnly q fs then none
  else some (lowBit 128 (q.toNat - fs.foldl (fun a f => a + fld q.toNat f.1 f.2 * 2 ^ f.1) 0) 0 / 8)

def meFormatByte (q : Quad) : Option Nat :=
  match qOp q with
  | 0x01 =>
    (rsvByte q [(0, 8), (8, 5), (13, 8), (21, 13), (34, 13), (64, 22), (86, 16), (102, 22)]).or
      (if meFmtOk (meFmt q) && scaleOk (meFmt q) (meScale q) then none else some 1)
  | 0x02 => rsvByte q [(0, 8)]
  | 0x03 =>
    (rsvByte q [(0, 8), (8, 5), (13, 8), (21, 1), (23, 11), (34, 22), (64, 22), (86, 16), (102, 22), (124, 4)]).or
      (if meFmtOk (meFmt q) && scaleOk (meFmt q) (meScale q) then none else some 1)
  | 0x04 =>
    (rsvByte q [(0, 8), (8, 5), (13, 8), (21, 1), (22, 1), (23, 7), (30, 13), (64, 22), (86, 16)]).or
      (if meFmt q == fmtRaw || (fmtKnown (meFmt q) && meFmt q != 0x13 && resultCtlOk (meFmt q) (meScale q)) then none else some 1)
  | 0x05 => rsvByte q [(0, 8), (8, 2)]
  | 0x06 => rsvByte q [(0, 8), (8, 8)]
  | 0x07 => rsvByte q [(0, 8), (8, 14), (64, 64)]
  | 0x08 => rsvByte q [(0, 8)]
  | _ => none

def veFormatByte (q : Quad) : Option Nat :=
  match qOp q with
  | 0x07 => rsvByte q [(0, 8), (8, 14), (64, 64)]
  | 0x08 => rsvByte q [(0, 8)]
  | _ =>
    match veUse q with
    | none => none
    | some (_, u) =>
      if !fmtKnown (veFmt q) then some 1
      else if qOp q == 0x23 && (!fmtKnown (veSub q) || veSub q == 0x13) then some 7
      else if u.mem && (!fmtKnown (veMemFmt q) || (qOp q == 0x21 && veMemFmt q == 0x13)) then some 12
      else if u.ctl && !resultCtlOk (if u.mem then (if qOp q = 0x20 then veFmt q else veMemFmt q) else veOutFmt q) (veCtl q) then some 1
      else if u.mem && fld q.toNat 107 13 != 0 then some 13
      else if !u.mem && !(qOp q == 0x22 && veSub q == 1) && fld q.toNat 96 24 != 0 then some 12
      else none

def feFormatByte (q : Quad) : Option Nat :=
  match qOp q with
  | 0x10 => rsvByte q [(0, 8), (8, 22)]
  | 0x07 => rsvByte q [(0, 8), (8, 14), (64, 64)]
  | 0x08 => rsvByte q [(0, 8)]
  | _ => none

/-! Descriptors of FE instructions and of ring operations that move data (R284). -/

def dOp (d : List Byte) : Nat := leAt d 0 1
def dDir (d : List Byte) : Nat := leAt d 1 1
def dFlags (d : List Byte) : Nat := leAt d 2 1
def dSpace (d : List Byte) : Nat := leAt d 3 1
def dRows (d : List Byte) : Nat := leAt d 4 4
def dRowBytes (d : List Byte) : Nat := leAt d 8 4
def dSpAddr (d : List Byte) : Nat := leAt d 0x0C 4
def dSpStride (d : List Byte) : Nat := leAt d 0x10 4
def dIdxAddr (d : List Byte) : Nat := leAt d 0x14 4
def dExtAddr (d : List Byte) : Nat := leAt d 0x18 8
def dExtStride (d : List Byte) : Nat := leAt d 0x20 8
def dIdxSize (d : List Byte) : Nat := leAt d 0x28 1
def dBeacon (d : List Byte) : Nat := leAt d 0x2A 2

end Sys2Proof.Machine
end

