-- ==== Sys2Proof/Machine/JumbeOps.lean ====
section
/-! DEFINITION. What every Jumbe instruction shares (R213, R214, R238): whether a core runs, its registers, the
program counter, taking an exception as one operation, the return from one, and engine faults that a control core is
told of. Instructions are 4 bytes long, as R219 has the vector ones (log 15). -/
namespace Sys2Proof.Machine

/-- A core executes: its clock runs, it is in service, and no almanac cut holds it (R508). -/
def State.coreOn (s : State) (u : CoreId) : Bool := s.clocked && coreExists u && s.coreUp u && !(s.jumbe u).held

/-- Integer register: x0 reads as zero (R214). -/
def Jumbe.xr (j : Jumbe) (i : Nat) : Word := if i % 32 = 0 then 0 else assocGet (fun _ => 0) j.x (i % 32)

/-- A later instruction has written an integer register: a load on its way to it no longer reaches it (R583). -/
def LoadDst.dropX (d : LoadDst) (i : Nat) : LoadDst :=
  match d with
  | .x xd size signed => if xd = i then .x 0 size signed else .x xd size signed
  | d => d

def LoadDst.dropF (d : LoadDst) (i : Nat) : LoadDst :=
  match d with
  | .elems fd b e0 n live first => .elems fd b e0 n (live.erase i) first
  | d => d

/-- Loads on their way, with their destinations changed. -/
def Jumbe.onDst (j : Jumbe) (f : LoadDst → LoadDst) : Jumbe :=
  { j with loads := j.loads.map (fun l => { l with dst := f l.dst }) }

/-- Write an integer register: a write of x0 is discarded (R214). -/
def Jumbe.setX (j : Jumbe) (i : Nat) (v : Word) : Jumbe :=
  if i % 32 = 0 then j
  else { j.onDst (fun d => d.dropX (i % 32)) with x := assocSet (fun _ => 0) j.x (i % 32) v }

/-- Floating-point register (R214). -/
def Jumbe.fr (j : Jumbe) (i : Nat) : Quad := assocGet (fun _ => 0) j.f (i % 32)

def Jumbe.setF (j : Jumbe) (i : Nat) (v : Quad) : Jumbe :=
  { j.onDst (fun d => d.dropF (i % 32)) with f := assocSet (fun _ => 0) j.f (i % 32) v }

/-- The exact accumulator emptied (R230). -/
def Jumbe.clearAcc (j : Jumbe) : Jumbe :=
  { j.onDst (fun d => match d with | .acc _ => .acc false | d => d) with xacc := .empty, xaccTerms := 0 }

/-- What an instruction reads. -/
inductive Src where
  | x (r : Nat)
  | f (r : Nat)
  | acc
  | ffe
deriving DecidableEq, Repr

/-- A load on its way will write what an instruction reads. -/
def Src.pends (r : Src) (d : LoadDst) : Bool :=
  match r, d with
  | .x r, .x xd _ _ => r % 32 != 0 && xd == r % 32
  | .f r, .elems _ _ _ _ live _ => live.contains (r % 32)
  | .acc, .acc live => live
  | .ffe, .elems _ _ _ _ _ first => first
  | _, _ => false

/-- Nothing that an instruction reads is pending on a load: it waits only for the results it reads (R583, R584). -/
def Jumbe.ready (j : Jumbe) (rs : List Src) : Bool := rs.all (fun r => j.loads.all (fun l => !r.pends l.dst))

/-- Put a program counter in force; a control core shows it in TC_CC_PC (R555). -/
def State.setPc (s : State) (u : CoreId) (pc : Word) : State :=
  let s1 := s.onJumbe u (fun j => { j with pc := pc })
  match u with
  | .tc c => s1.setReg (A.TC_CC_PC c) pc
  | .pc _ => s1

/-- State shown in TC_CC_STATUS (R555): 0 running, 1 stalled in QPUSH, 2 waiting in QSYNC, 3 in a handler. -/
def State.ccState (s : State) (u : CoreId) (v : Nat) : State :=
  match u with
  | .tc c => s.fset (R.TC_CC_STATUS.state c) v
  | .pc _ => s

/-- The instruction retires: the core runs on at the next one. -/
def State.stepPc (s : State) (u : CoreId) : State :=
  let j := s.jumbe u
  (s.setPc u (j.pc + 4)).ccState u (if j.inHandler then 3 else 0)

/-- Taking an exception of the instruction at `pc` (R238): cause and engine recorded, the handler entered. Where the
handler stands the spec does not say; its address is a free value (log 5). -/
def State.takeAt (s : State) (u : CoreId) (code queue : Nat) (pc : Word) : State :=
  let j := s.jumbe u
  let n := match u with | .tc c => c | .pc c => 512 + c
  let s1 := s.onJumbe u (fun j => { j with causeCode := code, causeQueue := queue, inHandler := true, epc := pc })
  let s2 := (s1.setPc u (Config.handlerPc n code)).ccState u 3
  match u with
  | .tc c => if j.retired then s2 else s2.fset (R.TC_CC_STATUS.cause c) code
  | .pc _ => s2

/-- Taking an exception at the instruction that is next. -/
def State.takeException (s : State) (u : CoreId) (code queue : Nat) : State := s.takeAt u code queue (s.jumbe u).pc

/-- The return from an exception: the interrupted instruction is next. -/
def State.leaveHandler (s : State) (u : CoreId) : State :=
  let s1 := s.onJumbe u (fun j => { j with inHandler := false })
  (s1.setPc u (s.jumbe u).epc).ccState u 0

/-- An exception waits for the next instruction boundary (R238). -/
def State.pend (s : State) (u : CoreId) (code queue : Nat) : State :=
  s.onJumbe u (fun j => if j.pending.contains (code, queue) then j else { j with pending := j.pending ++ [(code, queue)] })

def excIllegal : Nat := 0x01
def excLoad : Nat := 0x02
def excStore : Nat := 0x03
def excXacc : Nat := 0x04
def excDead : Nat := 0x05
def excKey : Nat := 0x06
def excMe : Nat := 0x10
def excVe : Nat := 0x11
def excFe : Nat := 0x12
def excPx : Nat := 0x13

/-- The precise illegal-instruction exception. -/
def State.illegal (s : State) (u : CoreId) : State := s.takeException u excIllegal 0

/-- An instruction that runs once its sources have arrived. -/
def State.instr (s : State) (u : CoreId) (srcs : List Src) (go : Jumbe → State) : Res :=
  whenever (s.coreOn u && (s.jumbe u).ready srcs) (go (s.jumbe u)) s

/-- An instruction of control cores: a P core does not implement it (R213). -/
def State.ctlInstr (s : State) (u : CoreId) (srcs : List Src) (go : Nat → State) : Res :=
  match u with
  | .tc c => s.instr u srcs (fun _ => go c)
  | .pc _ => s.instr u [] (fun _ => s.illegal u)

/-- The control core changes and the instruction retires. -/
def State.retireInstr (s : State) (u : CoreId) (f : Jumbe → Jumbe) : State := (s.onJumbe u f).stepPc u

/-! Floating-point status (R221). -/

/-- Rounding mode of JB_FPSR; none for the reserved values. -/
def Jumbe.rmode (j : Jumbe) : Option RMode :=
  match getField j.fpsr 8 3 with
  | 0 => some .rne
  | 1 => some .rtz
  | 2 => some .rup
  | 3 => some .rdn
  | _ => none

def Jumbe.e4m3nan (j : Jumbe) : Bool := getField j.fpsr 11 1 == 1

/-- OR flags into JB_FPSR: saturate is its highest (R221). -/
def Jumbe.orFlags (j : Jumbe) (f : Flags) : Jumbe := { j with fpsr := j.fpsr ||| BitVec.ofNat 64 (f.bits % 64) }

/-! Engine faults (R164, R202, R211, R285). -/

/-- A start-time refusal of the ME (R164): the queue halts before any effect. -/
def State.meRefuse (s : State) (c code opcode : Nat) : State :=
  (((((s.fset (R.TC_ME_ERR.refused c) 1).fset (R.TC_ME_ERR.code c) code).fset (R.TC_ME_ERR.opcode c) opcode).fset
    (R.TC_ME_STATUS.halted c) 1)).pend (.tc c) excMe 1

/-- The VE halts its queue (R211). -/
def State.veHalt (s : State) (c code : Nat) : State :=
  ((s.fset (R.TC_VE_STATUS.halted c) 1).fset (R.TC_VE_STATUS.halt_code c) code).pend (.tc c) excVe 2

/-- The record of a fault in TC_FE_ERR (R288, R296). -/
def State.feRecord (s : State) (c code first mask : Nat) : State :=
  (((s.fset (R.TC_FE_ERR.valid c) 1).fset (R.TC_FE_ERR.code c) code).fset (R.TC_FE_ERR.landed_mask c) mask).fset
    (R.TC_FE_ERR.first_bad c) first

/-- Per-code detail of FE_FAULT (R582). -/
def feDetail (code first mask : Nat) : Nat := code + first % 4096 * 8 + mask % 65536 * 2 ^ 15

/-- The FE halts its queue with a record (R285, R288), which the log repeats (R582). -/
def State.feHalt (s : State) (c code first mask : Nat) : State :=
  (((s.feRecord c code first mask).fset (R.TC_FE_STATUS.halted c) 1).report (srcTcore c) codeFeFault 0
    (feDetail code first mask)).pend (.tc c) excFe 3

/-- Flags of the ME or the VE are ORed into TC_NUM_FLAGS (R128, R135). -/
def State.meFlags (s : State) (c : Nat) (f : Flags) : State :=
  s.setReg (A.TC_NUM_FLAGS c) (s.reg (A.TC_NUM_FLAGS c) ||| BitVec.ofNat 64 (f.bits % 64))

def State.veFlags (s : State) (c : Nat) (f : Flags) : State :=
  s.setReg (A.TC_NUM_FLAGS c) (s.reg (A.TC_NUM_FLAGS c) ||| BitVec.ofNat 64 (f.bits * 256))

/-- Draw of stochastic rounding for output element `e` of an operation that issued at counter `ctr` (R119). -/
def State.drawAt (s : State) (c ctr e : Nat) : Nat :=
  srDraw (s.fget (R.TC_NUM_SEED_LO.seed_lo c)) (s.fget (R.TC_NUM_SEED_HI.seed_hi c)) ctr e

/-- The draw of an operation that issues now. -/
def State.draw (s : State) (c e : Nat) : Nat := s.drawAt c (s.fget (R.TC_NUM_SR_CTR.sr_ctr c)) e

/-- The counter advances at issue by a quarter of the elements written, rounded up (R119). -/
def State.advanceSr (s : State) (c ctl n : Nat) : State :=
  if ctl % 8 = 4 then s.finc (R.TC_NUM_SR_CTR.sr_ctr c) ((n + 3) / 4) else s

end Sys2Proof.Machine
end

