-- ==== Sys2Proof/Machine/Queue.lean ====
section
/-! DEFINITION. The meanings of the queue commands: pushing engine instructions, waiting for them, and WAITB, FENCE,
skip and flush of the engines (R160, R163, R164, R200, R212, R233 to R236, R285). -/
namespace Sys2Proof.Machine

/-- Instructions in an engine queue. -/
def State.queueOf (s : State) (c : Nat) (q : EngineQ) : List Quad :=
  match q with
  | .me => (s.tcore c).me.queue
  | .ve => (s.tcore c).ve.queue
  | .fe => (s.tcore c).fe.queue

/-- An engine queue is halted. -/
def State.halted (s : State) (c : Nat) (q : EngineQ) : Bool :=
  match q with
  | .me => s.fon (R.TC_ME_STATUS.halted c)
  | .ve => s.fon (R.TC_VE_STATUS.halted c)
  | .fe => s.fon (R.TC_FE_STATUS.halted c)

/-- Every instruction pushed into a queue has completed: the queue is empty, no parallax sequence or transfer runs,
and no drained row waits for the VE. -/
def State.engineIdle (s : State) (c : Nat) (q : EngineQ) : Bool :=
  let t := s.tcore c
  match q with
  | .me => t.me.queue.isEmpty && t.me.px.isNone && t.me.toVe.isNone
  | .ve => t.ve.queue.isEmpty
  | .fe => t.fe.queue.isEmpty && t.fe.xfer.isNone

/-- Put an instruction at the end of a queue. -/
def State.pushQueue (s : State) (c : Nat) (q : EngineQ) (i : Quad) : State :=
  match q with
  | .me => s.onMe c (fun m => { m with queue := m.queue ++ [i] })
  | .ve => s.onVe c (fun v => { v with queue := v.queue ++ [i] })
  | .fe => s.onFe c (fun f => { f with queue := f.queue ++ [i] })

/-- A parallax failure's handler runs (R179). -/
def State.pxHandler (s : State) (c : Nat) : Bool :=
  let t := s.tcore c
  (t.me.stopped || t.ve.stopped) && t.cc.inHandler && t.cc.causeCode == excPx

/-- QPUSH: the check, then a free slot (R163, R200, R234, R285); the field that breaks R121 is logged (R582). -/
def State.qpush (s : State) (c fs1 : Nat) (q : EngineQ) (ok : Quad → Bool) (bad : Quad → Option Nat) : State :=
  let i := (s.tcore c).cc.fr fs1
  if s.pxHandler c then s.illegal (.tc c)
  else if !ok i then
    (match bad i with
     | some b => s.report (srcTcore c) codeFormatRefused 0 (b + qOp i * 256)
     | none => s).illegal (.tc c)
  else if 32 ≤ (s.queueOf c q).length then s.ccState (.tc c) 1
  else (s.pushQueue c q i).stepPc (.tc c)

def execQpushMe (u : CoreId) (fs1 : Nat) (s : State) : Res :=
  s.ctlInstr u [.f fs1] (fun c => s.qpush c fs1 .me mePushOk meFormatByte)

def execQpushVe (u : CoreId) (fs1 : Nat) (s : State) : Res :=
  s.ctlInstr u [.f fs1] (fun c => s.qpush c fs1 .ve vePushOk veFormatByte)

def execQpushFe (u : CoreId) (fs1 : Nat) (s : State) : Res :=
  s.ctlInstr u [.f fs1] (fun c => s.qpush c fs1 .fe fePushOk feFormatByte)

/-- The engine exceptions that a QSYNC of the named queues ends in, in order of code (R236, R238): of a queue that is
halted, or one whose parallax sequence or VE check ended in CHECK_FAIL. -/
def State.syncExceptions (s : State) (c mask : Nat) : List (Nat × Nat) :=
  let t := s.tcore c
  let halts := [(EngineQ.me, 0, excMe), (EngineQ.ve, 1, excVe), (EngineQ.fe, 2, excFe)].filterMap (fun e =>
    if bit mask e.2.1 && s.halted c e.1 then some (e.2.2, e.2.1 + 1) else none)
  halts ++ (if bit mask 0 && t.me.stopped then [(excPx, 1)] else []) ++ (if bit mask 1 && t.ve.stopped then [(excPx, 2)] else [])

/-- QSYNC (R233, R236): waits for the named queues; where one is halted or CHECK_FAIL has ended, it ends without
completing and the engine's exception is taken. -/
def execQsync (u : CoreId) (mask : Nat) (s : State) : Res :=
  s.ctlInstr u [] (fun c =>
    let qs := [(EngineQ.me, 0), (EngineQ.ve, 1), (EngineQ.fe, 2)].filter (fun e => bit mask e.2)
    if mask ≥ 8 then s.illegal u
    else
      match s.syncExceptions c mask with
      | e :: _ => (s.onJumbe u (fun j => { j with pending := j.pending.erase e })).takeException u e.1 e.2
      | [] => if qs.all (fun e => s.engineIdle c e.1) then s.stepPc u else s.ccState u 2)

/-- QDEPTH: the depth of one queue; a func that names none is illegal (R233, R213). -/
def execQdepth (u : CoreId) (xd func : Nat) (s : State) : Res :=
  s.ctlInstr u [] (fun c =>
    let put := fun (q : EngineQ) => s.retireInstr u (fun j => j.setX xd (BitVec.ofNat 64 (s.queueOf c q).length))
    match func with
    | 0 => put .me
    | 1 => put .ve
    | 2 => put .fe
    | _ => s.illegal u)

/-- The register of the seed or counter a func names (R119, R233). -/
def srReg (c func : Nat) : Option Nat :=
  match func with
  | 0 => some (A.TC_NUM_SEED_LO c)
  | 1 => some (A.TC_NUM_SEED_HI c)
  | 2 => some (A.TC_NUM_SR_CTR c)
  | _ => none

/-- SRGET (R233). -/
def execSrget (u : CoreId) (xd func : Nat) (s : State) : Res :=
  s.ctlInstr u [] (fun c =>
    match srReg c func with
    | some a => s.retireInstr u (fun j => j.setX xd (s.reg a))
    | none => s.illegal u)

/-- SRPUT waits until every instruction pushed earlier into the ME and VE queues has issued, then writes (R235). -/
def execSrput (u : CoreId) (xs func : Nat) (s : State) : Res :=
  s.ctlInstr u [.x xs] (fun c =>
    match srReg c func with
    | none => s.illegal u
    | some a =>
      if (s.queueOf c .me).isEmpty && (s.queueOf c .ve).isEmpty then (s.setReg a ((s.jumbe u).xr xs)).stepPc u else s)

/-- An engine may start the instruction at its head: queue not halted, no parallax sequence on the ME, no CHECK_FAIL,
no transfer on the FE. -/
def State.mayStart (s : State) (c : Nat) (q : EngineQ) : Bool :=
  let t := s.tcore c
  s.clocked && decide (c < 512) && s.tcoreUp c && !s.halted c q &&
    match q with
    | .me => t.me.px.isNone && !t.me.stopped
    | .ve => !t.ve.stopped
    | .fe => t.fe.xfer.isNone

/-- The instruction at the head of an engine that may start it, with opcode `op`. -/
def State.atHead (s : State) (c : Nat) (q : EngineQ) (op : Nat) : Option Quad :=
  match s.queueOf c q with
  | i :: _ => if s.mayStart c q && qOp i == op then some i else none
  | [] => none

/-- The instruction waits in WAITB already. -/
def State.engineWaits (s : State) (c : Nat) (q : EngineQ) : Bool :=
  s.waiters.any (fun w => w.ans == .engine c q)

/-- WAITB (R160, R426): held until the beacon reaches the threshold; halted with BEACON where the core may not use
it. -/
def execWaitb (c : Nat) (q : EngineQ) (s : State) : Res :=
  match s.atHead c q 0x07 with
  | none => .next s
  | some i =>
    let b := waitBeacon i
    if !s.mayUse (.tcore c) (s.beacon b) then
      match q with
      | .me => .next (s.meRefuse c 0x0A 0x07)
      | .ve => .next (s.veHalt c 0x02)
      | .fe => .next (s.feHalt c 6 0 0)
    else if (waitValue i).toNat ≤ (s.beacon b).value.toNat then .next (s.popQueue c q)
    else if s.engineWaits c q then .next s
    else .next (s.joinWaiters (.tcore c) (.engine c q) b 0 (some (waitValue i)))

/-- FENCE (R160): every earlier instruction of the engine has completed and is visible; drained rows that the VE has
not taken hold the ME's. -/
def execFence (c : Nat) (q : EngineQ) (s : State) : Res :=
  match s.atHead c q 0x08 with
  | none => .next s
  | some _ =>
    let t := if q = .fe then s.drainLines (s.tcore c).fe.lines |>.onFe c (fun f => { f with lines := [] }) else s
    whenever (q != .me || (s.tcore c).me.toVe.isNone) (t.popQueue c q) s

/-- PF0 writes the engine control registers (R555). -/
def coreRights (fn : Fn) : Bool := decide (fn = .pf 0)

def ctlReg (c : Nat) (q : EngineQ) : Nat :=
  match q with
  | .me => A.TC_ME_CTL c
  | .ve => A.TC_VE_CTL c
  | .fe => A.TC_FE_CTL c

/-- A halted queue resumes. -/
def State.unhalt (s : State) (c : Nat) (q : EngineQ) : State :=
  match q with
  | .me => s.fset (R.TC_ME_STATUS.halted c) 0
  | .ve => s.fset (R.TC_VE_STATUS.halted c) 0
  | .fe => s.fset (R.TC_FE_STATUS.halted c) 0

end Sys2Proof.Machine
end

