-- ==== Sys2Proof/Machine/Scratch.lean ====
section
/-! DEFINITION. Scratchpad commands (R275 to R281): the two ports on one word, errors, and the banking mode. -/
namespace Sys2Proof.Machine

/-- The scratchpad is in compatibility mode. -/
def State.compat (s : State) (c : Nat) : Bool := s.fon (R.TC_SP_CTL.compat c)

/-- Offset in the exchange region: the top 128 rows of every bank (R275, R278). -/
def State.exchange (s : State) (c off : Nat) : Bool :=
  if s.compat c then decide (0xF000 ≤ off % 0x10000) && decide (off < 0x400000)
  else decide (0x3C0000 ≤ off) && decide (off < 0x400000)

/-- Count a BUSY (R277). -/
def State.countBusy (s : State) (c : Nat) (onA : Bool) : State :=
  let s1 := s.fincSat (R.TC_SP_STATUS.busy_count c) 1
  if onA then s1.fset (R.TC_SP_STATUS.busy_a c) 1 else s1

/-- A word as a port delivers it: nothing where it is poisoned (R281). -/
def State.portWord (s : State) (c off : Nat) : Option Word :=
  if s.poisonedIn (padBase c + off) 8 then none else some (BitVec.ofNat 64 (leNat (s.padBytes c off 8)))

/-- One array cycle of both ports on one word (R276). -/
def State.ports (s : State) (c off : Nat) (a b : PortReq) : State :=
  let put := fun (t : State) (d : Word) => t.storePad c off (leBytes 8 d.toNat)
  let see := fun (t : State) (x : Option Word) (ba : Bool) (y : Option Word) (bb : Bool) => t.emit (.ports c x ba y bb)
  let rd := s.readPad c off 8
  match a, b with
  | .none, .none => s
  | .read, .none => see rd (s.portWord c off) false none false
  | .none, .read => see rd none false (s.portWord c off) false
  | .read, .read => see rd (s.portWord c off) false (s.portWord c off) false
  | .write d, .none => see (put s d) none false none false
  | .none, .write d => see (put s d) none false none false
  | .read, .write d =>
    see ((put s.drawn d).countBusy c false) (some (Config.portData s.free)) false none true
  | .write d, .read => see ((put s d).countBusy c false) none false (some d) true
  | .write _, .write d => see ((put s d).countBusy c true) none true none false

/-- Bank of an offset; in compatibility mode the segment, whose banks are ganged (R273, R278). -/
def State.bankOf (s : State) (c off : Nat) : Nat := if s.compat c then off / 0x100000 else off / 32 % 64

/-- Number of a requester: 0 ME, 1 VE, 2 FE, 3 control core, 4 the mesh, which ranks as the FE (R274). -/
def padMasterNum (m : PadMaster) : Nat :=
  match m with
  | .me => 0
  | .ve => 1
  | .fe => 2
  | .core => 3

/-- Rank in the grant of a bank, the lowest wins (R274, R279): a request refused for 8 consecutive cycles first (64 in
compatibility mode), then in compatibility mode the owner of the segment, then ME, VE, FE and mesh, control core. -/
def State.padRank (s : State) (c off who : Nat) : Nat :=
  let bank := s.bankOf c off
  let late := (if s.compat c then 64 else 8) ≤ assocGet (fun _ => 0) (s.tcore c).refused (8 * bank + who)
  let owner := s.compat c && who == bank
  if late then 0 else if owner then 1 else 2 + (if who = 4 then 2 else who)

/-- A requester of a bank is granted or refused: its run of refused cycles ends or grows. -/
def State.padGrant (s : State) (c off who : Nat) (ok : Bool) : State :=
  let k := 8 * s.bankOf c off + who
  let old := (s.tcore c).refused
  let new := assocSet (fun _ => 0) old k (if ok then 0 else 1 + assocGet (fun _ => 0) old k)
  s.onCore c (fun t => { t with refused := new })

/-- One array cycle of a single-port bank: a request of an own master against one of the mesh. The refused one is left to
come again. Of an FE and a mesh request, which rank alike, the FE's is taken (log 76). -/
def State.bankCycle (s : State) (c off : Nat) (who : PadMaster) (a b : PortReq) : State :=
  match a, b with
  | .none, .none => s
  | .none, b => (s.padGrant c off 4 true).ports c off b .none
  | a, .none => (s.padGrant c off (padMasterNum who) true).ports c off a .none
  | a, b =>
    let own := decide (s.padRank c off (padMasterNum who) ≤ s.padRank c off 4)
    ((s.padGrant c off (padMasterNum who) own).padGrant c off 4 (!own)).ports c off (if own then a else b) .none

/-- MESH_SCRATCHPAD_ACCESS: one array cycle with a request `a` of the core's own master `who` and a request `b` of the
mesh, or of an own master through the port-B window. In the exchange region `b` uses port B (R275, R276); elsewhere it is
an FE-ranked request for the bank (R274, R279). -/
def execMeshScratchpadAccess (c off : Nat) (who : PadMaster) (a b : PortReq) (s : State) : Res :=
  if !(decide (c < 512) && s.tcoreUp c && decide (off % 8 = 0) && decide (off < 0x400000)) then .next s
  else if s.exchange c off then .next (s.ports c off a b)
  else .next (s.bankCycle c off who a b)

/-! Errors (R281). -/

/-- Record a poisoned word, newest first, at most 64; answers whether it was recorded before. -/
def State.recordPoison (s : State) (key w : Nat) : State × Bool :=
  let l := s.recorded key
  (s.setRecorded key ((w :: l.filter (fun x => x != w)).take 64), l.contains w)

/-- A word of a scratchpad or staging buffer is poisoned; one recorded before is REPOISON, which retires the T-core or
resets the cluster. -/
def State.poisonSram (s : State) (l : Loc) : State :=
  match l with
  | .pad c off =>
    let r := (s.setPoison l.key).recordPoison c (l.key / 8)
    let s1 := (r.1.fincSat (R.TC_SP_STATUS.ecc_poisoned c) 1).report (srcTcore c) codeSramPoison 2 (off / 8 * 8)
    if r.2 then ((s1.report (srcTcore c) codeRepoison 2 (off / 8 * 8)).retireTcore c).requestRecovery (.tcore c) else s1
  | .staging k off =>
    let r := (s.setPoison l.key).recordPoison (1024 + k) (l.key / 8)
    let s1 := r.1.report (srcCluster k) codeSramPoison 2 (off / 8 * 8)
    if r.2 then (s1.report (srcCluster k) codeRepoison 2 (off / 8 * 8)).requestRecovery (.cluster k) else s1
  | _ => s

/-- `bits` errors strike the word at `pa`: one makes it weak, a second one before a read, or two at once, poison it. -/
def State.strike (s : State) (key bits : Nat) (poison : State → State) : State :=
  let w := key / 8
  if bits = 0 ∨ s.poison.contains w then s
  else if bits = 1 ∧ !s.weak.contains w then { s with weak := insertNat s.weak w }
  else poison { s with weak := s.weak.filter (fun x => x != w) }

/-- SRAM_POISON. -/
def execSramPoison (pa bits : Nat) (s : State) : Res :=
  match s.locOf pa with
  | some (.pad c off) => whenever (s.locUp (.pad c off)) (s.strike (padBase c + off) bits (fun t => t.poisonSram (.pad c off))) s
  | some (.staging k off) =>
    whenever (s.locUp (.staging k off)) (s.strike (stagingBufBase k + off) bits (fun t => t.poisonSram (.staging k off))) s
  | _ => .next s

/-! Banking mode (R278, R280). -/

/-- COMPAT_WRITE: the mode changes only with all three queues empty and no nonempty entry in the ME. -/
def execCompatWrite (fn : Fn) (c : Nat) (v : Bool) (s : State) : Res :=
  if !coreRights fn then .next (s.refuseWrite fn (A.TC_SP_CTL c) true true)
  else if !(decide (c < 512)) then .next s
  else
    let t := s.tcore c
    let idle := t.me.queue.isEmpty && t.ve.queue.isEmpty && t.fe.queue.isEmpty && t.me.entries.all (fun e => !e.2.nonempty)
    if !idle then .next (s.fset (R.TC_SP_STATUS.mode_err c) 1)
    else if s.compat c = v then .next s
    else .next ((s.fset (R.TC_SP_CTL.compat c) v.toNat).onCore c (fun t => { t with zeroing := true }))

/-- COMPAT_ZERO_DONE: the whole scratchpad is zero. -/
def execCompatZeroDone (c : Nat) (s : State) : Res :=
  whenever (decide (c < 512) && (s.tcore c).zeroing)
    ((s.zero (padBase c) 0x400000).onCore c (fun t => { t with zeroing := false })) s

end Sys2Proof.Machine
end

