-- ==== Sys2Proof/Machine/Llm.lean ====
section
/-! DEFINITION. Last-level memory: the directory, the write-combining buffers, write-back, errors (R289 to R297). -/
namespace Sys2Proof.Machine

/-- Copies of a line that a directory entry names. -/
def DirLine.copies (d : DirLine) : Nat := d.sharers.length + d.owner.isSome.toNat + d.cached.toNat

/-- A P core's read or write of a line that it does not hold meets the latest value at the home (R294). -/
def State.fetchLine (s : State) (line : Nat) : State :=
  match locOfLine line with
  | some l => (s.readLine l 0).correctAt l 64
  | none => s

/-- A line that a P core gives up, modified, goes to its home. -/
def State.returnLine (s : State) (line : Nat) : State :=
  match locOfLine line with
  | some l => s.homeWrite l
  | none => s

/-- The transaction on a line's entry (R294: MESI). -/
def State.directory (s : State) (line m : Nat) (r : CohReq) : State :=
  let d := s.dirLine line
  match r with
  | .pRead c =>
    if d.owner = some c ∨ d.sharers.contains c then s
    else
      let s1 := s.fetchLine line
      s1.setDirLine line { s1.dirLine line with sharers := insertNat (s1.dirLine line).sharers c }
  | .pWrite c =>
    let s1 := if d.owner = some c ∨ d.sharers.contains c then s else s.fetchLine line
    s1.setDirLine line { s1.dirLine line with owner := some c, sharers := [] }
  | .pEvict c dirty =>
    let s1 := if dirty && d.owner == some c then s.returnLine line else s
    let e := s1.dirLine line
    s1.setDirLine line { e with owner := if e.owner = some c then none else e.owner, sharers := e.sharers.filter (fun x => x != c) }
  | .feRead => s.fetchLine line
  | .feWrite =>
    let s1 := match locOfLine line with | some l => s.cleanOwner l | none => s
    s1.setDirLine line { s1.dirLine line with owner := none, sharers := [] }
  | .dirEvict =>
    let s1 := if d.owner.isSome then s.returnLine line else s
    ((s1.evictLine line).setDirLine line .none).finc (R.LLM_ECC_CNT.back_inval m) d.copies

/-- DIRECTORY_TRANSACTION: P cores in service only. -/
def execDirectoryTransaction (line : Nat) (r : CohReq) (s : State) : Res :=
  let who := match r with | .pRead c => s.pcoreUp c | .pWrite c => s.pcoreUp c | .pEvict c _ => decide (c < 192) | _ => true
  match lineHome line with
  | some m => whenever who (s.directory line m r) s
  | none => .next s

/-- WCB_IDLE_DRAIN (R292). -/
def execWcbIdleDrain (m line : Nat) (s : State) : Res := whenever (decide (m < 8)) (s.drainLine m line) s

/-- LLM_WRITEBACK: a write of writeback, by PF0. -/
def execLlmWriteback (fn : Fn) (n : Nat) (s : State) : Res :=
  if fn ≠ .pf 0 then .next (s.refuseWrite fn (A.LLM_CTL n) true true)
  else whenever (decide (n < 8)) (s.fset (R.LLM_STATUS.wb_busy n) 1) s

/-- LLM_WRITEBACK_DONE: every dirty line of the slice is clean. Which cache unit holds a line is a hash the spec does not
give; the model counts a line to the slice of its home (log 16). -/
def execLlmWritebackDone (n : Nat) (s : State) : Res :=
  if !(decide (n < 8) && s.fon (R.LLM_STATUS.wb_busy n)) then .next s
  else
    let dirty := (s.dir.filter (fun e => e.2.cached && e.2.dirty && lineHome e.1 == some n)).map Prod.fst
    let s1 := dirty.foldl (fun s l => (s.writeBack l).setDirLine l { s.dirLine l with dirty := false }) s
    .next (s1.fset (R.LLM_STATUS.wb_busy n) 0)

/-- LLM_POISON: errors in a word of a slice, by its address in a unit, or by its line's address where a cache-mode unit
holds the line (R289); where in the slice such a line lies is a hash the spec does not give, so the detail is free (log
16). -/
def execLlmPoison (pa bits : Nat) (s : State) : Res :=
  match s.locOf pa with
  | some (.llm u off) =>
    whenever (s.llmUp u)
      (s.strike (llmBase u + off) bits (fun t =>
        (t.setPoison (llmBase u + off)).report (srcSlice (u / 8)) codeLlmPoison 2 (u % 8 * 0x2000000 + off / 8 * 8))) s
  | some (.gddr ch loc) =>
    let l : Loc := .gddr ch loc
    whenever (s.dirLine l.line).cached
      (s.strike (copyKey l.key) bits (fun t => (t.setPoison (copyKey l.key)).reportOpen (srcSlice (ch / 8)) codeLlmPoison 2)) s
  | _ => .next s

end Sys2Proof.Machine
end

