-- ==== Sys2Proof/Machine/Gddr.lean ====
section
/-! DEFINITION. Board memory (R298 to R316): training, the channel scheduler, CRC errors and retrains, line errors, map
entries, heat, refresh. -/
namespace Sys2Proof.Machine

def chState (s : State) (n : Nat) : Nat := s.fget (R.GDM_CH_STATUS.state n)

/-- A channel's state changes; PF0 vector 96 + n (R563). -/
def State.setChState (s : State) (n st : Nat) : State :=
  if chState s n = st then s else (s.fset (R.GDM_CH_STATUS.state n) st).raise (.pf 0) (96 + n)

/-- Usable MiB by fit (R298). -/
def usableMib (devices density : Nat) : Nat := devices * (if density = 0 then 1920 else 2880)

/-- A channel retired: its contents are lost, and every map entry that names it is disabled (R305). -/
def State.retireChan (s : State) (n : Nat) : State :=
  let s1 := (s.zero (gddrKey n 0) (2 ^ 36)).disableMaps n
  let s2 := (s1.setChan n Channel.reset).setChState n 4
  (s2.reportOpen (srcChan n) codeChannelRetired 2).recount (s.partOfChan n)

/-- MEMORY (R471): after self-test, every channel has been trained and zeroed, or retired; one fused off has no part. -/
def State.checkMemory (s : State) : State :=
  if s.milestone 3 && (List.range 64).all (fun n =>
      decide (2 ≤ chState s n) || s.nv.fusedChannels.contains n || s.dieOut (dieOfChan n)) then s.reach_ 5 else s

/-- CHANNEL_TRAIN_DONE: start-up training ends (R299, R300). -/
def execChannelTrainDone (n : Nat) (fit : ChanFit) (s : State) : Res :=
  if !(decide (n < 64) && chState s n == 1) then .next s
  else if !(fit.ok && decide (1 ≤ fit.devices ∧ fit.devices ≤ 2) && decide (fit.density < 2) && decide (fit.rate < 3)) then
    .next (s.retireChan n).checkMemory
  else
    let s1 := (((s.fset (R.GDM_CH_STATUS.devices n) fit.devices).fset (R.GDM_CH_STATUS.density n) fit.density).fset
      (R.GDM_CH_STATUS.rate n) fit.rate).fset (R.GDM_CH_STATUS.usable_mib n) (usableMib fit.devices fit.density)
    .next (((s1.zero (gddrKey n 0) (2 ^ 36)).setChState n 2).recount (s.partOfChan n)).checkMemory

/-! The scheduler (R309 to R311). -/

/-- The write batch ends (R311). -/
def writesEnd (c : Channel) (batchMax : Nat) : Bool :=
  c.wq.isEmpty || (!c.rq.isEmpty && (decide (batchMax ≤ c.batch) ||
    (c.rq.any (fun q => q.cls == 1) && decide (8 ≤ c.sinceLat))))

/-- The read batch ends. -/
def readsEnd (c : Channel) (batchMax hiMark : Nat) : Bool :=
  !c.wq.isEmpty && (c.rq.isEmpty || (decide (batchMax ≤ c.batch) && decide (hiMark ≤ c.wq.length)))

/-- First in open rows, then oldest (R310). -/
def pickRead (rq : List GReq) (isOpen : Nat → Bool) (cls : Nat) : Option GReq :=
  match rq.find? (fun q => q.cls == cls && isOpen q.line) with
  | some q => some q
  | none => rq.find? (fun q => q.cls == cls)

/-- The read to issue (R310): a low read at least once in 16 slots, bulk at least once in 16 of those. -/
def nextRead (c : Channel) (isOpen : Nat → Bool) : Option GReq :=
  let lat := pickRead c.rq isOpen 1
  let norm := pickRead c.rq isOpen 0
  let bulk := pickRead c.rq isOpen 2
  let low := if c.sinceBulk ≥ 15 ∧ bulk.isSome then bulk else match norm with | some q => some q | none => bulk
  match lat with
  | some q => if c.sinceLow ≥ 15 ∧ low.isSome then low else some q
  | none => low

/-- Counters after a read of a class. -/
def Channel.served (c : Channel) (cls : Nat) : Channel :=
  let lowWaits := c.rq.any (fun q => q.cls != 1)
  let bulkWaits := c.rq.any (fun q => q.cls == 2)
  { c with sinceLow := if cls = 1 ∧ lowWaits then c.sinceLow + 1 else 0,
           sinceBulk := if cls = 2 then 0 else if cls = 0 ∧ bulkWaits then c.sinceBulk + 1 else c.sinceBulk }

/-- GDDR7_ACCESS: the scheduler turns if it is due, then issues one transfer. -/
def execGddr7Access (n : Nat) (s : State) : Res :=
  if !(decide (n < 64) && chState s n == 2 && !(s.chan n).selfRefresh) then .next s
  else
    let c := s.chan n
    let bm := s.fget (R.GDM_CH_CTL.batch_max n)
    let hi := s.fget (R.GDM_CH_CTL.wr_hi_mark n)
    if c.rq.isEmpty && c.wq.isEmpty then .next s
    else
      let turn := if c.writing then writesEnd c bm else readsEnd c bm hi
      let c1 : Channel := if turn then { c with writing := !c.writing, batch := 0, sinceLat := 0 } else c
      let s1 := if turn then s.finc (if c.writing then R.GDM_CH_TURN.wr_to_rd n else R.GDM_CH_TURN.rd_to_wr n) 1 else s
      if c1.writing then
        let lat := c1.rq.any (fun q => q.cls == 1)
        .next ((s1.setChan n { c1 with wq := c1.wq.drop 1, batch := c1.batch + 1, sinceLat := if lat then c1.sinceLat + 1 else 0, attempts := 0 }).finc
          (R.GDM_CH_WR_BYTES.wr_bytes n) 64)
      else
        match nextRead c1 (Config.rowOpen s.free) with
        | none => .next s1
        | some q =>
          let c2 : Channel := { c1 with rq := c1.rq.erase q, batch := c1.batch + 1, attempts := 0 }
          .next ((s1.drawn.setChan n (c2.served q.cls)).finc (R.GDM_CH_RD_BYTES.rd_bytes n) 64)

/-! CRC errors and retrains (R303, R304). -/

/-- A retrain begins; the channel's requests wait. -/
def State.startRetrain (s : State) (n : Nat) : State :=
  ((s.setChan n { s.chan n with attempts := 0, retries := [] }).setChState n 3).reportOpen (srcChan n) codeRetrain 0

/-- CRC_ERROR: the transfer in progress failed. Up to four attempts, each retry logged; then, or after crc_retrain_thr
retries within 1 ms, the channel retrains. -/
def execCrcError (now n : Nat) (s : State) : Res :=
  let s0 := s.advance now
  if !(decide (n < 64) && chState s0 n == 2) then .next s0
  else
    let c := s0.chan n
    if 3 ≤ c.attempts then .next (s0.startRetrain n)
    else
      let rs := (s0.clock :: c.retries).filter (fun t => decide (s0.clock < t + 1000000))
      let s1 := ((s0.setChan n { c with attempts := c.attempts + 1, retries := rs }).finc (R.GDM_CH_CRC.crc_retries n) 1).reportOpen
        (srcChan n) codeCrcRetry 0
      .next (if s.fget (R.GDM_CH_CTL.crc_retrain_thr n) ≤ rs.length then s1.startRetrain n else s1)

/-- RETRAIN_CMD: a requested retrain takes a slot of the arbiter (R503, R505); one written while a retrain runs follows
it (R316). -/
def execRetrainCmd (fn : Fn) (n : Nat) (s : State) : Res :=
  if fn ≠ .pf 0 then .next (s.refuseWrite fn (A.GDM_CH_CTL n) true true)
  else if !(decide (n < 64)) then .next s
  else if chState s n = 3 then .next (s.setChan n { s.chan n with retrainQueued := true })
  else if chState s n = 2 then
    let g := s.mntGrant 1 n reqPf0 (s.mntCondition 1 n)
    .next (if g.2.1 = stDone then g.1.setChState n 3 else g.1)
  else .next s

/-- The arbiter slot of a requested retrain of a channel. -/
def State.retrainSlot (s : State) (n : Nat) : Option Nat :=
  s.mntHeld.find? (fun i => s.fget (R.MNT_SLOT.activity i) == 1 && s.fget (R.MNT_SLOT.domain i) == n)

/-- CHANNEL_RETRAIN_DONE: held requests resume; two failures within 1 s retire the channel, one alone starts the retrain
over. -/
def execChannelRetrainDone (now n : Nat) (ok : Bool) (s : State) : Res :=
  let s0 := s.advance now
  if !(decide (n < 64) && chState s0 n == 3) then .next s0
  else
    let c := s0.chan n
    let s1 := s0.finc (R.GDM_CH_CRC.retrains n) 1
    let free := fun (t : State) (status : Nat) => match t.retrainSlot n with | some i => t.mntEnd i status 100 | none => t
    if ok then
      if c.retrainQueued then .next (s1.setChan n { c with retrainQueued := false })
      else .next ((free s1 stDone).setChState n 2)
    else
      let fs := (s0.clock :: c.failTimes).filter (fun t => decide (s0.clock < t + 1000000000))
      if 2 ≤ fs.length then .next ((free s1 stInternal).retireChan n)
      else .next (s1.setChan n { c with failTimes := fs })

/-- GDDR7_POISON: errors in a line of a channel (R302). -/
def execGddr7Poison (n addr bits : Nat) (s : State) : Res :=
  if !(decide (n < 64) && s.chanTrained n && decide (addr < s.fget (R.GDM_CH_STATUS.usable_mib n) * 0x100000)) then .next s
  else
    let line := addr / 64 * 64
    let k := gddrKey n line
    let words := (List.range 8).map (fun i => k / 8 + i)
    if bits = 0 ∨ words.all s.poison.contains then .next s
    else if bits = 1 ∧ !words.any s.weak.contains then .next { s with weak := insertNat s.weak (k / 8) }
    else
      let s1 : State := { s with weak := s.weak.filter (fun w => !words.contains w), poison := words.foldl insertNat s.poison }
      .next ((s1.finc (R.GDM_CH_ECC.poisoned n) 1).report (srcChan n) codePoison 2 line)

/-! Map entries (R306, R307). -/

/-- Two ranges meet. -/
def meets (a n b m : Nat) : Bool := decide (a < b + m) && decide (b < a + n) && decide (0 < n) && decide (0 < m)

/-- Map entry `r`, as it would be enabled, holds (R307). -/
def State.mapValid (s : State) (r : Nat) : Bool :=
  let chs := bitsOf 64 (s.fget (R.GDM_MAP_CHAN.channel_mask r))
  let k := chs.length
  let size := s.fget (R.GDM_MAP_BASE.size_2m r)
  let base := s.fget (R.GDM_MAP_BASE.base_2m r)
  let cb := s.fget (R.GDM_MAP_CBASE.chan_base_2m r)
  let p := s.partOfChan (chs.headD 0)
  decide (0 < k) && decide (0 < size) && decide (size % k = 0) &&
    (s.fget (R.GDM_MAP_CTL.interleave r) != 3 || k == 1) &&
    chs.all (fun c => s.chanTrained c && p.isSome && s.partOfChan c == p &&
      decide ((cb + size / k) * 2 ≤ s.fget (R.GDM_CH_STATUS.usable_mib c))) &&
    (List.range 64).all (fun q =>
      q == r || !s.fon (R.GDM_MAP_CTL.enable q) ||
        let chq := bitsOf 64 (s.fget (R.GDM_MAP_CHAN.channel_mask q))
        let sq := s.fget (R.GDM_MAP_BASE.size_2m q)
        !meets base size (s.fget (R.GDM_MAP_BASE.base_2m q)) sq &&
          !(chs.any chq.contains && meets cb (size / k) (s.fget (R.GDM_MAP_CBASE.chan_base_2m q)) (sq / Nat.max 1 chq.length)))

def mapRights (fn : Fn) : Bool := decide (fn = .pf 0 ∨ fn = .pf 1)

/-- MAP_ENABLE_WRITE: a write of GDM_MAP_CTL (R307): a 1 validates an entry that is not enabled, a 0 disables it, a 1 in
map_err clears it, and interleave is written only while the entry is disabled. -/
def execMapEnableWrite (fn : Fn) (r : Nat) (value : Word) (s : State) : Res :=
  if !mapRights fn then .next (s.refuseWrite fn (A.GDM_MAP_CTL r) true true)
  else if !(decide (r < 64)) then .next s
  else
    let on := s.fon (R.GDM_MAP_CTL.enable r)
    let s1 := if getField value 3 1 = 1 then s.fset (R.GDM_MAP_CTL.map_err r) 0 else s
    let s2 := if on then s1 else s1.fset (R.GDM_MAP_CTL.interleave r) (getField value 1 2)
    if getField value 0 1 = 0 then .next (s2.disableMap r)
    else if on then .next s2
    else if s2.mapValid r then .next (s2.fset (R.GDM_MAP_CTL.enable r) 1)
    else .next (s2.fset (R.GDM_MAP_CTL.map_err r) 1)

/-! Heat and refresh (R312, R314, R315). -/

def chansOf (m : Nat) : List Nat := (List.range 8).map (fun i => 8 * m + i)

/-- The M-die is in the hot state. -/
def State.mHot (s : State) (m : Nat) : Bool := (chansOf m).any (fun n => s.fon (R.GDM_CH_STATUS.hot n))

/-- Limit in percent of issue slots of a channel's controller (R314). -/
def State.chanLimit (s : State) (n : Nat) : Nat := if s.fon (R.GDM_CH_STATUS.hot n) then 75 else 100

/-- Limit in percent of issue cycles that a T- or P-die's own temperature sets (R572). -/
def State.limitOf (s : State) (d : Nat) : Nat := assocGet (fun _ => 100) s.nwt.limit d

/-- Limit in percent of issue cycles of a die's engines or cores: a hot M-die limits T(2n) and T(2n+1) of its stack to 75
with its controllers (R20, R314); with a die's own limit the lower one governs (R315). -/
def State.issueLimit (s : State) (d : Nat) : Nat :=
  if d < 16 ∧ s.mHot (d / 2) then Nat.min (s.limitOf d) 75 else s.limitOf d

/-- Show the hot state on every channel of an M-die, log the change, raise the vectors. -/
def State.setHot (s : State) (m : Nat) (on : Bool) : State :=
  let s1 := (chansOf m).foldl (fun s n => (s.fset (R.GDM_CH_STATUS.hot n) on.toNat).raise (.pf 0) (96 + n)) s
  s1.reportOpen (srcDie (dieM m)) (if on then codeHotEnter else codeHotExit) 0

/-- TEMP_POLL: device reports of eight channels, and the M-die's temperature in degrees (R314). -/
def execTempPoll (now m : Nat) (temp : Int) (devHot : Nat) (s : State) : Res :=
  let s0 := s.advance now
  if !(decide (m < 8)) then .next s0
  else
    let s1 := (chansOf m).foldl (fun s n => s.fset (R.GDM_CH_STATUS.dev_hot n) ((bit devHot (n % 8)).toNat)) s0
    let any := decide (devHot % 256 ≠ 0)
    let enter := decide (95 < temp) || any
    let s2 := if enter && !s1.mHot m then s1.setHot m true else s1
    -- the time since which the die has been below 90 C with no device hot
    let cool := if temp < 90 ∧ !any then (match assocGet (fun _ => (none : Option Nat)) s2.nwt.mCool m with | some t => some t | none => some s2.clock) else none
    .next { s2 with nwt := { s2.nwt with mCool := assocSet (fun _ => (none : Option Nat)) s2.nwt.mCool m cool } }

/-- HOT_EXIT: after 10 ms below 90 C with no device hot. -/
def execHotExit (now m : Nat) (s : State) : Res :=
  let s0 := s.advance now
  match assocGet (fun _ => (none : Option Nat)) s0.nwt.mCool m with
  | some t => whenever (decide (m < 8) && s0.mHot m && decide (t + 10000000 ≤ s0.clock)) (s0.setHot m false) s0
  | none => .next s0

/-- Share of a channel's slots that refresh takes, in 1/1000: all-bank takes twice that of per-bank, and either doubles
in the hot state (R312, R314). -/
def State.refreshShare (s : State) (n : Nat) : Nat :=
  (if s.fon (R.GDM_CH_CTL.refresh_mode n) then 38 else 19) * (if s.fon (R.GDM_CH_STATUS.hot n) then 2 else 1)

/-- REFRESH takes slots and leaves the data as it is; in the hot state the rate is doubled (R312, R314). -/
def execRefresh (n : Nat) (s : State) : Res :=
  whenever (decide (n < 64) && s.chanTrained n && !(s.chan n).selfRefresh)
    (s.setChan n { s.chan n with refreshes := (s.chan n).refreshes + (if s.fon (R.GDM_CH_STATUS.hot n) then 2 else 1) }) s

end Sys2Proof.Machine
end

