-- ==== Sys2Proof/Machine/Ecdsa.lean ====
section
/-! DEFINITION. ECDSA over the curve P-384 with SHA-384 (R53, R466): whether a signature verifies. The curve and the
algorithm are those of the published standard the rules name (log 12). -/
namespace Sys2Proof.Machine

/-- The field of P-384, the order of its base point, its coefficient b. The coefficient a is -3. -/
def ecQ : Nat := 2 ^ 384 - 2 ^ 128 - 2 ^ 96 + 2 ^ 32 - 1
def ecN : Nat := 0xFFFFFFFFFFFFFFFFFFFFFFFFFFFFFFFFFFFFFFFFFFFFFFFFC7634D81F4372DDF581A0DB248B0A77AECEC196ACCC52973
def ecB : Nat := 0xB3312FA7E23EE7E4988E056BE3F82D19181D9C6EFE8141120314088F5013875AC656398D8A2ED19D2A85C8EDD3EC2AEF

/-- A point in Jacobian coordinates; z = 0 is the point at infinity. -/
structure EcPoint where
  x : Nat
  y : Nat
  z : Nat
deriving DecidableEq, Repr

def ecInf : EcPoint := { x := 1, y := 1, z := 0 }

/-- The base point. -/
def ecG : EcPoint :=
  { x := 0xAA87CA22BE8B05378EB1C71EF320AD746E1D3B628BA79B9859F741E082542A385502F25DBF55296C3A545E3872760AB7,
    y := 0x3617DE4A96262C6F5D9E98BF9292DC29F8F41DBD289A147CE9DA3113B5F0B8C00A60B1CE1D7E819D7A431D7C90EA0E5F,
    z := 1 }

/-- Difference in the field. -/
def ecSub (a b : Nat) : Nat := (a + (ecQ - b % ecQ)) % ecQ

/-- Twice a point. -/
def ecDouble (p : EcPoint) : EcPoint :=
  let yy := p.y * p.y % ecQ
  let zz := p.z * p.z % ecQ
  let s := 4 * p.x * yy % ecQ
  let m := 3 * ecSub p.x zz * (p.x + zz) % ecQ
  let x3 := ecSub (m * m) (2 * s)
  { x := x3, y := ecSub (m * ecSub s x3) (8 * yy * yy), z := 2 * p.y * p.z % ecQ }

/-- Sum of two points. -/
def ecAdd (p r : EcPoint) : EcPoint :=
  if p.z = 0 then r
  else if r.z = 0 then p
  else
    let za := p.z * p.z % ecQ
    let zb := r.z * r.z % ecQ
    let u := p.x * zb % ecQ
    let h := ecSub (r.x * za) u
    let s := p.y * zb * r.z % ecQ
    let d := ecSub (r.y * za * p.z) s
    if h = 0 then (if d = 0 then ecDouble p else ecInf)
    else
      let hh := h * h % ecQ
      let v := u * hh % ecQ
      let x3 := ecSub (d * d) (hh * h + 2 * v)
      { x := x3, y := ecSub (d * ecSub v x3) (s * hh % ecQ * h), z := p.z * r.z % ecQ * h % ecQ }

/-- j times the base point plus k times `p`, over the bits below `n`. -/
def ecSum (p both : EcPoint) (j k n : Nat) (acc : EcPoint) : EcPoint :=
  match n with
  | 0 => acc
  | n + 1 =>
    let t := ecDouble acc
    let u := match bit j n, bit k n with
      | true, true => ecAdd t both
      | true, false => ecAdd t ecG
      | false, true => ecAdd t p
      | false, false => t
    ecSum p both j k n u

/-- a to the power e modulo m, over the bits below `n`. -/
def powMod (m a e n acc : Nat) : Nat :=
  match n with
  | 0 => acc
  | n + 1 => powMod m a e n (acc * acc % m * (if bit e n then a else 1) % m)

/-- The point lies on the curve. -/
def ecOnCurve (x y : Nat) : Bool :=
  decide (x < ecQ) && decide (y < ecQ) && y * y % ecQ == ecSub (x * x * x + ecB) (3 * x)

/-- A signature (r then s, 48 B each) over a digest verifies under a public key (x then y, 48 B each). Numbers are
little-endian as R42's chapter has its multi-byte fields; the digest is read as the standard reads it (log 71). -/
def ecdsaOk (key digest sig : List Byte) : Bool :=
  let x := leAt key 0 48
  let y := leAt key 48 48
  let r := leAt sig 0 48
  let s := leAt sig 48 48
  let w := powMod ecN s (ecN - 2) 384 1
  let q : EcPoint := { x := x, y := y, z := 1 }
  let v := ecSum q (ecAdd ecG q) (beNat digest * w % ecN) (r * w % ecN) 384 ecInf
  let zz := v.z * v.z % ecQ
  ecOnCurve x y && decide (0 < r) && decide (r < ecN) && decide (0 < s) && decide (s < ecN) && v.z != 0 &&
    (r * zz % ecQ == v.x || (decide (r + ecN < ecQ) && (r + ecN) * zz % ecQ == v.x))

end Sys2Proof.Machine
end

