-- ==== Sys2Proof/Machine/Image.lean ====
section
/-! DEFINITION. The Togus image (R42 to R66, R557, R558): the thirteen validation steps, loading at start-up, and
restructuring a partition. -/
namespace Sys2Proof.Machine

/-! Fields of an image. -/

def imgKind (b : List Byte) : Nat := leAt b 6 1
def imgTarget (b : List Byte) : Nat := leAt b 7 1
def imgSeq (b : List Byte) : Nat := leAt b 0x10 8
def imgLen (b : List Byte) : Nat := leAt b 0x18 4
def imgCount (b : List Byte) : Nat := leAt b 0x1C 2
def imgHash (b : List Byte) : List Byte := (b.drop 0x20).take 48

/-- Section table entry `i`: type, version, offset, length, rsv. -/
def tabType (b : List Byte) (i : Nat) : Nat := leAt b (128 + 16 * i) 2
def tabVersion (b : List Byte) (i : Nat) : Nat := leAt b (130 + 16 * i) 2
def tabOffset (b : List Byte) (i : Nat) : Nat := leAt b (132 + 16 * i) 4
def tabLength (b : List Byte) (i : Nat) : Nat := leAt b (136 + 16 * i) 4
def tabRsv (b : List Byte) (i : Nat) : Nat := leAt b (140 + 16 * i) 4

/-- Table entry of a section type, and the section's bytes. -/
def imgEntry (b : List Byte) (t : Nat) : Option Nat := (List.range (imgCount b)).find? (fun i => tabType b i == t)

def imgSection (b : List Byte) (t : Nat) : Option (List Byte) :=
  (imgEntry b t).map (fun i => (b.drop (tabOffset b i)).take (tabLength b i))

/-- Length of a section (R47). -/
def sectionLen (t : Nat) : Nat :=
  match t with
  | 1 => 2048
  | 2 => 128
  | 3 => 256
  | 4 => 512
  | 5 => 4096
  | 6 => 144
  | 7 => 1024
  | _ => 0

/-- The structure an image makes of the one in force: sections it does not carry stay (R47). -/
def mergeSections (old : List (List Byte)) (b : List Byte) : List (List Byte) :=
  (List.range 7).map (fun i => (imgSection b (i + 1)).getD (old.getD i []))

/-- The structure in force with its sections replaced. -/
def State.withSections (s : State) (secs : List (List Byte)) : State := { s with togus := { s.togus with sections := secs } }

/-- Bytes `new` over bytes `old`, where they differ from bytes `base`. -/
def mergeBytes (base new old : List Byte) : List Byte :=
  match base, new, old with
  | _, [], _ => []
  | b :: base, n :: new, o :: old => (if b = n then o else n) :: mergeBytes base new old
  | _, n :: new, _ => n :: new

/-- The sections that a partial image makes of those in force: the bytes in which it differs from the sections it was
validated against, which by R58 lie in its target, and everything else as it is (R44, R47). -/
def applySections (base old : List (List Byte)) (b : List Byte) : List (List Byte) :=
  (List.range 7).map (fun i => mergeBytes (base.getD i []) ((mergeSections base b).getD i []) (old.getD i []))

/-- The structure after a pending image. -/
def State.afterImage (s : State) (i : PendingImg) : State := s.withSections (applySections i.base s.togus.sections i.bytes)

/-- The first element of a list of checks that fails, with its byte offset. -/
def firstBad (l : List (Bool × Nat)) : Option Nat := (l.find? (fun e => !e.1)).map Prod.snd

def allZero (b : List Byte) (off n : Nat) : Bool := ((b.drop off).take n).all (fun x => x == 0)

/-! Steps 1 to 6 (R56). Each answers the offset of an offending field. -/

def checkHeader (full : Bool) (b : List Byte) : Option Nat :=
  firstBad
    [ (leAt b 0 4 == 0x53554754, 0),
      (imgKind b == (if full then 1 else 2), 6),
      ((if full then imgTarget b == 0xFF else decide (imgTarget b < 16)), 7),
      (decide (imgLen b ≤ 262144) && imgLen b % 64 == 0 && decide (128 + 16 + 256 ≤ imgLen b), 0x18) ]

def checkFormat (b : List Byte) : Option Nat :=
  firstBad [ (leAt b 4 2 == 2, 4), (leAt b 8 4 == 0xF40, 8) ]

/-- State of vendor key slot `i`: 0 empty, 1 programmed, 2 revoked (R556). -/
def State.vendorSlot (s : State) (i : Nat) : Nat := fld s.nv.vendorSlots (2 * i) 2

def State.ownerSlot (s : State) (i : Nat) : Nat := s.nv.ownerSlots.getD i 0

/-- A key slot is usable: programmed and not revoked, with a key that hashes to the slot's digest (R54). -/
def keyUsable (slot : Nat) (key digest : List Byte) : Bool := slot == 1 && sha384 key == digest

/-- The vendor signature is valid (R53, R54). -/
def checkVendor (s : State) (b : List Byte) : Option Nat :=
  let o := imgLen b - 256
  let k := leAt b o 1
  let key := s.nv.vendorKeys.getD k []
  firstBad [ (decide (k < 2) && keyUsable (s.vendorSlot k) key (s.nv.vendorDigests.getD k []), o),
    (ecdsaOk key (sha384 (b.take o)) ((b.drop (o + 0x40)).take 96), o + 0x40) ]

/-- The owner signature is valid; with no slot programmed every image is refused (R53, R54). -/
def checkOwner (s : State) (b : List Byte) : Option Nat :=
  let o := imgLen b - 256
  let k := leAt b (o + 1) 1
  let key := s.nv.ownerKeys.getD k []
  firstBad [ (decide (k < 4) && keyUsable (s.ownerSlot k) key (s.nv.ownerDigests.getD k []), o + 1),
    (ecdsaOk key (sha384 (b.take o)) ((b.drop (o + 0xA0)).take 96), o + 0xA0) ]

def checkRollback (s : State) (b : List Byte) : Option Nat :=
  firstBad [ (decide (s.nv.imageMin ≤ leAt b 0x0C 4), 0x0C) ]

/-- Step 6. The step table names no step for a section offset off a 64 B boundary (R46) or a section version other than
1; the model refuses both here (log 75). -/
def checkSections (b : List Byte) : Option Nat :=
  let n := imgCount b
  let full := imgKind b == 1
  let entry := fun i =>
    [ (decide (1 ≤ tabType b i ∧ tabType b i ≤ (if full then 7 else 6)) &&
         !((List.range i).any (fun j => tabType b j == tabType b i)), 128 + 16 * i),
      (tabVersion b i == 1, 130 + 16 * i),
      (tabOffset b i % 64 == 0 && decide (128 + 16 * n ≤ tabOffset b i) &&
         decide (tabOffset b i + tabLength b i ≤ imgLen b - 256) &&
         !((List.range i).any (fun j => decide (tabOffset b i < tabOffset b j + tabLength b j) &&
             decide (tabOffset b j < tabOffset b i + tabLength b i))), 132 + 16 * i),
      (tabLength b i == sectionLen (tabType b i), 136 + 16 * i) ]
  firstBad ([(decide (1 ≤ n ∧ n ≤ 16), 0x1C)] ++ (List.range (Nat.min n 16)).flatMap entry ++ [(!full || n == 7, 0x1C)])

/-! Step 7: ranges and rsv fields, section by section. `o` is the section's offset in the image. -/

def rangePartitions (x : List Byte) (o : Nat) : List (Bool × Nat) :=
  (List.range 16).flatMap (fun p =>
    let e := 128 * p
    [ (decide (leAt x e 1 ≤ 1), o + e),
      (decide (leAt x (e + 1) 1 ≤ 1), o + e + 1),
      (decide (1 ≤ leAt x (e + 2) 1 ∧ leAt x (e + 2) 1 ≤ 64), o + e + 2),
      (decide (1 ≤ leAt x (e + 3) 1), o + e + 3),
      (allZero x (e + 4) 4, o + e + 4), (allZero x (e + 0x32) 6, o + e + 0x32), (allZero x (e + 0x58) 40, o + e + 0x58) ])

def rangeModes (x : List Byte) (o : Nat) : List (Bool × Nat) :=
  (List.range 128).map (fun i => ((List.range 4).all (fun j => fld (leAt x i 1) (2 * j) 2 != 3), o + i))

def rangeRegions (x : List Byte) (o : Nat) : List (Bool × Nat) :=
  (List.range 16).flatMap (fun p =>
    let e := 16 * p
    [ (decide (leAt x e 2 ≤ 4095), o + e),
      (decide (leAt x e 2 + leAt x (e + 2) 2 ≤ 4096), o + e + 2),
      (decide (2 ≤ leAt x (e + 4) 2 ∧ leAt x (e + 4) 2 ≤ 500), o + e + 4),
      (decide (leAt x (e + 6) 1 ≤ 1), o + e + 6),
      (allZero x (e + 7) 9, o + e + 7) ])

def rangeWeights (x : List Byte) (o : Nat) : List (Bool × Nat) :=
  (List.range 512).map (fun i => (if i % 8 = 0 then leAt x i 1 == 0 else leAt x i 1 != 0, o + i))

def rangeTenants (x : List Byte) (o : Nat) : List (Bool × Nat) :=
  (List.range 4096).map (fun i => (decide (leAt x i 1 < 16) || leAt x i 1 == 0xFF, o + i))

/-- The windows have no stated range but what they are, per mille of the period; the model refuses more than 1,000 here
and leaves their sum to step 8 (log 75). -/
def rangeTransit (x : List Byte) (o : Nat) : List (Bool × Nat) :=
  [ (decide (leAt x 0 2 ≤ 500), o), (decide (leAt x 2 2 ≤ 500), o + 2), (allZero x 4 12, o + 4) ] ++
  (List.range 16).flatMap (fun p =>
    let e := 16 + 8 * p
    [ (decide (leAt x e 2 ≤ 1000), o + e), (decide (leAt x (e + 2) 2 ≤ 1000), o + e + 2),
      (decide (leAt x (e + 4) 2 ≤ 1000), o + e + 4), (decide (leAt x (e + 6) 1 ≤ 1), o + e + 6), (leAt x (e + 7) 1 == 0, o + e + 7) ])

def rangeNight (x : List Byte) (o : Nat) : List (Bool × Nat) :=
  (List.range 64).flatMap (fun i =>
    [ (decide (leAt x (8 * i) 1 ≤ 1), o + 8 * i), (decide (leAt x (8 * i + 1) 1 ≤ 15), o + 8 * i + 1), (allZero x (8 * i + 2) 6, o + 8 * i + 2) ]) ++
  (List.range 16).flatMap (fun r =>
    let e := 0x200 + 32 * r
    [ (decide (leAt x e 1 ≤ 1), o + e), (decide (leAt x (e + 1) 1 < 64), o + e + 1), (decide (leAt x (e + 2) 1 ≤ 1), o + e + 2),
      (decide (leAt x (e + 3) 1 ≤ 1), o + e + 3), (leAt x e 1 == 0 || leAt x (e + 8) 2 != 0, o + e + 8),
      (decide (leAt x (e + 0x0A) 1 < 16), o + e + 0x0A), (allZero x (e + 0x0B) 21, o + e + 0x0B) ])

def rangeOf (t : Nat) (x : List Byte) (o : Nat) : List (Bool × Nat) :=
  match t with
  | 1 => rangePartitions x o
  | 2 => rangeModes x o
  | 3 => rangeRegions x o
  | 4 => rangeWeights x o
  | 5 => rangeTenants x o
  | 6 => rangeTransit x o
  | _ => rangeNight x o

/-- Step 7: every field of the image, whether its partition is present or not (R56). -/
def checkRange (b : List Byte) : Option Nat :=
  let sig := imgLen b - 256
  firstBad (
    [ (allZero b 0x1E 2, 0x1E), (imgKind b == 2 || allZero b 0x20 48, 0x20), (allZero b 0x50 48, 0x50),
      (allZero b (sig + 2) 62, sig + 2) ] ++
    (List.range (imgCount b)).map (fun i => (tabRsv b i == 0, 140 + 16 * i)) ++
    (List.range (imgCount b)).flatMap (fun i =>
      rangeOf (tabType b i) ((b.drop (tabOffset b i)).take (tabLength b i)) (tabOffset b i)))

/-! Steps 8 to 13. -/

/-- Offset in the image of an entry of a section, 0 where the image does not carry the section. Of several offending
fields of one step the first in the model's order is reported (R56 does not say which: log 75). -/
def entryOffset (b : List Byte) (t stride p : Nat) : Nat :=
  match imgEntry b t with
  | some i => tabOffset b i + stride * p
  | none => 0

/-- Two present partitions share no unit of a mask. -/
def disjointAt (t : State) (mask : Nat → Nat) (p : Nat) : Bool :=
  (List.range p).all (fun q => !(t.partPresent p && t.partPresent q) || (mask p &&& mask q) == 0)

/-- Step 8: R48, R49, R51, R52, and every mapped VF names a present partition. -/
def checkOverlap (t : State) (b : List Byte) : Option Nat :=
  let desc := fun p => (t.descFirst p, t.descCount p)
  let part := fun p => entryOffset b 1 128 p
  firstBad (
    (List.range 16).flatMap (fun p =>
      [ (disjointAt t t.clusterMask p, part p + 8), (disjointAt t t.pcoreMask p, part p + 0x18),
        (disjointAt t t.seMask p, part p + 0x30), (disjointAt t t.llmMask p, part p + 0x38),
        (!t.partPresent p || (t.llmCacheMask p &&& t.llmMask p) == t.llmCacheMask p, part p + 0x40),
        (!t.partPresent p || t.llmCacheMask p == 0 || t.chanMask p != 0, part p + 0x40),
        (disjointAt t t.chanMask p, part p + 0x48), (disjointAt t t.portMask p, part p + 0x50),
        (!t.partPresent p || (List.range p).all (fun q => !t.partPresent q || (desc p).2 == 0 || (desc q).2 == 0 ||
            decide ((desc p).1 + (desc p).2 ≤ (desc q).1) || decide ((desc q).1 + (desc q).2 ≤ (desc p).1)),
          entryOffset b 3 16 p),
        (!t.partPresent p || leAt (t.sect 6) (16 + 8 * p) 2 + leAt (t.sect 6) (18 + 8 * p) 2 + leAt (t.sect 6) (20 + 8 * p) 2 == 1000,
          entryOffset b 6 8 p + 16) ]) ++
    (List.range 4096).map (fun v =>
      let x := leAt (t.sect 5) v 1
      (x == 0xFF || t.partPresent x, entryOffset b 5 1 v)))

/-- A cluster fused off as a whole, or on a fused die (R57). -/
def State.clusterFused (s : State) (k : Nat) : Bool :=
  (coresOfCluster k).all (fun c => s.nv.fusedCores.contains c) || bit s.nv.fusedDies (dieOfCluster k)

/-- Step 9: no unit that a present partition names is fused off as a whole (R57). -/
def checkFused (t : State) (b : List Byte) : Option Nat :=
  let part := fun p => entryOffset b 1 128 p
  firstBad ((List.range 16).flatMap (fun p =>
    if !t.partPresent p then []
    else
      [ (!((bitsOf 128 (t.clusterMask p)).any t.clusterFused), part p + 8),
        (!((bitsOf 192 (t.pcoreMask p)).any (fun c => t.nv.fusedPcores.contains c || bit t.nv.fusedDies (dieOfPcore c))), part p + 0x18),
        (!((bitsOf 16 (t.seMask p)).any (fun n => t.nv.fusedSes.contains n || bit t.nv.fusedDies (dieOfSe n))), part p + 0x30),
        (!((bitsOf 64 (t.llmMask p)).any (fun u => t.nv.fusedLlm.contains u || bit t.nv.fusedDies (dieM (u / 8)))), part p + 0x38),
        (!((bitsOf 64 (t.chanMask p)).any (fun n => t.nv.fusedChannels.contains n || bit t.nv.fusedDies (dieOfChan n))), part p + 0x48),
        (!((bitsOf 64 (t.portMask p)).any (fun n => t.nv.fusedPorts.contains n || bit t.nv.fusedDies (dieOfPort n))), part p + 0x50) ]))

/-- Step 10: base_hash equals the structure hash in force. -/
def checkBase (s : State) (b : List Byte) : Option Nat :=
  firstBad [ (imgKind b == 1 || imgHash b == s.structHash, 0x20) ]

/-- Step 11: a partial image changes nothing outside its target (R58). -/
def checkOutside (s t : State) (b : List Byte) : Option Nat :=
  let p := imgTarget b
  let same := fun (ty off n : Nat) => ((s.sect ty).drop off).take n == ((t.sect ty).drop off).take n
  firstBad (
    (List.range 16).flatMap (fun q =>
      if q = p then []
      else [ (same 1 (128 * q) 128, entryOffset b 1 128 q), (same 3 (16 * q) 16, entryOffset b 3 16 q),
             (same 6 (16 + 8 * q) 8, entryOffset b 6 8 q + 16) ]) ++
    (List.range 512).map (fun c => (s.coreMode c == t.coreMode c || bit (t.clusterMask p) (c / 4), entryOffset b 2 1 (c / 4))) ++
    (List.range 64).map (fun n => (same 4 (8 * n) 8 || bit (t.portMask p) n, entryOffset b 4 8 n)) ++
    (List.range 4096).map (fun v =>
      let o := leAt (s.sect 5) v 1
      let n := leAt (t.sect 5) v 1
      (o == n || o == 0xFF || o == p, entryOffset b 5 1 v)))

/-- Units a pending image adds to those of its partition, one mask by entry offset and width. -/
def State.takes (s t : State) (p off n : Nat) : Nat :=
  let old := s.partMask p off n
  let new := t.partMask p off n
  new &&& (2 ^ (8 * n) - 1 - (old &&& new))

/-- Masks of a partition entry: (offset, bytes). -/
def unitMasks : List (Nat × Nat) := [(0x08, 16), (0x18, 24), (0x30, 2), (0x38, 8), (0x48, 8), (0x50, 8)]

/-- Units of a mask reserved by the pending images of other partitions. -/
def State.reserved (s : State) (off n : Nat) : Nat :=
  s.togus.pending.foldl (fun m i => m ||| s.takes (s.afterImage i) i.partition off n) 0

/-- Region descriptors that the pending images of other partitions take and that `d` names too. The rules do not say
whether descriptors count among the resources reserved; the model reserves them, so that R51 holds whatever image is
applied first (log 75). -/
def State.descReserved (s : State) (first count : Nat) : Bool :=
  s.togus.pending.any (fun i =>
    let t := s.afterImage i
    t.partPresent i.partition && (List.range count).any (fun k =>
      decide (t.descFirst i.partition ≤ first + k) && decide (first + k < t.descFirst i.partition + t.descCount i.partition)))

/-- Step 12: the image takes only units that are free and not reserved (R62, R65). -/
def checkBusy (s t : State) (b : List Byte) : Option Nat :=
  let p := imgTarget b
  firstBad (unitMasks.map (fun e =>
    let want := s.takes t p e.1 e.2
    ((want &&& s.reserved e.1 e.2) == 0 && (e.1 != 0x48 || (want &&& s.togus.releasedCh) == 0), entryOffset b 1 128 p + e.1)) ++
    [ (!(t.partPresent p && s.descReserved (t.descFirst p) (t.descCount p)) ||
        s.togus.pending.any (fun i => i.partition == p), entryOffset b 3 16 p) ])

/-- Step 13: the target has no other image pending. -/
def checkPending (s : State) (b : List Byte) : Option Nat :=
  firstBad [ (!(s.togus.pending.any (fun i => i.partition == imgTarget b)), 7) ]

/-- Validation of R56: the code and offset of the first step that fails; none where the image is accepted. -/
def validate (s : State) (full : Bool) (b : List Byte) : Option (Nat × Nat) :=
  let t := s.withSections (mergeSections s.togus.sections b)
  match checkHeader full b with
  | some o => some (1, o)
  | none =>
  match checkFormat b with
  | some o => some (2, o)
  | none =>
  match checkVendor s b with
  | some o => some (3, o)
  | none =>
  match checkOwner s b with
  | some o => some (4, o)
  | none =>
  match checkRollback s b with
  | some o => some (5, o)
  | none =>
  match checkSections b with
  | some o => some (6, o)
  | none =>
  match checkRange b with
  | some o => some (7, o)
  | none =>
  match checkOverlap t b with
  | some o => some (8, o)
  | none =>
  match checkFused t b with
  | some o => some (9, o)
  | none =>
  if full then none
  else
  match checkBase s b with
  | some o => some (10, o)
  | none =>
  match checkOutside s t b with
  | some o => some (11, o)
  | none =>
  match checkBusy s t b with
  | some o => some (12, o)
  | none =>
  match checkPending s b with
  | some o => some (13, o)
  | none => none

/-! The commands. -/

/-- PF0 and PF1 submit and withdraw (R45). -/
def prtRights (fn : Fn) : Bool := match fn with | .pf n => decide (n < 2) | _ => false

/-- SUBMIT: the staging area is copied in and validated; while a validation runs the submit is discarded and busy_err
set (R557, R558). -/
def execSubmit (fn : Fn) (s : State) : Res :=
  if !prtRights fn then .next (s.refuseWrite fn A.PRT_CMD true true)
  else if s.fon R.PRT_STAGE.validating then .next ((s.fset R.PRT_STAGE.busy_err 1).raise (.pf 0) 7)
  else
    let n := Nat.max 400 (Nat.min (leNat (s.bytes (stagingBase + 0x18) 4)) 262144)
    let s1 := s.fset R.PRT_STAGE.validating 1
    .next { s1 with togus := { s1.togus with validating := some (s.bytes stagingBase n) } }

/-- What a validation found goes out as a management event: the code and the byte offset (R56, log 59). -/
def State.imageEvent (s : State) (r : Option (Nat × Nat)) : State :=
  s.emit (.pldm 3 ((r.map Prod.fst).getD 0 + 256 * (r.map Prod.snd).getD 0))

/-- restructure_wait that bounds a pending image's wait. R63 does not say whether the entry in force or that of the
image counts; the model takes the one in force, and the image's where its target is absent so far (log 75). -/
def State.waitOf (s : State) (p : Nat) (b : List Byte) : Nat :=
  if s.partPresent p then s.partField p 3 1 else leAt ((imgSection b 1).getD []) (128 * p + 3) 1

/-- VALIDATION_DONE: the code and offset are reported, and an accepted image reserves its units and waits (R56,
R62, R557). -/
def execValidationDone (s : State) : Res :=
  match s.togus.validating with
  | none => .next s
  | some b =>
    let p := imgTarget b
    let s1 : State := { s with togus := { s.togus with validating := none } }
    let r := validate s1 false b
    let s2 := (((((s1.fset R.PRT_STAGE.validating 0).fset R.PRT_STAGE.done 1).fset R.PRT_STAGE.code ((r.map Prod.fst).getD 0)).fset
      R.PRT_STAGE.offset ((r.map Prod.snd).getD 0)).fset R.PRT_STAGE.target (p % 16))
    let s3 := ((s2.raise (.pf 0) 7).raise (.pf 1) 32).imageEvent r
    match r with
    | some _ => .next (s3.reportOpen srcPackage codeImageRefused 0)
    | none =>
      let s4 : State := { s3 with togus := { s3.togus with pending := s3.togus.pending ++
        [{ partition := p, bytes := b, base := s3.togus.sections, waited := 0, limit := s3.waitOf p b, applying := false, held := false }] } }
      .next (((s4.fset (R.PRT_STATUS.image p) 1).fset (R.PRT_STATUS.code p) 0).raise (.pf 1) (16 + p))

/-- A pending image that has not begun to apply is withdrawn: code 0x0E, its reservations released; where its rings
were already held, fetching resumes at the next transit (R63). -/
def State.withdrawImage (s : State) (p : Nat) : State :=
  match s.togus.pending.find? (fun i => i.partition == p && !i.applying) with
  | none => s
  | some i =>
    let s1 : State := { s with togus := { s.togus with
      pending := s.togus.pending.filter (fun i => i.partition != p),
      resume := if i.held then insertNat s.togus.resume p else s.togus.resume } }
    ((s1.fset (R.PRT_STATUS.image p) 0).fset (R.PRT_STATUS.code p) 0x0E).raise (.pf 1) (16 + p)

/-- withdraw names its partition in wd_partition (R557). -/
def execWithdraw (fn : Fn) (p : Nat) (s : State) : Res :=
  if !prtRights fn then .next (s.refuseWrite fn A.PRT_CMD true true)
  else .next ((s.fset R.PRT_CMD.wd_partition (p % 16)).withdrawImage (p % 16))

/-- No transit let the image apply within restructure_wait transits of its acceptance (R63). -/
def execRestructureWaitExpiry (p : Nat) (s : State) : Res :=
  whenever (s.togus.pending.any (fun i => i.partition == p && !i.applying && decide (i.limit ≤ i.waited))) (s.withdrawImage p) s

/-- Zero the scratchpads and staging buffers of clusters that join or leave (R64). -/
def State.zeroClusters (s : State) (m : Nat) : State :=
  (bitsOf 128 m).foldl (fun s k =>
    (coresOfCluster k).foldl (fun s c => s.zero (padBase c) 0x400000) (s.zero (stagingBufBase k) 0x100000)) s

/-- Application begins (R63, R64, R308): the image is applying, and every map entry that names a channel the
partition releases is disabled, and every descriptor that leaves its range (R324). -/
def State.beginApply (s : State) (p : Nat) : State :=
  match s.togus.pending.find? (fun i => i.partition == p) with
  | none => s
  | some i =>
    let t := s.afterImage i
    let gone := (bitsOf 64 (s.chanMask p)).filter (fun n => !bit (t.chanMask p) n)
    let s0 := gone.foldl State.disableMaps s
    let s1 := ((List.range 4096).filter (fun d => s.partOfDesc d == some p && t.partOfDesc d != some p)).foldl
      (fun s d => s.fset (R.RMM_RGN_CFG.enable d) 0) s0
    let s2 : State := { s1 with togus := { s1.togus with
      pending := s1.togus.pending.map (fun x => if x.partition = p then { x with applying := true } else x) } }
    (s2.fset (R.PRT_STATUS.image p) 2).raise (.pf 1) (16 + p)

/-- Units of a mask that are in `a` and not in `b`. -/
def maskLess (a b : Nat) : Nat := a - (a &&& b)

/-- Dirty lines that departing LLM cache units hold are written back, and the departing units are zeroed (R64). -/
def State.leaveLlm (s : State) (p units : Nat) (cached : Bool) : State :=
  let s1 := if cached then s.writeBackPart p else s
  (bitsOf 64 units).foldl (fun s u => s.zero (llmBase u) 0x2000000) s1

/-- Descriptors that left the partition's range return to what RMM_RGN_CFG shows of an unowned one. -/
def State.leaveRegions (s t : State) (p : Nat) : State :=
  ((List.range 4096).filter (fun d => s.partOfDesc d == some p && (t.partOfDesc d).isNone)).foldl
    (fun u d => ((u.fset (R.RMM_RGN_CFG.partition d) 0).fset (R.RMM_RGN_CFG.cls d) 0).fset (R.RMM_RGN_CFG.timeout_us d) 0) t

/-- APPLY_COMPLETE: the new structure is in force, with its fields, counts, widths and hash; joining and leaving
clusters and departing LLM units are zeroed, scratchpads are native; released channels wait to be zeroed; fetching
resumes at the next transit (R59, R64, R65, R280, R558). -/
def execApplyComplete (p : Nat) (s : State) : Res :=
  match s.togus.pending.find? (fun i => i.partition == p && i.applying) with
  | none => .next s
  | some i =>
    let t0 := s.afterImage i
    let released := maskLess (s.chanMask p) (t0.chanMask p)
    let moved := s.clusterMask p ^^^ t0.clusterMask p
    let joined := maskLess (t0.clusterMask p) (s.clusterMask p)
    let has := fun n => (imgEntry i.bytes n).isSome
    let gone := maskLess (s.llmMask p) (t0.llmMask p)
    let t := s.leaveRegions ((s.leaveLlm p gone (s.llmCacheMask p &&& gone != 0)).withSections t0.togus.sections) p
    let s1 := t.zeroClusters moved
    let s2 := (((bitsOf 128 (s.clusterMask p ||| t0.clusterMask p)).flatMap coresOfCluster).filter
        (fun c => s.fon (R.TC_SP_CTL.compat c))).foldl
      (fun s c => (s.fset (R.TC_SP_CTL.compat c) 0).zero (padBase c) 0x400000) s1
    let s3 := (bitsOf 64 released).foldl (fun s n => s.setChan n { s.chan n with zeroing := true }) s2
    let s4 : State := { s3 with togus := { s3.togus with
      pending := s3.togus.pending.filter (fun x => x.partition != p), resume := insertNat s3.togus.resume p,
      releasedCh := s3.togus.releasedCh ||| released } }
    let s5 := ((bitsOf 128 joined).flatMap coresOfCluster).foldl State.loadMode (s4.formPart has p)
    let s6 := (List.range 8).foldl State.loadSlice ((List.range 64).foldl State.loadChan (if has 6 then s5.loadTransitHeader else s5))
    let s7 := ((s6.fset (R.PRT_STATUS.image p) 0).fset (R.PRT_STATUS.code p) 0).recountPackage
    .next ((s7.loadHash).raise (.pf 1) (16 + p))

/-- CHANNEL_ZERO_DONE: the channel's contents are zero and, released, it is free (R65, R299). -/
def execChannelZeroDone (ch : Nat) (s : State) : Res :=
  if ch < 64 ∧ (s.chan ch).zeroing then
    let s1 := (s.zero (gddrKey ch 0) (2 ^ 36)).setChan ch { s.chan ch with zeroing := false }
    let s2 : State := { s1 with togus := { s1.togus with releasedCh := s1.togus.releasedCh &&& (2 ^ 64 - 1 - 2 ^ ch) } }
    .next s2
  else .next s

/-- Put a full image's structure in force (R43, R553, R59). -/
def State.loadFull (s : State) (b : List Byte) : State :=
  let s1 := s.withSections (mergeSections [] b)
  let s2 := (List.range 16).foldl (fun s p => s.formPart (fun _ => true) p) s1.loadTransitHeader
  let s3 := (List.range 64).foldl State.loadChan ((List.range 64).foldl State.loadWeights s2)
  let s4 := (List.range 512).foldl State.setWidth ((List.range 512).foldl State.loadMode s3)
  (((List.range 8).foldl State.loadSlice s4).recountPackage).loadHash

end Sys2Proof.Machine
end

