-- ==== Sys2Proof/Machine/Lane.lean ====
section
/-! DEFINITION. The exact path of one streamed row or K-vector (R139 to R146) and the parallax lane beside it (R168 to
R172): the lane sums of a stationary block, rho, the row check and the drain check, and what hardware errors do to
them. -/
namespace Sys2Proof.Machine

/-! Operands. -/

/-- Place in a scale array of element (i, j) of an operand with `nj` columns, in its own index order (R108). -/
def gridIndex (ctl : Nat) (right : Bool) (i j nj : Nat) : Nat :=
  let d := if right then rightDivs ctl else leftDivs ctl
  i / d.1 * ((nj + d.2 - 1) / d.2) + j / d.2

/-- Bytes of a scale array (R108). -/
def gridCount (ctl : Nat) (right : Bool) (ni nj : Nat) : Nat :=
  if scaleSize ctl = 0 then 0
  else
    let d := if right then rightDivs ctl else leftDivs ctl
    (ni + d.1 - 1) / d.1 * ((nj + d.2 - 1) / d.2)

/-- Element `i` of packed bytes (R104). -/
def elemAt (fmt : Nat) (bs : List Byte) (i : Nat) : Nat :=
  let b := fmtBits fmt
  fld (leAt bs (b * i / 8) (b / 8 + 2)) (b * i % 8) b

/-- Packed bytes of elements; unused bits are zero (R104). -/
def packElems (fmt : Nat) (vs : List Nat) : List Byte :=
  let b := fmtBits fmt
  leBytes (packedBytes fmt vs.length) (vs.reverse.foldl (fun a v => a * 2 ^ b + v % 2 ^ b) 0)

/-- Bytes of one initial value (R159). -/
def initBytes (cfmt : Nat) (wide : Bool) : Nat :=
  match cfmt with | 0 => 4 | 1 => 2 | 2 => 2 | 3 => 8 | _ => entryBytes wide

/-- A number with its invalid mark. -/
abbrev Marked := FpNum × Bool

/-- The scaled number at memory row `r`, column `j` of an operand whose own index order is (i, jj) (R109). -/
def StatSet.num (o : StatSet) (right : Bool) (r j i jj nj : Nat) : Marked :=
  let x := decodeNum o.fmt (o.vals.getD (r * o.cols + j) 0)
  if scaleSize o.scaleCtl = 0 then (x, false)
  else
    let r := scaled x (some (scaleNum o.scaleCtl (o.scales.getD (gridIndex o.scaleCtl right i jj nj) 0)))
    (r.1, r.2.invalid || x.isSig)

/-- Stationary element (output-side index, k): B[k][n] in square mode, A[m][k] in a horizon mode (R153). -/
def statNum (mode : Nat) (st : StatSet) (o k : Nat) : Marked :=
  if mode = 0 then st.num true k o k o st.cols else st.num false o k o k st.cols

/-- Streamed element (row or K-vector, k): A[m][k] in square mode, B[k][n] in a horizon mode. -/
def streamNum (mode : Nat) (str : StatSet) (i k : Nat) : Marked :=
  if mode = 0 then str.num false i k i k str.cols else str.num true i k k i str.rows

/-- The product of two elements, with its invalid mark (R114). -/
def mulTerm (a b : Marked) : Marked :=
  let p := FpNum.mul a.1 b.1
  (p.1, a.2 || b.2 || p.2.invalid)

/-- Every term of one output, added into an entry (R139, R146). -/
def addTerms (wide : Bool) (term : Nat → Marked) (ks : Nat) (e : AccEntry) : AccEntry :=
  (List.range ks).foldl (fun e k => let t := term k; e.add wide t.1 t.2) e

/-! The lane (R168). -/

/-- The kind of a number that a lane sum remembers. -/
def numKind (x : FpNum) : Nat :=
  match x with
  | .fin n m _ => if m = 0 then 2 else n.toNat
  | .inf n => 3 + n.toNat
  | .nan _ _ => 5

/-- A number of a kind. -/
def kindNum (k : Nat) : FpNum :=
  match k with
  | 0 => .fin false 1 0
  | 1 => .fin true 1 0
  | 2 => .fin false 0 0
  | 3 => .inf false
  | 4 => .inf true
  | _ => .qnan

/-- sigma: the exact sum of stationary elements (R168), with the kinds of number among them. -/
def LaneSum.of (wide : Bool) (xs : List Marked) : LaneSum :=
  { value := xs.foldl (fun a x => a + x.1.scaledBy (entryLsb wide)) 0,
    kinds := xs.foldl (fun a x => a ||| 2 ^ numKind x.1) 0,
    invalid := xs.any (fun x => x.2 || x.1.isSig) }

/-- An exact value times a finite number; the model's own formats keep the product a whole number of units (R141, R143). -/
def timesNum (v : Int) (x : FpNum) : Int :=
  match x with
  | .fin n m e =>
    let p : Int := if 0 ≤ e then v * (m * 2 ^ e.toNat : Nat) else v * m / (2 ^ (-e).toNat : Nat)
    if n then -p else p
  | _ => 0

/-- One term of rho: a streamed element times sigma[k] (R168). Its class and invalid bit are those of the products with
the elements that sigma[k] sums (log 78). -/
def LaneSum.times (wide : Bool) (l : LaneSum) (x : Marked) : AccEntry :=
  let e := ((List.range 6).filter (bit l.kinds)).foldl (fun (e : AccEntry) k =>
    let p := FpNum.mul x.1 (kindNum k)
    e.add wide p.1 p.2.invalid) AccEntry.empty
  { e with value := wrapTo (entryBits wide) (timesNum l.value x.1), invalid := e.invalid || l.invalid || x.2 }

/-- rho of one streamed row or K-vector (R168). -/
def rho (wide : Bool) (sums : List LaneSum) (str : Nat → Marked) (ks : Nat) : AccEntry :=
  (List.range ks).foldl (fun e k =>
    e.merge wide (LaneSum.times wide (sums.getD k { value := 0, kinds := 0, invalid := false }) (str k))) AccEntry.empty

/-- The sum of entries. -/
def mergeAll (wide : Bool) (es : List AccEntry) : AccEntry := es.foldl (AccEntry.merge wide) AccEntry.empty

/-- The comparison of R170: finite values by integer equality; else classes and invalid bits. -/
def laneAgree (a b : AccEntry) : Bool :=
  if a.cls = .finite ∧ b.cls = .finite then a.value == b.value else a.cls == b.cls && a.invalid == b.invalid

/-! Hardware errors (R172). -/

/-- An error strikes an exact value. -/
def AccEntry.struck (wide : Bool) (e : AccEntry) (x : ErrVal) : AccEntry :=
  match x with
  | .units n => { e with value := wrapTo (entryBits wide) (e.value + n) }
  | .nan => { e with cls := .nan }

def AccEntry.struckAll (wide : Bool) (e : AccEntry) (xs : List ErrVal) : AccEntry := xs.foldl (AccEntry.struck wide) e

/-- Physical column an error strikes; none in the lane. -/
def errPhys (x : MeError) : Option Nat :=
  match x with
  | .contribution _ _ p _ => some p
  | .stationary _ _ p => some p
  | .lane _ _ => none
  | .entry _ _ p _ => some p
  | .laneEntry _ _ => none
  | .rounder _ _ p _ => some p

/-- Errors that act: those of the lane, and those of columns in use that are not bypassed (R157, R174). -/
def actingErrors (inUse bypassed : List Nat) (errs : List MeError) : List MeError :=
  errs.filter (fun x => match errPhys x with | some p => inUse.contains p && !bypassed.contains p | none => true)

def contributionErrs (errs : List MeError) (r c : Nat) : List ErrVal :=
  errs.filterMap (fun x => match x with | .contribution r' c' _ e => if r' = r ∧ c' = c then some e else none | _ => none)

def laneErrs (errs : List MeError) (i : Nat) : List ErrVal :=
  errs.filterMap (fun x => match x with | .lane j e => if j = i then some e else none | _ => none)

def entryErrs (errs : List MeError) (r c : Nat) : List ErrVal :=
  errs.filterMap (fun x => match x with | .entry r' c' _ e => if r' = r ∧ c' = c then some e else none | _ => none)

def laneEntryErrs (errs : List MeError) (i : Nat) : List ErrVal :=
  errs.filterMap (fun x => match x with | .laneEntry j e => if j = i then some e else none | _ => none)

/-- Stationary registers that have changed since their LOADS; the lane sums stay as formed (R172). -/
def StatSet.struck (o : StatSet) (errs : List MeError) : StatSet :=
  errs.foldl (fun o x =>
    match x with
    | .stationary i f _ => { o with vals := updateAt o.vals i (fun v => v ^^^ (f % 2 ^ fmtBits o.fmt)) }
    | _ => o) o

/-- The physical column of the first rounder error that changes an output, with that output's place (R169 code 3): the duplicate rounder is
fed from the same entry and draw, so the two differ where bits flip. -/
def rounderFind (errs : List MeError) (rows cols bits : Nat) : Option (Nat × Nat × Nat) :=
  errs.findSome? (fun x =>
    match x with
    | .rounder r c p f => if r < rows ∧ c < cols ∧ f % 2 ^ bits ≠ 0 then some (r, c, p) else none
    | _ => none)

/-- One streamed row or K-vector `i` passes through the array: its contributions to the outputs along it, as the
hardware forms them, and rho; the check of R169 compares their sum with rho before any of them is added. `out` gives the
output coordinates. -/
def rowPass (wide : Bool) (errs : List MeError) (sums : List LaneSum) (str : Nat → Marked) (stat : Nat → Nat → Marked)
    (ks outs i : Nat) (out : Nat → Nat × Nat) : List AccEntry × AccEntry × Bool :=
  let cs := (List.range outs).map (fun o =>
    let rc := out o
    (addTerms wide (fun k => mulTerm (str k) (stat o k)) ks AccEntry.empty).struckAll wide (contributionErrs errs rc.1 rc.2))
  let r := (rho wide sums str ks).struckAll wide (laneErrs errs i)
  (cs, r, laneAgree (mergeAll wide cs) r)

end Sys2Proof.Machine
end

