-- ==== Sys2Proof/Machine/MatmulBlock.lean ====
section
/-! DEFINITION. The matrix control block of a ring's MATMUL (R440), its progress tiles (R441), the bytes they write, and
the witness over those committed (R181, R182). -/
namespace Sys2Proof.Machine

/-- Reserved bytes from `a` to (not including) `b`; the first that is not zero. -/
def rsvRun (d : List Byte) (a b : Nat) : Option Nat := (List.range (b - a)).find? (fun i => d.getD (a + i) 0 != 0) |>.map (a + ·)

/-! The matrix control block (R440). -/

def mFmtA (b : List Byte) : Nat := leAt b 0 1
def mFmtB (b : List Byte) : Nat := leAt b 1 1
def mScaleA (b : List Byte) : Nat := leAt b 2 1
def mScaleB (b : List Byte) : Nat := leAt b 3 1
def mOut (b : List Byte) : Nat := leAt b 4 1
def mRctl (b : List Byte) : Nat := leAt b 5 1
def mCFmt (b : List Byte) : Nat := leAt b 6 1
def mOutScale (b : List Byte) : Nat := leAt b 7 1
def mM (b : List Byte) : Nat := leAt b 0x08 4
def mN (b : List Byte) : Nat := leAt b 0x0C 4
def mK (b : List Byte) : Nat := leAt b 0x10 4
def mSpace (b : List Byte) : Nat := leAt b 0x14 1
def mAddr (b : List Byte) (o : Nat) : Nat := leAt b o 8
def mWide (b : List Byte) : Bool := mFmtA b == 0
def mHasC (b : List Byte) : Bool := mCFmt b != 0xFF

/-- A field that R121 refuses or that is out of range: its offset. -/
def matmulBad (b : List Byte) : Option Nat :=
  (([ (pairOk (mFmtA b) (mFmtB b), 0x00), (scaleOk (mFmtA b) (mScaleA b), 0x02), (scaleOk (mFmtB b) (mScaleB b), 0x03),
      (fmtKnown (mOut b) && mOut b != 0x13 && ((intBits (mOut b)).isNone || mFmtA b == 0x10), 0x04), (resultCtlOk (mOut b) (mRctl b), 0x05),
      (!mHasC b || decide (mCFmt b ≤ 2) && !mWide b || mCFmt b == 3 && mWide b || mCFmt b == 4, 0x06), (mOutScale b != 0xFF, 0x07),
      (decide (1 ≤ mM b ∧ mM b ≤ 2 ^ 31), 0x08), (decide (1 ≤ mN b ∧ mN b ≤ 2 ^ 31), 0x0C),
      (decide (1 ≤ mK b ∧ mK b ≤ 2 ^ 31), 0x10), (decide (mSpace b ≤ 2), 0x14), ((rsvRun b 0x15 0x20).isNone, 0x15),
      ((rsvRun b 0x70 0x80).isNone, 0x70) ] : List (Bool × Nat)).find? (fun e => !e.1)).map Prod.snd

/-! Progress tiles (R441). -/

/-- Rows [r0, r1) and columns [c0, c1) of tile `i`. -/
def tileRange (b : List Byte) (i : Nat) : Nat × Nat × Nat × Nat :=
  if mN b ≤ mM b then (i * mM b / 64, (i + 1) * mM b / 64, 0, mN b) else (0, mM b, i * mN b / 64, (i + 1) * mN b / 64)

def tileEmpty (b : List Byte) (i : Nat) : Bool :=
  let t := tileRange b i
  t.1 == t.2.1 || t.2.2.1 == t.2.2.2

/-- Bytes of one initial value. -/
def mCBytes (b : List Byte) : Nat := initBytes (mCFmt b) (mWide b)

/-! Where the results go. -/

/-- Element (r, c) of the tiles known so far; elements of other tiles in a shared byte read as zero. -/
def tileElem (b : List Byte) (tiles : List (Nat × List (List Nat))) (r c : Nat) : Nat :=
  match tiles.find? (fun x => let t := tileRange b x.1; decide (t.1 ≤ r ∧ r < t.2.1 ∧ t.2.2.1 ≤ c ∧ c < t.2.2.2)) with
  | some x => let t := tileRange b x.1; (x.2.getD (r - t.1) []).getD (c - t.2.2.1) 0
  | none => 0

/-- Bytes [lo, hi) of an output row that a tile writes; the last group of a row is written whole (R104). -/
def tileSpan (b : List Byte) (i : Nat) : Nat × Nat :=
  let (_, _, c0, c1) := tileRange b i
  let w := fmtBits (mOut b)
  (c0 * w / 8, if c1 = mN b then packedBytes (mOut b) (mN b) else (c1 * w + 7) / 8)

/-- Output row `r` as bytes. -/
def outRow (b : List Byte) (tiles : List (Nat × List (List Nat))) (r : Nat) : List Byte :=
  packElems (mOut b) ((List.range (mN b)).map (tileElem b tiles r))

/-- Writes of a tile: addresses and bytes, row by row. -/
def tileWrites (b : List Byte) (tiles : List (Nat × List (List Nat))) (i : Nat) : List (Nat × List Byte) :=
  let (r0, r1, _, _) := tileRange b i
  let (lo, hi) := tileSpan b i
  (List.range (r1 - r0)).map (fun j =>
    (mAddr b 0x40 + (r0 + j) * mAddr b 0x48 + lo, ((outRow b tiles (r0 + j)).drop lo).take (hi - lo)))

/-- Witness over the bytes that committed tiles have written, in ascending address order (R181, R182): a byte that two
column tiles share is covered once. -/
def tileWitness (b : List Byte) (progress : Word) (tiles : List (Nat × List (List Nat))) : Word :=
  let done := (List.range 64).filter (fun i => bit progress.toNat i && !tileEmpty b i)
  let spans := fun (r : Nat) =>
    (done.filter (fun i => let t := tileRange b i; decide (t.1 ≤ r ∧ r < t.2.1))).map (tileSpan b)
  let bs := (List.range (mM b)).flatMap (fun r =>
    let sp := spans r
    if sp.isEmpty then []
    else
      let row := outRow b tiles r
      ((List.range row.length).zip row).filterMap (fun e =>
        if sp.any (fun p => decide (p.1 ≤ e.1 ∧ e.1 < p.2)) then some e.2 else none))
  BitVec.ofNat 64 (crc64 bs)

/-- A tile is committed (R441): its bit is set, and the witness covers it. -/
def commitTileOf (o : Op) (tile : Nat) : Op :=
  let p := o.progress ||| BitVec.ofNat 64 (2 ^ tile)
  { o with progress := p, witness := tileWitness o.ctrl p o.tiles, work := o.work.filter (fun w => w.1 != tile) }

end Sys2Proof.Machine
end

