-- ==== Sys2Proof/Machine/Fabric.lean ====
section
/-! DEFINITION. The source side of rack memory (R317 to R321, R337 to R345, R375, R376, R383): routes, issuing a request, and what
becomes of whoever waits for it when it ends. Which bytes a request has on a link the spec does not say, so a request
leaves as one record of what it asks (log 17). -/
namespace Sys2Proof.Machine

/-! Routes (R374, R375). -/

/-- Candidate `i` of an entry: port, wavelength, length; length 0 is empty. -/
def candAt (e : BitVec 128) (i : Nat) : Nat × Nat × Nat :=
  let w := fld e.toNat (16 * i) 16
  (w % 64, fld w 6 2, fld w 8 2)


/-- A link is up: UP or DEGRADED, or a sublink that is. -/
def State.linkUp (s : State) (n lam : Nat) : Bool :=
  let st := s.fget (R.SCP_PORT_STATUS.state n)
  if st = 13 then s.fget (subState n lam) == 5 || s.fget (subState n lam) == 6 else st == 5 || st == 6

/-- Usable candidates for an LDN after `crossed` links: link up, within the budget of three links, and within the rack
domain (R375, R378). -/
def State.cands (s : State) (ldn crossed : Nat) : List (Nat × Nat × Nat) :=
  if 144 ≤ ldn then []
  else
    let e := s.route (s.fget R.SCP_ROUTE_CMD.bank * 256 + ldn)
    ((List.range 8).map (candAt e)).filter (fun c =>
      decide (0 < c.2.2) && decide (c.2.2 ≤ 3 - crossed) && s.linkUp c.1 c.2.1 && !s.fon (R.SCP_PORT_CTL.ext c.1))

/-- Candidates for traffic that partition `p` originates: its own ports and the shared ones (R48). Traffic of no
partition takes any port (log 77). -/
def State.candsFor (s : State) (p : Option Nat) (ldn : Nat) : List (Nat × Nat × Nat) :=
  (s.cands ldn 0).filter (fun c => p.isNone || (s.partOfPort c.1).isNone || s.partOfPort c.1 == p)

/-- The candidates of the shortest length. -/
def shortest (cs : List (Nat × Nat × Nat)) : List (Nat × Nat × Nat) :=
  cs.filter (fun c => cs.all (fun d => decide (c.2.2 ≤ d.2.2)))

/-! Addresses and keys. -/

/-- LDN, descriptor and offset of a rack-global address (R317, R318). -/
def rackLdn (a : Nat) : Nat := a / 2 ^ 56 % 256
def rackDesc (a : Nat) : Nat := a / 2 ^ 44 % 4096
def rackOff (a : Nat) : Nat := a % 2 ^ 44

/-- The address reaches this package over its mesh (R319). -/
def State.ownLdn (s : State) (ldn : Nat) : Bool := ldn == 255 || ldn == s.ldn

/-- The outbound-table entry of an (LDN, descriptor) pair; the table has none beyond LDN 143 (R345). -/
def State.outEntry (s : State) (ldn desc : Nat) : BitVec 128 :=
  let l := if s.ownLdn ldn then s.ldn else ldn
  if l < 144 then s.oktOf (l * 4096 + desc) else 0

/-- The package has an LDN and its SCP block a twilight state. -/
def State.twilight (s : State) : Bool := s.fon R.RMM_STATUS.twilight

/-- A region is an epoch region, as the source takes it. -/
def State.epochRegion (s : State) (ldn desc : Nat) : Bool :=
  if s.ownLdn ldn then s.fget (R.RMM_RGN_CFG.cls desc) == 1 else Config.remoteEpoch ldn desc

/-- KEY_FAULT at the source, or returned: counted and logged (R344, R345, R349). -/
def State.countKey (s : State) : State := (s.fincSat R.RMM_FAULT_CNT.key_faults 1).reportOpen srcPackage codeKeyFault 0
def State.countDead (s : State) : State := (s.fincSat R.RMM_FAULT_CNT.dead_target 1).reportOpen srcPackage codeDeadTarget 0
def State.countTimeout (s : State) : State := (s.fincSat R.RMM_FAULT_CNT.timeouts 1).reportOpen srcPackage codeTimeout 0

/-- What becomes of a request at its source. -/
inductive Issue where
  /-- It left, under this identifier. -/
  | sent (id : Nat)
  /-- It ended at the source with this status. -/
  | ended (status : Nat)
  /-- It must wait for earlier requests on another path (R376), or for its shaper (R383). -/
  | wait
deriving DecidableEq, Repr

/-- A request as its issuer asks it: LDN, descriptor, offset, length, kind, partition, and who waits for it. -/
structure Ask where
  ldn : Nat
  desc : Nat
  off : Nat
  len : Nat
  kind : Nat
  part : Option Nat
  core : Option CoreId
  mover : Option (Mover × Nat × Nat)
  /-- Bytes of a store, or the 32 B command of an atomic. -/
  bytes : List Byte
deriving DecidableEq, Repr

/-- An ask of a 64-bit rack-global address. -/
def askAt (a len kind : Nat) (part : Option Nat) (core : Option CoreId) (mover : Option (Mover × Nat × Nat))
    (bytes : List Byte) : Ask :=
  { ldn := rackLdn a, desc := rackDesc a, off := rackOff a, len := len, kind := kind, part := part, core := core,
    mover := mover, bytes := bytes }

/-- The first identifier not in use. -/
def State.freeReq (s : State) : Nat :=
  ((List.range (s.reqs.length + 1)).find? (fun i => (s.req i).isNone)).getD s.reqs.length

/-- Status with which a request ends before it leaves (R319, R345, R348, R337), 0 for none. Cores, engines and rings are
tenants. -/
def State.sourceStatus (s : State) (q : Ask) : Nat :=
  let e := (s.outEntry q.ldn q.desc).toNat
  if 144 ≤ q.ldn ∧ q.ldn < 255 ∧ q.ldn ≠ s.ldn then stFaultAddr
  else if s.twilight then stKeyFault
  else if !(bit e 64 && (match q.part with | some p => bit e (75 + p) | none => false)) then stKeyFault
  else if s.ownLdn q.ldn then 0
  else if s.ldn = 255 ∨ s.candsFor q.part q.ldn = [] then stDeadTarget
  else 0

/-! Shaping (R383). -/

/-- The bucket at time `now`, refilled at `rate` tenths of a byte a nanosecond. -/
def Bucket.refill (b : Bucket) (rate now : Nat) : Bucket := { used := b.used - (now - b.at_) * rate, at_ := now }

/-- Bytes taken from a bucket of `depth` bytes; none where they are beyond it. -/
def Bucket.take (b : Bucket) (rate depth now n : Nat) : Option Bucket :=
  let b1 := b.refill rate now
  if b1.used + 10 * n ≤ 10 * depth then some { b1 with used := b1.used + 10 * n } else none

/-- Traffic of `n` bytes that this package originates to an LDN on VC1, VC4 or VC5; none while its shaper holds it back
(R383). Over the mesh and at rate 0 nothing is shaped. -/
def State.shaped (s : State) (ldn n : Nat) : Option State :=
  let rate := s.fget R.SCP_RATE.rate_gbs
  if rate = 0 ∨ s.ownLdn ldn then some s
  else ((s.shapeOf ldn).take rate (1024 * s.fget R.SCP_RATE.burst_kib) s.clock n).map (s.setShapeOf ldn)

/-- Bytes of a request's message (R360). -/
def Ask.size (q : Ask) : Nat := 8 * Nat.max 1 (Nat.min 29 (Config.requestUnits q.kind q.len))

/-- The unit that issues a request, as its path hash takes it (R375). -/
def Ask.unit (q : Ask) : Nat :=
  match q.core, q.mover with
  | some (.tc c), _ => c
  | some (.pc n), _ => 512 + n
  | none, some (.fe c, _) => 1024 + c
  | none, some (.op k, _) => 2048 + k
  | none, none => 1023

/-- The link a request takes: the candidate of the shortest length that the hash of its unit and line names (R375). -/
def State.pathOf (s : State) (q : Ask) : Option (Nat × Nat) :=
  let sh := shortest (s.candsFor q.part q.ldn)
  (sh[Config.unitHash q.unit ((q.desc * 2 ^ 44 + q.off) / 64) % Nat.max 1 sh.length]?).map (fun c => (c.1, c.2.1))

/-- Issue a request. -/
def State.rackIssue (s : State) (q : Ask) : State × Issue :=
  let st := s.sourceStatus q
  if st = stKeyFault then (s.countKey, .ended st)
  else if st = stDeadTarget then (s.countDead, .ended st)
  else if st ≠ 0 then (s, .ended st)
  else
    let own := s.ownLdn q.ldn
    let cs := if own then [] else s.cands q.ldn 0
    let e := (s.outEntry q.ldn q.desc).toNat
    let dst := if own then s.ldn else q.ldn
    let old := fun (r : RackOut) => r.dst == dst && decide (r.kind < 4) && !own && decide (r.cands ≠ cs)
    if s.reqs.any (fun x => match x.2 with | some r => old r | none => false) then (s, .wait)
    else
      match s.shaped q.ldn q.size with
      | none => (s, .wait)
      | some t =>
        let id := s.freeReq
        let r : RackOut :=
          { dst := dst, desc := q.desc, off := q.off, kind := q.kind, len := q.len, core := q.core, mover := q.mover,
            cands := cs, epoch := s.epochRegion q.ldn q.desc, issuedIn := s.fget R.TRN_NUMBER.transit, partition := q.part.getD 0,
            timeoutUs := fld e 66 9, querying := false }
        ((t.setReq id (some r)).emit (.rackReq id dst q.desc q.off q.kind (e % 2 ^ 32) q.bytes (if own then none else s.pathOf q)),
          .sent id)

/-! Ends of requests. -/

/-- The error value of a load (R339). -/
def errorBytes (n : Nat) : List Byte := List.replicate n 255

/-- Exception of a status (R238, R339, R344), for a store (`st`) or a load. -/
def excOf (status : Nat) (st : Bool) : Option Nat :=
  if status = stDeadTarget ∨ status = stTimeout then some excDead
  else if status = stKeyFault then some excKey
  else if status = stDone then none
  else some (if st then excStore else excLoad)

/-- The bytes a load delivers. -/
def loadBytes (status len : Nat) (bytes : List Byte) : List Byte :=
  if status = stDone then bytes.take len ++ List.replicate (len - bytes.length) 0 else errorBytes len

/-- A request of a core has ended. -/
def State.endCoreReq (s : State) (u : CoreId) (id status flags : Nat) (r : RackOut) (bytes : List Byte) : State :=
  match r.kind with
  | 0 =>
    let v := loadBytes status r.len bytes
    let f := fun (p : VPart) => if p.req = some id then { p with status := some status, bytes := v } else p
    let s1 := s.onJumbe u (fun j => { j with loads := j.loads.map (fun l => { l with parts := l.parts.map f }) })
    -- an error value is told at the next boundary; what faults traps at the load when it returns (R227)
    match excOf status false with
    | some c => if c != excLoad then s1.pend u c 0 else s1
    | none => s1
  | 1 =>
    s.onJumbe u (fun j =>
      { j with posted := j.posted.map (fun p => if p.req = some id then { p with status := some status } else p) })
  | _ =>
    let old : Word := if status = stDone then BitVec.ofNat 64 (leNat bytes) else Config.unknownOld s.free
    let s1 : State := if status = stDone then s else s.drawn
    s1.onJumbe u (fun j =>
      { j with portBusy := false, portStatus := BitVec.ofNat 64 (status + flags % 8 * 256),
               portOld := if r.kind = 3 then old else j.portOld,
               posted := j.posted.map (fun p => if p.req = some id then { p with status := some status } else p) })

/-- The transfer of a mover. -/
def State.xferOf (s : State) (w : Mover) : Option Xfer :=
  match w with
  | .fe c => (s.tcore c).fe.xfer
  | .op k => match s.op k with | some o => if o.live then o.xfer else none | none => none

def State.setXfer (s : State) (w : Mover) (x : Option Xfer) : State :=
  match w with
  | .fe c => s.onFe c (fun f => { f with xfer := x })
  | .op k => s.onOp k (fun o => { o with xfer := x })

/-- One piece of an element has ended: its bytes come in, or it is acknowledged, or it faults. -/
def elemPiece (x : ElemSt) (piece status : Nat) (load : Bool) (bytes : List Byte) : ElemSt :=
  match x with
  | .waiting left buf =>
    if status ≠ stDone then .faulted status
    else
      let b := if load then putBytes buf piece bytes else buf
      if left ≤ 1 then (if load then .arrived b else .acked b) else .waiting (left - 1) b
  | y => y

/-- Element `e` of a transfer changes its state. -/
def State.onElem (s : State) (w : Mover) (e : Nat) (f : ElemSt → ElemSt) : State :=
  match s.xferOf w with
  | some x => s.setXfer w (some { x with inFlight := x.inFlight.map (fun p => if p.1 = e then (p.1, f p.2) else p) })
  | none => s

/-- A store of a MATMUL tile has ended: the tile is committed once its last store is acknowledged (R441). -/
def State.tileStored (s : State) (k tile status : Nat) : State :=
  if status ≠ stDone then s.endOp k status
  else
    s.onOp k (fun o =>
      if !o.live then o
      else
      let left := ((o.stores.find? (fun x => x.1 == tile)).map Prod.snd).getD 0
      let rest := o.stores.filter (fun x => x.1 != tile)
      if 1 < left then { o with stores := (tile, left - 1) :: rest }
      else commitTileOf { o with stores := rest } tile)

/-! Send windows (R407). -/

/-- A write into a send window ends: its store is acknowledged, its element's piece ends. -/
def State.endWinWait (s : State) (status : Nat) (w : WinWait) : State :=
  match w with
  | .store u addr =>
    s.onJumbe u (fun j =>
      match j.posted.findIdx? (fun p => p.addr == addr && p.req.isNone && p.status.isNone) with
      | some i => { j with posted := updateAt j.posted i (fun p => { p with status := some status }) }
      | none => j)
  | .elem m e piece => s.onElem m e (fun x => elemPiece x piece status false [])
  | .bare c k off => s.emit (.winEnd c k off status)

/-- The message of a request to a member ends with a status, and with it the writes that wait for it. -/
def State.endOut (s : State) (id status : Nat) : State :=
  (s.outbox.filter (fun x => x.2.req == some id)).foldl (fun s x => x.2.waits.foldl (fun s w => s.endWinWait status w) s)
    { s with outbox := s.outbox.filter (fun x => x.2.req != some id) }

/-- A request ends: it leaves the table, and whoever waits for it is told. -/
def State.endReq (s : State) (id status flags : Nat) (bytes : List Byte) : State :=
  match s.req id with
  | none => s
  | some r =>
    let s1 := s.setReq id none
    match r.core, r.mover with
    | some u, _ => s1.endCoreReq u id status flags r bytes
    | none, some (.op k, e, piece) =>
      if 2 ≤ r.kind then
        let old : Word := if status = stDone ∧ r.kind = 3 then BitVec.ofNat 64 (leNat bytes) else Config.unknownOld s.free
        s1.drawn.endValue k status 0 old
      else if (match s.op k with | some o => o.xfer.isSome | none => true) then s1.onElem (.op k) e (fun x => elemPiece x piece status (r.kind == 0) bytes)
      else if r.kind = 0 then
        s1.onOp k (fun o =>
          { o with parts := o.parts.map (fun p => if p.req = some id then { p with status := some status, bytes := loadBytes status r.len bytes } else p) })
      else s1.tileStored k e status
    | none, some (w, e, piece) => s1.onElem w e (fun x => elemPiece x piece status (r.kind == 0) bytes)
    | none, none => if r.kind = 4 then s1.endOut id status else s1

/-- Dead-target requests (R337, R339): counted, logged, ended. -/
def State.endDead (s : State) (id : Nat) : State := (s.countDead).endReq id stDeadTarget 0 []

end Sys2Proof.Machine
end

