-- ==== Sys2Proof/Machine/Links.lean ====
section
/-! DEFINITION. Ports and links (R350 to R378, R386): states, the milestones they reach, routing a message out, and a
link going down. A link is a port, or one wavelength of a port in split mode. -/
namespace Sys2Proof.Machine

/-- A port state that ends bring-up (R471): up, or an end state of R356. -/
def portSettled (st : Nat) : Bool := decide (5 ≤ st) && st != 7

/-- LINKS: every port with a lit peer has settled. -/
def State.checkLinks (s : State) : State :=
  if s.milestone 3 && (List.range 64).all (fun n =>
      !s.fon (R.SCP_PORT_STATUS.light n) || portSettled (s.fget (R.SCP_PORT_STATUS.state n))) then s.reach_ 6 else s

/-! Port and link states. -/

def linkKey (n lam : Nat) : Nat := 4 * n + lam

def State.portSt (s : State) (n : Nat) : Nat := s.fget (R.SCP_PORT_STATUS.state n)

/-- State of a link (R356). -/
def State.linkSt (s : State) (n lam : Nat) : Nat := if s.portSt n = 13 then s.fget (subState n lam) else s.portSt n

/-- A link of that name exists: a wavelength is named on a split port only. -/
def State.linkIs (s : State) (n lam : Nat) : Bool :=
  decide (n < 64) && (if s.portSt n = 13 then decide (lam < 4) else lam == 0)

/-- Ports up (R556), and LINKS. -/
def State.countPorts (s : State) : State :=
  (s.fset R.GLB_UNITS.ports_up ((List.range 64).filter (fun n => [5, 6, 13].contains (s.portSt n))).length).checkLinks

def State.setPortSt (s : State) (n st : Nat) : State := (s.putPortState n st).countPorts

def State.setLinkSt (s : State) (n lam st : Nat) : State :=
  if s.portSt n = 13 then (s.fset (subState n lam) st).checkLinks else s.setPortSt n st

/-- Replace a link; SCP_PORT_STATUS shows the port's, or of a split port λ0's (R394). -/
def State.putLink (s : State) (n lam : Nat) (l : Link) : State :=
  let s1 := s.setLink (linkKey n lam) l
  if lam = 0 then
    ((s1.fset (R.SCP_PORT_STATUS.outstanding n) l.unacked.length).fset (R.SCP_PORT_STATUS.retrain_fails n) l.retrainFails).fset
      (R.SCP_PORT_STATUS.key_phase n) l.keyPhase.toNat
  else s1

def State.linkOf (s : State) (n lam : Nat) : Link := s.link (linkKey n lam)

/-- Change a link. -/
def State.onLink (s : State) (n lam : Nat) (f : Link → Link) : State := s.putLink n lam (f (s.linkOf n lam))

/-- Source identifier of a link (R487). -/
def State.srcLink (s : State) (n lam : Nat) : Nat := if s.portSt n = 13 then srcSublink n lam else srcPort n

/-- LDN of the peer of a link. -/
def State.peerLdn (s : State) (n lam : Nat) : Nat :=
  if s.portSt n = 13 then s.fget (subPeer n lam) else s.fget (R.SCP_PORT_PEER.peer_ldn n)

/-! Credits (R370, R371). -/

/-- Flits of buffer for a credit key, from an allocation in units of 16 flits (VC0 to VC7). -/
def bufferFor (alloc : List Nat) (split : Bool) (key : Nat) : Nat :=
  let vc := key / 4
  let c := 16 * alloc.getD vc 0 / (if split then 4 else 1)
  if vc = 0 then (if key = 0 then 64 / (if split then 4 else 1) else 0)
  else
    match key % 4 with
    | 1 => c - 2 * (c / 8)
    | 0 => 0
    | _ => c / 8

/-- Credit keys in the order of R358. -/
def creditKeys : List Nat := 0 :: [1, 2, 3, 4, 5, 6, 7].flatMap (fun v => [4 * v + 1, 4 * v + 2, 4 * v + 3])

/-- Default allocation of R394. -/
def defaultCred : List Nat := [4, 40, 64, 32, 64, 16, 4, 32]

/-- This end's allocation: SCP_PORT_CRED where it totals 256 units, else the default (R394). -/
def State.ownCred (s : State) (n : Nat) : List Nat :=
  let w := s.reg (A.SCP_PORT_CRED n)
  let l := (List.range 8).map (fun v => getField w (8 * v) 8)
  if l.foldl (· + ·) 0 = 256 then l else defaultCred

/-- cred_err: an allocation that does not total 256 units is not used (R394). -/
def State.checkCred (s : State) (n : Nat) : State :=
  if ((List.range 8).map (fun v => getField (s.reg (A.SCP_PORT_CRED n)) (8 * v) 8)).foldl (· + ·) 0 = 256 then s
  else s.fset (R.SCP_PORT_STATUS.cred_err n) 1

def credit (m : Assoc Nat) (k : Nat) : Nat := assocGet (fun _ => 0) m k
def setCredit (m : Assoc Nat) (k v : Nat) : Assoc Nat := assocSet (fun _ => 0) m k v

/-- A receive buffer of a link is freed: a credit is owed (R371). -/
def State.freeBuffer (s : State) (h : Option (Nat × Nat)) : State :=
  match h with
  | none => s
  | some (k, c) =>
    s.onLink (k / 4) (k % 4) (fun l =>
      { l with owedCredits := setCredit l.owedCredits c (credit l.owedCredits c + 1), held := setCredit l.held c (credit l.held c - 1) })

/-! Routing (R375, R378). -/

/-- Free credits of a candidate for a virtual channel and class. -/
def State.freeCredits (s : State) (c : Nat × Nat × Nat) (key : Nat) : Nat :=
  credit (s.link (linkKey c.1 (if s.portSt c.1 = 13 then c.2.1 else 0))).credits key

/-- The first of the candidates with the most free credits. -/
def State.mostFree (s : State) (cs : List (Nat × Nat × Nat)) (key : Nat) : Option (Nat × Nat × Nat) :=
  cs.foldl (fun a c => match a with | none => some c | some b => if s.freeCredits b key < s.freeCredits c key then some c else some b) none

/-- The candidate a message takes. -/
def State.pick (s : State) (cs : List (Nat × Nat × Nat)) (vc key : Nat) (m : Msg) : Option (Nat × Nat × Nat) :=
  let sh := shortest cs
  if vc = 1 ∨ vc = 4 then sh[Config.pathHash m.src m.body % Nat.max 1 sh.length]?
  else
    let len := (sh.headD (0, 0, 0)).2.2
    if sh.all (fun c => s.freeCredits c key == 0) then
      match s.mostFree (cs.filter (fun c => c.2.2 == len + 1 && decide (64 ≤ s.freeCredits c key))) key with
      | some c => some c
      | none => s.mostFree sh key
    else s.mostFree sh key

/-- Put a message at the end of a link's queue. -/
def State.enqueue (s : State) (n lam : Nat) (i : SendItem) : State := s.onLink n lam (fun l => { l with sendq := l.sendq ++ [i] })

/-- The external route for a rack (R378). -/
def State.extRoute (s : State) (rack : Nat) : Option Nat :=
  (List.range 16).find? (fun i => s.fon (R.SCP_EXT_ROUTE.valid i) && s.fget (R.SCP_EXT_ROUTE.rack i) == rack)

/-- Send a message that has crossed `crossed` links; none where it has no way (R375, R377). -/
def State.sendMsg (s : State) (vc crossed : Nat) (m : Msg) (holds : Option (Nat × Nat)) : Option State :=
  let m1 : Msg := { m with hops := crossed + 1 }
  let cls := crossed + 1
  let item : SendItem := { vc := vc, cls := cls, msg := m1, holds := holds }
  let toward := fun (ldn : Nat) =>
    match s.pick (s.cands ldn crossed) vc (4 * vc + cls) m1 with
    | some c => some (s.enqueue c.1 (if s.portSt c.1 = 13 then c.2.1 else 0) item)
    | none => none
  if vc = 5 ∧ m.dstRack ≠ s.fget R.SCP_ID.rack then
    match s.extRoute m.dstRack with
    | none => none
    | some i =>
      if s.fget (R.SCP_EXT_ROUTE.gateway_ldn i) = s.ldn then
        (if s.linkUp (s.fget (R.SCP_EXT_ROUTE.port i)) 0 then some (s.enqueue (s.fget (R.SCP_EXT_ROUTE.port i)) 0 item) else none)
      else toward (s.fget (R.SCP_EXT_ROUTE.gateway_ldn i))
  else toward m.dst

/-- Messages that waited on a link that is down are rerouted; one with no way is dropped (R368, R376). -/
def State.reroute (s : State) (q : List SendItem) : State :=
  q.foldl (fun s i =>
    if i.vc = 0 then s
    else
      match s.sendMsg i.vc (i.msg.hops - 1) i.msg i.holds with
      | some t => t
      | none => s.freeBuffer i.holds) s

/-- What SCP_PORT_STATUS shows of a link that has left service in state `st`: no authentication, and no wavelength where
the state is off, polling, dark or quarantined (R394). -/
def State.showDown (s : State) (n lam st : Nat) : State :=
  let s1 := if lam = 0 then (s.fset (R.SCP_PORT_STATUS.authenticated n) 0).fset (R.SCP_PORT_STATUS.encrypted n) 0 else s
  if [0, 1, 8, 9].contains st then
    s1.fset (R.SCP_PORT_STATUS.lambda_up n) (if s1.portSt n = 13 then s1.fget (R.SCP_PORT_STATUS.lambda_up n) &&& (0xF ^^^ 2 ^ lam) else 0)
  else s1

/-- A link stops carrying traffic in state `st`: its unacknowledged flits are discarded and its queue is rerouted
(R368). -/
def State.linkDown (s : State) (n lam st : Nat) : State :=
  let l := s.linkOf n lam
  (((s.setLinkSt n lam st).putLink n lam Link.reset).showDown n lam st).reroute l.sendq

/-- LINK_DARK: logged as HARD (R368). -/
def State.linkDark (s : State) (n lam : Nat) : State :=
  (s.reportOpen (s.srcLink n lam) codeDark 2).linkDown n lam 8

/-- Every link of a port goes down, and the port takes state `st`. -/
def State.portDown (s : State) (n st : Nat) : State :=
  if s.portSt n = 13 then
    let qs := [0, 1, 2, 3].flatMap (fun j => (s.linkOf n j).sendq)
    let s1 := [0, 1, 2, 3].foldl (fun s j => (s.fset (subState n j) 0).putLink n j Link.reset) s
    ((s1.setPortSt n st).showDown n 0 st).reroute qs
  else s.linkDown n 0 st

/-- Bring-up starts from TRAIN, in split mode on every wavelength (R354, R356). -/
def State.startTrain (s : State) (n : Nat) : State :=
  if s.fon (R.SCP_PORT_CTL.split n) then
    ([0, 1, 2, 3].foldl (fun s j => s.fset (subState n j) 2) (s.putPortState n 13)).countPorts
  else s.setPortSt n 2

/-- A retrain of a link starts (R366). -/
def State.startLinkRetrain (s : State) (n lam : Nat) : State :=
  ((s.setLinkSt n lam 7).onLink n lam (fun l => { l with tx := .retrain, resend := [] })).finc (R.SCP_PORT_REPLAY.retrains n) 1

/-! Malformed flits and quarantine (R386). -/

/-- QUARANTINED: logged as HARD; routes stop using the port. -/
def State.quarantine (s : State) (n : Nat) : State := (s.reportOpen (srcPort n) codeQuarantined 2).portDown n 9

/-- A malformed flit or message on a port. -/
def State.malformed (s : State) (n reason : Nat) : State :=
  let s1 := (s.finc (R.SCP_PORT_MAL.malformed n) 1).fset (R.SCP_PORT_MAL.last_reason n) reason
  let thr := s1.fget (R.SCP_PORT_CTL.quar_thr n)
  if thr ≠ 0 ∧ thr ≤ s1.fget (R.SCP_PORT_MAL.malformed n) ∧ s1.portSt n ≠ 9 then s1.quarantine n else s1

end Sys2Proof.Machine
end

