-- ==== Sys2Proof/Machine/Me.lean ====
section
/-! DEFINITION. The matrix engine (R136 to R166): LOADS, SWAP, STREAM, DRAIN, MODE and SCALE, their start-time checks
(R164), operands read from the scratchpad, exact products and drains, poisoned tiles (R281), and the start of a
parallax sequence (R169 to R174). -/
namespace Sys2Proof.Machine

/-! Geometry (R137, R138, R145, R149, R153). -/

/-- K elements per cell of a stationary format (R137). -/
def kPerCell (fmt : Nat) : Nat := if fmt = 8 then 4 else if 4 ≤ fmt ∧ fmt ≤ 7 then 2 else 1

/-- Cycles per streamed row or K-vector: stationary format, streamed format (R138). -/
def cyclesPerRow (stat str : Nat) : Nat :=
  if stat = 8 ∧ str ≠ 8 then 2
  else match stat with | 0 => 49 | 1 => 9 | 2 => 4 | _ => 1

/-- Logical rows of a mode, and logical columns at a width (R153). -/
def modeRows (mode : Nat) : Nat := match mode with | 0 => 64 | 1 => 16 | _ => 4
def modeCols (mode w : Nat) : Nat := match mode with | 0 => w | 1 => 4 * w | _ => 16 * w

/-- Entries the accumulator file holds (R145). -/
def fileCapacity (w : Nat) (wide : Bool) : Nat := if wide then 64 * w / 7 else 64 * w

/-- A tile of rows by cols fits geometry and capacity (R145, R149, R153). A square tile of more than 64 rows fits nowhere,
and is refused with CAPACITY, for which R164 has no code of its own (log 78). -/
def tileFits (mode w : Nat) (wide : Bool) (rows cols : Nat) : Bool :=
  if mode = 0 then decide (rows ≤ 64) && decide (cols ≤ w) && decide (rows * cols ≤ fileCapacity w wide)
  else decide (rows ≤ modeRows mode) && decide (cols ≤ 1024) && decide (cols ≤ fileCapacity w wide / modeRows mode)

def State.meMode (s : State) (c : Nat) : Nat := s.fget (R.TC_ME_STATUS.mode c)

/-- The width that bounds extents (R158): the one presented at the LOADS that last began a tile, which instructions keep
until the next such LOADS (R176). -/
def State.meWidth (s : State) (c : Nat) : Nat :=
  (s.tcore c).me.tileWidth.getD (s.fget (R.TC_ME_STATUS.width_presented c))

/-- JB_ME_WIDTH: it changes only between tiles (R237, R239); the cores of a P-die have none. -/
def State.jbMeWidth (s : State) (c : Nat) : Nat :=
  if (s.tcore c).me.entries.isEmpty then s.fget (R.TC_ME_STATUS.width_presented c) else s.meWidth c

/-! Operands. -/

/-- An operand read from the scratchpad: `rows` memory rows of `cols` elements, and its scale bytes. -/
def State.readOperand (s : State) (c fmt ctl rows cols src stride ssrc nscales : Nat) : StatSet :=
  let rb := packedBytes fmt cols
  let offs := (List.range rows).map (fun r => src + r * stride * 32)
  { valid := true, fmt := fmt, scaleCtl := ctl, rows := rows, cols := cols,
    vals := offs.flatMap (fun o => let bs := s.padBytes c o rb; (List.range cols).map (elemAt fmt bs)),
    scales := (s.padBytes c ssrc nscales).map BitVec.toNat,
    sums := [],
    poisoned := offs.any (fun o => s.poisonedIn (padBase c + o) rb) || s.poisonedIn (padBase c + ssrc) nscales }

/-- Reading an operand corrects single-bit errors (R281). -/
def State.touchOperand (s : State) (c fmt rows cols src stride ssrc nscales : Nat) : State :=
  let rb := packedBytes fmt cols
  ((List.range rows).foldl (fun s r => s.readPad c (src + r * stride * 32) rb) s).readPad c ssrc nscales

/-- The outputs along a streamed row or K-vector, and the K extent, of a stationary set (R153, R159). -/
def StatSet.outs (st : StatSet) (mode : Nat) : Nat := if mode = 0 then st.cols else st.rows
def StatSet.ks (st : StatSet) (mode : Nat) : Nat := if mode = 0 then st.rows else st.cols

/-- The set with its lane sums, formed as a LOADS fills it (R168). -/
def StatSet.summed (st : StatSet) (mode : Nat) : StatSet :=
  { st with sums := (List.range (st.ks mode)).map (fun k =>
      LaneSum.of (st.fmt == 0) ((List.range (st.outs mode)).map (fun o => statNum mode st o k))) }

/-! Checks. -/

/-- A range of rows passes the end of the scratchpad (R164). -/
def pastEnd (src rows stride rowBytes : Nat) : Bool :=
  rowBytes != 0 && decide (0x400000 < src + (rows - 1) * stride * 32 + rowBytes)

/-- An entry of the accumulator file. -/
def MeArray.entry (m : MeArray) (row col : Nat) : AccEntry := assocGet (fun _ => AccEntry.empty) m.entries (row * 4096 + col)

/-- Rows and columns the tile's nonempty entries reach: the capacity of R145 is held against the rectangle they and a
STREAM's outputs span (log 78). -/
def MeArray.reachRows (m : MeArray) : Nat := maxOf (m.entries.map (fun e => e.1 / 4096 + 1))
def MeArray.reachCols (m : MeArray) : Nat := maxOf (m.entries.map (fun e => e.1 % 4096 + 1))

/-- LOADS: scales of its operand, B in square mode, A in a horizon mode. -/
def loadsScales (mode : Nat) (q : Quad) : Nat := gridCount (meScale q) (mode == 0) (meRows q) (meCols q)

/-- Start-time refusal of a LOADS (R158, R164), in the order of R164's table (log 78). -/
def State.loadsCheck (s : State) (c : Nat) (q : Quad) : Option Nat :=
  let mode := s.meMode c
  let m := (s.tcore c).me
  let w := if m.entries.isEmpty then s.fget (R.TC_ME_STATUS.width_presented c) else s.meWidth c
  let kc := kPerCell (meFmt q)
  let big :=
    if mode = 0 then decide (w < meCols q) || decide (64 * kc < meRows q)
    else decide (modeRows mode < meRows q) || decide (modeCols mode w * kc < meCols q)
  if big then some 0x07
  else if pastEnd (meSrc q) (meRows q) (meStride q) (packedBytes (meFmt q) (meCols q)) ||
      pastEnd (meScaleSrc q) 1 0 (loadsScales mode q) then some 0x0C
  else none

/-- The set a STREAM uses: the shadow set where a SWAP waits for it (R150). -/
def MeArray.streamSet (m : MeArray) : StatSet := if m.swapPending then m.shadow else m.active

/-- Rows, columns and K extent of a STREAM's outputs. -/
def streamShape (mode : Nat) (st : StatSet) (q : Quad) : Nat × Nat × Nat :=
  if mode = 0 then (meCount q, st.cols, st.rows) else (st.rows, meCount q, st.cols)

def streamScales (mode : Nat) (st : StatSet) (q : Quad) : Nat :=
  if mode = 0 then gridCount (meScale q) false (meCount q) st.rows else gridCount (meScale q) true st.cols (meCount q)

/-- Start-time refusal of a STREAM, in the order of R164's table, which the model takes for the order of the checks (log 78). -/
def State.streamCheck (s : State) (c : Nat) (q : Quad) : Option Nat :=
  let m := (s.tcore c).me
  let mode := s.meMode c
  let st := m.streamSet
  let wide := meFmt q == 0
  let (rows, cols, ks) := streamShape mode st q
  let acc := meAccIn q
  let k := if mode = 0 then st.rows else st.cols
  if !st.valid then some 0x01
  else if !pairOk st.fmt (meFmt q) then some 0x02
  else if !tileFits mode (s.meWidth c) wide (Nat.max rows m.reachRows) (Nat.max cols m.reachCols) then some 0x03
  else if !m.entries.isEmpty && m.tileWide != some wide then some 0x04
  else if acc && m.entries.any (fun e => decide (e.1 / 4096 < rows) && decide (e.1 % 4096 < cols) && e.2.nonempty) then some 0x05
  else if decide (2 ^ 40 < m.terms + ks + acc.toNat) then some 0x08
  else if pastEnd (meSrc q) (meCount q) (meStride q) (packedBytes (meFmt q) k) ||
      pastEnd (meScaleSrc q) 1 0 (streamScales mode st q) ||
      (acc && pastEnd (meCSrc q) 1 0 (rows * cols * initBytes (meCFmt q) wide)) then some 0x0C
  else none

/-- The tile's operands are floating-point, where that is known (R164 code 0x09). -/
def MeArray.tileFloat (m : MeArray) : Bool :=
  match m.tileFmt with
  | some f => f != 0x10
  | none => m.active.valid && m.active.fmt != 0x10

/-- Class of the tile in progress. -/
def MeArray.isWide (m : MeArray) : Bool := m.tileWide == some true

/-- Bytes of one row a DRAIN writes. -/
def drainRowBytes (m : MeArray) (q : Quad) : Nat :=
  if meFmt q = fmtRaw then meDCols q * entryBytes m.isWide else packedBytes (meFmt q) (meDCols q)

/-- Start-time refusal of a DRAIN (R158, R164), in the order of R164's table (log 78). -/
def State.drainCheck (s : State) (c : Nat) (q : Quad) : Option Nat :=
  let m := (s.tcore c).me
  let mode := s.meMode c
  let w := s.meWidth c
  let big :=
    if mode = 0 then decide (w < meDCols q)
    else decide (modeRows mode < meDRows q) || decide (fileCapacity w m.isWide < meDRows q * meDCols q)
  if big then some 0x07
  else if (intBits (meFmt q)).isSome && m.tileFloat then some 0x09
  else if !meToVe q && !meDiscard q && pastEnd (meSrc q) (meDRows q) (meStride q) (drainRowBytes m.toMeArray q) then some 0x0C
  else none

/-! Effects. -/

/-- Keep an instruction of the tile for re-execution, up to 256 (R173). -/
def MeState.log (m : MeState) (q : Quad) : MeState :=
  if m.replay.length < 256 then { m with replay := m.replay ++ [q] } else { m with replayLost := true }

/-- A LOADS in the array (R149 to R151, R168): it fills the shadow set, or waits for the swap before it. -/
def State.loadsArr (s : State) (c : Nat) (q : Quad) (m : MeArray) : MeArray :=
  let mode := s.meMode c
  let set := (s.readOperand c (meFmt q) (meScale q) (meRows q) (meCols q) (meSrc q) (meStride q) (meScaleSrc q)
    (loadsScales mode q)).summed mode
  if m.swapPending then { m with deferred := some set } else { m with shadow := set }

/-- A LOADS that has passed its checks; one that begins a tile fixes the width of its extents (R158). -/
def State.doLoads (s : State) (c : Nat) (q : Quad) : State :=
  let w := s.fget (R.TC_ME_STATUS.width_presented c)
  let a := s.loadsArr c q (s.tcore c).me.toMeArray
  let s1 := s.touchOperand c (meFmt q) (meRows q) (meCols q) (meSrc q) (meStride q) (meScaleSrc q) (loadsScales (s.meMode c) q)
  s1.onMe c (fun m =>
    { m.log q with toMeArray := a, tileWidth := if m.entries.isEmpty then some w else m.tileWidth })

/-- The initial values of a STREAM (R159): a term of the value's own, or a raw entry taken field by field. -/
def State.initialEntry (s : State) (c : Nat) (q : Quad) (wide : Bool) (i : Nat) : AccEntry :=
  let n := initBytes (meCFmt q) wide
  let bs := s.padBytes c (meCSrc q + i * n) n
  match meCFmt q with
  | 4 => AccEntry.ofRaw wide bs
  | f =>
    let x := decodeNum (match f with | 0 => 1 | 1 => 3 | 2 => 2 | _ => 0) (leNat bs)
    AccEntry.empty.add wide x false

/-- Bytes per cycle of the scratchpad feed: in compatibility mode a quarter of it (R154, R279). -/
def State.feedBytes (s : State) (c : Nat) : Nat := if s.fon (R.TC_SP_CTL.compat c) then 512 else 2048

/-- Cycles in which a streamed row or K-vector enters the array (R138, R154, R162, R166). -/
def streamCycles (mode feed : Nat) (st : StatSet) (q : Quad) : Nat :=
  let base := meCount q * cyclesPerRow st.fmt (meFmt q)
  if mode = 0 then base
  else Nat.max base ((meCount q * packedBytes (meFmt q) st.cols + streamScales mode st q + feed - 1) / feed)

/-- Coordinates of output `o` along streamed row or K-vector `i` (R153). -/
def outAt (mode i o : Nat) : Nat × Nat := if mode = 0 then (i, o) else (o, i)

/-- A STREAM in the array (R139 to R151, R169): row by row, contributions wait in the check buffer until the row check of
that row has passed, and only then reach their entries, and rho the lane entry. The first row that fails the check is
told; then no contribution counts, for the tile is executed again or discarded. -/
def State.streamArr (s : State) (c : Nat) (q : Quad) (errs : List MeError) (m : MeArray) : MeArray × Option Nat :=
  let mode := s.meMode c
  let st := m.streamSet
  let hard := st.struck errs
  let wide := meFmt q == 0
  let (rows, cols, ks) := streamShape mode st q
  let n := streamScales mode st q
  let str := s.readOperand c (meFmt q) (meScale q) (meCount q) ks (meSrc q) (meStride q) (meScaleSrc q) n
  let ib := if meAccIn q then rows * cols * initBytes (meCFmt q) wide else 0
  let bad := st.poisoned || str.poisoned || s.poisonedIn (padBase c + meCSrc q) ib
  let passes := (List.range (meCount q)).map (fun i =>
    rowPass wide errs st.sums (streamNum mode str i) (statNum mode hard) ks (st.outs mode) i (outAt mode i))
  match passes.findIdx? (fun p => !p.2.2) with
  | some i => (m, some i)
  | none =>
    let first := fun (r n : Nat) => if meAccIn q then s.initialEntry c q wide (r * cols + n) else m.entry r n
    let put := fun (acc : Assoc AccEntry × Assoc AccEntry) (ip : Nat × List AccEntry × AccEntry × Bool) =>
      let i := ip.1
      let outs := List.range (st.outs mode)
      let es := outs.foldl (fun es o =>
        let rc := outAt mode i o
        let e := ((first rc.1 rc.2).merge wide (ip.2.1.getD o .empty)).struckAll wide (entryErrs errs rc.1 rc.2)
        assocSet (fun _ => AccEntry.empty) es (rc.1 * 4096 + rc.2) e) acc.1
      let l0 := assocGet (fun _ => AccEntry.empty) acc.2 i
      let l1 := if meAccIn q then
          mergeAll wide (l0 :: outs.map (fun o => let rc := outAt mode i o; s.initialEntry c q wide (rc.1 * cols + rc.2)))
        else l0
      (es, assocSet (fun _ => AccEntry.empty) acc.2 i ((l1.merge wide ip.2.2.1).struckAll wide (laneEntryErrs errs i)))
    let r := ((List.range passes.length).zip passes).foldl put (m.entries, m.lane)
    ({ m with
        active := hard,
        shadow := if m.swapPending then m.deferred.getD m.active else m.shadow,
        swapPending := false,
        deferred := if m.swapPending then none else m.deferred,
        entries := r.1, lane := r.2,
        tileWide := some (if m.entries.isEmpty then wide else m.isWide),
        tileFmt := some (m.tileFmt.getD (meFmt q)),
        terms := m.terms + ks + (meAccIn q).toNat,
        poisoned := m.poisoned || bad }, none)

/-- A STREAM whose contributions have passed the row check is done: its reads are counted, and it is kept for
re-execution. -/
def State.doStream (s : State) (c : Nat) (q : Quad) (a : MeArray) : State :=
  let m := (s.tcore c).me
  let mode := s.meMode c
  let st := m.streamSet
  let (rows, cols, ks) := streamShape mode st q
  let ib := if meAccIn q then rows * cols * initBytes (meCFmt q) (meFmt q == 0) else 0
  let s1 := (s.touchOperand c (meFmt q) (meCount q) ks (meSrc q) (meStride q) (meScaleSrc q) (streamScales mode st q)).readPad c (meCSrc q) ib
  let s2 := s1.finc (R.TC_ME_STREAM_CYC.stream_cycles c) (streamCycles mode (s.feedBytes c) st q)
  s2.onMe c (fun m => { m.log q with toMeArray := a })

/-- Lane index of an entry's key: its row in square mode, its column in a horizon mode (R169). -/
def laneIndex (mode key : Nat) : Nat := if mode = 0 then key / 4096 else key % 4096

/-- The entries along lane index `i`, added exactly. -/
def MeArray.laneTotal (m : MeArray) (mode i : Nat) : AccEntry :=
  mergeAll m.isWide ((m.entries.filter (fun e => laneIndex mode e.1 == i)).map Prod.snd)

/-- The drain check (R169 code 2): the first output row or column a DRAIN covers whose entries do not add up to its lane
entry. -/
def MeArray.drainFind (m : MeArray) (mode rows cols : Nat) : Option Nat :=
  (m.lane.find? (fun l => decide (l.1 < (if mode = 0 then rows else cols)) && !laneAgree (m.laneTotal mode l.1) l.2)).map Prod.fst

/-- Errors strike entries and lane entries that wait for a DRAIN. -/
def MeArray.struck (m : MeArray) (errs : List MeError) : MeArray :=
  { m with
    entries := m.entries.map (fun e => (e.1, e.2.struckAll m.isWide (entryErrs errs (e.1 / 4096) (e.1 % 4096)))),
    lane := m.lane.map (fun e => (e.1, e.2.struckAll m.isWide (laneEntryErrs errs e.1))) }

/-- Entries a DRAIN covers are empty afterwards; with none left the file is empty (R145, R146). Lane entries of a row or
column that is drained in part go on with the entries left (log 78). -/
def MeArray.emptied (m : MeArray) (mode rows cols : Nat) : MeArray :=
  let es := m.entries.filter (fun e => !(decide (e.1 / 4096 < rows) && decide (e.1 % 4096 < cols)))
  let a := { m with entries := es, tileFmt := none }
  if es.isEmpty then { a with lane := [], tileWide := none, terms := 0, poisoned := false }
  else
    let cut := if mode = 0 then rows else cols
    { a with lane := m.lane.filterMap (fun l =>
        if l.1 < cut then
          (if es.any (fun e => laneIndex mode e.1 == l.1) then some (l.1, a.laneTotal mode l.1) else none)
        else some l) }

/-- A DRAIN ends the tile (R145): what is kept for re-execution begins anew. -/
def MeState.emptied (m : MeState) (mode rows cols : Nat) : MeState :=
  let a := m.toMeArray.emptied mode rows cols
  { m with toMeArray := a, start := a, replay := [], replayLost := false, tileRetired := 0 }

/-- The rounded outputs of a DRAIN, row-major, with their flags, under an out_scale and a draw counter (R147, R119). -/
def State.drainOutputs (s : State) (c : Nat) (q : Quad) (outScale ctr : Nat) : List Nat × Flags :=
  let m := (s.tcore c).me
  let cols := meDCols q
  let one := fun i =>
    let e := m.entry (i / cols) (i % cols)
    if meFmt q = fmtRaw then (leNat (e.raw m.isWide), Flags.zero)
    else e.drain m.isWide (meFmt q) (meScale q) (if meScale q % 8 = 4 then s.drawAt c ctr i else 0) ((outScale : Int) - 127)
  let rs := (List.range (meDRows q * cols)).map one
  (rs.map Prod.fst, rs.foldl (fun f r => f.or r.2) .zero)

/-- Bytes of output row `r` of a DRAIN. -/
def drainRow (q : Quad) (wide : Bool) (vs : List Nat) (r : Nat) : List Byte :=
  let row := (vs.drop (r * meDCols q)).take (meDCols q)
  if meFmt q = fmtRaw then row.flatMap (leBytes (entryBytes wide)) else packElems (meFmt q) row

/-- A DRAIN whose checks have passed (R147, R160): rows written to the scratchpad, kept for the VE until a VRECV takes
them (R202), or discarded. -/
def State.doDrain (s : State) (c : Nat) (q : Quad) : State :=
  let rows := meDRows q
  let cols := meDCols q
  let mode := s.meMode c
  let scale := s.fget (R.TC_ME_STATUS.out_scale c)
  let wide := (s.tcore c).me.isWide
  if meDiscard q then s.onMe c (fun m => m.emptied mode rows cols)
  else if meToVe q then s.onMe c (fun m => { m with toVe := some { q := q, outScale := scale, ctr := none, taken := 0 } })
  else
    let (vs, fl) := s.drainOutputs c q scale (s.fget (R.TC_NUM_SR_CTR.sr_ctr c))
    let s1 := if meFmt q = fmtRaw then s else (s.meFlags c fl).advanceSr c (meScale q) (rows * cols)
    ((List.range rows).foldl (fun t r => t.storePad c (meSrc q + r * meStride q * 32) (drainRow q wide vs r)) s1).onMe c
      (fun m => m.emptied mode rows cols)

/-- A DRAIN with to_ve completes: its entries are empty; taken to the end it raises its flags, discarded by a flush it
raises none (R160, R212). -/
def State.endToVe (s : State) (c : Nat) (d : ToVe) (discard : Bool) : State :=
  let fl := (s.drainOutputs c d.q d.outScale (d.ctr.getD 0)).2
  let s1 := if discard || meFmt d.q == fmtRaw then s else s.meFlags c fl
  s1.onMe c (fun m => { m.emptied (s.meMode c) (meDRows d.q) (meDCols d.q) with toVe := none })

/-- A running VRECV takes up to `n` outputs of the DRAIN that waits for it (R202): the drain issues as its first output is
taken, and completes with its last. -/
def State.takeToVe (s : State) (c n : Nat) : State :=
  match (s.tcore c).me.toVe with
  | none => s
  | some d =>
    let total := meDRows d.q * meDCols d.q
    let now := s.fget (R.TC_NUM_SR_CTR.sr_ctr c)
    let s1 := if d.ctr.isNone then s.advanceSr c (meScale d.q) total else s
    let d1 := { d with ctr := some (d.ctr.getD now), taken := d.taken + Nat.min n (total - d.taken) }
    let got := (((s.drainOutputs c d.q d.outScale (d.ctr.getD now)).1.drop d.taken).take n).map (fun x => (meFmt d.q, x))
    let s2 := s1.onVe c (fun v => { v with stream := v.stream ++ got })
    if d1.taken = total then s2.endToVe c d1 false else s2.onMe c (fun m => { m with toVe := some d1 })

/-! Failures. -/

/-- TC_PX_FAIL describes a failure (R190). -/
def State.pxRecord (s : State) (c check index : Nat) (col dst : Option Nat) : State :=
  (((((((s.fset (R.TC_PX_FAIL.valid c) 1).fset (R.TC_PX_FAIL.check c) check).fset (R.TC_PX_FAIL.index c) index).fset
    (R.TC_PX_FAIL.column c) (col.getD 0)).fset (R.TC_PX_FAIL.col_valid c) col.isSome.toNat).fset (R.TC_PX_FAIL.dst c)
    (dst.getD 0)).fset (R.TC_PX_FAIL.dst_valid c) dst.isSome.toNat)

/-- A DRAIN that ends a poisoned tile (R281): nothing written, entries emptied, check 6 recorded with its dst, the
parallax-fail exception raised; the queue goes on. -/
def State.poisonDrain (s : State) (c : Nat) (q : Quad) : State :=
  let s1 := s.onMe c (fun m => m.emptied (s.meMode c) (meDRows q) (meDCols q))
  (s1.pxRecord c 6 0 none (some (meSrc q))).pend (.tc c) excPx 1

/-- A sequence ends in CHECK_FAIL (R175, R178, R179): the ME starts nothing further and its queue is discarded, a
started DRAIN among it empties its entries; recorded, counted, and logged with the check that failed (R172). The control
core is told, or the ring operation, which PX_CORE_RETIRE ends, is marked failed: none of its tiles goes on. -/
def State.checkFail (s : State) (c check index : Nat) (col dst : Option Nat) (drain : Option Quad) : State :=
  let mode := s.meMode c
  let s1 := s.onMe c (fun m =>
    let m1 := match drain with | some q => m.emptied mode (meDRows q) (meDCols q) | none => m
    { m1 with queue := [], px := none, stopped := true })
  let s2 := ((s1.finc (R.TC_PX_CNT.check_fails c) 1).report (srcTcore c) codePxCheckFail 2 check).pxRecord c check index col dst
  match (s.tcore c).me.ring with
  | some (k, _) => s2.onOp k (fun o => { o with failed := true })
  | none => s2.pend (.tc c) excPx 1

/-- The parallax lane finds a mismatch (R173, R174): a sequence starts, or CHECK_FAIL where nothing can be
re-executed: with replay_off, or where the tile's instructions have outgrown the log (`lost`). -/
def State.mismatch (s : State) (c check index : Nat) (col dst : Option Nat) (drain : Option Quad) (lost : Bool) : State :=
  if check != 3 && (s.fon (R.TC_PX_CTL.replay_off c) || lost) then s.checkFail c check index none dst drain
  else
    let seq : PxSeq :=
      { check := check, index := index % 1024, phase := 0, cand := col.toList, half := [], allPassed := true, dst := dst,
        saved := none, savedTile := none }
    s.onMe c (fun m => { m with px := some seq })

/-- Logical columns a physical column contributes (R153). -/
def colShare (mode : Nat) : Nat := match mode with | 0 => 1 | 1 => 4 | _ => 16

/-- The columns in use, lowest first (R157). -/
def State.colsInUse (s : State) (c : Nat) : List Nat := bitsOf 64 (s.reg (A.TC_ME_COLS c)).toNat

/-- inject_col is in use and contributes to the block a STREAM uses (R190). -/
def State.injectHits (s : State) (c : Nat) (st : StatSet) : Bool :=
  let col := s.fget (R.TC_PX_CTL.inject_col c)
  let cols := s.colsInUse c
  cols.contains col &&
    decide (cols.idxOf col * colShare (s.meMode c) * (if s.meMode c = 0 then 1 else kPerCell st.fmt) < st.cols)

/-- The error that an injection puts into the first streamed row: one unit of the lowest weight in inject_col's
contribution to it, where that column is in use and contributes to the block (R190). -/
def State.injection (s : State) (c : Nat) (st : StatSet) : List MeError :=
  if s.injectHits c st then
    let col := s.fget (R.TC_PX_CTL.inject_col c)
    let place := if s.meMode c = 0 then (s.colsInUse c).idxOf col else 0
    [.contribution 0 place col (.units 1)]
  else []

/-- The errors of a STREAM that starts: those the hardware makes in columns in use, and an injected one (R190). -/
def State.streamErrs (s : State) (c : Nat) (errs : List MeError) : List MeError :=
  let m := (s.tcore c).me
  actingErrors (s.colsInUse c) [] errs ++
    (if m.injectPending || s.fon (R.TC_PX_CTL.inject_persist c) then s.injection c m.streamSet else [])

/-! The commands: each falls on the instruction at the head of the queue. -/

/-- Start the head instruction of the ME queue with opcode `op`: a refusal halts the queue before any effect. A STREAM, a
DRAIN and a MODE wait while a DRAIN with to_ve still holds the drain port and its rows (R161, R162). -/
def State.startMe (s : State) (c op : Nat) (check : Quad → Option Nat) (go : Quad → State) : Res :=
  match s.atHead c .me op with
  | none => .next s
  | some q =>
    if (op == 0x03 || op == 0x04 || op == 0x05) && (s.tcore c).me.toVe.isSome then .next s
    else
      match check q with
      | some code => .next (s.meRefuse c code op)
      | none => .next (go q)

/-- LOADS (R150). -/
def execLoads (c : Nat) (s : State) : Res :=
  s.startMe c 0x01 (s.loadsCheck c) (fun q => (s.doLoads c q).popQueue c .me)

/-- SWAP attaches to the next STREAM (R150). -/
def execSwap (c : Nat) (s : State) : Res :=
  s.startMe c 0x02 (fun _ => if (s.tcore c).me.swapPending then some 0x0B else none)
    (fun q => (s.onMe c (fun m => { m.log q with swapPending := true })).popQueue c .me)

/-- STREAM (R151, R169): a row check that finds a mismatch keeps its contributions out of the entries. -/
def execStream (c : Nat) (errs : List MeError) (s : State) : Res :=
  s.startMe c 0x03 (s.streamCheck c) (fun q =>
    let m := (s.tcore c).me
    let r := s.streamArr c q (s.streamErrs c errs) m.toMeArray
    let s0 := s.onMe c (fun m => { m with injectPending := false })
    match r.2 with
    | some i => s0.mismatch c 1 i none none none m.replayLost
    | none => (s0.doStream c q r.1).popQueue c .me)

/-- The rounder check of a DRAIN (R169, R170): none of a raw drain, nor of one that rounds nothing. -/
def drainRounder (q : Quad) (errs : List MeError) : Option (Nat × Nat × Nat) :=
  if meFmt q = fmtRaw ∨ meDiscard q then none else rounderFind errs (meDRows q) (meDCols q) (fmtBits (meFmt q))

/-- DRAIN (R147, R169, R171): nothing is written, handed on or emptied unless its checks pass. -/
def execDrain (c : Nat) (errs : List MeError) (s : State) : Res :=
  s.startMe c 0x04 (s.drainCheck c) (fun q =>
    let mode := s.meMode c
    let dst := if meToVe q || meDiscard q then some 0 else some (meSrc q)
    let acting := actingErrors (s.colsInUse c) [] errs
    let m := (s.tcore c).me
    let a := m.toMeArray.struck acting
    let s0 := s.onMe c (fun m => { m with toMeArray := a })
    if m.poisoned then (s0.poisonDrain c q).popQueue c .me
    else
      match a.drainFind mode (meDRows q) (meDCols q), drainRounder q acting with
      | some i, _ => s0.mismatch c 2 i none dst (some q) m.replayLost
      | none, some (r, n, p) => s0.mismatch c 3 (if mode = 0 then r else n) (some p) dst (some q) m.replayLost
      | none, none => (s0.doDrain c q).popQueue c .me)

/-- MODE (R162): refused while an entry is nonempty; both sets are invalid, and a SWAP that waited goes with them. -/
def execMode (c : Nat) (s : State) : Res :=
  s.startMe c 0x05 (fun _ => if (s.tcore c).me.entries.any (fun e => e.2.nonempty) then some 0x06 else none)
    (fun q => ((s.onMe c (fun m => { m with
        toMeArray := .reset, start := .reset, tileWidth := none, replay := [], replayLost := false,
        tileRetired := 0 })).fset (R.TC_ME_STATUS.mode c) (q0 q 8 2)).popQueue c .me)

/-- SCALE sets the multiplier later rounded drains apply (R160). -/
def execScale (c : Nat) (s : State) : Res :=
  s.startMe c 0x06 (fun _ => none) (fun q =>
    ((s.onMe c (fun m => m.log q)).fset (R.TC_ME_STATUS.out_scale c) (q0 q 8 8)).popQueue c .me)

end Sys2Proof.Machine
end

