-- ==== Sys2Proof/Machine/Parallax.lean ====
section
/-! DEFINITION. The parallax sequence (R173 to R179): twinkles, the search for a column, retirement, CHECK_FAIL and
what follows it in the control core; injected errors (R190). -/
namespace Sys2Proof.Machine

/-- A column of a T-core is retired in the field (R176, R177, R558): recorded, counted, logged with its number;
widths fall at once, and below min_width the core is retired, its tile being work of a lost core (R157, R176). -/
def State.retireColumn (s : State) (c col : Nat) : State :=
  let s1 := s.setReg (A.TC_PX_RETIRED c) (s.reg (A.TC_PX_RETIRED c) ||| BitVec.ofNat 64 (2 ^ col))
  let s2 := ((s1.finc (R.TC_PX_CNT.me_retired c) 1).report (srcTcore c) codeColumnRetired 2 col).setWidth c
  match s2.partOfTcore c with
  | none => s2
  | some p =>
    let s4 := if s2.partUniform p then s2 else s2.fset (R.PRT_RES.width p) (s2.partWidth p)
    if (s4.colsUp c).length < s4.partMinWidth p then
      ((s4.onMe c (fun m => { m with stopped := true, queue := [], px := none, ring := none })).reportOpen (srcTcore c) codeWidthBelowMin 2).requestRecovery (.tcore c)
    else s4

/-- A T-core is retired after a failure (R179): its private state is lost at once, and the sequencer's recovery of
the core follows. -/
def State.pxRetire (s : State) (c : Nat) : State :=
  if (s.tcore c).cc.retired then s else (s.retireTcore c).requestRecovery (.tcore c)

/-- PX_CORE_RETIRE (R179): after a CHECK_FAIL the last started instruction has completed; the ring operation completes
CHECK_FAIL with progress and witness 0, even with auto-reissue on, and the core is retired. -/
def execPxCoreRetire (c : Nat) (s : State) : Res :=
  let m := (s.tcore c).me
  match m.stopped && m.px.isNone, m.ring with
  | true, some (k, _) =>
    let s1 := match s.op k with
      | some o =>
        if o.live && o.failed then ((s.onOp k (fun o => { o with progress := 0 })).flagOp k flagHard).endOp k stCheckFail else s
      | none => s
    .next (s1.pxRetire c)
  | _, _ => .next s

/-- EXCEPTION_RETURN (R179, R225, R238): the handler returns; after a parallax failure the T-core is retired. -/
def execExceptionReturn (u : CoreId) (s : State) : Res :=
  if !s.coreOn u || !(s.jumbe u).inHandler then .next s
  else
    match u with
    | .tc c => .next (if s.pxHandler c then s.pxRetire c else s.leaveHandler u)
    | .pc _ => .next (s.leaveHandler u)

/-- PX_HANDLER_TIMEOUT (R179). -/
def execPxHandlerTimeout (c : Nat) (s : State) : Res := whenever (decide (c < 512) && s.pxHandler c) (s.pxRetire c) s

/-- PF0 and PF3 write TC_PX_CTL (R555). -/
def pxRights (fn : Fn) : Bool := decide (fn = .pf 0 ∨ fn = .pf 3)

/-- PX_INJECT (R190): the next streamed row takes one error in a column's contribution. -/
def execPxInject (fn : Fn) (c col : Nat) (persist : Bool) (s : State) : Res :=
  if !pxRights fn then .next (s.refuseWrite fn (A.TC_PX_CTL c) true true)
  else
    whenever (decide (c < 512)) ((((s.onMe c (fun m => { m with injectPending := true })).fset (R.TC_PX_CTL.inject_col c)
      (col % 64)).fset (R.TC_PX_CTL.inject_persist c) persist.toNat)) s

end Sys2Proof.Machine
end

