-- ==== Sys2Proof/Machine/Startup.lean ====
section
/-! DEFINITION. Start-up (R460 to R473): resets and their release, the boot ROM's choice of firmware, the milestones up
to COMPUTE_READY, and the Togus load. -/
namespace Sys2Proof.Machine

/-! The boot flash (R465): the activation records and the firmware copies, read from their bytes. -/

/-- An activation record (R467). -/
structure ActRec where
  seq : Nat
  active : Nat
  pending : Nat
  trials : Nat
deriving DecidableEq, Repr

/-- What the device takes when neither record is valid (R467). -/
def ActRec.blank : ActRec := { seq := 0, active := 0, pending := 255, trials := 0 }

/-- The 64 bytes of a record, with its crc. -/
def recBytes (r : ActRec) : List Byte :=
  let b := leBytes 8 r.seq ++ [BitVec.ofNat 8 r.active, BitVec.ofNat 8 r.pending, BitVec.ofNat 8 r.trials] ++ List.replicate 45 0
  b ++ leBytes 8 (crc64 b)

/-- A record as read from the flash: none where its crc is wrong. -/
def recOf (b : List Byte) : Option ActRec :=
  if b.length = 64 && leAt b 0x38 8 == crc64 (b.take 0x38) then
    some { seq := leAt b 0 8, active := leAt b 8 1, pending := leAt b 9 1, trials := leAt b 10 1 }
  else none

/-- The firmware header (R465). -/
structure FwCopy where
  /-- magic and part_id match, and the lengths fit the copy. -/
  present : Bool
  version : Nat
  security : Nat
  proto : Nat
  protoMin : Nat
  togusMin : Nat
  keyIndex : Nat
  signature : List Byte
  /-- The bytes the signature covers. -/
  signed : List Byte
  digest1 : List Byte
  digest2 : List Byte
  stage1 : List Byte
  stage2 : List Byte
deriving DecidableEq, Repr

/-- A firmware copy as its 256-byte header and its stages (R465). -/
def parseFw (b : List Byte) : FwCopy :=
  let l1 := leAt b 0x14 4
  let total := leAt b 0x18 4
  { present := leAt b 0 4 == 0x4E524946 && leAt b 4 4 == 0xF40 && decide (l1 ≤ 8388608) && decide (total ≤ 25165824) &&
      decide (256 + l1 ≤ total) && decide (total ≤ b.length),
    version := leAt b 8 4, security := leAt b 0x0C 4, proto := leAt b 0x10 1, protoMin := leAt b 0x11 1,
    togusMin := leAt b 0x12 2, keyIndex := leAt b 0x1C 1, signature := (b.drop 0xA0).take 96, signed := b.take 0xA0,
    digest1 := (b.drop 0x40).take 48, digest2 := (b.drop 0x70).take 48,
    stage1 := (b.drop 256).take l1, stage2 := (b.drop (256 + l1)).take (total - 256 - l1) }

/-- Stage 1 matches stage1_digest (R466). -/
def FwCopy.stage1Ok (c : FwCopy) : Bool := sha384 c.stage1 == c.digest1

/-- Stage 2 matches stage2_digest (R466). -/
def FwCopy.stage2Ok (c : FwCopy) : Bool := sha384 c.stage2 == c.digest2

/-! The activation record (R467). -/

/-- The winning record, and whether it is copy 1: valid with the higher seq, copy 0 on equal ones; with neither valid,
active = A and no pending. -/
def State.winRecord (s : State) : Bool × ActRec :=
  match recOf s.nv.rec0, recOf s.nv.rec1 with
  | some a, some b => if a.seq < b.seq then (true, b) else (false, a)
  | some a, none => (false, a)
  | none, some b => (true, b)
  | none, none => (false, ActRec.blank)

/-- Write a record into the losing copy, with seq + 1. -/
def State.putRecord (s : State) (r : ActRec) : State :=
  let w := s.winRecord
  let b := recBytes { r with seq := (w.2.seq + 1) % 2 ^ 64 }
  if w.1 then { s with nv := { s.nv with rec0 := b } } else { s with nv := { s.nv with rec1 := b } }

/-- The bytes of a firmware copy of the flash. -/
def State.fwBytes (s : State) (i : Nat) : List Byte := if i = 0 then s.nv.fwA else s.nv.fwB

/-- A firmware copy of the flash. -/
def State.fwCopy (s : State) (i : Nat) : FwCopy := parseFw (s.fwBytes i)

/-- The signature of a firmware copy verifies under its vendor key slot (R466). -/
def State.fwSigned (s : State) (c : FwCopy) : Bool :=
  let key := s.nv.vendorKeys.getD c.keyIndex []
  decide (c.keyIndex < 2) && keyUsable (s.vendorSlot c.keyIndex) key (s.nv.vendorDigests.getD c.keyIndex []) &&
    ecdsaOk key (sha384 c.signed) c.signature

/-- The header and stage 1 of a copy pass (R466). -/
def State.fwPasses (s : State) (c : FwCopy) : Bool :=
  c.present && s.fwSigned c && decide (s.nv.fwMin ≤ c.security) && c.stage1Ok

/-- A copy is bootable: it passes, and no stage 2 mismatch has excluded it in this boot (R466). -/
def State.bootable (s : State) (i : Nat) : Bool := s.fwPasses (s.fwCopy i) && !s.boot.excluded.contains i

/-! The boot ROM. -/

/-- Recovery (R469): the host link trains and PF0 exposes the GLB block; both copies are unbootable. -/
def State.enterRecovery (s : State) : State :=
  let s1 : State := { s with boot := { s.boot with stage := .recovery, watchdog := false, onTrial := false, configReady := true } }
  ((s1.fset R.GLB_BOOT.boot_state 3).reach_ 1).reportOpen srcPackage codeFwUnbootable 2

/-- The S1 boot ROM selects firmware (R467). -/
def State.romSelect (s : State) : State :=
  let r := s.winRecord.2
  let w : State × Nat :=
    if r.pending ≠ 255 ∧ 2 ≤ r.trials then (s.putRecord { r with pending := 255 }, r.active)
    else if r.pending ≠ 255 then (s.putRecord { r with trials := r.trials + 1 }, r.pending)
    else (s, r.active)
  let s1 := w.1
  let try_ := w.2 % 2
  let pend := s1.winRecord.2.pending
  let s2 := s1.fset R.GLB_FW.pending (if pend = 255 then 3 else pend % 2)
  let other := 1 - try_
  let go := fun (c : Nat) =>
    let trial := decide (pend ≠ 255) && c == pend % 2
    let s3 : State := { s2 with boot := { s2.boot with stage := .rom, copy := c, onTrial := trial, watchdog := trial } }
    s3.fset R.GLB_BOOT.boot_state 0
  if s2.bootable try_ then go try_ else if s2.bootable other then go other else s2.enterRecovery

/-- Boot start (R464): straps, OTP and fuses are read, and the ROM selects firmware. While a reference clock is missing
the package stays in reset (R575), and so it does in SHUTDOWN (R534). -/
def State.bootStart (s : State) : State :=
  if s.fget R.NWT_STATUS.pstate = 4 then s
  else if !s.pins.clocksLost.isEmpty then { s with pins := { s.pins with heldByClock := true } }
  else
    let s1 : State := { s with
      boot := { Boot.reset with start := s.clock },
      pins := { s.pins with heldByClock := false, linkWidth := 16, linkRate := 64 } }
    let s2 := ((s1.fset R.SCP_ID.rack s1.nv.strapRack).fset R.SCP_ID.slot s1.nv.strapSlot).setReg A.SCP_SN s1.nv.serial
    let s3 := ((s2.fset R.GLB_ID.stepping s2.nv.stepping).fset R.GLB_SEC.fw_min s2.nv.fwMin).fset R.GLB_SEC.image_min s2.nv.imageMin
    let owner := (List.range 4).foldl (fun m i => m + s3.ownerSlot i * 4 ^ i) 0
    (((s3.fset R.GLB_SLOTS.owner owner).fset R.GLB_SLOTS.vendor s3.nv.vendorSlots).fset R.GLB_DIE_FUSED.dies s3.nv.fusedDies).romSelect

/-! The commands of reset. -/

/-- Rails by the order of R568: 0 VDD_T, 1 VDD_P, 2 VDD_M, 3 VDD_SRAM, 4 VDD_IO, 5 VDDQ_G, 6 VDD_OPT; 7 stands for
VDD_AON. -/
def aonRail : Nat := 7

/-- COLD_RESET: VDD_AON rises (R460); VDD_T and VDD_P start at their boot level (R463). -/
def execColdReset (s : State) : Res :=
  let s1 := s.coldReset
  .next { s1 with pins := { s1.pins with
    railsBad := s1.pins.railsBad.filter (fun r => r != aonRail), avsSet := [800, 800], avsAsked := [none, none], heldByClock := false } }

/-- VDD_AON_LOSS: everything but the flash, the fuses and the drives is lost. -/
def execVddAonLoss (s : State) : Res :=
  let s1 := s.coldReset
  .next { s1 with pins := { s1.pins with railsBad := insertNat s1.pins.railsBad aonRail } }

/-- PERST_N_ASSERT: PERST_N has been low for 100 us (R461). -/
def execPerstAssert (now : Nat) (s : State) : Res :=
  let s0 := s.advance now
  whenever s0.pins.perstN ({ s0 with pins := { s0.pins with perstN := false } }.warmReset 1) s0

/-- PERST_N_RELEASE: the straps are sampled (R567), and the boot starts unless a rail is down (R464). -/
def execPerstRelease (now rack slot : Nat) (s : State) : Res :=
  let s0 := s.advance now
  if s0.pins.perstN then .next s0
  else
    let s1 : State := { s0 with
      pins := { s0.pins with perstN := true },
      nv := { s0.nv with strapRack := rack % 2 ^ 16, strapSlot := slot % 2 ^ 8 } }
    .next (if s1.pins.railsBad.isEmpty then s1.bootStart else s1)

/-- RAIL_FAIL: a rail other than VDD_AON is below 90 % (R461). -/
def execRailFail (rail : Nat) (s : State) : Res :=
  whenever (decide (rail < aonRail)) ({ s with pins := { s.pins with railsBad := insertNat s.pins.railsBad rail } }.warmReset 5) s

/-- RAIL_RESTORE_RESTART: 100 ms after every rail is valid again the package restarts, unless PERST_N is low and its
release is still to come (R464). -/
def execRailRestoreRestart (now : Nat) (s : State) : Res :=
  let s0 := s.advance now
  if s0.pins.railsBad.isEmpty || s0.pins.railsBad.contains aonRail then .next s0
  else
    let s1 : State := { s0 with pins := { s0.pins with railsBad := [] } }
    .next (if s1.pins.perstN then s1.bootStart else s1)

/-- INTERNAL_RESET_RELEASE: 1 ms after an internal cause (R464). -/
def execInternalResetRelease (now : Nat) (s : State) : Res :=
  let s0 := s.advance now
  whenever (s0.boot.stage == .inReset && s0.pins.perstN && s0.pins.railsBad.isEmpty) s0.bootStart s0

/-- BOOT_WATCHDOG: a trial copy has not reached IMAGE within 8 s (R468). -/
def execBootWatchdog (s : State) : Res := whenever s.boot.watchdog (s.warmReset 4) s

/-! Bring-up. -/

/-- FIRMWARE_STARTED: stage 1 runs and verifies stage 2; a mismatch excludes the copy and restarts the ROM (R466). H0
then leaves retry status, CONFIG (log 22). -/
def execFirmwareStarted (s : State) : Res :=
  if s.boot.stage ≠ .rom then .next s
  else if (s.fwCopy s.boot.copy).stage2Ok then
    let s1 : State := { s with boot := { s.boot with stage := .running, configReady := true } }
    .next (((((s1.fset R.GLB_FW.version (s1.fwCopy s1.boot.copy).version).fset R.GLB_FW.running_copy s1.boot.copy).fset
      R.GLB_BOOT.boot_state 1).reach_ 0).reach_ 1)
  else .next { s with boot := { s.boot with excluded := insertNat s.boot.excluded s.boot.copy } }.romSelect

/-- FUSES_APPLIED: fused-off columns and units take effect on every die (R470, R553). -/
def execFusesApplied (s : State) : Res :=
  if !(s.boot.stage == .running && s.milestone 0 && !s.milestone 2) then .next s
  else
    let s1 := s.nv.fusedCols.foldl (fun s e => s.setReg (A.TC_ME_FUSED e.1) e.2) s
    let s2 := (List.range 512).foldl State.setWidth s1
    let s3 := ((List.range 512).filter (fun c => !s2.tcoreUp c)).foldl (fun s c => s.fset (R.TC_CC_STATUS.state c) 4) s2
    .next (s3.reach_ 2)

/-- Dies without which the package does not leave reset (R41): H0, S0, S1 and any M-die that cannot route. -/
def fatalDie (d : Nat) : Bool := d == dieH 0 || d == dieS 0 || d == dieS 1 || decide (dieM 0 ≤ d ∧ d < dieM 8)

/-- The die and cause code of a failure that halts the package. -/
def haltOf (u : FailedUnit) : Option (Nat × Nat) :=
  match u with
  | .die d => if fatalDie d then some (d, 1) else none
  | .fatalDie d code => if fatalDie d then some (d, code) else none
  | _ => none

/-- HALTED (R473): the cause is shown and goes out over the management path (R41), ALERT_N is driven low, and H0 answers
with retry status. -/
def State.halt (s : State) (die code : Nat) : State :=
  let s1 : State := { s with boot := { s.boot with stage := .halted, watchdog := false, configReady := false } }
  s.showAlert ((((s1.fset R.GLB_BOOT.boot_state 4).fset R.GLB_BOOT.halt_die die).fset R.GLB_BOOT.halt_code code).emit
    (.pldm 6 (die + 256 * code)))

/-- A unit that fails self-test is reported and retired (R470, R41). -/
def State.failUnit (s : State) (u : FailedUnit) : State :=
  let log := fun (src : Nat) => s.reportOpen src codeSelfTestFail 2
  let die := fun (d : Nat) =>
    if d < 40 ∧ ¬ s.dieOut d then (log (srcDie d)).fset R.GLB_DIE_RETIRED.dies (s.fget R.GLB_DIE_RETIRED.dies ||| 2 ^ d) else s
  match u with
  | .tcore c =>
    if s.tcoreUp c then
      ((log (srcTcore c)).onCore c (fun t => { t with cc := { t.cc with retired := true } })).fset (R.TC_CC_STATUS.state c) 4
    else s
  | .column c col => if c < 512 ∧ (s.colsUp c).contains col then s.retireColumn c col else s
  | .pcore c => if s.pcoreUp c then (log (srcPcore c)).setPcore c { s.pcore c with retired := true } else s
  | .se n => if s.seUp n then (log (srcSe n)).setSe n { s.se n with retired := true } else s
  | .llmUnit u =>
    if s.llmUp u then { log (srcSlice (u / 8)) with llmRetired := insertNat s.llmRetired u } else s
  | .channel n =>
    if n < 64 ∧ s.fget (R.GDM_CH_STATUS.state n) ≠ 4 then (log (srcChan n)).fset (R.GDM_CH_STATUS.state n) 4 else s
  | .port n => if s.portWorks n then { log (srcPort n) with portsRetired := insertNat s.portsRetired n } else s
  | .die d => die d
  | .fatalDie d _ => die d

/-- A channel whose training begins: off, neither fused off nor on a die that is out (R299). -/
def State.trainable (s : State) (n : Nat) : Bool :=
  s.fget (R.GDM_CH_STATUS.state n) == 0 && !s.nv.fusedChannels.contains n && !s.dieOut (dieOfChan n)

/-- Bring-up of the enabled ports starts, and training of every channel (R299, R356, R470). -/
def State.startUnits (s : State) : State :=
  let s1 := ((List.range 64).filter (fun n => s.portWorks n && s.fon (R.SCP_PORT_CTL.enable n) && s.portSt n == 0)).foldl
    (fun s n => s.putPortState n 1) s
  ((List.range 64).filter s1.trainable).foldl (fun s n => (s.fset (R.GDM_CH_STATUS.state n) 1).raise (.pf 0) (96 + n)) s1

/-- Limits of a rail's set point in mV (R568): 0 VDD_T, 1 VDD_P. -/
def avsLimits (rail : Nat) : Nat × Nat := if rail = 0 then (700, 850) else (650, 900)

/-- Every die of a rail is below its throttle temperature, 95 C (R572). -/
def State.railCool (s : State) (rail : Nat) : Bool :=
  (if rail = 0 then List.range 16 else [24, 25, 26, 27]).all (fun d =>
    decide (s.fget (R.NWT_SENSOR.raw d) ≤ 1520) || decide (2 ^ 15 ≤ s.fget (R.NWT_SENSOR.raw d)))

/-- Adaptive scaling asks for a set point: one request at a time, by at most 10 mV, down only while the rail's dies are
cool (R569). Which set point is a free value (log 5). -/
def State.avsRequest (s : State) (rail : Nat) : State :=
  if (s.pins.avsAsked.getD rail none).isSome then s
  else
    let cur := s.pins.avsSet.getD rail 800
    let lo := Nat.max (cur - 10) (avsLimits rail).1
    let hi := Nat.min (cur + 10) (avsLimits rail).2
    let want := Nat.min hi (Nat.max lo (Config.setPoint s.free))
    let s1 : State := { s with free := s.free + 1 }
    if want = cur || (decide (want < cur) && !s.railCool rail) then s1
    else { s1 with pins := { s1.pins with avsAsked := updateAt s1.pins.avsAsked rail (fun _ => some want) } }.emit (.avs rail want)

/-- SELF_TEST_DONE: failures are retired (R470), and a failure that R41 names then halts the package (R473). -/
def execSelfTestDone (failed : List FailedUnit) (s : State) : Res :=
  if !(s.boot.stage == .running && s.milestone 2 && !s.milestone 3) then .next s
  else
    let s1 := (failed.foldl State.failUnit s).recountPackage
    match failed.findSome? haltOf with
    | some h => .next (s1.halt h.1 h.2)
    | none => .next (((((s1.reach_ 3).startUnits.checkLinks).checkMemory).avsRequest 0).avsRequest 1)

/-! The Togus load (R60, R61). -/

/-- IMAGE_LOADED: both flash copies are validated, the valid one with the higher sequence is loaded, A on equal ones; a
trial copy is made active (R468). With neither valid the package runs with no partitions (R61). -/
def execImageLoaded (s : State) : Res :=
  if !(s.boot.stage == .running && s.milestone 3 && !s.milestone 4) then .next s
  else
    let a := validate s true s.nv.togusA
    let b := validate s true s.nv.togusB
    let pick : Nat :=
      match a, b with
      | none, none => if imgSeq s.nv.togusA < imgSeq s.nv.togusB then 1 else 0
      | none, some _ => 0
      | some _, none => 1
      | some _, some _ => 3
    let code := fun (r : Option (Nat × Nat)) => (r.map Prod.fst).getD 0
    let off := fun (r : Option (Nat × Nat)) => (r.map Prod.snd).getD 0
    let s1 := ((((s.fset R.PRT_BOOT.loaded pick).fset R.PRT_BOOT.code_a (code a)).fset R.PRT_BOOT.code_b (code b)).fset
      R.PRT_BOOT.off_a (off a)).fset R.PRT_BOOT.off_b (off b)
    let refused := fun (t : State) (r : Option (Nat × Nat)) =>
      if r.isSome then (t.reportOpen srcPackage codeImageRefused 0).imageEvent r else t
    let s2 := refused (refused s1 a) b
    let s3 := if pick = 0 then s2.loadFull s2.nv.togusA else if pick = 1 then s2.loadFull s2.nv.togusB
      else s2.fset R.GLB_BOOT.boot_state 2
    let s4 := s3.reach_ 4
    let s5 : State :=
      if s4.boot.onTrial then
        ({ s4 with boot := { s4.boot with watchdog := false, onTrial := false } }.putRecord
          { ActRec.blank with active := s4.boot.copy }).fset R.GLB_FW.pending 3
      else s4
    .next s5

/-- COMPUTE_READY: a Togus image is loaded and memory is ready (R471, R472). -/
def execComputeReady (s : State) : Res :=
  whenever (s.boot.stage == .running && s.milestone 4 && s.milestone 5 && s.fget R.PRT_BOOT.loaded != 3)
    ((s.reach_ 7).fset R.GLB_BOOT.boot_state 2).readAlmLast s

end Sys2Proof.Machine
end

