-- ==== Sys2Proof/Machine/Mgmt.lean ====
section
/-! DEFINITION. The management path (R477 to R480): PLDM firmware update, the Burolmuri commands, MCTP control, SPDM
and sensor readings. A response is the record `Out.mgmtResp`: protocol 0 MCTP control, 1 SPDM, 2, 5 and 63 the PLDM
type; code 0 done, otherwise refused (log 23). -/
namespace Sys2Proof.Machine

/-- The management endpoint answers once firmware or the recovery code runs (R469, R473, R477). -/
def State.mgmtUp (s : State) : Bool := s.boot.stage == .running || s.boot.stage == .recovery || s.boot.stage == .halted

def State.mgmtRespond (s : State) (proto code : Nat) (bytes : List Byte) : State := s.emit (.mgmtResp proto code bytes)

/-! Firmware update (R469, R478). -/

/-- The firmware copy an update stages into: A in recovery (R469), else the one that does not run (R478). -/
def State.stageInto (s : State) : Nat := if s.boot.stage = .recovery then 0 else 1 - s.boot.copy % 2

/-- Bytes written over a firmware copy; the rest of its 24 MiB is taken as erased. -/
def State.putFw (s : State) (i : Nat) (b : List Byte) : State :=
  if i = 0 then { s with nv := { s.nv with fwA := b } } else { s with nv := { s.nv with fwB := b } }

/-- The Togus copy an image is written to: the one not loaded; A where neither was (R43, R478). -/
def State.togusInto (s : State) : Nat := if s.fget R.PRT_BOOT.loaded = 0 then 1 else 0

def State.putTogus (s : State) (i : Nat) (b : List Byte) : State :=
  if i = 0 then { s with nv := { s.nv with togusA := b } } else { s with nv := { s.nv with togusB := b } }

/-- PLDM_FW_UPDATE: staging takes its slot, clears pending, and begins to overwrite its copy (R478, R503). In recovery
only a firmware image is accepted (R469). -/
def execPldmFwUpdate (component : Nat) (s : State) : Res :=
  if !((s.boot.stage == .running || s.boot.stage == .recovery) && s.boot.staging.isNone && decide (component < 2) &&
      (s.boot.stage == .running || component == 0)) then .next (s.mgmtRespond 5 1 [])
  else
    let g := s.mntGrant 5 0 reqPldm true
    if g.2.1 ≠ stDone then .next (g.1.mgmtRespond 5 g.2.1 [])
    else
      let s1 : State := { g.1 with boot := { g.1.boot with staging := some component } }
      let s2 := if component = 0 then
          ((s1.putRecord { s1.winRecord.2 with pending := 255, trials := 0 }).putFw s1.stageInto []).fset R.GLB_FW.pending 3
        else s1.putTogus s1.togusInto []
      .next (s2.mgmtRespond 5 0 [])

/-- The slot that staging holds is freed. -/
def State.endStaging (s : State) (ok : Bool) : State :=
  let s1 : State := { s with boot := { s.boot with staging := none } }
  let s2 := match s1.mntSlotOf 5 with | some i => s1.mntEnd i (if ok then stDone else stInternal) (if ok then 100 else s1.fget (R.MNT_SLOT.progress i)) | none => s1
  s2.mgmtRespond 5 (if ok then 0 else 1) []

/-- A staged firmware image may become pending (R478). -/
def State.fwAccepted (s : State) (c : FwCopy) : Bool :=
  s.fwPasses c &&
    (s.boot.stage == .recovery ||
      (decide (c.protoMin ≤ (s.fwCopy s.boot.copy).proto) && (s.fget R.PRT_BOOT.loaded == 3 || decide (c.togusMin ≤ 2))))

/-- FW_STAGING_DONE: firmware that passes becomes pending; in recovery it becomes the active copy A and the package
resets (R469, R478). A Togus image is written whole, at most 256 KiB. -/
def execFwStagingDone (image : List Byte) (s : State) : Res :=
  match s.boot.staging with
  | none => .next s
  | some 0 =>
    let c := parseFw image
    let i := s.stageInto
    let ok := s.fwAccepted c
    let s1 := s.putFw i image
    if !ok then .next (s1.endStaging false)
    else if s1.boot.stage = .recovery then
      .next (((s1.putRecord { ActRec.blank with active := 0 }).endStaging true).warmReset 3)
    else .next (((s1.putRecord { s1.winRecord.2 with pending := i, trials := 0 }).fset R.GLB_FW.pending i).endStaging true)
  | some _ =>
    if 262144 < image.length then .next (s.endStaging false)
    else .next ((s.putTogus s.togusInto image).endStaging true)

/-! The Burolmuri commands (R479, R480). -/

/-- Some owner key slot is programmed and not revoked. -/
def State.hasOwner (s : State) : Bool := s.nv.ownerSlots.any (fun x => x == 1)

/-- A command is signed by a programmed, unrevoked owner key over the command, the serial number and an issued
nonce (R479). -/
def State.burolmuri (s : State) (signedOk : Bool) : Bool := s.mgmtUp && signedOk && s.hasOwner

/-- Owner slot `i` takes a state; GLB_SLOTS shows it (R556). -/
def State.setOwner (s : State) (i st : Nat) : State :=
  let s1 : State := { s with nv := { s.nv with ownerSlots := updateAt s.nv.ownerSlots i (fun _ => st) } }
  s1.fset R.GLB_SLOTS.owner ((List.range 4).foldl (fun m j => m + s1.ownerSlot j * 4 ^ j) 0)

/-- PROGRAM_SLOT: the key goes to flash and its digest to OTP, the programmed bit last; cut short, the slot is spoiled
and reported (R480). Unsigned it is accepted only over I3C while no slot is programmed (R479). -/
def execProgramSlot (slot : Nat) (key : List Byte) (signedOk i3c complete : Bool) (s : State) : Res :=
  if !(s.mgmtUp && decide (slot < 4) && s.ownerSlot slot == 0 && (if s.hasOwner then signedOk else i3c)) then .next (s.mgmtRespond 63 1 [])
  else if complete then
    let s1 : State := { s with nv := { s.nv with
      ownerKeys := updateAt s.nv.ownerKeys slot (fun _ => key),
      ownerDigests := updateAt s.nv.ownerDigests slot (fun _ => sha384 key) } }
    .next ((s1.setOwner slot 1).mgmtRespond 63 0 [])
  else .next ((s.setOwner slot 3).reportOpen srcPackage codeSlotSpoiled 2)

/-- REVOKE_SLOT: refused where it would leave no usable slot (R480). -/
def execRevokeSlot (slot : Nat) (signedOk : Bool) (s : State) : Res :=
  let others := (List.range 4).any (fun j => j != slot && s.ownerSlot j == 1)
  if s.burolmuri signedOk && decide (slot < 4) && s.ownerSlot slot == 1 && others then .next ((s.setOwner slot 2).mgmtRespond 63 0 [])
  else .next (s.mgmtRespond 63 1 [])

/-- RAISE_FW_MIN: the minimum never falls (R479). -/
def execRaiseFwMin (v : Nat) (signedOk : Bool) (s : State) : Res :=
  if s.burolmuri signedOk && decide (s.nv.fwMin ≤ v ∧ v < 2 ^ 32) then
    .next (({ s with nv := { s.nv with fwMin := v } }.fset R.GLB_SEC.fw_min v).mgmtRespond 63 0 [])
  else .next (s.mgmtRespond 63 1 [])

/-- RAISE_IMAGE_MIN (R55). -/
def execRaiseImageMin (v : Nat) (signedOk : Bool) (s : State) : Res :=
  if s.burolmuri signedOk && decide (s.nv.imageMin ≤ v ∧ v < 2 ^ 32) then
    .next (({ s with nv := { s.nv with imageMin := v } }.fset R.GLB_SEC.image_min v).mgmtRespond 63 0 [])
  else .next (s.mgmtRespond 63 1 [])

/-- PACKAGE_RESET: a warm reset (R461). -/
def execPackageReset (signedOk : Bool) (s : State) : Res :=
  if s.burolmuri signedOk then .next ((s.mgmtRespond 63 0 []).warmReset 3) else .next (s.mgmtRespond 63 1 [])

/-- TWILIGHT_ENTER: twilight begins at the next transit (R347). -/
def execTwilightEnter (signedOk : Bool) (s : State) : Res :=
  if s.burolmuri signedOk then .next ({ s with twilightArm := true }.mgmtRespond 63 0 []) else .next (s.mgmtRespond 63 1 [])

/-! MCTP control, SPDM, sensors. -/

/-- MCTP_CONTROL: EID assignment and discovery; command codes and completion codes are DSP0236's (log 12). -/
def execMctpControl (cmd eid : Nat) (s : State) : Res :=
  if !s.mgmtUp then .next s
  else
    match cmd with
    | 0x01 =>
      if 8 ≤ eid ∧ eid < 255 then .next ({ s with boot := { s.boot with eid := eid } }.mgmtRespond 0 0 (leBytes 1 eid))
      else .next (s.mgmtRespond 0 2 [])
    | 0x02 => .next (s.mgmtRespond 0 0 (leBytes 1 s.boot.eid))
    | 0x05 => .next (s.mgmtRespond 0 0 [2, 1, 5])
    | 0x0B => .next (s.mgmtRespond 0 0 [])
    | 0x0C => .next (s.mgmtRespond 0 0 [])
    | _ => .next (s.mgmtRespond 0 5 [])

/-- Request codes of the SPDM messages the responder supports (R379, R477; codes of DSP0274, log 12). -/
def spdmKnown (code : Nat) : Bool := [0x81, 0x82, 0x84, 0xE0, 0xE1, 0xE3, 0xE4, 0xE5, 0xE9, 0xEC].contains code

/-- The measurements: both digests of the running firmware, its version, and the structure hash (R59, R477). -/
def State.measurements (s : State) : List Byte :=
  let c := s.fwCopy s.boot.copy
  c.digest1 ++ c.digest2 ++ leBytes 4 c.version ++ (List.range 6).flatMap (fun k => leBytes 8 (s.reg (A.GLB_HASH k)).toNat)

/-- SPDM_REQUEST: measurements carry their bytes; what the other responses carry is the secured exchange's own and stands
outside the model (log 12). -/
def execSpdmRequest (code : Nat) (s : State) : Res :=
  if !s.mgmtUp then .next s
  else if spdmKnown code then .next (s.mgmtRespond 1 0 (if code = 0xE0 then s.measurements else []))
  else .next (s.mgmtRespond 1 0x7F [])

/-- PLDM_GET_SENSOR: one numeric sensor per Night Watch sensor (R477): its filtered and its raw value. A halted package
answers with the cause of its halt: die and cause code (R41, R473). -/
def execPldmGetSensor (n : Nat) (s : State) : Res :=
  if !s.mgmtUp then .next s
  else if s.boot.stage = .halted then
    .next (s.mgmtRespond 2 0 (leBytes 1 (s.fget R.GLB_BOOT.halt_die) ++ leBytes 1 (s.fget R.GLB_BOOT.halt_code)))
  else if n < 64 then .next (s.mgmtRespond 2 0 (leBytes 2 (s.fget (R.NWT_SENSOR.filtered n)) ++ leBytes 2 (s.fget (R.NWT_SENSOR.raw n))))
  else .next (s.mgmtRespond 2 0x80 [])

end Sys2Proof.Machine
end

