-- ==== Sys2Proof/Machine/Rack.lean ====
section
/-! DEFINITION. Rack memory at its home and the commands of the rack (R317 to R349): key and offset checks, live and
epoch regions, atomics, beacon windows, the atomic port, responses, keys and twilight. -/
namespace Sys2Proof.Machine

/-! Region descriptors (R322 to R324). -/

def State.rgnBase (s : State) (d : Nat) : Nat := s.fget (R.RMM_RGN_BASE.base_2m d) * 0x200000
def State.rgnSize (s : State) (d : Nat) : Nat := s.fget (R.RMM_RGN_BASE.size_2m d) * 0x200000
def State.rgnOn (s : State) (d : Nat) : Bool := s.fon (R.RMM_RGN_CFG.enable d)
def State.rgnEpoch (s : State) (d : Nat) : Bool := s.fon (R.RMM_RGN_CFG.cls d)
def State.rgnBeacon (s : State) (d : Nat) : Bool := s.fget (R.RMM_RGN_CFG.backing d) == 2
def State.rgnPart (s : State) (d : Nat) : Nat := s.fget (R.RMM_RGN_CFG.partition d)

/-- Transit number of the step (R69). -/
def State.transitNo (s : State) : Nat := s.fget R.TRN_NUMBER.transit

/-! Checks at the target (R318, R324, R344, R346, R348, R384). -/

/-- A response leaves on VC2. -/
def State.respond (s : State) (q : RackReq) (status : Nat) (bytes : List Byte) (flags : Nat) : State :=
  s.emit (.rackResp q.src q.id status bytes flags)

/-- The key in force, or until two transits after a commit the one it replaced (R346). -/
def State.keyMatches (s : State) (d key : Nat) : Bool :=
  key == s.fget (R.RMM_RGN_KEY.key d) ||
    s.oldKeys.any (fun e => e.1 == d && e.2.1 == key && decide (s.transitNo ≤ e.2.2))

/-- A source LDN that the policer has blocked (R384). -/
def State.blockedSrc (s : State) (ldn : Nat) : Bool := decide (ldn < 144) && bit (s.reg (A.SCP_BLOCK (ldn / 64))).toNat (ldn % 64)

/-- The key check: in twilight only authenticated service requests pass, and no key is compared (R348). -/
def State.keyPasses (s : State) (q : RackReq) : Bool :=
  !s.blockedSrc q.src && (if s.twilight then q.service && q.authed else s.keyMatches q.desc q.key)

/-- Status with which a request ends before it has an effect; 0 for none. -/
def State.targetStatus (s : State) (q : RackReq) : Nat :=
  if 4096 ≤ q.desc ∨ !s.rgnOn q.desc then stFaultAddr
  else if !s.keyPasses q then stKeyFault
  else if s.rgnSize q.desc ≤ q.off then stFaultAddr
  else 0

/-- A request that fails its checks: a KEY_FAULT is counted and logged (R344). -/
def State.refuseReq (s : State) (q : RackReq) (status : Nat) : State :=
  let s1 := if status = stKeyFault then (s.finc (R.RMM_RGN_CNT.key_faults q.desc) 1).reportOpen srcPackage codeKeyFault 0 else s
  s1.respond q status [] 0

/-- A request that passes its checks. -/
def State.atTarget (s : State) (q : RackReq) (go : State) : State :=
  if s.targetStatus q ≠ 0 then s.refuseReq q (s.targetStatus q) else go

/-- A request is served: counted, and its home has applied an operation (R337). -/
def State.served (s : State) (d m : Nat) : State :=
  { s.fincSat (R.RMM_RGN_CNT.accesses d) 1 with homeLast := assocSet (fun _ => 0) s.homeLast m s.clock }

/-- Backing location of a byte of a region. -/
def State.rgnLoc (s : State) (d off : Nat) : Option Loc := s.reach (some (s.rgnPart d)) (s.rgnBase d + off)

/-- 1 to 64 bytes within one line (R325). -/
def inLine (off len : Nat) : Bool := decide (0 < len) && decide (off % 64 + len ≤ 64)

/-! Epoch regions (R329 to R334). -/

/-- The transit a home counts as fired. -/
def State.homeT (s : State) (m : Nat) : Nat := assocGet (fun _ => 0) s.homeTransit m

/-- An entry reaches the backing. -/
def State.drainEntry (s : State) (e : EpochEntry) : State :=
  let put := fun (t : State) (i : Nat) => if e.mask.getD i false then t.write (64 * e.line + i) [e.data.getD i 0] else t
  let s1 := (List.range 64).foldl put s
  let s2 := if e.mask.all id then s1.clearPoison (64 * e.line) 64 else s1
  (s2.setDirLine e.line .none).writeBack e.line

/-- Published entries reach the backing and are freed. -/
def State.drainPublished (s : State) (m : Nat) : State :=
  let pub := fun (e : EpochEntry) => decide (e.tag < s.homeT m)
  let s1 := ((s.ewtOf m).filter pub).foldl State.drainEntry s
  s1.setEwtOf m ((s.ewtOf m).filter (fun e => !pub e))

/-- A home counts transit `n` as fired (R332). Entries published before are in the backing by then (log 18). -/
def State.homeFires (s : State) (m n : Nat) : State :=
  if n ≤ s.homeT m then s
  else
    let s1 := s.drainPublished m
    { s1 with homeTransit := assocSet (fun _ => 0) s1.homeTransit m n }

/-- Merge bytes at an offset of a line under a mask. -/
def mergeLine (mask : List Bool) (data base : List Byte) : List Byte :=
  (List.range base.length).map (fun i => if mask.getD i false then data.getD i 0 else base.getD i 0)

/-- Bytes of a line as a read that carries transit `t` sees them: entries published up to it over the backing (R331,
R332). -/
def State.epochLine (s : State) (m line t : Nat) : List Byte :=
  ((s.ewtOf m).filter (fun e => e.line == line && decide (e.tag < t))).foldl (fun b e => mergeLine e.mask e.data b)
    (s.bytes (64 * line) 64)

/-- A new entry of the epoch write table. -/
def EpochEntry.put (e : EpochEntry) (off : Nat) (bs : List Byte) : EpochEntry :=
  { e with data := putBytes e.data off bs,
           mask := (List.range 64).map (fun i => e.mask.getD i false || (decide (off ≤ i) && decide (i < off + bs.length))) }

/-- An epoch write at its home (R330, R334): it merges, allocates, or waits while the table holds unpublished entries
only; none where it waits. -/
def State.epochPut (s : State) (m line off : Nat) (bs : List Byte) : Option State :=
  let t := s.homeT m
  let mine := fun (e : EpochEntry) => e.line == line && e.tag == t
  if (s.ewtOf m).any mine then some (s.setEwtOf m ((s.ewtOf m).map (fun e => if mine e then e.put off bs else e)))
  else
    let s1 := if 65536 ≤ (s.ewtOf m).length then s.drainPublished m else s
    if 65536 ≤ (s1.ewtOf m).length then none
    else
      let new : EpochEntry := { line := line, mask := List.replicate 64 false, data := List.replicate 64 0, tag := t }
      some (s1.setEwtOf m (s1.ewtOf m ++ [new.put off bs]))

/-! Loads and stores at the home. -/

/-- A read of the beacon window is an 8 B load of a beacon's first word (R427). -/
def State.beaconLoad (s : State) (q : RackReq) : State :=
  let b := q.off / 0x80
  let bc := s.beacon b
  let w := if s.mayUse q.who bc then q.who else
    (match s.ownerOf q.who with | (l, u, t, pf) => Who.peer l u t pf)
  let a : Answer := .rack q.src q.id true
  if q.off % 0x80 = 0 ∧ q.len = 8 ∧ bc.partition = s.rgnPart q.desc then (s.fincSat (R.RMM_RGN_CNT.accesses q.desc) 1).bcnRead w a b
  else s.refuseBeacon w a

/-- A load at its home. A poisoned word ends it as CHECK_FAIL, with no byte (log 17). -/
def State.homeLoad (s : State) (q : RackReq) : State :=
  if s.rgnBeacon q.desc then s.beaconLoad q
  else if !inLine q.off q.len then s.respond q stFaultAddr [] 0
  else
    match s.rgnLoc q.desc q.off with
    | none => (s.reportHeld (s.rgnBase q.desc + q.off)).respond q stFaultAddr [] 0
    | some l =>
      let m := l.home.getD 0
      let s1 := if s.rgnEpoch q.desc then s.homeFires m q.transit else s
      let s2 := ((s1.readLine l 0).correctAt l q.len).served q.desc m
      if s1.poisonAt l q.len then s2.respond q stCheckFail [] 0
      else
        let line := if s1.rgnEpoch q.desc then s1.epochLine m l.line q.transit else s1.bytes (64 * l.line) 64
        s2.respond q stDone ((line.drop (q.off % 64)).take q.len) 0

/-- A store at its home: live regions take it at once, through the write-combining buffer where it is less than a line
(R325); epoch regions hold it in their table (R330). A beacon window takes atomics only. -/
def State.homeStore (s : State) (q : RackReq) (data : List Byte) : State :=
  if s.rgnBeacon q.desc ∨ !inLine q.off q.len ∨ data.length ≠ q.len then s.respond q stFaultAddr [] 0
  else
    match s.rgnLoc q.desc q.off with
    | none => (s.reportHeld (s.rgnBase q.desc + q.off)).respond q stFaultAddr [] 0
    | some l =>
      let m := l.home.getD 0
      if s.rgnEpoch q.desc then
        let s1 := s.homeFires m q.transit
        match s1.epochPut m l.line (q.off % 64) data with
        | some s2 => (s2.served q.desc m).respond q stDone [] 0
        | none => s1
      else ((s.storePa (s.rgnBase q.desc + q.off) data).served q.desc m).respond q stDone [] 0

def execRackLoad (req : RackReq) (s : State) : Res := .next (s.atTarget req (s.homeLoad req))

def execRackStore (req : RackReq) (data : List Byte) (s : State) : Res := .next (s.atTarget req (s.homeStore req data))

def execEpochWrite (req : RackReq) (data : List Byte) (s : State) : Res := .next (s.atTarget req (s.homeStore req data))

def execEpochRead (req : RackReq) (s : State) : Res := .next (s.atTarget req (s.homeLoad req))

/-! Atomics (R326, R327). -/

/-- Sizes an atomic has. -/
def atomicSizes (base : Nat) : List Nat :=
  match base with
  | 0x02 => [4]
  | 0x03 => [8]
  | _ => if 1 ≤ base ∧ base ≤ 0x0E then [4, 8] else []

/-- It returns the old value: a fetch form, SWAP or CAS. -/
def atomicFetch (op : Nat) : Bool := decide (0x80 ≤ op) || op % 128 == 7 || op % 128 == 8

/-- The flags of a floating-point atomic, as R321 places them from bit 8 of the status. -/
def atomicFlags (f : Flags) : Nat := f.invalid.toNat + 2 * f.overflow.toNat + 4 * f.inexact.toNat

/-- New value of an atomic of `n` bytes: operation, old value, operand, compare value. -/
def atomicValue (base n old operand compare : Nat) : Nat × Flags :=
  let w := 8 * n
  let m := 2 ^ w
  let a := old % m
  let b := operand % m
  let sa := signedOf w a
  let sb := signedOf w b
  let code := if n = 4 then 1 else 0
  let fp := fun (r : FpNum × Flags) => let d := deliver code .rne false false r.1; (d.1, r.2.or d.2)
  match base with
  | 0x01 => ((a + b) % m, .zero)
  | 0x02 => fp (FpNum.add false (decodeNum code a) (decodeNum code b))
  | 0x03 => fp (FpNum.add false (decodeNum code a) (decodeNum code b))
  | 0x04 => (a &&& b, .zero)
  | 0x05 => (a ||| b, .zero)
  | 0x06 => (a ^^^ b, .zero)
  | 0x07 => (b, .zero)
  | 0x08 => (if a = compare % m then b else a, .zero)
  | 0x09 => (if sa < sb then b else a, .zero)
  | 0x0A => (if sb < sa then b else a, .zero)
  | 0x0B => (Nat.max a b, .zero)
  | 0x0C => (Nat.min a b, .zero)
  | 0x0D => fp (minMax true (decodeNum code a) (decodeNum code b))
  | _ => fp (minMax false (decodeNum code a) (decodeNum code b))

/-- An atomic on a beacon window (R427). -/
def State.beaconAtomic (s : State) (q : RackReq) (op : Nat) (operand compare : Word) : State :=
  let b := q.off / 0x80
  let bc := s.beacon b
  let w := if s.mayUse q.who bc then q.who else
    (match s.ownerOf q.who with | (l, u, t, pf) => Who.peer l u t pf)
  let a : Answer := .rack q.src q.id (atomicFetch op)
  let s1 := s.fincSat (R.RMM_RGN_CNT.accesses q.desc) 1
  if q.len ≠ 8 ∨ bc.partition ≠ s.rgnPart q.desc then s.refuseBeacon w a
  else
    match q.off % 0x80, op % 128 with
    | 0x00, 0x01 => s1.bcnAdd w a b operand
    | 0x00, 0x07 => s1.bcnSet w a b operand
    | 0x00, 0x08 => s1.bcnCas w a b operand compare
    | 0x08, 0x01 => if 0x80 ≤ op then s1.bcnWait w a b 0 operand else s.refuseBeacon w a
    | 0x10, 0x07 => s1.bcnArm w a b operand
    | 0x18, 0x07 => s1.bcnAcquire w a b (operand.toNat % 8)
    | 0x20, 0x07 => s1.bcnRelease w a b
    | 0x28, 0x07 => s1.bcnReprio w a b (operand.toNat % 8)
    | _, _ => s.refuseBeacon w a

/-- The home has changed a line itself: other copies go, and the line is dirty in its cache-mode unit or on its way to
the channel (R290, R294). -/
def State.updateLine (s : State) (l : Loc) : State :=
  if s.cacheable l then s.setDirLine l.line { DirLine.none with cached := true, dirty := true }
  else (s.setDirLine l.line .none).writeBack l.line

/-- An atomic at its home. -/
def State.homeAtomic (s : State) (q : RackReq) (op : Nat) (operand compare : Word) : State :=
  let base := op % 128
  if s.rgnBeacon q.desc then s.beaconAtomic q op operand compare
  else if !(atomicSizes base).contains q.len ∨ q.off % q.len ≠ 0 ∨ s.rgnEpoch q.desc then s.respond q stFaultAddr [] 0
  else
    match s.rgnLoc q.desc q.off with
    | none => (s.reportHeld (s.rgnBase q.desc + q.off)).respond q stFaultAddr [] 0
    | some l =>
      let m := l.home.getD 0
      let s1 := (((s.drainLine m l.line).readLine l 0).correctAt l q.len).served q.desc m
      if s.poisonAt l q.len then s1.respond q stCheckFail [] 0
      else
        let old := s.bytes l.key q.len
        let r := atomicValue base q.len (leNat old) operand.toNat compare.toNat
        ((s1.write l.key (leBytes q.len r.1)).updateLine l).respond q stDone
          (if atomicFetch op then old else []) (atomicFlags r.2)

/-- An atomic of one row of R326. -/
def State.rackAtomic (s : State) (base : Nat) (q : RackReq) (op : Nat) (operand compare : Word) : Res :=
  whenever (decide (op < 256) && op % 128 == base) (s.atTarget q (s.homeAtomic q op operand compare)) s

def execAdd (req : RackReq) (op : Nat) (operand compare : Word) (s : State) : Res := s.rackAtomic 0x01 req op operand compare
def execFadd32 (req : RackReq) (op : Nat) (operand compare : Word) (s : State) : Res := s.rackAtomic 0x02 req op operand compare
def execFadd64 (req : RackReq) (op : Nat) (operand compare : Word) (s : State) : Res := s.rackAtomic 0x03 req op operand compare
def execAnd (req : RackReq) (op : Nat) (operand compare : Word) (s : State) : Res := s.rackAtomic 0x04 req op operand compare
def execOr (req : RackReq) (op : Nat) (operand compare : Word) (s : State) : Res := s.rackAtomic 0x05 req op operand compare
def execXor (req : RackReq) (op : Nat) (operand compare : Word) (s : State) : Res := s.rackAtomic 0x06 req op operand compare
def execSwapAtomic (req : RackReq) (op : Nat) (operand compare : Word) (s : State) : Res :=
  s.rackAtomic 0x07 req op operand compare
def execCas (req : RackReq) (op : Nat) (operand compare : Word) (s : State) : Res := s.rackAtomic 0x08 req op operand compare
def execMax (req : RackReq) (op : Nat) (operand compare : Word) (s : State) : Res := s.rackAtomic 0x09 req op operand compare
def execMin (req : RackReq) (op : Nat) (operand compare : Word) (s : State) : Res := s.rackAtomic 0x0A req op operand compare
def execMaxUnsigned (req : RackReq) (op : Nat) (operand compare : Word) (s : State) : Res :=
  s.rackAtomic 0x0B req op operand compare
def execMinUnsigned (req : RackReq) (op : Nat) (operand compare : Word) (s : State) : Res :=
  s.rackAtomic 0x0C req op operand compare
def execFmax (req : RackReq) (op : Nat) (operand compare : Word) (s : State) : Res := s.rackAtomic 0x0D req op operand compare
def execFmin (req : RackReq) (op : Nat) (operand compare : Word) (s : State) : Res := s.rackAtomic 0x0E req op operand compare

/-! The atomic command of R321, from a core's port or a ring. -/

def acOp (c : List Byte) : Nat := leAt c 0 1
def acSize (c : List Byte) : Nat := leAt c 1 1
def acAddr (c : List Byte) : Nat := leAt c 8 8

/-- The command names an operation, a size of it, and an aligned address (R327). -/
def acOk (c : List Byte) : Bool :=
  (atomicSizes (acOp c % 128)).contains (acSize c) && acAddr c % acSize c == 0

/-- Issue the command: it ends at once where it is malformed (R327). -/
def State.issueAtomic (s : State) (c : List Byte) (part : Option Nat) (core : Option CoreId) (mover : Option (Mover × Nat × Nat)) :
    State × Issue :=
  if !acOk c then (s, .ended stFaultAddr)
  else s.rackIssue (askAt (acAddr c) (acSize c) (if atomicFetch (acOp c) then 3 else 2) part core mover c)

/-- The store that completes the command of a core's atomic port (R321); none while the store must wait. -/
def State.portIssue (s : State) (u : CoreId) (compare : Word) : Option State :=
  if (s.jumbe u).portBusy then none
  else
    let c := (s.jumbe u).portCmd.take 0x18 ++ leBytes 8 compare.toNat
    let put := fun (t : State) (f : Jumbe → Jumbe) => t.onJumbe u (fun j => f { j with portCmd := c })
    let p : Posted := { addr := acAddr c, req := none, status := none, lines := [] }
    match s.issueAtomic c (s.partOfCoreId u) (some u) none with
    | (t, .sent id) => some (put t (fun j => { j with portBusy := true, posted := j.posted ++ [{ p with req := some id }] }))
    | (t, .ended st) =>
      some (put t (fun j => { j with portStatus := BitVec.ofNat 64 st,
                                     posted := if st = stFaultAddr then j.posted else j.posted ++ [{ p with status := some st }] }))
    | (_, .wait) => none

/-- ATOMIC_PORT_ISSUE. -/
def execAtomicPortIssue (u : CoreId) (compare : Word) (s : State) : Res :=
  if !s.coreOn u then .next s
  else match s.portIssue u compare with | some t => .next (t.stepPc u) | none => .next s

/-- ATOMIC_PORT_RESULT: the load of the old value waits for the command (R321). -/
def execAtomicPortResult (u : CoreId) (xd : Nat) (s : State) : Res :=
  whenever (s.coreOn u && !(s.jumbe u).portBusy) (s.retireInstr u (fun j => j.setX xd j.portOld)) s

/-! Responses and dead targets (R333, R337 to R340, R343, R344). -/

/-- A P-core's cache takes what a read response of the present transit brings from an epoch region (R320, R333). -/
def State.cacheEpoch (s : State) (r : RackOut) (status : Nat) (data : List Byte) (transit : Option Nat) : State :=
  match r.core with
  | some (.pc _) =>
    if r.kind = 0 ∧ r.epoch ∧ status = stDone ∧ transit = some s.transitNo then
      { s with epochCache := (r.dst * 2 ^ 56 + r.desc * 2 ^ 44 + r.off, s.gen, data) :: s.epochCache }
    else s
  | _ => s

/-- RACK_RESPONSE: `status` is laid out as the status word of R321; `transit` is the number an epoch read's response
carries. -/
def execRackResponse (id status : Nat) (data : List Byte) (transit : Option Nat) (s : State) : Res :=
  match s.req id with
  | none => .next (s.fincSat R.RMM_FAULT_CNT.late_responses 1)
  | some r =>
    let st := status % 256
    if r.kind = 4 then .next s
    else
      let s1 := if st = stKeyFault then s.countKey else s
      .next ((s1.cacheEpoch r st data transit).endReq id st (status / 256) data)

/-- REQUEST_TIMER_EXPIRY: a liveness query leaves on VC0. -/
def execRequestTimerExpiry (id : Nat) (s : State) : Res :=
  match s.req id with
  | some r =>
    if r.querying then .next s
    else .next ((s.setReq id (some { r with querying := true })).emit (.liveness r.dst id none))
  | none => .next s

/-- The home has nothing that waits: its epoch write table takes another write. -/
def State.homeIdle (s : State) (m : Nat) : Bool :=
  decide ((s.ewtOf m).length < 65536) || (s.ewtOf m).any (fun e => decide (e.tag < s.homeT m))

/-- A direct neighbour that speaks protocol version 3 (R388). -/
def State.speaksV3 (s : State) (ldn : Nat) : Bool :=
  (List.range 64).any (fun n => s.fget (R.SCP_PORT_PEER.peer_ldn n) == ldn && s.fget (R.SCP_PORT_STATUS.version n) == 3)

/-- LIVENESS_QUERY: ALIVE when the home has applied an operation within the region's timeout, or is idle; else STALLED,
which a version 3 peer is not told (R337, R388). -/
def execLivenessQuery (src id m d now : Nat) (s : State) : Res :=
  let s1 := s.advance now
  if !(decide (m < 8) && decide (d < 4096)) then .next s
  else
    let recent := decide (s1.clock ≤ assocGet (fun _ => 0) s1.homeLast m + 1000 * s1.fget (R.RMM_RGN_CFG.timeout_us d))
    if s1.homeIdle m || recent then .next (s1.emit (.liveness src id (some true)))
    else if s1.speaksV3 src then .next s1
    else .next (s1.emit (.liveness src id (some false)))

/-- REQUEST_TOTAL_TIMEOUT (R338). -/
def execRequestTotalTimeout (id : Nat) (s : State) : Res :=
  match s.req id with
  | some _ => .next (s.countTimeout.endReq id stTimeout 0 [])
  | none => .next s

/-! Region descriptors (R322, R323). -/

/-- The part of partition `p` in the backing of a descriptor: a map entry of it, or scratchpad units of it. -/
def State.backingOk (s : State) (d p : Nat) : Bool :=
  let base := s.rgnBase d
  let size := s.rgnSize d
  match s.fget (R.RMM_RGN_CFG.backing d) with
  | 0 =>
    (List.range 64).any (fun r =>
      let mb := gddrBase + s.fget (R.GDM_MAP_BASE.base_2m r) * 0x200000
      s.fon (R.GDM_MAP_CTL.enable r) && decide (mb ≤ base) &&
        decide (base + size ≤ mb + s.fget (R.GDM_MAP_BASE.size_2m r) * 0x200000) &&
        s.partOfChan ((bitsOf 64 (s.fget (R.GDM_MAP_CHAN.channel_mask r))).headD 64) == some p)
  | 1 =>
    decide (llmBase 0 ≤ base) && decide (base + size ≤ llmBase 64) &&
      (List.range 64).all (fun u => !meets base size (llmBase u) 0x2000000 ||
        (s.partOfLlm u == some p && !s.llmCached u && s.llmUp u))
  | 2 => !s.rgnEpoch d && s.fget (R.RMM_RGN_BASE.size_2m d) == 1
  | _ => false

/-- No other enabled descriptor overlaps the backing; two windows onto the same beacons overlap. -/
def State.backingFree (s : State) (d p : Nat) : Bool :=
  (List.range 4096).all (fun e =>
    e == d || !s.rgnOn e ||
      (if s.rgnBeacon d || s.rgnBeacon e then !(s.rgnBeacon d && s.rgnBeacon e && s.rgnPart e == p)
       else !meets (s.rgnBase d) (s.rgnSize d) (s.rgnBase e) (s.rgnSize e)))

/-- Interleave shown after validation (R322). -/
def State.rgnInterleave (s : State) (d : Nat) : Nat :=
  match s.fget (R.RMM_RGN_CFG.backing d) with
  | 0 =>
    (match (List.range 64).find? (fun r => s.fon (R.GDM_MAP_CTL.enable r) && s.backedBy d r) with
     | some r => s.fget (R.GDM_MAP_CTL.interleave r)
     | none => 0)
  | 1 => 4
  | _ => 5

def State.rgnValid (s : State) (d : Nat) : Bool :=
  match s.partOfDesc d with
  | some p =>
    decide (1 ≤ s.fget (R.RMM_RGN_BASE.size_2m d)) && decide (s.fget (R.RMM_RGN_BASE.size_2m d) ≤ 184320) &&
      s.backingOk d p && s.backingFree d p
  | none => false

/-- PF0, PF2 and management messages write the key, outbound-table, LDN and route registers (R349, R395). -/
def fabricRights (fn : Fn) : Bool := decide (fn = .pf 0 ∨ fn = .pf 2 ∨ fn = .mgmt)

/-- REGION_ENABLE_WRITE: a write of RMM_RGN_CFG[d]. While the descriptor is enabled only enable and next_valid are
written; next_valid is a key field, which PF1 does not write, and the one field that PF2 and messages do (R349, R451,
R581). -/
def execRegionEnableWrite (fn : Fn) (d : Nat) (value : Word) (s : State) : Res :=
  if fn ≠ .pf 1 ∧ !fabricRights fn then .next (s.refuseWrite fn (A.RMM_RGN_CFG d) true true)
  else if !(decide (d < 4096)) then .next s
  else
    let on := s.rgnOn d
    let s1 := if fabricRights fn then s.fset (R.RMM_RGN_CFG.next_valid d) (getField value 12 1) else s
    if fn = .pf 2 ∨ fn = .mgmt then .next s1
    else if on then .next (if getField value 0 1 = 0 then s1.fset (R.RMM_RGN_CFG.enable d) 0 else s1)
    else
      let t := getField value 16 9
      let s2 := (s1.fset (R.RMM_RGN_CFG.cls d) (getField value 1 1)).fset (R.RMM_RGN_CFG.backing d) (getField value 2 2)
      let s3 := if 2 ≤ t ∧ t ≤ 500 then s2.fset (R.RMM_RGN_CFG.timeout_us d) t else s2
      let s4 := if getField value 7 1 = 1 then s3.fset (R.RMM_RGN_CFG.rgn_err d) 0 else s3
      if getField value 0 1 = 0 then .next s4
      else if s4.rgnValid d then
        .next ((s4.fset (R.RMM_RGN_CFG.interleave d) (s4.rgnInterleave d)).fset (R.RMM_RGN_CFG.enable d) 1)
      else .next (s4.fset (R.RMM_RGN_CFG.rgn_err d) 1)

/-! Keys and twilight (R345 to R349). -/

/-- A commit for transit `t` is refused when it has fired or is next (R346, R393, R398). -/
def State.tooSoon (s : State) (t : Nat) : Bool := decide (t ≤ s.transitNo + 1)

/-- KEY_COMMIT; written with cancel, cancel governs. -/
def execKeyCommit (fn : Fn) (cancel : Bool) (s : State) : Res :=
  if !fabricRights fn then .next (s.refuseWrite fn A.RMM_KEY_CMD true true)
  else if cancel then .next (s.fset R.RMM_STATUS.commit_pending 0)
  else if s.tooSoon (s.fget R.RMM_KEY_AT.at_transit) then .next (s.fset R.RMM_STATUS.commit_err 1)
  else .next (s.fset R.RMM_STATUS.commit_pending 1)

def execKeyCancel (fn : Fn) (s : State) : Res :=
  if !fabricRights fn then .next (s.refuseWrite fn A.RMM_KEY_CMD true true)
  else .next (s.fset R.RMM_STATUS.commit_pending 0)

/-- RMM_TWILIGHT_ENTER: PF0 or a management message (R347, R349). -/
def execRmmTwilightEnter (fn : Fn) (s : State) : Res :=
  if fn ≠ .pf 0 ∧ fn ≠ .mgmt then .next (s.refuseWrite fn A.RMM_CTL true true)
  else .next { s with twilightArm := true }

/-- OKT_STORE: both words of the selected entry are stored in every F-die. -/
def execOktStore (fn : Fn) (value : Word) (s : State) : Res :=
  if !fabricRights fn then .next (s.refuseWrite fn A.RMM_OKT_DATA1 true true)
  else
    let l := s.fget R.RMM_OKT_ADDR.ldn
    -- the entry's bits above 90 are rsv (R345)
    let s1 := s.setReg A.RMM_OKT_DATA1 (BitVec.ofNat 64 (value.toNat % 2 ^ 27))
    .next (if l < 144 then
      s1.setOktOf (l * 4096 + s.fget R.RMM_OKT_ADDR.desc)
        (BitVec.ofNat 128 ((s.reg A.RMM_OKT_DATA0).toNat + value.toNat % 2 ^ 27 * 2 ^ 64))
      else s1)

/-- KEY_INSTALL: at the commit transit staged keys take force, and twilight ends (R346). -/
def State.installKeys (s : State) (n : Nat) : State :=
  let ds := (List.range 4096).filter (fun d => s.fon (R.RMM_RGN_CFG.next_valid d))
  let s1 := ds.foldl (fun s d =>
    let old := s.fget (R.RMM_RGN_KEY.key d)
    let s1 := (s.fset (R.RMM_RGN_KEY.key d) (s.fget (R.RMM_RGN_KEY.key_next d))).fset (R.RMM_RGN_CFG.next_valid d) 0
    { s1 with oldKeys := (d, old, n + 1) :: s1.oldKeys }) s
  let s2 := s1.okt.foldl (fun s e =>
    let v := e.2.toNat
    if bit v 65 then
      s.setOktOf e.1 (BitVec.ofNat 128 (v / 2 ^ 66 * 2 ^ 66 + fld v 64 1 * 2 ^ 64 + fld v 32 32 * 2 ^ 32 + fld v 32 32))
    else s) s1
  ((s2.fset R.RMM_STATUS.keys_installed 1).fset R.RMM_STATUS.twilight 0).fset R.RMM_STATUS.commit_pending 0

end Sys2Proof.Machine
end

