-- ==== Sys2Proof/Machine/Transcend.lean ====
section
/-! DEFINITION. The transcendental functions of R201 to some 600 bits, in fixed point: what a result may be is every value of
its format within the rule's bound of the exact one. The series are the textbook ones; their error lies hundreds of
bits below any ulp the bound counts. -/
namespace Sys2Proof.Machine

/-- Fraction bits of the fixed-point values. -/
def fxBits : Nat := 640
def fxOne : Int := 2 ^ fxBits
def fxMul (a b : Int) : Int := a * b / fxOne
def fxDiv (a b : Int) : Int := a * fxOne / b

/-- A finite number in fixed point. -/
def fxOf (x : FpNum) : Int :=
  match x with
  | .fin n m e =>
    let sh := e + fxBits
    let v : Int := if 0 ≤ sh then (m * 2 ^ sh.toNat : Nat) else (m / 2 ^ (-sh).toNat : Nat)
    if n then -v else v
  | _ => 0

/-- The sum of a series by its first term and its step: the next term from the number of the last and the last. -/
def fxSeries (fuel : Nat) (k : Nat) (term : Int) (next : Nat → Int → Int) (weigh : Nat → Int → Int) (acc : Int) : Int :=
  match fuel with
  | 0 => acc
  | n + 1 => fxSeries n (k + 1) (next k term) next weigh (acc + weigh k term)

def plain (_ : Nat) (t : Int) : Int := t

/-- e^t: the series at t / 2^16, squared 16 times. -/
def fxExp (t : Int) : Int :=
  let r := t / 2 ^ 16
  let y := fxSeries 90 0 fxOne (fun k x => fxMul x r / (k + 1)) plain 0
  (List.range 16).foldl (fun y _ => fxMul y y) y

/-- The area hyperbolic tangent of z, for z up to 1/3. -/
def fxAtanh (z : Int) : Int :=
  let z2 := fxMul z z
  fxSeries 220 0 z (fun _ x => fxMul x z2) (fun k x => x / (2 * k + 1)) 0

def fxLn2 : Int := 2 * fxAtanh (fxOne / 3)

/-- The arc tangent of 1 / n. -/
def fxAtanInv (n : Nat) : Int :=
  fxSeries 150 0 (fxOne / n) (fun _ x => -(x / (n * n))) (fun k x => x / (2 * k + 1)) 0

/-- pi, by Machin's formula. -/
def fxPi : Int := 16 * fxAtanInv 5 - 4 * fxAtanInv 239

/-- Natural logarithm of m x 2^e, m above 0. -/
def fxLog (m : Nat) (e : Int) : Int :=
  let t := m.log2
  let y : Int := (m * 2 ^ fxBits / 2 ^ t : Nat)
  2 * fxAtanh (fxDiv (y - fxOne) (y + fxOne)) + (e + t) * fxLn2

def fxSin (r : Int) : Int :=
  let r2 := fxMul r r
  fxSeries 90 0 r (fun k x => -(fxMul x r2) / ((2 * k + 2) * (2 * k + 3))) plain 0

def fxCos (r : Int) : Int :=
  let r2 := fxMul r r
  fxSeries 90 0 fxOne (fun k x => -(fxMul x r2) / ((2 * k + 1) * (2 * k + 2))) plain 0

/-- sin or cos, the argument reduced by whole quarter turns (R201). -/
def fxCircle (cos : Bool) (x : Int) : Int :=
  let half := fxPi / 2
  let k := (2 * x + half) / (2 * half)
  let r := x - k * half
  match ((k + (if cos then 1 else 0)) % 4).toNat with
  | 0 => fxSin r
  | 1 => fxCos r
  | 2 => -(fxSin r)
  | _ => -(fxCos r)

/-- The error function, for |x| up to 10. -/
def fxErf (x : Int) : Int :=
  let x2 := fxMul x x
  let s := fxSeries 560 0 x (fun k t => -(fxMul t x2) / (k + 1)) (fun k t => t / (2 * k + 1)) 0
  let rootPi : Int := (FpNum.isqrt (fxPi * fxOne).toNat : Nat)
  fxDiv (2 * s) rootPi

/-- A value that no bound of R201 tells from its limit. -/
def fxTiny : Int := 2 ^ (fxBits - 400)

/-- The function `fn` of R201's table at a finite number it does not give a special result for. Arguments so large that the
result lies beyond every format, or within a fraction of an ulp of its limit, are answered by that. -/
def fxFunc (fn : Nat) (x : FpNum) : Int :=
  match x with
  | .fin n m e =>
    let big := decide (m ≠ 0) && decide (8 ≤ (m.log2 : Int) + e)
    let v := fxOf x
    let expOf := fun (t : Int) => if big then (if n then fxTiny else 2 ^ (fxBits + 400)) else fxExp t
    match fn with
    | 0 => expOf v
    | 1 => expOf (fxMul v fxLn2)
    | 2 => fxLog m e
    | 3 => fxDiv (fxLog m e) fxLn2
    | 4 =>
      let sh := 2 * (fxBits : Int) - e
      (FpNum.isqrt ((2 ^ sh.toNat) / m) : Nat)
    | 5 => let r : Int := (2 ^ ((fxBits : Int) - e).toNat / m : Nat); if n then -r else r
    | 6 =>
      let a := if n then -v else v
      let r := if big then fxOne - fxTiny else (let y := fxExp (2 * a); fxDiv (y - fxOne) (y + fxOne))
      if n then -r else r
    | 7 => if big then (if n then fxTiny else fxOne - fxTiny) else fxDiv fxOne (fxOne + fxExp (-v))
    | 8 =>
      let a := if n then -v else v
      let r := if 10 * fxOne < a then fxOne - fxTiny else fxErf a
      if n then -r else r
    | 9 => fxCircle false v
    | _ => fxCircle true v
  | _ => 0

/-- The exact result is a number of the fixed-point grid, and `fxFunc` gives it exactly or next to it. -/
def fxExact (fn : Nat) (x : FpNum) : Bool :=
  match x with
  | .fin _ m e =>
    let pow2 := m == 2 ^ m.log2
    match fn with
    | 1 => m == 0 || decide (0 ≤ e) || m % 2 ^ (-e).toNat == 0
    | 2 => pow2 && decide ((m.log2 : Int) + e = 0)
    | 3 => pow2
    | 4 => pow2 && decide (((m.log2 : Int) + e) % 2 = 0)
    | 5 => pow2
    | _ => m == 0
  | _ => false

/-- The results that R201's bound of `k` ulp allows in a format for an exact value: multiples of the exact result's ulp, which
has exponent `u`. -/
def fxNear (f : FpFmt) (v : Int) (k : Nat) : Int × List Nat :=
  let a := v.natAbs
  let e := (a.log2 : Int) - fxBits
  let u := (if e < f.emin then f.emin else e) - f.mb
  let unit := 2 ^ (u + fxBits).toNat
  let q := a / unit
  -- a grid of the fixed point beside the bound absorbs the series' own error
  let slack := 2 ^ (fxBits - 500)
  let near := (List.range (2 * k + 2)).filterMap (fun i =>
    let c := q + 1 + i - (k + 1)
    let d := if c * unit < a then a - c * unit else c * unit - a
    if q + 1 + i < k + 1 ∨ k * unit + slack < d then none else some c)
  (u, near)

end Sys2Proof.Machine
end

