-- ==== Sys2Proof/Machine/Reduce.lean ====
section
/-! DEFINITION. The reduction unit (R204 to R209), the pairwise tree (R208) and the transcendental functions' special
results (R201): arithmetic on elements, apart from the registers that hold them. -/
namespace Sys2Proof.Machine

/-- Sum of two FP32 or FP64 values rounded once (R208). -/
def addFp (code : Nat) (mode : RMode) (x y : Nat) : Nat × Flags :=
  let r := FpNum.add (mode == .rdn) (decodeNum code x) (decodeNum code y)
  let d := deliver code mode false false r.1
  (d.1, d.2.or r.2)

/-- One level of the pairwise tree: absent + x = x (R208). -/
def treeLevel (code : Nat) (mode : RMode) (l : List (Option Nat)) : List (Option Nat) × Flags :=
  match l with
  | a :: b :: rest =>
    let r := treeLevel code mode rest
    (match a, b with
     | some x, some y => let d := addFp code mode x y; (some d.1 :: r.1, d.2.or r.2)
     | some x, none => (some x :: r.1, r.2)
     | none, y => (y :: r.1, r.2))
  | [a] => ([a], .zero)
  | [] => ([], .zero)

/-- The pairwise tree over leaves, `levels` deep: its root. -/
def treeSum (code : Nat) (mode : RMode) (levels : Nat) (l : List (Option Nat)) : Option Nat × Flags :=
  match levels with
  | 0 => ((l.head?).join, .zero)
  | n + 1 =>
    let r := treeLevel code mode l
    let t := treeSum code mode n r.1
    (t.1, r.2.or t.2)

/-- Formats of floating point. -/
def isFloat (code : Nat) : Bool := (fpFmt code).isSome

/-- A slot emptied: it keeps what kind of tap filled it (R204, R209). -/
def RedSlot.emptied (r : RedSlot) : RedSlot :=
  { RedSlot.empty with op := r.op, fmt := r.fmt, exact := r.exact }

/-- Which accumulation a tap feeds: an integer sum, an exact sum in a narrow or a wide entry, a fast sum, or an extremum
of floating-point or integer elements (R205 to R208). -/
def tapKind (op fmt : Nat) (exact : Bool) : Nat :=
  if op = 1 ∨ op = 6 then (if !isFloat fmt then 1 else if !exact then 4 else if fmt = 0 then 3 else 2)
  else (if op = 2 ∨ op = 4 then 5 else 7) + (if isFloat fmt then 0 else 1)

/-- A tap is about to feed a slot (R204): what it feeds goes on from earlier taps of its kind. -/
def RedSlot.tapped (r : RedSlot) (op fmt : Nat) (exact : Bool) : RedSlot :=
  let k := tapKind op fmt exact
  { r with op := op, fmt := fmt, exact := exact, kind := k, mixed := r.mixed || (r.nonempty && r.kind != k) }

/-- A new element replaces the extremum so far (R205): NaN is kept once met, ties keep the lowest index. -/
def extremum (isMax : Bool) (x y : FpNum) : Bool :=
  if x.isNaN then false
  else if y.isNaN then true
  else if isMax then FpNum.below x y else FpNum.below y x

/-- Saturating 64-bit sum (R206). -/
def satSum (a b : Int) : Int × Bool :=
  let v := a + b
  if v ≥ 2 ^ 63 then (2 ^ 63 - 1, true) else if v < -(2 ^ 63) then (-(2 ^ 63), true) else (v, false)

/-- One element enters a slot, for every kind of tap but a fast floating-point sum (R205 to R207). -/
def RedSlot.feed (r : RedSlot) (v : Nat) : RedSlot × Flags :=
  let x := decodeNum r.fmt v
  let r1 := { r with nonempty := true, count := r.count + 1 }
  if r.op = 1 ∨ r.op = 6 then
    if isFloat r.fmt then
      let t := if r.op = 6 then FpNum.mul x x else (x, Flags.zero)
      ({ r1 with entry := r.entry.add (r.fmt == 0) t.1 t.2.invalid }, .zero)
    else
      let i : Int := match x with | .fin n m _ => if n then -(m : Int) else m | _ => 0
      let s := satSum r.isum (if r.op = 6 then i * i else i)
      ({ r1 with isum := s.1 }, { Flags.zero with saturate := s.2 })
  else
    let isMax := r.op == 2 || r.op == 4
    let fl : Flags := { Flags.zero with invalid := x.isSig }
    match r.best with
    | none => ({ r1 with best := some (r.fmt, v), index := r.count }, fl)
    | some (f, o) =>
      if extremum isMax (decodeNum f o) x then ({ r1 with best := some (r.fmt, v), index := r.count }, fl) else (r1, fl)

/-- One leaf of a fast sum: widened exactly to FP32, a square rounded to FP32 (R208). -/
def fastLeaf (op fmt v : Nat) : Nat × Flags :=
  let x := decodeNum fmt v
  let m := if op = 6 then FpNum.mul x x else (x, Flags.zero)
  let d := deliver 1 .rne false false m.1
  (d.1, d.2.or m.2)

/-- One chunk of 64 elements enters a fast sum (R208). -/
def RedSlot.feedChunk (r : RedSlot) (leaves : List (Option Nat)) : RedSlot × Flags :=
  let ls := leaves.map (fun o => o.map (fastLeaf r.op r.fmt))
  let fl := ls.foldl (fun f o => match o with | some d => f.or d.2 | none => f) Flags.zero
  let t := treeSum 1 .rne 6 (ls.map (fun o => o.map Prod.fst))
  let k := (leaves.filter Option.isSome).length
  let r1 := { r with nonempty := r.nonempty || k != 0, count := r.count + k }
  match t.1, r.acc with
  | none, _ => (r1, fl)
  | some x, none => ({ r1 with acc := some x }, fl.or t.2)
  | some x, some a => let d := addFp 1 .rne a x; ({ r1 with acc := some d.1 }, fl.or (t.2.or d.2))

/-- Elements of an instruction by index, absent where inactive, enter a slot (R204, R208). -/
def RedSlot.feedAll (r : RedSlot) (els : List (Option Nat)) (chunks : Nat) : RedSlot × Flags :=
  if r.kind = 4 then
    (List.range chunks).foldl (fun a c =>
      let leaves := (List.range 64).map (fun l => (els[64 * c + l]?).join)
      let n := RedSlot.feedChunk a.1 leaves
      (n.1, a.2.or n.2)) (r, .zero)
  else
    els.foldl (fun a e => match e with | none => a | some v => let n := RedSlot.feed a.1 v; (n.1, a.2.or n.2)) (r, .zero)

/-- The value a slot reads as, in a format under a result control byte and a draw (R209). `open_` is the value of a slot in
which taps of two kinds have met (log 79). -/
def RedSlot.read (r : RedSlot) (fmt ctl draw open_ : Nat) : Nat × Flags :=
  let put := fun (x : FpNum) => deliver fmt (rmodeOf (ctl % 8) draw) (bit ctl 3) false x
  if r.mixed then (open_ % 2 ^ fmtBits fmt, .zero)
  else if r.op = 2 ∨ r.op = 4 then
    (match r.best with | some (f, v) => put (decodeNum f v).quiet | none => put (.inf true))
  else if r.op = 3 ∨ r.op = 5 then
    (match r.best with | some (f, v) => put (decodeNum f v).quiet | none => put (.inf false))
  else if !r.nonempty then put (.fin false 0 0)
  else
    match r.kind with
    | 1 => put (.ofInt r.isum)
    | 2 => r.entry.drain false fmt ctl draw 0
    | 3 => r.entry.drain true fmt ctl draw 0
    | _ => put (decodeNum 1 (r.acc.getD 0))

/-- The index a slot reads as (R205, R209). -/
def RedSlot.readIndex (r : RedSlot) : Nat := if r.nonempty then r.index % 2 ^ 64 else 2 ^ 64 - 1

/-! Transcendental functions (R201). -/

/-- Bits of one in a format. -/
def oneBits (fmt : Nat) : Nat := (deliver fmt .rne false false (.fin false 1 0)).1

/-- The input of VTR after flushing (R131): a subnormal becomes a zero of its sign. -/
def flushInput (fmt bits : Nat) : FpNum × Bool :=
  match fpFmt fmt, decodeNum fmt bits with
  | some f, .fin n m e => if m ≠ 0 ∧ m < 2 ^ f.mb then (.fin n 0 0, true) else (.fin n m e, false)
  | _, x => (x, false)

/-- The special result R201's table gives for an input, with its flags; none where only the error bound applies. -/
def vtrSpecial (fn : Nat) (x : FpNum) : Option (FpNum × Flags) :=
  match x with
  | .nan _ s => some (FpNum.qnan, { Flags.zero with invalid := s })
  | .inf n =>
    (match fn with
     | 0 => some (if n then .fin false 0 0 else .inf false, .zero)
     | 1 => some (if n then .fin false 0 0 else .inf false, .zero)
     | 2 => some (if n then (FpNum.qnan, .inv) else (.inf false, .zero))
     | 3 => some (if n then (FpNum.qnan, .inv) else (.inf false, .zero))
     | 4 => some (if n then (FpNum.qnan, .inv) else (.fin false 0 0, .zero))
     | 5 => some (.fin n 0 0, .zero)
     | 6 => some (.fin n 1 0, .zero)
     | 7 => some (if n then .fin false 0 0 else .fin false 1 0, .zero)
     | 8 => some (.fin n 1 0, .zero)
     | _ => some (FpNum.qnan, .inv))
  | .fin n m _ =>
    if m = 0 then
      (match fn with
       | 2 => some (.inf true, .dz)
       | 3 => some (.inf true, .dz)
       | 4 => some (.inf n, .dz)
       | 5 => some (.inf n, .dz)
       | 6 => some (.fin n 0 0, .zero)
       | 8 => some (.fin n 0 0, .zero)
       | 9 => some (.fin n 0 0, .zero)
       | _ => none)
    else if n ∧ (fn = 2 ∨ fn = 3 ∨ fn = 4) then some (FpNum.qnan, .inv)
    else none

/-- A transcendental result and its flags (R126, R131, R201): special results exactly; any other is within the rule's bound of
the exact value, which of the values there being free (log 5). It is inexact unless it is the exact value itself. -/
def vtr (fn fmt bits : Nat) : Nat × Flags :=
  let x := flushInput fmt bits
  let fl : Flags := { Flags.zero with flushed := x.2 }
  match vtrSpecial fn x.1, fpFmt fmt with
  | some r, _ =>
    let d := deliver fmt .rne false false r.1
    (d.1, { (d.2.or r.2) with flushed := x.2 })
  | none, none => (0, fl)
  | none, some f =>
    let v := fxFunc fn x.1
    if v = 0 then (0, fl)
    else
      let (u, near) := fxNear f v (if fmt = 1 ∧ 6 ≤ fn then 2 else 1)
      let arg := if x.2 then f.signBit x.1.sign else bits
      let c := near.getD (Config.transcendental fn fmt arg % near.length) 0
      let d := deliver fmt .rne false false (.fin (decide (v < 0)) c u)
      let unit := 2 ^ (u + fxBits).toNat
      let same := fxExact fn x.1 && decide ((c * unit : Int) - v.natAbs < 2 ^ (fxBits - 500)) && decide ((v.natAbs : Int) - c * unit < 2 ^ (fxBits - 500))
      let tiny := decide (c < 2 ^ f.mb) && decide (u = f.emin - f.mb)
      (d.1, { fl with overflow := d.2.overflow, inexact := !same || d.2.overflow, underflow := tiny && !same })

end Sys2Proof.Machine
end

