-- ==== Sys2Proof/Machine/Scapel.lean ====
section
/-! DEFINITION. The commands of the optical links (R350 to R395): bring-up, flits and their window, replay, retrain,
quarantine, routes and LDNs. -/
namespace Sys2Proof.Machine

/-- PF0 and PF2 write the port registers (R451). -/
def scpRights (fn : Fn) : Bool := decide (fn = .pf 0 ∨ fn = .pf 2)

/-! Light (R352, R353, R356, R357). -/

def portsOf (f : Nat) : List Nat := (List.range 8).map (fun k => 8 * f + k)

/-- States that a loss of the light source leaves: a port switched off, dark or quarantined stays so. -/
def keepsState (st : Nat) : Bool := st == 0 || st == 8 || st == 9

/-- LASER_LOSS: eight ports fall to POLL. -/
def execLaserLoss (f : Nat) (s : State) : Res :=
  if !decide (f < 8) then .next s
  else
    let s1 : State := { s with pins := { s.pins with laserLost := insertNat s.pins.laserLost f } }
    let s2 := s1.reportOpen (srcDie (dieF f)) codeLightLost 0
    .next ((portsOf f).foldl (fun s n => if keepsState (s.portSt n) then s else s.portDown n 1) s2)

def execLaserReturn (f : Nat) (s : State) : Res :=
  .next { s with pins := { s.pins with laserLost := s.pins.laserLost.filter (fun x => x != f) } }

/-- The pair of wavelengths without `lam` (R353). -/
def otherPair (lam : Nat) : Nat := if lam < 2 then 0xC else 0x3

/-- WAVELENGTH_LOSS: an unsplit port retrains onto the other pair, or goes dark; a sublink goes dark. -/
def execWavelengthLoss (port lam : Nat) (s : State) : Res :=
  if !(decide (port < 64) && decide (lam < 4)) then .next s
  else if s.portSt port = 13 then
    whenever (portSettled (s.linkSt port lam) && s.linkSt port lam != 8) (s.linkDark port lam) s
  else
    let up := s.fget (R.SCP_PORT_STATUS.lambda_up port)
    if !([5, 6, 7].contains (s.portSt port)) || !bit up lam then .next s
    else if up = 0xF then
      .next (((s.fset (R.SCP_PORT_STATUS.lambda_up port) (otherPair lam)).reportOpen (srcPort port) codeDegraded 2).startLinkRetrain port 0)
    else .next ((s.fset (R.SCP_PORT_STATUS.lambda_up port) 0).linkDark port 0)

/-- PORT_ENABLE_WRITE. -/
def execPortEnableWrite (fn : Fn) (port : Nat) (enable : Bool) (s : State) : Res :=
  if !scpRights fn then .next (s.refuseWrite fn (A.SCP_PORT_CTL port) true true)
  else if !decide (port < 64) then .next s
  else
    let s1 := s.fset (R.SCP_PORT_CTL.enable port) enable.toNat
    if enable then .next (if s.portSt port = 0 then s1.setPortSt port 1 else s1)
    else .next (s1.portDown port 0)

/-- POLL_SAMPLE: a lit port in POLL enters TRAIN; a port that has passed self-test and has its laser (R470, R352). -/
def execPollSample (port : Nat) (lit : Bool) (s : State) : Res :=
  if !(s.portWorks port && s.milestone 3 && !s.pins.laserLost.contains (port / 8)) then .next s
  else if s.portSt port = 1 then
    let s1 := s.fset (R.SCP_PORT_STATUS.light port) lit.toNat
    .next (if lit then s1.startTrain port else s1)
  else if s.portSt port = 13 ∧ lit then
    .next ((([0, 1, 2, 3].filter (fun j => s.linkSt port j == 1)).foldl (fun s j => s.setLinkSt port j 2) s).fset
      (R.SCP_PORT_STATUS.light port) 1)
  else .next s

/-- PORT_LIGHT_LOSS: end states that wait for it return to POLL; a link in service takes it as a fault and retrains. -/
def execPortLightLoss (port : Nat) (s : State) : Res :=
  if !decide (port < 64) then .next s
  else
    let one := fun (t : State) (lam : Nat) =>
      if [10, 11, 12].contains (t.linkSt port lam) then t.linkDown port lam 1
      else if [5, 6].contains (t.linkSt port lam) then t.startLinkRetrain port lam
      else t
    let s1 := s.fset (R.SCP_PORT_STATUS.light port) 0
    .next (if s.portSt port = 13 then [0, 1, 2, 3].foldl one s1 else one s1 0)

/-! Bring-up (R356, R379, R387 to R391). -/

/-- Wavelengths that training keeps on an unsplit port (R353). -/
def keptPair (mask : Nat) : Nat :=
  if mask % 16 = 0xF then 0xF else if mask % 4 = 3 then 3 else if mask / 4 % 4 = 3 then 0xC else 0

/-- TRAIN_DONE, with the wavelengths that trained. -/
def execTrainDone (port lambdas : Nat) (s : State) : Res :=
  if !decide (port < 64) then .next s
  else if s.portSt port = 13 then
    .next (([0, 1, 2, 3].filter (fun j => s.linkSt port j == 2)).foldl (fun s j =>
      if bit lambdas j then s.setLinkSt port j 3 else s.linkDark port j) s)
  else if s.portSt port ≠ 2 then .next s
  else
    let k := keptPair lambdas
    let s1 := s.fset (R.SCP_PORT_STATUS.lambda_up port) k
    if k = 0 then .next (s1.linkDark port 0)
    else if k = 0xF then .next (s1.setPortSt port 3)
    else .next ((s1.reportOpen (srcPort port) codeDegraded 2).setPortSt port 3)

/-- Physical address (R389). -/
def physAddr (rack slot : Nat) : Nat := rack * 256 + slot

def State.ownPhys (s : State) : Nat := physAddr (s.fget R.SCP_ID.rack) (s.fget R.SCP_ID.slot)

/-- Physical addresses to which the route table in force maps an LDN: the peers at its candidates one link away
(log 19). -/
def State.mapsTo (s : State) (ldn : Nat) : List Nat :=
  if 144 ≤ ldn then []
  else
    let e := s.route (s.fget R.SCP_ROUTE_CMD.bank * 256 + ldn)
    (((List.range 8).map (candAt e)).filter (fun c => c.2.2 == 1 && s.linkUp c.1 c.2.1 && s.portSt c.1 != 13)).map (fun c =>
      physAddr (s.fget (R.SCP_PORT_PEER.peer_rack c.1)) (s.fget (R.SCP_PORT_PEER.peer_slot c.1)))

/-- Highest version common to this package (3 to 4) and a peer (R387). -/
def commonVersion (lo hi : Nat) : Option Nat :=
  let v := Nat.min 4 hi
  if Nat.max 3 lo ≤ v then some v else none

/-- What the peer states is shown (R389, R394). -/
def State.showPeer (s : State) (n lam : Nat) (p : PeerInfo) : State :=
  let s1 := if s.portSt n = 13 then s.fset (subPeer n lam) p.ldn else s
  if s.portSt n = 13 ∧ lam ≠ 0 then s1
  else
    (((((s1.fset (R.SCP_PORT_PEER.peer_rack n) p.rack).fset (R.SCP_PORT_PEER.peer_slot n) p.slot).fset
      (R.SCP_PORT_PEER.peer_port n) p.port).fset (R.SCP_PORT_PEER.peer_ldn n) p.ldn).setReg (A.SCP_PORT_PEER_SN n) p.serial).fset
      (R.SCP_PORT_DELAY.delay_ns n) p.delayNs

/-- NEGOTIATE. -/
def execNegotiate (port lam : Nat) (peer : PeerInfo) (s : State) : Res :=
  if !(s.linkIs port lam && s.linkSt port lam == 3) then .next s
  else
    let split := s.portSt port == 13
    let s2 := (s.showPeer port lam peer).checkCred port
    match commonVersion peer.verLow peer.verHigh with
    | none => .next (s2.setLinkSt port lam 10)
    | some v =>
      let creds := creditKeys.foldl (fun m k => setCredit m k (bufferFor peer.cred split k)) []
      let l : Link :=
        { Link.reset with credits := creds, version := v, enc := s.fon (R.SCP_PORT_CTL.enc_en port) || peer.encEn, alloc := s.ownCred port }
      let s3 := (if lam = 0 then s2.fset (R.SCP_PORT_STATUS.version port) v else s2).putLink port lam l
      let p := physAddr peer.rack peer.slot
      let conflict := !s.fon (R.SCP_PORT_CTL.ext port) && (s.mapsTo peer.ldn).any (fun a => a != p)
      .next (s3.setLinkSt port lam (if conflict then 12 else 4))

/-- AUTH_DONE: at bring-up, or again after a retrain (R380). -/
def execAuthDone (port lam : Nat) (pass : Bool) (s : State) : Res :=
  if !s.linkIs port lam then .next s
  else
    let l := s.linkOf port lam
    let st := s.linkSt port lam
    let first := st == 4
    if !(first || (l.reauth && (st == 5 || st == 6))) then .next s
    else if !pass then .next ((s.reportOpen (s.srcLink port lam) codeAuthFail 0).linkDown port lam 11)
    else
      let s1 := s.putLink port lam { l with authed := true, reauth := false }
      let s2 := if lam = 0 then
          (s1.fset (R.SCP_PORT_STATUS.authenticated port) 1).fset (R.SCP_PORT_STATUS.encrypted port) l.enc.toNat
        else s1
      -- the first port to reach UP (R474)
      let s2 : State := if first && s2.trn.firstUp.isNone then { s2 with trn := { s2.trn with firstUp := some s2.clock } } else s2
      if !first then .next s2
      else if s.portSt port = 13 then
        .next ((s2.setLinkSt port lam 5).fset (R.SCP_PORT_STATUS.lambda_up port) (s.fget (R.SCP_PORT_STATUS.lambda_up port) ||| 2 ^ lam))
      else .next (s2.setPortSt port (if s.fget (R.SCP_PORT_STATUS.lambda_up port) = 0xF then 5 else 6))

/-! The receiver (R358 to R365, R371, R375 to R386). -/

/-- A link in this state takes flits. -/
def hearsFlits (st : Nat) : Bool := [3, 4, 5, 6, 10, 11, 12].contains st

/-- A virtual channel that a link allows (R378, R380, R391). -/
def State.vcAllowed (s : State) (n lam vc : Nat) : Bool :=
  vc == 0 ||
    (if s.linkSt n lam = 12 then vc == 6
     else (s.linkOf n lam).authed && (!s.fon (R.SCP_PORT_CTL.ext n) || vc == 5))

/-- Acknowledgement at time `now` (R363, R366): every flit up to it is freed; progress ends the run of replays and restarts
the timer; a replay with nothing left to resend is over. -/
def Link.acked (l : Link) (ack now : Nat) : Link :=
  match l.unacked with
  | [] => l
  | f :: _ =>
    let k := (ack + 4096 - f.seq) % 4096
    if k < l.unacked.length then
      let left := l.unacked.drop (k + 1)
      let again := l.resend.filter (fun q => left.any (fun x => x.seq == q))
      { l with unacked := left, replayRun := 0, resend := again, timerAt := now,
               tx := if l.tx = .retrain then l.tx else if left.isEmpty then .idle
                     else if l.tx = .replaying ∧ again = [] then .active else l.tx }
    else l

/-- A replay trigger (R365 to R367): one during a replay counts and does not restart it; the eighth since the last
progress retrains. -/
def State.replay (s : State) (n lam : Nat) : State :=
  let l := s.linkOf n lam
  if l.unacked.isEmpty || l.tx = .retrain then s
  else
    let l1 : Link := { l with replayRun := l.replayRun + 1, lastReplay := some s.clock, timerAt := s.clock }
    if 8 ≤ l1.replayRun then (s.putLink n lam { l1 with replayRun := 0 }).startLinkRetrain n lam
    else if l.tx = .replaying then s.putLink n lam { l with replayRun := l.replayRun + 1 }
    else
      (s.putLink n lam { l1 with tx := .replaying, resend := l.unacked.map TxFlit.seq }).finc (R.SCP_PORT_REPLAY.replays n) 1

/-- The last round trip (R365): twice the measured delay plus 1 us. -/
def State.roundTrip (s : State) (n : Nat) : Nat := 2 * s.fget (R.SCP_PORT_DELAY.delay_ns n) + 1000

/-- The header fields of a flit that passes the CRC (R363). -/
def State.rxHeader (s : State) (n lam : Nat) (f : Flit) : State :=
  let s1 := if f.corrected then s.finc (R.SCP_PORT_ERR.fec_corrected n) 1 else s
  let s2 := if f.ackValid then s1.onLink n lam (fun l => l.acked f.ackSeq s.clock) else s1
  let key := 4 * f.crVc + f.crClass
  let s3 := s2.onLink n lam (fun l =>
    if f.crCount = 0 then l else { l with credits := setCredit l.credits key (credit l.credits key + f.crCount) })
  let l := s3.linkOf n lam
  let recent := match l.lastReplay with | some t => decide (s3.clock ≤ t + s3.roundTrip n) | none => false
  if f.gap && !recent then s3.replay n lam else s3

/-- Payload bytes a flit holds (R358). -/
def payloadBytes (enc : Bool) : Nat := if enc then 216 else 232

/-- The route headers agree with `len` and `used` (R360, R386). -/
def routesOk (f : Flit) : Bool :=
  f.msgs.all (fun m => decide (1 ≤ m.len) && decide (m.len ≤ 29) && m.body.length + 8 == 8 * m.len) &&
    (f.msgs.map (fun m => 8 * m.len)).foldl (· + ·) 0 == f.used

/-- Why a DATA flit is malformed before its messages are looked at, by item of R386. -/
def State.flitBad (s : State) (n lam d : Nat) (f : Flit) : Option Nat :=
  if 3 ≤ f.ftype ∨ f.rsv ≠ 0 then some 1
  else if d = 2048 then some 2
  else if payloadBytes f.enc < f.used then some 3
  else if !routesOk f then some 4
  else if !s.vcAllowed n lam f.vc then some 5
  else if f.enc && !f.tagOk then some 7
  else none

/-- A message is for this package: link control, its LDN and rack (R378). Without an LDN only link-local VC6 is
(R390). -/
def State.forUs (s : State) (vc : Nat) (m : Msg) : Bool :=
  vc == 0 || (m.dst == s.ldn && (s.ldn != 255 || vc == 6) && (vc != 5 || m.dstRack == s.fget R.SCP_ID.rack))

/-- A message breaks R377 or R385. -/
def State.msgBad (s : State) (n lam vc : Nat) (m : Msg) : Bool :=
  if vc = 0 then false
  else
    !(decide (1 ≤ m.hops) && decide (m.hops ≤ 3)) ||
      (m.hops == 1 && !s.fon (R.SCP_PORT_CTL.ext n) && m.src != s.peerLdn n lam)

/-! Policing (R384). -/

/-- `n` bytes of one flit of a source LDN for this package: beyond twice the shaper's bucket the flit is counted, and at
the threshold within 1 ms the source is blocked. -/
def State.policeBytes (s : State) (src n : Nat) : State :=
  let rate := s.fget R.SCP_RATE.rate_gbs
  let depth := 2048 * s.fget R.SCP_RATE.burst_kib
  let p := s.policeOf src
  match p.bucket.take (2 * rate) depth s.clock n with
  | some b => s.setPoliceOf src { p with bucket := b }
  | none =>
    let e := s.clock :: p.excess.filter (fun t => decide (s.clock < t + 1000000))
    let s1 := s.setPoliceOf src { bucket := p.bucket.refill (2 * rate) s.clock, excess := e }
    if s.fget R.SCP_RATE.pol_thr ≤ e.length ∧ !s.blockedSrc src then
      (s1.setReg (A.SCP_BLOCK (src / 64)) (s1.reg (A.SCP_BLOCK (src / 64)) ||| BitVec.ofNat 64 (2 ^ (src % 64)))).reportOpen
        srcPackage codeSourceBlocked 2
    else s1

/-- The messages of one flit for this package, policed by source (R384). -/
def State.policeFlit (s : State) (vc : Nat) (ms : List Msg) : State :=
  if !(s.fon R.SCP_RATE.police_en && s.fget R.SCP_RATE.rate_gbs != 0 && (vc == 1 || vc == 4 || vc == 5)) then s
  else
    ((ms.map Msg.src).eraseDups.filter (· < 144)).foldl (fun s l =>
      s.policeBytes l (((ms.filter (fun m => m.src == l)).map (fun m => 8 * m.len)).foldl (· + ·) 0)) s

/-- One message of an accepted flit: delivered, forwarded, or discarded as malformed. `holds` is the buffer it keeps
while it waits to be forwarded. -/
def State.rxMsg (s : State) (n lam vc : Nat) (holds : Option (Nat × Nat)) (m : Msg) : State :=
  if s.msgBad n lam vc m then (s.malformed n 6).freeBuffer holds
  else if s.forUs vc m then (s.emit (.deliver vc m)).freeBuffer holds
  else if s.ldn = 255 ∧ vc ≠ 5 then (s.malformed n 6).freeBuffer holds
  else
    match s.sendMsg vc m.hops m holds with
    | some t => t
    | none => (s.malformed n 6).freeBuffer holds

/-- An accepted flit: its buffer is freed with its last message (R371). -/
def State.rxAccept (s : State) (n lam : Nat) (f : Flit) : State :=
  let cls := if f.vc = 0 then 0 else (f.msgs.map Msg.hops).headD 1
  let key := 4 * f.vc + cls % 4
  let hold : Option (Nat × Nat) := some (linkKey n lam, key)
  let mine := f.msgs.filter (fun m => !s.msgBad n lam f.vc m && s.forUs f.vc m)
  let s1 := (s.policeFlit f.vc mine).onLink n lam (fun l =>
    { l with expected := (l.expected + 1) % 4096, gapFlag := false, owed := l.owed + 1, ackNow := l.ackNow || decide (64 ≤ l.owed + 1),
             held := setCredit l.held key (credit l.held key + 1) })
  match f.msgs.reverse with
  | [] => s1.freeBuffer hold
  | last :: rest => (rest.reverse.foldl (fun s m => s.rxMsg n lam f.vc none m) s1).rxMsg n lam f.vc hold last

/-! Sending (R358, R361, R364, R369 to R372, R381, R382). -/

/-- The acknowledgement a flit carries: the last sequence number accepted. -/
def Link.ackSeq (l : Link) : Nat := (l.expected + 4095) % 4096

/-- The group of owed credits whose turn it is (R371). -/
def Link.owedNext (l : Link) : List (Nat × Nat) :=
  ((l.owedCredits.filter (fun e => decide (l.crNext ≤ e.1))) ++ l.owedCredits).take 1

/-- A flit leaves: it carries the acknowledgement and one group of owed credits. -/
def State.sendFlit (s : State) (n lam ftype seq : Nat) (msgs : List Msg) : State :=
  let l := s.linkOf n lam
  let cr := l.owedNext
  let l0 : Link := { l with txCount := l.txCount + 1, owed := 0, ackNow := false }
  let l1 : Link :=
    match cr with
    | [(k, c)] => { l0 with owedCredits := setCredit l.owedCredits k (c - Nat.min c 255), crNext := k + 1 }
    | _ => l0
  (s.putLink n lam l1).emit (.flit n lam ftype seq l.ackSeq l.gapFlag l.keyPhase (cr.map (fun e => (e.1, Nat.min e.2 255))) msgs)

/-- An ACK flit: on a version 4 link it repeats the full counts of free buffers (R358, R371, R388). -/
def State.sendAck (s : State) (n lam : Nat) : State :=
  let l := s.linkOf n lam
  let full := creditKeys.map (fun k => (k, bufferFor l.alloc (s.portSt n == 13) k - credit l.held k))
  let v4 := l.version == 4
  let l1 : Link :=
    { l with txCount := l.txCount + 1, owed := 0, ackNow := false, owedCredits := if v4 then [] else l.owedCredits }
  (s.putLink n lam l1).emit (.flit n lam 2 0 l.ackSeq l.gapFlag l.keyPhase (if v4 then full else []) [])

/-- DATA_FLIT (R362). A flit that is malformed as a whole is discarded; one whose route headers are wrong, or whose
channel the link does not allow, is accepted in order with its payload discarded, so that the window goes on. -/
def execDataFlit (now port lam : Nat) (flit : Flit) (s : State) : Res :=
  if !(s.linkIs port lam && hearsFlits (s.linkSt port lam)) || flit.ftype == 0 || flit.ftype == 2 then .next s
  else
    let s1 := (s.advance now).rxHeader port lam flit
    if !hearsFlits (s1.linkSt port lam) then .next s1
    else
      let l := s1.linkOf port lam
      let d := (flit.seq + 4096 - l.expected) % 4096
      let skip := fun (t : State) => t.onLink port lam (fun l =>
        { l with expected := (l.expected + 1) % 4096, gapFlag := false, owed := l.owed + 1, ackNow := l.ackNow || decide (64 ≤ l.owed + 1) })
      match s1.flitBad port lam d flit with
      | some 1 => .next (s1.malformed port 1)
      | some 2 => .next (s1.malformed port 2)
      | some 7 => .next (s1.malformed port 7)
      | bad =>
        if 2049 ≤ d then .next (s1.sendAck port lam)
        else if 0 < d then
          .next ((s1.onLink port lam (fun l => { l with gapFlag := true })).fincSat (R.SCP_PORT_REPLAY.gaps port) 1)
        else
          match bad with
          | some r => .next ((skip s1).malformed port r)
          | none => .next (s1.rxAccept port lam flit)

/-- On a version 4 link the 22 counts of an ACK flit (R358), less the flits still unacknowledged, are the credits held
(log 20). -/
def ackCredits (l : Link) (counts : List Nat) : Link :=
  if l.version = 4 ∧ counts.length = 22 then
    let out := fun (k : Nat) => (l.unacked.filter (fun f => 4 * f.vc + f.cls == k)).length
    { l with credits := (creditKeys.zip counts).foldl (fun m e => setCredit m e.1 (e.2 - out e.1)) l.credits }
  else l

/-- ACK_FLIT. -/
def execAckFlit (now port lam : Nat) (flit : Flit) (s : State) : Res :=
  if !(s.linkIs port lam && hearsFlits (s.linkSt port lam) && flit.ftype == 2) then .next s
  else
    let s1 := (s.advance now).rxHeader port lam flit
    if flit.rsv ≠ 0 then .next (s1.malformed port 1)
    else .next (s1.onLink port lam (fun l => ackCredits l flit.credits))

/-- IDLE_FLIT. -/
def execIdleFlit (now port lam : Nat) (flit : Flit) (s : State) : Res :=
  if !(s.linkIs port lam && hearsFlits (s.linkSt port lam) && flit.ftype == 0) then .next s
  else
    let s1 := (s.advance now).rxHeader port lam flit
    .next (if flit.rsv ≠ 0 then s1.malformed port 1 else s1)

/-- UNCORRECTABLE_FLIT (R359). -/
def execUncorrectableFlit (port lam : Nat) (s : State) : Res :=
  whenever (s.linkIs port lam && hearsFlits (s.linkSt port lam)) (s.finc (R.SCP_PORT_ERR.crc_fail port) 1) s

/-- Most flits a link has unacknowledged (R354, R361). -/
def State.windowOf (s : State) (n : Nat) : Nat := if s.portSt n = 13 then 511 else 2047

/-- The first message of a virtual channel that has credit. -/
def Link.headOf (l : Link) (vc : Nat) : Option SendItem :=
  match l.sendq.find? (fun i => i.vc == vc) with
  | some i => if 0 < credit l.credits (4 * vc + i.cls) then some i else none
  | none => none

/-- Messages of one channel and class that fit a flit with the first of them, and how many. -/
def packFrom (room : Nat) (cls : Nat) (l : List SendItem) : List SendItem :=
  match l with
  | [] => []
  | i :: rest => if i.cls = cls ∧ 8 * i.msg.len ≤ room then i :: packFrom (room - 8 * i.msg.len) cls rest else []

/-- Weight of a channel (R372, R394). -/
def vcWeight (w : Word) (vc : Nat) : Nat := getField w (8 * vc) 8

/-- What the transmitter serves next: the channel, and where the round robin stands after this flit. -/
structure VcTurn where
  vc : Nat
  rrVc : Nat
  rrLeft : Nat
  weights : Word
deriving DecidableEq, Repr

/-- The channel to be served next: VC0 first, then weighted round robin, whose weights are those of SCP_PORT_VCW as the
round began (R369, R372). -/
def State.choose (s : State) (n : Nat) (l : Link) : Option VcTurn :=
  if (l.headOf 0).isSome then some ⟨0, l.rrVc, l.rrLeft, l.rrWeights⟩
  else if 0 < l.rrLeft ∧ (l.headOf l.rrVc).isSome then some ⟨l.rrVc, l.rrVc, l.rrLeft - 1, l.rrWeights⟩
  else
    let order := (List.range 7).map (fun i => (l.rrVc + i) % 7 + 1)
    match order.find? (fun v => (l.headOf v).isSome) with
    | some v =>
      let w := if v ≤ l.rrVc then s.reg (A.SCP_PORT_VCW n) else l.rrWeights
      some ⟨v, v, vcWeight w v - 1, w⟩
    | none => none

/-- A new DATA flit of a channel leaves and enters the replay buffer. -/
def State.sendData (s : State) (n lam : Nat) (turn : VcTurn) (i : SendItem) : State :=
  let l := s.linkOf n lam
  let vc := turn.vc
  let mine := l.sendq.filter (fun x => x.vc == vc)
  let pack := packFrom (payloadBytes l.enc) i.cls mine
  let left := mine.drop pack.length
  let key := 4 * vc + i.cls
  let l1 : Link :=
    { l with sendq := l.sendq.filter (fun x => x.vc != vc) ++ left, credits := setCredit l.credits key (credit l.credits key - 1),
             unacked := l.unacked ++ [{ seq := l.nextSeq, vc := vc, cls := i.cls, msgs := pack.map SendItem.msg }],
             nextSeq := (l.nextSeq + 1) % 4096, tx := .active, rrVc := turn.rrVc, rrLeft := turn.rrLeft, rrWeights := turn.weights,
             timerAt := if l.unacked.isEmpty then s.clock else l.timerAt }
  let s1 := (s.putLink n lam l1).sendFlit n lam 1 l.nextSeq (pack.map SendItem.msg)
  pack.foldl (fun s x => s.freeBuffer x.holds) s1

/-- FLIT_TRANSMIT: what is left of a replay, then new flits where window, credit and key allow them, else an IDLE
flit. -/
def execFlitTransmit (port lam : Nat) (s : State) : Res :=
  if !(decide (port < 64) && decide (lam < 4)) then .next s
  else if s.portSt port = 9 then .next (s.sendFlit port lam 0 0 [])
  else if !(s.linkIs port lam && hearsFlits (s.linkSt port lam)) then .next s
  else
    let l := s.linkOf port lam
    match l.tx, l.resend with
    | .retrain, _ => .next s
    | .replaying, q :: rest =>
      let msgs := match l.unacked.find? (fun f => f.seq == q) with | some f => f.msgs | none => []
      .next ((s.putLink port lam { l with resend := rest, tx := if rest.isEmpty then .active else .replaying }).sendFlit
        port lam 1 q msgs)
    | _, _ =>
      let keyDue := l.enc && decide (l.keyStart + 2 ^ 36 ≤ l.txCount)
      if keyDue || decide (s.windowOf port ≤ l.unacked.length) then .next (s.sendFlit port lam 0 0 [])
      else
        match s.choose port l with
        | some turn =>
          (match l.headOf turn.vc with
           | some i => .next (s.sendData port lam turn i)
           | none => .next (s.sendFlit port lam 0 0 []))
        | none => .next (s.sendFlit port lam 0 0 [])

/-- ACK_DUE (R364). -/
def execAckDue (port lam : Nat) (s : State) : Res :=
  whenever (s.linkIs port lam && hearsFlits (s.linkSt port lam) && decide (0 < (s.linkOf port lam).owed)) (s.sendAck port lam) s

/-- The replay timer of a link has expired (R365): it runs while a flit is unacknowledged. -/
def State.replayDue (s : State) (n lam : Nat) : Bool :=
  !(s.linkOf n lam).unacked.isEmpty && decide ((s.linkOf n lam).timerAt + 4000 + 2 * s.fget (R.SCP_PORT_DELAY.delay_ns n) ≤ s.clock)

/-- REPLAY_TIMER (R365). -/
def execReplayTimer (now port lam : Nat) (s : State) : Res :=
  let t := s.advance now
  if !(s.linkIs port lam && hearsFlits (s.linkSt port lam)) then .next s
  else .next (if t.replayDue port lam then t.replay port lam else t)

/-! Retrains (R366, R367). -/

/-- Completed retrains of the last second, this one among them. -/
def recentRetrains (l : Link) (now : Nat) : List Nat := now :: l.retrainTimes.filter (fun t => decide (now < t + 1000000000))

/-- LINK_RETRAIN_DONE: the link replays, unless it has completed 16 retrains within 1 s. -/
def execLinkRetrainDone (now port lam : Nat) (s : State) : Res :=
  if !(s.linkIs port lam && s.linkSt port lam == 7) then .next s
  else
    let s1 := s.advance now
    let l := s1.linkOf port lam
    let times := recentRetrains l s1.clock
    let l1 : Link :=
      { l with retrainTimes := times, retrainFails := 0, replayRun := 0, reauth := true, retrainQueued := false,
               alloc := s1.ownCred port, timerAt := s1.clock,
               tx := if l.unacked.isEmpty then .idle else .replaying, resend := l.unacked.map TxFlit.seq }
    let s2 := (s1.checkCred port).putLink port lam l1
    if 16 ≤ times.length then .next (s2.linkDark port lam)
    else if l.retrainQueued then .next (s2.startLinkRetrain port lam)
    else if s.portSt port = 13 then .next (s2.setLinkSt port lam 5)
    else .next (s2.setPortSt port (if s.fget (R.SCP_PORT_STATUS.lambda_up port) = 0xF then 5 else 6))

/-- LINK_RETRAIN_FAIL: the third in a row, or the sixteenth retrain within 1 s, makes the link dark. -/
def execLinkRetrainFail (now port lam : Nat) (s : State) : Res :=
  if !(s.linkIs port lam && s.linkSt port lam == 7) then .next s
  else
    let s1 := s.advance now
    let l := s1.linkOf port lam
    let times := recentRetrains l s1.clock
    let s2 := s1.putLink port lam { l with retrainTimes := times, retrainFails := l.retrainFails + 1 }
    if 3 ≤ l.retrainFails + 1 ∨ 16 ≤ times.length then .next (s2.linkDark port lam)
    else .next (s2.finc (R.SCP_PORT_REPLAY.retrains port) 1)

/-- PORT_RETRAIN: a link in service retrains, a second write during a retrain queues one, and an end state starts
bring-up (R394). -/
def State.retrainLink (s : State) (n lam : Nat) : State :=
  let st := s.linkSt n lam
  if st = 5 ∨ st = 6 then s.startLinkRetrain n lam
  else if st = 7 then s.onLink n lam (fun l => { l with retrainQueued := true })
  else if [8, 10, 11, 12].contains st then (if s.portSt n = 13 then s.setLinkSt n lam 2 else s.startTrain n)
  else s

def execPortRetrain (fn : Fn) (port : Nat) (s : State) : Res :=
  if !scpRights fn then .next (s.refuseWrite fn (A.SCP_PORT_CTL port) true true)
  else if !decide (port < 64) then .next s
  else if s.portSt port = 13 then .next ([0, 1, 2, 3].foldl (fun s j => s.retrainLink port j) s)
  else .next (s.retrainLink port 0)

/-- PORT_RELEASE: the malformed count restarts, and a quarantined port trains. -/
def execPortRelease (fn : Fn) (port : Nat) (s : State) : Res :=
  if !scpRights fn then .next (s.refuseWrite fn (A.SCP_PORT_CTL port) true true)
  else if !decide (port < 64) then .next s
  else
    let s1 := s.fset (R.SCP_PORT_MAL.malformed port) 0
    .next (if s.portSt port = 9 then s1.startTrain port else s1)

/-- PORT_QUARANTINE: at once, whatever the count. -/
def execPortQuarantine (fn : Fn) (port : Nat) (s : State) : Res :=
  if !scpRights fn then .next (s.refuseWrite fn (A.SCP_PORT_CTL port) true true)
  else whenever (decide (port < 64) && s.portSt port != 0 && s.portSt port != 9) (s.quarantine port) s

/-- KEY_UPDATE (R382): on version 4 the next flit has the other phase; on version 3 the key changes once every earlier
flit is acknowledged. -/
def execKeyUpdate (port lam : Nat) (s : State) : Res :=
  let l := s.linkOf port lam
  whenever (s.linkIs port lam && hearsFlits (s.linkSt port lam) && l.enc && l.authed && (l.version == 4 || l.unacked.isEmpty))
    (s.putLink port lam { l with keyPhase := !l.keyPhase, keyStart := l.txCount }) s

/-! Routes and LDNs (R374, R390 to R395). -/

/-- What of a route word is not rsv (R395): ten bits of each candidate. -/
def routeBits : Word := 0x03FF03FF03FF03FF

/-- ROUTE_STORE: both words enter the staged bank. -/
def execRouteStore (fn : Fn) (value : Word) (s : State) : Res :=
  if !fabricRights fn then .next (s.refuseWrite fn A.SCP_ROUTE_DATA1 true true)
  else
    let l := s.fget R.SCP_ROUTE_ADDR.ldn
    let bank := 1 - s.fget R.SCP_ROUTE_CMD.bank
    let cands := value &&& routeBits
    let s1 := s.setReg A.SCP_ROUTE_DATA1 cands
    .next (if l < 144 then s1.setRoute (bank * 256 + l) (BitVec.ofNat 128 ((s.reg A.SCP_ROUTE_DATA0).toNat + cands.toNat * 2 ^ 64)) else s1)

def execRouteCommit (fn : Fn) (cancel : Bool) (s : State) : Res :=
  if !fabricRights fn then .next (s.refuseWrite fn A.SCP_ROUTE_CMD true true)
  else if cancel then .next (s.fset R.SCP_ROUTE_CMD.pending 0)
  else if s.tooSoon (s.fget R.SCP_ROUTE_AT.at_transit) then .next (s.fset R.SCP_ROUTE_CMD.route_err 1)
  else .next (s.fset R.SCP_ROUTE_CMD.pending 1)

def execRouteCancel (fn : Fn) (s : State) : Res :=
  if !fabricRights fn then .next (s.refuseWrite fn A.SCP_ROUTE_CMD true true)
  else .next (s.fset R.SCP_ROUTE_CMD.pending 0)

/-- LDN_COMMIT: ldn_next outside 0 to 143 keeps its old value (R552). -/
def execLdnCommit (fn : Fn) (ldnNext : Nat) (cancel : Bool) (s : State) : Res :=
  if !fabricRights fn then .next (s.refuseWrite fn A.SCP_LDN_NEXT true true)
  else
    let s1 := if ldnNext < 144 then s.fset R.SCP_LDN_NEXT.ldn_next ldnNext else s
    if cancel then .next (s1.fset R.SCP_LDN_NEXT.pending 0)
    else if s1.tooSoon (s1.fget R.SCP_LDN_AT.at_transit) then .next (s1.fset R.SCP_LDN_NEXT.ldn_err 1)
    else .next (s1.fset R.SCP_LDN_NEXT.pending 1)

def execLdnCancel (fn : Fn) (s : State) : Res :=
  if !fabricRights fn then .next (s.refuseWrite fn A.SCP_LDN_NEXT true true)
  else .next (s.fset R.SCP_LDN_NEXT.pending 0)

/-- PUT_GET_MESSAGE: a VC5 message of another rack reaches its destination and is delivered (R378). What it holds the
spec does not define. -/
def execPutGetMessage (m : Msg) (s : State) : Res :=
  whenever (m.dst == s.ldn && s.ldn != 255 && m.dstRack == s.fget R.SCP_ID.rack) ((s.policeFlit 5 [m]).emit (.deliver 5 m)) s

end Sys2Proof.Machine
end

