-- ==== Sys2Proof/Machine/Col.lean ====
section
/-! DEFINITION. Constellations and collectives (R396 to R424): the constellation table and its commits, dark members,
posting, landing, parking, exact combining, crossed collectives, and send windows. -/
namespace Sys2Proof.Machine

/-! The constellation table (R396). -/

/-- PF0, PF1 and management messages write the COL block (R424). -/
def colRights (fn : Fn) : Bool := match fn with | .pf n => decide (n < 2) | .mgmt => true | _ => false

def State.cstOn (s : State) (i : Nat) : Bool := decide (i < 1024) && s.fon (R.COL_CST_CFG.valid i)
def State.cstEpoch (s : State) (i : Nat) : Nat := s.fget (R.COL_CST_CFG.epoch i)

/-- COL_MEMBER entries of constellation `i` in force, and staged. -/
def State.cstRange (s : State) (i : Nat) : List Nat :=
  (List.range (s.fget (R.COL_CST_CFG.member_count i))).map (fun j => s.fget (R.COL_CST_CFG.member_base i) + j)

def State.nextRange (s : State) (i : Nat) : List Nat :=
  (List.range (s.fget (R.COL_CST_NEXT.member_count i))).map (fun j => s.fget (R.COL_CST_NEXT.member_base i) + j)

/-- LDNs of the live pairs, in list order. -/
def State.liveLdns (s : State) (i : Nat) : List Nat :=
  ((s.cstRange i).filter (fun j => !s.fon (R.COL_MEMBER.dark j))).map (fun j => s.fget (R.COL_MEMBER.ldn j))

def State.cstLdns (s : State) (i : Nat) : List Nat := (s.cstRange i).map (fun j => s.fget (R.COL_MEMBER.ldn j))

/-- Number the live members again. -/
def State.renumber (s : State) (i : Nat) : State :=
  let l := s.liveLdns i
  (s.fset (R.COL_CST_CFG.live_count i) l.length).fset (R.COL_CST_CFG.self_index i) ((l.findIdx? (· == s.ldn)).getD 0)

/-! Post entries (R403). -/

def pState (p : Post) : Nat := leAt p.bytes 0x00 1
def pOp (p : Post) : Nat := leAt p.bytes 0x01 1
def pFmt (p : Post) : Nat := leAt p.bytes 0x02 1
def pRctl (p : Post) : Nat := leAt p.bytes 0x03 1
def pCst (p : Post) : Nat := leAt p.bytes 0x04 2
def pPrefix (p : Post) : Bool := bit (leAt p.bytes 0x06 2) 0
def pSeq (p : Post) : Nat := leAt p.bytes 0x08 4
def pExpected (p : Post) : Nat := leAt p.bytes 0x0C 2
def pMsgBytes (p : Post) : Nat := leAt p.bytes 0x0E 2
def pCore (p : Post) : Nat := leAt p.bytes 0x10 1
def pLand (p : Post) : Nat := leAt p.bytes 0x14 4
def pOut (p : Post) : Nat := leAt p.bytes 0x18 4
def pElems (p : Post) : Nat := leAt p.bytes 0x1C 2
def pBeacon (p : Post) : Nat := leAt p.bytes 0x1E 2
def pXsum (p : Post) : Bool := pOp p == 2
/-- XSUM entries are wide for FP64, format 0x00 (R102, R143). -/
def pWide (p : Post) : Bool := pFmt p == 0
/-- Posted and incomplete. -/
def pOpen (p : Post) : Bool := pState p == 1

/-- Scratchpad a post lands in. -/
def padOf (k : Nat) (p : Post) : Nat := 4 * (k / 64) + pCore p

/-- Keys of the posted, incomplete entries that satisfy `f`. -/
def State.openPosts (s : State) (f : Nat → Post → Bool) : List Nat :=
  (s.posts.filter (fun e => pOpen e.2 && f e.1 e.2)).map Prod.fst

def State.onPost (s : State) (k : Nat) (f : Post → Post) : State := s.setPost k (f (s.post k))

/-- The landing path adds to a post's beacon (R405, R428). -/
def State.countPost (s : State) (k n : Nat) : State :=
  let p := s.post k
  if n = 0 ∨ 16384 ≤ pBeacon p then s
  else (s.onPost k (fun p => { p with added := p.added + n })).hwAddN (pBeacon p) 0x3FF n

/-- A post completes (R405, R423). -/
def State.completePost (s : State) (k status landed : Nat) (witness : Word) (peer : Nat × Nat) : State :=
  let s1 := s.onPost k (fun p =>
    let b1 := putBytes p.bytes 0x20 (leBytes 1 status ++ leBytes 1 (p.flags ||| (if p.twinkle then 16 else 0)))
    let b2 := putBytes b1 0x24 (leBytes 4 landed ++ leBytes 8 witness.toNat ++ leBytes 8 (peer.1 % 1024 + peer.2 % 2 ^ 32 * 2 ^ 32))
    { p with bytes := putBytes b2 0 [2] })
  s1.countPost k (pExpected (s.post k) + 1 - (s.post k).added)

/-- A post ends without its result. -/
def State.abortPost (s : State) (status : Nat) (peer : Nat × Nat) (k : Nat) : State :=
  s.completePost k status (s.post k).landed 0 peer

/-- Size of an element of a format in bytes. -/
def elemSize (fmt : Nat) : Nat := fmtBits fmt / 8

/-- Fields of a post lie in their ranges, and its areas in the scratchpad (R403, R404). -/
def postFieldsOk (p : Post) : Bool :=
  decide (pOp p ≤ 2) && decide (pCore p ≤ 3) && decide (pBeacon p < 16384) && decide (1 ≤ pExpected p) &&
    if pXsum p then
      decide (pFmt p ≤ 1) && resultCtlOk (pFmt p) (pRctl p) && decide (pRctl p % 8 ≠ 4) && decide (pExpected p ≤ 144) &&
        decide (1 ≤ pElems p) && decide (pElems p ≤ 4096) &&
        decide (pLand p + pElems p * entryBytes (pWide p) ≤ 0x400000) &&
        decide (pOut p + pElems p * elemSize (pFmt p) ≤ 0x400000)
    else
      (if pOp p = 0 then pFmt p == 0 else decide (pFmt p ≤ 3)) && decide (pExpected p ≤ 4096) &&
        decide (8 ≤ pMsgBytes p) && decide (pMsgBytes p ≤ 4096) && decide (pMsgBytes p % 8 = 0) &&
        decide (pLand p + pExpected p * pMsgBytes p ≤ 0x400000)

/-- A post is refused with INTERNAL (R404). -/
def State.postRefused (s : State) (k : Nat) (p : Post) : Bool :=
  !(s.cstOn (pCst p) && s.partOfCluster (k / 64) == some (s.fget (R.COL_CST_CFG.partition (pCst p)))) ||
    !postFieldsOk p ||
    !(s.openPosts (fun j q => decide (j / 64 = k / 64) && j != k && pCst q == pCst p && pSeq q == pSeq p)).isEmpty

/-! Parking (R409, R410). -/

/-- Bytes of a parked message. -/
def parkAddr (m : Parked) : Nat := stagingBufBase m.cluster + 4096 * m.place

/-- The first parking slot of a cluster that is free. -/
def State.freePark (s : State) (c : Nat) : Option Nat :=
  (List.range 256).find? (fun i => !s.parked.any (fun m => m.cluster == c && m.place == i))

/-- Parking slots are freed, and those that were refused are told. -/
def State.unpark (s : State) (f : Parked → Bool) : State :=
  let gone := s.parked.filter f
  let hit := fun (w : Nat × Nat) => gone.any (fun m => m.cluster == w.1)
  let s1 : State := { s with parked := s.parked.filter (fun m => !f m), parkWaits := s.parkWaits.filter (fun w => !hit w) }
  (s.parkWaits.filter hit).foldl (fun s w => s.emit (.vc3 w.2 4 [w.1])) s1

/-! Exact partials (R413 to R415). -/

/-- The fewest 64-bit words that hold a signed value. -/
def wordsFor (v : Int) : Nat :=
  if v = 0 then 0
  else ((List.range 70).find? (fun n => decide (0 < n) && decide (-(2 ^ (64 * n - 1) : Int) ≤ v) && decide (v < (2 ^ (64 * n - 1) : Int)))).getD 69

/-- Index of the lowest nonzero word. -/
def firstWord (v : Int) : Nat :=
  if v = 0 then 0 else ((List.range 69).find? (fun n => decide (v % (2 ^ (64 * (n + 1)) : Int) ≠ 0))).getD 0

/-- Compressed form of an entry (R414). -/
def AccEntry.compress (e : AccEntry) : List Byte :=
  let f := firstWord e.value
  let v := e.value / (2 ^ (64 * f) : Int)
  let n := wordsFor v
  leBytes 8 (clsCode e.cls + e.invalid.toNat * 4 + e.zeroNeg.toNat * 8 + e.nonempty.toNat * 16 + n * 32 + f * 4096) ++
    leBytes (8 * n) (v % (2 ^ (64 * n) : Int)).toNat

/-- The entry at the front of compressed bytes, and the bytes after it. -/
def AccEntry.expand (bs : List Byte) : AccEntry × List Byte :=
  let h := leAt bs 0 8
  let n := fld h 5 7
  let v : Int := if n = 0 then 0 else signedOf (64 * n) (leAt bs 8 (8 * n)) * (2 ^ (64 * fld h 12 7) : Int)
  let c := clsOf (fld h 0 2)
  ({ value := v, cls := c, pos := decide (c = .posInf), neg := decide (c = .negInf), invalid := bit h 2, zeroNeg := bit h 3,
     nonempty := bit h 4 }, bs.drop (8 + 8 * n))

/-- `n` entries at the front of a payload, and the bytes after them. -/
def takeEntries (raw wide : Bool) (n : Nat) (bs : List Byte) : List AccEntry × List Byte :=
  match n with
  | 0 => ([], bs)
  | n + 1 =>
    let e := if raw then (AccEntry.ofRaw wide bs, bs.drop (entryBytes wide)) else AccEntry.expand bs
    let r := takeEntries raw wide n e.2
    (e.1 :: r.1, r.2)

def sumEntries (wide : Bool) (l : List AccEntry) : AccEntry := l.foldl (AccEntry.merge wide) .empty

/-- Entry `i` of a post's landing area. -/
def State.landEntry (s : State) (k i : Nat) : AccEntry :=
  let p := s.post k
  let n := entryBytes (pWide p)
  AccEntry.ofRaw (pWide p) (s.padBytes (padOf k p) (pLand p + n * i) n)

/-- The checksum test of R415. -/
def checksumOk (a b : AccEntry) : Bool :=
  if a.cls = .finite ∧ b.cls = .finite then a.value == b.value else decide (a.cls = b.cls) && a.invalid == b.invalid

/-! Landing (R404, R412, R413). -/

/-- Poisoned words of a scratchpad range stay poisoned though written; the spec names no outcome for the combiner (log
21). -/
def State.storeCombined (s : State) (c off : Nat) (bs : List Byte) (bad : Nat → Bool) : State :=
  let ws := (List.range (bs.length / 8 + 1)).filter (fun i => bad (off / 8 + i))
  ws.foldl (fun s i => s.setPoison ((padBase c + off) / 8 + i)) (s.storePad c off bs)

/-- Words of a scratchpad that are poisoned, by word offset. -/
def State.padBad (s : State) (c : Nat) (w : Nat) : Bool := s.poison.contains (padBase c / 8 + w)

/-- FADD of a payload into a landing area: result bytes and flags. -/
def addPayload (fmt : Nat) (old new : List Byte) : List Byte × Flags :=
  let z := elemSize fmt
  (List.range (new.length / z)).foldl (fun r i =>
    let a := addFp fmt (rmodeOf 0 0) (leAt old (z * i) z) (leAt new (z * i) z)
    (r.1 ++ leBytes z a.1, r.2.or a.2)) ([], .zero)

/-- Flags of a post: invalid, overflow, underflow, inexact (R403). -/
def postFlags (f : Flags) : Nat := f.invalid.toNat + 2 * f.overflow.toNat + 4 * f.underflow.toNat + 8 * f.inexact.toNat

/-- Length of the run of landed messages from 0. -/
def landedRun (n : Nat) (l : List Nat) : Nat := ((List.range n).find? (fun m => !l.contains m)).getD n

/-- ABORT to every live member of the constellations but this package (R417, R422). -/
def State.sendAbort (s : State) (reason : Nat) (pairs : List (Nat × Nat)) : State :=
  let dests := ((pairs.flatMap (fun p => if s.cstOn p.1 then s.liveLdns p.1 else [])).filter (· != s.ldn)).eraseDups
  dests.foldl (fun s l => s.emit (.vc3 l 6 (reason :: pairs.flatMap (fun p => [p.1, p.2])))) s

/-- A tombstone is recorded; a full table drops its oldest (R417). -/
def State.addTomb (s : State) (t : Tomb) : State :=
  let s1 : State := { s with buried := s.buried ++ [t] }
  if 256 ≤ s.tombs.length then ({ s1 with tombs := s.tombs.drop 1 ++ [t] }).fincSat R.COL_CNT1.tomb_lost 1
  else { s1 with tombs := s.tombs ++ [t] }

/-- An ABORT has named the pair in its present epoch. -/
def State.isBuried (s : State) (pair : Nat × Nat) : Bool :=
  s.buried.any (fun x => x.cst == pair.1 && x.epoch == s.cstEpoch pair.1 && x.seq == pair.2)

/-- An ABORT takes effect on one collective (R417, R422): its posts complete, its parked messages are freed, messages of
it on their way will be discarded, and a crossing leaves a tombstone. -/
def State.abortOne (s : State) (reason : Nat) (pair peer : Nat × Nat) : State :=
  let e := s.cstEpoch pair.1
  let mine := fun (c q x : Nat) => c == pair.1 && q == pair.2 && x == e
  let st := if reason = 1 then stCrossed else stCheckFail
  let s1 := (s.openPosts (fun _ p => pCst p == pair.1 && pSeq p == pair.2)).foldl
    (fun s k => s.abortPost st (if reason = 1 then peer else (0, 0)) k) s
  let s2 := s1.unpark (fun m => mine m.cst m.seq m.epoch)
  let s3 : State := { s2 with rx := s2.rx.map (fun m => if mine m.cst m.seq m.epoch then { m with fate := 4 } else m) }
  if reason = 1 then s3.addTomb { cst := pair.1, epoch := e, seq := pair.2, peer := peer } else s3

def State.abortPairs (s : State) (reason : Nat) (pairs : List (Nat × Nat)) : State :=
  match pairs with
  | [a] => s.abortOne reason a (0, 0)
  | a :: b :: _ =>
    let one := fun (t : State) (p q : Nat × Nat) => if reason = 1 ∧ s.isBuried p then t else t.abortOne reason p q
    one (one s a b) b a
  | [] => s

/-- CHECK_FAIL of a collective here (R422): logged, and every member told. -/
def State.colCheckFail (s : State) (c cst seq : Nat) : State :=
  ((s.reportOpen (srcCluster c) codeColCheckFail 2).sendAbort 2 [(cst, seq)]).abortOne 2 (cst, seq) (0, 0)

/-- All expected arrivals have landed: the result is checked, delivered and witnessed (R413, R415, R423). -/
def State.finishPost (s : State) (k : Nat) : State :=
  let p := s.post k
  let c := padOf k p
  let st := if p.twinkle then stRecovered else stDone
  if pXsum p then
    let es := (List.range (pElems p)).map (s.landEntry k)
    if checksumOk (sumEntries (pWide p) es) p.checksum then
      let outs := es.map (fun e => e.drain (pWide p) (pFmt p) (pRctl p) 0 0)
      let bs := outs.flatMap (fun o => leBytes (elemSize (pFmt p)) o.1)
      let fl := postFlags (outs.foldl (fun f o => f.or o.2) .zero)
      let s1 := (s.storePad c (pOut p) bs).onPost k (fun p => { p with flags := p.flags ||| fl })
      s1.completePost k st (pExpected p) (BitVec.ofNat 64 (crc64 bs)) (0, 0)
    else s.colCheckFail (k / 64) (pCst p) (pSeq p)
  else
    let n := (pExpected p - 1) * pMsgBytes p + p.lastLen
    s.completePost k st (pExpected p) (BitVec.ofNat 64 (crc64 (s.padBytes c (pLand p) n))) (0, 0)

/-- Finish a post once everything expected has landed. -/
def State.settlePost (s : State) (k : Nat) : State :=
  if pOpen (s.post k) && decide (pExpected (s.post k) ≤ (s.post k).landed) then s.finishPost k else s

/-- A post counts one more arrival of message `m` (R405). -/
def State.arrive (s : State) (k m : Nat) : State :=
  let p := s.post k
  let l := insertNat p.landedSet m
  let n := if pPrefix p && !pXsum p then landedRun (pExpected p) l - landedRun (pExpected p) p.landedSet else 1
  let p1 : Post := { p with landedSet := l, landed := p.landed + 1, bytes := putBytes p.bytes 0x24 (leBytes 4 (p.landed + 1)) }
  (s.setPost k p1).countPost k n

/-- A LAND or FADD message lands. A message number or length that the post does not expect is discarded (log 21). -/
def State.landBytes (s : State) (k m : Nat) (bs : List Byte) (bad : Nat → Bool) : State :=
  let p := s.post k
  let c := padOf k p
  let off := pLand p + m * pMsgBytes p
  let last := m + 1 == pExpected p
  if !(decide (m < pExpected p) && (bs.length == pMsgBytes p || (last && decide (bs.length ≤ pMsgBytes p)))) then s
  else
    let r := if pOp p = 1 then addPayload (pFmt p) (s.padBytes c off bs.length) bs else (bs, Flags.zero)
    let s1 := s.storeCombined c off r.1 (fun w => bad (w - off / 8) || (pOp p == 1 && s.padBad c w))
    let s2 := s1.onPost k (fun p => { p with flags := p.flags ||| postFlags r.2, lastLen := if last then bs.length else p.lastLen })
    (s2.arrive k m).settlePost k

/-- A message of an exact partial lands (R413, R415). -/
def State.landExact (s : State) (k src : Nat) (bs : List Byte) (bad : Bool) : State :=
  let p := s.post k
  let c := padOf k p
  let w := pWide p
  let z := entryBytes w
  let h := leAt bs 0 8
  let first := fld h 0 12
  let n := fld h 12 13
  if pElems p < first + n then s
  else
    let r := takeEntries (s.speaksV3 src) w n (bs.drop 8)
    let s1 := (List.range n).foldl (fun s i =>
      let off := pLand p + z * (first + i)
      s.storeCombined c off ((s.landEntry k (first + i)).merge w (r.1.getD i .empty) |>.raw w)
        (fun x => bad || s.padBad c x)) s
    let chk := bit h 25
    let sum := if chk then p.checksum.merge w (AccEntry.expand r.2).1 else p.checksum
    let old := (p.partials.find? (fun x => x.1 == src)).getD (src, 0, none)
    let total := if chk then some (fld h 26 12) else old.2.2
    let now := (src, old.2.1 + 1, total)
    let whole := total == some now.2.1
    let rest := p.partials.filter (fun x => x.1 != src)
    let s2 := s1.setPost k { p with checksum := sum, partials := if whole then rest else now :: rest }
    if whole then (s2.arrive k p.landed).settlePost k else s2

/-- A complete message lands in a post (R402, R423: one that passed on its resend makes the collective a twinkle). -/
def State.landMsg (s : State) (k src m : Nat) (exact retried : Bool) (bs : List Byte) (bad : Nat → Bool) : State :=
  let s1 := if retried then s.onPost k (fun p => { p with twinkle := true }) else s
  if exact != pXsum (s1.post k) then s
  else if exact then s1.landExact k src bs ((List.range (bs.length / 8 + 1)).any bad)
  else s1.landBytes k m bs bad

/-! Posting (R404). -/

/-- The parked messages of a newly posted collective land, oldest first (R406, R409). -/
def State.takeParked (s : State) (k : Nat) : State :=
  let p := s.post k
  let mine := fun (m : Parked) => m.cluster == k / 64 && m.cst == pCst p && m.seq == pSeq p && m.epoch == p.epoch
  let s1 := (s.parked.filter mine).foldl (fun s m =>
    if pOpen (s.post k) then
      let a := parkAddr m
      let s1 := s.correctAt (.staging m.cluster (4096 * m.place)) m.len
      s1.landMsg k m.srcLdn m.msg m.exact m.retried (s1.bytes a m.len) (fun i => decide (8 * i < m.len) && s1.poison.contains (a / 8 + i))
    else s) s
  s1.unpark mine

/-- An entry is posted. -/
def State.postEntry (s : State) (k : Nat) : State :=
  let p := s.post k
  let b1 := putBytes p.bytes 0x20 [0, 0]
  let b2 := putBytes b1 0x24 (List.replicate 20 0)
  let p1 : Post := { Post.free with bytes := b2, epoch := s.cstEpoch (pCst p) }
  let s1 := s.setPost k p1
  if s.postRefused k p1 then s1.completePost k stInternal 0 0 (0, 0)
  else
    let t := s.tombs.find? (fun t => t.cst == pCst p && t.epoch == p1.epoch && t.seq == pSeq p)
    match t with
    | some t => ({ s1 with tombs := s1.tombs.erase t }).completePost k stCrossed 0 0 t.peer
    | none =>
      let z := AccEntry.raw (pWide p) .empty
      let s2 := if pXsum p then
          s1.storePad (padOf k p) (pLand p) ((List.replicate (pElems p) z).flatten)
        else s1
      s2.takeParked k

/-- A write of bytes of a post entry. An incomplete entry changes by no write; 1 in its first byte posts it, any other
value leaves or frees it (R403; log 21). -/
def State.postWrite (s : State) (k off : Nat) (bs : List Byte) : State :=
  let p := s.post k
  if pOpen p then s
  else
    let p1 : Post := { p with bytes := putBytes p.bytes off bs }
    let s1 := s.setPost k (if off = 0 ∧ bs.headD 0 = 0 then { Post.free with bytes := p1.bytes } else p1)
    if off = 0 ∧ bs.headD 0 = 1 then s1.postEntry k else s1

/-- POST. -/
def execPost (cluster i : Nat) (entry : List Byte) (s : State) : Res :=
  whenever (decide (cluster < 128) && decide (i < 64)) (s.postWrite (64 * cluster + i) 0 (entry.take 64)) s

/-! Arrivals (R401, R402, R408). -/

/-- The fate of a message, decided at its first packet (R408, R410, R417). -/
def State.fateOf (s : State) (h : ColHdr) : Nat :=
  let d := (h.epoch + 2 ^ 16 - s.cstEpoch h.cst) % 2 ^ 16
  if !s.cstOn h.cst || decide (32768 ≤ d) then 2
  else if s.tombs.any (fun t => t.cst == h.cst && t.epoch == h.epoch && t.seq == h.seq) then 4
  else if d = 0 ∧ !(s.openPosts (fun k p => decide (k / 64 = h.dstCluster) && pCst p == h.cst && pSeq p == h.seq)).isEmpty then 0
  else if (s.freePark h.dstCluster).isSome then 1
  else 3

/-- The received message of a packet. -/
def RxMsg.matches (h : ColHdr) (src : Nat) (m : RxMsg) : Bool :=
  m.cst == h.cst && m.epoch == h.epoch && m.seq == h.seq && m.srcLdn == src && m.cluster == h.dstCluster && m.msg == h.msg

/-- All packets of a message have come: its bytes in order. -/
def RxMsg.whole (m : RxMsg) : Option (List Byte) :=
  match m.lastPkt with
  | none => none
  | some n =>
    if (List.range (n + 1)).all (fun i => m.pkts.any (fun p => p.1 == i)) then
      some ((List.range (n + 1)).flatMap (fun i => match m.pkts.find? (fun p => p.1 == i) with | some p => p.2 | none => []))
    else none

/-- Payload of a message whose CRC-32C and length are right. -/
def payloadOf (bs : List Byte) : Option (List Byte) :=
  let n := bs.length - 8
  if 8 < bs.length ∧ n ≤ 4096 ∧ fld (leAt bs n 8) 32 13 = n ∧ crc32c (bs.take n) = fld (leAt bs n 8) 0 32 then some (bs.take n) else none

/-- A message is parked. -/
def State.park (s : State) (m : RxMsg) (bs : List Byte) (i : Nat) : State :=
  let p : Parked := { cst := m.cst, epoch := m.epoch, seq := m.seq, srcLdn := m.srcLdn, cluster := m.cluster, msg := m.msg, exact := m.exact, retried := m.retried, place := i, len := bs.length }
  let a := parkAddr p
  { (s.write a bs).clearPoison a bs.length with parked := s.parked ++ [p] }

/-- A whole message takes its fate. -/
def State.rxDone (s : State) (m : RxMsg) (bs : List Byte) : State :=
  let reply := fun (t : State) (ty : Nat) => t.emit (.vc3 m.srcLdn ty [m.cst, m.epoch, m.seq, m.msg])
  let s0 : State := { s with rx := s.rx.erase m }
  let full := fun (t : State) =>
    reply ({ t with parkWaits := if t.parkWaits.contains (m.cluster, m.srcLdn) then t.parkWaits else t.parkWaits ++ [(m.cluster, m.srcLdn)] }.fincSat R.COL_CNT0.park_full 1) 3
  if m.fate = 3 then full s0
  else
    match payloadOf bs with
    | none =>
      let s1 := (reply s 5).fincSat R.COL_CNT0.resends 1
      if m.retried then ({ s1 with rx := s1.rx.erase m }).colCheckFail m.cluster m.cst m.seq
      else { s1 with rx := s1.rx.map (fun x => if x = m then { m with retried := true, pkts := [], lastPkt := none } else x) }
    | some pay =>
      match m.fate with
      | 0 =>
        (match s0.openPosts (fun k p => decide (k / 64 = m.cluster) && pCst p == m.cst && pSeq p == m.seq && p.epoch == m.epoch) with
         | k :: _ => reply (s0.landMsg k m.srcLdn m.msg m.exact m.retried pay (fun _ => false)) 2
         | [] => reply s0 2)
      | 1 =>
        (match s0.openPosts (fun k p => decide (k / 64 = m.cluster) && pCst p == m.cst && pSeq p == m.seq && p.epoch == m.epoch) with
         | k :: _ => reply (s0.landMsg k m.srcLdn m.msg m.exact m.retried pay (fun _ => false)) 2
         | [] =>
           match s0.freePark m.cluster with
           | some i => reply (s0.park m pay i) 2
           | none => full s0)
      | 2 => reply (s0.fincSat R.COL_CNT0.stale 1) 2
      | _ => reply s0 2

/-- COL_DATA: one packet of a message arrives. -/
def execColData (now src : Nat) (h : ColHdr) (payload : List Byte) (s : State) : Res :=
  if !(decide (h.cst < 1024) && decide (h.dstCluster < 128) && decide (h.pkt < 32)) then .next s
  else
    let s1 := s.advance now
    let add := fun (m : RxMsg) =>
      { m with pkts := (h.pkt, payload) :: m.pkts.filter (fun p => p.1 != h.pkt), lastPkt := if h.lastPkt then some h.pkt else m.lastPkt }
    let new : RxMsg := { cst := h.cst, epoch := h.epoch % 2 ^ 16, seq := h.seq, srcLdn := src, cluster := h.dstCluster, msg := h.msg, exact := h.exact, pkts := [], lastPkt := none, retried := false, fate := s1.fateOf h }
    let found := s1.rx.find? (RxMsg.matches h src)
    let m := add (found.getD new)
    let s2 : State := match found with
      | some x => { s1 with rx := s1.rx.map (fun y => if y = x then m else y) }
      | none =>
        { s1 with rx := s1.rx ++ [m], tombs := if m.fate = 4 then s1.tombs.filter (fun t => !(t.cst == h.cst && t.epoch == h.epoch && t.seq == h.seq)) else s1.tombs }
    .next (match m.whole with | some bs => s2.rxDone m bs | none => s2)

/-- ABORT. -/
def execAbort (reason : Nat) (pairs : List (Nat × Nat)) (s : State) : Res :=
  whenever (reason == 1 || reason == 2) (s.abortPairs reason (pairs.take 2)) s

/-! Crossed collectives (R416). -/

/-- The parked message by which a post is blocked. -/
def State.blockedBy (s : State) (k : Nat) : Option Parked :=
  let p := s.post k
  s.parked.find? (fun m =>
    m.cluster == k / 64 && m.cst != pCst p && s.cstOn m.cst && (s.cstLdns m.cst).any (fun l => (s.cstLdns (pCst p)).contains l) &&
      (s.openPosts (fun j q => decide (j / 64 = k / 64) && pCst q == m.cst && pSeq q == m.seq && q.epoch == m.epoch)).isEmpty)

/-- CROSS_TIMEOUT: the post has been blocked for cross_us. -/
def execCrossTimeout (cluster i : Nat) (s : State) : Res :=
  let k := 64 * cluster + i
  let p := s.post k
  if !(decide (cluster < 128) && decide (i < 64) && pOpen p) then .next s
  else
    match s.blockedBy k with
    | none => .next s
    | some m =>
      let pairs := [(pCst p, pSeq p), (m.cst, m.seq)]
      .next ((((s.fincSat R.COL_CNT0.crossings 1).reportOpen (srcCluster cluster) codeCrossed 0).sendAbort 1 pairs).abortPairs 1 pairs)

/-! Dark members (R420, R421). -/

/-- A LOST is to apply at transit `t`, or at the next one when `t` has fired. -/
def State.takeLost (s : State) (ldn t : Nat) : State :=
  if t ≤ s.transitNo then ({ s with lostAt := s.lostAt ++ [(ldn, s.transitNo + 1)] }).fincSat R.COL_CNT1.late_lost 1
  else { s with lostAt := s.lostAt ++ [(ldn, t)] }

/-- LOST. -/
def execLost (ldn t : Nat) (s : State) : Res := whenever (decide (ldn < 144)) (s.takeLost ldn t) s

/-- This package declares an LDN dark: every live member of every constellation that includes it is told, and its locks
are orphaned (R431). -/
def State.declareDark (s : State) (ldn : Nat) : State :=
  let t := s.transitNo + 2
  let cs := (List.range 1024).filter (fun i => s.cstOn i && (s.cstLdns i).contains ldn)
  let dests := ((cs.flatMap s.liveLdns).filter (fun l => l != s.ldn && l != ldn)).eraseDups
  let s1 := dests.foldl (fun s l => s.emit (.vc3 l 7 [ldn, t])) (s.reportOpen srcPackage codeMemberDark 2)
  ((if cs.isEmpty then s1 else s1.takeLost ldn t)).orphanLdn ldn

/-- COL_DARK_DECLARE: PF2 may write COL_DARK too. An LDN out of range leaves the field as it was. -/
def execColDarkDeclare (fn : Fn) (ldn : Nat) (s : State) : Res :=
  if !(colRights fn || fn == .pf 2) then .next (s.refuseWrite fn A.COL_DARK true true)
  else
    let s1 := if ldn < 144 then s.fset R.COL_DARK.ldn ldn else s
    .next (if s1.fget R.COL_DARK.ldn < 144 then s1.declareDark (s1.fget R.COL_DARK.ldn) else s1)

/-- LIVENESS_NO_ANSWER: a dead target; of a VC3 message, its LDN is declared dark (R337, R420). -/
def execLivenessNoAnswer (id : Nat) (s : State) : Res :=
  match s.req id with
  | none => .next s
  | some r =>
    if !r.querying then .next s
    else .next (if r.kind = 4 then (s.endDead id).declareDark r.dst else s.endDead id)

/-- LIVENESS_ANSWER: ALIVE restarts the timer; STALLED makes the request a dead-target request. -/
def execLivenessAnswer (id : Nat) (alive : Bool) (s : State) : Res :=
  match s.req id with
  | none => .next s
  | some r =>
    if !r.querying then .next s
    else if alive then .next (s.setReq id (some { r with querying := false }))
    else .next (if r.kind = 4 then (s.endDead id).declareDark r.dst else s.endDead id)

/-- The epoch of a constellation advances: posts of the old epoch complete, stale parked messages and tombstones are
freed, and what is still arriving in the old epoch is stale (R399, R408, R417, R421). -/
def State.shrink (s : State) (i : Nat) : State :=
  let e := s.cstEpoch i
  let ks := s.openPosts (fun _ p => pCst p == i)
  let s1 := ks.foldl (fun s k => (s.abortPost stShrink (0, 0) k).finc (R.COL_CST_STATUS.shrink_aborts i) 1) s
  let s2 := s1.fset (R.COL_CST_CFG.epoch i) ((e + 1) % 2 ^ 16)
  let s3 := s2.unpark (fun m => m.cst == i && decide (32768 ≤ (m.epoch + 2 ^ 16 - (e + 1) % 2 ^ 16) % 2 ^ 16))
  { s3 with tombs := s3.tombs.filter (fun t => t.cst != i), buried := s3.buried.filter (fun t => t.cst != i),
            rx := s3.rx.map (fun m =>
              if m.cst = i ∧ 32768 ≤ (m.epoch + 2 ^ 16 - (e + 1) % 2 ^ 16) % 2 ^ 16 then { m with fate := 2 } else m) }

/-- LOST_APPLY at transit `n`: LDNs whose declaration is due go dark in every constellation that includes them. -/
def State.applyLost (s : State) (n : Nat) : State :=
  let due := s.lostAt.filter (fun e => decide (e.2 ≤ n))
  due.foldl (fun s e =>
      ((List.range 1024).filter (fun i => s.cstOn i && (s.liveLdns i).contains e.1)).foldl (fun s i =>
        ((((s.cstRange i).filter (fun j => s.fget (R.COL_MEMBER.ldn j) == e.1)).foldl
          (fun s j => s.fset (R.COL_MEMBER.dark j) 1) s).shrink i |>.renumber i).shrinkSolves (fun v => leAt v.block 0x98 2 == i)) s)
    { s with lostAt := s.lostAt.filter (fun e => !decide (e.2 ≤ n)) }

/-! Commits (R397, R398). -/

/-- Entry `i` is staged as a constellation. -/
def State.staged (s : State) (i : Nat) : Bool := s.fon (R.COL_CST_NEXT.change i) && s.fon (R.COL_CST_NEXT.next_valid i)

/-- Two ranges of member entries meet. -/
def rangesMeet (a an b bn : Nat) : Bool := decide (a < b + bn) && decide (b < a + an) && decide (0 < an) && decide (0 < bn)

/-- A staged entry passes R398. -/
def State.stagedOk (s : State) (i : Nat) : Bool :=
  let b := s.fget (R.COL_CST_NEXT.member_base i)
  let n := s.fget (R.COL_CST_NEXT.member_count i)
  let part := s.fget (R.COL_CST_NEXT.partition i)
  let ldns := (s.nextRange i).map (fun j => s.fget (R.COL_MEMBER.ldn j))
  decide (1 ≤ n) && decide (n ≤ 144) && decide (b + n ≤ 16384) && decide (ldns.eraseDups.length = n) &&
    ldns.all (fun l => decide (l < 144)) &&
    ((s.nextRange i).filter (fun j => s.fget (R.COL_MEMBER.ldn j) == s.ldn && s.fget (R.COL_MEMBER.partition j) == part)).length == 1 &&
    s.partPresent part &&
    (List.range 1024).all (fun j => j == i ||
      (!(s.cstOn j && rangesMeet b n (s.fget (R.COL_CST_CFG.member_base j)) (s.fget (R.COL_CST_CFG.member_count j))) &&
       !(s.staged j && rangesMeet b n (s.fget (R.COL_CST_NEXT.member_base j)) (s.fget (R.COL_CST_NEXT.member_count j)))))

/-- COL_COMMIT; with cancel in the same write, cancel governs. -/
def execColCommit (fn : Fn) (cancel : Bool) (s : State) : Res :=
  if !colRights fn then .next (s.refuseWrite fn A.COL_CMD true true)
  else if cancel then .next (s.fset R.COL_STATUS.commit_pending 0)
  else if s.transitNo + 1 < s.fget R.COL_AT.at_transit ∧
      (List.range 1024).all (fun i => !s.staged i || s.stagedOk i) then
    .next (s.fset R.COL_STATUS.commit_pending 1)
  else .next (s.fset R.COL_STATUS.commit_err 1)

/-- COL_CANCEL. -/
def execColCancel (fn : Fn) (s : State) : Res :=
  if !colRights fn then .next (s.refuseWrite fn A.COL_CMD true true)
  else .next (s.fset R.COL_STATUS.commit_pending 0)

/-- One changed entry takes its staged form. A list that changes clears its dark bits and advances the epoch; a
destroyed constellation frees its parked messages (R397, R399, R409). -/
def State.applyCst (s : State) (i : Nat) : State :=
  let same := s.cstOn i && s.fget (R.COL_CST_NEXT.member_base i) == s.fget (R.COL_CST_CFG.member_base i) &&
    s.fget (R.COL_CST_NEXT.member_count i) == s.fget (R.COL_CST_CFG.member_count i)
  let s0 := s.fset (R.COL_CST_NEXT.change i) 0
  if s.fon (R.COL_CST_NEXT.next_valid i) then
    let s1 := (s0.fset (R.COL_CST_CFG.valid i) 1).fset (R.COL_CST_CFG.partition i) (s.fget (R.COL_CST_NEXT.partition i))
    if same then s1.renumber i
    else
      let s2 := (s1.shrink i).fset (R.COL_CST_CFG.member_base i) (s.fget (R.COL_CST_NEXT.member_base i))
      let s3 := s2.fset (R.COL_CST_CFG.member_count i) (s.fget (R.COL_CST_NEXT.member_count i))
      ((s3.cstRange i).foldl (fun s j => s.fset (R.COL_MEMBER.dark j) 0) s3).renumber i
  else
    let s1 := (s0.openPosts (fun _ p => pCst p == i)).foldl (fun s k => s.abortPost stShrink (0, 0) k) s0
    let s2 := (s1.fset (R.COL_CST_CFG.valid i) 0).unpark (fun m => m.cst == i)
    { s2 with rx := s2.rx.map (fun m => if m.cst = i then { m with fate := 2 } else m) }

/-- COL_APPLY at transit `n`. -/
def State.applyCol (s : State) (n : Nat) : State :=
  if s.fon R.COL_STATUS.commit_pending && decide (s.fget R.COL_AT.at_transit ≤ n) then
    ((List.range 1024).filter (fun i => s.fon (R.COL_CST_NEXT.change i))).foldl State.applyCst (s.fset R.COL_STATUS.commit_pending 0)
  else s

/-! Sending (R407, R410, R414, R420). -/

/-- Whole message as DATA: payload and trailer. -/
def withTrailer (bs : List Byte) : List Byte := bs ++ leBytes 8 (crc32c bs + bs.length * 2 ^ 32)

/-- A message leaves: a request times it (R420), and one with no way is a dead-target request at once. -/
def State.sendOut (s : State) (c : Nat) (o : OutMsg) : State :=
  let h : ColHdr := { cst := o.cst, epoch := o.epoch, seq := o.seq, srcIndex := o.srcIndex, dstCluster := o.dstCluster, lastPkt := true, pkt := 0, msg := o.msg, exact := o.exact }
  let own := o.dstLdn == s.ldn
  let id := s.freeReq
  let r : RackOut :=
    { dst := o.dstLdn, desc := 0, off := 0, kind := 4, len := o.bytes.length, core := none, mover := none, cands := [],
      epoch := false, issuedIn := s.fget R.TRN_NUMBER.transit, partition := 0, timeoutUs := s.fget R.COL_CTL.dead_us, querying := false }
  let s1 : State := { s.setReq id (some r) with outbox := s.outbox ++ [(c, { o with req := some id })] }
  if !own && (s.candsFor (s.partOfCluster c) o.dstLdn).isEmpty then (s1.endDead id).declareDark o.dstLdn
  else s1.emit (.vc3Data o.dstLdn h (withTrailer o.bytes))

/-- A held message is sent again. -/
def State.resendOut (s : State) (c : Nat) (o : OutMsg) (resent : Bool) : State :=
  let s1 : State := { s with outbox := s.outbox.erase (c, o) }
  let s2 := match o.req with | some id => s1.setReq id none | none => s1
  s2.sendOut c { o with resent := resent, parkWait := false }

/-- The held message that an answer names. -/
def State.heldMsg (s : State) (cst epoch seq msg src : Nat) : Option (Nat × OutMsg) :=
  s.outbox.find? (fun x => x.2.cst == cst && x.2.epoch == epoch && x.2.seq == seq && x.2.msg == msg && x.2.dstLdn == src)

/-- DELIVERED: the message is freed and the writes that made it are acknowledged. -/
def execDelivered (cst epoch seq msg src : Nat) (s : State) : Res :=
  match s.heldMsg cst epoch seq msg src with
  | none => .next s
  | some x =>
    let s1 : State := { s with outbox := s.outbox.erase x }
    let s2 := match x.2.req with | some id => s1.setReq id none | none => s1
    .next (x.2.waits.foldl (fun s w => s.endWinWait stDone w) s2)

/-- PARK_FULL: the message is kept for a later resend. -/
def execParkFull (cst epoch seq msg src : Nat) (s : State) : Res :=
  match s.heldMsg cst epoch seq msg src with
  | none => .next s
  | some x =>
    let s1 : State := match x.2.req with | some id => s.setReq id none | none => s
    .next { s1 with outbox := s1.outbox.map (fun y => if y = x then (y.1, { y.2 with parkWait := true, req := none }) else y) }

/-- PARK_FREE: every message held for that cluster is sent again. -/
def execParkFree (cluster src : Nat) (s : State) : Res :=
  .next ((s.outbox.filter (fun x => x.2.dstLdn == src && x.2.dstCluster == cluster && x.2.parkWait)).foldl
    (fun s x => s.resendOut x.1 x.2 x.2.resent) s)

/-- PARK_RETRY_TIMER: 10 us after a PARK_FULL the `k`-th message of the cluster's outbound buffer is sent again. -/
def execParkRetryTimer (cluster k : Nat) (s : State) : Res :=
  match (s.outbox.filter (fun x => x.1 == cluster))[k]? with
  | some x => if x.2.parkWait then .next (s.resendOut x.1 x.2 x.2.resent) else .next s
  | none => .next s

/-- RESEND: the message is sent once more. One that fails again is given up, and the writes that made it end with
CHECK_FAIL (log 21). -/
def execResend (cst epoch seq msg src : Nat) (s : State) : Res :=
  match s.heldMsg cst epoch seq msg src with
  | none => .next s
  | some x =>
    if x.2.resent then
      let s1 : State := { s with outbox := s.outbox.erase x }
      let s2 := match x.2.req with | some id => s1.setReq id none | none => s1
      .next (x.2.waits.foldl (fun s w => s.endWinWait stCheckFail w) s2)
    else .next (s.resendOut x.1 x.2 true)

/-! Send slots (R407). -/

def wState (w : SendSlot) : Nat := leAt w.bytes 0x00 1
def wKind (w : SendSlot) : Nat := leAt w.bytes 0x01 1
def wCst (w : SendSlot) : Nat := leAt w.bytes 0x02 2
def wSeq (w : SendSlot) : Nat := leAt w.bytes 0x04 4
def wDst (w : SendSlot) : Nat := leAt w.bytes 0x08 2
def wCluster (w : SendSlot) : Nat := leAt w.bytes 0x0A 1
def wBase (w : SendSlot) : Nat := leAt w.bytes 0x0C 2
def wSize (w : SendSlot) : Nat := leAt w.bytes 0x0E 2
def wWide (w : SendSlot) : Bool := wKind w == 2

/-- Bytes of the window a message (kind 0) or partial takes. -/
def wUnit (w : SendSlot) : Nat := if wKind w = 0 then wSize w else wSize w * entryBytes (wWide w)

/-- Destination of a slot: a live member of a constellation of the cluster's partition. -/
def State.slotDst (s : State) (k : Nat) : Option Nat :=
  let w := s.slot k
  if s.cstOn (wCst w) && s.partOfCluster (k / 64) == some (s.fget (R.COL_CST_CFG.partition (wCst w))) then (s.liveLdns (wCst w))[wDst w]?
  else none

/-- A slot is armed and its fields are in range; a slot with a field out of range takes no write (log 21). -/
def State.slotArmed (s : State) (k : Nat) : Bool :=
  let w := s.slot k
  wState w == 1 && decide (wKind w ≤ 2) && decide (wCluster w < 128) && decide (wBase w < 4096) && (s.slotDst k).isSome &&
    if wKind w = 0 then decide (8 ≤ wSize w) && decide (wSize w ≤ 4096) && decide (wSize w % 8 = 0)
    else decide (1 ≤ wSize w) && decide (wSize w ≤ 4096)

/-- A message of a slot leaves, numbered `m`, with the writes that made it. -/
def State.slotSend (s : State) (k m : Nat) (bs : List Byte) (waits : List WinWait) : State :=
  let w := s.slot k
  s.sendOut (k / 64)
    { cst := wCst w, epoch := s.cstEpoch (wCst w), seq := wSeq w, srcIndex := s.fget (R.COL_CST_CFG.self_index (wCst w)),
      dstLdn := (s.slotDst k).getD 0, dstCluster := wCluster w, msg := m % 4096, bytes := bs, exact := wKind w != 0,
      resent := false, parkWait := false, req := none, waits := waits }

/-- The message of a partial that is in progress leaves (R415). -/
def State.flushPartial (s : State) (k : Nat) (last : Bool) : State :=
  let w := s.slot k
  let chk := if last then w.sum.compress else []
  let h := w.first % 4096 + w.count * 2 ^ 12 + (if last then 2 ^ 25 + (w.sentPart + 1) * 2 ^ 26 else 0)
  let mine := fun (x : Nat × WinWait) => last || decide (x.1 < w.first + w.count)
  let s1 := s.slotSend k (wBase w + w.sent) (leBytes 8 h ++ w.body ++ chk) ((w.waits.filter mine).map Prod.snd)
  s1.setSlot k
    { w with waits := w.waits.filter (fun x => !mine x), sent := w.sent + 1, sentPart := if last then 0 else w.sentPart + 1,
             first := if last then 0 else w.first + w.count, count := 0, body := [], sum := if last then .empty else w.sum }

/-- One whole entry of a partial joins the message in progress. -/
def State.slotEntry (s : State) (k : Nat) (bs : List Byte) : State :=
  let w := s.slot k
  let v3 := s.speaksV3 ((s.slotDst k).getD 255)
  let e := AccEntry.ofRaw (wWide w) bs
  let enc := if v3 then bs else e.compress
  let full := if v3 then decide ((if wWide w then 7 else 51) ≤ w.count) else decide (4096 < 8 + w.body.length + enc.length)
  let s1 := if full then s.flushPartial k false else s
  let w1 := s1.slot k
  let w2 : SendSlot := { w1 with count := w1.count + 1, body := w1.body ++ enc, sum := w1.sum.merge (wWide w1) e }
  let s2 := s1.setSlot k w2
  if w2.first + w2.count = wSize w2 then
    let s3 := if 4096 < 8 + w2.body.length + w2.sum.compress.length then s2.flushPartial k false else s2
    s3.flushPartial k true
  else s2

/-- One byte written into a window. -/
def State.slotByte (s : State) (k : Nat) (b : Byte) : State :=
  let w := s.slot k
  let w1 : SendSlot := { w with next := w.next + 1, buf := w.buf ++ [b] }
  if wKind w = 0 then
    if w1.buf.length = wSize w then
      let s1 := s.setSlot k { w1 with buf := [], waits := [] }
      s1.slotSend k (wBase w + w.next / wSize w) w1.buf (w1.waits.map Prod.snd)
    else s.setSlot k w1
  else if w1.buf.length = entryBytes (wWide w) then (s.setSlot k { w1 with buf := [] }).slotEntry k w1.buf
  else s.setSlot k w1

/-- What a window write does: it is taken, it ends as FAULT_ADDR, or it waits for room in the outbound buffer. -/
inductive WinRes where
  | taken
  | fault
  | full
deriving DecidableEq, Repr

/-- A write at offset `off` of the window of slot `k` (R407). `wait` is told when the message that holds the last byte
of the write is delivered. -/
def State.windowWrite (s : State) (k off : Nat) (bs : List Byte) (wait : WinWait) : State × WinRes :=
  let w := s.slot k
  let fresh := w.buf.isEmpty && w.count == 0 && decide (off % wUnit w = 0)
  if !s.slotArmed k then (s, .fault)
  else if !(off == w.next || fresh) then (s, .fault)
  else
    let s0 := s.setSlot k { w with next := off }
    let put := (bs.take (bs.length - 1)).foldl (fun s b => s.slotByte k b) s0
    let w1 := put.slot k
    let entry := if wKind w = 0 then 0 else (off + bs.length - 1) % wUnit w / entryBytes (wWide w)
    let s1 := (put.setSlot k { w1 with waits := w1.waits ++ [(entry, wait)] })
    let s2 := (bs.drop (bs.length - 1)).foldl (fun s b => s.slotByte k b) s1
    if 64 < (s2.outbox.filter (fun x => x.1 == k / 64)).length then (s, .full) else (s2, .taken)

/-- A send slot is written: a slot disarmed or armed anew discards a partly written message, whose writes end as
FAULT_ADDR (R407; log 21). -/
def State.slotWrite (s : State) (k off : Nat) (bs : List Byte) : State :=
  let w := s.slot k
  let b := putBytes w.bytes off bs
  if off = 0 then w.waits.foldl (fun s x => s.endWinWait stFaultAddr x.2) (s.setSlot k { SendSlot.free with bytes := b })
  else s.setSlot k { w with bytes := b }

/-- SEND_SLOT_ARM. -/
def execSendSlotArm (cluster i : Nat) (slot : List Byte) (s : State) : Res :=
  whenever (decide (cluster < 128) && decide (i < 32)) (s.slotWrite (64 * cluster + i) 0 (slot.take 32)) s

/-- SEND_WINDOW_WRITE. -/
def execSendWindowWrite (cluster i off : Nat) (data : List Byte) (s : State) : Res :=
  if !(decide (cluster < 128) && decide (i < 32) && decide (off + data.length ≤ 0x1000000) && !data.isEmpty) then .next s
  else
    match s.windowWrite (64 * cluster + i) off data (.bare cluster i off) with
    | (t, .taken) => .next t
    | (_, .fault) => .next (s.emit (.winEnd cluster i off stFaultAddr))
    | (_, .full) => .next s

end Sys2Proof.Machine
end

