-- ==== Sys2Proof/Machine/Bus.lean ====
section
/-! DEFINITION. Where an access of a core or a fetch engine goes (R283, R320, R321, R403, R407, R583, R84), and what a
read or a write does there. -/
namespace Sys2Proof.Machine

/-- Done bits of a partition's step are set, as a write of TRN_PART_STEP does under the W1S rule (R84). -/
def State.stepSet (s : State) (p bits : Nat) : State :=
  s.setReg (A.TRN_PART_STEP p) (s.reg (A.TRN_PART_STEP p) ||| BitVec.ofNat 64 (bits % 8))

/-- What lies at an address, for one who asks. -/
inductive Target where
  /-- Scratchpad of a T-core: its own, through port A or port B. -/
  | pad (c off : Nat)
  /-- Package memory that the access reaches. -/
  | mem (pa : Nat)
  /-- Rack-global address. -/
  | rack (a : Nat)
  /-- Own atomic port. -/
  | port (off : Nat)
  /-- Step port of the own partition. -/
  | step (p off : Nat)
  | post (k off : Nat)
  | slot (k off : Nat)
  | window (k off : Nat)
  | fault
deriving DecidableEq, Repr

/-- What a requester may reach by package physical address. -/
structure Reach where
  part : Option Nat
  /-- Cluster whose posts and send slots it may use, and whose send windows. -/
  posts : Option Nat
  win : Option Nat
  /-- Number of its atomic port (R321); cores also have the step port and the aperture. -/
  core : Option Nat
deriving DecidableEq, Repr

def State.reachOfCore (s : State) (u : CoreId) : Reach :=
  match u with
  | .tc c => { part := s.partOfTcore c, posts := some (c / 4), win := some (c / 4), core := some c }
  | .pc c => { part := s.partOfPcore c, posts := none, win := none, core := some (512 + c) }

/-- A fetch engine reaches memory and the send windows of its cluster (R283, R407). -/
def State.reachOfFe (s : State) (c : Nat) : Reach := { part := s.partOfTcore c, posts := none, win := some (c / 4), core := none }

def portBase : Nat := 0x1300000000
def stepBase : Nat := 0x1310000000
def postBase : Nat := 0x1500000000
def winBase : Nat := 0x1600000000

/-- Target of a package physical address. -/
def State.target (s : State) (r : Reach) (pa : Nat) : Target :=
  if 2 ^ 48 ≤ pa then .fault
  else if 2 ^ 47 ≤ pa then
    let w := (pa - 2 ^ 47) / 2 ^ 39
    if r.core.isSome && s.fon (R.RMM_APT.valid w) && r.part == some (s.fget (R.RMM_APT.partition w)) then
      .rack (s.fget (R.RMM_APT.ldn w) * 2 ^ 56 + s.fget (R.RMM_APT.base_512g w) * 2 ^ 39 + (pa - 2 ^ 47) % 2 ^ 39)
    else .fault
  else if stepBase ≤ pa ∧ pa < stepBase + 128 then
    (if r.core.isSome && r.part == some ((pa - stepBase) / 8) then .step ((pa - stepBase) / 8) (pa % 8) else .fault)
  else if portBase ≤ pa ∧ pa < portBase + 704 * 64 then
    (if r.core = some ((pa - portBase) / 64) ∧ pa % 64 < 0x30 then .port (pa % 64) else .fault)
  else if postBase ≤ pa ∧ pa < postBase + 128 * 0x10000 then
    let c := (pa - postBase) / 0x10000
    let o := (pa - postBase) % 0x10000
    if r.posts ≠ some c then .fault
    else if o < 0x1000 then .post (64 * c + o / 64) (o % 64)
    else if o < 0x1400 then .slot (64 * c + (o - 0x1000) / 32) (o % 32)
    else .fault
  else if winBase ≤ pa ∧ pa < winBase + 4096 * 0x1000000 then
    let k := (pa - winBase) / 0x1000000
    if r.win = some (k / 32) ∧ s.slotArmed (64 * (k / 32) + k % 32) then .window (64 * (k / 32) + k % 32) ((pa - winBase) % 0x1000000)
    else .fault
  else if (s.reach r.part pa).isSome then .mem pa
  else .fault

/-- Scratchpad offset that a T-core's own address names, through port A or the port-B window (R275, R583). -/
def State.ownOffset (s : State) (c a : Nat) : Option Nat :=
  if a < 0x400000 then some a
  else if a < 0x800000 ∧ s.exchange c (a - 0x400000) then some (a - 0x400000)
  else none

/-- Target of an address of a core (R213, R583). Translation of a P core is a free value, one draw an access (log 5). -/
def State.coreTarget (s : State) (u : CoreId) (store : Bool) (draw va : Nat) : Target :=
  match u with
  | .tc c =>
    if va < 0x800000 then (match s.ownOffset c va with | some o => .pad c o | none => .fault)
    else s.target (s.reachOfCore u) va
  | .pc c =>
    match Config.translate draw c (va / 4096) with
    | some (page, w, _) => if store && !w then .fault else s.target (s.reachOfCore u) (page * 4096 + va % 4096)
    | none => .fault

/-- The access goes to memory past the caches: that of a control core, or of a P core in an uncached page (R213,
R292). -/
def uncachedAt (u : CoreId) (draw va : Nat) : Bool :=
  match u with
  | .tc _ => true
  | .pc c => match Config.translate draw c (va / 4096) with | some (_, _, un) => un | none => false

/-- Pieces of [va, va + n): runs that cross no 64 B line, 32 B in the send slots. -/
def accessPieces (va n : Nat) : List (Nat × Nat) :=
  (linePieces (n / 64 + 2) va n 0).flatMap (fun p =>
    let a := (va + p.1) % 64
    if a < 32 ∧ 32 < a + p.2 ∧ postBase ≤ va ∧ va < winBase then [(p.1, 32 - a), (p.1 + (32 - a), p.2 - (32 - a))] else [p])

/-- Lines that a store of bytes at a package address writes in part (R292). -/
def State.partLines (s : State) (pa n : Nat) : List Nat :=
  (linePieces (n / 64 + 2) pa n 0).filterMap (fun p =>
    match s.locOf (pa + p.1) with
    | some l => if l.home.isSome && decide (p.2 < 64) then some l.line else none
    | none => none)

/-! Reads. -/

/-- Runs of [a, a + n) that cross no 8 B word: offset and length. -/
def wordRuns (a n : Nat) : List (Nat × Nat) :=
  (List.range ((a + n + 7) / 8 - a / 8)).map (fun i =>
    let lo := Nat.max a (8 * (a / 8 + i))
    (lo - a, Nat.min (a + n) (8 * (a / 8 + i) + 8) - lo))

/-- Parts of a read of local bytes: one, or one a word where a word is poisoned (R225, R281). -/
def localParts (va a n : Nat) (bs : List Byte) (bad : Nat → Nat → Bool) : List VPart :=
  (if bad a n then wordRuns a n else [(0, n)]).map (fun r =>
    { addr := va + r.1, len := r.2, req := none, status := some (if bad (a + r.1) r.2 then stCheckFail else stDone),
      bytes := (bs.drop r.1).take r.2 })

/-- A piece of a read, in parts that are known or on their way; none where it must wait. Cached reads of memory by P
cores are served by their caches, whose traffic is DIRECTORY_TRANSACTION. -/
def State.readPiece (s : State) (u : CoreId) (draw va n : Nat) : Option (State × List VPart) :=
  let part := fun (st : Nat) (bs : List Byte) => [{ addr := va, len := n, req := none, status := some st, bytes := bs : VPart }]
  match s.coreTarget u false draw va with
  | .pad c o => some (s.readPad c o n, localParts va o n (s.padBytes c o n) (fun o k => s.poisonedIn (padBase c + o) k))
  | .mem pa =>
    let s1 := if uncachedAt u draw va then s.touchPa pa n 0 else match s.locOf pa with | some l => s.correctAt l n | none => s
    some (s1, localParts va pa n (s.paBytes pa n) s.paPoisoned)
  | .rack a =>
    let key := (if s.ownLdn (rackLdn a) then s.ldn else rackLdn a) * 2 ^ 56 + a % 2 ^ 56
    let hit : Option (Nat × Nat × List Byte) := match u with
      | .pc _ => s.epochCache.find? (fun (e : Nat × Nat × List Byte) => decide (e.1 ≤ key) && decide (key + n ≤ e.1 + e.2.2.length) && e.2.1 == s.gen)
      | .tc _ => none
    match hit with
    | some e => some (s, part stDone ((e.2.2.drop (key - e.1)).take n))
    | none =>
      match s.rackIssue (askAt a n 0 (s.partOfCoreId u) (some u) none []) with
      | (t, .sent id) => some (t, [{ addr := va, len := n, req := some id, status := none, bytes := [] }])
      | (t, .ended st) =>
        let t1 := match excOf st false with | some c => if c = excLoad then t else t.pend u c 0 | none => t
        some (t1, part st (errorBytes n))
      | (_, .wait) => none
  | .port o =>
    let j := s.jumbe u
    let img := j.portCmd ++ leBytes 8 j.portOld.toNat ++ leBytes 8 j.portStatus.toNat
    if 0x20 ≤ o ∧ o < 0x28 ∧ j.portBusy then none else some (s, part stDone ((img.drop o).take n))
  | .step p o => some (s, part stDone (((leBytes 8 (s.reg (A.TRN_PART_STEP p)).toNat).drop o).take n))
  | .post k o => some (s, part stDone (((s.post k).bytes.drop o).take n))
  | .slot k o => some (s, part stDone (((s.slot k).bytes.drop o).take n))
  | .window _ _ => some (s, part stFaultAddr (errorBytes n))
  | .fault => some (s, part stFaultAddr (errorBytes n))

/-- The parts of a read of [va, va + n). -/
def State.readParts (s : State) (u : CoreId) (draw va n : Nat) : Option (State × List VPart) :=
  (accessPieces va n).foldl (fun r pc =>
    match r with
    | none => none
    | some (t, ps) =>
      match t.readPiece u draw (va + pc.1) pc.2 with
      | some (t1, p) => some (t1, ps ++ p)
      | none => none) (some (s, []))

/-- A part faults: its access traps there (R225, R227, R281). -/
def VPart.faults (p : VPart) : Bool := p.status == some stFaultAddr || p.status == some stCheckFail

/-- Every part has ended. -/
def partsDone (ps : List VPart) : Bool := ps.all (fun p => p.status.isSome)

/-- Bytes of all parts, in order. -/
def partsBytes (ps : List VPart) : List Byte := ps.flatMap (fun p => p.bytes)

/-- Address of the first part that faults. -/
def faultAt (ps : List VPart) : Option Nat := (ps.find? VPart.faults).map VPart.addr

/-! Writes. -/

/-- How a piece of a write ends: it is done or on its way, it faults, or the write must wait. -/
inductive PieceRes where
  | done
  | fault
  | wait
deriving DecidableEq, Repr

/-- A piece of a write by a core. Stores outside the own scratchpad are posted (R583). -/
def State.writePiece (s : State) (u : CoreId) (draw va : Nat) (bs : List Byte) : State × PieceRes :=
  let post := fun (t : State) (req status : Option Nat) (lines : List Nat) =>
    t.onJumbe u (fun j => { j with posted := j.posted ++ [{ addr := va, req := req, status := status, lines := lines }] })
  match s.coreTarget u true draw va with
  | .pad c o => (s.storePad c o bs, .done)
  | .mem pa =>
    if uncachedAt u draw va then (post (s.storePa pa bs) none (some stDone) (s.partLines pa bs.length), .done)
    else ((match s.locOf pa with | some l => s.endPoison l bs.length | none => s).paStore pa bs, .done)
  | .rack a =>
    match s.rackIssue (askAt a bs.length 1 (s.partOfCoreId u) (some u) none bs) with
    | (t, .sent id) => (post t (some id) none [], .done)
    | (t, .ended st) => if st = stFaultAddr then (s, .fault) else (post t none (some st) [], .done)
    | (_, .wait) => (s, .wait)
  | .port o =>
    if (s.jumbe u).portBusy then (s, .wait)
    else if 0x20 < o + bs.length then (s, .fault)
    else if o + bs.length = 0x20 ∧ bs.length = 8 then
      (match s.portIssue u (BitVec.ofNat 64 (leNat bs)) with | some t => (t, .done) | none => (s, .wait))
    else (s.onJumbe u (fun j => { j with portCmd := putBytes j.portCmd o bs }), .done)
  | .step p o => if o = 0 ∧ bs.length = 8 then (s.stepSet p (leNat bs), .done) else (s, .fault)
  | .post k o => (s.postWrite k o bs, .done)
  | .slot k o => (s.slotWrite k o bs, .done)
  | .window k o =>
    match s.windowWrite k o bs (.store u va) with
    | (t, .taken) => (post t none none [], .done)
    | (_, .fault) => (s, .fault)
    | (_, .full) => (s, .wait)
  | .fault => (s, .fault)

/-- What a write of [va, va + n) by pieces comes to. -/
inductive WriteRes where
  | done (s : State)
  /-- It faults at an address; nothing of the element there is written. -/
  | fault (addr : Nat)
  | wait

/-- A write of [va, va + n), line by line in address order; where a line faults, nothing is written and the address is
told. -/
def State.writeElem (s : State) (u : CoreId) (draw va : Nat) (bs : List Byte) : WriteRes :=
  (accessPieces va bs.length).foldl (fun r pc =>
    match r with
    | .done t =>
      (match t.writePiece u draw (va + pc.1) ((bs.drop pc.1).take pc.2) with
       | (t1, .done) => .done t1
       | (_, .fault) => .fault (va + pc.1)
       | (_, .wait) => .wait)
    | x => x) (.done s)

end Sys2Proof.Machine
end

