-- ==== Sys2Proof/Machine/Jumbe.lean ====
section
/-! DEFINITION. Jumbe instructions that touch no memory (R213 to R222, R228 to R231, R238, R239): the exact
accumulator, vector and scalar arithmetic, integer instructions, status registers, and taking a pending exception. -/
namespace Sys2Proof.Machine

/-! The layout of vector instructions (R219). -/

/-- The fields of a vector instruction. -/
structure VecFields where
  opcode : Nat
  fd : Nat
  fs1 : Nat
  fs2 : Nat
  etype : Nat
  grp : Nat
  func : Nat
deriving DecidableEq, Repr

def VecFields.ofWord (w : BitVec 32) : VecFields :=
  { opcode := fld w.toNat 0 8, fd := fld w.toNat 8 5, fs1 := fld w.toNat 13 5, fs2 := fld w.toNat 18 5,
    etype := fld w.toNat 23 3, grp := fld w.toNat 26 2, func := fld w.toNat 28 4 }

/-- An opcode of vector arithmetic; which of them spells which operation the spec does not say (log 15). -/
def VecFields.isArith (v : VecFields) : Bool := decide (0xC0 ≤ v.opcode ∧ v.opcode ≤ 0xDF)

/-- An opcode of vector memory access. -/
def VecFields.isAccess (v : VecFields) : Bool := decide (0xE0 ≤ v.opcode ∧ v.opcode ≤ 0xE7)

/-! Element types (R216). -/

/-- A type of element: an integer of some width, or a floating-point format of R102. -/
inductive EType where
  | int (w : Nat)
  | fp (code : Nat)
deriving DecidableEq, Repr

def EType.bits (t : EType) : Nat := match t with | .int w => w | .fp code => fmtBits code

/-- Element type of etype and its variant bit: E4M3 or E5M2, BF16 or FP16. -/
def etypeOf (etype : Nat) (var : Bool) : EType :=
  match etype % 8 with
  | 0 => .int 8
  | 1 => .int 16
  | 2 => .int 32
  | 3 => .int 64
  | 4 => .fp (if var then 5 else 4)
  | 5 => .fp (if var then 2 else 3)
  | 6 => .fp 1
  | _ => .fp 0

/-- Registers in a group (R219). -/
def grpRegs (grp : Nat) : Nat := match grp with | 0 => 1 | 1 => 2 | 2 => 4 | _ => 8

/-- The registers of a group of `g` at `f`, as what an instruction reads. -/
def groupSrcs (f g : Nat) : List Src := (List.range g).map (fun i => Src.f (f + i))

/-- The core implements the form: LV is for P application cores (R213). -/
def hasGrp (u : CoreId) (grp : Nat) : Bool := match u with | .tc _ => grp == 0 | .pc _ => true

/-- A group starts at a multiple of its size (R217). -/
def aligned (f g : Nat) : Bool := f % 32 % g == 0

/-- Two groups of registers share none. -/
def apart (f g k h : Nat) : Bool := decide (f % 32 + g ≤ k % 32) || decide (k % 32 + h ≤ f % 32)

/-- R218 for a destination and a source group. -/
def grpOk (fd gd fs gs : Nat) : Bool := (decide (fd % 32 = fs % 32) && gd == gs) || apart fd gd fs gs

/-- Element `i` of width `b` in the group at `f` (R217). -/
def Jumbe.elem (j : Jumbe) (f b i : Nat) : Nat := fld (j.fr (f + i * b / 128)).toNat (i * b % 128) b

/-- Write element `i` of width `b` in the group at `f`. -/
def Jumbe.putElem (j : Jumbe) (f b i v : Nat) : Jumbe :=
  let r := f + i * b / 128
  let lo := i * b % 128
  let old := (j.fr r).toNat
  j.setF r (BitVec.ofNat 128 (old - fld old lo b * 2 ^ lo + v % 2 ^ b * 2 ^ lo))

/-- Write elements 0 on. -/
def Jumbe.putElems (j : Jumbe) (f b : Nat) (vs : List Nat) : Jumbe :=
  (List.range vs.length).foldl (fun j i => j.putElem f b i (vs.getD i 0)) j

/-! One element of an operation. -/

/-- The operation rounds its floating-point result (R221). -/
def opRounds (op : AluOp) : Bool :=
  match op with
  | .add => true
  | .sub => true
  | .mul => true
  | .fma => true
  | .div => true
  | .sqrt => true
  | .convert => true
  | _ => false

/-- Predicate of a comparison, and whether it is quiet (R115). -/
def opPred (op : AluOp) : Option (Pred × Bool) :=
  match op with
  | .cmpEq => some (.eq, true)
  | .cmpNe => some (.ne, true)
  | .cmpUnord => some (.unord, true)
  | .cmpLt => some (.lt, false)
  | .cmpLe => some (.le, false)
  | .cmpGt => some (.gt, false)
  | .cmpGe => some (.ge, false)
  | .cmpLtQ => some (.lt, true)
  | .cmpLeQ => some (.le, true)
  | .cmpGtQ => some (.gt, true)
  | .cmpGeQ => some (.ge, true)
  | _ => none

/-- A shift by a count: a right shift copies the sign where asked; by the width or more it is open (log 5). -/
def shiftOf (b : Nat) (op : AluOp) (x n : Nat) : Nat :=
  if b ≤ n then Config.wideShift b x n % 2 ^ b
  else
    match op with
    | .shl => x * 2 ^ n % 2 ^ b
    | .sra => (signedOf b x / 2 ^ n % 2 ^ b).toNat
    | _ => x / 2 ^ n

/-- Operations on the bits of an element, whatever its type. -/
def bitOp (b : Nat) (op : AluOp) (x y d : Nat) : Option Nat :=
  match op with
  | .and => some (x &&& y)
  | .or => some (x ||| y)
  | .xor => some (x ^^^ y)
  | .shl => some (shiftOf b .shl x y)
  | .shr => some (shiftOf b .shr x y)
  | .sra => some (shiftOf b .sra x y)
  | .select => some (if Config.selects b d then x else y)
  | .move => some x
  | _ => none

/-- totalOrder of two elements of a type; integers in numerical order (R115). -/
def elemTotalOrder (t : EType) (x y : Nat) : Bool :=
  match t with
  | .fp code => match fpFmt code with | some f => totalOrder f x y | none => false
  | .int w => decide (signedOf w x ≤ signedOf w y)

/-- An integer element (R229: like every Jumbe integer add, it wraps and raises no flag). -/
def intElem (w : Nat) (op : AluOp) (x y d : Nat) : Nat :=
  let a := signedOf w x
  let b := signedOf w y
  let wrap := fun (v : Int) => (v % 2 ^ w).toNat
  match bitOp w op x y d with
  | some r => r
  | none =>
    match opPred op with
    | some p => Config.compareBits (compareNum p.1 p.2 (.ofInt a) (.ofInt b)).1 w % 2 ^ w
    | none =>
      match op with
      | .add => wrap (a + b)
      | .sub => wrap (a - b)
      | .mul => wrap (a * b)
      | .fma => wrap (a * b + signedOf w d)
      | .div => Config.integerQuotient 0 w x y % 2 ^ w
      | .sqrt => Config.integerQuotient 1 w x 0 % 2 ^ w
      | .min => wrap (if a ≤ b then a else b)
      | .minNum => wrap (if a ≤ b then a else b)
      | .max => wrap (if a ≤ b then b else a)
      | .maxNum => wrap (if a ≤ b then b else a)
      | .abs => wrap (if a < 0 then -a else a)
      | .neg => wrap (-a)
      | .totalOrd => Config.compareBits (elemTotalOrder (.int w) x y) w % 2 ^ w
      | _ => x

/-- A floating-point element with its flags (R112 to R116). A fused multiply-add adds the old destination. -/
def fpElem (code : Nat) (mode : RMode) (op : AluOp) (x y d : Nat) : Nat × Flags :=
  let a := decodeNum code x
  let b := decodeNum code y
  let down := decide (mode = .rdn)
  let out := fun (r : FpNum × Flags) => let e := deliver code mode false false r.1; (e.1, e.2.or r.2)
  match bitOp (fmtBits code) op x y d with
  | some r => (r, .zero)
  | none =>
    match opPred op with
    | some p =>
      let r := compareNum p.1 p.2 a b
      (Config.compareBits r.1 (fmtBits code) % 2 ^ fmtBits code, r.2)
    | none =>
      match op with
      | .add => out (FpNum.add down a b)
      | .sub => out (FpNum.add down a b.neg)
      | .mul => out (FpNum.mul a b)
      | .fma => out (FpNum.fma down a b (decodeNum code d))
      | .div => out (FpNum.div a b)
      | .sqrt => out (FpNum.sqrt a)
      | .min => out (minMax false a b)
      | .max => out (minMax true a b)
      | .minNum => out (minMaxNum false a b)
      | .maxNum => out (minMaxNum true a b)
      | .abs => out (if a.sign then a.neg.quiet else a.quiet, .zero)
      | .neg => out (a.neg.quiet, .zero)
      | .totalOrd => (Config.compareBits (elemTotalOrder (.fp code) x y) (fmtBits code) % 2 ^ fmtBits code, .zero)
      | _ => (x, .zero)

/-- A conversion between element types (R124, R125); within one type every bit is kept (R132). -/
def convertElem (src dst : EType) (mode : RMode) (e4m3nan : Bool) (x : Nat) : Nat × Flags :=
  if src = dst then (x, .zero)
  else
    let n := match src with | .int w => FpNum.ofInt (signedOf w x) | .fp code => decodeNum code x
    match dst with
    | .int w => deliverInt w mode n
    | .fp code => deliver code mode e4m3nan true n

def elemOf (t : EType) (mode : RMode) (op : AluOp) (x y d : Nat) : Nat × Flags :=
  match t with
  | .int w => (intElem w op x y d, .zero)
  | .fp code => fpElem code mode op x y d

/-! Vector arithmetic. -/

def isFp8 (t : EType) : Bool := t == .fp 4 || t == .fp 5

def isFpType (t : EType) : Bool := match t with | .fp _ => true | .int _ => false

/-- Results of elements with their flags: written from element 0 on, flags ORed. -/
def State.writeElems (s : State) (u : CoreId) (fd b : Nat) (rs : List (Nat × Flags)) : State :=
  s.retireInstr u (fun j => (j.putElems fd b (rs.map Prod.fst)).orFlags (rs.foldl (fun f r => f.or r.2) .zero))

/-- Registers of the sources an operation reads. -/
def opSources (op : AluOp) (fs1 fs2 : Nat) : List Nat :=
  match op with
  | .sqrt => [fs1]
  | .abs => [fs1]
  | .neg => [fs1]
  | .move => [fs1]
  | .convert => [fs1]
  | _ => [fs1, fs2]

/-- The operation reads the old destination. -/
def readsDest (op : AluOp) : Bool := op == .fma || op == .select

/-- Destination type of a conversion: the spec gives the conversions and no encoding for their target; the model takes
the etype from bits [2:0] of the fs2 field and its variant from bit 3 (log 15). -/
def convertTo (fs2 : Nat) : EType := etypeOf (fs2 % 8) (bit fs2 3)

/-- VECTOR_ARITH (R216 to R219, R221). A result shorter than the group leaves the rest of its last register. -/
def execVectorArith (u : CoreId) (op : AluOp) (word : BitVec 32) (s : State) : Res :=
  let v := VecFields.ofWord word
  let t := etypeOf v.etype (bit v.func 0)
  let dt := if op = .convert then convertTo v.fs2 else t
  let g := grpRegs v.grp
  let n := 128 * g / Nat.max t.bits dt.bits
  let gs := (n * t.bits + 127) / 128
  let gd := (n * dt.bits + 127) / 128
  let keeps := readsDest op || decide (n * dt.bits < 128 * gd)
  let srcs := (opSources op v.fs1 v.fs2).flatMap (fun f => groupSrcs f gs) ++ (if keeps then groupSrcs v.fd gd else [])
  s.instr u srcs (fun j =>
    let shape := v.isArith && hasGrp u v.grp && aligned v.fd gd && aligned v.fs1 gs &&
      (opSources op v.fs1 v.fs2).all (fun f => aligned f gs && (v.grp == 0 || grpOk v.fd gd f gs))
    let fp8ok := (!isFp8 t && !isFp8 dt) || op == .move || op == .convert
    let rounds := opRounds op && (isFpType t || isFpType dt) && t != dt || (opRounds op && isFpType t && op != .convert)
    if !(shape && fp8ok) then s.illegal u
    else
      match (if rounds then j.rmode else some .rne) with
      | none => s.illegal u
      | some mode =>
        s.writeElems u v.fd dt.bits ((List.range n).map (fun i =>
          let x := j.elem v.fs1 t.bits i
          if op = .convert then convertElem t dt mode j.e4m3nan x
          else elemOf t mode op x (j.elem v.fs2 t.bits i) (j.elem v.fd t.bits i))))

/-! Widening multiplies and dot products. -/

/-- Narrow and wide types of a widening multiply (R228). -/
def widenTypes (etype : Nat) : Option (EType × EType) :=
  match etype with
  | 0 => some (.int 8, .int 16)
  | 1 => some (.int 16, .int 32)
  | 5 => some (.fp 3, .fp 1)
  | 6 => some (.fp 1, .fp 0)
  | _ => none

/-- Product of two narrow elements in the wide type. -/
def widenElem (w : EType × EType) (mode : RMode) (x y : Nat) : Nat × Flags :=
  match w.1, w.2 with
  | .int n, .int m => ((signedOf n x * signedOf n y % 2 ^ m).toNat, .zero)
  | .fp a, .fp b =>
    let r := FpNum.mul (decodeNum a x) (decodeNum a y)
    let e := deliver b mode false false r.1
    (e.1, e.2.or r.2)
  | _, _ => (0, .zero)

/-- WIDENING_MULTIPLY (R228): func bit 0 the half of an SV source; func bit 1 an SV source used whole, into a group of 2
(log 15); groups of 2 and 4 into groups of twice the size. -/
def execWideningMultiply (u : CoreId) (word : BitVec 32) (s : State) : Res :=
  let v := VecFields.ofWord word
  let whole := v.grp != 0 || bit v.func 1
  let g := grpRegs v.grp
  let gd := if whole then 2 * g else 1
  s.instr u (groupSrcs v.fs1 g ++ groupSrcs v.fs2 g) (fun j =>
    match widenTypes v.etype with
    | none => s.illegal u
    | some w =>
      let b := w.1.bits
      let n := if whole then 128 * g / b else 64 / b
      let from_ := if !whole && bit v.func 0 then n else 0
      let shape := v.isArith && hasGrp u v.grp && decide (v.grp < 3) && (!whole || hasGrp u 1) && aligned v.fd gd &&
        aligned v.fs1 g && aligned v.fs2 g && (!whole || (grpOk v.fd gd v.fs1 g && grpOk v.fd gd v.fs2 g))
      match (if isFpType w.1 then j.rmode else some .rne) with
      | none => s.illegal u
      | some mode =>
        if !shape then s.illegal u
        else
          s.writeElems u v.fd w.2.bits ((List.range n).map (fun i =>
            widenElem w mode (j.elem v.fs1 b (from_ + i)) (j.elem v.fs2 b (from_ + i)))))

/-- Sources, k and destination type of a dot product (R229). -/
def dotTypes (etype func : Nat) : Option (EType × EType × Nat × EType) :=
  match etype with
  | 0 => some (.int 8, .int 8, 4, .int 32)
  | 4 => some (etypeOf 4 (bit func 1), etypeOf 4 (bit func 2), 4, .fp 1)
  | 5 => if bit func 0 then none else some (.fp 3, .fp 3, 2, .fp 1)
  | 6 => some (.fp 1, .fp 1, 2, .fp 0)
  | _ => none

/-- One lane: the exact sum of the products and the old value, rounded once; integers wrap (R229). -/
def dotLane (a b d : EType) (ctl : Nat) (ps : List (Nat × Nat)) (old : Nat) : Nat × Flags :=
  match a, b, d with
  | .fp x, .fp y, .fp z =>
    let e := ps.foldl (fun e p =>
      let m := FpNum.mul (decodeNum x p.1) (decodeNum y p.2)
      AccEntry.add true e m.1 m.2.invalid) (AccEntry.add true .empty (decodeNum z old) false)
    AccEntry.drain true e z ctl 0 0
  | _, _, _ =>
    (((ps.foldl (fun v p => v + signedOf a.bits p.1 * signedOf b.bits p.2) (signedOf d.bits old)) % 2 ^ d.bits).toNat, .zero)

/-- DOT_PRODUCT (R229). -/
def execDotProduct (u : CoreId) (word : BitVec 32) (s : State) : Res :=
  let v := VecFields.ofWord word
  let g := grpRegs v.grp
  s.instr u (groupSrcs v.fs1 g ++ groupSrcs v.fs2 g ++ groupSrcs v.fd g) (fun j =>
    match dotTypes v.etype v.func with
    | none => s.illegal u
    | some (a, b, k, d) =>
      let shape := v.isArith && hasGrp u v.grp && aligned v.fd g && aligned v.fs1 g && aligned v.fs2 g &&
        (v.grp == 0 || (grpOk v.fd g v.fs1 g && grpOk v.fd g v.fs2 g))
      match (if isFpType d then j.rmode else some .rne) with
      | none => s.illegal u
      | some _ =>
        if !shape then s.illegal u
        else
          s.writeElems u v.fd d.bits ((List.range (128 * g / d.bits)).map (fun l =>
            dotLane a b d (getField j.fpsr 8 4)
              ((List.range k).map (fun i => (j.elem v.fs1 a.bits (k * l + i), j.elem v.fs2 b.bits (k * l + i))))
              (j.elem v.fd d.bits l))))

/-! The exact accumulator (R230, R231). -/

/-- XCLR. -/
def execXclr (u : CoreId) (s : State) : Res :=
  s.instr u [] (fun _ => s.retireInstr u Jumbe.clearAcc)

/-- Add two terms, or raise XACC_LIMIT before adding anything (R231). -/
def State.xaccAdd (s : State) (u : CoreId) (f : AccEntry → AccEntry) : State :=
  if 2 ^ 40 < (s.jumbe u).xaccTerms + 2 then s.takeException u excXacc 0
  else s.retireInstr u (fun j => { j with xacc := f j.xacc, xaccTerms := j.xaccTerms + 2 })

/-- XDOT: two exact products. -/
def execXdot (u : CoreId) (fs1 fs2 : Nat) (s : State) : Res :=
  s.instr u [.f fs1, .f fs2, .acc] (fun j =>
    let term := fun (e : AccEntry) i =>
      let m := FpNum.mul (decodeNum 0 (j.elem fs1 64 i)) (decodeNum 0 (j.elem fs2 64 i))
      AccEntry.add true e m.1 m.2.invalid
    s.xaccAdd u (fun e => term (term e 0) 1))

/-- XADD: both elements. -/
def execXadd (u : CoreId) (fs1 : Nat) (s : State) : Res :=
  s.instr u [.f fs1, .acc] (fun j =>
    s.xaccAdd u (fun e => AccEntry.add true (AccEntry.add true e (decodeNum 0 (j.elem fs1 64 0)) false) (decodeNum 0 (j.elem fs1 64 1)) false))

/-- XRND: rounded once under JB_FPSR by the drain rule; func bit 0 clears after. -/
def execXrnd (u : CoreId) (fd func : Nat) (s : State) : Res :=
  s.instr u [.acc] (fun j =>
    match j.rmode with
    | none => s.illegal u
    | some _ =>
      let r := AccEntry.drain true j.xacc 0 (getField j.fpsr 8 3) 0 0
      s.retireInstr u (fun j =>
        let j1 := (j.setF fd (BitVec.ofNat 128 r.1)).orFlags r.2
        if bit func 0 then j1.clearAcc else j1))

/-! Scalar instructions. -/

/-- SCALAR_FP_OP (R215): formats FP64, FP32, FP16 and BF16; a conversion's target is the format whose code the fs2
field names (log 15). -/
def execScalarFpOp (u : CoreId) (op : AluOp) (fmt fd fs1 fs2 : Nat) (s : State) : Res :=
  s.instr u ((opSources op fs1 fs2).map Src.f ++ (if readsDest op then [.f fd] else [])) (fun j =>
    let b := fmtBits fmt
    let x := fld (j.fr fs1).toNat 0 b
    let y := fld (j.fr fs2).toNat 0 b
    let d := fld (j.fr fd).toNat 0 b
    let known := decide (fmt < 4) && (op != .convert || decide (fs2 < 4))
    let bitwise := op == .and || op == .or || op == .xor || op == .shl || op == .shr || op == .sra
    if !known || bitwise then s.illegal u
    else
      match (if opRounds op && !(op == .convert && fs2 == fmt) then j.rmode else some .rne) with
      | none => s.illegal u
      | some mode =>
        let r := if op = .convert then convertElem (.fp fmt) (.fp fs2) mode j.e4m3nan x else fpElem fmt mode op x y d
        s.retireInstr u (fun j => (j.setF fd (BitVec.ofNat 128 r.1)).orFlags r.2))

/-- Result of an integer instruction on two words: none for a branch. -/
def intResult (op : IntOp) (a b : Word) (imm : Word) : Option Word :=
  match op with
  | .add => some (a + b)
  | .sub => some (a - b)
  | .mul => some (a * b)
  | .and => some (a &&& b)
  | .or => some (a ||| b)
  | .xor => some (a ^^^ b)
  | .shl => some (BitVec.ofNat 64 (shiftOf 64 .shl a.toNat b.toNat))
  | .shr => some (BitVec.ofNat 64 (shiftOf 64 .shr a.toNat b.toNat))
  | .sra => some (BitVec.ofNat 64 (shiftOf 64 .sra a.toNat b.toNat))
  | .slt => some (if a.toInt < b.toInt then 1 else 0)
  | .sltu => some (if a.toNat < b.toNat then 1 else 0)
  | .li => some imm
  | _ => none

/-- Whether a branch is taken. -/
def branchTaken (op : IntOp) (a b : Word) : Bool :=
  match op with
  | .beq => a == b
  | .bne => a != b
  | .blt => decide (a.toInt < b.toInt)
  | .bge => decide (b.toInt ≤ a.toInt)
  | .bltu => decide (a.toNat < b.toNat)
  | .bgeu => decide (b.toNat ≤ a.toNat)
  | _ => false

/-- Integer registers an instruction reads, or what a status register waits for. -/
def intSources (op : IntOp) (xs1 xs2 : Nat) : List Src :=
  match op with
  | .li => []
  | .jal => []
  | .jalr => [.x xs1]
  | .readStatus .ffe => [.ffe]
  | .readStatus .xaccTerms => [.acc]
  | .readStatus _ => []
  | _ => [.x xs1, .x xs2]

/-- What a status register reads as (R221, R237, R239). JB_ME_WIDTH is not present on P application cores. -/
def State.statusReg (s : State) (u : CoreId) (r : StatusReg) : Word :=
  let j := s.jumbe u
  match r with
  | .fpsr => j.fpsr
  | .ffe => BitVec.ofNat 64 j.ffe
  | .trapElem => BitVec.ofNat 64 j.trapElem
  | .trapAddr => j.trapAddr
  | .cause => BitVec.ofNat 64 (j.causeCode + j.causeQueue * 256)
  | .xaccTerms => BitVec.ofNat 64 j.xaccTerms
  | .meWidth => match u with | .tc c => BitVec.ofNat 64 (s.jbMeWidth c) | .pc _ => 0

/-- INTEGER_OP (R584 names the class; its members and their results are the model's: log 15), status-register reads
among them. The second operand is x[xs2] + imm. -/
def execIntegerOp (u : CoreId) (op : IntOp) (xd xs1 xs2 : Nat) (imm : Word) (s : State) : Res :=
  s.instr u (intSources op xs1 xs2) (fun j =>
    let a := j.xr xs1
    match op with
    | .jal => (s.onJumbe u (fun j => j.setX xd (j.pc + 4))).setPc u (j.pc + imm)
    | .jalr => (s.onJumbe u (fun j => j.setX xd (j.pc + 4))).setPc u (a + imm)
    | .readStatus r => s.retireInstr u (fun j => j.setX xd (s.statusReg u r))
    | _ =>
      match intResult op a (j.xr xs2 + imm) imm with
      | some v => s.retireInstr u (fun j => j.setX xd v)
      | none => if branchTaken op a (j.xr xs2) then s.setPc u (j.pc + imm) else s.stepPc u)

/-! Status registers and exceptions. -/

/-- A JB_FPSR write: its RW fields (R221, R222). -/
def execFpsrWrite (u : CoreId) (value : Word) (s : State) : Res :=
  s.instr u [] (fun _ => s.retireInstr u (fun j => { j with fpsr := value &&& 0xF3F }))

/-- A write of JB_TRAP_ELEM (R239); made when no trap is pending, the next vector access discards it. -/
def execTrapElemWrite (u : CoreId) (value : Nat) (s : State) : Res :=
  s.instr u [] (fun _ => s.retireInstr u (fun j => { j with trapElem := value % 2 ^ 13 }))

/-- The pending exception with the lowest code (R238). -/
def firstPending (l : List (Nat × Nat)) : Option (Nat × Nat) :=
  l.foldl (fun a e => match a with | none => some e | some b => if e.1 < b.1 then some e else a) none

/-- EXCEPTION_TAKE: a pending exception is taken at an instruction boundary outside a handler, lowest code first; the
others remain pending (R238). -/
def execExceptionTake (u : CoreId) (s : State) : Res :=
  let j := s.jumbe u
  match firstPending j.pending with
  | some e =>
    whenever (s.coreOn u && !j.inHandler)
      ((s.onJumbe u (fun j => { j with pending := j.pending.erase e })).takeException u e.1 e.2) s
  | none => .next s

end Sys2Proof.Machine
end

