-- ==== Sys2Proof/Machine/JumbeMem.lean ====
section
/-! DEFINITION. Jumbe loads, stores and FENCE (R223 to R227, R230, R239, R583). -/
namespace Sys2Proof.Machine

/-- A precise memory fault of the instruction at `pc`: the address is recorded (R225). -/
def State.memFaultAt (s : State) (u : CoreId) (pc : Word) (store : Bool) (addr : Nat) : State :=
  (s.onJumbe u (fun j => { j with trapAddr := BitVec.ofNat 64 addr })).takeAt u (if store then excStore else excLoad) 0 pc

def State.memFault (s : State) (u : CoreId) (store : Bool) (addr : Nat) : State := s.memFaultAt u (s.jumbe u).pc store addr

/-- A vector access traps at an element (R225). -/
def State.elemFault (s : State) (u : CoreId) (pc : Word) (store : Bool) (elem addr : Nat) : State :=
  (s.onJumbe u (fun j => { j with trapElem := elem, trapPending := true })).memFaultAt u pc store addr

/-- A vector access starts at the element in JB_TRAP_ELEM when it resumes after a trap; a value written when no trap is
pending is discarded (R225, R239). -/
def Jumbe.firstElem (j : Jumbe) : Nat := if j.trapPending && !j.inHandler then j.trapElem else 0

/-- A vector access completes: JB_TRAP_ELEM returns to 0, but for one that a handler makes. -/
def Jumbe.accessDone (j : Jumbe) : Jumbe :=
  if j.trapPending && j.inHandler then j else { j with trapElem := 0, trapPending := false }

/-- The instruction is a vector access whose form exists on the core and names an aligned group (R213, R217, R219). -/
def vecFormOk (u : CoreId) (v : VecFields) (f : Nat) : Bool := v.isAccess && hasGrp u v.grp && aligned f (grpRegs v.grp)

/-- Elements of an access. -/
def VecFields.count (v : VecFields) : Nat := grpRegs v.grp * 128 / (etypeOf v.etype false).bits

/-- Deliver elements from `e0` up to (not including) `e1` of a group, in its registers `live`, from bytes that start at
element `e0`. -/
def Jumbe.deliverElems (j : Jumbe) (fd b e0 e1 : Nat) (live : List Nat) (bs : List Byte) : Jumbe :=
  (List.range (e1 - e0)).foldl (fun j i =>
    if live.contains ((fd + (e0 + i) * b / 128) % 32) then j.putElem fd b (e0 + i) (leAt bs (b / 8 * i) (b / 8)) else j) j

/-- First element, of those from `e0` on at `va`, any of whose bytes faults; with the address. -/
def faultElem (ps : List VPart) (va b e0 : Nat) : Option (Nat × Nat) :=
  (faultAt ps).map (fun a => (e0 + (a - va) / (b / 8), a))

/-- Value of a scalar load. -/
def scalarValue (size : Nat) (signed : Bool) (bs : List Byte) : Word :=
  if signed then BitVec.ofInt 64 (signedOf (8 * size) (leNat bs)) else BitVec.ofNat 64 (leNat bs)

/-! Loads. -/

/-- The load traps where its data faults: any but a first-fault load (R225, R226). -/
def PendLoad.traps (l : PendLoad) : Bool :=
  (faultAt l.parts).isSome && match l.dst with | .elems _ _ _ _ _ first => !first | _ => true

/-- The data of a load, all of which has come, reaches its destination; where it faults, elements below the fault do
and the load traps (R225, R226, R230, R231, R583). -/
def State.landLoad (s : State) (u : CoreId) (l : PendLoad) : State :=
  let bs := partsBytes l.parts
  match l.dst with
  | .x xd size signed =>
    match faultAt l.parts with
    | some a => s.memFaultAt u l.pc false a
    | none => s.onJumbe u (fun j => j.setX xd (scalarValue size signed bs))
  | .acc live =>
    match faultAt l.parts with
    | some a => s.memFaultAt u l.pc false a
    | none =>
      if live then s.onJumbe u (fun j => { j with xacc := AccEntry.ofRaw true bs, xaccTerms := 2 ^ 40 - 2 ^ 32 }) else s
  | .elems fd b e0 n live first =>
    let stop := faultElem l.parts ((l.parts.head?.map VPart.addr).getD 0) b e0
    let e1 := match stop with | some x => x.1 | none => n
    let s1 := s.onJumbe u (fun j => j.deliverElems fd b e0 e1 live bs)
    if first then s1.onJumbe u (fun j => { j with ffe := e1 })
    else match stop with | some x => s1.elemFault u l.pc false x.1 x.2 | none => s1

/-- Loads of the own scratchpad complete at once, and those of a P core once their lines are known; the destination of
any other is pending until its data returns (R583). -/
def loadsAtOnce (u : CoreId) (va : Nat) : Bool := match u with | .tc _ => decide (va < 0x800000) | .pc _ => true

/-- A load of [va, va + n) issues: it lands, or its destination is pending and the next instruction proceeds (R583).
What `done` does to the core is done as it issues. -/
def State.issueLoad (s : State) (u : CoreId) (dst : LoadDst) (va n : Nat) (done : Jumbe → Jumbe) : State :=
  match s.drawn.readParts u s.free va n with
  | none => s
  | some (t, ps) =>
    let l : PendLoad := { dst := dst, parts := ps, pc := (s.jumbe u).pc }
    if partsDone ps && l.traps then t.landLoad u l
    else if partsDone ps && loadsAtOnce u va then (t.landLoad u l).retireInstr u done
    else
      t.retireInstr u (fun j =>
        let j1 := (match dst with | .x xd _ _ => j.onDst (fun d => d.dropX xd) | _ => j)
        done { j1 with loads := j1.loads ++ [l] })

/-- The registers of a group. -/
def groupRegs (f g : Nat) : List Nat := (List.range g).map (fun i => (f + i) % 32)

/-- VECTOR_LOAD (R219, R223, R225). It waits for an older load of its group, whose elements it may leave (log 80). -/
def execVectorLoad (u : CoreId) (word : BitVec 32) (s : State) : Res :=
  let v := VecFields.ofWord word
  let g := grpRegs v.grp
  s.instr u (.x v.fs1 :: groupSrcs v.fd g) (fun j =>
    if !vecFormOk u v v.fd then s.illegal u
    else
      let b := (etypeOf v.etype false).bits
      let e0 := j.firstElem
      s.issueLoad u (.elems v.fd b e0 v.count (groupRegs v.fd g) false) ((j.xr v.fs1).toNat + b / 8 * e0)
        (b / 8 * (v.count - e0)) Jumbe.accessDone)

/-- VLFF never traps on a fault: JB_FFE holds the first faulting element, or the element count (R226). It waits for an
older one, so that JB_FFE is written in order. -/
def execVlff (u : CoreId) (word : BitVec 32) (s : State) : Res :=
  let v := VecFields.ofWord word
  let g := grpRegs v.grp
  s.instr u (.x v.fs1 :: .ffe :: groupSrcs v.fd g) (fun j =>
    if !vecFormOk u v v.fd then s.illegal u
    else
      let b := (etypeOf v.etype false).bits
      s.issueLoad u (.elems v.fd b 0 v.count (groupRegs v.fd g) true) (j.xr v.fs1).toNat (b / 8 * v.count) Jumbe.accessDone)

/-- XLOAD (R230, R231): the count leaves room for 2^32 terms. An address that is not aligned to 32 B faults (log 15). -/
def execXload (u : CoreId) (fs1 : Nat) (s : State) : Res :=
  s.instr u [.x fs1, .acc] (fun j =>
    let va := (j.xr fs1).toNat
    if va % 32 ≠ 0 then s.memFault u false va else s.issueLoad u (.acc true) va (entryBytes true) id)

/-- SCALAR_LOAD: from the own scratchpad at once; from elsewhere its register is pending until the data returns. -/
def execScalarLoad (u : CoreId) (xd xs1 : Nat) (imm : Word) (size : Nat) (signed : Bool) (s : State) : Res :=
  s.instr u [.x xs1] (fun j =>
    if !([1, 2, 4, 8].contains size) then s.illegal u
    else s.issueLoad u (.x (xd % 32) size signed) (j.xr xs1 + imm).toNat size id)

/-- LOAD_DATA_RETURN: the data of a pending load has come. A load that traps does so outside a handler, once no earlier
trap of a vector access waits to resume (log 80). -/
def execLoadDataReturn (u : CoreId) (k : Nat) (s : State) : Res :=
  let j := s.jumbe u
  match j.loads[k]? with
  | none => .next s
  | some l =>
    whenever (partsDone l.parts && (!l.traps || (s.coreOn u && !j.inHandler && !j.trapPending)))
      ((s.onJumbe u (fun j => { j with loads := j.loads.eraseIdx k })).landLoad u l) s

/-! Stores. -/

/-- VECTOR_STORE (R219, R223, R225): elements below the one that faults are stored. -/
def execVectorStore (u : CoreId) (word : BitVec 32) (s : State) : Res :=
  let v := VecFields.ofWord word
  s.instr u (.x v.fs1 :: groupSrcs v.fs2 (grpRegs v.grp)) (fun j =>
    if !vecFormOk u v v.fs2 then s.illegal u
    else
      let b := (etypeOf v.etype false).bits
      let e0 := j.firstElem
      let va := (j.xr v.fs1).toNat + b / 8 * e0
      let bs := fun (e1 : Nat) => (List.range (e1 - e0)).flatMap (fun i => leBytes (b / 8) (j.elem v.fs2 b (e0 + i)))
      match s.drawn.writeElem u s.free va (bs v.count) with
      | .done t => t.retireInstr u Jumbe.accessDone
      | .wait => s
      | .fault a =>
        let e1 := e0 + (a - va) / (b / 8)
        match s.drawn.writeElem u s.free va (bs e1) with
        | .done t => t.elemFault u j.pc true e1 a
        | _ => s.elemFault u j.pc true e0 va)

/-- XSAVE (R230): the raw entry of the accumulator. An address that is not aligned to 32 B faults (log 15). -/
def execXsave (u : CoreId) (fs1 : Nat) (s : State) : Res :=
  s.instr u [.x fs1, .acc] (fun j =>
    let va := (j.xr fs1).toNat
    if va % 32 ≠ 0 then s.memFault u true va
    else
      match s.drawn.writeElem u s.free va (j.xacc.raw true) with
      | .done t => t.stepPc u
      | .wait => s
      | .fault a => s.memFault u true a)

/-- SCALAR_STORE. -/
def execScalarStore (u : CoreId) (xs1 xs2 : Nat) (imm : Word) (size : Nat) (s : State) : Res :=
  s.instr u [.x xs1, .x xs2] (fun j =>
    let va := (j.xr xs1 + imm).toNat
    if !([1, 2, 4, 8].contains size) then s.illegal u
    else
      match s.drawn.writeElem u s.free va (leBytes size ((j.xr xs2).toNat % 2 ^ (8 * size))) with
      | .done t => t.stepPc u
      | .wait => s
      | .fault a => s.memFault u true a)

/-- JUMBE_FENCE (R583, R335, R340): it waits for every earlier store, atomic and load, and reports the stores that
failed; lines the core wrote in part drain (R292). -/
def execJumbeFence (u : CoreId) (s : State) : Res :=
  let j := s.jumbe u
  if !(s.coreOn u && j.loads.isEmpty && j.posted.all (fun p => p.status.isSome)) then .next s
  else
    let s1 := (s.drainLines (j.posted.flatMap Posted.lines)).retireInstr u (fun j => { j with posted := [] })
    .next (j.posted.foldl (fun s p => match excOf (p.status.getD stDone) true with | some c => s.pend u c 0 | none => s) s1)

end Sys2Proof.Machine
end

