-- ==== Sys2Proof/Machine/Fetch.lean ====
section
/-! DEFINITION. The fetch engine and the transfers of ring operations (R105, R284 to R288): starting one, issuing up to
16 elements, committing them in order, and ending. -/
namespace Sys2Proof.Machine

def opMove : Nat := 0x01
def opGather : Nat := 0x02
def opScatter : Nat := 0x03

/-- The transfer goes into the scratchpad. -/
def dInto (d : List Byte) : Bool := dOp d == opGather || (dOp d == opMove && dDir d == 0)
def dIndexed (d : List Byte) : Bool := dOp d != opMove
def dWiden (d : List Byte) : Bool := bit (dFlags d) 0
def dClass (d : List Byte) : Nat := fld (dFlags d) 1 2
/-- Bytes of a row or element in the scratchpad (R105: INT4 becomes INT8). -/
def dPadBytes (d : List Byte) : Nat := if dWiden d then 2 * dRowBytes d else dRowBytes d
def dIdxBytes (d : List Byte) : Nat := if dIdxSize d = 0 then 4 else 8

/-- A run of bytes lies in the scratchpad, or wholly in the port-B window of the exchange region (R275, R285). -/
def State.padRunOk (s : State) (c a n : Nat) : Bool :=
  decide (a + n ≤ 0x400000) ||
    (decide (0x400000 ≤ a) && decide (a + n ≤ 0x800000) && s.exchange c (a - 0x400000) && s.exchange c (a - 0x400000 + n - 1) &&
      (!s.compat c || decide (a / 0x10000 = (a + n - 1) / 0x10000)))

/-- Scratchpad extents of a descriptor. -/
def State.extentsOk (s : State) (c : Nat) (d : List Byte) : Bool :=
  (List.range (dRows d)).all (fun r => s.padRunOk c (dSpAddr d + r * dSpStride d) (dPadBytes d)) &&
    (!dIndexed d || s.padRunOk c (dIdxAddr d) (dRows d * dIdxBytes d))

/-- Fields of a descriptor are in range; `ring` for a descriptor of a ring, whose last bytes are its own (R284, R440). -/
def dFieldsOk (ring : Bool) (d : List Byte) : Bool :=
  decide (1 ≤ dOp d ∧ dOp d ≤ 3) && decide (dDir d ≤ (if dOp d = opMove then 1 else 0)) && decide (dFlags d < 8) && decide (dClass d < 3) &&
    (!dWiden d || dInto d) && decide (dSpace d ≤ 2) && decide (1 ≤ dRows d) &&
    decide (dRows d ≤ (if dIndexed d then 4096 else 65536)) && decide (1 ≤ dRowBytes d ∧ dRowBytes d ≤ 65536) &&
    decide (dSpStride d % 32 = 0) && decide (dIdxSize d ≤ 1) && decide (leAt d 0x29 1 = 0) && !bit (dBeacon d) 14 &&
    ((d.drop 0x2C).take (if ring then 16 else 20)).all (· == 0)

/-- Own scratchpad offset of an address of a transfer. -/
def State.padOff (_s : State) (a : Nat) : Nat := if a < 0x400000 then a else a - 0x400000

/-- Reach of a mover (R283, R407). -/
def State.reachOf (s : State) (w : Mover) : Reach :=
  match w with
  | .fe c => s.reachOfFe c
  | .op k => { part := match s.op k with | some o => some o.partition | none => none, posts := none, win := none, core := none }

/-- Function whose host memory a ring operation moves; a fetch engine of a control core has none. -/
def State.hostOf (s : State) (w : Mover) : Option (Fn × Bool) :=
  match w with
  | .fe _ => none
  | .op k => match s.op k with | some o => some (.vf o.vf, o.discarded) | none => none

/-- Address of element `e` in its space; none where its index is poisoned. -/
def State.elemAddr (s : State) (x : Xfer) (e : Nat) : Option Nat :=
  let d := x.desc
  if dIndexed d then
    let o := s.padOff (dIdxAddr d) + dIdxBytes d * e
    if s.poisonedIn (padBase x.core + o) (dIdxBytes d) then none
    else some ((dExtAddr d + leNat (s.padBytes x.core o (dIdxBytes d)) * dExtStride d) % 2 ^ 64)
  else some ((dExtAddr d + e * dExtStride d) % 2 ^ 64)

/-! Issuing one element. -/

/-- An element from package memory. -/
def State.loadLocal (s : State) (r : Reach) (d : List Byte) (a : Nat) : State × ElemSt :=
  let n := dRowBytes d
  if s.reachAll r.part a n then
    if s.paPoisoned a n then (s, .faulted stCheckFail) else (s.touchPa a n (dClass d), .arrived (s.paBytes a n))
  else (s.reportHeld a, .faulted stFaultAddr)

/-- An element to package memory, or into a send window. -/
def State.storeLocal (s : State) (w : Mover) (r : Reach) (e a : Nat) (bs : List Byte) : Option (State × ElemSt) :=
  match s.target r a with
  | .window k o =>
    (match s.windowWrite k o bs (.elem w e 0) with
     | (t, .taken) => some (t, .waiting 1 bs)
     | (_, .fault) => some (s, .faulted stFaultAddr)
     | (_, .full) => none)
  | _ =>
    if s.reachAll r.part a bs.length then
      let t := s.storePa a bs
      some (match w with | .fe c => t.onFe c (fun f => { f with lines := f.lines ++ s.partLines a bs.length }) | .op _ => t, .acked bs)
    else some (s.reportHeld a, .faulted stFaultAddr)

/-- An element of rack memory: one request a line. None where one must wait (R376). -/
def State.rackElem (s : State) (w : Mover) (e a : Nat) (part : Option Nat) (into : Bool) (n : Nat) (bs : List Byte) : Option State :=
  (linePieces (n / 64 + 2) a n 0).foldl (fun r pc =>
    match r with
    | none => none
    | some t =>
      match t.rackIssue (askAt (a + pc.1) pc.2 (if into then 0 else 1) part none (some (w, e, pc.1)) ((bs.drop pc.1).take pc.2)) with
      | (t1, .sent _) => some t1
      | (t1, .ended st) => some (t1.onElem w e (fun x => elemPiece x pc.1 st into []))
      | (_, .wait) => none) (some s)

/-- Element `e` of a transfer takes a state, as it is issued. -/
def State.putElemSt (s : State) (w : Mover) (x : Xfer) (e : Nat) (st : ElemSt) : State :=
  s.setXfer w (some { x with issued := e + 1, inFlight := x.inFlight ++ [(e, st)] })

/-- Issue the next element of a transfer (R286, R288); none where none may be: at most 16 elements are in flight, and none
issues after a fault. -/
def State.issueElem (s : State) (w : Mover) : Option State :=
  match s.xferOf w with
  | none => none
  | some x =>
    let d := x.desc
    let e := x.issued
    let failed := x.inFlight.any (fun p => match p.2 with | .faulted _ => true | _ => false)
    if x.total ≤ e ∨ 16 ≤ x.inFlight.length ∨ failed then none
    else
      let r := s.reachOf w
      let n := dRowBytes d
      let o := s.padOff (dSpAddr d + e * dSpStride d)
      let bs := s.padBytes x.core o n
      match s.elemAddr x e with
      | none => some (s.putElemSt w x e (.faulted stCheckFail))
      | some a =>
        if dInto d then
          match dSpace d with
          | 0 => let q := s.loadLocal r d a; some (q.1.putElemSt w x e q.2)
          | 1 => (s.putElemSt w x e (.waiting ((linePieces (n / 64 + 2) a n 0).length) (List.replicate n 0))).rackElem w e a r.part true n []
          | _ =>
            (match s.hostOf w with
             | some h => some ((s.emit (.dmaRead h.1 a n)).putElemSt w x e (.waiting 1 (List.replicate n 0)))
             | none => some (s.putElemSt w x e (.faulted stFaultAddr)))
        else if s.poisonedIn (padBase x.core + o) n then some (s.putElemSt w x e (.faulted stCheckFail))
        else
          let s0 := s.readPad x.core o n
          match dSpace d with
          | 0 => (match s0.storeLocal w r e a bs with | some q => some (q.1.putElemSt w x e q.2) | none => none)
          | 1 => (s0.putElemSt w x e (.waiting ((linePieces (n / 64 + 2) a n 0).length) bs)).rackElem w e a r.part false n bs
          | _ =>
            (match s.hostOf w with
             | some h => some ((if h.2 then s0 else s0.emit (.dma h.1 a bs)).putElemSt w x e (.waiting 1 bs))
             | none => some (s0.putElemSt w x e (.faulted stFaultAddr)))

/-- Issue as many elements as may be in flight (R286). -/
def State.issueElems (s : State) (w : Mover) (fuel : Nat) : State :=
  match fuel with
  | 0 => s
  | n + 1 => match s.issueElem w with | some t => t.issueElems w n | none => s

/-! Committing (R287). -/

/-- INT4 elements sign-extended to INT8, low half of a byte first (R104, R105). -/
def widenInt4 (bs : List Byte) : List Byte :=
  bs.flatMap (fun b => [BitVec.ofInt 8 (signedOf 4 (b.toNat % 16)), BitVec.ofInt 8 (signedOf 4 (b.toNat / 16))])

/-- Commit the next element where it has come or is acknowledged (R287): elements may come in any order, and are committed
in element order, those into the scratchpad being written then, so that the committed elements form a prefix. -/
def State.commitElem (s : State) (w : Mover) : Option State :=
  match s.xferOf w with
  | none => none
  | some x =>
    match x.inFlight.find? (fun p => p.1 == x.committed) with
    | some (e, .arrived bs) =>
      let out := if dWiden x.desc then widenInt4 bs else bs
      let s1 := s.storePad x.core (s.padOff (dSpAddr x.desc + e * dSpStride x.desc)) out
      some (s1.setXfer w (some { x with committed := e + 1, inFlight := x.inFlight.filter (fun p => p.1 != e), crc := crc64From x.crc out }))
    | some (e, .acked bs) =>
      some (s.setXfer w (some { x with committed := e + 1, inFlight := x.inFlight.filter (fun p => p.1 != e), crc := crc64From x.crc bs }))
    | _ => none

def State.commitElems (s : State) (w : Mover) (fuel : Nat) : State :=
  match fuel with
  | 0 => s
  | n + 1 => match s.commitElem w with | some t => t.commitElems w n | none => s

/-- The committed prefix shows in TC_FE_STATUS, or as the operation's progress, which its witness covers (R182). -/
def State.showCommitted (s : State) (w : Mover) : State :=
  match s.xferOf w with
  | none => s
  | some x =>
    match w with
    | .fe c => s.fset (R.TC_FE_STATUS.committed c) x.committed
    | .op k => s.onOp k (fun o =>
        { o with progress := BitVec.ofNat 64 x.committed, witness := BitVec.ofNat 64 (x.crc ^^^ (2 ^ 64 - 1)) })

/-- Commit what can be, then issue what can be. -/
def State.pumpXfer (s : State) (w : Mover) : State :=
  ((s.commitElems w 16).showCommitted w).issueElems w 16

/-! The commands. -/

/-- A transfer starts. -/
def State.beginXfer (s : State) (w : Mover) (core : Nat) (d : List Byte) : State :=
  let x : Xfer := { desc := d, core := core, total := dRows d, issued := 0, committed := 0, inFlight := [], crc := 2 ^ 64 - 1 }
  ((s.setXfer w (some x)).showCommitted w).issueElems w 16

/-- A fetch engine starts FEXEC (R284, R285): the descriptor is read and checked. -/
def State.startFe (s : State) (c op : Nat) : Res :=
  match s.atHead c .fe 0x10 with
  | none => .next s
  | some q =>
    let o := q0 q 8 22
    let d := s.padBytes c o 64
    let known := decide (1 ≤ dOp d ∧ dOp d ≤ 3)
    if (s.tcore c).fe.xfer.isSome || (known && dOp d != op) then .next s
    else
      let s1 := s.readPad c o 64
      if s.poisonedIn (padBase c + o) 64 then .next (s1.feHalt c 5 0 0)
      else if !(dFieldsOk false d && s.extentsOk c d) then .next (s1.feHalt c 1 0 0)
      else .next (s1.beginXfer (.fe c) c d)

/-- A ring operation starts its transfer through a T-core of its partition (R440). A field out of range ends it INTERNAL. -/
def State.startOpXfer (s : State) (k op : Nat) : Res :=
  match s.mayStartOp k op with
  | none => .next s
  | some o =>
    let cs := s.partTcores o.partition
    let s1 := s.drawn.beginOp k
    match cs[Config.ringCore s.free % Nat.max 1 cs.length]? with
    | none => .next (s1.endOp k stPartial)
    | some c =>
      if !(dFieldsOk true o.desc && s.extentsOk c o.desc) then .next (s1.endOp k stInternal)
      else .next ((s1.onOp k (fun o => { o with classFlags := o.classFlags ||| flagCount })).beginXfer (.op k) c o.desc)

def State.startXfer (s : State) (w : Mover) (op : Nat) : Res :=
  match w with
  | .fe c => s.startFe c op
  | .op k => s.startOpXfer k op

/-- MOVE. -/
def execMove (w : Mover) (s : State) : Res := s.startXfer w opMove

/-- GATHER. -/
def execGather (w : Mover) (s : State) : Res := s.startXfer w opGather

/-- SCATTER. -/
def execScatter (w : Mover) (s : State) : Res := s.startXfer w opScatter

/-- Host memory answers an element in flight. -/
def ElemSt.answer (st : ElemSt) (into : Bool) (n : Nat) (r : ElemResp) : ElemSt :=
  match r with
  | .data bs => if into then elemPiece st 0 stDone true (bs.take n) else st
  | .ack => if into then st else elemPiece st 0 stDone false []
  | .fault code => elemPiece st 0 (if code = stDone then stFaultAddr else code) into []

/-- Host memory answers read `e` of a matrix product. -/
def State.answerPart (s : State) (k e : Nat) (r : ElemResp) : State :=
  s.onOp k (fun o =>
    { o with parts := updateAt o.parts e (fun p =>
        if p.status.isSome || p.req.isSome then p
        else
          match r with
          | .data bs => { p with status := some stDone, bytes := loadBytes stDone p.len bs }
          | .ack => p
          | .fault code => { p with status := some (if code = stDone then stFaultAddr else code) }) })

/-- FE_ELEMENT_RESPONSE: an answer of host memory settles its element; those of memory and of the rack are known
already. What can commit does, and further elements issue. -/
def execFeElementResponse (w : Mover) (e : Nat) (r : ElemResp) (s : State) : Res :=
  match s.xferOf w with
  | none => (match w with | .op k => .next (s.answerPart k e r) | .fe _ => .next s)
  | some x =>
    let s1 := if dSpace x.desc = 2 then s.onElem w e (fun st => st.answer (dInto x.desc) (dRowBytes x.desc) r) else s
    .next (s1.pumpXfer w)

/-- The first element that faulted, and its status. -/
def Xfer.firstBad (x : Xfer) : Option (Nat × Nat) :=
  x.inFlight.foldl (fun a p =>
    match p.2 with
    | .faulted st => (match a with | some b => if p.1 < b.1 then some (p.1, st) else a | none => some (p.1, st))
    | _ => a) none

/-- Acknowledged elements among the 15 after `f` (R288). -/
def Xfer.landed (x : Xfer) (f : Nat) : Nat :=
  maskOf ((List.range 15).filter (fun i => x.inFlight.any (fun p => p.1 == f + 1 + i && match p.2 with | .acked _ => true | _ => false)))

/-- Code of TC_FE_ERR for a status. -/
def feCode (status : Nat) : Nat :=
  if status = stFaultAddr then 2 else if status = stKeyFault then 3 else if status = stCheckFail then 5 else 4

/-- The beacon that a descriptor names counts the completion (R284, R428). -/
def State.countDone (s : State) (d : List Byte) (unit : Nat) : State :=
  if bit (dBeacon d) 15 then s.hwAdd (dBeacon d % 2 ^ 14) unit else s

/-- Status of an operation that ends well (R178, R499). -/
def State.okStatus (s : State) (k : Nat) : Nat :=
  match s.op k with
  | some o => if o.reissues ≠ 0 then stReissued else if bit o.classFlags 0 || bit o.classFlags 1 then stRecovered else stDone
  | none => stDone

/-- The log entry of a fault in a transfer of a ring operation names its VF, ring and tag (R502, R582). -/
def State.opFault (s : State) (k core d : Nat) : State :=
  match s.op k with
  | some o => s.report (srcTcore core) codeFeFault 0 (opDetail o.tag o.vf (o.ring % 64) d)
  | none => s

/-- FE_COMPLETE: everything is committed, or an element faulted and everything in flight has settled (R288). -/
def execFeComplete (w : Mover) (s : State) : Res :=
  match s.xferOf w with
  | none => .next s
  | some x =>
    if x.committed = x.total then
      match w with
      | .fe c => .next (((s.setXfer w none).popQueue c .fe).countDone x.desc c)
      | .op k =>
        .next (((s.onOp k (fun o => { o with xfer := none })).endOp k (s.okStatus k)).countDone x.desc 0x3FF)
    else
      match x.firstBad with
      | none => .next s
      | some (f, st) =>
        if !(decide (x.committed = f) && x.inFlight.all (fun p => match p.2 with | .waiting _ _ => false | _ => true)) then .next s
        else
          let far := dOp x.desc == opMove && decide (4095 < f)
          let mask := if dInto x.desc || far then 0 else x.landed f
          let first := if far then 4095 else f
          match w with
          | .fe c => .next ((s.setXfer w none).feHalt c (feCode st) first mask)
          | .op k =>
            .next ((((s.onOp k (fun o => { o with xfer := none })).feRecord x.core
              (feCode st) first mask).opFault k x.core (feDetail (feCode st) first mask)).endOp k st)

end Sys2Proof.Machine
end

