-- ==== Sys2Proof/Machine/Ring.lean ====
section
/-! DEFINITION. Ring pairs (R435 to R447, R453 to R455): indices, descriptor fetch, the operations that a ring runs by
itself, completion records, and a ring's configuration. -/
namespace Sys2Proof.Machine

/-! Rings. -/

/-- Difference of two free-running indices (R436). -/
def idxSub (a b : Nat) : Nat := (a + 2 ^ 32 - b) % 2 ^ 32

def ringVf (r : Nat) : Nat := r / 64
def State.ringDepth (s : State) (r : Nat) : Nat := 2 ^ s.fget (R.QRG_RING_CFG.depth_log2 r)
def State.sqHead (s : State) (r : Nat) : Nat := s.fget (R.QRG_RING_IDX.sq_head r)
def State.cqTail (s : State) (r : Nat) : Nat := s.fget (R.QRG_RING_IDX.cq_tail r)
def State.sqTail (s : State) (r : Nat) : Nat := s.fget (R.QRG_RING_HOST.sq_tail r)
def State.cqHead (s : State) (r : Nat) : Nat := s.fget (R.QRG_RING_HOST.cq_head r)
def State.ringOn (s : State) (r : Nat) : Bool := s.fon (R.QRG_RING_CFG.enable r)

/-- A ring stops with an error (R447); the report names its VF and ring with tag 0 (R582). -/
def State.ringError (s : State) (r code : Nat) : State :=
  let s1 := ((s.fset (R.QRG_RING_CFG.enable r) 0).fset (R.QRG_RING_STATUS.err_code r) code).fset (R.QRG_RING_STATUS.err r) 1
  let s2 := s1.report srcPackage codeRingError 0 (opDetail 0 (ringVf r) (r % 64) code)
  if code = 4 then s2.raise (.vf (ringVf r)) (s2.fget (R.QRG_RING_CFG.vector r)) else s2

/-- Operations in flight that satisfy `f`. -/
def State.opsWhere (s : State) (f : Op → Bool) : List Nat :=
  s.opSlots.filter (fun k => match s.op k with | some o => f o | none => false)

/-- Slots of the shared pool in use: what each tenant holds beyond its reservation (R438). -/
def State.poolUsed (s : State) : Nat :=
  let vfs := ((s.opSlots.filterMap (fun k => (s.op k).map Op.vf))).eraseDups
  (vfs.map (fun v => (s.opsWhere (fun o => o.vf == v)).length - s.reserve)).foldl (· + ·) 0

/-- A slot is free for a tenant: in its reservation, or in the pool that is left of 65,536 slots beyond the
reservations of 4,096 tenants. -/
def State.slotFree (s : State) (v : Nat) : Bool :=
  decide ((s.opsWhere (fun o => o.vf == v)).length < s.reserve) || decide (s.poolUsed < 65536 - 4096 * s.reserve)

/-- A partition's rings are held: an image waits or is applied, fetching has not resumed, it is being reset, or an
almanac holds it (R62 to R64, R493, R508). -/
def State.ringsHeld (s : State) (p : Nat) : Bool :=
  s.togus.pending.any (fun i => i.partition == p && i.held) || s.togus.resume.contains p || s.fon (R.PRT_STATUS.resetting p) ||
    (s.alm.held && bit s.alm.parts p)

/-- The next descriptor of a ring may be fetched (R435, R437, R450, R458). -/
def State.ringReady (s : State) (r : Nat) : Bool :=
  decide (r < 262144) && s.ringOn r && !s.fon (R.QRG_RING_CFG.stop r) && decide (ringVf r < s.numVfs) &&
    decide (s.sqHead r ≠ s.sqTail r) && decide (idxSub (s.sqHead r) (s.cqHead r) < s.ringDepth r) && s.slotFree (ringVf r) &&
    (match s.tenantPart (ringVf r) with | some p => !s.ringsHeld p | none => false)

/-- Rings with a written configuration, which an enabled ring has. -/
def State.ringsSet (s : State) : List Nat :=
  s.regs.filterMap (fun e => if 0x1100000 ≤ e.1 ∧ (e.1 - 0x1100000) % 0x40 = 0 then some ((e.1 - 0x1100000) / 0x40) else none)

def State.ringPrio (s : State) (r : Nat) : Nat := s.fget (R.QRG_RING_CFG.priority r)

/-- The next after `last` in round robin order. -/
def nextAfter (l : List Nat) (last : Nat) : Option Nat :=
  match l.find? (fun r => decide (last < r)) with
  | some r => some r
  | none => l.head?

/-- The ring whose descriptor is fetched next (R438), and whether it is one of lower priority. -/
def State.nextRing (s : State) : Option (Nat × Bool) :=
  let ready := s.ringsSet.filter s.ringReady
  let top := (ready.map s.ringPrio).foldl Nat.max 0
  let pick := fun (p : Nat) => nextAfter (ready.filter (fun r => s.ringPrio r == p)) (assocGet (fun _ => 0) s.rrRing p)
  let low := ((List.range 8).filter (fun p => decide (p < top) && ready.any (fun r => s.ringPrio r == p)))
  if 15 ≤ s.sinceLowPrio ∧ low ≠ [] then
    match nextAfter low s.rrPrio with
    | some p => (pick p).map (fun r => (r, true))
    | none => none
  else (pick top).map (fun r => (r, false))

/-! Descriptors (R440). -/

/-- The first reserved byte or value of a descriptor; its offset. -/
def descBad (d : List Byte) : Option Nat :=
  let runs := fun (l : List (Nat × Nat)) => (l.filterMap (fun r => rsvRun d r.1 r.2)).head?
  -- rsv bits of flags and of beacon too (R284)
  let moveBad :=
    if 6 ≤ leAt d 0x02 1 then some 0x02
    else (runs [(0x29, 0x2A)]).or (if bit (leAt d 0x2A 2) 14 then some 0x2B else runs [(0x2C, 0x3C)])
  let own :=
    match dOp d with
    | 0x00 => runs [(0x01, 0x3C)]
    | 0x01 => moveBad
    | 0x02 => moveBad
    | 0x03 => moveBad
    | 0x10 => runs [(0x01, 0x08), (0x10, 0x3C)]
    | 0x20 => runs [(0x01, 0x08), (0x10, 0x3C)]
    | 0x21 => runs [(0x01, 0x08), (0x10, 0x3C)]
    | 0x30 => runs [(0x01, 0x08), (0x10, 0x3C)]
    | 0x40 => runs [(0x01, 0x08), (0x0A, 0x10), (0x28, 0x3C)]
    | 0x41 =>
      if 8 < leAt d 0x0A 1 then some 0x0A
      else runs ([(0x01, 0x08), (0x0C, 0x10), (0x20, 0x3C)] ++ (if leAt d 0x0A 1 = 3 then [] else [(0x18, 0x20)]))
    | 0x50 => if 64 ≤ leAt d 0x08 1 then some 0x08 else runs [(0x01, 0x08), (0x09, 0x0A), (0x0C, 0x3C)]
    | _ => some 0
  match own with
  | some x => some x
  | none => if leAt d 0x3E 1 < 4 then (if leAt d 0x3F 1 = 0 then none else some 0x3F) else some 0x3E

/-- progress_kind of an operation: tile bitmaps of MATMUL and ASSEMBLE, else a count or a value. -/
def kindOf (op : Nat) : Nat := if op = 0x10 ∨ op = 0x20 then 0 else flagCount

/-- The first slot with no operation. -/
def State.freeOpSlot (s : State) : Nat := ((List.range (s.ops.length + 1)).find? (fun k => (s.op k).isNone)).getD s.ops.length

/-- A fetched descriptor becomes an operation in flight. One whose tag is in flight in its ring is not executed; one with
a reserved op or field is refused and logged (R121, R440). -/
def State.acceptDesc (s : State) (r : Nat) (d : List Byte) : State :=
  let mine := (s.opSlots.filterMap s.op).filter (fun o => o.ring == r)
  let dup := mine.any (fun o => o.tag == leAt d 0x3C 2)
  let bad := descBad d
  let o : Op :=
    { ring := r, order := (mine.map Op.order).foldl Nat.max 0 + 1, fetchedIn := s.fget R.TRN_NUMBER.transit, desc := d, started := dup || bad.isSome,
      status := if dup || bad.isSome then some stInternal else none, ended := s.endCount + 1, progress := 0, witness := 0,
      classFlags := kindOf (dOp d) ||| (if dup then flagDupTag else 0), aux := 0, reissues := 0,
      partition := (s.tenantPart (ringVf r)).getD 0, xfer := none, parts := [], partsTile := none, stores := [], tiles := [], ctrl := [], work := [], again := [], given := 0, failed := false, discarded := false, resumeIt := 0 }
  let s1 : State := { s.setOp s.freeOpSlot (some o) with endCount := s.endCount + (dup || bad.isSome).toNat }
  match dup, bad with
  | false, some off => s1.report srcPackage codeFormatRefused 0 (opDetail o.tag o.vf (r % 64) (off + dOp d * 2 ^ 8))
  | _, _ => s1

/-- DESCRIPTOR_FETCH: `host` is what host memory returns for a ring in space 2. -/
def execDescriptorFetch (r : Nat) (host : List Byte) (s0 : State) : Res :=
  let s : State := if s0.opSlots.isEmpty then { s0 with reserve := Nat.min 16 (s0.fget R.QRG_CTL.tenant_reserve) } else s0
  match s.nextRing with
  | none => .next s0
  | some (x, low) =>
    if x ≠ r then .next s0
    else
      let p := s.ringPrio r
      let s1 : State := { s with rrRing := assocSet (fun _ => 0) s.rrRing p r, rrPrio := if low then p else s.rrPrio,
                                 sinceLowPrio := if low then 0 else s.sinceLowPrio + 1 }
      let a := (s.fget (R.QRG_RING_SQ.sq_base r) + s.sqHead r % s.ringDepth r * 64) % 2 ^ 64
      let part := s.tenantPart (ringVf r)
      if s.fget (R.QRG_RING_CFG.space r) = 0 ∧ (!s.reachAll part a 64 || s.paPoisoned a 64) then .next (s1.ringError r 2)
      else
        let d := if s.fget (R.QRG_RING_CFG.space r) = 0 then s.paBytes a 64 else host.take 64 ++ List.replicate (64 - host.length) 0
        let s2 := if s.fget (R.QRG_RING_CFG.space r) = 0 then s1.touchPa a 64 0 else s1.emit (.dmaRead (.vf (ringVf r)) a 64)
        .next ((s2.fset (R.QRG_RING_IDX.sq_head r) ((s.sqHead r + 1) % 2 ^ 32)).acceptDesc r d)

/-! Doorbells (R436, R455). -/

/-- SQ_DOORBELL. -/
def execSqDoorbell (v r tail : Nat) (s : State) : Res :=
  let k := 64 * v + r
  if !(decide (v < s.numVfs) && decide (v < 4096) && decide (r < 64) && s.ringOn k) then .next s
  else
    let s1 := s.fset (R.QRG_RING_HOST.sq_tail k) (tail % 2 ^ 32)
    .next (if s.ringDepth k < idxSub (tail % 2 ^ 32) (s.sqHead k) then s1.ringError k 3 else s1)

/-- CQ_HEAD_WRITE. -/
def execCqHeadWrite (v r head : Nat) (s : State) : Res :=
  let k := 64 * v + r
  if !(decide (v < s.numVfs) && decide (v < 4096) && decide (r < 64)) then .next s
  else
    let s1 := s.fset (R.QRG_RING_HOST.cq_head k) (head % 2 ^ 32)
    .next (if idxSub (s.cqTail k) (s.cqHead k) < idxSub (head % 2 ^ 32) (s.cqHead k) then s1.ringError k 3 else s1)

/-! Operations. -/

/-- NOP. -/
def execNop (slot : Nat) (s : State) : Res :=
  match s.mayStartOp slot 0x00 with
  | none => .next s
  | some _ => .next ((s.beginOp slot).endOp slot stDone)

/-- COLLECTIVE: the block and how it runs are the collective library's; the operation carries the outcome of its posts
(R423): progress and witness are 0 for every status but DONE and DONE_RECOVERED. -/
def execCollective (slot status : Nat) (progress witness : Word) (s : State) : Res :=
  match s.mayStartOp slot 0x30 with
  | none => .next s
  | some _ =>
    if !([stDone, stRecovered, stShrink, stCrossed, stCheckFail, stInternal].contains status) then .next s
    else
      let ok := status == stDone || status == stRecovered
      .next (((s.beginOp slot).onOp slot (fun o =>
        { o with progress := if ok then progress else 0, witness := if ok then witness else 0,
                 classFlags := o.classFlags ||| (if status = stRecovered then flagTwinkle else 0) })).endOp slot status)

/-- ATOMIC: the command leaves for its home, or ends at the source. -/
def execAtomic (slot : Nat) (s : State) : Res :=
  match s.mayStartOp slot 0x40 with
  | none => .next s
  | some o =>
    match s.issueAtomic ((o.desc.drop 8).take 32) (some o.partition) none (some (.op slot, 0, 0)) with
    | (t, .sent _) => .next (t.beginOp slot)
    | (t, .ended st) => .next (((t.drawn).beginOp slot).endValue slot st 0 (Config.unknownOld t.free))
    | (_, .wait) => .next s

/-- BEACON. -/
def execBeacon (slot : Nat) (s : State) : Res :=
  match s.mayStartOp slot 0x41 with
  | none => .next s
  | some o =>
    let s1 := s.beginOp slot
    let w : Who := .vf o.vf
    let a : Answer := .op slot
    let b := leAt o.desc 0x08 2
    let prio := leAt o.desc 0x0B 1 % 8
    let x := BitVec.ofNat 64 (leAt o.desc 0x10 8)
    if 16384 ≤ b then .next (s1.refuseBeacon w a)
    else
      .next (match leAt o.desc 0x0A 1 with
        | 0 => s1.bcnRead w a b
        | 1 => s1.bcnAdd w a b x
        | 2 => s1.bcnSet w a b x
        | 3 => s1.bcnCas w a b x (BitVec.ofNat 64 (leAt o.desc 0x18 8))
        | 4 => s1.bcnWait w a b prio x
        | 5 => s1.bcnArm w a b x
        | 6 => s1.bcnAcquire w a b prio
        | 7 => s1.bcnRelease w a b
        | _ => s1.bcnReprio w a b prio)

/-- PROBE starts at fetch, whatever its fence (R444): a snapshot of the target's committed progress. A descriptor refused
for its tag is no target. -/
def execProbe (slot : Nat) (s : State) : Res :=
  match s.op slot with
  | none => .next s
  | some o =>
    if !(o.live && o.code == 0x50) then .next s
    else
      let ring := 64 * o.vf + leAt o.desc 0x08 1
      let hit := ((s.opSlots.filter (· != slot)).filterMap s.op).find? (fun x =>
        x.ring == ring && x.tag == leAt o.desc 0x0A 2 && !bit x.classFlags 6)
      let s1 := (s.beginOp slot).onOp slot (fun o =>
        match hit with
        | some x => { o with progress := x.progress, classFlags := x.classFlags &&& flagCount }
        | none => { o with classFlags := o.classFlags ||| flagNotFound })
      .next (s1.endOp slot stDone)

/-! Completion records (R442). -/

/-- The 32 B record of an operation. -/
def State.record (s : State) (o : Op) : List Byte :=
  let depth := s.ringDepth o.ring
  let phase := if s.cqTail o.ring / depth % 2 = 0 then 0x80 else 0
  leBytes 2 o.tag ++ leBytes 1 (o.status.getD stDone) ++ leBytes 1 (o.classFlags % 128 + phase) ++ leBytes 8 o.witness.toNat ++
    leBytes 8 o.progress.toNat ++ leBytes 6 (s.fget R.TRN_NUMBER.transit % 2 ^ 48) ++ leBytes 2 o.aux ++ leBytes 4 0

/-- Records of a ring are written in the order its operations complete (R439). -/
def State.recordDue (s : State) (o : Op) : Bool :=
  !o.live && (s.opsWhere (fun x => x.ring == o.ring && !x.live && !x.discarded && decide (x.ended < o.ended))).isEmpty

/-- The record of an operation whose work has ended is written in its turn, and its slot is free; `refused` is a refusal
of the write by the host (R452). -/
def State.writeRecord (s : State) (slot : Nat) (refused : Bool) : State :=
  match s.op slot with
  | none => s
  | some o =>
    if !s.recordDue o then s
    else
      let s0 := s.setOp slot none
      if o.discarded then s0
      else
        let s1 := if o.status = some stReissued then s0.finc (R.PRT_CNT.reissues o.partition) 1 else s0
        let r := o.ring
        let a := (s.fget (R.QRG_RING_CQ.cq_base r) + s.cqTail r % s.ringDepth r * 32) % 2 ^ 64
        let host := s.fget (R.QRG_RING_CFG.space r) != 0
        if (host && refused) || (!host && !s.reachAll (some o.partition) a 32) then (s1.ringError r 4)
        else
          let bs := s.record o
          let s2 := if host then s1.emit (.dma (.vf o.vf) a bs) else s1.storePa a bs
          let s3 := s2.fset (R.QRG_RING_IDX.cq_tail r) ((s.cqTail r + 1) % 2 ^ 32)
          (if bit (leAt o.desc 0x3E 1) 1 || s.fon (R.QRG_RING_CFG.irq_all r) then
            s3.raise (.vf o.vf) (s.fget (R.QRG_RING_CFG.vector r)) else s3)

/-- COMPLETION_RECORD_WRITE. -/
def execCompletionRecordWrite (slot : Nat) (refused : Bool) (s : State) : Res := .next (s.writeRecord slot refused)

/-! Configuration (R446, R454). -/

/-- Who may write a ring's registers: its VF, PF0 and PF1 (R435, R451). -/
def State.ringRights (s : State) (fn : Fn) (r : Nat) : Bool :=
  match fn with
  | .vf v => v == ringVf r && decide (v < s.numVfs)
  | .pf n => decide (n < 2)
  | .mgmt => false

/-- The configuration that a write of QRG_RING_CFG asks for is in range (R446, R454). -/
def State.ringCfgOk (s : State) (r : Nat) (value : Word) : Bool :=
  let sp := getField value 2 2
  let d := getField value 4 5
  let sq := s.fget (R.QRG_RING_SQ.sq_base r)
  let cq := s.fget (R.QRG_RING_CQ.cq_base r)
  (sp == 0 || sp == 2) && decide (4 ≤ d ∧ d ≤ 16) && decide (sq % 4096 = 0) && decide (cq % 4096 = 0) &&
    (sp != 0 ||
      (let p := s.tenantPart (ringVf r)
       p.isSome && s.reachAll p sq (64 * 2 ^ d) && s.reachAll p cq (32 * 2 ^ d)))

/-- RING_ENABLE_WRITE: a write of QRG_RING_CFG[r]. A write of 1 to enable is validated, and zeroes the indices of a ring
that was disabled; a field out of range keeps its value. -/
def execRingEnableWrite (fn : Fn) (r : Nat) (value : Word) (s : State) : Res :=
  if 262144 ≤ r then .next s
  else if !s.ringRights fn r then
    (match fn with | .vf _ => .next s | _ => .next (s.refuseWrite fn (A.QRG_RING_CFG r) true true))
  else
    let sp := getField value 2 2
    let d := getField value 4 5
    let s1 := ((((s.fset (R.QRG_RING_CFG.stop r) (getField value 1 1)).fset (R.QRG_RING_CFG.priority r) (getField value 9 3)).fset
      (R.QRG_RING_CFG.irq_all r) (getField value 12 1)).fset (R.QRG_RING_CFG.vector r) (getField value 13 3))
    let s2 := if sp = 0 ∨ sp = 2 then s1.fset (R.QRG_RING_CFG.space r) sp else s1
    let s3 := if 4 ≤ d ∧ d ≤ 16 then s2.fset (R.QRG_RING_CFG.depth_log2 r) d else s2
    if getField value 0 1 = 0 then .next (s3.fset (R.QRG_RING_CFG.enable r) 0)
    else if !s.ringCfgOk r value then .next (s3.ringError r 1)
    else if s.ringOn r then .next s3
    else .next (((s3.setReg (A.QRG_RING_IDX r) 0).setReg (A.QRG_RING_HOST r) 0).fset (R.QRG_RING_CFG.enable r) 1)

end Sys2Proof.Machine
end

