-- ==== Sys2Proof/Machine/Night.lean ====
section
/-! DEFINITION. Night Watch (R529 to R540) and the dies' thermal limits (R572): sampling and filters, rules, SHUTDOWN,
the Night state and waking. -/
namespace Sys2Proof.Machine

/-! Power states. -/

/-- The T-cores, P cores, engines, links and everything in flight are power-gated (R534, R536, R540): scratchpads,
staging buffers and the LLM lose their contents; GDDR7 holds its own in self-refresh; the structure, partial images
included, stays in S1's retention memory, and so do the registers (log 24). The package drops its LDN and is in
twilight. -/
def State.powerGate (s : State) : State :=
  let onDie := fun (a : Nat) => decide (padBase 0 ≤ a ∧ a < llmBase 64)
  let up := (List.range 64).filter s.chanTrained
  let s1 : State := { s with
    mem := s.mem.filter (fun c => !onDie c.1), poison := s.poison.filter (fun w => !onDie (8 * w)),
    weak := s.weak.filter (fun w => !onDie (8 * w)), poisonRec := [],
    tcores := keepRetired s.tcores, pcores := keepRetiredP s.pcores, ses := keepRetiredSe s.ses,
    fronts := [], dir := [], wcb := [], ewt := [], epochCache := [], chans := [], reqs := [], links := [], police := [], shape := [],
    posts := [], slots := [], rx := [], parked := [], outbox := [], tombs := [], buried := [], parkWaits := [], waiters := [],
    ops := [], recs := [], recq := [], droop := [], trn := .reset, twilightArm := false, ecl := .reset }
  let s2 := up.foldl (fun s n => s.setChan n { Channel.reset with selfRefresh := true }) s1
  let s3 := ((List.range 64).filter (fun n => s2.portSt n != 0)).foldl (fun s n =>
    let t := [0, 1, 2, 3].foldl (fun s j => s.fset (subState n j) 0) (s.putPortState n 1)
    (t.fset (R.SCP_PORT_STATUS.authenticated n) 0).fset (R.SCP_PORT_STATUS.encrypted n) 0) s2
  let s4 := ((s3.fset R.TRN_STATUS.synced 0).fset R.TRN_STATUS.is_master 0).fset R.TRN_STATUS.electing 0
  (((s4.fset R.SCP_ID.ldn 255).fset R.RMM_STATUS.twilight 1).fset R.GLB_BOOT.milestones
    (s4.fget R.GLB_BOOT.milestones % 32)).fset R.GLB_UNITS.ports_up 0

/-- Rule `r` of the NIGHT_WATCH section: a field of its entry (R530). -/
def State.ruleField (s : State) (r off n : Nat) : Nat := leAt (s.sect 7) (0x200 + 32 * r + off) n

/-- What holds the package in SHUTDOWN: a true shutdown rule, or the 105 C trip (R533, R534). -/
def State.shutdownHolds (s : State) : Bool :=
  (bitsOf 16 (s.fget R.NWT_STATUS.rules_true)).any (fun r => bit (s.ruleField r 0x0A 1) 2) ||
    s.nwt.hot.any (fun e => decide (2 ≤ e.2))

/-- A wake is recorded (R538, R563). -/
def State.recordWake (s : State) (src rule : Nat) : State :=
  (((s.fset R.NWT_STATUS.last_wake src).fset R.NWT_STATUS.wake_rule rule).raise (.pf 0) 5).emit (.pldm 5 src)

/-- A wake source: from NIGHT the package wakes; during entry it takes effect at its end; from SHUTDOWN, once nothing
holds it, a source other than a rule ends in a warm reset (R534, R538). -/
def State.wake (s : State) (src rule : Nat) : State :=
  match s.fget R.NWT_STATUS.pstate with
  | 1 => if s.nwt.wakeSource = 0 then { s with nwt := { s.nwt with wakeSource := src, wakeRule := rule } } else s
  | 2 =>
    let s1 : State := { s with nwt := { s.nwt with night := false, started := false, wakeSource := 0, wakeAtNs := none } }
    (s1.fset R.NWT_STATUS.pstate 3).recordWake src rule
  | 4 => if src = 5 ∨ s.shutdownHolds then s else ((s.recordWake src rule).fset R.NWT_STATUS.pstate 0).warmReset 6
  | _ => s

/-- SHUTDOWN trips on a sensor (R534): everything in flight is lost, and an entry names the sensor. -/
def State.shutdown (s : State) (sensor : Nat) : State :=
  if s.fget R.NWT_STATUS.pstate = 4 then s
  else
    let s1 := ((s.powerGate.fset R.NWT_STATUS.pstate 4).fset R.NWT_STATUS.tripped 1).fset R.NWT_STATUS.trip_sensor sensor
    let s2 : State := { s1 with nwt := { s1.nwt with night := true, wakeSource := 0, wakeAtNs := none } }
    (s2.raise (.pf 0) 5).report srcPackage codeShutdown 4 sensor

/-! Sampling (R529, R530). -/

/-- The sensor's value is signed. -/
def sensorSigned (n : Nat) : Bool := decide (n < 40) || decide (47 ≤ n ∧ n < 55)

/-- A 16-bit sample as its sensor's value. -/
def sensorValue (n raw : Nat) : Int := if sensorSigned n && decide (2 ^ 15 ≤ raw % 2 ^ 16) then (raw % 2 ^ 16 : Int) - 2 ^ 16 else raw % 2 ^ 16

/-- A sensor's entry enables it. -/
def State.sensorOn (s : State) (n : Nat) : Bool := leAt (s.sect 7) (8 * n) 1 == 1

/-- The filter, in units of 1/256, truncating toward minus infinity (R530). -/
def filterStep (y x : Int) (k : Nat) : Int := y + (256 * x - y).fdiv (2 ^ k)

/-- One sensor is sampled and filtered. -/
def State.sampleOne (s : State) (n : Nat) (x : Int) : State :=
  if s.sensorOn n then
    let raw := (x % 65536).toNat
    let v := sensorValue n raw
    let y := if s.nwt.started then filterStep (assocGet (fun _ => (0 : Int)) s.nwt.filt n) v (leAt (s.sect 7) (8 * n + 1) 1) else 256 * v
    let s1 : State := { s with nwt := { s.nwt with filt := assocSet (fun _ => (0 : Int)) s.nwt.filt n y } }
    (s1.fset (R.NWT_SENSOR.raw n) raw).fset (R.NWT_SENSOR.filtered n) ((y.fdiv 256) % 65536).toNat
  else s.setReg (A.NWT_SENSOR n) 0

/-! Thermal limits of the T- and P-dies (R572). -/

/-- THERMAL_THROTTLE_ENTER: the limit a die's temperature asks for, in 1/16 C. -/
def throttleFor (d : Nat) (x : Int) : Nat :=
  if d < 16 then (if x > 1600 then 50 else if x > 1520 then 75 else 100)
  else if 24 ≤ d ∧ d < 28 then (if x > 1520 then 75 else 100)
  else 100

/-- A T- or P-die's limit falls, logged as CORRECTED; the time since it has been below 90 C is kept. -/
def State.throttleDie (s : State) (d : Nat) (x : Int) : State :=
  if d < 16 ∨ (24 ≤ d ∧ d < 28) then
    let want := throttleFor d x
    let s1 := if want < s.limitOf d then
        { s with nwt := { s.nwt with limit := assocSet (fun _ => 100) s.nwt.limit d want } }.reportOpen (srcDie d) codeHotEnter 0
      else s
    let cool := if x < 1440 then (match assocGet (fun _ => (none : Option Nat)) s1.nwt.coolSince d with | some t => some t | none => some s1.clock) else none
    { s1 with nwt := { s1.nwt with coolSince := assocSet (fun _ => (none : Option Nat)) s1.nwt.coolSince d cool } }
  else s

/-- Consecutive samples of a die at or above 105 C (R533). -/
def State.countHot (s : State) (d : Nat) (x : Int) : State :=
  let n := if 1680 ≤ x then Nat.min 2 (assocGet (fun _ => 0) s.nwt.hot d + 1) else 0
  { s with nwt := { s.nwt with hot := assocSet (fun _ => 0) s.nwt.hot d n } }

/-! Rules (R531, R532). -/

/-- The value a rule reads, in units of 1/256. -/
def State.ruleValue (s : State) (r : Nat) : Int :=
  let n := s.ruleField r 1 1
  if s.ruleField r 3 1 = 1 then 256 * sensorValue n (s.fget (R.NWT_SENSOR.raw n))
  else if s.sensorOn n then assocGet (fun _ => (0 : Int)) s.nwt.filt n else 0

/-- The rule's threshold. -/
def State.ruleThreshold (s : State) (r : Nat) : Int :=
  let t := s.ruleField r 4 2
  if 2 ^ 15 ≤ t then (t : Int) - 2 ^ 16 else t

/-- The value lies beyond the threshold. -/
def State.ruleBeyond (s : State) (r : Nat) : Bool :=
  if s.ruleField r 2 1 = 0 then decide (s.ruleValue r > 256 * s.ruleThreshold r) else decide (s.ruleValue r < 256 * s.ruleThreshold r)

/-- The value lies back past the threshold by the hysteresis. -/
def State.ruleBack (s : State) (r : Nat) : Bool :=
  let h : Int := s.ruleField r 6 2
  if s.ruleField r 2 1 = 0 then decide (s.ruleValue r ≤ 256 * (s.ruleThreshold r - h)) else decide (s.ruleValue r ≥ 256 * (s.ruleThreshold r + h))

/-- A rule becomes true: it is counted, logged where it says so, and wakes or shuts down. -/
def State.ruleFires (s : State) (r : Nat) : State :=
  let acts := s.ruleField r 0x0A 1
  let s1 := (s.fset R.NWT_STATUS.rules_true (s.fget R.NWT_STATUS.rules_true ||| 2 ^ r)).finc (R.NWT_RULE_CNT.hits r) 1
  let s2 := if bit acts 3 then s1.reportOpen srcPackage codeRule 0 else s1
  let s3 := if bit acts 0 then s2.wake 5 r else s2
  if bit acts 2 then s3.shutdown (s3.ruleField r 1 1) else s3

/-- RULE_EVAL of one rule. -/
def State.evalRule (s : State) (r : Nat) : State :=
  let on := bit (s.fget R.NWT_STATUS.rules_true) r
  let count := assocGet (fun _ => 0) s.nwt.hold r
  let setCount := fun (t : State) (n : Nat) => { t with nwt := { t.nwt with hold := assocSet (fun _ => 0) t.nwt.hold r n } }
  if s.ruleField r 0 1 ≠ 1 then s
  else if on then
    if s.ruleBack r then setCount (s.fset R.NWT_STATUS.rules_true (s.fget R.NWT_STATUS.rules_true &&& (2 ^ 16 - 1 - 2 ^ r))) 0 else s
  else if s.ruleBeyond r then
    if s.ruleField r 8 2 ≤ count + 1 then (setCount s 0).ruleFires r else setCount s (count + 1)
  else setCount s 0

/-- SENSOR_SWEEP: 64 samples; filters, the 105 C trip, the thermal limits, and the rules, with ALERT_N. -/
def execSensorSweep (now : Nat) (samples : List Int) (s : State) : Res :=
  let s0 := s.advance now
  if samples.length ≠ 64 then .next s0
  else
    let x := fun (n : Nat) => samples.getD n 0
    let s1 := (List.range 64).foldl (fun s n => s.sampleOne n (x n)) s0
    let s2 : State := { s1 with nwt := { s1.nwt with started := true } }
    let temp := fun (d : Nat) => sensorValue d (x d % 65536).toNat
    let s3 := (List.range 40).foldl (fun s d => (s.countHot d (temp d)).throttleDie d (temp d)) s2
    let s4 := (List.range 16).foldl State.evalRule s3
    let s5 := match (List.range 40).find? (fun d => decide (2 ≤ assocGet (fun _ => 0) s4.nwt.hot d)) with
      | some d => s4.shutdown d
      | none => s4
    let s6 := if s5.milestone 3 then (s5.avsRequest 0).avsRequest 1 else s5
    .next (s0.showAlert s6)

/-- THROTTLE_EXIT: a die below 90 C for 10 ms; logged as CORRECTED (R572). -/
def execThrottleExit (die : Nat) (s : State) : Res :=
  match assocGet (fun _ => (none : Option Nat)) s.nwt.coolSince die with
  | some t =>
    whenever (decide (s.limitOf die < 100) && decide (t + 10000000 ≤ s.clock))
      ({ s with nwt := { s.nwt with limit := assocSet (fun _ => 100) s.nwt.limit die 100 } }.reportOpen (srcDie die) codeHotExit 0) s
  | none => .next s

/-! The Night state (R536 to R540). -/

/-- The ring is enabled and not stopped. -/
def State.ringActive (s : State) (r : Nat) : Bool := s.fon (R.QRG_RING_CFG.enable r) && !s.fon (R.QRG_RING_CFG.stop r)

/-- A request is refused (R536). -/
def State.nightRefused (s : State) : Bool :=
  s.ringsSet.any s.ringActive || !s.opSlots.isEmpty || !s.mntHeld.isEmpty || s.ecl.phase != 0

/-- Package time of a scheduled wake: 500 ms before the projected fire time of the transit (R539). -/
def State.projectWake (s : State) : Option Nat :=
  if s.fon R.NWT_CTL.wake_at_en then
    let n := s.fget R.NWT_WAKE_AT.transit
    let ahead := n - (s.fget R.TRN_NUMBER.transit + 1)
    let fire := s.fget R.TRN_NEXT.next_ns + ahead * s.fget R.TRN_PERIOD.period_ns
    some (s.clock + (fire - s.rackTime) - 500000000)
  else none

/-- NIGHT_ENTER: a write of NWT_CTL with night_enter (R536, R547). -/
def execNightEnter (fn : Fn) (wakeAtEn : Bool) (s : State) : Res :=
  if !(fn == .pf 0 || fn == .mgmt) then .next (s.refuseWrite fn A.NWT_CTL true true)
  else
    let s1 := s.fset R.NWT_CTL.wake_at_en wakeAtEn.toNat
    if s1.fget R.NWT_STATUS.pstate ≠ 0 ∨ s1.nightRefused then .next ((s1.fset R.NWT_STATUS.night_err 1).raise (.pf 0) 5)
    else
      let s2 := s1.fset R.NWT_STATUS.pstate 1
      .next { s2 with nwt := { s2.nwt with wakeSource := 0, wakeAtNs := s2.projectWake } }

/-- NIGHT_ENTRY_DONE: the package sleeps, and a wake that came during entry takes effect (R536, R538). -/
def execNightEntryDone (s : State) : Res :=
  if s.fget R.NWT_STATUS.pstate ≠ 1 then .next s
  else
    let s1 := (s.powerGate.emit (.pldm 4 0)).fset R.NWT_STATUS.pstate 2
    let s2 : State := { s1 with nwt := { s1.nwt with night := true } }
    .next (if s2.nwt.wakeSource = 0 then s2 else s2.wake s2.nwt.wakeSource s2.nwt.wakeRule)

/-- WAKE_N low for at least 1 us. -/
def execWakeN (ns : Nat) (s : State) : Res := whenever (decide (1000 ≤ ns)) (s.wake 1 0) s

/-- Any MCTP message to the endpoint. -/
def execHostMessageWake (s : State) : Res := .next (s.wake 2 0)

/-- A receiver sees light (R357). -/
def execLightWake (port : Nat) (s : State) : Res :=
  whenever (s.portWorks port) ((s.fset (R.SCP_PORT_STATUS.light port) 1).wake 3 0) s

/-- The scheduled wake is due (R539). -/
def execScheduledWake (now : Nat) (s : State) : Res :=
  let s0 := s.advance now
  match s0.nwt.wakeAtNs with
  | some t => whenever (decide (t ≤ s0.clock)) (s0.wake 4 0) s0
  | none => .next s0

/-- WAKE_DONE: GDDR7 leaves self-refresh, trained again with its contents; MEMORY, and with a structure in force
COMPUTE_READY, are reached anew (R471, R540). -/
def execWakeDone (s : State) : Res :=
  if s.fget R.NWT_STATUS.pstate ≠ 3 then .next s
  else
    let s1 := ((List.range 64).filter s.chanTrained).foldl (fun s n => (s.setChan n { s.chan n with selfRefresh := false }).setChState n 2) s
    let s2 := ((s1.fset R.NWT_STATUS.pstate 0).checkMemory).checkLinks
    .next (if s2.milestone 4 && s2.milestone 5 && s2.fget R.PRT_BOOT.loaded != 3 then (s2.reach_ 7).readAlmLast else s2)

end Sys2Proof.Machine
end

