-- ==== Sys2Proof/Machine/SolveMath.lean ====
section
/-! DEFINITION. The arithmetic of a solver engine (R240, R241, R254): exact products and sums rounded once in RNE, matrix
objects (R247), and the program a solve runs, which stops where a partitioned solve must hear from its other members or
a callback must answer. -/
namespace Sys2Proof.Machine

/-! The solve control block (R249). -/

def sMethod (b : List Byte) : Nat := leAt b 0x00 1
def sPrecond (b : List Byte) : Nat := leAt b 0x01 1
def sGmresM (b : List Byte) : Nat := leAt b 0x02 1
def sPcBlock (b : List Byte) : Nat := leAt b 0x03 1
def sChebDegree (b : List Byte) : Nat := leAt b 0x04 1
def sSelect (b : List Byte) : Nat := leAt b 0x05 1
def sCheckEvery (b : List Byte) : Nat := leAt b 0x06 2
def sIterCap (b : List Byte) : Nat := leAt b 0x08 4
def sX0Zero (b : List Byte) : Bool := bit (leAt b 0x0C 4) 0
def sDeadlineEn (b : List Byte) : Bool := bit (leAt b 0x0C 4) 1
def sRtol (b : List Byte) : Word := BitVec.ofNat 64 (leAt b 0x10 8)
def sAtol (b : List Byte) : Word := BitVec.ofNat 64 (leAt b 0x18 8)
def sDeadlineTransit (b : List Byte) : Nat := leAt b 0x20 8
def sMargin (b : List Byte) : Nat := leAt b 0x28 8
def sMatrix (b : List Byte) : Nat := leAt b 0x30 8
def sB (b : List Byte) : Nat := leAt b 0x38 8
def sX (b : List Byte) : Nat := leAt b 0x40 8
def sWork (b : List Byte) : Nat := leAt b 0x48 8
def sWorkSize (b : List Byte) : Nat := leAt b 0x50 8
def sResult (b : List Byte) : Nat := leAt b 0x58 8
def sRowFirst (b : List Byte) : Nat := leAt b 0x60 8
def sRows (b : List Byte) : Nat := leAt b 0x68 8
def sChebLo (b : List Byte) : Word := BitVec.ofNat 64 (leAt b 0x70 8)
def sChebHi (b : List Byte) : Word := BitVec.ofNat 64 (leAt b 0x78 8)
def sCbGo (b : List Byte) : Nat := leAt b 0x80 2
def sCbDone (b : List Byte) : Nat := leAt b 0x82 2
def sPartIndex (b : List Byte) : Nat := leAt b 0x84 2
def sPartCount (b : List Byte) : Nat := leAt b 0x86 2
def sGroup (b : List Byte) : Nat := leAt b 0x88 8
def sExchange (b : List Byte) : Nat := leAt b 0x90 8
def sConst (b : List Byte) : Nat := leAt b 0x98 2

/-- Round up to 4 KiB. -/
def up4k (n : Nat) : Nat := (n + 4095) / 4096 * 4096

/-- Vectors of a method (R251). -/
def solveVectors (b : List Byte) : Nat :=
  match sMethod b with
  | 0 => 4
  | 1 => 5
  | 2 => 9
  | 3 => sGmresM b + 4
  | _ => 9

/-- Workspace a solve needs (R251). -/
def workNeed (b : List Byte) : Nat :=
  let v := up4k (8 * sRows b)
  4096 + solveVectors b * v +
    match sPrecond b with
    | 1 => v
    | 2 => up4k (sRows b * sPcBlock b * 8) + up4k (sRows b)
    | 3 => 2 * v
    | _ => 0

/-- Address of vector `i` of the workspace (R251): 0 is x_best; what a preconditioner adds follows the method's. -/
def vecAddr (b : List Byte) (i : Nat) : Nat := sWork b + 4096 + i * up4k (8 * sRows b)

/-- Where a callback finds its vector: z of PCG, else the last vector of the method (log 16). -/
def zAddr (b : List Byte) : Nat := vecAddr b (if sMethod b = 1 then 4 else solveVectors b - 1)

/-- Addresses of the block-Jacobi factors and their pivots. -/
def factorAddr (b : List Byte) : Nat := vecAddr b (solveVectors b)
def pivotAddr (b : List Byte) : Nat := factorAddr b + up4k (sRows b * sPcBlock b * 8)

/-- The fields that the members of a group share (R264). -/
def sharedFields (b : List Byte) : List Byte :=
  (b.drop 0x88).take 8 ++ (b.drop 0x86).take 2 ++ b.take 5 ++ (b.drop 6).take 10 ++ (b.drop 0x10).take 32 ++ (b.drop 0x70).take 16

/-- FP64 bits as a number. -/
def f64 (w : Word) : FpNum := decodeNum 0 w.toNat

def isFinite64 (w : Word) : Bool := match f64 w with | .fin _ _ _ => true | _ => false

/-- a ≤ b for FP64 bits; NaN compares false. -/
def le64 (a b : Word) : Bool := (compareNum .le true (f64 a) (f64 b)).1

/-- a < b. -/
def lt64 (a b : Word) : Bool := (compareNum .lt true (f64 a) (f64 b)).1

def one64 : Word := 0x3FF0000000000000

/-- FP64 vector in package memory. -/
def State.vecAt (s : State) (pa n : Nat) : List Word := (List.range n).map (fun i => BitVec.ofNat 64 (leNat (s.paBytes (pa + 8 * i) 8)))

def vecBytes (v : List Word) : List Byte := v.flatMap (fun w => leBytes 8 w.toNat)

/-! Matrix objects (R244, R247). -/

/-- Stencil offsets of 7, 19 or 27 points in their order. -/
def stencil (points : Nat) : List (Int × Int × Int) :=
  let all : List (Int × Int × Int) :=
    [-1, 0, 1].flatMap (fun dz => [-1, 0, 1].flatMap (fun dy => [-1, 0, 1].map (fun dx => (dx, dy, dz))))
  let lim : Nat := match points with | 7 => 1 | 19 => 2 | _ => 3
  all.filter (fun p => decide (p.1.natAbs + p.2.1.natAbs + p.2.2.natAbs ≤ lim))

/-- Node index of a point beside a node, none outside the grid. -/
def neighbour (nx ny nz node : Nat) (p : Int × Int × Int) : Option Nat :=
  let x : Int := ((node % nx : Nat) : Int) + p.1
  let y : Int := ((node / nx % ny : Nat) : Int) + p.2.1
  let z : Int := ((node / (nx * ny) : Nat) : Int) + p.2.2
  if 0 ≤ x ∧ x < nx ∧ 0 ≤ y ∧ y < ny ∧ 0 ≤ z ∧ z < nz then some (x + nx * (y + ny * z)).toNat else none

/-- Entries of one row of an implicit stencil: control block `cb`, coefficients at `coef`. -/
def State.stencilRow (s : State) (cb : List Byte) (coef row : Nat) : List (Nat × Word) :=
  let d := leAt cb 2 1
  let pts := stencil (leAt cb 3 1)
  let node := row / d
  (List.range pts.length).flatMap (fun k =>
    match neighbour (leAt cb 8 4) (leAt cb 0xC 4) (leAt cb 0x10 4) node (pts.getD k (0, 0, 0)) with
    | none => []
    | some m =>
      let blk := if leAt cb 6 1 = 1 then k else node * pts.length + k
      let at_ := coef + 8 * d * (blk * d + row % d)
      (List.range d).map (fun j => (m * d + j, BitVec.ofNat 64 (leNat (s.paBytes (at_ + 8 * j) 8)))))

/-- Block size of a block-CSR form. -/
def blockSize (form : Nat) : Nat := if form = 0 then 4 else if form = 1 then 8 else 1

/-- Entries of one row of the matrix object at `m`. -/
def State.matRow (s : State) (m row : Nat) : List (Nat × Word) :=
  let h := s.paBytes m 64
  let form := leAt h 0 1
  if form = 2 then s.stencilRow (s.paBytes (m + leAt h 0x18 8) 128) (m + leAt h 0x28 8) row
  else
    let b := blockSize form
    let w := if leAt h 1 1 = 1 then 8 else 4
    let ptr := fun i => leNat (s.paBytes (m + leAt h 0x18 8 + 8 * i) 8)
    let lo := ptr (row / b)
    (List.range (ptr (row / b + 1) - lo)).flatMap (fun k =>
      let col := leNat (s.paBytes (m + leAt h 0x20 8 + w * (lo + k)) w)
      let at_ := m + leAt h 0x28 8 + 8 * b * ((lo + k) * b + row % b)
      (List.range b).map (fun j => (col * b + j, BitVec.ofNat 64 (leNat (s.paBytes (at_ + 8 * j) 8)))))

/-- Bytes the port moves for one row of `n` entries, its output element included (R242). -/
def State.rowTraffic (s : State) (m n : Nat) : Nat :=
  let h := s.paBytes m 64
  match leAt h 0 1 with
  | 0 => n * 41 / 4 + 8
  | 1 => n * 145 / 16 + 8
  | _ => (if leAt (s.paBytes (m + leAt h 0x18 8) 128) 6 1 = 1 then 0 else 8 * n) + 16

/-! The program a solve runs. -/

/-- How a program stops short: it waits, or it breaks down (R254). -/
inductive Halt where
  | need (n : SolveNeed)
  | breakdown (inv ovf : Bool) (bytes : Nat)
deriving DecidableEq, Repr

/-- What a program carries: answers not yet used, flags raised, applications so far, bytes moved, passes over the
matrix, and the vectors of the last Chebyshev application. -/
structure RunSt where
  ans : List SolveAns
  inv : Bool
  ovf : Bool
  apps : Nat
  bytes : Nat
  mats : Nat
  cheb : List (List Word)
deriving DecidableEq, Repr

abbrev Run := StateT RunSt (Except Halt)

/-- What a program reads: rows of the matrix, its own rows, the right-hand side, the control block, the factors. -/
structure Sys where
  row : Nat → List (Nat × Word)
  rowBytes : Nat → Nat
  block : List Byte
  b : List Word
  factors : List (List Word)
  pivots : List Nat
  thr : Word

def Sys.split (y : Sys) : Bool := sPartCount y.block != 1

/-- Round a result to FP64 in RNE, keeping its flags. -/
def out64 (r : FpNum × Flags) : Run Word := do
  let d := deliver 0 .rne false false r.1
  modify (fun t => { t with inv := t.inv || r.2.invalid || d.2.invalid, ovf := t.ovf || d.2.overflow })
  return BitVec.ofNat 64 d.1

def traffic (n : Nat) : Run Unit := modify (fun t => { t with bytes := t.bytes + n })

def sadd (a b : Word) : Run Word := out64 (FpNum.add false (f64 a) (f64 b))
def ssub (a b : Word) : Run Word := out64 (FpNum.add false (f64 a) (f64 b).neg)
def smul (a b : Word) : Run Word := out64 (FpNum.mul (f64 a) (f64 b))
def sdiv (a b : Word) : Run Word := out64 (FpNum.div (f64 a) (f64 b))
def ssqrt (a : Word) : Run Word := out64 (FpNum.sqrt (f64 a))
def neg64 (a : Word) : Word := a ^^^ (0x8000000000000000 : Word)

def breakDown {α : Type} : Run α := do
  let t ← get
  throw (.breakdown t.inv t.ovf t.bytes)

/-- A scalar is checked before it is applied to a vector (R254). -/
def use64 (a : Word) : Run Unit := if isFinite64 a then return () else breakDown

/-- Exact sum of products in a wide entry (R241). -/
def products (ps : List (Word × Word)) : AccEntry :=
  ps.foldl (fun e p =>
    let m := FpNum.mul (f64 p.1) (f64 p.2)
    AccEntry.add true e m.1 m.2.invalid) AccEntry.empty

/-- Round an entry to FP64. -/
def roundEntry (e : AccEntry) : Run Word := do
  let d := AccEntry.drain true e 0 0 0 0
  modify (fun t => { t with inv := t.inv || d.2.invalid, ovf := t.ovf || d.2.overflow })
  return BitVec.ofNat 64 d.1

/-- The sum over all members (R265): the own entry goes to the exchange area. -/
def total (y : Sys) (e : AccEntry) : Run AccEntry := do
  if !y.split then return e
  traffic 544
  let t ← get
  match t.ans with
  | .entry g :: rest => set { t with ans := rest }; return g
  | _ => throw (.need (.entry e))

/-- The whole vector (R265): published, then read after the barrier. -/
def gather (y : Sys) (x : List Word) : Run (List Word) := do
  if !y.split then return x
  traffic (8 * x.length)
  let t ← get
  match t.ans with
  | .vec g :: rest => set { t with ans := rest }; return g
  | _ => throw (.need (.gather x))

/-- Dot product over all rows of the solve. -/
def dot64 (y : Sys) (u v : List Word) : Run Word := do
  traffic (16 * u.length)
  roundEntry (← total y (products (u.zip v)))

/-- 2-norm (R241). -/
def norm64 (y : Sys) (u : List Word) : Run Word := do
  traffic (8 * u.length)
  ssqrt (← roundEntry (← total y (products (u.zip u))))

/-- Own rows of a x (R241). -/
def matvec (y : Sys) (x : List Word) : Run (List Word) := do
  let g ← gather y x
  modify (fun t => { t with mats := t.mats + 1 })
  (List.range (sRows y.block)).mapM (fun i => do
    let es := y.row (sRowFirst y.block + i)
    traffic (y.rowBytes es.length)
    roundEntry (products (es.map (fun e => (e.2, g.getD e.1 0)))))

/-- A vector update: the exact sum of scalar multiples of vectors, each element rounded once (R241, R254). -/
def update (terms : List (Word × List Word)) : Run (List Word) := do
  for t in terms do use64 t.1
  let n := match terms with | t :: _ => t.2.length | [] => 0
  traffic (8 * (terms.length + 1) * n)
  (List.range n).mapM (fun i =>
    roundEntry (products (terms.map (fun t => (t.1, t.2.getD i 0)))))

/-- A vector divided by a scalar, each element rounded once. -/
def vdiv (v : List Word) (a : Word) : Run (List Word) := do
  use64 a
  traffic (16 * v.length)
  v.mapM (fun x => sdiv x a)

/-- b - a x. -/
def residual (y : Sys) (x : List Word) : Run (List Word) := do
  update [(one64, y.b), (neg64 one64, ← matvec y x)]

end Sys2Proof.Machine
end

