-- ==== Sys2Proof/Machine/SolveMethods.lean ====
section
/-! DEFINITION. The methods and preconditioners of a solver engine (R252 to R258) as programs over `Run`: the driver's
start, one turn of its loop, and what each method carries from turn to turn. MINRES is the published recurrence of
Paige and Saunders that R253 names (log 12). -/
namespace Sys2Proof.Machine

/-! Block-Jacobi factors (R255, R256). -/

/-- Factors of one block so far: rows, the order its rows were taken in, boosts. -/
structure Lu where
  rows : List (List Word)
  perm : List Nat
  boosts : Nat
deriving DecidableEq, Repr

def absLt (a b : Word) : Bool := lt64 (a &&& 0x7FFFFFFFFFFFFFFF) (b &&& 0x7FFFFFFFFFFFFFFF)

/-- Index of the candidate of largest magnitude in column `k` at or below row `k`; the first on a tie. -/
def luPivot (rows : List (List Word)) (k : Nat) : Nat :=
  let c := fun i => (rows.getD i []).getD k 0
  (List.range rows.length).foldl (fun best i => if k < i ∧ absLt (c best) (c i) then i else best) k

/-- Exchange two rows. -/
def swapRows {α : Type} (l : List α) (i j : Nat) : List α :=
  match l[i]?, l[j]? with
  | some a, some b => updateAt (updateAt l i (fun _ => b)) j (fun _ => a)
  | _, _ => l

/-- One elimination step with its pivot boosted where it is too small: `tiny` is 2^-26 nu (R256). -/
def luStep (tiny : Word) (f : Lu) (k : Nat) : Run Lu := do
  let p := luPivot f.rows k
  let rows := swapRows f.rows k p
  let perm := swapRows f.perm k p
  let c := (rows.getD k []).getD k 0
  let boost := absLt c tiny || f64 c == f64 0 || (f64 c).isZero
  let piv : Word := if boost then (if (f64 c).sign && !(f64 c).isZero then neg64 tiny else tiny) else c
  let rows1 := updateAt rows k (fun r => updateAt r k (fun _ => piv))
  let rowK := rows1.getD k []
  let rows2 ← (List.range rows1.length).mapM (fun i => do
    let r := rows1.getD i []
    if i ≤ k then return r
    let l ← sdiv (r.getD k 0) piv
    (List.range r.length).mapM (fun j => do
      if j < k then return r.getD j 0
      if j = k then return l
      roundEntry (products [(one64, r.getD j 0), (neg64 l, rowK.getD j 0)])))
  return { rows := rows2, perm := perm, boosts := f.boosts + boost.toNat }

/-- LU with partial pivoting of one block. -/
def luBlock (a : List (List Word)) : Run Lu := do
  let n := a.length
  traffic (16 * n * n + n)
  let sums ← a.mapM (fun r => roundEntry (products (r.map (fun w => (one64, w &&& 0x7FFFFFFFFFFFFFFF)))))
  let zero := a.all (fun r => r.all (fun w => (f64 w).isZero))
  let nu : Word := if zero then one64 else sums.foldl (fun m w => if lt64 m w then w else m) 0
  let tiny ← smul 0x3E50000000000000 nu
  (List.range a.length).foldlM (luStep tiny) { rows := a, perm := List.range a.length, boosts := 0 }

/-- The diagonal block of the matrix at rows `lo` to `lo + n - 1`. -/
def diagBlock (y : Sys) (lo n : Nat) : List (List Word) :=
  (List.range n).map (fun i =>
    let es := y.row (lo + i)
    (List.range n).map (fun j => match es.find? (fun e => e.1 == lo + j) with | some e => e.2 | none => 0))

/-- Factors, pivots, boosts and the first block boosted, of every block this engine owns. -/
def factorAll (y : Sys) : Run (List (List Word) × List Nat × Nat × Option Nat) := do
  let k := sPcBlock y.block
  if k = 0 then return ([], [], 0, none)
  let n := sRows y.block
  (List.range ((n + k - 1) / k)).foldlM (fun acc i => do
    let f ← luBlock (diagBlock y (sRowFirst y.block + i * k) (Nat.min k (n - i * k)))
    let first := match acc.2.2.2 with | some v => some v | none => if f.boosts = 0 then none else some (sRowFirst y.block / k + i)
    return (acc.1 ++ f.rows, acc.2.1 ++ f.perm, acc.2.2.1 + f.boosts, first)) ([], [], 0, none)

/-- Apply the factors of one block: forward, then backward, each element the exact sum rounded once and divided. -/
def luSolve (rows : List (List Word)) (perm : List Nat) (r : List Word) : Run (List Word) := do
  let n := rows.length
  traffic (8 * n * n + 17 * n)
  let fwd ← (List.range n).foldlM (fun z i => do
    let l := rows.getD i []
    let v ← roundEntry (products ((one64, r.getD (perm.getD i 0) 0) :: (List.range i).map (fun j => (neg64 (l.getD j 0), z.getD j 0))))
    return z ++ [v]) []
  (List.range n).reverse.foldlM (fun (z : List Word) i => do
    let u := rows.getD i []
    let v ← roundEntry (products ((one64, fwd.getD i 0) ::
      (List.range (n - 1 - i)).map (fun j => (neg64 (u.getD (i + 1 + j) 0), z.getD j 0))))
    let w ← sdiv v (u.getD i 0)
    return w :: z) []

/-- Block-Jacobi applied to this engine's rows. -/
def blockJacobi (y : Sys) (r : List Word) : Run (List Word) := do
  let k := Nat.max 1 (sPcBlock y.block)
  let parts ← (List.range ((r.length + k - 1) / k)).mapM (fun i =>
    luSolve ((y.factors.drop (i * k)).take k) ((y.pivots.drop (i * k)).take k) ((r.drop (i * k)).take k))
  return parts.flatten

/-- Chebyshev (R257). -/
def chebyshev (y : Sys) (r : List Word) : Run (List Word) := do
  let two : Word := 0x4000000000000000
  let theta ← sdiv (← sadd (sChebHi y.block) (sChebLo y.block)) two
  let delta ← sdiv (← ssub (sChebHi y.block) (sChebLo y.block)) two
  let sigma ← sdiv theta delta
  let rho ← sdiv one64 sigma
  let dv ← vdiv r theta
  let out ← (List.range (sChebDegree y.block - 1)).foldlM (fun (acc : List Word × List Word × Word) _ => do
    let (dv, z, rho) := acc
    let rhon ← sdiv one64 (← ssub (← smul two sigma) rho)
    let c1 ← smul rhon rho
    let c2 ← sdiv (← smul two rhon) delta
    let az ← matvec y z
    let dv1 ← update [(c1, dv), (c2, r), (neg64 c2, az)]
    let z1 ← update [(one64, z), (one64, dv1)]
    return (dv1, z1, rhon)) (dv, dv, rho)
  modify (fun t => { t with cheb := [out.1, out.2.1] })
  return out.2.1

/-- Wait for a callback on this engine's rows (R258). -/
def callback (r : List Word) : Run (List Word) := do
  let t ← get
  let n := t.apps + 1
  match t.ans with
  | .vec g :: rest => set { t with ans := rest, apps := n }; return g
  | _ => throw (.need (.callback r n))

/-- Apply the preconditioner. -/
def precond (y : Sys) (r : List Word) : Run (List Word) := do
  if sMethod y.block = 0 then return r
  match sPrecond y.block with
  | 0 => return r
  | 1 => blockJacobi y r
  | 2 => blockJacobi y r
  | 3 => chebyshev y r
  | _ => callback r

/-! Methods (R253). -/

/-- What a method carries: iterate, recurrence residual, the vectors of the workspace in the order of R251's table,
scalars, and whether its setup is due. -/
structure It where
  x : List Word
  r : List Word
  vecs : List (List Word)
  scal : List Word
  fresh : Bool
deriving DecidableEq, Repr

def It.v (t : It) (i : Nat) : List Word := t.vecs.getD i []
def It.a (t : It) (i : Nat) : Word := t.scal.getD i 0

/-- A breakdown test that holds, or a NaN in it. -/
def breakIf (b : Bool) : Run Unit := if b then breakDown else return ()

def isZero64 (w : Word) : Bool := (f64 w).isZero

/-- a ≤ 0, or NaN. -/
def notPos (w : Word) : Bool := !lt64 0 w

/-- CG and PCG: p, q, z; r z. -/
def pcgSetup (y : Sys) (t : It) : Run It := do
  let z ← precond y t.r
  let rz ← dot64 y t.r z
  return { t with vecs := [z], scal := [rz], fresh := false }

def pcgStep (y : Sys) (t : It) : Run It := do
  let p := t.v 0
  let q ← matvec y p
  let pq ← dot64 y p q
  breakIf (notPos pq)
  let alpha ← sdiv (t.a 0) pq
  let x ← update [(one64, t.x), (alpha, p)]
  let r ← update [(one64, t.r), (neg64 alpha, q)]
  let z ← precond y r
  let rzn ← dot64 y r z
  breakIf (lt64 rzn 0)
  let beta ← sdiv rzn (t.a 0)
  let p1 ← update [(one64, z), (beta, p)]
  return { x := x, r := r, vecs := if sMethod y.block = 0 then [p1, q] else [p1, q, z], scal := [rzn], fresh := false }

/-- BiCGSTAB: r-hat, p, v, s, t, p-hat, s-hat; rho, alpha, omega. -/
def bicgSetup (t : It) : It :=
  let zero := t.r.map (fun _ => (0 : Word))
  { t with vecs := [t.r, zero, zero], scal := [one64, one64, one64], fresh := false }

def bicgStep (y : Sys) (t : It) : Run It := do
  let rh := t.v 0
  let rhon ← dot64 y rh t.r
  breakIf (isZero64 rhon)
  let beta ← smul (← sdiv rhon (t.a 0)) (← sdiv (t.a 1) (t.a 2))
  use64 beta
  use64 (t.a 2)
  traffic (32 * t.r.length)
  -- r + beta (p - omega v), each element the exact sum rounded once
  let p ← (List.range t.r.length).mapM (fun i => do
    let m := FpNum.mul (f64 (t.a 2)) (f64 ((t.v 2).getD i 0))
    let d := FpNum.add false (f64 ((t.v 1).getD i 0)) m.1.neg
    let bd := FpNum.mul (f64 beta) d.1
    let r := FpNum.add false (f64 (t.r.getD i 0)) bd.1
    out64 (r.1, ((r.2.or bd.2).or d.2).or m.2))
  let ph ← precond y p
  let v ← matvec y ph
  let d ← dot64 y rh v
  breakIf (isZero64 d)
  let alpha ← sdiv rhon d
  let s ← update [(one64, t.r), (neg64 alpha, v)]
  let sh ← precond y s
  let tv ← matvec y sh
  let tt ← dot64 y tv tv
  if isZero64 tt then
    let x ← update [(one64, t.x), (alpha, ph)]
    return { x := x, r := s, vecs := [rh, p, v, s, tv, ph, sh], scal := [t.a 0, alpha, t.a 2], fresh := false }
  let omega ← sdiv (← dot64 y tv s) tt
  breakIf (isZero64 omega)
  let x ← update [(one64, t.x), (alpha, ph), (omega, sh)]
  let r ← update [(one64, s), (neg64 omega, tv)]
  return { x := x, r := r, vecs := [rh, p, v, s, tv, ph, sh], scal := [rhon, alpha, omega], fresh := false }

/-- Norm of a pair: the square root of the exact sum of squares rounded once. -/
def hypot64 (a b : Word) : Run Word := do ssqrt (← roundEntry (products [(a, a), (b, b)]))

/-- MINRES: three Lanczos vectors r1, r2, v; three directions, the last two of them carried; y. Scalars: old beta, beta, dbar, epsln, phibar, cs, sn, steps. -/
def minresSetup (y : Sys) (t : It) : Run It := do
  let yv ← precond y t.r
  let b2 ← dot64 y t.r yv
  breakIf (lt64 b2 0)
  let beta ← ssqrt b2
  let zero := t.r.map (fun _ => (0 : Word))
  return { t with vecs := [t.r, t.r, zero, zero, zero, zero, yv], scal := [0, beta, 0, 0, beta, neg64 one64, 0, 0], fresh := false }

/-- One MINRES step, and whether beta is exactly zero, which leads to the true-residual test. -/
def minresStep (y : Sys) (t : It) : Run (It × Bool) := do
  let beta0 := t.a 1
  let s ← sdiv one64 beta0
  let v ← update [(s, t.v 6)]
  let av ← matvec y v
  let y1 ← if t.a 7 = 0 then pure av else do
    let c ← sdiv beta0 (t.a 0)
    update [(one64, av), (neg64 c, t.v 0)]
  let alfa ← dot64 y v y1
  let c2 ← sdiv alfa beta0
  let r2 ← update [(one64, y1), (neg64 c2, t.v 1)]
  let yn ← precond y r2
  let b2 ← dot64 y r2 yn
  breakIf (lt64 b2 0)
  let beta ← ssqrt b2
  let cs := t.a 5
  let sn := t.a 6
  let dbar := t.a 2
  let delta ← roundEntry (products [(cs, dbar), (sn, alfa)])
  let gbar ← roundEntry (products [(sn, dbar), (neg64 cs, alfa)])
  let epsln ← smul sn beta
  let dbar1 ← smul (neg64 cs) beta
  let gamma ← hypot64 gbar beta
  let cs1 ← sdiv gbar gamma
  let sn1 ← sdiv beta gamma
  let phi ← smul cs1 (t.a 4)
  let phibar ← smul sn1 (t.a 4)
  let denom ← sdiv one64 gamma
  use64 denom
  let w0 ← update [(one64, v), (neg64 (t.a 3), t.v 4), (neg64 delta, t.v 3)]
  let w ← update [(denom, w0)]
  let x ← update [(one64, t.x), (phi, w)]
  return ({ x := x, r := t.r, vecs := [t.v 1, r2, v, w, t.v 3, t.v 4, yn],
            scal := [beta0, beta, dbar1, epsln, phibar, cs1, sn1, 1], fresh := false }, isZero64 beta)

/-- One column of GMRES: basis so far, columns of R with their rotations, g; answers whether the cycle ends. -/
structure Gm where
  basis : List (List Word)
  cols : List (List Word)
  rots : List (Word × Word)
  g : List Word
  it : Nat
  done : Bool
deriving DecidableEq, Repr

def gmresColumn (y : Sys) (q : Gm) : Run Gm := do
  if q.done then return q
  let j := q.cols.length
  let w0 ← matvec y (← precond y (q.basis.getD j []))
  let (w, h) ← (List.range (j + 1)).foldlM (fun (acc : List Word × List Word) i => do
    let v := q.basis.getD i []
    let hij ← dot64 y acc.1 v
    let w ← update [(one64, acc.1), (neg64 hij, v)]
    return (w, acc.2 ++ [hij])) (w0, [])
  let hn ← norm64 y w
  let hr ← (List.range j).foldlM (fun (h : List Word) i => do
    let (c, s) := q.rots.getD i (one64, 0)
    let a ← roundEntry (products [(c, h.getD i 0), (s, h.getD (i + 1) 0)])
    let b ← roundEntry (products [(neg64 s, h.getD i 0), (c, h.getD (i + 1) 0)])
    return updateAt (updateAt h i (fun _ => a)) (i + 1) (fun _ => b)) h
  let hj := hr.getD j 0
  let rho ← hypot64 hj hn
  let (c, s) ← if isZero64 rho then pure (one64, (0 : Word)) else do pure (← sdiv hj rho, ← sdiv hn rho)
  let g0 := q.g.getD j 0
  let ga ← smul c g0
  let gb ← smul (neg64 s) g0
  let it := q.it + 1
  let ends := isZero64 hn || le64 (gb &&& 0x7FFFFFFFFFFFFFFF) y.thr || it == sIterCap y.block
  let next ← if ends then pure [] else vdiv w hn
  return { basis := q.basis ++ [next], cols := q.cols ++ [updateAt hr j (fun _ => rho)], rots := q.rots ++ [(c, s)],
           g := updateAt q.g j (fun _ => ga) ++ [gb], it := it, done := ends }

/-- One GMRES cycle from iteration `it`: the state after it and the iteration reached. -/
def gmresCycle (y : Sys) (t : It) (it : Nat) : Run (It × Nat) := do
  let beta ← norm64 y t.r
  let v1 ← vdiv t.r beta
  let q ← (List.range (sGmresM y.block)).foldlM (fun q _ => gmresColumn y q)
    { basis := [v1], cols := [], rots := [], g := [beta], it := it, done := false }
  let n := q.cols.length
  let ys ← (List.range n).reverse.foldlM (fun (z : List Word) i => do
    let row := fun j => (q.cols.getD j []).getD i 0
    let v ← roundEntry (products ((one64, q.g.getD i 0) ::
      (List.range (n - 1 - i)).map (fun k => (neg64 (row (i + 1 + k)), z.getD k 0))))
    let w ← sdiv v (row i)
    return w :: z) []
  let vy ← update ((List.range n).map (fun k => (ys.getD k 0, q.basis.getD k [])))
  let mv ← precond y vy
  let x ← update [(one64, t.x), (one64, mv)]
  let r ← residual y x
  return ({ t with x := x, r := r, vecs := q.basis }, q.it)

/-! The driver (R252). -/

/-- What the start leaves. -/
structure Started where
  it : It
  best : Word
  bNorm : Word
  thr : Word
  /-- Stop code decided at the start, 0 for none. -/
  stop : Nat
deriving DecidableEq, Repr

/-- Set up a method from x and r. -/
def setup (y : Sys) (t : It) : Run It := do
  match sMethod y.block with
  | 0 => pcgSetup y t
  | 1 => pcgSetup y t
  | 2 => return bicgSetup t
  | 3 => return { t with fresh := false }
  | _ => minresSetup y t

/-- start of the driver: the iterate as given, its residual, the threshold. -/
def startRun (y : Sys) (x : List Word) : Run Started := do
  let bn ← norm64 y y.b
  let thr ← sadd (← smul (sRtol y.block) bn) (sAtol y.block)
  let r ← residual y x
  let best ← norm64 y r
  let t : It := { x := x, r := r, vecs := [], scal := [], fresh := true }
  if !isFinite64 best then return { it := t, best := best, bNorm := bn, thr := thr, stop := 4 }
  if le64 best thr then return { it := t, best := best, bNorm := bn, thr := thr, stop := 1 }
  return { it := t, best := best, bNorm := bn, thr := thr, stop := 0 }

/-- What one turn of the loop leaves. -/
structure Turn where
  st : It
  it : Nat
  /-- True residual computed in this turn, with the iterate it belongs to. -/
  res : Option Word
  stop : Nat
deriving DecidableEq, Repr

/-- Method step of one turn: new state, iteration count, the recurrence norm, whether the residual test is forced, and
whether r already is the true residual. -/
def methodStep (y : Sys) (t : It) (it : Nat) : Run (It × Nat × Word × Bool) := do
  match sMethod y.block with
  | 2 =>
    let t1 ← bicgStep y t
    return (t1, it + 1, ← norm64 y t1.r, false)
  | 3 =>
    let (t1, k) ← gmresCycle y t it
    return (t1, k, 0, true)
  | 4 =>
    let (t1, zero) ← minresStep y t
    return (t1, it + 1, (t1.a 4) &&& 0x7FFFFFFFFFFFFFFF, zero)
  | _ =>
    let t1 ← pcgStep y t
    return (t1, it + 1, ← norm64 y t1.r, false)

/-- loop of the driver: one step, the true residual where it is due, and the stop tests in their order (R259). -/
def turnRun (y : Sys) (t : It) (it : Nat) : Run Turn := do
  let t0 ← if t.fresh then setup y t else pure t
  let (t1, k, rn, forced) ← methodStep y t0 it
  let cap := k == sIterCap y.block
  if forced || le64 rn y.thr || k % sCheckEvery y.block == 0 || cap then
    let r ← if sMethod y.block = 3 then pure t1.r else residual y t1.x
    let tr ← norm64 y r
    let t2 : It := { t1 with r := r, fresh := sMethod y.block == 2 }
    let stop := if le64 tr y.thr then 1 else if cap then 2 else 0
    return { st := t2, it := k, res := some tr, stop := stop }
  return { st := t1, it := k, res := none, stop := 0 }

/-- The recheck of the return: the residual norm of x as read back (R262). -/
def recheckRun (y : Sys) (x : List Word) : Run Word := do norm64 y (← residual y x)

/-- Run a program from the start of its boundary. -/
def runSolve {α : Type} (p : Run α) (ans : List SolveAns) (apps : Nat) : Except Halt (α × RunSt) :=
  p.run { ans := ans, inv := false, ovf := false, apps := apps, bytes := 0, mats := 0, cheb := [] }

/-! The workspace (R251): where what a method carries stands in memory. -/

/-- Vectors of the workspace by number, as a boundary leaves them. MINRES holds its residual in the first Lanczos vector
until its setup, GMRES in w. -/
def workVectors (b : List Byte) (t : It) : List (Nat × List Word) :=
  match sMethod b with
  | 3 => (List.range t.vecs.length).map (fun i => (i + 1, t.vecs.getD i [])) ++ [(sGmresM b + 2, t.r)]
  | 4 => if t.fresh then [(1, t.r)] else (List.range t.vecs.length).map (fun i => (i + 1, t.vecs.getD i []))
  | _ => (1, t.r) :: (List.range t.vecs.length).map (fun i => (i + 2, t.vecs.getD i []))

/-- Vector `i` of a workspace. -/
def State.workVec (s : State) (b : List Byte) (i : Nat) : List Word := s.vecAt (vecAddr b i) (sRows b)

/-- What a solve carries, read back from its workspace. -/
def State.itOf (s : State) (v : Solve) : It :=
  let b := v.block
  let vs := match sMethod b with
    | 3 => []
    | 4 => (List.range 7).map (fun i => s.workVec b (i + 1))
    | _ => (List.range (solveVectors b - 2)).map (fun i => s.workVec b (i + 2))
  { x := v.x, r := s.workVec b (if sMethod b = 3 then sGmresM b + 2 else 1), vecs := vs, scal := v.scal, fresh := v.fresh }

/-- The vectors of a boundary go to the workspace. -/
def State.storeVecs (s : State) (b : List Byte) (l : List (Nat × List Word)) : State :=
  l.foldl (fun s e => s.storePa (vecAddr b e.1) (vecBytes e.2)) s

/-- Factors of the rows this engine owns, in rows of pc_block elements, with their pivots (R251, R255). -/
def State.storeFactors (s : State) (b : List Byte) (rows : List (List Word)) (pivots : List Nat) : State :=
  if sPcBlock b = 0 then s
  else
    let s1 := s.storePa (factorAddr b) (rows.flatMap (fun r => vecBytes ((r ++ List.replicate (sPcBlock b) 0).take (sPcBlock b))))
    if sPrecond b = 2 then s1.storePa (pivotAddr b) (pivots.map (BitVec.ofNat 8)) else s1

/-- The factors of a row, and the pivots. -/
def State.factorsOf (s : State) (b : List Byte) : List (List Word) :=
  if sPcBlock b = 0 then []
  else (List.range (sRows b)).map (fun i => s.vecAt (factorAddr b + 8 * sPcBlock b * i) (sPcBlock b))

def State.pivotsOf (s : State) (b : List Byte) : List Nat :=
  if sPrecond b = 2 then (s.paBytes (pivotAddr b) (sRows b)).map BitVec.toNat else List.replicate (sRows b) 0

end Sys2Proof.Machine
end

