-- ==== Sys2Proof/Machine/Solver.lean ====
section
/-! DEFINITION. Solves on the solver engines (R249 to R272): validation, start, iteration boundaries, deadline,
reductions, callbacks, the checked return and completion. -/
namespace Sys2Proof.Machine

/-! Validation (R249 to R251). -/

/-- Rows of the matrix object at `m`. -/
def State.matRows (s : State) (m : Nat) : Nat := leNat (s.paBytes (m + 8) 8)

/-- A matrix header is well formed (R247). -/
def State.matOk (s : State) (m : Nat) : Bool :=
  let h := s.paBytes m 64
  let cb := s.paBytes (m + leAt h 0x18 8) 128
  decide (leAt h 0 1 ≤ 2) && decide (leAt h 1 1 ≤ 1) && (h.drop 2).take 6 == List.replicate 6 0 &&
    (h.drop 0x30) == List.replicate 16 0 && decide (0 < leAt h 8 8) &&
    (leAt h 0 1 != 2 || ([1, 2, 4, 8].contains (leAt cb 2 1) && [7, 19, 27].contains (leAt cb 3 1) &&
      leAt h 8 8 == leAt cb 8 4 * leAt cb 0xC 4 * leAt cb 0x10 4 * leAt cb 2 1))

/-- Every stated range of the control block, given the matrix block size (R249). -/
def blockOk (b : List Byte) (mb rows : Nat) : Bool :=
  let pc := sPrecond b
  let pos := fun w => isFinite64 w && !lt64 w 0
  decide (sMethod b ≤ 4) && decide (pc ≤ 4) && (sMethod b != 0 || pc == 0) && (sMethod b != 1 || pc != 0) &&
    (if sMethod b = 3 then decide (1 ≤ sGmresM b ∧ sGmresM b ≤ 64) else sGmresM b == 0) &&
    (if pc = 1 then sPcBlock b == 1 else if pc = 2 then decide (1 ≤ sPcBlock b ∧ sPcBlock b ≤ 32) else sPcBlock b == 0) &&
    (if pc = 3 then decide (1 ≤ sChebDegree b ∧ sChebDegree b ≤ 16) else sChebDegree b == 0) &&
    decide (1 ≤ sCheckEvery b ∧ sCheckEvery b ≤ 256) && decide (1 ≤ sIterCap b ∧ sIterCap b ≤ 16777216) &&
    decide (leAt b 0x0C 4 < 4) && pos (sRtol b) && pos (sAtol b) && decide (sMargin b ≤ 10000000000) &&
    decide (sWork b % 4096 = 0) && decide (1 ≤ sRows b ∧ sRows b ≤ 2 ^ 32) &&
    decide (sRowFirst b % mb = 0) && (sPcBlock b == 0 || sRowFirst b % sPcBlock b == 0) &&
    decide (sRowFirst b + sRows b ≤ rows) &&
    (pc != 3 || (lt64 0 (sChebLo b) && lt64 (sChebLo b) (sChebHi b) && isFinite64 (sChebHi b))) &&
    (pc != 4 || decide (sCbGo b < 16384 ∧ sCbDone b < 16384)) &&
    decide (1 ≤ sPartCount b ∧ sPartCount b ≤ 4096) && decide (sPartIndex b < sPartCount b) &&
    (decide (sConst b < 1024) || sConst b == 0xFFFF) && (b.drop 0x9A).take 102 == List.replicate 102 0 &&
    decide (workNeed b ≤ sWorkSize b)

/-- The engine a block names is one of the partition's. -/
def State.selectOk (s : State) (p : Nat) (b : List Byte) : Bool :=
  sSelect b == 0xFF || (decide (sSelect b < 16) && s.partOfSe (sSelect b) == some p)

/-- Every address of a block lies in the partition (R457). -/
def State.solveReach (s : State) (p : Nat) (b : List Byte) : Bool :=
  let n := 8 * sRows b
  s.reachAll (some p) (sMatrix b) 64 && s.reachAll (some p) (sB b) n && s.reachAll (some p) (sX b) n &&
    s.reachAll (some p) (sWork b) (workNeed b) && s.reachAll (some p) (sResult b) 64

/-- Exchange area of a group: in a live region of the partition, as long as stated (R249). -/
def State.exchangeOk (s : State) (p : Nat) (b : List Byte) : Bool :=
  let a := sExchange b
  let n := 8 * s.matRows (sMatrix b) + 65536
  sPartCount b == 1 ||
    (List.range 4096).any (fun d => s.fon (R.RMM_RGN_CFG.enable d) && !s.fon (R.RMM_RGN_CFG.cls d) &&
      s.fget (R.RMM_RGN_CFG.partition d) == p && decide (s.fget (R.RMM_RGN_BASE.base_2m d) * 0x200000 ≤ a) &&
      decide (a + n ≤ (s.fget (R.RMM_RGN_BASE.base_2m d) + s.fget (R.RMM_RGN_BASE.size_2m d)) * 0x200000)) &&
    s.reachAll (some p) a n

/-- Slot numbers that name a solve to be resumed after a restore (R271). -/
def resumeBase : Nat := 2 ^ 20

/-- A solve that may start: its partition, control block, whether it goes on from the x_best of its workspace, and the
iterations behind it. -/
structure SolveReq where
  part : Nat
  block : List Byte
  fromBest : Bool
  it : Nat
deriving DecidableEq, Repr

/-- The solve that a slot names: that of an operation, or one to be resumed. -/
def State.solveReq (s : State) (k : Nat) : Option SolveReq :=
  if resumeBase ≤ k then
    match s.resumes[k - resumeBase]? with
    | some r => some { part := r.1, block := r.2.1, fromBest := true, it := r.2.2 }
    | none => none
  else (s.op k).map (fun o => { part := o.partition, block := o.ctrl, fromBest := decide (0 < o.reissues), it := o.resumeIt })

/-- The control block of the solve in a slot. -/
def State.solveBlock (s : State) (k : Nat) : List Byte := match s.solveReq k with | some q => q.block | none => []

/-- The engine that runs the solve in slot `k`. -/
def State.solveSe (s : State) (k : Nat) : Option Nat :=
  (List.range 16).find? (fun n => match (s.se n).solve with | some v => v.slot == k | none => false)

/-- Solves validated, or to be resumed, that wait for an engine. -/
def State.waitingSolves (s : State) : List Nat :=
  (s.liveOps (fun o => o.code == 0x21 && o.started) ++ (List.range s.resumes.length).map (fun i => resumeBase + i)).filter
    (fun k => (s.solveSe k).isNone)

/-- Members of a group of partition `p` that wait (R250). -/
def State.groupWaiting (s : State) (p group : Nat) : List Nat :=
  s.waitingSolves.filter (fun k => match s.solveReq k with
    | some q => q.part == p && sPartCount q.block != 1 && sGroup q.block == group
    | none => false)

/-- More members of a group are on this package than its engines of the partition: all of a group that lies within one
package, as many as wait of one that spans packages (R250). -/
def State.groupTooLarge (s : State) (p : Nat) (b : List Byte) : Bool :=
  sPartCount b != 1 &&
    decide ((s.partSes p).length < if sConst b = 0xFFFF then sPartCount b else (s.groupWaiting p (sGroup b)).length)

/-- A malformed block: INTERNAL with progress 0 before any byte is written; an idle engine it names shows MALFORMED. -/
def State.malformedSolve (s : State) (k : Nat) (b : List Byte) : State :=
  let s1 :=
    if sSelect b < 16 ∧ (s.se (sSelect b)).solve = none then
      (s.setReg (A.SLV_STATUS (sSelect b)) 0).fset (R.SLV_STATUS.stop (sSelect b)) 6
    else s
  (s1.flagOp k flagCount).endOp k stInternal

/-- SOLVE: the device validates the block (R249, R250). With a member too many, every member that waits is refused. -/
def execSolve (slot : Nat) (s : State) : Res :=
  match s.mayStartOp slot 0x21 with
  | none => .next s
  | some o =>
    let p := o.partition
    let a := leAt o.desc 8 8
    let s1 := s.beginOp slot
    if !s.reachAll (some p) a 256 then .next ((s1.flagOp slot flagCount).endOp slot stFaultAddr)
    else
      let b := s.paBytes a 256
      let s2 := (s1.touchPa a 256 0).onOp slot (fun o => { o with ctrl := b })
      if !s.reachAll (some p) (sMatrix b) 64 then .next ((s2.flagOp slot flagCount).endOp slot stFaultAddr)
      else if !(s.matOk (sMatrix b) && blockOk b (blockSize (leAt (s.paBytes (sMatrix b) 64) 0 1)) (s.matRows (sMatrix b)) &&
          s.selectOk p b && s.exchangeOk p b) then
        .next (s2.malformedSolve slot b)
      else if !s.solveReach p b then .next ((s2.flagOp slot flagCount).endOp slot stFaultAddr)
      else if s2.groupTooLarge p b then
        .next ((s2.groupWaiting p (sGroup b)).foldl (fun s k => s.malformedSolve k (s.solveBlock k)) s2)
      else .next s2

/-! Running. -/

/-- The deadline of a block as the registers stand (R260); 0 when deadline_en is 0. -/
def State.deadlineOf (s : State) (b : List Byte) : Nat :=
  if !sDeadlineEn b then 0
  else
    let num := s.fget R.TRN_NUMBER.transit
    let t : Int := if sDeadlineTransit b = 0 then (num : Int) + 1 else sDeadlineTransit b
    let d : Int := (s.fget R.TRN_NEXT.next_ns : Int) + (t - num - 1) * (s.fget R.TRN_PERIOD.period_ns : Int) - sMargin b
    d.toNat

/-- Header of the workspace (R251). -/
def State.workHeader (s : State) (n : Nat) (v : Solve) : State :=
  let w := sWork v.block
  (((s.storePa w (leBytes 8 v.best.toNat ++ leBytes 4 v.bestIter)).storePa (w + 0x100) v.block)).finc
    (R.SLV_PORT_BYTES.port_bytes n) 268

/-- x_best and the header that goes with it (R251). -/
def State.putBest (s : State) (n : Nat) (v : Solve) (x : List Word) : State :=
  ((s.storePa (vecAddr v.block 0) (vecBytes x)).finc (R.SLV_PORT_BYTES.port_bytes n) (8 * x.length)).workHeader n v

/-- x_best as the workspace holds it. -/
def State.xBest (s : State) (v : Solve) : List Word := s.workVec v.block 0

/-- The environment of a solve's program. -/
def State.sysOf (s : State) (v : Solve) : Sys :=
  { row := s.matRow (sMatrix v.block), rowBytes := s.rowTraffic (sMatrix v.block), block := v.block,
    b := s.vecAt (sB v.block) (sRows v.block), factors := s.factorsOf v.block, pivots := s.pivotsOf v.block, thr := v.thr }

/-- Ranges of the matrix that this engine's rows read: address, bytes (R242, R247). -/
def State.matReads (s : State) (b : List Byte) : List (Nat × Nat) :=
  let m := sMatrix b
  let h := s.paBytes m 64
  let form := leAt h 0 1
  let vals := m + leAt h 0x28 8
  if form = 2 then
    let at_ := m + leAt h 0x18 8
    let cb := s.paBytes at_ 128
    let d := leAt cb 2 1
    let node := 8 * d * d * (stencil (leAt cb 3 1)).length
    let lo := sRowFirst b / Nat.max d 1
    let hi := (sRowFirst b + sRows b + d - 1) / Nat.max d 1
    [(m, 64), (at_, 128), if leAt cb 6 1 = 1 then (vals, node) else (vals + lo * node, (hi - lo) * node)]
  else
    let bs := blockSize form
    let w := if leAt h 1 1 = 1 then 8 else 4
    let ptr := m + leAt h 0x18 8 + 8 * (sRowFirst b / bs)
    let rows := (sRows b + bs - 1) / bs
    let lo := leNat (s.paBytes ptr 8)
    let k := leNat (s.paBytes (ptr + 8 * rows) 8) - lo
    [(m, 64), (ptr, 8 * (rows + 1)), (m + leAt h 0x20 8 + w * lo, w * k), (vals + 8 * bs * bs * lo, 8 * bs * bs * k)]

/-- Ranges of the vectors: right-hand side, iterate, workspace, and the vector of the group. -/
def State.vecReads (s : State) (b : List Byte) : List (Nat × Nat) :=
  let n := 8 * sRows b
  [(sB b, n), (sX b, n), (sWork b, workNeed b)] ++
    (if sPartCount b = 1 then [] else [(sExchange b, 8 * s.matRows (sMatrix b))])

/-- What a program has read passes the LLM (R242): the matrix once for each product, the vectors. -/
def State.solveTouch (s : State) (v : Solve) (mats : Nat) : State :=
  ((List.range mats).flatMap (fun _ => s.matReads v.block) ++ s.vecReads v.block).foldl (fun s r => s.touchPa r.1 r.2 0) s

/-- Some word it reads is poisoned (R281, R289, R302). -/
def State.solvePoisoned (s : State) (v : Solve) : Bool :=
  (s.matReads v.block ++ s.vecReads v.block).any (fun r => s.paPoisoned r.1 r.2)

/-- Flags of R254 in the status word, and the port's bytes. -/
def State.solveFlags (s : State) (n : Nat) (inv ovf : Bool) (bytes : Nat) : State :=
  let s1 := if inv then s.fset (R.SLV_STATUS.invalid n) 1 else s
  let s2 := if ovf then s1.fset (R.SLV_STATUS.overflow n) 1 else s1
  s2.finc (R.SLV_PORT_BYTES.port_bytes n) bytes

/-- What a program has done beside its result: flags, traffic, what it leaves of Chebyshev. -/
def State.solveDid (s : State) (n : Nat) (v : Solve) (t : RunSt) : State :=
  let f := solveVectors v.block
  (((s.solveTouch v t.mats).solveFlags n t.inv t.ovf t.bytes)).storeVecs v.block
    ((List.range t.cheb.length).map (fun i => (f + i, t.cheb.getD i [])))

/-- A stop is decided: the return begins (R259, R262). -/
def State.solveStop (s : State) (n code : Nat) : State :=
  s.onSolve n (fun v => { v with phase := 2, need := none, answers := [], cbSince := none, stop := code,
                                 stopTime := s.rackTime, stopTransit := s.fget R.TRN_NUMBER.transit })

/-- Completion status of a stop code (R269). -/
def stopStatus (code : Nat) (twinkle reissued : Bool) : Nat :=
  match code with
  | 3 => stDeadline
  | 5 => stPartial
  | 6 => stInternal
  | 7 => stCheckFail
  | 8 => stLateTransit
  | 9 => stShrink
  | 10 => stTimeout
  | 11 => stPartial
  | _ => if twinkle then stRecovered else if reissued then stReissued else stDone

/-- The result record (R268). -/
def resultRecord (v : Solve) (st : Word) : List Byte :=
  leBytes 8 st.toNat ++ leBytes 8 v.best.toNat ++ leBytes 8 v.bNorm.toNat ++ leBytes 8 v.thr.toNat ++ leBytes 4 v.bestIter ++
    leBytes 4 (v.firstBoost.getD 0xFFFFFFFF) ++ leBytes 8 v.stopTime ++ leBytes 8 v.stopTransit ++ leBytes 8 0

/-- A solve completes with a stop code; the first `k` elements of x are written, and progress counts them (R263, R268,
R269). -/
def State.solveEnd (s : State) (n code k : Nat) (twinkle : Bool) : State :=
  match (s.se n).solve with
  | none => s
  | some v =>
    let s0 := s.solveClock n
    let done := s0.paBytes (sX v.block) (8 * k)
    let s2 := (s0.fset (R.SLV_STATUS.stop n) code).fset (R.SLV_STATUS.recheck_twinkle n) twinkle.toNat
    let s3 := if code = 6 then s2 else s2.storePa (sResult v.block) (resultRecord v (s2.reg (A.SLV_STATUS n)))
    let reissued := match s.op v.slot with | some o => decide (0 < o.reissues) | none => false
    let prog := if code = 6 ∨ code = 7 then 0 else k
    let fl := flagCount ||| (if twinkle then flagTwinkle else 0) ||| (if code = 7 then flagHard else 0)
    let s4 := s3.onOp v.slot (fun o => if o.status.isSome then o else
      { o with progress := BitVec.ofNat 64 prog, witness := if prog = 0 then 0 else BitVec.ofNat 64 (crc64 done) })
    ((s4.flagOp v.slot fl).endOp v.slot (stopStatus code twinkle reissued)).setSe n { s4.se n with solve := none }
      |>.setReg (A.SLV_TAG n) 0

/-- Flip bits of elements of a vector. -/
def flipElems (x : List Word) (errs : List (Nat × Word)) : List Word :=
  errs.foldl (fun x e => updateAt x e.1 (fun w => w ^^^ e.2)) x

/-- x_best is copied from the workspace to x (R262), with the errors the copy takes. -/
def State.copyBest (s : State) (n : Nat) (v : Solve) (k : Nat) (errs : List (Nat × Word)) : State :=
  (s.storePa (sX v.block) (vecBytes ((flipElems (s.xBest v) errs).take k))).finc (R.SLV_PORT_BYTES.port_bytes n) (16 * k)

/-- A solve stops with no recheck: a member of its group is lost, and no reduction can be formed (R267). -/
def State.solveShrink (s : State) (n : Nat) : State :=
  let s1 := s.solveStop n 9
  match (s1.se n).solve with
  | some v => (s1.copyBest n v (sRows v.block) []).solveEnd n 9 (sRows v.block) false
  | none => s1

/-- Where engine `n` puts its raw entry in the exchange area, behind the vector (R265; log 81). -/
def State.entryAddr (s : State) (b : List Byte) (n : Nat) : Nat := sExchange b + 8 * s.matRows (sMatrix b) + 544 * n

/-- A program stopped short (R254, R258, R265). -/
def State.solveHalt (s : State) (n : Nat) (v : Solve) (h : Halt) : State :=
  match h with
  | .breakdown inv ovf bytes => (s.solveFlags n inv ovf bytes).solveStop n 4
  | .need need =>
    let s1 := s.onSolve n (fun v => { v with need := some need })
    match need with
    | .entry own => s1.storePa (s.entryAddr v.block n) (own.raw true)
    | .gather own => s1.storePa (sExchange v.block + 8 * sRowFirst v.block) (vecBytes own)
    | .callback own _ =>
      let s2 := (s1.onSolve n (fun v => { v with cbSince := some s.clock })).storePa (zAddr v.block) (vecBytes own)
      s2.hwAdd (sCbGo v.block) 0x3FF

/-- Tests at an iteration boundary, in order (R259). A member of a group carries an abort in its next reduction, so that
all stop at one boundary (R266; log 81). -/
def State.solveBoundary (s : State) (n stop : Nat) (broken : Bool) : State :=
  match (s.se n).solve with
  | none => s
  | some v =>
    let d := s.fget (R.SLV_DEADLINE.deadline_ns n)
    let split := sPartCount v.block != 1
    if stop = 1 then s.solveStop n 1
    else if broken then s.solveStop n 4
    else if stop ≠ 0 then s.solveStop n stop
    else if sDeadlineEn v.block && !split && decide (d ≤ s.rackTime) then s.solveStop n 3
    else if v.abortAsked && split then s.onSolve n (fun v => { v with ask := if v.ask = 0 then 5 else v.ask })
    else if v.abortAsked then s.solveStop n 5
    else s

/-- One recheck of the return: the residual norm of x as read back, none where a reduction is due first. -/
def State.recheckOnce (s : State) (n : Nat) (v : Solve) : State × Option Bool :=
  match runSolve (recheckRun (s.sysOf v) (s.vecAt (sX v.block) (sRows v.block))) v.answers v.applications with
  | .error (.need need) => (s.solveHalt n v (.need need), none)
  | .error _ => (s, some false)
  | .ok (w, t) => ((s.solveDid n v t).onSolve n (fun v => { v with answers := [], need := none }), some (w == v.best))

/-- The second recheck: a mismatch ends the solve CHECK_FAIL and retires the engine (R262). -/
def State.recheckLast (s : State) (n : Nat) (v : Solve) : State :=
  match s.recheckOnce n v with
  | (t, none) => t
  | (t, some true) => (t.solveEnd n v.stop (sRows v.block) true).reportOpen (srcSe n) codeRecheckTwinkle 1
  | (t, some false) => ((t.solveEnd n 7 (sRows v.block) false).retireSe n).requestRecovery (.se n)

/-- The first recheck: after a mismatch x_best is copied and rechecked once more (R262). -/
def State.recheckFirst (s : State) (n : Nat) (v : Solve) : State :=
  match s.recheckOnce n v with
  | (t, none) => t
  | (t, some true) => t.solveEnd n v.stop (sRows v.block) false
  | (t, some false) =>
    let v1 : Solve := { v with phase := 4, answers := [], need := none }
    ((t.copyBest n v (sRows v.block) v.errs).setSe n { t.se n with solve := some v1 }).recheckLast n v1

/-- Run a solve on until it has reached its next boundary, or must wait. Poison in what it reads ends it CHECK_FAIL, and
retires nothing (R281, R289, R302; log 81). -/
def State.solveGo (s : State) (n : Nat) : State :=
  match (s.se n).solve with
  | none => s
  | some v =>
    let y := s.sysOf v
    if s.solvePoisoned v then (s.solveStop n 7).solveEnd n 7 0 false
    else
    match v.phase with
    | 0 =>
      (match runSolve (startRun y v.x) v.answers v.applications with
       | .error h => s.solveHalt n v h
       | .ok (r, t) =>
         let v1 : Solve := { v with phase := 1, fresh := true, best := r.best, thr := r.thr, bNorm := r.bNorm,
                                    answers := [], need := none, applications := t.apps }
         let s1 := (((s.setSe n { s.se n with solve := some v1 }).solveDid n v1 t).putBest n v1 v.x).storeVecs v.block
           (workVectors v.block r.it)
         let s2 := (s1.setReg (A.SLV_RES n) r.best).setReg (A.SLV_BEST n) r.best
         s2.solveBoundary n (if r.stop = 4 then 0 else r.stop) (r.stop == 4))
    | 1 =>
      (match runSolve (turnRun y (s.itOf v) v.it) v.answers v.applications with
       | .error h => s.solveHalt n v h
       | .ok (r, t) =>
         let better := match r.res with | some w => lt64 w v.best | none => false
         let v1 : Solve := { v with x := r.st.x, scal := r.st.scal, fresh := r.st.fresh, it := r.it, answers := [],
                                    need := none, applications := t.apps,
                                    best := if better then r.res.getD 0 else v.best,
                                    bestIter := if better then r.it else v.bestIter }
         let s1 := ((s.setSe n { s.se n with solve := some v1 }).solveDid n v1 t).storeVecs v.block (workVectors v.block r.st)
         let s2 := (if better then s1.putBest n v1 v1.x else s1).fset (R.SLV_STATUS.iterations n) r.it
         let s3 := (match r.res with | some w => s2.setReg (A.SLV_RES n) w | none => s2).setReg (A.SLV_BEST n) v1.best
         s3.solveBoundary n r.stop false)
    | 2 => s
    | 3 => s.recheckFirst n v
    | _ => s.recheckLast n v

/-- Factors of a solve's preconditioner, computed once at its start (R255). -/
def State.solveFactors (s : State) (b : List Byte) : (List (List Word) × List Nat × Nat × Option Nat) × RunSt :=
  let y : Sys := { row := s.matRow (sMatrix b), rowBytes := s.rowTraffic (sMatrix b), block := b, b := [], factors := [], pivots := [], thr := 0 }
  match runSolve (factorAll y) [] 0 with
  | .ok r => r
  | .error _ => (([], [], 0, none), { ans := [], inv := false, ovf := false, apps := 0, bytes := 0, mats := 0, cheb := [] })

/-- +infinity: the residual of an iterate that none has been computed for. -/
def inf64 : Word := 0x7FF0000000000000

/-- A solve begins on an engine (R250, R260, R270). Until its start residual is known its workspace holds x0 with a
residual of infinity, so that header and x_best are consistent where it stops sooner (R251; log 81). -/
def State.solveBegin (s : State) (k n : Nat) : State :=
  match s.solveReq k with
  | none => s
  | some q =>
    let b := q.block
    let x := if q.fromBest then s.workVec b 0
      else if sX0Zero b then List.replicate (sRows b) 0 else s.vecAt (sX b) (sRows b)
    let bi := if q.fromBest then leNat (s.paBytes (sWork b + 8) 4) else 0
    let fac := s.solveFactors b
    let f := fac.1
    let v : Solve :=
      { slot := if resumeBase ≤ k then 2 * resumeBase else k, part := q.part, block := b, phase := 0, x := x, scal := [], fresh := true, best := inf64, bestIter := bi, thr := 0,
        bNorm := 0, it := q.it, applications := 0, firstBoost := f.2.2.2, answers := [], need := none, cbSince := none,
        hashed := false, abortAsked := false, ask := 0, lost := false, stop := 0, stopTime := 0, stopTransit := 0, errs := [],
        began := s.clock, counted := s.clock }
    let s1 := (s.setSe n { s.se n with solve := some v }).setReg (A.SLV_STATUS n) 0
    let s2 := ((s1.fset (R.SLV_STATUS.boost_count n) (Nat.min f.2.2.1 16777215)).fset (R.SLV_STATUS.pivot_boosted n)
      (decide (0 < f.2.2.1)).toNat).fset (R.SLV_STATUS.iterations n) q.it
    let tag : Nat × Nat := match s.op k with | some o => (o.tag, o.vf) | none => (0, 0)
    let s3 := (((s2.fset (R.SLV_TAG.tag n) tag.1).fset (R.SLV_TAG.vf n) tag.2).fset (R.SLV_TAG.valid n) 1).setReg
      (A.SLV_DEADLINE n) (BitVec.ofNat 64 (s.deadlineOf b))
    let s4 := (s3.solveFlags n fac.2.inv fac.2.ovf fac.2.bytes).storeFactors b f.1 f.2.1
    (if q.fromBest then s4 else s4.putBest n v x).solveGo n

/-- Engines of a partition with no solve. -/
def State.freeSes (s : State) (p : Nat) : List Nat := (s.partSes p).filter (fun n => (s.se n).solve.isNone)

/-- Give each waiting member an engine: the one it names, or the first free one; none where one must wait (R250). -/
def assignSes (named : Nat → Nat) (ks free : List Nat) : Option (List (Nat × Nat)) :=
  match ks with
  | [] => some []
  | k :: rest =>
    let pick := if named k = 0xFF then free.head? else free.find? (fun n => n == named k)
    match pick with
    | none => none
    | some n => (assignSes named rest (free.filter (fun m => m != n))).map (fun l => (k, n) :: l)

/-- The engine that a solve names, 0xFF for any: a solve that is restarted or resumed takes any free one (R270, R271). -/
def SolveReq.named (q : SolveReq) : Nat := if q.fromBest then 0xFF else sSelect q.block

/-- Slot `k` is the first of its ring to wait for an engine; members of its group do not count (R250). -/
def State.firstWaiting (s : State) (k : Nat) (group : List Nat) : Bool :=
  match s.op k with
  | none => true
  | some o => s.waitingSolves.all (fun j => j == k || group.contains j ||
      match s.op j with | some x => x.ring != o.ring || decide (o.order ≤ x.order) | none => true)

/-- SOLVE_START (R250): in ring order, the members of a group on this package together; of a group within one package,
once all of them wait. -/
def execSolveStart (now slot se : Nat) (s : State) : Res :=
  let s0 := s.advance now
  match s0.solveReq slot with
  | none => .next s0
  | some q =>
    let b := q.block
    let group := if sPartCount b = 1 then [slot] else s0.groupWaiting q.part (sGroup b)
    let ok := s0.clocked && s0.waitingSolves.contains slot && s0.firstWaiting slot group && decide (se < 16) &&
      (s0.freeSes q.part).contains se && (q.named == 0xFF || q.named == se) &&
      (sPartCount b == 1 || sConst b != 0xFFFF || group.length == sPartCount b)
    if !ok then .next s0
    else
      let named := fun k => match s0.solveReq k with | some r => r.named | none => 0xFF
      match assignSes named (group.filter (fun k => k != slot)) ((s0.freeSes q.part).filter (fun n => n != se)) with
      | none => .next s0
      | some l =>
        let s1 := ((slot, se) :: l).foldl (fun s e => s.solveBegin e.1 e.2) s0
        let started := ((slot, se) :: l).map (fun e => e.1)
        let left := (List.range s1.resumes.length).filter (fun i => !started.contains (resumeBase + i))
        .next { s1 with resumes := left.map (fun i => s1.resumes.getD i (0, [], 0)) }

/-- The callback's beacon has reached the applications so far (R258). -/
def State.callbackDone (s : State) (n : Nat) (v : Solve) (k : Nat) : Bool :=
  let bc := s.beacon (sCbDone v.block)
  s.mayUse (.se n) bc && decide (k ≤ bc.value.toNat)

/-- SOLVE_ITERATION: the engine runs to its next boundary; it waits where a reduction or a callback is due. -/
def execSolveIteration (now se : Nat) (s : State) : Res :=
  let s0 := (s.advance now).solveClock se
  match (s0.se se).solve with
  | none => .next s0
  | some v =>
    if !s0.clocked then .next s0
    else
    match v.need with
    | none => .next (s0.solveGo se)
    | some (.callback own k) =>
      if s0.callbackDone se v k then
        let z := s0.vecAt (zAddr v.block) own.length
        .next ((s0.onSolve se (fun v => { v with need := none, cbSince := none, answers := v.answers ++ [.vec z] })).solveGo se)
      else .next s0
    | some _ => .next s0

/-- A member waits for a callback. -/
def Solve.inCallback (v : Solve) : Bool := match v.need with | some (.callback _ _) => true | _ => false

/-- SOLVE_DEADLINE_CHECK (R260): at D the work of the present iteration is abandoned, but not that of the start, which
computes the residual of x0. In a group member 0 decides, as does one whose callback wait is open (R258), and the
decision goes with the next reduction (R266). -/
def execSolveDeadlineCheck (now se : Nat) (s : State) : Res :=
  let s0 := (s.advance now).solveClock se
  match (s0.se se).solve with
  | none => .next s0
  | some v =>
    if sDeadlineEn v.block && decide (v.phase < 2) && decide (s0.fget (R.SLV_DEADLINE.deadline_ns se) ≤ s0.rackTime) then
      if sPartCount v.block = 1 then whenever (v.phase == 1) (s0.solveStop se 3) s0
      else whenever (sPartIndex v.block == 0 || v.inCallback) (s0.onSolve se (fun v => { v with ask := if v.ask = 0 then 3 else v.ask })) s0
    else .next s0

/-- CALLBACK_TIMEOUT (R258): a wait longer than 100 ms without a deadline. -/
def execCallbackTimeout (now se : Nat) (s : State) : Res :=
  let s0 := (s.advance now).solveClock se
  match (s0.se se).solve with
  | none => .next s0
  | some v =>
    match v.cbSince with
    | some t =>
      whenever (!sDeadlineEn v.block && decide (t + 100000000 < s0.clock))
        (if sPartCount v.block = 1 then s0.solveStop se 10
         else s0.onSolve se (fun v => { v with ask := if v.ask = 0 then 10 else v.ask })) s0
    | none => .next s0

/-- Engines that run members of the group of a solve. -/
def State.members (s : State) (v : Solve) : List Nat :=
  (List.range 16).filter (fun n => match (s.se n).solve with
    | some w => w.part == v.part && sPartCount w.block != 1 && sGroup w.block == sGroup v.block
    | none => false)

/-- A member has reached the reduction: it waits for the others, or carries a decision to stop (R266). -/
def Solve.atReduction (v : Solve) : Bool :=
  match v.need with
  | some (.entry _) => true
  | some (.gather _) => true
  | _ => v.phase == 1 && v.ask != 0

/-- The decision that a reduction carries: that of the member with the lowest index, else of another package. -/
def decision (vs : List Solve) (far : SolveFar) : Nat :=
  match vs.find? (fun v => v.ask != 0 && sPartIndex v.block == 0), vs.find? (fun v => v.ask != 0) with
  | some v, _ => v.ask
  | none, some v => if far.stop = 0 then v.ask else far.stop
  | none, none => far.stop

/-- SOLVE_REDUCTION (R264 to R267): the members of a group meet. A group that lies within one package hears nothing from
others. A survivor of a lost member ends; the first reduction compares the shared fields; a decision to stop ends every
member's iteration; else all read the same total, or the whole vector. -/
def execSolveReduction (se : Nat) (far : SolveFar) (s : State) : Res :=
  match (s.se se).solve with
  | none => .next s
  | some v =>
    let within := sConst v.block == 0xFFFF
    let fr : SolveFar := if within then { entry := [], hashes := [], stop := 0, lost := false } else far
    let ms := s.members v
    let vs := ms.filterMap (fun n => (s.se n).solve)
    if sPartCount v.block = 1 || !v.atReduction then .next s
    else if v.lost || fr.lost then .next (s.solveShrink se)
    else if !vs.all Solve.atReduction then .next s
    else
      let h := Config.solveHash (sharedFields v.block)
      let stop := if v.phase = 1 then decision vs fr else 0
      if !v.hashed && !((vs.map (fun w => Config.solveHash (sharedFields w.block))) ++ fr.hashes).all (fun x => x == h) then
        .next (ms.foldl (fun s n => (s.solveStop n 6).solveEnd n 6 0 false) s)
      else if stop ≠ 0 then .next (ms.foldl (fun s n => s.solveStop n stop) s)
      else
        let sum := ms.foldl (fun e n => AccEntry.merge true e (AccEntry.ofRaw true (s.paBytes (s.entryAddr v.block n) 544)))
          (if within then AccEntry.empty else AccEntry.ofRaw true fr.entry)
        let answer := fun (w : Solve) => match w.need with
          | some (.entry _) => SolveAns.entry sum
          | _ => .vec (s.vecAt (sExchange w.block) (s.matRows (sMatrix w.block)))
        let s1 := ms.foldl (fun s n => s.onSolve n (fun w => { w with need := none, hashed := true, answers := w.answers ++ [answer w] })) s
        .next (ms.foldl State.solveGo s1)

/-- SOLVE_RETURN_DONE (R262): x_best copied to x, and x rechecked as read back; `first` and `second` are the errors of
the two copies. The members of a group recheck through reductions. -/
def execSolveReturnDone (now se : Nat) (first second : List (Nat × Word)) (tookNs : Nat) (s : State) : Res :=
  let s0 := s.advance now
  match (s0.se se).solve with
  | none => .next s0
  | some v =>
    if v.phase ≠ 2 then .next s0
    else
      let s1 := (s0.fset (R.SLV_RETURN_NS.return_ns se) (Nat.min tookNs (2 ^ 32 - 1))).copyBest se v (sRows v.block) first
      .next ((s1.onSolve se (fun v => { v with phase := 3, errs := second })).solveGo se)

/-- A transit under SKIP ends a solve (R263). Of a return in flight, the elements of x committed so far the spec leaves
open while the copy runs. -/
def State.solveLate (s : State) (n : Nat) : State :=
  match (s.se n).solve with
  | none => s
  | some v =>
    let k := if v.phase = 2 then Config.committed s.free % (sRows v.block + 1) else if v.phase < 2 then 0 else sRows v.block
    let s1 := if v.phase < 2 then s.solveStop n 8 else s
    ((if v.phase = 2 then s1.copyBest n v k [] else s1).drawn).solveEnd n 8 k false

/-- SOLVE_ABORT (R259, R272): ignored with no solve in flight, or once a stop is decided. -/
def execSolveAbort (fn : Fn) (se : Nat) (s : State) : Res :=
  if fn ≠ .pf 0 then .next (s.refuseWrite fn (A.SLV_CTL se) true true)
  else
    match (s.se se).solve with
    | none => .next s
    | some v => whenever (decide (v.phase < 2)) (s.onSolve se (fun v => { v with abortAsked := true })) s

end Sys2Proof.Machine
end

