-- ==== Sys2Proof/Machine/Almanac.lean ====
section
/-! DEFINITION. Almanacs (R507 to R528): arming, the cut, capture, the write order, the buddy's side, and restores. -/
namespace Sys2Proof.Machine

/-! What an almanac holds (R512, R513). -/

/-- Shard entries in use. -/
def State.almEntries (s : State) : List Nat := (List.range 256).filter (fun i => i != 0 && s.fget (R.ALM_SHARD_LEN.length i) != 0)

/-- An address lies in GDDR7 mapped to a saved partition, or in an LLM scratchpad unit of one. -/
def State.savedAt (s : State) (mask pa : Nat) : Bool :=
  let mine := fun (p : Option Nat) => match p with | some p => bit mask p | none => false
  match s.locOf pa with
  | some (.gddr ch _) => mine (s.partOfChan ch) && s.chanTrained ch
  | some (.llm u _) => mine (s.partOfLlm u) && s.llmUp u && !s.llmCached u
  | _ => false

/-- A shard entry keeps the rules of R512. A granule of an interleave is at least 256 B (R306). -/
def State.entryOk (s : State) (mask i : Nat) : Bool :=
  let base := s.fget (R.ALM_SHARD_BASE.base i)
  let len := s.fget (R.ALM_SHARD_LEN.length i)
  decide (base % 4096 = 0) && decide (len % 4096 = 0) && decide (4096 ≤ len ∧ len ≤ 2 ^ 40) &&
    (List.range (len / 256)).all (fun k => s.savedAt mask (base + 256 * k))

/-- T-cores, tenants and solves of the saved partitions. -/
def State.almCores (s : State) (mask : Nat) : List Nat :=
  (bitsOf 16 mask).flatMap (fun p => (bitsOf 128 (s.clusterMask p)).flatMap coresOfCluster)

def State.almTenants (s : State) (mask : Nat) : List Nat :=
  (List.range 4096).filter (fun v => match s.tenantPart v with | some p => bit mask p | none => false)

def State.almSolves (s : State) (mask : Nat) : List Solve :=
  if s.fon R.ALM_PLAN.solver then
    (List.range 16).filterMap (fun n => match s.partOfSe n with | some p => if bit mask p then (s.se n).solve else none | none => none)
  else []

/-- Record of a T-core: a retired one has zero seed and counter (R513). -/
def State.coreRecord (s : State) (c : Nat) : List Byte :=
  let up := s.tcoreUp c
  let w := fun (off : Nat) => if up then leBytes 8 (s.reg off).toNat else leBytes 8 0
  leBytes 2 c ++ leBytes 2 (if up then 0 else 1) ++ leBytes 4 0 ++ w (A.TC_NUM_SEED_LO c) ++ w (A.TC_NUM_SEED_HI c) ++ w (A.TC_NUM_SR_CTR c)

def State.cursorRecord (s : State) (v : Nat) : List Byte := leBytes 2 v ++ List.replicate 6 0 ++ leBytes 8 (s.reg (A.ALM_CURSOR v)).toNat

/-- Record of a solve: its control block, workspace header and x_best. -/
def State.solveRecord (s : State) (v : Solve) : List Byte :=
  sized 256 v.block ++ s.paBytes (sWork v.block) (4096 + 8 * sRows v.block)

/-- The state shard; the places of the header's fields are the model's (log 25). -/
def State.stateShard (s : State) (mask t : Nat) : List Byte :=
  let cs := s.almCores mask
  let vs := s.almTenants mask
  let ss := s.almSolves mask
  sized 128 (leBytes 8 t ++ leBytes 2 mask ++ s.structHash ++ leBytes 4 (s.fget R.GLB_FW.version) ++ leBytes 2 cs.length ++
    leBytes 2 vs.length ++ leBytes 2 ss.length) ++
    cs.flatMap s.coreRecord ++ vs.flatMap s.cursorRecord ++ ss.flatMap s.solveRecord

/-- The almanac fits its slot. -/
def State.almFits (s : State) (mask : Nat) : Bool :=
  let need := 16 + shardBlocks (s.stateShard mask 0).length +
    ((s.almEntries.map (fun i => shardBlocks (s.fget (R.ALM_SHARD_LEN.length i)))).foldl (· + ·) 0)
  decide (need ≤ s.slotBlocks)

/-! Arming and cancelling (R507). -/

/-- PF0, PF1 and management messages write the block (R527). -/
def almRights (fn : Fn) : Bool := match fn with | .pf n => decide (n < 2) | .mgmt => true | .vf _ => false

/-- A cancel (R507, R527): before the cut it withdraws; while the partitions quiesce and during capture it asks for the
end at the next boundary. -/
def State.almCancel (s : State) : State :=
  match s.almState with
  | 1 => (s.almRelease stDone).almIdle
  | 2 => { s with alm := { s.alm with cancelAsked := true } }
  | 3 => { s with alm := { s.alm with cancelAsked := true } }
  | _ => s

/-- Requester of the arbiter's slot. -/
def almRequester (fn : Fn) : Nat := if fn = .mgmt then reqPldm else reqPf0

/-- ALM_ARM. `drivesOk`: Identify finds every drive as R514 asks. -/
def execAlmArm (fn : Fn) (cancel drivesOk : Bool) (s : State) : Res :=
  if !almRights fn then .next (s.refuseWrite fn A.ALM_CTL true true)
  else if cancel then .next s.almCancel
  else if s.almState ≠ 0 then .next (s.almErr 14)
  else
    let s0 := s.readAlmLast
    let t := s0.fget R.ALM_CUT_AT.at_transit
    let mask := s0.fget R.ALM_PLAN.part_mask
    if t ≤ s0.fget R.TRN_NUMBER.transit + 1 then .next (s0.almErr 1)
    else if (s0.mntDecide 6 0 true).1 ≠ stDone then .next ((s0.mntGrant 6 0 (almRequester fn) true).1.almErr 2)
    else if !(s0.almEntries.all (s0.entryOk mask)) then .next (s0.almErr 3)
    else if !drivesOk || s0.almDrives == 0 then .next (s0.almErr 4)
    else if !s0.almFits mask then .next (s0.almErr 5)
    else
      let s1 := (s0.mntGrant 6 0 (almRequester fn) true).1.fset R.ALM_STATUS.state 1
      .next { s1 with alm := { s1.alm with cut := t } }

/-- ALM_CANCEL. -/
def execAlmCancel (fn : Fn) (s : State) : Res :=
  if almRights fn then .next s.almCancel else .next (s.refuseWrite fn A.ALM_CTL true true)

/-! The cut and the release (R508, R510, R511). -/

/-- Hold or release the control cores and P application cores of a set of partitions. -/
def State.holdCores (s : State) (mask : Nat) (on : Bool) : State :=
  let s1 := (s.almCores mask).foldl (fun s c => s.onCore c (fun t => { t with cc := { t.cc with held := on } })) s
  let pcs := (bitsOf 16 mask).flatMap (fun p => bitsOf 192 (s1.pcoreMask p))
  let s2 := pcs.foldl (fun s c => s.setPcore c { s.pcore c with held := on }) s1
  (bitsOf 16 mask).foldl (fun s p => s.fset (R.PRT_STATUS.held p) (on || s.togus.pending.any (fun i => i.partition == p && i.held)).toNat) s2

/-- ALMANAC_CUT at transit `n`; `late` are the partitions of this package darkened for the step that begins. -/
def State.almCutAt (s : State) (n : Nat) (late : List Nat) : State :=
  if s.almState = 1 ∧ s.alm.cut = n then
    let mask := (bitsOf 16 (s.fget R.ALM_PLAN.part_mask)).filter s.partPresent |> maskOf
    if late.any (fun p => bit mask p) then s.almFail 7
    else
      let s1 : State := { s with alm := { s.alm with held := true, parts := mask } }
      (s1.fset R.ALM_STATUS.state 2).holdCores mask true
  else s

/-- ALMANAC_RELEASE at a transit: capture has read its last byte, or the almanac has ended. -/
def State.almUnhold (s : State) : State :=
  if s.alm.held && (s.alm.readDone || !(s.almState == 2 || s.almState == 3)) then
    { s with alm := { s.alm with held := false } }.holdCores s.alm.parts false
  else s

/-! Capture and the write order (R509, R518). -/

/-- The saved partitions have nothing in flight and every engine queue is empty (R509). A solve that the almanac
records goes on (log 25). -/
def State.quiet (s : State) : Bool :=
  let mine := fun (p : Nat) => bit s.alm.parts p
  s.opSlots.all (fun k => match s.op k with
    | some o => !mine o.partition || (o.code == 0x21 && s.fon R.ALM_PLAN.solver)
    | none => true) &&
  (s.almCores s.alm.parts).all (fun c =>
    let t := s.tcore c
    t.me.queue.isEmpty && t.ve.queue.isEmpty && t.fe.queue.isEmpty && t.fe.xfer.isNone)

/-- Mirroring goes on: asked for, and not failed. -/
def State.mirrors (s : State) : Bool := s.alm.mirrorOk

def State.buddy (s : State) : Nat := s.fget R.ALM_BUDDY.buddy_ldn

/-- Begin a step: `out` is its writes and flushes on the drives, and the message of shard `shard` goes to the buddy. -/
def State.almStep (s : State) (step shard : Nat) (out : List Out) (bytes : List Byte) (kind : Nat) (toBuddy : Bool) : State :=
  let b := toBuddy && s.mirrors
  let s1 : State := { s with alm := { s.alm with step := step, localWait := true, buddyWait := b } }
  let s2 := out.foldl State.emit s1
  if b then s2.emit (.vc7 s2.buddy kind [s2.alm.target, shard, 0] bytes) else s2

/-- A write of the slot being written, from its block `b` on. -/
def State.slotOut (s : State) (b : Nat) (bytes : List Byte) : Out :=
  .nvme (s.slotBlock s.alm.target b).1 (s.slotBlock s.alm.target b).2 bytes

/-- Bytes of a shard as memory holds them. -/
def State.shardBytes (s : State) (i : Nat) : List Byte :=
  if i = 0 then s.alm.stateShard else s.paBytes (s.fget (R.ALM_SHARD_BASE.base i)) (s.fget (R.ALM_SHARD_LEN.length i))

/-- Write a shard into a slot of an area on the drives. -/
def State.putShard (s : State) (place i : Nat) (bytes : List Byte) : State :=
  { s with alm := { s.alm with shards := (place, i, bytes) :: s.alm.shards.filter (fun e => !(e.1 == place && e.2.1 == i)) } }

def State.putManifest (s : State) (place : Nat) (bytes : List Byte) : State :=
  { s with alm := { s.alm with manifests := updateAt s.alm.manifests place (fun _ => bytes) } }

/-- Length of shard `i`, and its first block in a slot: after the 64 KiB manifest region and the shards before it. -/
def State.shardLen (s : State) (i : Nat) : Nat := if i = 0 then s.alm.stateShard.length else s.fget (R.ALM_SHARD_LEN.length i)

def State.shardBlock (s : State) (i : Nat) : Nat :=
  16 + (((0 :: s.almEntries).filter (fun j => decide (j < i))).map (fun j => shardBlocks (s.shardLen j))).foldl (· + ·) 0

/-- Stream the next shard and its trailer (R515 to R517); with the last one memory has been read. -/
def State.nextShard (s : State) : State :=
  match s.alm.todo with
  | [] => s.almStep 3 0 [.nvmeFlush] [] 1 true
  | i :: rest =>
    let b := shardOnDrive i s.alm.cut (s.shardBytes i)
    let s1 := (s.putShard s.alm.target i b).almStep 2 i [s.slotOut (s.shardBlock i) b] b 0 true
    { s1 with alm := { s1.alm with readDone := s1.alm.readDone || rest.isEmpty, buddyWait := false } }

/-- QUIESCE_DONE: capture begins with the state shard, and the target slot's manifest is overwritten (R512, R518). -/
def execQuiesceDone (s : State) : Res :=
  if !(s.almState == 2 && s.quiet) then .next s
  else if s.alm.cancelAsked then .next (s.almFail 9)
  else
    let target := match s.almSlot 0 with | some x => 1 - x % 2 | none => 0
    let s1 : State := { s with alm := { s.alm with
      target := target, stateShard := s.stateShard s.alm.parts s.alm.cut, todo := 0 :: s.almEntries,
      mirrorOk := s.fon R.ALM_BUDDY.mirror_en } }
    .next (((s1.fset R.ALM_STATUS.state 3).putManifest target []).almStep 1 256 [s1.slotOut 0 (List.replicate 4096 0), .nvmeFlush] [] 0 true)

/-- QUIESCE_TIMEOUT: quiesce_us has passed since the cut (R509). -/
def execQuiesceTimeout (s : State) : Res := whenever (s.almState == 2) (s.almFail 6) s

/-! The manifest (R515). -/

def State.manifestEntries (s : State) : List Byte :=
  let ids := 0 :: s.almEntries
  (ids.foldl (fun (a : List Byte) i =>
    let n := s.shardLen i
    let b := (((s.alm.shards.find? (fun e => e.1 == s.alm.target && e.2.1 == i)).map (fun e => e.2.2)).getD []).take n
    let base := if i = 0 then 0 else s.fget (R.ALM_SHARD_BASE.base i)
    a ++ leBytes 2 i ++ List.replicate 6 0 ++ leBytes 8 base ++ leBytes 8 n ++ leBytes 8 (4096 * s.shardBlock i) ++ sha384 b ++
      List.replicate 16 0) [])

/-- The manifest of the almanac under way. -/
def State.buildManifest (s : State) : List Byte :=
  let head := leBytes 4 0x434E4C41 ++ leBytes 2 1 ++ leBytes 1 s.alm.target ++ leBytes 1 s.mirrors.toNat ++ leBytes 8 s.alm.cut ++
    s.structHash ++ leBytes 4 (s.fget R.GLB_FW.version) ++ leBytes 1 s.ldn ++ leBytes 2 (s.fget R.SCP_ID.rack) ++
    leBytes 1 (s.fget R.SCP_ID.slot) ++ leBytes 8 (s.reg A.SCP_SN).toNat ++ leBytes 2 s.alm.parts ++ leBytes 2 (s.almEntries.length + 1)
  let body := sized 0x100 head ++ sized 1024 Config.deviceCert ++ s.manifestEntries
  let signed := body ++ sha384 body
  signed ++ sized 96 (Config.deviceSig signed)

/-- The step's waits are over: the next step of the write order (R518). -/
def State.almAdvance (s : State) : State :=
  match s.alm.step with
  | 1 => if s.alm.cancelAsked then s.almFail 9 else s.nextShard
  | 2 =>
    if s.alm.cancelAsked then s.almFail 9
    else { s with alm := { s.alm with todo := s.alm.todo.drop 1 } }.nextShard
  | 3 =>
    let m := s.buildManifest
    let s1 : State := { s with alm := { s.alm with manifest := m } }
    (s1.fset R.ALM_STATUS.state 4).almStep 4 256 [s1.slotOut 0 m, .nvmeFlush] m 0 true
  | 4 =>
    let s1 := (s.putManifest s.alm.target s.alm.manifest).fset R.ALM_STATUS.state 5
    (s1.almStep 5 257 [] [] 0 false).sendPtr 0 s.alm.target s.alm.cut
  | 5 =>
    let t := s.alm.cut
    let ok := leAt s.alm.manifest 7 1 == 1
    let s1 := ((s.writePtr 0 s.alm.target t).readAlmLast).fset R.ALM_STATUS.mirror_ok ok.toNat
    (if s1.mirrors then s1.emit (.vc7 s1.buddy 2 [s1.alm.target, t] []) else s1).almDone
  | _ => s

/-- Bytes of a step on the drives, counted in ALM_BYTES: a zeroed block, a shard with its trailer, a manifest, a
pointer. -/
def State.stepBytes (s : State) : Nat :=
  match s.alm.step with
  | 1 => 4096
  | 2 => (match s.alm.todo with | i :: _ => 4096 * shardBlocks (s.shardLen i) | [] => 0)
  | 4 => s.alm.manifest.length
  | 5 => 4096
  | _ => 0

/-- ALMANAC_IO_DONE: the step's write or flush on the drives completes, or with `buddy` its acknowledgement by the buddy
arrives (R517, R518). A drive that fails ends the almanac with NVME; a buddy that cannot serve ends the mirror. -/
def execAlmanacIoDone (buddy ok : Bool) (s : State) : Res :=
  if !(s.almState == 3 || s.almState == 4 || s.almState == 5) then .next s
  else if buddy then
    if !s.mirrors then .next s
    else
      let s1 : State := { s with alm := { s.alm with mirrorOk := ok, buddyWait := false } }
      .next (if s.alm.buddyWait && !s1.alm.localWait then s1.almAdvance else s1)
  else if !s.alm.localWait then .next s
  else if !ok then .next (s.almFail 4)
  else
    let s1 : State := { s with alm := { s.alm with localWait := false } }
    let s2 := s1.finc R.ALM_BYTES.bytes s1.stepBytes
    .next (if s2.alm.buddyWait then s2 else s2.almAdvance)

/-! The buddy's side (R517, R518, R522). -/

/-- Activity 6 is held already, for an own almanac or for a mirror, or is granted now. -/
def State.mirrorSlot (s : State) : State × Bool :=
  if s.alm.mirroring || (s.mntSlotOf 6).isSome then (s, true)
  else
    let g := s.mntGrant 6 0 reqFirmware true
    if g.2.1 = stDone then ({ g.1 with alm := { g.1.alm with mirroring := true } }, true) else (g.1, false)

/-- MIRROR_MESSAGE: bytes of a shard, or of the manifest region as shard 256, for the buddy slot of the same number; a
CRC failure asks for the one resend, and a refused slot is answered (R517). -/
def execMirrorMessage (src slot shard off : Nat) (data : List Byte) (crcOk : Bool) (s : State) : Res :=
  if 1 < slot ∨ 256 < shard then .next s
  else if !crcOk then .next (s.emit (.vc7 src 4 [slot, shard, off] []))
  else
    let g := s.mirrorSlot
    if !g.2 then .next (g.1.emit (.vc7 src 5 [slot, shard, off] []))
    else
      let place := 2 + slot
      let put := fun (old : List Byte) => (sized (Nat.max old.length off) old).take off ++ data ++ old.drop (off + data.length)
      let s1 :=
        if shard = 256 then g.1.putManifest place (put (g.1.alm.manifests.getD place []))
        else g.1.putShard place shard (put (((g.1.alm.shards.find? (fun e => e.1 == place && e.2.1 == shard)).map (fun e => e.2.2)).getD []))
      .next ((s1.finc R.ALM_BYTES.bytes data.length).emit (.vc7 src 1 [slot, shard, off] []))

/-- The slot held for a mirror is freed. -/
def State.endMirror (s : State) : State :=
  if s.alm.mirroring then { s.almRelease stDone with alm := { s.alm with mirroring := false } } else s

/-- BUDDY_COMMIT: the buddy pointer is written as the own one (R518). -/
def execBuddyCommit (_src transit slot : Nat) (s : State) : Res :=
  whenever (decide (slot < 2)) (((s.sendPtr 1 slot transit).writePtr 1 slot transit).finc R.ALM_BYTES.bytes 4096).endMirror s

/-- Slot a restore reads: named, or the winning pointer's (R522). -/
def State.pickSlot (s : State) (area slot : Nat) : Option Nat := if slot < 2 then some slot else s.almSlot area

/-- REMOTE_SOURCE_READ: served under an own slot of activity 6, or refused (R522). -/
def execRemoteSourceRead (src : Nat) (buddyArea : Bool) (slot shard : Nat) (s : State) : Res :=
  let d := s.mntDecide 6 0 true
  if d.1 ≠ stDone then .next ((s.mntGrant 6 0 reqFirmware true).1.emit (.vc7 src 5 [slot, shard] []))
  else
    let area := buddyArea.toNat
    match s.pickSlot area slot with
    | none => .next (s.emit (.vc7 src 3 [slot, shard] []))
    | some k =>
      let place := 2 * area + k
      let bytes := if shard = 256 then s.alm.manifests.getD place []
        else ((s.alm.shards.find? (fun e => e.1 == place && e.2.1 == shard)).map (fun e => e.2.2)).getD []
      .next (s.emit (.vc7 src 3 [k, shard] bytes))

/-! Restore (R522 to R524). -/

/-- Shard entry of a manifest: offset of the entry with an id. -/
def entryAt (m : List Byte) (id : Nat) : Option Nat :=
  ((List.range (leAt m 0x52 2)).map (fun i => 0x500 + 96 * i)).find? (fun o => leAt m o 2 == id)

/-- Magic, format and manifest_digest of a manifest hold (R515, R524). -/
def manifestSound (m : List Byte) : Bool :=
  let n := 0x500 + 96 * leAt m 0x52 2
  leAt m 0 4 == 0x434E4C41 && leAt m 4 2 == 1 && decide (n + 48 + 96 ≤ m.length) && (m.drop n).take 48 == sha384 (m.take n)

/-- The rings of a partition are stopped: none of its tenants' is enabled and runs (R523). -/
def State.ringsStopped (s : State) (p : Nat) : Bool :=
  s.ringsSet.all (fun r => s.tenantPart (ringVf r) != some p || !s.ringActive r)

/-- The target range lies in one partition whose rings are stopped. -/
def State.dstOk (s : State) (dst len : Nat) : Bool :=
  decide (dst % 4096 = 0) &&
    match (s.locOf dst).bind s.locPart with
    | none => false
    | some p => s.ringsStopped p && s.reachAll (some p) dst len

/-- ALM_RESTORE: the slot is taken and the manifest verified before any byte is written. `manifest` is what a remote
holder returned; `signed` that the certificate chain and the signature verify; `before` that its firmware is the version
before the running one; `refused` that the remote holder refused (R522, R524). -/
def execAlmRestore (fn : Fn) (manifest : List Byte) (signed before refused : Bool) (s : State) : Res :=
  if !almRights fn then .next (s.refuseWrite fn A.ALM_CTL true true)
  else if s.almState ≠ 0 then .next (s.almErr 14)
  else
    let d := s.mntDecide 6 0 true
    let g := (s.mntGrant 6 0 (almRequester fn) true).1
    if d.1 ≠ stDone then .next (g.almErr 2)
    else
      let own := s.fget R.ALM_RST_SRC.ldn == 255
      let area := s.fget R.ALM_RST_SRC.buddy_area
      let slot := if s.fon R.ALM_RST_SRC.use_pointer then s.almSlot area else some (s.fget R.ALM_RST_SRC.slot)
      let m := if own then (match slot with | some k => s.alm.manifests.getD (2 * area + k) [] | none => []) else manifest
      let id := if s.fon R.ALM_RST_SRC.state_restore then 0 else s.fget R.ALM_RST_SRC.shard
      if !own && refused then .next (g.almFail 2)
      else if !(signed && manifestSound m) then .next (g.almFail 11)
      else if leAt m 0x40 4 ≠ s.fget R.GLB_FW.version && !before then .next (g.almFail 13)
      else
        match entryAt m id with
        | none => .next (g.almFail 3)
        | some o =>
          if s.fon R.ALM_RST_SRC.state_restore then
            if (m.drop 0x10).take 48 ≠ s.structHash then .next (g.almFail 12)
            else
              let s1 : State := { g with alm := { g.alm with rst := some { own := if own then slot.map (fun k => 2 * area + k) else none, manifest := m } } }
              .next (s1.fset R.ALM_STATUS.state 6)
          else if !s.dstOk (s.fget R.ALM_RST_DST.dst) (leAt m (o + 16) 8) then .next (g.almFail 3)
          else
            let s1 : State := { g with alm := { g.alm with rst := some { own := if own then slot.map (fun k => 2 * area + k) else none, manifest := m } } }
            .next (s1.fset R.ALM_STATUS.state 6)

/-- Seeds, counters and cursors of a state shard go back to their registers, and the workspaces of its solves to their
places; each solve waits to be resumed from its x_best (R271, R523). -/
def State.restoreState (s : State) (b : List Byte) : State :=
  let nc := leAt b 62 2
  let nv := leAt b 64 2
  let ns := leAt b 66 2
  let s1 := (List.range nc).foldl (fun s i =>
    let o := 128 + 32 * i
    let c := leAt b o 2
    if c < 512 then
      ((s.setReg (A.TC_NUM_SEED_LO c) (BitVec.ofNat 64 (leAt b (o + 8) 8))).setReg (A.TC_NUM_SEED_HI c) (BitVec.ofNat 64 (leAt b (o + 16) 8))).setReg
        (A.TC_NUM_SR_CTR c) (BitVec.ofNat 64 (leAt b (o + 24) 8))
    else s) s
  let o1 := 128 + 32 * nc
  let s2 := (List.range nv).foldl (fun s i =>
    let v := leAt b (o1 + 16 * i) 2
    if v < 4096 then s.setReg (A.ALM_CURSOR v) (BitVec.ofNat 64 (leAt b (o1 + 16 * i + 8) 8)) else s) s1
  ((List.range ns).foldl (fun (a : State × Nat) _ =>
    let blk := (b.drop a.2).take 256
    let n := 4096 + 8 * sRows blk
    let s3 := a.1.storePa (sWork blk) ((b.drop (a.2 + 256)).take n)
    ({ s3 with resumes := s3.resumes ++ (match s3.locOf (sWork blk) with | some l => (match s3.locPart l with | some p => [(p, blk, 0)] | none => []) | none => []) }, a.2 + 256 + n)) (s2, o1 + 16 * nv)).1

/-- RESTORE_DONE: the bytes have arrived and are hashed; `data` is what a remote holder sent. A digest that differs ends
with DIGEST, and the target range is unknown (R523). -/
def execRestoreDone (data : List Byte) (s : State) : Res :=
  match s.alm.rst with
  | none => .next s
  | some r =>
    let state := s.fon R.ALM_RST_SRC.state_restore
    let id := if state then 0 else s.fget R.ALM_RST_SRC.shard
    let raw : List Byte := match r.own with
      | some place => ((s.alm.shards.find? (fun e => e.1 == place && e.2.1 == id)).map (fun e => e.2.2)).getD []
      | none => data
    let o := (entryAt r.manifest id).getD 0
    let len := leAt r.manifest (o + 16) 8
    let dst := s.fget R.ALM_RST_DST.dst
    -- the shard's blocks begin with its bytes (R515)
    let b := raw.take len
    let ok := b.length == len && sha384 b == (r.manifest.drop (o + 32)).take 48
    if ok then .next ((if state then s.restoreState b else s.storePa dst b).almDone)
    else
      let s1 : State := { s with free := s.free + 1 }
      .next ((if state then s else s1.storePa dst ((List.range len).map (Config.restoreByte s.free))).almFail 10)

end Sys2Proof.Machine
end

