-- ==== Sys2Proof/Machine/Assemble.lean ====
section
/-! DEFINITION. The assembly front stage (R243 to R248): contributions of the three kinds of input, summed exactly and
rounded once, and the matrix object they make. -/
namespace Sys2Proof.Machine

/-! The assembly control block (R243). -/

def aKinds (b : List Byte) : Nat := leAt b 0 1
def aForm (b : List Byte) : Nat := leAt b 1 1
def aDofs (b : List Byte) : Nat := leAt b 2 1
def aPoints (b : List Byte) : Nat := leAt b 3 1
def aNpe (b : List Byte) : Nat := leAt b 4 1
def aWidth (b : List Byte) : Nat := leAt b 5 1
def aConst (b : List Byte) : Nat := leAt b 6 1
def aNodes (b : List Byte) : Nat := leAt b 8 4 * leAt b 0xC 4 * leAt b 0x10 4
def aElems (b : List Byte) : Nat := leAt b 0x14 4
def aObs (b : List Byte) : Nat := leAt b 0x18 4
def aAddr (b : List Byte) (off : Nat) : Nat := leAt b off 8
def aStencil (b : List Byte) : Bool := bit (aKinds b) 0
def aHasElems (b : List Byte) : Bool := bit (aKinds b) 1
def aHasObs (b : List Byte) : Bool := bit (aKinds b) 2
def aRows (b : List Byte) : Nat := aNodes b * aDofs b

/-- A field lies outside its range: its offset in the block. A count that belongs to an input the block does not use has
none. -/
def assembleBad (b : List Byte) : Option Nat :=
  (([ (decide (1 ≤ aKinds b ∧ aKinds b ≤ 7), 0x00), (decide (aForm b ≤ 2) && (aForm b != 2 || aKinds b == 1), 0x01),
     ([1, 2, 4, 8].contains (aDofs b), 0x02), (!aStencil b || [7, 19, 27].contains (aPoints b), 0x03),
     (!aHasElems b || decide (2 ≤ aNpe b ∧ aNpe b ≤ 27), 0x04), (!aHasObs b || decide (1 ≤ aWidth b ∧ aWidth b ≤ 64), 0x05),
     (decide (aConst b ≤ 1), 0x06), (leAt b 7 1 == 0, 0x07), (decide (0 < aNodes b), 0x08), (leAt b 0x1C 4 == 0, 0x1C),
     (leAt b 0x78 8 == 0, 0x78) ] : List (Bool × Nat)).find? (fun e => !e.1)).map Prod.snd

/-- Bytes of the coefficient array. -/
def coefBytes (b : List Byte) : Nat :=
  8 * aDofs b * aDofs b * (stencil (aPoints b)).length * (if aConst b = 1 then 1 else aNodes b)

/-- Input ranges in use: address, bytes. -/
def assembleInputs (b : List Byte) : List (Nat × Nat) :=
  let n := aNpe b * aDofs b
  (if aStencil b then [(aAddr b 0x20, coefBytes b)] else []) ++
  (if aHasElems b then [(aAddr b 0x28, 4 * aNpe b * aElems b), (aAddr b 0x30, 8 * n * n * aElems b)] else []) ++
  (if aHasObs b then
    [(aAddr b 0x38, 4 * aWidth b * aObs b), (aAddr b 0x40, 8 * aWidth b * aObs b), (aAddr b 0x48, 8 * aObs b), (aAddr b 0x50, 8 * aObs b)] ++
      (if aAddr b 0x58 = 0 then [] else [(aAddr b 0x58, 8 * aRows b)])
   else [])

/-- Node `i` of element `e`. -/
def State.elemNode (s : State) (b : List Byte) (e i : Nat) : Nat := leNat (s.paBytes (aAddr b 0x28 + 4 * (e * aNpe b + i)) 4)

/-- Row index `i` of observation `o`. -/
def State.obsRow (s : State) (b : List Byte) (o i : Nat) : Nat := leNat (s.paBytes (aAddr b 0x38 + 4 * (o * aWidth b + i)) 4)

def State.f64At (s : State) (pa : Nat) : FpNum := decodeNum 0 (leNat (s.paBytes pa 8))

/-- The first element or observation with an index outside the system: the offset of its index array, its number. -/
def State.assembleIndex (s : State) (b : List Byte) : Option (Nat × Nat) :=
  let e := if aHasElems b then (List.range (aElems b)).find? (fun e => (List.range (aNpe b)).any (fun i => decide (aNodes b ≤ s.elemNode b e i))) else none
  match e with
  | some k => some (0x28, k)
  | none =>
    if aHasObs b then
      ((List.range (aObs b)).find? (fun o => (List.range (aWidth b)).any (fun i => decide (aRows b ≤ s.obsRow b o i)))).map (fun k => (0x38, k))
    else none

/-- Contributions to the matrix: row, column, exact value (R244, R245). -/
def State.contributions (s : State) (b : List Byte) : List (Nat × Nat × FpNum) :=
  let d := aDofs b
  let st :=
    if aStencil b then
      (List.range (aRows b)).flatMap (fun row => (s.stencilRow b (aAddr b 0x20) row).map (fun e => (row, e.1, f64 e.2)))
    else []
  let n := aNpe b * d
  let el :=
    if aHasElems b then
      (List.range (aElems b)).flatMap (fun e => (List.range n).flatMap (fun i => (List.range n).map (fun j =>
        (s.elemNode b e (i / d) * d + i % d, s.elemNode b e (j / d) * d + j % d,
         s.f64At (aAddr b 0x30 + 8 * (e * n * n + i * n + j))))))
    else []
  let w := aWidth b
  let ob :=
    if aHasObs b then
      (List.range (aObs b)).flatMap (fun o => (List.range w).flatMap (fun i => (List.range w).map (fun j =>
        let h := fun k => s.f64At (aAddr b 0x40 + 8 * (o * w + k))
        (s.obsRow b o i, s.obsRow b o j, (FpNum.mul (FpNum.mul (s.f64At (aAddr b 0x48 + 8 * o)) (h i)).1 (h j)).1))))
    else []
  st ++ el ++ ob

/-- Contributions to the right-hand side. -/
def State.rhsContributions (s : State) (b : List Byte) : List (Nat × FpNum) :=
  let w := aWidth b
  (if aAddr b 0x58 = 0 then [] else (List.range (aRows b)).map (fun r => (r, s.f64At (aAddr b 0x58 + 8 * r)))) ++
  (List.range (aObs b)).flatMap (fun o => (List.range w).map (fun i =>
    (s.obsRow b o i, (FpNum.mul (FpNum.mul (s.f64At (aAddr b 0x48 + 8 * o)) (s.f64At (aAddr b 0x40 + 8 * (o * w + i)))).1
      (s.f64At (aAddr b 0x50 + 8 * o))).1)))

/-- Exact sums by key, each rounded once in RNE (R246). -/
def sumsOf (l : List (Nat × FpNum)) : Assoc Word :=
  let m : Assoc (Option FpNum) := l.foldl (fun m e =>
    let old := assocGet (fun _ => (none : Option FpNum)) m e.1
    assocSet (fun _ => (none : Option FpNum)) m e.1 (some (match old with | none => e.2 | some x => (FpNum.add false x e.2).1))) []
  m.map (fun e => (e.1, BitVec.ofNat 64 (deliver 0 .rne false false (e.2.getD FpNum.qnan)).1))

/-- A block-CSR matrix object (R247), with 8-byte block columns where one needs them. Its parts follow the header in the table's order, each aligned to 8 B (log 16). -/
def csrObject (form rows : Nat) (es : List (Nat × Nat × FpNum)) : List Byte :=
  let bs := blockSize form
  let sums := sumsOf (es.map (fun e => (e.1 * 2 ^ 64 + e.2.1, e.2.2)))
  let blocks := (sums.map (fun e => (e.1 / 2 ^ 64 / bs) * 2 ^ 64 + e.1 % 2 ^ 64 / bs)).foldl insertNat []
  let nbr := (rows + bs - 1) / bs
  let ptr := (List.range (nbr + 1)).flatMap (fun i => leBytes 8 (blocks.filter (fun k => decide (k / 2 ^ 64 < i))).length)
  let wide := blocks.any (fun k => decide (2 ^ 32 ≤ k % 2 ^ 64))
  let cols := blocks.flatMap (fun k => leBytes (if wide then 8 else 4) (k % 2 ^ 64))
  let pad := List.replicate ((8 - cols.length % 8) % 8) (0 : Byte)
  let vals := blocks.flatMap (fun k => (List.range (bs * bs)).flatMap (fun i =>
    leBytes 8 (assocGet (fun _ => (0 : Word)) sums ((k / 2 ^ 64 * bs + i / bs) * 2 ^ 64 + k % 2 ^ 64 * bs + i % bs)).toNat))
  let colAt := 64 + ptr.length
  let valAt := colAt + cols.length + pad.length
  leBytes 1 form ++ leBytes 1 wide.toNat ++ leBytes 6 0 ++ leBytes 8 rows ++ leBytes 8 blocks.length ++ leBytes 8 64 ++ leBytes 8 colAt ++ leBytes 8 valAt ++
    leBytes 16 0 ++ ptr ++ cols ++ pad ++ vals

/-- An implicit stencil object: the control block copied, then the coefficients. -/
def State.stencilObject (s : State) (b : List Byte) : List Byte :=
  leBytes 1 2 ++ leBytes 7 0 ++ leBytes 8 (aRows b) ++ leBytes 8 0 ++ leBytes 8 64 ++ leBytes 8 0 ++ leBytes 8 192 ++ leBytes 16 0 ++
    b ++ s.paBytes (aAddr b 0x20) (coefBytes b)

/-- The matrix object of a block. -/
def State.assembled (s : State) (b : List Byte) : List Byte :=
  if aForm b = 2 then s.stencilObject b else csrObject (aForm b) (aRows b) (s.contributions b)

/-- The right-hand side of a block with measurements. -/
def State.assembledRhs (s : State) (b : List Byte) : List Byte :=
  if aHasObs b then
    let m := sumsOf (s.rhsContributions b)
    (List.range (aRows b)).flatMap (fun r => leBytes 8 (assocGet (fun _ => (0 : Word)) m r).toNat)
  else []

/-- The P-die that serves a partition: the first with a solver engine or a P application core of it (log 16). -/
def State.frontDie (s : State) (p : Nat) : Option Nat :=
  (List.range 4).find? (fun d => (s.partSes p).any (fun n => n / 4 == d) || (s.partPcores p).any (fun c => c / 48 == d))

/-- ASSEMBLE: the operation starts on the front stage of the P-die that serves its partition, once that is free
(R243). -/
def execAssemble (slot : Nat) (s : State) : Res :=
  match s.mayStartOp slot 0x20 with
  | none => .next s
  | some o =>
    match s.frontDie o.partition with
    | none => .next ((s.beginOp slot).endOp slot stInternal)
    | some d =>
      if (s.front d).isSome then .next s
      else if !s.reachAll (some o.partition) (leAt o.desc 8 8) 128 then .next ((s.beginOp slot).endOp slot stFaultAddr)
      else .next (((s.beginOp slot).touchPa (leAt o.desc 8 8) 128 0).setFront d (some slot))

/-- ASSEMBLE_DONE: the objects are written, or the operation completes INTERNAL with the first offending element or
observation logged (R246 to R248). -/
def execAssembleDone (slot : Nat) (s : State) : Res :=
  match (List.range 4).find? (fun d => s.front d == some slot), s.op slot with
  | some d, some o =>
    let s0 := s.setFront d none
    if !o.live then .next s0
    else
      let b := s.paBytes (leAt o.desc 8 8) 128
      let p := some o.partition
      let refuse := fun (t : State) (off idx : Nat) =>
        (t.report srcPackage codeFormatRefused 0 (opDetail o.tag o.vf (o.ring % 64) (off + 0x20 * 2 ^ 8 + idx * 2 ^ 16))).endOp slot stInternal
      match assembleBad b with
      | some off => .next (refuse s0 off 0)
      | none =>
        if !((assembleInputs b).all (fun r => s.reachAll p r.1 r.2)) then .next (s0.endOp slot stFaultAddr)
        else
          match s.assembleIndex b with
          | some e => .next (refuse s0 e.1 e.2)
          | none =>
            let m := s.assembled b
            let r := s.assembledRhs b
            if aAddr b 0x68 < m.length then .next (refuse s0 0x68 0)
            else if !(s.reachAll p (aAddr b 0x60) m.length && (r.isEmpty || s.reachAll p (aAddr b 0x70) r.length)) then
              .next (s0.endOp slot stFaultAddr)
            else
              let s1 := (assembleInputs b).foldl (fun s r => s.touchPa r.1 r.2 0) s0
              let s2 := (s1.storePa (aAddr b 0x60) m).storePa (aAddr b 0x70) r
              .next ((s2.onOp slot (fun o => { o with progress := 1, witness := BitVec.ofNat 64 (crc64 (m ++ r)) })).endOp slot stDone)
  | _, _ => .next s

end Sys2Proof.Machine
end

