-- ==== Sys2Proof/Machine/HostIf.lean ====
section
/-! DEFINITION. The host link, its functions and their interrupts (R448 to R459). -/
namespace Sys2Proof.Machine

/-- Rings of a VF with a register that is not at its reset value. -/
def State.ringsOfVf (s : State) (v : Nat) : List Nat :=
  s.regs.filterMap (fun e =>
    if 0x1100000 ≤ e.1 ∧ ringVf ((e.1 - 0x1100000) / 0x40) = v then some ((e.1 - 0x1100000) / 0x40) else none)

/-- A VF's rings are disabled with their indices zeroed, its operations' records and host writes are discarded, its
locks are orphaned, and its MSI-X table returns to reset (R459). A ring operation that waits at a beacon loses its
wait and ends. -/
def State.resetVf (s : State) (v : Nat) : State :=
  let s1 := (s.ringsOfVf v).foldl (fun s r =>
    ((s.fset (R.QRG_RING_CFG.enable r) 0).setReg (A.QRG_RING_IDX r) 0).setReg (A.QRG_RING_HOST r) 0) s
  let s2 := (s1.opsWhere (fun o => o.vf == v)).foldl (fun s k =>
    (if (s.waiters.any (fun w => w.ans == .op k)) then s.endOp k stInternal else s).onOp k (fun o => { o with discarded := true })) s1
  let s3 := s2.advanceEpochs [.vf v]
  { s3 with msix := s3.msix.filter (fun e => e.1 / 4096 != v) }

/-- FLR. A reset of PF1 resets every VF and NumVFs (R459). -/
def execFlr (fn : Fn) (s : State) : Res :=
  match fn with
  | .vf v => whenever (decide (v < s.numVfs)) (s.resetVf v) s
  | .pf n =>
    let own := fun (t : State) => { t.advanceEpochs [.pf n] with msix := t.msix.filter (fun e => e.1 / 4096 != 4096 + n) }
    if 4 ≤ n then .next s
    else if n = 1 then
      .next { own ((List.range 4096).foldl State.resetVf s) with numVfs := 0 }
    else .next (own s)
  | .mgmt => .next s

/-- CONFIG_REQUEST: retry status until the configuration space is ready (R449, R462); `numVfs` is a write of NumVFs,
which PF1 holds (R450). -/
def execConfigRequest (fn : Fn) (numVfs : Option Nat) (s : State) : Res :=
  if !s.boot.configReady then .next (s.emit (.config true))
  else
    let s1 : State :=
      match fn, numVfs with
      | .pf 1, some n => if n ≤ 4096 then { s with numVfs := n } else s
      | _, _ => s
    .next (s1.emit (.config false))

/-- LINK_DOWNTRAIN: the link goes on at a lower width or rate (R449). -/
def execLinkDowntrain (width gt : Nat) (s : State) : Res :=
  let known := [1, 2, 4, 8, 16].contains width && [2, 5, 8, 16, 32, 64].contains gt
  let lower := decide (width < s.pins.linkWidth) || decide (gt < s.pins.linkRate)
  whenever (known && lower)
    ({ s with pins := { s.pins with linkWidth := width, linkRate := gt } }.reportOpen (srcDie (dieH 0)) codeDowntrain 0) s

/-- DMA_REFUSED (R452): `what` is 0 a read or write of an operation, 1 a descriptor fetch, 2 the write of its record. -/
def execDmaRefused (r : Nat) (slot : Option Nat) (what : Nat) (s : State) : Res :=
  match what, slot with
  | 0, some k =>
    (match s.op k with
     | none => .next s
     | some o =>
       if !o.live then .next s
       else
         match o.xfer with
         | some x =>
           let hit := x.inFlight.find? (fun p => match p.2 with | .waiting _ _ => true | _ => false)
           (match hit with
            | some p => whenever (dSpace x.desc == 2) (s.onElem (.op k) p.1 (fun _ => .faulted stFaultAddr)) s
            | none => .next s)
         | none => .next (s.endOp k stFaultAddr))
  | 1, _ => whenever (decide (r < 262144) && s.ringOn r && s.fget (R.QRG_RING_CFG.space r) == 2) (s.ringError r 2) s
  | 2, some k => .next (s.writeRecord k true)
  | _, _ => .next s

/-- MSIX_UNMASK: a pending vector is sent (R456). -/
def execMsixUnmask (fn : Fn) (vector : Nat) (s : State) : Res :=
  let n := match fn with | .vf _ => 8 | .pf 0 => 2048 | .pf 3 => 16 | .pf _ => 64 | .mgmt => 0
  if n ≤ vector then .next s
  else
    let key := fnIndex fn * 4096 + vector
    let s1 := s.setVec key (false, false)
    .next (if (s.vec key).2 then s1.emit (.msix fn vector) else s1)

end Sys2Proof.Machine
end

