-- ==== Sys2Proof/Machine/Matmul.lean ====
section
/-! DEFINITION. MATMUL of a ring (R440, R441): its progress tiles on the T-cores, their data in package, rack or host
memory, and the parallax checks of a tile (R169). -/
namespace Sys2Proof.Machine

/-- Runs of bytes a tile reads: rows of A, rows of B, rows of initial values, scale arrays. -/
def tileReads (b : List Byte) (i : Nat) : List (Nat × Nat) :=
  let t := tileRange b i
  let rows := (List.range (t.2.1 - t.1)).map (· + t.1)
  rows.map (fun r => (mAddr b 0x20 + r * mAddr b 0x28, packedBytes (mFmtA b) (mK b))) ++
  (List.range (mK b)).map (fun k => (mAddr b 0x30 + k * mAddr b 0x38, packedBytes (mFmtB b) (mN b))) ++
  (if mHasC b then rows.map (fun r => (mAddr b 0x50 + r * mAddr b 0x58, mN b * mCBytes b)) else []) ++
  [(mAddr b 0x60, gridCount (mScaleA b) false (mM b) (mK b)), (mAddr b 0x68, gridCount (mScaleB b) true (mK b) (mN b))]

/-- The runs cut out of their joined bytes. -/
def cutRuns (runs : List (Nat × Nat)) (bs : List Byte) : List (List Byte) :=
  match runs with
  | [] => []
  | r :: rest => bs.take r.2 :: cutRuns rest (bs.drop r.2)

/-- Elements of one operand. -/
def opElems (fmt n : Nat) (rows : List (List Byte)) : List Nat := rows.flatMap (fun bs => (List.range n).map (elemAt fmt bs))

/-- Where a pass of a tile stands: the check that failed, the output row, and the physical column where one is told. -/
abbrev TileFind := Option (Nat × Nat × Option Nat)

/-- A tile from its runs, as hardware with errors computes it: rows of output elements and flags (R146, R147, R159), and
the checks of R169 over it, which stop it before anything is written. -/
def State.tileRun (s : State) (core : Nat) (b : List Byte) (i : Nat) (runs : List (List Byte)) (errs : List MeError) :
    (List (List Nat) × Flags) × TileFind :=
  let (r0, r1, c0, c1) := tileRange b i
  let nr := r1 - r0
  let nc := c1 - c0
  let arows := runs.take nr
  let brows := (runs.drop nr).take (mK b)
  let crows := (runs.drop (nr + mK b)).take (if mHasC b then nr else 0)
  let tail := runs.drop (nr + mK b + crows.length)
  let set := fun (fmt ctl rows cols : Nat) (vals : List Nat) (sc : List Byte) =>
    { valid := true, fmt := fmt, scaleCtl := ctl, rows := rows, cols := cols, vals := vals, scales := sc.map BitVec.toNat, poisoned := false,
      sums := [] : StatSet }
  let a := set (mFmtA b) (mScaleA b) nr (mK b) (opElems (mFmtA b) (mK b) arows) (tail.getD 0 [])
  let bb := set (mFmtB b) (mScaleB b) (mK b) (mN b) (opElems (mFmtB b) (mN b) brows) (tail.getD 1 [])
  let hard := bb.struck errs
  let w := mWide b
  let stat := fun (st : StatSet) (o k : Nat) => st.num true k (c0 + o) k (c0 + o) (mN b)
  let sums := (List.range (mK b)).map (fun k => LaneSum.of w ((List.range nc).map (fun o => stat bb o k)))
  let passes := (List.range nr).map (fun r =>
    rowPass w errs sums (fun k => a.num false r k (r0 + r) k (mK b)) (stat hard) (mK b) nc r (fun o => (r, o)))
  let init := fun (r c : Nat) =>
    if mHasC b then
      let x := (((crows.getD r []).drop ((c0 + c) * mCBytes b)).take (mCBytes b))
      match mCFmt b with
      | 4 => AccEntry.ofRaw w x
      | f => AccEntry.empty.add w (decodeNum (match f with | 0 => 1 | 1 => 3 | 2 => 2 | _ => 0) (leNat x)) false
    else AccEntry.empty
  let entries := ((List.range nr).zip passes).map (fun rp =>
    (List.range nc).map (fun o => ((init rp.1 o).merge w (rp.2.1.getD o .empty)).struckAll w (entryErrs errs rp.1 o)))
  let lanes := ((List.range nr).zip passes).map (fun rp =>
    ((mergeAll w ((List.range nc).map (init rp.1))).merge w rp.2.2.1).struckAll w (laneEntryErrs errs rp.1))
  let find : TileFind :=
    match passes.findIdx? (fun p => !p.2.2) with
    | some r => some (1, r, none)
    | none =>
      match (entries.zip lanes).findIdx? (fun e => !laneAgree (mergeAll w e.1) e.2) with
      | some r => some (2, r, none)
      | none => (rounderFind errs nr nc (fmtBits (mOut b))).map (fun e => (3, e.1, some e.2.2))
  let one := fun (r n : Nat) (e : AccEntry) =>
    e.drain w (mOut b) (mRctl b) (if mRctl b % 8 = 4 then s.draw core (r * nc + n) else 0) ((mOutScale b : Int) - 127)
  let rows := ((List.range nr).zip entries).map (fun re => ((List.range nc).zip re.2).map (fun ne => one re.1 ne.1 ne.2))
  ((rows.map (fun row => row.map Prod.fst), (rows.flatMap (fun row => row.map Prod.snd)).foldl Flags.or .zero), find)

/-- The device's passes of a tile outgrow the replay log of its core (R173): a LOADS, a SWAP and a STREAM for each block
of K that the array holds (log 78). -/
def State.ringLogLost (s : State) (core : Nat) (b : List Byte) : Bool :=
  let mode := s.meMode core
  let kc := kPerCell (if mode = 0 then mFmtB b else mFmtA b)
  let block := Nat.max 1 (if mode = 0 then 64 * kc else modeCols mode (s.fget (R.TC_ME_STATUS.width_presented core)) * kc)
  decide (256 < 3 * ((mK b + block - 1) / block))

/-- The operation ends (R182); after CHECK_FAIL or INTERNAL it has no progress. -/
def State.endMatmul (s : State) (k status : Nat) : State :=
  (s.onOp k (fun o => if o.live && (status == stCheckFail || status == stInternal) then { o with progress := 0 } else o)).endOp k status

/-- Write the rows of a tile; package memory takes them at once, rack memory when they are acknowledged. The status of a
write that cannot leave, and the requests that must wait (R376), end the attempt. -/
def State.writeTile (s : State) (k tile part : Nat) (space : Nat) (ws : List (Nat × List Byte)) : Option (State × Nat) :=
  match space with
  | 0 => some ((ws.foldl (fun s w => s.storePa w.1 w.2) s).onOp k (fun o => commitTileOf o tile), stDone)
  | 1 =>
    let pieces := ws.flatMap (fun w => (linePieces (w.2.length / 64 + 2) w.1 w.2.length 0).map (fun p => (w.1 + p.1, (w.2.drop p.1).take p.2)))
    let s0 := s.onOp k (fun o => { o with stores := (tile, pieces.length) :: o.stores.filter (fun x => x.1 != tile) })
    pieces.foldl (fun r p =>
      match r with
      | some (t, st) =>
        if st ≠ stDone then r
        else
          match t.rackIssue (askAt p.1 p.2.length 1 (some part) none (some (.op k, tile, 0)) p.2) with
          | (t1, .sent _) => some (t1, stDone)
          | (t1, .ended x) => some (t1, x)
          | (_, .wait) => none
      | none => none) (some (s0, stDone))
  | _ =>
    match s.op k with
    | some o =>
      some ((if o.discarded then s else ws.foldl (fun s w => s.emit (.dma (.vf o.vf) w.1 w.2)) s).onOp k (fun o => commitTileOf o tile), stDone)
    | none => none

/-- Reads of a tile from rack or host memory leave. -/
def State.askTile (s : State) (k tile part space : Nat) (vf : Nat) (runs : List (Nat × Nat)) : Option State :=
  let rs := runs.filter (fun r => r.2 != 0)
  let ask : Option (State × List VPart) :=
    if space = 2 then
      some (rs.foldl (fun s r => s.emit (.dmaRead (.vf vf) r.1 r.2)) s,
        rs.map (fun r => { addr := r.1, len := r.2, req := none, status := none, bytes := [] }))
    else
      (rs.flatMap (fun r => (linePieces (r.2 / 64 + 2) r.1 r.2 0).map (fun p => (r.1 + p.1, p.2)))).foldl (fun acc p =>
        match acc with
        | none => none
        | some (t, ps) =>
          match t.rackIssue (askAt p.1 p.2 0 (some part) none (some (.op k, tile, 0)) []) with
          | (t1, .sent id) => some (t1, ps ++ [{ addr := p.1, len := p.2, req := some id, status := none, bytes := [] }])
          | (t1, .ended st) => some (t1, ps ++ [{ addr := p.1, len := p.2, req := none, status := some st, bytes := [] }])
          | (_, .wait) => none) (some (s, []))
  match ask with
  | some (t, ps) => some (t.onOp k (fun o => { o with parts := ps, partsTile := some tile }))
  | none => none

/-- A tile that has passed its checks is written (R188); none where a write must wait. -/
def State.commitTile (s : State) (k tile core : Nat) (r : List (List Nat) × Flags) : Option State :=
  match s.op k with
  | none => none
  | some o =>
    let b := o.ctrl
    let n := (r.1.map List.length).foldl (· + ·) 0
    let s1 := s.onOp k (fun o =>
      { o with tiles := (tile, r.1) :: o.tiles.filter (fun x => x.1 != tile), parts := [], partsTile := none,
               work := (tile, core) :: o.work.filter (fun w => w.1 != tile) })
    let ws := tileWrites b ((s1.op k).map Op.tiles |>.getD []) tile
    if mSpace b = 0 ∧ !ws.all (fun w => s.reachAll (some o.partition) w.1 w.2.length) then some (s.endMatmul k stFaultAddr)
    else
      match s1.writeTile k tile o.partition (mSpace b) ws with
      | none => none
      | some (t, st) =>
        if st ≠ stDone then some (t.endMatmul k st)
        else
          let t1 := (t.meFlags core r.2).advanceSr core (mRctl b) n
          some (match t1.op k with
           | some o => if o.progress = BitVec.allOnes 64 then t1.endMatmul k (t1.okStatus k) else t1
           | none => t1)

/-- Errors of the hardware in a run of a ring tile, and an injected one (R190). -/
def State.ringErrs (s : State) (c : Nat) (b : List Byte) (tile : Nat) (errs : List MeError) (bypassed : List Nat) (inject : Bool) : List MeError :=
  let t := tileRange b tile
  let col := s.fget (R.TC_PX_CTL.inject_col c)
  let place := (s.colsInUse c).idxOf col
  actingErrors (s.colsInUse c) bypassed errs ++
    (if inject && (s.colsInUse c).contains col && !bypassed.contains col && decide (place < t.2.2.2 - t.2.2.1) then
      [.contribution 0 place col (.units 1)] else [])

/-- A tile's data are at hand: it is computed, checked and written (R169, R188); a check that fails starts a parallax
sequence on its core, which then works on this tile alone. -/
def State.runTile (s : State) (k tile core : Nat) (errs : List MeError) (b : List Byte) (runs : List (List Byte)) : State :=
  let me := (s.tcore core).me
  let inj := me.injectPending || s.fon (R.TC_PX_CTL.inject_persist core)
  let s0 := s.onMe core (fun m => { m with injectPending := false })
  let r := s.tileRun core b tile runs (s.ringErrs core b tile errs [] inj)
  match r.2 with
  | none => (s0.commitTile k tile core r.1).getD s
  | some (check, i, col) =>
    let s1 := (s0.onMe core (fun m => { m with ring := some (k, tile) })).onOp k (fun o =>
      { o with work := (tile, core) :: o.work.filter (fun w => w.1 != tile) })
    s1.mismatch core check i col none none (s.ringLogLost core b)

/-- The data of a tile in package memory, or as they have come from the rack or the host. -/
def State.tileData (s : State) (o : Op) (tile : Nat) : List (List Byte) :=
  let runs := tileReads o.ctrl tile
  if mSpace o.ctrl = 0 then runs.map (fun r => s.paBytes r.1 r.2) else cutRuns runs (partsBytes o.parts)

/-- The operation starts: its control block is read and checked, and tiles that cover nothing are set (R121, R441). -/
def State.startMatmul (s : State) (k : Nat) (o : Op) : State :=
  let a := leAt o.desc 8 8
  let s1 := s.beginOp k
  if !s.reachAll (some o.partition) a 128 then s1.endOp k stFaultAddr
  else if s.paPoisoned a 128 then s1.endOp k stCheckFail
  else
    let b := s.paBytes a 128
    let s2 := s1.touchPa a 128 0
    match matmulBad b with
    | some off => (s2.report srcPackage codeFormatRefused 0 (opDetail o.tag o.vf (o.ring % 64) (off + 0x10 * 2 ^ 8))).endOp k stInternal
    | none => s2.onOp k (fun o =>
        { o with ctrl := b, progress := BitVec.ofNat 64 (maskOf ((List.range 64).filter (tileEmpty b))) })

/-- Tiles that are committed, or stay undone with a lost core (R499), are all there are. -/
def Op.spent (o : Op) : Bool := (o.progress ||| BitVec.ofNat 64 o.given) == BitVec.allOnes 64

/-- `core` may work on `tile`: in service, in the operation's partition, with no parallax sequence of its own, and no other
core works on it. -/
def State.tileFree (s : State) (o : Op) (tile core : Nat) : Bool :=
  let me := (s.tcore core).me
  decide (tile < 64) && decide (core < 512) && s.tcoreUp core && s.partOfTcore core == some o.partition && me.px.isNone && !me.stopped &&
    !(bit o.progress.toNat tile || bit o.given tile || o.stores.any (fun x => x.1 == tile)) &&
    o.work.all (fun w => w.1 != tile || w.2 == core)

/-- MATMUL: `core` works on `tile` of the operation; `errs` are the errors its hardware makes. A tile of rack or host data
first asks for them and goes on when they have come. -/
def execMatmul (slot tile : Nat) (errs : List MeError) (core : Nat) (s0 : State) : Res :=
  let s := match s0.mayStartOp slot 0x10 with | some o => s0.startMatmul slot o | none => s0
  match s.op slot with
  | none => .next s0
  | some o =>
    if !(o.code == 0x10 && o.live && o.started) || o.failed then .next s
    else
      let b := o.ctrl
      let p := o.partition
      if o.progress = BitVec.allOnes 64 then .next (s.endMatmul slot (s.okStatus slot))
      else if o.spent && o.stores.isEmpty && o.work.isEmpty then .next ((s.flagOp slot flagHard).endMatmul slot stPartial)
      else if !s.tileFree o tile core then .next s
      else
        let runs := tileReads b tile
        if mSpace b = 0 then
          if !runs.all (fun r => s.reachAll (some p) r.1 r.2) then .next (s.endMatmul slot stFaultAddr)
          else if runs.any (fun r => r.2 != 0 && s.paPoisoned r.1 r.2) then .next (s.endMatmul slot stCheckFail)
          else
            let s1 := runs.foldl (fun s r => s.touchPa r.1 r.2 0) s
            .next (s1.runTile slot tile core errs b (s.tileData o tile))
        else if o.partsTile.isNone then
          .next (((s.askTile slot tile p (mSpace b) o.vf runs).getD s).onOp slot (fun o =>
            if o.partsTile = some tile then { o with work := (tile, core) :: o.work } else o))
        else if o.partsTile ≠ some tile ∨ !partsDone o.parts then .next s
        else
          match o.parts.find? (fun x => x.status != some stDone) with
          | some x => .next (s.endMatmul slot (x.status.getD stFaultAddr))
          | none => .next (s.runTile slot tile core errs b (s.tileData o tile))

end Sys2Proof.Machine
end

