-- ==== Sys2Proof/Machine/Mesh.lean ====
section
/-! DEFINITION. The meanings of the mesh commands: CRC retries, lost modules and lost links between dies (R24, R29
to R32). -/
namespace Sys2Proof.Machine

/-- Modules of the link between two dies by die number (R24, R487); 0 where the table has no such link. -/
def linkModules (a b : Nat) : Nat :=
  let lo := Nat.min a b
  let hi := Nat.max a b
  -- dies: M 16 to 23, P 24 to 27, F 28 to 35, H 36 and 37, S 38 and 39
  if 16 ≤ lo ∧ hi < 24 then
    (if hi = lo + 1 ∧ lo ≠ 19 then 4 else if hi = lo + 4 then 4 else 0)
  else if 16 ≤ lo ∧ lo < 24 then
    (if 24 ≤ hi ∧ hi < 28 then (if (lo - 16) / 2 = hi - 24 then 8 else 0)
     else if 28 ≤ hi ∧ hi < 36 then (if hi - 28 = lo - 16 then 4 else 0)
     else if hi = 36 ∧ lo = 16 then 2
     else if hi = 37 ∧ lo = 23 then 1
     else if hi = 38 ∧ lo = 19 then 1
     else if hi = 39 ∧ lo = 20 then 1
     else 0)
  else if lo = 38 ∧ hi = 39 then 1
  else 0

/-- Key of a link (R487). -/
def meshKey (a b : Nat) : Nat := 64 * Nat.min a b + Nat.max a b

/-- Every module of a link is lost, or its one module is: PACKAGE_FATAL (R31). -/
def State.linkLost (s : State) (a b : Nat) : State :=
  let s1 := s.setMeshLink (meshKey a b) { lost := List.range (linkModules a b) }
  s1.packageFatal (srcMeshLink a b) codeLinkLost

/-- A CRC error of a die-to-die adapter is retried at link level and logged (R29). -/
def execD2dRetry (a b : Nat) (s : State) : Res :=
  whenever (linkModules a b != 0) (s.reportOpen (srcMeshLink a b) codeD2dRetry 0) s

/-- A module of a multi-module link is lost: the link goes on with the others, and the log names the link and the
module (R30); the last one lost is the link lost (R31). -/
def execModuleRetired (a b m : Nat) (s : State) : Res :=
  let n := linkModules a b
  let l := s.meshLink (meshKey a b)
  if m < n ∧ !l.lost.contains m then
    if n ≤ l.lost.length + 1 then .next (s.linkLost a b)
    else
      .next ((s.setMeshLink (meshKey a b) { lost := insertNat l.lost m }).report
        (srcMeshLink a b) codeModuleRetired 2 m)
  else .next s

/-- Every module of a link is lost (R31). -/
def execLinkLost (a b : Nat) (s : State) : Res := whenever (linkModules a b != 0) (s.linkLost a b) s

/-- A module's retrain completes, and the traffic that waited in its class buffers goes on: sources saw
back-pressure only, and no packet was dropped (R32), so nothing the package holds changes. -/
def execModuleRetrainDone (_a _b _m : Nat) (s : State) : Res := .next s

end Sys2Proof.Machine
end

