-- ==== Sys2Proof/Machine/Power.lean ====
section
/-! DEFINITION. Reference clocks and the regulator bus (R569, R574, R575). -/
namespace Sys2Proof.Machine

/-- REFCLK_LOSS (R575). -/
def execRefclkLoss (c : RefClk) (s : State) : Res :=
  if s.pins.clocksLost.contains c then .next s
  else
    let s1 : State := { s with pins := { s.pins with clocksLost := s.pins.clocksLost ++ [c] } }
    match c with
    | .mhz100 => .next ({ s1 with pins := { s1.pins with linkWidth := 0, linkRate := 0 } }.reportFree (srcDie (dieH 0)) 2)
    | .mhz156 =>
      .next (((List.range 64).filter (fun n => s1.portSt n != 0)).foldl (fun s n => s.portDown n 1) (s1.reportFree srcPackage 2))
    | .mhz25 =>
      if s1.ecl.phase = 2 then .next (((s1.fset R.ECL_STATUS.dump_err 1).reportFree srcPackage 4).warmReset 2)
      else
        let s2 := s1.reportFree srcPackage 4
        .next (if s2.eclipseSelects 4 then s2 else s2.warmReset 2)
    | .khz32 => .next (s1.reportFree srcPackage 0)

/-- REFCLK_RESTORE: the 100 MHz links retrain; a reset that a missing reference held goes on once all are present
(R575). -/
def execRefclkRestore (c : RefClk) (s : State) : Res :=
  if !s.pins.clocksLost.contains c then .next s
  else
    let s1 : State := { s with pins := { s.pins with clocksLost := s.pins.clocksLost.filter (fun x => x != c) } }
    let s2 : State := if c = .mhz100 then { s1 with pins := { s1.pins with linkWidth := 16, linkRate := 64 } } else s1
    .next (if s2.pins.heldByClock && s2.pins.clocksLost.isEmpty && s2.pins.perstN && s2.pins.railsBad.isEmpty &&
        s2.boot.stage == .inReset then s2.bootStart else s2)

/-- AVS_ACK: the regulator has taken the set point; a new request may follow (R569). -/
def execAvsAck (rail : Nat) (s : State) : Res :=
  match s.pins.avsAsked.getD rail none with
  | none => .next s
  | some mv =>
    let s1 : State := { s with pins := { s.pins with
      avsSet := updateAt s.pins.avsSet rail (fun _ => mv), avsAsked := updateAt s.pins.avsAsked rail (fun _ => none) } }
    .next (s1.avsRequest rail)

/-- AVS_ACK_TIMEOUT: no acknowledgement within 1 ms; the last acknowledged set point stands, logged as HARD (R569). -/
def execAvsAckTimeout (rail : Nat) (s : State) : Res :=
  match s.pins.avsAsked.getD rail none with
  | none => .next s
  | some _ =>
    .next ({ s with pins := { s.pins with avsAsked := updateAt s.pins.avsAsked rail (fun _ => none) } }.reportFree srcPackage 2)

end Sys2Proof.Machine
end

