-- ==== Sys2Proof/Machine/PxRun.lean ====
section
/-! DEFINITION. The parallax sequence (R173 to R178): re-execution from the replay log or of a ring tile, the search for a
column, twinkles, retirement, and the delivery of the run that passed. -/
namespace Sys2Proof.Machine

/-- What a run of a sequence has left: the array of pushed work, or a ring tile's elements and flags; and whether it
passed. -/
structure RunResult where
  pass : Bool
  arr : Option MeArray
  tile : Option (List (List Nat) × Flags)
deriving DecidableEq, Repr

/-- A run of a tile from the replay log (R174): entries as the tile began, then its instructions again, their sources read
again. `inj` strikes the first streamed row of the run (R190). -/
def State.replayArr (s : State) (c : Nat) (errs inj : List MeError) (qs : List Quad) (a : MeArray) : MeArray × Option Nat :=
  match qs with
  | [] => (a, none)
  | q :: rest =>
    match qOp q with
    | 0x01 => s.replayArr c errs inj rest (s.loadsArr c q a)
    | 0x02 => s.replayArr c errs inj rest { a with swapPending := true }
    | 0x03 =>
      (match s.streamArr c q (errs ++ inj) a with
       | (b, none) => s.replayArr c errs [] rest b
       | r => r)
    | _ => s.replayArr c errs inj rest a

/-- One run of a sequence over pushed work: of the tile for checks 1 and 2, of the drain for check 3 (R174). -/
def State.pushedRun (s : State) (c : Nat) (x : PxSeq) (errs inj : List MeError) : RunResult :=
  let m := (s.tcore c).me
  let rounder := match m.queue with | q :: _ => if qOp q = 0x04 then drainRounder q errs else none | [] => none
  let mode := s.meMode c
  match x.check, m.queue with
  | 1, q :: _ => let r := s.replayArr c errs inj (m.replay ++ [q]) m.start; ⟨r.2.isNone, some r.1, none⟩
  | 2, q :: _ =>
    let r := s.replayArr c errs inj m.replay m.start
    ⟨r.2.isNone && (r.1.drainFind mode (meDRows q) (meDCols q)).isNone && rounder.isNone, some r.1, none⟩
  | _, _ => ⟨rounder.isNone, some m.toMeArray, none⟩

/-- One run of a sequence over a ring tile. -/
def State.ringRun (s : State) (c : Nat) (o : Op) (tile : Nat) (x : PxSeq) (errs : List MeError) (inject : Bool) : RunResult :=
  let only := if x.check = 3 then errs.filter (fun e => match e with | .rounder _ _ _ _ => true | _ => false) else errs
  let r := s.tileRun c o.ctrl tile (s.tileData o tile) (s.ringErrs c o.ctrl tile only x.half (inject && x.check != 3))
  ⟨r.2.isNone, none, some r.1⟩

/-- Class flags of the ring operation a sequence runs for (R178). -/
def State.flagFailed (s : State) (c flags : Nat) : State :=
  match (s.tcore c).me.ring with
  | some (k, _) => s.flagOp k flags
  | none => s

/-- The work a sequence held back is delivered as the run left it (R174): the STREAM or DRAIN at the head of the queue has
its effect, or the ring tile is written; none where a write must wait. -/
def State.deliverPx (s : State) (c : Nat) (r : RunResult) : Option State :=
  let m := (s.tcore c).me
  let s1 := s.onMe c (fun m => { m with px := none, ring := none })
  match m.ring with
  | some (k, t) =>
    (match s.op k, r.tile with
     | some o, some x => if o.live && !o.failed && !bit o.progress.toNat t then s1.commitTile k t c x else some s1
     | _, _ => some s1)
  | none =>
    match m.queue, r.arr with
    | q :: _, some a =>
      some ((if qOp q = 0x03 then s1.doStream c q a else (s1.onMe c (fun m => { m with toMeArray := a })).doDrain c q).popQueue c .me)
    | _, _ => some s1

/-- A sequence ends as a twinkle of `n` mismatches: counted once, logged for each with the check that failed (R172, R175,
R178). -/
def State.twinkle (s : State) (c n check : Nat) : State :=
  (List.range n).foldl (fun s _ => s.report (srcTcore c) codeMeTwinkle 1 check) ((s.flagFailed c flagTwinkle).finc (R.TC_PX_CNT.me_twinkles c) 1)

/-- A sequence ends by retiring a column and delivering (R174, R176); where the retirement stops the core, its tile is
work of a lost core. -/
def State.retireAndDeliver (s : State) (c col : Nat) (r : RunResult) : Option State :=
  let pushed := (s.tcore c).me.ring.isNone
  let s1 := ((s.onMe c (fun m => { m with tileRetired := m.tileRetired + pushed.toNat })).flagFailed c flagHard).retireColumn c col
  if (s1.tcore c).me.stopped then some s1 else s1.deliverPx c r

/-- The head DRAIN of pushed work, where the failed unit is one. -/
def State.headDrain (s : State) (c : Nat) : Option Quad :=
  let m := (s.tcore c).me
  match m.ring, m.queue with
  | none, q :: _ => if qOp q = 0x04 then some q else none
  | _, _ => none

/-- The next run of the search over candidates `cand` (R174). -/
def nextSearch (x : PxSeq) (cand : List Nat) (allPassed : Bool) : PxSeq :=
  if cand.length ≤ 1 then { x with phase := 2, cand := cand, half := cand, allPassed := allPassed }
  else { x with phase := 1, cand := cand, half := cand.take (cand.length / 2), allPassed := allPassed }

/-- A run with the last candidate bypassed passed: a final full-width run where every run passed, else the candidate
is retired and that run delivered (R174, R175). -/
def State.endSearch (s : State) (c : Nat) (x : PxSeq) (r : RunResult) : Option State :=
  if x.allPassed then
    some (s.onMe c (fun m => { m with px := some { x with phase := 3, half := [], saved := r.arr, savedTile := r.tile } }))
  else s.retireAndDeliver c (x.cand.headD 0) r

/-- One run of a sequence has completed (R174). `clean` is a run with no error, which a redrain by another rounder is. -/
def State.pxRun (s : State) (c : Nat) (x : PxSeq) (r clean : RunResult) : Option State :=
  let fail := some (s.checkFail c x.check x.index x.cand.head? x.dst (s.headDrain c))
  let go := fun (y : PxSeq) => some (s.onMe c (fun m => { m with px := some y }))
  match x.phase with
  | 0 =>
    if r.pass then (s.twinkle c 1 x.check).deliverPx c r
    else if x.check = 3 then s.retireAndDeliver c (x.cand.headD 0) clean
    else if 2 ≤ (s.tcore c).me.tileRetired ∧ (s.tcore c).me.ring.isNone then fail
    else go (nextSearch x (s.colsInUse c) true)
  | 1 =>
    if r.pass then
      if x.half.length = 1 then s.endSearch c { x with cand := x.half } r
      else go (nextSearch x x.half x.allPassed)
    else go (nextSearch x (x.cand.filter (fun k => !x.half.contains k)) false)
  | 2 => if r.pass then s.endSearch c x r else fail
  | _ =>
    if r.pass then (s.twinkle c 2 x.check).deliverPx c r
    else s.retireAndDeliver c (x.cand.headD 0) ⟨true, x.saved, x.savedTile⟩

/-- PX_RUN_COMPLETE (R174): the run that was due has been made, with the errors its hardware made; a persistent injection
strikes every run in which its column is not bypassed (R190). A ring operation that has ended meanwhile ends the sequence
with nothing to deliver. -/
def execPxRunComplete (c : Nat) (errs : List MeError) (s : State) : Res :=
  let m := (s.tcore c).me
  match m.px with
  | none => .next s
  | some x =>
    let persist := s.fon (R.TC_PX_CTL.inject_persist c)
    match m.ring with
    | some (k, t) =>
      (match s.op k with
       | some o =>
         if !o.live || o.failed then .next (s.onMe c (fun m => { m with px := none, ring := none }))
         else
           let clean := s.ringRun c o t x [] false
           .next ((s.pxRun c x (s.ringRun c o t x errs persist) clean).getD s)
       | none => .next (s.onMe c (fun m => { m with px := none, ring := none })))
    | none =>
      let acting := actingErrors (s.colsInUse c) x.half errs
      let inj := if persist && !x.half.contains (s.fget (R.TC_PX_CTL.inject_col c)) then
          s.injection c (if x.check = 1 then m.streamSet else m.start.streamSet) else []
      .next ((s.pxRun c x (s.pushedRun c x acting inj) (s.pushedRun c x [] [])).getD s)

end Sys2Proof.Machine
end

