-- ==== Sys2Proof/Machine/Transit.lean ====
section
/-! DEFINITION. Transits and time (R67 to R100): the election of the master, markers and alignment, windows and
watchdogs, late transits, what takes effect at a transit, and droop. -/
namespace Sys2Proof.Machine

/-! Control messages on VC0 (R74). -/

/-- Links that carry transit control: up, and not to another rack (R74, R378). -/
def State.upLinks (s : State) : List (Nat × Nat) :=
  ((List.range 64).flatMap (fun n => if s.portSt n = 13 then [(n, 0), (n, 1), (n, 2), (n, 3)] else [(n, 0)])).filter
    (fun c => s.linkUp c.1 c.2 && !s.fon (R.SCP_PORT_CTL.ext c.1))

/-- A control message may arrive on a link: key of `linkKey`. -/
def State.vc0In (s : State) (link : Nat) : Bool :=
  decide (link < 256) && s.linkIs (link / 4) (link % 4) && hearsFlits (s.linkSt (link / 4) (link % 4)) &&
    !s.fon (R.SCP_PORT_CTL.ext (link / 4))

/-- A message not yet heard or sent. -/
def State.fresh (s : State) (t : Nat) (contents : List Nat) : Bool := !s.trn.relayed.contains (t, contents)

/-- A marker crosses at most three hops (R74). -/
def maxHops : Nat := 3

/-- Send a message, which has crossed `hops` links so far, on every up link but the one it came from, and remember it;
past the third hop it goes no further (R74). `delay` is the accumulated path delay, to which each link's own delay is
added (R75), for the types that carry one. -/
def State.flood (s : State) (t : Nat) (contents : List Nat) (delay : Option Nat) (link : Option Nat) (hops : Nat) : State :=
  let s1 : State := { s with trn := { s.trn with relayed := (t, contents) :: s.trn.relayed } }
  if maxHops ≤ hops then s1
  else
    (s1.upLinks.filter (fun c => some (linkKey c.1 c.2) != link)).foldl (fun s c =>
      s.emit (.vc0 c.1 c.2 t (hops + 1) (contents ++ match delay with
        | some d => [d + s.fget (R.SCP_PORT_DELAY.delay_ns c.1)]
        | none => []))) s1

/-- Forward SCHEDULE or SYNC: the residence time is added (R75). -/
def State.forward (s : State) (t : Nat) (contents : List Nat) (delay link hops : Nat) : State :=
  s.drawn.flood t contents (some (delay + Config.residenceNs s.free)) (some link) hops

/-! Registers and times. -/

def State.isMaster (s : State) : Bool := s.fon R.TRN_STATUS.is_master
def State.electing (s : State) : Bool := s.fon R.TRN_STATUS.electing
def State.leadNs (s : State) : Nat := s.fget R.TRN_POLICY.lead_ns
def State.periodNs (s : State) : Nat := s.fget R.TRN_PERIOD.period_ns

/-- max_stretch in ns (R89, R101). -/
def State.maxStretch (s : State) : Nat := s.fget R.TRN_POLICY.max_stretch * s.periodNs / 1000

/-- The milestones SYNCED, JOINED and IN_SERVICE (R471, R476). -/
def State.checkJoin (s : State) : State :=
  let s1 := if s.fon R.TRN_STATUS.synced then s.reach_ 8 else s
  let s2 := if s1.fon R.TRN_STATUS.synced && s1.ldn != 255 then s1.reach_ 9 else s1
  if s2.fon R.RMM_STATUS.keys_installed && !s2.twilight then s2.reach_ 10 else s2

/-- Correct rack time toward the master's, `m` (R75, R76): slew, step forward, or hold. After a late marker synced stays
clear until the next SYNC (R78). -/
def State.correctTime (s : State) (m : Nat) : State :=
  let t := s.rackTime
  let off : Int := (t : Int) - m
  let shown := if off < -32768 then 32768 else if 32767 < off then 32767 else (off % 65536).toNat
  let s1 := s.fset R.TRN_STATUS.offset_ns shown
  if m + 1000 < t ∨ (s.trn.hold.isSome ∧ m < t) then
    { s1.fset R.TRN_STATUS.synced 0 with trn := { s1.trn with started := true, hold := some (t, m), slew := 0 } }
  else if t + 1000 < m then
    { (s1.fset R.TRN_TIME.time_ns m).fset R.TRN_STATUS.synced (!s.trn.lateSync).toNat with
      trn := { s1.trn with started := true, hold := none, slew := 0 } }
  else
    { s1.fset R.TRN_STATUS.synced (decide (off.natAbs ≤ 50) && !s.trn.lateSync).toNat with
      trn := { s1.trn with started := true, hold := none, slew := -off } }

/-- A marker heard outside an election adopts its master (R474). -/
def State.adopt (s : State) : State := if s.electing then s else { s with trn := { s.trn with adopted := true } }

/-! Late accounting (R87, R88). -/

/-- Partition `p` issued an epoch-region write in the present step that its home has not acknowledged (R87). -/
def State.epochWriteOut (s : State) (p : Nat) : Bool :=
  s.reqs.any (fun e =>
    match e.2 with
    | some r => r.epoch && r.kind == 1 && r.partition == p && r.issuedIn == s.transitNo
    | none => false)

/-- Partition `p` is accounted done for the step (R87). -/
def State.accounted (s : State) (p : Nat) : Bool :=
  !s.partPresent p || !s.fon (R.TRN_PART_CTL.acct_en p) || s.fon (R.TRN_PART_CTL.policy p) ||
    s.togus.pending.any (fun i => i.partition == p && i.applying) || (s.alm.held && bit s.alm.parts p) ||
    (s.fon (R.TRN_PART_STEP.step_done p) && !s.epochWriteOut p)

def State.allAccounted (s : State) : Bool := (List.range 16).all s.accounted

/-- LDNs whose DONE the master waits for: its own, and every one its route table reaches (R89, R475: log 26). -/
def State.awaited (s : State) : List Nat :=
  (List.range 144).filter (fun l => l == s.ldn || !(s.cands l 0).isEmpty)

def State.missing (s : State) : List Nat :=
  if s.trn.numbered then s.awaited.filter (fun l => !s.trn.dones.contains l) else []

/-! The master's schedule (R68, R78, R89). -/

/-- Period of the step that transit `n` begins (R68). The first period of a package that has none is the pending one. -/
def State.nextPeriod (s : State) (n : Nat) : Nat :=
  let p := s.fget R.TRN_PERIOD_NEXT.period_ns
  if p ≠ 0 ∧ (s.trn.perAt ≤ n ∨ s.periodNs = 0) then p else s.periodNs

/-- Send SCHEDULE for the next transit with a fire time. No marker is sent while no period has been set. -/
def State.sendSchedule (s : State) (fire : Nat) : State :=
  let n := s.trn.nextNo
  let per := s.nextPeriod n
  if per < 10000 then s
  else
    let s1 : State := { s.fset R.TRN_NEXT.next_ns fire with trn := { s.trn with sched := some (n, fire, per), stretching := false } }
    s1.flood 1 [n, fire, per, s1.rackTime] (some 0) none 0

/-- The master holds every DONE while it holds the transit back: it schedules at once (R89). -/
def State.tryRelease (s : State) : State :=
  if s.isMaster && s.trn.stretching && s.missing.isEmpty then s.sendSchedule (s.rackTime + s.leadNs) else s

/-- SYNC_TIMER: the master sends SYNC (R74). -/
def execSyncTimer (now : Nat) (s : State) : Res :=
  let s0 := s.advance now
  .next (if s0.isMaster then s0.flood 3 [s0.rackTime] (some 0) none 0 else s0)

/-- SYNC: relayed with the delay added, and rack time corrected (R75, R76); `hops` links lie behind it. -/
def execSync (now link hops origin delay : Nat) (s : State) : Res :=
  let s0 := s.advance now
  if s0.vc0In link && !s0.isMaster && s0.fresh 3 [origin] then
    let s1 := s0.forward 3 [origin] delay link hops
    .next (((({ s1 with trn := { s1.trn with lateSync := false } } : State).correctTime (origin + delay)).adopt).checkJoin)
  else .next s0

/-- LINK_DELAY_MEASURE: half the round trip (R75). The four links of a split port share the one register the spec gives a
port for it, and so one delay (log 77). -/
def execLinkDelayMeasure (port roundTrip : Nat) (s : State) : Res :=
  whenever (decide (port < 64) && (hearsFlits (s.portSt port) || s.portSt port == 13))
    (s.fset (R.SCP_PORT_DELAY.delay_ns port) (Nat.min (roundTrip / 2) (2 ^ 32 - 1))) s

/-- PERIOD_NEXT_WRITE: PF0 (R451). A period out of range is ignored (R68). -/
def execPeriodNextWrite (fn : Fn) (period atTransit : Word) (s : State) : Res :=
  if fn ≠ .pf 0 then .next (s.refuseWrite fn A.TRN_PERIOD_NEXT true true)
  else
    let p := period.toNat % 2 ^ 34
    if p < 10000 ∨ 10000000000 < p then
      .next (((s.fset R.TRN_STATUS.period_err 1).raise (.pf 0) 4).report srcPackage codePeriodErr 0 p)
    else
      let s1 := (s.fset R.TRN_PERIOD_NEXT.period_ns p).setReg A.TRN_PERIOD_AT atTransit
      .next s1.setPerAt

/-- DONE_SEND (R88, R475). The master takes its own. -/
def execDoneSend (s : State) : Res :=
  if s.ldn ≠ 255 ∧ s.trn.numbered ∧ ¬ s.trn.doneSent ∧ s.allAccounted then
    let s1 : State := { s with trn := { s.trn with doneSent := true } }
    if s1.isMaster then .next { s1 with trn := { s1.trn with dones := insertNat s1.trn.dones s1.ldn } }.tryRelease
    else .next (s1.flood 4 [s1.transitNo, s1.ldn] none none 0)
  else .next s

/-- DONE of a member: relayed, and at the master counted for the step it names (R88, R89). -/
def execDone (now link hops n ldn : Nat) (s : State) : Res :=
  let s0 := s.advance now
  if s0.vc0In link && s0.fresh 4 [n, ldn] then
    let s1 := s0.flood 4 [n, ldn] none (some link) hops
    if s1.isMaster && s1.trn.numbered && n == s1.transitNo then
      .next { s1 with trn := { s1.trn with dones := insertNat s1.trn.dones ldn } }.tryRelease
    else .next s1
  else .next s0

/-- SCHEDULE_DECISION: at lead before the nominal time the master schedules, or holds the transit back (R89). -/
def execScheduleDecision (now : Nat) (s : State) : Res :=
  let s0 := s.advance now
  let nominal := s0.fget R.TRN_NEXT.next_ns
  if s0.isMaster && !s0.electing && s0.trn.sched.isNone && s0.trn.hold.isNone && decide (nominal ≤ s0.rackTime + s0.leadNs) then
    if s0.missing.isEmpty then .next (s0.sendSchedule (Nat.max nominal (s0.rackTime + s0.leadNs)))
    else .next { s0 with trn := { s0.trn with stretching := true } }
  else .next s0

/-- Partition `p` is darkened for the present step: late is set and logged (R90, R582). -/
def State.darken (s : State) (p : Nat) : State :=
  (s.fset (R.TRN_PART_STEP.late p) 1).report (srcPart p) codeDarkened 0 1

/-- Own pairs of a DARK list: those for a transit to come wait for it; those for the present one apply at once. -/
def State.takeDark (s : State) (n : Nat) (pairs : List (Nat × Nat)) : State :=
  let mine := ((pairs.filter (fun e => e.1 == s.ldn && decide (e.2 < 16))).map Prod.snd).eraseDups
  if s.ldn = 255 then s
  else if s.trn.numbered ∧ n = s.transitNo then mine.foldl State.darken s
  else if s.trn.numbered ∧ n < s.transitNo then s
  else { s with trn := { s.trn with darkNext := s.trn.darkNext ++ mine.map (fun p => (n, p)) } }

/-- Contents of a DARK message. -/
def darkContents (n : Nat) (pairs : List (Nat × Nat)) (last : Bool) : List Nat :=
  n :: last.toNat :: pairs.flatMap (fun e => [e.1, e.2])

/-- The pairs not accounted done: the master knows its own partitions; which those of another package are, the spec
leaves open (log 26). -/
def State.undonePairs (s : State) : State × List (Nat × Nat) :=
  s.missing.foldl (fun x l =>
    if l = s.ldn then (x.1, x.2 ++ ((List.range 16).filter (fun p => !s.accounted p)).map (fun p => (l, p)))
    else (x.1.drawn, x.2 ++ (bitsOf 16 (Config.undone x.1.free)).map (fun p => (l, p)))) (s, [])

/-- STRETCH_LIMIT_EXPIRY: the wait ends, and the pairs not accounted done are darkened (R89, R90). -/
def execStretchLimitExpiry (now : Nat) (s : State) : Res :=
  let s0 := s.advance now
  let nominal := s0.fget R.TRN_NEXT.next_ns
  if s0.isMaster && s0.trn.stretching && decide (nominal + s0.maxStretch ≤ s0.rackTime + s0.leadNs) then
    let n := s0.trn.nextNo
    let u := s0.undonePairs
    let s1 := u.1.sendSchedule (s0.rackTime + s0.leadNs)
    let k := u.2.length
    let s2 := (s1.finc R.TRN_STRETCH_CNT.darkened k).report srcPackage codeDarkened 0 (Nat.min k 65535)
    let chunks := (k + 63) / 64
    let s3 := (List.range chunks).foldl (fun s i =>
      s.flood 2 (darkContents n ((u.2.drop (64 * i)).take 64) (decide (i + 1 = chunks))) none none 0) s2
    .next (s3.takeDark n u.2)
  else .next s0

/-- DARK: relayed; a darkened package will set late (R74, R90). -/
def execDark (link hops n : Nat) (pairs : List (Nat × Nat)) (last : Bool) (s : State) : Res :=
  if s.vc0In link && !s.isMaster && s.fresh 2 (darkContents n pairs last) then
    .next ((s.flood 2 (darkContents n pairs last) none (some link) hops).takeDark n pairs)
  else .next s

/-! The election (R70 to R73, R474). -/

/-- ELECTION_START: an eligible package floods CANDIDATE (R70). What the old master scheduled fires no more: no transit
does until a new master schedules one (R73). DONE of the step goes to the new master, so it may be relayed anew (log 77). -/
def State.startElection (s : State) : State :=
  let prio := s.fget R.TRN_CTL.master_priority
  let s1 : State := { (s.fset R.TRN_STATUS.electing 1).fset R.TRN_STATUS.is_master 0 with
    trn := { s.trn with cand := prio != 0, candSince := s.clock, acks := [], stretching := false, electNext := false,
                        heard := if prio = 0 then none else some (prio, s.ownPhys), adopted := false, sched := none,
                        relayed := s.trn.relayed.filter (fun e => decide (e.1 < 4)) } }
  if prio = 0 then s1 else s1.flood 5 [prio, s1.ownPhys, s1.transitNo] none none 0

/-- The better of two candidates: higher priority, then lower physical address (R70). -/
def better (a b : Nat × Nat) : Bool := decide (b.1 < a.1) || (a.1 == b.1 && decide (a.2 < b.2))

/-- CANDIDATE: relayed; the package takes part in the election, withdraws before a better candidate, and acknowledges
the best it has heard (R70, R71: log 26). -/
def execCandidate (link hops prio phys number : Nat) (s : State) : Res :=
  if s.vc0In link && s.fresh 5 [prio, phys, number] then
    let s0 := if s.electing then s else s.startElection
    let s1 := s0.flood 5 [prio, phys, number] none (some link) hops
    if (match s1.trn.heard with | some h => better (prio, phys) h | none => true) then
      let s2 : State := { s1 with trn := { s1.trn with heard := some (prio, phys), cand := false } }
      .next (s2.emit (.electionAck phys s2.ownPhys (if s2.trn.numbered then some s2.transitNo else none)))
    else .next s1
  else .next s

/-- ELECTION_ACKNOWLEDGEMENT: each package counts once (R71). -/
def execElectionAcknowledgement (phys : Nat) (number : Option Nat) (s : State) : Res :=
  if s.electing && s.trn.cand && phys != s.ownPhys && !s.trn.acks.any (fun a => a.1 == phys) then
    .next { s with trn := { s.trn with acks := s.trn.acks ++ [(phys, number)] } }
  else .next s

/-- Highest transit number this package or an acknowledging one holds (R72). -/
def State.highestHeld (s : State) : Option Nat :=
  let held := (if s.trn.numbered then [s.transitNo] else []) ++ s.trn.acks.filterMap Prod.snd
  if held.isEmpty then none else some (maxOf held)

/-- The candidate becomes master and goes on with the numbering, or begins a new rack epoch (R72). -/
def State.becomeMaster (s : State) : State :=
  let s1 : State := { ((((s.fset R.TRN_STATUS.electing 0).fset R.TRN_STATUS.is_master 1).fset R.TRN_STATUS.synced 1).fset
      R.TRN_STATUS.offset_ns 0).fset R.TRN_STATUS.master_ldn s.ldn with
    trn := { s.trn with cand := false, started := true, adopted := true, hold := none, slew := 0, dones := [],
                        doneSent := false, stretching := false, masterPhys := s.ownPhys } }
  match s.highestHeld with
  | some m => { s1 with trn := { s1.trn with nextNo := m + 1, masterAt := s1.rackTime } }
  | none =>
    { (s1.fset R.TRN_TIME.time_ns 0).fset R.TRN_NEXT.next_ns 0 with
      trn := { s1.trn with nextNo := s1.fget R.TRN_START.start, masterAt := 0 } }

/-- ELECTION_QUIET_EXPIRY: 1 ms without a better candidate, and a quorum of the rack (R71). -/
def execElectionQuietExpiry (now : Nat) (s : State) : Res :=
  let s0 := s.advance now
  if s0.electing && s0.trn.cand && decide (s0.trn.candSince + 1000000 ≤ s0.clock) &&
      decide (s0.fget R.TRN_RACK_SIZE.rack_size < 2 * (s0.trn.acks.length + 1)) then
    let s1 := s0.becomeMaster
    .next ((s1.flood 6 [s1.ownPhys, s1.trn.nextNo] none none 0).checkJoin)
  else .next s0

/-- MASTER: the election is over (R72). `ldn` is the LDN under which the sender is known here, 255 for none. DONE is sent
again, to the new master (log 77). -/
def execMaster (link hops phys ldn first : Nat) (s : State) : Res :=
  if s.vc0In link && s.fresh 6 [phys, first] then
    let s1 := s.flood 6 [phys, first] none (some link) hops
    .next { ((s1.fset R.TRN_STATUS.electing 0).fset R.TRN_STATUS.is_master 0).fset R.TRN_STATUS.master_ldn (if ldn < 144 then ldn else 255) with
      trn := { s1.trn with cand := false, adopted := true, masterPhys := phys, masterAt := s1.rackTime, doneSent := false,
                           stretching := false } }
  else .next s

/-- MASTER_LOST_TIMEOUT: no SCHEDULE in time (R73; after a MASTER message the time runs from the later of TRN_NEXT and the
message, log 77), or no marker within 1 ms of the first port reaching UP in a package
that knows no master (R474). -/
def execMasterLostTimeout (now : Nat) (s : State) : Res :=
  let s0 := s.advance now
  let next := s0.fget R.TRN_NEXT.next_ns
  if s0.isMaster || s0.electing || s0.trn.sched.isSome then .next s0
  else if s0.trn.numbered || (s0.trn.adopted && next != 0) then
    if Nat.max next s0.trn.masterAt + s0.maxStretch + 10000 ≤ s0.rackTime then
      let s1 := ((s0.fset R.TRN_STATUS.master_lost 1).raise (.pf 0) 4).report srcPackage codeMasterLost 0 (s0.fget R.TRN_STATUS.master_ldn)
      .next s1.startElection
    else .next s0
  else if !s0.trn.adopted && s0.fget R.TRN_CTL.master_priority != 0 &&
      (match s0.trn.firstUp with | some t => decide (t + 1000000 ≤ s0.clock) | none => true) then .next s0.startElection
  else .next s0

/-! What takes effect at a transit (R79 to R93). -/

/-- An operation is aborted by a transit, with the solve it is and the beacon it waits for (R92, R263). -/
def State.abortLate (s : State) (k : Nat) : State :=
  let s1 := (List.range 16).foldl (fun s n =>
    if (s.se n).solve.map Solve.slot = some k then s.solveLate n else s) s
  { s1.endOp k stLateTransit with waiters := s1.waiters.filter (fun w => w.ans != .op k) }

/-- SKIP_ABORT: what the partition fetched in the ending step and has not ended is aborted (R92). -/
def State.skipPart (s : State) (p : Nat) : State :=
  if s.fon (R.TRN_PART_CTL.policy p) && s.trn.numbered then
    let ks := s.liveOps (fun o => o.partition == p && o.fetchedIn == s.transitNo)
    if ks.isEmpty then s else (ks.foldl State.abortLate s).fset (R.TRN_PART_STEP.skipped p) 1
  else s

/-- The number, fire time and period of the step that begins; whether the transit came later than nominal is counted
(R91, R101). -/
def State.countTransit (s : State) (n fire per : Nat) : State :=
  let late := s.trn.numbered && decide (s.trn.fireTime + s.periodNs < fire)
  let s1 := if late then s.finc R.TRN_STRETCH_CNT.stretched 1 else s
  let s2 := ((s1.fset R.TRN_NUMBER.transit n).fset R.TRN_PERIOD.period_ns per).fset R.TRN_NEXT.next_ns (fire + per)
  { s2 with trn := { s2.trn with numbered := true, fireTime := fire, sched := none, nextNo := n + 1, dones := [],
                                 doneSent := false, stretching := false, overCounted := [] } }

/-- The step of a partition begins: late is set or ends (R90), the done bits and the phase clear (R83), lost time
restarts (R99), and windows written for it take force (R82). -/
def State.tickPart (s : State) (n p : Nat) : State :=
  let done := s.accounted p
  let s1 := s.fset (R.TRN_PART_STEP.late p) (s.fon (R.TRN_PART_STEP.late p) && !done).toNat
  let s2 := if s.trn.darkNext.contains (n, p) then s1.darken p else s1
  let s3 := s2.setReg (A.TRN_PART_STEP p) (s2.reg (A.TRN_PART_STEP p) &&& ~~~ (0x307 : Word))
  let s4 := s3.fset (R.TRN_PART_DROOP.lost_ns p) 0
  match s4.trn.winNext.find? (fun e => e.1 == p) with
  | none => s4
  | some e =>
    ((s4.fset (R.TRN_PART_CTL.compute p) (getField e.2 0 10)).fset (R.TRN_PART_CTL.exchange p) (getField e.2 16 10)).fset
      (R.TRN_PART_CTL.commit p) (getField e.2 32 10)

/-- Stretches that go on count anew for the step (R99). -/
def State.restartDroop (s : State) : State :=
  (List.range 40).foldl (fun s d =>
    let x := s.droopOf d
    s.setDroopOf d { since := x.since.map (fun _ => s.clock), last := if x.since.isSome then x.last else 0, stretched := 0 }) s

/-- The add of a window beacon (R83). -/
def State.beaconTick (s : State) (p : Nat) : State :=
  if s.fon (R.TRN_PART_CTL.beacon_en p) then s.hwAdd (s.fget (R.TRN_PART_BCN.window_beacon p)) 0x3FF else s

/-- Home M-dies count the transit as fired, and reader caches advance their generation (R332, R333). -/
def State.publish (s : State) (n : Nat) : State :=
  let s1 := (List.range 8).foldl (fun s m => s.homeFires m n) s
  { s1 with gen := (s1.gen + 1) % 4, epochCache := [] }

/-- Twilight and keys (R346, R347). -/
def State.tickKeys (s : State) (n : Nat) : State :=
  let s1 : State := if s.twilightArm then { s.fset R.RMM_STATUS.twilight 1 with twilightArm := false } else s
  let s2 := if s1.fon R.RMM_STATUS.commit_pending && decide (s1.fget R.RMM_KEY_AT.at_transit ≤ n) then s1.installKeys n else s1
  { s2 with oldKeys := s2.oldKeys.filter (fun k => decide (n ≤ k.2.2)) }

/-- LDNs that the switch moved to another package (R392). -/
def movedLdns (s t : State) : List Nat :=
  (List.range 144).filter (fun l =>
    let a := s.mapsTo l
    let b := t.mapsTo l
    !a.isEmpty && !b.isEmpty && a.all (fun x => !b.contains x))

/-- ROUTE_SWITCH, and with it SPARE_TAKEOVER: what waits for an LDN that moved ends DEAD_TARGET, and the locks it held are
orphaned (R392, R393, R431). -/
def State.tickRoutes (s : State) (n : Nat) : State :=
  if s.fon R.SCP_ROUTE_CMD.pending && decide (s.fget R.SCP_ROUTE_AT.at_transit ≤ n) then
    let t := (s.fset R.SCP_ROUTE_CMD.bank (1 - s.fget R.SCP_ROUTE_CMD.bank)).fset R.SCP_ROUTE_CMD.pending 0
    let moved := movedLdns s t
    let ids := (t.reqs.filter (fun e => match e.2 with | some r => moved.contains r.dst | none => false)).map Prod.fst
    moved.foldl State.orphanLdn (ids.foldl State.endDead t)
  else s

/-- LDN_APPLY; a package whose own LDN the table gives another drops it and enters twilight (R390, R391). -/
def State.tickLdn (s : State) (n : Nat) : State :=
  let s1 := if s.fon R.SCP_LDN_NEXT.pending && decide (s.fget R.SCP_LDN_AT.at_transit ≤ n) then
      (s.fset R.SCP_ID.ldn (s.fget R.SCP_LDN_NEXT.ldn_next)).fset R.SCP_LDN_NEXT.pending 0
    else s
  if s1.ldn ≠ 255 ∧ (s1.mapsTo s1.ldn).any (fun a => a != s1.ownPhys) then
    (s1.fset R.SCP_ID.ldn 255).fset R.RMM_STATUS.twilight 1
  else s1

/-- APPLY_START and the hold of a waiting image's rings (R62, R63): the image applies at the first transit, of the
restructure_wait that follow its acceptance, at which its rings are held and empty and no almanac is cut. -/
def State.tickImage (s : State) (cut : Bool) (i : PendingImg) : State :=
  let p := i.partition
  if i.applying then s
  else
    let pend := s.togus.pending.map (fun x => if x.partition = p then { x with waited := x.waited + 1, held := true } else x)
    let s0 := s.fset (R.PRT_STATUS.held p) 1
    let s1 : State := { s0 with togus := { s0.togus with pending := pend } }
    if i.held && !cut && decide (i.waited < i.limit) && !s1.partBusy p then s1.beginApply p else s1

/-- Images: rings held for one whose application has ended or which was withdrawn resume (R63, R64). -/
def State.tickImages (s : State) (cut : Bool) : State :=
  let s1 := s.togus.resume.foldl (fun s p => s.fset (R.PRT_STATUS.held p) (s.alm.held && bit s.alm.parts p).toNat) s
  let s2 : State := { s1 with togus := { s1.togus with resume := [] } }
  s2.togus.pending.foldl (fun s i => s.tickImage cut i) s2

/-- UNIFORM widths are recomputed (R50). -/
def State.tickWidths (s : State) : State :=
  ((List.range 16).filter (fun p => s.partPresent p && s.partUniform p)).foldl State.rewidthPart s

/-- The almanac: release, then the cut (R508, R511). -/
def State.tickAlmanac (s : State) (n : Nat) : State :=
  s.almUnhold.almCutAt n ((List.range 16).filter (fun p => s.fon (R.TRN_PART_STEP.late p)))

/-- ECL_AT, then an election that a change of priority asked for (R73, R541). -/
def State.tickLast (s : State) (n : Nat) : State :=
  let s1 := if s.fon R.ECL_CTL.at_en && s.fget R.ECL_AT.transit == n then s.eclTrigger 4 (s.fon R.ECL_CTL.at_fast) else s
  if s1.trn.electNext then s1.startElection else s1

/-- The transit scheduled fires: everything the manual places at a transit, in this order (log 26). -/
def State.fireTransit (s : State) : State :=
  match s.trn.sched with
  | none => s
  | some (n, fire, per) =>
    let cut := s.almState == 1 && s.alm.cut == n
    let s1 := if s.fon R.TRN_CTL.tout_en then s.emit (.transitOut n) else s
    let s2 := (List.range 16).foldl State.skipPart s1
    let s3 := (List.range 16).foldl (fun s p => s.tickPart n p) (s2.countTransit n fire per)
    let s4 : State := { s3 with trn := { s3.trn with winNext := [], darkNext := s3.trn.darkNext.filter (fun e => decide (n < e.1)) } }
    let s5 := (List.range 16).foldl State.beaconTick s4.restartDroop
    let s6 := (((s5.publish n).tickRoutes n).tickLdn n).tickKeys n
    let s7 := ((s6.applyCol n).applyLost n).tickAlmanac n
    ((((s7.tickImages cut).tickWidths).checkJoin).tickLast n)

/-- TRANSIT_FIRE: rack time has reached the fire time and is not held (R76, R79); none fires in an election (R73), nor in
a frozen or sleeping package. -/
def execTransitFire (now : Nat) (s : State) : Res :=
  let s0 := s.advance now
  match s0.trn.sched with
  | none => .next s0
  | some (_, fire, _) =>
    if fire ≤ s0.rackTime ∧ s0.trn.hold.isNone ∧ ¬ s0.electing ∧ s0.ecl.phase ≠ 2 ∧ ¬ s0.nwt.night then .next s0.fireTransit
    else .next s0

/-- A SCHEDULE marker that arrives after its fire time: logged, synced clear until the next SYNC, and the transit fires at
once, or when rack time is held no more (R76, R78). -/
def State.lateMarker (s : State) (fire : Nat) : State :=
  let s1 := (((s.fset R.TRN_STATUS.late_marker 1).raise (.pf 0) 4).report srcPackage codeLateMarker 0
    (Nat.min (s.rackTime - fire) (2 ^ 32 - 1))).fset R.TRN_STATUS.synced 0
  let s2 : State := { s1 with trn := { s1.trn with lateSync := true } }
  if s2.trn.hold.isNone then s2.fireTransit else s2

/-- SCHEDULE: relayed, rack time corrected, and the fire time set (R74 to R78). In an election none counts: only a new
master schedules, and its MASTER message comes first (R73). -/
def execSchedule (now link hops n fire period origin delay : Nat) (s : State) : Res :=
  let s0 := s.advance now
  if s0.vc0In link && !s0.isMaster && s0.fresh 1 [n, fire, period, origin] then
    let s1 := (((s0.forward 1 [n, fire, period, origin] delay link hops).correctTime (origin + delay)).adopt).checkJoin
    if s1.electing ∨ (s1.trn.numbered ∧ n ≤ s1.transitNo) then .next s1
    else
      let s2 : State := { s1.fset R.TRN_NEXT.next_ns fire with trn := { s1.trn with sched := some (n, fire, period) } }
      .next (if fire < s2.rackTime then s2.lateMarker fire else s2)
  else .next s0

/-! Windows (R81 to R86). -/

/-- Start and length of a window in per mille of the period: 0 compute, 1 exchange, 2 commit. -/
def State.window (s : State) (p w : Nat) : Nat × Nat :=
  let c := s.fget (R.TRN_PART_CTL.compute p)
  let e := s.fget (R.TRN_PART_CTL.exchange p)
  match w with
  | 0 => (0, c)
  | 1 => (c, e)
  | _ => (c + e, s.fget (R.TRN_PART_CTL.commit p))

/-- Rack time since the transit that began the step. -/
def State.stepTime (s : State) : Nat := s.rackTime - s.trn.fireTime

/-- WINDOW_BOUNDARY: a compute or exchange window ends, with its beacon add; past the nominal time of a transit held
back step_phase reads HELD (R81, R83). -/
def execWindowBoundary (now p : Nat) (s : State) : Res :=
  let s0 := s.advance now
  let ph := s0.fget (R.TRN_PART_STEP.step_phase p)
  if p < 16 ∧ s0.partPresent p ∧ s0.trn.numbered then
    if ph < 2 then
      let w := s0.window p ph
      if (w.1 + w.2) * s0.periodNs ≤ 1000 * s0.stepTime then
        .next ((s0.fset (R.TRN_PART_STEP.step_phase p) (ph + 1)).beaconTick p)
      else .next s0
    else
      let back := match s0.trn.sched with | some x => decide (s0.trn.fireTime + s0.periodNs < x.2.1) | none => true
      .next (if back && decide (s0.periodNs ≤ s0.stepTime) then s0.fset (R.TRN_PART_STEP.step_phase p) 3 else s0)
  else .next s0

/-- The done bit of a window is set. -/
def State.windowDone (s : State) (p w : Nat) : Bool := bit (s.reg (A.TRN_PART_STEP p)).toNat w

/-- WATCHDOG_WARN: 90 % of the window in progress has elapsed with its done bit clear (R86). -/
def execWatchdogWarn (now p : Nat) (s : State) : Res :=
  let s0 := s.advance now
  let w := Nat.min (s0.fget (R.TRN_PART_STEP.step_phase p)) 2
  let win := s0.window p w
  if p < 16 ∧ s0.partPresent p ∧ s0.trn.numbered ∧ win.2 ≠ 0 ∧ ¬ s0.windowDone p w ∧
      (10 * win.1 + 9 * win.2) * s0.periodNs ≤ 10000 * s0.stepTime then
    .next (((s0.fset (R.TRN_PART_STEP.warn p) 1).report (srcPart p) codeWatchdogWarn 0 w).raise (.pf 1) p)
  else .next s0

/-- W1C bits of TRN_PART_STEP that a write of `value` clears: warn, skipped, win_err. -/
def State.stepClear (s : State) (p : Nat) (value : Word) : State :=
  s.setReg (A.TRN_PART_STEP p) (s.reg (A.TRN_PART_STEP p) &&& ~~~ (value &&& 0xE0000))

/-- STEP_DONE_WRITE: through TRN_PART_STEP by PF0 and PF1, the step port by the partition's cores, VF_STEP by a tenant
mapped to it (R84). -/
def execStepDoneWrite (who : Who) (p : Nat) (value : Word) (s : State) : Res :=
  if 16 ≤ p then .next s
  else
    match who with
    | .pf n =>
      if n < 2 then .next ((s.stepClear p value).stepSet p (value.toNat % 8))
      else .next (s.refuseWrite (.pf n) (A.TRN_PART_STEP p) true true)
    | .tcore c => .next (if s.partOfTcore c = some p then s.stepSet p (value.toNat % 8) else s.emit (.ended who stFaultAddr))
    | .pcore c => .next (if s.partOfPcore c = some p then s.stepSet p (value.toNat % 8) else s.emit (.ended who stFaultAddr))
    | .vf v => .next (if s.tenantPart v = some p then s.stepSet p (value.toNat % 8) else s)
    | .se _ => .next (s.emit (.ended who stFaultAddr))
    | .peer _ _ _ _ => .next (s.emit (.ended who stFaultAddr))

/-- A write of a register or of one half of it over its old value (R548). -/
def mergeHalf (sz : WrSize) (old new : Word) : Word :=
  match sz with
  | .whole => new
  | .low => (old &&& 0xFFFFFFFF00000000) ||| (new &&& 0xFFFFFFFF)
  | .high => (old &&& 0xFFFFFFFF) ||| ((new &&& 0xFFFFFFFF) <<< 32)

/-- WINDOW_WRITE of TRN_PART_CTL by PF0 or PF1: windows wait for the next transit, and until then the register shows those
in force (log 77); a write whose windows do not total 1,000 is ignored (R82). The other fields take effect at once. -/
def execWindowWrite (fn : Fn) (p : Nat) (sz : WrSize) (value : Word) (s : State) : Res :=
  if 16 ≤ p then .next s
  else if fn ≠ .pf 0 ∧ fn ≠ .pf 1 then .next (s.refuseWrite fn (A.TRN_PART_CTL p) (decide (sz = .whole)) true)
  else
    let old := s.reg (A.TRN_PART_CTL p)
    let win := match s.trn.winNext.find? (fun e => e.1 == p) with | some e => e.2 | none => old
    let w := mergeHalf sz ((win &&& 0xFFFFFFFFFFFF) ||| (old &&& 0xFFFF000000000000)) value
    if getField w 0 10 + getField w 16 10 + getField w 32 10 ≠ 1000 then .next (s.fset (R.TRN_PART_STEP.win_err p) 1)
    else
      let s1 := ((s.fset (R.TRN_PART_CTL.policy p) (getField w 48 1)).fset (R.TRN_PART_CTL.acct_en p) (getField w 49 1)).fset
        (R.TRN_PART_CTL.beacon_en p) (getField w 50 1)
      .next { s1 with trn := { s1.trn with winNext := assocSet (fun _ => 0) s1.trn.winNext p (w &&& 0x3FF03FF03FF) } }

/-! Droop (R97 to R100). -/

/-- Dies on which a partition has clusters, P cores, solver engines, LLM units, channels or ports (log 26). -/
def State.partDies (s : State) (p : Nat) : List Nat :=
  ((bitsOf 128 (s.clusterMask p)).map dieOfCluster ++ (bitsOf 192 (s.pcoreMask p)).map dieOfPcore ++
    (bitsOf 16 (s.seMask p)).map dieOfSe ++ (bitsOf 64 (s.llmMask p)).map (fun u => dieM (u / 8)) ++
    (bitsOf 64 (s.chanMask p)).map dieOfChan ++ (bitsOf 64 (s.portMask p)).map dieOfPort).eraseDups

/-- Lost time of a partition: half of the stretched time on its worst die (R99). -/
def State.countLost (s : State) : State :=
  ((List.range 16).filter s.partPresent).foldl (fun s p =>
    s.fset (R.TRN_PART_DROOP.lost_ns p)
      (Nat.min (maxOf ((s.partDies p).map (fun d => (s.droopOf d).stretched)) / 2) (2 ^ 32 - 1))) s

/-- DROOP_DETECT: the die's stretchable domains halve, or the count of a stretch restarts (R97). -/
def execDroopDetect (now die : Nat) (s : State) : Res :=
  let s0 := s.advance now
  if 40 ≤ die then .next s0
  else
    let d := s0.droopOf die
    let add := match d.since with | some t => s0.clock - t | none => 0
    .next (s0.setDroopOf die { since := some s0.clock, last := s0.clock, stretched := d.stretched + add }).countLost

/-- Shortest stretch in whole ns after the last detection: 64 half-speed cycles of the reference clock, 64 ns, or
53.3 ns on a P-die (R97). -/
def shortestStretch (die : Nat) : Nat := if dieP 0 ≤ die ∧ die < dieP 4 then 54 else 64

/-- DROOP_STRETCH_END: the die returns to full frequency, and its stretched time is counted (R97, R99). -/
def execDroopStretchEnd (now die : Nat) (s : State) : Res :=
  let s0 := s.advance now
  let d := s0.droopOf die
  match d.since with
  | none => .next s0
  | some t =>
    if die < 40 ∧ d.last + shortestStretch die ≤ s0.clock then
      .next (s0.setDroopOf die { since := none, last := 0, stretched := d.stretched + (s0.clock - t) }).countLost
    else .next s0

/-- OVER_MARGIN: lost time has passed droop_margin; counted and logged once a step (R100). -/
def execOverMargin (p : Nat) (s : State) : Res :=
  let lost := s.fget (R.TRN_PART_DROOP.lost_ns p)
  if p < 16 ∧ s.fget R.TRN_POLICY.droop_margin * s.periodNs < 1000 * lost ∧ ¬ s.trn.overCounted.contains p then
    let s1 : State := { s with trn := { s.trn with overCounted := insertNat s.trn.overCounted p } }
    .next ((s1.finc (R.TRN_PART_DROOP.over_margin_count p) 1).report (srcPart p) codeOverMargin 0 lost)
  else .next s

end Sys2Proof.Machine
end

