-- ==== Sys2Proof/Machine/RegWrite.lean ====
section
/-! DEFINITION. Writes of registers that have no row of their own (R451, R453, R548 to R552, R555, R557, R581). -/
namespace Sys2Proof.Machine

/-! Who may write what (R451, R555, R581). -/

/-- Byte `d` past a base lies in an array of `n` registers, `stride` apart. -/
def inArray (off base n stride : Nat) : Bool :=
  decide (base ≤ off) && decide ((off - base) / stride < n) && (off - base) % stride == 0

def inBlock (off lo hi : Nat) : Bool := decide (lo ≤ off) && decide (off < hi)

/-- The PRT image staging area (R554). -/
def inStaging (off : Nat) : Bool := inBlock off 0x80000 0xC0000

/-- RMM_RGN_KEY[d]; with the rest of the block it follows R349. -/
def isRgnKey (off : Nat) : Bool := inArray off (A.RMM_RGN_KEY 0) 4096 0x20
def isRgnCfg (off : Nat) : Bool := inArray off (A.RMM_RGN_CFG 0) 4096 0x20

/-- The key and outbound-table registers of rack memory (R349). -/
def isKeyReg (off : Nat) : Bool :=
  inBlock off A.RMM_KEY_CMD (A.RMM_OKT_DATA1 + 8) || isRgnKey off

/-- Registers PF1 writes (R451). -/
def pf1Writes (off : Nat) : Bool :=
  off == A.PRT_CMD || inArray off (A.PRT_CTL 0) 16 0x100 || inStaging off ||
    inArray off (A.TRN_PART_CTL 0) 16 0x20 || inArray off (A.TRN_PART_STEP 0) 16 0x20 ||
    inBlock off (A.GDM_MAP_CTL 0) (A.GDM_MAP_CTL 64) || inBlock off (A.RMM_APT 0) (A.RMM_APT 256) ||
    (inBlock off (A.RMM_RGN_CFG 0) (A.RMM_RGN_CFG 4096) && !isRgnKey off) ||
    inBlock off 0x180000 0x200000 || inBlock off 0x1000000 0x4000000 || inBlock off 0x50000 0x60000

/-- Registers PF2 writes: SCP, the key and outbound-table registers with next_valid, COL_DARK (R451, R346). -/
def pf2Writes (off : Nat) : Bool :=
  inBlock off 0x100000 0x140000 || inBlock off 0x170000 0x180000 || isKeyReg off || isRgnCfg off || off == A.COL_DARK

/-- Registers PF3 writes (R451, R555). -/
def pf3Writes (off : Nat) : Bool := inBlock off 0x70000 0x80000 || inArray off (A.TC_PX_CTL 0) 512 0x4000

/-- Registers a management message writes (R581). -/
def mgmtWrites (off : Nat) : Bool :=
  off == A.RMM_CTL || isKeyReg off || isRgnCfg off || inBlock off A.SCP_LDN_NEXT (A.SCP_BLOCK 3) ||
    inArray off (A.SCP_EXT_ROUTE 0) 16 8 || inBlock off 0x180000 0x1C0000 || inBlock off 0x50000 0x60000 || off == A.NWT_CTL

def regRights (fn : Fn) (off : Nat) : Bool :=
  match fn with
  | .pf 0 => true
  | .pf 1 => pf1Writes off
  | .pf 2 => pf2Writes off
  | .pf 3 => pf3Writes off
  | .pf _ => false
  | .vf _ => false
  | .mgmt => mgmtWrites off

/-- Fields of a register that a function may write, where that is not all of them: next_valid is a key field (R346,
R349), and of NWT_CTL a message writes night_enter (R581). -/
def fieldRights (fn : Fn) (off lo : Nat) : Bool :=
  match fn with
  | .pf 1 => !isRgnCfg off || lo != 12
  | .pf 2 => !isRgnCfg off || lo == 12
  | .mgmt => (!isRgnCfg off || lo == 12) && (off != A.NWT_CTL || lo == 0)
  | _ => true

/-! Fields that a write reaches only through a row of its own, and writes that a rule discards. -/

/-- The field at bit `lo` of the register at `off` is written by a command with a row of its own. -/
def ownRow (off lo : Nat) : Bool :=
  off == A.TRN_PERIOD_NEXT || inArray off (A.TRN_PART_CTL 0) 16 0x20 ||
    inArray off (A.TRN_PART_STEP 0) 16 0x20 || off == A.ERR_CONS || off == A.SCP_ROUTE_DATA1 || off == A.RMM_OKT_DATA1 ||
    off == A.BCN_CFG || off == A.BCN_VALUE || inArray off (A.TC_SP_CTL 0) 512 0x4000 ||
    inArray off (A.GDM_MAP_CTL 0) 64 0x20 || inArray off (A.QRG_RING_CFG 0) 262144 0x40 ||
    (lo == 0 && (inArray off (A.SCP_PORT_CTL 0) 64 0x1000 || isRgnCfg off))

/-- Registers of the ALM block that are locked while an almanac or a restore runs (R528). -/
def almLocked (off : Nat) : Bool :=
  inBlock off A.ALM_PLAN (A.ALM_BUDDY + 8) || off == A.ALM_RST_SRC || off == A.ALM_RST_DST ||
    inBlock off (A.ALM_SHARD_BASE 0) (A.ALM_SHARD_BASE 256)

/-- A member entry in the range of a constellation in force or staged for commit (R424). -/
def State.memberLocked (s : State) (j : Nat) : Bool :=
  (List.range 1024).any (fun i => (s.cstOn i && (s.cstRange i).contains j) || (s.staged i && (s.nextRange i).contains j))

/-- The write of a field is discarded in the present state (R307, R323, R424, R446, R528). -/
def State.locked (s : State) (off lo : Nat) : Bool :=
  if inBlock off (A.RMM_RGN_CFG 0) (A.RMM_RGN_CFG 4096) then
    s.rgnOn ((off - A.RMM_RGN_CFG 0) / 0x20) && !isRgnKey off && !(isRgnCfg off && lo == 12)
  else if inBlock off (A.GDM_MAP_CTL 0) (A.GDM_MAP_CTL 64) then
    s.fon (R.GDM_MAP_CTL.enable ((off - A.GDM_MAP_CTL 0) / 0x20))
  else if inArray off (A.QRG_RING_SQ 0) 262144 0x40 then s.ringOn ((off - A.QRG_RING_SQ 0) / 0x40)
  else if inArray off (A.QRG_RING_CQ 0) 262144 0x40 then s.ringOn ((off - A.QRG_RING_CQ 0) / 0x40)
  else if almLocked off then s.almState != 0
  else if inArray off (A.COL_MEMBER 0) 16384 8 then s.memberLocked ((off - A.COL_MEMBER 0) / 8)
  else false

/-! The write (R548, R551, R552). -/

/-- A field after a write, by its access type; a value out of range leaves it. SC fields issue commands, which have
rows of their own. -/
def FieldSpec.write (f : FieldSpec) (old new : Word) : Word :=
  let v := getField new f.lo f.width
  match f.acc with
  | .ro => old
  | .sc => old
  | .w1c => setField old f.lo f.width (getField (old &&& ~~~ new) f.lo f.width)
  | .w1s => setField old f.lo f.width (getField (old ||| new) f.lo f.width)
  | .rw | .rwh | .rws | .cnt | .cntSat => if f.min ≤ v ∧ v ≤ f.max then setField old f.lo f.width v else old

/-- The field lies in what the access carries (R548). -/
def FieldSpec.carried (f : FieldSpec) (sz : WrSize) : Bool :=
  match sz with
  | .whole => true
  | .low => decide (f.lo + f.width ≤ 32)
  | .high => decide (32 ≤ f.lo)

/-- Part of a register that an access of a size at an address carries; none for any other size or alignment (R549). -/
def sizeOf (off size : Nat) : Option WrSize :=
  if size = 8 ∧ off % 8 = 0 then some .whole
  else if size = 4 ∧ off % 8 = 0 then some .low
  else if size = 4 ∧ off % 8 = 4 then some .high
  else none

/-- The written bytes at their place in the register. -/
def placed (sz : WrSize) (value : Word) : Word :=
  match sz with
  | .whole => value
  | .low => value &&& 0xFFFFFFFF
  | .high => (value &&& 0xFFFFFFFF) <<< 32

/-- The fields a write reaches, each under its access type. A change of master_priority on the master is followed by an
election at its next transit (R73). -/
def State.writeFields (s : State) (fn : Fn) (off : Nat) (sz : WrSize) (fs : List FieldSpec) (new : Word) : State :=
  let old := s.reg off
  let w := fs.foldl (fun w f =>
    if f.carried sz && fieldRights fn off f.lo && !ownRow off f.lo && !s.locked off f.lo then f.write w new else w) old
  let s1 := s.setReg off w
  if off = A.TRN_CTL ∧ s.isMaster ∧ getField w 0 8 ≠ getField old 0 8 then { s1 with trn := { s1.trn with electNext := true } }
  else if off = A.TRN_PERIOD_AT then s1.setPerAt
  else s1

/-- A write of the staging area (R45, R557). -/
def State.writeStaging (s : State) (off size : Nat) (value : Word) : State :=
  if s.fon R.PRT_STAGE.validating then (s.fset R.PRT_STAGE.busy_err 1).raise (.pf 0) 7
  else s.write (stagingBase + (off - 0x80000)) (leBytes size value.toNat)

/-- A write of a PF BAR0 offset: undefined ones, other sizes and missing rights are refused and logged (R549, R451). In
recovery only the GLB block is there, which takes no write (R469, R556). -/
def State.writeReg (s : State) (fn : Fn) (off size : Nat) (value : Word) : State :=
  if s.boot.stage = .recovery then s.refuseWrite fn off (decide (size = 8)) false
  else
  match sizeOf off size with
  | none => s.refuseWrite fn off (decide (size = 8)) false
  | some sz =>
    let base := off - off % 8
    if inStaging base then
      (if regRights fn base then s.writeStaging off size value else s.refuseWrite fn off (decide (size = 8)) true)
    else
      match regFields base with
      | none => s.refuseWrite fn off (decide (size = 8)) false
      | some fs =>
        if regRights fn base then s.writeFields fn base sz fs (placed sz value)
        else s.refuseWrite fn off (decide (size = 8)) true

/-- A write through VF BAR0 (R453, R454): the ring registers of the VF; everything else that has no row of its own is
discarded. -/
def State.writeVf (s : State) (v off size : Nat) (value : Word) : State :=
  match sizeOf off size with
  | none => s
  | some sz =>
    let base := off - off % 8
    let pf := A.QRG_RING_CFG (64 * v + base / 0x40) + base % 0x40
    if v < s.numVfs ∧ base < 0x1000 then
      match regFields pf with
      | none => s
      | some fs => s.writeFields (.vf v) pf sz fs (placed sz value)
    else s

/-- REGISTER_WRITE. -/
def execRegisterWrite (fn : Fn) (off size : Nat) (value : Word) (s : State) : Res :=
  match fn with
  | .vf v => .next (s.writeVf v off size value)
  | .pf n => .next (s.writeReg (.pf n) off size value)
  | .mgmt => .next (s.writeReg .mgmt off size value)

/-- MGMT_WRITE (R581). -/
def execMgmtWrite (off size : Nat) (value : Word) (s : State) : Res := .next (s.writeReg .mgmt off size value)

end Sys2Proof.Machine
end

