-- ==== Sys2Proof/Machine/Ve.lean ====
section
/-! DEFINITION. The vector engine (R191 to R212): its registers, one operation per instruction over elements 0 to
n - 1, predication, the reduction tap, and the check of R184 to R186. -/
namespace Sys2Proof.Machine

/-! Registers (R192). -/

/-- Element `i` of vector register `r` in a format. -/
def VeState.elem (v : VeState) (fmt r i : Nat) : Nat :=
  let b := fmtBits fmt
  let slot := fun k => (assocGet (fun _ => (0 : BitVec 32)) v.vregs (r * 4096 + k)).toNat
  if b = 64 then slot (2 * i) + 2 ^ 32 * slot (2 * i + 1) else fld (slot (i * b / 32)) (i * b % 32) b

/-- Write one 32-bit slot of a vector register. -/
def VeState.putSlot (v : VeState) (r k : Nat) (x : Nat) : VeState :=
  { v with vregs := assocSet (fun _ => (0 : BitVec 32)) v.vregs (r * 4096 + k) (BitVec.ofNat 32 x) }

/-- Write element `i`. -/
def VeState.putElem (v : VeState) (fmt r i x : Nat) : VeState :=
  let b := fmtBits fmt
  if b = 64 then (v.putSlot r (2 * i) (x % 2 ^ 32)).putSlot r (2 * i + 1) (x / 2 ^ 32)
  else
    let k := i * b / 32
    let lo := i * b % 32
    let old := (assocGet (fun _ => (0 : BitVec 32)) v.vregs (r * 4096 + k)).toNat
    v.putSlot r k (old - fld old lo b * 2 ^ lo + x % 2 ^ b * 2 ^ lo)

def VeState.pred (v : VeState) (p i : Nat) : Bool := assocGet (fun _ => false) v.preds (p * 4096 + i)

def VeState.putPred (v : VeState) (p i : Nat) (x : Bool) : VeState :=
  { v with preds := assocSet (fun _ => false) v.preds (p * 4096 + i) x }

/-- Element `i` is active (R194). -/
def VeState.active (v : VeState) (q : Quad) (i : Nat) : Bool :=
  !vePredEn q || (v.pred (vePsel q) i != vePredNeg q)

def VeState.activeList (v : VeState) (q : Quad) : List Nat := (List.range (veCount q)).filter (v.active q)

def VeState.src1 (v : VeState) (q : Quad) (i : Nat) : Nat := v.elem (veFmt q) (veVs1 q) i

/-- Second source, or the immediate (R196). -/
def VeState.src2 (v : VeState) (q : Quad) (i : Nat) : Nat :=
  if veImm q then veImm32 q % 2 ^ fmtBits (veFmt q) else v.elem (veFmt q) (veVs2 q) i

/-! One element of each operation: bits in the result's format, and flags. -/

def veMode (q : Quad) (draw : Nat) : RMode := rmodeOf (veCtl q % 8) draw

/-- Deliver an exact result under rctl. -/
def veDeliver (q : Quad) (draw : Nat) (r : FpNum × Flags) : Nat × Flags :=
  let d := deliver (veOutFmt q) (veMode q draw) (bit (veCtl q) 3) false r.1
  (d.1, d.2.or r.2)

/-- Deliver a result that its format holds exactly. -/
def vePlain (q : Quad) (r : FpNum × Flags) : Nat × Flags :=
  let d := deliver (veOutFmt q) .rne false false r.1
  (d.1, d.2.or r.2)

/-- Negate a number; a NaN raises nothing. -/
def vneg (x : FpNum) : FpNum := x.neg.quiet

/-- Magnitude of a number. -/
def vabs (x : FpNum) : FpNum := if x.sign then x.neg.quiet else x.quiet

/-- A shift of bits (R197): left or right; by the width or more it is open (log 5). -/
def shiftBits (b : Nat) (right : Bool) (x n : Nat) : Nat :=
  if b ≤ n then Config.wideShift b x n % 2 ^ b
  else if right then
    (if Config.shiftSigned then (signedOf b x / 2 ^ n % 2 ^ b).toNat else x / 2 ^ n)
  else x * 2 ^ n % 2 ^ b

/-- The predicate a VCMP code names, and whether it is a quiet variant (R197). -/
def vcmpPred (code : Nat) : Pred × Bool :=
  match code with
  | 0 => (.eq, true)
  | 1 => (.ne, true)
  | 2 => (.unord, true)
  | 3 => (.lt, false)
  | 4 => (.le, false)
  | 5 => (.gt, false)
  | 6 => (.ge, false)
  | 7 => (.lt, true)
  | 8 => (.le, true)
  | 9 => (.gt, true)
  | _ => (.ge, true)

/-- totalOrder, or numerical order for integers. -/
def vtot (fmt a b : Nat) : Bool :=
  match fpFmt fmt with
  | some f => totalOrder f a b
  | none => decide (signedOf (fmtBits fmt) a ≤ signedOf (fmtBits fmt) b)

/-! Finishing an instruction. -/

/-- Elements per cycle of an instruction (R197, R207). -/
def veRate (q : Quad) : Nat :=
  let b := Nat.max (fmtBits (veFmt q)) (fmtBits (veOutFmt q))
  let base :=
    match qOp q with
    | 0x3C => if b = 64 then 4 else 8
    | 0x3D => if b = 64 then 4 else 8
    | 0x50 => 32
    | 0x58 => 64
    | 0x61 => 1
    | _ => match b with | 64 => 32 | 32 => 64 | 16 => 128 | _ => 256
  if veRedOp q ≠ 0 ∧ veRedExact q then Nat.min base (if b = 64 then 8 else 16) else base

/-- Lane cycles (R198), twice as many in mirror mode (R185). -/
def State.veCycles (s : State) (c : Nat) (q : Quad) : Nat :=
  let r := if s.fon (R.TC_VE_STATUS.mirror_active c) then Nat.max 1 (veRate q / 2) else veRate q
  (veCount q + r - 1) / r

/-- Feed results into the slot a tap names (R204), in the instruction's own format; results are given by index, absent
where inactive. -/
def State.tap (s : State) (c : Nat) (q : Quad) (els : List (Option Nat)) : State :=
  if veRedOp q = 0 then s
  else
    let old := (s.tcore c).ve.slots.getD (veRedSlot q) .empty
    let s1 := (if veRedReset q then RedSlot.empty else old).tapped (veRedOp q) (veOutFmt q) (veRedExact q)
    let r := if els.any Option.isSome then s1.feedAll els ((els.length + 63) / 64) else ((if veRedReset q then RedSlot.empty else old), .zero)
    (s.onVe c (fun v => { v with slots := updateAt v.slots (veRedSlot q) (fun _ => r.1) })).veFlags c r.2

/-! The check of a VE instruction (R184 to R186). -/

/-- Results of an instruction by element, absent where inactive: bits and flags. -/
abbrev VeRes := List (Option (Nat × Flags))

/-- Results, and what writes them. -/
abbrev VePlan := VeRes × (VeRes → State → State)

/-- The residue check covers arithmetic lane operations: not the transcendental unit, comparisons, selections,
totalOrder, predicate and bitwise logic or register moves (R184). -/
def residueChecked (q : Quad) : Bool :=
  match qOp q with
  | 0x20 => veMemFmt q != veFmt q
  | 0x21 => veMemFmt q != veFmt q
  | 0x23 => veSub q != veFmt q
  | 0x30 => true
  | 0x31 => true
  | 0x32 => true
  | 0x33 => true
  | 0x38 => true
  | 0x39 => true
  | 0x3C => true
  | 0x3D => true
  | 0x58 => veSub q % 4 == 0 || veSub q % 4 == 3
  | 0x60 => veSub q == 1 || veSub q == 2
  | _ => false

/-- Format of an instruction's results. -/
def veResFmt (q : Quad) : Nat := if qOp q = 0x21 then veMemFmt q else veOutFmt q

/-- Bits of one result: a predicate bit of a compare. -/
def veResBits (q : Quad) : Nat := if qOp q = 0x40 ∨ qOp q = 0x41 then 1 else fmtBits (veResFmt q)

/-- Residue modulo 7 of a result: of an integer's whole value, of a floating-point number's significand (R184). -/
def residue7 (fmt bits : Nat) : Nat :=
  match fpFmt fmt with
  | some f =>
    let m := bits % 2 ^ f.mb
    (if bits / 2 ^ f.mb % 2 ^ f.eb = 0 then m else 2 ^ f.mb + m) % 7
  | none => (signedOf (fmtBits fmt) bits % 7).toNat

/-- Errors strike results. -/
def VeRes.struck (r : VeRes) (bits : Nat) (errs : List (Nat × Nat)) : VeRes :=
  errs.foldl (fun l e => updateAt l e.1 (Option.map (fun x => (x.1 ^^^ (e.2 % 2 ^ bits), x.2)))) r

/-- A run passes its check: both halves bit for bit in mirror mode (R185), else the residues of what was due and of what
came, where the operation is checked (R184). -/
def vePasses (mirror : Bool) (q : Quad) (due came : VeRes) : Bool :=
  if mirror then due == came
  else
    !residueChecked q || (due.zip came).all (fun p =>
      match p with
      | (some a, some b) => residue7 (veResFmt q) a.1 == residue7 (veResFmt q) b.1
      | _ => true)

/-- A VE instruction runs (R186): it is written after its check passes, at once or in its one re-execution, a twinkle; or it
fails, and then nothing is written, the VE starts nothing further, and the control core is told. -/
def State.veRun (s : State) (c : Nat) (q : Quad) (err : VeErrors) (p : VePlan) : State :=
  let mirror := s.fon (R.TC_VE_STATUS.mirror_active c)
  let done := fun (t : State) (r : VeRes) =>
    ((p.2 r t).finc (R.TC_VE_ACTIVE_CYC.active_cycles c) (s.veCycles c q)).popQueue c .ve
  let one := p.1.struck (veResBits q) err.first
  let two := p.1.struck (veResBits q) err.second
  if vePasses mirror q p.1 one then done s one
  else if vePasses mirror q p.1 two then
    done ((s.finc (R.TC_PX_CNT.ve_twinkles c) 1).report (srcTcore c) codeVeTwinkle 1 (if mirror then 5 else 4)) two
  else
    let s1 := s.onVe c (fun v => { v with queue := [], stopped := true })
    (((s1.pxRecord c (if mirror then 5 else 4) 0 none none).report (srcTcore c) codeVeFail 2 (if mirror then 5 else 4))).pend (.tc c) excPx 2

/-- Start the head instruction of the VE queue. -/
def State.startVe (s : State) (c op : Nat) (sub : Option Nat) (err : VeErrors) (plan : Quad → VePlan) : Res :=
  match s.atHead c .ve op with
  | none => .next s
  | some q => if sub.isSome && sub != some (veSub q) then .next s else .next (s.veRun c q err (plan q))

/-- Write results of the active elements to vd, OR their flags, feed the tap (R186, R194, R204). -/
def State.veWrite (s : State) (c : Nat) (q : Quad) (els : VeRes) : State :=
  let put := (List.range els.length).foldl (fun (v : VeState) i =>
    match (els[i]?).join with
    | some r => v.putElem (veOutFmt q) (veVd q) i r.1
    | none => v) (s.tcore c).ve
  let fl := els.foldl (fun f o => match o with | some r => f.or r.2 | none => f) Flags.zero
  ((s.onVe c (fun _ => put)).veFlags c fl).tap c q (els.map (fun o => o.map Prod.fst))

/-- An element-wise instruction: `f i draw` for each active element, draws counted over the elements written (R119). -/
def State.lanes (s : State) (c : Nat) (q : Quad) (ctl : Bool) (f : VeState → Nat → Nat → Nat × Flags) : VePlan :=
  let v := (s.tcore c).ve
  let act := v.activeList q
  let sr := ctl && veCtl q % 8 == 4
  ((List.range (veCount q)).map (fun i => if v.active q i then some (f v i (if sr then s.draw c (act.idxOf i) else 0)) else none),
    fun els t =>
      let t1 := t.veWrite c q els
      if ctl then t1.advanceSr c (veCtl q) act.length else t1)

/-- A two-source instruction on numbers, rounded once. -/
def State.arith2 (s : State) (c : Nat) (q : Quad) (f : FpNum → FpNum → FpNum × Flags) : VePlan :=
  s.lanes c q true (fun v i d =>
    veDeliver q d (f (decodeNum (veFmt q) (v.src1 q i)) (decodeNum (veFmt q) (v.src2 q i))))

/-- A two-source selection, exact. -/
def State.select2 (s : State) (c : Nat) (q : Quad) (f : FpNum → FpNum → FpNum × Flags) : VePlan :=
  s.lanes c q false (fun v i _ =>
    vePlain q (f (decodeNum (veFmt q) (v.src1 q i)) (decodeNum (veFmt q) (v.src2 q i))))

/-- A bitwise instruction. -/
def State.bits2 (s : State) (c : Nat) (q : Quad) (f : Nat → Nat → Nat) : VePlan :=
  s.lanes c q false (fun v i _ => (f (v.src1 q i) (v.src2 q i), .zero))

/-! Memory operands. -/

/-- Bit offset of element `i` of a VLD or VST in the scratchpad. -/
def veBitAt (q : Quad) (i : Nat) : Nat := 8 * veAddr q + i * veStride q * fmtBits (veMemFmt q)

/-- Bytes that hold `b` bits from a bit offset. -/
def bitSpan (at_ b : Nat) : Nat × Nat := (at_ / 8, (at_ % 8 + b + 7) / 8)

/-- Bits of the scratchpad. -/
def State.padBits (s : State) (c at_ b : Nat) : Nat :=
  let sp := bitSpan at_ b
  fld (leNat (s.padBytes c sp.1 sp.2)) (at_ % 8) b

/-- Write bits of the scratchpad. -/
def State.putPadBits (s : State) (c at_ b v : Nat) : State :=
  let sp := bitSpan at_ b
  let old := leNat (s.padBytes c sp.1 sp.2)
  let lo := at_ % 8
  s.storePad c sp.1 (leBytes sp.2 (old - fld old lo b * 2 ^ lo + v % 2 ^ b * 2 ^ lo))

/-! The instructions. -/

/-- VLD (R195, R197): elements widened from memory; a poisoned word halts the queue before anything is written
(R281). -/
def execVld (c : Nat) (err : VeErrors) (s : State) : Res :=
  match s.atHead c .ve 0x20 with
  | none => .next s
  | some q =>
    let b := fmtBits (veMemFmt q)
    let spans := ((s.tcore c).ve.activeList q).map (fun i => bitSpan (veBitAt q i) b)
    let s0 := spans.foldl (fun s p => s.readPad c p.1 p.2) s
    if spans.any (fun p => s.poisonedIn (padBase c + p.1) p.2) then .next (s0.veHalt c 0x03)
    else
      .next (s0.veRun c q err (s.lanes c q true (fun _ i d =>
        let x := s.padBits c (veBitAt q i) b
        if veMemFmt q = veFmt q then (x, .zero)
        else convertBits (veMemFmt q) (veFmt q) (veMode q d) (bit (veCtl q) 3) x)))

/-- Bits that spans of bits (start, length) cover of byte `x`. -/
def coveredBits (spans : List (Nat × Nat)) (x : Nat) : Nat :=
  (spans.map (fun p => Nat.min (p.1 + p.2) (8 * x + 8) - Nat.max p.1 (8 * x))).foldl (· + ·) 0

/-- Runs of bits written into a scratchpad; words that they cover wholly lose their poison (R281). -/
def State.storeBits (s : State) (c : Nat) (ws : List (Nat × Nat × Nat)) : State :=
  let t := ws.foldl (fun t w => t.putPadBits c w.1 w.2.1 w.2.2) s
  let spans := ws.map (fun w => (w.1, w.2.1))
  let words := (spans.flatMap (fun p => [p.1 / 64, (p.1 + p.2 - 1) / 64])).eraseDups
  let whole := words.filter (fun w => (List.range 8).all (fun i => coveredBits spans (8 * w + i) == 8))
  whole.foldl (fun t w => t.clearPoison (padBase c + 8 * w) 8) t

/-- The bits after the last element of a packed operand's last group or byte, which a store of an element there writes as
zero (R104). -/
def veTail (q : Quad) (act : List Nat) : List (Nat × Nat × Nat) :=
  let b := fmtBits (veMemFmt q)
  let n := veCount q
  let total := 8 * packedBytes (veMemFmt q) n
  let group := match b with | 6 => 4 | 4 => 2 | _ => 1
  if veStride q = 1 ∧ n * b < total ∧ act.any (fun i => decide ((n - 1) / group ≤ i / group)) then
    [(8 * veAddr q + n * b, total - n * b, 0)]
  else []

/-- VST (R197): elements rounded to the memory format. -/
def execVst (c : Nat) (err : VeErrors) (s : State) : Res :=
  s.startVe c 0x21 none err (fun q =>
    let v := (s.tcore c).ve
    let act := v.activeList q
    let b := fmtBits (veMemFmt q)
    let one := fun i =>
      let d := if veCtl q % 8 = 4 then s.draw c (act.idxOf i) else 0
      if veMemFmt q = veFmt q then (v.src1 q i, Flags.zero)
      else convertBits (veFmt q) (veMemFmt q) (veMode q d) (bit (veCtl q) 3) (v.src1 q i)
    ((List.range (veCount q)).map (fun i => if v.active q i then some (one i) else none),
      fun els t =>
        let ws := act.map (fun i => (veBitAt q i, b, match (els[i]?).join with | some r => r.1 | none => 0))
        let fl := els.foldl (fun f o => match o with | some r => f.or r.2 | none => f) Flags.zero
        ((t.storeBits c (ws ++ veTail q act)).veFlags c fl).advanceSr c (veCtl q) act.length))

/-- VMOV never changes a bit (R132). -/
def execVmov (c : Nat) (err : VeErrors) (s : State) : Res :=
  s.startVe c 0x22 (some 0) err (fun q => s.lanes c q false (fun v i _ => (v.src1 q i, .zero)))

/-- VBCAST writes word 1 to elements 0 to n - 1 and carries no tap (R196). -/
def execVbcast (c : Nat) (err : VeErrors) (s : State) : Res :=
  s.startVe c 0x22 (some 1) err (fun q =>
    let x := q1 q 0 64 % 2 ^ fmtBits (veFmt q)
    let p := s.lanes c q false (fun _ _ _ => (x, .zero))
    (p.1, fun els t => t.onVe c (fun v => (List.range els.length).foldl (fun (v : VeState) i =>
      match (els[i]?).join with
      | some r => v.putElem (veFmt q) (veVd q) i r.1
      | none => v) v)))

/-- VCVT (R124, R125); within one format every bit is kept (R132). -/
def execVcvt (c : Nat) (err : VeErrors) (s : State) : Res :=
  s.startVe c 0x23 none err (fun q => s.lanes c q true (fun v i d =>
    let x := v.src1 q i
    if veSub q = veFmt q then (x, .zero) else convertBits (veFmt q) (veSub q) (veMode q d) (bit (veCtl q) 3) x))

/-- Whether rctl rounds down, for the sign of a zero sum (R113). -/
def veDown (q : Quad) : Bool := veCtl q % 8 == 3

def execVadd (c : Nat) (err : VeErrors) (s : State) : Res :=
  s.startVe c 0x30 none err (fun q => s.arith2 c q (FpNum.add (veDown q)))

def execVsub (c : Nat) (err : VeErrors) (s : State) : Res :=
  s.startVe c 0x31 none err (fun q => s.arith2 c q (fun x y => FpNum.add (veDown q) x y.neg))

def execVmul (c : Nat) (err : VeErrors) (s : State) : Res := s.startVe c 0x32 none err (fun q => s.arith2 c q FpNum.mul)

/-- VFMA: vs1 x vs2 + vs3 with one rounding (R197). -/
def execVfma (c : Nat) (err : VeErrors) (s : State) : Res :=
  s.startVe c 0x33 none err (fun q => s.lanes c q true (fun v i d =>
    veDeliver q d (FpNum.fma (veDown q) (decodeNum (veFmt q) (v.src1 q i)) (decodeNum (veFmt q) (v.src2 q i))
      (decodeNum (veFmt q) (v.elem (veFmt q) (veVs3 q) i)))))

def execVmin (c : Nat) (err : VeErrors) (s : State) : Res := s.startVe c 0x34 none err (fun q => s.select2 c q (minMax false))

def execVmax (c : Nat) (err : VeErrors) (s : State) : Res := s.startVe c 0x35 none err (fun q => s.select2 c q (minMax true))

def execVminnum (c : Nat) (err : VeErrors) (s : State) : Res :=
  s.startVe c 0x36 none err (fun q => s.select2 c q (minMaxNum false))

def execVmaxnum (c : Nat) (err : VeErrors) (s : State) : Res :=
  s.startVe c 0x37 none err (fun q => s.select2 c q (minMaxNum true))

def execVabs (c : Nat) (err : VeErrors) (s : State) : Res :=
  s.startVe c 0x38 none err (fun q => s.lanes c q false (fun v i _ => vePlain q (vabs (decodeNum (veFmt q) (v.src1 q i)), .zero)))

def execVneg (c : Nat) (err : VeErrors) (s : State) : Res :=
  s.startVe c 0x39 none err (fun q => s.lanes c q false (fun v i _ => vePlain q (vneg (decodeNum (veFmt q) (v.src1 q i)), .zero)))

def execVand (c : Nat) (err : VeErrors) (s : State) : Res :=
  s.startVe c 0x3A (some 0) err (fun q => s.bits2 c q (fun x y => x &&& y))

def execVor (c : Nat) (err : VeErrors) (s : State) : Res :=
  s.startVe c 0x3A (some 1) err (fun q => s.bits2 c q (fun x y => x ||| y))

def execVxor (c : Nat) (err : VeErrors) (s : State) : Res :=
  s.startVe c 0x3A (some 2) err (fun q => s.bits2 c q (fun x y => x ^^^ y))

def execVshl (c : Nat) (err : VeErrors) (s : State) : Res :=
  s.startVe c 0x3B (some 0) err (fun q => s.bits2 c q (shiftBits (fmtBits (veFmt q)) false))

def execVshr (c : Nat) (err : VeErrors) (s : State) : Res :=
  s.startVe c 0x3B (some 1) err (fun q => s.bits2 c q (shiftBits (fmtBits (veFmt q)) true))

def execVdiv (c : Nat) (err : VeErrors) (s : State) : Res := s.startVe c 0x3C none err (fun q => s.arith2 c q FpNum.div)

def execVsqrt (c : Nat) (err : VeErrors) (s : State) : Res :=
  s.startVe c 0x3D none err (fun q => s.lanes c q true (fun v i d => veDeliver q d (FpNum.sqrt (decodeNum (veFmt q) (v.src1 q i)))))

/-- A compare writes the active bits of its destination predicate (R194). -/
def State.comparePred (s : State) (c : Nat) (q : Quad) (f : Nat → Nat → Bool × Flags) : VePlan :=
  let v := (s.tcore c).ve
  ((List.range (veCount q)).map (fun i =>
      if v.active q i then (let r := f (v.src1 q i) (v.src2 q i); some (r.1.toNat, r.2)) else none),
    fun els t =>
      let fl := els.foldl (fun f o => match o with | some r => f.or r.2 | none => f) Flags.zero
      (t.onVe c (fun v => (List.range els.length).foldl (fun (v : VeState) i =>
        match (els[i]?).join with
        | some r => v.putPred (veVs3 q) i (r.1 == 1)
        | none => v) v)).veFlags c fl)

/-- VCMP (R115, R197). -/
def execVcmp (c : Nat) (err : VeErrors) (s : State) : Res :=
  s.startVe c 0x40 none err (fun q => s.comparePred c q (fun x y =>
    let p := vcmpPred (veSub q)
    compareNum p.1 p.2 (decodeNum (veFmt q) x) (decodeNum (veFmt q) y)))

/-- VTOTORD (R115, R197). -/
def execVtotord (c : Nat) (err : VeErrors) (s : State) : Res :=
  s.startVe c 0x41 none err (fun q => s.comparePred c q (fun x y => (vtot (veFmt q) x y, .zero)))

/-- VSEL chooses by the predicate, whatever pred_en says (R197). -/
def execVsel (c : Nat) (err : VeErrors) (s : State) : Res :=
  s.startVe c 0x42 none err (fun q =>
    let v := (s.tcore c).ve
    ((List.range (veCount q)).map (fun i =>
      some (if v.pred (vePsel q) i != vePredNeg q then v.src1 q i else v.src2 q i, Flags.zero)),
      fun els t => t.veWrite c q els))

/-- VTR (R131, R201). -/
def execVtr (c : Nat) (err : VeErrors) (s : State) : Res :=
  s.startVe c 0x50 none err (fun q => s.lanes c q false (fun v i _ => vtr (veSub q) (veFmt q) (v.src1 q i)))

/-- One group of a VSEG (R199): its active elements condensed, none where it has none. -/
def vsegGroup (q : Quad) (els : List (Option Nat)) : Option (Nat × Flags) :=
  let out := veOutFmt q
  let lg := veSub q / 4
  let mode := veMode q 0
  let present := els.filterMap id
  if present.isEmpty then none
  else
    let op := veSub q % 4
    if isFloat (veFmt q) then
      if op = 0 ∨ op = 3 then
        let leaf := fun (x : Nat) =>
          let w := deliver out .rne false false (decodeNum (veFmt q) x)
          if op = 3 then
            let m := FpNum.mul (decodeNum out w.1) (decodeNum out w.1)
            let d := deliver out mode false false m.1
            (d.1, d.2.or m.2)
          else w
        let ls := els.map (fun o => o.map leaf)
        let fl := ls.foldl (fun f o => match o with | some d => f.or d.2 | none => f) Flags.zero
        let r := treeSum out mode lg (ls.map (fun o => o.map Prod.fst))
        some (r.1.getD 0, fl.or r.2)
      else
        let m := present.foldl (fun (a : Option FpNum × Flags) x =>
          let y := decodeNum (veFmt q) x
          match a.1 with
          | none => (some y, { a.2 with invalid := a.2.invalid || y.isSig })
          | some z => let r := minMax (op == 1) z y; (some r.1, a.2.or r.2)) (none, Flags.zero)
        let d := deliver out .rne false false (m.1.getD FpNum.qnan)
        some (d.1, d.2.or m.2)
    else
      let ints := present.map (signedOf (fmtBits (veFmt q)))
      let v : Int :=
        match op with
        | 0 => ints.foldl (fun a b => a + b) 0
        | 3 => ints.foldl (fun a b => a + b * b) 0
        | 1 => ints.foldl (fun a b => if a < b then b else a) (ints.headD 0)
        | _ => ints.foldl (fun a b => if b < a then b else a) (ints.headD 0)
      some (deliver out mode false false (.ofInt v))

/-- VSEG (R199): group j covers elements j g to j g + g - 1, the last cut short by n. -/
def execVseg (c : Nat) (err : VeErrors) (s : State) : Res :=
  s.startVe c 0x58 none err (fun q =>
    let v := (s.tcore c).ve
    let g := 2 ^ (veSub q / 4)
    let n := veCount q
    let el := fun i => if i < n ∧ v.active q i then some (v.src1 q i) else none
    ((List.range ((n + g - 1) / g)).map (fun j => vsegGroup q ((List.range g).map (fun k => el (j * g + k)))),
      fun els t => t.veWrite c q els))

/-- A VRECV with its elements at hand: one lane operation on each, and the stream goes on behind them (R197, R202). -/
def State.recvPlan (s : State) (c : Nat) (q : Quad) : VePlan :=
  let str := (s.tcore c).ve.stream
  let p := s.lanes c q true (fun v i d =>
    let x := (str.getD i (0, 0)).2
    let a := decodeNum (veFmt q) x
    let b := decodeNum (veFmt q) (v.src1 q i)
    match veSub q with
    | 0 => (x, .zero)
    | 1 => veDeliver q d (FpNum.add (veDown q) a b)
    | 2 => veDeliver q d (FpNum.mul a b)
    | _ => vePlain q (minMax true a b))
  (p.1, fun els t => (p.2 els t).onVe c (fun v => { v with stream := v.stream.drop (veCount q) }))

/-- VRECV (R202, R203): the next n drained elements, taken from the DRAIN that waits for it, with one lane operation;
halts with FORMAT where a drain's format differs, or waits for more of the stream. -/
def execVrecv (c : Nat) (err : VeErrors) (s : State) : Res :=
  match s.atHead c .ve 0x60 with
  | none => .next s
  | some q =>
    let n := veCount q
    let have_ := (s.tcore c).ve.stream
    let other := match (s.tcore c).me.toVe with
      | some d => decide (have_.length < n) && meFmt d.q != veFmt q
      | none => false
    if (have_.take n).any (fun e => e.1 != veFmt q) || other then .next (s.veHalt c 0x01)
    else
      let s1 := if have_.length < n then s.takeToVe c (n - have_.length) else s
      if (s1.tcore c).ve.stream.length < n then .next s1 else .next (s1.veRun c q err (s1.recvPlan c q))

/-- VRGET (R121, R209): element 0 takes the slot's value, elements 1 and 2 its index. An integer format for a slot of
floating-point elements is refused: the queue halts with FORMAT (log 79). -/
def execVrget (c : Nat) (err : VeErrors) (s : State) : Res :=
  match s.atHead c .ve 0x61 with
  | none => .next s
  | some q =>
    let v := (s.tcore c).ve
    let k := veRedSlot q
    let slot := v.slots.getD k .empty
    if !isFloat (veFmt q) && slot.nonempty && isFloat slot.fmt then .next (s.veHalt c 0x01)
    else
      let s0 := if slot.mixed then s.drawn else s
      let idx := slot.readIndex
      let withIndex := veCount q == 3 && (slot.op == 4 || slot.op == 5)
      let r := slot.read (veFmt q) (veCtl q) (if veCtl q % 8 = 4 then s.draw c 0 else 0) (Config.mixedSlot s.free)
      let plan : VePlan :=
        ([if v.active q 0 then some r else none], fun els t =>
          let fl := match els with | some x :: _ => x.2 | _ => Flags.zero
          let put := fun (v : VeState) =>
            let v1 := match els with | some x :: _ => v.putElem (veFmt q) (veVd q) 0 x.1 | _ => v
            let v2 := if withIndex && v.active q 1 then v1.putSlot (veVd q) 1 (idx % 2 ^ 32) else v1
            let v3 := if withIndex && v.active q 2 then v2.putSlot (veVd q) 2 (idx / 2 ^ 32) else v2
            if veSub q = 1 then v3 else { v3 with slots := updateAt v3.slots k RedSlot.emptied }
          ((t.onVe c put).veFlags c fl).advanceSr c (veCtl q) (v.activeList q).length)
      .next (s0.veRun c q err plan)

/-- A discarded VRECV takes the rest of the drained stream with it, and the drain that waits for it completes as one with
discard set (R212). -/
def State.dropStream (s : State) (c : Nat) (q : EngineQ) : State :=
  if q = .ve ∧ ((s.queueOf c q).any (fun i => qOp i == 0x60)) then
    let s1 := s.onVe c (fun v => { v with stream := [] })
    match (s.tcore c).me.toVe with
    | some d => s1.endToVe c d true
    | none => s1
  else s

/-- skip: the halted instruction is discarded and the queue resumes; no effect while it is not halted (R164, R212,
R285). -/
def execQueueSkip (fn : Fn) (c : Nat) (q : EngineQ) (s : State) : Res :=
  if !coreRights fn then .next (s.refuseWrite fn (ctlReg c q) true true)
  else whenever (decide (c < 512) && s.halted c q) ((s.popQueue c q).unhalt c q) s

/-- flush: the halted instruction and every queued one are discarded, a VRECV's untaken stream among them (R164,
R212). -/
def execQueueFlush (fn : Fn) (c : Nat) (q : EngineQ) (s : State) : Res :=
  if !coreRights fn then .next (s.refuseWrite fn (ctlReg c q) true true)
  else
    let s1 := s.dropStream c q
    let s2 :=
      match q with
      | .me => s1.onMe c (fun m => { m with queue := [] })
      | .ve => s1.onVe c (fun v => { v with queue := [] })
      | .fe => s1.onFe c (fun f => { f with queue := [] })
    whenever (decide (c < 512) && s.halted c q) (s2.unhalt c q) s

/-- MIRROR_MODE_APPLY: a change of mirror_en takes effect when the VE queue is empty (R185). -/
def execMirrorModeApply (c : Nat) (s : State) : Res :=
  whenever (decide (c < 512) && (s.tcore c).ve.queue.isEmpty)
    (s.fset (R.TC_VE_STATUS.mirror_active c) (s.fget (R.TC_PX_CTL.mirror_en c))) s

end Sys2Proof.Machine
end

