-- ==== Sys2Proof/Machine/Dispatch.lean ====
section
/-! DEFINITION. Which meaning each command has: one arm per constructor. -/
namespace Sys2Proof.Machine

/-- The effect of a command on everything but the queue. -/
def exec (i : Instr) (s : State) : Host.Outcome State Fault Refusal :=
  match i with
  | .d2dRetry a b => Sys2Proof.Machine.execD2dRetry a b s
  | .moduleRetired a b m => Sys2Proof.Machine.execModuleRetired a b m s
  | .linkLost a b => Sys2Proof.Machine.execLinkLost a b s
  | .moduleRetrainDone a b m => Sys2Proof.Machine.execModuleRetrainDone a b m s
  | .submit fn => Sys2Proof.Machine.execSubmit fn s
  | .validationDone => Sys2Proof.Machine.execValidationDone s
  | .withdraw fn p => Sys2Proof.Machine.execWithdraw fn p s
  | .restructureWaitExpiry p => Sys2Proof.Machine.execRestructureWaitExpiry p s
  | .applyComplete p => Sys2Proof.Machine.execApplyComplete p s
  | .channelZeroDone ch => Sys2Proof.Machine.execChannelZeroDone ch s
  | .imageLoaded => Sys2Proof.Machine.execImageLoaded s
  | .periodNextWrite fn period atTransit => Sys2Proof.Machine.execPeriodNextWrite fn period atTransit s
  | .candidate link hops prio phys number => Sys2Proof.Machine.execCandidate link hops prio phys number s
  | .electionQuietExpiry now => Sys2Proof.Machine.execElectionQuietExpiry now s
  | .master link hops phys ldn first => Sys2Proof.Machine.execMaster link hops phys ldn first s
  | .masterLostTimeout now => Sys2Proof.Machine.execMasterLostTimeout now s
  | .schedule now link hops n fire period origin delay => Sys2Proof.Machine.execSchedule now link hops n fire period origin delay s
  | .dark link hops n pairs last => Sys2Proof.Machine.execDark link hops n pairs last s
  | .syncTimer now => Sys2Proof.Machine.execSyncTimer now s
  | .sync now link hops origin delay => Sys2Proof.Machine.execSync now link hops origin delay s
  | .linkDelayMeasure port roundTrip => Sys2Proof.Machine.execLinkDelayMeasure port roundTrip s
  | .doneSend => Sys2Proof.Machine.execDoneSend s
  | .done now link hops n ldn => Sys2Proof.Machine.execDone now link hops n ldn s
  | .scheduleDecision now => Sys2Proof.Machine.execScheduleDecision now s
  | .stretchLimitExpiry now => Sys2Proof.Machine.execStretchLimitExpiry now s
  | .transitFire now => Sys2Proof.Machine.execTransitFire now s
  | .windowBoundary now p => Sys2Proof.Machine.execWindowBoundary now p s
  | .watchdogWarn now p => Sys2Proof.Machine.execWatchdogWarn now p s
  | .stepDoneWrite who p value => Sys2Proof.Machine.execStepDoneWrite who p value s
  | .windowWrite fn p sz value => Sys2Proof.Machine.execWindowWrite fn p sz value s
  | .droopDetect now die => Sys2Proof.Machine.execDroopDetect now die s
  | .droopStretchEnd now die => Sys2Proof.Machine.execDroopStretchEnd now die s
  | .overMargin p => Sys2Proof.Machine.execOverMargin p s
  | .qpushMe u fs1 => Sys2Proof.Machine.execQpushMe u fs1 s
  | .loads c => Sys2Proof.Machine.execLoads c s
  | .swap c => Sys2Proof.Machine.execSwap c s
  | .stream c errs => Sys2Proof.Machine.execStream c errs s
  | .drain c errs => Sys2Proof.Machine.execDrain c errs s
  | .mode c => Sys2Proof.Machine.execMode c s
  | .scale c => Sys2Proof.Machine.execScale c s
  | .waitb c q => Sys2Proof.Machine.execWaitb c q s
  | .fence c q => Sys2Proof.Machine.execFence c q s
  | .pxRunComplete c errs => Sys2Proof.Machine.execPxRunComplete c errs s
  | .pxCoreRetire c => Sys2Proof.Machine.execPxCoreRetire c s
  | .exceptionReturn u => Sys2Proof.Machine.execExceptionReturn u s
  | .pxHandlerTimeout c => Sys2Proof.Machine.execPxHandlerTimeout c s
  | .pxInject fn c col persist => Sys2Proof.Machine.execPxInject fn c col persist s
  | .queueSkip fn c q => Sys2Proof.Machine.execQueueSkip fn c q s
  | .queueFlush fn c q => Sys2Proof.Machine.execQueueFlush fn c q s
  | .qpushVe u fs1 => Sys2Proof.Machine.execQpushVe u fs1 s
  | .vld c err => Sys2Proof.Machine.execVld c err s
  | .vst c err => Sys2Proof.Machine.execVst c err s
  | .vmov c err => Sys2Proof.Machine.execVmov c err s
  | .vbcast c err => Sys2Proof.Machine.execVbcast c err s
  | .vcvt c err => Sys2Proof.Machine.execVcvt c err s
  | .vadd c err => Sys2Proof.Machine.execVadd c err s
  | .vsub c err => Sys2Proof.Machine.execVsub c err s
  | .vmul c err => Sys2Proof.Machine.execVmul c err s
  | .vfma c err => Sys2Proof.Machine.execVfma c err s
  | .vmin c err => Sys2Proof.Machine.execVmin c err s
  | .vmax c err => Sys2Proof.Machine.execVmax c err s
  | .vminnum c err => Sys2Proof.Machine.execVminnum c err s
  | .vmaxnum c err => Sys2Proof.Machine.execVmaxnum c err s
  | .vabs c err => Sys2Proof.Machine.execVabs c err s
  | .vneg c err => Sys2Proof.Machine.execVneg c err s
  | .vand c err => Sys2Proof.Machine.execVand c err s
  | .vor c err => Sys2Proof.Machine.execVor c err s
  | .vxor c err => Sys2Proof.Machine.execVxor c err s
  | .vshl c err => Sys2Proof.Machine.execVshl c err s
  | .vshr c err => Sys2Proof.Machine.execVshr c err s
  | .vdiv c err => Sys2Proof.Machine.execVdiv c err s
  | .vsqrt c err => Sys2Proof.Machine.execVsqrt c err s
  | .vcmp c err => Sys2Proof.Machine.execVcmp c err s
  | .vtotord c err => Sys2Proof.Machine.execVtotord c err s
  | .vsel c err => Sys2Proof.Machine.execVsel c err s
  | .vtr c err => Sys2Proof.Machine.execVtr c err s
  | .vseg c err => Sys2Proof.Machine.execVseg c err s
  | .vrecv c err => Sys2Proof.Machine.execVrecv c err s
  | .vrget c err => Sys2Proof.Machine.execVrget c err s
  | .mirrorModeApply c => Sys2Proof.Machine.execMirrorModeApply c s
  | .qpushFe u fs1 => Sys2Proof.Machine.execQpushFe u fs1 s
  | .qsync u mask => Sys2Proof.Machine.execQsync u mask s
  | .qdepth u xd func => Sys2Proof.Machine.execQdepth u xd func s
  | .srget u xd func => Sys2Proof.Machine.execSrget u xd func s
  | .srput u xs func => Sys2Proof.Machine.execSrput u xs func s
  | .xclr u => Sys2Proof.Machine.execXclr u s
  | .xdot u fs1 fs2 => Sys2Proof.Machine.execXdot u fs1 fs2 s
  | .xadd u fs1 => Sys2Proof.Machine.execXadd u fs1 s
  | .xrnd u fd func => Sys2Proof.Machine.execXrnd u fd func s
  | .xsave u fs1 => Sys2Proof.Machine.execXsave u fs1 s
  | .xload u fs1 => Sys2Proof.Machine.execXload u fs1 s
  | .vectorLoad u word => Sys2Proof.Machine.execVectorLoad u word s
  | .vectorStore u word => Sys2Proof.Machine.execVectorStore u word s
  | .vlff u word => Sys2Proof.Machine.execVlff u word s
  | .vectorArith u op word => Sys2Proof.Machine.execVectorArith u op word s
  | .wideningMultiply u word => Sys2Proof.Machine.execWideningMultiply u word s
  | .dotProduct u word => Sys2Proof.Machine.execDotProduct u word s
  | .scalarFpOp u op fmt fd fs1 fs2 => Sys2Proof.Machine.execScalarFpOp u op fmt fd fs1 fs2 s
  | .integerOp u op xd xs1 xs2 imm => Sys2Proof.Machine.execIntegerOp u op xd xs1 xs2 imm s
  | .scalarLoad u xd xs1 imm size signed => Sys2Proof.Machine.execScalarLoad u xd xs1 imm size signed s
  | .scalarStore u xs1 xs2 imm size => Sys2Proof.Machine.execScalarStore u xs1 xs2 imm size s
  | .loadDataReturn u k => Sys2Proof.Machine.execLoadDataReturn u k s
  | .jumbeFence u => Sys2Proof.Machine.execJumbeFence u s
  | .fpsrWrite u value => Sys2Proof.Machine.execFpsrWrite u value s
  | .trapElemWrite u value => Sys2Proof.Machine.execTrapElemWrite u value s
  | .exceptionTake u => Sys2Proof.Machine.execExceptionTake u s
  | .assemble slot => Sys2Proof.Machine.execAssemble slot s
  | .assembleDone slot => Sys2Proof.Machine.execAssembleDone slot s
  | .solve slot => Sys2Proof.Machine.execSolve slot s
  | .solveStart now slot se => Sys2Proof.Machine.execSolveStart now slot se s
  | .solveIteration now se => Sys2Proof.Machine.execSolveIteration now se s
  | .solveDeadlineCheck now se => Sys2Proof.Machine.execSolveDeadlineCheck now se s
  | .callbackTimeout now se => Sys2Proof.Machine.execCallbackTimeout now se s
  | .solveReduction se far => Sys2Proof.Machine.execSolveReduction se far s
  | .solveReturnDone now se first second tookNs => Sys2Proof.Machine.execSolveReturnDone now se first second tookNs s
  | .solveAbort fn se => Sys2Proof.Machine.execSolveAbort fn se s
  | .meshScratchpadAccess c off who a b => Sys2Proof.Machine.execMeshScratchpadAccess c off who a b s
  | .move who => Sys2Proof.Machine.execMove who s
  | .gather who => Sys2Proof.Machine.execGather who s
  | .scatter who => Sys2Proof.Machine.execScatter who s
  | .feElementResponse who e r => Sys2Proof.Machine.execFeElementResponse who e r s
  | .feComplete who => Sys2Proof.Machine.execFeComplete who s
  | .sramPoison pa bits => Sys2Proof.Machine.execSramPoison pa bits s
  | .compatWrite fn c v => Sys2Proof.Machine.execCompatWrite fn c v s
  | .compatZeroDone c => Sys2Proof.Machine.execCompatZeroDone c s
  | .directoryTransaction line r => Sys2Proof.Machine.execDirectoryTransaction line r s
  | .wcbIdleDrain m line => Sys2Proof.Machine.execWcbIdleDrain m line s
  | .llmWriteback fn slice => Sys2Proof.Machine.execLlmWriteback fn slice s
  | .llmWritebackDone slice => Sys2Proof.Machine.execLlmWritebackDone slice s
  | .llmPoison pa bits => Sys2Proof.Machine.execLlmPoison pa bits s
  | .gddr7Access ch => Sys2Proof.Machine.execGddr7Access ch s
  | .channelTrainDone ch fit => Sys2Proof.Machine.execChannelTrainDone ch fit s
  | .crcError now ch => Sys2Proof.Machine.execCrcError now ch s
  | .retrainCmd fn ch => Sys2Proof.Machine.execRetrainCmd fn ch s
  | .channelRetrainDone now ch ok => Sys2Proof.Machine.execChannelRetrainDone now ch ok s
  | .gddr7Poison ch addr bits => Sys2Proof.Machine.execGddr7Poison ch addr bits s
  | .mapEnableWrite fn r value => Sys2Proof.Machine.execMapEnableWrite fn r value s
  | .tempPoll now m temp devHot => Sys2Proof.Machine.execTempPoll now m temp devHot s
  | .hotExit now m => Sys2Proof.Machine.execHotExit now m s
  | .rackLoad req => Sys2Proof.Machine.execRackLoad req s
  | .rackStore req data => Sys2Proof.Machine.execRackStore req data s
  | .epochWrite req data => Sys2Proof.Machine.execEpochWrite req data s
  | .epochRead req => Sys2Proof.Machine.execEpochRead req s
  | .add req op operand compare => Sys2Proof.Machine.execAdd req op operand compare s
  | .fadd32 req op operand compare => Sys2Proof.Machine.execFadd32 req op operand compare s
  | .fadd64 req op operand compare => Sys2Proof.Machine.execFadd64 req op operand compare s
  | .and req op operand compare => Sys2Proof.Machine.execAnd req op operand compare s
  | .or req op operand compare => Sys2Proof.Machine.execOr req op operand compare s
  | .xor req op operand compare => Sys2Proof.Machine.execXor req op operand compare s
  | .swapAtomic req op operand compare => Sys2Proof.Machine.execSwapAtomic req op operand compare s
  | .cas req op operand compare => Sys2Proof.Machine.execCas req op operand compare s
  | .max req op operand compare => Sys2Proof.Machine.execMax req op operand compare s
  | .min req op operand compare => Sys2Proof.Machine.execMin req op operand compare s
  | .maxUnsigned req op operand compare => Sys2Proof.Machine.execMaxUnsigned req op operand compare s
  | .minUnsigned req op operand compare => Sys2Proof.Machine.execMinUnsigned req op operand compare s
  | .fmax req op operand compare => Sys2Proof.Machine.execFmax req op operand compare s
  | .fmin req op operand compare => Sys2Proof.Machine.execFmin req op operand compare s
  | .atomicPortIssue u compare => Sys2Proof.Machine.execAtomicPortIssue u compare s
  | .atomicPortResult u xd => Sys2Proof.Machine.execAtomicPortResult u xd s
  | .rackResponse id status data transit => Sys2Proof.Machine.execRackResponse id status data transit s
  | .requestTimerExpiry id => Sys2Proof.Machine.execRequestTimerExpiry id s
  | .livenessQuery src id m d now => Sys2Proof.Machine.execLivenessQuery src id m d now s
  | .livenessAnswer id alive => Sys2Proof.Machine.execLivenessAnswer id alive s
  | .livenessNoAnswer id => Sys2Proof.Machine.execLivenessNoAnswer id s
  | .requestTotalTimeout id => Sys2Proof.Machine.execRequestTotalTimeout id s
  | .regionEnableWrite fn d value => Sys2Proof.Machine.execRegionEnableWrite fn d value s
  | .keyCommit fn cancel => Sys2Proof.Machine.execKeyCommit fn cancel s
  | .keyCancel fn => Sys2Proof.Machine.execKeyCancel fn s
  | .rmmTwilightEnter fn => Sys2Proof.Machine.execRmmTwilightEnter fn s
  | .oktStore fn value => Sys2Proof.Machine.execOktStore fn value s
  | .laserLoss f => Sys2Proof.Machine.execLaserLoss f s
  | .wavelengthLoss port lam => Sys2Proof.Machine.execWavelengthLoss port lam s
  | .portEnableWrite fn port enable => Sys2Proof.Machine.execPortEnableWrite fn port enable s
  | .pollSample port lit => Sys2Proof.Machine.execPollSample port lit s
  | .trainDone port lambdas => Sys2Proof.Machine.execTrainDone port lambdas s
  | .negotiate port lam peer => Sys2Proof.Machine.execNegotiate port lam peer s
  | .authDone port lam pass => Sys2Proof.Machine.execAuthDone port lam pass s
  | .dataFlit now port lam flit => Sys2Proof.Machine.execDataFlit now port lam flit s
  | .ackFlit now port lam flit => Sys2Proof.Machine.execAckFlit now port lam flit s
  | .idleFlit now port lam flit => Sys2Proof.Machine.execIdleFlit now port lam flit s
  | .flitTransmit port lam => Sys2Proof.Machine.execFlitTransmit port lam s
  | .ackDue port lam => Sys2Proof.Machine.execAckDue port lam s
  | .replayTimer now port lam => Sys2Proof.Machine.execReplayTimer now port lam s
  | .linkRetrainDone now port lam => Sys2Proof.Machine.execLinkRetrainDone now port lam s
  | .linkRetrainFail now port lam => Sys2Proof.Machine.execLinkRetrainFail now port lam s
  | .portRetrain fn port => Sys2Proof.Machine.execPortRetrain fn port s
  | .portRelease fn port => Sys2Proof.Machine.execPortRelease fn port s
  | .portQuarantine fn port => Sys2Proof.Machine.execPortQuarantine fn port s
  | .keyUpdate port lam => Sys2Proof.Machine.execKeyUpdate port lam s
  | .routeStore fn value => Sys2Proof.Machine.execRouteStore fn value s
  | .routeCommit fn cancel => Sys2Proof.Machine.execRouteCommit fn cancel s
  | .routeCancel fn => Sys2Proof.Machine.execRouteCancel fn s
  | .ldnCommit fn ldnNext cancel => Sys2Proof.Machine.execLdnCommit fn ldnNext cancel s
  | .ldnCancel fn => Sys2Proof.Machine.execLdnCancel fn s
  | .colCommit fn cancel => Sys2Proof.Machine.execColCommit fn cancel s
  | .colCancel fn => Sys2Proof.Machine.execColCancel fn s
  | .colData now src hdr payload => Sys2Proof.Machine.execColData now src hdr payload s
  | .delivered cst epoch seq msg src => Sys2Proof.Machine.execDelivered cst epoch seq msg src s
  | .parkFull cst epoch seq msg src => Sys2Proof.Machine.execParkFull cst epoch seq msg src s
  | .parkFree cluster src => Sys2Proof.Machine.execParkFree cluster src s
  | .resend cst epoch seq msg src => Sys2Proof.Machine.execResend cst epoch seq msg src s
  | .abort reason pairs => Sys2Proof.Machine.execAbort reason pairs s
  | .lost ldn t => Sys2Proof.Machine.execLost ldn t s
  | .post cluster idx entry => Sys2Proof.Machine.execPost cluster idx entry s
  | .sendSlotArm cluster idx slot => Sys2Proof.Machine.execSendSlotArm cluster idx slot s
  | .sendWindowWrite cluster idx off data => Sys2Proof.Machine.execSendWindowWrite cluster idx off data s
  | .parkRetryTimer cluster k => Sys2Proof.Machine.execParkRetryTimer cluster k s
  | .crossTimeout cluster idx => Sys2Proof.Machine.execCrossTimeout cluster idx s
  | .colDarkDeclare fn ldn => Sys2Proof.Machine.execColDarkDeclare fn ldn s
  | .beaconRead w b => Sys2Proof.Machine.execBeaconRead w b s
  | .beaconAdd w b operand => Sys2Proof.Machine.execBeaconAdd w b operand s
  | .beaconSet w b operand => Sys2Proof.Machine.execBeaconSet w b operand s
  | .beaconCas w b operand compare => Sys2Proof.Machine.execBeaconCas w b operand compare s
  | .beaconWait w b threshold => Sys2Proof.Machine.execBeaconWait w b threshold s
  | .beaconArm w b operand => Sys2Proof.Machine.execBeaconArm w b operand s
  | .beaconAcquire w b prio => Sys2Proof.Machine.execBeaconAcquire w b prio s
  | .beaconRelease w b => Sys2Proof.Machine.execBeaconRelease w b s
  | .beaconReprioritise w b prio => Sys2Proof.Machine.execBeaconReprioritise w b prio s
  | .beaconConfigWrite fn value => Sys2Proof.Machine.execBeaconConfigWrite fn value s
  | .beaconValueWrite fn value => Sys2Proof.Machine.execBeaconValueWrite fn value s
  | .orphanLdn fn ldn => Sys2Proof.Machine.execOrphanLdn fn ldn s
  | .orphanScanVisit => Sys2Proof.Machine.execOrphanScanVisit s
  | .waitTimeout k => Sys2Proof.Machine.execWaitTimeout k s
  | .sqDoorbell v r tail => Sys2Proof.Machine.execSqDoorbell v r tail s
  | .cqHeadWrite v r head => Sys2Proof.Machine.execCqHeadWrite v r head s
  | .descriptorFetch r host => Sys2Proof.Machine.execDescriptorFetch r host s
  | .nop slot => Sys2Proof.Machine.execNop slot s
  | .matmul slot tile errs core => Sys2Proof.Machine.execMatmul slot tile errs core s
  | .collective slot status progress witness => Sys2Proof.Machine.execCollective slot status progress witness s
  | .atomic slot => Sys2Proof.Machine.execAtomic slot s
  | .beacon slot => Sys2Proof.Machine.execBeacon slot s
  | .probe slot => Sys2Proof.Machine.execProbe slot s
  | .completionRecordWrite slot refused => Sys2Proof.Machine.execCompletionRecordWrite slot refused s
  | .ringEnableWrite fn r value => Sys2Proof.Machine.execRingEnableWrite fn r value s
  | .flr fn => Sys2Proof.Machine.execFlr fn s
  | .configRequest fn numVfs => Sys2Proof.Machine.execConfigRequest fn numVfs s
  | .linkDowntrain width gt => Sys2Proof.Machine.execLinkDowntrain width gt s
  | .dmaRefused r slot what => Sys2Proof.Machine.execDmaRefused r slot what s
  | .msixUnmask fn vector => Sys2Proof.Machine.execMsixUnmask fn vector s
  | .coldReset => Sys2Proof.Machine.execColdReset s
  | .perstAssert now => Sys2Proof.Machine.execPerstAssert now s
  | .perstRelease now rack slot => Sys2Proof.Machine.execPerstRelease now rack slot s
  | .railFail rail => Sys2Proof.Machine.execRailFail rail s
  | .railRestoreRestart now => Sys2Proof.Machine.execRailRestoreRestart now s
  | .internalResetRelease now => Sys2Proof.Machine.execInternalResetRelease now s
  | .bootWatchdog => Sys2Proof.Machine.execBootWatchdog s
  | .firmwareStarted => Sys2Proof.Machine.execFirmwareStarted s
  | .fusesApplied => Sys2Proof.Machine.execFusesApplied s
  | .selfTestDone failed => Sys2Proof.Machine.execSelfTestDone failed s
  | .computeReady => Sys2Proof.Machine.execComputeReady s
  | .pldmFwUpdate component => Sys2Proof.Machine.execPldmFwUpdate component s
  | .fwStagingDone image => Sys2Proof.Machine.execFwStagingDone image s
  | .programSlot slot key signedOk i3c complete => Sys2Proof.Machine.execProgramSlot slot key signedOk i3c complete s
  | .revokeSlot slot signedOk => Sys2Proof.Machine.execRevokeSlot slot signedOk s
  | .raiseFwMin v signedOk => Sys2Proof.Machine.execRaiseFwMin v signedOk s
  | .raiseImageMin v signedOk => Sys2Proof.Machine.execRaiseImageMin v signedOk s
  | .packageReset signedOk => Sys2Proof.Machine.execPackageReset signedOk s
  | .twilightEnter signedOk => Sys2Proof.Machine.execTwilightEnter signedOk s
  | .mctpControl cmd eid => Sys2Proof.Machine.execMctpControl cmd eid s
  | .spdmRequest code => Sys2Proof.Machine.execSpdmRequest code s
  | .pldmGetSensor sensor => Sys2Proof.Machine.execPldmGetSensor sensor s
  | .logTake now => Sys2Proof.Machine.execLogTake now s
  | .errConsWrite fn cons => Sys2Proof.Machine.execErrConsWrite fn cons s
  | .recoveryStart => Sys2Proof.Machine.execRecoveryStart s
  | .recoveryComplete idx failed => Sys2Proof.Machine.execRecoveryComplete idx failed s
  | .mntRequest fn activity domain => Sys2Proof.Machine.execMntRequest fn activity domain s
  | .mntAbort fn idx => Sys2Proof.Machine.execMntAbort fn idx s
  | .mntActivityDone idx => Sys2Proof.Machine.execMntActivityDone idx s
  | .almArm fn cancel drivesOk => Sys2Proof.Machine.execAlmArm fn cancel drivesOk s
  | .almCancel fn => Sys2Proof.Machine.execAlmCancel fn s
  | .quiesceDone => Sys2Proof.Machine.execQuiesceDone s
  | .quiesceTimeout => Sys2Proof.Machine.execQuiesceTimeout s
  | .almanacIoDone buddy ok => Sys2Proof.Machine.execAlmanacIoDone buddy ok s
  | .mirrorMessage src slot shard off data crcOk => Sys2Proof.Machine.execMirrorMessage src slot shard off data crcOk s
  | .buddyCommit src transit slot => Sys2Proof.Machine.execBuddyCommit src transit slot s
  | .almRestore fn manifest signed before refused => Sys2Proof.Machine.execAlmRestore fn manifest signed before refused s
  | .restoreDone data => Sys2Proof.Machine.execRestoreDone data s
  | .sensorSweep now samples => Sys2Proof.Machine.execSensorSweep now samples s
  | .throttleExit die => Sys2Proof.Machine.execThrottleExit die s
  | .nightEnter fn wakeAtEn => Sys2Proof.Machine.execNightEnter fn wakeAtEn s
  | .nightEntryDone => Sys2Proof.Machine.execNightEntryDone s
  | .wakeN ns => Sys2Proof.Machine.execWakeN ns s
  | .hostMessageWake => Sys2Proof.Machine.execHostMessageWake s
  | .lightWake port => Sys2Proof.Machine.execLightWake port s
  | .scheduledWake now => Sys2Proof.Machine.execScheduledWake now s
  | .wakeDone => Sys2Proof.Machine.execWakeDone s
  | .eclipseN ns => Sys2Proof.Machine.execEclipseN ns s
  | .eclipseTrigger fn => Sys2Proof.Machine.execEclipseTrigger fn s
  | .selfRefreshDone => Sys2Proof.Machine.execSelfRefreshDone s
  | .readoutDone ok => Sys2Proof.Machine.execReadoutDone ok s
  | .refclkLoss c => Sys2Proof.Machine.execRefclkLoss c s
  | .avsAck rail => Sys2Proof.Machine.execAvsAck rail s
  | .avsAckTimeout rail => Sys2Proof.Machine.execAvsAckTimeout rail s
  | .registerWrite fn off size value => Sys2Proof.Machine.execRegisterWrite fn off size value s
  | .mgmtWrite off size value => Sys2Proof.Machine.execMgmtWrite off size value s
  | .portLightLoss port => Sys2Proof.Machine.execPortLightLoss port s
  | .laserReturn f => Sys2Proof.Machine.execLaserReturn f s
  | .refclkRestore c => Sys2Proof.Machine.execRefclkRestore c s
  | .vddAonLoss => Sys2Proof.Machine.execVddAonLoss s
  | .uncorrectableFlit port lam => Sys2Proof.Machine.execUncorrectableFlit port lam s
  | .putGetMessage m => Sys2Proof.Machine.execPutGetMessage m s
  | .electionAcknowledgement phys number => Sys2Proof.Machine.execElectionAcknowledgement phys number s
  | .refresh ch => Sys2Proof.Machine.execRefresh ch s
  | .remoteSourceRead src buddyArea slot shard => Sys2Proof.Machine.execRemoteSourceRead src buddyArea slot shard s

end Sys2Proof.Machine
end

