-- ==== Sys2Proof/Machine/Read.lean ====
section
/-! DEFINITION. What a read of PF BAR0 returns (R549, R550): the stored word, with the fields that only show other
state computed from that state. No command of the table is a read, and a read changes nothing (R549). -/
namespace Sys2Proof.Machine

/-- Which element of an array of registers an offset names. -/
def indexOf (off base n stride : Nat) : Option Nat := if inArray off base n stride then some ((off - base) / stride) else none

/-- Fields of TC_ME_STATUS that show the engine (R166). -/
def State.meStatusWord (s : State) (c : Nat) : Word :=
  let m := (s.tcore c).me
  let w := s.reg (A.TC_ME_STATUS c)
  let put := fun (f : Fld) (v : Nat) (w : Word) => setField w f.lo f.width v
  put (R.TC_ME_STATUS.busy c) (!m.queue.isEmpty || m.px.isSome || m.toVe.isSome).toNat
    (put (R.TC_ME_STATUS.shadow_valid c) m.shadow.valid.toNat
      (put (R.TC_ME_STATUS.active_valid c) m.active.valid.toNat
        (put (R.TC_ME_STATUS.af_nonempty c) (m.entries.any (fun e => e.2.nonempty)).toNat
          (put (R.TC_ME_STATUS.wide_tile c) (m.tileWide == some true).toNat
            (put (R.TC_ME_STATUS.queue_depth c) m.queue.length w)))))

/-- Fields of TC_VE_STATUS that show the engine (R211). -/
def State.veStatusWord (s : State) (c : Nat) : Word :=
  let v := (s.tcore c).ve
  let w := s.reg (A.TC_VE_STATUS c)
  let put := fun (f : Fld) (x : Nat) (w : Word) => setField w f.lo f.width x
  let waits := match v.queue with
    | q :: _ => qOp q == 0x60 && !v.stopped && fld w.toNat 1 1 == 0 && decide (v.stream.length < veCount q) && (s.tcore c).me.toVe.isNone
    | [] => false
  put (R.TC_VE_STATUS.busy c) (!v.queue.isEmpty).toNat (put (R.TC_VE_STATUS.recv_wait c) waits.toNat
    (put (R.TC_VE_STATUS.slot_nonempty c) (maskOf ((List.range 4).filter (fun i => match v.slots[i]? with | some x => x.nonempty | none => false)))
      (put (R.TC_VE_STATUS.queue_depth c) v.queue.length w)))

/-- Fields of TC_FE_STATUS that show the engine (R288). -/
def State.feStatusWord (s : State) (c : Nat) : Word :=
  let f := (s.tcore c).fe
  let w := s.reg (A.TC_FE_STATUS c)
  let put := fun (g : Fld) (x : Nat) (w : Word) => setField w g.lo g.width x
  put (R.TC_FE_STATUS.busy c) (!f.queue.isEmpty || f.xfer.isSome).toNat
    (put (R.TC_FE_STATUS.in_flight c) (match f.xfer with | some x => x.inFlight.length | none => 0)
      (put (R.TC_FE_STATUS.queue_depth c) f.queue.length w))

/-- RMM_HOME_STATUS (R349): a request is served within its command, so the request table holds none. -/
def State.homeStatusWord (s : State) (m : Nat) : Word :=
  let pub := fun (e : EpochEntry) => decide (e.tag < s.homeT m)
  let put := fun (g : Fld) (x : Nat) (w : Word) => setField w g.lo g.width x
  put (R.RMM_HOME_STATUS.ewt_unpublished m) ((s.ewtOf m).filter (fun e => !pub e)).length
    (put (R.RMM_HOME_STATUS.ewt_published m) ((s.ewtOf m).filter pub).length (s.reg (A.RMM_HOME_STATUS m)))

/-- COL_CST_STATUS (R424): posts and parked messages of constellation `i`. -/
def State.cstStatusWord (s : State) (i : Nat) : Word :=
  let put := fun (g : Fld) (x : Nat) (w : Word) => setField w g.lo g.width x
  put (R.COL_CST_STATUS.posted i) (s.openPosts (fun _ p => pCst p == i)).length
    (put (R.COL_CST_STATUS.parked i) (s.parked.filter (fun (x : Parked) => x.cst == i)).length (s.reg (A.COL_CST_STATUS i)))

/-- BCN_CFG, BCN_VALUE and BCN_AUX of the beacon that BCN_SEL selects (R445). -/
def State.beaconCfgWord (s : State) : Word :=
  let b := s.beacon (s.fget R.BCN_SEL.beacon)
  let put := fun (g : Fld) (x : Nat) (w : Word) => setField w g.lo g.width x
  put R.BCN_CFG.mode b.mode (put R.BCN_CFG.assigned b.assigned.toNat (put R.BCN_CFG.partition b.partition
    (put R.BCN_CFG.one_tenant b.oneTenant.toNat (put R.BCN_CFG.tenant b.tenant (put R.BCN_CFG.vector b.vector
      (put R.BCN_CFG.armed b.armed.toNat (s.reg A.BCN_CFG)))))))

def State.beaconAuxWord (s : State) : Word :=
  let k := s.fget R.BCN_SEL.beacon
  let put := fun (g : Fld) (x : Nat) (w : Word) => setField w g.lo g.width x
  put R.BCN_AUX.target (s.beacon k).target
    (put R.BCN_AUX.waiters (s.waiters.filter (fun (x : Waiter) => x.tabled && x.beacon == k)).length (s.reg A.BCN_AUX))

/-- BCN_STATUS (R445). -/
def State.beaconStatusWord (s : State) : Word :=
  let put := fun (g : Fld) (x : Nat) (w : Word) => setField w g.lo g.width x
  put R.BCN_STATUS.table_used s.tableUsed (put R.BCN_STATUS.scan_busy s.scan.isSome.toNat (s.reg A.BCN_STATUS))

/-- QRG_STATUS (R445) and QRG_RING_STATUS (R446): operations in flight. -/
def State.ringsWord (s : State) : Word :=
  let put := fun (g : Fld) (x : Nat) (w : Word) => setField w g.lo g.width x
  put R.QRG_STATUS.in_flight s.opSlots.length (put R.QRG_STATUS.pool_used s.poolUsed (s.reg A.QRG_STATUS))

def State.ringWord (s : State) (r : Nat) : Word :=
  setField (s.reg (A.QRG_RING_STATUS r)) (R.QRG_RING_STATUS.in_flight r).lo (R.QRG_RING_STATUS.in_flight r).width
    (s.opsWhere (fun o => o.ring == r)).length

/-- Occupied entries of an M-die's write-combining buffer (R297). -/
def State.llmStatusWord (s : State) (m : Nat) : Word :=
  setField (s.reg (A.LLM_STATUS m)) (R.LLM_STATUS.wcb_used m).lo (R.LLM_STATUS.wcb_used m).width (s.wcbOf m).length

/-- The word a read of the register at an offset of PF BAR0 returns; an offset that no chapter defines reads 0
(R549). -/
def State.readReg (s : State) (off : Nat) : Word :=
  if (regFields off).isNone then 0
  else if off = A.BCN_CFG then s.beaconCfgWord
  else if off = A.BCN_VALUE then (s.beacon (s.fget R.BCN_SEL.beacon)).value
  else if off = A.BCN_AUX then s.beaconAuxWord
  else if off = A.BCN_STATUS then s.beaconStatusWord
  else if off = A.QRG_STATUS then s.ringsWord
  else
    match indexOf off (A.TC_ME_STATUS 0) 512 0x4000, indexOf off (A.TC_VE_STATUS 0) 512 0x4000, indexOf off (A.TC_FE_STATUS 0) 512 0x4000,
      indexOf off (A.RMM_HOME_STATUS 0) 8 0x10, indexOf off (A.COL_CST_STATUS 0) 1024 0x20, indexOf off (A.LLM_STATUS 0) 8 0x1000,
      indexOf off (A.QRG_RING_STATUS 0) 262144 0x40 with
    | some c, _, _, _, _, _, _ => s.meStatusWord c
    | _, some c, _, _, _, _, _ => s.veStatusWord c
    | _, _, some c, _, _, _, _ => s.feStatusWord c
    | _, _, _, some m, _, _, _ => s.homeStatusWord m
    | _, _, _, _, some i, _, _ => s.cstStatusWord i
    | _, _, _, _, _, some m, _ => s.llmStatusWord m
    | _, _, _, _, _, _, some r => s.ringWord r
    | none, none, none, none, none, none, none => s.reg off

/-- What a function reads at an offset of its BAR0, and a management message as PF0 (R451, R581): keys read as zero but
from PF0 and PF2, and in recovery only the GLB block is there (R469, R556). -/
def State.readPf (s : State) (fn : Fn) (off : Nat) : Word :=
  if s.boot.stage = .recovery ∧ !inBlock off 0 0x10000 then 0
  else if (isRgnKey off || off == A.RMM_OKT_DATA0 || off == A.RMM_OKT_DATA1) && !fabricRights fn then 0
  else s.readReg off

/-- VF_INFO of a VF (R453, R454). -/
def State.vfInfo (s : State) (v : Nat) : Word :=
  let p := s.tenantPart v
  BitVec.ofNat 64 (v % 4096 + p.getD 0 * 2 ^ 12 + p.isSome.toNat * 2 ^ 16 + s.twilight.toNat * 2 ^ 17 +
    (match p with | some p => (s.fon (R.PRT_STATUS.held p)).toNat | none => 0) * 2 ^ 18)

/-- VF_PART of a VF: what its partition has in service. -/
def State.vfPart (s : State) (v : Nat) : Word :=
  match s.tenantPart v with
  | none => 0
  | some p => BitVec.ofNat 64 (s.fget (R.PRT_RES.t_cores p) + s.fget (R.PRT_RES.width p) * 2 ^ 10 + s.fget (R.PRT_RES.ses p) * 2 ^ 17 +
      s.fget (R.PRT_RES.channels p) * 2 ^ 22)

/-- The word a read of VF BAR0 returns (R453): the VF's own rings, its doorbells, and what it may know of its
partition; anything else reads 0. -/
def State.readVf (s : State) (v off : Nat) : Word :=
  if v < s.numVfs then
    if off < 0x1000 then s.readReg (A.QRG_RING_CFG (64 * v + off / 0x40) + off % 0x40)
    else
      match indexOf off 0x4000 64 8, indexOf off 0x4200 64 8 with
      | some r, _ => BitVec.ofNat 64 (s.sqTail (64 * v + r))
      | _, some r => BitVec.ofNat 64 (s.cqHead (64 * v + r))
      | none, none =>
        if off = 0x8000 then s.vfInfo v
        else if off = 0x8008 then s.vfPart v
        else if off = 0x8010 then s.reg A.TRN_NUMBER
        else if off = 0x8018 then BitVec.ofNat 64 (maskOf ((List.range 64).filter (fun r => s.fon (R.QRG_RING_STATUS.err (64 * v + r)))))
        else if off = 0x8020 then (match s.tenantPart v with | some p => s.reg (A.TRN_PART_STEP p) | none => 0)
        else 0
  else 0

end Sys2Proof.Machine
end

