-- ==== Sys2Proof/Safety.lean ====
section
/-! DEFINITION. What holds of every state a run goes through, and what every command keeps. -/
namespace Sys2Proof.Machine

/-- Sequencer slots of the running recoveries: each below 4, no two alike (R495). -/
def slotsOk (l : List Recovery) : Prop := (l.map Recovery.slot).Nodup ∧ ∀ r ∈ l, r.slot < 4

/-- The bounds and canonical forms that every step keeps: memory and registers in their canonical form, at most 64
reports and 8 fatal ones on their way to the log (R489), at most 65,536 waits and acquires in the waiter table (R432),
at most 256 tombstones (R417), at most four recoveries running in slots of their own and 32 waiting (R495). -/
def Inv (s : State) : Prop :=
  Memory.wf s.mem = true ∧ assocWf resetReg s.regs = true ∧ s.reports.length ≤ 64 ∧ s.fatals.length ≤ 8 ∧
    s.tableUsed ≤ 65536 ∧ s.tombs.length ≤ 256 ∧ slotsOk s.recs ∧ s.recq.length ≤ 32

/-- What a command keeps from state `s` to state `t`: the queue is untouched, package time does not go back, what has
left the package stays as it left, the security minimums of OTP do not fall (R55, R479), and `Inv` goes on holding. -/
def Keeps (s t : State) : Prop :=
  t.pending = s.pending ∧ s.clock ≤ t.clock ∧ s.out <:+ t.out ∧ s.nv.fwMin ≤ t.nv.fwMin ∧ s.nv.imageMin ≤ t.nv.imageMin ∧
    (Inv s → Inv t)

end Sys2Proof.Machine
end

