-- ==== Sys2Proof/Certificates/Slice0/Obligations.lean ====
section
/-! DEFINITION. The statements about the package that the provers are asked for. -/
open Sys2Proof Sys2Proof.Machine

/-- The command at the front of the queue runs on the state whose queue is the rest; on an empty queue the block idles
(the idle step is the model's own choice: log 2). -/
def Obligations.StepRunsFront : Prop :=
  (∀ (c : Instr) (l : List Instr) (s : State), step { s with pending := c :: l } = exec c { s with pending := l }) ∧
    (∀ s : State, s.pending = [] → step s = .next s)

/-- The state after reset: the invariant holds, every register reads its reset value, nothing is in memory, and the
package is held in reset. That memory reads 0 is the model's choice (log 4). -/
def Obligations.ResetMeetsInv : Prop :=
  Inv State.reset ∧ State.reset.pending = [] ∧ (∀ off, State.reset.reg off = resetReg off) ∧
    (∀ a, State.reset.byte a = 0) ∧ State.reset.boot.stage = .inReset

/-- Every step, of whatever command in whatever state, keeps the invariant. -/
def Obligations.StepKeepsInv : Prop := ∀ s t : State, Inv s → step s = .next t → Inv t

/-- Every command answers a next state in every state; what it leaves alone everywhere is the queue, the package time
(which does not go back) and what has already left the package. -/
def Obligations.EveryCommandCompletes : Prop :=
  ∀ (c : Instr) (s : State), ∃ t, exec c s = .next t ∧ t.pending = s.pending ∧ s.clock ≤ t.clock ∧ s.out <:+ t.out

/-- The two minimums that OTP holds only rise, whatever command runs: cold and warm resets among them. -/
def Obligations.MinimumsNeverFall : Prop :=
  ∀ (c : Instr) (s t : State), exec c s = .next t → s.nv.fwMin ≤ t.nv.fwMin ∧ s.nv.imageMin ≤ t.nv.imageMin

/-- D2D_RETRY, MODULE_RETIRED, LINK_LOST and MODULE_RETRAIN_DONE complete with the effect of R29 to R32, and what
they leave unchanged. The free-value counter moves with D2D_RETRY because its detail is open. -/
def Obligations.MeshLinkEvents : Prop :=
  (∀ (a b : Nat) (s : State), linkModules a b ≠ 0 → s.reports.length < 64 →
    ∃ r : Report, r.source = 0x8000 + 64 * Nat.min a b + Nat.max a b ∧ r.cls = 0 ∧ r.code = 0x0501 ∧
      exec (.d2dRetry a b) s = .next { s with free := s.free + 1, reports := s.reports ++ [r] }) ∧
  (∀ (a b m : Nat) (s : State), m < linkModules a b → m ∉ (s.meshLink (meshKey a b)).lost →
    (s.meshLink (meshKey a b)).lost.length + 1 < linkModules a b → s.reports.length < 64 →
    ∃ r : Report, r.source = 0x8000 + 64 * Nat.min a b + Nat.max a b ∧ r.cls = 2 ∧ r.code = 0x0502 ∧ r.detail = m ∧
      exec (.moduleRetired a b m) s = .next { s with
        mesh := assocSet (fun _ => MeshLink.reset) s.mesh (meshKey a b) { lost := insertNat (s.meshLink (meshKey a b)).lost m },
        reports := s.reports ++ [r] }) ∧
  (∀ (a b : Nat) (s : State), linkModules a b ≠ 0 → s.fget R.ECL_CTL.on_fatal = 0 →
    ∃ t, exec (.linkLost a b) s = .next t ∧ t.boot.stage = .inReset ∧ t.fget R.GLB_BOOT.reset_cause = 2 ∧ t.mem = [] ∧
      t.nv = s.nv) ∧
  (∀ (a b m : Nat) (s : State), exec (.moduleRetrainDone a b m) s = .next s)

/-- SUBMIT and VALIDATION_DONE, each in every outcome. That a staged image is taken as 400 to 262,144 bytes whatever its
header says is the model's choice (log 59). -/
def Obligations.SubmitAndValidation : Prop :=
  let raised := fun (s t : State) (fn : Fn) (v : Nat) =>
    Out.msix fn v ∈ t.out ∨ (s.vec (fnIndex fn * 4096 + v)).1 = true ∧ t.vec (fnIndex fn * 4096 + v) = (true, true)
  (∀ (s : State) (n : Nat), n < 2 → s.fget R.PRT_STAGE.validating = 0 →
    let len := Nat.max 400 (Nat.min (leNat (s.bytes (stagingBase + 0x18) 4)) 262144)
    ∃ t, exec (.submit (.pf n)) s = .next t ∧ t.togus = { s.togus with validating := some (s.bytes stagingBase len) } ∧
      t.fget R.PRT_STAGE.validating = 1 ∧ (∀ off, off ≠ A.PRT_STAGE → t.reg off = s.reg off) ∧ t.mem = s.mem ∧ t.out = s.out) ∧
  (∀ (s : State) (n : Nat), n < 2 → s.fget R.PRT_STAGE.validating = 1 →
    ∃ t, exec (.submit (.pf n)) s = .next t ∧ t.fget R.PRT_STAGE.busy_err = 1 ∧ t.fget R.PRT_STAGE.validating = 1 ∧
      t.togus = s.togus ∧ raised s t (.pf 0) 7 ∧ t.mem = s.mem) ∧
  (∀ (s : State) (fn : Fn), fn ≠ .pf 0 → fn ≠ .pf 1 → s.reports.length < 64 →
    ∃ t, exec (.submit fn) s = .next t ∧ t.togus = s.togus ∧ t.regs = s.regs ∧ t.mem = s.mem ∧
      ∃ r : Report, t.reports = s.reports ++ [r] ∧ r.source = 0xA000 ∧ r.cls = 0 ∧ r.code = codeWriteRefused) ∧
  (∀ s : State, s.togus.validating = none → exec .validationDone s = .next s) ∧
  (∀ (s : State) (b : List Byte) (c o : Nat), s.togus.validating = some b →
    validate { s with togus := { s.togus with validating := none } } false b = some (c, o) → s.reports.length < 64 →
    ∃ t, exec .validationDone s = .next t ∧ t.fget R.PRT_STAGE.done = 1 ∧ t.fget R.PRT_STAGE.validating = 0 ∧
      t.fget R.PRT_STAGE.code = c % 2 ^ R.PRT_STAGE.code.width ∧ t.fget R.PRT_STAGE.offset = o % 2 ^ R.PRT_STAGE.offset.width ∧
      t.fget R.PRT_STAGE.target = imgTarget b % 16 ∧ t.togus = { s.togus with validating := none } ∧
      (∀ off, off ≠ A.PRT_STAGE → t.reg off = s.reg off) ∧ raised s t (.pf 0) 7 ∧ raised s t (.pf 1) 32 ∧
      Out.pldm 3 (c + 256 * o) ∈ t.out ∧ t.mem = s.mem ∧
      ∃ r : Report, t.reports = s.reports ++ [r] ∧ r.source = 0xA000 ∧ r.cls = 0 ∧ r.code = codeImageRefused) ∧
  (∀ (s : State) (b : List Byte) (p : Nat), s.togus.validating = some b → imgTarget b = p → p < 16 →
    validate { s with togus := { s.togus with validating := none } } false b = none →
    let i : PendingImg := ⟨p, b, s.togus.sections, 0, s.waitOf p b, false, false⟩
    ∃ t, exec .validationDone s = .next t ∧ t.fget R.PRT_STAGE.done = 1 ∧ t.fget R.PRT_STAGE.validating = 0 ∧
      t.fget R.PRT_STAGE.code = 0 ∧ t.fget R.PRT_STAGE.offset = 0 ∧ t.fget R.PRT_STAGE.target = p ∧
      t.togus = { s.togus with validating := none, pending := s.togus.pending ++ [i] } ∧
      t.fget (R.PRT_STATUS.image p) = 1 ∧ t.fget (R.PRT_STATUS.code p) = 0 ∧
      (∀ off, off ≠ A.PRT_STAGE → off ≠ A.PRT_STATUS p → t.reg off = s.reg off) ∧ raised s t (.pf 0) 7 ∧ raised s t (.pf 1) 32 ∧
      raised s t (.pf 1) (16 + p) ∧ Out.pldm 3 0 ∈ t.out ∧ t.reports = s.reports ∧ t.mem = s.mem)

/-- The commands that end a restructure. -/
def Obligations.RestructureCommands : Prop :=
  let waits := fun (s : State) (p : Nat) (i : PendingImg) =>
    s.togus.pending.find? (fun x => x.partition == p && !x.applying) = some i
  let gone := fun (s t : State) (p : Nat) (i : PendingImg) => t.fget (R.PRT_STATUS.image p) = 0 ∧ t.fget (R.PRT_STATUS.code p) = 0x0E ∧
    (let keep := s.togus.pending.filter (fun x => x.partition != p)
     let resume := if i.held then insertNat s.togus.resume p else s.togus.resume
     t.togus = { s.togus with pending := keep, resume := resume }) ∧ t.mem = s.mem
  (∀ (s : State) (n p : Nat) (i : PendingImg), n < 2 → p < 16 →
    (waits s p i → ∃ t, exec (.withdraw (.pf n) p) s = .next t ∧ gone s t p i) ∧
    ((∀ x ∈ s.togus.pending, x.partition = p → x.applying = true) →
      exec (.withdraw (.pf n) p) s = .next (s.fset R.PRT_CMD.wd_partition p))) ∧
  (∀ (s : State) (p : Nat) (i : PendingImg), p < 16 →
    (waits s p i → i.limit ≤ i.waited → ∃ t, exec (.restructureWaitExpiry p) s = .next t ∧ gone s t p i) ∧
    ((∀ x ∈ s.togus.pending, x.partition = p → x.applying = true ∨ x.waited < x.limit) →
      exec (.restructureWaitExpiry p) s = .next s)) ∧
  (∀ (s : State) (p : Nat) (i : PendingImg), p < 16 → (s.regs.map Prod.fst).Nodup →
    s.togus.pending.find? (fun x => x.partition == p && x.applying) = some i →
    ∃ t, exec (.applyComplete p) s = .next t ∧ t.togus.pending = s.togus.pending.filter (fun x => x.partition != p) ∧
      t.togus.resume = insertNat s.togus.resume p ∧ t.fget (R.PRT_STATUS.image p) = 0 ∧
      (∀ ty, 1 ≤ ty → ty ≤ 7 →
        (∀ new, imgSection i.bytes ty = some new → t.sect ty = mergeBytes (i.base.getD (ty - 1) []) new (s.sect ty)) ∧
        (imgSection i.bytes ty = none → (i.base.getD (ty - 1) []).length = (s.sect ty).length → t.sect ty = s.sect ty)) ∧
      (∀ c x, c < 512 → bit (s.clusterMask p ^^^ (s.afterImage i).clusterMask p) (c / 4) = true → x < 0x400000 →
        t.byte (padBase c + x) = 0) ∧
      (∀ ch, ch < 64 → bit (s.chanMask p) ch = true → bit ((s.afterImage i).chanMask p) ch = false →
        (t.chan ch).zeroing = true ∧ bit t.togus.releasedCh ch = true)) ∧
  (∀ (s : State) (p : Nat), (∀ x ∈ s.togus.pending, x.partition = p → x.applying = false) → exec (.applyComplete p) s = .next s) ∧
  (∀ (s : State) (g : Nat), g < 64 →
    ((s.chan g).zeroing = true → ∃ t, exec (.channelZeroDone g) s = .next t ∧ (∀ a, a < 2 ^ 36 → t.byte (gddrKey g 0 + a) = 0) ∧
      (∀ a, (a < gddrKey g 0 ∨ gddrKey g 0 + 2 ^ 36 ≤ a) → t.byte a = s.byte a) ∧
      (t.chan g).zeroing = false ∧ bit t.togus.releasedCh g = false ∧ t.regs = s.regs) ∧
    ((s.chan g).zeroing = false → exec (.channelZeroDone g) s = .next s))

/-- IMAGE_LOADED: one copy is loaded, or neither, by what validation finds of the two and their sequence numbers. -/
def Obligations.ImageLoadedChoosesCopy : Prop :=
  (∀ s : State, s.boot.stage ≠ .running ∨ s.milestone 3 = false ∨ s.milestone 4 = true → exec .imageLoaded s = .next s) ∧
  (∀ s : State, (s.regs.map Prod.fst).Nodup → s.boot.stage = .running → s.milestone 3 = true → s.milestone 4 = false →
    let a := validate s true s.nv.togusA
    let b := validate s true s.nv.togusB
    let shown := fun (r : Option (Nat × Nat)) => r.getD (0, 0)
    let takes := fun (t : State) (copy : Nat) (image : List Byte) => t.fget R.PRT_BOOT.loaded = copy ∧
      (∀ ty, 1 ≤ ty → ty ≤ 7 → t.sect ty = (imgSection image ty).getD []) ∧ t.togus.pending = s.togus.pending
    ∃ t, exec .imageLoaded s = .next t ∧ t.milestone 4 = true ∧
      t.fget R.PRT_BOOT.code_a = (shown a).1 % 2 ^ R.PRT_BOOT.code_a.width ∧ t.fget R.PRT_BOOT.off_a = (shown a).2 % 2 ^ R.PRT_BOOT.off_a.width ∧
      t.fget R.PRT_BOOT.code_b = (shown b).1 % 2 ^ R.PRT_BOOT.code_b.width ∧ t.fget R.PRT_BOOT.off_b = (shown b).2 % 2 ^ R.PRT_BOOT.off_b.width ∧
      (∀ r, (a = some r ∨ b = some r) → Out.pldm 3 (r.1 + 256 * r.2) ∈ t.out) ∧
      (a = none → b = none → imgSeq s.nv.togusB ≤ imgSeq s.nv.togusA → takes t 0 s.nv.togusA) ∧
      (a = none → b = none → imgSeq s.nv.togusA < imgSeq s.nv.togusB → takes t 1 s.nv.togusB) ∧
      (a = none → b ≠ none → takes t 0 s.nv.togusA) ∧
      (a ≠ none → b = none → takes t 1 s.nv.togusB) ∧
      (a ≠ none → b ≠ none → t.fget R.PRT_BOOT.loaded = 3 ∧ t.fget R.GLB_BOOT.boot_state = 2 ∧ t.togus = s.togus))

/-- Rack time, SYNC_TIMER, SYNC and LINK_DELAY_MEASURE. -/
def Obligations.RackTimeFollowsMaster : Prop :=
  (∀ (s : State) (now : Nat), s.clock ≤ now → s.trn.started = true → s.trn.hold = none → s.trn.slew = 0 → s.ecl.phase ≠ 2 →
    s.nwt.night = false →
    (s.advance now).clock = now ∧ (s.advance now).rackTime = (s.rackTime + (now - s.clock)) % 2 ^ 64) ∧
  (∀ (s : State) (now link hops origin delay : Nat),
    let s0 := s.advance now
    let m := origin + delay
    (s0.vc0In link = false ∨ s0.isMaster = true ∨ s0.fresh 3 [origin] = false → exec (.sync now link hops origin delay) s = .next s0) ∧
    (s0.vc0In link = true → s0.isMaster = false → s0.fresh 3 [origin] = true →
      ∃ t, exec (.sync now link hops origin delay) s = .next t ∧ t.mem = s.mem ∧
        (s0.rackTime + 1000 < m → t.rackTime = m % 2 ^ 64 ∧ t.fget R.TRN_STATUS.synced = 1 ∧ t.trn.hold = none) ∧
        (m + 1000 < s0.rackTime → t.rackTime = s0.rackTime ∧ t.fget R.TRN_STATUS.synced = 0 ∧ t.trn.hold = some (s0.rackTime, m)) ∧
        (s0.trn.hold = none → s0.rackTime ≤ m + 1000 → m ≤ s0.rackTime + 1000 → t.rackTime = s0.rackTime ∧
          t.trn.slew = (m : Int) - s0.rackTime ∧ (t.fget R.TRN_STATUS.synced = 1 ↔ s0.rackTime ≤ m + 50 ∧ m ≤ s0.rackTime + 50)) ∧
        (hops < 3 → ∀ c ∈ s0.upLinks, linkKey c.1 c.2 ≠ link → Out.vc0 c.1 c.2 3 (hops + 1)
          [origin, delay + Config.residenceNs s0.free + s0.fget (R.SCP_PORT_DELAY.delay_ns c.1)] ∈ t.out) ∧
        (3 ≤ hops → t.out = s0.out))) ∧
  (∀ (s : State) (now : Nat),
    let s0 := s.advance now
    (s0.isMaster = true →
      ∃ t, exec (.syncTimer now) s = .next t ∧ t.regs = s0.regs ∧ t.mem = s.mem ∧
        (∀ c ∈ s0.upLinks, Out.vc0 c.1 c.2 3 1 [s0.rackTime, s0.fget (R.SCP_PORT_DELAY.delay_ns c.1)] ∈ t.out)) ∧
    (s0.isMaster = false → exec (.syncTimer now) s = .next s0)) ∧
  (∀ (s : State) (n rt : Nat), n < 64 → s.fget (R.SCP_PORT_STATUS.state n) ∈ [5, 6, 13] →
    ∃ t, exec (.linkDelayMeasure n rt) s = .next t ∧ t.fget (R.SCP_PORT_DELAY.delay_ns n) = Nat.min (rt / 2) (2 ^ 32 - 1) ∧
      (∀ off, off ≠ A.SCP_PORT_DELAY n → t.reg off = s.reg off) ∧ t.mem = s.mem)

/-- CANDIDATE, ELECTION_ACKNOWLEDGEMENT, ELECTION_QUIET_EXPIRY, MASTER and MASTER_LOST_TIMEOUT. That the one candidate a
package acknowledges is the best it has heard is the model's choice (log 26); so is that the timeout runs from the later of
TRN_NEXT and the MASTER message (log 77). -/
def Obligations.ElectionOfMaster : Prop :=
  (∀ (s : State) (link hops prio phys num : Nat) (h : Nat × Nat),
    s.vc0In link = true → s.fresh 5 [prio, phys, num] = true → s.electing = true → s.trn.heard = some h →
    ∃ t, exec (.candidate link hops prio phys num) s = .next t ∧ t.regs = s.regs ∧ t.mem = s.mem ∧
      (hops < 3 → ∀ c ∈ s.upLinks, linkKey c.1 c.2 ≠ link → Out.vc0 c.1 c.2 5 (hops + 1) [prio, phys, num] ∈ t.out) ∧
      (h.1 < prio ∨ (h.1 = prio ∧ phys < h.2) → t.trn.cand = false ∧ t.trn.heard = some (prio, phys) ∧
        Out.electionAck phys s.ownPhys (if s.trn.numbered then some s.transitNo else none) ∈ t.out) ∧
      (prio < h.1 ∨ (h.1 = prio ∧ h.2 ≤ phys) → t.trn.cand = s.trn.cand ∧ t.trn.heard = some h)) ∧
  (∀ (s : State) (phys : Nat) (num : Option Nat), s.electing = true → s.trn.cand = true → phys ≠ s.ownPhys →
    (∀ a ∈ s.trn.acks, a.1 ≠ phys) →
    exec (.electionAcknowledgement phys num) s = .next { s with trn := { s.trn with acks := s.trn.acks ++ [(phys, num)] } }) ∧
  (∀ (s : State) (now : Nat),
    let s0 := s.advance now
    s0.electing = true → s0.trn.cand = true → s0.trn.candSince + 1000000 ≤ s0.clock →
    s0.fget R.TRN_RACK_SIZE.rack_size < 2 * (s0.trn.acks.length + 1) →
    ∃ t, exec (.electionQuietExpiry now) s = .next t ∧ t.isMaster = true ∧ t.electing = false ∧
      (∀ m, s0.highestHeld = some m → t.trn.nextNo = m + 1 ∧ t.rackTime = s0.rackTime) ∧
      (s0.highestHeld = none → t.trn.nextNo = s0.fget R.TRN_START.start ∧ t.rackTime = 0) ∧
      (∀ c ∈ s0.upLinks, Out.vc0 c.1 c.2 6 1 [s0.ownPhys, t.trn.nextNo] ∈ t.out)) ∧
  (∀ (s : State) (link hops phys ldn first : Nat), s.vc0In link = true → s.fresh 6 [phys, first] = true →
    ∃ t, exec (.master link hops phys ldn first) s = .next t ∧ t.isMaster = false ∧ t.electing = false ∧
      t.fget R.TRN_STATUS.master_ldn = (if ldn < 144 then ldn else 255) ∧
      t.trn.masterPhys = phys ∧ t.transitNo = s.transitNo ∧ t.rackTime = s.rackTime ∧ t.mem = s.mem) ∧
  (∀ (s : State) (now : Nat),
    let s0 := s.advance now
    s0.isMaster = false → s0.electing = false → s0.trn.sched = none → s0.trn.numbered = true →
    let limit := Nat.max (s0.fget R.TRN_NEXT.next_ns) s0.trn.masterAt + s0.maxStretch + 10000
    (limit ≤ s0.rackTime →
      ∃ t, exec (.masterLostTimeout now) s = .next t ∧ t.fget R.TRN_STATUS.master_lost = 1 ∧ t.electing = true ∧
        t.trn.sched = none ∧ t.transitNo = s0.transitNo ∧
        (t.trn.cand = true ↔ s0.fget R.TRN_CTL.master_priority ≠ 0)) ∧
    (s0.rackTime < limit → exec (.masterLostTimeout now) s = .next s0))

/-- DONE_SEND, DONE, SCHEDULE_DECISION, STRETCH_LIMIT_EXPIRY and DARK. Which partitions of another package are not done is
a free value of the model (log 26): `undonePairs` holds it. -/
def Obligations.LateAccounting : Prop :=
  (∀ s : State,
    let due := s.ldn ≠ 255 ∧ s.trn.numbered = true ∧ s.trn.doneSent = false ∧ s.allAccounted = true
    (due → s.isMaster = false →
      ∃ t, exec .doneSend s = .next t ∧ t.trn.doneSent = true ∧ t.trn.dones = s.trn.dones ∧ t.regs = s.regs ∧ t.mem = s.mem ∧
        ∀ c ∈ s.upLinks, Out.vc0 c.1 c.2 4 1 [s.transitNo, s.ldn] ∈ t.out) ∧
    (due → s.isMaster = true →
      ∃ t, exec .doneSend s = .next t ∧ t.trn.doneSent = true ∧ t.trn.dones = insertNat s.trn.dones s.ldn ∧
        t.transitNo = s.transitNo ∧ t.mem = s.mem ∧ (s.trn.stretching = false → t.out = s.out ∧ t.regs = s.regs)) ∧
    (¬ due → exec .doneSend s = .next s)) ∧
  (∀ (s : State) (now link hops n l : Nat),
    let s0 := s.advance now
    let counts := s0.isMaster = true ∧ s0.trn.numbered = true ∧ n = s0.transitNo
    (s0.vc0In link = false ∨ s0.fresh 4 [n, l] = false → exec (.done now link hops n l) s = .next s0) ∧
    (s0.vc0In link = true → s0.fresh 4 [n, l] = true →
      ∃ t, exec (.done now link hops n l) s = .next t ∧ t.transitNo = s0.transitNo ∧ t.mem = s0.mem ∧
        (hops < 3 → ∀ c ∈ s0.upLinks, linkKey c.1 c.2 ≠ link → Out.vc0 c.1 c.2 4 (hops + 1) [n, l] ∈ t.out) ∧
        (counts → t.trn.dones = insertNat s0.trn.dones l ∧
          (s0.trn.stretching = true → (∀ x ∈ s0.missing, x = l) → 10000 ≤ s0.nextPeriod s0.trn.nextNo →
            t.trn.sched = some (s0.trn.nextNo, s0.rackTime + s0.leadNs, s0.nextPeriod s0.trn.nextNo) ∧ t.trn.stretching = false)) ∧
        (¬ counts → t.trn.dones = s0.trn.dones ∧ t.trn.sched = s0.trn.sched ∧ t.regs = s0.regs))) ∧
  (∀ (s : State) (now : Nat),
    let s0 := s.advance now
    let nominal := s0.fget R.TRN_NEXT.next_ns
    let due := s0.isMaster = true ∧ s0.electing = false ∧ s0.trn.sched = none ∧ s0.trn.hold = none ∧ nominal ≤ s0.rackTime + s0.leadNs
    let n := s0.trn.nextNo
    let fire := Nat.max nominal (s0.rackTime + s0.leadNs)
    (due → s0.missing = [] → 10000 ≤ s0.nextPeriod n →
      ∃ t, exec (.scheduleDecision now) s = .next t ∧ t.trn.sched = some (n, fire, s0.nextPeriod n) ∧ t.trn.stretching = false ∧
        t.fget R.TRN_NEXT.next_ns = fire % 2 ^ 64 ∧ (∀ off, off ≠ A.TRN_NEXT → t.reg off = s0.reg off) ∧ t.mem = s0.mem ∧
        ∀ c ∈ s0.upLinks, Out.vc0 c.1 c.2 1 1
          [n, fire, s0.nextPeriod n, s0.rackTime, s0.fget (R.SCP_PORT_DELAY.delay_ns c.1)] ∈ t.out) ∧
    (due → s0.missing ≠ [] →
      exec (.scheduleDecision now) s = .next { s0 with trn := { s0.trn with stretching := true } }) ∧
    (¬ due → exec (.scheduleDecision now) s = .next s0)) ∧
  (∀ (s : State) (now : Nat),
    let s0 := s.advance now
    let due := s0.isMaster = true ∧ s0.trn.stretching = true ∧ s0.fget R.TRN_NEXT.next_ns + s0.maxStretch ≤ s0.rackTime + s0.leadNs
    let n := s0.trn.nextNo
    let pairs := s0.undonePairs.2
    (due → 10000 ≤ s0.nextPeriod n →
      ∃ t, exec (.stretchLimitExpiry now) s = .next t ∧
        t.trn.sched = some (n, s0.rackTime + s0.leadNs, s0.nextPeriod n) ∧ t.trn.stretching = false ∧
        t.fget R.TRN_STRETCH_CNT.darkened = (s0.fget R.TRN_STRETCH_CNT.darkened + pairs.length) % 2 ^ 32 ∧
        (pairs ≠ [] → ∀ c ∈ s0.upLinks,
          Out.vc0 c.1 c.2 2 1 (darkContents n (pairs.take 64) (decide (pairs.length ≤ 64))) ∈ t.out) ∧
        (∀ p, p < 16 → s0.ldn ≠ 255 → s0.ldn ∈ s0.missing → s0.accounted p = false → s0.transitNo < n → (n, p) ∈ t.trn.darkNext) ∧
        t.transitNo = s0.transitNo ∧ t.mem = s0.mem) ∧
    (¬ due → exec (.stretchLimitExpiry now) s = .next s0)) ∧
  (∀ (s : State) (link hops n p : Nat) (pairs : List (Nat × Nat)) (last : Bool),
    let heard := s.vc0In link = true ∧ s.isMaster = false ∧ s.fresh 2 (darkContents n pairs last) = true
    (heard → ∃ t, exec (.dark link hops n pairs last) s = .next t ∧ t.mem = s.mem ∧ t.transitNo = s.transitNo ∧
      (hops < 3 → ∀ c ∈ s.upLinks, linkKey c.1 c.2 ≠ link → Out.vc0 c.1 c.2 2 (hops + 1) (darkContents n pairs last) ∈ t.out) ∧
      (s.ldn ≠ 255 → p < 16 → (s.ldn, p) ∈ pairs →
        ((s.trn.numbered = true → s.transitNo < n) → (n, p) ∈ t.trn.darkNext ∧ t.regs = s.regs) ∧
        (s.trn.numbered = true → n = s.transitNo → t.fget (R.TRN_PART_STEP.late p) = 1)) ∧
      ((∀ q, (s.ldn, q) ∉ pairs) → t.trn.darkNext = s.trn.darkNext ∧ t.regs = s.regs)) ∧
    (¬ heard → exec (.dark link hops n pairs last) s = .next s))

/-- TRANSIT_FIRE and SCHEDULE. -/
def Obligations.TransitFires : Prop :=
  (∀ (s : State) (now n fire per : Nat),
    let s0 := s.advance now
    s0.trn.sched = some (n, fire, per) → n < 2 ^ 64 → per < 2 ^ 34 →
    let fires := fire ≤ s0.rackTime ∧ s0.trn.hold = none ∧ s0.electing = false ∧ s0.ecl.phase ≠ 2 ∧ s0.nwt.night = false
    (fires → ∃ t, exec (.transitFire now) s = .next t ∧ t.transitNo = n ∧ t.periodNs = per ∧
      t.fget R.TRN_NEXT.next_ns = (fire + per) % 2 ^ 64 ∧ t.trn.sched = none ∧ t.trn.dones = [] ∧ t.trn.doneSent = false ∧
      t.trn.fireTime = fire ∧
      (∀ p, p < 16 → t.fget (R.TRN_PART_STEP.compute_done p) = 0 ∧ t.fget (R.TRN_PART_STEP.exchange_done p) = 0 ∧
        t.fget (R.TRN_PART_STEP.step_done p) = 0) ∧
      (s0.fget R.TRN_CTL.tout_en = 1 → Out.transitOut n ∈ t.out)) ∧
    (¬ fires → exec (.transitFire now) s = .next s0)) ∧
  (∀ (s : State) (now link hops n fire per origin delay : Nat),
    let s0 := s.advance now
    let m := origin + delay
    s0.vc0In link = true → s0.isMaster = false → s0.fresh 1 [n, fire, per, origin] = true →
    (s0.electing = false → (s0.trn.numbered = true → s0.transitNo < n) → s0.rackTime ≤ fire → m ≤ fire → m < 2 ^ 64 →
      ∃ t, exec (.schedule now link hops n fire per origin delay) s = .next t ∧ t.trn.sched = some (n, fire, per) ∧
        t.fget R.TRN_NEXT.next_ns = fire % 2 ^ 64 ∧ t.transitNo = s0.transitNo ∧ t.mem = s.mem) ∧
    (s0.electing = true ∨ s0.trn.numbered = true ∧ n ≤ s0.transitNo →
      ∃ t, exec (.schedule now link hops n fire per origin delay) s = .next t ∧ t.trn.sched = s0.trn.sched ∧
        t.transitNo = s0.transitNo ∧ t.mem = s.mem))

/-- WINDOW_BOUNDARY, WATCHDOG_WARN, STEP_DONE_WRITE, WINDOW_WRITE and PERIOD_NEXT_WRITE. -/
def Obligations.WindowsOfAStep : Prop :=
  (∀ (s : State) (now p : Nat),
    let s0 := s.advance now
    let ph := s0.fget (R.TRN_PART_STEP.step_phase p)
    p < 16 → s0.partPresent p = true → s0.trn.numbered = true → ph < 2 →
    ((s0.window p ph).1 + (s0.window p ph).2) * s0.periodNs ≤ 1000 * s0.stepTime →
    ∃ t, exec (.windowBoundary now p) s = .next t ∧ t.fget (R.TRN_PART_STEP.step_phase p) = ph + 1) ∧
  (∀ (s : State) (now p : Nat),
    let s0 := s.advance now
    let w := Nat.min (s0.fget (R.TRN_PART_STEP.step_phase p)) 2
    let win := s0.window p w
    p < 16 → s0.partPresent p = true → s0.trn.numbered = true → win.2 ≠ 0 → s0.windowDone p w = false →
    (10 * win.1 + 9 * win.2) * s0.periodNs ≤ 10000 * s0.stepTime →
    ∃ t, exec (.watchdogWarn now p) s = .next t ∧ t.fget (R.TRN_PART_STEP.warn p) = 1) ∧
  (∀ (s : State) (who : Who) (p : Nat) (v : Word), p < 16 →
    ((∃ c, who = .tcore c ∧ s.partOfTcore c = some p) ∨ (∃ c, who = .pcore c ∧ s.partOfPcore c = some p) ∨
      (∃ f, who = .vf f ∧ s.tenantPart f = some p) ∨ (∃ n, who = .pf n ∧ n < 2)) →
    ∃ t, exec (.stepDoneWrite who p v) s = .next t ∧
      (∀ w, w < 3 → t.windowDone p w = (s.windowDone p w || bit v.toNat w)) ∧
      (∀ off, off ≠ A.TRN_PART_STEP p → t.reg off = s.reg off) ∧ t.mem = s.mem) ∧
  (∀ (s : State) (who : Who) (p : Nat) (v : Word), p < 16 →
    ((∃ c, who = .tcore c ∧ s.partOfTcore c ≠ some p) ∨ (∃ c, who = .pcore c ∧ s.partOfPcore c ≠ some p) ∨ (∃ n, who = .se n)) →
    exec (.stepDoneWrite who p v) s = .next { s with out := .ended who 0x11 :: s.out }) ∧
  (∀ (s : State) (n p : Nat) (v : Word), n < 2 → p < 16 →
    getField v 0 10 + getField v 16 10 + getField v 32 10 ≠ 1000 →
    exec (.windowWrite (.pf n) p .whole v) s = .next (s.fset (R.TRN_PART_STEP.win_err p) 1)) ∧
  (∀ (s : State) (n p : Nat) (v : Word), n < 2 → p < 16 →
    getField v 0 10 + getField v 16 10 + getField v 32 10 = 1000 →
    ∃ t, exec (.windowWrite (.pf n) p .whole v) s = .next t ∧
      t.fget (R.TRN_PART_CTL.compute p) = s.fget (R.TRN_PART_CTL.compute p) ∧
      t.fget (R.TRN_PART_CTL.exchange p) = s.fget (R.TRN_PART_CTL.exchange p) ∧
      assocGet (fun _ => (0 : Word)) t.trn.winNext p = v &&& 0x3FF03FF03FF) ∧
  (∀ (s : State) (v a : Word), (v.toNat % 2 ^ 34 < 10000 ∨ 10000000000 < v.toNat % 2 ^ 34) →
    ∃ t, exec (.periodNextWrite (.pf 0) v a) s = .next t ∧ t.fget R.TRN_STATUS.period_err = 1 ∧
      t.reg A.TRN_PERIOD_NEXT = s.reg A.TRN_PERIOD_NEXT ∧ t.reg A.TRN_PERIOD_AT = s.reg A.TRN_PERIOD_AT) ∧
  (∀ (s : State) (v a : Word), 10000 ≤ v.toNat % 2 ^ 34 → v.toNat % 2 ^ 34 ≤ 10000000000 →
    ∃ t, exec (.periodNextWrite (.pf 0) v a) s = .next t ∧ t.fget R.TRN_PERIOD_NEXT.period_ns = v.toNat % 2 ^ 34 ∧
      t.reg A.TRN_PERIOD_AT = a ∧ t.trn.perAt = Nat.max a.toNat (s.transitNo + 2) ∧ t.periodNs = s.periodNs ∧
      (∀ n, t.nextPeriod n = if Nat.max a.toNat (s.transitNo + 2) ≤ n ∨ s.periodNs = 0 then v.toNat % 2 ^ 34 else s.periodNs) ∧ t.mem = s.mem)

/-- DROOP_DETECT, DROOP_STRETCH_END and OVER_MARGIN. -/
def Obligations.DroopAccounting : Prop :=
  (∀ (s : State) (now d : Nat), d < 40 →
    let s0 := s.advance now
    ∃ t, exec (.droopDetect now d) s = .next t ∧ (t.droopOf d).since = some s0.clock ∧ (t.droopOf d).last = s0.clock ∧
      (t.droopOf d).stretched = (s0.droopOf d).stretched + (match (s0.droopOf d).since with | some b => s0.clock - b | none => 0) ∧
      t.mem = s.mem ∧ t.trn = s0.trn) ∧
  (∀ (s : State) (now d b : Nat), d < 40 →
    let s0 := s.advance now
    (s0.droopOf d).since = some b → (s0.droopOf d).last + shortestStretch d ≤ s0.clock →
    ∃ t, exec (.droopStretchEnd now d) s = .next t ∧ (t.droopOf d).since = none ∧
      (t.droopOf d).stretched = (s0.droopOf d).stretched + (s0.clock - b)) ∧
  (∀ (s : State) (p : Nat), p < 16 → p ∉ s.trn.overCounted → s.reports.length < 64 →
    s.fget R.TRN_POLICY.droop_margin * s.periodNs < 1000 * s.fget (R.TRN_PART_DROOP.lost_ns p) →
    ∃ t, exec (.overMargin p) s = .next t ∧
      t.fget (R.TRN_PART_DROOP.over_margin_count p) = (s.fget (R.TRN_PART_DROOP.over_margin_count p) + 1) % 2 ^ 32 ∧
      (∃ r : Report, r.source = 0x9000 + p ∧ r.cls = 0 ∧ t.reports = s.reports ++ [r]) ∧
      (∀ off, off ≠ A.TRN_PART_DROOP p → t.reg off = s.reg off))

/-- QPUSH_ME, QPUSH_VE and QPUSH_FE in their outcomes; a P application core does not implement them (R213). -/
def Obligations.QueuePush : Prop :=
  let cmdOf := fun (q : EngineQ) (u : CoreId) (r : Nat) => match q with | .me => Instr.qpushMe u r | .ve => .qpushVe u r | .fe => .qpushFe u r
  (∀ (q : EngineQ) (c fs1 : Nat) (s : State),
    let cmd := cmdOf q (.tc c) fs1
    let i := (s.tcore c).cc.fr fs1
    let ok := match q with | .me => mePushOk i | .ve => vePushOk i | .fe => fePushOk i
    s.coreOn (.tc c) = true → (s.tcore c).cc.ready [.f fs1] = true →
    (s.pxHandler c = false → ok = true → (s.queueOf c q).length < 32 →
      ∃ t, exec cmd s = .next t ∧ t.queueOf c q = s.queueOf c q ++ [i] ∧ (∀ q', q' ≠ q → t.queueOf c q' = s.queueOf c q') ∧
        (t.tcore c).cc.pc = (s.tcore c).cc.pc + 4 ∧ (t.tcore c).cc.x = (s.tcore c).cc.x ∧ (t.tcore c).cc.f = (s.tcore c).cc.f ∧
        t.mem = s.mem ∧ (∀ d, d ≠ c → t.tcore d = s.tcore d)) ∧
    (s.pxHandler c = false → ok = true → 32 ≤ (s.queueOf c q).length →
      ∃ t, exec cmd s = .next t ∧ t.tcores = s.tcores ∧ t.mem = s.mem) ∧
    (s.pxHandler c = true ∨ ok = false →
      ∃ t, exec cmd s = .next t ∧ (∀ q', t.queueOf c q' = s.queueOf c q') ∧ (t.tcore c).cc.causeCode = 1 ∧
        (t.tcore c).cc.inHandler = true ∧ (t.tcore c).cc.epc = (s.tcore c).cc.pc ∧ t.mem = s.mem)) ∧
  (∀ (q : EngineQ) (p fs1 : Nat) (s : State), s.coreOn (.pc p) = true →
    ∃ t, exec (cmdOf q (.pc p) fs1) s = .next t ∧ (t.pcore p).causeCode = 1 ∧ (t.pcore p).inHandler = true ∧
      (t.pcore p).epc = (s.pcore p).pc ∧ t.tcores = s.tcores ∧ t.mem = s.mem)

/-- WAITB, FENCE, QUEUE_SKIP and QUEUE_FLUSH. -/
def Obligations.QueueHoldsAndDiscards : Prop :=
  (∀ (c : Nat) (q : EngineQ) (s : State) (i : Quad), s.atHead c q 0x07 = some i →
    s.mayUse (.tcore c) (s.beacon (waitBeacon i)) = true →
    ((waitValue i).toNat ≤ (s.beacon (waitBeacon i)).value.toNat →
      ∃ t, exec (.waitb c q) s = .next t ∧ t.queueOf c q = (s.queueOf c q).drop 1 ∧ t.beacons = s.beacons ∧ t.regs = s.regs ∧ t.mem = s.mem) ∧
    ((s.beacon (waitBeacon i)).value.toNat < (waitValue i).toNat →
      ∃ t, exec (.waitb c q) s = .next t ∧ t.queueOf c q = s.queueOf c q ∧ t.beacons = s.beacons ∧ t.regs = s.regs ∧ t.mem = s.mem ∧
        ∃ w ∈ t.waiters, w.ans = .engine c q)) ∧
  (∀ (c : Nat) (s : State) (i : Quad), s.atHead c .me 0x07 = some i → s.mayUse (.tcore c) (s.beacon (waitBeacon i)) = false →
    ∃ t, exec (.waitb c .me) s = .next t ∧ t.fget (R.TC_ME_ERR.refused c) = 1 ∧ t.fget (R.TC_ME_ERR.code c) = 0x0A ∧
      t.fget (R.TC_ME_ERR.opcode c) = 7 ∧ t.fget (R.TC_ME_STATUS.halted c) = 1 ∧ (t.tcore c).me = (s.tcore c).me ∧ t.mem = s.mem) ∧
  (∀ (c : Nat) (q : EngineQ) (s : State) (i : Quad), s.atHead c q 0x08 = some i → (q = .me → (s.tcore c).me.toVe = none) →
    ∃ t, exec (.fence c q) s = .next t ∧ t.queueOf c q = (s.queueOf c q).drop 1 ∧ t.mem = s.mem ∧
      (q = .fe → (t.tcore c).fe.lines = [])) ∧
  (∀ (c : Nat) (s : State) (i : Quad), s.atHead c .me 0x08 = some i → (s.tcore c).me.toVe ≠ none →
    exec (.fence c .me) s = .next s) ∧
  (∀ (c : Nat) (q : EngineQ) (s : State), c < 512 → s.halted c q = true →
    (∃ t, exec (.queueSkip (.pf 0) c q) s = .next t ∧ t.queueOf c q = (s.queueOf c q).drop 1 ∧ t.halted c q = false ∧ t.mem = s.mem) ∧
    (∃ t, exec (.queueFlush (.pf 0) c q) s = .next t ∧ t.queueOf c q = [] ∧ t.halted c q = false ∧ t.mem = s.mem)) ∧
  (∀ (c : Nat) (q : EngineQ) (s : State), s.halted c q = false →
    exec (.queueSkip (.pf 0) c q) s = .next s ∧ exec (.queueFlush (.pf 0) c q) s = .next s)

/-- QSYNC, QDEPTH, SRGET and SRPUT; a P application core implements none of them (R213). -/
def Obligations.QueueReads : Prop :=
  let traps := fun (s t : State) (u : CoreId) => (t.jumbe u).causeCode = 1 ∧ (t.jumbe u).inHandler = true ∧
    (t.jumbe u).epc = (s.jumbe u).pc ∧ (t.jumbe u).x = (s.jumbe u).x ∧ t.mem = s.mem
  (∀ (c mask : Nat) (s : State), s.coreOn (.tc c) = true →
    (mask < 8 → s.syncExceptions c mask = [] →
      ((∀ e ∈ [(EngineQ.me, 0), (EngineQ.ve, 1), (EngineQ.fe, 2)], bit mask e.2 = true → s.engineIdle c e.1 = true) →
        ∃ t, exec (.qsync (.tc c) mask) s = .next t ∧ (t.tcore c).cc.pc = (s.tcore c).cc.pc + 4 ∧ t.mem = s.mem) ∧
      ((∃ e ∈ [(EngineQ.me, 0), (EngineQ.ve, 1), (EngineQ.fe, 2)], bit mask e.2 = true ∧ s.engineIdle c e.1 = false) →
        ∃ t, exec (.qsync (.tc c) mask) s = .next t ∧ t.tcores = s.tcores ∧ t.mem = s.mem)) ∧
    (∀ e rest, mask < 8 → s.syncExceptions c mask = e :: rest →
      ∃ t, exec (.qsync (.tc c) mask) s = .next t ∧ (t.tcore c).cc.causeCode = e.1 ∧ (t.tcore c).cc.causeQueue = e.2 ∧
        (t.tcore c).cc.inHandler = true ∧ (t.tcore c).cc.epc = (s.tcore c).cc.pc ∧ t.mem = s.mem) ∧
    (8 ≤ mask → ∃ t, exec (.qsync (.tc c) mask) s = .next t ∧ traps s t (.tc c))) ∧
  (∀ (c xd : Nat) (q : EngineQ) (s : State), s.coreOn (.tc c) = true →
    ∃ t, exec (.qdepth (.tc c) xd (match q with | .me => 0 | .ve => 1 | .fe => 2)) s = .next t ∧
      (t.tcore c).cc.xr xd = (if xd % 32 = 0 then 0 else BitVec.ofNat 64 (s.queueOf c q).length) ∧
      (∀ r, r % 32 ≠ xd % 32 → (t.tcore c).cc.xr r = (s.tcore c).cc.xr r) ∧
      (t.tcore c).cc.pc = (s.tcore c).cc.pc + 4 ∧ (∀ q', t.queueOf c q' = s.queueOf c q') ∧ t.mem = s.mem) ∧
  (∀ (c xd f a : Nat) (s : State), s.coreOn (.tc c) = true → srReg c f = some a →
    ∃ t, exec (.srget (.tc c) xd f) s = .next t ∧ (t.tcore c).cc.xr xd = (if xd % 32 = 0 then 0 else s.reg a) ∧
      (∀ r, r % 32 ≠ xd % 32 → (t.tcore c).cc.xr r = (s.tcore c).cc.xr r) ∧
      (t.tcore c).cc.pc = (s.tcore c).cc.pc + 4 ∧ t.reg a = s.reg a ∧ t.mem = s.mem) ∧
  (∀ (c x f : Nat) (s : State), s.coreOn (.tc c) = true → 3 ≤ f →
    (∃ t, exec (.qdepth (.tc c) x f) s = .next t ∧ traps s t (.tc c)) ∧
    (∃ t, exec (.srget (.tc c) x f) s = .next t ∧ traps s t (.tc c)) ∧
    ((s.tcore c).cc.ready [.x x] = true → ∃ t, exec (.srput (.tc c) x f) s = .next t ∧ traps s t (.tc c))) ∧
  (∀ (c xs f a : Nat) (s : State), s.coreOn (.tc c) = true → srReg c f = some a → (s.tcore c).cc.ready [.x xs] = true →
    (s.queueOf c .me = [] → s.queueOf c .ve = [] →
      ∃ t, exec (.srput (.tc c) xs f) s = .next t ∧ t.reg a = (s.tcore c).cc.xr xs ∧ (t.tcore c).cc.pc = (s.tcore c).cc.pc + 4 ∧
        (t.tcore c).cc.x = (s.tcore c).cc.x ∧ t.mem = s.mem) ∧
    (s.queueOf c .me ≠ [] ∨ s.queueOf c .ve ≠ [] → exec (.srput (.tc c) xs f) s = .next s)) ∧
  (∀ (p x f : Nat) (s : State), s.coreOn (.pc p) = true →
    ∀ cmd ∈ [Instr.qsync (.pc p) f, .qdepth (.pc p) x f, .srget (.pc p) x f, .srput (.pc p) x f],
      ∃ t, exec cmd s = .next t ∧ traps s t (.pc p))

/-- LOADS, SWAP, MODE and SCALE, the refusals of SWAP and MODE, and MODE waiting for a DRAIN whose rows the VE still takes. -/
def Obligations.MeSetsAndModes : Prop :=
  (∀ (c : Nat) (s : State) (q : Quad), s.atHead c .me 0x01 = some q → s.loadsCheck c q = none → (s.tcore c).me.swapPending = false →
    ∃ t, exec (.loads c) s = .next t ∧ (t.tcore c).me.shadow.valid = true ∧ (t.tcore c).me.shadow.fmt = meFmt q ∧
      (t.tcore c).me.shadow.rows = meRows q ∧ (t.tcore c).me.shadow.cols = meCols q ∧
      (∀ r j, r < meRows q → j < meCols q → (t.tcore c).me.shadow.vals.getD (r * meCols q + j) 0 =
        elemAt (meFmt q) (s.padBytes c (meSrc q + r * meStride q * 32) (packedBytes (meFmt q) (meCols q))) j) ∧
      (s.meMode c = 0 → ∀ k, k < meRows q → (t.tcore c).me.shadow.sums.getD k ⟨0, 0, false⟩ =
        LaneSum.of (meFmt q == 0) ((List.range (meCols q)).map (fun n => statNum 0 (t.tcore c).me.shadow n k))) ∧
      (t.tcore c).me.active = (s.tcore c).me.active ∧ (t.tcore c).me.entries = (s.tcore c).me.entries ∧
      t.queueOf c .me = (s.queueOf c .me).drop 1 ∧ t.mem = s.mem) ∧
  (∀ (c : Nat) (s : State) (q : Quad), s.atHead c .me 0x01 = some q → s.loadsCheck c q = none → (s.tcore c).me.swapPending = true →
    ∃ t x, exec (.loads c) s = .next t ∧ (t.tcore c).me.deferred = some x ∧ x.valid = true ∧ x.fmt = meFmt q ∧
      (∀ r j, r < meRows q → j < meCols q → x.vals.getD (r * meCols q + j) 0 =
        elemAt (meFmt q) (s.padBytes c (meSrc q + r * meStride q * 32) (packedBytes (meFmt q) (meCols q))) j) ∧
      (t.tcore c).me.shadow = (s.tcore c).me.shadow ∧ (t.tcore c).me.active = (s.tcore c).me.active ∧
      (t.tcore c).me.entries = (s.tcore c).me.entries ∧ t.queueOf c .me = (s.queueOf c .me).drop 1 ∧ t.mem = s.mem) ∧
  (∀ (c code : Nat) (s : State) (q : Quad), s.atHead c .me 0x01 = some q → s.loadsCheck c q = some code → code < 256 →
    ∃ t, exec (.loads c) s = .next t ∧ (t.tcore c).me = (s.tcore c).me ∧ t.fget (R.TC_ME_ERR.refused c) = 1 ∧
      t.fget (R.TC_ME_ERR.code c) = code ∧ t.fget (R.TC_ME_ERR.opcode c) = 1 ∧ t.fget (R.TC_ME_STATUS.halted c) = 1 ∧ t.mem = s.mem) ∧
  (∀ (c : Nat) (s : State) (q : Quad), s.atHead c .me 0x02 = some q → (s.tcore c).me.swapPending = false →
    ∃ t, exec (.swap c) s = .next t ∧ (t.tcore c).me.swapPending = true ∧ (t.tcore c).me.active = (s.tcore c).me.active ∧
      (t.tcore c).me.shadow = (s.tcore c).me.shadow ∧ (t.tcore c).me.entries = (s.tcore c).me.entries ∧
      t.queueOf c .me = (s.queueOf c .me).drop 1 ∧ t.mem = s.mem ∧ t.regs = s.regs) ∧
  (∀ (c : Nat) (s : State) (q : Quad), s.atHead c .me 0x02 = some q → (s.tcore c).me.swapPending = true →
    ∃ t, exec (.swap c) s = .next t ∧ (t.tcore c).me = (s.tcore c).me ∧ t.fget (R.TC_ME_ERR.refused c) = 1 ∧
      t.fget (R.TC_ME_ERR.code c) = 0x0B ∧ t.fget (R.TC_ME_ERR.opcode c) = 2 ∧ t.fget (R.TC_ME_STATUS.halted c) = 1 ∧ t.mem = s.mem) ∧
  (∀ (c : Nat) (s : State) (q : Quad), s.atHead c .me 0x05 = some q → (s.tcore c).me.toVe = none →
    (∀ e ∈ (s.tcore c).me.entries, e.2.nonempty = false) →
    ∃ t, exec (.mode c) s = .next t ∧ t.meMode c = q0 q 8 2 ∧ (t.tcore c).me.active.valid = false ∧
      (t.tcore c).me.shadow.valid = false ∧ (t.tcore c).me.swapPending = false ∧ (t.tcore c).me.deferred = none ∧
      t.queueOf c .me = (s.queueOf c .me).drop 1 ∧ t.mem = s.mem) ∧
  (∀ (c : Nat) (s : State) (q : Quad), s.atHead c .me 0x05 = some q → (s.tcore c).me.toVe = none →
    (∃ e ∈ (s.tcore c).me.entries, e.2.nonempty = true) →
    ∃ t, exec (.mode c) s = .next t ∧ (t.tcore c).me = (s.tcore c).me ∧ t.meMode c = s.meMode c ∧
      t.fget (R.TC_ME_ERR.code c) = 0x06 ∧ t.fget (R.TC_ME_STATUS.halted c) = 1) ∧
  (∀ (c : Nat) (s : State) (errs : List MeError), (s.tcore c).me.toVe ≠ none →
    (∀ q, s.atHead c .me 0x05 = some q → exec (.mode c) s = .next s) ∧
    (∀ q, s.atHead c .me 0x03 = some q → exec (.stream c errs) s = .next s) ∧
    (∀ q, s.atHead c .me 0x04 = some q → exec (.drain c errs) s = .next s)) ∧
  (∀ (c : Nat) (s : State) (q : Quad), s.atHead c .me 0x06 = some q →
    ∃ t, exec (.scale c) s = .next t ∧ t.fget (R.TC_ME_STATUS.out_scale c) = q0 q 8 8 ∧
      (t.tcore c).me.entries = (s.tcore c).me.entries ∧ t.queueOf c .me = (s.queueOf c .me).drop 1 ∧ t.mem = s.mem)

/-- STREAM in square mode: the row check passes, and the entry after is the entry before and the exact sum of the row's
products; or a row fails it, and a sequence starts with the entries and the queue as they were. -/
def Obligations.StreamAddsExactly : Prop :=
  ∀ (c : Nat) (s : State) (q : Quad), s.atHead c .me 0x03 = some q → s.streamCheck c q = none → s.meMode c = 0 →
    (s.tcore c).me.toVe = none → (s.tcore c).me.injectPending = false → s.fget (R.TC_PX_CTL.inject_persist c) = 0 →
    let m := (s.tcore c).me
    let st := m.streamSet
    let wide := meFmt q == 0
    let str := s.readOperand c (meFmt q) (meScale q) (meCount q) st.rows (meSrc q) (meStride q) (meScaleSrc q) (streamScales 0 st q)
    (meAccIn q = false → st.cols ≤ 4096 → (s.streamArr c q [] m.toMeArray).2 = none →
      ∃ t, exec (.stream c []) s = .next t ∧
        (∀ r n, r < meCount q → n < st.cols → (t.tcore c).me.entry r n =
          (m.entry r n).merge wide
            (addTerms wide (fun k => mulTerm (streamNum 0 str r k) (statNum 0 st n k)) st.rows AccEntry.empty)) ∧
        (∀ r n, n < 4096 → (meCount q ≤ r ∨ st.cols ≤ n) → (t.tcore c).me.entry r n = m.entry r n) ∧
        (t.tcore c).me.active = st ∧ (t.tcore c).me.swapPending = false ∧ (t.tcore c).me.px = m.px ∧
        (t.tcore c).me.terms = m.terms + st.rows ∧ (t.tcore c).me.poisoned = (m.poisoned || st.poisoned || str.poisoned) ∧
        t.queueOf c .me = (s.queueOf c .me).drop 1 ∧ t.mem = s.mem ∧ (∀ d, d ≠ c → t.tcore d = s.tcore d)) ∧
    (∀ (errs : List MeError) (i : Nat), (s.streamArr c q (actingErrors (s.colsInUse c) [] errs) m.toMeArray).2 = some i →
      s.fget (R.TC_PX_CTL.replay_off c) = 0 → m.replayLost = false →
      ∃ t x, exec (.stream c errs) s = .next t ∧ (t.tcore c).me.px = some x ∧ x.check = 1 ∧ x.index = i % 1024 ∧ x.phase = 0 ∧
        (t.tcore c).me.entries = m.entries ∧ (t.tcore c).me.lane = m.lane ∧ (t.tcore c).me.active = m.active ∧
        t.queueOf c .me = s.queueOf c .me ∧ t.mem = s.mem ∧ t.regs = s.regs)

/-- The exact accumulator is order-free: tile shape, K order and the number of passes never change an entry, nor what it
drains to; and terms summed apart and merged are the terms added one by one. -/
def Obligations.ExactSumsHaveNoOrder : Prop :=
  ∀ (wide : Bool) (l l' : List (FpNum × Bool)),
    let f := fun (e : AccEntry) (x : FpNum × Bool) => e.add wide x.1 x.2
    l.Perm l' →
    (∀ e : AccEntry, l.foldl f e = l'.foldl f e) ∧
    (∀ (e : AccEntry) (fmt ctl draw : Nat) (sc : Int), (l.foldl f e).drain wide fmt ctl draw sc = (l'.foldl f e).drain wide fmt ctl draw sc) ∧
    (l ≠ [] → ∀ e : AccEntry, e.merge wide (l.foldl f AccEntry.empty) = l'.foldl f e)

/-- DRAIN into the scratchpad, one row, DRAIN with discard, and a DRAIN whose lane entries do not agree: nothing is
written, and a sequence starts. -/
def Obligations.DrainWritesAndEmpties : Prop :=
  (∀ (c : Nat) (s : State) (q : Quad), s.atHead c .me 0x04 = some q → s.drainCheck c q = none → (s.tcore c).me.poisoned = false →
    (s.tcore c).me.toVe = none → (s.tcore c).me.toMeArray.drainFind (s.meMode c) (meDRows q) (meDCols q) = none →
    meDiscard q = false → meToVe q = false → meFmt q ≠ fmtRaw → meDRows q = 1 →
    let out := packElems (meFmt q) ((List.range (meDCols q)).map (fun i =>
      (((s.tcore c).me.entry 0 i).drain (s.tcore c).me.isWide (meFmt q) (meScale q) (if meScale q % 8 = 4 then s.draw c i else 0)
        ((s.fget (R.TC_ME_STATUS.out_scale c) : Int) - 127)).1))
    ∃ t, exec (.drain c []) s = .next t ∧
      (∀ i, i < out.length → t.byte (padBase c + meSrc q + i) = out.getD i 0) ∧
      (∀ a, (a < padBase c + meSrc q ∨ padBase c + meSrc q + out.length ≤ a) → t.byte a = s.byte a) ∧
      (∀ n, n < meDCols q → n < 4096 → (t.tcore c).me.entry 0 n = AccEntry.empty) ∧
      (∀ r n, n < 4096 → (1 ≤ r ∨ meDCols q ≤ n) → (t.tcore c).me.entry r n = (s.tcore c).me.entry r n) ∧
      t.queueOf c .me = (s.queueOf c .me).drop 1) ∧
  (∀ (c : Nat) (s : State) (q : Quad), s.atHead c .me 0x04 = some q → s.drainCheck c q = none → (s.tcore c).me.poisoned = false →
    (s.tcore c).me.toVe = none → (s.tcore c).me.toMeArray.drainFind (s.meMode c) (meDRows q) (meDCols q) = none →
    meDiscard q = true →
    ∃ t, exec (.drain c []) s = .next t ∧ t.mem = s.mem ∧ t.regs = s.regs ∧
      (∀ r n, r < meDRows q → n < meDCols q → n < 4096 → (t.tcore c).me.entry r n = AccEntry.empty) ∧
      t.queueOf c .me = (s.queueOf c .me).drop 1) ∧
  (∀ (c i : Nat) (s : State) (q : Quad), s.atHead c .me 0x04 = some q → s.drainCheck c q = none → (s.tcore c).me.poisoned = false →
    (s.tcore c).me.toVe = none → (s.tcore c).me.toMeArray.drainFind (s.meMode c) (meDRows q) (meDCols q) = some i →
    s.fget (R.TC_PX_CTL.replay_off c) = 0 → (s.tcore c).me.replayLost = false →
    ∃ t x, exec (.drain c []) s = .next t ∧ (t.tcore c).me.px = some x ∧ x.check = 2 ∧ x.index = i % 1024 ∧ x.phase = 0 ∧
      t.queueOf c .me = s.queueOf c .me ∧ t.mem = s.mem ∧ t.regs = s.regs) ∧
  (∀ (c : Nat) (s : State) (q : Quad), s.atHead c .me 0x04 = some q → s.drainCheck c q = none → (s.tcore c).me.poisoned = true →
    (s.tcore c).me.toVe = none →
    ∃ t, exec (.drain c []) s = .next t ∧ t.mem = s.mem ∧ t.fget (R.TC_PX_FAIL.valid c) = 1 ∧ t.fget (R.TC_PX_FAIL.check c) = 6 ∧
      (∀ r n, r < meDRows q → n < meDCols q → n < 4096 → (t.tcore c).me.entry r n = AccEntry.empty) ∧
      t.queueOf c .me = (s.queueOf c .me).drop 1)

/-- PX_RUN_COMPLETE on pushed work in every phase of the search, PX_CORE_RETIRE, PX_HANDLER_TIMEOUT, EXCEPTION_RETURN and
PX_INJECT. A run's outcome is that of executing the tile again with the columns of `half` bypassed. -/
def Obligations.ParallaxSequences : Prop :=
  (∀ (c : Nat) (errs : List MeError) (s : State) (x : PxSeq), c < 512 → (s.tcore c).me.px = some x → (s.tcore c).me.ring = none →
    s.fget (R.TC_PX_CTL.inject_persist c) = 0 →
    let m := (s.tcore c).me
    let r := s.pushedRun c x (actingErrors (s.colsInUse c) x.half errs) []
    let goesOn := fun (y : PxSeq) => ∃ t, exec (.pxRunComplete c errs) s = .next t ∧ (t.tcore c).me.px = some y ∧
      (t.tcore c).me.entries = m.entries ∧ t.queueOf c .me = s.queueOf c .me ∧ t.mem = s.mem ∧ t.regs = s.regs
    -- a first re-execution that passes is a twinkle, and is delivered
    (∀ (q : Quad) (a : MeArray), x.phase = 0 → r.pass = true → m.queue.head? = some q → qOp q = 0x03 → r.arr = some a →
      ∃ t, exec (.pxRunComplete c errs) s = .next t ∧ (t.tcore c).me.px = none ∧ (t.tcore c).me.entries = a.entries ∧
        t.fget (R.TC_PX_CNT.me_twinkles c) = (s.fget (R.TC_PX_CNT.me_twinkles c) + 1) % 2 ^ 16 ∧
        t.queueOf c .me = (s.queueOf c .me).drop 1 ∧ t.mem = s.mem) ∧
    -- one that fails opens the search over the columns in use
    (x.phase = 0 → x.check ≠ 3 → r.pass = false → m.tileRetired < 2 →
      goesOn { x with
        phase := if (s.colsInUse c).length ≤ 1 then 2 else 1
        cand := s.colsInUse c
        half := if (s.colsInUse c).length ≤ 1 then s.colsInUse c else (s.colsInUse c).take ((s.colsInUse c).length / 2)
        allPassed := true }) ∧
    -- with two columns retired in the tile it ends in CHECK_FAIL
    (x.phase = 0 → x.check ≠ 3 → r.pass = false → 2 ≤ m.tileRetired →
      ∃ t, exec (.pxRunComplete c errs) s = .next t ∧ (t.tcore c).me.px = none ∧ (t.tcore c).me.stopped = true ∧
        t.queueOf c .me = [] ∧ t.fget (R.TC_PX_FAIL.valid c) = 1 ∧ t.fget (R.TC_PX_FAIL.check c) = x.check % 8 ∧
        t.fget (R.TC_PX_FAIL.index c) = x.index % 1024 ∧ (excPx, 1) ∈ (t.tcore c).cc.pending ∧ t.mem = s.mem) ∧
    -- the half that fails to clear the mismatch is kept apart from the half that does
    (x.phase = 1 → r.pass = true → 2 ≤ x.half.length →
      goesOn { x with
        phase := 1
        cand := x.half
        half := x.half.take (x.half.length / 2) }) ∧
    (x.phase = 1 → r.pass = false → 2 ≤ (x.cand.filter (fun k => !x.half.contains k)).length →
      let rest := x.cand.filter (fun k => !x.half.contains k)
      goesOn { x with
        phase := 1
        cand := rest
        half := rest.take (rest.length / 2)
        allPassed := false }) ∧
    (x.phase = 1 → r.pass = false → (x.cand.filter (fun k => !x.half.contains k)).length ≤ 1 →
      let rest := x.cand.filter (fun k => !x.half.contains k)
      goesOn { x with
        phase := 2
        cand := rest
        half := rest
        allPassed := false }) ∧
    -- one column left: a last run at full width where every run passed, else that column is retired
    (x.phase = 2 → r.pass = true → x.allPassed = true →
      goesOn { x with
        phase := 3
        half := []
        saved := r.arr
        savedTile := r.tile }) ∧
    (∀ col : Nat, x.phase = 2 → r.pass = true → x.allPassed = false → x.cand = [col] → s.partOfTcore c = none → m.stopped = false →
      ∃ t, exec (.pxRunComplete c errs) s = .next t ∧ (t.tcore c).me.px = none ∧
        t.reg (A.TC_PX_RETIRED c) = s.reg (A.TC_PX_RETIRED c) ||| BitVec.ofNat 64 (2 ^ col) ∧
        t.fget (R.TC_PX_CNT.me_retired c) = (s.fget (R.TC_PX_CNT.me_retired c) + 1) % 2 ^ 16) ∧
    (x.phase = 2 → r.pass = false →
      ∃ t, exec (.pxRunComplete c errs) s = .next t ∧ (t.tcore c).me.px = none ∧ (t.tcore c).me.stopped = true ∧
        t.queueOf c .me = [] ∧ t.fget (R.TC_PX_FAIL.valid c) = 1 ∧ t.fget (R.TC_PX_FAIL.check c) = x.check % 8 ∧
        t.fget (R.TC_PX_FAIL.column c) = x.cand.headD 0 % 64 ∧ (excPx, 1) ∈ (t.tcore c).cc.pending ∧ t.mem = s.mem)) ∧
  (∀ (c k tile : Nat) (s : State) (o : Op), (s.tcore c).me.stopped = true → (s.tcore c).me.px = none →
    (s.tcore c).me.ring = some (k, tile) → s.op k = some o → o.status = none → o.failed = true → s.recs = [] → s.recq = [] →
    ∃ t o', exec (.pxCoreRetire c) s = .next t ∧ t.op k = some o' ∧ o'.status = some 0x20 ∧ o'.progress = 0 ∧ o'.witness = 0 ∧
      (t.tcore c).cc.retired = true) ∧
  (∀ (c : Nat) (s : State), c < 512 → s.pxHandler c = true → s.recs = [] → s.recq = [] →
    ∃ t, exec (.pxHandlerTimeout c) s = .next t ∧ (t.tcore c).cc.retired = true) ∧
  (∀ (u : CoreId) (s : State), s.coreOn u = true → (s.jumbe u).inHandler = true → (∀ c, u = .tc c → s.pxHandler c = false) →
    ∃ t, exec (.exceptionReturn u) s = .next t ∧ (t.jumbe u).inHandler = false ∧ (t.jumbe u).pc = (s.jumbe u).epc ∧
      (t.jumbe u).x = (s.jumbe u).x ∧ (t.jumbe u).f = (s.jumbe u).f ∧ t.mem = s.mem) ∧
  (∀ (c : Nat) (s : State), s.coreOn (.tc c) = true → s.pxHandler c = true → s.recs = [] → s.recq = [] →
    ∃ t, exec (.exceptionReturn (.tc c)) s = .next t ∧ (t.tcore c).cc.retired = true) ∧
  (∀ (c col : Nat) (persist : Bool) (fn : Fn) (s : State), c < 512 → col < 64 → (fn = .pf 0 ∨ fn = .pf 3) →
    ∃ t, exec (.pxInject fn c col persist) s = .next t ∧ (t.tcore c).me.injectPending = true ∧
      t.fget (R.TC_PX_CTL.inject_col c) = col ∧ t.fget (R.TC_PX_CTL.inject_persist c) = persist.toNat ∧ t.mem = s.mem)

/-- The element-wise instructions of the vector engine, their results and their frame. -/
def Obligations.VeLanes : Prop :=
  let a := fun (q : Quad) (v : VeState) (i : Nat) => decodeNum (veFmt q) (v.src1 q i)
  let b := fun (q : Quad) (v : VeState) (i : Nat) => decodeNum (veFmt q) (v.src2 q i)
  ∀ (cmd : Nat → VeErrors → Instr) (op sub : Nat) (f : Quad → VeState → Nat → Nat → Nat × Flags),
    (cmd, op, sub, f) ∈
      ([(.vadd, 0x30, 0, fun q v i d => veDeliver q d (FpNum.add (veDown q) (a q v i) (b q v i))),
        (.vsub, 0x31, 0, fun q v i d => veDeliver q d (FpNum.add (veDown q) (a q v i) (b q v i).neg)),
        (.vmul, 0x32, 0, fun q v i d => veDeliver q d (FpNum.mul (a q v i) (b q v i))),
        (.vfma, 0x33, 0, fun q v i d => veDeliver q d (FpNum.fma (veDown q) (a q v i) (b q v i)
          (decodeNum (veFmt q) (v.elem (veFmt q) (veVs3 q) i)))),
        (.vmin, 0x34, 0, fun q v i _ => vePlain q (minMax false (a q v i) (b q v i))),
        (.vmax, 0x35, 0, fun q v i _ => vePlain q (minMax true (a q v i) (b q v i))),
        (.vminnum, 0x36, 0, fun q v i _ => vePlain q (minMaxNum false (a q v i) (b q v i))),
        (.vmaxnum, 0x37, 0, fun q v i _ => vePlain q (minMaxNum true (a q v i) (b q v i))),
        (.vabs, 0x38, 0, fun q v i _ => vePlain q (vabs (a q v i), .zero)),
        (.vneg, 0x39, 0, fun q v i _ => vePlain q (vneg (a q v i), .zero)),
        (.vand, 0x3A, 0, fun q v i _ => (v.src1 q i &&& v.src2 q i, .zero)),
        (.vor, 0x3A, 1, fun q v i _ => (v.src1 q i ||| v.src2 q i, .zero)),
        (.vxor, 0x3A, 2, fun q v i _ => (v.src1 q i ^^^ v.src2 q i, .zero)),
        (.vshl, 0x3B, 0, fun q v i _ => (shiftBits (fmtBits (veFmt q)) false (v.src1 q i) (v.src2 q i), .zero)),
        (.vshr, 0x3B, 1, fun q v i _ => (shiftBits (fmtBits (veFmt q)) true (v.src1 q i) (v.src2 q i), .zero)),
        (.vcvt, 0x23, 0, fun q v i d => if veSub q = veFmt q then (v.src1 q i, .zero)
          else convertBits (veFmt q) (veSub q) (veMode q d) (bit (veCtl q) 3) (v.src1 q i)),
        (.vdiv, 0x3C, 0, fun q v i d => veDeliver q d (FpNum.div (a q v i) (b q v i))),
        (.vsqrt, 0x3D, 0, fun q v i d => veDeliver q d (FpNum.sqrt (a q v i))),
        (.vtr, 0x50, 0, fun q v i _ => vtr (veSub q) (veFmt q) (v.src1 q i))] :
        List ((Nat → VeErrors → Instr) × Nat × Nat × (Quad → VeState → Nat → Nat → Nat × Flags))) →
    ∀ (c : Nat) (err : VeErrors) (s : State) (q : Quad), s.atHead c .ve op = some q → vePushOk q = true →
      (op = 0x3A ∨ op = 0x3B → veSub q = sub) → err.first = [] →
      let v := (s.tcore c).ve
      let r := fun (i : Nat) => f q v i (if veCtl q % 8 = 4 then s.draw c ((v.activeList q).idxOf i) else 0)
      ∃ t, exec (cmd c err) s = .next t ∧
        (∀ i, i < veCount q → v.active q i = true →
          (t.tcore c).ve.elem (veOutFmt q) (veVd q) i = (r i).1 % 2 ^ fmtBits (veOutFmt q)) ∧
        (∀ i, veCount q ≤ i ∨ v.active q i = false →
          (t.tcore c).ve.elem (veOutFmt q) (veVd q) i = v.elem (veOutFmt q) (veVd q) i) ∧
        (∀ w k, w ≠ veVd q → k < 4096 → (t.tcore c).ve.elem 1 w k = v.elem 1 w k) ∧
        (t.tcore c).ve.preds = v.preds ∧ (t.tcore c).ve.stream = v.stream ∧
        (veRedOp q = 0 → (t.tcore c).ve.slots = v.slots ∧
          t.reg (A.TC_NUM_FLAGS c) = s.reg (A.TC_NUM_FLAGS c) |||
            BitVec.ofNat 64 (((v.activeList q).foldl (fun (fl : Flags) i => fl.or (r i).2) .zero).bits * 256)) ∧
        t.fget (R.TC_NUM_SR_CTR.sr_ctr c) = (s.fget (R.TC_NUM_SR_CTR.sr_ctr c) +
          (if veCtl q % 8 = 4 then ((v.activeList q).length + 3) / 4 else 0)) % 2 ^ 64 ∧
        (t.tcore c).ve.queue = v.queue.drop 1 ∧ (t.tcore c).me = (s.tcore c).me ∧ (t.tcore c).fe = (s.tcore c).fe ∧
        (t.tcore c).cc = (s.tcore c).cc ∧ (∀ e, e ≠ c → t.tcore e = s.tcore e) ∧ t.mem = s.mem

/-- A lane error: in mirror mode every flip of a result is found, and outside it one in the significand of an arithmetic
lane operation by the residue; the re-execution that passes is a twinkle, one that fails too leaves everything as it was
and stops the engine. The operations R184 leaves unchecked go on. -/
def Obligations.VeFailedCheck : Prop :=
  ∀ (cmd : Nat → VeErrors → Instr) (op : Nat) (sub : Option Nat) (checked : Quad → Bool),
    (cmd, op, sub, checked) ∈ ([(.vld, 0x20, none, fun q => veMemFmt q != veFmt q), (.vst, 0x21, none, fun q => veMemFmt q != veFmt q),
      (.vmov, 0x22, some 0, fun _ => false), (.vbcast, 0x22, some 1, fun _ => false), (.vcvt, 0x23, none, fun q => veSub q != veFmt q),
      (.vadd, 0x30, none, fun _ => true), (.vsub, 0x31, none, fun _ => true), (.vmul, 0x32, none, fun _ => true),
      (.vfma, 0x33, none, fun _ => true), (.vmin, 0x34, none, fun _ => false), (.vmax, 0x35, none, fun _ => false),
      (.vminnum, 0x36, none, fun _ => false), (.vmaxnum, 0x37, none, fun _ => false), (.vabs, 0x38, none, fun _ => true),
      (.vneg, 0x39, none, fun _ => true), (.vand, 0x3A, some 0, fun _ => false), (.vor, 0x3A, some 1, fun _ => false),
      (.vxor, 0x3A, some 2, fun _ => false), (.vshl, 0x3B, some 0, fun _ => false), (.vshr, 0x3B, some 1, fun _ => false),
      (.vdiv, 0x3C, none, fun _ => true), (.vsqrt, 0x3D, none, fun _ => true), (.vcmp, 0x40, none, fun _ => false),
      (.vtotord, 0x41, none, fun _ => false), (.vsel, 0x42, none, fun _ => false), (.vtr, 0x50, none, fun _ => false),
      (.vseg, 0x58, none, fun q => decide (veSub q % 4 = 0 ∨ veSub q % 4 = 3)),
      (.vrecv, 0x60, none, fun q => decide (veSub q = 1 ∨ veSub q = 2)), (.vrget, 0x61, none, fun _ => false)] :
      List ((Nat → VeErrors → Instr) × Nat × Option Nat × (Quad → Bool))) →
    ∀ (c f : Nat) (err : VeErrors) (s : State) (q : Quad), c < 512 → s.atHead c .ve op = some q → vePushOk q = true →
      (sub = none ∨ sub = some (veSub q)) → (s.tcore c).ve.active q 0 = true →
      (op = 0x20 → ∀ i ∈ (s.tcore c).ve.activeList q,
        s.poisonedIn (padBase c + (bitSpan (veBitAt q i) (fmtBits (veMemFmt q))).1) (bitSpan (veBitAt q i) (fmtBits (veMemFmt q))).2 = false) →
      (op = 0x60 → veCount q ≤ (s.tcore c).ve.stream.length ∧ ∀ e ∈ (s.tcore c).ve.stream.take (veCount q), e.1 = veFmt q) →
      (op = 0x61 → isFloat (veFmt q) = true ∨ isFloat ((s.tcore c).ve.slots.getD (veRedSlot q) .empty).fmt = false) →
      err.first = [(0, f)] → f % 2 = 1 →
      let m := s.fon (R.TC_VE_STATUS.mirror_active c)
      ((checked q = true ∨ m = true) → err.second = err.first →
        ∃ t, exec (cmd c err) s = .next t ∧ (t.tcore c).ve = { (s.tcore c).ve with queue := [], stopped := true } ∧
          t.fget (R.TC_PX_FAIL.valid c) = 1 ∧ t.fget (R.TC_PX_FAIL.check c) = (if m = true then 5 else 4) ∧
          (excPx, 2) ∈ (t.tcore c).cc.pending ∧ t.reg (A.TC_NUM_FLAGS c) = s.reg (A.TC_NUM_FLAGS c) ∧
          (t.tcore c).me = (s.tcore c).me ∧ (t.tcore c).fe = (s.tcore c).fe ∧ (∀ e, e ≠ c → t.tcore e = s.tcore e) ∧ t.mem = s.mem) ∧
      ((checked q = true ∨ m = true) → err.second = [] →
        ∃ t u, exec (cmd c err) s = .next t ∧ exec (cmd c ⟨[], []⟩) s = .next u ∧ (t.tcore c).ve = (u.tcore c).ve ∧ t.mem = u.mem ∧
          t.reg (A.TC_NUM_FLAGS c) = u.reg (A.TC_NUM_FLAGS c) ∧
          t.fget (R.TC_PX_CNT.ve_twinkles c) = (s.fget (R.TC_PX_CNT.ve_twinkles c) + 1) % 2 ^ 16) ∧
      (checked q = false → m = false →
        ∃ t, exec (cmd c err) s = .next t ∧ (t.tcore c).ve.queue = (s.tcore c).ve.queue.drop 1 ∧
          (t.tcore c).ve.stopped = (s.tcore c).ve.stopped ∧ t.reg (A.TC_PX_CNT c) = s.reg (A.TC_PX_CNT c) ∧
          t.reg (A.TC_PX_FAIL c) = s.reg (A.TC_PX_FAIL c))

/-- VMOV, VBCAST, VSEL, VCMP, VTOTORD and MIRROR_MODE_APPLY. -/
def Obligations.VeCopiesAndPredicates : Prop :=
  (∀ (c : Nat) (err : VeErrors) (s : State) (q : Quad), err.first = [] → s.atHead c .ve 0x22 = some q → vePushOk q = true →
    let v := (s.tcore c).ve
    (veSub q = 0 →
      ∃ t, exec (.vmov c err) s = .next t ∧ (t.tcore c).ve.queue = v.queue.drop 1 ∧ t.mem = s.mem ∧
        (t.tcore c).ve.preds = v.preds ∧ (t.tcore c).cc = (s.tcore c).cc ∧ (∀ e, e ≠ c → t.tcore e = s.tcore e) ∧
        ∀ i, (t.tcore c).ve.elem (veFmt q) (veVd q) i =
          if i < veCount q ∧ v.active q i = true then v.elem (veFmt q) (veVs1 q) i else v.elem (veFmt q) (veVd q) i) ∧
    (veSub q = 1 →
      ∃ t, exec (.vbcast c err) s = .next t ∧ (t.tcore c).ve.queue = v.queue.drop 1 ∧ t.mem = s.mem ∧
        (t.tcore c).ve.preds = v.preds ∧ (t.tcore c).ve.slots = v.slots ∧ (∀ e, e ≠ c → t.tcore e = s.tcore e) ∧
        ∀ i, (t.tcore c).ve.elem (veFmt q) (veVd q) i =
          if i < veCount q ∧ v.active q i = true then q1 q 0 64 % 2 ^ fmtBits (veFmt q) else v.elem (veFmt q) (veVd q) i)) ∧
  (∀ (c : Nat) (err : VeErrors) (s : State) (q : Quad), s.atHead c .ve 0x42 = some q → vePushOk q = true → err.first = [] →
    let v := (s.tcore c).ve
    ∃ t, exec (.vsel c err) s = .next t ∧ (t.tcore c).ve.queue = v.queue.drop 1 ∧ t.mem = s.mem ∧
      (t.tcore c).ve.preds = v.preds ∧ (∀ e, e ≠ c → t.tcore e = s.tcore e) ∧
      ∀ i, (t.tcore c).ve.elem (veFmt q) (veVd q) i =
        if i < veCount q then (if v.pred (vePsel q) i != vePredNeg q then v.src1 q i else v.src2 q i)
        else v.elem (veFmt q) (veVd q) i) ∧
  (∀ (cmd : Nat → VeErrors → Instr) (op : Nat) (p : Quad → Nat → Nat → Bool),
    (cmd, op, p) ∈ ([(.vcmp, 0x40, fun q x y =>
        (compareNum (vcmpPred (veSub q)).1 (vcmpPred (veSub q)).2 (decodeNum (veFmt q) x) (decodeNum (veFmt q) y)).1),
      (.vtotord, 0x41, fun q x y => vtot (veFmt q) x y)] : List ((Nat → VeErrors → Instr) × Nat × (Quad → Nat → Nat → Bool))) →
    ∀ (c : Nat) (err : VeErrors) (s : State) (q : Quad), s.atHead c .ve op = some q → vePushOk q = true → err.first = [] →
      let v := (s.tcore c).ve
      ∃ t, exec (cmd c err) s = .next t ∧ (t.tcore c).ve.queue = v.queue.drop 1 ∧ t.mem = s.mem ∧
        (t.tcore c).ve.vregs = v.vregs ∧ (t.tcore c).ve.slots = v.slots ∧ (∀ e, e ≠ c → t.tcore e = s.tcore e) ∧
        ∀ w i, i < 4096 → (t.tcore c).ve.pred w i =
          if w = veVs3 q ∧ i < veCount q ∧ v.active q i = true then p q (v.src1 q i) (v.src2 q i) else v.pred w i) ∧
  (∀ (c : Nat) (s : State), c < 512 →
    ((s.tcore c).ve.queue = [] →
      ∃ t, exec (.mirrorModeApply c) s = .next t ∧ t.fget (R.TC_VE_STATUS.mirror_active c) = s.fget (R.TC_PX_CTL.mirror_en c) ∧
        t.tcores = s.tcores ∧ t.mem = s.mem) ∧
    ((s.tcore c).ve.queue ≠ [] → exec (.mirrorModeApply c) s = .next s))

/-- VLD and VST on the scratchpad. -/
def Obligations.VeMemoryOperands : Prop :=
  (∀ (c : Nat) (err : VeErrors) (s : State) (q : Quad), s.atHead c .ve 0x20 = some q → vePushOk q = true → err.first = [] →
    let v := (s.tcore c).ve
    let b := fmtBits (veMemFmt q)
    let sp := fun (i : Nat) => bitSpan (veBitAt q i) b
    ((∀ i ∈ v.activeList q, s.poisonedIn (padBase c + (sp i).1) (sp i).2 = false) →
      ∃ t, exec (.vld c err) s = .next t ∧ t.mem = s.mem ∧ (t.tcore c).ve.queue = v.queue.drop 1 ∧
        (t.tcore c).ve.preds = v.preds ∧ (t.tcore c).cc = (s.tcore c).cc ∧ (∀ e, e ≠ c → t.tcore e = s.tcore e) ∧
        (∀ w k, w ≠ veVd q → k < 4096 → (t.tcore c).ve.elem 1 w k = v.elem 1 w k) ∧
        ∀ i, (t.tcore c).ve.elem (veFmt q) (veVd q) i =
          if i < veCount q ∧ v.active q i = true then
            (let x := s.padBits c (veBitAt q i) b
             if veMemFmt q = veFmt q then x
             else (convertBits (veMemFmt q) (veFmt q) (veMode q (if veCtl q % 8 = 4 then s.draw c ((v.activeList q).idxOf i) else 0))
               (bit (veCtl q) 3) x).1) % 2 ^ fmtBits (veFmt q)
          else v.elem (veFmt q) (veVd q) i) ∧
    ((∃ i ∈ v.activeList q, s.poisonedIn (padBase c + (sp i).1) (sp i).2 = true) →
      ∃ t, exec (.vld c err) s = .next t ∧ t.mem = s.mem ∧ (t.tcore c).ve = v ∧ t.fget (R.TC_VE_STATUS.halted c) = 1 ∧
        t.fget (R.TC_VE_STATUS.halt_code c) = 3 ∧ (excVe, 2) ∈ (t.tcore c).cc.pending)) ∧
  (∀ (c : Nat) (err : VeErrors) (s : State) (q : Quad), s.atHead c .ve 0x21 = some q → vePushOk q = true → err.first = [] →
    let v := (s.tcore c).ve
    let b := fmtBits (veMemFmt q)
    let sp := fun (i : Nat) => bitSpan (veBitAt q i) b
    ∃ t, exec (.vst c err) s = .next t ∧ (t.tcore c).ve = { v with queue := v.queue.drop 1 } ∧
      (t.tcore c).cc = (s.tcore c).cc ∧ (∀ e, e ≠ c → t.tcore e = s.tcore e) ∧
      (∀ i ∈ v.activeList q, t.padBits c (veBitAt q i) b =
        (if veMemFmt q = veFmt q then v.src1 q i
         else (convertBits (veFmt q) (veMemFmt q) (veMode q (if veCtl q % 8 = 4 then s.draw c ((v.activeList q).idxOf i) else 0))
           (bit (veCtl q) 3) (v.src1 q i)).1) % 2 ^ b) ∧
      -- the unused bits of a packed operand's last group are zero where an element of that group is stored
      (let group := if b = 6 then 4 else if b = 4 then 2 else 1
       let total := 8 * packedBytes (veMemFmt q) (veCount q)
       veStride q = 1 → (∃ i ∈ v.activeList q, (veCount q - 1) / group ≤ i / group) →
         t.padBits c (8 * veAddr q + veCount q * b) (total - veCount q * b) = 0) ∧
      (∀ a, (∀ i ∈ v.activeList q, a < padBase c + (sp i).1 ∨ padBase c + (sp i).1 + (sp i).2 ≤ a) →
        (veStride q = 1 → a < padBase c + veAddr q ∨ padBase c + veAddr q + packedBytes (veMemFmt q) (veCount q) ≤ a) →
        t.byte a = s.byte a))

/-- VSEG; VRECV from the stream, from a DRAIN that waits for it, and waiting itself; an exact tap; VRGET, and its refusal of an
integer format for a floating-point slot. -/
def Obligations.VeReductions : Prop :=
  (∀ (c : Nat) (err : VeErrors) (s : State) (q : Quad), s.atHead c .ve 0x58 = some q → vePushOk q = true → err.first = [] →
    let v := (s.tcore c).ve
    let g := 2 ^ (veSub q / 4)
    let grp := fun (j : Nat) => vsegGroup q ((List.range g).map (fun k =>
      if j * g + k < veCount q ∧ v.active q (j * g + k) = true then some (v.src1 q (j * g + k)) else none))
    ∃ t, exec (.vseg c err) s = .next t ∧ (t.tcore c).ve.queue = v.queue.drop 1 ∧ t.mem = s.mem ∧
      (t.tcore c).ve.preds = v.preds ∧ (∀ e, e ≠ c → t.tcore e = s.tcore e) ∧
      ∀ i, (t.tcore c).ve.elem (veOutFmt q) (veVd q) i =
        if i < (veCount q + g - 1) / g then
          (match grp i with | some r => r.1 % 2 ^ fmtBits (veOutFmt q) | none => v.elem (veOutFmt q) (veVd q) i)
        else v.elem (veOutFmt q) (veVd q) i) ∧
  (∀ (c : Nat) (err : VeErrors) (s : State) (q : Quad), s.atHead c .ve 0x60 = some q → vePushOk q = true →
    let v := (s.tcore c).ve
    let n := veCount q
    ((∃ e ∈ v.stream.take n, e.1 ≠ veFmt q) →
      ∃ t, exec (.vrecv c err) s = .next t ∧ (t.tcore c).ve = v ∧ t.fget (R.TC_VE_STATUS.halted c) = 1 ∧
        t.fget (R.TC_VE_STATUS.halt_code c) = 1 ∧ t.mem = s.mem) ∧
    ((∀ e ∈ v.stream.take n, e.1 = veFmt q) → v.stream.length < n → (s.tcore c).me.toVe = none →
      exec (.vrecv c err) s = .next s ∧
        (v.stopped = false → s.fget (R.TC_VE_STATUS.halted c) = 0 → getField (s.veStatusWord c) 2 1 = 1)) ∧
    (∀ d, (s.tcore c).me.toVe = some d → v.stream.length < n → meFmt d.q ≠ veFmt q →
      ∃ t, exec (.vrecv c err) s = .next t ∧ (t.tcore c).ve = v ∧ t.fget (R.TC_VE_STATUS.halted c) = 1 ∧
        t.fget (R.TC_VE_STATUS.halt_code c) = 1 ∧ t.mem = s.mem) ∧
    -- a drain as long as the VRECV, of which nothing was taken yet
    (∀ d, (s.tcore c).me.toVe = some d → d.ctr = none → d.taken = 0 → v.stream = [] → meFmt d.q = veFmt q →
      meDRows d.q * meDCols d.q = n → veSub q = 0 → err.first = [] →
      ∃ t, exec (.vrecv c err) s = .next t ∧ (t.tcore c).me.toVe = none ∧ (t.tcore c).ve.stream = [] ∧
        (t.tcore c).ve.queue = v.queue.drop 1 ∧ t.mem = s.mem ∧
        (∀ r j, r < meDRows d.q → j < meDCols d.q → j < 4096 → (t.tcore c).me.entry r j = AccEntry.empty) ∧
        ∀ i, (t.tcore c).ve.elem (veFmt q) (veVd q) i =
          if i < n ∧ v.active q i = true then
            (s.drainOutputs c d.q d.outScale (s.fget (R.TC_NUM_SR_CTR.sr_ctr c))).1.getD i 0 % 2 ^ fmtBits (veFmt q)
          else v.elem (veFmt q) (veVd q) i) ∧
    ((∀ e ∈ v.stream.take n, e.1 = veFmt q) → n ≤ v.stream.length → err.first = [] →
      ∃ t, exec (.vrecv c err) s = .next t ∧ (t.tcore c).ve.stream = v.stream.drop n ∧ (t.tcore c).ve.queue = v.queue.drop 1 ∧
        (t.tcore c).me = (s.tcore c).me ∧ t.mem = s.mem ∧ (∀ e, e ≠ c → t.tcore e = s.tcore e) ∧
        ∀ i, (t.tcore c).ve.elem (veFmt q) (veVd q) i =
          if i < n ∧ v.active q i = true then
            (let x := (v.stream.getD i (0, 0)).2
             let a := decodeNum (veFmt q) x
             let b := decodeNum (veFmt q) (v.src1 q i)
             let d := if veCtl q % 8 = 4 then s.draw c ((v.activeList q).idxOf i) else 0
             match veSub q with
             | 0 => x
             | 1 => (veDeliver q d (FpNum.add (veDown q) a b)).1
             | 2 => (veDeliver q d (FpNum.mul a b)).1
             | _ => (vePlain q (minMax true a b)).1) % 2 ^ fmtBits (veFmt q)
          else v.elem (veFmt q) (veVd q) i)) ∧
  (∀ (c : Nat) (err : VeErrors) (s : State) (q : Quad), err.first = [] → s.atHead c .ve 0x30 = some q → vePushOk q = true → veFmt q = 1 → veRedOp q = 1 →
    veRedExact q = true → veRedReset q = true → vePredEn q = false → (s.tcore c).ve.slots.length = 4 →
    ∃ t slot, exec (.vadd c err) s = .next t ∧ (t.tcore c).ve.slots[veRedSlot q]? = some slot ∧ slot.nonempty = true ∧
      slot.count = veCount q ∧ slot.mixed = false ∧
      slot.entry = (List.range (veCount q)).foldl (fun e i =>
        e.add false (decodeNum 1 ((t.tcore c).ve.elem 1 (veVd q) i)) false) AccEntry.empty ∧
      (∀ k, k ≠ veRedSlot q → (t.tcore c).ve.slots[k]? = (s.tcore c).ve.slots[k]?)) ∧
  (∀ (c : Nat) (err : VeErrors) (s : State) (q : Quad), s.atHead c .ve 0x61 = some q → vePushOk q = true → err.first = [] →
    let v := (s.tcore c).ve
    let slot := v.slots.getD (veRedSlot q) .empty
    (isFloat (veFmt q) = true ∨ slot.nonempty = false ∨ isFloat slot.fmt = false →
      ∃ t, exec (.vrget c err) s = .next t ∧ (t.tcore c).ve.queue = v.queue.drop 1 ∧ t.mem = s.mem ∧ (t.tcore c).ve.preds = v.preds ∧
        (veCount q = 1 → (t.tcore c).ve.elem (veFmt q) (veVd q) 0 =
          if v.active q 0 = true then
            (slot.read (veFmt q) (veCtl q) (if veCtl q % 8 = 4 then s.draw c 0 else 0) (Config.mixedSlot s.free)).1 % 2 ^ fmtBits (veFmt q)
          else v.elem (veFmt q) (veVd q) 0) ∧
        (veCount q = 3 → (slot.op = 4 ∨ slot.op = 5) → v.active q 1 = true → v.active q 2 = true →
          (t.tcore c).ve.elem 0x12 (veVd q) 1 + 2 ^ 32 * (t.tcore c).ve.elem 0x12 (veVd q) 2 = slot.readIndex) ∧
        (veSub q = 1 → (t.tcore c).ve.slots = v.slots) ∧
        (veSub q = 0 → v.slots.length = 4 → ∃ e, (t.tcore c).ve.slots[veRedSlot q]? = some e ∧ e.nonempty = false ∧ e.count = 0) ∧
        (∀ k, k ≠ veRedSlot q → (t.tcore c).ve.slots[k]? = v.slots[k]?)) ∧
    (isFloat (veFmt q) = false → slot.nonempty = true → isFloat slot.fmt = true →
      ∃ t, exec (.vrget c err) s = .next t ∧ (t.tcore c).ve = v ∧ t.fget (R.TC_VE_STATUS.halted c) = 1 ∧
        t.fget (R.TC_VE_STATUS.halt_code c) = 1 ∧ t.mem = s.mem))

/-- The exact accumulator of a Jumbe core. -/
def Obligations.ExactAccumulator : Prop :=
  (∀ (u : CoreId) (s : State), s.coreOn u = true →
    ∃ t, exec (.xclr u) s = .next t ∧ (t.jumbe u).xacc = AccEntry.empty ∧ (t.jumbe u).xaccTerms = 0 ∧
      (t.jumbe u).pc = (s.jumbe u).pc + 4 ∧ (t.jumbe u).f = (s.jumbe u).f ∧ (t.jumbe u).x = (s.jumbe u).x ∧
      (t.jumbe u).fpsr = (s.jumbe u).fpsr ∧ (∀ w, w ≠ u → t.jumbe w = s.jumbe w) ∧ t.mem = s.mem) ∧
  (∀ (cmd : Instr) (u : CoreId) (terms : Jumbe → List (FpNum × Flags)) (s : State), s.coreOn u = true →
    (∃ a b, cmd = .xdot u a b ∧ (s.jumbe u).ready [.f a, .f b, .acc] = true ∧ terms = fun j => [0, 1].map (fun i =>
      FpNum.mul (decodeNum 0 (j.elem a 64 i)) (decodeNum 0 (j.elem b 64 i)))) ∨
    (∃ a, cmd = .xadd u a ∧ (s.jumbe u).ready [.f a, .acc] = true ∧ terms = fun j => [0, 1].map (fun i => (decodeNum 0 (j.elem a 64 i), Flags.zero))) →
    ((s.jumbe u).xaccTerms + 2 ≤ 2 ^ 40 →
      ∃ t, exec cmd s = .next t ∧
        (t.jumbe u).xacc = (terms (s.jumbe u)).foldl (fun e m => e.add true m.1 m.2.invalid) (s.jumbe u).xacc ∧
        (t.jumbe u).xaccTerms = (s.jumbe u).xaccTerms + 2 ∧ (t.jumbe u).pc = (s.jumbe u).pc + 4 ∧
        (t.jumbe u).f = (s.jumbe u).f ∧ (t.jumbe u).x = (s.jumbe u).x ∧ (t.jumbe u).fpsr = (s.jumbe u).fpsr ∧
        (∀ w, w ≠ u → t.jumbe w = s.jumbe w) ∧ t.mem = s.mem) ∧
    (2 ^ 40 < (s.jumbe u).xaccTerms + 2 →
      ∃ t, exec cmd s = .next t ∧ (t.jumbe u).xacc = (s.jumbe u).xacc ∧ (t.jumbe u).xaccTerms = (s.jumbe u).xaccTerms ∧
        (t.jumbe u).causeCode = 4 ∧ (t.jumbe u).inHandler = true ∧ (t.jumbe u).epc = (s.jumbe u).pc ∧ t.mem = s.mem)) ∧
  (∀ (u : CoreId) (fd func : Nat) (m : RMode) (s : State), s.coreOn u = true → (s.jumbe u).ready [.acc] = true → (s.jumbe u).rmode = some m →
    let r := AccEntry.drain true (s.jumbe u).xacc 0 (getField (s.jumbe u).fpsr 8 3) 0 0
    ∃ t, exec (.xrnd u fd func) s = .next t ∧ (t.jumbe u).fr fd = BitVec.ofNat 128 r.1 ∧
      (∀ k, k % 32 ≠ fd % 32 → (t.jumbe u).fr k = (s.jumbe u).fr k) ∧
      (t.jumbe u).fpsr = (s.jumbe u).fpsr ||| BitVec.ofNat 64 (r.2.bits % 64) ∧
      (t.jumbe u).xacc = (if bit func 0 = true then AccEntry.empty else (s.jumbe u).xacc) ∧
      (t.jumbe u).xaccTerms = (if bit func 0 = true then 0 else (s.jumbe u).xaccTerms) ∧
      (t.jumbe u).pc = (s.jumbe u).pc + 4 ∧ (t.jumbe u).x = (s.jumbe u).x ∧ t.mem = s.mem) ∧
  (∀ (u : CoreId) (fd func : Nat) (s : State), s.coreOn u = true → (s.jumbe u).ready [.acc] = true → (s.jumbe u).rmode = none →
    ∃ t, exec (.xrnd u fd func) s = .next t ∧ (t.jumbe u).causeCode = 1 ∧ (t.jumbe u).epc = (s.jumbe u).pc ∧
      (t.jumbe u).xacc = (s.jumbe u).xacc ∧ (t.jumbe u).f = (s.jumbe u).f ∧ t.mem = s.mem) ∧
  (∀ (wide : Bool) (e : AccEntry), e.pos = decide (e.cls = .posInf) → e.neg = decide (e.cls = .negInf) → -(2 : Int) ^ (entryBits wide - 1) ≤ e.value → e.value < 2 ^ (entryBits wide - 1) →
    AccEntry.ofRaw wide (e.raw wide) = e ∧ (e.raw wide).length = entryBytes wide)

/-- VECTOR_ARITH, WIDENING_MULTIPLY, DOT_PRODUCT and SCALAR_FP_OP, in every group size a core has; a form that does not
exist, and a reserved rounding mode, trap. -/
def Obligations.JumbeArithmetic : Prop :=
  (∀ (u : CoreId) (op : AluOp) (word : BitVec 32) (m : RMode) (s : State),
    let v := VecFields.ofWord word
    let j := s.jumbe u
    let t0 := etypeOf v.etype (bit v.func 0)
    let g := grpRegs v.grp
    let mode := if opRounds op && isFpType t0 then m else .rne
    let r := fun (i : Nat) => elemOf t0 mode op (j.elem v.fs1 t0.bits i) (j.elem v.fs2 t0.bits i) (j.elem v.fd t0.bits i)
    s.coreOn u = true → v.isArith = true → op ≠ .convert → (isFp8 t0 = false ∨ op = .move) → hasGrp u v.grp = true → j.rmode = some m →
    j.ready ((opSources op v.fs1 v.fs2).flatMap (fun f => groupSrcs f g) ++ (if readsDest op then groupSrcs v.fd g else [])) = true →
    aligned v.fd g = true → aligned v.fs1 g = true →
    (∀ f ∈ opSources op v.fs1 v.fs2, aligned f g = true ∧ (v.grp = 0 ∨ grpOk v.fd g f g = true)) →
    ∃ t, exec (.vectorArith u op word) s = .next t ∧
      (∀ i, i < 128 * g / t0.bits → (t.jumbe u).elem v.fd t0.bits i = (r i).1 % 2 ^ t0.bits) ∧
      (∀ k, k < 32 → (k < v.fd ∨ v.fd + g ≤ k) → (t.jumbe u).fr k = j.fr k) ∧
      (t.jumbe u).fpsr = j.fpsr ||| BitVec.ofNat 64
        (((List.range (128 * g / t0.bits)).foldl (fun (fl : Flags) i => fl.or (r i).2) .zero).bits % 64) ∧
      (t.jumbe u).pc = j.pc + 4 ∧ (t.jumbe u).x = j.x ∧ (t.jumbe u).xacc = j.xacc ∧
      (∀ w, w ≠ u → t.jumbe w = s.jumbe w) ∧ t.mem = s.mem) ∧
  (∀ (u : CoreId) (word : BitVec 32) (m : RMode) (s : State),
    let v := VecFields.ofWord word
    let j := s.jumbe u
    let a := etypeOf v.etype (bit v.func 0)
    let b := convertTo v.fs2
    let n := 128 * grpRegs v.grp / Nat.max a.bits b.bits
    let ga := (n * a.bits + 127) / 128
    let gb := (n * b.bits + 127) / 128
    let mode := if (isFpType a || isFpType b) && a != b then m else .rne
    s.coreOn u = true → v.isArith = true → hasGrp u v.grp = true → j.ready (groupSrcs v.fs1 ga ++ groupSrcs v.fd gb) = true →
    aligned v.fs1 ga = true → aligned v.fd gb = true → (v.grp = 0 ∨ grpOk v.fd gb v.fs1 ga = true) → j.rmode = some m →
    ∃ t, exec (.vectorArith u .convert word) s = .next t ∧
      (∀ i, i < n → (t.jumbe u).elem v.fd b.bits i = (convertElem a b mode j.e4m3nan (j.elem v.fs1 a.bits i)).1 % 2 ^ b.bits) ∧
      (∀ k, k < 32 → (k < v.fd ∨ v.fd + gb ≤ k) → (t.jumbe u).fr k = j.fr k) ∧ (t.jumbe u).pc = j.pc + 4 ∧
      (t.jumbe u).x = j.x ∧ t.mem = s.mem) ∧
  (∀ (u : CoreId) (word : BitVec 32) (w : EType × EType) (m : RMode) (s : State),
    let v := VecFields.ofWord word
    let j := s.jumbe u
    let g := grpRegs v.grp
    let whole := v.grp ≠ 0 ∨ bit v.func 1 = true
    let gd := if whole then 2 * g else 1
    let n := if whole then 128 * g / w.1.bits else 64 / w.1.bits
    let at_ := if ¬ whole ∧ bit v.func 0 = true then n else 0
    let mode := if isFpType w.1 then m else .rne
    s.coreOn u = true → v.isArith = true → v.grp < 3 → hasGrp u v.grp = true → (whole → hasGrp u 1 = true) →
    j.ready (groupSrcs v.fs1 g ++ groupSrcs v.fs2 g) = true → aligned v.fd gd = true → aligned v.fs1 g = true → aligned v.fs2 g = true →
    (whole → grpOk v.fd gd v.fs1 g = true ∧ grpOk v.fd gd v.fs2 g = true) → widenTypes v.etype = some w → j.rmode = some m →
    ∃ t, exec (.wideningMultiply u word) s = .next t ∧
      (∀ i, i < n → (t.jumbe u).elem v.fd w.2.bits i =
        (widenElem w mode (j.elem v.fs1 w.1.bits (at_ + i)) (j.elem v.fs2 w.1.bits (at_ + i))).1 % 2 ^ w.2.bits) ∧
      (∀ k, k < 32 → (k < v.fd ∨ v.fd + gd ≤ k) → (t.jumbe u).fr k = j.fr k) ∧ (t.jumbe u).pc = j.pc + 4 ∧
      (t.jumbe u).x = j.x ∧ t.mem = s.mem) ∧
  (∀ (u : CoreId) (word : BitVec 32) (k : Nat) (a b d : EType) (m : RMode) (s : State),
    let v := VecFields.ofWord word
    let j := s.jumbe u
    let g := grpRegs v.grp
    s.coreOn u = true → v.isArith = true → hasGrp u v.grp = true → j.ready (groupSrcs v.fs1 g ++ groupSrcs v.fs2 g ++ groupSrcs v.fd g) = true →
    aligned v.fd g = true → aligned v.fs1 g = true → aligned v.fs2 g = true →
    (v.grp = 0 ∨ (grpOk v.fd g v.fs1 g = true ∧ grpOk v.fd g v.fs2 g = true)) →
    dotTypes v.etype v.func = some (a, b, k, d) → j.rmode = some m →
    ∃ t, exec (.dotProduct u word) s = .next t ∧
      (∀ l, l < 128 * g / d.bits → (t.jumbe u).elem v.fd d.bits l =
        (dotLane a b d (getField j.fpsr 8 4) ((List.range k).map (fun i =>
          (j.elem v.fs1 a.bits (k * l + i), j.elem v.fs2 b.bits (k * l + i)))) (j.elem v.fd d.bits l)).1 % 2 ^ d.bits) ∧
      (∀ r, r < 32 → (r < v.fd ∨ v.fd + g ≤ r) → (t.jumbe u).fr r = j.fr r) ∧ (t.jumbe u).pc = j.pc + 4 ∧
      (t.jumbe u).x = j.x ∧ t.mem = s.mem) ∧
  (∀ (u : CoreId) (op : AluOp) (fmt fd fs1 fs2 : Nat) (m : RMode) (s : State),
    let j := s.jumbe u
    let b := fmtBits fmt
    s.coreOn u = true → fmt < 4 → op ∉ [.and, .or, .xor, .shl, .shr, .sra] → (op = .convert → fs2 < 4) → j.rmode = some m →
    j.ready ((opSources op fs1 fs2).map Src.f ++ (if readsDest op then [.f fd] else [])) = true →
    let r := if op = .convert then
        convertElem (.fp fmt) (.fp fs2) (if fs2 = fmt then .rne else m) j.e4m3nan ((j.fr fs1).toNat % 2 ^ b)
      else fpElem fmt (if opRounds op then m else .rne) op ((j.fr fs1).toNat % 2 ^ b) ((j.fr fs2).toNat % 2 ^ b) ((j.fr fd).toNat % 2 ^ b)
    ∃ t, exec (.scalarFpOp u op fmt fd fs1 fs2) s = .next t ∧ ((t.jumbe u).fr fd).toNat = r.1 % 2 ^ 128 ∧
      (t.jumbe u).fpsr = j.fpsr ||| BitVec.ofNat 64 (r.2.bits % 64) ∧
      (∀ k, k % 32 ≠ fd % 32 → (t.jumbe u).fr k = j.fr k) ∧ (t.jumbe u).pc = j.pc + 4 ∧ (t.jumbe u).x = j.x ∧ t.mem = s.mem) ∧
  (∀ (u : CoreId) (cmd : Instr) (word : BitVec 32) (s : State),
    let v := VecFields.ofWord word
    let j := s.jumbe u
    let a := etypeOf v.etype (bit v.func 0)
    s.coreOn u = true → j.loads = [] →
    -- groups on a control core, a word that is no vector arithmetic, FP8 arithmetic, types a widening or a dot product lacks
    ((cmd = .wideningMultiply u word ∨ cmd = .dotProduct u word ∨ ∃ op, cmd = .vectorArith u op word) ∧
        (hasGrp u v.grp = false ∨ v.isArith = false) ∨
      (∃ op, cmd = .vectorArith u op word ∧ isFp8 a = true ∧ op ≠ .move ∧ op ≠ .convert) ∨
      (cmd = .wideningMultiply u word ∧ widenTypes v.etype = none) ∨
      (cmd = .dotProduct u word ∧ dotTypes v.etype v.func = none) ∨
      -- rounding with a reserved mode
      (∃ op, cmd = .vectorArith u op word ∧ op ≠ .convert ∧ opRounds op = true ∧ isFpType a = true ∧ j.rmode = none) ∨
      (∃ op fmt fd fs1 fs2, cmd = .scalarFpOp u op fmt fd fs1 fs2 ∧ (4 ≤ fmt ∨ op ∈ [.and, .or, .xor, .shl, .shr, .sra]))) →
    ∃ t, exec cmd s = .next t ∧ (t.jumbe u).causeCode = 1 ∧ (t.jumbe u).inHandler = true ∧ (t.jumbe u).epc = j.pc ∧
      (t.jumbe u).f = j.f ∧ (t.jumbe u).x = j.x ∧ (t.jumbe u).fpsr = j.fpsr ∧ t.mem = s.mem)

/-- INTEGER_OP with the status-register reads, FPSR_WRITE, TRAP_ELEM_WRITE and EXCEPTION_TAKE. -/
def Obligations.JumbeControl : Prop :=
  (∀ (u : CoreId) (op : IntOp) (xd xs1 xs2 : Nat) (imm : Word) (s : State),
    let j := s.jumbe u
    s.coreOn u = true → j.ready (intSources op xs1 xs2) = true →
    (∀ v, op ≠ .jal → op ≠ .jalr → intResult op (j.xr xs1) (j.xr xs2 + imm) imm = some v →
      ∃ t, exec (.integerOp u op xd xs1 xs2 imm) s = .next t ∧ (t.jumbe u).xr xd = (if xd % 32 = 0 then 0 else v) ∧
        (∀ k, k % 32 ≠ xd % 32 → (t.jumbe u).xr k = j.xr k) ∧ (t.jumbe u).pc = j.pc + 4 ∧ (t.jumbe u).f = j.f ∧
        (t.jumbe u).fpsr = j.fpsr ∧ (∀ w, w ≠ u → t.jumbe w = s.jumbe w) ∧ t.mem = s.mem) ∧
    (op ∈ [.beq, .bne, .blt, .bge, .bltu, .bgeu] →
      ∃ t, exec (.integerOp u op xd xs1 xs2 imm) s = .next t ∧ (t.jumbe u).x = j.x ∧ (t.jumbe u).f = j.f ∧ t.mem = s.mem ∧
        (t.jumbe u).pc = (if branchTaken op (j.xr xs1) (j.xr xs2) = true then j.pc + imm else j.pc + 4)) ∧
    (op = .jal ∨ op = .jalr →
      ∃ t, exec (.integerOp u op xd xs1 xs2 imm) s = .next t ∧ (t.jumbe u).xr xd = (if xd % 32 = 0 then 0 else j.pc + 4) ∧
        (t.jumbe u).pc = (if op = .jal then j.pc + imm else j.xr xs1 + imm) ∧ (t.jumbe u).f = j.f ∧ t.mem = s.mem)) ∧
  (∀ (u : CoreId) (xd xs1 xs2 : Nat) (imm : Word) (r : StatusReg) (s : State),
    let j := s.jumbe u
    let value : Word := match r with
      | .fpsr => j.fpsr
      | .ffe => BitVec.ofNat 64 j.ffe
      | .trapElem => BitVec.ofNat 64 j.trapElem
      | .trapAddr => j.trapAddr
      | .cause => BitVec.ofNat 64 (j.causeCode + j.causeQueue * 256)
      | .xaccTerms => BitVec.ofNat 64 j.xaccTerms
      | .meWidth => (match u with | .tc c => BitVec.ofNat 64 (s.jbMeWidth c) | .pc _ => 0)
    s.coreOn u = true → j.ready (intSources (.readStatus r) xs1 xs2) = true →
      ∃ t, exec (.integerOp u (.readStatus r) xd xs1 xs2 imm) s = .next t ∧ (t.jumbe u).xr xd = (if xd % 32 = 0 then 0 else value) ∧
        (∀ k, k % 32 ≠ xd % 32 → (t.jumbe u).xr k = j.xr k) ∧ (t.jumbe u).pc = j.pc + 4 ∧ (t.jumbe u).f = j.f ∧ t.mem = s.mem) ∧
  (∀ (u : CoreId) (v : Word) (s : State), s.coreOn u = true →
    ∃ t, exec (.fpsrWrite u v) s = .next t ∧ (t.jumbe u).fpsr = v &&& 0xF3F ∧ (t.jumbe u).pc = (s.jumbe u).pc + 4 ∧
      (t.jumbe u).x = (s.jumbe u).x ∧ (t.jumbe u).f = (s.jumbe u).f ∧ t.mem = s.mem) ∧
  (∀ (u : CoreId) (v : Nat) (s : State), s.coreOn u = true →
    ∃ t, exec (.trapElemWrite u v) s = .next t ∧ (t.jumbe u).trapElem = v % 2 ^ 13 ∧ (t.jumbe u).pc = (s.jumbe u).pc + 4 ∧
      (t.jumbe u).x = (s.jumbe u).x ∧ (t.jumbe u).f = (s.jumbe u).f ∧ t.mem = s.mem) ∧
  (∀ (u : CoreId) (s : State), s.coreOn u = true → (s.jumbe u).inHandler = false → (s.jumbe u).pending ≠ [] →
    ∃ t e, exec (.exceptionTake u) s = .next t ∧ e ∈ (s.jumbe u).pending ∧ (∀ d ∈ (s.jumbe u).pending, e.1 ≤ d.1) ∧
      (t.jumbe u).causeCode = e.1 ∧ (t.jumbe u).causeQueue = e.2 ∧ (t.jumbe u).inHandler = true ∧
      (t.jumbe u).epc = (s.jumbe u).pc ∧ (t.jumbe u).pending = (s.jumbe u).pending.erase e ∧
      (t.jumbe u).x = (s.jumbe u).x ∧ (t.jumbe u).f = (s.jumbe u).f ∧ t.mem = s.mem) ∧
  (∀ (u : CoreId) (s : State), (s.jumbe u).inHandler = true ∨ (s.jumbe u).pending = [] → exec (.exceptionTake u) s = .next s)

/-- Vector loads and stores, VLFF, scalar loads and stores, XLOAD, XSAVE, data that returns later, and FENCE, on a control
core; an access that leaves the scratchpad traps at the element that does. -/
def Obligations.JumbeMemoryAccess : Prop :=
  (∀ (c : Nat) (word : BitVec 32) (s : State),
    let u := CoreId.tc c
    let w := VecFields.ofWord word
    let j := s.jumbe u
    let va := (j.xr w.fs1).toNat
    let b := (etypeOf w.etype false).bits
    let n := 128 / b
    let step := fun (t : State) => (t.jumbe u).pc = j.pc + 4 ∧ (t.jumbe u).x = j.x
    s.coreOn u = true → w.isAccess = true → w.grp = 0 → j.loads = [] → j.inHandler = false → j.trapPending = false →
    (va + 16 ≤ 0x400000 → s.poisonedIn (padBase c + va) 16 = false →
      (∃ t, exec (.vectorLoad u word) s = .next t ∧ step t ∧ t.mem = s.mem ∧
        (∀ i, i < n → (t.jumbe u).elem w.fd b i = leAt (s.padBytes c va 16) (b / 8 * i) (b / 8)) ∧
        (∀ k, k % 32 ≠ w.fd % 32 → (t.jumbe u).fr k = j.fr k)) ∧
      (∃ t, exec (.vlff u word) s = .next t ∧ step t ∧ t.mem = s.mem ∧ (t.jumbe u).ffe = n ∧
        (∀ i, i < n → (t.jumbe u).elem w.fd b i = leAt (s.padBytes c va 16) (b / 8 * i) (b / 8)) ∧
        (∀ k, k % 32 ≠ w.fd % 32 → (t.jumbe u).fr k = j.fr k))) ∧
    (va + 16 ≤ 0x400000 →
      ∃ t, exec (.vectorStore u word) s = .next t ∧ step t ∧ (t.jumbe u).f = j.f ∧
        (∀ i, i < n → leAt (t.padBytes c va 16) (b / 8 * i) (b / 8) = j.elem w.fs2 b i) ∧
        (∀ a, (a < padBase c + va ∨ padBase c + va + 16 ≤ a) → t.byte a = s.byte a)) ∧
    (va < 0x400000 → 0x400000 < va + 16 →
      let k := (0x400000 - va) / (b / 8)
      (s.poisonedIn (padBase c + va) (0x400000 - va) = false →
        (∃ t, exec (.vectorLoad u word) s = .next t ∧ t.mem = s.mem ∧ (t.jumbe u).causeCode = 2 ∧ (t.jumbe u).trapElem = k ∧
          (t.jumbe u).trapAddr = 0x400000 ∧ (t.jumbe u).epc = j.pc ∧ (t.jumbe u).inHandler = true ∧
          ∀ i, i < n → (t.jumbe u).elem w.fd b i =
            if i < k then leAt (s.padBytes c va 16) (b / 8 * i) (b / 8) else j.elem w.fd b i) ∧
        (∃ t, exec (.vlff u word) s = .next t ∧ step t ∧ t.mem = s.mem ∧ (t.jumbe u).ffe = k ∧
          ∀ i, i < n → (t.jumbe u).elem w.fd b i =
            if i < k then leAt (s.padBytes c va 16) (b / 8 * i) (b / 8) else j.elem w.fd b i)) ∧
      (∃ t, exec (.vectorStore u word) s = .next t ∧ (t.jumbe u).causeCode = 3 ∧ (t.jumbe u).trapElem = k ∧
        (t.jumbe u).epc = j.pc ∧ (∀ i, i < k → leAt (t.padBytes c va 16) (b / 8 * i) (b / 8) = j.elem w.fs2 b i) ∧
        (∀ a, (a < padBase c + va ∨ padBase c + va + b / 8 * k ≤ a) → t.byte a = s.byte a)))) ∧
  (∀ (c r x size : Nat) (imm : Word) (signed : Bool) (s : State),
    let u := CoreId.tc c
    let j := s.jumbe u
    let va := (j.xr r + imm).toNat
    s.coreOn u = true → j.ready [.x r] = true → size ∈ [1, 2, 4, 8] → va + size ≤ 0x400000 →
    (s.poisonedIn (padBase c + va) size = false →
      ∃ t, exec (.scalarLoad u x r imm size signed) s = .next t ∧ (t.jumbe u).pc = j.pc + 4 ∧ t.mem = s.mem ∧
        (t.jumbe u).xr x = (if x % 32 = 0 then 0 else scalarValue size signed (s.padBytes c va size)) ∧
        (∀ k, k % 32 ≠ x % 32 → (t.jumbe u).xr k = j.xr k) ∧ (t.jumbe u).f = j.f) ∧
    (j.ready [.x x] = true → ∃ t, exec (.scalarStore u r x imm size) s = .next t ∧ (t.jumbe u).pc = j.pc + 4 ∧ (t.jumbe u).x = j.x ∧
      (t.jumbe u).f = j.f ∧ t.padBytes c va size = leBytes size ((j.xr x).toNat % 2 ^ (8 * size)) ∧
      (∀ a, (a < padBase c + va ∨ padBase c + va + size ≤ a) → t.byte a = s.byte a))) ∧
  (∀ (c r : Nat) (s : State),
    let u := CoreId.tc c
    let j := s.jumbe u
    let va := (j.xr r).toNat
    s.coreOn u = true → j.ready [.x r, .acc] = true →
    (va % 32 = 0 → va + 544 ≤ 0x400000 →
      (∃ t, exec (.xsave u r) s = .next t ∧ (t.jumbe u).pc = j.pc + 4 ∧ t.padBytes c va 544 = j.xacc.raw true ∧
        (t.jumbe u).xacc = j.xacc ∧ (∀ a, (a < padBase c + va ∨ padBase c + va + 544 ≤ a) → t.byte a = s.byte a)) ∧
      (s.poisonedIn (padBase c + va) 544 = false →
        ∃ t, exec (.xload u r) s = .next t ∧ (t.jumbe u).pc = j.pc + 4 ∧ (t.jumbe u).xaccTerms = 2 ^ 40 - 2 ^ 32 ∧
          (t.jumbe u).xacc = AccEntry.ofRaw true (s.padBytes c va 544) ∧ (t.jumbe u).f = j.f ∧ (t.jumbe u).x = j.x ∧ t.mem = s.mem)) ∧
    (va % 32 ≠ 0 →
      (∃ t, exec (.xload u r) s = .next t ∧ (t.jumbe u).causeCode = 2 ∧ (t.jumbe u).trapAddr = BitVec.ofNat 64 va ∧
        (t.jumbe u).epc = j.pc ∧ (t.jumbe u).xacc = j.xacc ∧ t.mem = s.mem) ∧
      (∃ t, exec (.xsave u r) s = .next t ∧ (t.jumbe u).causeCode = 3 ∧ (t.jumbe u).trapAddr = BitVec.ofNat 64 va ∧
        (t.jumbe u).epc = j.pc ∧ t.mem = s.mem))) ∧
  (∀ (u : CoreId) (k : Nat) (l : PendLoad) (s : State), (s.jumbe u).loads[k]? = some l →
    let j := s.jumbe u
    (partsDone l.parts = false → exec (.loadDataReturn u k) s = .next s) ∧
    (partsDone l.parts = true → faultAt l.parts = none →
      ∃ t, exec (.loadDataReturn u k) s = .next t ∧ (t.jumbe u).loads.length + 1 = j.loads.length ∧ (t.jumbe u).pc = j.pc ∧ t.mem = s.mem ∧
        (∀ x size signed, l.dst = .x x size signed →
          (t.jumbe u).xr x = (if x % 32 = 0 then 0 else scalarValue size signed (partsBytes l.parts)) ∧
          (∀ r, r % 32 ≠ x % 32 → (t.jumbe u).xr r = j.xr r) ∧ (t.jumbe u).f = j.f) ∧
        (∀ fd e0 n live first, l.dst = .elems fd 32 e0 n live first →
          (∀ i, e0 ≤ i → i < n → n ≤ 32 → live.contains ((fd + i / 4) % 32) = true →
            (t.jumbe u).elem fd 32 i = leAt (partsBytes l.parts) (4 * (i - e0)) 4) ∧
          (first = true → (t.jumbe u).ffe = n) ∧ (t.jumbe u).x = j.x) ∧
        (l.dst = .acc true →
          (t.jumbe u).xacc = AccEntry.ofRaw true (partsBytes l.parts) ∧ (t.jumbe u).xaccTerms = 2 ^ 40 - 2 ^ 32 ∧ (t.jumbe u).x = j.x)) ∧
    (∀ a x size signed, partsDone l.parts = true → faultAt l.parts = some a → l.dst = .x x size signed → s.coreOn u = true →
      j.inHandler = false → j.trapPending = false →
      ∃ t, exec (.loadDataReturn u k) s = .next t ∧ (t.jumbe u).causeCode = 2 ∧ (t.jumbe u).trapAddr = BitVec.ofNat 64 a ∧
        (t.jumbe u).epc = l.pc ∧ (t.jumbe u).inHandler = true ∧ (t.jumbe u).x = j.x ∧ t.mem = s.mem)) ∧
  (∀ (u : CoreId) (s : State), s.coreOn u = true →
    ((s.jumbe u).loads = [] → (∀ p ∈ (s.jumbe u).posted, p.status ≠ none) →
      ∃ t, exec (.jumbeFence u) s = .next t ∧ (t.jumbe u).posted = [] ∧ (t.jumbe u).pc = (s.jumbe u).pc + 4 ∧
        (t.jumbe u).x = (s.jumbe u).x ∧ (t.jumbe u).f = (s.jumbe u).f ∧
        ((∃ p ∈ (s.jumbe u).posted, p.status = some stDeadTarget) → (excDead, 0) ∈ (t.jumbe u).pending)) ∧
    ((s.jumbe u).loads ≠ [] ∨ (∃ p ∈ (s.jumbe u).posted, p.status = none) → exec (.jumbeFence u) s = .next s))

/-- ASSEMBLE, ASSEMBLE_DONE, SOLVE and SOLVE_START. -/
def Obligations.SolveSubmission : Prop :=
  (∀ (k : Nat) (s : State) (o : Op), s.mayStartOp k 0x20 = some o →
    (s.frontDie o.partition = none →
      ∃ t o', exec (.assemble k) s = .next t ∧ t.op k = some o' ∧ o'.status = some 0x7F ∧ t.mem = s.mem) ∧
    (∀ d, s.frontDie o.partition = some d →
      (s.front d = none → s.reachAll (some o.partition) (leAt o.desc 8 8) 128 = true →
        ∃ t, exec (.assemble k) s = .next t ∧ t.front d = some k ∧ t.op k = some { o with started := true } ∧
          (∀ e, e ≠ d → t.front e = s.front e) ∧ t.mem = s.mem) ∧
      (s.front d = none → s.reachAll (some o.partition) (leAt o.desc 8 8) 128 = false →
        ∃ t o', exec (.assemble k) s = .next t ∧ t.op k = some o' ∧ o'.status = some 0x11 ∧ o'.progress = o.progress ∧
          t.front d = none ∧ t.mem = s.mem) ∧
      (∀ j, s.front d = some j → exec (.assemble k) s = .next s))) ∧
  (∀ (k d : Nat) (s : State) (o : Op), d < 4 → s.front d = some k → (∀ e, e < d → s.front e ≠ some k) → s.op k = some o →
    o.status = none →
    let b := s.paBytes (leAt o.desc 8 8) 128
    (assembleBad b ≠ none →
      ∃ t o', exec (.assembleDone k) s = .next t ∧ t.front d = none ∧ t.op k = some o' ∧ o'.status = some 0x7F ∧
        o'.progress = o.progress ∧ t.mem = s.mem) ∧
    (assembleBad b = none →
      ((assembleInputs b).all (fun r => s.reachAll (some o.partition) r.1 r.2) = false →
        ∃ t o', exec (.assembleDone k) s = .next t ∧ t.front d = none ∧ t.op k = some o' ∧ o'.status = some 0x11 ∧ t.mem = s.mem) ∧
      (((assembleInputs b).all (fun r => s.reachAll (some o.partition) r.1 r.2)) = true →
        (s.assembleIndex b ≠ none →
          ∃ t o', exec (.assembleDone k) s = .next t ∧ t.front d = none ∧ t.op k = some o' ∧ o'.status = some 0x7F ∧ t.mem = s.mem) ∧
        (s.assembleIndex b = none → (s.assembled b).length ≤ leAt b 0x68 8 →
          s.reachAll (some o.partition) (leAt b 0x60 8) (s.assembled b).length = true →
          s.reachAll (some o.partition) (leAt b 0x70 8) (s.assembledRhs b).length = true →
          ∃ t o', exec (.assembleDone k) s = .next t ∧ t.front d = none ∧ t.op k = some o' ∧ o'.status = some 0 ∧ o'.progress = 1 ∧
            o'.witness = BitVec.ofNat 64 (crc64 (s.assembled b ++ s.assembledRhs b)) ∧
            -- an object in LLM memory is there to be read
            (s.assembledRhs b = [] → llmBase 0 ≤ leAt b 0x60 8 → leAt b 0x60 8 + (s.assembled b).length ≤ llmBase 64 →
              t.paBytes (leAt b 0x60 8) (s.assembled b).length = s.assembled b))))) ∧
  (∀ (k : Nat) (s : State) (o : Op), s.mayStartOp k 0x21 = some o →
    let p := o.partition
    let b := s.paBytes (leAt o.desc 8 8) 256
    let valid := s.matOk (sMatrix b) && blockOk b (blockSize (leAt (s.paBytes (sMatrix b) 64) 0 1)) (s.matRows (sMatrix b)) &&
      s.selectOk p b && s.exchangeOk p b
    let s2 := (s.beginOp k).onOp k (fun o => { o with ctrl := b })
    s.reachAll (some p) (leAt o.desc 8 8) 256 = true → s.reachAll (some p) (sMatrix b) 64 = true →
    (valid = true → s.solveReach p b = true → s2.groupTooLarge p b = false →
      ∃ t, exec (.solve k) s = .next t ∧ t.op k = some { o with started := true, ctrl := b } ∧ t.ses = s.ses ∧ t.mem = s.mem) ∧
    (valid = true → s.solveReach p b = false →
      ∃ t o', exec (.solve k) s = .next t ∧ t.op k = some o' ∧ o'.status = some 0x11 ∧ t.ses = s.ses ∧ t.mem = s.mem) ∧
    (valid = true → s.solveReach p b = true → s2.groupTooLarge p b = true →
      ∃ t, exec (.solve k) s = .next t ∧ t.ses = s.ses ∧ t.mem = s.mem ∧
        ∀ j ∈ s2.groupWaiting p (sGroup b), ∃ o', t.op j = some o' ∧ o'.status = some 0x7F) ∧
    (valid = false →
      ∃ t o', exec (.solve k) s = .next t ∧ t.op k = some o' ∧ o'.status = some 0x7F ∧ o'.progress = o.progress ∧ t.ses = s.ses ∧
        t.mem = s.mem ∧ (sSelect b < 16 → (s.se (sSelect b)).solve = none → t.fget (R.SLV_STATUS.stop (sSelect b)) = 6))) ∧
  (∀ (now k se : Nat) (s : State) (o : Op),
    let s0 := s.advance now
    let b := o.ctrl
    s0.op k = some o → k < resumeBase → o.reissues = 0 → s0.clocked = true → s0.poison = [] → sPartCount b = 1 →
    k ∈ s0.waitingSolves → se < 16 → se ∈ s0.freeSes o.partition →
    (∀ j ∈ s0.waitingSolves, ∀ x, s0.op j = some x → x.ring = o.ring → o.order ≤ x.order) →
    ((sSelect b = 0xFF ∨ sSelect b = se) →
      ∃ t v, exec (.solveStart now k se) s = .next t ∧ (t.se se).solve = some v ∧ v.slot = k ∧ v.part = o.partition ∧ v.block = b ∧
        v.x = (if sX0Zero b = true then List.replicate (sRows b) 0 else s0.vecAt (sX b) (sRows b)) ∧ v.it = o.resumeIt ∧
        v.began = s0.clock ∧ t.fget (R.SLV_TAG.tag se) = o.tag % 2 ^ 16 ∧ t.fget (R.SLV_TAG.valid se) = 1 ∧
        t.reg (A.SLV_DEADLINE se) = BitVec.ofNat 64 (s0.deadlineOf b) ∧ (∀ e, e ≠ se → t.se e = s0.se e)) ∧
    (sSelect b ≠ 0xFF → sSelect b ≠ se → exec (.solveStart now k se) s = .next s0))

/-- SOLVE_ITERATION, SOLVE_DEADLINE_CHECK, CALLBACK_TIMEOUT, SOLVE_REDUCTION, SOLVE_RETURN_DONE and SOLVE_ABORT. -/
def Obligations.SolveRuns : Prop :=
  (∀ (now n : Nat) (s : State) (v : Solve),
    let s0 := (s.advance now).solveClock n
    let p := runSolve (turnRun (s0.sysOf v) (s0.itOf v) v.it) v.answers v.applications
    (s0.se n).solve = some v → s0.clocked = true → v.phase = 1 →
    (v.need = none → s0.solvePoisoned v = false →
      (∀ r m, p = .ok (r, m) →
        let better := match r.res with | some c => lt64 c v.best | none => false
        ∃ t w, exec (.solveIteration now n) s = .next t ∧ (t.se n).solve = some w ∧ w.it = r.it ∧ w.x = r.st.x ∧
          w.best = (if better = true then r.res.getD 0 else v.best) ∧ w.bestIter = (if better = true then r.it else v.bestIter) ∧
          t.reg (A.SLV_BEST n) = w.best ∧
          -- a better iterate is in the workspace, where that is in LLM memory
          (better = true → v.block.length = 256 → llmBase 0 ≤ vecAddr v.block 0 →
            vecAddr v.block 0 + 8 * r.st.x.length ≤ llmBase 64 →
            t.paBytes (vecAddr v.block 0) (8 * r.st.x.length) = vecBytes r.st.x) ∧
          (r.stop ≠ 0 → w.phase = 2 ∧ w.stop = r.stop) ∧
          (r.stop = 0 → sDeadlineEn v.block = false → v.abortAsked = false → w.phase = 1 ∧ w.stop = v.stop) ∧
          (r.stop = 0 → sDeadlineEn v.block = false → v.abortAsked = true → sPartCount v.block = 1 → w.phase = 2 ∧ w.stop = 5)) ∧
      (∀ i o b, p = .error (.breakdown i o b) →
        ∃ t w, exec (.solveIteration now n) s = .next t ∧ (t.se n).solve = some w ∧ w.phase = 2 ∧ w.stop = 4 ∧ w.x = v.x ∧
          w.best = v.best ∧ t.mem = s0.mem) ∧
      (∀ own k, p = .error (.need (.callback own k)) →
        ∃ t w, exec (.solveIteration now n) s = .next t ∧ (t.se n).solve = some w ∧ w.need = some (.callback own k) ∧
          w.cbSince = some s0.clock ∧ w.x = v.x ∧ w.best = v.best)) ∧
    (v.need = none → s0.solvePoisoned v = true →
      ∃ t, exec (.solveIteration now n) s = .next t ∧ (t.se n).solve = none ∧ t.fget (R.SLV_STATUS.stop n) = 7 ∧
        (t.se n).retired = (s.se n).retired) ∧
    (∀ own k, v.need = some (.callback own k) → s0.callbackDone n v k = false → exec (.solveIteration now n) s = .next s0) ∧
    (∀ own k, v.need = some (.callback own k) → s0.callbackDone n v k = true →
      exec (.solveIteration now n) s = .next ((s0.onSolve n (fun w => { w with
        need := none
        cbSince := none
        answers := w.answers ++ [.vec (s0.vecAt (zAddr v.block) own.length)] })).solveGo n))) ∧
  (∀ (now n : Nat) (s : State) (v : Solve),
    let s0 := (s.advance now).solveClock n
    (s0.se n).solve = some v → sDeadlineEn v.block = true →
    (v.phase = 1 → s0.fget (R.SLV_DEADLINE.deadline_ns n) ≤ s0.rackTime → sPartCount v.block = 1 →
      ∃ t w, exec (.solveDeadlineCheck now n) s = .next t ∧ (t.se n).solve = some w ∧ w.phase = 2 ∧ w.stop = 3 ∧ w.x = v.x ∧
        w.best = v.best ∧ w.need = none ∧ w.stopTime = s0.rackTime ∧ w.stopTransit = s0.fget R.TRN_NUMBER.transit ∧ t.mem = s0.mem) ∧
    (v.phase < 2 → s0.fget (R.SLV_DEADLINE.deadline_ns n) ≤ s0.rackTime → sPartCount v.block ≠ 1 → v.ask = 0 →
      (sPartIndex v.block = 0 ∨ v.inCallback = true) →
      ∃ t, exec (.solveDeadlineCheck now n) s = .next t ∧ (t.se n).solve = some { v with ask := 3 } ∧ t.mem = s0.mem) ∧
    (s0.rackTime < s0.fget (R.SLV_DEADLINE.deadline_ns n) → exec (.solveDeadlineCheck now n) s = .next s0)) ∧
  (∀ (now n t0 : Nat) (s : State) (v : Solve),
    let s0 := (s.advance now).solveClock n
    (s0.se n).solve = some v → v.cbSince = some t0 → sDeadlineEn v.block = false →
    (t0 + 100000000 < s0.clock → sPartCount v.block = 1 →
      ∃ t w, exec (.callbackTimeout now n) s = .next t ∧ (t.se n).solve = some w ∧ w.phase = 2 ∧ w.stop = 10 ∧ t.mem = s0.mem) ∧
    (t0 + 100000000 < s0.clock → sPartCount v.block ≠ 1 → v.ask = 0 →
      ∃ t, exec (.callbackTimeout now n) s = .next t ∧ (t.se n).solve = some { v with ask := 10 } ∧ t.mem = s0.mem) ∧
    (s0.clock ≤ t0 + 100000000 → exec (.callbackTimeout now n) s = .next s0)) ∧
  (∀ (n : Nat) (far : SolveFar) (s : State) (v : Solve) (o : Op), n < 16 → (s.se n).solve = some v → s.op v.slot = some o →
    o.status = none →
    let spans := sConst v.block ≠ 0xFFFF
    let alone := s.members v = [n]
    let own := Config.solveHash (sharedFields v.block)
    ((sPartCount v.block = 1 ∨ v.atReduction = false) → exec (.solveReduction n far) s = .next s) ∧
    (sPartCount v.block ≠ 1 → v.atReduction = true →
      -- a member is lost
      ((v.lost = true ∨ (spans ∧ far.lost = true)) →
        ∃ t o', exec (.solveReduction n far) s = .next t ∧ (t.se n).solve = none ∧ t.op v.slot = some o' ∧ o'.status = some 0x31 ∧
          o'.progress = BitVec.ofNat 64 (sRows v.block)) ∧
      -- the others are not there yet
      (v.lost = false → ¬ (spans ∧ far.lost = true) → (∃ m ∈ s.members v, ∃ w, (s.se m).solve = some w ∧ w.atReduction = false) →
        exec (.solveReduction n far) s = .next s) ∧
      -- the shared fields differ
      (v.lost = false → alone → spans → far.lost = false → v.hashed = false → (∃ h ∈ far.hashes, h ≠ own) →
        ∃ t o', exec (.solveReduction n far) s = .next t ∧ (t.se n).solve = none ∧ t.op v.slot = some o' ∧ o'.status = some 0x7F ∧
          o'.progress = 0) ∧
      -- another package carries a decision to stop
      (v.lost = false → alone → spans → far.lost = false → (v.hashed = true ∨ ∀ h ∈ far.hashes, h = own) → v.phase = 1 → v.ask = 0 →
        far.stop ≠ 0 →
        ∃ t w, exec (.solveReduction n far) s = .next t ∧ (t.se n).solve = some w ∧ w.phase = 2 ∧ w.stop = far.stop ∧ w.best = v.best ∧
          t.mem = s.mem) ∧
      -- the sum, or the vector as all have published it
      (∀ e, v.lost = false → alone → spans → far.lost = false → (v.hashed = true ∨ ∀ h ∈ far.hashes, h = own) → v.phase < 2 → v.ask = 0 →
        (v.phase = 1 → far.stop = 0) → v.need = some (.entry e) →
        exec (.solveReduction n far) s = .next ((s.onSolve n (fun w => { w with
          need := none
          hashed := true
          answers := w.answers ++ [.entry ((AccEntry.ofRaw true far.entry).merge true
            (AccEntry.ofRaw true (s.paBytes (s.entryAddr v.block n) 544)))] })).solveGo n)))) ∧
  (∀ (now n took : Nat) (first second : List (Nat × Word)) (s : State) (v : Solve) (o : Op),
    let s0 := s.advance now
    let rows := sRows v.block
    let s1 := s0.copyBest n v rows first
    let s2 := s1.copyBest n v rows second
    let norm := fun (z : State) (ans : List SolveAns) => runSolve (recheckRun (z.sysOf v) (z.vecAt (sX v.block) rows)) ans v.applications
    (s0.se n).solve = some v → v.phase = 2 → s0.op v.slot = some o → o.status = none → o.reissues = 0 → s0.poison = [] →
    v.stop ∈ [1, 2, 3, 4, 5, 10] → 0 < rows →
    (∀ w m, norm s1 v.answers = .ok (w, m) → m.cheb = [] →
      (w = v.best →
        ∃ t o', exec (.solveReturnDone now n first second took) s = .next t ∧ (t.se n).solve = none ∧ t.op v.slot = some o' ∧
          o'.progress = BitVec.ofNat 64 rows ∧ o'.witness = BitVec.ofNat 64 (crc64 (s1.paBytes (sX v.block) (8 * rows))) ∧
          o'.status = some (match v.stop with | 3 => 0x21 | 5 => 0x10 | 10 => 0x14 | _ => 0x00)) ∧
      (∀ w2 m2, w ≠ v.best → norm s2 [] = .ok (w2, m2) → m2.cheb = [] →
        (w2 = v.best →
          ∃ t o', exec (.solveReturnDone now n first second took) s = .next t ∧ (t.se n).solve = none ∧ t.op v.slot = some o' ∧
            o'.progress = BitVec.ofNat 64 rows ∧ t.fget (R.SLV_STATUS.recheck_twinkle n) = 1 ∧
            o'.status = some (match v.stop with | 3 => 0x21 | 5 => 0x10 | 10 => 0x14 | _ => 0x01)) ∧
        (w2 ≠ v.best → s0.recs = [] → s0.recq = [] →
          ∃ t o', exec (.solveReturnDone now n first second took) s = .next t ∧ t.op v.slot = some o' ∧ o'.status = some 0x20 ∧
            o'.progress = 0 ∧ (t.se n).retired = true)))) ∧
  (∀ (n : Nat) (s : State),
    (∀ v, (s.se n).solve = some v → v.phase < 2 →
      ∃ t, exec (.solveAbort (.pf 0) n) s = .next t ∧ (t.se n).solve = some { v with abortAsked := true } ∧ t.mem = s.mem) ∧
    ((s.se n).solve = none ∨ (∃ v, (s.se n).solve = some v ∧ 2 ≤ v.phase) → exec (.solveAbort (.pf 0) n) s = .next s))

/-- MESH_SCRATCHPAD_ACCESS, SRAM_POISON, COMPAT_WRITE and COMPAT_ZERO_DONE. -/
def Obligations.ScratchpadCommands : Prop :=
  (∀ (c off : Nat) (who : PadMaster) (x y : Word) (s : State), c < 512 → s.tcoreUp c = true → off % 8 = 0 → s.exchange c off = true →
    s.poisonedIn (padBase c + off) 8 = false →
    let w := BitVec.ofNat 64 (leNat (s.padBytes c off 8))
    let keeps := fun (t : State) => ∀ a, (a < padBase c + off ∨ padBase c + off + 8 ≤ a) → t.byte a = s.byte a
    let busy := fun (t : State) => t.fget (R.TC_SP_STATUS.busy_count c) = Nat.min (s.fget (R.TC_SP_STATUS.busy_count c) + 1) 65535
    (∃ t, exec (.meshScratchpadAccess c off who .read .read) s = .next t ∧ t.out.head? = some (.ports c (some w) false (some w) false) ∧ t.mem = s.mem) ∧
    (∃ t z, exec (.meshScratchpadAccess c off who .read (.write y)) s = .next t ∧ t.out = .ports c (some z) false none true :: s.out ∧
      t.padBytes c off 8 = leBytes 8 y.toNat ∧ keeps t ∧ busy t) ∧
    (∃ t, exec (.meshScratchpadAccess c off who (.write x) .read) s = .next t ∧ t.out = .ports c none false (some x) true :: s.out ∧
      t.padBytes c off 8 = leBytes 8 x.toNat ∧ keeps t ∧ busy t) ∧
    (∃ t, exec (.meshScratchpadAccess c off who (.write x) (.write y)) s = .next t ∧ t.out = .ports c none true none false :: s.out ∧
      t.padBytes c off 8 = leBytes 8 y.toNat ∧ keeps t ∧ busy t ∧ t.fget (R.TC_SP_STATUS.busy_a c) = 1)) ∧
  -- outside the exchange region the bank takes one request of the two
  (∀ (c off : Nat) (who : PadMaster) (x : Word) (s : State), c < 512 → s.tcoreUp c = true → off % 8 = 0 → off < 0x400000 →
    s.exchange c off = false → s.poisonedIn (padBase c + off) 8 = false →
    let w := BitVec.ofNat 64 (leNat (s.padBytes c off 8))
    let late := if s.compat c then 64 else 8
    let runs := fun (t : State) (k : Nat) => assocGet (fun _ => 0) (t.tcore c).refused (8 * s.bankOf c off + k)
    let me := padMasterNum who
    (s.padRank c off me ≤ s.padRank c off 4 →
      ∃ t, exec (.meshScratchpadAccess c off who .read (.write x)) s = .next t ∧ t.out.head? = some (.ports c (some w) false none false) ∧
        t.mem = s.mem ∧ runs t 4 = runs s 4 + 1 ∧ runs t me = 0) ∧
    (s.padRank c off 4 < s.padRank c off me →
      ∃ t, exec (.meshScratchpadAccess c off who .read (.write x)) s = .next t ∧ t.padBytes c off 8 = leBytes 8 x.toNat ∧
        (∀ a, (a < padBase c + off ∨ padBase c + off + 8 ≤ a) → t.byte a = s.byte a) ∧ runs t me = runs s me + 1 ∧ runs t 4 = 0) ∧
    (s.compat c = false → runs s me < late → runs s 4 < late → (s.padRank c off me ≤ s.padRank c off 4 ↔ who ≠ .core)) ∧
    (late ≤ runs s me → s.padRank c off me ≤ s.padRank c off 4) ∧
    (runs s me < late → late ≤ runs s 4 → s.padRank c off 4 < s.padRank c off me)) ∧
  (∀ (c off : Nat) (s : State), c < 512 → off < 0x400000 → s.tcoreUp c = true → s.poison.contains ((padBase c + off) / 8) = false →
    s.reports.length < 63 →
    ((s.recorded c).contains ((padBase c + off) / 8) = false →
      ∃ t, exec (.sramPoison (padBase c + off) 2) s = .next t ∧ t.poison.contains ((padBase c + off) / 8) = true ∧ t.mem = s.mem ∧
        t.fget (R.TC_SP_STATUS.ecc_poisoned c) = Nat.min (s.fget (R.TC_SP_STATUS.ecc_poisoned c) + 1) 65535 ∧
        (∃ r : Report, t.reports = s.reports ++ [r] ∧ r.source = srcTcore c ∧ r.cls = 2 ∧ r.code = codeSramPoison) ∧
        (t.tcore c).cc.retired = (s.tcore c).cc.retired) ∧
    ((s.recorded c).contains ((padBase c + off) / 8) = true → s.recs = [] → s.recq = [] →
      ∃ t, exec (.sramPoison (padBase c + off) 2) s = .next t ∧ (t.tcore c).cc.retired = true) ∧
    (s.weak.contains ((padBase c + off) / 8) = false →
      exec (.sramPoison (padBase c + off) 1) s = .next { s with weak := insertNat s.weak ((padBase c + off) / 8) })) ∧
  (∀ (c : Nat) (v : Bool) (s : State), c < 512 →
    let idle := (s.tcore c).me.queue = [] ∧ (s.tcore c).ve.queue = [] ∧ (s.tcore c).fe.queue = [] ∧
      ∀ e ∈ (s.tcore c).me.entries, e.2.nonempty = false
    (idle → s.compat c ≠ v →
      ∃ t, exec (.compatWrite (.pf 0) c v) s = .next t ∧ t.compat c = v ∧ (t.tcore c).zeroing = true ∧ t.mem = s.mem) ∧
    (idle → s.compat c = v → exec (.compatWrite (.pf 0) c v) s = .next s) ∧
    (¬ idle →
      ∃ t, exec (.compatWrite (.pf 0) c v) s = .next t ∧ t.compat c = s.compat c ∧ t.fget (R.TC_SP_STATUS.mode_err c) = 1 ∧
        t.tcores = s.tcores ∧ t.mem = s.mem) ∧
    ((s.tcore c).zeroing = true →
      ∃ t, exec (.compatZeroDone c) s = .next t ∧ (t.tcore c).zeroing = false ∧ (∀ o, o < 0x400000 → t.byte (padBase c + o) = 0) ∧
        (∀ a, (a < padBase c ∨ padBase c + 0x400000 ≤ a) → t.byte a = s.byte a)))

/-- MOVE, GATHER, SCATTER, FE_ELEMENT_RESPONSE and FE_COMPLETE, of a fetch engine and of a ring operation. -/
def Obligations.Transfers : Prop :=
  (∀ (cmd : Mover → Instr) (op : Nat), (cmd, op) ∈ ([(.move, 1), (.gather, 2), (.scatter, 3)] : List ((Mover → Instr) × Nat)) →
    (∀ (c : Nat) (s : State) (q : Quad), c < 512 → s.atHead c .fe 0x10 = some q → s.xferOf (.fe c) = none →
      let o := q0 q 8 22
      let d := s.padBytes c o 64
      let refused := fun (code : Nat) => ∃ t, exec (cmd (.fe c)) s = .next t ∧ t.fget (R.TC_FE_ERR.valid c) = 1 ∧
        t.fget (R.TC_FE_ERR.code c) = code ∧ t.fget (R.TC_FE_STATUS.halted c) = 1 ∧ (excFe, 3) ∈ (t.tcore c).cc.pending ∧
        t.xferOf (.fe c) = none ∧ t.queueOf c .fe = s.queueOf c .fe ∧ t.mem = s.mem
      dOp d = op →
      (s.poisonedIn (padBase c + o) 64 = false →
        ((dFieldsOk false d && s.extentsOk c d) = true →
          ∃ t x, exec (cmd (.fe c)) s = .next t ∧ t.xferOf (.fe c) = some x ∧ x.desc = d ∧ x.core = c ∧ x.total = dRows d ∧
            x.committed = 0 ∧ x.issued ≤ 16 ∧ t.queueOf c .fe = s.queueOf c .fe ∧ (dInto d = true → t.mem = s.mem) ∧
            -- rows of package memory that the engine reaches come at once, up to 16 of them
            (dOp d = 1 → dDir d = 0 → dSpace d = 0 → s.poison = [] →
              (∀ e, e < dRows d → s.reachAll (s.reachOf (.fe c)).part ((dExtAddr d + e * dExtStride d) % 2 ^ 64) (dRowBytes d) = true) →
              x.issued = Nat.min 16 (dRows d) ∧ x.inFlight = (List.range (Nat.min 16 (dRows d))).map (fun e =>
                (e, ElemSt.arrived (s.paBytes ((dExtAddr d + e * dExtStride d) % 2 ^ 64) (dRowBytes d)))))) ∧
        ((dFieldsOk false d && s.extentsOk c d) = false → refused 1)) ∧
      (s.poisonedIn (padBase c + o) 64 = true → refused 5)) ∧
    (∀ (k : Nat) (s : State) (o : Op), s.mayStartOp k op = some o →
      (s.partTcores o.partition = [] →
        ∃ t o', exec (cmd (.op k)) s = .next t ∧ t.op k = some o' ∧ o'.status = some 0x10 ∧ t.mem = s.mem) ∧
      (s.partTcores o.partition ≠ [] →
        (dFieldsOk true o.desc = true → (∀ c ∈ s.partTcores o.partition, s.extentsOk c o.desc = true) →
          ∃ t x, exec (cmd (.op k)) s = .next t ∧ t.xferOf (.op k) = some x ∧ x.desc = o.desc ∧ x.core ∈ s.partTcores o.partition ∧
            x.total = dRows o.desc ∧ x.committed = 0 ∧ x.issued ≤ 16 ∧ (dInto o.desc = true → t.mem = s.mem)) ∧
        (dFieldsOk true o.desc = false ∨ (∀ c ∈ s.partTcores o.partition, s.extentsOk c o.desc = false) →
          ∃ t o', exec (cmd (.op k)) s = .next t ∧ t.op k = some o' ∧ o'.status = some 0x7F ∧ o'.progress = o.progress ∧ t.mem = s.mem)))) ∧
  (∀ (w : Mover) (e : Nat) (r : ElemResp) (s : State) (x : Xfer), s.xferOf w = some x → dSpace x.desc ≠ 2 →
    ((∀ p ∈ x.inFlight, p.1 = x.committed → ∃ n b, p.2 = .waiting n b) → x.issued = x.total →
      ∃ t, exec (.feElementResponse w e r) s = .next t ∧ t.xferOf w = some x ∧ t.mem = s.mem) ∧
    (∀ bs, x.inFlight = [(x.committed, .arrived bs)] → x.total = x.committed + 1 → x.issued = x.total → dWiden x.desc = false →
      let a := padBase x.core + s.padOff (dSpAddr x.desc + x.committed * dSpStride x.desc)
      ∃ t y, exec (.feElementResponse w e r) s = .next t ∧ t.xferOf w = some y ∧ y.committed = x.total ∧ y.inFlight = [] ∧
        t.bytes a bs.length = bs ∧ (∀ b, (b < a ∨ a + bs.length ≤ b) → t.byte b = s.byte b)) ∧
    -- a row that comes before the row due waits for it
    (∀ bs n b, x.inFlight = [(x.committed, .waiting n b), (x.committed + 1, .arrived bs)] → x.issued = x.total →
      ∃ t, exec (.feElementResponse w e r) s = .next t ∧ t.xferOf w = some x ∧ t.mem = s.mem)) ∧
  (∀ (s : State) (x : Xfer), x.committed = x.total → bit (dBeacon x.desc) 15 = false →
    (∀ c, s.xferOf (.fe c) = some x →
      ∃ t, exec (.feComplete (.fe c)) s = .next t ∧ t.xferOf (.fe c) = none ∧ t.queueOf c .fe = (s.queueOf c .fe).drop 1 ∧
        t.regs = s.regs ∧ t.mem = s.mem) ∧
    (∀ k o, s.op k = some o → o.xfer = some x → o.status = none →
      ∃ t o', exec (.feComplete (.op k)) s = .next t ∧ t.op k = some o' ∧ o'.xfer = none ∧ o'.progress = o.progress ∧
        o'.witness = o.witness ∧ t.mem = s.mem ∧
        o'.status = some (if o.reissues ≠ 0 then 0x02 else if bit o.classFlags 0 = true ∨ bit o.classFlags 1 = true then 0x01 else 0))) ∧
  (∀ (s : State) (x : Xfer) (st : Nat), x.committed < x.total → x.firstBad = some (x.committed, st) →
    (∀ p ∈ x.inFlight, ∀ n b, p.2 ≠ .waiting n b) → x.committed ≤ 4095 →
    let recorded := fun (t : State) (c : Nat) => t.fget (R.TC_FE_ERR.valid c) = 1 ∧ t.fget (R.TC_FE_ERR.first_bad c) = x.committed ∧
      t.fget (R.TC_FE_ERR.code c) = feCode st ∧ (dInto x.desc = true → t.fget (R.TC_FE_ERR.landed_mask c) = 0) ∧
      (dInto x.desc = false → ∀ i, i < 15 → (bit (t.fget (R.TC_FE_ERR.landed_mask c)) i = true ↔
        ∃ b, (x.committed + 1 + i, ElemSt.acked b) ∈ x.inFlight)) ∧ t.mem = s.mem
    (∀ c, c < 512 → s.xferOf (.fe c) = some x →
      ∃ t, exec (.feComplete (.fe c)) s = .next t ∧ t.xferOf (.fe c) = none ∧ recorded t c ∧
        t.fget (R.TC_FE_STATUS.halted c) = 1 ∧ t.queueOf c .fe = s.queueOf c .fe) ∧
    (∀ k o, x.core < 512 → s.op k = some o → o.xfer = some x → o.status = none →
      ∃ t o', exec (.feComplete (.op k)) s = .next t ∧ t.op k = some o' ∧ o'.status = some st ∧ o'.progress = o.progress ∧ recorded t x.core)) ∧
  (∀ (w : Mover) (s : State) (x : Xfer), s.xferOf w = some x → x.committed < x.total → x.firstBad = none →
    exec (.feComplete w) s = .next s)

/-- DIRECTORY_TRANSACTION, WCB_IDLE_DRAIN, LLM_WRITEBACK, LLM_WRITEBACK_DONE and LLM_POISON. -/
def Obligations.LastLevelMemory : Prop :=
  (∀ (line m : Nat) (r : CohReq) (s : State), lineHome line = some m →
    (match r with | .pRead c => s.pcoreUp c = true | .pWrite c => s.pcoreUp c = true | .pEvict c _ => c < 192 | _ => True) →
    let d := s.dirLine line
    ∃ t, exec (.directoryTransaction line r) s = .next t ∧ t.mem = s.mem ∧ (∀ l, l ≠ line → t.dirLine l = s.dirLine l) ∧
      (match r with
       | .pRead c =>
         if d.owner = some c ∨ c ∈ d.sharers then t = s
         else (t.dirLine line).owner = none ∧ c ∈ (t.dirLine line).sharers ∧ (∀ x ∈ d.sharers, x ∈ (t.dirLine line).sharers) ∧
           (∀ x, d.owner = some x → x ∈ (t.dirLine line).sharers)
       | .pWrite c => (t.dirLine line).owner = some c ∧ (t.dirLine line).sharers = []
       | .pEvict c _ => (t.dirLine line).owner = (if d.owner = some c then none else d.owner) ∧
           (t.dirLine line).sharers = d.sharers.filter (fun x => x != c)
       | .feRead => (t.dirLine line).owner = none ∧ (∀ x ∈ d.sharers, x ∈ (t.dirLine line).sharers)
       | .feWrite => (t.dirLine line).owner = none ∧ (t.dirLine line).sharers = []
       | .dirEvict => t.dirLine line = DirLine.none ∧
           t.fget (R.LLM_ECC_CNT.back_inval m) = (s.fget (R.LLM_ECC_CNT.back_inval m) + d.copies) % 2 ^ 32)) ∧
  (∀ (m line : Nat) (s : State), m < 8 →
    ((∃ e ∈ s.wcbOf m, e.line = line) →
      ∃ t, exec (.wcbIdleDrain m line) s = .next t ∧ t.wcbOf m = (s.wcbOf m).filter (fun e => e.line != line) ∧
        t.fget (R.LLM_WCB_CNT.drains m) = (s.fget (R.LLM_WCB_CNT.drains m) + 1) % 2 ^ 32 ∧ t.mem = s.mem ∧
        -- the merged line goes to its channel where no cache-mode unit takes it
        (∀ ch loc, locOfLine line = some (.gddr ch loc) → s.cacheable (.gddr ch loc) = false → (s.dirLine line).owner = none →
          (s.chan ch).wq.length < 64 → (t.chan ch).wq = (s.chan ch).wq ++ [{ line := loc / 64, cls := 0 }])) ∧
    ((∀ e ∈ s.wcbOf m, e.line ≠ line) → exec (.wcbIdleDrain m line) s = .next s)) ∧
  (∀ (n : Nat) (s : State), n < 8 →
    (∃ t, exec (.llmWriteback (.pf 0) n) s = .next t ∧ t.fget (R.LLM_STATUS.wb_busy n) = 1 ∧ t.dir = s.dir ∧ t.mem = s.mem) ∧
    (s.fon (R.LLM_STATUS.wb_busy n) = true →
      ∃ t, exec (.llmWritebackDone n) s = .next t ∧ t.fget (R.LLM_STATUS.wb_busy n) = 0 ∧ t.mem = s.mem ∧
        (∀ l, lineHome l = some n → (t.dirLine l).cached = true → (t.dirLine l).dirty = false) ∧
        (∀ l, lineHome l ≠ some n → t.dirLine l = s.dirLine l))) ∧
  (∀ (u off : Nat) (s : State), u < 64 → off < 0x2000000 → s.llmUp u = true → s.poison.contains ((llmBase u + off) / 8) = false →
    s.reports.length < 64 →
    ∃ t, exec (.llmPoison (llmBase u + off) 2) s = .next t ∧ t.poison.contains ((llmBase u + off) / 8) = true ∧ t.mem = s.mem ∧
      ∃ r : Report, t.reports = s.reports ++ [r] ∧ r.source = srcSlice (u / 8) ∧ r.cls = 2 ∧ r.code = codeLlmPoison)

/-- CHANNEL_TRAIN_DONE, GDDR7_ACCESS, CRC_ERROR, RETRAIN_CMD, CHANNEL_RETRAIN_DONE and REFRESH. -/
def Obligations.BoardMemory : Prop :=
  (∀ (n : Nat) (fit : ChanFit) (s : State), n < 64 → chState s n = 1 →
    let good := fit.ok = true ∧ 1 ≤ fit.devices ∧ fit.devices ≤ 2 ∧ fit.density < 2 ∧ fit.rate < 3
    let empty := fun (t : State) => ∀ loc, loc < 2 ^ 36 → t.byte (gddrKey n loc) = 0
    (good → ∃ t, exec (.channelTrainDone n fit) s = .next t ∧ chState t n = 2 ∧ t.fget (R.GDM_CH_STATUS.rate n) = fit.rate ∧
      t.fget (R.GDM_CH_STATUS.devices n) = fit.devices ∧
      t.fget (R.GDM_CH_STATUS.usable_mib n) = fit.devices * (if fit.density = 0 then 1920 else 2880) ∧ empty t) ∧
    (¬ good → ∃ t, exec (.channelTrainDone n fit) s = .next t ∧ chState t n = 4 ∧ empty t ∧
      (∀ r, r < 64 → bit (t.fget (R.GDM_MAP_CHAN.channel_mask r)) n = true → t.fget (R.GDM_MAP_CTL.enable r) = 0))) ∧
  (∀ (n : Nat) (s : State), n < 64 → chState s n = 2 → (s.chan n).selfRefresh = false → (∀ q ∈ (s.chan n).rq, q.cls ≤ 2) →
    let c := s.chan n
    let bm := s.fget (R.GDM_CH_CTL.batch_max n)
    let hi := s.fget (R.GDM_CH_CTL.wr_hi_mark n)
    ((c.rq ≠ [] ∨ c.wq ≠ []) →
      ∃ t, exec (.gddr7Access n) s = .next t ∧ (t.chan n).rq.length + (t.chan n).wq.length + 1 = c.rq.length + c.wq.length ∧
        (t.fget (R.GDM_CH_RD_BYTES.rd_bytes n) = (s.fget (R.GDM_CH_RD_BYTES.rd_bytes n) + 64) % 2 ^ 64 ∨
          t.fget (R.GDM_CH_WR_BYTES.wr_bytes n) = (s.fget (R.GDM_CH_WR_BYTES.wr_bytes n) + 64) % 2 ^ 64) ∧
        (∀ m, m ≠ n → t.chan m = s.chan m) ∧ t.mem = s.mem) ∧
    (c.writing = false → readsEnd c bm hi = false → (∃ q ∈ c.rq, q.cls = 1) → (∀ q ∈ c.rq, q.cls ≠ 1 → c.sinceLow < 15) →
      ∃ t, exec (.gddr7Access n) s = .next t ∧ ∃ q ∈ c.rq, q.cls = 1 ∧ (t.chan n).rq = c.rq.erase q ∧ (t.chan n).wq = c.wq) ∧
    (c.writing = false → readsEnd c bm hi = false → (∃ q ∈ c.rq, q.cls ≠ 1) → 15 ≤ c.sinceLow →
      ∃ t, exec (.gddr7Access n) s = .next t ∧ ∃ q ∈ c.rq, q.cls ≠ 1 ∧ (t.chan n).rq = c.rq.erase q ∧ (t.chan n).wq = c.wq) ∧
    (c.writing = true → writesEnd c bm = false →
      ∃ t, exec (.gddr7Access n) s = .next t ∧ (t.chan n).wq = c.wq.drop 1 ∧ (t.chan n).rq = c.rq ∧ (t.chan n).writing = true ∧ t.mem = s.mem) ∧
    (c.rq = [] → c.wq = [] → exec (.gddr7Access n) s = .next s)) ∧
  (∀ (now n : Nat) (s : State), n < 64 → chState (s.advance now) n = 2 →
    let s0 := s.advance now
    let recent := (s0.clock :: (s0.chan n).retries).filter (fun t => decide (s0.clock < t + 1000000))
    ((s0.chan n).attempts < 3 → recent.length < s.fget (R.GDM_CH_CTL.crc_retrain_thr n) →
      ∃ t, exec (.crcError now n) s = .next t ∧ chState t n = 2 ∧ (t.chan n).attempts = (s0.chan n).attempts + 1 ∧
        t.fget (R.GDM_CH_CRC.crc_retries n) = (s0.fget (R.GDM_CH_CRC.crc_retries n) + 1) % 2 ^ 32 ∧
        (t.chan n).rq = (s0.chan n).rq ∧ (t.chan n).wq = (s0.chan n).wq ∧ t.mem = s0.mem) ∧
    ((s0.chan n).attempts < 3 → s.fget (R.GDM_CH_CTL.crc_retrain_thr n) ≤ recent.length →
      ∃ t, exec (.crcError now n) s = .next t ∧ chState t n = 3 ∧ (t.chan n).attempts = 0 ∧ (t.chan n).retries = [] ∧
        t.fget (R.GDM_CH_CRC.crc_retries n) = (s0.fget (R.GDM_CH_CRC.crc_retries n) + 1) % 2 ^ 32 ∧ t.mem = s0.mem) ∧
    (3 ≤ (s0.chan n).attempts →
      ∃ t, exec (.crcError now n) s = .next t ∧ chState t n = 3 ∧ (t.chan n).attempts = 0 ∧
        (t.chan n).rq = (s0.chan n).rq ∧ (t.chan n).wq = (s0.chan n).wq ∧ t.mem = s0.mem)) ∧
  (∀ (n : Nat) (s : State), n < 64 →
    (chState s n = 2 → (s.mntDecide 1 n (s.mntCondition 1 n)).1 = stDone →
      ∃ t, exec (.retrainCmd (.pf 0) n) s = .next t ∧ chState t n = 3 ∧ t.chan n = s.chan n ∧ t.mem = s.mem) ∧
    (chState s n = 2 → (s.mntDecide 1 n (s.mntCondition 1 n)).1 ≠ stDone →
      ∃ t, exec (.retrainCmd (.pf 0) n) s = .next t ∧ chState t n = 2 ∧ t.chan n = s.chan n ∧ t.mem = s.mem) ∧
    (chState s n = 3 → exec (.retrainCmd (.pf 0) n) s = .next (s.setChan n { s.chan n with retrainQueued := true }))) ∧
  (∀ (now n : Nat) (s : State), n < 64 → chState (s.advance now) n = 3 →
    let s0 := s.advance now
    ((s0.chan n).retrainQueued = false →
      ∃ t, exec (.channelRetrainDone now n true) s = .next t ∧ chState t n = 2 ∧ t.chan n = s0.chan n ∧ t.mem = s0.mem) ∧
    ((s0.chan n).retrainQueued = true →
      ∃ t, exec (.channelRetrainDone now n true) s = .next t ∧ chState t n = 3 ∧ (t.chan n).retrainQueued = false ∧ t.mem = s0.mem) ∧
    ((∀ f ∈ (s0.chan n).failTimes, f + 1000000000 ≤ s0.clock) →
      ∃ t, exec (.channelRetrainDone now n false) s = .next t ∧ chState t n = 3 ∧ (t.chan n).failTimes = [s0.clock] ∧ t.mem = s0.mem) ∧
    ((∃ f ∈ (s0.chan n).failTimes, s0.clock < f + 1000000000) →
      ∃ t, exec (.channelRetrainDone now n false) s = .next t ∧ chState t n = 4 ∧ (∀ loc, loc < 2 ^ 36 → t.byte (gddrKey n loc) = 0))) ∧
  (∀ (n : Nat) (s : State), n < 64 → s.chanTrained n = true → (s.chan n).selfRefresh = false →
    exec (.refresh n) s = .next (s.setChan n { s.chan n with refreshes := (s.chan n).refreshes + (if s.fget (R.GDM_CH_STATUS.hot n) = 0 then 1 else 2) }))

/-- MAP_ENABLE_WRITE, the mapping it puts in force, GDDR7_POISON, TEMP_POLL and HOT_EXIT. -/
def Obligations.BoardAddressing : Prop :=
  (∀ (fn : Fn) (r : Nat) (v : Word) (s : State), r < 64 → (fn = .pf 0 ∨ fn = .pf 1) →
    let en := R.GDM_MAP_CTL.enable r
    let il := R.GDM_MAP_CTL.interleave r
    (getField v 0 1 = 1 → s.fget en = 0 → (s.fset il (getField v 1 2)).mapValid r = true →
      ∃ t, exec (.mapEnableWrite fn r v) s = .next t ∧ t.fget en = 1 ∧ t.fget il = getField v 1 2 ∧ t.mem = s.mem) ∧
    (getField v 0 1 = 1 → s.fget en = 0 → (s.fset il (getField v 1 2)).mapValid r = false →
      ∃ t, exec (.mapEnableWrite fn r v) s = .next t ∧ t.fget en = 0 ∧ t.fget (R.GDM_MAP_CTL.map_err r) = 1 ∧ t.mem = s.mem) ∧
    (getField v 0 1 = 1 → s.fget en = 1 →
      ∃ t, exec (.mapEnableWrite fn r v) s = .next t ∧ t.fget en = 1 ∧ t.fget il = s.fget il) ∧
    (getField v 0 1 = 0 →
      ∃ t, exec (.mapEnableWrite fn r v) s = .next t ∧ t.fget en = 0 ∧ t.mem = s.mem)) ∧
  (∀ (r o : Nat) (s : State), r < 64 → o < s.fget (R.GDM_MAP_BASE.size_2m r) * 0x200000 →
    let pa := gddrBase + s.fget (R.GDM_MAP_BASE.base_2m r) * 0x200000 + o
    let chs := bitsOf 64 (s.fget (R.GDM_MAP_CHAN.channel_mask r))
    let g := granule (s.fget (R.GDM_MAP_CTL.interleave r))
    s.fget (R.GDM_MAP_CTL.enable r) = 1 → (∀ q, q < r → s.mapCovers pa q = false) →
    s.locOf pa = some (.gddr (chs.getD (o / g % chs.length) 0)
      (s.fget (R.GDM_MAP_CBASE.chan_base_2m r) * 2097152 + o / g / chs.length * g + o % g))) ∧
  (∀ (n addr bits : Nat) (s : State), n < 64 → s.chanTrained n = true → addr < s.fget (R.GDM_CH_STATUS.usable_mib n) * 0x100000 →
    s.reports.length < 64 →
    let words := (List.range 8).map (fun i => gddrKey n (addr / 64 * 64) / 8 + i)
    (∃ w ∈ words, s.poison.contains w = false) →
    ((2 ≤ bits ∨ bits = 1 ∧ ∃ w ∈ words, s.weak.contains w = true) →
      ∃ t, exec (.gddr7Poison n addr bits) s = .next t ∧ (∀ w ∈ words, t.poison.contains w = true) ∧ t.mem = s.mem ∧
        t.fget (R.GDM_CH_ECC.poisoned n) = (s.fget (R.GDM_CH_ECC.poisoned n) + 1) % 2 ^ 32 ∧
        ∃ p : Report, t.reports = s.reports ++ [p] ∧ p.source = srcChan n ∧ p.cls = 2 ∧ p.code = codePoison) ∧
    (bits = 1 → (∀ w ∈ words, s.weak.contains w = false) →
      ∃ t, exec (.gddr7Poison n addr bits) s = .next t ∧ t.poison = s.poison ∧ t.mem = s.mem ∧ (∃ w ∈ words, t.weak.contains w = true))) ∧
  (∀ (now m devs : Nat) (temp : Int) (s : State), m < 8 →
    let s0 := s.advance now
    (95 < temp ∨ devs % 256 ≠ 0 →
      ∃ t, exec (.tempPoll now m temp devs) s = .next t ∧ t.mem = s0.mem ∧
        (s0.mHot m = false → ∀ n ∈ chansOf m, t.fget (R.GDM_CH_STATUS.hot n) = 1) ∧ t.mHot m = true ∧
        t.issueLimit (2 * m) ≤ 75 ∧ t.issueLimit (2 * m + 1) ≤ 75) ∧
    (90 ≤ temp → temp ≤ 95 → devs % 256 = 0 →
      ∃ t, exec (.tempPoll now m temp devs) s = .next t ∧ t.mHot m = s0.mHot m ∧
        (∀ n ∈ chansOf m, t.fget (R.GDM_CH_STATUS.dev_hot n) = 0) ∧ t.mem = s0.mem) ∧
    (∀ since, assocGet (fun _ => (none : Option Nat)) s0.nwt.mCool m = some since → s0.mHot m = true → since + 10000000 ≤ s0.clock →
      ∃ t, exec (.hotExit now m) s = .next t ∧ (∀ n ∈ chansOf m, t.fget (R.GDM_CH_STATUS.hot n) = 0) ∧ t.mHot m = false ∧ t.mem = s0.mem))

/-- RACK_LOAD, RACK_STORE, EPOCH_WRITE, EPOCH_READ, and the checks that atomics share with them. -/
def Obligations.RackAccess : Prop :=
  let keyOk := fun (s : State) (q : RackReq) => q.key = s.fget (R.RMM_RGN_KEY.key q.desc) ∨
    ∃ e ∈ s.oldKeys, e.1 = q.desc ∧ e.2.1 = q.key ∧ s.fget R.TRN_NUMBER.transit ≤ e.2.2
  let allowed := fun (s : State) (q : RackReq) => s.blockedSrc q.src = false ∧
    (if s.fget R.RMM_STATUS.twilight = 1 then q.service = true ∧ q.authed = true else keyOk s q)
  let passes := fun (s : State) (q : RackReq) => q.desc < 4096 ∧ s.fget (R.RMM_RGN_CFG.enable q.desc) = 1 ∧ allowed s q ∧
    q.off < s.fget (R.RMM_RGN_BASE.size_2m q.desc) * 0x200000
  let counted := fun (s t : State) (d : Nat) =>
    t.fget (R.RMM_RGN_CNT.accesses d) = Nat.min (s.fget (R.RMM_RGN_CNT.accesses d) + 1) (2 ^ 32 - 1)
  (∀ (cmd : RackReq → Instr) (q : RackReq) (s : State),
    (cmd = .rackLoad ∨ cmd = .epochRead ∨ (∃ d, cmd = fun q => .rackStore q d) ∨ (∃ d, cmd = fun q => .epochWrite q d) ∨
      ∃ e ∈ ([(.add, 1), (.fadd32, 2), (.fadd64, 3), (.and, 4), (.or, 5), (.xor, 6), (.swapAtomic, 7), (.cas, 8), (.max, 9), (.min, 10),
          (.maxUnsigned, 11), (.minUnsigned, 12), (.fmax, 13), (.fmin, 14)] : List ((RackReq → Nat → Word → Word → Instr) × Nat)),
        ∃ op a b, op < 256 ∧ op % 128 = e.2 ∧ cmd = fun q => e.1 q op a b) →
    (4096 ≤ q.desc ∨ s.fget (R.RMM_RGN_CFG.enable q.desc) = 0 → exec (cmd q) s = .next (s.respond q 0x11 [] 0)) ∧
    (q.desc < 4096 → s.fget (R.RMM_RGN_CFG.enable q.desc) = 1 → ¬ allowed s q →
      ∃ t, exec (cmd q) s = .next t ∧ t.out.head? = some (.rackResp q.src q.id 0x12 [] 0) ∧
        t.fget (R.RMM_RGN_CNT.key_faults q.desc) = (s.fget (R.RMM_RGN_CNT.key_faults q.desc) + 1) % 2 ^ 32 ∧
        (s.reports.length < 64 → ∃ p : Report, t.reports = s.reports ++ [p] ∧ p.source = srcPackage ∧ p.code = 0x0802 ∧ p.cls = 0) ∧
        t.mem = s.mem ∧ t.ewt = s.ewt ∧ t.beacons = s.beacons) ∧
    (q.desc < 4096 → s.fget (R.RMM_RGN_CFG.enable q.desc) = 1 → allowed s q →
      s.fget (R.RMM_RGN_BASE.size_2m q.desc) * 0x200000 ≤ q.off → exec (cmd q) s = .next (s.respond q 0x11 [] 0))) ∧
  (∀ (q : RackReq) (s : State), passes s q → s.fget (R.RMM_RGN_CFG.backing q.desc) ≠ 2 →
    q.len = 0 ∨ 64 < q.off % 64 + q.len → ∀ cmd ∈ [.rackLoad q, .epochRead q, .rackStore q [], .epochWrite q []],
      exec cmd s = .next (s.respond q 0x11 [] 0)) ∧
  (∀ (q : RackReq) (l : Loc) (s : State), passes s q → s.fget (R.RMM_RGN_CFG.backing q.desc) ≠ 2 →
    s.fget (R.RMM_RGN_CFG.cls q.desc) = 0 → 0 < q.len → q.off % 64 + q.len ≤ 64 → s.rgnLoc q.desc q.off = some l →
    (s.poisonAt l q.len = false →
      ∃ t, exec (.rackLoad q) s = .next t ∧ t.out.head? = some (.rackResp q.src q.id 0 (s.bytes l.key q.len) 0) ∧ counted s t q.desc ∧
        t.mem = s.mem) ∧
    (s.poisonAt l q.len = true →
      ∃ t, exec (.rackLoad q) s = .next t ∧ t.out.head? = some (.rackResp q.src q.id 0x20 [] 0) ∧ t.mem = s.mem) ∧
    (∀ data, data.length = q.len →
      ∃ t, exec (.rackStore q data) s = .next t ∧ t.out.head? = some (.rackResp q.src q.id 0 [] 0) ∧ counted s t q.desc ∧
        t.bytes l.key q.len = data ∧ (∀ a, (a < l.key ∨ l.key + q.len ≤ a) → t.byte a = s.byte a) ∧ t.ewt = s.ewt)) ∧
  (∀ (q : RackReq) (l : Loc) (s : State), passes s q → s.fget (R.RMM_RGN_CFG.backing q.desc) ≠ 2 →
    s.fget (R.RMM_RGN_CFG.cls q.desc) = 1 → 0 < q.len → q.off % 64 + q.len ≤ 64 → s.rgnLoc q.desc q.off = some l →
    let m := l.home.getD 0
    let o := q.off % 64
    let ack := fun (t : State) => t.out = .rackResp q.src q.id 0 [] 0 :: s.out ∧ t.mem = s.mem
    (∀ data, data.length = q.len → q.transit ≤ s.homeT m →
      ((∀ e ∈ s.ewtOf m, e.line = l.line → e.tag ≠ s.homeT m) → (s.ewtOf m).length < 65536 →
        ∃ t e, exec (.epochWrite q data) s = .next t ∧ ack t ∧ counted s t q.desc ∧ t.ewtOf m = s.ewtOf m ++ [e] ∧ e.line = l.line ∧
          e.tag = s.homeT m ∧ (∀ i, i < 64 → e.mask.getD i false = (decide (o ≤ i) && decide (i < o + q.len))) ∧
          (e.data.drop o).take q.len = data) ∧
      ((∃ e ∈ s.ewtOf m, e.line = l.line ∧ e.tag = s.homeT m) →
        ∃ t, exec (.epochWrite q data) s = .next t ∧ ack t ∧ counted s t q.desc ∧
          (t.ewtOf m).map (fun e => (e.line, e.tag)) = (s.ewtOf m).map (fun e => (e.line, e.tag)) ∧
          (∀ e ∈ t.ewtOf m, e.line = l.line → e.tag = s.homeT m → ∀ i, o ≤ i → i < o + q.len →
            e.mask.getD i false = true ∧ (i < e.data.length → e.data.getD i 0 = data.getD (i - o) 0)) ∧
          ∀ e ∈ s.ewtOf m, ¬ (e.line = l.line ∧ e.tag = s.homeT m) → e ∈ t.ewtOf m) ∧
      ((∀ e ∈ s.ewtOf m, s.homeT m ≤ e.tag ∧ (e.line = l.line → e.tag ≠ s.homeT m)) → 65536 ≤ (s.ewtOf m).length →
        exec (.epochWrite q data) s = .next s)) ∧
    (q.transit ≤ s.homeT m → s.poisonAt l q.len = false →
      ((∀ e ∈ s.ewtOf m, e.line = l.line → q.transit ≤ e.tag) →
        ∃ t, exec (.epochRead q) s = .next t ∧ t.out.head? = some (.rackResp q.src q.id 0 (s.bytes l.key q.len) 0) ∧ counted s t q.desc ∧
          t.ewtOf m = s.ewtOf m ∧ t.mem = s.mem) ∧
      (∀ e, (s.ewtOf m).filter (fun x => x.line == l.line && decide (x.tag < q.transit)) = [e] →
        ∃ t bs, exec (.epochRead q) s = .next t ∧ t.out.head? = some (.rackResp q.src q.id 0 bs 0) ∧ bs.length = q.len ∧
          (∀ i, i < q.len → bs.getD i 0 = if e.mask.getD (o + i) false then e.data.getD (o + i) 0 else s.byte (l.key + i)) ∧
          t.mem = s.mem)) ∧
    (s.homeT m < q.transit → (∃ t, exec (.epochRead q) s = .next t ∧ t.homeT m = q.transit) ∧
      ∀ data, data.length = q.len → ∃ t, exec (.epochWrite q data) s = .next t ∧ t.homeT m = q.transit))

/-- ADD, FADD32, FADD64, AND, OR, XOR, SWAP, CAS, MAX, MIN signed and unsigned, FMAX and FMIN. -/
def Obligations.RackAtomics : Prop :=
  let fp := fun (w : Nat) (op : FpNum → FpNum → FpNum × Flags) (x y : Nat) =>
    let code := if w = 32 then 1 else 0
    let r := op (decodeNum code x) (decodeNum code y)
    let d := deliver code .rne false false r.1
    let f := r.2.or d.2
    (d.1, f.invalid.toNat + 2 * f.overflow.toNat + 4 * f.inexact.toNat)
  ∀ (cmd : RackReq → Nat → Word → Word → Instr) (base : Nat) (sizes : List Nat) (f : Nat → Nat → Nat → Nat → Nat × Nat),
    (cmd, base, sizes, f) ∈ ([
      (.add, 0x01, [4, 8], fun w x y _ => ((x + y) % 2 ^ w, 0)),
      (.fadd32, 0x02, [4], fun w x y _ => fp w (FpNum.add false) x y),
      (.fadd64, 0x03, [8], fun w x y _ => fp w (FpNum.add false) x y),
      (.and, 0x04, [4, 8], fun _ x y _ => (x &&& y, 0)),
      (.or, 0x05, [4, 8], fun _ x y _ => (x ||| y, 0)),
      (.xor, 0x06, [4, 8], fun _ x y _ => (x ^^^ y, 0)),
      (.swapAtomic, 0x07, [4, 8], fun _ _ y _ => (y, 0)),
      (.cas, 0x08, [4, 8], fun _ x y c => (if x = c then y else x, 0)),
      (.max, 0x09, [4, 8], fun w x y _ => (if signedOf w x < signedOf w y then y else x, 0)),
      (.min, 0x0A, [4, 8], fun w x y _ => (if signedOf w y < signedOf w x then y else x, 0)),
      (.maxUnsigned, 0x0B, [4, 8], fun _ x y _ => (Nat.max x y, 0)),
      (.minUnsigned, 0x0C, [4, 8], fun _ x y _ => (Nat.min x y, 0)),
      (.fmax, 0x0D, [4, 8], fun w x y _ => fp w (minMax true) x y),
      (.fmin, 0x0E, [4, 8], fun w x y _ => fp w (minMax false) x y)] :
        List ((RackReq → Nat → Word → Word → Instr) × Nat × List Nat × (Nat → Nat → Nat → Nat → Nat × Nat))) →
  ∀ (q : RackReq) (op : Nat) (a b : Word) (s : State), (op = base ∨ op = base + 0x80) → q.desc < 4096 →
    s.fget (R.RMM_RGN_CFG.enable q.desc) = 1 → s.fget (R.RMM_RGN_CFG.backing q.desc) ≠ 2 → s.blockedSrc q.src = false →
    (if s.fget R.RMM_STATUS.twilight = 1 then q.service = true ∧ q.authed = true else s.fget (R.RMM_RGN_KEY.key q.desc) = q.key) →
    q.off < s.fget (R.RMM_RGN_BASE.size_2m q.desc) * 0x200000 →
    (∀ l, s.fget (R.RMM_RGN_CFG.cls q.desc) = 0 → q.len ∈ sizes → q.off % q.len = 0 → s.rgnLoc q.desc q.off = some l →
      (s.poisonAt l q.len = false →
        let w := 8 * q.len
        let old := leNat (s.bytes l.key q.len)
        let r := f w old (a.toNat % 2 ^ w) (b.toNat % 2 ^ w)
        ∃ t, exec (cmd q op a b) s = .next t ∧ t.bytes l.key q.len = leBytes q.len r.1 ∧
          (∀ x, (x < l.key ∨ l.key + q.len ≤ x) → t.byte x = s.byte x) ∧
          t.out.head? = some (.rackResp q.src q.id 0 (if op = base + 0x80 ∨ base = 7 ∨ base = 8 then s.bytes l.key q.len else []) r.2)) ∧
      (s.poisonAt l q.len = true →
        ∃ t, exec (cmd q op a b) s = .next t ∧ t.out.head? = some (.rackResp q.src q.id 0x20 [] 0) ∧ t.mem = s.mem)) ∧
    (s.fget (R.RMM_RGN_CFG.cls q.desc) = 1 ∨ q.len ∉ sizes ∨ q.off % q.len ≠ 0 →
      exec (cmd q op a b) s = .next (s.respond q 0x11 [] 0))

/-- ATOMIC_PORT_ISSUE, ATOMIC_PORT_RESULT, RACK_RESPONSE, REQUEST_TIMER_EXPIRY, LIVENESS_QUERY, REQUEST_TOTAL_TIMEOUT. -/
def Obligations.RackSources : Prop :=
  let up := fun (s : State) (f : Fld) => Nat.min (s.fget f + 1) 65535
  (∀ (u : CoreId) (x : Word) (s : State), s.coreOn u = true →
    let c := (s.jumbe u).portCmd.take 0x18 ++ leBytes 8 x.toNat
    let q := askAt (acAddr c) (acSize c) (if atomicFetch (acOp c) then 3 else 2) (s.partOfCoreId u) (some u) none c
    let goes := fun (t : State) => (t.jumbe u).pc = (s.jumbe u).pc + 4 ∧ (t.jumbe u).x = (s.jumbe u).x ∧ t.mem = s.mem
    let ends := fun (t : State) (st : Nat) => (t.jumbe u).portBusy = false ∧ (t.jumbe u).portStatus = BitVec.ofNat 64 st ∧ t.reqs = s.reqs ∧ goes t
    ((s.jumbe u).portBusy = true → exec (.atomicPortIssue u x) s = .next s) ∧
    ((s.jumbe u).portBusy = false →
      (acOk c = false ∨ acOk c = true ∧ s.sourceStatus q = 0x11 →
        ∃ t, exec (.atomicPortIssue u x) s = .next t ∧ ends t 0x11 ∧ t.out = s.out ∧ t.reg A.RMM_FAULT_CNT = s.reg A.RMM_FAULT_CNT) ∧
      (acOk c = true → s.sourceStatus q = 0x12 →
        ∃ t, exec (.atomicPortIssue u x) s = .next t ∧ ends t 0x12 ∧ (s.reports.length < 64 → t.out = s.out) ∧
          t.fget R.RMM_FAULT_CNT.key_faults = up s R.RMM_FAULT_CNT.key_faults) ∧
      (acOk c = true → s.sourceStatus q = 0x13 →
        ∃ t, exec (.atomicPortIssue u x) s = .next t ∧ ends t 0x13 ∧ (s.reports.length < 64 → t.out = s.out) ∧
          t.fget R.RMM_FAULT_CNT.dead_target = up s R.RMM_FAULT_CNT.dead_target) ∧
      (acOk c = true → s.sourceStatus q = 0 → s.reqs = [] →
        (s.shaped q.ldn q.size = none → exec (.atomicPortIssue u x) s = .next s) ∧
        (s.shaped q.ldn q.size ≠ none →
          ∃ t id r, exec (.atomicPortIssue u x) s = .next t ∧ (t.jumbe u).portBusy = true ∧ (t.jumbe u).portCmd = c ∧ s.req id = none ∧
            t.req id = some r ∧ r.core = some u ∧ r.kind = q.kind ∧ r.desc = q.desc ∧ r.off = q.off ∧ r.len = q.len ∧ r.querying = false ∧
            r.dst = (if s.ownLdn q.ldn then s.ldn else q.ldn) ∧
            t.out = .rackReq id r.dst q.desc q.off q.kind ((s.outEntry q.ldn q.desc).toNat % 2 ^ 32) c
              (if s.ownLdn q.ldn then none else s.pathOf q) :: s.out ∧ goes t)))) ∧
  (∀ (u : CoreId) (xd : Nat) (s : State), s.coreOn u = true →
    ((s.jumbe u).portBusy = false →
      ∃ t, exec (.atomicPortResult u xd) s = .next t ∧ (t.jumbe u).xr xd = (if xd % 32 = 0 then 0 else (s.jumbe u).portOld) ∧
        (∀ k, k % 32 ≠ xd % 32 → (t.jumbe u).xr k = (s.jumbe u).xr k) ∧ (t.jumbe u).pc = (s.jumbe u).pc + 4 ∧ t.mem = s.mem) ∧
    ((s.jumbe u).portBusy = true → exec (.atomicPortResult u xd) s = .next s)) ∧
  (∀ (id status : Nat) (data : List Byte) (transit : Option Nat) (s : State),
    (s.req id = none →
      exec (.rackResponse id status data transit) s = .next (s.fset R.RMM_FAULT_CNT.late_responses (up s R.RMM_FAULT_CNT.late_responses))) ∧
    (∀ r, s.req id = some r → r.kind = 4 → exec (.rackResponse id status data transit) s = .next s) ∧
    (∀ r u, s.req id = some r → r.core = some u →
      ((r.kind = 2 ∨ r.kind = 3) → status < 2048 →
        ∃ t, exec (.rackResponse id status data transit) s = .next t ∧ t.req id = none ∧ (t.jumbe u).portBusy = false ∧
          (t.jumbe u).portStatus.toNat = status ∧ (r.kind = 2 → (t.jumbe u).portOld = (s.jumbe u).portOld) ∧
          (r.kind = 3 → status % 256 = 0 → (t.jumbe u).portOld = BitVec.ofNat 64 (leNat data)) ∧ t.mem = s.mem) ∧
      (r.kind = 0 →
        ∃ t, exec (.rackResponse id status data transit) s = .next t ∧ t.req id = none ∧ t.mem = s.mem ∧
          (t.jumbe u).loads.length = (s.jumbe u).loads.length ∧
          ∀ l ∈ (t.jumbe u).loads, ∀ p ∈ l.parts, p.req = some id → p.status = some (status % 256) ∧
            (status % 256 = 0 → data.length = r.len → p.bytes = data) ∧ (status % 256 ≠ 0 → p.bytes = List.replicate r.len 255)) ∧
      (r.kind = 1 →
        ∃ t, exec (.rackResponse id status data transit) s = .next t ∧ t.req id = none ∧ t.mem = s.mem ∧
          (t.jumbe u).posted.map (fun p => (p.addr, p.req)) = (s.jumbe u).posted.map (fun p => (p.addr, p.req)) ∧
          ∀ p ∈ (t.jumbe u).posted, p.req = some id → p.status = some (status % 256)) ∧
      (r.kind < 4 → status % 256 = 0x12 →
        ∃ t, exec (.rackResponse id status data transit) s = .next t ∧
          t.fget R.RMM_FAULT_CNT.key_faults = up s R.RMM_FAULT_CNT.key_faults))) ∧
  (∀ (id : Nat) (s : State),
    (s.req id = none → exec (.requestTimerExpiry id) s = .next s ∧ exec (.requestTotalTimeout id) s = .next s) ∧
    (∀ r, s.req id = some r →
      (r.querying = false →
        exec (.requestTimerExpiry id) s = .next ((s.setReq id (some { r with querying := true })).emit (.liveness r.dst id none))) ∧
      (r.querying = true → exec (.requestTimerExpiry id) s = .next s) ∧
      (∃ t, exec (.requestTotalTimeout id) s = .next t ∧ t.req id = none ∧
        (r.mover = none → t.fget R.RMM_FAULT_CNT.timeouts = up s R.RMM_FAULT_CNT.timeouts)) ∧
      (∀ u, r.core = some u → r.kind = 2 →
        ∃ t, exec (.requestTotalTimeout id) s = .next t ∧ (t.jumbe u).portBusy = false ∧ (t.jumbe u).portStatus.toNat = 0x14))) ∧
  (∀ (src id m d now : Nat) (s : State),
    let s0 := s.advance now
    let recent := s0.clock ≤ assocGet (fun _ => 0) s0.homeLast m + 1000 * s0.fget (R.RMM_RGN_CFG.timeout_us d)
    let idle := (s0.ewtOf m).length < 65536 ∨ ∃ e ∈ s0.ewtOf m, e.tag < s0.homeT m
    let v3 := ∃ n, n < 64 ∧ s0.fget (R.SCP_PORT_PEER.peer_ldn n) = src ∧ s0.fget (R.SCP_PORT_STATUS.version n) = 3
    (8 ≤ m ∨ 4096 ≤ d → exec (.livenessQuery src id m d now) s = .next s) ∧
    (m < 8 → d < 4096 →
      (recent ∨ idle → exec (.livenessQuery src id m d now) s = .next (s0.emit (.liveness src id (some true)))) ∧
      (¬ recent → ¬ idle → ¬ v3 → exec (.livenessQuery src id m d now) s = .next (s0.emit (.liveness src id (some false)))) ∧
      (¬ recent → ¬ idle → v3 → exec (.livenessQuery src id m d now) s = .next s0)))

/-- REGION_ENABLE_WRITE, KEY_COMMIT, KEY_CANCEL, RMM_TWILIGHT_ENTER and OKT_STORE. -/
def Obligations.RackRegisters : Prop :=
  (∀ (fn : Fn) (d : Nat) (v : Word) (s : State), d < 4096 →
    let en := fun (t : State) => t.fget (R.RMM_RGN_CFG.enable d)
    let frame := fun (t : State) => t.mem = s.mem ∧ (∀ e, e < 4096 → t.reg (A.RMM_RGN_BASE e) = s.reg (A.RMM_RGN_BASE e) ∧
      t.reg (A.RMM_RGN_KEY e) = s.reg (A.RMM_RGN_KEY e)) ∧ ∀ e, e < 4096 → e ≠ d → t.reg (A.RMM_RGN_CFG e) = s.reg (A.RMM_RGN_CFG e)
    let staged := fun (t : State) => t.fget (R.RMM_RGN_CFG.next_valid d) = getField v 12 1
    ((fn = .pf 2 ∨ fn = .mgmt) →
      ∃ t, exec (.regionEnableWrite fn d v) s = .next t ∧ staged t ∧ en t = en s ∧ t.fget (R.RMM_RGN_CFG.cls d) = s.fget (R.RMM_RGN_CFG.cls d) ∧
        t.fget (R.RMM_RGN_CFG.backing d) = s.fget (R.RMM_RGN_CFG.backing d) ∧
        t.fget (R.RMM_RGN_CFG.timeout_us d) = s.fget (R.RMM_RGN_CFG.timeout_us d) ∧ frame t) ∧
    ((fn = .pf 0 ∨ fn = .pf 1) →
      (fn = .pf 0 → ∃ t, exec (.regionEnableWrite fn d v) s = .next t ∧ staged t) ∧
      (fn = .pf 1 → ∃ t, exec (.regionEnableWrite fn d v) s = .next t ∧
        t.fget (R.RMM_RGN_CFG.next_valid d) = s.fget (R.RMM_RGN_CFG.next_valid d)) ∧
      (en s = 0 → getField v 0 1 = 1 → getField v 1 1 = s.fget (R.RMM_RGN_CFG.cls d) → getField v 2 2 = s.fget (R.RMM_RGN_CFG.backing d) →
        (s.rgnValid d = true → ∃ t, exec (.regionEnableWrite fn d v) s = .next t ∧ en t = 1 ∧ frame t) ∧
        (s.rgnValid d = false →
          ∃ t, exec (.regionEnableWrite fn d v) s = .next t ∧ en t = 0 ∧ t.fget (R.RMM_RGN_CFG.rgn_err d) = 1 ∧ frame t) ∧
        (∀ e, e < 4096 → e ≠ d → s.fget (R.RMM_RGN_CFG.enable e) = 1 → s.fget (R.RMM_RGN_CFG.backing e) < 2 → s.fget (R.RMM_RGN_CFG.backing d) < 2 →
          0 < s.fget (R.RMM_RGN_BASE.size_2m e) →
          s.fget (R.RMM_RGN_BASE.base_2m d) < s.fget (R.RMM_RGN_BASE.base_2m e) + s.fget (R.RMM_RGN_BASE.size_2m e) →
          s.fget (R.RMM_RGN_BASE.base_2m e) < s.fget (R.RMM_RGN_BASE.base_2m d) + s.fget (R.RMM_RGN_BASE.size_2m d) →
          ∃ t, exec (.regionEnableWrite fn d v) s = .next t ∧ en t = 0 ∧ t.fget (R.RMM_RGN_CFG.rgn_err d) = 1) ∧
        (s.fget (R.RMM_RGN_CFG.backing d) = 2 → s.fget (R.RMM_RGN_CFG.cls d) = 1 →
          ∃ t, exec (.regionEnableWrite fn d v) s = .next t ∧ en t = 0 ∧ t.fget (R.RMM_RGN_CFG.rgn_err d) = 1)) ∧
      (en s = 0 → getField v 0 1 = 0 →
        ∃ t, exec (.regionEnableWrite fn d v) s = .next t ∧ en t = 0 ∧ t.fget (R.RMM_RGN_CFG.cls d) = getField v 1 1 ∧
          t.fget (R.RMM_RGN_CFG.backing d) = getField v 2 2 ∧ (2 ≤ getField v 16 9 → getField v 16 9 ≤ 500 →
            t.fget (R.RMM_RGN_CFG.timeout_us d) = getField v 16 9) ∧ frame t) ∧
      (en s = 1 → getField v 0 1 = 1 →
        ∃ t, exec (.regionEnableWrite fn d v) s = .next t ∧ en t = 1 ∧ t.fget (R.RMM_RGN_CFG.cls d) = s.fget (R.RMM_RGN_CFG.cls d) ∧
          t.fget (R.RMM_RGN_CFG.backing d) = s.fget (R.RMM_RGN_CFG.backing d) ∧
          t.fget (R.RMM_RGN_CFG.timeout_us d) = s.fget (R.RMM_RGN_CFG.timeout_us d) ∧ frame t) ∧
      (en s = 1 → getField v 0 1 = 0 → ∃ t, exec (.regionEnableWrite fn d v) s = .next t ∧ en t = 0 ∧ frame t))) ∧
  (∀ (fn : Fn) (s : State), (fn = .pf 0 ∨ fn = .pf 2 ∨ fn = .mgmt) →
    let at_ := s.fget R.RMM_KEY_AT.at_transit
    let now := s.fget R.TRN_NUMBER.transit
    (at_ ≤ now + 1 → exec (.keyCommit fn false) s = .next (s.fset R.RMM_STATUS.commit_err 1)) ∧
    (now + 1 < at_ → exec (.keyCommit fn false) s = .next (s.fset R.RMM_STATUS.commit_pending 1)) ∧
    exec (.keyCommit fn true) s = .next (s.fset R.RMM_STATUS.commit_pending 0) ∧
    exec (.keyCancel fn) s = .next (s.fset R.RMM_STATUS.commit_pending 0)) ∧
  (∀ (fn : Fn) (s : State), (fn = .pf 0 ∨ fn = .mgmt) → exec (.rmmTwilightEnter fn) s = .next { s with twilightArm := true }) ∧
  (∀ (fn : Fn) (v : Word) (s : State), (fn = .pf 0 ∨ fn = .pf 2 ∨ fn = .mgmt) → s.fget R.RMM_OKT_ADDR.ldn < 144 →
    let k := s.fget R.RMM_OKT_ADDR.ldn * 4096 + s.fget R.RMM_OKT_ADDR.desc
    ∃ t, exec (.oktStore fn v) s = .next t ∧
      (∀ i, i < 128 → bit (t.oktOf k).toNat i =
        if i < 64 then bit (s.reg A.RMM_OKT_DATA0).toNat i else if i < 91 then bit v.toNat (i - 64) else false) ∧
      (∀ j, j ≠ k → t.oktOf j = s.oktOf j) ∧ t.mem = s.mem) ∧
  (∀ (c : Bool) (v : Word) (s : State), s.reports.length < 64 →
    ∀ cmd ∈ [.keyCommit (.pf 1) c, .keyCancel (.pf 1), .oktStore (.pf 1) v, .rmmTwilightEnter (.pf 1), .rmmTwilightEnter (.pf 2),
      .keyCommit (.pf 3) c, .regionEnableWrite (.pf 3) 0 v],
      ∃ t, exec cmd s = .next t ∧ t.regs = s.regs ∧ t.okt = s.okt ∧ t.twilightArm = s.twilightArm ∧
        ∃ p : Report, t.reports = s.reports ++ [p] ∧ p.code = 0x0A04)

/-- PORT_ENABLE_WRITE, POLL_SAMPLE, TRAIN_DONE, NEGOTIATE, AUTH_DONE, WAVELENGTH_LOSS, PORT_LIGHT_LOSS, PORT_RETRAIN, PORT_RELEASE,
PORT_QUARANTINE, LINK_RETRAIN_DONE, LINK_RETRAIN_FAIL, LASER_LOSS and LASER_RETURN. -/
def Obligations.PortStates : Prop :=
  let st := fun (s : State) (n : Nat) => s.fget (R.SCP_PORT_STATUS.state n)
  let sub := fun (s : State) (n lam : Nat) => s.fget (subState n lam)
  let lam4 := fun (s : State) (n : Nat) => s.fget (R.SCP_PORT_STATUS.lambda_up n)
  let quiet := fun (s t : State) (n : Nat) => t.mem = s.mem ∧ ∀ m, m < 64 → m ≠ n → st t m = st s m
  let common := fun (p : PeerInfo) => Nat.max 3 p.verLow ≤ Nat.min 4 p.verHigh
  let conflict := fun (s : State) (n : Nat) (p : PeerInfo) => s.fget (R.SCP_PORT_CTL.ext n) = 0 ∧ ∃ a ∈ s.mapsTo p.ldn, a ≠ p.rack * 256 + p.slot
  let works := fun (s : State) (n : Nat) => s.portWorks n = true ∧ s.milestone 3 = true ∧ n / 8 ∉ s.pins.laserLost
  (∀ (n : Nat) (fn : Fn) (p : PeerInfo) (lams lam : Nat) (s : State), n < 64 → (fn = .pf 0 ∨ fn = .pf 2) →
    s.fget (R.SCP_PORT_CTL.split n) = 0 →
    ∀ (cmd : Instr) (from_ : List Nat) (cond : Prop) (dest : Nat), (cmd, from_, cond, dest) ∈ ([
      (.portEnableWrite fn n true, [0], True, 1),
      (.portEnableWrite fn n false, [0, 1, 2, 3, 4, 5, 6, 7, 8, 9, 10, 11, 12, 13], True, 0),
      (.pollSample n true, [1], works s n, 2),
      (.pollSample n false, [1], works s n, 1),
      (.pollSample n true, [1], ¬ works s n, 1),
      (.trainDone n lams, [2], lams % 16 = 15 ∨ lams % 4 = 3 ∨ lams / 4 % 4 = 3, 3),
      (.trainDone n lams, [2], lams % 4 ≠ 3 ∧ lams / 4 % 4 ≠ 3, 8),
      (.negotiate n 0 p, [3], ¬ common p, 10),
      (.negotiate n 0 p, [3], common p ∧ ¬ conflict s n p, 4),
      (.negotiate n 0 p, [3], common p ∧ conflict s n p, 12),
      (.authDone n 0 true, [4], lam4 s n = 15, 5),
      (.authDone n 0 true, [4], lam4 s n ≠ 15, 6),
      (.authDone n 0 false, [4], True, 11),
      (.wavelengthLoss n lam, [5], lam < 4 ∧ lam4 s n = 15, 7),
      (.wavelengthLoss n lam, [6], lam < 4 ∧ lam4 s n ≠ 15 ∧ bit (lam4 s n) lam = true, 8),
      (.portLightLoss n, [10, 11, 12], True, 1),
      (.portLightLoss n, [5, 6], True, 7),
      (.portRetrain fn n, [5, 6], True, 7),
      (.portRetrain fn n, [8, 10, 11, 12], True, 2),
      (.portQuarantine fn n, [1, 2, 3, 4, 5, 6, 7, 8, 10, 11, 12, 13], True, 9),
      (.portRelease fn n, [9], True, 2)] : List (Instr × List Nat × Prop × Nat)) →
    st s n ∈ from_ → cond → ∃ t, exec cmd s = .next t ∧ st t n = dest ∧ quiet s t n) ∧
  (∀ (n lam now lams : Nat) (fn : Fn) (p : PeerInfo) (s : State), n < 64 → lam < 4 → (fn = .pf 0 ∨ fn = .pf 2) → st s n = 13 →
    let l := s.linkOf n lam
    let recent := (l.retrainTimes.filter (fun x => decide ((s.advance now).clock < x + 1000000000))).length
    (∀ (cmd : Instr) (from_ : List Nat) (cond : Prop) (dest : Nat), (cmd, from_, cond, dest) ∈ ([
      (.negotiate n lam p, [3], ¬ common p, 10),
      (.negotiate n lam p, [3], common p ∧ ¬ conflict s n p, 4),
      (.negotiate n lam p, [3], common p ∧ conflict s n p, 12),
      (.authDone n lam true, [4], True, 5),
      (.authDone n lam false, [4], True, 11),
      (.wavelengthLoss n lam, [5], True, 8),
      (.linkRetrainDone now n lam, [7], recent < 15 ∧ l.retrainQueued = false, 5),
      (.linkRetrainDone now n lam, [7], 15 ≤ recent, 8),
      (.linkRetrainFail now n lam, [7], recent < 15 ∧ l.retrainFails < 2, 7),
      (.linkRetrainFail now n lam, [7], 15 ≤ recent ∨ 2 ≤ l.retrainFails, 8)] : List (Instr × List Nat × Prop × Nat)) →
      sub s n lam ∈ from_ → cond → ∃ t, exec cmd s = .next t ∧ sub t n lam = dest ∧ (∀ j, j < 4 → j ≠ lam → sub t n j = sub s n j) ∧
        st t n = 13 ∧ quiet s t n) ∧
    (∃ t, exec (.trainDone n lams) s = .next t ∧ st t n = 13 ∧ quiet s t n ∧ ∀ j, j < 4 →
      sub t n j = if sub s n j = 2 then (if bit lams j then 3 else 8) else sub s n j) ∧
    (∃ t, exec (.portRetrain fn n) s = .next t ∧ st t n = 13 ∧ quiet s t n ∧ ∀ j, j < 4 →
      sub t n j = if sub s n j ∈ [5, 6] then 7 else if sub s n j ∈ [8, 10, 11, 12] then 2 else sub s n j) ∧
    (∃ t, exec (.portLightLoss n) s = .next t ∧ st t n = 13 ∧ quiet s t n ∧ ∀ j, j < 4 →
      sub t n j = if sub s n j ∈ [10, 11, 12] then 1 else if sub s n j ∈ [5, 6] then 7 else sub s n j) ∧
    (works s n → ∃ t, exec (.pollSample n true) s = .next t ∧ st t n = 13 ∧ quiet s t n ∧ ∀ j, j < 4 →
      sub t n j = if sub s n j = 1 then 2 else sub s n j)) ∧
  (∀ (n : Nat) (s : State), n < 64 → st s n = 1 → s.fget (R.SCP_PORT_CTL.split n) = 1 → works s n →
    ∃ t, exec (.pollSample n true) s = .next t ∧ st t n = 13 ∧ (∀ j, j < 4 → sub t n j = 2) ∧ quiet s t n) ∧
  (∀ (n : Nat) (fn : Fn) (p : PeerInfo) (s : State), n < 64 → (fn = .pf 0 ∨ fn = .pf 2) →
    (∀ lams, st s n = 2 → lams % 16 = 15 → ∃ t, exec (.trainDone n lams) s = .next t ∧ lam4 t n = 15) ∧
    (∀ lams, st s n = 2 → lams % 4 = 3 → lams % 16 ≠ 15 → ∃ t, exec (.trainDone n lams) s = .next t ∧ lam4 t n = 3) ∧
    (∀ lams, st s n = 2 → lams % 4 ≠ 3 → lams / 4 % 4 = 3 → ∃ t, exec (.trainDone n lams) s = .next t ∧ lam4 t n = 12) ∧
    (∀ lam, st s n = 5 → lam4 s n = 15 → lam < 4 →
      ∃ t, exec (.wavelengthLoss n lam) s = .next t ∧ lam4 t n = if lam < 2 then 12 else 3) ∧
    (st s n = 3 → 3 ≤ p.verHigh → p.verLow ≤ 3 → p.rack < 65536 → p.slot < 256 → p.ldn < 256 →
      ∃ t, exec (.negotiate n 0 p) s = .next t ∧ t.fget (R.SCP_PORT_STATUS.version n) = Nat.min 4 p.verHigh ∧
        t.fget (R.SCP_PORT_PEER.peer_rack n) = p.rack ∧ t.fget (R.SCP_PORT_PEER.peer_slot n) = p.slot ∧
        t.fget (R.SCP_PORT_PEER.peer_ldn n) = p.ldn ∧ t.reg (A.SCP_PORT_PEER_SN n) = p.serial) ∧
    (st s n = 4 → ∃ t, exec (.authDone n 0 true) s = .next t ∧ t.fget (R.SCP_PORT_STATUS.authenticated n) = 1 ∧
      (t.linkOf n 0).authed = true) ∧
    (∃ t, exec (.portRelease fn n) s = .next t ∧ t.fget (R.SCP_PORT_MAL.malformed n) = 0) ∧
    (st s n = 7 → ∃ t, exec (.portRetrain fn n) s = .next t ∧ st t n = 7 ∧ (t.linkOf n 0).retrainQueued = true)) ∧
  (∀ (now n : Nat) (s : State), n < 64 → st s n = 7 →
    let s0 := s.advance now
    let l := s0.linkOf n 0
    let recent := (l.retrainTimes.filter (fun x => decide (s0.clock < x + 1000000000))).length
    (recent < 15 → l.retrainQueued = false →
      ∃ t, exec (.linkRetrainDone now n 0) s = .next t ∧ st t n = (if lam4 s n = 15 then 5 else 6) ∧ (t.linkOf n 0).unacked = l.unacked ∧
        (t.linkOf n 0).resend = l.unacked.map TxFlit.seq ∧ (t.linkOf n 0).replayRun = 0 ∧ (t.linkOf n 0).retrainFails = 0 ∧ quiet s0 t n) ∧
    (recent < 15 → l.retrainQueued = true →
      ∃ t, exec (.linkRetrainDone now n 0) s = .next t ∧ st t n = 7 ∧ (t.linkOf n 0).retrainQueued = false ∧ quiet s0 t n) ∧
    (15 ≤ recent → ∃ t, exec (.linkRetrainDone now n 0) s = .next t ∧ st t n = 8 ∧ quiet s0 t n) ∧
    (recent < 15 → l.retrainFails < 2 →
      ∃ t, exec (.linkRetrainFail now n 0) s = .next t ∧ st t n = 7 ∧ (t.linkOf n 0).retrainFails = l.retrainFails + 1 ∧ quiet s0 t n) ∧
    (2 ≤ l.retrainFails ∨ 15 ≤ recent →
      ∃ t, exec (.linkRetrainFail now n 0) s = .next t ∧ st t n = 8 ∧ (t.linkOf n 0).unacked = [] ∧ quiet s0 t n)) ∧
  (∀ (f : Nat) (s : State), f < 8 →
    (∃ t, exec (.laserLoss f) s = .next t ∧ f ∈ t.pins.laserLost ∧ t.mem = s.mem ∧
      ∀ n, n < 64 → st t n = if n / 8 = f ∧ st s n ≠ 0 ∧ st s n ≠ 8 ∧ st s n ≠ 9 then 1 else st s n) ∧
    exec (.laserReturn f) s = .next { s with pins := { s.pins with laserLost := s.pins.laserLost.filter (fun x => x != f) } })

/-- DATA_FLIT, ACK_FLIT, IDLE_FLIT, UNCORRECTABLE_FLIT, FLIT_TRANSMIT, ACK_DUE, REPLAY_TIMER and KEY_UPDATE. -/
def Obligations.LinkFlits : Prop :=
  let hears := fun (s : State) (n lam : Nat) => s.linkIs n lam = true ∧ hearsFlits (s.linkSt n lam) = true
  -- the counts of an ACK flit: on a version 4 link those of all its buffers that are free
  let full := fun (s : State) (n : Nat) (l : Link) =>
    if l.version = 4 then creditKeys.map (fun k => (k, bufferFor l.alloc (s.fget (R.SCP_PORT_STATUS.state n) == 13) k - credit l.held k)) else []
  (∀ (now n lam : Nat) (f : Flit) (s : State), hears s n lam → f.ftype = 1 → f.rsv = 0 → f.ackValid = false → f.gap = false →
    f.crCount = 0 → f.corrected = false → f.used ≤ (if f.enc then 216 else 232) → routesOk f = true → s.vcAllowed n lam f.vc = true →
    (f.enc = true → f.tagOk = true) → s.fget (R.SCP_PORT_CTL.quar_thr n) = 0 →
    let s0 := s.advance now
    let l := s.linkOf n lam
    let d := (f.seq + 4096 - l.expected) % 4096
    (d = 0 →
      ∃ t, exec (.dataFlit now n lam f) s = .next t ∧ (t.linkOf n lam).expected = (l.expected + 1) % 4096 ∧
        (t.linkOf n lam).gapFlag = false ∧ (t.linkOf n lam).owed = l.owed + 1 ∧ t.mem = s0.mem ∧
        (∀ m, f.msgs = [m] → s0.forUs f.vc m = true → s0.msgBad n lam f.vc m = false → t.out.head? = some (.deliver f.vc m)) ∧
        (∀ m, f.msgs = [m] → s0.msgBad n lam f.vc m = true → t.out = s0.out ∧ t.fget (R.SCP_PORT_MAL.last_reason n) = 6 ∧
          t.fget (R.SCP_PORT_MAL.malformed n) = (s0.fget (R.SCP_PORT_MAL.malformed n) + 1) % 2 ^ 32)) ∧
    (1 ≤ d → d ≤ 2047 →
      ∃ t, exec (.dataFlit now n lam f) s = .next t ∧ (t.linkOf n lam).expected = l.expected ∧ (t.linkOf n lam).gapFlag = true ∧
        t.fget (R.SCP_PORT_REPLAY.gaps n) = Nat.min (s0.fget (R.SCP_PORT_REPLAY.gaps n) + 1) 65535 ∧ t.out = s0.out ∧ t.mem = s0.mem) ∧
    (d = 2048 →
      ∃ t, exec (.dataFlit now n lam f) s = .next t ∧ t.linkOf n lam = l ∧ t.fget (R.SCP_PORT_MAL.last_reason n) = 2 ∧
        t.fget (R.SCP_PORT_MAL.malformed n) = (s0.fget (R.SCP_PORT_MAL.malformed n) + 1) % 2 ^ 32 ∧ t.out = s0.out ∧ t.mem = s0.mem) ∧
    (2049 ≤ d →
      ∃ t, exec (.dataFlit now n lam f) s = .next t ∧ (t.linkOf n lam).expected = l.expected ∧ (t.linkOf n lam).owed = 0 ∧
        t.out = .flit n lam 2 0 ((l.expected + 4095) % 4096) l.gapFlag l.keyPhase (full s n l) [] :: s0.out ∧ t.mem = s0.mem)) ∧
  (∀ (cmd : Nat → Nat → Nat → Flit → Instr) (ty : Nat), (cmd, ty) ∈ ([(.dataFlit, 1), (.ackFlit, 2), (.idleFlit, 0)] :
      List ((Nat → Nat → Nat → Flit → Instr) × Nat)) →
    ∀ (now n lam : Nat) (f : Flit) (s : State), hears s n lam → f.ftype = ty → f.gap = false → s.fget (R.SCP_PORT_CTL.quar_thr n) = 0 →
    let l := s.linkOf n lam
    let k := fun (o : TxFlit) => (f.ackSeq + 4096 - o.seq) % 4096
    let after := fun (t : State) (key : Nat) => credit (t.linkOf n lam).credits key
    (∀ o rest, f.ackValid = true → l.unacked = o :: rest → k o < l.unacked.length →
      ∃ t, exec (cmd now n lam f) s = .next t ∧ (t.linkOf n lam).unacked = l.unacked.drop (k o + 1) ∧ (t.linkOf n lam).replayRun = 0) ∧
    (∀ o rest, f.ackValid = true → l.unacked = o :: rest → l.unacked.length ≤ k o →
      ∃ t, exec (cmd now n lam f) s = .next t ∧ (t.linkOf n lam).unacked = l.unacked) ∧
    (f.ackValid = false → ∃ t, exec (cmd now n lam f) s = .next t ∧ (t.linkOf n lam).unacked = l.unacked) ∧
    (ty = 0 ∨ ty = 2 ∧ l.version ≠ 4 → ∃ t, exec (cmd now n lam f) s = .next t ∧
      ∀ key, after t key = credit l.credits key + if key = 4 * f.crVc + f.crClass then f.crCount else 0) ∧
    (ty = 2 → f.rsv = 0 → l.version = 4 → f.credits.length = 22 → ∃ t, exec (cmd now n lam f) s = .next t ∧
      ∀ i, i < 22 → after t (creditKeys.getD i 0) =
        f.credits.getD i 0 - ((t.linkOf n lam).unacked.filter (fun o => 4 * o.vc + o.cls == creditKeys.getD i 0)).length)) ∧
  (∀ (n lam : Nat) (s : State), hears s n lam →
    exec (.uncorrectableFlit n lam) s = .next (s.fset (R.SCP_PORT_ERR.crc_fail n) ((s.fget (R.SCP_PORT_ERR.crc_fail n) + 1) % 2 ^ 32))) ∧
  (∀ (cmd : Instr) (now n lam : Nat) (f : Flit) (s : State), hears s n lam →
    let l := s.linkOf n lam
    let due := l.timerAt + 4000 + 2 * s.fget (R.SCP_PORT_DELAY.delay_ns n) ≤ (s.advance now).clock
    (¬ due ∨ l.unacked = [] → exec (.replayTimer now n lam) s = .next (s.advance now)) ∧
    ((cmd = .replayTimer now n lam ∧ due ∨
        cmd = .idleFlit now n lam f ∧ f.ftype = 0 ∧ f.rsv = 0 ∧ f.gap = true ∧ f.ackValid = false ∧ l.lastReplay = none) →
      l.unacked ≠ [] →
      (l.tx = .active → l.replayRun < 7 →
        ∃ t, exec cmd s = .next t ∧ (t.linkOf n lam).tx = .replaying ∧ (t.linkOf n lam).resend = l.unacked.map TxFlit.seq ∧
          (t.linkOf n lam).unacked = l.unacked ∧ (t.linkOf n lam).replayRun = l.replayRun + 1 ∧ t.linkSt n lam = s.linkSt n lam ∧
          t.fget (R.SCP_PORT_REPLAY.replays n) = (s.fget (R.SCP_PORT_REPLAY.replays n) + 1) % 2 ^ (R.SCP_PORT_REPLAY.replays n).width) ∧
      (l.tx = .replaying → l.replayRun < 7 →
        ∃ t, exec cmd s = .next t ∧ (t.linkOf n lam).tx = .replaying ∧ (t.linkOf n lam).resend = l.resend ∧
          (t.linkOf n lam).replayRun = l.replayRun + 1 ∧ (t.linkOf n lam).unacked = l.unacked ∧ t.linkSt n lam = s.linkSt n lam) ∧
      (l.tx = .active ∨ l.tx = .replaying → 7 ≤ l.replayRun →
        ∃ t, exec cmd s = .next t ∧ (t.linkOf n lam).tx = .retrain ∧ (t.linkOf n lam).unacked = l.unacked ∧ t.linkSt n lam = 7))) ∧
  (∀ (n lam : Nat) (s : State), n < 64 → lam < 4 →
    let l := s.linkOf n lam
    let window := if s.fget (R.SCP_PORT_STATUS.state n) = 13 then 511 else 2047
    let room := if l.enc then 216 else 232
    let sent := fun (t : State) (ty seq : Nat) (cr : List (Nat × Nat)) (ms : List Msg) =>
      t.out = .flit n lam ty seq ((l.expected + 4095) % 4096) l.gapFlag l.keyPhase cr ms :: s.out
    let owed := l.owedNext.map (fun e => (e.1, Nat.min e.2 255))
    (s.fget (R.SCP_PORT_STATUS.state n) = 9 →
      ∃ t, exec (.flitTransmit n lam) s = .next t ∧ sent t 0 0 owed [] ∧ (t.linkOf n lam).sendq = l.sendq) ∧
    (hears s n lam →
      (l.tx = .retrain → exec (.flitTransmit n lam) s = .next s) ∧
      (∀ q rest o, l.tx = .replaying → l.resend = q :: rest → o ∈ l.unacked → o.seq = q → (∀ x ∈ l.unacked, x.seq = q → x = o) →
        ∃ t, exec (.flitTransmit n lam) s = .next t ∧ sent t 1 q owed o.msgs ∧ (t.linkOf n lam).unacked = l.unacked ∧
          (t.linkOf n lam).resend = rest ∧ (t.linkOf n lam).nextSeq = l.nextSeq) ∧
      ((l.tx = .idle ∨ l.tx = .active) →
        (window ≤ l.unacked.length ∨ l.enc = true ∧ l.keyStart + 2 ^ 36 ≤ l.txCount ∨ (∀ v, l.headOf v = none) →
          ∃ t, exec (.flitTransmit n lam) s = .next t ∧ sent t 0 0 owed [] ∧ (t.linkOf n lam).unacked = l.unacked ∧
            (t.linkOf n lam).sendq = l.sendq) ∧
        (l.unacked.length < window → (l.enc = true → l.txCount < l.keyStart + 2 ^ 36) →
          (∀ i, l.sendq = [i] → i.vc < 8 → i.holds = none → 8 * i.msg.len ≤ room → 0 < credit l.credits (4 * i.vc + i.cls) →
            ∃ t, exec (.flitTransmit n lam) s = .next t ∧ sent t 1 l.nextSeq owed [i.msg] ∧ (t.linkOf n lam).sendq = [] ∧
              (t.linkOf n lam).unacked = l.unacked ++ [{ seq := l.nextSeq, vc := i.vc, cls := i.cls, msgs := [i.msg] }] ∧
              (t.linkOf n lam).nextSeq = (l.nextSeq + 1) % 4096 ∧
              credit (t.linkOf n lam).credits (4 * i.vc + i.cls) = credit l.credits (4 * i.vc + i.cls) - 1) ∧
          (∀ i, (l.sendq.find? (fun x => x.vc == 0)) = some i → 0 < credit l.credits i.cls → 8 * i.msg.len ≤ room →
            ∃ t g, exec (.flitTransmit n lam) s = .next t ∧ (t.linkOf n lam).unacked = l.unacked ++ [g] ∧ g.vc = 0 ∧ g.cls = i.cls ∧
              g.seq = l.nextSeq ∧ g.msgs.head? = some i.msg))) ∧
      (0 < l.owed →
        ∃ t, exec (.ackDue n lam) s = .next t ∧ sent t 2 0 (full s n l) [] ∧ (t.linkOf n lam).owed = 0 ∧ (t.linkOf n lam).unacked = l.unacked) ∧
      (l.owed = 0 → exec (.ackDue n lam) s = .next s) ∧
      (l.enc = true → l.authed = true → (l.version = 4 ∨ l.unacked = []) →
        ∃ t, exec (.keyUpdate n lam) s = .next t ∧ (t.linkOf n lam).keyPhase = !l.keyPhase ∧ (t.linkOf n lam).keyStart = l.txCount ∧
          (t.linkOf n lam).unacked = l.unacked ∧ t.out = s.out)))

/-- ROUTE_STORE, ROUTE_COMMIT, ROUTE_CANCEL, LDN_COMMIT, LDN_CANCEL and PUT_GET_MESSAGE. -/
def Obligations.RoutesAndAddresses : Prop :=
  (∀ (fn : Fn) (s : State), (fn = .pf 0 ∨ fn = .pf 2 ∨ fn = .mgmt) →
    let now := s.fget R.TRN_NUMBER.transit
    (∀ v : Word, s.fget R.SCP_ROUTE_ADDR.ldn < 144 →
      let k := (1 - s.fget R.SCP_ROUTE_CMD.bank) * 256 + s.fget R.SCP_ROUTE_ADDR.ldn
      ∃ t, exec (.routeStore fn v) s = .next t ∧ t.route k = (v &&& 0x03FF03FF03FF03FF) ++ s.reg A.SCP_ROUTE_DATA0 ∧
        (∀ j, j ≠ k → t.route j = s.route j) ∧ t.fget R.SCP_ROUTE_CMD.bank = s.fget R.SCP_ROUTE_CMD.bank ∧ t.mem = s.mem) ∧
    (s.fget R.SCP_ROUTE_AT.at_transit ≤ now + 1 → exec (.routeCommit fn false) s = .next (s.fset R.SCP_ROUTE_CMD.route_err 1)) ∧
    (now + 1 < s.fget R.SCP_ROUTE_AT.at_transit → exec (.routeCommit fn false) s = .next (s.fset R.SCP_ROUTE_CMD.pending 1)) ∧
    exec (.routeCommit fn true) s = .next (s.fset R.SCP_ROUTE_CMD.pending 0) ∧
    exec (.routeCancel fn) s = .next (s.fset R.SCP_ROUTE_CMD.pending 0) ∧
    exec (.ldnCancel fn) s = .next (s.fset R.SCP_LDN_NEXT.pending 0) ∧
    (∀ l, l < 144 →
      let s1 := s.fset R.SCP_LDN_NEXT.ldn_next l
      (s.fget R.SCP_LDN_AT.at_transit ≤ now + 1 → exec (.ldnCommit fn l false) s = .next (s1.fset R.SCP_LDN_NEXT.ldn_err 1)) ∧
      (now + 1 < s.fget R.SCP_LDN_AT.at_transit → exec (.ldnCommit fn l false) s = .next (s1.fset R.SCP_LDN_NEXT.pending 1)) ∧
      exec (.ldnCommit fn l true) s = .next (s1.fset R.SCP_LDN_NEXT.pending 0)) ∧
    (∀ l c, 144 ≤ l → ∃ t, exec (.ldnCommit fn l c) s = .next t ∧ t.fget R.SCP_LDN_NEXT.ldn_next = s.fget R.SCP_LDN_NEXT.ldn_next ∧
      t.fget R.SCP_ID.ldn = s.fget R.SCP_ID.ldn)) ∧
  (∀ (cmd : Instr) (v : Word) (l : Nat) (c : Bool) (s : State),
    cmd ∈ [.routeStore (.pf 1) v, .routeCommit (.pf 1) c, .routeCancel (.pf 1), .ldnCommit (.pf 1) l c, .ldnCancel (.pf 1)] →
    s.reports.length < 64 → ∃ t, exec cmd s = .next t ∧ t.regs = s.regs ∧ t.routes = s.routes ∧ t.mem = s.mem ∧
      ∃ p : Report, t.reports = s.reports ++ [p] ∧ p.code = 0x0A04) ∧
  (∀ (m : Msg) (s : State),
    let here := m.dst = s.fget R.SCP_ID.ldn ∧ m.dst ≠ 255 ∧ m.dstRack = s.fget R.SCP_ID.rack
    (¬ here → exec (.putGetMessage m) s = .next s) ∧
    (here → s.fget R.SCP_RATE.police_en = 0 ∨ s.fget R.SCP_RATE.rate_gbs = 0 →
      exec (.putGetMessage m) s = .next (s.emit (.deliver 5 m))) ∧
    (here → ∃ t, exec (.putGetMessage m) s = .next t ∧ t.out.head? = some (.deliver 5 m) ∧ t.mem = s.mem))

/-- COL_COMMIT, COL_CANCEL, LOST, COL_DARK_DECLARE, ABORT, CROSS_TIMEOUT, LIVENESS_ANSWER and LIVENESS_NO_ANSWER. -/
def Obligations.Constellations : Prop :=
  let now := fun (s : State) => s.fget R.TRN_NUMBER.transit
  (∀ (fn : Fn) (s : State), (fn = .pf 0 ∨ fn = .pf 1 ∨ fn = .mgmt) →
    let refused := exec (.colCommit fn false) s = .next (s.fset R.COL_STATUS.commit_err 1)
    let at_ := s.fget R.COL_AT.at_transit
    (at_ ≤ now s + 1 → refused) ∧
    (∀ i, i < 1024 → s.fget (R.COL_CST_NEXT.change i) = 1 → s.fget (R.COL_CST_NEXT.next_valid i) = 1 →
      let b := s.fget (R.COL_CST_NEXT.member_base i)
      let n := s.fget (R.COL_CST_NEXT.member_count i)
      let part := s.fget (R.COL_CST_NEXT.partition i)
      (n = 0 ∨ 144 < n ∨ 16384 < b + n ∨ s.partPresent part = false ∨
        (∃ j, j < n ∧ 144 ≤ s.fget (R.COL_MEMBER.ldn (b + j))) ∨
        (∃ j k, j < k ∧ k < n ∧ s.fget (R.COL_MEMBER.ldn (b + j)) = s.fget (R.COL_MEMBER.ldn (b + k))) ∨
        (∀ j, j < n → ¬ (s.fget (R.COL_MEMBER.ldn (b + j)) = s.fget R.SCP_ID.ldn ∧ s.fget (R.COL_MEMBER.partition (b + j)) = part)) ∨
        (∃ e, e < 1024 ∧ e ≠ i ∧ s.fget (R.COL_CST_CFG.valid e) = 1 ∧ 0 < s.fget (R.COL_CST_CFG.member_count e) ∧
          b < s.fget (R.COL_CST_CFG.member_base e) + s.fget (R.COL_CST_CFG.member_count e) ∧ s.fget (R.COL_CST_CFG.member_base e) < b + n)) → refused) ∧
    (now s + 1 < at_ → (∀ i, i < 1024 → s.staged i = true → s.stagedOk i = true) →
      exec (.colCommit fn false) s = .next (s.fset R.COL_STATUS.commit_pending 1)) ∧
    exec (.colCommit fn true) s = .next (s.fset R.COL_STATUS.commit_pending 0) ∧
    exec (.colCancel fn) s = .next (s.fset R.COL_STATUS.commit_pending 0)) ∧
  (∀ (ldn t : Nat) (s : State),
    (144 ≤ ldn → exec (.lost ldn t) s = .next s) ∧
    (ldn < 144 → now s < t → exec (.lost ldn t) s = .next { s with lostAt := s.lostAt ++ [(ldn, t)] }) ∧
    (ldn < 144 → t ≤ now s → ∃ u, exec (.lost ldn t) s = .next u ∧ u.lostAt = s.lostAt ++ [(ldn, now s + 1)] ∧
      u.fget R.COL_CNT1.late_lost = Nat.min (s.fget R.COL_CNT1.late_lost + 1) 65535 ∧ u.mem = s.mem)) ∧
  (∀ (fn : Fn) (ldn : Nat) (s : State), (fn = .pf 0 ∨ fn = .pf 1 ∨ fn = .pf 2 ∨ fn = .mgmt) → ldn < 144 → s.reports.length < 64 →
    ∃ t, exec (.colDarkDeclare fn ldn) s = .next t ∧ t.mem = s.mem ∧ t.posts = s.posts ∧
      (∃ r : Report, r ∈ t.reports ∧ r.source = srcPackage ∧ r.cls = 2 ∧ r.code = codeMemberDark) ∧
      ((∀ i, i < 1024 → s.fget (R.COL_CST_CFG.valid i) = 1 → ldn ∉ s.cstLdns i) → t.lostAt = s.lostAt) ∧
      (∀ i, i < 1024 → s.fget (R.COL_CST_CFG.valid i) = 1 → ldn ∈ s.cstLdns i →
        t.lostAt = s.lostAt ++ [(ldn, now s + 2)] ∧
        ∀ l ∈ s.liveLdns i, l ≠ s.fget R.SCP_ID.ldn → l ≠ ldn → Out.vc3 l 7 [ldn, now s + 2] ∈ t.out)) ∧
  (∀ (a b : Nat × Nat) (s : State), a ≠ b → s.tombs.length < 255 → (∀ e ∈ s.posts, e.2.bytes.length = 64) → (s.posts.map Prod.fst).Nodup →
    a.1 < 1024 → b.1 < 1024 → a.2 < 2 ^ 32 → b.2 < 2 ^ 32 →
    let of_ := fun (k : Nat) => (pCst (s.post k), pSeq (s.post k))
    let mine := fun (m : Parked) (x : Nat × Nat) => m.cst == x.1 && m.seq == x.2 && m.epoch == s.cstEpoch x.1
    let ends := fun (t : State) (k st : Nat) => pState (t.post k) = 2 ∧ leAt (t.post k).bytes 0x20 1 = st ∧
      leAt (t.post k).bytes 0x24 4 = (s.post k).landed % 2 ^ 32
    (s.isBuried a = false → s.isBuried b = false → ∃ t, exec (.abort 1 [a, b]) s = .next t ∧
      (∀ k, pState (s.post k) = 1 → of_ k = a → ends t k 0x41 ∧ leAt (t.post k).bytes 0x30 8 = b.1 + b.2 * 2 ^ 32) ∧
      (∀ k, pState (s.post k) = 1 → of_ k = b → ends t k 0x41 ∧ leAt (t.post k).bytes 0x30 8 = a.1 + a.2 * 2 ^ 32) ∧
      (∀ k, pState (s.post k) ≠ 1 ∨ of_ k ≠ a ∧ of_ k ≠ b → t.post k = s.post k) ∧
      t.parked = s.parked.filter (fun m => !(mine m a || mine m b)) ∧
      (∃ x ∈ t.tombs, x.cst = a.1 ∧ x.seq = a.2 ∧ x.epoch = s.cstEpoch a.1 ∧ x.peer = b) ∧
      (∃ x ∈ t.tombs, x.cst = b.1 ∧ x.seq = b.2 ∧ x.epoch = s.cstEpoch b.1 ∧ x.peer = a)) ∧
    (s.isBuried a = true → s.isBuried b = true → exec (.abort 1 [a, b]) s = .next s) ∧
    (∃ t, exec (.abort 2 [a]) s = .next t ∧ (∀ k, pState (s.post k) = 1 → of_ k = a → ends t k 0x20) ∧
      (∀ k, pState (s.post k) ≠ 1 ∨ of_ k ≠ a → t.post k = s.post k) ∧ t.parked = s.parked.filter (fun m => !mine m a) ∧
      t.tombs = s.tombs)) ∧
  (∀ (c i : Nat) (s : State), c < 128 → i < 64 → pState (s.post (64 * c + i)) = 1 → (∀ e ∈ s.posts, e.2.bytes.length = 64) →
    (s.posts.map Prod.fst).Nodup →
    let k := 64 * c + i
    (∀ m, s.blockedBy k = some m → m.cst < 1024 → m.seq < 2 ^ 32 → s.isBuried (pCst (s.post k), pSeq (s.post k)) = false →
      ∃ t, exec (.crossTimeout c i) s = .next t ∧ pState (t.post k) = 2 ∧ leAt (t.post k).bytes 0x20 1 = 0x41 ∧
        leAt (t.post k).bytes 0x30 8 = m.cst + m.seq * 2 ^ 32 ∧
        t.fget R.COL_CNT0.crossings = Nat.min (s.fget R.COL_CNT0.crossings + 1) 65535 ∧
        ∀ l ∈ s.liveLdns m.cst, s.cstOn m.cst = true → l ≠ s.fget R.SCP_ID.ldn →
          Out.vc3 l 6 [1, pCst (s.post k), pSeq (s.post k), m.cst, m.seq] ∈ t.out) ∧
    ((∀ m ∈ s.parked, m.cluster = c → m.cst = pCst (s.post k)) → exec (.crossTimeout c i) s = .next s)) ∧
  (∀ (id : Nat) (s : State),
    let dead := [Instr.livenessAnswer id false, Instr.livenessNoAnswer id]
    (s.req id = none → ∀ cmd ∈ Instr.livenessAnswer id true :: dead, exec cmd s = .next s) ∧
    (∀ r, s.req id = some r → r.querying = false → ∀ cmd ∈ Instr.livenessAnswer id true :: dead, exec cmd s = .next s) ∧
    (∀ r, s.req id = some r → r.querying = true →
      exec (.livenessAnswer id true) s = .next (s.setReq id (some { r with querying := false })) ∧
      (∀ cmd ∈ dead, r.kind ≠ 4 →
        ∃ t, exec cmd s = .next t ∧ t.req id = none ∧
          t.fget R.RMM_FAULT_CNT.dead_target = Nat.min (s.fget R.RMM_FAULT_CNT.dead_target + 1) 65535 ∧
          (∀ j, j ≠ id → t.req j = s.req j)) ∧
      (∀ cmd ∈ dead, r.kind = 4 → r.core = none → r.mover = none →
        ∃ t, exec cmd s = .next t ∧ t.req id = none ∧ (∀ x ∈ t.outbox, x.2.req ≠ some id) ∧
          (∀ i, i < 1024 → s.fget (R.COL_CST_CFG.valid i) = 1 → r.dst ∈ s.cstLdns i → t.lostAt = s.lostAt ++ [(r.dst, now s + 2)]))))

/-- POST, COL_DATA, DELIVERED, PARK_FULL, PARK_FREE, PARK_RETRY_TIMER, RESEND, SEND_SLOT_ARM and SEND_WINDOW_WRITE. -/
def Obligations.CollectiveMessages : Prop :=
  (∀ (c i : Nat) (entry : List Byte) (s : State), c < 128 → i < 64 → entry.length = 64 →
    let k := 64 * c + i
    let p : Post := { Post.free with bytes := entry }
    let a := padBase (padOf k p) + pLand p
    (pState (s.post k) = 1 → exec (.post c i entry) s = .next s) ∧
    (pState (s.post k) ≠ 1 → (s.post k).bytes.length = 64 →
      (leAt entry 0 1 = 0 → exec (.post c i entry) s = .next (s.setPost k p)) ∧
      (leAt entry 0 1 = 1 → s.fget (R.COL_CST_CFG.valid (pCst p)) = 0 ∨ s.postRefused k p = true →
        ∃ t, exec (.post c i entry) s = .next t ∧ pState (t.post k) = 2 ∧ leAt (t.post k).bytes 0x20 1 = 0x7F ∧ t.mem = s.mem) ∧
      (leAt entry 0 1 = 1 → s.postRefused k p = false → (∀ x ∈ s.tombs, ¬ (x.cst = pCst p ∧ x.seq = pSeq p)) → (∀ m ∈ s.parked, m.cluster ≠ c) →
        ∃ t, exec (.post c i entry) s = .next t ∧ pState (t.post k) = 1 ∧ (t.post k).epoch = s.fget (R.COL_CST_CFG.epoch (pCst p)) ∧
          (t.post k).landed = 0 ∧ (∀ j, j ≠ k → t.post j = s.post j) ∧
          (pOp p ≠ 2 → t.mem = s.mem) ∧
          (pOp p = 2 → let z := AccEntry.raw (pWide p) .empty
            t.bytes a (pElems p * z.length) = (List.replicate (pElems p) z).flatten ∧
            ∀ b, (b < a ∨ a + pElems p * z.length ≤ b) → t.byte b = s.byte b)) ∧
      (leAt entry 0 1 = 1 → s.postRefused k p = false → (∃ x ∈ s.tombs, x.cst = pCst p ∧ x.seq = pSeq p ∧ x.epoch = s.cstEpoch (pCst p)) →
        ∃ t, exec (.post c i entry) s = .next t ∧ pState (t.post k) = 2 ∧ leAt (t.post k).bytes 0x20 1 = 0x41 ∧ t.mem = s.mem))) ∧
  (∀ (now src : Nat) (h : ColHdr) (payload pay : List Byte) (s : State), h.cst < 1024 → h.dstCluster < 128 → h.epoch < 2 ^ 16 → h.pkt = 0 →
    h.lastPkt = true → h.exact = false → s.rx = [] →
    let d := (h.epoch + 2 ^ 16 - s.cstEpoch h.cst) % 2 ^ 16
    let told := fun (t : State) (ty : Nat) => t.out.head? = some (.vc3 src ty [h.cst, h.epoch, h.seq, h.msg])
    let posted := s.openPosts (fun k p => decide (k / 64 = h.dstCluster) && pCst p == h.cst && pSeq p == h.seq)
    (∀ x ∈ s.tombs, payloadOf payload = some pay → s.cstOn h.cst = true → d < 32768 → x.cst = h.cst → x.epoch = h.epoch → x.seq = h.seq →
      ∃ t, exec (.colData now src h payload) s = .next t ∧ told t 2 ∧ t.posts = s.posts ∧ t.parked = s.parked ∧ t.mem = s.mem ∧
        t.tombs = s.tombs.filter (fun y => !(y.cst == h.cst && y.epoch == h.epoch && y.seq == h.seq))) ∧
    ((∀ x ∈ s.tombs, x.cst ≠ h.cst) → payloadOf payload = some pay →
      ((s.cstOn h.cst = false ∨ 32768 ≤ d) →
        ∃ t, exec (.colData now src h payload) s = .next t ∧ told t 2 ∧ t.posts = s.posts ∧ t.parked = s.parked ∧ t.mem = s.mem ∧
          t.fget R.COL_CNT0.stale = Nat.min (s.fget R.COL_CNT0.stale + 1) 65535) ∧
      (s.cstOn h.cst = true → d < 32768 → posted = [] →
        (∀ pl, s.freePark h.dstCluster = some pl →
          let a := stagingBufBase h.dstCluster + 4096 * pl
          ∃ t m, exec (.colData now src h payload) s = .next t ∧ told t 2 ∧ t.parked = s.parked ++ [m] ∧ m.cst = h.cst ∧ m.seq = h.seq ∧
            m.epoch = h.epoch ∧ m.srcLdn = src ∧ m.cluster = h.dstCluster ∧ m.msg = h.msg ∧ m.place = pl ∧ m.len = pay.length ∧
            t.bytes a pay.length = pay ∧ (∀ b, (b < a ∨ a + pay.length ≤ b) → t.byte b = s.byte b)) ∧
        (s.freePark h.dstCluster = none →
          ∃ t, exec (.colData now src h payload) s = .next t ∧ told t 3 ∧ t.parked = s.parked ∧ t.mem = s.mem ∧
            t.fget R.COL_CNT0.park_full = Nat.min (s.fget R.COL_CNT0.park_full + 1) 65535)) ∧
      (∀ k, s.cstOn h.cst = true → d = 0 → posted = [k] →
        s.openPosts (fun k p => decide (k / 64 = h.dstCluster) && pCst p == h.cst && pSeq p == h.seq && p.epoch == h.epoch) = [k] →
        let p := s.post k
        let a := padBase (padOf k p) + pLand p + h.msg * pMsgBytes p
        pState p = 1 → p.epoch = h.epoch → pPrefix p = false → p.bytes.length = 64 → h.msg + 1 < pExpected p → pay.length = pMsgBytes p →
        let lands := fun (t : State) => told t 2 ∧ ∀ b, (b < a ∨ a + pay.length ≤ b) → t.byte b = s.byte b
        (pOp p = 0 → p.landed + 1 < pExpected p →
          ∃ t, exec (.colData now src h payload) s = .next t ∧ lands t ∧ (t.post k).landed = p.landed + 1 ∧ pState (t.post k) = 1 ∧
            t.bytes a pay.length = pay) ∧
        (pOp p = 1 → pFmt p ≤ 3 → pMsgBytes p % 8 = 0 → p.landed + 1 < pExpected p →
          ∃ t, exec (.colData now src h payload) s = .next t ∧ lands t ∧ (t.post k).landed = p.landed + 1 ∧ pState (t.post k) = 1 ∧
            t.bytes a pay.length = (addPayload (pFmt p) (s.bytes a pay.length) pay).1) ∧
        (pOp p = 0 → p.landed + 1 = pExpected p →
          ∃ t, exec (.colData now src h payload) s = .next t ∧ lands t ∧ pState (t.post k) = 2 ∧ t.bytes a pay.length = pay ∧
            leAt (t.post k).bytes 0x20 1 = (if p.twinkle then 1 else 0) ∧ leAt (t.post k).bytes 0x24 4 = pExpected p ∧
            leAt (t.post k).bytes 0x28 8 =
              crc64 (t.bytes (padBase (padOf k p) + pLand p) ((pExpected p - 1) * pMsgBytes p + p.lastLen)) % 2 ^ 64))) ∧
    ((∀ x ∈ s.tombs, x.cst ≠ h.cst) → payloadOf payload = none → s.cstOn h.cst = true → d < 32768 →
      (d = 0 ∧ posted ≠ [] ∨ (s.freePark h.dstCluster).isSome = true) →
      ∃ t, exec (.colData now src h payload) s = .next t ∧ told t 5 ∧ t.posts = s.posts ∧ t.parked = s.parked ∧ t.mem = s.mem ∧
        t.fget R.COL_CNT0.resends = Nat.min (s.fget R.COL_CNT0.resends + 1) 65535)) ∧
  (∀ (c : Nat) (o : OutMsg) (s : State), s.outbox = [(c, o)] → o.req = none →
    (o.dstLdn = s.fget R.SCP_ID.ldn ∨ s.candsFor (s.partOfCluster c) o.dstLdn ≠ []) →
    let hdr : ColHdr := { cst := o.cst, epoch := o.epoch, seq := o.seq, srcIndex := o.srcIndex, dstCluster := o.dstCluster, lastPkt := true,
                          pkt := 0, msg := o.msg, exact := o.exact }
    let again := fun (cmd : Instr) (resent : Bool) => ∃ t id, exec cmd s = .next t ∧
      t.out = .vc3Data o.dstLdn hdr (withTrailer o.bytes) :: s.out ∧
      t.outbox = [(c, { o with resent := resent, parkWait := false, req := some id })] ∧ t.mem = s.mem
    (o.waits = [] → ∃ t, exec (.delivered o.cst o.epoch o.seq o.msg o.dstLdn) s = .next t ∧ t.outbox = [] ∧ t.out = s.out ∧ t.mem = s.mem) ∧
    (∀ wc wi off, o.waits = [.bare wc wi off] →
      ∃ t, exec (.delivered o.cst o.epoch o.seq o.msg o.dstLdn) s = .next t ∧ t.outbox = [] ∧ t.out = .winEnd wc wi off 0 :: s.out) ∧
    (∃ t, exec (.parkFull o.cst o.epoch o.seq o.msg o.dstLdn) s = .next t ∧ t.outbox = [(c, { o with parkWait := true })] ∧ t.mem = s.mem) ∧
    (o.parkWait = true → again (.parkFree o.dstCluster o.dstLdn) o.resent ∧ again (.parkRetryTimer c 0) o.resent) ∧
    (o.parkWait = false → exec (.parkFree o.dstCluster o.dstLdn) s = .next s ∧ exec (.parkRetryTimer c 0) s = .next s) ∧
    (o.resent = false → again (.resend o.cst o.epoch o.seq o.msg o.dstLdn) true) ∧
    (o.resent = true → o.waits = [] →
      ∃ t, exec (.resend o.cst o.epoch o.seq o.msg o.dstLdn) s = .next t ∧ t.outbox = [] ∧ t.out = s.out)) ∧
  (∀ (c i : Nat) (slot : List Byte) (s : State), c < 128 → i < 32 → slot.length = 32 → (s.slot (64 * c + i)).bytes.length = 32 →
    (s.slot (64 * c + i)).waits = [] →
    exec (.sendSlotArm c i slot) s = .next (s.setSlot (64 * c + i) { SendSlot.free with bytes := slot })) ∧
  (∀ (c i off : Nat) (data : List Byte) (s : State), c < 128 → i < 32 → off + data.length ≤ 0x1000000 → data ≠ [] →
    let k := 64 * c + i
    let w := s.slot k
    let unit := if wKind w = 0 then wSize w else entryBytes (wWide w)
    let held := (s.outbox.filter (fun x => x.1 == c)).length
    (s.slotArmed k = false ∨ off ≠ w.next ∧ (w.buf ≠ [] ∨ w.count ≠ 0 ∨ off % wUnit w ≠ 0) →
      exec (.sendWindowWrite c i off data) s = .next (s.emit (.winEnd c i off 0x11))) ∧
    (s.slotArmed k = true → off = w.next → w.buf.length + data.length < unit → held ≤ 64 →
      ∃ t, exec (.sendWindowWrite c i off data) s = .next t ∧ t.outbox = s.outbox ∧ (t.slot k).buf = w.buf ++ data ∧
        (t.slot k).next = off + data.length ∧ t.out = s.out ∧ t.mem = s.mem) ∧
    (∀ l, s.slotArmed k = true → wKind w = 0 → off = w.next → s.slotDst k = some l →
      (l = s.fget R.SCP_ID.ldn ∨ s.candsFor (s.partOfCluster c) l ≠ []) → w.buf.length + data.length = wSize w →
      (held < 64 →
        ∃ t o, exec (.sendWindowWrite c i off data) s = .next t ∧ t.outbox = s.outbox ++ [(c, o)] ∧ o.bytes = w.buf ++ data ∧
          o.cst = wCst w ∧ o.seq = wSeq w ∧ o.epoch = s.cstEpoch (wCst w) ∧ o.dstCluster = wCluster w ∧ o.exact = false ∧
          o.msg = (wBase w + (off + data.length - 1) / wSize w) % 4096 ∧ o.dstLdn = l ∧
          t.out = .vc3Data l { cst := o.cst, epoch := o.epoch, seq := o.seq, srcIndex := s.fget (R.COL_CST_CFG.self_index (wCst w)),
                               dstCluster := o.dstCluster, lastPkt := true, pkt := 0, msg := o.msg, exact := false }
            (withTrailer o.bytes) :: s.out ∧ (t.slot k).buf = [] ∧ t.mem = s.mem) ∧
      (64 ≤ held → exec (.sendWindowWrite c i off data) s = .next s)))

/-- BEACON_ADD, BEACON_SET and BEACON_CAS that store, BEACON_ARM, and what releases the waiters of each mode (R429). -/
def Obligations.BeaconModes : Prop :=
  let raised := fun (t : State) (bc : Beacon) =>
    let fn := if bc.oneTenant then Fn.vf bc.tenant else Fn.pf 1
    let v := if bc.oneTenant then bc.vector else 48 + bc.vector
    Out.msix fn v ∈ t.out ∨ t.vec (fnIndex fn * 4096 + v) = (true, true)
  let due := fun (b : Nat) (v : Word) (y : Waiter) => y.beacon = b ∧ ∃ th, y.threshold = some th ∧ th.toNat ≤ v.toNat
  (∀ (w : Who) (b : Nat) (x : Word) (s : State), b < 16384 → s.mayUse w (s.beacon b) = true →
    let bc := s.beacon b
    let refused := fun (cmd : Instr) => ∃ t, exec cmd s = .next t ∧ t.out = .ended w 0x11 :: s.out ∧ t.beacons = s.beacons ∧
      t.waiters = s.waiters ∧ t.mem = s.mem ∧ t.fget R.BCN_CNT.bad_ops = (s.fget R.BCN_CNT.bad_ops + 1) % 2 ^ 32
    (bc.mode = 2 ∨ bc.mode = 1 ∧ bc.target = 0 → refused (.beaconAdd w b x)) ∧
    (bc.mode = 0 ∨ bc.mode = 2 ∨ bc.mode = 1 ∧ (x.toNat = 0 ∨ 2 ^ 32 - 1 < x.toNat) → refused (.beaconArm w b x)) ∧
    (∀ (v : Word) (cmd : Instr),
      (cmd = .beaconAdd w b x ∧ ((bc.mode = 0 ∨ bc.mode = 3) ∧ v = bc.value + x ∨
          bc.mode = 1 ∧ bc.target ≠ 0 ∧ (let n := bc.value.toNat % 2 ^ 32 + x.toNat
            if bc.target ≤ n then v.toNat = (bc.value.toNat / 2 ^ 32 + 1) % 2 ^ 32 * 2 ^ 32
            else v.toNat = bc.value.toNat / 2 ^ 32 * 2 ^ 32 + n)) ∨
        (cmd = .beaconSet w b x ∨ cmd = .beaconCas w b x bc.value) ∧ (bc.mode = 0 ∨ bc.mode = 3) ∧ v = x) →
      bc.target < 2 ^ 32 →
      ∃ t, exec cmd s = .next t ∧ (t.beacon b).value = v ∧ t.out.head? = some (.beacon w b true bc.value false) ∧
        (∀ y ∈ s.waiters, due b v y → y ∉ t.waiters ∧ (y.prio < 8 → ∀ w', y.ans = .window w' → Out.beacon w' b true v false ∈ t.out)) ∧
        (∀ y ∈ s.waiters, ¬ due b v y → y ∈ t.waiters) ∧ (∀ c, c ≠ b → t.beacon c = s.beacon c) ∧
        (bc.mode = 3 → bc.armed = true → v ≠ 0 → (t.beacon b).armed = false ∧ raised t bc) ∧
        (bc.mode = 3 → v = 0 → (t.beacon b).armed = bc.armed) ∧ (t.beacon b).mode = bc.mode ∧ (t.beacon b).target = bc.target ∧ t.mem = s.mem) ∧
    (bc.mode = 1 → 1 ≤ x.toNat → x.toNat ≤ 2 ^ 32 - 1 →
      ∃ t, exec (.beaconArm w b x) s = .next t ∧ (t.beacon b).target = x.toNat ∧ (t.beacon b).value.toNat = bc.value.toNat / 2 ^ 32 * 2 ^ 32 ∧
        (∀ c, c ≠ b → t.beacon c = s.beacon c) ∧ t.waiters = s.waiters ∧ t.mem = s.mem) ∧
    (bc.mode = 3 → bc.value = 0 →
      ∃ t, exec (.beaconArm w b x) s = .next t ∧ t.beacon b = { bc with armed := true } ∧ t.waiters = s.waiters ∧ t.mem = s.mem) ∧
    (bc.mode = 3 → bc.value ≠ 0 →
      ∃ t, exec (.beaconArm w b x) s = .next t ∧ t.beacon b = { bc with armed := false } ∧ raised t bc ∧ t.waiters = s.waiters ∧ t.mem = s.mem)) ∧
  (∀ (b : Nat) (s : State), b < 16384 → (s.beacon b).mode = 2 → (∀ y ∈ s.waiters, y.prio < 8) →
    let v := (s.beacon b).value
    let acquires := fun (y : Waiter) => y ∈ s.waiters ∧ y.beacon = b ∧ y.threshold = none
    let granted := fun (t : State) => ∃ y, acquires y ∧ (∀ z, acquires z → z.prio ≤ y.prio) ∧ lockHeld (t.beacon b).value = true ∧
      lockOrphaned (t.beacon b).value = false ∧ t.waiters = (s.waiters.erase y).filter (fun z => !satisfied b (t.beacon b).value z) ∧
      (t.beacon b).value = lockWord true false (s.ownerOf y.who) (s.epochOf y.who) (lockGrants v + 1)
    (∀ w, s.mayUse w (s.beacon b) = true → lockHeld v = true → lockOrphaned v = false → lockOwner v = s.ownerOf w → lockEpoch v = s.epochOf w →
      ((∃ y, acquires y) → ∃ t, exec (.beaconRelease w b) s = .next t ∧ granted t) ∧
      ((¬ ∃ y, acquires y) → (∀ y ∈ s.waiters, y.beacon ≠ b) →
        ∃ t, exec (.beaconRelease w b) s = .next t ∧ lockHeld (t.beacon b).value = false ∧ t.waiters = s.waiters)) ∧
    (s.scan = some b → lockHeld v = true → lockOrphaned v = true → (∃ y, acquires y) →
      ∃ t, exec .orphanScanVisit s = .next t ∧ granted t))

/-- BEACON_READ, BEACON_SET, BEACON_CAS, BEACON_WAIT, BEACON_ACQUIRE, BEACON_RELEASE, BEACON_REPRIORITISE, BEACON_CONFIG_WRITE,
BEACON_VALUE_WRITE, ORPHAN_LDN, ORPHAN_SCAN_VISIT and WAIT_TIMEOUT. -/
def Obligations.BeaconOperations : Prop :=
  (∀ (w : Who) (b : Nat) (x y : Word) (p : Nat) (s : State), b < 16384 →
    let bc := s.beacon b
    let refused := fun (cmd : Instr) => exec cmd s = .next ((s.emit (.ended w 0x11)).fset R.BCN_CNT.bad_ops
      ((s.fget R.BCN_CNT.bad_ops + 1) % 2 ^ 32))
    let told := fun (t : State) (ok : Bool) (v : Word) (orphan : Bool) => t.out.head? = some (.beacon w b ok v orphan)
    (s.mayUse w bc = false → ∀ cmd ∈ [Instr.beaconRead w b, .beaconAdd w b x, .beaconSet w b x, .beaconCas w b x y, .beaconWait w b x,
      .beaconArm w b x, .beaconAcquire w b p, .beaconRelease w b, .beaconReprioritise w b p], refused cmd) ∧
    (s.mayUse w bc = true →
      exec (.beaconRead w b) s = .next (s.emit (.beacon w b true bc.value false)) ∧
      (bc.mode = 0 ∨ bc.mode = 3 →
        (∃ t, exec (.beaconSet w b x) s = .next t ∧ (t.beacon b).value = x ∧ told t true bc.value false ∧ (∀ c, c ≠ b → t.beacon c = s.beacon c) ∧
          t.mem = s.mem) ∧
        (∃ t, exec (.beaconCas w b x y) s = .next t ∧ (t.beacon b).value = (if bc.value = y then x else bc.value) ∧ told t true bc.value false ∧
          (∀ c, c ≠ b → t.beacon c = s.beacon c) ∧ t.mem = s.mem)) ∧
      (bc.mode = 1 ∨ bc.mode = 2 → refused (.beaconSet w b x) ∧ refused (.beaconCas w b x y)) ∧
      (x.toNat ≤ bc.value.toNat → exec (.beaconWait w b x) s = .next (s.emit (.beacon w b true bc.value false))) ∧
      (bc.value.toNat < x.toNat → s.tableUsed < 65536 →
        ∃ t z, exec (.beaconWait w b x) s = .next t ∧ t.waiters = s.waiters ++ [z] ∧ z.beacon = b ∧ z.who = w ∧ z.threshold = some x ∧
          t.beacons = s.beacons ∧ t.out = s.out) ∧
      (bc.value.toNat < x.toNat → 65536 ≤ s.tableUsed →
        ∃ t, exec (.beaconWait w b x) s = .next t ∧ t.waiters = s.waiters ∧ told t false bc.value false ∧ t.beacons = s.beacons ∧
          t.fget R.BCN_CNT.wait_full = (s.fget R.BCN_CNT.wait_full + 1) % 2 ^ 32) ∧
      (bc.mode ≠ 2 → refused (.beaconAcquire w b p) ∧ refused (.beaconRelease w b)) ∧
      (bc.mode = 2 →
        (∀ unit tenant pf, (w = .tcore unit ∧ unit < 512 ∧ tenant = 0 ∧ pf = 0 ∨ (∃ n, w = .pcore n ∧ n < 192 ∧ unit = 512 + n ∧ tenant = 0 ∧ pf = 0) ∨
            (∃ v, w = .vf v ∧ v < 4096 ∧ unit = 0x3FF ∧ tenant = v ∧ pf = 0) ∨ (∃ n, w = .pf n ∧ n < 4 ∧ unit = 0x3FF ∧ tenant = n ∧ pf = 1)) →
          (∀ z ∈ s.waiters, z.beacon ≠ b) → (getField bc.value 0 1 = 0 ∨ getField bc.value 1 1 = 1) →
          ∃ t, exec (.beaconAcquire w b p) s = .next t ∧ t.waiters = s.waiters ∧
            (let v := (t.beacon b).value
             getField v 0 1 = 1 ∧ getField v 1 1 = 0 ∧ getField v 8 8 = s.fget R.SCP_ID.ldn ∧ getField v 16 10 = unit ∧
               getField v 26 12 = tenant ∧ getField v 38 1 = pf ∧ getField v 40 16 = s.epochOf w ∧
               getField v 56 8 = (getField bc.value 56 8 + 1) % 256 ∧
               told t true (if getField bc.value 1 1 = 1 then v ||| 2 else v) (getField bc.value 1 1 == 1)) ∧
            (∀ c, c ≠ b → t.beacon c = s.beacon c) ∧ t.mem = s.mem) ∧
        (getField bc.value 0 1 = 1 → getField bc.value 1 1 = 0 → s.tableUsed < 65536 →
          ∃ t z, exec (.beaconAcquire w b p) s = .next t ∧ t.waiters = s.waiters ++ [z] ∧ z.beacon = b ∧ z.who = w ∧ z.threshold = none ∧
            ((∀ e ∈ s.nextPrio, ¬ (e.1 = w ∧ e.2.1 = b)) → z.prio = p % 8) ∧ t.beacons = s.beacons ∧ t.out = s.out) ∧
        (getField bc.value 0 1 = 0 ∨ getField bc.value 1 1 = 1 ∨ lockOwner bc.value ≠ s.ownerOf w ∨ getField bc.value 40 16 ≠ s.epochOf w →
          refused (.beaconRelease w b))) ∧
      ((∃ z ∈ s.waiters, z.beacon = b ∧ z.who = w) →
        ∃ t, exec (.beaconReprioritise w b p) s = .next t ∧ t.beacons = s.beacons ∧ told t true bc.value false ∧
          t.waiters = s.waiters.map (fun z => if z.beacon = b ∧ z.who = w then { z with prio := p % 8 } else z)) ∧
      ((∀ z ∈ s.waiters, ¬ (z.beacon = b ∧ z.who = w)) →
        let holds := bc.mode = 2 ∧ getField bc.value 0 1 = 1 ∧ lockOwner bc.value = s.ownerOf w ∧ getField bc.value 40 16 = s.epochOf w
        ∃ t, exec (.beaconReprioritise w b p) s = .next t ∧ t.beacons = s.beacons ∧ t.waiters = s.waiters ∧ told t true bc.value false ∧
          (holds → (w, b, p % 8) ∈ t.nextPrio) ∧ (¬ holds → t.nextPrio = s.nextPrio)))) ∧
  (∀ (fn : Fn) (v : Word) (s : State), (fn = .pf 0 ∨ fn = .pf 1) →
    let b := s.fget R.BCN_SEL.beacon
    let bc := s.beacon b
    let same := getField v 0 2 = bc.mode ∧ (getField v 2 1 == 1) = bc.assigned ∧ getField v 3 4 = bc.partition ∧ (getField v 7 1 == 1) = bc.oneTenant ∧
      getField v 8 12 = bc.tenant
    (¬ same →
      ∃ t, exec (.beaconConfigWrite fn v) s = .next t ∧ (t.beacon b).mode = getField v 0 2 ∧ (t.beacon b).partition = getField v 3 4 ∧
        (t.beacon b).value = 0 ∧ (t.beacon b).armed = false ∧ (t.beacon b).target = 0 ∧ t.waiters = s.waiters.filter (fun z => z.beacon != b) ∧
        (∀ z ∈ s.waiters, z.beacon = b → z.prio < 8 → ∀ w', z.ans = .window w' → Out.beacon w' b false bc.value false ∈ t.out) ∧ t.mem = s.mem) ∧
    (same → exec (.beaconConfigWrite fn v) s = .next (s.setBeacon b { bc with vector := getField v 20 3 })) ∧
    (bc.assigned = true → (bc.mode = 0 ∨ bc.mode = 3) →
      ∃ t, exec (.beaconValueWrite fn v) s = .next t ∧ (t.beacon b).value = v ∧ (∀ c, c ≠ b → t.beacon c = s.beacon c) ∧ t.mem = s.mem) ∧
    (bc.assigned = false ∨ bc.mode = 1 ∨ bc.mode = 2 → exec (.beaconValueWrite fn v) s = .next s)) ∧
  (∀ (fn : Fn) (l : Nat) (s : State), (fn = .pf 0 ∨ fn = .pf 1) → l < 144 → (s.beacons.map Prod.fst).Nodup →
    ∃ t, exec (.orphanLdn fn l) s = .next t ∧ t.waiters = s.waiters ∧ t.mem = s.mem ∧
      (∀ e ∈ s.beacons, e.2.mode = 2 → getField e.2.value 0 1 = 1 → getField e.2.value 1 1 = 0 → getField e.2.value 8 8 = l →
        getField (t.beacon e.1).value 1 1 = 1 ∧ getField (t.beacon e.1).value 8 8 = l ∧ (s.scan = none → t.scan = some 0) ∧
          (s.scan ≠ none → t.scanAgain = true)) ∧
      (∀ c, (s.beacon c).mode ≠ 2 ∨ getField (s.beacon c).value 8 8 ≠ l → t.beacon c = s.beacon c)) ∧
  (∀ (b : Nat) (s : State), s.scan = some b → getField (s.beacon b).value 1 1 = 0 →
    (b + 1 < 16384 → exec .orphanScanVisit s = .next { s with scan := some (b + 1) }) ∧
    (16384 ≤ b + 1 → s.scanAgain = false → exec .orphanScanVisit s = .next { s with scan := none }) ∧
    (16384 ≤ b + 1 → s.scanAgain = true → exec .orphanScanVisit s = .next { s with scan := some 0, scanAgain := false })) ∧
  (∀ (k : Nat) (s : State), (s.waiters[k]? = none → exec (.waitTimeout k) s = .next s) ∧
    ∀ z, s.waiters[k]? = some z →
      let v := (s.beacon z.beacon).value
      let gone : State := { s with waiters := s.waiters.eraseIdx k }
      (∀ w, z.ans = .window w → exec (.waitTimeout k) s = .next (gone.emit (.beacon w z.beacon false v false))) ∧
      (∀ src id fetch, z.ans = .rack src id fetch →
        exec (.waitTimeout k) s = .next (gone.emit (.rackResp src id 0 (if fetch then leBytes 8 v.toNat else []) 0))) ∧
      ((∀ w, z.ans ≠ .window w) → (∀ src id fetch, z.ans ≠ .rack src id fetch) → exec (.waitTimeout k) s = .next s))

/-- SQ_DOORBELL, CQ_HEAD_WRITE, DESCRIPTOR_FETCH, COMPLETION_RECORD_WRITE and RING_ENABLE_WRITE. -/
def Obligations.RingIndices : Prop :=
  let depth := fun (s : State) (r : Nat) => 2 ^ s.fget (R.QRG_RING_CFG.depth_log2 r)
  let stopped := fun (t : State) (r code : Nat) => t.fget (R.QRG_RING_CFG.enable r) = 0 ∧ t.fget (R.QRG_RING_STATUS.err r) = 1 ∧
    t.fget (R.QRG_RING_STATUS.err_code r) = code
  let raised := fun (t : State) (v n : Nat) => Out.msix (.vf v) n ∈ t.out ∨ t.vec (v * 4096 + n) = (true, true)
  (∀ (v r tail : Nat) (s : State), s.fget (R.QRG_RING_CFG.enable (64 * v + r)) = 0 → exec (.sqDoorbell v r tail) s = .next s) ∧
  (∀ (v r tail : Nat) (s : State), v < s.numVfs → v < 4096 → r < 64 → s.fget (R.QRG_RING_CFG.enable (64 * v + r)) = 1 →
    let k := 64 * v + r
    let gap := (tail % 2 ^ 32 + 2 ^ 32 - s.fget (R.QRG_RING_IDX.sq_head k)) % 2 ^ 32
    (gap ≤ depth s k → exec (.sqDoorbell v r tail) s = .next (s.fset (R.QRG_RING_HOST.sq_tail k) (tail % 2 ^ 32))) ∧
    (depth s k < gap → ∃ t, exec (.sqDoorbell v r tail) s = .next t ∧ stopped t k 3 ∧ t.fget (R.QRG_RING_HOST.sq_tail k) = tail % 2 ^ 32 ∧
      t.ops = s.ops ∧ t.mem = s.mem ∧
      ∀ q, q < 262144 → q ≠ k → t.fget (R.QRG_RING_CFG.enable q) = s.fget (R.QRG_RING_CFG.enable q))) ∧
  (∀ (v r head : Nat) (s : State), v < s.numVfs → v < 4096 → r < 64 →
    let k := 64 * v + r
    let old := s.fget (R.QRG_RING_HOST.cq_head k)
    let fwd := (head % 2 ^ 32 + 2 ^ 32 - old) % 2 ^ 32
    let most := (s.fget (R.QRG_RING_IDX.cq_tail k) + 2 ^ 32 - old) % 2 ^ 32
    (fwd ≤ most → exec (.cqHeadWrite v r head) s = .next (s.fset (R.QRG_RING_HOST.cq_head k) (head % 2 ^ 32))) ∧
    (most < fwd → ∃ t, exec (.cqHeadWrite v r head) s = .next t ∧ stopped t k 3 ∧ t.fget (R.QRG_RING_HOST.cq_head k) = head % 2 ^ 32 ∧
      t.ops = s.ops ∧ t.mem = s.mem)) ∧
  (∀ (r : Nat) (host : List Byte) (s : State), r < 262144 →
    let ready := fun (q : Nat) => s.fget (R.QRG_RING_CFG.enable q) = 1 ∧ s.fget (R.QRG_RING_CFG.stop q) = 0 ∧ q / 64 < s.numVfs ∧
      s.fget (R.QRG_RING_IDX.sq_head q) ≠ s.fget (R.QRG_RING_HOST.sq_tail q) ∧
      (s.fget (R.QRG_RING_IDX.sq_head q) + 2 ^ 32 - s.fget (R.QRG_RING_HOST.cq_head q)) % 2 ^ 32 < depth s q ∧
      ∃ p, s.tenantPart (q / 64) = some p ∧ s.ringsHeld p = false
    ready r → (∀ q, q < 262144 → ready q → q = r) → (s.ops = [] ∨ s.slotFree (r / 64) = true) →
    let a := (s.fget (R.QRG_RING_SQ.sq_base r) + s.fget (R.QRG_RING_IDX.sq_head r) % depth s r * 64) % 2 ^ 64
    let part := s.tenantPart (r / 64)
    let inPackage := s.fget (R.QRG_RING_CFG.space r) = 0
    (∀ d, (inPackage ∧ s.reachAll part a 64 = true ∧ s.paPoisoned a 64 = false ∧ d = s.paBytes a 64 ∨ ¬ inPackage ∧ host.length = 64 ∧ d = host) →
      ∃ t k o, exec (.descriptorFetch r host) s = .next t ∧ s.op k = none ∧ t.op k = some o ∧ (∀ j, j ≠ k → t.op j = s.op j) ∧
        o.desc = d ∧ o.ring = r ∧ o.progress = 0 ∧ (∀ x j, s.op j = some x → x.ring = r → x.order < o.order) ∧
        t.fget (R.QRG_RING_IDX.sq_head r) = (s.fget (R.QRG_RING_IDX.sq_head r) + 1) % 2 ^ 32 ∧
        t.fget (R.QRG_RING_IDX.cq_tail r) = s.fget (R.QRG_RING_IDX.cq_tail r) ∧ t.reg (A.QRG_RING_HOST r) = s.reg (A.QRG_RING_HOST r) ∧
        (¬ inPackage → Out.dmaRead (.vf (r / 64)) a 64 ∈ t.out) ∧ t.mem = s.mem ∧
        (let dup := ∃ j x, s.op j = some x ∧ x.ring = r ∧ leAt x.desc 0x3C 2 = leAt d 0x3C 2
         let good := descBad d = none
         (dup → o.status = some 0x7F ∧ o.classFlags / 64 % 2 = 1) ∧
         (¬ good ∨ leAt d 0x3F 1 ≠ 0 ∨ 4 ≤ leAt d 0x3E 1 ∨ leAt d 0 1 ∉ [0, 1, 2, 3, 0x10, 0x20, 0x21, 0x30, 0x40, 0x41, 0x50] → o.status = some 0x7F) ∧
         (¬ dup → good → o.status = none ∧ o.started = false ∧ o.classFlags / 64 % 2 = 0))) ∧
    (inPackage → (s.reachAll part a 64 = false ∨ s.paPoisoned a 64 = true) →
      ∃ t, exec (.descriptorFetch r host) s = .next t ∧ stopped t r 2 ∧ t.ops = s.ops ∧ t.mem = s.mem ∧
        t.reg (A.QRG_RING_IDX r) = s.reg (A.QRG_RING_IDX r))) ∧
  (∀ (slot : Nat) (o : Op) (s : State), s.op slot = some o →
    let waits := ∃ j x, s.op j = some x ∧ x.ring = o.ring ∧ x.status.isSome = true ∧ x.discarded = false ∧ x.ended < o.ended
    ∀ refused, (o.status = none ∨ waits → exec (.completionRecordWrite slot refused) s = .next s) ∧
      (o.status.isSome = true → ¬ waits → o.discarded = true → exec (.completionRecordWrite slot refused) s = .next (s.setOp slot none))) ∧
  (∀ (slot : Nat) (o : Op) (s : State), s.op slot = some o → o.status.isSome = true → o.discarded = false → o.ring < 262144 → o.partition < 16 →
    (∀ j x, s.op j = some x → x.ring = o.ring → x.status.isSome = true → x.discarded = false → o.ended ≤ x.ended) →
    let r := o.ring
    let v := r / 64
    let tail := s.fget (R.QRG_RING_IDX.cq_tail r)
    let a := (s.fget (R.QRG_RING_CQ.cq_base r) + tail % depth s r * 32) % 2 ^ 64
    let inPackage := s.fget (R.QRG_RING_CFG.space r) = 0
    (inPackage ∧ s.reachAll (some o.partition) a 32 = true ∧ a % 32 = 0 ∨ ¬ inPackage →
      ∃ t bs, exec (.completionRecordWrite slot false) s = .next t ∧ t.op slot = none ∧ (∀ j, j ≠ slot → t.op j = s.op j) ∧
        (inPackage → t.paBytes a 32 = bs) ∧ (¬ inPackage → Out.dma (.vf v) a bs ∈ t.out ∧ t.mem = s.mem) ∧
        bs.length = 32 ∧ leAt bs 0 2 = leAt o.desc 0x3C 2 ∧ leAt bs 2 1 = o.status.getD 0 % 256 ∧
        leAt bs 3 1 = o.classFlags % 128 + (if tail / depth s r % 2 = 0 then 128 else 0) ∧ leAt bs 4 8 = o.witness.toNat ∧
        leAt bs 0x0C 8 = o.progress.toNat ∧ leAt bs 0x14 6 = s.fget R.TRN_NUMBER.transit % 2 ^ 48 ∧ leAt bs 0x1A 2 = o.aux % 2 ^ 16 ∧
        leAt bs 0x1C 4 = 0 ∧
        t.fget (R.QRG_RING_IDX.cq_tail r) = (tail + 1) % 2 ^ 32 ∧ t.fget (R.QRG_RING_IDX.sq_head r) = s.fget (R.QRG_RING_IDX.sq_head r) ∧
        t.reg (A.QRG_RING_HOST r) = s.reg (A.QRG_RING_HOST r) ∧
        ((leAt o.desc 0x3E 1 / 2 % 2 = 1 ∨ s.fget (R.QRG_RING_CFG.irq_all r) = 1) → raised t v (s.fget (R.QRG_RING_CFG.vector r)))) ∧
    (inPackage → s.reachAll (some o.partition) a 32 = false →
      ∃ t, exec (.completionRecordWrite slot false) s = .next t ∧ stopped t r 4 ∧ t.op slot = none ∧ t.mem = s.mem) ∧
    (¬ inPackage → ∃ t, exec (.completionRecordWrite slot true) s = .next t ∧ stopped t r 4 ∧ t.op slot = none ∧ t.mem = s.mem ∧
      t.fget (R.QRG_RING_IDX.cq_tail r) = tail ∧ raised t v (s.fget (R.QRG_RING_CFG.vector r)))) ∧
  (∀ (fn : Fn) (r : Nat) (value : Word) (s : State), r < 262144 → (fn = .pf 0 ∨ fn = .pf 1 ∨ fn = .vf (r / 64) ∧ r / 64 < s.numVfs) →
    let d := getField value 4 5
    let sq := s.fget (R.QRG_RING_SQ.sq_base r)
    let cq := s.fget (R.QRG_RING_CQ.cq_base r)
    let fits := 4 ≤ d ∧ d ≤ 16 ∧ sq % 4096 = 0 ∧ cq % 4096 = 0 ∧
      (getField value 2 2 = 2 ∨ getField value 2 2 = 0 ∧ ∃ p, s.tenantPart (r / 64) = some p ∧ s.reachAll (some p) sq (64 * 2 ^ d) = true ∧
        s.reachAll (some p) cq (32 * 2 ^ d) = true)
    (getField value 0 1 = 1 → fits → s.fget (R.QRG_RING_CFG.enable r) = 0 →
      ∃ t, exec (.ringEnableWrite fn r value) s = .next t ∧ t.fget (R.QRG_RING_CFG.enable r) = 1 ∧ t.reg (A.QRG_RING_IDX r) = 0 ∧
        t.reg (A.QRG_RING_HOST r) = 0 ∧ t.fget (R.QRG_RING_CFG.stop r) = getField value 1 1 ∧ t.fget (R.QRG_RING_CFG.space r) = getField value 2 2 ∧
        t.fget (R.QRG_RING_CFG.depth_log2 r) = d ∧ t.fget (R.QRG_RING_CFG.priority r) = getField value 9 3 ∧
        t.fget (R.QRG_RING_CFG.irq_all r) = getField value 12 1 ∧ t.fget (R.QRG_RING_CFG.vector r) = getField value 13 3 ∧
        t.ops = s.ops ∧ t.mem = s.mem) ∧
    (getField value 0 1 = 1 → fits → s.fget (R.QRG_RING_CFG.enable r) = 1 →
      ∃ t, exec (.ringEnableWrite fn r value) s = .next t ∧ t.fget (R.QRG_RING_CFG.enable r) = 1 ∧
        t.reg (A.QRG_RING_IDX r) = s.reg (A.QRG_RING_IDX r) ∧ t.reg (A.QRG_RING_HOST r) = s.reg (A.QRG_RING_HOST r) ∧
        t.fget (R.QRG_RING_CFG.stop r) = getField value 1 1 ∧ t.ops = s.ops ∧ t.mem = s.mem) ∧
    (getField value 0 1 = 1 → ¬ fits → ∃ t, exec (.ringEnableWrite fn r value) s = .next t ∧ stopped t r 1 ∧ t.ops = s.ops ∧ t.mem = s.mem) ∧
    (getField value 0 1 = 0 → ∃ t, exec (.ringEnableWrite fn r value) s = .next t ∧ t.fget (R.QRG_RING_CFG.enable r) = 0 ∧
      t.reg (A.QRG_RING_IDX r) = s.reg (A.QRG_RING_IDX r) ∧ t.ops = s.ops ∧ t.mem = s.mem))

/-- NOP, MATMUL, COLLECTIVE, ATOMIC, BEACON and PROBE. -/
def Obligations.RingOperations : Prop :=
  let starts := fun (s : State) (slot code : Nat) (o : Op) => s.clocked = true ∧ s.op slot = some o ∧ o.status = none ∧ o.started = false ∧
    leAt o.desc 0 1 = code ∧
    ∀ j x, s.op j = some x → x.ring = o.ring → x.order < o.order → x.started = true ∧ leAt o.desc 0x3E 1 % 2 = 0
  let others := fun (s t : State) (slot : Nat) => ∀ j, j ≠ slot → t.op j = s.op j
  let crc := fun (v : Word) => BitVec.ofNat 64 (crc64 (leBytes 8 v.toNat))
  -- an operation whose work ends with a status: its witness stands unless the status covers nothing
  let closed := fun (s : State) (o : Op) (st : Nat) =>
    { o with started := true, status := some st, ended := s.endCount + 1, parts := [], partsTile := none,
             witness := if st ∈ [0x20, 0x40, 0x41, 0x7F] then 0 else o.witness }
  -- one that returns a value
  let returned := fun (t : State) (o : Op) (st : Nat) (v : Word) (flags : Nat) =>
    { o with started := true, status := some st, ended := t.endCount, progress := v, witness := crc v,
             classFlags := o.classFlags ||| 8 ||| flags }
  (∀ (slot : Nat) (o : Op) (s : State), starts s slot 0x00 o →
    ∃ t, exec (.nop slot) s = .next t ∧ t.op slot = some (closed s o 0x00) ∧ others s t slot ∧ t.mem = s.mem) ∧
  (∀ (slot status : Nat) (progress witness : Word) (o : Op) (s : State), starts s slot 0x30 o →
    status ∈ [0x00, 0x01, 0x20, 0x31, 0x41, 0x7F] →
    let v := if status < 2 then progress else 0
    let w := if status < 2 then witness else 0
    ∃ t, exec (.collective slot status progress witness) s = .next t ∧ others s t slot ∧ t.mem = s.mem ∧
      t.op slot = some { closed s o status with progress := v, witness := w, classFlags := o.classFlags ||| (if status = 1 then 1 else 0) }) ∧
  (∀ (slot : Nat) (o : Op) (s : State), starts s slot 0x40 o →
    let c := (o.desc.drop 8).take 32
    let size := leAt c 1 1
    let sizes := match leAt c 0 1 % 128 with
      | 1 => [4, 8] | 2 => [4] | 3 => [8] | 4 => [4, 8] | 5 => [4, 8] | 6 => [4, 8] | 7 => [4, 8] | 8 => [4, 8] | 9 => [4, 8] | 10 => [4, 8]
      | 11 => [4, 8] | 12 => [4, 8] | 13 => [4, 8] | 14 => [4, 8] | _ => []
    let fetch := 128 ≤ leAt c 0 1 ∨ leAt c 0 1 % 128 = 7 ∨ leAt c 0 1 % 128 = 8
    let q := askAt (leAt c 8 8) size (if fetch then 3 else 2) (some o.partition) none (some (.op slot, 0, 0)) c
    let ends := fun (st : Nat) => ∃ t x, exec (.atomic slot) s = .next t ∧ t.op slot = some x ∧ x.started = true ∧ x.status = some st ∧
      others s t slot ∧ t.mem = s.mem ∧ t.reqs = s.reqs
    (size ∉ sizes ∨ leAt c 8 8 % size ≠ 0 → ends 0x11) ∧
    (size ∈ sizes → leAt c 8 8 % size = 0 →
      (s.sourceStatus q ≠ 0 → ends (s.sourceStatus q)) ∧
      (s.sourceStatus q = 0 → (s.ownLdn q.ldn = true ∨ s.reqs = [] ∧ s.shaped q.ldn q.size ≠ none) →
        ∃ t id r, exec (.atomic slot) s = .next t ∧ s.req id = none ∧ t.req id = some r ∧ r.desc = q.desc ∧ r.off = q.off ∧
          r.dst = (if s.ownLdn q.ldn then s.ldn else q.ldn) ∧ r.len = size ∧ r.mover = some (.op slot, 0, 0) ∧
          t.out = .rackReq id r.dst q.desc q.off q.kind ((s.outEntry q.ldn q.desc).toNat % 2 ^ 32) c
            (if s.ownLdn q.ldn then none else s.pathOf q) :: s.out ∧
          t.op slot = some { o with started := true } ∧ others s t slot ∧ t.mem = s.mem) ∧
      (s.sourceStatus q = 0 → s.ownLdn q.ldn = false → s.reqs = [] → s.shaped q.ldn q.size = none → exec (.atomic slot) s = .next s))) ∧
  (∀ (slot : Nat) (o : Op) (s : State), starts s slot 0x41 o → (∀ z ∈ s.waiters, z.ans ≠ .op slot) →
    let b := leAt o.desc 0x08 2
    let code := leAt o.desc 0x0A 1
    let prio := leAt o.desc 0x0B 1 % 8
    let x := BitVec.ofNat 64 (leAt o.desc 0x10 8)
    let y := BitVec.ofNat 64 (leAt o.desc 0x18 8)
    let bc := s.beacon b
    let w : Who := .vf (o.ring / 64)
    let allowed := b < 16384 ∧ s.mayUse w bc = true
    let answered := fun (t : State) (status : Nat) (v : Word) => t.op slot = some (returned t o status v 0)
    let alone := fun (t : State) => ∀ c, c ≠ b → t.beacon c = s.beacon c
    (¬ allowed → ∃ t, exec (.beacon slot) s = .next t ∧ answered t 0x11 0 ∧ t.beacons = s.beacons ∧ t.waiters = s.waiters ∧ others s t slot ∧
      t.fget R.BCN_CNT.bad_ops = (s.fget R.BCN_CNT.bad_ops + 1) % 2 ^ 32) ∧
    -- the beacons change as under the command of the same operation
    (allowed → ∀ cmd, (code, cmd) ∈ [(0, Instr.beaconRead w b), (1, .beaconAdd w b x), (2, .beaconSet w b x), (3, .beaconCas w b x y),
        (4, .beaconWait w b x), (5, .beaconArm w b x), (6, .beaconAcquire w b prio), (7, .beaconRelease w b), (8, .beaconReprioritise w b prio)] →
      ∃ t u, exec (.beacon slot) s = .next t ∧ exec cmd s = .next u ∧ t.beacons = u.beacons ∧ t.mem = s.mem) ∧
    (allowed → code = 0 → ∃ t, exec (.beacon slot) s = .next t ∧ answered t 0 bc.value ∧ t.beacons = s.beacons ∧ t.waiters = s.waiters ∧ t.mem = s.mem ∧
      others s t slot) ∧
    (allowed → (bc.mode = 0 ∨ bc.mode = 3) → ∀ v, (code = 1 ∧ v = bc.value + x ∨ code = 2 ∧ v = x ∨ code = 3 ∧ v = if bc.value = y then x else bc.value) →
      ∃ t, exec (.beacon slot) s = .next t ∧ answered t 0 bc.value ∧ (t.beacon b).value = v ∧ alone t ∧ t.mem = s.mem) ∧
    (allowed → bc.mode = 2 → code = 1 ∨ code = 2 ∨ code = 3 ∨ code = 5 →
      ∃ t, exec (.beacon slot) s = .next t ∧ answered t 0x11 0 ∧ t.beacons = s.beacons ∧ others s t slot) ∧
    (allowed → code = 4 → x.toNat ≤ bc.value.toNat →
      ∃ t, exec (.beacon slot) s = .next t ∧ answered t 0 bc.value ∧ t.beacons = s.beacons ∧ t.waiters = s.waiters ∧ others s t slot) ∧
    (allowed → code = 4 → bc.value.toNat < x.toNat → s.tableUsed < 65536 →
      ∃ t z, exec (.beacon slot) s = .next t ∧ t.op slot = some { o with started := true } ∧ t.waiters = s.waiters ++ [z] ∧ z.beacon = b ∧
        z.ans = .op slot ∧ z.who = w ∧ z.threshold = some x ∧ z.prio = prio ∧ t.beacons = s.beacons ∧ others s t slot) ∧
    (allowed → code = 5 → bc.mode = 3 → bc.value = 0 →
      ∃ t, exec (.beacon slot) s = .next t ∧ answered t 0 0 ∧ t.beacon b = { bc with armed := true } ∧ alone t ∧ t.mem = s.mem) ∧
    (allowed → code = 6 → bc.mode = 2 → (getField bc.value 0 1 = 0 ∨ getField bc.value 1 1 = 1) → (∀ z ∈ s.waiters, z.beacon ≠ b) →
      ∃ t, exec (.beacon slot) s = .next t ∧ getField (t.beacon b).value 0 1 = 1 ∧ getField (t.beacon b).value 16 10 = 0x3FF ∧ alone t ∧
        t.op slot = some (if getField bc.value 1 1 = 1 then returned t o 0 ((t.beacon b).value ||| 2) 32 else returned t o 0 (t.beacon b).value 0) ∧
        t.mem = s.mem) ∧
    (allowed → code = 7 → bc.mode = 2 → lockHeld bc.value = true → lockOrphaned bc.value = false → lockOwner bc.value = s.ownerOf w →
      lockEpoch bc.value = s.epochOf w → (∀ z ∈ s.waiters, z.beacon ≠ b) →
      ∃ t, exec (.beacon slot) s = .next t ∧ answered t 0 bc.value ∧ lockHeld (t.beacon b).value = false ∧ alone t ∧ t.mem = s.mem) ∧
    (allowed → code = 8 → ∃ t, exec (.beacon slot) s = .next t ∧ answered t 0 bc.value ∧ t.beacons = s.beacons ∧ others s t slot)) ∧
  (∀ (slot : Nat) (o : Op) (s : State), s.op slot = some o → o.status = none → leAt o.desc 0 1 = 0x50 →
    let hit := fun (x : Op) => (∃ j, j ≠ slot ∧ s.op j = some x) ∧ x.ring = 64 * (o.ring / 64) + leAt o.desc 0x08 1 ∧
      leAt x.desc 0x3C 2 = leAt o.desc 0x0A 2 ∧ x.classFlags / 64 % 2 = 0
    (∀ x, hit x → (∀ y, hit y → y = x) →
      ∃ t, exec (.probe slot) s = .next t ∧ others s t slot ∧ t.mem = s.mem ∧
        t.op slot = some { closed s o 0 with progress := x.progress, classFlags := x.classFlags &&& 8 }) ∧
    ((∀ x, ¬ hit x) →
      ∃ t, exec (.probe slot) s = .next t ∧ others s t slot ∧ t.mem = s.mem ∧
        t.op slot = some { closed s o 0 with classFlags := o.classFlags ||| 16 })) ∧
  (∀ (slot tile core : Nat) (errs : List MeError) (o : Op) (s : State), starts s slot 0x10 o →
    let a := leAt o.desc 8 8
    let b := s.paBytes a 128
    let f := fun (off n : Nat) => leAt b off n
    let ends := fun (st : Nat) => ∃ t, exec (.matmul slot tile errs core) s = .next t ∧ t.op slot = some (closed s o st) ∧ others s t slot ∧ t.mem = s.mem
    (s.reachAll (some o.partition) a 128 = false → ends 0x11) ∧
    (s.reachAll (some o.partition) a 128 = true → s.paPoisoned a 128 = true → ends 0x20) ∧
    (s.reachAll (some o.partition) a 128 = true → s.paPoisoned a 128 = false →
      (f 8 4 = 0 ∨ 2 ^ 31 < f 8 4 ∨ f 0x0C 4 = 0 ∨ 2 ^ 31 < f 0x0C 4 ∨ f 0x10 4 = 0 ∨ 2 ^ 31 < f 0x10 4 ∨ 2 < f 0x14 1 ∨ f 7 1 = 0xFF ∨
        f 5 1 % 8 > 4 ∨ 16 ≤ f 5 1 ∨ (f 0 1 ≤ 3 ∧ f 1 1 ≠ f 0 1) ∨ f 4 1 = 0x13 ∨
        ∃ i, (0x15 ≤ i ∧ i < 0x20 ∨ 0x70 ≤ i ∧ i < 0x80) ∧ f i 1 ≠ 0) → ends 0x7F) ∧
    (s.reachAll (some o.partition) a 128 = true → s.paPoisoned a 128 = false → matmulBad b = none → o.given = 0 → o.failed = false → 64 ≤ tile →
      ∃ t, exec (.matmul slot tile errs core) s = .next t ∧ others s t slot ∧ t.mem = s.mem ∧
        t.op slot = some { o with started := true, ctrl := b,
                                  progress := BitVec.ofNat 64 (maskOf ((List.range 64).filter (tileEmpty b))) })) ∧
  (∀ (slot tile core : Nat) (o : Op) (s : State), s.op slot = some o → o.status = none → o.started = true → leAt o.desc 0 1 = 0x10 →
    let b := o.ctrl
    let f := fun (off n : Nat) => leAt b off n
    let m := f 8 4
    let n := f 0x0C 4
    let k := f 0x10 4
    let fa := f 0 1
    let fb := f 1 1
    let fd := f 4 1
    let p := some o.partition
    let row := fun (x r : Nat) => f x 8 + r * f (x + 8) 8
    let inTile := fun (r : Nat) => tile * m / 64 ≤ r ∧ r < (tile + 1) * m / 64
    matmulBad b = none → f 0x14 1 = 0 → f 2 1 % 8 = 0 → f 3 1 % 8 = 0 → f 6 1 = 0xFF → f 5 1 % 8 ≠ 4 → n ≤ m →
    tile < 64 → core < 512 → s.tcoreUp core = true → s.partOfTcore core = p → (s.tcore core).me.px = none → (s.tcore core).me.stopped = false →
    (s.tcore core).me.injectPending = false → s.fget (R.TC_PX_CTL.inject_persist core) = 0 →
    o.progress.getLsbD tile = false → o.given.testBit tile = false → o.failed = false → o.stores = [] → o.work = [] →
    (∀ r, inTile r → s.reachAll p (row 0x20 r) (packedBytes fa k) = true ∧ s.paPoisoned (row 0x20 r) (packedBytes fa k) = false ∧
      s.reachAll p (row 0x40 r) (packedBytes fd n) = true) →
    (∀ j, j < k → s.reachAll p (row 0x30 j) (packedBytes fb n) = true ∧ s.paPoisoned (row 0x30 j) (packedBytes fb n) = false) →
    padBase 0 ≤ row 0x40 0 → row 0x40 m ≤ padBase 512 → packedBytes fd n ≤ f 0x48 8 →
    let sum := fun (r c : Nat) => (List.range k).foldl (fun (e : AccEntry) j =>
      let x := FpNum.mul (decodeNum fa (elemAt fa (s.paBytes (row 0x20 r) (packedBytes fa k)) j)) (decodeNum fb (elemAt fb (s.paBytes (row 0x30 j) (packedBytes fb n)) c))
      e.add (fa == 0) x.1 x.2.invalid) AccEntry.empty
    let bits := o.progress ||| BitVec.ofNat 64 (2 ^ tile)
    ∃ t x, exec (.matmul slot tile [] core) s = .next t ∧ t.op slot = some x ∧ x.progress = bits ∧ others s t slot ∧
      (bits ≠ BitVec.allOnes 64 → x.status = none) ∧ (bits = BitVec.allOnes 64 → ∃ st, st < 3 ∧ x.status = some st) ∧
      (∀ r, inTile r → t.paBytes (row 0x40 r) (packedBytes fd n) =
        packElems fd ((List.range n).map (fun c => ((sum r c).drain (fa == 0) fd (f 5 1) 0 ((f 7 1 : Int) - 127)).1))) ∧
      (∀ x, (∀ r, inTile r → x < row 0x40 r ∨ row 0x40 r + packedBytes fd n ≤ x) → t.byte x = s.byte x))

/-- LOG_TAKE: the fatal queue before the other, and what becomes of a report: a new entry of R486, an older entry it
coalesces into (R488), a drop where the log is full for its class (R489), and an Eclipse where its class selects one
(R541); ERR_CONS_WRITE in every outcome. -/
def Obligations.ErrorLog : Prop :=
  -- the report S0 takes next, and the queues without it
  let head := fun (s : State) (r : Report) =>
    (∃ rest, s.fatals = r :: rest) ∧ 3 ≤ r.cls ∨ s.fatals = [] ∧ (∃ rest, s.reports = r :: rest) ∧ r.cls < 3
  let taken := fun (s t : State) =>
    (s.fatals ≠ [] → t.fatals = s.fatals.tail ∧ t.reports = s.reports) ∧
      (s.fatals = [] → t.fatals = [] ∧ t.reports = s.reports.tail)
  let kept := fun (s t : State) => t.mem = s.mem ∧ t.recs = s.recs ∧ t.recq = s.recq ∧ t.nv = s.nv
  let full := fun (r : Report) => if 3 ≤ r.cls then 4096 else 4032
  let entry := fun (s t : State) (r : Report) =>
    let p := s.fget R.ERR_PROD.prod
    t.fget R.ERR_PROD.prod = (p + 1) % 2 ^ 32 ∧ t.fget R.ERR_CONS.cons = s.fget R.ERR_CONS.cons ∧
      t.logWord p 0 = BitVec.ofNat 64 (r.transit % 2 ^ 48 + r.source % 2 ^ 16 * 2 ^ 48) ∧
      getField (t.logWord p 1) 0 34 = r.firstNs % 2 ^ 34 ∧ getField (t.logWord p 1) 34 30 = 0 ∧
      getField (t.logWord p 2) 0 16 = r.code % 2 ^ 16 ∧ getField (t.logWord p 2) 16 3 = r.cls % 8 ∧
      getField (t.logWord p 2) 24 16 = 1 ∧ getField (t.logWord p 2) 40 24 = r.detail % 2 ^ 24 ∧
      t.logWord p 3 = BitVec.ofNat 64 (r.detail / 2 ^ 24) ∧
      (∀ i w, w < 4 → i % 4096 ≠ p % 4096 → t.logWord i w = s.logWord i w)
  (∀ (now : Nat) (s0 : State) (r : Report), let s := s0.advance now
    head s r → s.coalesceInto r = none → s.eclipseSelects r.cls = false → s.logUsed < full r →
    ∃ t, exec (.logTake now) s0 = .next t ∧ taken s t ∧ entry s t r ∧ kept s t ∧
      (r.cls < 2 → t.out = s.out) ∧ (2 ≤ r.cls → Out.pldm 1 r.code ∈ t.out) ∧
      (3 ≤ r.cls → t.fget R.ERR_STATUS.fatal_unread = 1 ∧ t.alertLow = true)) ∧
  (∀ (now : Nat) (s0 : State) (r : Report) (m : LogMeta), let s := s0.advance now
    head s r → s.coalesceInto r = some m → s.eclipseSelects r.cls = false → r.cls ≤ 4 →
    ∃ t, exec (.logTake now) s0 = .next t ∧ taken s t ∧ kept s t ∧
      t.fget R.ERR_PROD.prod = s.fget R.ERR_PROD.prod ∧
      getField (t.logWord m.index 2) 24 16 = Nat.min (getField (s.logWord m.index 2) 24 16 + 1) 65535 ∧
      getField (t.logWord m.index 2) 16 3 = Nat.max (getField (s.logWord m.index 2) 16 3) r.cls ∧
      getField (t.logWord m.index 1) 34 30 = Nat.min ((r.time - m.first) / 1000) (2 ^ 30 - 1) ∧
      (3 ≤ r.cls → t.fget R.ERR_STATUS.fatal_unread = 1 ∧ t.alertLow = true) ∧
      (∀ i w, w < 4 → i % 4096 ≠ m.index % 4096 → t.logWord i w = s.logWord i w)) ∧
  (∀ (now : Nat) (s0 : State) (r : Report), let s := s0.advance now
    head s r → s.coalesceInto r = none → s.eclipseSelects r.cls = false → full r ≤ s.logUsed →
    ∃ t, exec (.logTake now) s0 = .next t ∧ taken s t ∧ kept s t ∧
      t.fget R.ERR_PROD.prod = s.fget R.ERR_PROD.prod ∧ (∀ i w, w < 4 → t.logWord i w = s.logWord i w) ∧
      (let lost : Fld := (if r.cls = 0 then R.ERR_LOST0.lost_corrected else if r.cls = 1 then R.ERR_LOST0.lost_twinkle
          else if r.cls = 2 then R.ERR_LOST0.lost_hard else if r.cls = 3 then R.ERR_LOST0.lost_partition
          else R.ERR_LOST1.lost_package);
        t.fget lost = Nat.min (s.fget lost + 1) 65535)) ∧
  (∀ (now : Nat) (s0 : State) (r : Report), let s := s0.advance now
    head s r → s.coalesceInto r = none → s.eclipseSelects r.cls = true → s.logUsed < full r → s.ecl.phase = 0 →
    s.fget R.NWT_STATUS.pstate ≠ 2 → s.fget R.NWT_STATUS.pstate ≠ 4 →
    ∃ t, exec (.logTake now) s0 = .next t ∧ entry s t r ∧
      t.ecl.phase = (if s.fget R.ECL_CTL.fatal_fast = 1 then 2 else 1) ∧ t.fget R.ECL_STATUS.valid = 1 ∧
      t.fget R.ECL_STATUS.cause = 3 ∧ t.fget R.ECL_STATUS.causes = 8) ∧
  (∀ (now : Nat) (s : State), (s.advance now).fatals = [] → (s.advance now).reports = [] →
    exec (.logTake now) s = .next (s.advance now)) ∧
  (∀ (s : State) (v : Nat), (v % 2 ^ 32 + 2 ^ 32 - s.fget R.ERR_CONS.cons) % 2 ^ 32 ≤ s.logUsed →
    ∃ t, exec (.errConsWrite (.pf 0) v) s = .next t ∧ t.fget R.ERR_CONS.cons = v % 2 ^ 32 ∧
      t.fget R.ERR_PROD.prod = s.fget R.ERR_PROD.prod ∧ t.fget R.ERR_STATUS.cons_err = s.fget R.ERR_STATUS.cons_err ∧
      (t.fget R.ERR_STATUS.fatal_unread = 1 ↔ ∃ i, i < t.logUsed ∧
        3 ≤ getField (t.logWord ((t.fget R.ERR_CONS.cons + i) % 2 ^ 32) 2) 16 3) ∧
      (t.fget R.ERR_STATUS.full = 1 ↔ 4032 ≤ t.logUsed) ∧
      t.out = (if t.alertLow = s.alertLow then s.out else .alert t.alertLow :: s.out) ∧
      (∀ i w, w < 4 → t.logWord i w = s.logWord i w) ∧ t.mem = s.mem) ∧
  (∀ (s : State) (v : Nat), s.logUsed < (v % 2 ^ 32 + 2 ^ 32 - s.fget R.ERR_CONS.cons) % 2 ^ 32 →
    exec (.errConsWrite (.pf 0) v) s = .next (s.fset R.ERR_STATUS.cons_err 1)) ∧
  (∀ (s : State) (fn : Fn) (v : Nat), fn ≠ .pf 0 →
    (s.reports.length < 64 → ∃ r : Report, r.source = 0xA000 ∧ r.code = 0x0A04 ∧ r.cls = 0 ∧
      r.detail = 0x30008 + (match fn with | .pf n => n % 4 | _ => 4) * 2 ^ 26 + 2 ^ 29 + 2 ^ 30 ∧
      exec (.errConsWrite fn v) s = .next { s with reports := s.reports ++ [r] }) ∧
    (64 ≤ s.reports.length → ∃ t, exec (.errConsWrite fn v) s = .next t ∧ t.reports = s.reports ∧
      t.fget R.ERR_LOST0.lost_corrected = Nat.min (s.fget R.ERR_LOST0.lost_corrected + 1) 65535 ∧
      t.fget R.ERR_CONS.cons = s.fget R.ERR_CONS.cons))

/-- RECOVERY_START: which recovery starts, and what it does to its domain (R492, R493, R495); RECOVERY_COMPLETE: the
slot it frees, the units that stay out, the work that is reissued (R499), and the channels that wake. -/
def Obligations.RecoveriesStartAndEnd : Prop :=
  let begins := fun (s t : State) (i : Nat) (r : Recovery) =>
    exec .recoveryStart s = .next t ∧ t.recq = s.recq.erase r ∧ t.recs = s.recs ++ [{ r with slot := i, start := s.clock }] ∧
      ∀ ch x, ch < 64 → x < 2 ^ 36 → t.byte (gddrKey ch x) = s.byte (gddrKey ch x)
  -- the state a reset leaves a T-core and a cluster in
  let coreReset := fun (s t : State) (c : Nat) =>
    t.tcore c = { TCore.reset with cc := { Jumbe.reset with retired := (s.tcore c).cc.retired } } ∧
      ∀ a, a < 0x400000 → t.byte (0x1000000000 + 0x400000 * c + a) = 0
  let clusterReset := fun (s t : State) (k : Nat) =>
    (∀ c, c / 4 = k → coreReset s t c) ∧ (∀ a, a < 0x100000 → t.byte (0x1100000000 + 0x100000 * k + a) = 0) ∧
      (∀ e ∈ t.posts, e.1 / 64 ≠ k) ∧ (∀ m ∈ t.parked, m.cluster ≠ k) ∧
      ((∃ e ∈ s.posts, e.1 / 64 = k) → ∀ j o, s.op j = some o → o.status = none → leAt o.desc 0 1 = 0x30 →
        s.partOfCluster k = some o.partition →
        ∃ x, t.op j = some x ∧ x.status = some 0x10 ∧ x.progress = 0 ∧ x.classFlags = o.classFlags ||| 2 ∧ x.desc = o.desc)
  -- an operation that ends PARTIAL with the hard flag
  let partial_ := fun (s t : State) (j : Nat) =>
    ∀ o, s.op j = some o → ∃ x, t.op j = some x ∧ x.status = some 0x10 ∧ x.progress = o.progress ∧
      x.classFlags = o.classFlags ||| 2 ∧ x.desc = o.desc
  (∀ (s : State) (i : Nat) (r : Recovery), s.freeSlot = some i → s.nextRecovery = some r → (s.regs.map Prod.fst).Nodup →
    (∀ k, r.domain = .tcore k → k < 512 → ∃ t, begins s t i r ∧ (t.tcore k).cc.retired = true ∧ t.ops = s.ops ∧
      ((s.tcore k).cc.retired = false → t.fget (R.TC_CC_STATUS.state k) = 4 ∧ ∀ a, a < 0x400000 → t.byte (0x1000000000 + 0x400000 * k + a) = 0)) ∧
    (∀ k, r.domain = .pcore k → ∃ t, begins s t i r ∧ (t.pcore k).retired = true ∧ t.ops = s.ops ∧ t.mem = s.mem) ∧
    (∀ k, r.domain = .se k → ∃ t, begins s t i r ∧ (t.se k).retired = true ∧ t.mem = s.mem) ∧
    (∀ k, r.domain = .cluster k → k < 128 → ∃ t, begins s t i r ∧ clusterReset s t k) ∧
    (∀ n, r.domain = .stack n → n < 8 → ∃ t, begins s t i r ∧ (∀ k, k / 16 = n → clusterReset s t k) ∧
      (∀ u, u / 8 = n → s.llmCached u = false → ∀ a, a < 0x2000000 → t.byte (0x1200000000 + 0x2000000 * u + a) = 0) ∧
      (∀ g, g / 8 = n → s.chanTrained g = true → (t.chan g).selfRefresh = true)) ∧
    (∀ p, r.domain = .partition p → p < 16 → ∃ t, begins s t i r ∧ t.fget (R.PRT_STATUS.resetting p) = 1 ∧
      t.fget (R.PRT_CNT.resets p) = Nat.min (s.fget (R.PRT_CNT.resets p) + 1) 65535 ∧ .pldm 2 p ∈ t.out ∧
      (∀ j o, s.op j = some o → o.status = none → o.partition = p → partial_ s t j) ∧
      (∀ j o, s.op j = some o → (o.status ≠ none ∨ o.partition ≠ p) → t.op j = some o) ∧
      (∀ k, k < 128 → bit (s.clusterMask p) k = true → ∀ c, c / 4 = k →
        ∀ a, a < 0x400000 → t.byte (0x1000000000 + 0x400000 * c + a) = 0) ∧
      (∀ u, u < 64 → bit (s.llmMask p) u = true → ∀ a, a < 0x2000000 → t.byte (0x1200000000 + 0x2000000 * u + a) = 0) ∧
      (s.applying p = true → t.fget (R.PRT_STATUS.image p) = 0 ∧ t.fget (R.PRT_STATUS.code p) = 0x0F ∧
        ∀ im ∈ t.togus.pending, im.partition ≠ p) ∧
      (s.applying p = false → (∃ im ∈ s.togus.pending, im.partition = p) → t.fget (R.PRT_STATUS.image p) = 1 ∧
        t.togus.pending = s.togus.pending)) ∧
    (r.domain = .package → ∃ t, begins s t i r ∧ t.mem = s.mem ∧ t.ops = s.ops)) ∧
  (∀ s : State, (s.freeSlot = none ∨ s.nextRecovery = none) → exec .recoveryStart s = .next s) ∧
  (∀ (s : State) (i : Nat) (failed : List FailedUnit) (r : Recovery), s.recs.find? (fun x => x.slot == i) = some r →
    (s.regs.map Prod.fst).Nodup →
    ∃ t, exec (.recoveryComplete i failed) s = .next t ∧ t.recs = s.recs.filter (fun x => x.slot != i) ∧ t.recq = s.recq ∧
      (∀ c, c < 512 → .tcore c ∈ failed → s.tcoreUp c = true → (t.tcore c).cc.retired = true) ∧
      (∀ c, .pcore c ∈ failed → s.pcoreUp c = true → (t.pcore c).retired = true) ∧
      (∀ n, .port n ∈ failed → n ∈ t.portsRetired) ∧ (∀ u, .llmUnit u ∈ failed → u ∈ t.llmRetired) ∧
      (∀ p, r.domain = .partition p → t.fget (R.PRT_STATUS.resetting p) = 0) ∧
      ((∃ k, r.domain = .stack k ∨ r.domain = .partition k) → s.ecl.phase = 0 → s.nwt.night = false →
        ∀ n, n < 8 → (∀ x ∈ s.recs, x.slot ≠ i → x.domain ≠ .stack n) → ∀ g, g / 8 = n → s.chanTrained g = true →
          (t.chan g).selfRefresh = false)) ∧
  (∀ (s : State) (i c k : Nat) (r : Recovery) (o : Op), s.recs.find? (fun x => x.slot == i) = some r → r.domain = .tcore c →
    (s.ops.map Prod.fst).Nodup → s.op k = some o → o.status = none →
    let again := s.fget (R.PRT_CTL.auto_reissue o.partition) = 1 ∧ s.partTcores o.partition ≠ []
    (∀ x, o.xfer = some x → x.core = c → x.committed < x.total → o.work = [] →
      (again → o.reissues < 2 → ∃ t, exec (.recoveryComplete i []) s = .next t ∧ t.mem = s.mem ∧
        let again := { x with issued := x.committed, inFlight := [], core := (s.partTcores o.partition).getD 0 x.core }
        t.op k = some { o with reissues := o.reissues + 1, aux := Nat.min (o.aux + (x.total - x.committed)) 65535,
                               classFlags := o.classFlags ||| 4, xfer := some again }) ∧
      ((¬ again ∨ 2 ≤ o.reissues) → ∃ t, exec (.recoveryComplete i []) s = .next t ∧ t.mem = s.mem ∧ partial_ s t k)) ∧
    (o.xfer = none → (∃ w ∈ o.work, w.2 = c) →
      let lost := (o.work.filter (fun w => w.2 == c)).map Prod.fst
      (again → (∀ n ∈ lost, assocGet (fun _ => 0) o.again n < 2) →
        ∃ t y, exec (.recoveryComplete i []) s = .next t ∧ t.mem = s.mem ∧ t.op k = some y ∧ y.status = none ∧
          y.reissues = o.reissues + 1 ∧ y.aux = Nat.min (o.aux + lost.length) 65535 ∧ y.classFlags = o.classFlags ||| 4 ∧
          y.work = o.work.filter (fun w => !lost.contains w.1) ∧ y.progress = o.progress ∧ y.given = o.given) ∧
      (s.fget (R.PRT_CTL.auto_reissue o.partition) = 0 →
        ∃ t y, exec (.recoveryComplete i []) s = .next t ∧ t.mem = s.mem ∧ t.op k = some y ∧ y.status = none ∧
          y.classFlags = o.classFlags ||| 2 ∧ y.work = o.work.filter (fun w => !lost.contains w.1) ∧
          (∀ n, n ∈ lost → bit y.given n = true) ∧ y.progress = o.progress) ∧
      (s.fget (R.PRT_CTL.auto_reissue o.partition) = 1 → (s.partTcores o.partition = [] ∨ ∃ n ∈ lost, 2 ≤ assocGet (fun _ => 0) o.again n) →
        ∃ t, exec (.recoveryComplete i []) s = .next t ∧ t.mem = s.mem ∧ partial_ s t k))) ∧
  (∀ (s : State) (i : Nat) (failed : List FailedUnit), (∀ r ∈ s.recs, r.slot ≠ i) → exec (.recoveryComplete i failed) s = .next s)

/-- MNT_REQUEST in its four outcomes under the conditions of R503 and the conflicts of R504, by PF0 and by PLDM; MNT_ABORT
and MNT_ACTIVITY_DONE in every outcome. -/
def Obligations.MaintenanceArbiter : Prop :=
  let may := fun (s : State) (a d : Nat) =>
    a = 1 ∧ d < 64 ∧ (s.fget (R.GDM_CH_STATUS.state d) = 2 ∨ s.fget (R.GDM_CH_STATUS.state d) = 3) ∨ a = 2 ∧ d < 8 ∨
      a = 3 ∧ s.partOfCluster d = none ∨ a = 4 ∧ d < 64 ∧ s.fget (R.SCP_PORT_STATUS.state d) = 5 ∨ a = 7 ∧ d = 0 ∨
      a = 8 ∧ d < 40 ∧ s.dieOwned d = false
  let unsafeWith := fun (s : State) (a d b e : Nat) =>
    a = b ∧ d = e ∨ a = 5 ∧ b = 6 ∨ a = 1 ∧ b = 6 ∧ (∃ p, s.partOfChan d = some p ∧ bit (s.fget R.ALM_PLAN.part_mask) p = true) ∨
      a = 1 ∧ b = 8 ∧ e = 16 + d / 8 ∨ a = 2 ∧ b = 8 ∧ e = 16 + d ∨ a = 3 ∧ b = 8 ∧ e = d / 8 ∨ a = 4 ∧ b = 7 ∨ a = 7 ∧ b = 8
  let holds := fun (s : State) (a d i : Nat) =>
    let b := s.fget (R.MNT_SLOT.activity i)
    let e := s.fget (R.MNT_SLOT.domain i)
    i < 16 ∧ s.fget (R.MNT_SLOT.busy i) = 1 ∧ (unsafeWith s a d b e ∨ unsafeWith s b e a d)
  let slotsKept := fun (s t : State) (i : Nat) => ∀ j, j < 16 → j ≠ i → t.reg (A.MNT_SLOT j) = s.reg (A.MNT_SLOT j)
  let answered := fun (s t : State) (st holder hd : Nat) =>
    t.fget R.MNT_RESULT.done = 1 ∧ t.fget R.MNT_RESULT.status = st ∧ t.fget R.MNT_RESULT.holder = holder ∧
      t.fget R.MNT_RESULT.holder_domain = hd ∧ t.mem = s.mem ∧ t.recs = s.recs ∧ t.recq = s.recq
  let logged := fun (s t : State) =>
    s.reports.length < 64 → ∃ r : Report, r.source = 0xB001 ∧ r.cls = 0 ∧ r.code = 0x0D02 ∧ t.reports = s.reports ++ [r]
  (∀ (s : State) (fn : Fn) (a d : Nat), (fn = .pf 0 ∨ fn = .mgmt) → a < 16 → d < 128 →
    (may s a d → (∀ i, ¬ holds s a d i) → (∃ i, i < 16 ∧ s.fget (R.MNT_SLOT.busy i) = 0) →
      ∃ t i, exec (.mntRequest fn a d) s = .next t ∧ answered s t 0x00 0 0 ∧ i < 16 ∧ s.fget (R.MNT_SLOT.busy i) = 0 ∧
        t.fget R.MNT_RESULT.slot = i ∧ t.fget (R.MNT_SLOT.busy i) = 1 ∧ t.fget (R.MNT_SLOT.activity i) = a ∧
        t.fget (R.MNT_SLOT.domain i) = d ∧ t.fget (R.MNT_SLOT.progress i) = 0 ∧
        t.fget (R.MNT_SLOT.requester i) = (if fn = .mgmt then 2 else 0) ∧ slotsKept s t i ∧ t.reports = s.reports ∧
        (a = 1 → t.fget (R.GDM_CH_STATUS.state d) = 3)) ∧
    (may s a d → (∀ i, ¬ holds s a d i) → (∀ i, i < 16 → s.fget (R.MNT_SLOT.busy i) = 1) →
      ∃ t, exec (.mntRequest fn a d) s = .next t ∧ answered s t 0x40 0xFF 0 ∧ slotsKept s t 16 ∧ logged s t) ∧
    (may s a d → (∃ i, holds s a d i) →
      ∃ t i, exec (.mntRequest fn a d) s = .next t ∧ holds s a d i ∧
        answered s t 0x40 (s.fget (R.MNT_SLOT.activity i)) (s.fget (R.MNT_SLOT.domain i)) ∧ slotsKept s t 16 ∧ logged s t) ∧
    (¬ may s a d → ∃ t, exec (.mntRequest fn a d) s = .next t ∧ answered s t 0x7F 0 0 ∧ slotsKept s t 16 ∧ logged s t)) ∧
  (∀ (s : State) (fn : Fn) (a d i : Nat), fn ≠ .pf 0 → s.reports.length < 64 →
    (fn ≠ .mgmt → ∃ r : Report, r.source = 0xA000 ∧ r.code = 0x0A04 ∧ r.cls = 0 ∧
      exec (.mntRequest fn a d) s = .next { s with reports := s.reports ++ [r] }) ∧
    (∃ r : Report, r.source = 0xA000 ∧ r.code = 0x0A04 ∧ r.cls = 0 ∧
      exec (.mntAbort fn i) s = .next { s with reports := s.reports ++ [r] })) ∧
  (∀ (s : State) (i : Nat),
    (i < 16 → s.fget (R.MNT_SLOT.busy i) = 1 → s.fget (R.MNT_SLOT.activity i) ∈ [2, 3, 4, 7] →
      ∃ t, exec (.mntAbort (.pf 0) i) s = .next t ∧ t.fget (R.MNT_SLOT.busy i) = 0 ∧ t.fget (R.MNT_SLOT.last_status i) = 0 ∧
        (∀ off, off ≠ A.MNT_SLOT i → t.reg off = s.reg off) ∧ t.mem = s.mem) ∧
    ((16 ≤ i ∨ s.fget (R.MNT_SLOT.busy i) = 0 ∨ s.fget (R.MNT_SLOT.activity i) ∉ [2, 3, 4, 7]) →
      exec (.mntAbort (.pf 0) i) s = .next s)) ∧
  (∀ (s : State) (i : Nat), i < 16 → s.fget (R.MNT_SLOT.busy i) = 1 →
    let a := s.fget (R.MNT_SLOT.activity i)
    let d := s.fget (R.MNT_SLOT.domain i)
    ∃ t, exec (.mntActivityDone i) s = .next t ∧ t.fget (R.MNT_SLOT.busy i) = 0 ∧ t.fget (R.MNT_SLOT.last_status i) = 0 ∧
      t.fget (R.MNT_SLOT.progress i) = 100 ∧ slotsKept s t i ∧ t.mem = s.mem ∧
      (a = 1 → d < 64 → s.fget (R.GDM_CH_STATUS.state d) = 3 → t.fget (R.GDM_CH_STATUS.state d) = 2 ∧
        t.fget (R.GDM_CH_CRC.retrains d) = (s.fget (R.GDM_CH_CRC.retrains d) + 1) % 2 ^ (R.GDM_CH_CRC.retrains d).width) ∧
      (a = 2 → d < 8 →
        let inSlice := fun (w : Nat) => decide (llmBase (8 * d) ≤ 8 * w ∧ 8 * w < llmBase (8 * d + 8)) ||
          decide (copyKey (gddrKey (8 * d) 0) ≤ 8 * w ∧ 8 * w < copyKey (gddrKey (8 * d + 8) 0))
        t.weak = s.weak.filter (fun w => !inSlice w) ∧
          t.fget (R.LLM_ECC_CNT.corrected d) = Nat.min (s.fget (R.LLM_ECC_CNT.corrected d) + (s.weak.filter inSlice).length)
            (2 ^ (R.LLM_ECC_CNT.corrected d).width - 1)) ∧
      (a ≠ 1 → a ≠ 2 → ∀ off, off ≠ A.MNT_SLOT i → t.reg off = s.reg off)) ∧
  (∀ (s : State) (i : Nat), (16 ≤ i ∨ s.fget (R.MNT_SLOT.busy i) = 0) → exec (.mntActivityDone i) s = .next s)

/-- FLR, CONFIG_REQUEST, LINK_DOWNTRAIN, DMA_REFUSED, MSIX_UNMASK, and REGISTER_WRITE and MGMT_WRITE through every
function, in every outcome. -/
def Obligations.HostLinkAndRegisters : Prop :=
  let stopped := fun (t : State) (r code : Nat) => t.fget (R.QRG_RING_CFG.enable r) = 0 ∧ t.fget (R.QRG_RING_STATUS.err r) = 1 ∧
    t.fget (R.QRG_RING_STATUS.err_code r) = code
  (∀ (v : Nat) (s : State), v < s.numVfs → v < 4096 → (s.beacons.map Prod.fst).Nodup →
    ∃ t, exec (.flr (.vf v)) s = .next t ∧
      (∀ r, r < 262144 → r / 64 = v → t.fget (R.QRG_RING_CFG.enable r) = 0 ∧ t.reg (A.QRG_RING_IDX r) = 0 ∧ t.reg (A.QRG_RING_HOST r) = 0) ∧
      (∀ r, r < 262144 → r / 64 ≠ v → ∀ a ∈ [A.QRG_RING_CFG r, A.QRG_RING_SQ r, A.QRG_RING_CQ r, A.QRG_RING_IDX r, A.QRG_RING_HOST r, A.QRG_RING_STATUS r],
        t.reg a = s.reg a) ∧
      (∀ k o, s.op k = some o → o.ring / 64 = v → ∃ x, t.op k = some x ∧ x.discarded = true ∧ x.desc = o.desc ∧ x.ring = o.ring ∧ x.progress = o.progress) ∧
      (∀ k o, s.op k = some o → o.ring / 64 ≠ v → t.op k = some o) ∧
      (∀ e ∈ s.beacons, e.2.mode = 2 → getField e.2.value 0 1 = 1 → getField e.2.value 1 1 = 0 → lockOwner e.2.value = s.ownerOf (.vf v) →
        getField (t.beacon e.1).value 1 1 = 1) ∧
      (∀ n, n < 4096 → t.vec (v * 4096 + n) = (true, false)) ∧ (∀ k, k / 4096 ≠ v → t.vec k = s.vec k) ∧
      t.numVfs = s.numVfs ∧ t.mem = s.mem) ∧
  (∀ s : State, ∃ t, exec (.flr (.pf 1)) s = .next t ∧ t.numVfs = 0 ∧ t.mem = s.mem ∧
    ∀ r, r < 262144 → t.fget (R.QRG_RING_CFG.enable r) = 0 ∧ t.reg (A.QRG_RING_IDX r) = 0 ∧ t.reg (A.QRG_RING_HOST r) = 0) ∧
  (∀ (n : Nat) (s : State), n ∈ [0, 2, 3] → ∃ t, exec (.flr (.pf n)) s = .next t ∧ t.regs = s.regs ∧ t.ops = s.ops ∧ t.numVfs = s.numVfs ∧ t.mem = s.mem ∧
    ∀ m, m < 4096 → t.vec ((4096 + n) * 4096 + m) = (true, false)) ∧
  (∀ (fn : Fn) (s : State), (fn = .mgmt ∨ (∃ n, fn = .pf n ∧ 4 ≤ n) ∨ ∃ v, fn = .vf v ∧ s.numVfs ≤ v) → exec (.flr fn) s = .next s) ∧
  (∀ (fn : Fn) (n : Option Nat) (s : State),
    (s.boot.configReady = false → exec (.configRequest fn n) s = .next (s.emit (.config true))) ∧
    (s.boot.configReady = true →
      (∀ x, n = some x → fn = .pf 1 → x ≤ 4096 → exec (.configRequest fn n) s = .next ({ s with numVfs := x }.emit (.config false))) ∧
      ((n = none ∨ fn ≠ .pf 1 ∨ ∃ x, n = some x ∧ 4096 < x) → exec (.configRequest fn n) s = .next (s.emit (.config false))))) ∧
  (∀ (w g : Nat) (s : State),
    let lower := w ∈ [1, 2, 4, 8, 16] ∧ g ∈ [2, 5, 8, 16, 32, 64] ∧ (w < s.pins.linkWidth ∨ g < s.pins.linkRate)
    (lower → s.reports.length < 64 →
      ∃ t r, exec (.linkDowntrain w g) s = .next t ∧ t.pins = { s.pins with linkWidth := w, linkRate := g } ∧ t.reports = s.reports ++ [r] ∧ r.cls = 0 ∧
        r.code = 0x1001 ∧ t.ops = s.ops ∧ t.regs = s.regs ∧ t.mem = s.mem) ∧
    (¬ lower → exec (.linkDowntrain w g) s = .next s)) ∧
  (∀ (r slot : Nat) (o : Op) (s : State), s.op slot = some o →
    (o.status = none → o.xfer = none → exec (.dmaRefused r (some slot) 0) s =
      .next { s.setOp slot (some { o with status := some 0x11, ended := s.endCount + 1, parts := [], partsTile := none }) with
                endCount := s.endCount + 1 }) ∧
    (∀ x e n bs, o.status = none → o.xfer = some x → dSpace x.desc = 2 → x.inFlight.find? (fun p => match p.2 with | .waiting _ _ => true | _ => false) =
        some (e, .waiting n bs) →
      ∃ t y, exec (.dmaRefused r (some slot) 0) s = .next t ∧ t.op slot = some { o with xfer := some y } ∧ y.committed = x.committed ∧
        (e, ElemSt.faulted 0x11) ∈ y.inFlight ∧ (∀ p ∈ x.inFlight, p.1 ≠ e → p ∈ y.inFlight) ∧ t.mem = s.mem) ∧
    (o.status.isSome = true → o.discarded = false → o.ring < 262144 → s.fget (R.QRG_RING_CFG.space o.ring) ≠ 0 →
      (∀ j x, s.op j = some x → x.ring = o.ring → x.status ≠ none → x.discarded = false → o.ended ≤ x.ended) →
      ∃ t, exec (.dmaRefused r (some slot) 2) s = .next t ∧ stopped t o.ring 4 ∧ t.op slot = none ∧ t.mem = s.mem) ∧
    (o.status.isSome = true → exec (.dmaRefused r (some slot) 0) s = .next s) ∧
    (o.status = none → exec (.dmaRefused r (some slot) 2) s = .next s)) ∧
  (∀ (r slot : Nat) (s : State), s.op slot = none →
    exec (.dmaRefused r (some slot) 0) s = .next s ∧ exec (.dmaRefused r (some slot) 2) s = .next s) ∧
  (∀ (r : Nat) (slot : Option Nat) (s : State),
    (r < 262144 → s.fget (R.QRG_RING_CFG.enable r) = 1 → s.fget (R.QRG_RING_CFG.space r) = 2 →
      ∃ t, exec (.dmaRefused r slot 1) s = .next t ∧ stopped t r 2 ∧ t.ops = s.ops ∧ t.mem = s.mem) ∧
    ((s.fget (R.QRG_RING_CFG.enable r) = 0 ∨ s.fget (R.QRG_RING_CFG.space r) ≠ 2) → exec (.dmaRefused r slot 1) s = .next s)) ∧
  (∀ (fn : Fn) (n i : Nat) (s : State), ((∃ v, fn = .vf v ∧ i = v ∧ n < 8) ∨ fn = .pf 0 ∧ i = 4096 ∧ n < 2048 ∨ (fn = .pf 1 ∧ i = 4097 ∨ fn = .pf 2 ∧ i = 4098) ∧
      n < 64 ∨ fn = .pf 3 ∧ i = 4099 ∧ n < 16) →
    ((s.vec (i * 4096 + n)).2 = true → exec (.msixUnmask fn n) s = .next ((s.setVec (i * 4096 + n) (false, false)).emit (.msix fn n))) ∧
    ((s.vec (i * 4096 + n)).2 = false → exec (.msixUnmask fn n) s = .next (s.setVec (i * 4096 + n) (false, false)))) ∧
  (∀ (fn : Fn) (n : Nat) (s : State), ((∃ v, fn = .vf v ∧ 8 ≤ n) ∨ fn = .pf 0 ∧ 2048 ≤ n ∨ (fn = .pf 1 ∨ fn = .pf 2) ∧ 64 ≤ n ∨ fn = .pf 3 ∧ 16 ≤ n ∨ fn = .mgmt) →
    exec (.msixUnmask fn n) s = .next s) ∧
  (∀ (cmd : Nat → Nat → Word → Instr) (fn : Fn) (off size : Nat) (value : Word) (s : State),
    (cmd = .registerWrite fn ∨ cmd = .mgmtWrite ∧ fn = .mgmt) →
    let base := off - off % 8
    let fits := size = 8 ∧ off % 8 = 0 ∨ size = 4 ∧ off % 4 = 0
    let lo := if size = 4 ∧ off % 8 = 4 then 32 else 0
    let hi := if size = 4 ∧ off % 8 = 0 then 32 else 64
    let word : Word := if lo = 32 then BitVec.ofNat 64 (value.toNat % 2 ^ 32 * 2 ^ 32) else value
    let area := 0x80000 ≤ base ∧ base < 0xC0000
    let refused := fun (right : Nat) => ∃ r : Report, exec (cmd off size value) s = .next { s with reports := s.reports ++ [r] } ∧ r.code = 0x0A04 ∧ r.cls = 0 ∧
      r.detail % 2 ^ 26 = off % 2 ^ 26 ∧ r.detail / 2 ^ 26 % 8 = (match fn with | .pf n => n % 4 | _ => 4) ∧
      r.detail / 2 ^ 29 = (if size = 8 then 1 else 0) + 2 * right
    -- every field of the register at `reg` that the access reaches takes its new value, by its access type
    let written := fun (reg : Nat) => ∀ fs, regFields reg = some fs →
      ∃ t, exec (cmd off size value) s = .next t ∧ (∀ a, a ≠ reg → t.reg a = s.reg a) ∧ t.mem = s.mem ∧ t.reports = s.reports ∧ t.ops = s.ops ∧
        ∀ f ∈ fs,
          let old := getField (s.reg reg) f.lo f.width
          let new := getField word f.lo f.width
          getField (t.reg reg) f.lo f.width =
            if f.lo < lo ∨ hi < f.lo + f.width ∨ fieldRights fn reg f.lo = false ∨ ownRow reg f.lo = true ∨ s.locked reg f.lo = true then old
            else match f.acc with
              | .ro => old | .sc => old
              | .w1c => (old ^^^ (old &&& new))
              | .w1s => (old ||| new)
              | _ => if f.min ≤ new ∧ new ≤ f.max then new else old
    let pf := ∀ v, fn ≠ .vf v
    (pf → s.boot.stage ≠ .recovery → s.reports.length < 64 →
      (¬ fits ∨ ¬ area ∧ regFields base = none → refused 0) ∧
      (fits → (area ∨ (regFields base).isSome = true) → regRights fn base = false → refused 1)) ∧
    (pf → s.boot.stage = .recovery → s.reports.length < 64 → refused 0) ∧
    (pf → s.boot.stage ≠ .recovery → fits → ¬ area → regRights fn base = true → written base) ∧
    (pf → s.boot.stage ≠ .recovery → fits → area → regRights fn base = true →
      (s.fget R.PRT_STAGE.validating = 0 → exec (cmd off size value) s = .next (s.write (stagingBase + (off - 0x80000)) (leBytes size value.toNat))) ∧
      (s.fget R.PRT_STAGE.validating = 1 → ∃ t, exec (cmd off size value) s = .next t ∧ t.fget R.PRT_STAGE.busy_err = 1 ∧ t.mem = s.mem ∧
        (∀ a, a ≠ A.PRT_STAGE → t.reg a = s.reg a))) ∧
    (∀ v, fn = .vf v →
      (v < s.numVfs → base < 0x1000 → fits → written (0x1100000 + 0x1000 * v + base)) ∧
      ((s.numVfs ≤ v ∨ 0x1000 ≤ base ∨ ¬ fits ∨ regFields (0x1100000 + 0x1000 * v + base) = none) → exec (cmd off size value) s = .next s)))

/-- The commands of start-up, reference clocks and the regulator bus: the resets and what outlasts them, the boot ROM's
choice among the firmware copies of the flash (R465 to R469), the milestones up to COMPUTE_READY. -/
def Obligations.ResetsAndBringUp : Prop :=
  let boots := fun (s : State) (i : Nat) =>
    let b := s.fwBytes i
    let len1 := leAt b 0x14 4
    let total := leAt b 0x18 4
    let k := leAt b 0x1C 1
    let key := s.nv.vendorKeys.getD k []
    leAt b 0 4 = 0x4E524946 ∧ leAt b 4 4 = 0xF40 ∧ len1 ≤ 0x800000 ∧ total ≤ 0x1800000 ∧ 256 + len1 ≤ total ∧ total ≤ b.length ∧
      k < 2 ∧ s.nv.vendorSlots / 4 ^ k % 4 = 1 ∧ sha384 key = s.nv.vendorDigests.getD k [] ∧
      ecdsaOk key (sha384 (b.take 0xA0)) ((b.drop 0xA0).take 96) = true ∧ s.nv.fwMin ≤ leAt b 0x0C 4 ∧
      sha384 ((b.drop 256).take len1) = (b.drop 0x40).take 48
  let stage2 := fun (s : State) (i : Nat) =>
    let b := s.fwBytes i
    let len1 := leAt b 0x14 4
    sha384 ((b.drop (256 + len1)).take (leAt b 0x18 4 - 256 - len1)) = (b.drop 0x70).take 48
  -- what the boot ROM makes of the flash, with the copies of `out` excluded
  let selected := fun (s t : State) (out : List Nat) =>
    let first := fun (r : ActRec) => recOf s.nv.rec0 = some r ∧ ∀ x, recOf s.nv.rec1 = some x → x.seq ≤ r.seq
    let second := fun (r : ActRec) => recOf s.nv.rec1 = some r ∧ ∀ x, recOf s.nv.rec0 = some x → x.seq < r.seq
    ∀ r : ActRec, (first r ∨ second r ∨ recOf s.nv.rec0 = none ∧ recOf s.nv.rec1 = none ∧ r = ⟨0, 0, 255, 0⟩) → r.seq < 2 ^ 64 - 1 →
      let trial := r.pending ≠ 255 ∧ r.trials < 2
      let copy := if trial then r.pending % 2 else r.active % 2
      let ok := fun (i : Nat) => boots s i ∧ i ∉ out
      (ok copy → t.boot.stage = .rom ∧ t.boot.copy = copy ∧ (t.boot.watchdog = true ↔ trial) ∧ t.fget R.GLB_BOOT.boot_state = 0) ∧
      (¬ ok copy → ok (1 - copy) → t.boot.stage = .rom ∧ t.boot.copy = 1 - copy ∧ t.boot.watchdog = false) ∧
      (¬ ok copy → ¬ ok (1 - copy) → t.boot.stage = .recovery ∧ t.fget R.GLB_BOOT.boot_state = 3 ∧ t.boot.configReady = true) ∧
      (r.pending = 255 → t.nv.rec0 = s.nv.rec0 ∧ t.nv.rec1 = s.nv.rec1) ∧
      (r.pending ≠ 255 →
        let next := recBytes ⟨r.seq + 1, r.active, if trial then r.pending else 255, if trial then r.trials + 1 else r.trials⟩
        (second r → t.nv.rec0 = next ∧ t.nv.rec1 = s.nv.rec1) ∧ (first r → t.nv.rec1 = next ∧ t.nv.rec0 = s.nv.rec0))
  let done := fun (s : State) (b : Nat) => s.fget R.GLB_BOOT.milestones / 2 ^ b % 2
  (∀ s : State, ∃ t, exec .coldReset s = .next t ∧ (∀ off, t.reg off = resetReg off) ∧ (∀ a, t.byte a = 0) ∧ t.ops = [] ∧ t.nv = s.nv ∧ t.recs = [] ∧
    t.pins.avsSet = [800, 800] ∧ 7 ∉ t.pins.railsBad ∧ t.boot.stage = .inReset) ∧
  (∀ s : State, ∃ t, exec .vddAonLoss s = .next t ∧ (∀ off, t.reg off = resetReg off) ∧ (∀ a, t.byte a = 0) ∧ t.ops = [] ∧ t.nv = s.nv ∧ 7 ∈ t.pins.railsBad) ∧
  (∀ (cmd : Instr) (s s0 : State) (now rail cause : Nat),
    (cmd = .perstAssert now ∧ s0 = s.advance now ∧ s0.pins.perstN = true ∧ cause = 1) ∨ (cmd = .railFail rail ∧ s0 = s ∧ rail < 7 ∧ cause = 5) ∨
      (cmd = .bootWatchdog ∧ s0 = s ∧ s.boot.watchdog = true ∧ cause = 4) →
    (s0.regs.map Prod.fst).Nodup →
    ∃ t, exec cmd s = .next t ∧ t.fget R.GLB_BOOT.reset_cause = cause ∧ (∀ a, t.byte a = 0) ∧ t.ops = [] ∧ t.boot.stage = .inReset ∧ t.nv = s0.nv ∧
      t.reports = s0.reports ∧ t.fatals = s0.fatals ∧ t.portsRetired = s0.portsRetired ∧ t.llmRetired = s0.llmRetired ∧
      (cmd = .railFail rail → rail ∈ t.pins.railsBad) ∧ (cmd = .perstAssert now → t.pins.perstN = false) ∧
      (∀ off, off ≠ A.NWT_STATUS → (0x60000 ≤ off ∧ off < 0x80000 ∨ 0x30000 ≤ off ∧ off < 0x40000 ∨ 0xC0000 ≤ off ∧ off < 0xE0000) → t.reg off = s0.reg off) ∧
      (∀ c, c < 512 → t.reg (A.TC_PX_RETIRED c) = s0.reg (A.TC_PX_RETIRED c)) ∧
      ∀ off fs f, off ≠ A.GLB_BOOT → off ≠ A.NWT_STATUS → regFields off = some fs → f ∈ fs →
        (f.acc = .rws → getField (t.reg off) f.lo f.width = getField (s0.reg off) f.lo f.width) ∧
        (f.acc ≠ .rws → off ≠ A.GLB_DIE_RETIRED → ¬ (0x60000 ≤ off ∧ off < 0x80000) → ¬ (0x30000 ≤ off ∧ off < 0x40000) →
          ¬ (0xC0000 ≤ off ∧ off < 0xE0000) → (∀ n, n < 64 → off ≠ A.GDM_CH_STATUS n) → (∀ c, c < 512 → off ≠ A.TC_PX_RETIRED c) →
          getField (t.reg off) f.lo f.width = getField (resetReg off) f.lo f.width)) ∧
  (∀ (now rail : Nat) (s : State),
    ((s.advance now).pins.perstN = false → exec (.perstAssert now) s = .next (s.advance now)) ∧
    (7 ≤ rail → exec (.railFail rail) s = .next s) ∧ (s.boot.watchdog = false → exec .bootWatchdog s = .next s)) ∧
  (∀ (cmd : Instr) (now rack slot : Nat) (s : State),
    let s0 := s.advance now
    (cmd = .perstRelease now rack slot ∧ s0.pins.perstN = false ∧ s0.pins.railsBad = [] ∨
      cmd = .internalResetRelease now ∧ s0.boot.stage = .inReset ∧ s0.pins.perstN = true ∧ s0.pins.railsBad = [] ∨
      cmd = .railRestoreRestart now ∧ s0.pins.railsBad ≠ [] ∧ 7 ∉ s0.pins.railsBad ∧ s0.pins.perstN = true) →
    (s0.fget R.NWT_STATUS.pstate = 4 → ∃ t, exec cmd s = .next t ∧ t.boot = s0.boot ∧ t.pins.railsBad = []) ∧
    (s0.fget R.NWT_STATUS.pstate ≠ 4 → s0.pins.clocksLost ≠ [] →
      ∃ t, exec cmd s = .next t ∧ t.pins.heldByClock = true ∧ t.boot = s0.boot ∧ t.pins.railsBad = []) ∧
    (s0.fget R.NWT_STATUS.pstate ≠ 4 → s0.pins.clocksLost = [] →
      ∃ t, exec cmd s = .next t ∧ t.boot.start = s0.clock ∧ t.boot.excluded = [] ∧ t.mem = s0.mem ∧
        (cmd = .perstRelease now rack slot → t.nv.strapRack = rack % 2 ^ 16 ∧ t.nv.strapSlot = slot % 2 ^ 8 ∧ t.pins.perstN = true) ∧
        t.fget R.SCP_ID.rack = t.nv.strapRack % 2 ^ 16 ∧ t.fget R.SCP_ID.slot = t.nv.strapSlot % 2 ^ 8 ∧
        t.fget R.GLB_SEC.fw_min = t.nv.fwMin % 2 ^ 32 ∧ t.fget R.GLB_SEC.image_min = t.nv.imageMin % 2 ^ 32 ∧ selected s0 t [])) ∧
  (∀ (now rack slot : Nat) (s : State),
    let s0 := s.advance now
    (s0.pins.perstN = true → exec (.perstRelease now rack slot) s = .next s0) ∧
    (s0.pins.perstN = false → s0.pins.railsBad ≠ [] → ∃ t, exec (.perstRelease now rack slot) s = .next t ∧ t.pins = { s0.pins with perstN := true } ∧
      t.boot = s0.boot ∧ t.regs = s0.regs ∧ t.nv.strapRack = rack % 2 ^ 16 ∧ t.nv.strapSlot = slot % 2 ^ 8) ∧
    ((s0.boot.stage ≠ .inReset ∨ s0.pins.perstN = false ∨ s0.pins.railsBad ≠ []) → exec (.internalResetRelease now) s = .next s0) ∧
    ((s0.pins.railsBad = [] ∨ 7 ∈ s0.pins.railsBad) → exec (.railRestoreRestart now) s = .next s0) ∧
    (s0.pins.railsBad ≠ [] → 7 ∉ s0.pins.railsBad → s0.pins.perstN = false →
      exec (.railRestoreRestart now) s = .next { s0 with pins := { s0.pins with railsBad := [] } })) ∧
  (∀ s : State, s.boot.stage = .rom → s.boot.copy < 2 →
    (stage2 s s.boot.copy → ∃ t, exec .firmwareStarted s = .next t ∧ t.boot.stage = .running ∧ t.boot.copy = s.boot.copy ∧ done t 0 = 1 ∧ done t 1 = 1 ∧
      t.boot.configReady = true ∧ t.fget R.GLB_BOOT.boot_state = 1 ∧ t.fget R.GLB_FW.running_copy = s.boot.copy ∧
      t.fget R.GLB_FW.version = leAt (s.fwBytes s.boot.copy) 8 4 ∧ t.mem = s.mem ∧ t.nv = s.nv) ∧
    (¬ stage2 s s.boot.copy → ∃ t, exec .firmwareStarted s = .next t ∧ s.boot.copy ∈ t.boot.excluded ∧ t.mem = s.mem ∧
      selected s t (s.boot.copy :: s.boot.excluded))) ∧
  (∀ s : State, s.boot.stage ≠ .rom → exec .firmwareStarted s = .next s) ∧
  (∀ s : State,
    (s.boot.stage = .running → done s 0 = 1 → done s 2 = 0 →
      ∃ t, exec .fusesApplied s = .next t ∧ done t 2 = 1 ∧ t.mem = s.mem ∧ t.ops = s.ops ∧
        ((s.nv.fusedCols.map Prod.fst).Nodup → ∀ e ∈ s.nv.fusedCols, e.1 < 512 → t.reg (A.TC_ME_FUSED e.1) = e.2 ∧
          t.fget (R.TC_ME_STATUS.width_physical e.1) = ((List.range 64).filter (fun i =>
            !bit e.2.toNat i && !bit (s.reg (A.TC_PX_RETIRED e.1)).toNat i)).length) ∧
        (∀ c, c < 512 → s.tcoreUp c = false → t.fget (R.TC_CC_STATUS.state c) = 4)) ∧
    ((s.boot.stage ≠ .running ∨ done s 0 = 0 ∨ done s 2 = 1) → exec .fusesApplied s = .next s)) ∧
  (∀ (failed : List FailedUnit) (s : State), s.boot.stage = .running → done s 2 = 1 → done s 3 = 0 →
    let fatal := fun (d : Nat) => d = 36 ∨ d = 38 ∨ d = 39 ∨ 16 ≤ d ∧ d < 24
    let harmless := fun (l : List FailedUnit) => ∀ u ∈ l, ∀ d c, fatal d → u ≠ .die d ∧ u ≠ .fatalDie d c
    (∀ d code u pre post, fatal d → (u = .die d ∧ code = 1 ∨ u = .fatalDie d code) → failed = pre ++ u :: post → harmless pre → code < 256 →
      ∃ t, exec (.selfTestDone failed) s = .next t ∧ t.boot.stage = .halted ∧ t.boot.configReady = false ∧ t.alertLow = true ∧
        .pldm 6 (d + 256 * code) ∈ t.out ∧
        t.fget R.GLB_BOOT.boot_state = 4 ∧ t.fget R.GLB_BOOT.halt_die = d ∧ t.fget R.GLB_BOOT.halt_code = code ∧ (done t 7 = 1 → done s 7 = 1)) ∧
    (harmless failed → (∀ p, p < 16 → s.partPresent p = false) → ∃ t, exec (.selfTestDone failed) s = .next t ∧ done t 3 = 1 ∧ t.mem = s.mem ∧
      t.boot.stage = .running ∧ (∀ c, c < 512 → .tcore c ∈ failed → t.tcoreUp c = false) ∧ (∀ c, c < 192 → .pcore c ∈ failed → t.pcoreUp c = false) ∧
      (∀ n, n < 16 → .se n ∈ failed → t.seUp n = false) ∧ (∀ u, u < 64 → .llmUnit u ∈ failed → t.llmUp u = false) ∧
      (∀ n, n < 64 → .port n ∈ failed → t.portWorks n = false) ∧ (∀ d, d < 40 → .die d ∈ failed → t.dieOut d = true) ∧
      (∀ n, n < 64 → .channel n ∈ failed → t.fget (R.GDM_CH_STATUS.state n) = 4) ∧
      (∀ c col, c < 512 → col < 64 → .column c col ∈ failed → col ∉ t.colsUp c))) ∧
  (∀ (failed : List FailedUnit) (s : State), (s.boot.stage ≠ .running ∨ done s 2 = 0 ∨ done s 3 = 1) → exec (.selfTestDone failed) s = .next s) ∧
  (∀ s : State, s.boot.stage = .running → done s 4 = 1 → done s 5 = 1 → s.fget R.PRT_BOOT.loaded ≠ 3 →
    ∃ t, exec .computeReady s = .next t ∧ done t 7 = 1 ∧ t.fget R.GLB_BOOT.boot_state = 2 ∧ t.mem = s.mem ∧ t.ops = s.ops) ∧
  (∀ s : State, (s.boot.stage ≠ .running ∨ done s 4 = 0 ∨ done s 5 = 0 ∨ s.fget R.PRT_BOOT.loaded = 3) → exec .computeReady s = .next s) ∧
  (∀ (c : RefClk) (s : State), c ∉ s.pins.clocksLost → s.reports.length < 64 → s.fatals.length < 8 →
    (c = .mhz100 → ∃ t r, exec (.refclkLoss c) s = .next t ∧ t.pins.linkWidth = 0 ∧ t.pins.clocksLost = s.pins.clocksLost ++ [c] ∧
      t.reports = s.reports ++ [r] ∧ r.cls = 2 ∧ t.regs = s.regs ∧ t.mem = s.mem) ∧
    (c = .mhz156 → ∃ t r, exec (.refclkLoss c) s = .next t ∧ t.pins.clocksLost = s.pins.clocksLost ++ [c] ∧ r ∈ t.reports ∧ r.cls = 2 ∧ t.mem = s.mem ∧
      ∀ n, n < 64 → s.portSt n ≠ 0 → t.portSt n = 1) ∧
    (c = .mhz25 → s.ecl.phase ≠ 2 → s.eclipseSelects 4 = false → ∃ t r, exec (.refclkLoss c) s = .next t ∧ t.fatals = s.fatals ++ [r] ∧ r.cls = 4 ∧
      t.fget R.GLB_BOOT.reset_cause = 2 ∧ t.boot.stage = .inReset ∧ t.pins.clocksLost = s.pins.clocksLost ++ [c]) ∧
    (c = .mhz25 → s.ecl.phase ≠ 2 → s.eclipseSelects 4 = true → ∃ t r, exec (.refclkLoss c) s = .next t ∧ t.fatals = s.fatals ++ [r] ∧ r.cls = 4 ∧
      t.regs = s.regs ∧ t.boot = s.boot ∧ t.pins.clocksLost = s.pins.clocksLost ++ [c]) ∧
    (c = .mhz25 → s.ecl.phase = 2 → ∃ t r, exec (.refclkLoss c) s = .next t ∧ t.fatals = s.fatals ++ [r] ∧ r.cls = 4 ∧
      t.fget R.GLB_BOOT.reset_cause = 2 ∧ t.boot.stage = .inReset ∧ t.ecl.phase = 0) ∧
    (c = .khz32 → ∃ t r, exec (.refclkLoss c) s = .next t ∧ t.pins.clocksLost = s.pins.clocksLost ++ [c] ∧ t.reports = s.reports ++ [r] ∧ r.cls = 0 ∧
      t.regs = s.regs ∧ t.mem = s.mem)) ∧
  (∀ (c : RefClk) (s : State), c ∈ s.pins.clocksLost → s.pins.heldByClock = false →
    ∃ t, exec (.refclkRestore c) s = .next t ∧ t.pins.clocksLost = s.pins.clocksLost.filter (fun x => x != c) ∧
      (c = .mhz100 → t.pins.linkWidth = 16 ∧ t.pins.linkRate = 64) ∧ t.regs = s.regs ∧ t.mem = s.mem ∧ t.boot = s.boot) ∧
  (∀ (c : RefClk) (s : State), (∀ x ∈ s.pins.clocksLost, x = c) → c ∈ s.pins.clocksLost → s.pins.heldByClock = true → s.pins.perstN = true →
    s.pins.railsBad = [] → s.boot.stage = .inReset → s.fget R.NWT_STATUS.pstate ≠ 4 →
    ∃ t, exec (.refclkRestore c) s = .next t ∧ t.pins.clocksLost = [] ∧ t.pins.heldByClock = false ∧ t.boot.start = s.clock ∧ selected s t []) ∧
  (∀ (c : RefClk) (s : State), (c ∈ s.pins.clocksLost → exec (.refclkLoss c) s = .next s) ∧ (c ∉ s.pins.clocksLost → exec (.refclkRestore c) s = .next s)) ∧
  (∀ (rail : Nat) (s : State), (∀ v, s.pins.avsAsked[rail]? ≠ some (some v)) →
    exec (.avsAck rail) s = .next s ∧ exec (.avsAckTimeout rail) s = .next s) ∧
  (∀ (rail mv lo hi : Nat) (s : State), (rail = 0 ∧ lo = 700 ∧ hi = 850 ∨ rail = 1 ∧ lo = 650 ∧ hi = 900) → s.pins.avsSet.length = 2 →
    s.pins.avsAsked.length = 2 → s.pins.avsAsked[rail]? = some (some mv) → lo ≤ mv → mv ≤ hi →
    (∃ t, exec (.avsAck rail) s = .next t ∧ t.pins.avsSet = s.pins.avsSet.set rail mv ∧ t.regs = s.regs ∧ t.mem = s.mem ∧
      (t.pins.avsAsked[rail]? = some none ∨ ∃ v, t.pins.avsAsked[rail]? = some (some v) ∧ v ≠ mv ∧ mv ≤ v + 10 ∧ v ≤ mv + 10 ∧ lo ≤ v ∧ v ≤ hi ∧
        (v < mv → s.railCool rail = true) ∧ .avs rail v ∈ t.out)) ∧
    (s.reports.length < 64 → ∃ t r, exec (.avsAckTimeout rail) s = .next t ∧ t.pins.avsSet = s.pins.avsSet ∧ t.pins.avsAsked[rail]? = some none ∧
      t.reports = s.reports ++ [r] ∧ r.cls = 2 ∧ t.regs = s.regs ∧ t.mem = s.mem))

/-- The commands of the management path: the Burolmuri commands, firmware and image staging, MCTP control, SPDM and sensors,
each accepted and refused. The codes of the responses are the model's choice (log 23), those of DMTF's standards presumed
(log 12). -/
def Obligations.Management : Prop :=
  let up := fun (s : State) => s.boot.stage = .running ∨ s.boot.stage = .recovery ∨ s.boot.stage = .halted
  let usable := fun (s : State) => ∃ x ∈ s.nv.ownerSlots, x = 1
  -- the staging activity conflicts with itself and with an almanac write, and needs a slot (R503, R504)
  let slotFree := fun (s : State) => (∃ i, i < 16 ∧ s.fget (R.MNT_SLOT.busy i) = 0) ∧
    ∀ i, i < 16 → s.fget (R.MNT_SLOT.busy i) = 1 → s.fget (R.MNT_SLOT.activity i) ≠ 6 ∧
      (s.fget (R.MNT_SLOT.activity i) = 5 → s.fget (R.MNT_SLOT.domain i) ≠ 0)
  let staging := fun (t : State) (c : Nat) => t.boot.staging = some c ∧ t.out.head? = some (.mgmtResp 5 0 []) ∧
    ∃ i, i < 16 ∧ t.fget (R.MNT_SLOT.busy i) = 1 ∧ t.fget (R.MNT_SLOT.activity i) = 5 ∧ t.fget (R.MNT_SLOT.requester i) = 2
  -- R466 of an image's bytes
  let passes := fun (s : State) (b : List Byte) =>
    let len1 := leAt b 0x14 4
    let total := leAt b 0x18 4
    let k := leAt b 0x1C 1
    let key := s.nv.vendorKeys.getD k []
    leAt b 0 4 = 0x4E524946 ∧ leAt b 4 4 = 0xF40 ∧ len1 ≤ 0x800000 ∧ total ≤ 0x1800000 ∧ 256 + len1 ≤ total ∧ total ≤ b.length ∧
      k < 2 ∧ s.nv.vendorSlots / 4 ^ k % 4 = 1 ∧ sha384 key = s.nv.vendorDigests.getD k [] ∧
      ecdsaOk key (sha384 (b.take 0xA0)) ((b.drop 0xA0).take 96) = true ∧ s.nv.fwMin ≤ leAt b 0x0C 4 ∧
      sha384 ((b.drop 256).take len1) = (b.drop 0x40).take 48
  let answered := fun (s : State) (p c : Nat) (bs : List Byte) => s.emit (.mgmtResp p c bs)
  (∀ (cmd : Bool → Instr) (signed : Bool) (s : State),
    (∃ i v, cmd = .revokeSlot i ∨ cmd = .raiseFwMin v ∨ cmd = .raiseImageMin v ∨ cmd = .packageReset ∨ cmd = .twilightEnter) →
    (¬ up s ∨ signed = false ∨ ¬ usable s) → exec (cmd signed) s = .next (answered s 63 1 [])) ∧
  (∀ (i : Nat) (key : List Byte) (signed i3c complete : Bool) (s : State), s.nv.ownerSlots.length = 4 → s.nv.ownerKeys.length = 4 →
    s.nv.ownerDigests.length = 4 →
    let takes := up s ∧ i < 4 ∧ s.nv.ownerSlots[i]? = some 0 ∧ (usable s → signed = true) ∧ (¬ usable s → i3c = true)
    (¬ takes → exec (.programSlot i key signed i3c complete) s = .next (answered s 63 1 [])) ∧
    (takes → complete = true → ∃ t, exec (.programSlot i key signed i3c complete) s = .next t ∧ t.nv = { s.nv with
        ownerSlots := s.nv.ownerSlots.set i 1, ownerKeys := s.nv.ownerKeys.set i key, ownerDigests := s.nv.ownerDigests.set i (sha384 key) } ∧
      t.out = .mgmtResp 63 0 [] :: s.out ∧ t.mem = s.mem ∧ t.boot = s.boot) ∧
    (takes → complete = false → s.reports.length < 64 → ∃ t r, exec (.programSlot i key signed i3c complete) s = .next t ∧
      t.nv = { s.nv with ownerSlots := s.nv.ownerSlots.set i 3 } ∧ t.reports = s.reports ++ [r] ∧ r.cls = 2 ∧ t.mem = s.mem)) ∧
  (∀ (i : Nat) (s : State), up s → usable s → s.nv.ownerSlots.length = 4 → i < 4 → s.nv.ownerSlots[i]? = some 1 →
    ((∃ j, j ≠ i ∧ s.nv.ownerSlots[j]? = some 1) → ∃ t, exec (.revokeSlot i true) s = .next t ∧
      t.nv = { s.nv with ownerSlots := s.nv.ownerSlots.set i 2 } ∧ t.mem = s.mem) ∧
    ((¬ ∃ j, j ≠ i ∧ s.nv.ownerSlots[j]? = some 1) → exec (.revokeSlot i true) s = .next (answered s 63 1 []))) ∧
  (∀ (v : Nat) (s : State), up s → usable s →
    (s.nv.fwMin ≤ v → v < 2 ^ 32 → ∃ t, exec (.raiseFwMin v true) s = .next t ∧ t.nv = { s.nv with fwMin := v } ∧ t.fget R.GLB_SEC.fw_min = v ∧ t.mem = s.mem) ∧
    (v < s.nv.fwMin → exec (.raiseFwMin v true) s = .next (answered s 63 1 [])) ∧
    (s.nv.imageMin ≤ v → v < 2 ^ 32 → ∃ t, exec (.raiseImageMin v true) s = .next t ∧ t.nv = { s.nv with imageMin := v } ∧
      t.fget R.GLB_SEC.image_min = v ∧ t.mem = s.mem) ∧
    (v < s.nv.imageMin → exec (.raiseImageMin v true) s = .next (answered s 63 1 []))) ∧
  (∀ s : State, up s → usable s →
    (∃ t, exec (.packageReset true) s = .next t ∧ t.fget R.GLB_BOOT.reset_cause = 3 ∧ t.boot.stage = .inReset ∧ t.nv = s.nv ∧ t.ops = []) ∧
    exec (.twilightEnter true) s = .next (answered { s with twilightArm := true } 63 0 [])) ∧
  (∀ (c : Nat) (s : State),
    ((2 ≤ c ∨ s.boot.stage ≠ .running ∧ (s.boot.stage ≠ .recovery ∨ c ≠ 0) ∨ s.boot.staging.isSome = true) →
      exec (.pldmFwUpdate c) s = .next (answered s 5 1 [])) ∧
    (c < 2 → (s.boot.stage = .running ∨ s.boot.stage = .recovery ∧ c = 0) → s.boot.staging = none → ¬ slotFree s → s.reports.length < 64 →
      ∃ t r, exec (.pldmFwUpdate c) s = .next t ∧ t.out = .mgmtResp 5 0x40 [] :: s.out ∧ t.boot = s.boot ∧ t.nv = s.nv ∧ t.regs = s.regs ∧
        t.reports = s.reports ++ [r] ∧ r.source = 0xB001 ∧ r.cls = 0) ∧
    (c = 0 → (s.boot.stage = .running ∨ s.boot.stage = .recovery) → s.boot.staging = none → slotFree s → s.winRecord.2.seq < 2 ^ 64 - 1 →
      let into := if s.boot.stage = .recovery then 0 else 1 - s.boot.copy % 2
      ∃ t, exec (.pldmFwUpdate c) s = .next t ∧ staging t 0 ∧ t.winRecord.2.pending = 255 ∧ t.winRecord.2.active = s.winRecord.2.active ∧
        t.fget R.GLB_FW.pending = 3 ∧ t.fwBytes into = [] ∧ t.fwBytes (1 - into) = s.fwBytes (1 - into) ∧ t.nv.togusA = s.nv.togusA ∧
        t.nv.togusB = s.nv.togusB ∧ t.mem = s.mem) ∧
    (c = 1 → s.boot.stage = .running → s.boot.staging = none → slotFree s →
      ∃ t, exec (.pldmFwUpdate c) s = .next t ∧ staging t 1 ∧
        t.nv = (if s.fget R.PRT_BOOT.loaded = 0 then { s.nv with togusB := [] } else { s.nv with togusA := [] }) ∧ t.mem = s.mem)) ∧
  (∀ (image : List Byte) (s : State), s.boot.staging = some 0 → s.winRecord.2.seq < 2 ^ 64 - 1 →
    (s.boot.stage = .running → s.boot.copy < 2 →
      let ok := passes s image ∧ leAt image 0x11 1 ≤ leAt (s.fwBytes s.boot.copy) 0x10 1 ∧ (s.fget R.PRT_BOOT.loaded = 3 ∨ leAt image 0x12 2 ≤ 2)
      ∃ t, exec (.fwStagingDone image) s = .next t ∧ t.boot = { s.boot with staging := none } ∧
        t.fwBytes s.boot.copy = s.fwBytes s.boot.copy ∧ t.fwBytes (1 - s.boot.copy) = image ∧
        (ok → t.winRecord.2.pending = 1 - s.boot.copy ∧ t.winRecord.2.trials = 0 ∧ t.winRecord.2.active = s.winRecord.2.active ∧
          t.fget R.GLB_FW.pending = 1 - s.boot.copy ∧ t.out.head? = some (.mgmtResp 5 0 [])) ∧
        (¬ ok → t.nv.rec0 = s.nv.rec0 ∧ t.nv.rec1 = s.nv.rec1 ∧ t.out.head? = some (.mgmtResp 5 1 [])) ∧ t.mem = s.mem) ∧
    (s.boot.stage = .recovery →
      (passes s image → ∃ t, exec (.fwStagingDone image) s = .next t ∧ t.nv.fwA = image ∧ t.winRecord.2.active = 0 ∧
        t.winRecord.2.pending = 255 ∧ t.boot.stage = .inReset ∧ t.fget R.GLB_BOOT.reset_cause = 3 ∧ t.nv.fwB = s.nv.fwB) ∧
      (¬ passes s image → ∃ t, exec (.fwStagingDone image) s = .next t ∧ t.nv = { s.nv with fwA := image } ∧ t.boot = { s.boot with staging := none } ∧
        t.out.head? = some (.mgmtResp 5 1 [])))) ∧
  (∀ (image : List Byte) (s : State),
    (s.boot.staging = some 1 → image.length ≤ 256 * 1024 →
      ∃ t, exec (.fwStagingDone image) s = .next t ∧ t.boot = { s.boot with staging := none } ∧ t.out.head? = some (.mgmtResp 5 0 []) ∧
        t.nv = (if s.fget R.PRT_BOOT.loaded = 0 then { s.nv with togusB := image } else { s.nv with togusA := image })) ∧
    (s.boot.staging = some 1 → 256 * 1024 < image.length →
      ∃ t, exec (.fwStagingDone image) s = .next t ∧ t.boot = { s.boot with staging := none } ∧ t.nv = s.nv ∧ t.out.head? = some (.mgmtResp 5 1 [])) ∧
    (s.boot.staging = none → exec (.fwStagingDone image) s = .next s)) ∧
  (∀ (n : Nat) (s : State), up s →
    (8 ≤ n → n < 255 → exec (.mctpControl 0x01 n) s = .next (answered { s with boot := { s.boot with eid := n } } 0 0 (leBytes 1 n))) ∧
    ((n < 8 ∨ 255 ≤ n) → exec (.mctpControl 0x01 n) s = .next (answered s 0 2 [])) ∧
    exec (.mctpControl 0x02 n) s = .next (answered s 0 0 (leBytes 1 s.boot.eid)) ∧
    exec (.mctpControl 0x05 n) s = .next (answered s 0 0 [2, 1, 5]) ∧
    (∀ c, c ∉ [0x01, 0x02, 0x05, 0x0B, 0x0C] → exec (.mctpControl c n) s = .next (answered s 0 5 [])) ∧
    (let b := s.fwBytes s.boot.copy
     exec (.spdmRequest 0xE0) s = .next (answered s 1 0 ((b.drop 0x40).take 48 ++ (b.drop 0x70).take 48 ++ leBytes 4 (leAt b 8 4) ++
       (List.range 6).flatMap (fun k => leBytes 8 (s.reg (A.GLB_HASH k)).toNat)))) ∧
    (∀ c, c ∈ [0x81, 0x82, 0x84, 0xE1, 0xE3, 0xE4, 0xE5, 0xE9, 0xEC] → exec (.spdmRequest c) s = .next (answered s 1 0 [])) ∧
    (∀ c, c ∉ [0x81, 0x82, 0x84, 0xE0, 0xE1, 0xE3, 0xE4, 0xE5, 0xE9, 0xEC] → exec (.spdmRequest c) s = .next (answered s 1 0x7F [])) ∧
    (s.boot.stage = .halted → exec (.pldmGetSensor n) s = .next (answered s 2 0 (leBytes 1 (s.fget R.GLB_BOOT.halt_die) ++ leBytes 1 (s.fget R.GLB_BOOT.halt_code)))) ∧
    (s.boot.stage ≠ .halted → n < 64 →
      exec (.pldmGetSensor n) s = .next (answered s 2 0 (leBytes 2 (s.fget (R.NWT_SENSOR.filtered n)) ++ leBytes 2 (s.fget (R.NWT_SENSOR.raw n))))) ∧
    (s.boot.stage ≠ .halted → 64 ≤ n → exec (.pldmGetSensor n) s = .next (answered s 2 0x80 []))) ∧
  (∀ (c n : Nat) (s : State), ¬ up s → exec (.mctpControl c n) s = .next s ∧ exec (.spdmRequest c) s = .next s ∧ exec (.pldmGetSensor n) s = .next s)

/-- The commands of almanacs, each in every outcome: ALM_ARM and ALM_CANCEL (R507), QUIESCE_DONE and QUIESCE_TIMEOUT (R509),
the write order of R518 with what each step puts on the drives, the buddy's side (R517, R518, R522), ALM_RESTORE and
RESTORE_DONE (R522 to R524). The places of the state shard's header fields are the model's (log 25). -/
def Obligations.Almanacs : Prop :=
  let st := fun (s : State) => s.fget R.ALM_STATUS.state
  let failed := fun (s t : State) (code : Nat) => t.fget R.ALM_STATUS.err = 1 ∧ t.fget R.ALM_STATUS.code = code ∧ t.alm.ptrs = s.alm.ptrs ∧ t.mem = s.mem
  let ended := fun (s t : State) (code : Nat) => failed s t code ∧ st t = 0 ∧ t.alm.manifests = s.alm.manifests ∧ t.alm.shards = s.alm.shards
  let may := fun (fn : Fn) => fn = .pf 0 ∨ fn = .pf 1 ∨ fn = .mgmt
  let holdsSlot := fun (t : State) => ∃ i, i < 16 ∧ t.fget (R.MNT_SLOT.busy i) = 1 ∧ t.fget (R.MNT_SLOT.activity i) = 6
  (∀ (cmd : Fn → Instr) (fn : Fn) (s : State), (∃ a b c d e f, cmd = (.almArm · a b) ∨ cmd = .almCancel ∨ cmd = (.almRestore · c d e f)) →
    ¬ may fn → s.reports.length < 64 → ∃ t r, exec (cmd fn) s = .next t ∧ t.regs = s.regs ∧ t.alm = s.alm ∧ t.mem = s.mem ∧ t.reports = s.reports ++ [r] ∧
      r.code = 0x0A04) ∧
  (∀ (fn : Fn) (drives : Bool) (s : State), may fn →
    let cut := s.fget R.ALM_CUT_AT.at_transit
    let mask := s.fget R.ALM_PLAN.part_mask
    let refused := fun (code : Nat) => ∃ t, exec (.almArm fn false drives) s = .next t ∧ failed s t code ∧ st t = st s ∧ t.alm = s.alm
    let granted := (s.mntDecide 6 0 true).1 = 0
    let fields := s.almEntries.all (s.entryOk mask) = true
    let found := drives = true ∧ s.almDrives ≠ 0
    (st s ≠ 0 → refused 14) ∧
    (st s = 0 → cut ≤ s.fget R.TRN_NUMBER.transit + 1 → refused 1) ∧
    (st s = 0 → s.fget R.TRN_NUMBER.transit + 1 < cut →
      (¬ granted → refused 2) ∧ (granted → ¬ fields → refused 3) ∧ (granted → fields → ¬ found → refused 4) ∧
      (granted → fields → found → s.almFits mask = false → refused 5) ∧
      (granted → fields → found → s.almFits mask = true →
        ∃ t, exec (.almArm fn false drives) s = .next t ∧ st t = 1 ∧ t.alm = { s.alm with cut := cut } ∧ t.mem = s.mem ∧ holdsSlot t)) ∧
    (∀ cmd ∈ [Instr.almCancel fn, .almArm fn true drives],
      (st s = 1 → ∃ t, exec cmd s = .next t ∧ st t = 0 ∧ t.alm.ptrs = s.alm.ptrs ∧ t.alm.shards = s.alm.shards ∧ t.alm.manifests = s.alm.manifests ∧
        t.mem = s.mem ∧ ∀ i, s.mntSlotOf 6 = some i → t.fget (R.MNT_SLOT.busy i) = 0) ∧
      (st s = 2 ∨ st s = 3 → exec cmd s = .next { s with alm := { s.alm with cancelAsked := true } }) ∧
      (st s = 0 ∨ 3 < st s → exec cmd s = .next s))) ∧
  (∀ s : State,
    (st s = 2 → s.quiet = true → s.alm.cancelAsked = false → s.alm.manifests.length = 4 → ∃ t, exec .quiesceDone s = .next t ∧ st t = 3 ∧ t.alm.step = 1 ∧
      t.alm.localWait = true ∧ (t.alm.mirrorOk = true ↔ s.fget R.ALM_BUDDY.mirror_en = 1) ∧ t.alm.buddyWait = t.alm.mirrorOk ∧
      t.alm.ptrs = s.alm.ptrs ∧ t.alm.shards = s.alm.shards ∧ t.alm.todo = 0 :: s.almEntries ∧ t.alm.target < 2 ∧
      t.alm.manifests = s.alm.manifests.set t.alm.target [] ∧ (∀ n, n < 2 → s.almSlot 0 = some n → t.alm.target = 1 - n) ∧
      .nvme (s.slotBlock t.alm.target 0).1 (s.slotBlock t.alm.target 0).2 (List.replicate 4096 0) ∈ t.out ∧ .nvmeFlush ∈ t.out ∧
      (t.alm.mirrorOk = true → .vc7 (s.fget R.ALM_BUDDY.buddy_ldn) 0 [t.alm.target, 256, 0] [] ∈ t.out) ∧ t.mem = s.mem) ∧
    (st s = 2 → s.quiet = true → s.alm.cancelAsked = true → ∃ t, exec .quiesceDone s = .next t ∧ ended s t 9) ∧
    ((st s ≠ 2 ∨ s.quiet = false) → exec .quiesceDone s = .next s) ∧
    (st s = 2 → ∃ t, exec .quiesceTimeout s = .next t ∧ ended s t 6) ∧
    (st s ≠ 2 → exec .quiesceTimeout s = .next s)) ∧
  (∀ s : State, (st s = 3 ∨ st s = 4 ∨ st s = 5) → s.alm.localWait = true →
    (∃ t, exec (.almanacIoDone false false) s = .next t ∧ ended s t 4) ∧
    (s.alm.buddyWait = true → ∃ t, exec (.almanacIoDone false true) s = .next t ∧ t.alm = { s.alm with localWait := false } ∧ t.mem = s.mem)) ∧
  -- the last wait of a step ends: the drives', or the buddy's, which serves the mirror still or does not
  (∀ (cmd : Instr) (mirror : Bool) (s : State), (st s = 3 ∨ st s = 4 ∨ st s = 5) → s.alm.target < 2 →
    (cmd = .almanacIoDone false true ∧ s.alm.localWait = true ∧ s.alm.buddyWait = false ∧ mirror = s.alm.mirrorOk ∨
      cmd = .almanacIoDone true mirror ∧ s.alm.localWait = false ∧ s.alm.buddyWait = true ∧ s.alm.mirrorOk = true) →
    s.alm.manifests.length = 4 → s.alm.ptrs.length = 4 →
    let stored := fun (i : Nat) => if i = 0 then s.alm.stateShard else s.paBytes (s.fget (R.ALM_SHARD_BASE.base i)) (s.fget (R.ALM_SHARD_LEN.length i))
    let size := fun (i : Nat) => if i = 0 then s.alm.stateShard.length else s.fget (R.ALM_SHARD_LEN.length i)
    let wrote := fun (t : State) (i : Nat) =>
      let b := shardOnDrive i s.alm.cut (stored i)
      let place := s.slotBlock s.alm.target (s.shardBlock i)
      t.alm.step = 2 ∧ (s.alm.target, i, b) ∈ t.alm.shards ∧ .nvme place.1 place.2 b ∈ t.out ∧ t.alm.localWait = true ∧ t.alm.buddyWait = false ∧
        (∀ e ∈ s.alm.shards, (e.1, e.2.1) ≠ (s.alm.target, i) → e ∈ t.alm.shards)
    let ok := fun (t : State) => exec cmd s = .next t ∧ t.mem = s.mem
    (s.alm.cancelAsked = true → (s.alm.step = 1 ∨ s.alm.step = 2) → ∃ t, ok t ∧ ended s t 9) ∧
    (∀ i rest, s.alm.cancelAsked = false → s.alm.step = 1 → s.alm.todo = i :: rest → ∃ t, ok t ∧ wrote t i ∧ t.alm.todo = s.alm.todo ∧ t.alm.ptrs = s.alm.ptrs ∧
      (rest = [] → t.alm.readDone = true)) ∧
    (∀ i j rest, s.alm.cancelAsked = false → s.alm.step = 2 → s.alm.todo = i :: j :: rest → ∃ t, ok t ∧ wrote t j ∧ t.alm.todo = j :: rest ∧
      t.alm.ptrs = s.alm.ptrs ∧ (rest = [] → t.alm.readDone = true)) ∧
    (∀ i, s.alm.cancelAsked = false → s.alm.step = 2 → s.alm.todo = [i] → ∃ t, ok t ∧ t.alm.step = 3 ∧ t.alm.shards = s.alm.shards ∧
      t.alm.ptrs = s.alm.ptrs ∧ .nvmeFlush ∈ t.out ∧ t.alm.buddyWait = mirror) ∧
    (s.alm.step = 3 → ∃ t, ok t ∧ st t = 4 ∧ t.alm.step = 4 ∧ t.alm.ptrs = s.alm.ptrs ∧ t.alm.manifests = s.alm.manifests ∧
      (let m := t.alm.manifest
       let n := 0x500 + 96 * (s.almEntries.length + 1)
       let place := s.slotBlock s.alm.target 0
       leAt m 0 4 = 0x434E4C41 ∧ leAt m 4 2 = 1 ∧ leAt m 6 1 = s.alm.target ∧ leAt m 7 1 = mirror.toNat ∧ leAt m 8 8 = s.alm.cut % 2 ^ 64 ∧
         (m.drop 0x10).take 48 = s.structHash ∧ leAt m 0x40 4 = s.fget R.GLB_FW.version ∧ leAt m 0x48 8 = (s.reg A.SCP_SN).toNat ∧
         leAt m 0x50 2 = s.alm.parts % 2 ^ 16 ∧ leAt m 0x52 2 = s.almEntries.length + 1 ∧ m.length = n + 144 ∧ (m.drop n).take 48 = sha384 (m.take n) ∧
         (∀ k id, (0 :: s.almEntries)[k]? = some id →
           let o := 0x500 + 96 * k
           leAt m o 2 = id ∧ leAt m (o + 16) 8 = size id % 2 ^ 64 ∧ leAt m (o + 24) 8 = 4096 * s.shardBlock id % 2 ^ 64 ∧
             ∀ b, s.alm.shards.find? (fun e => e.1 == s.alm.target && e.2.1 == id) = some (s.alm.target, id, b) →
               (m.drop (o + 32)).take 48 = sha384 (b.take (size id))) ∧
         .nvme place.1 place.2 m ∈ t.out)) ∧
    (s.alm.step = 4 → ∃ t x d lba, ok t ∧ st t = 5 ∧ t.alm.step = 5 ∧ t.alm.manifests = s.alm.manifests.set s.alm.target s.alm.manifest ∧
      t.alm.ptrs = s.alm.ptrs ∧ t.out = .nvmeFlush :: .nvme d lba (pointerBlock x s.alm.target s.alm.cut) :: s.out ∧
      (∀ w, s.almPtr 0 = some w → x = (w.2.2.1 + 1) % 2 ^ 64 ∧ (d, lba) = s.ptrBlock 0 (1 - w.1)) ∧
      (s.almPtr 0 = none → x = 1 ∧ (d, lba) = s.ptrBlock 0 0)) ∧
    (s.alm.step = 5 → (∀ x ∈ s.alm.ptrs, x.2.1 < 2 ^ 64 - 1) → ∃ t w, ok t ∧ st t = 0 ∧ t.fget R.ALM_STATUS.done = 1 ∧ t.almPtr 0 = some w ∧
      w.2.2.2 = (s.alm.target, s.alm.cut) ∧ t.fget R.ALM_LAST.transit = s.alm.cut % 2 ^ 64 ∧
      t.fget R.ALM_STATUS.mirror_ok = (if leAt s.alm.manifest 7 1 = 1 then 1 else 0) ∧ t.alm.ptrs.drop 2 = s.alm.ptrs.drop 2 ∧
      (∀ o, s.almPtr 0 = some o → t.alm.ptrs[o.1]? = s.alm.ptrs[o.1]?) ∧ t.alm.manifests = s.alm.manifests ∧ t.alm.shards = s.alm.shards ∧
      (mirror = true → .vc7 (s.fget R.ALM_BUDDY.buddy_ldn) 2 [s.alm.target, s.alm.cut] [] ∈ t.out))) ∧
  (∀ (served ok : Bool) (s : State),
    ((st s < 3 ∨ 5 < st s ∨ s.alm.localWait = false) → exec (.almanacIoDone false ok) s = .next s) ∧
    ((st s < 3 ∨ 5 < st s ∨ s.alm.mirrorOk = false) → exec (.almanacIoDone true ok) s = .next s) ∧
    ((st s = 3 ∨ st s = 4 ∨ st s = 5) → s.alm.mirrorOk = true → (s.alm.localWait = true ∨ s.alm.buddyWait = false) →
      exec (.almanacIoDone true served) s = .next { s with alm := { s.alm with mirrorOk := served, buddyWait := false } })) ∧
  (∀ (src slot shard off : Nat) (data : List Byte) (s : State), slot < 2 → shard ≤ 256 → s.alm.manifests.length = 4 →
    let held := s.alm.mirroring = true ∨ (s.mntSlotOf 6).isSome = true
    let old := if shard = 256 then s.alm.manifests.getD (2 + slot) []
      else ((s.alm.shards.find? (fun e => e.1 == 2 + slot && e.2.1 == shard)).map (fun e => e.2.2)).getD []
    exec (.mirrorMessage src slot shard off data false) s = .next (s.emit (.vc7 src 4 [slot, shard, off] [])) ∧
    (held ∨ (s.mntDecide 6 0 true).1 = 0 →
      ∃ t bs, exec (.mirrorMessage src slot shard off data true) s = .next t ∧ t.out.head? = some (.vc7 src 1 [slot, shard, off] []) ∧
        (bs.drop off).take data.length = data ∧ (∀ i, i < old.length → (i < off ∨ off + data.length ≤ i) → bs[i]? = old[i]?) ∧
        t.alm.ptrs = s.alm.ptrs ∧ t.mem = s.mem ∧ (held ∨ t.alm.mirroring = true ∧ holdsSlot t) ∧
        (shard = 256 → t.alm.manifests = s.alm.manifests.set (2 + slot) bs ∧ t.alm.shards = s.alm.shards) ∧
        (shard < 256 → (2 + slot, shard, bs) ∈ t.alm.shards ∧ t.alm.manifests = s.alm.manifests ∧
          ∀ e ∈ s.alm.shards, (e.1, e.2.1) ≠ (2 + slot, shard) → e ∈ t.alm.shards)) ∧
    (¬ held → (s.mntDecide 6 0 true).1 ≠ 0 →
      ∃ t, exec (.mirrorMessage src slot shard off data true) s = .next t ∧ t.out.head? = some (.vc7 src 5 [slot, shard, off] []) ∧ t.alm = s.alm ∧ t.mem = s.mem) ∧
    (s.alm.ptrs.length = 4 → (∀ x ∈ s.alm.ptrs, x.2.1 < 2 ^ 64 - 1) → ∀ n, ∃ t w, exec (.buddyCommit src n slot) s = .next t ∧ t.almPtr 1 = some w ∧
      w.2.2.2 = (slot, n) ∧ t.alm.ptrs.take 2 = s.alm.ptrs.take 2 ∧ (∀ o, s.almPtr 1 = some o → t.alm.ptrs[2 + o.1]? = s.alm.ptrs[2 + o.1]?) ∧
      t.alm.mirroring = false ∧ t.alm.manifests = s.alm.manifests ∧ t.alm.shards = s.alm.shards ∧ t.mem = s.mem)) ∧
  (∀ (src slot shard off n : Nat) (data : List Byte) (good : Bool) (s : State),
    ((2 ≤ slot ∨ 256 < shard) → exec (.mirrorMessage src slot shard off data good) s = .next s) ∧ (2 ≤ slot → exec (.buddyCommit src n slot) s = .next s)) ∧
  (∀ (src slot shard : Nat) (area : Bool) (s : State),
    ((s.mntDecide 6 0 true).1 = 0 →
      (∀ k, (slot < 2 ∧ k = slot ∨ 2 ≤ slot ∧ s.almSlot area.toNat = some k) →
        let place := (if area then 2 else 0) + k
        (shard = 256 → exec (.remoteSourceRead src area slot shard) s = .next (s.emit (.vc7 src 3 [k, shard] (s.alm.manifests.getD place [])))) ∧
        (∀ bs, shard ≠ 256 → s.alm.shards.find? (fun e => e.1 == place && e.2.1 == shard) = some (place, shard, bs) →
          exec (.remoteSourceRead src area slot shard) s = .next (s.emit (.vc7 src 3 [k, shard] bs))) ∧
        (shard ≠ 256 → s.alm.shards.find? (fun e => e.1 == place && e.2.1 == shard) = none →
          exec (.remoteSourceRead src area slot shard) s = .next (s.emit (.vc7 src 3 [k, shard] [])))) ∧
      (2 ≤ slot → s.almSlot area.toNat = none → exec (.remoteSourceRead src area slot shard) s = .next (s.emit (.vc7 src 3 [slot, shard] [])))) ∧
    ((s.mntDecide 6 0 true).1 ≠ 0 → ∃ t, exec (.remoteSourceRead src area slot shard) s = .next t ∧ t.out.head? = some (.vc7 src 5 [slot, shard] []) ∧
      t.alm = s.alm ∧ t.mem = s.mem)) ∧
  (∀ (fn : Fn) (manifest : List Byte) (signed before refused : Bool) (s : State), may fn →
    let run := exec (.almRestore fn manifest signed before refused) s
    let stops := fun (code : Nat) => ∃ t, run = .next t ∧ ended s t code
    let granted := (s.mntDecide 6 0 true).1 = 0
    let own := s.fget R.ALM_RST_SRC.ldn = 255
    let state := s.fget R.ALM_RST_SRC.state_restore = 1
    let slot := if s.fget R.ALM_RST_SRC.use_pointer = 1 then s.almSlot (s.fget R.ALM_RST_SRC.buddy_area) else some (s.fget R.ALM_RST_SRC.slot)
    let place := if own then slot.map (fun k => 2 * s.fget R.ALM_RST_SRC.buddy_area + k) else none
    let m := if own then (match place with | some k => s.alm.manifests.getD k [] | none => []) else manifest
    let version := leAt m 0x40 4 = s.fget R.GLB_FW.version ∨ before = true
    (st s ≠ 0 → ∃ t, run = .next t ∧ failed s t 14 ∧ st t = st s ∧ t.alm = s.alm) ∧
    (st s = 0 → ¬ granted → ∃ t, run = .next t ∧ failed s t 2 ∧ st t = 0 ∧ t.alm = s.alm) ∧
    (st s = 0 → granted →
      (¬ own → refused = true → stops 2) ∧
      ((own ∨ refused = false) →
        ((signed = false ∨ manifestSound m = false) → stops 11) ∧
        (signed = true → manifestSound m = true → ¬ version → stops 13) ∧
        (signed = true → manifestSound m = true → version →
          (entryAt m (if state then 0 else s.fget R.ALM_RST_SRC.shard) = none → stops 3) ∧
          (∀ o, entryAt m (if state then 0 else s.fget R.ALM_RST_SRC.shard) = some o →
            let fits := if state then (m.drop 0x10).take 48 = s.structHash else s.dstOk (s.fget R.ALM_RST_DST.dst) (leAt m (o + 16) 8) = true
            (¬ fits → stops (if state then 12 else 3)) ∧
            (fits → ∃ t, run = .next t ∧ st t = 6 ∧ t.mem = s.mem ∧ holdsSlot t ∧ t.alm = { s.alm with rst := some { own := place, manifest := m } })))))) ∧
  (∀ (data : List Byte) (r : Restore) (o : Nat) (s : State), s.alm.rst = some r →
    let state := s.fget R.ALM_RST_SRC.state_restore = 1
    let id := if state then 0 else s.fget R.ALM_RST_SRC.shard
    entryAt r.manifest id = some o →
    let dst := s.fget R.ALM_RST_DST.dst
    let raw : List Byte := match r.own with
      | some place => ((s.alm.shards.find? (fun e => e.1 == place && e.2.1 == id)).map (fun e => e.2.2)).getD []
      | none => data
    let len := leAt r.manifest (o + 16) 8
    let b := raw.take len
    let matches_ := b.length = len ∧ sha384 b = (r.manifest.drop (o + 32)).take 48
    let done := fun (t : State) => exec (.restoreDone data) s = .next t ∧ t.fget R.ALM_STATUS.done = 1 ∧ st t = 0
    (¬ matches_ → ∃ t, exec (.restoreDone data) s = .next t ∧ t.fget R.ALM_STATUS.err = 1 ∧ t.fget R.ALM_STATUS.code = 10 ∧ st t = 0 ∧
      t.alm.ptrs = s.alm.ptrs ∧ (state → t.mem = s.mem)) ∧
    (matches_ → ¬ state → llmBase 0 ≤ dst → dst + len ≤ llmBase 64 →
      ∃ t, done t ∧ t.paBytes dst len = b ∧ ∀ a, (a < dst ∨ dst + len ≤ a) → t.byte a = s.byte a) ∧
    (matches_ → state →
      let nc := leAt b 62 2
      let nv := leAt b 64 2
      let core := fun (i : Nat) => leAt b (128 + 32 * i) 2
      let tenant := fun (i : Nat) => leAt b (128 + 32 * nc + 16 * i) 2
      let o1 := 128 + 32 * nc + 16 * nv
      let blk := (b.drop o1).take 256
      let n := 4096 + 8 * sRows blk
      ∃ t, done t ∧ (leAt b 66 2 = 0 → t.mem = s.mem ∧ t.resumes = s.resumes) ∧
        (leAt b 66 2 = 1 → llmBase 0 ≤ sWork blk → sWork blk + n ≤ llmBase 64 → o1 + 256 + n ≤ b.length → ∀ p, s.partOfLlm ((sWork blk - llmBase 0) / 0x2000000) = some p →
          t.paBytes (sWork blk) n = (b.drop (o1 + 256)).take n ∧ t.resumes = s.resumes ++ [(p, blk, 0)]) ∧
        (∀ i, i < nc → core i < 512 → (∀ j, j < nc → core j = core i → j = i) →
          (t.reg (A.TC_NUM_SEED_LO (core i))).toNat = leAt b (136 + 32 * i) 8 ∧ (t.reg (A.TC_NUM_SEED_HI (core i))).toNat = leAt b (144 + 32 * i) 8 ∧
            (t.reg (A.TC_NUM_SR_CTR (core i))).toNat = leAt b (152 + 32 * i) 8) ∧
        (∀ i, i < nv → tenant i < 4096 → (∀ j, j < nv → tenant j = tenant i → j = i) →
          (t.reg (A.ALM_CURSOR (tenant i))).toNat = leAt b (136 + 32 * nc + 16 * i) 8))) ∧
  (∀ (data : List Byte) (s : State), s.alm.rst = none → exec (.restoreDone data) s = .next s)

/-- The commands of Night Watch, the Night state and Eclipse in every outcome: a sensor sweep's filters, rules, trip and thermal
limits (R529 to R534, R572), entering and leaving the Night state (R536 to R540), and an Eclipse from its trigger to its end
(R541 to R546). -/
def Obligations.NightWatchAndEclipse : Prop :=
  let pstate := fun (s : State) => s.fget R.NWT_STATUS.pstate
  let entry := fun (s : State) (off n : Nat) => leAt (s.sect 7) off n
  let rawOf := fun (l : List Int) (n : Nat) => (l.getD n 0 % 65536).toNat
  let valueOf := fun (n raw : Nat) => (if (n < 40 ∨ 47 ≤ n ∧ n ≤ 54) ∧ 2 ^ 15 ≤ raw then (raw : Int) - 2 ^ 16 else (raw : Int) : Int)
  let rule := fun (s : State) (r off n : Nat) => entry s (0x200 + 32 * r + off) n
  -- a sensor's filter after the sweep, and the value a rule reads, in units of 1/256
  let filtered := fun (s0 : State) (l : List Int) (n : Nat) =>
    let v := valueOf n (rawOf l n)
    let y := assocGet (fun _ => (0 : Int)) s0.nwt.filt n
    if s0.nwt.started then y + (256 * v - y) / 2 ^ entry s0 (8 * n + 1) 1 else 256 * v
  let value := fun (s0 : State) (l : List Int) (r : Nat) =>
    let n := rule s0 r 1 1
    if entry s0 (8 * n) 1 ≠ 1 then 0 else if rule s0 r 3 1 = 1 then 256 * valueOf n (rawOf l n) else filtered s0 l n
  let threshold := fun (s : State) (r : Nat) =>
    (if 2 ^ 15 ≤ rule s r 4 2 then (rule s r 4 2 : Int) - 2 ^ 16 else (rule s r 4 2 : Int) : Int)
  let back := fun (s0 : State) (l : List Int) (r : Nat) =>
    if rule s0 r 2 1 = 0 then value s0 l r ≤ 256 * (threshold s0 r - rule s0 r 6 2) else 256 * (threshold s0 r + rule s0 r 6 2) ≤ value s0 l r
  -- the rule becomes true in the sweep
  let fires := fun (s0 : State) (l : List Int) (r : Nat) =>
    rule s0 r 0 1 = 1 ∧ s0.fget R.NWT_STATUS.rules_true / 2 ^ r % 2 = 0 ∧ rule s0 r 8 2 ≤ assocGet (fun _ => 0) s0.nwt.hold r + 1 ∧
      (if rule s0 r 2 1 = 0 then 256 * threshold s0 r < value s0 l r else value s0 l r < 256 * threshold s0 r)
  (∀ (now : Nat) (l : List Int) (s : State), l.length = 64 →
    let s0 := s.advance now
    ∃ t, exec (.sensorSweep now l) s = .next t ∧
      (∀ n, n < 64 → entry s (8 * n) 1 = 1 →
        t.fget (R.NWT_SENSOR.raw n) = rawOf l n ∧ t.fget (R.NWT_SENSOR.filtered n) = ((filtered s0 l n / 256) % 65536).toNat ∧
          ((s0.nwt.started = false ∨ entry s (8 * n + 1) 1 = 0) → t.fget (R.NWT_SENSOR.filtered n) = rawOf l n)) ∧
      (∀ n, n < 64 → entry s (8 * n) 1 ≠ 1 → t.reg (A.NWT_SENSOR n) = 0) ∧
      (∀ r, r < 16 → rule s r 1 1 < 64 →
        let was := s0.fget R.NWT_STATUS.rules_true / 2 ^ r % 2
        let is := t.fget R.NWT_STATUS.rules_true / 2 ^ r % 2
        let hits := s0.fget (R.NWT_RULE_CNT.hits r)
        (rule s r 0 1 ≠ 1 → is = was ∧ t.fget (R.NWT_RULE_CNT.hits r) = hits) ∧
        (rule s r 0 1 = 1 → was = 0 →
          (fires s0 l r → is = 1 ∧ t.fget (R.NWT_RULE_CNT.hits r) = (hits + 1) % 2 ^ 32) ∧
          (¬ fires s0 l r → is = 0 ∧ t.fget (R.NWT_RULE_CNT.hits r) = hits)) ∧
        (rule s r 0 1 = 1 → was = 1 → (is = 0 ↔ back s0 l r) ∧ t.fget (R.NWT_RULE_CNT.hits r) = hits)) ∧
      (∀ r, r < 16 → rule s r 1 1 < 64 → fires s0 l r → rule s r 0x0A 1 / 4 % 2 = 1 → pstate t = 4 ∧
        (pstate s0 ≠ 4 → t.fget R.NWT_STATUS.tripped = 1 ∧ t.ops = [])) ∧
      (∀ r, r < 16 → rule s r 1 1 < 64 → fires s0 l r → rule s r 0x0A 1 % 2 = 1 → pstate s0 = 2 →
        (∀ q, q < 16 → rule s q 1 1 < 64 ∧ (fires s0 l q → rule s q 0x0A 1 / 4 % 2 = 0)) →
        (∀ d, d < 40 → valueOf d (rawOf l d) < 1680) → pstate t = 3 ∧ t.fget R.NWT_STATUS.last_wake = 5 ∧ t.nwt.night = false ∧ .pldm 5 5 ∈ t.out) ∧
      (∀ d, d < 40 → 1 ≤ assocGet (fun _ => 0) s0.nwt.hot d → 1680 ≤ valueOf d (rawOf l d) → pstate s0 ≠ 4 → s0.fatals.length < 8 →
        pstate t = 4 ∧ t.fget R.NWT_STATUS.tripped = 1 ∧ t.ops = [] ∧ ∃ r ∈ t.fatals, r.cls = 4) ∧
      (∀ d, d < 16 → 1600 < valueOf d (rawOf l d) → assocGet (fun _ => 100) t.nwt.limit d ≤ 50) ∧
      (∀ d, (d < 16 ∨ 24 ≤ d ∧ d < 28) → 1520 < valueOf d (rawOf l d) → assocGet (fun _ => 100) t.nwt.limit d ≤ 75) ∧
      (∀ d, valueOf d (rawOf l d) ≤ 1520 → assocGet (fun _ => 100) t.nwt.limit d = assocGet (fun _ => 100) s0.nwt.limit d)) ∧
  (∀ (now : Nat) (l : List Int) (s : State), l.length ≠ 64 → exec (.sensorSweep now l) s = .next (s.advance now)) ∧
  (∀ (d c : Nat) (s : State), assocGet (fun _ => (none : Option Nat)) s.nwt.coolSince d = some c → assocGet (fun _ => 100) s.nwt.limit d < 100 →
    c + 10000000 ≤ s.clock → s.reports.length < 64 → ∃ t r, exec (.throttleExit d) s = .next t ∧ assocGet (fun _ => 100) t.nwt.limit d = 100 ∧
      (∀ e, e ≠ d → assocGet (fun _ => 100) t.nwt.limit e = assocGet (fun _ => 100) s.nwt.limit e) ∧ t.reports = s.reports ++ [r] ∧ r.cls = 0 ∧ t.regs = s.regs) ∧
  (∀ (d : Nat) (s : State), (assocGet (fun _ => (none : Option Nat)) s.nwt.coolSince d = none ∨ 100 ≤ assocGet (fun _ => 100) s.nwt.limit d ∨
    ∃ c, assocGet (fun _ => (none : Option Nat)) s.nwt.coolSince d = some c ∧ s.clock < c + 10000000) → exec (.throttleExit d) s = .next s) ∧
  (∀ (fn : Fn) (en : Bool) (s : State), (fn = .pf 0 ∨ fn = .mgmt) →
    let active := fun (r : Nat) => s.fget (R.QRG_RING_CFG.enable r) = 1 ∧ s.fget (R.QRG_RING_CFG.stop r) = 0
    (pstate s = 0 → (∀ r, ¬ active r) → s.ops = [] → (∀ i, i < 16 → s.fget (R.MNT_SLOT.busy i) = 0) → s.ecl.phase = 0 →
      ∃ t, exec (.nightEnter fn en) s = .next t ∧ pstate t = 1 ∧ t.fget R.NWT_CTL.wake_at_en = en.toNat ∧
        t.nwt.wakeAtNs = (if en then some (s.clock + (s.fget R.TRN_NEXT.next_ns + (s.fget R.NWT_WAKE_AT.transit - (s.fget R.TRN_NUMBER.transit + 1)) *
          s.fget R.TRN_PERIOD.period_ns - s.fget R.TRN_TIME.time_ns) - 500000000) else none) ∧ t.nwt.wakeSource = 0 ∧
        t.fget R.NWT_STATUS.night_err = s.fget R.NWT_STATUS.night_err ∧ t.mem = s.mem) ∧
    ((pstate s ≠ 0 ∨ (∃ r, r < 262144 ∧ active r) ∨ s.ops ≠ [] ∨ (∃ i, i < 16 ∧ s.fget (R.MNT_SLOT.busy i) = 1) ∨ s.ecl.phase ≠ 0) →
      ∃ t, exec (.nightEnter fn en) s = .next t ∧ pstate t = pstate s ∧ t.fget R.NWT_STATUS.night_err = 1 ∧ t.ops = s.ops ∧ t.mem = s.mem)) ∧
  (∀ (fn : Fn) (en : Bool) (s : State), fn ≠ .pf 0 → fn ≠ .mgmt → s.reports.length < 64 →
    ∃ r : Report, r.code = 0x0A04 ∧ r.cls = 0 ∧ exec (.nightEnter fn en) s = .next { s with reports := s.reports ++ [r] }) ∧
  (∀ s : State, pstate s = 1 →
    ∃ t, exec .nightEntryDone s = .next t ∧ t.ops = [] ∧ t.fget R.SCP_ID.ldn = 255 ∧ t.fget R.RMM_STATUS.twilight = 1 ∧
      t.fget R.GLB_BOOT.milestones = s.fget R.GLB_BOOT.milestones % 32 ∧ .pldm 4 0 ∈ t.out ∧
      (∀ a, t.byte a = if padBase 0 ≤ a ∧ a < llmBase 64 then 0 else s.byte a) ∧ t.togus = s.togus ∧
      (∀ n, n < 64 → s.chanTrained n = true → (t.chan n).selfRefresh = true) ∧
      (s.nwt.wakeSource = 0 → pstate t = 2 ∧ t.nwt.night = true) ∧
      (s.nwt.wakeSource ≠ 0 → s.nwt.wakeSource < 16 → pstate t = 3 ∧ t.fget R.NWT_STATUS.last_wake = s.nwt.wakeSource)) ∧
  (∀ s : State, (pstate s ≠ 1 → exec .nightEntryDone s = .next s) ∧ (pstate s ≠ 3 → exec .wakeDone s = .next s)) ∧
  (∀ (cmd : Instr) (src now ns port : Nat) (s s0 : State),
    (cmd = .wakeN ns ∧ 1000 ≤ ns ∧ src = 1 ∧ s0 = s ∨ cmd = .hostMessageWake ∧ src = 2 ∧ s0 = s ∨ cmd = .lightWake port ∧ s.portWorks port = true ∧ src = 3 ∧ s0 = s ∨
      cmd = .scheduledWake now ∧ src = 4 ∧ s0 = s.advance now ∧ ∃ w, s0.nwt.wakeAtNs = some w ∧ w ≤ s0.clock) →
    (pstate s0 = 2 → ∃ t, exec cmd s = .next t ∧ pstate t = 3 ∧ t.fget R.NWT_STATUS.last_wake = src ∧ .pldm 5 src ∈ t.out ∧ t.nwt.night = false ∧ t.mem = s0.mem) ∧
    (pstate s0 = 1 → s0.nwt.wakeSource = 0 → ∃ t, exec cmd s = .next t ∧ pstate t = 1 ∧ t.nwt.wakeSource = src ∧ t.mem = s0.mem) ∧
    (pstate s0 = 4 → s0.shutdownHolds = true → ∃ t, exec cmd s = .next t ∧ pstate t = 4 ∧ t.mem = s0.mem) ∧
    (pstate s0 = 4 → s0.shutdownHolds = false → ∃ t, exec cmd s = .next t ∧ t.fget R.GLB_BOOT.reset_cause = 6 ∧ t.boot.stage = .inReset ∧ pstate t = 0) ∧
    (pstate s0 = 0 ∨ pstate s0 = 3 → ∃ t, exec cmd s = .next t ∧ pstate t = pstate s0 ∧ t.nwt = s0.nwt ∧ t.boot = s0.boot ∧ t.ops = s0.ops ∧ t.mem = s0.mem)) ∧
  (∀ (ns now port : Nat) (s : State), (ns < 1000 → exec (.wakeN ns) s = .next s) ∧ (s.portWorks port = false → exec (.lightWake port) s = .next s) ∧
    ((∀ w, (s.advance now).nwt.wakeAtNs = some w → (s.advance now).clock < w) → exec (.scheduledWake now) s = .next (s.advance now))) ∧
  (∀ s : State, pstate s = 3 → ∃ t, exec .wakeDone s = .next t ∧ pstate t = 0 ∧ t.mem = s.mem ∧
    (∀ n, n < 64 → s.chanTrained n = true → (t.chan n).selfRefresh = false ∧ t.fget (R.GDM_CH_STATUS.state n) = 2) ∧
    (s.milestone 3 = true → s.milestone 4 = true → s.fget R.PRT_BOOT.loaded ≠ 3 →
      (∀ n, n < 64 → 2 ≤ s.fget (R.GDM_CH_STATUS.state n) ∨ n ∈ s.nv.fusedChannels ∨ s.dieOut (16 + n / 8) = true) → t.milestone 5 = true ∧ t.milestone 7 = true)) ∧
  (∀ (cmd : Instr) (code ns : Nat) (fn : Fn) (fast : Bool) (s : State),
    (cmd = .eclipseN ns ∧ 100 ≤ ns ∧ code = 1 ∧ (fast = true ↔ s.fget R.ECL_CTL.pin_fast = 1) ∨
      cmd = .eclipseTrigger fn ∧ (fn = .pf 0 ∨ fn = .pf 3 ∨ fn = .mgmt) ∧ code = 2 ∧ (fast = true ↔ s.fget R.ECL_CTL.cmd_fast = 1)) →
    (s.ecl.phase = 0 → pstate s ≠ 2 → pstate s ≠ 4 → ∃ t, exec cmd s = .next t ∧ t.ecl.phase = (if fast then 2 else 1) ∧ t.ecl.fast = fast ∧
      t.fget R.ECL_STATUS.valid = 1 ∧ t.fget R.ECL_STATUS.cause = code ∧ t.fget R.ECL_STATUS.causes = 2 ^ code ∧ t.fget R.ECL_STATUS.fast = fast.toNat ∧
      (∀ a, a < 2 ^ 48 → t.byte a = s.byte a) ∧ (fast = false → t.mem = s.mem) ∧
      (fast = true → t.fget R.ECL_TIME.time_ns = s.fget R.TRN_TIME.time_ns ∧ t.fget R.ECL_SR_MASK.sr_mask = 0 ∧
        ∀ ch loc, ch < 64 → loc < 2 ^ 36 → t.byte (gddrKey ch loc) = 0)) ∧
    (s.ecl.phase = 1 → fast = true → ∃ t, exec cmd s = .next t ∧ t.ecl.phase = 2 ∧ t.ecl.fast = true ∧ t.fget R.ECL_STATUS.fast = 1 ∧
      t.fget R.ECL_STATUS.cause = s.fget R.ECL_STATUS.cause ∧ t.fget R.ECL_STATUS.causes / 2 ^ code % 2 = 1 ∧
      (∀ n, n < 64 → s.chanTrained n = false → t.fget R.ECL_SR_MASK.sr_mask / 2 ^ n % 2 = 0) ∧
      ∀ ch loc, ch < 64 → loc < 2 ^ 36 → t.byte (gddrKey ch loc) = if t.fget R.ECL_SR_MASK.sr_mask / 2 ^ ch % 2 = 1 then s.byte (gddrKey ch loc) else 0) ∧
    (s.ecl.phase = 1 ∧ fast = false ∨ 2 ≤ s.ecl.phase ∨ s.ecl.phase = 0 ∧ (pstate s = 2 ∨ pstate s = 4) →
      ∃ t, exec cmd s = .next t ∧ t.ecl = s.ecl ∧ t.mem = s.mem ∧ t.fget R.ECL_CNT.ignored = Nat.min (s.fget R.ECL_CNT.ignored + 1) (2 ^ 16 - 1))) ∧
  (∀ (ns : Nat) (fn : Fn) (s : State), (ns < 100 → exec (.eclipseN ns) s = .next s) ∧
    (fn ∉ [.pf 0, .pf 3, .mgmt] → s.reports.length < 64 →
      ∃ r : Report, r.code = 0x0A04 ∧ r.cls = 0 ∧ exec (.eclipseTrigger fn) s = .next { s with reports := s.reports ++ [r] })) ∧
  (∀ (ok : Bool) (s : State), (s.ecl.phase ≠ 1 → exec .selfRefreshDone s = .next s) ∧ (s.ecl.phase ≠ 2 → exec (.readoutDone ok) s = .next s)) ∧
  (∀ s : State, s.ecl.phase = 1 → ∃ t, exec .selfRefreshDone s = .next t ∧ t.ecl.phase = 2 ∧ t.fget R.ECL_TIME.time_ns = s.fget R.TRN_TIME.time_ns ∧
    (∀ ch, ch < 64 → t.fget R.ECL_SR_MASK.sr_mask / 2 ^ ch % 2 = (s.chanTrained ch).toNat) ∧
    (∀ ch loc, ch < 64 → loc < 2 ^ 36 → t.byte (gddrKey ch loc) = if s.chanTrained ch then s.byte (gddrKey ch loc) else 0)) ∧
  (∀ (ok : Bool) (s : State), s.ecl.phase = 2 →
    (s.ecl.fast = true ∨ s.fget R.ECL_CTL.resume = 0 → ∃ t, exec (.readoutDone ok) s = .next t ∧ t.fget R.GLB_BOOT.reset_cause = 7 ∧ t.boot.stage = .inReset ∧
      t.ecl.phase = 0 ∧ (if ok then t.fget R.ECL_STATUS.dump_ok else t.fget R.ECL_STATUS.dump_err) = 1) ∧
    (s.ecl.fast = false → s.fget R.ECL_CTL.resume = 1 → ∃ t, exec (.readoutDone ok) s = .next t ∧ t.ecl.phase = 0 ∧ t.boot = s.boot ∧ t.mem = s.mem ∧ t.ops = s.ops ∧
      t.fget R.TRN_STATUS.synced = 0 ∧ (if ok then t.fget R.ECL_STATUS.dump_ok else t.fget R.ECL_STATUS.dump_err) = 1 ∧
      (∀ n, n < 64 → s.chanTrained n = true → t.fget (R.GDM_CH_STATUS.state n) = 3 ∧ (t.chan n).selfRefresh = false) ∧
      (∀ n, n < 64 → s.fget (R.SCP_PORT_CTL.enable n) = 1 → s.fget (R.SCP_PORT_STATUS.state n) ≠ 13 → t.fget (R.SCP_PORT_STATUS.state n) = 2)))
end

