-- ==== Sys2Proof/Laws/Assoc.lean ====
section
/-! SUPPORT. Sparse data: a read after a write, and the canonical form of registers and memory. -/
namespace Sys2Proof.Machine

theorem assocGet_insert_same {α : Type} (d : Nat → α) (m : Assoc α) (k : Nat) (v : α) :
    assocGet d (assocInsert m k v) k = v := by
  induction m with
  | nil => simp [assocInsert, assocGet]
  | cons e r ih =>
    obtain ⟨k', v'⟩ := e
    unfold assocInsert
    split
    · simp [assocGet]
    · split
      · simp [assocGet]
      · next h => simp [assocGet, ih, Ne.symm h]

theorem assocGet_insert_other {α : Type} (d : Nat → α) (m : Assoc α) (k j : Nat) (v : α) (h : k ≠ j) :
    assocGet d (assocInsert m k v) j = assocGet d m j := by
  induction m with
  | nil => simp [assocInsert, assocGet, h]
  | cons e r ih =>
    obtain ⟨k', v'⟩ := e
    unfold assocInsert
    split
    · simp [assocGet, h]
    · split
      · next h2 => subst h2; simp [assocGet, h]
      · simp [assocGet, ih]

theorem assocGet_erase_same {α : Type} (d : Nat → α) (m : Assoc α) (k : Nat) : assocGet d (assocErase m k) k = d k := by
  unfold assocErase
  induction m with
  | nil => simp [assocGet]
  | cons e r ih =>
    by_cases h : e.1 = k
    · simp [h, ih]
    · simp [h, assocGet, ih]

theorem assocGet_erase_other {α : Type} (d : Nat → α) (m : Assoc α) (k j : Nat) (h : k ≠ j) :
    assocGet d (assocErase m k) j = assocGet d m j := by
  unfold assocErase
  induction m with
  | nil => simp
  | cons e r ih =>
    by_cases h1 : e.1 = k
    · subst h1; simp [assocGet, ih, h]
    · simp [h1, assocGet, ih]

/-- A read after a write of the same key gives what was written. -/
@[simp] theorem assocGet_set_same {α : Type} [DecidableEq α] (d : Nat → α) (m : Assoc α) (k : Nat) (v : α) :
    assocGet d (assocSet d m k v) k = v := by
  unfold assocSet; split
  · next h => rw [h, assocGet_erase_same]
  · exact assocGet_insert_same d m k v

/-- A write leaves every other key alone. -/
theorem assocGet_set_other {α : Type} [DecidableEq α] (d : Nat → α) (m : Assoc α) (k j : Nat) (v : α) (h : k ≠ j) :
    assocGet d (assocSet d m k v) j = assocGet d m j := by
  unfold assocSet; split
  · exact assocGet_erase_other d m k j h
  · exact assocGet_insert_other d m k j v h

/-! The canonical form. -/

/-- A canonical list from `lo` on is one from any lower bound. -/
theorem assocWfFrom_mono {α : Type} [DecidableEq α] (d : Nat → α) (m : Assoc α) (lo lo' : Nat) (h : lo ≤ lo')
    (w : assocWfFrom d (some lo') m = true) : assocWfFrom d (some lo) m = true := by
  cases m with
  | nil => rfl
  | cons e r =>
    obtain ⟨k, v⟩ := e
    simp only [assocWfFrom, above, Bool.and_eq_true, decide_eq_true_eq] at w ⊢
    exact ⟨⟨by omega, w.1.2⟩, w.2⟩

theorem assocWfFrom_none {α : Type} [DecidableEq α] (d : Nat → α) (m : Assoc α) (lo : Nat)
    (w : assocWfFrom d (some lo) m = true) : assocWfFrom d none m = true := by
  cases m with
  | nil => rfl
  | cons e r =>
    obtain ⟨k, v⟩ := e
    simp only [assocWfFrom, above, Bool.and_eq_true, decide_eq_true_eq, Bool.true_and] at w ⊢
    exact ⟨w.1.2, w.2⟩

theorem assocWfFrom_filter {α : Type} [DecidableEq α] (d : Nat → α) (p : Nat × α → Bool) (m : Assoc α) :
    ∀ lo : Option Nat, assocWfFrom d lo m = true → assocWfFrom d lo (m.filter p) = true := by
  induction m with
  | nil => intro lo _; rfl
  | cons e r ih =>
    intro lo w
    obtain ⟨k, v⟩ := e
    simp only [assocWfFrom, Bool.and_eq_true, decide_eq_true_eq] at w
    have hr := ih (some k) w.2
    by_cases hp : p (k, v)
    · simp only [List.filter_cons_of_pos hp, assocWfFrom, Bool.and_eq_true, decide_eq_true_eq]
      exact ⟨w.1, hr⟩
    · simp only [List.filter_cons_of_neg hp]
      cases lo with
      | none => exact assocWfFrom_none d _ k hr
      | some l =>
        have hl : l < k := by simpa [above] using w.1.1
        exact assocWfFrom_mono d _ l k (by omega) hr

theorem assocWfFrom_insert {α : Type} [DecidableEq α] (d : Nat → α) (k : Nat) (v : α) (hv : v ≠ d k) (m : Assoc α) :
    ∀ lo : Option Nat, (∀ l, lo = some l → l < k) → assocWfFrom d lo m = true →
      assocWfFrom d lo (assocInsert m k v) = true := by
  induction m with
  | nil =>
    intro lo hlo _
    simp only [assocInsert, assocWfFrom, Bool.and_eq_true, decide_eq_true_eq, and_true]
    refine ⟨?_, hv⟩
    cases lo with
    | none => rfl
    | some l => simpa [above] using hlo l rfl
  | cons e r ih =>
    intro lo hlo w
    obtain ⟨k', v'⟩ := e
    simp only [assocWfFrom, Bool.and_eq_true, decide_eq_true_eq] at w
    have hb : above lo k = true := by
      cases lo with
      | none => rfl
      | some l => simpa [above] using hlo l rfl
    unfold assocInsert
    split
    · next h =>
      simp only [assocWfFrom, Bool.and_eq_true, decide_eq_true_eq]
      exact ⟨⟨hb, hv⟩, ⟨by simpa [above] using h, w.1.2⟩, w.2⟩
    · split
      · next h =>
        subst h
        simp only [assocWfFrom, Bool.and_eq_true, decide_eq_true_eq]
        exact ⟨⟨hb, hv⟩, w.2⟩
      · next h1 h2 =>
        simp only [assocWfFrom, Bool.and_eq_true, decide_eq_true_eq]
        refine ⟨w.1, ih (some k') ?_ w.2⟩
        intro l hl
        have : k' = l := Option.some.inj hl
        omega

/-- A write keeps the canonical form. -/
theorem assocWf_set {α : Type} [DecidableEq α] (d : Nat → α) (m : Assoc α) (k : Nat) (v : α) (w : assocWf d m = true) :
    assocWf d (assocSet d m k v) = true := by
  unfold assocWf at *
  unfold assocSet
  split
  · exact assocWfFrom_filter d _ m none w
  · next h => exact assocWfFrom_insert d k v h m none (fun l hl => by cases hl) w

theorem assocWf_filter {α : Type} [DecidableEq α] (d : Nat → α) (p : Nat × α → Bool) (m : Assoc α) (w : assocWf d m = true) :
    assocWf d (m.filter p) = true := assocWfFrom_filter d p m none w

/-! Memory. -/

theorem memory_wf_store (bs : List Byte) : ∀ (m : List Host.Cell) (a : Nat), Memory.wf m = true →
    Memory.wf (Memory.store m a bs) = true := by
  induction bs with
  | nil => intro m a h; exact h
  | cons b r ih => intro m a h; exact ih _ _ (assocWf_set memDefault m a b h)

theorem memory_wf_write (s : State) (a : Nat) (bs : List Byte) (h : Memory.wf s.mem = true) :
    Memory.wf (s.write a bs).mem = true := memory_wf_store bs s.mem a h

theorem memory_wf_zero (s : State) (a n : Nat) (h : Memory.wf s.mem = true) : Memory.wf (s.zero a n).mem = true :=
  assocWf_filter memDefault _ s.mem h

/-- A byte below the stored ones, or above, reads as before. -/
theorem store_byte_outside (bs : List Byte) : ∀ (m : List Host.Cell) (a j : Nat), (j < a ∨ a + bs.length ≤ j) →
    assocGet memDefault (Memory.store m a bs) j = assocGet memDefault m j := by
  induction bs with
  | nil => intro m a j _; rfl
  | cons b r ih =>
    intro m a j h
    have hl : (b :: r).length = r.length + 1 := List.length_cons
    rw [hl] at h
    have := ih (assocSet memDefault m a b) (a + 1) j (by omega)
    exact this.trans (assocGet_set_other memDefault m a j b (by omega))

/-- A stored byte reads as it was stored. -/
theorem store_byte_at (bs : List Byte) : ∀ (m : List Host.Cell) (a i : Nat), i < bs.length →
    assocGet memDefault (Memory.store m a bs) (a + i) = bs.getD i 0 := by
  induction bs with
  | nil => intro m a i h; exact absurd h (by simp)
  | cons b r ih =>
    intro m a i h
    cases i with
    | zero =>
      have := store_byte_outside r (assocSet memDefault m a b) (a + 1) a (by omega)
      exact this.trans (assocGet_set_same memDefault m a b)
    | succ n =>
      have hn : n < r.length := by simpa using h
      have := ih (assocSet memDefault m a b) (a + 1) n hn
      have e : a + 1 + n = a + (n + 1) := by omega
      rw [e] at this
      exact this

theorem byte_write_outside (s : State) (a j : Nat) (bs : List Byte) (h : j < a ∨ a + bs.length ≤ j) :
    (s.write a bs).byte j = s.byte j := store_byte_outside bs s.mem a j h

theorem byte_write_at (s : State) (a i : Nat) (bs : List Byte) (h : i < bs.length) :
    (s.write a bs).byte (a + i) = bs.getD i 0 := store_byte_at bs s.mem a i h

end Sys2Proof.Machine
end

