-- ==== Sys2Proof/Laws/Reg.lean ====
section
/-! SUPPORT. Registers and fields: a read after a write, and what a write leaves alone. -/
namespace Sys2Proof.Machine

@[simp] theorem reg_setReg_same (s : State) (off : Nat) (v : Word) : (s.setReg off v).reg off = v :=
  assocGet_set_same resetReg s.regs off v

theorem reg_setReg_other (s : State) (off o : Nat) (v : Word) (h : off ≠ o) : (s.setReg off v).reg o = s.reg o :=
  assocGet_set_other resetReg s.regs off o v h

/-- Bits of a value moved to a field's place. -/
theorem placed_bit (lo width v i : Nat) (hi : i < 64) :
    (BitVec.ofNat 64 (v % 2 ^ width) <<< lo).getLsbD i = (decide (lo ≤ i) && decide (i < lo + width) && v.testBit (i - lo)) := by
  rw [BitVec.getLsbD_shiftLeft, BitVec.getLsbD_ofNat, Nat.testBit_mod_two_pow]
  by_cases h : i < lo
  · have h' : ¬ lo ≤ i := by omega
    simp only [h, h', decide_true, decide_false, Bool.not_true, Bool.and_false, Bool.false_and]
  · have h' : lo ≤ i := by omega
    have h2 : i - lo < 64 := by omega
    by_cases h3 : i < lo + width
    · have h4 : i - lo < width := by omega
      simp only [h, h', h2, h3, h4, hi, decide_true, decide_false, Bool.not_false, Bool.true_and]
    · have h4 : ¬ i - lo < width := by omega
      simp only [h3, h4, decide_false, Bool.false_and, Bool.and_false]

/-- The bits of a field's mask. -/
theorem fieldMask_bit (lo width i : Nat) (hi : i < 64) :
    (fieldMask lo width).getLsbD i = (decide (lo ≤ i) && decide (i < lo + width)) := by
  have e : fieldMask lo width = BitVec.ofNat 64 ((2 ^ width - 1) % 2 ^ width) <<< lo := by
    unfold fieldMask
    rw [Nat.mod_eq_of_lt (by have := Nat.two_pow_pos width; omega)]
  rw [e, placed_bit lo width _ i hi, Nat.testBit_two_pow_sub_one]
  by_cases h : lo ≤ i <;> by_cases h2 : i < lo + width
  · have h3 : i - lo < width := by omega
    simp only [h, h2, h3, decide_true, Bool.and_true]
  · simp only [h2, decide_false, Bool.and_false, Bool.false_and]
  · simp only [h, decide_false, Bool.false_and]
  · simp only [h, decide_false, Bool.false_and]

theorem setField_bit (w : Word) (lo width v i : Nat) (hi : i < 64) :
    (setField w lo width v).getLsbD i =
      if lo ≤ i ∧ i < lo + width then v.testBit (i - lo) else w.getLsbD i := by
  unfold setField
  rw [BitVec.getLsbD_or, BitVec.getLsbD_and, BitVec.getLsbD_not, fieldMask_bit lo width i hi, placed_bit lo width v i hi]
  by_cases h : lo ≤ i <;> by_cases h2 : i < lo + width
  · simp only [h, h2, hi, and_self, if_true, decide_true, Bool.and_true, Bool.not_true, Bool.and_false, Bool.false_or, Bool.true_and]
  · simp only [h, h2, hi, and_false, if_false, decide_true, decide_false, Bool.and_false, Bool.not_false, Bool.and_true, Bool.false_and, Bool.or_false]
  · simp only [h, h2, hi, false_and, if_false, decide_true, decide_false, Bool.not_false, Bool.and_true, Bool.false_and, Bool.or_false]
  · simp only [h, h2, hi, false_and, if_false, decide_true, decide_false, Bool.and_false, Bool.not_false, Bool.and_true, Bool.false_and, Bool.or_false]

theorem getField_bit (w : Word) (lo width i : Nat) :
    (getField w lo width).testBit i = (decide (i < width) && w.getLsbD (lo + i)) := by
  unfold getField
  rw [Nat.testBit_mod_two_pow]
  congr 1
  simp only [BitVec.toNat_ushiftRight, Nat.testBit_shiftRight]
  rfl

/-- A field reads as it was written. -/
theorem getField_setField_same (w : Word) (lo width v : Nat) (h : lo + width ≤ 64) :
    getField (setField w lo width v) lo width = v % 2 ^ width := by
  apply Nat.eq_of_testBit_eq
  intro i
  rw [getField_bit, Nat.testBit_mod_two_pow]
  by_cases hi : i < width
  · rw [setField_bit w lo width v (lo + i) (by omega)]
    have : lo ≤ lo + i ∧ lo + i < lo + width := ⟨by omega, by omega⟩
    simp [hi, this]
  · simp [hi]

/-- A field apart from the one written reads as before. -/
theorem getField_setField_other (w : Word) (lo width v lo' width' : Nat) (h : lo' + width' ≤ lo ∨ lo + width ≤ lo')
    (h64 : lo' + width' ≤ 64) : getField (setField w lo width v) lo' width' = getField w lo' width' := by
  apply Nat.eq_of_testBit_eq
  intro i
  rw [getField_bit, getField_bit]
  by_cases hi : i < width'
  · rw [setField_bit w lo width v (lo' + i) (by omega)]
    have : ¬ (lo ≤ lo' + i ∧ lo' + i < lo + width) := by omega
    simp [this]
  · simp [hi]

theorem fget_fset_same (s : State) (f : Fld) (v : Nat) (h : f.lo + f.width ≤ 64) :
    (s.fset f v).fget f = v % 2 ^ f.width := by
  unfold State.fset State.fget
  rw [reg_setReg_same]
  exact getField_setField_same _ _ _ _ h

/-- A field of another register reads as before. -/
theorem fget_fset_reg (s : State) (f g : Fld) (v : Nat) (h : f.off ≠ g.off) : (s.fset f v).fget g = s.fget g := by
  unfold State.fset State.fget
  rw [reg_setReg_other _ _ _ _ h]

/-- A field apart from the one written, in the same register or not, reads as before. -/
theorem fget_fset_apart (s : State) (f g : Fld) (v : Nat) (h : g.lo + g.width ≤ f.lo ∨ f.lo + f.width ≤ g.lo)
    (h64 : g.lo + g.width ≤ 64) : (s.fset f v).fget g = s.fget g := by
  by_cases e : f.off = g.off
  · unfold State.fset State.fget
    rw [← e, reg_setReg_same]
    exact getField_setField_other _ _ _ _ _ _ h h64
  · exact fget_fset_reg s f g v e

end Sys2Proof.Machine
end

