-- ==== Sys2Proof/Laws/Keeps.lean ====
section
/-! SUPPORT. Every operation of the model keeps what `Keeps` names. -/
namespace Sys2Proof.Machine

set_option linter.unusedSimpArgs false
set_option linter.unusedTactic false
set_option linter.unreachableTactic false
-- One declaration at a time: the declarations of the package elaborated together would not fit in memory.
set_option Elab.async false

theorem keeps_refl (s : State) : Keeps s s :=
  ⟨rfl, Nat.le_refl _, List.suffix_refl _, Nat.le_refl _, Nat.le_refl _, id⟩

theorem keeps_trans {s t u : State} (h : Keeps s t) (k : Keeps t u) : Keeps s u := by
  obtain ⟨a1, a2, a3, a4, a5, a6⟩ := h
  obtain ⟨b1, b2, b3, b4, b5, b6⟩ := k
  exact ⟨b1.trans a1, Nat.le_trans a2 b2, a3.trans b3, Nat.le_trans a4 b4, Nat.le_trans a5 b5, fun i => b6 (a6 i)⟩

/-- `Keeps` on the fields it looks at. -/
def KeepsAt (σ : State) (pending : List Instr) (clock : Nat) (out : List Out) (regs : Assoc Word) (mem : List Host.Cell) (nv : NonVol) (tombs : List Tomb) (waiters : List Waiter) (reports : List Report) (fatals : List Report) (recs : List Recovery) (recq : List Recovery) : Prop :=
  Keeps σ { State.reset with pending := pending, clock := clock, out := out, regs := regs, mem := mem, nv := nv, tombs := tombs, waiters := waiters, reports := reports, fatals := fatals, recs := recs, recq := recq }

theorem keeps_mk {σ : State} {pending_ : List Instr} {clock_ : Nat} {free_ : Nat} {out_ : List Out} {regs_ : Assoc Word} {mem_ : List Host.Cell} {poison_ : List Nat} {weak_ : List Nat} {poisonRec_ : Assoc (List Nat)} {nv_ : NonVol} {boot_ : Boot} {togus_ : Togus} {trn_ : Trn} {droop_ : Assoc Droop} {mesh_ : Assoc MeshLink} {tcores_ : Assoc TCore} {pcores_ : Assoc Jumbe} {ses_ : Assoc SeState} {fronts_ : Assoc (Option Nat)} {dir_ : Assoc DirLine} {wcb_ : Assoc (List WcbEntry)} {chans_ : Assoc Channel} {ewt_ : Assoc (List EpochEntry)} {homeTransit_ : Assoc Nat} {homeLast_ : Assoc Nat} {okt_ : Assoc (BitVec 128)} {oldKeys_ : List (Nat × Nat × Nat)} {reqs_ : Assoc (Option RackOut)} {gen_ : Nat} {epochCache_ : List (Nat × Nat × List Byte)} {twilightArm_ : Bool} {links_ : Assoc Link} {routes_ : Assoc (BitVec 128)} {police_ : Assoc Police} {shape_ : Assoc Bucket} {posts_ : Assoc Post} {slots_ : Assoc SendSlot} {rx_ : List RxMsg} {parked_ : List Parked} {outbox_ : List (Nat × OutMsg)} {tombs_ : List Tomb} {buried_ : List Tomb} {lostAt_ : List (Nat × Nat)} {parkWaits_ : List (Nat × Nat)} {beacons_ : Assoc Beacon} {waiters_ : List Waiter} {epochs_ : Assoc Nat} {scan_ : Option Nat} {scanAgain_ : Bool} {nextPrio_ : List (Who × Nat × Nat)} {ops_ : Assoc (Option Op)} {resumes_ : List (Nat × List Byte × Nat)} {rrRing_ : Assoc Nat} {rrPrio_ : Nat} {sinceLowPrio_ : Nat} {reserve_ : Nat} {endCount_ : Nat} {numVfs_ : Nat} {llmRetired_ : List Nat} {portsRetired_ : List Nat} {msix_ : Assoc (Bool × Bool)} {reports_ : List Report} {fatals_ : List Report} {logMeta_ : List LogMeta} {recs_ : List Recovery} {recq_ : List Recovery} {alm_ : Alm} {nwt_ : Nwt} {ecl_ : Ecl} {pins_ : Pins} : Keeps σ (State.mk pending_ clock_ free_ out_ regs_ mem_ poison_ weak_ poisonRec_ nv_ boot_ togus_ trn_ droop_ mesh_ tcores_ pcores_ ses_ fronts_ dir_ wcb_ chans_ ewt_ homeTransit_ homeLast_ okt_ oldKeys_ reqs_ gen_ epochCache_ twilightArm_ links_ routes_ police_ shape_ posts_ slots_ rx_ parked_ outbox_ tombs_ buried_ lostAt_ parkWaits_ beacons_ waiters_ epochs_ scan_ scanAgain_ nextPrio_ ops_ resumes_ rrRing_ rrPrio_ sinceLowPrio_ reserve_ endCount_ numVfs_ llmRetired_ portsRetired_ msix_ reports_ fatals_ logMeta_ recs_ recq_ alm_ nwt_ ecl_ pins_) = KeepsAt σ pending_ clock_ out_ regs_ mem_ nv_ tombs_ waiters_ reports_ fatals_ recs_ recq_ := rfl

theorem keepsAt_of {σ t : State} (k : Keeps σ t) : KeepsAt σ t.pending t.clock t.out t.regs t.mem t.nv t.tombs t.waiters t.reports t.fatals t.recs t.recq := k


theorem foldl_keeps {σ : State} {α : Type} {f : State → α → State} {l : List α} {s : State}
    (h : ∀ t x, Keeps σ t → Keeps σ (f t x)) (k : Keeps σ s) : Keeps σ (l.foldl f s) := by
  induction l generalizing s with
  | nil => exact k
  | cons a r ih => exact ih (h s a k)

/-- A command ends in a next state that keeps what `Keeps` names. -/
def Ends (σ : State) (r : Res) : Prop := ∃ t, r = .next t ∧ Keeps σ t

theorem ends_next {σ t : State} (k : Keeps σ t) : Ends σ (.next t) := ⟨t, rfl, k⟩

theorem ends_whenever {σ t s : State} {b : Bool} (k : Keeps σ t) (h : Keeps σ s) : Ends σ (whenever b t s) := by
  unfold whenever
  split
  · exact ends_next k
  · exact ends_next h

/-! The same of a state that may not be there, and of a state beside a value. -/

def KeepsO (σ : State) (o : Option State) : Prop := ∀ t, o = some t → Keeps σ t

def KeepsP {α : Type} (σ : State) (p : State × α) : Prop := Keeps σ p.1

def KeepsOP {α : Type} (σ : State) (o : Option (State × α)) : Prop := ∀ p, o = some p → Keeps σ p.1

theorem keepsO_none {σ : State} : KeepsO σ none := fun _ h => nomatch h

theorem keepsO_some {σ t : State} (k : Keeps σ t) : KeepsO σ (some t) := fun _ h => Option.some.inj h ▸ k

theorem keepsO_elim {σ t : State} {o : Option State} (h : o = some t) (k : KeepsO σ o) : Keeps σ t := k t h

theorem keepsO_get {σ t : State} (k : KeepsO σ (some t)) : Keeps σ t := k t rfl

theorem keepsO_getD {σ d : State} {o : Option State} (k : KeepsO σ o) (h : Keeps σ d) : Keeps σ (o.getD d) := by
  cases o with
  | none => exact h
  | some t => exact k t rfl

theorem keepsP_mk {α : Type} {σ t : State} {x : α} (k : Keeps σ t) : KeepsP σ (t, x) := k

theorem keepsP_elim {α : Type} {σ t : State} {p : State × α} {x : α} (h : p = (t, x)) (k : KeepsP σ p) : Keeps σ t := by
  subst h
  exact k

theorem keepsP_get {α : Type} {σ t : State} {x : α} (k : KeepsP σ (t, x)) : Keeps σ t := k

theorem keepsP_of {α : Type} {σ : State} {p : State × α} (k : KeepsP σ p) : Keeps σ p.1 := k

theorem keepsOP_none {α : Type} {σ : State} : KeepsOP σ (none : Option (State × α)) := fun _ h => nomatch h

theorem keepsOP_some {α : Type} {σ : State} {p : State × α} (k : KeepsP σ p) : KeepsOP σ (some p) := fun _ h => Option.some.inj h ▸ k

theorem keepsOP_elim {α : Type} {σ t : State} {x : α} {o : Option (State × α)} (h : o = some (t, x)) (k : KeepsOP σ o) : Keeps σ t :=
  k _ h

theorem keepsOP_get {α : Type} {σ t : State} {x : α} (k : KeepsOP σ (some (t, x))) : Keeps σ t := k _ rfl

theorem keepsOP_elim1 {α : Type} {σ : State} {p : State × α} {o : Option (State × α)} (h : o = some p) (k : KeepsOP σ o) :
    Keeps σ p.1 := k _ h

theorem keepsOP_get1 {α : Type} {σ : State} {p : State × α} (k : KeepsOP σ (some p)) : Keeps σ p.1 := k _ rfl

theorem foldl_keepsO {σ : State} {α : Type} {f : Option State → α → Option State} {l : List α} {o : Option State}
    (h : ∀ t x, KeepsO σ t → KeepsO σ (f t x)) (k : KeepsO σ o) : KeepsO σ (l.foldl f o) := by
  induction l generalizing o with
  | nil => exact k
  | cons a r ih => exact ih (h o a k)

theorem foldl_keepsP {σ : State} {α β : Type} {f : State × β → α → State × β} {l : List α} {p : State × β}
    (h : ∀ t x, KeepsP σ t → KeepsP σ (f t x)) (k : KeepsP σ p) : KeepsP σ (l.foldl f p) := by
  induction l generalizing p with
  | nil => exact k
  | cons a r ih => exact ih (h p a k)

theorem foldl_keepsOP {σ : State} {α β : Type} {f : Option (State × β) → α → Option (State × β)} {l : List α}
    {o : Option (State × β)} (h : ∀ t x, KeepsOP σ t → KeepsOP σ (f t x)) (k : KeepsOP σ o) : KeepsOP σ (l.foldl f o) := by
  induction l generalizing o with
  | nil => exact k
  | cons a r ih => exact ih (h o a k)

theorem setReg_keeps {σ : State} (s : State) (off : Nat) (v : Word) (k : Keeps σ s) : Keeps σ (s.setReg off v) :=
  ⟨k.1, k.2.1, k.2.2.1, k.2.2.2.1, k.2.2.2.2.1, fun i =>
    let j := k.2.2.2.2.2 i
    ⟨j.1, assocWf_set resetReg s.regs off v j.2.1, j.2.2⟩⟩

theorem write_keeps {σ : State} (s : State) (a : Nat) (bs : List Byte) (k : Keeps σ s) : Keeps σ (s.write a bs) :=
  ⟨k.1, k.2.1, k.2.2.1, k.2.2.2.1, k.2.2.2.2.1, fun i =>
    let j := k.2.2.2.2.2 i
    ⟨memory_wf_write s a bs j.1, j.2⟩⟩

theorem zero_keeps {σ : State} (s : State) (a n : Nat) (k : Keeps σ s) : Keeps σ (s.zero a n) :=
  ⟨k.1, k.2.1, k.2.2.1, k.2.2.2.1, k.2.2.2.2.1, fun i =>
    let j := k.2.2.2.2.2 i
    ⟨memory_wf_zero s a n j.1, j.2⟩⟩

theorem emit_keeps {σ : State} (s : State) (o : Out) (k : Keeps σ s) : Keeps σ (s.emit o) :=
  ⟨k.1, k.2.1, k.2.2.1.trans (List.suffix_cons o s.out), k.2.2.2.1, k.2.2.2.2.1, k.2.2.2.2.2⟩

theorem inv_reports {σ s t : State} (k : Keeps σ s) (h1 : t.pending = s.pending) (h2 : t.clock = s.clock) (h3 : t.out = s.out)
    (h4 : t.nv = s.nv) (hi : Inv s → Inv t) : Keeps σ t := by
  obtain ⟨a1, a2, a3, a4, a5, a6⟩ := k
  exact ⟨h1.trans a1, h2 ▸ a2, h3 ▸ a3, h4 ▸ a4, h4 ▸ a5, fun i => hi (a6 i)⟩

theorem keeps_waiters {σ s : State} (k : Keeps σ s) (ws : List Waiter) (h : (ws.filter Waiter.tabled).length ≤ s.tableUsed) :
    Keeps σ { s with waiters := ws } :=
  inv_reports k rfl rfl rfl rfl (fun i => ⟨i.1, i.2.1, i.2.2.1, i.2.2.2.1, Nat.le_trans h i.2.2.2.2.1, i.2.2.2.2.2⟩)

theorem keeps_tombs {σ s : State} (k : Keeps σ s) (ts : List Tomb) (h : s.tombs.length ≤ 256 → ts.length ≤ 256) :
    Keeps σ { s with tombs := ts } :=
  inv_reports k rfl rfl rfl rfl (fun i => ⟨i.1, i.2.1, i.2.2.1, i.2.2.2.1, i.2.2.2.2.1, h i.2.2.2.2.2.1, i.2.2.2.2.2.2⟩)

theorem keeps_nv {σ s : State} (k : Keeps σ s) (n : NonVol) (h1 : n.fwMin = s.nv.fwMin) (h2 : n.imageMin = s.nv.imageMin) :
    Keeps σ { s with nv := n } :=
  ⟨k.1, k.2.1, k.2.2.1, h1 ▸ k.2.2.2.1, h2 ▸ k.2.2.2.2.1, k.2.2.2.2.2⟩

theorem tabled_sublist {l m : List Waiter} (h : List.Sublist l m) : (l.filter Waiter.tabled).length ≤ (m.filter Waiter.tabled).length :=
  List.Sublist.length_le (List.Sublist.filter _ h)

theorem tabled_filter (l : List Waiter) (p : Waiter → Bool) :
    ((l.filter p).filter Waiter.tabled).length ≤ (l.filter Waiter.tabled).length := tabled_sublist (List.filter_sublist)

theorem tabled_erase (l : List Waiter) (w : Waiter) :
    ((dropWaiter l w).filter Waiter.tabled).length ≤ (l.filter Waiter.tabled).length := tabled_sublist (List.erase_sublist)

theorem tabled_eraseIdx (l : List Waiter) (k : Nat) :
    ((l.eraseIdx k).filter Waiter.tabled).length ≤ (l.filter Waiter.tabled).length := tabled_sublist (List.eraseIdx_sublist _ _)

theorem slotsOk_filter (l : List Recovery) (p : Recovery → Bool) (h : slotsOk l) : slotsOk (l.filter p) :=
  ⟨h.1.sublist (List.Sublist.map _ List.filter_sublist), fun r hr => h.2 r ((List.mem_filter.1 hr).1)⟩

theorem slotsOk_map (l : List Recovery) (f : Recovery → Recovery) (hf : ∀ r, (f r).slot = r.slot) (h : slotsOk l) : slotsOk (l.map f) := by
  have e : (l.map f).map Recovery.slot = l.map Recovery.slot := by
    rw [List.map_map]
    exact List.map_congr_left (fun r _ => hf r)
  refine ⟨e ▸ h.1, fun r hr => ?_⟩
  obtain ⟨x, hx, rfl⟩ := List.mem_map.1 hr
  rw [hf]
  exact h.2 x hx

/-- Mapping the words of a canonical register list and dropping those at their reset value keeps the form. -/
theorem assocWf_resetRegs (f : Nat → Word → Word) (m : Assoc Word) (w : assocWf resetReg m = true) :
    assocWf resetReg (resetRegs f m) = true := by
  unfold assocWf at *
  unfold resetRegs
  generalize (none : Option Nat) = lo at w ⊢
  induction m generalizing lo with
  | nil => rfl
  | cons e r ih =>
    simp only [assocWfFrom, Bool.and_eq_true] at w
    obtain ⟨⟨w1, w2⟩, w3⟩ := w
    simp only [List.map_cons, List.filter_cons]
    split
    · next h =>
      simp only [assocWfFrom, Bool.and_eq_true]
      exact ⟨⟨w1, h⟩, ih _ w3⟩
    · cases lo with
      | none => exact assocWfFrom_none _ _ _ (ih _ w3)
      | some l =>
        refine assocWfFrom_mono _ _ l e.1 ?_ (ih _ w3)
        simp only [above, decide_eq_true_eq] at w1
        omega

theorem keeps_resetRegs {σ s : State} (k : Keeps σ s) (f : Nat → Word → Word) : Keeps σ { s with regs := resetRegs f s.regs } :=
  inv_reports k rfl rfl rfl rfl (fun i => ⟨i.1, assocWf_resetRegs f s.regs i.2.1, i.2.2⟩)

def KeepsW (σ : State) (r : WriteRes) : Prop := ∀ t, r = .done t → Keeps σ t

theorem keepsW_done {σ t : State} (k : Keeps σ t) : KeepsW σ (.done t) := fun _ h => WriteRes.done.inj h ▸ k

theorem keepsW_get {σ t : State} (k : KeepsW σ (.done t)) : Keeps σ t := k t rfl

theorem keepsW_elim {σ t : State} {r : WriteRes} (h : r = .done t) (k : KeepsW σ r) : Keeps σ t := k t h

theorem foldl_keepsW {σ : State} {α : Type} {f : WriteRes → α → WriteRes} {l : List α} {r : WriteRes}
    (h : ∀ t x, KeepsW σ t → KeepsW σ (f t x)) (k : KeepsW σ r) : KeepsW σ (l.foldl f r) := by
  induction l generalizing r with
  | nil => exact k
  | cons a rest ih => exact ih (h r a k)

theorem showAlert_keeps {σ : State} (s t : State) (hk : Keeps σ t) : Keeps σ (State.showAlert s t) := by
  unfold State.showAlert
  split
  · exact hk
  · exact emit_keeps _ _ hk

theorem fset_keeps {σ : State} (s : State) (f : Fld) (v : Nat) (hk : Keeps σ s) :
    Keeps σ (State.fset s f v) := by
  unfold State.fset
  repeat' first
    | (with_reducible first | assumption | apply setReg_keeps)
    | (simp only [keeps_mk]; with_reducible apply keepsAt_of) | split | dsimp only | intro _

theorem fsetOn_keeps {σ : State} (s : State) (f : Fld) (hk : Keeps σ s) :
    Keeps σ (State.fsetOn s f) := by
  unfold State.fsetOn
  repeat' first
    | (with_reducible first | assumption | apply fset_keeps)
    | (simp only [keeps_mk]; with_reducible apply keepsAt_of) | split | dsimp only | intro _

theorem fclear_keeps {σ : State} (s : State) (f : Fld) (hk : Keeps σ s) :
    Keeps σ (State.fclear s f) := by
  unfold State.fclear
  repeat' first
    | (with_reducible first | assumption | apply fset_keeps)
    | (simp only [keeps_mk]; with_reducible apply keepsAt_of) | split | dsimp only | intro _

theorem finc_keeps {σ : State} (s : State) (f : Fld) (n : Nat) (hk : Keeps σ s) :
    Keeps σ (State.finc s f n) := by
  unfold State.finc
  repeat' first
    | (with_reducible first | assumption | apply fset_keeps)
    | (simp only [keeps_mk]; with_reducible apply keepsAt_of) | split | dsimp only | intro _

theorem fincSat_keeps {σ : State} (s : State) (f : Fld) (n : Nat) (hk : Keeps σ s) :
    Keeps σ (State.fincSat s f n) := by
  unfold State.fincSat
  repeat' first
    | (with_reducible first | assumption | apply fset_keeps)
    | (simp only [keeps_mk]; with_reducible apply keepsAt_of) | split | dsimp only | intro _

theorem setTcore_keeps {σ : State} (s : State) (k : Nat) (v : TCore) (hk : Keeps σ s) :
    Keeps σ (State.setTcore s k v) := by
  unfold State.setTcore
  repeat' first
    | (with_reducible first | assumption)
    | (simp only [keeps_mk]; with_reducible apply keepsAt_of) | split | dsimp only | intro _

theorem setPcore_keeps {σ : State} (s : State) (k : Nat) (v : Jumbe) (hk : Keeps σ s) :
    Keeps σ (State.setPcore s k v) := by
  unfold State.setPcore
  repeat' first
    | (with_reducible first | assumption)
    | (simp only [keeps_mk]; with_reducible apply keepsAt_of) | split | dsimp only | intro _

theorem setSe_keeps {σ : State} (s : State) (k : Nat) (v : SeState) (hk : Keeps σ s) :
    Keeps σ (State.setSe s k v) := by
  unfold State.setSe
  repeat' first
    | (with_reducible first | assumption)
    | (simp only [keeps_mk]; with_reducible apply keepsAt_of) | split | dsimp only | intro _

theorem setFront_keeps {σ : State} (s : State) (k : Nat) (v : Option Nat) (hk : Keeps σ s) :
    Keeps σ (State.setFront s k v) := by
  unfold State.setFront
  repeat' first
    | (with_reducible first | assumption)
    | (simp only [keeps_mk]; with_reducible apply keepsAt_of) | split | dsimp only | intro _

theorem setMeshLink_keeps {σ : State} (s : State) (k : Nat) (v : MeshLink) (hk : Keeps σ s) :
    Keeps σ (State.setMeshLink s k v) := by
  unfold State.setMeshLink
  repeat' first
    | (with_reducible first | assumption)
    | (simp only [keeps_mk]; with_reducible apply keepsAt_of) | split | dsimp only | intro _

theorem setDroopOf_keeps {σ : State} (s : State) (k : Nat) (v : Droop) (hk : Keeps σ s) :
    Keeps σ (State.setDroopOf s k v) := by
  unfold State.setDroopOf
  repeat' first
    | (with_reducible first | assumption)
    | (simp only [keeps_mk]; with_reducible apply keepsAt_of) | split | dsimp only | intro _

theorem setDirLine_keeps {σ : State} (s : State) (k : Nat) (v : DirLine) (hk : Keeps σ s) :
    Keeps σ (State.setDirLine s k v) := by
  unfold State.setDirLine
  repeat' first
    | (with_reducible first | assumption)
    | (simp only [keeps_mk]; with_reducible apply keepsAt_of) | split | dsimp only | intro _

theorem setWcbOf_keeps {σ : State} (s : State) (k : Nat) (v : List WcbEntry) (hk : Keeps σ s) :
    Keeps σ (State.setWcbOf s k v) := by
  unfold State.setWcbOf
  repeat' first
    | (with_reducible first | assumption)
    | (simp only [keeps_mk]; with_reducible apply keepsAt_of) | split | dsimp only | intro _

theorem setChan_keeps {σ : State} (s : State) (k : Nat) (v : Channel) (hk : Keeps σ s) :
    Keeps σ (State.setChan s k v) := by
  unfold State.setChan
  repeat' first
    | (with_reducible first | assumption)
    | (simp only [keeps_mk]; with_reducible apply keepsAt_of) | split | dsimp only | intro _

theorem setEwtOf_keeps {σ : State} (s : State) (k : Nat) (v : List EpochEntry) (hk : Keeps σ s) :
    Keeps σ (State.setEwtOf s k v) := by
  unfold State.setEwtOf
  repeat' first
    | (with_reducible first | assumption)
    | (simp only [keeps_mk]; with_reducible apply keepsAt_of) | split | dsimp only | intro _

theorem setOktOf_keeps {σ : State} (s : State) (k : Nat) (v : BitVec 128) (hk : Keeps σ s) :
    Keeps σ (State.setOktOf s k v) := by
  unfold State.setOktOf
  repeat' first
    | (with_reducible first | assumption)
    | (simp only [keeps_mk]; with_reducible apply keepsAt_of) | split | dsimp only | intro _

theorem setReq_keeps {σ : State} (s : State) (k : Nat) (v : Option RackOut) (hk : Keeps σ s) :
    Keeps σ (State.setReq s k v) := by
  unfold State.setReq
  repeat' first
    | (with_reducible first | assumption)
    | (simp only [keeps_mk]; with_reducible apply keepsAt_of) | split | dsimp only | intro _

theorem setLink_keeps {σ : State} (s : State) (k : Nat) (v : Link) (hk : Keeps σ s) :
    Keeps σ (State.setLink s k v) := by
  unfold State.setLink
  repeat' first
    | (with_reducible first | assumption)
    | (simp only [keeps_mk]; with_reducible apply keepsAt_of) | split | dsimp only | intro _

theorem setRoute_keeps {σ : State} (s : State) (k : Nat) (v : BitVec 128) (hk : Keeps σ s) :
    Keeps σ (State.setRoute s k v) := by
  unfold State.setRoute
  repeat' first
    | (with_reducible first | assumption)
    | (simp only [keeps_mk]; with_reducible apply keepsAt_of) | split | dsimp only | intro _

theorem setShapeOf_keeps {σ : State} (s : State) (k : Nat) (v : Bucket) (hk : Keeps σ s) :
    Keeps σ (State.setShapeOf s k v) := by
  unfold State.setShapeOf
  repeat' first
    | (with_reducible first | assumption)
    | (simp only [keeps_mk]; with_reducible apply keepsAt_of) | split | dsimp only | intro _

theorem setPoliceOf_keeps {σ : State} (s : State) (k : Nat) (v : Police) (hk : Keeps σ s) :
    Keeps σ (State.setPoliceOf s k v) := by
  unfold State.setPoliceOf
  repeat' first
    | (with_reducible first | assumption)
    | (simp only [keeps_mk]; with_reducible apply keepsAt_of) | split | dsimp only | intro _

theorem setPost_keeps {σ : State} (s : State) (k : Nat) (v : Post) (hk : Keeps σ s) :
    Keeps σ (State.setPost s k v) := by
  unfold State.setPost
  repeat' first
    | (with_reducible first | assumption)
    | (simp only [keeps_mk]; with_reducible apply keepsAt_of) | split | dsimp only | intro _

theorem setSlot_keeps {σ : State} (s : State) (k : Nat) (v : SendSlot) (hk : Keeps σ s) :
    Keeps σ (State.setSlot s k v) := by
  unfold State.setSlot
  repeat' first
    | (with_reducible first | assumption)
    | (simp only [keeps_mk]; with_reducible apply keepsAt_of) | split | dsimp only | intro _

theorem setBeacon_keeps {σ : State} (s : State) (k : Nat) (v : Beacon) (hk : Keeps σ s) :
    Keeps σ (State.setBeacon s k v) := by
  unfold State.setBeacon
  repeat' first
    | (with_reducible first | assumption)
    | (simp only [keeps_mk]; with_reducible apply keepsAt_of) | split | dsimp only | intro _

theorem setOwnerEpoch_keeps {σ : State} (s : State) (k v : Nat) (hk : Keeps σ s) :
    Keeps σ (State.setOwnerEpoch s k v) := by
  unfold State.setOwnerEpoch
  repeat' first
    | (with_reducible first | assumption)
    | (simp only [keeps_mk]; with_reducible apply keepsAt_of) | split | dsimp only | intro _

theorem setOp_keeps {σ : State} (s : State) (k : Nat) (v : Option Op) (hk : Keeps σ s) :
    Keeps σ (State.setOp s k v) := by
  unfold State.setOp
  repeat' first
    | (with_reducible first | assumption)
    | (simp only [keeps_mk]; with_reducible apply keepsAt_of) | split | dsimp only | intro _

theorem setVec_keeps {σ : State} (s : State) (k : Nat) (v : Bool × Bool) (hk : Keeps σ s) :
    Keeps σ (State.setVec s k v) := by
  unfold State.setVec
  repeat' first
    | (with_reducible first | assumption)
    | (simp only [keeps_mk]; with_reducible apply keepsAt_of) | split | dsimp only | intro _

theorem setRecorded_keeps {σ : State} (s : State) (k : Nat) (v : List Nat) (hk : Keeps σ s) :
    Keeps σ (State.setRecorded s k v) := by
  unfold State.setRecorded
  repeat' first
    | (with_reducible first | assumption)
    | (simp only [keeps_mk]; with_reducible apply keepsAt_of) | split | dsimp only | intro _

theorem setPoison_keeps {σ : State} (s : State) (a : Nat) (hk : Keeps σ s) :
    Keeps σ (State.setPoison s a) := by
  unfold State.setPoison
  repeat' first
    | (with_reducible first | assumption)
    | (simp only [keeps_mk]; with_reducible apply keepsAt_of) | split | dsimp only | intro _

theorem clearPoison_keeps {σ : State} (s : State) (a n : Nat) (hk : Keeps σ s) :
    Keeps σ (State.clearPoison s a n) := by
  unfold State.clearPoison
  repeat' first
    | (with_reducible first | assumption)
    | (simp only [keeps_mk]; with_reducible apply keepsAt_of) | split | dsimp only | intro _

theorem drawn_keeps {σ : State} (s : State) (hk : Keeps σ s) :
    Keeps σ (State.drawn s) := by
  unfold State.drawn
  repeat' first
    | (with_reducible first | assumption)
    | (simp only [keeps_mk]; with_reducible apply keepsAt_of) | split | dsimp only | intro _

theorem onCore_keeps {σ : State} (s : State) (c : Nat) (f : TCore → TCore) (hk : Keeps σ s) :
    Keeps σ (State.onCore s c f) := by
  unfold State.onCore
  repeat' first
    | (with_reducible first | assumption | apply setTcore_keeps)
    | (simp only [keeps_mk]; with_reducible apply keepsAt_of) | split | dsimp only | intro _

theorem onMe_keeps {σ : State} (s : State) (c : Nat) (f : MeState → MeState) (hk : Keeps σ s) :
    Keeps σ (State.onMe s c f) := by
  unfold State.onMe
  repeat' first
    | (with_reducible first | assumption | apply setTcore_keeps)
    | (simp only [keeps_mk]; with_reducible apply keepsAt_of) | split | dsimp only | intro _

theorem onVe_keeps {σ : State} (s : State) (c : Nat) (f : VeState → VeState) (hk : Keeps σ s) :
    Keeps σ (State.onVe s c f) := by
  unfold State.onVe
  repeat' first
    | (with_reducible first | assumption | apply setTcore_keeps)
    | (simp only [keeps_mk]; with_reducible apply keepsAt_of) | split | dsimp only | intro _

theorem onFe_keeps {σ : State} (s : State) (c : Nat) (f : FeState → FeState) (hk : Keeps σ s) :
    Keeps σ (State.onFe s c f) := by
  unfold State.onFe
  repeat' first
    | (with_reducible first | assumption | apply setTcore_keeps)
    | (simp only [keeps_mk]; with_reducible apply keepsAt_of) | split | dsimp only | intro _

theorem setJumbe_keeps {σ : State} (s : State) (u : CoreId) (j : Jumbe) (hk : Keeps σ s) :
    Keeps σ (State.setJumbe s u j) := by
  unfold State.setJumbe
  repeat' first
    | (with_reducible first | assumption | apply setTcore_keeps | apply setPcore_keeps)
    | (simp only [keeps_mk]; with_reducible apply keepsAt_of) | split | dsimp only | intro _

theorem onJumbe_keeps {σ : State} (s : State) (u : CoreId) (f : Jumbe → Jumbe) (hk : Keeps σ s) :
    Keeps σ (State.onJumbe s u f) := by
  unfold State.onJumbe
  repeat' first
    | (with_reducible first | assumption | apply setJumbe_keeps)
    | (simp only [keeps_mk]; with_reducible apply keepsAt_of) | split | dsimp only | intro _

theorem raise_keeps {σ : State} (s : State) (fn : Fn) (vector : Nat) (hk : Keeps σ s) :
    Keeps σ (State.raise s fn vector) := by
  unfold State.raise
  repeat' first
    | (with_reducible first | assumption | apply setVec_keeps | apply emit_keeps)
    | (simp only [keeps_mk]; with_reducible apply keepsAt_of) | split | dsimp only | intro _

theorem dropReport_keeps {σ : State} (s : State) (cls : Nat) (hk : Keeps σ s) :
    Keeps σ (State.dropReport s cls) := by
  unfold State.dropReport
  repeat' first
    | (with_reducible first | assumption | apply fincSat_keeps | apply raise_keeps)
    | (simp only [keeps_mk]; with_reducible apply keepsAt_of) | split | dsimp only | intro _

theorem report_keeps {σ : State} (s : State) (source code cls detail : Nat) (hk : Keeps σ s) :
    Keeps σ (State.report s source code cls detail) := by
  unfold State.report
  dsimp only
  split
  · exact hk
  · split
    · split
      · refine inv_reports hk rfl rfl rfl rfl (fun i => ?_)
        obtain ⟨i1, i2, i3, i4, i5⟩ := i
        refine ⟨i1, i2, i3, ?_, i5⟩
        simp only [List.length_append, List.length_singleton]
        omega
      · exact dropReport_keeps _ _ hk
    · split
      · refine inv_reports hk rfl rfl rfl rfl (fun i => ?_)
        obtain ⟨i1, i2, i3, i4⟩ := i
        refine ⟨i1, i2, ?_, i4⟩
        simp only [List.length_append, List.length_singleton]
        omega
      · exact dropReport_keeps _ _ hk

theorem reportOpen_keeps {σ : State} (s : State) (source code cls : Nat) (hk : Keeps σ s) :
    Keeps σ (State.reportOpen s source code cls) := by
  unfold State.reportOpen
  repeat' first
    | (with_reducible first | assumption | apply report_keeps)
    | (simp only [keeps_mk]; with_reducible apply keepsAt_of) | split | dsimp only | intro _

theorem reportFree_keeps {σ : State} (s : State) (source cls : Nat) (hk : Keeps σ s) :
    Keeps σ (State.reportFree s source cls) := by
  unfold State.reportFree
  repeat' first
    | (with_reducible first | assumption | apply reportOpen_keeps)
    | (simp only [keeps_mk]; with_reducible apply keepsAt_of) | split | dsimp only | intro _

theorem refuseWrite_keeps {σ : State} (s : State) (fn : Fn) (off : Nat) (eight rights : Bool) (hk : Keeps σ s) :
    Keeps σ (State.refuseWrite s fn off eight rights) := by
  unfold State.refuseWrite
  repeat' first
    | (with_reducible first | assumption | apply report_keeps)
    | (simp only [keeps_mk]; with_reducible apply keepsAt_of) | split | dsimp only | intro _

theorem reach__keeps {σ : State} (s : State) (b : Nat) (hk : Keeps σ s) :
    Keeps σ (State.reach_ s b) := by
  unfold State.reach_
  repeat' first
    | (with_reducible first | assumption | apply fset_keeps)
    | (simp only [keeps_mk]; with_reducible apply keepsAt_of) | split | dsimp only | intro _

theorem putPortState_keeps {σ : State} (s : State) (n st : Nat) (hk : Keeps σ s) :
    Keeps σ (State.putPortState s n st) := by
  unfold State.putPortState
  repeat' first
    | (with_reducible first | assumption | apply fset_keeps | apply raise_keeps)
    | (simp only [keeps_mk]; with_reducible apply keepsAt_of) | split | dsimp only | intro _

theorem setWidth_keeps {σ : State} (s : State) (c : Nat) (hk : Keeps σ s) :
    Keeps σ (State.setWidth s c) := by
  unfold State.setWidth
  repeat' first
    | (with_reducible first | assumption | apply setReg_keeps | apply fset_keeps)
    | (simp only [keeps_mk]; with_reducible apply keepsAt_of) | split | dsimp only | intro _

theorem recountPart_keeps {σ : State} (s : State) (p : Nat) (hk : Keeps σ s) :
    Keeps σ (State.recountPart s p) := by
  unfold State.recountPart
  repeat' first
    | (with_reducible first | assumption | apply setReg_keeps | apply fset_keeps)
    | (simp only [keeps_mk]; with_reducible apply keepsAt_of) | split | dsimp only | intro _

theorem rewidthPart_keeps {σ : State} (s : State) (p : Nat) (hk : Keeps σ s) :
    Keeps σ (State.rewidthPart s p) := by
  unfold State.rewidthPart
  repeat' first
    | (with_reducible first | assumption | apply fset_keeps | apply setWidth_keeps
                            | refine foldl_keeps (fun _ _ _ => ?_) ?_)
    | (simp only [keeps_mk]; with_reducible apply keepsAt_of) | split | dsimp only | intro _

theorem recountPackage_keeps {σ : State} (s : State) (hk : Keeps σ s) :
    Keeps σ (State.recountPackage s) := by
  unfold State.recountPackage
  repeat' first
    | (with_reducible first | assumption | apply setReg_keeps | apply fset_keeps
                            | refine foldl_keeps (fun _ _ _ => ?_) ?_)
    | (simp only [keeps_mk]; with_reducible apply keepsAt_of) | split | dsimp only | intro _

theorem recount_keeps {σ : State} (s : State) (p : Option Nat) (hk : Keeps σ s) :
    Keeps σ (State.recount s p) := by
  unfold State.recount
  repeat' first
    | (with_reducible first | assumption | apply fset_keeps | apply recountPart_keeps | apply recountPackage_keeps)
    | (simp only [keeps_mk]; with_reducible apply keepsAt_of) | split | dsimp only | intro _

theorem loadTransitPart_keeps {σ : State} (s : State) (p : Nat) (hk : Keeps σ s) :
    Keeps σ (State.loadTransitPart s p) := by
  unfold State.loadTransitPart
  repeat' first
    | (with_reducible first | assumption | apply fset_keeps)
    | (simp only [keeps_mk]; with_reducible apply keepsAt_of) | split | dsimp only | intro _

theorem loadTransitHeader_keeps {σ : State} (s : State) (hk : Keeps σ s) :
    Keeps σ (State.loadTransitHeader s) := by
  unfold State.loadTransitHeader
  repeat' first
    | (with_reducible first | assumption | apply fset_keeps)
    | (simp only [keeps_mk]; with_reducible apply keepsAt_of) | split | dsimp only | intro _

theorem loadWeights_keeps {σ : State} (s : State) (n : Nat) (hk : Keeps σ s) :
    Keeps σ (State.loadWeights s n) := by
  unfold State.loadWeights
  repeat' first
    | (with_reducible first | assumption | apply fset_keeps)
    | (simp only [keeps_mk]; with_reducible apply keepsAt_of) | split | dsimp only | intro _

theorem loadMode_keeps {σ : State} (s : State) (c : Nat) (hk : Keeps σ s) :
    Keeps σ (State.loadMode s c) := by
  unfold State.loadMode
  repeat' first
    | (with_reducible first | assumption | apply fset_keeps)
    | (simp only [keeps_mk]; with_reducible apply keepsAt_of) | split | dsimp only | intro _

theorem loadChan_keeps {σ : State} (s : State) (n : Nat) (hk : Keeps σ s) :
    Keeps σ (State.loadChan s n) := by
  unfold State.loadChan
  repeat' first
    | (with_reducible first | assumption | apply fset_keeps)
    | (simp only [keeps_mk]; with_reducible apply keepsAt_of) | split | dsimp only | intro _

theorem loadSlice_keeps {σ : State} (s : State) (n : Nat) (hk : Keeps σ s) :
    Keeps σ (State.loadSlice s n) := by
  unfold State.loadSlice
  repeat' first
    | (with_reducible first | assumption | apply fset_keeps)
    | (simp only [keeps_mk]; with_reducible apply keepsAt_of) | split | dsimp only | intro _

theorem loadRegions_keeps {σ : State} (s : State) (p : Nat) (hk : Keeps σ s) :
    Keeps σ (State.loadRegions s p) := by
  unfold State.loadRegions
  repeat' first
    | (with_reducible first | assumption | apply fset_keeps | refine foldl_keeps (fun _ _ _ => ?_) ?_)
    | (simp only [keeps_mk]; with_reducible apply keepsAt_of) | split | dsimp only | intro _

theorem loadPart_keeps {σ : State} (s : State) (has : Nat → Bool) (p : Nat) (hk : Keeps σ s) :
    Keeps σ (State.loadPart s has p) := by
  unfold State.loadPart
  repeat' first
    | (with_reducible first | assumption | apply recountPart_keeps | apply rewidthPart_keeps
                            | apply loadTransitPart_keeps | apply loadWeights_keeps | apply loadMode_keeps
                            | apply loadRegions_keeps | refine foldl_keeps (fun _ _ _ => ?_) ?_)
    | (simp only [keeps_mk]; with_reducible apply keepsAt_of) | split | dsimp only | intro _

theorem loadHash_keeps {σ : State} (s : State) (hk : Keeps σ s) :
    Keeps σ (State.loadHash s) := by
  unfold State.loadHash
  repeat' first
    | (with_reducible first | assumption | apply setReg_keeps | refine foldl_keeps (fun _ _ _ => ?_) ?_)
    | (simp only [keeps_mk]; with_reducible apply keepsAt_of) | split | dsimp only | intro _

theorem disableMap_keeps {σ : State} (s : State) (r : Nat) (hk : Keeps σ s) :
    Keeps σ (State.disableMap s r) := by
  unfold State.disableMap
  repeat' first
    | (with_reducible first | assumption | apply fset_keeps | refine foldl_keeps (fun _ _ _ => ?_) ?_)
    | (simp only [keeps_mk]; with_reducible apply keepsAt_of) | split | dsimp only | intro _

theorem disableMaps_keeps {σ : State} (s : State) (ch : Nat) (hk : Keeps σ s) :
    Keeps σ (State.disableMaps s ch) := by
  unfold State.disableMaps
  repeat' first
    | (with_reducible first | assumption | apply disableMap_keeps | refine foldl_keeps (fun _ _ _ => ?_) ?_)
    | (simp only [keeps_mk]; with_reducible apply keepsAt_of) | split | dsimp only | intro _

theorem reportHeld_keeps {σ : State} (s : State) (pa : Nat) (hk : Keeps σ s) :
    Keeps σ (State.reportHeld s pa) := by
  unfold State.reportHeld
  repeat' first
    | (with_reducible first | assumption | apply report_keeps)
    | (simp only [keeps_mk]; with_reducible apply keepsAt_of) | split | dsimp only | intro _

theorem paStore_keeps {σ : State} (s : State) (pa : Nat) (bs : List Byte) (hk : Keeps σ s) :
    Keeps σ (State.paStore s pa bs) := by
  unfold State.paStore
  repeat' first
    | (with_reducible first | assumption | apply write_keeps | apply keepsO_getD
                            | refine foldl_keeps (fun _ _ _ => ?_) ?_)
    | (simp only [keeps_mk]; with_reducible apply keepsAt_of) | split | dsimp only | intro _

theorem correct_keeps {σ : State} (s : State) (a n src code : Nat) (cnt : Option Fld) (hk : Keeps σ s) :
    Keeps σ (State.correct s a n src code cnt) := by
  unfold State.correct
  repeat' first
    | (with_reducible first | assumption | apply fincSat_keeps | apply reportOpen_keeps
                            | refine foldl_keeps (fun _ _ _ => ?_) ?_)
    | (simp only [keeps_mk]; with_reducible apply keepsAt_of) | split | dsimp only | intro _

theorem correctAt_keeps {σ : State} (s : State) (l : Loc) (n : Nat) (hk : Keeps σ s) :
    Keeps σ (State.correctAt s l n) := by
  unfold State.correctAt
  repeat' first
    | (with_reducible first | assumption | apply correct_keeps)
    | (simp only [keeps_mk]; with_reducible apply keepsAt_of) | split | dsimp only | intro _

theorem queueRead_keeps {σ : State} (s : State) (ch loc cls : Nat) (hk : Keeps σ s) :
    Keeps σ (State.queueRead s ch loc cls) := by
  unfold State.queueRead
  repeat' first
    | (with_reducible first | assumption | apply setChan_keeps)
    | (simp only [keeps_mk]; with_reducible apply keepsAt_of) | split | dsimp only | intro _

theorem queueWrite_keeps {σ : State} (s : State) (ch loc : Nat) (hk : Keeps σ s) :
    Keeps σ (State.queueWrite s ch loc) := by
  unfold State.queueWrite
  repeat' first
    | (with_reducible first | assumption | apply setChan_keeps)
    | (simp only [keeps_mk]; with_reducible apply keepsAt_of) | split | dsimp only | intro _

theorem writeBack_keeps {σ : State} (s : State) (line : Nat) (hk : Keeps σ s) :
    Keeps σ (State.writeBack s line) := by
  unfold State.writeBack
  repeat' first
    | (with_reducible first | assumption | apply setPoison_keeps | apply clearPoison_keeps | apply correctAt_keeps
                            | apply queueWrite_keeps | refine foldl_keeps (fun _ _ _ => ?_) ?_)
    | (simp only [keeps_mk]; with_reducible apply keepsAt_of) | split | dsimp only | intro _

theorem evictLine_keeps {σ : State} (s : State) (line : Nat) (hk : Keeps σ s) :
    Keeps σ (State.evictLine s line) := by
  unfold State.evictLine
  repeat' first
    | (with_reducible first | assumption | apply setDirLine_keeps | apply clearPoison_keeps | apply writeBack_keeps)
    | (simp only [keeps_mk]; with_reducible apply keepsAt_of) | split | dsimp only | intro _

theorem homeWrite_keeps {σ : State} (s : State) (l : Loc) (hk : Keeps σ s) :
    Keeps σ (State.homeWrite s l) := by
  unfold State.homeWrite
  repeat' first
    | (with_reducible first | assumption | apply setDirLine_keeps | apply queueWrite_keeps)
    | (simp only [keeps_mk]; with_reducible apply keepsAt_of) | split | dsimp only | intro _

theorem cleanOwner_keeps {σ : State} (s : State) (l : Loc) (hk : Keeps σ s) :
    Keeps σ (State.cleanOwner s l) := by
  unfold State.cleanOwner
  repeat' first
    | (with_reducible first | assumption | apply setDirLine_keeps | apply homeWrite_keeps)
    | (simp only [keeps_mk]; with_reducible apply keepsAt_of) | split | dsimp only | intro _

theorem fillLine_keeps {σ : State} (s : State) (l : Loc) (ch loc cls : Nat) (hk : Keeps σ s) :
    Keeps σ (State.fillLine s l ch loc cls) := by
  unfold State.fillLine
  repeat' first
    | (with_reducible first | assumption | apply finc_keeps | apply setDirLine_keeps | apply setPoison_keeps
                            | apply correct_keeps | apply queueRead_keeps | refine foldl_keeps (fun _ _ _ => ?_) ?_)
    | (simp only [keeps_mk]; with_reducible apply keepsAt_of) | split | dsimp only | intro _

theorem readLine_keeps {σ : State} (s : State) (l : Loc) (cls : Nat) (hk : Keeps σ s) :
    Keeps σ (State.readLine s l cls) := by
  unfold State.readLine
  repeat' first
    | (with_reducible first | assumption | apply finc_keeps | apply drawn_keeps | apply queueRead_keeps
                            | apply evictLine_keeps | apply cleanOwner_keeps | apply fillLine_keeps)
    | (simp only [keeps_mk]; with_reducible apply keepsAt_of) | split | dsimp only | intro _

theorem drainWcb_keeps {σ : State} (s : State) (m : Nat) (e : WcbEntry) (hk : Keeps σ s) :
    Keeps σ (State.drainWcb s m e) := by
  unfold State.drainWcb
  repeat' first
    | (with_reducible first | assumption | apply finc_keeps | apply setWcbOf_keeps | apply correctAt_keeps
                            | apply homeWrite_keeps | apply readLine_keeps)
    | (simp only [keeps_mk]; with_reducible apply keepsAt_of) | split | dsimp only | intro _

theorem combine_keeps {σ : State} (s : State) (m line off : Nat) (bs : List Byte) (hk : Keeps σ s) :
    Keeps σ (State.combine s m line off bs) := by
  unfold State.combine
  repeat' first
    | (with_reducible first | assumption | apply setWcbOf_keeps | apply drainWcb_keeps | apply keepsO_getD)
    | (simp only [keeps_mk]; with_reducible apply keepsAt_of) | split | dsimp only | intro _

theorem drainLine_keeps {σ : State} (s : State) (m line : Nat) (hk : Keeps σ s) :
    Keeps σ (State.drainLine s m line) := by
  unfold State.drainLine
  repeat' first
    | (with_reducible first | assumption | apply drainWcb_keeps)
    | (simp only [keeps_mk]; with_reducible apply keepsAt_of) | split | dsimp only | intro _

theorem drainLines_keeps {σ : State} (s : State) (ls : List Nat) (hk : Keeps σ s) :
    Keeps σ (State.drainLines s ls) := by
  unfold State.drainLines
  repeat' first
    | (with_reducible first | assumption | apply drainLine_keeps | refine foldl_keeps (fun _ _ _ => ?_) ?_)
    | (simp only [keeps_mk]; with_reducible apply keepsAt_of) | split | dsimp only | intro _

theorem writeLine_keeps {σ : State} (s : State) (l : Loc) (bs : List Byte) (hk : Keeps σ s) :
    Keeps σ (State.writeLine s l bs) := by
  unfold State.writeLine
  repeat' first
    | (with_reducible first | assumption | apply setDirLine_keeps | apply setWcbOf_keeps | apply homeWrite_keeps
                            | apply cleanOwner_keeps | apply combine_keeps)
    | (simp only [keeps_mk]; with_reducible apply keepsAt_of) | split | dsimp only | intro _

theorem writeBackPart_keeps {σ : State} (s : State) (p : Nat) (hk : Keeps σ s) :
    Keeps σ (State.writeBackPart s p) := by
  unfold State.writeBackPart
  repeat' first
    | (with_reducible first | assumption | apply evictLine_keeps | refine foldl_keeps (fun _ _ _ => ?_) ?_)
    | (simp only [keeps_mk]; with_reducible apply keepsAt_of) | split | dsimp only | intro _

theorem endPoison_keeps {σ : State} (s : State) (l : Loc) (n : Nat) (hk : Keeps σ s) :
    Keeps σ (State.endPoison s l n) := by
  unfold State.endPoison
  repeat' first
    | (with_reducible first | assumption | apply clearPoison_keeps)
    | (simp only [keeps_mk]; with_reducible apply keepsAt_of) | split | dsimp only | intro _

theorem storePa_keeps {σ : State} (s : State) (pa : Nat) (bs : List Byte) (hk : Keeps σ s) :
    Keeps σ (State.storePa s pa bs) := by
  unfold State.storePa
  repeat' first
    | (with_reducible first | assumption | apply paStore_keeps | apply writeLine_keeps | apply endPoison_keeps
                            | refine foldl_keeps (fun _ _ _ => ?_) ?_)
    | (simp only [keeps_mk]; with_reducible apply keepsAt_of) | split | dsimp only | intro _

theorem touchPa_keeps {σ : State} (s : State) (pa n cls : Nat) (hk : Keeps σ s) :
    Keeps σ (State.touchPa s pa n cls) := by
  unfold State.touchPa
  repeat' first
    | (with_reducible first | assumption | apply correctAt_keeps | apply readLine_keeps
                            | refine foldl_keeps (fun _ _ _ => ?_) ?_)
    | (simp only [keeps_mk]; with_reducible apply keepsAt_of) | split | dsimp only | intro _

theorem storePad_keeps {σ : State} (s : State) (c off : Nat) (bs : List Byte) (hk : Keeps σ s) :
    Keeps σ (State.storePad s c off bs) := by
  unfold State.storePad
  repeat' first
    | (with_reducible first | assumption | apply write_keeps | apply clearPoison_keeps)
    | (simp only [keeps_mk]; with_reducible apply keepsAt_of) | split | dsimp only | intro _

theorem readPad_keeps {σ : State} (s : State) (c off n : Nat) (hk : Keeps σ s) :
    Keeps σ (State.readPad s c off n) := by
  unfold State.readPad
  repeat' first
    | (with_reducible first | assumption | apply correctAt_keeps)
    | (simp only [keeps_mk]; with_reducible apply keepsAt_of) | split | dsimp only | intro _

theorem onOp_keeps {σ : State} (s : State) (k : Nat) (f : Op → Op) (hk : Keeps σ s) :
    Keeps σ (State.onOp s k f) := by
  unfold State.onOp
  repeat' first
    | (with_reducible first | assumption | apply setOp_keeps)
    | (simp only [keeps_mk]; with_reducible apply keepsAt_of) | split | dsimp only | intro _

theorem closeOp_keeps {σ : State} (s : State) (k : Nat) (f : Op → Op) (hk : Keeps σ s) :
    Keeps σ (State.closeOp s k f) := by
  unfold State.closeOp
  repeat' first
    | (with_reducible first | assumption | apply setOp_keeps | exact keepsO_none | apply keepsO_some
                            | exact keepsOP_none | apply keepsOP_some | apply keepsP_mk
                            | refine keepsO_elim (by assumption) ?_ | exact keepsO_get (by assumption)
                            | refine keepsP_elim (by assumption) ?_ | exact keepsP_get (by assumption)
                            | refine keepsOP_elim (by assumption) ?_ | exact keepsOP_get (by assumption)
                            | refine keepsOP_elim1 (by assumption) ?_ | exact keepsOP_get1 (by assumption))
    | (simp only [keeps_mk]; with_reducible apply keepsAt_of) | split | dsimp only | intro _

theorem endOp_keeps {σ : State} (s : State) (k status : Nat) (hk : Keeps σ s) :
    Keeps σ (State.endOp s k status) := by
  unfold State.endOp
  repeat' first
    | (with_reducible first | assumption | apply closeOp_keeps)
    | (simp only [keeps_mk]; with_reducible apply keepsAt_of) | split | dsimp only | intro _

theorem flagOp_keeps {σ : State} (s : State) (k flags : Nat) (hk : Keeps σ s) :
    Keeps σ (State.flagOp s k flags) := by
  unfold State.flagOp
  repeat' first
    | (with_reducible first | assumption | apply onOp_keeps)
    | (simp only [keeps_mk]; with_reducible apply keepsAt_of) | split | dsimp only | intro _

theorem beginOp_keeps {σ : State} (s : State) (k : Nat) (hk : Keeps σ s) :
    Keeps σ (State.beginOp s k) := by
  unfold State.beginOp
  repeat' first
    | (with_reducible first | assumption | apply onOp_keeps)
    | (simp only [keeps_mk]; with_reducible apply keepsAt_of) | split | dsimp only | intro _

theorem endValue_keeps {σ : State} (s : State) (k status flags : Nat) (v : Word) (hk : Keeps σ s) :
    Keeps σ (State.endValue s k status flags v) := by
  unfold State.endValue
  repeat' first
    | (with_reducible first | assumption | apply closeOp_keeps)
    | (simp only [keeps_mk]; with_reducible apply keepsAt_of) | split | dsimp only | intro _

theorem endPartOps_keeps {σ : State} (s : State) (p status flags : Nat) (hk : Keeps σ s) :
    Keeps σ (State.endPartOps s p status flags) := by
  unfold State.endPartOps
  repeat' first
    | (with_reducible first | assumption | apply endOp_keeps | apply flagOp_keeps
                            | refine foldl_keeps (fun _ _ _ => ?_) ?_)
    | (simp only [keeps_mk]; with_reducible apply keepsAt_of) | split | dsimp only | intro _

theorem popQueue_keeps {σ : State} (s : State) (c : Nat) (q : EngineQ) (hk : Keeps σ s) :
    Keeps σ (State.popQueue s c q) := by
  unfold State.popQueue
  repeat' first
    | (with_reducible first | assumption | apply onMe_keeps | apply onVe_keeps | apply onFe_keeps)
    | (simp only [keeps_mk]; with_reducible apply keepsAt_of) | split | dsimp only | intro _

theorem answer_keeps {σ : State} (s : State) (w : Who) (a : Answer) (b : Nat) (ok orphan : Bool) (v : Word) (hk : Keeps σ s) :
    Keeps σ (State.answer s w a b ok orphan v) := by
  unfold State.answer
  repeat' first
    | (with_reducible first | assumption | apply emit_keeps | apply endValue_keeps | apply popQueue_keeps)
    | (simp only [keeps_mk]; with_reducible apply keepsAt_of) | split | dsimp only | intro _

theorem refuseAccess_keeps {σ : State} (s : State) (w : Who) (a : Answer) (hk : Keeps σ s) :
    Keeps σ (State.refuseAccess s w a) := by
  unfold State.refuseAccess
  repeat' first
    | (with_reducible first | assumption | apply emit_keeps | apply endValue_keeps)
    | (simp only [keeps_mk]; with_reducible apply keepsAt_of) | split | dsimp only | intro _

theorem refuseBeacon_keeps {σ : State} (s : State) (w : Who) (a : Answer) (hk : Keeps σ s) :
    Keeps σ (State.refuseBeacon s w a) := by
  unfold State.refuseBeacon
  repeat' first
    | (with_reducible first | assumption | apply finc_keeps | apply refuseAccess_keeps)
    | (simp only [keeps_mk]; with_reducible apply keepsAt_of) | split | dsimp only | intro _

theorem raiseEvent_keeps {σ : State} (s : State) (b : Beacon) (hk : Keeps σ s) :
    Keeps σ (State.raiseEvent s b) := by
  unfold State.raiseEvent
  repeat' first
    | (with_reducible first | assumption | apply raise_keeps)
    | (simp only [keeps_mk]; with_reducible apply keepsAt_of) | split | dsimp only | intro _

theorem answerAll_keeps {σ : State} (s : State) (ws : List Waiter) (ok : Bool) (v : Word) (hk : Keeps σ s) :
    Keeps σ (State.answerAll s ws ok v) := by
  unfold State.answerAll
  repeat' first
    | (with_reducible first | assumption | apply answer_keeps | refine foldl_keeps (fun _ _ _ => ?_) ?_)
    | (simp only [keeps_mk]; with_reducible apply keepsAt_of) | split | dsimp only | intro _

theorem putBeacon_keeps {σ : State} (s : State) (b : Nat) (v : Word) (hk : Keeps σ s) :
    Keeps σ (State.putBeacon s b v) := by
  unfold State.putBeacon
  dsimp only
  apply answerAll_keeps
  apply keeps_waiters
  · split
    · exact raiseEvent_keeps _ _ (setBeacon_keeps _ _ _ hk)
    · exact setBeacon_keeps _ _ _ hk
  · exact tabled_filter _ _

theorem grantLock_keeps {σ : State} (s : State) (b : Nat) (w : Who) (a : Answer) (hk : Keeps σ s) :
    Keeps σ (State.grantLock s b w a) := by
  unfold State.grantLock
  repeat' first
    | (with_reducible first | assumption | apply answer_keeps | apply putBeacon_keeps)
    | (simp only [keeps_mk]; with_reducible apply keepsAt_of) | split | dsimp only | intro _

theorem passLock_keeps {σ : State} (s : State) (b : Nat) (hk : Keeps σ s) :
    Keeps σ (State.passLock s b) := by
  unfold State.passLock
  split
  · exact grantLock_keeps _ _ _ _ (keeps_waiters hk _ (tabled_erase _ _))
  · exact putBeacon_keeps _ _ _ hk

theorem joinWaiters_some {σ : State} (s : State) (w : Who) (a : Answer) (b prio : Nat) (thr : Option Word) (tb : Bool) (hk : Keeps σ s) :
    Keeps σ (if (tb && decide (65536 ≤ s.tableUsed)) = true then
        (s.answer w a b false false (s.beacon b).value).finc R.BCN_CNT.wait_full 1
      else
        { s with waiters := s.waiters ++ [{ beacon := b, who := w, ans := a, prio := prio, threshold := thr,
                                            tabled := tb, epoch := s.epochOf w }] }) := by
  split
  · exact finc_keeps _ _ _ (answer_keeps _ _ _ _ _ _ _ hk)
  · next h =>
    refine inv_reports hk rfl rfl rfl rfl (fun i => ⟨i.1, i.2.1, i.2.2.1, i.2.2.2.1, ?_, i.2.2.2.2.2⟩)
    have h5 := i.2.2.2.2.1
    simp only [State.tableUsed, List.filter_append, List.length_append] at h h5 ⊢
    cases tb
    · simpa using h5
    · simp only [Bool.true_and] at h
      exact Nat.le_trans (Nat.add_le_add_left (List.length_filter_le _ _) _) (Nat.lt_of_not_le (fun g => h (decide_eq_true g)))

theorem joinWaiters_keeps {σ : State} (s : State) (w : Who) (a : Answer) (b prio : Nat) (thr : Option Word) (hk : Keeps σ s) :
    Keeps σ (State.joinWaiters s w a b prio thr) := joinWaiters_some s w a b prio thr _ hk

theorem hwAddN_keeps {σ : State} (s : State) (b unit n : Nat) (hk : Keeps σ s) :
    Keeps σ (State.hwAddN s b unit n) := by
  unfold State.hwAddN
  repeat' first
    | (with_reducible first | assumption | apply finc_keeps | apply report_keeps | apply putBeacon_keeps)
    | (simp only [keeps_mk]; with_reducible apply keepsAt_of) | split | dsimp only | intro _

theorem hwAdd_keeps {σ : State} (s : State) (b unit : Nat) (hk : Keeps σ s) :
    Keeps σ (State.hwAdd s b unit) := by
  unfold State.hwAdd
  repeat' first
    | (with_reducible first | assumption | apply hwAddN_keeps)
    | (simp only [keeps_mk]; with_reducible apply keepsAt_of) | split | dsimp only | intro _

theorem bcnRead_keeps {σ : State} (s : State) (w : Who) (a : Answer) (b : Nat) (hk : Keeps σ s) :
    Keeps σ (State.bcnRead s w a b) := by
  unfold State.bcnRead
  repeat' first
    | (with_reducible first | assumption | apply answer_keeps | apply refuseBeacon_keeps)
    | (simp only [keeps_mk]; with_reducible apply keepsAt_of) | split | dsimp only | intro _

theorem bcnAdd_keeps {σ : State} (s : State) (w : Who) (a : Answer) (b : Nat) (operand : Word) (hk : Keeps σ s) :
    Keeps σ (State.bcnAdd s w a b operand) := by
  unfold State.bcnAdd
  repeat' first
    | (with_reducible first | assumption | apply answer_keeps | apply refuseBeacon_keeps | apply putBeacon_keeps)
    | (simp only [keeps_mk]; with_reducible apply keepsAt_of) | split | dsimp only | intro _

theorem bcnSet_keeps {σ : State} (s : State) (w : Who) (a : Answer) (b : Nat) (operand : Word) (hk : Keeps σ s) :
    Keeps σ (State.bcnSet s w a b operand) := by
  unfold State.bcnSet
  repeat' first
    | (with_reducible first | assumption | apply answer_keeps | apply refuseBeacon_keeps | apply putBeacon_keeps)
    | (simp only [keeps_mk]; with_reducible apply keepsAt_of) | split | dsimp only | intro _

theorem bcnCas_keeps {σ : State} (s : State) (w : Who) (a : Answer) (b : Nat) (operand compare : Word) (hk : Keeps σ s) :
    Keeps σ (State.bcnCas s w a b operand compare) := by
  unfold State.bcnCas
  repeat' first
    | (with_reducible first | assumption | apply answer_keeps | apply refuseBeacon_keeps | apply putBeacon_keeps)
    | (simp only [keeps_mk]; with_reducible apply keepsAt_of) | split | dsimp only | intro _

theorem bcnWait_keeps {σ : State} (s : State) (w : Who) (a : Answer) (b prio : Nat) (thr : Word) (hk : Keeps σ s) :
    Keeps σ (State.bcnWait s w a b prio thr) := by
  unfold State.bcnWait
  repeat' first
    | (with_reducible first | assumption | apply answer_keeps | apply refuseBeacon_keeps | apply joinWaiters_keeps)
    | (simp only [keeps_mk]; with_reducible apply keepsAt_of) | split | dsimp only | intro _

theorem bcnArm_keeps {σ : State} (s : State) (w : Who) (a : Answer) (b : Nat) (operand : Word) (hk : Keeps σ s) :
    Keeps σ (State.bcnArm s w a b operand) := by
  unfold State.bcnArm
  repeat' first
    | (with_reducible first | assumption | apply setBeacon_keeps | apply answer_keeps | apply refuseBeacon_keeps
                            | apply raiseEvent_keeps)
    | (simp only [keeps_mk]; with_reducible apply keepsAt_of) | split | dsimp only | intro _

theorem bcnAcquire_keeps {σ : State} (s : State) (w : Who) (a : Answer) (b prio : Nat) (hk : Keeps σ s) :
    Keeps σ (State.bcnAcquire s w a b prio) := by
  unfold State.bcnAcquire
  repeat' first
    | (with_reducible first | assumption | apply refuseBeacon_keeps | apply grantLock_keeps
                            | apply joinWaiters_keeps)
    | (simp only [keeps_mk]; with_reducible apply keepsAt_of) | split | dsimp only | intro _

theorem bcnRelease_keeps {σ : State} (s : State) (w : Who) (a : Answer) (b : Nat) (hk : Keeps σ s) :
    Keeps σ (State.bcnRelease s w a b) := by
  unfold State.bcnRelease
  repeat' first
    | (with_reducible first | assumption | apply answer_keeps | apply refuseBeacon_keeps | apply passLock_keeps)
    | (simp only [keeps_mk]; with_reducible apply keepsAt_of) | split | dsimp only | intro _

theorem bcnReprio_keeps {σ : State} (s : State) (w : Who) (a : Answer) (b prio : Nat) (hk : Keeps σ s) :
    Keeps σ (State.bcnReprio s w a b prio) := by
  unfold State.bcnReprio
  dsimp only
  split
  · exact refuseBeacon_keeps _ _ _ hk
  · apply answer_keeps
    split
    · refine keeps_waiters hk _ (Nat.le_of_eq ?_)
      simp only [State.tableUsed, List.filter_map, List.length_map]
      congr 2
      funext x
      simp only [Function.comp]
      split <;> rfl
    · split
      · exact hk
      · exact hk

theorem startScan_keeps {σ : State} (s : State) (hk : Keeps σ s) :
    Keeps σ (State.startScan s) := by
  unfold State.startScan
  repeat' first
    | (with_reducible first | assumption)
    | (simp only [keeps_mk]; with_reducible apply keepsAt_of) | split | dsimp only | intro _

theorem markOrphans_keeps {σ : State} (s : State) (f : Word → Bool) (hk : Keeps σ s) :
    Keeps σ (State.markOrphans s f) := by
  unfold State.markOrphans
  repeat' first
    | (with_reducible first | assumption | apply setBeacon_keeps | refine foldl_keeps (fun _ _ _ => ?_) ?_)
    | (simp only [keeps_mk]; with_reducible apply keepsAt_of) | split | dsimp only | intro _

theorem scanAfter_keeps {σ : State} (s t : State) (hk : Keeps σ s) (h_t : Keeps σ t) :
    Keeps σ (State.scanAfter s t) := by
  unfold State.scanAfter
  repeat' first
    | (with_reducible first | assumption | apply startScan_keeps)
    | (simp only [keeps_mk]; with_reducible apply keepsAt_of) | split | dsimp only | intro _

theorem advanceEpoch_keeps {σ : State} (s : State) (w : Who) (hk : Keeps σ s) : Keeps σ (State.advanceEpoch s w) := by
  unfold State.advanceEpoch
  split
  · exact hk
  · have h : ∀ i v, Keeps σ { s.setOwnerEpoch i v with waiters := (s.setOwnerEpoch i v).waiters.filter (fun x => !(x.who == w)) } :=
      fun i v => keeps_waiters (setOwnerEpoch_keeps s i v hk) _ (tabled_filter _ _)
    dsimp only
    split
    · exact h _ _
    · exact markOrphans_keeps _ _ (h _ _)

theorem advanceEpochs_keeps {σ : State} (s : State) (ws : List Who) (hk : Keeps σ s) :
    Keeps σ (State.advanceEpochs s ws) := by
  unfold State.advanceEpochs
  repeat' first
    | (with_reducible first | assumption | apply scanAfter_keeps | apply advanceEpoch_keeps
                            | refine foldl_keeps (fun _ _ _ => ?_) ?_)
    | (simp only [keeps_mk]; with_reducible apply keepsAt_of) | split | dsimp only | intro _

theorem orphanLdn_keeps {σ : State} (s : State) (ldn : Nat) (hk : Keeps σ s) :
    Keeps σ (State.orphanLdn s ldn) := by
  unfold State.orphanLdn
  repeat' first
    | (with_reducible first | assumption | apply startScan_keeps | apply markOrphans_keeps)
    | (simp only [keeps_mk]; with_reducible apply keepsAt_of) | split | dsimp only | intro _

theorem coldReset_keeps {σ : State} (s : State) (hk : Keeps σ s) : Keeps σ (State.coldReset s) :=
  inv_reports hk rfl rfl rfl rfl (fun _ => by
    refine ⟨rfl, rfl, Nat.zero_le _, Nat.zero_le _, Nat.zero_le _, Nat.zero_le _, ⟨List.nodup_nil, fun r h => ?_⟩, Nat.zero_le _⟩
    cases h)

theorem warmReset_keeps {σ : State} (s : State) (cause : Nat) (hk : Keeps σ s) : Keeps σ (State.warmReset s cause) := by
  unfold State.warmReset
  dsimp only
  have h : ∀ n : Nwt, Keeps σ
      { State.reset with
        pending := s.pending, clock := s.clock, free := s.free, out := s.out, nv := s.nv, alm := keepDrives s.alm,
        pins := s.pins, nwt := n, regs := resetRegs warmWord s.regs,
        tcores := keepRetired s.tcores, pcores := keepRetiredP s.pcores, ses := keepRetiredSe s.ses,
        llmRetired := s.llmRetired, portsRetired := s.portsRetired, reports := s.reports, fatals := s.fatals, logMeta := s.logMeta } :=
    fun n => inv_reports hk rfl rfl rfl rfl (fun i => by
      refine ⟨rfl, assocWf_resetRegs _ _ i.2.1, i.2.2.1, i.2.2.2.1, Nat.zero_le _, Nat.zero_le _, ⟨List.nodup_nil, fun r h => ?_⟩, Nat.zero_le _⟩
      cases h)
  split
  · exact fset_keeps _ _ _ (h _)
  · exact fset_keeps _ _ _ (fset_keeps _ _ _ (h _))

theorem packageFatal_keeps {σ : State} (s : State) (source code : Nat) (hk : Keeps σ s) :
    Keeps σ (State.packageFatal s source code) := by
  unfold State.packageFatal
  repeat' first
    | (with_reducible first | assumption | apply reportOpen_keeps | apply warmReset_keeps)
    | (simp only [keeps_mk]; with_reducible apply keepsAt_of) | split | dsimp only | intro _

theorem resetTcore_keeps {σ : State} (s : State) (c : Nat) (hk : Keeps σ s) : Keeps σ (State.resetTcore s c) := by
  unfold State.resetTcore
  dsimp only
  exact setWidth_keeps _ _ (loadMode_keeps _ _ (setRecorded_keeps _ _ _ (zero_keeps _ _ _ (setTcore_keeps _ _ _
    (keeps_resetRegs hk _)))))

theorem clearCluster_keeps {σ : State} (s : State) (k : Nat) (hk : Keeps σ s) :
    Keeps σ (State.clearCluster s k) := by
  unfold State.clearCluster
  repeat' first
    | (with_reducible first | assumption | apply setRecorded_keeps | apply zero_keeps)
    | (simp only [keeps_mk]; with_reducible apply keepsAt_of) | split | dsimp only | intro _

theorem resetCluster_keeps {σ : State} (s : State) (k : Nat) (hk : Keeps σ s) :
    Keeps σ (State.resetCluster s k) := by
  unfold State.resetCluster
  repeat' first
    | (with_reducible first | assumption | apply advanceEpochs_keeps | apply resetTcore_keeps
                            | apply clearCluster_keeps | refine foldl_keeps (fun _ _ _ => ?_) ?_)
    | (simp only [keeps_mk]; with_reducible apply keepsAt_of) | split | dsimp only | intro _

theorem resetStack_keeps {σ : State} (s : State) (n : Nat) (hk : Keeps σ s) :
    Keeps σ (State.resetStack s n) := by
  unfold State.resetStack
  repeat' first
    | (with_reducible first | assumption | apply setWcbOf_keeps | apply zero_keeps | apply resetCluster_keeps
                            | refine foldl_keeps (fun _ _ _ => ?_) ?_)
    | (simp only [keeps_mk]; with_reducible apply keepsAt_of) | split | dsimp only | intro _

theorem retireTcore_keeps {σ : State} (s : State) (c : Nat) (hk : Keeps σ s) :
    Keeps σ (State.retireTcore s c) := by
  unfold State.retireTcore
  repeat' first
    | (with_reducible first | assumption | apply fset_keeps | apply onCore_keeps | apply reportOpen_keeps
                            | apply recount_keeps | apply advanceEpochs_keeps | apply resetTcore_keeps)
    | (simp only [keeps_mk]; with_reducible apply keepsAt_of) | split | dsimp only | intro _

theorem retirePcore_keeps {σ : State} (s : State) (c : Nat) (hk : Keeps σ s) :
    Keeps σ (State.retirePcore s c) := by
  unfold State.retirePcore
  repeat' first
    | (with_reducible first | assumption | apply setPcore_keeps | apply reportOpen_keeps | apply recount_keeps
                            | apply advanceEpochs_keeps)
    | (simp only [keeps_mk]; with_reducible apply keepsAt_of) | split | dsimp only | intro _

theorem onSolve_keeps {σ : State} (s : State) (n : Nat) (f : Solve → Solve) (hk : Keeps σ s) :
    Keeps σ (State.onSolve s n f) := by
  unfold State.onSolve
  repeat' first
    | (with_reducible first | assumption | apply setSe_keeps)
    | (simp only [keeps_mk]; with_reducible apply keepsAt_of) | split | dsimp only | intro _

theorem solveClock_keeps {σ : State} (s : State) (n : Nat) (hk : Keeps σ s) :
    Keeps σ (State.solveClock s n) := by
  unfold State.solveClock
  repeat' first
    | (with_reducible first | assumption | apply finc_keeps | apply onSolve_keeps)
    | (simp only [keeps_mk]; with_reducible apply keepsAt_of) | split | dsimp only | intro _

theorem shrinkSolves_keeps {σ : State} (s : State) (f : Solve → Bool) (hk : Keeps σ s) :
    Keeps σ (State.shrinkSolves s f) := by
  unfold State.shrinkSolves
  repeat' first
    | (with_reducible first | assumption | apply onSolve_keeps | refine foldl_keeps (fun _ _ _ => ?_) ?_)
    | (simp only [keeps_mk]; with_reducible apply keepsAt_of) | split | dsimp only | intro _

theorem loseSolve_keeps {σ : State} (s : State) (n : Nat) (hk : Keeps σ s) :
    Keeps σ (State.loseSolve s n) := by
  unfold State.loseSolve
  repeat' first
    | (with_reducible first | assumption | apply fset_keeps | apply setOp_keeps | apply onOp_keeps
                            | apply endOp_keeps | apply flagOp_keeps | apply solveClock_keeps
                            | apply shrinkSolves_keeps)
    | (simp only [keeps_mk]; with_reducible apply keepsAt_of) | split | dsimp only | intro _

theorem retireSe_keeps {σ : State} (s : State) (n : Nat) (hk : Keeps σ s) :
    Keeps σ (State.retireSe s n) := by
  unfold State.retireSe
  repeat' first
    | (with_reducible first | assumption | apply setSe_keeps | apply reportOpen_keeps | apply recount_keeps
                            | apply advanceEpochs_keeps | apply loseSolve_keeps)
    | (simp only [keeps_mk]; with_reducible apply keepsAt_of) | split | dsimp only | intro _

theorem retireNarrow_keeps {σ : State} (s : State) (p : Nat) (hk : Keeps σ s) :
    Keeps σ (State.retireNarrow s p) := by
  unfold State.retireNarrow
  repeat' first
    | (with_reducible first | assumption | apply reportOpen_keeps | apply retireTcore_keeps
                            | refine foldl_keeps (fun _ _ _ => ?_) ?_)
    | (simp only [keeps_mk]; with_reducible apply keepsAt_of) | split | dsimp only | intro _

theorem formPart_keeps {σ : State} (s : State) (has : Nat → Bool) (p : Nat) (hk : Keeps σ s) :
    Keeps σ (State.formPart s has p) := by
  unfold State.formPart
  repeat' first
    | (with_reducible first | assumption | apply rewidthPart_keeps | apply loadPart_keeps
                            | apply retireNarrow_keeps)
    | (simp only [keeps_mk]; with_reducible apply keepsAt_of) | split | dsimp only | intro _

theorem resetPartition_keeps {σ : State} (s : State) (p : Nat) (hk : Keeps σ s) : Keeps σ (State.resetPartition s p) := by
  unfold State.resetPartition
  dsimp only
  refine fset_keeps _ _ _ (formPart_keeps _ _ _ ?_)
  have h : ∀ {t : State} (f : Nat → Word → Word) (l : List (Nat × List Byte × Nat)), Keeps σ t →
      Keeps σ { t with resumes := l, regs := resetRegs f t.regs } := by
    intro t f l k
    have k1 : Keeps σ { t with resumes := l } := k
    exact keeps_resetRegs k1 f
  refine h _ _ (advanceEpochs_keeps _ _ (foldl_keeps (fun t u h => zero_keeps _ _ _ h) (foldl_keeps (fun t u h => setSe_keeps _ _ _ h)
    (foldl_keeps (fun t u h => setPcore_keeps _ _ _ h) (foldl_keeps (fun t u h => resetCluster_keeps _ _ h)
      (endPartOps_keeps _ _ _ _ hk))))))

theorem queueRecovery_keeps {σ : State} (s : State) (d : Domain) (hk : Keeps σ s) : Keeps σ (State.queueRecovery s d) := by
  unfold State.queueRecovery
  split
  · exact packageFatal_keeps _ _ _ hk
  · split
    · refine inv_reports hk rfl rfl rfl rfl (fun i => ⟨i.1, i.2.1, i.2.2.1, i.2.2.2.1, i.2.2.2.2.1, i.2.2.2.2.2.1, i.2.2.2.2.2.2.1, ?_⟩)
      simp only [List.length_append, List.length_singleton]
      omega
    · exact packageFatal_keeps _ _ _ hk

theorem withSections_keeps {σ : State} (s : State) (secs : List (List Byte)) (hk : Keeps σ s) :
    Keeps σ (State.withSections s secs) := by
  unfold State.withSections
  repeat' first
    | (with_reducible first | assumption)
    | (simp only [keeps_mk]; with_reducible apply keepsAt_of) | split | dsimp only | intro _

theorem afterImage_keeps {σ : State} (s : State) (i : PendingImg) (hk : Keeps σ s) :
    Keeps σ (State.afterImage s i) := by
  unfold State.afterImage
  repeat' first
    | (with_reducible first | assumption | apply withSections_keeps)
    | (simp only [keeps_mk]; with_reducible apply keepsAt_of) | split | dsimp only | intro _

theorem imageEvent_keeps {σ : State} (s : State) (r : Option (Nat × Nat)) (hk : Keeps σ s) :
    Keeps σ (State.imageEvent s r) := by
  unfold State.imageEvent
  repeat' first
    | (with_reducible first | assumption | apply emit_keeps | apply keepsO_getD)
    | (simp only [keeps_mk]; with_reducible apply keepsAt_of) | split | dsimp only | intro _

theorem withdrawImage_keeps {σ : State} (s : State) (p : Nat) (hk : Keeps σ s) :
    Keeps σ (State.withdrawImage s p) := by
  unfold State.withdrawImage
  repeat' first
    | (with_reducible first | assumption | apply fset_keeps | apply raise_keeps)
    | (simp only [keeps_mk]; with_reducible apply keepsAt_of) | split | dsimp only | intro _

theorem zeroClusters_keeps {σ : State} (s : State) (m : Nat) (hk : Keeps σ s) :
    Keeps σ (State.zeroClusters s m) := by
  unfold State.zeroClusters
  repeat' first
    | (with_reducible first | assumption | apply zero_keeps | refine foldl_keeps (fun _ _ _ => ?_) ?_)
    | (simp only [keeps_mk]; with_reducible apply keepsAt_of) | split | dsimp only | intro _

theorem beginApply_keeps {σ : State} (s : State) (p : Nat) (hk : Keeps σ s) :
    Keeps σ (State.beginApply s p) := by
  unfold State.beginApply
  repeat' first
    | (with_reducible first | assumption | apply fset_keeps | apply raise_keeps | apply disableMaps_keeps
                            | apply afterImage_keeps | refine foldl_keeps (fun _ _ _ => ?_) ?_)
    | (simp only [keeps_mk]; with_reducible apply keepsAt_of) | split | dsimp only | intro _

theorem leaveLlm_keeps {σ : State} (s : State) (p units : Nat) (cached : Bool) (hk : Keeps σ s) :
    Keeps σ (State.leaveLlm s p units cached) := by
  unfold State.leaveLlm
  repeat' first
    | (with_reducible first | assumption | apply zero_keeps | apply writeBackPart_keeps
                            | refine foldl_keeps (fun _ _ _ => ?_) ?_)
    | (simp only [keeps_mk]; with_reducible apply keepsAt_of) | split | dsimp only | intro _

theorem leaveRegions_keeps {σ : State} (s t : State) (p : Nat) (hk : Keeps σ s) (h_t : Keeps σ t) :
    Keeps σ (State.leaveRegions s t p) := by
  unfold State.leaveRegions
  repeat' first
    | (with_reducible first | assumption | apply fset_keeps | refine foldl_keeps (fun _ _ _ => ?_) ?_)
    | (simp only [keeps_mk]; with_reducible apply keepsAt_of) | split | dsimp only | intro _

theorem loadFull_keeps {σ : State} (s : State) (b : List Byte) (hk : Keeps σ s) :
    Keeps σ (State.loadFull s b) := by
  unfold State.loadFull
  repeat' first
    | (with_reducible first | assumption | apply setWidth_keeps | apply recountPackage_keeps
                            | apply loadTransitHeader_keeps | apply loadWeights_keeps | apply loadMode_keeps
                            | apply loadChan_keeps | apply loadSlice_keeps | apply loadHash_keeps
                            | apply formPart_keeps | apply withSections_keeps
                            | refine foldl_keeps (fun _ _ _ => ?_) ?_)
    | (simp only [keeps_mk]; with_reducible apply keepsAt_of) | split | dsimp only | intro _

theorem setPc_keeps {σ : State} (s : State) (u : CoreId) (pc : Word) (hk : Keeps σ s) :
    Keeps σ (State.setPc s u pc) := by
  unfold State.setPc
  repeat' first
    | (with_reducible first | assumption | apply setReg_keeps | apply onJumbe_keeps)
    | (simp only [keeps_mk]; with_reducible apply keepsAt_of) | split | dsimp only | intro _

theorem ccState_keeps {σ : State} (s : State) (u : CoreId) (v : Nat) (hk : Keeps σ s) :
    Keeps σ (State.ccState s u v) := by
  unfold State.ccState
  repeat' first
    | (with_reducible first | assumption | apply fset_keeps)
    | (simp only [keeps_mk]; with_reducible apply keepsAt_of) | split | dsimp only | intro _

theorem stepPc_keeps {σ : State} (s : State) (u : CoreId) (hk : Keeps σ s) :
    Keeps σ (State.stepPc s u) := by
  unfold State.stepPc
  repeat' first
    | (with_reducible first | assumption | apply setPc_keeps | apply ccState_keeps)
    | (simp only [keeps_mk]; with_reducible apply keepsAt_of) | split | dsimp only | intro _

theorem takeAt_keeps {σ : State} (s : State) (u : CoreId) (code queue : Nat) (pc : Word) (hk : Keeps σ s) :
    Keeps σ (State.takeAt s u code queue pc) := by
  unfold State.takeAt
  repeat' first
    | (with_reducible first | assumption | apply fset_keeps | apply onJumbe_keeps | apply setPc_keeps
                            | apply ccState_keeps)
    | (simp only [keeps_mk]; with_reducible apply keepsAt_of) | split | dsimp only | intro _

theorem takeException_keeps {σ : State} (s : State) (u : CoreId) (code queue : Nat) (hk : Keeps σ s) :
    Keeps σ (State.takeException s u code queue) := by
  unfold State.takeException
  repeat' first
    | (with_reducible first | assumption | apply takeAt_keeps)
    | (simp only [keeps_mk]; with_reducible apply keepsAt_of) | split | dsimp only | intro _

theorem leaveHandler_keeps {σ : State} (s : State) (u : CoreId) (hk : Keeps σ s) :
    Keeps σ (State.leaveHandler s u) := by
  unfold State.leaveHandler
  repeat' first
    | (with_reducible first | assumption | apply onJumbe_keeps | apply setPc_keeps | apply ccState_keeps)
    | (simp only [keeps_mk]; with_reducible apply keepsAt_of) | split | dsimp only | intro _

theorem pend_keeps {σ : State} (s : State) (u : CoreId) (code queue : Nat) (hk : Keeps σ s) :
    Keeps σ (State.pend s u code queue) := by
  unfold State.pend
  repeat' first
    | (with_reducible first | assumption | apply onJumbe_keeps)
    | (simp only [keeps_mk]; with_reducible apply keepsAt_of) | split | dsimp only | intro _

theorem illegal_keeps {σ : State} (s : State) (u : CoreId) (hk : Keeps σ s) :
    Keeps σ (State.illegal s u) := by
  unfold State.illegal
  repeat' first
    | (with_reducible first | assumption | apply takeException_keeps)
    | (simp only [keeps_mk]; with_reducible apply keepsAt_of) | split | dsimp only | intro _

theorem instr_ends {σ : State} (s : State) (u : CoreId) (srcs : List Src) (go : Jumbe → State) (h_go : ∀ a0, Keeps σ (go a0)) (hk : Keeps σ s) :
    Ends σ (State.instr s u srcs go) := by
  unfold State.instr
  repeat' first
    | (with_reducible first | assumption | apply h_go | apply ends_next | apply ends_whenever)
    | (simp only [keeps_mk]; with_reducible apply keepsAt_of) | split | dsimp only | intro _

theorem ctlInstr_ends {σ : State} (s : State) (u : CoreId) (srcs : List Src) (go : Nat → State) (h_go : ∀ a0, Keeps σ (go a0)) (hk : Keeps σ s) :
    Ends σ (State.ctlInstr s u srcs go) := by
  unfold State.ctlInstr
  repeat' first
    | (with_reducible first | assumption | apply h_go | apply illegal_keeps | apply instr_ends | apply ends_next
                            | apply ends_whenever)
    | (simp only [keeps_mk]; with_reducible apply keepsAt_of) | split | dsimp only | intro _

theorem retireInstr_keeps {σ : State} (s : State) (u : CoreId) (f : Jumbe → Jumbe) (hk : Keeps σ s) :
    Keeps σ (State.retireInstr s u f) := by
  unfold State.retireInstr
  repeat' first
    | (with_reducible first | assumption | apply onJumbe_keeps | apply stepPc_keeps)
    | (simp only [keeps_mk]; with_reducible apply keepsAt_of) | split | dsimp only | intro _

theorem meRefuse_keeps {σ : State} (s : State) (c code opcode : Nat) (hk : Keeps σ s) :
    Keeps σ (State.meRefuse s c code opcode) := by
  unfold State.meRefuse
  repeat' first
    | (with_reducible first | assumption | apply fset_keeps | apply pend_keeps)
    | (simp only [keeps_mk]; with_reducible apply keepsAt_of) | split | dsimp only | intro _

theorem veHalt_keeps {σ : State} (s : State) (c code : Nat) (hk : Keeps σ s) :
    Keeps σ (State.veHalt s c code) := by
  unfold State.veHalt
  repeat' first
    | (with_reducible first | assumption | apply fset_keeps | apply pend_keeps)
    | (simp only [keeps_mk]; with_reducible apply keepsAt_of) | split | dsimp only | intro _

theorem feRecord_keeps {σ : State} (s : State) (c code first mask : Nat) (hk : Keeps σ s) :
    Keeps σ (State.feRecord s c code first mask) := by
  unfold State.feRecord
  repeat' first
    | (with_reducible first | assumption | apply fset_keeps)
    | (simp only [keeps_mk]; with_reducible apply keepsAt_of) | split | dsimp only | intro _

theorem feHalt_keeps {σ : State} (s : State) (c code first mask : Nat) (hk : Keeps σ s) :
    Keeps σ (State.feHalt s c code first mask) := by
  unfold State.feHalt
  repeat' first
    | (with_reducible first | assumption | apply fset_keeps | apply report_keeps | apply pend_keeps
                            | apply feRecord_keeps)
    | (simp only [keeps_mk]; with_reducible apply keepsAt_of) | split | dsimp only | intro _

theorem meFlags_keeps {σ : State} (s : State) (c : Nat) (f : Flags) (hk : Keeps σ s) :
    Keeps σ (State.meFlags s c f) := by
  unfold State.meFlags
  repeat' first
    | (with_reducible first | assumption | apply setReg_keeps)
    | (simp only [keeps_mk]; with_reducible apply keepsAt_of) | split | dsimp only | intro _

theorem veFlags_keeps {σ : State} (s : State) (c : Nat) (f : Flags) (hk : Keeps σ s) :
    Keeps σ (State.veFlags s c f) := by
  unfold State.veFlags
  repeat' first
    | (with_reducible first | assumption | apply setReg_keeps)
    | (simp only [keeps_mk]; with_reducible apply keepsAt_of) | split | dsimp only | intro _

theorem advanceSr_keeps {σ : State} (s : State) (c ctl n : Nat) (hk : Keeps σ s) :
    Keeps σ (State.advanceSr s c ctl n) := by
  unfold State.advanceSr
  repeat' first
    | (with_reducible first | assumption | apply finc_keeps)
    | (simp only [keeps_mk]; with_reducible apply keepsAt_of) | split | dsimp only | intro _

theorem pushQueue_keeps {σ : State} (s : State) (c : Nat) (q : EngineQ) (i : Quad) (hk : Keeps σ s) :
    Keeps σ (State.pushQueue s c q i) := by
  unfold State.pushQueue
  repeat' first
    | (with_reducible first | assumption | apply onMe_keeps | apply onVe_keeps | apply onFe_keeps)
    | (simp only [keeps_mk]; with_reducible apply keepsAt_of) | split | dsimp only | intro _

theorem qpush_keeps {σ : State} (s : State) (c fs1 : Nat) (q : EngineQ) (ok : Quad → Bool) (bad : Quad → Option Nat) (hk : Keeps σ s) :
    Keeps σ (State.qpush s c fs1 q ok bad) := by
  unfold State.qpush
  repeat' first
    | (with_reducible first | assumption | apply report_keeps | apply ccState_keeps | apply stepPc_keeps
                            | apply illegal_keeps | apply pushQueue_keeps)
    | (simp only [keeps_mk]; with_reducible apply keepsAt_of) | split | dsimp only | intro _

theorem unhalt_keeps {σ : State} (s : State) (c : Nat) (q : EngineQ) (hk : Keeps σ s) :
    Keeps σ (State.unhalt s c q) := by
  unfold State.unhalt
  repeat' first
    | (with_reducible first | assumption | apply fset_keeps)
    | (simp only [keeps_mk]; with_reducible apply keepsAt_of) | split | dsimp only | intro _

theorem mntTake_keeps {σ : State} (s : State) (i act dom who : Nat) (hk : Keeps σ s) :
    Keeps σ (State.mntTake s i act dom who) := by
  unfold State.mntTake
  repeat' first
    | (with_reducible first | assumption | apply fset_keeps)
    | (simp only [keeps_mk]; with_reducible apply keepsAt_of) | split | dsimp only | intro _

theorem mntEnd_keeps {σ : State} (s : State) (i status progress : Nat) (hk : Keeps σ s) :
    Keeps σ (State.mntEnd s i status progress) := by
  unfold State.mntEnd
  repeat' first
    | (with_reducible first | assumption | apply fset_keeps | apply raise_keeps)
    | (simp only [keeps_mk]; with_reducible apply keepsAt_of) | split | dsimp only | intro _

theorem mntGrant_fst {σ : State} (s : State) (act dom who : Nat) (cond : Bool) (hk : Keeps σ s) :
    KeepsP σ (State.mntGrant s act dom who cond) := by
  unfold State.mntGrant
  repeat' first
    | (with_reducible first | assumption | apply reportOpen_keeps | apply mntTake_keeps | exact keepsO_none
                            | apply keepsO_some | exact keepsOP_none | apply keepsOP_some | apply keepsP_mk
                            | refine keepsO_elim (by assumption) ?_ | exact keepsO_get (by assumption)
                            | refine keepsP_elim (by assumption) ?_ | exact keepsP_get (by assumption)
                            | refine keepsOP_elim (by assumption) ?_ | exact keepsOP_get (by assumption)
                            | refine keepsOP_elim1 (by assumption) ?_ | exact keepsOP_get1 (by assumption))
    | (simp only [keeps_mk]; with_reducible apply keepsAt_of) | split | dsimp only | intro _

theorem mntGrant_fst1 {σ : State} (s : State) (act dom who : Nat) (cond : Bool) (hk : Keeps σ s) : Keeps σ (State.mntGrant s act dom who cond).1 :=
  mntGrant_fst s act dom who cond hk

theorem mntStop_keeps {σ : State} (s : State) (d : Domain) (hk : Keeps σ s) :
    Keeps σ (State.mntStop s d) := by
  unfold State.mntStop
  repeat' first
    | (with_reducible first | assumption | apply fset_keeps | apply mntEnd_keeps
                            | refine foldl_keeps (fun _ _ _ => ?_) ?_)
    | (simp only [keeps_mk]; with_reducible apply keepsAt_of) | split | dsimp only | intro _

theorem readAlmLast_keeps {σ : State} (s : State) (hk : Keeps σ s) :
    Keeps σ (State.readAlmLast s) := by
  unfold State.readAlmLast
  repeat' first
    | (with_reducible first | assumption | apply fset_keeps | apply keepsO_getD)
    | (simp only [keeps_mk]; with_reducible apply keepsAt_of) | split | dsimp only | intro _

theorem writePtr_keeps {σ : State} (s : State) (area slot transit : Nat) (hk : Keeps σ s) :
    Keeps σ (State.writePtr s area slot transit) := by
  unfold State.writePtr
  repeat' first
    | (with_reducible first | assumption)
    | (simp only [keeps_mk]; with_reducible apply keepsAt_of) | split | dsimp only | intro _

theorem sendPtr_keeps {σ : State} (s : State) (area slot transit : Nat) (hk : Keeps σ s) :
    Keeps σ (State.sendPtr s area slot transit) := by
  unfold State.sendPtr
  repeat' first
    | (with_reducible first | assumption | apply emit_keeps)
    | (simp only [keeps_mk]; with_reducible apply keepsAt_of) | split | dsimp only | intro _

theorem almIdle_keeps {σ : State} (s : State) (hk : Keeps σ s) :
    Keeps σ (State.almIdle s) := by
  unfold State.almIdle
  repeat' first
    | (with_reducible first | assumption | apply fset_keeps)
    | (simp only [keeps_mk]; with_reducible apply keepsAt_of) | split | dsimp only | intro _

theorem almErr_keeps {σ : State} (s : State) (code : Nat) (hk : Keeps σ s) :
    Keeps σ (State.almErr s code) := by
  unfold State.almErr
  repeat' first
    | (with_reducible first | assumption | apply fset_keeps | apply raise_keeps | apply report_keeps)
    | (simp only [keeps_mk]; with_reducible apply keepsAt_of) | split | dsimp only | intro _

theorem almRelease_keeps {σ : State} (s : State) (status : Nat) (hk : Keeps σ s) :
    Keeps σ (State.almRelease s status) := by
  unfold State.almRelease
  repeat' first
    | (with_reducible first | assumption | apply mntEnd_keeps)
    | (simp only [keeps_mk]; with_reducible apply keepsAt_of) | split | dsimp only | intro _

theorem almFail_keeps {σ : State} (s : State) (code : Nat) (hk : Keeps σ s) :
    Keeps σ (State.almFail s code) := by
  unfold State.almFail
  repeat' first
    | (with_reducible first | assumption | apply almIdle_keeps | apply almErr_keeps | apply almRelease_keeps)
    | (simp only [keeps_mk]; with_reducible apply keepsAt_of) | split | dsimp only | intro _

theorem almDone_keeps {σ : State} (s : State) (hk : Keeps σ s) :
    Keeps σ (State.almDone s) := by
  unfold State.almDone
  repeat' first
    | (with_reducible first | assumption | apply fset_keeps | apply raise_keeps | apply almIdle_keeps
                            | apply almRelease_keeps)
    | (simp only [keeps_mk]; with_reducible apply keepsAt_of) | split | dsimp only | intro _

theorem almSourceLost_keeps {σ : State} (s : State) (p : Nat) (hk : Keeps σ s) :
    Keeps σ (State.almSourceLost s p) := by
  unfold State.almSourceLost
  repeat' first
    | (with_reducible first | assumption | apply almFail_keeps)
    | (simp only [keeps_mk]; with_reducible apply keepsAt_of) | split | dsimp only | intro _

theorem abandonApply_keeps {σ : State} (s : State) (p : Nat) (hk : Keeps σ s) :
    Keeps σ (State.abandonApply s p) := by
  unfold State.abandonApply
  repeat' first
    | (with_reducible first | assumption | apply fset_keeps | apply raise_keeps)
    | (simp only [keeps_mk]; with_reducible apply keepsAt_of) | split | dsimp only | intro _

theorem endCollectives_keeps {σ : State} (s : State) (k : Nat) (hk : Keeps σ s) :
    Keeps σ (State.endCollectives s k) := by
  unfold State.endCollectives
  repeat' first
    | (with_reducible first | assumption | apply onOp_keeps | apply endOp_keeps | apply flagOp_keeps
                            | refine foldl_keeps (fun _ _ _ => ?_) ?_)
    | (simp only [keeps_mk]; with_reducible apply keepsAt_of) | split | dsimp only | intro _

theorem stackRefresh_keeps {σ : State} (s : State) (n : Nat) (on : Bool) (hk : Keeps σ s) :
    Keeps σ (State.stackRefresh s n on) := by
  unfold State.stackRefresh
  repeat' first
    | (with_reducible first | assumption | apply setChan_keeps | refine foldl_keeps (fun _ _ _ => ?_) ?_)
    | (simp only [keeps_mk]; with_reducible apply keepsAt_of) | split | dsimp only | intro _

theorem recover_keeps {σ : State} (s : State) (d : Domain) (hk : Keeps σ s) :
    Keeps σ (State.recover s d) := by
  unfold State.recover
  repeat' first
    | (with_reducible first | assumption | apply fset_keeps | apply emit_keeps | apply raise_keeps
                            | apply reportOpen_keeps | apply resetCluster_keeps | apply resetStack_keeps
                            | apply retireTcore_keeps | apply retirePcore_keeps | apply retireSe_keeps
                            | apply resetPartition_keeps | apply almSourceLost_keeps | apply abandonApply_keeps
                            | apply endCollectives_keeps | apply stackRefresh_keeps
                            | refine foldl_keeps (fun _ _ _ => ?_) ?_)
    | (simp only [keeps_mk]; with_reducible apply keepsAt_of) | split | dsimp only | intro _

theorem replaceRecovery_keeps {σ : State} (s : State) (i : Nat) (ds : List Domain) (hk : Keeps σ s) :
    Keeps σ (State.replaceRecovery s i ds) := by
  unfold State.replaceRecovery
  split
  · exact hk
  · next d rest =>
    split
    · exact packageFatal_keeps _ _ _ hk
    · dsimp only
      refine foldl_keeps (fun t x h => queueRecovery_keeps _ _ h) (mntStop_keeps _ _ (recover_keeps _ _ (reportOpen_keeps _ _ _ _ ?_)))
      refine inv_reports hk rfl rfl rfl rfl (fun j => ⟨j.1, j.2.1, j.2.2.1, j.2.2.2.1, j.2.2.2.2.1, j.2.2.2.2.2.1, ?_,
        Nat.le_trans (List.length_filter_le _ _) j.2.2.2.2.2.2.2⟩)
      refine slotsOk_map _ _ (fun r => ?_) (slotsOk_filter _ _ j.2.2.2.2.2.2.1)
      split <;> rfl

theorem mergeQueued_keeps {σ : State} (s : State) (r : Recovery) (ds : List Domain) (hk : Keeps σ s) :
    Keeps σ (State.mergeQueued s r ds) := by
  unfold State.mergeQueued
  split
  · exact hk
  · split
    · exact packageFatal_keeps _ _ _ hk
    · refine foldl_keeps (fun t x h => queueRecovery_keeps _ _ h) ?_
      refine inv_reports hk rfl rfl rfl rfl (fun i => ⟨i.1, i.2.1, i.2.2.1, i.2.2.2.1, i.2.2.2.2.1, i.2.2.2.2.2.1, i.2.2.2.2.2.2.1, ?_⟩)
      rw [List.length_map]
      exact Nat.le_trans (List.length_filter_le _ _) i.2.2.2.2.2.2.2

theorem requestRecovery_keeps {σ : State} (s : State) (d : Domain) (hk : Keeps σ s) : Keeps σ (State.requestRecovery s d) := by
  unfold State.requestRecovery
  split
  · exact replaceRecovery_keeps _ _ _ hk
  · split
    · exact replaceRecovery_keeps _ _ _ hk
    · split
      · exact mergeQueued_keeps _ _ _ hk
      · exact queueRecovery_keeps _ _ hk

theorem countBusy_keeps {σ : State} (s : State) (c : Nat) (onA : Bool) (hk : Keeps σ s) :
    Keeps σ (State.countBusy s c onA) := by
  unfold State.countBusy
  repeat' first
    | (with_reducible first | assumption | apply fset_keeps | apply fincSat_keeps)
    | (simp only [keeps_mk]; with_reducible apply keepsAt_of) | split | dsimp only | intro _

theorem ports_keeps {σ : State} (s : State) (c off : Nat) (a b : PortReq) (hk : Keeps σ s) :
    Keeps σ (State.ports s c off a b) := by
  unfold State.ports
  repeat' first
    | (with_reducible first | assumption | apply emit_keeps | apply drawn_keeps | apply storePad_keeps
                            | apply readPad_keeps | apply countBusy_keeps)
    | (simp only [keeps_mk]; with_reducible apply keepsAt_of) | split | dsimp only | intro _

theorem padGrant_keeps {σ : State} (s : State) (c off who : Nat) (ok : Bool) (hk : Keeps σ s) :
    Keeps σ (State.padGrant s c off who ok) := by
  unfold State.padGrant
  repeat' first
    | (with_reducible first | assumption | apply onCore_keeps)
    | (simp only [keeps_mk]; with_reducible apply keepsAt_of) | split | dsimp only | intro _

theorem bankCycle_keeps {σ : State} (s : State) (c off : Nat) (who : PadMaster) (a b : PortReq) (hk : Keeps σ s) :
    Keeps σ (State.bankCycle s c off who a b) := by
  unfold State.bankCycle
  repeat' first
    | (with_reducible first | assumption | apply ports_keeps | apply padGrant_keeps)
    | (simp only [keeps_mk]; with_reducible apply keepsAt_of) | split | dsimp only | intro _

theorem recordPoison_fst {σ : State} (s : State) (key w : Nat) (hk : Keeps σ s) :
    KeepsP σ (State.recordPoison s key w) := by
  unfold State.recordPoison
  repeat' first
    | (with_reducible first | assumption | apply setRecorded_keeps | exact keepsO_none | apply keepsO_some
                            | exact keepsOP_none | apply keepsOP_some | apply keepsP_mk
                            | refine keepsO_elim (by assumption) ?_ | exact keepsO_get (by assumption)
                            | refine keepsP_elim (by assumption) ?_ | exact keepsP_get (by assumption)
                            | refine keepsOP_elim (by assumption) ?_ | exact keepsOP_get (by assumption)
                            | refine keepsOP_elim1 (by assumption) ?_ | exact keepsOP_get1 (by assumption))
    | (simp only [keeps_mk]; with_reducible apply keepsAt_of) | split | dsimp only | intro _

theorem recordPoison_fst1 {σ : State} (s : State) (key w : Nat) (hk : Keeps σ s) : Keeps σ (State.recordPoison s key w).1 :=
  recordPoison_fst s key w hk

theorem poisonSram_keeps {σ : State} (s : State) (l : Loc) (hk : Keeps σ s) :
    Keeps σ (State.poisonSram s l) := by
  unfold State.poisonSram
  repeat' first
    | (with_reducible first | assumption | apply fincSat_keeps | apply setPoison_keeps | apply report_keeps
                            | apply retireTcore_keeps | apply requestRecovery_keeps | apply recordPoison_fst
                            | apply recordPoison_fst1 | exact keepsO_none | apply keepsO_some | exact keepsOP_none
                            | apply keepsOP_some | apply keepsP_mk | refine keepsO_elim (by assumption) ?_
                            | exact keepsO_get (by assumption) | refine keepsP_elim (by assumption) ?_
                            | exact keepsP_get (by assumption) | refine keepsOP_elim (by assumption) ?_
                            | exact keepsOP_get (by assumption) | refine keepsOP_elim1 (by assumption) ?_
                            | exact keepsOP_get1 (by assumption))
    | (simp only [keeps_mk]; with_reducible apply keepsAt_of) | split | dsimp only | intro _

theorem strike_keeps {σ : State} (s : State) (key bits : Nat) (poison : State → State) (h_poison : ∀ a0, Keeps σ a0 → Keeps σ (poison a0)) (hk : Keeps σ s) :
    Keeps σ (State.strike s key bits poison) := by
  unfold State.strike
  repeat' first
    | (with_reducible first | assumption | apply h_poison)
    | (simp only [keeps_mk]; with_reducible apply keepsAt_of) | split | dsimp only | intro _

theorem fetchLine_keeps {σ : State} (s : State) (line : Nat) (hk : Keeps σ s) :
    Keeps σ (State.fetchLine s line) := by
  unfold State.fetchLine
  repeat' first
    | (with_reducible first | assumption | apply correctAt_keeps | apply readLine_keeps)
    | (simp only [keeps_mk]; with_reducible apply keepsAt_of) | split | dsimp only | intro _

theorem returnLine_keeps {σ : State} (s : State) (line : Nat) (hk : Keeps σ s) :
    Keeps σ (State.returnLine s line) := by
  unfold State.returnLine
  repeat' first
    | (with_reducible first | assumption | apply homeWrite_keeps)
    | (simp only [keeps_mk]; with_reducible apply keepsAt_of) | split | dsimp only | intro _

theorem directory_keeps {σ : State} (s : State) (line m : Nat) (r : CohReq) (hk : Keeps σ s) :
    Keeps σ (State.directory s line m r) := by
  unfold State.directory
  repeat' first
    | (with_reducible first | assumption | apply finc_keeps | apply setDirLine_keeps | apply evictLine_keeps
                            | apply cleanOwner_keeps | apply fetchLine_keeps | apply returnLine_keeps)
    | (simp only [keeps_mk]; with_reducible apply keepsAt_of) | split | dsimp only | intro _

theorem loseChan_keeps {σ : State} (s : State) (ch : Nat) (hk : Keeps σ s) :
    Keeps σ (State.loseChan s ch) := by
  unfold State.loseChan
  repeat' first
    | (with_reducible first | assumption | apply zero_keeps)
    | (simp only [keeps_mk]; with_reducible apply keepsAt_of) | split | dsimp only | intro _

theorem freeze_keeps {σ : State} (s : State) (sr : Nat) (hk : Keeps σ s) :
    Keeps σ (State.freeze s sr) := by
  unfold State.freeze
  repeat' first
    | (with_reducible first | assumption | apply fset_keeps | apply loseChan_keeps
                            | refine foldl_keeps (fun _ _ _ => ?_) ?_)
    | (simp only [keeps_mk]; with_reducible apply keepsAt_of) | split | dsimp only | intro _

theorem eclTrigger_keeps {σ : State} (s : State) (code : Nat) (fast : Bool) (hk : Keeps σ s) :
    Keeps σ (State.eclTrigger s code fast) := by
  unfold State.eclTrigger
  repeat' first
    | (with_reducible first | assumption | apply fset_keeps | apply fincSat_keeps | apply raise_keeps
                            | apply reportOpen_keeps | apply freeze_keeps)
    | (simp only [keeps_mk]; with_reducible apply keepsAt_of) | split | dsimp only | intro _

theorem advance_keeps {σ : State} (s : State) (now : Nat) (hk : Keeps σ s) :
    Keeps σ (State.advance s now) := by
  unfold State.advance
  dsimp only
  split
  · exact hk
  · next h =>
    have h1 : Keeps σ { s with clock := now } :=
      ⟨hk.1, Nat.le_trans hk.2.1 (show s.clock ≤ now by omega), hk.2.2.1, hk.2.2.2.1, hk.2.2.2.2.1, hk.2.2.2.2.2⟩
    split
    · exact h1
    · split
      · simp only [keeps_mk]
        with_reducible apply keepsAt_of
        exact fset_keeps _ _ _ h1
      · split
        · exact fset_keeps _ _ _ h1
        · simp only [keeps_mk]
          with_reducible apply keepsAt_of
          exact fset_keeps _ _ _ h1

theorem setPerAt_keeps {σ : State} (s : State) (hk : Keeps σ s) :
    Keeps σ (State.setPerAt s) := by
  unfold State.setPerAt
  repeat' first
    | (with_reducible first | assumption)
    | (simp only [keeps_mk]; with_reducible apply keepsAt_of) | split | dsimp only | intro _

theorem coalesce_keeps {σ : State} (s : State) (m : LogMeta) (r : Report) (hk : Keeps σ s) :
    Keeps σ (State.coalesce s m r) := by
  unfold State.coalesce
  repeat' first
    | (with_reducible first | assumption | apply setReg_keeps)
    | (simp only [keeps_mk]; with_reducible apply keepsAt_of) | split | dsimp only | intro _

theorem logStatus_keeps {σ : State} (s : State) (hk : Keeps σ s) :
    Keeps σ (State.logStatus s) := by
  unfold State.logStatus
  repeat' first
    | (with_reducible first | assumption | apply fset_keeps)
    | (simp only [keeps_mk]; with_reducible apply keepsAt_of) | split | dsimp only | intro _

theorem newEntry_keeps {σ : State} (s : State) (r : Report) (hk : Keeps σ s) :
    Keeps σ (State.newEntry s r) := by
  unfold State.newEntry
  repeat' first
    | (with_reducible first | assumption | apply setReg_keeps | apply fset_keeps | apply emit_keeps
                            | apply raise_keeps | apply showAlert_keeps | apply keepsO_getD
                            | refine foldl_keeps (fun _ _ _ => ?_) ?_)
    | (simp only [keeps_mk]; with_reducible apply keepsAt_of) | split | dsimp only | intro _

theorem takeReport_keeps {σ : State} (s : State) (r : Report) (hk : Keeps σ s) :
    Keeps σ (State.takeReport s r) := by
  unfold State.takeReport
  repeat' first
    | (with_reducible first | assumption | apply fset_keeps | apply dropReport_keeps | apply showAlert_keeps
                            | apply eclTrigger_keeps | apply coalesce_keeps | apply newEntry_keeps)
    | (simp only [keeps_mk]; with_reducible apply keepsAt_of) | split | dsimp only | intro _

theorem reissue_keeps {σ : State} (s : State) (k n : Nat) (hk : Keeps σ s) :
    Keeps σ (State.reissue s k n) := by
  unfold State.reissue
  repeat' first
    | (with_reducible first | assumption | apply setOp_keeps | apply endOp_keeps | apply flagOp_keeps
                            | exact keepsO_none | apply keepsO_some | exact keepsOP_none | apply keepsOP_some
                            | apply keepsP_mk | refine keepsO_elim (by assumption) ?_
                            | exact keepsO_get (by assumption) | refine keepsP_elim (by assumption) ?_
                            | exact keepsP_get (by assumption) | refine keepsOP_elim (by assumption) ?_
                            | exact keepsOP_get (by assumption) | refine keepsOP_elim1 (by assumption) ?_
                            | exact keepsOP_get1 (by assumption))
    | (simp only [keeps_mk]; with_reducible apply keepsAt_of) | split | dsimp only | intro _

theorem reissueTiles_keeps {σ : State} (s : State) (k : Nat) (ts : List Nat) (hk : Keeps σ s) :
    Keeps σ (State.reissueTiles s k ts) := by
  unfold State.reissueTiles
  repeat' first
    | (with_reducible first | assumption | apply setOp_keeps | apply endOp_keeps | apply flagOp_keeps
                            | refine foldl_keeps (fun _ _ _ => ?_) ?_ | refine foldl_keepsO (fun _ _ _ => ?_) ?_
                            | refine foldl_keepsP (fun _ _ _ => ?_) ?_ | refine foldl_keepsOP (fun _ _ _ => ?_) ?_
                            | exact keepsO_none | apply keepsO_some | exact keepsOP_none | apply keepsOP_some
                            | apply keepsP_mk | refine keepsO_elim (by assumption) ?_
                            | exact keepsO_get (by assumption) | refine keepsP_elim (by assumption) ?_
                            | exact keepsP_get (by assumption) | refine keepsOP_elim (by assumption) ?_
                            | exact keepsOP_get (by assumption) | refine keepsOP_elim1 (by assumption) ?_
                            | exact keepsOP_get1 (by assumption))
    | (simp only [keeps_mk]; with_reducible apply keepsAt_of) | split | dsimp only | intro _

theorem restartXfer_keeps {σ : State} (s : State) (k : Nat) (hk : Keeps σ s) :
    Keeps σ (State.restartXfer s k) := by
  unfold State.restartXfer
  repeat' first
    | (with_reducible first | assumption | apply onOp_keeps | apply keepsO_getD | exact keepsO_none
                            | apply keepsO_some | exact keepsOP_none | apply keepsOP_some | apply keepsP_mk
                            | refine keepsO_elim (by assumption) ?_ | exact keepsO_get (by assumption)
                            | refine keepsP_elim (by assumption) ?_ | exact keepsP_get (by assumption)
                            | refine keepsOP_elim (by assumption) ?_ | exact keepsOP_get (by assumption)
                            | refine keepsOP_elim1 (by assumption) ?_ | exact keepsOP_get1 (by assumption))
    | (simp only [keeps_mk]; with_reducible apply keepsAt_of) | split | dsimp only | intro _

theorem reissueCore_keeps {σ : State} (s : State) (c : Nat) (hk : Keeps σ s) :
    Keeps σ (State.reissueCore s c) := by
  unfold State.reissueCore
  repeat' first
    | (with_reducible first | assumption | apply reissue_keeps | apply reissueTiles_keeps | apply restartXfer_keeps
                            | refine foldl_keeps (fun _ _ _ => ?_) ?_)
    | (simp only [keeps_mk]; with_reducible apply keepsAt_of) | split | dsimp only | intro _

theorem retireFailed_keeps {σ : State} (s : State) (u : FailedUnit) (hk : Keeps σ s) :
    Keeps σ (State.retireFailed s u) := by
  unfold State.retireFailed
  repeat' first
    | (with_reducible first | assumption | apply recount_keeps | apply retireTcore_keeps | apply retirePcore_keeps
                            | apply retireSe_keeps)
    | (simp only [keeps_mk]; with_reducible apply keepsAt_of) | split | dsimp only | intro _

theorem wakeStacks_keeps {σ : State} (s : State) (hk : Keeps σ s) :
    Keeps σ (State.wakeStacks s) := by
  unfold State.wakeStacks
  repeat' first
    | (with_reducible first | assumption | apply stackRefresh_keeps | refine foldl_keeps (fun _ _ _ => ?_) ?_)
    | (simp only [keeps_mk]; with_reducible apply keepsAt_of) | split | dsimp only | intro _

theorem scrub_keeps {σ : State} (s : State) (n : Nat) (hk : Keeps σ s) :
    Keeps σ (State.scrub s n) :=
  correct_keeps _ _ _ _ _ _ (correct_keeps _ _ _ _ _ _ hk)

theorem setChState_keeps {σ : State} (s : State) (n st : Nat) (hk : Keeps σ s) :
    Keeps σ (State.setChState s n st) := by
  unfold State.setChState
  repeat' first
    | (with_reducible first | assumption | apply fset_keeps | apply raise_keeps)
    | (simp only [keeps_mk]; with_reducible apply keepsAt_of) | split | dsimp only | intro _

theorem retireChan_keeps {σ : State} (s : State) (n : Nat) (hk : Keeps σ s) :
    Keeps σ (State.retireChan s n) := by
  unfold State.retireChan
  repeat' first
    | (with_reducible first | assumption | apply setChan_keeps | apply zero_keeps | apply reportOpen_keeps
                            | apply recount_keeps | apply disableMaps_keeps | apply setChState_keeps)
    | (simp only [keeps_mk]; with_reducible apply keepsAt_of) | split | dsimp only | intro _

theorem checkMemory_keeps {σ : State} (s : State) (hk : Keeps σ s) :
    Keeps σ (State.checkMemory s) := by
  unfold State.checkMemory
  repeat' first
    | (with_reducible first | assumption | apply reach__keeps)
    | (simp only [keeps_mk]; with_reducible apply keepsAt_of) | split | dsimp only | intro _

theorem startRetrain_keeps {σ : State} (s : State) (n : Nat) (hk : Keeps σ s) :
    Keeps σ (State.startRetrain s n) := by
  unfold State.startRetrain
  repeat' first
    | (with_reducible first | assumption | apply setChan_keeps | apply reportOpen_keeps | apply setChState_keeps)
    | (simp only [keeps_mk]; with_reducible apply keepsAt_of) | split | dsimp only | intro _

theorem setHot_keeps {σ : State} (s : State) (m : Nat) (on : Bool) (hk : Keeps σ s) :
    Keeps σ (State.setHot s m on) := by
  unfold State.setHot
  repeat' first
    | (with_reducible first | assumption | apply fset_keeps | apply raise_keeps | apply reportOpen_keeps
                            | refine foldl_keeps (fun _ _ _ => ?_) ?_)
    | (simp only [keeps_mk]; with_reducible apply keepsAt_of) | split | dsimp only | intro _

theorem countKey_keeps {σ : State} (s : State) (hk : Keeps σ s) :
    Keeps σ (State.countKey s) := by
  unfold State.countKey
  repeat' first
    | (with_reducible first | assumption | apply fincSat_keeps | apply reportOpen_keeps)
    | (simp only [keeps_mk]; with_reducible apply keepsAt_of) | split | dsimp only | intro _

theorem countDead_keeps {σ : State} (s : State) (hk : Keeps σ s) :
    Keeps σ (State.countDead s) := by
  unfold State.countDead
  repeat' first
    | (with_reducible first | assumption | apply fincSat_keeps | apply reportOpen_keeps)
    | (simp only [keeps_mk]; with_reducible apply keepsAt_of) | split | dsimp only | intro _

theorem countTimeout_keeps {σ : State} (s : State) (hk : Keeps σ s) :
    Keeps σ (State.countTimeout s) := by
  unfold State.countTimeout
  repeat' first
    | (with_reducible first | assumption | apply fincSat_keeps | apply reportOpen_keeps)
    | (simp only [keeps_mk]; with_reducible apply keepsAt_of) | split | dsimp only | intro _

theorem shaped_opt {σ : State} (s : State) (ldn n : Nat) (hk : Keeps σ s) : KeepsO σ (State.shaped s ldn n) := by
  unfold State.shaped
  dsimp only
  split
  · exact keepsO_some hk
  · intro t h
    obtain ⟨b, -, rfl⟩ := Option.map_eq_some_iff.1 h
    exact setShapeOf_keeps _ _ _ hk

theorem rackIssue_fst {σ : State} (s : State) (q : Ask) (hk : Keeps σ s) :
    KeepsP σ (State.rackIssue s q) := by
  unfold State.rackIssue
  repeat' first
    | (with_reducible first | assumption | apply setReq_keeps | apply emit_keeps | apply countKey_keeps
                            | apply countDead_keeps | apply shaped_opt | apply keepsO_getD | exact keepsO_none
                            | apply keepsO_some | exact keepsOP_none | apply keepsOP_some | apply keepsP_mk
                            | refine keepsO_elim (by assumption) ?_ | exact keepsO_get (by assumption)
                            | refine keepsP_elim (by assumption) ?_ | exact keepsP_get (by assumption)
                            | refine keepsOP_elim (by assumption) ?_ | exact keepsOP_get (by assumption)
                            | refine keepsOP_elim1 (by assumption) ?_ | exact keepsOP_get1 (by assumption))
    | (simp only [keeps_mk]; with_reducible apply keepsAt_of) | split | dsimp only | intro _

theorem rackIssue_fst1 {σ : State} (s : State) (q : Ask) (hk : Keeps σ s) : Keeps σ (State.rackIssue s q).1 :=
  rackIssue_fst s q hk

theorem endCoreReq_keeps {σ : State} (s : State) (u : CoreId) (id status flags : Nat) (r : RackOut) (bytes : List Byte) (hk : Keeps σ s) :
    Keeps σ (State.endCoreReq s u id status flags r bytes) := by
  unfold State.endCoreReq
  repeat' first
    | (with_reducible first | assumption | apply drawn_keeps | apply onJumbe_keeps | apply pend_keeps)
    | (simp only [keeps_mk]; with_reducible apply keepsAt_of) | split | dsimp only | intro _

theorem setXfer_keeps {σ : State} (s : State) (w : Mover) (x : Option Xfer) (hk : Keeps σ s) :
    Keeps σ (State.setXfer s w x) := by
  unfold State.setXfer
  repeat' first
    | (with_reducible first | assumption | apply onFe_keeps | apply onOp_keeps)
    | (simp only [keeps_mk]; with_reducible apply keepsAt_of) | split | dsimp only | intro _

theorem onElem_keeps {σ : State} (s : State) (w : Mover) (e : Nat) (f : ElemSt → ElemSt) (hk : Keeps σ s) :
    Keeps σ (State.onElem s w e f) := by
  unfold State.onElem
  repeat' first
    | (with_reducible first | assumption | apply setXfer_keeps | exact keepsO_none | apply keepsO_some
                            | exact keepsOP_none | apply keepsOP_some | apply keepsP_mk
                            | refine keepsO_elim (by assumption) ?_ | exact keepsO_get (by assumption)
                            | refine keepsP_elim (by assumption) ?_ | exact keepsP_get (by assumption)
                            | refine keepsOP_elim (by assumption) ?_ | exact keepsOP_get (by assumption)
                            | refine keepsOP_elim1 (by assumption) ?_ | exact keepsOP_get1 (by assumption))
    | (simp only [keeps_mk]; with_reducible apply keepsAt_of) | split | dsimp only | intro _

theorem tileStored_keeps {σ : State} (s : State) (k tile status : Nat) (hk : Keeps σ s) :
    Keeps σ (State.tileStored s k tile status) := by
  unfold State.tileStored
  repeat' first
    | (with_reducible first | assumption | apply onOp_keeps | apply endOp_keeps | apply keepsO_getD)
    | (simp only [keeps_mk]; with_reducible apply keepsAt_of) | split | dsimp only | intro _

theorem endWinWait_keeps {σ : State} (s : State) (status : Nat) (w : WinWait) (hk : Keeps σ s) :
    Keeps σ (State.endWinWait s status w) := by
  unfold State.endWinWait
  repeat' first
    | (with_reducible first | assumption | apply emit_keeps | apply onJumbe_keeps | apply onElem_keeps)
    | (simp only [keeps_mk]; with_reducible apply keepsAt_of) | split | dsimp only | intro _

theorem endOut_keeps {σ : State} (s : State) (id status : Nat) (hk : Keeps σ s) :
    Keeps σ (State.endOut s id status) := by
  unfold State.endOut
  repeat' first
    | (with_reducible first | assumption | apply endWinWait_keeps | refine foldl_keeps (fun _ _ _ => ?_) ?_)
    | (simp only [keeps_mk]; with_reducible apply keepsAt_of) | split | dsimp only | intro _

theorem endReq_keeps {σ : State} (s : State) (id status flags : Nat) (bytes : List Byte) (hk : Keeps σ s) :
    Keeps σ (State.endReq s id status flags bytes) := by
  unfold State.endReq
  repeat' first
    | (with_reducible first | assumption | apply setReq_keeps | apply drawn_keeps | apply onOp_keeps
                            | apply endValue_keeps | apply endCoreReq_keeps | apply onElem_keeps
                            | apply tileStored_keeps | apply endOut_keeps)
    | (simp only [keeps_mk]; with_reducible apply keepsAt_of) | split | dsimp only | intro _

theorem endDead_keeps {σ : State} (s : State) (id : Nat) (hk : Keeps σ s) :
    Keeps σ (State.endDead s id) := by
  unfold State.endDead
  repeat' first
    | (with_reducible first | assumption | apply countDead_keeps | apply endReq_keeps)
    | (simp only [keeps_mk]; with_reducible apply keepsAt_of) | split | dsimp only | intro _

theorem checkLinks_keeps {σ : State} (s : State) (hk : Keeps σ s) :
    Keeps σ (State.checkLinks s) := by
  unfold State.checkLinks
  repeat' first
    | (with_reducible first | assumption | apply reach__keeps)
    | (simp only [keeps_mk]; with_reducible apply keepsAt_of) | split | dsimp only | intro _

theorem countPorts_keeps {σ : State} (s : State) (hk : Keeps σ s) :
    Keeps σ (State.countPorts s) := by
  unfold State.countPorts
  repeat' first
    | (with_reducible first | assumption | apply fset_keeps | apply checkLinks_keeps)
    | (simp only [keeps_mk]; with_reducible apply keepsAt_of) | split | dsimp only | intro _

theorem setPortSt_keeps {σ : State} (s : State) (n st : Nat) (hk : Keeps σ s) :
    Keeps σ (State.setPortSt s n st) := by
  unfold State.setPortSt
  repeat' first
    | (with_reducible first | assumption | apply putPortState_keeps | apply countPorts_keeps)
    | (simp only [keeps_mk]; with_reducible apply keepsAt_of) | split | dsimp only | intro _

theorem setLinkSt_keeps {σ : State} (s : State) (n lam st : Nat) (hk : Keeps σ s) :
    Keeps σ (State.setLinkSt s n lam st) := by
  unfold State.setLinkSt
  repeat' first
    | (with_reducible first | assumption | apply fset_keeps | apply checkLinks_keeps | apply setPortSt_keeps)
    | (simp only [keeps_mk]; with_reducible apply keepsAt_of) | split | dsimp only | intro _

theorem putLink_keeps {σ : State} (s : State) (n lam : Nat) (l : Link) (hk : Keeps σ s) :
    Keeps σ (State.putLink s n lam l) := by
  unfold State.putLink
  repeat' first
    | (with_reducible first | assumption | apply fset_keeps | apply setLink_keeps)
    | (simp only [keeps_mk]; with_reducible apply keepsAt_of) | split | dsimp only | intro _

theorem onLink_keeps {σ : State} (s : State) (n lam : Nat) (f : Link → Link) (hk : Keeps σ s) :
    Keeps σ (State.onLink s n lam f) := by
  unfold State.onLink
  repeat' first
    | (with_reducible first | assumption | apply putLink_keeps)
    | (simp only [keeps_mk]; with_reducible apply keepsAt_of) | split | dsimp only | intro _

theorem checkCred_keeps {σ : State} (s : State) (n : Nat) (hk : Keeps σ s) :
    Keeps σ (State.checkCred s n) := by
  unfold State.checkCred
  repeat' first
    | (with_reducible first | assumption | apply fset_keeps | refine foldl_keeps (fun _ _ _ => ?_) ?_)
    | (simp only [keeps_mk]; with_reducible apply keepsAt_of) | split | dsimp only | intro _

theorem freeBuffer_keeps {σ : State} (s : State) (h : Option (Nat × Nat)) (hk : Keeps σ s) :
    Keeps σ (State.freeBuffer s h) := by
  unfold State.freeBuffer
  repeat' first
    | (with_reducible first | assumption | apply onLink_keeps)
    | (simp only [keeps_mk]; with_reducible apply keepsAt_of) | split | dsimp only | intro _

theorem enqueue_keeps {σ : State} (s : State) (n lam : Nat) (i : SendItem) (hk : Keeps σ s) :
    Keeps σ (State.enqueue s n lam i) := by
  unfold State.enqueue
  repeat' first
    | (with_reducible first | assumption | apply onLink_keeps)
    | (simp only [keeps_mk]; with_reducible apply keepsAt_of) | split | dsimp only | intro _

theorem sendMsg_opt {σ : State} (s : State) (vc crossed : Nat) (m : Msg) (holds : Option (Nat × Nat)) (hk : Keeps σ s) :
    KeepsO σ (State.sendMsg s vc crossed m holds) := by
  unfold State.sendMsg
  repeat' first
    | (with_reducible first | assumption | apply enqueue_keeps | exact keepsO_none | apply keepsO_some
                            | exact keepsOP_none | apply keepsOP_some | apply keepsP_mk
                            | refine keepsO_elim (by assumption) ?_ | exact keepsO_get (by assumption)
                            | refine keepsP_elim (by assumption) ?_ | exact keepsP_get (by assumption)
                            | refine keepsOP_elim (by assumption) ?_ | exact keepsOP_get (by assumption)
                            | refine keepsOP_elim1 (by assumption) ?_ | exact keepsOP_get1 (by assumption))
    | (simp only [keeps_mk]; with_reducible apply keepsAt_of) | split | dsimp only | intro _

theorem reroute_keeps {σ : State} (s : State) (q : List SendItem) (hk : Keeps σ s) :
    Keeps σ (State.reroute s q) := by
  unfold State.reroute
  repeat' first
    | (with_reducible first | assumption | apply freeBuffer_keeps | apply sendMsg_opt
                            | refine foldl_keeps (fun _ _ _ => ?_) ?_ | refine foldl_keepsO (fun _ _ _ => ?_) ?_
                            | refine foldl_keepsP (fun _ _ _ => ?_) ?_ | refine foldl_keepsOP (fun _ _ _ => ?_) ?_
                            | exact keepsO_none | apply keepsO_some | exact keepsOP_none | apply keepsOP_some
                            | apply keepsP_mk | refine keepsO_elim (by assumption) ?_
                            | exact keepsO_get (by assumption) | refine keepsP_elim (by assumption) ?_
                            | exact keepsP_get (by assumption) | refine keepsOP_elim (by assumption) ?_
                            | exact keepsOP_get (by assumption) | refine keepsOP_elim1 (by assumption) ?_
                            | exact keepsOP_get1 (by assumption))
    | (simp only [keeps_mk]; with_reducible apply keepsAt_of) | split | dsimp only | intro _

theorem showDown_keeps {σ : State} (s : State) (n lam st : Nat) (hk : Keeps σ s) :
    Keeps σ (State.showDown s n lam st) := by
  unfold State.showDown
  repeat' first
    | (with_reducible first | assumption | apply fset_keeps)
    | (simp only [keeps_mk]; with_reducible apply keepsAt_of) | split | dsimp only | intro _

theorem linkDown_keeps {σ : State} (s : State) (n lam st : Nat) (hk : Keeps σ s) :
    Keeps σ (State.linkDown s n lam st) := by
  unfold State.linkDown
  repeat' first
    | (with_reducible first | assumption | apply setLinkSt_keeps | apply putLink_keeps | apply reroute_keeps
                            | apply showDown_keeps)
    | (simp only [keeps_mk]; with_reducible apply keepsAt_of) | split | dsimp only | intro _

theorem linkDark_keeps {σ : State} (s : State) (n lam : Nat) (hk : Keeps σ s) :
    Keeps σ (State.linkDark s n lam) := by
  unfold State.linkDark
  repeat' first
    | (with_reducible first | assumption | apply reportOpen_keeps | apply linkDown_keeps)
    | (simp only [keeps_mk]; with_reducible apply keepsAt_of) | split | dsimp only | intro _

theorem portDown_keeps {σ : State} (s : State) (n st : Nat) (hk : Keeps σ s) :
    Keeps σ (State.portDown s n st) := by
  unfold State.portDown
  repeat' first
    | (with_reducible first | assumption | apply fset_keeps | apply setPortSt_keeps | apply putLink_keeps
                            | apply reroute_keeps | apply showDown_keeps | apply linkDown_keeps
                            | refine foldl_keeps (fun _ _ _ => ?_) ?_)
    | (simp only [keeps_mk]; with_reducible apply keepsAt_of) | split | dsimp only | intro _

theorem startTrain_keeps {σ : State} (s : State) (n : Nat) (hk : Keeps σ s) :
    Keeps σ (State.startTrain s n) := by
  unfold State.startTrain
  repeat' first
    | (with_reducible first | assumption | apply fset_keeps | apply putPortState_keeps | apply countPorts_keeps
                            | apply setPortSt_keeps | refine foldl_keeps (fun _ _ _ => ?_) ?_)
    | (simp only [keeps_mk]; with_reducible apply keepsAt_of) | split | dsimp only | intro _

theorem startLinkRetrain_keeps {σ : State} (s : State) (n lam : Nat) (hk : Keeps σ s) :
    Keeps σ (State.startLinkRetrain s n lam) := by
  unfold State.startLinkRetrain
  repeat' first
    | (with_reducible first | assumption | apply finc_keeps | apply setLinkSt_keeps | apply onLink_keeps)
    | (simp only [keeps_mk]; with_reducible apply keepsAt_of) | split | dsimp only | intro _

theorem quarantine_keeps {σ : State} (s : State) (n : Nat) (hk : Keeps σ s) :
    Keeps σ (State.quarantine s n) := by
  unfold State.quarantine
  repeat' first
    | (with_reducible first | assumption | apply reportOpen_keeps | apply portDown_keeps)
    | (simp only [keeps_mk]; with_reducible apply keepsAt_of) | split | dsimp only | intro _

theorem malformed_keeps {σ : State} (s : State) (n reason : Nat) (hk : Keeps σ s) :
    Keeps σ (State.malformed s n reason) := by
  unfold State.malformed
  repeat' first
    | (with_reducible first | assumption | apply fset_keeps | apply finc_keeps | apply quarantine_keeps)
    | (simp only [keeps_mk]; with_reducible apply keepsAt_of) | split | dsimp only | intro _

theorem touchOperand_keeps {σ : State} (s : State) (c fmt rows cols src stride ssrc nscales : Nat) (hk : Keeps σ s) :
    Keeps σ (State.touchOperand s c fmt rows cols src stride ssrc nscales) := by
  unfold State.touchOperand
  repeat' first
    | (with_reducible first | assumption | apply readPad_keeps | refine foldl_keeps (fun _ _ _ => ?_) ?_)
    | (simp only [keeps_mk]; with_reducible apply keepsAt_of) | split | dsimp only | intro _

theorem doLoads_keeps {σ : State} (s : State) (c : Nat) (q : Quad) (hk : Keeps σ s) :
    Keeps σ (State.doLoads s c q) := by
  unfold State.doLoads
  repeat' first
    | (with_reducible first | assumption | apply onMe_keeps | apply touchOperand_keeps)
    | (simp only [keeps_mk]; with_reducible apply keepsAt_of) | split | dsimp only | intro _

theorem doStream_keeps {σ : State} (s : State) (c : Nat) (q : Quad) (a : MeArray) (hk : Keeps σ s) :
    Keeps σ (State.doStream s c q a) := by
  unfold State.doStream
  repeat' first
    | (with_reducible first | assumption | apply finc_keeps | apply onMe_keeps | apply readPad_keeps
                            | apply touchOperand_keeps)
    | (simp only [keeps_mk]; with_reducible apply keepsAt_of) | split | dsimp only | intro _

theorem doDrain_keeps {σ : State} (s : State) (c : Nat) (q : Quad) (hk : Keeps σ s) :
    Keeps σ (State.doDrain s c q) := by
  unfold State.doDrain
  repeat' first
    | (with_reducible first | assumption | apply onMe_keeps | apply storePad_keeps | apply meFlags_keeps
                            | apply advanceSr_keeps | refine foldl_keeps (fun _ _ _ => ?_) ?_
                            | refine foldl_keepsO (fun _ _ _ => ?_) ?_ | refine foldl_keepsP (fun _ _ _ => ?_) ?_
                            | refine foldl_keepsOP (fun _ _ _ => ?_) ?_ | exact keepsO_none | apply keepsO_some
                            | exact keepsOP_none | apply keepsOP_some | apply keepsP_mk
                            | refine keepsO_elim (by assumption) ?_ | exact keepsO_get (by assumption)
                            | refine keepsP_elim (by assumption) ?_ | exact keepsP_get (by assumption)
                            | refine keepsOP_elim (by assumption) ?_ | exact keepsOP_get (by assumption)
                            | refine keepsOP_elim1 (by assumption) ?_ | exact keepsOP_get1 (by assumption))
    | (simp only [keeps_mk]; with_reducible apply keepsAt_of) | split | dsimp only | intro _

theorem endToVe_keeps {σ : State} (s : State) (c : Nat) (d : ToVe) (discard : Bool) (hk : Keeps σ s) :
    Keeps σ (State.endToVe s c d discard) := by
  unfold State.endToVe
  repeat' first
    | (with_reducible first | assumption | apply onMe_keeps | apply meFlags_keeps | apply keepsO_getD)
    | (simp only [keeps_mk]; with_reducible apply keepsAt_of) | split | dsimp only | intro _

theorem takeToVe_keeps {σ : State} (s : State) (c n : Nat) (hk : Keeps σ s) :
    Keeps σ (State.takeToVe s c n) := by
  unfold State.takeToVe
  repeat' first
    | (with_reducible first | assumption | apply onMe_keeps | apply onVe_keeps | apply advanceSr_keeps
                            | apply endToVe_keeps | apply keepsO_getD)
    | (simp only [keeps_mk]; with_reducible apply keepsAt_of) | split | dsimp only | intro _

theorem pxRecord_keeps {σ : State} (s : State) (c check index : Nat) (col dst : Option Nat) (hk : Keeps σ s) :
    Keeps σ (State.pxRecord s c check index col dst) := by
  unfold State.pxRecord
  repeat' first
    | (with_reducible first | assumption | apply fset_keeps | apply keepsO_getD)
    | (simp only [keeps_mk]; with_reducible apply keepsAt_of) | split | dsimp only | intro _

theorem poisonDrain_keeps {σ : State} (s : State) (c : Nat) (q : Quad) (hk : Keeps σ s) :
    Keeps σ (State.poisonDrain s c q) := by
  unfold State.poisonDrain
  repeat' first
    | (with_reducible first | assumption | apply onMe_keeps | apply pend_keeps | apply pxRecord_keeps)
    | (simp only [keeps_mk]; with_reducible apply keepsAt_of) | split | dsimp only | intro _

theorem checkFail_keeps {σ : State} (s : State) (c check index : Nat) (col dst : Option Nat) (drain : Option Quad) (hk : Keeps σ s) :
    Keeps σ (State.checkFail s c check index col dst drain) := by
  unfold State.checkFail
  repeat' first
    | (with_reducible first | assumption | apply finc_keeps | apply onMe_keeps | apply report_keeps
                            | apply onOp_keeps | apply pend_keeps | apply pxRecord_keeps)
    | (simp only [keeps_mk]; with_reducible apply keepsAt_of) | split | dsimp only | intro _

theorem mismatch_keeps {σ : State} (s : State) (c check index : Nat) (col dst : Option Nat) (drain : Option Quad) (lost : Bool) (hk : Keeps σ s) :
    Keeps σ (State.mismatch s c check index col dst drain lost) := by
  unfold State.mismatch
  repeat' first
    | (with_reducible first | assumption | apply onMe_keeps | apply checkFail_keeps)
    | (simp only [keeps_mk]; with_reducible apply keepsAt_of) | split | dsimp only | intro _

theorem startMe_ends {σ : State} (s : State) (c op : Nat) (check : Quad → Option Nat) (go : Quad → State) (h_go : ∀ a0, Keeps σ (go a0)) (hk : Keeps σ s) :
    Ends σ (State.startMe s c op check go) := by
  unfold State.startMe
  repeat' first
    | (with_reducible first | assumption | apply h_go | apply meRefuse_keeps | apply ends_next
                            | apply ends_whenever)
    | (simp only [keeps_mk]; with_reducible apply keepsAt_of) | split | dsimp only | intro _

theorem retireColumn_keeps {σ : State} (s : State) (c col : Nat) (hk : Keeps σ s) :
    Keeps σ (State.retireColumn s c col) := by
  unfold State.retireColumn
  repeat' first
    | (with_reducible first | assumption | apply setReg_keeps | apply fset_keeps | apply finc_keeps
                            | apply onMe_keeps | apply report_keeps | apply reportOpen_keeps | apply setWidth_keeps
                            | apply requestRecovery_keeps)
    | (simp only [keeps_mk]; with_reducible apply keepsAt_of) | split | dsimp only | intro _

theorem pxRetire_keeps {σ : State} (s : State) (c : Nat) (hk : Keeps σ s) :
    Keeps σ (State.pxRetire s c) := by
  unfold State.pxRetire
  repeat' first
    | (with_reducible first | assumption | apply retireTcore_keeps | apply requestRecovery_keeps)
    | (simp only [keeps_mk]; with_reducible apply keepsAt_of) | split | dsimp only | intro _

theorem putRecord_keeps {σ : State} (s : State) (r : ActRec) (hk : Keeps σ s) : Keeps σ (State.putRecord s r) := by
  unfold State.putRecord
  dsimp only
  split <;> exact keeps_nv hk _ rfl rfl

theorem enterRecovery_keeps {σ : State} (s : State) (hk : Keeps σ s) :
    Keeps σ (State.enterRecovery s) := by
  unfold State.enterRecovery
  repeat' first
    | (with_reducible first | assumption | apply fset_keeps | apply reportOpen_keeps | apply reach__keeps)
    | (simp only [keeps_mk]; with_reducible apply keepsAt_of) | split | dsimp only | intro _

theorem romSelect_keeps {σ : State} (s : State) (hk : Keeps σ s) :
    Keeps σ (State.romSelect s) := by
  unfold State.romSelect
  repeat' first
    | (with_reducible first | assumption | apply fset_keeps | apply putRecord_keeps | apply enterRecovery_keeps)
    | (simp only [keeps_mk]; with_reducible apply keepsAt_of) | split | dsimp only | intro _

theorem bootStart_keeps {σ : State} (s : State) (hk : Keeps σ s) :
    Keeps σ (State.bootStart s) := by
  unfold State.bootStart
  repeat' first
    | (with_reducible first | assumption | apply setReg_keeps | apply fset_keeps | apply romSelect_keeps
                            | refine foldl_keeps (fun _ _ _ => ?_) ?_)
    | (simp only [keeps_mk]; with_reducible apply keepsAt_of) | split | dsimp only | intro _

theorem halt_keeps {σ : State} (s : State) (die code : Nat) (hk : Keeps σ s) :
    Keeps σ (State.halt s die code) := by
  unfold State.halt
  repeat' first
    | (with_reducible first | assumption | apply fset_keeps | apply emit_keeps | apply showAlert_keeps)
    | (simp only [keeps_mk]; with_reducible apply keepsAt_of) | split | dsimp only | intro _

theorem failUnit_keeps {σ : State} (s : State) (u : FailedUnit) (hk : Keeps σ s) :
    Keeps σ (State.failUnit s u) := by
  unfold State.failUnit
  repeat' first
    | (with_reducible first | assumption | apply fset_keeps | apply setPcore_keeps | apply setSe_keeps
                            | apply onCore_keeps | apply reportOpen_keeps | apply retireColumn_keeps)
    | (simp only [keeps_mk]; with_reducible apply keepsAt_of) | split | dsimp only | intro _

theorem startUnits_keeps {σ : State} (s : State) (hk : Keeps σ s) :
    Keeps σ (State.startUnits s) := by
  unfold State.startUnits
  repeat' first
    | (with_reducible first | assumption | apply fset_keeps | apply raise_keeps | apply putPortState_keeps
                            | refine foldl_keeps (fun _ _ _ => ?_) ?_)
    | (simp only [keeps_mk]; with_reducible apply keepsAt_of) | split | dsimp only | intro _

theorem avsRequest_keeps {σ : State} (s : State) (rail : Nat) (hk : Keeps σ s) :
    Keeps σ (State.avsRequest s rail) := by
  unfold State.avsRequest
  repeat' first
    | (with_reducible first | assumption | apply emit_keeps | apply keepsO_getD)
    | (simp only [keeps_mk]; with_reducible apply keepsAt_of) | split | dsimp only | intro _

theorem mgmtRespond_keeps {σ : State} (s : State) (proto code : Nat) (bytes : List Byte) (hk : Keeps σ s) :
    Keeps σ (State.mgmtRespond s proto code bytes) := by
  unfold State.mgmtRespond
  repeat' first
    | (with_reducible first | assumption | apply emit_keeps)
    | (simp only [keeps_mk]; with_reducible apply keepsAt_of) | split | dsimp only | intro _

theorem putFw_keeps {σ : State} (s : State) (i : Nat) (b : List Byte) (hk : Keeps σ s) : Keeps σ (State.putFw s i b) := by
  unfold State.putFw
  split <;> exact keeps_nv hk _ rfl rfl

theorem putTogus_keeps {σ : State} (s : State) (i : Nat) (b : List Byte) (hk : Keeps σ s) : Keeps σ (State.putTogus s i b) := by
  unfold State.putTogus
  split <;> exact keeps_nv hk _ rfl rfl

theorem endStaging_keeps {σ : State} (s : State) (ok : Bool) (hk : Keeps σ s) :
    Keeps σ (State.endStaging s ok) := by
  unfold State.endStaging
  repeat' first
    | (with_reducible first | assumption | apply mntEnd_keeps | apply mgmtRespond_keeps)
    | (simp only [keeps_mk]; with_reducible apply keepsAt_of) | split | dsimp only | intro _

theorem setOwner_keeps {σ : State} (s : State) (i st : Nat) (hk : Keeps σ s) : Keeps σ (State.setOwner s i st) := by
  unfold State.setOwner
  exact fset_keeps _ _ _ (keeps_nv hk _ rfl rfl)

theorem respond_keeps {σ : State} (s : State) (q : RackReq) (status : Nat) (bytes : List Byte) (flags : Nat) (hk : Keeps σ s) :
    Keeps σ (State.respond s q status bytes flags) := by
  unfold State.respond
  repeat' first
    | (with_reducible first | assumption | apply emit_keeps)
    | (simp only [keeps_mk]; with_reducible apply keepsAt_of) | split | dsimp only | intro _

theorem refuseReq_keeps {σ : State} (s : State) (q : RackReq) (status : Nat) (hk : Keeps σ s) :
    Keeps σ (State.refuseReq s q status) := by
  unfold State.refuseReq
  repeat' first
    | (with_reducible first | assumption | apply finc_keeps | apply reportOpen_keeps | apply respond_keeps)
    | (simp only [keeps_mk]; with_reducible apply keepsAt_of) | split | dsimp only | intro _

theorem atTarget_keeps {σ : State} (s : State) (q : RackReq) (go : State) (h_go : Keeps σ go) (hk : Keeps σ s) :
    Keeps σ (State.atTarget s q go) := by
  unfold State.atTarget
  split
  · exact refuseReq_keeps _ _ _ hk
  · exact h_go

theorem served_keeps {σ : State} (s : State) (d m : Nat) (hk : Keeps σ s) :
    Keeps σ (State.served s d m) := by
  unfold State.served
  repeat' first
    | (with_reducible first | assumption | apply fincSat_keeps)
    | (simp only [keeps_mk]; with_reducible apply keepsAt_of) | split | dsimp only | intro _

theorem drainEntry_keeps {σ : State} (s : State) (e : EpochEntry) (hk : Keeps σ s) :
    Keeps σ (State.drainEntry s e) := by
  unfold State.drainEntry
  repeat' first
    | (with_reducible first | assumption | apply setDirLine_keeps | apply write_keeps | apply clearPoison_keeps
                            | apply writeBack_keeps | apply keepsO_getD | refine foldl_keeps (fun _ _ _ => ?_) ?_)
    | (simp only [keeps_mk]; with_reducible apply keepsAt_of) | split | dsimp only | intro _

theorem drainPublished_keeps {σ : State} (s : State) (m : Nat) (hk : Keeps σ s) :
    Keeps σ (State.drainPublished s m) := by
  unfold State.drainPublished
  repeat' first
    | (with_reducible first | assumption | apply setEwtOf_keeps | apply drainEntry_keeps
                            | refine foldl_keeps (fun _ _ _ => ?_) ?_)
    | (simp only [keeps_mk]; with_reducible apply keepsAt_of) | split | dsimp only | intro _

theorem homeFires_keeps {σ : State} (s : State) (m n : Nat) (hk : Keeps σ s) :
    Keeps σ (State.homeFires s m n) := by
  unfold State.homeFires
  repeat' first
    | (with_reducible first | assumption | apply drainPublished_keeps)
    | (simp only [keeps_mk]; with_reducible apply keepsAt_of) | split | dsimp only | intro _

theorem epochPut_opt {σ : State} (s : State) (m line off : Nat) (bs : List Byte) (hk : Keeps σ s) :
    KeepsO σ (State.epochPut s m line off bs) := by
  unfold State.epochPut
  repeat' first
    | (with_reducible first | assumption | apply setEwtOf_keeps | apply drainPublished_keeps | exact keepsO_none
                            | apply keepsO_some | exact keepsOP_none | apply keepsOP_some | apply keepsP_mk
                            | refine keepsO_elim (by assumption) ?_ | exact keepsO_get (by assumption)
                            | refine keepsP_elim (by assumption) ?_ | exact keepsP_get (by assumption)
                            | refine keepsOP_elim (by assumption) ?_ | exact keepsOP_get (by assumption)
                            | refine keepsOP_elim1 (by assumption) ?_ | exact keepsOP_get1 (by assumption))
    | (simp only [keeps_mk]; with_reducible apply keepsAt_of) | split | dsimp only | intro _

theorem beaconLoad_keeps {σ : State} (s : State) (q : RackReq) (hk : Keeps σ s) :
    Keeps σ (State.beaconLoad s q) := by
  unfold State.beaconLoad
  repeat' first
    | (with_reducible first | assumption | apply fincSat_keeps | apply refuseBeacon_keeps | apply bcnRead_keeps)
    | (simp only [keeps_mk]; with_reducible apply keepsAt_of) | split | dsimp only | intro _

theorem homeLoad_keeps {σ : State} (s : State) (q : RackReq) (hk : Keeps σ s) :
    Keeps σ (State.homeLoad s q) := by
  unfold State.homeLoad
  repeat' first
    | (with_reducible first | assumption | apply reportHeld_keeps | apply correctAt_keeps | apply readLine_keeps
                            | apply respond_keeps | apply served_keeps | apply homeFires_keeps
                            | apply beaconLoad_keeps | apply keepsO_getD)
    | (simp only [keeps_mk]; with_reducible apply keepsAt_of) | split | dsimp only | intro _

theorem homeStore_keeps {σ : State} (s : State) (q : RackReq) (data : List Byte) (hk : Keeps σ s) :
    Keeps σ (State.homeStore s q data) := by
  unfold State.homeStore
  repeat' first
    | (with_reducible first | assumption | apply reportHeld_keeps | apply storePa_keeps | apply respond_keeps
                            | apply served_keeps | apply homeFires_keeps | apply epochPut_opt | apply keepsO_getD
                            | exact keepsO_none | apply keepsO_some | exact keepsOP_none | apply keepsOP_some
                            | apply keepsP_mk | refine keepsO_elim (by assumption) ?_
                            | exact keepsO_get (by assumption) | refine keepsP_elim (by assumption) ?_
                            | exact keepsP_get (by assumption) | refine keepsOP_elim (by assumption) ?_
                            | exact keepsOP_get (by assumption) | refine keepsOP_elim1 (by assumption) ?_
                            | exact keepsOP_get1 (by assumption))
    | (simp only [keeps_mk]; with_reducible apply keepsAt_of) | split | dsimp only | intro _

theorem beaconAtomic_keeps {σ : State} (s : State) (q : RackReq) (op : Nat) (operand compare : Word) (hk : Keeps σ s) :
    Keeps σ (State.beaconAtomic s q op operand compare) := by
  unfold State.beaconAtomic
  repeat' first
    | (with_reducible first | assumption | apply fincSat_keeps | apply refuseBeacon_keeps | apply bcnAdd_keeps
                            | apply bcnSet_keeps | apply bcnCas_keeps | apply bcnWait_keeps | apply bcnArm_keeps
                            | apply bcnAcquire_keeps | apply bcnRelease_keeps | apply bcnReprio_keeps)
    | (simp only [keeps_mk]; with_reducible apply keepsAt_of) | split | dsimp only | intro _

theorem updateLine_keeps {σ : State} (s : State) (l : Loc) (hk : Keeps σ s) :
    Keeps σ (State.updateLine s l) := by
  unfold State.updateLine
  repeat' first
    | (with_reducible first | assumption | apply setDirLine_keeps | apply writeBack_keeps)
    | (simp only [keeps_mk]; with_reducible apply keepsAt_of) | split | dsimp only | intro _

theorem homeAtomic_keeps {σ : State} (s : State) (q : RackReq) (op : Nat) (operand compare : Word) (hk : Keeps σ s) :
    Keeps σ (State.homeAtomic s q op operand compare) := by
  unfold State.homeAtomic
  repeat' first
    | (with_reducible first | assumption | apply write_keeps | apply reportHeld_keeps | apply correctAt_keeps
                            | apply readLine_keeps | apply drainLine_keeps | apply respond_keeps
                            | apply served_keeps | apply beaconAtomic_keeps | apply updateLine_keeps
                            | apply keepsO_getD)
    | (simp only [keeps_mk]; with_reducible apply keepsAt_of) | split | dsimp only | intro _

theorem rackAtomic_ends {σ : State} (s : State) (base : Nat) (q : RackReq) (op : Nat) (operand compare : Word) (hk : Keeps σ s) :
    Ends σ (State.rackAtomic s base q op operand compare) := by
  unfold State.rackAtomic
  repeat' first
    | (with_reducible first | assumption | apply atTarget_keeps | apply homeAtomic_keeps | apply ends_next
                            | apply ends_whenever)
    | (simp only [keeps_mk]; with_reducible apply keepsAt_of) | split | dsimp only | intro _

theorem issueAtomic_fst {σ : State} (s : State) (c : List Byte) (part : Option Nat) (core : Option CoreId) (mover : Option (Mover × Nat × Nat)) (hk : Keeps σ s) :
    KeepsP σ (State.issueAtomic s c part core mover) := by
  unfold State.issueAtomic
  repeat' first
    | (with_reducible first | assumption | apply rackIssue_fst | apply rackIssue_fst1 | exact keepsO_none
                            | apply keepsO_some | exact keepsOP_none | apply keepsOP_some | apply keepsP_mk
                            | refine keepsO_elim (by assumption) ?_ | exact keepsO_get (by assumption)
                            | refine keepsP_elim (by assumption) ?_ | exact keepsP_get (by assumption)
                            | refine keepsOP_elim (by assumption) ?_ | exact keepsOP_get (by assumption)
                            | refine keepsOP_elim1 (by assumption) ?_ | exact keepsOP_get1 (by assumption))
    | (simp only [keeps_mk]; with_reducible apply keepsAt_of) | split | dsimp only | intro _

theorem issueAtomic_fst1 {σ : State} (s : State) (c : List Byte) (part : Option Nat) (core : Option CoreId) (mover : Option (Mover × Nat × Nat)) (hk : Keeps σ s) : Keeps σ (State.issueAtomic s c part core mover).1 :=
  issueAtomic_fst s c part core mover hk

theorem portIssue_opt {σ : State} (s : State) (u : CoreId) (compare : Word) (hk : Keeps σ s) :
    KeepsO σ (State.portIssue s u compare) := by
  unfold State.portIssue
  repeat' first
    | (with_reducible first | assumption | apply onJumbe_keeps | apply issueAtomic_fst | apply issueAtomic_fst1
                            | exact keepsO_none | apply keepsO_some | exact keepsOP_none | apply keepsOP_some
                            | apply keepsP_mk | refine keepsO_elim (by assumption) ?_
                            | exact keepsO_get (by assumption) | refine keepsP_elim (by assumption) ?_
                            | exact keepsP_get (by assumption) | refine keepsOP_elim (by assumption) ?_
                            | exact keepsOP_get (by assumption) | refine keepsOP_elim1 (by assumption) ?_
                            | exact keepsOP_get1 (by assumption))
    | (simp only [keeps_mk]; with_reducible apply keepsAt_of) | split | dsimp only | intro _

theorem cacheEpoch_keeps {σ : State} (s : State) (r : RackOut) (status : Nat) (data : List Byte) (transit : Option Nat) (hk : Keeps σ s) :
    Keeps σ (State.cacheEpoch s r status data transit) := by
  unfold State.cacheEpoch
  repeat' first
    | (with_reducible first | assumption)
    | (simp only [keeps_mk]; with_reducible apply keepsAt_of) | split | dsimp only | intro _

theorem installKeys_keeps {σ : State} (s : State) (n : Nat) (hk : Keeps σ s) :
    Keeps σ (State.installKeys s n) := by
  unfold State.installKeys
  repeat' first
    | (with_reducible first | assumption | apply fset_keeps | apply setOktOf_keeps
                            | refine foldl_keeps (fun _ _ _ => ?_) ?_)
    | (simp only [keeps_mk]; with_reducible apply keepsAt_of) | split | dsimp only | intro _

theorem showPeer_keeps {σ : State} (s : State) (n lam : Nat) (p : PeerInfo) (hk : Keeps σ s) :
    Keeps σ (State.showPeer s n lam p) := by
  unfold State.showPeer
  repeat' first
    | (with_reducible first | assumption | apply setReg_keeps | apply fset_keeps)
    | (simp only [keeps_mk]; with_reducible apply keepsAt_of) | split | dsimp only | intro _

theorem replay_keeps {σ : State} (s : State) (n lam : Nat) (hk : Keeps σ s) :
    Keeps σ (State.replay s n lam) := by
  unfold State.replay
  repeat' first
    | (with_reducible first | assumption | apply finc_keeps | apply putLink_keeps | apply startLinkRetrain_keeps)
    | (simp only [keeps_mk]; with_reducible apply keepsAt_of) | split | dsimp only | intro _

theorem rxHeader_keeps {σ : State} (s : State) (n lam : Nat) (f : Flit) (hk : Keeps σ s) :
    Keeps σ (State.rxHeader s n lam f) := by
  unfold State.rxHeader
  repeat' first
    | (with_reducible first | assumption | apply finc_keeps | apply onLink_keeps | apply replay_keeps)
    | (simp only [keeps_mk]; with_reducible apply keepsAt_of) | split | dsimp only | intro _

theorem policeBytes_keeps {σ : State} (s : State) (src n : Nat) (hk : Keeps σ s) :
    Keeps σ (State.policeBytes s src n) := by
  unfold State.policeBytes
  repeat' first
    | (with_reducible first | assumption | apply setReg_keeps | apply setPoliceOf_keeps | apply reportOpen_keeps)
    | (simp only [keeps_mk]; with_reducible apply keepsAt_of) | split | dsimp only | intro _

theorem policeFlit_keeps {σ : State} (s : State) (vc : Nat) (ms : List Msg) (hk : Keeps σ s) :
    Keeps σ (State.policeFlit s vc ms) := by
  unfold State.policeFlit
  repeat' first
    | (with_reducible first | assumption | apply policeBytes_keeps | refine foldl_keeps (fun _ _ _ => ?_) ?_)
    | (simp only [keeps_mk]; with_reducible apply keepsAt_of) | split | dsimp only | intro _

theorem rxMsg_keeps {σ : State} (s : State) (n lam vc : Nat) (holds : Option (Nat × Nat)) (m : Msg) (hk : Keeps σ s) :
    Keeps σ (State.rxMsg s n lam vc holds m) := by
  unfold State.rxMsg
  repeat' first
    | (with_reducible first | assumption | apply emit_keeps | apply freeBuffer_keeps | apply sendMsg_opt
                            | apply malformed_keeps | exact keepsO_none | apply keepsO_some | exact keepsOP_none
                            | apply keepsOP_some | apply keepsP_mk | refine keepsO_elim (by assumption) ?_
                            | exact keepsO_get (by assumption) | refine keepsP_elim (by assumption) ?_
                            | exact keepsP_get (by assumption) | refine keepsOP_elim (by assumption) ?_
                            | exact keepsOP_get (by assumption) | refine keepsOP_elim1 (by assumption) ?_
                            | exact keepsOP_get1 (by assumption))
    | (simp only [keeps_mk]; with_reducible apply keepsAt_of) | split | dsimp only | intro _

theorem rxAccept_keeps {σ : State} (s : State) (n lam : Nat) (f : Flit) (hk : Keeps σ s) :
    Keeps σ (State.rxAccept s n lam f) := by
  unfold State.rxAccept
  repeat' first
    | (with_reducible first | assumption | apply onLink_keeps | apply freeBuffer_keeps | apply policeFlit_keeps
                            | apply rxMsg_keeps | refine foldl_keeps (fun _ _ _ => ?_) ?_)
    | (simp only [keeps_mk]; with_reducible apply keepsAt_of) | split | dsimp only | intro _

theorem sendFlit_keeps {σ : State} (s : State) (n lam ftype seq : Nat) (msgs : List Msg) (hk : Keeps σ s) :
    Keeps σ (State.sendFlit s n lam ftype seq msgs) := by
  unfold State.sendFlit
  repeat' first
    | (with_reducible first | assumption | apply emit_keeps | apply putLink_keeps)
    | (simp only [keeps_mk]; with_reducible apply keepsAt_of) | split | dsimp only | intro _

theorem sendAck_keeps {σ : State} (s : State) (n lam : Nat) (hk : Keeps σ s) :
    Keeps σ (State.sendAck s n lam) := by
  unfold State.sendAck
  repeat' first
    | (with_reducible first | assumption | apply emit_keeps | apply putLink_keeps)
    | (simp only [keeps_mk]; with_reducible apply keepsAt_of) | split | dsimp only | intro _

theorem sendData_keeps {σ : State} (s : State) (n lam : Nat) (turn : VcTurn) (i : SendItem) (hk : Keeps σ s) :
    Keeps σ (State.sendData s n lam turn i) := by
  unfold State.sendData
  repeat' first
    | (with_reducible first | assumption | apply putLink_keeps | apply freeBuffer_keeps | apply sendFlit_keeps
                            | refine foldl_keeps (fun _ _ _ => ?_) ?_)
    | (simp only [keeps_mk]; with_reducible apply keepsAt_of) | split | dsimp only | intro _

theorem retrainLink_keeps {σ : State} (s : State) (n lam : Nat) (hk : Keeps σ s) :
    Keeps σ (State.retrainLink s n lam) := by
  unfold State.retrainLink
  repeat' first
    | (with_reducible first | assumption | apply setLinkSt_keeps | apply onLink_keeps | apply startTrain_keeps
                            | apply startLinkRetrain_keeps)
    | (simp only [keeps_mk]; with_reducible apply keepsAt_of) | split | dsimp only | intro _

theorem renumber_keeps {σ : State} (s : State) (i : Nat) (hk : Keeps σ s) :
    Keeps σ (State.renumber s i) := by
  unfold State.renumber
  repeat' first
    | (with_reducible first | assumption | apply fset_keeps | apply keepsO_getD)
    | (simp only [keeps_mk]; with_reducible apply keepsAt_of) | split | dsimp only | intro _

theorem onPost_keeps {σ : State} (s : State) (k : Nat) (f : Post → Post) (hk : Keeps σ s) :
    Keeps σ (State.onPost s k f) := by
  unfold State.onPost
  repeat' first
    | (with_reducible first | assumption | apply setPost_keeps)
    | (simp only [keeps_mk]; with_reducible apply keepsAt_of) | split | dsimp only | intro _

theorem countPost_keeps {σ : State} (s : State) (k n : Nat) (hk : Keeps σ s) :
    Keeps σ (State.countPost s k n) := by
  unfold State.countPost
  repeat' first
    | (with_reducible first | assumption | apply hwAddN_keeps | apply onPost_keeps)
    | (simp only [keeps_mk]; with_reducible apply keepsAt_of) | split | dsimp only | intro _

theorem completePost_keeps {σ : State} (s : State) (k status landed : Nat) (witness : Word) (peer : Nat × Nat) (hk : Keeps σ s) :
    Keeps σ (State.completePost s k status landed witness peer) := by
  unfold State.completePost
  repeat' first
    | (with_reducible first | assumption | apply onPost_keeps | apply countPost_keeps)
    | (simp only [keeps_mk]; with_reducible apply keepsAt_of) | split | dsimp only | intro _

theorem abortPost_keeps {σ : State} (s : State) (status : Nat) (peer : Nat × Nat) (k : Nat) (hk : Keeps σ s) :
    Keeps σ (State.abortPost s status peer k) := by
  unfold State.abortPost
  repeat' first
    | (with_reducible first | assumption | apply completePost_keeps)
    | (simp only [keeps_mk]; with_reducible apply keepsAt_of) | split | dsimp only | intro _

theorem unpark_keeps {σ : State} (s : State) (f : Parked → Bool) (hk : Keeps σ s) :
    Keeps σ (State.unpark s f) := by
  unfold State.unpark
  repeat' first
    | (with_reducible first | assumption | apply emit_keeps | refine foldl_keeps (fun _ _ _ => ?_) ?_)
    | (simp only [keeps_mk]; with_reducible apply keepsAt_of) | split | dsimp only | intro _

theorem storeCombined_keeps {σ : State} (s : State) (c off : Nat) (bs : List Byte) (bad : Nat → Bool) (hk : Keeps σ s) :
    Keeps σ (State.storeCombined s c off bs bad) := by
  unfold State.storeCombined
  repeat' first
    | (with_reducible first | assumption | apply setPoison_keeps | apply storePad_keeps
                            | refine foldl_keeps (fun _ _ _ => ?_) ?_)
    | (simp only [keeps_mk]; with_reducible apply keepsAt_of) | split | dsimp only | intro _

theorem sendAbort_keeps {σ : State} (s : State) (reason : Nat) (pairs : List (Nat × Nat)) (hk : Keeps σ s) :
    Keeps σ (State.sendAbort s reason pairs) := by
  unfold State.sendAbort
  repeat' first
    | (with_reducible first | assumption | apply emit_keeps | refine foldl_keeps (fun _ _ _ => ?_) ?_)
    | (simp only [keeps_mk]; with_reducible apply keepsAt_of) | split | dsimp only | intro _

theorem addTomb_keeps {σ : State} (s : State) (t : Tomb) (hk : Keeps σ s) : Keeps σ (State.addTomb s t) := by
  unfold State.addTomb
  have hb : Keeps σ { s with buried := s.buried ++ [t] } := hk
  dsimp only
  split
  · refine fincSat_keeps _ _ _ (keeps_tombs hb _ (fun h => ?_))
    dsimp only at h ⊢
    simp only [List.length_append, List.length_drop, List.length_singleton]
    omega
  · refine keeps_tombs hb _ (fun h => ?_)
    dsimp only at h ⊢
    simp only [List.length_append, List.length_singleton]
    omega

theorem abortOne_keeps {σ : State} (s : State) (reason : Nat) (pair peer : Nat × Nat) (hk : Keeps σ s) :
    Keeps σ (State.abortOne s reason pair peer) := by
  unfold State.abortOne
  repeat' first
    | (with_reducible first | assumption | apply abortPost_keeps | apply unpark_keeps | apply addTomb_keeps
                            | refine foldl_keeps (fun _ _ _ => ?_) ?_)
    | (simp only [keeps_mk]; with_reducible apply keepsAt_of) | split | dsimp only | intro _

theorem abortPairs_keeps {σ : State} (s : State) (reason : Nat) (pairs : List (Nat × Nat)) (hk : Keeps σ s) :
    Keeps σ (State.abortPairs s reason pairs) := by
  unfold State.abortPairs
  repeat' first
    | (with_reducible first | assumption | apply abortOne_keeps)
    | (simp only [keeps_mk]; with_reducible apply keepsAt_of) | split | dsimp only | intro _

theorem colCheckFail_keeps {σ : State} (s : State) (c cst seq : Nat) (hk : Keeps σ s) :
    Keeps σ (State.colCheckFail s c cst seq) := by
  unfold State.colCheckFail
  repeat' first
    | (with_reducible first | assumption | apply reportOpen_keeps | apply sendAbort_keeps | apply abortOne_keeps)
    | (simp only [keeps_mk]; with_reducible apply keepsAt_of) | split | dsimp only | intro _

theorem finishPost_keeps {σ : State} (s : State) (k : Nat) (hk : Keeps σ s) :
    Keeps σ (State.finishPost s k) := by
  unfold State.finishPost
  repeat' first
    | (with_reducible first | assumption | apply storePad_keeps | apply onPost_keeps | apply completePost_keeps
                            | apply colCheckFail_keeps | refine foldl_keeps (fun _ _ _ => ?_) ?_)
    | (simp only [keeps_mk]; with_reducible apply keepsAt_of) | split | dsimp only | intro _

theorem settlePost_keeps {σ : State} (s : State) (k : Nat) (hk : Keeps σ s) :
    Keeps σ (State.settlePost s k) := by
  unfold State.settlePost
  repeat' first
    | (with_reducible first | assumption | apply finishPost_keeps)
    | (simp only [keeps_mk]; with_reducible apply keepsAt_of) | split | dsimp only | intro _

theorem arrive_keeps {σ : State} (s : State) (k m : Nat) (hk : Keeps σ s) :
    Keeps σ (State.arrive s k m) := by
  unfold State.arrive
  repeat' first
    | (with_reducible first | assumption | apply setPost_keeps | apply countPost_keeps)
    | (simp only [keeps_mk]; with_reducible apply keepsAt_of) | split | dsimp only | intro _

theorem landBytes_keeps {σ : State} (s : State) (k m : Nat) (bs : List Byte) (bad : Nat → Bool) (hk : Keeps σ s) :
    Keeps σ (State.landBytes s k m bs bad) := by
  unfold State.landBytes
  repeat' first
    | (with_reducible first | assumption | apply onPost_keeps | apply storeCombined_keeps | apply settlePost_keeps
                            | apply arrive_keeps)
    | (simp only [keeps_mk]; with_reducible apply keepsAt_of) | split | dsimp only | intro _

theorem landExact_keeps {σ : State} (s : State) (k src : Nat) (bs : List Byte) (bad : Bool) (hk : Keeps σ s) :
    Keeps σ (State.landExact s k src bs bad) := by
  unfold State.landExact
  repeat' first
    | (with_reducible first | assumption | apply setPost_keeps | apply storeCombined_keeps | apply settlePost_keeps
                            | apply arrive_keeps | apply keepsO_getD | refine foldl_keeps (fun _ _ _ => ?_) ?_)
    | (simp only [keeps_mk]; with_reducible apply keepsAt_of) | split | dsimp only | intro _

theorem landMsg_keeps {σ : State} (s : State) (k src m : Nat) (exact retried : Bool) (bs : List Byte) (bad : Nat → Bool) (hk : Keeps σ s) :
    Keeps σ (State.landMsg s k src m exact retried bs bad) := by
  unfold State.landMsg
  repeat' first
    | (with_reducible first | assumption | apply onPost_keeps | apply landBytes_keeps | apply landExact_keeps)
    | (simp only [keeps_mk]; with_reducible apply keepsAt_of) | split | dsimp only | intro _

theorem takeParked_keeps {σ : State} (s : State) (k : Nat) (hk : Keeps σ s) :
    Keeps σ (State.takeParked s k) := by
  unfold State.takeParked
  repeat' first
    | (with_reducible first | assumption | apply correctAt_keeps | apply unpark_keeps | apply landMsg_keeps
                            | refine foldl_keeps (fun _ _ _ => ?_) ?_)
    | (simp only [keeps_mk]; with_reducible apply keepsAt_of) | split | dsimp only | intro _

theorem postEntry_keeps {σ : State} (s : State) (k : Nat) (hk : Keeps σ s) : Keeps σ (State.postEntry s k) := by
  unfold State.postEntry
  dsimp only
  split
  · exact completePost_keeps _ _ _ _ _ _ (setPost_keeps _ _ _ hk)
  · split
    · refine completePost_keeps _ _ _ _ _ _ (keeps_tombs (setPost_keeps _ _ _ hk) _ (fun h => ?_))
      exact Nat.le_trans (List.Sublist.length_le List.erase_sublist) h
    · apply takeParked_keeps
      split
      · exact storePad_keeps _ _ _ _ (setPost_keeps _ _ _ hk)
      · exact setPost_keeps _ _ _ hk

theorem postWrite_keeps {σ : State} (s : State) (k off : Nat) (bs : List Byte) (hk : Keeps σ s) :
    Keeps σ (State.postWrite s k off bs) := by
  unfold State.postWrite
  repeat' first
    | (with_reducible first | assumption | apply setPost_keeps | apply postEntry_keeps)
    | (simp only [keeps_mk]; with_reducible apply keepsAt_of) | split | dsimp only | intro _

theorem park_keeps {σ : State} (s : State) (m : RxMsg) (bs : List Byte) (i : Nat) (hk : Keeps σ s) :
    Keeps σ (State.park s m bs i) := by
  unfold State.park
  repeat' first
    | (with_reducible first | assumption | apply write_keeps | apply clearPoison_keeps)
    | (simp only [keeps_mk]; with_reducible apply keepsAt_of) | split | dsimp only | intro _

theorem rxDone_keeps {σ : State} (s : State) (m : RxMsg) (bs : List Byte) (hk : Keeps σ s) :
    Keeps σ (State.rxDone s m bs) := by
  unfold State.rxDone
  repeat' first
    | (with_reducible first | assumption | apply fincSat_keeps | apply emit_keeps | apply colCheckFail_keeps
                            | apply landMsg_keeps | apply park_keeps)
    | (simp only [keeps_mk]; with_reducible apply keepsAt_of) | split | dsimp only | intro _

theorem takeLost_keeps {σ : State} (s : State) (ldn t : Nat) (hk : Keeps σ s) :
    Keeps σ (State.takeLost s ldn t) := by
  unfold State.takeLost
  repeat' first
    | (with_reducible first | assumption | apply fincSat_keeps)
    | (simp only [keeps_mk]; with_reducible apply keepsAt_of) | split | dsimp only | intro _

theorem declareDark_keeps {σ : State} (s : State) (ldn : Nat) (hk : Keeps σ s) :
    Keeps σ (State.declareDark s ldn) := by
  unfold State.declareDark
  repeat' first
    | (with_reducible first | assumption | apply emit_keeps | apply reportOpen_keeps | apply orphanLdn_keeps
                            | apply takeLost_keeps | refine foldl_keeps (fun _ _ _ => ?_) ?_)
    | (simp only [keeps_mk]; with_reducible apply keepsAt_of) | split | dsimp only | intro _

theorem shrink_keeps {σ : State} (s : State) (i : Nat) (hk : Keeps σ s) : Keeps σ (State.shrink s i) := by
  unfold State.shrink
  dsimp only
  refine keeps_tombs ?_ _ (fun h => Nat.le_trans (List.length_filter_le _ _) h)
  exact unpark_keeps _ _ (fset_keeps _ _ _ (foldl_keeps (fun t x h => finc_keeps _ _ _ (abortPost_keeps _ _ _ _ h)) hk))

theorem applyLost_keeps {σ : State} (s : State) (n : Nat) (hk : Keeps σ s) :
    Keeps σ (State.applyLost s n) := by
  unfold State.applyLost
  repeat' first
    | (with_reducible first | assumption | apply fset_keeps | apply shrinkSolves_keeps | apply renumber_keeps
                            | apply shrink_keeps | refine foldl_keeps (fun _ _ _ => ?_) ?_)
    | (simp only [keeps_mk]; with_reducible apply keepsAt_of) | split | dsimp only | intro _

theorem applyCst_keeps {σ : State} (s : State) (i : Nat) (hk : Keeps σ s) :
    Keeps σ (State.applyCst s i) := by
  unfold State.applyCst
  repeat' first
    | (with_reducible first | assumption | apply fset_keeps | apply renumber_keeps | apply abortPost_keeps
                            | apply unpark_keeps | apply shrink_keeps | refine foldl_keeps (fun _ _ _ => ?_) ?_)
    | (simp only [keeps_mk]; with_reducible apply keepsAt_of) | split | dsimp only | intro _

theorem applyCol_keeps {σ : State} (s : State) (n : Nat) (hk : Keeps σ s) :
    Keeps σ (State.applyCol s n) := by
  unfold State.applyCol
  repeat' first
    | (with_reducible first | assumption | apply fset_keeps | apply applyCst_keeps
                            | refine foldl_keeps (fun _ _ _ => ?_) ?_)
    | (simp only [keeps_mk]; with_reducible apply keepsAt_of) | split | dsimp only | intro _

theorem sendOut_keeps {σ : State} (s : State) (c : Nat) (o : OutMsg) (hk : Keeps σ s) :
    Keeps σ (State.sendOut s c o) := by
  unfold State.sendOut
  repeat' first
    | (with_reducible first | assumption | apply setReq_keeps | apply emit_keeps | apply endDead_keeps
                            | apply declareDark_keeps)
    | (simp only [keeps_mk]; with_reducible apply keepsAt_of) | split | dsimp only | intro _

theorem resendOut_keeps {σ : State} (s : State) (c : Nat) (o : OutMsg) (resent : Bool) (hk : Keeps σ s) :
    Keeps σ (State.resendOut s c o resent) := by
  unfold State.resendOut
  repeat' first
    | (with_reducible first | assumption | apply setReq_keeps | apply sendOut_keeps)
    | (simp only [keeps_mk]; with_reducible apply keepsAt_of) | split | dsimp only | intro _

theorem slotSend_keeps {σ : State} (s : State) (k m : Nat) (bs : List Byte) (waits : List WinWait) (hk : Keeps σ s) :
    Keeps σ (State.slotSend s k m bs waits) := by
  unfold State.slotSend
  repeat' first
    | (with_reducible first | assumption | apply sendOut_keeps | apply keepsO_getD)
    | (simp only [keeps_mk]; with_reducible apply keepsAt_of) | split | dsimp only | intro _

theorem flushPartial_keeps {σ : State} (s : State) (k : Nat) (last : Bool) (hk : Keeps σ s) :
    Keeps σ (State.flushPartial s k last) := by
  unfold State.flushPartial
  repeat' first
    | (with_reducible first | assumption | apply setSlot_keeps | apply slotSend_keeps)
    | (simp only [keeps_mk]; with_reducible apply keepsAt_of) | split | dsimp only | intro _

theorem slotEntry_keeps {σ : State} (s : State) (k : Nat) (bs : List Byte) (hk : Keeps σ s) :
    Keeps σ (State.slotEntry s k bs) := by
  unfold State.slotEntry
  repeat' first
    | (with_reducible first | assumption | apply setSlot_keeps | apply flushPartial_keeps | apply keepsO_getD)
    | (simp only [keeps_mk]; with_reducible apply keepsAt_of) | split | dsimp only | intro _

theorem slotByte_keeps {σ : State} (s : State) (k : Nat) (b : Byte) (hk : Keeps σ s) :
    Keeps σ (State.slotByte s k b) := by
  unfold State.slotByte
  repeat' first
    | (with_reducible first | assumption | apply setSlot_keeps | apply slotSend_keeps | apply slotEntry_keeps)
    | (simp only [keeps_mk]; with_reducible apply keepsAt_of) | split | dsimp only | intro _

theorem windowWrite_fst {σ : State} (s : State) (k off : Nat) (bs : List Byte) (wait : WinWait) (hk : Keeps σ s) :
    KeepsP σ (State.windowWrite s k off bs wait) := by
  unfold State.windowWrite
  repeat' first
    | (with_reducible first | assumption | apply setSlot_keeps | apply slotByte_keeps
                            | refine foldl_keeps (fun _ _ _ => ?_) ?_ | refine foldl_keepsO (fun _ _ _ => ?_) ?_
                            | refine foldl_keepsP (fun _ _ _ => ?_) ?_ | refine foldl_keepsOP (fun _ _ _ => ?_) ?_
                            | exact keepsO_none | apply keepsO_some | exact keepsOP_none | apply keepsOP_some
                            | apply keepsP_mk | refine keepsO_elim (by assumption) ?_
                            | exact keepsO_get (by assumption) | refine keepsP_elim (by assumption) ?_
                            | exact keepsP_get (by assumption) | refine keepsOP_elim (by assumption) ?_
                            | exact keepsOP_get (by assumption) | refine keepsOP_elim1 (by assumption) ?_
                            | exact keepsOP_get1 (by assumption))
    | (simp only [keeps_mk]; with_reducible apply keepsAt_of) | split | dsimp only | intro _

theorem windowWrite_fst1 {σ : State} (s : State) (k off : Nat) (bs : List Byte) (wait : WinWait) (hk : Keeps σ s) : Keeps σ (State.windowWrite s k off bs wait).1 :=
  windowWrite_fst s k off bs wait hk

theorem slotWrite_keeps {σ : State} (s : State) (k off : Nat) (bs : List Byte) (hk : Keeps σ s) :
    Keeps σ (State.slotWrite s k off bs) := by
  unfold State.slotWrite
  repeat' first
    | (with_reducible first | assumption | apply setSlot_keeps | apply endWinWait_keeps
                            | refine foldl_keeps (fun _ _ _ => ?_) ?_)
    | (simp only [keeps_mk]; with_reducible apply keepsAt_of) | split | dsimp only | intro _

theorem stepSet_keeps {σ : State} (s : State) (p bits : Nat) (hk : Keeps σ s) :
    Keeps σ (State.stepSet s p bits) := by
  unfold State.stepSet
  repeat' first
    | (with_reducible first | assumption | apply setReg_keeps)
    | (simp only [keeps_mk]; with_reducible apply keepsAt_of) | split | dsimp only | intro _

theorem readPiece_optfst {σ : State} (s : State) (u : CoreId) (draw va n : Nat) (hk : Keeps σ s) :
    KeepsOP σ (State.readPiece s u draw va n) := by
  unfold State.readPiece
  repeat' first
    | (with_reducible first | assumption | apply correctAt_keeps | apply touchPa_keeps | apply readPad_keeps
                            | apply pend_keeps | apply rackIssue_fst | apply rackIssue_fst1 | exact keepsO_none
                            | apply keepsO_some | exact keepsOP_none | apply keepsOP_some | apply keepsP_mk
                            | refine keepsO_elim (by assumption) ?_ | exact keepsO_get (by assumption)
                            | refine keepsP_elim (by assumption) ?_ | exact keepsP_get (by assumption)
                            | refine keepsOP_elim (by assumption) ?_ | exact keepsOP_get (by assumption)
                            | refine keepsOP_elim1 (by assumption) ?_ | exact keepsOP_get1 (by assumption))
    | (simp only [keeps_mk]; with_reducible apply keepsAt_of) | split | dsimp only | intro _

theorem readParts_optfst {σ : State} (s : State) (u : CoreId) (draw va n : Nat) (hk : Keeps σ s) :
    KeepsOP σ (State.readParts s u draw va n) := by
  unfold State.readParts
  repeat' first
    | (with_reducible first | assumption | apply readPiece_optfst | refine foldl_keeps (fun _ _ _ => ?_) ?_
                            | refine foldl_keepsO (fun _ _ _ => ?_) ?_ | refine foldl_keepsP (fun _ _ _ => ?_) ?_
                            | refine foldl_keepsOP (fun _ _ _ => ?_) ?_ | exact keepsO_none | apply keepsO_some
                            | exact keepsOP_none | apply keepsOP_some | apply keepsP_mk
                            | refine keepsO_elim (by assumption) ?_ | exact keepsO_get (by assumption)
                            | refine keepsP_elim (by assumption) ?_ | exact keepsP_get (by assumption)
                            | refine keepsOP_elim (by assumption) ?_ | exact keepsOP_get (by assumption)
                            | refine keepsOP_elim1 (by assumption) ?_ | exact keepsOP_get1 (by assumption))
    | (simp only [keeps_mk]; with_reducible apply keepsAt_of) | split | dsimp only | intro _

theorem writePiece_fst {σ : State} (s : State) (u : CoreId) (draw va : Nat) (bs : List Byte) (hk : Keeps σ s) :
    KeepsP σ (State.writePiece s u draw va bs) := by
  unfold State.writePiece
  repeat' first
    | (with_reducible first | assumption | apply onJumbe_keeps | apply paStore_keeps | apply endPoison_keeps
                            | apply storePa_keeps | apply storePad_keeps | apply rackIssue_fst
                            | apply rackIssue_fst1 | apply portIssue_opt | apply postWrite_keeps
                            | apply windowWrite_fst | apply windowWrite_fst1 | apply slotWrite_keeps
                            | apply stepSet_keeps | exact keepsO_none | apply keepsO_some | exact keepsOP_none
                            | apply keepsOP_some | apply keepsP_mk | refine keepsO_elim (by assumption) ?_
                            | exact keepsO_get (by assumption) | refine keepsP_elim (by assumption) ?_
                            | exact keepsP_get (by assumption) | refine keepsOP_elim (by assumption) ?_
                            | exact keepsOP_get (by assumption) | refine keepsOP_elim1 (by assumption) ?_
                            | exact keepsOP_get1 (by assumption))
    | (simp only [keeps_mk]; with_reducible apply keepsAt_of) | split | dsimp only | intro _

theorem writePiece_fst1 {σ : State} (s : State) (u : CoreId) (draw va : Nat) (bs : List Byte) (hk : Keeps σ s) : Keeps σ (State.writePiece s u draw va bs).1 :=
  writePiece_fst s u draw va bs hk

theorem writeElem_wr {σ : State} (s : State) (u : CoreId) (draw va : Nat) (bs : List Byte) (hk : Keeps σ s) :
    KeepsW σ (State.writeElem s u draw va bs) := by
  unfold State.writeElem
  refine foldl_keepsW (fun r x h => ?_) (keepsW_done hk)
  split
  · split
    · exact keepsW_done (keepsP_elim (by assumption) (writePiece_fst _ _ _ _ _ (keepsW_get h)))
    · exact fun _ e => nomatch e
    · exact fun _ e => nomatch e
  · exact h

theorem writeElems_keeps {σ : State} (s : State) (u : CoreId) (fd b : Nat) (rs : List (Nat × Flags)) (hk : Keeps σ s) :
    Keeps σ (State.writeElems s u fd b rs) := by
  unfold State.writeElems
  repeat' first
    | (with_reducible first | assumption | apply retireInstr_keeps | refine foldl_keeps (fun _ _ _ => ?_) ?_)
    | (simp only [keeps_mk]; with_reducible apply keepsAt_of) | split | dsimp only | intro _

theorem xaccAdd_keeps {σ : State} (s : State) (u : CoreId) (f : AccEntry → AccEntry) (hk : Keeps σ s) :
    Keeps σ (State.xaccAdd s u f) := by
  unfold State.xaccAdd
  repeat' first
    | (with_reducible first | assumption | apply takeException_keeps | apply retireInstr_keeps)
    | (simp only [keeps_mk]; with_reducible apply keepsAt_of) | split | dsimp only | intro _

theorem memFaultAt_keeps {σ : State} (s : State) (u : CoreId) (pc : Word) (store : Bool) (addr : Nat) (hk : Keeps σ s) :
    Keeps σ (State.memFaultAt s u pc store addr) := by
  unfold State.memFaultAt
  repeat' first
    | (with_reducible first | assumption | apply onJumbe_keeps | apply takeAt_keeps)
    | (simp only [keeps_mk]; with_reducible apply keepsAt_of) | split | dsimp only | intro _

theorem memFault_keeps {σ : State} (s : State) (u : CoreId) (store : Bool) (addr : Nat) (hk : Keeps σ s) :
    Keeps σ (State.memFault s u store addr) := by
  unfold State.memFault
  repeat' first
    | (with_reducible first | assumption | apply memFaultAt_keeps)
    | (simp only [keeps_mk]; with_reducible apply keepsAt_of) | split | dsimp only | intro _

theorem elemFault_keeps {σ : State} (s : State) (u : CoreId) (pc : Word) (store : Bool) (elem addr : Nat) (hk : Keeps σ s) :
    Keeps σ (State.elemFault s u pc store elem addr) := by
  unfold State.elemFault
  repeat' first
    | (with_reducible first | assumption | apply onJumbe_keeps | apply memFaultAt_keeps)
    | (simp only [keeps_mk]; with_reducible apply keepsAt_of) | split | dsimp only | intro _

theorem landLoad_keeps {σ : State} (s : State) (u : CoreId) (l : PendLoad) (hk : Keeps σ s) :
    Keeps σ (State.landLoad s u l) := by
  unfold State.landLoad
  repeat' first
    | (with_reducible first | assumption | apply onJumbe_keeps | apply memFaultAt_keeps | apply elemFault_keeps
                            | apply keepsO_getD)
    | (simp only [keeps_mk]; with_reducible apply keepsAt_of) | split | dsimp only | intro _

theorem issueLoad_keeps {σ : State} (s : State) (u : CoreId) (dst : LoadDst) (va n : Nat) (done : Jumbe → Jumbe) (hk : Keeps σ s) :
    Keeps σ (State.issueLoad s u dst va n done) := by
  unfold State.issueLoad
  repeat' first
    | (with_reducible first | assumption | apply drawn_keeps | apply retireInstr_keeps | apply readParts_optfst
                            | apply landLoad_keeps | exact keepsO_none | apply keepsO_some | exact keepsOP_none
                            | apply keepsOP_some | apply keepsP_mk | refine keepsO_elim (by assumption) ?_
                            | exact keepsO_get (by assumption) | refine keepsP_elim (by assumption) ?_
                            | exact keepsP_get (by assumption) | refine keepsOP_elim (by assumption) ?_
                            | exact keepsOP_get (by assumption) | refine keepsOP_elim1 (by assumption) ?_
                            | exact keepsOP_get1 (by assumption))
    | (simp only [keeps_mk]; with_reducible apply keepsAt_of) | split | dsimp only | intro _

theorem loadLocal_fst {σ : State} (s : State) (r : Reach) (d : List Byte) (a : Nat) (hk : Keeps σ s) :
    KeepsP σ (State.loadLocal s r d a) := by
  unfold State.loadLocal
  repeat' first
    | (with_reducible first | assumption | apply reportHeld_keeps | apply touchPa_keeps | exact keepsO_none
                            | apply keepsO_some | exact keepsOP_none | apply keepsOP_some | apply keepsP_mk
                            | refine keepsO_elim (by assumption) ?_ | exact keepsO_get (by assumption)
                            | refine keepsP_elim (by assumption) ?_ | exact keepsP_get (by assumption)
                            | refine keepsOP_elim (by assumption) ?_ | exact keepsOP_get (by assumption)
                            | refine keepsOP_elim1 (by assumption) ?_ | exact keepsOP_get1 (by assumption))
    | (simp only [keeps_mk]; with_reducible apply keepsAt_of) | split | dsimp only | intro _

theorem loadLocal_fst1 {σ : State} (s : State) (r : Reach) (d : List Byte) (a : Nat) (hk : Keeps σ s) : Keeps σ (State.loadLocal s r d a).1 :=
  loadLocal_fst s r d a hk

theorem storeLocal_optfst {σ : State} (s : State) (w : Mover) (r : Reach) (e a : Nat) (bs : List Byte) (hk : Keeps σ s) :
    KeepsOP σ (State.storeLocal s w r e a bs) := by
  unfold State.storeLocal
  repeat' first
    | (with_reducible first | assumption | apply onFe_keeps | apply reportHeld_keeps | apply storePa_keeps
                            | apply windowWrite_fst | apply windowWrite_fst1 | exact keepsO_none
                            | apply keepsO_some | exact keepsOP_none | apply keepsOP_some | apply keepsP_mk
                            | refine keepsO_elim (by assumption) ?_ | exact keepsO_get (by assumption)
                            | refine keepsP_elim (by assumption) ?_ | exact keepsP_get (by assumption)
                            | refine keepsOP_elim (by assumption) ?_ | exact keepsOP_get (by assumption)
                            | refine keepsOP_elim1 (by assumption) ?_ | exact keepsOP_get1 (by assumption))
    | (simp only [keeps_mk]; with_reducible apply keepsAt_of) | split | dsimp only | intro _

theorem rackElem_opt {σ : State} (s : State) (w : Mover) (e a : Nat) (part : Option Nat) (into : Bool) (n : Nat) (bs : List Byte) (hk : Keeps σ s) :
    KeepsO σ (State.rackElem s w e a part into n bs) := by
  unfold State.rackElem
  repeat' first
    | (with_reducible first | assumption | apply rackIssue_fst | apply rackIssue_fst1 | apply onElem_keeps
                            | refine foldl_keeps (fun _ _ _ => ?_) ?_ | refine foldl_keepsO (fun _ _ _ => ?_) ?_
                            | refine foldl_keepsP (fun _ _ _ => ?_) ?_ | refine foldl_keepsOP (fun _ _ _ => ?_) ?_
                            | exact keepsO_none | apply keepsO_some | exact keepsOP_none | apply keepsOP_some
                            | apply keepsP_mk | refine keepsO_elim (by assumption) ?_
                            | exact keepsO_get (by assumption) | refine keepsP_elim (by assumption) ?_
                            | exact keepsP_get (by assumption) | refine keepsOP_elim (by assumption) ?_
                            | exact keepsOP_get (by assumption) | refine keepsOP_elim1 (by assumption) ?_
                            | exact keepsOP_get1 (by assumption))
    | (simp only [keeps_mk]; with_reducible apply keepsAt_of) | split | dsimp only | intro _

theorem putElemSt_keeps {σ : State} (s : State) (w : Mover) (x : Xfer) (e : Nat) (st : ElemSt) (hk : Keeps σ s) :
    Keeps σ (State.putElemSt s w x e st) := by
  unfold State.putElemSt
  repeat' first
    | (with_reducible first | assumption | apply setXfer_keeps | exact keepsO_none | apply keepsO_some
                            | exact keepsOP_none | apply keepsOP_some | apply keepsP_mk
                            | refine keepsO_elim (by assumption) ?_ | exact keepsO_get (by assumption)
                            | refine keepsP_elim (by assumption) ?_ | exact keepsP_get (by assumption)
                            | refine keepsOP_elim (by assumption) ?_ | exact keepsOP_get (by assumption)
                            | refine keepsOP_elim1 (by assumption) ?_ | exact keepsOP_get1 (by assumption))
    | (simp only [keeps_mk]; with_reducible apply keepsAt_of) | split | dsimp only | intro _

theorem issueElem_opt {σ : State} (s : State) (w : Mover) (hk : Keeps σ s) :
    KeepsO σ (State.issueElem s w) := by
  unfold State.issueElem
  repeat' first
    | (with_reducible first | assumption | apply emit_keeps | apply readPad_keeps | apply loadLocal_fst
                            | apply loadLocal_fst1 | apply storeLocal_optfst | apply rackElem_opt
                            | apply putElemSt_keeps | exact keepsO_none | apply keepsO_some | exact keepsOP_none
                            | apply keepsOP_some | apply keepsP_mk | refine keepsO_elim (by assumption) ?_
                            | exact keepsO_get (by assumption) | refine keepsP_elim (by assumption) ?_
                            | exact keepsP_get (by assumption) | refine keepsOP_elim (by assumption) ?_
                            | exact keepsOP_get (by assumption) | refine keepsOP_elim1 (by assumption) ?_
                            | exact keepsOP_get1 (by assumption))
    | (simp only [keeps_mk]; with_reducible apply keepsAt_of) | split | dsimp only | intro _

theorem issueElems_keeps {σ : State} (s : State) (w : Mover) (fuel : Nat) (hk : Keeps σ s) :
    Keeps σ (State.issueElems s w fuel) := by
  induction fuel generalizing s with
  | zero => exact hk
  | succ n ih =>
    unfold State.issueElems
    split
    · exact ih _ (keepsO_elim (by assumption) (issueElem_opt _ _ hk))
    · exact hk

theorem commitElem_opt {σ : State} (s : State) (w : Mover) (hk : Keeps σ s) :
    KeepsO σ (State.commitElem s w) := by
  unfold State.commitElem
  repeat' first
    | (with_reducible first | assumption | apply storePad_keeps | apply setXfer_keeps | exact keepsO_none
                            | apply keepsO_some | exact keepsOP_none | apply keepsOP_some | apply keepsP_mk
                            | refine keepsO_elim (by assumption) ?_ | exact keepsO_get (by assumption)
                            | refine keepsP_elim (by assumption) ?_ | exact keepsP_get (by assumption)
                            | refine keepsOP_elim (by assumption) ?_ | exact keepsOP_get (by assumption)
                            | refine keepsOP_elim1 (by assumption) ?_ | exact keepsOP_get1 (by assumption))
    | (simp only [keeps_mk]; with_reducible apply keepsAt_of) | split | dsimp only | intro _

theorem commitElems_keeps {σ : State} (s : State) (w : Mover) (fuel : Nat) (hk : Keeps σ s) :
    Keeps σ (State.commitElems s w fuel) := by
  induction fuel generalizing s with
  | zero => exact hk
  | succ n ih =>
    unfold State.commitElems
    split
    · exact ih _ (keepsO_elim (by assumption) (commitElem_opt _ _ hk))
    · exact hk

theorem showCommitted_keeps {σ : State} (s : State) (w : Mover) (hk : Keeps σ s) :
    Keeps σ (State.showCommitted s w) := by
  unfold State.showCommitted
  repeat' first
    | (with_reducible first | assumption | apply fset_keeps | apply onOp_keeps)
    | (simp only [keeps_mk]; with_reducible apply keepsAt_of) | split | dsimp only | intro _

theorem pumpXfer_keeps {σ : State} (s : State) (w : Mover) (hk : Keeps σ s) :
    Keeps σ (State.pumpXfer s w) := by
  unfold State.pumpXfer
  repeat' first
    | (with_reducible first | assumption | apply issueElems_keeps | apply commitElems_keeps
                            | apply showCommitted_keeps)
    | (simp only [keeps_mk]; with_reducible apply keepsAt_of) | split | dsimp only | intro _

theorem beginXfer_keeps {σ : State} (s : State) (w : Mover) (core : Nat) (d : List Byte) (hk : Keeps σ s) :
    Keeps σ (State.beginXfer s w core d) := by
  unfold State.beginXfer
  repeat' first
    | (with_reducible first | assumption | apply setXfer_keeps | apply issueElems_keeps | apply showCommitted_keeps)
    | (simp only [keeps_mk]; with_reducible apply keepsAt_of) | split | dsimp only | intro _

theorem startFe_ends {σ : State} (s : State) (c op : Nat) (hk : Keeps σ s) :
    Ends σ (State.startFe s c op) := by
  unfold State.startFe
  repeat' first
    | (with_reducible first | assumption | apply readPad_keeps | apply feHalt_keeps | apply beginXfer_keeps
                            | apply ends_next | apply ends_whenever)
    | (simp only [keeps_mk]; with_reducible apply keepsAt_of) | split | dsimp only | intro _

theorem startOpXfer_ends {σ : State} (s : State) (k op : Nat) (hk : Keeps σ s) :
    Ends σ (State.startOpXfer s k op) := by
  unfold State.startOpXfer
  repeat' first
    | (with_reducible first | assumption | apply drawn_keeps | apply onOp_keeps | apply endOp_keeps
                            | apply beginOp_keeps | apply beginXfer_keeps | apply ends_next | apply ends_whenever)
    | (simp only [keeps_mk]; with_reducible apply keepsAt_of) | split | dsimp only | intro _

theorem startXfer_ends {σ : State} (s : State) (w : Mover) (op : Nat) (hk : Keeps σ s) :
    Ends σ (State.startXfer s w op) := by
  unfold State.startXfer
  repeat' first
    | (with_reducible first | assumption | apply startFe_ends | apply startOpXfer_ends | apply ends_next
                            | apply ends_whenever)
    | (simp only [keeps_mk]; with_reducible apply keepsAt_of) | split | dsimp only | intro _

theorem answerPart_keeps {σ : State} (s : State) (k e : Nat) (r : ElemResp) (hk : Keeps σ s) :
    Keeps σ (State.answerPart s k e r) := by
  unfold State.answerPart
  repeat' first
    | (with_reducible first | assumption | apply onOp_keeps)
    | (simp only [keeps_mk]; with_reducible apply keepsAt_of) | split | dsimp only | intro _

theorem countDone_keeps {σ : State} (s : State) (d : List Byte) (unit : Nat) (hk : Keeps σ s) :
    Keeps σ (State.countDone s d unit) := by
  unfold State.countDone
  repeat' first
    | (with_reducible first | assumption | apply hwAdd_keeps)
    | (simp only [keeps_mk]; with_reducible apply keepsAt_of) | split | dsimp only | intro _

theorem opFault_keeps {σ : State} (s : State) (k core d : Nat) (hk : Keeps σ s) :
    Keeps σ (State.opFault s k core d) := by
  unfold State.opFault
  repeat' first
    | (with_reducible first | assumption | apply report_keeps)
    | (simp only [keeps_mk]; with_reducible apply keepsAt_of) | split | dsimp only | intro _

theorem ringError_keeps {σ : State} (s : State) (r code : Nat) (hk : Keeps σ s) :
    Keeps σ (State.ringError s r code) := by
  unfold State.ringError
  repeat' first
    | (with_reducible first | assumption | apply fset_keeps | apply raise_keeps | apply report_keeps)
    | (simp only [keeps_mk]; with_reducible apply keepsAt_of) | split | dsimp only | intro _

theorem acceptDesc_keeps {σ : State} (s : State) (r : Nat) (d : List Byte) (hk : Keeps σ s) :
    Keeps σ (State.acceptDesc s r d) := by
  unfold State.acceptDesc
  repeat' first
    | (with_reducible first | assumption | apply setOp_keeps | apply report_keeps | apply keepsO_getD
                            | refine foldl_keeps (fun _ _ _ => ?_) ?_)
    | (simp only [keeps_mk]; with_reducible apply keepsAt_of) | split | dsimp only | intro _

theorem writeRecord_keeps {σ : State} (s : State) (slot : Nat) (refused : Bool) (hk : Keeps σ s) :
    Keeps σ (State.writeRecord s slot refused) := by
  unfold State.writeRecord
  repeat' first
    | (with_reducible first | assumption | apply fset_keeps | apply finc_keeps | apply setOp_keeps
                            | apply emit_keeps | apply raise_keeps | apply storePa_keeps | apply ringError_keeps)
    | (simp only [keeps_mk]; with_reducible apply keepsAt_of) | split | dsimp only | intro _

theorem powerGate_keeps {σ : State} (s : State) (hk : Keeps σ s) : Keeps σ (State.powerGate s) := by
  unfold State.powerGate
  dsimp only
  repeat' first
    | with_reducible apply fset_keeps
    | with_reducible apply putPortState_keeps
    | with_reducible apply setChan_keeps
    | with_reducible assumption
    | with_reducible refine foldl_keeps (fun _ _ _ => ?_) ?_
  refine inv_reports hk rfl rfl rfl rfl (fun i => ⟨assocWf_filter memDefault _ s.mem i.1, i.2.1, i.2.2.1, i.2.2.2.1, Nat.zero_le _, Nat.zero_le _,
    ⟨List.nodup_nil, fun r h => ?_⟩, Nat.zero_le _⟩)
  cases h

theorem recordWake_keeps {σ : State} (s : State) (src rule : Nat) (hk : Keeps σ s) :
    Keeps σ (State.recordWake s src rule) := by
  unfold State.recordWake
  repeat' first
    | (with_reducible first | assumption | apply fset_keeps | apply emit_keeps | apply raise_keeps)
    | (simp only [keeps_mk]; with_reducible apply keepsAt_of) | split | dsimp only | intro _

theorem wake_keeps {σ : State} (s : State) (src rule : Nat) (hk : Keeps σ s) :
    Keeps σ (State.wake s src rule) := by
  unfold State.wake
  repeat' first
    | (with_reducible first | assumption | apply fset_keeps | apply warmReset_keeps | apply recordWake_keeps)
    | (simp only [keeps_mk]; with_reducible apply keepsAt_of) | split | dsimp only | intro _

theorem shutdown_keeps {σ : State} (s : State) (sensor : Nat) (hk : Keeps σ s) :
    Keeps σ (State.shutdown s sensor) := by
  unfold State.shutdown
  repeat' first
    | (with_reducible first | assumption | apply fset_keeps | apply raise_keeps | apply report_keeps
                            | apply powerGate_keeps)
    | (simp only [keeps_mk]; with_reducible apply keepsAt_of) | split | dsimp only | intro _

theorem sampleOne_keeps {σ : State} (s : State) (n : Nat) (x : Int) (hk : Keeps σ s) :
    Keeps σ (State.sampleOne s n x) := by
  unfold State.sampleOne
  repeat' first
    | (with_reducible first | assumption | apply setReg_keeps | apply fset_keeps)
    | (simp only [keeps_mk]; with_reducible apply keepsAt_of) | split | dsimp only | intro _

theorem throttleDie_keeps {σ : State} (s : State) (d : Nat) (x : Int) (hk : Keeps σ s) :
    Keeps σ (State.throttleDie s d x) := by
  unfold State.throttleDie
  repeat' first
    | (with_reducible first | assumption | apply reportOpen_keeps)
    | (simp only [keeps_mk]; with_reducible apply keepsAt_of) | split | dsimp only | intro _

theorem countHot_keeps {σ : State} (s : State) (d : Nat) (x : Int) (hk : Keeps σ s) :
    Keeps σ (State.countHot s d x) := by
  unfold State.countHot
  repeat' first
    | (with_reducible first | assumption)
    | (simp only [keeps_mk]; with_reducible apply keepsAt_of) | split | dsimp only | intro _

theorem ruleFires_keeps {σ : State} (s : State) (r : Nat) (hk : Keeps σ s) :
    Keeps σ (State.ruleFires s r) := by
  unfold State.ruleFires
  repeat' first
    | (with_reducible first | assumption | apply fset_keeps | apply finc_keeps | apply reportOpen_keeps
                            | apply wake_keeps | apply shutdown_keeps)
    | (simp only [keeps_mk]; with_reducible apply keepsAt_of) | split | dsimp only | intro _

theorem evalRule_keeps {σ : State} (s : State) (r : Nat) (hk : Keeps σ s) :
    Keeps σ (State.evalRule s r) := by
  unfold State.evalRule
  repeat' first
    | (with_reducible first | assumption | apply fset_keeps | apply ruleFires_keeps)
    | (simp only [keeps_mk]; with_reducible apply keepsAt_of) | split | dsimp only | intro _

theorem storeVecs_keeps {σ : State} (s : State) (b : List Byte) (l : List (Nat × List Word)) (hk : Keeps σ s) :
    Keeps σ (State.storeVecs s b l) := by
  unfold State.storeVecs
  repeat' first
    | (with_reducible first | assumption | apply storePa_keeps | refine foldl_keeps (fun _ _ _ => ?_) ?_)
    | (simp only [keeps_mk]; with_reducible apply keepsAt_of) | split | dsimp only | intro _

theorem storeFactors_keeps {σ : State} (s : State) (b : List Byte) (rows : List (List Word)) (pivots : List Nat) (hk : Keeps σ s) :
    Keeps σ (State.storeFactors s b rows pivots) := by
  unfold State.storeFactors
  repeat' first
    | (with_reducible first | assumption | apply storePa_keeps)
    | (simp only [keeps_mk]; with_reducible apply keepsAt_of) | split | dsimp only | intro _

theorem malformedSolve_keeps {σ : State} (s : State) (k : Nat) (b : List Byte) (hk : Keeps σ s) :
    Keeps σ (State.malformedSolve s k b) := by
  unfold State.malformedSolve
  repeat' first
    | (with_reducible first | assumption | apply setReg_keeps | apply fset_keeps | apply endOp_keeps
                            | apply flagOp_keeps)
    | (simp only [keeps_mk]; with_reducible apply keepsAt_of) | split | dsimp only | intro _

theorem workHeader_keeps {σ : State} (s : State) (n : Nat) (v : Solve) (hk : Keeps σ s) :
    Keeps σ (State.workHeader s n v) := by
  unfold State.workHeader
  repeat' first
    | (with_reducible first | assumption | apply finc_keeps | apply storePa_keeps)
    | (simp only [keeps_mk]; with_reducible apply keepsAt_of) | split | dsimp only | intro _

theorem putBest_keeps {σ : State} (s : State) (n : Nat) (v : Solve) (x : List Word) (hk : Keeps σ s) :
    Keeps σ (State.putBest s n v x) := by
  unfold State.putBest
  repeat' first
    | (with_reducible first | assumption | apply finc_keeps | apply storePa_keeps | apply workHeader_keeps)
    | (simp only [keeps_mk]; with_reducible apply keepsAt_of) | split | dsimp only | intro _

theorem solveTouch_keeps {σ : State} (s : State) (v : Solve) (mats : Nat) (hk : Keeps σ s) :
    Keeps σ (State.solveTouch s v mats) := by
  unfold State.solveTouch
  repeat' first
    | (with_reducible first | assumption | apply touchPa_keeps | refine foldl_keeps (fun _ _ _ => ?_) ?_)
    | (simp only [keeps_mk]; with_reducible apply keepsAt_of) | split | dsimp only | intro _

theorem solveFlags_keeps {σ : State} (s : State) (n : Nat) (inv ovf : Bool) (bytes : Nat) (hk : Keeps σ s) :
    Keeps σ (State.solveFlags s n inv ovf bytes) := by
  unfold State.solveFlags
  repeat' first
    | (with_reducible first | assumption | apply fset_keeps | apply finc_keeps)
    | (simp only [keeps_mk]; with_reducible apply keepsAt_of) | split | dsimp only | intro _

theorem solveDid_keeps {σ : State} (s : State) (n : Nat) (v : Solve) (t : RunSt) (hk : Keeps σ s) :
    Keeps σ (State.solveDid s n v t) := by
  unfold State.solveDid
  repeat' first
    | (with_reducible first | assumption | apply storeVecs_keeps | apply solveTouch_keeps | apply solveFlags_keeps
                            | apply keepsO_getD)
    | (simp only [keeps_mk]; with_reducible apply keepsAt_of) | split | dsimp only | intro _

theorem solveStop_keeps {σ : State} (s : State) (n code : Nat) (hk : Keeps σ s) :
    Keeps σ (State.solveStop s n code) := by
  unfold State.solveStop
  repeat' first
    | (with_reducible first | assumption | apply onSolve_keeps)
    | (simp only [keeps_mk]; with_reducible apply keepsAt_of) | split | dsimp only | intro _

theorem solveEnd_keeps {σ : State} (s : State) (n code k : Nat) (twinkle : Bool) (hk : Keeps σ s) :
    Keeps σ (State.solveEnd s n code k twinkle) := by
  unfold State.solveEnd
  repeat' first
    | (with_reducible first | assumption | apply setReg_keeps | apply fset_keeps | apply setSe_keeps
                            | apply storePa_keeps | apply onOp_keeps | apply endOp_keeps | apply flagOp_keeps
                            | apply solveClock_keeps)
    | (simp only [keeps_mk]; with_reducible apply keepsAt_of) | split | dsimp only | intro _

theorem copyBest_keeps {σ : State} (s : State) (n : Nat) (v : Solve) (k : Nat) (errs : List (Nat × Word)) (hk : Keeps σ s) :
    Keeps σ (State.copyBest s n v k errs) := by
  unfold State.copyBest
  repeat' first
    | (with_reducible first | assumption | apply finc_keeps | apply storePa_keeps)
    | (simp only [keeps_mk]; with_reducible apply keepsAt_of) | split | dsimp only | intro _

theorem solveShrink_keeps {σ : State} (s : State) (n : Nat) (hk : Keeps σ s) :
    Keeps σ (State.solveShrink s n) := by
  unfold State.solveShrink
  repeat' first
    | (with_reducible first | assumption | apply solveStop_keeps | apply solveEnd_keeps | apply copyBest_keeps)
    | (simp only [keeps_mk]; with_reducible apply keepsAt_of) | split | dsimp only | intro _

theorem solveHalt_keeps {σ : State} (s : State) (n : Nat) (v : Solve) (h : Halt) (hk : Keeps σ s) :
    Keeps σ (State.solveHalt s n v h) := by
  unfold State.solveHalt
  repeat' first
    | (with_reducible first | assumption | apply storePa_keeps | apply hwAdd_keeps | apply onSolve_keeps
                            | apply solveFlags_keeps | apply solveStop_keeps)
    | (simp only [keeps_mk]; with_reducible apply keepsAt_of) | split | dsimp only | intro _

theorem solveBoundary_keeps {σ : State} (s : State) (n stop : Nat) (broken : Bool) (hk : Keeps σ s) :
    Keeps σ (State.solveBoundary s n stop broken) := by
  unfold State.solveBoundary
  repeat' first
    | (with_reducible first | assumption | apply onSolve_keeps | apply solveStop_keeps)
    | (simp only [keeps_mk]; with_reducible apply keepsAt_of) | split | dsimp only | intro _

theorem recheckOnce_fst {σ : State} (s : State) (n : Nat) (v : Solve) (hk : Keeps σ s) :
    KeepsP σ (State.recheckOnce s n v) := by
  unfold State.recheckOnce
  repeat' first
    | (with_reducible first | assumption | apply onSolve_keeps | apply solveDid_keeps | apply solveHalt_keeps
                            | exact keepsO_none | apply keepsO_some | exact keepsOP_none | apply keepsOP_some
                            | apply keepsP_mk | refine keepsO_elim (by assumption) ?_
                            | exact keepsO_get (by assumption) | refine keepsP_elim (by assumption) ?_
                            | exact keepsP_get (by assumption) | refine keepsOP_elim (by assumption) ?_
                            | exact keepsOP_get (by assumption) | refine keepsOP_elim1 (by assumption) ?_
                            | exact keepsOP_get1 (by assumption))
    | (simp only [keeps_mk]; with_reducible apply keepsAt_of) | split | dsimp only | intro _

theorem recheckOnce_fst1 {σ : State} (s : State) (n : Nat) (v : Solve) (hk : Keeps σ s) : Keeps σ (State.recheckOnce s n v).1 :=
  recheckOnce_fst s n v hk

theorem recheckLast_keeps {σ : State} (s : State) (n : Nat) (v : Solve) (hk : Keeps σ s) :
    Keeps σ (State.recheckLast s n v) := by
  unfold State.recheckLast
  repeat' first
    | (with_reducible first | assumption | apply reportOpen_keeps | apply retireSe_keeps
                            | apply requestRecovery_keeps | apply solveEnd_keeps | apply recheckOnce_fst
                            | apply recheckOnce_fst1 | exact keepsO_none | apply keepsO_some | exact keepsOP_none
                            | apply keepsOP_some | apply keepsP_mk | refine keepsO_elim (by assumption) ?_
                            | exact keepsO_get (by assumption) | refine keepsP_elim (by assumption) ?_
                            | exact keepsP_get (by assumption) | refine keepsOP_elim (by assumption) ?_
                            | exact keepsOP_get (by assumption) | refine keepsOP_elim1 (by assumption) ?_
                            | exact keepsOP_get1 (by assumption))
    | (simp only [keeps_mk]; with_reducible apply keepsAt_of) | split | dsimp only | intro _

theorem recheckFirst_keeps {σ : State} (s : State) (n : Nat) (v : Solve) (hk : Keeps σ s) :
    Keeps σ (State.recheckFirst s n v) := by
  unfold State.recheckFirst
  repeat' first
    | (with_reducible first | assumption | apply setSe_keeps | apply solveEnd_keeps | apply copyBest_keeps
                            | apply recheckOnce_fst | apply recheckOnce_fst1 | apply recheckLast_keeps
                            | exact keepsO_none | apply keepsO_some | exact keepsOP_none | apply keepsOP_some
                            | apply keepsP_mk | refine keepsO_elim (by assumption) ?_
                            | exact keepsO_get (by assumption) | refine keepsP_elim (by assumption) ?_
                            | exact keepsP_get (by assumption) | refine keepsOP_elim (by assumption) ?_
                            | exact keepsOP_get (by assumption) | refine keepsOP_elim1 (by assumption) ?_
                            | exact keepsOP_get1 (by assumption))
    | (simp only [keeps_mk]; with_reducible apply keepsAt_of) | split | dsimp only | intro _

theorem solveGo_keeps {σ : State} (s : State) (n : Nat) (hk : Keeps σ s) :
    Keeps σ (State.solveGo s n) := by
  unfold State.solveGo
  repeat' first
    | (with_reducible first | assumption | apply setReg_keeps | apply fset_keeps | apply setSe_keeps
                            | apply storeVecs_keeps | apply putBest_keeps | apply solveDid_keeps
                            | apply solveStop_keeps | apply solveEnd_keeps | apply solveHalt_keeps
                            | apply solveBoundary_keeps | apply recheckLast_keeps | apply recheckFirst_keeps
                            | apply keepsO_getD)
    | (simp only [keeps_mk]; with_reducible apply keepsAt_of) | split | dsimp only | intro _

theorem solveBegin_keeps {σ : State} (s : State) (k n : Nat) (hk : Keeps σ s) :
    Keeps σ (State.solveBegin s k n) := by
  unfold State.solveBegin
  repeat' first
    | (with_reducible first | assumption | apply setReg_keeps | apply fset_keeps | apply setSe_keeps
                            | apply storeFactors_keeps | apply putBest_keeps | apply solveFlags_keeps
                            | apply solveGo_keeps)
    | (simp only [keeps_mk]; with_reducible apply keepsAt_of) | split | dsimp only | intro _

theorem solveLate_keeps {σ : State} (s : State) (n : Nat) (hk : Keeps σ s) :
    Keeps σ (State.solveLate s n) := by
  unfold State.solveLate
  repeat' first
    | (with_reducible first | assumption | apply drawn_keeps | apply solveStop_keeps | apply solveEnd_keeps
                            | apply copyBest_keeps)
    | (simp only [keeps_mk]; with_reducible apply keepsAt_of) | split | dsimp only | intro _

theorem almCancel_keeps {σ : State} (s : State) (hk : Keeps σ s) :
    Keeps σ (State.almCancel s) := by
  unfold State.almCancel
  repeat' first
    | (with_reducible first | assumption | apply almIdle_keeps | apply almRelease_keeps)
    | (simp only [keeps_mk]; with_reducible apply keepsAt_of) | split | dsimp only | intro _

theorem holdCores_keeps {σ : State} (s : State) (mask : Nat) (on : Bool) (hk : Keeps σ s) :
    Keeps σ (State.holdCores s mask on) := by
  unfold State.holdCores
  repeat' first
    | (with_reducible first | assumption | apply fset_keeps | apply setPcore_keeps | apply onCore_keeps
                            | refine foldl_keeps (fun _ _ _ => ?_) ?_)
    | (simp only [keeps_mk]; with_reducible apply keepsAt_of) | split | dsimp only | intro _

theorem almCutAt_keeps {σ : State} (s : State) (n : Nat) (late : List Nat) (hk : Keeps σ s) :
    Keeps σ (State.almCutAt s n late) := by
  unfold State.almCutAt
  repeat' first
    | (with_reducible first | assumption | apply fset_keeps | apply almFail_keeps | apply holdCores_keeps)
    | (simp only [keeps_mk]; with_reducible apply keepsAt_of) | split | dsimp only | intro _

theorem almUnhold_keeps {σ : State} (s : State) (hk : Keeps σ s) :
    Keeps σ (State.almUnhold s) := by
  unfold State.almUnhold
  repeat' first
    | (with_reducible first | assumption | apply holdCores_keeps)
    | (simp only [keeps_mk]; with_reducible apply keepsAt_of) | split | dsimp only | intro _

theorem almStep_keeps {σ : State} (s : State) (step shard : Nat) (out : List Out) (bytes : List Byte) (kind : Nat) (toBuddy : Bool) (hk : Keeps σ s) :
    Keeps σ (State.almStep s step shard out bytes kind toBuddy) := by
  unfold State.almStep
  repeat' first
    | (with_reducible first | assumption | apply emit_keeps | refine foldl_keeps (fun _ _ _ => ?_) ?_)
    | (simp only [keeps_mk]; with_reducible apply keepsAt_of) | split | dsimp only | intro _

theorem putShard_keeps {σ : State} (s : State) (place i : Nat) (bytes : List Byte) (hk : Keeps σ s) :
    Keeps σ (State.putShard s place i bytes) := by
  unfold State.putShard
  repeat' first
    | (with_reducible first | assumption)
    | (simp only [keeps_mk]; with_reducible apply keepsAt_of) | split | dsimp only | intro _

theorem putManifest_keeps {σ : State} (s : State) (place : Nat) (bytes : List Byte) (hk : Keeps σ s) :
    Keeps σ (State.putManifest s place bytes) := by
  unfold State.putManifest
  repeat' first
    | (with_reducible first | assumption)
    | (simp only [keeps_mk]; with_reducible apply keepsAt_of) | split | dsimp only | intro _

theorem nextShard_keeps {σ : State} (s : State) (hk : Keeps σ s) :
    Keeps σ (State.nextShard s) := by
  unfold State.nextShard
  repeat' first
    | (with_reducible first | assumption | apply almStep_keeps | apply putShard_keeps)
    | (simp only [keeps_mk]; with_reducible apply keepsAt_of) | split | dsimp only | intro _

theorem almAdvance_keeps {σ : State} (s : State) (hk : Keeps σ s) :
    Keeps σ (State.almAdvance s) := by
  unfold State.almAdvance
  repeat' first
    | (with_reducible first | assumption | apply fset_keeps | apply emit_keeps | apply readAlmLast_keeps
                            | apply writePtr_keeps | apply sendPtr_keeps | apply almFail_keeps
                            | apply almDone_keeps | apply almStep_keeps | apply putManifest_keeps
                            | apply nextShard_keeps)
    | (simp only [keeps_mk]; with_reducible apply keepsAt_of) | split | dsimp only | intro _

theorem mirrorSlot_fst {σ : State} (s : State) (hk : Keeps σ s) :
    KeepsP σ (State.mirrorSlot s) := by
  unfold State.mirrorSlot
  repeat' first
    | (with_reducible first | assumption | apply mntGrant_fst | apply mntGrant_fst1 | exact keepsO_none
                            | apply keepsO_some | exact keepsOP_none | apply keepsOP_some | apply keepsP_mk
                            | refine keepsO_elim (by assumption) ?_ | exact keepsO_get (by assumption)
                            | refine keepsP_elim (by assumption) ?_ | exact keepsP_get (by assumption)
                            | refine keepsOP_elim (by assumption) ?_ | exact keepsOP_get (by assumption)
                            | refine keepsOP_elim1 (by assumption) ?_ | exact keepsOP_get1 (by assumption))
    | (simp only [keeps_mk]; with_reducible apply keepsAt_of) | split | dsimp only | intro _

theorem mirrorSlot_fst1 {σ : State} (s : State) (hk : Keeps σ s) : Keeps σ (State.mirrorSlot s).1 :=
  mirrorSlot_fst s hk

theorem endMirror_keeps {σ : State} (s : State) (hk : Keeps σ s) :
    Keeps σ (State.endMirror s) := by
  unfold State.endMirror
  repeat' first
    | (with_reducible first | assumption | apply almRelease_keeps)
    | (simp only [keeps_mk]; with_reducible apply keepsAt_of) | split | dsimp only | intro _

theorem restoreState_keeps {σ : State} (s : State) (b : List Byte) (hk : Keeps σ s) : Keeps σ (State.restoreState s b) := by
  unfold State.restoreState
  dsimp only
  apply keepsP_of
  refine foldl_keepsP (fun t x h => storePa_keeps _ _ _ h) (keepsP_mk ?_)
  refine foldl_keeps (fun t x h => ?_) (foldl_keeps (fun t x h => ?_) hk)
  · split
    · exact setReg_keeps _ _ _ h
    · exact h
  · split
    · exact setReg_keeps _ _ _ (setReg_keeps _ _ _ (setReg_keeps _ _ _ h))
    · exact h

theorem resetVf_keeps {σ : State} (s : State) (v : Nat) (hk : Keeps σ s) :
    Keeps σ (State.resetVf s v) := by
  unfold State.resetVf
  repeat' first
    | (with_reducible first | assumption | apply setReg_keeps | apply fset_keeps | apply onOp_keeps
                            | apply endOp_keeps | apply advanceEpochs_keeps
                            | refine foldl_keeps (fun _ _ _ => ?_) ?_)
    | (simp only [keeps_mk]; with_reducible apply keepsAt_of) | split | dsimp only | intro _

theorem endMatmul_keeps {σ : State} (s : State) (k status : Nat) (hk : Keeps σ s) :
    Keeps σ (State.endMatmul s k status) := by
  unfold State.endMatmul
  repeat' first
    | (with_reducible first | assumption | apply onOp_keeps | apply endOp_keeps)
    | (simp only [keeps_mk]; with_reducible apply keepsAt_of) | split | dsimp only | intro _

theorem writeTile_optfst {σ : State} (s : State) (k tile part space : Nat) (ws : List (Nat × List Byte)) (hk : Keeps σ s) :
    KeepsOP σ (State.writeTile s k tile part space ws) := by
  unfold State.writeTile
  repeat' first
    | (with_reducible first | assumption | apply emit_keeps | apply storePa_keeps | apply onOp_keeps
                            | apply rackIssue_fst | apply rackIssue_fst1 | refine foldl_keeps (fun _ _ _ => ?_) ?_
                            | refine foldl_keepsO (fun _ _ _ => ?_) ?_ | refine foldl_keepsP (fun _ _ _ => ?_) ?_
                            | refine foldl_keepsOP (fun _ _ _ => ?_) ?_ | exact keepsO_none | apply keepsO_some
                            | exact keepsOP_none | apply keepsOP_some | apply keepsP_mk
                            | refine keepsO_elim (by assumption) ?_ | exact keepsO_get (by assumption)
                            | refine keepsP_elim (by assumption) ?_ | exact keepsP_get (by assumption)
                            | refine keepsOP_elim (by assumption) ?_ | exact keepsOP_get (by assumption)
                            | refine keepsOP_elim1 (by assumption) ?_ | exact keepsOP_get1 (by assumption))
    | (simp only [keeps_mk]; with_reducible apply keepsAt_of) | split | dsimp only | intro _

theorem askTile_opt {σ : State} (s : State) (k tile part space vf : Nat) (runs : List (Nat × Nat)) (hk : Keeps σ s) :
    KeepsO σ (State.askTile s k tile part space vf runs) := by
  unfold State.askTile
  repeat' first
    | (with_reducible first | assumption | apply emit_keeps | apply onOp_keeps | apply rackIssue_fst
                            | apply rackIssue_fst1 | refine foldl_keeps (fun _ _ _ => ?_) ?_
                            | refine foldl_keepsO (fun _ _ _ => ?_) ?_ | refine foldl_keepsP (fun _ _ _ => ?_) ?_
                            | refine foldl_keepsOP (fun _ _ _ => ?_) ?_ | exact keepsO_none | apply keepsO_some
                            | exact keepsOP_none | apply keepsOP_some | apply keepsP_mk
                            | refine keepsO_elim (by assumption) ?_ | exact keepsO_get (by assumption)
                            | refine keepsP_elim (by assumption) ?_ | exact keepsP_get (by assumption)
                            | refine keepsOP_elim (by assumption) ?_ | exact keepsOP_get (by assumption)
                            | refine keepsOP_elim1 (by assumption) ?_ | exact keepsOP_get1 (by assumption))
    | (simp only [keeps_mk]; with_reducible apply keepsAt_of) | split | dsimp only | intro _

theorem commitTile_opt {σ : State} (s : State) (k tile core : Nat) (r : List (List Nat) × Flags) (hk : Keeps σ s) :
    KeepsO σ (State.commitTile s k tile core r) := by
  unfold State.commitTile
  repeat' first
    | (with_reducible first | assumption | apply onOp_keeps | apply meFlags_keeps | apply advanceSr_keeps
                            | apply endMatmul_keeps | apply writeTile_optfst | apply keepsO_getD
                            | refine foldl_keeps (fun _ _ _ => ?_) ?_ | refine foldl_keepsO (fun _ _ _ => ?_) ?_
                            | refine foldl_keepsP (fun _ _ _ => ?_) ?_ | refine foldl_keepsOP (fun _ _ _ => ?_) ?_
                            | exact keepsO_none | apply keepsO_some | exact keepsOP_none | apply keepsOP_some
                            | apply keepsP_mk | refine keepsO_elim (by assumption) ?_
                            | exact keepsO_get (by assumption) | refine keepsP_elim (by assumption) ?_
                            | exact keepsP_get (by assumption) | refine keepsOP_elim (by assumption) ?_
                            | exact keepsOP_get (by assumption) | refine keepsOP_elim1 (by assumption) ?_
                            | exact keepsOP_get1 (by assumption))
    | (simp only [keeps_mk]; with_reducible apply keepsAt_of) | split | dsimp only | intro _

theorem runTile_keeps {σ : State} (s : State) (k tile core : Nat) (errs : List MeError) (b : List Byte) (runs : List (List Byte)) (hk : Keeps σ s) :
    Keeps σ (State.runTile s k tile core errs b runs) := by
  unfold State.runTile
  repeat' first
    | (with_reducible first | assumption | apply onMe_keeps | apply onOp_keeps | apply mismatch_keeps
                            | apply commitTile_opt | apply keepsO_getD | exact keepsO_none | apply keepsO_some
                            | exact keepsOP_none | apply keepsOP_some | apply keepsP_mk
                            | refine keepsO_elim (by assumption) ?_ | exact keepsO_get (by assumption)
                            | refine keepsP_elim (by assumption) ?_ | exact keepsP_get (by assumption)
                            | refine keepsOP_elim (by assumption) ?_ | exact keepsOP_get (by assumption)
                            | refine keepsOP_elim1 (by assumption) ?_ | exact keepsOP_get1 (by assumption))
    | (simp only [keeps_mk]; with_reducible apply keepsAt_of) | split | dsimp only | intro _

theorem startMatmul_keeps {σ : State} (s : State) (k : Nat) (o : Op) (hk : Keeps σ s) :
    Keeps σ (State.startMatmul s k o) := by
  unfold State.startMatmul
  repeat' first
    | (with_reducible first | assumption | apply report_keeps | apply touchPa_keeps | apply onOp_keeps
                            | apply endOp_keeps | apply beginOp_keeps)
    | (simp only [keeps_mk]; with_reducible apply keepsAt_of) | split | dsimp only | intro _

theorem linkLost_keeps {σ : State} (s : State) (a b : Nat) (hk : Keeps σ s) :
    Keeps σ (State.linkLost s a b) := by
  unfold State.linkLost
  repeat' first
    | (with_reducible first | assumption | apply setMeshLink_keeps | apply packageFatal_keeps)
    | (simp only [keeps_mk]; with_reducible apply keepsAt_of) | split | dsimp only | intro _

theorem flagFailed_keeps {σ : State} (s : State) (c flags : Nat) (hk : Keeps σ s) :
    Keeps σ (State.flagFailed s c flags) := by
  unfold State.flagFailed
  repeat' first
    | (with_reducible first | assumption | apply flagOp_keeps)
    | (simp only [keeps_mk]; with_reducible apply keepsAt_of) | split | dsimp only | intro _

theorem deliverPx_opt {σ : State} (s : State) (c : Nat) (r : RunResult) (hk : Keeps σ s) :
    KeepsO σ (State.deliverPx s c r) := by
  unfold State.deliverPx
  repeat' first
    | (with_reducible first | assumption | apply onMe_keeps | apply popQueue_keeps | apply doStream_keeps
                            | apply doDrain_keeps | apply commitTile_opt | exact keepsO_none | apply keepsO_some
                            | exact keepsOP_none | apply keepsOP_some | apply keepsP_mk
                            | refine keepsO_elim (by assumption) ?_ | exact keepsO_get (by assumption)
                            | refine keepsP_elim (by assumption) ?_ | exact keepsP_get (by assumption)
                            | refine keepsOP_elim (by assumption) ?_ | exact keepsOP_get (by assumption)
                            | refine keepsOP_elim1 (by assumption) ?_ | exact keepsOP_get1 (by assumption))
    | (simp only [keeps_mk]; with_reducible apply keepsAt_of) | split | dsimp only | intro _

theorem twinkle_keeps {σ : State} (s : State) (c n check : Nat) (hk : Keeps σ s) :
    Keeps σ (State.twinkle s c n check) := by
  unfold State.twinkle
  repeat' first
    | (with_reducible first | assumption | apply finc_keeps | apply report_keeps | apply flagFailed_keeps
                            | refine foldl_keeps (fun _ _ _ => ?_) ?_)
    | (simp only [keeps_mk]; with_reducible apply keepsAt_of) | split | dsimp only | intro _

theorem retireAndDeliver_opt {σ : State} (s : State) (c col : Nat) (r : RunResult) (hk : Keeps σ s) :
    KeepsO σ (State.retireAndDeliver s c col r) := by
  unfold State.retireAndDeliver
  repeat' first
    | (with_reducible first | assumption | apply onMe_keeps | apply retireColumn_keeps | apply flagFailed_keeps
                            | apply deliverPx_opt | exact keepsO_none | apply keepsO_some | exact keepsOP_none
                            | apply keepsOP_some | apply keepsP_mk | refine keepsO_elim (by assumption) ?_
                            | exact keepsO_get (by assumption) | refine keepsP_elim (by assumption) ?_
                            | exact keepsP_get (by assumption) | refine keepsOP_elim (by assumption) ?_
                            | exact keepsOP_get (by assumption) | refine keepsOP_elim1 (by assumption) ?_
                            | exact keepsOP_get1 (by assumption))
    | (simp only [keeps_mk]; with_reducible apply keepsAt_of) | split | dsimp only | intro _

theorem endSearch_opt {σ : State} (s : State) (c : Nat) (x : PxSeq) (r : RunResult) (hk : Keeps σ s) :
    KeepsO σ (State.endSearch s c x r) := by
  unfold State.endSearch
  repeat' first
    | (with_reducible first | assumption | apply onMe_keeps | apply retireAndDeliver_opt | exact keepsO_none
                            | apply keepsO_some | exact keepsOP_none | apply keepsOP_some | apply keepsP_mk
                            | refine keepsO_elim (by assumption) ?_ | exact keepsO_get (by assumption)
                            | refine keepsP_elim (by assumption) ?_ | exact keepsP_get (by assumption)
                            | refine keepsOP_elim (by assumption) ?_ | exact keepsOP_get (by assumption)
                            | refine keepsOP_elim1 (by assumption) ?_ | exact keepsOP_get1 (by assumption))
    | (simp only [keeps_mk]; with_reducible apply keepsAt_of) | split | dsimp only | intro _

theorem pxRun_opt {σ : State} (s : State) (c : Nat) (x : PxSeq) (r clean : RunResult) (hk : Keeps σ s) :
    KeepsO σ (State.pxRun s c x r clean) := by
  unfold State.pxRun
  repeat' first
    | (with_reducible first | assumption | apply onMe_keeps | apply checkFail_keeps | apply deliverPx_opt
                            | apply twinkle_keeps | apply retireAndDeliver_opt | apply endSearch_opt
                            | exact keepsO_none | apply keepsO_some | exact keepsOP_none | apply keepsOP_some
                            | apply keepsP_mk | refine keepsO_elim (by assumption) ?_
                            | exact keepsO_get (by assumption) | refine keepsP_elim (by assumption) ?_
                            | exact keepsP_get (by assumption) | refine keepsOP_elim (by assumption) ?_
                            | exact keepsOP_get (by assumption) | refine keepsOP_elim1 (by assumption) ?_
                            | exact keepsOP_get1 (by assumption))
    | (simp only [keeps_mk]; with_reducible apply keepsAt_of) | split | dsimp only | intro _

theorem flood_keeps {σ : State} (s : State) (t : Nat) (contents : List Nat) (delay link : Option Nat) (hops : Nat) (hk : Keeps σ s) :
    Keeps σ (State.flood s t contents delay link hops) := by
  unfold State.flood
  repeat' first
    | (with_reducible first | assumption | apply emit_keeps | refine foldl_keeps (fun _ _ _ => ?_) ?_)
    | (simp only [keeps_mk]; with_reducible apply keepsAt_of) | split | dsimp only | intro _

theorem forward_keeps {σ : State} (s : State) (t : Nat) (contents : List Nat) (delay link hops : Nat) (hk : Keeps σ s) :
    Keeps σ (State.forward s t contents delay link hops) := by
  unfold State.forward
  repeat' first
    | (with_reducible first | assumption | apply drawn_keeps | apply flood_keeps)
    | (simp only [keeps_mk]; with_reducible apply keepsAt_of) | split | dsimp only | intro _

theorem checkJoin_keeps {σ : State} (s : State) (hk : Keeps σ s) :
    Keeps σ (State.checkJoin s) := by
  unfold State.checkJoin
  repeat' first
    | (with_reducible first | assumption | apply reach__keeps)
    | (simp only [keeps_mk]; with_reducible apply keepsAt_of) | split | dsimp only | intro _

theorem correctTime_keeps {σ : State} (s : State) (m : Nat) (hk : Keeps σ s) :
    Keeps σ (State.correctTime s m) := by
  unfold State.correctTime
  repeat' first
    | (with_reducible first | assumption | apply fset_keeps)
    | (simp only [keeps_mk]; with_reducible apply keepsAt_of) | split | dsimp only | intro _

theorem adopt_keeps {σ : State} (s : State) (hk : Keeps σ s) :
    Keeps σ (State.adopt s) := by
  unfold State.adopt
  repeat' first
    | (with_reducible first | assumption)
    | (simp only [keeps_mk]; with_reducible apply keepsAt_of) | split | dsimp only | intro _

theorem sendSchedule_keeps {σ : State} (s : State) (fire : Nat) (hk : Keeps σ s) :
    Keeps σ (State.sendSchedule s fire) := by
  unfold State.sendSchedule
  repeat' first
    | (with_reducible first | assumption | apply fset_keeps | apply flood_keeps)
    | (simp only [keeps_mk]; with_reducible apply keepsAt_of) | split | dsimp only | intro _

theorem tryRelease_keeps {σ : State} (s : State) (hk : Keeps σ s) :
    Keeps σ (State.tryRelease s) := by
  unfold State.tryRelease
  repeat' first
    | (with_reducible first | assumption | apply sendSchedule_keeps)
    | (simp only [keeps_mk]; with_reducible apply keepsAt_of) | split | dsimp only | intro _

theorem darken_keeps {σ : State} (s : State) (p : Nat) (hk : Keeps σ s) :
    Keeps σ (State.darken s p) := by
  unfold State.darken
  repeat' first
    | (with_reducible first | assumption | apply fset_keeps | apply report_keeps)
    | (simp only [keeps_mk]; with_reducible apply keepsAt_of) | split | dsimp only | intro _

theorem takeDark_keeps {σ : State} (s : State) (n : Nat) (pairs : List (Nat × Nat)) (hk : Keeps σ s) :
    Keeps σ (State.takeDark s n pairs) := by
  unfold State.takeDark
  repeat' first
    | (with_reducible first | assumption | apply darken_keeps | refine foldl_keeps (fun _ _ _ => ?_) ?_)
    | (simp only [keeps_mk]; with_reducible apply keepsAt_of) | split | dsimp only | intro _

theorem undonePairs_fst {σ : State} (s : State) (hk : Keeps σ s) : KeepsP σ (State.undonePairs s) := by
  unfold State.undonePairs
  refine foldl_keepsP (fun t x h => ?_) (keepsP_mk hk)
  split
  · exact keepsP_mk h
  · exact keepsP_mk (drawn_keeps _ h)

theorem undonePairs_fst1 {σ : State} (s : State) (hk : Keeps σ s) : Keeps σ (State.undonePairs s).1 :=
  undonePairs_fst s hk

theorem startElection_keeps {σ : State} (s : State) (hk : Keeps σ s) :
    Keeps σ (State.startElection s) := by
  unfold State.startElection
  repeat' first
    | (with_reducible first | assumption | apply fset_keeps | apply flood_keeps)
    | (simp only [keeps_mk]; with_reducible apply keepsAt_of) | split | dsimp only | intro _

theorem becomeMaster_keeps {σ : State} (s : State) (hk : Keeps σ s) :
    Keeps σ (State.becomeMaster s) := by
  unfold State.becomeMaster
  repeat' first
    | (with_reducible first | assumption | apply fset_keeps)
    | (simp only [keeps_mk]; with_reducible apply keepsAt_of) | split | dsimp only | intro _

theorem abortLate_keeps {σ : State} (s : State) (k : Nat) (hk : Keeps σ s) : Keeps σ (State.abortLate s k) := by
  unfold State.abortLate
  dsimp only
  have e : ∀ t : State, (t.endOp k stLateTransit).waiters = t.waiters := by
    intro t
    unfold State.endOp State.closeOp
    split
    · split <;> rfl
    · rfl
  have h : Keeps σ ((List.range 16).foldl (fun s n =>
      if (s.se n).solve.map Solve.slot = some k then s.solveLate n else s) s) := by
    refine foldl_keeps (fun t x h => ?_) hk
    split
    · exact solveLate_keeps _ _ h
    · exact h
  refine keeps_waiters (endOp_keeps _ k stLateTransit h) _ ?_
  unfold State.tableUsed
  rw [e]
  exact tabled_filter _ _

theorem skipPart_keeps {σ : State} (s : State) (p : Nat) (hk : Keeps σ s) :
    Keeps σ (State.skipPart s p) := by
  unfold State.skipPart
  repeat' first
    | (with_reducible first | assumption | apply fset_keeps | apply abortLate_keeps
                            | refine foldl_keeps (fun _ _ _ => ?_) ?_)
    | (simp only [keeps_mk]; with_reducible apply keepsAt_of) | split | dsimp only | intro _

theorem countTransit_keeps {σ : State} (s : State) (n fire per : Nat) (hk : Keeps σ s) :
    Keeps σ (State.countTransit s n fire per) := by
  unfold State.countTransit
  repeat' first
    | (with_reducible first | assumption | apply fset_keeps | apply finc_keeps)
    | (simp only [keeps_mk]; with_reducible apply keepsAt_of) | split | dsimp only | intro _

theorem tickPart_keeps {σ : State} (s : State) (n p : Nat) (hk : Keeps σ s) :
    Keeps σ (State.tickPart s n p) := by
  unfold State.tickPart
  repeat' first
    | (with_reducible first | assumption | apply setReg_keeps | apply fset_keeps | apply darken_keeps)
    | (simp only [keeps_mk]; with_reducible apply keepsAt_of) | split | dsimp only | intro _

theorem restartDroop_keeps {σ : State} (s : State) (hk : Keeps σ s) :
    Keeps σ (State.restartDroop s) := by
  unfold State.restartDroop
  repeat' first
    | (with_reducible first | assumption | apply setDroopOf_keeps | refine foldl_keeps (fun _ _ _ => ?_) ?_)
    | (simp only [keeps_mk]; with_reducible apply keepsAt_of) | split | dsimp only | intro _

theorem beaconTick_keeps {σ : State} (s : State) (p : Nat) (hk : Keeps σ s) :
    Keeps σ (State.beaconTick s p) := by
  unfold State.beaconTick
  repeat' first
    | (with_reducible first | assumption | apply hwAdd_keeps)
    | (simp only [keeps_mk]; with_reducible apply keepsAt_of) | split | dsimp only | intro _

theorem publish_keeps {σ : State} (s : State) (n : Nat) (hk : Keeps σ s) :
    Keeps σ (State.publish s n) := by
  unfold State.publish
  repeat' first
    | (with_reducible first | assumption | apply homeFires_keeps | refine foldl_keeps (fun _ _ _ => ?_) ?_)
    | (simp only [keeps_mk]; with_reducible apply keepsAt_of) | split | dsimp only | intro _

theorem tickKeys_keeps {σ : State} (s : State) (n : Nat) (hk : Keeps σ s) :
    Keeps σ (State.tickKeys s n) := by
  unfold State.tickKeys
  repeat' first
    | (with_reducible first | assumption | apply fset_keeps | apply installKeys_keeps)
    | (simp only [keeps_mk]; with_reducible apply keepsAt_of) | split | dsimp only | intro _

theorem tickRoutes_keeps {σ : State} (s : State) (n : Nat) (hk : Keeps σ s) :
    Keeps σ (State.tickRoutes s n) := by
  unfold State.tickRoutes
  repeat' first
    | (with_reducible first | assumption | apply fset_keeps | apply orphanLdn_keeps | apply endDead_keeps
                            | refine foldl_keeps (fun _ _ _ => ?_) ?_)
    | (simp only [keeps_mk]; with_reducible apply keepsAt_of) | split | dsimp only | intro _

theorem tickLdn_keeps {σ : State} (s : State) (n : Nat) (hk : Keeps σ s) :
    Keeps σ (State.tickLdn s n) := by
  unfold State.tickLdn
  repeat' first
    | (with_reducible first | assumption | apply fset_keeps)
    | (simp only [keeps_mk]; with_reducible apply keepsAt_of) | split | dsimp only | intro _

theorem tickImage_keeps {σ : State} (s : State) (cut : Bool) (i : PendingImg) (hk : Keeps σ s) :
    Keeps σ (State.tickImage s cut i) := by
  unfold State.tickImage
  repeat' first
    | (with_reducible first | assumption | apply fset_keeps | apply beginApply_keeps)
    | (simp only [keeps_mk]; with_reducible apply keepsAt_of) | split | dsimp only | intro _

theorem tickImages_keeps {σ : State} (s : State) (cut : Bool) (hk : Keeps σ s) :
    Keeps σ (State.tickImages s cut) := by
  unfold State.tickImages
  repeat' first
    | (with_reducible first | assumption | apply fset_keeps | apply tickImage_keeps
                            | refine foldl_keeps (fun _ _ _ => ?_) ?_)
    | (simp only [keeps_mk]; with_reducible apply keepsAt_of) | split | dsimp only | intro _

theorem tickWidths_keeps {σ : State} (s : State) (hk : Keeps σ s) :
    Keeps σ (State.tickWidths s) := by
  unfold State.tickWidths
  repeat' first
    | (with_reducible first | assumption | apply rewidthPart_keeps | refine foldl_keeps (fun _ _ _ => ?_) ?_)
    | (simp only [keeps_mk]; with_reducible apply keepsAt_of) | split | dsimp only | intro _

theorem tickAlmanac_keeps {σ : State} (s : State) (n : Nat) (hk : Keeps σ s) :
    Keeps σ (State.tickAlmanac s n) := by
  unfold State.tickAlmanac
  repeat' first
    | (with_reducible first | assumption | apply almCutAt_keeps | apply almUnhold_keeps)
    | (simp only [keeps_mk]; with_reducible apply keepsAt_of) | split | dsimp only | intro _

theorem tickLast_keeps {σ : State} (s : State) (n : Nat) (hk : Keeps σ s) :
    Keeps σ (State.tickLast s n) := by
  unfold State.tickLast
  repeat' first
    | (with_reducible first | assumption | apply eclTrigger_keeps | apply startElection_keeps)
    | (simp only [keeps_mk]; with_reducible apply keepsAt_of) | split | dsimp only | intro _

theorem fireTransit_keeps {σ : State} (s : State) (hk : Keeps σ s) :
    Keeps σ (State.fireTransit s) := by
  unfold State.fireTransit
  repeat' first
    | (with_reducible first | assumption | apply emit_keeps | apply applyLost_keeps | apply applyCol_keeps
                            | apply checkJoin_keeps | apply skipPart_keeps | apply countTransit_keeps
                            | apply tickPart_keeps | apply restartDroop_keeps | apply beaconTick_keeps
                            | apply publish_keeps | apply tickKeys_keeps | apply tickRoutes_keeps
                            | apply tickLdn_keeps | apply tickImages_keeps | apply tickWidths_keeps
                            | apply tickAlmanac_keeps | apply tickLast_keeps
                            | refine foldl_keeps (fun _ _ _ => ?_) ?_)
    | (simp only [keeps_mk]; with_reducible apply keepsAt_of) | split | dsimp only | intro _

theorem lateMarker_keeps {σ : State} (s : State) (fire : Nat) (hk : Keeps σ s) :
    Keeps σ (State.lateMarker s fire) := by
  unfold State.lateMarker
  repeat' first
    | (with_reducible first | assumption | apply fset_keeps | apply raise_keeps | apply report_keeps
                            | apply fireTransit_keeps)
    | (simp only [keeps_mk]; with_reducible apply keepsAt_of) | split | dsimp only | intro _

theorem stepClear_keeps {σ : State} (s : State) (p : Nat) (value : Word) (hk : Keeps σ s) :
    Keeps σ (State.stepClear s p value) := by
  unfold State.stepClear
  repeat' first
    | (with_reducible first | assumption | apply setReg_keeps)
    | (simp only [keeps_mk]; with_reducible apply keepsAt_of) | split | dsimp only | intro _

theorem countLost_keeps {σ : State} (s : State) (hk : Keeps σ s) :
    Keeps σ (State.countLost s) := by
  unfold State.countLost
  repeat' first
    | (with_reducible first | assumption | apply fset_keeps | refine foldl_keeps (fun _ _ _ => ?_) ?_)
    | (simp only [keeps_mk]; with_reducible apply keepsAt_of) | split | dsimp only | intro _

theorem writeFields_keeps {σ : State} (s : State) (fn : Fn) (off : Nat) (sz : WrSize) (fs : List FieldSpec) (new : Word) (hk : Keeps σ s) :
    Keeps σ (State.writeFields s fn off sz fs new) := by
  unfold State.writeFields
  repeat' first
    | (with_reducible first | assumption | apply setReg_keeps | apply setPerAt_keeps
                            | refine foldl_keeps (fun _ _ _ => ?_) ?_)
    | (simp only [keeps_mk]; with_reducible apply keepsAt_of) | split | dsimp only | intro _

theorem writeStaging_keeps {σ : State} (s : State) (off size : Nat) (value : Word) (hk : Keeps σ s) :
    Keeps σ (State.writeStaging s off size value) := by
  unfold State.writeStaging
  repeat' first
    | (with_reducible first | assumption | apply fset_keeps | apply write_keeps | apply raise_keeps)
    | (simp only [keeps_mk]; with_reducible apply keepsAt_of) | split | dsimp only | intro _

theorem writeReg_keeps {σ : State} (s : State) (fn : Fn) (off size : Nat) (value : Word) (hk : Keeps σ s) :
    Keeps σ (State.writeReg s fn off size value) := by
  unfold State.writeReg
  repeat' first
    | (with_reducible first | assumption | apply refuseWrite_keeps | apply writeFields_keeps
                            | apply writeStaging_keeps)
    | (simp only [keeps_mk]; with_reducible apply keepsAt_of) | split | dsimp only | intro _

theorem writeVf_keeps {σ : State} (s : State) (v off size : Nat) (value : Word) (hk : Keeps σ s) :
    Keeps σ (State.writeVf s v off size value) := by
  unfold State.writeVf
  repeat' first
    | (with_reducible first | assumption | apply writeFields_keeps)
    | (simp only [keeps_mk]; with_reducible apply keepsAt_of) | split | dsimp only | intro _

theorem tap_keeps {σ : State} (s : State) (c : Nat) (q : Quad) (els : List (Option Nat)) (hk : Keeps σ s) :
    Keeps σ (State.tap s c q els) := by
  unfold State.tap
  repeat' first
    | (with_reducible first | assumption | apply onVe_keeps | apply veFlags_keeps | apply keepsO_getD)
    | (simp only [keeps_mk]; with_reducible apply keepsAt_of) | split | dsimp only | intro _

/-- What writes the results of a VE instruction keeps what `Keeps` names. -/
def KeepsPlan (σ : State) (p : VePlan) : Prop := ∀ r t, Keeps σ t → Keeps σ (p.2 r t)

theorem veRun_keeps {σ : State} (s : State) (c : Nat) (q : Quad) (err : VeErrors) (p : VePlan) (hp : KeepsPlan σ p)
    (hk : Keeps σ s) : Keeps σ (State.veRun s c q err p) := by
  unfold State.veRun
  dsimp only
  split
  · exact popQueue_keeps _ _ _ (finc_keeps _ _ _ (hp _ _ hk))
  · split
    · exact popQueue_keeps _ _ _ (finc_keeps _ _ _ (hp _ _ (report_keeps _ _ _ _ _ (finc_keeps _ _ _ hk))))
    · exact pend_keeps _ _ _ _ (report_keeps _ _ _ _ _ (pxRecord_keeps _ _ _ _ _ _ (onVe_keeps _ _ _ hk)))

theorem startVe_ends {σ : State} (s : State) (c op : Nat) (sub : Option Nat) (err : VeErrors) (plan : Quad → VePlan)
    (hp : ∀ q, KeepsPlan σ (plan q)) (hk : Keeps σ s) : Ends σ (State.startVe s c op sub err plan) := by
  unfold State.startVe
  split
  · exact ends_next hk
  · split
    · exact ends_next hk
    · exact ends_next (veRun_keeps _ _ _ _ _ (hp _) hk)

theorem veWrite_keeps {σ : State} (s : State) (c : Nat) (q : Quad) (els : VeRes) (hk : Keeps σ s) :
    Keeps σ (State.veWrite s c q els) := by
  unfold State.veWrite
  repeat' first
    | (with_reducible first | assumption | apply onVe_keeps | apply veFlags_keeps | apply tap_keeps
                            | refine foldl_keeps (fun _ _ _ => ?_) ?_)
    | (simp only [keeps_mk]; with_reducible apply keepsAt_of) | split | dsimp only | intro _

theorem putPadBits_keeps {σ : State} (s : State) (c at_ b v : Nat) (hk : Keeps σ s) :
    Keeps σ (State.putPadBits s c at_ b v) := by
  unfold State.putPadBits
  repeat' first
    | (with_reducible first | assumption | apply storePad_keeps)
    | (simp only [keeps_mk]; with_reducible apply keepsAt_of) | split | dsimp only | intro _

theorem storeBits_keeps {σ : State} (s : State) (c : Nat) (ws : List (Nat × Nat × Nat)) (hk : Keeps σ s) :
    Keeps σ (State.storeBits s c ws) := by
  unfold State.storeBits
  repeat' first
    | (with_reducible first | assumption | apply clearPoison_keeps | apply putPadBits_keeps
                            | refine foldl_keeps (fun _ _ _ => ?_) ?_)
    | (simp only [keeps_mk]; with_reducible apply keepsAt_of) | split | dsimp only | intro _

theorem dropStream_keeps {σ : State} (s : State) (c : Nat) (q : EngineQ) (hk : Keeps σ s) :
    Keeps σ (State.dropStream s c q) := by
  unfold State.dropStream
  repeat' first
    | (with_reducible first | assumption | apply onVe_keeps | apply endToVe_keeps)
    | (simp only [keeps_mk]; with_reducible apply keepsAt_of) | split | dsimp only | intro _

end Sys2Proof.Machine
end

