-- ==== Sys2Proof/Laws/KeepsExec.lean ====
section
/-! SUPPORT. Every command ends in a next state that keeps what `Keeps` names. -/
namespace Sys2Proof.Machine

set_option linter.unusedSimpArgs false
set_option linter.unusedTactic false
set_option linter.unreachableTactic false
-- One declaration at a time: the declarations of the package elaborated together would not fit in memory.
set_option Elab.async false

theorem flrOwn_keeps {σ : State} (t : State) (n : Nat) (f : State → Assoc (Bool × Bool)) (h : Keeps σ t) :
    Keeps σ { t.advanceEpochs [.pf n] with msix := f t } :=
  inv_reports (advanceEpochs_keeps t [.pf n] h) rfl rfl rfl rfl (fun i => i)

theorem keeps_numVfs {σ t : State} (n : Nat) (h : Keeps σ t) : Keeps σ { t with numVfs := n } :=
  inv_reports h rfl rfl rfl rfl (fun i => i)

/-! The plans of VE instructions. -/

theorem lanes_plan {σ : State} (s : State) (c : Nat) (q : Quad) (ctl : Bool) (f : VeState → Nat → Nat → Nat × Flags) :
    KeepsPlan σ (s.lanes c q ctl f) := by
  intro r t k
  unfold State.lanes
  dsimp only
  split
  · exact advanceSr_keeps _ _ _ _ (veWrite_keeps _ _ _ _ k)
  · exact veWrite_keeps _ _ _ _ k

theorem arith2_plan {σ : State} (s : State) (c : Nat) (q : Quad) (f : FpNum → FpNum → FpNum × Flags) :
    KeepsPlan σ (s.arith2 c q f) := lanes_plan _ _ _ _ _

theorem select2_plan {σ : State} (s : State) (c : Nat) (q : Quad) (f : FpNum → FpNum → FpNum × Flags) :
    KeepsPlan σ (s.select2 c q f) := lanes_plan _ _ _ _ _

theorem bits2_plan {σ : State} (s : State) (c : Nat) (q : Quad) (f : Nat → Nat → Nat) : KeepsPlan σ (s.bits2 c q f) :=
  lanes_plan _ _ _ _ _

theorem comparePred_plan {σ : State} (s : State) (c : Nat) (q : Quad) (f : Nat → Nat → Bool × Flags) :
    KeepsPlan σ (s.comparePred c q f) := fun _ _ k => veFlags_keeps _ _ _ (onVe_keeps _ _ _ k)

theorem recvPlan_plan {σ : State} (s : State) (c : Nat) (q : Quad) : KeepsPlan σ (s.recvPlan c q) :=
  fun _ _ k => onVe_keeps _ _ _ (lanes_plan _ _ _ _ _ _ _ k)

theorem execBeaconRead_ends {σ : State} (w : Who) (b : Nat) (s : State) (hk : Keeps σ s) :
    Ends σ (execBeaconRead w b s) := by
  unfold execBeaconRead
  repeat' first
    | (with_reducible first | assumption | apply bcnRead_keeps | apply ends_next | apply ends_whenever)
    | (simp only [keeps_mk]; with_reducible apply keepsAt_of) | split | dsimp only | intro _

theorem execBeaconAdd_ends {σ : State} (w : Who) (b : Nat) (operand : Word) (s : State) (hk : Keeps σ s) :
    Ends σ (execBeaconAdd w b operand s) := by
  unfold execBeaconAdd
  repeat' first
    | (with_reducible first | assumption | apply bcnAdd_keeps | apply ends_next | apply ends_whenever)
    | (simp only [keeps_mk]; with_reducible apply keepsAt_of) | split | dsimp only | intro _

theorem execBeaconSet_ends {σ : State} (w : Who) (b : Nat) (operand : Word) (s : State) (hk : Keeps σ s) :
    Ends σ (execBeaconSet w b operand s) := by
  unfold execBeaconSet
  repeat' first
    | (with_reducible first | assumption | apply bcnSet_keeps | apply ends_next | apply ends_whenever)
    | (simp only [keeps_mk]; with_reducible apply keepsAt_of) | split | dsimp only | intro _

theorem execBeaconCas_ends {σ : State} (w : Who) (b : Nat) (operand compare : Word) (s : State) (hk : Keeps σ s) :
    Ends σ (execBeaconCas w b operand compare s) := by
  unfold execBeaconCas
  repeat' first
    | (with_reducible first | assumption | apply bcnCas_keeps | apply ends_next | apply ends_whenever)
    | (simp only [keeps_mk]; with_reducible apply keepsAt_of) | split | dsimp only | intro _

theorem execBeaconWait_ends {σ : State} (w : Who) (b : Nat) (threshold : Word) (s : State) (hk : Keeps σ s) :
    Ends σ (execBeaconWait w b threshold s) := by
  unfold execBeaconWait
  repeat' first
    | (with_reducible first | assumption | apply bcnWait_keeps | apply ends_next | apply ends_whenever)
    | (simp only [keeps_mk]; with_reducible apply keepsAt_of) | split | dsimp only | intro _

theorem execBeaconArm_ends {σ : State} (w : Who) (b : Nat) (operand : Word) (s : State) (hk : Keeps σ s) :
    Ends σ (execBeaconArm w b operand s) := by
  unfold execBeaconArm
  repeat' first
    | (with_reducible first | assumption | apply bcnArm_keeps | apply ends_next | apply ends_whenever)
    | (simp only [keeps_mk]; with_reducible apply keepsAt_of) | split | dsimp only | intro _

theorem execBeaconAcquire_ends {σ : State} (w : Who) (b prio : Nat) (s : State) (hk : Keeps σ s) :
    Ends σ (execBeaconAcquire w b prio s) := by
  unfold execBeaconAcquire
  repeat' first
    | (with_reducible first | assumption | apply bcnAcquire_keeps | apply ends_next | apply ends_whenever)
    | (simp only [keeps_mk]; with_reducible apply keepsAt_of) | split | dsimp only | intro _

theorem execBeaconRelease_ends {σ : State} (w : Who) (b : Nat) (s : State) (hk : Keeps σ s) :
    Ends σ (execBeaconRelease w b s) := by
  unfold execBeaconRelease
  repeat' first
    | (with_reducible first | assumption | apply bcnRelease_keeps | apply ends_next | apply ends_whenever)
    | (simp only [keeps_mk]; with_reducible apply keepsAt_of) | split | dsimp only | intro _

theorem execBeaconReprioritise_ends {σ : State} (w : Who) (b prio : Nat) (s : State) (hk : Keeps σ s) :
    Ends σ (execBeaconReprioritise w b prio s) := by
  unfold execBeaconReprioritise
  repeat' first
    | (with_reducible first | assumption | apply bcnReprio_keeps | apply ends_next | apply ends_whenever)
    | (simp only [keeps_mk]; with_reducible apply keepsAt_of) | split | dsimp only | intro _

theorem execBeaconConfigWrite_ends {σ : State} (fn : Fn) (value : Word) (s : State) (hk : Keeps σ s) :
    Ends σ (execBeaconConfigWrite fn value s) := by
  unfold execBeaconConfigWrite
  dsimp only
  split
  · exact ends_next (refuseWrite_keeps _ _ _ _ _ hk)
  · split
    · exact ends_next (setBeacon_keeps _ _ _ hk)
    · exact ends_next (setBeacon_keeps _ _ _ (answerAll_keeps _ _ _ _ (keeps_waiters hk _ (tabled_filter _ _))))

theorem execBeaconValueWrite_ends {σ : State} (fn : Fn) (value : Word) (s : State) (hk : Keeps σ s) :
    Ends σ (execBeaconValueWrite fn value s) := by
  unfold execBeaconValueWrite
  repeat' first
    | (with_reducible first | assumption | apply refuseWrite_keeps | apply putBeacon_keeps | apply ends_next
                            | apply ends_whenever)
    | (simp only [keeps_mk]; with_reducible apply keepsAt_of) | split | dsimp only | intro _

theorem execOrphanLdn_ends {σ : State} (fn : Fn) (ldn : Nat) (s : State) (hk : Keeps σ s) :
    Ends σ (execOrphanLdn fn ldn s) := by
  unfold execOrphanLdn
  repeat' first
    | (with_reducible first | assumption | apply fset_keeps | apply refuseWrite_keeps | apply orphanLdn_keeps
                            | apply ends_next | apply ends_whenever)
    | (simp only [keeps_mk]; with_reducible apply keepsAt_of) | split | dsimp only | intro _

theorem execOrphanScanVisit_ends {σ : State} (s : State) (hk : Keeps σ s) :
    Ends σ (execOrphanScanVisit s) := by
  unfold execOrphanScanVisit
  repeat' first
    | (with_reducible first | assumption | apply passLock_keeps | apply ends_next | apply ends_whenever)
    | (simp only [keeps_mk]; with_reducible apply keepsAt_of) | split | dsimp only | intro _

theorem execWaitTimeout_ends {σ : State} (k : Nat) (s : State) (hk : Keeps σ s) : Ends σ (execWaitTimeout k s) := by
  unfold execWaitTimeout
  have h : Keeps σ { s with waiters := s.waiters.eraseIdx k } := keeps_waiters hk _ (tabled_eraseIdx _ _)
  split
  · exact ends_next hk
  · split
    · exact ends_next (answer_keeps _ _ _ _ _ _ _ h)
    · exact ends_next (answer_keeps _ _ _ _ _ _ _ h)
    · exact ends_next hk

theorem execSubmit_ends {σ : State} (fn : Fn) (s : State) (hk : Keeps σ s) :
    Ends σ (execSubmit fn s) := by
  unfold execSubmit
  repeat' first
    | (with_reducible first | assumption | apply fset_keeps | apply raise_keeps | apply refuseWrite_keeps
                            | apply ends_next | apply ends_whenever)
    | (simp only [keeps_mk]; with_reducible apply keepsAt_of) | split | dsimp only | intro _

theorem execValidationDone_ends {σ : State} (s : State) (hk : Keeps σ s) :
    Ends σ (execValidationDone s) := by
  unfold execValidationDone
  repeat' first
    | (with_reducible first | assumption | apply fset_keeps | apply raise_keeps | apply reportOpen_keeps
                            | apply imageEvent_keeps | apply keepsO_getD | apply ends_next | apply ends_whenever)
    | (simp only [keeps_mk]; with_reducible apply keepsAt_of) | split | dsimp only | intro _

theorem execWithdraw_ends {σ : State} (fn : Fn) (p : Nat) (s : State) (hk : Keeps σ s) :
    Ends σ (execWithdraw fn p s) := by
  unfold execWithdraw
  repeat' first
    | (with_reducible first | assumption | apply fset_keeps | apply refuseWrite_keeps | apply withdrawImage_keeps
                            | apply ends_next | apply ends_whenever)
    | (simp only [keeps_mk]; with_reducible apply keepsAt_of) | split | dsimp only | intro _

theorem execRestructureWaitExpiry_ends {σ : State} (p : Nat) (s : State) (hk : Keeps σ s) :
    Ends σ (execRestructureWaitExpiry p s) := by
  unfold execRestructureWaitExpiry
  repeat' first
    | (with_reducible first | assumption | apply withdrawImage_keeps | apply ends_next | apply ends_whenever)
    | (simp only [keeps_mk]; with_reducible apply keepsAt_of) | split | dsimp only | intro _

theorem execApplyComplete_ends {σ : State} (p : Nat) (s : State) (hk : Keeps σ s) :
    Ends σ (execApplyComplete p s) := by
  unfold execApplyComplete
  repeat' first
    | (with_reducible first | assumption | apply fset_keeps | apply setChan_keeps | apply zero_keeps
                            | apply raise_keeps | apply recountPackage_keeps | apply loadTransitHeader_keeps
                            | apply loadMode_keeps | apply loadChan_keeps | apply loadSlice_keeps
                            | apply loadHash_keeps | apply formPart_keeps | apply withSections_keeps
                            | apply afterImage_keeps | apply zeroClusters_keeps | apply leaveLlm_keeps
                            | apply leaveRegions_keeps | refine foldl_keeps (fun _ _ _ => ?_) ?_ | apply ends_next
                            | apply ends_whenever)
    | (simp only [keeps_mk]; with_reducible apply keepsAt_of) | split | dsimp only | intro _

theorem execChannelZeroDone_ends {σ : State} (ch : Nat) (s : State) (hk : Keeps σ s) :
    Ends σ (execChannelZeroDone ch s) := by
  unfold execChannelZeroDone
  repeat' first
    | (with_reducible first | assumption | apply setChan_keeps | apply zero_keeps | apply ends_next
                            | apply ends_whenever)
    | (simp only [keeps_mk]; with_reducible apply keepsAt_of) | split | dsimp only | intro _

theorem execQpushMe_ends {σ : State} (u : CoreId) (fs1 : Nat) (s : State) (hk : Keeps σ s) :
    Ends σ (execQpushMe u fs1 s) := by
  unfold execQpushMe
  repeat' first
    | (with_reducible first | assumption | apply ctlInstr_ends | apply qpush_keeps | apply ends_next
                            | apply ends_whenever)
    | (simp only [keeps_mk]; with_reducible apply keepsAt_of) | split | dsimp only | intro _

theorem execQpushVe_ends {σ : State} (u : CoreId) (fs1 : Nat) (s : State) (hk : Keeps σ s) :
    Ends σ (execQpushVe u fs1 s) := by
  unfold execQpushVe
  repeat' first
    | (with_reducible first | assumption | apply ctlInstr_ends | apply qpush_keeps | apply ends_next
                            | apply ends_whenever)
    | (simp only [keeps_mk]; with_reducible apply keepsAt_of) | split | dsimp only | intro _

theorem execQpushFe_ends {σ : State} (u : CoreId) (fs1 : Nat) (s : State) (hk : Keeps σ s) :
    Ends σ (execQpushFe u fs1 s) := by
  unfold execQpushFe
  repeat' first
    | (with_reducible first | assumption | apply ctlInstr_ends | apply qpush_keeps | apply ends_next
                            | apply ends_whenever)
    | (simp only [keeps_mk]; with_reducible apply keepsAt_of) | split | dsimp only | intro _

theorem execQsync_ends {σ : State} (u : CoreId) (mask : Nat) (s : State) (hk : Keeps σ s) :
    Ends σ (execQsync u mask s) := by
  unfold execQsync
  repeat' first
    | (with_reducible first | assumption | apply onJumbe_keeps | apply ccState_keeps | apply stepPc_keeps
                            | apply takeException_keeps | apply illegal_keeps | apply ctlInstr_ends
                            | apply ends_next | apply ends_whenever)
    | (simp only [keeps_mk]; with_reducible apply keepsAt_of) | split | dsimp only | intro _

theorem execQdepth_ends {σ : State} (u : CoreId) (xd func : Nat) (s : State) (hk : Keeps σ s) :
    Ends σ (execQdepth u xd func s) := by
  unfold execQdepth
  repeat' first
    | (with_reducible first | assumption | apply illegal_keeps | apply ctlInstr_ends | apply retireInstr_keeps
                            | apply ends_next | apply ends_whenever)
    | (simp only [keeps_mk]; with_reducible apply keepsAt_of) | split | dsimp only | intro _

theorem execSrget_ends {σ : State} (u : CoreId) (xd func : Nat) (s : State) (hk : Keeps σ s) :
    Ends σ (execSrget u xd func s) := by
  unfold execSrget
  repeat' first
    | (with_reducible first | assumption | apply illegal_keeps | apply ctlInstr_ends | apply retireInstr_keeps
                            | apply ends_next | apply ends_whenever)
    | (simp only [keeps_mk]; with_reducible apply keepsAt_of) | split | dsimp only | intro _

theorem execSrput_ends {σ : State} (u : CoreId) (xs func : Nat) (s : State) (hk : Keeps σ s) :
    Ends σ (execSrput u xs func s) := by
  unfold execSrput
  repeat' first
    | (with_reducible first | assumption | apply setReg_keeps | apply stepPc_keeps | apply illegal_keeps
                            | apply ctlInstr_ends | apply ends_next | apply ends_whenever)
    | (simp only [keeps_mk]; with_reducible apply keepsAt_of) | split | dsimp only | intro _

theorem execWaitb_ends {σ : State} (c : Nat) (q : EngineQ) (s : State) (hk : Keeps σ s) :
    Ends σ (execWaitb c q s) := by
  unfold execWaitb
  repeat' first
    | (with_reducible first | assumption | apply popQueue_keeps | apply joinWaiters_keeps | apply meRefuse_keeps
                            | apply veHalt_keeps | apply feHalt_keeps | apply ends_next | apply ends_whenever)
    | (simp only [keeps_mk]; with_reducible apply keepsAt_of) | split | dsimp only | intro _

theorem execFence_ends {σ : State} (c : Nat) (q : EngineQ) (s : State) (hk : Keeps σ s) :
    Ends σ (execFence c q s) := by
  unfold execFence
  repeat' first
    | (with_reducible first | assumption | apply onFe_keeps | apply drainLines_keeps | apply popQueue_keeps
                            | apply ends_next | apply ends_whenever)
    | (simp only [keeps_mk]; with_reducible apply keepsAt_of) | split | dsimp only | intro _

theorem execMeshScratchpadAccess_ends {σ : State} (c off : Nat) (who : PadMaster) (a b : PortReq) (s : State) (hk : Keeps σ s) :
    Ends σ (execMeshScratchpadAccess c off who a b s) := by
  unfold execMeshScratchpadAccess
  repeat' first
    | (with_reducible first | assumption | apply ports_keeps | apply bankCycle_keeps | apply ends_next
                            | apply ends_whenever)
    | (simp only [keeps_mk]; with_reducible apply keepsAt_of) | split | dsimp only | intro _

theorem execSramPoison_ends {σ : State} (pa bits : Nat) (s : State) (hk : Keeps σ s) :
    Ends σ (execSramPoison pa bits s) := by
  unfold execSramPoison
  repeat' first
    | (with_reducible first | assumption | apply poisonSram_keeps | apply strike_keeps | apply ends_next
                            | apply ends_whenever)
    | (simp only [keeps_mk]; with_reducible apply keepsAt_of) | split | dsimp only | intro _

theorem execCompatWrite_ends {σ : State} (fn : Fn) (c : Nat) (v : Bool) (s : State) (hk : Keeps σ s) :
    Ends σ (execCompatWrite fn c v s) := by
  unfold execCompatWrite
  repeat' first
    | (with_reducible first | assumption | apply fset_keeps | apply onCore_keeps | apply refuseWrite_keeps
                            | apply ends_next | apply ends_whenever)
    | (simp only [keeps_mk]; with_reducible apply keepsAt_of) | split | dsimp only | intro _

theorem execCompatZeroDone_ends {σ : State} (c : Nat) (s : State) (hk : Keeps σ s) :
    Ends σ (execCompatZeroDone c s) := by
  unfold execCompatZeroDone
  repeat' first
    | (with_reducible first | assumption | apply zero_keeps | apply onCore_keeps | apply ends_next
                            | apply ends_whenever)
    | (simp only [keeps_mk]; with_reducible apply keepsAt_of) | split | dsimp only | intro _

theorem execDirectoryTransaction_ends {σ : State} (line : Nat) (r : CohReq) (s : State) (hk : Keeps σ s) :
    Ends σ (execDirectoryTransaction line r s) := by
  unfold execDirectoryTransaction
  repeat' first
    | (with_reducible first | assumption | apply directory_keeps | apply ends_next | apply ends_whenever)
    | (simp only [keeps_mk]; with_reducible apply keepsAt_of) | split | dsimp only | intro _

theorem execWcbIdleDrain_ends {σ : State} (m line : Nat) (s : State) (hk : Keeps σ s) :
    Ends σ (execWcbIdleDrain m line s) := by
  unfold execWcbIdleDrain
  repeat' first
    | (with_reducible first | assumption | apply drainLine_keeps | apply ends_next | apply ends_whenever)
    | (simp only [keeps_mk]; with_reducible apply keepsAt_of) | split | dsimp only | intro _

theorem execLlmWriteback_ends {σ : State} (fn : Fn) (n : Nat) (s : State) (hk : Keeps σ s) :
    Ends σ (execLlmWriteback fn n s) := by
  unfold execLlmWriteback
  repeat' first
    | (with_reducible first | assumption | apply fset_keeps | apply refuseWrite_keeps | apply ends_next
                            | apply ends_whenever)
    | (simp only [keeps_mk]; with_reducible apply keepsAt_of) | split | dsimp only | intro _

theorem execLlmWritebackDone_ends {σ : State} (n : Nat) (s : State) (hk : Keeps σ s) :
    Ends σ (execLlmWritebackDone n s) := by
  unfold execLlmWritebackDone
  repeat' first
    | (with_reducible first | assumption | apply fset_keeps | apply setDirLine_keeps | apply writeBack_keeps
                            | refine foldl_keeps (fun _ _ _ => ?_) ?_ | apply ends_next | apply ends_whenever)
    | (simp only [keeps_mk]; with_reducible apply keepsAt_of) | split | dsimp only | intro _

theorem execLlmPoison_ends {σ : State} (pa bits : Nat) (s : State) (hk : Keeps σ s) :
    Ends σ (execLlmPoison pa bits s) := by
  unfold execLlmPoison
  repeat' first
    | (with_reducible first | assumption | apply setPoison_keeps | apply report_keeps | apply reportOpen_keeps
                            | apply strike_keeps | apply ends_next | apply ends_whenever)
    | (simp only [keeps_mk]; with_reducible apply keepsAt_of) | split | dsimp only | intro _

theorem execEclipseN_ends {σ : State} (ns : Nat) (s : State) (hk : Keeps σ s) :
    Ends σ (execEclipseN ns s) := by
  unfold execEclipseN
  repeat' first
    | (with_reducible first | assumption | apply eclTrigger_keeps | apply ends_next | apply ends_whenever)
    | (simp only [keeps_mk]; with_reducible apply keepsAt_of) | split | dsimp only | intro _

theorem execEclipseTrigger_ends {σ : State} (fn : Fn) (s : State) (hk : Keeps σ s) :
    Ends σ (execEclipseTrigger fn s) := by
  unfold execEclipseTrigger
  repeat' first
    | (with_reducible first | assumption | apply refuseWrite_keeps | apply eclTrigger_keeps | apply ends_next
                            | apply ends_whenever)
    | (simp only [keeps_mk]; with_reducible apply keepsAt_of) | split | dsimp only | intro _

theorem execSelfRefreshDone_ends {σ : State} (s : State) (hk : Keeps σ s) :
    Ends σ (execSelfRefreshDone s) := by
  unfold execSelfRefreshDone
  repeat' first
    | (with_reducible first | assumption | apply setChan_keeps | apply freeze_keeps
                            | refine foldl_keeps (fun _ _ _ => ?_) ?_ | apply ends_next | apply ends_whenever)
    | (simp only [keeps_mk]; with_reducible apply keepsAt_of) | split | dsimp only | intro _

theorem execReadoutDone_ends {σ : State} (ok : Bool) (s : State) (hk : Keeps σ s) :
    Ends σ (execReadoutDone ok s) := by
  unfold execReadoutDone
  repeat' first
    | (with_reducible first | assumption | apply fset_keeps | apply setChan_keeps | apply raise_keeps
                            | apply putPortState_keeps | apply recountPackage_keeps | apply warmReset_keeps
                            | refine foldl_keeps (fun _ _ _ => ?_) ?_ | apply ends_next | apply ends_whenever)
    | (simp only [keeps_mk]; with_reducible apply keepsAt_of) | split | dsimp only | intro _

theorem execLogTake_ends {σ : State} (now : Nat) (s : State) (hk : Keeps σ s) : Ends σ (execLogTake now s) := by
  unfold execLogTake
  have h := advance_keeps s now hk
  dsimp only
  split
  · next r rest e =>
    refine ends_next (takeReport_keeps _ _ (inv_reports h rfl rfl rfl rfl (fun i => ⟨i.1, i.2.1, i.2.2.1, ?_, i.2.2.2.2⟩)))
    have h4 := i.2.2.2.1
    rw [e] at h4
    exact Nat.le_trans (Nat.le_succ _) h4
  · split
    · next r rest e =>
      refine ends_next (takeReport_keeps _ _ (inv_reports h rfl rfl rfl rfl (fun i => ⟨i.1, i.2.1, ?_, i.2.2.2⟩)))
      have h4 := i.2.2.1
      rw [e] at h4
      exact Nat.le_trans (Nat.le_succ _) h4
    · exact ends_next h

theorem execErrConsWrite_ends {σ : State} (fn : Fn) (cons : Nat) (s : State) (hk : Keeps σ s) :
    Ends σ (execErrConsWrite fn cons s) := by
  unfold execErrConsWrite
  repeat' first
    | (with_reducible first | assumption | apply fset_keeps | apply refuseWrite_keeps | apply showAlert_keeps
                            | apply logStatus_keeps | apply ends_next | apply ends_whenever)
    | (simp only [keeps_mk]; with_reducible apply keepsAt_of) | split | dsimp only | intro _

theorem execRecoveryStart_ends {σ : State} (s : State) (hk : Keeps σ s) : Ends σ (execRecoveryStart s) := by
  unfold execRecoveryStart
  split
  · next i r hi hr =>
    dsimp only
    refine ends_next (mntStop_keeps _ _ (recover_keeps _ _ ?_))
    refine inv_reports hk rfl rfl rfl rfl (fun j => ⟨j.1, j.2.1, j.2.2.1, j.2.2.2.1, j.2.2.2.2.1, j.2.2.2.2.2.1, ?_,
      Nat.le_trans (List.Sublist.length_le List.erase_sublist) j.2.2.2.2.2.2.2⟩)
    obtain ⟨n1, n2⟩ := j.2.2.2.2.2.2.1
    have hlt : i < 4 := List.mem_range.1 (List.mem_of_find?_eq_some hi)
    have hno := List.find?_some hi
    simp only [Bool.not_eq_true', List.any_eq_false, beq_iff_eq] at hno
    refine ⟨?_, fun x hx => ?_⟩
    · simp only [List.map_append, List.map_cons, List.map_nil]
      refine List.nodup_append.2 ⟨n1, by simp, ?_⟩
      intro a ha b hb
      obtain ⟨y, hy, rfl⟩ := List.mem_map.1 ha
      simp only [List.mem_singleton] at hb
      subst hb
      exact hno y hy
    · rcases List.mem_append.1 hx with h | h
      · exact n2 x h
      · simp only [List.mem_singleton] at h
        subst h
        exact hlt
  · exact ends_next hk

theorem execRecoveryComplete_ends {σ : State} (i : Nat) (failed : List FailedUnit) (s : State) (hk : Keeps σ s) :
    Ends σ (execRecoveryComplete i failed s) := by
  unfold execRecoveryComplete
  split
  · exact ends_next hk
  · dsimp only
    have h : ∀ ds : List Nat, Keeps σ (ds.foldl State.reissueCore (failed.foldl State.retireFailed
        { s with recs := s.recs.filter (fun x => x.slot != i) })) := fun ds =>
      foldl_keeps (fun t x h => reissueCore_keeps _ _ h) (foldl_keeps (fun t x h => retireFailed_keeps _ _ h)
        (inv_reports hk rfl rfl rfl rfl (fun j => ⟨j.1, j.2.1, j.2.2.1, j.2.2.2.1, j.2.2.2.2.1, j.2.2.2.2.2.1,
          slotsOk_filter _ _ j.2.2.2.2.2.2.1, j.2.2.2.2.2.2.2⟩)))
    split
    · exact ends_next (wakeStacks_keeps _ (raise_keeps _ _ _ (fset_keeps _ _ _ (h _))))
    · exact ends_next (wakeStacks_keeps _ (h _))
    · exact ends_next (h _)

theorem execMntRequest_ends {σ : State} (fn : Fn) (activity domain : Nat) (s : State) (hk : Keeps σ s) :
    Ends σ (execMntRequest fn activity domain s) := by
  unfold execMntRequest
  repeat' first
    | (with_reducible first | assumption | apply fset_keeps | apply raise_keeps | apply refuseWrite_keeps
                            | apply mntGrant_fst | apply mntGrant_fst1 | exact keepsO_none | apply keepsO_some
                            | exact keepsOP_none | apply keepsOP_some | apply keepsP_mk
                            | refine keepsO_elim (by assumption) ?_ | exact keepsO_get (by assumption)
                            | refine keepsP_elim (by assumption) ?_ | exact keepsP_get (by assumption)
                            | refine keepsOP_elim (by assumption) ?_ | exact keepsOP_get (by assumption)
                            | refine keepsOP_elim1 (by assumption) ?_ | exact keepsOP_get1 (by assumption)
                            | apply ends_next | apply ends_whenever)
    | (simp only [keeps_mk]; with_reducible apply keepsAt_of) | split | dsimp only | intro _

theorem execMntAbort_ends {σ : State} (fn : Fn) (i : Nat) (s : State) (hk : Keeps σ s) :
    Ends σ (execMntAbort fn i s) := by
  unfold execMntAbort
  repeat' first
    | (with_reducible first | assumption | apply refuseWrite_keeps | apply mntEnd_keeps | apply ends_next
                            | apply ends_whenever)
    | (simp only [keeps_mk]; with_reducible apply keepsAt_of) | split | dsimp only | intro _

theorem execMntActivityDone_ends {σ : State} (i : Nat) (s : State) (hk : Keeps σ s) :
    Ends σ (execMntActivityDone i s) := by
  unfold execMntActivityDone
  repeat' first
    | (with_reducible first | assumption | apply fset_keeps | apply finc_keeps | apply raise_keeps
                            | apply scrub_keeps | apply mntEnd_keeps | apply ends_next | apply ends_whenever)
    | (simp only [keeps_mk]; with_reducible apply keepsAt_of) | split | dsimp only | intro _

theorem execChannelTrainDone_ends {σ : State} (n : Nat) (fit : ChanFit) (s : State) (hk : Keeps σ s) :
    Ends σ (execChannelTrainDone n fit s) := by
  unfold execChannelTrainDone
  repeat' first
    | (with_reducible first | assumption | apply fset_keeps | apply zero_keeps | apply recount_keeps
                            | apply setChState_keeps | apply retireChan_keeps | apply checkMemory_keeps
                            | apply ends_next | apply ends_whenever)
    | (simp only [keeps_mk]; with_reducible apply keepsAt_of) | split | dsimp only | intro _

theorem execGddr7Access_ends {σ : State} (n : Nat) (s : State) (hk : Keeps σ s) :
    Ends σ (execGddr7Access n s) := by
  unfold execGddr7Access
  repeat' first
    | (with_reducible first | assumption | apply finc_keeps | apply setChan_keeps | apply drawn_keeps
                            | apply ends_next | apply ends_whenever)
    | (simp only [keeps_mk]; with_reducible apply keepsAt_of) | split | dsimp only | intro _

theorem execCrcError_ends {σ : State} (now n : Nat) (s : State) (hk : Keeps σ s) :
    Ends σ (execCrcError now n s) := by
  unfold execCrcError
  repeat' first
    | (with_reducible first | assumption | apply finc_keeps | apply setChan_keeps | apply reportOpen_keeps
                            | apply advance_keeps | apply startRetrain_keeps | apply ends_next
                            | apply ends_whenever)
    | (simp only [keeps_mk]; with_reducible apply keepsAt_of) | split | dsimp only | intro _

theorem execRetrainCmd_ends {σ : State} (fn : Fn) (n : Nat) (s : State) (hk : Keeps σ s) :
    Ends σ (execRetrainCmd fn n s) := by
  unfold execRetrainCmd
  repeat' first
    | (with_reducible first | assumption | apply setChan_keeps | apply refuseWrite_keeps | apply mntGrant_fst
                            | apply mntGrant_fst1 | apply setChState_keeps | exact keepsO_none | apply keepsO_some
                            | exact keepsOP_none | apply keepsOP_some | apply keepsP_mk
                            | refine keepsO_elim (by assumption) ?_ | exact keepsO_get (by assumption)
                            | refine keepsP_elim (by assumption) ?_ | exact keepsP_get (by assumption)
                            | refine keepsOP_elim (by assumption) ?_ | exact keepsOP_get (by assumption)
                            | refine keepsOP_elim1 (by assumption) ?_ | exact keepsOP_get1 (by assumption)
                            | apply ends_next | apply ends_whenever)
    | (simp only [keeps_mk]; with_reducible apply keepsAt_of) | split | dsimp only | intro _

theorem execChannelRetrainDone_ends {σ : State} (now n : Nat) (ok : Bool) (s : State) (hk : Keeps σ s) :
    Ends σ (execChannelRetrainDone now n ok s) := by
  unfold execChannelRetrainDone
  repeat' first
    | (with_reducible first | assumption | apply finc_keeps | apply setChan_keeps | apply mntEnd_keeps
                            | apply advance_keeps | apply setChState_keeps | apply retireChan_keeps
                            | apply ends_next | apply ends_whenever)
    | (simp only [keeps_mk]; with_reducible apply keepsAt_of) | split | dsimp only | intro _

theorem execGddr7Poison_ends {σ : State} (n addr bits : Nat) (s : State) (hk : Keeps σ s) :
    Ends σ (execGddr7Poison n addr bits s) := by
  unfold execGddr7Poison
  repeat' first
    | (with_reducible first | assumption | apply finc_keeps | apply report_keeps
                            | refine foldl_keeps (fun _ _ _ => ?_) ?_ | apply ends_next | apply ends_whenever)
    | (simp only [keeps_mk]; with_reducible apply keepsAt_of) | split | dsimp only | intro _

theorem execMapEnableWrite_ends {σ : State} (fn : Fn) (r : Nat) (value : Word) (s : State) (hk : Keeps σ s) :
    Ends σ (execMapEnableWrite fn r value s) := by
  unfold execMapEnableWrite
  repeat' first
    | (with_reducible first | assumption | apply fset_keeps | apply refuseWrite_keeps | apply disableMap_keeps
                            | apply ends_next | apply ends_whenever)
    | (simp only [keeps_mk]; with_reducible apply keepsAt_of) | split | dsimp only | intro _

theorem execTempPoll_ends {σ : State} (now m : Nat) (temp : Int) (devHot : Nat) (s : State) (hk : Keeps σ s) :
    Ends σ (execTempPoll now m temp devHot s) := by
  unfold execTempPoll
  repeat' first
    | (with_reducible first | assumption | apply fset_keeps | apply advance_keeps | apply setHot_keeps
                            | refine foldl_keeps (fun _ _ _ => ?_) ?_ | apply ends_next | apply ends_whenever)
    | (simp only [keeps_mk]; with_reducible apply keepsAt_of) | split | dsimp only | intro _

theorem execHotExit_ends {σ : State} (now m : Nat) (s : State) (hk : Keeps σ s) :
    Ends σ (execHotExit now m s) := by
  unfold execHotExit
  repeat' first
    | (with_reducible first | assumption | apply advance_keeps | apply setHot_keeps | apply ends_next
                            | apply ends_whenever)
    | (simp only [keeps_mk]; with_reducible apply keepsAt_of) | split | dsimp only | intro _

theorem execRefresh_ends {σ : State} (n : Nat) (s : State) (hk : Keeps σ s) :
    Ends σ (execRefresh n s) := by
  unfold execRefresh
  repeat' first
    | (with_reducible first | assumption | apply setChan_keeps | apply ends_next | apply ends_whenever)
    | (simp only [keeps_mk]; with_reducible apply keepsAt_of) | split | dsimp only | intro _

theorem execLoads_ends {σ : State} (c : Nat) (s : State) (hk : Keeps σ s) :
    Ends σ (execLoads c s) := by
  unfold execLoads
  repeat' first
    | (with_reducible first | assumption | apply popQueue_keeps | apply doLoads_keeps | apply startMe_ends
                            | apply ends_next | apply ends_whenever)
    | (simp only [keeps_mk]; with_reducible apply keepsAt_of) | split | dsimp only | intro _

theorem execSwap_ends {σ : State} (c : Nat) (s : State) (hk : Keeps σ s) :
    Ends σ (execSwap c s) := by
  unfold execSwap
  repeat' first
    | (with_reducible first | assumption | apply onMe_keeps | apply popQueue_keeps | apply startMe_ends
                            | apply ends_next | apply ends_whenever)
    | (simp only [keeps_mk]; with_reducible apply keepsAt_of) | split | dsimp only | intro _

theorem execStream_ends {σ : State} (c : Nat) (errs : List MeError) (s : State) (hk : Keeps σ s) :
    Ends σ (execStream c errs s) := by
  unfold execStream
  repeat' first
    | (with_reducible first | assumption | apply onMe_keeps | apply popQueue_keeps | apply doStream_keeps
                            | apply mismatch_keeps | apply startMe_ends | apply ends_next | apply ends_whenever)
    | (simp only [keeps_mk]; with_reducible apply keepsAt_of) | split | dsimp only | intro _

theorem execDrain_ends {σ : State} (c : Nat) (errs : List MeError) (s : State) (hk : Keeps σ s) :
    Ends σ (execDrain c errs s) := by
  unfold execDrain
  repeat' first
    | (with_reducible first | assumption | apply onMe_keeps | apply popQueue_keeps | apply doDrain_keeps
                            | apply poisonDrain_keeps | apply mismatch_keeps | apply startMe_ends | apply ends_next
                            | apply ends_whenever)
    | (simp only [keeps_mk]; with_reducible apply keepsAt_of) | split | dsimp only | intro _

theorem execMode_ends {σ : State} (c : Nat) (s : State) (hk : Keeps σ s) :
    Ends σ (execMode c s) := by
  unfold execMode
  repeat' first
    | (with_reducible first | assumption | apply fset_keeps | apply onMe_keeps | apply popQueue_keeps
                            | apply startMe_ends | apply ends_next | apply ends_whenever)
    | (simp only [keeps_mk]; with_reducible apply keepsAt_of) | split | dsimp only | intro _

theorem execScale_ends {σ : State} (c : Nat) (s : State) (hk : Keeps σ s) :
    Ends σ (execScale c s) := by
  unfold execScale
  repeat' first
    | (with_reducible first | assumption | apply fset_keeps | apply onMe_keeps | apply popQueue_keeps
                            | apply startMe_ends | apply ends_next | apply ends_whenever)
    | (simp only [keeps_mk]; with_reducible apply keepsAt_of) | split | dsimp only | intro _

theorem execPxCoreRetire_ends {σ : State} (c : Nat) (s : State) (hk : Keeps σ s) :
    Ends σ (execPxCoreRetire c s) := by
  unfold execPxCoreRetire
  repeat' first
    | (with_reducible first | assumption | apply onOp_keeps | apply endOp_keeps | apply flagOp_keeps
                            | apply pxRetire_keeps | apply ends_next | apply ends_whenever)
    | (simp only [keeps_mk]; with_reducible apply keepsAt_of) | split | dsimp only | intro _

theorem execExceptionReturn_ends {σ : State} (u : CoreId) (s : State) (hk : Keeps σ s) :
    Ends σ (execExceptionReturn u s) := by
  unfold execExceptionReturn
  repeat' first
    | (with_reducible first | assumption | apply leaveHandler_keeps | apply pxRetire_keeps | apply ends_next
                            | apply ends_whenever)
    | (simp only [keeps_mk]; with_reducible apply keepsAt_of) | split | dsimp only | intro _

theorem execPxHandlerTimeout_ends {σ : State} (c : Nat) (s : State) (hk : Keeps σ s) :
    Ends σ (execPxHandlerTimeout c s) := by
  unfold execPxHandlerTimeout
  repeat' first
    | (with_reducible first | assumption | apply pxRetire_keeps | apply ends_next | apply ends_whenever)
    | (simp only [keeps_mk]; with_reducible apply keepsAt_of) | split | dsimp only | intro _

theorem execPxInject_ends {σ : State} (fn : Fn) (c col : Nat) (persist : Bool) (s : State) (hk : Keeps σ s) :
    Ends σ (execPxInject fn c col persist s) := by
  unfold execPxInject
  repeat' first
    | (with_reducible first | assumption | apply fset_keeps | apply onMe_keeps | apply refuseWrite_keeps
                            | apply ends_next | apply ends_whenever)
    | (simp only [keeps_mk]; with_reducible apply keepsAt_of) | split | dsimp only | intro _

theorem execColdReset_ends {σ : State} (s : State) (hk : Keeps σ s) :
    Ends σ (execColdReset s) := by
  unfold execColdReset
  repeat' first
    | (with_reducible first | assumption | apply coldReset_keeps | apply ends_next | apply ends_whenever)
    | (simp only [keeps_mk]; with_reducible apply keepsAt_of) | split | dsimp only | intro _

theorem execVddAonLoss_ends {σ : State} (s : State) (hk : Keeps σ s) :
    Ends σ (execVddAonLoss s) := by
  unfold execVddAonLoss
  repeat' first
    | (with_reducible first | assumption | apply coldReset_keeps | apply ends_next | apply ends_whenever)
    | (simp only [keeps_mk]; with_reducible apply keepsAt_of) | split | dsimp only | intro _

theorem execPerstAssert_ends {σ : State} (now : Nat) (s : State) (hk : Keeps σ s) :
    Ends σ (execPerstAssert now s) := by
  unfold execPerstAssert
  repeat' first
    | (with_reducible first | assumption | apply warmReset_keeps | apply advance_keeps | apply ends_next
                            | apply ends_whenever)
    | (simp only [keeps_mk]; with_reducible apply keepsAt_of) | split | dsimp only | intro _

theorem execPerstRelease_ends {σ : State} (now rack slot : Nat) (s : State) (hk : Keeps σ s) :
    Ends σ (execPerstRelease now rack slot s) := by
  unfold execPerstRelease
  have a := advance_keeps s now hk
  dsimp only
  split
  · exact ends_next a
  · have b : Keeps σ { s.advance now with
        pins := { (s.advance now).pins with perstN := true },
        nv := { (s.advance now).nv with strapRack := rack % 2 ^ 16, strapSlot := slot % 2 ^ 8 } } := keeps_nv a _ rfl rfl
    split
    · exact ends_next (bootStart_keeps _ b)
    · exact ends_next b

theorem execRailFail_ends {σ : State} (rail : Nat) (s : State) (hk : Keeps σ s) :
    Ends σ (execRailFail rail s) := by
  unfold execRailFail
  repeat' first
    | (with_reducible first | assumption | apply warmReset_keeps | apply ends_next | apply ends_whenever)
    | (simp only [keeps_mk]; with_reducible apply keepsAt_of) | split | dsimp only | intro _

theorem execRailRestoreRestart_ends {σ : State} (now : Nat) (s : State) (hk : Keeps σ s) :
    Ends σ (execRailRestoreRestart now s) := by
  unfold execRailRestoreRestart
  repeat' first
    | (with_reducible first | assumption | apply advance_keeps | apply bootStart_keeps | apply ends_next
                            | apply ends_whenever)
    | (simp only [keeps_mk]; with_reducible apply keepsAt_of) | split | dsimp only | intro _

theorem execInternalResetRelease_ends {σ : State} (now : Nat) (s : State) (hk : Keeps σ s) :
    Ends σ (execInternalResetRelease now s) := by
  unfold execInternalResetRelease
  repeat' first
    | (with_reducible first | assumption | apply advance_keeps | apply bootStart_keeps | apply ends_next
                            | apply ends_whenever)
    | (simp only [keeps_mk]; with_reducible apply keepsAt_of) | split | dsimp only | intro _

theorem execBootWatchdog_ends {σ : State} (s : State) (hk : Keeps σ s) :
    Ends σ (execBootWatchdog s) := by
  unfold execBootWatchdog
  repeat' first
    | (with_reducible first | assumption | apply warmReset_keeps | apply ends_next | apply ends_whenever)
    | (simp only [keeps_mk]; with_reducible apply keepsAt_of) | split | dsimp only | intro _

theorem execFirmwareStarted_ends {σ : State} (s : State) (hk : Keeps σ s) :
    Ends σ (execFirmwareStarted s) := by
  unfold execFirmwareStarted
  repeat' first
    | (with_reducible first | assumption | apply fset_keeps | apply reach__keeps | apply romSelect_keeps
                            | apply ends_next | apply ends_whenever)
    | (simp only [keeps_mk]; with_reducible apply keepsAt_of) | split | dsimp only | intro _

theorem execFusesApplied_ends {σ : State} (s : State) (hk : Keeps σ s) :
    Ends σ (execFusesApplied s) := by
  unfold execFusesApplied
  repeat' first
    | (with_reducible first | assumption | apply setReg_keeps | apply fset_keeps | apply reach__keeps
                            | apply setWidth_keeps | refine foldl_keeps (fun _ _ _ => ?_) ?_ | apply ends_next
                            | apply ends_whenever)
    | (simp only [keeps_mk]; with_reducible apply keepsAt_of) | split | dsimp only | intro _

theorem execSelfTestDone_ends {σ : State} (failed : List FailedUnit) (s : State) (hk : Keeps σ s) :
    Ends σ (execSelfTestDone failed s) := by
  unfold execSelfTestDone
  repeat' first
    | (with_reducible first | assumption | apply reach__keeps | apply recountPackage_keeps
                            | apply checkMemory_keeps | apply checkLinks_keeps | apply halt_keeps
                            | apply failUnit_keeps | apply startUnits_keeps | apply avsRequest_keeps
                            | refine foldl_keeps (fun _ _ _ => ?_) ?_ | apply ends_next | apply ends_whenever)
    | (simp only [keeps_mk]; with_reducible apply keepsAt_of) | split | dsimp only | intro _

theorem execImageLoaded_ends {σ : State} (s : State) (hk : Keeps σ s) :
    Ends σ (execImageLoaded s) := by
  unfold execImageLoaded
  repeat' first
    | (with_reducible first | assumption | apply fset_keeps | apply reportOpen_keeps | apply reach__keeps
                            | apply imageEvent_keeps | apply loadFull_keeps | apply putRecord_keeps
                            | apply keepsO_getD | apply ends_next | apply ends_whenever)
    | (simp only [keeps_mk]; with_reducible apply keepsAt_of) | split | dsimp only | intro _

theorem execComputeReady_ends {σ : State} (s : State) (hk : Keeps σ s) :
    Ends σ (execComputeReady s) := by
  unfold execComputeReady
  repeat' first
    | (with_reducible first | assumption | apply fset_keeps | apply reach__keeps | apply readAlmLast_keeps
                            | apply ends_next | apply ends_whenever)
    | (simp only [keeps_mk]; with_reducible apply keepsAt_of) | split | dsimp only | intro _

theorem execPldmFwUpdate_ends {σ : State} (component : Nat) (s : State) (hk : Keeps σ s) :
    Ends σ (execPldmFwUpdate component s) := by
  unfold execPldmFwUpdate
  repeat' first
    | (with_reducible first | assumption | apply fset_keeps | apply mntGrant_fst | apply mntGrant_fst1
                            | apply putRecord_keeps | apply mgmtRespond_keeps | apply putFw_keeps
                            | apply putTogus_keeps | exact keepsO_none | apply keepsO_some | exact keepsOP_none
                            | apply keepsOP_some | apply keepsP_mk | refine keepsO_elim (by assumption) ?_
                            | exact keepsO_get (by assumption) | refine keepsP_elim (by assumption) ?_
                            | exact keepsP_get (by assumption) | refine keepsOP_elim (by assumption) ?_
                            | exact keepsOP_get (by assumption) | refine keepsOP_elim1 (by assumption) ?_
                            | exact keepsOP_get1 (by assumption) | apply ends_next | apply ends_whenever)
    | (simp only [keeps_mk]; with_reducible apply keepsAt_of) | split | dsimp only | intro _

theorem execFwStagingDone_ends {σ : State} (image : List Byte) (s : State) (hk : Keeps σ s) :
    Ends σ (execFwStagingDone image s) := by
  unfold execFwStagingDone
  repeat' first
    | (with_reducible first | assumption | apply fset_keeps | apply warmReset_keeps | apply putRecord_keeps
                            | apply putFw_keeps | apply putTogus_keeps | apply endStaging_keeps | apply ends_next
                            | apply ends_whenever)
    | (simp only [keeps_mk]; with_reducible apply keepsAt_of) | split | dsimp only | intro _

theorem execProgramSlot_ends {σ : State} (slot : Nat) (key : List Byte) (signedOk i3c complete : Bool) (s : State) (hk : Keeps σ s) :
    Ends σ (execProgramSlot slot key signedOk i3c complete s) := by
  unfold execProgramSlot
  repeat' first
    | with_reducible apply ends_next
    | with_reducible apply mgmtRespond_keeps
    | with_reducible apply setOwner_keeps
    | with_reducible apply reportOpen_keeps
    | with_reducible assumption
    | split
    | dsimp only
    | exact keeps_nv hk _ rfl rfl

theorem execRevokeSlot_ends {σ : State} (slot : Nat) (signedOk : Bool) (s : State) (hk : Keeps σ s) :
    Ends σ (execRevokeSlot slot signedOk s) := by
  unfold execRevokeSlot
  repeat' first
    | (with_reducible first | assumption | apply mgmtRespond_keeps | apply setOwner_keeps | apply ends_next
                            | apply ends_whenever)
    | (simp only [keeps_mk]; with_reducible apply keepsAt_of) | split | dsimp only | intro _

theorem execRaiseFwMin_ends {σ : State} (v : Nat) (signedOk : Bool) (s : State) (hk : Keeps σ s) :
    Ends σ (execRaiseFwMin v signedOk s) := by
  unfold execRaiseFwMin
  split
  · next h =>
    simp only [Bool.and_eq_true, decide_eq_true_eq] at h
    refine ends_next (mgmtRespond_keeps _ _ _ _ (fset_keeps _ _ _ ?_))
    exact ⟨hk.1, hk.2.1, hk.2.2.1, Nat.le_trans hk.2.2.2.1 h.2.1, hk.2.2.2.2.1, hk.2.2.2.2.2⟩
  · exact ends_next (mgmtRespond_keeps _ _ _ _ hk)

theorem execRaiseImageMin_ends {σ : State} (v : Nat) (signedOk : Bool) (s : State) (hk : Keeps σ s) :
    Ends σ (execRaiseImageMin v signedOk s) := by
  unfold execRaiseImageMin
  split
  · next h =>
    simp only [Bool.and_eq_true, decide_eq_true_eq] at h
    refine ends_next (mgmtRespond_keeps _ _ _ _ (fset_keeps _ _ _ ?_))
    exact ⟨hk.1, hk.2.1, hk.2.2.1, hk.2.2.2.1, Nat.le_trans hk.2.2.2.2.1 h.2.1, hk.2.2.2.2.2⟩
  · exact ends_next (mgmtRespond_keeps _ _ _ _ hk)

theorem execPackageReset_ends {σ : State} (signedOk : Bool) (s : State) (hk : Keeps σ s) :
    Ends σ (execPackageReset signedOk s) := by
  unfold execPackageReset
  repeat' first
    | (with_reducible first | assumption | apply warmReset_keeps | apply mgmtRespond_keeps | apply ends_next
                            | apply ends_whenever)
    | (simp only [keeps_mk]; with_reducible apply keepsAt_of) | split | dsimp only | intro _

theorem execTwilightEnter_ends {σ : State} (signedOk : Bool) (s : State) (hk : Keeps σ s) :
    Ends σ (execTwilightEnter signedOk s) := by
  unfold execTwilightEnter
  repeat' first
    | (with_reducible first | assumption | apply mgmtRespond_keeps | apply ends_next | apply ends_whenever)
    | (simp only [keeps_mk]; with_reducible apply keepsAt_of) | split | dsimp only | intro _

theorem execMctpControl_ends {σ : State} (cmd eid : Nat) (s : State) (hk : Keeps σ s) :
    Ends σ (execMctpControl cmd eid s) := by
  unfold execMctpControl
  repeat' first
    | (with_reducible first | assumption | apply mgmtRespond_keeps | apply ends_next | apply ends_whenever)
    | (simp only [keeps_mk]; with_reducible apply keepsAt_of) | split | dsimp only | intro _

theorem execSpdmRequest_ends {σ : State} (code : Nat) (s : State) (hk : Keeps σ s) :
    Ends σ (execSpdmRequest code s) := by
  unfold execSpdmRequest
  repeat' first
    | (with_reducible first | assumption | apply mgmtRespond_keeps | apply ends_next | apply ends_whenever)
    | (simp only [keeps_mk]; with_reducible apply keepsAt_of) | split | dsimp only | intro _

theorem execPldmGetSensor_ends {σ : State} (n : Nat) (s : State) (hk : Keeps σ s) :
    Ends σ (execPldmGetSensor n s) := by
  unfold execPldmGetSensor
  repeat' first
    | (with_reducible first | assumption | apply mgmtRespond_keeps | apply ends_next | apply ends_whenever)
    | (simp only [keeps_mk]; with_reducible apply keepsAt_of) | split | dsimp only | intro _

theorem execRackLoad_ends {σ : State} (req : RackReq) (s : State) (hk : Keeps σ s) :
    Ends σ (execRackLoad req s) := by
  unfold execRackLoad
  repeat' first
    | (with_reducible first | assumption | apply atTarget_keeps | apply homeLoad_keeps | apply ends_next
                            | apply ends_whenever)
    | (simp only [keeps_mk]; with_reducible apply keepsAt_of) | split | dsimp only | intro _

theorem execRackStore_ends {σ : State} (req : RackReq) (data : List Byte) (s : State) (hk : Keeps σ s) :
    Ends σ (execRackStore req data s) := by
  unfold execRackStore
  repeat' first
    | (with_reducible first | assumption | apply atTarget_keeps | apply homeStore_keeps | apply ends_next
                            | apply ends_whenever)
    | (simp only [keeps_mk]; with_reducible apply keepsAt_of) | split | dsimp only | intro _

theorem execEpochWrite_ends {σ : State} (req : RackReq) (data : List Byte) (s : State) (hk : Keeps σ s) :
    Ends σ (execEpochWrite req data s) := by
  unfold execEpochWrite
  repeat' first
    | (with_reducible first | assumption | apply atTarget_keeps | apply homeStore_keeps | apply ends_next
                            | apply ends_whenever)
    | (simp only [keeps_mk]; with_reducible apply keepsAt_of) | split | dsimp only | intro _

theorem execEpochRead_ends {σ : State} (req : RackReq) (s : State) (hk : Keeps σ s) :
    Ends σ (execEpochRead req s) := by
  unfold execEpochRead
  repeat' first
    | (with_reducible first | assumption | apply atTarget_keeps | apply homeLoad_keeps | apply ends_next
                            | apply ends_whenever)
    | (simp only [keeps_mk]; with_reducible apply keepsAt_of) | split | dsimp only | intro _

theorem execAdd_ends {σ : State} (req : RackReq) (op : Nat) (operand compare : Word) (s : State) (hk : Keeps σ s) :
    Ends σ (execAdd req op operand compare s) := by
  unfold execAdd
  repeat' first
    | (with_reducible first | assumption | apply rackAtomic_ends | apply ends_next | apply ends_whenever)
    | (simp only [keeps_mk]; with_reducible apply keepsAt_of) | split | dsimp only | intro _

theorem execFadd32_ends {σ : State} (req : RackReq) (op : Nat) (operand compare : Word) (s : State) (hk : Keeps σ s) :
    Ends σ (execFadd32 req op operand compare s) := by
  unfold execFadd32
  repeat' first
    | (with_reducible first | assumption | apply rackAtomic_ends | apply ends_next | apply ends_whenever)
    | (simp only [keeps_mk]; with_reducible apply keepsAt_of) | split | dsimp only | intro _

theorem execFadd64_ends {σ : State} (req : RackReq) (op : Nat) (operand compare : Word) (s : State) (hk : Keeps σ s) :
    Ends σ (execFadd64 req op operand compare s) := by
  unfold execFadd64
  repeat' first
    | (with_reducible first | assumption | apply rackAtomic_ends | apply ends_next | apply ends_whenever)
    | (simp only [keeps_mk]; with_reducible apply keepsAt_of) | split | dsimp only | intro _

theorem execAnd_ends {σ : State} (req : RackReq) (op : Nat) (operand compare : Word) (s : State) (hk : Keeps σ s) :
    Ends σ (execAnd req op operand compare s) := by
  unfold execAnd
  repeat' first
    | (with_reducible first | assumption | apply rackAtomic_ends | apply ends_next | apply ends_whenever)
    | (simp only [keeps_mk]; with_reducible apply keepsAt_of) | split | dsimp only | intro _

theorem execOr_ends {σ : State} (req : RackReq) (op : Nat) (operand compare : Word) (s : State) (hk : Keeps σ s) :
    Ends σ (execOr req op operand compare s) := by
  unfold execOr
  repeat' first
    | (with_reducible first | assumption | apply rackAtomic_ends | apply ends_next | apply ends_whenever)
    | (simp only [keeps_mk]; with_reducible apply keepsAt_of) | split | dsimp only | intro _

theorem execXor_ends {σ : State} (req : RackReq) (op : Nat) (operand compare : Word) (s : State) (hk : Keeps σ s) :
    Ends σ (execXor req op operand compare s) := by
  unfold execXor
  repeat' first
    | (with_reducible first | assumption | apply rackAtomic_ends | apply ends_next | apply ends_whenever)
    | (simp only [keeps_mk]; with_reducible apply keepsAt_of) | split | dsimp only | intro _

theorem execSwapAtomic_ends {σ : State} (req : RackReq) (op : Nat) (operand compare : Word) (s : State) (hk : Keeps σ s) :
    Ends σ (execSwapAtomic req op operand compare s) := by
  unfold execSwapAtomic
  repeat' first
    | (with_reducible first | assumption | apply rackAtomic_ends | apply ends_next | apply ends_whenever)
    | (simp only [keeps_mk]; with_reducible apply keepsAt_of) | split | dsimp only | intro _

theorem execCas_ends {σ : State} (req : RackReq) (op : Nat) (operand compare : Word) (s : State) (hk : Keeps σ s) :
    Ends σ (execCas req op operand compare s) := by
  unfold execCas
  repeat' first
    | (with_reducible first | assumption | apply rackAtomic_ends | apply ends_next | apply ends_whenever)
    | (simp only [keeps_mk]; with_reducible apply keepsAt_of) | split | dsimp only | intro _

theorem execMax_ends {σ : State} (req : RackReq) (op : Nat) (operand compare : Word) (s : State) (hk : Keeps σ s) :
    Ends σ (execMax req op operand compare s) := by
  unfold execMax
  repeat' first
    | (with_reducible first | assumption | apply rackAtomic_ends | apply ends_next | apply ends_whenever)
    | (simp only [keeps_mk]; with_reducible apply keepsAt_of) | split | dsimp only | intro _

theorem execMin_ends {σ : State} (req : RackReq) (op : Nat) (operand compare : Word) (s : State) (hk : Keeps σ s) :
    Ends σ (execMin req op operand compare s) := by
  unfold execMin
  repeat' first
    | (with_reducible first | assumption | apply rackAtomic_ends | apply ends_next | apply ends_whenever)
    | (simp only [keeps_mk]; with_reducible apply keepsAt_of) | split | dsimp only | intro _

theorem execMaxUnsigned_ends {σ : State} (req : RackReq) (op : Nat) (operand compare : Word) (s : State) (hk : Keeps σ s) :
    Ends σ (execMaxUnsigned req op operand compare s) := by
  unfold execMaxUnsigned
  repeat' first
    | (with_reducible first | assumption | apply rackAtomic_ends | apply ends_next | apply ends_whenever)
    | (simp only [keeps_mk]; with_reducible apply keepsAt_of) | split | dsimp only | intro _

theorem execMinUnsigned_ends {σ : State} (req : RackReq) (op : Nat) (operand compare : Word) (s : State) (hk : Keeps σ s) :
    Ends σ (execMinUnsigned req op operand compare s) := by
  unfold execMinUnsigned
  repeat' first
    | (with_reducible first | assumption | apply rackAtomic_ends | apply ends_next | apply ends_whenever)
    | (simp only [keeps_mk]; with_reducible apply keepsAt_of) | split | dsimp only | intro _

theorem execFmax_ends {σ : State} (req : RackReq) (op : Nat) (operand compare : Word) (s : State) (hk : Keeps σ s) :
    Ends σ (execFmax req op operand compare s) := by
  unfold execFmax
  repeat' first
    | (with_reducible first | assumption | apply rackAtomic_ends | apply ends_next | apply ends_whenever)
    | (simp only [keeps_mk]; with_reducible apply keepsAt_of) | split | dsimp only | intro _

theorem execFmin_ends {σ : State} (req : RackReq) (op : Nat) (operand compare : Word) (s : State) (hk : Keeps σ s) :
    Ends σ (execFmin req op operand compare s) := by
  unfold execFmin
  repeat' first
    | (with_reducible first | assumption | apply rackAtomic_ends | apply ends_next | apply ends_whenever)
    | (simp only [keeps_mk]; with_reducible apply keepsAt_of) | split | dsimp only | intro _

theorem execAtomicPortIssue_ends {σ : State} (u : CoreId) (compare : Word) (s : State) (hk : Keeps σ s) :
    Ends σ (execAtomicPortIssue u compare s) := by
  unfold execAtomicPortIssue
  repeat' first
    | (with_reducible first | assumption | apply stepPc_keeps | apply portIssue_opt | exact keepsO_none
                            | apply keepsO_some | exact keepsOP_none | apply keepsOP_some | apply keepsP_mk
                            | refine keepsO_elim (by assumption) ?_ | exact keepsO_get (by assumption)
                            | refine keepsP_elim (by assumption) ?_ | exact keepsP_get (by assumption)
                            | refine keepsOP_elim (by assumption) ?_ | exact keepsOP_get (by assumption)
                            | refine keepsOP_elim1 (by assumption) ?_ | exact keepsOP_get1 (by assumption)
                            | apply ends_next | apply ends_whenever)
    | (simp only [keeps_mk]; with_reducible apply keepsAt_of) | split | dsimp only | intro _

theorem execAtomicPortResult_ends {σ : State} (u : CoreId) (xd : Nat) (s : State) (hk : Keeps σ s) :
    Ends σ (execAtomicPortResult u xd s) := by
  unfold execAtomicPortResult
  repeat' first
    | (with_reducible first | assumption | apply retireInstr_keeps | apply ends_next | apply ends_whenever)
    | (simp only [keeps_mk]; with_reducible apply keepsAt_of) | split | dsimp only | intro _

theorem execRackResponse_ends {σ : State} (id status : Nat) (data : List Byte) (transit : Option Nat) (s : State) (hk : Keeps σ s) :
    Ends σ (execRackResponse id status data transit s) := by
  unfold execRackResponse
  repeat' first
    | (with_reducible first | assumption | apply fincSat_keeps | apply countKey_keeps | apply endReq_keeps
                            | apply cacheEpoch_keeps | apply ends_next | apply ends_whenever)
    | (simp only [keeps_mk]; with_reducible apply keepsAt_of) | split | dsimp only | intro _

theorem execRequestTimerExpiry_ends {σ : State} (id : Nat) (s : State) (hk : Keeps σ s) :
    Ends σ (execRequestTimerExpiry id s) := by
  unfold execRequestTimerExpiry
  repeat' first
    | (with_reducible first | assumption | apply setReq_keeps | apply emit_keeps | exact keepsO_none
                            | apply keepsO_some | exact keepsOP_none | apply keepsOP_some | apply keepsP_mk
                            | refine keepsO_elim (by assumption) ?_ | exact keepsO_get (by assumption)
                            | refine keepsP_elim (by assumption) ?_ | exact keepsP_get (by assumption)
                            | refine keepsOP_elim (by assumption) ?_ | exact keepsOP_get (by assumption)
                            | refine keepsOP_elim1 (by assumption) ?_ | exact keepsOP_get1 (by assumption)
                            | apply ends_next | apply ends_whenever)
    | (simp only [keeps_mk]; with_reducible apply keepsAt_of) | split | dsimp only | intro _

theorem execLivenessQuery_ends {σ : State} (src id m d now : Nat) (s : State) (hk : Keeps σ s) :
    Ends σ (execLivenessQuery src id m d now s) := by
  unfold execLivenessQuery
  repeat' first
    | (with_reducible first | assumption | apply emit_keeps | apply advance_keeps | apply ends_next
                            | apply ends_whenever)
    | (simp only [keeps_mk]; with_reducible apply keepsAt_of) | split | dsimp only | intro _

theorem execRequestTotalTimeout_ends {σ : State} (id : Nat) (s : State) (hk : Keeps σ s) :
    Ends σ (execRequestTotalTimeout id s) := by
  unfold execRequestTotalTimeout
  repeat' first
    | (with_reducible first | assumption | apply countTimeout_keeps | apply endReq_keeps | apply ends_next
                            | apply ends_whenever)
    | (simp only [keeps_mk]; with_reducible apply keepsAt_of) | split | dsimp only | intro _

theorem execRegionEnableWrite_ends {σ : State} (fn : Fn) (d : Nat) (value : Word) (s : State) (hk : Keeps σ s) :
    Ends σ (execRegionEnableWrite fn d value s) := by
  unfold execRegionEnableWrite
  repeat' first
    | (with_reducible first | assumption | apply fset_keeps | apply refuseWrite_keeps | apply ends_next
                            | apply ends_whenever)
    | (simp only [keeps_mk]; with_reducible apply keepsAt_of) | split | dsimp only | intro _

theorem execKeyCommit_ends {σ : State} (fn : Fn) (cancel : Bool) (s : State) (hk : Keeps σ s) :
    Ends σ (execKeyCommit fn cancel s) := by
  unfold execKeyCommit
  repeat' first
    | (with_reducible first | assumption | apply fset_keeps | apply refuseWrite_keeps | apply ends_next
                            | apply ends_whenever)
    | (simp only [keeps_mk]; with_reducible apply keepsAt_of) | split | dsimp only | intro _

theorem execKeyCancel_ends {σ : State} (fn : Fn) (s : State) (hk : Keeps σ s) :
    Ends σ (execKeyCancel fn s) := by
  unfold execKeyCancel
  repeat' first
    | (with_reducible first | assumption | apply fset_keeps | apply refuseWrite_keeps | apply ends_next
                            | apply ends_whenever)
    | (simp only [keeps_mk]; with_reducible apply keepsAt_of) | split | dsimp only | intro _

theorem execRmmTwilightEnter_ends {σ : State} (fn : Fn) (s : State) (hk : Keeps σ s) :
    Ends σ (execRmmTwilightEnter fn s) := by
  unfold execRmmTwilightEnter
  repeat' first
    | (with_reducible first | assumption | apply refuseWrite_keeps | apply ends_next | apply ends_whenever)
    | (simp only [keeps_mk]; with_reducible apply keepsAt_of) | split | dsimp only | intro _

theorem execOktStore_ends {σ : State} (fn : Fn) (value : Word) (s : State) (hk : Keeps σ s) :
    Ends σ (execOktStore fn value s) := by
  unfold execOktStore
  repeat' first
    | (with_reducible first | assumption | apply setReg_keeps | apply setOktOf_keeps | apply refuseWrite_keeps
                            | apply ends_next | apply ends_whenever)
    | (simp only [keeps_mk]; with_reducible apply keepsAt_of) | split | dsimp only | intro _

theorem execLaserLoss_ends {σ : State} (f : Nat) (s : State) (hk : Keeps σ s) :
    Ends σ (execLaserLoss f s) := by
  unfold execLaserLoss
  repeat' first
    | (with_reducible first | assumption | apply reportOpen_keeps | apply portDown_keeps
                            | refine foldl_keeps (fun _ _ _ => ?_) ?_ | apply ends_next | apply ends_whenever)
    | (simp only [keeps_mk]; with_reducible apply keepsAt_of) | split | dsimp only | intro _

theorem execLaserReturn_ends {σ : State} (f : Nat) (s : State) (hk : Keeps σ s) :
    Ends σ (execLaserReturn f s) := by
  unfold execLaserReturn
  repeat' first
    | (with_reducible first | assumption | apply ends_next | apply ends_whenever)
    | (simp only [keeps_mk]; with_reducible apply keepsAt_of) | split | dsimp only | intro _

theorem execWavelengthLoss_ends {σ : State} (port lam : Nat) (s : State) (hk : Keeps σ s) :
    Ends σ (execWavelengthLoss port lam s) := by
  unfold execWavelengthLoss
  repeat' first
    | (with_reducible first | assumption | apply fset_keeps | apply reportOpen_keeps | apply linkDark_keeps
                            | apply startLinkRetrain_keeps | apply ends_next | apply ends_whenever)
    | (simp only [keeps_mk]; with_reducible apply keepsAt_of) | split | dsimp only | intro _

theorem execPortEnableWrite_ends {σ : State} (fn : Fn) (port : Nat) (enable : Bool) (s : State) (hk : Keeps σ s) :
    Ends σ (execPortEnableWrite fn port enable s) := by
  unfold execPortEnableWrite
  repeat' first
    | (with_reducible first | assumption | apply fset_keeps | apply refuseWrite_keeps | apply setPortSt_keeps
                            | apply portDown_keeps | apply ends_next | apply ends_whenever)
    | (simp only [keeps_mk]; with_reducible apply keepsAt_of) | split | dsimp only | intro _

theorem execPollSample_ends {σ : State} (port : Nat) (lit : Bool) (s : State) (hk : Keeps σ s) :
    Ends σ (execPollSample port lit s) := by
  unfold execPollSample
  repeat' first
    | (with_reducible first | assumption | apply fset_keeps | apply setLinkSt_keeps | apply startTrain_keeps
                            | refine foldl_keeps (fun _ _ _ => ?_) ?_ | apply ends_next | apply ends_whenever)
    | (simp only [keeps_mk]; with_reducible apply keepsAt_of) | split | dsimp only | intro _

theorem execPortLightLoss_ends {σ : State} (port : Nat) (s : State) (hk : Keeps σ s) :
    Ends σ (execPortLightLoss port s) := by
  unfold execPortLightLoss
  repeat' first
    | (with_reducible first | assumption | apply fset_keeps | apply linkDown_keeps | apply startLinkRetrain_keeps
                            | refine foldl_keeps (fun _ _ _ => ?_) ?_ | apply ends_next | apply ends_whenever)
    | (simp only [keeps_mk]; with_reducible apply keepsAt_of) | split | dsimp only | intro _

theorem execTrainDone_ends {σ : State} (port lambdas : Nat) (s : State) (hk : Keeps σ s) :
    Ends σ (execTrainDone port lambdas s) := by
  unfold execTrainDone
  repeat' first
    | (with_reducible first | assumption | apply fset_keeps | apply reportOpen_keeps | apply setPortSt_keeps
                            | apply setLinkSt_keeps | apply linkDark_keeps
                            | refine foldl_keeps (fun _ _ _ => ?_) ?_ | apply ends_next | apply ends_whenever)
    | (simp only [keeps_mk]; with_reducible apply keepsAt_of) | split | dsimp only | intro _

theorem execNegotiate_ends {σ : State} (port lam : Nat) (peer : PeerInfo) (s : State) (hk : Keeps σ s) :
    Ends σ (execNegotiate port lam peer s) := by
  unfold execNegotiate
  repeat' first
    | (with_reducible first | assumption | apply fset_keeps | apply setLinkSt_keeps | apply putLink_keeps
                            | apply checkCred_keeps | apply showPeer_keeps
                            | refine foldl_keeps (fun _ _ _ => ?_) ?_ | apply ends_next | apply ends_whenever)
    | (simp only [keeps_mk]; with_reducible apply keepsAt_of) | split | dsimp only | intro _

theorem execAuthDone_ends {σ : State} (port lam : Nat) (pass : Bool) (s : State) (hk : Keeps σ s) :
    Ends σ (execAuthDone port lam pass s) := by
  unfold execAuthDone
  repeat' first
    | (with_reducible first | assumption | apply fset_keeps | apply reportOpen_keeps | apply setPortSt_keeps
                            | apply setLinkSt_keeps | apply putLink_keeps | apply linkDown_keeps | apply ends_next
                            | apply ends_whenever)
    | (simp only [keeps_mk]; with_reducible apply keepsAt_of) | split | dsimp only | intro _

theorem execDataFlit_ends {σ : State} (now port lam : Nat) (flit : Flit) (s : State) (hk : Keeps σ s) :
    Ends σ (execDataFlit now port lam flit s) := by
  unfold execDataFlit
  repeat' first
    | (with_reducible first | assumption | apply fincSat_keeps | apply advance_keeps | apply onLink_keeps
                            | apply malformed_keeps | apply rxHeader_keeps | apply rxAccept_keeps
                            | apply sendAck_keeps | apply ends_next | apply ends_whenever)
    | (simp only [keeps_mk]; with_reducible apply keepsAt_of) | split | dsimp only | intro _

theorem execAckFlit_ends {σ : State} (now port lam : Nat) (flit : Flit) (s : State) (hk : Keeps σ s) :
    Ends σ (execAckFlit now port lam flit s) := by
  unfold execAckFlit
  repeat' first
    | (with_reducible first | assumption | apply advance_keeps | apply onLink_keeps | apply malformed_keeps
                            | apply rxHeader_keeps | apply ends_next | apply ends_whenever)
    | (simp only [keeps_mk]; with_reducible apply keepsAt_of) | split | dsimp only | intro _

theorem execIdleFlit_ends {σ : State} (now port lam : Nat) (flit : Flit) (s : State) (hk : Keeps σ s) :
    Ends σ (execIdleFlit now port lam flit s) := by
  unfold execIdleFlit
  repeat' first
    | (with_reducible first | assumption | apply advance_keeps | apply malformed_keeps | apply rxHeader_keeps
                            | apply ends_next | apply ends_whenever)
    | (simp only [keeps_mk]; with_reducible apply keepsAt_of) | split | dsimp only | intro _

theorem execUncorrectableFlit_ends {σ : State} (port lam : Nat) (s : State) (hk : Keeps σ s) :
    Ends σ (execUncorrectableFlit port lam s) := by
  unfold execUncorrectableFlit
  repeat' first
    | (with_reducible first | assumption | apply finc_keeps | apply ends_next | apply ends_whenever)
    | (simp only [keeps_mk]; with_reducible apply keepsAt_of) | split | dsimp only | intro _

theorem execFlitTransmit_ends {σ : State} (port lam : Nat) (s : State) (hk : Keeps σ s) :
    Ends σ (execFlitTransmit port lam s) := by
  unfold execFlitTransmit
  repeat' first
    | (with_reducible first | assumption | apply putLink_keeps | apply sendFlit_keeps | apply sendData_keeps
                            | apply ends_next | apply ends_whenever)
    | (simp only [keeps_mk]; with_reducible apply keepsAt_of) | split | dsimp only | intro _

theorem execAckDue_ends {σ : State} (port lam : Nat) (s : State) (hk : Keeps σ s) :
    Ends σ (execAckDue port lam s) := by
  unfold execAckDue
  repeat' first
    | (with_reducible first | assumption | apply sendAck_keeps | apply ends_next | apply ends_whenever)
    | (simp only [keeps_mk]; with_reducible apply keepsAt_of) | split | dsimp only | intro _

theorem execReplayTimer_ends {σ : State} (now port lam : Nat) (s : State) (hk : Keeps σ s) :
    Ends σ (execReplayTimer now port lam s) := by
  unfold execReplayTimer
  repeat' first
    | (with_reducible first | assumption | apply advance_keeps | apply replay_keeps | apply ends_next
                            | apply ends_whenever)
    | (simp only [keeps_mk]; with_reducible apply keepsAt_of) | split | dsimp only | intro _

theorem execLinkRetrainDone_ends {σ : State} (now port lam : Nat) (s : State) (hk : Keeps σ s) :
    Ends σ (execLinkRetrainDone now port lam s) := by
  unfold execLinkRetrainDone
  repeat' first
    | (with_reducible first | assumption | apply advance_keeps | apply setPortSt_keeps | apply setLinkSt_keeps
                            | apply putLink_keeps | apply checkCred_keeps | apply linkDark_keeps
                            | apply startLinkRetrain_keeps | apply ends_next | apply ends_whenever)
    | (simp only [keeps_mk]; with_reducible apply keepsAt_of) | split | dsimp only | intro _

theorem execLinkRetrainFail_ends {σ : State} (now port lam : Nat) (s : State) (hk : Keeps σ s) :
    Ends σ (execLinkRetrainFail now port lam s) := by
  unfold execLinkRetrainFail
  repeat' first
    | (with_reducible first | assumption | apply finc_keeps | apply advance_keeps | apply putLink_keeps
                            | apply linkDark_keeps | apply ends_next | apply ends_whenever)
    | (simp only [keeps_mk]; with_reducible apply keepsAt_of) | split | dsimp only | intro _

theorem execPortRetrain_ends {σ : State} (fn : Fn) (port : Nat) (s : State) (hk : Keeps σ s) :
    Ends σ (execPortRetrain fn port s) := by
  unfold execPortRetrain
  repeat' first
    | (with_reducible first | assumption | apply refuseWrite_keeps | apply retrainLink_keeps
                            | refine foldl_keeps (fun _ _ _ => ?_) ?_ | apply ends_next | apply ends_whenever)
    | (simp only [keeps_mk]; with_reducible apply keepsAt_of) | split | dsimp only | intro _

theorem execPortRelease_ends {σ : State} (fn : Fn) (port : Nat) (s : State) (hk : Keeps σ s) :
    Ends σ (execPortRelease fn port s) := by
  unfold execPortRelease
  repeat' first
    | (with_reducible first | assumption | apply fset_keeps | apply refuseWrite_keeps | apply startTrain_keeps
                            | apply ends_next | apply ends_whenever)
    | (simp only [keeps_mk]; with_reducible apply keepsAt_of) | split | dsimp only | intro _

theorem execPortQuarantine_ends {σ : State} (fn : Fn) (port : Nat) (s : State) (hk : Keeps σ s) :
    Ends σ (execPortQuarantine fn port s) := by
  unfold execPortQuarantine
  repeat' first
    | (with_reducible first | assumption | apply refuseWrite_keeps | apply quarantine_keeps | apply ends_next
                            | apply ends_whenever)
    | (simp only [keeps_mk]; with_reducible apply keepsAt_of) | split | dsimp only | intro _

theorem execKeyUpdate_ends {σ : State} (port lam : Nat) (s : State) (hk : Keeps σ s) :
    Ends σ (execKeyUpdate port lam s) := by
  unfold execKeyUpdate
  repeat' first
    | (with_reducible first | assumption | apply putLink_keeps | apply ends_next | apply ends_whenever)
    | (simp only [keeps_mk]; with_reducible apply keepsAt_of) | split | dsimp only | intro _

theorem execRouteStore_ends {σ : State} (fn : Fn) (value : Word) (s : State) (hk : Keeps σ s) :
    Ends σ (execRouteStore fn value s) := by
  unfold execRouteStore
  repeat' first
    | (with_reducible first | assumption | apply setReg_keeps | apply setRoute_keeps | apply refuseWrite_keeps
                            | apply ends_next | apply ends_whenever)
    | (simp only [keeps_mk]; with_reducible apply keepsAt_of) | split | dsimp only | intro _

theorem execRouteCommit_ends {σ : State} (fn : Fn) (cancel : Bool) (s : State) (hk : Keeps σ s) :
    Ends σ (execRouteCommit fn cancel s) := by
  unfold execRouteCommit
  repeat' first
    | (with_reducible first | assumption | apply fset_keeps | apply refuseWrite_keeps | apply ends_next
                            | apply ends_whenever)
    | (simp only [keeps_mk]; with_reducible apply keepsAt_of) | split | dsimp only | intro _

theorem execRouteCancel_ends {σ : State} (fn : Fn) (s : State) (hk : Keeps σ s) :
    Ends σ (execRouteCancel fn s) := by
  unfold execRouteCancel
  repeat' first
    | (with_reducible first | assumption | apply fset_keeps | apply refuseWrite_keeps | apply ends_next
                            | apply ends_whenever)
    | (simp only [keeps_mk]; with_reducible apply keepsAt_of) | split | dsimp only | intro _

theorem execLdnCommit_ends {σ : State} (fn : Fn) (ldnNext : Nat) (cancel : Bool) (s : State) (hk : Keeps σ s) :
    Ends σ (execLdnCommit fn ldnNext cancel s) := by
  unfold execLdnCommit
  repeat' first
    | (with_reducible first | assumption | apply fset_keeps | apply refuseWrite_keeps | apply ends_next
                            | apply ends_whenever)
    | (simp only [keeps_mk]; with_reducible apply keepsAt_of) | split | dsimp only | intro _

theorem execLdnCancel_ends {σ : State} (fn : Fn) (s : State) (hk : Keeps σ s) :
    Ends σ (execLdnCancel fn s) := by
  unfold execLdnCancel
  repeat' first
    | (with_reducible first | assumption | apply fset_keeps | apply refuseWrite_keeps | apply ends_next
                            | apply ends_whenever)
    | (simp only [keeps_mk]; with_reducible apply keepsAt_of) | split | dsimp only | intro _

theorem execPutGetMessage_ends {σ : State} (m : Msg) (s : State) (hk : Keeps σ s) :
    Ends σ (execPutGetMessage m s) := by
  unfold execPutGetMessage
  repeat' first
    | (with_reducible first | assumption | apply emit_keeps | apply policeFlit_keeps | apply ends_next
                            | apply ends_whenever)
    | (simp only [keeps_mk]; with_reducible apply keepsAt_of) | split | dsimp only | intro _

theorem execPost_ends {σ : State} (cluster i : Nat) (entry : List Byte) (s : State) (hk : Keeps σ s) :
    Ends σ (execPost cluster i entry s) := by
  unfold execPost
  repeat' first
    | (with_reducible first | assumption | apply postWrite_keeps | apply ends_next | apply ends_whenever)
    | (simp only [keeps_mk]; with_reducible apply keepsAt_of) | split | dsimp only | intro _

theorem execColData_ends {σ : State} (now src : Nat) (h : ColHdr) (payload : List Byte) (s : State) (hk : Keeps σ s) :
    Ends σ (execColData now src h payload s) := by
  unfold execColData
  split
  · exact ends_next hk
  · have a := advance_keeps s now hk
    dsimp only
    have key : ∀ (m : RxMsg) (x : Option RxMsg) (m0 : RxMsg), Keeps σ (match x with
        | some x => { s.advance now with rx := (s.advance now).rx.map (fun y => if y = x then m else y) }
        | none => { s.advance now with rx := (s.advance now).rx ++ [m], tombs := if m0.fate = 4 then
            (s.advance now).tombs.filter (fun t => !(t.cst == h.cst && t.epoch == h.epoch && t.seq == h.seq)) else (s.advance now).tombs }) := by
      intro m x m0
      split
      · exact a
      · split
        · exact keeps_tombs a _ (fun i => Nat.le_trans (List.length_filter_le _ _) i)
        · exact a
    split
    · exact ends_next (rxDone_keeps _ _ _ (key _ _ _))
    · exact ends_next (key _ _ _)

theorem execAbort_ends {σ : State} (reason : Nat) (pairs : List (Nat × Nat)) (s : State) (hk : Keeps σ s) :
    Ends σ (execAbort reason pairs s) := by
  unfold execAbort
  repeat' first
    | (with_reducible first | assumption | apply abortPairs_keeps | apply ends_next | apply ends_whenever)
    | (simp only [keeps_mk]; with_reducible apply keepsAt_of) | split | dsimp only | intro _

theorem execCrossTimeout_ends {σ : State} (cluster i : Nat) (s : State) (hk : Keeps σ s) :
    Ends σ (execCrossTimeout cluster i s) := by
  unfold execCrossTimeout
  repeat' first
    | (with_reducible first | assumption | apply fincSat_keeps | apply reportOpen_keeps | apply sendAbort_keeps
                            | apply abortPairs_keeps | apply ends_next | apply ends_whenever)
    | (simp only [keeps_mk]; with_reducible apply keepsAt_of) | split | dsimp only | intro _

theorem execLost_ends {σ : State} (ldn t : Nat) (s : State) (hk : Keeps σ s) :
    Ends σ (execLost ldn t s) := by
  unfold execLost
  repeat' first
    | (with_reducible first | assumption | apply takeLost_keeps | apply ends_next | apply ends_whenever)
    | (simp only [keeps_mk]; with_reducible apply keepsAt_of) | split | dsimp only | intro _

theorem execColDarkDeclare_ends {σ : State} (fn : Fn) (ldn : Nat) (s : State) (hk : Keeps σ s) :
    Ends σ (execColDarkDeclare fn ldn s) := by
  unfold execColDarkDeclare
  repeat' first
    | (with_reducible first | assumption | apply fset_keeps | apply refuseWrite_keeps | apply declareDark_keeps
                            | apply ends_next | apply ends_whenever)
    | (simp only [keeps_mk]; with_reducible apply keepsAt_of) | split | dsimp only | intro _

theorem execLivenessNoAnswer_ends {σ : State} (id : Nat) (s : State) (hk : Keeps σ s) :
    Ends σ (execLivenessNoAnswer id s) := by
  unfold execLivenessNoAnswer
  repeat' first
    | (with_reducible first | assumption | apply endDead_keeps | apply declareDark_keeps | apply ends_next
                            | apply ends_whenever)
    | (simp only [keeps_mk]; with_reducible apply keepsAt_of) | split | dsimp only | intro _

theorem execLivenessAnswer_ends {σ : State} (id : Nat) (alive : Bool) (s : State) (hk : Keeps σ s) :
    Ends σ (execLivenessAnswer id alive s) := by
  unfold execLivenessAnswer
  repeat' first
    | (with_reducible first | assumption | apply setReq_keeps | apply endDead_keeps | apply declareDark_keeps
                            | exact keepsO_none | apply keepsO_some | exact keepsOP_none | apply keepsOP_some
                            | apply keepsP_mk | refine keepsO_elim (by assumption) ?_
                            | exact keepsO_get (by assumption) | refine keepsP_elim (by assumption) ?_
                            | exact keepsP_get (by assumption) | refine keepsOP_elim (by assumption) ?_
                            | exact keepsOP_get (by assumption) | refine keepsOP_elim1 (by assumption) ?_
                            | exact keepsOP_get1 (by assumption) | apply ends_next | apply ends_whenever)
    | (simp only [keeps_mk]; with_reducible apply keepsAt_of) | split | dsimp only | intro _

theorem execColCommit_ends {σ : State} (fn : Fn) (cancel : Bool) (s : State) (hk : Keeps σ s) :
    Ends σ (execColCommit fn cancel s) := by
  unfold execColCommit
  repeat' first
    | (with_reducible first | assumption | apply fset_keeps | apply refuseWrite_keeps | apply ends_next
                            | apply ends_whenever)
    | (simp only [keeps_mk]; with_reducible apply keepsAt_of) | split | dsimp only | intro _

theorem execColCancel_ends {σ : State} (fn : Fn) (s : State) (hk : Keeps σ s) :
    Ends σ (execColCancel fn s) := by
  unfold execColCancel
  repeat' first
    | (with_reducible first | assumption | apply fset_keeps | apply refuseWrite_keeps | apply ends_next
                            | apply ends_whenever)
    | (simp only [keeps_mk]; with_reducible apply keepsAt_of) | split | dsimp only | intro _

theorem execDelivered_ends {σ : State} (cst epoch seq msg src : Nat) (s : State) (hk : Keeps σ s) :
    Ends σ (execDelivered cst epoch seq msg src s) := by
  unfold execDelivered
  repeat' first
    | (with_reducible first | assumption | apply setReq_keeps | apply endWinWait_keeps
                            | refine foldl_keeps (fun _ _ _ => ?_) ?_ | apply ends_next | apply ends_whenever)
    | (simp only [keeps_mk]; with_reducible apply keepsAt_of) | split | dsimp only | intro _

theorem execParkFull_ends {σ : State} (cst epoch seq msg src : Nat) (s : State) (hk : Keeps σ s) :
    Ends σ (execParkFull cst epoch seq msg src s) := by
  unfold execParkFull
  repeat' first
    | (with_reducible first | assumption | apply setReq_keeps | apply ends_next | apply ends_whenever)
    | (simp only [keeps_mk]; with_reducible apply keepsAt_of) | split | dsimp only | intro _

theorem execParkFree_ends {σ : State} (cluster src : Nat) (s : State) (hk : Keeps σ s) :
    Ends σ (execParkFree cluster src s) := by
  unfold execParkFree
  repeat' first
    | (with_reducible first | assumption | apply resendOut_keeps | refine foldl_keeps (fun _ _ _ => ?_) ?_
                            | apply ends_next | apply ends_whenever)
    | (simp only [keeps_mk]; with_reducible apply keepsAt_of) | split | dsimp only | intro _

theorem execParkRetryTimer_ends {σ : State} (cluster k : Nat) (s : State) (hk : Keeps σ s) :
    Ends σ (execParkRetryTimer cluster k s) := by
  unfold execParkRetryTimer
  repeat' first
    | (with_reducible first | assumption | apply resendOut_keeps | apply ends_next | apply ends_whenever)
    | (simp only [keeps_mk]; with_reducible apply keepsAt_of) | split | dsimp only | intro _

theorem execResend_ends {σ : State} (cst epoch seq msg src : Nat) (s : State) (hk : Keeps σ s) :
    Ends σ (execResend cst epoch seq msg src s) := by
  unfold execResend
  repeat' first
    | (with_reducible first | assumption | apply setReq_keeps | apply endWinWait_keeps | apply resendOut_keeps
                            | refine foldl_keeps (fun _ _ _ => ?_) ?_ | apply ends_next | apply ends_whenever)
    | (simp only [keeps_mk]; with_reducible apply keepsAt_of) | split | dsimp only | intro _

theorem execSendSlotArm_ends {σ : State} (cluster i : Nat) (slot : List Byte) (s : State) (hk : Keeps σ s) :
    Ends σ (execSendSlotArm cluster i slot s) := by
  unfold execSendSlotArm
  repeat' first
    | (with_reducible first | assumption | apply slotWrite_keeps | apply ends_next | apply ends_whenever)
    | (simp only [keeps_mk]; with_reducible apply keepsAt_of) | split | dsimp only | intro _

theorem execSendWindowWrite_ends {σ : State} (cluster i off : Nat) (data : List Byte) (s : State) (hk : Keeps σ s) :
    Ends σ (execSendWindowWrite cluster i off data s) := by
  unfold execSendWindowWrite
  repeat' first
    | (with_reducible first | assumption | apply emit_keeps | apply windowWrite_fst | apply windowWrite_fst1
                            | exact keepsO_none | apply keepsO_some | exact keepsOP_none | apply keepsOP_some
                            | apply keepsP_mk | refine keepsO_elim (by assumption) ?_
                            | exact keepsO_get (by assumption) | refine keepsP_elim (by assumption) ?_
                            | exact keepsP_get (by assumption) | refine keepsOP_elim (by assumption) ?_
                            | exact keepsOP_get (by assumption) | refine keepsOP_elim1 (by assumption) ?_
                            | exact keepsOP_get1 (by assumption) | apply ends_next | apply ends_whenever)
    | (simp only [keeps_mk]; with_reducible apply keepsAt_of) | split | dsimp only | intro _

theorem execVectorArith_ends {σ : State} (u : CoreId) (op : AluOp) (word : BitVec 32) (s : State) (hk : Keeps σ s) :
    Ends σ (execVectorArith u op word s) := by
  unfold execVectorArith
  repeat' first
    | (with_reducible first | assumption | apply illegal_keeps | apply instr_ends | apply writeElems_keeps
                            | apply ends_next | apply ends_whenever)
    | (simp only [keeps_mk]; with_reducible apply keepsAt_of) | split | dsimp only | intro _

theorem execWideningMultiply_ends {σ : State} (u : CoreId) (word : BitVec 32) (s : State) (hk : Keeps σ s) :
    Ends σ (execWideningMultiply u word s) := by
  unfold execWideningMultiply
  repeat' first
    | (with_reducible first | assumption | apply illegal_keeps | apply instr_ends | apply writeElems_keeps
                            | apply ends_next | apply ends_whenever)
    | (simp only [keeps_mk]; with_reducible apply keepsAt_of) | split | dsimp only | intro _

theorem execDotProduct_ends {σ : State} (u : CoreId) (word : BitVec 32) (s : State) (hk : Keeps σ s) :
    Ends σ (execDotProduct u word s) := by
  unfold execDotProduct
  repeat' first
    | (with_reducible first | assumption | apply illegal_keeps | apply instr_ends | apply writeElems_keeps
                            | apply ends_next | apply ends_whenever)
    | (simp only [keeps_mk]; with_reducible apply keepsAt_of) | split | dsimp only | intro _

theorem execXclr_ends {σ : State} (u : CoreId) (s : State) (hk : Keeps σ s) :
    Ends σ (execXclr u s) := by
  unfold execXclr
  repeat' first
    | (with_reducible first | assumption | apply instr_ends | apply retireInstr_keeps | apply ends_next
                            | apply ends_whenever)
    | (simp only [keeps_mk]; with_reducible apply keepsAt_of) | split | dsimp only | intro _

theorem execXdot_ends {σ : State} (u : CoreId) (fs1 fs2 : Nat) (s : State) (hk : Keeps σ s) :
    Ends σ (execXdot u fs1 fs2 s) := by
  unfold execXdot
  repeat' first
    | (with_reducible first | assumption | apply instr_ends | apply xaccAdd_keeps | apply ends_next
                            | apply ends_whenever)
    | (simp only [keeps_mk]; with_reducible apply keepsAt_of) | split | dsimp only | intro _

theorem execXadd_ends {σ : State} (u : CoreId) (fs1 : Nat) (s : State) (hk : Keeps σ s) :
    Ends σ (execXadd u fs1 s) := by
  unfold execXadd
  repeat' first
    | (with_reducible first | assumption | apply instr_ends | apply xaccAdd_keeps | apply ends_next
                            | apply ends_whenever)
    | (simp only [keeps_mk]; with_reducible apply keepsAt_of) | split | dsimp only | intro _

theorem execXrnd_ends {σ : State} (u : CoreId) (fd func : Nat) (s : State) (hk : Keeps σ s) :
    Ends σ (execXrnd u fd func s) := by
  unfold execXrnd
  repeat' first
    | (with_reducible first | assumption | apply illegal_keeps | apply instr_ends | apply retireInstr_keeps
                            | apply ends_next | apply ends_whenever)
    | (simp only [keeps_mk]; with_reducible apply keepsAt_of) | split | dsimp only | intro _

theorem execScalarFpOp_ends {σ : State} (u : CoreId) (op : AluOp) (fmt fd fs1 fs2 : Nat) (s : State) (hk : Keeps σ s) :
    Ends σ (execScalarFpOp u op fmt fd fs1 fs2 s) := by
  unfold execScalarFpOp
  repeat' first
    | (with_reducible first | assumption | apply illegal_keeps | apply instr_ends | apply retireInstr_keeps
                            | apply ends_next | apply ends_whenever)
    | (simp only [keeps_mk]; with_reducible apply keepsAt_of) | split | dsimp only | intro _

theorem execIntegerOp_ends {σ : State} (u : CoreId) (op : IntOp) (xd xs1 xs2 : Nat) (imm : Word) (s : State) (hk : Keeps σ s) :
    Ends σ (execIntegerOp u op xd xs1 xs2 imm s) := by
  unfold execIntegerOp
  repeat' first
    | (with_reducible first | assumption | apply onJumbe_keeps | apply setPc_keeps | apply stepPc_keeps
                            | apply instr_ends | apply retireInstr_keeps | apply ends_next | apply ends_whenever)
    | (simp only [keeps_mk]; with_reducible apply keepsAt_of) | split | dsimp only | intro _

theorem execFpsrWrite_ends {σ : State} (u : CoreId) (value : Word) (s : State) (hk : Keeps σ s) :
    Ends σ (execFpsrWrite u value s) := by
  unfold execFpsrWrite
  repeat' first
    | (with_reducible first | assumption | apply instr_ends | apply retireInstr_keeps | apply ends_next
                            | apply ends_whenever)
    | (simp only [keeps_mk]; with_reducible apply keepsAt_of) | split | dsimp only | intro _

theorem execTrapElemWrite_ends {σ : State} (u : CoreId) (value : Nat) (s : State) (hk : Keeps σ s) :
    Ends σ (execTrapElemWrite u value s) := by
  unfold execTrapElemWrite
  repeat' first
    | (with_reducible first | assumption | apply instr_ends | apply retireInstr_keeps | apply ends_next
                            | apply ends_whenever)
    | (simp only [keeps_mk]; with_reducible apply keepsAt_of) | split | dsimp only | intro _

theorem execExceptionTake_ends {σ : State} (u : CoreId) (s : State) (hk : Keeps σ s) :
    Ends σ (execExceptionTake u s) := by
  unfold execExceptionTake
  repeat' first
    | (with_reducible first | assumption | apply onJumbe_keeps | apply takeException_keeps | apply ends_next
                            | apply ends_whenever)
    | (simp only [keeps_mk]; with_reducible apply keepsAt_of) | split | dsimp only | intro _

theorem execVectorLoad_ends {σ : State} (u : CoreId) (word : BitVec 32) (s : State) (hk : Keeps σ s) :
    Ends σ (execVectorLoad u word s) := by
  unfold execVectorLoad
  repeat' first
    | (with_reducible first | assumption | apply illegal_keeps | apply instr_ends | apply issueLoad_keeps
                            | apply ends_next | apply ends_whenever)
    | (simp only [keeps_mk]; with_reducible apply keepsAt_of) | split | dsimp only | intro _

theorem execVlff_ends {σ : State} (u : CoreId) (word : BitVec 32) (s : State) (hk : Keeps σ s) :
    Ends σ (execVlff u word s) := by
  unfold execVlff
  repeat' first
    | (with_reducible first | assumption | apply illegal_keeps | apply instr_ends | apply issueLoad_keeps
                            | apply ends_next | apply ends_whenever)
    | (simp only [keeps_mk]; with_reducible apply keepsAt_of) | split | dsimp only | intro _

theorem execXload_ends {σ : State} (u : CoreId) (fs1 : Nat) (s : State) (hk : Keeps σ s) :
    Ends σ (execXload u fs1 s) := by
  unfold execXload
  repeat' first
    | (with_reducible first | assumption | apply instr_ends | apply memFault_keeps | apply issueLoad_keeps
                            | apply ends_next | apply ends_whenever)
    | (simp only [keeps_mk]; with_reducible apply keepsAt_of) | split | dsimp only | intro _

theorem execScalarLoad_ends {σ : State} (u : CoreId) (xd xs1 : Nat) (imm : Word) (size : Nat) (signed : Bool) (s : State) (hk : Keeps σ s) :
    Ends σ (execScalarLoad u xd xs1 imm size signed s) := by
  unfold execScalarLoad
  repeat' first
    | (with_reducible first | assumption | apply illegal_keeps | apply instr_ends | apply issueLoad_keeps
                            | apply ends_next | apply ends_whenever)
    | (simp only [keeps_mk]; with_reducible apply keepsAt_of) | split | dsimp only | intro _

theorem execLoadDataReturn_ends {σ : State} (u : CoreId) (k : Nat) (s : State) (hk : Keeps σ s) :
    Ends σ (execLoadDataReturn u k s) := by
  unfold execLoadDataReturn
  repeat' first
    | (with_reducible first | assumption | apply onJumbe_keeps | apply landLoad_keeps | apply ends_next
                            | apply ends_whenever)
    | (simp only [keeps_mk]; with_reducible apply keepsAt_of) | split | dsimp only | intro _

theorem execVectorStore_ends {σ : State} (u : CoreId) (word : BitVec 32) (s : State) (hk : Keeps σ s) :
    Ends σ (execVectorStore u word s) := by
  unfold execVectorStore
  repeat' first
    | (with_reducible first | assumption | apply drawn_keeps | apply illegal_keeps | apply instr_ends
                            | apply retireInstr_keeps | apply writeElem_wr | apply elemFault_keeps
                            | apply keepsW_done | exact keepsW_get (by assumption)
                            | refine keepsW_elim (by assumption) ?_ | refine foldl_keepsW (fun _ _ _ => ?_) ?_
                            | apply ends_next | apply ends_whenever)
    | (simp only [keeps_mk]; with_reducible apply keepsAt_of) | split | dsimp only | intro _

theorem execXsave_ends {σ : State} (u : CoreId) (fs1 : Nat) (s : State) (hk : Keeps σ s) :
    Ends σ (execXsave u fs1 s) := by
  unfold execXsave
  repeat' first
    | (with_reducible first | assumption | apply drawn_keeps | apply stepPc_keeps | apply instr_ends
                            | apply writeElem_wr | apply memFault_keeps | apply keepsW_done
                            | exact keepsW_get (by assumption) | refine keepsW_elim (by assumption) ?_
                            | refine foldl_keepsW (fun _ _ _ => ?_) ?_ | apply ends_next | apply ends_whenever)
    | (simp only [keeps_mk]; with_reducible apply keepsAt_of) | split | dsimp only | intro _

theorem execScalarStore_ends {σ : State} (u : CoreId) (xs1 xs2 : Nat) (imm : Word) (size : Nat) (s : State) (hk : Keeps σ s) :
    Ends σ (execScalarStore u xs1 xs2 imm size s) := by
  unfold execScalarStore
  repeat' first
    | (with_reducible first | assumption | apply drawn_keeps | apply stepPc_keeps | apply illegal_keeps
                            | apply instr_ends | apply writeElem_wr | apply memFault_keeps | apply keepsW_done
                            | exact keepsW_get (by assumption) | refine keepsW_elim (by assumption) ?_
                            | refine foldl_keepsW (fun _ _ _ => ?_) ?_ | apply ends_next | apply ends_whenever)
    | (simp only [keeps_mk]; with_reducible apply keepsAt_of) | split | dsimp only | intro _

theorem execJumbeFence_ends {σ : State} (u : CoreId) (s : State) (hk : Keeps σ s) :
    Ends σ (execJumbeFence u s) := by
  unfold execJumbeFence
  repeat' first
    | (with_reducible first | assumption | apply drainLines_keeps | apply pend_keeps | apply retireInstr_keeps
                            | apply keepsO_getD | refine foldl_keeps (fun _ _ _ => ?_) ?_ | apply ends_next
                            | apply ends_whenever)
    | (simp only [keeps_mk]; with_reducible apply keepsAt_of) | split | dsimp only | intro _

theorem execMove_ends {σ : State} (w : Mover) (s : State) (hk : Keeps σ s) :
    Ends σ (execMove w s) := by
  unfold execMove
  repeat' first
    | (with_reducible first | assumption | apply startXfer_ends | apply ends_next | apply ends_whenever)
    | (simp only [keeps_mk]; with_reducible apply keepsAt_of) | split | dsimp only | intro _

theorem execGather_ends {σ : State} (w : Mover) (s : State) (hk : Keeps σ s) :
    Ends σ (execGather w s) := by
  unfold execGather
  repeat' first
    | (with_reducible first | assumption | apply startXfer_ends | apply ends_next | apply ends_whenever)
    | (simp only [keeps_mk]; with_reducible apply keepsAt_of) | split | dsimp only | intro _

theorem execScatter_ends {σ : State} (w : Mover) (s : State) (hk : Keeps σ s) :
    Ends σ (execScatter w s) := by
  unfold execScatter
  repeat' first
    | (with_reducible first | assumption | apply startXfer_ends | apply ends_next | apply ends_whenever)
    | (simp only [keeps_mk]; with_reducible apply keepsAt_of) | split | dsimp only | intro _

theorem execFeElementResponse_ends {σ : State} (w : Mover) (e : Nat) (r : ElemResp) (s : State) (hk : Keeps σ s) :
    Ends σ (execFeElementResponse w e r s) := by
  unfold execFeElementResponse
  repeat' first
    | (with_reducible first | assumption | apply onElem_keeps | apply pumpXfer_keeps | apply answerPart_keeps
                            | apply ends_next | apply ends_whenever)
    | (simp only [keeps_mk]; with_reducible apply keepsAt_of) | split | dsimp only | intro _

theorem execFeComplete_ends {σ : State} (w : Mover) (s : State) (hk : Keeps σ s) :
    Ends σ (execFeComplete w s) := by
  unfold execFeComplete
  repeat' first
    | (with_reducible first | assumption | apply onOp_keeps | apply endOp_keeps | apply popQueue_keeps
                            | apply feRecord_keeps | apply feHalt_keeps | apply setXfer_keeps
                            | apply countDone_keeps | apply opFault_keeps | apply ends_next | apply ends_whenever)
    | (simp only [keeps_mk]; with_reducible apply keepsAt_of) | split | dsimp only | intro _

theorem execDescriptorFetch_ends {σ : State} (r : Nat) (host : List Byte) (s0 : State) (hk : Keeps σ s0) :
    Ends σ (execDescriptorFetch r host s0) := by
  unfold execDescriptorFetch
  repeat' first
    | (with_reducible first | assumption | apply fset_keeps | apply emit_keeps | apply touchPa_keeps
                            | apply ringError_keeps | apply acceptDesc_keeps | apply ends_next
                            | apply ends_whenever)
    | (simp only [keeps_mk]; with_reducible apply keepsAt_of) | split | dsimp only | intro _

theorem execSqDoorbell_ends {σ : State} (v r tail : Nat) (s : State) (hk : Keeps σ s) :
    Ends σ (execSqDoorbell v r tail s) := by
  unfold execSqDoorbell
  repeat' first
    | (with_reducible first | assumption | apply fset_keeps | apply ringError_keeps | apply ends_next
                            | apply ends_whenever)
    | (simp only [keeps_mk]; with_reducible apply keepsAt_of) | split | dsimp only | intro _

theorem execCqHeadWrite_ends {σ : State} (v r head : Nat) (s : State) (hk : Keeps σ s) :
    Ends σ (execCqHeadWrite v r head s) := by
  unfold execCqHeadWrite
  repeat' first
    | (with_reducible first | assumption | apply fset_keeps | apply ringError_keeps | apply ends_next
                            | apply ends_whenever)
    | (simp only [keeps_mk]; with_reducible apply keepsAt_of) | split | dsimp only | intro _

theorem execNop_ends {σ : State} (slot : Nat) (s : State) (hk : Keeps σ s) :
    Ends σ (execNop slot s) := by
  unfold execNop
  repeat' first
    | (with_reducible first | assumption | apply endOp_keeps | apply beginOp_keeps | apply ends_next
                            | apply ends_whenever)
    | (simp only [keeps_mk]; with_reducible apply keepsAt_of) | split | dsimp only | intro _

theorem execCollective_ends {σ : State} (slot status : Nat) (progress witness : Word) (s : State) (hk : Keeps σ s) :
    Ends σ (execCollective slot status progress witness s) := by
  unfold execCollective
  repeat' first
    | (with_reducible first | assumption | apply onOp_keeps | apply endOp_keeps | apply beginOp_keeps
                            | apply ends_next | apply ends_whenever)
    | (simp only [keeps_mk]; with_reducible apply keepsAt_of) | split | dsimp only | intro _

theorem execAtomic_ends {σ : State} (slot : Nat) (s : State) (hk : Keeps σ s) :
    Ends σ (execAtomic slot s) := by
  unfold execAtomic
  repeat' first
    | (with_reducible first | assumption | apply drawn_keeps | apply beginOp_keeps | apply endValue_keeps
                            | apply issueAtomic_fst | apply issueAtomic_fst1 | exact keepsO_none
                            | apply keepsO_some | exact keepsOP_none | apply keepsOP_some | apply keepsP_mk
                            | refine keepsO_elim (by assumption) ?_ | exact keepsO_get (by assumption)
                            | refine keepsP_elim (by assumption) ?_ | exact keepsP_get (by assumption)
                            | refine keepsOP_elim (by assumption) ?_ | exact keepsOP_get (by assumption)
                            | refine keepsOP_elim1 (by assumption) ?_ | exact keepsOP_get1 (by assumption)
                            | apply ends_next | apply ends_whenever)
    | (simp only [keeps_mk]; with_reducible apply keepsAt_of) | split | dsimp only | intro _

theorem execBeacon_ends {σ : State} (slot : Nat) (s : State) (hk : Keeps σ s) :
    Ends σ (execBeacon slot s) := by
  unfold execBeacon
  repeat' first
    | (with_reducible first | assumption | apply beginOp_keeps | apply refuseBeacon_keeps | apply bcnRead_keeps
                            | apply bcnAdd_keeps | apply bcnSet_keeps | apply bcnCas_keeps | apply bcnWait_keeps
                            | apply bcnArm_keeps | apply bcnAcquire_keeps | apply bcnRelease_keeps
                            | apply bcnReprio_keeps | apply ends_next | apply ends_whenever)
    | (simp only [keeps_mk]; with_reducible apply keepsAt_of) | split | dsimp only | intro _

theorem execProbe_ends {σ : State} (slot : Nat) (s : State) (hk : Keeps σ s) :
    Ends σ (execProbe slot s) := by
  unfold execProbe
  repeat' first
    | (with_reducible first | assumption | apply onOp_keeps | apply endOp_keeps | apply beginOp_keeps
                            | apply ends_next | apply ends_whenever)
    | (simp only [keeps_mk]; with_reducible apply keepsAt_of) | split | dsimp only | intro _

theorem execCompletionRecordWrite_ends {σ : State} (slot : Nat) (refused : Bool) (s : State) (hk : Keeps σ s) :
    Ends σ (execCompletionRecordWrite slot refused s) := by
  unfold execCompletionRecordWrite
  repeat' first
    | (with_reducible first | assumption | apply writeRecord_keeps | apply ends_next | apply ends_whenever)
    | (simp only [keeps_mk]; with_reducible apply keepsAt_of) | split | dsimp only | intro _

theorem execRingEnableWrite_ends {σ : State} (fn : Fn) (r : Nat) (value : Word) (s : State) (hk : Keeps σ s) :
    Ends σ (execRingEnableWrite fn r value s) := by
  unfold execRingEnableWrite
  repeat' first
    | (with_reducible first | assumption | apply setReg_keeps | apply fset_keeps | apply refuseWrite_keeps
                            | apply ringError_keeps | apply ends_next | apply ends_whenever)
    | (simp only [keeps_mk]; with_reducible apply keepsAt_of) | split | dsimp only | intro _

theorem execSensorSweep_ends {σ : State} (now : Nat) (samples : List Int) (s : State) (hk : Keeps σ s) :
    Ends σ (execSensorSweep now samples s) := by
  unfold execSensorSweep
  repeat' first
    | (with_reducible first | assumption | apply showAlert_keeps | apply advance_keeps | apply avsRequest_keeps
                            | apply shutdown_keeps | apply sampleOne_keeps | apply throttleDie_keeps
                            | apply countHot_keeps | apply evalRule_keeps | apply keepsO_getD
                            | refine foldl_keeps (fun _ _ _ => ?_) ?_ | apply ends_next | apply ends_whenever)
    | (simp only [keeps_mk]; with_reducible apply keepsAt_of) | split | dsimp only | intro _

theorem execThrottleExit_ends {σ : State} (die : Nat) (s : State) (hk : Keeps σ s) :
    Ends σ (execThrottleExit die s) := by
  unfold execThrottleExit
  repeat' first
    | (with_reducible first | assumption | apply reportOpen_keeps | apply ends_next | apply ends_whenever)
    | (simp only [keeps_mk]; with_reducible apply keepsAt_of) | split | dsimp only | intro _

theorem execNightEnter_ends {σ : State} (fn : Fn) (wakeAtEn : Bool) (s : State) (hk : Keeps σ s) :
    Ends σ (execNightEnter fn wakeAtEn s) := by
  unfold execNightEnter
  repeat' first
    | (with_reducible first | assumption | apply fset_keeps | apply raise_keeps | apply refuseWrite_keeps
                            | apply ends_next | apply ends_whenever)
    | (simp only [keeps_mk]; with_reducible apply keepsAt_of) | split | dsimp only | intro _

theorem execNightEntryDone_ends {σ : State} (s : State) (hk : Keeps σ s) :
    Ends σ (execNightEntryDone s) := by
  unfold execNightEntryDone
  repeat' first
    | (with_reducible first | assumption | apply fset_keeps | apply emit_keeps | apply powerGate_keeps
                            | apply wake_keeps | apply ends_next | apply ends_whenever)
    | (simp only [keeps_mk]; with_reducible apply keepsAt_of) | split | dsimp only | intro _

theorem execWakeN_ends {σ : State} (ns : Nat) (s : State) (hk : Keeps σ s) :
    Ends σ (execWakeN ns s) := by
  unfold execWakeN
  repeat' first
    | (with_reducible first | assumption | apply wake_keeps | apply ends_next | apply ends_whenever)
    | (simp only [keeps_mk]; with_reducible apply keepsAt_of) | split | dsimp only | intro _

theorem execHostMessageWake_ends {σ : State} (s : State) (hk : Keeps σ s) :
    Ends σ (execHostMessageWake s) := by
  unfold execHostMessageWake
  repeat' first
    | (with_reducible first | assumption | apply wake_keeps | apply ends_next | apply ends_whenever)
    | (simp only [keeps_mk]; with_reducible apply keepsAt_of) | split | dsimp only | intro _

theorem execLightWake_ends {σ : State} (port : Nat) (s : State) (hk : Keeps σ s) :
    Ends σ (execLightWake port s) := by
  unfold execLightWake
  repeat' first
    | (with_reducible first | assumption | apply fset_keeps | apply wake_keeps | apply ends_next
                            | apply ends_whenever)
    | (simp only [keeps_mk]; with_reducible apply keepsAt_of) | split | dsimp only | intro _

theorem execScheduledWake_ends {σ : State} (now : Nat) (s : State) (hk : Keeps σ s) :
    Ends σ (execScheduledWake now s) := by
  unfold execScheduledWake
  repeat' first
    | (with_reducible first | assumption | apply advance_keeps | apply wake_keeps | apply ends_next
                            | apply ends_whenever)
    | (simp only [keeps_mk]; with_reducible apply keepsAt_of) | split | dsimp only | intro _

theorem execWakeDone_ends {σ : State} (s : State) (hk : Keeps σ s) :
    Ends σ (execWakeDone s) := by
  unfold execWakeDone
  repeat' first
    | (with_reducible first | assumption | apply fset_keeps | apply setChan_keeps | apply reach__keeps
                            | apply readAlmLast_keeps | apply setChState_keeps | apply checkMemory_keeps
                            | apply checkLinks_keeps | refine foldl_keeps (fun _ _ _ => ?_) ?_ | apply ends_next
                            | apply ends_whenever)
    | (simp only [keeps_mk]; with_reducible apply keepsAt_of) | split | dsimp only | intro _

theorem execSolve_ends {σ : State} (slot : Nat) (s : State) (hk : Keeps σ s) :
    Ends σ (execSolve slot s) := by
  unfold execSolve
  repeat' first
    | (with_reducible first | assumption | apply touchPa_keeps | apply onOp_keeps | apply endOp_keeps
                            | apply flagOp_keeps | apply beginOp_keeps | apply malformedSolve_keeps
                            | refine foldl_keeps (fun _ _ _ => ?_) ?_ | apply ends_next | apply ends_whenever)
    | (simp only [keeps_mk]; with_reducible apply keepsAt_of) | split | dsimp only | intro _

theorem execSolveStart_ends {σ : State} (now slot se : Nat) (s : State) (hk : Keeps σ s) :
    Ends σ (execSolveStart now slot se s) := by
  unfold execSolveStart
  repeat' first
    | (with_reducible first | assumption | apply advance_keeps | apply solveBegin_keeps | apply keepsO_getD
                            | refine foldl_keeps (fun _ _ _ => ?_) ?_ | apply ends_next | apply ends_whenever)
    | (simp only [keeps_mk]; with_reducible apply keepsAt_of) | split | dsimp only | intro _

theorem execSolveIteration_ends {σ : State} (now se : Nat) (s : State) (hk : Keeps σ s) :
    Ends σ (execSolveIteration now se s) := by
  unfold execSolveIteration
  repeat' first
    | (with_reducible first | assumption | apply onSolve_keeps | apply solveClock_keeps | apply advance_keeps
                            | apply solveGo_keeps | apply ends_next | apply ends_whenever)
    | (simp only [keeps_mk]; with_reducible apply keepsAt_of) | split | dsimp only | intro _

theorem execSolveDeadlineCheck_ends {σ : State} (now se : Nat) (s : State) (hk : Keeps σ s) :
    Ends σ (execSolveDeadlineCheck now se s) := by
  unfold execSolveDeadlineCheck
  repeat' first
    | (with_reducible first | assumption | apply onSolve_keeps | apply solveClock_keeps | apply advance_keeps
                            | apply solveStop_keeps | apply ends_next | apply ends_whenever)
    | (simp only [keeps_mk]; with_reducible apply keepsAt_of) | split | dsimp only | intro _

theorem execCallbackTimeout_ends {σ : State} (now se : Nat) (s : State) (hk : Keeps σ s) :
    Ends σ (execCallbackTimeout now se s) := by
  unfold execCallbackTimeout
  repeat' first
    | (with_reducible first | assumption | apply onSolve_keeps | apply solveClock_keeps | apply advance_keeps
                            | apply solveStop_keeps | apply ends_next | apply ends_whenever)
    | (simp only [keeps_mk]; with_reducible apply keepsAt_of) | split | dsimp only | intro _

theorem execSolveReduction_ends {σ : State} (se : Nat) (far : SolveFar) (s : State) (hk : Keeps σ s) :
    Ends σ (execSolveReduction se far s) := by
  unfold execSolveReduction
  repeat' first
    | (with_reducible first | assumption | apply onSolve_keeps | apply solveStop_keeps | apply solveEnd_keeps
                            | apply solveShrink_keeps | apply solveGo_keeps
                            | refine foldl_keeps (fun _ _ _ => ?_) ?_ | apply ends_next | apply ends_whenever)
    | (simp only [keeps_mk]; with_reducible apply keepsAt_of) | split | dsimp only | intro _

theorem execSolveReturnDone_ends {σ : State} (now se : Nat) (first second : List (Nat × Word)) (tookNs : Nat) (s : State) (hk : Keeps σ s) :
    Ends σ (execSolveReturnDone now se first second tookNs s) := by
  unfold execSolveReturnDone
  repeat' first
    | (with_reducible first | assumption | apply fset_keeps | apply onSolve_keeps | apply advance_keeps
                            | apply copyBest_keeps | apply solveGo_keeps | apply ends_next | apply ends_whenever)
    | (simp only [keeps_mk]; with_reducible apply keepsAt_of) | split | dsimp only | intro _

theorem execSolveAbort_ends {σ : State} (fn : Fn) (se : Nat) (s : State) (hk : Keeps σ s) :
    Ends σ (execSolveAbort fn se s) := by
  unfold execSolveAbort
  repeat' first
    | (with_reducible first | assumption | apply refuseWrite_keeps | apply onSolve_keeps | apply ends_next
                            | apply ends_whenever)
    | (simp only [keeps_mk]; with_reducible apply keepsAt_of) | split | dsimp only | intro _

theorem execAlmArm_ends {σ : State} (fn : Fn) (cancel drivesOk : Bool) (s : State) (hk : Keeps σ s) :
    Ends σ (execAlmArm fn cancel drivesOk s) := by
  unfold execAlmArm
  repeat' first
    | (with_reducible first | assumption | apply fset_keeps | apply refuseWrite_keeps | apply mntGrant_fst
                            | apply mntGrant_fst1 | apply readAlmLast_keeps | apply almErr_keeps
                            | apply almCancel_keeps | exact keepsO_none | apply keepsO_some | exact keepsOP_none
                            | apply keepsOP_some | apply keepsP_mk | refine keepsO_elim (by assumption) ?_
                            | exact keepsO_get (by assumption) | refine keepsP_elim (by assumption) ?_
                            | exact keepsP_get (by assumption) | refine keepsOP_elim (by assumption) ?_
                            | exact keepsOP_get (by assumption) | refine keepsOP_elim1 (by assumption) ?_
                            | exact keepsOP_get1 (by assumption) | apply ends_next | apply ends_whenever)
    | (simp only [keeps_mk]; with_reducible apply keepsAt_of) | split | dsimp only | intro _

theorem execAlmCancel_ends {σ : State} (fn : Fn) (s : State) (hk : Keeps σ s) :
    Ends σ (execAlmCancel fn s) := by
  unfold execAlmCancel
  repeat' first
    | (with_reducible first | assumption | apply refuseWrite_keeps | apply almCancel_keeps | apply ends_next
                            | apply ends_whenever)
    | (simp only [keeps_mk]; with_reducible apply keepsAt_of) | split | dsimp only | intro _

theorem execQuiesceDone_ends {σ : State} (s : State) (hk : Keeps σ s) :
    Ends σ (execQuiesceDone s) := by
  unfold execQuiesceDone
  repeat' first
    | (with_reducible first | assumption | apply fset_keeps | apply almFail_keeps | apply almStep_keeps
                            | apply putManifest_keeps | apply ends_next | apply ends_whenever)
    | (simp only [keeps_mk]; with_reducible apply keepsAt_of) | split | dsimp only | intro _

theorem execQuiesceTimeout_ends {σ : State} (s : State) (hk : Keeps σ s) :
    Ends σ (execQuiesceTimeout s) := by
  unfold execQuiesceTimeout
  repeat' first
    | (with_reducible first | assumption | apply almFail_keeps | apply ends_next | apply ends_whenever)
    | (simp only [keeps_mk]; with_reducible apply keepsAt_of) | split | dsimp only | intro _

theorem execAlmanacIoDone_ends {σ : State} (buddy ok : Bool) (s : State) (hk : Keeps σ s) :
    Ends σ (execAlmanacIoDone buddy ok s) := by
  unfold execAlmanacIoDone
  repeat' first
    | (with_reducible first | assumption | apply finc_keeps | apply almFail_keeps | apply almAdvance_keeps
                            | apply ends_next | apply ends_whenever)
    | (simp only [keeps_mk]; with_reducible apply keepsAt_of) | split | dsimp only | intro _

theorem execMirrorMessage_ends {σ : State} (src slot shard off : Nat) (data : List Byte) (crcOk : Bool) (s : State) (hk : Keeps σ s) :
    Ends σ (execMirrorMessage src slot shard off data crcOk s) := by
  unfold execMirrorMessage
  repeat' first
    | (with_reducible first | assumption | apply finc_keeps | apply emit_keeps | apply putShard_keeps
                            | apply putManifest_keeps | apply mirrorSlot_fst | apply mirrorSlot_fst1
                            | apply keepsO_getD | exact keepsO_none | apply keepsO_some | exact keepsOP_none
                            | apply keepsOP_some | apply keepsP_mk | refine keepsO_elim (by assumption) ?_
                            | exact keepsO_get (by assumption) | refine keepsP_elim (by assumption) ?_
                            | exact keepsP_get (by assumption) | refine keepsOP_elim (by assumption) ?_
                            | exact keepsOP_get (by assumption) | refine keepsOP_elim1 (by assumption) ?_
                            | exact keepsOP_get1 (by assumption) | apply ends_next | apply ends_whenever)
    | (simp only [keeps_mk]; with_reducible apply keepsAt_of) | split | dsimp only | intro _

theorem execBuddyCommit_ends {σ : State} (_src transit slot : Nat) (s : State) (hk : Keeps σ s) :
    Ends σ (execBuddyCommit _src transit slot s) := by
  unfold execBuddyCommit
  repeat' first
    | (with_reducible first | assumption | apply finc_keeps | apply writePtr_keeps | apply sendPtr_keeps
                            | apply endMirror_keeps | apply ends_next | apply ends_whenever)
    | (simp only [keeps_mk]; with_reducible apply keepsAt_of) | split | dsimp only | intro _

theorem execRemoteSourceRead_ends {σ : State} (src : Nat) (buddyArea : Bool) (slot shard : Nat) (s : State) (hk : Keeps σ s) :
    Ends σ (execRemoteSourceRead src buddyArea slot shard s) := by
  unfold execRemoteSourceRead
  repeat' first
    | (with_reducible first | assumption | apply emit_keeps | apply mntGrant_fst | apply mntGrant_fst1
                            | apply keepsO_getD | exact keepsO_none | apply keepsO_some | exact keepsOP_none
                            | apply keepsOP_some | apply keepsP_mk | refine keepsO_elim (by assumption) ?_
                            | exact keepsO_get (by assumption) | refine keepsP_elim (by assumption) ?_
                            | exact keepsP_get (by assumption) | refine keepsOP_elim (by assumption) ?_
                            | exact keepsOP_get (by assumption) | refine keepsOP_elim1 (by assumption) ?_
                            | exact keepsOP_get1 (by assumption) | apply ends_next | apply ends_whenever)
    | (simp only [keeps_mk]; with_reducible apply keepsAt_of) | split | dsimp only | intro _

theorem execAlmRestore_ends {σ : State} (fn : Fn) (manifest : List Byte) (signed before refused : Bool) (s : State) (hk : Keeps σ s) :
    Ends σ (execAlmRestore fn manifest signed before refused s) := by
  unfold execAlmRestore
  lift_lets
  extract_lets d g own area slot m id
  have hg : Keeps σ g := mntGrant_fst1 s 6 0 (almRequester fn) true hk
  clear_value g m
  repeat' first
    | with_reducible apply ends_next
    | with_reducible apply refuseWrite_keeps
    | with_reducible apply almErr_keeps
    | with_reducible apply almFail_keeps
    | with_reducible apply fset_keeps
    | with_reducible assumption
    | (simp only [keeps_mk]; with_reducible apply keepsAt_of)
    | split
    | dsimp only
    | exact inv_reports hg rfl rfl rfl rfl (fun i => i)

theorem execRestoreDone_ends {σ : State} (data : List Byte) (s : State) (hk : Keeps σ s) :
    Ends σ (execRestoreDone data s) := by
  unfold execRestoreDone
  repeat' first
    | (with_reducible first | assumption | apply storePa_keeps | apply almFail_keeps | apply almDone_keeps
                            | apply restoreState_keeps | apply keepsO_getD | apply ends_next | apply ends_whenever)
    | (simp only [keeps_mk]; with_reducible apply keepsAt_of) | split | dsimp only | intro _

theorem execAssemble_ends {σ : State} (slot : Nat) (s : State) (hk : Keeps σ s) :
    Ends σ (execAssemble slot s) := by
  unfold execAssemble
  repeat' first
    | (with_reducible first | assumption | apply setFront_keeps | apply touchPa_keeps | apply endOp_keeps
                            | apply beginOp_keeps | apply ends_next | apply ends_whenever)
    | (simp only [keeps_mk]; with_reducible apply keepsAt_of) | split | dsimp only | intro _

theorem execAssembleDone_ends {σ : State} (slot : Nat) (s : State) (hk : Keeps σ s) :
    Ends σ (execAssembleDone slot s) := by
  unfold execAssembleDone
  repeat' first
    | (with_reducible first | assumption | apply setFront_keeps | apply report_keeps | apply storePa_keeps
                            | apply touchPa_keeps | apply onOp_keeps | apply endOp_keeps
                            | refine foldl_keeps (fun _ _ _ => ?_) ?_ | apply ends_next | apply ends_whenever)
    | (simp only [keeps_mk]; with_reducible apply keepsAt_of) | split | dsimp only | intro _

theorem execFlr_ends {σ : State} (fn : Fn) (s : State) (hk : Keeps σ s) : Ends σ (execFlr fn s) := by
  unfold execFlr
  generalize List.range 4096 = l
  split
  · exact ends_whenever (resetVf_keeps _ _ hk) hk
  · split
    · exact ends_next hk
    · split
      · exact ends_next (keeps_numVfs 0 (flrOwn_keeps _ _ (fun t => t.msix.filter _) (foldl_keeps (fun t x h => resetVf_keeps _ _ h) hk)))
      · exact ends_next (flrOwn_keeps _ _ (fun t => t.msix.filter _) hk)
  · exact ends_next hk

theorem execConfigRequest_ends {σ : State} (fn : Fn) (numVfs : Option Nat) (s : State) (hk : Keeps σ s) :
    Ends σ (execConfigRequest fn numVfs s) := by
  unfold execConfigRequest
  repeat' first
    | (with_reducible first | assumption | apply emit_keeps | apply ends_next | apply ends_whenever)
    | (simp only [keeps_mk]; with_reducible apply keepsAt_of) | split | dsimp only | intro _

theorem execLinkDowntrain_ends {σ : State} (width gt : Nat) (s : State) (hk : Keeps σ s) :
    Ends σ (execLinkDowntrain width gt s) := by
  unfold execLinkDowntrain
  repeat' first
    | (with_reducible first | assumption | apply reportOpen_keeps | apply ends_next | apply ends_whenever)
    | (simp only [keeps_mk]; with_reducible apply keepsAt_of) | split | dsimp only | intro _

theorem execDmaRefused_ends {σ : State} (r : Nat) (slot : Option Nat) (what : Nat) (s : State) (hk : Keeps σ s) :
    Ends σ (execDmaRefused r slot what s) := by
  unfold execDmaRefused
  repeat' first
    | (with_reducible first | assumption | apply endOp_keeps | apply onElem_keeps | apply ringError_keeps
                            | apply writeRecord_keeps | apply ends_next | apply ends_whenever)
    | (simp only [keeps_mk]; with_reducible apply keepsAt_of) | split | dsimp only | intro _

theorem execMsixUnmask_ends {σ : State} (fn : Fn) (vector : Nat) (s : State) (hk : Keeps σ s) :
    Ends σ (execMsixUnmask fn vector s) := by
  unfold execMsixUnmask
  repeat' first
    | (with_reducible first | assumption | apply setVec_keeps | apply emit_keeps | apply ends_next
                            | apply ends_whenever)
    | (simp only [keeps_mk]; with_reducible apply keepsAt_of) | split | dsimp only | intro _

theorem execMatmul_ends {σ : State} (slot tile : Nat) (errs : List MeError) (core : Nat) (s0 : State) (hk : Keeps σ s0) :
    Ends σ (execMatmul slot tile errs core s0) := by
  unfold execMatmul
  repeat' first
    | (with_reducible first | assumption | apply touchPa_keeps | apply onOp_keeps | apply flagOp_keeps
                            | apply endMatmul_keeps | apply askTile_opt | apply runTile_keeps
                            | apply startMatmul_keeps | apply keepsO_getD | refine foldl_keeps (fun _ _ _ => ?_) ?_
                            | refine foldl_keepsO (fun _ _ _ => ?_) ?_ | refine foldl_keepsP (fun _ _ _ => ?_) ?_
                            | refine foldl_keepsOP (fun _ _ _ => ?_) ?_ | exact keepsO_none | apply keepsO_some
                            | exact keepsOP_none | apply keepsOP_some | apply keepsP_mk
                            | refine keepsO_elim (by assumption) ?_ | exact keepsO_get (by assumption)
                            | refine keepsP_elim (by assumption) ?_ | exact keepsP_get (by assumption)
                            | refine keepsOP_elim (by assumption) ?_ | exact keepsOP_get (by assumption)
                            | refine keepsOP_elim1 (by assumption) ?_ | exact keepsOP_get1 (by assumption)
                            | apply ends_next | apply ends_whenever)
    | (simp only [keeps_mk]; with_reducible apply keepsAt_of) | split | dsimp only | intro _

theorem execD2dRetry_ends {σ : State} (a b : Nat) (s : State) (hk : Keeps σ s) :
    Ends σ (execD2dRetry a b s) := by
  unfold execD2dRetry
  repeat' first
    | (with_reducible first | assumption | apply reportOpen_keeps | apply ends_next | apply ends_whenever)
    | (simp only [keeps_mk]; with_reducible apply keepsAt_of) | split | dsimp only | intro _

theorem execModuleRetired_ends {σ : State} (a b m : Nat) (s : State) (hk : Keeps σ s) :
    Ends σ (execModuleRetired a b m s) := by
  unfold execModuleRetired
  repeat' first
    | (with_reducible first | assumption | apply setMeshLink_keeps | apply report_keeps | apply linkLost_keeps
                            | apply ends_next | apply ends_whenever)
    | (simp only [keeps_mk]; with_reducible apply keepsAt_of) | split | dsimp only | intro _

theorem execLinkLost_ends {σ : State} (a b : Nat) (s : State) (hk : Keeps σ s) :
    Ends σ (execLinkLost a b s) := by
  unfold execLinkLost
  repeat' first
    | (with_reducible first | assumption | apply linkLost_keeps | apply ends_next | apply ends_whenever)
    | (simp only [keeps_mk]; with_reducible apply keepsAt_of) | split | dsimp only | intro _

theorem execModuleRetrainDone_ends {σ : State} (_a _b _m : Nat) (s : State) (hk : Keeps σ s) :
    Ends σ (execModuleRetrainDone _a _b _m s) := by
  unfold execModuleRetrainDone
  repeat' first
    | (with_reducible first | assumption | apply ends_next | apply ends_whenever)
    | (simp only [keeps_mk]; with_reducible apply keepsAt_of) | split | dsimp only | intro _

theorem execPxRunComplete_ends {σ : State} (c : Nat) (errs : List MeError) (s : State) (hk : Keeps σ s) :
    Ends σ (execPxRunComplete c errs s) := by
  unfold execPxRunComplete
  repeat' first
    | (with_reducible first | assumption | apply onMe_keeps | apply pxRun_opt | apply keepsO_getD
                            | exact keepsO_none | apply keepsO_some | exact keepsOP_none | apply keepsOP_some
                            | apply keepsP_mk | refine keepsO_elim (by assumption) ?_
                            | exact keepsO_get (by assumption) | refine keepsP_elim (by assumption) ?_
                            | exact keepsP_get (by assumption) | refine keepsOP_elim (by assumption) ?_
                            | exact keepsOP_get (by assumption) | refine keepsOP_elim1 (by assumption) ?_
                            | exact keepsOP_get1 (by assumption) | apply ends_next | apply ends_whenever)
    | (simp only [keeps_mk]; with_reducible apply keepsAt_of) | split | dsimp only | intro _

theorem execRefclkLoss_ends {σ : State} (c : RefClk) (s : State) (hk : Keeps σ s) :
    Ends σ (execRefclkLoss c s) := by
  unfold execRefclkLoss
  repeat' first
    | (with_reducible first | assumption | apply fset_keeps | apply reportFree_keeps | apply warmReset_keeps
                            | apply portDown_keeps | refine foldl_keeps (fun _ _ _ => ?_) ?_ | apply ends_next
                            | apply ends_whenever)
    | (simp only [keeps_mk]; with_reducible apply keepsAt_of) | split | dsimp only | intro _

theorem execRefclkRestore_ends {σ : State} (c : RefClk) (s : State) (hk : Keeps σ s) :
    Ends σ (execRefclkRestore c s) := by
  unfold execRefclkRestore
  repeat' first
    | (with_reducible first | assumption | apply bootStart_keeps | apply ends_next | apply ends_whenever)
    | (simp only [keeps_mk]; with_reducible apply keepsAt_of) | split | dsimp only | intro _

theorem execAvsAck_ends {σ : State} (rail : Nat) (s : State) (hk : Keeps σ s) :
    Ends σ (execAvsAck rail s) := by
  unfold execAvsAck
  repeat' first
    | (with_reducible first | assumption | apply avsRequest_keeps | apply keepsO_getD | apply ends_next
                            | apply ends_whenever)
    | (simp only [keeps_mk]; with_reducible apply keepsAt_of) | split | dsimp only | intro _

theorem execAvsAckTimeout_ends {σ : State} (rail : Nat) (s : State) (hk : Keeps σ s) :
    Ends σ (execAvsAckTimeout rail s) := by
  unfold execAvsAckTimeout
  repeat' first
    | (with_reducible first | assumption | apply reportFree_keeps | apply keepsO_getD | apply ends_next
                            | apply ends_whenever)
    | (simp only [keeps_mk]; with_reducible apply keepsAt_of) | split | dsimp only | intro _

theorem execSyncTimer_ends {σ : State} (now : Nat) (s : State) (hk : Keeps σ s) :
    Ends σ (execSyncTimer now s) := by
  unfold execSyncTimer
  repeat' first
    | (with_reducible first | assumption | apply advance_keeps | apply flood_keeps | apply ends_next
                            | apply ends_whenever)
    | (simp only [keeps_mk]; with_reducible apply keepsAt_of) | split | dsimp only | intro _

theorem execSync_ends {σ : State} (now link hops origin delay : Nat) (s : State) (hk : Keeps σ s) :
    Ends σ (execSync now link hops origin delay s) := by
  unfold execSync
  repeat' first
    | (with_reducible first | assumption | apply advance_keeps | apply forward_keeps | apply checkJoin_keeps
                            | apply correctTime_keeps | apply adopt_keeps | apply ends_next | apply ends_whenever)
    | (simp only [keeps_mk]; with_reducible apply keepsAt_of) | split | dsimp only | intro _

theorem execLinkDelayMeasure_ends {σ : State} (port roundTrip : Nat) (s : State) (hk : Keeps σ s) :
    Ends σ (execLinkDelayMeasure port roundTrip s) := by
  unfold execLinkDelayMeasure
  repeat' first
    | (with_reducible first | assumption | apply fset_keeps | apply ends_next | apply ends_whenever)
    | (simp only [keeps_mk]; with_reducible apply keepsAt_of) | split | dsimp only | intro _

theorem execPeriodNextWrite_ends {σ : State} (fn : Fn) (period atTransit : Word) (s : State) (hk : Keeps σ s) :
    Ends σ (execPeriodNextWrite fn period atTransit s) := by
  unfold execPeriodNextWrite
  repeat' first
    | (with_reducible first | assumption | apply setReg_keeps | apply fset_keeps | apply raise_keeps
                            | apply report_keeps | apply refuseWrite_keeps | apply setPerAt_keeps | apply ends_next
                            | apply ends_whenever)
    | (simp only [keeps_mk]; with_reducible apply keepsAt_of) | split | dsimp only | intro _

theorem execDoneSend_ends {σ : State} (s : State) (hk : Keeps σ s) :
    Ends σ (execDoneSend s) := by
  unfold execDoneSend
  repeat' first
    | (with_reducible first | assumption | apply flood_keeps | apply tryRelease_keeps | apply ends_next
                            | apply ends_whenever)
    | (simp only [keeps_mk]; with_reducible apply keepsAt_of) | split | dsimp only | intro _

theorem execDone_ends {σ : State} (now link hops n ldn : Nat) (s : State) (hk : Keeps σ s) :
    Ends σ (execDone now link hops n ldn s) := by
  unfold execDone
  repeat' first
    | (with_reducible first | assumption | apply advance_keeps | apply flood_keeps | apply tryRelease_keeps
                            | apply ends_next | apply ends_whenever)
    | (simp only [keeps_mk]; with_reducible apply keepsAt_of) | split | dsimp only | intro _

theorem execScheduleDecision_ends {σ : State} (now : Nat) (s : State) (hk : Keeps σ s) :
    Ends σ (execScheduleDecision now s) := by
  unfold execScheduleDecision
  repeat' first
    | (with_reducible first | assumption | apply advance_keeps | apply sendSchedule_keeps | apply ends_next
                            | apply ends_whenever)
    | (simp only [keeps_mk]; with_reducible apply keepsAt_of) | split | dsimp only | intro _

theorem execStretchLimitExpiry_ends {σ : State} (now : Nat) (s : State) (hk : Keeps σ s) :
    Ends σ (execStretchLimitExpiry now s) := by
  unfold execStretchLimitExpiry
  repeat' first
    | (with_reducible first | assumption | apply finc_keeps | apply report_keeps | apply advance_keeps
                            | apply flood_keeps | apply sendSchedule_keeps | apply takeDark_keeps
                            | apply undonePairs_fst | apply undonePairs_fst1
                            | refine foldl_keeps (fun _ _ _ => ?_) ?_ | refine foldl_keepsO (fun _ _ _ => ?_) ?_
                            | refine foldl_keepsP (fun _ _ _ => ?_) ?_ | refine foldl_keepsOP (fun _ _ _ => ?_) ?_
                            | exact keepsO_none | apply keepsO_some | exact keepsOP_none | apply keepsOP_some
                            | apply keepsP_mk | refine keepsO_elim (by assumption) ?_
                            | exact keepsO_get (by assumption) | refine keepsP_elim (by assumption) ?_
                            | exact keepsP_get (by assumption) | refine keepsOP_elim (by assumption) ?_
                            | exact keepsOP_get (by assumption) | refine keepsOP_elim1 (by assumption) ?_
                            | exact keepsOP_get1 (by assumption) | apply ends_next | apply ends_whenever)
    | (simp only [keeps_mk]; with_reducible apply keepsAt_of) | split | dsimp only | intro _

theorem execDark_ends {σ : State} (link hops n : Nat) (pairs : List (Nat × Nat)) (last : Bool) (s : State) (hk : Keeps σ s) :
    Ends σ (execDark link hops n pairs last s) := by
  unfold execDark
  repeat' first
    | (with_reducible first | assumption | apply flood_keeps | apply takeDark_keeps | apply ends_next
                            | apply ends_whenever)
    | (simp only [keeps_mk]; with_reducible apply keepsAt_of) | split | dsimp only | intro _

theorem execCandidate_ends {σ : State} (link hops prio phys number : Nat) (s : State) (hk : Keeps σ s) :
    Ends σ (execCandidate link hops prio phys number s) := by
  unfold execCandidate
  repeat' first
    | (with_reducible first | assumption | apply emit_keeps | apply flood_keeps | apply startElection_keeps
                            | apply ends_next | apply ends_whenever)
    | (simp only [keeps_mk]; with_reducible apply keepsAt_of) | split | dsimp only | intro _

theorem execElectionAcknowledgement_ends {σ : State} (phys : Nat) (number : Option Nat) (s : State) (hk : Keeps σ s) :
    Ends σ (execElectionAcknowledgement phys number s) := by
  unfold execElectionAcknowledgement
  repeat' first
    | (with_reducible first | assumption | apply ends_next | apply ends_whenever)
    | (simp only [keeps_mk]; with_reducible apply keepsAt_of) | split | dsimp only | intro _

theorem execElectionQuietExpiry_ends {σ : State} (now : Nat) (s : State) (hk : Keeps σ s) :
    Ends σ (execElectionQuietExpiry now s) := by
  unfold execElectionQuietExpiry
  repeat' first
    | (with_reducible first | assumption | apply advance_keeps | apply flood_keeps | apply checkJoin_keeps
                            | apply becomeMaster_keeps | apply ends_next | apply ends_whenever)
    | (simp only [keeps_mk]; with_reducible apply keepsAt_of) | split | dsimp only | intro _

theorem execMaster_ends {σ : State} (link hops phys ldn first : Nat) (s : State) (hk : Keeps σ s) :
    Ends σ (execMaster link hops phys ldn first s) := by
  unfold execMaster
  repeat' first
    | (with_reducible first | assumption | apply fset_keeps | apply flood_keeps | apply ends_next
                            | apply ends_whenever)
    | (simp only [keeps_mk]; with_reducible apply keepsAt_of) | split | dsimp only | intro _

theorem execMasterLostTimeout_ends {σ : State} (now : Nat) (s : State) (hk : Keeps σ s) :
    Ends σ (execMasterLostTimeout now s) := by
  unfold execMasterLostTimeout
  repeat' first
    | (with_reducible first | assumption | apply fset_keeps | apply raise_keeps | apply report_keeps
                            | apply advance_keeps | apply startElection_keeps | apply ends_next
                            | apply ends_whenever)
    | (simp only [keeps_mk]; with_reducible apply keepsAt_of) | split | dsimp only | intro _

theorem execTransitFire_ends {σ : State} (now : Nat) (s : State) (hk : Keeps σ s) :
    Ends σ (execTransitFire now s) := by
  unfold execTransitFire
  repeat' first
    | (with_reducible first | assumption | apply advance_keeps | apply fireTransit_keeps | apply ends_next
                            | apply ends_whenever)
    | (simp only [keeps_mk]; with_reducible apply keepsAt_of) | split | dsimp only | intro _

theorem execSchedule_ends {σ : State} (now link hops n fire period origin delay : Nat) (s : State) (hk : Keeps σ s) :
    Ends σ (execSchedule now link hops n fire period origin delay s) := by
  unfold execSchedule
  repeat' first
    | (with_reducible first | assumption | apply fset_keeps | apply advance_keeps | apply forward_keeps
                            | apply checkJoin_keeps | apply correctTime_keeps | apply adopt_keeps
                            | apply lateMarker_keeps | apply ends_next | apply ends_whenever)
    | (simp only [keeps_mk]; with_reducible apply keepsAt_of) | split | dsimp only | intro _

theorem execWindowBoundary_ends {σ : State} (now p : Nat) (s : State) (hk : Keeps σ s) :
    Ends σ (execWindowBoundary now p s) := by
  unfold execWindowBoundary
  repeat' first
    | (with_reducible first | assumption | apply fset_keeps | apply advance_keeps | apply beaconTick_keeps
                            | apply ends_next | apply ends_whenever)
    | (simp only [keeps_mk]; with_reducible apply keepsAt_of) | split | dsimp only | intro _

theorem execWatchdogWarn_ends {σ : State} (now p : Nat) (s : State) (hk : Keeps σ s) :
    Ends σ (execWatchdogWarn now p s) := by
  unfold execWatchdogWarn
  repeat' first
    | (with_reducible first | assumption | apply fset_keeps | apply raise_keeps | apply report_keeps
                            | apply advance_keeps | apply ends_next | apply ends_whenever)
    | (simp only [keeps_mk]; with_reducible apply keepsAt_of) | split | dsimp only | intro _

theorem execStepDoneWrite_ends {σ : State} (who : Who) (p : Nat) (value : Word) (s : State) (hk : Keeps σ s) :
    Ends σ (execStepDoneWrite who p value s) := by
  unfold execStepDoneWrite
  repeat' first
    | (with_reducible first | assumption | apply emit_keeps | apply refuseWrite_keeps | apply stepSet_keeps
                            | apply stepClear_keeps | apply ends_next | apply ends_whenever)
    | (simp only [keeps_mk]; with_reducible apply keepsAt_of) | split | dsimp only | intro _

theorem execWindowWrite_ends {σ : State} (fn : Fn) (p : Nat) (sz : WrSize) (value : Word) (s : State) (hk : Keeps σ s) :
    Ends σ (execWindowWrite fn p sz value s) := by
  unfold execWindowWrite
  repeat' first
    | (with_reducible first | assumption | apply fset_keeps | apply refuseWrite_keeps | apply ends_next
                            | apply ends_whenever)
    | (simp only [keeps_mk]; with_reducible apply keepsAt_of) | split | dsimp only | intro _

theorem execDroopDetect_ends {σ : State} (now die : Nat) (s : State) (hk : Keeps σ s) :
    Ends σ (execDroopDetect now die s) := by
  unfold execDroopDetect
  repeat' first
    | (with_reducible first | assumption | apply setDroopOf_keeps | apply advance_keeps | apply countLost_keeps
                            | apply ends_next | apply ends_whenever)
    | (simp only [keeps_mk]; with_reducible apply keepsAt_of) | split | dsimp only | intro _

theorem execDroopStretchEnd_ends {σ : State} (now die : Nat) (s : State) (hk : Keeps σ s) :
    Ends σ (execDroopStretchEnd now die s) := by
  unfold execDroopStretchEnd
  repeat' first
    | (with_reducible first | assumption | apply setDroopOf_keeps | apply advance_keeps | apply countLost_keeps
                            | apply ends_next | apply ends_whenever)
    | (simp only [keeps_mk]; with_reducible apply keepsAt_of) | split | dsimp only | intro _

theorem execOverMargin_ends {σ : State} (p : Nat) (s : State) (hk : Keeps σ s) :
    Ends σ (execOverMargin p s) := by
  unfold execOverMargin
  repeat' first
    | (with_reducible first | assumption | apply finc_keeps | apply report_keeps | apply ends_next
                            | apply ends_whenever)
    | (simp only [keeps_mk]; with_reducible apply keepsAt_of) | split | dsimp only | intro _

theorem execRegisterWrite_ends {σ : State} (fn : Fn) (off size : Nat) (value : Word) (s : State) (hk : Keeps σ s) :
    Ends σ (execRegisterWrite fn off size value s) := by
  unfold execRegisterWrite
  repeat' first
    | (with_reducible first | assumption | apply writeReg_keeps | apply writeVf_keeps | apply ends_next
                            | apply ends_whenever)
    | (simp only [keeps_mk]; with_reducible apply keepsAt_of) | split | dsimp only | intro _

theorem execMgmtWrite_ends {σ : State} (off size : Nat) (value : Word) (s : State) (hk : Keeps σ s) :
    Ends σ (execMgmtWrite off size value s) := by
  unfold execMgmtWrite
  repeat' first
    | (with_reducible first | assumption | apply writeReg_keeps | apply ends_next | apply ends_whenever)
    | (simp only [keeps_mk]; with_reducible apply keepsAt_of) | split | dsimp only | intro _

theorem execVld_ends {σ : State} (c : Nat) (err : VeErrors) (s : State) (hk : Keeps σ s) :
    Ends σ (execVld c err s) := by
  unfold execVld
  repeat' first
    | (with_reducible first | assumption | apply readPad_keeps | apply veHalt_keeps | apply veRun_keeps
                            | apply lanes_plan | refine foldl_keeps (fun _ _ _ => ?_) ?_ | apply ends_next
                            | apply ends_whenever)
    | (simp only [keeps_mk]; with_reducible apply keepsAt_of) | split | dsimp only | intro _

theorem execVst_ends {σ : State} (c : Nat) (err : VeErrors) (s : State) (hk : Keeps σ s) :
    Ends σ (execVst c err s) := by
  unfold execVst
  repeat' first
    | (with_reducible first | assumption | apply veFlags_keeps | apply advanceSr_keeps | apply startVe_ends
                            | apply storeBits_keeps | refine foldl_keeps (fun _ _ _ => ?_) ?_ | apply ends_next
                            | apply ends_whenever)
    | (simp only [keeps_mk]; with_reducible apply keepsAt_of) | split | dsimp only | intro _

theorem execVmov_ends {σ : State} (c : Nat) (err : VeErrors) (s : State) (hk : Keeps σ s) :
    Ends σ (execVmov c err s) := by
  unfold execVmov
  repeat' first
    | (with_reducible first | assumption | apply startVe_ends | apply lanes_plan | apply ends_next
                            | apply ends_whenever)
    | (simp only [keeps_mk]; with_reducible apply keepsAt_of) | split | dsimp only | intro _

theorem execVbcast_ends {σ : State} (c : Nat) (err : VeErrors) (s : State) (hk : Keeps σ s) :
    Ends σ (execVbcast c err s) := by
  unfold execVbcast
  repeat' first
    | (with_reducible first | assumption | apply onVe_keeps | apply startVe_ends | apply lanes_plan
                            | refine foldl_keeps (fun _ _ _ => ?_) ?_ | apply ends_next | apply ends_whenever)
    | (simp only [keeps_mk]; with_reducible apply keepsAt_of) | split | dsimp only | intro _

theorem execVcvt_ends {σ : State} (c : Nat) (err : VeErrors) (s : State) (hk : Keeps σ s) :
    Ends σ (execVcvt c err s) := by
  unfold execVcvt
  repeat' first
    | (with_reducible first | assumption | apply startVe_ends | apply lanes_plan | apply ends_next
                            | apply ends_whenever)
    | (simp only [keeps_mk]; with_reducible apply keepsAt_of) | split | dsimp only | intro _

theorem execVadd_ends {σ : State} (c : Nat) (err : VeErrors) (s : State) (hk : Keeps σ s) :
    Ends σ (execVadd c err s) := by
  unfold execVadd
  repeat' first
    | (with_reducible first | assumption | apply startVe_ends | apply arith2_plan | apply ends_next
                            | apply ends_whenever)
    | (simp only [keeps_mk]; with_reducible apply keepsAt_of) | split | dsimp only | intro _

theorem execVsub_ends {σ : State} (c : Nat) (err : VeErrors) (s : State) (hk : Keeps σ s) :
    Ends σ (execVsub c err s) := by
  unfold execVsub
  repeat' first
    | (with_reducible first | assumption | apply startVe_ends | apply arith2_plan | apply ends_next
                            | apply ends_whenever)
    | (simp only [keeps_mk]; with_reducible apply keepsAt_of) | split | dsimp only | intro _

theorem execVmul_ends {σ : State} (c : Nat) (err : VeErrors) (s : State) (hk : Keeps σ s) :
    Ends σ (execVmul c err s) := by
  unfold execVmul
  repeat' first
    | (with_reducible first | assumption | apply startVe_ends | apply arith2_plan | apply ends_next
                            | apply ends_whenever)
    | (simp only [keeps_mk]; with_reducible apply keepsAt_of) | split | dsimp only | intro _

theorem execVfma_ends {σ : State} (c : Nat) (err : VeErrors) (s : State) (hk : Keeps σ s) :
    Ends σ (execVfma c err s) := by
  unfold execVfma
  repeat' first
    | (with_reducible first | assumption | apply startVe_ends | apply lanes_plan | apply ends_next
                            | apply ends_whenever)
    | (simp only [keeps_mk]; with_reducible apply keepsAt_of) | split | dsimp only | intro _

theorem execVmin_ends {σ : State} (c : Nat) (err : VeErrors) (s : State) (hk : Keeps σ s) :
    Ends σ (execVmin c err s) := by
  unfold execVmin
  repeat' first
    | (with_reducible first | assumption | apply startVe_ends | apply select2_plan | apply ends_next
                            | apply ends_whenever)
    | (simp only [keeps_mk]; with_reducible apply keepsAt_of) | split | dsimp only | intro _

theorem execVmax_ends {σ : State} (c : Nat) (err : VeErrors) (s : State) (hk : Keeps σ s) :
    Ends σ (execVmax c err s) := by
  unfold execVmax
  repeat' first
    | (with_reducible first | assumption | apply startVe_ends | apply select2_plan | apply ends_next
                            | apply ends_whenever)
    | (simp only [keeps_mk]; with_reducible apply keepsAt_of) | split | dsimp only | intro _

theorem execVminnum_ends {σ : State} (c : Nat) (err : VeErrors) (s : State) (hk : Keeps σ s) :
    Ends σ (execVminnum c err s) := by
  unfold execVminnum
  repeat' first
    | (with_reducible first | assumption | apply startVe_ends | apply select2_plan | apply ends_next
                            | apply ends_whenever)
    | (simp only [keeps_mk]; with_reducible apply keepsAt_of) | split | dsimp only | intro _

theorem execVmaxnum_ends {σ : State} (c : Nat) (err : VeErrors) (s : State) (hk : Keeps σ s) :
    Ends σ (execVmaxnum c err s) := by
  unfold execVmaxnum
  repeat' first
    | (with_reducible first | assumption | apply startVe_ends | apply select2_plan | apply ends_next
                            | apply ends_whenever)
    | (simp only [keeps_mk]; with_reducible apply keepsAt_of) | split | dsimp only | intro _

theorem execVabs_ends {σ : State} (c : Nat) (err : VeErrors) (s : State) (hk : Keeps σ s) :
    Ends σ (execVabs c err s) := by
  unfold execVabs
  repeat' first
    | (with_reducible first | assumption | apply startVe_ends | apply lanes_plan | apply ends_next
                            | apply ends_whenever)
    | (simp only [keeps_mk]; with_reducible apply keepsAt_of) | split | dsimp only | intro _

theorem execVneg_ends {σ : State} (c : Nat) (err : VeErrors) (s : State) (hk : Keeps σ s) :
    Ends σ (execVneg c err s) := by
  unfold execVneg
  repeat' first
    | (with_reducible first | assumption | apply startVe_ends | apply lanes_plan | apply ends_next
                            | apply ends_whenever)
    | (simp only [keeps_mk]; with_reducible apply keepsAt_of) | split | dsimp only | intro _

theorem execVand_ends {σ : State} (c : Nat) (err : VeErrors) (s : State) (hk : Keeps σ s) :
    Ends σ (execVand c err s) := by
  unfold execVand
  repeat' first
    | (with_reducible first | assumption | apply startVe_ends | apply bits2_plan | apply ends_next
                            | apply ends_whenever)
    | (simp only [keeps_mk]; with_reducible apply keepsAt_of) | split | dsimp only | intro _

theorem execVor_ends {σ : State} (c : Nat) (err : VeErrors) (s : State) (hk : Keeps σ s) :
    Ends σ (execVor c err s) := by
  unfold execVor
  repeat' first
    | (with_reducible first | assumption | apply startVe_ends | apply bits2_plan | apply ends_next
                            | apply ends_whenever)
    | (simp only [keeps_mk]; with_reducible apply keepsAt_of) | split | dsimp only | intro _

theorem execVxor_ends {σ : State} (c : Nat) (err : VeErrors) (s : State) (hk : Keeps σ s) :
    Ends σ (execVxor c err s) := by
  unfold execVxor
  repeat' first
    | (with_reducible first | assumption | apply startVe_ends | apply bits2_plan | apply ends_next
                            | apply ends_whenever)
    | (simp only [keeps_mk]; with_reducible apply keepsAt_of) | split | dsimp only | intro _

theorem execVshl_ends {σ : State} (c : Nat) (err : VeErrors) (s : State) (hk : Keeps σ s) :
    Ends σ (execVshl c err s) := by
  unfold execVshl
  repeat' first
    | (with_reducible first | assumption | apply startVe_ends | apply bits2_plan | apply ends_next
                            | apply ends_whenever)
    | (simp only [keeps_mk]; with_reducible apply keepsAt_of) | split | dsimp only | intro _

theorem execVshr_ends {σ : State} (c : Nat) (err : VeErrors) (s : State) (hk : Keeps σ s) :
    Ends σ (execVshr c err s) := by
  unfold execVshr
  repeat' first
    | (with_reducible first | assumption | apply startVe_ends | apply bits2_plan | apply ends_next
                            | apply ends_whenever)
    | (simp only [keeps_mk]; with_reducible apply keepsAt_of) | split | dsimp only | intro _

theorem execVdiv_ends {σ : State} (c : Nat) (err : VeErrors) (s : State) (hk : Keeps σ s) :
    Ends σ (execVdiv c err s) := by
  unfold execVdiv
  repeat' first
    | (with_reducible first | assumption | apply startVe_ends | apply arith2_plan | apply ends_next
                            | apply ends_whenever)
    | (simp only [keeps_mk]; with_reducible apply keepsAt_of) | split | dsimp only | intro _

theorem execVsqrt_ends {σ : State} (c : Nat) (err : VeErrors) (s : State) (hk : Keeps σ s) :
    Ends σ (execVsqrt c err s) := by
  unfold execVsqrt
  repeat' first
    | (with_reducible first | assumption | apply startVe_ends | apply lanes_plan | apply ends_next
                            | apply ends_whenever)
    | (simp only [keeps_mk]; with_reducible apply keepsAt_of) | split | dsimp only | intro _

theorem execVcmp_ends {σ : State} (c : Nat) (err : VeErrors) (s : State) (hk : Keeps σ s) :
    Ends σ (execVcmp c err s) := by
  unfold execVcmp
  repeat' first
    | (with_reducible first | assumption | apply startVe_ends | apply comparePred_plan | apply ends_next
                            | apply ends_whenever)
    | (simp only [keeps_mk]; with_reducible apply keepsAt_of) | split | dsimp only | intro _

theorem execVtotord_ends {σ : State} (c : Nat) (err : VeErrors) (s : State) (hk : Keeps σ s) :
    Ends σ (execVtotord c err s) := by
  unfold execVtotord
  repeat' first
    | (with_reducible first | assumption | apply startVe_ends | apply comparePred_plan | apply ends_next
                            | apply ends_whenever)
    | (simp only [keeps_mk]; with_reducible apply keepsAt_of) | split | dsimp only | intro _

theorem execVsel_ends {σ : State} (c : Nat) (err : VeErrors) (s : State) (hk : Keeps σ s) :
    Ends σ (execVsel c err s) := by
  unfold execVsel
  repeat' first
    | (with_reducible first | assumption | apply startVe_ends | apply veWrite_keeps | apply ends_next
                            | apply ends_whenever)
    | (simp only [keeps_mk]; with_reducible apply keepsAt_of) | split | dsimp only | intro _

theorem execVtr_ends {σ : State} (c : Nat) (err : VeErrors) (s : State) (hk : Keeps σ s) :
    Ends σ (execVtr c err s) := by
  unfold execVtr
  repeat' first
    | (with_reducible first | assumption | apply startVe_ends | apply lanes_plan | apply ends_next
                            | apply ends_whenever)
    | (simp only [keeps_mk]; with_reducible apply keepsAt_of) | split | dsimp only | intro _

theorem execVseg_ends {σ : State} (c : Nat) (err : VeErrors) (s : State) (hk : Keeps σ s) :
    Ends σ (execVseg c err s) := by
  unfold execVseg
  repeat' first
    | (with_reducible first | assumption | apply startVe_ends | apply veWrite_keeps | apply ends_next
                            | apply ends_whenever)
    | (simp only [keeps_mk]; with_reducible apply keepsAt_of) | split | dsimp only | intro _

theorem execVrecv_ends {σ : State} (c : Nat) (err : VeErrors) (s : State) (hk : Keeps σ s) :
    Ends σ (execVrecv c err s) := by
  unfold execVrecv
  repeat' first
    | (with_reducible first | assumption | apply veHalt_keeps | apply takeToVe_keeps | apply veRun_keeps
                            | apply recvPlan_plan | apply ends_next | apply ends_whenever)
    | (simp only [keeps_mk]; with_reducible apply keepsAt_of) | split | dsimp only | intro _

theorem execVrget_ends {σ : State} (c : Nat) (err : VeErrors) (s : State) (hk : Keeps σ s) :
    Ends σ (execVrget c err s) := by
  unfold execVrget
  repeat' first
    | (with_reducible first | assumption | apply drawn_keeps | apply onVe_keeps | apply veHalt_keeps
                            | apply veFlags_keeps | apply advanceSr_keeps | apply veRun_keeps | apply keepsO_getD
                            | apply ends_next | apply ends_whenever)
    | (simp only [keeps_mk]; with_reducible apply keepsAt_of) | split | dsimp only | intro _

theorem execQueueSkip_ends {σ : State} (fn : Fn) (c : Nat) (q : EngineQ) (s : State) (hk : Keeps σ s) :
    Ends σ (execQueueSkip fn c q s) := by
  unfold execQueueSkip
  repeat' first
    | (with_reducible first | assumption | apply refuseWrite_keeps | apply popQueue_keeps | apply unhalt_keeps
                            | apply ends_next | apply ends_whenever)
    | (simp only [keeps_mk]; with_reducible apply keepsAt_of) | split | dsimp only | intro _

theorem execQueueFlush_ends {σ : State} (fn : Fn) (c : Nat) (q : EngineQ) (s : State) (hk : Keeps σ s) :
    Ends σ (execQueueFlush fn c q s) := by
  unfold execQueueFlush
  repeat' first
    | (with_reducible first | assumption | apply onMe_keeps | apply onVe_keeps | apply onFe_keeps
                            | apply refuseWrite_keeps | apply unhalt_keeps | apply dropStream_keeps
                            | apply ends_next | apply ends_whenever)
    | (simp only [keeps_mk]; with_reducible apply keepsAt_of) | split | dsimp only | intro _

theorem execMirrorModeApply_ends {σ : State} (c : Nat) (s : State) (hk : Keeps σ s) :
    Ends σ (execMirrorModeApply c s) := by
  unfold execMirrorModeApply
  repeat' first
    | (with_reducible first | assumption | apply fset_keeps | apply ends_next | apply ends_whenever)
    | (simp only [keeps_mk]; with_reducible apply keepsAt_of) | split | dsimp only | intro _

end Sys2Proof.Machine
end

