-- ==== Sys2Proof/Laws/RegTable.lean ====
section
/-! SUPPORT. The register table: only the blocks near an offset can hold it, and what a descriptor holds at reset. -/
namespace Sys2Proof.Machine
/-- One past the last byte a block of these dimensions can hit. -/
def dimsSpan (dims : List (Nat × Nat)) : Nat :=
  match dims with
  | [] => 1
  | (n, st) :: rest => if st = 0 then dimsSpan rest else n * st

theorem dimsHit_lt_span (dims : List (Nat × Nat)) : ∀ d, dimsHit dims d = true → d < dimsSpan dims := by
  induction dims with
  | nil => intro d h; simp [dimsHit] at h; simp [dimsSpan, h]
  | cons p rest ih =>
    obtain ⟨n, st⟩ := p
    intro d h
    simp only [dimsHit, Bool.and_eq_true, decide_eq_true_eq] at h
    by_cases hz : st = 0
    · subst hz
      simpa [dimsSpan] using ih d (by simpa using h.2)
    · have h1 := (Nat.div_lt_iff_lt_mul (Nat.pos_of_ne_zero hz)).1 h.1
      simpa [dimsSpan, hz] using h1

/-- A block that may hold a register in [lo, hi). -/
def RegBlock.near (lo hi : Nat) (b : RegBlock) : Bool := decide (b.base < hi) && decide (lo < b.base + dimsSpan b.dims)

theorem find?_filter_of_imp {α : Type} (p q : α → Bool) (l : List α) (h : ∀ a, p a = true → q a = true) :
    (l.filter q).find? p = l.find? p := by
  induction l with
  | nil => rfl
  | cons a l ih =>
    by_cases hq : q a = true
    · by_cases hp : p a = true <;> simp [hq, hp, ih]
    · have hp : p a = false := by
        cases hpa : p a with
        | false => rfl
        | true => exact absurd (h a hpa) hq
      simp [hq, hp, ih]

/-- The fields of a register in [lo, hi) are found among the blocks near it. -/
theorem regFields_near (lo hi off : Nat) (h1 : lo ≤ off) (h2 : off < hi) :
    regFields off = ((regTable.filter (RegBlock.near lo hi)).find? (fun b => b.hits off)).map RegBlock.fields := by
  unfold regFields
  rw [find?_filter_of_imp]
  intro b hb
  simp only [RegBlock.hits, Bool.and_eq_true, decide_eq_true_eq] at hb
  have h3 := dimsHit_lt_span _ _ hb.2
  simp only [RegBlock.near, Bool.and_eq_true, decide_eq_true_eq]
  omega

/-- A register of a range whose blocks hold zero at reset holds zero at reset. -/
theorem resetReg_zero (lo hi off : Nat) (h1 : lo ≤ off) (h2 : off < hi)
    (h : ((regTable.filter (RegBlock.near lo hi)).all (fun b => resetOf b.fields == 0)) = true) : resetReg off = 0 := by
  have hf := regFields_near lo hi off h1 h2
  cases e : (regTable.filter (RegBlock.near lo hi)).find? (fun b => b.hits off) with
  | none => rw [e] at hf; simp [resetReg, hf]
  | some b =>
    rw [e] at hf
    have hb := List.all_eq_true.1 h b (List.mem_of_find?_eq_some e)
    simp only [resetReg, hf, Option.map_some]
    exact eq_of_beq hb

/-- A region descriptor is disabled at reset. -/
theorem resetReg_rgnCfg (d : Nat) (h : d < 4096) : getField (resetReg (A.RMM_RGN_CFG d)) 0 1 = 0 := by
  have hn : (regTable.filter (RegBlock.near 0x148000 0x168000)).head? =
      some { base := 0x148000, dims := [(4096, 0x20)], fields := [⟨0, 1, .rwh, 0, 0, 1⟩, ⟨1, 1, .rw, 0, 0, 1⟩, ⟨2, 2, .rw, 0, 0, 2⟩, ⟨4, 3, .ro, 0, 0, 7⟩,
        ⟨7, 1, .w1c, 0, 0, 1⟩, ⟨8, 4, .ro, 0, 0, 15⟩, ⟨12, 1, .rw, 0, 0, 1⟩, ⟨16, 9, .rw, 0, 2, 500⟩] } := by decide +kernel
  have hf := regFields_near 0x148000 0x168000 (A.RMM_RGN_CFG d) (by simp [A.RMM_RGN_CFG]) (by simp [A.RMM_RGN_CFG]; omega)
  generalize regTable.filter (RegBlock.near 0x148000 0x168000) = l at hn hf
  cases l with
  | nil => simp at hn
  | cons b l =>
    simp only [List.head?_cons, Option.some.injEq] at hn
    subst hn
    have h1 : 32 * d / 32 = d := by omega
    simp only [List.find?_cons, RegBlock.hits, A.RMM_RGN_CFG, Nat.le_add_right, decide_true, Nat.add_sub_cancel_left, dimsHit, h1, h,
      Nat.mul_mod_right, Bool.and_self, beq_self_eq_true, Option.map_some] at hf
    rw [resetReg, A.RMM_RGN_CFG, hf]
    decide
/-- A key that is not listed reads as its default. -/
theorem assocGet_unlisted {α : Type} (d : Nat → α) (m : Assoc α) (k : Nat) (h : ∀ e ∈ m, e.1 ≠ k) : assocGet d m k = d k := by
  induction m with
  | nil => rfl
  | cons e rest ih =>
    obtain ⟨k', v⟩ := e
    rw [assocGet, if_neg (h (k', v) (List.mem_cons_self ..))]
    exact ih (fun e he => h e (List.mem_cons_of_mem _ he))

/-- A descriptor whose configuration is not listed is disabled. -/
theorem rgnCfg_unlisted (s : State) (d : Nat) (hd : d < 4096) (h : ∀ e ∈ s.regs, e.1 ≠ A.RMM_RGN_CFG d) :
    s.fget (R.RMM_RGN_CFG.enable d) = 0 := by
  show getField (assocGet resetReg s.regs (A.RMM_RGN_CFG d)) 0 1 = 0
  rw [assocGet_unlisted _ _ _ h, resetReg_rgnCfg d hd]

/-- A ring pair is disabled at reset. -/
theorem resetReg_ringCfg (r : Nat) (h : r < 262144) : getField (resetReg (A.QRG_RING_CFG r)) 0 1 = 0 := by
  have hn : (regTable.filter (RegBlock.near 0x1100000 0x2100000)).head? =
      some { base := 0x1100000, dims := [(262144, 0x40)], fields := [⟨0, 1, .rwh, 0, 0, 1⟩, ⟨1, 1, .rw, 0, 0, 1⟩, ⟨2, 2, .rw, 2, 0, 3⟩,
        ⟨4, 5, .rw, 4, 4, 16⟩, ⟨9, 3, .rw, 0, 0, 7⟩, ⟨12, 1, .rw, 0, 0, 1⟩, ⟨13, 3, .rw, 0, 0, 7⟩] } := by decide +kernel
  have hf := regFields_near 0x1100000 0x2100000 (A.QRG_RING_CFG r) (by simp [A.QRG_RING_CFG]) (by simp [A.QRG_RING_CFG]; omega)
  generalize regTable.filter (RegBlock.near 0x1100000 0x2100000) = l at hn hf
  cases l with
  | nil => simp at hn
  | cons b l =>
    simp only [List.head?_cons, Option.some.injEq] at hn
    subst hn
    have h1 : 64 * r / 64 = r := by omega
    simp only [List.find?_cons, RegBlock.hits, A.QRG_RING_CFG, Nat.le_add_right, decide_true, Nat.add_sub_cancel_left, dimsHit, h1, h,
      Nat.mul_mod_right, Bool.and_self, beq_self_eq_true, Option.map_some] at hf
    rw [resetReg, A.QRG_RING_CFG, hf]
    decide

/-- A ring pair whose configuration is not listed is disabled. -/
theorem ringCfg_unlisted (s : State) (r : Nat) (hr : r < 262144) (h : ∀ e ∈ s.regs, e.1 ≠ A.QRG_RING_CFG r) :
    s.fget (R.QRG_RING_CFG.enable r) = 0 := by
  show getField (assocGet resetReg s.regs (A.QRG_RING_CFG r)) 0 1 = 0
  rw [assocGet_unlisted _ _ _ h, resetReg_ringCfg r hr]

end Sys2Proof.Machine
end

