-- ==== Sys2Proof/Laws/State.lean ====
section
/-! SUPPORT. What each named update leaves in each field of State, and what reading a unit gives after it was replaced. -/
namespace Sys2Proof.Machine

variable (s : State)

/-! After `State.setTcore`. -/

@[simp] theorem State.setTcore_pending (k : Nat) (v : TCore) : (s.setTcore k v).pending = s.pending := rfl
@[simp] theorem State.setTcore_clock (k : Nat) (v : TCore) : (s.setTcore k v).clock = s.clock := rfl
@[simp] theorem State.setTcore_free (k : Nat) (v : TCore) : (s.setTcore k v).free = s.free := rfl
@[simp] theorem State.setTcore_out (k : Nat) (v : TCore) : (s.setTcore k v).out = s.out := rfl
@[simp] theorem State.setTcore_regs (k : Nat) (v : TCore) : (s.setTcore k v).regs = s.regs := rfl
@[simp] theorem State.setTcore_mem (k : Nat) (v : TCore) : (s.setTcore k v).mem = s.mem := rfl
@[simp] theorem State.setTcore_poison (k : Nat) (v : TCore) : (s.setTcore k v).poison = s.poison := rfl
@[simp] theorem State.setTcore_weak (k : Nat) (v : TCore) : (s.setTcore k v).weak = s.weak := rfl
@[simp] theorem State.setTcore_poisonRec (k : Nat) (v : TCore) : (s.setTcore k v).poisonRec = s.poisonRec := rfl
@[simp] theorem State.setTcore_nv (k : Nat) (v : TCore) : (s.setTcore k v).nv = s.nv := rfl
@[simp] theorem State.setTcore_boot (k : Nat) (v : TCore) : (s.setTcore k v).boot = s.boot := rfl
@[simp] theorem State.setTcore_togus (k : Nat) (v : TCore) : (s.setTcore k v).togus = s.togus := rfl
@[simp] theorem State.setTcore_trn (k : Nat) (v : TCore) : (s.setTcore k v).trn = s.trn := rfl
@[simp] theorem State.setTcore_droop (k : Nat) (v : TCore) : (s.setTcore k v).droop = s.droop := rfl
@[simp] theorem State.setTcore_mesh (k : Nat) (v : TCore) : (s.setTcore k v).mesh = s.mesh := rfl
@[simp] theorem State.setTcore_pcores (k : Nat) (v : TCore) : (s.setTcore k v).pcores = s.pcores := rfl
@[simp] theorem State.setTcore_ses (k : Nat) (v : TCore) : (s.setTcore k v).ses = s.ses := rfl
@[simp] theorem State.setTcore_fronts (k : Nat) (v : TCore) : (s.setTcore k v).fronts = s.fronts := rfl
@[simp] theorem State.setTcore_dir (k : Nat) (v : TCore) : (s.setTcore k v).dir = s.dir := rfl
@[simp] theorem State.setTcore_wcb (k : Nat) (v : TCore) : (s.setTcore k v).wcb = s.wcb := rfl
@[simp] theorem State.setTcore_chans (k : Nat) (v : TCore) : (s.setTcore k v).chans = s.chans := rfl
@[simp] theorem State.setTcore_ewt (k : Nat) (v : TCore) : (s.setTcore k v).ewt = s.ewt := rfl
@[simp] theorem State.setTcore_homeTransit (k : Nat) (v : TCore) : (s.setTcore k v).homeTransit = s.homeTransit := rfl
@[simp] theorem State.setTcore_homeLast (k : Nat) (v : TCore) : (s.setTcore k v).homeLast = s.homeLast := rfl
@[simp] theorem State.setTcore_okt (k : Nat) (v : TCore) : (s.setTcore k v).okt = s.okt := rfl
@[simp] theorem State.setTcore_oldKeys (k : Nat) (v : TCore) : (s.setTcore k v).oldKeys = s.oldKeys := rfl
@[simp] theorem State.setTcore_reqs (k : Nat) (v : TCore) : (s.setTcore k v).reqs = s.reqs := rfl
@[simp] theorem State.setTcore_gen (k : Nat) (v : TCore) : (s.setTcore k v).gen = s.gen := rfl
@[simp] theorem State.setTcore_epochCache (k : Nat) (v : TCore) : (s.setTcore k v).epochCache = s.epochCache := rfl
@[simp] theorem State.setTcore_twilightArm (k : Nat) (v : TCore) : (s.setTcore k v).twilightArm = s.twilightArm := rfl
@[simp] theorem State.setTcore_links (k : Nat) (v : TCore) : (s.setTcore k v).links = s.links := rfl
@[simp] theorem State.setTcore_routes (k : Nat) (v : TCore) : (s.setTcore k v).routes = s.routes := rfl
@[simp] theorem State.setTcore_police (k : Nat) (v : TCore) : (s.setTcore k v).police = s.police := rfl
@[simp] theorem State.setTcore_shape (k : Nat) (v : TCore) : (s.setTcore k v).shape = s.shape := rfl
@[simp] theorem State.setTcore_posts (k : Nat) (v : TCore) : (s.setTcore k v).posts = s.posts := rfl
@[simp] theorem State.setTcore_slots (k : Nat) (v : TCore) : (s.setTcore k v).slots = s.slots := rfl
@[simp] theorem State.setTcore_rx (k : Nat) (v : TCore) : (s.setTcore k v).rx = s.rx := rfl
@[simp] theorem State.setTcore_parked (k : Nat) (v : TCore) : (s.setTcore k v).parked = s.parked := rfl
@[simp] theorem State.setTcore_outbox (k : Nat) (v : TCore) : (s.setTcore k v).outbox = s.outbox := rfl
@[simp] theorem State.setTcore_tombs (k : Nat) (v : TCore) : (s.setTcore k v).tombs = s.tombs := rfl
@[simp] theorem State.setTcore_buried (k : Nat) (v : TCore) : (s.setTcore k v).buried = s.buried := rfl
@[simp] theorem State.setTcore_lostAt (k : Nat) (v : TCore) : (s.setTcore k v).lostAt = s.lostAt := rfl
@[simp] theorem State.setTcore_parkWaits (k : Nat) (v : TCore) : (s.setTcore k v).parkWaits = s.parkWaits := rfl
@[simp] theorem State.setTcore_beacons (k : Nat) (v : TCore) : (s.setTcore k v).beacons = s.beacons := rfl
@[simp] theorem State.setTcore_waiters (k : Nat) (v : TCore) : (s.setTcore k v).waiters = s.waiters := rfl
@[simp] theorem State.setTcore_epochs (k : Nat) (v : TCore) : (s.setTcore k v).epochs = s.epochs := rfl
@[simp] theorem State.setTcore_scan (k : Nat) (v : TCore) : (s.setTcore k v).scan = s.scan := rfl
@[simp] theorem State.setTcore_scanAgain (k : Nat) (v : TCore) : (s.setTcore k v).scanAgain = s.scanAgain := rfl
@[simp] theorem State.setTcore_nextPrio (k : Nat) (v : TCore) : (s.setTcore k v).nextPrio = s.nextPrio := rfl
@[simp] theorem State.setTcore_ops (k : Nat) (v : TCore) : (s.setTcore k v).ops = s.ops := rfl
@[simp] theorem State.setTcore_resumes (k : Nat) (v : TCore) : (s.setTcore k v).resumes = s.resumes := rfl
@[simp] theorem State.setTcore_rrRing (k : Nat) (v : TCore) : (s.setTcore k v).rrRing = s.rrRing := rfl
@[simp] theorem State.setTcore_rrPrio (k : Nat) (v : TCore) : (s.setTcore k v).rrPrio = s.rrPrio := rfl
@[simp] theorem State.setTcore_sinceLowPrio (k : Nat) (v : TCore) : (s.setTcore k v).sinceLowPrio = s.sinceLowPrio := rfl
@[simp] theorem State.setTcore_reserve (k : Nat) (v : TCore) : (s.setTcore k v).reserve = s.reserve := rfl
@[simp] theorem State.setTcore_endCount (k : Nat) (v : TCore) : (s.setTcore k v).endCount = s.endCount := rfl
@[simp] theorem State.setTcore_numVfs (k : Nat) (v : TCore) : (s.setTcore k v).numVfs = s.numVfs := rfl
@[simp] theorem State.setTcore_llmRetired (k : Nat) (v : TCore) : (s.setTcore k v).llmRetired = s.llmRetired := rfl
@[simp] theorem State.setTcore_portsRetired (k : Nat) (v : TCore) : (s.setTcore k v).portsRetired = s.portsRetired := rfl
@[simp] theorem State.setTcore_msix (k : Nat) (v : TCore) : (s.setTcore k v).msix = s.msix := rfl
@[simp] theorem State.setTcore_reports (k : Nat) (v : TCore) : (s.setTcore k v).reports = s.reports := rfl
@[simp] theorem State.setTcore_fatals (k : Nat) (v : TCore) : (s.setTcore k v).fatals = s.fatals := rfl
@[simp] theorem State.setTcore_logMeta (k : Nat) (v : TCore) : (s.setTcore k v).logMeta = s.logMeta := rfl
@[simp] theorem State.setTcore_recs (k : Nat) (v : TCore) : (s.setTcore k v).recs = s.recs := rfl
@[simp] theorem State.setTcore_recq (k : Nat) (v : TCore) : (s.setTcore k v).recq = s.recq := rfl
@[simp] theorem State.setTcore_alm (k : Nat) (v : TCore) : (s.setTcore k v).alm = s.alm := rfl
@[simp] theorem State.setTcore_nwt (k : Nat) (v : TCore) : (s.setTcore k v).nwt = s.nwt := rfl
@[simp] theorem State.setTcore_ecl (k : Nat) (v : TCore) : (s.setTcore k v).ecl = s.ecl := rfl
@[simp] theorem State.setTcore_pins (k : Nat) (v : TCore) : (s.setTcore k v).pins = s.pins := rfl
@[simp] theorem State.setTcore_reg (k : Nat) (v : TCore) (ro : Nat) : (s.setTcore k v).reg ro = s.reg ro := rfl
@[simp] theorem State.setTcore_fget (k : Nat) (v : TCore) (g : Fld) : (s.setTcore k v).fget g = s.fget g := rfl
@[simp] theorem State.setTcore_byte (k : Nat) (v : TCore) (j : Nat) : (s.setTcore k v).byte j = s.byte j := rfl

/-! After `State.setPcore`. -/

@[simp] theorem State.setPcore_pending (k : Nat) (v : Jumbe) : (s.setPcore k v).pending = s.pending := rfl
@[simp] theorem State.setPcore_clock (k : Nat) (v : Jumbe) : (s.setPcore k v).clock = s.clock := rfl
@[simp] theorem State.setPcore_free (k : Nat) (v : Jumbe) : (s.setPcore k v).free = s.free := rfl
@[simp] theorem State.setPcore_out (k : Nat) (v : Jumbe) : (s.setPcore k v).out = s.out := rfl
@[simp] theorem State.setPcore_regs (k : Nat) (v : Jumbe) : (s.setPcore k v).regs = s.regs := rfl
@[simp] theorem State.setPcore_mem (k : Nat) (v : Jumbe) : (s.setPcore k v).mem = s.mem := rfl
@[simp] theorem State.setPcore_poison (k : Nat) (v : Jumbe) : (s.setPcore k v).poison = s.poison := rfl
@[simp] theorem State.setPcore_weak (k : Nat) (v : Jumbe) : (s.setPcore k v).weak = s.weak := rfl
@[simp] theorem State.setPcore_poisonRec (k : Nat) (v : Jumbe) : (s.setPcore k v).poisonRec = s.poisonRec := rfl
@[simp] theorem State.setPcore_nv (k : Nat) (v : Jumbe) : (s.setPcore k v).nv = s.nv := rfl
@[simp] theorem State.setPcore_boot (k : Nat) (v : Jumbe) : (s.setPcore k v).boot = s.boot := rfl
@[simp] theorem State.setPcore_togus (k : Nat) (v : Jumbe) : (s.setPcore k v).togus = s.togus := rfl
@[simp] theorem State.setPcore_trn (k : Nat) (v : Jumbe) : (s.setPcore k v).trn = s.trn := rfl
@[simp] theorem State.setPcore_droop (k : Nat) (v : Jumbe) : (s.setPcore k v).droop = s.droop := rfl
@[simp] theorem State.setPcore_mesh (k : Nat) (v : Jumbe) : (s.setPcore k v).mesh = s.mesh := rfl
@[simp] theorem State.setPcore_tcores (k : Nat) (v : Jumbe) : (s.setPcore k v).tcores = s.tcores := rfl
@[simp] theorem State.setPcore_ses (k : Nat) (v : Jumbe) : (s.setPcore k v).ses = s.ses := rfl
@[simp] theorem State.setPcore_fronts (k : Nat) (v : Jumbe) : (s.setPcore k v).fronts = s.fronts := rfl
@[simp] theorem State.setPcore_dir (k : Nat) (v : Jumbe) : (s.setPcore k v).dir = s.dir := rfl
@[simp] theorem State.setPcore_wcb (k : Nat) (v : Jumbe) : (s.setPcore k v).wcb = s.wcb := rfl
@[simp] theorem State.setPcore_chans (k : Nat) (v : Jumbe) : (s.setPcore k v).chans = s.chans := rfl
@[simp] theorem State.setPcore_ewt (k : Nat) (v : Jumbe) : (s.setPcore k v).ewt = s.ewt := rfl
@[simp] theorem State.setPcore_homeTransit (k : Nat) (v : Jumbe) : (s.setPcore k v).homeTransit = s.homeTransit := rfl
@[simp] theorem State.setPcore_homeLast (k : Nat) (v : Jumbe) : (s.setPcore k v).homeLast = s.homeLast := rfl
@[simp] theorem State.setPcore_okt (k : Nat) (v : Jumbe) : (s.setPcore k v).okt = s.okt := rfl
@[simp] theorem State.setPcore_oldKeys (k : Nat) (v : Jumbe) : (s.setPcore k v).oldKeys = s.oldKeys := rfl
@[simp] theorem State.setPcore_reqs (k : Nat) (v : Jumbe) : (s.setPcore k v).reqs = s.reqs := rfl
@[simp] theorem State.setPcore_gen (k : Nat) (v : Jumbe) : (s.setPcore k v).gen = s.gen := rfl
@[simp] theorem State.setPcore_epochCache (k : Nat) (v : Jumbe) : (s.setPcore k v).epochCache = s.epochCache := rfl
@[simp] theorem State.setPcore_twilightArm (k : Nat) (v : Jumbe) : (s.setPcore k v).twilightArm = s.twilightArm := rfl
@[simp] theorem State.setPcore_links (k : Nat) (v : Jumbe) : (s.setPcore k v).links = s.links := rfl
@[simp] theorem State.setPcore_routes (k : Nat) (v : Jumbe) : (s.setPcore k v).routes = s.routes := rfl
@[simp] theorem State.setPcore_police (k : Nat) (v : Jumbe) : (s.setPcore k v).police = s.police := rfl
@[simp] theorem State.setPcore_shape (k : Nat) (v : Jumbe) : (s.setPcore k v).shape = s.shape := rfl
@[simp] theorem State.setPcore_posts (k : Nat) (v : Jumbe) : (s.setPcore k v).posts = s.posts := rfl
@[simp] theorem State.setPcore_slots (k : Nat) (v : Jumbe) : (s.setPcore k v).slots = s.slots := rfl
@[simp] theorem State.setPcore_rx (k : Nat) (v : Jumbe) : (s.setPcore k v).rx = s.rx := rfl
@[simp] theorem State.setPcore_parked (k : Nat) (v : Jumbe) : (s.setPcore k v).parked = s.parked := rfl
@[simp] theorem State.setPcore_outbox (k : Nat) (v : Jumbe) : (s.setPcore k v).outbox = s.outbox := rfl
@[simp] theorem State.setPcore_tombs (k : Nat) (v : Jumbe) : (s.setPcore k v).tombs = s.tombs := rfl
@[simp] theorem State.setPcore_buried (k : Nat) (v : Jumbe) : (s.setPcore k v).buried = s.buried := rfl
@[simp] theorem State.setPcore_lostAt (k : Nat) (v : Jumbe) : (s.setPcore k v).lostAt = s.lostAt := rfl
@[simp] theorem State.setPcore_parkWaits (k : Nat) (v : Jumbe) : (s.setPcore k v).parkWaits = s.parkWaits := rfl
@[simp] theorem State.setPcore_beacons (k : Nat) (v : Jumbe) : (s.setPcore k v).beacons = s.beacons := rfl
@[simp] theorem State.setPcore_waiters (k : Nat) (v : Jumbe) : (s.setPcore k v).waiters = s.waiters := rfl
@[simp] theorem State.setPcore_epochs (k : Nat) (v : Jumbe) : (s.setPcore k v).epochs = s.epochs := rfl
@[simp] theorem State.setPcore_scan (k : Nat) (v : Jumbe) : (s.setPcore k v).scan = s.scan := rfl
@[simp] theorem State.setPcore_scanAgain (k : Nat) (v : Jumbe) : (s.setPcore k v).scanAgain = s.scanAgain := rfl
@[simp] theorem State.setPcore_nextPrio (k : Nat) (v : Jumbe) : (s.setPcore k v).nextPrio = s.nextPrio := rfl
@[simp] theorem State.setPcore_ops (k : Nat) (v : Jumbe) : (s.setPcore k v).ops = s.ops := rfl
@[simp] theorem State.setPcore_resumes (k : Nat) (v : Jumbe) : (s.setPcore k v).resumes = s.resumes := rfl
@[simp] theorem State.setPcore_rrRing (k : Nat) (v : Jumbe) : (s.setPcore k v).rrRing = s.rrRing := rfl
@[simp] theorem State.setPcore_rrPrio (k : Nat) (v : Jumbe) : (s.setPcore k v).rrPrio = s.rrPrio := rfl
@[simp] theorem State.setPcore_sinceLowPrio (k : Nat) (v : Jumbe) : (s.setPcore k v).sinceLowPrio = s.sinceLowPrio := rfl
@[simp] theorem State.setPcore_reserve (k : Nat) (v : Jumbe) : (s.setPcore k v).reserve = s.reserve := rfl
@[simp] theorem State.setPcore_endCount (k : Nat) (v : Jumbe) : (s.setPcore k v).endCount = s.endCount := rfl
@[simp] theorem State.setPcore_numVfs (k : Nat) (v : Jumbe) : (s.setPcore k v).numVfs = s.numVfs := rfl
@[simp] theorem State.setPcore_llmRetired (k : Nat) (v : Jumbe) : (s.setPcore k v).llmRetired = s.llmRetired := rfl
@[simp] theorem State.setPcore_portsRetired (k : Nat) (v : Jumbe) : (s.setPcore k v).portsRetired = s.portsRetired := rfl
@[simp] theorem State.setPcore_msix (k : Nat) (v : Jumbe) : (s.setPcore k v).msix = s.msix := rfl
@[simp] theorem State.setPcore_reports (k : Nat) (v : Jumbe) : (s.setPcore k v).reports = s.reports := rfl
@[simp] theorem State.setPcore_fatals (k : Nat) (v : Jumbe) : (s.setPcore k v).fatals = s.fatals := rfl
@[simp] theorem State.setPcore_logMeta (k : Nat) (v : Jumbe) : (s.setPcore k v).logMeta = s.logMeta := rfl
@[simp] theorem State.setPcore_recs (k : Nat) (v : Jumbe) : (s.setPcore k v).recs = s.recs := rfl
@[simp] theorem State.setPcore_recq (k : Nat) (v : Jumbe) : (s.setPcore k v).recq = s.recq := rfl
@[simp] theorem State.setPcore_alm (k : Nat) (v : Jumbe) : (s.setPcore k v).alm = s.alm := rfl
@[simp] theorem State.setPcore_nwt (k : Nat) (v : Jumbe) : (s.setPcore k v).nwt = s.nwt := rfl
@[simp] theorem State.setPcore_ecl (k : Nat) (v : Jumbe) : (s.setPcore k v).ecl = s.ecl := rfl
@[simp] theorem State.setPcore_pins (k : Nat) (v : Jumbe) : (s.setPcore k v).pins = s.pins := rfl
@[simp] theorem State.setPcore_reg (k : Nat) (v : Jumbe) (ro : Nat) : (s.setPcore k v).reg ro = s.reg ro := rfl
@[simp] theorem State.setPcore_fget (k : Nat) (v : Jumbe) (g : Fld) : (s.setPcore k v).fget g = s.fget g := rfl
@[simp] theorem State.setPcore_byte (k : Nat) (v : Jumbe) (j : Nat) : (s.setPcore k v).byte j = s.byte j := rfl

/-! After `State.setSe`. -/

@[simp] theorem State.setSe_pending (k : Nat) (v : SeState) : (s.setSe k v).pending = s.pending := rfl
@[simp] theorem State.setSe_clock (k : Nat) (v : SeState) : (s.setSe k v).clock = s.clock := rfl
@[simp] theorem State.setSe_free (k : Nat) (v : SeState) : (s.setSe k v).free = s.free := rfl
@[simp] theorem State.setSe_out (k : Nat) (v : SeState) : (s.setSe k v).out = s.out := rfl
@[simp] theorem State.setSe_regs (k : Nat) (v : SeState) : (s.setSe k v).regs = s.regs := rfl
@[simp] theorem State.setSe_mem (k : Nat) (v : SeState) : (s.setSe k v).mem = s.mem := rfl
@[simp] theorem State.setSe_poison (k : Nat) (v : SeState) : (s.setSe k v).poison = s.poison := rfl
@[simp] theorem State.setSe_weak (k : Nat) (v : SeState) : (s.setSe k v).weak = s.weak := rfl
@[simp] theorem State.setSe_poisonRec (k : Nat) (v : SeState) : (s.setSe k v).poisonRec = s.poisonRec := rfl
@[simp] theorem State.setSe_nv (k : Nat) (v : SeState) : (s.setSe k v).nv = s.nv := rfl
@[simp] theorem State.setSe_boot (k : Nat) (v : SeState) : (s.setSe k v).boot = s.boot := rfl
@[simp] theorem State.setSe_togus (k : Nat) (v : SeState) : (s.setSe k v).togus = s.togus := rfl
@[simp] theorem State.setSe_trn (k : Nat) (v : SeState) : (s.setSe k v).trn = s.trn := rfl
@[simp] theorem State.setSe_droop (k : Nat) (v : SeState) : (s.setSe k v).droop = s.droop := rfl
@[simp] theorem State.setSe_mesh (k : Nat) (v : SeState) : (s.setSe k v).mesh = s.mesh := rfl
@[simp] theorem State.setSe_tcores (k : Nat) (v : SeState) : (s.setSe k v).tcores = s.tcores := rfl
@[simp] theorem State.setSe_pcores (k : Nat) (v : SeState) : (s.setSe k v).pcores = s.pcores := rfl
@[simp] theorem State.setSe_fronts (k : Nat) (v : SeState) : (s.setSe k v).fronts = s.fronts := rfl
@[simp] theorem State.setSe_dir (k : Nat) (v : SeState) : (s.setSe k v).dir = s.dir := rfl
@[simp] theorem State.setSe_wcb (k : Nat) (v : SeState) : (s.setSe k v).wcb = s.wcb := rfl
@[simp] theorem State.setSe_chans (k : Nat) (v : SeState) : (s.setSe k v).chans = s.chans := rfl
@[simp] theorem State.setSe_ewt (k : Nat) (v : SeState) : (s.setSe k v).ewt = s.ewt := rfl
@[simp] theorem State.setSe_homeTransit (k : Nat) (v : SeState) : (s.setSe k v).homeTransit = s.homeTransit := rfl
@[simp] theorem State.setSe_homeLast (k : Nat) (v : SeState) : (s.setSe k v).homeLast = s.homeLast := rfl
@[simp] theorem State.setSe_okt (k : Nat) (v : SeState) : (s.setSe k v).okt = s.okt := rfl
@[simp] theorem State.setSe_oldKeys (k : Nat) (v : SeState) : (s.setSe k v).oldKeys = s.oldKeys := rfl
@[simp] theorem State.setSe_reqs (k : Nat) (v : SeState) : (s.setSe k v).reqs = s.reqs := rfl
@[simp] theorem State.setSe_gen (k : Nat) (v : SeState) : (s.setSe k v).gen = s.gen := rfl
@[simp] theorem State.setSe_epochCache (k : Nat) (v : SeState) : (s.setSe k v).epochCache = s.epochCache := rfl
@[simp] theorem State.setSe_twilightArm (k : Nat) (v : SeState) : (s.setSe k v).twilightArm = s.twilightArm := rfl
@[simp] theorem State.setSe_links (k : Nat) (v : SeState) : (s.setSe k v).links = s.links := rfl
@[simp] theorem State.setSe_routes (k : Nat) (v : SeState) : (s.setSe k v).routes = s.routes := rfl
@[simp] theorem State.setSe_police (k : Nat) (v : SeState) : (s.setSe k v).police = s.police := rfl
@[simp] theorem State.setSe_shape (k : Nat) (v : SeState) : (s.setSe k v).shape = s.shape := rfl
@[simp] theorem State.setSe_posts (k : Nat) (v : SeState) : (s.setSe k v).posts = s.posts := rfl
@[simp] theorem State.setSe_slots (k : Nat) (v : SeState) : (s.setSe k v).slots = s.slots := rfl
@[simp] theorem State.setSe_rx (k : Nat) (v : SeState) : (s.setSe k v).rx = s.rx := rfl
@[simp] theorem State.setSe_parked (k : Nat) (v : SeState) : (s.setSe k v).parked = s.parked := rfl
@[simp] theorem State.setSe_outbox (k : Nat) (v : SeState) : (s.setSe k v).outbox = s.outbox := rfl
@[simp] theorem State.setSe_tombs (k : Nat) (v : SeState) : (s.setSe k v).tombs = s.tombs := rfl
@[simp] theorem State.setSe_buried (k : Nat) (v : SeState) : (s.setSe k v).buried = s.buried := rfl
@[simp] theorem State.setSe_lostAt (k : Nat) (v : SeState) : (s.setSe k v).lostAt = s.lostAt := rfl
@[simp] theorem State.setSe_parkWaits (k : Nat) (v : SeState) : (s.setSe k v).parkWaits = s.parkWaits := rfl
@[simp] theorem State.setSe_beacons (k : Nat) (v : SeState) : (s.setSe k v).beacons = s.beacons := rfl
@[simp] theorem State.setSe_waiters (k : Nat) (v : SeState) : (s.setSe k v).waiters = s.waiters := rfl
@[simp] theorem State.setSe_epochs (k : Nat) (v : SeState) : (s.setSe k v).epochs = s.epochs := rfl
@[simp] theorem State.setSe_scan (k : Nat) (v : SeState) : (s.setSe k v).scan = s.scan := rfl
@[simp] theorem State.setSe_scanAgain (k : Nat) (v : SeState) : (s.setSe k v).scanAgain = s.scanAgain := rfl
@[simp] theorem State.setSe_nextPrio (k : Nat) (v : SeState) : (s.setSe k v).nextPrio = s.nextPrio := rfl
@[simp] theorem State.setSe_ops (k : Nat) (v : SeState) : (s.setSe k v).ops = s.ops := rfl
@[simp] theorem State.setSe_resumes (k : Nat) (v : SeState) : (s.setSe k v).resumes = s.resumes := rfl
@[simp] theorem State.setSe_rrRing (k : Nat) (v : SeState) : (s.setSe k v).rrRing = s.rrRing := rfl
@[simp] theorem State.setSe_rrPrio (k : Nat) (v : SeState) : (s.setSe k v).rrPrio = s.rrPrio := rfl
@[simp] theorem State.setSe_sinceLowPrio (k : Nat) (v : SeState) : (s.setSe k v).sinceLowPrio = s.sinceLowPrio := rfl
@[simp] theorem State.setSe_reserve (k : Nat) (v : SeState) : (s.setSe k v).reserve = s.reserve := rfl
@[simp] theorem State.setSe_endCount (k : Nat) (v : SeState) : (s.setSe k v).endCount = s.endCount := rfl
@[simp] theorem State.setSe_numVfs (k : Nat) (v : SeState) : (s.setSe k v).numVfs = s.numVfs := rfl
@[simp] theorem State.setSe_llmRetired (k : Nat) (v : SeState) : (s.setSe k v).llmRetired = s.llmRetired := rfl
@[simp] theorem State.setSe_portsRetired (k : Nat) (v : SeState) : (s.setSe k v).portsRetired = s.portsRetired := rfl
@[simp] theorem State.setSe_msix (k : Nat) (v : SeState) : (s.setSe k v).msix = s.msix := rfl
@[simp] theorem State.setSe_reports (k : Nat) (v : SeState) : (s.setSe k v).reports = s.reports := rfl
@[simp] theorem State.setSe_fatals (k : Nat) (v : SeState) : (s.setSe k v).fatals = s.fatals := rfl
@[simp] theorem State.setSe_logMeta (k : Nat) (v : SeState) : (s.setSe k v).logMeta = s.logMeta := rfl
@[simp] theorem State.setSe_recs (k : Nat) (v : SeState) : (s.setSe k v).recs = s.recs := rfl
@[simp] theorem State.setSe_recq (k : Nat) (v : SeState) : (s.setSe k v).recq = s.recq := rfl
@[simp] theorem State.setSe_alm (k : Nat) (v : SeState) : (s.setSe k v).alm = s.alm := rfl
@[simp] theorem State.setSe_nwt (k : Nat) (v : SeState) : (s.setSe k v).nwt = s.nwt := rfl
@[simp] theorem State.setSe_ecl (k : Nat) (v : SeState) : (s.setSe k v).ecl = s.ecl := rfl
@[simp] theorem State.setSe_pins (k : Nat) (v : SeState) : (s.setSe k v).pins = s.pins := rfl
@[simp] theorem State.setSe_reg (k : Nat) (v : SeState) (ro : Nat) : (s.setSe k v).reg ro = s.reg ro := rfl
@[simp] theorem State.setSe_fget (k : Nat) (v : SeState) (g : Fld) : (s.setSe k v).fget g = s.fget g := rfl
@[simp] theorem State.setSe_byte (k : Nat) (v : SeState) (j : Nat) : (s.setSe k v).byte j = s.byte j := rfl

/-! After `State.setFront`. -/

@[simp] theorem State.setFront_pending (k : Nat) (v : Option Nat) : (s.setFront k v).pending = s.pending := rfl
@[simp] theorem State.setFront_clock (k : Nat) (v : Option Nat) : (s.setFront k v).clock = s.clock := rfl
@[simp] theorem State.setFront_free (k : Nat) (v : Option Nat) : (s.setFront k v).free = s.free := rfl
@[simp] theorem State.setFront_out (k : Nat) (v : Option Nat) : (s.setFront k v).out = s.out := rfl
@[simp] theorem State.setFront_regs (k : Nat) (v : Option Nat) : (s.setFront k v).regs = s.regs := rfl
@[simp] theorem State.setFront_mem (k : Nat) (v : Option Nat) : (s.setFront k v).mem = s.mem := rfl
@[simp] theorem State.setFront_poison (k : Nat) (v : Option Nat) : (s.setFront k v).poison = s.poison := rfl
@[simp] theorem State.setFront_weak (k : Nat) (v : Option Nat) : (s.setFront k v).weak = s.weak := rfl
@[simp] theorem State.setFront_poisonRec (k : Nat) (v : Option Nat) : (s.setFront k v).poisonRec = s.poisonRec := rfl
@[simp] theorem State.setFront_nv (k : Nat) (v : Option Nat) : (s.setFront k v).nv = s.nv := rfl
@[simp] theorem State.setFront_boot (k : Nat) (v : Option Nat) : (s.setFront k v).boot = s.boot := rfl
@[simp] theorem State.setFront_togus (k : Nat) (v : Option Nat) : (s.setFront k v).togus = s.togus := rfl
@[simp] theorem State.setFront_trn (k : Nat) (v : Option Nat) : (s.setFront k v).trn = s.trn := rfl
@[simp] theorem State.setFront_droop (k : Nat) (v : Option Nat) : (s.setFront k v).droop = s.droop := rfl
@[simp] theorem State.setFront_mesh (k : Nat) (v : Option Nat) : (s.setFront k v).mesh = s.mesh := rfl
@[simp] theorem State.setFront_tcores (k : Nat) (v : Option Nat) : (s.setFront k v).tcores = s.tcores := rfl
@[simp] theorem State.setFront_pcores (k : Nat) (v : Option Nat) : (s.setFront k v).pcores = s.pcores := rfl
@[simp] theorem State.setFront_ses (k : Nat) (v : Option Nat) : (s.setFront k v).ses = s.ses := rfl
@[simp] theorem State.setFront_dir (k : Nat) (v : Option Nat) : (s.setFront k v).dir = s.dir := rfl
@[simp] theorem State.setFront_wcb (k : Nat) (v : Option Nat) : (s.setFront k v).wcb = s.wcb := rfl
@[simp] theorem State.setFront_chans (k : Nat) (v : Option Nat) : (s.setFront k v).chans = s.chans := rfl
@[simp] theorem State.setFront_ewt (k : Nat) (v : Option Nat) : (s.setFront k v).ewt = s.ewt := rfl
@[simp] theorem State.setFront_homeTransit (k : Nat) (v : Option Nat) : (s.setFront k v).homeTransit = s.homeTransit := rfl
@[simp] theorem State.setFront_homeLast (k : Nat) (v : Option Nat) : (s.setFront k v).homeLast = s.homeLast := rfl
@[simp] theorem State.setFront_okt (k : Nat) (v : Option Nat) : (s.setFront k v).okt = s.okt := rfl
@[simp] theorem State.setFront_oldKeys (k : Nat) (v : Option Nat) : (s.setFront k v).oldKeys = s.oldKeys := rfl
@[simp] theorem State.setFront_reqs (k : Nat) (v : Option Nat) : (s.setFront k v).reqs = s.reqs := rfl
@[simp] theorem State.setFront_gen (k : Nat) (v : Option Nat) : (s.setFront k v).gen = s.gen := rfl
@[simp] theorem State.setFront_epochCache (k : Nat) (v : Option Nat) : (s.setFront k v).epochCache = s.epochCache := rfl
@[simp] theorem State.setFront_twilightArm (k : Nat) (v : Option Nat) : (s.setFront k v).twilightArm = s.twilightArm := rfl
@[simp] theorem State.setFront_links (k : Nat) (v : Option Nat) : (s.setFront k v).links = s.links := rfl
@[simp] theorem State.setFront_routes (k : Nat) (v : Option Nat) : (s.setFront k v).routes = s.routes := rfl
@[simp] theorem State.setFront_police (k : Nat) (v : Option Nat) : (s.setFront k v).police = s.police := rfl
@[simp] theorem State.setFront_shape (k : Nat) (v : Option Nat) : (s.setFront k v).shape = s.shape := rfl
@[simp] theorem State.setFront_posts (k : Nat) (v : Option Nat) : (s.setFront k v).posts = s.posts := rfl
@[simp] theorem State.setFront_slots (k : Nat) (v : Option Nat) : (s.setFront k v).slots = s.slots := rfl
@[simp] theorem State.setFront_rx (k : Nat) (v : Option Nat) : (s.setFront k v).rx = s.rx := rfl
@[simp] theorem State.setFront_parked (k : Nat) (v : Option Nat) : (s.setFront k v).parked = s.parked := rfl
@[simp] theorem State.setFront_outbox (k : Nat) (v : Option Nat) : (s.setFront k v).outbox = s.outbox := rfl
@[simp] theorem State.setFront_tombs (k : Nat) (v : Option Nat) : (s.setFront k v).tombs = s.tombs := rfl
@[simp] theorem State.setFront_buried (k : Nat) (v : Option Nat) : (s.setFront k v).buried = s.buried := rfl
@[simp] theorem State.setFront_lostAt (k : Nat) (v : Option Nat) : (s.setFront k v).lostAt = s.lostAt := rfl
@[simp] theorem State.setFront_parkWaits (k : Nat) (v : Option Nat) : (s.setFront k v).parkWaits = s.parkWaits := rfl
@[simp] theorem State.setFront_beacons (k : Nat) (v : Option Nat) : (s.setFront k v).beacons = s.beacons := rfl
@[simp] theorem State.setFront_waiters (k : Nat) (v : Option Nat) : (s.setFront k v).waiters = s.waiters := rfl
@[simp] theorem State.setFront_epochs (k : Nat) (v : Option Nat) : (s.setFront k v).epochs = s.epochs := rfl
@[simp] theorem State.setFront_scan (k : Nat) (v : Option Nat) : (s.setFront k v).scan = s.scan := rfl
@[simp] theorem State.setFront_scanAgain (k : Nat) (v : Option Nat) : (s.setFront k v).scanAgain = s.scanAgain := rfl
@[simp] theorem State.setFront_nextPrio (k : Nat) (v : Option Nat) : (s.setFront k v).nextPrio = s.nextPrio := rfl
@[simp] theorem State.setFront_ops (k : Nat) (v : Option Nat) : (s.setFront k v).ops = s.ops := rfl
@[simp] theorem State.setFront_resumes (k : Nat) (v : Option Nat) : (s.setFront k v).resumes = s.resumes := rfl
@[simp] theorem State.setFront_rrRing (k : Nat) (v : Option Nat) : (s.setFront k v).rrRing = s.rrRing := rfl
@[simp] theorem State.setFront_rrPrio (k : Nat) (v : Option Nat) : (s.setFront k v).rrPrio = s.rrPrio := rfl
@[simp] theorem State.setFront_sinceLowPrio (k : Nat) (v : Option Nat) : (s.setFront k v).sinceLowPrio = s.sinceLowPrio := rfl
@[simp] theorem State.setFront_reserve (k : Nat) (v : Option Nat) : (s.setFront k v).reserve = s.reserve := rfl
@[simp] theorem State.setFront_endCount (k : Nat) (v : Option Nat) : (s.setFront k v).endCount = s.endCount := rfl
@[simp] theorem State.setFront_numVfs (k : Nat) (v : Option Nat) : (s.setFront k v).numVfs = s.numVfs := rfl
@[simp] theorem State.setFront_llmRetired (k : Nat) (v : Option Nat) : (s.setFront k v).llmRetired = s.llmRetired := rfl
@[simp] theorem State.setFront_portsRetired (k : Nat) (v : Option Nat) : (s.setFront k v).portsRetired = s.portsRetired := rfl
@[simp] theorem State.setFront_msix (k : Nat) (v : Option Nat) : (s.setFront k v).msix = s.msix := rfl
@[simp] theorem State.setFront_reports (k : Nat) (v : Option Nat) : (s.setFront k v).reports = s.reports := rfl
@[simp] theorem State.setFront_fatals (k : Nat) (v : Option Nat) : (s.setFront k v).fatals = s.fatals := rfl
@[simp] theorem State.setFront_logMeta (k : Nat) (v : Option Nat) : (s.setFront k v).logMeta = s.logMeta := rfl
@[simp] theorem State.setFront_recs (k : Nat) (v : Option Nat) : (s.setFront k v).recs = s.recs := rfl
@[simp] theorem State.setFront_recq (k : Nat) (v : Option Nat) : (s.setFront k v).recq = s.recq := rfl
@[simp] theorem State.setFront_alm (k : Nat) (v : Option Nat) : (s.setFront k v).alm = s.alm := rfl
@[simp] theorem State.setFront_nwt (k : Nat) (v : Option Nat) : (s.setFront k v).nwt = s.nwt := rfl
@[simp] theorem State.setFront_ecl (k : Nat) (v : Option Nat) : (s.setFront k v).ecl = s.ecl := rfl
@[simp] theorem State.setFront_pins (k : Nat) (v : Option Nat) : (s.setFront k v).pins = s.pins := rfl
@[simp] theorem State.setFront_reg (k : Nat) (v : Option Nat) (ro : Nat) : (s.setFront k v).reg ro = s.reg ro := rfl
@[simp] theorem State.setFront_fget (k : Nat) (v : Option Nat) (g : Fld) : (s.setFront k v).fget g = s.fget g := rfl
@[simp] theorem State.setFront_byte (k : Nat) (v : Option Nat) (j : Nat) : (s.setFront k v).byte j = s.byte j := rfl

/-! After `State.setMeshLink`. -/

@[simp] theorem State.setMeshLink_pending (k : Nat) (v : MeshLink) : (s.setMeshLink k v).pending = s.pending := rfl
@[simp] theorem State.setMeshLink_clock (k : Nat) (v : MeshLink) : (s.setMeshLink k v).clock = s.clock := rfl
@[simp] theorem State.setMeshLink_free (k : Nat) (v : MeshLink) : (s.setMeshLink k v).free = s.free := rfl
@[simp] theorem State.setMeshLink_out (k : Nat) (v : MeshLink) : (s.setMeshLink k v).out = s.out := rfl
@[simp] theorem State.setMeshLink_regs (k : Nat) (v : MeshLink) : (s.setMeshLink k v).regs = s.regs := rfl
@[simp] theorem State.setMeshLink_mem (k : Nat) (v : MeshLink) : (s.setMeshLink k v).mem = s.mem := rfl
@[simp] theorem State.setMeshLink_poison (k : Nat) (v : MeshLink) : (s.setMeshLink k v).poison = s.poison := rfl
@[simp] theorem State.setMeshLink_weak (k : Nat) (v : MeshLink) : (s.setMeshLink k v).weak = s.weak := rfl
@[simp] theorem State.setMeshLink_poisonRec (k : Nat) (v : MeshLink) : (s.setMeshLink k v).poisonRec = s.poisonRec := rfl
@[simp] theorem State.setMeshLink_nv (k : Nat) (v : MeshLink) : (s.setMeshLink k v).nv = s.nv := rfl
@[simp] theorem State.setMeshLink_boot (k : Nat) (v : MeshLink) : (s.setMeshLink k v).boot = s.boot := rfl
@[simp] theorem State.setMeshLink_togus (k : Nat) (v : MeshLink) : (s.setMeshLink k v).togus = s.togus := rfl
@[simp] theorem State.setMeshLink_trn (k : Nat) (v : MeshLink) : (s.setMeshLink k v).trn = s.trn := rfl
@[simp] theorem State.setMeshLink_droop (k : Nat) (v : MeshLink) : (s.setMeshLink k v).droop = s.droop := rfl
@[simp] theorem State.setMeshLink_tcores (k : Nat) (v : MeshLink) : (s.setMeshLink k v).tcores = s.tcores := rfl
@[simp] theorem State.setMeshLink_pcores (k : Nat) (v : MeshLink) : (s.setMeshLink k v).pcores = s.pcores := rfl
@[simp] theorem State.setMeshLink_ses (k : Nat) (v : MeshLink) : (s.setMeshLink k v).ses = s.ses := rfl
@[simp] theorem State.setMeshLink_fronts (k : Nat) (v : MeshLink) : (s.setMeshLink k v).fronts = s.fronts := rfl
@[simp] theorem State.setMeshLink_dir (k : Nat) (v : MeshLink) : (s.setMeshLink k v).dir = s.dir := rfl
@[simp] theorem State.setMeshLink_wcb (k : Nat) (v : MeshLink) : (s.setMeshLink k v).wcb = s.wcb := rfl
@[simp] theorem State.setMeshLink_chans (k : Nat) (v : MeshLink) : (s.setMeshLink k v).chans = s.chans := rfl
@[simp] theorem State.setMeshLink_ewt (k : Nat) (v : MeshLink) : (s.setMeshLink k v).ewt = s.ewt := rfl
@[simp] theorem State.setMeshLink_homeTransit (k : Nat) (v : MeshLink) : (s.setMeshLink k v).homeTransit = s.homeTransit := rfl
@[simp] theorem State.setMeshLink_homeLast (k : Nat) (v : MeshLink) : (s.setMeshLink k v).homeLast = s.homeLast := rfl
@[simp] theorem State.setMeshLink_okt (k : Nat) (v : MeshLink) : (s.setMeshLink k v).okt = s.okt := rfl
@[simp] theorem State.setMeshLink_oldKeys (k : Nat) (v : MeshLink) : (s.setMeshLink k v).oldKeys = s.oldKeys := rfl
@[simp] theorem State.setMeshLink_reqs (k : Nat) (v : MeshLink) : (s.setMeshLink k v).reqs = s.reqs := rfl
@[simp] theorem State.setMeshLink_gen (k : Nat) (v : MeshLink) : (s.setMeshLink k v).gen = s.gen := rfl
@[simp] theorem State.setMeshLink_epochCache (k : Nat) (v : MeshLink) : (s.setMeshLink k v).epochCache = s.epochCache := rfl
@[simp] theorem State.setMeshLink_twilightArm (k : Nat) (v : MeshLink) : (s.setMeshLink k v).twilightArm = s.twilightArm := rfl
@[simp] theorem State.setMeshLink_links (k : Nat) (v : MeshLink) : (s.setMeshLink k v).links = s.links := rfl
@[simp] theorem State.setMeshLink_routes (k : Nat) (v : MeshLink) : (s.setMeshLink k v).routes = s.routes := rfl
@[simp] theorem State.setMeshLink_police (k : Nat) (v : MeshLink) : (s.setMeshLink k v).police = s.police := rfl
@[simp] theorem State.setMeshLink_shape (k : Nat) (v : MeshLink) : (s.setMeshLink k v).shape = s.shape := rfl
@[simp] theorem State.setMeshLink_posts (k : Nat) (v : MeshLink) : (s.setMeshLink k v).posts = s.posts := rfl
@[simp] theorem State.setMeshLink_slots (k : Nat) (v : MeshLink) : (s.setMeshLink k v).slots = s.slots := rfl
@[simp] theorem State.setMeshLink_rx (k : Nat) (v : MeshLink) : (s.setMeshLink k v).rx = s.rx := rfl
@[simp] theorem State.setMeshLink_parked (k : Nat) (v : MeshLink) : (s.setMeshLink k v).parked = s.parked := rfl
@[simp] theorem State.setMeshLink_outbox (k : Nat) (v : MeshLink) : (s.setMeshLink k v).outbox = s.outbox := rfl
@[simp] theorem State.setMeshLink_tombs (k : Nat) (v : MeshLink) : (s.setMeshLink k v).tombs = s.tombs := rfl
@[simp] theorem State.setMeshLink_buried (k : Nat) (v : MeshLink) : (s.setMeshLink k v).buried = s.buried := rfl
@[simp] theorem State.setMeshLink_lostAt (k : Nat) (v : MeshLink) : (s.setMeshLink k v).lostAt = s.lostAt := rfl
@[simp] theorem State.setMeshLink_parkWaits (k : Nat) (v : MeshLink) : (s.setMeshLink k v).parkWaits = s.parkWaits := rfl
@[simp] theorem State.setMeshLink_beacons (k : Nat) (v : MeshLink) : (s.setMeshLink k v).beacons = s.beacons := rfl
@[simp] theorem State.setMeshLink_waiters (k : Nat) (v : MeshLink) : (s.setMeshLink k v).waiters = s.waiters := rfl
@[simp] theorem State.setMeshLink_epochs (k : Nat) (v : MeshLink) : (s.setMeshLink k v).epochs = s.epochs := rfl
@[simp] theorem State.setMeshLink_scan (k : Nat) (v : MeshLink) : (s.setMeshLink k v).scan = s.scan := rfl
@[simp] theorem State.setMeshLink_scanAgain (k : Nat) (v : MeshLink) : (s.setMeshLink k v).scanAgain = s.scanAgain := rfl
@[simp] theorem State.setMeshLink_nextPrio (k : Nat) (v : MeshLink) : (s.setMeshLink k v).nextPrio = s.nextPrio := rfl
@[simp] theorem State.setMeshLink_ops (k : Nat) (v : MeshLink) : (s.setMeshLink k v).ops = s.ops := rfl
@[simp] theorem State.setMeshLink_resumes (k : Nat) (v : MeshLink) : (s.setMeshLink k v).resumes = s.resumes := rfl
@[simp] theorem State.setMeshLink_rrRing (k : Nat) (v : MeshLink) : (s.setMeshLink k v).rrRing = s.rrRing := rfl
@[simp] theorem State.setMeshLink_rrPrio (k : Nat) (v : MeshLink) : (s.setMeshLink k v).rrPrio = s.rrPrio := rfl
@[simp] theorem State.setMeshLink_sinceLowPrio (k : Nat) (v : MeshLink) : (s.setMeshLink k v).sinceLowPrio = s.sinceLowPrio := rfl
@[simp] theorem State.setMeshLink_reserve (k : Nat) (v : MeshLink) : (s.setMeshLink k v).reserve = s.reserve := rfl
@[simp] theorem State.setMeshLink_endCount (k : Nat) (v : MeshLink) : (s.setMeshLink k v).endCount = s.endCount := rfl
@[simp] theorem State.setMeshLink_numVfs (k : Nat) (v : MeshLink) : (s.setMeshLink k v).numVfs = s.numVfs := rfl
@[simp] theorem State.setMeshLink_llmRetired (k : Nat) (v : MeshLink) : (s.setMeshLink k v).llmRetired = s.llmRetired := rfl
@[simp] theorem State.setMeshLink_portsRetired (k : Nat) (v : MeshLink) : (s.setMeshLink k v).portsRetired = s.portsRetired := rfl
@[simp] theorem State.setMeshLink_msix (k : Nat) (v : MeshLink) : (s.setMeshLink k v).msix = s.msix := rfl
@[simp] theorem State.setMeshLink_reports (k : Nat) (v : MeshLink) : (s.setMeshLink k v).reports = s.reports := rfl
@[simp] theorem State.setMeshLink_fatals (k : Nat) (v : MeshLink) : (s.setMeshLink k v).fatals = s.fatals := rfl
@[simp] theorem State.setMeshLink_logMeta (k : Nat) (v : MeshLink) : (s.setMeshLink k v).logMeta = s.logMeta := rfl
@[simp] theorem State.setMeshLink_recs (k : Nat) (v : MeshLink) : (s.setMeshLink k v).recs = s.recs := rfl
@[simp] theorem State.setMeshLink_recq (k : Nat) (v : MeshLink) : (s.setMeshLink k v).recq = s.recq := rfl
@[simp] theorem State.setMeshLink_alm (k : Nat) (v : MeshLink) : (s.setMeshLink k v).alm = s.alm := rfl
@[simp] theorem State.setMeshLink_nwt (k : Nat) (v : MeshLink) : (s.setMeshLink k v).nwt = s.nwt := rfl
@[simp] theorem State.setMeshLink_ecl (k : Nat) (v : MeshLink) : (s.setMeshLink k v).ecl = s.ecl := rfl
@[simp] theorem State.setMeshLink_pins (k : Nat) (v : MeshLink) : (s.setMeshLink k v).pins = s.pins := rfl
@[simp] theorem State.setMeshLink_reg (k : Nat) (v : MeshLink) (ro : Nat) : (s.setMeshLink k v).reg ro = s.reg ro := rfl
@[simp] theorem State.setMeshLink_fget (k : Nat) (v : MeshLink) (g : Fld) : (s.setMeshLink k v).fget g = s.fget g := rfl
@[simp] theorem State.setMeshLink_byte (k : Nat) (v : MeshLink) (j : Nat) : (s.setMeshLink k v).byte j = s.byte j := rfl

/-! After `State.setDroopOf`. -/

@[simp] theorem State.setDroopOf_pending (k : Nat) (v : Droop) : (s.setDroopOf k v).pending = s.pending := rfl
@[simp] theorem State.setDroopOf_clock (k : Nat) (v : Droop) : (s.setDroopOf k v).clock = s.clock := rfl
@[simp] theorem State.setDroopOf_free (k : Nat) (v : Droop) : (s.setDroopOf k v).free = s.free := rfl
@[simp] theorem State.setDroopOf_out (k : Nat) (v : Droop) : (s.setDroopOf k v).out = s.out := rfl
@[simp] theorem State.setDroopOf_regs (k : Nat) (v : Droop) : (s.setDroopOf k v).regs = s.regs := rfl
@[simp] theorem State.setDroopOf_mem (k : Nat) (v : Droop) : (s.setDroopOf k v).mem = s.mem := rfl
@[simp] theorem State.setDroopOf_poison (k : Nat) (v : Droop) : (s.setDroopOf k v).poison = s.poison := rfl
@[simp] theorem State.setDroopOf_weak (k : Nat) (v : Droop) : (s.setDroopOf k v).weak = s.weak := rfl
@[simp] theorem State.setDroopOf_poisonRec (k : Nat) (v : Droop) : (s.setDroopOf k v).poisonRec = s.poisonRec := rfl
@[simp] theorem State.setDroopOf_nv (k : Nat) (v : Droop) : (s.setDroopOf k v).nv = s.nv := rfl
@[simp] theorem State.setDroopOf_boot (k : Nat) (v : Droop) : (s.setDroopOf k v).boot = s.boot := rfl
@[simp] theorem State.setDroopOf_togus (k : Nat) (v : Droop) : (s.setDroopOf k v).togus = s.togus := rfl
@[simp] theorem State.setDroopOf_trn (k : Nat) (v : Droop) : (s.setDroopOf k v).trn = s.trn := rfl
@[simp] theorem State.setDroopOf_mesh (k : Nat) (v : Droop) : (s.setDroopOf k v).mesh = s.mesh := rfl
@[simp] theorem State.setDroopOf_tcores (k : Nat) (v : Droop) : (s.setDroopOf k v).tcores = s.tcores := rfl
@[simp] theorem State.setDroopOf_pcores (k : Nat) (v : Droop) : (s.setDroopOf k v).pcores = s.pcores := rfl
@[simp] theorem State.setDroopOf_ses (k : Nat) (v : Droop) : (s.setDroopOf k v).ses = s.ses := rfl
@[simp] theorem State.setDroopOf_fronts (k : Nat) (v : Droop) : (s.setDroopOf k v).fronts = s.fronts := rfl
@[simp] theorem State.setDroopOf_dir (k : Nat) (v : Droop) : (s.setDroopOf k v).dir = s.dir := rfl
@[simp] theorem State.setDroopOf_wcb (k : Nat) (v : Droop) : (s.setDroopOf k v).wcb = s.wcb := rfl
@[simp] theorem State.setDroopOf_chans (k : Nat) (v : Droop) : (s.setDroopOf k v).chans = s.chans := rfl
@[simp] theorem State.setDroopOf_ewt (k : Nat) (v : Droop) : (s.setDroopOf k v).ewt = s.ewt := rfl
@[simp] theorem State.setDroopOf_homeTransit (k : Nat) (v : Droop) : (s.setDroopOf k v).homeTransit = s.homeTransit := rfl
@[simp] theorem State.setDroopOf_homeLast (k : Nat) (v : Droop) : (s.setDroopOf k v).homeLast = s.homeLast := rfl
@[simp] theorem State.setDroopOf_okt (k : Nat) (v : Droop) : (s.setDroopOf k v).okt = s.okt := rfl
@[simp] theorem State.setDroopOf_oldKeys (k : Nat) (v : Droop) : (s.setDroopOf k v).oldKeys = s.oldKeys := rfl
@[simp] theorem State.setDroopOf_reqs (k : Nat) (v : Droop) : (s.setDroopOf k v).reqs = s.reqs := rfl
@[simp] theorem State.setDroopOf_gen (k : Nat) (v : Droop) : (s.setDroopOf k v).gen = s.gen := rfl
@[simp] theorem State.setDroopOf_epochCache (k : Nat) (v : Droop) : (s.setDroopOf k v).epochCache = s.epochCache := rfl
@[simp] theorem State.setDroopOf_twilightArm (k : Nat) (v : Droop) : (s.setDroopOf k v).twilightArm = s.twilightArm := rfl
@[simp] theorem State.setDroopOf_links (k : Nat) (v : Droop) : (s.setDroopOf k v).links = s.links := rfl
@[simp] theorem State.setDroopOf_routes (k : Nat) (v : Droop) : (s.setDroopOf k v).routes = s.routes := rfl
@[simp] theorem State.setDroopOf_police (k : Nat) (v : Droop) : (s.setDroopOf k v).police = s.police := rfl
@[simp] theorem State.setDroopOf_shape (k : Nat) (v : Droop) : (s.setDroopOf k v).shape = s.shape := rfl
@[simp] theorem State.setDroopOf_posts (k : Nat) (v : Droop) : (s.setDroopOf k v).posts = s.posts := rfl
@[simp] theorem State.setDroopOf_slots (k : Nat) (v : Droop) : (s.setDroopOf k v).slots = s.slots := rfl
@[simp] theorem State.setDroopOf_rx (k : Nat) (v : Droop) : (s.setDroopOf k v).rx = s.rx := rfl
@[simp] theorem State.setDroopOf_parked (k : Nat) (v : Droop) : (s.setDroopOf k v).parked = s.parked := rfl
@[simp] theorem State.setDroopOf_outbox (k : Nat) (v : Droop) : (s.setDroopOf k v).outbox = s.outbox := rfl
@[simp] theorem State.setDroopOf_tombs (k : Nat) (v : Droop) : (s.setDroopOf k v).tombs = s.tombs := rfl
@[simp] theorem State.setDroopOf_buried (k : Nat) (v : Droop) : (s.setDroopOf k v).buried = s.buried := rfl
@[simp] theorem State.setDroopOf_lostAt (k : Nat) (v : Droop) : (s.setDroopOf k v).lostAt = s.lostAt := rfl
@[simp] theorem State.setDroopOf_parkWaits (k : Nat) (v : Droop) : (s.setDroopOf k v).parkWaits = s.parkWaits := rfl
@[simp] theorem State.setDroopOf_beacons (k : Nat) (v : Droop) : (s.setDroopOf k v).beacons = s.beacons := rfl
@[simp] theorem State.setDroopOf_waiters (k : Nat) (v : Droop) : (s.setDroopOf k v).waiters = s.waiters := rfl
@[simp] theorem State.setDroopOf_epochs (k : Nat) (v : Droop) : (s.setDroopOf k v).epochs = s.epochs := rfl
@[simp] theorem State.setDroopOf_scan (k : Nat) (v : Droop) : (s.setDroopOf k v).scan = s.scan := rfl
@[simp] theorem State.setDroopOf_scanAgain (k : Nat) (v : Droop) : (s.setDroopOf k v).scanAgain = s.scanAgain := rfl
@[simp] theorem State.setDroopOf_nextPrio (k : Nat) (v : Droop) : (s.setDroopOf k v).nextPrio = s.nextPrio := rfl
@[simp] theorem State.setDroopOf_ops (k : Nat) (v : Droop) : (s.setDroopOf k v).ops = s.ops := rfl
@[simp] theorem State.setDroopOf_resumes (k : Nat) (v : Droop) : (s.setDroopOf k v).resumes = s.resumes := rfl
@[simp] theorem State.setDroopOf_rrRing (k : Nat) (v : Droop) : (s.setDroopOf k v).rrRing = s.rrRing := rfl
@[simp] theorem State.setDroopOf_rrPrio (k : Nat) (v : Droop) : (s.setDroopOf k v).rrPrio = s.rrPrio := rfl
@[simp] theorem State.setDroopOf_sinceLowPrio (k : Nat) (v : Droop) : (s.setDroopOf k v).sinceLowPrio = s.sinceLowPrio := rfl
@[simp] theorem State.setDroopOf_reserve (k : Nat) (v : Droop) : (s.setDroopOf k v).reserve = s.reserve := rfl
@[simp] theorem State.setDroopOf_endCount (k : Nat) (v : Droop) : (s.setDroopOf k v).endCount = s.endCount := rfl
@[simp] theorem State.setDroopOf_numVfs (k : Nat) (v : Droop) : (s.setDroopOf k v).numVfs = s.numVfs := rfl
@[simp] theorem State.setDroopOf_llmRetired (k : Nat) (v : Droop) : (s.setDroopOf k v).llmRetired = s.llmRetired := rfl
@[simp] theorem State.setDroopOf_portsRetired (k : Nat) (v : Droop) : (s.setDroopOf k v).portsRetired = s.portsRetired := rfl
@[simp] theorem State.setDroopOf_msix (k : Nat) (v : Droop) : (s.setDroopOf k v).msix = s.msix := rfl
@[simp] theorem State.setDroopOf_reports (k : Nat) (v : Droop) : (s.setDroopOf k v).reports = s.reports := rfl
@[simp] theorem State.setDroopOf_fatals (k : Nat) (v : Droop) : (s.setDroopOf k v).fatals = s.fatals := rfl
@[simp] theorem State.setDroopOf_logMeta (k : Nat) (v : Droop) : (s.setDroopOf k v).logMeta = s.logMeta := rfl
@[simp] theorem State.setDroopOf_recs (k : Nat) (v : Droop) : (s.setDroopOf k v).recs = s.recs := rfl
@[simp] theorem State.setDroopOf_recq (k : Nat) (v : Droop) : (s.setDroopOf k v).recq = s.recq := rfl
@[simp] theorem State.setDroopOf_alm (k : Nat) (v : Droop) : (s.setDroopOf k v).alm = s.alm := rfl
@[simp] theorem State.setDroopOf_nwt (k : Nat) (v : Droop) : (s.setDroopOf k v).nwt = s.nwt := rfl
@[simp] theorem State.setDroopOf_ecl (k : Nat) (v : Droop) : (s.setDroopOf k v).ecl = s.ecl := rfl
@[simp] theorem State.setDroopOf_pins (k : Nat) (v : Droop) : (s.setDroopOf k v).pins = s.pins := rfl
@[simp] theorem State.setDroopOf_reg (k : Nat) (v : Droop) (ro : Nat) : (s.setDroopOf k v).reg ro = s.reg ro := rfl
@[simp] theorem State.setDroopOf_fget (k : Nat) (v : Droop) (g : Fld) : (s.setDroopOf k v).fget g = s.fget g := rfl
@[simp] theorem State.setDroopOf_byte (k : Nat) (v : Droop) (j : Nat) : (s.setDroopOf k v).byte j = s.byte j := rfl

/-! After `State.setDirLine`. -/

@[simp] theorem State.setDirLine_pending (k : Nat) (v : DirLine) : (s.setDirLine k v).pending = s.pending := rfl
@[simp] theorem State.setDirLine_clock (k : Nat) (v : DirLine) : (s.setDirLine k v).clock = s.clock := rfl
@[simp] theorem State.setDirLine_free (k : Nat) (v : DirLine) : (s.setDirLine k v).free = s.free := rfl
@[simp] theorem State.setDirLine_out (k : Nat) (v : DirLine) : (s.setDirLine k v).out = s.out := rfl
@[simp] theorem State.setDirLine_regs (k : Nat) (v : DirLine) : (s.setDirLine k v).regs = s.regs := rfl
@[simp] theorem State.setDirLine_mem (k : Nat) (v : DirLine) : (s.setDirLine k v).mem = s.mem := rfl
@[simp] theorem State.setDirLine_poison (k : Nat) (v : DirLine) : (s.setDirLine k v).poison = s.poison := rfl
@[simp] theorem State.setDirLine_weak (k : Nat) (v : DirLine) : (s.setDirLine k v).weak = s.weak := rfl
@[simp] theorem State.setDirLine_poisonRec (k : Nat) (v : DirLine) : (s.setDirLine k v).poisonRec = s.poisonRec := rfl
@[simp] theorem State.setDirLine_nv (k : Nat) (v : DirLine) : (s.setDirLine k v).nv = s.nv := rfl
@[simp] theorem State.setDirLine_boot (k : Nat) (v : DirLine) : (s.setDirLine k v).boot = s.boot := rfl
@[simp] theorem State.setDirLine_togus (k : Nat) (v : DirLine) : (s.setDirLine k v).togus = s.togus := rfl
@[simp] theorem State.setDirLine_trn (k : Nat) (v : DirLine) : (s.setDirLine k v).trn = s.trn := rfl
@[simp] theorem State.setDirLine_droop (k : Nat) (v : DirLine) : (s.setDirLine k v).droop = s.droop := rfl
@[simp] theorem State.setDirLine_mesh (k : Nat) (v : DirLine) : (s.setDirLine k v).mesh = s.mesh := rfl
@[simp] theorem State.setDirLine_tcores (k : Nat) (v : DirLine) : (s.setDirLine k v).tcores = s.tcores := rfl
@[simp] theorem State.setDirLine_pcores (k : Nat) (v : DirLine) : (s.setDirLine k v).pcores = s.pcores := rfl
@[simp] theorem State.setDirLine_ses (k : Nat) (v : DirLine) : (s.setDirLine k v).ses = s.ses := rfl
@[simp] theorem State.setDirLine_fronts (k : Nat) (v : DirLine) : (s.setDirLine k v).fronts = s.fronts := rfl
@[simp] theorem State.setDirLine_wcb (k : Nat) (v : DirLine) : (s.setDirLine k v).wcb = s.wcb := rfl
@[simp] theorem State.setDirLine_chans (k : Nat) (v : DirLine) : (s.setDirLine k v).chans = s.chans := rfl
@[simp] theorem State.setDirLine_ewt (k : Nat) (v : DirLine) : (s.setDirLine k v).ewt = s.ewt := rfl
@[simp] theorem State.setDirLine_homeTransit (k : Nat) (v : DirLine) : (s.setDirLine k v).homeTransit = s.homeTransit := rfl
@[simp] theorem State.setDirLine_homeLast (k : Nat) (v : DirLine) : (s.setDirLine k v).homeLast = s.homeLast := rfl
@[simp] theorem State.setDirLine_okt (k : Nat) (v : DirLine) : (s.setDirLine k v).okt = s.okt := rfl
@[simp] theorem State.setDirLine_oldKeys (k : Nat) (v : DirLine) : (s.setDirLine k v).oldKeys = s.oldKeys := rfl
@[simp] theorem State.setDirLine_reqs (k : Nat) (v : DirLine) : (s.setDirLine k v).reqs = s.reqs := rfl
@[simp] theorem State.setDirLine_gen (k : Nat) (v : DirLine) : (s.setDirLine k v).gen = s.gen := rfl
@[simp] theorem State.setDirLine_epochCache (k : Nat) (v : DirLine) : (s.setDirLine k v).epochCache = s.epochCache := rfl
@[simp] theorem State.setDirLine_twilightArm (k : Nat) (v : DirLine) : (s.setDirLine k v).twilightArm = s.twilightArm := rfl
@[simp] theorem State.setDirLine_links (k : Nat) (v : DirLine) : (s.setDirLine k v).links = s.links := rfl
@[simp] theorem State.setDirLine_routes (k : Nat) (v : DirLine) : (s.setDirLine k v).routes = s.routes := rfl
@[simp] theorem State.setDirLine_police (k : Nat) (v : DirLine) : (s.setDirLine k v).police = s.police := rfl
@[simp] theorem State.setDirLine_shape (k : Nat) (v : DirLine) : (s.setDirLine k v).shape = s.shape := rfl
@[simp] theorem State.setDirLine_posts (k : Nat) (v : DirLine) : (s.setDirLine k v).posts = s.posts := rfl
@[simp] theorem State.setDirLine_slots (k : Nat) (v : DirLine) : (s.setDirLine k v).slots = s.slots := rfl
@[simp] theorem State.setDirLine_rx (k : Nat) (v : DirLine) : (s.setDirLine k v).rx = s.rx := rfl
@[simp] theorem State.setDirLine_parked (k : Nat) (v : DirLine) : (s.setDirLine k v).parked = s.parked := rfl
@[simp] theorem State.setDirLine_outbox (k : Nat) (v : DirLine) : (s.setDirLine k v).outbox = s.outbox := rfl
@[simp] theorem State.setDirLine_tombs (k : Nat) (v : DirLine) : (s.setDirLine k v).tombs = s.tombs := rfl
@[simp] theorem State.setDirLine_buried (k : Nat) (v : DirLine) : (s.setDirLine k v).buried = s.buried := rfl
@[simp] theorem State.setDirLine_lostAt (k : Nat) (v : DirLine) : (s.setDirLine k v).lostAt = s.lostAt := rfl
@[simp] theorem State.setDirLine_parkWaits (k : Nat) (v : DirLine) : (s.setDirLine k v).parkWaits = s.parkWaits := rfl
@[simp] theorem State.setDirLine_beacons (k : Nat) (v : DirLine) : (s.setDirLine k v).beacons = s.beacons := rfl
@[simp] theorem State.setDirLine_waiters (k : Nat) (v : DirLine) : (s.setDirLine k v).waiters = s.waiters := rfl
@[simp] theorem State.setDirLine_epochs (k : Nat) (v : DirLine) : (s.setDirLine k v).epochs = s.epochs := rfl
@[simp] theorem State.setDirLine_scan (k : Nat) (v : DirLine) : (s.setDirLine k v).scan = s.scan := rfl
@[simp] theorem State.setDirLine_scanAgain (k : Nat) (v : DirLine) : (s.setDirLine k v).scanAgain = s.scanAgain := rfl
@[simp] theorem State.setDirLine_nextPrio (k : Nat) (v : DirLine) : (s.setDirLine k v).nextPrio = s.nextPrio := rfl
@[simp] theorem State.setDirLine_ops (k : Nat) (v : DirLine) : (s.setDirLine k v).ops = s.ops := rfl
@[simp] theorem State.setDirLine_resumes (k : Nat) (v : DirLine) : (s.setDirLine k v).resumes = s.resumes := rfl
@[simp] theorem State.setDirLine_rrRing (k : Nat) (v : DirLine) : (s.setDirLine k v).rrRing = s.rrRing := rfl
@[simp] theorem State.setDirLine_rrPrio (k : Nat) (v : DirLine) : (s.setDirLine k v).rrPrio = s.rrPrio := rfl
@[simp] theorem State.setDirLine_sinceLowPrio (k : Nat) (v : DirLine) : (s.setDirLine k v).sinceLowPrio = s.sinceLowPrio := rfl
@[simp] theorem State.setDirLine_reserve (k : Nat) (v : DirLine) : (s.setDirLine k v).reserve = s.reserve := rfl
@[simp] theorem State.setDirLine_endCount (k : Nat) (v : DirLine) : (s.setDirLine k v).endCount = s.endCount := rfl
@[simp] theorem State.setDirLine_numVfs (k : Nat) (v : DirLine) : (s.setDirLine k v).numVfs = s.numVfs := rfl
@[simp] theorem State.setDirLine_llmRetired (k : Nat) (v : DirLine) : (s.setDirLine k v).llmRetired = s.llmRetired := rfl
@[simp] theorem State.setDirLine_portsRetired (k : Nat) (v : DirLine) : (s.setDirLine k v).portsRetired = s.portsRetired := rfl
@[simp] theorem State.setDirLine_msix (k : Nat) (v : DirLine) : (s.setDirLine k v).msix = s.msix := rfl
@[simp] theorem State.setDirLine_reports (k : Nat) (v : DirLine) : (s.setDirLine k v).reports = s.reports := rfl
@[simp] theorem State.setDirLine_fatals (k : Nat) (v : DirLine) : (s.setDirLine k v).fatals = s.fatals := rfl
@[simp] theorem State.setDirLine_logMeta (k : Nat) (v : DirLine) : (s.setDirLine k v).logMeta = s.logMeta := rfl
@[simp] theorem State.setDirLine_recs (k : Nat) (v : DirLine) : (s.setDirLine k v).recs = s.recs := rfl
@[simp] theorem State.setDirLine_recq (k : Nat) (v : DirLine) : (s.setDirLine k v).recq = s.recq := rfl
@[simp] theorem State.setDirLine_alm (k : Nat) (v : DirLine) : (s.setDirLine k v).alm = s.alm := rfl
@[simp] theorem State.setDirLine_nwt (k : Nat) (v : DirLine) : (s.setDirLine k v).nwt = s.nwt := rfl
@[simp] theorem State.setDirLine_ecl (k : Nat) (v : DirLine) : (s.setDirLine k v).ecl = s.ecl := rfl
@[simp] theorem State.setDirLine_pins (k : Nat) (v : DirLine) : (s.setDirLine k v).pins = s.pins := rfl
@[simp] theorem State.setDirLine_reg (k : Nat) (v : DirLine) (ro : Nat) : (s.setDirLine k v).reg ro = s.reg ro := rfl
@[simp] theorem State.setDirLine_fget (k : Nat) (v : DirLine) (g : Fld) : (s.setDirLine k v).fget g = s.fget g := rfl
@[simp] theorem State.setDirLine_byte (k : Nat) (v : DirLine) (j : Nat) : (s.setDirLine k v).byte j = s.byte j := rfl

/-! After `State.setWcbOf`. -/

@[simp] theorem State.setWcbOf_pending (k : Nat) (v : List WcbEntry) : (s.setWcbOf k v).pending = s.pending := rfl
@[simp] theorem State.setWcbOf_clock (k : Nat) (v : List WcbEntry) : (s.setWcbOf k v).clock = s.clock := rfl
@[simp] theorem State.setWcbOf_free (k : Nat) (v : List WcbEntry) : (s.setWcbOf k v).free = s.free := rfl
@[simp] theorem State.setWcbOf_out (k : Nat) (v : List WcbEntry) : (s.setWcbOf k v).out = s.out := rfl
@[simp] theorem State.setWcbOf_regs (k : Nat) (v : List WcbEntry) : (s.setWcbOf k v).regs = s.regs := rfl
@[simp] theorem State.setWcbOf_mem (k : Nat) (v : List WcbEntry) : (s.setWcbOf k v).mem = s.mem := rfl
@[simp] theorem State.setWcbOf_poison (k : Nat) (v : List WcbEntry) : (s.setWcbOf k v).poison = s.poison := rfl
@[simp] theorem State.setWcbOf_weak (k : Nat) (v : List WcbEntry) : (s.setWcbOf k v).weak = s.weak := rfl
@[simp] theorem State.setWcbOf_poisonRec (k : Nat) (v : List WcbEntry) : (s.setWcbOf k v).poisonRec = s.poisonRec := rfl
@[simp] theorem State.setWcbOf_nv (k : Nat) (v : List WcbEntry) : (s.setWcbOf k v).nv = s.nv := rfl
@[simp] theorem State.setWcbOf_boot (k : Nat) (v : List WcbEntry) : (s.setWcbOf k v).boot = s.boot := rfl
@[simp] theorem State.setWcbOf_togus (k : Nat) (v : List WcbEntry) : (s.setWcbOf k v).togus = s.togus := rfl
@[simp] theorem State.setWcbOf_trn (k : Nat) (v : List WcbEntry) : (s.setWcbOf k v).trn = s.trn := rfl
@[simp] theorem State.setWcbOf_droop (k : Nat) (v : List WcbEntry) : (s.setWcbOf k v).droop = s.droop := rfl
@[simp] theorem State.setWcbOf_mesh (k : Nat) (v : List WcbEntry) : (s.setWcbOf k v).mesh = s.mesh := rfl
@[simp] theorem State.setWcbOf_tcores (k : Nat) (v : List WcbEntry) : (s.setWcbOf k v).tcores = s.tcores := rfl
@[simp] theorem State.setWcbOf_pcores (k : Nat) (v : List WcbEntry) : (s.setWcbOf k v).pcores = s.pcores := rfl
@[simp] theorem State.setWcbOf_ses (k : Nat) (v : List WcbEntry) : (s.setWcbOf k v).ses = s.ses := rfl
@[simp] theorem State.setWcbOf_fronts (k : Nat) (v : List WcbEntry) : (s.setWcbOf k v).fronts = s.fronts := rfl
@[simp] theorem State.setWcbOf_dir (k : Nat) (v : List WcbEntry) : (s.setWcbOf k v).dir = s.dir := rfl
@[simp] theorem State.setWcbOf_chans (k : Nat) (v : List WcbEntry) : (s.setWcbOf k v).chans = s.chans := rfl
@[simp] theorem State.setWcbOf_ewt (k : Nat) (v : List WcbEntry) : (s.setWcbOf k v).ewt = s.ewt := rfl
@[simp] theorem State.setWcbOf_homeTransit (k : Nat) (v : List WcbEntry) : (s.setWcbOf k v).homeTransit = s.homeTransit := rfl
@[simp] theorem State.setWcbOf_homeLast (k : Nat) (v : List WcbEntry) : (s.setWcbOf k v).homeLast = s.homeLast := rfl
@[simp] theorem State.setWcbOf_okt (k : Nat) (v : List WcbEntry) : (s.setWcbOf k v).okt = s.okt := rfl
@[simp] theorem State.setWcbOf_oldKeys (k : Nat) (v : List WcbEntry) : (s.setWcbOf k v).oldKeys = s.oldKeys := rfl
@[simp] theorem State.setWcbOf_reqs (k : Nat) (v : List WcbEntry) : (s.setWcbOf k v).reqs = s.reqs := rfl
@[simp] theorem State.setWcbOf_gen (k : Nat) (v : List WcbEntry) : (s.setWcbOf k v).gen = s.gen := rfl
@[simp] theorem State.setWcbOf_epochCache (k : Nat) (v : List WcbEntry) : (s.setWcbOf k v).epochCache = s.epochCache := rfl
@[simp] theorem State.setWcbOf_twilightArm (k : Nat) (v : List WcbEntry) : (s.setWcbOf k v).twilightArm = s.twilightArm := rfl
@[simp] theorem State.setWcbOf_links (k : Nat) (v : List WcbEntry) : (s.setWcbOf k v).links = s.links := rfl
@[simp] theorem State.setWcbOf_routes (k : Nat) (v : List WcbEntry) : (s.setWcbOf k v).routes = s.routes := rfl
@[simp] theorem State.setWcbOf_police (k : Nat) (v : List WcbEntry) : (s.setWcbOf k v).police = s.police := rfl
@[simp] theorem State.setWcbOf_shape (k : Nat) (v : List WcbEntry) : (s.setWcbOf k v).shape = s.shape := rfl
@[simp] theorem State.setWcbOf_posts (k : Nat) (v : List WcbEntry) : (s.setWcbOf k v).posts = s.posts := rfl
@[simp] theorem State.setWcbOf_slots (k : Nat) (v : List WcbEntry) : (s.setWcbOf k v).slots = s.slots := rfl
@[simp] theorem State.setWcbOf_rx (k : Nat) (v : List WcbEntry) : (s.setWcbOf k v).rx = s.rx := rfl
@[simp] theorem State.setWcbOf_parked (k : Nat) (v : List WcbEntry) : (s.setWcbOf k v).parked = s.parked := rfl
@[simp] theorem State.setWcbOf_outbox (k : Nat) (v : List WcbEntry) : (s.setWcbOf k v).outbox = s.outbox := rfl
@[simp] theorem State.setWcbOf_tombs (k : Nat) (v : List WcbEntry) : (s.setWcbOf k v).tombs = s.tombs := rfl
@[simp] theorem State.setWcbOf_buried (k : Nat) (v : List WcbEntry) : (s.setWcbOf k v).buried = s.buried := rfl
@[simp] theorem State.setWcbOf_lostAt (k : Nat) (v : List WcbEntry) : (s.setWcbOf k v).lostAt = s.lostAt := rfl
@[simp] theorem State.setWcbOf_parkWaits (k : Nat) (v : List WcbEntry) : (s.setWcbOf k v).parkWaits = s.parkWaits := rfl
@[simp] theorem State.setWcbOf_beacons (k : Nat) (v : List WcbEntry) : (s.setWcbOf k v).beacons = s.beacons := rfl
@[simp] theorem State.setWcbOf_waiters (k : Nat) (v : List WcbEntry) : (s.setWcbOf k v).waiters = s.waiters := rfl
@[simp] theorem State.setWcbOf_epochs (k : Nat) (v : List WcbEntry) : (s.setWcbOf k v).epochs = s.epochs := rfl
@[simp] theorem State.setWcbOf_scan (k : Nat) (v : List WcbEntry) : (s.setWcbOf k v).scan = s.scan := rfl
@[simp] theorem State.setWcbOf_scanAgain (k : Nat) (v : List WcbEntry) : (s.setWcbOf k v).scanAgain = s.scanAgain := rfl
@[simp] theorem State.setWcbOf_nextPrio (k : Nat) (v : List WcbEntry) : (s.setWcbOf k v).nextPrio = s.nextPrio := rfl
@[simp] theorem State.setWcbOf_ops (k : Nat) (v : List WcbEntry) : (s.setWcbOf k v).ops = s.ops := rfl
@[simp] theorem State.setWcbOf_resumes (k : Nat) (v : List WcbEntry) : (s.setWcbOf k v).resumes = s.resumes := rfl
@[simp] theorem State.setWcbOf_rrRing (k : Nat) (v : List WcbEntry) : (s.setWcbOf k v).rrRing = s.rrRing := rfl
@[simp] theorem State.setWcbOf_rrPrio (k : Nat) (v : List WcbEntry) : (s.setWcbOf k v).rrPrio = s.rrPrio := rfl
@[simp] theorem State.setWcbOf_sinceLowPrio (k : Nat) (v : List WcbEntry) : (s.setWcbOf k v).sinceLowPrio = s.sinceLowPrio := rfl
@[simp] theorem State.setWcbOf_reserve (k : Nat) (v : List WcbEntry) : (s.setWcbOf k v).reserve = s.reserve := rfl
@[simp] theorem State.setWcbOf_endCount (k : Nat) (v : List WcbEntry) : (s.setWcbOf k v).endCount = s.endCount := rfl
@[simp] theorem State.setWcbOf_numVfs (k : Nat) (v : List WcbEntry) : (s.setWcbOf k v).numVfs = s.numVfs := rfl
@[simp] theorem State.setWcbOf_llmRetired (k : Nat) (v : List WcbEntry) : (s.setWcbOf k v).llmRetired = s.llmRetired := rfl
@[simp] theorem State.setWcbOf_portsRetired (k : Nat) (v : List WcbEntry) : (s.setWcbOf k v).portsRetired = s.portsRetired := rfl
@[simp] theorem State.setWcbOf_msix (k : Nat) (v : List WcbEntry) : (s.setWcbOf k v).msix = s.msix := rfl
@[simp] theorem State.setWcbOf_reports (k : Nat) (v : List WcbEntry) : (s.setWcbOf k v).reports = s.reports := rfl
@[simp] theorem State.setWcbOf_fatals (k : Nat) (v : List WcbEntry) : (s.setWcbOf k v).fatals = s.fatals := rfl
@[simp] theorem State.setWcbOf_logMeta (k : Nat) (v : List WcbEntry) : (s.setWcbOf k v).logMeta = s.logMeta := rfl
@[simp] theorem State.setWcbOf_recs (k : Nat) (v : List WcbEntry) : (s.setWcbOf k v).recs = s.recs := rfl
@[simp] theorem State.setWcbOf_recq (k : Nat) (v : List WcbEntry) : (s.setWcbOf k v).recq = s.recq := rfl
@[simp] theorem State.setWcbOf_alm (k : Nat) (v : List WcbEntry) : (s.setWcbOf k v).alm = s.alm := rfl
@[simp] theorem State.setWcbOf_nwt (k : Nat) (v : List WcbEntry) : (s.setWcbOf k v).nwt = s.nwt := rfl
@[simp] theorem State.setWcbOf_ecl (k : Nat) (v : List WcbEntry) : (s.setWcbOf k v).ecl = s.ecl := rfl
@[simp] theorem State.setWcbOf_pins (k : Nat) (v : List WcbEntry) : (s.setWcbOf k v).pins = s.pins := rfl
@[simp] theorem State.setWcbOf_reg (k : Nat) (v : List WcbEntry) (ro : Nat) : (s.setWcbOf k v).reg ro = s.reg ro := rfl
@[simp] theorem State.setWcbOf_fget (k : Nat) (v : List WcbEntry) (g : Fld) : (s.setWcbOf k v).fget g = s.fget g := rfl
@[simp] theorem State.setWcbOf_byte (k : Nat) (v : List WcbEntry) (j : Nat) : (s.setWcbOf k v).byte j = s.byte j := rfl

/-! After `State.setChan`. -/

@[simp] theorem State.setChan_pending (k : Nat) (v : Channel) : (s.setChan k v).pending = s.pending := rfl
@[simp] theorem State.setChan_clock (k : Nat) (v : Channel) : (s.setChan k v).clock = s.clock := rfl
@[simp] theorem State.setChan_free (k : Nat) (v : Channel) : (s.setChan k v).free = s.free := rfl
@[simp] theorem State.setChan_out (k : Nat) (v : Channel) : (s.setChan k v).out = s.out := rfl
@[simp] theorem State.setChan_regs (k : Nat) (v : Channel) : (s.setChan k v).regs = s.regs := rfl
@[simp] theorem State.setChan_mem (k : Nat) (v : Channel) : (s.setChan k v).mem = s.mem := rfl
@[simp] theorem State.setChan_poison (k : Nat) (v : Channel) : (s.setChan k v).poison = s.poison := rfl
@[simp] theorem State.setChan_weak (k : Nat) (v : Channel) : (s.setChan k v).weak = s.weak := rfl
@[simp] theorem State.setChan_poisonRec (k : Nat) (v : Channel) : (s.setChan k v).poisonRec = s.poisonRec := rfl
@[simp] theorem State.setChan_nv (k : Nat) (v : Channel) : (s.setChan k v).nv = s.nv := rfl
@[simp] theorem State.setChan_boot (k : Nat) (v : Channel) : (s.setChan k v).boot = s.boot := rfl
@[simp] theorem State.setChan_togus (k : Nat) (v : Channel) : (s.setChan k v).togus = s.togus := rfl
@[simp] theorem State.setChan_trn (k : Nat) (v : Channel) : (s.setChan k v).trn = s.trn := rfl
@[simp] theorem State.setChan_droop (k : Nat) (v : Channel) : (s.setChan k v).droop = s.droop := rfl
@[simp] theorem State.setChan_mesh (k : Nat) (v : Channel) : (s.setChan k v).mesh = s.mesh := rfl
@[simp] theorem State.setChan_tcores (k : Nat) (v : Channel) : (s.setChan k v).tcores = s.tcores := rfl
@[simp] theorem State.setChan_pcores (k : Nat) (v : Channel) : (s.setChan k v).pcores = s.pcores := rfl
@[simp] theorem State.setChan_ses (k : Nat) (v : Channel) : (s.setChan k v).ses = s.ses := rfl
@[simp] theorem State.setChan_fronts (k : Nat) (v : Channel) : (s.setChan k v).fronts = s.fronts := rfl
@[simp] theorem State.setChan_dir (k : Nat) (v : Channel) : (s.setChan k v).dir = s.dir := rfl
@[simp] theorem State.setChan_wcb (k : Nat) (v : Channel) : (s.setChan k v).wcb = s.wcb := rfl
@[simp] theorem State.setChan_ewt (k : Nat) (v : Channel) : (s.setChan k v).ewt = s.ewt := rfl
@[simp] theorem State.setChan_homeTransit (k : Nat) (v : Channel) : (s.setChan k v).homeTransit = s.homeTransit := rfl
@[simp] theorem State.setChan_homeLast (k : Nat) (v : Channel) : (s.setChan k v).homeLast = s.homeLast := rfl
@[simp] theorem State.setChan_okt (k : Nat) (v : Channel) : (s.setChan k v).okt = s.okt := rfl
@[simp] theorem State.setChan_oldKeys (k : Nat) (v : Channel) : (s.setChan k v).oldKeys = s.oldKeys := rfl
@[simp] theorem State.setChan_reqs (k : Nat) (v : Channel) : (s.setChan k v).reqs = s.reqs := rfl
@[simp] theorem State.setChan_gen (k : Nat) (v : Channel) : (s.setChan k v).gen = s.gen := rfl
@[simp] theorem State.setChan_epochCache (k : Nat) (v : Channel) : (s.setChan k v).epochCache = s.epochCache := rfl
@[simp] theorem State.setChan_twilightArm (k : Nat) (v : Channel) : (s.setChan k v).twilightArm = s.twilightArm := rfl
@[simp] theorem State.setChan_links (k : Nat) (v : Channel) : (s.setChan k v).links = s.links := rfl
@[simp] theorem State.setChan_routes (k : Nat) (v : Channel) : (s.setChan k v).routes = s.routes := rfl
@[simp] theorem State.setChan_police (k : Nat) (v : Channel) : (s.setChan k v).police = s.police := rfl
@[simp] theorem State.setChan_shape (k : Nat) (v : Channel) : (s.setChan k v).shape = s.shape := rfl
@[simp] theorem State.setChan_posts (k : Nat) (v : Channel) : (s.setChan k v).posts = s.posts := rfl
@[simp] theorem State.setChan_slots (k : Nat) (v : Channel) : (s.setChan k v).slots = s.slots := rfl
@[simp] theorem State.setChan_rx (k : Nat) (v : Channel) : (s.setChan k v).rx = s.rx := rfl
@[simp] theorem State.setChan_parked (k : Nat) (v : Channel) : (s.setChan k v).parked = s.parked := rfl
@[simp] theorem State.setChan_outbox (k : Nat) (v : Channel) : (s.setChan k v).outbox = s.outbox := rfl
@[simp] theorem State.setChan_tombs (k : Nat) (v : Channel) : (s.setChan k v).tombs = s.tombs := rfl
@[simp] theorem State.setChan_buried (k : Nat) (v : Channel) : (s.setChan k v).buried = s.buried := rfl
@[simp] theorem State.setChan_lostAt (k : Nat) (v : Channel) : (s.setChan k v).lostAt = s.lostAt := rfl
@[simp] theorem State.setChan_parkWaits (k : Nat) (v : Channel) : (s.setChan k v).parkWaits = s.parkWaits := rfl
@[simp] theorem State.setChan_beacons (k : Nat) (v : Channel) : (s.setChan k v).beacons = s.beacons := rfl
@[simp] theorem State.setChan_waiters (k : Nat) (v : Channel) : (s.setChan k v).waiters = s.waiters := rfl
@[simp] theorem State.setChan_epochs (k : Nat) (v : Channel) : (s.setChan k v).epochs = s.epochs := rfl
@[simp] theorem State.setChan_scan (k : Nat) (v : Channel) : (s.setChan k v).scan = s.scan := rfl
@[simp] theorem State.setChan_scanAgain (k : Nat) (v : Channel) : (s.setChan k v).scanAgain = s.scanAgain := rfl
@[simp] theorem State.setChan_nextPrio (k : Nat) (v : Channel) : (s.setChan k v).nextPrio = s.nextPrio := rfl
@[simp] theorem State.setChan_ops (k : Nat) (v : Channel) : (s.setChan k v).ops = s.ops := rfl
@[simp] theorem State.setChan_resumes (k : Nat) (v : Channel) : (s.setChan k v).resumes = s.resumes := rfl
@[simp] theorem State.setChan_rrRing (k : Nat) (v : Channel) : (s.setChan k v).rrRing = s.rrRing := rfl
@[simp] theorem State.setChan_rrPrio (k : Nat) (v : Channel) : (s.setChan k v).rrPrio = s.rrPrio := rfl
@[simp] theorem State.setChan_sinceLowPrio (k : Nat) (v : Channel) : (s.setChan k v).sinceLowPrio = s.sinceLowPrio := rfl
@[simp] theorem State.setChan_reserve (k : Nat) (v : Channel) : (s.setChan k v).reserve = s.reserve := rfl
@[simp] theorem State.setChan_endCount (k : Nat) (v : Channel) : (s.setChan k v).endCount = s.endCount := rfl
@[simp] theorem State.setChan_numVfs (k : Nat) (v : Channel) : (s.setChan k v).numVfs = s.numVfs := rfl
@[simp] theorem State.setChan_llmRetired (k : Nat) (v : Channel) : (s.setChan k v).llmRetired = s.llmRetired := rfl
@[simp] theorem State.setChan_portsRetired (k : Nat) (v : Channel) : (s.setChan k v).portsRetired = s.portsRetired := rfl
@[simp] theorem State.setChan_msix (k : Nat) (v : Channel) : (s.setChan k v).msix = s.msix := rfl
@[simp] theorem State.setChan_reports (k : Nat) (v : Channel) : (s.setChan k v).reports = s.reports := rfl
@[simp] theorem State.setChan_fatals (k : Nat) (v : Channel) : (s.setChan k v).fatals = s.fatals := rfl
@[simp] theorem State.setChan_logMeta (k : Nat) (v : Channel) : (s.setChan k v).logMeta = s.logMeta := rfl
@[simp] theorem State.setChan_recs (k : Nat) (v : Channel) : (s.setChan k v).recs = s.recs := rfl
@[simp] theorem State.setChan_recq (k : Nat) (v : Channel) : (s.setChan k v).recq = s.recq := rfl
@[simp] theorem State.setChan_alm (k : Nat) (v : Channel) : (s.setChan k v).alm = s.alm := rfl
@[simp] theorem State.setChan_nwt (k : Nat) (v : Channel) : (s.setChan k v).nwt = s.nwt := rfl
@[simp] theorem State.setChan_ecl (k : Nat) (v : Channel) : (s.setChan k v).ecl = s.ecl := rfl
@[simp] theorem State.setChan_pins (k : Nat) (v : Channel) : (s.setChan k v).pins = s.pins := rfl
@[simp] theorem State.setChan_reg (k : Nat) (v : Channel) (ro : Nat) : (s.setChan k v).reg ro = s.reg ro := rfl
@[simp] theorem State.setChan_fget (k : Nat) (v : Channel) (g : Fld) : (s.setChan k v).fget g = s.fget g := rfl
@[simp] theorem State.setChan_byte (k : Nat) (v : Channel) (j : Nat) : (s.setChan k v).byte j = s.byte j := rfl

/-! After `State.setEwtOf`. -/

@[simp] theorem State.setEwtOf_pending (k : Nat) (v : List EpochEntry) : (s.setEwtOf k v).pending = s.pending := rfl
@[simp] theorem State.setEwtOf_clock (k : Nat) (v : List EpochEntry) : (s.setEwtOf k v).clock = s.clock := rfl
@[simp] theorem State.setEwtOf_free (k : Nat) (v : List EpochEntry) : (s.setEwtOf k v).free = s.free := rfl
@[simp] theorem State.setEwtOf_out (k : Nat) (v : List EpochEntry) : (s.setEwtOf k v).out = s.out := rfl
@[simp] theorem State.setEwtOf_regs (k : Nat) (v : List EpochEntry) : (s.setEwtOf k v).regs = s.regs := rfl
@[simp] theorem State.setEwtOf_mem (k : Nat) (v : List EpochEntry) : (s.setEwtOf k v).mem = s.mem := rfl
@[simp] theorem State.setEwtOf_poison (k : Nat) (v : List EpochEntry) : (s.setEwtOf k v).poison = s.poison := rfl
@[simp] theorem State.setEwtOf_weak (k : Nat) (v : List EpochEntry) : (s.setEwtOf k v).weak = s.weak := rfl
@[simp] theorem State.setEwtOf_poisonRec (k : Nat) (v : List EpochEntry) : (s.setEwtOf k v).poisonRec = s.poisonRec := rfl
@[simp] theorem State.setEwtOf_nv (k : Nat) (v : List EpochEntry) : (s.setEwtOf k v).nv = s.nv := rfl
@[simp] theorem State.setEwtOf_boot (k : Nat) (v : List EpochEntry) : (s.setEwtOf k v).boot = s.boot := rfl
@[simp] theorem State.setEwtOf_togus (k : Nat) (v : List EpochEntry) : (s.setEwtOf k v).togus = s.togus := rfl
@[simp] theorem State.setEwtOf_trn (k : Nat) (v : List EpochEntry) : (s.setEwtOf k v).trn = s.trn := rfl
@[simp] theorem State.setEwtOf_droop (k : Nat) (v : List EpochEntry) : (s.setEwtOf k v).droop = s.droop := rfl
@[simp] theorem State.setEwtOf_mesh (k : Nat) (v : List EpochEntry) : (s.setEwtOf k v).mesh = s.mesh := rfl
@[simp] theorem State.setEwtOf_tcores (k : Nat) (v : List EpochEntry) : (s.setEwtOf k v).tcores = s.tcores := rfl
@[simp] theorem State.setEwtOf_pcores (k : Nat) (v : List EpochEntry) : (s.setEwtOf k v).pcores = s.pcores := rfl
@[simp] theorem State.setEwtOf_ses (k : Nat) (v : List EpochEntry) : (s.setEwtOf k v).ses = s.ses := rfl
@[simp] theorem State.setEwtOf_fronts (k : Nat) (v : List EpochEntry) : (s.setEwtOf k v).fronts = s.fronts := rfl
@[simp] theorem State.setEwtOf_dir (k : Nat) (v : List EpochEntry) : (s.setEwtOf k v).dir = s.dir := rfl
@[simp] theorem State.setEwtOf_wcb (k : Nat) (v : List EpochEntry) : (s.setEwtOf k v).wcb = s.wcb := rfl
@[simp] theorem State.setEwtOf_chans (k : Nat) (v : List EpochEntry) : (s.setEwtOf k v).chans = s.chans := rfl
@[simp] theorem State.setEwtOf_homeTransit (k : Nat) (v : List EpochEntry) : (s.setEwtOf k v).homeTransit = s.homeTransit := rfl
@[simp] theorem State.setEwtOf_homeLast (k : Nat) (v : List EpochEntry) : (s.setEwtOf k v).homeLast = s.homeLast := rfl
@[simp] theorem State.setEwtOf_okt (k : Nat) (v : List EpochEntry) : (s.setEwtOf k v).okt = s.okt := rfl
@[simp] theorem State.setEwtOf_oldKeys (k : Nat) (v : List EpochEntry) : (s.setEwtOf k v).oldKeys = s.oldKeys := rfl
@[simp] theorem State.setEwtOf_reqs (k : Nat) (v : List EpochEntry) : (s.setEwtOf k v).reqs = s.reqs := rfl
@[simp] theorem State.setEwtOf_gen (k : Nat) (v : List EpochEntry) : (s.setEwtOf k v).gen = s.gen := rfl
@[simp] theorem State.setEwtOf_epochCache (k : Nat) (v : List EpochEntry) : (s.setEwtOf k v).epochCache = s.epochCache := rfl
@[simp] theorem State.setEwtOf_twilightArm (k : Nat) (v : List EpochEntry) : (s.setEwtOf k v).twilightArm = s.twilightArm := rfl
@[simp] theorem State.setEwtOf_links (k : Nat) (v : List EpochEntry) : (s.setEwtOf k v).links = s.links := rfl
@[simp] theorem State.setEwtOf_routes (k : Nat) (v : List EpochEntry) : (s.setEwtOf k v).routes = s.routes := rfl
@[simp] theorem State.setEwtOf_police (k : Nat) (v : List EpochEntry) : (s.setEwtOf k v).police = s.police := rfl
@[simp] theorem State.setEwtOf_shape (k : Nat) (v : List EpochEntry) : (s.setEwtOf k v).shape = s.shape := rfl
@[simp] theorem State.setEwtOf_posts (k : Nat) (v : List EpochEntry) : (s.setEwtOf k v).posts = s.posts := rfl
@[simp] theorem State.setEwtOf_slots (k : Nat) (v : List EpochEntry) : (s.setEwtOf k v).slots = s.slots := rfl
@[simp] theorem State.setEwtOf_rx (k : Nat) (v : List EpochEntry) : (s.setEwtOf k v).rx = s.rx := rfl
@[simp] theorem State.setEwtOf_parked (k : Nat) (v : List EpochEntry) : (s.setEwtOf k v).parked = s.parked := rfl
@[simp] theorem State.setEwtOf_outbox (k : Nat) (v : List EpochEntry) : (s.setEwtOf k v).outbox = s.outbox := rfl
@[simp] theorem State.setEwtOf_tombs (k : Nat) (v : List EpochEntry) : (s.setEwtOf k v).tombs = s.tombs := rfl
@[simp] theorem State.setEwtOf_buried (k : Nat) (v : List EpochEntry) : (s.setEwtOf k v).buried = s.buried := rfl
@[simp] theorem State.setEwtOf_lostAt (k : Nat) (v : List EpochEntry) : (s.setEwtOf k v).lostAt = s.lostAt := rfl
@[simp] theorem State.setEwtOf_parkWaits (k : Nat) (v : List EpochEntry) : (s.setEwtOf k v).parkWaits = s.parkWaits := rfl
@[simp] theorem State.setEwtOf_beacons (k : Nat) (v : List EpochEntry) : (s.setEwtOf k v).beacons = s.beacons := rfl
@[simp] theorem State.setEwtOf_waiters (k : Nat) (v : List EpochEntry) : (s.setEwtOf k v).waiters = s.waiters := rfl
@[simp] theorem State.setEwtOf_epochs (k : Nat) (v : List EpochEntry) : (s.setEwtOf k v).epochs = s.epochs := rfl
@[simp] theorem State.setEwtOf_scan (k : Nat) (v : List EpochEntry) : (s.setEwtOf k v).scan = s.scan := rfl
@[simp] theorem State.setEwtOf_scanAgain (k : Nat) (v : List EpochEntry) : (s.setEwtOf k v).scanAgain = s.scanAgain := rfl
@[simp] theorem State.setEwtOf_nextPrio (k : Nat) (v : List EpochEntry) : (s.setEwtOf k v).nextPrio = s.nextPrio := rfl
@[simp] theorem State.setEwtOf_ops (k : Nat) (v : List EpochEntry) : (s.setEwtOf k v).ops = s.ops := rfl
@[simp] theorem State.setEwtOf_resumes (k : Nat) (v : List EpochEntry) : (s.setEwtOf k v).resumes = s.resumes := rfl
@[simp] theorem State.setEwtOf_rrRing (k : Nat) (v : List EpochEntry) : (s.setEwtOf k v).rrRing = s.rrRing := rfl
@[simp] theorem State.setEwtOf_rrPrio (k : Nat) (v : List EpochEntry) : (s.setEwtOf k v).rrPrio = s.rrPrio := rfl
@[simp] theorem State.setEwtOf_sinceLowPrio (k : Nat) (v : List EpochEntry) : (s.setEwtOf k v).sinceLowPrio = s.sinceLowPrio := rfl
@[simp] theorem State.setEwtOf_reserve (k : Nat) (v : List EpochEntry) : (s.setEwtOf k v).reserve = s.reserve := rfl
@[simp] theorem State.setEwtOf_endCount (k : Nat) (v : List EpochEntry) : (s.setEwtOf k v).endCount = s.endCount := rfl
@[simp] theorem State.setEwtOf_numVfs (k : Nat) (v : List EpochEntry) : (s.setEwtOf k v).numVfs = s.numVfs := rfl
@[simp] theorem State.setEwtOf_llmRetired (k : Nat) (v : List EpochEntry) : (s.setEwtOf k v).llmRetired = s.llmRetired := rfl
@[simp] theorem State.setEwtOf_portsRetired (k : Nat) (v : List EpochEntry) : (s.setEwtOf k v).portsRetired = s.portsRetired := rfl
@[simp] theorem State.setEwtOf_msix (k : Nat) (v : List EpochEntry) : (s.setEwtOf k v).msix = s.msix := rfl
@[simp] theorem State.setEwtOf_reports (k : Nat) (v : List EpochEntry) : (s.setEwtOf k v).reports = s.reports := rfl
@[simp] theorem State.setEwtOf_fatals (k : Nat) (v : List EpochEntry) : (s.setEwtOf k v).fatals = s.fatals := rfl
@[simp] theorem State.setEwtOf_logMeta (k : Nat) (v : List EpochEntry) : (s.setEwtOf k v).logMeta = s.logMeta := rfl
@[simp] theorem State.setEwtOf_recs (k : Nat) (v : List EpochEntry) : (s.setEwtOf k v).recs = s.recs := rfl
@[simp] theorem State.setEwtOf_recq (k : Nat) (v : List EpochEntry) : (s.setEwtOf k v).recq = s.recq := rfl
@[simp] theorem State.setEwtOf_alm (k : Nat) (v : List EpochEntry) : (s.setEwtOf k v).alm = s.alm := rfl
@[simp] theorem State.setEwtOf_nwt (k : Nat) (v : List EpochEntry) : (s.setEwtOf k v).nwt = s.nwt := rfl
@[simp] theorem State.setEwtOf_ecl (k : Nat) (v : List EpochEntry) : (s.setEwtOf k v).ecl = s.ecl := rfl
@[simp] theorem State.setEwtOf_pins (k : Nat) (v : List EpochEntry) : (s.setEwtOf k v).pins = s.pins := rfl
@[simp] theorem State.setEwtOf_reg (k : Nat) (v : List EpochEntry) (ro : Nat) : (s.setEwtOf k v).reg ro = s.reg ro := rfl
@[simp] theorem State.setEwtOf_fget (k : Nat) (v : List EpochEntry) (g : Fld) : (s.setEwtOf k v).fget g = s.fget g := rfl
@[simp] theorem State.setEwtOf_byte (k : Nat) (v : List EpochEntry) (j : Nat) : (s.setEwtOf k v).byte j = s.byte j := rfl

/-! After `State.setOktOf`. -/

@[simp] theorem State.setOktOf_pending (k : Nat) (v : BitVec 128) : (s.setOktOf k v).pending = s.pending := rfl
@[simp] theorem State.setOktOf_clock (k : Nat) (v : BitVec 128) : (s.setOktOf k v).clock = s.clock := rfl
@[simp] theorem State.setOktOf_free (k : Nat) (v : BitVec 128) : (s.setOktOf k v).free = s.free := rfl
@[simp] theorem State.setOktOf_out (k : Nat) (v : BitVec 128) : (s.setOktOf k v).out = s.out := rfl
@[simp] theorem State.setOktOf_regs (k : Nat) (v : BitVec 128) : (s.setOktOf k v).regs = s.regs := rfl
@[simp] theorem State.setOktOf_mem (k : Nat) (v : BitVec 128) : (s.setOktOf k v).mem = s.mem := rfl
@[simp] theorem State.setOktOf_poison (k : Nat) (v : BitVec 128) : (s.setOktOf k v).poison = s.poison := rfl
@[simp] theorem State.setOktOf_weak (k : Nat) (v : BitVec 128) : (s.setOktOf k v).weak = s.weak := rfl
@[simp] theorem State.setOktOf_poisonRec (k : Nat) (v : BitVec 128) : (s.setOktOf k v).poisonRec = s.poisonRec := rfl
@[simp] theorem State.setOktOf_nv (k : Nat) (v : BitVec 128) : (s.setOktOf k v).nv = s.nv := rfl
@[simp] theorem State.setOktOf_boot (k : Nat) (v : BitVec 128) : (s.setOktOf k v).boot = s.boot := rfl
@[simp] theorem State.setOktOf_togus (k : Nat) (v : BitVec 128) : (s.setOktOf k v).togus = s.togus := rfl
@[simp] theorem State.setOktOf_trn (k : Nat) (v : BitVec 128) : (s.setOktOf k v).trn = s.trn := rfl
@[simp] theorem State.setOktOf_droop (k : Nat) (v : BitVec 128) : (s.setOktOf k v).droop = s.droop := rfl
@[simp] theorem State.setOktOf_mesh (k : Nat) (v : BitVec 128) : (s.setOktOf k v).mesh = s.mesh := rfl
@[simp] theorem State.setOktOf_tcores (k : Nat) (v : BitVec 128) : (s.setOktOf k v).tcores = s.tcores := rfl
@[simp] theorem State.setOktOf_pcores (k : Nat) (v : BitVec 128) : (s.setOktOf k v).pcores = s.pcores := rfl
@[simp] theorem State.setOktOf_ses (k : Nat) (v : BitVec 128) : (s.setOktOf k v).ses = s.ses := rfl
@[simp] theorem State.setOktOf_fronts (k : Nat) (v : BitVec 128) : (s.setOktOf k v).fronts = s.fronts := rfl
@[simp] theorem State.setOktOf_dir (k : Nat) (v : BitVec 128) : (s.setOktOf k v).dir = s.dir := rfl
@[simp] theorem State.setOktOf_wcb (k : Nat) (v : BitVec 128) : (s.setOktOf k v).wcb = s.wcb := rfl
@[simp] theorem State.setOktOf_chans (k : Nat) (v : BitVec 128) : (s.setOktOf k v).chans = s.chans := rfl
@[simp] theorem State.setOktOf_ewt (k : Nat) (v : BitVec 128) : (s.setOktOf k v).ewt = s.ewt := rfl
@[simp] theorem State.setOktOf_homeTransit (k : Nat) (v : BitVec 128) : (s.setOktOf k v).homeTransit = s.homeTransit := rfl
@[simp] theorem State.setOktOf_homeLast (k : Nat) (v : BitVec 128) : (s.setOktOf k v).homeLast = s.homeLast := rfl
@[simp] theorem State.setOktOf_oldKeys (k : Nat) (v : BitVec 128) : (s.setOktOf k v).oldKeys = s.oldKeys := rfl
@[simp] theorem State.setOktOf_reqs (k : Nat) (v : BitVec 128) : (s.setOktOf k v).reqs = s.reqs := rfl
@[simp] theorem State.setOktOf_gen (k : Nat) (v : BitVec 128) : (s.setOktOf k v).gen = s.gen := rfl
@[simp] theorem State.setOktOf_epochCache (k : Nat) (v : BitVec 128) : (s.setOktOf k v).epochCache = s.epochCache := rfl
@[simp] theorem State.setOktOf_twilightArm (k : Nat) (v : BitVec 128) : (s.setOktOf k v).twilightArm = s.twilightArm := rfl
@[simp] theorem State.setOktOf_links (k : Nat) (v : BitVec 128) : (s.setOktOf k v).links = s.links := rfl
@[simp] theorem State.setOktOf_routes (k : Nat) (v : BitVec 128) : (s.setOktOf k v).routes = s.routes := rfl
@[simp] theorem State.setOktOf_police (k : Nat) (v : BitVec 128) : (s.setOktOf k v).police = s.police := rfl
@[simp] theorem State.setOktOf_shape (k : Nat) (v : BitVec 128) : (s.setOktOf k v).shape = s.shape := rfl
@[simp] theorem State.setOktOf_posts (k : Nat) (v : BitVec 128) : (s.setOktOf k v).posts = s.posts := rfl
@[simp] theorem State.setOktOf_slots (k : Nat) (v : BitVec 128) : (s.setOktOf k v).slots = s.slots := rfl
@[simp] theorem State.setOktOf_rx (k : Nat) (v : BitVec 128) : (s.setOktOf k v).rx = s.rx := rfl
@[simp] theorem State.setOktOf_parked (k : Nat) (v : BitVec 128) : (s.setOktOf k v).parked = s.parked := rfl
@[simp] theorem State.setOktOf_outbox (k : Nat) (v : BitVec 128) : (s.setOktOf k v).outbox = s.outbox := rfl
@[simp] theorem State.setOktOf_tombs (k : Nat) (v : BitVec 128) : (s.setOktOf k v).tombs = s.tombs := rfl
@[simp] theorem State.setOktOf_buried (k : Nat) (v : BitVec 128) : (s.setOktOf k v).buried = s.buried := rfl
@[simp] theorem State.setOktOf_lostAt (k : Nat) (v : BitVec 128) : (s.setOktOf k v).lostAt = s.lostAt := rfl
@[simp] theorem State.setOktOf_parkWaits (k : Nat) (v : BitVec 128) : (s.setOktOf k v).parkWaits = s.parkWaits := rfl
@[simp] theorem State.setOktOf_beacons (k : Nat) (v : BitVec 128) : (s.setOktOf k v).beacons = s.beacons := rfl
@[simp] theorem State.setOktOf_waiters (k : Nat) (v : BitVec 128) : (s.setOktOf k v).waiters = s.waiters := rfl
@[simp] theorem State.setOktOf_epochs (k : Nat) (v : BitVec 128) : (s.setOktOf k v).epochs = s.epochs := rfl
@[simp] theorem State.setOktOf_scan (k : Nat) (v : BitVec 128) : (s.setOktOf k v).scan = s.scan := rfl
@[simp] theorem State.setOktOf_scanAgain (k : Nat) (v : BitVec 128) : (s.setOktOf k v).scanAgain = s.scanAgain := rfl
@[simp] theorem State.setOktOf_nextPrio (k : Nat) (v : BitVec 128) : (s.setOktOf k v).nextPrio = s.nextPrio := rfl
@[simp] theorem State.setOktOf_ops (k : Nat) (v : BitVec 128) : (s.setOktOf k v).ops = s.ops := rfl
@[simp] theorem State.setOktOf_resumes (k : Nat) (v : BitVec 128) : (s.setOktOf k v).resumes = s.resumes := rfl
@[simp] theorem State.setOktOf_rrRing (k : Nat) (v : BitVec 128) : (s.setOktOf k v).rrRing = s.rrRing := rfl
@[simp] theorem State.setOktOf_rrPrio (k : Nat) (v : BitVec 128) : (s.setOktOf k v).rrPrio = s.rrPrio := rfl
@[simp] theorem State.setOktOf_sinceLowPrio (k : Nat) (v : BitVec 128) : (s.setOktOf k v).sinceLowPrio = s.sinceLowPrio := rfl
@[simp] theorem State.setOktOf_reserve (k : Nat) (v : BitVec 128) : (s.setOktOf k v).reserve = s.reserve := rfl
@[simp] theorem State.setOktOf_endCount (k : Nat) (v : BitVec 128) : (s.setOktOf k v).endCount = s.endCount := rfl
@[simp] theorem State.setOktOf_numVfs (k : Nat) (v : BitVec 128) : (s.setOktOf k v).numVfs = s.numVfs := rfl
@[simp] theorem State.setOktOf_llmRetired (k : Nat) (v : BitVec 128) : (s.setOktOf k v).llmRetired = s.llmRetired := rfl
@[simp] theorem State.setOktOf_portsRetired (k : Nat) (v : BitVec 128) : (s.setOktOf k v).portsRetired = s.portsRetired := rfl
@[simp] theorem State.setOktOf_msix (k : Nat) (v : BitVec 128) : (s.setOktOf k v).msix = s.msix := rfl
@[simp] theorem State.setOktOf_reports (k : Nat) (v : BitVec 128) : (s.setOktOf k v).reports = s.reports := rfl
@[simp] theorem State.setOktOf_fatals (k : Nat) (v : BitVec 128) : (s.setOktOf k v).fatals = s.fatals := rfl
@[simp] theorem State.setOktOf_logMeta (k : Nat) (v : BitVec 128) : (s.setOktOf k v).logMeta = s.logMeta := rfl
@[simp] theorem State.setOktOf_recs (k : Nat) (v : BitVec 128) : (s.setOktOf k v).recs = s.recs := rfl
@[simp] theorem State.setOktOf_recq (k : Nat) (v : BitVec 128) : (s.setOktOf k v).recq = s.recq := rfl
@[simp] theorem State.setOktOf_alm (k : Nat) (v : BitVec 128) : (s.setOktOf k v).alm = s.alm := rfl
@[simp] theorem State.setOktOf_nwt (k : Nat) (v : BitVec 128) : (s.setOktOf k v).nwt = s.nwt := rfl
@[simp] theorem State.setOktOf_ecl (k : Nat) (v : BitVec 128) : (s.setOktOf k v).ecl = s.ecl := rfl
@[simp] theorem State.setOktOf_pins (k : Nat) (v : BitVec 128) : (s.setOktOf k v).pins = s.pins := rfl
@[simp] theorem State.setOktOf_reg (k : Nat) (v : BitVec 128) (ro : Nat) : (s.setOktOf k v).reg ro = s.reg ro := rfl
@[simp] theorem State.setOktOf_fget (k : Nat) (v : BitVec 128) (g : Fld) : (s.setOktOf k v).fget g = s.fget g := rfl
@[simp] theorem State.setOktOf_byte (k : Nat) (v : BitVec 128) (j : Nat) : (s.setOktOf k v).byte j = s.byte j := rfl

/-! After `State.setReq`. -/

@[simp] theorem State.setReq_pending (k : Nat) (v : Option RackOut) : (s.setReq k v).pending = s.pending := rfl
@[simp] theorem State.setReq_clock (k : Nat) (v : Option RackOut) : (s.setReq k v).clock = s.clock := rfl
@[simp] theorem State.setReq_free (k : Nat) (v : Option RackOut) : (s.setReq k v).free = s.free := rfl
@[simp] theorem State.setReq_out (k : Nat) (v : Option RackOut) : (s.setReq k v).out = s.out := rfl
@[simp] theorem State.setReq_regs (k : Nat) (v : Option RackOut) : (s.setReq k v).regs = s.regs := rfl
@[simp] theorem State.setReq_mem (k : Nat) (v : Option RackOut) : (s.setReq k v).mem = s.mem := rfl
@[simp] theorem State.setReq_poison (k : Nat) (v : Option RackOut) : (s.setReq k v).poison = s.poison := rfl
@[simp] theorem State.setReq_weak (k : Nat) (v : Option RackOut) : (s.setReq k v).weak = s.weak := rfl
@[simp] theorem State.setReq_poisonRec (k : Nat) (v : Option RackOut) : (s.setReq k v).poisonRec = s.poisonRec := rfl
@[simp] theorem State.setReq_nv (k : Nat) (v : Option RackOut) : (s.setReq k v).nv = s.nv := rfl
@[simp] theorem State.setReq_boot (k : Nat) (v : Option RackOut) : (s.setReq k v).boot = s.boot := rfl
@[simp] theorem State.setReq_togus (k : Nat) (v : Option RackOut) : (s.setReq k v).togus = s.togus := rfl
@[simp] theorem State.setReq_trn (k : Nat) (v : Option RackOut) : (s.setReq k v).trn = s.trn := rfl
@[simp] theorem State.setReq_droop (k : Nat) (v : Option RackOut) : (s.setReq k v).droop = s.droop := rfl
@[simp] theorem State.setReq_mesh (k : Nat) (v : Option RackOut) : (s.setReq k v).mesh = s.mesh := rfl
@[simp] theorem State.setReq_tcores (k : Nat) (v : Option RackOut) : (s.setReq k v).tcores = s.tcores := rfl
@[simp] theorem State.setReq_pcores (k : Nat) (v : Option RackOut) : (s.setReq k v).pcores = s.pcores := rfl
@[simp] theorem State.setReq_ses (k : Nat) (v : Option RackOut) : (s.setReq k v).ses = s.ses := rfl
@[simp] theorem State.setReq_fronts (k : Nat) (v : Option RackOut) : (s.setReq k v).fronts = s.fronts := rfl
@[simp] theorem State.setReq_dir (k : Nat) (v : Option RackOut) : (s.setReq k v).dir = s.dir := rfl
@[simp] theorem State.setReq_wcb (k : Nat) (v : Option RackOut) : (s.setReq k v).wcb = s.wcb := rfl
@[simp] theorem State.setReq_chans (k : Nat) (v : Option RackOut) : (s.setReq k v).chans = s.chans := rfl
@[simp] theorem State.setReq_ewt (k : Nat) (v : Option RackOut) : (s.setReq k v).ewt = s.ewt := rfl
@[simp] theorem State.setReq_homeTransit (k : Nat) (v : Option RackOut) : (s.setReq k v).homeTransit = s.homeTransit := rfl
@[simp] theorem State.setReq_homeLast (k : Nat) (v : Option RackOut) : (s.setReq k v).homeLast = s.homeLast := rfl
@[simp] theorem State.setReq_okt (k : Nat) (v : Option RackOut) : (s.setReq k v).okt = s.okt := rfl
@[simp] theorem State.setReq_oldKeys (k : Nat) (v : Option RackOut) : (s.setReq k v).oldKeys = s.oldKeys := rfl
@[simp] theorem State.setReq_gen (k : Nat) (v : Option RackOut) : (s.setReq k v).gen = s.gen := rfl
@[simp] theorem State.setReq_epochCache (k : Nat) (v : Option RackOut) : (s.setReq k v).epochCache = s.epochCache := rfl
@[simp] theorem State.setReq_twilightArm (k : Nat) (v : Option RackOut) : (s.setReq k v).twilightArm = s.twilightArm := rfl
@[simp] theorem State.setReq_links (k : Nat) (v : Option RackOut) : (s.setReq k v).links = s.links := rfl
@[simp] theorem State.setReq_routes (k : Nat) (v : Option RackOut) : (s.setReq k v).routes = s.routes := rfl
@[simp] theorem State.setReq_police (k : Nat) (v : Option RackOut) : (s.setReq k v).police = s.police := rfl
@[simp] theorem State.setReq_shape (k : Nat) (v : Option RackOut) : (s.setReq k v).shape = s.shape := rfl
@[simp] theorem State.setReq_posts (k : Nat) (v : Option RackOut) : (s.setReq k v).posts = s.posts := rfl
@[simp] theorem State.setReq_slots (k : Nat) (v : Option RackOut) : (s.setReq k v).slots = s.slots := rfl
@[simp] theorem State.setReq_rx (k : Nat) (v : Option RackOut) : (s.setReq k v).rx = s.rx := rfl
@[simp] theorem State.setReq_parked (k : Nat) (v : Option RackOut) : (s.setReq k v).parked = s.parked := rfl
@[simp] theorem State.setReq_outbox (k : Nat) (v : Option RackOut) : (s.setReq k v).outbox = s.outbox := rfl
@[simp] theorem State.setReq_tombs (k : Nat) (v : Option RackOut) : (s.setReq k v).tombs = s.tombs := rfl
@[simp] theorem State.setReq_buried (k : Nat) (v : Option RackOut) : (s.setReq k v).buried = s.buried := rfl
@[simp] theorem State.setReq_lostAt (k : Nat) (v : Option RackOut) : (s.setReq k v).lostAt = s.lostAt := rfl
@[simp] theorem State.setReq_parkWaits (k : Nat) (v : Option RackOut) : (s.setReq k v).parkWaits = s.parkWaits := rfl
@[simp] theorem State.setReq_beacons (k : Nat) (v : Option RackOut) : (s.setReq k v).beacons = s.beacons := rfl
@[simp] theorem State.setReq_waiters (k : Nat) (v : Option RackOut) : (s.setReq k v).waiters = s.waiters := rfl
@[simp] theorem State.setReq_epochs (k : Nat) (v : Option RackOut) : (s.setReq k v).epochs = s.epochs := rfl
@[simp] theorem State.setReq_scan (k : Nat) (v : Option RackOut) : (s.setReq k v).scan = s.scan := rfl
@[simp] theorem State.setReq_scanAgain (k : Nat) (v : Option RackOut) : (s.setReq k v).scanAgain = s.scanAgain := rfl
@[simp] theorem State.setReq_nextPrio (k : Nat) (v : Option RackOut) : (s.setReq k v).nextPrio = s.nextPrio := rfl
@[simp] theorem State.setReq_ops (k : Nat) (v : Option RackOut) : (s.setReq k v).ops = s.ops := rfl
@[simp] theorem State.setReq_resumes (k : Nat) (v : Option RackOut) : (s.setReq k v).resumes = s.resumes := rfl
@[simp] theorem State.setReq_rrRing (k : Nat) (v : Option RackOut) : (s.setReq k v).rrRing = s.rrRing := rfl
@[simp] theorem State.setReq_rrPrio (k : Nat) (v : Option RackOut) : (s.setReq k v).rrPrio = s.rrPrio := rfl
@[simp] theorem State.setReq_sinceLowPrio (k : Nat) (v : Option RackOut) : (s.setReq k v).sinceLowPrio = s.sinceLowPrio := rfl
@[simp] theorem State.setReq_reserve (k : Nat) (v : Option RackOut) : (s.setReq k v).reserve = s.reserve := rfl
@[simp] theorem State.setReq_endCount (k : Nat) (v : Option RackOut) : (s.setReq k v).endCount = s.endCount := rfl
@[simp] theorem State.setReq_numVfs (k : Nat) (v : Option RackOut) : (s.setReq k v).numVfs = s.numVfs := rfl
@[simp] theorem State.setReq_llmRetired (k : Nat) (v : Option RackOut) : (s.setReq k v).llmRetired = s.llmRetired := rfl
@[simp] theorem State.setReq_portsRetired (k : Nat) (v : Option RackOut) : (s.setReq k v).portsRetired = s.portsRetired := rfl
@[simp] theorem State.setReq_msix (k : Nat) (v : Option RackOut) : (s.setReq k v).msix = s.msix := rfl
@[simp] theorem State.setReq_reports (k : Nat) (v : Option RackOut) : (s.setReq k v).reports = s.reports := rfl
@[simp] theorem State.setReq_fatals (k : Nat) (v : Option RackOut) : (s.setReq k v).fatals = s.fatals := rfl
@[simp] theorem State.setReq_logMeta (k : Nat) (v : Option RackOut) : (s.setReq k v).logMeta = s.logMeta := rfl
@[simp] theorem State.setReq_recs (k : Nat) (v : Option RackOut) : (s.setReq k v).recs = s.recs := rfl
@[simp] theorem State.setReq_recq (k : Nat) (v : Option RackOut) : (s.setReq k v).recq = s.recq := rfl
@[simp] theorem State.setReq_alm (k : Nat) (v : Option RackOut) : (s.setReq k v).alm = s.alm := rfl
@[simp] theorem State.setReq_nwt (k : Nat) (v : Option RackOut) : (s.setReq k v).nwt = s.nwt := rfl
@[simp] theorem State.setReq_ecl (k : Nat) (v : Option RackOut) : (s.setReq k v).ecl = s.ecl := rfl
@[simp] theorem State.setReq_pins (k : Nat) (v : Option RackOut) : (s.setReq k v).pins = s.pins := rfl
@[simp] theorem State.setReq_reg (k : Nat) (v : Option RackOut) (ro : Nat) : (s.setReq k v).reg ro = s.reg ro := rfl
@[simp] theorem State.setReq_fget (k : Nat) (v : Option RackOut) (g : Fld) : (s.setReq k v).fget g = s.fget g := rfl
@[simp] theorem State.setReq_byte (k : Nat) (v : Option RackOut) (j : Nat) : (s.setReq k v).byte j = s.byte j := rfl

/-! After `State.setLink`. -/

@[simp] theorem State.setLink_pending (k : Nat) (v : Link) : (s.setLink k v).pending = s.pending := rfl
@[simp] theorem State.setLink_clock (k : Nat) (v : Link) : (s.setLink k v).clock = s.clock := rfl
@[simp] theorem State.setLink_free (k : Nat) (v : Link) : (s.setLink k v).free = s.free := rfl
@[simp] theorem State.setLink_out (k : Nat) (v : Link) : (s.setLink k v).out = s.out := rfl
@[simp] theorem State.setLink_regs (k : Nat) (v : Link) : (s.setLink k v).regs = s.regs := rfl
@[simp] theorem State.setLink_mem (k : Nat) (v : Link) : (s.setLink k v).mem = s.mem := rfl
@[simp] theorem State.setLink_poison (k : Nat) (v : Link) : (s.setLink k v).poison = s.poison := rfl
@[simp] theorem State.setLink_weak (k : Nat) (v : Link) : (s.setLink k v).weak = s.weak := rfl
@[simp] theorem State.setLink_poisonRec (k : Nat) (v : Link) : (s.setLink k v).poisonRec = s.poisonRec := rfl
@[simp] theorem State.setLink_nv (k : Nat) (v : Link) : (s.setLink k v).nv = s.nv := rfl
@[simp] theorem State.setLink_boot (k : Nat) (v : Link) : (s.setLink k v).boot = s.boot := rfl
@[simp] theorem State.setLink_togus (k : Nat) (v : Link) : (s.setLink k v).togus = s.togus := rfl
@[simp] theorem State.setLink_trn (k : Nat) (v : Link) : (s.setLink k v).trn = s.trn := rfl
@[simp] theorem State.setLink_droop (k : Nat) (v : Link) : (s.setLink k v).droop = s.droop := rfl
@[simp] theorem State.setLink_mesh (k : Nat) (v : Link) : (s.setLink k v).mesh = s.mesh := rfl
@[simp] theorem State.setLink_tcores (k : Nat) (v : Link) : (s.setLink k v).tcores = s.tcores := rfl
@[simp] theorem State.setLink_pcores (k : Nat) (v : Link) : (s.setLink k v).pcores = s.pcores := rfl
@[simp] theorem State.setLink_ses (k : Nat) (v : Link) : (s.setLink k v).ses = s.ses := rfl
@[simp] theorem State.setLink_fronts (k : Nat) (v : Link) : (s.setLink k v).fronts = s.fronts := rfl
@[simp] theorem State.setLink_dir (k : Nat) (v : Link) : (s.setLink k v).dir = s.dir := rfl
@[simp] theorem State.setLink_wcb (k : Nat) (v : Link) : (s.setLink k v).wcb = s.wcb := rfl
@[simp] theorem State.setLink_chans (k : Nat) (v : Link) : (s.setLink k v).chans = s.chans := rfl
@[simp] theorem State.setLink_ewt (k : Nat) (v : Link) : (s.setLink k v).ewt = s.ewt := rfl
@[simp] theorem State.setLink_homeTransit (k : Nat) (v : Link) : (s.setLink k v).homeTransit = s.homeTransit := rfl
@[simp] theorem State.setLink_homeLast (k : Nat) (v : Link) : (s.setLink k v).homeLast = s.homeLast := rfl
@[simp] theorem State.setLink_okt (k : Nat) (v : Link) : (s.setLink k v).okt = s.okt := rfl
@[simp] theorem State.setLink_oldKeys (k : Nat) (v : Link) : (s.setLink k v).oldKeys = s.oldKeys := rfl
@[simp] theorem State.setLink_reqs (k : Nat) (v : Link) : (s.setLink k v).reqs = s.reqs := rfl
@[simp] theorem State.setLink_gen (k : Nat) (v : Link) : (s.setLink k v).gen = s.gen := rfl
@[simp] theorem State.setLink_epochCache (k : Nat) (v : Link) : (s.setLink k v).epochCache = s.epochCache := rfl
@[simp] theorem State.setLink_twilightArm (k : Nat) (v : Link) : (s.setLink k v).twilightArm = s.twilightArm := rfl
@[simp] theorem State.setLink_routes (k : Nat) (v : Link) : (s.setLink k v).routes = s.routes := rfl
@[simp] theorem State.setLink_police (k : Nat) (v : Link) : (s.setLink k v).police = s.police := rfl
@[simp] theorem State.setLink_shape (k : Nat) (v : Link) : (s.setLink k v).shape = s.shape := rfl
@[simp] theorem State.setLink_posts (k : Nat) (v : Link) : (s.setLink k v).posts = s.posts := rfl
@[simp] theorem State.setLink_slots (k : Nat) (v : Link) : (s.setLink k v).slots = s.slots := rfl
@[simp] theorem State.setLink_rx (k : Nat) (v : Link) : (s.setLink k v).rx = s.rx := rfl
@[simp] theorem State.setLink_parked (k : Nat) (v : Link) : (s.setLink k v).parked = s.parked := rfl
@[simp] theorem State.setLink_outbox (k : Nat) (v : Link) : (s.setLink k v).outbox = s.outbox := rfl
@[simp] theorem State.setLink_tombs (k : Nat) (v : Link) : (s.setLink k v).tombs = s.tombs := rfl
@[simp] theorem State.setLink_buried (k : Nat) (v : Link) : (s.setLink k v).buried = s.buried := rfl
@[simp] theorem State.setLink_lostAt (k : Nat) (v : Link) : (s.setLink k v).lostAt = s.lostAt := rfl
@[simp] theorem State.setLink_parkWaits (k : Nat) (v : Link) : (s.setLink k v).parkWaits = s.parkWaits := rfl
@[simp] theorem State.setLink_beacons (k : Nat) (v : Link) : (s.setLink k v).beacons = s.beacons := rfl
@[simp] theorem State.setLink_waiters (k : Nat) (v : Link) : (s.setLink k v).waiters = s.waiters := rfl
@[simp] theorem State.setLink_epochs (k : Nat) (v : Link) : (s.setLink k v).epochs = s.epochs := rfl
@[simp] theorem State.setLink_scan (k : Nat) (v : Link) : (s.setLink k v).scan = s.scan := rfl
@[simp] theorem State.setLink_scanAgain (k : Nat) (v : Link) : (s.setLink k v).scanAgain = s.scanAgain := rfl
@[simp] theorem State.setLink_nextPrio (k : Nat) (v : Link) : (s.setLink k v).nextPrio = s.nextPrio := rfl
@[simp] theorem State.setLink_ops (k : Nat) (v : Link) : (s.setLink k v).ops = s.ops := rfl
@[simp] theorem State.setLink_resumes (k : Nat) (v : Link) : (s.setLink k v).resumes = s.resumes := rfl
@[simp] theorem State.setLink_rrRing (k : Nat) (v : Link) : (s.setLink k v).rrRing = s.rrRing := rfl
@[simp] theorem State.setLink_rrPrio (k : Nat) (v : Link) : (s.setLink k v).rrPrio = s.rrPrio := rfl
@[simp] theorem State.setLink_sinceLowPrio (k : Nat) (v : Link) : (s.setLink k v).sinceLowPrio = s.sinceLowPrio := rfl
@[simp] theorem State.setLink_reserve (k : Nat) (v : Link) : (s.setLink k v).reserve = s.reserve := rfl
@[simp] theorem State.setLink_endCount (k : Nat) (v : Link) : (s.setLink k v).endCount = s.endCount := rfl
@[simp] theorem State.setLink_numVfs (k : Nat) (v : Link) : (s.setLink k v).numVfs = s.numVfs := rfl
@[simp] theorem State.setLink_llmRetired (k : Nat) (v : Link) : (s.setLink k v).llmRetired = s.llmRetired := rfl
@[simp] theorem State.setLink_portsRetired (k : Nat) (v : Link) : (s.setLink k v).portsRetired = s.portsRetired := rfl
@[simp] theorem State.setLink_msix (k : Nat) (v : Link) : (s.setLink k v).msix = s.msix := rfl
@[simp] theorem State.setLink_reports (k : Nat) (v : Link) : (s.setLink k v).reports = s.reports := rfl
@[simp] theorem State.setLink_fatals (k : Nat) (v : Link) : (s.setLink k v).fatals = s.fatals := rfl
@[simp] theorem State.setLink_logMeta (k : Nat) (v : Link) : (s.setLink k v).logMeta = s.logMeta := rfl
@[simp] theorem State.setLink_recs (k : Nat) (v : Link) : (s.setLink k v).recs = s.recs := rfl
@[simp] theorem State.setLink_recq (k : Nat) (v : Link) : (s.setLink k v).recq = s.recq := rfl
@[simp] theorem State.setLink_alm (k : Nat) (v : Link) : (s.setLink k v).alm = s.alm := rfl
@[simp] theorem State.setLink_nwt (k : Nat) (v : Link) : (s.setLink k v).nwt = s.nwt := rfl
@[simp] theorem State.setLink_ecl (k : Nat) (v : Link) : (s.setLink k v).ecl = s.ecl := rfl
@[simp] theorem State.setLink_pins (k : Nat) (v : Link) : (s.setLink k v).pins = s.pins := rfl
@[simp] theorem State.setLink_reg (k : Nat) (v : Link) (ro : Nat) : (s.setLink k v).reg ro = s.reg ro := rfl
@[simp] theorem State.setLink_fget (k : Nat) (v : Link) (g : Fld) : (s.setLink k v).fget g = s.fget g := rfl
@[simp] theorem State.setLink_byte (k : Nat) (v : Link) (j : Nat) : (s.setLink k v).byte j = s.byte j := rfl

/-! After `State.setRoute`. -/

@[simp] theorem State.setRoute_pending (k : Nat) (v : BitVec 128) : (s.setRoute k v).pending = s.pending := rfl
@[simp] theorem State.setRoute_clock (k : Nat) (v : BitVec 128) : (s.setRoute k v).clock = s.clock := rfl
@[simp] theorem State.setRoute_free (k : Nat) (v : BitVec 128) : (s.setRoute k v).free = s.free := rfl
@[simp] theorem State.setRoute_out (k : Nat) (v : BitVec 128) : (s.setRoute k v).out = s.out := rfl
@[simp] theorem State.setRoute_regs (k : Nat) (v : BitVec 128) : (s.setRoute k v).regs = s.regs := rfl
@[simp] theorem State.setRoute_mem (k : Nat) (v : BitVec 128) : (s.setRoute k v).mem = s.mem := rfl
@[simp] theorem State.setRoute_poison (k : Nat) (v : BitVec 128) : (s.setRoute k v).poison = s.poison := rfl
@[simp] theorem State.setRoute_weak (k : Nat) (v : BitVec 128) : (s.setRoute k v).weak = s.weak := rfl
@[simp] theorem State.setRoute_poisonRec (k : Nat) (v : BitVec 128) : (s.setRoute k v).poisonRec = s.poisonRec := rfl
@[simp] theorem State.setRoute_nv (k : Nat) (v : BitVec 128) : (s.setRoute k v).nv = s.nv := rfl
@[simp] theorem State.setRoute_boot (k : Nat) (v : BitVec 128) : (s.setRoute k v).boot = s.boot := rfl
@[simp] theorem State.setRoute_togus (k : Nat) (v : BitVec 128) : (s.setRoute k v).togus = s.togus := rfl
@[simp] theorem State.setRoute_trn (k : Nat) (v : BitVec 128) : (s.setRoute k v).trn = s.trn := rfl
@[simp] theorem State.setRoute_droop (k : Nat) (v : BitVec 128) : (s.setRoute k v).droop = s.droop := rfl
@[simp] theorem State.setRoute_mesh (k : Nat) (v : BitVec 128) : (s.setRoute k v).mesh = s.mesh := rfl
@[simp] theorem State.setRoute_tcores (k : Nat) (v : BitVec 128) : (s.setRoute k v).tcores = s.tcores := rfl
@[simp] theorem State.setRoute_pcores (k : Nat) (v : BitVec 128) : (s.setRoute k v).pcores = s.pcores := rfl
@[simp] theorem State.setRoute_ses (k : Nat) (v : BitVec 128) : (s.setRoute k v).ses = s.ses := rfl
@[simp] theorem State.setRoute_fronts (k : Nat) (v : BitVec 128) : (s.setRoute k v).fronts = s.fronts := rfl
@[simp] theorem State.setRoute_dir (k : Nat) (v : BitVec 128) : (s.setRoute k v).dir = s.dir := rfl
@[simp] theorem State.setRoute_wcb (k : Nat) (v : BitVec 128) : (s.setRoute k v).wcb = s.wcb := rfl
@[simp] theorem State.setRoute_chans (k : Nat) (v : BitVec 128) : (s.setRoute k v).chans = s.chans := rfl
@[simp] theorem State.setRoute_ewt (k : Nat) (v : BitVec 128) : (s.setRoute k v).ewt = s.ewt := rfl
@[simp] theorem State.setRoute_homeTransit (k : Nat) (v : BitVec 128) : (s.setRoute k v).homeTransit = s.homeTransit := rfl
@[simp] theorem State.setRoute_homeLast (k : Nat) (v : BitVec 128) : (s.setRoute k v).homeLast = s.homeLast := rfl
@[simp] theorem State.setRoute_okt (k : Nat) (v : BitVec 128) : (s.setRoute k v).okt = s.okt := rfl
@[simp] theorem State.setRoute_oldKeys (k : Nat) (v : BitVec 128) : (s.setRoute k v).oldKeys = s.oldKeys := rfl
@[simp] theorem State.setRoute_reqs (k : Nat) (v : BitVec 128) : (s.setRoute k v).reqs = s.reqs := rfl
@[simp] theorem State.setRoute_gen (k : Nat) (v : BitVec 128) : (s.setRoute k v).gen = s.gen := rfl
@[simp] theorem State.setRoute_epochCache (k : Nat) (v : BitVec 128) : (s.setRoute k v).epochCache = s.epochCache := rfl
@[simp] theorem State.setRoute_twilightArm (k : Nat) (v : BitVec 128) : (s.setRoute k v).twilightArm = s.twilightArm := rfl
@[simp] theorem State.setRoute_links (k : Nat) (v : BitVec 128) : (s.setRoute k v).links = s.links := rfl
@[simp] theorem State.setRoute_police (k : Nat) (v : BitVec 128) : (s.setRoute k v).police = s.police := rfl
@[simp] theorem State.setRoute_shape (k : Nat) (v : BitVec 128) : (s.setRoute k v).shape = s.shape := rfl
@[simp] theorem State.setRoute_posts (k : Nat) (v : BitVec 128) : (s.setRoute k v).posts = s.posts := rfl
@[simp] theorem State.setRoute_slots (k : Nat) (v : BitVec 128) : (s.setRoute k v).slots = s.slots := rfl
@[simp] theorem State.setRoute_rx (k : Nat) (v : BitVec 128) : (s.setRoute k v).rx = s.rx := rfl
@[simp] theorem State.setRoute_parked (k : Nat) (v : BitVec 128) : (s.setRoute k v).parked = s.parked := rfl
@[simp] theorem State.setRoute_outbox (k : Nat) (v : BitVec 128) : (s.setRoute k v).outbox = s.outbox := rfl
@[simp] theorem State.setRoute_tombs (k : Nat) (v : BitVec 128) : (s.setRoute k v).tombs = s.tombs := rfl
@[simp] theorem State.setRoute_buried (k : Nat) (v : BitVec 128) : (s.setRoute k v).buried = s.buried := rfl
@[simp] theorem State.setRoute_lostAt (k : Nat) (v : BitVec 128) : (s.setRoute k v).lostAt = s.lostAt := rfl
@[simp] theorem State.setRoute_parkWaits (k : Nat) (v : BitVec 128) : (s.setRoute k v).parkWaits = s.parkWaits := rfl
@[simp] theorem State.setRoute_beacons (k : Nat) (v : BitVec 128) : (s.setRoute k v).beacons = s.beacons := rfl
@[simp] theorem State.setRoute_waiters (k : Nat) (v : BitVec 128) : (s.setRoute k v).waiters = s.waiters := rfl
@[simp] theorem State.setRoute_epochs (k : Nat) (v : BitVec 128) : (s.setRoute k v).epochs = s.epochs := rfl
@[simp] theorem State.setRoute_scan (k : Nat) (v : BitVec 128) : (s.setRoute k v).scan = s.scan := rfl
@[simp] theorem State.setRoute_scanAgain (k : Nat) (v : BitVec 128) : (s.setRoute k v).scanAgain = s.scanAgain := rfl
@[simp] theorem State.setRoute_nextPrio (k : Nat) (v : BitVec 128) : (s.setRoute k v).nextPrio = s.nextPrio := rfl
@[simp] theorem State.setRoute_ops (k : Nat) (v : BitVec 128) : (s.setRoute k v).ops = s.ops := rfl
@[simp] theorem State.setRoute_resumes (k : Nat) (v : BitVec 128) : (s.setRoute k v).resumes = s.resumes := rfl
@[simp] theorem State.setRoute_rrRing (k : Nat) (v : BitVec 128) : (s.setRoute k v).rrRing = s.rrRing := rfl
@[simp] theorem State.setRoute_rrPrio (k : Nat) (v : BitVec 128) : (s.setRoute k v).rrPrio = s.rrPrio := rfl
@[simp] theorem State.setRoute_sinceLowPrio (k : Nat) (v : BitVec 128) : (s.setRoute k v).sinceLowPrio = s.sinceLowPrio := rfl
@[simp] theorem State.setRoute_reserve (k : Nat) (v : BitVec 128) : (s.setRoute k v).reserve = s.reserve := rfl
@[simp] theorem State.setRoute_endCount (k : Nat) (v : BitVec 128) : (s.setRoute k v).endCount = s.endCount := rfl
@[simp] theorem State.setRoute_numVfs (k : Nat) (v : BitVec 128) : (s.setRoute k v).numVfs = s.numVfs := rfl
@[simp] theorem State.setRoute_llmRetired (k : Nat) (v : BitVec 128) : (s.setRoute k v).llmRetired = s.llmRetired := rfl
@[simp] theorem State.setRoute_portsRetired (k : Nat) (v : BitVec 128) : (s.setRoute k v).portsRetired = s.portsRetired := rfl
@[simp] theorem State.setRoute_msix (k : Nat) (v : BitVec 128) : (s.setRoute k v).msix = s.msix := rfl
@[simp] theorem State.setRoute_reports (k : Nat) (v : BitVec 128) : (s.setRoute k v).reports = s.reports := rfl
@[simp] theorem State.setRoute_fatals (k : Nat) (v : BitVec 128) : (s.setRoute k v).fatals = s.fatals := rfl
@[simp] theorem State.setRoute_logMeta (k : Nat) (v : BitVec 128) : (s.setRoute k v).logMeta = s.logMeta := rfl
@[simp] theorem State.setRoute_recs (k : Nat) (v : BitVec 128) : (s.setRoute k v).recs = s.recs := rfl
@[simp] theorem State.setRoute_recq (k : Nat) (v : BitVec 128) : (s.setRoute k v).recq = s.recq := rfl
@[simp] theorem State.setRoute_alm (k : Nat) (v : BitVec 128) : (s.setRoute k v).alm = s.alm := rfl
@[simp] theorem State.setRoute_nwt (k : Nat) (v : BitVec 128) : (s.setRoute k v).nwt = s.nwt := rfl
@[simp] theorem State.setRoute_ecl (k : Nat) (v : BitVec 128) : (s.setRoute k v).ecl = s.ecl := rfl
@[simp] theorem State.setRoute_pins (k : Nat) (v : BitVec 128) : (s.setRoute k v).pins = s.pins := rfl
@[simp] theorem State.setRoute_reg (k : Nat) (v : BitVec 128) (ro : Nat) : (s.setRoute k v).reg ro = s.reg ro := rfl
@[simp] theorem State.setRoute_fget (k : Nat) (v : BitVec 128) (g : Fld) : (s.setRoute k v).fget g = s.fget g := rfl
@[simp] theorem State.setRoute_byte (k : Nat) (v : BitVec 128) (j : Nat) : (s.setRoute k v).byte j = s.byte j := rfl

/-! After `State.setShapeOf`. -/

@[simp] theorem State.setShapeOf_pending (k : Nat) (v : Bucket) : (s.setShapeOf k v).pending = s.pending := rfl
@[simp] theorem State.setShapeOf_clock (k : Nat) (v : Bucket) : (s.setShapeOf k v).clock = s.clock := rfl
@[simp] theorem State.setShapeOf_free (k : Nat) (v : Bucket) : (s.setShapeOf k v).free = s.free := rfl
@[simp] theorem State.setShapeOf_out (k : Nat) (v : Bucket) : (s.setShapeOf k v).out = s.out := rfl
@[simp] theorem State.setShapeOf_regs (k : Nat) (v : Bucket) : (s.setShapeOf k v).regs = s.regs := rfl
@[simp] theorem State.setShapeOf_mem (k : Nat) (v : Bucket) : (s.setShapeOf k v).mem = s.mem := rfl
@[simp] theorem State.setShapeOf_poison (k : Nat) (v : Bucket) : (s.setShapeOf k v).poison = s.poison := rfl
@[simp] theorem State.setShapeOf_weak (k : Nat) (v : Bucket) : (s.setShapeOf k v).weak = s.weak := rfl
@[simp] theorem State.setShapeOf_poisonRec (k : Nat) (v : Bucket) : (s.setShapeOf k v).poisonRec = s.poisonRec := rfl
@[simp] theorem State.setShapeOf_nv (k : Nat) (v : Bucket) : (s.setShapeOf k v).nv = s.nv := rfl
@[simp] theorem State.setShapeOf_boot (k : Nat) (v : Bucket) : (s.setShapeOf k v).boot = s.boot := rfl
@[simp] theorem State.setShapeOf_togus (k : Nat) (v : Bucket) : (s.setShapeOf k v).togus = s.togus := rfl
@[simp] theorem State.setShapeOf_trn (k : Nat) (v : Bucket) : (s.setShapeOf k v).trn = s.trn := rfl
@[simp] theorem State.setShapeOf_droop (k : Nat) (v : Bucket) : (s.setShapeOf k v).droop = s.droop := rfl
@[simp] theorem State.setShapeOf_mesh (k : Nat) (v : Bucket) : (s.setShapeOf k v).mesh = s.mesh := rfl
@[simp] theorem State.setShapeOf_tcores (k : Nat) (v : Bucket) : (s.setShapeOf k v).tcores = s.tcores := rfl
@[simp] theorem State.setShapeOf_pcores (k : Nat) (v : Bucket) : (s.setShapeOf k v).pcores = s.pcores := rfl
@[simp] theorem State.setShapeOf_ses (k : Nat) (v : Bucket) : (s.setShapeOf k v).ses = s.ses := rfl
@[simp] theorem State.setShapeOf_fronts (k : Nat) (v : Bucket) : (s.setShapeOf k v).fronts = s.fronts := rfl
@[simp] theorem State.setShapeOf_dir (k : Nat) (v : Bucket) : (s.setShapeOf k v).dir = s.dir := rfl
@[simp] theorem State.setShapeOf_wcb (k : Nat) (v : Bucket) : (s.setShapeOf k v).wcb = s.wcb := rfl
@[simp] theorem State.setShapeOf_chans (k : Nat) (v : Bucket) : (s.setShapeOf k v).chans = s.chans := rfl
@[simp] theorem State.setShapeOf_ewt (k : Nat) (v : Bucket) : (s.setShapeOf k v).ewt = s.ewt := rfl
@[simp] theorem State.setShapeOf_homeTransit (k : Nat) (v : Bucket) : (s.setShapeOf k v).homeTransit = s.homeTransit := rfl
@[simp] theorem State.setShapeOf_homeLast (k : Nat) (v : Bucket) : (s.setShapeOf k v).homeLast = s.homeLast := rfl
@[simp] theorem State.setShapeOf_okt (k : Nat) (v : Bucket) : (s.setShapeOf k v).okt = s.okt := rfl
@[simp] theorem State.setShapeOf_oldKeys (k : Nat) (v : Bucket) : (s.setShapeOf k v).oldKeys = s.oldKeys := rfl
@[simp] theorem State.setShapeOf_reqs (k : Nat) (v : Bucket) : (s.setShapeOf k v).reqs = s.reqs := rfl
@[simp] theorem State.setShapeOf_gen (k : Nat) (v : Bucket) : (s.setShapeOf k v).gen = s.gen := rfl
@[simp] theorem State.setShapeOf_epochCache (k : Nat) (v : Bucket) : (s.setShapeOf k v).epochCache = s.epochCache := rfl
@[simp] theorem State.setShapeOf_twilightArm (k : Nat) (v : Bucket) : (s.setShapeOf k v).twilightArm = s.twilightArm := rfl
@[simp] theorem State.setShapeOf_links (k : Nat) (v : Bucket) : (s.setShapeOf k v).links = s.links := rfl
@[simp] theorem State.setShapeOf_routes (k : Nat) (v : Bucket) : (s.setShapeOf k v).routes = s.routes := rfl
@[simp] theorem State.setShapeOf_police (k : Nat) (v : Bucket) : (s.setShapeOf k v).police = s.police := rfl
@[simp] theorem State.setShapeOf_posts (k : Nat) (v : Bucket) : (s.setShapeOf k v).posts = s.posts := rfl
@[simp] theorem State.setShapeOf_slots (k : Nat) (v : Bucket) : (s.setShapeOf k v).slots = s.slots := rfl
@[simp] theorem State.setShapeOf_rx (k : Nat) (v : Bucket) : (s.setShapeOf k v).rx = s.rx := rfl
@[simp] theorem State.setShapeOf_parked (k : Nat) (v : Bucket) : (s.setShapeOf k v).parked = s.parked := rfl
@[simp] theorem State.setShapeOf_outbox (k : Nat) (v : Bucket) : (s.setShapeOf k v).outbox = s.outbox := rfl
@[simp] theorem State.setShapeOf_tombs (k : Nat) (v : Bucket) : (s.setShapeOf k v).tombs = s.tombs := rfl
@[simp] theorem State.setShapeOf_buried (k : Nat) (v : Bucket) : (s.setShapeOf k v).buried = s.buried := rfl
@[simp] theorem State.setShapeOf_lostAt (k : Nat) (v : Bucket) : (s.setShapeOf k v).lostAt = s.lostAt := rfl
@[simp] theorem State.setShapeOf_parkWaits (k : Nat) (v : Bucket) : (s.setShapeOf k v).parkWaits = s.parkWaits := rfl
@[simp] theorem State.setShapeOf_beacons (k : Nat) (v : Bucket) : (s.setShapeOf k v).beacons = s.beacons := rfl
@[simp] theorem State.setShapeOf_waiters (k : Nat) (v : Bucket) : (s.setShapeOf k v).waiters = s.waiters := rfl
@[simp] theorem State.setShapeOf_epochs (k : Nat) (v : Bucket) : (s.setShapeOf k v).epochs = s.epochs := rfl
@[simp] theorem State.setShapeOf_scan (k : Nat) (v : Bucket) : (s.setShapeOf k v).scan = s.scan := rfl
@[simp] theorem State.setShapeOf_scanAgain (k : Nat) (v : Bucket) : (s.setShapeOf k v).scanAgain = s.scanAgain := rfl
@[simp] theorem State.setShapeOf_nextPrio (k : Nat) (v : Bucket) : (s.setShapeOf k v).nextPrio = s.nextPrio := rfl
@[simp] theorem State.setShapeOf_ops (k : Nat) (v : Bucket) : (s.setShapeOf k v).ops = s.ops := rfl
@[simp] theorem State.setShapeOf_resumes (k : Nat) (v : Bucket) : (s.setShapeOf k v).resumes = s.resumes := rfl
@[simp] theorem State.setShapeOf_rrRing (k : Nat) (v : Bucket) : (s.setShapeOf k v).rrRing = s.rrRing := rfl
@[simp] theorem State.setShapeOf_rrPrio (k : Nat) (v : Bucket) : (s.setShapeOf k v).rrPrio = s.rrPrio := rfl
@[simp] theorem State.setShapeOf_sinceLowPrio (k : Nat) (v : Bucket) : (s.setShapeOf k v).sinceLowPrio = s.sinceLowPrio := rfl
@[simp] theorem State.setShapeOf_reserve (k : Nat) (v : Bucket) : (s.setShapeOf k v).reserve = s.reserve := rfl
@[simp] theorem State.setShapeOf_endCount (k : Nat) (v : Bucket) : (s.setShapeOf k v).endCount = s.endCount := rfl
@[simp] theorem State.setShapeOf_numVfs (k : Nat) (v : Bucket) : (s.setShapeOf k v).numVfs = s.numVfs := rfl
@[simp] theorem State.setShapeOf_llmRetired (k : Nat) (v : Bucket) : (s.setShapeOf k v).llmRetired = s.llmRetired := rfl
@[simp] theorem State.setShapeOf_portsRetired (k : Nat) (v : Bucket) : (s.setShapeOf k v).portsRetired = s.portsRetired := rfl
@[simp] theorem State.setShapeOf_msix (k : Nat) (v : Bucket) : (s.setShapeOf k v).msix = s.msix := rfl
@[simp] theorem State.setShapeOf_reports (k : Nat) (v : Bucket) : (s.setShapeOf k v).reports = s.reports := rfl
@[simp] theorem State.setShapeOf_fatals (k : Nat) (v : Bucket) : (s.setShapeOf k v).fatals = s.fatals := rfl
@[simp] theorem State.setShapeOf_logMeta (k : Nat) (v : Bucket) : (s.setShapeOf k v).logMeta = s.logMeta := rfl
@[simp] theorem State.setShapeOf_recs (k : Nat) (v : Bucket) : (s.setShapeOf k v).recs = s.recs := rfl
@[simp] theorem State.setShapeOf_recq (k : Nat) (v : Bucket) : (s.setShapeOf k v).recq = s.recq := rfl
@[simp] theorem State.setShapeOf_alm (k : Nat) (v : Bucket) : (s.setShapeOf k v).alm = s.alm := rfl
@[simp] theorem State.setShapeOf_nwt (k : Nat) (v : Bucket) : (s.setShapeOf k v).nwt = s.nwt := rfl
@[simp] theorem State.setShapeOf_ecl (k : Nat) (v : Bucket) : (s.setShapeOf k v).ecl = s.ecl := rfl
@[simp] theorem State.setShapeOf_pins (k : Nat) (v : Bucket) : (s.setShapeOf k v).pins = s.pins := rfl
@[simp] theorem State.setShapeOf_reg (k : Nat) (v : Bucket) (ro : Nat) : (s.setShapeOf k v).reg ro = s.reg ro := rfl
@[simp] theorem State.setShapeOf_fget (k : Nat) (v : Bucket) (g : Fld) : (s.setShapeOf k v).fget g = s.fget g := rfl
@[simp] theorem State.setShapeOf_byte (k : Nat) (v : Bucket) (j : Nat) : (s.setShapeOf k v).byte j = s.byte j := rfl

/-! After `State.setPoliceOf`. -/

@[simp] theorem State.setPoliceOf_pending (k : Nat) (v : Police) : (s.setPoliceOf k v).pending = s.pending := rfl
@[simp] theorem State.setPoliceOf_clock (k : Nat) (v : Police) : (s.setPoliceOf k v).clock = s.clock := rfl
@[simp] theorem State.setPoliceOf_free (k : Nat) (v : Police) : (s.setPoliceOf k v).free = s.free := rfl
@[simp] theorem State.setPoliceOf_out (k : Nat) (v : Police) : (s.setPoliceOf k v).out = s.out := rfl
@[simp] theorem State.setPoliceOf_regs (k : Nat) (v : Police) : (s.setPoliceOf k v).regs = s.regs := rfl
@[simp] theorem State.setPoliceOf_mem (k : Nat) (v : Police) : (s.setPoliceOf k v).mem = s.mem := rfl
@[simp] theorem State.setPoliceOf_poison (k : Nat) (v : Police) : (s.setPoliceOf k v).poison = s.poison := rfl
@[simp] theorem State.setPoliceOf_weak (k : Nat) (v : Police) : (s.setPoliceOf k v).weak = s.weak := rfl
@[simp] theorem State.setPoliceOf_poisonRec (k : Nat) (v : Police) : (s.setPoliceOf k v).poisonRec = s.poisonRec := rfl
@[simp] theorem State.setPoliceOf_nv (k : Nat) (v : Police) : (s.setPoliceOf k v).nv = s.nv := rfl
@[simp] theorem State.setPoliceOf_boot (k : Nat) (v : Police) : (s.setPoliceOf k v).boot = s.boot := rfl
@[simp] theorem State.setPoliceOf_togus (k : Nat) (v : Police) : (s.setPoliceOf k v).togus = s.togus := rfl
@[simp] theorem State.setPoliceOf_trn (k : Nat) (v : Police) : (s.setPoliceOf k v).trn = s.trn := rfl
@[simp] theorem State.setPoliceOf_droop (k : Nat) (v : Police) : (s.setPoliceOf k v).droop = s.droop := rfl
@[simp] theorem State.setPoliceOf_mesh (k : Nat) (v : Police) : (s.setPoliceOf k v).mesh = s.mesh := rfl
@[simp] theorem State.setPoliceOf_tcores (k : Nat) (v : Police) : (s.setPoliceOf k v).tcores = s.tcores := rfl
@[simp] theorem State.setPoliceOf_pcores (k : Nat) (v : Police) : (s.setPoliceOf k v).pcores = s.pcores := rfl
@[simp] theorem State.setPoliceOf_ses (k : Nat) (v : Police) : (s.setPoliceOf k v).ses = s.ses := rfl
@[simp] theorem State.setPoliceOf_fronts (k : Nat) (v : Police) : (s.setPoliceOf k v).fronts = s.fronts := rfl
@[simp] theorem State.setPoliceOf_dir (k : Nat) (v : Police) : (s.setPoliceOf k v).dir = s.dir := rfl
@[simp] theorem State.setPoliceOf_wcb (k : Nat) (v : Police) : (s.setPoliceOf k v).wcb = s.wcb := rfl
@[simp] theorem State.setPoliceOf_chans (k : Nat) (v : Police) : (s.setPoliceOf k v).chans = s.chans := rfl
@[simp] theorem State.setPoliceOf_ewt (k : Nat) (v : Police) : (s.setPoliceOf k v).ewt = s.ewt := rfl
@[simp] theorem State.setPoliceOf_homeTransit (k : Nat) (v : Police) : (s.setPoliceOf k v).homeTransit = s.homeTransit := rfl
@[simp] theorem State.setPoliceOf_homeLast (k : Nat) (v : Police) : (s.setPoliceOf k v).homeLast = s.homeLast := rfl
@[simp] theorem State.setPoliceOf_okt (k : Nat) (v : Police) : (s.setPoliceOf k v).okt = s.okt := rfl
@[simp] theorem State.setPoliceOf_oldKeys (k : Nat) (v : Police) : (s.setPoliceOf k v).oldKeys = s.oldKeys := rfl
@[simp] theorem State.setPoliceOf_reqs (k : Nat) (v : Police) : (s.setPoliceOf k v).reqs = s.reqs := rfl
@[simp] theorem State.setPoliceOf_gen (k : Nat) (v : Police) : (s.setPoliceOf k v).gen = s.gen := rfl
@[simp] theorem State.setPoliceOf_epochCache (k : Nat) (v : Police) : (s.setPoliceOf k v).epochCache = s.epochCache := rfl
@[simp] theorem State.setPoliceOf_twilightArm (k : Nat) (v : Police) : (s.setPoliceOf k v).twilightArm = s.twilightArm := rfl
@[simp] theorem State.setPoliceOf_links (k : Nat) (v : Police) : (s.setPoliceOf k v).links = s.links := rfl
@[simp] theorem State.setPoliceOf_routes (k : Nat) (v : Police) : (s.setPoliceOf k v).routes = s.routes := rfl
@[simp] theorem State.setPoliceOf_shape (k : Nat) (v : Police) : (s.setPoliceOf k v).shape = s.shape := rfl
@[simp] theorem State.setPoliceOf_posts (k : Nat) (v : Police) : (s.setPoliceOf k v).posts = s.posts := rfl
@[simp] theorem State.setPoliceOf_slots (k : Nat) (v : Police) : (s.setPoliceOf k v).slots = s.slots := rfl
@[simp] theorem State.setPoliceOf_rx (k : Nat) (v : Police) : (s.setPoliceOf k v).rx = s.rx := rfl
@[simp] theorem State.setPoliceOf_parked (k : Nat) (v : Police) : (s.setPoliceOf k v).parked = s.parked := rfl
@[simp] theorem State.setPoliceOf_outbox (k : Nat) (v : Police) : (s.setPoliceOf k v).outbox = s.outbox := rfl
@[simp] theorem State.setPoliceOf_tombs (k : Nat) (v : Police) : (s.setPoliceOf k v).tombs = s.tombs := rfl
@[simp] theorem State.setPoliceOf_buried (k : Nat) (v : Police) : (s.setPoliceOf k v).buried = s.buried := rfl
@[simp] theorem State.setPoliceOf_lostAt (k : Nat) (v : Police) : (s.setPoliceOf k v).lostAt = s.lostAt := rfl
@[simp] theorem State.setPoliceOf_parkWaits (k : Nat) (v : Police) : (s.setPoliceOf k v).parkWaits = s.parkWaits := rfl
@[simp] theorem State.setPoliceOf_beacons (k : Nat) (v : Police) : (s.setPoliceOf k v).beacons = s.beacons := rfl
@[simp] theorem State.setPoliceOf_waiters (k : Nat) (v : Police) : (s.setPoliceOf k v).waiters = s.waiters := rfl
@[simp] theorem State.setPoliceOf_epochs (k : Nat) (v : Police) : (s.setPoliceOf k v).epochs = s.epochs := rfl
@[simp] theorem State.setPoliceOf_scan (k : Nat) (v : Police) : (s.setPoliceOf k v).scan = s.scan := rfl
@[simp] theorem State.setPoliceOf_scanAgain (k : Nat) (v : Police) : (s.setPoliceOf k v).scanAgain = s.scanAgain := rfl
@[simp] theorem State.setPoliceOf_nextPrio (k : Nat) (v : Police) : (s.setPoliceOf k v).nextPrio = s.nextPrio := rfl
@[simp] theorem State.setPoliceOf_ops (k : Nat) (v : Police) : (s.setPoliceOf k v).ops = s.ops := rfl
@[simp] theorem State.setPoliceOf_resumes (k : Nat) (v : Police) : (s.setPoliceOf k v).resumes = s.resumes := rfl
@[simp] theorem State.setPoliceOf_rrRing (k : Nat) (v : Police) : (s.setPoliceOf k v).rrRing = s.rrRing := rfl
@[simp] theorem State.setPoliceOf_rrPrio (k : Nat) (v : Police) : (s.setPoliceOf k v).rrPrio = s.rrPrio := rfl
@[simp] theorem State.setPoliceOf_sinceLowPrio (k : Nat) (v : Police) : (s.setPoliceOf k v).sinceLowPrio = s.sinceLowPrio := rfl
@[simp] theorem State.setPoliceOf_reserve (k : Nat) (v : Police) : (s.setPoliceOf k v).reserve = s.reserve := rfl
@[simp] theorem State.setPoliceOf_endCount (k : Nat) (v : Police) : (s.setPoliceOf k v).endCount = s.endCount := rfl
@[simp] theorem State.setPoliceOf_numVfs (k : Nat) (v : Police) : (s.setPoliceOf k v).numVfs = s.numVfs := rfl
@[simp] theorem State.setPoliceOf_llmRetired (k : Nat) (v : Police) : (s.setPoliceOf k v).llmRetired = s.llmRetired := rfl
@[simp] theorem State.setPoliceOf_portsRetired (k : Nat) (v : Police) : (s.setPoliceOf k v).portsRetired = s.portsRetired := rfl
@[simp] theorem State.setPoliceOf_msix (k : Nat) (v : Police) : (s.setPoliceOf k v).msix = s.msix := rfl
@[simp] theorem State.setPoliceOf_reports (k : Nat) (v : Police) : (s.setPoliceOf k v).reports = s.reports := rfl
@[simp] theorem State.setPoliceOf_fatals (k : Nat) (v : Police) : (s.setPoliceOf k v).fatals = s.fatals := rfl
@[simp] theorem State.setPoliceOf_logMeta (k : Nat) (v : Police) : (s.setPoliceOf k v).logMeta = s.logMeta := rfl
@[simp] theorem State.setPoliceOf_recs (k : Nat) (v : Police) : (s.setPoliceOf k v).recs = s.recs := rfl
@[simp] theorem State.setPoliceOf_recq (k : Nat) (v : Police) : (s.setPoliceOf k v).recq = s.recq := rfl
@[simp] theorem State.setPoliceOf_alm (k : Nat) (v : Police) : (s.setPoliceOf k v).alm = s.alm := rfl
@[simp] theorem State.setPoliceOf_nwt (k : Nat) (v : Police) : (s.setPoliceOf k v).nwt = s.nwt := rfl
@[simp] theorem State.setPoliceOf_ecl (k : Nat) (v : Police) : (s.setPoliceOf k v).ecl = s.ecl := rfl
@[simp] theorem State.setPoliceOf_pins (k : Nat) (v : Police) : (s.setPoliceOf k v).pins = s.pins := rfl
@[simp] theorem State.setPoliceOf_reg (k : Nat) (v : Police) (ro : Nat) : (s.setPoliceOf k v).reg ro = s.reg ro := rfl
@[simp] theorem State.setPoliceOf_fget (k : Nat) (v : Police) (g : Fld) : (s.setPoliceOf k v).fget g = s.fget g := rfl
@[simp] theorem State.setPoliceOf_byte (k : Nat) (v : Police) (j : Nat) : (s.setPoliceOf k v).byte j = s.byte j := rfl

/-! After `State.setPost`. -/

@[simp] theorem State.setPost_pending (k : Nat) (v : Post) : (s.setPost k v).pending = s.pending := rfl
@[simp] theorem State.setPost_clock (k : Nat) (v : Post) : (s.setPost k v).clock = s.clock := rfl
@[simp] theorem State.setPost_free (k : Nat) (v : Post) : (s.setPost k v).free = s.free := rfl
@[simp] theorem State.setPost_out (k : Nat) (v : Post) : (s.setPost k v).out = s.out := rfl
@[simp] theorem State.setPost_regs (k : Nat) (v : Post) : (s.setPost k v).regs = s.regs := rfl
@[simp] theorem State.setPost_mem (k : Nat) (v : Post) : (s.setPost k v).mem = s.mem := rfl
@[simp] theorem State.setPost_poison (k : Nat) (v : Post) : (s.setPost k v).poison = s.poison := rfl
@[simp] theorem State.setPost_weak (k : Nat) (v : Post) : (s.setPost k v).weak = s.weak := rfl
@[simp] theorem State.setPost_poisonRec (k : Nat) (v : Post) : (s.setPost k v).poisonRec = s.poisonRec := rfl
@[simp] theorem State.setPost_nv (k : Nat) (v : Post) : (s.setPost k v).nv = s.nv := rfl
@[simp] theorem State.setPost_boot (k : Nat) (v : Post) : (s.setPost k v).boot = s.boot := rfl
@[simp] theorem State.setPost_togus (k : Nat) (v : Post) : (s.setPost k v).togus = s.togus := rfl
@[simp] theorem State.setPost_trn (k : Nat) (v : Post) : (s.setPost k v).trn = s.trn := rfl
@[simp] theorem State.setPost_droop (k : Nat) (v : Post) : (s.setPost k v).droop = s.droop := rfl
@[simp] theorem State.setPost_mesh (k : Nat) (v : Post) : (s.setPost k v).mesh = s.mesh := rfl
@[simp] theorem State.setPost_tcores (k : Nat) (v : Post) : (s.setPost k v).tcores = s.tcores := rfl
@[simp] theorem State.setPost_pcores (k : Nat) (v : Post) : (s.setPost k v).pcores = s.pcores := rfl
@[simp] theorem State.setPost_ses (k : Nat) (v : Post) : (s.setPost k v).ses = s.ses := rfl
@[simp] theorem State.setPost_fronts (k : Nat) (v : Post) : (s.setPost k v).fronts = s.fronts := rfl
@[simp] theorem State.setPost_dir (k : Nat) (v : Post) : (s.setPost k v).dir = s.dir := rfl
@[simp] theorem State.setPost_wcb (k : Nat) (v : Post) : (s.setPost k v).wcb = s.wcb := rfl
@[simp] theorem State.setPost_chans (k : Nat) (v : Post) : (s.setPost k v).chans = s.chans := rfl
@[simp] theorem State.setPost_ewt (k : Nat) (v : Post) : (s.setPost k v).ewt = s.ewt := rfl
@[simp] theorem State.setPost_homeTransit (k : Nat) (v : Post) : (s.setPost k v).homeTransit = s.homeTransit := rfl
@[simp] theorem State.setPost_homeLast (k : Nat) (v : Post) : (s.setPost k v).homeLast = s.homeLast := rfl
@[simp] theorem State.setPost_okt (k : Nat) (v : Post) : (s.setPost k v).okt = s.okt := rfl
@[simp] theorem State.setPost_oldKeys (k : Nat) (v : Post) : (s.setPost k v).oldKeys = s.oldKeys := rfl
@[simp] theorem State.setPost_reqs (k : Nat) (v : Post) : (s.setPost k v).reqs = s.reqs := rfl
@[simp] theorem State.setPost_gen (k : Nat) (v : Post) : (s.setPost k v).gen = s.gen := rfl
@[simp] theorem State.setPost_epochCache (k : Nat) (v : Post) : (s.setPost k v).epochCache = s.epochCache := rfl
@[simp] theorem State.setPost_twilightArm (k : Nat) (v : Post) : (s.setPost k v).twilightArm = s.twilightArm := rfl
@[simp] theorem State.setPost_links (k : Nat) (v : Post) : (s.setPost k v).links = s.links := rfl
@[simp] theorem State.setPost_routes (k : Nat) (v : Post) : (s.setPost k v).routes = s.routes := rfl
@[simp] theorem State.setPost_police (k : Nat) (v : Post) : (s.setPost k v).police = s.police := rfl
@[simp] theorem State.setPost_shape (k : Nat) (v : Post) : (s.setPost k v).shape = s.shape := rfl
@[simp] theorem State.setPost_slots (k : Nat) (v : Post) : (s.setPost k v).slots = s.slots := rfl
@[simp] theorem State.setPost_rx (k : Nat) (v : Post) : (s.setPost k v).rx = s.rx := rfl
@[simp] theorem State.setPost_parked (k : Nat) (v : Post) : (s.setPost k v).parked = s.parked := rfl
@[simp] theorem State.setPost_outbox (k : Nat) (v : Post) : (s.setPost k v).outbox = s.outbox := rfl
@[simp] theorem State.setPost_tombs (k : Nat) (v : Post) : (s.setPost k v).tombs = s.tombs := rfl
@[simp] theorem State.setPost_buried (k : Nat) (v : Post) : (s.setPost k v).buried = s.buried := rfl
@[simp] theorem State.setPost_lostAt (k : Nat) (v : Post) : (s.setPost k v).lostAt = s.lostAt := rfl
@[simp] theorem State.setPost_parkWaits (k : Nat) (v : Post) : (s.setPost k v).parkWaits = s.parkWaits := rfl
@[simp] theorem State.setPost_beacons (k : Nat) (v : Post) : (s.setPost k v).beacons = s.beacons := rfl
@[simp] theorem State.setPost_waiters (k : Nat) (v : Post) : (s.setPost k v).waiters = s.waiters := rfl
@[simp] theorem State.setPost_epochs (k : Nat) (v : Post) : (s.setPost k v).epochs = s.epochs := rfl
@[simp] theorem State.setPost_scan (k : Nat) (v : Post) : (s.setPost k v).scan = s.scan := rfl
@[simp] theorem State.setPost_scanAgain (k : Nat) (v : Post) : (s.setPost k v).scanAgain = s.scanAgain := rfl
@[simp] theorem State.setPost_nextPrio (k : Nat) (v : Post) : (s.setPost k v).nextPrio = s.nextPrio := rfl
@[simp] theorem State.setPost_ops (k : Nat) (v : Post) : (s.setPost k v).ops = s.ops := rfl
@[simp] theorem State.setPost_resumes (k : Nat) (v : Post) : (s.setPost k v).resumes = s.resumes := rfl
@[simp] theorem State.setPost_rrRing (k : Nat) (v : Post) : (s.setPost k v).rrRing = s.rrRing := rfl
@[simp] theorem State.setPost_rrPrio (k : Nat) (v : Post) : (s.setPost k v).rrPrio = s.rrPrio := rfl
@[simp] theorem State.setPost_sinceLowPrio (k : Nat) (v : Post) : (s.setPost k v).sinceLowPrio = s.sinceLowPrio := rfl
@[simp] theorem State.setPost_reserve (k : Nat) (v : Post) : (s.setPost k v).reserve = s.reserve := rfl
@[simp] theorem State.setPost_endCount (k : Nat) (v : Post) : (s.setPost k v).endCount = s.endCount := rfl
@[simp] theorem State.setPost_numVfs (k : Nat) (v : Post) : (s.setPost k v).numVfs = s.numVfs := rfl
@[simp] theorem State.setPost_llmRetired (k : Nat) (v : Post) : (s.setPost k v).llmRetired = s.llmRetired := rfl
@[simp] theorem State.setPost_portsRetired (k : Nat) (v : Post) : (s.setPost k v).portsRetired = s.portsRetired := rfl
@[simp] theorem State.setPost_msix (k : Nat) (v : Post) : (s.setPost k v).msix = s.msix := rfl
@[simp] theorem State.setPost_reports (k : Nat) (v : Post) : (s.setPost k v).reports = s.reports := rfl
@[simp] theorem State.setPost_fatals (k : Nat) (v : Post) : (s.setPost k v).fatals = s.fatals := rfl
@[simp] theorem State.setPost_logMeta (k : Nat) (v : Post) : (s.setPost k v).logMeta = s.logMeta := rfl
@[simp] theorem State.setPost_recs (k : Nat) (v : Post) : (s.setPost k v).recs = s.recs := rfl
@[simp] theorem State.setPost_recq (k : Nat) (v : Post) : (s.setPost k v).recq = s.recq := rfl
@[simp] theorem State.setPost_alm (k : Nat) (v : Post) : (s.setPost k v).alm = s.alm := rfl
@[simp] theorem State.setPost_nwt (k : Nat) (v : Post) : (s.setPost k v).nwt = s.nwt := rfl
@[simp] theorem State.setPost_ecl (k : Nat) (v : Post) : (s.setPost k v).ecl = s.ecl := rfl
@[simp] theorem State.setPost_pins (k : Nat) (v : Post) : (s.setPost k v).pins = s.pins := rfl
@[simp] theorem State.setPost_reg (k : Nat) (v : Post) (ro : Nat) : (s.setPost k v).reg ro = s.reg ro := rfl
@[simp] theorem State.setPost_fget (k : Nat) (v : Post) (g : Fld) : (s.setPost k v).fget g = s.fget g := rfl
@[simp] theorem State.setPost_byte (k : Nat) (v : Post) (j : Nat) : (s.setPost k v).byte j = s.byte j := rfl

/-! After `State.setSlot`. -/

@[simp] theorem State.setSlot_pending (k : Nat) (v : SendSlot) : (s.setSlot k v).pending = s.pending := rfl
@[simp] theorem State.setSlot_clock (k : Nat) (v : SendSlot) : (s.setSlot k v).clock = s.clock := rfl
@[simp] theorem State.setSlot_free (k : Nat) (v : SendSlot) : (s.setSlot k v).free = s.free := rfl
@[simp] theorem State.setSlot_out (k : Nat) (v : SendSlot) : (s.setSlot k v).out = s.out := rfl
@[simp] theorem State.setSlot_regs (k : Nat) (v : SendSlot) : (s.setSlot k v).regs = s.regs := rfl
@[simp] theorem State.setSlot_mem (k : Nat) (v : SendSlot) : (s.setSlot k v).mem = s.mem := rfl
@[simp] theorem State.setSlot_poison (k : Nat) (v : SendSlot) : (s.setSlot k v).poison = s.poison := rfl
@[simp] theorem State.setSlot_weak (k : Nat) (v : SendSlot) : (s.setSlot k v).weak = s.weak := rfl
@[simp] theorem State.setSlot_poisonRec (k : Nat) (v : SendSlot) : (s.setSlot k v).poisonRec = s.poisonRec := rfl
@[simp] theorem State.setSlot_nv (k : Nat) (v : SendSlot) : (s.setSlot k v).nv = s.nv := rfl
@[simp] theorem State.setSlot_boot (k : Nat) (v : SendSlot) : (s.setSlot k v).boot = s.boot := rfl
@[simp] theorem State.setSlot_togus (k : Nat) (v : SendSlot) : (s.setSlot k v).togus = s.togus := rfl
@[simp] theorem State.setSlot_trn (k : Nat) (v : SendSlot) : (s.setSlot k v).trn = s.trn := rfl
@[simp] theorem State.setSlot_droop (k : Nat) (v : SendSlot) : (s.setSlot k v).droop = s.droop := rfl
@[simp] theorem State.setSlot_mesh (k : Nat) (v : SendSlot) : (s.setSlot k v).mesh = s.mesh := rfl
@[simp] theorem State.setSlot_tcores (k : Nat) (v : SendSlot) : (s.setSlot k v).tcores = s.tcores := rfl
@[simp] theorem State.setSlot_pcores (k : Nat) (v : SendSlot) : (s.setSlot k v).pcores = s.pcores := rfl
@[simp] theorem State.setSlot_ses (k : Nat) (v : SendSlot) : (s.setSlot k v).ses = s.ses := rfl
@[simp] theorem State.setSlot_fronts (k : Nat) (v : SendSlot) : (s.setSlot k v).fronts = s.fronts := rfl
@[simp] theorem State.setSlot_dir (k : Nat) (v : SendSlot) : (s.setSlot k v).dir = s.dir := rfl
@[simp] theorem State.setSlot_wcb (k : Nat) (v : SendSlot) : (s.setSlot k v).wcb = s.wcb := rfl
@[simp] theorem State.setSlot_chans (k : Nat) (v : SendSlot) : (s.setSlot k v).chans = s.chans := rfl
@[simp] theorem State.setSlot_ewt (k : Nat) (v : SendSlot) : (s.setSlot k v).ewt = s.ewt := rfl
@[simp] theorem State.setSlot_homeTransit (k : Nat) (v : SendSlot) : (s.setSlot k v).homeTransit = s.homeTransit := rfl
@[simp] theorem State.setSlot_homeLast (k : Nat) (v : SendSlot) : (s.setSlot k v).homeLast = s.homeLast := rfl
@[simp] theorem State.setSlot_okt (k : Nat) (v : SendSlot) : (s.setSlot k v).okt = s.okt := rfl
@[simp] theorem State.setSlot_oldKeys (k : Nat) (v : SendSlot) : (s.setSlot k v).oldKeys = s.oldKeys := rfl
@[simp] theorem State.setSlot_reqs (k : Nat) (v : SendSlot) : (s.setSlot k v).reqs = s.reqs := rfl
@[simp] theorem State.setSlot_gen (k : Nat) (v : SendSlot) : (s.setSlot k v).gen = s.gen := rfl
@[simp] theorem State.setSlot_epochCache (k : Nat) (v : SendSlot) : (s.setSlot k v).epochCache = s.epochCache := rfl
@[simp] theorem State.setSlot_twilightArm (k : Nat) (v : SendSlot) : (s.setSlot k v).twilightArm = s.twilightArm := rfl
@[simp] theorem State.setSlot_links (k : Nat) (v : SendSlot) : (s.setSlot k v).links = s.links := rfl
@[simp] theorem State.setSlot_routes (k : Nat) (v : SendSlot) : (s.setSlot k v).routes = s.routes := rfl
@[simp] theorem State.setSlot_police (k : Nat) (v : SendSlot) : (s.setSlot k v).police = s.police := rfl
@[simp] theorem State.setSlot_shape (k : Nat) (v : SendSlot) : (s.setSlot k v).shape = s.shape := rfl
@[simp] theorem State.setSlot_posts (k : Nat) (v : SendSlot) : (s.setSlot k v).posts = s.posts := rfl
@[simp] theorem State.setSlot_rx (k : Nat) (v : SendSlot) : (s.setSlot k v).rx = s.rx := rfl
@[simp] theorem State.setSlot_parked (k : Nat) (v : SendSlot) : (s.setSlot k v).parked = s.parked := rfl
@[simp] theorem State.setSlot_outbox (k : Nat) (v : SendSlot) : (s.setSlot k v).outbox = s.outbox := rfl
@[simp] theorem State.setSlot_tombs (k : Nat) (v : SendSlot) : (s.setSlot k v).tombs = s.tombs := rfl
@[simp] theorem State.setSlot_buried (k : Nat) (v : SendSlot) : (s.setSlot k v).buried = s.buried := rfl
@[simp] theorem State.setSlot_lostAt (k : Nat) (v : SendSlot) : (s.setSlot k v).lostAt = s.lostAt := rfl
@[simp] theorem State.setSlot_parkWaits (k : Nat) (v : SendSlot) : (s.setSlot k v).parkWaits = s.parkWaits := rfl
@[simp] theorem State.setSlot_beacons (k : Nat) (v : SendSlot) : (s.setSlot k v).beacons = s.beacons := rfl
@[simp] theorem State.setSlot_waiters (k : Nat) (v : SendSlot) : (s.setSlot k v).waiters = s.waiters := rfl
@[simp] theorem State.setSlot_epochs (k : Nat) (v : SendSlot) : (s.setSlot k v).epochs = s.epochs := rfl
@[simp] theorem State.setSlot_scan (k : Nat) (v : SendSlot) : (s.setSlot k v).scan = s.scan := rfl
@[simp] theorem State.setSlot_scanAgain (k : Nat) (v : SendSlot) : (s.setSlot k v).scanAgain = s.scanAgain := rfl
@[simp] theorem State.setSlot_nextPrio (k : Nat) (v : SendSlot) : (s.setSlot k v).nextPrio = s.nextPrio := rfl
@[simp] theorem State.setSlot_ops (k : Nat) (v : SendSlot) : (s.setSlot k v).ops = s.ops := rfl
@[simp] theorem State.setSlot_resumes (k : Nat) (v : SendSlot) : (s.setSlot k v).resumes = s.resumes := rfl
@[simp] theorem State.setSlot_rrRing (k : Nat) (v : SendSlot) : (s.setSlot k v).rrRing = s.rrRing := rfl
@[simp] theorem State.setSlot_rrPrio (k : Nat) (v : SendSlot) : (s.setSlot k v).rrPrio = s.rrPrio := rfl
@[simp] theorem State.setSlot_sinceLowPrio (k : Nat) (v : SendSlot) : (s.setSlot k v).sinceLowPrio = s.sinceLowPrio := rfl
@[simp] theorem State.setSlot_reserve (k : Nat) (v : SendSlot) : (s.setSlot k v).reserve = s.reserve := rfl
@[simp] theorem State.setSlot_endCount (k : Nat) (v : SendSlot) : (s.setSlot k v).endCount = s.endCount := rfl
@[simp] theorem State.setSlot_numVfs (k : Nat) (v : SendSlot) : (s.setSlot k v).numVfs = s.numVfs := rfl
@[simp] theorem State.setSlot_llmRetired (k : Nat) (v : SendSlot) : (s.setSlot k v).llmRetired = s.llmRetired := rfl
@[simp] theorem State.setSlot_portsRetired (k : Nat) (v : SendSlot) : (s.setSlot k v).portsRetired = s.portsRetired := rfl
@[simp] theorem State.setSlot_msix (k : Nat) (v : SendSlot) : (s.setSlot k v).msix = s.msix := rfl
@[simp] theorem State.setSlot_reports (k : Nat) (v : SendSlot) : (s.setSlot k v).reports = s.reports := rfl
@[simp] theorem State.setSlot_fatals (k : Nat) (v : SendSlot) : (s.setSlot k v).fatals = s.fatals := rfl
@[simp] theorem State.setSlot_logMeta (k : Nat) (v : SendSlot) : (s.setSlot k v).logMeta = s.logMeta := rfl
@[simp] theorem State.setSlot_recs (k : Nat) (v : SendSlot) : (s.setSlot k v).recs = s.recs := rfl
@[simp] theorem State.setSlot_recq (k : Nat) (v : SendSlot) : (s.setSlot k v).recq = s.recq := rfl
@[simp] theorem State.setSlot_alm (k : Nat) (v : SendSlot) : (s.setSlot k v).alm = s.alm := rfl
@[simp] theorem State.setSlot_nwt (k : Nat) (v : SendSlot) : (s.setSlot k v).nwt = s.nwt := rfl
@[simp] theorem State.setSlot_ecl (k : Nat) (v : SendSlot) : (s.setSlot k v).ecl = s.ecl := rfl
@[simp] theorem State.setSlot_pins (k : Nat) (v : SendSlot) : (s.setSlot k v).pins = s.pins := rfl
@[simp] theorem State.setSlot_reg (k : Nat) (v : SendSlot) (ro : Nat) : (s.setSlot k v).reg ro = s.reg ro := rfl
@[simp] theorem State.setSlot_fget (k : Nat) (v : SendSlot) (g : Fld) : (s.setSlot k v).fget g = s.fget g := rfl
@[simp] theorem State.setSlot_byte (k : Nat) (v : SendSlot) (j : Nat) : (s.setSlot k v).byte j = s.byte j := rfl

/-! After `State.setBeacon`. -/

@[simp] theorem State.setBeacon_pending (k : Nat) (v : Beacon) : (s.setBeacon k v).pending = s.pending := rfl
@[simp] theorem State.setBeacon_clock (k : Nat) (v : Beacon) : (s.setBeacon k v).clock = s.clock := rfl
@[simp] theorem State.setBeacon_free (k : Nat) (v : Beacon) : (s.setBeacon k v).free = s.free := rfl
@[simp] theorem State.setBeacon_out (k : Nat) (v : Beacon) : (s.setBeacon k v).out = s.out := rfl
@[simp] theorem State.setBeacon_regs (k : Nat) (v : Beacon) : (s.setBeacon k v).regs = s.regs := rfl
@[simp] theorem State.setBeacon_mem (k : Nat) (v : Beacon) : (s.setBeacon k v).mem = s.mem := rfl
@[simp] theorem State.setBeacon_poison (k : Nat) (v : Beacon) : (s.setBeacon k v).poison = s.poison := rfl
@[simp] theorem State.setBeacon_weak (k : Nat) (v : Beacon) : (s.setBeacon k v).weak = s.weak := rfl
@[simp] theorem State.setBeacon_poisonRec (k : Nat) (v : Beacon) : (s.setBeacon k v).poisonRec = s.poisonRec := rfl
@[simp] theorem State.setBeacon_nv (k : Nat) (v : Beacon) : (s.setBeacon k v).nv = s.nv := rfl
@[simp] theorem State.setBeacon_boot (k : Nat) (v : Beacon) : (s.setBeacon k v).boot = s.boot := rfl
@[simp] theorem State.setBeacon_togus (k : Nat) (v : Beacon) : (s.setBeacon k v).togus = s.togus := rfl
@[simp] theorem State.setBeacon_trn (k : Nat) (v : Beacon) : (s.setBeacon k v).trn = s.trn := rfl
@[simp] theorem State.setBeacon_droop (k : Nat) (v : Beacon) : (s.setBeacon k v).droop = s.droop := rfl
@[simp] theorem State.setBeacon_mesh (k : Nat) (v : Beacon) : (s.setBeacon k v).mesh = s.mesh := rfl
@[simp] theorem State.setBeacon_tcores (k : Nat) (v : Beacon) : (s.setBeacon k v).tcores = s.tcores := rfl
@[simp] theorem State.setBeacon_pcores (k : Nat) (v : Beacon) : (s.setBeacon k v).pcores = s.pcores := rfl
@[simp] theorem State.setBeacon_ses (k : Nat) (v : Beacon) : (s.setBeacon k v).ses = s.ses := rfl
@[simp] theorem State.setBeacon_fronts (k : Nat) (v : Beacon) : (s.setBeacon k v).fronts = s.fronts := rfl
@[simp] theorem State.setBeacon_dir (k : Nat) (v : Beacon) : (s.setBeacon k v).dir = s.dir := rfl
@[simp] theorem State.setBeacon_wcb (k : Nat) (v : Beacon) : (s.setBeacon k v).wcb = s.wcb := rfl
@[simp] theorem State.setBeacon_chans (k : Nat) (v : Beacon) : (s.setBeacon k v).chans = s.chans := rfl
@[simp] theorem State.setBeacon_ewt (k : Nat) (v : Beacon) : (s.setBeacon k v).ewt = s.ewt := rfl
@[simp] theorem State.setBeacon_homeTransit (k : Nat) (v : Beacon) : (s.setBeacon k v).homeTransit = s.homeTransit := rfl
@[simp] theorem State.setBeacon_homeLast (k : Nat) (v : Beacon) : (s.setBeacon k v).homeLast = s.homeLast := rfl
@[simp] theorem State.setBeacon_okt (k : Nat) (v : Beacon) : (s.setBeacon k v).okt = s.okt := rfl
@[simp] theorem State.setBeacon_oldKeys (k : Nat) (v : Beacon) : (s.setBeacon k v).oldKeys = s.oldKeys := rfl
@[simp] theorem State.setBeacon_reqs (k : Nat) (v : Beacon) : (s.setBeacon k v).reqs = s.reqs := rfl
@[simp] theorem State.setBeacon_gen (k : Nat) (v : Beacon) : (s.setBeacon k v).gen = s.gen := rfl
@[simp] theorem State.setBeacon_epochCache (k : Nat) (v : Beacon) : (s.setBeacon k v).epochCache = s.epochCache := rfl
@[simp] theorem State.setBeacon_twilightArm (k : Nat) (v : Beacon) : (s.setBeacon k v).twilightArm = s.twilightArm := rfl
@[simp] theorem State.setBeacon_links (k : Nat) (v : Beacon) : (s.setBeacon k v).links = s.links := rfl
@[simp] theorem State.setBeacon_routes (k : Nat) (v : Beacon) : (s.setBeacon k v).routes = s.routes := rfl
@[simp] theorem State.setBeacon_police (k : Nat) (v : Beacon) : (s.setBeacon k v).police = s.police := rfl
@[simp] theorem State.setBeacon_shape (k : Nat) (v : Beacon) : (s.setBeacon k v).shape = s.shape := rfl
@[simp] theorem State.setBeacon_posts (k : Nat) (v : Beacon) : (s.setBeacon k v).posts = s.posts := rfl
@[simp] theorem State.setBeacon_slots (k : Nat) (v : Beacon) : (s.setBeacon k v).slots = s.slots := rfl
@[simp] theorem State.setBeacon_rx (k : Nat) (v : Beacon) : (s.setBeacon k v).rx = s.rx := rfl
@[simp] theorem State.setBeacon_parked (k : Nat) (v : Beacon) : (s.setBeacon k v).parked = s.parked := rfl
@[simp] theorem State.setBeacon_outbox (k : Nat) (v : Beacon) : (s.setBeacon k v).outbox = s.outbox := rfl
@[simp] theorem State.setBeacon_tombs (k : Nat) (v : Beacon) : (s.setBeacon k v).tombs = s.tombs := rfl
@[simp] theorem State.setBeacon_buried (k : Nat) (v : Beacon) : (s.setBeacon k v).buried = s.buried := rfl
@[simp] theorem State.setBeacon_lostAt (k : Nat) (v : Beacon) : (s.setBeacon k v).lostAt = s.lostAt := rfl
@[simp] theorem State.setBeacon_parkWaits (k : Nat) (v : Beacon) : (s.setBeacon k v).parkWaits = s.parkWaits := rfl
@[simp] theorem State.setBeacon_waiters (k : Nat) (v : Beacon) : (s.setBeacon k v).waiters = s.waiters := rfl
@[simp] theorem State.setBeacon_epochs (k : Nat) (v : Beacon) : (s.setBeacon k v).epochs = s.epochs := rfl
@[simp] theorem State.setBeacon_scan (k : Nat) (v : Beacon) : (s.setBeacon k v).scan = s.scan := rfl
@[simp] theorem State.setBeacon_scanAgain (k : Nat) (v : Beacon) : (s.setBeacon k v).scanAgain = s.scanAgain := rfl
@[simp] theorem State.setBeacon_nextPrio (k : Nat) (v : Beacon) : (s.setBeacon k v).nextPrio = s.nextPrio := rfl
@[simp] theorem State.setBeacon_ops (k : Nat) (v : Beacon) : (s.setBeacon k v).ops = s.ops := rfl
@[simp] theorem State.setBeacon_resumes (k : Nat) (v : Beacon) : (s.setBeacon k v).resumes = s.resumes := rfl
@[simp] theorem State.setBeacon_rrRing (k : Nat) (v : Beacon) : (s.setBeacon k v).rrRing = s.rrRing := rfl
@[simp] theorem State.setBeacon_rrPrio (k : Nat) (v : Beacon) : (s.setBeacon k v).rrPrio = s.rrPrio := rfl
@[simp] theorem State.setBeacon_sinceLowPrio (k : Nat) (v : Beacon) : (s.setBeacon k v).sinceLowPrio = s.sinceLowPrio := rfl
@[simp] theorem State.setBeacon_reserve (k : Nat) (v : Beacon) : (s.setBeacon k v).reserve = s.reserve := rfl
@[simp] theorem State.setBeacon_endCount (k : Nat) (v : Beacon) : (s.setBeacon k v).endCount = s.endCount := rfl
@[simp] theorem State.setBeacon_numVfs (k : Nat) (v : Beacon) : (s.setBeacon k v).numVfs = s.numVfs := rfl
@[simp] theorem State.setBeacon_llmRetired (k : Nat) (v : Beacon) : (s.setBeacon k v).llmRetired = s.llmRetired := rfl
@[simp] theorem State.setBeacon_portsRetired (k : Nat) (v : Beacon) : (s.setBeacon k v).portsRetired = s.portsRetired := rfl
@[simp] theorem State.setBeacon_msix (k : Nat) (v : Beacon) : (s.setBeacon k v).msix = s.msix := rfl
@[simp] theorem State.setBeacon_reports (k : Nat) (v : Beacon) : (s.setBeacon k v).reports = s.reports := rfl
@[simp] theorem State.setBeacon_fatals (k : Nat) (v : Beacon) : (s.setBeacon k v).fatals = s.fatals := rfl
@[simp] theorem State.setBeacon_logMeta (k : Nat) (v : Beacon) : (s.setBeacon k v).logMeta = s.logMeta := rfl
@[simp] theorem State.setBeacon_recs (k : Nat) (v : Beacon) : (s.setBeacon k v).recs = s.recs := rfl
@[simp] theorem State.setBeacon_recq (k : Nat) (v : Beacon) : (s.setBeacon k v).recq = s.recq := rfl
@[simp] theorem State.setBeacon_alm (k : Nat) (v : Beacon) : (s.setBeacon k v).alm = s.alm := rfl
@[simp] theorem State.setBeacon_nwt (k : Nat) (v : Beacon) : (s.setBeacon k v).nwt = s.nwt := rfl
@[simp] theorem State.setBeacon_ecl (k : Nat) (v : Beacon) : (s.setBeacon k v).ecl = s.ecl := rfl
@[simp] theorem State.setBeacon_pins (k : Nat) (v : Beacon) : (s.setBeacon k v).pins = s.pins := rfl
@[simp] theorem State.setBeacon_reg (k : Nat) (v : Beacon) (ro : Nat) : (s.setBeacon k v).reg ro = s.reg ro := rfl
@[simp] theorem State.setBeacon_fget (k : Nat) (v : Beacon) (g : Fld) : (s.setBeacon k v).fget g = s.fget g := rfl
@[simp] theorem State.setBeacon_byte (k : Nat) (v : Beacon) (j : Nat) : (s.setBeacon k v).byte j = s.byte j := rfl

/-! After `State.setOwnerEpoch`. -/

@[simp] theorem State.setOwnerEpoch_pending (k : Nat) (v : Nat) : (s.setOwnerEpoch k v).pending = s.pending := rfl
@[simp] theorem State.setOwnerEpoch_clock (k : Nat) (v : Nat) : (s.setOwnerEpoch k v).clock = s.clock := rfl
@[simp] theorem State.setOwnerEpoch_free (k : Nat) (v : Nat) : (s.setOwnerEpoch k v).free = s.free := rfl
@[simp] theorem State.setOwnerEpoch_out (k : Nat) (v : Nat) : (s.setOwnerEpoch k v).out = s.out := rfl
@[simp] theorem State.setOwnerEpoch_regs (k : Nat) (v : Nat) : (s.setOwnerEpoch k v).regs = s.regs := rfl
@[simp] theorem State.setOwnerEpoch_mem (k : Nat) (v : Nat) : (s.setOwnerEpoch k v).mem = s.mem := rfl
@[simp] theorem State.setOwnerEpoch_poison (k : Nat) (v : Nat) : (s.setOwnerEpoch k v).poison = s.poison := rfl
@[simp] theorem State.setOwnerEpoch_weak (k : Nat) (v : Nat) : (s.setOwnerEpoch k v).weak = s.weak := rfl
@[simp] theorem State.setOwnerEpoch_poisonRec (k : Nat) (v : Nat) : (s.setOwnerEpoch k v).poisonRec = s.poisonRec := rfl
@[simp] theorem State.setOwnerEpoch_nv (k : Nat) (v : Nat) : (s.setOwnerEpoch k v).nv = s.nv := rfl
@[simp] theorem State.setOwnerEpoch_boot (k : Nat) (v : Nat) : (s.setOwnerEpoch k v).boot = s.boot := rfl
@[simp] theorem State.setOwnerEpoch_togus (k : Nat) (v : Nat) : (s.setOwnerEpoch k v).togus = s.togus := rfl
@[simp] theorem State.setOwnerEpoch_trn (k : Nat) (v : Nat) : (s.setOwnerEpoch k v).trn = s.trn := rfl
@[simp] theorem State.setOwnerEpoch_droop (k : Nat) (v : Nat) : (s.setOwnerEpoch k v).droop = s.droop := rfl
@[simp] theorem State.setOwnerEpoch_mesh (k : Nat) (v : Nat) : (s.setOwnerEpoch k v).mesh = s.mesh := rfl
@[simp] theorem State.setOwnerEpoch_tcores (k : Nat) (v : Nat) : (s.setOwnerEpoch k v).tcores = s.tcores := rfl
@[simp] theorem State.setOwnerEpoch_pcores (k : Nat) (v : Nat) : (s.setOwnerEpoch k v).pcores = s.pcores := rfl
@[simp] theorem State.setOwnerEpoch_ses (k : Nat) (v : Nat) : (s.setOwnerEpoch k v).ses = s.ses := rfl
@[simp] theorem State.setOwnerEpoch_fronts (k : Nat) (v : Nat) : (s.setOwnerEpoch k v).fronts = s.fronts := rfl
@[simp] theorem State.setOwnerEpoch_dir (k : Nat) (v : Nat) : (s.setOwnerEpoch k v).dir = s.dir := rfl
@[simp] theorem State.setOwnerEpoch_wcb (k : Nat) (v : Nat) : (s.setOwnerEpoch k v).wcb = s.wcb := rfl
@[simp] theorem State.setOwnerEpoch_chans (k : Nat) (v : Nat) : (s.setOwnerEpoch k v).chans = s.chans := rfl
@[simp] theorem State.setOwnerEpoch_ewt (k : Nat) (v : Nat) : (s.setOwnerEpoch k v).ewt = s.ewt := rfl
@[simp] theorem State.setOwnerEpoch_homeTransit (k : Nat) (v : Nat) : (s.setOwnerEpoch k v).homeTransit = s.homeTransit := rfl
@[simp] theorem State.setOwnerEpoch_homeLast (k : Nat) (v : Nat) : (s.setOwnerEpoch k v).homeLast = s.homeLast := rfl
@[simp] theorem State.setOwnerEpoch_okt (k : Nat) (v : Nat) : (s.setOwnerEpoch k v).okt = s.okt := rfl
@[simp] theorem State.setOwnerEpoch_oldKeys (k : Nat) (v : Nat) : (s.setOwnerEpoch k v).oldKeys = s.oldKeys := rfl
@[simp] theorem State.setOwnerEpoch_reqs (k : Nat) (v : Nat) : (s.setOwnerEpoch k v).reqs = s.reqs := rfl
@[simp] theorem State.setOwnerEpoch_gen (k : Nat) (v : Nat) : (s.setOwnerEpoch k v).gen = s.gen := rfl
@[simp] theorem State.setOwnerEpoch_epochCache (k : Nat) (v : Nat) : (s.setOwnerEpoch k v).epochCache = s.epochCache := rfl
@[simp] theorem State.setOwnerEpoch_twilightArm (k : Nat) (v : Nat) : (s.setOwnerEpoch k v).twilightArm = s.twilightArm := rfl
@[simp] theorem State.setOwnerEpoch_links (k : Nat) (v : Nat) : (s.setOwnerEpoch k v).links = s.links := rfl
@[simp] theorem State.setOwnerEpoch_routes (k : Nat) (v : Nat) : (s.setOwnerEpoch k v).routes = s.routes := rfl
@[simp] theorem State.setOwnerEpoch_police (k : Nat) (v : Nat) : (s.setOwnerEpoch k v).police = s.police := rfl
@[simp] theorem State.setOwnerEpoch_shape (k : Nat) (v : Nat) : (s.setOwnerEpoch k v).shape = s.shape := rfl
@[simp] theorem State.setOwnerEpoch_posts (k : Nat) (v : Nat) : (s.setOwnerEpoch k v).posts = s.posts := rfl
@[simp] theorem State.setOwnerEpoch_slots (k : Nat) (v : Nat) : (s.setOwnerEpoch k v).slots = s.slots := rfl
@[simp] theorem State.setOwnerEpoch_rx (k : Nat) (v : Nat) : (s.setOwnerEpoch k v).rx = s.rx := rfl
@[simp] theorem State.setOwnerEpoch_parked (k : Nat) (v : Nat) : (s.setOwnerEpoch k v).parked = s.parked := rfl
@[simp] theorem State.setOwnerEpoch_outbox (k : Nat) (v : Nat) : (s.setOwnerEpoch k v).outbox = s.outbox := rfl
@[simp] theorem State.setOwnerEpoch_tombs (k : Nat) (v : Nat) : (s.setOwnerEpoch k v).tombs = s.tombs := rfl
@[simp] theorem State.setOwnerEpoch_buried (k : Nat) (v : Nat) : (s.setOwnerEpoch k v).buried = s.buried := rfl
@[simp] theorem State.setOwnerEpoch_lostAt (k : Nat) (v : Nat) : (s.setOwnerEpoch k v).lostAt = s.lostAt := rfl
@[simp] theorem State.setOwnerEpoch_parkWaits (k : Nat) (v : Nat) : (s.setOwnerEpoch k v).parkWaits = s.parkWaits := rfl
@[simp] theorem State.setOwnerEpoch_beacons (k : Nat) (v : Nat) : (s.setOwnerEpoch k v).beacons = s.beacons := rfl
@[simp] theorem State.setOwnerEpoch_waiters (k : Nat) (v : Nat) : (s.setOwnerEpoch k v).waiters = s.waiters := rfl
@[simp] theorem State.setOwnerEpoch_scan (k : Nat) (v : Nat) : (s.setOwnerEpoch k v).scan = s.scan := rfl
@[simp] theorem State.setOwnerEpoch_scanAgain (k : Nat) (v : Nat) : (s.setOwnerEpoch k v).scanAgain = s.scanAgain := rfl
@[simp] theorem State.setOwnerEpoch_nextPrio (k : Nat) (v : Nat) : (s.setOwnerEpoch k v).nextPrio = s.nextPrio := rfl
@[simp] theorem State.setOwnerEpoch_ops (k : Nat) (v : Nat) : (s.setOwnerEpoch k v).ops = s.ops := rfl
@[simp] theorem State.setOwnerEpoch_resumes (k : Nat) (v : Nat) : (s.setOwnerEpoch k v).resumes = s.resumes := rfl
@[simp] theorem State.setOwnerEpoch_rrRing (k : Nat) (v : Nat) : (s.setOwnerEpoch k v).rrRing = s.rrRing := rfl
@[simp] theorem State.setOwnerEpoch_rrPrio (k : Nat) (v : Nat) : (s.setOwnerEpoch k v).rrPrio = s.rrPrio := rfl
@[simp] theorem State.setOwnerEpoch_sinceLowPrio (k : Nat) (v : Nat) : (s.setOwnerEpoch k v).sinceLowPrio = s.sinceLowPrio := rfl
@[simp] theorem State.setOwnerEpoch_reserve (k : Nat) (v : Nat) : (s.setOwnerEpoch k v).reserve = s.reserve := rfl
@[simp] theorem State.setOwnerEpoch_endCount (k : Nat) (v : Nat) : (s.setOwnerEpoch k v).endCount = s.endCount := rfl
@[simp] theorem State.setOwnerEpoch_numVfs (k : Nat) (v : Nat) : (s.setOwnerEpoch k v).numVfs = s.numVfs := rfl
@[simp] theorem State.setOwnerEpoch_llmRetired (k : Nat) (v : Nat) : (s.setOwnerEpoch k v).llmRetired = s.llmRetired := rfl
@[simp] theorem State.setOwnerEpoch_portsRetired (k : Nat) (v : Nat) : (s.setOwnerEpoch k v).portsRetired = s.portsRetired := rfl
@[simp] theorem State.setOwnerEpoch_msix (k : Nat) (v : Nat) : (s.setOwnerEpoch k v).msix = s.msix := rfl
@[simp] theorem State.setOwnerEpoch_reports (k : Nat) (v : Nat) : (s.setOwnerEpoch k v).reports = s.reports := rfl
@[simp] theorem State.setOwnerEpoch_fatals (k : Nat) (v : Nat) : (s.setOwnerEpoch k v).fatals = s.fatals := rfl
@[simp] theorem State.setOwnerEpoch_logMeta (k : Nat) (v : Nat) : (s.setOwnerEpoch k v).logMeta = s.logMeta := rfl
@[simp] theorem State.setOwnerEpoch_recs (k : Nat) (v : Nat) : (s.setOwnerEpoch k v).recs = s.recs := rfl
@[simp] theorem State.setOwnerEpoch_recq (k : Nat) (v : Nat) : (s.setOwnerEpoch k v).recq = s.recq := rfl
@[simp] theorem State.setOwnerEpoch_alm (k : Nat) (v : Nat) : (s.setOwnerEpoch k v).alm = s.alm := rfl
@[simp] theorem State.setOwnerEpoch_nwt (k : Nat) (v : Nat) : (s.setOwnerEpoch k v).nwt = s.nwt := rfl
@[simp] theorem State.setOwnerEpoch_ecl (k : Nat) (v : Nat) : (s.setOwnerEpoch k v).ecl = s.ecl := rfl
@[simp] theorem State.setOwnerEpoch_pins (k : Nat) (v : Nat) : (s.setOwnerEpoch k v).pins = s.pins := rfl
@[simp] theorem State.setOwnerEpoch_reg (k : Nat) (v : Nat) (ro : Nat) : (s.setOwnerEpoch k v).reg ro = s.reg ro := rfl
@[simp] theorem State.setOwnerEpoch_fget (k : Nat) (v : Nat) (g : Fld) : (s.setOwnerEpoch k v).fget g = s.fget g := rfl
@[simp] theorem State.setOwnerEpoch_byte (k : Nat) (v : Nat) (j : Nat) : (s.setOwnerEpoch k v).byte j = s.byte j := rfl

/-! After `State.setOp`. -/

@[simp] theorem State.setOp_pending (k : Nat) (v : Option Op) : (s.setOp k v).pending = s.pending := rfl
@[simp] theorem State.setOp_clock (k : Nat) (v : Option Op) : (s.setOp k v).clock = s.clock := rfl
@[simp] theorem State.setOp_free (k : Nat) (v : Option Op) : (s.setOp k v).free = s.free := rfl
@[simp] theorem State.setOp_out (k : Nat) (v : Option Op) : (s.setOp k v).out = s.out := rfl
@[simp] theorem State.setOp_regs (k : Nat) (v : Option Op) : (s.setOp k v).regs = s.regs := rfl
@[simp] theorem State.setOp_mem (k : Nat) (v : Option Op) : (s.setOp k v).mem = s.mem := rfl
@[simp] theorem State.setOp_poison (k : Nat) (v : Option Op) : (s.setOp k v).poison = s.poison := rfl
@[simp] theorem State.setOp_weak (k : Nat) (v : Option Op) : (s.setOp k v).weak = s.weak := rfl
@[simp] theorem State.setOp_poisonRec (k : Nat) (v : Option Op) : (s.setOp k v).poisonRec = s.poisonRec := rfl
@[simp] theorem State.setOp_nv (k : Nat) (v : Option Op) : (s.setOp k v).nv = s.nv := rfl
@[simp] theorem State.setOp_boot (k : Nat) (v : Option Op) : (s.setOp k v).boot = s.boot := rfl
@[simp] theorem State.setOp_togus (k : Nat) (v : Option Op) : (s.setOp k v).togus = s.togus := rfl
@[simp] theorem State.setOp_trn (k : Nat) (v : Option Op) : (s.setOp k v).trn = s.trn := rfl
@[simp] theorem State.setOp_droop (k : Nat) (v : Option Op) : (s.setOp k v).droop = s.droop := rfl
@[simp] theorem State.setOp_mesh (k : Nat) (v : Option Op) : (s.setOp k v).mesh = s.mesh := rfl
@[simp] theorem State.setOp_tcores (k : Nat) (v : Option Op) : (s.setOp k v).tcores = s.tcores := rfl
@[simp] theorem State.setOp_pcores (k : Nat) (v : Option Op) : (s.setOp k v).pcores = s.pcores := rfl
@[simp] theorem State.setOp_ses (k : Nat) (v : Option Op) : (s.setOp k v).ses = s.ses := rfl
@[simp] theorem State.setOp_fronts (k : Nat) (v : Option Op) : (s.setOp k v).fronts = s.fronts := rfl
@[simp] theorem State.setOp_dir (k : Nat) (v : Option Op) : (s.setOp k v).dir = s.dir := rfl
@[simp] theorem State.setOp_wcb (k : Nat) (v : Option Op) : (s.setOp k v).wcb = s.wcb := rfl
@[simp] theorem State.setOp_chans (k : Nat) (v : Option Op) : (s.setOp k v).chans = s.chans := rfl
@[simp] theorem State.setOp_ewt (k : Nat) (v : Option Op) : (s.setOp k v).ewt = s.ewt := rfl
@[simp] theorem State.setOp_homeTransit (k : Nat) (v : Option Op) : (s.setOp k v).homeTransit = s.homeTransit := rfl
@[simp] theorem State.setOp_homeLast (k : Nat) (v : Option Op) : (s.setOp k v).homeLast = s.homeLast := rfl
@[simp] theorem State.setOp_okt (k : Nat) (v : Option Op) : (s.setOp k v).okt = s.okt := rfl
@[simp] theorem State.setOp_oldKeys (k : Nat) (v : Option Op) : (s.setOp k v).oldKeys = s.oldKeys := rfl
@[simp] theorem State.setOp_reqs (k : Nat) (v : Option Op) : (s.setOp k v).reqs = s.reqs := rfl
@[simp] theorem State.setOp_gen (k : Nat) (v : Option Op) : (s.setOp k v).gen = s.gen := rfl
@[simp] theorem State.setOp_epochCache (k : Nat) (v : Option Op) : (s.setOp k v).epochCache = s.epochCache := rfl
@[simp] theorem State.setOp_twilightArm (k : Nat) (v : Option Op) : (s.setOp k v).twilightArm = s.twilightArm := rfl
@[simp] theorem State.setOp_links (k : Nat) (v : Option Op) : (s.setOp k v).links = s.links := rfl
@[simp] theorem State.setOp_routes (k : Nat) (v : Option Op) : (s.setOp k v).routes = s.routes := rfl
@[simp] theorem State.setOp_police (k : Nat) (v : Option Op) : (s.setOp k v).police = s.police := rfl
@[simp] theorem State.setOp_shape (k : Nat) (v : Option Op) : (s.setOp k v).shape = s.shape := rfl
@[simp] theorem State.setOp_posts (k : Nat) (v : Option Op) : (s.setOp k v).posts = s.posts := rfl
@[simp] theorem State.setOp_slots (k : Nat) (v : Option Op) : (s.setOp k v).slots = s.slots := rfl
@[simp] theorem State.setOp_rx (k : Nat) (v : Option Op) : (s.setOp k v).rx = s.rx := rfl
@[simp] theorem State.setOp_parked (k : Nat) (v : Option Op) : (s.setOp k v).parked = s.parked := rfl
@[simp] theorem State.setOp_outbox (k : Nat) (v : Option Op) : (s.setOp k v).outbox = s.outbox := rfl
@[simp] theorem State.setOp_tombs (k : Nat) (v : Option Op) : (s.setOp k v).tombs = s.tombs := rfl
@[simp] theorem State.setOp_buried (k : Nat) (v : Option Op) : (s.setOp k v).buried = s.buried := rfl
@[simp] theorem State.setOp_lostAt (k : Nat) (v : Option Op) : (s.setOp k v).lostAt = s.lostAt := rfl
@[simp] theorem State.setOp_parkWaits (k : Nat) (v : Option Op) : (s.setOp k v).parkWaits = s.parkWaits := rfl
@[simp] theorem State.setOp_beacons (k : Nat) (v : Option Op) : (s.setOp k v).beacons = s.beacons := rfl
@[simp] theorem State.setOp_waiters (k : Nat) (v : Option Op) : (s.setOp k v).waiters = s.waiters := rfl
@[simp] theorem State.setOp_epochs (k : Nat) (v : Option Op) : (s.setOp k v).epochs = s.epochs := rfl
@[simp] theorem State.setOp_scan (k : Nat) (v : Option Op) : (s.setOp k v).scan = s.scan := rfl
@[simp] theorem State.setOp_scanAgain (k : Nat) (v : Option Op) : (s.setOp k v).scanAgain = s.scanAgain := rfl
@[simp] theorem State.setOp_nextPrio (k : Nat) (v : Option Op) : (s.setOp k v).nextPrio = s.nextPrio := rfl
@[simp] theorem State.setOp_resumes (k : Nat) (v : Option Op) : (s.setOp k v).resumes = s.resumes := rfl
@[simp] theorem State.setOp_rrRing (k : Nat) (v : Option Op) : (s.setOp k v).rrRing = s.rrRing := rfl
@[simp] theorem State.setOp_rrPrio (k : Nat) (v : Option Op) : (s.setOp k v).rrPrio = s.rrPrio := rfl
@[simp] theorem State.setOp_sinceLowPrio (k : Nat) (v : Option Op) : (s.setOp k v).sinceLowPrio = s.sinceLowPrio := rfl
@[simp] theorem State.setOp_reserve (k : Nat) (v : Option Op) : (s.setOp k v).reserve = s.reserve := rfl
@[simp] theorem State.setOp_endCount (k : Nat) (v : Option Op) : (s.setOp k v).endCount = s.endCount := rfl
@[simp] theorem State.setOp_numVfs (k : Nat) (v : Option Op) : (s.setOp k v).numVfs = s.numVfs := rfl
@[simp] theorem State.setOp_llmRetired (k : Nat) (v : Option Op) : (s.setOp k v).llmRetired = s.llmRetired := rfl
@[simp] theorem State.setOp_portsRetired (k : Nat) (v : Option Op) : (s.setOp k v).portsRetired = s.portsRetired := rfl
@[simp] theorem State.setOp_msix (k : Nat) (v : Option Op) : (s.setOp k v).msix = s.msix := rfl
@[simp] theorem State.setOp_reports (k : Nat) (v : Option Op) : (s.setOp k v).reports = s.reports := rfl
@[simp] theorem State.setOp_fatals (k : Nat) (v : Option Op) : (s.setOp k v).fatals = s.fatals := rfl
@[simp] theorem State.setOp_logMeta (k : Nat) (v : Option Op) : (s.setOp k v).logMeta = s.logMeta := rfl
@[simp] theorem State.setOp_recs (k : Nat) (v : Option Op) : (s.setOp k v).recs = s.recs := rfl
@[simp] theorem State.setOp_recq (k : Nat) (v : Option Op) : (s.setOp k v).recq = s.recq := rfl
@[simp] theorem State.setOp_alm (k : Nat) (v : Option Op) : (s.setOp k v).alm = s.alm := rfl
@[simp] theorem State.setOp_nwt (k : Nat) (v : Option Op) : (s.setOp k v).nwt = s.nwt := rfl
@[simp] theorem State.setOp_ecl (k : Nat) (v : Option Op) : (s.setOp k v).ecl = s.ecl := rfl
@[simp] theorem State.setOp_pins (k : Nat) (v : Option Op) : (s.setOp k v).pins = s.pins := rfl
@[simp] theorem State.setOp_reg (k : Nat) (v : Option Op) (ro : Nat) : (s.setOp k v).reg ro = s.reg ro := rfl
@[simp] theorem State.setOp_fget (k : Nat) (v : Option Op) (g : Fld) : (s.setOp k v).fget g = s.fget g := rfl
@[simp] theorem State.setOp_byte (k : Nat) (v : Option Op) (j : Nat) : (s.setOp k v).byte j = s.byte j := rfl

/-! After `State.setVec`. -/

@[simp] theorem State.setVec_pending (k : Nat) (v : Bool × Bool) : (s.setVec k v).pending = s.pending := rfl
@[simp] theorem State.setVec_clock (k : Nat) (v : Bool × Bool) : (s.setVec k v).clock = s.clock := rfl
@[simp] theorem State.setVec_free (k : Nat) (v : Bool × Bool) : (s.setVec k v).free = s.free := rfl
@[simp] theorem State.setVec_out (k : Nat) (v : Bool × Bool) : (s.setVec k v).out = s.out := rfl
@[simp] theorem State.setVec_regs (k : Nat) (v : Bool × Bool) : (s.setVec k v).regs = s.regs := rfl
@[simp] theorem State.setVec_mem (k : Nat) (v : Bool × Bool) : (s.setVec k v).mem = s.mem := rfl
@[simp] theorem State.setVec_poison (k : Nat) (v : Bool × Bool) : (s.setVec k v).poison = s.poison := rfl
@[simp] theorem State.setVec_weak (k : Nat) (v : Bool × Bool) : (s.setVec k v).weak = s.weak := rfl
@[simp] theorem State.setVec_poisonRec (k : Nat) (v : Bool × Bool) : (s.setVec k v).poisonRec = s.poisonRec := rfl
@[simp] theorem State.setVec_nv (k : Nat) (v : Bool × Bool) : (s.setVec k v).nv = s.nv := rfl
@[simp] theorem State.setVec_boot (k : Nat) (v : Bool × Bool) : (s.setVec k v).boot = s.boot := rfl
@[simp] theorem State.setVec_togus (k : Nat) (v : Bool × Bool) : (s.setVec k v).togus = s.togus := rfl
@[simp] theorem State.setVec_trn (k : Nat) (v : Bool × Bool) : (s.setVec k v).trn = s.trn := rfl
@[simp] theorem State.setVec_droop (k : Nat) (v : Bool × Bool) : (s.setVec k v).droop = s.droop := rfl
@[simp] theorem State.setVec_mesh (k : Nat) (v : Bool × Bool) : (s.setVec k v).mesh = s.mesh := rfl
@[simp] theorem State.setVec_tcores (k : Nat) (v : Bool × Bool) : (s.setVec k v).tcores = s.tcores := rfl
@[simp] theorem State.setVec_pcores (k : Nat) (v : Bool × Bool) : (s.setVec k v).pcores = s.pcores := rfl
@[simp] theorem State.setVec_ses (k : Nat) (v : Bool × Bool) : (s.setVec k v).ses = s.ses := rfl
@[simp] theorem State.setVec_fronts (k : Nat) (v : Bool × Bool) : (s.setVec k v).fronts = s.fronts := rfl
@[simp] theorem State.setVec_dir (k : Nat) (v : Bool × Bool) : (s.setVec k v).dir = s.dir := rfl
@[simp] theorem State.setVec_wcb (k : Nat) (v : Bool × Bool) : (s.setVec k v).wcb = s.wcb := rfl
@[simp] theorem State.setVec_chans (k : Nat) (v : Bool × Bool) : (s.setVec k v).chans = s.chans := rfl
@[simp] theorem State.setVec_ewt (k : Nat) (v : Bool × Bool) : (s.setVec k v).ewt = s.ewt := rfl
@[simp] theorem State.setVec_homeTransit (k : Nat) (v : Bool × Bool) : (s.setVec k v).homeTransit = s.homeTransit := rfl
@[simp] theorem State.setVec_homeLast (k : Nat) (v : Bool × Bool) : (s.setVec k v).homeLast = s.homeLast := rfl
@[simp] theorem State.setVec_okt (k : Nat) (v : Bool × Bool) : (s.setVec k v).okt = s.okt := rfl
@[simp] theorem State.setVec_oldKeys (k : Nat) (v : Bool × Bool) : (s.setVec k v).oldKeys = s.oldKeys := rfl
@[simp] theorem State.setVec_reqs (k : Nat) (v : Bool × Bool) : (s.setVec k v).reqs = s.reqs := rfl
@[simp] theorem State.setVec_gen (k : Nat) (v : Bool × Bool) : (s.setVec k v).gen = s.gen := rfl
@[simp] theorem State.setVec_epochCache (k : Nat) (v : Bool × Bool) : (s.setVec k v).epochCache = s.epochCache := rfl
@[simp] theorem State.setVec_twilightArm (k : Nat) (v : Bool × Bool) : (s.setVec k v).twilightArm = s.twilightArm := rfl
@[simp] theorem State.setVec_links (k : Nat) (v : Bool × Bool) : (s.setVec k v).links = s.links := rfl
@[simp] theorem State.setVec_routes (k : Nat) (v : Bool × Bool) : (s.setVec k v).routes = s.routes := rfl
@[simp] theorem State.setVec_police (k : Nat) (v : Bool × Bool) : (s.setVec k v).police = s.police := rfl
@[simp] theorem State.setVec_shape (k : Nat) (v : Bool × Bool) : (s.setVec k v).shape = s.shape := rfl
@[simp] theorem State.setVec_posts (k : Nat) (v : Bool × Bool) : (s.setVec k v).posts = s.posts := rfl
@[simp] theorem State.setVec_slots (k : Nat) (v : Bool × Bool) : (s.setVec k v).slots = s.slots := rfl
@[simp] theorem State.setVec_rx (k : Nat) (v : Bool × Bool) : (s.setVec k v).rx = s.rx := rfl
@[simp] theorem State.setVec_parked (k : Nat) (v : Bool × Bool) : (s.setVec k v).parked = s.parked := rfl
@[simp] theorem State.setVec_outbox (k : Nat) (v : Bool × Bool) : (s.setVec k v).outbox = s.outbox := rfl
@[simp] theorem State.setVec_tombs (k : Nat) (v : Bool × Bool) : (s.setVec k v).tombs = s.tombs := rfl
@[simp] theorem State.setVec_buried (k : Nat) (v : Bool × Bool) : (s.setVec k v).buried = s.buried := rfl
@[simp] theorem State.setVec_lostAt (k : Nat) (v : Bool × Bool) : (s.setVec k v).lostAt = s.lostAt := rfl
@[simp] theorem State.setVec_parkWaits (k : Nat) (v : Bool × Bool) : (s.setVec k v).parkWaits = s.parkWaits := rfl
@[simp] theorem State.setVec_beacons (k : Nat) (v : Bool × Bool) : (s.setVec k v).beacons = s.beacons := rfl
@[simp] theorem State.setVec_waiters (k : Nat) (v : Bool × Bool) : (s.setVec k v).waiters = s.waiters := rfl
@[simp] theorem State.setVec_epochs (k : Nat) (v : Bool × Bool) : (s.setVec k v).epochs = s.epochs := rfl
@[simp] theorem State.setVec_scan (k : Nat) (v : Bool × Bool) : (s.setVec k v).scan = s.scan := rfl
@[simp] theorem State.setVec_scanAgain (k : Nat) (v : Bool × Bool) : (s.setVec k v).scanAgain = s.scanAgain := rfl
@[simp] theorem State.setVec_nextPrio (k : Nat) (v : Bool × Bool) : (s.setVec k v).nextPrio = s.nextPrio := rfl
@[simp] theorem State.setVec_ops (k : Nat) (v : Bool × Bool) : (s.setVec k v).ops = s.ops := rfl
@[simp] theorem State.setVec_resumes (k : Nat) (v : Bool × Bool) : (s.setVec k v).resumes = s.resumes := rfl
@[simp] theorem State.setVec_rrRing (k : Nat) (v : Bool × Bool) : (s.setVec k v).rrRing = s.rrRing := rfl
@[simp] theorem State.setVec_rrPrio (k : Nat) (v : Bool × Bool) : (s.setVec k v).rrPrio = s.rrPrio := rfl
@[simp] theorem State.setVec_sinceLowPrio (k : Nat) (v : Bool × Bool) : (s.setVec k v).sinceLowPrio = s.sinceLowPrio := rfl
@[simp] theorem State.setVec_reserve (k : Nat) (v : Bool × Bool) : (s.setVec k v).reserve = s.reserve := rfl
@[simp] theorem State.setVec_endCount (k : Nat) (v : Bool × Bool) : (s.setVec k v).endCount = s.endCount := rfl
@[simp] theorem State.setVec_numVfs (k : Nat) (v : Bool × Bool) : (s.setVec k v).numVfs = s.numVfs := rfl
@[simp] theorem State.setVec_llmRetired (k : Nat) (v : Bool × Bool) : (s.setVec k v).llmRetired = s.llmRetired := rfl
@[simp] theorem State.setVec_portsRetired (k : Nat) (v : Bool × Bool) : (s.setVec k v).portsRetired = s.portsRetired := rfl
@[simp] theorem State.setVec_reports (k : Nat) (v : Bool × Bool) : (s.setVec k v).reports = s.reports := rfl
@[simp] theorem State.setVec_fatals (k : Nat) (v : Bool × Bool) : (s.setVec k v).fatals = s.fatals := rfl
@[simp] theorem State.setVec_logMeta (k : Nat) (v : Bool × Bool) : (s.setVec k v).logMeta = s.logMeta := rfl
@[simp] theorem State.setVec_recs (k : Nat) (v : Bool × Bool) : (s.setVec k v).recs = s.recs := rfl
@[simp] theorem State.setVec_recq (k : Nat) (v : Bool × Bool) : (s.setVec k v).recq = s.recq := rfl
@[simp] theorem State.setVec_alm (k : Nat) (v : Bool × Bool) : (s.setVec k v).alm = s.alm := rfl
@[simp] theorem State.setVec_nwt (k : Nat) (v : Bool × Bool) : (s.setVec k v).nwt = s.nwt := rfl
@[simp] theorem State.setVec_ecl (k : Nat) (v : Bool × Bool) : (s.setVec k v).ecl = s.ecl := rfl
@[simp] theorem State.setVec_pins (k : Nat) (v : Bool × Bool) : (s.setVec k v).pins = s.pins := rfl
@[simp] theorem State.setVec_reg (k : Nat) (v : Bool × Bool) (ro : Nat) : (s.setVec k v).reg ro = s.reg ro := rfl
@[simp] theorem State.setVec_fget (k : Nat) (v : Bool × Bool) (g : Fld) : (s.setVec k v).fget g = s.fget g := rfl
@[simp] theorem State.setVec_byte (k : Nat) (v : Bool × Bool) (j : Nat) : (s.setVec k v).byte j = s.byte j := rfl

/-! After `State.setRecorded`. -/

@[simp] theorem State.setRecorded_pending (k : Nat) (v : List Nat) : (s.setRecorded k v).pending = s.pending := rfl
@[simp] theorem State.setRecorded_clock (k : Nat) (v : List Nat) : (s.setRecorded k v).clock = s.clock := rfl
@[simp] theorem State.setRecorded_free (k : Nat) (v : List Nat) : (s.setRecorded k v).free = s.free := rfl
@[simp] theorem State.setRecorded_out (k : Nat) (v : List Nat) : (s.setRecorded k v).out = s.out := rfl
@[simp] theorem State.setRecorded_regs (k : Nat) (v : List Nat) : (s.setRecorded k v).regs = s.regs := rfl
@[simp] theorem State.setRecorded_mem (k : Nat) (v : List Nat) : (s.setRecorded k v).mem = s.mem := rfl
@[simp] theorem State.setRecorded_poison (k : Nat) (v : List Nat) : (s.setRecorded k v).poison = s.poison := rfl
@[simp] theorem State.setRecorded_weak (k : Nat) (v : List Nat) : (s.setRecorded k v).weak = s.weak := rfl
@[simp] theorem State.setRecorded_nv (k : Nat) (v : List Nat) : (s.setRecorded k v).nv = s.nv := rfl
@[simp] theorem State.setRecorded_boot (k : Nat) (v : List Nat) : (s.setRecorded k v).boot = s.boot := rfl
@[simp] theorem State.setRecorded_togus (k : Nat) (v : List Nat) : (s.setRecorded k v).togus = s.togus := rfl
@[simp] theorem State.setRecorded_trn (k : Nat) (v : List Nat) : (s.setRecorded k v).trn = s.trn := rfl
@[simp] theorem State.setRecorded_droop (k : Nat) (v : List Nat) : (s.setRecorded k v).droop = s.droop := rfl
@[simp] theorem State.setRecorded_mesh (k : Nat) (v : List Nat) : (s.setRecorded k v).mesh = s.mesh := rfl
@[simp] theorem State.setRecorded_tcores (k : Nat) (v : List Nat) : (s.setRecorded k v).tcores = s.tcores := rfl
@[simp] theorem State.setRecorded_pcores (k : Nat) (v : List Nat) : (s.setRecorded k v).pcores = s.pcores := rfl
@[simp] theorem State.setRecorded_ses (k : Nat) (v : List Nat) : (s.setRecorded k v).ses = s.ses := rfl
@[simp] theorem State.setRecorded_fronts (k : Nat) (v : List Nat) : (s.setRecorded k v).fronts = s.fronts := rfl
@[simp] theorem State.setRecorded_dir (k : Nat) (v : List Nat) : (s.setRecorded k v).dir = s.dir := rfl
@[simp] theorem State.setRecorded_wcb (k : Nat) (v : List Nat) : (s.setRecorded k v).wcb = s.wcb := rfl
@[simp] theorem State.setRecorded_chans (k : Nat) (v : List Nat) : (s.setRecorded k v).chans = s.chans := rfl
@[simp] theorem State.setRecorded_ewt (k : Nat) (v : List Nat) : (s.setRecorded k v).ewt = s.ewt := rfl
@[simp] theorem State.setRecorded_homeTransit (k : Nat) (v : List Nat) : (s.setRecorded k v).homeTransit = s.homeTransit := rfl
@[simp] theorem State.setRecorded_homeLast (k : Nat) (v : List Nat) : (s.setRecorded k v).homeLast = s.homeLast := rfl
@[simp] theorem State.setRecorded_okt (k : Nat) (v : List Nat) : (s.setRecorded k v).okt = s.okt := rfl
@[simp] theorem State.setRecorded_oldKeys (k : Nat) (v : List Nat) : (s.setRecorded k v).oldKeys = s.oldKeys := rfl
@[simp] theorem State.setRecorded_reqs (k : Nat) (v : List Nat) : (s.setRecorded k v).reqs = s.reqs := rfl
@[simp] theorem State.setRecorded_gen (k : Nat) (v : List Nat) : (s.setRecorded k v).gen = s.gen := rfl
@[simp] theorem State.setRecorded_epochCache (k : Nat) (v : List Nat) : (s.setRecorded k v).epochCache = s.epochCache := rfl
@[simp] theorem State.setRecorded_twilightArm (k : Nat) (v : List Nat) : (s.setRecorded k v).twilightArm = s.twilightArm := rfl
@[simp] theorem State.setRecorded_links (k : Nat) (v : List Nat) : (s.setRecorded k v).links = s.links := rfl
@[simp] theorem State.setRecorded_routes (k : Nat) (v : List Nat) : (s.setRecorded k v).routes = s.routes := rfl
@[simp] theorem State.setRecorded_police (k : Nat) (v : List Nat) : (s.setRecorded k v).police = s.police := rfl
@[simp] theorem State.setRecorded_shape (k : Nat) (v : List Nat) : (s.setRecorded k v).shape = s.shape := rfl
@[simp] theorem State.setRecorded_posts (k : Nat) (v : List Nat) : (s.setRecorded k v).posts = s.posts := rfl
@[simp] theorem State.setRecorded_slots (k : Nat) (v : List Nat) : (s.setRecorded k v).slots = s.slots := rfl
@[simp] theorem State.setRecorded_rx (k : Nat) (v : List Nat) : (s.setRecorded k v).rx = s.rx := rfl
@[simp] theorem State.setRecorded_parked (k : Nat) (v : List Nat) : (s.setRecorded k v).parked = s.parked := rfl
@[simp] theorem State.setRecorded_outbox (k : Nat) (v : List Nat) : (s.setRecorded k v).outbox = s.outbox := rfl
@[simp] theorem State.setRecorded_tombs (k : Nat) (v : List Nat) : (s.setRecorded k v).tombs = s.tombs := rfl
@[simp] theorem State.setRecorded_buried (k : Nat) (v : List Nat) : (s.setRecorded k v).buried = s.buried := rfl
@[simp] theorem State.setRecorded_lostAt (k : Nat) (v : List Nat) : (s.setRecorded k v).lostAt = s.lostAt := rfl
@[simp] theorem State.setRecorded_parkWaits (k : Nat) (v : List Nat) : (s.setRecorded k v).parkWaits = s.parkWaits := rfl
@[simp] theorem State.setRecorded_beacons (k : Nat) (v : List Nat) : (s.setRecorded k v).beacons = s.beacons := rfl
@[simp] theorem State.setRecorded_waiters (k : Nat) (v : List Nat) : (s.setRecorded k v).waiters = s.waiters := rfl
@[simp] theorem State.setRecorded_epochs (k : Nat) (v : List Nat) : (s.setRecorded k v).epochs = s.epochs := rfl
@[simp] theorem State.setRecorded_scan (k : Nat) (v : List Nat) : (s.setRecorded k v).scan = s.scan := rfl
@[simp] theorem State.setRecorded_scanAgain (k : Nat) (v : List Nat) : (s.setRecorded k v).scanAgain = s.scanAgain := rfl
@[simp] theorem State.setRecorded_nextPrio (k : Nat) (v : List Nat) : (s.setRecorded k v).nextPrio = s.nextPrio := rfl
@[simp] theorem State.setRecorded_ops (k : Nat) (v : List Nat) : (s.setRecorded k v).ops = s.ops := rfl
@[simp] theorem State.setRecorded_resumes (k : Nat) (v : List Nat) : (s.setRecorded k v).resumes = s.resumes := rfl
@[simp] theorem State.setRecorded_rrRing (k : Nat) (v : List Nat) : (s.setRecorded k v).rrRing = s.rrRing := rfl
@[simp] theorem State.setRecorded_rrPrio (k : Nat) (v : List Nat) : (s.setRecorded k v).rrPrio = s.rrPrio := rfl
@[simp] theorem State.setRecorded_sinceLowPrio (k : Nat) (v : List Nat) : (s.setRecorded k v).sinceLowPrio = s.sinceLowPrio := rfl
@[simp] theorem State.setRecorded_reserve (k : Nat) (v : List Nat) : (s.setRecorded k v).reserve = s.reserve := rfl
@[simp] theorem State.setRecorded_endCount (k : Nat) (v : List Nat) : (s.setRecorded k v).endCount = s.endCount := rfl
@[simp] theorem State.setRecorded_numVfs (k : Nat) (v : List Nat) : (s.setRecorded k v).numVfs = s.numVfs := rfl
@[simp] theorem State.setRecorded_llmRetired (k : Nat) (v : List Nat) : (s.setRecorded k v).llmRetired = s.llmRetired := rfl
@[simp] theorem State.setRecorded_portsRetired (k : Nat) (v : List Nat) : (s.setRecorded k v).portsRetired = s.portsRetired := rfl
@[simp] theorem State.setRecorded_msix (k : Nat) (v : List Nat) : (s.setRecorded k v).msix = s.msix := rfl
@[simp] theorem State.setRecorded_reports (k : Nat) (v : List Nat) : (s.setRecorded k v).reports = s.reports := rfl
@[simp] theorem State.setRecorded_fatals (k : Nat) (v : List Nat) : (s.setRecorded k v).fatals = s.fatals := rfl
@[simp] theorem State.setRecorded_logMeta (k : Nat) (v : List Nat) : (s.setRecorded k v).logMeta = s.logMeta := rfl
@[simp] theorem State.setRecorded_recs (k : Nat) (v : List Nat) : (s.setRecorded k v).recs = s.recs := rfl
@[simp] theorem State.setRecorded_recq (k : Nat) (v : List Nat) : (s.setRecorded k v).recq = s.recq := rfl
@[simp] theorem State.setRecorded_alm (k : Nat) (v : List Nat) : (s.setRecorded k v).alm = s.alm := rfl
@[simp] theorem State.setRecorded_nwt (k : Nat) (v : List Nat) : (s.setRecorded k v).nwt = s.nwt := rfl
@[simp] theorem State.setRecorded_ecl (k : Nat) (v : List Nat) : (s.setRecorded k v).ecl = s.ecl := rfl
@[simp] theorem State.setRecorded_pins (k : Nat) (v : List Nat) : (s.setRecorded k v).pins = s.pins := rfl
@[simp] theorem State.setRecorded_reg (k : Nat) (v : List Nat) (ro : Nat) : (s.setRecorded k v).reg ro = s.reg ro := rfl
@[simp] theorem State.setRecorded_fget (k : Nat) (v : List Nat) (g : Fld) : (s.setRecorded k v).fget g = s.fget g := rfl
@[simp] theorem State.setRecorded_byte (k : Nat) (v : List Nat) (j : Nat) : (s.setRecorded k v).byte j = s.byte j := rfl

/-! After `State.write`. -/

@[simp] theorem State.write_pending (a : Nat) (bs : List Byte) : (s.write a bs).pending = s.pending := rfl
@[simp] theorem State.write_clock (a : Nat) (bs : List Byte) : (s.write a bs).clock = s.clock := rfl
@[simp] theorem State.write_free (a : Nat) (bs : List Byte) : (s.write a bs).free = s.free := rfl
@[simp] theorem State.write_out (a : Nat) (bs : List Byte) : (s.write a bs).out = s.out := rfl
@[simp] theorem State.write_regs (a : Nat) (bs : List Byte) : (s.write a bs).regs = s.regs := rfl
@[simp] theorem State.write_poison (a : Nat) (bs : List Byte) : (s.write a bs).poison = s.poison := rfl
@[simp] theorem State.write_weak (a : Nat) (bs : List Byte) : (s.write a bs).weak = s.weak := rfl
@[simp] theorem State.write_poisonRec (a : Nat) (bs : List Byte) : (s.write a bs).poisonRec = s.poisonRec := rfl
@[simp] theorem State.write_nv (a : Nat) (bs : List Byte) : (s.write a bs).nv = s.nv := rfl
@[simp] theorem State.write_boot (a : Nat) (bs : List Byte) : (s.write a bs).boot = s.boot := rfl
@[simp] theorem State.write_togus (a : Nat) (bs : List Byte) : (s.write a bs).togus = s.togus := rfl
@[simp] theorem State.write_trn (a : Nat) (bs : List Byte) : (s.write a bs).trn = s.trn := rfl
@[simp] theorem State.write_droop (a : Nat) (bs : List Byte) : (s.write a bs).droop = s.droop := rfl
@[simp] theorem State.write_mesh (a : Nat) (bs : List Byte) : (s.write a bs).mesh = s.mesh := rfl
@[simp] theorem State.write_tcores (a : Nat) (bs : List Byte) : (s.write a bs).tcores = s.tcores := rfl
@[simp] theorem State.write_pcores (a : Nat) (bs : List Byte) : (s.write a bs).pcores = s.pcores := rfl
@[simp] theorem State.write_ses (a : Nat) (bs : List Byte) : (s.write a bs).ses = s.ses := rfl
@[simp] theorem State.write_fronts (a : Nat) (bs : List Byte) : (s.write a bs).fronts = s.fronts := rfl
@[simp] theorem State.write_dir (a : Nat) (bs : List Byte) : (s.write a bs).dir = s.dir := rfl
@[simp] theorem State.write_wcb (a : Nat) (bs : List Byte) : (s.write a bs).wcb = s.wcb := rfl
@[simp] theorem State.write_chans (a : Nat) (bs : List Byte) : (s.write a bs).chans = s.chans := rfl
@[simp] theorem State.write_ewt (a : Nat) (bs : List Byte) : (s.write a bs).ewt = s.ewt := rfl
@[simp] theorem State.write_homeTransit (a : Nat) (bs : List Byte) : (s.write a bs).homeTransit = s.homeTransit := rfl
@[simp] theorem State.write_homeLast (a : Nat) (bs : List Byte) : (s.write a bs).homeLast = s.homeLast := rfl
@[simp] theorem State.write_okt (a : Nat) (bs : List Byte) : (s.write a bs).okt = s.okt := rfl
@[simp] theorem State.write_oldKeys (a : Nat) (bs : List Byte) : (s.write a bs).oldKeys = s.oldKeys := rfl
@[simp] theorem State.write_reqs (a : Nat) (bs : List Byte) : (s.write a bs).reqs = s.reqs := rfl
@[simp] theorem State.write_gen (a : Nat) (bs : List Byte) : (s.write a bs).gen = s.gen := rfl
@[simp] theorem State.write_epochCache (a : Nat) (bs : List Byte) : (s.write a bs).epochCache = s.epochCache := rfl
@[simp] theorem State.write_twilightArm (a : Nat) (bs : List Byte) : (s.write a bs).twilightArm = s.twilightArm := rfl
@[simp] theorem State.write_links (a : Nat) (bs : List Byte) : (s.write a bs).links = s.links := rfl
@[simp] theorem State.write_routes (a : Nat) (bs : List Byte) : (s.write a bs).routes = s.routes := rfl
@[simp] theorem State.write_police (a : Nat) (bs : List Byte) : (s.write a bs).police = s.police := rfl
@[simp] theorem State.write_shape (a : Nat) (bs : List Byte) : (s.write a bs).shape = s.shape := rfl
@[simp] theorem State.write_posts (a : Nat) (bs : List Byte) : (s.write a bs).posts = s.posts := rfl
@[simp] theorem State.write_slots (a : Nat) (bs : List Byte) : (s.write a bs).slots = s.slots := rfl
@[simp] theorem State.write_rx (a : Nat) (bs : List Byte) : (s.write a bs).rx = s.rx := rfl
@[simp] theorem State.write_parked (a : Nat) (bs : List Byte) : (s.write a bs).parked = s.parked := rfl
@[simp] theorem State.write_outbox (a : Nat) (bs : List Byte) : (s.write a bs).outbox = s.outbox := rfl
@[simp] theorem State.write_tombs (a : Nat) (bs : List Byte) : (s.write a bs).tombs = s.tombs := rfl
@[simp] theorem State.write_buried (a : Nat) (bs : List Byte) : (s.write a bs).buried = s.buried := rfl
@[simp] theorem State.write_lostAt (a : Nat) (bs : List Byte) : (s.write a bs).lostAt = s.lostAt := rfl
@[simp] theorem State.write_parkWaits (a : Nat) (bs : List Byte) : (s.write a bs).parkWaits = s.parkWaits := rfl
@[simp] theorem State.write_beacons (a : Nat) (bs : List Byte) : (s.write a bs).beacons = s.beacons := rfl
@[simp] theorem State.write_waiters (a : Nat) (bs : List Byte) : (s.write a bs).waiters = s.waiters := rfl
@[simp] theorem State.write_epochs (a : Nat) (bs : List Byte) : (s.write a bs).epochs = s.epochs := rfl
@[simp] theorem State.write_scan (a : Nat) (bs : List Byte) : (s.write a bs).scan = s.scan := rfl
@[simp] theorem State.write_scanAgain (a : Nat) (bs : List Byte) : (s.write a bs).scanAgain = s.scanAgain := rfl
@[simp] theorem State.write_nextPrio (a : Nat) (bs : List Byte) : (s.write a bs).nextPrio = s.nextPrio := rfl
@[simp] theorem State.write_ops (a : Nat) (bs : List Byte) : (s.write a bs).ops = s.ops := rfl
@[simp] theorem State.write_resumes (a : Nat) (bs : List Byte) : (s.write a bs).resumes = s.resumes := rfl
@[simp] theorem State.write_rrRing (a : Nat) (bs : List Byte) : (s.write a bs).rrRing = s.rrRing := rfl
@[simp] theorem State.write_rrPrio (a : Nat) (bs : List Byte) : (s.write a bs).rrPrio = s.rrPrio := rfl
@[simp] theorem State.write_sinceLowPrio (a : Nat) (bs : List Byte) : (s.write a bs).sinceLowPrio = s.sinceLowPrio := rfl
@[simp] theorem State.write_reserve (a : Nat) (bs : List Byte) : (s.write a bs).reserve = s.reserve := rfl
@[simp] theorem State.write_endCount (a : Nat) (bs : List Byte) : (s.write a bs).endCount = s.endCount := rfl
@[simp] theorem State.write_numVfs (a : Nat) (bs : List Byte) : (s.write a bs).numVfs = s.numVfs := rfl
@[simp] theorem State.write_llmRetired (a : Nat) (bs : List Byte) : (s.write a bs).llmRetired = s.llmRetired := rfl
@[simp] theorem State.write_portsRetired (a : Nat) (bs : List Byte) : (s.write a bs).portsRetired = s.portsRetired := rfl
@[simp] theorem State.write_msix (a : Nat) (bs : List Byte) : (s.write a bs).msix = s.msix := rfl
@[simp] theorem State.write_reports (a : Nat) (bs : List Byte) : (s.write a bs).reports = s.reports := rfl
@[simp] theorem State.write_fatals (a : Nat) (bs : List Byte) : (s.write a bs).fatals = s.fatals := rfl
@[simp] theorem State.write_logMeta (a : Nat) (bs : List Byte) : (s.write a bs).logMeta = s.logMeta := rfl
@[simp] theorem State.write_recs (a : Nat) (bs : List Byte) : (s.write a bs).recs = s.recs := rfl
@[simp] theorem State.write_recq (a : Nat) (bs : List Byte) : (s.write a bs).recq = s.recq := rfl
@[simp] theorem State.write_alm (a : Nat) (bs : List Byte) : (s.write a bs).alm = s.alm := rfl
@[simp] theorem State.write_nwt (a : Nat) (bs : List Byte) : (s.write a bs).nwt = s.nwt := rfl
@[simp] theorem State.write_ecl (a : Nat) (bs : List Byte) : (s.write a bs).ecl = s.ecl := rfl
@[simp] theorem State.write_pins (a : Nat) (bs : List Byte) : (s.write a bs).pins = s.pins := rfl
@[simp] theorem State.write_reg (a : Nat) (bs : List Byte) (ro : Nat) : (s.write a bs).reg ro = s.reg ro := rfl
@[simp] theorem State.write_fget (a : Nat) (bs : List Byte) (g : Fld) : (s.write a bs).fget g = s.fget g := rfl

/-! After `State.zero`. -/

@[simp] theorem State.zero_pending (a n : Nat) : (s.zero a n).pending = s.pending := rfl
@[simp] theorem State.zero_clock (a n : Nat) : (s.zero a n).clock = s.clock := rfl
@[simp] theorem State.zero_free (a n : Nat) : (s.zero a n).free = s.free := rfl
@[simp] theorem State.zero_out (a n : Nat) : (s.zero a n).out = s.out := rfl
@[simp] theorem State.zero_regs (a n : Nat) : (s.zero a n).regs = s.regs := rfl
@[simp] theorem State.zero_poisonRec (a n : Nat) : (s.zero a n).poisonRec = s.poisonRec := rfl
@[simp] theorem State.zero_nv (a n : Nat) : (s.zero a n).nv = s.nv := rfl
@[simp] theorem State.zero_boot (a n : Nat) : (s.zero a n).boot = s.boot := rfl
@[simp] theorem State.zero_togus (a n : Nat) : (s.zero a n).togus = s.togus := rfl
@[simp] theorem State.zero_trn (a n : Nat) : (s.zero a n).trn = s.trn := rfl
@[simp] theorem State.zero_droop (a n : Nat) : (s.zero a n).droop = s.droop := rfl
@[simp] theorem State.zero_mesh (a n : Nat) : (s.zero a n).mesh = s.mesh := rfl
@[simp] theorem State.zero_tcores (a n : Nat) : (s.zero a n).tcores = s.tcores := rfl
@[simp] theorem State.zero_pcores (a n : Nat) : (s.zero a n).pcores = s.pcores := rfl
@[simp] theorem State.zero_ses (a n : Nat) : (s.zero a n).ses = s.ses := rfl
@[simp] theorem State.zero_fronts (a n : Nat) : (s.zero a n).fronts = s.fronts := rfl
@[simp] theorem State.zero_dir (a n : Nat) : (s.zero a n).dir = s.dir := rfl
@[simp] theorem State.zero_wcb (a n : Nat) : (s.zero a n).wcb = s.wcb := rfl
@[simp] theorem State.zero_chans (a n : Nat) : (s.zero a n).chans = s.chans := rfl
@[simp] theorem State.zero_ewt (a n : Nat) : (s.zero a n).ewt = s.ewt := rfl
@[simp] theorem State.zero_homeTransit (a n : Nat) : (s.zero a n).homeTransit = s.homeTransit := rfl
@[simp] theorem State.zero_homeLast (a n : Nat) : (s.zero a n).homeLast = s.homeLast := rfl
@[simp] theorem State.zero_okt (a n : Nat) : (s.zero a n).okt = s.okt := rfl
@[simp] theorem State.zero_oldKeys (a n : Nat) : (s.zero a n).oldKeys = s.oldKeys := rfl
@[simp] theorem State.zero_reqs (a n : Nat) : (s.zero a n).reqs = s.reqs := rfl
@[simp] theorem State.zero_gen (a n : Nat) : (s.zero a n).gen = s.gen := rfl
@[simp] theorem State.zero_epochCache (a n : Nat) : (s.zero a n).epochCache = s.epochCache := rfl
@[simp] theorem State.zero_twilightArm (a n : Nat) : (s.zero a n).twilightArm = s.twilightArm := rfl
@[simp] theorem State.zero_links (a n : Nat) : (s.zero a n).links = s.links := rfl
@[simp] theorem State.zero_routes (a n : Nat) : (s.zero a n).routes = s.routes := rfl
@[simp] theorem State.zero_police (a n : Nat) : (s.zero a n).police = s.police := rfl
@[simp] theorem State.zero_shape (a n : Nat) : (s.zero a n).shape = s.shape := rfl
@[simp] theorem State.zero_posts (a n : Nat) : (s.zero a n).posts = s.posts := rfl
@[simp] theorem State.zero_slots (a n : Nat) : (s.zero a n).slots = s.slots := rfl
@[simp] theorem State.zero_rx (a n : Nat) : (s.zero a n).rx = s.rx := rfl
@[simp] theorem State.zero_parked (a n : Nat) : (s.zero a n).parked = s.parked := rfl
@[simp] theorem State.zero_outbox (a n : Nat) : (s.zero a n).outbox = s.outbox := rfl
@[simp] theorem State.zero_tombs (a n : Nat) : (s.zero a n).tombs = s.tombs := rfl
@[simp] theorem State.zero_buried (a n : Nat) : (s.zero a n).buried = s.buried := rfl
@[simp] theorem State.zero_lostAt (a n : Nat) : (s.zero a n).lostAt = s.lostAt := rfl
@[simp] theorem State.zero_parkWaits (a n : Nat) : (s.zero a n).parkWaits = s.parkWaits := rfl
@[simp] theorem State.zero_beacons (a n : Nat) : (s.zero a n).beacons = s.beacons := rfl
@[simp] theorem State.zero_waiters (a n : Nat) : (s.zero a n).waiters = s.waiters := rfl
@[simp] theorem State.zero_epochs (a n : Nat) : (s.zero a n).epochs = s.epochs := rfl
@[simp] theorem State.zero_scan (a n : Nat) : (s.zero a n).scan = s.scan := rfl
@[simp] theorem State.zero_scanAgain (a n : Nat) : (s.zero a n).scanAgain = s.scanAgain := rfl
@[simp] theorem State.zero_nextPrio (a n : Nat) : (s.zero a n).nextPrio = s.nextPrio := rfl
@[simp] theorem State.zero_ops (a n : Nat) : (s.zero a n).ops = s.ops := rfl
@[simp] theorem State.zero_resumes (a n : Nat) : (s.zero a n).resumes = s.resumes := rfl
@[simp] theorem State.zero_rrRing (a n : Nat) : (s.zero a n).rrRing = s.rrRing := rfl
@[simp] theorem State.zero_rrPrio (a n : Nat) : (s.zero a n).rrPrio = s.rrPrio := rfl
@[simp] theorem State.zero_sinceLowPrio (a n : Nat) : (s.zero a n).sinceLowPrio = s.sinceLowPrio := rfl
@[simp] theorem State.zero_reserve (a n : Nat) : (s.zero a n).reserve = s.reserve := rfl
@[simp] theorem State.zero_endCount (a n : Nat) : (s.zero a n).endCount = s.endCount := rfl
@[simp] theorem State.zero_numVfs (a n : Nat) : (s.zero a n).numVfs = s.numVfs := rfl
@[simp] theorem State.zero_llmRetired (a n : Nat) : (s.zero a n).llmRetired = s.llmRetired := rfl
@[simp] theorem State.zero_portsRetired (a n : Nat) : (s.zero a n).portsRetired = s.portsRetired := rfl
@[simp] theorem State.zero_msix (a n : Nat) : (s.zero a n).msix = s.msix := rfl
@[simp] theorem State.zero_reports (a n : Nat) : (s.zero a n).reports = s.reports := rfl
@[simp] theorem State.zero_fatals (a n : Nat) : (s.zero a n).fatals = s.fatals := rfl
@[simp] theorem State.zero_logMeta (a n : Nat) : (s.zero a n).logMeta = s.logMeta := rfl
@[simp] theorem State.zero_recs (a n : Nat) : (s.zero a n).recs = s.recs := rfl
@[simp] theorem State.zero_recq (a n : Nat) : (s.zero a n).recq = s.recq := rfl
@[simp] theorem State.zero_alm (a n : Nat) : (s.zero a n).alm = s.alm := rfl
@[simp] theorem State.zero_nwt (a n : Nat) : (s.zero a n).nwt = s.nwt := rfl
@[simp] theorem State.zero_ecl (a n : Nat) : (s.zero a n).ecl = s.ecl := rfl
@[simp] theorem State.zero_pins (a n : Nat) : (s.zero a n).pins = s.pins := rfl
@[simp] theorem State.zero_reg (a n : Nat) (ro : Nat) : (s.zero a n).reg ro = s.reg ro := rfl
@[simp] theorem State.zero_fget (a n : Nat) (g : Fld) : (s.zero a n).fget g = s.fget g := rfl

/-! After `State.emit`. -/

@[simp] theorem State.emit_pending (o : Out) : (s.emit o).pending = s.pending := rfl
@[simp] theorem State.emit_clock (o : Out) : (s.emit o).clock = s.clock := rfl
@[simp] theorem State.emit_free (o : Out) : (s.emit o).free = s.free := rfl
@[simp] theorem State.emit_regs (o : Out) : (s.emit o).regs = s.regs := rfl
@[simp] theorem State.emit_mem (o : Out) : (s.emit o).mem = s.mem := rfl
@[simp] theorem State.emit_poison (o : Out) : (s.emit o).poison = s.poison := rfl
@[simp] theorem State.emit_weak (o : Out) : (s.emit o).weak = s.weak := rfl
@[simp] theorem State.emit_poisonRec (o : Out) : (s.emit o).poisonRec = s.poisonRec := rfl
@[simp] theorem State.emit_nv (o : Out) : (s.emit o).nv = s.nv := rfl
@[simp] theorem State.emit_boot (o : Out) : (s.emit o).boot = s.boot := rfl
@[simp] theorem State.emit_togus (o : Out) : (s.emit o).togus = s.togus := rfl
@[simp] theorem State.emit_trn (o : Out) : (s.emit o).trn = s.trn := rfl
@[simp] theorem State.emit_droop (o : Out) : (s.emit o).droop = s.droop := rfl
@[simp] theorem State.emit_mesh (o : Out) : (s.emit o).mesh = s.mesh := rfl
@[simp] theorem State.emit_tcores (o : Out) : (s.emit o).tcores = s.tcores := rfl
@[simp] theorem State.emit_pcores (o : Out) : (s.emit o).pcores = s.pcores := rfl
@[simp] theorem State.emit_ses (o : Out) : (s.emit o).ses = s.ses := rfl
@[simp] theorem State.emit_fronts (o : Out) : (s.emit o).fronts = s.fronts := rfl
@[simp] theorem State.emit_dir (o : Out) : (s.emit o).dir = s.dir := rfl
@[simp] theorem State.emit_wcb (o : Out) : (s.emit o).wcb = s.wcb := rfl
@[simp] theorem State.emit_chans (o : Out) : (s.emit o).chans = s.chans := rfl
@[simp] theorem State.emit_ewt (o : Out) : (s.emit o).ewt = s.ewt := rfl
@[simp] theorem State.emit_homeTransit (o : Out) : (s.emit o).homeTransit = s.homeTransit := rfl
@[simp] theorem State.emit_homeLast (o : Out) : (s.emit o).homeLast = s.homeLast := rfl
@[simp] theorem State.emit_okt (o : Out) : (s.emit o).okt = s.okt := rfl
@[simp] theorem State.emit_oldKeys (o : Out) : (s.emit o).oldKeys = s.oldKeys := rfl
@[simp] theorem State.emit_reqs (o : Out) : (s.emit o).reqs = s.reqs := rfl
@[simp] theorem State.emit_gen (o : Out) : (s.emit o).gen = s.gen := rfl
@[simp] theorem State.emit_epochCache (o : Out) : (s.emit o).epochCache = s.epochCache := rfl
@[simp] theorem State.emit_twilightArm (o : Out) : (s.emit o).twilightArm = s.twilightArm := rfl
@[simp] theorem State.emit_links (o : Out) : (s.emit o).links = s.links := rfl
@[simp] theorem State.emit_routes (o : Out) : (s.emit o).routes = s.routes := rfl
@[simp] theorem State.emit_police (o : Out) : (s.emit o).police = s.police := rfl
@[simp] theorem State.emit_shape (o : Out) : (s.emit o).shape = s.shape := rfl
@[simp] theorem State.emit_posts (o : Out) : (s.emit o).posts = s.posts := rfl
@[simp] theorem State.emit_slots (o : Out) : (s.emit o).slots = s.slots := rfl
@[simp] theorem State.emit_rx (o : Out) : (s.emit o).rx = s.rx := rfl
@[simp] theorem State.emit_parked (o : Out) : (s.emit o).parked = s.parked := rfl
@[simp] theorem State.emit_outbox (o : Out) : (s.emit o).outbox = s.outbox := rfl
@[simp] theorem State.emit_tombs (o : Out) : (s.emit o).tombs = s.tombs := rfl
@[simp] theorem State.emit_buried (o : Out) : (s.emit o).buried = s.buried := rfl
@[simp] theorem State.emit_lostAt (o : Out) : (s.emit o).lostAt = s.lostAt := rfl
@[simp] theorem State.emit_parkWaits (o : Out) : (s.emit o).parkWaits = s.parkWaits := rfl
@[simp] theorem State.emit_beacons (o : Out) : (s.emit o).beacons = s.beacons := rfl
@[simp] theorem State.emit_waiters (o : Out) : (s.emit o).waiters = s.waiters := rfl
@[simp] theorem State.emit_epochs (o : Out) : (s.emit o).epochs = s.epochs := rfl
@[simp] theorem State.emit_scan (o : Out) : (s.emit o).scan = s.scan := rfl
@[simp] theorem State.emit_scanAgain (o : Out) : (s.emit o).scanAgain = s.scanAgain := rfl
@[simp] theorem State.emit_nextPrio (o : Out) : (s.emit o).nextPrio = s.nextPrio := rfl
@[simp] theorem State.emit_ops (o : Out) : (s.emit o).ops = s.ops := rfl
@[simp] theorem State.emit_resumes (o : Out) : (s.emit o).resumes = s.resumes := rfl
@[simp] theorem State.emit_rrRing (o : Out) : (s.emit o).rrRing = s.rrRing := rfl
@[simp] theorem State.emit_rrPrio (o : Out) : (s.emit o).rrPrio = s.rrPrio := rfl
@[simp] theorem State.emit_sinceLowPrio (o : Out) : (s.emit o).sinceLowPrio = s.sinceLowPrio := rfl
@[simp] theorem State.emit_reserve (o : Out) : (s.emit o).reserve = s.reserve := rfl
@[simp] theorem State.emit_endCount (o : Out) : (s.emit o).endCount = s.endCount := rfl
@[simp] theorem State.emit_numVfs (o : Out) : (s.emit o).numVfs = s.numVfs := rfl
@[simp] theorem State.emit_llmRetired (o : Out) : (s.emit o).llmRetired = s.llmRetired := rfl
@[simp] theorem State.emit_portsRetired (o : Out) : (s.emit o).portsRetired = s.portsRetired := rfl
@[simp] theorem State.emit_msix (o : Out) : (s.emit o).msix = s.msix := rfl
@[simp] theorem State.emit_reports (o : Out) : (s.emit o).reports = s.reports := rfl
@[simp] theorem State.emit_fatals (o : Out) : (s.emit o).fatals = s.fatals := rfl
@[simp] theorem State.emit_logMeta (o : Out) : (s.emit o).logMeta = s.logMeta := rfl
@[simp] theorem State.emit_recs (o : Out) : (s.emit o).recs = s.recs := rfl
@[simp] theorem State.emit_recq (o : Out) : (s.emit o).recq = s.recq := rfl
@[simp] theorem State.emit_alm (o : Out) : (s.emit o).alm = s.alm := rfl
@[simp] theorem State.emit_nwt (o : Out) : (s.emit o).nwt = s.nwt := rfl
@[simp] theorem State.emit_ecl (o : Out) : (s.emit o).ecl = s.ecl := rfl
@[simp] theorem State.emit_pins (o : Out) : (s.emit o).pins = s.pins := rfl
@[simp] theorem State.emit_reg (o : Out) (ro : Nat) : (s.emit o).reg ro = s.reg ro := rfl
@[simp] theorem State.emit_fget (o : Out) (g : Fld) : (s.emit o).fget g = s.fget g := rfl
@[simp] theorem State.emit_byte (o : Out) (j : Nat) : (s.emit o).byte j = s.byte j := rfl

/-! After `State.drawn`. -/

@[simp] theorem State.drawn_pending : (s.drawn).pending = s.pending := rfl
@[simp] theorem State.drawn_clock : (s.drawn).clock = s.clock := rfl
@[simp] theorem State.drawn_out : (s.drawn).out = s.out := rfl
@[simp] theorem State.drawn_regs : (s.drawn).regs = s.regs := rfl
@[simp] theorem State.drawn_mem : (s.drawn).mem = s.mem := rfl
@[simp] theorem State.drawn_poison : (s.drawn).poison = s.poison := rfl
@[simp] theorem State.drawn_weak : (s.drawn).weak = s.weak := rfl
@[simp] theorem State.drawn_poisonRec : (s.drawn).poisonRec = s.poisonRec := rfl
@[simp] theorem State.drawn_nv : (s.drawn).nv = s.nv := rfl
@[simp] theorem State.drawn_boot : (s.drawn).boot = s.boot := rfl
@[simp] theorem State.drawn_togus : (s.drawn).togus = s.togus := rfl
@[simp] theorem State.drawn_trn : (s.drawn).trn = s.trn := rfl
@[simp] theorem State.drawn_droop : (s.drawn).droop = s.droop := rfl
@[simp] theorem State.drawn_mesh : (s.drawn).mesh = s.mesh := rfl
@[simp] theorem State.drawn_tcores : (s.drawn).tcores = s.tcores := rfl
@[simp] theorem State.drawn_pcores : (s.drawn).pcores = s.pcores := rfl
@[simp] theorem State.drawn_ses : (s.drawn).ses = s.ses := rfl
@[simp] theorem State.drawn_fronts : (s.drawn).fronts = s.fronts := rfl
@[simp] theorem State.drawn_dir : (s.drawn).dir = s.dir := rfl
@[simp] theorem State.drawn_wcb : (s.drawn).wcb = s.wcb := rfl
@[simp] theorem State.drawn_chans : (s.drawn).chans = s.chans := rfl
@[simp] theorem State.drawn_ewt : (s.drawn).ewt = s.ewt := rfl
@[simp] theorem State.drawn_homeTransit : (s.drawn).homeTransit = s.homeTransit := rfl
@[simp] theorem State.drawn_homeLast : (s.drawn).homeLast = s.homeLast := rfl
@[simp] theorem State.drawn_okt : (s.drawn).okt = s.okt := rfl
@[simp] theorem State.drawn_oldKeys : (s.drawn).oldKeys = s.oldKeys := rfl
@[simp] theorem State.drawn_reqs : (s.drawn).reqs = s.reqs := rfl
@[simp] theorem State.drawn_gen : (s.drawn).gen = s.gen := rfl
@[simp] theorem State.drawn_epochCache : (s.drawn).epochCache = s.epochCache := rfl
@[simp] theorem State.drawn_twilightArm : (s.drawn).twilightArm = s.twilightArm := rfl
@[simp] theorem State.drawn_links : (s.drawn).links = s.links := rfl
@[simp] theorem State.drawn_routes : (s.drawn).routes = s.routes := rfl
@[simp] theorem State.drawn_police : (s.drawn).police = s.police := rfl
@[simp] theorem State.drawn_shape : (s.drawn).shape = s.shape := rfl
@[simp] theorem State.drawn_posts : (s.drawn).posts = s.posts := rfl
@[simp] theorem State.drawn_slots : (s.drawn).slots = s.slots := rfl
@[simp] theorem State.drawn_rx : (s.drawn).rx = s.rx := rfl
@[simp] theorem State.drawn_parked : (s.drawn).parked = s.parked := rfl
@[simp] theorem State.drawn_outbox : (s.drawn).outbox = s.outbox := rfl
@[simp] theorem State.drawn_tombs : (s.drawn).tombs = s.tombs := rfl
@[simp] theorem State.drawn_buried : (s.drawn).buried = s.buried := rfl
@[simp] theorem State.drawn_lostAt : (s.drawn).lostAt = s.lostAt := rfl
@[simp] theorem State.drawn_parkWaits : (s.drawn).parkWaits = s.parkWaits := rfl
@[simp] theorem State.drawn_beacons : (s.drawn).beacons = s.beacons := rfl
@[simp] theorem State.drawn_waiters : (s.drawn).waiters = s.waiters := rfl
@[simp] theorem State.drawn_epochs : (s.drawn).epochs = s.epochs := rfl
@[simp] theorem State.drawn_scan : (s.drawn).scan = s.scan := rfl
@[simp] theorem State.drawn_scanAgain : (s.drawn).scanAgain = s.scanAgain := rfl
@[simp] theorem State.drawn_nextPrio : (s.drawn).nextPrio = s.nextPrio := rfl
@[simp] theorem State.drawn_ops : (s.drawn).ops = s.ops := rfl
@[simp] theorem State.drawn_resumes : (s.drawn).resumes = s.resumes := rfl
@[simp] theorem State.drawn_rrRing : (s.drawn).rrRing = s.rrRing := rfl
@[simp] theorem State.drawn_rrPrio : (s.drawn).rrPrio = s.rrPrio := rfl
@[simp] theorem State.drawn_sinceLowPrio : (s.drawn).sinceLowPrio = s.sinceLowPrio := rfl
@[simp] theorem State.drawn_reserve : (s.drawn).reserve = s.reserve := rfl
@[simp] theorem State.drawn_endCount : (s.drawn).endCount = s.endCount := rfl
@[simp] theorem State.drawn_numVfs : (s.drawn).numVfs = s.numVfs := rfl
@[simp] theorem State.drawn_llmRetired : (s.drawn).llmRetired = s.llmRetired := rfl
@[simp] theorem State.drawn_portsRetired : (s.drawn).portsRetired = s.portsRetired := rfl
@[simp] theorem State.drawn_msix : (s.drawn).msix = s.msix := rfl
@[simp] theorem State.drawn_reports : (s.drawn).reports = s.reports := rfl
@[simp] theorem State.drawn_fatals : (s.drawn).fatals = s.fatals := rfl
@[simp] theorem State.drawn_logMeta : (s.drawn).logMeta = s.logMeta := rfl
@[simp] theorem State.drawn_recs : (s.drawn).recs = s.recs := rfl
@[simp] theorem State.drawn_recq : (s.drawn).recq = s.recq := rfl
@[simp] theorem State.drawn_alm : (s.drawn).alm = s.alm := rfl
@[simp] theorem State.drawn_nwt : (s.drawn).nwt = s.nwt := rfl
@[simp] theorem State.drawn_ecl : (s.drawn).ecl = s.ecl := rfl
@[simp] theorem State.drawn_pins : (s.drawn).pins = s.pins := rfl
@[simp] theorem State.drawn_reg (ro : Nat) : (s.drawn).reg ro = s.reg ro := rfl
@[simp] theorem State.drawn_fget (g : Fld) : (s.drawn).fget g = s.fget g := rfl
@[simp] theorem State.drawn_byte (j : Nat) : (s.drawn).byte j = s.byte j := rfl

/-! After `State.setReg`. -/

@[simp] theorem State.setReg_pending (off : Nat) (v : Word) : (s.setReg off v).pending = s.pending := rfl
@[simp] theorem State.setReg_clock (off : Nat) (v : Word) : (s.setReg off v).clock = s.clock := rfl
@[simp] theorem State.setReg_free (off : Nat) (v : Word) : (s.setReg off v).free = s.free := rfl
@[simp] theorem State.setReg_out (off : Nat) (v : Word) : (s.setReg off v).out = s.out := rfl
@[simp] theorem State.setReg_mem (off : Nat) (v : Word) : (s.setReg off v).mem = s.mem := rfl
@[simp] theorem State.setReg_poison (off : Nat) (v : Word) : (s.setReg off v).poison = s.poison := rfl
@[simp] theorem State.setReg_weak (off : Nat) (v : Word) : (s.setReg off v).weak = s.weak := rfl
@[simp] theorem State.setReg_poisonRec (off : Nat) (v : Word) : (s.setReg off v).poisonRec = s.poisonRec := rfl
@[simp] theorem State.setReg_nv (off : Nat) (v : Word) : (s.setReg off v).nv = s.nv := rfl
@[simp] theorem State.setReg_boot (off : Nat) (v : Word) : (s.setReg off v).boot = s.boot := rfl
@[simp] theorem State.setReg_togus (off : Nat) (v : Word) : (s.setReg off v).togus = s.togus := rfl
@[simp] theorem State.setReg_trn (off : Nat) (v : Word) : (s.setReg off v).trn = s.trn := rfl
@[simp] theorem State.setReg_droop (off : Nat) (v : Word) : (s.setReg off v).droop = s.droop := rfl
@[simp] theorem State.setReg_mesh (off : Nat) (v : Word) : (s.setReg off v).mesh = s.mesh := rfl
@[simp] theorem State.setReg_tcores (off : Nat) (v : Word) : (s.setReg off v).tcores = s.tcores := rfl
@[simp] theorem State.setReg_pcores (off : Nat) (v : Word) : (s.setReg off v).pcores = s.pcores := rfl
@[simp] theorem State.setReg_ses (off : Nat) (v : Word) : (s.setReg off v).ses = s.ses := rfl
@[simp] theorem State.setReg_fronts (off : Nat) (v : Word) : (s.setReg off v).fronts = s.fronts := rfl
@[simp] theorem State.setReg_dir (off : Nat) (v : Word) : (s.setReg off v).dir = s.dir := rfl
@[simp] theorem State.setReg_wcb (off : Nat) (v : Word) : (s.setReg off v).wcb = s.wcb := rfl
@[simp] theorem State.setReg_chans (off : Nat) (v : Word) : (s.setReg off v).chans = s.chans := rfl
@[simp] theorem State.setReg_ewt (off : Nat) (v : Word) : (s.setReg off v).ewt = s.ewt := rfl
@[simp] theorem State.setReg_homeTransit (off : Nat) (v : Word) : (s.setReg off v).homeTransit = s.homeTransit := rfl
@[simp] theorem State.setReg_homeLast (off : Nat) (v : Word) : (s.setReg off v).homeLast = s.homeLast := rfl
@[simp] theorem State.setReg_okt (off : Nat) (v : Word) : (s.setReg off v).okt = s.okt := rfl
@[simp] theorem State.setReg_oldKeys (off : Nat) (v : Word) : (s.setReg off v).oldKeys = s.oldKeys := rfl
@[simp] theorem State.setReg_reqs (off : Nat) (v : Word) : (s.setReg off v).reqs = s.reqs := rfl
@[simp] theorem State.setReg_gen (off : Nat) (v : Word) : (s.setReg off v).gen = s.gen := rfl
@[simp] theorem State.setReg_epochCache (off : Nat) (v : Word) : (s.setReg off v).epochCache = s.epochCache := rfl
@[simp] theorem State.setReg_twilightArm (off : Nat) (v : Word) : (s.setReg off v).twilightArm = s.twilightArm := rfl
@[simp] theorem State.setReg_links (off : Nat) (v : Word) : (s.setReg off v).links = s.links := rfl
@[simp] theorem State.setReg_routes (off : Nat) (v : Word) : (s.setReg off v).routes = s.routes := rfl
@[simp] theorem State.setReg_police (off : Nat) (v : Word) : (s.setReg off v).police = s.police := rfl
@[simp] theorem State.setReg_shape (off : Nat) (v : Word) : (s.setReg off v).shape = s.shape := rfl
@[simp] theorem State.setReg_posts (off : Nat) (v : Word) : (s.setReg off v).posts = s.posts := rfl
@[simp] theorem State.setReg_slots (off : Nat) (v : Word) : (s.setReg off v).slots = s.slots := rfl
@[simp] theorem State.setReg_rx (off : Nat) (v : Word) : (s.setReg off v).rx = s.rx := rfl
@[simp] theorem State.setReg_parked (off : Nat) (v : Word) : (s.setReg off v).parked = s.parked := rfl
@[simp] theorem State.setReg_outbox (off : Nat) (v : Word) : (s.setReg off v).outbox = s.outbox := rfl
@[simp] theorem State.setReg_tombs (off : Nat) (v : Word) : (s.setReg off v).tombs = s.tombs := rfl
@[simp] theorem State.setReg_buried (off : Nat) (v : Word) : (s.setReg off v).buried = s.buried := rfl
@[simp] theorem State.setReg_lostAt (off : Nat) (v : Word) : (s.setReg off v).lostAt = s.lostAt := rfl
@[simp] theorem State.setReg_parkWaits (off : Nat) (v : Word) : (s.setReg off v).parkWaits = s.parkWaits := rfl
@[simp] theorem State.setReg_beacons (off : Nat) (v : Word) : (s.setReg off v).beacons = s.beacons := rfl
@[simp] theorem State.setReg_waiters (off : Nat) (v : Word) : (s.setReg off v).waiters = s.waiters := rfl
@[simp] theorem State.setReg_epochs (off : Nat) (v : Word) : (s.setReg off v).epochs = s.epochs := rfl
@[simp] theorem State.setReg_scan (off : Nat) (v : Word) : (s.setReg off v).scan = s.scan := rfl
@[simp] theorem State.setReg_scanAgain (off : Nat) (v : Word) : (s.setReg off v).scanAgain = s.scanAgain := rfl
@[simp] theorem State.setReg_nextPrio (off : Nat) (v : Word) : (s.setReg off v).nextPrio = s.nextPrio := rfl
@[simp] theorem State.setReg_ops (off : Nat) (v : Word) : (s.setReg off v).ops = s.ops := rfl
@[simp] theorem State.setReg_resumes (off : Nat) (v : Word) : (s.setReg off v).resumes = s.resumes := rfl
@[simp] theorem State.setReg_rrRing (off : Nat) (v : Word) : (s.setReg off v).rrRing = s.rrRing := rfl
@[simp] theorem State.setReg_rrPrio (off : Nat) (v : Word) : (s.setReg off v).rrPrio = s.rrPrio := rfl
@[simp] theorem State.setReg_sinceLowPrio (off : Nat) (v : Word) : (s.setReg off v).sinceLowPrio = s.sinceLowPrio := rfl
@[simp] theorem State.setReg_reserve (off : Nat) (v : Word) : (s.setReg off v).reserve = s.reserve := rfl
@[simp] theorem State.setReg_endCount (off : Nat) (v : Word) : (s.setReg off v).endCount = s.endCount := rfl
@[simp] theorem State.setReg_numVfs (off : Nat) (v : Word) : (s.setReg off v).numVfs = s.numVfs := rfl
@[simp] theorem State.setReg_llmRetired (off : Nat) (v : Word) : (s.setReg off v).llmRetired = s.llmRetired := rfl
@[simp] theorem State.setReg_portsRetired (off : Nat) (v : Word) : (s.setReg off v).portsRetired = s.portsRetired := rfl
@[simp] theorem State.setReg_msix (off : Nat) (v : Word) : (s.setReg off v).msix = s.msix := rfl
@[simp] theorem State.setReg_reports (off : Nat) (v : Word) : (s.setReg off v).reports = s.reports := rfl
@[simp] theorem State.setReg_fatals (off : Nat) (v : Word) : (s.setReg off v).fatals = s.fatals := rfl
@[simp] theorem State.setReg_logMeta (off : Nat) (v : Word) : (s.setReg off v).logMeta = s.logMeta := rfl
@[simp] theorem State.setReg_recs (off : Nat) (v : Word) : (s.setReg off v).recs = s.recs := rfl
@[simp] theorem State.setReg_recq (off : Nat) (v : Word) : (s.setReg off v).recq = s.recq := rfl
@[simp] theorem State.setReg_alm (off : Nat) (v : Word) : (s.setReg off v).alm = s.alm := rfl
@[simp] theorem State.setReg_nwt (off : Nat) (v : Word) : (s.setReg off v).nwt = s.nwt := rfl
@[simp] theorem State.setReg_ecl (off : Nat) (v : Word) : (s.setReg off v).ecl = s.ecl := rfl
@[simp] theorem State.setReg_pins (off : Nat) (v : Word) : (s.setReg off v).pins = s.pins := rfl
@[simp] theorem State.setReg_byte (off : Nat) (v : Word) (j : Nat) : (s.setReg off v).byte j = s.byte j := rfl

/-! After `State.fset`. -/

@[simp] theorem State.fset_pending (f : Fld) (v : Nat) : (s.fset f v).pending = s.pending := rfl
@[simp] theorem State.fset_clock (f : Fld) (v : Nat) : (s.fset f v).clock = s.clock := rfl
@[simp] theorem State.fset_free (f : Fld) (v : Nat) : (s.fset f v).free = s.free := rfl
@[simp] theorem State.fset_out (f : Fld) (v : Nat) : (s.fset f v).out = s.out := rfl
@[simp] theorem State.fset_mem (f : Fld) (v : Nat) : (s.fset f v).mem = s.mem := rfl
@[simp] theorem State.fset_poison (f : Fld) (v : Nat) : (s.fset f v).poison = s.poison := rfl
@[simp] theorem State.fset_weak (f : Fld) (v : Nat) : (s.fset f v).weak = s.weak := rfl
@[simp] theorem State.fset_poisonRec (f : Fld) (v : Nat) : (s.fset f v).poisonRec = s.poisonRec := rfl
@[simp] theorem State.fset_nv (f : Fld) (v : Nat) : (s.fset f v).nv = s.nv := rfl
@[simp] theorem State.fset_boot (f : Fld) (v : Nat) : (s.fset f v).boot = s.boot := rfl
@[simp] theorem State.fset_togus (f : Fld) (v : Nat) : (s.fset f v).togus = s.togus := rfl
@[simp] theorem State.fset_trn (f : Fld) (v : Nat) : (s.fset f v).trn = s.trn := rfl
@[simp] theorem State.fset_droop (f : Fld) (v : Nat) : (s.fset f v).droop = s.droop := rfl
@[simp] theorem State.fset_mesh (f : Fld) (v : Nat) : (s.fset f v).mesh = s.mesh := rfl
@[simp] theorem State.fset_tcores (f : Fld) (v : Nat) : (s.fset f v).tcores = s.tcores := rfl
@[simp] theorem State.fset_pcores (f : Fld) (v : Nat) : (s.fset f v).pcores = s.pcores := rfl
@[simp] theorem State.fset_ses (f : Fld) (v : Nat) : (s.fset f v).ses = s.ses := rfl
@[simp] theorem State.fset_fronts (f : Fld) (v : Nat) : (s.fset f v).fronts = s.fronts := rfl
@[simp] theorem State.fset_dir (f : Fld) (v : Nat) : (s.fset f v).dir = s.dir := rfl
@[simp] theorem State.fset_wcb (f : Fld) (v : Nat) : (s.fset f v).wcb = s.wcb := rfl
@[simp] theorem State.fset_chans (f : Fld) (v : Nat) : (s.fset f v).chans = s.chans := rfl
@[simp] theorem State.fset_ewt (f : Fld) (v : Nat) : (s.fset f v).ewt = s.ewt := rfl
@[simp] theorem State.fset_homeTransit (f : Fld) (v : Nat) : (s.fset f v).homeTransit = s.homeTransit := rfl
@[simp] theorem State.fset_homeLast (f : Fld) (v : Nat) : (s.fset f v).homeLast = s.homeLast := rfl
@[simp] theorem State.fset_okt (f : Fld) (v : Nat) : (s.fset f v).okt = s.okt := rfl
@[simp] theorem State.fset_oldKeys (f : Fld) (v : Nat) : (s.fset f v).oldKeys = s.oldKeys := rfl
@[simp] theorem State.fset_reqs (f : Fld) (v : Nat) : (s.fset f v).reqs = s.reqs := rfl
@[simp] theorem State.fset_gen (f : Fld) (v : Nat) : (s.fset f v).gen = s.gen := rfl
@[simp] theorem State.fset_epochCache (f : Fld) (v : Nat) : (s.fset f v).epochCache = s.epochCache := rfl
@[simp] theorem State.fset_twilightArm (f : Fld) (v : Nat) : (s.fset f v).twilightArm = s.twilightArm := rfl
@[simp] theorem State.fset_links (f : Fld) (v : Nat) : (s.fset f v).links = s.links := rfl
@[simp] theorem State.fset_routes (f : Fld) (v : Nat) : (s.fset f v).routes = s.routes := rfl
@[simp] theorem State.fset_police (f : Fld) (v : Nat) : (s.fset f v).police = s.police := rfl
@[simp] theorem State.fset_shape (f : Fld) (v : Nat) : (s.fset f v).shape = s.shape := rfl
@[simp] theorem State.fset_posts (f : Fld) (v : Nat) : (s.fset f v).posts = s.posts := rfl
@[simp] theorem State.fset_slots (f : Fld) (v : Nat) : (s.fset f v).slots = s.slots := rfl
@[simp] theorem State.fset_rx (f : Fld) (v : Nat) : (s.fset f v).rx = s.rx := rfl
@[simp] theorem State.fset_parked (f : Fld) (v : Nat) : (s.fset f v).parked = s.parked := rfl
@[simp] theorem State.fset_outbox (f : Fld) (v : Nat) : (s.fset f v).outbox = s.outbox := rfl
@[simp] theorem State.fset_tombs (f : Fld) (v : Nat) : (s.fset f v).tombs = s.tombs := rfl
@[simp] theorem State.fset_buried (f : Fld) (v : Nat) : (s.fset f v).buried = s.buried := rfl
@[simp] theorem State.fset_lostAt (f : Fld) (v : Nat) : (s.fset f v).lostAt = s.lostAt := rfl
@[simp] theorem State.fset_parkWaits (f : Fld) (v : Nat) : (s.fset f v).parkWaits = s.parkWaits := rfl
@[simp] theorem State.fset_beacons (f : Fld) (v : Nat) : (s.fset f v).beacons = s.beacons := rfl
@[simp] theorem State.fset_waiters (f : Fld) (v : Nat) : (s.fset f v).waiters = s.waiters := rfl
@[simp] theorem State.fset_epochs (f : Fld) (v : Nat) : (s.fset f v).epochs = s.epochs := rfl
@[simp] theorem State.fset_scan (f : Fld) (v : Nat) : (s.fset f v).scan = s.scan := rfl
@[simp] theorem State.fset_scanAgain (f : Fld) (v : Nat) : (s.fset f v).scanAgain = s.scanAgain := rfl
@[simp] theorem State.fset_nextPrio (f : Fld) (v : Nat) : (s.fset f v).nextPrio = s.nextPrio := rfl
@[simp] theorem State.fset_ops (f : Fld) (v : Nat) : (s.fset f v).ops = s.ops := rfl
@[simp] theorem State.fset_resumes (f : Fld) (v : Nat) : (s.fset f v).resumes = s.resumes := rfl
@[simp] theorem State.fset_rrRing (f : Fld) (v : Nat) : (s.fset f v).rrRing = s.rrRing := rfl
@[simp] theorem State.fset_rrPrio (f : Fld) (v : Nat) : (s.fset f v).rrPrio = s.rrPrio := rfl
@[simp] theorem State.fset_sinceLowPrio (f : Fld) (v : Nat) : (s.fset f v).sinceLowPrio = s.sinceLowPrio := rfl
@[simp] theorem State.fset_reserve (f : Fld) (v : Nat) : (s.fset f v).reserve = s.reserve := rfl
@[simp] theorem State.fset_endCount (f : Fld) (v : Nat) : (s.fset f v).endCount = s.endCount := rfl
@[simp] theorem State.fset_numVfs (f : Fld) (v : Nat) : (s.fset f v).numVfs = s.numVfs := rfl
@[simp] theorem State.fset_llmRetired (f : Fld) (v : Nat) : (s.fset f v).llmRetired = s.llmRetired := rfl
@[simp] theorem State.fset_portsRetired (f : Fld) (v : Nat) : (s.fset f v).portsRetired = s.portsRetired := rfl
@[simp] theorem State.fset_msix (f : Fld) (v : Nat) : (s.fset f v).msix = s.msix := rfl
@[simp] theorem State.fset_reports (f : Fld) (v : Nat) : (s.fset f v).reports = s.reports := rfl
@[simp] theorem State.fset_fatals (f : Fld) (v : Nat) : (s.fset f v).fatals = s.fatals := rfl
@[simp] theorem State.fset_logMeta (f : Fld) (v : Nat) : (s.fset f v).logMeta = s.logMeta := rfl
@[simp] theorem State.fset_recs (f : Fld) (v : Nat) : (s.fset f v).recs = s.recs := rfl
@[simp] theorem State.fset_recq (f : Fld) (v : Nat) : (s.fset f v).recq = s.recq := rfl
@[simp] theorem State.fset_alm (f : Fld) (v : Nat) : (s.fset f v).alm = s.alm := rfl
@[simp] theorem State.fset_nwt (f : Fld) (v : Nat) : (s.fset f v).nwt = s.nwt := rfl
@[simp] theorem State.fset_ecl (f : Fld) (v : Nat) : (s.fset f v).ecl = s.ecl := rfl
@[simp] theorem State.fset_pins (f : Fld) (v : Nat) : (s.fset f v).pins = s.pins := rfl
@[simp] theorem State.fset_byte (f : Fld) (v : Nat) (j : Nat) : (s.fset f v).byte j = s.byte j := rfl

/-! After `State.onCore`. -/

@[simp] theorem State.onCore_pending (c : Nat) (f : TCore → TCore) : (s.onCore c f).pending = s.pending := rfl
@[simp] theorem State.onCore_clock (c : Nat) (f : TCore → TCore) : (s.onCore c f).clock = s.clock := rfl
@[simp] theorem State.onCore_free (c : Nat) (f : TCore → TCore) : (s.onCore c f).free = s.free := rfl
@[simp] theorem State.onCore_out (c : Nat) (f : TCore → TCore) : (s.onCore c f).out = s.out := rfl
@[simp] theorem State.onCore_regs (c : Nat) (f : TCore → TCore) : (s.onCore c f).regs = s.regs := rfl
@[simp] theorem State.onCore_mem (c : Nat) (f : TCore → TCore) : (s.onCore c f).mem = s.mem := rfl
@[simp] theorem State.onCore_poison (c : Nat) (f : TCore → TCore) : (s.onCore c f).poison = s.poison := rfl
@[simp] theorem State.onCore_weak (c : Nat) (f : TCore → TCore) : (s.onCore c f).weak = s.weak := rfl
@[simp] theorem State.onCore_poisonRec (c : Nat) (f : TCore → TCore) : (s.onCore c f).poisonRec = s.poisonRec := rfl
@[simp] theorem State.onCore_nv (c : Nat) (f : TCore → TCore) : (s.onCore c f).nv = s.nv := rfl
@[simp] theorem State.onCore_boot (c : Nat) (f : TCore → TCore) : (s.onCore c f).boot = s.boot := rfl
@[simp] theorem State.onCore_togus (c : Nat) (f : TCore → TCore) : (s.onCore c f).togus = s.togus := rfl
@[simp] theorem State.onCore_trn (c : Nat) (f : TCore → TCore) : (s.onCore c f).trn = s.trn := rfl
@[simp] theorem State.onCore_droop (c : Nat) (f : TCore → TCore) : (s.onCore c f).droop = s.droop := rfl
@[simp] theorem State.onCore_mesh (c : Nat) (f : TCore → TCore) : (s.onCore c f).mesh = s.mesh := rfl
@[simp] theorem State.onCore_pcores (c : Nat) (f : TCore → TCore) : (s.onCore c f).pcores = s.pcores := rfl
@[simp] theorem State.onCore_ses (c : Nat) (f : TCore → TCore) : (s.onCore c f).ses = s.ses := rfl
@[simp] theorem State.onCore_fronts (c : Nat) (f : TCore → TCore) : (s.onCore c f).fronts = s.fronts := rfl
@[simp] theorem State.onCore_dir (c : Nat) (f : TCore → TCore) : (s.onCore c f).dir = s.dir := rfl
@[simp] theorem State.onCore_wcb (c : Nat) (f : TCore → TCore) : (s.onCore c f).wcb = s.wcb := rfl
@[simp] theorem State.onCore_chans (c : Nat) (f : TCore → TCore) : (s.onCore c f).chans = s.chans := rfl
@[simp] theorem State.onCore_ewt (c : Nat) (f : TCore → TCore) : (s.onCore c f).ewt = s.ewt := rfl
@[simp] theorem State.onCore_homeTransit (c : Nat) (f : TCore → TCore) : (s.onCore c f).homeTransit = s.homeTransit := rfl
@[simp] theorem State.onCore_homeLast (c : Nat) (f : TCore → TCore) : (s.onCore c f).homeLast = s.homeLast := rfl
@[simp] theorem State.onCore_okt (c : Nat) (f : TCore → TCore) : (s.onCore c f).okt = s.okt := rfl
@[simp] theorem State.onCore_oldKeys (c : Nat) (f : TCore → TCore) : (s.onCore c f).oldKeys = s.oldKeys := rfl
@[simp] theorem State.onCore_reqs (c : Nat) (f : TCore → TCore) : (s.onCore c f).reqs = s.reqs := rfl
@[simp] theorem State.onCore_gen (c : Nat) (f : TCore → TCore) : (s.onCore c f).gen = s.gen := rfl
@[simp] theorem State.onCore_epochCache (c : Nat) (f : TCore → TCore) : (s.onCore c f).epochCache = s.epochCache := rfl
@[simp] theorem State.onCore_twilightArm (c : Nat) (f : TCore → TCore) : (s.onCore c f).twilightArm = s.twilightArm := rfl
@[simp] theorem State.onCore_links (c : Nat) (f : TCore → TCore) : (s.onCore c f).links = s.links := rfl
@[simp] theorem State.onCore_routes (c : Nat) (f : TCore → TCore) : (s.onCore c f).routes = s.routes := rfl
@[simp] theorem State.onCore_police (c : Nat) (f : TCore → TCore) : (s.onCore c f).police = s.police := rfl
@[simp] theorem State.onCore_shape (c : Nat) (f : TCore → TCore) : (s.onCore c f).shape = s.shape := rfl
@[simp] theorem State.onCore_posts (c : Nat) (f : TCore → TCore) : (s.onCore c f).posts = s.posts := rfl
@[simp] theorem State.onCore_slots (c : Nat) (f : TCore → TCore) : (s.onCore c f).slots = s.slots := rfl
@[simp] theorem State.onCore_rx (c : Nat) (f : TCore → TCore) : (s.onCore c f).rx = s.rx := rfl
@[simp] theorem State.onCore_parked (c : Nat) (f : TCore → TCore) : (s.onCore c f).parked = s.parked := rfl
@[simp] theorem State.onCore_outbox (c : Nat) (f : TCore → TCore) : (s.onCore c f).outbox = s.outbox := rfl
@[simp] theorem State.onCore_tombs (c : Nat) (f : TCore → TCore) : (s.onCore c f).tombs = s.tombs := rfl
@[simp] theorem State.onCore_buried (c : Nat) (f : TCore → TCore) : (s.onCore c f).buried = s.buried := rfl
@[simp] theorem State.onCore_lostAt (c : Nat) (f : TCore → TCore) : (s.onCore c f).lostAt = s.lostAt := rfl
@[simp] theorem State.onCore_parkWaits (c : Nat) (f : TCore → TCore) : (s.onCore c f).parkWaits = s.parkWaits := rfl
@[simp] theorem State.onCore_beacons (c : Nat) (f : TCore → TCore) : (s.onCore c f).beacons = s.beacons := rfl
@[simp] theorem State.onCore_waiters (c : Nat) (f : TCore → TCore) : (s.onCore c f).waiters = s.waiters := rfl
@[simp] theorem State.onCore_epochs (c : Nat) (f : TCore → TCore) : (s.onCore c f).epochs = s.epochs := rfl
@[simp] theorem State.onCore_scan (c : Nat) (f : TCore → TCore) : (s.onCore c f).scan = s.scan := rfl
@[simp] theorem State.onCore_scanAgain (c : Nat) (f : TCore → TCore) : (s.onCore c f).scanAgain = s.scanAgain := rfl
@[simp] theorem State.onCore_nextPrio (c : Nat) (f : TCore → TCore) : (s.onCore c f).nextPrio = s.nextPrio := rfl
@[simp] theorem State.onCore_ops (c : Nat) (f : TCore → TCore) : (s.onCore c f).ops = s.ops := rfl
@[simp] theorem State.onCore_resumes (c : Nat) (f : TCore → TCore) : (s.onCore c f).resumes = s.resumes := rfl
@[simp] theorem State.onCore_rrRing (c : Nat) (f : TCore → TCore) : (s.onCore c f).rrRing = s.rrRing := rfl
@[simp] theorem State.onCore_rrPrio (c : Nat) (f : TCore → TCore) : (s.onCore c f).rrPrio = s.rrPrio := rfl
@[simp] theorem State.onCore_sinceLowPrio (c : Nat) (f : TCore → TCore) : (s.onCore c f).sinceLowPrio = s.sinceLowPrio := rfl
@[simp] theorem State.onCore_reserve (c : Nat) (f : TCore → TCore) : (s.onCore c f).reserve = s.reserve := rfl
@[simp] theorem State.onCore_endCount (c : Nat) (f : TCore → TCore) : (s.onCore c f).endCount = s.endCount := rfl
@[simp] theorem State.onCore_numVfs (c : Nat) (f : TCore → TCore) : (s.onCore c f).numVfs = s.numVfs := rfl
@[simp] theorem State.onCore_llmRetired (c : Nat) (f : TCore → TCore) : (s.onCore c f).llmRetired = s.llmRetired := rfl
@[simp] theorem State.onCore_portsRetired (c : Nat) (f : TCore → TCore) : (s.onCore c f).portsRetired = s.portsRetired := rfl
@[simp] theorem State.onCore_msix (c : Nat) (f : TCore → TCore) : (s.onCore c f).msix = s.msix := rfl
@[simp] theorem State.onCore_reports (c : Nat) (f : TCore → TCore) : (s.onCore c f).reports = s.reports := rfl
@[simp] theorem State.onCore_fatals (c : Nat) (f : TCore → TCore) : (s.onCore c f).fatals = s.fatals := rfl
@[simp] theorem State.onCore_logMeta (c : Nat) (f : TCore → TCore) : (s.onCore c f).logMeta = s.logMeta := rfl
@[simp] theorem State.onCore_recs (c : Nat) (f : TCore → TCore) : (s.onCore c f).recs = s.recs := rfl
@[simp] theorem State.onCore_recq (c : Nat) (f : TCore → TCore) : (s.onCore c f).recq = s.recq := rfl
@[simp] theorem State.onCore_alm (c : Nat) (f : TCore → TCore) : (s.onCore c f).alm = s.alm := rfl
@[simp] theorem State.onCore_nwt (c : Nat) (f : TCore → TCore) : (s.onCore c f).nwt = s.nwt := rfl
@[simp] theorem State.onCore_ecl (c : Nat) (f : TCore → TCore) : (s.onCore c f).ecl = s.ecl := rfl
@[simp] theorem State.onCore_pins (c : Nat) (f : TCore → TCore) : (s.onCore c f).pins = s.pins := rfl
@[simp] theorem State.onCore_reg (c : Nat) (f : TCore → TCore) (ro : Nat) : (s.onCore c f).reg ro = s.reg ro := rfl
@[simp] theorem State.onCore_fget (c : Nat) (f : TCore → TCore) (g : Fld) : (s.onCore c f).fget g = s.fget g := rfl
@[simp] theorem State.onCore_byte (c : Nat) (f : TCore → TCore) (j : Nat) : (s.onCore c f).byte j = s.byte j := rfl

/-! After `State.onMe`. -/

@[simp] theorem State.onMe_pending (c : Nat) (f : MeState → MeState) : (s.onMe c f).pending = s.pending := rfl
@[simp] theorem State.onMe_clock (c : Nat) (f : MeState → MeState) : (s.onMe c f).clock = s.clock := rfl
@[simp] theorem State.onMe_free (c : Nat) (f : MeState → MeState) : (s.onMe c f).free = s.free := rfl
@[simp] theorem State.onMe_out (c : Nat) (f : MeState → MeState) : (s.onMe c f).out = s.out := rfl
@[simp] theorem State.onMe_regs (c : Nat) (f : MeState → MeState) : (s.onMe c f).regs = s.regs := rfl
@[simp] theorem State.onMe_mem (c : Nat) (f : MeState → MeState) : (s.onMe c f).mem = s.mem := rfl
@[simp] theorem State.onMe_poison (c : Nat) (f : MeState → MeState) : (s.onMe c f).poison = s.poison := rfl
@[simp] theorem State.onMe_weak (c : Nat) (f : MeState → MeState) : (s.onMe c f).weak = s.weak := rfl
@[simp] theorem State.onMe_poisonRec (c : Nat) (f : MeState → MeState) : (s.onMe c f).poisonRec = s.poisonRec := rfl
@[simp] theorem State.onMe_nv (c : Nat) (f : MeState → MeState) : (s.onMe c f).nv = s.nv := rfl
@[simp] theorem State.onMe_boot (c : Nat) (f : MeState → MeState) : (s.onMe c f).boot = s.boot := rfl
@[simp] theorem State.onMe_togus (c : Nat) (f : MeState → MeState) : (s.onMe c f).togus = s.togus := rfl
@[simp] theorem State.onMe_trn (c : Nat) (f : MeState → MeState) : (s.onMe c f).trn = s.trn := rfl
@[simp] theorem State.onMe_droop (c : Nat) (f : MeState → MeState) : (s.onMe c f).droop = s.droop := rfl
@[simp] theorem State.onMe_mesh (c : Nat) (f : MeState → MeState) : (s.onMe c f).mesh = s.mesh := rfl
@[simp] theorem State.onMe_pcores (c : Nat) (f : MeState → MeState) : (s.onMe c f).pcores = s.pcores := rfl
@[simp] theorem State.onMe_ses (c : Nat) (f : MeState → MeState) : (s.onMe c f).ses = s.ses := rfl
@[simp] theorem State.onMe_fronts (c : Nat) (f : MeState → MeState) : (s.onMe c f).fronts = s.fronts := rfl
@[simp] theorem State.onMe_dir (c : Nat) (f : MeState → MeState) : (s.onMe c f).dir = s.dir := rfl
@[simp] theorem State.onMe_wcb (c : Nat) (f : MeState → MeState) : (s.onMe c f).wcb = s.wcb := rfl
@[simp] theorem State.onMe_chans (c : Nat) (f : MeState → MeState) : (s.onMe c f).chans = s.chans := rfl
@[simp] theorem State.onMe_ewt (c : Nat) (f : MeState → MeState) : (s.onMe c f).ewt = s.ewt := rfl
@[simp] theorem State.onMe_homeTransit (c : Nat) (f : MeState → MeState) : (s.onMe c f).homeTransit = s.homeTransit := rfl
@[simp] theorem State.onMe_homeLast (c : Nat) (f : MeState → MeState) : (s.onMe c f).homeLast = s.homeLast := rfl
@[simp] theorem State.onMe_okt (c : Nat) (f : MeState → MeState) : (s.onMe c f).okt = s.okt := rfl
@[simp] theorem State.onMe_oldKeys (c : Nat) (f : MeState → MeState) : (s.onMe c f).oldKeys = s.oldKeys := rfl
@[simp] theorem State.onMe_reqs (c : Nat) (f : MeState → MeState) : (s.onMe c f).reqs = s.reqs := rfl
@[simp] theorem State.onMe_gen (c : Nat) (f : MeState → MeState) : (s.onMe c f).gen = s.gen := rfl
@[simp] theorem State.onMe_epochCache (c : Nat) (f : MeState → MeState) : (s.onMe c f).epochCache = s.epochCache := rfl
@[simp] theorem State.onMe_twilightArm (c : Nat) (f : MeState → MeState) : (s.onMe c f).twilightArm = s.twilightArm := rfl
@[simp] theorem State.onMe_links (c : Nat) (f : MeState → MeState) : (s.onMe c f).links = s.links := rfl
@[simp] theorem State.onMe_routes (c : Nat) (f : MeState → MeState) : (s.onMe c f).routes = s.routes := rfl
@[simp] theorem State.onMe_police (c : Nat) (f : MeState → MeState) : (s.onMe c f).police = s.police := rfl
@[simp] theorem State.onMe_shape (c : Nat) (f : MeState → MeState) : (s.onMe c f).shape = s.shape := rfl
@[simp] theorem State.onMe_posts (c : Nat) (f : MeState → MeState) : (s.onMe c f).posts = s.posts := rfl
@[simp] theorem State.onMe_slots (c : Nat) (f : MeState → MeState) : (s.onMe c f).slots = s.slots := rfl
@[simp] theorem State.onMe_rx (c : Nat) (f : MeState → MeState) : (s.onMe c f).rx = s.rx := rfl
@[simp] theorem State.onMe_parked (c : Nat) (f : MeState → MeState) : (s.onMe c f).parked = s.parked := rfl
@[simp] theorem State.onMe_outbox (c : Nat) (f : MeState → MeState) : (s.onMe c f).outbox = s.outbox := rfl
@[simp] theorem State.onMe_tombs (c : Nat) (f : MeState → MeState) : (s.onMe c f).tombs = s.tombs := rfl
@[simp] theorem State.onMe_buried (c : Nat) (f : MeState → MeState) : (s.onMe c f).buried = s.buried := rfl
@[simp] theorem State.onMe_lostAt (c : Nat) (f : MeState → MeState) : (s.onMe c f).lostAt = s.lostAt := rfl
@[simp] theorem State.onMe_parkWaits (c : Nat) (f : MeState → MeState) : (s.onMe c f).parkWaits = s.parkWaits := rfl
@[simp] theorem State.onMe_beacons (c : Nat) (f : MeState → MeState) : (s.onMe c f).beacons = s.beacons := rfl
@[simp] theorem State.onMe_waiters (c : Nat) (f : MeState → MeState) : (s.onMe c f).waiters = s.waiters := rfl
@[simp] theorem State.onMe_epochs (c : Nat) (f : MeState → MeState) : (s.onMe c f).epochs = s.epochs := rfl
@[simp] theorem State.onMe_scan (c : Nat) (f : MeState → MeState) : (s.onMe c f).scan = s.scan := rfl
@[simp] theorem State.onMe_scanAgain (c : Nat) (f : MeState → MeState) : (s.onMe c f).scanAgain = s.scanAgain := rfl
@[simp] theorem State.onMe_nextPrio (c : Nat) (f : MeState → MeState) : (s.onMe c f).nextPrio = s.nextPrio := rfl
@[simp] theorem State.onMe_ops (c : Nat) (f : MeState → MeState) : (s.onMe c f).ops = s.ops := rfl
@[simp] theorem State.onMe_resumes (c : Nat) (f : MeState → MeState) : (s.onMe c f).resumes = s.resumes := rfl
@[simp] theorem State.onMe_rrRing (c : Nat) (f : MeState → MeState) : (s.onMe c f).rrRing = s.rrRing := rfl
@[simp] theorem State.onMe_rrPrio (c : Nat) (f : MeState → MeState) : (s.onMe c f).rrPrio = s.rrPrio := rfl
@[simp] theorem State.onMe_sinceLowPrio (c : Nat) (f : MeState → MeState) : (s.onMe c f).sinceLowPrio = s.sinceLowPrio := rfl
@[simp] theorem State.onMe_reserve (c : Nat) (f : MeState → MeState) : (s.onMe c f).reserve = s.reserve := rfl
@[simp] theorem State.onMe_endCount (c : Nat) (f : MeState → MeState) : (s.onMe c f).endCount = s.endCount := rfl
@[simp] theorem State.onMe_numVfs (c : Nat) (f : MeState → MeState) : (s.onMe c f).numVfs = s.numVfs := rfl
@[simp] theorem State.onMe_llmRetired (c : Nat) (f : MeState → MeState) : (s.onMe c f).llmRetired = s.llmRetired := rfl
@[simp] theorem State.onMe_portsRetired (c : Nat) (f : MeState → MeState) : (s.onMe c f).portsRetired = s.portsRetired := rfl
@[simp] theorem State.onMe_msix (c : Nat) (f : MeState → MeState) : (s.onMe c f).msix = s.msix := rfl
@[simp] theorem State.onMe_reports (c : Nat) (f : MeState → MeState) : (s.onMe c f).reports = s.reports := rfl
@[simp] theorem State.onMe_fatals (c : Nat) (f : MeState → MeState) : (s.onMe c f).fatals = s.fatals := rfl
@[simp] theorem State.onMe_logMeta (c : Nat) (f : MeState → MeState) : (s.onMe c f).logMeta = s.logMeta := rfl
@[simp] theorem State.onMe_recs (c : Nat) (f : MeState → MeState) : (s.onMe c f).recs = s.recs := rfl
@[simp] theorem State.onMe_recq (c : Nat) (f : MeState → MeState) : (s.onMe c f).recq = s.recq := rfl
@[simp] theorem State.onMe_alm (c : Nat) (f : MeState → MeState) : (s.onMe c f).alm = s.alm := rfl
@[simp] theorem State.onMe_nwt (c : Nat) (f : MeState → MeState) : (s.onMe c f).nwt = s.nwt := rfl
@[simp] theorem State.onMe_ecl (c : Nat) (f : MeState → MeState) : (s.onMe c f).ecl = s.ecl := rfl
@[simp] theorem State.onMe_pins (c : Nat) (f : MeState → MeState) : (s.onMe c f).pins = s.pins := rfl
@[simp] theorem State.onMe_reg (c : Nat) (f : MeState → MeState) (ro : Nat) : (s.onMe c f).reg ro = s.reg ro := rfl
@[simp] theorem State.onMe_fget (c : Nat) (f : MeState → MeState) (g : Fld) : (s.onMe c f).fget g = s.fget g := rfl
@[simp] theorem State.onMe_byte (c : Nat) (f : MeState → MeState) (j : Nat) : (s.onMe c f).byte j = s.byte j := rfl

/-! After `State.onVe`. -/

@[simp] theorem State.onVe_pending (c : Nat) (f : VeState → VeState) : (s.onVe c f).pending = s.pending := rfl
@[simp] theorem State.onVe_clock (c : Nat) (f : VeState → VeState) : (s.onVe c f).clock = s.clock := rfl
@[simp] theorem State.onVe_free (c : Nat) (f : VeState → VeState) : (s.onVe c f).free = s.free := rfl
@[simp] theorem State.onVe_out (c : Nat) (f : VeState → VeState) : (s.onVe c f).out = s.out := rfl
@[simp] theorem State.onVe_regs (c : Nat) (f : VeState → VeState) : (s.onVe c f).regs = s.regs := rfl
@[simp] theorem State.onVe_mem (c : Nat) (f : VeState → VeState) : (s.onVe c f).mem = s.mem := rfl
@[simp] theorem State.onVe_poison (c : Nat) (f : VeState → VeState) : (s.onVe c f).poison = s.poison := rfl
@[simp] theorem State.onVe_weak (c : Nat) (f : VeState → VeState) : (s.onVe c f).weak = s.weak := rfl
@[simp] theorem State.onVe_poisonRec (c : Nat) (f : VeState → VeState) : (s.onVe c f).poisonRec = s.poisonRec := rfl
@[simp] theorem State.onVe_nv (c : Nat) (f : VeState → VeState) : (s.onVe c f).nv = s.nv := rfl
@[simp] theorem State.onVe_boot (c : Nat) (f : VeState → VeState) : (s.onVe c f).boot = s.boot := rfl
@[simp] theorem State.onVe_togus (c : Nat) (f : VeState → VeState) : (s.onVe c f).togus = s.togus := rfl
@[simp] theorem State.onVe_trn (c : Nat) (f : VeState → VeState) : (s.onVe c f).trn = s.trn := rfl
@[simp] theorem State.onVe_droop (c : Nat) (f : VeState → VeState) : (s.onVe c f).droop = s.droop := rfl
@[simp] theorem State.onVe_mesh (c : Nat) (f : VeState → VeState) : (s.onVe c f).mesh = s.mesh := rfl
@[simp] theorem State.onVe_pcores (c : Nat) (f : VeState → VeState) : (s.onVe c f).pcores = s.pcores := rfl
@[simp] theorem State.onVe_ses (c : Nat) (f : VeState → VeState) : (s.onVe c f).ses = s.ses := rfl
@[simp] theorem State.onVe_fronts (c : Nat) (f : VeState → VeState) : (s.onVe c f).fronts = s.fronts := rfl
@[simp] theorem State.onVe_dir (c : Nat) (f : VeState → VeState) : (s.onVe c f).dir = s.dir := rfl
@[simp] theorem State.onVe_wcb (c : Nat) (f : VeState → VeState) : (s.onVe c f).wcb = s.wcb := rfl
@[simp] theorem State.onVe_chans (c : Nat) (f : VeState → VeState) : (s.onVe c f).chans = s.chans := rfl
@[simp] theorem State.onVe_ewt (c : Nat) (f : VeState → VeState) : (s.onVe c f).ewt = s.ewt := rfl
@[simp] theorem State.onVe_homeTransit (c : Nat) (f : VeState → VeState) : (s.onVe c f).homeTransit = s.homeTransit := rfl
@[simp] theorem State.onVe_homeLast (c : Nat) (f : VeState → VeState) : (s.onVe c f).homeLast = s.homeLast := rfl
@[simp] theorem State.onVe_okt (c : Nat) (f : VeState → VeState) : (s.onVe c f).okt = s.okt := rfl
@[simp] theorem State.onVe_oldKeys (c : Nat) (f : VeState → VeState) : (s.onVe c f).oldKeys = s.oldKeys := rfl
@[simp] theorem State.onVe_reqs (c : Nat) (f : VeState → VeState) : (s.onVe c f).reqs = s.reqs := rfl
@[simp] theorem State.onVe_gen (c : Nat) (f : VeState → VeState) : (s.onVe c f).gen = s.gen := rfl
@[simp] theorem State.onVe_epochCache (c : Nat) (f : VeState → VeState) : (s.onVe c f).epochCache = s.epochCache := rfl
@[simp] theorem State.onVe_twilightArm (c : Nat) (f : VeState → VeState) : (s.onVe c f).twilightArm = s.twilightArm := rfl
@[simp] theorem State.onVe_links (c : Nat) (f : VeState → VeState) : (s.onVe c f).links = s.links := rfl
@[simp] theorem State.onVe_routes (c : Nat) (f : VeState → VeState) : (s.onVe c f).routes = s.routes := rfl
@[simp] theorem State.onVe_police (c : Nat) (f : VeState → VeState) : (s.onVe c f).police = s.police := rfl
@[simp] theorem State.onVe_shape (c : Nat) (f : VeState → VeState) : (s.onVe c f).shape = s.shape := rfl
@[simp] theorem State.onVe_posts (c : Nat) (f : VeState → VeState) : (s.onVe c f).posts = s.posts := rfl
@[simp] theorem State.onVe_slots (c : Nat) (f : VeState → VeState) : (s.onVe c f).slots = s.slots := rfl
@[simp] theorem State.onVe_rx (c : Nat) (f : VeState → VeState) : (s.onVe c f).rx = s.rx := rfl
@[simp] theorem State.onVe_parked (c : Nat) (f : VeState → VeState) : (s.onVe c f).parked = s.parked := rfl
@[simp] theorem State.onVe_outbox (c : Nat) (f : VeState → VeState) : (s.onVe c f).outbox = s.outbox := rfl
@[simp] theorem State.onVe_tombs (c : Nat) (f : VeState → VeState) : (s.onVe c f).tombs = s.tombs := rfl
@[simp] theorem State.onVe_buried (c : Nat) (f : VeState → VeState) : (s.onVe c f).buried = s.buried := rfl
@[simp] theorem State.onVe_lostAt (c : Nat) (f : VeState → VeState) : (s.onVe c f).lostAt = s.lostAt := rfl
@[simp] theorem State.onVe_parkWaits (c : Nat) (f : VeState → VeState) : (s.onVe c f).parkWaits = s.parkWaits := rfl
@[simp] theorem State.onVe_beacons (c : Nat) (f : VeState → VeState) : (s.onVe c f).beacons = s.beacons := rfl
@[simp] theorem State.onVe_waiters (c : Nat) (f : VeState → VeState) : (s.onVe c f).waiters = s.waiters := rfl
@[simp] theorem State.onVe_epochs (c : Nat) (f : VeState → VeState) : (s.onVe c f).epochs = s.epochs := rfl
@[simp] theorem State.onVe_scan (c : Nat) (f : VeState → VeState) : (s.onVe c f).scan = s.scan := rfl
@[simp] theorem State.onVe_scanAgain (c : Nat) (f : VeState → VeState) : (s.onVe c f).scanAgain = s.scanAgain := rfl
@[simp] theorem State.onVe_nextPrio (c : Nat) (f : VeState → VeState) : (s.onVe c f).nextPrio = s.nextPrio := rfl
@[simp] theorem State.onVe_ops (c : Nat) (f : VeState → VeState) : (s.onVe c f).ops = s.ops := rfl
@[simp] theorem State.onVe_resumes (c : Nat) (f : VeState → VeState) : (s.onVe c f).resumes = s.resumes := rfl
@[simp] theorem State.onVe_rrRing (c : Nat) (f : VeState → VeState) : (s.onVe c f).rrRing = s.rrRing := rfl
@[simp] theorem State.onVe_rrPrio (c : Nat) (f : VeState → VeState) : (s.onVe c f).rrPrio = s.rrPrio := rfl
@[simp] theorem State.onVe_sinceLowPrio (c : Nat) (f : VeState → VeState) : (s.onVe c f).sinceLowPrio = s.sinceLowPrio := rfl
@[simp] theorem State.onVe_reserve (c : Nat) (f : VeState → VeState) : (s.onVe c f).reserve = s.reserve := rfl
@[simp] theorem State.onVe_endCount (c : Nat) (f : VeState → VeState) : (s.onVe c f).endCount = s.endCount := rfl
@[simp] theorem State.onVe_numVfs (c : Nat) (f : VeState → VeState) : (s.onVe c f).numVfs = s.numVfs := rfl
@[simp] theorem State.onVe_llmRetired (c : Nat) (f : VeState → VeState) : (s.onVe c f).llmRetired = s.llmRetired := rfl
@[simp] theorem State.onVe_portsRetired (c : Nat) (f : VeState → VeState) : (s.onVe c f).portsRetired = s.portsRetired := rfl
@[simp] theorem State.onVe_msix (c : Nat) (f : VeState → VeState) : (s.onVe c f).msix = s.msix := rfl
@[simp] theorem State.onVe_reports (c : Nat) (f : VeState → VeState) : (s.onVe c f).reports = s.reports := rfl
@[simp] theorem State.onVe_fatals (c : Nat) (f : VeState → VeState) : (s.onVe c f).fatals = s.fatals := rfl
@[simp] theorem State.onVe_logMeta (c : Nat) (f : VeState → VeState) : (s.onVe c f).logMeta = s.logMeta := rfl
@[simp] theorem State.onVe_recs (c : Nat) (f : VeState → VeState) : (s.onVe c f).recs = s.recs := rfl
@[simp] theorem State.onVe_recq (c : Nat) (f : VeState → VeState) : (s.onVe c f).recq = s.recq := rfl
@[simp] theorem State.onVe_alm (c : Nat) (f : VeState → VeState) : (s.onVe c f).alm = s.alm := rfl
@[simp] theorem State.onVe_nwt (c : Nat) (f : VeState → VeState) : (s.onVe c f).nwt = s.nwt := rfl
@[simp] theorem State.onVe_ecl (c : Nat) (f : VeState → VeState) : (s.onVe c f).ecl = s.ecl := rfl
@[simp] theorem State.onVe_pins (c : Nat) (f : VeState → VeState) : (s.onVe c f).pins = s.pins := rfl
@[simp] theorem State.onVe_reg (c : Nat) (f : VeState → VeState) (ro : Nat) : (s.onVe c f).reg ro = s.reg ro := rfl
@[simp] theorem State.onVe_fget (c : Nat) (f : VeState → VeState) (g : Fld) : (s.onVe c f).fget g = s.fget g := rfl
@[simp] theorem State.onVe_byte (c : Nat) (f : VeState → VeState) (j : Nat) : (s.onVe c f).byte j = s.byte j := rfl

/-! After `State.onFe`. -/

@[simp] theorem State.onFe_pending (c : Nat) (f : FeState → FeState) : (s.onFe c f).pending = s.pending := rfl
@[simp] theorem State.onFe_clock (c : Nat) (f : FeState → FeState) : (s.onFe c f).clock = s.clock := rfl
@[simp] theorem State.onFe_free (c : Nat) (f : FeState → FeState) : (s.onFe c f).free = s.free := rfl
@[simp] theorem State.onFe_out (c : Nat) (f : FeState → FeState) : (s.onFe c f).out = s.out := rfl
@[simp] theorem State.onFe_regs (c : Nat) (f : FeState → FeState) : (s.onFe c f).regs = s.regs := rfl
@[simp] theorem State.onFe_mem (c : Nat) (f : FeState → FeState) : (s.onFe c f).mem = s.mem := rfl
@[simp] theorem State.onFe_poison (c : Nat) (f : FeState → FeState) : (s.onFe c f).poison = s.poison := rfl
@[simp] theorem State.onFe_weak (c : Nat) (f : FeState → FeState) : (s.onFe c f).weak = s.weak := rfl
@[simp] theorem State.onFe_poisonRec (c : Nat) (f : FeState → FeState) : (s.onFe c f).poisonRec = s.poisonRec := rfl
@[simp] theorem State.onFe_nv (c : Nat) (f : FeState → FeState) : (s.onFe c f).nv = s.nv := rfl
@[simp] theorem State.onFe_boot (c : Nat) (f : FeState → FeState) : (s.onFe c f).boot = s.boot := rfl
@[simp] theorem State.onFe_togus (c : Nat) (f : FeState → FeState) : (s.onFe c f).togus = s.togus := rfl
@[simp] theorem State.onFe_trn (c : Nat) (f : FeState → FeState) : (s.onFe c f).trn = s.trn := rfl
@[simp] theorem State.onFe_droop (c : Nat) (f : FeState → FeState) : (s.onFe c f).droop = s.droop := rfl
@[simp] theorem State.onFe_mesh (c : Nat) (f : FeState → FeState) : (s.onFe c f).mesh = s.mesh := rfl
@[simp] theorem State.onFe_pcores (c : Nat) (f : FeState → FeState) : (s.onFe c f).pcores = s.pcores := rfl
@[simp] theorem State.onFe_ses (c : Nat) (f : FeState → FeState) : (s.onFe c f).ses = s.ses := rfl
@[simp] theorem State.onFe_fronts (c : Nat) (f : FeState → FeState) : (s.onFe c f).fronts = s.fronts := rfl
@[simp] theorem State.onFe_dir (c : Nat) (f : FeState → FeState) : (s.onFe c f).dir = s.dir := rfl
@[simp] theorem State.onFe_wcb (c : Nat) (f : FeState → FeState) : (s.onFe c f).wcb = s.wcb := rfl
@[simp] theorem State.onFe_chans (c : Nat) (f : FeState → FeState) : (s.onFe c f).chans = s.chans := rfl
@[simp] theorem State.onFe_ewt (c : Nat) (f : FeState → FeState) : (s.onFe c f).ewt = s.ewt := rfl
@[simp] theorem State.onFe_homeTransit (c : Nat) (f : FeState → FeState) : (s.onFe c f).homeTransit = s.homeTransit := rfl
@[simp] theorem State.onFe_homeLast (c : Nat) (f : FeState → FeState) : (s.onFe c f).homeLast = s.homeLast := rfl
@[simp] theorem State.onFe_okt (c : Nat) (f : FeState → FeState) : (s.onFe c f).okt = s.okt := rfl
@[simp] theorem State.onFe_oldKeys (c : Nat) (f : FeState → FeState) : (s.onFe c f).oldKeys = s.oldKeys := rfl
@[simp] theorem State.onFe_reqs (c : Nat) (f : FeState → FeState) : (s.onFe c f).reqs = s.reqs := rfl
@[simp] theorem State.onFe_gen (c : Nat) (f : FeState → FeState) : (s.onFe c f).gen = s.gen := rfl
@[simp] theorem State.onFe_epochCache (c : Nat) (f : FeState → FeState) : (s.onFe c f).epochCache = s.epochCache := rfl
@[simp] theorem State.onFe_twilightArm (c : Nat) (f : FeState → FeState) : (s.onFe c f).twilightArm = s.twilightArm := rfl
@[simp] theorem State.onFe_links (c : Nat) (f : FeState → FeState) : (s.onFe c f).links = s.links := rfl
@[simp] theorem State.onFe_routes (c : Nat) (f : FeState → FeState) : (s.onFe c f).routes = s.routes := rfl
@[simp] theorem State.onFe_police (c : Nat) (f : FeState → FeState) : (s.onFe c f).police = s.police := rfl
@[simp] theorem State.onFe_shape (c : Nat) (f : FeState → FeState) : (s.onFe c f).shape = s.shape := rfl
@[simp] theorem State.onFe_posts (c : Nat) (f : FeState → FeState) : (s.onFe c f).posts = s.posts := rfl
@[simp] theorem State.onFe_slots (c : Nat) (f : FeState → FeState) : (s.onFe c f).slots = s.slots := rfl
@[simp] theorem State.onFe_rx (c : Nat) (f : FeState → FeState) : (s.onFe c f).rx = s.rx := rfl
@[simp] theorem State.onFe_parked (c : Nat) (f : FeState → FeState) : (s.onFe c f).parked = s.parked := rfl
@[simp] theorem State.onFe_outbox (c : Nat) (f : FeState → FeState) : (s.onFe c f).outbox = s.outbox := rfl
@[simp] theorem State.onFe_tombs (c : Nat) (f : FeState → FeState) : (s.onFe c f).tombs = s.tombs := rfl
@[simp] theorem State.onFe_buried (c : Nat) (f : FeState → FeState) : (s.onFe c f).buried = s.buried := rfl
@[simp] theorem State.onFe_lostAt (c : Nat) (f : FeState → FeState) : (s.onFe c f).lostAt = s.lostAt := rfl
@[simp] theorem State.onFe_parkWaits (c : Nat) (f : FeState → FeState) : (s.onFe c f).parkWaits = s.parkWaits := rfl
@[simp] theorem State.onFe_beacons (c : Nat) (f : FeState → FeState) : (s.onFe c f).beacons = s.beacons := rfl
@[simp] theorem State.onFe_waiters (c : Nat) (f : FeState → FeState) : (s.onFe c f).waiters = s.waiters := rfl
@[simp] theorem State.onFe_epochs (c : Nat) (f : FeState → FeState) : (s.onFe c f).epochs = s.epochs := rfl
@[simp] theorem State.onFe_scan (c : Nat) (f : FeState → FeState) : (s.onFe c f).scan = s.scan := rfl
@[simp] theorem State.onFe_scanAgain (c : Nat) (f : FeState → FeState) : (s.onFe c f).scanAgain = s.scanAgain := rfl
@[simp] theorem State.onFe_nextPrio (c : Nat) (f : FeState → FeState) : (s.onFe c f).nextPrio = s.nextPrio := rfl
@[simp] theorem State.onFe_ops (c : Nat) (f : FeState → FeState) : (s.onFe c f).ops = s.ops := rfl
@[simp] theorem State.onFe_resumes (c : Nat) (f : FeState → FeState) : (s.onFe c f).resumes = s.resumes := rfl
@[simp] theorem State.onFe_rrRing (c : Nat) (f : FeState → FeState) : (s.onFe c f).rrRing = s.rrRing := rfl
@[simp] theorem State.onFe_rrPrio (c : Nat) (f : FeState → FeState) : (s.onFe c f).rrPrio = s.rrPrio := rfl
@[simp] theorem State.onFe_sinceLowPrio (c : Nat) (f : FeState → FeState) : (s.onFe c f).sinceLowPrio = s.sinceLowPrio := rfl
@[simp] theorem State.onFe_reserve (c : Nat) (f : FeState → FeState) : (s.onFe c f).reserve = s.reserve := rfl
@[simp] theorem State.onFe_endCount (c : Nat) (f : FeState → FeState) : (s.onFe c f).endCount = s.endCount := rfl
@[simp] theorem State.onFe_numVfs (c : Nat) (f : FeState → FeState) : (s.onFe c f).numVfs = s.numVfs := rfl
@[simp] theorem State.onFe_llmRetired (c : Nat) (f : FeState → FeState) : (s.onFe c f).llmRetired = s.llmRetired := rfl
@[simp] theorem State.onFe_portsRetired (c : Nat) (f : FeState → FeState) : (s.onFe c f).portsRetired = s.portsRetired := rfl
@[simp] theorem State.onFe_msix (c : Nat) (f : FeState → FeState) : (s.onFe c f).msix = s.msix := rfl
@[simp] theorem State.onFe_reports (c : Nat) (f : FeState → FeState) : (s.onFe c f).reports = s.reports := rfl
@[simp] theorem State.onFe_fatals (c : Nat) (f : FeState → FeState) : (s.onFe c f).fatals = s.fatals := rfl
@[simp] theorem State.onFe_logMeta (c : Nat) (f : FeState → FeState) : (s.onFe c f).logMeta = s.logMeta := rfl
@[simp] theorem State.onFe_recs (c : Nat) (f : FeState → FeState) : (s.onFe c f).recs = s.recs := rfl
@[simp] theorem State.onFe_recq (c : Nat) (f : FeState → FeState) : (s.onFe c f).recq = s.recq := rfl
@[simp] theorem State.onFe_alm (c : Nat) (f : FeState → FeState) : (s.onFe c f).alm = s.alm := rfl
@[simp] theorem State.onFe_nwt (c : Nat) (f : FeState → FeState) : (s.onFe c f).nwt = s.nwt := rfl
@[simp] theorem State.onFe_ecl (c : Nat) (f : FeState → FeState) : (s.onFe c f).ecl = s.ecl := rfl
@[simp] theorem State.onFe_pins (c : Nat) (f : FeState → FeState) : (s.onFe c f).pins = s.pins := rfl
@[simp] theorem State.onFe_reg (c : Nat) (f : FeState → FeState) (ro : Nat) : (s.onFe c f).reg ro = s.reg ro := rfl
@[simp] theorem State.onFe_fget (c : Nat) (f : FeState → FeState) (g : Fld) : (s.onFe c f).fget g = s.fget g := rfl
@[simp] theorem State.onFe_byte (c : Nat) (f : FeState → FeState) (j : Nat) : (s.onFe c f).byte j = s.byte j := rfl

@[simp] theorem State.tcore_setTcore_same (k : Nat) (v : TCore) : (s.setTcore k v).tcore k = v := assocGet_set_same _ _ _ _
theorem State.tcore_setTcore_other (k : Nat) (v : TCore) (j : Nat) (h : k ≠ j) : (s.setTcore k v).tcore j = s.tcore j := assocGet_set_other _ _ _ _ _ h

@[simp] theorem State.pcore_setPcore_same (k : Nat) (v : Jumbe) : (s.setPcore k v).pcore k = v := assocGet_set_same _ _ _ _
theorem State.pcore_setPcore_other (k : Nat) (v : Jumbe) (j : Nat) (h : k ≠ j) : (s.setPcore k v).pcore j = s.pcore j := assocGet_set_other _ _ _ _ _ h

@[simp] theorem State.se_setSe_same (k : Nat) (v : SeState) : (s.setSe k v).se k = v := assocGet_set_same _ _ _ _
theorem State.se_setSe_other (k : Nat) (v : SeState) (j : Nat) (h : k ≠ j) : (s.setSe k v).se j = s.se j := assocGet_set_other _ _ _ _ _ h

@[simp] theorem State.front_setFront_same (k : Nat) (v : Option Nat) : (s.setFront k v).front k = v := assocGet_set_same _ _ _ _
theorem State.front_setFront_other (k : Nat) (v : Option Nat) (j : Nat) (h : k ≠ j) : (s.setFront k v).front j = s.front j := assocGet_set_other _ _ _ _ _ h

@[simp] theorem State.meshLink_setMeshLink_same (k : Nat) (v : MeshLink) : (s.setMeshLink k v).meshLink k = v := assocGet_set_same _ _ _ _
theorem State.meshLink_setMeshLink_other (k : Nat) (v : MeshLink) (j : Nat) (h : k ≠ j) : (s.setMeshLink k v).meshLink j = s.meshLink j := assocGet_set_other _ _ _ _ _ h

@[simp] theorem State.droopOf_setDroopOf_same (k : Nat) (v : Droop) : (s.setDroopOf k v).droopOf k = v := assocGet_set_same _ _ _ _
theorem State.droopOf_setDroopOf_other (k : Nat) (v : Droop) (j : Nat) (h : k ≠ j) : (s.setDroopOf k v).droopOf j = s.droopOf j := assocGet_set_other _ _ _ _ _ h

@[simp] theorem State.dirLine_setDirLine_same (k : Nat) (v : DirLine) : (s.setDirLine k v).dirLine k = v := assocGet_set_same _ _ _ _
theorem State.dirLine_setDirLine_other (k : Nat) (v : DirLine) (j : Nat) (h : k ≠ j) : (s.setDirLine k v).dirLine j = s.dirLine j := assocGet_set_other _ _ _ _ _ h

@[simp] theorem State.wcbOf_setWcbOf_same (k : Nat) (v : List WcbEntry) : (s.setWcbOf k v).wcbOf k = v := assocGet_set_same _ _ _ _
theorem State.wcbOf_setWcbOf_other (k : Nat) (v : List WcbEntry) (j : Nat) (h : k ≠ j) : (s.setWcbOf k v).wcbOf j = s.wcbOf j := assocGet_set_other _ _ _ _ _ h

@[simp] theorem State.chan_setChan_same (k : Nat) (v : Channel) : (s.setChan k v).chan k = v := assocGet_set_same _ _ _ _
theorem State.chan_setChan_other (k : Nat) (v : Channel) (j : Nat) (h : k ≠ j) : (s.setChan k v).chan j = s.chan j := assocGet_set_other _ _ _ _ _ h

@[simp] theorem State.ewtOf_setEwtOf_same (k : Nat) (v : List EpochEntry) : (s.setEwtOf k v).ewtOf k = v := assocGet_set_same _ _ _ _
theorem State.ewtOf_setEwtOf_other (k : Nat) (v : List EpochEntry) (j : Nat) (h : k ≠ j) : (s.setEwtOf k v).ewtOf j = s.ewtOf j := assocGet_set_other _ _ _ _ _ h

@[simp] theorem State.oktOf_setOktOf_same (k : Nat) (v : BitVec 128) : (s.setOktOf k v).oktOf k = v := assocGet_set_same _ _ _ _
theorem State.oktOf_setOktOf_other (k : Nat) (v : BitVec 128) (j : Nat) (h : k ≠ j) : (s.setOktOf k v).oktOf j = s.oktOf j := assocGet_set_other _ _ _ _ _ h

@[simp] theorem State.req_setReq_same (k : Nat) (v : Option RackOut) : (s.setReq k v).req k = v := assocGet_set_same _ _ _ _
theorem State.req_setReq_other (k : Nat) (v : Option RackOut) (j : Nat) (h : k ≠ j) : (s.setReq k v).req j = s.req j := assocGet_set_other _ _ _ _ _ h

@[simp] theorem State.link_setLink_same (k : Nat) (v : Link) : (s.setLink k v).link k = v := assocGet_set_same _ _ _ _
theorem State.link_setLink_other (k : Nat) (v : Link) (j : Nat) (h : k ≠ j) : (s.setLink k v).link j = s.link j := assocGet_set_other _ _ _ _ _ h

@[simp] theorem State.route_setRoute_same (k : Nat) (v : BitVec 128) : (s.setRoute k v).route k = v := assocGet_set_same _ _ _ _
theorem State.route_setRoute_other (k : Nat) (v : BitVec 128) (j : Nat) (h : k ≠ j) : (s.setRoute k v).route j = s.route j := assocGet_set_other _ _ _ _ _ h

@[simp] theorem State.shapeOf_setShapeOf_same (k : Nat) (v : Bucket) : (s.setShapeOf k v).shapeOf k = v := assocGet_set_same _ _ _ _
theorem State.shapeOf_setShapeOf_other (k : Nat) (v : Bucket) (j : Nat) (h : k ≠ j) : (s.setShapeOf k v).shapeOf j = s.shapeOf j := assocGet_set_other _ _ _ _ _ h

@[simp] theorem State.policeOf_setPoliceOf_same (k : Nat) (v : Police) : (s.setPoliceOf k v).policeOf k = v := assocGet_set_same _ _ _ _
theorem State.policeOf_setPoliceOf_other (k : Nat) (v : Police) (j : Nat) (h : k ≠ j) : (s.setPoliceOf k v).policeOf j = s.policeOf j := assocGet_set_other _ _ _ _ _ h

@[simp] theorem State.post_setPost_same (k : Nat) (v : Post) : (s.setPost k v).post k = v := assocGet_set_same _ _ _ _
theorem State.post_setPost_other (k : Nat) (v : Post) (j : Nat) (h : k ≠ j) : (s.setPost k v).post j = s.post j := assocGet_set_other _ _ _ _ _ h

@[simp] theorem State.slot_setSlot_same (k : Nat) (v : SendSlot) : (s.setSlot k v).slot k = v := assocGet_set_same _ _ _ _
theorem State.slot_setSlot_other (k : Nat) (v : SendSlot) (j : Nat) (h : k ≠ j) : (s.setSlot k v).slot j = s.slot j := assocGet_set_other _ _ _ _ _ h

@[simp] theorem State.beacon_setBeacon_same (k : Nat) (v : Beacon) : (s.setBeacon k v).beacon k = v := assocGet_set_same _ _ _ _
theorem State.beacon_setBeacon_other (k : Nat) (v : Beacon) (j : Nat) (h : k ≠ j) : (s.setBeacon k v).beacon j = s.beacon j := assocGet_set_other _ _ _ _ _ h

@[simp] theorem State.ownerEpoch_setOwnerEpoch_same (k : Nat) (v : Nat) : (s.setOwnerEpoch k v).ownerEpoch k = v := assocGet_set_same _ _ _ _
theorem State.ownerEpoch_setOwnerEpoch_other (k : Nat) (v : Nat) (j : Nat) (h : k ≠ j) : (s.setOwnerEpoch k v).ownerEpoch j = s.ownerEpoch j := assocGet_set_other _ _ _ _ _ h

@[simp] theorem State.op_setOp_same (k : Nat) (v : Option Op) : (s.setOp k v).op k = v := assocGet_set_same _ _ _ _
theorem State.op_setOp_other (k : Nat) (v : Option Op) (j : Nat) (h : k ≠ j) : (s.setOp k v).op j = s.op j := assocGet_set_other _ _ _ _ _ h

@[simp] theorem State.vec_setVec_same (k : Nat) (v : Bool × Bool) : (s.setVec k v).vec k = v := assocGet_set_same _ _ _ _
theorem State.vec_setVec_other (k : Nat) (v : Bool × Bool) (j : Nat) (h : k ≠ j) : (s.setVec k v).vec j = s.vec j := assocGet_set_other _ _ _ _ _ h

@[simp] theorem State.recorded_setRecorded_same (k : Nat) (v : List Nat) : (s.setRecorded k v).recorded k = v := assocGet_set_same _ _ _ _
theorem State.recorded_setRecorded_other (k : Nat) (v : List Nat) (j : Nat) (h : k ≠ j) : (s.setRecorded k v).recorded j = s.recorded j := assocGet_set_other _ _ _ _ _ h

@[simp] theorem State.tcore_onCore_same (c : Nat) (f : TCore → TCore) : (s.onCore c f).tcore c = f (s.tcore c) := State.tcore_setTcore_same s c _
@[simp] theorem State.tcore_onMe_same (c : Nat) (f : MeState → MeState) : (s.onMe c f).tcore c = { s.tcore c with me := f (s.tcore c).me } :=
  State.tcore_setTcore_same s c _
@[simp] theorem State.tcore_onVe_same (c : Nat) (f : VeState → VeState) : (s.onVe c f).tcore c = { s.tcore c with ve := f (s.tcore c).ve } :=
  State.tcore_setTcore_same s c _
@[simp] theorem State.tcore_onFe_same (c : Nat) (f : FeState → FeState) : (s.onFe c f).tcore c = { s.tcore c with fe := f (s.tcore c).fe } :=
  State.tcore_setTcore_same s c _

end Sys2Proof.Machine
end

