-- ==== Sys2Proof/WellFormed.lean ====
section
/-! DEFINITION. Which commands are well formed: the operands name units that the package has and values that fit
their fields. A command that names a unit the package does not have changes nothing (log 11). -/
namespace Sys2Proof

/-- T-cores are C0 to C511 (R6). -/
def tcoreOk (n : Nat) : Bool := decide (n < 512)

/-- Solver engines are SE0 to SE15 (R6). -/
def seOk (n : Nat) : Bool := decide (n < 16)

/-- GDDR7 channels are G0 to G63 (R297). -/
def chanOk (n : Nat) : Bool := decide (n < 64)

/-- Optical ports are O0 to O63 (R351). -/
def portOk (n : Nat) : Bool := decide (n < 64)

/-- A port has four wavelengths (R352). -/
def lamOk (n : Nat) : Bool := decide (n < 4)

/-- A link: port x 4 + wavelength. -/
def linkOk (n : Nat) : Bool := decide (n < 256)

/-- Clusters are 0 to 127 (R15). -/
def clusterOk (n : Nat) : Bool := decide (n < 128)

/-- A package has 40 dies in the fused-die numbering of R556. -/
def dieOk (n : Nat) : Bool := decide (n < 40)

/-- Partitions are 0 to 15 (R47). -/
def partOk (n : Nat) : Bool := decide (n < 16)

/-- Rails of R568, with VDD_AON as 7. -/
def railOk (n : Nat) : Bool := decide (n < 8)

/-- The rails on the regulator bus: VDD_T and VDD_P (R569). -/
def avsOk (n : Nat) : Bool := decide (n < 2)

/-- LLM slices are 0 to 7 (R297). -/
def sliceOk (n : Nat) : Bool := decide (n < 8)

/-- Sensors with an entry in the NIGHT_WATCH section (R530). -/
def sensorOk (n : Nat) : Bool := decide (n < 64)

/-- F-dies are 0 to 7, each with its laser input. -/
def laserOk (n : Nat) : Bool := decide (n < 8)

/-- Region descriptors are 0 to 4,095 (R322). -/
def descOk (n : Nat) : Bool := decide (n < 4096)

/-- M-dies are 0 to 7. -/
def mdieOk (n : Nat) : Bool := decide (n < 8)

/-- Beacons are 0 to 16,383 (R425). -/
def beaconOk (n : Nat) : Bool := decide (n < 16384)

/-- Map entries are 0 to 63 (R306). -/
def mapOk (n : Nat) : Bool := decide (n < 64)

/-- Rings are 0 to 262,143 (R435). -/
def ringOk (n : Nat) : Bool := decide (n < 262144)

/-- VFs are 0 to 4,095 (R450). -/
def vfOk (n : Nat) : Bool := decide (n < 4096)

/-- A VF has rings 0 to 63 (R453). -/
def vfRingOk (n : Nat) : Bool := decide (n < 64)

/-- Logical device numbers are 0 to 143 (R374). -/
def ldnOk (n : Nat) : Bool := decide (n < 144)

/-- x0 to x31 and f0 to f31 (R214). -/
def regOk (n : Nat) : Bool := decide (n < 32)

/-- Maintenance slots are 0 to 15 (R562). -/
def mntSlotOk (n : Nat) : Bool := decide (n < 16)

/-- The sequencer has four slots (R495). -/
def seqSlotOk (n : Nat) : Bool := decide (n < 4)

/-- Priorities are 0 to 7 (R433). -/
def prioOk (n : Nat) : Bool := decide (n < 8)

/-- A MATMUL has at most 64 progress tiles (R441). -/
def tileOk (n : Nat) : Bool := decide (n < 64)

/-- Sizes of a scalar access in bytes (R584). -/
def sizeOk (n : Nat) : Bool := n == 1 || n == 2 || n == 4 || n == 8

/-- A value of 8 bits. -/
def byteOk (n : Nat) : Bool := decide (n < 256)

/-- MNT_REQ.activity has 4 bits (R562). -/
def activityOk (n : Nat) : Bool := decide (n < 16)

/-- MNT_REQ.domain has 7 bits (R562). -/
def domainOk (n : Nat) : Bool := decide (n < 128)

/-- Jumbe cores: 512 control cores and 192 P application cores (R213). -/
def coreOk (u : CoreId) : Bool := match u with | .tc n => decide (n < 512) | .pc n => decide (n < 192)

/-- Functions of the host interface (R450). -/
def fnOk (f : Fn) : Bool := match f with | .pf n => decide (n < 4) | .vf v => decide (v < 4096) | .mgmt => true

/-- Requesters of a beacon (R430). -/
def whoOk (w : Who) : Bool := match w with
  | .tcore n => decide (n < 512)
  | .pcore n => decide (n < 192)
  | .se n => decide (n < 16)
  | .vf v => decide (v < 4096)
  | .pf n => decide (n < 4)
  | .peer ldn unit tenant _ => decide (ldn < 144) && decide (unit < 1024) && decide (tenant < 4096)

/-- Movers (R284). -/
def moverOk (w : Mover) : Bool := match w with | .fe c => decide (c < 512) | .op _ => true

/-- Fields of a rack request (R318, R345). -/
def reqOk (q : RackReq) : Bool := decide (q.desc < 4096) && decide (q.off < 2 ^ 44) && decide (q.key < 2 ^ 32)

/-- Fields of a flit header (R358). -/
def flitOk (x : Flit) : Bool := decide (x.vc < 8) && decide (x.seq < 4096) && decide (x.ackSeq < 4096)

/-- Fields of a collective header (R400). -/
def hdrOk (h : ColHdr) : Bool := decide (h.cst < 1024) && decide (h.dstCluster < 128) && decide (h.seq < 2 ^ 32)

/-- A post entry has 64 bytes (R403). -/
def entryOk (b : List Byte) : Bool := b.length == 64

/-- A send slot has 32 bytes (R407). -/
def slotOk (b : List Byte) : Bool := b.length == 32

/-- A well-formed command. -/
def Instr.wf (i : Instr) : Bool :=
  match i with
  | .d2dRetry a b => dieOk a && dieOk b
  | .moduleRetired a b _ => dieOk a && dieOk b
  | .linkLost a b => dieOk a && dieOk b
  | .moduleRetrainDone a b _ => dieOk a && dieOk b
  | .submit fn => fnOk fn
  | .validationDone => true
  | .withdraw fn p => fnOk fn && partOk p
  | .restructureWaitExpiry p => partOk p
  | .applyComplete p => partOk p
  | .channelZeroDone ch => chanOk ch
  | .imageLoaded => true
  | .periodNextWrite fn _ _ => fnOk fn
  | .candidate link _ prio _ _ => linkOk link && byteOk prio
  | .electionQuietExpiry _ => true
  | .master link _ _ ldn _ => linkOk link && byteOk ldn
  | .masterLostTimeout _ => true
  | .schedule _ link _ _ _ _ _ _ => linkOk link
  | .dark link _ _ _ _ => linkOk link
  | .syncTimer _ => true
  | .sync _ link _ _ _ => linkOk link
  | .linkDelayMeasure port _ => portOk port
  | .doneSend => true
  | .done _ link _ _ ldn => linkOk link && ldnOk ldn
  | .scheduleDecision _ => true
  | .stretchLimitExpiry _ => true
  | .transitFire _ => true
  | .windowBoundary _ p => partOk p
  | .watchdogWarn _ p => partOk p
  | .stepDoneWrite who p _ => whoOk who && partOk p
  | .windowWrite fn p _ _ => fnOk fn && partOk p
  | .droopDetect _ die => dieOk die
  | .droopStretchEnd _ die => dieOk die
  | .overMargin p => partOk p
  | .qpushMe u fs1 => coreOk u && regOk fs1
  | .loads c => tcoreOk c
  | .swap c => tcoreOk c
  | .stream c _ => tcoreOk c
  | .drain c _ => tcoreOk c
  | .mode c => tcoreOk c
  | .scale c => tcoreOk c
  | .waitb c _ => tcoreOk c
  | .fence c _ => tcoreOk c
  | .pxRunComplete c _ => tcoreOk c
  | .pxCoreRetire c => tcoreOk c
  | .exceptionReturn u => coreOk u
  | .pxHandlerTimeout c => tcoreOk c
  | .pxInject fn c _ _ => fnOk fn && tcoreOk c
  | .queueSkip fn c _ => fnOk fn && tcoreOk c
  | .queueFlush fn c _ => fnOk fn && tcoreOk c
  | .qpushVe u fs1 => coreOk u && regOk fs1
  | .vld c _ => tcoreOk c
  | .vst c _ => tcoreOk c
  | .vmov c _ => tcoreOk c
  | .vbcast c _ => tcoreOk c
  | .vcvt c _ => tcoreOk c
  | .vadd c _ => tcoreOk c
  | .vsub c _ => tcoreOk c
  | .vmul c _ => tcoreOk c
  | .vfma c _ => tcoreOk c
  | .vmin c _ => tcoreOk c
  | .vmax c _ => tcoreOk c
  | .vminnum c _ => tcoreOk c
  | .vmaxnum c _ => tcoreOk c
  | .vabs c _ => tcoreOk c
  | .vneg c _ => tcoreOk c
  | .vand c _ => tcoreOk c
  | .vor c _ => tcoreOk c
  | .vxor c _ => tcoreOk c
  | .vshl c _ => tcoreOk c
  | .vshr c _ => tcoreOk c
  | .vdiv c _ => tcoreOk c
  | .vsqrt c _ => tcoreOk c
  | .vcmp c _ => tcoreOk c
  | .vtotord c _ => tcoreOk c
  | .vsel c _ => tcoreOk c
  | .vtr c _ => tcoreOk c
  | .vseg c _ => tcoreOk c
  | .vrecv c _ => tcoreOk c
  | .vrget c _ => tcoreOk c
  | .mirrorModeApply c => tcoreOk c
  | .qpushFe u fs1 => coreOk u && regOk fs1
  | .qsync u _ => coreOk u
  | .qdepth u xd _ => coreOk u && regOk xd
  | .srget u xd _ => coreOk u && regOk xd
  | .srput u xs _ => coreOk u && regOk xs
  | .xclr u => coreOk u
  | .xdot u fs1 fs2 => coreOk u && regOk fs1 && regOk fs2
  | .xadd u fs1 => coreOk u && regOk fs1
  | .xrnd u fd _ => coreOk u && regOk fd
  | .xsave u fs1 => coreOk u && regOk fs1
  | .xload u fs1 => coreOk u && regOk fs1
  | .vectorLoad u _ => coreOk u
  | .vectorStore u _ => coreOk u
  | .vlff u _ => coreOk u
  | .vectorArith u _ _ => coreOk u
  | .wideningMultiply u _ => coreOk u
  | .dotProduct u _ => coreOk u
  | .scalarFpOp u _ _ fd fs1 fs2 => coreOk u && regOk fd && regOk fs1 && regOk fs2
  | .integerOp u _ xd xs1 xs2 _ => coreOk u && regOk xd && regOk xs1 && regOk xs2
  | .scalarLoad u xd xs1 _ size _ => coreOk u && regOk xd && regOk xs1 && sizeOk size
  | .scalarStore u xs1 xs2 _ size => coreOk u && regOk xs1 && regOk xs2 && sizeOk size
  | .loadDataReturn u _ => coreOk u
  | .jumbeFence u => coreOk u
  | .fpsrWrite u _ => coreOk u
  | .trapElemWrite u _ => coreOk u
  | .exceptionTake u => coreOk u
  | .assemble _ => true
  | .assembleDone _ => true
  | .solve _ => true
  | .solveStart _ _ se => seOk se
  | .solveIteration _ se => seOk se
  | .solveDeadlineCheck _ se => seOk se
  | .callbackTimeout _ se => seOk se
  | .solveReduction se _ => seOk se
  | .solveReturnDone _ se _ _ _ => seOk se
  | .solveAbort fn se => fnOk fn && seOk se
  | .meshScratchpadAccess c _ _ _ _ => tcoreOk c
  | .move who => moverOk who
  | .gather who => moverOk who
  | .scatter who => moverOk who
  | .feElementResponse who _ _ => moverOk who
  | .feComplete who => moverOk who
  | .sramPoison _ _ => true
  | .compatWrite fn c _ => fnOk fn && tcoreOk c
  | .compatZeroDone c => tcoreOk c
  | .directoryTransaction _ _ => true
  | .wcbIdleDrain _ _ => true
  | .llmWriteback fn slice => fnOk fn && sliceOk slice
  | .llmWritebackDone slice => sliceOk slice
  | .llmPoison _ _ => true
  | .gddr7Access ch => chanOk ch
  | .channelTrainDone ch _ => chanOk ch
  | .crcError _ ch => chanOk ch
  | .retrainCmd fn ch => fnOk fn && chanOk ch
  | .channelRetrainDone _ ch _ => chanOk ch
  | .gddr7Poison ch _ _ => chanOk ch
  | .mapEnableWrite fn r _ => fnOk fn && mapOk r
  | .tempPoll _ m _ _ => mdieOk m
  | .hotExit _ m => mdieOk m
  | .rackLoad req => reqOk req
  | .rackStore req _ => reqOk req
  | .epochWrite req _ => reqOk req
  | .epochRead req => reqOk req
  | .add req _ _ _ => reqOk req
  | .fadd32 req _ _ _ => reqOk req
  | .fadd64 req _ _ _ => reqOk req
  | .and req _ _ _ => reqOk req
  | .or req _ _ _ => reqOk req
  | .xor req _ _ _ => reqOk req
  | .swapAtomic req _ _ _ => reqOk req
  | .cas req _ _ _ => reqOk req
  | .max req _ _ _ => reqOk req
  | .min req _ _ _ => reqOk req
  | .maxUnsigned req _ _ _ => reqOk req
  | .minUnsigned req _ _ _ => reqOk req
  | .fmax req _ _ _ => reqOk req
  | .fmin req _ _ _ => reqOk req
  | .atomicPortIssue u _ => coreOk u
  | .atomicPortResult u xd => coreOk u && regOk xd
  | .rackResponse _ status _ _ => byteOk status
  | .requestTimerExpiry _ => true
  | .livenessQuery _ _ m d _ => mdieOk m && descOk d
  | .livenessAnswer _ _ => true
  | .livenessNoAnswer _ => true
  | .requestTotalTimeout _ => true
  | .regionEnableWrite fn d _ => fnOk fn && descOk d
  | .keyCommit fn _ => fnOk fn
  | .keyCancel fn => fnOk fn
  | .rmmTwilightEnter fn => fnOk fn
  | .oktStore fn _ => fnOk fn
  | .laserLoss f => laserOk f
  | .wavelengthLoss port lam => portOk port && lamOk lam
  | .portEnableWrite fn port _ => fnOk fn && portOk port
  | .pollSample port _ => portOk port
  | .trainDone port _ => portOk port
  | .negotiate port lam _ => portOk port && lamOk lam
  | .authDone port lam _ => portOk port && lamOk lam
  | .dataFlit _ port lam flit => portOk port && lamOk lam && flitOk flit
  | .ackFlit _ port lam flit => portOk port && lamOk lam && flitOk flit
  | .idleFlit _ port lam flit => portOk port && lamOk lam && flitOk flit
  | .flitTransmit port lam => portOk port && lamOk lam
  | .ackDue port lam => portOk port && lamOk lam
  | .replayTimer _ port lam => portOk port && lamOk lam
  | .linkRetrainDone _ port lam => portOk port && lamOk lam
  | .linkRetrainFail _ port lam => portOk port && lamOk lam
  | .portRetrain fn port => fnOk fn && portOk port
  | .portRelease fn port => fnOk fn && portOk port
  | .portQuarantine fn port => fnOk fn && portOk port
  | .keyUpdate port lam => portOk port && lamOk lam
  | .routeStore fn _ => fnOk fn
  | .routeCommit fn _ => fnOk fn
  | .routeCancel fn => fnOk fn
  | .ldnCommit fn _ _ => fnOk fn
  | .ldnCancel fn => fnOk fn
  | .colCommit fn _ => fnOk fn
  | .colCancel fn => fnOk fn
  | .colData _ _ hdr _ => hdrOk hdr
  | .delivered _ _ _ _ _ => true
  | .parkFull _ _ _ _ _ => true
  | .parkFree cluster _ => clusterOk cluster
  | .resend _ _ _ _ _ => true
  | .abort _ _ => true
  | .lost ldn _ => ldnOk ldn
  | .post cluster _ entry => clusterOk cluster && entryOk entry
  | .sendSlotArm cluster _ slot => clusterOk cluster && slotOk slot
  | .sendWindowWrite cluster _ _ _ => clusterOk cluster
  | .parkRetryTimer cluster _ => clusterOk cluster
  | .crossTimeout cluster _ => clusterOk cluster
  | .colDarkDeclare fn ldn => fnOk fn && ldnOk ldn
  | .beaconRead w b => whoOk w && beaconOk b
  | .beaconAdd w b _ => whoOk w && beaconOk b
  | .beaconSet w b _ => whoOk w && beaconOk b
  | .beaconCas w b _ _ => whoOk w && beaconOk b
  | .beaconWait w b _ => whoOk w && beaconOk b
  | .beaconArm w b _ => whoOk w && beaconOk b
  | .beaconAcquire w b prio => whoOk w && beaconOk b && prioOk prio
  | .beaconRelease w b => whoOk w && beaconOk b
  | .beaconReprioritise w b prio => whoOk w && beaconOk b && prioOk prio
  | .beaconConfigWrite fn _ => fnOk fn
  | .beaconValueWrite fn _ => fnOk fn
  | .orphanLdn fn ldn => fnOk fn && ldnOk ldn
  | .orphanScanVisit => true
  | .waitTimeout _ => true
  | .sqDoorbell v r _ => vfOk v && vfRingOk r
  | .cqHeadWrite v r _ => vfOk v && vfRingOk r
  | .descriptorFetch r _ => ringOk r
  | .nop _ => true
  | .matmul _ tile _ core => tileOk tile && tcoreOk core
  | .collective _ status _ _ => byteOk status
  | .atomic _ => true
  | .beacon _ => true
  | .probe _ => true
  | .completionRecordWrite _ _ => true
  | .ringEnableWrite fn r _ => fnOk fn && ringOk r
  | .flr fn => fnOk fn
  | .configRequest fn _ => fnOk fn
  | .linkDowntrain _ _ => true
  | .dmaRefused r _ _ => ringOk r
  | .msixUnmask fn _ => fnOk fn
  | .coldReset => true
  | .perstAssert _ => true
  | .perstRelease _ _ _ => true
  | .railFail rail => railOk rail
  | .railRestoreRestart _ => true
  | .internalResetRelease _ => true
  | .bootWatchdog => true
  | .firmwareStarted => true
  | .fusesApplied => true
  | .selfTestDone _ => true
  | .computeReady => true
  | .pldmFwUpdate _ => true
  | .fwStagingDone _ => true
  | .programSlot _ _ _ _ _ => true
  | .revokeSlot _ _ => true
  | .raiseFwMin _ _ => true
  | .raiseImageMin _ _ => true
  | .packageReset _ => true
  | .twilightEnter _ => true
  | .mctpControl _ _ => true
  | .spdmRequest _ => true
  | .pldmGetSensor sensor => sensorOk sensor
  | .logTake _ => true
  | .errConsWrite fn _ => fnOk fn
  | .recoveryStart => true
  | .recoveryComplete i _ => seqSlotOk i
  | .mntRequest fn activity domain => fnOk fn && activityOk activity && domainOk domain
  | .mntAbort fn i => fnOk fn && mntSlotOk i
  | .mntActivityDone i => mntSlotOk i
  | .almArm fn _ _ => fnOk fn
  | .almCancel fn => fnOk fn
  | .quiesceDone => true
  | .quiesceTimeout => true
  | .almanacIoDone _ _ => true
  | .mirrorMessage _ _ _ _ _ _ => true
  | .buddyCommit _ _ _ => true
  | .almRestore fn _ _ _ _ => fnOk fn
  | .restoreDone _ => true
  | .sensorSweep _ _ => true
  | .throttleExit die => dieOk die
  | .nightEnter fn _ => fnOk fn
  | .nightEntryDone => true
  | .wakeN _ => true
  | .hostMessageWake => true
  | .lightWake port => portOk port
  | .scheduledWake _ => true
  | .wakeDone => true
  | .eclipseN _ => true
  | .eclipseTrigger fn => fnOk fn
  | .selfRefreshDone => true
  | .readoutDone _ => true
  | .refclkLoss _ => true
  | .avsAck rail => avsOk rail
  | .avsAckTimeout rail => avsOk rail
  | .registerWrite fn _ _ _ => fnOk fn
  | .mgmtWrite _ _ _ => true
  | .portLightLoss port => portOk port
  | .laserReturn f => laserOk f
  | .refclkRestore _ => true
  | .vddAonLoss => true
  | .uncorrectableFlit port lam => portOk port && lamOk lam
  | .putGetMessage _ => true
  | .electionAcknowledgement _ _ => true
  | .refresh ch => chanOk ch
  | .remoteSourceRead _ _ _ _ => true

end Sys2Proof
end

