-- ==== Sys2Proof/Tests/Slice0.lean ====
section
/-! SUPPORT. Tests of the model on small states: ill-formed commands that the checks refuse, examples of the spec, and
states that meet the hypotheses of the statements. -/

namespace Sys2Proof.Tests

open Sys2Proof.Machine

-- One theorem at a time: each thread of the checker takes 256 MiB of stack.
set_option Elab.async false

/-! Signed images. The key pair and the signatures are made outside the model. -/

/-- A public key of P-384, and r of a signature by it. -/
def testKey : List Byte :=
  leBytes 48 0xbfd152465458e5b9f1a903eafef03095ebfd52c5f9ea97be74de9194355fcfb40ec097315adf6afdefba21f44b625b48 ++
    leBytes 48 0x17058eff9a1ad175a4675e9c730cb028ec76aec544f7a56d58164d8cfc0402b489c4e74c918dc3a77f5c219d31b8e245
def testR : Nat := 0x171ec1c947c21526323f3a1a2c597910c554e076ab58a5325d9ef0169cdd4f075364dd9e2f11f7732675161a5b8c3678
/-- A signature block: slots 0 and 0, the same signature from the vendor and the owner. -/
def sigBlock (s : Nat) : List Byte :=
  List.replicate 64 0 ++ leBytes 48 testR ++ leBytes 48 s ++ leBytes 48 testR ++ leBytes 48 s
def imgHeader (kind target seq len count : Nat) (hash : List Byte) : List Byte :=
  leBytes 4 0x53554754 ++ leBytes 2 2 ++ leBytes 1 kind ++ leBytes 1 target ++ leBytes 4 0xF40 ++ leBytes 4 0 ++ leBytes 8 seq ++
    leBytes 4 len ++ leBytes 2 count ++ [0, 0] ++ hash ++ List.replicate 48 0
def tabEntry (t off len : Nat) : List Byte := leBytes 2 t ++ leBytes 2 1 ++ leBytes 4 off ++ leBytes 4 len ++ leBytes 4 0
/-- The sections of a full image: partition 0 holds T-cluster 0 and splits its period 700, 200, 100; nothing else is set. -/
def sec1 : List Byte := [1, 0, 1, 1, 0, 0, 0, 0, 1] ++ List.replicate 119 0 ++ (List.replicate 15 ([0, 0, 1, 1] ++ List.replicate 124 0)).flatten
def sec3 : List Byte := (List.replicate 16 ([0, 0, 0, 0, 2, 0] ++ List.replicate 10 0)).flatten
def sec4 : List Byte := (List.replicate 64 [0, 1, 1, 1, 1, 1, 1, 1]).flatten
def sec6 : List Byte := List.replicate 16 0 ++ [0xBC, 2, 200, 0, 100, 0, 0, 0] ++ List.replicate 120 0
def sec2 : List Byte := List.replicate 128 0
def sec5 : List Byte := List.replicate 4096 0xFF
def sec7 : List Byte := List.replicate 1024 0
def fullHead (seq : Nat) : List Byte :=
  imgHeader 1 0xFF seq 8768 7 (List.replicate 48 0) ++ tabEntry 1 256 2048 ++ tabEntry 2 2304 128 ++ tabEntry 3 2432 256 ++
    tabEntry 4 2688 512 ++ tabEntry 5 3200 4096 ++ tabEntry 6 7296 144 ++ tabEntry 7 7488 1024 ++ List.replicate 16 0
def fullImage (seq s : Nat) : List Byte :=
  fullHead seq ++ (sec1 ++ (sec2 ++ (sec3 ++ (sec4 ++ (sec5 ++ (sec6 ++ (List.replicate 48 0 ++ (sec7 ++ sigBlock s))))))))
def fullA : List Byte := fullImage 1 0x24c6df22d103785a67245693829cc629944d46de295c7ad3f15503156ea53265e9619786d219df3837256e1a31b222cc
def fullB : List Byte := fullImage 2 0xdb4c1a44cb782b003430a13f18832e0a937d2314e5afb3c952bf5cb4cf7d030192c5040d82df918f7ddf849f60694105
def keyedNv : NonVol :=
  { NonVol.blank with
    vendorSlots := 1, vendorKeys := [testKey, []], vendorDigests := [sha384 testKey, []],
    ownerSlots := [1, 0, 0, 0], ownerKeys := [testKey, [], [], []], ownerDigests := [sha384 testKey, [], [], []] }
def signedState (a b : List Byte) : State := { State.reset with nv := { keyedNv with togusA := a, togusB := b } }
def baseSections : List (List Byte) := [[1, 0, 1, 1, 0, 0, 0, 0, 1], [], [], [], [], List.replicate 16 0 ++ [0xBC, 2, 200, 0, 100, 0], []]
def partImage : List Byte :=
  imgHeader 2 0 0 576 1 (sha384 baseSections.flatten) ++ tabEntry 2 192 128 ++ List.replicate 48 0 ++ [1] ++ List.replicate 127 0 ++
    sigBlock 0xe640e93ce236bc0c5f531b67604bf1015ca5da82a3aa81078254887e82c1facbe26fa0bbdd729eb070288241f812ebc7
def stagedState : State :=
  { State.reset with nv := keyedNv, togus := { Togus.none with sections := baseSections, validating := some partImage } }

theorem firstBad_none (l : List (Bool × Nat)) (h : l.all Prod.fst = true) : firstBad l = none := by
  have : l.find? (fun e => !e.1) = none := by
    rw [List.find?_eq_none]
    intro e he
    simpa using List.all_eq_true.mp h e he
  simp [firstBad, this]

theorem leAt_free (n i : Nat) (h : i < n) : leAt (List.replicate n (0xFF : Byte)) i 1 = 0xFF := by
  obtain ⟨k, e⟩ : ∃ k, n - i = k + 1 := ⟨n - i - 1, by omega⟩
  rw [leAt, List.drop_replicate, e, List.replicate_succ]
  rfl

theorem rangeTenants_free (o : Nat) : (rangeTenants (List.replicate 4096 0xFF) o).all Prod.fst = true := by
  unfold rangeTenants
  rw [List.all_map, List.all_eq_true]
  intro i hi
  rw [Function.comp_apply, leAt_free 4096 i (List.mem_range.mp hi)]
  rfl

theorem length_sec : sec1.length = 2048 ∧ sec2.length = 128 ∧ sec3.length = 256 ∧ sec4.length = 512 ∧ sec5.length = 4096 ∧ sec6.length = 144 ∧ sec7.length = 1024 := by
  refine ⟨?_, ?_, ?_, ?_, ?_, ?_, ?_⟩ <;>
    decide +kernel

theorem middle (pre x post : List Byte) (off len : Nat) (h : pre.length = off) (l : x.length = len) : ((pre ++ (x ++ post)).drop off).take len = x := by
  subst h; subst l; simp

theorem lengthLe (n x : Nat) : (leBytes n x).length = n := by
  induction n generalizing x with
  | zero => rfl
  | succ n ih => simp [leBytes, ih]

theorem length_head (seq : Nat) : (fullHead seq).length = 256 := by
  simp only [fullHead, imgHeader, tabEntry, List.length_append, List.length_replicate, lengthLe]; rfl

/-- The sections lie where the table says. -/
theorem sections_at (seq s : Nat) (b : List Byte) (e : b = fullImage seq s) :
    (b.drop 256).take 2048 = sec1 ∧ (b.drop 2304).take 128 = sec2 ∧ (b.drop 2432).take 256 = sec3 ∧ (b.drop 2688).take 512 = sec4 ∧
      (b.drop 3200).take 4096 = sec5 ∧ (b.drop 7296).take 144 = sec6 ∧ (b.drop 7488).take 1024 = sec7 := by
  obtain ⟨l1, l2, l3, l4, l5, l6, l7⟩ := length_sec
  have h := length_head seq
  have z : (List.replicate 48 (0 : Byte)).length = 48 := by simp
  subst e
  unfold fullImage
  refine ⟨middle _ _ _ _ _ h l1, ?_, ?_, ?_, ?_, ?_, ?_⟩
  · rw [← List.append_assoc]; exact middle _ _ _ _ _ (by rw [List.length_append, h, l1]) l2
  · rw [← List.append_assoc, ← List.append_assoc]; exact middle _ _ _ _ _ (by rw [List.length_append, List.length_append, h, l1, l2]) l3
  · rw [← List.append_assoc, ← List.append_assoc, ← List.append_assoc]
    exact middle _ _ _ _ _ (by simp only [List.length_append, h, l1, l2, l3]) l4
  · rw [← List.append_assoc, ← List.append_assoc, ← List.append_assoc, ← List.append_assoc]
    exact middle _ _ _ _ _ (by simp only [List.length_append, h, l1, l2, l3, l4]) l5
  · rw [← List.append_assoc, ← List.append_assoc, ← List.append_assoc, ← List.append_assoc, ← List.append_assoc]
    exact middle _ _ _ _ _ (by simp only [List.length_append, h, l1, l2, l3, l4, l5]) l6
  · rw [← List.append_assoc, ← List.append_assoc, ← List.append_assoc, ← List.append_assoc, ← List.append_assoc, ← List.append_assoc, ← List.append_assoc]
    exact middle _ _ _ _ _ (by simp only [List.length_append, h, l1, l2, l3, l4, l5, l6, z]) l7

theorem leNat_zero (n : Nat) : leNat (List.replicate n (0 : Byte)) = 0 := by
  induction n with
  | zero => rfl
  | succ n ih => rw [List.replicate_succ, leNat, ih]; rfl

theorem leAt_zero (n i k : Nat) : leAt (List.replicate n (0 : Byte)) i k = 0 := by
  rw [leAt, List.drop_replicate, List.take_replicate, leNat_zero]

theorem allZero_zero (n i k : Nat) : allZero (List.replicate n (0 : Byte)) i k = true := by
  rw [allZero, List.drop_replicate, List.take_replicate, List.all_replicate]; simp

theorem rangeNight_zero (o : Nat) : (rangeNight sec7 o).all Prod.fst = true := by
  unfold rangeNight sec7
  rw [List.all_append, List.all_flatMap, List.all_flatMap]
  simp only [leAt_zero, allZero_zero, List.all_cons, List.all_nil]
  rw [Bool.and_eq_true, List.all_eq_true, List.all_eq_true]
  exact ⟨fun _ _ => rfl, fun _ _ => rfl⟩

theorem range_sec1 : (rangePartitions sec1 256).all Prod.fst = true := by decide +kernel
theorem range_sec2 : (rangeModes sec2 2304).all Prod.fst = true := by decide +kernel
theorem range_sec3 : (rangeRegions sec3 2432).all Prod.fst = true := by decide +kernel
theorem range_sec4 : (rangeWeights sec4 2688).all Prod.fst = true := by decide +kernel
theorem range_sec6 : (rangeTransit sec6 7296).all Prod.fst = true := by decide +kernel

/-- The table of a full image, as the checks read it. -/
def tableOf (b : List Byte) : List (Nat × Nat × Nat × Nat) := (List.range 7).map (fun i => (tabType b i, tabOffset b i, tabLength b i, tabRsv b i))

theorem range_none (b : List Byte) (seq s : Nat) (e : b = fullImage seq s) (h1 : imgCount b = 7)
    (h2 : ([ (allZero b 0x1E 2, 0x1E), (imgKind b == 2 || allZero b 0x20 48, 0x20), (allZero b 0x50 48, 0x50), (allZero b (imgLen b - 256 + 2) 62, imgLen b - 256 + 2) ]).all Prod.fst = true)
    (h3 : tableOf b = [(1, 256, 2048, 0), (2, 2304, 128, 0), (3, 2432, 256, 0), (4, 2688, 512, 0), (5, 3200, 4096, 0), (6, 7296, 144, 0), (7, 7488, 1024, 0)]) :
    checkRange b = none := by
  obtain ⟨x1, x2, x3, x4, x5, x6, x7⟩ := sections_at seq s b e
  have r5 := rangeTenants_free 3200
  have el : List.range 7 = [0, 1, 2, 3, 4, 5, 6] := rfl
  simp only [tableOf, el, List.map_cons, List.map_nil, List.cons.injEq, Prod.mk.injEq] at h3
  obtain ⟨⟨a1, b1, c1, d1⟩, ⟨a2, b2, c2, d2⟩, ⟨a3, b3, c3, d3⟩, ⟨a4, b4, c4, d4⟩, ⟨a5, b5, c5, d5⟩, ⟨a6, b6, c6, d6⟩, ⟨a7, b7, c7, d7⟩, -⟩ := h3
  unfold checkRange
  apply firstBad_none
  rw [h1, el]
  simp only [List.all_append, List.flatMap_cons, List.flatMap_nil, Bool.and_eq_true, List.append_nil, a1, b1, c1, d1, a2, b2, c2, d2, a3, b3, c3, d3,
    a4, b4, c4, d4, a5, b5, c5, d5, a6, b6, c6, d6, a7, b7, c7, d7, x1, x2, x3, x4, x5, x6, x7, List.map_cons, List.map_nil]
  exact ⟨⟨h2, rfl⟩, range_sec1, range_sec2, range_sec3, range_sec4, r5, range_sec6, rangeNight_zero 7488⟩

theorem rangeA : checkRange fullA = none :=
  range_none fullA 1 _ rfl (by decide +kernel) (by decide +kernel) (by decide +kernel)

theorem sectionsA : checkSections fullA = none := by decide +kernel
def digA : List Byte := leBytes 48 0x8bca85825e6414d01d321dd0385496e8d1ed5242d8291176b2809a84222c0bc9fe5a956e175430023205deb124da6897
theorem digestA : sha384 (fullA.take (imgLen fullA - 256)) = digA := by decide +kernel

/-- What remains of validation at start-up once the digest is known and the sections are. -/
theorem accepts (s : State) (b d : List Byte) (l : List (List Byte)) (hd : sha384 (b.take (imgLen b - 256)) = d)
    (hv : (keyUsable (fld s.nv.vendorSlots 0 2) (s.nv.vendorKeys.getD 0 []) (s.nv.vendorDigests.getD 0 []) &&
      ecdsaOk (s.nv.vendorKeys.getD 0 []) d ((b.drop (imgLen b - 256 + 0x40)).take 96)) = true)
    (ho : (keyUsable (s.nv.ownerSlots.getD 0 0) (s.nv.ownerKeys.getD 0 []) (s.nv.ownerDigests.getD 0 []) &&
      ecdsaOk (s.nv.ownerKeys.getD 0 []) d ((b.drop (imgLen b - 256 + 0xA0)).take 96)) = true)
    (hs : leAt b (imgLen b - 256) 1 = 0 ∧ leAt b (imgLen b - 256 + 1) 1 = 0)
    (h : checkHeader true b = none ∧ checkFormat b = none ∧ checkRollback s b = none ∧ checkSections b = none) (hr : checkRange b = none)
    (hm : mergeSections s.togus.sections b = l) (hl : checkOverlap (s.withSections l) b = none) (hf : checkFused (s.withSections l) b = none) :
    validate s true b = none := by
  subst hd
  rw [Bool.and_eq_true] at hv ho
  have h3 : checkVendor s b = none := by
    apply firstBad_none
    simp only [hs.1, State.vendorSlot, List.all_cons, List.all_nil, hv.2, Bool.and_true]
    exact hv.1
  have h4 : checkOwner s b = none := by
    apply firstBad_none
    simp only [hs.2, State.ownerSlot, List.all_cons, List.all_nil, ho.2, Bool.and_true]
    exact ho.1
  simp [validate, h, h3, h4, hm, hr, hl, hf]

theorem keysA :
    (keyUsable (fld keyedNv.vendorSlots 0 2) (keyedNv.vendorKeys.getD 0 []) (keyedNv.vendorDigests.getD 0 []) &&
      ecdsaOk (keyedNv.vendorKeys.getD 0 []) digA ((fullA.drop (imgLen fullA - 256 + 0x40)).take 96)) = true ∧
    (keyUsable (keyedNv.ownerSlots.getD 0 0) (keyedNv.ownerKeys.getD 0 []) (keyedNv.ownerDigests.getD 0 []) &&
      ecdsaOk (keyedNv.ownerKeys.getD 0 []) digA ((fullA.drop (imgLen fullA - 256 + 0xA0)).take 96)) = true := by
  decide +kernel

def bootState (a b : List Byte) : State :=
  { State.reset with boot := { Boot.reset with stage := .running }, nv := { keyedNv with togusA := a, togusB := b } }.fset R.GLB_BOOT.milestones 0xF

theorem mergedA (old : List (List Byte)) : mergeSections old fullA = [sec1, sec2, sec3, sec4, sec5, sec6, sec7] := by
  obtain ⟨x1, x2, x3, x4, x5, x6, x7⟩ := sections_at 1 _ fullA rfl
  have e : (List.range 7).map (fun i => (imgEntry fullA (i + 1)).map (fun j => (tabOffset fullA j, tabLength fullA j))) =
      [some (256, 2048), some (2304, 128), some (2432, 256), some (2688, 512), some (3200, 4096), some (7296, 144), some (7488, 1024)] := by
    decide +kernel
  have r : List.range 7 = [0, 1, 2, 3, 4, 5, 6] := rfl
  simp only [r, List.map_cons, List.map_nil, List.cons.injEq, Option.map_eq_some_iff, Prod.mk.injEq, and_true] at e
  obtain ⟨⟨a1, b1, c1, d1⟩, ⟨a2, b2, c2, d2⟩, ⟨a3, b3, c3, d3⟩, ⟨a4, b4, c4, d4⟩, ⟨a5, b5, c5, d5⟩, ⟨a6, b6, c6, d6⟩, ⟨a7, b7, c7, d7⟩⟩ := e
  simp only [mergeSections, r, List.map_cons, List.map_nil, imgSection, b1, c1, d1, b2, c2, d2, b3, c3, d3, b4, c4, d4, b5, c5, d5, b6, c6, d6,
    b7, c7, d7, Option.map_some, Option.getD_some, x1, x2, x3, x4, x5, x6, x7]

theorem overlap_none (s : State) (b : List Byte) (l : List (Bool × Nat)) (h : s.sect 5 = List.replicate 4096 0xFF)
    (e : checkOverlap s b = firstBad (l ++ (List.range 4096).map (fun v =>
      (leAt (s.sect 5) v 1 == 0xFF || s.partPresent (leAt (s.sect 5) v 1), entryOffset b 5 1 v)))) (k : l.all Prod.fst = true) :
    checkOverlap s b = none := by
  rw [e]
  apply firstBad_none
  rw [List.all_append, k, List.all_map, Bool.true_and, List.all_eq_true]
  intro v hv
  rw [Function.comp_apply, h, leAt_free 4096 v (List.mem_range.mp hv)]
  rfl

/-- A full image signed by a programmed vendor key and owner key is accepted at start-up, from copy A, B or both. -/
theorem test_fullImageAccepted : validate (bootState fullA fullA) true fullA = none ∧ validate (bootState fullA []) true fullA = none ∧
    validate (bootState [] fullA) true fullA = none := by
  have d := keysA
  refine ⟨?_, ?_, ?_⟩
  · exact accepts _ _ _ _ digestA d.1 d.2 (by decide +kernel) ⟨by decide +kernel, by decide +kernel, by decide +kernel, by decide +kernel⟩ rangeA (mergedA _)
      (overlap_none _ _ _ rfl rfl (by decide +kernel)) (by decide +kernel)
  · exact accepts _ _ _ _ digestA d.1 d.2 (by decide +kernel) ⟨by decide +kernel, by decide +kernel, by decide +kernel, by decide +kernel⟩ rangeA (mergedA _)
      (overlap_none _ _ _ rfl rfl (by decide +kernel)) (by decide +kernel)
  · exact accepts _ _ _ _ digestA d.1 d.2 (by decide +kernel) ⟨by decide +kernel, by decide +kernel, by decide +kernel, by decide +kernel⟩ rangeA (mergedA _)
      (overlap_none _ _ _ rfl rfl (by decide +kernel)) (by decide +kernel)

/-- Witness of StepRunsFront: the state after reset has no command waiting. -/
theorem witness_stepRunsFront : State.reset.pending = [] := by decide

/-- A package with one register, one byte, one report and one recovery that is under way. -/
def usedState : State :=
  { (State.reset.fset R.TRN_CTL.master_priority 3).write 5 [7] with
    reports := [{ source := 0xA000, code := 1, cls := 0, detail := 0, time := 0, transit := 0, firstNs := 0 }],
    recs := [{ domain := .package, slot := 0, start := 0, retire := false }] }
/-- Witnesses of StepKeepsInv and MinimumsNeverFall: a state that meets the invariant and takes a step, and a command. -/
theorem witness_steps : Machine.Inv usedState ∧ step usedState = .next usedState ∧ exec (.moduleRetrainDone 16 17 0) usedState = .next usedState :=
  ⟨by unfold Machine.Inv slotsOk; decide +kernel, rfl, rfl⟩

/-- Witness of MeshLinkEvents: the link M0 to M1 after reset, its module 0. -/
theorem witness_meshLinkEvents :
    linkModules 16 17 = 4 ∧ State.reset.reports.length < 64 ∧ (0 : Nat) ∉ (State.reset.meshLink (meshKey 16 17)).lost ∧
      (State.reset.meshLink (meshKey 16 17)).lost.length + 1 < linkModules 16 17 ∧ State.reset.fget R.ECL_CTL.on_fatal = 0 := by decide
/-- R24: the links of the table, from a corner of each row of it. -/
theorem test_linkModules :
    [linkModules 16 17, linkModules 19 20, linkModules 16 20, linkModules 28 16, linkModules 24 17, linkModules 36 16,
      linkModules 37 23, linkModules 38 19, linkModules 39 20, linkModules 38 39, linkModules 0 16] =
      [4, 0, 4, 4, 8, 2, 1, 1, 1, 1, 0] := by decide

/-- Witnesses of SubmitAndValidation: an idle stage, a running validation, a function without the right, no validation, an
image of no bytes, refused at step 1 because its magic is wrong, and a signed image for partition 0, accepted. -/
theorem witness_submit :
    State.reset.fget R.PRT_STAGE.validating = 0 ∧ (State.reset.fset R.PRT_STAGE.validating 1).fget R.PRT_STAGE.validating = 1 ∧
      Fn.vf 0 ≠ .pf 0 ∧ Fn.vf 0 ≠ .pf 1 ∧ State.reset.reports.length < 64 ∧ State.reset.togus.validating = none ∧
      validate { State.reset with togus := { State.reset.togus with validating := none } } false [] = some (1, 0) := by decide
theorem witness_accepted :
    stagedState.togus.validating = some partImage ∧ imgTarget partImage = 0 ∧
      validate { stagedState with togus := { stagedState.togus with validating := none } } false partImage = none := by decide +kernel
/-- R56 and R47: a submitted image is refused in the order of the steps: wrong kind at offset 6. -/
theorem test_header : checkHeader false (leBytes 4 0x53554754 ++ leBytes 2 2 ++ [1, 0] ++ List.replicate 500 0) = some 6 := by decide

def someImg (applying : Bool) : PendingImg :=
  { partition := 15, bytes := [], base := [[], [], [], [], [], [], []], waited := 5, limit := 5, applying := applying, held := false }
def imgState (applying : Bool) : State := { State.reset with togus := { Togus.none with pending := [someImg applying] } }
/-- A structure whose partition 15 has T-cluster 0 and channel 63. -/
def leavingState : State :=
  { State.reset with togus :=
    { Togus.none with
      sections := [List.replicate 1920 0 ++ [1, 0, 1, 1, 0, 0, 0, 0, 1] ++ List.replicate 70 0 ++ [0x80], [], [], [], [], [], []],
      pending := [{ someImg true with
        base := [List.replicate 1920 0 ++ [1, 0, 1, 1, 0, 0, 0, 0, 1] ++ List.replicate 70 0 ++ [0x80], [], [], [], [], [], []],
        bytes := imgHeader 2 15 0 0 1 [] ++ List.replicate 48 0 ++ tabEntry 1 144 2000 ++ List.replicate 2000 0 }] } }
/-- Witnesses of RestructureCommands: an image of partition 15 that waits, one that applies, a package without one, an image
that takes T-cluster 0 and channel 63 away, and channels being zeroed. -/
theorem witness_restructure :
    (imgState false).togus.pending.find? (fun x => x.partition == 15 && !x.applying) = some (someImg false) ∧
      (someImg false).limit ≤ (someImg false).waited ∧ State.reset.togus.pending = [] ∧ ((imgState true).regs.map Prod.fst).Nodup ∧
      (imgState true).togus.pending.find? (fun x => x.partition == 15 && x.applying) = some (someImg true) ∧
      imgSection (someImg true).bytes 1 = none ∧ ((someImg true).base.getD (7 - 1) []).length = ((imgState true).sect 7).length ∧
      ((State.reset.setChan 63 { Channel.reset with zeroing := true }).chan 63).zeroing = true ∧ (State.reset.chan 63).zeroing = false := by decide
theorem witness_leaving :
    ∃ i, leavingState.togus.pending.find? (fun x => x.partition == 15 && x.applying) = some i ∧ (imgSection i.bytes 1).isSome = true ∧
      bit (leavingState.clusterMask 15 ^^^ (leavingState.afterImage i).clusterMask 15) (3 / 4) = true ∧
      bit (leavingState.chanMask 15) 63 = true ∧ bit ((leavingState.afterImage i).chanMask 15) 63 = false := by
  refine ⟨_, rfl, ?_⟩
  decide +kernel

/-- Witnesses of ImageLoadedChoosesCopy: blank flash, both copies refused at step 1; a signed copy in either place or both;
a package in reset. -/
theorem witness_imageLoaded :
    ((bootState [] []).regs.map Prod.fst).Nodup ∧ (bootState [] []).boot.stage = .running ∧ (bootState [] []).milestone 3 = true ∧
      (bootState [] []).milestone 4 = false ∧ validate (bootState [] []) true [] = some (1, 0) ∧ imgSeq fullA ≤ imgSeq fullA ∧
      validate (bootState fullA []) true [] = some (1, 0) ∧ validate (bootState [] fullA) true [] = some (1, 0) ∧
      State.reset.boot.stage ≠ .running := by decide +kernel

/-- A package with port 0 UP. -/
def linked : State := State.reset.fset (R.SCP_PORT_STATUS.state 0) 5
def started : State := { linked with trn := { linked.trn with started := true } }
/-- Witnesses of RackTimeFollowsMaster: rack time that counts; a package that hears no master, and hears one 1,001 ns ahead of
rack time, 1,001 ns behind it, or 1,000 ns from it; a master; a link of each state that has one. -/
theorem witness_rackTime :
    started.clock ≤ 7 ∧ started.trn.started = true ∧ started.trn.hold = none ∧ started.trn.slew = 0 ∧ started.ecl.phase ≠ 2 ∧
      started.nwt.night = false ∧ (State.reset.advance 0).vc0In 0 = false ∧
      (let s0 := (linked.fset R.TRN_TIME.time_ns 5000).advance 0
       s0.vc0In 0 = true ∧ s0.isMaster = false ∧ s0.fresh 3 [0] = true ∧ s0.trn.hold = none ∧ s0.rackTime = 5000 ∧
         s0.rackTime + 1000 < 0 + 6001 ∧ 0 + 3999 + 1000 < s0.rackTime ∧ s0.rackTime ≤ 4000 + 1000 ∧ 6000 ≤ s0.rackTime + 1000) ∧
      ((linked.fset R.TRN_STATUS.is_master 1).advance 0).isMaster = true ∧ (linked.advance 0).isMaster = false ∧
      linked.fget (R.SCP_PORT_STATUS.state 0) ∈ [5, 6, 13] := by decide
/-- R76: 2,001 ns behind, rack time is stepped forward. -/
theorem test_sync_steps :
    (match exec (.sync 0 0 1 2000 5) linked with | .next t => (t.rackTime, t.fget R.TRN_STATUS.synced) | _ => (0, 0)) = (2005, 1) := by
  decide

/-- A candidate that has been quiet for 1 ms, in a rack of one; whether a package that acknowledged holds a number. -/
def candidateState (num : Option Nat) : State :=
  { linked.fset R.TRN_STATUS.electing 1 with
    clock := 1000000, trn := { Trn.reset with cand := true, heard := some (3, 9), acks := [(7, num)] } }
/-- A member that has heard nothing for long. -/
def waitingState (time : Nat) : State := { linked.fset R.TRN_TIME.time_ns time with trn := { Trn.reset with numbered := true } }
/-- Witnesses of ElectionOfMaster: a better candidate by priority and by number, and a worse one; a quorum with and without a
held number; a MASTER message; the last ns of the loss timeout and the first after it. -/
theorem witness_election :
    (let s := candidateState none
     s.vc0In 0 = true ∧ s.fresh 5 [4, 9, 0] = true ∧ s.fresh 5 [3, 8, 0] = true ∧ s.fresh 5 [3, 9, 1] = true ∧ s.electing = true ∧
       s.trn.heard = some (3, 9) ∧ s.trn.cand = true ∧ (1 : Nat) ≠ s.ownPhys ∧ (∀ a ∈ s.trn.acks, a.1 ≠ 1) ∧
       (s.advance 1000000).trn.candSince + 1000000 ≤ (s.advance 1000000).clock ∧
       (s.advance 1000000).fget R.TRN_RACK_SIZE.rack_size < 2 * ((s.advance 1000000).trn.acks.length + 1) ∧
       (s.advance 1000000).highestHeld = none ∧ s.fresh 6 [4, 1] = true) ∧
      ((candidateState (some 41)).advance 1000000).highestHeld = some 41 ∧
      (waitingState 10000).isMaster = false ∧ (waitingState 10000).electing = false ∧ (waitingState 10000).trn.sched = none ∧
      (waitingState 10000).trn.numbered = true ∧
      Nat.max ((waitingState 10000).fget R.TRN_NEXT.next_ns) (waitingState 10000).trn.masterAt + (waitingState 10000).maxStretch + 10000 ≤
        ((waitingState 10000).advance 0).rackTime ∧
      ((waitingState 9999).advance 0).rackTime < Nat.max ((waitingState 9999).fget R.TRN_NEXT.next_ns) (waitingState 9999).trn.masterAt +
        (waitingState 9999).maxStretch + 10000 := by
  decide

/-- A package of LDN 4 in step 7, the master of a rack of one or a member, 1 us before the nominal time. -/
def memberState (master : Nat) : State :=
  { ((((linked.fset R.TRN_STATUS.is_master master).fset R.SCP_ID.ldn 4).fset R.TRN_NUMBER.transit 7).fset
      R.TRN_PERIOD.period_ns 20000).fset R.TRN_NEXT.next_ns 20000 |>.fset R.TRN_TIME.time_ns 19000 with
    trn := { Trn.reset with numbered := true, nextNo := 8 } }
def masterState : State := memberState 1
def stretching (s : State) : State := { s with trn := { s.trn with stretching := true } }
/-- Witnesses of LateAccounting: a DONE due at a member and at the master; a fresh DONE of the step, the last one missing, at a
stretching master, and at a member; a decision with no DONE missing and with one; the limit; a DARK for a later transit, for
this one, and for none of the package's pairs. -/
theorem witness_late :
    (let due := fun (s : State) => s.ldn ≠ 255 ∧ s.trn.numbered = true ∧ s.trn.doneSent = false ∧ s.allAccounted = true
     due (memberState 0) ∧ (memberState 0).isMaster = false ∧ due masterState ∧ masterState.isMaster = true ∧ masterState.trn.stretching = false ∧
       ¬ due State.reset) ∧
      (State.reset.advance 0).vc0In 0 = false ∧
      (let s0 := ((stretching masterState).fset R.TRN_TIME.time_ns 20000).advance 0
       s0.vc0In 0 = true ∧ s0.fresh 4 [7, 4] = true ∧ s0.isMaster = true ∧ s0.trn.numbered = true ∧ 7 = s0.transitNo ∧ s0.trn.stretching = true ∧
         (∀ x ∈ s0.missing, x = 4) ∧ 10000 ≤ s0.nextPeriod s0.trn.nextNo ∧
         s0.fget R.TRN_NEXT.next_ns + s0.maxStretch ≤ s0.rackTime + s0.leadNs ∧ s0.ldn ∈ s0.missing ∧ s0.transitNo < s0.trn.nextNo) ∧
      ((memberState 0).advance 0).isMaster = false ∧
      (let s0 := masterState.advance 0
       s0.isMaster = true ∧ s0.electing = false ∧ s0.trn.sched = none ∧ s0.trn.hold = none ∧
         s0.fget R.TRN_NEXT.next_ns ≤ s0.rackTime + s0.leadNs ∧ s0.missing ≠ [] ∧ s0.trn.stretching = false) ∧
      ({ masterState with trn := { masterState.trn with dones := [4] } }.advance 0).missing = [] ∧
      (let s := memberState 0
       s.vc0In 0 = true ∧ s.fresh 2 (darkContents 8 [(4, 15)] true) = true ∧ s.transitNo < 8 ∧ s.ldn = 4 ∧
         s.fresh 2 (darkContents 7 [(4, 15)] true) = true ∧ s.transitNo = 7 ∧ (∀ q, (s.ldn, q) ∉ [((5 : Nat), (0 : Nat))])) := by
  refine ⟨by decide +kernel, by decide +kernel, by decide +kernel, by decide +kernel, by decide +kernel, by decide +kernel, ?_⟩
  refine ⟨by decide +kernel, by decide +kernel, by decide +kernel, by decide +kernel, by decide +kernel, by decide +kernel, fun q h => ?_⟩
  have e : (memberState 0).ldn = 4 := by decide +kernel
  simp [e] at h
/-- R89: with its own DONE the master schedules transit 8 at the later of 20,000 and 19,000 + 2,000. -/
theorem test_schedule :
    (match exec (.scheduleDecision 0) { masterState with trn := { masterState.trn with dones := [4] } } with
     | .next t => t.trn.sched | _ => none) = some (8, 21000, 20000) := by decide +kernel

/-- Transit 8 scheduled at a fire time. -/
def dueState (fire : Nat) : State := { masterState with trn := { masterState.trn with sched := some (8, fire, 20000) } }
/-- Witnesses of TransitFires: a transit at its fire time and one 1 ns before it; a fresh SCHEDULE, and one in an election. -/
theorem witness_fire :
    (let s0 := (dueState 19000).advance 0
     s0.trn.sched = some (8, 19000, 20000) ∧ 19000 ≤ s0.rackTime ∧ s0.trn.hold = none ∧ s0.electing = false ∧ s0.ecl.phase ≠ 2 ∧
       s0.nwt.night = false ∧ s0.fget R.TRN_CTL.tout_en = 1) ∧
      ((dueState 19001).advance 0).trn.sched = some (8, 19001, 20000) ∧ ¬ 19001 ≤ ((dueState 19001).advance 0).rackTime ∧
      (let s0 := (memberState 0).advance 0
       s0.vc0In 0 = true ∧ s0.isMaster = false ∧ s0.fresh 1 [8, 19000, 20000, 100] = true ∧ s0.electing = false ∧ s0.transitNo < 8 ∧
         s0.rackTime ≤ 19000 ∧ 100 + 18900 ≤ 19000 ∧ s0.transitNo ≤ 7 ∧ s0.fresh 1 [7, 19000, 20000, 100] = true) ∧
      (let s0 := (candidateState none).advance 1000000
       s0.vc0In 0 = true ∧ s0.isMaster = false ∧ s0.fresh 1 [8, 19000, 20000, 100] = true ∧ s0.electing = true) := by decide +kernel

/-- A structure with partition 0 present, holding T-cluster 0, VF 0 mapped to it. -/
def partSections : List (List Byte) :=
  [[1, 0, 1, 1, 0, 0, 0, 0, 1] ++ List.replicate 2039 0, [], List.replicate 256 0, [], [0, 255], [], []]
/-- Partition 0 in a window of step 7, windows 700, 200, 100 per mille of 20,000 ns, 14,000, 18,000 or another time into it. -/
def stepAt (phase time : Nat) : State :=
  { ((((((State.reset.fset (R.TRN_PART_CTL.compute 0) 700).fset (R.TRN_PART_CTL.exchange 0) 200).fset
      (R.TRN_PART_CTL.commit 0) 100).fset (R.TRN_PART_STEP.step_phase 0) phase).fset R.TRN_PERIOD.period_ns 20000).fset R.TRN_TIME.time_ns time) with
    togus := { Togus.none with sections := partSections }, trn := { Trn.reset with numbered := true } }
def stepState : State := stepAt 0 15000
/-- Witnesses of WindowsOfAStep: boundaries on their ns, the warning at 90 % of each window; T-core 3 belongs to partition 0, core 4
to none; window fields of 1,000 and of another sum; periods at and beyond both ends of their range. -/
theorem witness_windows :
    (∀ e ∈ [(0, 14000), (1, 18000)], (let s0 := (stepAt e.1 e.2).advance 0
      s0.partPresent 0 = true ∧ s0.trn.numbered = true ∧ s0.fget (R.TRN_PART_STEP.step_phase 0) = e.1 ∧
        ((s0.window 0 e.1).1 + (s0.window 0 e.1).2) * s0.periodNs ≤ 1000 * s0.stepTime)) ∧
    (∀ e ∈ [(0, 12600), (1, 17600), (2, 19800)], (let s0 := (stepAt e.1 e.2).advance 0
      (s0.window 0 e.1).2 ≠ 0 ∧ s0.windowDone 0 e.1 = false ∧
        (10 * (s0.window 0 e.1).1 + 9 * (s0.window 0 e.1).2) * s0.periodNs ≤ 10000 * s0.stepTime)) ∧
      stepState.partOfTcore 3 = some 0 ∧ stepState.partOfTcore 4 ≠ some 0 ∧ stepState.partOfPcore 0 ≠ some 0 ∧ stepState.tenantPart 0 = some 0 ∧
      getField (0x6400C802BC : Word) 0 10 + getField (0x6400C802BC : Word) 16 10 + getField (0x6400C802BC : Word) 32 10 = 1000 ∧
      getField (0x6400C802BD : Word) 0 10 + getField (0x6400C802BD : Word) 16 10 + getField (0x6400C802BD : Word) 32 10 ≠ 1000 ∧
      (9999 : Word).toNat % 2 ^ 34 < 10000 ∧ 10000000000 < (10000000001 : Word).toNat % 2 ^ 34 ∧
      10000 ≤ (10000 : Word).toNat % 2 ^ 34 ∧ (10000000000 : Word).toNat % 2 ^ 34 ≤ 10000000000 := by decide +kernel

/-- Witnesses of DroopAccounting: die 39 stretched since 0, its shortest stretch over, and 6 ns lost of a period of 20,000 with no margin. -/
theorem witness_droop :
    (let s := (State.reset.setDroopOf 39 { since := some 0, last := 0, stretched := 0 }).advance 64
     (s.droopOf 39).since = some 0 ∧ (s.droopOf 39).last + shortestStretch 39 ≤ s.clock) ∧
    (let s := (stepState.fset (R.TRN_PART_DROOP.lost_ns 0) 6).fset R.TRN_POLICY.droop_margin 0
     (0 : Nat) ∉ s.trn.overCounted ∧ s.reports.length < 64 ∧
      s.fget R.TRN_POLICY.droop_margin * s.periodNs < 1000 * s.fget (R.TRN_PART_DROOP.lost_ns 0)) := by decide

/-- A T-core with a FENCE in f0 and an instruction of no opcode in f1, `n` instructions queued in each engine. -/
def pushState (n : Nat) : State :=
  State.reset.setTcore 3 { TCore.reset with
    me := { MeState.reset with queue := List.replicate n 8 }, ve := { VeState.reset with queue := List.replicate n 8 },
    fe := { FeState.reset with queue := List.replicate n 8 }, cc := { Jumbe.reset with f := [(0, 8)] } }
/-- A core in the handler of a failed check. -/
def handlerState : State :=
  State.reset.setTcore 3 { TCore.reset with
    me := { MeState.reset with stopped := true }, cc := { Jumbe.reset with inHandler := true, causeCode := excPx } }
/-- Witnesses of QueuePush: FENCE passes every engine's check, an instruction of zeros none; 31 and 32 queued; a failure's handler; a P core. -/
theorem witness_queuePush :
    (pushState 31).coreOn (.tc 3) = true ∧ ((pushState 31).tcore 3).cc.ready [.f 0] = true ∧ (pushState 31).pxHandler 3 = false ∧
      ((pushState 31).tcore 3).cc.fr 0 = 8 ∧ mePushOk 8 = true ∧ vePushOk 8 = true ∧ fePushOk 8 = true ∧ ((pushState 31).queueOf 3 .me).length < 32 ∧
      (pushState 32).coreOn (.tc 3) = true ∧ 32 ≤ ((pushState 32).queueOf 3 .ve).length ∧ ((pushState 0).tcore 3).cc.fr 1 = 0 ∧
      mePushOk 0 = false ∧ vePushOk 0 = false ∧ fePushOk 0 = false ∧ handlerState.coreOn (.tc 3) = true ∧ handlerState.pxHandler 3 = true ∧
      State.reset.coreOn (.pc 191) = true := by decide

/-- A T-core with an instruction at the head of each queue; beacon 5 at a value. -/
def waitState (assigned : Bool) (v : Word) (i : Quad) : State :=
  { (State.reset.setTcore 3 { TCore.reset with
      me := { MeState.reset with queue := [i] }, ve := { VeState.reset with queue := [i], stream := [] },
      fe := { FeState.reset with queue := [i] } }).setBeacon 5 { Beacon.reset with assigned := assigned, value := v } with
    togus := { Togus.none with sections := partSections } }
/-- A WAITB for beacon 5 to reach 1. -/
def waitbQ : Quad := 0x10000000000000507
/-- Witnesses of QueueHoldsAndDiscards: a beacon at its threshold, below it, and of another partition; a FENCE, and one while drained
rows wait for the VE; a halted queue and one that runs. -/
theorem witness_queueHolds :
    waitBeacon waitbQ = 5 ∧ waitValue waitbQ = 1 ∧ (waitState true 1 waitbQ).atHead 3 .me 7 = some waitbQ ∧
      (waitState true 1 waitbQ).atHead 3 .ve 7 = some waitbQ ∧ (waitState true 1 waitbQ).atHead 3 .fe 7 = some waitbQ ∧
      (waitState true 1 waitbQ).mayUse (.tcore 3) ((waitState true 1 waitbQ).beacon 5) = true ∧
      ((waitState true 0 waitbQ).beacon 5).value.toNat < 1 ∧ (waitState true 0 waitbQ).atHead 3 .me 7 = some waitbQ ∧
      (waitState true 0 waitbQ).mayUse (.tcore 3) ((waitState true 0 waitbQ).beacon 5) = true ∧
      (waitState false 0 waitbQ).atHead 3 .me 7 = some waitbQ ∧
      (waitState false 0 waitbQ).mayUse (.tcore 3) ((waitState false 0 waitbQ).beacon 5) = false ∧
      (waitState true 0 8).atHead 3 .fe 8 = some 8 ∧ (waitState true 0 8).atHead 3 .me 8 = some 8 ∧ ((waitState true 0 8).tcore 3).me.toVe = none ∧
      ((waitState true 0 8).fset (R.TC_VE_STATUS.halted 3) 1).halted 3 .ve = true ∧ (waitState true 0 8).halted 3 .ve = false ∧
      (let s := (waitState true 0 8).onMe 3 (fun m => { m with toVe := some { q := 0, outScale := 127, ctr := none, taken := 0 } })
       s.atHead 3 .me 8 = some 8 ∧ (s.tcore 3).me.toVe ≠ none) := by decide

/-- Witnesses of QueueReads: a core with empty queues, one with a FENCE in each, one with a halted queue, and a P core. -/
theorem witness_queueReads :
    (pushState 0).coreOn (.tc 3) = true ∧ (pushState 0).syncExceptions 3 7 = [] ∧
      (∀ e ∈ [(EngineQ.me, 0), (EngineQ.ve, 1), (EngineQ.fe, 2)], (pushState 0).engineIdle 3 e.1 = true) ∧
      (pushState 1).coreOn (.tc 3) = true ∧ (pushState 1).syncExceptions 3 7 = [] ∧ (pushState 1).engineIdle 3 .me = false ∧ bit 7 0 = true ∧
      ((pushState 1).fset (R.TC_VE_STATUS.halted 3) 1).syncExceptions 3 7 = (excVe, 2) :: [] ∧
      srReg 3 2 = some (A.TC_NUM_SR_CTR 3) ∧ ((pushState 0).tcore 3).cc.ready [.x 4] = true ∧ (pushState 0).queueOf 3 .me = [] ∧
      (pushState 0).queueOf 3 .ve = [] ∧ (pushState 1).queueOf 3 .me ≠ [] ∧ State.reset.coreOn (.pc 191) = true := by decide

/-- T-core 3 with `q` at the head of its ME queue and full width. -/
def meState (q : Quad) : State :=
  ((State.reset.setTcore 3 { TCore.reset with me := { MeState.reset with queue := [q] } }).fset (R.TC_ME_STATUS.width_presented 3) 64).setReg (A.TC_ME_COLS 3) 7
/-- LOADS of one row of two BF16 elements from scratchpad offset 64, stride 1, and from an offset off its grid. -/
def loadsQ (src : Nat) : Quad := 0x1 ||| (3 <<< 8) ||| (1 <<< 21) ||| (2 <<< 34) ||| (BitVec.ofNat 128 src <<< 64) ||| (1 <<< 86)
def swapping (s : State) : State := s.onMe 3 (fun m => { m with swapPending := true })
def drainingToVe (s : State) : State := s.onMe 3 (fun m => { m with toVe := some { q := 0, outScale := 127, ctr := none, taken := 0 } })
/-- Witnesses of MeSetsAndModes: a LOADS that passes its checks, without and with a swap pending, and one that fails them; SWAP, MODE and
SCALE in each of their cases; MODE, STREAM and DRAIN while drained rows wait for the VE. -/
theorem witness_meSets :
    (meState (loadsQ 64)).atHead 3 .me 1 = some (loadsQ 64) ∧ (meState (loadsQ 64)).loadsCheck 3 (loadsQ 64) = none ∧
      ((meState (loadsQ 64)).tcore 3).me.swapPending = false ∧ (meState (loadsQ 64)).meMode 3 = 0 ∧
      (swapping (meState (loadsQ 64))).atHead 3 .me 1 = some (loadsQ 64) ∧ (swapping (meState (loadsQ 64))).loadsCheck 3 (loadsQ 64) = none ∧
      ((swapping (meState (loadsQ 64))).tcore 3).me.swapPending = true ∧
      (meState (loadsQ 4194303)).atHead 3 .me 1 = some (loadsQ 4194303) ∧
      ((meState (loadsQ 4194303)).loadsCheck 3 (loadsQ 4194303)).isSome = true ∧
      (meState 2).atHead 3 .me 2 = some 2 ∧ (swapping (meState 2)).atHead 3 .me 2 = some 2 ∧
      (meState 0x105).atHead 3 .me 5 = some 0x105 ∧ ((meState 0x105).tcore 3).me.entries = [] ∧ ((meState 0x105).tcore 3).me.toVe = none ∧
      ((meState 5).onMe 3 (fun m => { m with entries := [(0, { AccEntry.empty with nonempty := true })] })).atHead 3 .me 5 = some 5 ∧
      (drainingToVe (meState 5)).atHead 3 .me 5 = some 5 ∧ (drainingToVe (meState 3)).atHead 3 .me 3 = some 3 ∧
      (drainingToVe (meState 4)).atHead 3 .me 4 = some 4 ∧ ((drainingToVe (meState 4)).tcore 3).me.toVe ≠ none ∧
      (meState 0x7E06).atHead 3 .me 6 = some 0x7E06 := by decide

/-- A one-by-one BF16 STREAM over an active set that holds 1.0 (0x3F80), and its lane sum. -/
def streamQ : Quad := 0x3 ||| (3 <<< 8) ||| (1 <<< 23) ||| (64 <<< 64)
def oneSet : StatSet :=
  { valid := true, fmt := 3, scaleCtl := 0, rows := 1, cols := 1, vals := [0x3F80], scales := [], poisoned := false, sums := [] }
def oneArray : MeArray := { MeArray.reset with active := { oneSet with sums := [LaneSum.of false [statNum 0 oneSet 0 0]] } }
def arrayState (q : Quad) (a : MeArray) : State :=
  ((meState q).onMe 3 (fun m => { m with toMeArray := a, start := a })).write (padBase 3 + 64) [0x00, 0x40]
def streamState : State := arrayState streamQ oneArray
/-- A contribution to output (0, 0), from physical column 0, that is one unit off. -/
def anError : List MeError := [.contribution 0 0 0 (.units 1)]
/-- Witness of StreamAddsExactly: a pass, and a row that fails its check. -/
theorem witness_stream :
    streamState.atHead 3 .me 3 = some streamQ ∧ streamState.streamCheck 3 streamQ = none ∧ streamState.meMode 3 = 0 ∧
      (streamState.tcore 3).me.toVe = none ∧ (streamState.tcore 3).me.injectPending = false ∧ streamState.fget (R.TC_PX_CTL.inject_persist 3) = 0 ∧
      meAccIn streamQ = false ∧ (streamState.tcore 3).me.streamSet.cols ≤ 4096 ∧
      (streamState.streamArr 3 streamQ [] (streamState.tcore 3).me.toMeArray).2 = none ∧
      (streamState.streamArr 3 streamQ (actingErrors (streamState.colsInUse 3) [] anError) (streamState.tcore 3).me.toMeArray).2 = some 0 ∧
      streamState.fget (R.TC_PX_CTL.replay_off 3) = 0 ∧ (streamState.tcore 3).me.replayLost = false := by decide +kernel
/-- R139, R143: 2.0 times 1.0 is 2 in units of 2^-300. -/
theorem test_stream :
    (match exec (.stream 3 []) streamState with
     | .next t => decide (((t.tcore 3).me.entry 0 0).value = 2 ^ 301) && ((t.tcore 3).me.entry 0 0).nonempty | _ => false) = true := by
  decide +kernel

/-- Witness of ExactSumsHaveNoOrder. -/
theorem witness_exactSums :
    [(FpNum.inf false, false), (FpNum.fin true 0 0, true)].Perm [(FpNum.fin true 0 0, true), (FpNum.inf false, false)] ∧
      [(FpNum.inf false, false), (FpNum.fin true 0 0, true)] ≠ [] := ⟨List.Perm.swap _ _ _, List.cons_ne_nil _ _⟩
/-- The worked cases of the number formats chapter: 2^60 + 1 - 2^60 is 1.0 in FP32; three -0 are -0; E4M3 of 460 and 470. -/
theorem test_worked_cases :
    (([FpNum.fin false 1 60, .fin false 1 0, .fin true 1 60].foldl (fun e x => e.add false x false) AccEntry.empty).drain false 1 0 0 0).1 = 0x3F800000 ∧
    (([FpNum.fin true 0 0, .fin true 0 0, .fin true 0 0].foldl (fun e x => e.add false x false) AccEntry.empty).drain false 1 0 0 0).1 = 0x80000000 ∧
    (([FpNum.fin false 3 0, .fin true 3 0].foldl (fun e x => e.add false x false) AccEntry.empty).drain false 1 3 0 0).1 = 0x80000000 ∧
    (deliver 4 .rne false false (.fin false 460 0)).1 = 0x7E ∧ (deliver 4 .rne true false (.fin false 470 0)).1 = 0x7F ∧
    (deliver 4 .rne false false (.fin true 470 0)).1 = 0xFE ∧ (deliver 4 .rne false false (.fin false 3 (-10))).1 = 0x02 ∧
    (deliver 4 .rtz false false (.fin false 3 (-10))).1 = 0x01 ∧ (deliver 4 .rne false false (.fin false 1 (-10))).1 = 0 := by decide +kernel

/-- DRAIN of one FP32 element to offset 128, and the same discarded. -/
def drainQ : Quad := 0x4 ||| (1 <<< 8) ||| (1 <<< 23) ||| (1 <<< 30) ||| (128 <<< 64) ||| (1 <<< 86)
def discardQ : Quad := 0x4 ||| (1 <<< 8) ||| (1 <<< 22) ||| (1 <<< 23) ||| (1 <<< 30)
/-- An entry and its lane entry, which agree or not. -/
def drainArray (lane : Int) : MeArray :=
  { MeArray.reset with
    entries := [(0, { AccEntry.empty with value := 5, nonempty := true })], lane := [(0, { AccEntry.empty with value := lane, nonempty := true })],
    tileWide := some false, tileFmt := some 3 }
/-- Witnesses of DrainWritesAndEmpties: a DRAIN that writes, one that discards, one whose lane entries do not agree, and one of a poisoned tile. -/
theorem witness_drain :
    (let s := arrayState drainQ (drainArray 5)
     s.atHead 3 .me 4 = some drainQ ∧ s.drainCheck 3 drainQ = none ∧ (s.tcore 3).me.poisoned = false ∧ (s.tcore 3).me.toVe = none ∧
       (s.tcore 3).me.toMeArray.drainFind (s.meMode 3) (meDRows drainQ) (meDCols drainQ) = none) ∧
      meDiscard drainQ = false ∧ meToVe drainQ = false ∧ meFmt drainQ ≠ fmtRaw ∧ meDRows drainQ = 1 ∧
      (let s := arrayState discardQ (drainArray 5)
       s.atHead 3 .me 4 = some discardQ ∧ s.drainCheck 3 discardQ = none ∧ (s.tcore 3).me.poisoned = false ∧
         (s.tcore 3).me.toMeArray.drainFind (s.meMode 3) (meDRows discardQ) (meDCols discardQ) = none) ∧ meDiscard discardQ = true ∧
      (let s := arrayState drainQ (drainArray 6)
       s.atHead 3 .me 4 = some drainQ ∧ s.drainCheck 3 drainQ = none ∧ (s.tcore 3).me.poisoned = false ∧
         (s.tcore 3).me.toMeArray.drainFind (s.meMode 3) (meDRows drainQ) (meDCols drainQ) = some 0 ∧
         s.fget (R.TC_PX_CTL.replay_off 3) = 0 ∧ (s.tcore 3).me.replayLost = false) ∧
      (let s := arrayState drainQ { drainArray 5 with poisoned := true }
       s.atHead 3 .me 4 = some drainQ ∧ s.drainCheck 3 drainQ = none ∧ (s.tcore 3).me.poisoned = true ∧ (s.tcore 3).me.toVe = none) := by
  decide +kernel

/-- T-core 3 in a sequence over the STREAM at the head of its queue; its columns 0 to 2 are in use. -/
def pxSeq (phase : Nat) (cand half : List Nat) (allPassed : Bool) : PxSeq :=
  { check := 1, index := 0, phase := phase, cand := cand, half := half, allPassed := allPassed, dst := none, saved := none, savedTile := none }
def pxState (x : PxSeq) (tileRetired : Nat) : State := streamState.onMe 3 (fun m => { m with px := some x, tileRetired := tileRetired })
/-- Whether the run of that sequence passes. -/
def pxPass (x : PxSeq) (errs : List MeError) : Bool :=
  ((pxState x 0).pushedRun 3 x (actingErrors ((pxState x 0).colsInUse 3) x.half errs) []).pass
/-- Witnesses of ParallaxSequences on pushed work: a first run that passes and one that fails, with one and two columns retired; a half that
clears the mismatch and one that does not, with two and with one left; a single candidate cleared before every run passed, after, and not at all. -/
theorem witness_parallaxRuns :
    (let s := pxState (pxSeq 0 [] [] true) 1
     (s.tcore 3).me.px = some (pxSeq 0 [] [] true) ∧ (s.tcore 3).me.ring = none ∧ s.fget (R.TC_PX_CTL.inject_persist 3) = 0 ∧
       (s.tcore 3).me.queue.head? = some streamQ ∧ qOp streamQ = 0x03 ∧ (s.pushedRun 3 (pxSeq 0 [] [] true) [] []).arr.isSome = true ∧
       (s.tcore 3).me.tileRetired < 2 ∧ s.colsInUse 3 = [0, 1, 2]) ∧
      2 ≤ ((pxState (pxSeq 0 [] [] true) 2).tcore 3).me.tileRetired ∧
      pxPass (pxSeq 0 [] [] true) [] = true ∧ pxPass (pxSeq 0 [] [] true) anError = false ∧
      pxPass (pxSeq 1 [0, 1, 2] [0, 1] true) anError = true ∧
      pxPass (pxSeq 1 [0, 1, 2] [2] true) anError = false ∧ 2 ≤ ([0, 1, 2].filter (fun k => !([2].contains k))).length ∧
      pxPass (pxSeq 1 [0, 1] [1] true) anError = false ∧ ([0, 1].filter (fun k => !([1].contains k))).length ≤ 1 ∧
      pxPass (pxSeq 2 [0] [0] true) anError = true ∧ pxPass (pxSeq 2 [0] [0] false) anError = true ∧
      pxPass (pxSeq 2 [1] [1] false) anError = false ∧ (pxState (pxSeq 2 [0] [0] false) 0).partOfTcore 3 = none ∧
      ((pxState (pxSeq 2 [0] [0] false) 0).tcore 3).me.stopped = false := by decide +kernel

def someOp : Op :=
  { ring := 0, order := 0, fetchedIn := 0, desc := List.replicate 64 0, started := true, status := none, ended := 0, progress := 5, witness := 6,
    classFlags := 0, aux := 0, reissues := 0, partition := 0, xfer := none, parts := [], partsTile := none, stores := [], tiles := [],
    ctrl := [], work := [], again := [], given := 0, failed := false, discarded := false, resumeIt := 0 }
/-- Witnesses of ParallaxSequences beyond runs: a failed ring operation in slot 9, a failure's handler, another handler. -/
theorem witness_parallax :
    (let s := (State.reset.setTcore 3 { TCore.reset with me := { MeState.reset with stopped := true, ring := some (9, 0) } }).setOp 9
       (some { someOp with failed := true })
     (s.tcore 3).me.stopped = true ∧ (s.tcore 3).me.px = none ∧ (s.tcore 3).me.ring = some (9, 0) ∧ s.op 9 = some { someOp with failed := true } ∧
       s.recs = [] ∧ s.recq = []) ∧
      handlerState.pxHandler 3 = true ∧ handlerState.coreOn (.tc 3) = true ∧ handlerState.recs = [] ∧ handlerState.recq = [] ∧
      (let s := State.reset.setPcore 7 { Jumbe.reset with inHandler := true }
       s.coreOn (.pc 7) = true ∧ (s.jumbe (.pc 7)).inHandler = true) ∧
      (let s := State.reset.setTcore 3 { TCore.reset with cc := { Jumbe.reset with inHandler := true, causeCode := excMe } }
       s.coreOn (.tc 3) = true ∧ (s.jumbe (.tc 3)).inHandler = true ∧ s.pxHandler 3 = false) := by decide

/-- T-core 3 with `q` at the head of its VE queue. -/
def veState (q : Quad) : State :=
  State.reset.setTcore 3 { TCore.reset with ve := { VeState.reset with
    queue := [q], vregs := [(0, 0x3F800000), (1, 0x40000000), (4096, 0x40400000)], preds := [(1, true)] } }
/-- A VE instruction: opcode, fmt, vd, vs1, vs2, count, sub. -/
def veQ (op fmt vd vs1 vs2 n sub : Nat) : Quad :=
  BitVec.ofNat 128 (op + fmt * 2 ^ 8 + vd * 2 ^ 21 + vs1 * 2 ^ 25 + vs2 * 2 ^ 29 + n * 2 ^ 43 + sub * 2 ^ 56)
/-- Witnesses of VeLanes: every listed instruction passes the check and stands at the head. -/
theorem witness_veLanes :
    (∀ e ∈ [(0x30, 0), (0x31, 0), (0x32, 0), (0x33, 0), (0x34, 0), (0x35, 0), (0x36, 0), (0x37, 0), (0x3A, 0), (0x3A, 1), (0x3A, 2),
        (0x3B, 0), (0x3B, 1), (0x3C, 0)],
      (veState (veQ e.1 1 2 0 1 2 e.2)).atHead 3 .ve e.1 = some (veQ e.1 1 2 0 1 2 e.2) ∧ vePushOk (veQ e.1 1 2 0 1 2 e.2) = true) ∧
    (∀ e ∈ [(0x38, 0), (0x39, 0), (0x3D, 0), (0x23, 3), (0x50, 4)],
      (veState (veQ e.1 1 2 1 0 2 e.2)).atHead 3 .ve e.1 = some (veQ e.1 1 2 1 0 2 e.2) ∧ vePushOk (veQ e.1 1 2 1 0 2 e.2) = true) := by
  decide
/-- 1.0 + 3.0 is 4.0 in element 0 of v2; the element above n keeps its value. -/
theorem test_vadd :
    (match exec (.vadd 3 ⟨[], []⟩) (veState (veQ 0x30 1 2 0 1 1 0)) with
     | .next t => ((t.tcore 3).ve.elem 1 2 0, (t.tcore 3).ve.elem 1 2 1, (t.tcore 3).ve.elem 1 0 1) | _ => (0, 0, 0)) =
      (0x40800000, 0, 0x40000000) := by decide +kernel

/-- VLD of two BF16 elements as FP32 into v2, and VST of two FP32 elements of v0 as BF16, both at offset 64; VLD of four FP6 elements. -/
def vldQ : Quad := BitVec.ofNat 128 (0x20 + 1 * 2 ^ 8 + 2 * 2 ^ 21 + 2 * 2 ^ 43 + 64 * 2 ^ 64 + 1 * 2 ^ 86 + 3 * 2 ^ 102)
def vstQ : Quad := BitVec.ofNat 128 (0x21 + 1 * 2 ^ 8 + 2 * 2 ^ 43 + 64 * 2 ^ 64 + 1 * 2 ^ 86 + 3 * 2 ^ 102)
def mirrored (s : State) : State := s.fset (R.TC_VE_STATUS.mirror_active 3) 1
/-- A drained stream of two elements of a format. -/
def vrecvState (q : Quad) (fmt : Nat) : State :=
  (veState q).onVe 3 (fun v => { v with stream := [(fmt, 0x3F800000), (fmt, 5)] })
/-- Witnesses of VeFailedCheck: an addition, a load that converts, a drained row added and a slot read, each with element 0 active, whose
lane error flips bit 0; with and without mirror mode. -/
theorem witness_veFailed :
    (let q := veQ 0x30 1 2 0 1 2 0
     (veState q).atHead 3 .ve 0x30 = some q ∧ vePushOk q = true ∧ ((veState q).tcore 3).ve.active q 0 = true) ∧
      (let q := veQ 0x42 1 2 0 1 2 0
       (mirrored (veState q)).atHead 3 .ve 0x42 = some q ∧ vePushOk q = true ∧ ((mirrored (veState q)).tcore 3).ve.active q 0 = true ∧
         (mirrored (veState q)).fon (R.TC_VE_STATUS.mirror_active 3) = true ∧ (veState q).fon (R.TC_VE_STATUS.mirror_active 3) = false) ∧
      (veState vldQ).atHead 3 .ve 0x20 = some vldQ ∧ vePushOk vldQ = true ∧ ((veState vldQ).tcore 3).ve.active vldQ 0 = true ∧ veMemFmt vldQ ≠ veFmt vldQ ∧
      (∀ i ∈ ((veState vldQ).tcore 3).ve.activeList vldQ,
        (veState vldQ).poisonedIn (padBase 3 + (bitSpan (veBitAt vldQ i) 16).1) (bitSpan (veBitAt vldQ i) 16).2 = false) ∧
      (let q := veQ 0x60 1 2 0 0 2 1
       (vrecvState q 1).atHead 3 .ve 0x60 = some q ∧ vePushOk q = true ∧ ((vrecvState q 1).tcore 3).ve.active q 0 = true ∧
         veCount q ≤ ((vrecvState q 1).tcore 3).ve.stream.length ∧ (∀ e ∈ ((vrecvState q 1).tcore 3).ve.stream.take (veCount q), e.1 = veFmt q)) ∧
      (let q := veQ 0x61 1 2 0 0 1 0
       (mirrored (veState q)).atHead 3 .ve 0x61 = some q ∧ vePushOk q = true ∧ ((veState q).tcore 3).ve.active q 0 = true ∧ isFloat (veFmt q) = true) ∧
      1 % 2 = 1 := by decide

/-- Witnesses of VeCopiesAndPredicates. -/
theorem witness_veCopies :
    (∀ e ∈ [(0x22, 0), (0x22, 1), (0x42, 0), (0x40, 3), (0x41, 0)],
      let q := if e.1 = 0x40 ∨ e.1 = 0x41 then veQ e.1 1 0 0 1 2 e.2 else if e.1 = 0x22 then veQ e.1 1 2 0 0 2 e.2 else veQ e.1 1 2 0 1 2 e.2
      (veState q).atHead 3 .ve e.1 = some q ∧ vePushOk q = true) ∧
    (((veState 8).onVe 3 (fun v => { v with queue := [] })).tcore 3).ve.queue = [] ∧ ((veState 8).tcore 3).ve.queue ≠ [] := by decide
/-- VSEL on p0 = ..10: element 0 from vs2 (v1), element 1 from vs1 (v0). -/
theorem test_vsel :
    (match exec (.vsel 3 ⟨[], []⟩) (veState (veQ 0x42 1 2 0 1 2 0)) with
     | .next t => ((t.tcore 3).ve.elem 1 2 0, (t.tcore 3).ve.elem 1 2 1) | _ => (0, 0)) = (0x40400000, 0x40000000) := by decide +kernel

/-- Witnesses of VeMemoryOperands, with and without poison; a store of the last element of a group. -/
theorem witness_veMemory :
    (veState vldQ).atHead 3 .ve 0x20 = some vldQ ∧ vePushOk vldQ = true ∧ (veState vstQ).atHead 3 .ve 0x21 = some vstQ ∧
      vePushOk vstQ = true ∧ ((veState vldQ).tcore 3).ve.activeList vldQ = [0, 1] ∧
      (∀ i ∈ [0, 1], (veState vldQ).poisonedIn (padBase 3 + (bitSpan (veBitAt vldQ i) 16).1) (bitSpan (veBitAt vldQ i) 16).2 = false) ∧
      (((veState vldQ).setPoison (padBase 3 + 64)).atHead 3 .ve 0x20 = some vldQ) ∧
      ((veState vldQ).setPoison (padBase 3 + 64)).poisonedIn (padBase 3 + (bitSpan (veBitAt vldQ 0) 16).1)
        (bitSpan (veBitAt vldQ 0) 16).2 = true ∧ veStride vstQ = 1 ∧ (1 : Nat) ∈ ((veState vstQ).tcore 3).ve.activeList vstQ := by decide
/-- R125, R116: 1.0 and 2.0 in FP32 store as 0x3F80 and 0x4000 in BF16, low byte first. -/
theorem test_vst :
    (match exec (.vst 3 ⟨[], []⟩) (veState vstQ) with
     | .next t => t.bytes (padBase 3 + 64) 4 | _ => []) = [0x80, 0x3F, 0x00, 0x40] := by decide +kernel

/-- VADD of two FP32 elements with an exact sum tap that resets slot 2, and VRGET of slot 2. -/
def tapQ : Quad := veQ 0x30 1 2 0 1 2 0 + BitVec.ofNat 128 (2 ^ 120 + 2 ^ 124 + 2 ^ 125 + 2 * 2 ^ 126)
def vrgetQ (fmt n keep : Nat) : Quad := veQ 0x61 fmt 2 0 0 n keep + BitVec.ofNat 128 (2 * 2 ^ 126)
def vrecvQ : Quad := veQ 0x60 1 2 0 0 2 0
/-- A VRECV of two elements while a DRAIN of one row of two columns waits, in a format. -/
def aDrain (fmt : Nat) : ToVe :=
  { q := 0x4 ||| (BitVec.ofNat 128 fmt <<< 8) ||| (1 <<< 21) ||| (1 <<< 23) ||| (2 <<< 30), outScale := 127, ctr := none, taken := 0 }
def waitingDrain (fmt : Nat) : State := (veState vrecvQ).onMe 3 (fun m => { m with toVe := some (aDrain fmt) })
/-- A slot that holds a value. -/
def slotState (q : Quad) (fmt op : Nat) : State :=
  (veState q).onVe 3 (fun v => { v with slots := [.empty, .empty, { RedSlot.empty with nonempty := true, fmt := fmt, op := op, count := 3, index := 2, best := some (fmt, 5) }, .empty] })
/-- Witnesses of VeReductions: VSEG; VRECV of a stream in another format, too short with nothing behind it, with a DRAIN of another format or of
the same behind it, and long enough; a tap; VRGET of each form, and of an integer format from a floating-point slot. -/
theorem witness_veReductions :
    (veState (veQ 0x58 1 2 1 0 7 4)).atHead 3 .ve 0x58 = some (veQ 0x58 1 2 1 0 7 4) ∧ vePushOk (veQ 0x58 1 2 1 0 7 4) = true ∧
      (vrecvState vrecvQ 1).atHead 3 .ve 0x60 = some vrecvQ ∧ vePushOk vrecvQ = true ∧ veCount vrecvQ ≤ ((vrecvState vrecvQ 1).tcore 3).ve.stream.length ∧
      (∀ e ∈ ((vrecvState vrecvQ 1).tcore 3).ve.stream.take 2, e.1 = veFmt vrecvQ) ∧
      (vrecvState vrecvQ 3).atHead 3 .ve 0x60 = some vrecvQ ∧ (∃ e ∈ ((vrecvState vrecvQ 3).tcore 3).ve.stream.take 2, e.1 ≠ veFmt vrecvQ) ∧
      (veState vrecvQ).atHead 3 .ve 0x60 = some vrecvQ ∧ ((veState vrecvQ).tcore 3).ve.stream.length < veCount vrecvQ ∧
      ((veState vrecvQ).tcore 3).me.toVe = none ∧ ((veState vrecvQ).tcore 3).ve.stopped = false ∧ (veState vrecvQ).fget (R.TC_VE_STATUS.halted 3) = 0 ∧
      (waitingDrain 1).atHead 3 .ve 0x60 = some vrecvQ ∧ (waitingDrain 3).atHead 3 .ve 0x60 = some vrecvQ ∧ ((waitingDrain 1).tcore 3).ve.stream = [] ∧
      ((waitingDrain 1).tcore 3).me.toVe = some (aDrain 1) ∧ meFmt (aDrain 1).q = veFmt vrecvQ ∧ (aDrain 1).ctr = none ∧ (aDrain 1).taken = 0 ∧
      meDRows (aDrain 1).q * meDCols (aDrain 1).q = veCount vrecvQ ∧ veSub vrecvQ = 0 ∧
      ((waitingDrain 3).tcore 3).me.toVe = some (aDrain 3) ∧ meFmt (aDrain 3).q ≠ veFmt vrecvQ ∧
      (veState tapQ).atHead 3 .ve 0x30 = some tapQ ∧ vePushOk tapQ = true ∧ veFmt tapQ = 1 ∧ veRedOp tapQ = 1 ∧ veRedExact tapQ = true ∧
      veRedReset tapQ = true ∧ vePredEn tapQ = false ∧ ((veState tapQ).tcore 3).ve.slots.length = 4 ∧
      (∀ e ∈ [(1, 0), (1, 1), (3, 0)], (slotState (vrgetQ 1 e.1 e.2) 1 4).atHead 3 .ve 0x61 = some (vrgetQ 1 e.1 e.2) ∧
        vePushOk (vrgetQ 1 e.1 e.2) = true ∧ isFloat (veFmt (vrgetQ 1 e.1 e.2)) = true ∧
        (((slotState (vrgetQ 1 e.1 e.2) 1 4).tcore 3).ve.slots.getD (veRedSlot (vrgetQ 1 e.1 e.2)) .empty).op = 4) ∧
      ((slotState (vrgetQ 1 3 0) 1 4).tcore 3).ve.active (vrgetQ 1 3 0) 2 = true ∧
      (let q := vrgetQ 0x12 1 0
       (slotState q 1 1).atHead 3 .ve 0x61 = some q ∧ vePushOk q = true ∧ isFloat (veFmt q) = false ∧
         (((slotState q 1 1).tcore 3).ve.slots.getD (veRedSlot q) .empty).nonempty = true ∧
         isFloat (((slotState q 1 1).tcore 3).ve.slots.getD (veRedSlot q) .empty).fmt = true) := by decide
/-- The example of R209: 2^24 and 63 ones in fast and in exact mode. -/
theorem test_tap_example :
    let els : List (Option Nat) := some 0x4B800000 :: List.replicate 63 (some 0x3F800000)
    let slot := fun (exact : Bool) => { RedSlot.empty with op := 1, fmt := 1, exact := exact, kind := if exact then 2 else 4 }
    (((slot false).feedAll els 1).1.read 1 0 0 0).1 = 0x4B80001F ∧ (((slot true).feedAll els 1).1.read 1 0 0 0).1 = 0x4B800020 := by
  decide +kernel

/-- T-core 3 and P core 5 with two FP64 pairs: f1 is (2.0, 1.0), f2 is (3.0, -6.0). -/
def jumbeState (j : Jumbe) : State := (State.reset.onJumbe (.tc 3) (fun _ => j)).onJumbe (.pc 5) (fun _ => j)
def jumbeRegs : Jumbe :=
  { Jumbe.reset with
    x := [(1, 0x100), (2, 7)],
    f := [(1, 0x3FF00000000000004000000000000000), (2, 0xC0180000000000004008000000000000)] }
/-- A reserved rounding mode. -/
def reservedMode : Jumbe := { jumbeRegs with fpsr := 0x700 }
/-- Witnesses of ExactAccumulator: the last count that two terms fit and the first that they do not. -/
theorem witness_exactAccumulator :
    (jumbeState jumbeRegs).coreOn (.tc 3) = true ∧ (jumbeState jumbeRegs).coreOn (.pc 5) = true ∧
      ((jumbeState jumbeRegs).jumbe (.pc 5)).ready [.f 1, .f 2, .acc] = true ∧ ((jumbeState jumbeRegs).jumbe (.pc 5)).ready [.acc] = true ∧
      (jumbeState { jumbeRegs with xaccTerms := 2 ^ 40 - 2 }).coreOn (.tc 3) = true ∧
      ((jumbeState { jumbeRegs with xaccTerms := 2 ^ 40 - 2 }).jumbe (.pc 5)).xaccTerms + 2 ≤ 2 ^ 40 ∧
      (jumbeState { jumbeRegs with xaccTerms := 2 ^ 40 - 1 }).coreOn (.tc 3) = true ∧
      2 ^ 40 < ((jumbeState { jumbeRegs with xaccTerms := 2 ^ 40 - 1 }).jumbe (.tc 3)).xaccTerms + 2 ∧
      ((jumbeState jumbeRegs).jumbe (.tc 3)).rmode = some .rne ∧ ((jumbeState reservedMode).jumbe (.tc 3)).rmode = none ∧
      AccEntry.empty.pos = decide (AccEntry.empty.cls = .posInf) ∧ AccEntry.empty.neg = decide (AccEntry.empty.cls = .negInf) ∧
      -(2 : Int) ^ (entryBits true - 1) ≤ AccEntry.empty.value ∧ AccEntry.empty.value < 2 ^ (entryBits true - 1) := by
  decide +kernel
/-- 2 x 3 + 1 x -6 is exactly zero: one +0 and a nonempty entry. -/
theorem test_xdot :
    (match exec (.xdot (.pc 5) 1 2) (jumbeState jumbeRegs) with
     | .next t => ((t.jumbe (.pc 5)).xacc.value, (t.jumbe (.pc 5)).xacc.nonempty, (t.jumbe (.pc 5)).xaccTerms) | _ => (1, false, 0)) =
      (0, true, 2) := by decide +kernel

/-- A vector instruction word. -/
def vecW (opcode fd fs1 fs2 etype grp func : Nat) : BitVec 32 :=
  BitVec.ofNat 32 (opcode + fd * 2 ^ 8 + fs1 * 2 ^ 13 + fs2 * 2 ^ 18 + etype * 2 ^ 23 + grp * 2 ^ 26 + func * 2 ^ 28)
/-- R219: the fields of a word, written out bit by bit. -/
theorem test_vecWord :
    VecFields.ofWord 0b0010_01_110_00010_00001_00100_11000001 =
      { opcode := 0xC1, fd := 4, fs1 := 1, fs2 := 2, etype := 6, grp := 1, func := 2 } := by decide
/-- Witnesses of JumbeArithmetic: FP64 on one register of T-core 3, groups of 4 and of 8 on P core 5; a conversion of FP64 to FP32, a widening
multiply of a half and of whole groups, a dot product; then a group on a control core, a word of another class, FP8 arithmetic, types without a
widening or a dot product, and a reserved rounding mode. -/
theorem witness_jumbeArithmetic :
    (let v := VecFields.ofWord (vecW 0xC0 31 1 2 7 0 0)
     v.isArith = true ∧ isFp8 (etypeOf v.etype (bit v.func 0)) = false ∧ hasGrp (.tc 3) v.grp = true ∧ aligned v.fd 1 = true ∧
       ((jumbeState jumbeRegs).jumbe (.tc 3)).ready ((opSources .fma v.fs1 v.fs2).flatMap (fun f => groupSrcs f 1) ++ groupSrcs v.fd 1) = true) ∧
      (∀ e ∈ [(2, 4), (3, 8)], (let v := VecFields.ofWord (vecW 0xDF 24 8 16 7 e.1 0)
       v.isArith = true ∧ hasGrp (.pc 5) v.grp = true ∧ grpRegs v.grp = e.2 ∧ aligned v.fd e.2 = true ∧ aligned v.fs1 e.2 = true ∧ aligned v.fs2 e.2 = true ∧
         grpOk v.fd e.2 v.fs1 e.2 = true ∧ grpOk v.fd e.2 v.fs2 e.2 = true)) ∧
      (let v := VecFields.ofWord (vecW 0xC0 3 1 6 7 0 0)
       v.isArith = true ∧ etypeOf v.etype false = .fp 0 ∧ convertTo v.fs2 = .fp 1 ∧ aligned v.fs1 1 = true ∧ aligned v.fd 1 = true) ∧
      (let v := VecFields.ofWord (vecW 0xC0 3 1 2 5 0 1)
       v.isArith = true ∧ v.grp < 3 ∧ ¬ (v.grp ≠ 0 ∨ bit v.func 1 = true) ∧ widenTypes v.etype = some (.fp 3, .fp 1)) ∧
      (let v := VecFields.ofWord (vecW 0xC0 8 4 16 5 2 0)
       v.isArith = true ∧ v.grp < 3 ∧ hasGrp (.pc 5) v.grp = true ∧ hasGrp (.pc 5) 1 = true ∧ aligned v.fd 8 = true ∧ aligned v.fs1 4 = true ∧
         aligned v.fs2 4 = true ∧ grpOk v.fd 8 v.fs1 4 = true ∧ grpOk v.fd 8 v.fs2 4 = true) ∧
      dotTypes 5 0 = some (.fp 3, .fp 3, 2, .fp 1) ∧ (AluOp.add ∉ [AluOp.and, .or, .xor, .shl, .shr, .sra]) ∧
      ((jumbeState jumbeRegs).jumbe (.tc 3)).loads = [] ∧ ((jumbeState reservedMode).jumbe (.tc 3)).loads = [] ∧
      (jumbeState reservedMode).coreOn (.tc 3) = true ∧ ((jumbeState reservedMode).jumbe (.tc 3)).rmode = none ∧
      hasGrp (.tc 3) (VecFields.ofWord (vecW 0xC0 3 1 2 7 1 0)).grp = false ∧ (VecFields.ofWord (vecW 0xE0 3 1 2 7 0 0)).isArith = false ∧
      isFp8 (etypeOf 4 false) = true ∧ widenTypes 7 = none ∧ dotTypes 5 1 = none ∧ opRounds .add = true ∧ isFpType (etypeOf 7 false) = true := by decide
/-- The example of R229: -2^20 - 2^-3 plus (2^10, 2^10) and (1, 2^-20) is 0xBDFFFF80 in FP32, no flag. -/
theorem test_dot_example :
    dotLane (.fp 3) (.fp 3) (.fp 1) 0 [(0x4480, 0x4480), (0x3F80, 0x3580)] 0xC9800001 = (0xBDFFFF80, Flags.zero) ∧
      dotLane (.fp 3) (.fp 3) (.fp 1) 0 [(0x4480, 0x4480), (0x3F80, 0x3580)] 0xC9800000 = (0x35800000, Flags.zero) := by
  decide +kernel

/-- Witnesses of JumbeControl: an ME and an FE exception pending, none, and a handler. -/
theorem witness_jumbeControl :
    ((jumbeState jumbeRegs).jumbe (.pc 5)).ready (intSources .add 1 2) = true ∧ intResult .add 1 2 2 = some 3 ∧ branchTaken .bne 1 2 = true ∧
      ((jumbeState jumbeRegs).jumbe (.tc 3)).ready (intSources (.readStatus .xaccTerms) 1 2) = true ∧
      (jumbeState { jumbeRegs with pending := [(0x12, 3), (0x10, 1)] }).coreOn (.tc 3) = true ∧
      ((jumbeState { jumbeRegs with pending := [(0x12, 3), (0x10, 1)] }).jumbe (.tc 3)).inHandler = false ∧
      ((jumbeState { jumbeRegs with pending := [(0x12, 3), (0x10, 1)] }).jumbe (.tc 3)).pending ≠ [] ∧
      ((jumbeState jumbeRegs).jumbe (.tc 3)).pending = [] := by decide
/-- R238: ME_FAULT, the lowest code, is taken first. -/
theorem test_exceptionTake :
    (match exec (.exceptionTake (.tc 3)) (jumbeState { jumbeRegs with pending := [(0x12, 3), (0x10, 1)] }) with
     | .next t => ((t.jumbe (.tc 3)).causeCode, (t.jumbe (.tc 3)).causeQueue, (t.jumbe (.tc 3)).pending) | _ => (0, 0, [])) =
      (0x10, 1, [(0x12, 3)]) := by decide

def loadOf (dst : LoadDst) (st : Option Nat) (bytes : List Byte) : PendLoad :=
  { dst := dst, parts := [{ addr := 0, len := bytes.length, req := none, status := st, bytes := bytes }], pc := 0x40 }
def loadingState (dst : LoadDst) (st : Option Nat) (bytes : List Byte) : State := jumbeState { jumbeRegs with loads := [loadOf dst st bytes] }
def postedOf (st : Option Nat) : Posted := { addr := 0, req := some 1, status := st, lines := [] }
/-- The state and the word of an FP64 access at an address in x1. -/
def accessState (va : Word) : State := jumbeState { jumbeRegs with x := [(1, va)] }
def accessW : BitVec 32 := vecW 0xE0 1 1 1 7 0 0
/-- Witnesses of JumbeMemoryAccess: the last access within the scratchpad and one that crosses its end; a scalar at the last word; XSAVE at its
last place and off its boundary; a load whose data is out, has come to each destination, and has failed; posted stores ended and out. -/
theorem witness_jumbeMemory :
    (let s := accessState 0x3FFFF0
     s.coreOn (.tc 3) = true ∧ (VecFields.ofWord accessW).isAccess = true ∧ (VecFields.ofWord accessW).grp = 0 ∧ (s.jumbe (.tc 3)).loads = [] ∧
       (s.jumbe (.tc 3)).inHandler = false ∧ (s.jumbe (.tc 3)).trapPending = false ∧
       ((s.jumbe (.tc 3)).xr (VecFields.ofWord accessW).fs1).toNat + 16 ≤ 0x400000 ∧ s.poisonedIn (padBase 3 + 0x3FFFF0) 16 = false) ∧
      (let s := accessState 0x3FFFF8
       ((s.jumbe (.tc 3)).xr (VecFields.ofWord accessW).fs1).toNat = 0x3FFFF8 ∧ s.poisonedIn (padBase 3 + 0x3FFFF8) 8 = false ∧ s.coreOn (.tc 3) = true) ∧
      (let s := accessState 0x3FFFF8
       (s.jumbe (.tc 3)).ready [.x 1] = true ∧ ((s.jumbe (.tc 3)).xr 1 + 0).toNat + 8 ≤ 0x400000 ∧ (s.jumbe (.tc 3)).ready [.x 2] = true) ∧
      (let s := accessState 0x3FFDE0
       (s.jumbe (.tc 3)).ready [.x 1, .acc] = true ∧ ((s.jumbe (.tc 3)).xr 1).toNat % 32 = 0 ∧ ((s.jumbe (.tc 3)).xr 1).toNat + 544 ≤ 0x400000 ∧
         s.poisonedIn (padBase 3 + 0x3FFDE0) 544 = false) ∧
      ((accessState 0x10).jumbe (.tc 3)).ready [.x 1, .acc] = true ∧ (((accessState 0x10).jumbe (.tc 3)).xr 1).toNat % 32 ≠ 0 ∧
      partsDone (loadOf (.x 4 2 true) none [0, 0]).parts = false ∧
      ((loadingState (.x 4 2 true) none [0, 0]).jumbe (.tc 3)).loads[0]? = some (loadOf (.x 4 2 true) none [0, 0]) ∧
      (∀ d ∈ [LoadDst.x 4 2 true, .elems 8 32 1 4 [8] true, .acc true],
        partsDone (loadOf d (some stDone) [0xFE, 0xFF]).parts = true ∧ faultAt (loadOf d (some stDone) [0xFE, 0xFF]).parts = none) ∧
      (let s := loadingState (.x 4 2 true) (some 0x11) [0, 0]
       partsDone (loadOf (.x 4 2 true) (some 0x11) [0, 0]).parts = true ∧ faultAt (loadOf (.x 4 2 true) (some 0x11) [0, 0]).parts = some 0 ∧
         s.coreOn (.tc 3) = true ∧ (s.jumbe (.tc 3)).inHandler = false ∧ (s.jumbe (.tc 3)).trapPending = false) ∧
      (let s := jumbeState { jumbeRegs with posted := [postedOf (some stDeadTarget)] }
       s.coreOn (.tc 3) = true ∧ (s.jumbe (.tc 3)).loads = [] ∧ ∀ p ∈ (s.jumbe (.tc 3)).posted, p.status ≠ none) ∧
      ((jumbeState { jumbeRegs with posted := [postedOf none] }).jumbe (.tc 3)).posted = [postedOf none] := by decide
/-- R225: an FP64 load at 0x3FFFF8 delivers element 0, faults at element 1. -/
theorem test_vectorFault :
    (match exec (.vectorLoad (.tc 3) accessW) (accessState 0x3FFFF8) with
     | .next t => ((t.jumbe (.tc 3)).trapElem, (t.jumbe (.tc 3)).trapAddr, (t.jumbe (.tc 3)).causeCode, (t.jumbe (.tc 3)).elem 1 64 0,
         (t.jumbe (.tc 3)).elem 1 64 1) | _ => (0, 0, 0, 0, 0)) = (1, 0x400000, 2, 0, 0x3FF0000000000000) := by decide +kernel

/-- The state that a command leads to. -/
def after (c : Instr) (s : State) : State := match exec c s with | .next t => t | _ => s
def solveOp (code : Nat) (started : Bool) : Op :=
  { someOp with desc := leBytes 8 code ++ leBytes 8 0x1000000000 ++ List.replicate 48 0, started := started, progress := 0, witness := 0 }
def wholeSections : List (List Byte) :=
  [[1, 0, 1, 1, 0, 0, 0, 0, 1] ++ List.replicate 15 0 ++ [1] ++ List.replicate 23 0 ++ [3, 0, 0, 0, 0, 0, 0, 0, 1] ++ List.replicate 15 0 ++ [1] ++
    List.replicate 7 0 ++ [1] ++ List.replicate 1967 0, [], [0, 0, 16, 0] ++ List.replicate 252 0, [], [0, 255], [], []]
/-- A solve block of one row: method, preconditioner, engine, flags, member of a group of `count` across packages or not. -/
def solveBlock (method pc sel flags idx count const : Nat) : List Byte :=
  leBytes 1 method ++ leBytes 1 pc ++ leBytes 3 0 ++ leBytes 1 sel ++ leBytes 2 1 ++ leBytes 4 5 ++ leBytes 4 flags ++ leBytes 32 0 ++ leBytes 8 0x1000001000 ++
    leBytes 8 0x1000002000 ++ leBytes 8 0x1000003000 ++ leBytes 8 0x1200010000 ++ leBytes 8 40960 ++ leBytes 8 0x1000004000 ++
    leBytes 8 0 ++ leBytes 8 1 ++ leBytes 16 0 ++ leBytes 2 7 ++ leBytes 2 8 ++ leBytes 2 idx ++ leBytes 2 count ++ leBytes 8 5 ++ leBytes 8 0x1000200000 ++
    leBytes 2 const ++ leBytes 102 0
/-- A block-CSR 4 x 4 object of one row whose one block starts with `a`. -/
def oneMatrix (a : Nat) : List Byte :=
  leBytes 8 0 ++ leBytes 8 1 ++ leBytes 8 1 ++ leBytes 8 64 ++ leBytes 8 80 ++ leBytes 8 88 ++ leBytes 16 0 ++
    leBytes 8 0 ++ leBytes 8 1 ++ leBytes 8 0 ++ leBytes 8 a ++ leBytes 120 0
/-- Bytes at an address, as memory lists them. -/
def cells (a : Nat) (bs : List Byte) : List Host.Cell :=
  (((List.range bs.length).zip bs).map (fun e => (a + e.1, e.2))).filter (fun c => c.2 != 0)
/-- Slot 9 holds an operation, its block stands in LLM memory, the matrix and the right side 2.0 beside it. -/
def solveState (code : Nat) (block : List Byte) (a : Nat) : State :=
  let s := { State.reset with
    togus := { Togus.none with sections := wholeSections }
    mem := cells 0x1000000000 block ++ cells 0x1000001000 (oneMatrix a) ++ [(0x1000002007, 0x40)] }.setOp 9 (some (solveOp code false))
  (((s.fset (R.RMM_RGN_CFG.enable 3) 1).fset (R.RMM_RGN_BASE.base_2m 3) 0x8000).fset (R.RMM_RGN_BASE.size_2m 3) 16)
def one64 : Nat := 0x3FF0000000000000
/-- The same solve on SE0. -/
def solving (block : List Byte) (a : Nat) : State := after (.solveStart 0 9 0) (after (.solve 9) (solveState 0x21 block a))
def plain : List Byte := solveBlock 0 0 255 1 0 1 0xFFFF

def group : List Byte := solveBlock 0 0 0 1 0 2 3
/-- An assembly block with no kind, one that copies the constant 7-point stencil of one node, and one of one element of one node with one
degree of freedom, whose indexes lie in range or not. -/
def emptyAsm : List Byte := List.replicate 128 0
def stencilAsm (at_ : Nat) : List Byte :=
  [1, 2, 1, 7, 0, 0, 1, 0] ++ leBytes 4 1 ++ leBytes 4 1 ++ leBytes 4 1 ++ leBytes 12 0 ++ leBytes 8 at_ ++ leBytes 56 0 ++
    leBytes 8 0x1200003000 ++ leBytes 8 1024 ++ leBytes 8 0x1200003400 ++ leBytes 8 0
def elementAsm : List Byte :=
  [2, 1, 1, 0, 2, 0, 0, 0] ++ leBytes 4 1 ++ leBytes 4 1 ++ leBytes 4 1 ++ leBytes 4 1 ++ leBytes 8 0 ++ leBytes 8 0 ++ leBytes 8 0x1000002000 ++
    leBytes 8 0x1000001000 ++ leBytes 40 0 ++ leBytes 8 0x1000003000 ++ leBytes 8 1024 ++ leBytes 8 0 ++ leBytes 8 0

/-- Witnesses of SolveSubmission for assemblies: one that may start on its free, its busy, or no front stage, its block reachable or not; at the
end a field out of range, an input not reachable, an index out of range, and an assembly that goes through. -/
theorem witness_assembly :
    (let s := solveState 0x20 emptyAsm 0
     s.mayStartOp 9 0x20 = some (solveOp 0x20 false) ∧ s.frontDie 0 = some 0 ∧ s.front 0 = none ∧ s.reachAll (some 0) 0x1000000000 128 = true ∧
       (s.setFront 0 (some 4)).mayStartOp 9 0x20 = some (solveOp 0x20 false) ∧ (s.setFront 0 (some 4)).front 0 = some 4) ∧
      (let s := { State.reset with togus := { Togus.none with sections := partSections } }.setOp 9 (some (solveOp 0x20 false))
       s.mayStartOp 9 0x20 = some (solveOp 0x20 false) ∧ s.frontDie 0 = none) ∧
      (let o := { solveOp 0x20 false with desc := leBytes 8 0x20 ++ leBytes 8 0xFFFFFFFFFF00 ++ List.replicate 48 0 }
       let s := (solveState 0x20 emptyAsm 0).setOp 9 (some o)
       s.mayStartOp 9 0x20 = some o ∧ s.frontDie 0 = some 0 ∧ s.front 0 = none ∧ s.reachAll (some 0) (leAt o.desc 8 8) 128 = false) ∧
      (let s := (solveState 0x20 emptyAsm 0).setFront 0 (some 9)
       s.front 0 = some 9 ∧ (∀ e, e < 0 → s.front e ≠ some 9) ∧ s.op 9 = some (solveOp 0x20 false) ∧ s.paBytes 0x1000000000 128 = emptyAsm) ∧
      assembleBad emptyAsm ≠ none ∧
      (∀ e ∈ [(0xFFFFFFFFFF00, false), (0x1000002000, true)],
        assembleBad (stencilAsm e.1) = none ∧
          (assembleInputs (stencilAsm e.1)).all (fun r => (solveState 0x20 (stencilAsm e.1) 0).reachAll (some 0) r.1 r.2) = e.2) ∧
      (let s := solveState 0x20 elementAsm 0
       assembleBad elementAsm = none ∧ (assembleInputs elementAsm).all (fun r => s.reachAll (some 0) r.1 r.2) = true ∧ s.assembleIndex elementAsm ≠ none) ∧
      (let b := stencilAsm 0x1000002000
       let s := solveState 0x20 b 0
       s.assembleIndex b = none ∧ (s.assembled b).length ≤ leAt b 0x68 8 ∧ s.reachAll (some 0) (leAt b 0x60 8) (s.assembled b).length = true ∧
         s.reachAll (some 0) (leAt b 0x70 8) (s.assembledRhs b).length = true ∧ s.assembledRhs b = [] ∧ llmBase 0 ≤ leAt b 0x60 8 ∧
         leAt b 0x60 8 + (s.assembled b).length ≤ llmBase 64) := by decide +kernel

/-- A block that names an engine of no partition, one whose result lies nowhere, and a group of more members than the partition has engines. -/
def namesSe7 : List Byte := solveBlock 0 0 7 1 0 1 0xFFFF
def badResult : List Byte := putBytes plain 0x58 (leBytes 8 0xFFFFFFFFFF00)
/-- What holds of the validity that SOLVE tests. -/
def solveValid (s : State) (b : List Byte) : Bool :=
  s.matOk (sMatrix b) && blockOk b (blockSize (leAt (s.paBytes (sMatrix b) 64) 0 1)) (s.matRows (sMatrix b)) && s.selectOk 0 b && s.exchangeOk 0 b
/-- Witnesses of SolveSubmission for solves: taken; a place out of reach; a group too large; not valid; started on any engine, and one that names
another. -/
theorem witness_solve :
    (let s := solveState 0x21 plain one64
     s.mayStartOp 9 0x21 = some (solveOp 0x21 false) ∧ s.paBytes 0x1000000000 256 = plain ∧ s.reachAll (some 0) 0x1000000000 256 = true ∧
       s.reachAll (some 0) (sMatrix plain) 64 = true ∧ solveValid s plain = true ∧ s.solveReach 0 plain = true ∧
       ((s.beginOp 9).onOp 9 (fun o => { o with ctrl := plain })).groupTooLarge 0 plain = false) ∧
      (let s := solveState 0x21 badResult one64
       solveValid s badResult = true ∧ s.solveReach 0 badResult = false) ∧
      (let b := solveBlock 0 0 255 1 0 3 0xFFFF
       let s := solveState 0x21 b one64
       solveValid s b = true ∧ s.solveReach 0 b = true ∧ ((s.beginOp 9).onOp 9 (fun o => { o with ctrl := b })).groupTooLarge 0 b = true) ∧
      (let s := solveState 0x21 namesSe7 one64
       solveValid s namesSe7 = false ∧ sSelect namesSe7 < 16 ∧ (s.se 7).solve = none) ∧
      (∀ b ∈ [plain, solveBlock 0 0 0 1 0 1 0xFFFF, solveBlock 0 0 1 1 0 1 0xFFFF],
        (let s0 := (after (.solve 9) (solveState 0x21 b one64)).advance 5
         s0.op 9 = some { solveOp 0x21 true with ctrl := b } ∧ 9 < resumeBase ∧ s0.clocked = true ∧ s0.poison = [] ∧ sPartCount b = 1 ∧
           s0.waitingSolves = [9] ∧ 0 ∈ s0.freeSes 0 ∧ (sSelect b = 0xFF ∨ sSelect b = 0 ∨ sSelect b = 1))) := by decide +kernel

/-- What holds of the solve on SE0. -/
def solveIs (s : State) (f : Solve → Bool) : Bool := match (s.se 0).solve with | some v => f v | none => false
def altered (s : State) (f : Solve → Solve) : State := s.onSolve 0 f
def callbackBlock : List Byte := solveBlock 1 4 255 1 0 1 0xFFFF
/-- How the engine's program goes on. -/
def turn (s0 : State) (v : Solve) : Except Halt (Turn × RunSt) := runSolve (turnRun (s0.sysOf v) (s0.itOf v) v.it) v.answers v.applications

/-- The state that a command on SE0 works from. -/
def seAt (now : Nat) (s : State) : State := (s.advance now).solveClock 0
/-- A solve at its first iteration, with b = 2.0 and x0 = 0. -/
def firstTurn (block : List Byte) : Solve :=
  { slot := 9, part := 0, block := block, phase := 1, x := [0#64], scal := [], fresh := true, best := 0x4000000000000000#64, bestIter := 0,
    thr := 0#64, bNorm := 0x4000000000000000#64, it := 0, applications := 0, firstBoost := none, answers := [], need := none, cbSince := none,
    hashed := false, abortAsked := false, ask := 0, lost := false, stop := 0, stopTime := 0, stopTransit := 0, errs := [], began := 0,
    counted := 0 }
/-- Matrix of one element `a` at 0x1000001000, b = 2.0 at 0x1000002000, x_best = 2.0 in the workspace. -/
def oneMem (a : Nat) : List Host.Cell :=
  ([(0x1000001008, 1), (0x1000001010, 1), (0x1000001018, 0x40), (0x1000001020, 0x50), (0x1000001028, 0x58), (0x1000001048, 1)] : List Host.Cell) ++
    ((List.range 8).map (fun i => (0x1000001058 + i, BitVec.ofNat 8 (a >>> (8 * i))))).filter (fun c => c.2 != 0) ++
    [(0x1000002007, 0x40), (77309485063, 0x40)]
/-- That solve on SE0, for the operation in slot 9. -/
def running (v : Solve) (a : Nat) : State :=
  let s := ({ State.reset with togus := { Togus.none with sections := wholeSections }, mem := oneMem a }.setOp 9 (some (solveOp 0x21 true)))
  ((((s.fset (R.RMM_RGN_CFG.enable 3) 1).fset (R.RMM_RGN_BASE.base_2m 3) 0x8000).fset (R.RMM_RGN_BASE.size_2m 3) 16)).setSe 0
    { s.se 0 with solve := some v }
def turnStops (s : State) (v : Solve) (stop : Nat) : Bool :=
  match turn (seAt 0 s) v with | .ok (r, _) => r.stop == stop | _ => false
def atPhase1 (s : State) (poisoned : Bool) (f : Solve → Bool) : Bool :=
  (seAt 0 s).clocked && solveIs (seAt 0 s) (fun v => v.phase == 1 && v.need.isNone && ((seAt 0 s).solvePoisoned v == poisoned) && f v)
/-- 49.0: the first iteration's residual is not zero. -/
def fp49 : Nat := 0x4048800000000000
/-- A solve on SE0 that waits for a callback, and the beacon that answers it. -/
def cbWait : State := after (.solveIteration 0 0) (running (firstTurn callbackBlock) one64)
def cbDone : State := cbWait.setBeacon 8 { Beacon.reset with assigned := true, value := 1 }
def cbIs (s : State) (done : Bool) : Bool :=
  (seAt 0 s).clocked && solveIs (seAt 0 s) (fun v => v.phase == 1 &&
    (match v.need with | some (.callback _ k) => (seAt 0 s).callbackDone 0 v k == done | _ => false))
/-- Witnesses of SolveRuns, iterations: one that ends the solve, one that goes on with and without an abort asked for, a breakdown, a callback,
a poisoned operand, a callback not answered and answered. -/
theorem witness_iteration :
    (let s := running (firstTurn plain) one64
     atPhase1 s false (fun v => turnStops s v 1 && v.block.length == 256 &&
      decide (llmBase 0 ≤ vecAddr v.block 0 ∧ vecAddr v.block 0 + 8 ≤ llmBase 64)) = true) ∧
      (let s := running (firstTurn plain) fp49
       atPhase1 s false (fun v => turnStops s v 0 && !sDeadlineEn v.block && !v.abortAsked) = true) ∧
      (let s := running { firstTurn plain with abortAsked := true } fp49
       atPhase1 s false (fun v => turnStops s v 0 && !sDeadlineEn v.block && v.abortAsked && sPartCount v.block == 1) = true) ∧
      (let s := running (firstTurn plain) 0
       atPhase1 s false (fun v => match turn (seAt 0 s) v with | .error (.breakdown _ _ _) => true | _ => false) = true) ∧
      (let s := running (firstTurn callbackBlock) one64
       atPhase1 s false (fun v => match turn (seAt 0 s) v with | .error (.need (.callback _ _)) => true | _ => false) = true) ∧
      atPhase1 ((running (firstTurn plain) one64).setPoison 0x1000002000) true (fun _ => true) = true ∧
      cbIs cbWait false = true ∧ cbIs cbDone true = true := by decide +kernel

/-- The solve on SE0 in a phase, with a deadline, of one or of two engines. -/
def timed (phase count idx : Nat) (inCb : Bool) : State :=
  running { firstTurn (solveBlock 0 0 255 3 idx count 0xFFFF) with phase := phase, need := if inCb then some (.callback [] 0) else none } one64
def dueAt (s : State) (f : Solve → Bool) : Bool :=
  solveIs (seAt 0 s) (fun v => sDeadlineEn v.block && decide ((seAt 0 s).fget (R.SLV_DEADLINE.deadline_ns 0) ≤ (seAt 0 s).rackTime) && f v)
/-- A callback wait that began at 0, of a solve of one or of two engines. -/
def since (count : Nat) : State := running { firstTurn (solveBlock 0 0 255 1 0 count 0xFFFF) with cbSince := some 0 } one64
/-- Witnesses of SolveRuns, deadlines and timeouts: due, due in a group, not due; timed out, timed out in a group, not yet. -/
theorem witness_solve_times :
    dueAt (timed 1 1 0 false) (fun v => v.phase == 1 && sPartCount v.block == 1) = true ∧
      (∀ e ∈ [(0, false), (1, true)], dueAt (timed 1 2 e.1 e.2) (fun v => v.phase < 2 && sPartCount v.block != 1 && v.ask == 0 &&
        (sPartIndex v.block == 0 || v.inCallback)) = true) ∧
      (let s := (timed 1 1 0 false).fset (R.SLV_DEADLINE.deadline_ns 0) 50
       solveIs (seAt 0 s) (fun v => sDeadlineEn v.block) = true ∧ (seAt 0 s).rackTime < (seAt 0 s).fget (R.SLV_DEADLINE.deadline_ns 0)) ∧
      (∀ count ∈ [1, 2], solveIs (seAt 100000001 (since count)) (fun v => v.cbSince == some 0 && !sDeadlineEn v.block && v.ask == 0 &&
        (sPartCount v.block == count) && decide (0 + 100000000 < (seAt 100000001 (since count)).clock)) = true) ∧
      (solveIs (seAt 100000000 (since 1)) (fun v => v.cbSince == some 0 && !sDeadlineEn v.block) = true ∧
        (seAt 100000000 (since 1)).clock ≤ 0 + 100000000) := by decide +kernel

/-- A member of a group across packages that waits for a reduction. -/
def member (phase : Nat) (lost : Bool) : Solve :=
  { firstTurn group with phase := phase, need := some (.entry (AccEntry.empty)), lost := lost, hashed := true }
def reducing (v : Solve) : State := running v one64
/-- What holds of the member on SE0 of the state and its operation. -/
def memberIs (s : State) (f : Solve → Bool) : Bool :=
  solveIs s (fun v => f v && (match s.op v.slot with | some o => o.status.isNone | none => false))
theorem bump_ne (h : BitVec 32) : h + 1 ≠ h := by intro e; have := congrArg BitVec.toNat e; simp at this; omega

/-- Witnesses of SolveRuns, reductions: no group; a member lost here or there; one not there yet; shared fields that differ; a decision of
another package; and the entry of the others. -/
theorem witness_reduction :
    memberIs (reducing (firstTurn plain)) (fun v => sPartCount v.block == 1) = true ∧
      memberIs (reducing (member 1 true)) (fun v => sPartCount v.block != 1 && v.atReduction && v.lost) = true ∧
      memberIs (reducing (member 1 false)) (fun v => sPartCount v.block != 1 && v.atReduction && sConst v.block != 0xFFFF && !v.lost) = true ∧
      (let s := (reducing (member 1 false)).setSe 1 { SeState.reset with solve := some (firstTurn group) }
       memberIs s (fun v => sPartCount v.block != 1 && v.atReduction && !v.lost && (s.members v).contains 1) = true ∧
         (s.se 1).solve = some (firstTurn group) ∧ (firstTurn group).atReduction = false) ∧
      (let s := reducing { member 0 false with hashed := false }
       memberIs s (fun v => v.atReduction && !v.lost && !v.hashed && sConst v.block != 0xFFFF && decide (s.members v = [0])) = true) ∧
      (∀ h, h + 1 ≠ Config.solveHash (sharedFields group) ∨ h ≠ Config.solveHash (sharedFields group)) ∧
      (let s := reducing (member 1 false)
       memberIs s (fun v => v.phase == 1 && v.hashed && v.ask == 0 && decide (s.members v = [0]) &&
         decide (v.need = some (.entry AccEntry.empty))) = true) := by
  refine ⟨by decide +kernel, by decide +kernel, by decide +kernel, by decide +kernel, by decide +kernel, ?_, by decide +kernel⟩
  intro h
  by_cases e : h = Config.solveHash (sharedFields group)
  · exact .inl (e ▸ bump_ne h)
  · exact .inr e

/-- The solve on SE0 that returns its x_best, 2.0, whose residual is 0. -/
def returning : State := (running { firstTurn plain with phase := 2, stop := 1, best := 0#64, bestIter := 1, it := 1, x := [0x4000000000000000#64] } one64).write 0x1200011007 [0x40]
def recheckOk (first second : List (Nat × Word)) (f : Word → Word → Word → Bool) : Bool :=
  let s0 := returning.advance 5
  solveIs s0 (fun v =>
    let s1 := s0.copyBest 0 v (sRows v.block) first
    let s2 := s1.copyBest 0 v (sRows v.block) second
    let norm := fun (z : State) (ans : List SolveAns) => runSolve (recheckRun (z.sysOf v) (z.vecAt (sX v.block) (sRows v.block))) ans v.applications
    v.phase == 2 && decide (v.stop ∈ [1, 2, 3, 4, 5, 10]) && decide (0 < sRows v.block) &&
      (match s0.op v.slot with | some o => o.status.isNone && o.reissues == 0 | none => false) && s0.poison.isEmpty && s0.recs.isEmpty && s0.recq.isEmpty &&
      (match norm s1 v.answers, norm s2 [] with
        | .ok (w, m), .ok (w2, m2) => m.cheb.isEmpty && m2.cheb.isEmpty && f v.best w w2
        | _, _ => false))
/-- Witnesses of SolveRuns, the return: the recheck gives the norm, gives it the second time, or never; and the abort of a solve that runs,
returns, or is not there. -/
theorem witness_return :
    recheckOk [] [] (fun b w _ => w == b) = true ∧ recheckOk [(0, 1)] [] (fun b w w2 => w != b && w2 == b) = true ∧
      recheckOk [(0, 1)] [(0, 1)] (fun b w w2 => w != b && w2 != b) = true ∧
      solveIs (running (firstTurn plain) one64) (fun v => v.phase < 2) = true ∧ solveIs returning (fun v => decide (2 ≤ v.phase)) = true ∧
      (State.reset.se 0).solve = none := by decide +kernel

/-- T-core 3 after a run of refused requests of a master. -/
def refusedState (who : Nat) : State :=
  State.reset.setTcore 3 { TCore.reset with refused := [(8 * State.reset.bankOf 3 64 + who, 8)] }
/-- Witnesses of ScratchpadCommands: the exchange region; a word outside it, for which the mesh ranks before the control core, behind the matrix
engine, and first after 8 refusals, or the control core does; poison struck for the first and the second time; a quiet and a busy core; a core
that zeroes its scratchpad. -/
theorem witness_scratchpad :
    State.reset.tcoreUp 3 = true ∧ State.reset.exchange 3 0x3C0000 = true ∧ State.reset.poisonedIn (padBase 3 + 0x3C0000) 8 = false ∧
      State.reset.exchange 3 64 = false ∧ State.reset.poisonedIn (padBase 3 + 64) 8 = false ∧
      State.reset.padRank 3 64 (padMasterNum .me) ≤ State.reset.padRank 3 64 4 ∧
      State.reset.padRank 3 64 4 < State.reset.padRank 3 64 (padMasterNum .core) ∧
      (let s := refusedState 4
       8 ≤ assocGet (fun _ => 0) (s.tcore 3).refused (8 * s.bankOf 3 64 + 4) ∧ assocGet (fun _ => 0) (s.tcore 3).refused (8 * s.bankOf 3 64 + 0) < 8) ∧
      (let s := refusedState (padMasterNum .core)
       8 ≤ assocGet (fun _ => 0) (s.tcore 3).refused (8 * s.bankOf 3 64 + padMasterNum .core)) ∧
      State.reset.poison.contains ((padBase 3 + 64) / 8) = false ∧ State.reset.reports.length < 63 ∧
      (State.reset.recorded 3).contains ((padBase 3 + 64) / 8) = false ∧
      ((State.reset.setRecorded 3 [(padBase 3 + 64) / 8]).recorded 3).contains ((padBase 3 + 64) / 8) = true ∧
      State.reset.recs = [] ∧ State.reset.recq = [] ∧ State.reset.weak.contains ((padBase 3 + 64) / 8) = false ∧
      State.reset.compat 3 = false ∧ (State.reset.tcore 3).me.queue = [] ∧ (State.reset.tcore 3).ve.queue = [] ∧ (State.reset.tcore 3).fe.queue = [] ∧
      (State.reset.tcore 3).me.entries = [] ∧ ((pushState 1).tcore 3).me.queue ≠ [] ∧
      ((State.reset.onCore 3 (fun t => { t with zeroing := true })).tcore 3).zeroing = true := by decide +kernel
/-- R276: two writes to one word leave port B's data. -/
theorem test_ports :
    (match exec (.meshScratchpadAccess 3 0x3C0000 .fe (.write 1) (.write 2)) State.reset with
     | .next t => (t.padBytes 3 0x3C0000 8, t.fget (R.TC_SP_STATUS.busy_a 3)) | _ => ([], 0)) = ([2, 0, 0, 0, 0, 0, 0, 0], 1) := by decide +kernel

/-- A descriptor of one row between scratchpad offset 0x80 and LLM unit 0. -/
def moveDesc (op dir : Nat) (row : Nat) : List Byte :=
  leBytes 1 op ++ leBytes 1 dir ++ leBytes 2 0 ++ leBytes 4 1 ++ leBytes 4 row ++ leBytes 4 0x80 ++ leBytes 4 64 ++ leBytes 4 0x100 ++
    leBytes 8 0x1200000000 ++ leBytes 8 64 ++ leBytes 24 0
/-- T-core 3 with FEXEC of a descriptor at offset 0, or with a transfer. -/
def feState (d : List Byte) (x : Option Xfer) : State :=
  (({ State.reset with togus := { Togus.none with sections := wholeSections } }.setTcore 3
    { TCore.reset with fe := { FeState.reset with queue := [0x10], xfer := x } }).write (padBase 3) d)
def aXfer (committed issued total : Nat) (dir : Nat) (l : List (Nat × ElemSt)) : Xfer :=
  { desc := moveDesc 1 dir 64, core := 3, total := total, issued := issued, committed := committed, inFlight := l, crc := 2 ^ 64 - 1 }
/-- Witnesses of Transfers: descriptors in and out of range, of the fetch engine and of a ring operation, of a partition with cores and without;
poisoned; a row of LLM memory that is reached. -/
theorem witness_transfers :
    (∀ e ∈ [(1, 64), (2, 64), (3, 64), (1, 0)], let d := moveDesc e.1 0 e.2
      (feState d none).atHead 3 .fe 0x10 = some 0x10 ∧ (feState d none).padBytes 3 (q0 0x10 8 22) 64 = d ∧ dOp d = e.1 ∧
      (feState d none).poisonedIn (padBase 3 + q0 0x10 8 22) 64 = false ∧ (feState d none).xferOf (.fe 3) = none ∧
      (dFieldsOk false d && (feState d none).extentsOk 3 d) = decide (e.2 = 64)) ∧
    (let d := moveDesc 1 0 64; let s := feState d none
     dDir d = 0 ∧ dSpace d = 0 ∧ s.poison = [] ∧ dRows d = 1 ∧ dInto d = true ∧
       s.reachAll (s.reachOf (.fe 3)).part (dExtAddr d % 2 ^ 64) (dRowBytes d) = true) ∧
    (feState (moveDesc 1 0 64) none |>.setPoison (padBase 3)).poisonedIn (padBase 3 + q0 0x10 8 22) 64 = true ∧
    (let o := { solveOp 1 false with desc := moveDesc 1 0 64 }
     let s := (feState [] none).setOp 9 (some o)
     s.mayStartOp 9 1 = some o ∧ s.partTcores 0 = [0, 1, 2, 3] ∧ dFieldsOk true o.desc = true ∧
       (∀ c ∈ [0, 1, 2, 3], s.extentsOk c o.desc = true) ∧ dFieldsOk true (moveDesc 1 0 0) = false) ∧
    (let o := { solveOp 1 false with desc := moveDesc 1 0 64, partition := 1 }
     let s := (feState [] none).setOp 9 (some o)
     s.mayStartOp 9 1 = some o ∧ s.partTcores o.partition = []) := by decide +kernel
/-- The state of T-core 3 with that transfer, or of a ring operation with it. -/
def fe (x : Xfer) : State := feState [] (some x)
def opXfer (x : Xfer) : State := State.reset.setOp 9 (some { solveOp 1 true with xfer := some x })
/-- Witnesses of Transfers, elements and ends: waiting; the last row come; a row before the one due; complete; faulted; more to come. -/
theorem witness_transferEnds :
    (∀ x ∈ [aXfer 0 1 1 0 [(0, .waiting 1 [])], aXfer 0 1 1 0 [(0, .arrived [7])], aXfer 0 2 2 0 [(0, .waiting 1 []), (1, .arrived [7])],
        aXfer 1 1 1 0 [], aXfer 0 1 1 1 [(0, .faulted 0x11)], aXfer 0 1 1 0 []],
      (fe x).xferOf (.fe 3) = some x ∧ (fe x).xferOf (.op 9) = none ∧ (opXfer x).xferOf (.op 9) = some x ∧ dSpace x.desc ≠ 2 ∧
        dWiden x.desc = false ∧ bit (dBeacon x.desc) 15 = false ∧ x.core = 3) ∧
      (aXfer 0 1 1 1 [(0, .faulted 0x11)]).firstBad = some (0, 0x11) ∧ dInto (aXfer 0 1 1 1 []).desc = false ∧
      dInto (aXfer 0 1 1 0 []).desc = true ∧ (aXfer 0 1 1 0 [(0, .faulted 0x11)]).firstBad = some (0, 0x11) ∧
      (aXfer 0 1 1 0 []).firstBad = none ∧ (solveOp 1 true).status = none := by decide +kernel
/-- The example of R288: element 4 of 16 faults, 5 to 15 are acknowledged: landed_mask 0x07FF. -/
theorem test_landed_example :
    let x := aXfer 4 16 16 1 ((4, .faulted 0x11) :: (List.range 11).map (fun i => (5 + i, .acked [])))
    x.landed 4 = 0x07FF ∧ x.firstBad = some (4, 0x11) := by decide

/-- A state with an entry of M0's write-combining buffer. -/
def wcbState (line : Nat) : State := State.reset.setWcbOf 0 [{ line := line, mask := [], data := [] }]
/-- Witnesses of LastLevelMemory: a line of LLM unit 0; a core that reads; an entry of M0's buffer, of no other line, and of a line of a channel
that no cache unit takes; a slice that writes back; a word that has no poison. -/
theorem witness_lastLevel :
    lineHome (llmBase 0 / 64) = some 0 ∧ State.reset.pcoreUp 5 = true ∧
      (∃ e ∈ (wcbState 77).wcbOf 0, e.line = 77) ∧ (∀ e ∈ (wcbState 77).wcbOf 0, e.line ≠ 78) ∧
      (let l := gddrKey 5 64 / 64
       (∃ e ∈ (wcbState l).wcbOf 0, e.line = l) ∧ locOfLine l = some (.gddr 5 64) ∧ (wcbState l).cacheable (.gddr 5 64) = false ∧
         ((wcbState l).dirLine l).owner = none ∧ ((wcbState l).chan 5).wq.length < 64) ∧
      (State.reset.fset (R.LLM_STATUS.wb_busy 0) 1).fon (R.LLM_STATUS.wb_busy 0) = true ∧ State.reset.llmUp 0 = true ∧
      State.reset.poison.contains ((llmBase 0 + 8) / 8) = false ∧ State.reset.reports.length < 64 := by decide +kernel

/-- Channel 5 in a state with queues; a latency-critical and a bulk read wait. -/
def chanState (st : Nat) (c : Channel) : State := (State.reset.fset (R.GDM_CH_STATUS.state 5) st).setChan 5 c
def twoReads (low : Nat) : Channel := { Channel.reset with rq := [{ line := 1, cls := 2 }, { line := 2, cls := 1 }], sinceLow := low }
/-- Witnesses of BoardMemory: a channel that trains; one with reads, with 15 slots since a lesser read, in its writes, and with nothing; transfers
that failed before; retries up to the threshold; a retrain taken, turned away and queued; retrains that failed before or not. -/
theorem witness_boardMemory :
    chState (chanState 1 Channel.reset) 5 = 1 ∧ chState (chanState 2 (twoReads 0)) 5 = 2 ∧ ((chanState 2 (twoReads 0)).chan 5).selfRefresh = false ∧
      ((chanState 2 (twoReads 0)).chan 5) = twoReads 0 ∧ (∀ q ∈ (twoReads 0).rq, q.cls ≤ 2) ∧ (twoReads 0).writing = false ∧
      readsEnd (twoReads 0) 32 48 = false ∧ (∃ q ∈ (twoReads 15).rq, q.cls ≠ 1) ∧ 15 ≤ (twoReads 15).sinceLow ∧
      writesEnd { Channel.reset with writing := true, wq := [{ line := 1, cls := 0 }] } 32 = false ∧
      chState ((chanState 2 Channel.reset).advance 5) 5 = 2 ∧ (((chanState 2 Channel.reset).advance 5).chan 5).attempts < 3 ∧
      1 < (chanState 2 Channel.reset).fget (R.GDM_CH_CTL.crc_retrain_thr 5) ∧
      (let s := (chanState 2 Channel.reset).fset (R.GDM_CH_CTL.crc_retrain_thr 5) 1
       s.fget (R.GDM_CH_CTL.crc_retrain_thr 5) ≤ [(s.advance 5).clock].length ∧ chState (s.advance 5) 5 = 2) ∧
      (((chanState 2 { Channel.reset with attempts := 3 }).advance 5).chan 5).attempts = 3 ∧
      ((chanState 2 Channel.reset).mntDecide 1 5 ((chanState 2 Channel.reset).mntCondition 1 5)).1 = stDone ∧
      (let s := (chanState 2 Channel.reset).mntTake 0 1 5 0
       chState s 5 = 2 ∧ (s.mntDecide 1 5 (s.mntCondition 1 5)).1 ≠ stDone) ∧
      chState ((chanState 3 Channel.reset).advance 5) 5 = 3 ∧ (chanState 2 Channel.reset).chanTrained 5 = true ∧
      (((chanState 3 { Channel.reset with retrainQueued := true, failTimes := [0] }).advance 5).chan 5).retrainQueued = true ∧
      ((chanState 3 { Channel.reset with failTimes := [0] }).advance 5).clock < 0 + 1000000000 := by decide +kernel

/-- Map entry 5 of the example of R306: 64 GiB at unit 32768 on G40 to G47 in 4 KiB granules, chan_base 16. -/
def mapState : State :=
  ((((State.reset.fset (R.GDM_MAP_BASE.base_2m 5) 32768).fset (R.GDM_MAP_BASE.size_2m 5) 64).fset
    (R.GDM_MAP_CHAN.channel_mask 5) (0xFF * 2 ^ 40)).fset (R.GDM_MAP_CBASE.chan_base_2m 5) 16).fset (R.GDM_MAP_CTL.interleave 5) 1
def mapOn : State := mapState.fset (R.GDM_MAP_CTL.enable 5) 1
/-- A state whose channel 0 is trained. -/
def trained0 : State :=
  ({ State.reset with togus := { Togus.none with sections := wholeSections } }.fset (R.GDM_CH_STATUS.state 0) 2).fset (R.GDM_CH_STATUS.usable_mib 0) 1920
/-- Witnesses of BoardAddressing, addresses: an entry of one trained channel of partition 0 is valid, entry 5 of the example is not; an address
of entry 5 in no lower one; a line with no poison, and one whose word has a single error. -/
theorem witness_boardAddressing :
    (let s := (trained0.fset (R.GDM_MAP_CHAN.channel_mask 7) 1).fset (R.GDM_MAP_BASE.size_2m 7) 4
     (s.fset (R.GDM_MAP_CTL.interleave 7) (getField (1 : Word) 1 2)).mapValid 7 = true ∧ s.fget (R.GDM_MAP_CTL.enable 7) = 0 ∧
       s.chanTrained 0 = true ∧ 64 < s.fget (R.GDM_CH_STATUS.usable_mib 0) * 0x100000) ∧
    (mapState.fset (R.GDM_MAP_CTL.interleave 5) (getField (3 : Word) 1 2)).mapValid 5 = false ∧
    mapOn.fget (R.GDM_MAP_CTL.enable 5) = 1 ∧ getField (1 : Word) 0 1 = 1 ∧ getField (2 : Word) 0 1 = 0 ∧
    (∀ q, q < 5 → mapOn.mapCovers (gddrBase + 32768 * 0x200000 + 0x35040) q = false) ∧
    0x35040 < mapOn.fget (R.GDM_MAP_BASE.size_2m 5) * 0x200000 ∧ trained0.reports.length < 64 ∧ trained0.poison = [] ∧ trained0.weak = [] ∧
    ({ trained0 with weak := [gddrKey 0 64 / 8] }).weak.contains (gddrKey 0 64 / 8) = true := by decide +kernel
/-- Witnesses of BoardAddressing, heat: an M-die not hot, one that has been cool for 10 ms. -/
theorem witness_heat :
    let s : State := { State.reset with nwt := { State.reset.nwt with mCool := [(2, some 0)] } }
    let s1 := after (.tempPoll 0 2 96 0) State.reset
    (State.reset.advance 5).mHot 2 = false ∧ s1.mHot 2 = true ∧ (s.setHot 2 true).mHot 2 = true ∧
      assocGet (fun _ => (none : Option Nat)) ((s.setHot 2 true).advance 20000000).nwt.mCool 2 = some 0 ∧ 0 + 10000000 ≤ (s.advance 20000000).clock := by
  decide +kernel
/-- The example of R306: 0x0110_0003_5040 lies on G45 at 0x200_6040 (its base is 0x0110_0000_0000 as entry 5 gives it). -/
theorem test_map_example : mapOn.locOf (gddrBase + 32768 * 0x200000 + 0x35040) = some (.gddr 45 0x2006040) := by decide +kernel

/-- Region 7 of 2 MiB in LLM unit 0, of class `cls`, at its key. -/
def rgnState (cls : Nat) : State :=
  let s := ({ State.reset with togus := { Togus.none with sections := wholeSections } }.fset (R.RMM_RGN_CFG.enable 7) 1).fset (R.RMM_RGN_CFG.backing 7) 1
  ((((s.fset (R.RMM_RGN_CFG.cls 7) cls).fset (R.RMM_RGN_BASE.base_2m 7) 0x9000).fset (R.RMM_RGN_BASE.size_2m 7) 1).fset
    (R.RMM_RGN_KEY.key 7) 0xABCD).fset R.RMM_STATUS.twilight 0
def aReq (off len transit : Nat) : RackReq :=
  { src := 9, who := .tcore 3, id := 77, desc := 7, off := off, len := len, key := 0xABCD, transit := transit, service := false, authed := true }
def lineEntry (tag : Nat) : EpochEntry :=
  { line := (llmBase 0 + 0x48) / 64, mask := List.replicate 64 true, data := List.replicate 64 5, tag := tag }
/-- Witnesses of RackAccess: 8 B at offset 0x48, in line 1 of unit 0, with and without poison, at the key, at an old key, in twilight, refused, and
beyond the region; unpublished and published entries of the line; a region that is off, and one not in memory. -/
theorem witness_rackAccess :
    (∀ cls ∈ [0, 1], let s := rgnState cls
      s.fget (R.RMM_RGN_CFG.enable 7) = 1 ∧ s.fget (R.RMM_STATUS.twilight) = 0 ∧ s.blockedSrc 9 = false ∧
        s.fget (R.RMM_RGN_KEY.key 7) = 0xABCD ∧ s.fget (R.RMM_RGN_BASE.size_2m 7) * 0x200000 = 0x200000 ∧
        s.fget (R.RMM_RGN_CFG.backing 7) = 1 ∧ s.fget (R.RMM_RGN_CFG.cls 7) = cls ∧ s.rgnLoc 7 0x48 = some (.llm 0 0x48) ∧
        s.poisonAt (.llm 0 0x48) 8 = false ∧ s.homeT 0 = 0 ∧ s.ewtOf 0 = [] ∧ s.oldKeys = [] ∧ s.reports.length < 64 ∧
        (s.setPoison (llmBase 0 + 0x48)).poisonAt (.llm 0 0x48) 8 = true) ∧
    (let s := { (rgnState 0).fset (R.RMM_RGN_KEY.key 7) 1 with oldKeys := [(7, 0xABCD, 5)] }
     (∃ e ∈ s.oldKeys, e.1 = 7 ∧ e.2.1 = 0xABCD ∧ s.fget R.TRN_NUMBER.transit ≤ e.2.2) ∧ s.fget (R.RMM_RGN_KEY.key 7) ≠ 0xABCD) ∧
    ((rgnState 0).fset R.RMM_STATUS.twilight 1).fget R.RMM_STATUS.twilight = 1 ∧ State.reset.fget (R.RMM_RGN_CFG.enable 7) = 0 ∧
    (let s := (rgnState 1).setEwtOf 0 [lineEntry 0]
     let s1 : State := { s with homeTransit := [(0, 1)] }
     s.homeT 0 = 0 ∧ (∃ e ∈ s.ewtOf 0, e.line = (Loc.llm 0 0x48).line ∧ e.tag = s.homeT 0) ∧ s1.homeT 0 = 1 ∧
       (s1.ewtOf 0).filter (fun x => x.line == (Loc.llm 0 0x48).line && decide (x.tag < 1)) = [lineEntry 0]) := by decide +kernel
/-- The table of M-die 0 where one is listed alone. -/
theorem ewtOf_alone (s : State) (l : List EpochEntry) (h : s.ewt = [(0, l)]) : s.ewtOf 0 = l := by
  simp [State.ewtOf, h, assocGet]
def zeroEntry : EpochEntry := { line := 0, mask := [], data := [], tag := 0 }
/-- A table full of unpublished entries of line 0, which the request's line is not. -/
theorem witness_fullTable (n : Nat) :
    let s := { rgnState 1 with ewt := [(0, List.replicate n zeroEntry)] }
    n ≤ (s.ewtOf 0).length ∧ (∀ e ∈ s.ewtOf 0, s.homeT 0 ≤ e.tag ∧ (e.line = (Loc.llm 0 0x48).line → e.tag ≠ s.homeT 0)) := by
  intro s
  rw [ewtOf_alone s _ rfl]
  have h1 : s.homeT 0 = 0 := rfl
  rw [h1]
  refine ⟨by simp, fun e he => ?_⟩
  have h : e = zeroEntry := List.eq_of_mem_replicate he
  subst h
  exact ⟨Nat.zero_le _, fun h => absurd h (by decide)⟩
/-- R331: a write at transit 0 is seen by a read that carries transit 1, not by one that carries 0. -/
theorem test_epoch :
    (match exec (.epochWrite (aReq 0x48 1 0) [9]) (rgnState 1) with
     | .next t =>
       (match exec (.epochRead (aReq 0x48 1 0)) t, exec (.epochRead (aReq 0x48 1 1)) t with
        | .next a, .next b => (a.out.take 1, b.out.take 1) | _, _ => ([], []))
     | _ => ([], [])) = ([.rackResp 9 77 0 [0] 0], [.rackResp 9 77 0 [9] 0]) := by decide +kernel

/-- Witnesses of RackAtomics beside those of RackAccess: sizes, alignment, and a region of class 1. -/
theorem witness_rackAtomics :
    (let s := rgnState 0
     s.rgnLoc 7 0x48 = some (.llm 0 0x48) ∧ s.poisonAt (.llm 0 0x48) 4 = false ∧ (s.setPoison (llmBase 0 + 0x48)).poisonAt (.llm 0 0x48) 4 = true ∧
       s.fget (R.RMM_RGN_CFG.cls 7) = 0 ∧ s.fget (R.RMM_RGN_KEY.key 7) = 0xABCD ∧ s.fget (R.RMM_RGN_CFG.backing 7) ≠ 2 ∧ s.blockedSrc 9 = false) ∧
    (rgnState 1).fget (R.RMM_RGN_CFG.cls 7) = 1 ∧ 0x48 % 8 = 0 ∧ 0x48 % 4 = 0 ∧ 0x4C % 8 ≠ 0 ∧ 2 ∉ [4, 8] := by decide +kernel
/-- MAX signed of -1 and 3 gives 3; unsigned keeps -1; CAS of another value changes nothing. -/
theorem test_atomics :
    let s := (rgnState 0).write (llmBase 0 + 0x48) [255, 255, 255, 255]
    let got := fun (c : Instr) => match exec c s with | .next t => (t.bytes (llmBase 0 + 0x48) 4, t.out.take 1) | _ => ([], [])
    got (.max (aReq 0x48 4 0) 0x09 3 0) = ([3, 0, 0, 0], [.rackResp 9 77 0 [] 0]) ∧
      got (.maxUnsigned (aReq 0x48 4 0) 0x8B 3 0) = ([255, 255, 255, 255], [.rackResp 9 77 0 [255, 255, 255, 255] 0]) ∧
      got (.cas (aReq 0x48 4 0) 0x08 3 1) = ([255, 255, 255, 255], [.rackResp 9 77 0 [255, 255, 255, 255] 0]) := by decide +kernel

/-- The command of T-core 3's atomic port: a fetch ADD of `size` bytes at region 7 offset 0x48 of LDN `ldn`. -/
def portCmdOf (size ldn : Nat) : List Byte :=
  leBytes 1 0x81 ++ leBytes 1 size ++ leBytes 6 0 ++ leBytes 8 (ldn * 2 ^ 56 + 7 * 2 ^ 44 + 0x48) ++ leBytes 8 5 ++ leBytes 8 0
/-- LDN 4; outbound entries (4, 7) and (9, 7) valid for partition 0; LDN 9 lies one link away over port 5, in a state. -/
def portState (size ldn twilight port rate : Nat) : State :=
  let s := ((((rgnState 0).fset R.SCP_ID.ldn 4).fset R.RMM_STATUS.twilight twilight).fset (R.SCP_PORT_STATUS.state 5) port).fset R.SCP_RATE.rate_gbs rate |>.fset R.SCP_RATE.burst_kib 0
  let e := BitVec.ofNat 128 (0xABCD + 2 ^ 64 + 20 * 2 ^ 66 + 2 ^ 75)
  (((s.setOktOf (4 * 4096 + 7) e).setOktOf (9 * 4096 + 7) e).setRoute 9 (BitVec.ofNat 128 (5 + 256))).onJumbe (.tc 3)
    (fun j => { j with portCmd := portCmdOf size ldn })
def portAsk (s : State) : Ask :=
  let c := (s.jumbe (.tc 3)).portCmd.take 0x18 ++ leBytes 8 0
  askAt (acAddr c) (acSize c) (if atomicFetch (acOp c) then 3 else 2) (s.partOfCoreId (.tc 3)) (some (.tc 3)) none c
/-- The source of a port's command ends with a status. -/
def portEnds (s : State) (st : Nat) : Bool :=
  s.coreOn (.tc 3) && !(s.jumbe (.tc 3)).portBusy && acOk (portCmdOf (acSize (s.jumbe (.tc 3)).portCmd) 4) && (s.sourceStatus (portAsk s) == st) &&
    s.reqs.isEmpty && decide (s.reports.length < 64)
def outReq (kind : Nat) (q : Bool) : RackOut :=
  { dst := 4, desc := 7, off := 0x48, kind := kind, len := 8, core := some (.tc 3), mover := none, cands := [], epoch := false, issuedIn := 0, partition := 0,
    timeoutUs := 20, querying := q }
/-- A shaper with no burst holds all remote traffic back. -/
theorem witness_shaped (n : Nat) (h : 0 < n) : (portState 8 9 0 5 1).shaped 9 n = none := by
  have h1 : (portState 8 9 0 5 1).fget R.SCP_RATE.rate_gbs = 1 ∧ (portState 8 9 0 5 1).fget R.SCP_RATE.burst_kib = 0 ∧
      (portState 8 9 0 5 1).ownLdn 9 = false := by decide +kernel
  simp [State.shaped, h1, Bucket.take]
  omega
/-- Witnesses of RackSources: commands that end with each status, one malformed, one for a package that is not shaped, one that is; requests of
each kind, queried and not; a port that waits. -/
theorem witness_rackSources :
    portEnds (portState 8 200 0 5 0) 0x11 = true ∧ portEnds (portState 8 4 1 5 0) 0x12 = true ∧ portEnds (portState 8 9 0 0 0) 0x13 = true ∧
    portEnds (portState 8 4 0 5 0) 0 = true ∧ portEnds (portState 8 9 0 5 1) 0 = true ∧ acOk (portCmdOf 3 4) = false ∧
    (∀ n, (portState 8 4 0 5 0).shaped 4 n ≠ none) ∧
    (∀ k ∈ [0, 1, 2, 3, 4], ((portState 8 4 0 5 0).setReq 5 (some (outReq k false))).req 5 = some (outReq k false)) ∧
    ((portState 8 4 0 5 0).setReq 5 (some (outReq 0 true))).req 5 = some (outReq 0 true) ∧ State.reset.req 5 = none ∧
    (let s := ((portState 8 4 0 5 0).onJumbe (.tc 3) (fun j => { j with portBusy := true }))
     (s.jumbe (.tc 3)).portBusy = true ∧ s.coreOn (.tc 3) = true) := by
  refine ⟨by decide +kernel, by decide +kernel, by decide +kernel, by decide +kernel, by decide +kernel, by decide, ?_, by decide +kernel,
    by decide +kernel, by decide, by decide +kernel⟩
  intro n
  have h : (portState 8 4 0 5 0).fget R.SCP_RATE.rate_gbs = 0 := by decide +kernel
  simp [State.shaped, h]
@[irreducible] def lateState : State := (State.reset.fset (R.RMM_RGN_CFG.timeout_us 7) 20).advance 1000000
theorem witness_rackLate : ¬ lateState.clock ≤ assocGet (fun _ => 0) lateState.homeLast 0 + 1000 * lateState.fget (R.RMM_RGN_CFG.timeout_us 7) ∧
    (∀ n, n < 64 → lateState.fget (R.SCP_PORT_STATUS.version n) ≠ 3) ∧ lateState.homeT 0 = 0 := by decide +kernel
/-- The late state with a table of `n` unpublished entries: neither recent nor idle for `n` = 65536. -/
def stalledState (n : Nat) : State := { lateState with ewt := [(0, List.replicate n zeroEntry)] }
theorem witness_stalled (n : Nat) :
    (stalledState n).clock = lateState.clock ∧ (stalledState n).homeLast = lateState.homeLast ∧ (stalledState n).regs = lateState.regs ∧
      ¬ (((stalledState n).ewtOf 0).length < n ∨ ∃ e ∈ (stalledState n).ewtOf 0, e.tag < (stalledState n).homeT 0) := by
  have h1 : (stalledState n).homeT 0 = 0 := witness_rackLate.2.2
  refine ⟨rfl, rfl, rfl, ?_⟩
  rw [h1, ewtOf_alone (stalledState n) _ rfl]
  simp

/-- Region 7 disabled at its unit, and region 9 over it; a mapped window of the whole in no memory. -/
def offState : State := (rgnState 0).fset (R.RMM_RGN_CFG.enable 7) 0
def twoState : State :=
  (((rgnState 0).fset (R.RMM_RGN_CFG.backing 9) 1).fset (R.RMM_RGN_BASE.base_2m 9) 0x9000).fset (R.RMM_RGN_BASE.size_2m 9) 1
/-- Witnesses of RackRegisters: the enable bit, class, backing and timeout of values; commits early and late. -/
theorem witness_rackRegisters :
    (offState.fget (R.RMM_RGN_CFG.enable 7) = 0 ∧ getField (5 : Word) 0 1 = 1 ∧ getField (5 : Word) 1 1 = offState.fget (R.RMM_RGN_CFG.cls 7) ∧
       getField (5 : Word) 2 2 = offState.fget (R.RMM_RGN_CFG.backing 7)) ∧
    (twoState.fget (R.RMM_RGN_CFG.enable 9) = 0 ∧ twoState.fget (R.RMM_RGN_CFG.enable 7) = 1 ∧ twoState.fget (R.RMM_RGN_CFG.backing 7) < 2 ∧
       twoState.fget (R.RMM_RGN_CFG.backing 9) < 2 ∧ 0 < twoState.fget (R.RMM_RGN_BASE.size_2m 7) ∧
       twoState.fget (R.RMM_RGN_BASE.base_2m 9) < twoState.fget (R.RMM_RGN_BASE.base_2m 7) + twoState.fget (R.RMM_RGN_BASE.size_2m 7) ∧
       twoState.fget (R.RMM_RGN_BASE.base_2m 7) < twoState.fget (R.RMM_RGN_BASE.base_2m 9) + twoState.fget (R.RMM_RGN_BASE.size_2m 9)) ∧
    (let s := (offState.fset (R.RMM_RGN_CFG.backing 7) 2).fset (R.RMM_RGN_CFG.cls 7) 1
     s.fget (R.RMM_RGN_CFG.backing 7) = 2 ∧ s.fget (R.RMM_RGN_CFG.cls 7) = 1 ∧ getField (11 : Word) 1 1 = 1 ∧ getField (11 : Word) 2 2 = 2 ∧
       getField (11 : Word) 0 1 = 1) ∧
    getField (4 : Word) 0 1 = 0 ∧ getField (0x40000 : Word) 16 9 = 4 ∧ (rgnState 0).fget (R.RMM_RGN_CFG.enable 7) = 1 ∧
    (State.reset.fset R.RMM_KEY_AT.at_transit 9).fget R.RMM_KEY_AT.at_transit = 9 ∧ State.reset.fget R.TRN_NUMBER.transit = 0 ∧
    State.reset.fget R.RMM_OKT_ADDR.ldn = 0 ∧ State.reset.reports.length < 64 := by decide +kernel
theorem witness_valid : offState.rgnValid 7 = true := by
  have h0 : offState.partOfDesc 7 = some 0 ∧ offState.backingOk 7 0 = true ∧ 1 ≤ offState.fget (R.RMM_RGN_BASE.size_2m 7) ∧
      offState.fget (R.RMM_RGN_BASE.size_2m 7) ≤ 184320 := by decide +kernel
  have hk : ∀ e ∈ offState.regs, e.1 = A.RMM_RGN_CFG 7 ∨ e.1 < 0x148000 ∨ 0x168000 ≤ e.1 ∨ e.1 % 32 ≠ 0 := by decide +kernel
  have hf : offState.backingFree 7 0 = true := by
    refine List.all_eq_true.2 (fun e he => ?_)
    by_cases h7 : e = 7
    · simp [h7]
    · have hoff : offState.rgnOn e = false := by
        have := rgnCfg_unlisted offState e (List.mem_range.1 he) (fun x hx hc => by
          have := hk x hx
          have := List.mem_range.1 he
          simp only [hc, A.RMM_RGN_CFG] at *
          omega)
        simp [State.rgnOn, State.fon, this]
      simp [hoff]
  simp [State.rgnValid, h0, hf]
theorem witness_invalid : twoState.backingFree 9 0 = false := by
  refine List.all_eq_false.2 ⟨7, by simp, ?_⟩
  decide +kernel
theorem witness_refused : twoState.rgnValid 9 = false := by
  have h : twoState.partOfDesc 9 = some 0 := by decide +kernel
  simp [State.rgnValid, h, witness_invalid]

/-- Port 5 in a state, on wavelengths `lam`, its link as given, past self-test. -/
def portAt (st lam : Nat) (l : Link) : State :=
  (((State.reset.fset (R.SCP_PORT_STATUS.state 5) st).fset (R.SCP_PORT_STATUS.lambda_up 5) lam).reach_ 3).setLink (linkKey 5 0) l
def aPeer (lo hi : Nat) : PeerInfo :=
  { verLow := lo, verHigh := hi, rack := 1, slot := 2, port := 3, ldn := 9, serial := 77, encEn := false, delayNs := 100,
    cred := [4, 40, 64, 32, 64, 16, 4, 32] }
/-- Witnesses of PortStates. -/
theorem witness_portStates :
    (∀ st ∈ [0, 1, 2, 3, 4, 5, 6, 7, 8, 9, 10, 11, 12, 13], (portAt st 15 Link.reset).fget (R.SCP_PORT_STATUS.state 5) = st) ∧
      (portAt 1 0 Link.reset).fget (R.SCP_PORT_CTL.split 5) = 0 ∧ (portAt 1 0 Link.reset).portWorks 5 = true ∧
      (portAt 1 0 Link.reset).milestone 3 = true ∧ 5 / 8 ∉ (portAt 1 0 Link.reset).pins.laserLost ∧
      (portAt 3 15 Link.reset).mapsTo 9 = [] ∧ ¬ Nat.max 3 (aPeer 5 6).verLow ≤ Nat.min 4 (aPeer 5 6).verHigh ∧
      Nat.max 3 (aPeer 3 4).verLow ≤ Nat.min 4 (aPeer 3 4).verHigh ∧
      (portAt 6 3 Link.reset).fget (R.SCP_PORT_STATUS.lambda_up 5) = 3 ∧ bit 3 1 = true ∧ 7 % 4 = 3 ∧ 7 % 16 ≠ 15 ∧ 5 % 4 ≠ 3 ∧ 5 / 4 % 4 ≠ 3 ∧
      ((((portAt 7 15 { Link.reset with retrainFails := 2 }).advance 9).linkOf 5 0).retrainFails = 2) ∧
      (((portAt 7 15 { Link.reset with retrainQueued := true }).advance 9).linkOf 5 0).retrainQueued = true ∧
      (let s0 := (portAt 7 15 { Link.reset with retrainTimes := List.replicate 15 0 }).advance 9
       15 ≤ ((s0.linkOf 5 0).retrainTimes.filter (fun x => decide (s0.clock < x + 1000000000))).length) ∧
      ((portAt 13 0 Link.reset).fset (subState 5 1) 2).fget (subState 5 1) = 2 := by decide +kernel

def aMsg (hops dst src : Nat) : Msg :=
  { msgType := 1, dst := dst, src := src, hops := hops, len := 1, dstRack := 0, srcRack := 0, body := [] }
/-- A well-formed flit of one 8 B message on VC2. -/
def aFlit (ty seq : Nat) (ack : Bool) (gap : Bool) : Flit :=
  { ftype := ty, vc := 2, enc := false, seq := seq, ackSeq := 101, ackValid := ack, gap := gap, keyPhase := false, crVc := 2, crClass := 1,
    crCount := 0, used := 8, rsv := 0, txCount := 1, corrected := false, tagOk := true, msgs := [aMsg 1 4 9],
    credits := List.range 22 }
def twoOut (run : Nat) : Link :=
  { Link.reset with
    tx := .active, nextSeq := 102, replayRun := run, authed := true, version := 4, expected := 7,
    unacked := [{ seq := 100, vc := 2, cls := 1, msgs := [] }, { seq := 101, vc := 2, cls := 1, msgs := [aMsg 1 9 4] }] }
/-- Port 5 UP with LDN 4 here and 9 there, quarantine by count off. -/
def linkState (l : Link) : State :=
  (((portAt 5 15 l).fset R.SCP_ID.ldn 4).fset (R.SCP_PORT_PEER.peer_ldn 5) 9).fset (R.SCP_PORT_CTL.quar_thr 5) 0
/-- Witnesses of LinkFlits. -/
theorem witness_linkFlits :
    (let s := linkState (twoOut 0)
     s.linkIs 5 0 = true ∧ hearsFlits (s.linkSt 5 0) = true ∧ routesOk (aFlit 1 7 false false) = true ∧ s.vcAllowed 5 0 2 = true ∧
       s.fget (R.SCP_PORT_CTL.quar_thr 5) = 0 ∧ s.linkOf 5 0 = twoOut 0 ∧ (s.advance 3).forUs 2 (aMsg 1 4 9) = true ∧
       (s.advance 3).msgBad 5 0 2 (aMsg 1 4 9) = false ∧ s.fget (R.SCP_PORT_STATUS.state 5) = 5) ∧
    (7 + 4096 - (twoOut 0).expected) % 4096 = 0 ∧ (8 + 4096 - (twoOut 0).expected) % 4096 = 1 ∧ (2054 + 4096 - (twoOut 0).expected) % 4096 = 2047 ∧
    (2055 + 4096 - (twoOut 0).expected) % 4096 = 2048 ∧ (2056 + 4096 - (twoOut 0).expected) % 4096 = 2049 ∧ (6 + 4096 - (twoOut 0).expected) % 4096 = 4095 ∧
    (101 + 4096 - 100) % 4096 < (twoOut 0).unacked.length ∧ (aFlit 1 7 true false).credits.length = 22 ∧ (twoOut 7).replayRun = 7 ∧
    (let i : SendItem := { vc := 2, cls := 1, msg := aMsg 1 9 4, holds := none }
     let l : Link := { twoOut 0 with sendq := [i], credits := [(9, 3)], enc := true, owed := 2 }
     (linkState l).linkOf 5 0 = l ∧ 0 < credit l.credits (4 * 2 + 1) ∧ 8 * i.msg.len ≤ 216 ∧ l.txCount < l.keyStart + 2 ^ 36 ∧ l.authed = true) ∧
    (let l : Link := { twoOut 0 with tx := .replaying, resend := [101] }
     (linkState l).linkOf 5 0 = l ∧ ∀ x ∈ l.unacked, x.seq = 101 → x = { seq := 101, vc := 2, cls := 1, msgs := [aMsg 1 9 4] }) := by decide +kernel
/-- A window of 511 unacknowledged flits on a sublink, and a VC0 message with credit behind another. -/
theorem witness_fullWindow :
    let l : Link := { twoOut 0 with unacked := List.replicate 511 { seq := 1, vc := 2, cls := 1, msgs := [] } }
    let s := ((linkState l).fset (R.SCP_PORT_STATUS.state 5) 13).fset (subState 5 0) 5
    s.linkIs 5 0 = true ∧ hearsFlits (s.linkSt 5 0) = true ∧ 511 ≤ (s.linkOf 5 0).unacked.length ∧
      (let i : SendItem := { vc := 0, cls := 0, msg := aMsg 1 9 4, holds := none }
       ([{ vc := 2, cls := 1, msg := aMsg 1 9 4, holds := none }, i].find? (fun x => x.vc == 0)) = some i ∧ 0 < credit [(0, 5)] i.cls) := by
  decide +kernel

/-- Witnesses of RoutesAndAddresses. -/
theorem witness_routes :
    State.reset.fget R.SCP_ROUTE_ADDR.ldn < 144 ∧ State.reset.fget R.SCP_ROUTE_AT.at_transit ≤ State.reset.fget R.TRN_NUMBER.transit + 1 ∧
      State.reset.fget R.TRN_NUMBER.transit + 1 < (State.reset.fset R.SCP_ROUTE_AT.at_transit 2).fget R.SCP_ROUTE_AT.at_transit ∧
      State.reset.fget R.TRN_NUMBER.transit + 1 < (State.reset.fset R.SCP_LDN_AT.at_transit 2).fget R.SCP_LDN_AT.at_transit ∧
      (let s := (State.reset.fset R.SCP_ID.ldn 4).fset R.SCP_RATE.police_en 0
       (aMsg 1 4 9).dst = s.fget R.SCP_ID.ldn ∧ (aMsg 1 4 9).dst ≠ 255 ∧ (aMsg 1 4 9).dstRack = s.fget R.SCP_ID.rack ∧
         s.fget R.SCP_RATE.police_en = 0) := by decide +kernel

/-- Further witnesses of PortStates and LinkFlits: a route that says LDN 9 stands elsewhere than the peer of port 5; a port whose laser is lost;
sublinks in each state of which an event speaks; a link with nothing to send, one that retrains, one in whose full buffer an ACK falls, one whose
timer is due, and one that has a message on VC2 with no DATA before it. -/
theorem witness_links :
    (let s := (((portAt 3 15 Link.reset).setRoute 9 (BitVec.ofNat 128 (6 + 256))).fset (R.SCP_PORT_STATUS.state 6) 5).fset (R.SCP_PORT_PEER.peer_rack 6) 7
     s.fget (R.SCP_PORT_CTL.ext 5) = 0 ∧ s.mapsTo (aPeer 3 4).ldn = [7 * 256] ∧ 7 * 256 ≠ (aPeer 3 4).rack * 256 + (aPeer 3 4).slot) ∧
      (let s : State := { portAt 1 0 Link.reset with pins := { (portAt 1 0 Link.reset).pins with laserLost := [0] } }
       5 / 8 ∈ s.pins.laserLost) ∧
      (∀ st ∈ [1, 2, 3, 4, 5, 6, 7, 8, 10, 11, 12], ((portAt 13 0 Link.reset).fset (subState 5 1) st).fget (subState 5 1) = st) ∧
      ((portAt 1 0 Link.reset).fset (R.SCP_PORT_CTL.split 5) 1).fget (R.SCP_PORT_CTL.split 5) = 1 ∧
      (∀ v, Link.reset.headOf v = none) ∧ (linkState { twoOut 0 with tx := .retrain }).linkOf 5 0 = { twoOut 0 with tx := .retrain } ∧
      ((linkState (twoOut 0)).advance 9000).clock = 9000 ∧ (twoOut 0).timerAt + 4000 + 2 * (linkState (twoOut 0)).fget (R.SCP_PORT_DELAY.delay_ns 5) ≤ 9000 ∧
      (twoOut 0).lastReplay = none ∧ (portAt 9 15 Link.reset).fget (R.SCP_PORT_STATUS.state 5) = 9 := by
  refine ⟨by decide +kernel, by decide +kernel, by decide +kernel, by decide +kernel, fun v => rfl, by decide +kernel, by decide +kernel,
    by decide +kernel, by decide +kernel, by decide +kernel⟩

/-- A posted LAND of constellation 3, seq 7, two messages of 8 B at core 3 offset 0x1000, in cluster 0 entry 5. -/
def landBytes_ (op expected : Nat) : List Byte :=
  leBytes 4 (1 + op * 2 ^ 8) ++ leBytes 2 3 ++ leBytes 2 0 ++ leBytes 4 7 ++ leBytes 2 expected ++ leBytes 2 8 ++ leBytes 4 3 ++ leBytes 4 0x1000 ++
    leBytes 4 0 ++ leBytes 2 0 ++ leBytes 2 9 ++ leBytes 32 0
/-- Constellation 3 of partition 0: LDN 4 (this package) and LDN 9, entries 0 and 1. -/
def cstState (posts : Assoc Post) (parked : List Parked) : State :=
  let s : State := { State.reset with togus := { Togus.none with sections := wholeSections }, posts := posts, parked := parked }
  let s1 := (((s.fset R.SCP_ID.ldn 4).fset (R.COL_CST_CFG.valid 3) 1).fset (R.COL_CST_CFG.member_count 3) 2).fset (R.COL_CST_CFG.live_count 3) 2
  ((s1.fset (R.COL_MEMBER.ldn 0) 4).fset (R.COL_MEMBER.ldn 1) 9).fset (R.COL_CST_CFG.epoch 3) 2
def openPost : Post := { Post.free with bytes := landBytes_ 0 2, epoch := 2 }
def aParked (cst : Nat) : Parked :=
  { cst := cst, epoch := 2, seq := 8, srcLdn := 9, cluster := 0, msg := 0, exact := false, retried := false, place := 0, len := 8 }
/-- Witnesses of Constellations. -/
theorem witness_constellations :
    (let s := cstState [(5, openPost)] [aParked 3]
     pState (s.post 5) = 1 ∧ (pCst (s.post 5), pSeq (s.post 5)) = (3, 7) ∧ (∀ e ∈ s.posts, e.2.bytes.length = 64) ∧ (s.posts.map Prod.fst).Nodup ∧ s.cstEpoch 3 < 2 ^ 16 ∧
       9 ∈ s.cstLdns 3 ∧ 9 ∈ s.liveLdns 3 ∧ s.fget (R.COL_CST_CFG.valid 3) = 1 ∧ (∀ m ∈ s.parked, m.cluster = 0 → m.cst = pCst (s.post 5))) ∧
    (let s := ((cstState [(5, openPost)] [aParked 4]).fset (R.COL_CST_CFG.valid 4) 1).fset (R.COL_CST_CFG.member_count 4) 2
     s.blockedBy 5 = some (aParked 4)) ∧
    (let s := (State.reset.fset (R.COL_CST_NEXT.change 3) 1).fset (R.COL_CST_NEXT.next_valid 3) 1
     s.fget (R.COL_CST_NEXT.change 3) = 1 ∧ s.fget (R.COL_CST_NEXT.next_valid 3) = 1 ∧ s.fget (R.COL_CST_NEXT.member_count 3) = 0) ∧
    (State.reset.fset R.COL_AT.at_transit 9).fget R.COL_AT.at_transit = 9 ∧
    (State.reset.setReq 5 (some (outReq 0 true))).req 5 = some (outReq 0 true) := by decide +kernel

def colHdr (epoch : Nat) : ColHdr :=
  { cst := 3, epoch := epoch, seq := 7, srcIndex := 1, dstCluster := 0, lastPkt := true, pkt := 0, msg := 0, exact := false }
/-- Witnesses of CollectiveMessages: posts. -/
theorem witness_posts :
    (let s := cstState [] []
     let p : Post := { Post.free with bytes := landBytes_ 0 2 }
     (landBytes_ 0 2).length = 64 ∧ leAt (landBytes_ 0 2) 0 1 = 1 ∧ pState (s.post 5) ≠ 1 ∧ (s.post 5).bytes.length = 64 ∧ s.tombs.length < 255 ∧ s.postRefused 5 p = false ∧ pCst p < 1024 ∧
       State.reset.fget (R.COL_CST_CFG.valid (pCst p)) = 0 ∧
       (let x : Tomb := { cst := 3, epoch := 2, seq := 7, peer := (4, 1) }
        x.cst = pCst p ∧ x.seq = pSeq p ∧ x.epoch = s.cstEpoch (pCst p))) := by decide +kernel
/-- Arrivals: of the epoch in force, posted and unposted, of the epoch before; parking full. -/
theorem witness_arrivals :
    (let s := cstState [(5, openPost)] []
     s.cstOn 3 = true ∧ s.rx = [] ∧ (2 + 2 ^ 16 - s.cstEpoch 3) % 2 ^ 16 = 0 ∧ 32768 ≤ (1 + 2 ^ 16 - s.cstEpoch 3) % 2 ^ 16 ∧
       s.openPosts (fun k p => decide (k / 64 = 0) && pCst p == 3 && pSeq p == 7) = [5] ∧
       s.openPosts (fun k p => decide (k / 64 = 0) && pCst p == 3 && pSeq p == 7 && p.epoch == 2) = [5] ∧ pState (s.post 5) = 1 ∧ pOp (s.post 5) = 0 ∧ (s.post 5).epoch = 2 ∧
       pPrefix (s.post 5) = false ∧ (s.post 5).bytes.length = 64 ∧ 0 + 1 < pExpected (s.post 5) ∧ pMsgBytes (s.post 5) = 8 ∧
       (s.freePark 0).isSome = true) ∧
    payloadOf (withTrailer [1, 2, 3, 4, 5, 6, 7, 8]) = some [1, 2, 3, 4, 5, 6, 7, 8] ∧ payloadOf [1, 2, 3] = none ∧
    (cstState [] ((List.range 256).map (fun i => { aParked 3 with place := i }))).freePark 0 = none := by decide +kernel
/-- Sending: a held message for this package, and slot 2 of cluster 0 armed for messages of 8 B to member 0. -/
def slotBytes : List Byte :=
  leBytes 1 1 ++ leBytes 1 0 ++ leBytes 2 3 ++ leBytes 4 7 ++ leBytes 2 0 ++ leBytes 1 0 ++ leBytes 1 0 ++ leBytes 2 100 ++ leBytes 2 8 ++ leBytes 16 0
theorem witness_sending :
    (let s := (cstState [] []).setSlot 2 { SendSlot.free with bytes := slotBytes }
     s.slotArmed 2 = true ∧ wKind (s.slot 2) = 0 ∧ (s.slot 2).next = 0 ∧ s.slotDst 2 = some 4 ∧ s.fget R.SCP_ID.ldn = 4 ∧ wSize (s.slot 2) = 8 ∧
       (s.slot 2).buf = [] ∧ s.outbox = [] ∧ (s.slot 3).bytes.length = 32 ∧ s.slotArmed 3 = false) ∧
    slotBytes.length = 32 := by decide +kernel

/-- Further witnesses of Constellations: nothing staged; a member of a constellation, and no constellation; pairs with a tombstone each and with
none; a message of a send slot that asks whether its destination lives. -/
theorem witness_staged : (∀ i, i < 1024 → State.reset.staged i = false) ∧ State.reset.fget R.TRN_NUMBER.transit + 1 < 9 ∧
    (∀ i, i < 1024 → State.reset.fget (R.COL_CST_CFG.valid i) = 0) := by
  have h := fun off h1 h2 => resetReg_zero 0x181000 0x189000 off h1 h2 (by decide +kernel)
  have z : getField (0 : Word) 1 1 = 0 := by decide
  refine ⟨fun i hi => ?_, by decide +kernel, fun i hi => ?_⟩
  · have e : State.reset.reg (A.COL_CST_NEXT i) = 0 := h _ (by simp [A.COL_CST_NEXT]; omega) (by simp [A.COL_CST_NEXT]; omega)
    have f : State.reset.fget (R.COL_CST_NEXT.change i) = 0 := by rw [State.fget]; exact (congrArg (getField · 1 1) e).trans z
    simp [State.staged, State.fon, f]
  · have e : State.reset.reg (A.COL_CST_CFG i) = 0 := h _ (by simp [A.COL_CST_CFG]) (by simp [A.COL_CST_CFG]; omega)
    rw [State.fget]
    exact (congrArg (getField · 0 1) e).trans (by decide)
theorem witness_buried :
    (let s := cstState [] []
     s.isBuried (3, 7) = false ∧ s.isBuried (4, 8) = false ∧ s.posts = [] ∧ s.tombs = [] ∧ s.buried = []) ∧
      (let s := { cstState [] [] with buried := [⟨3, 2, 7, (4, 8)⟩, ⟨4, 0, 8, (3, 7)⟩] }
       s.isBuried (3, 7) = true ∧ s.isBuried (4, 8) = true) := by decide +kernel
theorem witness_crossing :
    (let s := ((cstState [(5, openPost)] [aParked 4]).fset (R.COL_CST_CFG.valid 4) 1).fset (R.COL_CST_CFG.member_count 4) 2
     s.isBuried (pCst (s.post 5), pSeq (s.post 5)) = false ∧ (aParked 4).cst < 1024 ∧ (aParked 4).seq < 2 ^ 32) := by decide +kernel
theorem witness_asked :
    let r := { outReq 4 true with core := none, dst := 9 }
    ((cstState [] []).setReq 5 (some r)).req 5 = some r ∧ r.dst ∈ (cstState [] []).cstLdns 3 := by decide +kernel
/-- An exact landing, a sum, a landing whose last message comes next, and messages that wait: for nothing, for a bare write's end, parked, sent
twice. -/
def anOut (waits : List WinWait) (parked resent : Bool) : OutMsg :=
  { cst := 3, epoch := 2, seq := 7, srcIndex := 0, dstLdn := 4, dstCluster := 0, msg := 0, bytes := leBytes 8 5, exact := false, resent := resent,
    parkWait := parked, req := none, waits := waits }
/-- Further witnesses of CollectiveMessages. -/
theorem witness_messages :
    (let s := cstState [] []
     let p : Post := { Post.free with bytes := putBytes (landBytes_ 2 2) 0x1C [4] }
     s.postRefused 5 p = false ∧ pOp p = 2) ∧
      (let s : State := { cstState [] [] with tombs := [⟨3, 2, 7, (4, 1)⟩] }
       (∃ x ∈ s.tombs, x.cst = 3 ∧ x.seq = 7 ∧ x.epoch = s.cstEpoch 3) ∧ s.cstOn 3 = true ∧ s.rx = []) ∧
      (∀ e ∈ [(1, 0), (0, 2)],
        (let p : Post := { openPost with bytes := landBytes_ e.1 3, landed := e.2 }
         let s := cstState [(5, p)] []
         s.openPosts (fun k p => decide (k / 64 = 0) && pCst p == 3 && pSeq p == 7 && p.epoch == 2) = [5] ∧ pState (s.post 5) = 1 ∧
           (s.post 5).epoch = 2 ∧ pOp p = e.1 ∧ pFmt p ≤ 3 ∧ pMsgBytes p % 8 = 0 ∧ 0 + 1 < pExpected p ∧ (p.landed + 1 = pExpected p ↔ e.2 = 2))) ∧
      (∀ o ∈ [anOut [] false false, anOut [.bare 0 2 0] false false, anOut [] true false, anOut [] false true],
        (let s : State := { cstState [] [] with outbox := [(0, o)] }
         s.outbox = [(0, o)] ∧ o.req = none ∧ o.dstLdn = s.fget R.SCP_ID.ldn)) ∧
      (let w := { SendSlot.free with bytes := slotBytes, buf := leBytes 4 1, next := 4 }
       let s := (cstState [] []).setSlot 2 w
       s.slotArmed 2 = true ∧ 4 = (s.slot 2).next ∧ (s.slot 2).buf.length + 4 = wSize w ∧ 8 ≠ (s.slot 2).next ∧ (s.slot 2).buf ≠ []) := by
  refine ⟨by decide +kernel, by decide +kernel, by decide +kernel, by decide +kernel, by decide +kernel⟩

/-- Beacon 9 of partition 0 in a mode, with a value and waiters. -/
def bcnState (mode : Nat) (v : Word) (ws : List Waiter) : State :=
  { ({ State.reset with togus := { Togus.none with sections := wholeSections } }.setBeacon 9
      { Beacon.reset with mode := mode, assigned := true, value := v, target := 4, armed := true }) with waiters := ws, scan := some 9 }
def aWaiter (prio : Nat) (th : Option Word) : Waiter :=
  { beacon := 9, who := .tcore 2, ans := .window (.tcore 2), prio := prio, threshold := th, tabled := true, epoch := 0 }
/-- The word of a lock that T-core 3 holds, LDN 255 as at reset. -/
def heldBy3 (orphaned : Bool) : Word := lockWord true orphaned (255, 3, 0, false) 0 1
/-- Witnesses of BeaconModes. -/
theorem witness_beaconModes :
    (∀ m ∈ [0, 1, 2, 3], (bcnState m 7 []).mayUse (.tcore 3) ((bcnState m 7 []).beacon 9) = true ∧ ((bcnState m 7 []).beacon 9).mode = m) ∧
      ((bcnState 1 7 []).beacon 9).target ≠ 0 ∧ ((bcnState 3 0 []).beacon 9).value = 0 ∧ ((bcnState 3 0 []).beacon 9).armed = true ∧
      (let s := bcnState 2 (heldBy3 false) [aWaiter 2 none, aWaiter 5 none]
       lockHeld (s.beacon 9).value = true ∧ lockOrphaned (s.beacon 9).value = false ∧ lockOwner (s.beacon 9).value = s.ownerOf (.tcore 3) ∧
         lockEpoch (s.beacon 9).value = s.epochOf (.tcore 3)) ∧
      lockOrphaned ((bcnState 2 (heldBy3 true) [aWaiter 2 none]).beacon 9).value = true := by decide +kernel
/-- A barrier of 4 at 3 arrivals, generation 0: an add of 2 opens generation 1 and answers its waiter. -/
theorem test_barrier :
    (match exec (.beaconAdd (.tcore 3) 9 2) (bcnState 1 3 [aWaiter 0 (some 0x100000000)]) with
     | .next t => ((t.beacon 9).value, t.waiters, t.out) | _ => (0, [], [])) =
      (0x100000000, [], [.beacon (.tcore 3) 9 true 3 false, .beacon (.tcore 2) 9 true 0x100000000 false]) := by decide +kernel

/-- Witnesses of BeaconOperations. -/
theorem witness_beaconOperations :
    (bcnState 0 7 []).mayUse (.tcore 3) ((bcnState 0 7 []).beacon 9) = true ∧ (bcnState 0 7 []).mayUse (.tcore 8) ((bcnState 0 7 []).beacon 9) = false ∧
      (bcnState 0 7 []).tableUsed < 65536 ∧ ((bcnState 2 0 []).beacon 9).mode = 2 ∧ getField ((bcnState 2 0 []).beacon 9).value 0 1 = 0 ∧
      getField ((bcnState 2 (heldBy3 true) []).beacon 9).value 1 1 = 1 ∧ getField ((bcnState 2 (heldBy3 false) []).beacon 9).value 1 1 = 0 ∧
      getField ((bcnState 2 (heldBy3 false) []).beacon 9).value 0 1 = 1 ∧ getField (heldBy3 false) 8 8 = 255 ∧
      lockOwner ((bcnState 2 (heldBy3 false) []).beacon 9).value ≠ (bcnState 2 0 []).ownerOf (.tcore 2) ∧
      (∃ z ∈ (bcnState 0 7 [aWaiter 1 (some 9)]).waiters, z.beacon = 9 ∧ z.who = .tcore 2) ∧ (bcnState 0 7 [aWaiter 1 (some 9)]).waiters[0]? = some (aWaiter 1 (some 9)) ∧
      ((bcnState 0 7 []).beacons.map Prod.fst).Nodup ∧ (bcnState 0 7 []).scan = some 9 ∧
      ((bcnState 3 7 []).fset R.BCN_SEL.beacon 9).fget R.BCN_SEL.beacon = 9 ∧ lockHeld (lockWord true false (5, 3, 0, false) 0 1) = true ∧
      getField (lockWord true false (5, 3, 0, false) 0 1) 8 8 = 5 ∧
      (let v : Word := 4
       (bcnState 0 7 []).fget R.BCN_SEL.beacon = 0 ∧ ¬ (getField v 2 1 == 1) = ((bcnState 0 7 []).beacon 0).assigned) := by decide +kernel
/-- A full waiter table. -/
theorem witness_fullWaiters (n : Nat) : (bcnState 0 7 (List.replicate n (aWaiter 1 (some 9)))).tableUsed = n := by
  simp [State.tableUsed, bcnState, aWaiter]

/-- Ring 5 of VF 0, in partition 0 and in space 2 with depth 16, with these indices: heads, then tails. -/
def ringState (sqHead cqHead sqTail cqTail : Nat) : State :=
  let s := { State.reset with togus := { Togus.none with sections := wholeSections }, numVfs := 4 }
  ((((s.fset (R.QRG_RING_CFG.enable 5) 1).fset (R.QRG_RING_IDX.sq_head 5) sqHead).fset (R.QRG_RING_IDX.cq_tail 5) cqTail).fset
    (R.QRG_RING_HOST.sq_tail 5) sqTail).fset (R.QRG_RING_HOST.cq_head 5) cqHead
/-- The same ring in package space, both bases in T-core 0's scratchpad. -/
def padRing : State :=
  (((ringState 3 0 4 1).fset (R.QRG_RING_CFG.space 5) 0).fset (R.QRG_RING_SQ.sq_base 5) 0x1000000000).fset (R.QRG_RING_CQ.cq_base 5) 0x1000001000
def doneOp : Op := { someOp with ring := 5, status := some 0, discarded := false }
/-- Witnesses of RingIndices. -/
theorem witness_ringIndices :
    (0 < (ringState 3 0 4 1).numVfs ∧ (ringState 3 0 4 1).fget (R.QRG_RING_CFG.enable 5) = 1 ∧ (ringState 3 0 4 1).fget (R.QRG_RING_CFG.depth_log2 5) = 4) ∧
      (let s := ringState 3 0 4 1
       s.fget (R.QRG_RING_CFG.stop 5) = 0 ∧ 5 / 64 < s.numVfs ∧ s.fget (R.QRG_RING_IDX.sq_head 5) ≠ s.fget (R.QRG_RING_HOST.sq_tail 5) ∧
         (s.fget (R.QRG_RING_IDX.sq_head 5) + 2 ^ 32 - s.fget (R.QRG_RING_HOST.cq_head 5)) % 2 ^ 32 < 16 ∧ s.tenantPart 0 = some 0 ∧
         s.ringsHeld 0 = false ∧ s.ops = [] ∧ s.ringsSet = [5] ∧ s.fget (R.QRG_RING_CFG.space 5) = 2) ∧
      (let s := padRing
       s.fget (R.QRG_RING_CFG.space 5) = 0 ∧ s.reachAll (some 0) 0x10000000C0 64 = true ∧ s.paPoisoned 0x10000000C0 64 = false ∧
         s.reachAll (some 0) 0x1000001020 32 = true ∧ ((s.setOp 9 (some doneOp)).op 9 = some doneOp) ∧ s.reachAll (some 0) 0x2000000000 64 = false) ∧
      (let v : Word := 0x41
       getField v 0 1 = 1 ∧ getField v 4 5 = 4 ∧ getField v 2 2 = 0 ∧ getField (0x49 : Word) 2 2 = 2) := by decide +kernel
/-- Ring 5 is the only one enabled in these states. -/
theorem witness_oneRing (q : Nat) (hq : q < 262144) (h : (ringState 3 0 4 1).fget (R.QRG_RING_CFG.enable q) = 1) : q = 5 := by
  by_cases h5 : q = 5
  · exact h5
  · have hk : (ringState 3 0 4 1).regs.map Prod.fst = [0x1100140, 0x1100158, 0x1100160] := by decide +kernel
    have h0 := ringCfg_unlisted (ringState 3 0 4 1) q hq (fun e he => by
      have hm : e.1 ∈ (ringState 3 0 4 1).regs.map Prod.fst := List.mem_map_of_mem he
      rw [hk] at hm
      simp only [List.mem_cons, List.not_mem_nil, or_false, A.QRG_RING_CFG] at hm ⊢
      omega)
    omega
/-- Further witnesses of BeaconModes and BeaconOperations: a barrier with no target; a waiter that is due, and one that is not; the configuration a
beacon has; the last beacon of a scan; waiters of each answer. -/
theorem witness_waiters :
    (let s := (bcnState 1 7 []).setBeacon 9 { Beacon.reset with mode := 1, assigned := true }
     (s.beacon 9).target = 0 ∧ s.mayUse (.tcore 3) (s.beacon 9) = true) ∧
      (∀ e ∈ [((2 : Nat), true), (9, false)], (bcnState 0 7 [aWaiter 1 (some (BitVec.ofNat 64 e.1))]).waiters = [aWaiter 1 (some (BitVec.ofNat 64 e.1))] ∧
        (decide ((BitVec.ofNat 64 e.1).toNat ≤ 7) = e.2)) ∧
      (let s := (bcnState 0 7 []).fset R.BCN_SEL.beacon 9
       let bc := s.beacon 9
       let v : Word := 4
       getField v 0 2 = bc.mode ∧ (getField v 2 1 == 1) = bc.assigned ∧ getField v 3 4 = bc.partition ∧ (getField v 7 1 == 1) = bc.oneTenant ∧
         getField v 8 12 = bc.tenant ∧ bc.assigned = true) ∧
      (∀ again ∈ [false, true], let s : State := { bcnState 0 7 [] with scan := some 16383, scanAgain := again }
       s.scan = some 16383 ∧ s.scanAgain = again ∧ getField (s.beacon 16383).value 1 1 = 0) ∧
      (∀ a ∈ [Answer.rack 4 5 true, .op 3], (bcnState 0 7 [{ aWaiter 1 none with ans := a }]).waiters[0]? = some { aWaiter 1 none with ans := a }) ∧
      (bcnState 0 7 []).waiters[0]? = none := by decide +kernel
/-- Further witnesses of RingIndices: doorbells and heads beyond what the ring holds; an end that waits for an earlier one; a discarded one; a
fetch that is not reached, and one that repeats a tag. -/
theorem witness_ringEnds :
    (let s := ringState 3 0 4 1
     16 < (9 + 16 + 2 ^ 32 - s.fget (R.QRG_RING_IDX.sq_head 5)) % 2 ^ 32 ∧ (7 + 2 ^ 32 - 3) % 2 ^ 32 ≤ 16 ∧
       (s.fget (R.QRG_RING_IDX.cq_tail 5) + 2 ^ 32 - s.fget (R.QRG_RING_HOST.cq_head 5)) % 2 ^ 32 = 1) ∧
      (let s := (padRing.setOp 9 (some { doneOp with ended := 4 })).setOp 8 (some doneOp)
       s.op 8 = some doneOp ∧ doneOp.status.isSome = true ∧ doneOp.discarded = false ∧ doneOp.ended < 4) ∧
      ((padRing.setOp 9 (some { doneOp with discarded := true })).op 9).map Op.discarded = some true ∧
      (let s := padRing.fset (R.QRG_RING_SQ.sq_base 5) 0xFFFFFFFF0000
       s.fget (R.QRG_RING_CFG.space 5) = 0 ∧ s.reachAll (some 0) 0xFFFFFFFF00C0 64 = false) ∧
      (let s := padRing.fset (R.QRG_RING_CQ.cq_base 5) 0xFFFFFFFF0000
       s.fget (R.QRG_RING_CFG.space 5) = 0 ∧ s.reachAll (some 0) (0xFFFFFFFF0000 + 32) 32 = false) ∧
      (descBad (List.replicate 64 0) = none ∧ padRing.slotFree 0 = true) := by decide +kernel

/-- An operation of ring 5 with tag 0 and this op code; `rest` is bytes 8 on. -/
def ringOp (code : Nat) (started : Bool) (rest : List Byte) : Op :=
  { someOp with ring := 5, order := 3, started := started, desc := leBytes 8 code ++ rest ++ List.replicate (56 - rest.length) 0, progress := 0, witness := 0 }
def opState (o : Op) : State := (ringState 3 0 4 1).setOp 9 (some o)
/-- An FP32 matrix product of one element, from 0x1000000100 and 0x1000000200 to 0x1000000300: 2 x 1.5. -/
def oneProduct : List Byte :=
  [1, 1, 0, 0, 1, 0, 0xFF, 127] ++ leBytes 4 1 ++ leBytes 4 1 ++ leBytes 4 1 ++ leBytes 12 0 ++ leBytes 8 0x1000000100 ++ leBytes 8 4 ++
    leBytes 8 0x1000000200 ++ leBytes 8 4 ++ leBytes 8 0x1000000300 ++ leBytes 8 4 ++ leBytes 48 0
/-- A started MATMUL with 63 tiles done. -/
def matmulState : State :=
  (((opState { ringOp 0x10 true (leBytes 8 0x1000000000) with progress := 0x7FFFFFFFFFFFFFFF, ctrl := oneProduct }).write 0x1000000000 oneProduct).write 0x1000000100
    (leBytes 4 0x40000000)).write 0x1000000200 (leBytes 4 0x3FC00000)
/-- An atomic add of 4 bytes to this package's own descriptor 7. -/
def addCommand (size : Nat) : List Byte := [1, BitVec.ofNat 8 size] ++ leBytes 6 0 ++ leBytes 8 (9 * 2 ^ 56 + 7 * 2 ^ 44 + 64) ++ leBytes 16 5
def atomicState (size : Nat) : State :=
  let s := opState (ringOp 0x40 false (addCommand size))
  ((s.fset R.RMM_STATUS.twilight 0).fset R.SCP_ID.ldn 9).setOktOf (9 * 4096 + 7) (1 <<< 64 ||| 1 <<< 75)
def beaconOpState (code : Nat) (x : Nat) : State :=
  (opState (ringOp 0x41 false (leBytes 2 9 ++ leBytes 6 code ++ leBytes 8 x))).setBeacon 9 { Beacon.reset with mode := 0, assigned := true, value := 7 }
/-- Witnesses of RingOperations. -/
theorem witness_ringOperations :
    (∀ o ∈ [ringOp 0 false [], ringOp 0x30 false [], ringOp 0x40 false (addCommand 3), ringOp 0x41 false [9], ringOp 0x10 false (leBytes 8 0x1000000000)],
      (opState o).op 9 = some o ∧ o.status = none ∧ o.started = false ∧ leAt o.desc 0x3E 1 % 2 = 0) ∧
      (let s := beaconOpState 0 0
       s.mayUse (.vf 0) (s.beacon 9) = true ∧ (s.beacon 9).mode = 0 ∧ s.waiters = [] ∧ s.tableUsed < 65536) ∧
      (let s := (opState (ringOp 0x50 false [5, 0, 4])).setOp 4 (some { ringOp 0x10 true [] with desc := leBytes 60 0x10 ++ leBytes 4 4, progress := 7 })
       (s.op 4).isSome = true ∧ leAt (leBytes 60 0x10 ++ leBytes 4 4) 0x3C 2 = leAt (ringOp 0x50 false [5, 0, 4]).desc 0x0A 2) ∧
      (let s := opState (ringOp 0x10 false (leBytes 8 0x1000000000))
       s.reachAll (some 0) 0x1000000000 128 = true ∧ s.paPoisoned 0x1000000000 128 = false ∧ leAt (s.paBytes 0x1000000000 128) 8 4 = 0) ∧
      (let s := matmulState
       let b := s.paBytes 0x1000000000 128
       b = oneProduct ∧ s.tcoreUp 0 = true ∧ s.partOfTcore 0 = some 0 ∧ (s.tcore 0).me.px = none ∧ (s.tcore 0).me.stopped = false ∧
         s.reachAll (some 0) 0x1000000100 4 = true ∧ s.paPoisoned 0x1000000100 4 = false ∧ s.reachAll (some 0) 0x1000000200 4 = true ∧
         s.paPoisoned 0x1000000200 4 = false ∧ s.reachAll (some 0) 0x1000000300 4 = true ∧ 63 * 1 / 64 = 0 ∧ 64 * 1 / 64 = 1 ∧
         packedBytes 1 1 = 4) := by decide +kernel
/-- The atomic that leaves. -/
theorem witness_atomicLeaves :
    (let s := atomicState 4
     let c := addCommand 4
     s.sourceStatus (askAt (leAt c 8 8) 4 2 (some 0) none (some (.op 9, 0, 0)) c) = 0 ∧ s.ownLdn 9 = true ∧ leAt c 8 8 % 4 = 0) := by decide +kernel
/-- 2 x 1.5 = 3, and the last of the 64 tiles ends the operation. -/
theorem test_matmul :
    (match exec (.matmul 9 63 [] 0) matmulState with
     | .next t => (t.paBytes 0x1000000300 4, (t.op 9).map (fun o => (o.status, o.progress))) | _ => ([], none)) =
      (leBytes 4 0x40400000, some (some 0, 0xFFFFFFFFFFFFFFFF)) := by decide +kernel

/-- An atomic of the operation, for descriptor 7 of LDN `ldn`, as in portState. -/
def remoteAtomic (ldn twilight rate : Nat) : State :=
  (portState 8 ldn twilight 5 rate).setOp 9 (some (ringOp 0x40 false ([1, 8] ++ leBytes 6 0 ++ leBytes 8 (ldn * 2 ^ 56 + 7 * 2 ^ 44 + 64) ++ leBytes 16 5)))
/-- Further witnesses of RingOperations: atomics refused, remote and held back (with witness_shaped); beacon operations not allowed, on beacons of
each mode; a probe that finds nothing; MATMUL blocks not reached, poisoned, not valid, and valid with no tile yet. -/
theorem witness_moreOperations :
    (∀ e ∈ [(4, 1, 0x12), (200, 0, 0x11), (4, 0, 0), (9, 0, 0)],
      (let s := remoteAtomic e.1 e.2.1 1
       let c := (([1, 8] : List Byte) ++ leBytes 6 0 ++ leBytes 8 (e.1 * 2 ^ 56 + 7 * 2 ^ 44 + 64) ++ leBytes 16 5)
       s.sourceStatus (askAt (leAt c 8 8) 8 2 (some 0) none (some (.op 9, 0, 0)) c) = e.2.2 ∧ s.reqs = [] ∧ s.clocked = true ∧
         (s.ownLdn e.1 = true ↔ e.1 = 4) ∧ s.fget R.SCP_RATE.burst_kib = 0)) ∧
      (∀ m ∈ [0, 1, 2, 3], let s := (beaconOpState 6 0).setBeacon 9 { Beacon.reset with mode := m, assigned := true }
       s.mayUse (.vf 0) (s.beacon 9) = true ∧ (s.beacon 9).mode = m ∧ (s.beacon 9).value = 0 ∧ s.waiters = []) ∧
      (let s := (beaconOpState 0 0).setBeacon 9 { Beacon.reset with mode := 0 }
       s.mayUse (.vf 0) (s.beacon 9) = false) ∧
      (let s := (beaconOpState 7 0).setBeacon 9 { Beacon.reset with mode := 2, assigned := true, value := lockWord true false (255, 0x3FF, 0, false) 0 1 }
       lockHeld (s.beacon 9).value = true ∧ lockOrphaned (s.beacon 9).value = false ∧ lockOwner (s.beacon 9).value = s.ownerOf (.vf 0) ∧
         lockEpoch (s.beacon 9).value = s.epochOf (.vf 0)) := by decide +kernel
theorem witness_moreMatmul :
    (let s := opState (ringOp 0x10 false (leBytes 8 0xFFFFFFFF0000))
     s.reachAll (some 0) 0xFFFFFFFF0000 128 = false) ∧
      (let s := (opState (ringOp 0x10 false (leBytes 8 0x1000000000))).setPoison (padBase 0)
       s.reachAll (some 0) 0x1000000000 128 = true ∧ s.paPoisoned 0x1000000000 128 = true) ∧
      matmulBad oneProduct = none ∧ (ringOp 0x10 false []).given = 0 ∧ (ringOp 0x10 false []).failed = false ∧
      (let o := { ringOp 0x10 true (leBytes 8 0x1000000000) with progress := 0x7FFFFFFFFFFFFFFF }
       o.progress.getLsbD 63 = false ∧ o.given.testBit 63 = false ∧ o.stores = [] ∧ o.work = []) ∧
      (matmulState.tcore 0).me.injectPending = false ∧ matmulState.fget (R.TC_PX_CTL.inject_persist 0) = 0 := by decide +kernel

def fatalReport : Report := { source := 0xA000, code := 0x0503, cls := 4, detail := 5, time := 0, transit := 7, firstNs := 9 }
def softReport : Report := { source := 0x8010, code := 0x0501, cls := 0, detail := 5, time := 0, transit := 7, firstNs := 9 }
/-- Witnesses of ErrorLog: a fatal report before another, and one alone. -/
theorem witness_logTakesFatalFirst :
    (let s : State := { State.reset with fatals := [fatalReport], reports := [softReport] }
     s.coalesceInto fatalReport = none ∧ s.eclipseSelects 4 = false ∧ 3 ≤ fatalReport.cls ∧ s.logUsed < 4096) ∧
    (let s : State := { State.reset with reports := [softReport] }
     s.coalesceInto softReport = none ∧ s.eclipseSelects 0 = false ∧ s.fatals = [] ∧ softReport.cls < 3 ∧ s.logUsed < 4032) := by decide
/-- Witnesses of ErrorLog: nothing to consume, so 0 is within and 1 beyond prod. -/
theorem witness_consWrite :
    (0 % 2 ^ 32 + 2 ^ 32 - State.reset.fget R.ERR_CONS.cons) % 2 ^ 32 ≤ State.reset.logUsed ∧
      State.reset.logUsed < (1 % 2 ^ 32 + 2 ^ 32 - State.reset.fget R.ERR_CONS.cons) % 2 ^ 32 ∧ (.pf 1 : Fn) ≠ .pf 0 := by decide

def aRecovery (d : Domain) (i : Nat) : Recovery := { domain := d, slot := i, start := 0, retire := true }
/-- Witnesses of RecoveriesStartAndEnd. -/
theorem witness_recoveries :
    (let s : State := { State.reset with recq := [aRecovery (.tcore 5) 0] }
     s.freeSlot = some 0 ∧ s.nextRecovery = some (aRecovery (.tcore 5) 0)) ∧
    (let s : State := { State.reset with recs := [aRecovery (.partition 3) 0] }
     s.recs.find? (fun x => x.slot == 0) = some (aRecovery (.partition 3) 0)) := by decide
/-- R496: a second fault in a core under recovery turns its recovery into one of its cluster. -/
theorem test_escalation :
    ({ State.reset with recs := [aRecovery (.tcore 5) 2] }.escalate (.tcore 5)) = [.cluster 1] ∧
      State.reset.escalate (.cluster 17) = [.stack 1] := by decide

/-- Slot 0 held by an LLM scrub of slice 3. -/
def scrubbing : State := ((State.reset.fset (R.MNT_SLOT.busy 0) 1).fset (R.MNT_SLOT.activity 0) 2).fset (R.MNT_SLOT.domain 0) 3
/-- Witnesses of MaintenanceArbiter: an LLM scrub of slice 3 asked for, on a free arbiter and while one holds slot 0. -/
theorem witness_maintenance :
    (let s0 := (State.reset.fset R.MNT_REQ.activity 2).fset R.MNT_REQ.domain 3
     s0.mntCondition 2 3 = true ∧ s0.mntConflict 2 3 = none ∧ s0.mntFree = some 0) ∧
    (let s0 := (scrubbing.fset R.MNT_REQ.activity 2).fset R.MNT_REQ.domain 3
     s0.mntCondition 2 3 = true ∧ s0.mntConflict 2 3 = some 0) ∧
    scrubbing.fget (R.MNT_SLOT.busy 0) = 1 ∧ scrubbing.fget (R.MNT_SLOT.activity 0) ∈ [2, 3, 4, 7] := by decide
/-- R504: firmware staging and an almanac write are unsafe together in either order. -/
theorem test_clash : State.reset.mntClash 5 0 6 0 = true ∧ State.reset.mntClash 6 0 5 0 = true := by decide

/-- VF 0 with ring 5 enabled, a vector pending, an operation in flight and a lock. -/
def flrState : State :=
  (((ringState 3 0 4 1).setOp 9 (some (ringOp 0 true []))).setVec 3 (true, true)).setBeacon 9
    { Beacon.reset with mode := 2, assigned := true, value := lockWord true false (255, 0x3FF, 0, false) 0 1 }
def hostXfer : Xfer :=
  { desc := leBytes 1 1 ++ leBytes 2 0 ++ leBytes 1 2 ++ List.replicate 60 0, core := 3, total := 4, issued := 1, committed := 0,
    inFlight := [(0, .waiting 1 [])], crc := 0 }
/-- Witnesses of HostLinkAndRegisters. -/
theorem witness_hostLink :
    (0 < flrState.numVfs ∧ (flrState.beacons.map Prod.fst).Nodup ∧ (flrState.op 9).isSome = true ∧ flrState.vec 3 = (true, true) ∧
      getField (flrState.beacon 9).value 0 1 = 1 ∧ getField (flrState.beacon 9).value 1 1 = 0 ∧
      lockOwner (flrState.beacon 9).value = flrState.ownerOf (.vf 0)) ∧
      State.reset.boot.configReady = false ∧ 8 < State.reset.pins.linkWidth ∧
      dSpace hostXfer.desc = 2 ∧ (ringOp 0 true []).status = none ∧ (ringOp 0 true []).xfer = none ∧ (ringState 3 0 4 1).fget (R.QRG_RING_CFG.space 5) = 2 ∧
      (flrState.vec 3).2 = true ∧ (State.reset.vec 3).2 = false ∧
      (regFields 0x60000).isSome = true ∧ regFields 0x3FFFFF8 = none ∧ regRights (.pf 0) 0x60000 = true ∧ regRights (.pf 3) 0x10000 = false ∧
      (regFields 0x10000).isSome = true ∧ regRights .mgmt 0x10000 = false ∧ State.reset.fget R.PRT_STAGE.validating = 0 := by decide +kernel

/-- A log that holds six entries, entry 5 of the soft report's source and code; one that is full for it; and an Eclipse armed for fatal errors. -/
def logged : State :=
  { (State.reset.fset R.ERR_PROD.prod 6) with reports := [softReport], logMeta := [{ index := 5, source := 0x8010, code := 0x0501, first := 0, last := 0 }] }
def fullLog : State := { (State.reset.fset R.ERR_PROD.prod 4032) with reports := [softReport] }
def armed : State := { (State.reset.fset R.ECL_CTL.on_fatal 1) with fatals := [fatalReport] }
/-- Further witnesses of ErrorLog. -/
theorem witness_log :
    ((logged.advance 7).coalesceInto softReport = some { index := 5, source := 0x8010, code := 0x0501, first := 0, last := 0 } ∧
        (logged.advance 7).eclipseSelects 0 = false ∧ (logged.advance 7).reports = [softReport]) ∧
      ((fullLog.advance 7).coalesceInto softReport = none ∧ 4032 ≤ (fullLog.advance 7).logUsed) ∧
      ((armed.advance 7).coalesceInto fatalReport = none ∧ (armed.advance 7).eclipseSelects 4 = true ∧ (armed.advance 7).logUsed < 4096 ∧
        (armed.advance 7).ecl.phase = 0 ∧ (armed.advance 7).fget R.NWT_STATUS.pstate ≠ 2 ∧ (armed.advance 7).fget R.NWT_STATUS.pstate ≠ 4 ∧
        (armed.advance 7).fatals = [fatalReport]) ∧
      ((State.reset.advance 7).fatals = [] ∧ (State.reset.advance 7).reports = []) := by decide +kernel

/-- Further witnesses of RecoveriesStartAndEnd: a recovery of each domain waits; nothing waits; a constellation's post and its operation in the
cluster; images applied and pending; a transfer and a tile that were lost, to be reissued or not. -/
theorem witness_domains :
    (∀ d ∈ [Domain.tcore 5, .pcore 5, .se 3, .cluster 0, .stack 0, .partition 0, .package],
        (let s : State := { State.reset with recq := [aRecovery d 0] }
         s.freeSlot = some 0 ∧ s.nextRecovery = some (aRecovery d 0) ∧ (s.regs.map Prod.fst).Nodup)) ∧
      State.reset.nextRecovery = none ∧
      (let s := (cstState [(5, openPost)] []).setOp 9 (some (ringOp 0x30 true []))
       (∃ e ∈ s.posts, e.1 / 64 = 0) ∧ s.op 9 = some (ringOp 0x30 true []) ∧ s.partOfCluster 0 = some 0 ∧ leAt (ringOp 0x30 true []).desc 0 1 = 0x30) ∧
      (State.reset.tcoreUp 5 = true ∧ State.reset.pcoreUp 5 = true ∧ State.reset.ecl.phase = 0 ∧ State.reset.nwt.night = false ∧
        (State.reset.tcore 5).cc.retired = false) := by decide +kernel
/-- A recovery of T-core 3 in slot 0, with an operation of partition 0 in slot 9. -/
def recovering (o : Op) (reissue : Nat) : State :=
  { ((matmulState.setOp 9 (some o)).fset (R.PRT_CTL.auto_reissue 0) reissue) with recs := [aRecovery (.tcore 3) 0] }
def lostXfer : Op := { ringOp 1 true [] with xfer := some (aXfer 0 1 1 0 []) }
def lostTile : Op := { ringOp 0x10 true [] with work := [(4, 3)] }
theorem witness_reissues :
    (∀ e ∈ [(lostXfer, 1), (lostXfer, 0), (lostTile, 1), (lostTile, 0), ({ lostTile with again := [(4, 2)] }, 1)],
        (let s := recovering e.1 e.2
         s.recs.find? (fun x => x.slot == 0) = some (aRecovery (.tcore 3) 0) ∧ (s.ops.map Prod.fst).Nodup ∧ s.op 9 = some e.1 ∧ e.1.status = none ∧
           s.fget (R.PRT_CTL.auto_reissue e.1.partition) = e.2 ∧ s.partTcores e.1.partition ≠ [] ∧ e.1.reissues < 2)) ∧
      (lostTile.work.filter (fun w => w.2 == 3)).map Prod.fst = [4] ∧ assocGet (fun _ => 0) lostTile.again 4 < 2 ∧
      2 ≤ assocGet (fun _ => 0) ({ lostTile with again := [(4, 2)] } : Op).again 4 := by decide +kernel
/-- Every slot of the arbiter held. -/
theorem witness_maintenanceFull :
    let s := (List.range 16).foldl (fun (t : State) i => t.fset (R.MNT_SLOT.busy i) 1) State.reset
    (∀ i, i < 16 → s.fget (R.MNT_SLOT.busy i) = 1) ∧ (∀ i, i < 16 → s.fget (R.MNT_SLOT.activity i) = 0) := by decide +kernel
/-- Further witnesses of HostLinkAndRegisters: a refused read of a transfer's element, a write that meets staged bytes under validation, a function
of the host's virtual ones. -/
theorem witness_hostAccess :
    hostXfer.inFlight.find? (fun p => match p.2 with | .waiting _ _ => true | _ => false) = some (0, .waiting 1 []) ∧
      (padRing.setOp 9 (some { doneOp with ring := 5 })).fget (R.QRG_RING_CFG.space 6) = 2 ∧
      (State.reset.fset R.PRT_STAGE.validating 1).fget R.PRT_STAGE.validating = 1 ∧ regRights (.pf 0) 0x80000 = true ∧ 0 < flrState.numVfs ∧
      (regFields (0x1100000 + 0x1000 * 0 + 0x140)).isSome = true ∧ State.reset.boot.stage ≠ .recovery ∧ State.reset.reports.length < 64 ∧
      ({ State.reset with boot := { State.reset.boot with configReady := true } } : State).boot.configReady = true := by decide +kernel

/-- A firmware copy of two stages of four bytes, signed by the test key. -/
def fwHeader : List Byte :=
  leBytes 4 0x4E524946 ++ leBytes 4 0xF40 ++ leBytes 4 0x07020000 ++ leBytes 4 0 ++ [4, 3] ++ leBytes 2 0 ++ leBytes 4 4 ++ leBytes 4 264 ++
    List.replicate 36 0 ++ sha384 [1, 2, 3, 4] ++ sha384 [5, 6, 7, 8]
def goodFw : List Byte := fwHeader ++ leBytes 48 testR ++
  leBytes 48 0xe21b5e06be5c4bcac3160f5c4b41c129e8fb1ffe6cb711f7940b66ade50d931bdfd32ebecfd5fda776075879cffe88f4 ++ [1, 2, 3, 4, 5, 6, 7, 8]
/-- The same copy with another stage 2. -/
def badStage2 : List Byte := putBytes goodFw 260 [9]
/-- R465, R466: the copy is bootable under the test key, and not where a byte of its header, or of stage 1, is another. -/
theorem test_firmware :
    ({ State.reset with nv := keyedNv } : State).fwPasses (parseFw goodFw) = true ∧ (parseFw goodFw).stage2Ok = true ∧
      ({ State.reset with nv := keyedNv } : State).fwPasses (parseFw (putBytes goodFw 8 [1])) = false ∧
      ({ State.reset with nv := keyedNv } : State).fwPasses (parseFw (putBytes goodFw 256 [9])) = false ∧ (parseFw badStage2).stage2Ok = false := by
  decide +kernel

/-- A package whose flash copy A boots, with a pending copy and trials. -/
def flashState (pending trials : Nat) : State :=
  { State.reset with nv := { keyedNv with fwA := goodFw, rec0 := recBytes ⟨5, 0, pending, trials⟩ } }
/-- Firmware running with these milestones. -/
def runningState (m : Nat) : State :=
  { (flashState 255 0).fset R.GLB_BOOT.milestones m with boot := { Boot.reset with stage := .running } }
/-- Witnesses of ResetsAndBringUp: a record that wins; pins, rails and clocks; a boot ROM that has selected a copy whose stage 2 is right or not;
milestones; units that fail; clocks lost and held; a rail that was asked for a voltage. -/
theorem witness_bringUp :
    ({ State.reset with pins := { Pins.reset with perstN := true } } : State).pins.perstN = true ∧
      ({ State.reset with boot := { Boot.reset with watchdog := true } } : State).boot.watchdog = true ∧ (State.reset.regs.map Prod.fst).Nodup ∧
      State.reset.pins.perstN = false ∧ State.reset.pins.railsBad = [] ∧ State.reset.pins.clocksLost = [] ∧ State.reset.boot.stage = .inReset ∧
      State.reset.fget R.NWT_STATUS.pstate ≠ 4 ∧ recOf (flashState 1 0).nv.rec0 = some ⟨5, 0, 1, 0⟩ ∧ recOf (flashState 1 0).nv.rec1 = none ∧
      (flashState 1 0).bootable 0 = true ∧ (flashState 1 0).bootable 1 = false ∧ State.reset.bootable 0 = false ∧
      (∀ m ∈ [1, 3, 7, 0x37], (runningState m).boot.stage = .running ∧ (runningState m).fget R.GLB_BOOT.milestones = m) ∧
      (∀ p, p < 16 → (runningState 7).partPresent p = false) ∧
      ((runningState 0x37).fset R.PRT_BOOT.loaded 0).fget R.PRT_BOOT.loaded ≠ 3 ∧ State.reset.ecl.phase ≠ 2 ∧ State.reset.eclipseSelects 4 = false ∧
      (State.reset.fset R.ECL_CTL.on_fatal 1).eclipseSelects 4 = true ∧
      State.reset.pins.avsSet = [800, 800] ∧ State.reset.pins.heldByClock = false ∧ State.reset.fatals.length < 8 := by decide +kernel
theorem witness_bringUp2 :
    (let s : State := { flashState 255 0 with boot := { Boot.reset with stage := .rom } }
     s.boot.stage = .rom ∧ s.boot.copy < 2 ∧ (s.fwCopy 0).stage2Ok = true) ∧
      (({ flashState 255 0 with nv := { keyedNv with fwA := badStage2 } } : State).fwCopy 0).stage2Ok = false ∧
      (let s : State := { State.reset with pins := { Pins.reset with perstN := true, railsBad := [3], clocksLost := [.mhz25] } }
       s.pins.railsBad ≠ [] ∧ 7 ∉ s.pins.railsBad ∧ s.pins.perstN = true ∧ s.pins.clocksLost ≠ []) ∧
      (let s : State := { State.reset with pins := { Pins.reset with perstN := true, clocksLost := [.mhz25], heldByClock := true } }
       (∀ x ∈ s.pins.clocksLost, x = .mhz25) ∧ s.pins.heldByClock = true ∧ s.boot.stage = .inReset) ∧
      (let s : State := { State.reset with pins := { Pins.reset with avsAsked := [some 760, none] } }
       s.pins.avsSet.length = 2 ∧ s.pins.avsAsked.length = 2 ∧ s.pins.avsAsked[0]? = some (some 760)) ∧
      (State.reset.fset R.NWT_STATUS.pstate 4).fget R.NWT_STATUS.pstate = 4 := by decide +kernel
/-- R467: the third boot of a pending copy that never reached IMAGE abandons it and boots copy A. -/
theorem test_romAbandons :
    (match exec (.internalResetRelease 5) { flashState 1 2 with pins := { Pins.reset with perstN := true } } with
     | .next t => (t.boot.stage, t.boot.copy, t.winRecord.2.pending, t.winRecord.2.seq, t.boot.watchdog) | _ => (.inReset, 9, 0, 0, true)) =
      (.rom, 0, 255, 6, false) := by decide +kernel

/-- Firmware running with programmed owner slots, and an update staged. -/
def ownedState (slots : List Nat) (staging : Option Nat) : State :=
  { runningState 7 with
    nv := { (runningState 7).nv with ownerSlots := slots }
    boot := { Boot.reset with stage := .running, staging := staging } }
/-- Witnesses of Management. -/
theorem witness_management :
    (let s := ownedState [1, 1, 0, 0] (some 0)
     s.boot.stage = .running ∧ (∃ x ∈ s.nv.ownerSlots, x = 1) ∧ s.nv.ownerSlots.length = 4 ∧ s.nv.ownerKeys.length = 4 ∧ s.nv.ownerDigests.length = 4 ∧
       s.nv.ownerSlots[2]? = some 0 ∧ s.nv.ownerSlots[1]? = some 1 ∧ s.nv.fwMin ≤ 5 ∧ s.nv.imageMin ≤ 5 ∧ s.boot.copy < 2 ∧
       s.winRecord.2.seq < 2 ^ 64 - 1) ∧
      (let s := ownedState [1, 0, 0, 0] none
       (∃ i, i < 16 ∧ s.fget (R.MNT_SLOT.busy i) = 0) ∧ (∀ i, i < 16 → s.fget (R.MNT_SLOT.busy i) ≠ 1) ∧ s.boot.staging = none ∧
         ¬ ∃ j, j < 4 ∧ j ≠ 0 ∧ s.nv.ownerSlots[j]? = some 1) ∧
      (((ownedState [1, 0, 0, 0] none).mntTake 0 6 0 0).fget (R.MNT_SLOT.activity 0) = 6) ∧
      ¬ (∃ x ∈ (ownedState [0, 0, 0, 0] none).nv.ownerSlots, x = 1) ∧
      (ownedState [1, 0, 0, 0] (some 0)).fwPasses (parseFw goodFw) = true ∧
      leAt goodFw 0x11 1 ≤ leAt ((ownedState [1, 0, 0, 0] (some 0)).fwBytes 0) 0x10 1 ∧ leAt goodFw 0x12 2 ≤ 2 ∧
      (∀ st ∈ [BootStage.recovery, .halted, .inReset], ({ State.reset with boot := { Boot.reset with stage := st, staging := some 0 } } : State).boot.stage = st) := by
  decide +kernel

/-- A package whose almanac is in a state, at a step; the two own pointers name slot 1 (seq 5) and slot 0 (seq 4). -/
def almStateOf (state step : Nat) (todo : List Nat) : State :=
  let s := ((State.reset.fset R.ALM_STATUS.state state).fset R.ALM_CUT_AT.at_transit 900).fset R.ALM_RST_SRC.ldn 3
  { s with
    togus := { Togus.none with sections := wholeSections }
    alm := { Alm.reset with
      step := step, todo := todo, localWait := true, mirrorOk := true, target := 0, cut := 900,
      ptrs := [(true, 5, 1, 800), (true, 4, 0, 700), (false, 0, 0, 0), (false, 0, 0, 0)] } }
def onAlm (s : State) (f : Alm → Alm) : State := { s with alm := f s.alm }
/-- Two drives with area for the state shard. -/
def withDrives (s : State) : State := (s.fset R.ALM_NVME.drive_mask 3).fset R.ALM_AREA_LEN.area_len 4096
/-- Witnesses of Almanacs, saving: armed with its drives and without, for entries in range or not; a slot not granted; quiet or not; steps of the
write with the drives', the buddy's, or no wait open; another package's mirror. -/
theorem witness_almanacs :
    (let s := almStateOf 0 0 []
     s.fget R.ALM_STATUS.state = 0 ∧ s.fget R.TRN_NUMBER.transit + 1 < s.fget R.ALM_CUT_AT.at_transit ∧ (s.mntDecide 6 0 true).1 = 0 ∧
       s.fget R.ALM_RST_SRC.ldn ≠ 255 ∧ s.almEntries = [] ∧ s.almDrives = 0 ∧ (withDrives s).almDrives = 2 ∧
       (withDrives s).almFits (s.fget R.ALM_PLAN.part_mask) = true ∧
       ((withDrives s).fset R.ALM_AREA_LEN.area_len 256).almFits (s.fget R.ALM_PLAN.part_mask) = false ∧
       (let t := s.fset (R.ALM_SHARD_LEN.length 3) 5
        t.almEntries = [3] ∧ t.entryOk 0 3 = false) ∧
       ((s.mntTake 0 6 0 0).mntDecide 6 0 true).1 ≠ 0 ∧ ((s.mntTake 0 6 0 0).mntSlotOf 6).isSome = true ∧ s.mntSlotOf 6 = none) := by decide +kernel
theorem witness_almanacSteps :
    ((almStateOf 2 0 []).fget R.ALM_STATUS.state = 2 ∧ (almStateOf 2 0 []).almSlot 0 = some 1 ∧ (almStateOf 2 0 []).quiet = true ∧
      (almStateOf 2 0 []).alm.cancelAsked = false ∧ (almStateOf 2 0 []).alm.manifests.length = 4) ∧
      (let s := onAlm ((almStateOf 2 0 []).setOp 9 (some (ringOp 0 true []))) (fun a => { a with parts := 1 })
       s.quiet = false) ∧
      (∀ e ∈ [(3, 1, [0]), (3, 2, [0, 1]), (3, 2, [0]), (3, 3, []), (4, 4, []), (5, 5, [])],
        let s := almStateOf e.1 e.2.1 e.2.2
        s.fget R.ALM_STATUS.state = e.1 ∧ s.alm.step = e.2.1 ∧ s.alm.todo = e.2.2 ∧ s.alm.localWait = true ∧ s.alm.buddyWait = false ∧
          s.alm.mirrorOk = true ∧ s.alm.cancelAsked = false ∧ s.alm.target < 2 ∧ s.alm.manifests.length = 4 ∧ s.alm.ptrs.length = 4) ∧
      (let s := onAlm (almStateOf 3 1 [0]) (fun a => { a with localWait := false, buddyWait := true })
       s.alm.buddyWait = true ∧ s.alm.mirrorOk = true ∧ s.alm.localWait = false) ∧
      (onAlm (almStateOf 3 1 [0]) (fun a => { a with cancelAsked := true, mirroring := true, mirrorOk := false })).alm.cancelAsked = true ∧
      (∀ x ∈ (almStateOf 5 5 []).alm.ptrs, x.2.1 < 2 ^ 64 - 1) ∧ (almStateOf 0 0 []).almPtr 1 = none := by decide +kernel
/-- R518, step 5: the new pointer is the winner and names slot 0 with seq 6. -/
theorem test_commit :
    (match exec (.almanacIoDone false true) (almStateOf 5 5 []) with
     | .next t => (t.alm.ptrs.take 2, t.fget R.ALM_LAST.transit) | _ => ([], 0)) = ([(true, 5, 1, 800), (true, 6, 0, 900)], 900) := by decide +kernel

/-- A shard of 8 bytes, one of a state with nothing saved in it, and a manifest of one entry. -/
def eightBytes : List Byte := leBytes 8 0x1122334455667788
def bareState : List Byte := List.replicate 128 0
def manifestOf (id version : Nat) (structure_ shard : List Byte) : List Byte :=
  let body := sized 0x500 (leBytes 4 0x434E4C41 ++ leBytes 2 1 ++ leBytes 2 0 ++ leBytes 8 900 ++ sized 48 structure_ ++ leBytes 4 version ++ List.replicate 14 0 ++
    leBytes 2 1) ++ (leBytes 2 id ++ List.replicate 14 0 ++ leBytes 8 shard.length ++ leBytes 8 4096 ++ sha384 shard ++ List.replicate 16 0)
  body ++ sha384 body ++ List.replicate 96 0
/-- Slot 0 of the own area holds that manifest and shard; a restore of the state or of shard 1 from it, or from another package. -/
def restoring (state : Bool) (ldn : Nat) (m shard : List Byte) (rst : Option Restore) : State :=
  let s := almStateOf (if rst.isSome then 6 else 0) 0 []
  onAlm (((((s.fset R.ALM_RST_SRC.ldn ldn).fset R.ALM_RST_SRC.state_restore state.toNat).fset R.ALM_RST_SRC.shard 1).fset R.ALM_RST_DST.dst 0x1200000000).fset
    R.ALM_RST_SRC.slot 0) (fun a => { a with manifests := [m, [], [], []], shards := [(0, if state then 0 else 1, shard)], rst := rst })
/-- Witnesses of Almanacs, restoring: a sound manifest of this version and structure, or not; its entry there, or not; the target reached, or not. -/
theorem witness_restore :
    (let m := manifestOf 1 0 [] eightBytes
     let s := restoring false 255 m eightBytes none
     (s.mntDecide 6 0 true).1 = 0 ∧ s.fget R.ALM_RST_SRC.ldn = 255 ∧ (s.fset R.ALM_RST_SRC.use_pointer 0).fget R.ALM_RST_SRC.use_pointer = 0 ∧ s.fget R.ALM_RST_SRC.use_pointer = 1 ∧ s.alm.manifests.getD 0 [] = m ∧ manifestSound m = true ∧
       leAt m 0x40 4 = s.fget R.GLB_FW.version ∧ entryAt m 1 = some 0x500 ∧ entryAt m 0 = none ∧ s.dstOk 0x1200000000 8 = true ∧ s.dstOk 0x1200000100 8 = false) ∧
      manifestSound (manifestOf 1 0 [] eightBytes ++ [0]) = true ∧ manifestSound [] = false ∧ leAt (manifestOf 1 7 [] eightBytes) 0x40 4 ≠ 0 := by decide +kernel
theorem witness_restored :
    (let m := manifestOf 1 0 [] eightBytes
     let s := restoring false 255 m eightBytes (some { own := some 0, manifest := m })
     s.alm.rst = some { own := some 0, manifest := m } ∧ entryAt m 1 = some 0x500 ∧ leAt m (0x500 + 16) 8 = 8 ∧
       sha384 eightBytes = (m.drop (0x500 + 32)).take 48 ∧ llmBase 0 ≤ 0x1200000000 ∧ 0x1200000000 + 8 ≤ llmBase 64 ∧
       s.alm.shards.find? (fun e => e.1 == 0 && e.2.1 == 1) = some (0, 1, eightBytes)) ∧
      (let m := manifestOf 0 0 [] bareState
       entryAt m 0 = some 0x500 ∧ leAt m (0x500 + 16) 8 = 128 ∧ sha384 bareState = (m.drop (0x500 + 32)).take 48 ∧ leAt bareState 66 2 = 0) := by decide +kernel
/-- A state shard of one core, no tenant, and one solve whose workspace lies in partition 0. -/
theorem witness_savedSolve :
    let b := List.replicate 62 (0 : Byte) ++ leBytes 2 1 ++ leBytes 2 0 ++ leBytes 2 1 ++ List.replicate 92 0 ++ plain ++ List.replicate 4104 0
    leAt b 62 2 = 1 ∧ leAt b 64 2 = 0 ∧ leAt b 66 2 = 1 ∧ (b.drop 160).take 256 = plain ∧ llmBase 0 ≤ sWork plain ∧ sWork plain + 4104 ≤ llmBase 64 ∧
      160 + 256 + 4104 ≤ b.length ∧ (almStateOf 0 0 []).partOfLlm ((sWork plain - llmBase 0) / 0x2000000) = some 0 := by decide +kernel

/-- A NIGHT_WATCH section with sensor 63 enabled, shift 2, and rule 0 on its raw value: above 100, hysteresis 10, hold 2. -/
def watchSections : List (List Byte) :=
  List.replicate 6 [] ++ [List.replicate 504 0 ++ [1, 2] ++ List.replicate 6 0 ++ [1, 63, 0, 1, 100, 0, 10, 0, 2, 0] ++ List.replicate 502 0]
def watchState (p : Nat) : State :=
  let s := { State.reset with togus := { Togus.none with sections := watchSections } }.fset R.NWT_STATUS.pstate p
  { s with nwt := { Nwt.reset with started := true, filt := [(63, 51200)], hold := [(0, 1)], hot := [(5, 1)], limit := [(5, 75)], coolSince := [(5, some 0)],
                                   wakeAtNs := some 0 }, clock := 10000000 }
/-- 150 mL/min of coolant, die 5 at 105 C. -/
def aSweep : List Int := List.replicate 5 0 ++ [1680] ++ List.replicate 57 0 ++ [150]
/-- Witnesses of NightWatchAndEclipse. -/
theorem witness_nightWatch :
    (let s := watchState 0
     aSweep.length = 64 ∧ leAt (s.sect 7) (8 * 63) 1 = 1 ∧ leAt (s.sect 7) (8 * 62) 1 ≠ 1 ∧ leAt (s.sect 7) 0x200 1 = 1 ∧ leAt (s.sect 7) 0x201 1 = 63 ∧
       leAt (s.sect 7) 0x208 2 = 2 ∧ s.fget R.NWT_STATUS.rules_true = 0 ∧ s.fget R.NWT_STATUS.pstate = 0 ∧ s.ops = [] ∧ s.ecl.phase = 0 ∧ s.mntHeld = [] ∧
       s.regs = [] ∧ s.fatals.length < 8) ∧
      (∀ p ∈ [1, 2, 3, 4], (watchState p).fget R.NWT_STATUS.pstate = p) ∧ (watchState 4).shutdownHolds = false ∧ (watchState 1).nwt.wakeSource = 0 ∧
      (((watchState 0).fset R.NWT_STATUS.rules_true 1).fget R.NWT_STATUS.rules_true / 2 ^ 0 % 2 = 1) ∧
      ({ watchState 4 with nwt := { Nwt.reset with hot := [(5, 2)] } } : State).shutdownHolds = true ∧ State.reset.portWorks 0 = true ∧
      State.reset.fget R.ECL_CTL.pin_fast = 1 ∧ State.reset.fget R.ECL_CTL.cmd_fast = 0 ∧ State.reset.fget R.ECL_CTL.resume = 0 ∧
      (∀ e ∈ [(1, false), (2, true), (2, false)], ({ State.reset with ecl := { State.reset.ecl with phase := e.1, fast := e.2 } } : State).ecl.phase = e.1) := by
  decide +kernel
/-- Rules of every action: wake and shutdown. -/
theorem witness_actions :
    let sect := fun (a : Byte) => List.replicate 504 (0 : Byte) ++ [1, 2] ++ List.replicate 6 0 ++ [1, 63, 0, 1, 100, 0, 10, 0, 1, 0, a] ++ List.replicate 501 0
    (leAt (sect 4) 0x20A 1 / 4 % 2 = 1 ∧ leAt (sect 1) 0x20A 1 % 2 = 1 ∧ leAt (sect 1) 0x20A 1 / 4 % 2 = 0) := by decide +kernel
/-- R530: from y = 200, a sample of 150 with shift 2 filters to 187.5. -/
theorem test_filter : filterStep 51200 150 2 = 48000 ∧ (48000 : Int).fdiv 256 = 187 ∧ filterStep (-3) 0 1 = -2 := by decide
/-- R531: the second sample above 100 makes rule 0 true and counts it. -/
theorem test_rule :
    (let t := ((watchState 0).fset (R.NWT_SENSOR.raw 63) 150).evalRule 0
     t.fget R.NWT_STATUS.rules_true = 1 ∧ t.fget (R.NWT_RULE_CNT.hits 0) = 1) := by decide +kernel

/-! Ill-formed commands: one for each check, which the check refuses. -/
theorem test_wf_refuses_tcoreOk : Instr.wf (.loads 512) = false := by decide
theorem test_wf_refuses_seOk : Instr.wf (.solveStart 0 0 16) = false := by decide
theorem test_wf_refuses_chanOk : Instr.wf (.channelZeroDone 64) = false := by decide
theorem test_wf_refuses_portOk : Instr.wf (.linkDelayMeasure 64 0) = false := by decide
theorem test_wf_refuses_lamOk : Instr.wf (.wavelengthLoss 0 4) = false := by decide
theorem test_wf_refuses_linkOk : Instr.wf (.candidate 256 0 0 0 0) = false := by decide
theorem test_wf_refuses_clusterOk : Instr.wf (.parkFree 128 0) = false := by decide
theorem test_wf_refuses_dieOk : Instr.wf (.d2dRetry 40 0) = false := by decide
theorem test_wf_refuses_partOk : Instr.wf (.applyComplete 16) = false := by decide
theorem test_wf_refuses_railOk : Instr.wf (.railFail 8) = false := by decide
theorem test_wf_refuses_avsOk : Instr.wf (.avsAck 2) = false := by decide
theorem test_wf_refuses_sliceOk : Instr.wf (.llmWritebackDone 8) = false := by decide
theorem test_wf_refuses_sensorOk : Instr.wf (.pldmGetSensor 64) = false := by decide
theorem test_wf_refuses_laserOk : Instr.wf (.laserReturn 8) = false := by decide
theorem test_wf_refuses_descOk : Instr.wf (.livenessQuery 0 0 0 4096 0) = false := by decide
theorem test_wf_refuses_mdieOk : Instr.wf (.livenessQuery 0 0 8 0 0) = false := by decide
theorem test_wf_refuses_beaconOk : Instr.wf (.beaconRead (.pf 0) 16384) = false := by decide
theorem test_wf_refuses_mapOk : Instr.wf (.mapEnableWrite (.pf 0) 64 0) = false := by decide
theorem test_wf_refuses_ringOk : Instr.wf (.descriptorFetch 262144 []) = false := by decide
theorem test_wf_refuses_vfOk : Instr.wf (.sqDoorbell 4096 0 0) = false := by decide
theorem test_wf_refuses_vfRingOk : Instr.wf (.sqDoorbell 0 64 0) = false := by decide
theorem test_wf_refuses_ldnOk : Instr.wf (.lost 144 0) = false := by decide
theorem test_wf_refuses_regOk : Instr.wf (.qpushMe (.tc 0) 32) = false := by decide
theorem test_wf_refuses_mntSlotOk : Instr.wf (.mntActivityDone 16) = false := by decide
theorem test_wf_refuses_seqSlotOk : Instr.wf (.recoveryComplete 4 []) = false := by decide
theorem test_wf_refuses_prioOk : Instr.wf (.beaconReprioritise (.pf 0) 0 8) = false := by decide
theorem test_wf_refuses_tileOk : Instr.wf (.matmul 0 64 [] 0) = false := by decide
theorem test_wf_refuses_sizeOk : Instr.wf (.scalarStore (.tc 0) 1 2 0 3) = false := by decide
theorem test_wf_refuses_byteOk : Instr.wf (.collective 0 256 0 0) = false := by decide
theorem test_wf_refuses_activityOk : Instr.wf (.mntRequest (.pf 0) 16 0) = false := by decide
theorem test_wf_refuses_domainOk : Instr.wf (.mntRequest (.pf 0) 0 128) = false := by decide
theorem test_wf_refuses_coreOk : Instr.wf (.xclr (.pc 192)) = false := by decide
theorem test_wf_refuses_fnOk : Instr.wf (.flr (.pf 4)) = false := by decide
theorem test_wf_refuses_whoOk : Instr.wf (.beaconRead (.se 16) 0) = false := by decide
theorem test_wf_refuses_moverOk : Instr.wf (.move (.fe 512)) = false := by decide
theorem test_wf_refuses_reqOk : Instr.wf (.rackLoad { src := 0, who := .tcore 0, id := 0, desc := 4096, off := 0, len := 4, key := 0, transit := 0, service := false, authed := true }) = false := by decide
theorem test_wf_refuses_flitOk : Instr.wf (.idleFlit 0 0 0 { ftype := 0, vc := 8, enc := false, seq := 0, ackSeq := 0, ackValid := false, gap := false, keyPhase := false, crVc := 0, crClass := 0, crCount := 0, used := 0, rsv := 0, txCount := 0, corrected := false, tagOk := true, msgs := [], credits := [] }) = false := by decide
theorem test_wf_refuses_hdrOk : Instr.wf (.colData 0 0 { cst := 1024, epoch := 0, seq := 0, srcIndex := 0, dstCluster := 0, lastPkt := true, pkt := 0, msg := 0, exact := false } []) = false := by decide
theorem test_wf_refuses_entryOk : Instr.wf (.post 0 0 []) = false := by decide
theorem test_wf_refuses_slotOk : Instr.wf (.sendSlotArm 0 0 []) = false := by decide

theorem test_wf_accepts : Instr.wf (.loads 511) = true ∧ Instr.wf (.flr (.vf 4095)) = true ∧ Instr.wf (.xclr (.pc 191)) = true := by decide

theorem test_read_beacon : ((State.reset.setReg A.BCN_SEL 5).setBeacon 5 { Beacon.reset with value := 9 }).readReg A.BCN_VALUE = 9 := by decide

theorem test_read_vf_number : ({ State.reset with numVfs := 8 }).vfInfo 7 = 0x20007 := by decide

end Sys2Proof.Tests
end

/-! Every command completes: the laws of its meaning, one arm per constructor. -/
namespace Sys2Proof.Machine

/-- Every command ends in a next state that keeps what `Keeps` names, counted from any earlier state `σ`. -/
theorem exec_ends {σ : State} (c : Instr) (s : State) (hk : Keeps σ s) : Ends σ (exec c s) :=
  match c with
  | .d2dRetry a b => execD2dRetry_ends a b s hk
  | .moduleRetired a b m => execModuleRetired_ends a b m s hk
  | .linkLost a b => execLinkLost_ends a b s hk
  | .moduleRetrainDone a b m => execModuleRetrainDone_ends a b m s hk
  | .submit fn => execSubmit_ends fn s hk
  | .validationDone => execValidationDone_ends s hk
  | .withdraw fn p => execWithdraw_ends fn p s hk
  | .restructureWaitExpiry p => execRestructureWaitExpiry_ends p s hk
  | .applyComplete p => execApplyComplete_ends p s hk
  | .channelZeroDone ch => execChannelZeroDone_ends ch s hk
  | .imageLoaded => execImageLoaded_ends s hk
  | .periodNextWrite fn period atTransit => execPeriodNextWrite_ends fn period atTransit s hk
  | .candidate link hops prio phys number => execCandidate_ends link hops prio phys number s hk
  | .electionQuietExpiry now => execElectionQuietExpiry_ends now s hk
  | .master link hops phys ldn first => execMaster_ends link hops phys ldn first s hk
  | .masterLostTimeout now => execMasterLostTimeout_ends now s hk
  | .schedule now link hops n fire period origin delay => execSchedule_ends now link hops n fire period origin delay s hk
  | .dark link hops n pairs last => execDark_ends link hops n pairs last s hk
  | .syncTimer now => execSyncTimer_ends now s hk
  | .sync now link hops origin delay => execSync_ends now link hops origin delay s hk
  | .linkDelayMeasure port roundTrip => execLinkDelayMeasure_ends port roundTrip s hk
  | .doneSend => execDoneSend_ends s hk
  | .done now link hops n ldn => execDone_ends now link hops n ldn s hk
  | .scheduleDecision now => execScheduleDecision_ends now s hk
  | .stretchLimitExpiry now => execStretchLimitExpiry_ends now s hk
  | .transitFire now => execTransitFire_ends now s hk
  | .windowBoundary now p => execWindowBoundary_ends now p s hk
  | .watchdogWarn now p => execWatchdogWarn_ends now p s hk
  | .stepDoneWrite who p value => execStepDoneWrite_ends who p value s hk
  | .windowWrite fn p sz value => execWindowWrite_ends fn p sz value s hk
  | .droopDetect now die => execDroopDetect_ends now die s hk
  | .droopStretchEnd now die => execDroopStretchEnd_ends now die s hk
  | .overMargin p => execOverMargin_ends p s hk
  | .qpushMe u fs1 => execQpushMe_ends u fs1 s hk
  | .loads c => execLoads_ends c s hk
  | .swap c => execSwap_ends c s hk
  | .stream c errs => execStream_ends c errs s hk
  | .drain c errs => execDrain_ends c errs s hk
  | .mode c => execMode_ends c s hk
  | .scale c => execScale_ends c s hk
  | .waitb c q => execWaitb_ends c q s hk
  | .fence c q => execFence_ends c q s hk
  | .pxRunComplete c errs => execPxRunComplete_ends c errs s hk
  | .pxCoreRetire c => execPxCoreRetire_ends c s hk
  | .exceptionReturn u => execExceptionReturn_ends u s hk
  | .pxHandlerTimeout c => execPxHandlerTimeout_ends c s hk
  | .pxInject fn c col persist => execPxInject_ends fn c col persist s hk
  | .queueSkip fn c q => execQueueSkip_ends fn c q s hk
  | .queueFlush fn c q => execQueueFlush_ends fn c q s hk
  | .qpushVe u fs1 => execQpushVe_ends u fs1 s hk
  | .vld c err => execVld_ends c err s hk
  | .vst c err => execVst_ends c err s hk
  | .vmov c err => execVmov_ends c err s hk
  | .vbcast c err => execVbcast_ends c err s hk
  | .vcvt c err => execVcvt_ends c err s hk
  | .vadd c err => execVadd_ends c err s hk
  | .vsub c err => execVsub_ends c err s hk
  | .vmul c err => execVmul_ends c err s hk
  | .vfma c err => execVfma_ends c err s hk
  | .vmin c err => execVmin_ends c err s hk
  | .vmax c err => execVmax_ends c err s hk
  | .vminnum c err => execVminnum_ends c err s hk
  | .vmaxnum c err => execVmaxnum_ends c err s hk
  | .vabs c err => execVabs_ends c err s hk
  | .vneg c err => execVneg_ends c err s hk
  | .vand c err => execVand_ends c err s hk
  | .vor c err => execVor_ends c err s hk
  | .vxor c err => execVxor_ends c err s hk
  | .vshl c err => execVshl_ends c err s hk
  | .vshr c err => execVshr_ends c err s hk
  | .vdiv c err => execVdiv_ends c err s hk
  | .vsqrt c err => execVsqrt_ends c err s hk
  | .vcmp c err => execVcmp_ends c err s hk
  | .vtotord c err => execVtotord_ends c err s hk
  | .vsel c err => execVsel_ends c err s hk
  | .vtr c err => execVtr_ends c err s hk
  | .vseg c err => execVseg_ends c err s hk
  | .vrecv c err => execVrecv_ends c err s hk
  | .vrget c err => execVrget_ends c err s hk
  | .mirrorModeApply c => execMirrorModeApply_ends c s hk
  | .qpushFe u fs1 => execQpushFe_ends u fs1 s hk
  | .qsync u mask => execQsync_ends u mask s hk
  | .qdepth u xd func => execQdepth_ends u xd func s hk
  | .srget u xd func => execSrget_ends u xd func s hk
  | .srput u xs func => execSrput_ends u xs func s hk
  | .xclr u => execXclr_ends u s hk
  | .xdot u fs1 fs2 => execXdot_ends u fs1 fs2 s hk
  | .xadd u fs1 => execXadd_ends u fs1 s hk
  | .xrnd u fd func => execXrnd_ends u fd func s hk
  | .xsave u fs1 => execXsave_ends u fs1 s hk
  | .xload u fs1 => execXload_ends u fs1 s hk
  | .vectorLoad u word => execVectorLoad_ends u word s hk
  | .vectorStore u word => execVectorStore_ends u word s hk
  | .vlff u word => execVlff_ends u word s hk
  | .vectorArith u op word => execVectorArith_ends u op word s hk
  | .wideningMultiply u word => execWideningMultiply_ends u word s hk
  | .dotProduct u word => execDotProduct_ends u word s hk
  | .scalarFpOp u op fmt fd fs1 fs2 => execScalarFpOp_ends u op fmt fd fs1 fs2 s hk
  | .integerOp u op xd xs1 xs2 imm => execIntegerOp_ends u op xd xs1 xs2 imm s hk
  | .scalarLoad u xd xs1 imm size signed => execScalarLoad_ends u xd xs1 imm size signed s hk
  | .scalarStore u xs1 xs2 imm size => execScalarStore_ends u xs1 xs2 imm size s hk
  | .loadDataReturn u k => execLoadDataReturn_ends u k s hk
  | .jumbeFence u => execJumbeFence_ends u s hk
  | .fpsrWrite u value => execFpsrWrite_ends u value s hk
  | .trapElemWrite u value => execTrapElemWrite_ends u value s hk
  | .exceptionTake u => execExceptionTake_ends u s hk
  | .assemble slot => execAssemble_ends slot s hk
  | .assembleDone slot => execAssembleDone_ends slot s hk
  | .solve slot => execSolve_ends slot s hk
  | .solveStart now slot se => execSolveStart_ends now slot se s hk
  | .solveIteration now se => execSolveIteration_ends now se s hk
  | .solveDeadlineCheck now se => execSolveDeadlineCheck_ends now se s hk
  | .callbackTimeout now se => execCallbackTimeout_ends now se s hk
  | .solveReduction se far => execSolveReduction_ends se far s hk
  | .solveReturnDone now se first second tookNs => execSolveReturnDone_ends now se first second tookNs s hk
  | .solveAbort fn se => execSolveAbort_ends fn se s hk
  | .meshScratchpadAccess c off who a b => execMeshScratchpadAccess_ends c off who a b s hk
  | .move who => execMove_ends who s hk
  | .gather who => execGather_ends who s hk
  | .scatter who => execScatter_ends who s hk
  | .feElementResponse who e r => execFeElementResponse_ends who e r s hk
  | .feComplete who => execFeComplete_ends who s hk
  | .sramPoison pa bits => execSramPoison_ends pa bits s hk
  | .compatWrite fn c v => execCompatWrite_ends fn c v s hk
  | .compatZeroDone c => execCompatZeroDone_ends c s hk
  | .directoryTransaction line r => execDirectoryTransaction_ends line r s hk
  | .wcbIdleDrain m line => execWcbIdleDrain_ends m line s hk
  | .llmWriteback fn slice => execLlmWriteback_ends fn slice s hk
  | .llmWritebackDone slice => execLlmWritebackDone_ends slice s hk
  | .llmPoison pa bits => execLlmPoison_ends pa bits s hk
  | .gddr7Access ch => execGddr7Access_ends ch s hk
  | .channelTrainDone ch fit => execChannelTrainDone_ends ch fit s hk
  | .crcError now ch => execCrcError_ends now ch s hk
  | .retrainCmd fn ch => execRetrainCmd_ends fn ch s hk
  | .channelRetrainDone now ch ok => execChannelRetrainDone_ends now ch ok s hk
  | .gddr7Poison ch addr bits => execGddr7Poison_ends ch addr bits s hk
  | .mapEnableWrite fn r value => execMapEnableWrite_ends fn r value s hk
  | .tempPoll now m temp devHot => execTempPoll_ends now m temp devHot s hk
  | .hotExit now m => execHotExit_ends now m s hk
  | .rackLoad req => execRackLoad_ends req s hk
  | .rackStore req data => execRackStore_ends req data s hk
  | .epochWrite req data => execEpochWrite_ends req data s hk
  | .epochRead req => execEpochRead_ends req s hk
  | .add req op operand compare => execAdd_ends req op operand compare s hk
  | .fadd32 req op operand compare => execFadd32_ends req op operand compare s hk
  | .fadd64 req op operand compare => execFadd64_ends req op operand compare s hk
  | .and req op operand compare => execAnd_ends req op operand compare s hk
  | .or req op operand compare => execOr_ends req op operand compare s hk
  | .xor req op operand compare => execXor_ends req op operand compare s hk
  | .swapAtomic req op operand compare => execSwapAtomic_ends req op operand compare s hk
  | .cas req op operand compare => execCas_ends req op operand compare s hk
  | .max req op operand compare => execMax_ends req op operand compare s hk
  | .min req op operand compare => execMin_ends req op operand compare s hk
  | .maxUnsigned req op operand compare => execMaxUnsigned_ends req op operand compare s hk
  | .minUnsigned req op operand compare => execMinUnsigned_ends req op operand compare s hk
  | .fmax req op operand compare => execFmax_ends req op operand compare s hk
  | .fmin req op operand compare => execFmin_ends req op operand compare s hk
  | .atomicPortIssue u compare => execAtomicPortIssue_ends u compare s hk
  | .atomicPortResult u xd => execAtomicPortResult_ends u xd s hk
  | .rackResponse id status data transit => execRackResponse_ends id status data transit s hk
  | .requestTimerExpiry id => execRequestTimerExpiry_ends id s hk
  | .livenessQuery src id m d now => execLivenessQuery_ends src id m d now s hk
  | .livenessAnswer id alive => execLivenessAnswer_ends id alive s hk
  | .livenessNoAnswer id => execLivenessNoAnswer_ends id s hk
  | .requestTotalTimeout id => execRequestTotalTimeout_ends id s hk
  | .regionEnableWrite fn d value => execRegionEnableWrite_ends fn d value s hk
  | .keyCommit fn cancel => execKeyCommit_ends fn cancel s hk
  | .keyCancel fn => execKeyCancel_ends fn s hk
  | .rmmTwilightEnter fn => execRmmTwilightEnter_ends fn s hk
  | .oktStore fn value => execOktStore_ends fn value s hk
  | .laserLoss f => execLaserLoss_ends f s hk
  | .wavelengthLoss port lam => execWavelengthLoss_ends port lam s hk
  | .portEnableWrite fn port enable => execPortEnableWrite_ends fn port enable s hk
  | .pollSample port lit => execPollSample_ends port lit s hk
  | .trainDone port lambdas => execTrainDone_ends port lambdas s hk
  | .negotiate port lam peer => execNegotiate_ends port lam peer s hk
  | .authDone port lam pass => execAuthDone_ends port lam pass s hk
  | .dataFlit now port lam flit => execDataFlit_ends now port lam flit s hk
  | .ackFlit now port lam flit => execAckFlit_ends now port lam flit s hk
  | .idleFlit now port lam flit => execIdleFlit_ends now port lam flit s hk
  | .flitTransmit port lam => execFlitTransmit_ends port lam s hk
  | .ackDue port lam => execAckDue_ends port lam s hk
  | .replayTimer now port lam => execReplayTimer_ends now port lam s hk
  | .linkRetrainDone now port lam => execLinkRetrainDone_ends now port lam s hk
  | .linkRetrainFail now port lam => execLinkRetrainFail_ends now port lam s hk
  | .portRetrain fn port => execPortRetrain_ends fn port s hk
  | .portRelease fn port => execPortRelease_ends fn port s hk
  | .portQuarantine fn port => execPortQuarantine_ends fn port s hk
  | .keyUpdate port lam => execKeyUpdate_ends port lam s hk
  | .routeStore fn value => execRouteStore_ends fn value s hk
  | .routeCommit fn cancel => execRouteCommit_ends fn cancel s hk
  | .routeCancel fn => execRouteCancel_ends fn s hk
  | .ldnCommit fn ldnNext cancel => execLdnCommit_ends fn ldnNext cancel s hk
  | .ldnCancel fn => execLdnCancel_ends fn s hk
  | .colCommit fn cancel => execColCommit_ends fn cancel s hk
  | .colCancel fn => execColCancel_ends fn s hk
  | .colData now src hdr payload => execColData_ends now src hdr payload s hk
  | .delivered cst epoch seq msg src => execDelivered_ends cst epoch seq msg src s hk
  | .parkFull cst epoch seq msg src => execParkFull_ends cst epoch seq msg src s hk
  | .parkFree cluster src => execParkFree_ends cluster src s hk
  | .resend cst epoch seq msg src => execResend_ends cst epoch seq msg src s hk
  | .abort reason pairs => execAbort_ends reason pairs s hk
  | .lost ldn t => execLost_ends ldn t s hk
  | .post cluster idx entry => execPost_ends cluster idx entry s hk
  | .sendSlotArm cluster idx slot => execSendSlotArm_ends cluster idx slot s hk
  | .sendWindowWrite cluster idx off data => execSendWindowWrite_ends cluster idx off data s hk
  | .parkRetryTimer cluster k => execParkRetryTimer_ends cluster k s hk
  | .crossTimeout cluster idx => execCrossTimeout_ends cluster idx s hk
  | .colDarkDeclare fn ldn => execColDarkDeclare_ends fn ldn s hk
  | .beaconRead w b => execBeaconRead_ends w b s hk
  | .beaconAdd w b operand => execBeaconAdd_ends w b operand s hk
  | .beaconSet w b operand => execBeaconSet_ends w b operand s hk
  | .beaconCas w b operand compare => execBeaconCas_ends w b operand compare s hk
  | .beaconWait w b threshold => execBeaconWait_ends w b threshold s hk
  | .beaconArm w b operand => execBeaconArm_ends w b operand s hk
  | .beaconAcquire w b prio => execBeaconAcquire_ends w b prio s hk
  | .beaconRelease w b => execBeaconRelease_ends w b s hk
  | .beaconReprioritise w b prio => execBeaconReprioritise_ends w b prio s hk
  | .beaconConfigWrite fn value => execBeaconConfigWrite_ends fn value s hk
  | .beaconValueWrite fn value => execBeaconValueWrite_ends fn value s hk
  | .orphanLdn fn ldn => execOrphanLdn_ends fn ldn s hk
  | .orphanScanVisit => execOrphanScanVisit_ends s hk
  | .waitTimeout k => execWaitTimeout_ends k s hk
  | .sqDoorbell v r tail => execSqDoorbell_ends v r tail s hk
  | .cqHeadWrite v r head => execCqHeadWrite_ends v r head s hk
  | .descriptorFetch r host => execDescriptorFetch_ends r host s hk
  | .nop slot => execNop_ends slot s hk
  | .matmul slot tile errs core => execMatmul_ends slot tile errs core s hk
  | .collective slot status progress witness => execCollective_ends slot status progress witness s hk
  | .atomic slot => execAtomic_ends slot s hk
  | .beacon slot => execBeacon_ends slot s hk
  | .probe slot => execProbe_ends slot s hk
  | .completionRecordWrite slot refused => execCompletionRecordWrite_ends slot refused s hk
  | .ringEnableWrite fn r value => execRingEnableWrite_ends fn r value s hk
  | .flr fn => execFlr_ends fn s hk
  | .configRequest fn numVfs => execConfigRequest_ends fn numVfs s hk
  | .linkDowntrain width gt => execLinkDowntrain_ends width gt s hk
  | .dmaRefused r slot what => execDmaRefused_ends r slot what s hk
  | .msixUnmask fn vector => execMsixUnmask_ends fn vector s hk
  | .coldReset => execColdReset_ends s hk
  | .perstAssert now => execPerstAssert_ends now s hk
  | .perstRelease now rack slot => execPerstRelease_ends now rack slot s hk
  | .railFail rail => execRailFail_ends rail s hk
  | .railRestoreRestart now => execRailRestoreRestart_ends now s hk
  | .internalResetRelease now => execInternalResetRelease_ends now s hk
  | .bootWatchdog => execBootWatchdog_ends s hk
  | .firmwareStarted => execFirmwareStarted_ends s hk
  | .fusesApplied => execFusesApplied_ends s hk
  | .selfTestDone failed => execSelfTestDone_ends failed s hk
  | .computeReady => execComputeReady_ends s hk
  | .pldmFwUpdate component => execPldmFwUpdate_ends component s hk
  | .fwStagingDone image => execFwStagingDone_ends image s hk
  | .programSlot slot key signedOk i3c complete => execProgramSlot_ends slot key signedOk i3c complete s hk
  | .revokeSlot slot signedOk => execRevokeSlot_ends slot signedOk s hk
  | .raiseFwMin v signedOk => execRaiseFwMin_ends v signedOk s hk
  | .raiseImageMin v signedOk => execRaiseImageMin_ends v signedOk s hk
  | .packageReset signedOk => execPackageReset_ends signedOk s hk
  | .twilightEnter signedOk => execTwilightEnter_ends signedOk s hk
  | .mctpControl cmd eid => execMctpControl_ends cmd eid s hk
  | .spdmRequest code => execSpdmRequest_ends code s hk
  | .pldmGetSensor sensor => execPldmGetSensor_ends sensor s hk
  | .logTake now => execLogTake_ends now s hk
  | .errConsWrite fn cons => execErrConsWrite_ends fn cons s hk
  | .recoveryStart => execRecoveryStart_ends s hk
  | .recoveryComplete idx failed => execRecoveryComplete_ends idx failed s hk
  | .mntRequest fn activity domain => execMntRequest_ends fn activity domain s hk
  | .mntAbort fn idx => execMntAbort_ends fn idx s hk
  | .mntActivityDone idx => execMntActivityDone_ends idx s hk
  | .almArm fn cancel drivesOk => execAlmArm_ends fn cancel drivesOk s hk
  | .almCancel fn => execAlmCancel_ends fn s hk
  | .quiesceDone => execQuiesceDone_ends s hk
  | .quiesceTimeout => execQuiesceTimeout_ends s hk
  | .almanacIoDone buddy ok => execAlmanacIoDone_ends buddy ok s hk
  | .mirrorMessage src slot shard off data crcOk => execMirrorMessage_ends src slot shard off data crcOk s hk
  | .buddyCommit src transit slot => execBuddyCommit_ends src transit slot s hk
  | .almRestore fn manifest signed before refused => execAlmRestore_ends fn manifest signed before refused s hk
  | .restoreDone data => execRestoreDone_ends data s hk
  | .sensorSweep now samples => execSensorSweep_ends now samples s hk
  | .throttleExit die => execThrottleExit_ends die s hk
  | .nightEnter fn wakeAtEn => execNightEnter_ends fn wakeAtEn s hk
  | .nightEntryDone => execNightEntryDone_ends s hk
  | .wakeN ns => execWakeN_ends ns s hk
  | .hostMessageWake => execHostMessageWake_ends s hk
  | .lightWake port => execLightWake_ends port s hk
  | .scheduledWake now => execScheduledWake_ends now s hk
  | .wakeDone => execWakeDone_ends s hk
  | .eclipseN ns => execEclipseN_ends ns s hk
  | .eclipseTrigger fn => execEclipseTrigger_ends fn s hk
  | .selfRefreshDone => execSelfRefreshDone_ends s hk
  | .readoutDone ok => execReadoutDone_ends ok s hk
  | .refclkLoss c => execRefclkLoss_ends c s hk
  | .avsAck rail => execAvsAck_ends rail s hk
  | .avsAckTimeout rail => execAvsAckTimeout_ends rail s hk
  | .registerWrite fn off size value => execRegisterWrite_ends fn off size value s hk
  | .mgmtWrite off size value => execMgmtWrite_ends off size value s hk
  | .portLightLoss port => execPortLightLoss_ends port s hk
  | .laserReturn f => execLaserReturn_ends f s hk
  | .refclkRestore c => execRefclkRestore_ends c s hk
  | .vddAonLoss => execVddAonLoss_ends s hk
  | .uncorrectableFlit port lam => execUncorrectableFlit_ends port lam s hk
  | .putGetMessage m => execPutGetMessage_ends m s hk
  | .electionAcknowledgement phys number => execElectionAcknowledgement_ends phys number s hk
  | .refresh ch => execRefresh_ends ch s hk
  | .remoteSourceRead src buddyArea slot shard => execRemoteSourceRead_ends src buddyArea slot shard s hk

/-- A command that answers a next state answers one that keeps what `Keeps` names. -/
theorem exec_keeps {c : Instr} {s t : State} (h : exec c s = .next t) : Keeps s t := by
  obtain ⟨u, hu, hk⟩ := exec_ends c s (keeps_refl s)
  obtain rfl : u = t := Host.Outcome.next.inj (hu.symm.trans h)
  exact hk

/-- Settles O4: each meaning ends in a next state that keeps the queue, the order of time and what has left. -/
theorem everyCommandCompletes : Obligations.EveryCommandCompletes := by
  intro c s
  obtain ⟨t, ht, hpending, hclock, hout, -⟩ := exec_ends c s (keeps_refl s)
  exact ⟨t, ht, hpending, hclock, hout⟩

end Sys2Proof.Machine

/-! Reports and interrupts: what joining a queue or raising a vector changes, and what it leaves alone (R456, R486 to
R489, R497). -/
namespace Sys2Proof.Machine

section
variable (s : State)

/-- Raising a vector marks it pending where it is masked, and sends it elsewhere (R456). -/
theorem raise_cases (fn : Fn) (v : Nat) :
    s.raise fn v = s.setVec (fnIndex fn * 4096 + v) (true, true) ∨ s.raise fn v = s.emit (.msix fn v) := by
  unfold State.raise
  dsimp only
  split
  · exact .inl rfl
  · exact .inr rfl

/-- A reading that neither vectors nor what has left the package bears on is the same after a vector is raised. -/
theorem raise_reads {β : Type} (g : State → β) (hvec : ∀ k v, g (s.setVec k v) = g s) (hout : ∀ o, g (s.emit o) = g s)
    (fn : Fn) (v : Nat) : g (s.raise fn v) = g s := by
  obtain h | h := raise_cases s fn v
  · rw [h, hvec]
  · rw [h, hout]

@[simp] theorem raise_mem (fn : Fn) (v : Nat) : (s.raise fn v).mem = s.mem := raise_reads s State.mem (fun _ _ => rfl) (fun _ => rfl) fn v

@[simp] theorem raise_nv (fn : Fn) (v : Nat) : (s.raise fn v).nv = s.nv := raise_reads s State.nv (fun _ _ => rfl) (fun _ => rfl) fn v

@[simp] theorem raise_fget (fn : Fn) (v : Nat) (f : Fld) : (s.raise fn v).fget f = s.fget f :=
  raise_reads s (State.fget · f) (fun _ _ => rfl) (fun _ => rfl) fn v

/-- A lost counter lies in one of two registers (R559). -/
theorem lostFld_off (cls : Nat) : (lostFld cls).off = A.ERR_LOST0 ∨ (lostFld cls).off = A.ERR_LOST1 :=
  match cls with
  | 0 | 1 | 2 | 3 => .inl rfl
  | _ + 4 => .inr rfl

/-- What a report does: it is discarded, joins one of the two queues, or is dropped and counted (R489, R497). -/
theorem report_cases (source code cls detail : Nat) :
    s.report source code cls detail = s ∨
      (∃ r, s.report source code cls detail = { s with fatals := s.fatals ++ [r] }) ∨
      (∃ r, s.report source code cls detail = { s with reports := s.reports ++ [r] }) ∨
      s.report source code cls detail = s.dropReport cls := by
  unfold State.report
  dsimp only
  split
  · exact .inl rfl
  · split
    · split
      · exact .inr (.inl ⟨_, rfl⟩)
      · exact .inr (.inr (.inr rfl))
    · split
      · exact .inr (.inr (.inl ⟨_, rfl⟩))
      · exact .inr (.inr (.inr rfl))

/-- A reading that the report queues do not bear on, nor a drop, is the same after a report. -/
theorem report_reads {β : Type} (g : State → β) (hfatals : ∀ l, g { s with fatals := l } = g s)
    (hreports : ∀ l, g { s with reports := l } = g s) (hdrop : ∀ c, g (s.dropReport c) = g s) (source code cls detail : Nat) :
    g (s.report source code cls detail) = g s := by
  obtain h | ⟨r, h⟩ | ⟨r, h⟩ | h := report_cases s source code cls detail
  · rw [h]
  · rw [h, hfatals]
  · rw [h, hreports]
  · rw [h, hdrop]

@[simp] theorem report_mem (source code cls detail : Nat) : (s.report source code cls detail).mem = s.mem :=
  report_reads s State.mem (fun _ => rfl) (fun _ => rfl) (fun _ => raise_mem _ _ _) source code cls detail

@[simp] theorem report_nv (source code cls detail : Nat) : (s.report source code cls detail).nv = s.nv :=
  report_reads s State.nv (fun _ => rfl) (fun _ => rfl) (fun _ => raise_nv _ _ _) source code cls detail

/-- A report changes no register but the lost counters. -/
theorem fget_report (source code cls detail : Nat) (f : Fld) (h0 : f.off ≠ A.ERR_LOST0) (h1 : f.off ≠ A.ERR_LOST1) :
    (s.report source code cls detail).fget f = s.fget f := by
  refine report_reads s (State.fget · f) (fun _ => rfl) (fun _ => rfl) (fun c => ?_) source code cls detail
  have hoff : (lostFld c).off ≠ f.off := by
    obtain h | h := lostFld_off c <;> rw [h]
    · exact h0.symm
    · exact h1.symm
  exact (raise_fget _ _ _ _).trans (fget_fset_reg _ _ _ _ hoff)

@[simp] theorem reportOpen_mem (source code cls : Nat) : (s.reportOpen source code cls).mem = s.mem := report_mem _ _ _ _ _

@[simp] theorem reportOpen_nv (source code cls : Nat) : (s.reportOpen source code cls).nv = s.nv := report_nv _ _ _ _ _

theorem fget_reportOpen (source code cls : Nat) (f : Fld) (h0 : f.off ≠ A.ERR_LOST0) (h1 : f.off ≠ A.ERR_LOST1) :
    (s.reportOpen source code cls).fget f = s.fget f := fget_report _ _ _ _ _ f h0 h1

/-- Only T-cores, P cores and solver engines have source identifiers below 0x5000, and only they retire (R487, R497). -/
theorem fromRetired_of_le (source : Nat) (h : 0x5000 ≤ source) : s.fromRetired source = false := by
  unfold State.fromRetired
  dsimp only
  split
  · omega
  · omega
  · omega
  · rfl

/-- A report of a lesser class from a unit in service joins the queue where that has room (R489). -/
theorem report_queued (source code cls detail : Nat) (hsource : 0x5000 ≤ source) (hcls : cls < 3) (hroom : s.reports.length < 64) :
    s.report source code cls detail = { s with reports := s.reports ++ [s.mkReport source code cls detail] } := by
  unfold State.report
  dsimp only
  rw [fromRetired_of_le s source hsource, if_neg (by decide), if_neg (by omega), if_pos hroom]

end

end Sys2Proof.Machine

/-! Mesh links (R24, R29 to R32) and the warm reset that a PACKAGE_FATAL causes (R461). -/
namespace Sys2Proof.Machine

theorem srcMeshLink_le (a b : Nat) : 0x5000 ≤ srcMeshLink a b := by unfold srcMeshLink; omega

/-- A warm reset shows its cause in GLB_BOOT (R461). -/
theorem warmReset_cause (s : State) (cause : Nat) : (s.warmReset cause).fget R.GLB_BOOT.reset_cause = cause % 16 := by
  unfold State.warmReset
  dsimp only
  split
  · exact fget_fset_same _ _ _ (by decide)
  · rw [fget_fset_reg _ _ _ _ (by decide)]
    exact fget_fset_same _ _ _ (by decide)

/-- A warm reset holds the package in reset with its memory lost; what is not volatile stays (R461). -/
theorem warmReset_frame (s : State) (cause : Nat) :
    (s.warmReset cause).boot.stage = .inReset ∧ (s.warmReset cause).mem = [] ∧ (s.warmReset cause).nv = s.nv := by
  unfold State.warmReset
  dsimp only
  split
  · exact ⟨rfl, rfl, rfl⟩
  · exact ⟨rfl, rfl, rfl⟩

theorem eclipseSelects_of_on_fatal_zero (s : State) (cls : Nat) (h : s.fget R.ECL_CTL.on_fatal = 0) : s.eclipseSelects cls = false := by
  unfold State.eclipseSelects
  rw [h]
  rfl

/-- With no Eclipse selected, a PACKAGE_FATAL event is a warm reset with cause 2 (R461). -/
theorem packageFatal_resets (s : State) (source code : Nat) (h : s.fget R.ECL_CTL.on_fatal = 0) :
    s.packageFatal source code = (s.reportOpen source code 4).warmReset 2 := by
  have hsel : (s.reportOpen source code 4).eclipseSelects 4 = false :=
    eclipseSelects_of_on_fatal_zero _ 4 ((fget_reportOpen s source code 4 _ (by decide) (by decide)).trans h)
  unfold State.packageFatal
  simp only [hsel, Bool.false_eq_true, if_false]

/-- D2D_RETRY on a link of the table (R29). -/
theorem exec_d2dRetry (a b : Nat) (s : State) (hlink : linkModules a b ≠ 0) (hroom : s.reports.length < 64) :
    ∃ r : Report, r.source = srcMeshLink a b ∧ r.cls = 0 ∧ r.code = codeD2dRetry ∧
      exec (.d2dRetry a b) s = .next { s with free := s.free + 1, reports := s.reports ++ [r] } := by
  refine ⟨{ s with free := s.free + 1 }.mkReport (srcMeshLink a b) codeD2dRetry 0 (Config.logDetail s.free % 2 ^ 88), rfl, rfl, rfl, ?_⟩
  show execD2dRetry a b s = _
  unfold execD2dRetry whenever
  rw [if_pos (bne_iff_ne.2 hlink)]
  exact congrArg _ (report_queued { s with free := s.free + 1 } _ _ _ _ (srcMeshLink_le a b) (by decide) hroom)

/-- MODULE_RETIRED of a working module while another one remains (R30). -/
theorem exec_moduleRetired (a b m : Nat) (s : State) (hm : m < linkModules a b) (hup : m ∉ (s.meshLink (meshKey a b)).lost)
    (hleft : (s.meshLink (meshKey a b)).lost.length + 1 < linkModules a b) (hroom : s.reports.length < 64) :
    ∃ r : Report, r.source = srcMeshLink a b ∧ r.cls = 2 ∧ r.code = codeModuleRetired ∧ r.detail = m ∧
      exec (.moduleRetired a b m) s = .next { s with
        mesh := assocSet (fun _ => MeshLink.reset) s.mesh (meshKey a b) { lost := insertNat (s.meshLink (meshKey a b)).lost m },
        reports := s.reports ++ [r] } := by
  have hcond : m < linkModules a b ∧ (!(s.meshLink (meshKey a b)).lost.contains m) = true := ⟨hm, by simpa using hup⟩
  refine ⟨(s.setMeshLink (meshKey a b) { lost := insertNat (s.meshLink (meshKey a b)).lost m }).mkReport
    (srcMeshLink a b) codeModuleRetired 2 m, rfl, rfl, rfl, rfl, ?_⟩
  show execModuleRetired a b m s = _
  unfold execModuleRetired
  dsimp only
  rw [if_pos hcond, if_neg (by omega)]
  exact congrArg _ (report_queued (s.setMeshLink _ _) _ _ _ _ (srcMeshLink_le a b) (by decide) hroom)

/-- LINK_LOST with no Eclipse selected for fatal events: the package is held in reset (R31, R461). -/
theorem exec_linkLost (a b : Nat) (s : State) (hlink : linkModules a b ≠ 0) (hecl : s.fget R.ECL_CTL.on_fatal = 0) :
    ∃ t, exec (.linkLost a b) s = .next t ∧ t.boot.stage = .inReset ∧ t.fget R.GLB_BOOT.reset_cause = 2 ∧ t.mem = [] ∧
      t.nv = s.nv := by
  refine ⟨s.linkLost a b, ?_, ?_⟩
  · show execLinkLost a b s = _
    unfold execLinkLost whenever
    rw [if_pos (bne_iff_ne.2 hlink)]
  · unfold State.linkLost
    dsimp only
    rw [packageFatal_resets _ _ _ (by simpa using hecl)]
    obtain ⟨hstage, hmem, hnv⟩ := warmReset_frame ((s.setMeshLink (meshKey a b) { lost := List.range (linkModules a b) }).reportOpen
      (srcMeshLink a b) codeLinkLost 4) 2
    exact ⟨hstage, warmReset_cause _ 2, hmem, by rw [hnv, reportOpen_nv, State.setMeshLink_nv]⟩

/-- Settles O6: the four mesh link commands, each by the lemma about its meaning. -/
theorem meshLinkEvents : Obligations.MeshLinkEvents :=
  ⟨exec_d2dRetry, exec_moduleRetired, exec_linkLost, fun _ _ _ _ => rfl⟩

end Sys2Proof.Machine

/-! Registers and lists of numbers: what the map entries and channels of board memory need. -/
namespace Sys2Proof.Machine

theorem fon_eq_true {s : State} {f : Fld} : s.fon f = true ↔ s.fget f ≠ 0 := bne_iff_ne

theorem fon_eq_false {s : State} {f : Fld} : s.fon f = false ↔ s.fget f = 0 := by simp [State.fon]

theorem mem_insertNat {l : List Nat} {n x : Nat} : x ∈ insertNat l n ↔ x = n ∨ x ∈ l := by
  induction l with
  | nil => simp [insertNat]
  | cons a rest ih =>
    unfold insertNat
    split
    · simp
    · split
      · next h => subst h; simp
      · simp only [List.mem_cons, ih]; exact or_left_comm

theorem mem_foldl_insertNat {l m : List Nat} {x : Nat} : x ∈ l.foldl insertNat m ↔ x ∈ l ∨ x ∈ m := by
  induction l generalizing m with
  | nil => simp
  | cons a rest ih => simp only [List.foldl_cons, ih, mem_insertNat, List.mem_cons, or_assoc, or_left_comm]

section
variable {α β : Type} {f : State → α → State} {g : State → β} {l : List α}

/-- A reading that no step of a fold bears on is the same after it. -/
theorem foldl_reads (h : ∀ t, ∀ a ∈ l, g (f t a) = g t) (s : State) : g (l.foldl f s) = g s := by
  induction l generalizing s with
  | nil => rfl
  | cons a rest ih =>
    rw [List.foldl_cons, ih (fun t b hb => h t b (List.mem_cons_of_mem a hb)), h s a List.mem_cons_self]

/-- A value that one step of a fold puts in place, and that no step takes away, is there after it. -/
theorem foldl_reads_put {a : α} {v : β} (ha : a ∈ l) (hput : ∀ t, g (f t a) = v) (hstay : ∀ t b, g t = v → g (f t b) = v)
    (s : State) : g (l.foldl f s) = v := by
  obtain ⟨before, after, rfl⟩ := List.append_of_mem ha
  rw [List.foldl_append, List.foldl_cons]
  generalize hu : f (before.foldl f s) a = u
  have hv : g u = v := hu ▸ hput _
  clear hu
  induction after generalizing u with
  | nil => exact hv
  | cons b rest ih => exact ih (by simp) _ (hstay u b hv)

end

end Sys2Proof.Machine

/-! Map entries (R306, R307). -/
namespace Sys2Proof.Machine

/-- The owner of a channel rests on the structure in force alone. -/
theorem partOfChan_congr {s t : State} (h : s.togus = t.togus) (n : Nat) : s.partOfChan n = t.partOfChan n := by
  show { State.reset with togus := s.togus }.partOfChan n = { State.reset with togus := t.togus }.partOfChan n
  rw [h]

/-- The control registers of map entries lie at multiples of 32, and no other register that an entry rests on does. -/
theorem ne_mapCtl {off r : Nat} (h : off % 32 ≠ 0) : off ≠ A.GDM_MAP_CTL r := by
  unfold A.GDM_MAP_CTL
  omega

theorem mapCtl_ne {q r : Nat} (h : q ≠ r) : A.GDM_MAP_CTL q ≠ A.GDM_MAP_CTL r := by
  unfold A.GDM_MAP_CTL
  omega

/-- Whether entry `r` would hold rests on the structure, on its own enable and interleave, and on other registers. -/
theorem mapValid_congr {s t : State} {r : Nat} (htogus : s.togus = t.togus)
    (hother : ∀ g : Fld, g.off ≠ A.GDM_MAP_CTL r → s.fget g = t.fget g)
    (hon : s.fget (R.GDM_MAP_CTL.enable r) = t.fget (R.GDM_MAP_CTL.enable r))
    (hil : s.fget (R.GDM_MAP_CTL.interleave r) = t.fget (R.GDM_MAP_CTL.interleave r)) : s.mapValid r = t.mapValid r := by
  have hchan (q : Nat) := hother (R.GDM_MAP_CHAN.channel_mask q) (ne_mapCtl (by show (0x220010 + 0x20 * q) % 32 ≠ 0; omega))
  have hbase (q : Nat) := hother (R.GDM_MAP_BASE.base_2m q) (ne_mapCtl (by show (0x220008 + 0x20 * q) % 32 ≠ 0; omega))
  have hsize (q : Nat) := hother (R.GDM_MAP_BASE.size_2m q) (ne_mapCtl (by show (0x220008 + 0x20 * q) % 32 ≠ 0; omega))
  have hcbase (q : Nat) := hother (R.GDM_MAP_CBASE.chan_base_2m q) (ne_mapCtl (by show (0x220018 + 0x20 * q) % 32 ≠ 0; omega))
  have husable (n : Nat) := hother (R.GDM_CH_STATUS.usable_mib n) (ne_mapCtl (by show (0x200008 + 0x800 * n) % 32 ≠ 0; omega))
  have hstate (n : Nat) := hother (R.GDM_CH_STATUS.state n) (ne_mapCtl (by show (0x200008 + 0x800 * n) % 32 ≠ 0; omega))
  have hons (q : Nat) : s.fget (R.GDM_MAP_CTL.enable q) = t.fget (R.GDM_MAP_CTL.enable q) := by
    obtain rfl | h := eq_or_ne q r
    · exact hon
    · exact hother _ (mapCtl_ne h)
  simp only [State.mapValid, State.chanTrained, State.fon, partOfChan_congr htogus, hchan, hbase, hsize, hcbase, husable, hil, hons, hstate]

/-- Entry `r` after the part of a write of its control register that comes before enabling or disabling: a 1 clears map_err,
and interleave is taken while the entry is disabled (R307). -/
def State.mapCtlWritten (s : State) (r : Nat) (v : Word) : State :=
  let s1 := if getField v 3 1 = 1 then s.fset (R.GDM_MAP_CTL.map_err r) 0 else s
  if s.fon (R.GDM_MAP_CTL.enable r) then s1 else s1.fset (R.GDM_MAP_CTL.interleave r) (getField v 1 2)

/-- MAP_ENABLE_WRITE by a function with the right to it, on an entry that exists (R307). -/
theorem exec_mapEnableWrite (s : State) (fn : Fn) (r : Nat) (v : Word) (hr : r < 64) (hfn : fn = .pf 0 ∨ fn = .pf 1) :
    exec (.mapEnableWrite fn r v) s = .next
      (let s2 := s.mapCtlWritten r v
       if getField v 0 1 = 0 then s2.disableMap r
       else if s.fon (R.GDM_MAP_CTL.enable r) then s2
       else if s2.mapValid r then s2.fset (R.GDM_MAP_CTL.enable r) 1
       else s2.fset (R.GDM_MAP_CTL.map_err r) 1) := by
  show execMapEnableWrite fn r v s = _
  unfold execMapEnableWrite mapRights State.mapCtlWritten
  simp only [hfn, hr, decide_true, Bool.not_true, Bool.false_eq_true, if_false]
  simp only [apply_ite Host.Outcome.next]

section
variable (s : State) (r : Nat) (v : Word)

theorem fget_enable_fset_map_err (x : Nat) :
    (s.fset (R.GDM_MAP_CTL.map_err r) x).fget (R.GDM_MAP_CTL.enable r) = s.fget (R.GDM_MAP_CTL.enable r) :=
  fget_fset_apart s _ _ x (.inl (show 0 + 1 ≤ 3 by decide)) (show 0 + 1 ≤ 64 by decide)

theorem fget_enable_fset_interleave (x : Nat) :
    (s.fset (R.GDM_MAP_CTL.interleave r) x).fget (R.GDM_MAP_CTL.enable r) = s.fget (R.GDM_MAP_CTL.enable r) :=
  fget_fset_apart s _ _ x (.inl (show 0 + 1 ≤ 1 by decide)) (show 0 + 1 ≤ 64 by decide)

theorem fget_interleave_fset_map_err (x : Nat) :
    (s.fset (R.GDM_MAP_CTL.map_err r) x).fget (R.GDM_MAP_CTL.interleave r) = s.fget (R.GDM_MAP_CTL.interleave r) :=
  fget_fset_apart s _ _ x (.inl (show 1 + 2 ≤ 3 by decide)) (show 1 + 2 ≤ 64 by decide)

theorem fget_interleave_fset_enable (x : Nat) :
    (s.fset (R.GDM_MAP_CTL.enable r) x).fget (R.GDM_MAP_CTL.interleave r) = s.fget (R.GDM_MAP_CTL.interleave r) :=
  fget_fset_apart s _ _ x (.inr (show 0 + 1 ≤ 1 by decide)) (show 1 + 2 ≤ 64 by decide)

@[simp] theorem mapCtlWritten_mem : (s.mapCtlWritten r v).mem = s.mem := by
  unfold State.mapCtlWritten
  dsimp only
  split <;> split <;> rfl

@[simp] theorem fget_enable_mapCtlWritten : (s.mapCtlWritten r v).fget (R.GDM_MAP_CTL.enable r) = s.fget (R.GDM_MAP_CTL.enable r) := by
  unfold State.mapCtlWritten
  dsimp only
  split <;> split <;> simp only [fget_enable_fset_interleave, fget_enable_fset_map_err]

/-- Interleave stays while the entry is enabled (R307). -/
theorem fget_interleave_mapCtlWritten_on (h : s.fget (R.GDM_MAP_CTL.enable r) = 1) :
    (s.mapCtlWritten r v).fget (R.GDM_MAP_CTL.interleave r) = s.fget (R.GDM_MAP_CTL.interleave r) := by
  unfold State.mapCtlWritten
  dsimp only
  rw [if_pos (fon_eq_true.2 (by omega))]
  split
  · exact fget_interleave_fset_map_err s r 0
  · rfl

/-- Interleave is taken from the write while the entry is disabled (R307). -/
theorem fget_interleave_mapCtlWritten_off (h : s.fget (R.GDM_MAP_CTL.enable r) = 0) :
    (s.mapCtlWritten r v).fget (R.GDM_MAP_CTL.interleave r) = getField v 1 2 := by
  unfold State.mapCtlWritten
  dsimp only
  rw [fon_eq_false.2 h, if_neg (by decide), fget_fset_same _ _ _ (show 1 + 2 ≤ 64 by decide)]
  exact Nat.mod_mod _ _

/-- Clearing map_err first has no part in whether a disabled entry would hold. -/
theorem mapValid_mapCtlWritten_off (h : s.fget (R.GDM_MAP_CTL.enable r) = 0) :
    (s.mapCtlWritten r v).mapValid r = (s.fset (R.GDM_MAP_CTL.interleave r) (getField v 1 2)).mapValid r := by
  unfold State.mapCtlWritten
  dsimp only
  rw [fon_eq_false.2 h, if_neg (by decide)]
  split
  · refine mapValid_congr rfl (fun g hg => ?_) ?_ ?_
    · have hil (t : State) := fget_fset_reg t (R.GDM_MAP_CTL.interleave r) g (getField v 1 2) (Ne.symm hg)
      have herr := fget_fset_reg s (R.GDM_MAP_CTL.map_err r) g 0 (Ne.symm hg)
      rw [hil, hil, herr]
    · simp only [fget_enable_fset_interleave, fget_enable_fset_map_err]
    · simp only [fget_fset_same _ (R.GDM_MAP_CTL.interleave r) _ (show 1 + 2 ≤ 64 by decide)]
  · rfl

/-- Region descriptors lie below the map entries. -/
theorem rgnCfg_ne_mapCtl {d : Nat} (hd : d < 4096) : A.RMM_RGN_CFG d ≠ A.GDM_MAP_CTL r := by
  unfold A.RMM_RGN_CFG A.GDM_MAP_CTL
  omega

/-- An entry disabled by hardware stays so while the descriptors it backs are disabled after it. -/
theorem fget_enable_disableMap : (s.disableMap r).fget (R.GDM_MAP_CTL.enable r) = 0 := by
  unfold State.disableMap
  split
  · rw [foldl_reads (g := (State.fget · (R.GDM_MAP_CTL.enable r)))]
    · exact fget_fset_same _ _ _ (show 0 + 1 ≤ 64 by decide)
    · intro t d hd
      exact fget_fset_reg _ _ _ _ (rgnCfg_ne_mapCtl r (List.mem_range.1 (List.mem_of_mem_filter hd)))
  · next h => exact fon_eq_false.1 (Bool.eq_false_iff.2 h)

@[simp] theorem disableMap_mem : (s.disableMap r).mem = s.mem := by
  unfold State.disableMap
  split
  · rw [foldl_reads (g := State.mem) (h := fun t _ _ => State.fset_mem t _ _), State.fset_mem]
  · rfl

variable {s r v} {fn : Fn} (hr : r < 64) (hfn : fn = .pf 0 ∨ fn = .pf 1)
include hr hfn

/-- A 1 enables an entry that would hold. -/
theorem mapEnableWrite_valid (h1 : getField v 0 1 = 1) (h0 : s.fget (R.GDM_MAP_CTL.enable r) = 0)
    (hvalid : (s.fset (R.GDM_MAP_CTL.interleave r) (getField v 1 2)).mapValid r = true) :
    ∃ t, exec (.mapEnableWrite fn r v) s = .next t ∧ t.fget (R.GDM_MAP_CTL.enable r) = 1 ∧
      t.fget (R.GDM_MAP_CTL.interleave r) = getField v 1 2 ∧ t.mem = s.mem := by
  refine ⟨(s.mapCtlWritten r v).fset (R.GDM_MAP_CTL.enable r) 1, ?_, fget_fset_same _ _ _ (show 0 + 1 ≤ 64 by decide), ?_, ?_⟩
  · rw [← mapValid_mapCtlWritten_off s r v h0] at hvalid
    simp [exec_mapEnableWrite s fn r v hr hfn, h1, fon_eq_false.2 h0, hvalid]
  · rw [fget_interleave_fset_enable, fget_interleave_mapCtlWritten_off s r v h0]
  · rw [State.fset_mem, mapCtlWritten_mem]

/-- A 1 sets map_err of an entry that would not hold, and leaves it disabled. -/
theorem mapEnableWrite_invalid (h1 : getField v 0 1 = 1) (h0 : s.fget (R.GDM_MAP_CTL.enable r) = 0)
    (hvalid : (s.fset (R.GDM_MAP_CTL.interleave r) (getField v 1 2)).mapValid r = false) :
    ∃ t, exec (.mapEnableWrite fn r v) s = .next t ∧ t.fget (R.GDM_MAP_CTL.enable r) = 0 ∧
      t.fget (R.GDM_MAP_CTL.map_err r) = 1 ∧ t.mem = s.mem := by
  refine ⟨(s.mapCtlWritten r v).fset (R.GDM_MAP_CTL.map_err r) 1, ?_, ?_, fget_fset_same _ _ _ (show 3 + 1 ≤ 64 by decide), ?_⟩
  · rw [← mapValid_mapCtlWritten_off s r v h0] at hvalid
    simp [exec_mapEnableWrite s fn r v hr hfn, h1, fon_eq_false.2 h0, hvalid]
  · rw [fget_enable_fset_map_err, fget_enable_mapCtlWritten, h0]
  · rw [State.fset_mem, mapCtlWritten_mem]

/-- A 1 leaves an enabled entry enabled, with its interleave. -/
theorem mapEnableWrite_enabled (h1 : getField v 0 1 = 1) (hon : s.fget (R.GDM_MAP_CTL.enable r) = 1) :
    ∃ t, exec (.mapEnableWrite fn r v) s = .next t ∧ t.fget (R.GDM_MAP_CTL.enable r) = 1 ∧
      t.fget (R.GDM_MAP_CTL.interleave r) = s.fget (R.GDM_MAP_CTL.interleave r) := by
  refine ⟨s.mapCtlWritten r v, ?_, ?_, fget_interleave_mapCtlWritten_on s r v hon⟩
  · simp [exec_mapEnableWrite s fn r v hr hfn, h1, State.fon, hon]
  · rw [fget_enable_mapCtlWritten, hon]

/-- A 0 disables the entry. -/
theorem mapEnableWrite_zero (h0 : getField v 0 1 = 0) :
    ∃ t, exec (.mapEnableWrite fn r v) s = .next t ∧ t.fget (R.GDM_MAP_CTL.enable r) = 0 ∧ t.mem = s.mem := by
  refine ⟨(s.mapCtlWritten r v).disableMap r, ?_, fget_enable_disableMap _ r, ?_⟩
  · simp [exec_mapEnableWrite s fn r v hr hfn, h0]
  · rw [disableMap_mem, mapCtlWritten_mem]

end

/-! Where an address in board memory lies (R283, R306). -/

/-- An address from the base of board memory on lies where the entry that is found for it says. -/
theorem locOf_gddr {s : State} {pa r : Nat} (hpa : gddrBase ≤ pa) (hfind : (List.range 64).find? (s.mapCovers pa) = some r) :
    s.locOf pa = some (.gddr (s.mapAt r (pa - (gddrBase + s.fget (R.GDM_MAP_BASE.base_2m r) * 0x200000))).1
      (s.mapAt r (pa - (gddrBase + s.fget (R.GDM_MAP_BASE.base_2m r) * 0x200000))).2) := by
  have hlow : 0x10000000000 ≤ pa := hpa
  unfold State.locOf
  rw [if_neg (by simp only [padBase]; omega), if_neg (by simp only [stagingBufBase]; omega), if_neg (by simp only [llmBase]; omega),
    if_pos hpa, hfind]

/-- The entry found for an address is the lowest one that covers it. -/
theorem find_mapCovers {s : State} {pa r : Nat} (hr : r < 64) (hcovers : s.mapCovers pa r = true)
    (hlower : ∀ q, q < r → s.mapCovers pa q = false) : (List.range 64).find? (s.mapCovers pa) = some r := by
  rw [List.find?_range_eq_some]
  exact ⟨hcovers, List.mem_range.2 hr, fun q hq => by simp [hlower q hq]⟩

/-- An address of an enabled entry that no lower entry covers lies at the channel and local address of R306. -/
theorem locOf_mapped (r o : Nat) (s : State) (hr : r < 64) (ho : o < s.fget (R.GDM_MAP_BASE.size_2m r) * 0x200000)
    (hon : s.fget (R.GDM_MAP_CTL.enable r) = 1)
    (hlower : ∀ q, q < r → s.mapCovers (gddrBase + s.fget (R.GDM_MAP_BASE.base_2m r) * 0x200000 + o) q = false) :
    s.locOf (gddrBase + s.fget (R.GDM_MAP_BASE.base_2m r) * 0x200000 + o) = some (.gddr (s.mapAt r o).1 (s.mapAt r o).2) := by
  have hcovers : s.mapCovers (gddrBase + s.fget (R.GDM_MAP_BASE.base_2m r) * 0x200000 + o) r = true := by
    simp only [State.mapCovers, State.fon, hon, Bool.and_eq_true, decide_eq_true_eq]
    exact ⟨⟨rfl, by omega⟩, by omega⟩
  rw [locOf_gddr (by omega) (find_mapCovers hr hcovers hlower), Nat.add_sub_cancel_left]

end Sys2Proof.Machine

/-! Errors in a line of board memory (R302). -/
namespace Sys2Proof.Machine

/-- The eight words of the line of a channel that holds a local address. -/
def lineWords (n addr : Nat) : List Nat := (List.range 8).map (fun i => gddrKey n (addr / 64 * 64) / 8 + i)

theorem head_mem_lineWords (n addr : Nat) : gddrKey n (addr / 64 * 64) / 8 ∈ lineWords n addr :=
  List.mem_map.2 ⟨0, by decide, Nat.add_zero _⟩

/-- The line poisoned and counted (R302). -/
def State.linePoisoned (s : State) (n addr : Nat) : State :=
  State.finc { s with weak := s.weak.filter (fun w => !(lineWords n addr).contains w),
                      poison := (lineWords n addr).foldl insertNat s.poison } (R.GDM_CH_ECC.poisoned n) 1

theorem linePoisoned_contains (s : State) (n addr w : Nat) (hw : w ∈ lineWords n addr) :
    (s.linePoisoned n addr).poison.contains w = true :=
  List.contains_iff_mem.2 (mem_foldl_insertNat.2 (.inl hw))

theorem fget_linePoisoned (s : State) (n addr : Nat) :
    (s.linePoisoned n addr).fget (R.GDM_CH_ECC.poisoned n) = (s.fget (R.GDM_CH_ECC.poisoned n) + 1) % 2 ^ 32 :=
  (fget_fset_same _ _ _ (show 32 + 32 ≤ 64 by decide)).trans (Nat.mod_mod _ _)

section
variable {n addr bits : Nat} {s : State} (hn : n < 64) (htrained : s.chanTrained n = true)
  (haddr : addr < s.fget (R.GDM_CH_STATUS.usable_mib n) * 0x100000) (hclean : ∃ w ∈ lineWords n addr, s.poison.contains w = false)
include hn htrained haddr hclean

/-- GDDR7_POISON on a line of the usable space that is not poisoned already: a first single error is noted, any other
poisons the line. -/
theorem exec_gddr7Poison (hbits : bits ≠ 0) :
    exec (.gddr7Poison n addr bits) s =
      if bits = 1 ∧ (!(lineWords n addr).any s.weak.contains) = true then
        .next { s with weak := insertNat s.weak (gddrKey n (addr / 64 * 64) / 8) }
      else .next ((s.linePoisoned n addr).report (srcChan n) codePoison 2 (addr / 64 * 64)) := by
  have hall : ¬ (bits = 0 ∨ (lineWords n addr).all s.poison.contains = true) := by
    obtain ⟨w, hw, hp⟩ := hclean
    rintro (h | h)
    · exact hbits h
    · exact absurd (List.all_eq_true.1 h w hw) (by simp only [hp, Bool.false_eq_true, not_false_eq_true])
  show execGddr7Poison n addr bits s = _
  unfold execGddr7Poison
  rw [htrained, decide_eq_true hn, decide_eq_true haddr, if_neg (by decide)]
  exact if_neg hall

/-- Two bits, or a single one in a line with one noted before: the line is poisoned, counted and logged HARD. -/
theorem gddr7Poison_poisons (hroom : s.reports.length < 64)
    (hbad : 2 ≤ bits ∨ bits = 1 ∧ ∃ w ∈ lineWords n addr, s.weak.contains w = true) :
    ∃ t, exec (.gddr7Poison n addr bits) s = .next t ∧ (∀ w ∈ lineWords n addr, t.poison.contains w = true) ∧ t.mem = s.mem ∧
      t.fget (R.GDM_CH_ECC.poisoned n) = (s.fget (R.GDM_CH_ECC.poisoned n) + 1) % 2 ^ 32 ∧
      ∃ p : Report, t.reports = s.reports ++ [p] ∧ p.source = srcChan n ∧ p.cls = 2 ∧ p.code = codePoison := by
  have hcase : ¬ (bits = 1 ∧ (!(lineWords n addr).any s.weak.contains) = true) := by
    rintro ⟨rfl, hnone⟩
    obtain h | ⟨-, hsome⟩ := hbad
    · omega
    · rw [List.any_eq_true.2 hsome] at hnone
      exact absurd hnone (by decide)
  have hsource : 0x5000 ≤ srcChan n := by unfold srcChan; omega
  have hqueued := report_queued (s.linePoisoned n addr) (srcChan n) codePoison 2 (addr / 64 * 64) hsource (by decide) hroom
  rw [exec_gddr7Poison hn htrained haddr hclean (by omega), if_neg hcase, hqueued]
  exact ⟨_, rfl, linePoisoned_contains s n addr, rfl, fget_linePoisoned s n addr,
    (s.linePoisoned n addr).mkReport (srcChan n) codePoison 2 (addr / 64 * 64), rfl, rfl, rfl, rfl⟩

/-- A first single error in a line is noted and poisons nothing. -/
theorem gddr7Poison_notes (h1 : bits = 1) (hnone : ∀ w ∈ lineWords n addr, s.weak.contains w = false) :
    ∃ t, exec (.gddr7Poison n addr bits) s = .next t ∧ t.poison = s.poison ∧ t.mem = s.mem ∧
      ∃ w ∈ lineWords n addr, t.weak.contains w = true := by
  have hcase : bits = 1 ∧ (!(lineWords n addr).any s.weak.contains) = true := ⟨h1, by simpa using hnone⟩
  rw [exec_gddr7Poison hn htrained haddr hclean (by omega), if_pos hcase]
  exact ⟨_, rfl, rfl, rfl, _, head_mem_lineWords n addr, List.contains_iff_mem.2 (mem_insertNat.2 (.inl rfl))⟩

end

end Sys2Proof.Machine

/-! Heat of an M-die and its channels (R314, R315). -/
namespace Sys2Proof.Machine

theorem chStatus_ne {n k : Nat} (h : n ≠ k) : A.GDM_CH_STATUS n ≠ A.GDM_CH_STATUS k := by
  unfold A.GDM_CH_STATUS
  omega

theorem toNat_mod_two (b : Bool) : b.toNat % 2 ^ 1 = b.toNat := Nat.mod_eq_of_lt b.toNat_lt

section
variable (s : State) (m : Nat)

/-- A channel of the M-die shows the hot state that was set. -/
theorem fget_hot_setHot (on : Bool) {n : Nat} (hn : n ∈ chansOf m) :
    (s.setHot m on).fget (R.GDM_CH_STATUS.hot n) = on.toNat := by
  have hput (t : State) (k : Nat) : ((t.fset (R.GDM_CH_STATUS.hot k) on.toNat).raise (.pf 0) (96 + k)).fget (R.GDM_CH_STATUS.hot k) = on.toNat := by
    rw [raise_fget, fget_fset_same _ _ _ (show 8 + 1 ≤ 64 by decide)]
    exact toNat_mod_two on
  unfold State.setHot
  dsimp only
  rw [fget_reportOpen]
  · refine foldl_reads_put (g := (State.fget · (R.GDM_CH_STATUS.hot n))) hn ?_ ?_ s
    · exact fun t => hput t n
    · intro t k ht
      obtain rfl | hne := eq_or_ne k n
      · exact hput t k
      · rw [raise_fget, fget_fset_reg _ _ _ _ (chStatus_ne hne), ht]
  · show 0x200008 + 0x800 * n ≠ 0x30018
    omega
  · show 0x200008 + 0x800 * n ≠ 0x30020
    omega

/-- The M-die is in the hot state as it was set. -/
@[simp] theorem mHot_setHot (on : Bool) : (s.setHot m on).mHot m = on := by
  have hfirst : 8 * m ∈ chansOf m := List.mem_map.2 ⟨0, by decide, Nat.add_zero _⟩
  unfold State.mHot
  cases on with
  | true => exact List.any_eq_true.2 ⟨8 * m, hfirst, fon_eq_true.2 (by rw [fget_hot_setHot s m true hfirst]; decide)⟩
  | false => exact List.any_eq_false.2 (fun n hn => ne_true_of_eq_false (fon_eq_false.2 (fget_hot_setHot s m false hn)))

@[simp] theorem setHot_mem (on : Bool) : (s.setHot m on).mem = s.mem := by
  unfold State.setHot
  dsimp only
  rw [reportOpen_mem, foldl_reads (g := State.mem) (h := fun t n _ => (raise_mem _ _ _).trans (State.fset_mem t _ _))]

/-- A hot M-die holds both T-dies of its module to 75 % of issue (R20, R314). -/
theorem issueLimit_of_mHot {d : Nat} (hd : d < 16) (h : s.mHot (d / 2) = true) : s.issueLimit d ≤ 75 := by
  unfold State.issueLimit
  rw [if_pos ⟨hd, h⟩]
  exact Nat.min_le_right _ _

/-- What the devices report goes into dev_hot of the eight channels. -/
def State.devicesPolled (devs : Nat) : State :=
  (chansOf m).foldl (fun s n => s.fset (R.GDM_CH_STATUS.dev_hot n) ((bit devs (n % 8)).toNat)) s

@[simp] theorem devicesPolled_mem (devs : Nat) : (s.devicesPolled m devs).mem = s.mem :=
  foldl_reads (g := State.mem) (fun t _ _ => State.fset_mem t _ _) s

/-- A device's report has no part in the hot state. -/
theorem mHot_fset_dev_hot (t : State) (k n v : Nat) : (t.fset (R.GDM_CH_STATUS.dev_hot n) v).mHot k = t.mHot k := by
  have hread (i : Nat) := fget_fset_apart t (R.GDM_CH_STATUS.dev_hot n) (R.GDM_CH_STATUS.hot i) v (.inl (show 8 + 1 ≤ 9 by decide))
    (show 8 + 1 ≤ 64 by decide)
  simp only [State.mHot, State.fon, hread]

@[simp] theorem mHot_devicesPolled (devs k : Nat) : (s.devicesPolled m devs).mHot k = s.mHot k :=
  foldl_reads (g := (State.mHot · k)) (fun t n _ => mHot_fset_dev_hot t k n _) s

/-- A report whose low eight bits are clear names no device of the M-die. -/
theorem bit_of_mod_eq_zero {devs : Nat} (h : devs % 256 = 0) (n : Nat) : bit devs (n % 8) = false := by
  have hlow := Nat.testBit_mod_two_pow devs 8 (n % 8)
  rw [show devs % 2 ^ 8 = 0 from h, Nat.zero_testBit, decide_eq_true (Nat.mod_lt n (by decide)), Bool.true_and,
    Nat.testBit_eq_decide_div_mod_eq] at hlow
  exact hlow.symm

/-- With no device hot, no channel of the M-die shows one. -/
theorem fget_dev_hot_devicesPolled {devs n : Nat} (h : devs % 256 = 0) (hn : n ∈ chansOf m) :
    (s.devicesPolled m devs).fget (R.GDM_CH_STATUS.dev_hot n) = 0 := by
  have hput (t : State) (k : Nat) : (t.fset (R.GDM_CH_STATUS.dev_hot k) (bit devs (k % 8)).toNat).fget (R.GDM_CH_STATUS.dev_hot k) = 0 := by
    rw [fget_fset_same _ _ _ (show 9 + 1 ≤ 64 by decide), bit_of_mod_eq_zero h]
    rfl
  refine foldl_reads_put (g := (State.fget · (R.GDM_CH_STATUS.dev_hot n))) hn ?_ ?_ s
  · exact fun t => hput t n
  · intro t k ht
    obtain rfl | hne := eq_or_ne k n
    · exact hput t k
    · rw [fget_fset_reg _ _ _ _ (chStatus_ne hne), ht]

/-- The M-die after a poll, but for the time since which it has been cool: above 95 C, or with a device hot, it enters the
hot state. -/
def State.heatPolled (temp : Int) (devs : Nat) : State :=
  let s1 := s.devicesPolled m devs
  if (decide (95 < temp) || decide (devs % 256 ≠ 0)) && !s1.mHot m then s1.setHot m true else s1

@[simp] theorem heatPolled_mem (temp : Int) (devs : Nat) : (s.heatPolled m temp devs).mem = s.mem := by
  unfold State.heatPolled
  dsimp only
  split
  · rw [setHot_mem, devicesPolled_mem]
  · exact devicesPolled_mem s m devs

/-- The state with other data of Night Watch. -/
def State.setNwt (w : Nwt) : State := { s with nwt := w }

@[simp] theorem setNwt_mem (w : Nwt) : (s.setNwt w).mem = s.mem := rfl

@[simp] theorem setNwt_fget (w : Nwt) (f : Fld) : (s.setNwt w).fget f = s.fget f := rfl

@[simp] theorem setNwt_mHot (w : Nwt) : (s.setNwt w).mHot m = s.mHot m := rfl

variable {m}

/-- A poll of one of the eight M-dies. -/
theorem exec_tempPoll (now devs : Nat) (temp : Int) (hm : m < 8) :
    ∃ w : Nwt, exec (.tempPoll now m temp devs) s = .next (((s.advance now).heatPolled m temp devs).setNwt w) := by
  show ∃ w : Nwt, execTempPoll now m temp devs s = _
  unfold execTempPoll
  rw [decide_eq_true hm, if_neg (by decide)]
  exact ⟨_, rfl⟩

/-- A poll above 95 C, or with a device hot: the M-die is in the hot state, its T-dies are held to 75 %. -/
theorem tempPoll_hot (now devs : Nat) (temp : Int) (hm : m < 8) (hhot : 95 < temp ∨ devs % 256 ≠ 0) :
    ∃ t, exec (.tempPoll now m temp devs) s = .next t ∧ t.mem = (s.advance now).mem ∧
      ((s.advance now).mHot m = false → ∀ n ∈ chansOf m, t.fget (R.GDM_CH_STATUS.hot n) = 1) ∧ t.mHot m = true ∧
      t.issueLimit (2 * m) ≤ 75 ∧ t.issueLimit (2 * m + 1) ≤ 75 := by
  obtain ⟨w, hexec⟩ := exec_tempPoll s now devs temp hm
  have henter : (decide (95 < temp) || decide (devs % 256 ≠ 0)) = true := by simpa using hhot
  have hpolled : (s.advance now).heatPolled m temp devs =
      if (s.advance now).mHot m = false then ((s.advance now).devicesPolled m devs).setHot m true else (s.advance now).devicesPolled m devs := by
    simp only [State.heatPolled, henter, mHot_devicesPolled, Bool.true_and, Bool.not_eq_true']
  have hstate : (((s.advance now).heatPolled m temp devs).setNwt w).mHot m = true := by
    rw [setNwt_mHot, hpolled]
    split
    · exact mHot_setHot _ m true
    · next h => exact (mHot_devicesPolled _ m devs m).trans (Bool.eq_true_of_not_eq_false h)
  refine ⟨_, hexec, ?_, fun hcool n hn => ?_, hstate, ?_, ?_⟩
  · rw [setNwt_mem, heatPolled_mem]
  · rw [setNwt_fget, hpolled, if_pos hcool]
    exact fget_hot_setHot _ m true hn
  · exact issueLimit_of_mHot _ (by omega) (by rwa [show 2 * m / 2 = m by omega])
  · exact issueLimit_of_mHot _ (by omega) (by rwa [show (2 * m + 1) / 2 = m by omega])

/-- A poll between 90 C and 95 C with no device hot leaves the hot state as it was. -/
theorem tempPoll_between (now devs : Nat) (temp : Int) (hm : m < 8) (hlow : temp ≤ 95) (hdevs : devs % 256 = 0) :
    ∃ t, exec (.tempPoll now m temp devs) s = .next t ∧ t.mHot m = (s.advance now).mHot m ∧
      (∀ n ∈ chansOf m, t.fget (R.GDM_CH_STATUS.dev_hot n) = 0) ∧ t.mem = (s.advance now).mem := by
  obtain ⟨w, hexec⟩ := exec_tempPoll s now devs temp hm
  have hpolled : (s.advance now).heatPolled m temp devs = (s.advance now).devicesPolled m devs := by
    simp [State.heatPolled, hdevs, Int.not_lt.2 hlow]
  rw [hpolled] at hexec
  refine ⟨_, hexec, ?_, fun n hn => ?_, ?_⟩
  · rw [setNwt_mHot, mHot_devicesPolled]
  · rw [setNwt_fget, fget_dev_hot_devicesPolled _ m hdevs hn]
  · rw [setNwt_mem, devicesPolled_mem]

/-- HOT_EXIT after 10 ms of cool: the hot state ends on all eight channels. -/
theorem hotExit_ends (now since : Nat) (hm : m < 8)
    (hcool : assocGet (fun _ => (none : Option Nat)) (s.advance now).nwt.mCool m = some since) (hhot : (s.advance now).mHot m = true)
    (hlong : since + 10000000 ≤ (s.advance now).clock) :
    ∃ t, exec (.hotExit now m) s = .next t ∧ (∀ n ∈ chansOf m, t.fget (R.GDM_CH_STATUS.hot n) = 0) ∧ t.mHot m = false ∧
      t.mem = (s.advance now).mem := by
  refine ⟨(s.advance now).setHot m false, ?_, fun n hn => fget_hot_setHot _ m false hn, mHot_setHot _ m false, setHot_mem _ m false⟩
  show execHotExit now m s = _
  unfold execHotExit
  simp only [hcool, whenever, hm, hhot, hlong, decide_true, Bool.and_self, if_true]

end

/-- Settles O39: map entries, the mapping, line errors and heat, each outcome by its lemma. -/
theorem boardAddressing : Obligations.BoardAddressing := by
  refine ⟨fun fn r v s hr hfn => ⟨?_, ?_, ?_, ?_⟩, ?_, ?_, ?_⟩
  · exact mapEnableWrite_valid hr hfn
  · exact mapEnableWrite_invalid hr hfn
  · exact mapEnableWrite_enabled hr hfn
  · exact mapEnableWrite_zero hr hfn
  · intro r o s hr ho pa chs g hon hlower
    exact locOf_mapped r o s hr ho hon hlower
  · intro n addr bits s hn htrained haddr hroom words hclean
    exact ⟨gddr7Poison_poisons hn htrained haddr hclean hroom, gddr7Poison_notes hn htrained haddr hclean⟩
  · intro now m devs temp s hm s0
    exact ⟨tempPoll_hot s now devs temp hm, fun _ => tempPoll_between s now devs temp hm,
      fun since hcool hhot hlong => hotExit_ends s now since hm hcool hhot hlong⟩

end Sys2Proof.Machine

/-! The security minimums of OTP (R55, R479). -/
namespace Sys2Proof.Machine

/-- Settles O5: every command keeps what `Keeps` names, the order of the two minimums among it. -/
theorem minimumsNeverFall : Obligations.MinimumsNeverFall := by
  intro c s t h
  obtain ⟨-, -, -, hfw, himage, -⟩ := exec_keeps h
  exact ⟨hfw, himage⟩

end Sys2Proof.Machine

/-! Reading a field after another field, or the same one, was written; the discharger of every condition is `rfl`. -/
namespace Sys2Proof.Machine

/-- A field lies within its register of 64 bits. -/
def Fld.fits (f : Fld) : Bool := Nat.ble (f.lo + f.width) 64

/-- The bits of field `g` are none of those of `f`. -/
def Fld.apart (f g : Fld) : Bool := (Nat.ble (g.lo + g.width) f.lo || Nat.ble (f.lo + f.width) g.lo) && g.fits

theorem fget_fset_self (s : State) (f : Fld) (v : Nat) (h : f.fits = true) : (s.fset f v).fget f = v % 2 ^ f.width :=
  fget_fset_same s f v (Nat.le_of_ble_eq_true h)

theorem fget_fset_of_apart (s : State) (f g : Fld) (v : Nat) (h : f.apart g = true) : (s.fset f v).fget g = s.fget g := by
  simp only [Fld.apart, Fld.fits, Bool.and_eq_true, Bool.or_eq_true, Nat.ble_eq] at h
  exact fget_fset_apart s f g v h.1 h.2

/-- A write of a field leaves every other register as it is. -/
theorem reg_fset_of_ne (s : State) (f : Fld) (v off : Nat) (h : off ≠ f.off) : (s.fset f v).reg off = s.reg off :=
  reg_setReg_other s f.off off _ (Ne.symm h)

theorem fget_lt (s : State) (f : Fld) : s.fget f < 2 ^ f.width := Nat.mod_lt _ (Nat.two_pow_pos _)

/-- A one-bit field is on where it reads 1. -/
theorem fon_of_fget_one {s : State} {f : Fld} (h : s.fget f = 1) : s.fon f = true := fon_eq_true.2 (by omega)

theorem fon_of_fget_zero {s : State} {f : Fld} (h : s.fget f = 0) : s.fon f = false := fon_eq_false.2 h

end Sys2Proof.Machine

/-! What a vector raised, and a report that joins the queue, show (R456, R489). -/
namespace Sys2Proof.Machine

/-- From `s` to `t` the vector was sent, or marked pending where it is masked (R456). -/
def Raised (s t : State) (fn : Fn) (v : Nat) : Prop :=
  Out.msix fn v ∈ t.out ∨ (s.vec (fnIndex fn * 4096 + v)).1 = true ∧ t.vec (fnIndex fn * 4096 + v) = (true, true)

section
variable (s : State) (fn : Fn) (v : Nat)

theorem raised_raise : Raised s (s.raise fn v) fn v := by
  unfold Raised State.raise
  dsimp only
  split
  · next h => exact .inr ⟨h, State.vec_setVec_same _ _ _⟩
  · exact .inl List.mem_cons_self

@[simp] theorem raise_reg (off : Nat) : (s.raise fn v).reg off = s.reg off :=
  raise_reads s (State.reg · off) (fun _ _ => rfl) (fun _ => rfl) fn v

@[simp] theorem raise_regs : (s.raise fn v).regs = s.regs := raise_reads s State.regs (fun _ _ => rfl) (fun _ => rfl) fn v

@[simp] theorem raise_togus : (s.raise fn v).togus = s.togus := raise_reads s State.togus (fun _ _ => rfl) (fun _ => rfl) fn v

@[simp] theorem raise_reports : (s.raise fn v).reports = s.reports := raise_reads s State.reports (fun _ _ => rfl) (fun _ => rfl) fn v

@[simp] theorem raise_boot : (s.raise fn v).boot = s.boot := raise_reads s State.boot (fun _ _ => rfl) (fun _ => rfl) fn v

theorem raise_out_suffix : s.out <:+ (s.raise fn v).out := by
  obtain h | h := raise_cases s fn v <;> rw [h]
  · exact List.suffix_refl _
  · exact List.suffix_cons _ _

/-- A vector other than the one raised stays as it is. -/
theorem vec_raise_of_ne {k : Nat} (h : fnIndex fn * 4096 + v ≠ k) : (s.raise fn v).vec k = s.vec k := by
  obtain hr | hr := raise_cases s fn v <;> rw [hr]
  · exact State.vec_setVec_other _ _ _ _ h
  · rfl

variable {s fn v}

/-- A vector raised stays so where what has left stays and the vectors do. -/
theorem Raised.mono {t u : State} (h : Raised s t fn v) (hout : t.out <:+ u.out) (hvec : ∀ k, u.vec k = t.vec k) :
    Raised s u fn v := by
  obtain h | ⟨h, ht⟩ := h
  · exact .inl (hout.mem h)
  · exact .inr ⟨h, (hvec _).trans ht⟩

/-- A vector raised stays so when another one is raised after it. -/
theorem Raised.raise {t : State} (h : Raised s t fn v) (fn' : Fn) (v' : Nat) (hne : fnIndex fn' * 4096 + v' ≠ fnIndex fn * 4096 + v) :
    Raised s (t.raise fn' v') fn v := by
  obtain h | ⟨h, ht⟩ := h
  · exact .inl ((raise_out_suffix t fn' v').mem h)
  · exact .inr ⟨h, (vec_raise_of_ne t fn' v' hne).trans ht⟩

/-- A vector raised from a state whose vectors are those of `s`. -/
theorem Raised.of_vec {t u : State} (h : Raised t u fn v) (hvec : t.vec (fnIndex fn * 4096 + v) = s.vec (fnIndex fn * 4096 + v)) :
    Raised s u fn v := h.imp_right (fun ⟨h1, h2⟩ => ⟨hvec ▸ h1, h2⟩)

end

end Sys2Proof.Machine

/-! SUBMIT and VALIDATION_DONE (R42, R45, R56, R557, R558). -/
namespace Sys2Proof.Machine

theorem prtRights_of_lt {n : Nat} (h : n < 2) : prtRights (.pf n) = true := decide_eq_true h

theorem prtRights_false {fn : Fn} (h0 : fn ≠ .pf 0) (h1 : fn ≠ .pf 1) : prtRights fn = false := by
  cases fn with
  | pf n =>
    refine decide_eq_false (fun h => ?_)
    obtain rfl | rfl : n = 0 ∨ n = 1 := by omega
    · exact h0 rfl
    · exact h1 rfl
  | vf v => rfl
  | mgmt => rfl

/-- A write of a package register without the right to it changes nothing but that it is reported (R549, R582). -/
theorem refuseWrite_queued (s : State) (fn : Fn) (off : Nat) (eight rights : Bool) (hroom : s.reports.length < 64) :
    ∃ r : Report, s.refuseWrite fn off eight rights = { s with reports := s.reports ++ [r] } ∧ r.source = srcPackage ∧ r.cls = 0 ∧
      r.code = codeWriteRefused :=
  ⟨_, report_queued s _ _ 0 _ (by decide) (by decide) hroom, rfl, rfl, rfl⟩

/-- A report with a free detail joins its queue where that has room. -/
theorem reportOpen_queued (s : State) (source code cls : Nat) (hsource : 0x5000 ≤ source) (hcls : cls < 3) (hroom : s.reports.length < 64) :
    ∃ r : Report, s.reportOpen source code cls = { s with free := s.free + 1, reports := s.reports ++ [r] } ∧ r.source = source ∧
      r.cls = cls ∧ r.code = code :=
  ⟨_, report_queued { s with free := s.free + 1 } source code cls _ hsource hcls hroom, rfl, rfl, rfl⟩

section
variable (s : State)

/-- A SUBMIT while no validation runs takes the staged bytes in. -/
theorem submit_idle (n : Nat) (hn : n < 2) (hidle : s.fget R.PRT_STAGE.validating = 0) :
    let len := Nat.max 400 (Nat.min (leNat (s.bytes (stagingBase + 0x18) 4)) 262144)
    ∃ t, exec (.submit (.pf n)) s = .next t ∧ t.togus = { s.togus with validating := some (s.bytes stagingBase len) } ∧
      t.fget R.PRT_STAGE.validating = 1 ∧ (∀ off, off ≠ A.PRT_STAGE → t.reg off = s.reg off) ∧ t.mem = s.mem ∧ t.out = s.out := by
  refine ⟨{ s.fset R.PRT_STAGE.validating 1 with togus := { s.togus with validating := some _ } }, ?_, rfl, ?_, ?_, rfl, rfl⟩
  · show execSubmit _ s = _
    unfold execSubmit
    rw [prtRights_of_lt hn, fon_of_fget_zero hidle]
    rfl
  · exact fget_fset_self s R.PRT_STAGE.validating 1 rfl
  · exact fun off h => reg_fset_of_ne s R.PRT_STAGE.validating 1 off h

/-- A SUBMIT while a validation runs is discarded with busy_err. -/
theorem submit_busy (n : Nat) (hn : n < 2) (hbusy : s.fget R.PRT_STAGE.validating = 1) :
    ∃ t, exec (.submit (.pf n)) s = .next t ∧ t.fget R.PRT_STAGE.busy_err = 1 ∧ t.fget R.PRT_STAGE.validating = 1 ∧
      t.togus = s.togus ∧ Raised s t (.pf 0) 7 ∧ t.mem = s.mem := by
  refine ⟨(s.fset R.PRT_STAGE.busy_err 1).raise (.pf 0) 7, ?_, ?_, ?_, raise_togus _ _ _,
    (raised_raise (s.fset R.PRT_STAGE.busy_err 1) _ _).of_vec rfl, raise_mem _ _ _⟩
  · show execSubmit _ s = _
    unfold execSubmit
    rw [prtRights_of_lt hn, fon_of_fget_one hbusy]
    rfl
  · rw [raise_fget, fget_fset_self _ _ _ rfl]
    rfl
  · rw [raise_fget, fget_fset_of_apart _ _ _ _ rfl, hbusy]

/-- A SUBMIT by a function without the right to it is reported as a refused write. -/
theorem submit_refused (fn : Fn) (h0 : fn ≠ .pf 0) (h1 : fn ≠ .pf 1) (hroom : s.reports.length < 64) :
    ∃ t, exec (.submit fn) s = .next t ∧ t.togus = s.togus ∧ t.regs = s.regs ∧ t.mem = s.mem ∧
      ∃ r : Report, t.reports = s.reports ++ [r] ∧ r.source = 0xA000 ∧ r.cls = 0 ∧ r.code = codeWriteRefused := by
  obtain ⟨r, hqueued, hr⟩ := refuseWrite_queued s fn A.PRT_CMD true true hroom
  refine ⟨s.refuseWrite fn A.PRT_CMD true true, ?_, ?_⟩
  · show execSubmit fn s = _
    unfold execSubmit
    rw [prtRights_false h0 h1]
    rfl
  · rw [hqueued]
    exact ⟨rfl, rfl, rfl, r, rfl, hr⟩

/-- The state with another Togus structure. -/
def State.withTogus (g : Togus) : State := { s with togus := g }

/-- PRT_STAGE shows a validation of `b` that has ended with `r` (R557). -/
def State.stageShows (b : List Byte) (r : Option (Nat × Nat)) : State :=
  ((((s.fset R.PRT_STAGE.validating 0).fset R.PRT_STAGE.done 1).fset R.PRT_STAGE.code ((r.map Prod.fst).getD 0)).fset
    R.PRT_STAGE.offset ((r.map Prod.snd).getD 0)).fset R.PRT_STAGE.target (imgTarget b % 16)

/-- The state once the validation of `b` has ended with `r`: PRT_STAGE shows it, both vectors are raised, the event has left. -/
def State.validated (b : List Byte) (r : Option (Nat × Nat)) : State :=
  (((((s.withTogus { s.togus with validating := none }).stageShows b r).raise (.pf 0) 7).raise (.pf 1) 32)).emit
    (.pldm 3 ((r.map Prod.fst).getD 0 + 256 * (r.map Prod.snd).getD 0))

/-- The image `i` joins those that wait: its partition shows it (R62, R557). -/
def State.takesImage (p : Nat) (i : PendingImg) : State :=
  (((s.withTogus { s.togus with pending := s.togus.pending ++ [i] }).fset (R.PRT_STATUS.image p) 1).fset (R.PRT_STATUS.code p) 0).raise
    (.pf 1) (16 + p)

/-- VALIDATION_DONE of an image under validation. -/
theorem exec_validationDone {b : List Byte} (hb : s.togus.validating = some b) :
    exec .validationDone s = .next
      (match validate (s.withTogus { s.togus with validating := none }) false b with
       | some r => (s.validated b (some r)).reportOpen srcPackage codeImageRefused 0
       | none => (s.validated b none).takesImage (imgTarget b) ⟨imgTarget b, b, (s.validated b none).togus.sections, 0,
           (s.validated b none).waitOf (imgTarget b) b, false, false⟩) := by
  show execValidationDone s = _
  unfold execValidationDone State.withTogus
  rw [hb]
  dsimp only
  split <;> rename_i h <;> rw [h] <;> rfl

variable (b : List Byte) (r : Option (Nat × Nat))

theorem stageShows_reg {off : Nat} (h : off ≠ A.PRT_STAGE) : (s.stageShows b r).reg off = s.reg off := by
  unfold State.stageShows
  rw [reg_fset_of_ne _ R.PRT_STAGE.target _ _ h, reg_fset_of_ne _ R.PRT_STAGE.offset _ _ h, reg_fset_of_ne _ R.PRT_STAGE.code _ _ h,
    reg_fset_of_ne _ R.PRT_STAGE.done _ _ h, reg_fset_of_ne _ R.PRT_STAGE.validating _ _ h]

/-- What PRT_STAGE shows once a validation has ended. -/
theorem stageShows_stage :
    (s.stageShows b r).fget R.PRT_STAGE.done = 1 ∧ (s.stageShows b r).fget R.PRT_STAGE.validating = 0 ∧
      (s.stageShows b r).fget R.PRT_STAGE.code = (r.map Prod.fst).getD 0 % 2 ^ R.PRT_STAGE.code.width ∧
      (s.stageShows b r).fget R.PRT_STAGE.offset = (r.map Prod.snd).getD 0 % 2 ^ R.PRT_STAGE.offset.width ∧
      (s.stageShows b r).fget R.PRT_STAGE.target = imgTarget b % 16 := by
  unfold State.stageShows
  refine ⟨?_, ?_, ?_, ?_, ?_⟩
  · iterate 3 rw [fget_fset_of_apart _ _ _ _ rfl]
    exact fget_fset_self _ _ _ rfl
  · iterate 4 rw [fget_fset_of_apart _ _ _ _ rfl]
    exact fget_fset_self _ _ _ rfl
  · iterate 2 rw [fget_fset_of_apart _ _ _ _ rfl]
    exact fget_fset_self _ _ _ rfl
  · rw [fget_fset_of_apart _ _ _ _ rfl]
    exact fget_fset_self _ _ _ rfl
  · exact (fget_fset_self _ _ _ rfl).trans (Nat.mod_mod _ _)

@[simp] theorem validated_reg (off : Nat) :
    (s.validated b r).reg off = ((s.withTogus { s.togus with validating := none }).stageShows b r).reg off := by
  unfold State.validated
  rw [State.emit_reg, raise_reg, raise_reg]

theorem validated_fget (f : Fld) :
    (s.validated b r).fget f = ((s.withTogus { s.togus with validating := none }).stageShows b r).fget f :=
  congrArg (getField · f.lo f.width) (validated_reg s b r f.off)

theorem validated_reg_of_ne {off : Nat} (h : off ≠ A.PRT_STAGE) : (s.validated b r).reg off = s.reg off := by
  rw [validated_reg, stageShows_reg _ b r h]
  rfl

@[simp] theorem validated_togus : (s.validated b r).togus = { s.togus with validating := none } := by
  unfold State.validated
  rw [State.emit_togus, raise_togus, raise_togus]
  rfl

@[simp] theorem validated_mem : (s.validated b r).mem = s.mem := by
  unfold State.validated
  rw [State.emit_mem, raise_mem, raise_mem]
  rfl

@[simp] theorem validated_reports : (s.validated b r).reports = s.reports := by
  unfold State.validated
  rw [State.emit_reports, raise_reports, raise_reports]
  rfl

theorem validated_event : Out.pldm 3 ((r.map Prod.fst).getD 0 + 256 * (r.map Prod.snd).getD 0) ∈ (s.validated b r).out :=
  List.mem_cons_self

theorem vec_validated {k : Nat} (h7 : fnIndex (.pf 0) * 4096 + 7 ≠ k) (h32 : fnIndex (.pf 1) * 4096 + 32 ≠ k) :
    (s.validated b r).vec k = s.vec k := by
  unfold State.validated
  exact (vec_raise_of_ne _ _ _ h32).trans (vec_raise_of_ne _ _ _ h7)

theorem validated_raised : Raised s (s.validated b r) (.pf 0) 7 ∧ Raised s (s.validated b r) (.pf 1) 32 := by
  have hfirst : Raised s (((s.withTogus { s.togus with validating := none }).stageShows b r).raise (.pf 0) 7) (.pf 0) 7 :=
    (raised_raise _ _ _).of_vec rfl
  have hsecond := raised_raise (((s.withTogus { s.togus with validating := none }).stageShows b r).raise (.pf 0) 7) (.pf 1) 32
  constructor
  · exact Raised.mono (hfirst.raise (.pf 1) 32 (by decide)) (List.suffix_cons _ _) (fun _ => rfl)
  · refine Raised.mono (hsecond.of_vec ?_) (List.suffix_cons _ _) (fun _ => rfl)
    rw [vec_raise_of_ne _ _ _ (by decide)]
    rfl

/-- What PRT_STAGE shows, the vectors and the memory once a validation has ended. -/
theorem validated_stage :
    (s.validated b r).fget R.PRT_STAGE.done = 1 ∧ (s.validated b r).fget R.PRT_STAGE.validating = 0 ∧
      (s.validated b r).fget R.PRT_STAGE.code = (r.map Prod.fst).getD 0 % 2 ^ R.PRT_STAGE.code.width ∧
      (s.validated b r).fget R.PRT_STAGE.offset = (r.map Prod.snd).getD 0 % 2 ^ R.PRT_STAGE.offset.width ∧
      (s.validated b r).fget R.PRT_STAGE.target = imgTarget b % 16 := by
  simp only [validated_fget]
  exact stageShows_stage _ b r

variable {s b}

/-- VALIDATION_DONE of a refused image. -/
theorem validationDone_refused (c o : Nat) (hb : s.togus.validating = some b)
    (hr : validate (s.withTogus { s.togus with validating := none }) false b = some (c, o)) (hroom : s.reports.length < 64) :
    ∃ t, exec .validationDone s = .next t ∧ t.fget R.PRT_STAGE.done = 1 ∧ t.fget R.PRT_STAGE.validating = 0 ∧
      t.fget R.PRT_STAGE.code = c % 2 ^ R.PRT_STAGE.code.width ∧ t.fget R.PRT_STAGE.offset = o % 2 ^ R.PRT_STAGE.offset.width ∧
      t.fget R.PRT_STAGE.target = imgTarget b % 16 ∧ t.togus = { s.togus with validating := none } ∧
      (∀ off, off ≠ A.PRT_STAGE → t.reg off = s.reg off) ∧ Raised s t (.pf 0) 7 ∧ Raised s t (.pf 1) 32 ∧
      Out.pldm 3 (c + 256 * o) ∈ t.out ∧ t.mem = s.mem ∧
      ∃ r : Report, t.reports = s.reports ++ [r] ∧ r.source = 0xA000 ∧ r.cls = 0 ∧ r.code = codeImageRefused := by
  have hexec := exec_validationDone s hb
  rw [hr] at hexec
  obtain ⟨q, hqueued, hq⟩ := reportOpen_queued (s.validated b (some (c, o))) srcPackage codeImageRefused 0 (by decide) (by decide)
    (by rwa [validated_reports])
  obtain ⟨hdone, hvalidating, hcode, hoff, htarget⟩ := validated_stage s b (some (c, o))
  obtain ⟨h7, h32⟩ := validated_raised s b (some (c, o))
  refine ⟨_, hexec, ?_⟩
  dsimp only
  rw [hqueued]
  exact ⟨hdone, hvalidating, hcode, hoff, htarget, validated_togus s b _, fun off h => validated_reg_of_ne s b _ h, h7, h32,
    validated_event s b _, validated_mem s b _, q, congrArg (· ++ [q]) (validated_reports s b _), hq⟩

/-- The status register of a partition is not the one of the stage. -/
theorem prtStatus_ne_stage (p : Nat) : A.PRT_STATUS p ≠ A.PRT_STAGE := by
  unfold A.PRT_STATUS A.PRT_STAGE
  omega

section
variable (t : State) (p : Nat) (i : PendingImg)

theorem takesImage_reg {off : Nat} (h : off ≠ A.PRT_STATUS p) : (t.takesImage p i).reg off = t.reg off := by
  unfold State.takesImage
  rw [raise_reg, reg_fset_of_ne _ (R.PRT_STATUS.code p) _ _ h, reg_fset_of_ne _ (R.PRT_STATUS.image p) _ _ h]
  rfl

theorem takesImage_status : (t.takesImage p i).fget (R.PRT_STATUS.image p) = 1 ∧ (t.takesImage p i).fget (R.PRT_STATUS.code p) = 0 := by
  unfold State.takesImage
  rw [raise_fget, raise_fget, fget_fset_of_apart _ _ (R.PRT_STATUS.image p) _ rfl]
  exact ⟨fget_fset_self _ _ _ rfl, fget_fset_self _ _ _ rfl⟩

theorem takesImage_togus : (t.takesImage p i).togus = { t.togus with pending := t.togus.pending ++ [i] } := by
  unfold State.takesImage
  rw [raise_togus]
  rfl

@[simp] theorem takesImage_mem : (t.takesImage p i).mem = t.mem := by
  unfold State.takesImage
  rw [raise_mem]
  rfl

@[simp] theorem takesImage_reports : (t.takesImage p i).reports = t.reports := by
  unfold State.takesImage
  rw [raise_reports]
  rfl

theorem takesImage_out : t.out <:+ (t.takesImage p i).out := by
  unfold State.takesImage
  refine List.IsSuffix.trans ?_ (raise_out_suffix _ _ _)
  exact List.suffix_refl _

theorem takesImage_raised : Raised t (t.takesImage p i) (.pf 1) (16 + p) := by
  unfold State.takesImage
  exact (raised_raise _ _ _).of_vec rfl

/-- A vector other than the partition's stays raised. -/
theorem takesImage_keeps_raised {s : State} {fn : Fn} {v : Nat} (h : Raised s t fn v)
    (hne : fnIndex (.pf 1) * 4096 + (16 + p) ≠ fnIndex fn * 4096 + v) : Raised s (t.takesImage p i) fn v := by
  have hput : Raised s (((t.withTogus { t.togus with pending := t.togus.pending ++ [i] }).fset (R.PRT_STATUS.image p) 1).fset
      (R.PRT_STATUS.code p) 0) fn v := h.mono (List.suffix_refl _) (fun _ => rfl)
  exact hput.raise (.pf 1) (16 + p) hne

end

/-- What bounds an image's wait rests on the sections in force alone. -/
theorem waitOf_congr {s t : State} (h : s.togus.sections = t.togus.sections) (p : Nat) (b : List Byte) : s.waitOf p b = t.waitOf p b := by
  unfold State.waitOf State.partPresent State.partField State.sect
  rw [h]

/-- VALIDATION_DONE of an accepted image. -/
theorem validationDone_accepted (p : Nat) (hb : s.togus.validating = some b) (htarget : imgTarget b = p) (hp : p < 16)
    (hr : validate (s.withTogus { s.togus with validating := none }) false b = none) :
    let i : PendingImg := ⟨p, b, s.togus.sections, 0, s.waitOf p b, false, false⟩
    ∃ t, exec .validationDone s = .next t ∧ t.fget R.PRT_STAGE.done = 1 ∧ t.fget R.PRT_STAGE.validating = 0 ∧
      t.fget R.PRT_STAGE.code = 0 ∧ t.fget R.PRT_STAGE.offset = 0 ∧ t.fget R.PRT_STAGE.target = p ∧
      t.togus = { s.togus with validating := none, pending := s.togus.pending ++ [i] } ∧
      t.fget (R.PRT_STATUS.image p) = 1 ∧ t.fget (R.PRT_STATUS.code p) = 0 ∧
      (∀ off, off ≠ A.PRT_STAGE → off ≠ A.PRT_STATUS p → t.reg off = s.reg off) ∧ Raised s t (.pf 0) 7 ∧ Raised s t (.pf 1) 32 ∧
      Raised s t (.pf 1) (16 + p) ∧ Out.pldm 3 0 ∈ t.out ∧ t.reports = s.reports ∧ t.mem = s.mem := by
  subst htarget
  have hexec := exec_validationDone s hb
  rw [hr] at hexec
  refine ⟨_, hexec, ?_⟩
  have hwait : (s.validated b none).waitOf (imgTarget b) b = s.waitOf (imgTarget b) b :=
    waitOf_congr (by rw [validated_togus]) _ b
  obtain ⟨hdone, hvalidating, hcode, hoff, htarget⟩ := validated_stage s b none
  obtain ⟨h7, h32⟩ := validated_raised s b none
  have hstage (f : Fld) (h : A.PRT_STAGE = f.off) (i : PendingImg) : ((s.validated b none).takesImage (imgTarget b) i).fget f =
      (s.validated b none).fget f :=
    congrArg (getField · f.lo f.width) (takesImage_reg _ _ i (h ▸ (prtStatus_ne_stage _).symm))
  dsimp only
  rw [hwait]
  refine ⟨(hstage _ rfl _).trans hdone, (hstage _ rfl _).trans hvalidating, (hstage _ rfl _).trans hcode, (hstage _ rfl _).trans hoff,
    ((hstage _ rfl _).trans htarget).trans (Nat.mod_eq_of_lt hp), ?_, ?_, ?_, ?_, ?_, ?_, ?_, ?_, ?_, ?_⟩
  · rw [takesImage_togus, validated_togus]
  · exact (takesImage_status _ _ _).1
  · exact (takesImage_status _ _ _).2
  · intro off h h'
    rw [takesImage_reg _ _ _ h', validated_reg_of_ne s b none h]
  · exact takesImage_keeps_raised _ _ _ h7 (by simp only [fnIndex]; omega)
  · exact takesImage_keeps_raised _ _ _ h32 (by simp only [fnIndex]; omega)
  · refine (takesImage_raised _ _ _).of_vec (vec_validated s b none ?_ ?_)
    · simp only [fnIndex]; omega
    · simp only [fnIndex]; omega
  · exact (takesImage_out _ _ _).mem (validated_event s b none)
  · rw [takesImage_reports, validated_reports]
  · rw [takesImage_mem, validated_mem]

end

/-- Settles O7: SUBMIT and VALIDATION_DONE, each outcome by its lemma. -/
theorem submitAndValidation : Obligations.SubmitAndValidation := by
  refine ⟨submit_idle, submit_busy, submit_refused, fun s hnone => ?_, ?_, ?_⟩
  · show execValidationDone s = _
    unfold execValidationDone
    rw [hnone]
  · exact fun s b c o hb hr hroom => validationDone_refused c o hb hr hroom
  · exact fun s b p hb htarget hp hr => validationDone_accepted p hb htarget hp hr

end Sys2Proof.Machine

/-! Little-endian numbers and the CRC of a record (R11, R180). -/
namespace Sys2Proof.Machine

theorem length_leBytes (n x : Nat) : (leBytes n x).length = n := by
  induction n generalizing x with
  | zero => rfl
  | succ n ih => exact congrArg (· + 1) (ih _)

/-- The bytes of a number spell its low bits. -/
theorem leNat_leBytes (n x : Nat) : leNat (leBytes n x) = x % 256 ^ n := by
  induction n generalizing x with
  | zero => simp [leBytes, leNat, Nat.mod_one]
  | succ n ih =>
    simp only [leBytes, leNat, ih, BitVec.toNat_ofNat]
    rw [show x % 256 % 2 ^ 8 = x % 256 from Nat.mod_mod _ _, Nat.pow_succ', Nat.mod_mul]

theorem leNat_lt (bs : List Byte) : leNat bs < 256 ^ bs.length := by
  induction bs with
  | nil => decide
  | cons b rest ih =>
    have hb : b.toNat < 256 := b.isLt
    simp only [leNat, List.length_cons, Nat.pow_succ]
    omega

theorem leAt_lt (bs : List Byte) (off n : Nat) : leAt bs off n < 256 ^ n :=
  (leNat_lt _).trans_le (Nat.pow_le_pow_right (by decide) (List.length_take_le _ _))

theorem crcBits_lt (n : Nat) {poly c : Nat} (hpoly : poly < 2 ^ 64) (hc : c < 2 ^ 64) : crcBits n poly c < 2 ^ 64 := by
  induction n generalizing c with
  | zero => exact hc
  | succ n ih =>
    have hhalf : c / 2 < 2 ^ 64 := by omega
    refine ih ?_
    split
    · exact Nat.xor_lt_two_pow hhalf hpoly
    · exact hhalf

theorem crc64From_lt {c : Nat} (bs : List Byte) (hc : c < 2 ^ 64) : crc64From c bs < 2 ^ 64 := by
  unfold crc64From
  induction bs generalizing c with
  | nil => exact hc
  | cons b rest ih =>
    have hb : b.toNat < 2 ^ 64 := b.isLt.trans (by decide)
    exact ih (crcBits_lt 8 (by decide) (Nat.xor_lt_two_pow hc hb))

theorem crc64_lt (bs : List Byte) : crc64 bs < 2 ^ 64 :=
  Nat.xor_lt_two_pow (crc64From_lt bs (by decide)) (by decide)

/-- Replacing an element by a constant is `List.set`. -/
theorem updateAt_const {α : Type} (l : List α) (i : Nat) (a : α) : updateAt l i (fun _ => a) = l.set i a := by
  induction l generalizing i with
  | nil => rfl
  | cons b rest ih =>
    cases i with
    | zero => rfl
    | succ i => exact congrArg (b :: ·) (ih i)

end Sys2Proof.Machine

/-! The activation records of the boot flash (R467). -/
namespace Sys2Proof.Machine

/-- The fields of a record fit their bytes. -/
def ActRec.Fits (r : ActRec) : Prop := r.seq < 2 ^ 64 ∧ r.active < 256 ∧ r.pending < 256 ∧ r.trials < 256

/-- The first 56 bytes of a record. -/
def recBody (r : ActRec) : List Byte :=
  leBytes 8 r.seq ++ [BitVec.ofNat 8 r.active, BitVec.ofNat 8 r.pending, BitVec.ofNat 8 r.trials] ++ List.replicate 45 0

theorem length_recBody (r : ActRec) : (recBody r).length = 0x38 := by
  simp [recBody, length_leBytes]

/-- A record written reads back as it was. -/
theorem recOf_recBytes {r : ActRec} (h : r.Fits) : recOf (recBytes r) = some r := by
  obtain ⟨hseq, hactive, hpending, htrials⟩ := h
  have hbytes : recBytes r = recBody r ++ leBytes 8 (crc64 (recBody r)) := rfl
  have hbody : (recBytes r).take 0x38 = recBody r := by
    rw [hbytes]
    exact List.take_left' (length_recBody r)
  have hcrc : leAt (recBytes r) 0x38 8 = crc64 (recBody r) := by
    unfold leAt
    rw [hbytes, List.drop_left' (length_recBody r), List.take_of_length_le (length_leBytes 8 _).le, leNat_leBytes]
    exact Nat.mod_eq_of_lt (crc64_lt _)
  have hlen : (recBytes r).length = 64 := by rw [hbytes, List.length_append, length_recBody, length_leBytes]
  have hseq' : leAt (recBytes r) 0 8 = r.seq := by
    show leNat ((leBytes 8 r.seq ++ _ ++ _ ++ _).take 8) = r.seq
    rw [List.append_assoc, List.append_assoc, List.take_left' (length_leBytes 8 _), leNat_leBytes]
    exact Nat.mod_eq_of_lt hseq
  have hone (x : Nat) (hx : x < 256) : leNat [BitVec.ofNat 8 x] = x := by
    simp only [leNat, BitVec.toNat_ofNat]
    omega
  unfold recOf
  rw [hlen, hcrc, hbody, if_pos (by simp)]
  have hactive' : leAt (recBytes r) 8 1 = r.active := hone r.active hactive
  have hpending' : leAt (recBytes r) 9 1 = r.pending := hone r.pending hpending
  have htrials' : leAt (recBytes r) 10 1 = r.trials := hone r.trials htrials
  rw [hseq', hactive', hpending', htrials']

theorem recOf_fits {b : List Byte} {r : ActRec} (h : recOf b = some r) : r.Fits := by
  unfold recOf at h
  split at h
  · obtain rfl := Option.some.inj h
    exact ⟨leAt_lt _ _ _, leAt_lt _ _ _, leAt_lt _ _ _, leAt_lt _ _ _⟩
  · cases h

/-- The winning record rests on the two copies alone. -/
theorem winRecord_congr {s t : State} (h0 : s.nv.rec0 = t.nv.rec0) (h1 : s.nv.rec1 = t.nv.rec1) : s.winRecord = t.winRecord := by
  unfold State.winRecord
  rw [h0, h1]

theorem winRecord_fits (s : State) : s.winRecord.2.Fits := by
  unfold State.winRecord
  split
  · next a b ha hb =>
    split
    · exact recOf_fits hb
    · exact recOf_fits ha
  · next a ha _ => exact recOf_fits ha
  · next b _ hb => exact recOf_fits hb
  · exact ⟨by decide, by decide, by decide, by decide⟩

/-- A record is written into one of the two copies, and nothing else changes. -/
theorem putRecord_cases (s : State) (r : ActRec) :
    ∃ b, s.putRecord r = { s with nv := { s.nv with rec0 := b } } ∨ s.putRecord r = { s with nv := { s.nv with rec1 := b } } := by
  refine ⟨recBytes { r with seq := (s.winRecord.2.seq + 1) % 2 ^ 64 }, ?_⟩
  unfold State.putRecord
  dsimp only
  split
  · exact .inl rfl
  · exact .inr rfl

/-- A reading that the records do not bear on is the same after one was written. -/
theorem putRecord_reads {β : Type} {s : State} {r : ActRec} (g : State → β)
    (h0 : ∀ b, g { s with nv := { s.nv with rec0 := b } } = g s) (h1 : ∀ b, g { s with nv := { s.nv with rec1 := b } } = g s) :
    g (s.putRecord r) = g s := by
  obtain ⟨b, h | h⟩ := putRecord_cases s r
  · rw [h, h0]
  · rw [h, h1]

/-- A record written wins: it takes the losing copy, with the next sequence number. -/
theorem winRecord_putRecord {s : State} {r : ActRec} (hseq : s.winRecord.2.seq < 2 ^ 64 - 1) (hr : r.Fits) :
    (s.putRecord r).winRecord.2 = { r with seq := s.winRecord.2.seq + 1 } := by
  have hmod : (s.winRecord.2.seq + 1) % 2 ^ 64 = s.winRecord.2.seq + 1 := Nat.mod_eq_of_lt (by omega)
  have hnew : recOf (recBytes { r with seq := s.winRecord.2.seq + 1 }) = some { r with seq := s.winRecord.2.seq + 1 } :=
    recOf_recBytes ⟨by show s.winRecord.2.seq + 1 < 2 ^ 64; omega, hr.2.1, hr.2.2.1, hr.2.2.2⟩
  unfold State.putRecord
  dsimp only
  rw [hmod]
  revert hnew
  unfold State.winRecord
  rcases h0 : recOf s.nv.rec0 with _ | a <;> rcases h1 : recOf s.nv.rec1 with _ | b <;> dsimp only
  · intro hnew
    simp [h0, hnew]
  · intro hnew
    simp [h1, hnew]
  · intro hnew
    simp [h0, hnew]
  · by_cases hlt : a.seq < b.seq
    · intro hnew
      simp only [if_pos hlt] at hnew ⊢
      simp [h1, hnew]
    · intro hnew
      simp only [if_neg hlt] at hnew ⊢
      simp [h0, hnew]

end Sys2Proof.Machine

/-! The management path: who is answered, and the Burolmuri commands (R477, R479, R480). -/
namespace Sys2Proof.Machine

/-- Firmware or recovery runs, or the package is halted. -/
def MgmtUp (s : State) : Prop := s.boot.stage = .running ∨ s.boot.stage = .recovery ∨ s.boot.stage = .halted

/-- Some owner key slot is programmed and not revoked. -/
def OwnerUsable (s : State) : Prop := ∃ x ∈ s.nv.ownerSlots, x = 1

section
variable (s : State)

theorem mgmtUp_iff : s.mgmtUp = true ↔ MgmtUp s := by
  simp [State.mgmtUp, MgmtUp, or_assoc]

theorem mgmtUp_false (h : ¬ MgmtUp s) : s.mgmtUp = false := Bool.eq_false_iff.2 (fun hup => h ((mgmtUp_iff s).1 hup))

theorem hasOwner_iff : s.hasOwner = true ↔ OwnerUsable s := by
  simp [State.hasOwner, OwnerUsable]

/-- A Burolmuri command is taken where the endpoint answers, it is signed, and an owner key is usable. -/
theorem burolmuri_iff (signed : Bool) : s.burolmuri signed = true ↔ MgmtUp s ∧ signed = true ∧ OwnerUsable s := by
  simp only [State.burolmuri, Bool.and_eq_true, mgmtUp_iff, hasOwner_iff, and_assoc]

theorem burolmuri_false (signed : Bool) (h : ¬ MgmtUp s ∨ signed = false ∨ ¬ OwnerUsable s) : s.burolmuri signed = false := by
  refine Bool.eq_false_iff.2 (fun htaken => ?_)
  obtain ⟨hup, hsigned, howner⟩ := (burolmuri_iff s signed).1 htaken
  obtain h | h | h := h
  · exact h hup
  · exact absurd (hsigned.symm.trans h) (by decide)
  · exact h howner

theorem burolmuri_true (hup : MgmtUp s) (howner : OwnerUsable s) : s.burolmuri true = true :=
  (burolmuri_iff s true).2 ⟨hup, rfl, howner⟩

/-- A Burolmuri command that is not taken is answered refused, and changes nothing else. -/
theorem burolmuri_refused (cmd : Bool → Instr) (signed : Bool)
    (hcmd : ∃ i v, cmd = .revokeSlot i ∨ cmd = .raiseFwMin v ∨ cmd = .raiseImageMin v ∨ cmd = .packageReset ∨ cmd = .twilightEnter)
    (h : ¬ MgmtUp s ∨ signed = false ∨ ¬ OwnerUsable s) : exec (cmd signed) s = .next (s.emit (.mgmtResp 63 1 [])) := by
  have hnot := burolmuri_false s signed h
  obtain ⟨i, v, rfl | rfl | rfl | rfl | rfl⟩ := hcmd
  · show execRevokeSlot i signed s = _
    unfold execRevokeSlot
    rw [hnot]
    rfl
  · show execRaiseFwMin v signed s = _
    unfold execRaiseFwMin
    rw [hnot]
    rfl
  · show execRaiseImageMin v signed s = _
    unfold execRaiseImageMin
    rw [hnot]
    rfl
  · show execPackageReset signed s = _
    unfold execPackageReset
    rw [hnot]
    rfl
  · show execTwilightEnter signed s = _
    unfold execTwilightEnter
    rw [hnot]
    rfl

/-! Owner key slots. -/

/-- The state of an owner slot, where the four are listed. -/
theorem ownerSlot_eq_iff {i x : Nat} (hlen : s.nv.ownerSlots.length = 4) (hi : i < 4) :
    s.ownerSlot i = x ↔ s.nv.ownerSlots[i]? = some x := by
  have hlt : i < s.nv.ownerSlots.length := by omega
  simp [State.ownerSlot, hlt]

/-- PROGRAM_SLOT is taken into an empty slot: signed once an owner key is usable, over I3C before that (R479). -/
def ProgramTaken (i : Nat) (signed i3c : Bool) : Prop :=
  MgmtUp s ∧ i < 4 ∧ s.nv.ownerSlots[i]? = some 0 ∧ (OwnerUsable s → signed = true) ∧ (¬ OwnerUsable s → i3c = true)

theorem programTaken_iff (i : Nat) (signed i3c : Bool) (hlen : s.nv.ownerSlots.length = 4) :
    (s.mgmtUp && decide (i < 4) && s.ownerSlot i == 0 && (if s.hasOwner then signed else i3c)) = true ↔
      ProgramTaken s i signed i3c := by
  have hkey : (if s.hasOwner then signed else i3c) = true ↔ (OwnerUsable s → signed = true) ∧ (¬ OwnerUsable s → i3c = true) := by
    rw [← hasOwner_iff]
    cases s.hasOwner <;> simp
  simp only [Bool.and_eq_true, hkey, mgmtUp_iff, decide_eq_true_eq, beq_iff_eq, and_assoc, ProgramTaken]
  refine and_congr_right (fun _ => and_congr_right (fun hi => ?_))
  rw [ownerSlot_eq_iff s hlen hi]

/-- An owner slot takes a state: OTP holds it, GLB_SLOTS shows it. -/
theorem setOwner_nv (i st : Nat) : (s.setOwner i st).nv = { s.nv with ownerSlots := s.nv.ownerSlots.set i st } := by
  unfold State.setOwner
  rw [updateAt_const]
  rfl

variable {s}

theorem programSlot_refused {i : Nat} {key : List Byte} {signed i3c complete : Bool} (hlen : s.nv.ownerSlots.length = 4)
    (h : ¬ ProgramTaken s i signed i3c) :
    exec (.programSlot i key signed i3c complete) s = .next (s.emit (.mgmtResp 63 1 [])) := by
  show execProgramSlot i key signed i3c complete s = _
  unfold execProgramSlot
  rw [Bool.eq_false_iff.2 (fun ht => h ((programTaken_iff s i signed i3c hlen).1 ht))]
  rfl

/-- PROGRAM_SLOT to its end: the key, its digest and the programmed state lie in the slot. -/
theorem programSlot_complete {i : Nat} {key : List Byte} {signed i3c : Bool} (hlen : s.nv.ownerSlots.length = 4)
    (h : ProgramTaken s i signed i3c) :
    ∃ t, exec (.programSlot i key signed i3c true) s = .next t ∧ t.nv = { s.nv with
        ownerSlots := s.nv.ownerSlots.set i 1, ownerKeys := s.nv.ownerKeys.set i key, ownerDigests := s.nv.ownerDigests.set i (sha384 key) } ∧
      t.out = .mgmtResp 63 0 [] :: s.out ∧ t.mem = s.mem ∧ t.boot = s.boot := by
  have hexec : exec (.programSlot i key signed i3c true) s = execProgramSlot i key signed i3c true s := rfl
  unfold execProgramSlot at hexec
  rw [(programTaken_iff s i signed i3c hlen).2 h, updateAt_const, updateAt_const] at hexec
  exact ⟨_, hexec, setOwner_nv _ i 1, rfl, rfl, rfl⟩

/-- PROGRAM_SLOT cut short: the slot is spoiled and reported HARD. -/
theorem programSlot_spoiled {i : Nat} {key : List Byte} {signed i3c : Bool} (hlen : s.nv.ownerSlots.length = 4)
    (h : ProgramTaken s i signed i3c) (hroom : s.reports.length < 64) :
    ∃ t r, exec (.programSlot i key signed i3c false) s = .next t ∧
      t.nv = { s.nv with ownerSlots := s.nv.ownerSlots.set i 3 } ∧ t.reports = s.reports ++ [r] ∧ r.cls = 2 ∧ t.mem = s.mem := by
  obtain ⟨r, hqueued, -, hcls, -⟩ := reportOpen_queued (s.setOwner i 3) srcPackage codeSlotSpoiled 2 (by decide) (by decide) hroom
  refine ⟨(s.setOwner i 3).reportOpen srcPackage codeSlotSpoiled 2, r, ?_, ?_, ?_, hcls, ?_⟩
  · show execProgramSlot i key signed i3c false s = _
    unfold execProgramSlot
    rw [(programTaken_iff s i signed i3c hlen).2 h]
    rfl
  · rw [hqueued]
    exact setOwner_nv s i 3
  · rw [hqueued]
    rfl
  · rw [hqueued]
    rfl

/-- Another slot than `i` is usable. -/
theorem otherSlots_iff {i : Nat} (hlen : s.nv.ownerSlots.length = 4) :
    ((List.range 4).any (fun j => j != i && s.ownerSlot j == 1)) = true ↔ ∃ j, j ≠ i ∧ s.nv.ownerSlots[j]? = some 1 := by
  simp only [List.any_eq_true, List.mem_range, Bool.and_eq_true, bne_iff_ne, beq_iff_eq]
  constructor
  · rintro ⟨j, hj, hne, h⟩
    exact ⟨j, hne, (ownerSlot_eq_iff s hlen hj).1 h⟩
  · rintro ⟨j, hne, h⟩
    obtain ⟨hj, -⟩ := List.getElem?_eq_some_iff.1 h
    have hj : j < 4 := by omega
    exact ⟨j, hj, hne, (ownerSlot_eq_iff s hlen hj).2 h⟩

/-- REVOKE_SLOT of a usable slot: refused where it would leave none (R480). -/
theorem exec_revokeSlot {i : Nat} (hup : MgmtUp s) (howner : OwnerUsable s) (hlen : s.nv.ownerSlots.length = 4) (hi : i < 4)
    (hslot : s.nv.ownerSlots[i]? = some 1) :
    exec (.revokeSlot i true) s = .next
      (if (List.range 4).any (fun j => j != i && s.ownerSlot j == 1) then (s.setOwner i 2).emit (.mgmtResp 63 0 [])
       else s.emit (.mgmtResp 63 1 [])) := by
  show execRevokeSlot i true s = _
  unfold execRevokeSlot
  dsimp only
  rw [burolmuri_true s hup howner, (ownerSlot_eq_iff s hlen hi).2 hslot, decide_eq_true hi]
  simp only [Bool.true_and, beq_self_eq_true, apply_ite Host.Outcome.next]
  rfl

theorem revokeSlot_outcomes {i : Nat} (hup : MgmtUp s) (howner : OwnerUsable s) (hlen : s.nv.ownerSlots.length = 4) (hi : i < 4)
    (hslot : s.nv.ownerSlots[i]? = some 1) :
    ((∃ j, j ≠ i ∧ s.nv.ownerSlots[j]? = some 1) → ∃ t, exec (.revokeSlot i true) s = .next t ∧
      t.nv = { s.nv with ownerSlots := s.nv.ownerSlots.set i 2 } ∧ t.mem = s.mem) ∧
    ((¬ ∃ j, j ≠ i ∧ s.nv.ownerSlots[j]? = some 1) → exec (.revokeSlot i true) s = .next (s.emit (.mgmtResp 63 1 []))) := by
  have hexec := exec_revokeSlot hup howner hlen hi hslot
  constructor
  · intro hother
    rw [if_pos ((otherSlots_iff hlen).2 hother)] at hexec
    exact ⟨_, hexec, setOwner_nv s i 2, rfl⟩
  · intro hnone
    rwa [if_neg (fun h => hnone ((otherSlots_iff hlen).1 h))] at hexec

/-! The two minimums (R55, R479). -/

theorem raiseFwMin_outcomes (v : Nat) (hup : MgmtUp s) (howner : OwnerUsable s) :
    (s.nv.fwMin ≤ v → v < 2 ^ 32 → ∃ t, exec (.raiseFwMin v true) s = .next t ∧ t.nv = { s.nv with fwMin := v } ∧
      t.fget R.GLB_SEC.fw_min = v ∧ t.mem = s.mem) ∧
    (v < s.nv.fwMin → exec (.raiseFwMin v true) s = .next (s.emit (.mgmtResp 63 1 []))) := by
  have hexec : exec (.raiseFwMin v true) s = execRaiseFwMin v true s := rfl
  unfold execRaiseFwMin at hexec
  rw [burolmuri_true s hup howner, Bool.true_and] at hexec
  constructor
  · intro hle hlt
    rw [if_pos (decide_eq_true ⟨hle, hlt⟩)] at hexec
    refine ⟨_, hexec, rfl, ?_, rfl⟩
    exact (fget_fset_self _ R.GLB_SEC.fw_min v rfl).trans (Nat.mod_eq_of_lt hlt)
  · intro hlt
    rwa [if_neg (fun h => Nat.not_le.2 hlt (of_decide_eq_true h).1)] at hexec

theorem raiseImageMin_outcomes (v : Nat) (hup : MgmtUp s) (howner : OwnerUsable s) :
    (s.nv.imageMin ≤ v → v < 2 ^ 32 → ∃ t, exec (.raiseImageMin v true) s = .next t ∧ t.nv = { s.nv with imageMin := v } ∧
      t.fget R.GLB_SEC.image_min = v ∧ t.mem = s.mem) ∧
    (v < s.nv.imageMin → exec (.raiseImageMin v true) s = .next (s.emit (.mgmtResp 63 1 []))) := by
  have hexec : exec (.raiseImageMin v true) s = execRaiseImageMin v true s := rfl
  unfold execRaiseImageMin at hexec
  rw [burolmuri_true s hup howner, Bool.true_and] at hexec
  constructor
  · intro hle hlt
    rw [if_pos (decide_eq_true ⟨hle, hlt⟩)] at hexec
    refine ⟨_, hexec, rfl, ?_, rfl⟩
    exact (fget_fset_self _ R.GLB_SEC.image_min v rfl).trans (Nat.mod_eq_of_lt hlt)
  · intro hlt
    rwa [if_neg (fun h => Nat.not_le.2 hlt (of_decide_eq_true h).1)] at hexec

/-- No ring operation outlasts a warm reset (R461). -/
theorem warmReset_ops (cause : Nat) : (s.warmReset cause).ops = [] := by
  unfold State.warmReset
  dsimp only
  split
  · rfl
  · rfl

theorem packageReset_resets (hup : MgmtUp s) (howner : OwnerUsable s) :
    ∃ t, exec (.packageReset true) s = .next t ∧ t.fget R.GLB_BOOT.reset_cause = 3 ∧ t.boot.stage = .inReset ∧ t.nv = s.nv ∧ t.ops = [] := by
  obtain ⟨hstage, -, hnv⟩ := warmReset_frame (s.mgmtRespond 63 0 []) 3
  refine ⟨(s.mgmtRespond 63 0 []).warmReset 3, ?_, warmReset_cause _ 3, hstage, hnv, warmReset_ops 3⟩
  show execPackageReset true s = _
  unfold execPackageReset
  rw [burolmuri_true s hup howner]
  rfl

theorem twilightEnter_arms (hup : MgmtUp s) (howner : OwnerUsable s) :
    exec (.twilightEnter true) s = .next ({ s with twilightArm := true }.emit (.mgmtResp 63 0 [])) := by
  show execTwilightEnter true s = _
  unfold execTwilightEnter
  rw [burolmuri_true s hup howner]
  rfl

end

end Sys2Proof.Machine

/-! MCTP control, SPDM and sensors (R59, R477; log 12). -/
namespace Sys2Proof.Machine

section
variable (s : State)

/-- An endpoint that is not up answers nothing. -/
theorem mgmt_silent (c n : Nat) (hdown : ¬ MgmtUp s) :
    exec (.mctpControl c n) s = .next s ∧ exec (.spdmRequest c) s = .next s ∧ exec (.pldmGetSensor n) s = .next s := by
  have hdown := mgmtUp_false s hdown
  refine ⟨?_, ?_, ?_⟩
  · show execMctpControl c n s = _
    unfold execMctpControl
    rw [hdown]
    rfl
  · show execSpdmRequest c s = _
    unfold execSpdmRequest
    rw [hdown]
    rfl
  · show execPldmGetSensor n s = _
    unfold execPldmGetSensor
    rw [hdown]
    rfl

variable {s}
variable (hup : MgmtUp s)
include hup

theorem exec_mctpControl (c n : Nat) :
    exec (.mctpControl c n) s =
      match c with
      | 0x01 =>
        if 8 ≤ n ∧ n < 255 then .next ({ s with boot := { s.boot with eid := n } }.emit (.mgmtResp 0 0 (leBytes 1 n)))
        else .next (s.emit (.mgmtResp 0 2 []))
      | 0x02 => .next (s.emit (.mgmtResp 0 0 (leBytes 1 s.boot.eid)))
      | 0x05 => .next (s.emit (.mgmtResp 0 0 [2, 1, 5]))
      | 0x0B => .next (s.emit (.mgmtResp 0 0 []))
      | 0x0C => .next (s.emit (.mgmtResp 0 0 []))
      | _ => .next (s.emit (.mgmtResp 0 5 [])) := by
  show execMctpControl c n s = _
  unfold execMctpControl
  rw [(mgmtUp_iff s).2 hup]
  rfl

/-- MCTP_CONTROL: the EID is set within its range and read; other commands are answered as unsupported. -/
theorem mctpControl_outcomes (n : Nat) :
    (8 ≤ n → n < 255 →
      exec (.mctpControl 0x01 n) s = .next ({ s with boot := { s.boot with eid := n } }.emit (.mgmtResp 0 0 (leBytes 1 n)))) ∧
    ((n < 8 ∨ 255 ≤ n) → exec (.mctpControl 0x01 n) s = .next (s.emit (.mgmtResp 0 2 []))) ∧
    exec (.mctpControl 0x02 n) s = .next (s.emit (.mgmtResp 0 0 (leBytes 1 s.boot.eid))) ∧
    exec (.mctpControl 0x05 n) s = .next (s.emit (.mgmtResp 0 0 [2, 1, 5])) ∧
    (∀ c, c ∉ [0x01, 0x02, 0x05, 0x0B, 0x0C] → exec (.mctpControl c n) s = .next (s.emit (.mgmtResp 0 5 []))) := by
  refine ⟨fun hlow hhigh => ?_, fun hout => ?_, exec_mctpControl hup 2 n, exec_mctpControl hup 5 n, fun c hc => ?_⟩
  · exact (exec_mctpControl hup 1 n).trans (if_pos ⟨hlow, hhigh⟩)
  · exact (exec_mctpControl hup 1 n).trans (if_neg (by omega))
  · rw [exec_mctpControl hup]
    simp only [List.mem_cons, List.not_mem_nil, or_false, not_or] at hc
    obtain ⟨h1, h2, h5, hb, hc⟩ := hc
    split
    case h_6 => rfl
    all_goals contradiction

theorem exec_spdmRequest (c : Nat) :
    exec (.spdmRequest c) s = if spdmKnown c then .next (s.emit (.mgmtResp 1 0 (if c = 0xE0 then s.measurements else [])))
      else .next (s.emit (.mgmtResp 1 0x7F [])) := by
  show execSpdmRequest c s = _
  unfold execSpdmRequest
  rw [(mgmtUp_iff s).2 hup]
  rfl

/-- SPDM_REQUEST of a supported message other than the measurements. -/
theorem spdmRequest_known {c : Nat} (hc : c ∈ [0x81, 0x82, 0x84, 0xE1, 0xE3, 0xE4, 0xE5, 0xE9, 0xEC]) :
    exec (.spdmRequest c) s = .next (s.emit (.mgmtResp 1 0 [])) := by
  have hknown : ∀ c ∈ [0x81, 0x82, 0x84, 0xE1, 0xE3, 0xE4, 0xE5, 0xE9, 0xEC], spdmKnown c = true ∧ c ≠ 0xE0 := by decide
  obtain ⟨hknown, hne⟩ := hknown c hc
  rw [exec_spdmRequest hup, hknown, if_neg hne]
  rfl

theorem spdmRequest_unknown {c : Nat} (hc : c ∉ [0x81, 0x82, 0x84, 0xE0, 0xE1, 0xE3, 0xE4, 0xE5, 0xE9, 0xEC]) :
    exec (.spdmRequest c) s = .next (s.emit (.mgmtResp 1 0x7F [])) := by
  have hnot : ¬ spdmKnown c = true := fun h => hc (List.contains_iff_mem.1 h)
  rw [exec_spdmRequest hup, if_neg hnot]

theorem exec_pldmGetSensor (n : Nat) :
    exec (.pldmGetSensor n) s =
      if s.boot.stage = .halted then
        .next (s.emit (.mgmtResp 2 0 (leBytes 1 (s.fget R.GLB_BOOT.halt_die) ++ leBytes 1 (s.fget R.GLB_BOOT.halt_code))))
      else if n < 64 then .next (s.emit (.mgmtResp 2 0 (leBytes 2 (s.fget (R.NWT_SENSOR.filtered n)) ++ leBytes 2 (s.fget (R.NWT_SENSOR.raw n)))))
      else .next (s.emit (.mgmtResp 2 0x80 [])) := by
  show execPldmGetSensor n s = _
  unfold execPldmGetSensor
  rw [(mgmtUp_iff s).2 hup]
  rfl

end

end Sys2Proof.Machine

/-! The arbiter's answer to a staging activity (R503 to R505). -/
namespace Sys2Proof.Machine

section
variable (s : State)

/-- Staging meets another staging of its domain, and an almanac write (R504). -/
theorem mntClash_staging (b db : Nat) : s.mntClash 5 0 b db = true ↔ b = 6 ∨ b = 5 ∧ db = 0 := by
  have hback : s.mntClash1 b db 5 0 = true ↔ b = 5 ∧ db = 0 := by
    unfold State.mntClash1
    split
    case h_8 => simp
    all_goals omega
  have hforth : s.mntClash1 5 0 b db = true ↔ b = 6 ∨ b = 5 ∧ db = 0 := by
    unfold State.mntClash1
    split
    case h_1 => simp
    case h_8 c _ _ hnot _ _ _ _ _ _ =>
      have hne : c ≠ 6 := hnot rfl
      simp only [Bool.or_false, Bool.and_eq_true, beq_iff_eq]
      omega
    all_goals omega
  rw [State.mntClash, Bool.or_eq_true, hback, hforth, or_assoc, or_self]

/-- Staging can take a slot: one is free, and none holds what staging conflicts with. -/
def StagingFree : Prop :=
  (∃ i, i < 16 ∧ s.fget (R.MNT_SLOT.busy i) = 0) ∧
    ∀ i, i < 16 → s.fget (R.MNT_SLOT.busy i) = 1 → s.fget (R.MNT_SLOT.activity i) ≠ 6 ∧
      (s.fget (R.MNT_SLOT.activity i) = 5 → s.fget (R.MNT_SLOT.domain i) ≠ 0)

theorem mem_mntHeld {i : Nat} : i ∈ s.mntHeld ↔ i < 16 ∧ s.fget (R.MNT_SLOT.busy i) = 1 := by
  have hlt : s.fget (R.MNT_SLOT.busy i) < 2 := fget_lt s (R.MNT_SLOT.busy i)
  simp only [State.mntHeld, List.mem_filter, List.mem_range, fon_eq_true]
  exact and_congr_right (fun _ => by omega)

/-- Staging meets no holder of a slot. -/
theorem mntConflict_staging_none :
    s.mntConflict 5 0 = none ↔ ∀ i, i < 16 → s.fget (R.MNT_SLOT.busy i) = 1 → s.fget (R.MNT_SLOT.activity i) ≠ 6 ∧
      (s.fget (R.MNT_SLOT.activity i) = 5 → s.fget (R.MNT_SLOT.domain i) ≠ 0) := by
  simp only [State.mntConflict, List.find?_eq_none, mem_mntHeld, mntClash_staging, and_imp, not_or, not_and, ne_eq]

theorem mntFree_none : s.mntFree = none ↔ ∀ i, i < 16 → s.fget (R.MNT_SLOT.busy i) ≠ 0 := by
  simp [State.mntFree, List.find?_eq_none, State.fon]

variable {s}

/-- A staging request with a slot free takes one. -/
theorem mntGrant_staging (h : StagingFree s) (who : Nat) :
    ∃ i, i < 16 ∧ s.mntGrant 5 0 who true = (s.mntTake i 5 0 who, stDone, i, 0, 0) := by
  obtain ⟨⟨j, hj, hfree⟩, hmeets⟩ := h
  obtain ⟨i, hi⟩ := Option.ne_none_iff_exists'.1 (fun hnone => (mntFree_none s).1 hnone j hj hfree)
  refine ⟨i, List.mem_range.1 (List.mem_of_find?_eq_some hi), ?_⟩
  unfold State.mntGrant State.mntDecide
  rw [(mntConflict_staging_none s).2 hmeets, hi]
  rfl

/-- A staging request without one is refused with MAINT_CONFLICT and logged (R505). -/
theorem mntGrant_staging_refused (h : ¬ StagingFree s) (who : Nat) :
    (s.mntGrant 5 0 who true).1 = s.reportOpen srcArbiter codeMaintRefused 0 ∧ (s.mntGrant 5 0 who true).2.1 = stMaintConflict := by
  unfold State.mntGrant State.mntDecide
  rcases hmeets : s.mntConflict 5 0 with _ | i
  · rcases hfree : s.mntFree with _ | j
    · exact ⟨rfl, rfl⟩
    · have hbusy : s.fget (R.MNT_SLOT.busy j) = 0 := by
        have hoff := List.find?_some hfree
        rw [Bool.not_eq_true'] at hoff
        exact fon_eq_false.1 hoff
      exact absurd ⟨⟨j, List.mem_range.1 (List.mem_of_find?_eq_some hfree), hbusy⟩, (mntConflict_staging_none s).1 hmeets⟩ h
  · exact ⟨rfl, rfl⟩

/-- What a slot taken shows. -/
theorem mntTake_shows (s : State) (i act dom who : Nat) (hact : act < 16) (hwho : who < 4) :
    (s.mntTake i act dom who).fget (R.MNT_SLOT.busy i) = 1 ∧ (s.mntTake i act dom who).fget (R.MNT_SLOT.activity i) = act ∧
      (s.mntTake i act dom who).fget (R.MNT_SLOT.requester i) = who := by
  unfold State.mntTake
  refine ⟨?_, ?_, ?_⟩
  · iterate 4 rw [fget_fset_of_apart _ _ _ _ rfl]
    exact fget_fset_self _ _ _ rfl
  · iterate 2 rw [fget_fset_of_apart _ _ _ _ rfl]
    exact (fget_fset_self _ _ _ rfl).trans (Nat.mod_eq_of_lt hact)
  · iterate 3 rw [fget_fset_of_apart _ _ _ _ rfl]
    exact (fget_fset_self _ _ _ rfl).trans (Nat.mod_eq_of_lt hwho)

/-- A slot's register is none below it. -/
theorem mntSlot_ne {off i : Nat} (h : off < 0x40100) : off ≠ A.MNT_SLOT i := by
  unfold A.MNT_SLOT
  omega

theorem fget_mntTake (s : State) (i act dom who : Nat) {f : Fld} (h : f.off < 0x40100) : (s.mntTake i act dom who).fget f = s.fget f := by
  have hne : A.MNT_SLOT i ≠ f.off := (mntSlot_ne h).symm
  unfold State.mntTake
  iterate 5 rw [fget_fset_reg _ _ _ _ hne]

/-- What the end of an activity leaves as it is. -/
theorem mntEnd_frame (s : State) (i status progress : Nat) :
    (s.mntEnd i status progress).boot = s.boot ∧ (s.mntEnd i status progress).nv = s.nv ∧ (s.mntEnd i status progress).mem = s.mem := by
  unfold State.mntEnd
  exact ⟨raise_boot _ _ _, raise_nv _ _ _, raise_mem _ _ _⟩

theorem fget_mntEnd (s : State) (i status progress : Nat) {f : Fld} (h : f.off < 0x40100) : (s.mntEnd i status progress).fget f = s.fget f := by
  have hne : A.MNT_SLOT i ≠ f.off := (mntSlot_ne h).symm
  unfold State.mntEnd
  rw [raise_fget]
  iterate 3 rw [fget_fset_reg _ _ _ _ hne]

end

end Sys2Proof.Machine

/-! Firmware and Togus updates over PLDM (R466, R469, R478). -/
namespace Sys2Proof.Machine

section
variable (s : State)

/-- The state with another boot record. -/
def State.setBoot (b : Boot) : State := { s with boot := b }

@[simp] theorem setBoot_fget (b : Boot) (f : Fld) : (s.setBoot b).fget f = s.fget f := rfl

@[simp] theorem setBoot_boot (b : Boot) : (s.setBoot b).boot = b := rfl

@[simp] theorem setBoot_nv (b : Boot) : (s.setBoot b).nv = s.nv := rfl

@[simp] theorem setBoot_mem (b : Boot) : (s.setBoot b).mem = s.mem := rfl

/-- What the end of staging leaves: no staging, the answer, and the flash as it was. -/
theorem endStaging_frame (ok : Bool) :
    (s.endStaging ok).boot = { s.boot with staging := none } ∧ (s.endStaging ok).nv = s.nv ∧ (s.endStaging ok).mem = s.mem ∧
      (s.endStaging ok).out.head? = some (.mgmtResp 5 (if ok then 0 else 1) []) := by
  unfold State.endStaging
  dsimp only
  split
  · next i _ =>
    obtain ⟨hboot, hnv, hmem⟩ := mntEnd_frame { s with boot := { s.boot with staging := none } } i (if ok then stDone else stInternal)
      (if ok then 100 else { s with boot := { s.boot with staging := none } }.fget (R.MNT_SLOT.progress i))
    exact ⟨hboot, hnv, hmem, rfl⟩
  · exact ⟨rfl, rfl, rfl, rfl⟩

theorem fget_endStaging (ok : Bool) {f : Fld} (h : f.off < 0x40100) : (s.endStaging ok).fget f = s.fget f := by
  unfold State.endStaging
  dsimp only
  split
  · exact fget_mntEnd _ _ _ _ h
  · rfl

theorem putRecord_fget (r : ActRec) (f : Fld) : (s.putRecord r).fget f = s.fget f :=
  putRecord_reads (State.fget · f) (fun _ => rfl) (fun _ => rfl)

theorem putRecord_boot (r : ActRec) : (s.putRecord r).boot = s.boot := putRecord_reads State.boot (fun _ => rfl) (fun _ => rfl)

theorem putRecord_mem (r : ActRec) : (s.putRecord r).mem = s.mem := putRecord_reads State.mem (fun _ => rfl) (fun _ => rfl)

theorem putRecord_fwBytes (r : ActRec) (i : Nat) : (s.putRecord r).fwBytes i = s.fwBytes i :=
  putRecord_reads (State.fwBytes · i) (fun _ => rfl) (fun _ => rfl)

theorem putRecord_togus (r : ActRec) : (s.putRecord r).nv.togusA = s.nv.togusA ∧ (s.putRecord r).nv.togusB = s.nv.togusB :=
  ⟨putRecord_reads (fun t => t.nv.togusA) (fun _ => rfl) (fun _ => rfl), putRecord_reads (fun t => t.nv.togusB) (fun _ => rfl) (fun _ => rfl)⟩

/-- Bytes written over a firmware copy; the other one and the rest of the flash stay. -/
theorem putFw_frame (i : Nat) (b : List Byte) (hi : i < 2) :
    (s.putFw i b).fwBytes i = b ∧ (s.putFw i b).fwBytes (1 - i) = s.fwBytes (1 - i) ∧ (s.putFw i b).nv.rec0 = s.nv.rec0 ∧
      (s.putFw i b).nv.rec1 = s.nv.rec1 ∧ (s.putFw i b).nv.togusA = s.nv.togusA ∧ (s.putFw i b).nv.togusB = s.nv.togusB ∧
      (s.putFw i b).mem = s.mem ∧ (s.putFw i b).boot = s.boot ∧ (∀ f, (s.putFw i b).fget f = s.fget f) ∧
      (s.putFw i b).out = s.out := by
  obtain rfl | rfl : i = 0 ∨ i = 1 := by omega
  · exact ⟨rfl, rfl, rfl, rfl, rfl, rfl, rfl, rfl, fun _ => rfl, rfl⟩
  · exact ⟨rfl, rfl, rfl, rfl, rfl, rfl, rfl, rfl, fun _ => rfl, rfl⟩

theorem fwBytes_congr {s t : State} (h : s.nv = t.nv) (i : Nat) : s.fwBytes i = t.fwBytes i := by
  unfold State.fwBytes
  rw [h]

theorem stageInto_congr {s t : State} (hstage : s.boot.stage = t.boot.stage) (hcopy : s.boot.copy = t.boot.copy) :
    s.stageInto = t.stageInto := by
  unfold State.stageInto
  rw [hstage, hcopy]

theorem stageInto_lt : s.stageInto < 2 := by
  unfold State.stageInto
  split <;> omega

/-! PLDM_FW_UPDATE. -/

/-- An update that finds no endpoint for it, no such component, or a staging under way. -/
theorem pldmFwUpdate_refused (c : Nat)
    (h : 2 ≤ c ∨ s.boot.stage ≠ .running ∧ (s.boot.stage ≠ .recovery ∨ c ≠ 0) ∨ s.boot.staging.isSome = true) :
    exec (.pldmFwUpdate c) s = .next (s.emit (.mgmtResp 5 1 [])) := by
  have hcond : ((s.boot.stage == .running || s.boot.stage == .recovery) && s.boot.staging.isNone && decide (c < 2) &&
      (s.boot.stage == .running || c == 0)) = false := by
    obtain h | ⟨hrun, h | h⟩ | h := h
    · rw [decide_eq_false (by omega)]
      simp
    · simp [hrun, h]
    · simp [hrun, h]
    · have hnone : s.boot.staging.isNone = false := by rw [← Option.not_isSome, h]; rfl
      simp [hnone]
  show execPldmFwUpdate c s = _
  unfold execPldmFwUpdate
  rw [hcond]
  rfl

variable {s}

/-- An update that is taken to the arbiter. -/
theorem exec_pldmFwUpdate {c : Nat} (hc : c < 2) (hstage : s.boot.stage = .running ∨ s.boot.stage = .recovery ∧ c = 0)
    (hnone : s.boot.staging = none) :
    exec (.pldmFwUpdate c) s = .next
      (let g := s.mntGrant 5 0 reqPldm true
       if g.2.1 ≠ stDone then g.1.mgmtRespond 5 g.2.1 []
       else
         let s1 := g.1.setBoot { g.1.boot with staging := some c }
         (if c = 0 then ((s1.putRecord { s1.winRecord.2 with pending := 255, trials := 0 }).putFw s1.stageInto []).fset R.GLB_FW.pending 3
          else s1.putTogus s1.togusInto []).mgmtRespond 5 0 []) := by
  have hcond : ((s.boot.stage == .running || s.boot.stage == .recovery) && s.boot.staging.isNone && decide (c < 2) &&
      (s.boot.stage == .running || c == 0)) = true := by
    obtain hstage | ⟨hstage, rfl⟩ := hstage <;> simp [hstage, hnone, hc]
  show execPldmFwUpdate c s = _
  unfold execPldmFwUpdate
  rw [hcond]
  simp only [Bool.not_true, Bool.false_eq_true, if_false, apply_ite Host.Outcome.next]
  rfl

/-- The arbiter refuses it. -/
theorem pldmFwUpdate_conflict {c : Nat} (hc : c < 2) (hstage : s.boot.stage = .running ∨ s.boot.stage = .recovery ∧ c = 0)
    (hnone : s.boot.staging = none) (hfull : ¬ StagingFree s) (hroom : s.reports.length < 64) :
    ∃ t r, exec (.pldmFwUpdate c) s = .next t ∧ t.out = .mgmtResp 5 0x40 [] :: s.out ∧ t.boot = s.boot ∧ t.nv = s.nv ∧
      t.regs = s.regs ∧ t.reports = s.reports ++ [r] ∧ r.source = 0xB001 ∧ r.cls = 0 := by
  obtain ⟨hstate, hstatus⟩ := mntGrant_staging_refused hfull reqPldm
  obtain ⟨r, hqueued, hsource, hcls, -⟩ := reportOpen_queued s srcArbiter codeMaintRefused 0 (by decide) (by decide) hroom
  have hexec := exec_pldmFwUpdate hc hstage hnone
  dsimp only at hexec
  rw [hstatus, if_pos (by decide), hstate, hqueued] at hexec
  exact ⟨_, r, hexec, rfl, rfl, rfl, rfl, rfl, hsource, hcls⟩

/-- The state once staging has taken its slot. -/
def State.stagingTaken (s : State) (i c : Nat) : State :=
  (s.mntTake i 5 0 reqPldm).setBoot { s.boot with staging := some c }

theorem mntTake_frame (s : State) (i act dom who : Nat) :
    (s.mntTake i act dom who).boot = s.boot ∧ (s.mntTake i act dom who).nv = s.nv ∧ (s.mntTake i act dom who).mem = s.mem := by
  unfold State.mntTake
  simp only [State.fset_boot, State.fset_nv, State.fset_mem, and_self]

/-- What taking the slot leaves of the flash, of memory and of registers below the slots. -/
theorem stagingTaken_frame (s : State) (i c : Nat) :
    (s.stagingTaken i c).nv = s.nv ∧ (s.stagingTaken i c).mem = s.mem ∧ (s.stagingTaken i c).winRecord = s.winRecord ∧
      (s.stagingTaken i c).stageInto = s.stageInto ∧ (s.stagingTaken i c).togusInto = s.togusInto := by
  obtain ⟨-, hnv, hmem⟩ := mntTake_frame s i 5 0 reqPldm
  have hnv' : (s.stagingTaken i c).nv = s.nv := by rw [State.stagingTaken, setBoot_nv, hnv]
  have hmem' : (s.stagingTaken i c).mem = s.mem := by rw [State.stagingTaken, setBoot_mem, hmem]
  have hloaded : (s.stagingTaken i c).fget R.PRT_BOOT.loaded = s.fget R.PRT_BOOT.loaded := by
    rw [State.stagingTaken, setBoot_fget]
    exact fget_mntTake s i 5 0 reqPldm (by decide)
  have hinto : (s.stagingTaken i c).stageInto = s.stageInto := by
    refine stageInto_congr ?_ ?_
    all_goals rw [State.stagingTaken, setBoot_boot]
  have htogus : (s.stagingTaken i c).togusInto = s.togusInto := by
    unfold State.togusInto
    rw [hloaded]
  exact ⟨hnv', hmem', winRecord_congr (by rw [hnv']) (by rw [hnv']), hinto, htogus⟩

/-- The arbiter grants it. -/
theorem pldmFwUpdate_granted {c : Nat} (hc : c < 2) (hstage : s.boot.stage = .running ∨ s.boot.stage = .recovery ∧ c = 0)
    (hnone : s.boot.staging = none) (hfree : StagingFree s) :
    ∃ i, i < 16 ∧ exec (.pldmFwUpdate c) s = .next
      ((if c = 0 then (((s.stagingTaken i c).putRecord { s.winRecord.2 with pending := 255, trials := 0 }).putFw s.stageInto []).fset
          R.GLB_FW.pending 3
        else (s.stagingTaken i c).putTogus s.togusInto []).emit (.mgmtResp 5 0 [])) := by
  obtain ⟨i, hi, hgrant⟩ := mntGrant_staging hfree reqPldm
  have hexec := exec_pldmFwUpdate hc hstage hnone
  dsimp only at hexec
  rw [hgrant, if_neg (fun h => h rfl)] at hexec
  obtain ⟨hboot, -, -⟩ := mntTake_frame s i 5 0 reqPldm
  obtain ⟨-, -, hwin, hinto, htogus⟩ := stagingTaken_frame s i c
  refine ⟨i, hi, hexec.trans ?_⟩
  rw [← htogus, ← hwin, ← hinto, hboot]
  rfl

/-- What the slot of a granted staging shows, once GLB_FW or the flash was written. -/
theorem staging_shown {t : State} {i c : Nat} (hi : i < 16) (hboot : t.boot = (s.stagingTaken i c).boot)
    (hregs : ∀ f : Fld, f.off = A.MNT_SLOT i → t.fget f = (s.stagingTaken i c).fget f) (hout : t.out.head? = some (.mgmtResp 5 0 [])) :
    t.boot.staging = some c ∧ t.out.head? = some (.mgmtResp 5 0 []) ∧
      ∃ i, i < 16 ∧ t.fget (R.MNT_SLOT.busy i) = 1 ∧ t.fget (R.MNT_SLOT.activity i) = 5 ∧ t.fget (R.MNT_SLOT.requester i) = 2 := by
  obtain ⟨hbusy, hact, hwho⟩ := mntTake_shows s i 5 0 reqPldm (by decide) (by decide)
  refine ⟨by rw [hboot]; rfl, hout, i, hi, ?_, ?_, ?_⟩
  · rw [hregs (R.MNT_SLOT.busy i) rfl, State.stagingTaken, setBoot_fget, hbusy]
  · rw [hregs (R.MNT_SLOT.activity i) rfl, State.stagingTaken, setBoot_fget, hact]
  · rw [hregs (R.MNT_SLOT.requester i) rfl, State.stagingTaken, setBoot_fget, hwho]
    rfl

/-- A firmware update that the arbiter grants: pending is cleared in a new record, and the copy it stages into is empty. -/
theorem pldmFwUpdate_firmware (hstage : s.boot.stage = .running ∨ s.boot.stage = .recovery) (hnone : s.boot.staging = none)
    (hfree : StagingFree s) (hseq : s.winRecord.2.seq < 2 ^ 64 - 1) :
    ∃ t, exec (.pldmFwUpdate 0) s = .next t ∧
      (t.boot.staging = some 0 ∧ t.out.head? = some (.mgmtResp 5 0 []) ∧
        ∃ i, i < 16 ∧ t.fget (R.MNT_SLOT.busy i) = 1 ∧ t.fget (R.MNT_SLOT.activity i) = 5 ∧ t.fget (R.MNT_SLOT.requester i) = 2) ∧
      t.winRecord.2.pending = 255 ∧ t.winRecord.2.active = s.winRecord.2.active ∧ t.fget R.GLB_FW.pending = 3 ∧
      t.fwBytes s.stageInto = [] ∧ t.fwBytes (1 - s.stageInto) = s.fwBytes (1 - s.stageInto) ∧ t.nv.togusA = s.nv.togusA ∧
      t.nv.togusB = s.nv.togusB ∧ t.mem = s.mem := by
  obtain ⟨i, hi, hexec⟩ := pldmFwUpdate_granted (c := 0) (by decide) (hstage.imp_right (fun h => ⟨h, rfl⟩)) hnone hfree
  rw [if_pos rfl] at hexec
  obtain ⟨hseq0, hactive, -, -⟩ := winRecord_fits s
  obtain ⟨hnv, hmem, hwin, -, -⟩ := stagingTaken_frame s i 0
  generalize hv : s.stagingTaken i 0 = v at hexec hnv hmem hwin
  have hrec : (v.putRecord { s.winRecord.2 with pending := 255, trials := 0 }).winRecord.2 =
      { s.winRecord.2 with pending := 255, trials := 0, seq := s.winRecord.2.seq + 1 } := by
    have hput := winRecord_putRecord (s := v) (r := { s.winRecord.2 with pending := 255, trials := 0 }) (by rwa [hwin])
      ⟨hseq0, hactive, by show 255 < 256; decide, by show 0 < 256; decide⟩
    rwa [hwin] at hput
  have hbytes (j : Nat) : (v.putRecord { s.winRecord.2 with pending := 255, trials := 0 }).fwBytes j = s.fwBytes j :=
    (putRecord_fwBytes _ _ j).trans (fwBytes_congr hnv j)
  obtain ⟨htogusA', htogusB'⟩ := putRecord_togus v { s.winRecord.2 with pending := 255, trials := 0 }
  have hboot' := putRecord_boot v { s.winRecord.2 with pending := 255, trials := 0 }
  have hmem' := putRecord_mem v { s.winRecord.2 with pending := 255, trials := 0 }
  have hregs' := putRecord_fget v { s.winRecord.2 with pending := 255, trials := 0 }
  generalize v.putRecord { s.winRecord.2 with pending := 255, trials := 0 } = u at hexec hrec hbytes htogusA' htogusB' hboot' hmem' hregs'
  obtain ⟨hcopy, hother, hrec0, hrec1, htogusA, htogusB, hmemu, hboot, hregs, -⟩ := putFw_frame u s.stageInto [] (stageInto_lt s)
  generalize u.putFw s.stageInto [] = w at hexec hcopy hother hrec0 hrec1 htogusA htogusB hmemu hboot hregs
  have hw : ((w.fset R.GLB_FW.pending 3).emit (.mgmtResp 5 0 [])).winRecord = u.winRecord := winRecord_congr hrec0 hrec1
  refine ⟨_, hexec, staging_shown (s := s) hi ?_ (fun f hf => ?_) rfl, ?_, ?_, ?_, hcopy, hother.trans (hbytes _), ?_, ?_, ?_⟩
  · rw [hv]
    exact hboot.trans hboot'
  · have hne : A.GLB_FW ≠ f.off := by rw [hf]; exact mntSlot_ne (by decide)
    rw [State.emit_fget, fget_fset_reg _ R.GLB_FW.pending _ _ hne, hregs, hregs', hv]
  · rw [hw, hrec]
  · rw [hw, hrec]
  · exact fget_fset_self _ R.GLB_FW.pending 3 rfl
  · exact htogusA.trans (htogusA'.trans (by rw [hnv]))
  · exact htogusB.trans (htogusB'.trans (by rw [hnv]))
  · exact hmemu.trans (hmem'.trans hmem)

/-- Bytes written over a Togus copy. -/
theorem putTogus_frame (v : State) (b : List Byte) (k : Nat) :
    (v.putTogus k b).nv = (if k = 0 then { v.nv with togusA := b } else { v.nv with togusB := b }) ∧
      (v.putTogus k b).boot = v.boot ∧ (v.putTogus k b).mem = v.mem ∧ ∀ f, (v.putTogus k b).fget f = v.fget f := by
  unfold State.putTogus
  split
  · exact ⟨rfl, rfl, rfl, fun _ => rfl⟩
  · exact ⟨rfl, rfl, rfl, fun _ => rfl⟩

/-- The copy that an image is written to is the one not loaded. -/
theorem togusInto_nv (n : NonVol) (b : List Byte) :
    (if s.togusInto = 0 then { n with togusA := b } else { n with togusB := b }) =
      if s.fget R.PRT_BOOT.loaded = 0 then { n with togusB := b } else { n with togusA := b } := by
  unfold State.togusInto
  split <;> rfl

/-- A Togus update that the arbiter grants empties the copy not loaded. -/
theorem pldmFwUpdate_image (hstage : s.boot.stage = .running) (hnone : s.boot.staging = none) (hfree : StagingFree s) :
    ∃ t, exec (.pldmFwUpdate 1) s = .next t ∧
      (t.boot.staging = some 1 ∧ t.out.head? = some (.mgmtResp 5 0 []) ∧
        ∃ i, i < 16 ∧ t.fget (R.MNT_SLOT.busy i) = 1 ∧ t.fget (R.MNT_SLOT.activity i) = 5 ∧ t.fget (R.MNT_SLOT.requester i) = 2) ∧
      t.nv = (if s.fget R.PRT_BOOT.loaded = 0 then { s.nv with togusB := [] } else { s.nv with togusA := [] }) ∧ t.mem = s.mem := by
  obtain ⟨i, hi, hexec⟩ := pldmFwUpdate_granted (c := 1) (by decide) (.inl hstage) hnone hfree
  rw [if_neg (by decide)] at hexec
  obtain ⟨hnv, hmem, -, -, -⟩ := stagingTaken_frame s i 1
  obtain ⟨hnv', hboot', hmem', hregs'⟩ := putTogus_frame (s.stagingTaken i 1) [] s.togusInto
  refine ⟨_, hexec, staging_shown (s := s) hi hboot' (fun f _ => hregs' f) rfl, ?_, ?_⟩
  · rw [State.emit_nv, hnv', hnv, togusInto_nv]
  · rw [State.emit_mem, hmem', hmem]

end

end Sys2Proof.Machine

/-! FW_STAGING_DONE: the checks of a staged image, and where it goes (R466, R469, R478). -/
namespace Sys2Proof.Machine

section
variable (s : State)

/-- The bytes are of an image that R466 lets the package run. -/
def FwImagePasses (b : List Byte) : Prop :=
  let len1 := leAt b 0x14 4
  let total := leAt b 0x18 4
  let k := leAt b 0x1C 1
  let key := s.nv.vendorKeys.getD k []
  leAt b 0 4 = 0x4E524946 ∧ leAt b 4 4 = 0xF40 ∧ len1 ≤ 0x800000 ∧ total ≤ 0x1800000 ∧ 256 + len1 ≤ total ∧ total ≤ b.length ∧
    k < 2 ∧ s.nv.vendorSlots / 4 ^ k % 4 = 1 ∧ sha384 key = s.nv.vendorDigests.getD k [] ∧
    ecdsaOk key (sha384 (b.take 0xA0)) ((b.drop 0xA0).take 96) = true ∧ s.nv.fwMin ≤ leAt b 0x0C 4 ∧
    sha384 ((b.drop 256).take len1) = (b.drop 0x40).take 48

theorem vendorSlot_eq (k : Nat) : s.vendorSlot k = s.nv.vendorSlots / 4 ^ k % 4 := by
  unfold State.vendorSlot fld
  exact congrArg (s.nv.vendorSlots / · % 4) (Nat.pow_mul 2 2 k)

theorem fwPasses_iff (b : List Byte) : s.fwPasses (parseFw b) = true ↔ FwImagePasses s b := by
  simp only [State.fwPasses, State.fwSigned, keyUsable, FwCopy.stage1Ok, vendorSlot_eq, Bool.and_eq_true, decide_eq_true_eq, beq_iff_eq]
  simp only [parseFw, FwImagePasses, Bool.and_eq_true, decide_eq_true_eq, beq_iff_eq, and_assoc]

/-- What else the running firmware and the loaded image ask of a new firmware (R478). -/
def FwImageFits (b : List Byte) : Prop :=
  leAt b 0x11 1 ≤ leAt (s.fwBytes s.boot.copy) 0x10 1 ∧ (s.fget R.PRT_BOOT.loaded = 3 ∨ leAt b 0x12 2 ≤ 2)

theorem fwAccepted_running (b : List Byte) (h : s.boot.stage = .running) :
    s.fwAccepted (parseFw b) = true ↔ FwImagePasses s b ∧ FwImageFits s b := by
  have hnot : (BootStage.running == BootStage.recovery) = false := rfl
  rw [State.fwAccepted, Bool.and_eq_true, fwPasses_iff, h, hnot, Bool.false_or]
  simp only [Bool.and_eq_true, Bool.or_eq_true, decide_eq_true_eq, beq_iff_eq]
  rfl

theorem fwAccepted_recovery (b : List Byte) (h : s.boot.stage = .recovery) :
    s.fwAccepted (parseFw b) = true ↔ FwImagePasses s b := by
  have hsame : (BootStage.recovery == BootStage.recovery) = true := rfl
  rw [State.fwAccepted, Bool.and_eq_true, fwPasses_iff, h, hsame, Bool.true_or, and_iff_left rfl]

variable {s} {image : List Byte}

/-- FW_STAGING_DONE of a firmware image. -/
theorem exec_fwStagingDone_firmware (hstaging : s.boot.staging = some 0) :
    exec (.fwStagingDone image) s = .next
      (if ¬ s.fwAccepted (parseFw image) = true then (s.putFw s.stageInto image).endStaging false
       else if (s.putFw s.stageInto image).boot.stage = .recovery then
         (((s.putFw s.stageInto image).putRecord { ActRec.blank with active := 0 }).endStaging true).warmReset 3
       else (((s.putFw s.stageInto image).putRecord
           { (s.putFw s.stageInto image).winRecord.2 with pending := s.stageInto, trials := 0 }).fset R.GLB_FW.pending s.stageInto).endStaging true) := by
  show execFwStagingDone image s = _
  unfold execFwStagingDone
  rw [hstaging]
  simp only [Bool.not_eq_true', Bool.not_eq_true, apply_ite Host.Outcome.next]

/-- The record of a state whose flash records are another's. -/
theorem putFw_winRecord (i : Nat) (b : List Byte) (hi : i < 2) : (s.putFw i b).winRecord = s.winRecord := by
  obtain ⟨-, -, h0, h1, -⟩ := putFw_frame s i b hi
  exact winRecord_congr h0 h1

/-- The end of staging leaves the boot record but for the staging it names. -/
theorem endStaging_boot (t : State) (ok : Bool) (h : t.boot = s.boot) : (t.endStaging ok).boot = { s.boot with staging := none } := by
  rw [(endStaging_frame t ok).1, h]

/-- In running firmware a staged image that does not pass stays without a record. -/
theorem fwStagingDone_refused (hstaging : s.boot.staging = some 0) (hbad : ¬ s.fwAccepted (parseFw image) = true) :
    ∃ t, exec (.fwStagingDone image) s = .next t ∧ t.boot = { s.boot with staging := none } ∧ t.nv = (s.putFw s.stageInto image).nv ∧
      t.out.head? = some (.mgmtResp 5 1 []) ∧ t.mem = s.mem := by
  obtain ⟨-, -, -, -, -, -, hmem, hboot, -, -⟩ := putFw_frame s s.stageInto image (stageInto_lt s)
  obtain ⟨-, hnv', hmem', hout⟩ := endStaging_frame (s.putFw s.stageInto image) false
  refine ⟨_, (exec_fwStagingDone_firmware hstaging).trans (by rw [if_pos hbad]), endStaging_boot _ false hboot, hnv', hout, hmem'.trans hmem⟩

/-- In running firmware a staged image that passes becomes pending in a new record. -/
theorem fwStagingDone_pending (hstaging : s.boot.staging = some 0) (hrun : s.boot.stage = .running)
    (hgood : s.fwAccepted (parseFw image) = true) (hseq : s.winRecord.2.seq < 2 ^ 64 - 1) :
    ∃ t, exec (.fwStagingDone image) s = .next t ∧ t.boot = { s.boot with staging := none } ∧
      (∀ i, t.fwBytes i = (s.putFw s.stageInto image).fwBytes i) ∧ t.winRecord.2.pending = s.stageInto ∧ t.winRecord.2.trials = 0 ∧
      t.winRecord.2.active = s.winRecord.2.active ∧ t.fget R.GLB_FW.pending = s.stageInto ∧ t.out.head? = some (.mgmtResp 5 0 []) ∧
      t.mem = s.mem := by
  have hexec := exec_fwStagingDone_firmware (image := image) hstaging
  have hinto := stageInto_lt s
  obtain ⟨-, -, -, -, -, -, hmem, hboot, -, -⟩ := putFw_frame s s.stageInto image hinto
  rw [if_neg (not_not_intro hgood), if_neg (by rw [hboot, hrun]; decide), putFw_winRecord _ _ hinto] at hexec
  have hwin := putFw_winRecord (s := s) s.stageInto image hinto
  obtain ⟨hseq0, hactive, -, -⟩ := winRecord_fits s
  generalize s.putFw s.stageInto image = v at hexec hmem hboot hwin ⊢
  generalize s.stageInto = k at hexec hinto ⊢
  have hrec := winRecord_putRecord (s := v) (r := { s.winRecord.2 with pending := k, trials := 0 }) (by rwa [hwin])
    ⟨hseq0, hactive, by show k < 256; omega, by show 0 < 256; decide⟩
  have hbytes := putRecord_fwBytes v { s.winRecord.2 with pending := k, trials := 0 }
  have hmem' := putRecord_mem v { s.winRecord.2 with pending := k, trials := 0 }
  have hboot' := putRecord_boot v { s.winRecord.2 with pending := k, trials := 0 }
  generalize v.putRecord { s.winRecord.2 with pending := k, trials := 0 } = u at hexec hrec hbytes hmem' hboot'
  obtain ⟨-, hnv, hmemt, hout⟩ := endStaging_frame (u.fset R.GLB_FW.pending k) true
  have hshown : ((u.fset R.GLB_FW.pending k).endStaging true).fget R.GLB_FW.pending = k :=
    calc _ = (u.fset R.GLB_FW.pending k).fget R.GLB_FW.pending := fget_endStaging _ true (by decide)
      _ = k % 2 ^ R.GLB_FW.pending.width := fget_fset_self _ _ _ rfl
      _ = k := Nat.mod_eq_of_lt (hinto.trans (by decide))
  have ht : ((u.fset R.GLB_FW.pending k).endStaging true).boot = { s.boot with staging := none } :=
    endStaging_boot _ true (hboot'.trans hboot)
  generalize (u.fset R.GLB_FW.pending k).endStaging true = t at hexec hnv hmemt hout hshown ht
  have hnvu : t.nv = u.nv := hnv
  have hwint : t.winRecord = u.winRecord := winRecord_congr (by rw [hnvu]) (by rw [hnvu])
  refine ⟨t, hexec, ht, fun i => (fwBytes_congr hnvu i).trans (hbytes i), ?_, ?_, ?_, hshown, hout, hmemt.trans (hmem'.trans hmem)⟩
  all_goals rw [hwint, hrec]

/-- In recovery a staged image that passes becomes the active copy A, and the package resets. -/
theorem fwStagingDone_recovers (hstaging : s.boot.staging = some 0) (hrec : s.boot.stage = .recovery)
    (hgood : FwImagePasses s image) (hseq : s.winRecord.2.seq < 2 ^ 64 - 1) :
    ∃ t, exec (.fwStagingDone image) s = .next t ∧ t.nv.fwA = image ∧ t.winRecord.2.active = 0 ∧ t.winRecord.2.pending = 255 ∧
      t.boot.stage = .inReset ∧ t.fget R.GLB_BOOT.reset_cause = 3 ∧ t.nv.fwB = s.nv.fwB := by
  have hexec := exec_fwStagingDone_firmware (image := image) hstaging
  have hinto : s.stageInto = 0 := if_pos hrec
  obtain ⟨-, -, -, -, -, -, -, hboot, -⟩ := putFw_frame s 0 image (by decide)
  rw [hinto, if_neg (not_not_intro ((fwAccepted_recovery s image hrec).2 hgood)), if_pos (by rw [hboot, hrec])] at hexec
  have hA (u : State) : u.nv.fwA = u.fwBytes 0 := rfl
  have hB (u : State) : u.nv.fwB = u.fwBytes 1 := rfl
  obtain ⟨hcopy, hother, -⟩ := putFw_frame s 0 image (by decide)
  have hwin := putFw_winRecord (s := s) 0 image (by decide)
  generalize s.putFw 0 image = v at hexec hcopy hother hwin
  have hput := winRecord_putRecord (s := v) (r := { ActRec.blank with active := 0 }) (by rwa [hwin])
    ⟨by decide, by decide, by decide, by decide⟩
  have hbytes := putRecord_fwBytes v { ActRec.blank with active := 0 }
  generalize v.putRecord { ActRec.blank with active := 0 } = u at hexec hput hbytes
  obtain ⟨-, hnv, -, -⟩ := endStaging_frame u true
  obtain ⟨hstage, -, hreset⟩ := warmReset_frame (u.endStaging true) 3
  have hcause := warmReset_cause (u.endStaging true) 3
  generalize (u.endStaging true).warmReset 3 = t at hexec hstage hreset hcause
  have hnvt : t.nv = u.nv := hreset.trans hnv
  have hwint : t.winRecord = u.winRecord := winRecord_congr (by rw [hnvt]) (by rw [hnvt])
  refine ⟨t, hexec, ?_, ?_, ?_, hstage, hcause, ?_⟩
  · rw [hA, fwBytes_congr hnvt, hbytes, hcopy]
  · rw [hwint, hput]
  · rw [hwint, hput]
    rfl
  · rw [hB, fwBytes_congr hnvt, hbytes, hother]
    rfl

/-- FW_STAGING_DONE of a firmware image, while firmware runs. -/
theorem fwStagingDone_running (hstaging : s.boot.staging = some 0) (hseq : s.winRecord.2.seq < 2 ^ 64 - 1)
    (hrun : s.boot.stage = .running) (hcopy : s.boot.copy < 2) :
    ∃ t, exec (.fwStagingDone image) s = .next t ∧ t.boot = { s.boot with staging := none } ∧
      t.fwBytes s.boot.copy = s.fwBytes s.boot.copy ∧ t.fwBytes (1 - s.boot.copy) = image ∧
      (FwImagePasses s image ∧ FwImageFits s image → t.winRecord.2.pending = 1 - s.boot.copy ∧ t.winRecord.2.trials = 0 ∧
        t.winRecord.2.active = s.winRecord.2.active ∧ t.fget R.GLB_FW.pending = 1 - s.boot.copy ∧ t.out.head? = some (.mgmtResp 5 0 [])) ∧
      (¬ (FwImagePasses s image ∧ FwImageFits s image) → t.nv.rec0 = s.nv.rec0 ∧ t.nv.rec1 = s.nv.rec1 ∧ t.out.head? = some (.mgmtResp 5 1 [])) ∧
      t.mem = s.mem := by
  have hinto : s.stageInto = 1 - s.boot.copy := by
    unfold State.stageInto
    rw [if_neg (by rw [hrun]; decide), Nat.mod_eq_of_lt hcopy]
  have hback : 1 - (1 - s.boot.copy) = s.boot.copy := by omega
  obtain ⟨hnew, hold, hrec0, hrec1, -⟩ := putFw_frame s (1 - s.boot.copy) image (by omega)
  rw [hback] at hold
  rw [← fwAccepted_running s image hrun]
  by_cases hgood : s.fwAccepted (parseFw image) = true
  · obtain ⟨t, hexec, hboot, hbytes, hpending, htrials, hactive, hshown, hout, hmem⟩ := fwStagingDone_pending hstaging hrun hgood hseq
    rw [hinto] at hbytes hpending hshown
    exact ⟨t, hexec, hboot, (hbytes _).trans hold, (hbytes _).trans hnew, fun _ => ⟨hpending, htrials, hactive, hshown, hout⟩,
      fun hbad => absurd hgood hbad, hmem⟩
  · obtain ⟨t, hexec, hboot, hnv, hout, hmem⟩ := fwStagingDone_refused hstaging hgood
    rw [hinto] at hnv
    exact ⟨t, hexec, hboot, (fwBytes_congr hnv _).trans hold, (fwBytes_congr hnv _).trans hnew, fun hok => absurd hok hgood,
      fun _ => ⟨by rw [hnv, hrec0], by rw [hnv, hrec1], hout⟩, hmem⟩

/-- FW_STAGING_DONE of a firmware image, in recovery. -/
theorem fwStagingDone_recovery (hstaging : s.boot.staging = some 0) (hseq : s.winRecord.2.seq < 2 ^ 64 - 1) (hrec : s.boot.stage = .recovery) :
    (FwImagePasses s image → ∃ t, exec (.fwStagingDone image) s = .next t ∧ t.nv.fwA = image ∧ t.winRecord.2.active = 0 ∧
      t.winRecord.2.pending = 255 ∧ t.boot.stage = .inReset ∧ t.fget R.GLB_BOOT.reset_cause = 3 ∧ t.nv.fwB = s.nv.fwB) ∧
    (¬ FwImagePasses s image → ∃ t, exec (.fwStagingDone image) s = .next t ∧ t.nv = { s.nv with fwA := image } ∧
      t.boot = { s.boot with staging := none } ∧ t.out.head? = some (.mgmtResp 5 1 [])) := by
  refine ⟨fun hgood => fwStagingDone_recovers hstaging hrec hgood hseq, fun hbad => ?_⟩
  obtain ⟨t, hexec, hboot, hnv, hout, -⟩ :=
    fwStagingDone_refused hstaging (fun h => hbad ((fwAccepted_recovery s image hrec).1 h))
  have hinto : s.stageInto = 0 := if_pos hrec
  rw [hinto] at hnv
  exact ⟨t, hexec, hnv, hboot, hout⟩

/-- FW_STAGING_DONE of a Togus image. -/
theorem exec_fwStagingDone_image (hstaging : s.boot.staging = some 1) :
    exec (.fwStagingDone image) s =
      if 262144 < image.length then .next (s.endStaging false) else .next ((s.putTogus s.togusInto image).endStaging true) := by
  show execFwStagingDone image s = _
  unfold execFwStagingDone
  rw [hstaging]
  rfl

/-- FW_STAGING_DONE of a Togus image of either length, and with nothing staged. -/
theorem fwStagingDone_image :
    (s.boot.staging = some 1 → image.length ≤ 256 * 1024 →
      ∃ t, exec (.fwStagingDone image) s = .next t ∧ t.boot = { s.boot with staging := none } ∧ t.out.head? = some (.mgmtResp 5 0 []) ∧
        t.nv = (if s.fget R.PRT_BOOT.loaded = 0 then { s.nv with togusB := image } else { s.nv with togusA := image })) ∧
    (s.boot.staging = some 1 → 256 * 1024 < image.length →
      ∃ t, exec (.fwStagingDone image) s = .next t ∧ t.boot = { s.boot with staging := none } ∧ t.nv = s.nv ∧
        t.out.head? = some (.mgmtResp 5 1 [])) ∧
    (s.boot.staging = none → exec (.fwStagingDone image) s = .next s) := by
  refine ⟨fun hone hfits => ?_, fun hone hlong => ?_, fun hnone => ?_⟩
  · obtain ⟨hnv, hboot, -, -⟩ := putTogus_frame s image s.togusInto
    obtain ⟨-, hnv', -, hout⟩ := endStaging_frame (s.putTogus s.togusInto image) true
    refine ⟨_, (exec_fwStagingDone_image hone).trans (if_neg (by omega)), endStaging_boot _ true hboot, hout, ?_⟩
    rw [hnv', hnv, togusInto_nv]
  · obtain ⟨hboot, hnv, -, hout⟩ := endStaging_frame s false
    exact ⟨_, (exec_fwStagingDone_image hone).trans (if_pos (by omega)), hboot, hnv, hout⟩
  · show execFwStagingDone image s = _
    unfold execFwStagingDone
    rw [hnone]

end

/-- Settles O58: each command of the management path has its outcomes as lemmas of its own, over the arbiter's grant of
staging and the checks of a staged image. -/
theorem management : Obligations.Management := by
  unfold Obligations.Management
  dsimp only
  refine ⟨fun cmd signed s hcmd hbad => burolmuri_refused s cmd signed hcmd hbad,
    fun i key signed i3c complete s hslots hkeys hdigests => ?_,
    fun i s hup howner hlen hi hset => revokeSlot_outcomes hup howner hlen hi hset, fun v s hup howner => ?_,
    fun s hup howner => ⟨packageReset_resets hup howner, twilightEnter_arms hup howner⟩, fun c s => ?_,
    fun image s hstaging hseq => ⟨fun hrun hcopy => fwStagingDone_running hstaging hseq hrun hcopy,
      fun hrec => fwStagingDone_recovery hstaging hseq hrec⟩,
    fun image s => fwStagingDone_image, fun n s hup => ?_, fun c n s hdown => mgmt_silent s c n hdown⟩
  · exact ⟨fun hnot => programSlot_refused hslots hnot, fun htakes hall => hall ▸ programSlot_complete hslots htakes,
      fun htakes hcut hroom => hcut ▸ programSlot_spoiled hslots htakes hroom⟩
  · obtain ⟨hrise, hlow⟩ := raiseFwMin_outcomes v hup howner
    obtain ⟨hrise', hlow'⟩ := raiseImageMin_outcomes v hup howner
    exact ⟨hrise, hlow, hrise', hlow'⟩
  · refine ⟨pldmFwUpdate_refused s c, pldmFwUpdate_conflict, ?_, ?_⟩
    · rintro rfl hstage hnone hfree hseq
      exact pldmFwUpdate_firmware hstage hnone hfree hseq
    · rintro rfl hstage hnone hfree
      exact pldmFwUpdate_image hstage hnone hfree
  · obtain ⟨hset, hrange, hget, htypes, hother⟩ := mctpControl_outcomes hup n
    refine ⟨hset, hrange, hget, htypes, hother, exec_spdmRequest hup 0xE0, fun c => spdmRequest_known hup, fun c => spdmRequest_unknown hup, ?_⟩
    have hsensor := exec_pldmGetSensor hup n
    exact ⟨fun hhalted => hsensor.trans (if_pos hhalted), fun hnot hn => hsensor.trans ((if_neg hnot).trans (if_pos hn)),
      fun hnot hn => hsensor.trans ((if_neg hnot).trans (if_neg (by omega)))⟩

end Sys2Proof.Machine

/-! Registers that no reset of a core or of a partition reaches: what a list of registers reads as, once the entries that
hold a reset value are left out of it. -/
namespace Sys2Proof.Machine

section
variable {α : Type} (d : Nat → α)

theorem assocGet_cons_same (k : Nat) (v : α) (m : Assoc α) : assocGet d ((k, v) :: m) k = v := if_pos rfl

theorem assocGet_cons_other {k j : Nat} (v : α) (m : Assoc α) (h : k ≠ j) : assocGet d ((k, v) :: m) j = assocGet d m j := if_neg h

end

/-- The entries of a register list that do not hold what an unlisted register reads. -/
def listedRegs (m : Assoc Word) : Assoc Word := m.filter (fun e => decide (e.2 ≠ resetReg e.1))

theorem listedRegs_cons (k : Nat) (v : Word) (m : Assoc Word) :
    listedRegs ((k, v) :: m) = if v = resetReg k then listedRegs m else (k, v) :: listedRegs m := by
  unfold listedRegs
  rw [List.filter_cons]
  by_cases h : v = resetReg k <;> simp [h]

/-- Leaving out the entries that hold a reset value changes no reading of the list. -/
def CleanRegs (m : Assoc Word) : Prop := ∀ off, assocGet resetReg (listedRegs m) off = assocGet resetReg m off

/-- A list that names no register twice reads so. -/
theorem cleanRegs_of_nodup {m : Assoc Word} (h : (m.map Prod.fst).Nodup) : CleanRegs m := by
  intro off
  induction m with
  | nil => rfl
  | cons e rest ih =>
    obtain ⟨k, v⟩ := e
    obtain ⟨hnot, hrest⟩ := List.nodup_cons.1 h
    rw [listedRegs_cons]
    split
    · next hreset =>
      by_cases hk : k = off
      · subst hk
        have hunlisted : assocGet resetReg rest k = resetReg k :=
          assocGet_unlisted resetReg rest k (fun e he hek => hnot (List.mem_map.2 ⟨e, he, hek⟩))
        rw [ih hrest, assocGet_cons_same, hunlisted, hreset]
      · rw [ih hrest, assocGet_cons_other _ _ _ hk]
    · by_cases hk : k = off
      · subst hk
        rw [assocGet_cons_same, assocGet_cons_same]
      · rw [assocGet_cons_other _ _ _ hk, assocGet_cons_other _ _ _ hk, ih hrest]

/-- The value inserted is read, and no other register changes, in what is listed. -/
theorem assocGet_listedRegs_insert (m : Assoc Word) {k : Nat} {v : Word} (hv : v ≠ resetReg k) (off : Nat) :
    assocGet resetReg (listedRegs (assocInsert m k v)) off = if k = off then v else assocGet resetReg (listedRegs m) off := by
  have hfront (rest : Assoc Word) :
      assocGet resetReg (listedRegs ((k, v) :: rest)) off = if k = off then v else assocGet resetReg (listedRegs rest) off := by
    rw [listedRegs_cons, if_neg hv]
    rfl
  induction m with
  | nil => exact hfront []
  | cons e rest ih =>
    obtain ⟨k', v'⟩ := e
    unfold assocInsert
    split
    · exact hfront _
    · split
      · next heq =>
        subst heq
        rw [hfront, listedRegs_cons]
        split
        · rfl
        · split
          · rfl
          · rw [assocGet_cons_other _ _ _ (by assumption)]
      · next hne =>
        rw [listedRegs_cons, listedRegs_cons]
        split
        · exact ih
        · by_cases hk : k' = off
          · subst hk
            rw [assocGet_cons_same, assocGet_cons_same, if_neg hne]
          · rw [assocGet_cons_other _ _ _ hk, assocGet_cons_other _ _ _ hk, ih]

theorem cleanRegs_set {m : Assoc Word} (h : CleanRegs m) (k : Nat) (v : Word) : CleanRegs (assocSet resetReg m k v) := by
  intro off
  unfold assocSet
  split
  · have hcomm : listedRegs (assocErase m k) = assocErase (listedRegs m) k := List.filter_comm _ _ _
    by_cases hk : k = off
    · subst hk
      rw [hcomm, assocGet_erase_same, assocGet_erase_same]
    · rw [hcomm, assocGet_erase_other _ _ _ _ hk, assocGet_erase_other _ _ _ _ hk, h off]
  · next hv =>
    rw [assocGet_listedRegs_insert m hv]
    split
    · next hk => rw [← hk, assocGet_insert_same]
    · next hk => rw [h off, assocGet_insert_other _ _ _ _ _ hk]

theorem assocGet_ite_cons {k off : Nat} {c : Prop} [Decidable c] (v : Word) (m : Assoc Word) (hk : k ≠ off) :
    assocGet resetReg (if c then m else (k, v) :: m) off = assocGet resetReg m off := by
  split
  · rfl
  · exact assocGet_cons_other _ _ _ hk

/-- What a reset of registers leaves holds no reset value. -/
theorem cleanRegs_resetRegs (f : Nat → Word → Word) (m : Assoc Word) : CleanRegs (resetRegs f m) := by
  intro off
  unfold listedRegs resetRegs
  rw [List.filter_filter]
  simp only [Bool.and_self]

/-- A register that the reset leaves reads as before. -/
theorem assocGet_resetRegs {f : Nat → Word → Word} {m : Assoc Word} (h : CleanRegs m) {off : Nat} (hf : ∀ w, f off w = w) :
    assocGet resetReg (resetRegs f m) off = assocGet resetReg m off := by
  rw [← h off]
  clear h
  change assocGet resetReg (listedRegs (m.map (fun e => (e.1, f e.1 e.2)))) off = _
  induction m with
  | nil => rfl
  | cons e rest ih =>
    obtain ⟨k, v⟩ := e
    rw [List.map_cons, listedRegs_cons, listedRegs_cons]
    by_cases hk : k = off
    · subst hk
      dsimp only
      rw [hf v]
      split
      · exact ih
      · rw [assocGet_cons_same, assocGet_cons_same]
    · dsimp only
      rw [assocGet_ite_cons _ _ hk, assocGet_ite_cons _ _ hk, ih]

end Sys2Proof.Machine

/-! What an operation on the state leaves alone: the parts that an eraser keeps, and the registers outside those it writes. -/
namespace Sys2Proof.Machine

/-- The state without registers, records of what happened, lock words and their scan. -/
def sansBooks (s : State) : State :=
  { s with free := 0, out := [], regs := [], beacons := [], waiters := [], epochs := [], scan := none, scanAgain := false, msix := [],
           reports := [], fatals := [] }

/-- And without what units hold: memory, cores, engines, lines, posts and messages. -/
def sansUnits (s : State) : State :=
  { sansBooks s with mem := [], poison := [], weak := [], poisonRec := [], tcores := [], pcores := [], dir := [], wcb := [], posts := [],
                     slots := [], rx := [], parked := [], outbox := [] }

/-- `t` is `s` but for what `erase` leaves out and for registers that `W` names. -/
structure Touches (erase : State → State) (W : Nat → Prop) (s t : State) : Prop where
  rest : erase t = erase s
  clean : CleanRegs s.regs → CleanRegs t.regs
  reg : CleanRegs s.regs → ∀ off, ¬ W off → t.reg off = s.reg off

namespace Touches

variable {erase erase' : State → State} {W W' : Nat → Prop} {s t u : State}

theorem refl : Touches erase W s s := ⟨rfl, id, fun _ _ _ => rfl⟩

theorem trans (h : Touches erase W s t) (h' : Touches erase W t u) : Touches erase W s u :=
  ⟨h'.rest.trans h.rest, fun hc => h'.clean (h.clean hc), fun hc off hoff => (h'.reg (h.clean hc) off hoff).trans (h.reg hc off hoff)⟩

theorem mono (h : Touches erase W s t) (hW : ∀ off, W off → W' off) : Touches erase W' s t :=
  ⟨h.rest, h.clean, fun hc off hoff => h.reg hc off (fun hw => hoff (hW off hw))⟩

/-- An eraser that leaves out more sees less. -/
theorem weaken (h : Touches erase W s t) (he : ∀ v, erase' (erase v) = erase' v) : Touches erase' W s t :=
  ⟨by rw [← he t, h.rest, he s], h.clean, h.reg⟩

/-- No register is touched. -/
theorem of_regs (h : erase t = erase s) (hregs : t.regs = s.regs) : Touches erase W s t :=
  ⟨h, fun hc => hregs ▸ hc, fun _ off _ => by unfold State.reg; rw [hregs]⟩

theorem setReg (h : Touches sansBooks W s t) {off : Nat} {v : Word} (hoff : W off) : Touches sansBooks W s (t.setReg off v) :=
  h.trans ⟨rfl, fun hc => cleanRegs_set hc off v, fun _ j hj => reg_setReg_other t off j v (fun heq => hj (heq ▸ hoff))⟩

theorem fset (h : Touches sansBooks W s t) {f : Fld} {v : Nat} (hoff : W f.off) : Touches sansBooks W s (t.fset f v) := h.setReg hoff

theorem foldl {α : Type} {f : State → α → State} {l : List α} (h : ∀ t, ∀ a ∈ l, Touches erase W t (f t a)) (s : State) :
    Touches erase W s (l.foldl f s) := by
  induction l generalizing s with
  | nil => exact refl
  | cons a rest ih =>
    rw [List.foldl_cons]
    exact (h s a List.mem_cons_self).trans (ih (fun t b hb => h t b (List.mem_cons_of_mem a hb)) (f s a))

/-- A step that is taken on a condition. -/
theorem then_if {c : Prop} [Decidable c] (h : Touches erase W s t) (h' : Touches erase W t u) : Touches erase W s (if c then u else t) := by
  split
  · exact h.trans h'
  · exact h

theorem fget (h : Touches erase W s t) (hc : CleanRegs s.regs) {f : Fld} (hf : ¬ W f.off) : t.fget f = s.fget f := by
  unfold State.fget
  rw [h.reg hc f.off hf]

end Touches

/-- Registers of T-cores, P cores and solver engines. -/
def OnUnits (off : Nat) : Prop := 0x400000 ≤ off

/-- Counts and maps of the package's units, and the structure hash. -/
def OnPackage (off : Nat) : Prop := 0x38 ≤ off ∧ off < 0xD0

/-- Counts of the reports that were lost. -/
def OnLost (off : Nat) : Prop := 0x30018 ≤ off ∧ off < 0x30028

/-- All counts: of the package, of partitions, and of reports lost. -/
def OnCounts (off : Nat) : Prop := OnPackage off ∨ 0x21000 ≤ off ∧ off < 0x22000 ∨ OnLost off

/-- What the retirement of a unit writes. -/
def OnRetire (off : Nat) : Prop := OnUnits off ∨ OnCounts off

/-- And what an image fixes: windows, ports, regions, channels and slices. -/
def OnForm (off : Nat) : Prop :=
  OnRetire off ∨ 0x10040 ≤ off ∧ off < 0x10300 ∨ 0x100000 ≤ off

section
variable {W : Nat → Prop} {s : State}

theorem touches_raise (fn : Fn) (v : Nat) : Touches sansBooks W s (s.raise fn v) :=
  .of_regs (raise_reads s sansBooks (fun _ _ => rfl) (fun _ => rfl) fn v) (raise_regs s fn v)

theorem touches_emit (o : Out) : Touches sansBooks W s (s.emit o) := .of_regs rfl rfl

/-- A report counts those it drops, and nothing else in a register. -/
theorem touches_report (source code cls detail : Nat) : Touches sansBooks OnLost s (s.report source code cls detail) := by
  obtain h | ⟨r, h⟩ | ⟨r, h⟩ | h := report_cases s source code cls detail <;> rw [h]
  · exact .refl
  · exact .of_regs rfl rfl
  · exact .of_regs rfl rfl
  · have hlost : OnLost (lostFld cls).off := by
      unfold lostFld
      split <;> exact ⟨by decide, by decide⟩
    exact (Touches.refl.fset hlost).trans (touches_raise _ _)

theorem touches_reportOpen (source code cls : Nat) : Touches sansBooks OnLost s (s.reportOpen source code cls) := by
  unfold State.reportOpen
  exact .trans (t := { s with free := s.free + 1 }) (.of_regs rfl rfl) (touches_report source code cls _)

theorem markOrphans_reads {β : Type} (g : State → β) (hg : ∀ t k v, g (State.setBeacon t k v) = g t) (f : Word → Bool) :
    g (s.markOrphans f) = g s := by
  unfold State.markOrphans
  exact foldl_reads (fun t e _ => hg t e.1 _) s

theorem touches_advanceEpoch (w : Who) : Touches sansBooks W s (s.advanceEpoch w) := by
  unfold State.advanceEpoch
  split
  · exact .refl
  · dsimp only
    split
    · exact .of_regs rfl rfl
    · exact .of_regs (markOrphans_reads sansBooks (fun _ _ _ => rfl) _) (markOrphans_reads State.regs (fun _ _ _ => rfl) _)

theorem touches_advanceEpochs (ws : List Who) : Touches sansBooks W s (s.advanceEpochs ws) := by
  have hfold : Touches sansBooks W s (ws.foldl State.advanceEpoch s) := .foldl (fun _ _ _ => touches_advanceEpoch _) s
  unfold State.advanceEpochs State.scanAfter
  split
  · exact hfold
  · refine hfold.trans ?_
    unfold State.startScan
    split <;> exact .of_regs rfl rfl

theorem onRetire_of_onLost {off : Nat} (h : OnLost off) : OnRetire off := .inr (.inr (.inr h))

theorem onForm_of_onLost {off : Nat} (h : OnLost off) : OnForm off := .inl (onRetire_of_onLost h)

/-! Counts, maps and widths. -/

theorem findPart_lt {f : Nat → Bool} {p : Nat} (h : s.findPart f = some p) : p < 16 := List.mem_range.1 (List.mem_of_find?_eq_some h)

theorem touches_recountPackage : Touches sansBooks OnPackage s s.recountPackage := by
  have hpackage {off : Nat} (hlow : 0x38 ≤ off) (hhigh : off < 0xD0) : OnPackage off := ⟨hlow, hhigh⟩
  unfold State.recountPackage
  refine .trans (.trans ?_ (.foldl (fun t k hk => .setReg .refl ?_) _)) (.foldl (fun t k hk => .setReg .refl ?_) _)
  · repeat' apply Touches.setReg
    · exact .refl
    all_goals exact hpackage (by decide) (by decide)
  all_goals
    have hk := List.mem_range.1 hk
    exact hpackage (by simp only [A.GLB_TCORE_MAP, A.GLB_PCORE_MAP]; omega) (by simp only [A.GLB_TCORE_MAP, A.GLB_PCORE_MAP]; omega)

theorem touches_recountPart {p : Nat} (hp : p < 16) : Touches sansBooks OnCounts s (s.recountPart p) := by
  unfold State.recountPart
  repeat' apply Touches.setReg
  · exact .refl
  all_goals
    refine .inr (.inl ?_)
    simp only [R.PRT_STATUS.present, R.PRT_RES.t_cores, R.PRT_RES.p_cores, R.PRT_RES.ses, R.PRT_RES.channels, R.PRT_RES.ports,
      R.PRT_RES.llm_units, R.PRT_MASKS.se_mask, A.PRT_STATUS, A.PRT_RES, A.PRT_CLUSTERS, A.PRT_PCORES, A.PRT_MASKS, A.PRT_CHAN,
      A.PRT_PORTS, A.PRT_LLM]
    omega

theorem onCounts_prtRes {p : Nat} (hp : p < 16) : OnCounts (A.PRT_RES p) := by
  refine .inr (.inl ?_)
  unfold A.PRT_RES
  omega

theorem touches_recount {p : Option Nat} (hp : ∀ q, p = some q → q < 16) : Touches sansBooks OnCounts s (s.recount p) := by
  unfold State.recount
  split
  · next q =>
    have hq := hp q rfl
    refine .trans (.trans ?_ (touches_recountPart hq)) (touches_recountPackage.mono (fun _ => .inl))
    split
    · exact .refl
    · exact .fset .refl (onCounts_prtRes hq)
  · exact touches_recountPackage.mono (fun _ => .inl)

theorem touches_setWidth (c : Nat) : Touches sansBooks OnUnits s (s.setWidth c) := by
  unfold State.setWidth
  repeat' apply Touches.setReg
  · exact .refl
  all_goals
    simp only [OnUnits, R.TC_ME_STATUS.width_physical, R.TC_ME_STATUS.width_presented, A.TC_ME_STATUS, A.TC_ME_COLS]
    omega

theorem touches_loadMode (c : Nat) : Touches sansBooks OnUnits s (s.loadMode c) := by
  refine Touches.fset .refl ?_
  simp only [OnUnits, R.TC_ME_STATUS.mode, A.TC_ME_STATUS]
  omega

theorem touches_rewidthPart {p : Nat} (hp : p < 16) : Touches sansBooks OnRetire s (s.rewidthPart p) :=
  .trans (.fset .refl (.inr (onCounts_prtRes hp))) (.foldl (fun _ _ _ => (touches_setWidth _).mono (fun _ => .inl)) _)

/-! What an image fixes. -/

theorem onForm_of_onUnits {off : Nat} (h : OnUnits off) : OnForm off := .inl (.inl h)

theorem onForm_of_onCounts {off : Nat} (h : OnCounts off) : OnForm off := .inl (.inr h)

theorem onForm_of_high {off : Nat} (h : 0x100000 ≤ off) : OnForm off := .inr (.inr h)

theorem touches_loadTransitPart {p : Nat} (hp : p < 16) : Touches sansBooks OnForm s (s.loadTransitPart p) := by
  unfold State.loadTransitPart
  repeat' apply Touches.setReg
  · exact .refl
  all_goals
    refine .inr (.inl ?_)
    simp only [R.TRN_PART_CTL.compute, R.TRN_PART_CTL.exchange, R.TRN_PART_CTL.commit, R.TRN_PART_CTL.policy, A.TRN_PART_CTL]
    omega

theorem touches_loadTransitHeader : Touches sansBooks OnForm s s.loadTransitHeader :=
  .fset (.fset .refl (.inr (.inl ⟨by decide, by decide⟩))) (.inr (.inl ⟨by decide, by decide⟩))

theorem touches_loadRegions (p : Nat) : Touches sansBooks OnForm s (s.loadRegions p) := by
  have hhigh (d : Nat) : OnForm (A.RMM_RGN_CFG d) := onForm_of_high (by unfold A.RMM_RGN_CFG; omega)
  unfold State.loadRegions
  split
  · exact .foldl (fun _ _ _ => .fset (.fset (.fset .refl (hhigh _)) (hhigh _)) (hhigh _)) s
  · exact .refl

theorem touches_loadWeights (n : Nat) : Touches sansBooks OnForm s (s.loadWeights n) := by
  have hhigh : OnForm (A.SCP_PORT_VCW n) := onForm_of_high (by unfold A.SCP_PORT_VCW; omega)
  unfold State.loadWeights
  repeat' apply Touches.setReg
  · exact .refl
  all_goals exact hhigh

theorem touches_loadChan (n : Nat) : Touches sansBooks OnForm s (s.loadChan n) := by
  have hhigh : OnForm (A.GDM_CH_STATUS n) := onForm_of_high (by unfold A.GDM_CH_STATUS; omega)
  unfold State.loadChan
  split <;> exact .fset (.fset .refl hhigh) hhigh

theorem touches_loadSlice (n : Nat) : Touches sansBooks OnForm s (s.loadSlice n) := by
  have hhigh : OnForm (A.LLM_STATUS n) := onForm_of_high (by unfold A.LLM_STATUS; omega)
  exact .fset (.fset .refl hhigh) hhigh

theorem touches_loadHash : Touches sansBooks OnPackage s s.loadHash := by
  refine .foldl (fun t k hk => .setReg .refl ?_) s
  have hk := List.mem_range.1 hk
  unfold OnPackage A.GLB_HASH
  omega

theorem touches_loadPart (has : Nat → Bool) {p : Nat} (hp : p < 16) : Touches sansBooks OnForm s (s.loadPart has p) := by
  unfold State.loadPart
  dsimp only
  exact ((((Touches.refl.then_if (touches_loadTransitPart hp)).then_if (touches_loadRegions p)).then_if
    (.foldl (fun _ n _ => touches_loadWeights n) _)).then_if
    (.foldl (fun _ c _ => (touches_loadMode c).mono (fun _ => onForm_of_onUnits)) _)).trans
    ((((touches_recountPart hp).mono (fun _ => .inr)).trans (touches_rewidthPart hp)).mono (fun _ => .inl))

end

end Sys2Proof.Machine

/-! What resets of T-cores and their retirement do to memory, to the cores and to registers. -/
namespace Sys2Proof.Machine

/-- Entries are left out by their key. -/
theorem assocGet_filter_key {α : Type} (d : Nat → α) (m : Assoc α) (q : Nat → Bool) (k : Nat) :
    assocGet d (m.filter (fun e => q e.1)) k = if q k = true then assocGet d m k else d k := by
  induction m with
  | nil => exact (ite_self _).symm
  | cons e rest ih =>
    obtain ⟨j, v⟩ := e
    rw [List.filter_cons]
    by_cases hj : j = k
    · subst hj
      by_cases hq : q j = true
      · rw [if_pos hq, if_pos hq, assocGet_cons_same, assocGet_cons_same]
      · rw [if_neg hq, ih, if_neg hq, if_neg hq]
    · rw [assocGet_cons_other _ _ _ hj, ← ih]
      split
      · exact assocGet_cons_other _ _ _ hj
      · rfl

section
variable {s : State}

/-- The bytes of a range that is zeroed read 0, the others as before. -/
theorem byte_zero (a n x : Nat) : (s.zero a n).byte x = if a ≤ x ∧ x < a + n then 0 else s.byte x := by
  refine (assocGet_filter_key memDefault s.mem (fun k => !(decide (a ≤ k) && decide (k < a + n))) x).trans ?_
  by_cases h : a ≤ x ∧ x < a + n
  · rw [if_pos h, if_neg (by simp [h])]
    rfl
  · rw [if_neg h, if_pos (by rw [Bool.not_eq_true', ← Bool.decide_and]; exact decide_eq_false h)]
    rfl

end

/-- Memory is as it was but for bytes that became 0, and the channels' bytes are as they were. -/
def OnlyZeroes (s t : State) : Prop := ∀ a, (t.byte a = s.byte a ∨ t.byte a = 0) ∧ (2 ^ 48 ≤ a → t.byte a = s.byte a)

namespace OnlyZeroes

variable {s t u : State}

theorem refl : OnlyZeroes s s := fun _ => ⟨.inl rfl, fun _ => rfl⟩

theorem trans (h : OnlyZeroes s t) (h' : OnlyZeroes t u) : OnlyZeroes s u := by
  intro a
  refine ⟨?_, fun ha => ((h' a).2 ha).trans ((h a).2 ha)⟩
  obtain h' | h' := (h' a).1
  · rw [h']
    exact (h a).1
  · exact .inr h'

theorem of_mem (h : t.mem = s.mem) : OnlyZeroes s t := by
  intro a
  have hbyte : t.byte a = s.byte a := by unfold State.byte; rw [h]
  exact ⟨.inl hbyte, fun _ => hbyte⟩

theorem foldl {α : Type} {f : State → α → State} {l : List α} (h : ∀ t, ∀ a ∈ l, OnlyZeroes t (f t a)) (s : State) :
    OnlyZeroes s (l.foldl f s) := by
  induction l generalizing s with
  | nil => exact refl
  | cons a rest ih =>
    rw [List.foldl_cons]
    exact (h s a List.mem_cons_self).trans (ih (fun t b hb => h t b (List.mem_cons_of_mem a hb)) (f s a))

/-- A byte that is 0 stays 0. -/
theorem byte_eq_zero (h : OnlyZeroes s t) {a : Nat} (ha : s.byte a = 0) : t.byte a = 0 := by
  obtain h | h := (h a).1
  · rw [h, ha]
  · exact h

/-- The bytes of a channel stay. -/
theorem gddr (h : OnlyZeroes s t) (ch x : Nat) : t.byte (gddrKey ch x) = s.byte (gddrKey ch x) :=
  (h _).2 (by unfold gddrKey; omega)

theorem zero {a n : Nat} (ha : a + n ≤ 2 ^ 48) : OnlyZeroes s (s.zero a n) := by
  intro x
  rw [byte_zero]
  refine ⟨?_, fun hx => if_neg (by omega)⟩
  split
  · exact .inr rfl
  · exact .inl rfl

end OnlyZeroes

/-! What the state without its books still tells. -/

section
variable {W : Nat → Prop} {s t : State} (h : Touches sansBooks W s t)
include h

theorem Touches.mem : t.mem = s.mem :=
  calc t.mem = (sansBooks t).mem := rfl
    _ = (sansBooks s).mem := by rw [h.rest]

theorem Touches.tcore (c : Nat) : t.tcore c = s.tcore c := by
  have hcores : (sansBooks t).tcores = (sansBooks s).tcores := by rw [h.rest]
  exact congrArg (assocGet (fun _ => TCore.reset) · c) hcores

theorem Touches.byte (a : Nat) : t.byte a = s.byte a := by
  unfold State.byte
  rw [h.mem]

theorem Touches.units : Touches sansUnits W s t := h.weaken (fun _ => rfl)

end

/-! What the state without its units still tells. -/

section
variable {W : Nat → Prop} {s t : State} (h : Touches sansUnits W s t)
include h

theorem Touches.togus : t.togus = s.togus :=
  calc t.togus = (sansUnits t).togus := rfl
    _ = (sansUnits s).togus := by rw [h.rest]

theorem Touches.nv : t.nv = s.nv :=
  calc t.nv = (sansUnits t).nv := rfl
    _ = (sansUnits s).nv := by rw [h.rest]

theorem Touches.chan (g : Nat) : t.chan g = s.chan g := by
  have hchans : (sansUnits t).chans = (sansUnits s).chans := by rw [h.rest]
  exact congrArg (assocGet (fun _ => Channel.reset) · g) hchans

theorem Touches.op (k : Nat) : t.op k = s.op k := by
  have hops : (sansUnits t).ops = (sansUnits s).ops := by rw [h.rest]
  exact congrArg (assocGet (fun _ => none) · k) hops

theorem Touches.recs : t.recs = s.recs :=
  calc t.recs = (sansUnits t).recs := rfl
    _ = (sansUnits s).recs := by rw [h.rest]

theorem Touches.recq : t.recq = s.recq :=
  calc t.recq = (sansUnits t).recq := rfl
    _ = (sansUnits s).recq := by rw [h.rest]

end

section
variable {W : Nat → Prop} {s : State}

/-- A core's own registers return to reset; no other register is touched. -/
theorem coreWord_of_not_onUnits (c : Nat) {off : Nat} (h : ¬ OnUnits off) (w : Word) : coreWord c off w = w := by
  unfold coreWord
  unfold OnUnits at h
  exact if_neg (by omega)

/-- What a reset leaves of a T-core. -/
def freshCore (retired : Bool) : TCore := { TCore.reset with cc := { Jumbe.reset with retired := retired } }

/-- The state of a T-core reset, before its width is set again. -/
def State.coreCleared (s : State) (c : Nat) : State :=
  ((({ s with regs := resetRegs (coreWord c) s.regs }).setTcore c (freshCore (s.tcore c).cc.retired)).zero (padBase c) 0x400000).setRecorded c []

theorem resetTcore_eq (c : Nat) : s.resetTcore c = ((s.coreCleared c).loadMode c).setWidth c := rfl

theorem touches_coreCleared (c : Nat) : Touches sansUnits OnUnits s (s.coreCleared c) :=
  ⟨rfl, fun _ => cleanRegs_resetRegs _ _, fun hc _ hoff => assocGet_resetRegs hc (coreWord_of_not_onUnits c hoff)⟩

theorem touches_coreWidth (c : Nat) : Touches sansBooks OnUnits s ((s.loadMode c).setWidth c) :=
  (touches_loadMode c).trans (touches_setWidth c)

theorem touches_resetTcore (c : Nat) : Touches sansUnits OnUnits s (s.resetTcore c) :=
  (touches_coreCleared c).trans (touches_coreWidth c).units

theorem tcore_resetTcore (c j : Nat) : (s.resetTcore c).tcore j = if c = j then freshCore (s.tcore c).cc.retired else s.tcore j := by
  rw [resetTcore_eq, (touches_coreWidth c).tcore]
  split
  · next h => subst h; exact State.tcore_setTcore_same _ _ _
  · next h => exact State.tcore_setTcore_other _ _ _ _ h

theorem byte_resetTcore (c a : Nat) :
    (s.resetTcore c).byte a = if padBase c ≤ a ∧ a < padBase c + 0x400000 then 0 else s.byte a := by
  rw [resetTcore_eq, (touches_coreWidth c).byte]
  exact byte_zero (s := s) (padBase c) 0x400000 a

theorem onlyZeroes_resetTcore {c : Nat} (hc : c < 512) : OnlyZeroes s (s.resetTcore c) := by
  intro a
  rw [byte_resetTcore]
  unfold padBase
  refine ⟨?_, fun ha => if_neg (by omega)⟩
  split
  · exact .inr rfl
  · exact .inl rfl

theorem touches_onCore (c : Nat) (f : TCore → TCore) : Touches sansUnits W s (s.onCore c f) := .of_regs rfl rfl

/-- The state of a T-core retired, before the counts follow. -/
def State.coreRetired (s : State) (c : Nat) : State :=
  ((s.reportOpen (srcTcore c) codeCoreRetired 2).resetTcore c).onCore c (fun t => { t with cc := { t.cc with retired := true } })

theorem retireTcore_eq (c : Nat) :
    s.retireTcore c = (((s.coreRetired c).fset (R.TC_CC_STATUS.state c) 4).advanceEpochs [.tcore c]).recount (s.partOfTcore c) := rfl

theorem partOfTcore_lt {c p : Nat} (h : s.partOfTcore c = some p) : p < 16 := findPart_lt (f := fun p => bit (s.clusterMask p) (c / 4)) h

/-- The books that follow the retirement of a T-core. -/
theorem touches_coreRetiredBooks (c : Nat) : Touches sansBooks OnRetire (s.coreRetired c) (s.retireTcore c) := by
  rw [retireTcore_eq]
  refine .trans (.trans (.fset .refl ?_) (touches_advanceEpochs _)) ((touches_recount (fun _ hp => partOfTcore_lt hp)).mono (fun _ => .inr))
  simp only [OnRetire, OnUnits, R.TC_CC_STATUS.state, A.TC_CC_STATUS]
  omega

theorem touches_coreRetired (c : Nat) : Touches sansUnits OnRetire s (s.coreRetired c) := by
  have hreport : Touches sansUnits OnRetire s (s.reportOpen (srcTcore c) codeCoreRetired 2) :=
    ((touches_reportOpen _ _ _).mono (fun _ => onRetire_of_onLost)).units
  exact (hreport.trans ((touches_resetTcore c).mono (fun _ => .inl))).trans (touches_onCore c _)

theorem touches_retireTcore (c : Nat) : Touches sansUnits OnRetire s (s.retireTcore c) :=
  (touches_coreRetired c).trans (touches_coreRetiredBooks c).units

theorem tcore_retireTcore (c j : Nat) : (s.retireTcore c).tcore j = if c = j then freshCore true else s.tcore j := by
  rw [(touches_coreRetiredBooks c).tcore]
  unfold State.coreRetired State.onCore
  split
  · next h =>
    subst h
    rw [State.tcore_setTcore_same, tcore_resetTcore, if_pos rfl]
    rfl
  · next h => rw [State.tcore_setTcore_other _ _ _ _ h, tcore_resetTcore, if_neg h, (touches_reportOpen _ _ _).tcore]

theorem byte_retireTcore (c a : Nat) :
    (s.retireTcore c).byte a = if padBase c ≤ a ∧ a < padBase c + 0x400000 then 0 else s.byte a := by
  rw [(touches_coreRetiredBooks c).byte]
  unfold State.coreRetired
  rw [State.onCore_byte, byte_resetTcore, (touches_reportOpen _ _ _).byte]

theorem onlyZeroes_retireTcore {c : Nat} (hc : c < 512) : OnlyZeroes s (s.retireTcore c) := by
  intro a
  rw [byte_retireTcore]
  unfold padBase
  refine ⟨?_, fun ha => if_neg (by omega)⟩
  split
  · exact .inr rfl
  · exact .inl rfl

/-- A retired core's status shows so. -/
theorem status_retireTcore (hc : CleanRegs s.regs) (c : Nat) : (s.retireTcore c).fget (R.TC_CC_STATUS.state c) = 4 := by
  have hclean : CleanRegs ((s.coreRetired c).fset (R.TC_CC_STATUS.state c) 4).regs :=
    cleanRegs_set ((touches_coreRetired c).clean hc) _ _
  have hnot : ¬ OnCounts (R.TC_CC_STATUS.state c).off := by
    simp only [OnCounts, OnPackage, OnLost, R.TC_CC_STATUS.state, A.TC_CC_STATUS]
    omega
  have hbooks : Touches sansBooks OnCounts ((s.coreRetired c).fset (R.TC_CC_STATUS.state c) 4) (s.retireTcore c) := by
    rw [retireTcore_eq]
    exact (touches_advanceEpochs _).trans (touches_recount (fun _ hp => partOfTcore_lt hp))
  rw [hbooks.fget hclean hnot]
  exact fget_fset_self _ _ _ rfl

/-! The cores of a partition that are too narrow, and the forming of it. -/

theorem touches_retireNarrow (p : Nat) : Touches sansUnits OnRetire s (s.retireNarrow p) :=
  .foldl (fun _ c _ => (((touches_reportOpen _ _ _).mono (fun _ => onRetire_of_onLost)).units).trans (touches_retireTcore c)) s

theorem touches_formPart (has : Nat → Bool) {p : Nat} (hp : p < 16) : Touches sansUnits OnForm s (s.formPart has p) :=
  ((touches_loadPart has hp).units.trans ((touches_retireNarrow p).mono (fun _ => .inl))).trans
    ((touches_rewidthPart hp).mono (fun _ => .inl)).units

theorem mem_partTcores_lt {p c : Nat} (h : c ∈ s.partTcores p) : c < 512 := by
  have hup := (List.mem_filter.1 h).2
  unfold State.tcoreUp at hup
  simp only [Bool.and_eq_true, decide_eq_true_eq] at hup
  exact hup.1.1.1

theorem onlyZeroes_formPart (has : Nat → Bool) {p : Nat} (hp : p < 16) : OnlyZeroes s (s.formPart has p) := by
  refine .trans (.trans (.of_mem (touches_loadPart has hp).mem) ?_) (.of_mem (touches_rewidthPart hp).mem)
  refine .foldl (fun t c hc => ?_) _
  exact .trans (.of_mem (touches_reportOpen _ _ _).mem) (onlyZeroes_retireTcore (mem_partTcores_lt (List.mem_of_mem_filter hc)))

end

end Sys2Proof.Machine

/-! IMAGE_LOADED: which copy of the boot flash is loaded, and what the load leaves alone (R43, R60, R61). -/
namespace Sys2Proof.Machine

theorem bit_eq_testBit (n i : Nat) : bit n i = n.testBit i := Nat.testBit_eq_decide_div_mod_eq.symm

section
variable {s : State}

theorem milestone_reach (s : State) {b : Nat} (hb : b < 11) : (s.reach_ b).milestone b = true := by
  unfold State.milestone State.reach_
  rw [fget_fset_self _ _ _ rfl, bit_eq_testBit, Nat.testBit_mod_two_pow]
  simp [R.GLB_BOOT.milestones, hb]

/-! A full image put in force. -/

theorem loadFull_touches (b : List Byte) : Touches sansUnits OnForm (s.withSections (mergeSections [] b)) (s.loadFull b) := by
  unfold State.loadFull
  refine .trans ?_ (touches_loadHash.mono (fun _ h => onForm_of_onCounts (.inl h))).units
  refine .trans ?_ (touches_recountPackage.mono (fun _ h => onForm_of_onCounts (.inl h))).units
  refine .trans ?_ (.foldl (fun _ n _ => (touches_loadSlice n).units) _)
  refine .trans ?_ (.foldl (fun _ c _ => ((touches_setWidth c).mono (fun _ => onForm_of_onUnits)).units) _)
  refine .trans ?_ (.foldl (fun _ c _ => ((touches_loadMode c).mono (fun _ => onForm_of_onUnits)).units) _)
  refine .trans ?_ (.foldl (fun _ n _ => (touches_loadChan n).units) _)
  refine .trans ?_ (.foldl (fun _ n _ => (touches_loadWeights n).units) _)
  exact touches_loadTransitHeader.units.trans (.foldl (fun _ p hp => touches_formPart _ (List.mem_range.1 hp)) _)

/-- The sections of a full image are in force, and the rest of the structure's state is as it was. -/
theorem loadFull_togus (b : List Byte) : (s.loadFull b).togus = { s.togus with sections := mergeSections [] b } :=
  (loadFull_touches b).togus.trans rfl

theorem fget_loadFull (hc : CleanRegs s.regs) (b : List Byte) {f : Fld} (hf : ¬ OnForm f.off) : (s.loadFull b).fget f = s.fget f :=
  (loadFull_touches b).fget hc hf

theorem getD_map_range {α : Type} (f : Nat → α) (d : α) {k n : Nat} (h : k < n) : ((List.range n).map f).getD k d = f k := by
  rw [List.getD_eq_getElem?_getD, List.getElem?_map, List.getElem?_range h, Option.map_some, Option.getD_some]

theorem getD_mergeSections_nil (b : List Byte) {ty : Nat} (h1 : 1 ≤ ty) (h7 : ty ≤ 7) :
    (mergeSections [] b).getD (ty - 1) [] = (imgSection b ty).getD [] := by
  have hty : ty - 1 + 1 = ty := by omega
  unfold mergeSections
  rw [getD_map_range _ _ (by omega), hty]
  rfl

/-! The steps of IMAGE_LOADED. -/

/-- The copy that what validation found of both has IMAGE_LOADED take; 3 is neither. -/
def State.imagePick (s : State) (a b : Option (Nat × Nat)) : Nat :=
  match a, b with
  | none, none => if imgSeq s.nv.togusA < imgSeq s.nv.togusB then 1 else 0
  | none, some _ => 0
  | some _, none => 1
  | some _, some _ => 3

/-- PRT_BOOT shows the copy and what validation found. -/
def State.imageShown (s : State) (pick : Nat) (a b : Option (Nat × Nat)) : State :=
  ((((s.fset R.PRT_BOOT.loaded pick).fset R.PRT_BOOT.code_a ((a.map Prod.fst).getD 0)).fset R.PRT_BOOT.code_b
    ((b.map Prod.fst).getD 0)).fset R.PRT_BOOT.off_a ((a.map Prod.snd).getD 0)).fset R.PRT_BOOT.off_b ((b.map Prod.snd).getD 0)

/-- A refused copy is reported, and sent as a management event. -/
def State.imageRefused (s : State) (r : Option (Nat × Nat)) : State :=
  if r.isSome then (s.reportOpen srcPackage codeImageRefused 0).imageEvent r else s

/-- The copy is put in force. -/
def State.imageTaken (s : State) (pick : Nat) : State :=
  if pick = 0 then s.loadFull s.nv.togusA else if pick = 1 then s.loadFull s.nv.togusB else s.fset R.GLB_BOOT.boot_state 2

/-- The milestone is reached, and firmware on trial becomes active. -/
def State.imageReached (s : State) : State :=
  if (s.reach_ 4).boot.onTrial then
    ({ s.reach_ 4 with boot := { (s.reach_ 4).boot with watchdog := false, onTrial := false } }.putRecord
      { ActRec.blank with active := (s.reach_ 4).boot.copy }).fset R.GLB_FW.pending 3
  else s.reach_ 4

theorem exec_imageLoaded (hrun : s.boot.stage = .running) (h3 : s.milestone 3 = true) (h4 : s.milestone 4 = false) :
    exec .imageLoaded s = .next
      (let a := validate s true s.nv.togusA
       let b := validate s true s.nv.togusB
       ((((s.imageShown (s.imagePick a b) a b).imageRefused a).imageRefused b).imageTaken (s.imagePick a b)).imageReached) := by
  show execImageLoaded s = _
  unfold execImageLoaded
  rw [hrun, h3, h4]
  rfl

theorem imageLoaded_idle (h : s.boot.stage ≠ .running ∨ s.milestone 3 = false ∨ s.milestone 4 = true) : exec .imageLoaded s = .next s := by
  show execImageLoaded s = _
  unfold execImageLoaded
  refine if_pos ?_
  obtain h | h | h := h <;> simp [h]

theorem imagePick_lt (a b : Option (Nat × Nat)) : s.imagePick a b < 4 := by
  unfold State.imagePick
  split
  · split <;> omega
  all_goals omega

theorem imageShown_fields (pick : Nat) (a b : Option (Nat × Nat)) (hpick : pick < 4) :
    (s.imageShown pick a b).fget R.PRT_BOOT.loaded = pick ∧
      (s.imageShown pick a b).fget R.PRT_BOOT.code_a = (a.getD (0, 0)).1 % 2 ^ R.PRT_BOOT.code_a.width ∧
      (s.imageShown pick a b).fget R.PRT_BOOT.off_a = (a.getD (0, 0)).2 % 2 ^ R.PRT_BOOT.off_a.width ∧
      (s.imageShown pick a b).fget R.PRT_BOOT.code_b = (b.getD (0, 0)).1 % 2 ^ R.PRT_BOOT.code_b.width ∧
      (s.imageShown pick a b).fget R.PRT_BOOT.off_b = (b.getD (0, 0)).2 % 2 ^ R.PRT_BOOT.off_b.width := by
  have hcode (r : Option (Nat × Nat)) : (r.map Prod.fst).getD 0 = (r.getD (0, 0)).1 := by cases r <;> rfl
  have hoff (r : Option (Nat × Nat)) : (r.map Prod.snd).getD 0 = (r.getD (0, 0)).2 := by cases r <;> rfl
  unfold State.imageShown
  rw [hcode, hcode, hoff, hoff]
  refine ⟨?_, ?_, ?_, ?_, fget_fset_self _ _ _ rfl⟩
  · iterate 4 rw [fget_fset_of_apart _ _ _ _ rfl]
    exact (fget_fset_self _ _ _ rfl).trans (Nat.mod_eq_of_lt hpick)
  · iterate 3 rw [fget_fset_of_apart _ _ _ _ rfl]
    exact fget_fset_self _ _ _ rfl
  · rw [fget_fset_of_apart _ _ _ _ rfl]
    exact fget_fset_self _ _ _ rfl
  · iterate 2 rw [fget_fset_of_apart _ _ _ _ rfl]
    exact fget_fset_self _ _ _ rfl

theorem touches_imageShown (pick : Nat) (a b : Option (Nat × Nat)) : Touches sansBooks (· = A.PRT_BOOT) s (s.imageShown pick a b) := by
  unfold State.imageShown
  repeat' apply Touches.setReg
  · exact .refl
  all_goals rfl

theorem touches_imageRefused (r : Option (Nat × Nat)) : Touches sansBooks OnLost s (s.imageRefused r) :=
  .then_if .refl ((touches_reportOpen _ _ _).trans (touches_emit _))

theorem imageRefused_out (r : Option (Nat × Nat)) : s.out <:+ (s.imageRefused r).out := by
  unfold State.imageRefused
  split
  · exact (imageEvent_keeps _ r (reportOpen_keeps s srcPackage codeImageRefused 0 (keeps_refl s))).2.2.1
  · exact List.suffix_rfl

theorem imageRefused_event (r : Nat × Nat) : Out.pldm 3 (r.1 + 256 * r.2) ∈ (s.imageRefused (some r)).out := List.mem_cons_self

theorem imageTaken_out (pick : Nat) : s.out <:+ (s.imageTaken pick).out := by
  unfold State.imageTaken
  split
  · exact (loadFull_keeps s _ (keeps_refl s)).2.2.1
  · split
    · exact (loadFull_keeps s _ (keeps_refl s)).2.2.1
    · exact List.suffix_rfl

theorem imageTaken_boot (hc : CleanRegs s.regs) (pick : Nat) {f : Fld} (hf : f.off = A.PRT_BOOT) : (s.imageTaken pick).fget f = s.fget f := by
  have hnot : ¬ OnForm f.off := by
    rw [hf]
    unfold OnForm OnRetire OnUnits OnCounts OnPackage OnLost A.PRT_BOOT
    omega
  unfold State.imageTaken
  split
  · exact fget_loadFull hc _ hnot
  · split
    · exact fget_loadFull hc _ hnot
    · exact fget_fset_reg _ _ _ _ (by rw [hf]; decide)

/-- Reaching the milestone changes the boot fields of GLB_BOOT and GLB_FW only. -/
theorem imageReached_frame (s : State) :
    s.imageReached.milestone 4 = true ∧ s.imageReached.togus = s.togus ∧ s.imageReached.out = s.out ∧
      (∀ f : Fld, f.off = A.PRT_BOOT → s.imageReached.fget f = s.fget f) ∧
      s.imageReached.fget R.GLB_BOOT.boot_state = s.fget R.GLB_BOOT.boot_state := by
  have hboot (f : Fld) (hf : f.off = A.PRT_BOOT) : (s.reach_ 4).fget f = s.fget f := fget_fset_reg _ _ _ _ (by rw [hf]; decide)
  have hstate : (s.reach_ 4).fget R.GLB_BOOT.boot_state = s.fget R.GLB_BOOT.boot_state := fget_fset_of_apart _ _ _ _ rfl
  have hreached := milestone_reach s (b := 4) (by decide)
  have htogus : (s.reach_ 4).togus = s.togus := rfl
  have hout : (s.reach_ 4).out = s.out := rfl
  unfold State.imageReached
  generalize s.reach_ 4 = t at hboot hstate hreached htogus hout
  split
  · have hread (r : ActRec) (f : Fld) (hf : f.off ≠ A.GLB_FW) :
        (({ t with boot := { t.boot with watchdog := false, onTrial := false } }.putRecord r).fset R.GLB_FW.pending 3).fget f = t.fget f :=
      (fget_fset_reg _ _ _ _ (Ne.symm hf)).trans (putRecord_reads (State.fget · f) (fun _ => rfl) (fun _ => rfl))
    refine ⟨?_, ?_, ?_, fun f hf => (hread _ f (by rw [hf]; decide)).trans (hboot f hf), (hread _ _ (by decide)).trans hstate⟩
    · unfold State.milestone
      rw [hread _ _ (by decide)]
      exact hreached
    · exact (putRecord_reads State.togus (fun _ => rfl) (fun _ => rfl)).trans htogus
    · exact (putRecord_reads State.out (fun _ => rfl) (fun _ => rfl)).trans hout
  · exact ⟨hreached, htogus, hout, hboot, hstate⟩

/-- What a copy taken leaves in force. -/
def ImageInForce (s t : State) (copy : Nat) (image : List Byte) : Prop :=
  t.fget R.PRT_BOOT.loaded = copy ∧ (∀ ty, 1 ≤ ty → ty ≤ 7 → t.sect ty = (imgSection image ty).getD []) ∧ t.togus.pending = s.togus.pending

theorem imageInForce_of {t : State} {copy : Nat} {image : List Byte} (hloaded : t.fget R.PRT_BOOT.loaded = copy)
    (htogus : t.togus = { s.togus with sections := mergeSections [] image }) : ImageInForce s t copy image := by
  refine ⟨hloaded, fun ty h1 h7 => ?_, by rw [htogus]⟩
  unfold State.sect
  rw [htogus]
  exact getD_mergeSections_nil image h1 h7

/-- IMAGE_LOADED, by the copy that it picks. -/
theorem imageLoaded_outcome (hc : CleanRegs s.regs) (hrun : s.boot.stage = .running) (h3 : s.milestone 3 = true) (h4 : s.milestone 4 = false)
    {a b : Option (Nat × Nat)} (ha : validate s true s.nv.togusA = a) (hb : validate s true s.nv.togusB = b) :
    ∃ t, exec .imageLoaded s = .next t ∧ t.milestone 4 = true ∧
      t.fget R.PRT_BOOT.code_a = (a.getD (0, 0)).1 % 2 ^ R.PRT_BOOT.code_a.width ∧
      t.fget R.PRT_BOOT.off_a = (a.getD (0, 0)).2 % 2 ^ R.PRT_BOOT.off_a.width ∧
      t.fget R.PRT_BOOT.code_b = (b.getD (0, 0)).1 % 2 ^ R.PRT_BOOT.code_b.width ∧
      t.fget R.PRT_BOOT.off_b = (b.getD (0, 0)).2 % 2 ^ R.PRT_BOOT.off_b.width ∧
      (∀ r, (a = some r ∨ b = some r) → Out.pldm 3 (r.1 + 256 * r.2) ∈ t.out) ∧
      (s.imagePick a b = 0 → ImageInForce s t 0 s.nv.togusA) ∧ (s.imagePick a b = 1 → ImageInForce s t 1 s.nv.togusB) ∧
      (s.imagePick a b = 3 → t.fget R.PRT_BOOT.loaded = 3 ∧ t.fget R.GLB_BOOT.boot_state = 2 ∧ t.togus = s.togus) := by
  have hexec := exec_imageLoaded hrun h3 h4
  dsimp only at hexec
  rw [ha, hb] at hexec
  have hpick := imagePick_lt (s := s) a b
  generalize hk : s.imagePick a b = k at hexec hpick
  obtain ⟨hloaded, hca, hoa, hcb, hob⟩ := imageShown_fields (s := s) k a b hpick
  have hshown := touches_imageShown (s := s) k a b
  generalize s.imageShown k a b = s1 at hexec hloaded hca hoa hcb hob hshown
  have hrefused : Touches sansBooks OnLost s1 ((s1.imageRefused a).imageRefused b) := (touches_imageRefused a).trans (touches_imageRefused b)
  have hevents (r : Nat × Nat) (hr : a = some r ∨ b = some r) : Out.pldm 3 (r.1 + 256 * r.2) ∈ ((s1.imageRefused a).imageRefused b).out := by
    obtain rfl | rfl := hr
    · exact (imageRefused_out b).subset (imageRefused_event r)
    · exact imageRefused_event r
  generalize (s1.imageRefused a).imageRefused b = s2 at hexec hrefused hevents
  have hc1 := hshown.clean hc
  have hc2 := hrefused.clean hc1
  have hnv : s2.nv = s.nv := hrefused.units.nv.trans hshown.units.nv
  have htogus : s2.togus = s.togus := hrefused.units.togus.trans hshown.units.togus
  obtain ⟨hreached, htogus', hout, hboot, hstate⟩ := imageReached_frame (s2.imageTaken k)
  have hprt (f : Fld) (hf : f.off = A.PRT_BOOT) : (s2.imageTaken k).imageReached.fget f = s1.fget f := by
    have hnot : ¬ OnLost f.off := by
      rw [hf]
      unfold OnLost A.PRT_BOOT
      omega
    rw [hboot f hf, imageTaken_boot hc2 k hf, hrefused.fget hc1 hnot]
  refine ⟨_, hexec, hreached, (hprt _ rfl).trans hca, (hprt _ rfl).trans hoa, (hprt _ rfl).trans hcb, (hprt _ rfl).trans hob,
    fun r hr => hout ▸ (imageTaken_out k).subset (hevents r hr), ?_, ?_, ?_⟩
  · rintro rfl
    refine imageInForce_of ((hprt _ rfl).trans hloaded) ?_
    have htaken : s2.imageTaken 0 = s2.loadFull s2.nv.togusA := if_pos rfl
    rw [htogus', htaken, loadFull_togus, hnv, htogus]
  · rintro rfl
    refine imageInForce_of ((hprt _ rfl).trans hloaded) ?_
    have htaken : s2.imageTaken 1 = s2.loadFull s2.nv.togusB := (if_neg (by decide)).trans (if_pos rfl)
    rw [htogus', htaken, loadFull_togus, hnv, htogus]
  · rintro rfl
    refine ⟨(hprt _ rfl).trans hloaded, hstate.trans ?_, htogus'.trans htogus⟩
    exact fget_fset_self s2 R.GLB_BOOT.boot_state 2 rfl

end

/-- Settles O9: the copy follows what validation found of both, and the load reaches neither PRT_BOOT nor the images pending. -/
theorem imageLoadedChoosesCopy : Obligations.ImageLoadedChoosesCopy := by
  unfold Obligations.ImageLoadedChoosesCopy
  refine ⟨fun s h => imageLoaded_idle h, fun s hnodup hrun h3 h4 => ?_⟩
  obtain ⟨t, hexec, hreached, hca, hoa, hcb, hob, hevents, hzero, hone, hneither⟩ :=
    imageLoaded_outcome (cleanRegs_of_nodup hnodup) hrun h3 h4 rfl rfl
  refine ⟨t, hexec, hreached, hca, hoa, hcb, hob, hevents, ?_, ?_, ?_, ?_, ?_⟩
  · intro ha hb hle
    exact hzero (by rw [ha, hb]; exact if_neg (Nat.not_lt.2 hle))
  · intro ha hb hlt
    exact hone (by rw [ha, hb]; exact if_pos hlt)
  · intro ha hb
    obtain ⟨r, hr⟩ := Option.ne_none_iff_exists'.1 hb
    exact hzero (by rw [ha, hr]; rfl)
  · intro ha hb
    obtain ⟨r, hr⟩ := Option.ne_none_iff_exists'.1 ha
    exact hone (by rw [hr, hb]; rfl)
  · intro ha hb
    obtain ⟨r, hr⟩ := Option.ne_none_iff_exists'.1 ha
    obtain ⟨r', hr'⟩ := Option.ne_none_iff_exists'.1 hb
    exact hneither (by rw [hr, hr']; rfl)

end Sys2Proof.Machine

/-! WITHDRAW, RESTRUCTURE_WAIT_EXPIRY and CHANNEL_ZERO_DONE (R45, R63, R65). -/
namespace Sys2Proof.Machine

section
variable {s : State} {p : Nat}

/-- What a withdrawn image leaves: its status, no image pending, and fetching resumed where its rings were held. -/
def ImageWithdrawn (s t : State) (p : Nat) (i : PendingImg) : Prop :=
  t.fget (R.PRT_STATUS.image p) = 0 ∧ t.fget (R.PRT_STATUS.code p) = 0x0E ∧
    t.togus = { s.togus with
      pending := s.togus.pending.filter (fun x => x.partition != p),
      resume := if i.held then insertNat s.togus.resume p else s.togus.resume } ∧
    t.mem = s.mem

theorem withdrawImage_withdrawn {i : PendingImg} (h : s.togus.pending.find? (fun x => x.partition == p && !x.applying) = some i) :
    ImageWithdrawn s (s.withdrawImage p) p i := by
  unfold State.withdrawImage
  rw [h]
  refine ⟨?_, ?_, raise_togus _ _ _, raise_mem _ _ _⟩
  · rw [raise_fget, fget_fset_of_apart _ _ _ _ rfl]
    exact fget_fset_self _ _ _ rfl
  · rw [raise_fget]
    exact fget_fset_self _ _ _ rfl

theorem withdrawImage_none (h : ∀ x ∈ s.togus.pending, x.partition = p → x.applying = true) : s.withdrawImage p = s := by
  have hnone : s.togus.pending.find? (fun x => x.partition == p && !x.applying) = none := by
    refine List.find?_eq_none.2 (fun x hx hwaits => ?_)
    simp only [Bool.and_eq_true, beq_iff_eq, Bool.not_eq_true'] at hwaits
    rw [h x hx hwaits.1] at hwaits
    exact absurd hwaits.2 (by decide)
  unfold State.withdrawImage
  rw [hnone]

theorem exec_withdraw {n : Nat} (hn : n < 2) (hp : p < 16) :
    exec (.withdraw (.pf n) p) s = .next ((s.fset R.PRT_CMD.wd_partition p).withdrawImage p) := by
  show execWithdraw (.pf n) p s = _
  unfold execWithdraw
  rw [prtRights_of_lt hn, Nat.mod_eq_of_lt hp]
  rfl

/-- The expiry of an image that has waited its limit. -/
theorem exec_restructureWaitExpiry {i : PendingImg} (h : s.togus.pending.find? (fun x => x.partition == p && !x.applying) = some i)
    (hlimit : i.limit ≤ i.waited) : exec (.restructureWaitExpiry p) s = .next (s.withdrawImage p) := by
  have hany : s.togus.pending.any (fun i => i.partition == p && !i.applying && decide (i.limit ≤ i.waited)) = true := by
    refine List.any_eq_true.2 ⟨i, List.mem_of_find?_eq_some h, ?_⟩
    have hwaits : (i.partition == p && !i.applying) = true := List.find?_some (p := fun x : PendingImg => x.partition == p && !x.applying) h
    rw [hwaits, decide_eq_true hlimit]
    rfl
  show execRestructureWaitExpiry p s = _
  unfold execRestructureWaitExpiry whenever
  rw [hany]
  rfl

theorem restructureWaitExpiry_early (h : ∀ x ∈ s.togus.pending, x.partition = p → x.applying = true ∨ x.waited < x.limit) :
    exec (.restructureWaitExpiry p) s = .next s := by
  have hany : s.togus.pending.any (fun i => i.partition == p && !i.applying && decide (i.limit ≤ i.waited)) = false := by
    refine List.any_eq_false.2 (fun x hx hwaits => ?_)
    simp only [Bool.and_eq_true, beq_iff_eq, Bool.not_eq_true', decide_eq_true_eq] at hwaits
    obtain happlying | hwaited := h x hx hwaits.1.1
    · rw [happlying] at hwaits
      exact absurd hwaits.1.2 (by decide)
    · omega
  show execRestructureWaitExpiry p s = _
  unfold execRestructureWaitExpiry whenever
  rw [hany]
  rfl

/-- CHANNEL_ZERO_DONE: the channel's bytes are 0, and it is free. -/
theorem channelZeroDone_zeroes {g : Nat} (hg : g < 64) (hzeroing : (s.chan g).zeroing = true) :
    ∃ t, exec (.channelZeroDone g) s = .next t ∧ (∀ a, a < 2 ^ 36 → t.byte (gddrKey g 0 + a) = 0) ∧
      (∀ a, (a < gddrKey g 0 ∨ gddrKey g 0 + 2 ^ 36 ≤ a) → t.byte a = s.byte a) ∧
      (t.chan g).zeroing = false ∧ bit t.togus.releasedCh g = false ∧ t.regs = s.regs := by
  have hexec : exec (.channelZeroDone g) s = execChannelZeroDone g s := rfl
  unfold execChannelZeroDone at hexec
  rw [if_pos ⟨hg, hzeroing⟩] at hexec
  refine ⟨_, hexec, fun a ha => ?_, fun a ha => ?_, ?_, ?_, rfl⟩
  · exact (byte_zero (s := s) (gddrKey g 0) (2 ^ 36) _).trans (if_pos (by omega))
  · exact (byte_zero (s := s) (gddrKey g 0) (2 ^ 36) _).trans (if_neg (by omega))
  · exact congrArg Channel.zeroing (State.chan_setChan_same (s.zero (gddrKey g 0) (2 ^ 36)) g { s.chan g with zeroing := false })
  · show bit (s.togus.releasedCh &&& (2 ^ 64 - 1 - 2 ^ g)) g = false
    have hpow : 2 ^ g < 2 ^ 64 := Nat.pow_lt_pow_right (by decide) hg
    rw [bit_eq_testBit, Nat.testBit_and, Nat.sub_sub, Nat.add_comm 1, Nat.testBit_two_pow_sub_succ hpow, Nat.testBit_two_pow_self]
    simp

theorem channelZeroDone_idle {g : Nat} (h : (s.chan g).zeroing = false) : exec (.channelZeroDone g) s = .next s :=
  if_neg (fun hboth => absurd hboth.2 (by rw [h]; decide))

end

end Sys2Proof.Machine

/-! APPLY_COMPLETE: the stages of the application, and what each leaves alone (R47, R59, R64, R65). -/
namespace Sys2Proof.Machine

/-- And without the channels' queues and marks. -/
def sansChans (s : State) : State := { sansUnits s with chans := [] }

section
variable {W : Nat → Prop} {s t : State}

theorem Touches.chans (h : Touches sansUnits W s t) : Touches sansChans W s t := h.weaken (fun _ => rfl)

theorem Touches.togus_of_chans (h : Touches sansChans W s t) : t.togus = s.togus :=
  calc t.togus = (sansChans t).togus := rfl
    _ = (sansChans s).togus := by rw [h.rest]

/-! Lines written back. -/

theorem touches_correct (a n src code : Nat) {cnt : Option Fld} (h : ∀ f, cnt = some f → 0x100000 ≤ f.off) :
    Touches sansUnits OnForm s (s.correct a n src code cnt) := by
  unfold State.correct
  refine .trans (t := { s with weak := s.weak.filter (fun w => !(decide (a < 8 * w + 8) && decide (8 * w < a + n))) })
    (.of_regs rfl rfl) (.foldl (fun u w _ => ?_) _)
  refine (Touches.trans ?_ ((touches_reportOpen src code 0).mono (fun _ => onForm_of_onLost))).units
  cases cnt with
  | none => exact .refl
  | some f => exact .fset .refl (onForm_of_high (h f rfl))

theorem touches_correctAt_gddr (ch loc n : Nat) : Touches sansUnits OnForm s (s.correctAt (.gddr ch loc) n) := by
  unfold State.correctAt
  dsimp only
  split
  all_goals
    refine touches_correct _ _ _ _ (fun f hf => ?_)
    obtain rfl := Option.some.inj hf
    simp only [R.GDM_CH_ECC.corrected, A.GDM_CH_ECC, R.LLM_ECC_CNT.corrected, A.LLM_ECC_CNT]
    omega

theorem touches_queueWrite (ch loc : Nat) : Touches sansChans W s (s.queueWrite ch loc) := by
  unfold State.queueWrite
  dsimp only
  split
  · exact .of_regs rfl rfl
  · exact .refl

theorem touches_clearPoison (a n : Nat) : Touches sansUnits W s (s.clearPoison a n) := .of_regs rfl rfl

theorem touches_setPoison (a : Nat) : Touches sansUnits W s (s.setPoison a) := .of_regs rfl rfl

theorem touches_setDirLine (k : Nat) (d : DirLine) : Touches sansUnits W s (s.setDirLine k d) := .of_regs rfl rfl

theorem touches_writeBack (line : Nat) : Touches sansChans OnForm s (s.writeBack line) := by
  unfold State.writeBack
  split
  · exact ((((touches_correctAt_gddr _ _ _).trans (touches_clearPoison _ _)).then_if
      (.foldl (fun _ _ _ => touches_setPoison _) _)).chans).trans (touches_queueWrite _ _)
  · exact .refl

theorem touches_evictLine (line : Nat) : Touches sansChans OnForm s (s.evictLine line) := by
  unfold State.evictLine
  refine .then_if .refl (.trans (.trans ?_ (touches_clearPoison _ _).chans) (touches_setDirLine _ _).chans)
  exact .then_if .refl (touches_writeBack line)

theorem touches_writeBackPart (p : Nat) : Touches sansChans OnForm s (s.writeBackPart p) :=
  .foldl (fun _ line _ => touches_evictLine line) s

theorem touches_zero (a n : Nat) : Touches sansUnits W s (s.zero a n) := .of_regs rfl rfl

theorem touches_leaveLlm (p units : Nat) (cached : Bool) : Touches sansChans OnForm s (s.leaveLlm p units cached) :=
  .trans (.then_if .refl (touches_writeBackPart p)) (.foldl (fun _ _ _ => (touches_zero _ _).chans) _)

theorem touches_leaveRegions (p : Nat) : Touches sansBooks OnForm t (s.leaveRegions t p) := by
  have hhigh (d : Nat) : OnForm (A.RMM_RGN_CFG d) := onForm_of_high (by unfold A.RMM_RGN_CFG; omega)
  exact .foldl (fun _ _ _ => .fset (.fset (.fset .refl (hhigh _)) (hhigh _)) (hhigh _)) t

theorem touches_zeroClusters (m : Nat) : Touches sansUnits W s (s.zeroClusters m) :=
  .foldl (fun _ _ _ => (touches_zero _ _).trans (.foldl (fun _ _ _ => touches_zero _ _) _)) s

/-- A byte of memory reads 0 once its range is zeroed, and stays so. -/
theorem byte_zero_stays {a n x : Nat} (h : s.byte x = 0) : (s.zero a n).byte x = 0 := by
  rw [byte_zero]
  split
  · rfl
  · exact h

theorem mem_coresOfCluster {c k : Nat} : c ∈ coresOfCluster k ↔ c / 4 = k := by
  unfold coresOfCluster
  simp only [List.mem_cons, List.not_mem_nil, or_false]
  omega

theorem mem_bitsOf {n m i : Nat} : i ∈ bitsOf n m ↔ i < n ∧ bit m i = true := by
  unfold bitsOf
  rw [List.mem_filter, List.mem_range]

/-- The scratchpads of the clusters of the mask are zero. -/
theorem byte_zeroClusters {m c x : Nat} (hc : c < 512) (hm : bit m (c / 4) = true) (hx : x < 0x400000) :
    (s.zeroClusters m).byte (padBase c + x) = 0 := by
  have hstay (t : State) (k : Nat) (h : t.byte (padBase c + x) = 0) :
      ((coresOfCluster k).foldl (fun s c => s.zero (padBase c) 0x400000) (t.zero (stagingBufBase k) 0x100000)).byte (padBase c + x) = 0 := by
    have hbuf := byte_zero_stays (a := stagingBufBase k) (n := 0x100000) h
    generalize t.zero (stagingBufBase k) 0x100000 = u at hbuf
    generalize coresOfCluster k = l
    induction l generalizing u with
    | nil => exact hbuf
    | cons d rest ih => exact ih _ (byte_zero_stays hbuf)
  refine foldl_reads_put (g := fun u => u.byte (padBase c + x)) (mem_bitsOf.2 ⟨by omega, hm⟩) (fun t => ?_) hstay s
  refine foldl_reads_put (g := fun u => u.byte (padBase c + x)) (mem_coresOfCluster.2 rfl) (fun u => ?_) (fun u d h => byte_zero_stays h) _
  exact (byte_zero (padBase c) 0x400000 _).trans (if_pos (by omega))

end

end Sys2Proof.Machine

/-! APPLY_COMPLETE: what is in force once an image has been applied (R47, R59, R64, R65). -/
namespace Sys2Proof.Machine

theorem and_mod_two_eq_one (a b : Nat) : (a &&& b) % 2 = 1 ↔ a % 2 = 1 ∧ b % 2 = 1 := by
  have hlow := Nat.testBit_and a b 0
  rwa [Nat.testBit_zero, Nat.testBit_zero, Nat.testBit_zero, ← Bool.decide_and, decide_eq_decide] at hlow

/-- A mask less the units of another. -/
theorem testBit_maskLess (a b k : Nat) : (maskLess a b).testBit k = (a.testBit k && !b.testBit k) := by
  unfold maskLess
  induction k generalizing a b with
  | zero =>
    have hle : a &&& b ≤ a := Nat.and_le_left
    have hlow := and_mod_two_eq_one a b
    rw [Nat.testBit_zero, Nat.testBit_zero, Nat.testBit_zero, ← decide_not, ← Bool.decide_and, decide_eq_decide]
    omega
  | succ k ih =>
    have hle : a &&& b ≤ a := Nat.and_le_left
    have hlow := and_mod_two_eq_one a b
    have hhalf : (a - (a &&& b)) / 2 = a / 2 - (a &&& b) / 2 := by omega
    rw [Nat.testBit_succ, hhalf, Nat.and_div_two, ih, Nat.testBit_succ, Nat.testBit_succ]

theorem bit_maskLess (a b k : Nat) : bit (maskLess a b) k = (bit a k && !bit b k) := by
  rw [bit_eq_testBit, bit_eq_testBit, bit_eq_testBit, testBit_maskLess]

/-- Bytes against the same base and of as many change nothing. -/
theorem mergeBytes_self (base old : List Byte) (h : base.length = old.length) : mergeBytes base base old = old := by
  induction base generalizing old with
  | nil => rw [List.eq_nil_of_length_eq_zero h.symm]; rfl
  | cons b rest ih =>
    cases old with
    | nil => exact absurd h (by simp)
    | cons o old =>
      unfold mergeBytes
      rw [if_pos rfl, ih old (Nat.succ.inj h)]

/-- A section of the structure after an image. -/
theorem sect_afterImage (s : State) (i : PendingImg) {ty : Nat} (h1 : 1 ≤ ty) (h7 : ty ≤ 7) :
    (s.afterImage i).sect ty =
      mergeBytes (i.base.getD (ty - 1) []) ((imgSection i.bytes ty).getD (i.base.getD (ty - 1) [])) (s.sect ty) := by
  have hty : ty - 1 + 1 = ty := by omega
  show (applySections i.base s.togus.sections i.bytes).getD (ty - 1) [] = _
  unfold applySections mergeSections
  rw [getD_map_range _ _ (by omega), getD_map_range _ _ (by omega), hty]
  rfl

section
variable (s : State) (p : Nat) (i : PendingImg)

/-- The clusters that join or leave. -/
def State.movedClusters : Nat := s.clusterMask p ^^^ (s.afterImage i).clusterMask p

/-- The channels that leave. -/
def State.releasedChans : Nat := maskLess (s.chanMask p) ((s.afterImage i).chanMask p)

/-- Departing LLM units and regions are given up, and the sections are in force. -/
def State.imageLeft : State :=
  let gone := maskLess (s.llmMask p) ((s.afterImage i).llmMask p)
  s.leaveRegions ((s.leaveLlm p gone (s.llmCacheMask p &&& gone != 0)).withSections (s.afterImage i).togus.sections) p

/-- A core's scratchpad becomes native, and is zeroed. -/
def State.makeNative (s : State) (c : Nat) : State := (s.fset (R.TC_SP_CTL.compat c) 0).zero (padBase c) 0x400000

/-- The scratchpads of moved clusters, and of those that were not native, are zero. -/
def State.imageZeroed : State :=
  (((bitsOf 128 (s.clusterMask p ||| (s.afterImage i).clusterMask p)).flatMap coresOfCluster).filter
    (fun c => s.fon (R.TC_SP_CTL.compat c))).foldl State.makeNative ((s.imageLeft p i).zeroClusters (s.movedClusters p i))

/-- A channel waits to be zeroed. -/
def State.toZero (s : State) (n : Nat) : State := s.setChan n { s.chan n with zeroing := true }

/-- The image is no longer pending, and the channels that leave wait to be zeroed. -/
def State.imageApplied : State :=
  let s3 := (bitsOf 64 (s.releasedChans p i)).foldl State.toZero (s.imageZeroed p i)
  s3.withTogus { s3.togus with
    pending := s3.togus.pending.filter (fun x => x.partition != p), resume := insertNat s3.togus.resume p,
    releasedCh := s3.togus.releasedCh ||| s.releasedChans p i }

/-- The partition is formed, and what the image fixes is shown. -/
def State.imageFormed (s : State) (p : Nat) (has : Nat → Bool) (joined : Nat) : State :=
  let s5 := ((bitsOf 128 joined).flatMap coresOfCluster).foldl State.loadMode (s.formPart has p)
  (List.range 8).foldl State.loadSlice ((List.range 64).foldl State.loadChan (if has 6 then s5.loadTransitHeader else s5))

/-- Its status is cleared, and the counts and the hash follow. -/
def State.imageDone (s : State) (p : Nat) : State :=
  ((((s.fset (R.PRT_STATUS.image p) 0).fset (R.PRT_STATUS.code p) 0).recountPackage).loadHash).raise (.pf 1) (16 + p)

variable {s p i}

theorem exec_applyComplete (h : s.togus.pending.find? (fun x => x.partition == p && x.applying) = some i) :
    exec (.applyComplete p) s = .next
      (((s.imageApplied p i).imageFormed p (fun n => (imgEntry i.bytes n).isSome)
        (maskLess ((s.afterImage i).clusterMask p) (s.clusterMask p))).imageDone p) := by
  show execApplyComplete p s = _
  unfold execApplyComplete
  rw [h]
  rfl

theorem applyComplete_idle (h : ∀ x ∈ s.togus.pending, x.partition = p → x.applying = false) : exec (.applyComplete p) s = .next s := by
  have hnone : s.togus.pending.find? (fun x => x.partition == p && x.applying) = none := by
    refine List.find?_eq_none.2 (fun x hx happlies => ?_)
    simp only [Bool.and_eq_true, beq_iff_eq] at happlies
    rw [h x hx happlies.1] at happlies
    exact absurd happlies.2 (by decide)
  show execApplyComplete p s = _
  unfold execApplyComplete
  rw [hnone]

theorem touches_makeNative (c : Nat) : Touches sansUnits OnForm s (s.makeNative c) := by
  have hhigh : OnForm (A.TC_SP_CTL c) := onForm_of_high (by unfold A.TC_SP_CTL; omega)
  exact (Touches.refl.fset hhigh).units.trans (touches_zero _ _)

theorem withSections_togus (secs : List (List Byte)) : (s.withSections secs).togus = { s.togus with sections := secs } := rfl

/-- The application up to its channels changes the sections of the structure's state only. -/
theorem imageZeroed_togus : (s.imageZeroed p i).togus = { s.togus with sections := (s.afterImage i).togus.sections } ∧
    (CleanRegs s.regs → CleanRegs (s.imageZeroed p i).regs) := by
  have hllm (units : Nat) (cached : Bool) := touches_leaveLlm (s := s) p units cached
  have hrest : ∀ u : State, Touches sansUnits OnForm (u.withSections (s.afterImage i).togus.sections)
      ((((bitsOf 128 (s.clusterMask p ||| (s.afterImage i).clusterMask p)).flatMap coresOfCluster).filter
        (fun c => s.fon (R.TC_SP_CTL.compat c))).foldl State.makeNative
          ((s.leaveRegions (u.withSections (s.afterImage i).togus.sections) p).zeroClusters (s.movedClusters p i))) := fun u =>
    ((touches_leaveRegions p).units.trans (touches_zeroClusters _)).trans (.foldl (fun _ c _ => touches_makeNative c) _)
  constructor
  · refine (hrest _).togus.trans ?_
    rw [withSections_togus, (hllm _ _).togus_of_chans]
  · exact fun hc => (hrest _).clean ((hllm _ _).clean hc)

theorem imageApplied_togus : (s.imageApplied p i).togus =
    { s.togus with
      sections := (s.afterImage i).togus.sections, pending := s.togus.pending.filter (fun x => x.partition != p),
      resume := insertNat s.togus.resume p, releasedCh := s.togus.releasedCh ||| s.releasedChans p i } := by
  have hfold := foldl_reads (f := State.toZero) (g := State.togus) (l := bitsOf 64 (s.releasedChans p i)) (fun _ _ _ => rfl) (s.imageZeroed p i)
  rw [imageZeroed_togus.1] at hfold
  unfold State.imageApplied
  dsimp only
  rw [hfold]
  rfl

theorem imageApplied_regs : (s.imageApplied p i).regs = (s.imageZeroed p i).regs :=
  foldl_reads (f := State.toZero) (g := State.regs) (fun _ _ _ => rfl) _

theorem imageApplied_byte (a : Nat) : (s.imageApplied p i).byte a = (s.imageZeroed p i).byte a :=
  foldl_reads (f := State.toZero) (g := fun u => u.byte a) (fun _ _ _ => rfl) _

/-- A channel that leaves waits to be zeroed. -/
theorem imageApplied_chan {ch : Nat} (hch : ch < 64) (h : bit (s.releasedChans p i) ch = true) :
    ((s.imageApplied p i).chan ch).zeroing = true := by
  refine foldl_reads_put (f := State.toZero) (g := fun u => (u.chan ch).zeroing) (mem_bitsOf.2 ⟨hch, h⟩) (fun t => ?_) (fun t n ht => ?_) _
  · exact congrArg Channel.zeroing (State.chan_setChan_same _ _ _)
  · by_cases hn : n = ch
    · subst hn
      exact congrArg Channel.zeroing (State.chan_setChan_same _ _ _)
    · exact (congrArg Channel.zeroing (State.chan_setChan_other _ _ _ _ hn)).trans ht

/-- The scratchpads of moved clusters are zero. -/
theorem imageZeroed_byte {c x : Nat} (hc : c < 512) (hm : bit (s.movedClusters p i) (c / 4) = true) (hx : x < 0x400000) :
    (s.imageZeroed p i).byte (padBase c + x) = 0 := by
  have hzero := byte_zeroClusters (s := s.imageLeft p i) hc hm hx
  unfold State.imageZeroed
  generalize (s.imageLeft p i).zeroClusters (s.movedClusters p i) = u at hzero
  generalize List.filter _ _ = l
  induction l generalizing u with
  | nil => exact hzero
  | cons d rest ih => exact ih _ (byte_zero_stays hzero)

theorem touches_imageFormed (hp : p < 16) (has : Nat → Bool) (joined : Nat) : Touches sansUnits OnForm s (s.imageFormed p has joined) := by
  unfold State.imageFormed
  refine .trans (.trans (.then_if ?_ touches_loadTransitHeader.units) (.foldl (fun _ n _ => (touches_loadChan n).units) _))
    (.foldl (fun _ n _ => (touches_loadSlice n).units) _)
  exact (touches_formPart has hp).trans (.foldl (fun _ c _ => ((touches_loadMode c).mono (fun _ => onForm_of_onUnits)).units) _)

theorem onlyZeroes_imageFormed (hp : p < 16) (has : Nat → Bool) (joined : Nat) : OnlyZeroes s (s.imageFormed p has joined) := by
  unfold State.imageFormed
  refine (onlyZeroes_formPart has hp).trans (.of_mem (Touches.mem (W := OnForm) ?_))
  refine .trans (.trans (.then_if ?_ touches_loadTransitHeader) (.foldl (fun _ n _ => touches_loadChan n) _))
    (.foldl (fun _ n _ => touches_loadSlice n) _)
  exact .foldl (fun _ c _ => (touches_loadMode c).mono (fun _ => onForm_of_onUnits)) _

/-- The counts and the hash of the package, after the status. -/
theorem touches_imageCounted :
    Touches sansBooks OnPackage ((s.fset (R.PRT_STATUS.image p) 0).fset (R.PRT_STATUS.code p) 0) (s.imageDone p) :=
  (touches_recountPackage.trans touches_loadHash).trans (touches_raise _ _)

theorem touches_imageDone : Touches sansBooks (fun _ => True) s (s.imageDone p) :=
  ((Touches.refl.fset (f := R.PRT_STATUS.image p) (v := 0) trivial).fset (f := R.PRT_STATUS.code p) (v := 0) trivial).trans
    (touches_imageCounted.mono (fun _ _ => trivial))

theorem imageDone_image (hc : CleanRegs s.regs) : (s.imageDone p).fget (R.PRT_STATUS.image p) = 0 := by
  have hnot : ¬ OnPackage (R.PRT_STATUS.image p).off := by
    simp only [OnPackage, R.PRT_STATUS.image, A.PRT_STATUS]
    omega
  rw [touches_imageCounted.fget (cleanRegs_set (cleanRegs_set hc _ _) _ _) hnot, fget_fset_of_apart _ _ _ _ rfl]
  exact fget_fset_self _ _ _ rfl

/-- APPLY_COMPLETE of an image that applies. -/
theorem applyComplete_applies (hp : p < 16) (hc : CleanRegs s.regs)
    (h : s.togus.pending.find? (fun x => x.partition == p && x.applying) = some i) :
    ∃ t, exec (.applyComplete p) s = .next t ∧ t.fget (R.PRT_STATUS.image p) = 0 ∧ t.togus = (s.imageApplied p i).togus ∧
      (∀ c x, c < 512 → bit (s.movedClusters p i) (c / 4) = true → x < 0x400000 → t.byte (padBase c + x) = 0) ∧
      (∀ ch, ch < 64 → bit (s.releasedChans p i) ch = true → (t.chan ch).zeroing = true) := by
  refine ⟨_, exec_applyComplete h, ?_, ?_, fun c x hcore hm hx => ?_, fun ch hch hbit => ?_⟩
  · exact imageDone_image ((touches_imageFormed hp _ _).clean (imageApplied_regs ▸ imageZeroed_togus.2 hc))
  · exact touches_imageDone.units.togus.trans (touches_imageFormed hp _ _).togus
  · rw [touches_imageDone.byte]
    exact (onlyZeroes_imageFormed hp _ _).byte_eq_zero ((imageApplied_byte _).trans (imageZeroed_byte hcore hm hx))
  · rw [touches_imageDone.units.chan, (touches_imageFormed hp _ _).chan, imageApplied_chan hch hbit]

end

/-- Settles O8: the stages of an application are followed one by one; forming the partition leaves the structure's state and the
channels alone, and zeroes memory at most. -/
theorem restructureCommands : Obligations.RestructureCommands := by
  unfold Obligations.RestructureCommands
  dsimp only
  refine ⟨fun s n p i hn hp => ⟨fun hwaits => ?_, fun hall => ?_⟩, fun s p i hp => ⟨fun hwaits hlimit => ?_, restructureWaitExpiry_early⟩,
    fun s p i hp hnodup happlies => ?_, fun s p => applyComplete_idle, fun s g hg => ⟨channelZeroDone_zeroes hg, channelZeroDone_idle⟩⟩
  · exact ⟨_, exec_withdraw hn hp, withdrawImage_withdrawn (s := s.fset R.PRT_CMD.wd_partition p) hwaits⟩
  · rw [exec_withdraw hn hp, withdrawImage_none (s := s.fset R.PRT_CMD.wd_partition p) hall]
  · exact ⟨_, exec_restructureWaitExpiry hwaits hlimit, withdrawImage_withdrawn hwaits⟩
  · obtain ⟨t, hexec, hstatus, htogus, hpads, hchans⟩ := applyComplete_applies hp (cleanRegs_of_nodup hnodup) happlies
    have hsect (ty : Nat) : t.sect ty = (s.afterImage i).sect ty := by
      unfold State.sect
      rw [htogus, imageApplied_togus]
    have hreleased (ch : Nat) (hin : bit (s.chanMask p) ch = true) (hout : bit ((s.afterImage i).chanMask p) ch = false) :
        bit (s.releasedChans p i) ch = true := by
      rw [State.releasedChans, bit_maskLess, hin, hout]
      rfl
    refine ⟨t, hexec, by rw [htogus, imageApplied_togus], by rw [htogus, imageApplied_togus], hstatus, fun ty h1 h7 => ⟨fun new hnew => ?_,
      fun hnone hlen => ?_⟩, hpads, fun ch hch hin hout => ⟨hchans ch hch (hreleased ch hin hout), ?_⟩⟩
    · rw [hsect, sect_afterImage s i h1 h7, hnew]
      rfl
    · rw [hsect, sect_afterImage s i h1 h7, hnone]
      exact mergeBytes_self _ _ hlen
    · have hbit := hreleased ch hin hout
      rw [htogus, imageApplied_togus]
      rw [bit_eq_testBit] at hbit ⊢
      rw [Nat.testBit_or, hbit, Bool.or_true]

end Sys2Proof.Machine

/-! What retirement of P cores and solver engines, and the reset of clusters and stacks, leave alone (R493, R494, R498). -/
namespace Sys2Proof.Machine

/-- The state without its books, solver engines and operations. -/
def sansSolves (s : State) : State := { sansBooks s with ses := [], ops := [], endCount := 0, resumes := [] }

/-- And without what its units hold. -/
def sansLost (s : State) : State := { sansUnits s with ses := [], ops := [], endCount := 0, resumes := [] }

section
variable {W : Nat → Prop} {s t : State}

theorem Touches.solves (h : Touches sansBooks W s t) : Touches sansSolves W s t := h.weaken (fun _ => rfl)

theorem Touches.lost (h : Touches sansUnits W s t) : Touches sansLost W s t := h.weaken (fun _ => rfl)

theorem Touches.lost_of_solves (h : Touches sansSolves W s t) : Touches sansLost W s t := h.weaken (fun _ => rfl)

theorem Touches.pcore (h : Touches sansBooks W s t) (c : Nat) : t.pcore c = s.pcore c := by
  have hcores : (sansBooks t).pcores = (sansBooks s).pcores := by rw [h.rest]
  exact congrArg (assocGet (fun _ => Jumbe.reset) · c) hcores

theorem Touches.se (h : Touches sansBooks W s t) (n : Nat) : t.se n = s.se n := by
  have hses : (sansBooks t).ses = (sansBooks s).ses := by rw [h.rest]
  exact congrArg (assocGet (fun _ => SeState.reset) · n) hses

theorem Touches.mem_of_solves (h : Touches sansSolves W s t) : t.mem = s.mem :=
  calc t.mem = (sansSolves t).mem := rfl
    _ = (sansSolves s).mem := by rw [h.rest]

theorem Touches.tcores_of_solves (h : Touches sansSolves W s t) : t.tcores = s.tcores :=
  calc t.tcores = (sansSolves t).tcores := rfl
    _ = (sansSolves s).tcores := by rw [h.rest]

theorem Touches.pcores_of_solves (h : Touches sansSolves W s t) : t.pcores = s.pcores :=
  calc t.pcores = (sansSolves t).pcores := rfl
    _ = (sansSolves s).pcores := by rw [h.rest]

theorem Touches.ops (h : Touches sansUnits W s t) : t.ops = s.ops :=
  calc t.ops = (sansUnits t).ops := rfl
    _ = (sansUnits s).ops := by rw [h.rest]

/-! P cores. -/

theorem partOfPcore_lt {c p : Nat} (h : s.partOfPcore c = some p) : p < 16 := findPart_lt (f := fun p => bit (s.pcoreMask p) c) h

theorem retirePcore_eq (c : Nat) :
    s.retirePcore c = ((((s.reportOpen (srcPcore c) codeCoreRetired 2).setPcore c { Jumbe.reset with retired := true }).advanceEpochs
      [.pcore c]).recount (s.partOfPcore c)) := rfl

theorem touches_retirePcoreBooks (c : Nat) (p : Option Nat) (hp : ∀ q, p = some q → q < 16) :
    Touches sansBooks OnRetire s ((s.advanceEpochs [.pcore c]).recount p) :=
  (touches_advanceEpochs _).trans ((touches_recount hp).mono (fun _ => .inr))

theorem touches_setPcore (c : Nat) (v : Jumbe) : Touches sansUnits W s (s.setPcore c v) := .of_regs rfl rfl

theorem touches_retirePcore (c : Nat) : Touches sansUnits OnRetire s (s.retirePcore c) := by
  rw [retirePcore_eq]
  exact (((touches_reportOpen _ _ _).mono (fun _ => onRetire_of_onLost)).units.trans (touches_setPcore c _)).trans
    (touches_retirePcoreBooks c _ (fun _ hq => partOfPcore_lt hq)).units

theorem retirePcore_mem (c : Nat) : (s.retirePcore c).mem = s.mem := by
  rw [retirePcore_eq, (touches_retirePcoreBooks c _ (fun _ hq => partOfPcore_lt hq)).mem]
  exact (touches_reportOpen _ _ _).mem

theorem pcore_retirePcore (c j : Nat) :
    (s.retirePcore c).pcore j = if c = j then { Jumbe.reset with retired := true } else s.pcore j := by
  rw [retirePcore_eq, (touches_retirePcoreBooks c _ (fun _ hq => partOfPcore_lt hq)).pcore]
  split
  · next h => subst h; exact State.pcore_setPcore_same _ _ _
  · next h => rw [State.pcore_setPcore_other _ _ _ _ h, (touches_reportOpen _ _ _).pcore]

theorem tcore_retirePcore (c j : Nat) : (s.retirePcore c).tcore j = s.tcore j := by
  rw [retirePcore_eq, (touches_retirePcoreBooks c _ (fun _ hq => partOfPcore_lt hq)).tcore]
  exact (touches_reportOpen _ _ _).tcore j

/-! Solver engines. -/

theorem touches_setOp (k : Nat) (o : Option Op) : Touches sansSolves W s (s.setOp k o) := .of_regs rfl rfl

/-- The state with other solves that wait for an engine. -/
def State.withResumes (s : State) (l : List (Nat × List Byte × Nat)) : State := { s with resumes := l }

theorem touches_withResumes (l : List (Nat × List Byte × Nat)) : Touches sansSolves W s (s.withResumes l) := .of_regs rfl rfl

theorem touches_onOp (k : Nat) (f : Op → Op) : Touches sansSolves W s (s.onOp k f) := by
  unfold State.onOp
  split
  · exact .of_regs rfl rfl
  · exact .refl

theorem touches_flagOp (k flags : Nat) : Touches sansSolves W s (s.flagOp k flags) := touches_onOp k _

theorem touches_endOp (k status : Nat) : Touches sansSolves W s (s.endOp k status) := by
  unfold State.endOp State.closeOp
  split
  · split
    · exact .refl
    · exact .of_regs rfl rfl
  · exact .refl

theorem touches_onSolve (n : Nat) (f : Solve → Solve) : Touches sansSolves W s (s.onSolve n f) := .of_regs rfl rfl

theorem touches_solveClock (n : Nat) : Touches sansSolves OnUnits s (s.solveClock n) := by
  unfold State.solveClock
  split
  · exact .refl
  · refine (touches_onSolve n _).trans (Touches.fset .refl ?_).solves
    simp only [OnUnits, R.SLV_BUSY_CYC.busy_cycles, A.SLV_BUSY_CYC]
    omega

theorem touches_shrinkSolves (f : Solve → Bool) : Touches sansSolves W s (s.shrinkSolves f) :=
  .foldl (fun _ n _ => touches_onSolve n _) s

/-- The solve is lost, and the operation it belongs to waits for another engine or ends. -/
theorem touches_loseSolve (n : Nat) : Touches sansSolves OnUnits s (s.loseSolve n) := by
  have htag : OnUnits (A.SLV_TAG n) := by unfold OnUnits A.SLV_TAG; omega
  have hstatus : OnUnits (A.SLV_STATUS n) := by unfold OnUnits A.SLV_STATUS; omega
  unfold State.loseSolve
  split
  · exact .refl
  · next v _ =>
    dsimp only
    have hshown : Touches sansSolves OnUnits s
        ((((s.solveClock n).shrinkSolves (fun w => w.part == v.part && leAt w.block 0x88 8 == leAt v.block 0x88 8)).fset
          (R.SLV_TAG.valid n) 0).fset (R.SLV_STATUS.stop n) 11) :=
      ((touches_solveClock n).trans (touches_shrinkSolves _)).trans ((Touches.refl.fset htag).fset hstatus).solves
    generalize ((State.fset _ (R.SLV_TAG.valid n) 0).fset (R.SLV_STATUS.stop n) 11) = u at hshown ⊢
    split
    · exact .then_if hshown (touches_withResumes _)
    · split
      · exact hshown.trans ((touches_setOp _ _).trans (touches_flagOp _ _))
      · exact hshown.trans (((touches_onOp _ _).trans (touches_flagOp _ _)).trans (touches_endOp _ _))

theorem partOfSe_lt {n p : Nat} (h : s.partOfSe n = some p) : p < 16 := findPart_lt (f := fun p => bit (s.seMask p) n) h

theorem retireSe_eq (n : Nat) :
    s.retireSe n = (((((s.loseSolve n).reportOpen (srcSe n) codeSeRetired 2).setSe n { SeState.reset with retired := true }).advanceEpochs
      [.se n]).recount (s.partOfSe n)) := rfl

theorem touches_retireSeBooks (n : Nat) (p : Option Nat) (hp : ∀ q, p = some q → q < 16) :
    Touches sansBooks OnRetire s ((s.advanceEpochs [.se n]).recount p) :=
  (touches_advanceEpochs _).trans ((touches_recount hp).mono (fun _ => .inr))

theorem touches_setSe (n : Nat) (v : SeState) : Touches sansSolves W s (s.setSe n v) := .of_regs rfl rfl

theorem touches_retireSe (n : Nat) : Touches sansSolves OnRetire s (s.retireSe n) := by
  rw [retireSe_eq]
  exact ((((touches_loseSolve n).mono (fun _ => .inl)).trans ((touches_reportOpen _ _ _).mono (fun _ => onRetire_of_onLost)).solves).trans
    (touches_setSe n _)).trans (touches_retireSeBooks n _ (fun _ hq => partOfSe_lt hq)).solves

/-- The engine is out of service. -/
theorem se_retireSe (n : Nat) : ((s.retireSe n).se n).retired = true := by
  rw [retireSe_eq, (touches_retireSeBooks n _ (fun _ hq => partOfSe_lt hq)).se, State.se_setSe_same]

end

end Sys2Proof.Machine

/-! The reset of T-clusters (R493, R494). -/
namespace Sys2Proof.Machine

section
variable {W : Nat → Prop} {s t : State}

theorem freshCore_retired (b : Bool) : (freshCore b).cc.retired = b := rfl

/-- Posts, messages and the staging buffer of a cluster are cleared. -/
theorem touches_clearCluster (k : Nat) : Touches sansUnits W s (s.clearCluster k) := .of_regs rfl rfl

theorem tcore_clearCluster (k c : Nat) : (s.clearCluster k).tcore c = s.tcore c := rfl

theorem touches_resetCores (l : List Nat) : Touches sansUnits OnUnits s (l.foldl State.resetTcore s) :=
  .foldl (fun _ c _ => touches_resetTcore c) s

theorem resetCluster_eq (k : Nat) : s.resetCluster k =
    (((coresOfCluster k).foldl State.resetTcore s).clearCluster k).advanceEpochs ((coresOfCluster k).map Who.tcore) := rfl

theorem touches_resetCluster (k : Nat) : Touches sansUnits OnUnits s (s.resetCluster k) := by
  rw [resetCluster_eq]
  exact ((touches_resetCores _).trans (touches_clearCluster k)).trans (touches_advanceEpochs _).units

theorem tcore_resetCores (l : List Nat) (c : Nat) :
    (l.foldl State.resetTcore s).tcore c = if c ∈ l then freshCore (s.tcore c).cc.retired else s.tcore c := by
  induction l generalizing s with
  | nil => rfl
  | cons d rest ih =>
    rw [List.foldl_cons, ih, tcore_resetTcore]
    by_cases hd : d = c
    · subst hd
      rw [if_pos rfl, freshCore_retired, ite_self, if_pos List.mem_cons_self]
    · rw [if_neg hd]
      simp only [List.mem_cons, Ne.symm hd, false_or]

theorem tcore_resetCluster (k c : Nat) :
    (s.resetCluster k).tcore c = if c / 4 = k then freshCore (s.tcore c).cc.retired else s.tcore c := by
  rw [resetCluster_eq, (touches_advanceEpochs (W := OnUnits) _).tcore, tcore_clearCluster, tcore_resetCores]
  simp only [mem_coresOfCluster]

theorem byte_clearCluster (k a : Nat) :
    (s.clearCluster k).byte a = if stagingBufBase k ≤ a ∧ a < stagingBufBase k + 0x100000 then 0 else s.byte a :=
  byte_zero (s := s) (stagingBufBase k) 0x100000 a

theorem onlyZeroes_clearCluster {k : Nat} (hk : k < 128) : OnlyZeroes s (s.clearCluster k) := by
  intro a
  rw [byte_clearCluster]
  unfold stagingBufBase
  refine ⟨?_, fun ha => if_neg (by omega)⟩
  split
  · exact .inr rfl
  · exact .inl rfl

theorem onlyZeroes_resetCluster {k : Nat} (hk : k < 128) : OnlyZeroes s (s.resetCluster k) := by
  rw [resetCluster_eq]
  refine .trans (.trans (.foldl (fun t c hc => onlyZeroes_resetTcore ?_) s) (onlyZeroes_clearCluster hk)) (.of_mem (touches_advanceEpochs (W := OnUnits) _).mem)
  have hc := mem_coresOfCluster.1 hc
  omega

/-- What a reset leaves in a cluster: fresh cores, zero scratchpads and staging buffer, no posts and no parked messages. -/
structure ClusterCleared (s t : State) (k : Nat) : Prop where
  core : ∀ c, c / 4 = k → t.tcore c = freshCore (s.tcore c).cc.retired
  pad : ∀ c, c / 4 = k → ∀ a, a < 0x400000 → t.byte (padBase c + a) = 0
  buffer : ∀ a, a < 0x100000 → t.byte (stagingBufBase k + a) = 0
  posts : ∀ e ∈ t.posts, e.1 / 64 ≠ k
  parked : ∀ m ∈ t.parked, m.cluster ≠ k

/-- It stays so where cores stay, bytes are zeroed at most, and posts and messages are dropped at most. -/
theorem ClusterCleared.mono {u : State} {k : Nat} (h : ClusterCleared s t k) (hcore : ∀ c, c / 4 = k → u.tcore c = freshCore (t.tcore c).cc.retired)
    (hz : OnlyZeroes t u) (hposts : u.posts ⊆ t.posts) (hparked : u.parked ⊆ t.parked) : ClusterCleared s u k :=
  ⟨fun c hc => by rw [hcore c hc, h.core c hc, freshCore_retired], fun c hc a ha => hz.byte_eq_zero (h.pad c hc a ha),
    fun a ha => hz.byte_eq_zero (h.buffer a ha), fun e he => h.posts e (hposts he), fun m hm => h.parked m (hparked hm)⟩

/-- And the cores that were in service before are those that were in service earlier still. -/
theorem ClusterCleared.of_retired {u : State} {k : Nat} (h : ClusterCleared t u k)
    (hret : ∀ c, (t.tcore c).cc.retired = (s.tcore c).cc.retired) : ClusterCleared s u k :=
  ⟨fun c hc => by rw [h.core c hc, hret c], h.pad, h.buffer, h.posts, h.parked⟩

/-- The posts and the parked messages of the package. -/
def State.mail (s : State) : Assoc Post × List Parked := (s.posts, s.parked)

theorem posts_eq_mail : s.posts = s.mail.1 := rfl

theorem parked_eq_mail : s.parked = s.mail.2 := rfl

theorem Touches.mail (h : Touches sansBooks W s t) : t.mail = s.mail :=
  calc t.mail = (sansBooks t).mail := rfl
    _ = (sansBooks s).mail := by rw [h.rest]

theorem mail_coreCleared (c : Nat) : (s.coreCleared c).mail = s.mail := rfl

theorem mail_resetTcore (c : Nat) : (s.resetTcore c).mail = s.mail := by
  rw [resetTcore_eq, (touches_coreWidth c).mail, mail_coreCleared]

/-- Without those of a cluster. -/
def mailWithout (k : Nat) (m : Assoc Post × List Parked) : Assoc Post × List Parked :=
  (m.1.filter (fun e => e.1 / 64 != k), m.2.filter (fun x => x.cluster != k))

theorem mail_clearCluster (k : Nat) : (s.clearCluster k).mail = mailWithout k s.mail := rfl

theorem mail_resetCores (l : List Nat) : (l.foldl State.resetTcore s).mail = s.mail :=
  foldl_reads (fun _ c _ => mail_resetTcore c) s

theorem mail_resetCluster (k : Nat) : (s.resetCluster k).mail = mailWithout k s.mail := by
  rw [resetCluster_eq, (touches_advanceEpochs (W := OnUnits) _).mail, mail_clearCluster, mail_resetCores]

theorem posts_resetCluster (k : Nat) : (s.resetCluster k).posts = s.posts.filter (fun e => e.1 / 64 != k) := by
  rw [posts_eq_mail, mail_resetCluster]
  rfl

theorem parked_resetCluster (k : Nat) : (s.resetCluster k).parked = s.parked.filter (fun m => m.cluster != k) := by
  rw [parked_eq_mail, mail_resetCluster]
  rfl

/-- A scratchpad is zero once its core has been reset. -/
theorem byte_resetCores {l : List Nat} {c a : Nat} (hc : c ∈ l) (ha : a < 0x400000) : (l.foldl State.resetTcore s).byte (padBase c + a) = 0 := by
  refine foldl_reads_put (g := fun u => u.byte (padBase c + a)) hc (fun t => ?_) (fun t d h => ?_) s
  · exact (byte_resetTcore c _).trans (if_pos (by omega))
  · rw [byte_resetTcore]
    split
    · rfl
    · exact h

theorem resetCluster_cleared {k : Nat} (hk : k < 128) : ClusterCleared s (s.resetCluster k) k := by
  have hepochs (a : Nat) : (s.resetCluster k).byte a = (((coresOfCluster k).foldl State.resetTcore s).clearCluster k).byte a := by
    rw [resetCluster_eq, (touches_advanceEpochs (W := OnUnits) _).byte]
  refine ⟨fun c hc => by rw [tcore_resetCluster, if_pos hc], fun c hc a ha => ?_, fun a ha => ?_, fun e he => ?_, fun m hm => ?_⟩
  · rw [hepochs]
    exact (onlyZeroes_clearCluster hk).byte_eq_zero (byte_resetCores (mem_coresOfCluster.2 hc) ha)
  · rw [hepochs, byte_clearCluster, if_pos (by omega)]
  · rw [posts_resetCluster] at he
    simpa using (List.mem_filter.1 he).2
  · rw [parked_resetCluster] at hm
    simpa using (List.mem_filter.1 hm).2

/-- The reset of another cluster, or of the same again, leaves a cleared one so. -/
theorem ClusterCleared.resetCluster {k j : Nat} (h : ClusterCleared s t k) (hj : j < 128) : ClusterCleared s (t.resetCluster j) k := by
  refine h.mono (fun c hc => ?_) (onlyZeroes_resetCluster hj) ?_ ?_
  · rw [tcore_resetCluster]
    split
    · rfl
    · rw [h.core c hc, freshCore_retired]
  · rw [posts_resetCluster]
    exact List.filter_subset_self _
  · rw [parked_resetCluster]
    exact List.filter_subset_self _

theorem retired_resetCluster (j c : Nat) : ((s.resetCluster j).tcore c).cc.retired = (s.tcore c).cc.retired := by
  rw [tcore_resetCluster]
  split
  · rfl
  · rfl

theorem ClusterCleared.foldl {k : Nat} {l : List Nat} (h : ClusterCleared s t k) (hl : ∀ j ∈ l, j < 128) :
    ClusterCleared s (l.foldl State.resetCluster t) k := by
  induction l generalizing t with
  | nil => exact h
  | cons j rest ih =>
    rw [List.foldl_cons]
    exact ih (h.resetCluster (hl j List.mem_cons_self)) (fun i hi => hl i (List.mem_cons_of_mem j hi))

/-- Every cluster of the list is cleared. -/
theorem foldl_resetCluster_cleared {k : Nat} {l : List Nat} (hk : k ∈ l) (hl : ∀ j ∈ l, j < 128) :
    ClusterCleared s (l.foldl State.resetCluster s) k := by
  induction l generalizing s with
  | nil => cases hk
  | cons j rest ih =>
    have hrest : ∀ i ∈ rest, i < 128 := fun i hi => hl i (List.mem_cons_of_mem j hi)
    rw [List.foldl_cons]
    obtain rfl | hk := List.mem_cons.1 hk
    · exact (resetCluster_cleared (hl k List.mem_cons_self)).foldl hrest
    · exact (ih hk hrest).of_retired (fun c => retired_resetCluster j c)

theorem touches_resetClusters (l : List Nat) : Touches sansUnits OnUnits s (l.foldl State.resetCluster s) :=
  .foldl (fun _ k _ => touches_resetCluster k) s

theorem onlyZeroes_resetClusters {l : List Nat} (hl : ∀ j ∈ l, j < 128) : OnlyZeroes s (l.foldl State.resetCluster s) :=
  .foldl (fun _ k hk => onlyZeroes_resetCluster (hl k hk)) s

/-! The reset of a stack. -/

/-- A unit in LLM mode is zeroed. -/
def State.zeroLlm (s : State) (u : Nat) : State := if s.llmCached u then s else s.zero (llmBase u) 0x2000000

/-- The slice's lines are gone. -/
def State.dropLines (s : State) (n : Nat) : State :=
  { s.setWcbOf n [] with dir := s.dir.filter (fun e =>
      !(decide (llmBase (8 * n) ≤ 64 * e.1) && decide (64 * e.1 < llmBase (8 * n + 8)))) }

theorem resetStack_eq (n : Nat) : s.resetStack n =
    ((List.range 8).foldl (fun s u => s.zeroLlm (8 * n + u)) (((List.range 16).map (fun i => 16 * n + i)).foldl State.resetCluster s)).dropLines n := rfl

theorem touches_zeroLlm (u : Nat) : Touches sansUnits W s (s.zeroLlm u) := by
  unfold State.zeroLlm
  split
  · exact .refl
  · exact touches_zero _ _

theorem touches_dropLines (n : Nat) : Touches sansUnits W s (s.dropLines n) := .of_regs rfl rfl

theorem onlyZeroes_dropLines (n : Nat) : OnlyZeroes s (s.dropLines n) := .of_mem rfl

theorem touches_resetStack (n : Nat) : Touches sansUnits OnUnits s (s.resetStack n) := by
  rw [resetStack_eq]
  exact ((touches_resetClusters _).trans (.foldl (fun _ u _ => touches_zeroLlm (8 * n + u)) _)).trans (touches_dropLines n)

theorem onlyZeroes_zeroLlm {u : Nat} (hu : u < 64) : OnlyZeroes s (s.zeroLlm u) := by
  unfold State.zeroLlm
  split
  · exact .refl
  · exact .zero (by unfold llmBase; omega)

theorem onlyZeroes_zeroSlice {n : Nat} (hn : n < 8) : OnlyZeroes s ((List.range 8).foldl (fun s u => s.zeroLlm (8 * n + u)) s) := by
  refine .foldl (fun t u hu => onlyZeroes_zeroLlm ?_) s
  have hu := List.mem_range.1 hu
  omega

theorem mem_stackClusters {n k : Nat} : k ∈ (List.range 16).map (fun i => 16 * n + i) ↔ k / 16 = n := by
  simp only [List.mem_map, List.mem_range]
  constructor
  · rintro ⟨i, hi, rfl⟩
    omega
  · intro hk
    exact ⟨k % 16, by omega, by omega⟩

theorem zeroLlm_tcore_mail (u : Nat) : (s.zeroLlm u).tcores = s.tcores ∧ (s.zeroLlm u).mail = s.mail := by
  unfold State.zeroLlm
  split <;> exact ⟨rfl, rfl⟩

theorem resetStack_cleared {n k : Nat} (hn : n < 8) (hk : k / 16 = n) : ClusterCleared s (s.resetStack n) k := by
  have hl : ∀ j ∈ (List.range 16).map (fun i => 16 * n + i), j < 128 := by
    intro j hj
    have hj := mem_stackClusters.1 hj
    omega
  have hclusters := foldl_resetCluster_cleared (s := s) (mem_stackClusters.2 hk) hl
  rw [resetStack_eq]
  generalize ((List.range 16).map (fun i => 16 * n + i)).foldl State.resetCluster s = t at hclusters
  have hcores : ((List.range 8).foldl (fun s u => s.zeroLlm (8 * n + u)) t).tcores = t.tcores :=
    foldl_reads (fun _ u _ => (zeroLlm_tcore_mail (8 * n + u)).1) t
  have hmail : ((List.range 8).foldl (fun s u => s.zeroLlm (8 * n + u)) t).mail = t.mail :=
    foldl_reads (fun _ u _ => (zeroLlm_tcore_mail (8 * n + u)).2) t
  have hz := onlyZeroes_zeroSlice (s := t) hn
  generalize (List.range 8).foldl (fun s u => s.zeroLlm (8 * n + u)) t = u at hcores hmail hz
  have hdrop : (u.dropLines n).tcores = t.tcores ∧ (u.dropLines n).mail = t.mail := ⟨hcores, hmail⟩
  have hz : OnlyZeroes t (u.dropLines n) := hz.trans (onlyZeroes_dropLines n)
  obtain ⟨hcores, hmail⟩ := hdrop
  have hposts : (u.dropLines n).posts = t.posts := congrArg Prod.fst hmail
  have hparked : (u.dropLines n).parked = t.parked := congrArg Prod.snd hmail
  refine hclusters.mono (fun c hc => ?_) hz (by rw [hposts]; exact List.Subset.refl _) (by rw [hparked]; exact List.Subset.refl _)
  have hcore : (u.dropLines n).tcore c = t.tcore c := congrArg (assocGet (fun _ => TCore.reset) · c) hcores
  rw [hcore, hclusters.core c hc, freshCore_retired]

theorem onlyZeroes_resetStack {n : Nat} (hn : n < 8) : OnlyZeroes s (s.resetStack n) := by
  have hl : ∀ j ∈ (List.range 16).map (fun i => 16 * n + i), j < 128 := by
    intro j hj
    have hj := mem_stackClusters.1 hj
    omega
  rw [resetStack_eq]
  exact ((onlyZeroes_resetClusters hl).trans (onlyZeroes_zeroSlice hn)).trans (onlyZeroes_dropLines n)

/-- Which units work as cache is the structure's alone. -/
theorem llmCached_congr (h : t.togus = s.togus) (u : Nat) : t.llmCached u = s.llmCached u :=
  calc t.llmCached u = (State.reset.withTogus t.togus).llmCached u := rfl
    _ = (State.reset.withTogus s.togus).llmCached u := by rw [h]
    _ = s.llmCached u := rfl

theorem byte_zeroLlm_stays {j x : Nat} (h : s.byte x = 0) : (s.zeroLlm j).byte x = 0 := by
  unfold State.zeroLlm
  split
  · exact h
  · exact byte_zero_stays h

/-- A unit of the list that is in LLM mode is zero. -/
theorem byte_zeroLlm_foldl {l : List Nat} {u a : Nat} (hu : u ∈ l) (hmode : s.llmCached u = false) (ha : a < 0x2000000) :
    (l.foldl State.zeroLlm s).byte (llmBase u + a) = 0 := by
  induction l generalizing s with
  | nil => cases hu
  | cons j rest ih =>
    rw [List.foldl_cons]
    obtain rfl | hu := List.mem_cons.1 hu
    · have hzero : (s.zeroLlm u).byte (llmBase u + a) = 0 := by
        unfold State.zeroLlm
        rw [hmode, if_neg (by decide), byte_zero, if_pos (by omega)]
      generalize s.zeroLlm u = t at hzero
      clear ih hmode
      induction rest generalizing t with
      | nil => exact hzero
      | cons j rest ih => exact ih (List.mem_cons_self) _ (byte_zeroLlm_stays hzero)
    · exact ih hu ((llmCached_congr (touches_zeroLlm (W := OnUnits) j).togus u).trans hmode)

theorem byte_dropLines (n x : Nat) : (s.dropLines n).byte x = s.byte x := rfl

/-- The stack's units in LLM mode are zero. -/
theorem resetStack_llm {n u a : Nat} (hu : u / 8 = n) (hmode : s.llmCached u = false) (ha : a < 0x2000000) :
    (s.resetStack n).byte (llmBase u + a) = 0 := by
  have hclusters := (touches_resetClusters (s := s) ((List.range 16).map (fun i => 16 * n + i))).togus
  rw [resetStack_eq, byte_dropLines]
  generalize ((List.range 16).map (fun i => 16 * n + i)).foldl State.resetCluster s = t at hclusters
  rw [← List.foldl_map (f := fun i => 8 * n + i) (g := State.zeroLlm)]
  exact byte_zeroLlm_foldl (List.mem_map.2 ⟨u % 8, List.mem_range.2 (by omega), by omega⟩) ((llmCached_congr hclusters u).trans hmode) ha

end

end Sys2Proof.Machine

/-! Operations that a reset ends, and those that are left to run (R442, R493, R499). -/
namespace Sys2Proof.Machine

section
variable {s t : State} {j : Nat} {o : Op}

/-! One operation after a change of the slots. -/

theorem op_onOp_same (h : s.op j = some o) (f : Op → Op) : (s.onOp j f).op j = some (f o) := by
  unfold State.onOp
  rw [h]
  exact State.op_setOp_same _ _ _

theorem op_onOp_other {k : Nat} (f : Op → Op) (h : k ≠ j) : (s.onOp k f).op j = s.op j := by
  unfold State.onOp
  split
  · exact State.op_setOp_other _ _ _ _ h
  · rfl

theorem op_flagOp_same (h : s.op j = some o) (flags : Nat) : (s.flagOp j flags).op j = some { o with classFlags := o.classFlags ||| flags } :=
  op_onOp_same h _

theorem op_flagOp_other {k : Nat} (flags : Nat) (h : k ≠ j) : (s.flagOp k flags).op j = s.op j := op_onOp_other _ h

/-- An operation whose work has ended with a status, as the `n`-th. -/
def Op.endedAs (o : Op) (status n : Nat) : Op :=
  { o with status := some status, witness := if noWitness status then 0 else o.witness, parts := [], partsTile := none, ended := n }

/-- An operation that ran ends with the status. -/
theorem op_endOp_live (h : s.op j = some o) (hlive : o.status = none) (status : Nat) :
    (s.endOp j status).op j = some (o.endedAs status (s.endCount + 1)) := by
  unfold State.endOp State.closeOp
  rw [h]
  dsimp only
  rw [hlive, if_neg (by decide)]
  exact assocGet_set_same (fun _ => none) s.ops j (some (o.endedAs status (s.endCount + 1)))

/-- One that has ended keeps its status. -/
theorem endOp_ended (h : s.op j = some o) (hended : o.status ≠ none) (status : Nat) : s.endOp j status = s := by
  unfold State.endOp State.closeOp
  rw [h]
  dsimp only
  rw [if_pos (Option.isSome_iff_ne_none.2 hended)]

theorem op_endOp_other {k : Nat} (status : Nat) (h : k ≠ j) : (s.endOp k status).op j = s.op j := by
  rcases hk : s.op k with _ | o
  · unfold State.endOp State.closeOp
    rw [hk]
  · by_cases hended : o.status = none
    · unfold State.endOp State.closeOp
      rw [hk]
      dsimp only
      rw [hended, if_neg (by decide)]
      exact assocGet_set_other (fun _ => none) s.ops k j (some (o.endedAs status (s.endCount + 1))) h
    · rw [endOp_ended hk hended]

/-- The operation has ended PARTIAL with the hard flag, with the progress told. -/
def EndedPartial (o : Op) (progress : Word) (x : Option Op) : Prop :=
  ∃ y, x = some y ∧ y.status = some stPartial ∧ y.progress = progress ∧ y.classFlags = o.classFlags ||| flagHard ∧ y.desc = o.desc

theorem endedPartial_live (h : s.op j = some o) (hlive : o.status = none) : EndedPartial o o.progress (((s.flagOp j flagHard).endOp j stPartial).op j) :=
  ⟨_, op_endOp_live (op_flagOp_same h flagHard) hlive stPartial, rfl, rfl, rfl, rfl⟩

/-- A second end of the same kind changes nothing that is told of it. -/
theorem EndedPartial.again {progress : Word} (h : EndedPartial o progress (s.op j)) :
    EndedPartial o progress (((s.flagOp j flagHard).endOp j stPartial).op j) := by
  obtain ⟨y, hy, hstatus, hprogress, hflags, hdesc⟩ := h
  rw [endOp_ended (op_flagOp_same hy flagHard) (by rw [hstatus]; exact Option.some_ne_none _), op_flagOp_same hy]
  refine ⟨_, rfl, hstatus, hprogress, ?_, hdesc⟩
  rw [hflags, Nat.lor_assoc, Nat.or_self]

/-- What a change of one operation of a list leaves of an operation: the change, where the list names it. -/
theorem op_foldl {f : State → Nat → State} {P : Option Op → Prop} {l : List Nat} (hother : ∀ t k, k ≠ j → (f t k).op j = t.op j)
    (hput : ∀ t, t.op j = s.op j → P ((f t j).op j)) (hstay : ∀ t, P (t.op j) → P ((f t j).op j)) (hj : j ∈ l) : P ((l.foldl f s).op j) := by
  obtain ⟨before, after, rfl, hnot⟩ := List.eq_append_cons_of_mem hj
  rw [List.foldl_append, List.foldl_cons]
  have hbefore : (before.foldl f s).op j = s.op j :=
    foldl_reads (g := fun u => u.op j) (fun t k hk => hother t k (fun heq => hnot (heq ▸ hk))) s
  have hP := hput _ hbefore
  generalize f (before.foldl f s) j = u at hP
  clear hbefore hj hput
  induction after generalizing u with
  | nil => exact hP
  | cons k rest ih =>
    refine ih _ ?_
    by_cases hk : k = j
    · subst hk
      exact hstay u hP
    · rw [hother u k hk]
      exact hP

theorem op_foldl_other {f : State → Nat → State} {l : List Nat} (hother : ∀ t k, k ≠ j → (f t k).op j = t.op j) (hj : j ∉ l) :
    (l.foldl f s).op j = s.op j := foldl_reads (g := fun u => u.op j) (fun t k hk => hother t k (fun heq => hj (heq ▸ hk))) s

theorem mem_opSlots (h : s.op j = some o) : j ∈ s.opSlots := by
  by_contra hnot
  have hunlisted : s.op j = none := assocGet_unlisted _ s.ops j (fun e he hek => hnot (List.mem_map.2 ⟨e, he, hek⟩))
  rw [hunlisted] at h
  cases h

theorem mem_liveOps (h : s.op j = some o) (f : Op → Bool) : j ∈ s.liveOps f ↔ o.status = none ∧ f o = true := by
  unfold State.liveOps
  rw [List.mem_filter, h]
  dsimp only
  rw [Bool.and_eq_true, Op.live, Option.isNone_iff_eq_none]
  exact and_iff_right (mem_opSlots h)

/-! Operations of a partition that is reset. -/

theorem endPartOps_other (p : Nat) (h : s.op j = some o) (hnot : o.status ≠ none ∨ o.partition ≠ p) :
    (s.endPartOps p stPartial flagHard).op j = some o := by
  unfold State.endPartOps
  rw [op_foldl_other (fun t k hk => (op_endOp_other _ hk).trans (op_flagOp_other _ hk)), h]
  rw [mem_liveOps h]
  rintro ⟨hlive, hpart⟩
  obtain hnot | hnot := hnot
  · exact hnot hlive
  · exact hnot (eq_of_beq hpart)

theorem endPartOps_partial (p : Nat) (h : s.op j = some o) (hlive : o.status = none) (hpart : o.partition = p) :
    EndedPartial o o.progress ((s.endPartOps p stPartial flagHard).op j) := by
  refine op_foldl (fun t k hk => (op_endOp_other _ hk).trans (op_flagOp_other _ hk)) (fun t ht => endedPartial_live (ht.trans h) hlive)
    (fun t ht => ht.again) ((mem_liveOps h _).2 ⟨hlive, ?_⟩)
  rw [hpart]
  exact beq_self_eq_true p

/-! COLLECTIVE operations of a cluster that is reset. -/

/-- A COLLECTIVE operation ends with progress 0. -/
def State.endCollective (s : State) (j : Nat) : State := ((s.onOp j (fun o => { o with progress := 0 })).flagOp j flagHard).endOp j stPartial

theorem endCollectives_eq (k : Nat) : s.endCollectives k =
    if s.posts.any (fun e => e.1 / 64 == k) then
      (s.liveOps (fun o => o.code == 0x30 && some o.partition == s.partOfCluster k)).foldl State.endCollective s
    else s := rfl

theorem touches_endCollective {W : Nat → Prop} (j : Nat) : Touches sansSolves W s (s.endCollective j) :=
  ((touches_onOp j _).trans (touches_flagOp j _)).trans (touches_endOp j _)

theorem touches_endCollectives {W : Nat → Prop} (k : Nat) : Touches sansSolves W s (s.endCollectives k) := by
  rw [endCollectives_eq]
  exact .then_if .refl (.foldl (fun _ j _ => touches_endCollective j) s)

theorem op_endCollective_other {k : Nat} (h : k ≠ j) : (s.endCollective k).op j = s.op j :=
  (op_endOp_other _ h).trans ((op_flagOp_other _ h).trans (op_onOp_other _ h))

theorem endCollective_live (h : s.op j = some o) (hlive : o.status = none) : EndedPartial o 0 ((s.endCollective j).op j) :=
  endedPartial_live (op_onOp_same h (fun o => { o with progress := 0 })) hlive

theorem EndedPartial.collective (h : EndedPartial o 0 (s.op j)) : EndedPartial o 0 ((s.endCollective j).op j) := by
  obtain ⟨y, hy, hstatus, -, hflags, hdesc⟩ := h
  exact EndedPartial.again ⟨_, op_onOp_same hy _, hstatus, rfl, hflags, hdesc⟩

/-- An operation of the cluster's partition that runs a COLLECTIVE ends where the cluster has posts. -/
theorem endCollectives_ends {k : Nat} (hposts : ∃ e ∈ s.posts, e.1 / 64 = k) (h : s.op j = some o) (hlive : o.status = none)
    (hcode : leAt o.desc 0 1 = 0x30) (hpart : s.partOfCluster k = some o.partition) : EndedPartial o 0 ((s.endCollectives k).op j) := by
  have hany : s.posts.any (fun e => e.1 / 64 == k) = true := by
    obtain ⟨e, he, hek⟩ := hposts
    exact List.any_eq_true.2 ⟨e, he, beq_iff_eq.2 hek⟩
  rw [endCollectives_eq, if_pos hany]
  refine op_foldl (fun t i hi => op_endCollective_other hi) (fun t ht => endCollective_live (ht.trans h) hlive) (fun t ht => ht.collective)
    ((mem_liveOps h _).2 ⟨hlive, ?_⟩)
  rw [hpart, Bool.and_eq_true]
  exact ⟨beq_iff_eq.2 hcode, beq_self_eq_true _⟩

/-- One that has ended so stays. -/
theorem endCollectives_ended {k : Nat} (h : EndedPartial o 0 (s.op j)) : EndedPartial o 0 ((s.endCollectives k).op j) := by
  rw [endCollectives_eq]
  split
  · obtain ⟨y, hy, hstatus, -, -, -⟩ := id h
    rw [op_foldl_other (fun t i hi => op_endCollective_other hi)]
    · exact h
    · rw [mem_liveOps hy, hstatus]
      exact fun hboth => Option.some_ne_none _ hboth.1
  · exact h

/-- One that runs is left alone or ended. -/
theorem endCollectives_either {k : Nat} (h : s.op j = some o) (hlive : o.status = none) :
    (s.endCollectives k).op j = some o ∨ EndedPartial o 0 ((s.endCollectives k).op j) := by
  rw [endCollectives_eq]
  split
  · by_cases hj : j ∈ s.liveOps (fun o => o.code == 0x30 && some o.partition == s.partOfCluster k)
    · exact .inr (op_foldl (fun t i hi => op_endCollective_other hi) (fun t ht => endCollective_live (ht.trans h) hlive)
        (fun t ht => ht.collective) hj)
    · exact .inl ((op_foldl_other (fun t i hi => op_endCollective_other hi) hj).trans h)
  · exact .inl h

theorem Touches.posts_of_solves {W : Nat → Prop} (h : Touches sansSolves W s t) : t.posts = s.posts :=
  calc t.posts = (sansSolves t).posts := rfl
    _ = (sansSolves s).posts := by rw [h.rest]

theorem Touches.togus_of_solves {W : Nat → Prop} (h : Touches sansSolves W s t) : t.togus = s.togus :=
  calc t.togus = (sansSolves t).togus := rfl
    _ = (sansSolves s).togus := by rw [h.rest]

/-- Which partition owns a cluster is the structure's alone. -/
theorem partOfCluster_congr (h : t.togus = s.togus) (k : Nat) : t.partOfCluster k = s.partOfCluster k :=
  calc t.partOfCluster k = (State.reset.withTogus t.togus).partOfCluster k := rfl
    _ = (State.reset.withTogus s.togus).partOfCluster k := by rw [h]
    _ = s.partOfCluster k := rfl

/-- The same over the clusters of a stack. -/
theorem foldl_endCollectives_ends {k : Nat} {l : List Nat} (hk : k ∈ l) (hposts : ∃ e ∈ s.posts, e.1 / 64 = k) (h : s.op j = some o)
    (hlive : o.status = none) (hcode : leAt o.desc 0 1 = 0x30) (hpart : s.partOfCluster k = some o.partition) :
    EndedPartial o 0 ((l.foldl State.endCollectives s).op j) := by
  have hstay (t : State) (m : List Nat) (ht : EndedPartial o 0 (t.op j)) : EndedPartial o 0 ((m.foldl State.endCollectives t).op j) := by
    induction m generalizing t with
    | nil => exact ht
    | cons i rest ih => exact ih _ (endCollectives_ended ht)
  induction l generalizing s with
  | nil => cases hk
  | cons i rest ih =>
    rw [List.foldl_cons]
    obtain rfl | hk := List.mem_cons.1 hk
    · exact hstay _ _ (endCollectives_ends hposts h hlive hcode hpart)
    · have htouch := touches_endCollectives (s := s) (W := OnUnits) i
      obtain hsame | hended := endCollectives_either (k := i) h hlive
      · exact ih hk (htouch.posts_of_solves ▸ hposts) hsame ((partOfCluster_congr htouch.togus_of_solves k).trans hpart)
      · exact hstay _ _ hended

end

end Sys2Proof.Machine

/-! RECOVERY_START for units, clusters, stacks and the package (R492, R493, R495, R506). -/
namespace Sys2Proof.Machine

/-- The state without all that a recovery of any domain may change. -/
def sansRecovered (s : State) : State := { sansLost s with chans := [], togus := Togus.none, alm := Alm.reset }

/-- Registers of the arbiter's slots and of the almanac, and the counts of lost reports. -/
def OnMaint (off : Nat) : Prop := off = A.MNT_RESULT ∨ 0x40100 ≤ off ∧ off < 0x40180 ∨ off = A.ALM_STATUS ∨ OnLost off

section
variable {W : Nat → Prop} {s t : State} {i : Nat} {r : Recovery}

theorem Touches.recovered (h : Touches sansLost W s t) : Touches sansRecovered W s t := h.weaken (fun _ => rfl)

theorem Touches.recs_of_recovered (h : Touches sansRecovered W s t) : t.recs = s.recs :=
  calc t.recs = (sansRecovered t).recs := rfl
    _ = (sansRecovered s).recs := by rw [h.rest]

theorem Touches.recq_of_recovered (h : Touches sansRecovered W s t) : t.recq = s.recq :=
  calc t.recq = (sansRecovered t).recq := rfl
    _ = (sansRecovered s).recq := by rw [h.rest]

/-! The arbiter's slots. -/

theorem onMaint_slot {i : Nat} (h : i < 16) : OnMaint (A.MNT_SLOT i) := by
  refine .inr (.inl ?_)
  unfold A.MNT_SLOT
  omega

theorem touches_mntEnd {i : Nat} (hi : i < 16) (status progress : Nat) : Touches sansBooks OnMaint s (s.mntEnd i status progress) :=
  .trans (.fset (.fset (.fset .refl (onMaint_slot hi)) (onMaint_slot hi)) (onMaint_slot hi)) (touches_raise _ _)

theorem mem_mntHeld_lt {i : Nat} (h : i ∈ s.mntHeld) : i < 16 := List.mem_range.1 (List.mem_of_mem_filter h)

theorem touches_mntStop (d : Domain) : Touches sansBooks OnMaint s (s.mntStop d) :=
  .foldl (fun _ _ hi => (Touches.refl.fset (.inl rfl)).trans (touches_mntEnd (mem_mntHeld_lt (List.mem_of_mem_filter hi)) _ _)) s

/-! RECOVERY_START. -/

/-- The request leaves the queue and holds the slot. -/
def State.recoveryTaken (s : State) (i : Nat) (r : Recovery) : State :=
  { s with recq := s.recq.erase r, recs := s.recs ++ [{ r with slot := i, start := s.clock }] }

/-- The state once the recovery has begun. -/
def State.recoveryBegun (s : State) (i : Nat) (r : Recovery) : State := ((s.recoveryTaken i r).recover r.domain).mntStop r.domain

/-- The first request that can start holds the free slot, and the channels' bytes are as they were. -/
def RecoveryBegins (s t : State) (i : Nat) (r : Recovery) : Prop :=
  exec .recoveryStart s = .next t ∧ t.recq = s.recq.erase r ∧ t.recs = s.recs ++ [{ r with slot := i, start := s.clock }] ∧
    ∀ ch x, ch < 64 → x < 2 ^ 36 → t.byte (gddrKey ch x) = s.byte (gddrKey ch x)

theorem exec_recoveryStart (hi : s.freeSlot = some i) (hr : s.nextRecovery = some r) : exec .recoveryStart s = .next (s.recoveryBegun i r) := by
  show execRecoveryStart s = _
  unfold execRecoveryStart
  rw [hi, hr]
  rfl

theorem recoveryStart_idle (h : s.freeSlot = none ∨ s.nextRecovery = none) : exec .recoveryStart s = .next s := by
  show execRecoveryStart s = _
  unfold execRecoveryStart
  obtain h | h := h
  · rw [h]
  · rw [h]
    split
    · next heq => cases heq
    · rfl

/-- Only the queue and the slots of the sequencer have changed. -/
structure QueueMoved (s s1 : State) : Prop where
  regs : s1.regs = s.regs
  mem : s1.mem = s.mem
  togus : s1.togus = s.togus
  tcore : ∀ c, s1.tcore c = s.tcore c
  ops : s1.ops = s.ops
  posts : s1.posts = s.posts
  alm : s1.alm = s.alm

theorem recoveryTaken_moved (s : State) (i : Nat) (r : Recovery) : QueueMoved s (s.recoveryTaken i r) :=
  ⟨rfl, rfl, rfl, fun _ => rfl, rfl, rfl, rfl⟩

theorem QueueMoved.op (h : QueueMoved s t) (j : Nat) : t.op j = s.op j := congrArg (assocGet (fun _ => none) · j) h.ops

/-- RECOVERY_START, by what the recovery does to its domain: the stop of the activities it covers changes books only. -/
theorem recoveryStart_of {P : State → Prop} (hi : s.freeSlot = some i) (hr : s.nextRecovery = some r)
    (h : ∀ s1, QueueMoved s s1 → Touches sansRecovered W s1 (s1.recover r.domain) ∧ OnlyZeroes s1 (s1.recover r.domain) ∧
      ∀ t, Touches sansBooks OnMaint (s1.recover r.domain) t → (s1.recover r.domain).out <:+ t.out → P t) :
    ∃ t, RecoveryBegins s t i r ∧ P t := by
  obtain ⟨htouch, hz, hP⟩ := h _ (recoveryTaken_moved s i r)
  have hstop : Touches sansBooks OnMaint ((s.recoveryTaken i r).recover r.domain) (s.recoveryBegun i r) := touches_mntStop r.domain
  have hout : ((s.recoveryTaken i r).recover r.domain).out <:+ (s.recoveryBegun i r).out :=
    (mntStop_keeps _ r.domain (keeps_refl _)).2.2.1
  refine ⟨s.recoveryBegun i r, ⟨exec_recoveryStart hi hr, ?_, ?_, fun ch x _ _ => ?_⟩, hP _ hstop hout⟩
  · rw [hstop.units.recq, htouch.recq_of_recovered]
    rfl
  · rw [hstop.units.recs, htouch.recs_of_recovered]
    rfl
  · rw [hstop.byte, hz.gddr]
    rfl

/-- A T-core is retired. -/
theorem recoveryStart_tcore (hi : s.freeSlot = some i) (hr : s.nextRecovery = some r) (hc : CleanRegs s.regs) {k : Nat}
    (hd : r.domain = .tcore k) (hk : k < 512) :
    ∃ t, RecoveryBegins s t i r ∧ (t.tcore k).cc.retired = true ∧ t.ops = s.ops ∧
      ((s.tcore k).cc.retired = false → t.fget (R.TC_CC_STATUS.state k) = 4 ∧ ∀ a, a < 0x400000 → t.byte (padBase k + a) = 0) := by
  refine recoveryStart_of (W := OnRetire) hi hr (fun s1 hmoved => ?_)
  have hrecover : s1.recover r.domain = if (s1.tcore k).cc.retired then s1 else s1.retireTcore k := by rw [hd]; rfl
  rw [hrecover, hmoved.tcore]
  by_cases hret : (s.tcore k).cc.retired = true
  · rw [if_pos hret]
    exact ⟨.refl, .refl, fun t hstop _ => ⟨by rw [hstop.tcore, hmoved.tcore, hret], hstop.units.ops.trans hmoved.ops,
      fun hnot => absurd hret (by rw [hnot]; decide)⟩⟩
  · rw [if_neg hret]
    have htouch := touches_retireTcore (s := s1) k
    refine ⟨htouch.lost.recovered, onlyZeroes_retireTcore hk, fun t hstop _ => ⟨?_, ?_, fun _ => ⟨?_, fun a ha => ?_⟩⟩⟩
    · rw [hstop.tcore, tcore_retireTcore, if_pos rfl]
      rfl
    · rw [hstop.units.ops, htouch.ops, hmoved.ops]
    · have hclean : CleanRegs s1.regs := hmoved.regs ▸ hc
      have hnot : ¬ OnMaint (R.TC_CC_STATUS.state k).off := by
        simp only [OnMaint, OnLost, R.TC_CC_STATUS.state, A.TC_CC_STATUS, A.MNT_RESULT, A.ALM_STATUS]
        omega
      rw [hstop.fget (htouch.clean hclean) hnot, status_retireTcore hclean]
    · rw [hstop.byte, byte_retireTcore, if_pos (by omega)]

/-- A P core is retired. -/
theorem recoveryStart_pcore (hi : s.freeSlot = some i) (hr : s.nextRecovery = some r) {k : Nat} (hd : r.domain = .pcore k) :
    ∃ t, RecoveryBegins s t i r ∧ (t.pcore k).retired = true ∧ t.ops = s.ops ∧ t.mem = s.mem := by
  refine recoveryStart_of (W := OnRetire) hi hr (fun s1 hmoved => ?_)
  have hrecover : s1.recover r.domain = if (s1.pcore k).retired then s1 else s1.retirePcore k := by rw [hd]; rfl
  rw [hrecover]
  by_cases hret : (s1.pcore k).retired = true
  · rw [if_pos hret]
    exact ⟨.refl, .refl, fun t hstop _ => ⟨by rw [hstop.pcore, hret], hstop.units.ops.trans hmoved.ops, hstop.mem.trans hmoved.mem⟩⟩
  · rw [if_neg hret]
    have htouch := touches_retirePcore (s := s1) k
    refine ⟨htouch.lost.recovered, .of_mem (retirePcore_mem k), fun t hstop _ => ⟨?_, ?_, ?_⟩⟩
    · rw [hstop.pcore, pcore_retirePcore, if_pos rfl]
    · rw [hstop.units.ops, htouch.ops, hmoved.ops]
    · rw [hstop.mem, retirePcore_mem, hmoved.mem]

/-- A solver engine is retired. -/
theorem recoveryStart_se (hi : s.freeSlot = some i) (hr : s.nextRecovery = some r) {k : Nat} (hd : r.domain = .se k) :
    ∃ t, RecoveryBegins s t i r ∧ (t.se k).retired = true ∧ t.mem = s.mem := by
  refine recoveryStart_of (W := OnRetire) hi hr (fun s1 hmoved => ?_)
  have hrecover : s1.recover r.domain = if (s1.se k).retired then s1 else s1.retireSe k := by rw [hd]; rfl
  rw [hrecover]
  by_cases hret : (s1.se k).retired = true
  · rw [if_pos hret]
    exact ⟨.refl, .refl, fun t hstop _ => ⟨by rw [hstop.se, hret], hstop.mem.trans hmoved.mem⟩⟩
  · rw [if_neg hret]
    have htouch := touches_retireSe (s := s1) k
    refine ⟨htouch.lost_of_solves.recovered, .of_mem htouch.mem_of_solves, fun t hstop _ => ⟨?_, ?_⟩⟩
    · rw [hstop.se, se_retireSe]
    · rw [hstop.mem, htouch.mem_of_solves, hmoved.mem]

/-- The package's own recovery begins with nothing lost. -/
theorem recoveryStart_package (hi : s.freeSlot = some i) (hr : s.nextRecovery = some r) (hd : r.domain = .package) :
    ∃ t, RecoveryBegins s t i r ∧ t.mem = s.mem ∧ t.ops = s.ops := by
  refine recoveryStart_of (W := OnRetire) hi hr (fun s1 hmoved => ?_)
  have hrecover : s1.recover r.domain = s1 := by rw [hd]; rfl
  rw [hrecover]
  exact ⟨.refl, .refl, fun t hstop _ => ⟨hstop.mem.trans hmoved.mem, hstop.units.ops.trans hmoved.ops⟩⟩

/-! Clusters and stacks. -/

/-- What the recovery of a cluster leaves, its COLLECTIVE operations included. -/
def ClusterReset (s t : State) (k : Nat) : Prop :=
  (∀ c, c / 4 = k → t.tcore c = freshCore (s.tcore c).cc.retired ∧ ∀ a, a < 0x400000 → t.byte (padBase c + a) = 0) ∧
    (∀ a, a < 0x100000 → t.byte (stagingBufBase k + a) = 0) ∧ (∀ e ∈ t.posts, e.1 / 64 ≠ k) ∧ (∀ m ∈ t.parked, m.cluster ≠ k) ∧
    ((∃ e ∈ s.posts, e.1 / 64 = k) → ∀ j o, s.op j = some o → o.status = none → leAt o.desc 0 1 = 0x30 →
      s.partOfCluster k = some o.partition → EndedPartial o 0 (t.op j))

theorem clusterReset_of {k : Nat} (h : ClusterCleared s t k)
    (hops : (∃ e ∈ s.posts, e.1 / 64 = k) → ∀ j o, s.op j = some o → o.status = none → leAt o.desc 0 1 = 0x30 →
      s.partOfCluster k = some o.partition → EndedPartial o 0 (t.op j)) : ClusterReset s t k :=
  ⟨fun c hc => ⟨h.core c hc, h.pad c hc⟩, h.buffer, h.posts, h.parked, hops⟩

/-- The books that follow leave a cleared cluster so. -/
theorem ClusterCleared.books {u : State} {k : Nat} (h : ClusterCleared s t k) (hu : Touches sansBooks W t u) : ClusterCleared s u k := by
  have hposts : u.posts = t.posts := congrArg Prod.fst hu.mail
  have hparked : u.parked = t.parked := congrArg Prod.snd hu.mail
  refine h.mono (fun c hc => ?_) (.of_mem hu.mem) (by rw [hposts]; exact List.Subset.refl _) (by rw [hparked]; exact List.Subset.refl _)
  rw [hu.tcore, h.core c hc, freshCore_retired]

theorem tcore_of_solves (h : Touches sansSolves W s t) (c : Nat) : t.tcore c = s.tcore c :=
  congrArg (assocGet (fun _ => TCore.reset) · c) h.tcores_of_solves

theorem touches_recoverCluster (k : Nat) : Touches sansLost OnUnits s ((s.endCollectives k).resetCluster k) :=
  (touches_endCollectives k).lost_of_solves.trans (touches_resetCluster k).lost

theorem recoveryStart_cluster (hi : s.freeSlot = some i) (hr : s.nextRecovery = some r) {k : Nat} (hd : r.domain = .cluster k) (hk : k < 128) :
    ∃ t, RecoveryBegins s t i r ∧ ClusterReset s t k := by
  refine recoveryStart_of (W := OnUnits) hi hr (fun s1 hmoved => ?_)
  have hrecover : s1.recover r.domain = (s1.endCollectives k).resetCluster k := by rw [hd]; rfl
  have hended := touches_endCollectives (s := s1) (W := OnUnits) k
  rw [hrecover]
  refine ⟨(touches_recoverCluster k).recovered, .trans (.of_mem hended.mem_of_solves) (onlyZeroes_resetCluster hk),
    fun t hstop _ => clusterReset_of ?_ ?_⟩
  · refine ((resetCluster_cleared hk).books hstop).of_retired (fun c => ?_)
    rw [tcore_of_solves hended, hmoved.tcore]
  · intro hlost j o hj hlive hcode hpart
    rw [hstop.units.op, (touches_resetCluster k).op]
    exact endCollectives_ends (hmoved.posts ▸ hlost) ((hmoved.op j).trans hj) hlive hcode ((partOfCluster_congr hmoved.togus k).trans hpart)

/-! Channels that go into self-refresh. -/

theorem touches_setChan (g : Nat) (c : Channel) : Touches sansChans W s (s.setChan g c) := .of_regs rfl rfl

/-- A reading that the channels do not bear on is the same after a stack goes into self-refresh or leaves it. -/
theorem stackRefresh_reads {β : Type} (g : State → β) (hg : ∀ u c v, g (State.setChan u c v) = g u) (n : Nat) (on : Bool) :
    g (s.stackRefresh n on) = g s := by
  unfold State.stackRefresh
  exact foldl_reads (fun u c _ => hg u c _) s

theorem touches_stackRefresh (n : Nat) (on : Bool) : Touches sansChans W s (s.stackRefresh n on) :=
  .foldl (fun _ g _ => touches_setChan g _) s

theorem chanTrained_congr (hregs : ∀ off, 0x200000 ≤ off → off < 0x220000 → t.reg off = s.reg off) {g : Nat} (hg : g < 64) :
    t.chanTrained g = s.chanTrained g := by
  unfold State.chanTrained State.fget
  rw [hregs (R.GDM_CH_STATUS.state g).off]
  all_goals
    simp only [R.GDM_CH_STATUS.state, A.GDM_CH_STATUS]
    omega

/-- The stack's channels in service are in self-refresh, or out of it. -/
theorem stackRefresh_chan {n g : Nat} (on : Bool) (hg : g / 8 = n) (htrained : s.chanTrained g = true) :
    ((s.stackRefresh n on).chan g).selfRefresh = on := by
  have hmem : g ∈ ((List.range 8).map (fun i => 8 * n + i)).filter s.chanTrained :=
    List.mem_filter.2 ⟨List.mem_map.2 ⟨g % 8, List.mem_range.2 (by omega), by omega⟩, htrained⟩
  refine foldl_reads_put (g := fun u => (u.chan g).selfRefresh) hmem (fun t => ?_) (fun t c ht => ?_) s
  · exact congrArg Channel.selfRefresh (State.chan_setChan_same _ _ _)
  · by_cases hc : c = g
    · subst hc
      exact congrArg Channel.selfRefresh (State.chan_setChan_same _ _ _)
    · exact (congrArg Channel.selfRefresh (State.chan_setChan_other _ _ _ _ hc)).trans ht

theorem Touches.recovered_of_chans (h : Touches sansChans W s t) : Touches sansRecovered W s t := h.weaken (fun _ => rfl)

/-- The state once a stack is reset, before its channels are in self-refresh. -/
def State.stackReset (s : State) (n : Nat) : State := (((List.range 16).map (fun i => 16 * n + i)).foldl State.endCollectives s).resetStack n

theorem touches_stackCollectives (n : Nat) :
    Touches sansSolves W s (((List.range 16).map (fun i => 16 * n + i)).foldl State.endCollectives s) :=
  .foldl (fun _ k _ => touches_endCollectives k) s

theorem touches_stackReset (n : Nat) : Touches sansLost OnUnits s (s.stackReset n) :=
  (touches_stackCollectives n).lost_of_solves.trans (touches_resetStack n).lost

theorem recoveryStart_stack (hi : s.freeSlot = some i) (hr : s.nextRecovery = some r) (hc : CleanRegs s.regs) {n : Nat}
    (hd : r.domain = .stack n) (hn : n < 8) :
    ∃ t, RecoveryBegins s t i r ∧ (∀ k, k / 16 = n → ClusterReset s t k) ∧
      (∀ u, u / 8 = n → s.llmCached u = false → ∀ a, a < 0x2000000 → t.byte (llmBase u + a) = 0) ∧
      (∀ g, g / 8 = n → s.chanTrained g = true → (t.chan g).selfRefresh = true) := by
  refine recoveryStart_of (W := OnUnits) hi hr (fun s1 hmoved => ?_)
  have hrecover : s1.recover r.domain = (s1.stackReset n).stackRefresh n true := by rw [hd]; rfl
  have hended := touches_stackCollectives (s := s1) (W := OnUnits) n
  have htouch := touches_stackReset (s := s1) n
  have hz : OnlyZeroes s1 (s1.stackReset n) := .trans (.of_mem hended.mem_of_solves) (onlyZeroes_resetStack hn)
  have hcleared (k : Nat) (hk : k / 16 = n) : ClusterCleared s (s1.stackReset n) k :=
    (resetStack_cleared hn hk).of_retired (fun c => by rw [tcore_of_solves hended, hmoved.tcore])
  have hops (j k : Nat) (o : Op) (hk : k / 16 = n) (hlost : ∃ e ∈ s.posts, e.1 / 64 = k) (hj : s.op j = some o) (hlive : o.status = none)
      (hcode : leAt o.desc 0 1 = 0x30) (hpart : s.partOfCluster k = some o.partition) : EndedPartial o 0 ((s1.stackReset n).op j) := by
    rw [State.stackReset, (touches_resetStack n).op]
    exact foldl_endCollectives_ends (mem_stackClusters.2 hk) (hmoved.posts ▸ hlost) ((hmoved.op j).trans hj) hlive hcode
      ((partOfCluster_congr hmoved.togus k).trans hpart)
  have hllm (u : Nat) (hu : u / 8 = n) (hmode : s.llmCached u = false) (a : Nat) (ha : a < 0x2000000) :
      (s1.stackReset n).byte (llmBase u + a) = 0 :=
    resetStack_llm hu ((llmCached_congr (hended.togus_of_solves.trans hmoved.togus) u).trans hmode) ha
  have htrained (g : Nat) (hg : g / 8 = n) : (s1.stackReset n).chanTrained g = s.chanTrained g := by
    refine chanTrained_congr (fun off _ hhigh => ?_) (by omega)
    have hclean : CleanRegs s1.regs := hmoved.regs ▸ hc
    have hnot : ¬ OnUnits off := by unfold OnUnits; omega
    rw [htouch.reg hclean off hnot, State.reg, State.reg, hmoved.regs]
  rw [hrecover]
  generalize s1.stackReset n = v at htouch hz hcleared hops hllm htrained
  have hmem : (v.stackRefresh n true).mem = v.mem := stackRefresh_reads State.mem (fun _ _ _ => rfl) n true
  refine ⟨htouch.recovered.trans (touches_stackRefresh n true).recovered_of_chans, hz.trans (.of_mem hmem),
    fun t hstop _ => ⟨fun k hk => clusterReset_of ?_ (fun hlost j o hj hlive hcode hpart => ?_), fun u hu hmode a ha => ?_, fun g hg hgood => ?_⟩⟩
  · have hposts : (v.stackRefresh n true).posts = v.posts := stackRefresh_reads State.posts (fun _ _ _ => rfl) n true
    have hparked : (v.stackRefresh n true).parked = v.parked := stackRefresh_reads State.parked (fun _ _ _ => rfl) n true
    refine ((hcleared k hk).mono (fun c hck => ?_) (.of_mem hmem) (by rw [hposts]; exact List.Subset.refl _)
      (by rw [hparked]; exact List.Subset.refl _)).books hstop
    rw [stackRefresh_reads (fun u => u.tcore c) (fun _ _ _ => rfl), (hcleared k hk).core c hck, freshCore_retired]
  · rw [hstop.units.op, stackRefresh_reads (fun u => u.op j) (fun _ _ _ => rfl)]
    exact hops j k o hk hlost hj hlive hcode hpart
  · rw [hstop.byte]
    exact (OnlyZeroes.of_mem hmem).byte_eq_zero (hllm u hu hmode a ha)
  · rw [hstop.units.chan]
    exact stackRefresh_chan true hg ((htrained g hg).trans hgood)

end

end Sys2Proof.Machine

/-! RECOVERY_START for a partition (R66, R493, R494, R521, R553). -/
namespace Sys2Proof.Machine

/-- The state without its books and the almanac's sequence. -/
def sansAlm (s : State) : State := { sansBooks s with alm := Alm.reset }

section
variable {W : Nat → Prop} {s t : State} {p : Nat}

theorem Touches.alm (h : Touches sansBooks W s t) : Touches sansAlm W s t := h.weaken (fun _ => rfl)

theorem Touches.recovered_of_alm (h : Touches sansAlm W s t) : Touches sansRecovered W s t := h.weaken (fun _ => rfl)

theorem Touches.togus_of_alm (h : Touches sansAlm W s t) : t.togus = s.togus :=
  calc t.togus = (sansAlm t).togus := rfl
    _ = (sansAlm s).togus := by rw [h.rest]

theorem Touches.mem_of_alm (h : Touches sansAlm W s t) : t.mem = s.mem :=
  calc t.mem = (sansAlm t).mem := rfl
    _ = (sansAlm s).mem := by rw [h.rest]

theorem Touches.ops_of_alm (h : Touches sansAlm W s t) : t.ops = s.ops :=
  calc t.ops = (sansAlm t).ops := rfl
    _ = (sansAlm s).ops := by rw [h.rest]

/-! The almanac that loses its source. -/

theorem onMaint_alm : OnMaint A.ALM_STATUS := .inr (.inr (.inl rfl))

theorem touches_almRelease (status : Nat) : Touches sansBooks OnMaint s (s.almRelease status) := by
  unfold State.almRelease
  split
  · next i hi => exact touches_mntEnd (mem_mntHeld_lt (List.mem_of_find?_eq_some hi)) _ _
  · exact .refl

/-- The state with another almanac sequence. -/
def State.withAlm (s : State) (a : Alm) : State := { s with alm := a }

theorem touches_withAlm (a : Alm) : Touches sansAlm W s (s.withAlm a) := .of_regs rfl rfl

theorem touches_almIdle : Touches sansAlm OnMaint s s.almIdle :=
  (touches_withAlm _).trans (Touches.refl.fset onMaint_alm).alm

theorem touches_almErr (code : Nat) : Touches sansBooks OnMaint s (s.almErr code) :=
  (((Touches.refl.fset onMaint_alm).fset onMaint_alm).trans (touches_raise _ _)).trans
    ((touches_report _ _ _ _).mono (fun _ h => .inr (.inr (.inr h))))

theorem touches_almSourceLost (p : Nat) : Touches sansAlm OnMaint s (s.almSourceLost p) :=
  .then_if .refl (((touches_almRelease _).alm.trans touches_almIdle).trans (touches_almErr _).alm)

/-! What a reset empties. -/

theorem touches_endPartOps (p status flags : Nat) : Touches sansSolves W s (s.endPartOps p status flags) :=
  .foldl (fun _ k _ => (touches_flagOp k flags).trans (touches_endOp k status)) s

/-- A P core returns to reset, and an engine. -/
def State.freshPcore (s : State) (c : Nat) : State := s.setPcore c { Jumbe.reset with retired := (s.pcore c).retired }

def State.freshSe (s : State) (n : Nat) : State := s.setSe n { SeState.reset with retired := (s.se n).retired }

/-- The clusters, cores and engines of the partition, and its operations, once they are reset. -/
def State.coresEmptied (s : State) (p : Nat) : State :=
  (bitsOf 16 (s.seMask p)).foldl State.freshSe ((bitsOf 192 (s.pcoreMask p)).foldl State.freshPcore
    ((bitsOf 128 (s.clusterMask p)).foldl State.resetCluster (s.endPartOps p stPartial flagHard)))

/-- And its LLM units. -/
def State.partitionEmptied (s : State) (p : Nat) : State :=
  ((bitsOf 64 ((s.coresEmptied p).llmMask p)).foldl (fun s u => s.zero (llmBase u) 0x2000000) (s.coresEmptied p)).advanceEpochs
    ((bitsOf 192 (s.pcoreMask p)).map Who.pcore ++ (bitsOf 16 (s.seMask p)).map Who.se)

/-- The registers of a partition and of its engines. -/
def inPartition (p : Nat) (ses : List Nat) (off : Nat) : Bool :=
  decide (A.TRN_PART_CTL p ≤ off ∧ off < A.TRN_PART_CTL p + 0x20) || decide (A.PRT_CTL p ≤ off ∧ off < A.PRT_CTL p + 0x100) ||
    ses.any (fun n => decide (0x400000 + 0x10000 * n ≤ off ∧ off < 0x400000 + 0x10000 * (n + 1)))

/-- A register's word once the partition's have returned to reset. -/
def partitionWord (p : Nat) (ses : List Nat) (off : Nat) (w : Word) : Word := if inPartition p ses off then stickyWord off w else w

/-- The registers of the partition return to reset, and its resumes are gone. -/
def State.partitionBlanked (s : State) (p : Nat) (ses : List Nat) : State :=
  { s with resumes := s.resumes.filter (fun r => r.1 != p), regs := resetRegs (partitionWord p ses) s.regs }

/-- The partition is formed anew. -/
def State.partitionFormed (s : State) (p : Nat) : State :=
  ((s.partitionEmptied p).partitionBlanked p (bitsOf 16 (s.seMask p))).formPart (fun _ => true) p

theorem resetPartition_eq (s : State) (p : Nat) : s.resetPartition p =
    (s.partitionFormed p).fset (R.PRT_CNT.resets p)
      (Nat.min ((s.partitionEmptied p).fget (R.PRT_CNT.resets p) + 1) 65535) := rfl

theorem touches_freshPcore (c : Nat) : Touches sansUnits W s (s.freshPcore c) := .of_regs rfl rfl

theorem touches_freshSe (n : Nat) : Touches sansSolves W s (s.freshSe n) := .of_regs rfl rfl

theorem bitsOf_lt {n m k : Nat} (h : k ∈ bitsOf n m) : k < n := (mem_bitsOf.1 h).1

theorem onlyZeroes_fresh (l m : List Nat) : OnlyZeroes s (m.foldl State.freshSe (l.foldl State.freshPcore s)) :=
  .trans (.foldl (f := State.freshPcore) (fun _ _ _ => .of_mem rfl) s) (.foldl (f := State.freshSe) (fun _ _ _ => .of_mem rfl) _)

theorem touches_coresEmptied (p : Nat) : Touches sansLost OnUnits s (s.coresEmptied p) :=
  (((touches_endPartOps p _ _).lost_of_solves.trans (touches_resetClusters _).lost).trans
    (.foldl (fun _ c _ => (touches_freshPcore c).lost) _)).trans (.foldl (fun _ n _ => (touches_freshSe n).lost_of_solves) _)

theorem onlyZeroes_coresEmptied (p : Nat) : OnlyZeroes s (s.coresEmptied p) :=
  .trans (.trans (.of_mem (touches_endPartOps (W := OnUnits) p _ _).mem_of_solves) (onlyZeroes_resetClusters (fun _ hk => bitsOf_lt hk)))
    (onlyZeroes_fresh _ _)

theorem Touches.togus_of_lost (h : Touches sansLost W s t) : t.togus = s.togus :=
  calc t.togus = (sansLost t).togus := rfl
    _ = (sansLost s).togus := by rw [h.rest]

theorem touches_zeroUnits (l : List Nat) : Touches sansUnits W s (l.foldl (fun s u => s.zero (llmBase u) 0x2000000) s) :=
  .foldl (fun _ _ _ => touches_zero _ _) s

theorem onlyZeroes_zeroUnits {l : List Nat} (hl : ∀ u ∈ l, u < 64) : OnlyZeroes s (l.foldl (fun s u => s.zero (llmBase u) 0x2000000) s) := by
  refine .foldl (fun t u hu => .zero ?_) s
  have hu := hl u hu
  unfold llmBase
  omega

theorem touches_partitionEmptied (p : Nat) : Touches sansLost OnUnits s (s.partitionEmptied p) :=
  ((touches_coresEmptied p).trans (touches_zeroUnits _).lost).trans (touches_advanceEpochs _).units.lost

theorem onlyZeroes_partitionEmptied (p : Nat) : OnlyZeroes s (s.partitionEmptied p) :=
  .trans (.trans (onlyZeroes_coresEmptied p) (onlyZeroes_zeroUnits (fun _ hu => bitsOf_lt hu)))
    (.of_mem (touches_advanceEpochs (W := OnUnits) _).mem)

/-- The scratchpads of the partition's clusters are zero. -/
theorem partitionEmptied_pad {k c a : Nat} (hk : k < 128) (hm : bit (s.clusterMask p) k = true) (hc : c / 4 = k) (ha : a < 0x400000) :
    (s.partitionEmptied p).byte (padBase c + a) = 0 := by
  have hcleared : ClusterCleared (s.endPartOps p stPartial flagHard)
      ((bitsOf 128 (s.clusterMask p)).foldl State.resetCluster (s.endPartOps p stPartial flagHard)) k :=
    foldl_resetCluster_cleared (mem_bitsOf.2 ⟨hk, hm⟩) (fun _ hj => bitsOf_lt hj)
  have hcores : (s.coresEmptied p).byte (padBase c + a) = 0 := (onlyZeroes_fresh _ _).byte_eq_zero (hcleared.pad c hc a ha)
  have hz : OnlyZeroes (s.coresEmptied p) (s.partitionEmptied p) :=
    .trans (onlyZeroes_zeroUnits (fun _ hu => bitsOf_lt hu)) (.of_mem (touches_advanceEpochs (W := OnUnits) _).mem)
  exact hz.byte_eq_zero hcores

/-- Which LLM units a partition has is the structure's alone. -/
theorem llmMask_congr (h : t.togus = s.togus) (p : Nat) : t.llmMask p = s.llmMask p :=
  calc t.llmMask p = (State.reset.withTogus t.togus).llmMask p := rfl
    _ = (State.reset.withTogus s.togus).llmMask p := by rw [h]
    _ = s.llmMask p := rfl

/-- Its LLM units are zero. -/
theorem partitionEmptied_llm {u a : Nat} (hu : u < 64) (hm : bit (s.llmMask p) u = true) (ha : a < 0x2000000) :
    (s.partitionEmptied p).byte (llmBase u + a) = 0 := by
  have hmask := llmMask_congr (touches_coresEmptied (s := s) p).togus_of_lost p
  unfold State.partitionEmptied
  rw [(touches_advanceEpochs (W := OnUnits) _).byte]
  refine foldl_reads_put (g := fun v => v.byte (llmBase u + a)) (mem_bitsOf.2 ⟨hu, by rw [hmask, hm]⟩) (fun v => ?_)
    (fun v _ hv => byte_zero_stays hv) _
  exact (byte_zero (llmBase u) 0x2000000 _).trans (if_pos (by omega))

theorem foldl_freshSe_op (l : List Nat) (j : Nat) : (l.foldl State.freshSe s).op j = s.op j :=
  foldl_reads (f := State.freshSe) (g := fun v => v.op j) (fun _ _ _ => rfl) s

/-- The operations are those that the reset of the partition's ended leaves. -/
theorem partitionEmptied_op (j : Nat) : (s.partitionEmptied p).op j = (s.endPartOps p stPartial flagHard).op j := by
  unfold State.partitionEmptied
  rw [(touches_advanceEpochs (W := OnUnits) _).units.op, (touches_zeroUnits (W := OnUnits) _).op]
  unfold State.coresEmptied
  rw [foldl_freshSe_op]
  exact ((touches_resetClusters _).trans (.foldl (fun _ c _ => touches_freshPcore c) _)).op j

/-! The registers, and the forming of the partition. -/

theorem inPartition_onForm (hp : p < 16) (ses : List Nat) {off : Nat} (h : inPartition p ses off = true) : OnForm off := by
  unfold inPartition at h
  simp only [Bool.or_eq_true, decide_eq_true_eq, List.any_eq_true] at h
  obtain (h | h) | ⟨n, -, h⟩ := h
  · refine .inr (.inl ?_)
    unfold A.TRN_PART_CTL at h
    omega
  · refine onForm_of_onCounts (.inr (.inl ?_))
    unfold A.PRT_CTL at h
    omega
  · exact onForm_of_high (by omega)

theorem partitionWord_of_not_onForm (hp : p < 16) (ses : List Nat) {off : Nat} (h : ¬ OnForm off) (w : Word) :
    partitionWord p ses off w = w := if_neg (fun hin => h (inPartition_onForm hp ses hin))

theorem touches_partitionBlanked (hp : p < 16) (ses : List Nat) : Touches sansLost OnForm s (s.partitionBlanked p ses) :=
  ⟨rfl, fun _ => cleanRegs_resetRegs (partitionWord p ses) s.regs,
    fun hc _ hoff => assocGet_resetRegs (f := partitionWord p ses) hc (partitionWord_of_not_onForm hp ses hoff)⟩

theorem partitionBlanked_frame (ses : List Nat) :
    (s.partitionBlanked p ses).mem = s.mem ∧ ∀ j, (s.partitionBlanked p ses).op j = s.op j := ⟨rfl, fun _ => rfl⟩

theorem onForm_prtCnt (hp : p < 16) : OnForm (A.PRT_CNT p) := by
  refine onForm_of_onCounts (.inr (.inl ?_))
  unfold A.PRT_CNT
  omega

theorem onForm_prtStatus (hp : p < 16) : OnForm (A.PRT_STATUS p) := by
  refine onForm_of_onCounts (.inr (.inl ?_))
  unfold A.PRT_STATUS
  omega

theorem touches_partitionFormed (hp : p < 16) : Touches sansLost OnForm s (s.partitionFormed p) :=
  (((touches_partitionEmptied p).mono (fun _ => onForm_of_onUnits)).trans (touches_partitionBlanked hp _)).trans
    (touches_formPart _ hp).lost

theorem touches_resetPartition (hp : p < 16) : Touches sansLost OnForm s (s.resetPartition p) := by
  rw [resetPartition_eq]
  exact (touches_partitionFormed hp).trans (Touches.refl.fset (onForm_prtCnt hp)).units.lost

theorem onlyZeroes_partitionFormed (hp : p < 16) : OnlyZeroes (s.partitionEmptied p) (s.partitionFormed p) :=
  .trans (.of_mem (partitionBlanked_frame _).1) (onlyZeroes_formPart _ hp)

theorem onlyZeroes_formed (hp : p < 16) : OnlyZeroes (s.partitionEmptied p) (s.resetPartition p) := by
  rw [resetPartition_eq]
  exact (onlyZeroes_partitionFormed hp).trans (.of_mem (State.fset_mem _ _ _))

theorem onlyZeroes_resetPartition (hp : p < 16) : OnlyZeroes s (s.resetPartition p) :=
  (onlyZeroes_partitionEmptied p).trans (onlyZeroes_formed hp)

theorem resetPartition_op (hp : p < 16) (j : Nat) : (s.resetPartition p).op j = (s.endPartOps p stPartial flagHard).op j := by
  rw [resetPartition_eq, ← partitionEmptied_op]
  exact ((touches_formPart _ hp).op j).trans ((partitionBlanked_frame _).2 j)

/-- A reset is counted. -/
theorem resetPartition_resets (hp : p < 16) (hc : CleanRegs s.regs) :
    (s.resetPartition p).fget (R.PRT_CNT.resets p) = Nat.min (s.fget (R.PRT_CNT.resets p) + 1) 65535 := by
  have hnot : ¬ OnUnits (R.PRT_CNT.resets p).off := by
    simp only [OnUnits, R.PRT_CNT.resets, A.PRT_CNT]
    omega
  have hwidth : 2 ^ (R.PRT_CNT.resets p).width = 65536 := rfl
  have hmin : Nat.min (s.fget (R.PRT_CNT.resets p) + 1) 65535 ≤ 65535 := Nat.min_le_right _ _
  rw [resetPartition_eq, fget_fset_self _ _ _ rfl, (touches_partitionEmptied p).fget hc hnot, hwidth]
  exact Nat.mod_eq_of_lt (by omega)

/-! What the partition's status shows. -/

/-- The image of the partition, once the partition is reset: one that was being applied is abandoned, another waits on. -/
def State.imageAfterReset (s : State) (p : Nat) (applying waiting : Bool) : State :=
  if applying then s.abandonApply p else if waiting then s.fset (R.PRT_STATUS.image p) 1 else s

/-- The status of the partition is shown, and the event is sent. -/
def State.resetShown (s : State) (p held : Nat) (applying waiting : Bool) : State :=
  ((((s.fset (R.PRT_STATUS.held p) held).imageAfterReset p applying waiting).fset (R.PRT_STATUS.resetting p) 1).raise (.pf 0) (16 + p)).emit
    (.pldm 2 p)

/-- A reading that the partition's status, vectors, what was sent and the structure's state do not bear on. -/
theorem imageAfterReset_reads {β : Type} (g : State → β) (hset : ∀ u : State, ∀ f v, f.off = A.PRT_STATUS p → g (u.fset f v) = g u)
    (htogus : ∀ u : State, ∀ x, g (u.withTogus x) = g u) (hraise : ∀ u : State, ∀ fn v, g (u.raise fn v) = g u) (applying waiting : Bool) :
    g (s.imageAfterReset p applying waiting) = g s := by
  unfold State.imageAfterReset
  split
  · unfold State.abandonApply
    dsimp only
    rw [hraise, hset _ _ _ rfl, hset _ _ _ rfl]
    exact htogus s _
  · split
    · exact hset _ _ _ rfl
    · rfl

theorem resetShown_reads {β : Type} (g : State → β) (hset : ∀ u : State, ∀ f v, f.off = A.PRT_STATUS p → g (u.fset f v) = g u)
    (htogus : ∀ u : State, ∀ x, g (u.withTogus x) = g u) (hraise : ∀ u : State, ∀ fn v, g (u.raise fn v) = g u)
    (hemit : ∀ u : State, ∀ o, g (u.emit o) = g u) (held : Nat) (applying waiting : Bool) :
    g (s.resetShown p held applying waiting) = g s := by
  unfold State.resetShown
  rw [hemit, hraise, hset _ _ _ rfl, imageAfterReset_reads g hset htogus hraise, hset _ _ _ rfl]

theorem resetShown_mem (held : Nat) (applying waiting : Bool) : (s.resetShown p held applying waiting).mem = s.mem :=
  resetShown_reads State.mem (fun _ _ _ _ => rfl) (fun _ _ => rfl) raise_mem (fun _ _ => rfl) held applying waiting

theorem resetShown_op (j held : Nat) (applying waiting : Bool) : (s.resetShown p held applying waiting).op j = s.op j :=
  resetShown_reads (fun u => u.op j) (fun _ _ _ _ => rfl) (fun _ _ => rfl)
    (fun _ fn v => (touches_raise (W := OnUnits) fn v).units.op j) (fun _ _ => rfl) held applying waiting

theorem resetShown_fget {f : Fld} (hf : f.off ≠ A.PRT_STATUS p) (held : Nat) (applying waiting : Bool) :
    (s.resetShown p held applying waiting).fget f = s.fget f :=
  resetShown_reads (fun u => u.fget f) (fun _ _ _ hg => fget_fset_reg _ _ _ _ (by rw [hg]; exact hf.symm)) (fun _ _ => rfl)
    (fun u fn v => raise_fget u fn v f) (fun _ _ => rfl) held applying waiting

theorem resetShown_resetting (held : Nat) (applying waiting : Bool) :
    (s.resetShown p held applying waiting).fget (R.PRT_STATUS.resetting p) = 1 := by
  unfold State.resetShown
  rw [State.emit_fget, raise_fget]
  exact fget_fset_self _ _ _ rfl

theorem resetShown_event (held : Nat) (applying waiting : Bool) : Out.pldm 2 p ∈ (s.resetShown p held applying waiting).out :=
  List.mem_cons_self

/-- An image that was being applied is abandoned. -/
theorem resetShown_applying (held : Nat) (waiting : Bool) :
    (s.resetShown p held true waiting).fget (R.PRT_STATUS.image p) = 0 ∧ (s.resetShown p held true waiting).fget (R.PRT_STATUS.code p) = 0x0F ∧
      (s.resetShown p held true waiting).togus.pending = s.togus.pending.filter (fun x => x.partition != p) := by
  unfold State.resetShown State.imageAfterReset
  rw [if_pos rfl]
  unfold State.abandonApply
  refine ⟨?_, ?_, ?_⟩
  · rw [State.emit_fget, raise_fget, fget_fset_of_apart _ _ _ _ rfl, raise_fget, fget_fset_of_apart _ _ _ _ rfl]
    exact fget_fset_self _ _ _ rfl
  · rw [State.emit_fget, raise_fget, fget_fset_of_apart _ _ _ _ rfl, raise_fget]
    exact fget_fset_self _ _ _ rfl
  · rw [State.emit_togus, raise_togus, State.fset_togus, raise_togus]
    rfl

/-- One that waits is pending still. -/
theorem resetShown_waiting (held : Nat) :
    (s.resetShown p held false true).fget (R.PRT_STATUS.image p) = 1 ∧ (s.resetShown p held false true).togus = s.togus := by
  unfold State.resetShown State.imageAfterReset
  rw [if_neg (by decide), if_pos rfl]
  refine ⟨?_, ?_⟩
  · rw [State.emit_fget, raise_fget, fget_fset_of_apart _ _ _ _ rfl]
    exact fget_fset_self _ _ _ rfl
  · rw [State.emit_togus, raise_togus, State.fset_togus]
    rfl

theorem touches_resetShown (hp : p < 16) (held : Nat) (applying waiting : Bool) :
    Touches sansRecovered OnForm s (s.resetShown p held applying waiting) := by
  have hstatus := onForm_prtStatus hp
  have hset (u : State) (f : Fld) (v : Nat) (hf : f.off = A.PRT_STATUS p) : Touches sansRecovered OnForm u (u.fset f v) :=
    (Touches.refl.fset (hf ▸ hstatus)).units.lost.recovered
  have hraise (u : State) (fn : Fn) (v : Nat) : Touches sansRecovered OnForm u (u.raise fn v) := (touches_raise fn v).units.lost.recovered
  have htogus (u : State) (x : Togus) : Touches sansRecovered OnForm u (u.withTogus x) := .of_regs rfl rfl
  have himage (u : State) : Touches sansRecovered OnForm u (u.imageAfterReset p applying waiting) := by
    unfold State.imageAfterReset
    split
    · exact (((htogus u _).trans (hset _ _ _ rfl)).trans (hset _ _ _ rfl)).trans (hraise _ _ _)
    · split
      · exact hset _ _ _ rfl
      · exact .refl
  exact ((((hset _ _ _ rfl).trans (himage _)).trans (hset _ _ _ rfl)).trans (hraise _ _ _)).trans (touches_emit _).units.lost.recovered

/-! RECOVERY_START. -/

/-- A pending image of the partition is held before it is applied, or the almanac holds the partition. -/
def State.heldOver (s : State) (p : Nat) : Bool :=
  s.togus.pending.any (fun i => i.partition == p && i.held && !i.applying) || (s.alm.held && bit s.alm.parts p)

/-- An image of the partition is pending. -/
def State.imageWaits (s : State) (p : Nat) : Bool := s.togus.pending.any (fun i => i.partition == p)

theorem recover_partition (s : State) (p : Nat) : s.recover (.partition p) =
    ((((s.almSourceLost p).reportOpen (srcPart p) codePartitionReset 3).resetPartition p).resetShown p (s.heldOver p).toNat (s.applying p)
      (s.imageWaits p)) := rfl

/-- The almanac and the report before the reset leave operations, memory and the structure's state. -/
theorem touches_beforeReset (p : Nat) : Touches sansAlm OnMaint s ((s.almSourceLost p).reportOpen (srcPart p) codePartitionReset 3) :=
  (touches_almSourceLost p).trans ((touches_reportOpen _ _ _).mono (fun _ h => .inr (.inr (.inr h)))).alm

theorem applying_congr (h : t.togus = s.togus) (p : Nat) : t.applying p = s.applying p ∧ t.imageWaits p = s.imageWaits p := by
  unfold State.applying State.imageWaits
  rw [h]
  exact ⟨rfl, rfl⟩

theorem not_onMaint_prt (hp : p < 16) : ¬ OnMaint (A.PRT_STATUS p) ∧ ¬ OnMaint (A.PRT_CNT p) := by
  unfold OnMaint OnLost A.PRT_STATUS A.PRT_CNT A.MNT_RESULT A.ALM_STATUS
  omega

/-- The clusters' masks and the LLM units of a partition are the structure's alone. -/
theorem clusterMask_congr (h : t.togus = s.togus) (p : Nat) : t.clusterMask p = s.clusterMask p :=
  calc t.clusterMask p = (State.reset.withTogus t.togus).clusterMask p := rfl
    _ = (State.reset.withTogus s.togus).clusterMask p := by rw [h]
    _ = s.clusterMask p := rfl

/-- A partition's recovery resets it: its status, its operations, its memory and its image. -/
theorem recoveryStart_partition {i : Nat} {r : Recovery} (hi : s.freeSlot = some i) (hr : s.nextRecovery = some r) (hc : CleanRegs s.regs)
    (hd : r.domain = .partition p) (hp : p < 16) :
    ∃ t, RecoveryBegins s t i r ∧ t.fget (R.PRT_STATUS.resetting p) = 1 ∧
      t.fget (R.PRT_CNT.resets p) = Nat.min (s.fget (R.PRT_CNT.resets p) + 1) 65535 ∧ .pldm 2 p ∈ t.out ∧
      (∀ j o, s.op j = some o → o.status = none → o.partition = p → EndedPartial o o.progress (t.op j)) ∧
      (∀ j o, s.op j = some o → (o.status ≠ none ∨ o.partition ≠ p) → t.op j = some o) ∧
      (∀ k, k < 128 → bit (s.clusterMask p) k = true → ∀ c, c / 4 = k → ∀ a, a < 0x400000 → t.byte (padBase c + a) = 0) ∧
      (∀ u, u < 64 → bit (s.llmMask p) u = true → ∀ a, a < 0x2000000 → t.byte (llmBase u + a) = 0) ∧
      (s.applying p = true → t.fget (R.PRT_STATUS.image p) = 0 ∧ t.fget (R.PRT_STATUS.code p) = 0x0F ∧
        ∀ im ∈ t.togus.pending, im.partition ≠ p) ∧
      (s.applying p = false → s.imageWaits p = true → t.fget (R.PRT_STATUS.image p) = 1 ∧ t.togus.pending = s.togus.pending) := by
  refine recoveryStart_of (W := fun _ => True) hi hr (fun s1 hmoved => ?_)
  obtain ⟨happlying, hwaits⟩ := applying_congr hmoved.togus p
  rw [hd, recover_partition, happlying, hwaits]
  have hbefore := touches_beforeReset (s := s1) p
  have hclean : CleanRegs s1.regs := hmoved.regs ▸ hc
  obtain ⟨hstatus, hcnt⟩ := not_onMaint_prt hp
  have hresets : ((s1.almSourceLost p).reportOpen (srcPart p) codePartitionReset 3).fget (R.PRT_CNT.resets p) = s.fget (R.PRT_CNT.resets p) := by
    rw [hbefore.fget hclean hcnt, State.fget, State.fget, State.reg, State.reg, hmoved.regs]
  generalize (s1.almSourceLost p).reportOpen (srcPart p) codePartitionReset 3 = v at hbefore hresets
  have htogus : v.togus = s.togus := hbefore.togus_of_alm.trans hmoved.togus
  have hop (j : Nat) : v.op j = s.op j := congrArg (assocGet (fun _ => none) · j) (hbefore.ops_of_alm.trans hmoved.ops)
  have hreset := touches_resetPartition (s := v) hp
  have hcleanv := hbefore.clean hclean
  have hcount := resetPartition_resets hp hcleanv
  have hops (j : Nat) := resetPartition_op (s := v) hp j
  have hz := onlyZeroes_resetPartition (s := v) hp
  have hpads (c a : Nat) (hk : c / 4 < 128) (hm : bit (s.clusterMask p) (c / 4) = true) (ha : a < 0x400000) :
      (v.resetPartition p).byte (padBase c + a) = 0 :=
    (onlyZeroes_formed hp).byte_eq_zero (partitionEmptied_pad hk ((clusterMask_congr htogus p).symm ▸ hm) rfl ha)
  have hllm (u a : Nat) (hu : u < 64) (hm : bit (s.llmMask p) u = true) (ha : a < 0x2000000) : (v.resetPartition p).byte (llmBase u + a) = 0 :=
    (onlyZeroes_formed hp).byte_eq_zero (partitionEmptied_llm hu ((llmMask_congr htogus p).symm ▸ hm) ha)
  generalize v.resetPartition p = w at hreset hcount hops hz hpads hllm
  generalize (s1.heldOver p).toNat = held
  have hshown := touches_resetShown (s := w) hp held (s.applying p) (s.imageWaits p)
  have hcleanu := hshown.clean (hreset.clean hcleanv)
  have hmem := resetShown_mem (s := w) (p := p) held (s.applying p) (s.imageWaits p)
  have hpending : w.togus = s.togus := hreset.togus_of_lost.trans htogus
  refine ⟨((hbefore.recovered_of_alm.mono (fun _ _ => trivial)).trans (hreset.recovered.mono (fun _ _ => trivial))).trans
      (hshown.mono (fun _ _ => trivial)), (OnlyZeroes.of_mem hbefore.mem_of_alm).trans (hz.trans (.of_mem hmem)),
    fun t hstop hout => ⟨?_, ?_, ?_, ?_, ?_, ?_, ?_, ?_, ?_⟩⟩
  · rw [hstop.fget hcleanu hstatus, resetShown_resetting]
  · rw [hstop.fget hcleanu hcnt, resetShown_fget (by simp only [R.PRT_CNT.resets, A.PRT_CNT, A.PRT_STATUS]; omega), hcount, hresets]
  · exact hout.subset (resetShown_event held _ _)
  · intro j o hj hlive hpart
    rw [hstop.units.op, resetShown_op, hops]
    exact endPartOps_partial p ((hop j).trans hj) hlive hpart
  · intro j o hj hnot
    rw [hstop.units.op, resetShown_op, hops]
    exact endPartOps_other p ((hop j).trans hj) hnot
  · rintro k hk hm c rfl a ha
    rw [hstop.byte]
    exact (OnlyZeroes.of_mem hmem).byte_eq_zero (hpads c a hk hm ha)
  · intro u hu hm a ha
    rw [hstop.byte]
    exact (OnlyZeroes.of_mem hmem).byte_eq_zero (hllm u a hu hm ha)
  · intro hyes
    rw [hyes] at hcleanu hstop
    obtain ⟨himage, hcode, hgone⟩ := resetShown_applying (s := w) (p := p) held (s.imageWaits p)
    refine ⟨(hstop.fget hcleanu hstatus).trans himage, (hstop.fget hcleanu hstatus).trans hcode, fun im him => ?_⟩
    rw [hstop.units.togus, hgone] at him
    simpa using (List.mem_filter.1 him).2
  · intro hno hyes
    rw [hno, hyes] at hcleanu hstop
    obtain ⟨himage, hsame⟩ := resetShown_waiting (s := w) (p := p) held
    exact ⟨(hstop.fget hcleanu hstatus).trans himage, by rw [hstop.units.togus, hsame, hpending]⟩

end

end Sys2Proof.Machine

/-! RECOVERY_COMPLETE: the units that failed, and the channels that wake (R492, R493, R498). -/
namespace Sys2Proof.Machine

/-- The state without what the retirement of failed units may change. -/
def sansFailed (s : State) : State := { sansLost s with portsRetired := [], llmRetired := [] }

section
variable {W : Nat → Prop} {s t : State}

theorem Touches.failed (h : Touches sansLost W s t) : Touches sansFailed W s t := h.weaken (fun _ => rfl)

/-- The state with other retired LLM units. -/
def State.withLlm (s : State) (l : List Nat) : State := { s with llmRetired := l }

theorem partOfLlm_lt {u p : Nat} (h : s.partOfLlm u = some p) : p < 16 := findPart_lt (f := fun p => bit (s.llmMask p) u) h

/-- What the retirement of a failed unit does, unit by unit. -/
theorem retireFailed_tcore (c : Nat) : s.retireFailed (.tcore c) = if s.tcoreUp c then s.retireTcore c else s := rfl

theorem retireFailed_pcore (c : Nat) : s.retireFailed (.pcore c) = if s.pcoreUp c then s.retirePcore c else s := rfl

theorem retireFailed_se (n : Nat) : s.retireFailed (.se n) = if s.seUp n then s.retireSe n else s := rfl

theorem retireFailed_llm (u : Nat) : s.retireFailed (.llmUnit u) = (s.withLlm (insertNat s.llmRetired u)).recount (s.partOfLlm u) := rfl

theorem touches_retireFailed (x : FailedUnit) : Touches sansFailed OnRetire s (s.retireFailed x) := by
  cases x with
  | tcore c => exact .then_if .refl (touches_retireTcore c).lost.failed
  | pcore c => exact .then_if .refl (touches_retirePcore c).lost.failed
  | se n => exact .then_if .refl (touches_retireSe n).lost_of_solves.failed
  | port n => exact .of_regs rfl rfl
  | llmUnit u =>
    rw [retireFailed_llm]
    exact .trans (t := s.withLlm (insertNat s.llmRetired u)) (.of_regs rfl rfl)
      ((touches_recount (fun _ hq => partOfLlm_lt hq)).mono (fun _ => .inr)).units.lost.failed
  | _ => exact .refl

/-! Units that are out stay out. -/

theorem pcore_coreCleared (c j : Nat) : (s.coreCleared c).pcore j = s.pcore j := rfl

theorem pcore_onCore (c : Nat) (f : TCore → TCore) (j : Nat) : (s.onCore c f).pcore j = s.pcore j := rfl

theorem pcore_retireTcore (c j : Nat) : (s.retireTcore c).pcore j = s.pcore j := by
  rw [(touches_coreRetiredBooks c).pcore, State.coreRetired, pcore_onCore, resetTcore_eq, (touches_coreWidth c).pcore, pcore_coreCleared,
    (touches_reportOpen _ _ _).pcore]

/-- A T-core is as it was, or out of service. -/
theorem tcore_retireFailed (x : FailedUnit) (c : Nat) :
    (s.retireFailed x).tcore c = s.tcore c ∨ ((s.retireFailed x).tcore c).cc.retired = true := by
  cases x with
  | tcore j =>
    rw [retireFailed_tcore]
    split
    · rw [tcore_retireTcore]
      split
      · exact .inr rfl
      · exact .inl rfl
    · exact .inl rfl
  | pcore j =>
    rw [retireFailed_pcore]
    split
    · exact .inl (tcore_retirePcore j c)
    · exact .inl rfl
  | se n =>
    rw [retireFailed_se]
    split
    · exact .inl (tcore_of_solves (touches_retireSe n) c)
    · exact .inl rfl
  | llmUnit u =>
    rw [retireFailed_llm]
    exact .inl ((touches_recount (fun _ hq => partOfLlm_lt hq)).tcore c)
  | _ => exact .inl rfl

/-- And so is a P core. -/
theorem pcore_retireFailed (x : FailedUnit) (c : Nat) :
    (s.retireFailed x).pcore c = s.pcore c ∨ ((s.retireFailed x).pcore c).retired = true := by
  cases x with
  | tcore j =>
    rw [retireFailed_tcore]
    split
    · exact .inl (pcore_retireTcore j c)
    · exact .inl rfl
  | pcore j =>
    rw [retireFailed_pcore]
    split
    · rw [pcore_retirePcore]
      split
      · exact .inr rfl
      · exact .inl rfl
    · exact .inl rfl
  | se n =>
    rw [retireFailed_se]
    split
    · exact .inl (congrArg (assocGet (fun _ => Jumbe.reset) · c) (touches_retireSe n).pcores_of_solves)
    · exact .inl rfl
  | llmUnit u =>
    rw [retireFailed_llm]
    exact .inl ((touches_recount (fun _ hq => partOfLlm_lt hq)).pcore c)
  | _ => exact .inl rfl

/-- The ports and LLM units out of service. -/
def State.outOfService (s : State) : List Nat × List Nat := (s.portsRetired, s.llmRetired)

theorem Touches.outOfService (h : Touches sansLost W s t) : t.outOfService = s.outOfService :=
  calc t.outOfService = (sansLost t).outOfService := rfl
    _ = (sansLost s).outOfService := by rw [h.rest]

/-- Ports and LLM units out of service stay so. -/
theorem outOfService_retireFailed (x : FailedUnit) :
    s.outOfService.1 ⊆ (s.retireFailed x).outOfService.1 ∧ s.outOfService.2 ⊆ (s.retireFailed x).outOfService.2 := by
  have hsame {t : State} (h : t.outOfService = s.outOfService) :
      s.outOfService.1 ⊆ t.outOfService.1 ∧ s.outOfService.2 ⊆ t.outOfService.2 := by
    rw [h]
    exact ⟨List.Subset.refl _, List.Subset.refl _⟩
  cases x with
  | tcore c => exact hsame (Touches.outOfService (.then_if .refl (touches_retireTcore c).lost))
  | pcore c => exact hsame (Touches.outOfService (.then_if .refl (touches_retirePcore c).lost))
  | se n => exact hsame (Touches.outOfService (.then_if .refl (touches_retireSe n).lost_of_solves))
  | port n => exact ⟨fun m hm => mem_insertNat.2 (.inr hm), List.Subset.refl _⟩
  | llmUnit u =>
    rw [retireFailed_llm, (touches_recount (fun _ hq => partOfLlm_lt hq)).units.lost.outOfService]
    exact ⟨List.Subset.refl _, fun m hm => mem_insertNat.2 (.inr hm)⟩
  | _ => exact hsame rfl

theorem mem_retireFailed_port (n : Nat) : n ∈ (s.retireFailed (.port n)).outOfService.1 := mem_insertNat.2 (.inl rfl)

theorem mem_retireFailed_llm (u : Nat) : u ∈ (s.retireFailed (.llmUnit u)).outOfService.2 := by
  rw [retireFailed_llm, (touches_recount (fun _ hq => partOfLlm_lt hq)).units.lost.outOfService]
  exact mem_insertNat.2 (.inl rfl)

/-! Over a list of failed units. -/

/-- What the retirement of one unit brings about, and that of no unit undoes, holds after the list; until then a condition that
none takes away, unless it brings it about, may be needed. -/
theorem foldl_retireFailed {P Q : State → Prop} {x : FailedUnit} {l : List FailedUnit} (hx : x ∈ l)
    (hstay : ∀ u y, P u → P (u.retireFailed y)) (hkeep : ∀ u y, CleanRegs u.regs → Q u → P (u.retireFailed y) ∨ Q (u.retireFailed y))
    (hput : ∀ u, Q u → P (u.retireFailed x)) (hc : CleanRegs s.regs) (hQ : Q s) : P (l.foldl State.retireFailed s) := by
  have hrest (m : List FailedUnit) (u : State) (hu : P u) : P (m.foldl State.retireFailed u) := by
    induction m generalizing u with
    | nil => exact hu
    | cons y rest ih => exact ih _ (hstay u y hu)
  induction l generalizing s with
  | nil => cases hx
  | cons y rest ih =>
    rw [List.foldl_cons]
    obtain rfl | hx := List.mem_cons.1 hx
    · exact hrest _ _ (hput s hQ)
    · obtain hP | hQ := hkeep s y hc hQ
      · exact hrest _ _ hP
      · exact ih hx ((touches_retireFailed y).clean hc) hQ

theorem Touches.nv_of_failed (h : Touches sansFailed W s t) : t.nv = s.nv :=
  calc t.nv = (sansFailed t).nv := rfl
    _ = (sansFailed s).nv := by rw [h.rest]

/-- The dies in service are the same where registers of units and counts alone are written. -/
theorem dieOut_of_failed (h : Touches sansFailed OnRetire s t) (hc : CleanRegs s.regs) (d : Nat) : t.dieOut d = s.dieOut d := by
  have hnot (off : Nat) (hoff : off < 0x38) : ¬ OnRetire off := by
    unfold OnRetire OnUnits OnCounts OnPackage OnLost
    omega
  unfold State.dieOut
  rw [h.fget hc (hnot _ (by decide)), h.fget hc (hnot _ (by decide))]

theorem tcoreUp_of_failed (h : Touches sansFailed OnRetire s t) (hc : CleanRegs s.regs) {c : Nat} (hcore : t.tcore c = s.tcore c) :
    t.tcoreUp c = s.tcoreUp c := by
  unfold State.tcoreUp
  rw [hcore, h.nv_of_failed, dieOut_of_failed h hc]

theorem pcoreUp_of_failed (h : Touches sansFailed OnRetire s t) (hc : CleanRegs s.regs) {c : Nat} (hcore : t.pcore c = s.pcore c) :
    t.pcoreUp c = s.pcoreUp c := by
  unfold State.pcoreUp
  rw [hcore, h.nv_of_failed, dieOut_of_failed h hc]

/-- A T-core in service that failed is retired. -/
theorem foldl_retireFailed_tcore {l : List FailedUnit} {c : Nat} (hx : .tcore c ∈ l) (hc : CleanRegs s.regs) (hup : s.tcoreUp c = true) :
    ((l.foldl State.retireFailed s).tcore c).cc.retired = true := by
  refine foldl_retireFailed (P := fun u => (u.tcore c).cc.retired = true) (Q := fun u => u.tcoreUp c = true) hx (fun u y hu => ?_)
    (fun u y hclean hu => ?_) (fun u hu => ?_) hc hup
  · obtain h | h := tcore_retireFailed (s := u) y c
    · rw [h, hu]
    · exact h
  · obtain h | h := tcore_retireFailed (s := u) y c
    · exact .inr ((tcoreUp_of_failed (touches_retireFailed y) hclean h).trans hu)
    · exact .inl h
  · rw [retireFailed_tcore, if_pos hu, tcore_retireTcore, if_pos rfl]
    rfl

/-- A P core in service that failed is retired. -/
theorem foldl_retireFailed_pcore {l : List FailedUnit} {c : Nat} (hx : .pcore c ∈ l) (hc : CleanRegs s.regs) (hup : s.pcoreUp c = true) :
    ((l.foldl State.retireFailed s).pcore c).retired = true := by
  refine foldl_retireFailed (P := fun u => (u.pcore c).retired = true) (Q := fun u => u.pcoreUp c = true) hx (fun u y hu => ?_)
    (fun u y hclean hu => ?_) (fun u hu => ?_) hc hup
  · obtain h | h := pcore_retireFailed (s := u) y c
    · rw [h, hu]
    · exact h
  · obtain h | h := pcore_retireFailed (s := u) y c
    · exact .inr ((pcoreUp_of_failed (touches_retireFailed y) hclean h).trans hu)
    · exact .inl h
  · rw [retireFailed_pcore, if_pos hu, pcore_retirePcore, if_pos rfl]

theorem foldl_retireFailed_port {l : List FailedUnit} {n : Nat} (hx : .port n ∈ l) (hc : CleanRegs s.regs) :
    n ∈ (l.foldl State.retireFailed s).outOfService.1 :=
  foldl_retireFailed (P := fun u => n ∈ u.outOfService.1) (Q := fun _ => True) hx (fun _ y hu => (outOfService_retireFailed y).1 hu)
    (fun _ _ _ h => .inr h) (fun _ _ => mem_retireFailed_port n) hc trivial

theorem foldl_retireFailed_llm {l : List FailedUnit} {n : Nat} (hx : .llmUnit n ∈ l) (hc : CleanRegs s.regs) :
    n ∈ (l.foldl State.retireFailed s).outOfService.2 :=
  foldl_retireFailed (P := fun u => n ∈ u.outOfService.2) (Q := fun _ => True) hx (fun _ y hu => (outOfService_retireFailed y).2 hu)
    (fun _ _ _ h => .inr h) (fun _ _ => mem_retireFailed_llm n) hc trivial

theorem touches_retireAll (l : List FailedUnit) : Touches sansFailed OnRetire s (l.foldl State.retireFailed s) :=
  .foldl (fun _ x _ => touches_retireFailed x) s

/-! Channels that wake. -/

/-- A reading that the channels do not bear on is the same after the stacks wake. -/
theorem wakeStacks_reads {β : Type} (g : State → β) (hg : ∀ u c v, g (State.setChan u c v) = g u) : g s.wakeStacks = g s := by
  unfold State.wakeStacks
  split
  · rfl
  · exact foldl_reads (fun u n _ => stackRefresh_reads g hg n false) s

theorem chanTrained_stackRefresh (n g : Nat) (on : Bool) : (s.stackRefresh n on).chanTrained g = s.chanTrained g :=
  stackRefresh_reads (fun u => u.chanTrained g) (fun _ _ _ => rfl) n on

/-- A channel that left self-refresh stays out of it as others do. -/
theorem stackRefresh_stays {n g : Nat} {on : Bool} (h : (s.chan g).selfRefresh = on) : ((s.stackRefresh n on).chan g).selfRefresh = on := by
  unfold State.stackRefresh
  generalize List.filter _ _ = l
  induction l generalizing s with
  | nil => exact h
  | cons c rest ih =>
    refine ih ?_
    by_cases hc : c = g
    · subst hc
      exact congrArg Channel.selfRefresh (State.chan_setChan_same _ _ _)
    · exact (congrArg Channel.selfRefresh (State.chan_setChan_other _ _ _ _ hc)).trans h

/-- The channels of a stack that no recovery holds leave self-refresh. -/
theorem wakeStacks_chan {n g : Nat} (hphase : s.ecl.phase = 0) (hnight : s.nwt.night = false) (hn : n < 8)
    (hfree : ∀ x ∈ s.recs, x.domain ≠ .stack n) (hg : g / 8 = n) (htrained : s.chanTrained g = true) :
    ((s.wakeStacks).chan g).selfRefresh = false := by
  have hmem : n ∈ (List.range 8).filter (fun n => !(s.recs.any (fun r => r.domain == .stack n))) := by
    refine List.mem_filter.2 ⟨List.mem_range.2 hn, ?_⟩
    rw [Bool.not_eq_true', List.any_eq_false]
    exact fun x hx heq => hfree x hx (eq_of_beq heq)
  unfold State.wakeStacks
  rw [if_neg (by rw [hphase, hnight]; decide)]
  generalize (List.range 8).filter (fun n => !(s.recs.any (fun r => r.domain == .stack n))) = l at hmem
  clear hphase hnight hfree
  induction l generalizing s with
  | nil => cases hmem
  | cons m rest ih =>
    rw [List.foldl_cons]
    obtain rfl | hmem := List.mem_cons.1 hmem
    · have hwoken := stackRefresh_chan (n := n) false hg htrained
      generalize s.stackRefresh n false = u at hwoken
      clear ih htrained
      induction rest generalizing u with
      | nil => exact hwoken
      | cons m rest ih => exact ih List.mem_cons_self _ (stackRefresh_stays hwoken)
    · exact ih ((chanTrained_stackRefresh m g false).trans htrained) hmem

end

end Sys2Proof.Machine

/-! RECOVERY_COMPLETE: lost work that is reissued or given up (R499). -/
namespace Sys2Proof.Machine

/-- The state without its operations. -/
def sansOps (s : State) : State := { s with ops := [], endCount := 0 }

section
variable {s t u : State} {j : Nat} {o : Op}

/-! Operations alone are changed. -/

theorem sansOps_onOp (k : Nat) (f : Op → Op) : sansOps (s.onOp k f) = sansOps s := by
  unfold State.onOp
  split <;> rfl

theorem sansOps_flagOp (k flags : Nat) : sansOps (s.flagOp k flags) = sansOps s := sansOps_onOp k _

theorem sansOps_setOp (k : Nat) (o : Option Op) : sansOps (s.setOp k o) = sansOps s := rfl

theorem sansOps_endOp (k status : Nat) : sansOps (s.endOp k status) = sansOps s := by
  unfold State.endOp State.closeOp
  split
  · split <;> rfl
  · rfl

theorem partTcores_of_ops (h : sansOps t = sansOps s) (p : Nat) : t.partTcores p = s.partTcores p :=
  calc t.partTcores p = (sansOps t).partTcores p := rfl
    _ = (sansOps s).partTcores p := by rw [h]
    _ = s.partTcores p := rfl

theorem fget_of_ops (h : sansOps t = sansOps s) (f : Fld) : t.fget f = s.fget f :=
  calc t.fget f = (sansOps t).fget f := rfl
    _ = (sansOps s).fget f := by rw [h]

/-- The work of a partition may go to another T-core: reissue is automatic there, and one is left. -/
def State.mayReissue (s : State) (p : Nat) : Prop := s.fget (R.PRT_CTL.auto_reissue p) = 1 ∧ s.partTcores p ≠ []

theorem auto_lt (p : Nat) : s.fget (R.PRT_CTL.auto_reissue p) < 2 := fget_lt s (R.PRT_CTL.auto_reissue p)

theorem canReissue_iff (o : Op) : s.canReissue o = true ↔ s.partTcores o.partition ≠ [] := by
  unfold State.canReissue
  rw [Bool.not_eq_true', List.isEmpty_eq_false_iff]

theorem autoReissue_iff (p : Nat) : s.fon (R.PRT_CTL.auto_reissue p) = true ↔ s.fget (R.PRT_CTL.auto_reissue p) = 1 := by
  have hlt := auto_lt (s := s) p
  rw [fon_eq_true]
  omega

/-! Transfers. -/

theorem sansOps_reissue (k n : Nat) : sansOps (s.reissue k n) = sansOps s := by
  unfold State.reissue
  split
  · rfl
  · split
    · rfl
    · split
      · rfl
      · rw [sansOps_endOp, sansOps_flagOp]

theorem op_reissue_other {k : Nat} (n : Nat) (h : k ≠ j) : (s.reissue k n).op j = s.op j := by
  unfold State.reissue
  split
  · rfl
  · split
    · rfl
    · split
      · exact State.op_setOp_other _ _ _ _ h
      · rw [op_endOp_other _ h, op_flagOp_other _ h]

/-- An operation whose remainder of `n` elements is reissued. -/
def Op.reissuedBy (o : Op) (n : Nat) : Op :=
  { o with reissues := o.reissues + 1, aux := Nat.min (o.aux + n) 65535, classFlags := o.classFlags ||| flagReissued }

theorem op_reissue_again {n : Nat} (h : s.op j = some o) (hlive : o.status = none) (hn : n ≠ 0) (hmay : s.mayReissue o.partition)
    (htwice : o.reissues < 2) : (s.reissue j n).op j = some (o.reissuedBy n) := by
  have hgo : (s.fon (R.PRT_CTL.auto_reissue o.partition) && decide (o.reissues < 2) && s.canReissue o) = true := by
    rw [(autoReissue_iff _).2 hmay.1, (canReissue_iff o).2 hmay.2, decide_eq_true htwice]
    rfl
  have hruns : ¬ (o.status.isSome || n == 0) = true := by
    rw [hlive]
    simp [hn]
  unfold State.reissue
  rw [h]
  dsimp only
  rw [if_neg hruns, if_pos hgo]
  exact State.op_setOp_same s j (some (o.reissuedBy n))

theorem op_reissue_ends {n : Nat} (h : s.op j = some o) (hlive : o.status = none) (hn : n ≠ 0)
    (hnot : ¬ s.mayReissue o.partition ∨ 2 ≤ o.reissues) : EndedPartial o o.progress ((s.reissue j n).op j) := by
  have hstop : ¬ (s.fon (R.PRT_CTL.auto_reissue o.partition) && decide (o.reissues < 2) && s.canReissue o) = true := by
    rw [Bool.and_eq_true, Bool.and_eq_true, autoReissue_iff, canReissue_iff, decide_eq_true_eq]
    rintro ⟨⟨hauto, htwice⟩, hcores⟩
    obtain hnot | hnot := hnot
    · exact hnot ⟨hauto, hcores⟩
    · omega
  unfold State.reissue
  rw [h]
  dsimp only
  rw [hlive, if_neg (by simp [hn]), if_neg hstop]
  exact endedPartial_live h hlive

/-- A transfer that restarts after what it has committed. -/
def Xfer.restarted (x : Xfer) (core : Nat) : Xfer := { x with issued := x.committed, inFlight := [], core := core }

theorem op_restartXfer {x : Xfer} (h : s.op j = some o) (hx : o.xfer = some x) :
    (s.restartXfer j).op j = some { o with xfer := some (x.restarted ((s.partTcores o.partition).getD 0 x.core)) } := by
  unfold State.restartXfer
  rw [op_onOp_same h, hx]
  rfl

theorem EndedPartial.restartXfer {progress : Word} (h : EndedPartial o progress (s.op j)) : EndedPartial o progress ((s.restartXfer j).op j) := by
  obtain ⟨y, hy, hfields⟩ := h
  unfold State.restartXfer
  rw [op_onOp_same hy]
  split
  · exact ⟨_, rfl, hfields⟩
  · exact ⟨y, rfl, hfields⟩

/-- The transfer of a slot that used the core. -/
def State.reissueXfer (s : State) (k : Nat) : State :=
  match s.op k with
  | some o => (match o.xfer with | some x => (s.reissue k (x.total - x.committed)).restartXfer k | none => s)
  | none => s

/-- The tiles of a slot that the core worked on. -/
def State.reissueWork (s : State) (c k : Nat) : State :=
  match s.op k with
  | some o => s.reissueTiles k ((o.work.filter (fun w => w.2 == c)).map Prod.fst)
  | none => s

/-- The transfer uses the core. -/
def Op.usesCore (o : Op) (c : Nat) : Bool := match o.xfer with | some x => x.core == c | none => false

/-- The operations after those whose transfers used the core. -/
def State.xfersReissued (s : State) (c : Nat) : State := (s.liveOps (fun o => o.usesCore c)).foldl State.reissueXfer s

theorem reissueCore_eq (c : Nat) : s.reissueCore c =
    ((s.xfersReissued c).liveOps (fun o => o.work.any (fun w => w.2 == c))).foldl (fun s k => s.reissueWork c k) (s.xfersReissued c) := rfl

theorem sansOps_reissueXfer (k : Nat) : sansOps (s.reissueXfer k) = sansOps s := by
  unfold State.reissueXfer
  split
  · split
    · exact (sansOps_onOp k _).trans (sansOps_reissue k _)
    · rfl
  · rfl

theorem op_reissueXfer_other {k : Nat} (h : k ≠ j) : (s.reissueXfer k).op j = s.op j := by
  unfold State.reissueXfer
  split
  · split
    · exact (op_onOp_other _ h).trans (op_reissue_other _ h)
    · rfl
  · rfl

theorem reissueXfer_eq {x : Xfer} (h : s.op j = some o) (hx : o.xfer = some x) :
    s.reissueXfer j = (s.reissue j (x.total - x.committed)).restartXfer j := by
  unfold State.reissueXfer
  rw [h]
  dsimp only
  rw [hx]

/-! Tiles. -/

/-- An operation without the tiles that a lost core worked on. -/
def Op.sansTiles (o : Op) (ts : List Nat) : Op :=
  { o with
    work := o.work.filter (fun w => !ts.contains w.1), stores := o.stores.filter (fun x => !ts.contains x.1),
    parts := if ts.any (fun t => o.partsTile == some t) then [] else o.parts,
    partsTile := if ts.any (fun t => o.partsTile == some t) then none else o.partsTile }

/-- Tiles that are given again. -/
def Op.tilesAgain (o : Op) (ts : List Nat) : Op :=
  { o.sansTiles ts with
    reissues := o.reissues + 1, aux := Nat.min (o.aux + ts.length) 65535, classFlags := o.classFlags ||| flagReissued,
    again := ts.foldl (fun a t => assocSet (fun _ => 0) a t (assocGet (fun _ => 0) a t + 1)) o.again }

theorem reissueTiles_eq (h : s.op j = some o) (ts : List Nat) : s.reissueTiles j ts =
    if ts.isEmpty then s
    else if !s.fon (R.PRT_CTL.auto_reissue o.partition) then
      (s.setOp j (some { o.sansTiles ts with given := (o.sansTiles ts).given ||| maskOf ts })).flagOp j flagHard
    else if s.canReissue o && ts.all (fun t => decide (assocGet (fun _ => 0) o.again t < 2)) then s.setOp j (some (o.tilesAgain ts))
    else ((s.setOp j (some (o.sansTiles ts))).flagOp j flagHard).endOp j stPartial := by
  unfold State.reissueTiles
  rw [h]
  rfl

theorem sansOps_reissueTiles (k : Nat) (ts : List Nat) : sansOps (s.reissueTiles k ts) = sansOps s := by
  rcases h : s.op k with _ | o
  · unfold State.reissueTiles
    rw [h]
  · rw [reissueTiles_eq h]
    split
    · rfl
    · split
      · rw [sansOps_flagOp, sansOps_setOp]
      · split
        · rfl
        · rw [sansOps_endOp, sansOps_flagOp, sansOps_setOp]

theorem op_reissueTiles_other {k : Nat} (ts : List Nat) (hk : k ≠ j) : (s.reissueTiles k ts).op j = s.op j := by
  rcases h : s.op k with _ | o
  · unfold State.reissueTiles
    rw [h]
  · rw [reissueTiles_eq h]
    split
    · rfl
    · split
      · rw [op_flagOp_other _ hk, State.op_setOp_other _ _ _ _ hk]
      · split
        · exact State.op_setOp_other _ _ _ _ hk
        · rw [op_endOp_other _ hk, op_flagOp_other _ hk, State.op_setOp_other _ _ _ _ hk]

theorem sansOps_reissueWork (c k : Nat) : sansOps (s.reissueWork c k) = sansOps s := by
  unfold State.reissueWork
  split
  · exact sansOps_reissueTiles k _
  · rfl

theorem op_reissueWork_other {c k : Nat} (hk : k ≠ j) : (s.reissueWork c k).op j = s.op j := by
  unfold State.reissueWork
  split
  · exact op_reissueTiles_other _ hk
  · rfl

/-! Every slot once. -/

/-- A change that names each slot once finds an operation as it was, in a state that differs in operations only. -/
theorem op_foldl_once {f : State → Nat → State} {P : Option Op → Prop} {l : List Nat} (hother : ∀ t k, k ≠ j → (f t k).op j = t.op j)
    (hsame : ∀ t k, sansOps (f t k) = sansOps t) (hput : ∀ t, sansOps t = sansOps s → t.op j = s.op j → P ((f t j).op j))
    (hj : j ∈ l) (hnodup : l.Nodup) : P ((l.foldl f s).op j) := by
  obtain ⟨before, after, rfl⟩ := List.append_of_mem hj
  have hafter : j ∉ after := (List.nodup_cons.1 (List.nodup_append.1 hnodup).2.1).1
  have hbefore : j ∉ before := fun hmem => (List.nodup_append.1 hnodup).2.2 j hmem j List.mem_cons_self rfl
  rw [List.foldl_append, List.foldl_cons, op_foldl_other hother hafter]
  exact hput _ (foldl_reads (fun t k _ => hsame t k) s) (op_foldl_other hother hbefore)

theorem liveOps_nodup (h : (s.ops.map Prod.fst).Nodup) (f : Op → Bool) : (s.liveOps f).Nodup := h.filter _

/-- A change that names a slot at least once, where a second change of the slot keeps what is told. -/
theorem op_foldl_stable {f : State → Nat → State} {P : Option Op → Prop} {l : List Nat} (hother : ∀ t k, k ≠ j → (f t k).op j = t.op j)
    (hsame : ∀ t k, sansOps (f t k) = sansOps t) (hput : ∀ t, sansOps t = sansOps s → t.op j = s.op j → P ((f t j).op j))
    (hstay : ∀ t, P (t.op j) → P ((f t j).op j)) (hj : j ∈ l) : P ((l.foldl f s).op j) := by
  induction l generalizing s with
  | nil => cases hj
  | cons k rest ih =>
    rw [List.foldl_cons]
    by_cases hk : k = j
    · subst hk
      by_cases hrest : k ∈ rest
      · exact op_foldl hother (fun t ht => hstay t (ht ▸ hput s rfl rfl)) hstay hrest
      · rw [op_foldl_other hother hrest]
        exact hput s rfl rfl
    · obtain hj | hj := List.mem_cons.1 hj
      · exact absurd hj.symm hk
      · exact ih (fun t ht hop => hput t (ht.trans (hsame s k)) (hop.trans (hother s k hk))) hj

/-! Both kinds of lost work, by operation. -/

theorem sansOps_xfersReissued (c : Nat) : sansOps (s.xfersReissued c) = sansOps s := foldl_reads (fun _ k _ => sansOps_reissueXfer k) s

theorem sansOps_reissueCore (c : Nat) : sansOps (s.reissueCore c) = sansOps s := by
  rw [reissueCore_eq]
  exact (foldl_reads (fun t k _ => sansOps_reissueWork c k) _).trans (sansOps_xfersReissued c)

/-- What becomes of an operation whose transfer used the core and which has no tiles. -/
theorem op_reissueCore_xfer {P : Option Op → Prop} {c : Nat} {x : Xfer} (h : s.op j = some o) (hlive : o.status = none)
    (hslots : (s.ops.map Prod.fst).Nodup) (hx : o.xfer = some x) (hcore : x.core = c)
    (hput : ∀ t, sansOps t = sansOps s → t.op j = some o → P (((t.reissue j (x.total - x.committed)).restartXfer j).op j))
    (hidle : ∀ y, P (some y) → y.status ≠ none ∨ y.work = []) (hkept : ¬ P none) : P ((s.reissueCore c).op j) := by
  have hmem : j ∈ s.liveOps (fun o => o.usesCore c) := by
    rw [mem_liveOps h, Op.usesCore, hx]
    exact ⟨hlive, beq_iff_eq.2 hcore⟩
  have hfirst : P ((s.xfersReissued c).op j) := by
    refine op_foldl_once (fun t k hk => op_reissueXfer_other hk) (fun t k => sansOps_reissueXfer k) (fun t ht hop => ?_) hmem
      (liveOps_nodup hslots _)
    rw [reissueXfer_eq (hop.trans h) hx]
    exact hput t ht (hop.trans h)
  rw [reissueCore_eq]
  rcases hy : (s.xfersReissued c).op j with _ | y
  · rw [hy] at hfirst
    exact absurd hfirst hkept
  · rw [op_foldl_other (fun t k hk => op_reissueWork_other hk)]
    · exact hfirst
    · rw [mem_liveOps hy]
      rintro ⟨hruns, htiles⟩
      obtain hended | hnone := hidle y (hy ▸ hfirst)
      · exact hended hruns
      · rw [hnone] at htiles
        cases htiles

/-- The tiles of an operation that a T-core worked on. -/
def Op.lostTiles (o : Op) (c : Nat) : List Nat := (o.work.filter (fun w => w.2 == c)).map Prod.fst

theorem sansTiles_work (o : Op) (c : Nat) : ∀ w ∈ (o.sansTiles (o.lostTiles c)).work, w.2 ≠ c := by
  intro w hw hc
  obtain ⟨hmem, hkept⟩ := List.mem_filter.1 hw
  have hlost : w.1 ∈ o.lostTiles c := List.mem_map.2 ⟨w, List.mem_filter.2 ⟨hmem, beq_iff_eq.2 hc⟩, rfl⟩
  rw [List.contains_iff_mem.2 hlost] at hkept
  cases hkept

theorem reissueWork_spent {c : Nat} (h : s.op j = some o) (hnone : ∀ w ∈ o.work, w.2 ≠ c) : s.reissueWork c j = s := by
  have hempty : o.work.filter (fun w => w.2 == c) = [] := List.filter_eq_nil_iff.2 (fun w hw => by simpa using hnone w hw)
  unfold State.reissueWork
  rw [h]
  dsimp only
  rw [hempty, List.map_nil, reissueTiles_eq h]
  rfl

/-- What becomes of an operation that has no transfer and whose tiles the core worked on. -/
theorem op_reissueCore_tiles {P : Op → Prop} {c : Nat} (h : s.op j = some o) (hlive : o.status = none) (hx : o.xfer = none)
    (hlost : ∃ w ∈ o.work, w.2 = c)
    (hput : ∀ t, sansOps t = sansOps s → t.op j = some o →
      ∃ y, (t.reissueTiles j (o.lostTiles c)).op j = some y ∧ y.work = (o.sansTiles (o.lostTiles c)).work ∧ P y) :
    ∃ y, (s.reissueCore c).op j = some y ∧ y.work = (o.sansTiles (o.lostTiles c)).work ∧ P y := by
  have hfirst : (s.xfersReissued c).op j = some o := by
    refine (op_foldl_other (fun t k hk => op_reissueXfer_other hk) ?_).trans h
    rw [mem_liveOps h, Op.usesCore, hx]
    exact fun hboth => Bool.false_ne_true hboth.2
  have hmem : j ∈ (s.xfersReissued c).liveOps (fun o => o.work.any (fun w => w.2 == c)) := by
    obtain ⟨w, hw, hwc⟩ := hlost
    exact (mem_liveOps hfirst _).2 ⟨hlive, List.any_eq_true.2 ⟨w, hw, beq_iff_eq.2 hwc⟩⟩
  have hwork (t : State) (ht : t.op j = some o) : t.reissueWork c j = t.reissueTiles j (o.lostTiles c) := by
    unfold State.reissueWork
    rw [ht]
    rfl
  rw [reissueCore_eq]
  refine op_foldl_stable (P := fun x => ∃ y, x = some y ∧ y.work = (o.sansTiles (o.lostTiles c)).work ∧ P y)
    (fun t k hk => op_reissueWork_other hk) (fun t k => sansOps_reissueWork c k) (fun t ht hop => ?_) (fun t hdone => ?_) hmem
  · rw [hwork t (hop.trans hfirst)]
    exact hput t (ht.trans (sansOps_xfersReissued c)) (hop.trans hfirst)
  · obtain ⟨y, hy, hywork, hP⟩ := hdone
    rw [reissueWork_spent hy (hywork ▸ sansTiles_work o c)]
    exact ⟨y, hy, hywork, hP⟩

end

end Sys2Proof.Machine

/-! RECOVERY_COMPLETE (R492, R493, R498, R499). -/
namespace Sys2Proof.Machine

/-- The slot is free. -/
def State.slotFreed (s : State) (i : Nat) : State := { s with recs := s.recs.filter (fun x => x.slot != i) }

/-- What failed is retired, and the work of the T-cores that were reset is reissued or given up. -/
def State.lossesHandled (s : State) (i : Nat) (failed : List FailedUnit) (d : Domain) : State :=
  (lostCores d).foldl State.reissueCore (failed.foldl State.retireFailed (s.slotFreed i))

/-- The domain leaves its reset. -/
def State.resetEnded (s : State) (d : Domain) : State :=
  match d with
  | .partition p => ((s.fset (R.PRT_STATUS.resetting p) 0).raise (.pf 0) (16 + p)).wakeStacks
  | .stack _ => s.wakeStacks
  | _ => s

section
variable {s t u : State} {i j : Nat} {r : Recovery} {o : Op} {failed : List FailedUnit}

theorem exec_recoveryComplete (h : s.recs.find? (fun x => x.slot == i) = some r) (failed : List FailedUnit) :
    exec (.recoveryComplete i failed) s = .next ((s.lossesHandled i failed r.domain).resetEnded r.domain) := by
  show execRecoveryComplete i failed s = _
  unfold execRecoveryComplete
  rw [h]
  obtain ⟨domain, slot, start, retire⟩ := r
  cases domain <;> rfl

theorem exec_recoveryComplete_idle (h : ∀ r ∈ s.recs, r.slot ≠ i) (failed : List FailedUnit) :
    exec (.recoveryComplete i failed) s = .next s := by
  have hnone : s.recs.find? (fun x => x.slot == i) = none := List.find?_eq_none.2 (fun r hr heq => h r hr (eq_of_beq heq))
  show execRecoveryComplete i failed s = _
  unfold execRecoveryComplete
  rw [hnone]

/-! The end of the reset. -/

/-- A reading that registers, channels, vectors and messages do not bear on is the same after the reset ends. -/
theorem resetEnded_reads {β : Type} (g : State → β) (hreg : ∀ u off w, g (State.setReg u off w) = g u)
    (hchan : ∀ u c v, g (State.setChan u c v) = g u) (hraise : ∀ u fn v, g (State.raise u fn v) = g u) (d : Domain) :
    g (s.resetEnded d) = g s := by
  unfold State.resetEnded
  split
  · rw [wakeStacks_reads g hchan, hraise]
    exact hreg s _ _
  · exact wakeStacks_reads g hchan
  · rfl

/-- What the books leave out of sight is the same after the reset ends. -/
theorem resetEnded_books {β : Type} (g : State → β) (hg : ∀ u, g (sansBooks u) = g u) (hreg : ∀ u off w, g (State.setReg u off w) = g u)
    (hchan : ∀ u c v, g (State.setChan u c v) = g u) (d : Domain) : g (s.resetEnded d) = g s :=
  resetEnded_reads g hreg hchan (fun u fn v => by rw [← hg, (touches_raise (W := fun _ => True) fn v).rest, hg]) d

theorem resetEnded_partition (p : Nat) : (s.resetEnded (.partition p)).fget (R.PRT_STATUS.resetting p) = 0 := by
  show (State.wakeStacks _).fget _ = 0
  rw [wakeStacks_reads (fun u => u.fget (R.PRT_STATUS.resetting p)) (fun _ _ _ => rfl), State.fget, raise_reg]
  exact fget_fset_self s (R.PRT_STATUS.resetting p) 0 rfl

/-- The channels of a stack that nothing holds leave self-refresh. -/
theorem resetEnded_chan {d : Domain} {n g : Nat} (hd : ∃ k, d = .stack k ∨ d = .partition k) (hphase : s.ecl.phase = 0)
    (hnight : s.nwt.night = false) (hn : n < 8) (hfree : ∀ x ∈ s.recs, x.domain ≠ .stack n) (hg : g / 8 = n)
    (htrained : s.chanTrained g = true) : ((s.resetEnded d).chan g).selfRefresh = false := by
  obtain ⟨k, rfl | rfl⟩ := hd
  · exact wakeStacks_chan hphase hnight hn hfree hg htrained
  · have hraise := touches_raise (W := fun _ => True) (s := s.fset (R.PRT_STATUS.resetting k) 0) (.pf 0) (16 + k)
    have hstate : ((s.fset (R.PRT_STATUS.resetting k) 0).raise (.pf 0) (16 + k)).chanTrained g = s.chanTrained g := by
      unfold State.chanTrained
      rw [State.fget, raise_reg]
      exact congrArg (fun v => v == 2 || v == 3) (fget_fset_of_apart s (R.PRT_STATUS.resetting k) (R.GDM_CH_STATUS.state g) 0 rfl)
    refine wakeStacks_chan ?_ ?_ hn (fun x hx => hfree x ?_) hg (hstate.trans htrained)
    · exact (congrArg (fun u => u.ecl.phase) hraise.rest).trans hphase
    · exact (congrArg (fun u => u.nwt.night) hraise.rest).trans hnight
    · exact (congrArg State.recs hraise.rest) ▸ hx

/-! The clauses on the slot, the units and the domain. -/

theorem lossesHandled_sansOps (d : Domain) :
    sansOps (s.lossesHandled i failed d) = sansOps (failed.foldl State.retireFailed (s.slotFreed i)) :=
  foldl_reads (fun _ c _ => sansOps_reissueCore c) _

/-- What neither operations nor the retirement of units bears on is as it was once the slot is free. -/
theorem lossesHandled_reads {β : Type} (g : State → β) (hops : ∀ u, g (sansOps u) = g u) (hfailed : ∀ u, g (sansFailed u) = g u) (d : Domain) :
    g (s.lossesHandled i failed d) = g (s.slotFreed i) :=
  calc g (s.lossesHandled i failed d) = g (failed.foldl State.retireFailed (s.slotFreed i)) := by
        rw [← hops, lossesHandled_sansOps, hops]
    _ = g (s.slotFreed i) := by rw [← hfailed, (touches_retireAll failed).rest, hfailed]

theorem lossesHandled_chanTrained (hc : CleanRegs s.regs) (d : Domain) {g : Nat} (hg : g < 64) :
    (s.lossesHandled i failed d).chanTrained g = s.chanTrained g := by
  refine chanTrained_congr (fun off hlow hhigh => ?_) hg
  have hnot : ¬ OnRetire off := by
    unfold OnRetire OnUnits OnCounts OnPackage OnLost
    omega
  calc (s.lossesHandled i failed d).reg off = (sansOps (s.lossesHandled i failed d)).reg off := rfl
    _ = (failed.foldl State.retireFailed (s.slotFreed i)).reg off := by rw [lossesHandled_sansOps]; rfl
    _ = (s.slotFreed i).reg off := (touches_retireAll (s := s.slotFreed i) failed).reg hc off hnot
    _ = s.reg off := rfl

/-- What a completed recovery leaves of the slots, the units that failed and the domain. -/
structure RecoveryEnds (s t : State) (i : Nat) (failed : List FailedUnit) (d : Domain) : Prop where
  recs : t.recs = s.recs.filter (fun x => x.slot != i)
  recq : t.recq = s.recq
  tcore : ∀ c, c < 512 → .tcore c ∈ failed → s.tcoreUp c = true → (t.tcore c).cc.retired = true
  pcore : ∀ c, .pcore c ∈ failed → s.pcoreUp c = true → (t.pcore c).retired = true
  port : ∀ n, .port n ∈ failed → n ∈ t.portsRetired
  llm : ∀ u, .llmUnit u ∈ failed → u ∈ t.llmRetired
  partition : ∀ p, d = .partition p → t.fget (R.PRT_STATUS.resetting p) = 0
  wake : (∃ k, d = .stack k ∨ d = .partition k) → s.ecl.phase = 0 → s.nwt.night = false → ∀ n, n < 8 →
    (∀ x ∈ s.recs, x.slot ≠ i → x.domain ≠ .stack n) → ∀ g, g / 8 = n → s.chanTrained g = true → (t.chan g).selfRefresh = false

theorem recoveryComplete_ends (hc : CleanRegs s.regs) (d : Domain) :
    RecoveryEnds s ((s.lossesHandled i failed d).resetEnded d) i failed d := by
  have hrecs : (s.lossesHandled i failed d).recs = s.recs.filter (fun x => x.slot != i) :=
    lossesHandled_reads State.recs (fun _ => rfl) (fun _ => rfl) d
  have hretired {β : Type} (g : State → β) (hops : ∀ u, g (sansOps u) = g u) (hbooks : ∀ u, g (sansBooks u) = g u)
      (hreg : ∀ u off w, g (State.setReg u off w) = g u) (hchan : ∀ u c v, g (State.setChan u c v) = g u) :
      g ((s.lossesHandled i failed d).resetEnded d) = g (failed.foldl State.retireFailed (s.slotFreed i)) := by
    rw [resetEnded_books g hbooks hreg hchan, ← hops, lossesHandled_sansOps, hops]
  have hout := hretired State.outOfService (fun _ => rfl) (fun _ => rfl) (fun _ _ _ => rfl) (fun _ _ _ => rfl)
  refine ⟨?_, ?_, fun c _ hmem hup => ?_, fun c hmem hup => ?_, fun n hmem => ?_, fun u hmem => ?_, ?_, ?_⟩
  · exact (resetEnded_books State.recs (fun _ => rfl) (fun _ _ _ => rfl) (fun _ _ _ => rfl) d).trans hrecs
  · exact (resetEnded_books State.recq (fun _ => rfl) (fun _ _ _ => rfl) (fun _ _ _ => rfl) d).trans
      (lossesHandled_reads State.recq (fun _ => rfl) (fun _ => rfl) d)
  · rw [hretired (fun u => (u.tcore c).cc.retired) (fun _ => rfl) (fun _ => rfl) (fun _ _ _ => rfl) (fun _ _ _ => rfl)]
    exact foldl_retireFailed_tcore (s := s.slotFreed i) hmem hc hup
  · rw [hretired (fun u => (u.pcore c).retired) (fun _ => rfl) (fun _ => rfl) (fun _ _ _ => rfl) (fun _ _ _ => rfl)]
    exact foldl_retireFailed_pcore (s := s.slotFreed i) hmem hc hup
  · show n ∈ (State.outOfService _).1
    rw [hout]
    exact foldl_retireFailed_port (s := s.slotFreed i) hmem hc
  · show u ∈ (State.outOfService _).2
    rw [hout]
    exact foldl_retireFailed_llm (s := s.slotFreed i) hmem hc
  · rintro p rfl
    exact resetEnded_partition p
  · intro hd hphase hnight n hn hfree g hg htrained
    refine resetEnded_chan hd ((lossesHandled_reads (fun u => u.ecl.phase) (fun _ => rfl) (fun _ => rfl) d).trans hphase)
      ((lossesHandled_reads (fun u => u.nwt.night) (fun _ => rfl) (fun _ => rfl) d).trans hnight) hn (fun x hx => ?_) hg
      ((lossesHandled_chanTrained hc d (by omega)).trans htrained)
    rw [hrecs] at hx
    obtain ⟨hmem, hslot⟩ := List.mem_filter.1 hx
    exact hfree x hmem (by simpa using hslot)

/-! The clauses on the work of a T-core. -/

/-- A T-core's recovery with nothing failed frees its slot and handles the T-core's work; memory stays. -/
theorem recoveryComplete_tcore {c : Nat} (h : s.recs.find? (fun x => x.slot == i) = some r) (hd : r.domain = .tcore c) :
    ∃ t, exec (.recoveryComplete i []) s = .next t ∧ t.mem = s.mem ∧ ∀ k, t.op k = ((s.slotFreed i).reissueCore c).op k := by
  refine ⟨(s.slotFreed i).reissueCore c, ?_, ?_, fun _ => rfl⟩
  · rw [exec_recoveryComplete h, hd]
    rfl
  · calc ((s.slotFreed i).reissueCore c).mem = (sansOps ((s.slotFreed i).reissueCore c)).mem := rfl
      _ = s.mem := by rw [sansOps_reissueCore]; rfl

theorem mayReissue_of_ops (h : sansOps t = sansOps s) (p : Nat) : t.mayReissue p ↔ s.mayReissue p := by
  unfold State.mayReissue
  rw [fget_of_ops h, partTcores_of_ops h]

/-- A transfer that the core carried goes on after what it has committed on another core. -/
theorem op_reissueCore_xfer_again {c : Nat} {x : Xfer} (h : s.op j = some o) (hlive : o.status = none)
    (hslots : (s.ops.map Prod.fst).Nodup) (hx : o.xfer = some x) (hcore : x.core = c) (hleft : x.committed < x.total) (hwork : o.work = [])
    (hmay : s.mayReissue o.partition) (htwice : o.reissues < 2) :
    (s.reissueCore c).op j = some { o.reissuedBy (x.total - x.committed) with
      xfer := some (x.restarted ((s.partTcores o.partition).getD 0 x.core)) } := by
  refine op_reissueCore_xfer (P := fun y => y = some { o.reissuedBy (x.total - x.committed) with
    xfer := some (x.restarted ((s.partTcores o.partition).getD 0 x.core)) }) h hlive hslots hx hcore (fun t ht hop => ?_) (fun y hy => ?_)
    (fun hno => by cases hno)
  · have hagain := op_reissue_again (n := x.total - x.committed) hop hlive (by omega) ((mayReissue_of_ops ht _).2 hmay) htwice
    rw [op_restartXfer hagain hx, partTcores_of_ops ((sansOps_reissue j _).trans ht)]
    rfl
  · cases hy
    exact .inr hwork

/-- Its operation ends PARTIAL where the transfer may not go on. -/
theorem op_reissueCore_xfer_ends {c : Nat} {x : Xfer} (h : s.op j = some o) (hlive : o.status = none)
    (hslots : (s.ops.map Prod.fst).Nodup) (hx : o.xfer = some x) (hcore : x.core = c) (hleft : x.committed < x.total)
    (hnot : ¬ s.mayReissue o.partition ∨ 2 ≤ o.reissues) : EndedPartial o o.progress ((s.reissueCore c).op j) := by
  refine op_reissueCore_xfer h hlive hslots hx hcore (fun t ht hop => ?_) (fun y hy => ?_) (fun hno => ?_)
  · exact (op_reissue_ends hop hlive (by omega) (hnot.imp_left (fun hno hmay => hno ((mayReissue_of_ops ht _).1 hmay)))).restartXfer
  · obtain ⟨z, hz, hstatus, -⟩ := hy
    cases hz
    exact .inl (by rw [hstatus]; exact Option.some_ne_none _)
  · obtain ⟨z, hz, -⟩ := hno
    cases hz

/-! Tiles. -/

theorem lostTiles_ne_nil {c : Nat} (hlost : ∃ w ∈ o.work, w.2 = c) : (o.lostTiles c).isEmpty = false := by
  obtain ⟨w, hw, hwc⟩ := hlost
  exact List.isEmpty_eq_false_iff.2 (List.ne_nil_of_mem (List.mem_map.2 ⟨w, List.mem_filter.2 ⟨hw, beq_iff_eq.2 hwc⟩, rfl⟩))

theorem bit_or_maskOf {l : List Nat} {n : Nat} (m : Nat) (hn : n ∈ l) : bit (m ||| maskOf l) n = true := by
  have hmask (l : List Nat) (m : Nat) (h : n ∈ l ∨ m.testBit n = true) : (l.foldl (fun m i => m ||| 2 ^ i) m).testBit n = true := by
    induction l generalizing m with
    | nil => exact h.resolve_left List.not_mem_nil
    | cons i rest ih =>
      refine ih _ ?_
      rw [Nat.testBit_or, Bool.or_eq_true]
      obtain hmem | hbit := h
      · obtain rfl | hmem := List.mem_cons.1 hmem
        · exact .inr (.inr (Nat.testBit_two_pow_self))
        · exact .inl hmem
      · exact .inr (.inl hbit)
  rw [bit_eq_testBit, Nat.testBit_or, maskOf, hmask l 0 (.inl hn), Bool.or_true]

/-- The lost tiles are given again where each was given again less than twice. -/
theorem op_reissueCore_tiles_again {c : Nat} (h : s.op j = some o) (hlive : o.status = none) (hx : o.xfer = none)
    (hlost : ∃ w ∈ o.work, w.2 = c) (hmay : s.mayReissue o.partition)
    (htwice : ∀ n ∈ o.lostTiles c, assocGet (fun _ => 0) o.again n < 2) : (s.reissueCore c).op j = some (o.tilesAgain (o.lostTiles c)) := by
  obtain ⟨y, hy, -, rfl⟩ := op_reissueCore_tiles (P := fun y => y = o.tilesAgain (o.lostTiles c)) h hlive hx hlost (fun t ht hop => by
    have hgo : (t.canReissue o && (o.lostTiles c).all (fun n => decide (assocGet (fun _ => 0) o.again n < 2))) = true := by
      rw [Bool.and_eq_true, canReissue_iff, List.all_eq_true]
      exact ⟨((mayReissue_of_ops ht _).2 hmay).2, fun n hn => decide_eq_true (htwice n hn)⟩
    rw [reissueTiles_eq hop, lostTiles_ne_nil hlost, (autoReissue_iff _).2 ((mayReissue_of_ops ht _).2 hmay).1, hgo, if_neg (by decide),
      if_neg (by decide), if_pos rfl, State.op_setOp_same]
    exact ⟨_, rfl, rfl, rfl⟩)
  exact hy

/-- They are given up where reissue is not automatic. -/
theorem op_reissueCore_tiles_given_up {c : Nat} (h : s.op j = some o) (hlive : o.status = none) (hx : o.xfer = none)
    (hlost : ∃ w ∈ o.work, w.2 = c) (hauto : s.fget (R.PRT_CTL.auto_reissue o.partition) = 0) :
    ∃ y, (s.reissueCore c).op j = some y ∧ y.work = (o.sansTiles (o.lostTiles c)).work ∧ y.status = none ∧
      y.classFlags = o.classFlags ||| flagHard ∧ (∀ n, n ∈ o.lostTiles c → bit y.given n = true) ∧ y.progress = o.progress := by
  refine op_reissueCore_tiles h hlive hx hlost (fun t ht hop => ?_)
  have hoff : t.fon (R.PRT_CTL.auto_reissue o.partition) = false := fon_of_fget_zero ((fget_of_ops ht _).trans hauto)
  rw [reissueTiles_eq hop, lostTiles_ne_nil hlost, hoff, if_neg (by decide), if_pos (by decide), op_flagOp_same (State.op_setOp_same _ _ _)]
  exact ⟨_, rfl, rfl, hlive, rfl, fun n hn => bit_or_maskOf _ hn, rfl⟩

/-- The operation ends PARTIAL where no T-core is left or a tile was given again twice. -/
theorem op_reissueCore_tiles_ends {c : Nat} (h : s.op j = some o) (hlive : o.status = none) (hx : o.xfer = none)
    (hlost : ∃ w ∈ o.work, w.2 = c) (hauto : s.fget (R.PRT_CTL.auto_reissue o.partition) = 1)
    (hnot : s.partTcores o.partition = [] ∨ ∃ n ∈ o.lostTiles c, 2 ≤ assocGet (fun _ => 0) o.again n) :
    EndedPartial o o.progress ((s.reissueCore c).op j) := by
  obtain ⟨y, hy, -, hended⟩ := op_reissueCore_tiles (P := fun y => EndedPartial o o.progress (some y)) h hlive hx hlost (fun t ht hop => by
    have hstop : (t.canReissue o && (o.lostTiles c).all (fun n => decide (assocGet (fun _ => 0) o.again n < 2))) = false := by
      rw [Bool.and_eq_false_iff]
      refine hnot.imp (fun hnone => ?_) (fun ⟨n, hn, hmany⟩ => ?_)
      · rw [State.canReissue, partTcores_of_ops ht, hnone]
        rfl
      · exact List.all_eq_false.2 ⟨n, hn, by rw [decide_eq_false (by omega)]; decide⟩
    have hput : (t.setOp j (some (o.sansTiles (o.lostTiles c)))).op j = some (o.sansTiles (o.lostTiles c)) := State.op_setOp_same _ _ _
    rw [reissueTiles_eq hop, lostTiles_ne_nil hlost, (autoReissue_iff _).2 ((fget_of_ops ht _).trans hauto), hstop, if_neg (by decide),
      if_neg (by decide), if_neg (by decide), op_endOp_live (op_flagOp_same hput flagHard) hlive]
    exact ⟨_, rfl, rfl, _, rfl, rfl, rfl, rfl, rfl⟩)
  rw [hy]
  exact hended

end

end Sys2Proof.Machine

/-! The obligation on recoveries. -/
namespace Sys2Proof.Machine

section
variable {s t : State} {j : Nat} {o : Op}

/-- What is told of the operation that a slot holds is told of each. -/
theorem EndedPartial.of_op {x : Option Op} (h : EndedPartial o o.progress x) (hx : t.op j = x) (hop : s.op j = some o) :
    ∀ o', s.op j = some o' → EndedPartial o' o'.progress (t.op j) := by
  intro o' hop'
  cases hop.symm.trans hop'
  rw [hx]
  exact h

theorem imageWaits_of_mem {p : Nat} (h : ∃ im ∈ s.togus.pending, im.partition = p) : s.imageWaits p = true := by
  obtain ⟨im, him, hpart⟩ := h
  exact List.any_eq_true.2 ⟨im, him, beq_iff_eq.2 hpart⟩

end

/-- Settles O54: each start and each end of a recovery is taken from the lemmas on its domain, and the lost work of a T-core
operation by operation. -/
theorem recoveriesStartAndEnd : Obligations.RecoveriesStartAndEnd := by
  unfold Obligations.RecoveriesStartAndEnd
  dsimp only
  refine ⟨fun s i r hi hr hnodup => ⟨?_, ?_, ?_, ?_, ?_, ?_, ?_⟩, fun s => recoveryStart_idle, fun s i failed r hr hnodup => ?_,
    fun s i c k r o hr hd hslots ho hlive => ?_, fun s i failed hnone => exec_recoveryComplete_idle hnone failed⟩
  · exact fun k hd hk => recoveryStart_tcore hi hr (cleanRegs_of_nodup hnodup) hd hk
  · exact fun k hd => recoveryStart_pcore hi hr hd
  · exact fun k hd => recoveryStart_se hi hr hd
  · intro k hd hk
    obtain ⟨t, hbegins, hreset⟩ := recoveryStart_cluster hi hr hd hk
    exact ⟨t, hbegins, hreset⟩
  · exact fun n hd hn => recoveryStart_stack hi hr (cleanRegs_of_nodup hnodup) hd hn
  · intro p hd hp
    obtain ⟨t, hbegins, hstatus, hresets, hevent, hends, hstays, hpads, hllm, happlies, hwaits⟩ :=
      recoveryStart_partition hi hr (cleanRegs_of_nodup hnodup) hd hp
    exact ⟨t, hbegins, hstatus, hresets, hevent, fun j o hj hlive hpart => (hends j o hj hlive hpart).of_op rfl hj, hstays, hpads, hllm, happlies,
      fun hno him => hwaits hno (imageWaits_of_mem him)⟩
  · exact fun hd => recoveryStart_package hi hr hd
  · obtain ⟨hrecs, hrecq, htcore, hpcore, hport, hllm, hpart, hwake⟩ :=
      recoveryComplete_ends (i := i) (failed := failed) (cleanRegs_of_nodup hnodup) r.domain
    exact ⟨_, exec_recoveryComplete hr failed, hrecs, hrecq, htcore, hpcore, hport, hllm, hpart, hwake⟩
  · obtain ⟨t, hexec, hmem, hop⟩ := recoveryComplete_tcore hr hd
    have ho' : (s.slotFreed i).op k = some o := ho
    refine ⟨fun x hx hcore hleft hwork => ⟨fun hmay htwice => ?_, fun hnot => ?_⟩, fun hx hlost => ⟨fun hmay htwice => ?_, fun hauto => ?_,
      fun hauto hnot => ?_⟩⟩
    · exact ⟨t, hexec, hmem, (hop k).trans (op_reissueCore_xfer_again ho' hlive hslots hx hcore hleft hwork hmay htwice)⟩
    · exact ⟨t, hexec, hmem, (op_reissueCore_xfer_ends ho' hlive hslots hx hcore hleft hnot).of_op (hop k) ho⟩
    · exact ⟨t, _, hexec, hmem, (hop k).trans (op_reissueCore_tiles_again ho' hlive hx hlost hmay htwice), hlive, rfl, rfl, rfl, rfl, rfl, rfl⟩
    · obtain ⟨y, hy, hwork, hruns, hflags, hgiven, hprogress⟩ := op_reissueCore_tiles_given_up ho' hlive hx hlost hauto
      exact ⟨t, y, hexec, hmem, (hop k).trans hy, hruns, hflags, hwork, hgiven, hprogress⟩
    · exact ⟨t, hexec, hmem, (op_reissueCore_tiles_ends ho' hlive hx hlost hauto hnot).of_op (hop k) ho⟩

end Sys2Proof.Machine

/-! Transit control: what a message sent on every link leaves behind, and where it has been sent (R74, R75). -/
namespace Sys2Proof.Machine

/-- Contents of a message on a link: the path delay grows by the link's own, for the types that carry one. -/
def State.sentOn (s : State) (contents : List Nat) (delay : Option Nat) (c : Nat × Nat) : List Nat :=
  contents ++ (delay.map (fun d => d + s.fget (R.SCP_PORT_DELAY.delay_ns c.1))).toList

/-- What flooding a message that has crossed `hops` links puts on the links, the last link first. -/
def State.floodOut (s : State) (t : Nat) (contents : List Nat) (delay link : Option Nat) (hops : Nat) : List Out :=
  if maxHops ≤ hops then []
  else ((s.upLinks.filter (fun c => some (linkKey c.1 c.2) != link)).map
    (fun c => Out.vc0 c.1 c.2 t (hops + 1) (s.sentOn contents delay c))).reverse

section
variable (s : State)

/-- Messages that do not depend on what has left, sent one after another. -/
theorem foldl_emit {α : Type} (m : State → α → Out) (hm : ∀ s o a, m { s with out := o } a = m s a) (l : List α) (s : State) :
    l.foldl (fun s a => s.emit (m s a)) s = { s with out := (l.map (m s)).reverse ++ s.out } := by
  induction l generalizing s with
  | nil => rfl
  | cons a rest ih =>
    have hsame : m (s.emit (m s a)) = m s := funext (hm s _)
    rw [List.foldl_cons, ih, hsame, List.map_cons, List.reverse_cons, List.append_assoc]
    rfl

/-- A flood sends the message and remembers it, and does nothing else. -/
theorem flood_eq (t : Nat) (contents : List Nat) (delay link : Option Nat) (hops : Nat) :
    s.flood t contents delay link hops =
      { s with trn := { s.trn with relayed := (t, contents) :: s.trn.relayed },
               out := s.floodOut t contents delay link hops ++ s.out } := by
  unfold State.flood State.floodOut
  dsimp only
  split
  · rfl
  · refine (foldl_emit _ (fun _ _ _ => rfl) _ _).trans ?_
    cases delay <;> rfl

variable {t : Nat} {contents : List Nat} {delay link : Option Nat} {hops : Nat}

/-- A reading that neither the messages remembered nor what has left bear on is the same after a flood. -/
theorem flood_reads {β : Type} (g : State → β) (hg : ∀ m o, g { s with trn := { s.trn with relayed := m }, out := o } = g s) :
    g (s.flood t contents delay link hops) = g s := by
  rw [flood_eq, hg]

@[simp] theorem flood_regs : (s.flood t contents delay link hops).regs = s.regs := flood_reads s State.regs (fun _ _ => rfl)
@[simp] theorem flood_reg (off : Nat) : (s.flood t contents delay link hops).reg off = s.reg off :=
  flood_reads s (State.reg · off) (fun _ _ => rfl)
@[simp] theorem flood_fget (f : Fld) : (s.flood t contents delay link hops).fget f = s.fget f :=
  flood_reads s (State.fget · f) (fun _ _ => rfl)
@[simp] theorem flood_mem : (s.flood t contents delay link hops).mem = s.mem := flood_reads s State.mem (fun _ _ => rfl)

theorem flood_trn : (s.flood t contents delay link hops).trn = { s.trn with relayed := (t, contents) :: s.trn.relayed } :=
  congrArg State.trn (flood_eq s t contents delay link hops)

theorem flood_out : (s.flood t contents delay link hops).out = s.floodOut t contents delay link hops ++ s.out :=
  congrArg State.out (flood_eq s t contents delay link hops)

/-- What has left before has left after. -/
theorem mem_flood_out_of_mem {o : Out} (h : o ∈ s.out) : o ∈ (s.flood t contents delay link hops).out := by
  rw [flood_out]
  exact List.mem_append_right _ h

/-- Below three hops the message goes out on every up link but the one it came from. -/
theorem mem_flood_out (hhops : hops < 3) {c : Nat × Nat} (hc : c ∈ s.upLinks) (hlink : some (linkKey c.1 c.2) ≠ link) :
    Out.vc0 c.1 c.2 t (hops + 1) (s.sentOn contents delay c) ∈ (s.flood t contents delay link hops).out := by
  rw [flood_out, State.floodOut, if_neg (show ¬ maxHops ≤ hops from Nat.not_le.2 hhops)]
  refine List.mem_append_left _ (List.mem_reverse.2 (List.mem_map.2 ⟨c, List.mem_filter.2 ⟨hc, ?_⟩, rfl⟩))
  exact bne_iff_ne.2 hlink

/-- From the third hop it goes no further. -/
theorem flood_out_of_far (hhops : 3 ≤ hops) : (s.flood t contents delay link hops).out = s.out := by
  rw [flood_out, State.floodOut, if_pos (show maxHops ≤ hops from hhops)]
  rfl

/-- A message without a path delay goes out as it is. -/
theorem sentOn_none (c : Nat × Nat) : s.sentOn contents none c = contents := List.append_nil _

theorem mem_flood_out_plain (hhops : hops < 3) {c : Nat × Nat} (hc : c ∈ s.upLinks) (hlink : some (linkKey c.1 c.2) ≠ link) :
    Out.vc0 c.1 c.2 t (hops + 1) contents ∈ (s.flood t contents none link hops).out := by
  have h := mem_flood_out s (t := t) (contents := contents) (delay := none) hhops hc hlink
  rwa [sentOn_none] at h

/-- The up links rest on the registers alone. -/
theorem upLinks_congr {s u : State} (h : ∀ f, u.fget f = s.fget f) : u.upLinks = s.upLinks := by
  unfold State.upLinks State.portSt State.linkUp State.fon
  simp only [h]

end

end Sys2Proof.Machine

/-! Package time and rack time: what letting time pass changes, correcting rack time, and the milestones (R69, R75, R76, R471). -/
namespace Sys2Proof.Machine

section
variable (s : State)

@[simp] theorem advance_mem (now : Nat) : (s.advance now).mem = s.mem := by
  unfold State.advance
  dsimp only
  repeat' split
  all_goals rfl

theorem rackTime_lt : s.rackTime < 2 ^ 64 := fget_lt s R.TRN_TIME.time_ns

/-- Rack time that counts, is not held and has no slew to do grows with package time (R69). -/
theorem advance_counts {now : Nat} (hnow : s.clock ≤ now) (hstarted : s.trn.started = true) (hhold : s.trn.hold = none)
    (hslew : s.trn.slew = 0) (hphase : s.ecl.phase ≠ 2) (hnight : s.nwt.night = false) :
    (s.advance now).clock = now ∧ (s.advance now).rackTime = (s.rackTime + (now - s.clock)) % 2 ^ 64 := by
  by_cases hd : now - s.clock = 0
  · have hsame : s.advance now = s := by
      unfold State.advance
      exact if_pos hd
    rw [hsame, hd]
    exact ⟨by omega, (Nat.mod_eq_of_lt (rackTime_lt s)).symm⟩
  · have hcounts : s.advance now =
        ({ s with clock := now } : State).fset R.TRN_TIME.time_ns (s.rackTime + (now - s.clock)) := by
      unfold State.advance
      simp only [hd, hstarted, hhold, hslew, hphase, hnight, if_false, if_true, not_true_eq_false, or_self, Bool.false_eq_true]
      rfl
    rw [hcounts]
    exact ⟨rfl, fget_fset_self _ R.TRN_TIME.time_ns _ rfl⟩

/-- A reading that the milestones do not bear on is the same after they are checked. -/
theorem checkJoin_reads {β : Type} (g : State → β) (hg : ∀ t v, g (State.fset t R.GLB_BOOT.milestones v) = g t) :
    g s.checkJoin = g s := by
  unfold State.checkJoin State.reach_
  dsimp only
  repeat' split
  all_goals simp only [hg]

@[simp] theorem checkJoin_trn : s.checkJoin.trn = s.trn := checkJoin_reads s State.trn (fun _ _ => rfl)
@[simp] theorem checkJoin_mem : s.checkJoin.mem = s.mem := checkJoin_reads s State.mem (fun _ _ => rfl)
@[simp] theorem checkJoin_out : s.checkJoin.out = s.out := checkJoin_reads s State.out (fun _ _ => rfl)

theorem checkJoin_reg {off : Nat} (h : off ≠ A.GLB_BOOT) : s.checkJoin.reg off = s.reg off :=
  checkJoin_reads s (State.reg · off) (fun _ _ => reg_fset_of_ne _ R.GLB_BOOT.milestones _ _ h)

theorem checkJoin_fget {f : Fld} (h : f.off ≠ A.GLB_BOOT) : s.checkJoin.fget f = s.fget f :=
  checkJoin_reads s (State.fget · f) (fun _ _ => fget_fset_reg _ R.GLB_BOOT.milestones _ _ h.symm)

/-- A reading that hearing a master's marker does not bear on. -/
theorem adopt_reads {β : Type} (g : State → β) (hg : ∀ b, g { s with trn := { s.trn with adopted := b } } = g s) : g s.adopt = g s := by
  unfold State.adopt
  split
  · rfl
  · exact hg true

@[simp] theorem adopt_fget (f : Fld) : s.adopt.fget f = s.fget f := adopt_reads s (State.fget · f) (fun _ => rfl)

/-- A reading that neither TRN_STATUS, TRN_TIME nor the correction to do bears on is the same after rack time is corrected. -/
theorem correctTime_reads {β : Type} (g : State → β) (m : Nat)
    (hset : ∀ t f v, f.off = A.TRN_STATUS ∨ f.off = A.TRN_TIME → g (State.fset t f v) = g t)
    (htrn : ∀ t h sl, g { t with trn := { s.trn with started := true, hold := h, slew := sl } } = g t) :
    g (s.correctTime m) = g s := by
  have hoffset (t v) : g (State.fset t R.TRN_STATUS.offset_ns v) = g t := hset t _ v (.inl rfl)
  have hsynced (t v) : g (State.fset t R.TRN_STATUS.synced v) = g t := hset t _ v (.inl rfl)
  have htime (t v) : g (State.fset t R.TRN_TIME.time_ns v) = g t := hset t _ v (.inr rfl)
  unfold State.correctTime
  dsimp only
  split
  · exact (htrn _ _ _).trans ((hsynced _ _).trans (hoffset _ _))
  · split
    · exact (htrn _ _ _).trans ((hsynced _ _).trans ((htime _ _).trans (hoffset _ _)))
    · exact (htrn _ _ _).trans ((hsynced _ _).trans (hoffset _ _))

@[simp] theorem correctTime_mem (m : Nat) : (s.correctTime m).mem = s.mem :=
  correctTime_reads s State.mem m (fun _ _ _ _ => rfl) (fun _ _ _ => rfl)

@[simp] theorem correctTime_out (m : Nat) : (s.correctTime m).out = s.out :=
  correctTime_reads s State.out m (fun _ _ _ _ => rfl) (fun _ _ _ => rfl)

theorem correctTime_reg (m : Nat) {off : Nat} (hstatus : off ≠ A.TRN_STATUS) (htime : off ≠ A.TRN_TIME) :
    (s.correctTime m).reg off = s.reg off := by
  refine correctTime_reads s (State.reg · off) m (fun t f v hf => reg_fset_of_ne t f v off ?_) (fun _ _ _ => rfl)
  obtain h | h := hf <;> rw [h]
  · exact hstatus
  · exact htime

variable {s} {m : Nat}

/-- Rack time more than 1 us ahead of the master's is held (R76). -/
theorem correctTime_of_ahead (h : m + 1000 < s.rackTime) :
    (s.correctTime m).rackTime = s.rackTime ∧ (s.correctTime m).fget R.TRN_STATUS.synced = 0 ∧
      (s.correctTime m).trn.hold = some (s.rackTime, m) := by
  unfold State.correctTime
  dsimp only
  rw [if_pos (.inl h)]
  refine ⟨?_, fget_fset_self _ R.TRN_STATUS.synced 0 rfl, rfl⟩
  exact (fget_fset_reg _ R.TRN_STATUS.synced R.TRN_TIME.time_ns 0 (by decide)).trans
    (fget_fset_reg _ R.TRN_STATUS.offset_ns R.TRN_TIME.time_ns _ (by decide))

/-- Rack time more than 1 us behind the master's is stepped forward (R76). -/
theorem correctTime_of_behind (h : s.rackTime + 1000 < m) :
    (s.correctTime m).rackTime = m % 2 ^ 64 ∧ (s.correctTime m).fget R.TRN_STATUS.synced = (!s.trn.lateSync).toNat ∧
      (s.correctTime m).trn.hold = none := by
  unfold State.correctTime
  dsimp only
  rw [if_neg (by omega), if_pos h]
  refine ⟨?_, (fget_fset_self _ R.TRN_STATUS.synced _ rfl).trans ?_, rfl⟩
  · exact (fget_fset_reg _ R.TRN_STATUS.synced R.TRN_TIME.time_ns _ (by decide)).trans (fget_fset_self _ R.TRN_TIME.time_ns m rfl)
  · cases s.trn.lateSync <;> rfl

/-- Rack time that is not held and within 1 us of the master's is left to be slewed (R76). -/
theorem correctTime_of_near (hhold : s.trn.hold = none) (hahead : s.rackTime ≤ m + 1000) (hbehind : m ≤ s.rackTime + 1000) :
    (s.correctTime m).rackTime = s.rackTime ∧ (s.correctTime m).trn.slew = (m : Int) - s.rackTime ∧
      (s.correctTime m).fget R.TRN_STATUS.synced =
        (decide (((s.rackTime : Int) - m).natAbs ≤ 50) && !s.trn.lateSync).toNat := by
  unfold State.correctTime
  dsimp only
  rw [if_neg (by rw [hhold]; simp; omega), if_neg (by omega)]
  refine ⟨?_, Int.neg_sub _ _, (fget_fset_self _ R.TRN_STATUS.synced _ rfl).trans (Nat.mod_eq_of_lt (Bool.toNat_lt _))⟩
  exact (fget_fset_reg _ R.TRN_STATUS.synced R.TRN_TIME.time_ns _ (by decide)).trans
    (fget_fset_reg _ R.TRN_STATUS.offset_ns R.TRN_TIME.time_ns _ (by decide))

end

end Sys2Proof.Machine

/-! SYNC_TIMER, SYNC and LINK_DELAY_MEASURE (R74, R75, R76). -/
namespace Sys2Proof.Machine

section
variable {s : State}

/-- The state in which a fresh SYNC corrects rack time: relayed, and a late marker before it forgotten (R74, R78). -/
def State.syncRelayed (s : State) (origin delay link hops : Nat) : State :=
  { s.forward 3 [origin] delay link hops with trn := { (s.forward 3 [origin] delay link hops).trn with lateSync := false } }

/-- What a SYNC from a master that is heard leaves (R76). -/
def State.synced (s : State) (origin delay link hops : Nat) : State :=
  (((s.syncRelayed origin delay link hops).correctTime (origin + delay)).adopt).checkJoin

/-- A fresh SYNC on a link that carries transit control, at a package that is not the master. -/
def State.hearsSync (s : State) (link origin : Nat) : Prop := s.vc0In link = true ∧ s.isMaster = false ∧ s.fresh 3 [origin] = true

theorem exec_sync (now link hops origin delay : Nat) (h : (s.advance now).hearsSync link origin) :
    exec (.sync now link hops origin delay) s = .next ((s.advance now).synced origin delay link hops) := by
  obtain ⟨hlink, hmaster, hfresh⟩ := h
  show execSync now link hops origin delay s = _
  unfold execSync
  dsimp only
  rw [hlink, hmaster, hfresh]
  rfl

theorem exec_sync_unheard (now link hops origin delay : Nat) (h : ¬ (s.advance now).hearsSync link origin) :
    exec (.sync now link hops origin delay) s = .next (s.advance now) := by
  show execSync now link hops origin delay s = _
  unfold execSync
  dsimp only
  refine if_neg (fun hall => h ?_)
  simp only [Bool.and_eq_true, Bool.not_eq_true', and_assoc] at hall
  exact hall

variable (s) (origin delay link hops : Nat)

theorem syncRelayed_rackTime : (s.syncRelayed origin delay link hops).rackTime = s.rackTime :=
  flood_fget s.drawn R.TRN_TIME.time_ns

theorem syncRelayed_hold : (s.syncRelayed origin delay link hops).trn.hold = s.trn.hold :=
  flood_reads s.drawn (fun t => t.trn.hold) (fun _ _ => rfl)

theorem syncRelayed_lateSync : (s.syncRelayed origin delay link hops).trn.lateSync = false := rfl

theorem synced_fget {f : Fld} (h : f.off ≠ A.GLB_BOOT) :
    (s.synced origin delay link hops).fget f = ((s.syncRelayed origin delay link hops).correctTime (origin + delay)).fget f :=
  (checkJoin_fget _ h).trans (adopt_fget _ f)

theorem synced_trn {β : Type} (g : Trn → β) (hg : ∀ r b, g { r with adopted := b } = g r) :
    g (s.synced origin delay link hops).trn = g ((s.syncRelayed origin delay link hops).correctTime (origin + delay)).trn := by
  unfold State.synced
  rw [checkJoin_trn]
  exact adopt_reads _ (fun t => g t.trn) (fun b => hg _ b)

theorem synced_mem : (s.synced origin delay link hops).mem = s.mem := by
  unfold State.synced
  rw [checkJoin_mem]
  refine (adopt_reads _ State.mem (fun _ => rfl)).trans ((correctTime_mem _ _).trans ?_)
  exact flood_mem s.drawn

theorem synced_out : (s.synced origin delay link hops).out = (s.forward 3 [origin] delay link hops).out := by
  unfold State.synced
  rw [checkJoin_out]
  exact (adopt_reads _ State.out (fun _ => rfl)).trans (correctTime_out _ _)

/-- A SYNC goes on with its residence and the link's delay added (R75). -/
theorem mem_synced_out {c : Nat × Nat} (hhops : hops < 3) (hc : c ∈ s.upLinks) (hlink : linkKey c.1 c.2 ≠ link) :
    Out.vc0 c.1 c.2 3 (hops + 1) [origin, delay + Config.residenceNs s.free + s.fget (R.SCP_PORT_DELAY.delay_ns c.1)] ∈
      (s.synced origin delay link hops).out := by
  rw [synced_out]
  exact mem_flood_out s.drawn hhops hc (fun h => hlink (Option.some.inj h))

theorem synced_out_of_far (hhops : 3 ≤ hops) : (s.synced origin delay link hops).out = s.out := by
  rw [synced_out]
  exact flood_out_of_far s.drawn hhops

/-- SYNC_TIMER of the master: its rack time, with each link's delay (R74, R75). -/
theorem syncTimer_master {now : Nat} (hmaster : (s.advance now).isMaster = true) :
    ∃ t, exec (.syncTimer now) s = .next t ∧ t.regs = (s.advance now).regs ∧ t.mem = s.mem ∧
      (∀ c ∈ (s.advance now).upLinks,
        Out.vc0 c.1 c.2 3 1 [(s.advance now).rackTime, (s.advance now).fget (R.SCP_PORT_DELAY.delay_ns c.1)] ∈ t.out) := by
  refine ⟨(s.advance now).flood 3 [(s.advance now).rackTime] (some 0) none 0, ?_, flood_regs _, (flood_mem _).trans (advance_mem s now),
    fun c hc => ?_⟩
  · show execSyncTimer now s = _
    unfold execSyncTimer
    dsimp only
    rw [hmaster]
    rfl
  · have hsent := mem_flood_out (s.advance now) (t := 3) (contents := [(s.advance now).rackTime]) (delay := some 0)
      (Nat.zero_lt_succ 2) hc (Option.some_ne_none _)
    simpa only [State.sentOn, Option.map_some, Option.toList_some, Nat.zero_add, List.cons_append, List.nil_append] using hsent

theorem syncTimer_other {now : Nat} (hmaster : (s.advance now).isMaster = false) : exec (.syncTimer now) s = .next (s.advance now) := by
  show execSyncTimer now s = _
  unfold execSyncTimer
  dsimp only
  rw [hmaster]
  rfl

/-- LINK_DELAY_MEASURE of a port that is up (R75). -/
theorem linkDelayMeasure_up {n rt : Nat} (hn : n < 64) (hup : s.fget (R.SCP_PORT_STATUS.state n) ∈ [5, 6, 13]) :
    exec (.linkDelayMeasure n rt) s = .next (s.fset (R.SCP_PORT_DELAY.delay_ns n) (Nat.min (rt / 2) (2 ^ 32 - 1))) := by
  show execLinkDelayMeasure n rt s = _
  unfold execLinkDelayMeasure whenever State.portSt
  have hhears : (hearsFlits (s.fget (R.SCP_PORT_STATUS.state n)) || s.fget (R.SCP_PORT_STATUS.state n) == 13) = true := by
    simp only [List.mem_cons, List.not_mem_nil, or_false] at hup
    obtain h | h | h := hup <;> rw [h] <;> rfl
  rw [decide_eq_true hn, hhears]
  rfl

end

/-- Settles O10: each command by its lemma, and rack time by the three corrections of R76. -/
theorem rackTimeFollowsMaster : Obligations.RackTimeFollowsMaster := by
  unfold Obligations.RackTimeFollowsMaster
  dsimp only
  refine ⟨fun s now => advance_counts s, fun s now link hops origin delay => ⟨fun hnot => ?_, fun hlink hmaster hfresh => ?_⟩,
    fun s now => ⟨syncTimer_master s, syncTimer_other s⟩, fun s n rt hn hup => ?_⟩
  · refine exec_sync_unheard now link hops origin delay (fun ⟨hlink, hmaster, hfresh⟩ => ?_)
    rw [hlink, hmaster, hfresh] at hnot
    simp at hnot
  · have htime := syncRelayed_rackTime (s.advance now) origin delay link hops
    have hshows {f : Fld} := synced_fget (s.advance now) origin delay link hops (f := f)
    have hkeeps {β : Type} := synced_trn (s.advance now) origin delay link hops (β := β)
    refine ⟨_, exec_sync now link hops origin delay ⟨hlink, hmaster, hfresh⟩, (synced_mem _ _ _ _ _).trans (advance_mem s now),
      fun hbehind => ?_, fun hahead => ?_, fun hhold hahead hbehind => ?_,
      fun hhops c hc hne => mem_synced_out _ _ _ _ _ hhops hc hne, synced_out_of_far _ _ _ _ _⟩
    · rw [← htime] at hbehind
      obtain ⟨hrack, hsynced, hhold⟩ := correctTime_of_behind hbehind
      exact ⟨(hshows (by decide)).trans hrack, (hshows (by decide)).trans hsynced, (hkeeps Trn.hold (fun _ _ => rfl)).trans hhold⟩
    · rw [← htime] at hahead ⊢
      obtain ⟨hrack, hsynced, hhold⟩ := correctTime_of_ahead hahead
      exact ⟨(hshows (by decide)).trans hrack, (hshows (by decide)).trans hsynced, (hkeeps Trn.hold (fun _ _ => rfl)).trans hhold⟩
    · rw [← htime] at hahead hbehind ⊢
      obtain ⟨hrack, hslew, hsynced⟩ := correctTime_of_near ((syncRelayed_hold _ _ _ _ _).trans hhold) hahead hbehind
      refine ⟨(hshows (by decide)).trans hrack, (hkeeps Trn.slew (fun _ _ => rfl)).trans hslew, ?_⟩
      rw [hshows (by decide), hsynced]
      simp only [syncRelayed_lateSync, Bool.not_false, Bool.and_true, Bool.toNat_eq_one, decide_eq_true_eq]
      omega
  · refine ⟨_, linkDelayMeasure_up s hn hup, (fget_fset_self _ _ _ rfl).trans (Nat.mod_eq_of_lt ?_), fun off hoff => reg_fset_of_ne _ _ _ _ hoff, rfl⟩
    exact Nat.lt_of_le_of_lt (Nat.min_le_right _ _) (by decide : 2 ^ 32 - 1 < 2 ^ 32)

end Sys2Proof.Machine

/-! What leaves the transit unit and its registers alone: beacons, operations, requests, posts, lines, and what the last
actions of a transit change. -/
namespace Sys2Proof.Machine

/-- Registers of the transit unit (R101). -/
def OnTrn (off : Nat) : Prop := 0x10000 ≤ off ∧ off < 0x10300

/-- The transit unit and its registers are in `t` as in `s`. -/
structure TrnKept (s t : State) : Prop where
  trn : t.trn = s.trn
  reg : ∀ off, OnTrn off → t.reg off = s.reg off

namespace TrnKept

variable {s t u : State}

theorem refl : TrnKept s s := ⟨rfl, fun _ _ => rfl⟩

theorem trans (h : TrnKept s t) (h' : TrnKept t u) : TrnKept s u :=
  ⟨h'.trn.trans h.trn, fun off hoff => (h'.reg off hoff).trans (h.reg off hoff)⟩

theorem of_regs (htrn : t.trn = s.trn) (hregs : t.regs = s.regs) : TrnKept s t :=
  ⟨htrn, fun _ _ => by unfold State.reg; rw [hregs]⟩

theorem fget (h : TrnKept s t) {f : Fld} (hf : OnTrn f.off) : t.fget f = s.fget f := by
  unfold State.fget
  rw [h.reg f.off hf]

/-- What neither the transit unit nor registers tell of changes besides. -/
theorem and_same (h : TrnKept s t) (htrn : u.trn = t.trn) (hregs : u.regs = t.regs) : TrnKept s u := h.trans (.of_regs htrn hregs)

/-- A register above those of the transit unit is written. -/
theorem setReg (h : TrnKept s t) {off : Nat} {v : Word} (hoff : 0x10300 ≤ off) : TrnKept s (t.setReg off v) :=
  h.trans ⟨rfl, fun _ ho => reg_setReg_other t off _ v (fun heq => Nat.not_lt.2 hoff (heq ▸ ho.2))⟩

theorem fset (h : TrnKept s t) {f : Fld} {v : Nat} (hoff : 0x10300 ≤ f.off) : TrnKept s (t.fset f v) := h.setReg hoff

theorem foldl {α : Type} {f : State → α → State} {l : List α} (h : ∀ t a, TrnKept t (f t a)) (s : State) :
    TrnKept s (l.foldl f s) := by
  induction l generalizing s with
  | nil => exact refl
  | cons a rest ih => exact (h s a).trans (ih (f s a))

theorem ite {c : Prop} [Decidable c] (h : TrnKept s t) (h' : TrnKept s u) : TrnKept s (if c then t else u) := by
  split
  · exact h
  · exact h'

end TrnKept

section
variable {s : State}

theorem trnKept_raise (fn : Fn) (v : Nat) : TrnKept s (s.raise fn v) :=
  .of_regs (raise_reads s State.trn (fun _ _ => rfl) (fun _ => rfl) fn v) (raise_regs s fn v)

theorem trnKept_emit (o : Out) : TrnKept s (s.emit o) := .of_regs rfl rfl

theorem trnKept_fincSat {f : Fld} {n : Nat} (h : 0x10300 ≤ f.off) : TrnKept s (s.fincSat f n) := TrnKept.refl.fset h

theorem trnKept_finc {f : Fld} {n : Nat} (h : 0x10300 ≤ f.off) : TrnKept s (s.finc f n) := TrnKept.refl.fset h

theorem trnKept_report (source code cls detail : Nat) : TrnKept s (s.report source code cls detail) := by
  obtain h | ⟨r, h⟩ | ⟨r, h⟩ | h := report_cases s source code cls detail <;> rw [h]
  · exact .refl
  · exact .of_regs rfl rfl
  · exact .of_regs rfl rfl
  · refine (trnKept_fincSat ?_).trans (trnKept_raise _ _)
    obtain hoff | hoff := lostFld_off cls <;> rw [hoff] <;> decide

theorem trnKept_reportOpen (source code cls : Nat) : TrnKept s (s.reportOpen source code cls) :=
  .trans (t := { s with free := s.free + 1 }) (.of_regs rfl rfl) (trnKept_report source code cls _)

/-! Operations and beacons. -/

theorem trnKept_onOp (k : Nat) (f : Op → Op) : TrnKept s (s.onOp k f) := by
  unfold State.onOp
  split
  · exact .of_regs rfl rfl
  · exact .refl

theorem trnKept_closeOp (k : Nat) (f : Op → Op) : TrnKept s (s.closeOp k f) := by
  unfold State.closeOp
  split
  · exact .ite .refl (.of_regs rfl rfl)
  · exact .refl

theorem trnKept_popQueue (c : Nat) (q : EngineQ) : TrnKept s (s.popQueue c q) := by
  cases q <;> exact .of_regs rfl rfl

/-- An access is answered: an instruction leaves its queue, an operation ends, or a message leaves. -/
theorem trnKept_answer (w : Who) (a : Answer) (b : Nat) (ok orphan : Bool) (v : Word) : TrnKept s (s.answer w a b ok orphan v) := by
  cases a with
  | engine c q => exact .ite (trnKept_popQueue c q) .refl
  | op k => exact trnKept_closeOp k _
  | se n => exact trnKept_emit _
  | window w' => exact trnKept_emit _
  | rack src id fetch => exact trnKept_emit _

theorem trnKept_putBeacon (b : Nat) (v : Word) : TrnKept s (s.putBeacon b v) := by
  unfold State.putBeacon
  extract_lets bc fire s1 s2 ready
  have hset : TrnKept s s1 := .of_regs rfl rfl
  have hfired : TrnKept s s2 := .ite (hset.trans (.ite (trnKept_raise _ _) (trnKept_raise _ _))) hset
  refine .trans ?_ (.foldl (fun _ (w : Waiter) => trnKept_answer w.who w.ans w.beacon true false v) _)
  exact hfired.and_same rfl rfl

theorem trnKept_hwAddN (b unit n : Nat) : TrnKept s (s.hwAddN b unit n) := by
  have hcount : TrnKept s (s.finc R.BCN_CNT.bad_ops 1) := trnKept_finc (by decide)
  unfold State.hwAddN
  dsimp only
  split
  · exact hcount
  · split
    · exact trnKept_putBeacon _ _
    · exact .ite (hcount.trans (trnKept_report _ _ _ _)) hcount

theorem trnKept_beaconTick (p : Nat) : TrnKept s (s.beaconTick p) := .ite (trnKept_hwAddN _ _ 1) .refl

theorem trnKept_markOrphans (f : Word → Bool) : TrnKept s (s.markOrphans f) :=
  .of_regs (markOrphans_reads State.trn (fun _ _ _ => rfl) f) (markOrphans_reads State.regs (fun _ _ _ => rfl) f)

theorem trnKept_startScan : TrnKept s s.startScan := by
  unfold State.startScan
  split <;> exact .of_regs rfl rfl

theorem trnKept_orphanLdn (ldn : Nat) : TrnKept s (s.orphanLdn ldn) := (trnKept_markOrphans _).trans trnKept_startScan

/-! Requests that end (R337, R339). -/

theorem trnKept_onJumbe (u : CoreId) (f : Jumbe → Jumbe) : TrnKept s (s.onJumbe u f) := by
  cases u <;> exact .of_regs rfl rfl

theorem trnKept_endCoreReq (u : CoreId) (id status flags : Nat) (r : RackOut) (bytes : List Byte) :
    TrnKept s (s.endCoreReq u id status flags r bytes) := by
  unfold State.endCoreReq
  split
  · dsimp only
    split
    · refine .ite (.trans ?_ (trnKept_onJumbe u _)) ?_ <;> exact trnKept_onJumbe u _
    · exact trnKept_onJumbe u _
  · exact trnKept_onJumbe u _
  · refine .trans ?_ (trnKept_onJumbe u _)
    exact .ite .refl (.of_regs rfl rfl)

theorem trnKept_onElem (w : Mover) (e : Nat) (f : ElemSt → ElemSt) : TrnKept s (s.onElem w e f) := by
  unfold State.onElem State.setXfer
  split
  · split
    · exact .of_regs rfl rfl
    · exact trnKept_onOp _ _
  · exact .refl

theorem trnKept_tileStored (k tile status : Nat) : TrnKept s (s.tileStored k tile status) :=
  .ite (trnKept_closeOp k _) (trnKept_onOp k _)

theorem trnKept_endWinWait (status : Nat) (w : WinWait) : TrnKept s (s.endWinWait status w) := by
  unfold State.endWinWait
  split
  · exact trnKept_onJumbe _ _
  · exact trnKept_onElem _ _ _
  · exact trnKept_emit _

theorem trnKept_endOut (id status : Nat) : TrnKept s (s.endOut id status) :=
  .trans (t := { s with outbox := s.outbox.filter (fun x => x.2.req != some id) }) (.of_regs rfl rfl)
    (.foldl (fun _ _ => .foldl (fun _ w => trnKept_endWinWait status w) _) _)

/-- Whoever waits for the request is told. -/
theorem trnKept_endReq (id status flags : Nat) (bytes : List Byte) : TrnKept s (s.endReq id status flags bytes) := by
  have hleaves : TrnKept s (s.setReq id none) := .of_regs rfl rfl
  unfold State.endReq
  split
  · exact .refl
  · dsimp only
    split
    · exact hleaves.trans (trnKept_endCoreReq _ _ _ _ _ _)
    · refine .ite (.trans (t := (s.setReq id none).drawn) (.of_regs rfl rfl) (trnKept_closeOp _ _)) ?_
      refine .ite (hleaves.trans (trnKept_onElem _ _ _)) ?_
      exact .ite (hleaves.trans (trnKept_onOp _ _)) (hleaves.trans (trnKept_tileStored _ _ _))
    · exact hleaves.trans (trnKept_onElem _ _ _)
    · exact .ite (hleaves.trans (trnKept_endOut _ _)) hleaves

theorem trnKept_endDead (id : Nat) : TrnKept s (s.endDead id) :=
  ((trnKept_fincSat (by decide)).trans (trnKept_reportOpen _ _ _)).trans (trnKept_endReq _ _ _ _)

/-! Lines written back (R290), and entries of epoch regions that reach their backing (R332). -/

theorem trnKept_correctAt_gddr (ch loc n : Nat) : TrnKept s (s.correctAt (.gddr ch loc) n) := by
  have hcorrect (a src code : Nat) (cnt : Fld) (h : 0x10300 ≤ cnt.off) : TrnKept s (s.correct a n src code (some cnt)) := by
    unfold State.correct
    refine .trans (t := { s with weak := s.weak.filter (fun w => !(decide (a < 8 * w + 8) && decide (8 * w < a + n))) })
      (.of_regs rfl rfl) (.foldl (fun t w => ?_) _)
    exact (trnKept_fincSat h).trans (trnKept_reportOpen _ _ _)
  exact .ite (hcorrect _ _ _ _ (Nat.le_add_right_of_le (by decide))) (hcorrect _ _ _ _ (Nat.le_add_right_of_le (by decide)))

theorem trnKept_queueWrite (ch loc : Nat) : TrnKept s (s.queueWrite ch loc) := by
  unfold State.queueWrite
  exact .ite (.of_regs rfl rfl) .refl

theorem trnKept_writeBack (line : Nat) : TrnKept s (s.writeBack line) := by
  unfold State.writeBack
  split
  · have hcleared (ch loc k : Nat) : TrnKept s ((s.correctAt (.gddr ch loc) 64).clearPoison k 64) :=
      (trnKept_correctAt_gddr ch loc 64).and_same rfl rfl
    refine .trans (.ite ((hcleared _ _ _).trans (.foldl (fun t i => ?_) _)) (hcleared _ _ _)) (trnKept_queueWrite _ _)
    exact .of_regs rfl rfl
  · exact .refl

theorem trnKept_drainEntry (e : EpochEntry) : TrnKept s (s.drainEntry e) := by
  unfold State.drainEntry
  extract_lets put s1 s2
  have hput : TrnKept s s1 := by
    refine .foldl (fun t i => ?_) s
    exact .ite (.of_regs rfl rfl) .refl
  have hcleared : TrnKept s s2 := .ite (hput.and_same rfl rfl) hput
  exact (hcleared.and_same (u := s2.setDirLine e.line .none) rfl rfl).trans (trnKept_writeBack e.line)

theorem trnKept_drainPublished (m : Nat) : TrnKept s (s.drainPublished m) := by
  have hdrained (l : List EpochEntry) : TrnKept s (l.foldl State.drainEntry s) := .foldl (fun _ e => trnKept_drainEntry e) s
  exact (hdrained _).and_same rfl rfl

theorem trnKept_homeFires (m n : Nat) : TrnKept s (s.homeFires m n) := by
  unfold State.homeFires
  dsimp only
  split
  · exact .refl
  · exact (trnKept_drainPublished m).and_same rfl rfl

theorem trnKept_publish (n : Nat) : TrnKept s (s.publish n) := by
  have hfired (l : List Nat) : TrnKept s (l.foldl (fun s m => s.homeFires m n) s) := .foldl (fun _ m => trnKept_homeFires m n) s
  exact (hfired (List.range 8)).and_same rfl rfl

/-! Keys, routes and the own LDN (R346, R347, R390 to R393). -/

theorem high_rgn_key (d : Nat) : 0x10300 ≤ A.RMM_RGN_KEY d := Nat.le_add_right_of_le (by decide)
theorem high_rgn_cfg (d : Nat) : 0x10300 ≤ A.RMM_RGN_CFG d := Nat.le_add_right_of_le (by decide)

theorem trnKept_installKeys (n : Nat) : TrnKept s (s.installKeys n) := by
  unfold State.installKeys
  extract_lets ds s1 s2
  have hout : TrnKept s1 s2 := by
    refine .foldl (fun t e => ?_) s1
    exact .ite (.of_regs (State.setOktOf_trn _ _ _) (State.setOktOf_regs _ _ _)) .refl
  have htaken : TrnKept s s1 := by
    refine .foldl (fun t d => ?_) s
    extract_lets old t1
    have hwritten : TrnKept t t1 := .fset (.fset .refl (high_rgn_key d)) (high_rgn_cfg d)
    exact hwritten.and_same rfl rfl
  exact .fset (.fset (.fset (htaken.trans hout) (by decide)) (by decide)) (by decide)

theorem trnKept_tickKeys (n : Nat) : TrnKept s (s.tickKeys n) := by
  unfold State.tickKeys
  have htwilight : TrnKept s (if s.twilightArm then { s.fset R.RMM_STATUS.twilight 1 with twilightArm := false } else s) :=
    .ite (.trans (.fset .refl (by decide)) (.of_regs rfl rfl)) .refl
  exact .trans (.ite (htwilight.trans (trnKept_installKeys n)) htwilight) (.of_regs rfl rfl)

theorem trnKept_tickRoutes (n : Nat) : TrnKept s (s.tickRoutes n) := by
  unfold State.tickRoutes
  refine .ite (.trans ?_ (.foldl (fun _ l => trnKept_orphanLdn l) _)) .refl
  refine .trans ?_ (.foldl (fun _ id => trnKept_endDead id) _)
  exact .fset (.fset .refl (by decide)) (by decide)

theorem trnKept_tickLdn (n : Nat) : TrnKept s (s.tickLdn n) := by
  unfold State.tickLdn
  have happlied : TrnKept s (if s.fon R.SCP_LDN_NEXT.pending && decide (s.fget R.SCP_LDN_AT.at_transit ≤ n) then
      (s.fset R.SCP_ID.ldn (s.fget R.SCP_LDN_NEXT.ldn_next)).fset R.SCP_LDN_NEXT.pending 0 else s) :=
    .ite (.fset (.fset .refl (by decide)) (by decide)) .refl
  exact .ite (.fset (.fset happlied (by decide)) (by decide)) happlied

/-! Constellations (R397, R417 to R421). -/

theorem trnKept_countPost (k n : Nat) : TrnKept s (s.countPost k n) := by
  have hadded (f : Post → Post) : TrnKept s (s.onPost k f) := .of_regs rfl rfl
  exact .ite .refl ((hadded _).trans (trnKept_hwAddN _ _ _))

theorem trnKept_abortPost (status : Nat) (peer : Nat × Nat) (k : Nat) : TrnKept s (s.abortPost status peer k) := by
  unfold State.abortPost State.completePost
  refine .trans ?_ (trnKept_countPost k _)
  exact .of_regs rfl rfl

theorem trnKept_unpark (f : Parked → Bool) : TrnKept s (s.unpark f) := by
  unfold State.unpark
  refine .trans ?_ (.foldl (fun _ _ => trnKept_emit _) _)
  exact .of_regs rfl rfl

theorem high_cst_status (i : Nat) : 0x10300 ≤ A.COL_CST_STATUS i := Nat.le_add_right_of_le (by decide)
theorem high_cst_cfg (i : Nat) : 0x10300 ≤ A.COL_CST_CFG i := Nat.le_add_right_of_le (by decide)
theorem high_cst_next (i : Nat) : 0x10300 ≤ A.COL_CST_NEXT i := Nat.le_add_right_of_le (by decide)
theorem high_member (j : Nat) : 0x10300 ≤ A.COL_MEMBER j := Nat.le_add_right_of_le (by decide)

theorem trnKept_shrink (i : Nat) : TrnKept s (s.shrink i) := by
  unfold State.shrink
  refine .trans (.trans (.fset (.foldl (fun _ k => ?_) s) (high_cst_cfg i)) (trnKept_unpark _)) (.of_regs rfl rfl)
  exact .fset (trnKept_abortPost _ _ k) (high_cst_status i)

theorem trnKept_renumber (i : Nat) : TrnKept s (s.renumber i) := .fset (.fset .refl (high_cst_cfg i)) (high_cst_cfg i)

theorem trnKept_setDark (l : List Nat) (v : Nat) : TrnKept s (l.foldl (fun s j => s.fset (R.COL_MEMBER.dark j) v) s) :=
  .foldl (fun _ j => .fset .refl (high_member j)) s

theorem trnKept_shrinkSolves (f : Solve → Bool) : TrnKept s (s.shrinkSolves f) := by
  refine .foldl (fun t n => ?_) s
  exact .of_regs rfl rfl

theorem trnKept_applyLost (n : Nat) : TrnKept s (s.applyLost n) := by
  unfold State.applyLost
  refine .trans (t := { s with lostAt := s.lostAt.filter (fun e => !decide (e.2 ≤ n)) }) (.of_regs rfl rfl) ?_
  refine .foldl (fun t e => .foldl (fun u i => ?_) t) _
  exact (((trnKept_setDark _ 1).trans (trnKept_shrink i)).trans (trnKept_renumber i)).trans (trnKept_shrinkSolves _)

/-- An entry that goes away: its posts end and its parked messages are freed. -/
theorem trnKept_endCst (i : Nat) : TrnKept s
    ((((s.openPosts (fun _ p => pCst p == i)).foldl (fun s k => s.abortPost stShrink (0, 0) k) s).fset (R.COL_CST_CFG.valid i) 0).unpark
      (fun m => m.cst == i)) :=
  (TrnKept.fset (.foldl (fun _ k => trnKept_abortPost _ _ k) s) (high_cst_cfg i)).trans (trnKept_unpark _)

theorem trnKept_applyCst (i : Nat) : TrnKept s (s.applyCst i) := by
  unfold State.applyCst
  have hchange : TrnKept s (s.fset (R.COL_CST_NEXT.change i) 0) := .fset .refl (high_cst_next i)
  have hcfg {t : State} (h : TrnKept s t) (lo width v : Nat) : TrnKept s (t.fset ⟨A.COL_CST_CFG i, lo, width⟩ v) := h.fset (high_cst_cfg i)
  have htaken : TrnKept s (((s.fset (R.COL_CST_NEXT.change i) 0).fset (R.COL_CST_CFG.valid i) 1).fset (R.COL_CST_CFG.partition i)
      (s.fget (R.COL_CST_NEXT.partition i))) := hcfg (hcfg hchange _ _ _) _ _ _
  dsimp only
  split
  · split
    · exact htaken.trans (trnKept_renumber i)
    · refine .trans (.trans ?_ (trnKept_setDark _ 0)) (trnKept_renumber i)
      exact hcfg (hcfg (htaken.trans (trnKept_shrink i)) _ _ _) _ _ _
  · exact (hchange.trans (trnKept_endCst i)).and_same rfl rfl

theorem trnKept_applyCol (n : Nat) : TrnKept s (s.applyCol n) :=
  .ite ((TrnKept.fset .refl (by decide)).trans (.foldl (fun _ i => trnKept_applyCst i) _)) .refl

/-! Images and widths (R50, R62 to R64). -/

theorem high_prt_status (p : Nat) : 0x10300 ≤ A.PRT_STATUS p := Nat.le_add_right_of_le (by decide)

theorem trnKept_disableMap (r : Nat) : TrnKept s (s.disableMap r) := by
  refine .ite (.trans (.fset .refl (f := R.GDM_MAP_CTL.enable r) (Nat.le_add_right_of_le (by decide))) (.foldl (fun _ d => ?_) _)) .refl
  exact .fset .refl (f := R.RMM_RGN_CFG.enable d) (Nat.le_add_right_of_le (by decide))

theorem trnKept_disableMaps (ch : Nat) : TrnKept s (s.disableMaps ch) := .foldl (fun _ r => trnKept_disableMap r) _

theorem trnKept_beginApply (p : Nat) : TrnKept s (s.beginApply p) := by
  unfold State.beginApply
  split
  · exact .refl
  · extract_lets t gone s0 s1 g s2
    have hmaps : TrnKept s s0 := .foldl (fun _ ch => trnKept_disableMaps ch) s
    have hrgns : TrnKept s0 s1 := by
      refine .foldl (fun t d => ?_) s0
      exact .fset .refl (high_rgn_cfg d)
    clear_value s1
    have happlying : TrnKept s s2 := (hmaps.trans hrgns).and_same rfl rfl
    have hshown : TrnKept s (s2.fset (R.PRT_STATUS.image p) 2) := happlying.fset (high_prt_status p)
    exact hshown.trans (trnKept_raise _ _)

theorem trnKept_tickImage (cut : Bool) (i : PendingImg) : TrnKept s (s.tickImage cut i) := by
  have hheld : TrnKept s (s.fset (R.PRT_STATUS.held i.partition) 1) := .fset .refl (high_prt_status _)
  unfold State.tickImage
  dsimp only
  split
  · exact .refl
  · split
    · refine .trans ?_ (trnKept_beginApply _)
      exact hheld.and_same rfl rfl
    · exact hheld.and_same rfl rfl

theorem trnKept_tickImages (cut : Bool) : TrnKept s (s.tickImages cut) := by
  have hresumed (l : List Nat) :
      TrnKept s (l.foldl (fun s p => s.fset (R.PRT_STATUS.held p) (s.alm.held && bit s.alm.parts p).toNat) s) :=
    .foldl (fun _ p => .fset .refl (high_prt_status p)) s
  unfold State.tickImages
  refine .trans ?_ (.foldl (fun _ i => trnKept_tickImage cut i) _)
  exact (hresumed _).and_same rfl rfl

theorem trnKept_tickWidths : TrnKept s s.tickWidths := by
  have hwidth (u : State) (c : Nat) : TrnKept u (u.setWidth c) :=
    .setReg (.fset (.fset .refl (f := R.TC_ME_STATUS.width_physical c) (Nat.le_add_right_of_le (by decide)))
      (f := R.TC_ME_STATUS.width_presented c) (Nat.le_add_right_of_le (by decide))) (Nat.le_add_right_of_le (by decide))
  exact .foldl (fun _ p => .trans (.fset .refl (f := R.PRT_RES.width p) (Nat.le_add_right_of_le (by decide))) (.foldl hwidth _)) s

/-! The almanac (R507 to R511, R521). -/

theorem trnKept_holdCores (mask : Nat) (on : Bool) : TrnKept s (s.holdCores mask on) := by
  unfold State.holdCores
  dsimp only
  refine .trans (.trans (.foldl (fun t c => ?_) s) (.foldl (fun t c => ?_) _)) (.foldl (fun t p => ?_) _)
  · exact .of_regs rfl rfl
  · exact .of_regs rfl rfl
  · exact .fset .refl (high_prt_status p)

theorem trnKept_almRelease (status : Nat) : TrnKept s (s.almRelease status) := by
  unfold State.almRelease State.mntEnd
  have hslot (i : Nat) : 0x10300 ≤ A.MNT_SLOT i := Nat.le_add_right_of_le (by decide)
  split
  · exact (.fset (.fset (.fset .refl (hslot _)) (hslot _)) (hslot _) : TrnKept s _).trans (trnKept_raise _ _)
  · exact .refl

theorem trnKept_almIdle : TrnKept s s.almIdle := by
  unfold State.almIdle
  refine .fset (f := R.ALM_STATUS.state) ?_ (by decide)
  exact .of_regs rfl rfl

theorem trnKept_almErr (code : Nat) : TrnKept s (s.almErr code) := by
  have hshown : TrnKept s ((s.fset R.ALM_STATUS.err 1).fset R.ALM_STATUS.code code) :=
    .fset (.fset .refl (by decide)) (by decide)
  exact (hshown.trans (trnKept_raise _ _)).trans (trnKept_report _ _ _ _)

theorem trnKept_almFail (code : Nat) : TrnKept s (s.almFail code) :=
  ((trnKept_almRelease stInternal).trans trnKept_almIdle).trans (trnKept_almErr code)

theorem trnKept_almUnhold : TrnKept s s.almUnhold := by
  unfold State.almUnhold
  refine .ite (.trans ?_ (trnKept_holdCores _ _)) .refl
  exact .of_regs rfl rfl

theorem trnKept_almCutAt (n : Nat) (late : List Nat) : TrnKept s (s.almCutAt n late) := by
  unfold State.almCutAt
  dsimp only
  split
  · split
    · exact trnKept_almFail 7
    · refine .trans (.fset (f := R.ALM_STATUS.state) ?_ (by decide)) (trnKept_holdCores _ _)
      exact .of_regs rfl rfl
  · exact .refl

theorem trnKept_tickAlmanac (n : Nat) : TrnKept s (s.tickAlmanac n) := trnKept_almUnhold.trans (trnKept_almCutAt n _)

/-! Milestones and Eclipse (R471, R541 to R544). -/

theorem trnKept_checkJoin : TrnKept s s.checkJoin :=
  ⟨checkJoin_trn s, fun _ hoff => checkJoin_reg s (fun heq => absurd (heq ▸ hoff.1) (by decide))⟩

theorem trnKept_freeze (sr : Nat) : TrnKept s (s.freeze sr) := by
  have hlost (l : List Nat) : TrnKept s (l.foldl State.loseChan s) := by
    refine .foldl (fun t ch => ?_) s
    exact .of_regs rfl rfl
  unfold State.freeze
  refine .fset (f := R.ECL_SR_MASK.sr_mask) (.fset (f := R.ECL_TIME.time_ns) ?_ (by decide)) (by decide)
  exact (hlost _).and_same rfl rfl

theorem trnKept_eclTrigger (code : Nat) (fast : Bool) : TrnKept s (s.eclTrigger code fast) := by
  unfold State.eclTrigger
  split
  · extract_lets s1 s2
    have hshown : TrnKept s s1 := by
      refine .fset (.fset (.fset (.fset (.fset (.fset .refl ?_) ?_) ?_) ?_) ?_) ?_ <;> decide
    have hstarts : TrnKept s s2 := ((hshown.trans (trnKept_raise _ _)).trans (trnKept_raise _ _)).trans (trnKept_reportOpen _ _ _)
    split
    · refine .trans ?_ (trnKept_freeze 0)
      exact hstarts.and_same rfl rfl
    · exact hstarts.and_same rfl rfl
  · split
    · extract_lets s1
      have hcut : TrnKept s s1 := .fset (.fset .refl (by decide)) (by decide)
      refine .trans ?_ (trnKept_freeze _)
      exact hcut.and_same rfl rfl
    · exact trnKept_fincSat (by decide)

theorem trnKept_restartDroop : TrnKept s s.restartDroop := by
  refine .foldl (fun t d => ?_) s
  exact .of_regs rfl rfl

end

end Sys2Proof.Machine

/-! Droop (R97, R99, R100). -/
namespace Sys2Proof.Machine

section
variable (s : State)

/-- A counter that wraps. -/
theorem fget_finc (f : Fld) (n : Nat) (h : f.fits = true) : (s.finc f n).fget f = (s.fget f + n) % 2 ^ f.width :=
  (fget_fset_self s f _ h).trans (Nat.mod_mod _ _)

/-- A reading that registers do not bear on is the same after the lost time of partitions is counted. -/
theorem countLost_reads {β : Type} (g : State → β) (hg : ∀ t f v, g (State.fset t f v) = g t) : g s.countLost = g s :=
  foldl_reads (fun t _ _ => hg t _ _) s

/-- What is known of a die once its droop state is replaced and lost time counted (R99). -/
theorem droopOf_countLost (d : Nat) (x : Droop) : ((s.setDroopOf d x).countLost).droopOf d = x :=
  (countLost_reads _ (State.droopOf · d) (fun _ _ _ => rfl)).trans (State.droopOf_setDroopOf_same s d x)

theorem exec_droopDetect {now d : Nat} (hd : d < 40) :
    exec (.droopDetect now d) s = .next ((s.advance now).setDroopOf d
      { since := some (s.advance now).clock, last := (s.advance now).clock,
        stretched := ((s.advance now).droopOf d).stretched +
          (match ((s.advance now).droopOf d).since with | some b => (s.advance now).clock - b | none => 0) }).countLost := by
  show execDroopDetect now d s = _
  unfold execDroopDetect
  dsimp only
  refine (if_neg (Nat.not_le.2 hd)).trans ?_
  rfl

theorem exec_droopStretchEnd {now d b : Nat} (hd : d < 40) (hsince : ((s.advance now).droopOf d).since = some b)
    (hshortest : ((s.advance now).droopOf d).last + shortestStretch d ≤ (s.advance now).clock) :
    exec (.droopStretchEnd now d) s = .next ((s.advance now).setDroopOf d
      { since := none, last := 0, stretched := ((s.advance now).droopOf d).stretched + ((s.advance now).clock - b) }).countLost := by
  show execDroopStretchEnd now d s = _
  unfold execDroopStretchEnd
  dsimp only
  rw [hsince]
  exact if_pos ⟨hd, hshortest⟩

/-- The state once a partition has passed its margin: counted for the step, and in the counter (R100). -/
def State.overCounted (p : Nat) : State :=
  ({ s with trn := { s.trn with overCounted := insertNat s.trn.overCounted p } } : State).finc (R.TRN_PART_DROOP.over_margin_count p) 1

theorem exec_overMargin {p : Nat} (hp : p < 16) (hnot : p ∉ s.trn.overCounted)
    (hover : s.fget R.TRN_POLICY.droop_margin * s.periodNs < 1000 * s.fget (R.TRN_PART_DROOP.lost_ns p)) :
    exec (.overMargin p) s =
      .next ((s.overCounted p).report (srcPart p) codeOverMargin 0 (s.fget (R.TRN_PART_DROOP.lost_ns p))) := by
  show execOverMargin p s = _
  unfold execOverMargin
  dsimp only
  rw [if_pos ⟨hp, hover, fun h => hnot (List.contains_iff_mem.1 h)⟩]
  rfl

end

/-- Settles O15: a die's droop state is what the command puts there, as counting lost time writes registers alone. -/
theorem droopAccounting : Obligations.DroopAccounting := by
  unfold Obligations.DroopAccounting
  dsimp only
  refine ⟨fun s now d hd => ?_, fun s now d b hd hsince hshortest => ?_, fun s p hp hnot hroom hover => ?_⟩
  · refine ⟨_, exec_droopDetect s hd, ?_⟩
    rw [droopOf_countLost]
    exact ⟨rfl, rfl, rfl, (countLost_reads _ State.mem (fun _ _ _ => rfl)).trans (advance_mem s now),
      countLost_reads _ State.trn (fun _ _ _ => rfl)⟩
  · refine ⟨_, exec_droopStretchEnd s hd hsince hshortest, ?_⟩
    rw [droopOf_countLost]
    exact ⟨rfl, rfl⟩
  · have hqueued := report_queued (s.overCounted p) (srcPart p) codeOverMargin 0 (s.fget (R.TRN_PART_DROOP.lost_ns p))
      (by unfold srcPart; omega) (by decide) hroom
    refine ⟨_, exec_overMargin s hp hnot hover, ?_⟩
    rw [hqueued]
    exact ⟨fget_finc _ (R.TRN_PART_DROOP.over_margin_count p) 1 rfl, ⟨_, rfl, rfl, rfl⟩,
      fun off hoff => reg_fset_of_ne _ (R.TRN_PART_DROOP.over_margin_count p) _ off hoff⟩

end Sys2Proof.Machine

/-! Windows of a step: boundaries, the warning, done bits, window writes and period writes (R68, R81 to R86). -/
namespace Sys2Proof.Machine

theorem onTrn_partStep {p : Nat} (hp : p < 16) : OnTrn (A.TRN_PART_STEP p) := by
  unfold OnTrn A.TRN_PART_STEP
  omega

section
variable {s : State}

theorem exec_windowBoundary {now p : Nat} (hp : p < 16) (hpresent : (s.advance now).partPresent p = true)
    (hnumbered : (s.advance now).trn.numbered = true) (hph : (s.advance now).fget (R.TRN_PART_STEP.step_phase p) < 2)
    (hover : (((s.advance now).window p ((s.advance now).fget (R.TRN_PART_STEP.step_phase p))).1 +
      ((s.advance now).window p ((s.advance now).fget (R.TRN_PART_STEP.step_phase p))).2) * (s.advance now).periodNs ≤
        1000 * (s.advance now).stepTime) :
    exec (.windowBoundary now p) s = .next (((s.advance now).fset (R.TRN_PART_STEP.step_phase p)
      ((s.advance now).fget (R.TRN_PART_STEP.step_phase p) + 1)).beaconTick p) := by
  show execWindowBoundary now p s = _
  unfold execWindowBoundary
  dsimp only
  rw [if_pos ⟨hp, hpresent, hnumbered⟩, if_pos hph, if_pos hover]

/-- The window's own beacon changes nothing of the step (R83). -/
theorem windowBoundary_phase {p ph : Nat} (hp : p < 16) (hph : ph < 2) :
    ((s.fset (R.TRN_PART_STEP.step_phase p) (ph + 1)).beaconTick p).fget (R.TRN_PART_STEP.step_phase p) = ph + 1 := by
  rw [(trnKept_beaconTick p).fget (onTrn_partStep hp), fget_fset_self _ _ _ rfl]
  exact Nat.mod_eq_of_lt (show ph + 1 < 4 by omega)

theorem exec_watchdogWarn {now p : Nat} (hp : p < 16) (hpresent : (s.advance now).partPresent p = true)
    (hnumbered : (s.advance now).trn.numbered = true)
    (hwin : ((s.advance now).window p (Nat.min ((s.advance now).fget (R.TRN_PART_STEP.step_phase p)) 2)).2 ≠ 0)
    (hdone : (s.advance now).windowDone p (Nat.min ((s.advance now).fget (R.TRN_PART_STEP.step_phase p)) 2) = false)
    (hpast : (10 * ((s.advance now).window p (Nat.min ((s.advance now).fget (R.TRN_PART_STEP.step_phase p)) 2)).1 +
      9 * ((s.advance now).window p (Nat.min ((s.advance now).fget (R.TRN_PART_STEP.step_phase p)) 2)).2) * (s.advance now).periodNs ≤
        10000 * (s.advance now).stepTime) :
    exec (.watchdogWarn now p) s = .next ((((s.advance now).fset (R.TRN_PART_STEP.warn p) 1).report (srcPart p) codeWatchdogWarn 0
      (Nat.min ((s.advance now).fget (R.TRN_PART_STEP.step_phase p)) 2)).raise (.pf 1) p) := by
  show execWatchdogWarn now p s = _
  unfold execWatchdogWarn
  dsimp only
  exact if_pos ⟨hp, hpresent, hnumbered, hwin, by rw [hdone]; exact Bool.false_ne_true, hpast⟩

/-! STEP_DONE_WRITE (R84). -/

theorem windowDone_eq (p w : Nat) : s.windowDone p w = (s.reg (A.TRN_PART_STEP p)).getLsbD w :=
  (Nat.testBit_eq_decide_div_mod_eq ..).symm

/-- Done bits are set and none is cleared. -/
theorem windowDone_stepSet {p b w : Nat} (hw : w < 3) : (s.stepSet p b).windowDone p w = (s.windowDone p w || b.testBit w) := by
  rw [windowDone_eq, windowDone_eq]
  unfold State.stepSet
  rw [reg_setReg_same, BitVec.getLsbD_or, BitVec.getLsbD_ofNat, Nat.testBit_mod_two_pow b 3 w, decide_eq_true (show w < 64 by omega),
    decide_eq_true hw, Bool.true_and, Bool.true_and]

/-- The bits that a write of 1 clears are none of the done bits. -/
theorem windowDone_stepClear {p w : Nat} (v : Word) (hw : w < 3) : (s.stepClear p v).windowDone p w = s.windowDone p w := by
  rw [windowDone_eq, windowDone_eq]
  unfold State.stepClear
  have hmask : (0xE0000 : Word).getLsbD w = false := by
    interval_cases w <;> rfl
  rw [reg_setReg_same, BitVec.getLsbD_and, BitVec.getLsbD_not, BitVec.getLsbD_and, hmask, decide_eq_true (show w < 64 by omega)]
  simp only [Bool.and_false, Bool.not_false, Bool.and_true]

/-- Bits 2:0 of a value. -/
theorem testBit_low (v w : Nat) (hw : w < 3) : (v % 8).testBit w = bit v w := by
  rw [bit_eq_testBit, Nat.testBit_mod_two_pow v 3 w, decide_eq_true hw, Bool.true_and]

/-- Who may set the done bits of a partition. -/
def State.maySetDone (s : State) (who : Who) (p : Nat) : Prop :=
  (∃ c, who = .tcore c ∧ s.partOfTcore c = some p) ∨ (∃ c, who = .pcore c ∧ s.partOfPcore c = some p) ∨
    (∃ f, who = .vf f ∧ s.tenantPart f = some p) ∨ (∃ n, who = .pf n ∧ n < 2)

/-- The done bits of `p` in `t` are those of `s` and those of `v`; nothing else of the registers or memory changes. -/
structure DoneSet (s t : State) (p : Nat) (v : Word) : Prop where
  done : ∀ w, w < 3 → t.windowDone p w = (s.windowDone p w || bit v.toNat w)
  reg : ∀ off, off ≠ A.TRN_PART_STEP p → t.reg off = s.reg off
  mem : t.mem = s.mem

theorem doneSet_stepSet (p : Nat) (v : Word) : DoneSet s (s.stepSet p (v.toNat % 8)) p v :=
  ⟨fun w hw => by rw [windowDone_stepSet hw, testBit_low _ _ hw], fun off hoff => reg_setReg_other _ _ off _ hoff.symm, rfl⟩

theorem doneSet_stepClear (p : Nat) (v : Word) : DoneSet s ((s.stepClear p v).stepSet p (v.toNat % 8)) p v := by
  obtain ⟨hdone, hreg, hmem⟩ := doneSet_stepSet (s := s.stepClear p v) p v
  exact ⟨fun w hw => by rw [hdone w hw, windowDone_stepClear v hw],
    fun off hoff => (hreg off hoff).trans (reg_setReg_other s _ off _ hoff.symm), hmem⟩

theorem exec_stepDoneWrite {who : Who} {p : Nat} {v : Word} (hp : p < 16) (hmay : s.maySetDone who p) :
    ∃ t, exec (.stepDoneWrite who p v) s = .next t ∧ DoneSet s t p v := by
  have hset (h : execStepDoneWrite who p v s = .next (s.stepSet p (v.toNat % 8))) :
      ∃ t, exec (.stepDoneWrite who p v) s = .next t ∧ DoneSet s t p v := ⟨_, h, doneSet_stepSet p v⟩
  unfold execStepDoneWrite at hset
  rw [if_neg (Nat.not_le.2 hp)] at hset
  obtain ⟨c, rfl, hpart⟩ | ⟨c, rfl, hpart⟩ | ⟨f, rfl, hpart⟩ | ⟨n, rfl, hn⟩ := hmay
  · exact hset (congrArg _ (if_pos hpart))
  · exact hset (congrArg _ (if_pos hpart))
  · exact hset (congrArg _ (if_pos hpart))
  · refine ⟨_, ?_, doneSet_stepClear p v⟩
    show execStepDoneWrite (.pf n) p v s = _
    unfold execStepDoneWrite
    rw [if_neg (Nat.not_le.2 hp)]
    exact if_pos hn

theorem exec_stepDoneWrite_refused {who : Who} {p : Nat} (v : Word) (hp : p < 16)
    (hnot : (∃ c, who = .tcore c ∧ s.partOfTcore c ≠ some p) ∨ (∃ c, who = .pcore c ∧ s.partOfPcore c ≠ some p) ∨ (∃ n, who = .se n)) :
    exec (.stepDoneWrite who p v) s = .next (s.emit (.ended who 0x11)) := by
  show execStepDoneWrite who p v s = _
  unfold execStepDoneWrite
  rw [if_neg (Nat.not_le.2 hp)]
  obtain ⟨c, rfl, hpart⟩ | ⟨c, rfl, hpart⟩ | ⟨n, rfl⟩ := hnot
  · exact congrArg _ (if_neg hpart)
  · exact congrArg _ (if_neg hpart)
  · rfl

/-! WINDOW_WRITE and PERIOD_NEXT_WRITE (R68, R82). -/

theorem pf_writes_windows {n : Nat} (hn : n < 2) : ¬ (Fn.pf n ≠ .pf 0 ∧ Fn.pf n ≠ .pf 1) := by
  obtain rfl | rfl : n = 0 ∨ n = 1 := by omega
  · exact fun h => h.1 rfl
  · exact fun h => h.2 rfl

theorem exec_windowWrite_bad {n p : Nat} {v : Word} (hn : n < 2) (hp : p < 16)
    (hsum : getField v 0 10 + getField v 16 10 + getField v 32 10 ≠ 1000) :
    exec (.windowWrite (.pf n) p .whole v) s = .next (s.fset (R.TRN_PART_STEP.win_err p) 1) := by
  show execWindowWrite (.pf n) p .whole v s = _
  unfold execWindowWrite
  rw [if_neg (Nat.not_le.2 hp), if_neg (pf_writes_windows hn)]
  exact if_pos hsum

/-- The state once windows are kept for the next transit: the other fields of the write are in force. -/
def State.windowsKept (s : State) (p : Nat) (v : Word) : State :=
  let t := ((s.fset (R.TRN_PART_CTL.policy p) (getField v 48 1)).fset (R.TRN_PART_CTL.acct_en p) (getField v 49 1)).fset
    (R.TRN_PART_CTL.beacon_en p) (getField v 50 1)
  { t with trn := { t.trn with winNext := assocSet (fun _ => 0) t.trn.winNext p (v &&& 0x3FF03FF03FF) } }

theorem exec_windowWrite_good {n p : Nat} {v : Word} (hn : n < 2) (hp : p < 16)
    (hsum : getField v 0 10 + getField v 16 10 + getField v 32 10 = 1000) :
    exec (.windowWrite (.pf n) p .whole v) s = .next (s.windowsKept p v) := by
  show execWindowWrite (.pf n) p .whole v s = _
  unfold execWindowWrite
  rw [if_neg (Nat.not_le.2 hp), if_neg (pf_writes_windows hn)]
  dsimp only [mergeHalf]
  rw [if_neg (fun h => h hsum)]
  rfl

/-- Registers do not rest on what the transit unit holds besides. -/
theorem fget_withTrn (r : Trn) (f : Fld) : ({ s with trn := r } : State).fget f = s.fget f := rfl

/-- A field of TRN_PART_CTL below the other fields of a window write stays. -/
theorem windowsKept_window {p lo : Nat} (v : Word) (hlo : lo + 10 ≤ 48) :
    (s.windowsKept p v).fget ⟨A.TRN_PART_CTL p, lo, 10⟩ = s.fget ⟨A.TRN_PART_CTL p, lo, 10⟩ := by
  have hstay (t : State) (f : Fld) (x : Nat) (hf : 48 ≤ f.lo) :
      (t.fset f x).fget ⟨A.TRN_PART_CTL p, lo, 10⟩ = t.fget ⟨A.TRN_PART_CTL p, lo, 10⟩ :=
    fget_fset_apart t f _ x (.inl (Nat.le_trans hlo hf)) (Nat.le_trans hlo (by decide))
  refine (fget_withTrn _ _).trans ((hstay _ (R.TRN_PART_CTL.beacon_en p) _ (by decide : 48 ≤ 50)).trans ?_)
  exact (hstay _ (R.TRN_PART_CTL.acct_en p) _ (by decide : 48 ≤ 49)).trans (hstay _ (R.TRN_PART_CTL.policy p) _ (Nat.le_refl 48))

theorem exec_periodNextWrite_bad {v : Word} (a : Word) (hrange : v.toNat % 2 ^ 34 < 10000 ∨ 10000000000 < v.toNat % 2 ^ 34) :
    exec (.periodNextWrite (.pf 0) v a) s = .next (((s.fset R.TRN_STATUS.period_err 1).raise (.pf 0) 4).report srcPackage codePeriodErr 0
      (v.toNat % 2 ^ 34)) := by
  show execPeriodNextWrite (.pf 0) v a s = _
  unfold execPeriodNextWrite
  rw [if_neg (fun h => h rfl)]
  exact if_pos hrange

/-- A period out of range shows in period_err alone. -/
theorem periodErr_shown (detail : Nat) (t : State)
    (ht : t = ((s.fset R.TRN_STATUS.period_err 1).raise (.pf 0) 4).report srcPackage codePeriodErr 0 detail) :
    t.fget R.TRN_STATUS.period_err = 1 ∧ t.reg A.TRN_PERIOD_NEXT = s.reg A.TRN_PERIOD_NEXT ∧
      t.reg A.TRN_PERIOD_AT = s.reg A.TRN_PERIOD_AT := by
  have hkept : TrnKept (s.fset R.TRN_STATUS.period_err 1) t := ht ▸ (trnKept_raise _ _).trans (trnKept_report _ _ _ _)
  refine ⟨(hkept.fget ⟨by decide, by decide⟩).trans (fget_fset_self _ _ _ rfl), ?_, ?_⟩
  · exact (hkept.reg _ ⟨by decide, by decide⟩).trans (reg_fset_of_ne _ R.TRN_STATUS.period_err _ _ (by decide))
  · exact (hkept.reg _ ⟨by decide, by decide⟩).trans (reg_fset_of_ne _ R.TRN_STATUS.period_err _ _ (by decide))

/-- The state once a period and the transit it begins at are written (R68). -/
def State.periodSet (s : State) (per : Nat) (a : Word) : State :=
  ((s.fset R.TRN_PERIOD_NEXT.period_ns per).setReg A.TRN_PERIOD_AT a).setPerAt

theorem exec_periodNextWrite_good {v : Word} (a : Word) (hlow : 10000 ≤ v.toNat % 2 ^ 34) (hhigh : v.toNat % 2 ^ 34 ≤ 10000000000) :
    exec (.periodNextWrite (.pf 0) v a) s = .next (s.periodSet (v.toNat % 2 ^ 34) a) := by
  show execPeriodNextWrite (.pf 0) v a s = _
  unfold execPeriodNextWrite
  rw [if_neg (fun h => h rfl)]
  exact if_neg (by omega)

variable (s) (per : Nat) (a : Word)

/-- A register other than the two written stays. -/
theorem periodSet_fget {f : Fld} (hnext : f.off ≠ A.TRN_PERIOD_NEXT) (hat : f.off ≠ A.TRN_PERIOD_AT) :
    (s.periodSet per a).fget f = s.fget f := by
  refine (congrArg (getField · f.lo f.width) (reg_setReg_other _ A.TRN_PERIOD_AT _ a hat.symm)).trans ?_
  exact fget_fset_reg s R.TRN_PERIOD_NEXT.period_ns f per hnext.symm

theorem periodSet_at : (s.periodSet per a).reg A.TRN_PERIOD_AT = a := reg_setReg_same _ _ _

theorem periodSet_next : (s.periodSet per a).fget R.TRN_PERIOD_NEXT.period_ns = per % 2 ^ 34 := by
  refine (congrArg (getField · 0 34) (reg_setReg_other _ A.TRN_PERIOD_AT A.TRN_PERIOD_NEXT a (by decide))).trans ?_
  exact fget_fset_self s R.TRN_PERIOD_NEXT.period_ns per rfl

theorem periodSet_perAt : (s.periodSet per a).trn.perAt = Nat.max a.toNat (s.transitNo + 2) := by
  have hat : ((s.fset R.TRN_PERIOD_NEXT.period_ns per).setReg A.TRN_PERIOD_AT a).fget R.TRN_PERIOD_AT.at_transit = a.toNat := by
    unfold State.fget
    rw [show R.TRN_PERIOD_AT.at_transit.off = A.TRN_PERIOD_AT from rfl, reg_setReg_same]
    simp only [getField, R.TRN_PERIOD_AT.at_transit, BitVec.ushiftRight_zero]
    exact Nat.mod_eq_of_lt a.isLt
  have hno : ((s.fset R.TRN_PERIOD_NEXT.period_ns per).setReg A.TRN_PERIOD_AT a).fget R.TRN_NUMBER.transit = s.transitNo :=
    periodSet_fget s per a (f := R.TRN_NUMBER.transit) (by decide) (by decide)
  show Nat.max _ (_ + 2) = _
  rw [hat, hno]

/-- A period in range is that of every step from the transit it begins at, and of all where none is in force (R68). -/
theorem periodSet_nextPeriod (hper : per < 2 ^ 34) (hpos : per ≠ 0) (n : Nat) :
    (s.periodSet per a).nextPeriod n = if Nat.max a.toNat (s.transitNo + 2) ≤ n ∨ s.periodNs = 0 then per else s.periodNs := by
  have hforce : (s.periodSet per a).periodNs = s.periodNs := periodSet_fget s per a (by decide) (by decide)
  unfold State.nextPeriod
  dsimp only
  rw [periodSet_next, Nat.mod_eq_of_lt hper, periodSet_perAt, hforce]
  simp only [ne_eq, hpos, not_false_eq_true, true_and]

end

/-- Settles O14: each command by its equation; the windows in force, and the period in force, are fields that no write reaches. -/
theorem windowsOfAStep : Obligations.WindowsOfAStep := by
  unfold Obligations.WindowsOfAStep
  dsimp only
  refine ⟨fun s now p hp hpresent hnumbered hph hover => ⟨_, exec_windowBoundary hp hpresent hnumbered hph hover, windowBoundary_phase hp hph⟩,
    fun s now p hp hpresent hnumbered hwin hdone hpast => ?_, fun s who p v hp hmay => ?_,
    fun s who p v hp hnot => exec_stepDoneWrite_refused v hp hnot, fun s n p v hn hp hsum => exec_windowWrite_bad hn hp hsum,
    fun s n p v hn hp hsum => ?_, fun s v a hrange => ⟨_, exec_periodNextWrite_bad a hrange, periodErr_shown _ _ rfl⟩,
    fun s v a hlow hhigh => ?_⟩
  · refine ⟨_, exec_watchdogWarn hp hpresent hnumbered hwin hdone hpast, ?_⟩
    rw [((trnKept_report _ _ _ _).trans (trnKept_raise _ _)).fget (onTrn_partStep hp)]
    exact fget_fset_self _ (R.TRN_PART_STEP.warn p) 1 rfl
  · obtain ⟨t, ht, hdone, hreg, hmem⟩ := exec_stepDoneWrite (v := v) hp hmay
    exact ⟨t, ht, hdone, hreg, hmem⟩
  · exact ⟨_, exec_windowWrite_good hn hp hsum, windowsKept_window v (by decide), windowsKept_window v (by decide), assocGet_set_same _ _ _ _⟩
  · have hper : v.toNat % 2 ^ 34 < 2 ^ 34 := Nat.mod_lt _ (by decide)
    exact ⟨_, exec_periodNextWrite_good a hlow hhigh, (periodSet_next s _ a).trans (Nat.mod_eq_of_lt hper), periodSet_at s _ a,
      periodSet_perAt s _ a, periodSet_fget s _ a (by decide) (by decide), periodSet_nextPeriod s _ a hper (by omega), rfl⟩

end Sys2Proof.Machine

/-! The election of a master (R70 to R73): candidates, acknowledgements, the quorum, MASTER, and a master that is lost. -/
namespace Sys2Proof.Machine

section
variable {s : State}

/-! Candidates (R70, R71). -/

theorem better_eq_true {a b : Nat × Nat} : better a b = true ↔ b.1 < a.1 ∨ a.1 = b.1 ∧ a.2 < b.2 := by
  unfold better
  simp only [Bool.or_eq_true, Bool.and_eq_true, decide_eq_true_eq, beq_iff_eq]

/-- The best candidate so far is acknowledged with the transit number held, and the own candidacy withdrawn (R71). -/
def State.acknowledges (s : State) (prio phys : Nat) : State :=
  ({ s with trn := { s.trn with heard := some (prio, phys), cand := false } } : State).emit
    (.electionAck phys s.ownPhys (if s.trn.numbered then some s.transitNo else none))

theorem exec_candidate {link prio phys num : Nat} {h : Nat × Nat} (hops : Nat) (hlink : s.vc0In link = true)
    (hfresh : s.fresh 5 [prio, phys, num] = true) (helecting : s.electing = true) (hheard : s.trn.heard = some h) :
    exec (.candidate link hops prio phys num) s = .next (if better (prio, phys) h then
      (s.flood 5 [prio, phys, num] none (some link) hops).acknowledges prio phys else
        s.flood 5 [prio, phys, num] none (some link) hops) := by
  have hheard' : (s.flood 5 [prio, phys, num] none (some link) hops).trn.heard = some h :=
    (congrArg Trn.heard (flood_trn s)).trans hheard
  show execCandidate link hops prio phys num s = _
  unfold execCandidate
  rw [hlink, hfresh, helecting]
  simp only [Bool.and_self, if_true]
  rw [hheard']
  dsimp only
  split <;> rfl

theorem exec_electionAcknowledgement {phys : Nat} (num : Option Nat) (helecting : s.electing = true) (hcand : s.trn.cand = true)
    (hother : phys ≠ s.ownPhys) (hnew : ∀ a ∈ s.trn.acks, a.1 ≠ phys) :
    exec (.electionAcknowledgement phys num) s = .next { s with trn := { s.trn with acks := s.trn.acks ++ [(phys, num)] } } := by
  have hany : s.trn.acks.any (fun a => a.1 == phys) = false :=
    List.any_eq_false.2 (fun a ha => by rw [beq_iff_eq]; exact hnew a ha)
  show execElectionAcknowledgement phys num s = _
  unfold execElectionAcknowledgement
  rw [helecting, hcand, bne_iff_ne.2 hother, hany]
  rfl

/-! The quorum makes a master (R71, R72). -/

/-- The package as master, before the numbering goes on. -/
def State.crowned (s : State) : State :=
  { ((((s.fset R.TRN_STATUS.electing 0).fset R.TRN_STATUS.is_master 1).fset R.TRN_STATUS.synced 1).fset
      R.TRN_STATUS.offset_ns 0).fset R.TRN_STATUS.master_ldn s.ldn with
    trn := { s.trn with cand := false, started := true, adopted := true, hold := none, slew := 0, dones := [],
                        doneSent := false, stretching := false, masterPhys := s.ownPhys } }

theorem crowned_reg {off : Nat} (h : off ≠ A.TRN_STATUS) : s.crowned.reg off = s.reg off := by
  refine (reg_fset_of_ne _ R.TRN_STATUS.master_ldn _ _ h).trans ((reg_fset_of_ne _ R.TRN_STATUS.offset_ns _ _ h).trans ?_)
  refine (reg_fset_of_ne _ R.TRN_STATUS.synced _ _ h).trans ((reg_fset_of_ne _ R.TRN_STATUS.is_master _ _ h).trans ?_)
  exact reg_fset_of_ne _ R.TRN_STATUS.electing _ _ h

theorem crowned_fget {f : Fld} (h : f.off ≠ A.TRN_STATUS) : s.crowned.fget f = s.fget f :=
  congrArg (getField · f.lo f.width) (crowned_reg h)

theorem crowned_isMaster : s.crowned.fget R.TRN_STATUS.is_master = 1 := by
  refine (fget_fset_of_apart _ R.TRN_STATUS.master_ldn _ _ rfl).trans ((fget_fset_of_apart _ R.TRN_STATUS.offset_ns _ _ rfl).trans ?_)
  exact (fget_fset_of_apart _ R.TRN_STATUS.synced _ _ rfl).trans (fget_fset_self _ R.TRN_STATUS.is_master 1 rfl)

theorem crowned_electing : s.crowned.fget R.TRN_STATUS.electing = 0 := by
  refine (fget_fset_of_apart _ R.TRN_STATUS.master_ldn _ _ rfl).trans ((fget_fset_of_apart _ R.TRN_STATUS.offset_ns _ _ rfl).trans ?_)
  refine (fget_fset_of_apart _ R.TRN_STATUS.synced _ _ rfl).trans ((fget_fset_of_apart _ R.TRN_STATUS.is_master _ _ rfl).trans ?_)
  exact fget_fset_self _ R.TRN_STATUS.electing 0 rfl

/-- A numbering that goes on (R72). -/
theorem becomeMaster_of_held {m : Nat} (h : s.highestHeld = some m) :
    s.becomeMaster = { s.crowned with trn := { s.crowned.trn with nextNo := m + 1, masterAt := s.crowned.rackTime } } := by
  unfold State.becomeMaster
  dsimp only
  rw [h]
  rfl

/-- A new rack epoch (R72). -/
theorem becomeMaster_of_none (h : s.highestHeld = none) :
    s.becomeMaster = { (s.crowned.fset R.TRN_TIME.time_ns 0).fset R.TRN_NEXT.next_ns 0 with
      trn := { s.crowned.trn with nextNo := s.crowned.fget R.TRN_START.start, masterAt := 0 } } := by
  unfold State.becomeMaster
  dsimp only
  rw [h]
  rfl

/-- Of the registers only rack time and the next nominal time may change with the numbering. -/
theorem becomeMaster_fget {f : Fld} (htime : f.off ≠ A.TRN_TIME) (hnext : f.off ≠ A.TRN_NEXT) : s.becomeMaster.fget f = s.crowned.fget f := by
  cases h : s.highestHeld with
  | some m => rw [becomeMaster_of_held h]; rfl
  | none =>
    rw [becomeMaster_of_none h]
    exact (fget_fset_reg _ R.TRN_NEXT.next_ns f 0 hnext.symm).trans (fget_fset_reg _ R.TRN_TIME.time_ns f 0 htime.symm)

/-- A register of no transit unit is as it was. -/
theorem becomeMaster_fget_high {f : Fld} (h : 0x100000 ≤ f.off) : s.becomeMaster.fget f = s.fget f := by
  have hne (off : Nat) (hoff : off < 0x100000) : f.off ≠ off := by omega
  exact (becomeMaster_fget (hne _ (by decide)) (hne _ (by decide))).trans (crowned_fget (hne _ (by decide)))

/-- Whether links are up, and which carry transit control, shows in the registers of the ports. -/
theorem upLinks_of_ports {t : State} (h : ∀ f : Fld, 0x100000 ≤ f.off → t.fget f = s.fget f) : t.upLinks = s.upLinks := by
  have hstate (n : Nat) : t.fget (R.SCP_PORT_STATUS.state n) = s.fget (R.SCP_PORT_STATUS.state n) := h _ (Nat.le_add_right_of_le (by decide))
  have hsub (n j : Nat) : t.fget (subState n j) = s.fget (subState n j) := h _ (Nat.le_add_right_of_le (by decide))
  have hext (n : Nat) : t.fget (R.SCP_PORT_CTL.ext n) = s.fget (R.SCP_PORT_CTL.ext n) := h _ (Nat.le_add_right 0x100000 _)
  unfold State.upLinks State.portSt State.linkUp State.fon
  simp only [hstate, hsub, hext]

theorem becomeMaster_ownPhys : s.becomeMaster.ownPhys = s.ownPhys := by
  unfold State.ownPhys
  rw [becomeMaster_fget_high (by decide), becomeMaster_fget_high (by decide)]

/-- The master tells every up link of itself, and its milestones are checked. -/
def State.tellsMaster (s : State) : State := (s.flood 6 [s.ownPhys, s.trn.nextNo] none none 0).checkJoin

theorem tellsMaster_fget {f : Fld} (h : f.off ≠ A.GLB_BOOT) : s.tellsMaster.fget f = s.fget f :=
  (checkJoin_fget _ h).trans (flood_fget _ f)

theorem tellsMaster_nextNo : s.tellsMaster.trn.nextNo = s.trn.nextNo :=
  (checkJoin_reads _ (fun t => t.trn.nextNo) (fun _ _ => rfl)).trans (flood_reads s (fun t => t.trn.nextNo) (fun _ _ => rfl))

theorem mem_tellsMaster_out {c : Nat × Nat} (hc : c ∈ s.upLinks) : Out.vc0 c.1 c.2 6 1 [s.ownPhys, s.trn.nextNo] ∈ s.tellsMaster.out := by
  unfold State.tellsMaster
  rw [checkJoin_out]
  exact mem_flood_out_plain s (hops := 0) (by decide) hc (Option.some_ne_none _)

theorem exec_electionQuietExpiry {now : Nat} (helecting : (s.advance now).electing = true) (hcand : (s.advance now).trn.cand = true)
    (hquiet : (s.advance now).trn.candSince + 1000000 ≤ (s.advance now).clock)
    (hquorum : (s.advance now).fget R.TRN_RACK_SIZE.rack_size < 2 * ((s.advance now).trn.acks.length + 1)) :
    exec (.electionQuietExpiry now) s = .next (s.advance now).becomeMaster.tellsMaster := by
  show execElectionQuietExpiry now s = _
  unfold execElectionQuietExpiry
  dsimp only
  rw [helecting, hcand, decide_eq_true hquiet, decide_eq_true hquorum]
  rfl

/-! MASTER (R72). -/

/-- The package follows the master whose message it heard. -/
def State.follows (s : State) (phys ldn : Nat) : State :=
  { ((s.fset R.TRN_STATUS.electing 0).fset R.TRN_STATUS.is_master 0).fset R.TRN_STATUS.master_ldn (if ldn < 144 then ldn else 255) with
    trn := { s.trn with cand := false, adopted := true, masterPhys := phys, masterAt := s.rackTime, doneSent := false, stretching := false } }

theorem exec_master {link phys first : Nat} (hops ldn : Nat) (hlink : s.vc0In link = true) (hfresh : s.fresh 6 [phys, first] = true) :
    exec (.master link hops phys ldn first) s = .next ((s.flood 6 [phys, first] none (some link) hops).follows phys ldn) := by
  show execMaster link hops phys ldn first s = _
  unfold execMaster
  rw [hlink, hfresh]
  rfl

theorem follows_fget {phys ldn : Nat} {f : Fld} (h : f.off ≠ A.TRN_STATUS) : (s.follows phys ldn).fget f = s.fget f := by
  refine (fget_fset_reg _ R.TRN_STATUS.master_ldn f _ h.symm).trans ((fget_fset_reg _ R.TRN_STATUS.is_master f _ h.symm).trans ?_)
  exact fget_fset_reg _ R.TRN_STATUS.electing f _ h.symm

theorem follows_isMaster (phys ldn : Nat) : (s.follows phys ldn).isMaster = false :=
  fon_of_fget_zero ((fget_fset_of_apart _ R.TRN_STATUS.master_ldn _ _ rfl).trans (fget_fset_self _ R.TRN_STATUS.is_master 0 rfl))

theorem follows_electing (phys ldn : Nat) : (s.follows phys ldn).electing = false := by
  refine fon_of_fget_zero ((fget_fset_of_apart _ R.TRN_STATUS.master_ldn _ _ rfl).trans ?_)
  exact (fget_fset_of_apart _ R.TRN_STATUS.is_master _ _ rfl).trans (fget_fset_self _ R.TRN_STATUS.electing 0 rfl)

theorem follows_ldn (phys ldn : Nat) : (s.follows phys ldn).fget R.TRN_STATUS.master_ldn = if ldn < 144 then ldn else 255 := by
  refine (fget_fset_self _ R.TRN_STATUS.master_ldn _ rfl).trans (Nat.mod_eq_of_lt (show _ < 256 from ?_))
  split <;> omega

/-! An election starts (R70, R73). -/

/-- The package takes part in an election, before it tells the others of its candidacy. -/
def State.electionOpen (s : State) : State :=
  { (s.fset R.TRN_STATUS.electing 1).fset R.TRN_STATUS.is_master 0 with
    trn := { s.trn with cand := s.fget R.TRN_CTL.master_priority != 0, candSince := s.clock, acks := [], stretching := false,
                        electNext := false,
                        heard := if s.fget R.TRN_CTL.master_priority = 0 then none else some (s.fget R.TRN_CTL.master_priority, s.ownPhys),
                        adopted := false, sched := none, relayed := s.trn.relayed.filter (fun e => decide (e.1 < 4)) } }

/-- A reading that neither the messages remembered nor what has left bear on. -/
theorem startElection_reads {β : Type} (g : State → β)
    (hg : ∀ t m o, g { t with trn := { t.trn with relayed := m }, out := o } = g t) : g s.startElection = g s.electionOpen := by
  show g (if s.fget R.TRN_CTL.master_priority = 0 then s.electionOpen else s.electionOpen.flood 5
    [s.fget R.TRN_CTL.master_priority, s.electionOpen.ownPhys, s.electionOpen.transitNo] none none 0) = _
  split
  · rfl
  · exact flood_reads s.electionOpen g (hg _)

theorem startElection_fget (f : Fld) : s.startElection.fget f = s.electionOpen.fget f :=
  startElection_reads (State.fget · f) (fun _ _ _ => rfl)

theorem startElection_electing : s.startElection.electing = true := by
  refine fon_of_fget_one ((startElection_fget _).trans ?_)
  exact (fget_fset_of_apart _ R.TRN_STATUS.is_master _ _ rfl).trans (fget_fset_self _ R.TRN_STATUS.electing 1 rfl)

theorem startElection_trn {β : Type} (g : Trn → β) (hg : ∀ r m, g { r with relayed := m } = g r) :
    g s.startElection.trn = g s.electionOpen.trn :=
  startElection_reads (fun t => g t.trn) (fun _ m _ => hg _ m)

/-- A register other than TRN_STATUS stays. -/
theorem startElection_reg {off : Nat} (h : off ≠ A.TRN_STATUS) : s.startElection.reg off = s.reg off := by
  refine (startElection_reads (State.reg · off) (fun _ _ _ => rfl)).trans ?_
  exact (reg_fset_of_ne _ R.TRN_STATUS.is_master _ _ h).trans (reg_fset_of_ne _ R.TRN_STATUS.electing _ _ h)

/-! MASTER_LOST_TIMEOUT (R73). -/

/-- The state in which a lost master is shown and logged. -/
def State.masterLost (s : State) : State :=
  ((s.fset R.TRN_STATUS.master_lost 1).raise (.pf 0) 4).report srcPackage codeMasterLost 0 (s.fget R.TRN_STATUS.master_ldn)

theorem trnKept_masterLost : TrnKept (s.fset R.TRN_STATUS.master_lost 1) s.masterLost :=
  (trnKept_raise _ _).trans (trnKept_report _ _ _ _)

/-- Rack time at which a member whose next transit has not been scheduled gives its master up (R73; log 77). -/
def State.lossLimit (s : State) : Nat := Nat.max (s.fget R.TRN_NEXT.next_ns) s.trn.masterAt + s.maxStretch + 10000

theorem exec_masterLostTimeout {now : Nat} (hmaster : (s.advance now).isMaster = false) (helecting : (s.advance now).electing = false)
    (hsched : (s.advance now).trn.sched = none) (hnumbered : (s.advance now).trn.numbered = true) :
    exec (.masterLostTimeout now) s = .next (if (s.advance now).lossLimit ≤ (s.advance now).rackTime then
      (s.advance now).masterLost.startElection else s.advance now) := by
  show execMasterLostTimeout now s = _
  unfold execMasterLostTimeout
  dsimp only
  rw [hmaster, helecting, hsched, hnumbered]
  simp only [Bool.false_or, Bool.true_or, Option.isSome_none, Bool.false_eq_true, if_false, if_true]
  split
  · next h => exact (congrArg _ (if_pos h)).symm
  · next h => exact (congrArg _ (if_neg h)).symm

theorem startElection_masterLost :
    s.masterLost.startElection.fget R.TRN_STATUS.master_lost = 1 ∧ s.masterLost.startElection.transitNo = s.transitNo ∧
      (s.masterLost.startElection.trn.cand = true ↔ s.fget R.TRN_CTL.master_priority ≠ 0) := by
  refine ⟨?_, ?_, ?_⟩
  · refine (startElection_fget _).trans ((fget_fset_of_apart _ R.TRN_STATUS.is_master _ _ rfl).trans ?_)
    refine (fget_fset_of_apart _ R.TRN_STATUS.electing _ _ rfl).trans ((trnKept_masterLost.fget ⟨by decide, by decide⟩).trans ?_)
    exact fget_fset_self _ R.TRN_STATUS.master_lost 1 rfl
  · refine (congrArg (getField · 0 64) (startElection_reg (off := A.TRN_NUMBER) (by decide))).trans ?_
    exact (trnKept_masterLost.fget (f := R.TRN_NUMBER.transit) ⟨by decide, by decide⟩).trans (fget_fset_reg _ R.TRN_STATUS.master_lost _ _ (by decide))
  · rw [startElection_trn Trn.cand (fun _ _ => rfl)]
    have hprio : s.masterLost.fget R.TRN_CTL.master_priority = s.fget R.TRN_CTL.master_priority :=
      (trnKept_masterLost.fget ⟨by decide, by decide⟩).trans (fget_fset_reg _ R.TRN_STATUS.master_lost _ _ (by decide))
    unfold State.electionOpen
    rw [hprio]
    exact bne_iff_ne

end

/-- Settles O11: the election's commands by their equations; what a new master tells is read off the state that it floods from. -/
theorem electionOfMaster : Obligations.ElectionOfMaster := by
  unfold Obligations.ElectionOfMaster
  dsimp only
  refine ⟨fun s link hops prio phys num h hlink hfresh helecting hheard => ?_,
    fun s phys num helecting hcand hother hnew => exec_electionAcknowledgement num helecting hcand hother hnew,
    fun s now helecting hcand hquiet hquorum => ?_, fun s link hops phys ldn first hlink hfresh => ?_,
    fun s now hmaster helecting hsched hnumbered => ?_⟩
  · have hexec := exec_candidate hops hlink hfresh helecting hheard
    have hsent (hhops : hops < 3) (c : Nat × Nat) (hc : c ∈ s.upLinks) (hne : linkKey c.1 c.2 ≠ link) :=
      mem_flood_out_plain s (t := 5) (contents := [prio, phys, num]) (link := some link) hhops hc (fun heq => hne (Option.some.inj heq))
    have htrn := flood_trn s (t := 5) (contents := [prio, phys, num]) (delay := none) (link := some link) (hops := hops)
    by_cases hbetter : better (prio, phys) h = true
    · rw [if_pos hbetter] at hexec
      refine ⟨_, hexec, flood_regs s, flood_mem s, fun hhops c hc hne => List.mem_cons_of_mem _ (hsent hhops c hc hne),
        fun _ => ⟨rfl, rfl, ?_⟩, fun hworse => ?_⟩
      · refine List.mem_cons.2 (.inl ?_)
        rw [htrn]
        unfold State.ownPhys State.transitNo
        simp only [flood_fget]
      · obtain h' | h' := better_eq_true.1 hbetter <;> simp only at h' <;> omega
    · rw [if_neg hbetter] at hexec
      refine ⟨_, hexec, flood_regs s, flood_mem s, hsent, fun hbest => absurd (better_eq_true.2 ?_) hbetter, fun _ => ?_⟩
      · exact hbest.imp_right (And.imp_left Eq.symm)
      · rw [htrn]
        exact ⟨rfl, hheard⟩
  · refine ⟨_, exec_electionQuietExpiry helecting hcand hquiet hquorum, ?_, ?_, fun m hheld => ?_, fun hheld => ?_, fun c hc => ?_⟩
    · exact fon_of_fget_one ((tellsMaster_fget (by decide)).trans ((becomeMaster_fget (by decide) (by decide)).trans crowned_isMaster))
    · exact fon_of_fget_zero ((tellsMaster_fget (by decide)).trans ((becomeMaster_fget (by decide) (by decide)).trans crowned_electing))
    · rw [tellsMaster_nextNo, State.rackTime, tellsMaster_fget (by decide), becomeMaster_of_held hheld]
      exact ⟨rfl, crowned_fget (by decide)⟩
    · rw [tellsMaster_nextNo, State.rackTime, tellsMaster_fget (by decide), becomeMaster_of_none hheld]
      exact ⟨crowned_fget (by decide),
        (fget_fset_reg _ R.TRN_NEXT.next_ns _ 0 (by decide)).trans (fget_fset_self _ R.TRN_TIME.time_ns 0 rfl)⟩
    · rw [tellsMaster_nextNo, ← becomeMaster_ownPhys]
      exact mem_tellsMaster_out ((upLinks_of_ports (fun _ hf => becomeMaster_fget_high hf)).symm ▸ hc)
  · refine ⟨_, exec_master hops ldn hlink hfresh, follows_isMaster _ _, follows_electing _ _, follows_ldn _ _, rfl, ?_, ?_, flood_mem s⟩
    · exact (follows_fget (f := R.TRN_NUMBER.transit) (by decide)).trans (flood_fget s _)
    · exact (follows_fget (f := R.TRN_TIME.time_ns) (by decide)).trans (flood_fget s _)
  · have hexec := exec_masterLostTimeout hmaster helecting hsched hnumbered
    refine ⟨fun hlimit => ?_, fun hlimit => hexec.trans (congrArg _ (if_neg (Nat.not_le.2 hlimit)))⟩
    obtain ⟨hlost, hno, hcand⟩ := startElection_masterLost (s := s.advance now)
    exact ⟨_, hexec.trans (congrArg _ (if_pos hlimit)), hlost, startElection_electing, startElection_trn Trn.sched (fun _ _ => rfl), hno, hcand⟩

end Sys2Proof.Machine

/-! The master's schedule, DONE, and late accounting (R78, R87 to R90). -/
namespace Sys2Proof.Machine

/-- What has left before has left after a step that keeps what `Keeps` names. -/
theorem Keeps.mem_out {s t : State} (h : Keeps s t) {o : Out} (ho : o ∈ s.out) : o ∈ t.out := by
  obtain ⟨-, -, hout, -⟩ := h
  exact hout.mem ho

section
variable {s : State}

/-! SCHEDULE sent by the master (R68, R78). -/

/-- The next transit is scheduled at `fire`; SCHEDULE has not been sent yet. -/
def State.scheduled (s : State) (fire : Nat) : State :=
  { s.fset R.TRN_NEXT.next_ns fire with
    trn := { s.trn with sched := some (s.trn.nextNo, fire, s.nextPeriod s.trn.nextNo), stretching := false } }

theorem scheduled_reg (fire : Nat) {off : Nat} (h : off ≠ A.TRN_NEXT) : (s.scheduled fire).reg off = s.reg off :=
  reg_fset_of_ne s R.TRN_NEXT.next_ns fire off h

theorem scheduled_fget (fire : Nat) {f : Fld} (h : f.off ≠ A.TRN_NEXT) : (s.scheduled fire).fget f = s.fget f :=
  congrArg (getField · f.lo f.width) (scheduled_reg fire h)

/-- A period is set for the step: SCHEDULE is sent. -/
theorem sendSchedule_eq {fire : Nat} (hper : 10000 ≤ s.nextPeriod s.trn.nextNo) :
    s.sendSchedule fire = (s.scheduled fire).flood 1
      [s.trn.nextNo, fire, s.nextPeriod s.trn.nextNo, (s.scheduled fire).rackTime] (some 0) none 0 := by
  unfold State.sendSchedule
  dsimp only
  rw [if_neg (Nat.not_lt.2 hper)]
  rfl

/-- A reading that neither TRN_NEXT nor what a schedule sets bears on is the same after SCHEDULE is sent. -/
theorem sendSchedule_reads {β : Type} (g : State → β) (hset : ∀ t v, g (State.fset t R.TRN_NEXT.next_ns v) = g t)
    (htrn : ∀ t c b m o, g { t with trn := { t.trn with sched := c, stretching := b, relayed := m }, out := o } = g t) (fire : Nat) :
    g (s.sendSchedule fire) = g s := by
  by_cases hper : 10000 ≤ s.nextPeriod s.trn.nextNo
  · rw [sendSchedule_eq hper, flood_eq]
    exact (htrn (s.fset R.TRN_NEXT.next_ns fire) _ _ _ _).trans (hset _ _)
  · unfold State.sendSchedule
    exact congrArg g (if_pos (Nat.not_le.1 hper))

/-- What a schedule sets, where a period is set for the step. -/
structure Schedules (s t : State) (fire : Nat) : Prop where
  sched : t.trn.sched = some (s.trn.nextNo, fire, s.nextPeriod s.trn.nextNo)
  stretching : t.trn.stretching = false
  next : t.fget R.TRN_NEXT.next_ns = fire % 2 ^ 64
  reg : ∀ off, off ≠ A.TRN_NEXT → t.reg off = s.reg off
  mem : t.mem = s.mem
  sent : ∀ c ∈ s.upLinks, Out.vc0 c.1 c.2 1 1
    [s.trn.nextNo, fire, s.nextPeriod s.trn.nextNo, s.rackTime, s.fget (R.SCP_PORT_DELAY.delay_ns c.1)] ∈ t.out

theorem schedules_sendSchedule (fire : Nat) (hper : 10000 ≤ s.nextPeriod s.trn.nextNo) : Schedules s (s.sendSchedule fire) fire := by
  have hhigh (f : Fld) (hf : 0x100000 ≤ f.off) : (s.scheduled fire).fget f = s.fget f :=
    scheduled_fget fire (fun heq => absurd (heq ▸ hf) (by decide))
  have htime : (s.scheduled fire).rackTime = s.rackTime := scheduled_fget fire (f := R.TRN_TIME.time_ns) (by decide)
  rw [sendSchedule_eq hper]
  refine ⟨by rw [flood_trn]; rfl, by rw [flood_trn]; rfl, (flood_fget _ _).trans (fget_fset_self s R.TRN_NEXT.next_ns fire rfl),
    fun off hoff => (flood_reg _ off).trans (scheduled_reg fire hoff), flood_mem _, fun c hc => ?_⟩
  rw [← upLinks_of_ports hhigh] at hc
  have hsent := mem_flood_out (s.scheduled fire) (t := 1) (delay := some 0) (link := none) (hops := 0)
    (contents := [s.trn.nextNo, fire, s.nextPeriod s.trn.nextNo, (s.scheduled fire).rackTime]) (by decide) hc (Option.some_ne_none _)
  simpa only [State.sentOn, Option.map_some, Option.toList_some, Nat.zero_add, List.cons_append, List.nil_append, htime,
    hhigh (R.SCP_PORT_DELAY.delay_ns c.1) (Nat.le_add_right_of_le (by decide))] using hsent

/-! DONE (R88, R89). -/

/-- A reading that a schedule does not bear on is the same after the master has looked whether it may release the transit. -/
theorem tryRelease_reads {β : Type} (g : State → β) (hset : ∀ t v, g (State.fset t R.TRN_NEXT.next_ns v) = g t)
    (htrn : ∀ t c b m o, g { t with trn := { t.trn with sched := c, stretching := b, relayed := m }, out := o } = g t) :
    g s.tryRelease = g s := by
  unfold State.tryRelease
  split
  · exact sendSchedule_reads g hset htrn _
  · rfl

theorem tryRelease_of_not_stretching (h : s.trn.stretching = false) : s.tryRelease = s := by
  unfold State.tryRelease
  rw [h, Bool.and_false, Bool.false_and]
  rfl

theorem tryRelease_of_none_missing (hmaster : s.isMaster = true) (hstretching : s.trn.stretching = true) (hnone : s.missing = []) :
    s.tryRelease = s.sendSchedule (s.rackTime + s.leadNs) := by
  unfold State.tryRelease
  rw [hmaster, hstretching, hnone]
  rfl

/-- The master holds the DONE of `l`. -/
def State.holdsDone (s : State) (l : Nat) : State := { s with trn := { s.trn with dones := insertNat s.trn.dones l } }

/-- With the last DONE none is missing. -/
theorem missing_holdsDone {l : Nat} (h : ∀ x ∈ s.missing, x = l) : (s.holdsDone l).missing = [] := by
  show (if s.trn.numbered then s.awaited.filter (fun x => !(insertNat s.trn.dones l).contains x) else []) = []
  unfold State.missing at h
  split at h
  · next hnumbered =>
    rw [if_pos hnumbered]
    refine List.filter_eq_nil_iff.2 (fun x hx hnot => ?_)
    have hnew : x ≠ l ∧ x ∉ s.trn.dones := by simpa [mem_insertNat] using hnot
    exact hnew.1 (h x (List.mem_filter.2 ⟨hx, by simpa using hnew.2⟩))
  · next hnumbered => rw [if_neg hnumbered]

/-- The step's own DONE is marked as sent. -/
def State.doneMarked (s : State) : State := { s with trn := { s.trn with doneSent := true } }

/-- DONE is due: the package has an LDN and a step, has not sent it, and every partition is accounted (R88). -/
def State.doneDue (s : State) : Prop := s.ldn ≠ 255 ∧ s.trn.numbered = true ∧ s.trn.doneSent = false ∧ s.allAccounted = true

theorem exec_doneSend (h : s.doneDue) : exec .doneSend s = .next (if s.isMaster then (s.doneMarked.holdsDone s.ldn).tryRelease else
    s.doneMarked.flood 4 [s.transitNo, s.ldn] none none 0) := by
  obtain ⟨hldn, hnumbered, hsent, hall⟩ := h
  show execDoneSend s = _
  unfold execDoneSend
  rw [if_pos ⟨hldn, hnumbered, by rw [hsent]; exact Bool.false_ne_true, hall⟩]
  cases hm : s.isMaster
  · exact if_neg (fun h : s.doneMarked.isMaster = true => Bool.false_ne_true (hm.symm.trans h))
  · exact if_pos (show s.doneMarked.isMaster = true from hm)

theorem exec_doneSend_idle (h : ¬ s.doneDue) : exec .doneSend s = .next s := by
  refine if_neg (fun hall => h ?_)
  obtain ⟨hldn, hnumbered, hsent, hall⟩ := hall
  exact ⟨hldn, hnumbered, Bool.eq_false_iff.2 hsent, hall⟩

/-- A DONE that the master counts is of its present step. -/
def State.countsDone (s : State) (n : Nat) : Prop := s.isMaster = true ∧ s.trn.numbered = true ∧ n = s.transitNo

theorem exec_done_unheard {now link n l : Nat} (hops : Nat)
    (h : (s.advance now).vc0In link = false ∨ (s.advance now).fresh 4 [n, l] = false) :
    exec (.done now link hops n l) s = .next (s.advance now) := by
  show execDone now link hops n l s = _
  unfold execDone
  dsimp only
  obtain h | h := h <;> simp only [h, Bool.false_and, Bool.and_false, Bool.false_eq_true, if_false]

/-- Relaying a DONE does not bear on whether it counts. -/
theorem countsDone_flood {n t : Nat} {contents : List Nat} {link : Option Nat} {hops : Nat} :
    ((s.flood t contents none link hops).isMaster && (s.flood t contents none link hops).trn.numbered &&
      n == (s.flood t contents none link hops).transitNo) = true ↔ s.countsDone n := by
  rw [flood_reads s State.isMaster (fun _ _ => rfl), flood_reads s (fun t => t.trn.numbered) (fun _ _ => rfl),
    flood_reads s State.transitNo (fun _ _ => rfl)]
  simp only [State.countsDone, Bool.and_eq_true, beq_iff_eq, and_assoc]

theorem exec_done {now link n l : Nat} (hops : Nat) (hlink : (s.advance now).vc0In link = true)
    (hfresh : (s.advance now).fresh 4 [n, l] = true) :
    ((s.advance now).countsDone n → exec (.done now link hops n l) s =
      .next (((s.advance now).flood 4 [n, l] none (some link) hops).holdsDone l).tryRelease) ∧
    (¬ (s.advance now).countsDone n → exec (.done now link hops n l) s =
      .next ((s.advance now).flood 4 [n, l] none (some link) hops)) := by
  show (_ → execDone now link hops n l s = _) ∧ (_ → execDone now link hops n l s = _)
  unfold execDone
  dsimp only
  rw [hlink, hfresh]
  simp only [Bool.and_self, if_true]
  exact ⟨fun h => if_pos (countsDone_flood.2 h), fun h => if_neg (fun hall => h (countsDone_flood.1 hall))⟩

/-! SCHEDULE_DECISION (R89). -/

/-- A decision is due at lead before the nominal time of a transit that is not scheduled. -/
def State.decisionDue (s : State) : Prop :=
  s.isMaster = true ∧ s.electing = false ∧ s.trn.sched = none ∧ s.trn.hold = none ∧ s.fget R.TRN_NEXT.next_ns ≤ s.rackTime + s.leadNs

theorem exec_scheduleDecision {now : Nat} (h : (s.advance now).decisionDue) :
    exec (.scheduleDecision now) s = .next (if (s.advance now).missing.isEmpty then
      (s.advance now).sendSchedule (Nat.max ((s.advance now).fget R.TRN_NEXT.next_ns) ((s.advance now).rackTime + (s.advance now).leadNs))
      else { s.advance now with trn := { (s.advance now).trn with stretching := true } }) := by
  obtain ⟨hmaster, helecting, hsched, hhold, hnear⟩ := h
  show execScheduleDecision now s = _
  unfold execScheduleDecision
  dsimp only
  rw [hmaster, helecting, hsched, hhold, decide_eq_true hnear]
  cases (s.advance now).missing.isEmpty <;> rfl

theorem exec_scheduleDecision_idle {now : Nat} (h : ¬ (s.advance now).decisionDue) :
    exec (.scheduleDecision now) s = .next (s.advance now) := by
  refine if_neg (fun hall => h ?_)
  simp only [Bool.and_eq_true, Bool.not_eq_true', Option.isNone_iff_eq_none, decide_eq_true_eq, and_assoc] at hall
  exact hall

end

end Sys2Proof.Machine

/-! Partitions darkened (R89, R90): the list of undone pairs, and what a package takes from it. -/
namespace Sys2Proof.Machine

section
variable {s : State}

/-- A reading that neither the partitions' steps nor the log bear on is the same after a partition is darkened. -/
theorem darken_reads {β : Type} (g : State → β) (hset : ∀ t p v, g (State.fset t (R.TRN_PART_STEP.late p) v) = g t)
    (hlog : ∀ t fatals reports, g { t with fatals := fatals, reports := reports } = g t) (hdrop : ∀ t c, g (State.dropReport t c) = g t)
    (p : Nat) : g (s.darken p) = g s :=
  (report_reads _ g (fun _ => hlog _ _ _) (fun _ => hlog _ _ _) (hdrop _) _ _ _ _).trans (hset s p 1)

@[simp] theorem dropReport_mem (c : Nat) : (s.dropReport c).mem = s.mem := raise_mem _ _ _
@[simp] theorem dropReport_trn (c : Nat) : (s.dropReport c).trn = s.trn :=
  raise_reads _ State.trn (fun _ _ => rfl) (fun _ => rfl) _ _

@[simp] theorem darken_trn (p : Nat) : (s.darken p).trn = s.trn :=
  darken_reads State.trn (fun _ _ _ => rfl) (fun _ _ _ => rfl) (fun _ c => dropReport_trn c) p

@[simp] theorem darken_mem (p : Nat) : (s.darken p).mem = s.mem :=
  darken_reads State.mem (fun _ _ _ => rfl) (fun _ _ _ => rfl) (fun _ c => dropReport_mem c) p

/-- Of the registers of the transit unit only the partition's own step changes. -/
theorem darken_reg {p off : Nat} (htrn : OnTrn off) (h : off ≠ A.TRN_PART_STEP p) : (s.darken p).reg off = s.reg off :=
  ((trnKept_report _ _ _ _).reg off htrn).trans (reg_fset_of_ne s (R.TRN_PART_STEP.late p) 1 off h)

theorem darken_fget {p : Nat} {f : Fld} (htrn : OnTrn f.off) (h : f.off ≠ A.TRN_PART_STEP p) : (s.darken p).fget f = s.fget f :=
  congrArg (getField · f.lo f.width) (darken_reg htrn h)

theorem darken_late {p : Nat} (hp : p < 16) : (s.darken p).fget (R.TRN_PART_STEP.late p) = 1 :=
  ((trnKept_report _ _ _ _).fget (onTrn_partStep hp)).trans (fget_fset_self s (R.TRN_PART_STEP.late p) 1 rfl)

theorem partStep_injective {p q : Nat} (h : A.TRN_PART_STEP p = A.TRN_PART_STEP q) : p = q := by
  unfold A.TRN_PART_STEP at h
  omega

/-- A partition that is late stays so when any is darkened. -/
theorem darken_late_stays {p q : Nat} (hp : p < 16) (h : s.fget (R.TRN_PART_STEP.late p) = 1) :
    (s.darken q).fget (R.TRN_PART_STEP.late p) = 1 := by
  by_cases hq : p = q
  · subst hq
    exact darken_late hp
  · exact (darken_fget (onTrn_partStep hp) (fun heq => hq (partStep_injective heq))).trans h

/-! A DARK list (R90). -/

/-- Partitions of LDN `ldn` that a list of pairs names. -/
def namedOf (ldn : Nat) (pairs : List (Nat × Nat)) : List Nat :=
  ((pairs.filter (fun e => e.1 == ldn && decide (e.2 < 16))).map Prod.snd).eraseDups

theorem mem_namedOf {ldn p : Nat} {pairs : List (Nat × Nat)} : p ∈ namedOf ldn pairs ↔ (ldn, p) ∈ pairs ∧ p < 16 := by
  unfold namedOf
  simp only [List.mem_eraseDups, List.mem_map, List.mem_filter, Bool.and_eq_true, beq_iff_eq, decide_eq_true_eq, Prod.exists,
    exists_eq_right]
  constructor
  · rintro ⟨l, hmem, rfl, hp⟩
    exact ⟨hmem, hp⟩
  · rintro ⟨hmem, hp⟩
    exact ⟨ldn, hmem, rfl, hp⟩

variable {n : Nat} {pairs : List (Nat × Nat)}

/-- Partitions named for the present transit are darkened at once. -/
theorem takeDark_present (hldn : s.ldn ≠ 255) (hnumbered : s.trn.numbered = true) (hn : n = s.transitNo) :
    s.takeDark n pairs = (namedOf s.ldn pairs).foldl State.darken s := by
  unfold State.takeDark
  dsimp only
  rw [if_neg hldn]
  exact if_pos ⟨hnumbered, hn⟩

/-- Those named for a transit to come wait for it. -/
theorem takeDark_coming (hldn : s.ldn ≠ 255) (hn : s.trn.numbered = true → s.transitNo < n) :
    s.takeDark n pairs = { s with trn := { s.trn with darkNext := s.trn.darkNext ++ (namedOf s.ldn pairs).map (fun p => (n, p)) } } := by
  unfold State.takeDark
  dsimp only
  rw [if_neg hldn, if_neg (fun h => absurd (hn h.1) (by omega)), if_neg (fun h => absurd (hn h.1) (by omega))]
  rfl

/-- A reading that neither darkening nor the list of partitions to be darkened bears on is the same. -/
theorem takeDark_reads {β : Type} (g : State → β) (hdark : ∀ t p, g (State.darken t p) = g t)
    (hnext : ∀ l, g { s with trn := { s.trn with darkNext := l } } = g s) : g (s.takeDark n pairs) = g s := by
  unfold State.takeDark
  dsimp only
  split
  · rfl
  · split
    · exact foldl_reads (fun t p _ => hdark t p) s
    · split
      · rfl
      · exact hnext _

theorem takeDark_mem : (s.takeDark n pairs).mem = s.mem := takeDark_reads State.mem (fun _ p => darken_mem p) (fun _ => rfl)

theorem takeDark_trn {β : Type} (g : Trn → β) (hg : ∀ l, g { s.trn with darkNext := l } = g s.trn) :
    g (s.takeDark n pairs).trn = g s.trn :=
  takeDark_reads (fun t => g t.trn) (fun _ p => congrArg g (darken_trn p)) hg

/-- Registers of the transit unit that are no partition's. -/
theorem takeDark_fget {f : Fld} (hlow : 0x10000 ≤ f.off) (hhigh : f.off < 0x10100) : (s.takeDark n pairs).fget f = s.fget f := by
  refine takeDark_reads (State.fget · f) (fun t p => darken_fget ⟨hlow, by omega⟩ ?_) (fun _ => rfl)
  unfold A.TRN_PART_STEP
  omega

theorem takeDark_transitNo : (s.takeDark n pairs).transitNo = s.transitNo := takeDark_fget (f := R.TRN_NUMBER.transit) (by decide) (by decide)

/-- A list that names no partition of this package changes nothing but the log of what is heard. -/
theorem takeDark_unnamed (h : ∀ p, (s.ldn, p) ∉ pairs) :
    (s.takeDark n pairs).trn.darkNext = s.trn.darkNext ∧ (s.takeDark n pairs).regs = s.regs := by
  have hnone : namedOf s.ldn pairs = [] := List.eq_nil_iff_forall_not_mem.2 (fun p hp => h p (mem_namedOf.1 hp).1)
  unfold namedOf at hnone
  unfold State.takeDark
  dsimp only
  rw [hnone]
  split
  · exact ⟨rfl, rfl⟩
  · split
    · exact ⟨rfl, rfl⟩
    · split
      · exact ⟨rfl, rfl⟩
      · exact ⟨List.append_nil _, rfl⟩

theorem takeDark_late {p : Nat} (hldn : s.ldn ≠ 255) (hp : p < 16) (hnamed : (s.ldn, p) ∈ pairs) (hnumbered : s.trn.numbered = true)
    (hn : n = s.transitNo) : (s.takeDark n pairs).fget (R.TRN_PART_STEP.late p) = 1 := by
  rw [takeDark_present hldn hnumbered hn]
  exact foldl_reads_put (g := (State.fget · (R.TRN_PART_STEP.late p))) (mem_namedOf.2 ⟨hnamed, hp⟩) (fun _ => darken_late hp)
    (fun _ _ h => darken_late_stays hp h) s

theorem mem_takeDark_darkNext {p : Nat} (hldn : s.ldn ≠ 255) (hp : p < 16) (hnamed : (s.ldn, p) ∈ pairs)
    (hn : s.trn.numbered = true → s.transitNo < n) : (n, p) ∈ (s.takeDark n pairs).trn.darkNext := by
  rw [takeDark_coming hldn hn]
  exact List.mem_append_right _ (List.mem_map.2 ⟨p, mem_namedOf.2 ⟨hnamed, hp⟩, rfl⟩)

/-! The pairs that are not done (R89, R90; log 26). -/

/-- The undone pairs of one more package. -/
def State.undoneOf (s : State) (x : State × List (Nat × Nat)) (l : Nat) : State × List (Nat × Nat) :=
  if l = s.ldn then (x.1, x.2 ++ ((List.range 16).filter (fun p => !s.accounted p)).map (fun p => (l, p)))
  else (x.1.drawn, x.2 ++ (bitsOf 16 (Config.undone x.1.free)).map (fun p => (l, p)))

/-- Free values are drawn for the pairs of other packages, and nothing else changes. -/
theorem foldl_undoneOf_state (ls : List Nat) (k : Nat) (ps : List (Nat × Nat)) :
    ∃ k', (ls.foldl s.undoneOf ({ s with free := k }, ps)).1 = { s with free := k' } := by
  induction ls generalizing k ps with
  | nil => exact ⟨k, rfl⟩
  | cons l rest ih =>
    rw [List.foldl_cons, State.undoneOf]
    split
    · exact ih k _
    · exact ih (k + 1) _

theorem undonePairs_state : ∃ k, s.undonePairs.1 = { s with free := k } := foldl_undoneOf_state s.missing s.free []

/-- Pairs found stay in the list, and those of this package are found. -/
theorem mem_foldl_undoneOf {ls : List Nat} {p : Nat} (x : State × List (Nat × Nat))
    (h : (s.ldn, p) ∈ x.2 ∨ s.ldn ∈ ls ∧ p < 16 ∧ s.accounted p = false) : (s.ldn, p) ∈ (ls.foldl s.undoneOf x).2 := by
  induction ls generalizing x with
  | nil => exact h.resolve_right (fun h => absurd h.1 List.not_mem_nil)
  | cons l rest ih =>
    rw [List.foldl_cons]
    refine ih _ ?_
    obtain h | ⟨hmem, hp, hundone⟩ := h
    · left
      unfold State.undoneOf
      split <;> exact List.mem_append_left _ h
    · obtain rfl | hrest := List.mem_cons.1 hmem
      · left
        unfold State.undoneOf
        rw [if_pos rfl]
        refine List.mem_append_right _ (List.mem_map.2 ⟨p, List.mem_filter.2 ⟨List.mem_range.2 hp, ?_⟩, rfl⟩)
        rw [hundone]
        rfl
      · exact .inr ⟨hrest, hp, hundone⟩

theorem mem_undonePairs {p : Nat} (hmissing : s.ldn ∈ s.missing) (hp : p < 16) (hundone : s.accounted p = false) :
    (s.ldn, p) ∈ s.undonePairs.2 := mem_foldl_undoneOf (ls := s.missing) (s, []) (.inr ⟨hmissing, hp, hundone⟩)

/-! STRETCH_LIMIT_EXPIRY (R89, R90). -/

/-- The DARK messages of a list, 64 pairs in each (R90). -/
def State.sendsDark (s : State) (n : Nat) (pairs : List (Nat × Nat)) : State :=
  (List.range ((pairs.length + 63) / 64)).foldl (fun s i => s.flood 2
    (darkContents n ((pairs.drop (64 * i)).take 64) (decide (i + 1 = (pairs.length + 63) / 64))) none none 0) s

theorem sendsDark_reads {β : Type} (g : State → β)
    (hg : ∀ t m o, g { t with trn := { t.trn with relayed := m }, out := o } = g t) : g (s.sendsDark n pairs) = g s :=
  foldl_reads (fun t _ _ => flood_reads t g (hg t)) s

/-- The first message holds the first 64 pairs, and says whether there are more. -/
theorem mem_sendsDark_out (hpairs : pairs ≠ []) {c : Nat × Nat} (hc : c ∈ s.upLinks) :
    Out.vc0 c.1 c.2 2 1 (darkContents n (pairs.take 64) (decide (pairs.length ≤ 64))) ∈ (s.sendsDark n pairs).out := by
  have hlength : 0 < pairs.length := List.length_pos_iff.2 hpairs
  have hup (t : State) (i : Nat) : (t.flood 2 (darkContents n ((pairs.drop (64 * i)).take 64)
      (decide (i + 1 = (pairs.length + 63) / 64))) none none 0).upLinks = t.upLinks := flood_reads t State.upLinks (fun _ _ => rfl)
  have hsent := foldl_reads_put (l := List.range ((pairs.length + 63) / 64)) (a := 0) (v := True)
    (f := fun s i => s.flood 2 (darkContents n ((pairs.drop (64 * i)).take 64) (decide (i + 1 = (pairs.length + 63) / 64))) none none 0)
    (g := fun t => c ∈ t.upLinks → Out.vc0 c.1 c.2 2 1 (darkContents n (pairs.take 64) (decide (pairs.length ≤ 64))) ∈ t.out)
    (List.mem_range.2 (by omega))
    (fun t => eq_true (fun hc' => by
      rw [hup] at hc'
      have hlast : decide (0 + 1 = (pairs.length + 63) / 64) = decide (pairs.length ≤ 64) := decide_eq_decide.2 (by omega)
      rw [hlast]
      exact mem_flood_out_plain t (hops := 0) (by decide) hc' (Option.some_ne_none _)))
    (fun t i h => eq_true (fun hc' => mem_flood_out_of_mem t (of_eq_true h (hup t i ▸ hc')))) s
  refine of_eq_true hsent ?_
  rwa [foldl_reads (g := State.upLinks) (fun t i _ => hup t i)]

/-- The limit of a transit held back is reached (R89). -/
def State.limitReached (s : State) : Prop :=
  s.isMaster = true ∧ s.trn.stretching = true ∧ s.fget R.TRN_NEXT.next_ns + s.maxStretch ≤ s.rackTime + s.leadNs

/-- The state in which the undone pairs have been counted and logged. -/
def State.darkCounted (s : State) (k : Nat) : State :=
  (s.finc R.TRN_STRETCH_CNT.darkened k).report srcPackage codeDarkened 0 (Nat.min k 65535)

theorem exec_stretchLimitExpiry {now : Nat} (h : (s.advance now).limitReached) :
    exec (.stretchLimitExpiry now) s = .next ((((((s.advance now).undonePairs.1.sendSchedule
      ((s.advance now).rackTime + (s.advance now).leadNs)).darkCounted (s.advance now).undonePairs.2.length).sendsDark
        (s.advance now).trn.nextNo (s.advance now).undonePairs.2)).takeDark (s.advance now).trn.nextNo (s.advance now).undonePairs.2) := by
  obtain ⟨hmaster, hstretching, hlimit⟩ := h
  show execStretchLimitExpiry now s = _
  unfold execStretchLimitExpiry
  dsimp only
  rw [hmaster, hstretching, decide_eq_true hlimit]
  rfl

theorem exec_stretchLimitExpiry_early {now : Nat} (h : ¬ (s.advance now).limitReached) :
    exec (.stretchLimitExpiry now) s = .next (s.advance now) := by
  refine if_neg (fun hall => h ?_)
  simp only [Bool.and_eq_true, decide_eq_true_eq, and_assoc] at hall
  exact hall

/-! DARK (R74, R90). -/

/-- A fresh DARK on a link that carries transit control, at a package that is not the master. -/
def State.hearsDark (s : State) (link n : Nat) (pairs : List (Nat × Nat)) (last : Bool) : Prop :=
  s.vc0In link = true ∧ s.isMaster = false ∧ s.fresh 2 (darkContents n pairs last) = true

theorem exec_dark {link : Nat} (hops : Nat) {last : Bool} (h : s.hearsDark link n pairs last) :
    exec (.dark link hops n pairs last) s = .next ((s.flood 2 (darkContents n pairs last) none (some link) hops).takeDark n pairs) := by
  obtain ⟨hlink, hmaster, hfresh⟩ := h
  show execDark link hops n pairs last s = _
  unfold execDark
  rw [hlink, hmaster, hfresh]
  rfl

theorem exec_dark_unheard {link : Nat} (hops : Nat) {last : Bool} (h : ¬ s.hearsDark link n pairs last) :
    exec (.dark link hops n pairs last) s = .next s := by
  refine if_neg (fun hall => h ?_)
  simp only [Bool.and_eq_true, Bool.not_eq_true', and_assoc] at hall
  exact hall

end

end Sys2Proof.Machine

/-! Late accounting, clause by clause (R87 to R90). -/
namespace Sys2Proof.Machine

section
variable {s : State}

theorem tryRelease_transitNo : s.tryRelease.transitNo = s.transitNo :=
  tryRelease_reads State.transitNo (fun t v => fget_fset_reg t R.TRN_NEXT.next_ns R.TRN_NUMBER.transit v (by decide)) (fun _ _ _ _ _ => rfl)

theorem tryRelease_mem : s.tryRelease.mem = s.mem := tryRelease_reads State.mem (fun _ _ => rfl) (fun _ _ _ _ _ => rfl)

/-- A member sends its DONE and changes no register. -/
theorem doneSend_member (hdue : s.doneDue) (hmaster : s.isMaster = false) :
    ∃ t, exec .doneSend s = .next t ∧ t.trn.doneSent = true ∧ t.trn.dones = s.trn.dones ∧ t.regs = s.regs ∧ t.mem = s.mem ∧
      ∀ c ∈ s.upLinks, Out.vc0 c.1 c.2 4 1 [s.transitNo, s.ldn] ∈ t.out := by
  refine ⟨s.doneMarked.flood 4 [s.transitNo, s.ldn] none none 0, ?_, ?_, ?_, flood_regs _, flood_mem _, fun c hc => ?_⟩
  · rw [exec_doneSend hdue, hmaster]
    rfl
  · rw [flood_trn]
    rfl
  · rw [flood_trn]
    rfl
  · exact mem_flood_out_plain s.doneMarked (hops := 0) (by decide) hc (Option.some_ne_none _)

/-- The master counts its own. -/
theorem doneSend_master (hdue : s.doneDue) (hmaster : s.isMaster = true) :
    ∃ t, exec .doneSend s = .next t ∧ t.trn.doneSent = true ∧ t.trn.dones = insertNat s.trn.dones s.ldn ∧
      t.transitNo = s.transitNo ∧ t.mem = s.mem ∧ (s.trn.stretching = false → t.out = s.out ∧ t.regs = s.regs) := by
  refine ⟨(s.doneMarked.holdsDone s.ldn).tryRelease, ?_, ?_, ?_, ?_, ?_, fun hstretching => ?_⟩
  · rw [exec_doneSend hdue, hmaster]
    rfl
  · exact tryRelease_reads (fun t => t.trn.doneSent) (fun _ _ => rfl) (fun _ _ _ _ _ => rfl)
  · exact tryRelease_reads (fun t => t.trn.dones) (fun _ _ => rfl) (fun _ _ _ _ _ => rfl)
  · exact tryRelease_transitNo
  · exact tryRelease_mem
  · rw [tryRelease_of_not_stretching (s := s.doneMarked.holdsDone s.ldn) hstretching]
    exact ⟨rfl, rfl⟩

/-- The state after the last DONE missing: the transit is scheduled at now plus lead. -/
theorem tryRelease_holdsDone_sched {l : Nat} (hmaster : s.isMaster = true) (hstretching : s.trn.stretching = true)
    (hlast : ∀ x ∈ s.missing, x = l) (hper : 10000 ≤ s.nextPeriod s.trn.nextNo) :
    (s.holdsDone l).tryRelease.trn.sched = some (s.trn.nextNo, s.rackTime + s.leadNs, s.nextPeriod s.trn.nextNo) ∧
      (s.holdsDone l).tryRelease.trn.stretching = false := by
  rw [tryRelease_of_none_missing (s := s.holdsDone l) hmaster hstretching (missing_holdsDone hlast)]
  obtain ⟨hsched, hstretch, -, -, -, -⟩ :=
    schedules_sendSchedule (s := s.holdsDone l) ((s.holdsDone l).rackTime + (s.holdsDone l).leadNs) hper
  exact ⟨hsched, hstretch⟩

/-- A fresh DONE that is heard. -/
theorem done_heard {now link hops n l : Nat} (hlink : (s.advance now).vc0In link = true)
    (hfresh : (s.advance now).fresh 4 [n, l] = true) :
    ∃ t, exec (.done now link hops n l) s = .next t ∧ t.transitNo = (s.advance now).transitNo ∧ t.mem = (s.advance now).mem ∧
      (hops < 3 → ∀ c ∈ (s.advance now).upLinks, linkKey c.1 c.2 ≠ link → Out.vc0 c.1 c.2 4 (hops + 1) [n, l] ∈ t.out) ∧
      ((s.advance now).countsDone n → t.trn.dones = insertNat (s.advance now).trn.dones l ∧
        ((s.advance now).trn.stretching = true → (∀ x ∈ (s.advance now).missing, x = l) →
          10000 ≤ (s.advance now).nextPeriod (s.advance now).trn.nextNo →
          t.trn.sched = some ((s.advance now).trn.nextNo, (s.advance now).rackTime + (s.advance now).leadNs,
            (s.advance now).nextPeriod (s.advance now).trn.nextNo) ∧ t.trn.stretching = false)) ∧
      (¬ (s.advance now).countsDone n → t.trn.dones = (s.advance now).trn.dones ∧ t.trn.sched = (s.advance now).trn.sched ∧
        t.regs = (s.advance now).regs) := by
  obtain ⟨hcounts, hother⟩ := exec_done hops hlink hfresh
  revert hcounts hother
  generalize s.advance now = s0
  intro hcounts hother
  have hout (hhops : hops < 3) (c : Nat × Nat) (hc : c ∈ s0.upLinks) (hne : linkKey c.1 c.2 ≠ link) :
      Out.vc0 c.1 c.2 4 (hops + 1) [n, l] ∈ (s0.flood 4 [n, l] none (some link) hops).out :=
    mem_flood_out_plain s0 hhops hc (fun heq => hne (Option.some.inj heq))
  have htrn := flood_trn s0 (t := 4) (contents := [n, l]) (delay := none) (link := some link) (hops := hops)
  by_cases hc : s0.countsDone n
  · refine ⟨_, hcounts hc, ?_, ?_, fun hhops c hc hne => ?_, fun _ => ⟨?_, fun hstretching hlast hper => ?_⟩, fun hnot => absurd hc hnot⟩
    · exact tryRelease_transitNo.trans (flood_reads s0 State.transitNo (fun _ _ => rfl))
    · exact tryRelease_mem.trans (flood_mem s0)
    · exact (tryRelease_keeps _ (keeps_refl _)).mem_out (hout hhops c hc hne)
    · refine (tryRelease_reads (fun t => t.trn.dones) (fun _ _ => rfl) (fun _ _ _ _ _ => rfl)).trans ?_
      exact congrArg (insertNat · l) ((congrArg Trn.dones htrn).trans rfl)
    · have hflood {β : Type} (g : State → β) (hg : ∀ t m o, g { t with trn := { t.trn with relayed := m }, out := o } = g t) :
          g (s0.flood 4 [n, l] none (some link) hops) = g s0 := flood_reads s0 g (hg s0)
      have hreleased := tryRelease_holdsDone_sched (s := s0.flood 4 [n, l] none (some link) hops) (l := l)
        ((hflood State.isMaster (fun _ _ _ => rfl)).trans hc.1) ((hflood (fun t => t.trn.stretching) (fun _ _ _ => rfl)).trans hstretching)
        (fun x hx => hlast x (hflood State.missing (fun _ _ _ => rfl) ▸ hx))
        ((hflood (fun t => t.nextPeriod t.trn.nextNo) (fun _ _ _ => rfl)).symm ▸ hper)
      rwa [hflood (fun t => t.trn.nextNo) (fun _ _ _ => rfl), hflood (fun t => t.rackTime) (fun _ _ _ => rfl),
        hflood State.leadNs (fun _ _ _ => rfl), hflood (fun t => t.nextPeriod) (fun _ _ _ => rfl)] at hreleased
  · refine ⟨_, hother hc, flood_reads s0 State.transitNo (fun _ _ => rfl), flood_mem s0, hout, fun h => absurd h hc,
      fun _ => ⟨?_, ?_, flood_regs s0⟩⟩
    · rw [htrn]
    · rw [htrn]

/-- A decision with no DONE missing schedules the next transit. -/
theorem scheduleDecision_due {now : Nat} (hdue : (s.advance now).decisionDue) (hnone : (s.advance now).missing = [])
    (hper : 10000 ≤ (s.advance now).nextPeriod (s.advance now).trn.nextNo) :
    ∃ t, exec (.scheduleDecision now) s = .next t ∧ Schedules (s.advance now) t
      (Nat.max ((s.advance now).fget R.TRN_NEXT.next_ns) ((s.advance now).rackTime + (s.advance now).leadNs)) := by
  refine ⟨_, ?_, schedules_sendSchedule _ hper⟩
  rw [exec_scheduleDecision hdue, hnone]
  rfl

theorem scheduleDecision_missing {now : Nat} (hdue : (s.advance now).decisionDue) (hmissing : (s.advance now).missing ≠ []) :
    exec (.scheduleDecision now) s = .next { s.advance now with trn := { (s.advance now).trn with stretching := true } } := by
  rw [exec_scheduleDecision hdue, if_neg (fun h => hmissing (List.isEmpty_iff.1 h))]

/-! The limit of a transit held back. -/

/-- The limit's state before the package's own pairs are taken: scheduled, counted and sent. -/
def State.limitPassed (s : State) (k fire n : Nat) (pairs : List (Nat × Nat)) : State :=
  ((({ s with free := k } : State).sendSchedule fire).darkCounted pairs.length).sendsDark n pairs

theorem darkCounted_trn (k : Nat) : (s.darkCounted k).trn = s.trn :=
  (trnKept_report _ _ _ _).trn

/-- A reading that reports and the counter of pairs darkened do not bear on is the same when they are counted. -/
theorem darkCounted_reads {β : Type} (g : State → β) (hset : ∀ t v, g (State.fset t R.TRN_STRETCH_CNT.darkened v) = g t)
    (hlog : ∀ t fatals reports, g { t with fatals := fatals, reports := reports } = g t) (hdrop : ∀ t c, g (State.dropReport t c) = g t)
    (k : Nat) : g (s.darkCounted k) = g s :=
  (report_reads _ g (fun _ => hlog _ _ _) (fun _ => hlog _ _ _) (hdrop _) _ _ _ _).trans (hset s _)

variable {k fire n : Nat} {pairs : List (Nat × Nat)}

/-- Only SCHEDULE bears on the transit state and what the log of relays does not say. -/
theorem limitPassed_trn {β : Type} (g : Trn → β) (hg : ∀ (t : Trn) m, g { t with relayed := m } = g t) :
    g (s.limitPassed k fire n pairs).trn = g (({ s with free := k } : State).sendSchedule fire).trn :=
  (sendsDark_reads (fun t => g t.trn) (fun t m _ => hg t.trn m)).trans (congrArg g (darkCounted_trn _))

theorem limitPassed_mem : (s.limitPassed k fire n pairs).mem = s.mem :=
  (sendsDark_reads State.mem (fun _ _ _ => rfl)).trans ((darkCounted_reads State.mem (fun _ _ => rfl) (fun _ _ _ => rfl)
    (fun _ c => dropReport_mem c) _).trans (sendSchedule_reads State.mem (fun _ _ => rfl) (fun _ _ _ _ _ => rfl) fire))

/-- Of the transit unit's registers the counter of pairs darkened and TRN_NEXT change. -/
theorem limitPassed_fget {f : Fld} (htrn : OnTrn f.off) (hcnt : f.off ≠ A.TRN_STRETCH_CNT) (hnext : f.off ≠ A.TRN_NEXT) :
    (s.limitPassed k fire n pairs).fget f = s.fget f :=
  (sendsDark_reads (State.fget · f) (fun _ _ _ => rfl)).trans (((trnKept_report _ _ _ _).fget htrn).trans
    ((fget_fset_reg _ R.TRN_STRETCH_CNT.darkened f _ hcnt.symm).trans
      (sendSchedule_reads (State.fget · f) (fun t v => fget_fset_reg t R.TRN_NEXT.next_ns f v hnext.symm) (fun _ _ _ _ _ => rfl) fire)))

theorem limitPassed_darkened : (s.limitPassed k fire n pairs).fget R.TRN_STRETCH_CNT.darkened =
    (s.fget R.TRN_STRETCH_CNT.darkened + pairs.length) % 2 ^ 32 := by
  refine (sendsDark_reads (State.fget · R.TRN_STRETCH_CNT.darkened) (fun _ _ _ => rfl)).trans
    (((trnKept_report _ _ _ _).fget ⟨by decide, by decide⟩).trans ((fget_finc _ _ _ rfl).trans ?_))
  rw [sendSchedule_reads (State.fget · R.TRN_STRETCH_CNT.darkened)
    (fun t v => fget_fset_reg t R.TRN_NEXT.next_ns R.TRN_STRETCH_CNT.darkened v (by decide)) (fun _ _ _ _ _ => rfl) fire]
  rfl

/-- A report dropped changes only the counters of ERR_LOST. -/
theorem dropReport_fget {cls : Nat} {f : Fld} (hf : 0x30028 < f.off) : (s.dropReport cls).fget f = s.fget f := by
  refine (raise_reads _ (State.fget · f) (fun _ _ => rfl) (fun _ => rfl) _ _).trans (fget_fset_reg s (lostFld cls) f _ ?_)
  unfold lostFld
  split <;> exact fun heq => absurd (heq ▸ hf) (by decide)

/-- Registers of ports and of the package are the same when SCHEDULE is sent and the pairs are counted. -/
theorem darkCounted_fget {j : Nat} {f : Fld} (hf : 0x100000 ≤ f.off) :
    ((({ s with free := k } : State).sendSchedule fire).darkCounted j).fget f = s.fget f := by
  have hne {g : Fld} (hg : g.off < 0x100000) : g.off ≠ f.off := by omega
  refine (darkCounted_reads (State.fget · f) (fun t v => fget_fset_reg t _ f v (hne (by decide))) (fun _ _ _ => rfl)
    (fun _ _ => dropReport_fget (by omega)) j).trans ?_
  exact sendSchedule_reads (State.fget · f) (fun t v => fget_fset_reg t _ f v (hne (by decide))) (fun _ _ _ _ _ => rfl) fire

theorem limitPassed_ldn : (s.limitPassed k fire n pairs).ldn = s.ldn :=
  (sendsDark_reads State.ldn (fun _ _ _ => rfl)).trans (darkCounted_fget (f := R.SCP_ID.ldn) (by decide))

/-- The limit reached: what it schedules, counts, sends and darkens. -/
theorem stretchLimitExpiry_due {now : Nat} (hdue : (s.advance now).limitReached)
    (hper : 10000 ≤ (s.advance now).nextPeriod (s.advance now).trn.nextNo) :
    ∃ t, exec (.stretchLimitExpiry now) s = .next t ∧
      t.trn.sched = some ((s.advance now).trn.nextNo, (s.advance now).rackTime + (s.advance now).leadNs,
        (s.advance now).nextPeriod (s.advance now).trn.nextNo) ∧ t.trn.stretching = false ∧
      t.fget R.TRN_STRETCH_CNT.darkened =
        ((s.advance now).fget R.TRN_STRETCH_CNT.darkened + (s.advance now).undonePairs.2.length) % 2 ^ 32 ∧
      ((s.advance now).undonePairs.2 ≠ [] → ∀ c ∈ (s.advance now).upLinks, Out.vc0 c.1 c.2 2 1
        (darkContents (s.advance now).trn.nextNo ((s.advance now).undonePairs.2.take 64)
          (decide ((s.advance now).undonePairs.2.length ≤ 64))) ∈ t.out) ∧
      (∀ p, p < 16 → (s.advance now).ldn ≠ 255 → (s.advance now).ldn ∈ (s.advance now).missing →
        (s.advance now).accounted p = false → (s.advance now).transitNo < (s.advance now).trn.nextNo →
        ((s.advance now).trn.nextNo, p) ∈ t.trn.darkNext) ∧
      t.transitNo = (s.advance now).transitNo ∧ t.mem = (s.advance now).mem := by
  rw [exec_stretchLimitExpiry hdue]
  obtain ⟨k, hk⟩ := undonePairs_state (s := s.advance now)
  rw [hk]
  revert hper
  generalize s.advance now = s0
  intro hper
  generalize hpairs : s0.undonePairs.2 = pairs
  obtain ⟨hsched, hstretching, -, -, -, -⟩ :=
    schedules_sendSchedule (s := { s0 with free := k }) (s0.rackTime + s0.leadNs) hper
  have hno : (s0.limitPassed k (s0.rackTime + s0.leadNs) s0.trn.nextNo pairs).transitNo = s0.transitNo :=
    limitPassed_fget (f := R.TRN_NUMBER.transit) ⟨by decide, by decide⟩ (by decide) (by decide)
  have hldn : (s0.limitPassed k (s0.rackTime + s0.leadNs) s0.trn.nextNo pairs).ldn = s0.ldn := limitPassed_ldn
  refine ⟨_, rfl, ?_, ?_, ?_, fun hne c hc => ?_, fun p hp hself hmissing hundone hlater => ?_, ?_, ?_⟩
  · exact (takeDark_trn Trn.sched (fun _ => rfl)).trans ((limitPassed_trn Trn.sched (fun _ _ => rfl)).trans hsched)
  · exact (takeDark_trn Trn.stretching (fun _ => rfl)).trans ((limitPassed_trn Trn.stretching (fun _ _ => rfl)).trans hstretching)
  · exact (takeDark_fget (f := R.TRN_STRETCH_CNT.darkened) (by decide) (by decide)).trans limitPassed_darkened
  · exact (takeDark_keeps _ _ _ (keeps_refl _)).mem_out (mem_sendsDark_out hne ((upLinks_of_ports fun _ hf => darkCounted_fget hf).symm ▸ hc))
  · have hnamed : (s0.ldn, p) ∈ pairs := hpairs ▸ mem_undonePairs hmissing hp hundone
    exact mem_takeDark_darkNext (s := s0.limitPassed k (s0.rackTime + s0.leadNs) s0.trn.nextNo pairs) (hldn.symm ▸ hself) hp
      (hldn.symm ▸ hnamed) (fun _ => lt_of_eq_of_lt hno hlater)
  · exact takeDark_transitNo.trans hno
  · exact takeDark_mem.trans limitPassed_mem

/-- A DARK that is heard. -/
theorem dark_heard {link hops : Nat} {last : Bool} (h : s.hearsDark link n pairs last) (p : Nat) :
    ∃ t, exec (.dark link hops n pairs last) s = .next t ∧ t.mem = s.mem ∧ t.transitNo = s.transitNo ∧
      (hops < 3 → ∀ c ∈ s.upLinks, linkKey c.1 c.2 ≠ link → Out.vc0 c.1 c.2 2 (hops + 1) (darkContents n pairs last) ∈ t.out) ∧
      (s.ldn ≠ 255 → p < 16 → (s.ldn, p) ∈ pairs →
        ((s.trn.numbered = true → s.transitNo < n) → (n, p) ∈ t.trn.darkNext ∧ t.regs = s.regs) ∧
        (s.trn.numbered = true → n = s.transitNo → t.fget (R.TRN_PART_STEP.late p) = 1)) ∧
      ((∀ q, (s.ldn, q) ∉ pairs) → t.trn.darkNext = s.trn.darkNext ∧ t.regs = s.regs) := by
  have htrn := flood_trn s (t := 2) (contents := darkContents n pairs last) (delay := none) (link := some link) (hops := hops)
  have hldn := flood_reads s (t := 2) (contents := darkContents n pairs last) (delay := none) (link := some link) (hops := hops) State.ldn
    (fun _ _ => rfl)
  have hno := flood_fget s (t := 2) (contents := darkContents n pairs last) (delay := none) (link := some link) (hops := hops)
    R.TRN_NUMBER.transit
  have hregs := flood_regs s (t := 2) (contents := darkContents n pairs last) (delay := none) (link := some link) (hops := hops)
  have hmem := flood_mem s (t := 2) (contents := darkContents n pairs last) (delay := none) (link := some link) (hops := hops)
  have hsent (hhops : hops < 3) (c : Nat × Nat) (hc : c ∈ s.upLinks) (hne : linkKey c.1 c.2 ≠ link) :=
    mem_flood_out_plain s (t := 2) (contents := darkContents n pairs last) hhops hc (fun heq => hne (Option.some.inj heq))
  rw [exec_dark hops h]
  revert htrn hldn hno hregs hmem hsent
  generalize s.flood 2 (darkContents n pairs last) none (some link) hops = r
  intro htrn hldn hno hregs hmem hsent
  have hnumbered : r.trn.numbered = s.trn.numbered := by rw [htrn]
  refine ⟨_, rfl, takeDark_mem.trans hmem, takeDark_transitNo.trans hno,
    fun hhops c hc hne => (takeDark_keeps _ _ _ (keeps_refl _)).mem_out (hsent hhops c hc hne),
    fun hself hp hnamed => ⟨?_, ?_⟩, fun hnone => ?_⟩
  · intro hlater
    have hlater' : r.trn.numbered = true → r.transitNo < n := fun hn => lt_of_eq_of_lt hno (hlater (hnumbered ▸ hn))
    refine ⟨mem_takeDark_darkNext (hldn.symm ▸ hself) hp (hldn.symm ▸ hnamed) hlater', ?_⟩
    rw [takeDark_coming (hldn.symm ▸ hself) hlater']
    exact hregs
  · exact fun hn heq => takeDark_late (hldn.symm ▸ hself) hp (hldn.symm ▸ hnamed) (hnumbered.trans hn) (heq.trans hno.symm)
  · obtain ⟨hdark, hkept⟩ := takeDark_unnamed (s := r) (n := n) (fun q hq => hnone q (hldn ▸ hq))
    refine ⟨hdark.trans ?_, hkept.trans hregs⟩
    rw [htrn]

end

/-- Settles O12: DONE, the master's decision, the limit of a transit held back, and DARK, each by its own lemma. -/
theorem lateAccounting : Obligations.LateAccounting := by
  refine ⟨fun s => ⟨doneSend_member, doneSend_master, exec_doneSend_idle⟩,
    fun s now link hops n l => ⟨exec_done_unheard hops, done_heard⟩,
    fun s now => ⟨fun hdue hnone hper => ?_, scheduleDecision_missing, exec_scheduleDecision_idle⟩,
    fun s now => ⟨stretchLimitExpiry_due, exec_stretchLimitExpiry_early⟩,
    fun s link hops n p pairs last => ⟨fun h => dark_heard h p, exec_dark_unheard hops⟩⟩
  obtain ⟨t, hexec, hsched, hstretching, hnext, hreg, hmem, hsent⟩ := scheduleDecision_due hdue hnone hper
  exact ⟨t, hexec, hsched, hstretching, hnext, hreg, hmem, hsent⟩

end Sys2Proof.Machine

/-! TRANSIT_FIRE (R83, R90, R91, R101). -/
namespace Sys2Proof.Machine

section
variable {s t : State} {n fire per p : Nat}

/-- A done bit of a step is clear exactly when its field reads 0. -/
theorem fget_done_eq_zero {i : Nat} (h : s.windowDone p i = false) : s.fget ⟨A.TRN_PART_STEP p, i, 1⟩ = 0 := by
  rw [windowDone_eq] at h
  have hbit : (s.fget ⟨A.TRN_PART_STEP p, i, 1⟩).testBit 0 = false := (getField_bit _ i 1 0).trans (by rw [Nat.add_zero, h, Bool.and_false])
  have hlt : s.fget ⟨A.TRN_PART_STEP p, i, 1⟩ < 2 ^ 1 := Nat.mod_lt _ (Nat.two_pow_pos 1)
  rw [Nat.testBit_zero, decide_eq_false_iff_not] at hbit
  omega

/-- Writes of other registers leave the done bits. -/
theorem windowDone_fset {f : Fld} {v i : Nat} (h : f.off ≠ A.TRN_PART_STEP p) : (s.fset f v).windowDone p i = s.windowDone p i := by
  rw [windowDone_eq, windowDone_eq, reg_fset_of_ne s f v _ h.symm]

/-- The registers of the transit unit that the start of partition `p`'s step changes. -/
def stepRegs (p : Nat) : List Nat := [A.TRN_PART_STEP p, A.TRN_PART_DROOP p, A.TRN_PART_CTL p]

/-- A reading that the log of reports, a partition darkened and the registers of its step do not bear on is the same when the step
begins. -/
theorem tickPart_reads {β : Type} (g : State → β) (hset : ∀ t off v, off ∈ stepRegs p → g (State.setReg t off v) = g t)
    (hdark : ∀ t, g (State.darken t p) = g t) : g (s.tickPart n p) = g s := by
  have hstep (t : State) (v : Word) := hset t (A.TRN_PART_STEP p) v List.mem_cons_self
  have hctl (t : State) (v : Word) := hset t (A.TRN_PART_CTL p) v (List.mem_cons_of_mem _ (List.mem_cons_of_mem _ List.mem_cons_self))
  unfold State.tickPart
  extract_lets done s1 s2 s3 s4
  have h1 : g s1 = g s := hstep _ _
  have h2 : g s2 = g s := by
    show g (if _ then s1.darken p else s1) = _
    split
    · exact (hdark s1).trans h1
    · exact h1
  have h4 : g s4 = g s := (hset s3 (A.TRN_PART_DROOP p) _ (List.mem_cons_of_mem _ List.mem_cons_self)).trans ((hstep s2 _).trans h2)
  split
  · exact h4
  · exact (hctl _ _).trans ((hctl _ _).trans ((hctl s4 _).trans h4))

@[simp] theorem tickPart_trn : (s.tickPart n p).trn = s.trn :=
  tickPart_reads State.trn (fun _ _ _ _ => rfl) (fun _ => darken_trn p)

theorem tickPart_reg {off : Nat} (htrn : OnTrn off) (h : off ∉ stepRegs p) : (s.tickPart n p).reg off = s.reg off :=
  tickPart_reads (State.reg · off) (fun t o v ho => reg_setReg_other t o off v (fun heq => h (heq ▸ ho)))
    (fun _ => darken_reg htrn (fun heq => h (heq ▸ List.mem_cons_self)))

/-- The done bits of a step that begins are clear (R83). -/
theorem windowDone_tickPart {i : Nat} (hi : i < 3) : (s.tickPart n p).windowDone p i = false := by
  have hdroop : A.TRN_PART_DROOP p ≠ A.TRN_PART_STEP p := by unfold A.TRN_PART_DROOP A.TRN_PART_STEP; omega
  have hctl : A.TRN_PART_CTL p ≠ A.TRN_PART_STEP p := by unfold A.TRN_PART_CTL A.TRN_PART_STEP; omega
  have hmask : (0x307 : Word).getLsbD i = true := by
    interval_cases i <;> rfl
  unfold State.tickPart
  extract_lets done s1 s2 s3 s4
  have h4 : s4.windowDone p i = false := by
    refine (windowDone_fset hdroop).trans ?_
    rw [windowDone_eq, reg_setReg_same, BitVec.getLsbD_and, BitVec.getLsbD_not, hmask]
    simp only [Bool.not_true, Bool.and_false]
  split
  · exact h4
  · exact (windowDone_fset hctl).trans ((windowDone_fset hctl).trans ((windowDone_fset hctl).trans h4))

/-- The step of transit `n` has begun at `fire`. -/
structure Begun (t : State) (n fire per : Nat) : Prop where
  number : t.transitNo = n
  period : t.periodNs = per
  next : t.fget R.TRN_NEXT.next_ns = (fire + per) % 2 ^ 64
  sched : t.trn.sched = none
  dones : t.trn.dones = []
  doneSent : t.trn.doneSent = false
  fireTime : t.trn.fireTime = fire

/-- What keeps the transit unit's counters, and what is awaited of the step, keeps the step begun. -/
theorem Begun.of_reg (h : Begun s n fire per) (hreg : ∀ off, 0x10010 ≤ off → off < 0x10100 → t.reg off = s.reg off)
    (hsched : s.trn.sched = none → t.trn.sched = none) (hdones : t.trn.dones = s.trn.dones) (hsent : t.trn.doneSent = s.trn.doneSent)
    (hfire : t.trn.fireTime = s.trn.fireTime) : Begun t n fire per := by
  have hfget {f : Fld} (hlow : 0x10010 ≤ f.off) (hhigh : f.off < 0x10100) : t.fget f = s.fget f :=
    congrArg (getField · f.lo f.width) (hreg f.off hlow hhigh)
  obtain ⟨hno, hper, hnext, hs, hd, hds, hf⟩ := h
  exact ⟨(hfget (f := R.TRN_NUMBER.transit) (by decide) (by decide)).trans hno,
    (hfget (f := R.TRN_PERIOD.period_ns) (by decide) (by decide)).trans hper,
    (hfget (f := R.TRN_NEXT.next_ns) (by decide) (by decide)).trans hnext,
    hsched hs, hdones.trans hd, hsent.trans hds, hfire.trans hf⟩

theorem Begun.of_kept (h : Begun s n fire per) (hk : TrnKept s t) : Begun t n fire per :=
  h.of_reg (fun off hlow hhigh => hk.reg off ⟨by omega, by omega⟩) (congrArg Trn.sched hk.trn).trans (congrArg Trn.dones hk.trn)
    (congrArg Trn.doneSent hk.trn) (congrArg Trn.fireTime hk.trn)

theorem begun_countTransit (hn : n < 2 ^ 64) (hper : per < 2 ^ 34) : Begun (s.countTransit n fire per) n fire per := by
  unfold State.countTransit
  extract_lets late s1 s2
  have hnumber : s2.fget R.TRN_NUMBER.transit = n % 2 ^ 64 :=
    (fget_fset_reg _ R.TRN_NEXT.next_ns R.TRN_NUMBER.transit _ (by decide)).trans
      ((fget_fset_reg _ R.TRN_PERIOD.period_ns R.TRN_NUMBER.transit _ (by decide)).trans (fget_fset_self s1 R.TRN_NUMBER.transit n rfl))
  have hperiod : s2.fget R.TRN_PERIOD.period_ns = per % 2 ^ 34 :=
    (fget_fset_reg _ R.TRN_NEXT.next_ns R.TRN_PERIOD.period_ns _ (by decide)).trans (fget_fset_self _ R.TRN_PERIOD.period_ns per rfl)
  have hnext : s2.fget R.TRN_NEXT.next_ns = (fire + per) % 2 ^ 64 := fget_fset_self _ R.TRN_NEXT.next_ns (fire + per) rfl
  rw [Nat.mod_eq_of_lt hn] at hnumber
  rw [Nat.mod_eq_of_lt hper] at hperiod
  clear_value s2
  exact ⟨hnumber, hperiod, hnext, rfl, rfl, rfl, rfl⟩

theorem stepRegs_high {off : Nat} (h : off < 0x10100) : off ∉ stepRegs p := by
  unfold stepRegs A.TRN_PART_STEP A.TRN_PART_DROOP A.TRN_PART_CTL
  simp only [List.mem_cons, List.not_mem_nil, or_false]
  omega

/-- Steps of the partitions begin; the counters of the step stay. -/
theorem begun_tickParts (h : Begun s n fire per) (l : List Nat) : Begun (l.foldl (fun s p => s.tickPart n p) s) n fire per := by
  have htrn {β : Type} (g : Trn → β) : g (l.foldl (fun s p => s.tickPart n p) s).trn = g s.trn :=
    foldl_reads (g := fun t => g t.trn) (fun t p _ => congrArg g tickPart_trn) s
  exact h.of_reg (fun off hlow hhigh => foldl_reads (g := (State.reg · off))
    (fun t p _ => tickPart_reg ⟨by omega, by omega⟩ (stepRegs_high hhigh)) s) (htrn Trn.sched).trans (htrn Trn.dones) (htrn Trn.doneSent)
    (htrn Trn.fireTime)

theorem windowDone_tickParts {i : Nat} (hi : i < 3) (hp : p < 16) :
    ((List.range 16).foldl (fun s p => s.tickPart n p) s).windowDone p i = false := by
  refine foldl_reads_put (g := (State.windowDone · p i)) (List.mem_range.2 hp) (fun _ => windowDone_tickPart hi) (fun t q h => ?_) s
  by_cases hq : q = p
  · subst hq
    exact windowDone_tickPart hi
  · refine Eq.trans ?_ h
    have hnot : A.TRN_PART_STEP p ∉ stepRegs q := by
      unfold stepRegs A.TRN_PART_STEP A.TRN_PART_DROOP A.TRN_PART_CTL
      simp only [List.mem_cons, List.not_mem_nil, or_false]
      omega
    show (t.tickPart n q).windowDone p i = t.windowDone p i
    rw [windowDone_eq, windowDone_eq, tickPart_reg (onTrn_partStep hp) hnot]

/-- The transit is counted and the steps of the partitions begin. -/
def State.beginsStep (s : State) (n fire per : Nat) : State :=
  (List.range 16).foldl (fun s p => s.tickPart n p) (((List.range 16).foldl State.skipPart s).countTransit n fire per)

/-- What was to come with transit `n` for the partitions has been taken. -/
def State.stepTaken (s : State) (n : Nat) : State :=
  { s with trn := { s.trn with winNext := [], darkNext := s.trn.darkNext.filter (fun e => decide (n < e.1)) } }

theorem stepTaken_reg (off : Nat) : (s.stepTaken n).reg off = s.reg off := rfl

theorem Begun.stepTaken (h : Begun s n fire per) : Begun (s.stepTaken n) n fire per := h.of_reg (fun off _ _ => stepTaken_reg off) id rfl rfl rfl

/-- Everything else that is placed at a transit, up to what comes last. -/
def State.placed (s : State) (n : Nat) (cut : Bool) : State :=
  ((((((((((List.range 16).foldl State.beaconTick s.restartDroop).publish n).tickRoutes n).tickLdn n).tickKeys n).applyCol n).applyLost
    n).tickAlmanac n).tickImages cut).tickWidths.checkJoin

theorem trnKept_placed (cut : Bool) : TrnKept s (s.placed n cut) := by
  have hbeacons : TrnKept s ((List.range 16).foldl State.beaconTick s.restartDroop) :=
    trnKept_restartDroop.trans (.foldl (fun _ p => trnKept_beaconTick p) _)
  have hkeys := (((hbeacons.trans (trnKept_publish n)).trans (trnKept_tickRoutes n)).trans (trnKept_tickLdn n)).trans (trnKept_tickKeys n)
  have halmanac := ((hkeys.trans (trnKept_applyCol n)).trans (trnKept_applyLost n)).trans (trnKept_tickAlmanac n)
  exact ((halmanac.trans (trnKept_tickImages cut)).trans trnKept_tickWidths).trans trnKept_checkJoin

theorem fireTransit_eq (h : s.trn.sched = some (n, fire, per)) :
    s.fireTransit = (((((if s.fon R.TRN_CTL.tout_en then s.emit (.transitOut n) else s).beginsStep n fire per).stepTaken n).placed n
      (s.almState == 1 && s.alm.cut == n))).tickLast n := by
  unfold State.fireTransit State.placed State.stepTaken State.beginsStep
  rw [h]

/-- An Eclipse that was set for transit `n` starts (R541). -/
def State.eclipses (s : State) (n : Nat) : State :=
  if s.fon R.ECL_CTL.at_en && s.fget R.ECL_AT.transit == n then s.eclTrigger 4 (s.fon R.ECL_CTL.at_fast) else s

theorem trnKept_eclipses : TrnKept s (s.eclipses n) := .ite (trnKept_eclTrigger 4 _) .refl

theorem tickLast_eq : s.tickLast n = if (s.eclipses n).trn.electNext then (s.eclipses n).startElection else s.eclipses n := rfl

/-- An election that a change of priority asked for changes TRN_STATUS alone of the transit unit's registers. -/
theorem tickLast_reg {off : Nat} (htrn : OnTrn off) (h : off ≠ A.TRN_STATUS) : (s.tickLast n).reg off = s.reg off := by
  rw [tickLast_eq]
  split
  · exact (startElection_reg h).trans (trnKept_eclipses.reg off htrn)
  · exact trnKept_eclipses.reg off htrn

/-- What the transit state tells besides its candidacy and the relays stays. -/
theorem tickLast_trn {β : Type} (g : Trn → β) (hrelay : ∀ r m, g { r with relayed := m } = g r)
    (hopen : ∀ t : State, g t.electionOpen.trn = g t.trn) : g (s.tickLast n).trn = g s.trn := by
  rw [tickLast_eq]
  split
  · exact ((startElection_trn g hrelay).trans (hopen _)).trans (congrArg g trnKept_eclipses.trn)
  · exact congrArg g trnKept_eclipses.trn

/-- A transit that is not scheduled is none that an election drops. -/
theorem tickLast_sched (h : s.trn.sched = none) : (s.tickLast n).trn.sched = none := by
  rw [tickLast_eq]
  split
  · exact startElection_trn Trn.sched (fun _ _ => rfl)
  · exact (congrArg Trn.sched trnKept_eclipses.trn).trans h

theorem begun_fireTransit (h : s.trn.sched = some (n, fire, per)) (hn : n < 2 ^ 64) (hper : per < 2 ^ 34) :
    Begun s.fireTransit n fire per := by
  rw [fireTransit_eq h]
  have hbegins (u : State) : Begun (u.beginsStep n fire per) n fire per := begun_tickParts (begun_countTransit hn hper) _
  refine ((hbegins _).stepTaken.of_kept (trnKept_placed _)).of_reg (fun off hlow hhigh => tickLast_reg ⟨by omega, by omega⟩ ?_)
    tickLast_sched (tickLast_trn Trn.dones (fun _ _ => rfl) (fun _ => rfl))
    (tickLast_trn Trn.doneSent (fun _ _ => rfl) (fun _ => rfl)) (tickLast_trn Trn.fireTime (fun _ _ => rfl) (fun _ => rfl))
  exact fun heq => absurd (heq ▸ hlow) (by decide)

theorem windowDone_fireTransit {i : Nat} (h : s.trn.sched = some (n, fire, per)) (hi : i < 3) (hp : p < 16) :
    s.fireTransit.windowDone p i = false := by
  rw [fireTransit_eq h, windowDone_eq, tickLast_reg (onTrn_partStep hp), (trnKept_placed _).reg _ (onTrn_partStep hp), stepTaken_reg]
  · rw [← windowDone_eq]
    exact windowDone_tickParts hi hp
  · unfold A.TRN_PART_STEP A.TRN_STATUS
    omega

theorem beginsStep_keeps : Keeps s (s.beginsStep n fire per) :=
  foldl_keeps (fun _ _ hk => tickPart_keeps _ _ _ hk)
    (countTransit_keeps _ _ _ _ (foldl_keeps (fun _ _ hk => skipPart_keeps _ _ hk) (keeps_refl s)))

theorem stepTaken_keeps (h : Keeps s t) : Keeps s (t.stepTaken n) := h

theorem placed_keeps (cut : Bool) (h : Keeps s t) : Keeps s (t.placed n cut) := by
  refine checkJoin_keeps _ (tickWidths_keeps _ (tickImages_keeps _ _ (tickAlmanac_keeps _ _ ?_)))
  refine applyLost_keeps _ _ (applyCol_keeps _ _ (tickKeys_keeps _ _ (tickLdn_keeps _ _ (tickRoutes_keeps _ _ (publish_keeps _ _ ?_)))))
  exact foldl_keeps (fun _ _ hk => beaconTick_keeps _ _ hk) (restartDroop_keeps _ h)

/-- TRANSIT_OUT rises before anything else at a transit, and what has risen stays. -/
theorem mem_fireTransit_out (h : s.trn.sched = some (n, fire, per)) (hon : s.fon R.TRN_CTL.tout_en = true) :
    Out.transitOut n ∈ s.fireTransit.out := by
  rw [fireTransit_eq h, if_pos hon]
  exact (tickLast_keeps _ _ (placed_keeps _ (stepTaken_keeps beginsStep_keeps))).mem_out List.mem_cons_self

end

end Sys2Proof.Machine

/-! SCHEDULE at a package that is not the master (R78), and when a transit scheduled fires. -/
namespace Sys2Proof.Machine

section
variable {s : State} {m n fire per : Nat}

theorem correctTime_trn {β : Type} (g : Trn → β) (hg : ∀ h sl, g { s.trn with started := true, hold := h, slew := sl } = g s.trn) (m : Nat) :
    g (s.correctTime m).trn = g s.trn := by
  unfold State.correctTime
  dsimp only
  split
  · exact hg _ _
  · split
    · exact hg _ _
    · exact hg _ _

/-- Correcting rack time does not bear on an election. -/
theorem correctTime_electing (m : Nat) : (s.correctTime m).electing = s.electing := by
  have helecting (t : State) (f : Fld) (v : Nat) (h : f = R.TRN_STATUS.offset_ns ∨ f = R.TRN_STATUS.synced ∨ f = R.TRN_TIME.time_ns) :
      (t.fset f v).electing = t.electing := by
    obtain rfl | rfl | rfl := h
    · exact congrArg (· != 0) (fget_fset_of_apart t _ _ v rfl)
    · exact congrArg (· != 0) (fget_fset_of_apart t _ _ v rfl)
    · exact congrArg (· != 0) (fget_fset_reg t _ R.TRN_STATUS.electing v (by decide))
  have hoffset (v : Nat) := helecting s R.TRN_STATUS.offset_ns v (.inl rfl)
  have hsynced (t : State) (v : Nat) := helecting t R.TRN_STATUS.synced v (.inr (.inl rfl))
  unfold State.correctTime
  dsimp only
  split
  · exact (hsynced _ _).trans (hoffset _)
  · split
    · exact (hsynced _ _).trans ((helecting _ R.TRN_TIME.time_ns m (.inr (.inr rfl))).trans (hoffset _))
    · exact (hsynced _ _).trans (hoffset _)

/-- Rack time that is not stepped forward stays. -/
theorem correctTime_rackTime (h : ¬ s.rackTime + 1000 < m) : (s.correctTime m).rackTime = s.rackTime := by
  have hshown (t : State) (v : Nat) (f : Fld) (hf : f.off = A.TRN_STATUS) : (t.fset f v).rackTime = t.rackTime :=
    fget_fset_reg t f R.TRN_TIME.time_ns v (hf ▸ by decide)
  unfold State.correctTime
  dsimp only
  rw [if_neg h]
  split
  · exact (hshown _ _ R.TRN_STATUS.synced rfl).trans (hshown _ _ R.TRN_STATUS.offset_ns rfl)
  · exact (hshown _ _ R.TRN_STATUS.synced rfl).trans (hshown _ _ R.TRN_STATUS.offset_ns rfl)

/-- Rack time does not pass what neither it nor the master's time has passed. -/
theorem correctTime_rackTime_le (hown : s.rackTime ≤ fire) (hmaster : m ≤ fire) : (s.correctTime m).rackTime ≤ fire := by
  by_cases h : s.rackTime + 1000 < m
  · rw [(correctTime_of_behind h).1]
    exact (Nat.mod_le m _).trans hmaster
  · rwa [correctTime_rackTime h]

/-- The state in which a SCHEDULE that is heard has been relayed and rack time corrected. -/
def State.scheduleHeard (s : State) (contents : List Nat) (delay link hops m : Nat) : State :=
  (((s.forward 1 contents delay link hops).correctTime m).adopt).checkJoin

section
variable {contents : List Nat} {delay link hops : Nat}

theorem scheduleHeard_fget {f : Fld} (h : f.off ≠ A.GLB_BOOT) :
    (s.scheduleHeard contents delay link hops m).fget f = ((s.forward 1 contents delay link hops).correctTime m).fget f :=
  (checkJoin_fget _ h).trans (adopt_fget _ f)

theorem scheduleHeard_electing : (s.scheduleHeard contents delay link hops m).electing = s.electing :=
  (congrArg (· != 0) (scheduleHeard_fget (f := R.TRN_STATUS.electing) (by decide))).trans
    ((correctTime_electing m).trans (congrArg (· != 0) (flood_fget s.drawn R.TRN_STATUS.electing)))

theorem scheduleHeard_transitNo : (s.scheduleHeard contents delay link hops m).transitNo = s.transitNo := by
  have hrelayed : (s.forward 1 contents delay link hops).transitNo = s.transitNo := flood_fget s.drawn R.TRN_NUMBER.transit
  refine (scheduleHeard_fget (f := R.TRN_NUMBER.transit) (by decide)).trans (Eq.trans ?_ hrelayed)
  exact congrArg (getField · R.TRN_NUMBER.transit.lo R.TRN_NUMBER.transit.width) (correctTime_reg _ m (by decide) (by decide))

theorem scheduleHeard_trn {β : Type} (g : Trn → β) (hadopt : ∀ r b, g { r with adopted := b } = g r)
    (htime : ∀ r h sl, g { r with started := true, hold := h, slew := sl } = g r) (hrelay : ∀ r l, g { r with relayed := l } = g r) :
    g (s.scheduleHeard contents delay link hops m).trn = g s.trn := by
  unfold State.scheduleHeard
  rw [checkJoin_trn]
  refine (adopt_reads _ (fun t => g t.trn) (fun b => hadopt _ b)).trans ((correctTime_trn g (fun h sl => htime _ h sl) m).trans ?_)
  exact flood_reads s.drawn (fun t => g t.trn) (fun l _ => hrelay _ l)

theorem scheduleHeard_mem : (s.scheduleHeard contents delay link hops m).mem = s.mem := by
  unfold State.scheduleHeard
  rw [checkJoin_mem]
  exact (adopt_reads _ State.mem (fun _ => rfl)).trans ((correctTime_mem _ _).trans (flood_mem s.drawn))

theorem scheduleHeard_rackTime_le (hown : s.rackTime ≤ fire) (hmaster : m ≤ fire) :
    (s.scheduleHeard contents delay link hops m).rackTime ≤ fire := by
  have htime : (s.scheduleHeard contents delay link hops m).rackTime = ((s.forward 1 contents delay link hops).correctTime m).rackTime :=
    scheduleHeard_fget (f := R.TRN_TIME.time_ns) (by decide)
  have hrelayed : (s.forward 1 contents delay link hops).rackTime = s.rackTime := flood_fget s.drawn R.TRN_TIME.time_ns
  exact htime ▸ correctTime_rackTime_le (hrelayed ▸ hown) hmaster

end

/-- A transit's fire time, once it is known. -/
def State.scheduleKept (s : State) (n fire per : Nat) : State :=
  { s.fset R.TRN_NEXT.next_ns fire with trn := { s.trn with sched := some (n, fire, per) } }

theorem scheduleKept_rackTime : (s.scheduleKept n fire per).rackTime = s.rackTime :=
  fget_fset_reg s R.TRN_NEXT.next_ns R.TRN_TIME.time_ns fire (by decide)

theorem scheduleKept_transitNo : (s.scheduleKept n fire per).transitNo = s.transitNo :=
  fget_fset_reg s R.TRN_NEXT.next_ns R.TRN_NUMBER.transit fire (by decide)

theorem scheduleKept_next : (s.scheduleKept n fire per).fget R.TRN_NEXT.next_ns = fire % 2 ^ 64 := fget_fset_self s R.TRN_NEXT.next_ns fire rfl

/-- A fresh SCHEDULE on a link that carries transit control, at a package that is not the master. -/
def State.hearsSchedule (s : State) (link : Nat) (contents : List Nat) : Prop :=
  s.vc0In link = true ∧ s.isMaster = false ∧ s.fresh 1 contents = true

theorem exec_schedule {now link hops origin delay : Nat} (h : (s.advance now).hearsSchedule link [n, fire, per, origin]) :
    exec (.schedule now link hops n fire per origin delay) s =
      (let s1 := (s.advance now).scheduleHeard [n, fire, per, origin] delay link hops (origin + delay)
       if s1.electing ∨ (s1.trn.numbered ∧ n ≤ s1.transitNo) then .next s1
       else .next (if fire < (s1.scheduleKept n fire per).rackTime then (s1.scheduleKept n fire per).lateMarker fire
         else s1.scheduleKept n fire per)) := by
  obtain ⟨hlink, hmaster, hfresh⟩ := h
  show execSchedule now link hops n fire per origin delay s = _
  unfold execSchedule
  dsimp only
  rw [hlink, hmaster, hfresh]
  rfl

/-- A later transit whose fire time has not passed is kept. -/
theorem schedule_kept {now link hops origin delay : Nat} (h : (s.advance now).hearsSchedule link [n, fire, per, origin])
    (helecting : (s.advance now).electing = false) (hlater : (s.advance now).trn.numbered = true → (s.advance now).transitNo < n)
    (hown : (s.advance now).rackTime ≤ fire) (hmaster : origin + delay ≤ fire) :
    ∃ t, exec (.schedule now link hops n fire per origin delay) s = .next t ∧ t.trn.sched = some (n, fire, per) ∧
      t.fget R.TRN_NEXT.next_ns = fire % 2 ^ 64 ∧ t.transitNo = (s.advance now).transitNo ∧ t.mem = (s.advance now).mem := by
  have hnumbered := scheduleHeard_trn (s := s.advance now) (m := origin + delay) (contents := [n, fire, per, origin]) (delay := delay)
    (link := link) (hops := hops) Trn.numbered (fun _ _ => rfl) (fun _ _ _ => rfl) (fun _ _ => rfl)
  refine ⟨_, (exec_schedule h).trans ((if_neg ?_).trans (congrArg Host.Outcome.next (if_neg ?_))), rfl, scheduleKept_next,
    scheduleKept_transitNo.trans scheduleHeard_transitNo, scheduleHeard_mem⟩
  · rw [scheduleHeard_electing, scheduleHeard_transitNo, hnumbered, helecting]
    rintro (hfalse | ⟨hn, hle⟩)
    · exact absurd hfalse Bool.false_ne_true
    · exact absurd (hlater hn) (Nat.not_lt.2 hle)
  · rw [scheduleKept_rackTime]
    exact Nat.not_lt.2 (scheduleHeard_rackTime_le hown hmaster)

/-- In an election, or of a transit already reached, a SCHEDULE schedules nothing. -/
theorem schedule_ignored {now link hops origin delay : Nat} (h : (s.advance now).hearsSchedule link [n, fire, per, origin])
    (hnot : (s.advance now).electing = true ∨ (s.advance now).trn.numbered = true ∧ n ≤ (s.advance now).transitNo) :
    ∃ t, exec (.schedule now link hops n fire per origin delay) s = .next t ∧ t.trn.sched = (s.advance now).trn.sched ∧
      t.transitNo = (s.advance now).transitNo ∧ t.mem = (s.advance now).mem := by
  have hnumbered := scheduleHeard_trn (s := s.advance now) (m := origin + delay) (contents := [n, fire, per, origin]) (delay := delay)
    (link := link) (hops := hops) Trn.numbered (fun _ _ => rfl) (fun _ _ _ => rfl) (fun _ _ => rfl)
  refine ⟨_, (exec_schedule h).trans (if_pos ?_), scheduleHeard_trn Trn.sched (fun _ _ => rfl) (fun _ _ _ => rfl) (fun _ _ => rfl),
    scheduleHeard_transitNo, scheduleHeard_mem⟩
  rwa [scheduleHeard_electing, scheduleHeard_transitNo, hnumbered]

/-! TRANSIT_FIRE. -/

/-- The transit scheduled for `fire` fires now (R73, R76, R79). -/
def State.firesAt (s : State) (fire : Nat) : Prop :=
  fire ≤ s.rackTime ∧ s.trn.hold = none ∧ s.electing = false ∧ s.ecl.phase ≠ 2 ∧ s.nwt.night = false

theorem exec_transitFire {now : Nat} (hsched : (s.advance now).trn.sched = some (n, fire, per)) :
    ((s.advance now).firesAt fire → exec (.transitFire now) s = .next (s.advance now).fireTransit) ∧
    (¬ (s.advance now).firesAt fire → exec (.transitFire now) s = .next (s.advance now)) := by
  show (_ → execTransitFire now s = _) ∧ (_ → execTransitFire now s = _)
  unfold execTransitFire
  dsimp only
  rw [hsched]
  simp only [State.firesAt, Option.isNone_iff_eq_none, Bool.not_eq_true]
  exact ⟨fun h => if_pos h, fun h => if_neg h⟩

theorem transitFire_fires {now : Nat} (hsched : (s.advance now).trn.sched = some (n, fire, per)) (hn : n < 2 ^ 64) (hper : per < 2 ^ 34)
    (hfires : (s.advance now).firesAt fire) :
    ∃ t, exec (.transitFire now) s = .next t ∧ t.transitNo = n ∧ t.periodNs = per ∧
      t.fget R.TRN_NEXT.next_ns = (fire + per) % 2 ^ 64 ∧ t.trn.sched = none ∧ t.trn.dones = [] ∧ t.trn.doneSent = false ∧
      t.trn.fireTime = fire ∧
      (∀ p, p < 16 → t.fget (R.TRN_PART_STEP.compute_done p) = 0 ∧ t.fget (R.TRN_PART_STEP.exchange_done p) = 0 ∧
        t.fget (R.TRN_PART_STEP.step_done p) = 0) ∧
      ((s.advance now).fget R.TRN_CTL.tout_en = 1 → Out.transitOut n ∈ t.out) := by
  obtain ⟨hno, hperiod, hnext, hnone, hdones, hsent, hfire⟩ := begun_fireTransit hsched hn hper
  refine ⟨_, (exec_transitFire hsched).1 hfires, hno, hperiod, hnext, hnone, hdones, hsent, hfire, fun p hp => ?_,
    fun hon => mem_fireTransit_out hsched (fon_of_fget_one hon)⟩
  exact ⟨fget_done_eq_zero (windowDone_fireTransit hsched (by decide) hp), fget_done_eq_zero (windowDone_fireTransit hsched (by decide) hp),
    fget_done_eq_zero (windowDone_fireTransit hsched (by decide) hp)⟩

end

/-- Settles O13: `Begun` is what counting the transit sets, and everything placed at the transit after it keeps it. -/
theorem transitFires : Obligations.TransitFires := by
  refine ⟨fun s now n fire per hsched hn hper => ⟨transitFire_fires hsched hn hper, (exec_transitFire hsched).2⟩,
    fun s now link hops n fire per origin delay hlink hmaster hfresh => ⟨fun helecting hlater hown hm _ => ?_, fun hnot => ?_⟩⟩
  · rw [← advance_mem s now]
    exact schedule_kept ⟨hlink, hmaster, hfresh⟩ helecting hlater hown hm
  · rw [← advance_mem s now]
    exact schedule_ignored ⟨hlink, hmaster, hfresh⟩ hnot

end Sys2Proof.Machine

/-! Exact sums (R114, R139, R143, R159): terms of an accumulator entry are added in any order, apart or together. -/
namespace Sys2Proof.Machine

/-- Wrapping into a field is the balanced remainder (R159). -/
theorem wrapTo_eq_bmod {bits : Nat} (h : 0 < bits) (v : Int) : wrapTo bits v = v.bmod (2 ^ bits) := by
  obtain ⟨b, rfl⟩ : ∃ b, bits = b + 1 := ⟨bits - 1, by omega⟩
  have hpow : (2 : Nat) ^ (b + 1) = 2 * 2 ^ b := Nat.pow_succ'
  have hcast : (2 : Int) ^ (b + 1) = ((2 * 2 ^ b : Nat) : Int) := by rw [pow_succ']; push_cast; rfl
  have hpos : 0 < 2 ^ b := Nat.two_pow_pos b
  unfold wrapTo signedOf Int.bmod
  dsimp only
  rw [hpow, hcast, Nat.add_sub_cancel]
  generalize (2 : Nat) ^ b = m at hpos
  have h0 := Int.emod_nonneg v (b := (2 * m : Nat)) (by omega)
  have hlt := Int.emod_lt_of_pos v (b := (2 * m : Nat)) (by omega)
  generalize v % ((2 * m : Nat) : Int) = w at h0 hlt
  rw [Nat.mod_eq_of_lt (by omega)]
  split <;> split <;> omega

theorem entryBits_pos (wide : Bool) : 0 < entryBits wide := by cases wide <;> decide

theorem wrapTo_wrapTo_add (wide : Bool) (x y : Int) :
    wrapTo (entryBits wide) (wrapTo (entryBits wide) x + y) = wrapTo (entryBits wide) (x + y) := by
  simp only [wrapTo_eq_bmod (entryBits_pos wide), Int.bmod_add_bmod]

theorem wrapTo_add_wrapTo (wide : Bool) (x y : Int) :
    wrapTo (entryBits wide) (x + wrapTo (entryBits wide) y) = wrapTo (entryBits wide) (x + y) := by
  simp only [wrapTo_eq_bmod (entryBits_pos wide), Int.add_bmod_bmod]

theorem Cls.join_assoc (a b c : Cls) : Cls.join (Cls.join a b) c = Cls.join a (Cls.join b c) := by
  cases a <;> cases b <;> cases c <;> rfl

theorem Cls.join_comm (a b : Cls) : Cls.join a b = Cls.join b a := by cases a <;> cases b <;> rfl

theorem Cls.finite_join (c : Cls) : Cls.join .finite c = c := by cases c <;> rfl

/-- An entry that takes one term after another. -/
def AccEntry.addAll (wide : Bool) (l : List (FpNum × Bool)) (e : AccEntry) : AccEntry := l.foldl (fun e x => e.add wide x.1 x.2) e

namespace AccEntry

variable (wide : Bool) (e r : AccEntry)

/-- Infinities of both signs, once among the terms, stay among them: the invalid mark does not depend on when they met. -/
theorem invalid_assoc (i i₁ i₂ p p₁ p₂ n n₁ n₂ : Bool) :
    ((i || i₁ || ((p || p₁) && (n || n₁))) || i₂ || ((p || p₁ || p₂) && (n || n₁ || n₂))) =
      (i || i₁ || i₂ || ((p || p₁ || p₂) && (n || n₁ || n₂))) := by
  cases p <;> cases n <;> cases p₁ <;> cases n₁ <;> simp

theorem add_add_comm (x y : FpNum) (i j : Bool) : (e.add wide x i).add wide y j = (e.add wide y j).add wide x i := by
  simp only [add, withTerms, wrapTo_wrapTo_add, mk.injEq, Bool.or_true, and_true]
  refine ⟨by rw [add_right_comm], ?_, Bool.or_right_comm _ _ _, Bool.or_right_comm _ _ _, ?_, Bool.and_right_comm _ _ _⟩
  · rw [Cls.join_assoc, Cls.join_assoc, Cls.join_comm x.cls]
  · rw [invalid_assoc, invalid_assoc, Bool.or_right_comm e.invalid, Bool.or_right_comm e.pos, Bool.or_right_comm e.neg]

/-- A term may join an entry before that entry is merged, or after. -/
theorem merge_add (x : FpNum) (i : Bool) : e.merge wide (r.add wide x i) = (e.merge wide r).add wide x i := by
  simp only [add, merge, withTerms, wrapTo_wrapTo_add, wrapTo_add_wrapTo, mk.injEq, Bool.or_true, and_true]
  refine ⟨by rw [add_assoc], by rw [Cls.join_assoc], (Bool.or_assoc _ _ _).symm, (Bool.or_assoc _ _ _).symm, ?_, (Bool.and_assoc _ _ _).symm⟩
  generalize (i || x.isSig) = j
  generalize decide (x.cls = .posInf) = p
  generalize decide (x.cls = .negInf) = n
  rw [invalid_assoc]
  cases p <;> cases n <;> cases r.pos <;> cases r.neg <;> simp [Bool.or_assoc]

/-- A term alone, merged into an entry, is the term added to it. -/
theorem merge_add_empty (x : FpNum) (i : Bool) : e.merge wide (empty.add wide x i) = e.add wide x i := by
  simp only [add, merge, withTerms, empty, wrapTo_add_wrapTo, Int.zero_add, Cls.finite_join, Bool.false_or, Bool.true_and]
  cases hc : x.cls <;> simp

theorem merge_addAll (l : List (FpNum × Bool)) : e.merge wide (r.addAll wide l) = (e.merge wide r).addAll wide l := by
  induction l generalizing r with
  | nil => rfl
  | cons x rest ih => exact (ih (r.add wide x.1 x.2)).trans (congrArg (addAll wide rest) (merge_add wide e r x.1 x.2))

theorem merge_addAll_empty {l : List (FpNum × Bool)} (h : l ≠ []) : e.merge wide (empty.addAll wide l) = e.addAll wide l := by
  cases l with
  | nil => exact absurd rfl h
  | cons x rest =>
    exact (merge_addAll wide e (empty.add wide x.1 x.2) rest).trans (congrArg (addAll wide rest) (merge_add_empty wide e x.1 x.2))

theorem addAll_perm {l l' : List (FpNum × Bool)} (h : l.Perm l') : e.addAll wide l = e.addAll wide l' :=
  h.foldl_eq' (fun x _ y _ e => (add_add_comm wide e x.1 y.1 x.2 y.2)) e

end AccEntry

/-- Settles O21: adding two terms commutes, and a term joins before a merge as after it. -/
theorem exactSumsHaveNoOrder : Obligations.ExactSumsHaveNoOrder := by
  unfold Obligations.ExactSumsHaveNoOrder
  intro wide l l' f hperm
  have horder (e : AccEntry) : l.foldl f e = l'.foldl f e := e.addAll_perm wide hperm
  exact ⟨horder, fun e fmt ctl draw sc => by rw [horder], fun hne e => (e.merge_addAll_empty wide hne).trans (horder e)⟩

end Sys2Proof.Machine

/-! What an instruction of a Jumbe core leaves of the core and of the state (R213, R214, R238). -/
namespace Sys2Proof.Machine

section
variable (s : State) (u : CoreId)

@[simp] theorem tcore_setReg (off : Nat) (v : Word) (c : Nat) : (s.setReg off v).tcore c = s.tcore c := rfl

@[simp] theorem tcore_fset (f : Fld) (v c : Nat) : (s.fset f v).tcore c = s.tcore c := rfl

@[simp] theorem jumbe_setReg (off : Nat) (v : Word) : (s.setReg off v).jumbe u = s.jumbe u := by cases u <;> rfl

@[simp] theorem jumbe_fset (f : Fld) (v : Nat) : (s.fset f v).jumbe u = s.jumbe u := jumbe_setReg s u _ _

@[simp] theorem jumbe_setJumbe_same (j : Jumbe) : (s.setJumbe u j).jumbe u = j := by
  cases u with
  | tc c => exact congrArg TCore.cc (State.tcore_setTcore_same s c _)
  | pc c => exact State.pcore_setPcore_same s c j

@[simp] theorem jumbe_onJumbe_same (f : Jumbe → Jumbe) : (s.onJumbe u f).jumbe u = f (s.jumbe u) := jumbe_setJumbe_same s u _

@[simp] theorem onJumbe_mem (f : Jumbe → Jumbe) : (s.onJumbe u f).mem = s.mem := by cases u <;> rfl

@[simp] theorem onJumbe_reg (f : Jumbe → Jumbe) (off : Nat) : (s.onJumbe u f).reg off = s.reg off := by cases u <;> rfl

theorem tcore_onJumbe (c : Nat) (f : Jumbe → Jumbe) : (s.onJumbe (.tc c) f).tcore c = { s.tcore c with cc := f (s.tcore c).cc } :=
  State.tcore_setTcore_same s c _

/-- A control core that changes leaves the engines beside it alone. -/
theorem queueOf_onJumbe (c : Nat) (f : Jumbe → Jumbe) (q : EngineQ) : (s.onJumbe (.tc c) f).queueOf c q = s.queueOf c q := by
  cases q <;> simp only [State.queueOf, tcore_onJumbe]

@[simp] theorem queueOf_setReg (off : Nat) (v : Word) (c : Nat) (q : EngineQ) : (s.setReg off v).queueOf c q = s.queueOf c q := by
  cases q <;> rfl

/-! The program counter and the state that a control core shows (R555). -/

/-- A core whose next instruction stands at `pc`. -/
def Jumbe.goes (j : Jumbe) (pc : Word) : Jumbe := { j with pc := pc }

@[simp] theorem ccState_mem (v : Nat) : (s.ccState u v).mem = s.mem := by cases u <;> rfl

@[simp] theorem ccState_tcores (v : Nat) : (s.ccState u v).tcores = s.tcores := by cases u <;> rfl

@[simp] theorem jumbe_ccState (v : Nat) : (s.ccState u v).jumbe u = s.jumbe u := by
  cases u with
  | tc c => exact jumbe_fset s _ _ v
  | pc c => rfl

@[simp] theorem setPc_mem (pc : Word) : (s.setPc u pc).mem = s.mem := by cases u <;> rfl

@[simp] theorem jumbe_setPc (pc : Word) : (s.setPc u pc).jumbe u = (s.jumbe u).goes pc := by
  cases u with
  | tc c => exact (jumbe_setReg _ _ _ _).trans (jumbe_onJumbe_same s (.tc c) _)
  | pc c => exact jumbe_onJumbe_same s (.pc c) _

@[simp] theorem stepPc_mem : (s.stepPc u).mem = s.mem := by simp only [State.stepPc, ccState_mem, setPc_mem]

@[simp] theorem jumbe_stepPc : (s.stepPc u).jumbe u = (s.jumbe u).goes ((s.jumbe u).pc + 4) := by
  simp only [State.stepPc, jumbe_ccState, jumbe_setPc]

theorem queueOf_stepPc (c : Nat) (q : EngineQ) : (s.stepPc (.tc c)).queueOf c q = s.queueOf c q := by
  unfold State.stepPc State.setPc State.ccState State.fset
  simp only [queueOf_setReg, queueOf_onJumbe]

/-- A control core that steps shows its program counter and its state, and writes no other register. -/
theorem reg_stepPc {c off : Nat} (hpc : off ≠ A.TC_CC_PC c) (hstatus : off ≠ A.TC_CC_STATUS c) : (s.stepPc (.tc c)).reg off = s.reg off := by
  unfold State.stepPc State.setPc State.ccState
  dsimp only
  rw [reg_fset_of_ne _ _ _ _ hstatus, reg_setReg_other _ _ _ _ hpc.symm, onJumbe_reg]

/-! Exceptions (R238). -/

/-- A core in the handler of an exception: cause, engine and return address are recorded. -/
def Jumbe.traps (j : Jumbe) (code queue : Nat) (pc : Word) : Jumbe :=
  { j with causeCode := code, causeQueue := queue, inHandler := true, epc := pc }

def State.entersHandler (s : State) (u : CoreId) (code queue : Nat) (pc handler : Word) : State :=
  ((s.onJumbe u (fun j => j.traps code queue pc)).setPc u handler).ccState u 3

theorem takeAt_cases (code queue : Nat) (pc : Word) : ∃ handler,
    s.takeAt u code queue pc = s.entersHandler u code queue pc handler ∨
      ∃ f, s.takeAt u code queue pc = (s.entersHandler u code queue pc handler).fset f code := by
  cases u with
  | tc c =>
    refine ⟨Config.handlerPc c code, ?_⟩
    by_cases h : (s.tcore c).cc.retired = true
    · exact .inl (if_pos h)
    · exact .inr ⟨_, if_neg h⟩
  | pc c => exact ⟨Config.handlerPc (512 + c) code, .inl rfl⟩

@[simp] theorem takeAt_mem (code queue : Nat) (pc : Word) : (s.takeAt u code queue pc).mem = s.mem := by
  have hmem (handler : Word) : (s.entersHandler u code queue pc handler).mem = s.mem := by
    simp only [State.entersHandler, ccState_mem, setPc_mem, onJumbe_mem]
  obtain ⟨handler, h | ⟨f, h⟩⟩ := takeAt_cases s u code queue pc
  · rw [h, hmem]
  · rw [h, State.fset_mem, hmem]

theorem jumbe_takeAt (code queue : Nat) (pc : Word) :
    ∃ handler, (s.takeAt u code queue pc).jumbe u = ((s.jumbe u).traps code queue pc).goes handler := by
  obtain ⟨handler, h⟩ := takeAt_cases s u code queue pc
  have hjumbe : (s.entersHandler u code queue pc handler).jumbe u = ((s.jumbe u).traps code queue pc).goes handler := by
    simp only [State.entersHandler, jumbe_ccState, jumbe_setPc, jumbe_onJumbe_same]
  obtain h | ⟨f, h⟩ := h
  · exact ⟨handler, by rw [h, hjumbe]⟩
  · exact ⟨handler, by rw [h, jumbe_fset, hjumbe]⟩

theorem jumbe_takeException (code queue : Nat) :
    ∃ handler, (s.takeException u code queue).jumbe u = ((s.jumbe u).traps code queue (s.jumbe u).pc).goes handler :=
  jumbe_takeAt s u code queue (s.jumbe u).pc

/-- An illegal instruction is named as the cause, its address is saved, and no integer register changes. -/
theorem illegal_traps : ((s.illegal u).jumbe u).causeCode = 1 ∧ ((s.illegal u).jumbe u).inHandler = true ∧
    ((s.illegal u).jumbe u).epc = (s.jumbe u).pc ∧ ((s.illegal u).jumbe u).x = (s.jumbe u).x ∧ (s.illegal u).mem = s.mem := by
  obtain ⟨handler, h⟩ := jumbe_takeAt s u excIllegal 0 (s.jumbe u).pc
  unfold State.illegal State.takeException
  rw [h]
  exact ⟨rfl, rfl, rfl, rfl, takeAt_mem s u _ _ _⟩

end

/-! Integer registers (R214). -/

theorem xr_setX (j : Jumbe) (i r : Nat) (v : Word) :
    (j.setX i v).xr r = if r % 32 = i % 32 then (if i % 32 = 0 then 0 else v) else j.xr r := by
  unfold Jumbe.setX
  by_cases hi : i % 32 = 0
  · rw [if_pos hi, if_pos hi]
    split
    · next h => exact if_pos (h.trans hi)
    · rfl
  · rw [if_neg hi, if_neg hi]
    unfold Jumbe.xr
    dsimp only
    by_cases h : r % 32 = i % 32
    · rw [if_pos h, h, if_neg hi, assocGet_set_same]
    · rw [if_neg h, assocGet_set_other _ _ _ _ _ (Ne.symm h)]

/-! The frame of an instruction. -/

section
variable {s : State} {c p : Nat} {srcs : List Src} {go : Nat → State}

/-- An instruction of control cores runs once its sources have arrived. -/
theorem ctlInstr_tc (hon : s.coreOn (.tc c) = true) (hready : (s.tcore c).cc.ready srcs = true) :
    s.ctlInstr (.tc c) srcs go = .next (go c) := by
  have hready : (s.jumbe (.tc c)).ready srcs = true := hready
  unfold State.ctlInstr State.instr whenever
  dsimp only
  rw [hon, hready]
  rfl

theorem ready_nil (j : Jumbe) : j.ready [] = true := rfl

/-- A P core implements none of them (R213). -/
theorem ctlInstr_pc (hon : s.coreOn (.pc p) = true) : s.ctlInstr (.pc p) srcs go = .next (s.illegal (.pc p)) := by
  unfold State.ctlInstr State.instr whenever
  dsimp only
  rw [hon, ready_nil]
  rfl

end

end Sys2Proof.Machine

/-! QSYNC, QDEPTH, SRGET and SRPUT (R119, R233, R235, R236). -/
namespace Sys2Proof.Machine

section
variable {s : State} {c mask : Nat}

/-- The engines that QSYNC names, by their bit in the mask. -/
def syncEngines : List (EngineQ × Nat) := [(.me, 0), (.ve, 1), (.fe, 2)]

theorem exec_qsync (hon : s.coreOn (.tc c) = true) (hmask : mask < 8) (hnone : s.syncExceptions c mask = []) :
    exec (.qsync (.tc c) mask) s = .next (if (syncEngines.filter (fun e => bit mask e.2)).all (fun e => s.engineIdle c e.1) then
      s.stepPc (.tc c) else s.ccState (.tc c) 2) := by
  show execQsync _ _ _ = _
  unfold execQsync
  rw [ctlInstr_tc hon (ready_nil _)]
  dsimp only
  rw [if_neg (by omega), hnone]
  rfl

theorem qsync_idle (hon : s.coreOn (.tc c) = true) (hmask : mask < 8) (hnone : s.syncExceptions c mask = [])
    (hidle : ∀ e ∈ syncEngines, bit mask e.2 = true → s.engineIdle c e.1 = true) :
    ∃ t, exec (.qsync (.tc c) mask) s = .next t ∧ (t.tcore c).cc.pc = (s.tcore c).cc.pc + 4 ∧ t.mem = s.mem := by
  have hall : (syncEngines.filter (fun e => bit mask e.2)).all (fun e => s.engineIdle c e.1) = true :=
    List.all_eq_true.2 (fun e he => hidle e (List.mem_filter.1 he).1 (List.mem_filter.1 he).2)
  rw [exec_qsync hon hmask hnone, if_pos hall]
  exact ⟨_, rfl, congrArg Jumbe.pc (jumbe_stepPc s (.tc c)), stepPc_mem s _⟩

theorem qsync_busy (hon : s.coreOn (.tc c) = true) (hmask : mask < 8) (hnone : s.syncExceptions c mask = [])
    (hbusy : ∃ e ∈ syncEngines, bit mask e.2 = true ∧ s.engineIdle c e.1 = false) :
    ∃ t, exec (.qsync (.tc c) mask) s = .next t ∧ t.tcores = s.tcores ∧ t.mem = s.mem := by
  obtain ⟨e, he, hnamed, hnot⟩ := hbusy
  have hall : ¬ (syncEngines.filter (fun e => bit mask e.2)).all (fun e => s.engineIdle c e.1) = true := fun h =>
    Bool.false_ne_true (hnot.symm.trans (List.all_eq_true.1 h e (List.mem_filter.2 ⟨he, hnamed⟩)))
  rw [exec_qsync hon hmask hnone, if_neg hall]
  exact ⟨_, rfl, ccState_tcores s _ _, ccState_mem s _ _⟩

/-- A pending exception is taken off the list. -/
def Jumbe.takes (j : Jumbe) (e : Nat × Nat) : Jumbe := { j with pending := j.pending.erase e }

theorem qsync_exception {e : Nat × Nat} {rest : List (Nat × Nat)} (hon : s.coreOn (.tc c) = true) (hmask : mask < 8)
    (hfirst : s.syncExceptions c mask = e :: rest) :
    ∃ t, exec (.qsync (.tc c) mask) s = .next t ∧ (t.tcore c).cc.causeCode = e.1 ∧ (t.tcore c).cc.causeQueue = e.2 ∧
      (t.tcore c).cc.inHandler = true ∧ (t.tcore c).cc.epc = (s.tcore c).cc.pc ∧ t.mem = s.mem := by
  have hexec : exec (.qsync (.tc c) mask) s = .next ((s.onJumbe (.tc c) (fun j => j.takes e)).takeException (.tc c) e.1 e.2) := by
    show execQsync _ _ _ = _
    unfold execQsync
    rw [ctlInstr_tc hon (ready_nil _)]
    dsimp only
    rw [if_neg (by omega), hfirst]
    rfl
  have hmem : ((s.onJumbe (.tc c) (fun j => j.takes e)).takeException (.tc c) e.1 e.2).mem = s.mem :=
    (takeAt_mem _ _ _ _ _).trans (onJumbe_mem s _ _)
  obtain ⟨handler, h⟩ := jumbe_takeException (s.onJumbe (.tc c) (fun j => j.takes e)) (.tc c) e.1 e.2
  rw [jumbe_onJumbe_same] at h
  generalize (s.onJumbe (.tc c) (fun j => j.takes e)).takeException (.tc c) e.1 e.2 = t at hexec hmem h
  exact ⟨t, hexec, congrArg Jumbe.causeCode h, congrArg Jumbe.causeQueue h, congrArg Jumbe.inHandler h, congrArg Jumbe.epc h, hmem⟩

theorem exec_qsync_illegal (hon : s.coreOn (.tc c) = true) (hmask : 8 ≤ mask) : exec (.qsync (.tc c) mask) s = .next (s.illegal (.tc c)) := by
  show execQsync _ _ _ = _
  unfold execQsync
  rw [ctlInstr_tc hon (ready_nil _)]
  exact congrArg _ (if_pos hmask)

/-! A read into an integer register. -/

variable {xd xs f a : Nat} {v : Word}

/-- A control core that takes a value into a register and moves on. -/
def State.loadsX (s : State) (c xd : Nat) (v : Word) : State := s.retireInstr (.tc c) (fun j => j.setX xd v)

theorem jumbe_loadsX : (s.loadsX c xd v).jumbe (.tc c) =
    ((s.jumbe (.tc c)).setX xd v).goes (((s.jumbe (.tc c)).setX xd v).pc + 4) := by
  unfold State.loadsX State.retireInstr
  rw [jumbe_stepPc, jumbe_onJumbe_same]

theorem loadsX_mem : (s.loadsX c xd v).mem = s.mem := (stepPc_mem _ _).trans (onJumbe_mem s _ _)

theorem xr_loadsX (r : Nat) : ((s.loadsX c xd v).tcore c).cc.xr r =
    if r % 32 = xd % 32 then (if xd % 32 = 0 then 0 else v) else (s.tcore c).cc.xr r :=
  (congrArg (Jumbe.xr · r) jumbe_loadsX).trans (xr_setX _ _ _ _)

theorem setX_pc (j : Jumbe) : (j.setX xd v).pc = j.pc := by
  unfold Jumbe.setX
  split <;> rfl

theorem pc_loadsX : ((s.loadsX c xd v).tcore c).cc.pc = (s.tcore c).cc.pc + 4 :=
  (congrArg Jumbe.pc jumbe_loadsX).trans (congrArg (· + 4) (setX_pc _))

theorem queueOf_loadsX (q : EngineQ) : (s.loadsX c xd v).queueOf c q = s.queueOf c q :=
  (queueOf_stepPc _ _ _).trans (queueOf_onJumbe s _ _ _)

/-- The number that QDEPTH names a queue by (R233). -/
def queueFunc (q : EngineQ) : Nat := match q with | .me => 0 | .ve => 1 | .fe => 2

theorem exec_qdepth (q : EngineQ) (hon : s.coreOn (.tc c) = true) :
    exec (.qdepth (.tc c) xd (queueFunc q)) s = .next (s.loadsX c xd (BitVec.ofNat 64 (s.queueOf c q).length)) := by
  show execQdepth _ _ _ _ = _
  unfold execQdepth
  rw [ctlInstr_tc hon (ready_nil _)]
  cases q <;> rfl

theorem exec_srget (hon : s.coreOn (.tc c) = true) (hreg : srReg c f = some a) :
    exec (.srget (.tc c) xd f) s = .next (s.loadsX c xd (s.reg a)) := by
  show execSrget _ _ _ _ = _
  unfold execSrget
  rw [ctlInstr_tc hon (ready_nil _), hreg]
  rfl

/-! The seed and the counter. -/

theorem srReg_none (h : 3 ≤ f) : srReg c f = none := by
  match f, h with
  | _ + 3, _ => rfl

/-- The seed and the counter are not among the registers that a stepping core shows. -/
theorem srReg_apart (h : srReg c f = some a) : a ≠ A.TC_CC_PC c ∧ a ≠ A.TC_CC_STATUS c := by
  unfold srReg at h
  split at h <;> simp only [Option.some.injEq, reduceCtorEq] at h
  all_goals
    subst h
    constructor <;> simp only [A.TC_NUM_SEED_LO, A.TC_NUM_SEED_HI, A.TC_NUM_SR_CTR, A.TC_CC_PC, A.TC_CC_STATUS] <;> omega

theorem reg_loadsX (hreg : srReg c f = some a) : (s.loadsX c xd v).reg a = s.reg a :=
  (reg_stepPc _ (srReg_apart hreg).1 (srReg_apart hreg).2).trans (onJumbe_reg s _ _ _)

theorem exec_srput (hon : s.coreOn (.tc c) = true) (hready : (s.tcore c).cc.ready [.x xs] = true) :
    exec (.srput (.tc c) xs f) s = .next (match srReg c f with
      | none => s.illegal (.tc c)
      | some a => if (s.queueOf c .me).isEmpty && (s.queueOf c .ve).isEmpty then
          (s.setReg a ((s.tcore c).cc.xr xs)).stepPc (.tc c) else s) := by
  show execSrput _ _ _ _ = _
  unfold execSrput
  rw [ctlInstr_tc hon hready]
  rfl

theorem srput_writes (hon : s.coreOn (.tc c) = true) (hreg : srReg c f = some a) (hready : (s.tcore c).cc.ready [.x xs] = true)
    (hme : s.queueOf c .me = []) (hve : s.queueOf c .ve = []) :
    ∃ t, exec (.srput (.tc c) xs f) s = .next t ∧ t.reg a = (s.tcore c).cc.xr xs ∧ (t.tcore c).cc.pc = (s.tcore c).cc.pc + 4 ∧
      (t.tcore c).cc.x = (s.tcore c).cc.x ∧ t.mem = s.mem := by
  have hexec : exec (.srput (.tc c) xs f) s = .next ((s.setReg a ((s.tcore c).cc.xr xs)).stepPc (.tc c)) := by
    rw [exec_srput hon hready, hreg, hme, hve]
    rfl
  have hjumbe := jumbe_stepPc (s.setReg a ((s.tcore c).cc.xr xs)) (.tc c)
  rw [jumbe_setReg] at hjumbe
  have hx := congrArg Jumbe.x hjumbe
  exact ⟨_, hexec, (reg_stepPc _ (srReg_apart hreg).1 (srReg_apart hreg).2).trans (reg_setReg_same _ _ _), congrArg Jumbe.pc hjumbe,
    hx, stepPc_mem _ _⟩

theorem srput_waits (hon : s.coreOn (.tc c) = true) (hreg : srReg c f = some a) (hready : (s.tcore c).cc.ready [.x xs] = true)
    (hqueued : s.queueOf c .me ≠ [] ∨ s.queueOf c .ve ≠ []) : exec (.srput (.tc c) xs f) s = .next s := by
  rw [exec_srput hon hready, hreg]
  refine congrArg _ (if_neg ?_)
  rw [Bool.and_eq_true, List.isEmpty_iff, List.isEmpty_iff]
  exact fun h => hqueued.elim (fun hme => hme h.1) (fun hve => hve h.2)

/-- A func that names nothing is illegal (R213, R233). -/
theorem func_illegal (hon : s.coreOn (.tc c) = true) (hf : 3 ≤ f) :
    exec (.qdepth (.tc c) xd f) s = .next (s.illegal (.tc c)) ∧ exec (.srget (.tc c) xd f) s = .next (s.illegal (.tc c)) ∧
      ((s.tcore c).cc.ready [.x xd] = true → exec (.srput (.tc c) xd f) s = .next (s.illegal (.tc c))) := by
  refine ⟨?_, ?_, fun hready => ?_⟩
  · show execQdepth _ _ _ _ = _
    unfold execQdepth
    rw [ctlInstr_tc hon (ready_nil _)]
    match f, hf with
    | _ + 3, _ => rfl
  · show execSrget _ _ _ _ = _
    unfold execSrget
    rw [ctlInstr_tc hon (ready_nil _), srReg_none hf]
  · rw [exec_srput hon hready, srReg_none hf]

/-- A P core implements none of the four (R213). -/
theorem queueReads_pc {p x : Nat} (hon : s.coreOn (.pc p) = true) {cmd : Instr}
    (hcmd : cmd ∈ [Instr.qsync (.pc p) f, .qdepth (.pc p) x f, .srget (.pc p) x f, .srput (.pc p) x f]) :
    exec cmd s = .next (s.illegal (.pc p)) := by
  simp only [List.mem_cons, List.not_mem_nil, or_false] at hcmd
  obtain rfl | rfl | rfl | rfl := hcmd
  · show execQsync _ _ _ = _
    exact ctlInstr_pc hon
  · show execQdepth _ _ _ _ = _
    exact ctlInstr_pc hon
  · show execSrget _ _ _ _ = _
    exact ctlInstr_pc hon
  · show execSrput _ _ _ _ = _
    exact ctlInstr_pc hon

end

/-- Settles O18: each instruction by its equation; a P core by the frame that all four share. -/
theorem queueReads : Obligations.QueueReads := by
  unfold Obligations.QueueReads
  intro traps
  refine ⟨fun c mask s hon => ⟨fun hmask hnone => ⟨qsync_idle hon hmask hnone, qsync_busy hon hmask hnone⟩,
      fun e rest hmask hfirst => qsync_exception hon hmask hfirst, fun hmask => ⟨_, exec_qsync_illegal hon hmask, illegal_traps s _⟩⟩,
    fun c xd q s hon => ⟨_, exec_qdepth q hon, (xr_loadsX xd).trans (if_pos rfl), fun r hr => (xr_loadsX r).trans (if_neg hr), pc_loadsX,
      queueOf_loadsX, loadsX_mem⟩,
    fun c xd f a s hon hreg => ⟨_, exec_srget hon hreg, (xr_loadsX xd).trans (if_pos rfl), fun r hr => (xr_loadsX r).trans (if_neg hr),
      pc_loadsX, reg_loadsX hreg, loadsX_mem⟩,
    fun c x f s hon hf => ?_, fun c xs f a s hon hreg hready => ⟨srput_writes hon hreg hready, srput_waits hon hreg hready⟩,
    fun p x f s hon cmd hcmd => ⟨_, queueReads_pc hon hcmd, illegal_traps s _⟩⟩
  obtain ⟨hdepth, hget, hput⟩ := func_illegal (xd := x) hon hf
  exact ⟨⟨_, hdepth, illegal_traps s _⟩, ⟨_, hget, illegal_traps s _⟩, fun hready => ⟨_, hput hready, illegal_traps s _⟩⟩

end Sys2Proof.Machine

/-! What drains leave of the accumulator file, and where their rows go (R104, R145 to R147, R160). -/
namespace Sys2Proof.Machine

/-! Queues and engines. -/

section
variable (s : State) (c : Nat)

@[simp] theorem popQueue_mem (q : EngineQ) : (s.popQueue c q).mem = s.mem := by cases q <;> rfl

@[simp] theorem popQueue_regs (q : EngineQ) : (s.popQueue c q).regs = s.regs := by cases q <;> rfl

theorem fget_congr {s t : State} (h : t.regs = s.regs) (f : Fld) : t.fget f = s.fget f := by
  unfold State.fget State.reg
  rw [h]

theorem byte_congr {s t : State} (h : t.mem = s.mem) (a : Nat) : t.byte a = s.byte a := by
  unfold State.byte
  rw [h]

@[simp] theorem fget_popQueue (q : EngineQ) (f : Fld) : (s.popQueue c q).fget f = s.fget f := fget_congr (popQueue_regs s c q) f

theorem me_onMe (f : MeState → MeState) : ((s.onMe c f).tcore c).me = f (s.tcore c).me := congrArg TCore.me (State.tcore_onMe_same s c f)

/-- A matrix engine without the instruction at the head of its queue. -/
def MeState.popped (m : MeState) : MeState := { m with queue := m.queue.drop 1 }

theorem me_popQueue : ((s.popQueue c .me).tcore c).me = (s.tcore c).me.popped := me_onMe s c _

theorem me_onJumbe (f : Jumbe → Jumbe) : ((s.onJumbe (.tc c) f).tcore c).me = (s.tcore c).me := by
  rw [tcore_onJumbe]

@[simp] theorem onJumbe_regs (u : CoreId) (f : Jumbe → Jumbe) : (s.onJumbe u f).regs = s.regs := by cases u <;> rfl

@[simp] theorem clearPoison_mem (a n : Nat) : (s.clearPoison a n).mem = s.mem := rfl

@[simp] theorem advanceSr_mem (ctl n : Nat) : (s.advanceSr c ctl n).mem = s.mem := by
  unfold State.advanceSr
  split <;> rfl

@[simp] theorem advanceSr_tcores (ctl n : Nat) : (s.advanceSr c ctl n).tcores = s.tcores := by
  unfold State.advanceSr
  split <;> rfl

/-- A byte of a scratchpad after a store by its own engines. -/
theorem byte_storePad_at (off : Nat) (bs : List Byte) {i : Nat} (h : i < bs.length) : (s.storePad c off bs).byte (padBase c + off + i) = bs.getD i 0 :=
  byte_write_at s _ i bs h

theorem byte_storePad_outside (off : Nat) (bs : List Byte) {a : Nat} (h : a < padBase c + off ∨ padBase c + off + bs.length ≤ a) :
    (s.storePad c off bs).byte a = s.byte a := byte_write_outside s _ a bs h

end

/-! Entries that a drain covers (R145). -/

section
variable (m : MeArray) (mode rows cols : Nat)

theorem emptied_entries : (m.emptied mode rows cols).entries =
    m.entries.filter (fun e => !(decide (e.1 / 4096 < rows) && decide (e.1 % 4096 < cols))) := by
  unfold MeArray.emptied
  dsimp only
  split <;> rfl

theorem entry_emptied (r : Nat) {n : Nat} (hn : n < 4096) :
    (m.emptied mode rows cols).entry r n = if r < rows ∧ n < cols then AccEntry.empty else m.entry r n := by
  have hrow : (r * 4096 + n) / 4096 = r := by omega
  have hcol : (r * 4096 + n) % 4096 = n := by omega
  unfold MeArray.entry
  rw [emptied_entries, assocGet_filter_key _ _ (fun k => !(decide (k / 4096 < rows) && decide (k % 4096 < cols))), hrow, hcol]
  by_cases h : r < rows ∧ n < cols
  · rw [if_pos h, if_neg (by simp [h])]
  · rw [if_neg h, if_pos (by rw [Bool.not_eq_true', ← Bool.decide_and]; exact decide_eq_false h)]

theorem entry_emptied_covered {r n : Nat} (hn : n < 4096) (hrow : r < rows) (hcol : n < cols) :
    (m.emptied mode rows cols).entry r n = AccEntry.empty := by rw [entry_emptied m mode rows cols r hn, if_pos ⟨hrow, hcol⟩]

theorem entry_emptied_stays {r n : Nat} (hn : n < 4096) (h : rows ≤ r ∨ cols ≤ n) :
    (m.emptied mode rows cols).entry r n = m.entry r n := by rw [entry_emptied m mode rows cols r hn, if_neg (by omega)]

/-- Without errors nothing is struck. -/
theorem struck_nil : m.struck [] = m := by
  have hmap (f : Nat → List ErrVal) (hf : ∀ k, f k = []) (l : Assoc AccEntry) :
      l.map (fun e => (e.1, e.2.struckAll m.isWide (f e.1))) = l := by
    simp only [hf, AccEntry.struckAll, List.foldl_nil, Prod.mk.eta, List.map_id']
  unfold MeArray.struck
  rw [hmap (fun k => entryErrs [] (k / 4096) (k % 4096)) (fun _ => rfl), hmap (laneEntryErrs []) (fun _ => rfl)]

end

/-! DRAIN on the row at the head of the queue. -/

section
variable {s : State} {c : Nat} {q : Quad}

/-- The matrix engine's array is put back as it stands. -/
def State.sameMe (s : State) (c : Nat) : State := s.onMe c (fun m => { m with toMeArray := (s.tcore c).me.toMeArray })

theorem me_sameMe : ((s.sameMe c).tcore c).me = (s.tcore c).me := me_onMe s c _

/-- An instruction that meets no refusal, with no drained row in its way, starts (R161 to R164). -/
theorem startMe_starts {op : Nat} {check : Quad → Option Nat} {go : Quad → State} (hhead : s.atHead c .me op = some q)
    (hve : (s.tcore c).me.toVe = none) (hcheck : check q = none) : s.startMe c op check go = .next (go q) := by
  unfold State.startMe
  rw [hhead]
  dsimp only
  rw [hve, Option.isSome_none, Bool.and_false, if_neg Bool.false_ne_true, hcheck]

theorem drainRounder_nil : drainRounder q [] = none := by
  unfold drainRounder
  split <;> rfl

/-- Where the DRAIN's rows go, for the record of a failure. -/
def drainDst (q : Quad) : Option Nat := if meToVe q || meDiscard q then some 0 else some (meSrc q)

theorem exec_drain (hhead : s.atHead c .me 0x04 = some q) (hcheck : s.drainCheck c q = none) (hve : (s.tcore c).me.toVe = none) :
    exec (.drain c []) s = .next (
      if (s.tcore c).me.poisoned then ((s.sameMe c).poisonDrain c q).popQueue c .me
      else match (s.tcore c).me.toMeArray.drainFind (s.meMode c) (meDRows q) (meDCols q) with
        | some i => (s.sameMe c).mismatch c 2 i none (drainDst q) (some q) (s.tcore c).me.replayLost
        | none => ((s.sameMe c).doDrain c q).popQueue c .me) := by
  have hacting : actingErrors (s.colsInUse c) [] [] = [] := rfl
  show execDrain _ _ _ = _
  unfold execDrain
  rw [startMe_starts hhead hve hcheck]
  simp only [hacting, struck_nil, drainRounder_nil]
  cases (s.tcore c).me.toMeArray.drainFind (s.meMode c) (meDRows q) (meDCols q) <;> rfl

/-! What a DRAIN delivers. -/

/-- The rounded outputs of one row. -/
theorem drainOutputs_row (hfmt : meFmt q ≠ fmtRaw) (hrows : meDRows q = 1) (outScale ctr : Nat) :
    (s.drainOutputs c q outScale ctr).1 = (List.range (meDCols q)).map (fun i =>
      (((s.tcore c).me.entry 0 i).drain (s.tcore c).me.isWide (meFmt q) (meScale q) (if meScale q % 8 = 4 then s.drawAt c ctr i else 0)
        ((outScale : Int) - 127)).1) := by
  unfold State.drainOutputs
  dsimp only
  rw [hrows, Nat.one_mul, List.map_map]
  refine List.map_congr_left (fun i hi => ?_)
  have hi := List.mem_range.1 hi
  dsimp only [Function.comp_apply]
  rw [if_neg hfmt, Nat.div_eq_of_lt hi, Nat.mod_eq_of_lt hi]

/-- The outputs that a DRAIN issued now rounds. -/
def State.drainNow (s : State) (c : Nat) (q : Quad) : List Nat × Flags :=
  s.drainOutputs c q (s.fget (R.TC_ME_STATUS.out_scale c)) (s.fget (R.TC_NUM_SR_CTR.sr_ctr c))

/-- The flags of a rounded DRAIN are raised, and the draws it takes are counted. -/
def State.drainIssued (s : State) (c : Nat) (q : Quad) : State :=
  (s.meFlags c (s.drainNow c q).2).advanceSr c (meScale q) (meDRows q * meDCols q)

/-- A rounded DRAIN of one row stores it. -/
theorem doDrain_row (hfmt : meFmt q ≠ fmtRaw) (hrows : meDRows q = 1) (hdiscard : meDiscard q = false) (hve : meToVe q = false) :
    s.doDrain c q = ((s.drainIssued c q).storePad c (meSrc q) (packElems (meFmt q) (s.drainNow c q).1)).onMe c
      (fun m => m.emptied (s.meMode c) 1 (meDCols q)) := by
  have hlength : (s.drainNow c q).1.length = meDCols q := by
    unfold State.drainNow
    rw [drainOutputs_row hfmt hrows, List.length_map, List.length_range]
  have hrow : drainRow q (s.tcore c).me.isWide (s.drainNow c q).1 0 = packElems (meFmt q) (s.drainNow c q).1 := by
    unfold drainRow
    dsimp only
    rw [if_neg hfmt, Nat.zero_mul, List.drop_zero, List.take_of_length_le (Nat.le_of_eq hlength)]
  unfold State.doDrain
  dsimp only
  rw [hdiscard, hve, if_neg Bool.false_ne_true, if_neg Bool.false_ne_true, if_neg hfmt, ← hrow]
  simp only [State.drainIssued, State.drainNow, hrows, List.range_one, List.foldl_cons, List.foldl_nil, Nat.zero_mul, Nat.add_zero]

theorem drainIssued_mem : (s.drainIssued c q).mem = s.mem := advanceSr_mem _ _ _ _

theorem me_drainIssued : ((s.drainIssued c q).tcore c).me = (s.tcore c).me := by
  unfold State.tcore State.drainIssued
  rw [advanceSr_tcores]
  rfl

theorem doDrain_discard (h : meDiscard q = true) :
    s.doDrain c q = s.onMe c (fun m => m.emptied (s.meMode c) (meDRows q) (meDCols q)) := by
  unfold State.doDrain
  dsimp only
  rw [h, if_pos rfl]

/-! The record of a failure (R190). -/

theorem fget_pxRecord_valid (check index : Nat) (col dst : Option Nat) : (s.pxRecord c check index col dst).fget (R.TC_PX_FAIL.valid c) = 1 := by
  unfold State.pxRecord
  iterate 6 rw [fget_fset_of_apart _ _ _ _ rfl]
  rw [fget_fset_self _ _ _ rfl]
  rfl

theorem fget_pxRecord_check (check index : Nat) (col dst : Option Nat) :
    (s.pxRecord c check index col dst).fget (R.TC_PX_FAIL.check c) = check % 8 := by
  unfold State.pxRecord
  iterate 5 rw [fget_fset_of_apart _ _ _ _ rfl]
  rw [fget_fset_self _ _ _ rfl]
  rfl

theorem pxRecord_mem (check index : Nat) (col dst : Option Nat) : (s.pxRecord c check index col dst).mem = s.mem := by
  simp only [State.pxRecord, State.fset_mem]

theorem tcore_pxRecord (check index : Nat) (col dst : Option Nat) (d : Nat) : (s.pxRecord c check index col dst).tcore d = s.tcore d := by
  simp only [State.pxRecord, tcore_fset]

/-! An exception that waits (R238). -/

theorem pend_mem (u : CoreId) (code queue : Nat) : (s.pend u code queue).mem = s.mem := onJumbe_mem s u _

theorem fget_pend (u : CoreId) (code queue : Nat) (f : Fld) : (s.pend u code queue).fget f = s.fget f := fget_congr (onJumbe_regs s u _) f

theorem me_pend (code queue : Nat) : ((s.pend (.tc c) code queue).tcore c).me = (s.tcore c).me := me_onJumbe s c _

/-! A sequence starts (R173, R174). -/

/-- The sequence that a failed check starts. -/
def PxSeq.first (check index : Nat) (col dst : Option Nat) : PxSeq :=
  { check := check, index := index % 1024, phase := 0, cand := col.toList, half := [], allPassed := true, dst := dst, saved := none,
    savedTile := none }

def State.startsPx (s : State) (c check index : Nat) (col dst : Option Nat) : State :=
  s.onMe c (fun m => { m with px := some (PxSeq.first check index col dst) })

theorem mismatch_starts {check index : Nat} {col dst : Option Nat} {drain : Option Quad} {lost : Bool}
    (hreplay : s.fon (R.TC_PX_CTL.replay_off c) = false) (hlost : lost = false) :
    s.mismatch c check index col dst drain lost = s.startsPx c check index col dst := by
  unfold State.mismatch
  rw [hreplay, hlost, Bool.false_or, Bool.and_false, if_neg Bool.false_ne_true]
  rfl

/-! The DRAIN's outcomes. -/

variable (hhead : s.atHead c .me 0x04 = some q) (hcheck : s.drainCheck c q = none) (hve : (s.tcore c).me.toVe = none)
include hhead hcheck hve

/-- What the DRAIN of one row finds in the scratchpad after it (R104, R147). -/
def State.drainedRow (s : State) (c : Nat) (q : Quad) : List Byte :=
  packElems (meFmt q) ((List.range (meDCols q)).map (fun i =>
    (((s.tcore c).me.entry 0 i).drain (s.tcore c).me.isWide (meFmt q) (meScale q) (if meScale q % 8 = 4 then s.draw c i else 0)
      ((s.fget (R.TC_ME_STATUS.out_scale c) : Int) - 127)).1))

theorem drain_row (hpoison : (s.tcore c).me.poisoned = false)
    (hfind : (s.tcore c).me.toMeArray.drainFind (s.meMode c) (meDRows q) (meDCols q) = none)
    (hdiscard : meDiscard q = false) (htoVe : meToVe q = false) (hfmt : meFmt q ≠ fmtRaw) (hrows : meDRows q = 1) :
    ∃ t, exec (.drain c []) s = .next t ∧
      (∀ i, i < (s.drainedRow c q).length → t.byte (padBase c + meSrc q + i) = (s.drainedRow c q).getD i 0) ∧
      (∀ a, (a < padBase c + meSrc q ∨ padBase c + meSrc q + (s.drainedRow c q).length ≤ a) → t.byte a = s.byte a) ∧
      (∀ n, n < meDCols q → n < 4096 → (t.tcore c).me.entry 0 n = AccEntry.empty) ∧
      (∀ r n, n < 4096 → (1 ≤ r ∨ meDCols q ≤ n) → (t.tcore c).me.entry r n = (s.tcore c).me.entry r n) ∧
      t.queueOf c .me = (s.queueOf c .me).drop 1 := by
  have hrow : packElems (meFmt q) ((s.sameMe c).drainNow c q).1 = s.drainedRow c q := by
    unfold State.drainNow
    rw [drainOutputs_row hfmt hrows, me_sameMe]
    rfl
  have hmem : ((s.sameMe c).drainIssued c q).mem = s.mem := drainIssued_mem
  rw [exec_drain hhead hcheck hve, if_neg (by simp [hpoison]), hfind]
  dsimp only
  rw [doDrain_row hfmt hrows hdiscard htoVe, hrow]
  generalize htaken : (((s.sameMe c).drainIssued c q).storePad c (meSrc q) (s.drainedRow c q)).onMe c _ = u
  have hme : (u.tcore c).me = (s.tcore c).me.emptied ((s.sameMe c).meMode c) 1 (meDCols q) := by
    rw [← htaken, me_onMe]
    exact congrArg (fun m => MeState.emptied m _ 1 (meDCols q)) (me_drainIssued.trans me_sameMe)
  have hbyte (a : Nat) : (u.popQueue c .me).byte a = (((s.sameMe c).drainIssued c q).storePad c (meSrc q) (s.drainedRow c q)).byte a := by
    rw [← htaken]
    rfl
  have hpopped := me_popQueue u c
  rw [hme] at hpopped
  refine ⟨_, rfl, fun i hi => (hbyte _).trans (byte_storePad_at _ _ _ _ hi),
    fun a ha => ((hbyte a).trans (byte_storePad_outside _ _ _ _ ha)).trans (byte_congr hmem a), fun n hn hlt => ?_, fun r n hn h => ?_, ?_⟩
  · rw [hpopped]
    exact entry_emptied_covered _ _ _ _ hlt Nat.one_pos hn
  · rw [hpopped]
    exact entry_emptied_stays _ _ _ _ hn h
  · show ((u.popQueue c .me).tcore c).me.queue = _
    rw [hpopped]
    rfl

theorem drain_discard (hpoison : (s.tcore c).me.poisoned = false)
    (hfind : (s.tcore c).me.toMeArray.drainFind (s.meMode c) (meDRows q) (meDCols q) = none) (hdiscard : meDiscard q = true) :
    ∃ t, exec (.drain c []) s = .next t ∧ t.mem = s.mem ∧ t.regs = s.regs ∧
      (∀ r n, r < meDRows q → n < meDCols q → n < 4096 → (t.tcore c).me.entry r n = AccEntry.empty) ∧
      t.queueOf c .me = (s.queueOf c .me).drop 1 := by
  rw [exec_drain hhead hcheck hve, if_neg (by simp [hpoison]), hfind]
  dsimp only
  rw [doDrain_discard hdiscard]
  have hme := me_popQueue ((s.sameMe c).onMe c (fun m => m.emptied ((s.sameMe c).meMode c) (meDRows q) (meDCols q))) c
  rw [me_onMe, me_sameMe] at hme
  refine ⟨_, rfl, popQueue_mem _ c .me, popQueue_regs _ c .me, fun r n hr hn hlt => ?_, ?_⟩
  · rw [hme]
    exact entry_emptied_covered _ _ _ _ hlt hr hn
  · exact congrArg MeState.queue hme

theorem drain_mismatch {i : Nat} (hpoison : (s.tcore c).me.poisoned = false)
    (hfind : (s.tcore c).me.toMeArray.drainFind (s.meMode c) (meDRows q) (meDCols q) = some i)
    (hreplay : s.fget (R.TC_PX_CTL.replay_off c) = 0) (hlost : (s.tcore c).me.replayLost = false) :
    ∃ t x, exec (.drain c []) s = .next t ∧ (t.tcore c).me.px = some x ∧ x.check = 2 ∧ x.index = i % 1024 ∧ x.phase = 0 ∧
      t.queueOf c .me = s.queueOf c .me ∧ t.mem = s.mem ∧ t.regs = s.regs := by
  have hon : (s.sameMe c).fon (R.TC_PX_CTL.replay_off c) = false := fon_of_fget_zero hreplay
  rw [exec_drain hhead hcheck hve, if_neg (by simp [hpoison]), hfind]
  dsimp only
  rw [mismatch_starts hon hlost]
  have hme : (((s.sameMe c).startsPx c 2 i none (drainDst q)).tcore c).me = _ := me_onMe (s.sameMe c) c _
  rw [me_sameMe] at hme
  have hqueue := congrArg MeState.queue hme
  exact ⟨_, _, rfl, congrArg MeState.px hme, rfl, rfl, rfl, hqueue, rfl, rfl⟩

theorem drain_poisoned (hpoison : (s.tcore c).me.poisoned = true) :
    ∃ t, exec (.drain c []) s = .next t ∧ t.mem = s.mem ∧ t.fget (R.TC_PX_FAIL.valid c) = 1 ∧ t.fget (R.TC_PX_FAIL.check c) = 6 ∧
      (∀ r n, r < meDRows q → n < meDCols q → n < 4096 → (t.tcore c).me.entry r n = AccEntry.empty) ∧
      t.queueOf c .me = (s.queueOf c .me).drop 1 := by
  rw [exec_drain hhead hcheck hve, if_pos hpoison]
  have hme : ((((s.sameMe c).poisonDrain c q).popQueue c .me).tcore c).me =
      ((s.tcore c).me.emptied ((s.sameMe c).meMode c) (meDRows q) (meDCols q)).popped := by
    unfold State.poisonDrain
    rw [me_popQueue, me_pend, tcore_pxRecord, me_onMe, me_sameMe]
  refine ⟨_, rfl, ?_, ?_, ?_, fun r n hr hn hlt => ?_, congrArg MeState.queue hme⟩
  · rw [popQueue_mem, State.poisonDrain, pend_mem, pxRecord_mem]
    rfl
  · rw [fget_popQueue, State.poisonDrain, fget_pend, fget_pxRecord_valid]
  · rw [fget_popQueue, State.poisonDrain, fget_pend, fget_pxRecord_check]
  · rw [hme]
    exact entry_emptied_covered _ _ _ _ hlt hr hn

end

/-- Settles O22: one row stored, a discard, a mismatch and a poisoned tile, each by its lemma about the DRAIN at the head. -/
theorem drainWritesAndEmpties : Obligations.DrainWritesAndEmpties := by
  unfold Obligations.DrainWritesAndEmpties
  exact ⟨fun c s q hhead hcheck hpoison hve hfind hdiscard htoVe hfmt hrows =>
      drain_row hhead hcheck hve hpoison hfind hdiscard htoVe hfmt hrows,
    fun c s q hhead hcheck hpoison hve hfind hdiscard => drain_discard hhead hcheck hve hpoison hfind hdiscard,
    fun c i s q hhead hcheck hpoison hve hfind hreplay hlost => drain_mismatch hhead hcheck hve hpoison hfind hreplay hlost,
    fun c s q hhead hcheck hpoison hve => drain_poisoned hhead hcheck hve hpoison⟩

end Sys2Proof.Machine

/-! Fields of a number that are replaced, and elements of vector registers (R192). -/
namespace Sys2Proof.Machine

/-! Fields of a number. -/

/-- A number with the field of `width` bits at `lo` replaced. -/
def putFld (n lo width x : Nat) : Nat := n - fld n lo width * 2 ^ lo + x % 2 ^ width * 2 ^ lo

theorem testBit_fld (n lo width i : Nat) : (fld n lo width).testBit i = (decide (i < width) && n.testBit (lo + i)) := by
  unfold fld
  rw [Nat.testBit_mod_two_pow, Nat.testBit_div_two_pow, Nat.add_comm]

theorem fld_lt (n lo width : Nat) : fld n lo width < 2 ^ width := Nat.mod_lt _ (Nat.two_pow_pos _)

theorem testBit_putFld (n lo width x i : Nat) :
    (putFld n lo width x).testBit i = if lo ≤ i ∧ i < lo + width then x.testBit (i - lo) else n.testBit i := by
  have hlow : n % 2 ^ lo < 2 ^ lo := Nat.mod_lt _ (Nat.two_pow_pos _)
  have hn : n = 2 ^ lo * (2 ^ width * (n / 2 ^ lo / 2 ^ width) + fld n lo width) + n % 2 ^ lo := by
    unfold fld
    rw [Nat.div_add_mod, Nat.div_add_mod]
  have hput : putFld n lo width x = 2 ^ lo * (2 ^ width * (n / 2 ^ lo / 2 ^ width) + x % 2 ^ width) + n % 2 ^ lo := by
    unfold putFld
    rw [Nat.mul_add] at hn ⊢
    rw [Nat.mul_comm (fld n lo width), Nat.mul_comm (x % 2 ^ width)]
    omega
  rw [hput, Nat.testBit_two_pow_mul_add _ hlow, Nat.testBit_two_pow_mul_add _ (Nat.mod_lt _ (Nat.two_pow_pos _))]
  by_cases h1 : i < lo
  · rw [if_pos h1, if_neg (by omega), Nat.testBit_mod_two_pow, decide_eq_true h1, Bool.true_and]
  · rw [if_neg h1]
    by_cases h2 : i - lo < width
    · rw [if_pos h2, if_pos (by omega), Nat.testBit_mod_two_pow, decide_eq_true h2, Bool.true_and]
    · rw [if_neg h2, if_neg (by omega), Nat.testBit_div_two_pow, Nat.testBit_div_two_pow]
      congr 1
      omega

theorem putFld_lt {n lo width x m : Nat} (hn : n < 2 ^ m) (h : lo + width ≤ m) : putFld n lo width x < 2 ^ m := by
  refine Nat.lt_pow_two_of_testBit _ (fun i hi => ?_)
  rw [testBit_putFld, if_neg (by omega)]
  exact Nat.testBit_lt_two_pow (Nat.lt_of_lt_of_le hn (Nat.pow_le_pow_right (by decide) hi))

theorem fld_putFld_same (n lo width x : Nat) : fld (putFld n lo width x) lo width = x % 2 ^ width := by
  refine Nat.eq_of_testBit_eq (fun i => ?_)
  rw [testBit_fld, testBit_putFld, Nat.testBit_mod_two_pow, Nat.add_sub_cancel_left]
  by_cases h : i < width
  · rw [if_pos (by omega)]
  · rw [decide_eq_false h, Bool.false_and, Bool.false_and]

theorem fld_putFld_apart {n lo width x lo' width' : Nat} (h : lo' + width' ≤ lo ∨ lo + width ≤ lo') :
    fld (putFld n lo width x) lo' width' = fld n lo' width' := by
  refine Nat.eq_of_testBit_eq (fun i => ?_)
  rw [testBit_fld, testBit_fld, testBit_putFld]
  by_cases hi : i < width'
  · rw [if_neg (by omega)]
  · rw [decide_eq_false hi, Bool.false_and, Bool.false_and]

/-! Elements of a register. -/

/-- The widths of the elements that a vector engine computes on (R195). -/
def LaneBits (b : Nat) : Prop := b = 64 ∨ b = 32 ∨ b = 16 ∨ b = 8

theorem laneBits_of_veFmtOk {f : Nat} (h : veFmtOk f = true) : LaneBits (fmtBits f) := by
  have hle : f ≤ 0x12 := by
    simp only [veFmtOk, Bool.or_eq_true, decide_eq_true_eq] at h
    omega
  revert h
  unfold LaneBits
  interval_cases f <;> decide

/-- What is written at `i`, where results are written in the order of their elements: a reading of element `i` that only the
write at `i` bears on changes as that write has it. -/
theorem foldl_range_reads {σ β : Type} {f : σ → Nat → σ} {g : σ → β} {h : β → β} {i : Nat} (hsame : ∀ v, g (f v i) = h (g v)) (n : Nat)
    (hother : ∀ v j, j < n → j ≠ i → g (f v j) = g v) (v : σ) :
    g ((List.range n).foldl f v) = if i < n then h (g v) else g v := by
  induction n with
  | zero => rfl
  | succ n ih =>
    have ih := ih (fun v j hj => hother v j (by omega))
    rw [List.range_succ, List.foldl_append, List.foldl_cons, List.foldl_nil]
    by_cases hi : n = i
    · rw [hi, hsame, ← hi, ih, if_neg (by omega), if_pos (by omega)]
    · rw [hother _ n (by omega) hi, ih]
      by_cases hlt : i < n
      · rw [if_pos hlt, if_pos (by omega)]
      · rw [if_neg hlt, if_neg (by omega)]

namespace VeState

variable (v : VeState)

/-- One 32-bit slot of a vector register. -/
def slot (r k : Nat) : Nat := (assocGet (fun _ => (0 : BitVec 32)) v.vregs (r * 4096 + k)).toNat

theorem slot_lt (r k : Nat) : v.slot r k < 2 ^ 32 := BitVec.isLt _

theorem slot_putSlot_same (r k x : Nat) : (v.putSlot r k x).slot r k = x % 2 ^ 32 := by
  unfold slot putSlot
  rw [assocGet_set_same, BitVec.toNat_ofNat]

theorem slot_putSlot_other {r k x r' k' : Nat} (h : r * 4096 + k ≠ r' * 4096 + k') : (v.putSlot r k x).slot r' k' = v.slot r' k' := by
  unfold slot putSlot
  rw [assocGet_set_other _ _ _ _ _ h]

theorem elem_64 {fmt : Nat} (h : fmtBits fmt = 64) (r i : Nat) : v.elem fmt r i = v.slot r (2 * i) + 2 ^ 32 * v.slot r (2 * i + 1) := if_pos h

theorem elem_narrow {fmt : Nat} (h : fmtBits fmt ≠ 64) (r i : Nat) :
    v.elem fmt r i = fld (v.slot r (i * fmtBits fmt / 32)) (i * fmtBits fmt % 32) (fmtBits fmt) := if_neg h

theorem putElem_64 {fmt : Nat} (h : fmtBits fmt = 64) (r i x : Nat) :
    v.putElem fmt r i x = (v.putSlot r (2 * i) (x % 2 ^ 32)).putSlot r (2 * i + 1) (x / 2 ^ 32) := if_pos h

theorem putElem_narrow {fmt : Nat} (h : fmtBits fmt ≠ 64) (r i x : Nat) :
    v.putElem fmt r i x = v.putSlot r (i * fmtBits fmt / 32)
      (putFld (v.slot r (i * fmtBits fmt / 32)) (i * fmtBits fmt % 32) (fmtBits fmt) x) := if_neg h

theorem elem_lt (fmt r i : Nat) : v.elem fmt r i < 2 ^ fmtBits fmt := by
  by_cases h : fmtBits fmt = 64
  · rw [elem_64 v h, h]
    have h0 := v.slot_lt r (2 * i)
    have h1 := v.slot_lt r (2 * i + 1)
    omega
  · rw [elem_narrow v h]
    exact fld_lt _ _ _

theorem elem_putElem_same {fmt : Nat} (h : LaneBits (fmtBits fmt)) (r i x : Nat) : (v.putElem fmt r i x).elem fmt r i = x % 2 ^ fmtBits fmt := by
  by_cases h64 : fmtBits fmt = 64
  · rw [putElem_64 v h64, elem_64 _ h64, slot_putSlot_same, slot_putSlot_other _ (by omega), slot_putSlot_same, h64]
    omega
  · have hfits : i * fmtBits fmt % 32 + fmtBits fmt ≤ 32 := by obtain h | h | h | h := h <;> rw [h] <;> omega
    rw [putElem_narrow v h64, elem_narrow _ h64, slot_putSlot_same, Nat.mod_eq_of_lt (putFld_lt (v.slot_lt _ _) hfits), fld_putFld_same]

/-- Writing one element leaves every other element of the register. -/
theorem elem_putElem_other {fmt : Nat} (h : LaneBits (fmtBits fmt)) (r x : Nat) {i j : Nat} (hij : i ≠ j) :
    (v.putElem fmt r i x).elem fmt r j = v.elem fmt r j := by
  by_cases h64 : fmtBits fmt = 64
  · rw [putElem_64 v h64, elem_64 _ h64, elem_64 _ h64]
    iterate 4 rw [slot_putSlot_other _ (by omega)]
  · rw [putElem_narrow v h64, elem_narrow _ h64, elem_narrow _ h64]
    by_cases hslot : i * fmtBits fmt / 32 = j * fmtBits fmt / 32
    · have hfits : i * fmtBits fmt % 32 + fmtBits fmt ≤ 32 := by obtain h | h | h | h := h <;> rw [h] <;> omega
      have hapart : j * fmtBits fmt % 32 + fmtBits fmt ≤ i * fmtBits fmt % 32 ∨ i * fmtBits fmt % 32 + fmtBits fmt ≤ j * fmtBits fmt % 32 := by
        obtain h | h | h | h := h <;> rw [h] at hslot ⊢ <;> omega
      rw [← hslot, slot_putSlot_same, Nat.mod_eq_of_lt (putFld_lt (v.slot_lt _ _) hfits), fld_putFld_apart hapart]
    · rw [slot_putSlot_other _ (by omega)]

/-- Writing an element of a register of 4,096 slots leaves the slots of the others. -/
theorem slot_putElem_other {fmt r i x r' k : Nat} (hr : r ≠ r') (hk : k < 4096)
    (hi : (if fmtBits fmt = 64 then 2 * i + 1 else i * fmtBits fmt / 32) < 4096) : (v.putElem fmt r i x).slot r' k = v.slot r' k := by
  by_cases h64 : fmtBits fmt = 64
  · rw [if_pos h64] at hi
    rw [putElem_64 v h64, slot_putSlot_other _ (by omega), slot_putSlot_other _ (by omega)]
  · rw [if_neg h64] at hi
    rw [putElem_narrow v h64, slot_putSlot_other _ (by omega)]

/-! Results written in turn. -/

/-- Results written to the elements of a register, absent ones left out. -/
def putEls (fmt r : Nat) (els : VeRes) (v : VeState) : VeState :=
  (List.range els.length).foldl (fun (v : VeState) i =>
    match (els[i]?).join with
    | some x => v.putElem fmt r i x.1
    | none => v) v

theorem elem_putEls {fmt : Nat} (h : LaneBits (fmtBits fmt)) (r : Nat) (els : VeRes) (i : Nat) :
    (v.putEls fmt r els).elem fmt r i = match (els[i]?).join with | some x => x.1 % 2 ^ fmtBits fmt | none => v.elem fmt r i := by
  have hsame (u : VeState) : (match (els[i]?).join with | some x => u.putElem fmt r i x.1 | none => u).elem fmt r i =
      match (els[i]?).join with | some x => x.1 % 2 ^ fmtBits fmt | none => u.elem fmt r i := by
    cases (els[i]?).join with
    | none => rfl
    | some x => exact u.elem_putElem_same h r i x.1
  have hother (u : VeState) (j : Nat) (_ : j < els.length) (hij : j ≠ i) :
      (match (els[j]?).join with | some x => u.putElem fmt r j x.1 | none => u).elem fmt r i = u.elem fmt r i := by
    cases (els[j]?).join with
    | none => rfl
    | some x => exact u.elem_putElem_other h r x.1 hij
  refine (foldl_range_reads (g := fun u => VeState.elem u fmt r i)
    (h := fun old => match (els[i]?).join with | some x => x.1 % 2 ^ fmtBits fmt | none => old) hsame _ hother v).trans ?_
  split
  · rfl
  · next hlt => rw [List.getElem?_eq_none (Nat.le_of_not_lt hlt)]; rfl

theorem slot_putEls_other {fmt r r' k : Nat} {els : VeRes} (hr : r ≠ r') (hk : k < 4096)
    (hlen : (if fmtBits fmt = 64 then 2 * els.length else (els.length * fmtBits fmt + 31) / 32) ≤ 4096) (hbits : LaneBits (fmtBits fmt)) :
    (v.putEls fmt r els).slot r' k = v.slot r' k := by
  refine (foldl_range_reads (g := fun u => VeState.slot u r' k) (h := id) (i := els.length) (fun u => ?_) _ (fun u j hj _ => ?_) v).trans
    (if_neg (Nat.lt_irrefl _))
  · rw [List.getElem?_eq_none (Nat.le_refl _)]
    rfl
  · cases (els[j]?).join with
    | none => rfl
    | some x =>
      refine u.slot_putElem_other hr hk ?_
      obtain h | h | h | h := hbits <;> rw [h] at hlen ⊢ <;> simp only [reduceIte, Nat.reduceEqDiff] at hlen ⊢ <;> omega

/-- A reading that the registers do not bear on is the same after results are written. -/
theorem putElem_reads {β : Type} (g : VeState → β) (hg : ∀ u r k x, g (VeState.putSlot u r k x) = g u) (fmt r i x : Nat) :
    g (v.putElem fmt r i x) = g v := by
  by_cases h64 : fmtBits fmt = 64
  · rw [putElem_64 v h64, hg, hg]
  · rw [putElem_narrow v h64, hg]

theorem putEls_reads {β : Type} (g : VeState → β) (hg : ∀ u r k x, g (VeState.putSlot u r k x) = g u) (fmt r : Nat) (els : VeRes) :
    g (v.putEls fmt r els) = g v := by
  refine (foldl_range_reads (g := g) (h := id) (i := els.length) (fun u => ?_) _ (fun u j _ _ => ?_) v).trans (if_neg (Nat.lt_irrefl _))
  · rw [List.getElem?_eq_none (Nat.le_refl _)]
    rfl
  · cases (els[j]?).join with
    | none => rfl
    | some x => exact u.putElem_reads g hg fmt r j x.1

theorem putEls_preds (fmt r : Nat) (els : VeRes) : (v.putEls fmt r els).preds = v.preds := v.putEls_reads preds (fun _ _ _ _ => rfl) fmt r els

theorem putEls_queue (fmt r : Nat) (els : VeRes) : (v.putEls fmt r els).queue = v.queue := v.putEls_reads queue (fun _ _ _ _ => rfl) fmt r els

theorem putEls_slots (fmt r : Nat) (els : VeRes) : (v.putEls fmt r els).slots = v.slots := v.putEls_reads slots (fun _ _ _ _ => rfl) fmt r els

theorem putEls_stream (fmt r : Nat) (els : VeRes) : (v.putEls fmt r els).stream = v.stream := v.putEls_reads stream (fun _ _ _ _ => rfl) fmt r els

/-! Predicates. -/

/-- Results of a compare written to a predicate register. -/
def putPreds (p : Nat) (els : VeRes) (v : VeState) : VeState :=
  (List.range els.length).foldl (fun (v : VeState) i =>
    match (els[i]?).join with
    | some x => v.putPred p i (x.1 == 1)
    | none => v) v

theorem pred_putPred_same (p i : Nat) (x : Bool) : (v.putPred p i x).pred p i = x := assocGet_set_same _ _ _ _

theorem pred_putPred_other {p i p' i' : Nat} {x : Bool} (h : p * 4096 + i ≠ p' * 4096 + i') : (v.putPred p i x).pred p' i' = v.pred p' i' :=
  assocGet_set_other _ _ _ _ _ h

theorem putPreds_reads {β : Type} (g : VeState → β) (hg : ∀ u p i x, g (VeState.putPred u p i x) = g u) (p : Nat) (els : VeRes) :
    g (v.putPreds p els) = g v := by
  refine (foldl_range_reads (g := g) (h := id) (i := els.length) (fun u => ?_) _ (fun u j _ _ => ?_) v).trans (if_neg (Nat.lt_irrefl _))
  · rw [List.getElem?_eq_none (Nat.le_refl _)]
    rfl
  · cases (els[j]?).join with
    | none => rfl
    | some x => exact hg u p j _

theorem pred_putPreds (p : Nat) (els : VeRes) (i : Nat) :
    (v.putPreds p els).pred p i = match (els[i]?).join with | some x => x.1 == 1 | none => v.pred p i := by
  have hsame (u : VeState) : (match (els[i]?).join with | some x => u.putPred p i (x.1 == 1) | none => u).pred p i =
      match (els[i]?).join with | some x => x.1 == 1 | none => u.pred p i := by
    cases (els[i]?).join with
    | none => rfl
    | some x => exact u.pred_putPred_same p i _
  have hother (u : VeState) (j : Nat) (_ : j < els.length) (hij : j ≠ i) :
      (match (els[j]?).join with | some x => u.putPred p j (x.1 == 1) | none => u).pred p i = u.pred p i := by
    cases (els[j]?).join with
    | none => rfl
    | some x => exact u.pred_putPred_other (by omega)
  refine (foldl_range_reads (g := fun u => VeState.pred u p i)
    (h := fun old => match (els[i]?).join with | some x => x.1 == 1 | none => old) hsame _ hother v).trans ?_
  split
  · rfl
  · next hlt => rw [List.getElem?_eq_none (Nat.le_of_not_lt hlt)]; rfl

theorem pred_putPreds_other {p p' : Nat} (h : p ≠ p') {els : VeRes} (hlen : els.length ≤ 4096) {i : Nat} (hi : i < 4096) :
    (v.putPreds p els).pred p' i = v.pred p' i := by
  refine (foldl_range_reads (g := fun u => VeState.pred u p' i) (h := id) (i := els.length) (fun u => ?_) _ (fun u j hj _ => ?_) v).trans
    (if_neg (Nat.lt_irrefl _))
  · rw [List.getElem?_eq_none (Nat.le_refl _)]
    rfl
  · cases (els[j]?).join with
    | none => rfl
    | some x => exact u.pred_putPred_other (by omega)

end VeState

end Sys2Proof.Machine

/-! The run of a vector instruction (R184 to R186, R194, R204). -/
namespace Sys2Proof.Machine

/-- A vector engine without the instruction at the head of its queue. -/
def VeState.popped (v : VeState) : VeState := { v with queue := v.queue.drop 1 }

/-- `t` is `s` but for registers and for the vector engine of one core, which is `v`. -/
structure OnlyVe (s t : State) (c : Nat) (v : VeState) : Prop where
  mem : t.mem = s.mem
  core : t.tcore c = { s.tcore c with ve := v }
  other : ∀ d, d ≠ c → t.tcore d = s.tcore d

namespace OnlyVe

variable {s t u : State} {c : Nat} {v : VeState}

theorem refl : OnlyVe s s c (s.tcore c).ve := ⟨rfl, rfl, fun _ _ => rfl⟩

theorem of_eq (h : OnlyVe s t c v) (hmem : u.mem = t.mem) (hcores : u.tcores = t.tcores) : OnlyVe s u c v := by
  have htcore (d : Nat) : u.tcore d = t.tcore d := by unfold State.tcore; rw [hcores]
  exact ⟨hmem.trans h.mem, (htcore c).trans h.core, fun d hd => (htcore d).trans (h.other d hd)⟩

theorem onVe (h : OnlyVe s t c v) (f : VeState → VeState) : OnlyVe s (t.onVe c f) c (f v) := by
  refine ⟨h.mem, ?_, fun d hd => ?_⟩
  · rw [State.tcore_onVe_same, h.core]
  · exact (State.tcore_setTcore_other t c _ d (Ne.symm hd)).trans (h.other d hd)

theorem setReg (h : OnlyVe s t c v) (off : Nat) (w : Word) : OnlyVe s (t.setReg off w) c v := h.of_eq rfl rfl

theorem fset (h : OnlyVe s t c v) (f : Fld) (n : Nat) : OnlyVe s (t.fset f n) c v := h.of_eq rfl rfl

theorem finc (h : OnlyVe s t c v) (f : Fld) (n : Nat) : OnlyVe s (t.finc f n) c v := h.fset _ _

theorem advanceSr (h : OnlyVe s t c v) (ctl n : Nat) : OnlyVe s (t.advanceSr c ctl n) c v :=
  h.of_eq (advanceSr_mem t c ctl n) (advanceSr_tcores t c ctl n)

theorem popQueue (h : OnlyVe s t c v) : OnlyVe s (t.popQueue c .ve) c v.popped := h.onVe VeState.popped

theorem ve (h : OnlyVe s t c v) : (t.tcore c).ve = v := congrArg TCore.ve h.core

theorem cc (h : OnlyVe s t c v) : (t.tcore c).cc = (s.tcore c).cc := by rw [h.core]

theorem me (h : OnlyVe s t c v) : (t.tcore c).me = (s.tcore c).me := by rw [h.core]

end OnlyVe

theorem atHead_op {s : State} {c : Nat} {e : EngineQ} {op : Nat} {q : Quad} (h : s.atHead c e op = some q) : qOp q = op := by
  unfold State.atHead at h
  split at h
  · split at h
    · next hand => exact Option.some.inj h ▸ eq_of_beq (Bool.and_eq_true _ _ ▸ hand).2
    · exact absurd h (by simp)
  · exact absurd h (by simp)

section
variable {s : State} {c : Nat} {q : Quad} {err : VeErrors} {p : VePlan}

/-- A run without an error passes its check. -/
theorem vePasses_self (mirror : Bool) (r : VeRes) : vePasses mirror q r r = true := by
  unfold vePasses
  split
  · exact beq_self_eq_true r
  · rw [Bool.or_eq_true, List.all_eq_true]
    refine .inr (fun x hx => ?_)
    have hx : x.1 = x.2 := by
      obtain ⟨i, hi, rfl⟩ := List.getElem_of_mem hx
      rw [List.getElem_zip]
    obtain ⟨a, b⟩ := x
    dsimp only at hx
    subst hx
    cases a with
    | none => rfl
    | some a => exact beq_self_eq_true _

/-- An instruction that no error strikes is written at once. -/
theorem veRun_written (h : err.first = []) : s.veRun c q err p =
    ((p.2 p.1 s).finc (R.TC_VE_ACTIVE_CYC.active_cycles c) (s.veCycles c q)).popQueue c .ve := by
  have hone : p.1.struck (veResBits q) err.first = p.1 := by rw [h]; rfl
  unfold State.veRun
  dsimp only
  rw [hone, vePasses_self, if_pos rfl]

theorem OnlyVe.veRun {t : State} {v : VeState} (h : err.first = []) (hp : OnlyVe s (p.2 p.1 t) c v) : OnlyVe s (t.veRun c q err p) c v.popped := by
  rw [veRun_written h]
  exact (hp.finc _ _).popQueue

theorem startVe_runs {op : Nat} {sub : Option Nat} {plan : Quad → VePlan} (hhead : s.atHead c .ve op = some q)
    (hsub : sub = none ∨ sub = some (veSub q)) : s.startVe c op sub err plan = .next (s.veRun c q err (plan q)) := by
  unfold State.startVe
  rw [hhead]
  obtain rfl | rfl := hsub
  · rfl
  · exact if_neg (by simp)

/-! Plans. -/

/-- The slots of a vector engine after a tap has fed one of them (R204). -/
def VeState.tapSlots (v : VeState) (q : Quad) (els : List (Option Nat)) : List RedSlot :=
  if veRedOp q = 0 then v.slots
  else
    let old := v.slots.getD (veRedSlot q) .empty
    let s1 := (if veRedReset q then RedSlot.empty else old).tapped (veRedOp q) (veOutFmt q) (veRedExact q)
    let r := if els.any Option.isSome then s1.feedAll els ((els.length + 63) / 64) else ((if veRedReset q then RedSlot.empty else old), .zero)
    updateAt v.slots (veRedSlot q) (fun _ => r.1)

/-- What the results of an instruction leave in the vector engine. -/
def VeState.written (v : VeState) (q : Quad) (els : VeRes) : VeState :=
  { v.putEls (veOutFmt q) (veVd q) els with slots := v.tapSlots q (els.map (fun o => o.map Prod.fst)) }

theorem OnlyVe.tap {t : State} {v : VeState} (h : OnlyVe s t c v) (els : List (Option Nat)) :
    OnlyVe s (t.tap c q els) c { v with slots := v.tapSlots q els } := by
  unfold State.tap VeState.tapSlots
  split
  · exact h
  · rw [h.ve]
    exact (h.onVe _).setReg _ _

theorem OnlyVe.veWrite {t : State} {v : VeState} (h : OnlyVe s t c v) (els : VeRes) : OnlyVe s (t.veWrite c q els) c (v.written q els) := by
  have hput := ((h.onVe (fun _ => v.putEls (veOutFmt q) (veVd q) els)).setReg (A.TC_NUM_FLAGS c)
    ((t.onVe c (fun _ => v.putEls (veOutFmt q) (veVd q) els)).reg (A.TC_NUM_FLAGS c) ||| BitVec.ofNat 64
      ((els.foldl (fun f o => match o with | some r => f.or r.2 | none => f) Flags.zero).bits * 256))).tap
    (q := q) (els.map (fun o => o.map Prod.fst))
  have hslots : (v.putEls (veOutFmt q) (veVd q) els).tapSlots q (els.map (fun o => o.map Prod.fst)) =
      v.tapSlots q (els.map (fun o => o.map Prod.fst)) := by
    unfold VeState.tapSlots
    rw [VeState.putEls_slots]
  rw [hslots] at hput
  unfold State.veWrite
  rw [h.ve]
  exact hput

/-- Results of an element-wise instruction. -/
def VeState.laneRes (v : VeState) (q : Quad) (f : Nat → Nat × Flags) : VeRes :=
  (List.range (veCount q)).map (fun i => if v.active q i then some (f i) else none)

/-- The draw of the element that an instruction writes at `i` (R119). -/
def State.laneDraw (s : State) (c : Nat) (q : Quad) (ctl : Bool) (i : Nat) : Nat :=
  if ctl && veCtl q % 8 == 4 then s.draw c (((s.tcore c).ve.activeList q).idxOf i) else 0

theorem lanes_results (ctl : Bool) (f : VeState → Nat → Nat → Nat × Flags) :
    (s.lanes c q ctl f).1 = (s.tcore c).ve.laneRes q (fun i => f (s.tcore c).ve i (s.laneDraw c q ctl i)) := rfl

theorem OnlyVe.lanes {t : State} {v : VeState} (h : OnlyVe s t c v) (u : State) (ctl : Bool) (f : VeState → Nat → Nat → Nat × Flags) (els : VeRes) :
    OnlyVe s ((u.lanes c q ctl f).2 els t) c (v.written q els) := by
  unfold State.lanes
  dsimp only
  split
  · exact (h.veWrite els).advanceSr _ _
  · exact h.veWrite els

namespace VeState

variable (v : VeState)

theorem laneRes_at (f : Nat → Nat × Flags) (i : Nat) :
    ((v.laneRes q f)[i]?).join = if i < veCount q ∧ v.active q i = true then some (f i) else none := by
  unfold laneRes
  rw [List.getElem?_map]
  by_cases hi : i < veCount q
  · rw [List.getElem?_range hi]
    by_cases ha : v.active q i = true
    · simp [hi, ha]
    · simp [ha]
  · rw [List.getElem?_eq_none (by simpa using hi), if_neg (fun h => hi h.1)]
    rfl

theorem laneRes_length (f : Nat → Nat × Flags) : (v.laneRes q f).length = veCount q := by
  unfold laneRes
  rw [List.length_map, List.length_range]

theorem elem_written_eq (els : VeRes) (fmt r i : Nat) : (v.written q els).elem fmt r i = (v.putEls (veOutFmt q) (veVd q) els).elem fmt r i := rfl

theorem written_preds (els : VeRes) : (v.written q els).preds = v.preds := v.putEls_preds _ _ _

theorem written_queue (els : VeRes) : (v.written q els).queue = v.queue := v.putEls_queue _ _ _

theorem elem_popped (fmt r i : Nat) : v.popped.elem fmt r i = v.elem fmt r i := rfl

/-- The destination of an element-wise instruction. -/
theorem elem_written_laneRes (hbits : LaneBits (fmtBits (veOutFmt q))) (f : Nat → Nat × Flags) (i : Nat) :
    (v.written q (v.laneRes q f)).elem (veOutFmt q) (veVd q) i =
      if i < veCount q ∧ v.active q i = true then (f i).1 % 2 ^ fmtBits (veOutFmt q) else v.elem (veOutFmt q) (veVd q) i := by
  rw [elem_written_eq, elem_putEls v hbits, laneRes_at]
  by_cases h : i < veCount q ∧ v.active q i = true
  · rw [if_pos h, if_pos h]
  · rw [if_neg h, if_neg h]

end VeState

end

end Sys2Proof.Machine

/-! The check of a pushed vector instruction (R193, R195, R200). -/
namespace Sys2Proof.Machine

section
variable {q : Quad}

theorem vePushOk_broadcast (hop : qOp q = 0x22) (hsub : veSub q = 1) (hok : vePushOk q = true) :
    veFmtOk (veFmt q) = true ∧ veCountOk (veFmt q) (veCount q) = true := by
  unfold vePushOk at hok
  rw [hop] at hok
  dsimp only at hok
  rw [if_pos ⟨rfl, hsub⟩] at hok
  simp only [Bool.and_eq_true] at hok
  obtain ⟨⟨⟨⟨⟨⟨⟨hfmt, hcount⟩, -⟩, -⟩, -⟩, -⟩, -⟩, -⟩ := hok
  exact ⟨hfmt, hcount⟩

/-- What the check asks of every instruction but a broadcast: its sub code, its formats and its count. -/
theorem vePushOk_fields {sub : Bool} {u : VeUse} (hwait : qOp q ≠ 0x07) (hfence : qOp q ≠ 0x08) (hcast : ¬ (qOp q = 0x22 ∧ veSub q = 1))
    (huse : veUse q = some (sub, u)) (hok : vePushOk q = true) :
    sub = true ∧ veFmtOk (veFmt q) = true ∧ veCountOk (veFmt q) (veCount q) = true ∧ veCountOk (veOutFmt q) (veCount q) = true ∧
      (u.mem = true → veMemOk q = true) ∧ (qOp q = 0x61 → veCount q = 1 ∨ veCount q = 3) ∧ veTapOk q u.tap = true := by
  unfold vePushOk at hok
  split at hok
  · next h => exact absurd h hwait
  · next h => exact absurd h hfence
  · rw [if_neg hcast, huse] at hok
    simp only [Bool.and_eq_true] at hok
    obtain ⟨⟨⟨⟨⟨⟨⟨⟨⟨⟨⟨⟨⟨hsub, hfmt⟩, hcount⟩, hout⟩, -⟩, -⟩, -⟩, -⟩, -⟩, -⟩, -⟩, hmem⟩, hget⟩, htap⟩ := hok
    refine ⟨hsub, hfmt, hcount, hout, fun h => ?_, fun h => ?_, htap⟩
    · rw [if_pos h, Bool.and_eq_true] at hmem
      exact hmem.1
    · simpa [h] using hget

theorem veCount_le {f n : Nat} (h : veCountOk f n = true) : n ≤ 4096 ∧ (f = 0 → n ≤ 2048) := by
  simp only [veCountOk, Bool.and_eq_true, decide_eq_true_eq] at h
  split at h <;> omega

end

end Sys2Proof.Machine

/-! Copies, selections, compares, and mirror mode (R115, R132, R185, R193, R194, R196, R197). -/
namespace Sys2Proof.Machine

section
variable {s : State} {c : Nat} {err : VeErrors} {q : Quad}

/-! VMOV and VBCAST. -/

theorem veUse_vmov (hop : qOp q = 0x22) : veUse q = some (veSub q == 0, ⟨false, true, true, false, false, false, true⟩) := by
  unfold veUse
  rw [hop]
  rfl

theorem vmov_writes (herr : err.first = []) (hhead : s.atHead c .ve 0x22 = some q) (hsub : veSub q = 0) :
    ∃ t, exec (.vmov c err) s = .next t ∧
      OnlyVe s t c ((s.tcore c).ve.written q ((s.tcore c).ve.laneRes q (fun i => ((s.tcore c).ve.src1 q i, .zero)))).popped := by
  have hexec : exec (.vmov c err) s = .next (s.veRun c q err (s.lanes c q false (fun v i _ => (v.src1 q i, .zero)))) :=
    startVe_runs hhead (.inr (hsub ▸ rfl))
  exact ⟨_, hexec, .veRun herr (.lanes .refl s false _ _)⟩

/-- VBCAST writes its results without a tap. -/
def VeState.broadcast (v : VeState) (q : Quad) : VeState :=
  v.putEls (veFmt q) (veVd q) (v.laneRes q (fun _ => (q1 q 0 64 % 2 ^ fmtBits (veFmt q), .zero)))

theorem vbcast_writes (herr : err.first = []) (hhead : s.atHead c .ve 0x22 = some q) (hsub : veSub q = 1) :
    ∃ t, exec (.vbcast c err) s = .next t ∧ OnlyVe s t c ((s.tcore c).ve.broadcast q).popped := by
  have hexec := startVe_runs (err := err) (sub := some 1) (plan := fun q =>
    ((s.lanes c q false (fun _ _ _ => (q1 q 0 64 % 2 ^ fmtBits (veFmt q), .zero))).1,
      fun els t => t.onVe c (VeState.putEls (veFmt q) (veVd q) els))) hhead (.inr (hsub ▸ rfl))
  exact ⟨_, hexec, .veRun herr (OnlyVe.refl.onVe _)⟩

theorem vmov_moves (herr : err.first = []) (hhead : s.atHead c .ve 0x22 = some q) (hok : vePushOk q = true) (hsub : veSub q = 0) :
    ∃ t, exec (.vmov c err) s = .next t ∧ (t.tcore c).ve.queue = (s.tcore c).ve.queue.drop 1 ∧ t.mem = s.mem ∧
      (t.tcore c).ve.preds = (s.tcore c).ve.preds ∧ (t.tcore c).cc = (s.tcore c).cc ∧ (∀ e, e ≠ c → t.tcore e = s.tcore e) ∧
      ∀ i, (t.tcore c).ve.elem (veFmt q) (veVd q) i =
        if i < veCount q ∧ (s.tcore c).ve.active q i = true then (s.tcore c).ve.elem (veFmt q) (veVs1 q) i
        else (s.tcore c).ve.elem (veFmt q) (veVd q) i := by
  have hop := atHead_op hhead
  obtain ⟨-, hfmt, -⟩ := vePushOk_fields (by omega) (by omega) (by omega) (veUse_vmov hop) hok
  have hout : veOutFmt q = veFmt q := by unfold veOutFmt; rw [hop]; rfl
  have hbits : LaneBits (fmtBits (veOutFmt q)) := hout ▸ laneBits_of_veFmtOk hfmt
  obtain ⟨t, hexec, ht⟩ := vmov_writes herr hhead hsub
  refine ⟨t, hexec, ?_, ht.mem, ?_, ht.cc, ht.other, fun i => ?_⟩
  · rw [ht.ve]
    exact congrArg (List.drop 1) (VeState.written_queue _ _)
  · rw [ht.ve]
    exact VeState.written_preds _ _
  · rw [ht.ve, VeState.elem_popped, ← hout, VeState.elem_written_laneRes _ hbits, hout]
    exact if_congr Iff.rfl (Nat.mod_eq_of_lt (VeState.elem_lt _ _ _ _)) rfl

theorem vbcast_broadcasts (herr : err.first = []) (hhead : s.atHead c .ve 0x22 = some q) (hok : vePushOk q = true) (hsub : veSub q = 1) :
    ∃ t, exec (.vbcast c err) s = .next t ∧ (t.tcore c).ve.queue = (s.tcore c).ve.queue.drop 1 ∧ t.mem = s.mem ∧
      (t.tcore c).ve.preds = (s.tcore c).ve.preds ∧ (t.tcore c).ve.slots = (s.tcore c).ve.slots ∧ (∀ e, e ≠ c → t.tcore e = s.tcore e) ∧
      ∀ i, (t.tcore c).ve.elem (veFmt q) (veVd q) i =
        if i < veCount q ∧ (s.tcore c).ve.active q i = true then q1 q 0 64 % 2 ^ fmtBits (veFmt q)
        else (s.tcore c).ve.elem (veFmt q) (veVd q) i := by
  obtain ⟨hfmt, -⟩ := vePushOk_broadcast (atHead_op hhead) hsub hok
  obtain ⟨t, hexec, ht⟩ := vbcast_writes herr hhead hsub
  refine ⟨t, hexec, ?_, ht.mem, ?_, ?_, ht.other, fun i => ?_⟩
  · rw [ht.ve]
    exact congrArg (List.drop 1) (VeState.putEls_queue _ _ _ _)
  · rw [ht.ve]
    exact VeState.putEls_preds _ _ _ _
  · rw [ht.ve]
    exact VeState.putEls_slots _ _ _ _
  · rw [ht.ve, VeState.elem_popped, VeState.broadcast, VeState.elem_putEls _ (laneBits_of_veFmtOk hfmt), VeState.laneRes_at]
    by_cases h : i < veCount q ∧ (s.tcore c).ve.active q i = true
    · rw [if_pos h, if_pos h]
      exact Nat.mod_mod _ _
    · rw [if_neg h, if_neg h]

/-! VSEL. -/

/-- VSEL's choice at an element (R197). -/
def VeState.choice (v : VeState) (q : Quad) (i : Nat) : Nat := if v.pred (vePsel q) i != vePredNeg q then v.src1 q i else v.src2 q i

theorem VeState.choice_lt (v : VeState) (i : Nat) : v.choice q i < 2 ^ fmtBits (veFmt q) := by
  unfold choice src1 src2
  split
  · exact v.elem_lt _ _ _
  · split
    · exact Nat.mod_lt _ (Nat.two_pow_pos _)
    · exact v.elem_lt _ _ _

theorem veUse_vsel (hop : qOp q = 0x42) : veUse q = some (veSub q == 0, ⟨false, true, true, true, false, false, true⟩) := by
  unfold veUse
  rw [hop]
  rfl

theorem vsel_selects (hhead : s.atHead c .ve 0x42 = some q) (hok : vePushOk q = true) (herr : err.first = []) :
    ∃ t, exec (.vsel c err) s = .next t ∧ (t.tcore c).ve.queue = (s.tcore c).ve.queue.drop 1 ∧ t.mem = s.mem ∧
      (t.tcore c).ve.preds = (s.tcore c).ve.preds ∧ (∀ e, e ≠ c → t.tcore e = s.tcore e) ∧
      ∀ i, (t.tcore c).ve.elem (veFmt q) (veVd q) i =
        if i < veCount q then (s.tcore c).ve.choice q i else (s.tcore c).ve.elem (veFmt q) (veVd q) i := by
  have hop := atHead_op hhead
  obtain ⟨-, hfmt, -⟩ := vePushOk_fields (by omega) (by omega) (by omega) (veUse_vsel hop) hok
  have hout : veOutFmt q = veFmt q := by unfold veOutFmt; rw [hop]; rfl
  have hbits : LaneBits (fmtBits (veOutFmt q)) := hout ▸ laneBits_of_veFmtOk hfmt
  have hexec : exec (.vsel c err) s = .next (s.veRun c q err
      ((List.range (veCount q)).map (fun i => some ((s.tcore c).ve.choice q i, Flags.zero)), fun els t => t.veWrite c q els)) :=
    startVe_runs hhead (.inl rfl)
  have ht := OnlyVe.veRun (q := q) herr (p := ((List.range (veCount q)).map (fun i => some ((s.tcore c).ve.choice q i, Flags.zero)),
    fun els t => t.veWrite c q els)) (OnlyVe.refl (s := s) (c := c) |>.veWrite _)
  refine ⟨_, hexec, ?_, ht.mem, ?_, ht.other, fun i => ?_⟩
  · rw [ht.ve]
    exact congrArg (List.drop 1) (VeState.written_queue _ _)
  · rw [ht.ve]
    exact VeState.written_preds _ _
  · rw [ht.ve, VeState.elem_popped, ← hout, VeState.elem_written_eq, VeState.elem_putEls _ hbits, List.getElem?_map]
    by_cases hi : i < veCount q
    · rw [List.getElem?_range hi, if_pos hi, hout]
      exact Nat.mod_eq_of_lt (VeState.choice_lt _ _)
    · rw [List.getElem?_eq_none (by simpa using hi), if_neg hi]
      rfl

/-! VCMP and VTOTORD. -/

/-- A compare writes the active bits of its predicate, and no register. -/
theorem comparePred_writes {f : Nat → Nat → Bool × Flags} (herr : err.first = []) (hcount : veCount q ≤ 4096) :
    ∃ v, OnlyVe s (s.veRun c q err (s.comparePred c q f)) c v ∧ v.queue = (s.tcore c).ve.queue.drop 1 ∧ v.vregs = (s.tcore c).ve.vregs ∧
      v.slots = (s.tcore c).ve.slots ∧ ∀ w i, i < 4096 → v.pred w i =
        if w = veVs3 q ∧ i < veCount q ∧ (s.tcore c).ve.active q i = true then
          (f ((s.tcore c).ve.src1 q i) ((s.tcore c).ve.src2 q i)).1
        else (s.tcore c).ve.pred w i := by
  let v := (s.tcore c).ve
  let els := v.laneRes q (fun i => ((f (v.src1 q i) (v.src2 q i)).1.toNat, (f (v.src1 q i) (v.src2 q i)).2))
  have ht : OnlyVe s (s.veRun c q err (s.comparePred c q f)) c (v.putPreds (veVs3 q) els).popped :=
    .veRun herr ((OnlyVe.refl.onVe _).setReg _ _)
  refine ⟨_, ht, congrArg (List.drop 1) (v.putPreds_reads VeState.queue (fun _ _ _ _ => rfl) _ _),
    v.putPreds_reads VeState.vregs (fun _ _ _ _ => rfl) _ _, v.putPreds_reads VeState.slots (fun _ _ _ _ => rfl) _ _, fun w i hi => ?_⟩
  show (v.putPreds (veVs3 q) els).pred w i = _
  by_cases hw : w = veVs3 q
  · subst hw
    rw [v.pred_putPreds, VeState.laneRes_at]
    by_cases h : i < veCount q ∧ v.active q i = true
    · rw [if_pos h, if_pos ⟨rfl, h⟩]
      cases h : (f (v.src1 q i) (v.src2 q i)).1 <;> rfl
    · rw [if_neg h, if_neg (fun h' => h h'.2)]
  · rw [if_neg (fun h => hw h.1), v.pred_putPreds_other (Ne.symm hw) (by rw [VeState.laneRes_length]; exact hcount) hi]

theorem veUse_compare (hop : qOp q = 0x40 ∨ qOp q = 0x41) : ∃ sub, veUse q = some (sub, ⟨false, false, true, true, true, false, false⟩) := by
  unfold veUse
  obtain hop | hop := hop <;> rw [hop] <;> exact ⟨_, rfl⟩

theorem veCount_compare (hop : qOp q = 0x40 ∨ qOp q = 0x41) (hok : vePushOk q = true) : veCount q ≤ 4096 := by
  obtain ⟨sub, huse⟩ := veUse_compare hop
  obtain ⟨-, -, hcount, -⟩ := vePushOk_fields (by omega) (by omega) (by omega) huse hok
  exact (veCount_le hcount).1

theorem exec_vcmp (hhead : s.atHead c .ve 0x40 = some q) : exec (.vcmp c err) s = .next (s.veRun c q err (s.comparePred c q (fun x y =>
    compareNum (vcmpPred (veSub q)).1 (vcmpPred (veSub q)).2 (decodeNum (veFmt q) x) (decodeNum (veFmt q) y)))) := startVe_runs hhead (.inl rfl)

theorem exec_vtotord (hhead : s.atHead c .ve 0x41 = some q) : exec (.vtotord c err) s = .next (s.veRun c q err
    (s.comparePred c q (fun x y => (vtot (veFmt q) x y, .zero)))) := startVe_runs hhead (.inl rfl)

theorem compare_compares {cmd : Instr} {f : Nat → Nat → Bool × Flags} (herr : err.first = []) (hcount : veCount q ≤ 4096)
    (hexec : exec cmd s = .next (s.veRun c q err (s.comparePred c q f))) :
    ∃ t, exec cmd s = .next t ∧ (t.tcore c).ve.queue = (s.tcore c).ve.queue.drop 1 ∧ t.mem = s.mem ∧
      (t.tcore c).ve.vregs = (s.tcore c).ve.vregs ∧ (t.tcore c).ve.slots = (s.tcore c).ve.slots ∧ (∀ e, e ≠ c → t.tcore e = s.tcore e) ∧
      ∀ w i, i < 4096 → (t.tcore c).ve.pred w i =
        if w = veVs3 q ∧ i < veCount q ∧ (s.tcore c).ve.active q i = true then
          (f ((s.tcore c).ve.src1 q i) ((s.tcore c).ve.src2 q i)).1
        else (s.tcore c).ve.pred w i := by
  obtain ⟨v, ht, hqueue, hregs, hslots, hpred⟩ := comparePred_writes (s := s) (c := c) (f := f) herr hcount
  refine ⟨_, hexec, ?_, ht.mem, ?_, ?_, ht.other, ?_⟩ <;> rw [ht.ve] <;> assumption

/-! Mirror mode (R185). -/

theorem mirror_applied (hc : c < 512) (hempty : (s.tcore c).ve.queue = []) :
    ∃ t, exec (.mirrorModeApply c) s = .next t ∧ t.fget (R.TC_VE_STATUS.mirror_active c) = s.fget (R.TC_PX_CTL.mirror_en c) ∧
      t.tcores = s.tcores ∧ t.mem = s.mem := by
  have hexec : exec (.mirrorModeApply c) s = .next (s.fset (R.TC_VE_STATUS.mirror_active c) (s.fget (R.TC_PX_CTL.mirror_en c))) := by
    show execMirrorModeApply _ _ = _
    unfold execMirrorModeApply whenever
    rw [hempty, decide_eq_true hc]
    rfl
  refine ⟨_, hexec, (fget_fset_self _ _ _ rfl).trans (Nat.mod_eq_of_lt (fget_lt s _)), rfl, rfl⟩

theorem mirror_waits (hqueued : (s.tcore c).ve.queue ≠ []) : exec (.mirrorModeApply c) s = .next s := by
  show execMirrorModeApply _ _ = _
  unfold execMirrorModeApply whenever
  rw [List.isEmpty_eq_false_iff.2 hqueued, Bool.and_false]
  rfl

end

/-- Settles O26: a vector instruction's run writes its results, and each destination is read off them. -/
theorem veCopiesAndPredicates : Obligations.VeCopiesAndPredicates := by
  unfold Obligations.VeCopiesAndPredicates
  refine ⟨fun c err s q herr hhead hok => ⟨vmov_moves herr hhead hok, vbcast_broadcasts herr hhead hok⟩,
    fun c err s q hhead hok herr => vsel_selects hhead hok herr, fun cmd op p hcmd c err s q hhead hok herr => ?_,
    fun c s hc => ⟨mirror_applied hc, mirror_waits⟩⟩
  simp only [List.mem_cons, Prod.mk.injEq, List.not_mem_nil, or_false] at hcmd
  obtain ⟨rfl, rfl, rfl⟩ | ⟨rfl, rfl, rfl⟩ := hcmd
  · exact compare_compares herr (veCount_compare (.inl (atHead_op hhead)) hok) (exec_vcmp hhead)
  · exact compare_compares herr (veCount_compare (.inr (atHead_op hhead)) hok) (exec_vtotord hhead)

end Sys2Proof.Machine

/-! Bits of a scratchpad (R104, R195): what writing a run of bits leaves. -/
namespace Sys2Proof.Machine

/-! Bits of little-endian numbers (R11). -/

theorem leNat_cons (b : Byte) (bs : List Byte) : leNat (b :: bs) = 2 ^ 8 * leNat bs + b.toNat := Nat.add_comm _ _

theorem testBit_leNat (bs : List Byte) (i : Nat) : (leNat bs).testBit i = (bs.getD (i / 8) 0).toNat.testBit (i % 8) := by
  induction bs generalizing i with
  | nil => simp [leNat]
  | cons b bs ih =>
    rw [leNat_cons, Nat.testBit_two_pow_mul_add _ b.isLt]
    by_cases h : i < 8
    · rw [if_pos h, Nat.div_eq_of_lt h, Nat.mod_eq_of_lt h]
      rfl
    · rw [if_neg h, ih, show i / 8 = (i - 8) / 8 + 1 by omega, List.getD_cons_succ, show (i - 8) % 8 = i % 8 by omega]

theorem getD_leBytes {n i : Nat} (x : Nat) (h : i < n) {j : Nat} (hj : j < 8) : ((leBytes n x).getD i 0).toNat.testBit j = x.testBit (8 * i + j) := by
  have hbits := testBit_leNat (leBytes n x) (8 * i + j)
  rw [show (8 * i + j) / 8 = i by omega, show (8 * i + j) % 8 = j by omega, leNat_leBytes, show 256 ^ n = 2 ^ (8 * n) from (Nat.pow_mul 2 8 n).symm,
    Nat.testBit_mod_two_pow, decide_eq_true (by omega), Bool.true_and] at hbits
  exact hbits.symm

section
variable (s : State) (c : Nat)

/-- One bit of a scratchpad. -/
def State.padBit (k : Nat) : Bool := (s.byte (padBase c + k / 8)).toNat.testBit (k % 8)

variable {s} in
theorem padBit_congr {t : State} (h : t.mem = s.mem) (k : Nat) : t.padBit c k = s.padBit c k := by
  unfold State.padBit
  rw [byte_congr h]

theorem testBit_padBytes (off n i : Nat) (h : i < 8 * n) : (leNat (s.padBytes c off n)).testBit i = s.padBit c (8 * off + i) := by
  rw [testBit_leNat]
  have hi : i / 8 < n := by omega
  unfold State.padBit State.padBytes State.bytes
  rw [List.getD_eq_getElem?_getD, List.getElem?_map, List.getElem?_range hi, show (8 * off + i) / 8 = off + i / 8 by omega,
    show (8 * off + i) % 8 = i % 8 by omega, ← Nat.add_assoc]
  rfl

theorem testBit_padBits (a b i : Nat) : (s.padBits c a b).testBit i = (decide (i < b) && s.padBit c (a + i)) := by
  unfold State.padBits
  dsimp only
  rw [testBit_fld]
  by_cases h : i < b
  · rw [testBit_padBytes s c _ _ _ (by unfold bitSpan; omega)]
    congr 2
    unfold bitSpan
    omega
  · rw [decide_eq_false h, Bool.false_and, Bool.false_and]

theorem putPadBits_eq (a b v : Nat) : s.putPadBits c a b v =
    s.storePad c (bitSpan a b).1 (leBytes (bitSpan a b).2 (putFld (leNat (s.padBytes c (bitSpan a b).1 (bitSpan a b).2)) (a % 8) b v)) := rfl

/-- Writing a run of bits writes those and keeps the others of the bytes it touches. -/
theorem padBit_putPadBits (a b v k : Nat) : (s.putPadBits c a b v).padBit c k = if a ≤ k ∧ k < a + b then v.testBit (k - a) else s.padBit c k := by
  rw [putPadBits_eq]
  by_cases hspan : a / 8 ≤ k / 8 ∧ k / 8 < a / 8 + (a % 8 + b + 7) / 8
  · have hin : k / 8 - a / 8 < (bitSpan a b).2 := by unfold bitSpan; omega
    have hk : 8 * (k / 8 - a / 8) + k % 8 = k - 8 * (a / 8) := by omega
    have hbyte := byte_storePad_at s c (bitSpan a b).1
      (leBytes (bitSpan a b).2 (putFld (leNat (s.padBytes c (bitSpan a b).1 (bitSpan a b).2)) (a % 8) b v)) (i := k / 8 - a / 8)
      (by rw [length_leBytes]; exact hin)
    rw [show padBase c + (bitSpan a b).1 + (k / 8 - a / 8) = padBase c + k / 8 by unfold bitSpan; omega] at hbyte
    rw [State.padBit, hbyte, getD_leBytes _ hin (Nat.mod_lt _ (by decide)), hk, testBit_putFld]
    by_cases hcov : a ≤ k ∧ k < a + b
    · rw [if_pos hcov, if_pos (by omega)]
      congr 1
      omega
    · rw [if_neg hcov, if_neg (by omega), testBit_padBytes s c _ _ _ (by unfold bitSpan; omega)]
      congr 1
      unfold bitSpan
      omega
  · rw [if_neg (by omega), State.padBit, byte_storePad_outside s c _ _ (by rw [length_leBytes]; unfold bitSpan; omega), State.padBit]

theorem byte_putPadBits_outside {a b : Nat} (v : Nat) {x : Nat}
    (h : x < padBase c + (bitSpan a b).1 ∨ padBase c + (bitSpan a b).1 + (bitSpan a b).2 ≤ x) : (s.putPadBits c a b v).byte x = s.byte x := by
  rw [putPadBits_eq]
  exact byte_storePad_outside s c _ _ (by rw [length_leBytes]; exact h)

/-! Runs of bits stored together. -/

/-- A run of bits covers a bit. -/
def Covers (w : Nat × Nat × Nat) (k : Nat) : Prop := w.1 ≤ k ∧ k < w.1 + w.2.1

variable {c} in
theorem storeBits_mem (ws : List (Nat × Nat × Nat)) : (s.storeBits c ws).mem = (ws.foldl (fun t w => t.putPadBits c w.1 w.2.1 w.2.2) s).mem :=
  foldl_reads (g := State.mem) (fun t _ _ => clearPoison_mem t _ _) _

variable {c} in
theorem storeBits_tcores (ws : List (Nat × Nat × Nat)) : (s.storeBits c ws).tcores = s.tcores :=
  by
  refine (foldl_reads (g := State.tcores) (fun t _ _ => ?_) _).trans (foldl_reads (g := State.tcores) (fun t w _ => ?_) _)
  · rfl
  · rfl

theorem padBit_puts_apart {ws : List (Nat × Nat × Nat)} {k : Nat} (h : ∀ w ∈ ws, ¬ Covers w k) :
    (ws.foldl (fun t w => t.putPadBits c w.1 w.2.1 w.2.2) s).padBit c k = s.padBit c k :=
  foldl_reads (g := fun t => State.padBit t c k) (fun t w hw => (padBit_putPadBits t c _ _ _ _).trans (if_neg (h w hw))) s

variable {s} in
theorem padBit_puts {ws : List (Nat × Nat × Nat)} {k : Nat} {x : Bool} (hcov : ∃ w ∈ ws, Covers w k)
    (hagree : ∀ w ∈ ws, Covers w k → w.2.2.testBit (k - w.1) = x) :
    (ws.foldl (fun t w => t.putPadBits c w.1 w.2.1 w.2.2) s).padBit c k = x := by
  induction ws generalizing s with
  | nil =>
    obtain ⟨w, hw, -⟩ := hcov
    exact absurd hw List.not_mem_nil
  | cons w ws ih =>
    rw [List.foldl_cons]
    by_cases hrest : ∃ w ∈ ws, Covers w k
    · exact ih hrest (fun w hw => hagree w (List.mem_cons_of_mem _ hw))
    · have hw : Covers w k := by
        obtain ⟨w', hmem, hcov⟩ := hcov
        obtain rfl | hmem := List.mem_cons.1 hmem
        · exact hcov
        · exact absurd ⟨w', hmem, hcov⟩ hrest
      rw [padBit_puts_apart _ c (fun w hw h => hrest ⟨w, hw, h⟩), padBit_putPadBits]
      refine (if_pos hw).trans ?_
      exact hagree w List.mem_cons_self hw

/-- A stored bit, where all runs that cover it agree on it. -/
theorem padBit_storeBits {ws : List (Nat × Nat × Nat)} {k : Nat} {x : Bool} (hcov : ∃ w ∈ ws, Covers w k)
    (hagree : ∀ w ∈ ws, Covers w k → w.2.2.testBit (k - w.1) = x) : (s.storeBits c ws).padBit c k = x :=
  (padBit_congr c (storeBits_mem s ws) k).trans (padBit_puts c hcov hagree)

/-- A stored run of bits, where no other run overlaps it. -/
theorem padBits_storeBits {ws : List (Nat × Nat × Nat)} {w : Nat × Nat × Nat} (hw : w ∈ ws)
    (halone : ∀ w' ∈ ws, ∀ k, Covers w k → Covers w' k → w' = w) : (s.storeBits c ws).padBits c w.1 w.2.1 = w.2.2 % 2 ^ w.2.1 := by
  refine Nat.eq_of_testBit_eq (fun i => ?_)
  rw [testBit_padBits, Nat.testBit_mod_two_pow]
  by_cases hi : i < w.2.1
  · have hcov : Covers w (w.1 + i) := ⟨by omega, by omega⟩
    rw [padBit_storeBits s c ⟨w, hw, hcov⟩ (fun w' hw' hcov' => by rw [halone w' hw' _ hcov hcov'])]
    rw [Nat.add_sub_cancel_left]
  · rw [decide_eq_false hi, Bool.false_and, Bool.false_and]

theorem byte_storeBits_outside {ws : List (Nat × Nat × Nat)} {x : Nat}
    (h : ∀ w ∈ ws, x < padBase c + (bitSpan w.1 w.2.1).1 ∨ padBase c + (bitSpan w.1 w.2.1).1 + (bitSpan w.1 w.2.1).2 ≤ x) :
    (s.storeBits c ws).byte x = s.byte x := by
  rw [byte_congr (storeBits_mem s ws)]
  exact foldl_reads (g := fun t => State.byte t x) (fun t w hw => byte_putPadBits_outside t c _ (h w hw)) s

/-! Reading a scratchpad corrects its single-bit errors (R281). -/

/-- A reading that neither a report nor a counter bears on, nor the list of single-bit errors, is the same after a read. -/
theorem readPad_reads {β : Type} (g : State → β) (hweak : ∀ t l, g { t with weak := l } = g t) (hfree : ∀ t n, g { t with free := n } = g t)
    (hfset : ∀ t f n, g (State.fset t f n) = g t) (hreport : ∀ t a b d e, g (State.report t a b d e) = g t) (off n : Nat) :
    g (s.readPad c off n) = g s := by
  unfold State.readPad State.correctAt State.correct
  refine (foldl_reads (g := g) (fun t _ _ => ?_) _).trans (hweak s _)
  exact (hreport _ _ _ _ _).trans ((hfree _ _).trans (hfset _ _ _))

end

theorem report_tcores (s : State) (source code cls detail : Nat) : (s.report source code cls detail).tcores = s.tcores :=
  report_reads s State.tcores (fun _ => rfl) (fun _ => rfl) (fun _ => raise_reads _ State.tcores (fun _ _ => rfl) (fun _ => rfl) _ _) _ _ _ _

theorem readPad_mem (s : State) (c off n : Nat) : (s.readPad c off n).mem = s.mem :=
  readPad_reads s c State.mem (fun _ _ => rfl) (fun _ _ => rfl) (fun _ _ _ => rfl) (fun _ _ _ _ _ => report_mem _ _ _ _ _) _ _

theorem readPad_tcores (s : State) (c off n : Nat) : (s.readPad c off n).tcores = s.tcores :=
  readPad_reads s c State.tcores (fun _ _ => rfl) (fun _ _ => rfl) (fun _ _ _ => rfl) (fun _ _ _ _ _ => report_tcores _ _ _ _ _) _ _

end Sys2Proof.Machine

/-! VLD and VST (R104, R195, R197, R200, R281). -/
namespace Sys2Proof.Machine

/-- A value at the slots of a register as 32-bit words. -/
theorem VeState.elem_word (v : VeState) (r k : Nat) : v.elem 1 r k = v.slot r k := by
  rw [elem_narrow v (by decide), show fmtBits 1 = 32 from rfl, show k * 32 / 32 = k by omega, show k * 32 % 32 = 0 by omega]
  unfold fld
  rw [Nat.pow_zero, Nat.div_one, Nat.mod_eq_of_lt (v.slot_lt r k)]

theorem fmtBits_64 {f : Nat} (hok : veFmtOk f = true) (h : fmtBits f = 64) : f = 0 := by
  have hle : f ≤ 0x12 := by
    simp only [veFmtOk, Bool.or_eq_true, decide_eq_true_eq] at hok
    omega
  revert h
  clear hok
  interval_cases f <;> decide

section
variable {s : State} {c : Nat} {err : VeErrors} {q : Quad}

/-- Results leave the registers that are not the destination. -/
theorem VeState.elem_written_other (v : VeState) (els : VeRes) (hfmt : veFmtOk (veOutFmt q) = true) (hcount : veCountOk (veOutFmt q) els.length = true)
    {w k : Nat} (hw : w ≠ veVd q) (hk : k < 4096) : (v.written q els).elem 1 w k = v.elem 1 w k := by
  rw [elem_word, elem_word]
  obtain ⟨hle, hle64⟩ := veCount_le hcount
  refine v.slot_putEls_other (Ne.symm hw) hk ?_ (laneBits_of_veFmtOk hfmt)
  split
  · next h64 => have := hle64 (fmtBits_64 hfmt h64); omega
  · next h64 => obtain h | h | h | h := laneBits_of_veFmtOk hfmt <;> rw [h] <;> omega

/-! A VE queue that halts (R211). -/

theorem veHalt_mem (t : State) (code : Nat) : (t.veHalt c code).mem = t.mem := pend_mem _ _ _

theorem tcore_pend_ve (t : State) (code : Nat) : ((t.pend (.tc c) code 2).tcore c).ve = (t.tcore c).ve := by
  unfold State.pend
  rw [tcore_onJumbe]

theorem ve_veHalt (t : State) (code : Nat) : ((t.veHalt c code).tcore c).ve = (t.tcore c).ve := tcore_pend_ve _ _

theorem mem_veHalt (t : State) (code : Nat) : (excVe, 2) ∈ ((t.veHalt c code).tcore c).cc.pending := by
  unfold State.veHalt State.pend
  rw [tcore_onJumbe]
  dsimp only
  split
  · next h => exact List.contains_iff_mem.1 h
  · exact List.mem_append_right _ List.mem_cons_self

theorem fget_veHalt_halted (t : State) (code : Nat) : (t.veHalt c code).fget (R.TC_VE_STATUS.halted c) = 1 := by
  unfold State.veHalt
  rw [fget_pend, fget_fset_of_apart _ _ _ _ rfl, fget_fset_self _ _ _ rfl]
  rfl

theorem fget_veHalt_code (t : State) {code : Nat} (h : code < 2 ^ (R.TC_VE_STATUS.halt_code c).width) :
    (t.veHalt c code).fget (R.TC_VE_STATUS.halt_code c) = code := by
  unfold State.veHalt
  rw [fget_pend, fget_fset_self _ _ _ rfl, Nat.mod_eq_of_lt h]

/-! VLD. -/

/-- The spans of scratchpad bytes of an instruction's memory elements. -/
def veSpan (q : Quad) (i : Nat) : Nat × Nat := bitSpan (veBitAt q i) (fmtBits (veMemFmt q))

/-- The state in which the elements of a VLD have been read. -/
def State.veReads (s : State) (c : Nat) (q : Quad) : State :=
  (((s.tcore c).ve.activeList q).map (veSpan q)).foldl (fun s p => s.readPad c p.1 p.2) s

/-- The element that a VLD reads (R195). -/
def State.loaded (s : State) (c : Nat) (q : Quad) (i d : Nat) : Nat × Flags :=
  if veMemFmt q = veFmt q then (s.padBits c (veBitAt q i) (fmtBits (veMemFmt q)), .zero)
  else convertBits (veMemFmt q) (veFmt q) (veMode q d) (bit (veCtl q) 3) (s.padBits c (veBitAt q i) (fmtBits (veMemFmt q)))

theorem veReads_onlyVe : OnlyVe s (s.veReads c q) c (s.tcore c).ve :=
  .of_eq .refl (foldl_reads (g := State.mem) (fun t _ _ => readPad_mem t c _ _) _) (foldl_reads (g := State.tcores) (fun t _ _ => readPad_tcores t c _ _) _)

theorem exec_vld (hhead : s.atHead c .ve 0x20 = some q) : exec (.vld c err) s =
    if (((s.tcore c).ve.activeList q).map (veSpan q)).any (fun p => s.poisonedIn (padBase c + p.1) p.2) then .next ((s.veReads c q).veHalt c 0x03)
    else .next ((s.veReads c q).veRun c q err (s.lanes c q true (fun _ i d => s.loaded c q i d))) := by
  show execVld _ _ _ = _
  unfold execVld
  rw [hhead]
  rfl

theorem veUse_vld (hop : qOp q = 0x20) : veUse q = some (veSub q == 0, ⟨true, true, false, false, false, true, true⟩) := by
  unfold veUse
  rw [hop]
  rfl

theorem vld_loads (hhead : s.atHead c .ve 0x20 = some q) (hok : vePushOk q = true) (herr : err.first = [])
    (hclean : ∀ i ∈ (s.tcore c).ve.activeList q, s.poisonedIn (padBase c + (veSpan q i).1) (veSpan q i).2 = false) :
    ∃ t, exec (.vld c err) s = .next t ∧ t.mem = s.mem ∧ (t.tcore c).ve.queue = (s.tcore c).ve.queue.drop 1 ∧
      (t.tcore c).ve.preds = (s.tcore c).ve.preds ∧ (t.tcore c).cc = (s.tcore c).cc ∧ (∀ e, e ≠ c → t.tcore e = s.tcore e) ∧
      (∀ w k, w ≠ veVd q → k < 4096 → (t.tcore c).ve.elem 1 w k = (s.tcore c).ve.elem 1 w k) ∧
      ∀ i, (t.tcore c).ve.elem (veFmt q) (veVd q) i =
        if i < veCount q ∧ (s.tcore c).ve.active q i = true then (s.loaded c q i (s.laneDraw c q true i)).1 % 2 ^ fmtBits (veFmt q)
        else (s.tcore c).ve.elem (veFmt q) (veVd q) i := by
  have hop := atHead_op hhead
  obtain ⟨-, hfmt, hcount, -⟩ := vePushOk_fields (by omega) (by omega) (by omega) (veUse_vld hop) hok
  have hout : veOutFmt q = veFmt q := by unfold veOutFmt; rw [hop]; rfl
  have hany : (((s.tcore c).ve.activeList q).map (veSpan q)).any (fun p => s.poisonedIn (padBase c + p.1) p.2) = false := by
    rw [List.any_map, List.any_eq_false]
    exact fun i hi => Bool.eq_false_iff.1 (hclean i hi)
  have ht := OnlyVe.veRun (q := q) (p := s.lanes c q true (fun _ i d => s.loaded c q i d)) herr
    ((veReads_onlyVe (s := s) (c := c) (q := q)).lanes (q := q) s true (fun _ i d => s.loaded c q i d) _)
  rw [lanes_results] at ht
  refine ⟨_, (exec_vld hhead).trans (if_neg (Bool.eq_false_iff.1 hany)), ht.mem, ?_, ?_, ht.cc, ht.other, fun w k hw hk => ?_, fun i => ?_⟩
  · rw [ht.ve]
    exact congrArg (List.drop 1) (VeState.written_queue _ _)
  · rw [ht.ve]
    exact VeState.written_preds _ _
  · rw [ht.ve, VeState.elem_popped]
    exact VeState.elem_written_other _ _ (hout ▸ hfmt) (by rw [VeState.laneRes_length, hout]; exact hcount) hw hk
  · rw [ht.ve, VeState.elem_popped, ← hout, VeState.elem_written_laneRes _ (hout ▸ laneBits_of_veFmtOk hfmt)]

theorem vld_halts (hhead : s.atHead c .ve 0x20 = some q)
    (hpoison : ∃ i ∈ (s.tcore c).ve.activeList q, s.poisonedIn (padBase c + (veSpan q i).1) (veSpan q i).2 = true) :
    ∃ t, exec (.vld c err) s = .next t ∧ t.mem = s.mem ∧ (t.tcore c).ve = (s.tcore c).ve ∧ t.fget (R.TC_VE_STATUS.halted c) = 1 ∧
      t.fget (R.TC_VE_STATUS.halt_code c) = 3 ∧ (excVe, 2) ∈ (t.tcore c).cc.pending := by
  have hany : (((s.tcore c).ve.activeList q).map (veSpan q)).any (fun p => s.poisonedIn (padBase c + p.1) p.2) = true := by
    rw [List.any_map, List.any_eq_true]
    exact hpoison
  have hread := veReads_onlyVe (s := s) (c := c) (q := q)
  refine ⟨_, (exec_vld hhead).trans (if_pos hany), (veHalt_mem _ _).trans hread.mem, ?_, ?_, ?_, mem_veHalt _ _⟩
  · rw [ve_veHalt, hread.ve]
  · exact fget_veHalt_halted _ _
  · exact fget_veHalt_code _ (show 3 < 2 ^ 8 by decide)

/-! VST. -/

theorem veUse_vst (hop : qOp q = 0x21) : veUse q = some (veSub q == 0, ⟨true, false, true, false, false, true, false⟩) := by
  unfold veUse
  rw [hop]
  rfl

/-- The element that a VST stores (R195). -/
def State.stored (s : State) (c : Nat) (q : Quad) (i d : Nat) : Nat × Flags :=
  if veMemFmt q = veFmt q then ((s.tcore c).ve.src1 q i, .zero)
  else convertBits (veFmt q) (veMemFmt q) (veMode q d) (bit (veCtl q) 3) ((s.tcore c).ve.src1 q i)

/-- The element of a VST with its draw (R119). -/
def State.storedElem (s : State) (c : Nat) (q : Quad) (i : Nat) : Nat × Flags :=
  s.stored c q i (if veCtl q % 8 = 4 then s.draw c (((s.tcore c).ve.activeList q).idxOf i) else 0)

/-- The run of bits that a VST writes for an element. -/
def State.storedRun (s : State) (c : Nat) (q : Quad) (i : Nat) : Nat × Nat × Nat :=
  (veBitAt q i, fmtBits (veMemFmt q), (s.storedElem c q i).1)

/-- The state in which a VST has written its elements and its tail. -/
def State.veStored (s : State) (c : Nat) (q : Quad) : State :=
  s.storeBits c (((s.tcore c).ve.activeList q).map (s.storedRun c q) ++ veTail q ((s.tcore c).ve.activeList q))

theorem mem_activeList {v : VeState} {i : Nat} : i ∈ v.activeList q ↔ i < veCount q ∧ v.active q i = true := by
  unfold VeState.activeList
  rw [List.mem_filter, List.mem_range]

theorem vst_writes (hhead : s.atHead c .ve 0x21 = some q) (herr : err.first = []) :
    ∃ t, exec (.vst c err) s = .next t ∧ OnlyVe (s.veStored c q) t c (s.tcore c).ve.popped := by
  let els := (s.tcore c).ve.laneRes q (s.storedElem c q)
  let fl := els.foldl (fun (f : Flags) o => match o with | some r => f.or r.2 | none => f) Flags.zero
  let act := (s.tcore c).ve.activeList q
  let ws := act.map (fun i => (veBitAt q i, fmtBits (veMemFmt q), match (els[i]?).join with | some r => r.1 | none => 0))
  have hexec : exec (.vst c err) s = .next (s.veRun c q err (els, fun els t =>
      let ws := act.map (fun i => (veBitAt q i, fmtBits (veMemFmt q), match (els[i]?).join with | some r => r.1 | none => 0))
      let fl := els.foldl (fun f o => match o with | some r => f.or r.2 | none => f) Flags.zero
      ((t.storeBits c (ws ++ veTail q act)).veFlags c fl).advanceSr c (veCtl q) act.length)) :=
    startVe_runs hhead (.inl rfl)
  have hws : ws = act.map (s.storedRun c q) := by
    refine List.map_congr_left (fun i hi => ?_)
    rw [VeState.laneRes_at, if_pos (mem_activeList.1 hi)]
    rfl
  have hve : ((s.veStored c q).tcore c).ve = (s.tcore c).ve := by
    unfold State.tcore State.veStored
    rw [storeBits_tcores]
  refine ⟨_, hexec, ?_⟩
  rw [veRun_written herr]
  show OnlyVe _ (((((s.storeBits c (ws ++ veTail q act)).veFlags c fl).advanceSr c (veCtl q) act.length).finc _ _).popQueue c .ve) c _
  rw [hws, ← hve]
  exact (((OnlyVe.refl.setReg _ _).advanceSr _ _).finc _ _).popQueue

/-! Where the elements of a memory operand lie (R104, R195, R200). -/

theorem veMemOk_stride (h : veMemOk q = true) : 1 ≤ veStride q := by
  unfold veMemOk at h
  simp only [Bool.and_eq_true, decide_eq_true_eq] at h
  obtain ⟨⟨⟨-, hstride⟩, -⟩, -⟩ := h
  exact hstride

theorem veBitAt_apart (hstride : 1 ≤ veStride q) {i j : Nat} (hij : i < j) : veBitAt q i + fmtBits (veMemFmt q) ≤ veBitAt q j := by
  unfold veBitAt
  rw [Nat.mul_assoc, Nat.mul_assoc]
  have hstep : fmtBits (veMemFmt q) ≤ veStride q * fmtBits (veMemFmt q) := Nat.le_mul_of_pos_left _ hstride
  have hnext : (i + 1) * (veStride q * fmtBits (veMemFmt q)) ≤ j * (veStride q * fmtBits (veMemFmt q)) := Nat.mul_le_mul_right _ hij
  rw [Nat.add_mul] at hnext
  omega

theorem veBitAt_packed (hstride : veStride q = 1) {i : Nat} (hi : i < veCount q) :
    veBitAt q i + fmtBits (veMemFmt q) ≤ 8 * veAddr q + veCount q * fmtBits (veMemFmt q) := by
  have h := veBitAt_apart (le_of_eq hstride.symm) hi
  unfold veBitAt at h ⊢
  rw [hstride, Nat.mul_one, Nat.mul_one] at h
  rw [hstride, Nat.mul_one]
  exact h

/-- Elements in a packed operand's last group (R104). -/
def veGroup (q : Quad) : Nat := if fmtBits (veMemFmt q) = 6 then 4 else if fmtBits (veMemFmt q) = 4 then 2 else 1

theorem veTail_eq (act : List Nat) : veTail q act =
    if veStride q = 1 ∧ veCount q * fmtBits (veMemFmt q) < 8 * packedBytes (veMemFmt q) (veCount q) ∧
        act.any (fun i => decide ((veCount q - 1) / veGroup q ≤ i / veGroup q)) = true then
      [(8 * veAddr q + veCount q * fmtBits (veMemFmt q),
        8 * packedBytes (veMemFmt q) (veCount q) - veCount q * fmtBits (veMemFmt q), 0)]
    else [] := by
  have hgroup : veGroup q = match fmtBits (veMemFmt q) with | 6 => 4 | 4 => 2 | _ => 1 := by
    unfold veGroup
    split
    · next h => rw [h]; rfl
    · split
      · next h => rw [h]; rfl
      · next h6 h4 => split <;> [exact absurd ‹_› h6; exact absurd ‹_› h4; rfl]
  rw [hgroup]
  rfl

/-- A run of a VST's tail is the one of a packed operand's unused bits. -/
theorem mem_veTail {act : List Nat} {w : Nat × Nat × Nat} (h : w ∈ veTail q act) :
    (veStride q = 1 ∧ veCount q * fmtBits (veMemFmt q) < 8 * packedBytes (veMemFmt q) (veCount q)) ∧
    w = (8 * veAddr q + veCount q * fmtBits (veMemFmt q), 8 * packedBytes (veMemFmt q) (veCount q) - veCount q * fmtBits (veMemFmt q), 0) := by
  rw [veTail_eq] at h
  split at h
  · next hc => exact ⟨⟨hc.1, hc.2.1⟩, List.mem_singleton.1 h⟩
  · exact absurd h List.not_mem_nil

/-- The runs of a VST do not overlap. -/
theorem storedRuns_alone (hstride : 1 ≤ veStride q) {w w' : Nat × Nat × Nat} {k : Nat}
    (hw : w ∈ ((s.tcore c).ve.activeList q).map (s.storedRun c q) ++ veTail q ((s.tcore c).ve.activeList q))
    (hw' : w' ∈ ((s.tcore c).ve.activeList q).map (s.storedRun c q) ++ veTail q ((s.tcore c).ve.activeList q))
    (hk : Covers w k) (hk' : Covers w' k) : w' = w := by
  have htail {i : Nat} {u : Nat × Nat × Nat} (hi : i ∈ (s.tcore c).ve.activeList q) (hu : u ∈ veTail q ((s.tcore c).ve.activeList q))
      (hik : Covers (s.storedRun c q i) k) (huk : Covers u k) : False := by
    obtain ⟨⟨hone, -⟩, rfl⟩ := mem_veTail hu
    have hend := veBitAt_packed hone (mem_activeList.1 hi).1
    obtain ⟨-, hlt⟩ := hik
    obtain ⟨hle, -⟩ := huk
    unfold State.storedRun at hlt
    dsimp only at hlt hle
    omega
  have heq {i j : Nat} (hik : Covers (s.storedRun c q i) k) (hjk : Covers (s.storedRun c q j) k) : ¬ i < j := by
    intro hij
    have hapart := veBitAt_apart hstride hij
    obtain ⟨-, hlt⟩ := hik
    obtain ⟨hle, -⟩ := hjk
    unfold State.storedRun at hlt hle
    dsimp only at hlt hle
    omega
  obtain hw | hw := List.mem_append.1 hw <;> obtain hw' | hw' := List.mem_append.1 hw'
  · obtain ⟨i, hi, rfl⟩ := List.mem_map.1 hw
    obtain ⟨j, hj, rfl⟩ := List.mem_map.1 hw'
    rw [show j = i from Nat.le_antisymm (Nat.le_of_not_lt (heq hk hk')) (Nat.le_of_not_lt (heq hk' hk))]
  · obtain ⟨i, hi, rfl⟩ := List.mem_map.1 hw
    exact (htail hi hw' hk hk').elim
  · obtain ⟨i, hi, rfl⟩ := List.mem_map.1 hw'
    exact (htail hi hw hk' hk).elim
  · rw [(mem_veTail hw).2, (mem_veTail hw').2]

theorem padBits_veStored (hstride : 1 ≤ veStride q) {i : Nat} (hi : i ∈ (s.tcore c).ve.activeList q) :
    (s.veStored c q).padBits c (veBitAt q i) (fmtBits (veMemFmt q)) = (s.storedElem c q i).1 % 2 ^ fmtBits (veMemFmt q) := by
  have hw := List.mem_append_left (veTail q ((s.tcore c).ve.activeList q)) (List.mem_map_of_mem (f := s.storedRun c q) hi)
  have h := padBits_storeBits s c hw (fun w' hw' k hk hk' => storedRuns_alone hstride hw hw' hk hk')
  rwa [show (s.storedRun c q i).1 = veBitAt q i from rfl, show (s.storedRun c q i).2.1 = fmtBits (veMemFmt q) from rfl] at h

theorem padBits_veStored_tail (hstride : veStride q = 1)
    (hlast : ∃ i ∈ (s.tcore c).ve.activeList q, (veCount q - 1) / veGroup q ≤ i / veGroup q) :
    (s.veStored c q).padBits c (8 * veAddr q + veCount q * fmtBits (veMemFmt q))
      (8 * packedBytes (veMemFmt q) (veCount q) - veCount q * fmtBits (veMemFmt q)) = 0 := by
  by_cases hpart : veCount q * fmtBits (veMemFmt q) < 8 * packedBytes (veMemFmt q) (veCount q)
  · have hany : ((s.tcore c).ve.activeList q).any (fun i => decide ((veCount q - 1) / veGroup q ≤ i / veGroup q)) = true := by
      obtain ⟨i, hi, hle⟩ := hlast
      exact List.any_eq_true.2 ⟨i, hi, decide_eq_true hle⟩
    have htail : (8 * veAddr q + veCount q * fmtBits (veMemFmt q), 8 * packedBytes (veMemFmt q) (veCount q) - veCount q * fmtBits (veMemFmt q), 0) ∈
        veTail q ((s.tcore c).ve.activeList q) := by
      rw [veTail_eq, if_pos ⟨hstride, hpart, hany⟩]
      exact List.mem_singleton_self _
    have hw := List.mem_append_right (((s.tcore c).ve.activeList q).map (s.storedRun c q)) htail
    exact (padBits_storeBits s c hw (fun w' hw' k hk hk' => storedRuns_alone (le_of_eq hstride.symm) hw hw' hk hk')).trans (Nat.zero_mod _)
  · rw [Nat.sub_eq_zero_of_le (Nat.le_of_not_lt hpart)]
    exact Nat.mod_one _

theorem byte_veStored_outside {a : Nat}
    (hspans : ∀ i ∈ (s.tcore c).ve.activeList q, a < padBase c + (veSpan q i).1 ∨ padBase c + (veSpan q i).1 + (veSpan q i).2 ≤ a)
    (hpacked : veStride q = 1 → a < padBase c + veAddr q ∨ padBase c + veAddr q + packedBytes (veMemFmt q) (veCount q) ≤ a) :
    (s.veStored c q).byte a = s.byte a := by
  refine byte_storeBits_outside s c (fun w hw => ?_)
  obtain hw | hw := List.mem_append.1 hw
  · obtain ⟨i, hi, rfl⟩ := List.mem_map.1 hw
    exact hspans i hi
  · obtain ⟨⟨hone, hpart⟩, rfl⟩ := mem_veTail hw
    have h := hpacked hone
    unfold bitSpan
    dsimp only
    omega

theorem vst_stores (hhead : s.atHead c .ve 0x21 = some q) (hok : vePushOk q = true) (herr : err.first = []) :
    ∃ t, exec (.vst c err) s = .next t ∧ (t.tcore c).ve = (s.tcore c).ve.popped ∧ (t.tcore c).cc = (s.tcore c).cc ∧
      (∀ e, e ≠ c → t.tcore e = s.tcore e) ∧
      (∀ i ∈ (s.tcore c).ve.activeList q, t.padBits c (veBitAt q i) (fmtBits (veMemFmt q)) = (s.storedElem c q i).1 % 2 ^ fmtBits (veMemFmt q)) ∧
      (veStride q = 1 → (∃ i ∈ (s.tcore c).ve.activeList q, (veCount q - 1) / veGroup q ≤ i / veGroup q) →
        t.padBits c (8 * veAddr q + veCount q * fmtBits (veMemFmt q))
          (8 * packedBytes (veMemFmt q) (veCount q) - veCount q * fmtBits (veMemFmt q)) = 0) ∧
      (∀ a, (∀ i ∈ (s.tcore c).ve.activeList q, a < padBase c + (veSpan q i).1 ∨ padBase c + (veSpan q i).1 + (veSpan q i).2 ≤ a) →
        (veStride q = 1 → a < padBase c + veAddr q ∨ padBase c + veAddr q + packedBytes (veMemFmt q) (veCount q) ≤ a) →
        t.byte a = s.byte a) := by
  have hop := atHead_op hhead
  obtain ⟨-, -, -, -, hmem, -⟩ := vePushOk_fields (by omega) (by omega) (by omega) (veUse_vst hop) hok
  have hstride := veMemOk_stride (hmem rfl)
  obtain ⟨t, hexec, ht⟩ := vst_writes hhead herr
  have htcore (e : Nat) : (s.veStored c q).tcore e = s.tcore e := by
    unfold State.tcore State.veStored
    rw [storeBits_tcores]
  have hbits (a b : Nat) : t.padBits c a b = (s.veStored c q).padBits c a b := by
    unfold State.padBits State.padBytes State.bytes State.byte
    rw [ht.mem]
  refine ⟨t, hexec, ht.ve, ht.cc.trans (by rw [htcore]), fun e he => (ht.other e he).trans (htcore e), fun i hi => ?_, fun hone hlast => ?_, fun a hspans hpacked => ?_⟩
  · rw [hbits, padBits_veStored hstride hi]
  · rw [hbits, padBits_veStored_tail hone hlast]
  · rw [byte_congr ht.mem, byte_veStored_outside hspans hpacked]

theorem laneDraw_eq (i : Nat) : s.laneDraw c q true i = if veCtl q % 8 = 4 then s.draw c (((s.tcore c).ve.activeList q).idxOf i) else 0 := by
  unfold State.laneDraw
  rw [Bool.true_and]
  exact if_congr beq_iff_eq rfl rfl

end

/-- Settles O27: VLD reads its elements or halts, and the runs of bits that VST stores do not overlap. -/
theorem veMemoryOperands : Obligations.VeMemoryOperands := by
  unfold Obligations.VeMemoryOperands
  refine ⟨fun c err s q hhead hok herr => ⟨fun hclean => ?_, vld_halts hhead⟩, fun c err s q hhead hok herr => ?_⟩
  · obtain ⟨t, hexec, hmem, hqueue, hpreds, hcc, hother, hregs, helem⟩ := vld_loads hhead hok herr hclean
    refine ⟨t, hexec, hmem, hqueue, hpreds, hcc, hother, hregs, fun i => ?_⟩
    rw [helem, laneDraw_eq]
    unfold State.loaded
    rw [apply_ite Prod.fst]
  · obtain ⟨t, hexec, hve, hcc, hother, helem, htail, hbyte⟩ := vst_stores hhead hok herr
    refine ⟨t, hexec, hve, hcc, hother, fun i hi => ?_, htail, hbyte⟩
    rw [helem i hi]
    unfold State.storedElem State.stored
    rw [apply_ite Prod.fst]

end Sys2Proof.Machine

/-! Reductions: VSEG, VRECV, the exact tap and VRGET (R121, R194, R199, R202, R204, R205, R207, R209, R212). -/
namespace Sys2Proof.Machine

/-- An element of a list of which one element is changed. -/
theorem getElem?_updateAt {α : Type} (l : List α) (i : Nat) (f : α → α) (k : Nat) : (updateAt l i f)[k]? = if k = i then l[k]?.map f else l[k]? := by
  induction l generalizing i k with
  | nil => simp [updateAt]
  | cons a rest ih =>
    cases i <;> cases k <;> simp [updateAt, ih]

/-- A field below a power of two is kept by the remainder. -/
theorem fld_mod_two_pow (n : Nat) {lo width w : Nat} (h : lo + width ≤ w) : fld (n % 2 ^ w) lo width = fld n lo width := by
  refine Nat.eq_of_testBit_eq (fun i => ?_)
  rw [testBit_fld, testBit_fld, Nat.testBit_mod_two_pow]
  by_cases hi : i < width
  · rw [decide_eq_true (by omega : lo + i < w), Bool.true_and]
  · rw [decide_eq_false hi, Bool.false_and, Bool.false_and]

section
variable {s : State} {c : Nat} {err : VeErrors} {q : Quad}

/-! VSEG. -/

theorem laneBits_veOutFmt_vseg (hop : qOp q = 0x58) : LaneBits (fmtBits (veOutFmt q)) := by
  have hout : veOutFmt q = if veFmt q = 0 then 0 else if veFmt q ≤ 5 then 1 else 0x12 := by
    unfold veOutFmt
    rw [hop]
    rfl
  rw [hout]
  unfold LaneBits
  split
  · decide
  · split <;> decide

/-- Group `j` of a VSEG condensed (R199). -/
def VeState.group (v : VeState) (q : Quad) (j : Nat) : Option (Nat × Flags) :=
  vsegGroup q ((List.range (2 ^ (veSub q / 4))).map (fun k =>
    if j * 2 ^ (veSub q / 4) + k < veCount q ∧ v.active q (j * 2 ^ (veSub q / 4) + k) = true then
      some (v.src1 q (j * 2 ^ (veSub q / 4) + k)) else none))

def VeState.groups (v : VeState) (q : Quad) : VeRes :=
  (List.range ((veCount q + 2 ^ (veSub q / 4) - 1) / 2 ^ (veSub q / 4))).map (v.group q)

theorem vseg_writes (hhead : s.atHead c .ve 0x58 = some q) (herr : err.first = []) :
    ∃ t, exec (.vseg c err) s = .next t ∧ OnlyVe s t c ((s.tcore c).ve.written q ((s.tcore c).ve.groups q)).popped := by
  have hexec : exec (.vseg c err) s = .next (s.veRun c q err ((s.tcore c).ve.groups q, fun els t => t.veWrite c q els)) :=
    startVe_runs hhead (.inl rfl)
  exact ⟨_, hexec, .veRun herr (OnlyVe.refl.veWrite _)⟩

theorem vseg_condenses (hhead : s.atHead c .ve 0x58 = some q) (herr : err.first = []) :
    ∃ t, exec (.vseg c err) s = .next t ∧ (t.tcore c).ve.queue = (s.tcore c).ve.queue.drop 1 ∧ t.mem = s.mem ∧
      (t.tcore c).ve.preds = (s.tcore c).ve.preds ∧ (∀ e, e ≠ c → t.tcore e = s.tcore e) ∧
      ∀ i, (t.tcore c).ve.elem (veOutFmt q) (veVd q) i =
        if i < (veCount q + 2 ^ (veSub q / 4) - 1) / 2 ^ (veSub q / 4) then
          (match (s.tcore c).ve.group q i with
           | some r => r.1 % 2 ^ fmtBits (veOutFmt q)
           | none => (s.tcore c).ve.elem (veOutFmt q) (veVd q) i)
        else (s.tcore c).ve.elem (veOutFmt q) (veVd q) i := by
  have hop := atHead_op hhead
  obtain ⟨t, hexec, ht⟩ := vseg_writes hhead herr
  refine ⟨t, hexec, ?_, ht.mem, ?_, ht.other, fun i => ?_⟩
  · rw [ht.ve]
    exact congrArg (List.drop 1) (VeState.written_queue _ _)
  · rw [ht.ve]
    exact VeState.written_preds _ _
  · rw [ht.ve, VeState.elem_popped, VeState.elem_written_eq, VeState.elem_putEls _ (laneBits_veOutFmt_vseg hop), VeState.groups,
      List.getElem?_map]
    by_cases hi : i < (veCount q + 2 ^ (veSub q / 4) - 1) / 2 ^ (veSub q / 4)
    · rw [List.getElem?_range hi, if_pos hi]
      rfl
    · rw [List.getElem?_eq_none (by simpa using hi), if_neg hi]
      rfl

/-! VRECV. -/

/-- A VRECV refused for a drain of another format (R202). -/
def State.recvRefused (s : State) (c : Nat) (q : Quad) : Bool :=
  ((s.tcore c).ve.stream.take (veCount q)).any (fun e => e.1 != veFmt q) ||
    (match (s.tcore c).me.toVe with
     | some d => decide ((s.tcore c).ve.stream.length < veCount q) && meFmt d.q != veFmt q
     | none => false)

theorem exec_vrecv (hhead : s.atHead c .ve 0x60 = some q) : exec (.vrecv c err) s =
    if s.recvRefused c q = true then .next (s.veHalt c 0x01)
    else
      let s1 := if (s.tcore c).ve.stream.length < veCount q then s.takeToVe c (veCount q - (s.tcore c).ve.stream.length) else s
      if (s1.tcore c).ve.stream.length < veCount q then .next s1 else .next (s1.veRun c q err (s1.recvPlan c q)) := by
  show execVrecv _ _ _ = _
  unfold execVrecv
  rw [hhead]
  rfl

/-- A stream of elements of the VRECV's own format, with enough of them or a DRAIN of that format behind them. -/
theorem recvRefused_false (hfmt : ∀ e ∈ (s.tcore c).ve.stream.take (veCount q), e.1 = veFmt q)
    (hdrain : ∀ d, (s.tcore c).me.toVe = some d → (s.tcore c).ve.stream.length < veCount q → meFmt d.q = veFmt q) : s.recvRefused c q = false := by
  have hany : ((s.tcore c).ve.stream.take (veCount q)).any (fun e => e.1 != veFmt q) = false := by
    rw [List.any_eq_false]
    intro e he
    rw [hfmt e he, bne_self_eq_false]
    exact Bool.false_ne_true
  unfold State.recvRefused
  rw [hany, Bool.false_or]
  split
  · next d hd =>
    by_cases hlen : (s.tcore c).ve.stream.length < veCount q
    · rw [hdrain d hd hlen, bne_self_eq_false, Bool.and_false]
    · rw [decide_eq_false hlen, Bool.false_and]
  · rfl

theorem vrecv_halts (hhead : s.atHead c .ve 0x60 = some q)
    (h : (∃ e ∈ (s.tcore c).ve.stream.take (veCount q), e.1 ≠ veFmt q) ∨
      ∃ d, (s.tcore c).me.toVe = some d ∧ (s.tcore c).ve.stream.length < veCount q ∧ meFmt d.q ≠ veFmt q) :
    ∃ t, exec (.vrecv c err) s = .next t ∧ (t.tcore c).ve = (s.tcore c).ve ∧ t.fget (R.TC_VE_STATUS.halted c) = 1 ∧
      t.fget (R.TC_VE_STATUS.halt_code c) = 1 ∧ t.mem = s.mem := by
  refine ⟨_, (exec_vrecv hhead).trans (if_pos ?_), ve_veHalt s 1, fget_veHalt_halted s 1, fget_veHalt_code s (show 1 < 2 ^ 8 by decide), veHalt_mem s 1⟩
  unfold State.recvRefused
  rw [Bool.or_eq_true]
  obtain ⟨e, he, hfmt⟩ | ⟨d, hd, hlen, hfmt⟩ := h
  · exact .inl (List.any_eq_true.2 ⟨e, he, bne_iff_ne.2 hfmt⟩)
  · rw [hd]
    exact .inr (Bool.and_eq_true_iff.2 ⟨decide_eq_true hlen, bne_iff_ne.2 hfmt⟩)

theorem takeToVe_none (n : Nat) (h : (s.tcore c).me.toVe = none) : s.takeToVe c n = s := by
  unfold State.takeToVe
  rw [h]

theorem vrecv_waits (hhead : s.atHead c .ve 0x60 = some q) (hfmt : ∀ e ∈ (s.tcore c).ve.stream.take (veCount q), e.1 = veFmt q)
    (hlen : (s.tcore c).ve.stream.length < veCount q) (hnone : (s.tcore c).me.toVe = none) : exec (.vrecv c err) s = .next s := by
  rw [exec_vrecv hhead, recvRefused_false hfmt (fun d hd => by rw [hnone] at hd; contradiction), if_neg Bool.false_ne_true]
  dsimp only
  rw [if_pos hlen, takeToVe_none _ hnone, if_pos hlen]

theorem atHead_queue (h : s.atHead c .ve op = some q) : ∃ rest, (s.tcore c).ve.queue = q :: rest := by
  unfold State.atHead at h
  split at h
  · next i rest heq =>
    split at h
    · exact ⟨rest, Option.some.inj h ▸ heq⟩
    · exact absurd h (by simp)
  · exact absurd h (by simp)

theorem fld_eq_getField (w : Word) (lo width : Nat) : fld w.toNat lo width = getField w lo width := by
  unfold fld getField
  rw [BitVec.toNat_ushiftRight, Nat.shiftRight_eq_div_pow]

/-- A VRECV at the head of a queue that runs, with too few drained elements and no DRAIN behind them, shows recv_wait (R211). -/
theorem veStatusWord_waits (hhead : s.atHead c .ve 0x60 = some q) (hlen : (s.tcore c).ve.stream.length < veCount q)
    (hnone : (s.tcore c).me.toVe = none) (hstop : (s.tcore c).ve.stopped = false) (hhalt : s.fget (R.TC_VE_STATUS.halted c) = 0) :
    getField (s.veStatusWord c) 2 1 = 1 := by
  obtain ⟨rest, hqueue⟩ := atHead_queue hhead
  have hop := atHead_op hhead
  have hfld : fld (s.reg (A.TC_VE_STATUS c)).toNat 1 1 = 0 := (fld_eq_getField _ _ _).trans hhalt
  unfold State.veStatusWord
  dsimp only
  refine (getField_setField_other _ 0 1 _ 2 1 (by decide) (by decide)).trans ?_
  refine (getField_setField_same _ 2 1 _ (by decide)).trans ?_
  rw [hqueue, hstop, hnone, hfld]
  dsimp only
  rw [hop, decide_eq_true hlen]
  rfl

theorem veUse_vrecv (hop : qOp q = 0x60) : veUse q =
    some (decide (veSub q ≤ 3), ⟨veSub q == 1 || veSub q == 2, true, veSub q != 0, false, false, false, true⟩) := by
  unfold veUse
  rw [hop]
  rfl

/-- VRECV's operation on a drained element (R197). -/
def VeState.received (v : VeState) (q : Quad) (i d : Nat) : Nat × Flags :=
  let x := (v.stream.getD i (0, 0)).2
  let a := decodeNum (veFmt q) x
  let b := decodeNum (veFmt q) (v.src1 q i)
  match veSub q with
  | 0 => (x, .zero)
  | 1 => veDeliver q d (FpNum.add (veDown q) a b)
  | 2 => veDeliver q d (FpNum.mul a b)
  | _ => vePlain q (minMax true a b)

theorem received_value (v : VeState) (i d : Nat) : (v.received q i d).1 =
    match veSub q with
    | 0 => (v.stream.getD i (0, 0)).2
    | 1 => (veDeliver q d (FpNum.add (veDown q) (decodeNum (veFmt q) (v.stream.getD i (0, 0)).2) (decodeNum (veFmt q) (v.src1 q i)))).1
    | 2 => (veDeliver q d (FpNum.mul (decodeNum (veFmt q) (v.stream.getD i (0, 0)).2) (decodeNum (veFmt q) (v.src1 q i)))).1
    | _ => (vePlain q (minMax true (decodeNum (veFmt q) (v.stream.getD i (0, 0)).2) (decodeNum (veFmt q) (v.src1 q i)))).1 := by
  unfold VeState.received
  generalize veSub q = sub
  match sub with
  | 0 | 1 | 2 | _ + 3 => rfl

/-- A vector engine behind a VRECV: its results written, and its elements off the stream. -/
def VeState.streamed (v : VeState) (q : Quad) (els : VeRes) : VeState := { v.written q els with stream := v.stream.drop (veCount q) }

/-- VRECV with its elements at hand. -/
theorem recvPlan_onlyVe (herr : err.first = []) : OnlyVe s (s.veRun c q err (s.recvPlan c q)) c
    ((s.tcore c).ve.streamed q ((s.tcore c).ve.laneRes q (fun i => (s.tcore c).ve.received q i (s.laneDraw c q true i)))).popped := by
  have hplan : s.recvPlan c q = (((s.tcore c).ve.laneRes q (fun i => (s.tcore c).ve.received q i (s.laneDraw c q true i))), fun els t =>
      ((s.lanes c q true (fun v i d => v.received q i d)).2 els t).onVe c (fun v => { v with stream := v.stream.drop (veCount q) })) := rfl
  rw [hplan]
  have hstream (els : VeRes) : ((s.tcore c).ve.written q els).stream = (s.tcore c).ve.stream := VeState.putEls_stream _ _ _ _
  have h := ((OnlyVe.refl (s := s) (c := c)).lanes (q := q) s true (fun v i d => v.received q i d)
    ((s.tcore c).ve.laneRes q (fun i => (s.tcore c).ve.received q i (s.laneDraw c q true i)))).onVe
    (fun v => { v with stream := v.stream.drop (veCount q) })
  rw [hstream] at h
  exact OnlyVe.veRun (v := VeState.streamed _ q _) herr h

/-- What a VRECV writes. -/
theorem elem_streamed (hop : qOp q = 0x60) (hok : vePushOk q = true) (v : VeState) (f : Nat → Nat × Flags) (i : Nat) :
    (v.streamed q (v.laneRes q f)).popped.elem (veFmt q) (veVd q) i =
      if i < veCount q ∧ v.active q i = true then (f i).1 % 2 ^ fmtBits (veFmt q) else v.elem (veFmt q) (veVd q) i := by
  obtain ⟨-, hfmt, -⟩ := vePushOk_fields (by omega) (by omega) (by omega) (veUse_vrecv hop) hok
  have hout : veOutFmt q = veFmt q := by unfold veOutFmt; rw [hop]; rfl
  have h := v.elem_written_laneRes (q := q) (hout ▸ laneBits_of_veFmtOk hfmt) f i
  rw [hout] at h
  exact h

theorem queue_streamed (v : VeState) (els : VeRes) : (v.streamed q els).popped.queue = v.queue.drop 1 :=
  congrArg (List.drop 1) (VeState.written_queue v els)

theorem vrecv_takes (hhead : s.atHead c .ve 0x60 = some q) (hok : vePushOk q = true)
    (hfmt : ∀ e ∈ (s.tcore c).ve.stream.take (veCount q), e.1 = veFmt q) (hlen : veCount q ≤ (s.tcore c).ve.stream.length) (herr : err.first = []) :
    ∃ t, exec (.vrecv c err) s = .next t ∧ (t.tcore c).ve.stream = (s.tcore c).ve.stream.drop (veCount q) ∧
      (t.tcore c).ve.queue = (s.tcore c).ve.queue.drop 1 ∧ (t.tcore c).me = (s.tcore c).me ∧ t.mem = s.mem ∧
      (∀ e, e ≠ c → t.tcore e = s.tcore e) ∧
      ∀ i, (t.tcore c).ve.elem (veFmt q) (veVd q) i =
        if i < veCount q ∧ (s.tcore c).ve.active q i = true then
          ((s.tcore c).ve.received q i (s.laneDraw c q true i)).1 % 2 ^ fmtBits (veFmt q)
        else (s.tcore c).ve.elem (veFmt q) (veVd q) i := by
  have hlt : ¬ (s.tcore c).ve.stream.length < veCount q := Nat.not_lt.2 hlen
  have hexec : exec (.vrecv c err) s = .next (s.veRun c q err (s.recvPlan c q)) := by
    rw [exec_vrecv hhead, recvRefused_false hfmt (fun _ _ h => absurd h hlt), if_neg Bool.false_ne_true]
    dsimp only
    rw [if_neg hlt, if_neg hlt]
  have ht := recvPlan_onlyVe (s := s) (c := c) (q := q) herr
  refine ⟨_, hexec, congrArg VeState.stream ht.ve, ?_, ht.me, ht.mem, ht.other, fun i => ?_⟩
  · rw [ht.ve, queue_streamed]
  · rw [ht.ve, elem_streamed (atHead_op hhead) hok]

/-! A VRECV that takes the whole of the DRAIN behind it (R202). -/

theorem length_drainOutputs (d : Quad) (outScale ctr : Nat) : (s.drainOutputs c d outScale ctr).1.length = meDRows d * meDCols d := by
  unfold State.drainOutputs
  dsimp only
  rw [List.length_map, List.length_map, List.length_range]

/-- The stream that a whole DRAIN hands over. -/
def State.drained (s : State) (c : Nat) (d : ToVe) : List (Nat × Nat) :=
  (s.drainOutputs c d.q d.outScale (s.fget (R.TC_NUM_SR_CTR.sr_ctr c))).1.map (fun x => (meFmt d.q, x))

/-- The core whose DRAIN was taken to its end. -/
structure TookAll (s t : State) (c : Nat) (d : ToVe) : Prop where
  mem : t.mem = s.mem
  ve : (t.tcore c).ve = { (s.tcore c).ve with stream := s.drained c d }
  toVe : (t.tcore c).me.toVe = none
  entry : ∀ r j, r < meDRows d.q → j < meDCols d.q → j < 4096 → (t.tcore c).me.entry r j = AccEntry.empty

theorem endToVe_ends (t : State) (d : ToVe) :
    (t.endToVe c d false).mem = t.mem ∧ ((t.endToVe c d false).tcore c).ve = (t.tcore c).ve ∧ ((t.endToVe c d false).tcore c).me.toVe = none ∧
      ∀ r j, r < meDRows d.q → j < meDCols d.q → j < 4096 → ((t.endToVe c d false).tcore c).me.entry r j = AccEntry.empty := by
  unfold State.endToVe
  dsimp only
  generalize hu : (if (false || meFmt d.q == fmtRaw) = true then t else t.meFlags c (t.drainOutputs c d.q d.outScale (d.ctr.getD 0)).2) = u
  have hmem : u.mem = t.mem := by rw [← hu]; split <;> rfl
  have hcore : u.tcore c = t.tcore c := by rw [← hu]; split <;> rfl
  have hve : (u.tcore c).ve = (t.tcore c).ve := by rw [hcore]
  refine ⟨(State.onMe_mem u c _).trans hmem, ?_, ?_, fun r j hr hj hj' => ?_⟩
  · exact (congrArg TCore.ve (State.tcore_onMe_same u c _)).trans hve
  · rw [me_onMe]
  · rw [me_onMe]
    exact entry_emptied_covered _ _ _ _ hj' hr hj

theorem takeToVe_all {d : ToVe} (hd : (s.tcore c).me.toVe = some d) (hctr : d.ctr = none) (htaken : d.taken = 0)
    (hstream : (s.tcore c).ve.stream = []) : TookAll s (s.takeToVe c (meDRows d.q * meDCols d.q)) c d := by
  have hone : 0 + Nat.min (meDRows d.q * meDCols d.q) (meDRows d.q * meDCols d.q - 0) = meDRows d.q * meDCols d.q := by
    rw [Nat.sub_zero, Nat.zero_add]
    exact Nat.min_self _
  have hgot : (((s.drainOutputs c d.q d.outScale (s.fget (R.TC_NUM_SR_CTR.sr_ctr c))).1.drop 0).take (meDRows d.q * meDCols d.q)).map
      (fun x => (meFmt d.q, x)) = s.drained c d := by
    rw [List.drop_zero, List.take_of_length_le (length_drainOutputs _ _ _).le]
    rfl
  unfold State.takeToVe
  rw [hd]
  dsimp only
  rw [hctr, htaken, hone]
  dsimp only [Option.getD_none]
  rw [hgot, if_pos rfl]
  generalize hu : (if (none : Option Nat).isNone = true then s.advanceSr c (meScale d.q) (meDRows d.q * meDCols d.q) else s) = u
  have humem : u.mem = s.mem := by rw [← hu]; exact advanceSr_mem _ _ _ _
  have hucore : u.tcore c = s.tcore c := by rw [← hu]; unfold State.tcore; exact congrArg (fun l => assocGet _ l c) (advanceSr_tcores s c _ _)
  obtain ⟨hmem, hve, htoVe, hentry⟩ := endToVe_ends (c := c) (u.onVe c (fun v => { v with stream := v.stream ++ s.drained c d }))
    { d with ctr := some (s.fget (R.TC_NUM_SR_CTR.sr_ctr c)), taken := meDRows d.q * meDCols d.q }
  refine ⟨hmem.trans humem, hve.trans ?_, htoVe, hentry⟩
  refine (congrArg TCore.ve (State.tcore_onVe_same u c _)).trans ?_
  rw [hucore, hstream]
  rfl

theorem vrecv_drains {d : ToVe} (hhead : s.atHead c .ve 0x60 = some q) (hok : vePushOk q = true) (hd : (s.tcore c).me.toVe = some d)
    (hctr : d.ctr = none) (htaken : d.taken = 0) (hstream : (s.tcore c).ve.stream = []) (hfmt : meFmt d.q = veFmt q)
    (htotal : meDRows d.q * meDCols d.q = veCount q) (hsub : veSub q = 0) (herr : err.first = []) :
    ∃ t, exec (.vrecv c err) s = .next t ∧ (t.tcore c).me.toVe = none ∧ (t.tcore c).ve.stream = [] ∧
      (t.tcore c).ve.queue = (s.tcore c).ve.queue.drop 1 ∧ t.mem = s.mem ∧
      (∀ r j, r < meDRows d.q → j < meDCols d.q → j < 4096 → (t.tcore c).me.entry r j = AccEntry.empty) ∧
      ∀ i, (t.tcore c).ve.elem (veFmt q) (veVd q) i =
        if i < veCount q ∧ (s.tcore c).ve.active q i = true then
          (s.drainOutputs c d.q d.outScale (s.fget (R.TC_NUM_SR_CTR.sr_ctr c))).1.getD i 0 % 2 ^ fmtBits (veFmt q)
        else (s.tcore c).ve.elem (veFmt q) (veVd q) i := by
  have hop := atHead_op hhead
  obtain ⟨-, -, hcount, -⟩ := vePushOk_fields (by omega) (by omega) (by omega) (veUse_vrecv hop) hok
  have hpos : 0 < veCount q := by
    unfold veCountOk at hcount
    rw [Bool.and_eq_true, decide_eq_true_eq] at hcount
    exact hcount.1
  obtain ⟨hmem, hve, htoVe, hentry⟩ := takeToVe_all hd hctr htaken hstream
  rw [htotal] at hmem hve htoVe hentry
  have hlen : ¬ ((s.takeToVe c (veCount q)).tcore c).ve.stream.length < veCount q := by
    rw [hve]
    dsimp only
    unfold State.drained
    rw [List.length_map, length_drainOutputs, htotal]
    exact Nat.lt_irrefl _
  have hexec : exec (.vrecv c err) s = .next ((s.takeToVe c (veCount q)).veRun c q err ((s.takeToVe c (veCount q)).recvPlan c q)) := by
    have hok : s.recvRefused c q = false := by
      refine recvRefused_false (fun e he => ?_) (fun d' hd' _ => ?_)
      · rw [hstream, List.take_nil] at he
        exact absurd he List.not_mem_nil
      · rw [← Option.some.inj (hd.symm.trans hd'), hfmt]
    rw [exec_vrecv hhead, hok, if_neg Bool.false_ne_true, hstream, List.length_nil, if_pos hpos, Nat.sub_zero]
    exact if_neg hlen
  have ht := recvPlan_onlyVe (s := s.takeToVe c (veCount q)) (c := c) (q := q) herr
  refine ⟨_, hexec, (congrArg MeState.toVe ht.me).trans htoVe, ?_, ?_, ht.mem.trans hmem, fun r j hr hj hj' => ?_, fun i => ?_⟩
  · refine (congrArg VeState.stream ht.ve).trans ?_
    show ((s.takeToVe c (veCount q)).tcore c).ve.stream.drop (veCount q) = []
    rw [List.drop_eq_nil_iff, hve]
    dsimp only
    unfold State.drained
    rw [List.length_map, length_drainOutputs, htotal]
  · rw [ht.ve, queue_streamed, hve]
  · rw [ht.me]
    exact hentry r j hr hj hj'
  · rw [ht.ve, elem_streamed hop hok, hve]
    refine if_congr Iff.rfl (congrArg (· % 2 ^ fmtBits (veFmt q)) ?_) rfl
    unfold VeState.received
    rw [hsub]
    dsimp only
    unfold State.drained
    rw [List.getD_eq_getElem?_getD, List.getElem?_map, List.getD_eq_getElem?_getD]
    cases (s.drainOutputs c d.q d.outScale (s.fget (R.TC_NUM_SR_CTR.sr_ctr c))).1[i]? <;> rfl

/-! An exact tap (R204, R207). -/

/-- A slot that an exact FP32 sum of `n` elements fills from empty. -/
def exactSum (x : Nat → Nat) (n : Nat) : RedSlot :=
  { RedSlot.empty with
    op := 1, fmt := 1, exact := true, kind := 2, nonempty := decide (0 < n), count := n,
    entry := (List.range n).foldl (fun e i => e.add false (decodeNum 1 (x i)) false) AccEntry.empty }

theorem feed_exactSum (x : Nat → Nat) (n : Nat) : ((exactSum x n).feed (x n)).1 = exactSum x (n + 1) := by
  have hentry : (exactSum x (n + 1)).entry = (exactSum x n).entry.add false (decodeNum 1 (x n)) false := by
    unfold exactSum
    dsimp only
    rw [List.range_succ, List.foldl_append]
    rfl
  have hfeed : ((exactSum x n).feed (x n)).1 =
      { exactSum x n with nonempty := true, count := n + 1, entry := (exactSum x n).entry.add false (decodeNum 1 (x n)) false } := rfl
  rw [hfeed, ← hentry]
  unfold exactSum
  rw [decide_eq_true (Nat.succ_pos n)]

theorem feedAll_exactSum (x : Nat → Nat) (n chunks : Nat) :
    ((exactSum x 0).feedAll ((List.range n).map (fun i => some (x i))) chunks).1 = exactSum x n := by
  unfold RedSlot.feedAll
  have hkind : (exactSum x 0).kind ≠ 4 := show ¬ (2 : Nat) = 4 by decide
  rw [if_neg hkind]
  induction n with
  | zero => rfl
  | succ n ih =>
    rw [List.range_succ, List.map_append, List.foldl_append, ← feed_exactSum, ← ih]
    rfl

/-- A number in floating point is read off the bits of its format. -/
theorem decodeFp_mod (f : FpFmt) (x : Nat) : decodeFp f (x % 2 ^ (1 + f.eb + f.mb)) = decodeFp f x := by
  have hm : x % 2 ^ (1 + f.eb + f.mb) % 2 ^ f.mb = x % 2 ^ f.mb := Nat.mod_mod_of_dvd x (Nat.pow_dvd_pow 2 (by omega))
  have he : x % 2 ^ (1 + f.eb + f.mb) / 2 ^ f.mb % 2 ^ f.eb = x / 2 ^ f.mb % 2 ^ f.eb := fld_mod_two_pow x (by omega)
  have hn : x % 2 ^ (1 + f.eb + f.mb) / 2 ^ (f.eb + f.mb) % 2 = x / 2 ^ (f.eb + f.mb) % 2 := fld_mod_two_pow (width := 1) x (by omega)
  unfold decodeFp
  rw [hm, he, hn]

theorem decodeNum_mod (x : Nat) : decodeNum 1 (x % 2 ^ 32) = decodeNum 1 x := decodeFp_mod ⟨8, 23, 127, .ieee⟩ x

theorem exactSum_congr {x y : Nat → Nat} {n : Nat} (h : ∀ i < n, decodeNum 1 (x i) = decodeNum 1 (y i)) : exactSum x n = exactSum y n := by
  have hentry : (List.range n).foldl (fun e i => AccEntry.add false e (decodeNum 1 (x i)) false) AccEntry.empty =
      (List.range n).foldl (fun e i => e.add false (decodeNum 1 (y i)) false) AccEntry.empty :=
    List.foldl_ext _ _ _ (fun e i hi => by rw [h i (List.mem_range.1 hi)])
  unfold exactSum
  rw [hentry]

theorem veUse_vadd (hop : qOp q = 0x30) : veUse q = some (veSub q == 0, ⟨true, true, true, true, false, false, true⟩) := by
  unfold veUse
  rw [hop]
  rfl

/-- VADD's result at an element. -/
def State.added (s : State) (c : Nat) (q : Quad) (i : Nat) : Nat × Flags :=
  veDeliver q (s.laneDraw c q true i) (FpNum.add (veDown q) (decodeNum (veFmt q) ((s.tcore c).ve.src1 q i))
    (decodeNum (veFmt q) ((s.tcore c).ve.src2 q i)))

theorem vadd_writes (hhead : s.atHead c .ve 0x30 = some q) (herr : err.first = []) :
    ∃ t, exec (.vadd c err) s = .next t ∧ OnlyVe s t c ((s.tcore c).ve.written q ((s.tcore c).ve.laneRes q (s.added c q))).popped := by
  have hexec : exec (.vadd c err) s = .next (s.veRun c q err (s.arith2 c q (FpNum.add (veDown q)))) := startVe_runs hhead (.inl rfl)
  exact ⟨_, hexec, .veRun herr (OnlyVe.refl.lanes s true _ _)⟩

/-- An exact FP32 sum tap over results that are all active, which resets its slot. -/
theorem tapSlots_exactSum (v : VeState) (hop : veRedOp q = 1) (hexact : veRedExact q = true) (hreset : veRedReset q = true)
    (hout : veOutFmt q = 1) (x : Nat → Nat) {n : Nat} (hn : 0 < n) :
    v.tapSlots q ((List.range n).map (fun i => some (x i))) = v.slots.set (veRedSlot q) (exactSum x n) := by
  have hany : ((List.range n).map (fun i => some (x i))).any Option.isSome = true :=
    List.any_eq_true.2 ⟨some (x 0), List.mem_map.2 ⟨0, List.mem_range.2 hn, rfl⟩, rfl⟩
  unfold VeState.tapSlots
  rw [hop, hexact, hreset, hout, if_neg (by decide)]
  dsimp only
  rw [hany, if_pos rfl, if_pos rfl, updateAt_const]
  exact congrArg _ (feedAll_exactSum x n _)

theorem vadd_taps (herr : err.first = []) (hhead : s.atHead c .ve 0x30 = some q) (hok : vePushOk q = true) (hfmt : veFmt q = 1)
    (hred : veRedOp q = 1) (hexact : veRedExact q = true) (hreset : veRedReset q = true) (hpred : vePredEn q = false)
    (hslots : (s.tcore c).ve.slots.length = 4) :
    ∃ t slot, exec (.vadd c err) s = .next t ∧ (t.tcore c).ve.slots[veRedSlot q]? = some slot ∧ slot.nonempty = true ∧
      slot.count = veCount q ∧ slot.mixed = false ∧
      slot.entry = (List.range (veCount q)).foldl (fun e i => e.add false (decodeNum 1 ((t.tcore c).ve.elem 1 (veVd q) i)) false) AccEntry.empty ∧
      (∀ k, k ≠ veRedSlot q → (t.tcore c).ve.slots[k]? = (s.tcore c).ve.slots[k]?) := by
  have hop := atHead_op hhead
  obtain ⟨-, -, hcount, -⟩ := vePushOk_fields (by omega) (by omega) (by omega) (veUse_vadd hop) hok
  have hpos : 0 < veCount q := by
    unfold veCountOk at hcount
    rw [Bool.and_eq_true, decide_eq_true_eq] at hcount
    exact hcount.1
  have hout : veOutFmt q = 1 := by unfold veOutFmt; rw [hop]; exact hfmt
  have hactive (i : Nat) : (s.tcore c).ve.active q i = true := by unfold VeState.active; rw [hpred]; rfl
  have hbits : LaneBits (fmtBits (veOutFmt q)) := by rw [hout]; exact .inr (.inl rfl)
  obtain ⟨t, hexec, ht⟩ := vadd_writes hhead herr
  have helem (i : Nat) (hi : i < veCount q) : (t.tcore c).ve.elem 1 (veVd q) i = (s.added c q i).1 % 2 ^ 32 := by
    have h := (s.tcore c).ve.elem_written_laneRes hbits (s.added c q) i
    rw [if_pos ⟨hi, hactive i⟩, hout] at h
    rw [ht.ve]
    exact h
  have hslot : (t.tcore c).ve.slots = (s.tcore c).ve.slots.set (veRedSlot q) (exactSum (fun i => (t.tcore c).ve.elem 1 (veVd q) i) (veCount q)) := by
    have hels : ((s.tcore c).ve.laneRes q (s.added c q)).map (fun o => o.map Prod.fst) =
        (List.range (veCount q)).map (fun i => some (s.added c q i).1) := by
      unfold VeState.laneRes
      rw [List.map_map]
      refine List.map_congr_left (fun i _ => ?_)
      show Option.map Prod.fst (if (s.tcore c).ve.active q i = true then some (s.added c q i) else none) = _
      rw [if_pos (hactive i)]
      rfl
    rw [exactSum_congr (y := fun i => (s.added c q i).1) (fun i hi => by rw [helem i hi, decodeNum_mod])]
    refine (congrArg VeState.slots ht.ve).trans ?_
    show (s.tcore c).ve.tapSlots q (((s.tcore c).ve.laneRes q (s.added c q)).map (fun o => o.map Prod.fst)) = _
    rw [hels, tapSlots_exactSum _ hred hexact hreset hout (fun i => (s.added c q i).1) hpos]
  have hk : veRedSlot q < 4 := fld_lt _ _ 2
  refine ⟨t, exactSum (fun i => (t.tcore c).ve.elem 1 (veVd q) i) (veCount q), hexec, ?_, ?_, rfl, rfl, rfl, fun k hne => ?_⟩
  · rw [hslot, List.getElem?_set_self (by omega)]
  · exact decide_eq_true hpos
  · rw [hslot, List.getElem?_set_ne (Ne.symm hne)]

/-! VRGET (R209). -/

theorem veUse_vrget (hop : qOp q = 0x61) : veUse q = some (decide (veSub q ≤ 1), ⟨true, true, false, false, false, false, false⟩) := by
  unfold veUse
  rw [hop]
  rfl

/-- The slot that a VRGET reads. -/
def VeState.slotOf (v : VeState) (q : Quad) : RedSlot := v.slots.getD (veRedSlot q) .empty

/-- The value that a VRGET delivers. -/
def State.slotValue (s : State) (c : Nat) (q : Quad) : Nat × Flags :=
  ((s.tcore c).ve.slotOf q).read (veFmt q) (veCtl q) (if veCtl q % 8 = 4 then s.draw c 0 else 0) (Config.mixedSlot s.free)

/-- A VRGET gives the index of an extremum too. -/
def VeState.withIndex (v : VeState) (q : Quad) : Bool := veCount q == 3 && ((v.slotOf q).op == 4 || (v.slotOf q).op == 5)

/-- The registers after a VRGET has delivered the value and the index of its slot. -/
def VeState.gets (v : VeState) (q : Quad) (r : Nat) : VeState :=
  let v1 := if v.active q 0 then v.putElem (veFmt q) (veVd q) 0 r else v
  let v2 := if v.withIndex q && v.active q 1 then v1.putSlot (veVd q) 1 ((v.slotOf q).readIndex % 2 ^ 32) else v1
  if v.withIndex q && v.active q 2 then v2.putSlot (veVd q) 2 ((v.slotOf q).readIndex / 2 ^ 32) else v2

/-- The slots after a VRGET. -/
def VeState.slotsGot (v : VeState) (q : Quad) : List RedSlot := if veSub q = 1 then v.slots else updateAt v.slots (veRedSlot q) RedSlot.emptied

theorem gets_reads {β : Type} (g : VeState → β) (hg : ∀ u r k x, g (VeState.putSlot u r k x) = g u) (v : VeState) (r : Nat) : g (v.gets q r) = g v := by
  have hval : g (if v.active q 0 then v.putElem (veFmt q) (veVd q) 0 r else v) = g v := by
    split
    · exact v.putElem_reads g hg _ _ _ _
    · rfl
  unfold VeState.gets
  dsimp only
  split <;> split <;> simp only [hg, hval]

def vrgetRefused (v : VeState) (q : Quad) : Bool := !isFloat (veFmt q) && (v.slotOf q).nonempty && isFloat (v.slotOf q).fmt

theorem vrget_halts (hhead : s.atHead c .ve 0x61 = some q) (h : vrgetRefused (s.tcore c).ve q = true) :
    ∃ t, exec (.vrget c err) s = .next t ∧ (t.tcore c).ve = (s.tcore c).ve ∧ t.fget (R.TC_VE_STATUS.halted c) = 1 ∧
      t.fget (R.TC_VE_STATUS.halt_code c) = 1 ∧ t.mem = s.mem := by
  have hexec : exec (.vrget c err) s = .next (s.veHalt c 0x01) := by
    show execVrget _ _ _ = _
    unfold execVrget
    rw [hhead]
    exact if_pos h
  exact ⟨_, hexec, ve_veHalt s 1, fget_veHalt_halted s 1, fget_veHalt_code s (show 1 < 2 ^ 8 by decide), veHalt_mem s 1⟩

/-- What the results of a VRGET are written by. -/
def vrgetPut (v : VeState) (q : Quad) (els : VeRes) (u : VeState) : VeState :=
  let v1 := match els with | some x :: _ => u.putElem (veFmt q) (veVd q) 0 x.1 | _ => u
  let v2 := if v.withIndex q && u.active q 1 then v1.putSlot (veVd q) 1 ((v.slotOf q).readIndex % 2 ^ 32) else v1
  let v3 := if v.withIndex q && u.active q 2 then v2.putSlot (veVd q) 2 ((v.slotOf q).readIndex / 2 ^ 32) else v2
  if veSub q = 1 then v3 else { v3 with slots := updateAt v3.slots (veRedSlot q) RedSlot.emptied }

theorem vrgetPut_eq (v : VeState) (r : Nat × Flags) :
    vrgetPut v q [if v.active q 0 then some r else none] v = { v.gets q r.1 with slots := v.slotsGot q } := by
  have hslots : (v.gets q r.1).slots = v.slots := gets_reads VeState.slots (fun _ _ _ _ => rfl) v r.1
  have hput : vrgetPut v q [if v.active q 0 then some r else none] v =
      if veSub q = 1 then v.gets q r.1 else { v.gets q r.1 with slots := updateAt (v.gets q r.1).slots (veRedSlot q) RedSlot.emptied } := by
    unfold vrgetPut VeState.gets
    cases v.active q 0 <;> rfl
  rw [hput]
  unfold VeState.slotsGot
  split
  · rw [← hslots]
  · rw [hslots]

theorem vrget_writes (hhead : s.atHead c .ve 0x61 = some q) (h : vrgetRefused (s.tcore c).ve q = false) (herr : err.first = []) :
    ∃ t, exec (.vrget c err) s = .next t ∧
      OnlyVe s t c ({ (s.tcore c).ve.gets q (s.slotValue c q).1 with slots := (s.tcore c).ve.slotsGot q } : VeState).popped := by
  let v := (s.tcore c).ve
  have hexec : exec (.vrget c err) s = .next ((if (v.slotOf q).mixed then s.drawn else s).veRun c q err
      ([if v.active q 0 then some (s.slotValue c q) else none], fun els t =>
        ((t.onVe c (vrgetPut v q els)).veFlags c (match els with | some x :: _ => x.2 | _ => Flags.zero)).advanceSr c (veCtl q)
          (v.activeList q).length)) := by
    show execVrget _ _ _ = _
    unfold execVrget
    rw [hhead]
    exact if_neg (Bool.eq_false_iff.1 h)
  have hs0 : OnlyVe s (if (v.slotOf q).mixed then s.drawn else s) c v := by
    split
    · exact OnlyVe.refl.of_eq rfl rfl
    · exact .refl
  refine ⟨_, hexec, .veRun herr ?_⟩
  rw [← vrgetPut_eq]
  exact ((hs0.onVe _).setReg _ _).advanceSr _ _

/-- What the registers hold after a VRGET. -/
theorem elem_gets_value (hfmt : veFmtOk (veFmt q) = true) (v : VeState) (r : Nat) (hcount : veCount q = 1) (hr : v.active q 0 = true) :
    (v.gets q r).elem (veFmt q) (veVd q) 0 = r % 2 ^ fmtBits (veFmt q) := by
  have hindex : v.withIndex q = false := by unfold VeState.withIndex; rw [hcount]; rfl
  unfold VeState.gets
  rw [hindex, hr, if_pos rfl]
  exact v.elem_putElem_same (laneBits_of_veFmtOk hfmt) _ _ _

theorem gets_inactive (v : VeState) (r : Nat) (hcount : veCount q = 1) (hr : v.active q 0 = false) : v.gets q r = v := by
  have hindex : v.withIndex q = false := by unfold VeState.withIndex; rw [hcount]; rfl
  unfold VeState.gets
  rw [hindex, hr]
  rfl

theorem readIndex_lt (r : RedSlot) : r.readIndex < 2 ^ 64 := by
  unfold RedSlot.readIndex
  split <;> omega

theorem VeState.elem_int32 (v : VeState) (r k : Nat) : v.elem 0x12 r k = v.slot r k := v.elem_word r k

theorem elem_gets_index (v : VeState) (r : Nat) (hcount : veCount q = 3) (hop : (v.slotOf q).op = 4 ∨ (v.slotOf q).op = 5)
    (h1 : v.active q 1 = true) (h2 : v.active q 2 = true) :
    (v.gets q r).elem 0x12 (veVd q) 1 + 2 ^ 32 * (v.gets q r).elem 0x12 (veVd q) 2 = (v.slotOf q).readIndex := by
  have hindex : v.withIndex q = true := by
    unfold VeState.withIndex
    rw [hcount]
    obtain hop | hop := hop <;> rw [hop] <;> rfl
  have hlt := readIndex_lt (v.slotOf q)
  unfold VeState.gets
  rw [hindex, h1, h2]
  dsimp only
  rw [Bool.true_and, if_pos rfl, if_pos rfl, VeState.elem_int32, VeState.elem_int32, VeState.slot_putSlot_same, VeState.slot_putSlot_other _ (by omega),
    VeState.slot_putSlot_same]
  omega

theorem vrget_gets (hhead : s.atHead c .ve 0x61 = some q) (hok : vePushOk q = true) (herr : err.first = [])
    (h : isFloat (veFmt q) = true ∨ ((s.tcore c).ve.slotOf q).nonempty = false ∨ isFloat ((s.tcore c).ve.slotOf q).fmt = false) :
    ∃ t, exec (.vrget c err) s = .next t ∧ (t.tcore c).ve.queue = (s.tcore c).ve.queue.drop 1 ∧ t.mem = s.mem ∧
      (t.tcore c).ve.preds = (s.tcore c).ve.preds ∧
      (veCount q = 1 → (t.tcore c).ve.elem (veFmt q) (veVd q) 0 =
        if (s.tcore c).ve.active q 0 = true then (s.slotValue c q).1 % 2 ^ fmtBits (veFmt q) else (s.tcore c).ve.elem (veFmt q) (veVd q) 0) ∧
      (veCount q = 3 → (((s.tcore c).ve.slotOf q).op = 4 ∨ ((s.tcore c).ve.slotOf q).op = 5) → (s.tcore c).ve.active q 1 = true →
        (s.tcore c).ve.active q 2 = true →
        (t.tcore c).ve.elem 0x12 (veVd q) 1 + 2 ^ 32 * (t.tcore c).ve.elem 0x12 (veVd q) 2 = ((s.tcore c).ve.slotOf q).readIndex) ∧
      (veSub q = 1 → (t.tcore c).ve.slots = (s.tcore c).ve.slots) ∧
      (veSub q = 0 → (s.tcore c).ve.slots.length = 4 →
        ∃ e, (t.tcore c).ve.slots[veRedSlot q]? = some e ∧ e.nonempty = false ∧ e.count = 0) ∧
      (∀ k, k ≠ veRedSlot q → (t.tcore c).ve.slots[k]? = (s.tcore c).ve.slots[k]?) := by
  have hop := atHead_op hhead
  obtain ⟨-, hfmt, -⟩ := vePushOk_fields (by omega) (by omega) (by omega) (veUse_vrget hop) hok
  have hgo : vrgetRefused (s.tcore c).ve q = false := by
    unfold vrgetRefused
    obtain h | h | h := h <;> rw [h]
    · rfl
    · rw [Bool.and_false, Bool.false_and]
    · rw [Bool.and_false]
  obtain ⟨t, hexec, ht⟩ := vrget_writes hhead hgo herr
  have hslots : (t.tcore c).ve.slots = (s.tcore c).ve.slotsGot q := congrArg VeState.slots ht.ve
  refine ⟨t, hexec, ?_, ht.mem, ?_, fun hone => ?_, fun hthree hop h1 h2 => ?_, fun hsub => ?_, fun hsub hlen => ?_, fun k hk => ?_⟩
  · rw [ht.ve]
    exact congrArg (List.drop 1) (gets_reads VeState.queue (fun _ _ _ _ => rfl) _ _)
  · rw [ht.ve]
    exact gets_reads VeState.preds (fun _ _ _ _ => rfl) _ _
  · rw [ht.ve]
    show ((s.tcore c).ve.gets q _).elem _ _ _ = _
    cases hr : (s.tcore c).ve.active q 0 with
    | true => rw [elem_gets_value hfmt _ _ hone hr, if_pos rfl]
    | false => rw [gets_inactive _ _ hone hr, if_neg Bool.false_ne_true]
  · rw [ht.ve]
    exact elem_gets_index _ _ hthree hop h1 h2
  · rw [hslots, VeState.slotsGot, if_pos hsub]
  · have hk : veRedSlot q < 4 := fld_lt _ _ 2
    refine ⟨((s.tcore c).ve.slots[veRedSlot q]'(by omega)).emptied, ?_, rfl, rfl⟩
    rw [hslots, VeState.slotsGot, if_neg (by omega), getElem?_updateAt, if_pos rfl, List.getElem?_eq_getElem (by omega)]
    rfl
  · rw [hslots, VeState.slotsGot]
    split
    · rfl
    · rw [getElem?_updateAt, if_neg hk]

end

/-- Settles O28: each reduction's results, slots and stream, or its halt, by the lemma about the instruction. -/
theorem veReductions : Obligations.VeReductions := by
  unfold Obligations.VeReductions
  refine ⟨fun c err s q hhead _ herr => vseg_condenses hhead herr, fun c err s q hhead hok => ?_,
    fun c err s q herr hhead hok hfmt hred hexact hreset hpred hslots => vadd_taps herr hhead hok hfmt hred hexact hreset hpred hslots,
    fun c err s q hhead hok herr => ⟨vrget_gets hhead hok herr, fun hint hfull hfloat => vrget_halts hhead ?_⟩⟩
  · refine ⟨fun h => vrecv_halts hhead (.inl h),
      fun hfmt hlen hnone => ⟨vrecv_waits hhead hfmt hlen hnone, veStatusWord_waits hhead hlen hnone⟩,
      fun d hd hlen hfmt => vrecv_halts hhead (.inr ⟨d, hd, hlen, hfmt⟩),
      fun d hd hctr htaken hstream hfmt htotal hsub herr => vrecv_drains hhead hok hd hctr htaken hstream hfmt htotal hsub herr,
      fun hfmt hlen herr => ?_⟩
    obtain ⟨t, hexec, hstream, hqueue, hme, hmem, hother, helem⟩ := vrecv_takes hhead hok hfmt hlen herr
    refine ⟨t, hexec, hstream, hqueue, hme, hmem, hother, fun i => ?_⟩
    rw [helem, laneDraw_eq]
    exact if_congr Iff.rfl (congrArg (· % 2 ^ fmtBits (veFmt q)) (received_value _ _ _)) rfl
  · unfold vrgetRefused VeState.slotOf
    rw [hint, hfull, hfloat]
    rfl

end Sys2Proof.Machine

/-! Ring operations that start and end at once: NOP, COLLECTIVE and PROBE (R182, R439, R440, R442, R444). -/
namespace Sys2Proof.Machine

/-- An operation of a code may start: those before it in its ring have, and it is not fenced behind them (R439). -/
def Starts (s : State) (slot code : Nat) (o : Op) : Prop :=
  s.clocked = true ∧ s.op slot = some o ∧ o.status = none ∧ o.started = false ∧ leAt o.desc 0 1 = code ∧
    ∀ j x, s.op j = some x → x.ring = o.ring → x.order < o.order → x.started = true ∧ leAt o.desc 0x3E 1 % 2 = 0

section
variable {s t : State} {slot code j : Nat} {o : Op}

theorem mayStartOp_starts (h : Starts s slot code o) : s.mayStartOp slot code = some o := by
  obtain ⟨hclock, hop, hstatus, hstarted, hcode, hearlier⟩ := h
  have hfirst : (s.clocked && o.live && !o.started && o.code == code) = true := by
    rw [hclock, hstarted, show o.live = true from Option.isNone_iff_eq_none.2 hstatus, show o.code = code from hcode, beq_self_eq_true]
    rfl
  unfold State.mayStartOp
  rw [hop]
  refine if_pos (Bool.and_eq_true_iff.2 ⟨hfirst, List.all_eq_true.2 (fun j hj => ?_)⟩)
  have hj := (List.mem_filter.1 hj).2
  cases hx : s.op j with
  | none => rfl
  | some x =>
    rw [hx] at hj
    rw [Bool.and_eq_true, beq_iff_eq, decide_eq_true_eq] at hj
    obtain ⟨hstart, hfence⟩ := hearlier j x hx hj.1 hj.2
    have hbit : bit (leAt o.desc 0x3E 1) 0 = false := by
      unfold bit
      rw [Nat.pow_zero, Nat.div_one, hfence]
      rfl
    dsimp only
    rw [hstart, hbit]
    rfl

/-! What a change of one operation leaves alone. -/

theorem onOp_reads {β : Type} (g : State → β) (hg : ∀ u k o, g (State.setOp u k o) = g u) (k : Nat) (f : Op → Op) : g (s.onOp k f) = g s := by
  unfold State.onOp
  split
  · exact hg _ _ _
  · rfl

@[simp] theorem onOp_mem (k : Nat) (f : Op → Op) : (s.onOp k f).mem = s.mem := onOp_reads State.mem (fun _ _ _ => rfl) k f

@[simp] theorem onOp_endCount (k : Nat) (f : Op → Op) : (s.onOp k f).endCount = s.endCount := onOp_reads State.endCount (fun _ _ _ => rfl) k f

theorem closeOp_reads {β : Type} (g : State → β) (hg : ∀ u k o, g (State.setOp u k o) = g u) (hcount : ∀ u n, g { u with endCount := n } = g u)
    (k : Nat) (f : Op → Op) : g (s.closeOp k f) = g s := by
  unfold State.closeOp
  split
  · split
    · rfl
    · exact (hcount _ _).trans (hg _ _ _)
  · rfl

@[simp] theorem closeOp_mem (k : Nat) (f : Op → Op) : (s.closeOp k f).mem = s.mem := closeOp_reads State.mem (fun _ _ _ => rfl) (fun _ _ => rfl) k f

@[simp] theorem endOp_mem (k status : Nat) : (s.endOp k status).mem = s.mem := closeOp_mem k _

theorem op_beginOp_same (h : s.op slot = some o) : (s.beginOp slot).op slot = some { o with started := true } := op_onOp_same h _

theorem op_beginOp_other (h : slot ≠ j) : (s.beginOp slot).op j = s.op j := op_onOp_other _ h

/-- An operation that has started, ended with a status as the `n`-th. -/
def Op.closedAs (o : Op) (st n : Nat) : Op :=
  { o with started := true, status := some st, ended := n, parts := [], partsTile := none,
           witness := if st ∈ [0x20, 0x40, 0x41, 0x7F] then 0 else o.witness }

theorem noWitness_iff (st : Nat) : noWitness st = true ↔ st ∈ [0x20, 0x40, 0x41, 0x7F] := by
  simp only [noWitness, stCheckFail, stMaintConflict, stCrossed, stInternal, Bool.or_eq_true, beq_iff_eq, List.mem_cons, List.not_mem_nil, or_false,
    or_assoc]

theorem endedAs_eq_closedAs (hstarted : o.started = true) (st n : Nat) : o.endedAs st n = o.closedAs st n := by
  unfold Op.endedAs Op.closedAs
  rw [if_congr (noWitness_iff st) rfl rfl]
  cases o
  cases hstarted
  rfl

theorem op_endOp_started (h : s.op slot = some o) (hlive : o.status = none) (hstarted : o.started = true) (st : Nat) :
    (s.endOp slot st).op slot = some (o.closedAs st (s.endCount + 1)) := by
  rw [op_endOp_live h hlive, endedAs_eq_closedAs hstarted]

/-! NOP. -/

theorem nop_ends (h : Starts s slot 0x00 o) :
    ∃ t, exec (.nop slot) s = .next t ∧ t.op slot = some (o.closedAs 0x00 (s.endCount + 1)) ∧ (∀ j, j ≠ slot → t.op j = s.op j) ∧ t.mem = s.mem := by
  have hexec : exec (.nop slot) s = .next ((s.beginOp slot).endOp slot stDone) := by
    show execNop _ _ = _
    unfold execNop
    rw [mayStartOp_starts h]
  obtain ⟨-, hop, hstatus, -⟩ := h
  refine ⟨_, hexec, ?_, fun j hj => ?_, (endOp_mem _ _).trans (onOp_mem _ _)⟩
  · have hend := op_endOp_started (op_beginOp_same hop) hstatus rfl stDone
    rw [State.beginOp, onOp_endCount] at hend
    exact hend
  · rw [op_endOp_other _ (Ne.symm hj), op_beginOp_other (Ne.symm hj)]

/-! COLLECTIVE. -/

/-- A collective whose posts ended (R423). -/
def Op.collected (o : Op) (status : Nat) (progress witness : Word) : Op :=
  { o with progress := if status < 2 then progress else 0, witness := if status < 2 then witness else 0,
           classFlags := o.classFlags ||| (if status = 1 then 1 else 0) }

theorem exec_collective {status : Nat} {progress witness : Word} (h : Starts s slot 0x30 o) (hstatus : status ∈ [0x00, 0x01, 0x20, 0x31, 0x41, 0x7F]) :
    exec (.collective slot status progress witness) s =
      .next (((s.beginOp slot).onOp slot (fun o => o.collected status progress witness)).endOp slot status) := by
  have hlist : [stDone, stRecovered, stShrink, stCrossed, stCheckFail, stInternal].contains status = true := by
    simp only [List.mem_cons, List.not_mem_nil, or_false] at hstatus
    obtain rfl | rfl | rfl | rfl | rfl | rfl := hstatus <;> rfl
  have hok : (status == stDone || status == stRecovered) = decide (status < 2) := by
    simp only [List.mem_cons, List.not_mem_nil, or_false] at hstatus
    obtain rfl | rfl | rfl | rfl | rfl | rfl := hstatus <;> rfl
  show execCollective _ _ _ _ _ = _
  unfold execCollective
  rw [mayStartOp_starts h]
  dsimp only
  rw [hlist, hok]
  unfold Op.collected
  simp only [decide_eq_true_eq]
  rfl

theorem collective_ends {status : Nat} {progress witness : Word} (h : Starts s slot 0x30 o) (hstatus : status ∈ [0x00, 0x01, 0x20, 0x31, 0x41, 0x7F]) :
    ∃ t, exec (.collective slot status progress witness) s = .next t ∧ (∀ j, j ≠ slot → t.op j = s.op j) ∧ t.mem = s.mem ∧
      t.op slot = some { o.closedAs status (s.endCount + 1) with
        progress := if status < 2 then progress else 0, witness := if status < 2 then witness else 0,
        classFlags := o.classFlags ||| (if status = 1 then 1 else 0) } := by
  refine ⟨_, exec_collective h hstatus, fun j hj => ?_, ?_, ?_⟩
  · rw [op_endOp_other _ (Ne.symm hj), op_onOp_other _ (Ne.symm hj), op_beginOp_other (Ne.symm hj)]
  · rw [endOp_mem, onOp_mem, State.beginOp, onOp_mem]
  · obtain ⟨-, hop, hnone, -⟩ := h
    rw [op_endOp_started (op_onOp_same (op_beginOp_same hop) _) hnone rfl, onOp_endCount, State.beginOp, onOp_endCount]
    refine congrArg some ?_
    have hwitness : (if status ∈ [0x20, 0x40, 0x41, 0x7F] then (0 : Word) else if status < 2 then witness else 0) = if status < 2 then witness else 0 := by
      split
      · next hin =>
        have hle : ¬ status < 2 := by
          simp only [List.mem_cons, List.not_mem_nil, or_false] at hin
          omega
        rw [if_neg hle]
      · rfl
    unfold Op.closedAs Op.collected
    dsimp only
    rw [hwitness]

/-! PROBE. -/

/-- `x` is the operation that a PROBE asks after (R444). -/
def Probed (s : State) (slot : Nat) (o x : Op) : Prop :=
  (∃ j, j ≠ slot ∧ s.op j = some x) ∧ x.ring = 64 * (o.ring / 64) + leAt o.desc 0x08 1 ∧ leAt x.desc 0x3C 2 = leAt o.desc 0x0A 2 ∧ x.classFlags / 64 % 2 = 0

/-- What a PROBE finds. -/
def State.probeHit (s : State) (slot : Nat) (o : Op) : Option Op :=
  ((s.opSlots.filter (· != slot)).filterMap s.op).find? (fun x =>
    x.ring == 64 * o.vf + leAt o.desc 0x08 1 && x.tag == leAt o.desc 0x0A 2 && !bit x.classFlags 6)

/-- The operation of a PROBE with what it found. -/
def Op.probes (o : Op) (hit : Option Op) : Op :=
  match hit with
  | some x => { o with progress := x.progress, classFlags := x.classFlags &&& flagCount }
  | none => { o with classFlags := o.classFlags ||| flagNotFound }

theorem probed_iff {x : Op} : Probed s slot o x ↔ x ∈ (s.opSlots.filter (· != slot)).filterMap s.op ∧
    (x.ring == 64 * o.vf + leAt o.desc 0x08 1 && x.tag == leAt o.desc 0x0A 2 && !bit x.classFlags 6) = true := by
  have hmem : x ∈ (s.opSlots.filter (· != slot)).filterMap s.op ↔ ∃ j, j ≠ slot ∧ s.op j = some x := by
    rw [List.mem_filterMap]
    refine ⟨fun ⟨j, hj, hx⟩ => ⟨j, bne_iff_ne.1 (List.mem_filter.1 hj).2, hx⟩, fun ⟨j, hj, hx⟩ => ⟨j, List.mem_filter.2 ⟨mem_opSlots hx, bne_iff_ne.2 hj⟩, hx⟩⟩
  rw [hmem]
  unfold Probed Op.tag Op.vf bit
  simp only [Bool.and_eq_true, beq_iff_eq, Bool.not_eq_true', beq_eq_false_iff_ne, and_assoc]
  refine and_congr_right (fun _ => and_congr_right (fun _ => and_congr_right (fun _ => ?_)))
  omega

theorem exec_probe (h : s.op slot = some o) (hlive : o.status = none) (hcode : leAt o.desc 0 1 = 0x50) :
    exec (.probe slot) s = .next (((s.beginOp slot).onOp slot (fun x => x.probes (s.probeHit slot o))).endOp slot stDone) := by
  show execProbe _ _ = _
  unfold execProbe
  rw [h]
  dsimp only
  rw [show o.live = true from Option.isNone_iff_eq_none.2 hlive, show o.code = 0x50 from hcode]
  rfl

theorem op_probe (h : s.op slot = some o) (hlive : o.status = none) (hcode : leAt o.desc 0 1 = 0x50) :
    ∃ t, exec (.probe slot) s = .next t ∧ (∀ j, j ≠ slot → t.op j = s.op j) ∧ t.mem = s.mem ∧
      t.op slot = some ((({ o with started := true } : Op).probes (s.probeHit slot o)).closedAs 0 (s.endCount + 1)) := by
  refine ⟨_, exec_probe h hlive hcode, fun j hj => ?_, ?_, ?_⟩
  · rw [op_endOp_other _ (Ne.symm hj), op_onOp_other _ (Ne.symm hj), op_beginOp_other (Ne.symm hj)]
  · rw [endOp_mem, onOp_mem, State.beginOp, onOp_mem]
  · have hop := op_onOp_same (op_beginOp_same h) (fun x => x.probes (s.probeHit slot o))
    rw [op_endOp_started hop (by unfold Op.probes; split <;> exact hlive) (by unfold Op.probes; split <;> rfl), onOp_endCount, State.beginOp, onOp_endCount]
    rfl

theorem probe_finds (h : s.op slot = some o) (hlive : o.status = none) (hcode : leAt o.desc 0 1 = 0x50) {x : Op} (hx : Probed s slot o x)
    (hone : ∀ y, Probed s slot o y → y = x) :
    ∃ t, exec (.probe slot) s = .next t ∧ (∀ j, j ≠ slot → t.op j = s.op j) ∧ t.mem = s.mem ∧
      t.op slot = some { o.closedAs 0 (s.endCount + 1) with progress := x.progress, classFlags := x.classFlags &&& 8 } := by
  have hhit : s.probeHit slot o = some x := by
    obtain ⟨hmem, hok⟩ := probed_iff.1 hx
    unfold State.probeHit
    cases hfind : ((s.opSlots.filter (· != slot)).filterMap s.op).find? (fun x =>
        x.ring == 64 * o.vf + leAt o.desc 0x08 1 && x.tag == leAt o.desc 0x0A 2 && !bit x.classFlags 6) with
    | none => exact absurd hok (List.find?_eq_none.1 hfind x hmem)
    | some y => exact congrArg some (hone y (probed_iff.2 ⟨List.mem_of_find?_eq_some hfind, by simpa using List.find?_some hfind⟩))
  have hp := op_probe h hlive hcode
  rw [hhit] at hp
  exact hp

theorem probe_misses (h : s.op slot = some o) (hlive : o.status = none) (hcode : leAt o.desc 0 1 = 0x50) (hnone : ∀ x, ¬ Probed s slot o x) :
    ∃ t, exec (.probe slot) s = .next t ∧ (∀ j, j ≠ slot → t.op j = s.op j) ∧ t.mem = s.mem ∧
      t.op slot = some { o.closedAs 0 (s.endCount + 1) with classFlags := o.classFlags ||| 16 } := by
  have hhit : s.probeHit slot o = none := List.find?_eq_none.2 (fun x hmem hok => hnone x (probed_iff.2 ⟨hmem, hok⟩))
  have hp := op_probe h hlive hcode
  rw [hhit] at hp
  exact hp

end

end Sys2Proof.Machine

/-! BEACON of a ring: answers, and the beacons that its operations change (R426 to R433, R440, R442). -/
namespace Sys2Proof.Machine

/-- A reading that answers, raised vectors and the table of waiters do not bear on. -/
structure SeesNoAnswer {β : Type} (g : State → β) : Prop where
  tcore : ∀ s c v, g (State.setTcore s c v) = g s
  op : ∀ s k o, g (State.setOp s k o) = g s
  ended : ∀ s n, g { s with endCount := n } = g s
  out : ∀ s o, g (State.emit s o) = g s
  vec : ∀ s k v, g (State.setVec s k v) = g s
  waiters : ∀ s l, g { s with waiters := l } = g s

theorem seesNoAnswer_mem : SeesNoAnswer State.mem :=
  ⟨fun _ _ _ => rfl, fun _ _ _ => rfl, fun _ _ => rfl, fun _ _ => rfl, fun _ _ _ => rfl, fun _ _ => rfl⟩

theorem seesNoAnswer_beacons : SeesNoAnswer State.beacons :=
  ⟨fun _ _ _ => rfl, fun _ _ _ => rfl, fun _ _ => rfl, fun _ _ => rfl, fun _ _ _ => rfl, fun _ _ => rfl⟩

/-- The state with the value of a beacon stored, an armed EVENT beacon disarmed as it fires (R429). -/
def State.valued (s : State) (b : Nat) (v : Word) : State :=
  s.setBeacon b { s.beacon b with value := v, armed := (s.beacon b).armed && !((s.beacon b).mode == modeEvent && (s.beacon b).armed && v != 0) }

section
variable {s : State} {β : Type} {g : State → β}

/-! Answers. -/

theorem answer_reads (h : SeesNoAnswer g) (w : Who) (a : Answer) (b : Nat) (ok orphan : Bool) (v : Word) : g (s.answer w a b ok orphan v) = g s := by
  cases a with
  | engine c q =>
    show g (if ok then s.popQueue c q else s) = g s
    split
    · cases q <;> exact h.tcore _ _ _
    · rfl
  | op k => exact closeOp_reads g h.op h.ended k _
  | se n => exact h.out _ _
  | window w' => exact h.out _ _
  | rack src id fetch => exact h.out _ _

theorem raiseEvent_reads (h : SeesNoAnswer g) (bc : Beacon) : g (s.raiseEvent bc) = g s := by
  unfold State.raiseEvent
  split <;> exact raise_reads _ g (h.vec _) (h.out _) _ _

theorem putBeacon_reads (h : SeesNoAnswer g) (b : Nat) (v : Word) : g (s.putBeacon b v) = g (s.valued b v) := by
  unfold State.putBeacon State.answerAll
  refine (foldl_reads (g := g) (fun t w _ => answer_reads h w.who w.ans w.beacon true false v) _).trans ((h.waiters _ _).trans ?_)
  split
  · exact raiseEvent_reads h _
  · rfl

theorem putBeacon_mem (b : Nat) (v : Word) : (s.putBeacon b v).mem = s.mem := putBeacon_reads seesNoAnswer_mem b v

theorem putBeacon_beacons (b : Nat) (v : Word) : (s.putBeacon b v).beacons = (s.valued b v).beacons := putBeacon_reads seesNoAnswer_beacons b v

theorem answer_mem (w : Who) (a : Answer) (b : Nat) (ok orphan : Bool) (v : Word) : (s.answer w a b ok orphan v).mem = s.mem :=
  answer_reads seesNoAnswer_mem w a b ok orphan v

theorem answer_beacons (w : Who) (a : Answer) (b : Nat) (ok orphan : Bool) (v : Word) : (s.answer w a b ok orphan v).beacons = s.beacons :=
  answer_reads seesNoAnswer_beacons w a b ok orphan v

theorem refuseBeacon_reads (h : SeesNoAnswer g) (hfset : ∀ t f n, g (State.fset t f n) = g t) (w : Who) (a : Answer) : g (s.refuseBeacon w a) = g s := by
  refine (hfset _ _ _).trans ?_
  cases a with
  | op k => exact closeOp_reads g h.op h.ended k _
  | engine c q => exact h.out _ _
  | se n => exact h.out _ _
  | window w' => exact h.out _ _
  | rack src id fetch => exact h.out _ _

theorem refuseBeacon_mem (w : Who) (a : Answer) : (s.refuseBeacon w a).mem = s.mem := refuseBeacon_reads seesNoAnswer_mem (fun _ _ _ => rfl) w a

theorem refuseBeacon_beacons (w : Who) (a : Answer) : (s.refuseBeacon w a).beacons = s.beacons :=
  refuseBeacon_reads seesNoAnswer_beacons (fun _ _ _ => rfl) w a

theorem joinWaiters_reads (h : SeesNoAnswer g) (hfset : ∀ t f n, g (State.fset t f n) = g t) (w : Who) (a : Answer) (b prio : Nat) (thr : Option Word) :
    g (s.joinWaiters w a b prio thr) = g s := by
  unfold State.joinWaiters
  extract_lets tabled
  split
  · exact (hfset _ _ _).trans (answer_reads h _ _ _ _ _ _)
  · exact h.waiters _ _

theorem joinWaiters_mem (w : Who) (a : Answer) (b prio : Nat) (thr : Option Word) : (s.joinWaiters w a b prio thr).mem = s.mem :=
  joinWaiters_reads seesNoAnswer_mem (fun _ _ _ => rfl) w a b prio thr

theorem joinWaiters_beacons (w : Who) (a : Answer) (b prio : Nat) (thr : Option Word) : (s.joinWaiters w a b prio thr).beacons = s.beacons :=
  joinWaiters_reads seesNoAnswer_beacons (fun _ _ _ => rfl) w a b prio thr

/-! The operations of R427, by their code. -/

/-- An operation of R427 by the code of a BEACON descriptor (R440). -/
def State.bcnOp (s : State) (w : Who) (a : Answer) (b code prio : Nat) (x y : Word) : State :=
  match code with
  | 0 => s.bcnRead w a b
  | 1 => s.bcnAdd w a b x
  | 2 => s.bcnSet w a b x
  | 3 => s.bcnCas w a b x y
  | 4 => s.bcnWait w a b prio x
  | 5 => s.bcnArm w a b x
  | 6 => s.bcnAcquire w a b prio
  | 7 => s.bcnRelease w a b
  | _ => s.bcnReprio w a b prio

/-- The word that a grant stores (R430). -/
def State.grantWord (s : State) (b : Nat) (w : Who) : Word :=
  lockWord true false (s.ownerOf w) (s.epochOf w) (lockGrants (s.beacon b).value + 1)

theorem grantLock_beacons (b : Nat) (w : Who) (a : Answer) : (s.grantLock b w a).beacons = (s.valued b (s.grantWord b w)).beacons :=
  (answer_beacons _ _ _ _ _ _).trans (putBeacon_beacons _ _)

theorem grantLock_mem (b : Nat) (w : Who) (a : Answer) : (s.grantLock b w a).mem = s.mem := (answer_mem _ _ _ _ _ _).trans (putBeacon_mem _ _)

/-- The beacons after a lock is passed on (R433). -/
def State.passed (s : State) (b : Nat) : Assoc Beacon :=
  match s.nextAcquire b with
  | some w => (s.valued b (s.grantWord b w.who)).beacons
  | none => (s.valued b ((s.beacon b).value &&& ~~~ 1)).beacons

theorem passLock_beacons (b : Nat) : (s.passLock b).beacons = s.passed b := by
  unfold State.passLock State.passed
  cases s.nextAcquire b with
  | some w => exact grantLock_beacons _ _ _
  | none => exact putBeacon_beacons _ _

theorem passLock_mem (b : Nat) : (s.passLock b).mem = s.mem := by
  unfold State.passLock
  split
  · exact grantLock_mem _ _ _
  · exact putBeacon_mem _ _

/-- The beacons after an add (R429). -/
def State.addedBeacons (s : State) (w : Who) (b : Nat) (x : Word) : Assoc Beacon :=
  if !s.mayUse w (s.beacon b) then s.beacons
  else match addValue (s.beacon b) x with
    | some v => (s.valued b v).beacons
    | none => s.beacons

theorem bcnAdd_beacons (w : Who) (a : Answer) (b : Nat) (x : Word) : (s.bcnAdd w a b x).beacons = s.addedBeacons w b x := by
  unfold State.bcnAdd State.addedBeacons
  dsimp only
  split
  · exact refuseBeacon_beacons w a
  · cases addValue (s.beacon b) x with
    | some v => exact (answer_beacons _ _ _ _ _ _).trans (putBeacon_beacons _ _)
    | none => exact refuseBeacon_beacons w a

theorem bcnAdd_mem (w : Who) (a : Answer) (b : Nat) (x : Word) : (s.bcnAdd w a b x).mem = s.mem := by
  unfold State.bcnAdd
  dsimp only
  split
  · exact refuseBeacon_mem w a
  · split
    · exact (answer_mem _ _ _ _ _ _).trans (putBeacon_mem _ _)
    · exact refuseBeacon_mem w a

theorem raiseEvent_mem (bc : Beacon) : (s.raiseEvent bc).mem = s.mem := raiseEvent_reads seesNoAnswer_mem bc

theorem raiseEvent_beacons (bc : Beacon) : (s.raiseEvent bc).beacons = s.beacons := raiseEvent_reads seesNoAnswer_beacons bc

theorem bcnArm_mem (w : Who) (a : Answer) (b : Nat) (x : Word) : (s.bcnArm w a b x).mem = s.mem := by
  unfold State.bcnArm
  dsimp only
  split
  · exact refuseBeacon_mem w a
  · split
    · split
      · exact refuseBeacon_mem w a
      · exact (answer_mem _ _ _ _ _ _).trans (State.setBeacon_mem _ _ _)
    · split
      · split
        · exact (answer_mem _ _ _ _ _ _).trans (State.setBeacon_mem _ _ _)
        · exact (answer_mem _ _ _ _ _ _).trans ((raiseEvent_mem _).trans (State.setBeacon_mem _ _ _))
      · exact refuseBeacon_mem w a

/-- The beacons after an arm (R429). -/
def State.armedBeacons (s : State) (w : Who) (b : Nat) (x : Word) : Assoc Beacon :=
  let bc := s.beacon b
  if !s.mayUse w bc then s.beacons
  else if bc.mode = modeBarrier then
    if x.toNat = 0 ∨ 2 ^ 32 - 1 < x.toNat then s.beacons
    else (s.setBeacon b { bc with target := x.toNat, value := BitVec.ofNat 64 (getField bc.value 32 32 * 2 ^ 32) }).beacons
  else if bc.mode = modeEvent then
    if bc.value = 0 then (s.setBeacon b { bc with armed := true }).beacons else (s.setBeacon b { bc with armed := false }).beacons
  else s.beacons

theorem bcnArm_beacons (w : Who) (a : Answer) (b : Nat) (x : Word) : (s.bcnArm w a b x).beacons = s.armedBeacons w b x := by
  unfold State.bcnArm State.armedBeacons
  dsimp only
  split
  · exact refuseBeacon_beacons w a
  · split
    · split
      · exact refuseBeacon_beacons w a
      · exact answer_beacons _ _ _ _ _ _
    · split
      · split
        · exact answer_beacons _ _ _ _ _ _
        · exact (answer_beacons _ _ _ _ _ _).trans (raiseEvent_beacons _)
      · exact refuseBeacon_beacons w a

theorem bcnOp_mem (w : Who) (a : Answer) (b code prio : Nat) (x y : Word) : (s.bcnOp w a b code prio x y).mem = s.mem := by
  unfold State.bcnOp
  split
  case h_2 => exact bcnAdd_mem w a b x
  case h_6 => exact bcnArm_mem w a b x
  all_goals
    simp only [State.bcnRead, State.bcnSet, State.bcnCas, State.bcnWait, State.bcnAcquire, State.bcnRelease, State.bcnReprio,
      apply_ite State.mem, answer_mem, putBeacon_mem, refuseBeacon_mem, joinWaiters_mem, grantLock_mem, passLock_mem, ite_self]

/-- The beacons that an operation leaves depend neither on the operations of rings nor on how it is answered, nor on a priority. -/
theorem bcnOp_beacons (l : Assoc (Option Op)) (w : Who) (a a' : Answer) (b code prio prio' : Nat) (x y : Word) :
    (State.bcnOp { s with ops := l } w a b code prio x y).beacons = (s.bcnOp w a' b code prio' x y).beacons := by
  unfold State.bcnOp
  split
  case h_2 => rw [bcnAdd_beacons, bcnAdd_beacons]; rfl
  case h_6 => rw [bcnArm_beacons, bcnArm_beacons]; rfl
  all_goals
    simp only [State.bcnRead, State.bcnSet, State.bcnCas, State.bcnWait, State.bcnAcquire, State.bcnRelease, State.bcnReprio,
      apply_ite State.beacons, answer_beacons, putBeacon_beacons, refuseBeacon_beacons, joinWaiters_beacons, grantLock_beacons, passLock_beacons,
      ite_self]
    try rfl

end

end Sys2Proof.Machine

/-! BEACON of a ring: what becomes of the operation (R426 to R433, R442). -/
namespace Sys2Proof.Machine

section
variable {s t : State} {slot j b : Nat} {o : Op} {w : Who}

/-! Ending an operation that returns a value. -/

/-- An operation as the `n`-th to end. -/
def Op.nth (o : Op) (n : Nat) : Op := { o with ended := n }

/-- The state in which an operation is the last to end. -/
def State.closes (s : State) (slot : Nat) (o : Op) : State :=
  { s.setOp slot (some (o.nth (s.endCount + 1))) with endCount := s.endCount + 1 }

theorem closeOp_live (h : s.op slot = some o) (hlive : o.status = none) (f : Op → Op) : s.closeOp slot f = s.closes slot (f o) := by
  unfold State.closeOp
  rw [h]
  dsimp only
  rw [hlive]
  rfl

theorem op_closeOp_live (h : s.op slot = some o) (hlive : o.status = none) (f : Op → Op) :
    (s.closeOp slot f).op slot = some ((f o).nth (s.endCount + 1)) ∧ (s.closeOp slot f).endCount = s.endCount + 1 := by
  rw [closeOp_live h hlive]
  exact ⟨State.op_setOp_same s slot (some ((f o).nth (s.endCount + 1))), rfl⟩

theorem op_closeOp_other (f : Op → Op) (h : slot ≠ j) : (s.closeOp slot f).op j = s.op j := by
  cases hop : s.op slot with
  | none =>
    unfold State.closeOp
    rw [hop]
  | some o =>
    cases hlive : o.status with
    | none =>
      rw [closeOp_live hop hlive]
      exact State.op_setOp_other s slot (some ((f o).nth (s.endCount + 1))) j h
    | some st =>
      unfold State.closeOp
      rw [hop]
      dsimp only
      rw [hlive]
      rfl

/-- An operation that started and returns a value, as the `n`-th to end (R442). -/
def Op.returnedAs (o : Op) (n st : Nat) (v : Word) (flags : Nat) : Op :=
  { o with started := true, status := some st, ended := n, progress := v, witness := BitVec.ofNat 64 (crc64 (leBytes 8 v.toNat)),
           classFlags := o.classFlags ||| 8 ||| flags }

/-- An operation has started and returned a value, as the last to end. -/
def Returned (t : State) (slot : Nat) (o : Op) (st : Nat) (v : Word) (flags : Nat) : Prop :=
  t.op slot = some (o.returnedAs t.endCount st v flags)

theorem endValue_returned (h : s.op slot = some { o with started := true }) (hlive : o.status = none) (st flags : Nat) (v : Word) :
    Returned (s.endValue slot st flags v) slot o st v flags := by
  obtain ⟨hop, hcount⟩ := op_closeOp_live h hlive (fun o =>
    { o with status := some st, progress := v, witness := BitVec.ofNat 64 (crc64 (leBytes 8 v.toNat)), classFlags := o.classFlags ||| flagCount ||| flags })
  unfold Returned
  rw [State.endValue, hcount, hop]
  rfl

theorem op_endValue_other (st flags : Nat) (v : Word) (h : slot ≠ j) : (s.endValue slot st flags v).op j = s.op j := op_closeOp_other _ h

/-! Answers of waiters. -/

theorem op_answer_other {a : Answer} (h : a ≠ .op j) (w : Who) (b : Nat) (ok orphan : Bool) (v : Word) : (s.answer w a b ok orphan v).op j = s.op j := by
  cases a with
  | engine c q =>
    show (if ok then s.popQueue c q else s).op j = s.op j
    split
    · cases q <;> rfl
    · rfl
  | op k => exact op_closeOp_other _ (fun hk => h (congrArg Answer.op hk))
  | se n => rfl
  | window w' => rfl
  | rack src id fetch => rfl

theorem mem_inOrder {ws : List Waiter} {z : Waiter} (h : z ∈ inOrder ws) : z ∈ ws := by
  obtain ⟨p, -, hz⟩ := List.mem_flatMap.1 h
  exact (List.mem_filter.1 hz).1

theorem raiseEvent_op (bc : Beacon) (j : Nat) : (s.raiseEvent bc).op j = s.op j := by
  unfold State.raiseEvent
  split <;> exact raise_reads _ (fun u => State.op u j) (fun _ _ => rfl) (fun _ => rfl) _ _

theorem raiseEvent_waiters (bc : Beacon) : (s.raiseEvent bc).waiters = s.waiters := by
  unfold State.raiseEvent
  split <;> exact raise_reads _ State.waiters (fun _ _ => rfl) (fun _ => rfl) _ _

/-- A value that is stored leaves an operation that no waiter answers. -/
theorem op_putBeacon (hnone : ∀ z ∈ s.waiters, z.ans ≠ .op j) (b : Nat) (v : Word) : (s.putBeacon b v).op j = s.op j := by
  unfold State.putBeacon State.answerAll
  extract_lets bc fire s1 s2 ready
  have hs2 : s2.op j = s.op j ∧ s2.waiters = s.waiters := by
    show (if fire then s1.raiseEvent bc else s1).op j = s.op j ∧ (if fire then s1.raiseEvent bc else s1).waiters = s.waiters
    split
    · exact ⟨raiseEvent_op bc j, raiseEvent_waiters bc⟩
    · exact ⟨rfl, rfl⟩
  refine (foldl_reads (g := fun u => State.op u j) (fun t z hz => ?_) _).trans hs2.1
  exact op_answer_other (hnone z (hs2.2 ▸ (List.mem_filter.1 (mem_inOrder hz)).1)) _ _ _ _ _

theorem beacon_valued_same (v : Word) : (s.valued b v).beacon b =
    { s.beacon b with value := v, armed := (s.beacon b).armed && !((s.beacon b).mode == modeEvent && (s.beacon b).armed && v != 0) } :=
  State.beacon_setBeacon_same _ _ _

theorem beacon_congr (h : t.beacons = s.beacons) (c : Nat) : t.beacon c = s.beacon c := by
  unfold State.beacon
  rw [h]

theorem beacon_putBeacon_same (v : Word) : ((s.putBeacon b v).beacon b).value = v := by
  rw [beacon_congr (putBeacon_beacons b v), beacon_valued_same]

theorem beacon_putBeacon_other (v : Word) {c : Nat} (h : c ≠ b) : (s.putBeacon b v).beacon c = s.beacon c := by
  rw [beacon_congr (putBeacon_beacons b v)]
  exact State.beacon_setBeacon_other _ _ _ _ (Ne.symm h)

/-! Outcomes. -/

/-- A refused access of an operation: FAULT_ADDR, nothing else changed, counted (R426, R429). -/
theorem refuseBeacon_op (h : s.op slot = some { o with started := true }) (hlive : o.status = none) (w : Who) :
    Returned (s.refuseBeacon w (.op slot)) slot o 0x11 0 0 ∧ (∀ j, j ≠ slot → (s.refuseBeacon w (.op slot)).op j = s.op j) ∧
      (s.refuseBeacon w (.op slot)).waiters = s.waiters ∧
      (s.refuseBeacon w (.op slot)).fget R.BCN_CNT.bad_ops = (s.fget R.BCN_CNT.bad_ops + 1) % 2 ^ 32 := by
  have hregs : (s.endValue slot stFaultAddr 0 0).regs = s.regs := closeOp_reads State.regs (fun _ _ _ => rfl) (fun _ _ => rfl) _ _
  have hwaiters : (s.endValue slot stFaultAddr 0 0).waiters = s.waiters := closeOp_reads State.waiters (fun _ _ _ => rfl) (fun _ _ => rfl) _ _
  refine ⟨endValue_returned h hlive stFaultAddr 0 0, fun j hj => op_endValue_other _ _ _ (Ne.symm hj), hwaiters, ?_⟩
  show ((s.endValue slot stFaultAddr 0 0).finc R.BCN_CNT.bad_ops 1).fget R.BCN_CNT.bad_ops = _
  unfold State.finc
  rw [fget_fset_self _ _ _ rfl, fget_congr hregs, show R.BCN_CNT.bad_ops.width = 32 from rfl, Nat.mod_mod]

/-- An answer of an operation. -/
theorem answer_op (h : s.op slot = some { o with started := true }) (hlive : o.status = none) (w : Who) (b : Nat) (orphan : Bool) (v : Word) :
    Returned (s.answer w (.op slot) b true orphan v) slot o 0 v (if orphan then 32 else 0) ∧
      (∀ j, j ≠ slot → (s.answer w (.op slot) b true orphan v).op j = s.op j) ∧ (s.answer w (.op slot) b true orphan v).waiters = s.waiters :=
  ⟨endValue_returned h hlive _ _ _, fun _ hj => op_endValue_other _ _ _ (Ne.symm hj), closeOp_reads State.waiters (fun _ _ _ => rfl) (fun _ _ => rfl) _ _⟩

end

end Sys2Proof.Machine

/-! The outcomes of BEACON by the code of its operation (R427, R429, R430, R433, R440). -/
namespace Sys2Proof.Machine

section
variable {s : State} {slot b : Nat} {o : Op} {w : Who}

theorem bcnOp_refused {a : Answer} (h : s.mayUse w (s.beacon b) = false) (code prio : Nat) (x y : Word) :
    s.bcnOp w a b code prio x y = s.refuseBeacon w a := by
  unfold State.bcnOp
  split <;>
    simp only [State.bcnRead, State.bcnAdd, State.bcnSet, State.bcnCas, State.bcnWait, State.bcnArm, State.bcnAcquire, State.bcnRelease,
      State.bcnReprio, h, Bool.not_false, Bool.false_and, if_true, Bool.false_eq_true, if_false]

section
variable (huse : s.mayUse w (s.beacon b) = true)
include huse

theorem bcnAdd_counts {a : Answer} (hmode : (s.beacon b).mode = 0 ∨ (s.beacon b).mode = 3) (x : Word) :
    s.bcnAdd w a b x = (s.putBeacon b ((s.beacon b).value + x)).answer w a b true false (s.beacon b).value := by
  have hadd : addValue (s.beacon b) x = some ((s.beacon b).value + x) := by
    unfold addValue
    obtain h | h := hmode <;> rw [h] <;> rfl
  unfold State.bcnAdd
  dsimp only
  rw [huse, hadd]
  rfl

theorem bcnSet_sets {a : Answer} (hmode : (s.beacon b).mode = 0 ∨ (s.beacon b).mode = 3) (x : Word) :
    s.bcnSet w a b x = (s.putBeacon b x).answer w a b true false (s.beacon b).value := by
  unfold State.bcnSet
  dsimp only
  rw [huse]
  obtain h | h := hmode <;> rw [h] <;> rfl

theorem bcnCas_compares {a : Answer} (hmode : (s.beacon b).mode = 0 ∨ (s.beacon b).mode = 3) (x y : Word) :
    s.bcnCas w a b x y = (if (s.beacon b).value = y then s.putBeacon b x else s).answer w a b true false (s.beacon b).value := by
  unfold State.bcnCas
  dsimp only
  rw [huse]
  obtain h | h := hmode <;> rw [h] <;> rfl

/-- A LOCK beacon refuses add, set, compare-and-set and arm (R429). -/
theorem bcnOp_lock {a : Answer} (hmode : (s.beacon b).mode = 2) {code : Nat} (hcode : code = 1 ∨ code = 2 ∨ code = 3 ∨ code = 5) (prio : Nat)
    (x y : Word) : s.bcnOp w a b code prio x y = s.refuseBeacon w a := by
  have hadd : addValue (s.beacon b) x = none := by
    unfold addValue
    rw [hmode]
    rfl
  obtain rfl | rfl | rfl | rfl := hcode
  · show s.bcnAdd w a b x = _
    unfold State.bcnAdd
    dsimp only
    rw [huse, hadd]
    rfl
  · show s.bcnSet w a b x = _
    unfold State.bcnSet
    dsimp only
    rw [huse, hmode]
    rfl
  · show s.bcnCas w a b x y = _
    unfold State.bcnCas
    dsimp only
    rw [huse, hmode]
    rfl
  · show s.bcnArm w a b x = _
    unfold State.bcnArm
    dsimp only
    rw [huse, hmode]
    rfl

theorem bcnRead_reads {a : Answer} : s.bcnRead w a b = s.answer w a b true false (s.beacon b).value := by
  unfold State.bcnRead
  dsimp only
  rw [huse]
  rfl

theorem bcnWait_reached {a : Answer} {x : Word} (hreached : x.toNat ≤ (s.beacon b).value.toNat) (prio : Nat) :
    s.bcnWait w a b prio x = s.answer w a b true false (s.beacon b).value := by
  unfold State.bcnWait
  dsimp only
  rw [huse]
  exact if_pos hreached

/-- The waiter of a wait or an acquire of an operation. -/
def State.opWaiter (s : State) (w : Who) (slot b prio : Nat) (thr : Option Word) : Waiter :=
  { beacon := b, who := w, ans := .op slot, prio := prio, threshold := thr, tabled := true, epoch := s.epochOf w }

/-- The state with one more waiter. -/
def State.joined (s : State) (z : Waiter) : State := { s with waiters := s.waiters ++ [z] }

/-- The state with other waiters and priorities to come. -/
def State.requeued (s : State) (l : List Waiter) (p : List (Who × Nat × Nat)) : State := { s with waiters := l, nextPrio := p }

/-- A beacon that is armed. -/
def Beacon.arm (bc : Beacon) : Beacon := { bc with armed := true }

theorem bcnWait_waits {x : Word} (hbelow : (s.beacon b).value.toNat < x.toNat) (hroom : s.tableUsed < 65536) (prio : Nat) :
    s.bcnWait w (.op slot) b prio x = s.joined (s.opWaiter w slot b prio (some x)) := by
  unfold State.bcnWait
  dsimp only
  rw [huse]
  refine (if_neg (Nat.not_le.2 hbelow)).trans ?_
  unfold State.joinWaiters
  exact if_neg (by simp only [Bool.true_and, decide_eq_true_eq]; omega)

theorem bcnArm_arms {a : Answer} (hmode : (s.beacon b).mode = 3) (hzero : (s.beacon b).value = 0) (x : Word) :
    s.bcnArm w a b x = (s.setBeacon b (s.beacon b).arm).answer w a b true false 0 := by
  unfold State.bcnArm Beacon.arm
  dsimp only
  rw [huse, hmode, hzero]
  rfl

theorem bcnReprio_answers {a : Answer} (prio : Nat) :
    ∃ l p, s.bcnReprio w a b prio = (s.requeued l p).answer w a b true false (s.beacon b).value := by
  unfold State.bcnReprio
  dsimp only
  rw [huse]
  rw [Bool.not_true, if_neg Bool.false_ne_true]
  split
  · exact ⟨_, _, rfl⟩
  · split
    · exact ⟨_, _, rfl⟩
    · exact ⟨s.waiters, s.nextPrio, rfl⟩

/-- Without waiters for the lock, one that is not held, or is orphaned, is granted (R430, R433). -/
theorem bcnAcquire_grants {a : Answer} (hmode : (s.beacon b).mode = 2)
    (hfree : getField (s.beacon b).value 0 1 = 0 ∨ getField (s.beacon b).value 1 1 = 1) (hnone : ∀ z ∈ s.waiters, z.beacon ≠ b) (prio : Nat) :
    ∃ p, s.bcnAcquire w a b prio = (s.requeued s.waiters p).grantLock b w a := by
  have hnext : (s.nextAcquire b).isNone = true := by
    have hfilter : s.waiters.filter (fun z => z.beacon == b && z.threshold.isNone) = [] := by
      rw [List.filter_eq_nil_iff]
      intro z hz hb
      exact hnone z hz (eq_of_beq (Bool.and_eq_true_iff.1 hb).1)
    unfold State.nextAcquire
    rw [hfilter]
    rfl
  refine ⟨s.nextPrio.filter (fun e => !(e.1 == w && e.2.1 == b)), ?_⟩
  unfold State.bcnAcquire
  dsimp only
  rw [huse, hmode, hnext, Bool.and_true]
  refine (if_neg (by decide)).trans (if_pos ?_)
  unfold lockHeld lockOrphaned
  obtain h | h := hfree <;> rw [h]
  · rfl
  · rw [beq_self_eq_true, Bool.or_true]

theorem bcnRelease_releases {a : Answer} (hmode : (s.beacon b).mode = 2) (hheld : lockHeld (s.beacon b).value = true)
    (horphan : lockOrphaned (s.beacon b).value = false) (howner : lockOwner (s.beacon b).value = s.ownerOf w)
    (hepoch : lockEpoch (s.beacon b).value = s.epochOf w) (hnone : ∀ z ∈ s.waiters, z.beacon ≠ b) :
    s.bcnRelease w a b = (s.putBeacon b ((s.beacon b).value &&& ~~~ 1)).answer w a b true false (s.beacon b).value := by
  have hnext : s.nextAcquire b = none := by
    have hfilter : s.waiters.filter (fun z => z.beacon == b && z.threshold.isNone) = [] := by
      rw [List.filter_eq_nil_iff]
      intro z hz hb
      exact hnone z hz (eq_of_beq (Bool.and_eq_true_iff.1 hb).1)
    unfold State.nextAcquire
    rw [hfilter]
    rfl
  unfold State.bcnRelease State.passLock
  dsimp only
  rw [huse, hmode, hheld, horphan, decide_eq_true howner, decide_eq_true hepoch, hnext]
  rfl

end

/-! The word of a lock. -/

theorem getField_held (held orphaned : Bool) (owner : Nat × Nat × Nat × Bool) (epoch grants : Nat) :
    getField (lockWord held orphaned owner epoch grants) 0 1 = held.toNat := by
  rw [← fld_eq_getField]
  unfold lockWord fld
  rw [BitVec.toNat_ofNat]
  cases held <;> simp only [Bool.toNat_true, Bool.toNat_false] <;> omega

theorem getField_unit (held orphaned : Bool) (owner : Nat × Nat × Nat × Bool) (epoch grants : Nat) :
    getField (lockWord held orphaned owner epoch grants) 16 10 = owner.2.1 % 1024 := by
  have h1 : held.toNat < 2 := held.toNat_lt
  have h2 : orphaned.toNat < 2 := orphaned.toNat_lt
  rw [← fld_eq_getField]
  unfold lockWord fld
  rw [BitVec.toNat_ofNat]
  omega

theorem lockHeld_cleared (v : Word) : lockHeld (v &&& ~~~ 1) = false := by
  have h : getField (v &&& ~~~ (1 : Word)) 0 1 = 0 := by
    refine Nat.eq_of_testBit_eq (fun i => ?_)
    rw [getField_bit, Nat.zero_testBit]
    by_cases hi : i < 1
    · obtain rfl : i = 0 := by omega
      simp
    · rw [decide_eq_false hi, Bool.false_and]
  unfold lockHeld
  rw [h]
  rfl

end

end Sys2Proof.Machine

/-! BEACON of a ring, from a descriptor that may start (R426 to R433, R440, R442). -/
namespace Sys2Proof.Machine

section
variable {s : State} {slot : Nat} {o : Op}

theorem beginOp_eq (h : s.op slot = some o) : s.beginOp slot = s.setOp slot (some { o with started := true }) := by
  unfold State.beginOp State.onOp
  rw [h]

/-- The beacon, requester, operation, priority and operands that a BEACON descriptor names (R440). -/
def Op.bcn (o : Op) : Nat := leAt o.desc 0x08 2
def Op.bcnCode (o : Op) : Nat := leAt o.desc 0x0A 1
def Op.bcnPrio (o : Op) : Nat := leAt o.desc 0x0B 1 % 8
def Op.bcnX (o : Op) : Word := BitVec.ofNat 64 (leAt o.desc 0x10 8)
def Op.bcnY (o : Op) : Word := BitVec.ofNat 64 (leAt o.desc 0x18 8)

/-- The operation of R427 that a BEACON descriptor asks for. -/
def State.bcnOf (s : State) (slot : Nat) (o : Op) : State :=
  s.bcnOp (.vf (o.ring / 64)) (.op slot) o.bcn o.bcnCode o.bcnPrio o.bcnX o.bcnY

theorem bcnOf_code {c : Nat} (hcode : o.bcnCode = c) :
    s.bcnOf slot o = s.bcnOp (.vf (o.ring / 64)) (.op slot) o.bcn c o.bcnPrio o.bcnX o.bcnY := by
  rw [State.bcnOf, hcode]

theorem exec_beacon (h : Starts s slot 0x41 o) : exec (.beacon slot) s = .next
    (if 16384 ≤ o.bcn then (s.beginOp slot).refuseBeacon (.vf (o.ring / 64)) (.op slot)
     else (s.beginOp slot).bcnOf slot o) := by
  show execBeacon _ _ = _
  unfold execBeacon
  rw [mayStartOp_starts h]
  exact (apply_ite Host.Outcome.next _ _ _).symm

variable (h : Starts s slot 0x41 o)
include h

theorem op_begun : (s.beginOp slot).op slot = some { o with started := true } := op_beginOp_same h.2.1

theorem starts_live : o.status = none := h.2.2.1

omit h in
theorem begun_other {j : Nat} (hj : j ≠ slot) : (s.beginOp slot).op j = s.op j := op_beginOp_other (Ne.symm hj)

/-- What a started BEACON sees is what stood before it. -/
theorem mayUse_begun (w : Who) (bc : Beacon) : (s.beginOp slot).mayUse w bc = s.mayUse w bc := by
  rw [beginOp_eq h.2.1]
  rfl

theorem beacon_begun (b : Nat) : (s.beginOp slot).beacon b = s.beacon b := by
  rw [beginOp_eq h.2.1]
  rfl

theorem begun_reads {β : Type} (g : State → β) (hg : ∀ u k o, g (State.setOp u k o) = g u) : g (s.beginOp slot) = g s := by
  rw [beginOp_eq h.2.1]
  exact hg _ _ _

theorem beacon_refuses (hnot : ¬ (o.bcn < 16384 ∧ s.mayUse (.vf (o.ring / 64)) (s.beacon o.bcn) = true)) :
    ∃ t, exec (.beacon slot) s = .next t ∧ Returned t slot o 0x11 0 0 ∧ t.beacons = s.beacons ∧ t.waiters = s.waiters ∧
      (∀ j, j ≠ slot → t.op j = s.op j) ∧ t.fget R.BCN_CNT.bad_ops = (s.fget R.BCN_CNT.bad_ops + 1) % 2 ^ 32 := by
  have hexec : exec (.beacon slot) s = .next ((s.beginOp slot).refuseBeacon (.vf (o.ring / 64)) (.op slot)) := by
    rw [exec_beacon h]
    split
    · rfl
    · next hlt =>
      have hmay : s.mayUse (.vf (o.ring / 64)) (s.beacon o.bcn) = false := Bool.eq_false_iff.2 (fun hm => hnot ⟨Nat.lt_of_not_le hlt, hm⟩)
      rw [State.bcnOf, bcnOp_refused ((beacon_begun h _).symm ▸ (mayUse_begun h _ _).trans hmay)]
  obtain ⟨hret, hother, hwait, hbad⟩ := refuseBeacon_op (op_begun h) (starts_live h) (.vf (o.ring / 64))
  refine ⟨_, hexec, hret, (refuseBeacon_beacons _ _).trans (begun_reads h State.beacons (fun _ _ _ => rfl)),
    hwait.trans (begun_reads h State.waiters (fun _ _ _ => rfl)), fun j hj => (hother j hj).trans (begun_other hj), ?_⟩
  rw [hbad, fget_congr (begun_reads h State.regs (fun _ _ _ => rfl))]

theorem exec_beacon_allowed (hb : o.bcn < 16384) : exec (.beacon slot) s =
    .next ((s.beginOp slot).bcnOf slot o) := by
  rw [exec_beacon h, if_neg (Nat.not_le.2 hb)]

omit h in
/-- The command of the same operation (R427). -/
theorem exec_beaconCmd (w : Who) {b code prio : Nat} (hb : b < 16384) (x y : Word) {cmd : Instr}
    (hcmd : (code, cmd) ∈ [(0, Instr.beaconRead w b), (1, .beaconAdd w b x), (2, .beaconSet w b x), (3, .beaconCas w b x y),
      (4, .beaconWait w b x), (5, .beaconArm w b x), (6, .beaconAcquire w b prio), (7, .beaconRelease w b), (8, .beaconReprioritise w b prio)]) :
    ∃ p, exec cmd s = .next (s.bcnOp w (.window w) b code p x y) := by
  have hlt : decide (b < 16384) = true := decide_eq_true hb
  have hgo (t : State) : whenever (decide (b < 16384)) t s = .next t := by rw [hlt]; rfl
  simp only [List.mem_cons, Prod.mk.injEq, List.not_mem_nil, or_false] at hcmd
  obtain ⟨rfl, rfl⟩ | ⟨rfl, rfl⟩ | ⟨rfl, rfl⟩ | ⟨rfl, rfl⟩ | ⟨rfl, rfl⟩ | ⟨rfl, rfl⟩ | ⟨rfl, rfl⟩ | ⟨rfl, rfl⟩ | ⟨rfl, rfl⟩ := hcmd
  · exact ⟨0, hgo _⟩
  · exact ⟨0, hgo _⟩
  · exact ⟨0, hgo _⟩
  · exact ⟨0, hgo _⟩
  · exact ⟨0, hgo _⟩
  · exact ⟨0, hgo _⟩
  · exact ⟨prio % 8, hgo _⟩
  · exact ⟨0, hgo _⟩
  · exact ⟨prio, hgo _⟩

theorem beacon_asCommand (hb : o.bcn < 16384) {cmd : Instr}
    (hcmd : (o.bcnCode, cmd) ∈ [(0, Instr.beaconRead (.vf (o.ring / 64)) o.bcn), (1, .beaconAdd (.vf (o.ring / 64)) o.bcn o.bcnX),
      (2, .beaconSet (.vf (o.ring / 64)) o.bcn o.bcnX), (3, .beaconCas (.vf (o.ring / 64)) o.bcn o.bcnX o.bcnY),
      (4, .beaconWait (.vf (o.ring / 64)) o.bcn o.bcnX), (5, .beaconArm (.vf (o.ring / 64)) o.bcn o.bcnX),
      (6, .beaconAcquire (.vf (o.ring / 64)) o.bcn o.bcnPrio), (7, .beaconRelease (.vf (o.ring / 64)) o.bcn),
      (8, .beaconReprioritise (.vf (o.ring / 64)) o.bcn o.bcnPrio)]) :
    ∃ t u, exec (.beacon slot) s = .next t ∧ exec cmd s = .next u ∧ t.beacons = u.beacons ∧ t.mem = s.mem := by
  obtain ⟨p, hexec⟩ := exec_beaconCmd (s := s) (.vf (o.ring / 64)) hb o.bcnX o.bcnY hcmd
  refine ⟨_, _, exec_beacon_allowed h hb, hexec, ?_, (bcnOp_mem _ _ _ _ _ _ _).trans (begun_reads h State.mem (fun _ _ _ => rfl))⟩
  rw [beginOp_eq h.2.1]
  exact bcnOp_beacons _ _ _ _ _ _ _ _ _ _

/-- The outcome of an operation that answers in a state `u` with its operation begun. -/
theorem beacon_answers {u : State} {orphan : Bool} {v : Word} (hb : o.bcn < 16384) (hop : u.op slot = some { o with started := true })
    (hexec : (s.beginOp slot).bcnOf slot o =
      u.answer (.vf (o.ring / 64)) (.op slot) o.bcn true orphan v) :
    ∃ t, exec (.beacon slot) s = .next t ∧ Returned t slot o 0 v (if orphan then 32 else 0) ∧ t.beacons = u.beacons ∧ t.waiters = u.waiters ∧
      (∀ j, j ≠ slot → t.op j = u.op j) ∧ t.mem = s.mem := by
  have hgo := (exec_beacon_allowed h hb).trans (congrArg Host.Outcome.next hexec)
  obtain ⟨hret, hother, hwait⟩ := answer_op hop (starts_live h) (.vf (o.ring / 64)) o.bcn orphan v
  refine ⟨_, hgo, hret, answer_beacons _ _ _ _ _ _, hwait, hother, ?_⟩
  rw [← hexec, State.bcnOf, bcnOp_mem]
  exact begun_reads h State.mem (fun _ _ _ => rfl)

end

end Sys2Proof.Machine

/-! The operations of a BEACON that is allowed (R427, R429, R430, R433, R440, R442). -/
namespace Sys2Proof.Machine

section
variable {s : State} {slot : Nat} {o : Op} (h : Starts s slot 0x41 o)
include h

theorem begun_beacons : (s.beginOp slot).beacons = s.beacons := begun_reads h State.beacons (fun _ _ _ => rfl)

theorem begun_waiters : (s.beginOp slot).waiters = s.waiters := begun_reads h State.waiters (fun _ _ _ => rfl)

/-- A value stored after the operation begins leaves the operation begun where no waiter answers it. -/
theorem op_putBeacon_begun (hnone : ∀ z ∈ s.waiters, z.ans ≠ .op slot) (b : Nat) (v : Word) :
    ((s.beginOp slot).putBeacon b v).op slot = some { o with started := true } :=
  (op_putBeacon (by rw [begun_waiters h]; exact hnone) b v).trans (op_begun h)

variable (hb : o.bcn < 16384) (huse : s.mayUse (.vf (o.ring / 64)) (s.beacon o.bcn) = true)
include hb huse

omit hb in
theorem mayUse_begun_beacon : (s.beginOp slot).mayUse (.vf (o.ring / 64)) ((s.beginOp slot).beacon o.bcn) = true := by
  rw [beacon_begun h, mayUse_begun h, huse]

omit huse in
/-- An answer with the value as it was, every beacon, waiter and other operation unchanged. -/
theorem beacon_answers_unchanged (hexec : (s.beginOp slot).bcnOf slot o =
      (s.beginOp slot).answer (.vf (o.ring / 64)) (.op slot) o.bcn true false ((s.beginOp slot).beacon o.bcn).value) :
    ∃ t, exec (.beacon slot) s = .next t ∧ Returned t slot o 0 (s.beacon o.bcn).value 0 ∧ t.beacons = s.beacons ∧ t.waiters = s.waiters ∧
      t.mem = s.mem ∧ (∀ j, j ≠ slot → t.op j = s.op j) := by
  obtain ⟨t, hgo, hret, hbeacons, hwaiters, hothers, hmem⟩ := beacon_answers h hb (op_begun h) hexec
  rw [beacon_begun h] at hret
  exact ⟨t, hgo, hret, hbeacons.trans (begun_beacons h), hwaiters.trans (begun_waiters h), hmem,
    fun j hj => (hothers j hj).trans (begun_other hj)⟩

theorem beacon_read (hcode : o.bcnCode = 0) :
    ∃ t, exec (.beacon slot) s = .next t ∧ Returned t slot o 0 (s.beacon o.bcn).value 0 ∧ t.beacons = s.beacons ∧ t.waiters = s.waiters ∧
      t.mem = s.mem ∧ (∀ j, j ≠ slot → t.op j = s.op j) :=
  beacon_answers_unchanged h hb ((bcnOf_code hcode).trans <| bcnRead_reads (mayUse_begun_beacon h huse))

theorem beacon_reached (hcode : o.bcnCode = 4) (hreached : o.bcnX.toNat ≤ (s.beacon o.bcn).value.toNat) :
    ∃ t, exec (.beacon slot) s = .next t ∧ Returned t slot o 0 (s.beacon o.bcn).value 0 ∧ t.beacons = s.beacons ∧ t.waiters = s.waiters ∧
      t.mem = s.mem ∧ (∀ j, j ≠ slot → t.op j = s.op j) :=
  beacon_answers_unchanged h hb
    ((bcnOf_code hcode).trans <| bcnWait_reached (mayUse_begun_beacon h huse) (by rw [beacon_begun h]; exact hreached) o.bcnPrio)

omit huse in
/-- An answer with the value as it was, the new value stored. -/
theorem beacon_answers_stored (hnone : ∀ z ∈ s.waiters, z.ans ≠ .op slot) {v : Word}
    (hexec : (s.beginOp slot).bcnOf slot o =
      ((s.beginOp slot).putBeacon o.bcn v).answer (.vf (o.ring / 64)) (.op slot) o.bcn true false ((s.beginOp slot).beacon o.bcn).value) :
    ∃ t, exec (.beacon slot) s = .next t ∧ Returned t slot o 0 (s.beacon o.bcn).value 0 ∧ (t.beacon o.bcn).value = v ∧
      (∀ c, c ≠ o.bcn → t.beacon c = s.beacon c) ∧ t.mem = s.mem := by
  obtain ⟨t, hgo, hret, hbeacons, -, -, hmem⟩ := beacon_answers h hb (op_putBeacon_begun h hnone _ _) hexec
  rw [beacon_begun h] at hret
  refine ⟨t, hgo, hret, ?_, fun c hc => ?_, hmem⟩
  · rw [beacon_congr hbeacons, beacon_putBeacon_same]
  · rw [beacon_congr hbeacons, beacon_putBeacon_other _ hc, beacon_begun h]

theorem beacon_changes (hnone : ∀ z ∈ s.waiters, z.ans ≠ .op slot) (hmode : (s.beacon o.bcn).mode = 0 ∨ (s.beacon o.bcn).mode = 3) (v : Word)
    (hcode : o.bcnCode = 1 ∧ v = (s.beacon o.bcn).value + o.bcnX ∨ o.bcnCode = 2 ∧ v = o.bcnX ∨
      o.bcnCode = 3 ∧ v = if (s.beacon o.bcn).value = o.bcnY then o.bcnX else (s.beacon o.bcn).value) :
    ∃ t, exec (.beacon slot) s = .next t ∧ Returned t slot o 0 (s.beacon o.bcn).value 0 ∧ (t.beacon o.bcn).value = v ∧
      (∀ c, c ≠ o.bcn → t.beacon c = s.beacon c) ∧ t.mem = s.mem := by
  have huse' := mayUse_begun_beacon h huse
  have hmode' : ((s.beginOp slot).beacon o.bcn).mode = 0 ∨ ((s.beginOp slot).beacon o.bcn).mode = 3 := by rw [beacon_begun h]; exact hmode
  obtain ⟨hcode, rfl⟩ | ⟨hcode, rfl⟩ | ⟨hcode, rfl⟩ := hcode
  · refine beacon_answers_stored h hb hnone ((bcnOf_code hcode).trans <| (bcnAdd_counts huse' hmode' o.bcnX).trans ?_)
    rw [beacon_begun h]
  · exact beacon_answers_stored h hb hnone ((bcnOf_code hcode).trans <| bcnSet_sets huse' hmode' o.bcnX)
  · have hcas := bcnCas_compares (a := .op slot) huse' hmode' o.bcnX o.bcnY
    split
    · next heq =>
      refine beacon_answers_stored h hb hnone ((bcnOf_code hcode).trans <| hcas.trans ?_)
      rw [beacon_begun h, if_pos heq]
    · next hne =>
      obtain ⟨t, hgo, hret, hbeacons, -, hmem, -⟩ := beacon_answers_unchanged h hb ((bcnOf_code hcode).trans <| hcas.trans (by rw [beacon_begun h, if_neg hne]))
      exact ⟨t, hgo, hret, congrArg Beacon.value (beacon_congr hbeacons _), fun c _ => beacon_congr hbeacons c, hmem⟩

theorem beacon_lockRefuses (hmode : (s.beacon o.bcn).mode = 2) (hcode : o.bcnCode = 1 ∨ o.bcnCode = 2 ∨ o.bcnCode = 3 ∨ o.bcnCode = 5) :
    ∃ t, exec (.beacon slot) s = .next t ∧ Returned t slot o 0x11 0 0 ∧ t.beacons = s.beacons ∧ (∀ j, j ≠ slot → t.op j = s.op j) := by
  obtain ⟨hret, hothers, -, -⟩ := refuseBeacon_op (op_begun h) (starts_live h) (.vf (o.ring / 64))
  refine ⟨_, (exec_beacon_allowed h hb).trans (congrArg Host.Outcome.next
    (bcnOp_lock (mayUse_begun_beacon h huse) (by rw [beacon_begun h]; exact hmode) hcode _ _ _)), hret,
    (refuseBeacon_beacons _ _).trans (begun_beacons h), fun j hj => (hothers j hj).trans (begun_other hj)⟩

theorem beacon_waits (hcode : o.bcnCode = 4) (hbelow : (s.beacon o.bcn).value.toNat < o.bcnX.toNat) (hroom : s.tableUsed < 65536) :
    ∃ t z, exec (.beacon slot) s = .next t ∧ t.op slot = some { o with started := true } ∧ t.waiters = s.waiters ++ [z] ∧ z.beacon = o.bcn ∧
      z.ans = .op slot ∧ z.who = .vf (o.ring / 64) ∧ z.threshold = some o.bcnX ∧ z.prio = o.bcnPrio ∧ t.beacons = s.beacons ∧
      (∀ j, j ≠ slot → t.op j = s.op j) := by
  have hroom' : (s.beginOp slot).tableUsed < 65536 := by
    rw [begun_reads h State.tableUsed (fun _ _ _ => rfl)]
    exact hroom
  have hwait := bcnWait_waits (slot := slot) (mayUse_begun_beacon h huse) (by rw [beacon_begun h]; exact hbelow) hroom' o.bcnPrio
  exact ⟨_, (s.beginOp slot).opWaiter (.vf (o.ring / 64)) slot o.bcn o.bcnPrio (some o.bcnX),
    (exec_beacon_allowed h hb).trans (congrArg Host.Outcome.next ((bcnOf_code hcode).trans <| hwait)), op_begun h,
    congrArg (· ++ [_]) (begun_waiters h), rfl, rfl, rfl, rfl, rfl, begun_beacons h, fun j hj => begun_other hj⟩

theorem beacon_arms (hcode : o.bcnCode = 5) (hmode : (s.beacon o.bcn).mode = 3) (hzero : (s.beacon o.bcn).value = 0) :
    ∃ t, exec (.beacon slot) s = .next t ∧ Returned t slot o 0 0 0 ∧ t.beacon o.bcn = (s.beacon o.bcn).arm ∧
      (∀ c, c ≠ o.bcn → t.beacon c = s.beacon c) ∧ t.mem = s.mem := by
  have harm := bcnArm_arms (a := .op slot) (mayUse_begun_beacon h huse) (by rw [beacon_begun h]; exact hmode)
    (by rw [beacon_begun h]; exact hzero) o.bcnX
  have hop (v : Beacon) : ((s.beginOp slot).setBeacon o.bcn v).op slot = some { o with started := true } := op_begun h
  obtain ⟨t, hgo, hret, hbeacons, -, -, hmem⟩ := beacon_answers h hb (hop _) ((bcnOf_code hcode).trans <| harm)
  refine ⟨t, hgo, hret, ?_, fun c hc => ?_, hmem⟩
  · rw [beacon_congr hbeacons, State.beacon_setBeacon_same, beacon_begun h]
  · rw [beacon_congr hbeacons, State.beacon_setBeacon_other _ _ _ _ (Ne.symm hc), beacon_begun h]

theorem beacon_reprioritises (hcode : o.bcnCode = 8) :
    ∃ t, exec (.beacon slot) s = .next t ∧ Returned t slot o 0 (s.beacon o.bcn).value 0 ∧ t.beacons = s.beacons ∧
      (∀ j, j ≠ slot → t.op j = s.op j) := by
  obtain ⟨l, p, hreprio⟩ := bcnReprio_answers (a := .op slot) (mayUse_begun_beacon h huse) o.bcnPrio
  have hop : ((s.beginOp slot).requeued l p).op slot = some { o with started := true } := op_begun h
  obtain ⟨t, hgo, hret, hbeacons, -, hothers, -⟩ := beacon_answers h hb hop ((bcnOf_code hcode).trans <| hreprio)
  rw [beacon_begun h] at hret
  exact ⟨t, hgo, hret, hbeacons.trans (begun_beacons h), fun j hj => (hothers j hj).trans (begun_other hj)⟩

theorem beacon_releases (hnone : ∀ z ∈ s.waiters, z.ans ≠ .op slot) (hcode : o.bcnCode = 7) (hmode : (s.beacon o.bcn).mode = 2)
    (hheld : lockHeld (s.beacon o.bcn).value = true) (horphan : lockOrphaned (s.beacon o.bcn).value = false)
    (howner : lockOwner (s.beacon o.bcn).value = s.ownerOf (.vf (o.ring / 64)))
    (hepoch : lockEpoch (s.beacon o.bcn).value = s.epochOf (.vf (o.ring / 64))) (hfree : ∀ z ∈ s.waiters, z.beacon ≠ o.bcn) :
    ∃ t, exec (.beacon slot) s = .next t ∧ Returned t slot o 0 (s.beacon o.bcn).value 0 ∧ lockHeld (t.beacon o.bcn).value = false ∧
      (∀ c, c ≠ o.bcn → t.beacon c = s.beacon c) ∧ t.mem = s.mem := by
  have hbcn : (s.beginOp slot).beacon o.bcn = s.beacon o.bcn := beacon_begun h _
  have hrelease := bcnRelease_releases (a := .op slot) (mayUse_begun_beacon h huse) (hbcn ▸ hmode) (hbcn ▸ hheld) (hbcn ▸ horphan)
    (by rw [hbcn, howner, begun_reads h (State.ownerOf · (.vf (o.ring / 64))) (fun _ _ _ => rfl)])
    (by rw [hbcn, hepoch, begun_reads h (State.epochOf · (.vf (o.ring / 64))) (fun _ _ _ => rfl)])
    (by rw [begun_waiters h]; exact hfree)
  obtain ⟨t, hgo, hret, hvalue, halone, hmem⟩ := beacon_answers_stored h hb hnone ((bcnOf_code hcode).trans <| hrelease)
  exact ⟨t, hgo, hret, hvalue ▸ lockHeld_cleared _, halone, hmem⟩

theorem beacon_acquires (hnone : ∀ z ∈ s.waiters, z.ans ≠ .op slot) (hcode : o.bcnCode = 6) (hmode : (s.beacon o.bcn).mode = 2)
    (hlock : getField (s.beacon o.bcn).value 0 1 = 0 ∨ getField (s.beacon o.bcn).value 1 1 = 1) (hfree : ∀ z ∈ s.waiters, z.beacon ≠ o.bcn) :
    ∃ t, exec (.beacon slot) s = .next t ∧ getField (t.beacon o.bcn).value 0 1 = 1 ∧ getField (t.beacon o.bcn).value 16 10 = 0x3FF ∧
      (∀ c, c ≠ o.bcn → t.beacon c = s.beacon c) ∧
      (if getField (s.beacon o.bcn).value 1 1 = 1 then Returned t slot o 0 ((t.beacon o.bcn).value ||| 2) 32
       else Returned t slot o 0 (t.beacon o.bcn).value 0) ∧ t.mem = s.mem := by
  have hbcn : (s.beginOp slot).beacon o.bcn = s.beacon o.bcn := beacon_begun h _
  obtain ⟨p, hgrant⟩ := bcnAcquire_grants (a := .op slot) (mayUse_begun_beacon h huse) (hbcn ▸ hmode) (hbcn ▸ hlock)
    (by rw [begun_waiters h]; exact hfree) o.bcnPrio
  have hop : ∀ v, (State.putBeacon ((s.beginOp slot).requeued (s.beginOp slot).waiters p) o.bcn v).op slot = some { o with started := true } := fun v =>
    (op_putBeacon (by show ∀ z ∈ (s.beginOp slot).waiters, _; rw [begun_waiters h]; exact hnone) _ _).trans (op_begun h)
  obtain ⟨t, hgo, hret, hbeacons, -, -, hmem⟩ := beacon_answers h hb (hop _) ((bcnOf_code hcode).trans <| hgrant)
  have hvalue : (t.beacon o.bcn).value = State.grantWord ((s.beginOp slot).requeued (s.beginOp slot).waiters p) o.bcn (.vf (o.ring / 64)) := by
    rw [beacon_congr hbeacons]
    exact beacon_putBeacon_same _
  have hother (c : Nat) (hc : c ≠ o.bcn) : t.beacon c = s.beacon c := by
    rw [beacon_congr hbeacons, beacon_putBeacon_other _ hc]
    exact beacon_begun h c
  have horphan : lockOrphaned (State.beacon ((s.beginOp slot).requeued (s.beginOp slot).waiters p) o.bcn).value = (getField (s.beacon o.bcn).value 1 1 == 1) := by
    rw [← hbcn]
    rfl
  refine ⟨t, hgo, hvalue ▸ getField_held _ _ _ _ _, hvalue ▸ getField_unit _ _ _ _ _, hother, ?_, hmem⟩
  rw [horphan] at hret
  rw [hvalue]
  split
  · next hone =>
    rw [hone] at hret
    exact hret
  · next hone =>
    rw [beq_false_of_ne hone] at hret
    exact hret

end

end Sys2Proof.Machine

/-! ATOMIC of a ring: the command that leaves, waits or ends at its source (R321, R327, R345, R383, R440). -/
namespace Sys2Proof.Machine

/-- A reading that counters, free values and reports do not bear on. -/
structure SeesNoReport {β : Type} (g : State → β) : Prop where
  fset : ∀ s f n, g (State.fset s f n) = g s
  free : ∀ s n, g { s with free := n } = g s
  fatals : ∀ s l, g { s with fatals := l } = g s
  reports : ∀ s l, g { s with reports := l } = g s
  out : ∀ s o, g (State.emit s o) = g s
  vec : ∀ s k v, g (State.setVec s k v) = g s

theorem report_keptBy {β : Type} {g : State → β} (h : SeesNoReport g) (s : State) (source code cls detail : Nat) :
    g (s.report source code cls detail) = g s :=
  report_reads s g (h.fatals s) (h.reports s) (fun _ => (raise_reads _ g (h.vec _) (h.out _) _ _).trans (h.fset _ _ _)) source code cls detail

theorem reportOpen_keptBy {β : Type} {g : State → β} (h : SeesNoReport g) (s : State) (source code cls : Nat) :
    g (s.reportOpen source code cls) = g s :=
  (report_keptBy h _ _ _ _ _).trans (h.free _ _)

theorem seesNoReport_mem : SeesNoReport State.mem :=
  ⟨fun _ _ _ => rfl, fun _ _ => rfl, fun _ _ => rfl, fun _ _ => rfl, fun _ _ => rfl, fun _ _ _ => rfl⟩

theorem seesNoReport_ops : SeesNoReport State.ops :=
  ⟨fun _ _ _ => rfl, fun _ _ => rfl, fun _ _ => rfl, fun _ _ => rfl, fun _ _ => rfl, fun _ _ _ => rfl⟩

theorem seesNoReport_reqs : SeesNoReport State.reqs :=
  ⟨fun _ _ _ => rfl, fun _ _ => rfl, fun _ _ => rfl, fun _ _ => rfl, fun _ _ => rfl, fun _ _ _ => rfl⟩

/-! Issue of a request. -/

/-- The identifier of a new request is not in use: one of as many as there are requests, and one more, is free. -/
theorem req_freeReq (s : State) : s.req s.freeReq = none := by
  unfold State.freeReq
  cases hfind : (List.range (s.reqs.length + 1)).find? (fun i => (s.req i).isNone) with
  | some i => exact Option.isNone_iff_eq_none.1 (List.find?_some (p := fun i => (s.req i).isNone) hfind)
  | none =>
    have hlisted : List.range (s.reqs.length + 1) ⊆ s.reqs.map Prod.fst := by
      intro i hi
      by_contra hout
      exact List.find?_eq_none.1 hfind i hi (Option.isNone_iff_eq_none.2 (assocGet_unlisted _ _ _ (fun e he hkey => hout (hkey ▸ List.mem_map_of_mem he))))
    have hlength := (List.nodup_range.subperm hlisted).length_le
    rw [List.length_range, List.length_map] at hlength
    omega

section
variable {s : State} {slot : Nat} {o : Op} {q : Ask}

theorem countKey_keptBy {β : Type} {g : State → β} (h : SeesNoReport g) : g s.countKey = g s := (reportOpen_keptBy h _ _ _ _).trans (h.fset _ _ _)

theorem countDead_keptBy {β : Type} {g : State → β} (h : SeesNoReport g) : g s.countDead = g s := (reportOpen_keptBy h _ _ _ _).trans (h.fset _ _ _)

/-- A request refused at its source ends there, counted at most. -/
theorem rackIssue_refused (h : s.sourceStatus q ≠ 0) :
    ∃ t, s.rackIssue q = (t, .ended (s.sourceStatus q)) ∧ t.mem = s.mem ∧ t.ops = s.ops ∧ t.reqs = s.reqs := by
  unfold State.rackIssue
  dsimp only
  split
  · exact ⟨_, rfl, countKey_keptBy seesNoReport_mem, countKey_keptBy seesNoReport_ops, countKey_keptBy seesNoReport_reqs⟩
  · split
    · exact ⟨_, rfl, countDead_keptBy seesNoReport_mem, countDead_keptBy seesNoReport_ops, countDead_keptBy seesNoReport_reqs⟩
    · exact ⟨s, rfl, rfl, rfl, rfl⟩

/-- The request that an ask becomes. -/
def State.asRequest (s : State) (q : Ask) : RackOut :=
  { dst := if s.ownLdn q.ldn then s.ldn else q.ldn, desc := q.desc, off := q.off, kind := q.kind, len := q.len, core := q.core, mover := q.mover,
    cands := if s.ownLdn q.ldn then [] else s.cands q.ldn 0, epoch := s.epochRegion q.ldn q.desc, issuedIn := s.fget R.TRN_NUMBER.transit,
    partition := q.part.getD 0, timeoutUs := fld (s.outEntry q.ldn q.desc).toNat 66 9, querying := false }

/-- The state with an ask's request on its way. -/
def State.requested (s t : State) (q : Ask) : State :=
  (t.setReq s.freeReq (some (s.asRequest q))).emit
    (.rackReq s.freeReq (s.asRequest q).dst q.desc q.off q.kind ((s.outEntry q.ldn q.desc).toNat % 2 ^ 32) q.bytes
      (if s.ownLdn q.ldn then none else s.pathOf q))

theorem rackIssue_accepted (h : s.sourceStatus q = 0) (hfirst : s.ownLdn q.ldn = true ∨ s.reqs = []) :
    s.rackIssue q = match s.shaped q.ldn q.size with
      | none => (s, .wait)
      | some t => (s.requested t q, .sent s.freeReq) := by
  unfold State.rackIssue
  dsimp only
  rw [h]
  refine (if_neg (by decide)).trans ((if_neg (by decide)).trans ((if_neg (by decide)).trans ((if_neg ?_).trans rfl)))
  rw [Bool.not_eq_true]
  obtain hown | hnil := hfirst
  · rw [List.any_eq_false]
    intro x _
    cases x.2 with
    | none => exact Bool.false_ne_true
    | some r => simp [hown]
  · rw [hnil]
    rfl

theorem shaped_cases {ldn n : Nat} {t : State} (h : s.shaped ldn n = some t) : ∃ b, t = s ∨ t = s.setShapeOf ldn b := by
  unfold State.shaped at h
  dsimp only at h
  split at h
  · exact ⟨s.shapeOf ldn, Or.inl (Option.some.inj h).symm⟩
  · obtain ⟨b, -, hb⟩ := Option.map_eq_some_iff.1 h
    exact ⟨b, Or.inr hb.symm⟩

/-! ATOMIC. -/

/-- The sizes that an atomic operation takes (R326, R327). -/
def atomicWidths (base : Nat) : List Nat :=
  match base with
  | 1 => [4, 8] | 2 => [4] | 3 => [8] | 4 => [4, 8] | 5 => [4, 8] | 6 => [4, 8] | 7 => [4, 8] | 8 => [4, 8] | 9 => [4, 8] | 10 => [4, 8]
  | 11 => [4, 8] | 12 => [4, 8] | 13 => [4, 8] | 14 => [4, 8] | _ => []

theorem atomicSizes_eq_atomicWidths (base : Nat) : atomicSizes base = atomicWidths base := by
  by_cases hlt : base < 15
  · interval_cases base <;> rfl
  · obtain ⟨k, rfl⟩ := Nat.exists_eq_add_of_le' (Nat.not_lt.1 hlt)
    exact if_neg (t := [4, 8]) (show ¬ (1 ≤ k + 15 ∧ k + 15 ≤ 0x0E) by omega)

/-- The command of an ATOMIC descriptor, and what it asks for (R321, R440). -/
def Op.command (o : Op) : List Byte := (o.desc.drop 8).take 32

def Op.atomicAsk (o : Op) (slot : Nat) : Ask :=
  askAt (leAt o.command 8 8) (leAt o.command 1 1)
    (if 128 ≤ leAt o.command 0 1 ∨ leAt o.command 0 1 % 128 = 7 ∨ leAt o.command 0 1 % 128 = 8 then 3 else 2)
    (some o.partition) none (some (.op slot, 0, 0)) o.command

theorem acOk_iff (c : List Byte) : acOk c = true ↔ leAt c 1 1 ∈ atomicWidths (leAt c 0 1 % 128) ∧ leAt c 8 8 % leAt c 1 1 = 0 := by
  unfold acOk acOp acSize acAddr
  rw [atomicSizes_eq_atomicWidths, Bool.and_eq_true, List.contains_iff_mem, beq_iff_eq]

theorem issueAtomic_command (h : acOk o.command = true) :
    s.issueAtomic o.command (some o.partition) none (some (.op slot, 0, 0)) = s.rackIssue (o.atomicAsk slot) := by
  have hfetch : (atomicFetch (acOp o.command) = true) =
      (128 ≤ leAt o.command 0 1 ∨ leAt o.command 0 1 % 128 = 7 ∨ leAt o.command 0 1 % 128 = 8) := by
    unfold atomicFetch acOp
    rw [Bool.or_eq_true, Bool.or_eq_true, beq_iff_eq, beq_iff_eq, or_assoc]
    exact propext (or_congr decide_eq_true_iff Iff.rfl)
  unfold State.issueAtomic Op.atomicAsk
  rw [h]
  simp only [hfetch]
  rfl

/-- An operation has ended with a status and nothing else has changed but counters and reports. -/
def EndsAlone (s t : State) (slot st : Nat) : Prop :=
  ∃ x, t.op slot = some x ∧ x.started = true ∧ x.status = some st ∧ (∀ j, j ≠ slot → t.op j = s.op j) ∧ t.mem = s.mem ∧ t.reqs = s.reqs

theorem op_congr {t : State} (h : t.ops = s.ops) (j : Nat) : t.op j = s.op j := by
  unfold State.op
  rw [h]

theorem endValue_endsAlone {t : State} (hop : s.op slot = some o) (hlive : o.status = none) (hmem : t.mem = s.mem) (hops : t.ops = s.ops)
    (hreqs : t.reqs = s.reqs) (st : Nat) (v : Word) : EndsAlone s ((t.drawn.beginOp slot).endValue slot st 0 v) slot st := by
  have hbegun : (t.drawn.beginOp slot).op slot = some { o with started := true } := op_beginOp_same ((op_congr hops slot).trans hop)
  refine ⟨_, endValue_returned hbegun hlive st 0 v, rfl, rfl, fun j hj => ?_, ?_, ?_⟩
  · rw [op_endValue_other _ _ _ (Ne.symm hj), op_beginOp_other (Ne.symm hj)]
    exact op_congr hops j
  · exact (closeOp_mem _ _).trans ((onOp_mem _ _).trans hmem)
  · exact (closeOp_reads State.reqs (fun _ _ _ => rfl) (fun _ _ => rfl) _ _).trans
      ((onOp_reads State.reqs (fun _ _ _ => rfl) _ _).trans hreqs)

variable (h : Starts s slot 0x40 o)
include h

theorem exec_atomic_ends {t : State} {st : Nat} (hissue : s.issueAtomic o.command (some o.partition) none (some (.op slot, 0, 0)) = (t, .ended st)) :
    exec (.atomic slot) s = .next ((t.drawn.beginOp slot).endValue slot st 0 (Config.unknownOld t.free)) := by
  show execAtomic _ _ = _
  unfold execAtomic
  rw [mayStartOp_starts h]
  dsimp only
  rw [show (o.desc.drop 8).take 32 = o.command from rfl, hissue]

theorem exec_atomic_leaves {t : State} {id : Nat}
    (hissue : s.issueAtomic o.command (some o.partition) none (some (.op slot, 0, 0)) = (t, .sent id)) :
    exec (.atomic slot) s = .next (t.beginOp slot) := by
  show execAtomic _ _ = _
  unfold execAtomic
  rw [mayStartOp_starts h]
  dsimp only
  rw [show (o.desc.drop 8).take 32 = o.command from rfl, hissue]

theorem exec_atomic_waits (hissue : s.issueAtomic o.command (some o.partition) none (some (.op slot, 0, 0)) = (s, .wait)) :
    exec (.atomic slot) s = .next s := by
  show execAtomic _ _ = _
  unfold execAtomic
  rw [mayStartOp_starts h]
  dsimp only
  rw [show (o.desc.drop 8).take 32 = o.command from rfl, hissue]

theorem atomic_malformed (hbad : leAt o.command 1 1 ∉ atomicWidths (leAt o.command 0 1 % 128) ∨ leAt o.command 8 8 % leAt o.command 1 1 ≠ 0) :
    ∃ t, exec (.atomic slot) s = .next t ∧ EndsAlone s t slot 0x11 := by
  have hok : acOk o.command = false := Bool.eq_false_iff.2 (fun hok => by
    obtain ⟨hmem, hzero⟩ := (acOk_iff _).1 hok
    exact hbad.elim (fun h => h hmem) (fun h => h hzero))
  have hissue : s.issueAtomic o.command (some o.partition) none (some (.op slot, 0, 0)) = (s, .ended stFaultAddr) := by
    unfold State.issueAtomic
    rw [hok]
    rfl
  exact ⟨_, exec_atomic_ends h hissue, endValue_endsAlone h.2.1 h.2.2.1 rfl rfl rfl _ _⟩

variable (hsize : leAt o.command 1 1 ∈ atomicWidths (leAt o.command 0 1 % 128)) (halign : leAt o.command 8 8 % leAt o.command 1 1 = 0)
include hsize halign

omit h in
theorem issueAtomic_of_ok : s.issueAtomic o.command (some o.partition) none (some (.op slot, 0, 0)) = s.rackIssue (o.atomicAsk slot) :=
  issueAtomic_command ((acOk_iff _).2 ⟨hsize, halign⟩)

theorem atomic_refused (hrefuse : s.sourceStatus (o.atomicAsk slot) ≠ 0) :
    ∃ t, exec (.atomic slot) s = .next t ∧ EndsAlone s t slot (s.sourceStatus (o.atomicAsk slot)) := by
  obtain ⟨t, hissue, hmem, hops, hreqs⟩ := rackIssue_refused hrefuse
  exact ⟨_, exec_atomic_ends h ((issueAtomic_of_ok hsize halign).trans hissue), endValue_endsAlone h.2.1 h.2.2.1 hmem hops hreqs _ _⟩

theorem atomic_waits (hpass : s.sourceStatus (o.atomicAsk slot) = 0) (hnil : s.reqs = [])
    (hheld : s.shaped (o.atomicAsk slot).ldn (o.atomicAsk slot).size = none) : exec (.atomic slot) s = .next s := by
  refine exec_atomic_waits h ((issueAtomic_of_ok hsize halign).trans ((rackIssue_accepted hpass (Or.inr hnil)).trans ?_))
  rw [hheld]

theorem atomic_leaves (hpass : s.sourceStatus (o.atomicAsk slot) = 0)
    (hfree : s.ownLdn (o.atomicAsk slot).ldn = true ∨ s.reqs = [] ∧ s.shaped (o.atomicAsk slot).ldn (o.atomicAsk slot).size ≠ none) :
    ∃ t id r, exec (.atomic slot) s = .next t ∧ s.req id = none ∧ t.req id = some r ∧ r.desc = (o.atomicAsk slot).desc ∧
      r.off = (o.atomicAsk slot).off ∧ r.dst = (if s.ownLdn (o.atomicAsk slot).ldn then s.ldn else (o.atomicAsk slot).ldn) ∧
      r.len = leAt o.command 1 1 ∧ r.mover = some (.op slot, 0, 0) ∧
      t.out = .rackReq id r.dst (o.atomicAsk slot).desc (o.atomicAsk slot).off (o.atomicAsk slot).kind
        ((s.outEntry (o.atomicAsk slot).ldn (o.atomicAsk slot).desc).toNat % 2 ^ 32) o.command
        (if s.ownLdn (o.atomicAsk slot).ldn then none else s.pathOf (o.atomicAsk slot)) :: s.out ∧
      t.op slot = some { o with started := true } ∧ (∀ j, j ≠ slot → t.op j = s.op j) ∧ t.mem = s.mem := by
  obtain ⟨t, hshaped⟩ : ∃ t, s.shaped (o.atomicAsk slot).ldn (o.atomicAsk slot).size = some t := by
    obtain hown | ⟨-, hsome⟩ := hfree
    · exact ⟨s, if_pos (Or.inr hown)⟩
    · exact Option.ne_none_iff_exists'.1 hsome
  have hissue : s.rackIssue (o.atomicAsk slot) = (s.requested t (o.atomicAsk slot), .sent s.freeReq) := by
    rw [rackIssue_accepted hpass (hfree.imp_right And.left), hshaped]
  obtain ⟨hmem, hops, hout⟩ : t.mem = s.mem ∧ t.ops = s.ops ∧ t.out = s.out := by
    obtain ⟨b, rfl | rfl⟩ := shaped_cases hshaped
    · exact ⟨rfl, rfl, rfl⟩
    · exact ⟨rfl, rfl, rfl⟩
  have hop : (s.requested t (o.atomicAsk slot)).op slot = some o := (op_congr hops slot).trans h.2.1
  have hreq : (s.requested t (o.atomicAsk slot)).req s.freeReq = some (s.asRequest (o.atomicAsk slot)) :=
    State.req_setReq_same t s.freeReq (some (s.asRequest (o.atomicAsk slot)))
  refine ⟨_, s.freeReq, s.asRequest (o.atomicAsk slot), exec_atomic_leaves h ((issueAtomic_of_ok hsize halign).trans hissue), req_freeReq s, ?_,
    rfl, rfl, rfl, rfl, rfl, ?_, op_beginOp_same hop, fun j hj => (op_beginOp_other (Ne.symm hj)).trans (op_congr hops j), (onOp_mem _ _).trans hmem⟩
  · exact (onOp_reads (fun u => u.req s.freeReq) (fun _ _ _ => rfl) _ _).trans hreq
  · refine (onOp_reads State.out (fun _ _ _ => rfl) _ _).trans ?_
    show _ :: t.out = _
    rw [hout]
    rfl

end

end Sys2Proof.Machine

/-! The parallax lane agrees with the array where nothing errs (R139 to R146, R168 to R170). -/
namespace Sys2Proof.Machine

/-! An entry that takes terms: its class, its infinities, its invalid bit and its value. -/

/-- The class of a sum that holds infinities of the signs told, and perhaps a NaN (R114). -/
def Cls.ofTerms (pos neg nan : Bool) : Cls :=
  if nan || pos && neg then .nan else if pos then .posInf else if neg then .negInf else .finite

theorem Cls.join_ofTerms (c : Cls) (pos neg nan : Bool) :
    Cls.join c (Cls.ofTerms pos neg nan) = Cls.ofTerms (c = .posInf || pos) (c = .negInf || neg) (c = .nan || nan) := by
  cases c <;> cases pos <;> cases neg <;> cases nan <;> rfl

theorem Cls.ofTerms_eq_finite {pos neg nan : Bool} (h : Cls.ofTerms pos neg nan = .finite) : pos = false ∧ neg = false ∧ nan = false := by
  revert h
  cases pos <;> cases neg <;> cases nan <;> decide

/-- A term of a sum is of a class. -/
def hasCls (c : Cls) (x : FpNum × Bool) : Bool := decide (x.1.cls = c)

/-- A term of a sum makes it invalid by itself. -/
def hasInvalid (x : FpNum × Bool) : Bool := x.2 || x.1.isSig

namespace AccEntry

variable (wide : Bool)

theorem addAll_cls (l : List (FpNum × Bool)) (e : AccEntry) :
    (e.addAll wide l).cls = Cls.join e.cls (Cls.ofTerms (l.any (hasCls .posInf)) (l.any (hasCls .negInf)) (l.any (hasCls .nan))) := by
  induction l generalizing e with
  | nil => cases hc : e.cls <;> exact hc
  | cons x rest ih =>
    refine (ih (e.add wide x.1 x.2)).trans ?_
    show Cls.join (Cls.join e.cls x.1.cls) _ = _
    rw [Cls.join_assoc, Cls.join_ofTerms]
    rfl

theorem addAll_pos (l : List (FpNum × Bool)) (e : AccEntry) : (e.addAll wide l).pos = (e.pos || l.any (hasCls .posInf)) := by
  induction l generalizing e with
  | nil => exact (Bool.or_false _).symm
  | cons x rest ih => exact (ih (e.add wide x.1 x.2)).trans (Bool.or_assoc _ _ _)

theorem addAll_neg (l : List (FpNum × Bool)) (e : AccEntry) : (e.addAll wide l).neg = (e.neg || l.any (hasCls .negInf)) := by
  induction l generalizing e with
  | nil => exact (Bool.or_false _).symm
  | cons x rest ih => exact (ih (e.add wide x.1 x.2)).trans (Bool.or_assoc _ _ _)

theorem addAll_invalid (l : List (FpNum × Bool)) (e : AccEntry) (h : (e.pos && e.neg) = true → e.invalid = true) :
    (e.addAll wide l).invalid =
      (e.invalid || l.any hasInvalid || ((e.pos || l.any (hasCls .posInf)) && (e.neg || l.any (hasCls .negInf)))) := by
  induction l generalizing e with
  | nil =>
    show e.invalid = (e.invalid || false || ((e.pos || false) && (e.neg || false)))
    revert h
    cases e.invalid <;> cases e.pos <;> cases e.neg <;> decide
  | cons x rest ih =>
    have hinv : (e.add wide x.1 x.2).invalid = (e.invalid || hasInvalid x || ((e.pos || hasCls .posInf x) && (e.neg || hasCls .negInf x))) := rfl
    have hpos : (e.add wide x.1 x.2).pos = (e.pos || hasCls .posInf x) := rfl
    have hneg : (e.add wide x.1 x.2).neg = (e.neg || hasCls .negInf x) := rfl
    refine (ih (e.add wide x.1 x.2) (fun hboth => ?_)).trans ?_
    · rw [hinv, ← hpos, ← hneg, hboth, Bool.or_true]
    · rw [hinv, hpos, hneg, List.any_cons, List.any_cons, List.any_cons, invalid_assoc]
      simp only [Bool.or_assoc]

theorem addAll_value (x : FpNum × Bool) (l : List (FpNum × Bool)) (e : AccEntry) :
    (e.addAll wide (x :: l)).value =
      wrapTo (entryBits wide) (e.value + ((x :: l).map (fun y => y.1.scaledBy (entryLsb wide))).sum) := by
  induction l generalizing x e with
  | nil => exact congrArg (fun v => wrapTo (entryBits wide) (e.value + v)) (Int.add_zero _).symm
  | cons y rest ih =>
    refine (ih y (e.add wide x.1 x.2)).trans ?_
    show wrapTo _ (wrapTo _ (e.value + _) + _) = _
    rw [wrapTo_wrapTo_add, List.map_cons (a := x), List.sum_cons, Int.add_assoc]

/-- Two entries agree: in all but the value beside an infinity or a NaN, and in what zeros leave. -/
def Agrees (a b : AccEntry) : Prop :=
  a.cls = b.cls ∧ a.pos = b.pos ∧ a.neg = b.neg ∧ a.invalid = b.invalid ∧ (a.cls = .finite → a.value = b.value)

theorem Agrees.refl (a : AccEntry) : a.Agrees a := ⟨rfl, rfl, rfl, rfl, fun _ => rfl⟩

theorem finite_of_join {a b : Cls} (h : Cls.join a b = .finite) : a = .finite ∧ b = .finite := by
  revert h
  cases a <;> cases b <;> decide

theorem Agrees.merge {a b c d : AccEntry} (h : a.Agrees b) (h' : c.Agrees d) : (a.merge wide c).Agrees (b.merge wide d) := by
  obtain ⟨hcls, hpos, hneg, hinv, hval⟩ := h
  obtain ⟨hcls', hpos', hneg', hinv', hval'⟩ := h'
  refine ⟨congrArg₂ Cls.join hcls hcls', congrArg₂ or hpos hpos', congrArg₂ or hneg hneg', ?_, fun hfin => ?_⟩
  · show (a.invalid || c.invalid || ((a.pos || c.pos) && (a.neg || c.neg))) = (b.invalid || d.invalid || ((b.pos || d.pos) && (b.neg || d.neg)))
    rw [hpos, hneg, hinv, hpos', hneg', hinv']
  · obtain ⟨ha, hc⟩ := finite_of_join hfin
    exact congrArg (wrapTo (entryBits wide)) (congrArg₂ (· + ·) (hval ha) (hval' hc))

theorem Agrees.laneAgree {a b : AccEntry} (h : a.Agrees b) : Machine.laneAgree a b = true := by
  obtain ⟨hcls, -, -, hinv, hval⟩ := h
  unfold Machine.laneAgree
  split
  · next hfin => rw [hval hfin.1, beq_self_eq_true]
  · rw [hcls, hinv, beq_self_eq_true, beq_self_eq_true, Bool.and_self]

end AccEntry

/-! Kinds of number. -/

theorem numKind_lt (x : FpNum) : numKind x < 6 := by
  cases x with
  | fin n m e =>
    show (if m = 0 then 2 else n.toNat) < 6
    have := n.toNat_lt
    split <;> omega
  | inf n =>
    show 3 + n.toNat < 6
    have := n.toNat_lt
    omega
  | nan n s => exact Nat.lt_succ_self 5

/-- A product is of the class that its kinds of number give. -/
theorem mul_kind_cls (x y : FpNum) : (FpNum.mul x (kindNum (numKind y))).1.cls = (FpNum.mul x y).1.cls := by
  cases y with
  | nan n s => cases x <;> rfl
  | inf n => cases n <;> cases x <;> rfl
  | fin n m e =>
    by_cases hm : m = 0
    · subst hm
      cases x with
      | fin n' m' e' => rfl
      | inf n' => rfl
      | nan n' s' => rfl
    · have hkind : kindNum (numKind (.fin n m e)) = .fin n 1 0 := by
        rw [numKind, if_neg hm]
        cases n <;> rfl
      rw [hkind]
      cases x with
      | fin n' m' e' => rfl
      | inf n' => simp [FpNum.mul, hm]
      | nan n' s' => rfl

theorem mul_kind_invalid (x y : FpNum) :
    ((FpNum.mul x (kindNum (numKind y))).2.invalid || y.isSig) = (FpNum.mul x y).2.invalid := by
  cases y with
  | nan n s => cases x <;> simp [FpNum.mul, kindNum, numKind, FpNum.qnan, FpNum.isSig]
  | inf n => cases n <;> cases x <;> simp [FpNum.mul, kindNum, numKind, FpNum.isSig]
  | fin n m e =>
    by_cases hm : m = 0
    · subst hm
      cases x <;> simp [FpNum.mul, kindNum, numKind, FpNum.isSig]
    · have hkind : kindNum (numKind (.fin n m e)) = .fin n 1 0 := by
        rw [numKind, if_neg hm]
        cases n <;> rfl
      rw [hkind]
      cases x <;> simp [FpNum.mul, FpNum.isSig, hm]

theorem mul_isSig (x y : FpNum) : (FpNum.mul x y).1.isSig = false := by
  cases x <;> cases y <;> simp only [FpNum.mul, apply_ite Prod.fst, apply_ite FpNum.isSig] <;> simp [FpNum.isSig, FpNum.qnan]

/-! One term of rho: a streamed element times a sum of stationary elements. -/

/-- The kinds of the numbers that a lane sum remembers. -/
theorem bit_kinds (ys : List Marked) (k : Nat) :
    bit (ys.foldl (fun a y => a ||| 2 ^ numKind y.1) 0) k = ys.any (fun y => decide (numKind y.1 = k)) := by
  have hstep : ∀ (ys : List Marked) (a : Nat),
      (ys.foldl (fun a y => a ||| 2 ^ numKind y.1) a).testBit k = (a.testBit k || ys.any (fun y => decide (numKind y.1 = k))) := by
    intro ys
    induction ys with
    | nil => exact fun a => (Bool.or_false _).symm
    | cons y rest ih =>
      intro a
      rw [List.foldl_cons, ih, Nat.testBit_or, Nat.testBit_two_pow, List.any_cons, Bool.or_assoc]
  rw [bit_eq_testBit, hstep, Nat.zero_testBit, Bool.false_or]

/-- The kinds of number of a lane sum, in order. -/
def LaneSum.kindList (l : LaneSum) : List Nat := (List.range 6).filter (bit l.kinds)

/-- The products of an element with a number of each kind that a lane sum remembers. -/
def LaneSum.kindTerms (l : LaneSum) (x : FpNum) : List (FpNum × Bool) :=
  l.kindList.map (fun k => ((FpNum.mul x (kindNum k)).1, (FpNum.mul x (kindNum k)).2.invalid))

theorem any_or_any {α : Type} (l : List α) (p q : α → Bool) : l.any (fun x => p x || q x) = (l.any p || l.any q) := by
  rw [Bool.eq_iff_iff]
  simp only [Bool.or_eq_true, List.any_eq_true, and_or_left, exists_or]

theorem any_kindTerms (wide : Bool) (ys : List Marked) (x : FpNum) (p : FpNum × Bool → Bool) :
    ((LaneSum.of wide ys).kindTerms x).any p =
      ys.any (fun y => p ((FpNum.mul x (kindNum (numKind y.1))).1, (FpNum.mul x (kindNum (numKind y.1))).2.invalid)) := by
  rw [Bool.eq_iff_iff, LaneSum.kindTerms, List.any_map, List.any_eq_true, List.any_eq_true]
  constructor
  · rintro ⟨k, hk, hp⟩
    have hbit := (List.mem_filter.1 hk).2
    rw [show (LaneSum.of wide ys).kinds = ys.foldl (fun a y => a ||| 2 ^ numKind y.1) 0 from rfl, bit_kinds, List.any_eq_true] at hbit
    obtain ⟨y, hy, hkind⟩ := hbit
    rw [decide_eq_true_eq] at hkind
    exact ⟨y, hy, hkind ▸ hp⟩
  · rintro ⟨y, hy, hp⟩
    refine ⟨numKind y.1, List.mem_filter.2 ⟨List.mem_range.2 (numKind_lt y.1), ?_⟩, hp⟩
    rw [show (LaneSum.of wide ys).kinds = ys.foldl (fun a y => a ||| 2 ^ numKind y.1) 0 from rfl, bit_kinds, List.any_eq_true]
    exact ⟨y, hy, decide_eq_true rfl⟩

/-- A number is a multiple of 2^u. -/
def FpNum.AtLeast (u : Int) (x : FpNum) : Prop :=
  match x with
  | .fin _ _ e => u ≤ e
  | _ => True

theorem scaledBy_fin {u e : Int} (h : u ≤ e) (n : Bool) (m : Nat) :
    (FpNum.fin n m e).scaledBy u = (if n then -1 else 1) * (m * 2 ^ (e - u).toNat : Nat) := by
  simp only [FpNum.scaledBy, if_pos h]
  cases n <;> simp

theorem timesNum_fin (c : Int) (n : Bool) (m : Nat) (e : Int) :
    timesNum (c * 2 ^ (-e).toNat) (.fin n m e) = (if n then -1 else 1) * (c * (m * 2 ^ e.toNat)) := by
  have hvalue : (if 0 ≤ e then c * 2 ^ (-e).toNat * (m * 2 ^ e.toNat : Nat) else c * 2 ^ (-e).toNat * m / (2 ^ (-e).toNat : Nat)) =
      c * (m * 2 ^ e.toNat) := by
    split
    · next h =>
      rw [show (-e).toNat = 0 by omega]
      push_cast
      ring
    · next h =>
      rw [show e.toNat = 0 by omega, mul_right_comm]
      push_cast
      rw [Int.mul_ediv_cancel _ (by positivity)]
      ring
  simp only [timesNum, hvalue]
  cases n <;> simp

/-- A finite number in units of the entry is a whole multiple of the streamed number's own unit, and so is their product (R141, R143). -/
theorem scaledBy_mul {u w e : Int} {y : FpNum} (hy : y.AtLeast w) (huw : u ≤ w) (hew : u ≤ e + w) (n : Bool) (m : Nat)
    (hfin : (FpNum.mul (.fin n m e) y).1.cls = .finite) :
    ∃ c : Int, y.scaledBy u = c * 2 ^ (-e).toNat ∧
      (FpNum.mul (.fin n m e) y).1.scaledBy u = (if n then -1 else 1) * (c * (m * 2 ^ e.toNat)) := by
  cases y with
  | nan n' s => cases hfin
  | inf n' =>
    by_cases hm : m = 0
    · simp [FpNum.mul, hm, FpNum.qnan, FpNum.cls] at hfin
    · cases n <;> cases n' <;> simp [FpNum.mul, hm, FpNum.cls] at hfin
  | fin n' m' g =>
    have hg : w ≤ g := hy
    refine ⟨(if n' then -1 else 1) * (m' * 2 ^ ((g - u).toNat - (-e).toNat)), ?_, ?_⟩
    · rw [scaledBy_fin (by omega), show (g - u).toNat = (g - u).toNat - (-e).toNat + (-e).toNat by omega, Nat.add_sub_cancel, pow_add]
      push_cast
      ring
    · show (FpNum.fin (n != n') (m * m') (e + g)).scaledBy u = _
      rw [scaledBy_fin (by omega), show (e + g - u).toNat = (g - u).toNat - (-e).toNat + e.toNat by omega, pow_add]
      cases n <;> cases n' <;> push_cast <;> simp <;> ring

/-- The same of a sum: times the streamed number, it is the sum of the products (R168). -/
theorem timesNum_sum {u w e : Int} (huw : u ≤ w) (hew : u ≤ e + w) (n : Bool) (m : Nat) (ys : List Marked) (hys : ∀ y ∈ ys, y.1.AtLeast w)
    (hfin : ∀ y ∈ ys, (FpNum.mul (.fin n m e) y.1).1.cls = .finite) :
    timesNum (ys.map (fun y => y.1.scaledBy u)).sum (.fin n m e) =
      (ys.map (fun y => (FpNum.mul (.fin n m e) y.1).1.scaledBy u)).sum := by
  suffices h : ∃ c : Int, (ys.map (fun y => y.1.scaledBy u)).sum = c * 2 ^ (-e).toNat ∧
      (ys.map (fun y => (FpNum.mul (.fin n m e) y.1).1.scaledBy u)).sum = (if n then -1 else 1) * (c * (m * 2 ^ e.toNat)) by
    obtain ⟨c, hsum, hprod⟩ := h
    rw [hsum, hprod, timesNum_fin]
  induction ys with
  | nil => exact ⟨0, by simp, by simp⟩
  | cons y rest ih =>
    obtain ⟨c, hsum, hprod⟩ := ih (fun z hz => hys z (List.mem_cons_of_mem _ hz)) (fun z hz => hfin z (List.mem_cons_of_mem _ hz))
    obtain ⟨c', hsum', hprod'⟩ := scaledBy_mul (hys y List.mem_cons_self) huw hew n m (hfin y List.mem_cons_self)
    refine ⟨c' + c, ?_, ?_⟩
    · rw [List.map_cons, List.sum_cons, hsum, hsum', add_mul]
    · rw [List.map_cons, List.sum_cons, hprod, hprod']
      ring

theorem sum_scaledBy_of (wide : Bool) (ys : List Marked) :
    (LaneSum.of wide ys).value = (ys.map (fun y => y.1.scaledBy (entryLsb wide))).sum := by
  rw [List.sum_eq_foldl, List.foldl_map]
  rfl

/-- The terms of a streamed element with stationary ones (R114). -/
def rowTerms (x : Marked) (ys : List Marked) : List (FpNum × Bool) := ys.map (mulTerm x)

theorem any_rowTerms (x : FpNum) (ys : List Marked) (p : FpNum × Bool → Bool) :
    (rowTerms (x, false) ys).any p = ys.any (fun y => p ((FpNum.mul x y.1).1, y.2 || (FpNum.mul x y.1).2.invalid)) := by
  rw [rowTerms, List.any_map]
  rfl

theorem fin_of_mul_finite {x y : FpNum} (h : (FpNum.mul x y).1.cls = .finite) : ∃ n m e, x = .fin n m e := by
  cases x with
  | fin n m e => exact ⟨n, m, e, rfl⟩
  | nan n s => cases y <;> cases h
  | inf n =>
    cases y with
    | nan n' s => cases h
    | inf n' => cases n <;> cases n' <;> cases h
    | fin n' m' e =>
      by_cases hm : m' = 0
      · simp [FpNum.mul, hm, FpNum.qnan, FpNum.cls] at h
      · cases n <;> cases n' <;> simp [FpNum.mul, hm, FpNum.cls] at h

theorem finite_of_addAll (wide : Bool) {l : List (FpNum × Bool)} (h : (AccEntry.empty.addAll wide l).cls = .finite) :
    ∀ t ∈ l, t.1.cls = .finite := by
  rw [AccEntry.addAll_cls] at h
  obtain ⟨hpos, hneg, hnan⟩ := Cls.ofTerms_eq_finite (AccEntry.finite_of_join h).2
  intro t ht
  have hnot {c : Cls} (hc : l.any (hasCls c) = false) : t.1.cls ≠ c := of_decide_eq_false (Bool.eq_false_iff.2 (List.any_eq_false.1 hc t ht))
  cases hcls : t.1.cls with
  | finite => rfl
  | posInf => exact absurd hcls (hnot hpos)
  | negInf => exact absurd hcls (hnot hneg)
  | nan => exact absurd hcls (hnot hnan)

/-- A streamed element times the lane sum of stationary ones agrees with the sum of its products with them (R168, R170). -/
theorem times_agrees (wide : Bool) {v w : Int} {x : FpNum} {ys : List Marked} (hne : ys ≠ []) (hx : x.AtLeast v) (hys : ∀ y ∈ ys, y.1.AtLeast w)
    (huw : entryLsb wide ≤ w) (hvw : entryLsb wide ≤ v + w) :
    (AccEntry.empty.addAll wide (rowTerms (x, false) ys)).Agrees (LaneSum.times wide (LaneSum.of wide ys) (x, false)) := by
  set l := LaneSum.of wide ys with hl
  have hclass (c : Cls) : (rowTerms (x, false) ys).any (hasCls c) = (l.kindTerms x).any (hasCls c) := by
    rw [any_rowTerms, any_kindTerms]
    simp only [hasCls, mul_kind_cls]
  have hcls : (AccEntry.empty.addAll wide (rowTerms (x, false) ys)).cls = (AccEntry.empty.addAll wide (l.kindTerms x)).cls := by
    rw [AccEntry.addAll_cls, AccEntry.addAll_cls, hclass, hclass, hclass]
  have htimes : l.times wide (x, false) =
      { AccEntry.empty.addAll wide (l.kindTerms x) with
          value := wrapTo (entryBits wide) (timesNum l.value x),
          invalid := (AccEntry.empty.addAll wide (l.kindTerms x)).invalid || l.invalid || false } := by
    rw [AccEntry.addAll, LaneSum.kindTerms, List.foldl_map]
    rfl
  rw [htimes]
  refine ⟨hcls, ?_, ?_, ?_, fun hfin => ?_⟩
  · exact (AccEntry.addAll_pos ..).trans ((congrArg _ (hclass _)).trans (AccEntry.addAll_pos ..).symm)
  · exact (AccEntry.addAll_neg ..).trans ((congrArg _ (hclass _)).trans (AccEntry.addAll_neg ..).symm)
  · show _ = ((AccEntry.empty.addAll wide (l.kindTerms x)).invalid || l.invalid || false)
    rw [AccEntry.addAll_invalid _ _ _ (by decide), AccEntry.addAll_invalid _ _ _ (by decide), hclass, hclass, Bool.or_false]
    have hinv : (rowTerms (x, false) ys).any hasInvalid = ((l.kindTerms x).any hasInvalid || l.invalid) := by
      have hmark : l.invalid = ys.any (fun y => y.2 || y.1.isSig) := rfl
      rw [any_rowTerms, any_kindTerms, hmark, ← any_or_any]
      congr 1
      funext y
      rw [hasInvalid, hasInvalid, mul_isSig, mul_isSig, ← mul_kind_invalid, Bool.or_false, Bool.or_false, Bool.or_left_comm]
    rw [hinv, show AccEntry.empty.invalid = false from rfl, Bool.false_or, Bool.false_or, Bool.or_right_comm]
  · have hprod : ∀ y ∈ ys, (FpNum.mul x y.1).1.cls = .finite := fun y hy =>
      finite_of_addAll wide hfin (mulTerm (x, false) y) (List.mem_map_of_mem hy)
    obtain ⟨y, rest, rfl⟩ := List.exists_cons_of_ne_nil hne
    obtain ⟨n, m, e, rfl⟩ := fin_of_mul_finite (hprod y List.mem_cons_self)
    refine (AccEntry.addAll_value ..).trans (congrArg (wrapTo (entryBits wide)) ?_)
    rw [hl, sum_scaledBy_of, timesNum_sum huw (le_trans hvw (Int.add_le_add_right hx w)) n m _ hys hprod]
    exact (Int.zero_add _).trans (congrArg List.sum (List.map_map (l := y :: rest)))

end Sys2Proof.Machine

/-! One row of a matrix product passes its lane check where nothing errs (R139, R143, R168 to R170). -/
namespace Sys2Proof.Machine

/-! The least weight of a format. -/

/-- No finite number of a format has a bit below 2 to this power (R102, R103). -/
def fmtLeast (code : Nat) : Int :=
  match fpFmt code with
  | some f => 1 - (f.bias : Int) - f.mb
  | none => 0

theorem decodeFp_atLeast (f : FpFmt) (bits : Nat) : (decodeFp f bits).AtLeast (1 - (f.bias : Int) - f.mb) := by
  have hfin (e m : Nat) (n : Bool) : FpNum.AtLeast (1 - (f.bias : Int) - f.mb)
      (if e = 0 then .fin n m (1 - (f.bias : Int) - f.mb) else .fin n (2 ^ f.mb + m) ((e : Int) - f.bias - f.mb)) := by
    split
    · exact le_refl _
    · show (1 - (f.bias : Int) - f.mb) ≤ (e : Int) - f.bias - f.mb
      omega
  unfold decodeFp
  extract_lets neg e m finite
  split
  · split
    · split
      · exact trivial
      · exact trivial
    · split
      · exact trivial
      · exact hfin e m neg
    · exact hfin e m neg
  · exact hfin e m neg

theorem decodeNum_atLeast (code bits : Nat) : (decodeNum code bits).AtLeast (fmtLeast code) := by
  unfold decodeNum fmtLeast
  cases fpFmt code with
  | some f => exact decodeFp_atLeast f bits
  | none => cases intBits code <;> exact le_refl (0 : Int)

/-- Formats that pair have products that are whole units of their entries (R111, R143). -/
theorem pairOk_least {a b : Nat} (h : pairOk a b = true) :
    entryLsb (a == 0) ≤ fmtLeast b ∧ entryLsb (a == 0) ≤ fmtLeast a + fmtLeast b := by
  have hcases : (4 ≤ a ∧ a ≤ 8) ∧ (4 ≤ b ∧ b ≤ 8) ∨ (a = 0x10 ∧ b = 0x10) ∨ (a ≤ 3 ∧ a = b) := by
    simpa [pairOk, or_assoc] using h
  obtain ⟨⟨ha, ha'⟩, hb, hb'⟩ | ⟨rfl, rfl⟩ | ⟨ha, rfl⟩ := hcases
  · interval_cases a <;> interval_cases b <;> decide
  · decide
  · interval_cases a <;> decide

/-! Sums in either order. -/

theorem addTerms_eq_addAll (wide : Bool) (f : Nat → Marked) (n : Nat) (e : AccEntry) :
    addTerms wide f n e = e.addAll wide ((List.range n).map f) := by
  rw [AccEntry.addAll, List.foldl_map]
  rfl

theorem foldl_merge_addAll (wide : Bool) {L : List (List (FpNum × Bool))} (h : ∀ l ∈ L, l ≠ []) (e : AccEntry) :
    (L.map (fun l => AccEntry.empty.addAll wide l)).foldl (AccEntry.merge wide) e = e.addAll wide L.flatten := by
  induction L generalizing e with
  | nil => rfl
  | cons l rest ih =>
    rw [List.map_cons, List.foldl_cons, AccEntry.merge_addAll_empty wide e (h l List.mem_cons_self),
      ih (fun l' hl' => h l' (List.mem_cons_of_mem _ hl')), List.flatten_cons]
    exact (List.foldl_append ..).symm

theorem flatten_map_map_perm {α β γ : Type} (l : List α) (l' : List β) (f : α → β → γ) :
    (l.map (fun a => l'.map (f a))).flatten.Perm (l'.map (fun b => l.map (fun a => f a b))).flatten := by
  have h := Multiset.bind_map_comm (l : Multiset α) (l' : Multiset β) (f := f)
  simp only [Multiset.map_coe, Multiset.coe_bind, Multiset.coe_eq_coe] at h
  exact h

theorem map_range_ne_nil {α : Type} {k : Nat} (hk : 0 < k) (f : Nat → α) : (List.range k).map f ≠ [] :=
  fun h => absurd (List.range_eq_nil.1 (List.map_eq_nil_iff.1 h)) (by omega)

/-- A merged table of terms is an entry that takes them all. -/
theorem mergeAll_table (wide : Bool) (f : Nat → Nat → FpNum × Bool) {m n : Nat} (hn : 0 < n) :
    mergeAll wide ((List.range m).map (fun i => AccEntry.empty.addAll wide ((List.range n).map (f i)))) =
      AccEntry.empty.addAll wide ((List.range m).map (fun i => (List.range n).map (f i))).flatten := by
  have hrows := foldl_merge_addAll wide (L := (List.range m).map (fun i => (List.range n).map (f i))) (fun l hl => by
    obtain ⟨i, -, rfl⟩ := List.mem_map.1 hl
    exact map_range_ne_nil hn (f i)) AccEntry.empty
  rw [List.map_map] at hrows
  exact hrows

/-- Entries that each take a row of a table, merged, are the entries that each take a column, merged. -/
theorem mergeAll_exchange (wide : Bool) (f : Nat → Nat → FpNum × Bool) {m n : Nat} (hm : 0 < m) (hn : 0 < n) :
    mergeAll wide ((List.range m).map (fun i => AccEntry.empty.addAll wide ((List.range n).map (f i)))) =
      mergeAll wide ((List.range n).map (fun j => AccEntry.empty.addAll wide ((List.range m).map (fun i => f i j)))) := by
  rw [mergeAll_table wide f hn, mergeAll_table wide (fun j i => f i j) hm]
  exact AccEntry.addAll_perm wide _ (flatten_map_map_perm _ _ _)

theorem foldl_merge_agrees (wide : Bool) {f g : Nat → AccEntry} {l : List Nat} (h : ∀ k ∈ l, (f k).Agrees (g k)) {a b : AccEntry}
    (hab : a.Agrees b) : (l.foldl (fun e k => e.merge wide (f k)) a).Agrees (l.foldl (fun e k => e.merge wide (g k)) b) := by
  induction l generalizing a b with
  | nil => exact hab
  | cons k rest ih => exact ih (fun k' hk' => h k' (List.mem_cons_of_mem _ hk')) (hab.merge wide (h k List.mem_cons_self))

/-! The row check. -/

section
variable (wide : Bool) {v w : Int} {x : Nat → FpNum} {y : Nat → Nat → FpNum} {ks outs : Nat}

/-- The stationary elements of one index along K. -/
def statRow (y : Nat → Nat → FpNum) (outs k : Nat) : List Marked := (List.range outs).map (fun o => (y o k, false))

/-- An exact sum of products of numbers. -/
def dotSum (x y : Nat → FpNum) (ks : Nat) : AccEntry :=
  AccEntry.empty.addAll wide ((List.range ks).map (fun k => ((FpNum.mul (x k) (y k)).1, (FpNum.mul (x k) (y k)).2.invalid)))

variable (hx : ∀ k, (x k).AtLeast v) (hy : ∀ o k, (y o k).AtLeast w) (huw : entryLsb wide ≤ w) (hvw : entryLsb wide ≤ v + w)
  (hks : 0 < ks) (houts : 0 < outs)
include hx hy huw hvw hks houts

/-- The contributions of a row agree with rho (R168, R170). -/
theorem contributions_agree : (mergeAll wide ((List.range outs).map (fun o => dotSum wide x (y o) ks))).Agrees
    (rho wide ((List.range ks).map (fun k => LaneSum.of wide (statRow y outs k))) (fun k => (x k, false)) ks) := by
  have hcols : (mergeAll wide ((List.range outs).map (fun o => dotSum wide x (y o) ks))) =
      (List.range ks).foldl (fun e k => e.merge wide (AccEntry.empty.addAll wide (rowTerms (x k, false) (statRow y outs k)))) AccEntry.empty := by
    refine (mergeAll_exchange wide (fun o k => ((FpNum.mul (x k) (y o k)).1, (FpNum.mul (x k) (y o k)).2.invalid)) houts hks).trans ?_
    rw [mergeAll, List.foldl_map]
    simp only [rowTerms, statRow, List.map_map]
    rfl
  rw [hcols]
  have hsums : rho wide ((List.range ks).map (fun k => LaneSum.of wide (statRow y outs k))) (fun k => (x k, false)) ks =
      (List.range ks).foldl (fun e k => e.merge wide (LaneSum.times wide (LaneSum.of wide (statRow y outs k)) (x k, false))) AccEntry.empty := by
    refine List.foldl_ext _ _ _ (fun e k hk => ?_)
    rw [List.getD_eq_getElem?_getD, List.getElem?_map, List.getElem?_range (List.mem_range.1 hk)]
    rfl
  rw [hsums]
  refine foldl_merge_agrees wide (fun k _ => times_agrees wide ?_ (hx k) (fun z hz => ?_) huw hvw) (AccEntry.Agrees.refl _)
  · exact map_range_ne_nil houts _
  · obtain ⟨o, -, rfl⟩ := List.mem_map.1 hz
    exact hy o k

/-- The entries of a row agree with its lane entry after the row check has added rho to it (R170). -/
theorem entries_agree : (mergeAll wide ((List.range outs).map (fun o => dotSum wide x (y o) ks))).Agrees
    (AccEntry.empty.merge wide
      (rho wide ((List.range ks).map (fun k => LaneSum.of wide (statRow y outs k))) (fun k => (x k, false)) ks)) := by
  have hrow : AccEntry.empty.merge wide (mergeAll wide ((List.range outs).map (fun o => dotSum wide x (y o) ks))) =
      mergeAll wide ((List.range outs).map (fun o => dotSum wide x (y o) ks)) := by
    have htable := mergeAll_table wide (fun o k => ((FpNum.mul (x k) (y o k)).1, (FpNum.mul (x k) (y o k)).2.invalid)) (m := outs) hks
    refine (congrArg (AccEntry.empty.merge wide) htable).trans ((AccEntry.merge_addAll_empty wide _ ?_).trans htable.symm)
    intro hnil
    exact map_range_ne_nil hks _ (List.flatten_eq_nil_iff.1 hnil _ (List.mem_map_of_mem (List.mem_range.2 houts)))
  rw [← hrow]
  exact (AccEntry.Agrees.refl _).merge wide (contributions_agree wide hx hy huw hvw hks houts)

omit hx hy huw hvw houts in
theorem empty_merge_dotSum (o : Nat) : AccEntry.empty.merge wide (dotSum wide x (y o) ks) = dotSum wide x (y o) ks :=
  AccEntry.merge_addAll_empty wide _ (map_range_ne_nil hks _)

/-- A row that passes through an array without errors: its exact sums, and rho beside them agrees (R139, R168, R170). -/
theorem rowPass_clean (i : Nat) (out : Nat → Nat × Nat) :
    rowPass wide [] ((List.range ks).map (fun k => LaneSum.of wide (statRow y outs k))) (fun k => (x k, false)) (fun o k => (y o k, false))
      ks outs i out =
    ((List.range outs).map (fun o => dotSum wide x (y o) ks),
     rho wide ((List.range ks).map (fun k => LaneSum.of wide (statRow y outs k))) (fun k => (x k, false)) ks, true) := by
  have hagree := (contributions_agree wide hx hy huw hvw hks houts).laneAgree
  have hcs : (List.range outs).map (fun o => (addTerms wide (fun k => mulTerm (x k, false) (y o k, false)) ks AccEntry.empty).struckAll wide
      (contributionErrs [] (out o).1 (out o).2)) = (List.range outs).map (fun o => dotSum wide x (y o) ks) :=
    List.map_congr_left (fun o _ => addTerms_eq_addAll wide _ ks _)
  unfold rowPass
  dsimp only
  rw [hcs]
  exact congrArg (fun b => (_, _, b)) hagree

end

end Sys2Proof.Machine

/-! A ring tile of whole rows, computed without errors: its checks pass, and its elements are drained exact sums (R146, R147, R169, R441). -/
namespace Sys2Proof.Machine

theorem zip_map_self {α β : Type} (l : List α) (f : α → β) : l.zip (l.map f) = l.map (fun a => (a, f a)) := by
  induction l with
  | nil => rfl
  | cons a l ih => exact congrArg _ ih

theorem findIdx?_map_range_none {α : Type} {f : Nat → α} {p : α → Bool} {n : Nat} (h : ∀ r, p (f r) = false) :
    ((List.range n).map f).findIdx? p = none := by
  rw [List.findIdx?_eq_none_iff]
  intro a ha
  obtain ⟨r, -, rfl⟩ := List.mem_map.1 ha
  exact h r

theorem num_unscaled {o : StatSet} (h : o.scaleCtl % 8 = 0) (right : Bool) (r j i jj nj : Nat) :
    o.num right r j i jj nj = (decodeNum o.fmt (o.vals.getD (r * o.cols + j) 0), false) := by
  have hsize : scaleSize o.scaleCtl = 0 := by
    unfold scaleSize
    rw [h]
    rfl
  exact if_pos hsize

/-- Element `j` of row `r` of an operand. -/
theorem opElems_getD (fmt n : Nat) (rows : List (List Byte)) {r j : Nat} (hr : r < rows.length) (hj : j < n) :
    (opElems fmt n rows).getD (r * n + j) 0 = elemAt fmt (rows[r]) j := by
  induction rows generalizing r with
  | nil => exact absurd hr (Nat.not_lt_zero r)
  | cons row rest ih =>
    have hcons : opElems fmt n (row :: rest) = (List.range n).map (elemAt fmt row) ++ opElems fmt n rest := List.flatMap_cons ..
    rw [hcons, List.getD_eq_getElem?_getD]
    cases r with
    | zero =>
      rw [List.getElem?_append_left (by simpa using hj), Nat.zero_mul, Nat.zero_add, ← List.getD_eq_getElem?_getD, getD_map_range _ _ hj]
      rfl
    | succ r =>
      rw [List.getElem?_append_right (by rw [List.length_map, List.length_range, Nat.succ_mul]; omega), List.length_map, List.length_range,
        show (r + 1) * n + j - n = r * n + j by rw [Nat.succ_mul]; omega, ← List.getD_eq_getElem?_getD]
      exact ih (Nat.lt_of_succ_lt_succ hr)

section
variable {b : List Byte} {i : Nat} (rowA rowB : Nat → List Byte)

/-- Rows of a tile that takes whole rows (R441). -/
def tileFirst (b : List Byte) (i : Nat) : Nat := i * mM b / 64
def tileRows (b : List Byte) (i : Nat) : Nat := (i + 1) * mM b / 64 - i * mM b / 64

theorem tileRange_rows (h : mN b ≤ mM b) (i : Nat) : tileRange b i = (i * mM b / 64, (i + 1) * mM b / 64, 0, mN b) := if_pos h

/-- The exact sum of an output element of a tile: its row of A and its column of B. -/
def cellSum (b : List Byte) (rowA rowB : Nat → List Byte) (r c : Nat) : AccEntry :=
  dotSum (mWide b) (fun k => decodeNum (mFmtA b) (elemAt (mFmtA b) (rowA r) k)) (fun k => decodeNum (mFmtB b) (elemAt (mFmtB b) (rowB k) c)) (mK b)

theorem dotSum_congr (wide : Bool) {x x' y y' : Nat → FpNum} {n : Nat} (hx : ∀ k < n, x k = x' k) (hy : ∀ k < n, y k = y' k) :
    dotSum wide x y n = dotSum wide x' y' n := by
  unfold dotSum
  refine congrArg (fun l => AccEntry.addAll wide l .empty) (List.map_congr_left (fun k hk => ?_))
  rw [hx k (List.mem_range.1 hk), hy k (List.mem_range.1 hk)]

/-- An output element of a tile. -/
def cellOut (b : List Byte) (rowA rowB : Nat → List Byte) (r c : Nat) : Nat :=
  ((cellSum b rowA rowB r c).drain (mWide b) (mOut b) (mRctl b) 0 ((mOutScale b : Int) - 127)).1

/-- The numbers of the operands of a tile from their joined rows. -/
def tileA (b : List Byte) (rows : List (List Byte)) (r k : Nat) : FpNum :=
  decodeNum (mFmtA b) ((opElems (mFmtA b) (mK b) rows).getD (r * mK b + k) 0)
def tileB (b : List Byte) (rows : List (List Byte)) (c k : Nat) : FpNum :=
  decodeNum (mFmtB b) ((opElems (mFmtB b) (mN b) rows).getD (k * mN b + c) 0)

theorem tileA_rows {n r k : Nat} (hr : r < n) (hk : k < mK b) :
    tileA b ((List.range n).map rowA) r k = decodeNum (mFmtA b) (elemAt (mFmtA b) (rowA r) k) := by
  rw [tileA, opElems_getD _ _ _ (by simpa using hr) hk, List.getElem_map, List.getElem_range]

theorem tileB_rows {n c k : Nat} (hk : k < n) (hc : c < mN b) :
    tileB b ((List.range n).map rowB) c k = decodeNum (mFmtB b) (elemAt (mFmtB b) (rowB k) c) := by
  rw [tileB, opElems_getD _ _ _ (by simpa using hk) hc, List.getElem_map, List.getElem_range]

theorem cellSum_eq {n r c : Nat} (hr : r < n) (hc : c < mN b) :
    dotSum (mWide b) (tileA b ((List.range n).map rowA) r) (tileB b ((List.range (mK b)).map rowB) c) (mK b) = cellSum b rowA rowB r c :=
  dotSum_congr _ (fun _ hk => tileA_rows rowA hr hk) (fun _ hk => tileB_rows rowB hk hc)

theorem mergeAll_empties (wide : Bool) (n : Nat) : mergeAll wide ((List.range n).map (fun _ => AccEntry.empty)) = AccEntry.empty := by
  unfold mergeAll
  rw [List.foldl_map]
  induction List.range n with
  | nil => rfl
  | cons k l ih =>
    have hzero : wrapTo (entryBits wide) (0 + 0) = 0 := by rw [wrapTo_eq_bmod (entryBits_pos wide), Int.add_zero, Int.zero_bmod]
    have hempty : AccEntry.empty.merge wide AccEntry.empty = AccEntry.empty := congrArg (fun v => { AccEntry.empty with value := v }) hzero
    rw [List.foldl_cons, hempty, ih]

theorem tileRun_clean (s : State) (core : Nat) (tail : List (List Byte)) (hrows : mN b ≤ mM b) (hpair : pairOk (mFmtA b) (mFmtB b) = true)
    (hscaleA : mScaleA b % 8 = 0) (hscaleB : mScaleB b % 8 = 0) (hinit : mHasC b = false) (hctl : mRctl b % 8 ≠ 4) (hn : 0 < mN b) (hk : 0 < mK b) :
    ∃ flags, s.tileRun core b i ((List.range (tileRows b i)).map rowA ++ (List.range (mK b)).map rowB ++ tail) [] =
      (((List.range (tileRows b i)).map (fun r => (List.range (mN b)).map (cellOut b rowA rowB r)), flags), none) := by
  unfold State.tileRun
  rw [tileRange_rows hrows]
  dsimp -zeta only
  extract_lets nr nc arows brows crows tail' set a bb hard w stat sums passes init entries lanes find one rows
  have hlenA : ((List.range nr).map rowA).length = nr := by rw [List.length_map, List.length_range]
  have hlenB : ((List.range (mK b)).map rowB).length = mK b := by rw [List.length_map, List.length_range]
  have harows : arows = (List.range nr).map rowA := (congrArg (List.take nr) (List.append_assoc ..)).trans (List.take_left' hlenA)
  have hbrows : brows = (List.range (mK b)).map rowB :=
    (congrArg (fun l => List.take (mK b) (List.drop nr l)) (List.append_assoc ..)).trans
      ((congrArg (List.take (mK b)) (List.drop_left' hlenA)).trans (List.take_left' hlenB))
  set x := tileA b arows with hx
  set y := tileB b brows with hy
  obtain ⟨huw, hvw⟩ := pairOk_least hpair
  have hxle (r k : Nat) : (x r k).AtLeast (fmtLeast (mFmtA b)) := decodeNum_atLeast _ _
  have hyle (o k : Nat) : (y o k).AtLeast (fmtLeast (mFmtB b)) := decodeNum_atLeast _ _
  have hnumA (r : Nat) : (fun k => a.num false r k (i * mM b / 64 + r) k (mK b)) = fun k => (x r k, false) :=
    funext (fun k => num_unscaled hscaleA _ _ _ _ _ _)
  have hnumB : stat bb = fun o k => (y o k, false) :=
    funext (fun o => funext (fun k => (num_unscaled hscaleB _ _ _ _ _ _).trans (by rw [Nat.zero_add]; rfl)))
  have hsums : sums = (List.range (mK b)).map (fun k => LaneSum.of w (statRow y nc k)) := by
    unfold sums
    rw [hnumB]
    rfl
  set lane := fun r => rho w sums (fun k => (x r k, false)) (mK b) with hlane
  have hpasses : passes = (List.range nr).map (fun r => ((List.range nc).map (fun o => dotSum w (x r) (y o) (mK b)), lane r, true)) := by
    refine List.map_congr_left (fun r _ => ?_)
    rw [hnumA, show stat hard = stat bb from rfl, hnumB, hlane, hsums]
    exact rowPass_clean w (hxle r) hyle huw hvw hk hn r _
  have hentries : entries = (List.range nr).map (fun r => (List.range nc).map (fun o => dotSum w (x r) (y o) (mK b))) := by
    unfold entries
    rw [hpasses, zip_map_self, List.map_map]
    refine List.map_congr_left (fun r _ => List.map_congr_left (fun o ho => ?_))
    show (init r o).merge w (((List.range nc).map (fun o => dotSum w (x r) (y o) (mK b))).getD o .empty) = _
    rw [getD_map_range _ _ (List.mem_range.1 ho), show init r o = .empty from if_neg (by rw [hinit]; decide)]
    exact empty_merge_dotSum w hk o
  have hlanes : lanes = (List.range nr).map (fun r => AccEntry.empty.merge w (lane r)) := by
    unfold lanes
    rw [hpasses, zip_map_self, List.map_map]
    refine List.map_congr_left (fun r _ => ?_)
    show (mergeAll w ((List.range nc).map (init r))).merge w (lane r) = _
    rw [show init r = fun _ => .empty from funext (fun o => if_neg (by rw [hinit]; decide)), mergeAll_empties]
  have hfind : find = none := by
    have hrowCheck : passes.findIdx? (fun p => !p.2.2) = none := by
      rw [hpasses]
      exact findIdx?_map_range_none (fun r => rfl)
    have hdrainCheck : (entries.zip lanes).findIdx? (fun e => !laneAgree (mergeAll w e.1) e.2) = none := by
      rw [hentries, hlanes, List.zip_map', hlane, hsums]
      exact findIdx?_map_range_none (fun r => (Bool.not_eq_eq_eq_not).2 (entries_agree w (hxle r) hyle huw hvw hk hn).laneAgree)
    unfold find
    rw [hrowCheck, hdrainCheck]
    rfl
  refine ⟨_, Prod.ext (Prod.ext ?_ rfl) hfind⟩
  show rows.map (fun row => row.map Prod.fst) = _
  unfold rows
  rw [hentries, zip_map_self, List.map_map, List.map_map]
  refine List.map_congr_left (fun r hr => ?_)
  show (((List.range nc).zip ((List.range nc).map (fun o => dotSum w (x r) (y o) (mK b)))).map (fun ne => one r ne.1 ne.2)).map Prod.fst = _
  rw [zip_map_self, List.map_map, List.map_map]
  refine List.map_congr_left (fun c hc => ?_)
  show (one r c (dotSum w (x r) (y c) (mK b))).1 = cellOut b rowA rowB r c
  rw [hx, hy, harows, hbrows, cellSum_eq rowA rowB (List.mem_range.1 hr) (List.mem_range.1 hc)]
  unfold one cellOut
  rw [if_neg hctl]

end

end Sys2Proof.Machine

/-! What a read of package memory leaves alone, beside counters, reports, errors and the state of the homes (R281, R289, R290, R302, R309). -/
namespace Sys2Proof.Machine

/-- A register that a read may count in: the lost reports, those of channels and slices, and the corrected errors of a scratchpad. -/
def ReadCounter (off : Nat) : Prop :=
  off = A.ERR_LOST0 ∨ off = A.ERR_LOST1 ∨ (0x200000 ≤ off ∧ off < 0x400000) ∨ 0x800000 ≤ off ∧ off % 0x4000 = 0x308

/-- A reading that reads of memory do not bear on: it sees neither the counters, the reports, the errors, the lines nor the channels that reads
change. -/
structure SeesNoRead {β : Type} (g : State → β) : Prop where
  fset : ∀ s f n, ReadCounter f.off → g (State.fset s f n) = g s
  free : ∀ s n, g { s with free := n } = g s
  fatals : ∀ s l, g { s with fatals := l } = g s
  reports : ∀ s l, g { s with reports := l } = g s
  out : ∀ s o, g (State.emit s o) = g s
  vec : ∀ s k v, g (State.setVec s k v) = g s
  dir : ∀ s k v, g (State.setDirLine s k v) = g s
  chan : ∀ s k v, g (State.setChan s k v) = g s
  poison : ∀ s l, g { s with poison := l } = g s
  weak : ∀ s l, g { s with weak := l } = g s

/-- Every reading of a field that reads leave alone. -/
theorem seesNoRead_of_fields {β : Type} {g : State → β} (fset : ∀ s f n, g (State.fset s f n) = g s) (free : ∀ s n, g { s with free := n } = g s)
    (fatals : ∀ s l, g { s with fatals := l } = g s) (reports : ∀ s l, g { s with reports := l } = g s) (out : ∀ s o, g (State.emit s o) = g s)
    (vec : ∀ s k v, g (State.setVec s k v) = g s) (dir : ∀ s k v, g (State.setDirLine s k v) = g s) (chan : ∀ s k v, g (State.setChan s k v) = g s)
    (poison : ∀ s l, g { s with poison := l } = g s) (weak : ∀ s l, g { s with weak := l } = g s) : SeesNoRead g :=
  ⟨fun s f n _ => fset s f n, free, fatals, reports, out, vec, dir, chan, poison, weak⟩

theorem countsAt {off : Nat} (h : 0x200000 ≤ off ∧ off < 0x400000) : ReadCounter off := Or.inr (Or.inr (Or.inl h))

/-- The unit of a location is one that the package has. -/
def Loc.InRange (l : Loc) : Prop :=
  match l with
  | .llm u _ => u < 64
  | .gddr ch _ => ch < 64
  | _ => True

theorem getD_lt {l : List Nat} {n : Nat} (hn : 0 < n) (h : ∀ k ∈ l, k < n) (i : Nat) : l.getD i 0 < n := by
  rw [List.getD_eq_getElem?_getD]
  cases hget : l[i]? with
  | none => exact hn
  | some k => exact h k (List.mem_of_getElem? hget)

theorem locOf_inRange {s : State} {pa : Nat} {l : Loc} (h : s.locOf pa = some l) : l.InRange := by
  unfold State.locOf at h
  split at h
  · cases h
    exact trivial
  · split at h
    · cases h
      exact trivial
    · split at h
      · next hllm =>
        cases h
        unfold llmBase at hllm
        show _ / _ < 64
        unfold llmBase
        omega
      · split at h
        · split at h
          · next r _ =>
            cases h
            show (State.mapAt s r _).1 < 64
            exact getD_lt (Nat.zero_lt_succ 63) (fun k hk => bitsOf_lt hk) _
          · cases h
        · cases h

theorem locOfLine_inRange {line : Nat} {l : Loc} (h : locOfLine line = some l) : l.InRange := by
  unfold locOfLine at h
  dsimp only at h
  split at h
  · next hrange =>
    cases h
    unfold gddrKey at hrange
    show _ / _ < 64
    unfold gddrKey
    omega
  · split at h
    · next hrange =>
      cases h
      unfold llmBase at hrange
      show _ / _ < 64
      unfold llmBase
      omega
    · cases h

section
variable {β : Type} {g : State → β} (h : SeesNoRead g)
include h

theorem SeesNoRead.finc (s : State) {f : Fld} (n : Nat) (hf : ReadCounter f.off) : g (s.finc f n) = g s := h.fset _ _ _ hf

theorem SeesNoRead.fincSat (s : State) {f : Fld} (n : Nat) (hf : ReadCounter f.off) : g (s.fincSat f n) = g s :=
  h.fset _ _ _ hf

theorem SeesNoRead.lost (s : State) (cls : Nat) : g (s.dropReport cls) = g s := by
  refine (raise_reads _ g (h.vec _) (h.out _) _ _).trans (h.fincSat s 1 ?_)
  unfold lostFld
  split <;> simp only [ReadCounter, R.ERR_LOST0.lost_corrected, R.ERR_LOST0.lost_twinkle, R.ERR_LOST0.lost_hard, R.ERR_LOST0.lost_partition,
    R.ERR_LOST1.lost_package, true_or, or_true]

theorem SeesNoRead.reportOpen (s : State) (source code cls : Nat) : g (s.reportOpen source code cls) = g s :=
  (report_reads _ g (h.fatals _) (h.reports _) (h.lost _) _ _ _ _).trans (h.free _ _)

theorem SeesNoRead.report (s : State) (source code cls detail : Nat) : g (s.report source code cls detail) = g s :=
  report_reads _ g (h.fatals _) (h.reports _) (h.lost _) _ _ _ _

theorem SeesNoRead.correct (s : State) (a n src code : Nat) {cnt : Option Fld} (hcnt : ∀ f ∈ cnt, ReadCounter f.off) :
    g (s.correct a n src code cnt) = g s := by
  unfold State.correct
  refine (foldl_reads (g := g) (fun t _ _ => (h.reportOpen _ _ _ _).trans ?_) _).trans (h.weak _ _)
  cases cnt with
  | none => rfl
  | some f => exact h.fincSat t 1 (hcnt f rfl)

theorem SeesNoRead.correctAt (s : State) {l : Loc} (hl : l.InRange) (n : Nat) : g (s.correctAt l n) = g s := by
  unfold State.correctAt
  cases l with
  | pad c off =>
    refine h.correct s _ _ _ _ (fun f hf => ?_)
    obtain rfl := Option.mem_some.1 hf
    refine Or.inr (Or.inr (Or.inr ?_))
    show 0x800000 ≤ 0x800308 + 0x4000 * c ∧ (0x800308 + 0x4000 * c) % 0x4000 = 0x308
    omega
  | staging k off => exact h.correct s _ _ _ _ (fun f hf => absurd hf (Option.not_mem_none f))
  | llm u off =>
    have hu : u < 64 := hl
    refine h.correct s _ _ _ _ (fun f hf => countsAt ?_)
    obtain rfl := Option.mem_some.1 hf
    show 0x200000 ≤ 0x300028 + 0x1000 * (u / 8) ∧ 0x300028 + 0x1000 * (u / 8) < 0x400000
    omega
  | gddr ch loc =>
    have hch : ch < 64 := hl
    show g (if _ then _ else _) = g s
    split
    · refine h.correct s _ _ _ _ (fun f hf => countsAt ?_)
      obtain rfl := Option.mem_some.1 hf
      show 0x200000 ≤ 0x300028 + 0x1000 * (ch / 8) ∧ 0x300028 + 0x1000 * (ch / 8) < 0x400000
      omega
    · refine h.correct s _ _ _ _ (fun f hf => countsAt ?_)
      obtain rfl := Option.mem_some.1 hf
      show 0x200000 ≤ 0x200028 + 0x800 * ch ∧ 0x200028 + 0x800 * ch < 0x400000
      omega

theorem SeesNoRead.queueRead (s : State) (ch loc cls : Nat) : g (s.queueRead ch loc cls) = g s := by
  unfold State.queueRead
  dsimp only
  split
  · rfl
  · split
    · exact h.chan _ _ _
    · rfl

theorem SeesNoRead.queueWrite (s : State) (ch loc : Nat) : g (s.queueWrite ch loc) = g s := by
  unfold State.queueWrite
  dsimp only
  split
  · exact h.chan _ _ _
  · rfl

theorem SeesNoRead.clearPoison (s : State) (a n : Nat) : g (s.clearPoison a n) = g s :=
  (h.weak { s with poison := (s.clearPoison a n).poison } _).trans (h.poison s _)

theorem SeesNoRead.setPoisons (s : State) (a : Nat → Nat) (l : List Nat) : g (l.foldl (fun s i => s.setPoison (a i)) s) = g s :=
  foldl_reads (g := g) (fun _ _ _ => h.poison _ _) _

theorem SeesNoRead.writeBack (s : State) (line : Nat) : g (s.writeBack line) = g s := by
  unfold State.writeBack
  split
  · next ch loc hloc =>
    refine (h.queueWrite _ _ _).trans ?_
    have hread : g ((s.correctAt (.gddr ch loc) 64).clearPoison (64 * line) 64) = g s :=
      (h.clearPoison _ _ _).trans (h.correctAt s (locOfLine_inRange hloc) 64)
    split
    · exact (h.setPoisons _ _ _).trans hread
    · exact hread
  · rfl

theorem SeesNoRead.evictLine (s : State) (line : Nat) : g (s.evictLine line) = g s := by
  unfold State.evictLine
  dsimp only
  split
  · refine (h.dir _ _ _).trans ((h.clearPoison _ _ _).trans ?_)
    split
    · exact h.writeBack s line
    · rfl
  · rfl

theorem SeesNoRead.homeWrite (s : State) (l : Loc) : g (s.homeWrite l) = g s := by
  unfold State.homeWrite
  split
  · split
    · exact h.dir _ _ _
    · exact h.queueWrite _ _ _
  · rfl

theorem SeesNoRead.cleanOwner (s : State) (l : Loc) : g (s.cleanOwner l) = g s := by
  unfold State.cleanOwner
  dsimp only
  split
  · exact (h.homeWrite _ _).trans (h.dir _ _ _)
  · rfl

theorem SeesNoRead.fillLine (s : State) (l : Loc) {ch : Nat} (hch : ch < 64) (loc cls : Nat) : g (s.fillLine l ch loc cls) = g s := by
  have hread : g ((((s.finc (R.LLM_MISSES.misses (ch / 8)) 1).queueRead ch loc cls).correct (64 * l.line) 64 (srcChan ch) codeEccCorrected
      (some (R.GDM_CH_ECC.corrected ch))).setDirLine l.line { s.dirLine l.line with cached := true, dirty := false }) = g s := by
    refine (h.dir _ _ _).trans ((h.correct _ _ _ _ _ (fun f hf => countsAt ?_)).trans ((h.queueRead _ _ _ _).trans (h.finc s 1 (countsAt ?_))))
    · obtain rfl := Option.mem_some.1 hf
      show 0x200000 ≤ 0x200028 + 0x800 * ch ∧ 0x200028 + 0x800 * ch < 0x400000
      omega
    · show 0x200000 ≤ 0x300018 + 0x1000 * (ch / 8) ∧ 0x300018 + 0x1000 * (ch / 8) < 0x400000
      omega
  unfold State.fillLine
  dsimp only
  split
  · exact (h.setPoisons _ _ _).trans hread
  · exact hread

theorem SeesNoRead.readLine (s : State) {l : Loc} (hl : l.InRange) (cls : Nat) : g (s.readLine l cls) = g s := by
  refine Eq.trans ?_ (h.cleanOwner s l)
  cases l with
  | pad c off => rfl
  | staging k off => rfl
  | llm u off => rfl
  | gddr ch loc =>
    have hch : ch < 64 := hl
    unfold State.readLine
    dsimp only
    generalize s.cleanOwner (.gddr ch loc) = t
    split
    · have hevict : g (if Config.evicted t.free then t.drawn.evictLine (Loc.gddr ch loc).line else t.drawn) = g t := by
        split
        · exact (h.evictLine _ _).trans (h.free _ _)
        · exact h.free _ _
      generalize (if Config.evicted t.free then t.drawn.evictLine (Loc.gddr ch loc).line else t.drawn) = u at hevict ⊢
      split
      · refine (h.finc _ 1 (countsAt ?_)).trans hevict
        show 0x200000 ≤ 0x300010 + 0x1000 * (ch / 8) ∧ 0x300010 + 0x1000 * (ch / 8) < 0x400000
        omega
      · exact (h.fillLine _ _ hch _ _).trans hevict
    · exact h.queueRead _ _ _ _

/-- A read of bytes of package memory. -/
theorem SeesNoRead.touchPa (s : State) (pa n cls : Nat) : g (s.touchPa pa n cls) = g s := by
  refine foldl_reads (g := g) (fun t pc _ => ?_) _
  split
  · next l hloc => exact (h.correctAt _ (locOf_inRange hloc) _).trans (h.readLine t (locOf_inRange hloc) cls)
  · rfl

end

end Sys2Proof.Machine

/-! The start of a MATMUL: its control block is read and checked, and tiles that cover nothing are done (R121, R440, R441). -/
namespace Sys2Proof.Machine

/-! The control block. -/

theorem leAt_one_eq_zero {b : List Byte} {i : Nat} (h : b.getD i 0 = 0) : leAt b i 1 = 0 := by
  rw [List.getD_eq_getElem?_getD] at h
  unfold leAt
  cases hget : b[i]? with
  | none =>
    rw [List.drop_eq_nil_of_le (List.getElem?_eq_none_iff.1 hget)]
    rfl
  | some x =>
    rw [hget] at h
    obtain ⟨hi, hx⟩ := List.getElem?_eq_some_iff.1 hget
    rw [List.drop_eq_getElem_cons hi, hx, show x = 0 from h]
    rfl

theorem rsvRun_zero {b : List Byte} {lo hi i : Nat} (h : (rsvRun b lo hi).isNone = true) (hlo : lo ≤ i) (hhi : i < hi) : leAt b i 1 = 0 := by
  unfold rsvRun at h
  rw [Option.isNone_iff_eq_none, Option.map_eq_none_iff, List.find?_eq_none] at h
  have hbyte := h (i - lo) (List.mem_range.2 (by omega))
  rw [show lo + (i - lo) = i by omega, bne_iff_ne, not_not] at hbyte
  exact leAt_one_eq_zero hbyte

/-- What R121 and R440 ask of a matrix control block. -/
structure BlockOk (b : List Byte) : Prop where
  pair : pairOk (mFmtA b) (mFmtB b) = true
  known : fmtKnown (mOut b) = true
  out : mOut b ≠ 0x13
  ctl : mRctl b < 16 ∧ mRctl b % 8 ≤ 4
  outScale : mOutScale b ≠ 0xFF
  rows : 1 ≤ mM b ∧ mM b ≤ 2 ^ 31
  cols : 1 ≤ mN b ∧ mN b ≤ 2 ^ 31
  terms : 1 ≤ mK b ∧ mK b ≤ 2 ^ 31
  space : mSpace b ≤ 2
  reserved : (rsvRun b 0x15 0x20).isNone = true
  reservedEnd : (rsvRun b 0x70 0x80).isNone = true

theorem matmulBad_none {b : List Byte} (h : matmulBad b = none) : BlockOk b := by
  unfold matmulBad at h
  rw [Option.map_eq_none_iff, List.find?_eq_none] at h
  simp only [List.forall_mem_cons, Bool.not_eq_true', Bool.not_eq_false, Bool.and_eq_true, decide_eq_true_eq, bne_iff_ne, resultCtlOk] at h
  obtain ⟨hpair, -, -, ⟨⟨hknown, hout⟩, -⟩, ⟨⟨hctl, hmode⟩, -⟩, -, hscale, hm, hn, hk, hspace, hrsv, hrsv', -⟩ := h
  exact ⟨hpair, hknown, hout, ⟨hctl, hmode⟩, hscale, hm, hn, hk, hspace, hrsv, hrsv'⟩

/-- A block with a field that R121 refuses, or that is out of range, is refused (R121, R440). -/
theorem matmulBad_of_field {b : List Byte}
    (h : leAt b 8 4 = 0 ∨ 2 ^ 31 < leAt b 8 4 ∨ leAt b 0x0C 4 = 0 ∨ 2 ^ 31 < leAt b 0x0C 4 ∨ leAt b 0x10 4 = 0 ∨ 2 ^ 31 < leAt b 0x10 4 ∨
      2 < leAt b 0x14 1 ∨ leAt b 7 1 = 0xFF ∨ leAt b 5 1 % 8 > 4 ∨ 16 ≤ leAt b 5 1 ∨ (leAt b 0 1 ≤ 3 ∧ leAt b 1 1 ≠ leAt b 0 1) ∨
      leAt b 4 1 = 0x13 ∨ ∃ i, (0x15 ≤ i ∧ i < 0x20 ∨ 0x70 ≤ i ∧ i < 0x80) ∧ leAt b i 1 ≠ 0) : matmulBad b ≠ none := by
  intro hnone
  obtain ⟨hpair, -, hout, ⟨hctl, hmode⟩, hscale, ⟨hm, hm'⟩, ⟨hn, hn'⟩, ⟨hk, hk'⟩, hspace, hrsv, hrsv'⟩ := matmulBad_none hnone
  unfold mM at hm hm'
  unfold mN at hn hn'
  unfold mK at hk hk'
  obtain h | h | h | h | h | h | h | h | h | h | ⟨ha, hb⟩ | h | ⟨i, hi, h⟩ := h
  · omega
  · omega
  · omega
  · omega
  · omega
  · omega
  · exact absurd hspace (Nat.not_le.2 h)
  · exact hscale h
  · exact absurd hmode (Nat.not_le.2 h)
  · exact absurd hctl (Nat.not_lt.2 h)
  · have hsame : mFmtA b = mFmtB b := by
      have ha' : mFmtA b ≤ 3 := ha
      have hcases : (4 ≤ mFmtA b ∧ mFmtA b ≤ 8) ∧ (4 ≤ mFmtB b ∧ mFmtB b ≤ 8) ∨ (mFmtA b = 0x10 ∧ mFmtB b = 0x10) ∨
          (mFmtA b ≤ 3 ∧ mFmtA b = mFmtB b) := by simpa [pairOk, or_assoc] using hpair
      omega
    exact hb hsame.symm
  · exact hout h
  · obtain ⟨hlo, hhi⟩ | ⟨hlo, hhi⟩ := hi
    · exact h (rsvRun_zero hrsv hlo hhi)
    · exact h (rsvRun_zero hrsv' hlo hhi)

/-! Tiles that cover nothing. -/

theorem testBit_maskOf (l : List Nat) (n : Nat) : (maskOf l).testBit n = decide (n ∈ l) := by
  have hmask (l : List Nat) (m : Nat) : (l.foldl (fun m i => m ||| 2 ^ i) m).testBit n = (m.testBit n || decide (n ∈ l)) := by
    induction l generalizing m with
    | nil => simp
    | cons i rest ih =>
      rw [List.foldl_cons, ih, Nat.testBit_or, Nat.testBit_two_pow, Bool.or_assoc]
      simp [eq_comm, Bool.decide_or]
  exact (hmask l 0).trans (by rw [Nat.zero_testBit, Bool.false_or])

/-- The last tile covers something. -/
theorem tileEmpty_last {b : List Byte} (hm : 1 ≤ mM b) (hn : 1 ≤ mN b) : tileEmpty b 63 = false := by
  unfold tileEmpty tileRange
  split
  · simp only [Bool.or_eq_false_iff, beq_eq_false_iff_ne]
    constructor <;> omega
  · simp only [Bool.or_eq_false_iff, beq_eq_false_iff_ne]
    constructor <;> omega

/-- The progress of an operation that starts: its empty tiles. -/
def emptyTiles (b : List Byte) : Word := BitVec.ofNat 64 (maskOf ((List.range 64).filter (tileEmpty b)))

theorem emptyTiles_ne_allOnes {b : List Byte} (hm : 1 ≤ mM b) (hn : 1 ≤ mN b) : emptyTiles b ≠ BitVec.allOnes 64 := by
  intro h
  have hbit := congrArg (fun v => v.getLsbD 63) h
  simp only [emptyTiles, BitVec.getLsbD_ofNat, testBit_maskOf, List.mem_filter, tileEmpty_last hm hn] at hbit
  exact absurd hbit (by decide)

/-! The operation starts. -/

theorem seesNoRead_mem : SeesNoRead State.mem :=
  seesNoRead_of_fields (fun _ _ _ => rfl) (fun _ _ => rfl) (fun _ _ => rfl) (fun _ _ => rfl) (fun _ _ => rfl) (fun _ _ _ => rfl) (fun _ _ _ => rfl)
    (fun _ _ _ => rfl) (fun _ _ => rfl) (fun _ _ => rfl)

theorem seesNoRead_ops : SeesNoRead State.ops :=
  seesNoRead_of_fields (fun _ _ _ => rfl) (fun _ _ => rfl) (fun _ _ => rfl) (fun _ _ => rfl) (fun _ _ => rfl) (fun _ _ _ => rfl) (fun _ _ _ => rfl)
    (fun _ _ _ => rfl) (fun _ _ => rfl) (fun _ _ => rfl)

theorem seesNoRead_endCount : SeesNoRead State.endCount :=
  seesNoRead_of_fields (fun _ _ _ => rfl) (fun _ _ => rfl) (fun _ _ => rfl) (fun _ _ => rfl) (fun _ _ => rfl) (fun _ _ _ => rfl) (fun _ _ _ => rfl)
    (fun _ _ _ => rfl) (fun _ _ => rfl) (fun _ _ => rfl)

section
variable {s : State} {slot tile core : Nat} {errs : List MeError} {o : Op}

/-- Address and bytes of an operation's control block. -/
def Op.block (o : Op) : Nat := leAt o.desc 8 8

/-- An operation as it starts with its control block. -/
def Op.withBlock (o : Op) (b : List Byte) : Op := { o with started := true, ctrl := b, progress := emptyTiles b }

theorem exec_matmul_started (h : Starts s slot 0x10 o) {x : Op} (hop : (s.startMatmul slot o).op slot = some x)
    (hstop : x.status ≠ none ∨ x.failed = true) : exec (.matmul slot tile errs core) s = .next (s.startMatmul slot o) := by
  show execMatmul _ _ _ _ _ = _
  unfold execMatmul
  rw [mayStartOp_starts h]
  dsimp only
  rw [hop]
  dsimp only
  refine if_pos ?_
  obtain hstatus | hfailed := hstop
  · have hdead : x.live = false := by
      unfold Op.live
      rw [Option.isNone_eq_false_iff, Option.isSome_iff_ne_none]
      exact hstatus
    rw [hdead]
    simp
  · rw [hfailed, Bool.or_true]

/-- A state that has kept what a started operation is made of. -/
def KeptOps (s t : State) : Prop := t.ops = s.ops ∧ t.endCount = s.endCount ∧ t.mem = s.mem

theorem endOp_started (h : Starts s slot 0x10 o) {t : State} (hkept : KeptOps (s.beginOp slot) t) (st : Nat) :
    (t.endOp slot st).op slot = some (o.closedAs st (s.endCount + 1)) ∧ (∀ j, j ≠ slot → (t.endOp slot st).op j = s.op j) ∧
      (t.endOp slot st).mem = s.mem := by
  obtain ⟨hops, hcount, hmem⟩ := hkept
  refine ⟨?_, fun j hj => ?_, (endOp_mem _ _).trans (hmem.trans (onOp_mem _ _))⟩
  · rw [op_endOp_started ((op_congr hops slot).trans (op_beginOp_same h.2.1)) h.2.2.1 rfl, hcount,
      show (s.beginOp slot).endCount = s.endCount from onOp_endCount _ _]
    rfl
  · rw [op_endOp_other _ (Ne.symm hj), op_congr hops, op_beginOp_other (Ne.symm hj)]

/-- How a MATMUL that may start ends at once. -/
def EndsClosed (s : State) (slot tile core : Nat) (errs : List MeError) (o : Op) (st : Nat) : Prop :=
  ∃ t, exec (.matmul slot tile errs core) s = .next t ∧ t.op slot = some (o.closedAs st (s.endCount + 1)) ∧ (∀ j, j ≠ slot → t.op j = s.op j) ∧
    t.mem = s.mem

theorem matmul_ends (h : Starts s slot 0x10 o) {t : State} (hkept : KeptOps (s.beginOp slot) t) {st : Nat}
    (hstart : s.startMatmul slot o = t.endOp slot st) : EndsClosed s slot tile core errs o st := by
  obtain ⟨hop, hothers, hmem⟩ := endOp_started h hkept st
  rw [← hstart] at hop hothers hmem
  exact ⟨_, exec_matmul_started h hop (Or.inl (Option.some_ne_none st)), hop, hothers, hmem⟩

theorem keptOps_touchPa (s : State) (pa n cls : Nat) : KeptOps s (s.touchPa pa n cls) :=
  ⟨seesNoRead_ops.touchPa s pa n cls, seesNoRead_endCount.touchPa s pa n cls, seesNoRead_mem.touchPa s pa n cls⟩

theorem keptOps_report (s : State) (source code cls detail : Nat) : KeptOps s (s.report source code cls detail) :=
  ⟨seesNoRead_ops.report .., seesNoRead_endCount.report .., seesNoRead_mem.report ..⟩

theorem KeptOps.trans {s t u : State} (h : KeptOps s t) (h' : KeptOps t u) : KeptOps s u :=
  ⟨h'.1.trans h.1, h'.2.1.trans h.2.1, h'.2.2.trans h.2.2⟩

theorem matmul_unreached (h : Starts s slot 0x10 o) (hreach : s.reachAll (some o.partition) o.block 128 = false) :
    EndsClosed s slot tile core errs o 0x11 := by
  refine matmul_ends h ⟨rfl, rfl, rfl⟩ ?_
  unfold State.startMatmul
  dsimp only
  rw [show leAt o.desc 8 8 = o.block from rfl, hreach]
  rfl

theorem matmul_poisoned (h : Starts s slot 0x10 o) (hreach : s.reachAll (some o.partition) o.block 128 = true)
    (hpoison : s.paPoisoned o.block 128 = true) : EndsClosed s slot tile core errs o 0x20 := by
  refine matmul_ends h ⟨rfl, rfl, rfl⟩ ?_
  unfold State.startMatmul
  dsimp only
  rw [show leAt o.desc 8 8 = o.block from rfl, hreach, hpoison]
  rfl

theorem matmul_malformed (h : Starts s slot 0x10 o) (hreach : s.reachAll (some o.partition) o.block 128 = true)
    (hpoison : s.paPoisoned o.block 128 = false) (hbad : matmulBad (s.paBytes o.block 128) ≠ none) : EndsClosed s slot tile core errs o 0x7F := by
  obtain ⟨off, hoff⟩ := Option.ne_none_iff_exists'.1 hbad
  refine matmul_ends h ((keptOps_touchPa (s.beginOp slot) o.block 128 0).trans (keptOps_report _ srcPackage codeFormatRefused 0
    (opDetail o.tag o.vf (o.ring % 64) (off + 0x10 * 2 ^ 8)))) ?_
  unfold State.startMatmul
  dsimp only
  rw [show leAt o.desc 8 8 = o.block from rfl, hreach, hpoison, hoff]
  rfl

/-- The block of an operation, and its empty tiles, as it starts. -/
def Op.blockSet (b : List Byte) (o : Op) : Op := { o with ctrl := b, progress := emptyTiles b }

theorem startMatmul_accepts (hreach : s.reachAll (some o.partition) o.block 128 = true) (hpoison : s.paPoisoned o.block 128 = false)
    (hgood : matmulBad (s.paBytes o.block 128) = none) :
    s.startMatmul slot o = ((s.beginOp slot).touchPa o.block 128 0).onOp slot (Op.blockSet (s.paBytes o.block 128)) := by
  unfold State.startMatmul
  dsimp only
  rw [show leAt o.desc 8 8 = o.block from rfl, hreach, hpoison, hgood]
  rfl

/-- A T-core that asks for no tile of a started MATMUL leaves it as it is. -/
theorem execMatmul_idle {t : State} {x : Op} (hop : t.op slot = some x) (hcode : x.code = 0x10) (hlive : x.status = none) (hstarted : x.started = true)
    (hfailed : x.failed = false) (hprogress : x.progress ≠ BitVec.allOnes 64) (hgiven : x.given = 0) (htile : 64 ≤ tile)
    (hmay : s.mayStartOp slot 0x10 = some o) (hstart : s.startMatmul slot o = t) :
    execMatmul slot tile errs core s = .next t := by
  subst hstart
  have hrun : (!(x.code == 0x10 && x.live && x.started) || x.failed) = false := by
    rw [hcode, hstarted, hfailed, Op.live, hlive]
    rfl
  have hspent : x.spent = false := by
    unfold Op.spent
    rw [hgiven, beq_eq_false_iff_ne]
    rwa [show BitVec.ofNat 64 0 = 0#64 from rfl, BitVec.or_zero]
  have hfree : (s.startMatmul slot o).tileFree x tile core = false := by
    unfold State.tileFree
    rw [decide_eq_false (Nat.not_lt.2 htile)]
    simp
  unfold execMatmul
  dsimp only
  rw [hmay]
  dsimp only
  rw [hop]
  dsimp only
  rw [hrun, hspent, hfree]
  exact (if_neg Bool.false_ne_true).trans ((if_neg hprogress).trans ((if_neg Bool.false_ne_true).trans (if_pos rfl)))

theorem matmul_begins (h : Starts s slot 0x10 o) (hreach : s.reachAll (some o.partition) o.block 128 = true)
    (hpoison : s.paPoisoned o.block 128 = false) (hgood : matmulBad (s.paBytes o.block 128) = none) (hgiven : o.given = 0) (hfailed : o.failed = false)
    (htile : 64 ≤ tile) :
    ∃ t, exec (.matmul slot tile errs core) s = .next t ∧ (∀ j, j ≠ slot → t.op j = s.op j) ∧ t.mem = s.mem ∧
      t.op slot = some (o.withBlock (s.paBytes o.block 128)) := by
  obtain ⟨hops, -, hmem⟩ := keptOps_touchPa (s.beginOp slot) o.block 128 0
  have hop : (s.startMatmul slot o).op slot = some (o.withBlock (s.paBytes o.block 128)) := by
    rw [startMatmul_accepts hreach hpoison hgood]
    exact op_onOp_same ((op_congr hops slot).trans (op_beginOp_same h.2.1)) _
  have hblock := matmulBad_none hgood
  refine ⟨s.startMatmul slot o, execMatmul_idle hop h.2.2.2.2.1 h.2.2.1 rfl hfailed (emptyTiles_ne_allOnes hblock.rows.1 hblock.cols.1) hgiven htile
    (mayStartOp_starts h) rfl, fun j hj => ?_, ?_, hop⟩
  · rw [startMatmul_accepts hreach hpoison hgood, op_onOp_other _ (Ne.symm hj), op_congr hops, op_beginOp_other (Ne.symm hj)]
  · rw [startMatmul_accepts hreach hpoison hgood, onOp_mem, hmem]
    exact onOp_mem _ _

end

end Sys2Proof.Machine

/-! Rows of a tile in scratchpads: who reaches them, and what their stores change (R281, R283, R441). -/
namespace Sys2Proof.Machine

/-- The addresses of the scratchpads (R283). -/
def InPads (a n : Nat) : Prop := padBase 0 ≤ a ∧ a + n ≤ padBase 512

theorem locOf_pad (s : State) {a : Nat} (h : InPads a 1) :
    s.locOf a = some (.pad ((a - padBase 0) / 0x400000) ((a - padBase 0) % 0x400000)) :=
  if_pos ⟨h.1, h.2⟩

theorem paKey_pad (s : State) {a : Nat} (h : InPads a 1) : s.paKey a = a := by
  unfold State.paKey
  rw [locOf_pad s h]
  show padBase _ + _ = a
  obtain ⟨hlo, hhi⟩ := h
  unfold padBase at *
  omega

theorem inPads_sub {a n i k : Nat} (h : InPads a n) (hi : i + k ≤ n) : InPads (a + i) k := ⟨le_trans h.1 (by omega), le_trans (by omega) h.2⟩

/-! Who reaches a scratchpad. -/

/-- Two states in which the same T-cores are in service, of the same partitions, under the same recoveries. -/
structure SameUnits (s t : State) : Prop where
  recs : t.recs = s.recs
  togus : t.togus = s.togus
  nv : t.nv = s.nv
  fused : t.fget R.GLB_DIE_FUSED.dies = s.fget R.GLB_DIE_FUSED.dies
  lost : t.fget R.GLB_DIE_RETIRED.dies = s.fget R.GLB_DIE_RETIRED.dies
  retired : ∀ c, (t.tcore c).cc.retired = (s.tcore c).cc.retired

section
variable {s t u : State} {p : Option Nat} {a n : Nat}

theorem SameUnits.trans (h : SameUnits s t) (h' : SameUnits t u) : SameUnits s u :=
  ⟨h'.recs.trans h.recs, h'.togus.trans h.togus, h'.nv.trans h.nv, h'.fused.trans h.fused, h'.lost.trans h.lost,
    fun c => (h'.retired c).trans (h.retired c)⟩

theorem SameUnits.partOfTcore (h : SameUnits s t) (c : Nat) : t.partOfTcore c = s.partOfTcore c := by
  unfold State.partOfTcore State.partOfCluster State.findPart State.clusterMask State.partMask State.partPresent State.partField State.sect
  rw [h.togus]

theorem SameUnits.tcoreUp (h : SameUnits s t) (c : Nat) : t.tcoreUp c = s.tcoreUp c := by
  simp only [State.tcoreUp, State.dieOut, h.nv, h.fused, h.lost, h.retired]

theorem SameUnits.locUp_pad (h : SameUnits s t) (c off : Nat) : t.locUp (.pad c off) = s.locUp (.pad c off) := by
  have hheld : t.heldBy (.pad c off) = s.heldBy (.pad c off) := by
    unfold State.heldBy
    rw [h.recs]
    refine congrArg (fun f => List.find? f s.recs) (funext (fun r => ?_))
    cases r.domain with
    | partition q => exact congrArg (fun x => x == some q) (h.partOfTcore c)
    | _ => rfl
  unfold State.locUp
  dsimp only
  rw [hheld, h.tcoreUp]

theorem SameUnits.reach_pad (h : SameUnits s t) (ha : InPads a 1) : t.reach p a = s.reach p a := by
  unfold State.reach
  rw [locOf_pad s ha, locOf_pad t ha]
  dsimp only
  rw [h.locUp_pad, show ∀ c off, t.locPart (.pad c off) = s.locPart (.pad c off) from fun c _ => h.partOfTcore c]

theorem SameUnits.reachAll_pad (h : SameUnits s t) (ha : InPads a n) : t.reachAll p a n = s.reachAll p a n := by
  unfold State.reachAll
  refine congrArg (fun f => List.all _ f) (funext (fun i => ?_))
  dsimp only
  by_cases hend : a + n ≤ (if i = 0 then a else (a / 64 + i) * 64)
  · rw [decide_eq_true hend, Bool.true_or, Bool.true_or]
  · have hin : InPads (if i = 0 then a else (a / 64 + i) * 64) 1 := by
      obtain ⟨hlo, hhi⟩ := ha
      constructor
      · refine le_trans hlo ?_
        split <;> omega
      · omega
    rw [h.reach_pad hin]

theorem sameUnits_touchPa (s : State) (pa n cls : Nat) : SameUnits s (s.touchPa pa n cls) := by
  have hfields {β : Type} {g : State → β} (h : SeesNoRead g) : g (s.touchPa pa n cls) = g s := h.touchPa s pa n cls
  have hdie (f : Fld) (hf : f.off < 0x100) : SeesNoRead (fun u => State.fget u f) :=
    { fset := fun s f' v hoff => fget_fset_reg s f' f v (by
        rintro heq
        rw [ReadCounter, heq, A.ERR_LOST0, A.ERR_LOST1] at hoff
        omega)
      free := fun _ _ => rfl, fatals := fun _ _ => rfl, reports := fun _ _ => rfl, out := fun _ _ => rfl, vec := fun _ _ _ => rfl,
      dir := fun _ _ _ => rfl, chan := fun _ _ _ => rfl, poison := fun _ _ => rfl, weak := fun _ _ => rfl }
  refine ⟨hfields (g := State.recs) ?_, hfields (g := State.togus) ?_, hfields (g := State.nv) ?_, hfields (hdie _ (by decide)),
    hfields (hdie _ (by decide)), fun c => congrArg (fun v => v.cc.retired) (hfields (g := fun u => State.tcore u c) ?_)⟩ <;>
    exact seesNoRead_of_fields (fun _ _ _ => rfl) (fun _ _ => rfl) (fun _ _ => rfl) (fun _ _ => rfl) (fun _ _ => rfl) (fun _ _ _ => rfl)
      (fun _ _ _ => rfl) (fun _ _ _ => rfl) (fun _ _ => rfl) (fun _ _ => rfl)

end

/-! Stores into scratchpads. -/

theorem linePieces_within {fuel pa n off : Nat} {pc : Nat × Nat} (h : pc ∈ linePieces fuel pa n off) : off ≤ pc.1 ∧ pc.1 < off + n := by
  induction fuel generalizing pa n off with
  | zero => exact absurd h List.not_mem_nil
  | succ fuel ih =>
    unfold linePieces at h
    split at h
    · exact absurd h List.not_mem_nil
    · next hn =>
      dsimp only at h
      have hk : 0 < Nat.min n (64 - pa % 64) := Nat.lt_min.2 ⟨by omega, by omega⟩
      have hle : Nat.min n (64 - pa % 64) ≤ n := Nat.min_le_left _ _
      obtain rfl | hrest := List.mem_cons.1 h
      · exact ⟨le_refl _, by show off < off + n; omega⟩
      · have := ih hrest
        omega

/-- A reading that a store into a scratchpad does not bear on. -/
structure SeesNoStore {β : Type} (g : State → β) : Prop where
  write : ∀ s a bs, g (State.write s a bs) = g s
  poison : ∀ s a n, g (State.clearPoison s a n) = g s

section
variable {s : State} {pa : Nat} {bs : List Byte}

/-- The lines of scratchpads have no home: a store of theirs ends poison, and writes its bytes. -/
theorem storePa_pad (h : InPads pa bs.length) {β : Type} (g : State → β) (hpoison : ∀ s a n, g (State.clearPoison s a n) = g s) :
    ∃ u, s.storePa pa bs = u.paStore pa bs ∧ g u = g s := by
  refine ⟨_, rfl, foldl_reads (g := g) (fun t pc hpc => ?_) _⟩
  obtain ⟨-, hlt⟩ := linePieces_within hpc
  rw [locOf_pad t (inPads_sub h (by omega))]
  exact hpoison _ _ _

theorem storePa_reads {β : Type} {g : State → β} (hg : SeesNoStore g) (h : InPads pa bs.length) : g (s.storePa pa bs) = g s := by
  obtain ⟨u, hu, hkept⟩ := storePa_pad (s := s) h g hg.poison
  rw [hu]
  exact (foldl_reads (g := g) (fun t i _ => hg.write _ _ _) _).trans hkept

theorem paStore_bytes (h : InPads pa bs.length) (u : State) (x : Nat) :
    (u.paStore pa bs).byte x = if pa ≤ x ∧ x < pa + bs.length then bs.getD (x - pa) 0 else u.byte x := by
  have hstep (n : Nat) (hn : n ≤ bs.length) : ((List.range n).foldl (fun t i => t.write (u.paKey (pa + i)) [bs.getD i 0]) u).byte x =
      if pa ≤ x ∧ x < pa + n then bs.getD (x - pa) 0 else u.byte x := by
    induction n with
    | zero => exact (if_neg (by omega)).symm
    | succ n ih =>
      rw [List.range_succ, List.foldl_append, List.foldl_cons, List.foldl_nil, paKey_pad u (inPads_sub h hn)]
      by_cases hx : x = pa + n
      · subst hx
        rw [if_pos (by omega), Nat.add_sub_cancel_left]
        exact byte_write_at _ _ 0 _ Nat.zero_lt_one
      · rw [byte_write_outside _ _ _ _ (by rw [List.length_singleton]; omega), ih (by omega)]
        exact if_congr (by omega) rfl rfl
  exact hstep bs.length (le_refl _)

theorem storePa_byte (h : InPads pa bs.length) (x : Nat) :
    (s.storePa pa bs).byte x = if pa ≤ x ∧ x < pa + bs.length then bs.getD (x - pa) 0 else s.byte x := by
  obtain ⟨u, hu, hkept⟩ := storePa_pad (s := s) h State.mem (fun _ _ _ => rfl)
  have hbyte : u.byte x = s.byte x := by
    unfold State.byte
    rw [hkept]
  rw [hu, paStore_bytes h, hbyte]

end

/-! Stores of rows. -/

/-- Rows stored one after another. -/
def State.storeRows (s : State) (ws : List (Nat × List Byte)) : State := ws.foldl (fun s w => s.storePa w.1 w.2) s

section
variable {s : State} {ws : List (Nat × List Byte)}

theorem storeRows_reads {β : Type} {g : State → β} (hg : SeesNoStore g) (h : ∀ w ∈ ws, InPads w.1 w.2.length) : g (s.storeRows ws) = g s := by
  unfold State.storeRows
  exact foldl_reads (g := g) (fun t w hw => storePa_reads hg (h w hw)) _

theorem storeRows_outside (h : ∀ w ∈ ws, InPads w.1 w.2.length) {x : Nat} (hx : ∀ w ∈ ws, x < w.1 ∨ w.1 + w.2.length ≤ x) :
    (s.storeRows ws).byte x = s.byte x := by
  unfold State.storeRows
  refine foldl_reads (g := fun u => State.byte u x) (fun t w hw => ?_) _
  rw [storePa_byte (h w hw)]
  have := hx w hw
  exact if_neg (by omega)

/-- Rows that do not overlap stand as they were stored. -/
theorem storeRows_inside (h : ∀ w ∈ ws, InPads w.1 w.2.length)
    (hapart : ws.Pairwise (fun v w => v.1 + v.2.length ≤ w.1)) {w : Nat × List Byte} (hw : w ∈ ws) {i : Nat} (hi : i < w.2.length) :
    (s.storeRows ws).byte (w.1 + i) = w.2.getD i 0 := by
  induction ws generalizing s with
  | nil => exact absurd hw List.not_mem_nil
  | cons v rest ih =>
    obtain ⟨hfirst, hrest⟩ := List.pairwise_cons.1 hapart
    have hpads : ∀ w ∈ rest, InPads w.1 w.2.length := fun w hw => h w (List.mem_cons_of_mem _ hw)
    obtain rfl | hw := List.mem_cons.1 hw
    · show ((s.storePa w.1 w.2).storeRows rest).byte (w.1 + i) = _
      rw [storeRows_outside hpads (fun v hv => Or.inl (by have := hfirst v hv; omega)), storePa_byte (h w List.mem_cons_self),
        if_pos ⟨by omega, by omega⟩, Nat.add_sub_cancel_left]
    · exact ih hpads hrest hw

end

end Sys2Proof.Machine

/-! A tile of whole rows that has passed its checks is written and committed (R104, R147, R188, R441). -/
namespace Sys2Proof.Machine

theorem length_packElems (fmt : Nat) (vs : List Nat) : (packElems fmt vs).length = packedBytes fmt vs.length := length_leBytes _ _

/-- The address of an output row. -/
def rowAddr (b : List Byte) (r : Nat) : Nat := mAddr b 0x40 + r * mAddr b 0x48

/-- The stores of a tile of whole rows, whose elements are `cells`. -/
def tileStores (b : List Byte) (i : Nat) (cells : Nat → Nat → Nat) : List (Nat × List Byte) :=
  (List.range (tileRows b i)).map (fun j => (rowAddr b (tileFirst b i + j), packElems (mOut b) ((List.range (mN b)).map (cells j))))

/-- The elements of a tile of whole rows. -/
def tileCells (b : List Byte) (i : Nat) (cells : Nat → Nat → Nat) : List (List Nat) :=
  (List.range (tileRows b i)).map (fun r => (List.range (mN b)).map (cells r))

section
variable {b : List Byte} {i : Nat} {cells : Nat → Nat → Nat}

theorem tileElem_first (hrows : mN b ≤ mM b) (rest : List (Nat × List (List Nat))) {j c : Nat} (hj : j < tileRows b i) (hc : c < mN b) :
    tileElem b ((i, tileCells b i cells) :: rest) (tileFirst b i + j) c = cells j c := by
  have hin : (i * mM b / 64 ≤ tileFirst b i + j ∧ tileFirst b i + j < (i + 1) * mM b / 64 ∧ 0 ≤ c ∧ c < mN b) := by
    unfold tileFirst tileRows at *
    omega
  unfold tileElem
  rw [List.find?_cons_of_pos (by dsimp only; rw [tileRange_rows hrows]; exact decide_eq_true hin)]
  dsimp only
  rw [tileRange_rows hrows]
  dsimp only
  rw [show tileFirst b i + j - i * mM b / 64 = j from Nat.add_sub_cancel_left (i * mM b / 64) j, tileCells, getD_map_range _ _ hj, Nat.sub_zero, getD_map_range _ _ hc]

theorem tileWrites_first (hrows : mN b ≤ mM b) (rest : List (Nat × List (List Nat))) :
    tileWrites b ((i, tileCells b i cells) :: rest) i = tileStores b i cells := by
  have hspan : tileSpan b i = (0, packedBytes (mOut b) (mN b)) := by
    unfold tileSpan
    rw [tileRange_rows hrows]
    dsimp only
    rw [if_pos rfl, Nat.zero_mul, Nat.zero_div]
  unfold tileWrites
  rw [tileRange_rows hrows, hspan]
  dsimp only
  refine List.map_congr_left (fun j hj => ?_)
  have hrow : outRow b ((i, tileCells b i cells) :: rest) (i * mM b / 64 + j) = packElems (mOut b) ((List.range (mN b)).map (cells j)) :=
    congrArg (packElems (mOut b)) (List.map_congr_left (fun c hc => tileElem_first hrows rest (List.mem_range.1 hj) (List.mem_range.1 hc)))
  rw [hrow, List.drop_zero, Nat.sub_zero, List.take_of_length_le (by rw [length_packElems, List.length_map, List.length_range])]
  rfl

theorem length_tileStore {w : Nat × List Byte} (h : w ∈ tileStores b i cells) : w.2.length = packedBytes (mOut b) (mN b) := by
  obtain ⟨j, -, rfl⟩ := List.mem_map.1 h
  show (packElems _ _).length = _
  rw [length_packElems, List.length_map, List.length_range]

end

/-! The commit. -/

/-- A tile's elements are at hand. -/
def Op.computed (tile core : Nat) (els : List (List Nat)) (o : Op) : Op :=
  { o with tiles := (tile, els) :: o.tiles.filter (fun x => x.1 != tile), parts := [], partsTile := none,
           work := (tile, core) :: o.work.filter (fun w => w.1 != tile) }

section
variable {u : State} {slot tile core : Nat} {o : Op} {cells : Nat → Nat → Nat} {flags : Flags}

theorem endMatmul_ok {x : Op} (h : u.op slot = some x) (hlive : x.status = none) {st : Nat} (hst : st < 3) :
    (∃ y, (u.endMatmul slot st).op slot = some y ∧ y.progress = x.progress ∧ y.status = some st) ∧
      (∀ j, j ≠ slot → (u.endMatmul slot st).op j = u.op j) ∧ (u.endMatmul slot st).mem = u.mem := by
  have hkeep : (st == stCheckFail || st == stInternal) = false := by
    interval_cases st <;> rfl
  unfold State.endMatmul
  rw [hkeep]
  refine ⟨⟨_, op_endOp_live (op_onOp_same h _) ?_ st, ?_, rfl⟩, fun j hj => ?_, (endOp_mem _ _).trans (onOp_mem _ _)⟩
  · rw [Bool.and_false]
    exact hlive
  · rw [Bool.and_false]
    rfl
  · rw [op_endOp_other _ (Ne.symm hj), op_onOp_other _ (Ne.symm hj)]

theorem okStatus_lt (u : State) (slot : Nat) : u.okStatus slot < 3 := by
  unfold State.okStatus
  split
  · split
    · decide
    · split <;> decide
  · decide

/-- The state with a tile's rows stored and the tile committed. -/
def State.tileCommitted (u : State) (slot tile core : Nat) (els : List (List Nat)) (ws : List (Nat × List Byte)) : State :=
  ((u.onOp slot (Op.computed tile core els)).storeRows ws).onOp slot (fun o => commitTileOf o tile)

theorem commitTile_stores (hop : u.op slot = some o) (hrows : mN o.ctrl ≤ mM o.ctrl) (hspace : mSpace o.ctrl = 0) (hctl : mRctl o.ctrl % 8 ≠ 4)
    (hreach : ∀ w ∈ tileStores o.ctrl tile cells, u.reachAll (some o.partition) w.1 w.2.length = true) {t : State}
    (ht : t = (u.tileCommitted slot tile core (tileCells o.ctrl tile cells) (tileStores o.ctrl tile cells)).meFlags core flags) {x : Op}
    (hx : t.op slot = some x) :
    u.commitTile slot tile core (tileCells o.ctrl tile cells, flags) =
      some (if x.progress = BitVec.allOnes 64 then t.endMatmul slot (t.okStatus slot) else t) := by
  have hall : (tileStores o.ctrl tile cells).all (fun w => u.reachAll (some o.partition) w.1 w.2.length) = true := List.all_eq_true.2 hreach
  unfold State.commitTile
  rw [hop]
  dsimp -zeta only
  extract_lets b n s1 ws
  have hs1 : s1 = u.onOp slot (Op.computed tile core (tileCells b tile cells)) := rfl
  have hws : ws = tileStores b tile cells := by
    unfold ws
    rw [hs1, op_onOp_same hop]
    exact tileWrites_first hrows _
  have hwrite : s1.writeTile slot tile o.partition (mSpace b) (tileStores b tile cells) =
      some (u.tileCommitted slot tile core (tileCells b tile cells) (tileStores b tile cells), stDone) := by
    rw [show mSpace b = 0 from hspace]
    rfl
  have hsr (v : State) : v.advanceSr core (mRctl b) n = v := if_neg hctl
  rw [hws, hall, hwrite]
  dsimp only
  rw [hsr, ← ht, hx]
  exact (if_neg (fun h => Bool.false_ne_true h.2)).trans (if_neg (not_not.2 rfl))

theorem seesNoStore_ops : SeesNoStore State.ops := ⟨fun _ _ _ => rfl, fun _ _ _ => rfl⟩

theorem op_tileCommitted (hop : u.op slot = some o) {ws : List (Nat × List Byte)} (hpads : ∀ w ∈ ws, InPads w.1 w.2.length) (els : List (List Nat)) :
    (u.tileCommitted slot tile core els ws).op slot = some (commitTileOf (o.computed tile core els) tile) ∧
      ∀ j, j ≠ slot → (u.tileCommitted slot tile core els ws).op j = u.op j := by
  have hops : ((u.onOp slot (Op.computed tile core els)).storeRows ws).ops = (u.onOp slot (Op.computed tile core els)).ops :=
    storeRows_reads seesNoStore_ops hpads
  refine ⟨op_onOp_same ((op_congr hops slot).trans (op_onOp_same hop _)) _, fun j hj => ?_⟩
  exact (op_onOp_other _ (Ne.symm hj)).trans ((op_congr hops j).trans (op_onOp_other _ (Ne.symm hj)))

/-- What the commit of a tile leaves: its rows stored, its progress, and the end of the operation where every tile is done (R182, R441). -/
structure TileDone (u t : State) (slot tile : Nat) (o : Op) (ws : List (Nat × List Byte)) : Prop where
  op : ∃ x, t.op slot = some x ∧ x.progress = (o.progress ||| BitVec.ofNat 64 (2 ^ tile)) ∧
    (x.progress ≠ BitVec.allOnes 64 → x.status = none) ∧ (x.progress = BitVec.allOnes 64 → ∃ st, st < 3 ∧ x.status = some st)
  others : ∀ j, j ≠ slot → t.op j = u.op j
  outside : ∀ a, (∀ w ∈ ws, a < w.1 ∨ w.1 + w.2.length ≤ a) → t.byte a = u.byte a
  inside : ws.Pairwise (fun v w => v.1 + v.2.length ≤ w.1) → ∀ w ∈ ws, ∀ i < w.2.length, t.byte (w.1 + i) = w.2.getD i 0

theorem tileDone_of_mem {t : State} {ws : List (Nat × List Byte)} {els : List (List Nat)} (hpads : ∀ w ∈ ws, InPads w.1 w.2.length)
    (hop : ∃ x, t.op slot = some x ∧ x.progress = (o.progress ||| BitVec.ofNat 64 (2 ^ tile)) ∧
      (x.progress ≠ BitVec.allOnes 64 → x.status = none) ∧ (x.progress = BitVec.allOnes 64 → ∃ st, st < 3 ∧ x.status = some st))
    (hothers : ∀ j, j ≠ slot → t.op j = u.op j) (hmem : t.mem = ((u.onOp slot (Op.computed tile core els)).storeRows ws).mem) :
    TileDone u t slot tile o ws where
  op := hop
  others := hothers
  outside a ha := (byte_congr hmem a).trans ((storeRows_outside hpads ha).trans (byte_congr (onOp_mem _ _) a))
  inside hapart _ hw _ hi := (byte_congr hmem _).trans (storeRows_inside hpads hapart hw hi)

theorem commitTile_done (hop : u.op slot = some o) (hlive : o.status = none) (hrows : mN o.ctrl ≤ mM o.ctrl) (hspace : mSpace o.ctrl = 0)
    (hctl : mRctl o.ctrl % 8 ≠ 4) (hpads : ∀ w ∈ tileStores o.ctrl tile cells, InPads w.1 w.2.length)
    (hreach : ∀ w ∈ tileStores o.ctrl tile cells, u.reachAll (some o.partition) w.1 w.2.length = true) :
    ∃ t, u.commitTile slot tile core (tileCells o.ctrl tile cells, flags) = some t ∧ TileDone u t slot tile o (tileStores o.ctrl tile cells) := by
  set v := (u.tileCommitted slot tile core (tileCells o.ctrl tile cells) (tileStores o.ctrl tile cells)).meFlags core flags with hv
  obtain ⟨hx, hothers⟩ := op_tileCommitted (tile := tile) (core := core) hop hpads (tileCells o.ctrl tile cells)
  have hmem : v.mem = ((u.onOp slot (Op.computed tile core (tileCells o.ctrl tile cells))).storeRows (tileStores o.ctrl tile cells)).mem :=
    onOp_mem _ _
  refine ⟨_, commitTile_stores hop hrows hspace hctl hreach hv hx, ?_⟩
  split
  · next hall =>
    obtain ⟨⟨y, hy, hprogress, hstatus⟩, hothers', hmem'⟩ := endMatmul_ok (u := v) hx hlive (okStatus_lt v slot)
    refine tileDone_of_mem hpads ⟨y, hy, hprogress, fun hne => absurd (hprogress.trans hall) hne, fun _ => ⟨_, okStatus_lt v slot, hstatus⟩⟩
      (fun j hj => (hothers' j hj).trans (hothers j hj)) (hmem'.trans hmem)
  · next hmore => exact tileDone_of_mem hpads ⟨_, hx, rfl, fun _ => hlive, fun hall => absurd hall hmore⟩ hothers hmem

end

end Sys2Proof.Machine

/-! A T-core works on a tile of a MATMUL in package memory (R169, R188, R440, R441). -/
namespace Sys2Proof.Machine

/-- Row `r` of the operand at offset `off` of a control block. -/
def operandRow (b : List Byte) (off r : Nat) : Nat := leAt b off 8 + r * leAt b (off + 8) 8

/-- A tile of whole rows that a T-core may work on, whose operands are at hand: neither scales nor initial values, no random rounding. -/
structure TileReady (s : State) (slot tile core : Nat) (o : Op) : Prop where
  op : s.op slot = some o
  live : o.status = none
  started : o.started = true
  code : leAt o.desc 0 1 = 0x10
  block : matmulBad o.ctrl = none
  space : mSpace o.ctrl = 0
  scaleA : mScaleA o.ctrl % 8 = 0
  scaleB : mScaleB o.ctrl % 8 = 0
  noInit : mCFmt o.ctrl = 0xFF
  mode : mRctl o.ctrl % 8 ≠ 4
  rows : mN o.ctrl ≤ mM o.ctrl
  tileLt : tile < 64
  coreLt : core < 512
  up : s.tcoreUp core = true
  part : s.partOfTcore core = some o.partition
  px : (s.tcore core).me.px = none
  stopped : (s.tcore core).me.stopped = false
  inject : (s.tcore core).me.injectPending = false
  persist : s.fget (R.TC_PX_CTL.inject_persist core) = 0
  undone : o.progress.getLsbD tile = false
  given : o.given.testBit tile = false
  failed : o.failed = false
  stores : o.stores = []
  work : o.work = []
  readA : ∀ r, tile * mM o.ctrl / 64 ≤ r ∧ r < (tile + 1) * mM o.ctrl / 64 →
    s.reachAll (some o.partition) (operandRow o.ctrl 0x20 r) (packedBytes (mFmtA o.ctrl) (mK o.ctrl)) = true ∧
      s.paPoisoned (operandRow o.ctrl 0x20 r) (packedBytes (mFmtA o.ctrl) (mK o.ctrl)) = false ∧
      s.reachAll (some o.partition) (operandRow o.ctrl 0x40 r) (packedBytes (mOut o.ctrl) (mN o.ctrl)) = true
  readB : ∀ j, j < mK o.ctrl → s.reachAll (some o.partition) (operandRow o.ctrl 0x30 j) (packedBytes (mFmtB o.ctrl) (mN o.ctrl)) = true ∧
      s.paPoisoned (operandRow o.ctrl 0x30 j) (packedBytes (mFmtB o.ctrl) (mN o.ctrl)) = false
  first : padBase 0 ≤ operandRow o.ctrl 0x40 0
  last : operandRow o.ctrl 0x40 (mM o.ctrl) ≤ padBase 512
  stride : packedBytes (mOut o.ctrl) (mN o.ctrl) ≤ leAt o.ctrl 0x48 8

section
variable {s : State} {slot tile core : Nat} {o : Op}

/-- The runs that a tile of whole rows reads: rows of A and of B, and no scales. -/
theorem tileReads_rows (b : List Byte) (i : Nat) (hrows : mN b ≤ mM b) (hscaleA : mScaleA b % 8 = 0) (hscaleB : mScaleB b % 8 = 0)
    (hinit : mCFmt b = 0xFF) :
    tileReads b i = (List.range (tileRows b i)).map (fun j => (operandRow b 0x20 (tileFirst b i + j), packedBytes (mFmtA b) (mK b))) ++
      (List.range (mK b)).map (fun k => (operandRow b 0x30 k, packedBytes (mFmtB b) (mN b))) ++ [(mAddr b 0x60, 0), (mAddr b 0x68, 0)] := by
  have hcount {ctl : Nat} (h : ctl % 8 = 0) (right : Bool) (ni nj : Nat) : gridCount ctl right ni nj = 0 := by
    refine if_pos ?_
    unfold scaleSize
    rw [h]
    rfl
  have hc : mHasC b = false := by
    unfold mHasC
    rw [hinit]
    rfl
  unfold tileReads
  dsimp only
  rw [tileRange_rows hrows, hcount hscaleA, hcount hscaleB, hc, List.map_map]
  dsimp only
  rw [if_neg Bool.false_ne_true, List.append_nil]
  refine congrArg (· ++ _ ++ _) (List.map_congr_left (fun j _ => ?_))
  show (mAddr b 0x20 + (j + tileFirst b i) * mAddr b 0x28, _) = _
  rw [Nat.add_comm j]
  rfl

theorem reachAll_nothing (p : Option Nat) (a : Nat) : s.reachAll p a 0 = true := by
  unfold State.reachAll
  refine List.all_eq_true.2 (fun i _ => ?_)
  rw [Bool.or_eq_true, decide_eq_true_eq]
  refine Or.inl ?_
  split <;> omega

/-- The state after the reads of a tile. -/
def State.tileTouched (s : State) (o : Op) (tile : Nat) : State := (tileReads o.ctrl tile).foldl (fun s r => s.touchPa r.1 r.2 0) s

theorem tileTouched_reads {β : Type} {g : State → β} (h : SeesNoRead g) (o : Op) (tile : Nat) : g (s.tileTouched o tile) = g s :=
  foldl_reads (g := g) (fun t r _ => h.touchPa t r.1 r.2 0) _

theorem sameUnits_tileTouched (o : Op) (tile : Nat) : SameUnits s (s.tileTouched o tile) := by
  unfold State.tileTouched
  generalize tileReads o.ctrl tile = l
  induction l generalizing s with
  | nil => exact ⟨rfl, rfl, rfl, rfl, rfl, fun _ => rfl⟩
  | cons r rest ih => exact (sameUnits_touchPa s r.1 r.2 0).trans ih

section
variable (h : TileReady s slot tile core o)
include h

theorem not_allOnes {v : Word} (hv : v.getLsbD tile = false) : v ≠ BitVec.allOnes 64 := by
  rintro rfl
  rw [BitVec.getLsbD_allOnes, decide_eq_true h.tileLt] at hv
  cases hv

theorem not_spent : o.spent = false := by
  refine beq_eq_false_iff_ne.2 (not_allOnes h ?_)
  rw [BitVec.getLsbD_or, h.undone, BitVec.getLsbD_ofNat, h.given, Bool.and_false]
  rfl

theorem tileFree_ready : s.tileFree o tile core = true := by
  unfold State.tileFree
  dsimp only
  rw [decide_eq_true h.tileLt, decide_eq_true h.coreLt, h.up, h.part, h.px, h.stopped, h.stores, h.work, bit_eq_testBit, bit_eq_testBit, h.given,
    show o.progress.toNat.testBit tile = false from h.undone, beq_self_eq_true]
  rfl

omit h in
theorem tileFirst_add {b : List Byte} {j : Nat} (hj : j < tileRows b tile) :
    tile * mM b / 64 ≤ tileFirst b tile + j ∧ tileFirst b tile + j < (tile + 1) * mM b / 64 := by
  unfold tileFirst tileRows at *
  omega

theorem tileReads_reached : (tileReads o.ctrl tile).all (fun r => s.reachAll (some o.partition) r.1 r.2) = true := by
  rw [tileReads_rows o.ctrl tile h.rows h.scaleA h.scaleB h.noInit, List.all_append, List.all_append, Bool.and_eq_true, Bool.and_eq_true,
    List.all_map, List.all_map]
  refine ⟨⟨List.all_eq_true.2 (fun j hj => ?_), List.all_eq_true.2 (fun j hj => ?_)⟩, ?_⟩
  · exact (h.readA _ (tileFirst_add (List.mem_range.1 hj))).1
  · exact (h.readB j (List.mem_range.1 hj)).1
  · simp only [List.all_cons, List.all_nil, reachAll_nothing, Bool.and_self]

theorem tileReads_clean : (tileReads o.ctrl tile).any (fun r => r.2 != 0 && s.paPoisoned r.1 r.2) = false := by
  have hclean {a n : Nat} (hn : s.paPoisoned a n = false) : ¬ (n != 0 && s.paPoisoned a n) = true := by
    rw [hn, Bool.and_false]
    exact Bool.false_ne_true
  rw [tileReads_rows o.ctrl tile h.rows h.scaleA h.scaleB h.noInit, List.any_append, List.any_append, Bool.or_eq_false_iff, Bool.or_eq_false_iff,
    List.any_map, List.any_map]
  refine ⟨⟨List.any_eq_false.2 (fun j hj => hclean ?_), List.any_eq_false.2 (fun j hj => hclean ?_)⟩, rfl⟩
  · exact (h.readA _ (tileFirst_add (List.mem_range.1 hj))).2.1
  · exact (h.readB j (List.mem_range.1 hj)).2

theorem exec_matmul_tile : exec (.matmul slot tile [] core) s =
    .next ((s.tileTouched o tile).runTile slot tile core [] o.ctrl (s.tileData o tile)) := by
  have hmay : s.mayStartOp slot 0x10 = none := by
    unfold State.mayStartOp
    rw [h.op]
    refine if_neg (fun hc => ?_)
    simp [h.started] at hc
  have hrun : (!(o.code == 0x10 && o.live && o.started) || o.failed) = false := by
    rw [show o.code = 0x10 from h.code, h.started, h.failed, Op.live, h.live]
    rfl
  show execMatmul _ _ _ _ _ = _
  unfold execMatmul
  rw [hmay]
  dsimp only
  rw [h.op]
  dsimp only
  rw [hrun, not_spent h, tileFree_ready h, tileReads_reached h, tileReads_clean h, h.space]
  exact (if_neg Bool.false_ne_true).trans ((if_neg (not_allOnes h h.undone)).trans ((if_neg Bool.false_ne_true).trans
    ((if_neg Bool.false_ne_true).trans ((if_pos rfl).trans ((if_neg Bool.false_ne_true).trans (if_neg Bool.false_ne_true))))))

end

/-! The rows that the tile reads and writes. -/

/-- Rows of A and of B as a tile reads them. -/
def tileRowA (s : State) (b : List Byte) (i j : Nat) : List Byte := s.paBytes (operandRow b 0x20 (tileFirst b i + j)) (packedBytes (mFmtA b) (mK b))
def tileRowB (s : State) (b : List Byte) (k : Nat) : List Byte := s.paBytes (operandRow b 0x30 k) (packedBytes (mFmtB b) (mN b))

/-- The elements that a tile delivers. -/
def tileOut (s : State) (b : List Byte) (i : Nat) : Nat → Nat → Nat := cellOut b (tileRowA s b i) (tileRowB s b)

/-- The parallax controls of a T-core see no read. -/
theorem seesNoRead_persist (core : Nat) : SeesNoRead (fun u => State.fget u (R.TC_PX_CTL.inject_persist core)) where
  fset u f n hf := fget_fset_reg u f _ n (by
    intro heq
    rw [ReadCounter, heq, A.ERR_LOST0, A.ERR_LOST1, show (R.TC_PX_CTL.inject_persist core).off = 0x803D00 + 0x4000 * core from rfl] at hf
    omega)
  free _ _ := rfl
  fatals _ _ := rfl
  reports _ _ := rfl
  out _ _ := rfl
  vec _ _ _ := rfl
  dir _ _ _ := rfl
  chan _ _ _ := rfl
  poison _ _ := rfl
  weak _ _ := rfl

theorem seesNoRead_tcores : SeesNoRead State.tcores :=
  seesNoRead_of_fields (fun _ _ _ => rfl) (fun _ _ => rfl) (fun _ _ => rfl) (fun _ _ => rfl) (fun _ _ => rfl) (fun _ _ _ => rfl) (fun _ _ _ => rfl)
    (fun _ _ _ => rfl) (fun _ _ => rfl) (fun _ _ => rfl)

/-- The state in which a core takes up a tile: no injected error is pending. -/
def State.uninjected (u : State) (core : Nat) : State := u.onMe core (fun m => { m with injectPending := false })

theorem uninjected_ops (u : State) (core : Nat) : (u.uninjected core).ops = u.ops := rfl

theorem uninjected_mem (u : State) (core : Nat) : (u.uninjected core).mem = u.mem := rfl

theorem sameUnits_uninjected (u : State) (core : Nat) : SameUnits u (u.uninjected core) := by
  refine ⟨rfl, rfl, rfl, rfl, rfl, fun c => ?_⟩
  by_cases hc : core = c
  · subst hc
    exact congrArg (fun v => v.cc.retired) (State.tcore_setTcore_same u core _)
  · exact congrArg (fun v => v.cc.retired) (State.tcore_setTcore_other u core _ c hc)

variable (h : TileReady s slot tile core o)
include h

theorem tileFirst_lt {j : Nat} (hj : j < tileRows o.ctrl tile) : tileFirst o.ctrl tile + j < mM o.ctrl := by
  have htile := h.tileLt
  have hlast : (tile + 1) * mM o.ctrl / 64 ≤ mM o.ctrl := by
    refine Nat.div_le_of_le_mul ?_
    exact Nat.mul_le_mul_right _ htile
  unfold tileFirst tileRows at *
  omega

theorem rowAddr_add {r r' : Nat} (hr : r < r') : rowAddr o.ctrl r + packedBytes (mOut o.ctrl) (mN o.ctrl) ≤ rowAddr o.ctrl r' := by
  have hstep : (r + 1) * mAddr o.ctrl 0x48 ≤ r' * mAddr o.ctrl 0x48 := Nat.mul_le_mul_right _ hr
  have hstride : packedBytes (mOut o.ctrl) (mN o.ctrl) ≤ mAddr o.ctrl 0x48 := h.stride
  rw [Nat.succ_mul] at hstep
  unfold rowAddr
  omega

theorem tileStores_inPads (cells : Nat → Nat → Nat) : ∀ w ∈ tileStores o.ctrl tile cells, InPads w.1 w.2.length := by
  intro w hw
  rw [length_tileStore hw]
  obtain ⟨j, hj, rfl⟩ := List.mem_map.1 hw
  have hfirst : padBase 0 ≤ rowAddr o.ctrl 0 := h.first
  have hlast : rowAddr o.ctrl (mM o.ctrl) ≤ padBase 512 := h.last
  refine ⟨le_trans hfirst ?_, le_trans (rowAddr_add h (tileFirst_lt h (List.mem_range.1 hj))) hlast⟩
  show mAddr o.ctrl 0x40 + 0 * _ ≤ mAddr o.ctrl 0x40 + _
  rw [Nat.zero_mul]
  exact Nat.add_le_add_left (Nat.zero_le _) _

theorem tileStores_apart (cells : Nat → Nat → Nat) :
    (tileStores o.ctrl tile cells).Pairwise (fun v w => v.1 + v.2.length ≤ w.1) := by
  unfold tileStores
  refine List.pairwise_map.2 (List.pairwise_lt_range.imp (fun {j k} hjk => ?_))
  show rowAddr o.ctrl (tileFirst o.ctrl tile + j) + (packElems _ _).length ≤ rowAddr o.ctrl (tileFirst o.ctrl tile + k)
  rw [length_packElems, List.length_map, List.length_range]
  exact rowAddr_add h (Nat.add_lt_add_left hjk _)

theorem tileData_rows : s.tileData o tile = (List.range (tileRows o.ctrl tile)).map (tileRowA s o.ctrl tile) ++
    (List.range (mK o.ctrl)).map (tileRowB s o.ctrl) ++ [s.paBytes (mAddr o.ctrl 0x60) 0, s.paBytes (mAddr o.ctrl 0x68) 0] := by
  unfold State.tileData
  dsimp only
  rw [if_pos h.space, tileReads_rows o.ctrl tile h.rows h.scaleA h.scaleB h.noInit, List.map_append, List.map_append, List.map_map, List.map_map]
  rfl

omit h in
/-- A tile that passes its checks without an injected error is committed (R169, R188, R190). -/
theorem runTile_passes {v : State} {b : List Byte} {runs : List (List Byte)} {r : List (List Nat) × Flags} {t : State}
    (hinject : ((v.tcore core).me.injectPending || v.fon (R.TC_PX_CTL.inject_persist core)) = false)
    (hrun : v.tileRun core b tile runs [] = (r, none)) (ht : (v.uninjected core).commitTile slot tile core r = some t) :
    v.runTile slot tile core [] b runs = t := by
  have herrs : v.ringErrs core b tile [] [] false = [] := rfl
  unfold State.runTile
  dsimp only
  rw [hinject, herrs, hrun]
  dsimp only
  rw [show v.onMe core (fun m => { m with injectPending := false }) = v.uninjected core from rfl, ht]
  rfl

theorem tileTouched_uninjected : (((s.tileTouched o tile).tcore core).me.injectPending ||
    (s.tileTouched o tile).fon (R.TC_PX_CTL.inject_persist core)) = false := by
  have hcore : (s.tileTouched o tile).tcore core = s.tcore core := by
    unfold State.tcore
    rw [tileTouched_reads seesNoRead_tcores o tile]
  have hpersist : (s.tileTouched o tile).fget (R.TC_PX_CTL.inject_persist core) = 0 :=
    (tileTouched_reads (seesNoRead_persist core) o tile).trans h.persist
  rw [hcore, h.inject, State.fon, hpersist]
  rfl

theorem tileTouched_run : ∃ flags, (s.tileTouched o tile).tileRun core o.ctrl tile (s.tileData o tile) [] =
    ((tileCells o.ctrl tile (tileOut s o.ctrl tile), flags), none) := by
  have hblock := matmulBad_none h.block
  have hinit : mHasC o.ctrl = false := by
    unfold mHasC
    rw [h.noInit]
    rfl
  rw [tileData_rows h]
  exact tileRun_clean _ _ _ core _ h.rows hblock.pair h.scaleA h.scaleB hinit h.mode hblock.cols.1 hblock.terms.1

theorem tileStores_reached : ∀ w ∈ tileStores o.ctrl tile (tileOut s o.ctrl tile),
    ((s.tileTouched o tile).uninjected core).reachAll (some o.partition) w.1 w.2.length = true := by
  intro w hw
  have hunits := (sameUnits_tileTouched (s := s) o tile).trans (sameUnits_uninjected _ core)
  rw [hunits.reachAll_pad (tileStores_inPads h _ w hw), length_tileStore hw]
  obtain ⟨j, hj, rfl⟩ := List.mem_map.1 hw
  exact (h.readA _ (tileFirst_add (List.mem_range.1 hj))).2.2

/-- A T-core that works on such a tile stores its drained rows, and nothing else of memory (R147, R441). -/
theorem matmul_tileDone : ∃ t, exec (.matmul slot tile [] core) s = .next t ∧
    TileDone s t slot tile o (tileStores o.ctrl tile (tileOut s o.ctrl tile)) := by
  have hops : ((s.tileTouched o tile).uninjected core).ops = s.ops :=
    (uninjected_ops _ _).trans (tileTouched_reads seesNoRead_ops o tile)
  have hmem : ((s.tileTouched o tile).uninjected core).mem = s.mem :=
    (uninjected_mem _ _).trans (tileTouched_reads seesNoRead_mem o tile)
  obtain ⟨flags, hrun⟩ := tileTouched_run h
  have hop : ((s.tileTouched o tile).uninjected core).op slot = some o := (op_congr hops slot).trans h.op
  obtain ⟨t, ht, hdone⟩ := commitTile_done (u := (s.tileTouched o tile).uninjected core) (core := core) (flags := flags)
    (cells := tileOut s o.ctrl tile) hop h.live h.rows h.space h.mode (tileStores_inPads h _) (tileStores_reached h)
  exact ⟨t, (exec_matmul_tile h).trans (congrArg Host.Outcome.next (runTile_passes (tileTouched_uninjected h) hrun ht)), hdone.op,
    fun j hj => (hdone.others j hj).trans (op_congr hops j), fun a ha => (hdone.outside a ha).trans (byte_congr hmem a), hdone.inside⟩

end

end Sys2Proof.Machine

/-! The operations of rings (R182, R383, R427, R439 to R444). -/
namespace Sys2Proof.Machine

theorem paBytes_pad {t : State} {a : Nat} {bs : List Byte} (h : InPads a bs.length) (hb : ∀ i < bs.length, t.byte (a + i) = bs.getD i 0) :
    t.paBytes a bs.length = bs := by
  refine List.ext_getElem (by rw [State.paBytes, List.length_map, List.length_range]) (fun i hi hi' => ?_)
  simp only [State.paBytes, List.getElem_map, List.getElem_range]
  rw [paKey_pad t (inPads_sub h hi'), hb i hi', List.getD_eq_getElem _ _ hi']

section
variable {s : State} {slot tile core : Nat} {o : Op}

/-- The rows of a tile that is done, and the bytes outside them. -/
theorem matmul_tile (h : TileReady s slot tile core o) :
    ∃ t x, exec (.matmul slot tile [] core) s = .next t ∧ t.op slot = some x ∧ x.progress = (o.progress ||| BitVec.ofNat 64 (2 ^ tile)) ∧
      (∀ j, j ≠ slot → t.op j = s.op j) ∧
      ((o.progress ||| BitVec.ofNat 64 (2 ^ tile)) ≠ BitVec.allOnes 64 → x.status = none) ∧
      ((o.progress ||| BitVec.ofNat 64 (2 ^ tile)) = BitVec.allOnes 64 → ∃ st, st < 3 ∧ x.status = some st) ∧
      (∀ r, tile * mM o.ctrl / 64 ≤ r ∧ r < (tile + 1) * mM o.ctrl / 64 →
        t.paBytes (operandRow o.ctrl 0x40 r) (packedBytes (mOut o.ctrl) (mN o.ctrl)) =
          packElems (mOut o.ctrl) ((List.range (mN o.ctrl)).map (tileOut s o.ctrl tile (r - tileFirst o.ctrl tile)))) ∧
      (∀ a, (∀ r, tile * mM o.ctrl / 64 ≤ r ∧ r < (tile + 1) * mM o.ctrl / 64 →
        a < operandRow o.ctrl 0x40 r ∨ operandRow o.ctrl 0x40 r + packedBytes (mOut o.ctrl) (mN o.ctrl) ≤ a) → t.byte a = s.byte a) := by
  obtain ⟨t, hexec, ⟨x, hx, hprogress, hmore, hall⟩, hothers, houtside, hinside⟩ := matmul_tileDone h
  rw [hprogress] at hmore hall
  refine ⟨t, x, hexec, hx, hprogress, hothers, hmore, hall, fun r hr => ?_, fun a ha => houtside a (fun w hw => ?_)⟩
  · have hmem : (rowAddr o.ctrl (tileFirst o.ctrl tile + (r - tileFirst o.ctrl tile)),
        packElems (mOut o.ctrl) ((List.range (mN o.ctrl)).map (tileOut s o.ctrl tile (r - tileFirst o.ctrl tile)))) ∈
        tileStores o.ctrl tile (tileOut s o.ctrl tile) := by
      refine List.mem_map.2 ⟨r - tileFirst o.ctrl tile, List.mem_range.2 ?_, rfl⟩
      unfold tileFirst tileRows
      omega
    have hrow : tileFirst o.ctrl tile + (r - tileFirst o.ctrl tile) = r := Nat.add_sub_cancel' hr.1
    rw [hrow] at hmem
    have hbytes := paBytes_pad (tileStores_inPads h _ _ hmem) (hinside (tileStores_apart h _) _ hmem)
    rw [length_tileStore hmem] at hbytes
    exact hbytes
  · rw [length_tileStore hw]
    obtain ⟨j, hj, rfl⟩ := List.mem_map.1 hw
    exact ha _ (tileFirst_add (List.mem_range.1 hj))

/-- An element that a tile delivers is the drained exact sum of its products (R139, R147). -/
theorem tileOut_eq (b : List Byte) {r : Nat} (hr : tile * mM b / 64 ≤ r) (c : Nat) :
    tileOut s b tile (r - tileFirst b tile) c =
      (AccEntry.drain (mFmtA b == 0) ((List.range (mK b)).foldl (fun (e : AccEntry) j =>
        let x := FpNum.mul (decodeNum (mFmtA b) (elemAt (mFmtA b) (s.paBytes (operandRow b 0x20 r) (packedBytes (mFmtA b) (mK b))) j))
          (decodeNum (mFmtB b) (elemAt (mFmtB b) (s.paBytes (operandRow b 0x30 j) (packedBytes (mFmtB b) (mN b))) c))
        e.add (mFmtA b == 0) x.1 x.2.invalid) AccEntry.empty) (mOut b) (mRctl b) 0 ((mOutScale b : Int) - 127)).1 := by
  have hrow : tileFirst b tile + (r - tileFirst b tile) = r := Nat.add_sub_cancel' hr
  unfold tileOut cellOut cellSum dotSum tileRowA tileRowB AccEntry.addAll
  rw [hrow, List.foldl_map]
  rfl

end

/-- Settles O52: each operation from a descriptor that may start, case by case; a tile of a MATMUL passes its lane checks because rho and
the contributions agree where nothing errs. -/
theorem ringOperations : Obligations.RingOperations := by
  unfold Obligations.RingOperations
  intro starts others crc closed returned
  refine ⟨fun slot o s h => nop_ends h, fun slot status progress witness o s h hstatus => ?_, fun slot o s h => ?_, fun slot o s h hnone => ?_,
    fun slot o s hop hlive hcode => ?_, fun slot tile core errs o s h => ?_, fun slot tile core o s hop hlive hstarted hcode => ?_⟩
  · exact collective_ends h hstatus
  · intro c size sizes fetch q ends
    refine ⟨fun hbad => ?_, fun hsize halign => ⟨fun hrefuse => ?_, fun hpass hfree => atomic_leaves h hsize halign hpass hfree,
      fun hpass _ hnil hheld => atomic_waits h hsize halign hpass hnil hheld⟩⟩
    · obtain ⟨t, hexec, x, hend⟩ := atomic_malformed h hbad
      exact ⟨t, x, hexec, hend⟩
    · obtain ⟨t, hexec, x, hend⟩ := atomic_refused h hsize halign hrefuse
      exact ⟨t, x, hexec, hend⟩
  · intro b code prio x y bc w allowed answered alone
    refine ⟨beacon_refuses h, fun ⟨hb, _⟩ cmd hcmd => beacon_asCommand h hb hcmd, fun ⟨hb, huse⟩ hcode => beacon_read h hb huse hcode,
      fun ⟨hb, huse⟩ hmode v hcode => beacon_changes h hb huse hnone hmode v hcode,
      fun ⟨hb, huse⟩ hmode hcode => beacon_lockRefuses h hb huse hmode hcode,
      fun ⟨hb, huse⟩ hcode hreached => ?_,
      fun ⟨hb, huse⟩ hcode hbelow hroom => beacon_waits h hb huse hcode hbelow hroom,
      fun ⟨hb, huse⟩ hcode hmode hzero => beacon_arms h hb huse hcode hmode hzero,
      fun ⟨hb, huse⟩ hcode hmode hlock hfree => ?_,
      fun ⟨hb, huse⟩ hcode hmode hheld horphan howner hepoch hfree =>
        beacon_releases h hb huse hnone hcode hmode hheld horphan howner hepoch hfree,
      fun ⟨hb, huse⟩ hcode => beacon_reprioritises h hb huse hcode⟩
    · obtain ⟨t, hexec, hret, hbeacons, hwaiters, -, hothers⟩ := beacon_reached h hb huse hcode hreached
      exact ⟨t, hexec, hret, hbeacons, hwaiters, hothers⟩
    · obtain ⟨t, hexec, hheld, hunit, halone, hret, hmem⟩ := beacon_acquires h hb huse hnone hcode hmode hlock hfree
      refine ⟨t, hexec, hheld, hunit, halone, ?_, hmem⟩
      by_cases horphan : getField (s.beacon o.bcn).value 1 1 = 1
      · rw [if_pos horphan] at hret
        rw [show (if getField bc.value 1 1 = 1 then _ else _) = _ from if_pos horphan]
        exact hret
      · rw [if_neg horphan] at hret
        rw [show (if getField bc.value 1 1 = 1 then _ else _) = _ from if_neg horphan]
        exact hret
  · intro hit
    exact ⟨fun x hx hone => probe_finds hop hlive hcode hx hone, probe_misses hop hlive hcode⟩
  · intro a b f ends
    refine ⟨fun hreach => ?_, fun hreach hpoison => ?_, fun hreach hpoison hfield => ?_,
      fun hreach hpoison hgood hgiven hfailed htile => matmul_begins h hreach hpoison hgood hgiven hfailed htile⟩
    · obtain ⟨t, hexec, hop, hothers, hmem⟩ := matmul_unreached (tile := tile) (core := core) (errs := errs) h hreach
      exact ⟨t, hexec, hop, hothers, hmem⟩
    · obtain ⟨t, hexec, hop, hothers, hmem⟩ := matmul_poisoned (tile := tile) (core := core) (errs := errs) h hreach hpoison
      exact ⟨t, hexec, hop, hothers, hmem⟩
    · obtain ⟨t, hexec, hop, hothers, hmem⟩ := matmul_malformed (tile := tile) (core := core) (errs := errs) h hreach hpoison (matmulBad_of_field hfield)
      exact ⟨t, hexec, hop, hothers, hmem⟩
  · intro b f m n k fa fb fd p row inTile hblock hspace hscaleA hscaleB hinit hmode hrows htile hcore hup hpart hpx hstopped hinject hpersist hundone
      hgiven hfailed hstores hwork hreadA hreadB hfirst hlast hstride sum bits
    have hready : TileReady s slot tile core o :=
      ⟨hop, hlive, hstarted, hcode, hblock, hspace, hscaleA, hscaleB, hinit, hmode, hrows, htile, hcore, hup, hpart, hpx, hstopped, hinject, hpersist,
        hundone, hgiven, hfailed, hstores, hwork, hreadA, hreadB, hfirst, hlast, hstride⟩
    obtain ⟨t, x, hexec, hx, hprogress, hothers, hmore, hall, hbytes, houtside⟩ := matmul_tile hready
    refine ⟨t, x, hexec, hx, hprogress, hothers, hmore, hall, fun r hr => (hbytes r hr).trans ?_, houtside⟩
    exact congrArg (packElems fd) (List.map_congr_left (fun c _ => tileOut_eq b hr.1 c))

end Sys2Proof.Machine
